-- ==== Sys2Proof/Word.lean ====
section
/-! DEFINITION. The word types of the block: register words, bytes, and the 10-bit video words of a picture. -/

namespace Sys2Proof

/-- A 32-bit register word (R33). -/
abbrev Word := BitVec 32

/-- A byte of memory, of a packet or of a message. -/
abbrev Byte := BitVec 8

/-- A 10-bit essence word, held in 16 bits. -/
abbrev Pix := BitVec 16

end Sys2Proof
end

