-- ==== Sys2Proof/Syntax.lean ====
section
/-! DEFINITION. The commands of the block: one constructor of `Instr` for each row of spec/opcode_table.json, with the
data that reaches the chip with the command or event, and the types of that data. -/

namespace Sys2Proof

/-- What goes wrong while the collector enters a record (R499): an uncorrectable error reading FLT.SRC, one writing
the history, and the reaction steps that are not acknowledged. -/
structure EntryErrors where
  srcRead : Bool
  histWrite : Bool
  noAckHandover : Bool
  noAckSafe : Bool
  noAckStop : Bool
  deriving DecidableEq, Repr

/-- A PTP clock data set as an Announce carries it, compared by the BMCA (R398, IEEE 1588-2019). -/
structure PtpDataset where
  priority1 : Nat
  clockClass : Nat
  accuracy : Nat
  variance : Nat
  priority2 : Nat
  identity : Nat
  stepsRemoved : Nat
  deriving DecidableEq, Repr

/-- The settings the image gives network time (R398, R399). -/
structure PtpCfg where
  ports : List Nat
  leader : Bool
  hybrid : Bool
  domain : Nat
  logSync : Int
  logAnnounce : Int
  logDelayReq : Int
  receiptTimeout : Nat
  priority1 : Nat
  priority2 : Nat
  identity : Nat
  stepLimitNs : Nat
  slewMaxPpb : Nat
  alarmNs : Nat
  deriving DecidableEq, Repr

/-- The defaults of R398 and R399; the identity and the alarm level have no default in the spec. -/
def PtpCfg.default : PtpCfg :=
  { ports := [], leader := false, hybrid := false, domain := 127, logSync := -3, logAnnounce := -2, logDelayReq := -3,
    receiptTimeout := 3, priority1 := 128, priority2 := 128, identity := 0, stepLimitNs := 100000, slewMaxPpb := 100,
    alarmNs := 0 }

/-- A PTP message the firmware takes from ring 0 of an E-port (R398). -/
inductive PtpBody where
  | announce (ds : PtpDataset) (utc : Int) (leap : Nat)
  /-- With the ST 2059-2 metadata it carries, none where empty. -/
  | syncOneStep (t1 : Nat) (smd : List Word)
  | syncTwoStep
  | followUp (t1 : Nat) (smd : List Word)
  | delayReq (requester : Nat)
  | delayResp (requester : Nat) (t4 : Nat)
  /-- Management, signalling and other messages, which are discarded. -/
  | other
  deriving DecidableEq, Repr

/-- The header fields the firmware judges, the identity of the sending port, whether the message is unicast (hybrid mode), the
correction field, and the body. -/
structure PtpMsg where
  domain : Nat
  seq : Nat
  source : Nat
  unicast : Bool
  correction : Int
  body : PtpBody
  deriving DecidableEq, Repr

/-- The messages the firmware sends (R398). -/
inductive PtpKind where
  | sync | followUp | announce | delayReq | delayResp
  deriving DecidableEq, Repr

/-- A client of the external DRAM (R430). -/
inductive DramClient where
  | frameSync (u k : Nat)
  | hold (e : Nat)
  | mica (m : Nat)
  | decimator (d : Nat)
  | scan
  | audio (flow : Nat)
  | requester (m : Nat)
  | scrub
  deriving DecidableEq, Repr

/-- What one DRAM channel's training came to (R441): attempts, failing step (0: none) and the last attempt's ms. -/
structure TrainResult where
  chan : Nat
  attempts : Nat
  step : Nat
  ms : Nat
  deriving DecidableEq, Repr

/-- The provenance token of a frame (R152). -/
structure Token where
  sys : Nat
  idx : Nat
  count : Nat
  digest : Nat
  deriving DecidableEq, Repr

/-- An ANC packet: its line and data stream (bit 0 is the SDI stream on level B-DS), DID, SDID, user data words, whether its checksum is
right (R196), and whether it stands between SAV and EAV, in the vertical blanking of its line, and not in the horizontal blanking. -/
structure AncPkt where
  line : Nat
  stream : Nat
  did : Nat
  sdid : Nat
  udw : List Nat
  csOk : Bool
  vanc : Bool
  deriving DecidableEq, Repr

/-- An essence frame as its cells carry it: the format word named in the first cell, the token (none: no token
there), the token state (0 VALID, 1 NOSRC, 2 BROKEN, 3 STILL), the poison mark (R65), the active picture in the
canonical order of R153 as left-justified 16-bit words, and the ANC packets of its blanking. -/
structure Frame where
  fmt : Nat
  token : Option Token
  tstate : Nat
  poisoned : Bool
  picture : List Pix
  anc : List AncPkt
  deriving DecidableEq, Repr

/-- A TSI sample (R247): the audio word, and the V, U, C bits and block-start marker in bits 0 to 3. -/
structure Sample where
  word : Int
  vuc : Nat
  deriving DecidableEq, Repr

/-- A block of an output voice as its check meets it (R171): the output voice, the tag's index, counter and CRC, and
the samples of the output block. -/
structure VoiceBlock where
  out : Nat
  idx : Nat
  ctr : Nat
  crc : Nat
  samples : List Sample
  deriving DecidableEq, Repr

/-- One received SDI line (R187, R191): the XYZ words of its EAV and SAV where they stand, the word spacing from the
last TRS, errors of its CRCs and line numbers, a skew beyond one line between links (R182), and how many active rows of
the frame have been received. -/
structure SdiLine where
  eav : Option Nat
  sav : Option Nat
  spacing : Nat
  crcErr : Bool
  lineNoErr : Bool
  skewed : Bool
  rows : Nat
  deriving DecidableEq, Repr

/-- A payload ID (R194): its bytes, the format word it names, and the link number of byte 4. -/
structure SdiPid where
  bytes : Nat
  fmt : Nat
  link : Nat
  deriving DecidableEq, Repr

/-- The payload IDs of a frame (R194): that of the link, and that of the second stream of a level B-DS link. -/
structure FramePids where
  first : Option SdiPid
  second : Option SdiPid
  deriving DecidableEq, Repr

/-- One embedded audio packet (R202–R204): its SDI stream (1 only on level B-DS), its group, what its control packet says of rate and synchrony (none: no
control packet), the outcome of error correction (0 sound or corrected, 2 uncorrectable), a whole-sample drift
(0 none, 1 drop, 2 repeat), and the samples of its four voices. -/
structure AudioPkt where
  stream : Nat
  group : Nat
  control : Option (Nat × Bool)
  ecc : Nat
  drift : Nat
  samples : List Sample
  deriving DecidableEq, Repr

/-- The first cell of a frame on an F-lane: its hop tag (R155), and the frame it begins. -/
structure HopFrame where
  hop : Nat
  frame : Frame
  deriving DecidableEq, Repr

/-- A fabric cell as the de-celler takes it (R339): its 16 header bytes, its type (0, 1: slot half; 2 service;
3 filler), its sequence number, the first cell of a frame where it is one, and the cells lost to an overflow of the
elastic queue just before it (R344). -/
structure FabricCell where
  header : List Byte
  kind : Nat
  seq : Nat
  first : Option HopFrame
  lost : Nat
  deriving DecidableEq, Repr

/-- A service cell (R341): the sender's peer tag, its remote status, its carried claim (R450), and the L record it
carries with the outcome of its MAC (R405, R449). -/
structure ServiceCell where
  sys : Nat
  lane : Nat
  rxst : Nat
  down : Bool
  claim : Nat
  l : Option (Nat × Bool)
  /-- Service-stream data of the management firmware, whose content the spec leaves open. -/
  data : Nat
  deriving DecidableEq, Repr

/-- A take accepted for an output (R121): its source handle (0: NOSRC), acceptance time, peer, schedule ID or local
salvo, and the flags of R126. -/
structure TakeRec where
  src : Nat
  accepted : Nat
  peer : Nat
  ref : Nat
  flags : Nat
  deriving DecidableEq, Repr

/-- A scheduled take (R133): its output's channel index, its instant, and whether a step carried TIME past it. -/
structure SchedTake where
  out : Nat
  instant : Nat
  stepped : Bool
  latched : Bool
  take : TakeRec
  deriving DecidableEq, Repr

/-- One take of a salvo: output and source handles (0: NOSRC), whether it was latched, and whether the commit missed
its latch point (R144). -/
structure SalvoTake where
  out : Nat
  src : Nat
  epoch : Nat
  latched : Bool
  late : Bool
  done : Bool
  /-- The take carries NOSRC (R120, R128). -/
  nosrc : Bool
  deriving DecidableEq, Repr

/-- A salvo (R139): global ID, when opened, the peer, its takes; when armed its instant and the acceptance time of
the arm; when committed its effective instant and acceptance time. -/
structure Salvo where
  gid : Nat
  opened : Nat
  peer : Nat
  takes : List SalvoTake
  armed : Option (Nat × Nat)
  committed : Option (Nat × Nat)
  stepped : Bool
  deriving DecidableEq, Repr

/-- An alarm record of a flint bank (R311). -/
structure FlintAlarm where
  layer : Bool
  ref : Nat
  col : Nat
  row : Nat
  tile : Nat
  deriving DecidableEq, Repr

/-- A flint bank (R310): palette entries 1 to 3, the tile map of 240 × 135 cells, the tiles as 256 two-bit values each,
and the alarm records. -/
structure FlintBank where
  palette : List (List Nat)
  map : List Nat
  tiles : List (List Nat)
  alarms : List FlintAlarm
  deriving DecidableEq, Repr

/-- A class O command in the form its mailbox takes (R458): 0 the take mailbox, 1 the request mailbox of CHN, 2 the map
mailbox, 3 the layer mailbox of an engine, 4 a commit of an engine, 5 a reflatten, 6 a flint load, 7 a role exchange, 8 a load of a converter's table,
9 a swap of a converter; the
engine, the OP, the argument words and the peer. -/
structure MirrorCmd where
  box : Nat
  engine : Nat
  op : Nat
  args : List Nat
  peer : Nat
  deriving DecidableEq, Repr

/-- A mirror record (R458). -/
structure MirrorRec where
  seq : Nat
  cmd : MirrorCmd
  time : Nat
  code : Nat
  handle : Nat
  session : Nat
  txid : Nat
  deriving DecidableEq, Repr

/-- A channel-table entry of a live channel as a cycle copy carries it (R460): the arguments and the descriptor of its creation, and
whether the image created it. -/
structure ChanCopy where
  args : List Nat
  desc : List Nat
  image : Bool
  deriving DecidableEq, Repr

/-- A record of a cycle copy (R460, R462): a register word, an output's pending take, an entry of the scheduled takes, a
salvo, background and tables of an engine's next or active set, its active flint bank, an entry of the channel table, build-out and
average of the lodestone, and of a channel the token counter of its source or the sequence number of its send flow. -/
inductive CopyItem where
  | word (addr : Nat) (w : Nat)
  | pend (out : Nat) (t : Option TakeRec)
  | sched (k : Nat) (t : Option SchedTake)
  | salvo (v : Nat) (x : Option Salvo)
  | tables (engine : Nat) (active : Bool) (bg : Nat) (lut : List (Nat × Nat))
  | flint (engine : Nat) (bank : Option FlintBank)
  | chan (i : Nat) (handle : Nat) (c : Option ChanCopy)
  | hold (buildout : Int) (avg : List (Int × Int))
  | count (i : Nat) (c : Option Nat)
  | seqStart (i : Nat) (n : Nat)
  deriving DecidableEq, Repr

/-- A take of a latch record (R459): the output's channel-table index and the take. -/
structure LatchItem where
  out : Nat
  take : TakeRec
  deriving DecidableEq, Repr

/-- The signature of an output over a cycle, and whether it failed (R463). -/
structure SigItem where
  e : Nat
  crc : Nat
  failed : Bool
  deriving DecidableEq, Repr

/-- What the PMBus master reads from a supply unit (R468). -/
structure PmbusWords where
  vin : Nat
  iin : Nat
  vout : Nat
  iout : Nat
  temp : Nat
  status : Nat
  deriving DecidableEq, Repr

/-- A record of the twin link (R449, R458–R463). -/
inductive TwinMsg where
  | linkUp (nonce pub : Nat)
  | mirror (r : MirrorRec)
  | mirrorAck (seq : Nat)
  | latch (items : List LatchItem)
  | copy (cycle mirSeq : Nat) (full : Bool) (items : List CopyItem)
  | copyAck (cycle : Nat)
  | signatures (cycle : Nat) (sigs : List SigItem)
  deriving DecidableEq, Repr

/-- A druse-bus frame as a pair receives it (R473, R478): its header fields and heartbeat, its payload, what its checks
gave, the offset of its start from its slot's edge in ns, and whether it ended before the next edge. -/
structure GbusFrame where
  ver : Nat
  slot : Nat
  sys : Nat
  cycle : Nat
  claim : Nat
  devid : Nat
  terr : Nat
  payload : List Byte
  headerOk : Bool
  payloadOk : Bool
  start : Int
  crossed : Bool
  deriving DecidableEq, Repr

/-! ### The boot flash (chapters 22 and 23) -/

/-- A boot header (R532, R566): its regions as (offset, size) in the order of R532's table, and the three programmable
words. -/
structure BootHdr where
  seq : Nat
  parts : List (Nat × Nat)
  fwSlot : Nat
  cfgPref : Nat
  mode : Nat
  trial : Bool
  trialWin : Nat
  trialMax : Nat
  valid : Word
  confirm : Word
  attempts : Word
  deriving DecidableEq, Repr

/-- A sector that begins with a header or a record: all ones, a header that does not check, or one that does. -/
inductive Sector (α : Type) where
  | blank
  | bad
  | good (x : α)
  deriving DecidableEq, Repr

/-- A life-cycle record of a journal sector (R556): its VALID word beside its other fields. -/
structure LcRec where
  seq : Nat
  state : Nat
  devid : Nat
  valid : Word
  deriving DecidableEq, Repr

/-- A journal entry (R564) whose CRC is correct: type 1 ERASE_INTENT, 2 ERASE_DONE, 3 REJECT; the reference names an intent,
or a reject mark's image sequence number, and `sector` a reject mark's slot. A reject mark keeps reason, result and record
number (R547). -/
structure JEntry where
  seq : Nat
  type : Nat
  sector : Nat
  count : Nat
  ref : Nat
  reason : Nat
  result : Nat
  record : Nat
  deriving DecidableEq, Repr

/-- A firmware bundle (R571, R573): its release, its SECVER, its mode, whether its signature verifies with the vendor key,
and, in STAGED mode, the versions of its sections, the versions the main firmware accepts of each, and the lowest main
release that each accepts. -/
structure Bundle where
  release : Nat
  secver : Nat
  mode : Nat
  sigOk : Bool
  versions : List Nat
  accepts : List (Nat × Nat)
  mainMin : List Nat
  deriving DecidableEq, Repr

/-- A firmware slot: its first sector, which holds the bundle header, and its bytes by offset; an unlisted byte is 0xFF. -/
structure FwSlot where
  head : Sector Bundle
  bytes : List (Nat × Byte)
  deriving DecidableEq, Repr

/-- A configuration slot: its bytes by offset (an unlisted byte is 0xFF), and the public key under which its signature
block verifies, if any (R536). -/
structure CfgSlot where
  bytes : List (Nat × Byte)
  signer : Option Nat
  deriving DecidableEq, Repr

/-- An owner-state record of the key blob (R561, R562): sequence number, owner keys in slots 0 to 3, KEYCTR and the policy
word. -/
structure OwnerRec where
  seq : Nat
  keys : List (Option Nat)
  ctr : Nat
  policy : Nat
  deriving DecidableEq, Repr

/-- The key blob: its first record, which holds the wrapped identity key (its public key stands for it) and the device
certificate, and the owner-state records in the order written. -/
structure KeyBlob where
  first : Sector (Option Nat)
  cert : List Word
  owners : List OwnerRec
  deriving DecidableEq, Repr

/-- The boot flash by region (R532). -/
structure Flash where
  /-- The device reports an octal DTR mode (R531). -/
  octal : Bool
  hdrA : Sector BootHdr
  hdrB : Sector BootHdr
  blob : KeyBlob
  j0 : Sector LcRec
  j1 : Sector LcRec
  /-- The headers of journal sectors J2 and J3, and the journal's entries. -/
  j2 : Sector Nat
  j3 : Sector Nat
  journal : List JEntry
  /-- The headers of the eight settings sectors; MINSV of the newest valid settings record of each half (R572). -/
  settings : List (Sector Nat)
  minsv : Nat × Nat
  fwA : FwSlot
  fwB : FwSlot
  cfgA : CfgSlot
  cfgB : CfgSlot
  deriving DecidableEq, Repr

/-- What a start meets besides the flash: the self-test that fails (R487), a configuration slot whose second read
differs from the first or fails (R537), and the flash offset at which a read or a program fails during the repair (R565). -/
structure StartEnv where
  selftest : Option Nat
  readErr : Option Nat
  repairErr : Option Nat
  deriving DecidableEq, Repr

/-- What VERIFY reads of the staged items (R568): the bundle's header, and the key under which the image's signature
verifies. -/
structure StageRead where
  bundle : Option Bundle
  signer : Option Nat
  deriving DecidableEq, Repr

/-! ### The Jaltar Route Protocol (chapter 24) -/

/-- A JRP datagram as it arrives (R576, R578): port, source address and UDP port, and the UDP port it is sent to; whether it is an IPv4 fragment; whether
MAGIC, VERSION, TYPE and LENGTH are consistent with it, and its MAC is correct; and the header's fields. -/
structure JrpHdr where
  port : Nat
  src : Nat
  sport : Nat
  dport : Nat
  fragment : Bool
  formOk : Bool
  macOk : Bool
  session : Nat
  txid : Nat
  epoch : Nat
  target : Nat
  deriving DecidableEq, Repr

/-- What a subscription names (R594): event sources with a lowest severity, output channel indices, or tallies. -/
inductive JrpSub where
  | events (first last sev : Nat)
  | routes (first last : Nat)
  | tallies
  deriving DecidableEq, Repr

/-- An instruction of the test port (R614): BYPASS, the boundary scan's, and core debug. -/
inductive TapInstr where
  | bypass
  | sample
  | extest
  | intest
  | debug
  deriving DecidableEq, Repr

/-- What the card does while RST_N is low: what it writes to the boot flash, if it does (R567), and the instruction that the test port
holds as RST_N rises (R614). -/
structure CardInput where
  flash : Option Flash
  tap : TapInstr
  deriving DecidableEq, Repr

/-- The identity of a partner's link-up record (R449): its DEVID, its nonce, and its ephemeral public key. -/
structure LinkUpId where
  devid : Nat
  nonce : Nat
  pub : Nat
  deriving DecidableEq, Repr

/-- What SALVO_ADD adds (R591): pairs of output and source, or, where it names a druse (R593), positions of its output and input
range. -/
structure SalvoAdds where
  druse : Option Nat
  takes : List (Nat × Nat)
  deriving DecidableEq, Repr

/-- What JRP_APPEND asks (R591): the arguments of APPEND; with a claimant it is the claim of another chip's seed on a druse of this
chip (R111): the system number and the handle of the druse that is to be the parent. -/
structure AppendReq where
  args : List Nat
  claimant : Option (Nat × Nat)
  deriving DecidableEq, Repr

/-- What a member chip answers beside its code (R593): its system number, schedule ID, take epoch and switch instant, and, where the
seed's session to it was opened for this, the system number and device identity that its OPEN_REPLY announced (R115). -/
structure MemberFields where
  sys : Nat
  fields : List Nat
  opened : Option (Nat × Nat)
  deriving DecidableEq, Repr

/-- The commands and events of the chip, in the order of the table. Each docstring cites the rule of its row. -/
inductive Instr where
  /-- REGISTER_WRITE (R40): A write to a register that has no row of its own; each field is judged by its own access code. `m` is the bus-matrix master of R510, `size` the width of the access in bytes. -/
  | registerWrite (m : Nat) (addr : Nat) (size : Nat) (data : Word)
  /-- DOMAIN_WRITE_EFFECT (R22): A write to a register of another clock domain takes effect there within 160 ns and WPEND clears. `blk` is the base address of the block page. -/
  | domainWriteEffect (blk : Nat)
  /-- UNLOCK (R50): A write to MGT.UNLOCK arms the unlock for its master when bits [15:0] carry 0xC3A5, and disarms it otherwise. -/
  | unlock (m : Nat) (data : Word)
  /-- UNLOCK_TIMEOUT (R51): The unlock disarms after 1 ms without a write from the master that armed it. -/
  | unlockTimeout (m : Nat)
  /-- BLOCK_SOFT_RESET (R620): A write of 1 to CTRL.SRST while EN = 0 returns the block's fields to reset values, except the kept items. `data` is the word written to CTRL. -/
  | blockSoftReset (m : Nat) (blk : Nat) (data : Word)
  /-- BLOCK_ENABLE (R45): Setting a block's EN applies pending RWD values and starts the block. `data` is the word written to CTRL. -/
  | blockEnable (m : Nat) (blk : Nat) (data : Word)
  /-- BLOCK_DISABLE (R46): Clearing a block's EN makes it finish its current unit and stop. `data` is the word written to CTRL. -/
  | blockDisable (m : Nat) (blk : Nat) (data : Word)
  /-- BLOCK_STOP_DONE (R46): A disabled block finishes its unit and STAT.RUN reads 0. -/
  | blockStopDone (blk : Nat)
  /-- POWER_ON_RESET (R60): RST_N release, or a low pulse of 1 ms or more, returns every register to reset and starts the chip. `card` is what the card did while RST_N was low. -/
  | powerOnReset (card : CardInput) (env : StartEnv)
  /-- WARM_RESTART (R60): A restart for watchdog, lockstep, update or configuration change resets all but the kept registers. `cause` is the code of MGT.RSTCAUSE. -/
  | warmRestart (cause : Nat) (env : StartEnv)
  /-- START_PLL_WAIT_EXPIRE (R533): Step 4 stops waiting for a PLL after 10 ms and start-up continues. -/
  | startPllWaitExpire
  /-- LOCKWAIT_EXPIRE (R534): LOCKWAIT passes without lodestone lock; LOCK_TIMEOUT is raised and step 9 runs. -/
  | lockwaitExpire
  /-- FRAME_START (R71): A frame start reaches the slot former; it is time-stamped, its offset judged and the alignment state updated. `e` is the ingress entry, `fmt` the format word its cells name. -/
  | frameStart (e : Nat) (fmt : Nat) (picture : List Pix) (anc : List AncPkt)
  /-- NO_FRAME_TIMEOUT (R71): No frame start for 2 frame periods sends the ingress entry to NOSIG. -/
  | noFrameTimeout (e : Nat)
  /-- INGRESS_CELL_WRITE (R65): The slot former writes a cell into its ingress entry. -/
  | ingressCellWrite (e : Nat)
  /-- EGRESS_READ_POINT (R70): An egress reader reaches its read point and reads the source frame timed or untimed. `flips` gives the flipped bits of each word struck; `slips` how many cells were dropped or repeated to hold the lag. -/
  | egressReadPoint (e : Nat) (flips : List Nat) (slips : Nat)
  /-- PLANE_FRAME_INSTANT (R416): A timing plane reaches a frame instant; plane steps, egress moves and generator frames take effect. -/
  | planeFrameInstant (p : Nat)
  /-- FS_DRAM_LATE (R78): DRAM misses a line of the returned frame; the frame is poisoned. -/
  | fsDramLate (u : Nat) (k : Nat)
  /-- COMPACT (R88): The last stream move of a compaction completes and the waiting channel is placed. -/
  | compact
  /-- CREATE (R101): CHN request OP 1 checks and admits a new channel and reserves its resources. Its arguments stand in CHN.REQARG. -/
  | create (m : Nat)
  /-- DESTROY (R103): CHN request OP 2 destroys a channel, raising its generation and cancelling takes that name it. Its arguments stand in CHN.REQARG. -/
  | destroy (m : Nat)
  /-- APPEND (R109): CHN request OP 3 appends a member to a druse. Its arguments stand in CHN.REQARG. -/
  | append (m : Nat)
  /-- RESOLVE (R108): CHN request OP 4 resolves a druse position to a system number and handle. Its arguments stand in CHN.REQARG. -/
  | resolve (m : Nat)
  /-- CHN_LOWMARK_WRITE (R116): A write of CHN.LOWMARK that may enter the low condition. -/
  | chnLowmarkWrite (m : Nat) (data : Word)
  /-- APPEND_CLAIM_ANSWER (R111): The remote chip answers the seed's claim of a remote druse member. `code` is the answer of the remote chip, `handle` that of its druse, `size` the inputs and outputs of the member. -/
  | appendClaimAnswer (code : Nat) (handle : Nat) (size : Nat × Nat)
  /-- APPEND_CLAIM_TIMEOUT (R111): A remote claim has no answer within 50 ms and is refused TIMEOUT. -/
  | appendClaimTimeout
  /-- ENTRY_RELEASE (R104): A destroyed channel's entry returns to the free pools once the last reader and frame have passed. `i` is the channel-table index. -/
  | entryRelease (i : Nat)
  /-- TAKE (R120): Take-mailbox OP 1 judges and accepts a take into the pending slot or the scheduled table. Its arguments stand in FAB.TAKEARG. -/
  | take (m : Nat) (peer : Nat)
  /-- CANCEL (R135): Take-mailbox OP 2 removes a scheduled take not yet latched. Its arguments stand in FAB.TAKEARG. -/
  | cancel (m : Nat) (peer : Nat)
  /-- LOCK (R131): Take-mailbox OP 3 locks an output against all takes. Its arguments stand in FAB.TAKEARG. -/
  | lock (m : Nat) (peer : Nat)
  /-- UNLOCK_OUTPUT (R131): Take-mailbox OP 4 removes a lock, by its owner only. Its arguments stand in FAB.TAKEARG. -/
  | unlockOutput (m : Nat) (peer : Nat)
  /-- PROTECT (R131): Take-mailbox OP 5 protects an output against other peers. Its arguments stand in FAB.TAKEARG. -/
  | protect (m : Nat) (peer : Nat)
  /-- UNPROTECT (R131): Take-mailbox OP 6 removes a protect, by its owner only. Its arguments stand in FAB.TAKEARG. -/
  | unprotect (m : Nat) (peer : Nat)
  /-- OPEN (R139): Take-mailbox OP 7 opens a salvo under a global ID. Its arguments stand in FAB.TAKEARG. -/
  | openGid (m : Nat) (peer : Nat)
  /-- ADD (R139): Take-mailbox OP 8 adds a take to an open salvo. Its arguments stand in FAB.TAKEARG. -/
  | add (m : Nat) (peer : Nat)
  /-- ARM (R140): Take-mailbox OP 9 judges a whole salvo and arms or discards it. Its arguments stand in FAB.TAKEARG. -/
  | arm (m : Nat) (peer : Nat)
  /-- COMMIT (R141): Take-mailbox OP 10 commits an armed salvo. Its arguments stand in FAB.TAKEARG. -/
  | commit (m : Nat) (peer : Nat)
  /-- ABORT (R142): Take-mailbox OP 11 discards an armed or opened salvo. Its arguments stand in FAB.TAKEARG. -/
  | abort (m : Nat) (peer : Nat)
  /-- SALVO_OPEN_EXPIRE (R139): A salvo not armed within 1 s of its OPEN is discarded as EXPIRED. -/
  | salvoOpenExpire (v : Nat)
  /-- SALVO_EXPIRED (R142): An armed salvo not committed or aborted by its instant plus 1 s is discarded. -/
  | salvoExpired (v : Nat)
  /-- LATCH_POINT (R123): At an output's latch point the pending or due take moves to the latched slot. `out` is the channel-table index of the output. -/
  | latchPoint (out : Nat)
  /-- SWITCH_INSTANT (R126): At an output's switch instant the latched source becomes current and a completion record is queued. -/
  | switchInstant (out : Nat)
  /-- TCQPOP (R150): A write of FAB.TCQPOP removes the head completion record. -/
  | tcqpop (m : Nat) (data : Word)
  /-- OUTPUT_FRAME_SEND (R207): An output sends a frame at its fixed latency after the frame instant, with content or idle content. `taken` is how many words of each line's horizontal blanking the embedded audio packets take; `off` says that the frame start is more than a line period off; `holdBad` that the held frame reads with a wrong digest. -/
  | outputFrameSend (e : Nat) (taken : Nat) (off : Bool) (holdBad : Bool)
  /-- EGRESS_CHECK (R160): The checker judges the source and counter of an egress frame at its first cell. -/
  | egressCheck (e : Nat)
  /-- DIGEST_VERDICT (R162): After the last active line the checker compares the digest and fails or passes the frame. `got` is the digest computed where it differs from that of the samples read. -/
  | digestVerdict (e : Nat) (got : Option Nat)
  /-- SAFE_CONTENT_SWITCH (R169): The first frame at least 100 µs after a verdict leaves with safe-state or restored content. -/
  | safeContentSwitch (e : Nat)
  /-- OUTCLR (R169): A write of PROV.OUTCLR starts recovery of a latched failed output. -/
  | outclr (m : Nat) (data : Word)
  /-- CHKINV_WRITE (R175): A write of PROV.CHKINV arms, replaces or disarms a check-bit inversion. -/
  | chkinvWrite (m : Nat) (data : Word)
  /-- CHKINV_DONE (R175): The next write to the named memory stores inverted check bits. -/
  | chkinvDone (addr : Nat)
  /-- TOKINJ_WRITE (R176): A write of PROV.TOKINJ arms or disarms a token corruption on an ingress entry. -/
  | tokinjWrite (m : Nat) (data : Word)
  /-- SCRUB_READ (R174): The background scrub reads and corrects an SRAM word. `unit` is the entry, flow, engine or voice the word belongs to; `part` 1 is the active flint bank of mica layer memory. -/
  | scrubRead (mem : Nat) (addr : Nat) (flips : Nat) (unit : Nat) (part : Nat)
  /-- RATE_HUNT_DWELL (R186): An S-mode RX half moves to the next rate class after 1 ms without CDR lock. -/
  | rateHuntDwell (n : Nat)
  /-- SDI_LINE (R187): A received SDI line is checked for TRS, CRC and line number and drives the line-structure state. -/
  | sdiLine (n : Nat) (line : SdiLine)
  /-- SDI_FRAME_START (R188): At an SDI frame start the engine completes format measurement and compares the format. `fmt` is the measured format word; `pids` holds the payload IDs. -/
  | sdiFrameStart (n : Nat) (fmt : Nat) (pids : FramePids)
  /-- ANC_PACKET_RX (R196): A received ANC packet is checksummed and copied to matching extraction filters. -/
  | ancPacketRx (n : Nat) (p : AncPkt)
  /-- AUDIO_PACKET_RX (R204): An embedded audio packet is corrected and de-embedded into the TSI. -/
  | audioPacketRx (n : Nat) (p : AudioPkt)
  /-- IPM_FRAME_RELEASE (R224): A video frame is released into its ingress entry at its alignment point plus release lag. `f` is the receive flow; the picture and packets are those its stream engine reassembled, for an ST 2022-6 flow alone. -/
  | ipmFrameRelease (f : Nat) (picture : List Pix) (anc : List AncPkt)
  /-- LEG_DOWN (R227): A leg accepts no packet for two frame periods and goes DOWN. `leg` is 0 for A, 1 for B. -/
  | legDown (f : Nat) (leg : Nat)
  /-- AUDIO_SAMPLE_TICK (R239): A received audio sample enters the TSI at its word-clock tick plus horizon. `flips` bits of the word of packet memory that holds it read flipped (R174). -/
  | audioSampleTick (f : Nat) (flips : Nat)
  /-- IPM_PACKET_SEND (R235): The packetiser sends a paced media packet on one or two legs. -/
  | ipmPacketSend (f : Nat)
  /-- AUDIO_FLOW_SEND (R240): An audio send flow sends one packet per packet time. -/
  | audioFlowSend (f : Nat)
  /-- IGMP_REPORT_TIMER (R219): Firmware sends the repeated IGMP report or leave 1 s after the first. -/
  | igmpReportTimer (p : Nat) (group : Nat)
  /-- IGMP_QUERY_RX (R219): Firmware answers an IGMP query and enters IGMPv2 compatibility on a v2 query. `group` is 0 in a general query; `maxResp` is the maximum response time in ns. -/
  | igmpQueryRx (p : Nat) (version : Nat) (group : Nat) (maxResp : Nat)
  /-- IGMP_COMPAT_TIMEOUT (R219): The older-querier timeout ends IGMPv2 compatibility. -/
  | igmpCompatTimeout (p : Nat)
  /-- JOIN_TIMEOUT (R219): A leg with no packet 2 s after its report raises JOIN_TIMEOUT and repeats reports every 10 s. -/
  | joinTimeout (f : Nat) (leg : Nat)
  /-- POLDROP_ACCUMULATE (R232): Firmware reads every flow's POLDROP once per second into a 64-bit count. -/
  | poldropAccumulate
  /-- SOURCE (R256): Map-mailbox OP 1 makes an output voice FIXED on an input. Its arguments stand in AUD.MAPARG. -/
  | source (m : Nat)
  /-- COUPLE (R256): Map-mailbox OP 2 makes an output voice COUPLED at a position. Its arguments stand in AUD.MAPARG. -/
  | couple (m : Nat)
  /-- GAIN (R258): Map-mailbox OP 3 sets a target gain and starts a ramp. Its arguments stand in AUD.MAPARG. -/
  | gain (m : Nat)
  /-- MUTE (R258): Map-mailbox OP 4 mutes or unmutes a voice with a ramp. Its arguments stand in AUD.MAPARG. -/
  | mute (m : Nat)
  /-- XFMODE (R256): Map-mailbox OP 5 selects cuts or fades for a voice. Its arguments stand in AUD.MAPARG. -/
  | xfmode (m : Nat)
  /-- AUDIO_BLOCK_BOUNDARY (R257): At a 64-sample block boundary voice changes take effect and voice tags are checked. -/
  | audioBlockBoundary (blocks : List VoiceBlock)
  /-- APRT_FRAME (R262): A TDM frame between FS edges is transferred, checked for framing and time-stamped every 64th. `bclks` bit clocks passed since the last FS edge, at `hz` Hz; `slots` are the words received. -/
  | aprtFrame (n : Nat) (bclks : Nat) (hz : Nat) (slots : List Nat)
  /-- ASRC_RELOCK_DONE (R268): The ASRC re-locks and fades back in. -/
  | asrcRelockDone (n : Nat)
  /-- CLKLOST (R266): No FS edge for 4 frame periods sends a slave port to CLKLOST. -/
  | clklost (n : Nat)
  /-- SWAP (R285): A write of CNV.SWAP.GO requests a bank swap and sets SWAPPEND. -/
  | swap (m : Nat) (n : Nat) (data : Word)
  /-- SWAP_DONE (R285): The banks exchange at the first input frame 10 µs or more after the request. -/
  | swapDone (n : Nat)
  /-- CNV_LUTDATA_ACCESS (R285): A LUTDATA read or write reaches the inactive bank and increments LUTADDR. -/
  | cnvLutdataAccess (m : Nat) (n : Nat) (write : Bool) (data : Word)
  /-- CNV_FRAME (R283): A converter verifies an input frame and writes its result frame with a derived token. `words` are the table words, by number in converter table memory, that read with flipped bits, and how many. -/
  | cnvFrame (n : Nat) (words : List (Nat × Nat))
  /-- BIND (R304): Layer-mailbox OP 1 binds a layer to a source through a new decimator. Its arguments stand in MICA[g].LAYARG. -/
  | bind (m : Nat) (g : Nat)
  /-- REBIND (R306): Layer-mailbox OP 2 re-points a bound layer's decimator at a new source. Its arguments stand in MICA[g].LAYARG. -/
  | rebind (m : Nat) (g : Nat)
  /-- UNBIND (R306): Layer-mailbox OP 3 empties a layer and returns its decimator. Its arguments stand in MICA[g].LAYARG. -/
  | unbind (m : Nat) (g : Nat)
  /-- MICA_COMMIT (R299): A write of MICA.COMMIT judges the next set and snapshots it as pending, or refuses it. -/
  | micaCommit (m : Nat) (g : Nat) (data : Word)
  /-- REFLATTEN (R308): A write of MICA.REFLATTEN requests a flatten of the slate. -/
  | reflatten (m : Nat) (g : Nat) (data : Word)
  /-- FLATTEN_DONE (R308): A flatten ends and the new slate awaits activation. `us` is how long it took, in µs. -/
  | flattenDone (g : Nat) (us : Nat)
  /-- SELECTION_POINT (R296): At 100 µs before the frame instant a mica engine latches layers, slate, flint bank and alarms. -/
  | selectionPoint (g : Nat)
  /-- MICA_LUTDATA_ACCESS (R303): A mica LUTDATA access reaches the next set and increments LUTADDR. -/
  | micaLutdataAccess (m : Nat) (g : Nat) (write : Bool) (data : Word)
  /-- FLINTLOAD_GO (R312): A write of FLINTLOAD.GO copies a flint image into the inactive bank. -/
  | flintloadGo (m : Nat) (g : Nat) (data : Word)
  /-- FLINT_LOAD_DONE (R312): A flint copy ends and is checked, succeeding or raising FLINT_LOADERR. -/
  | flintLoadDone (g : Nat)
  /-- MICA_FRAME_WRITE (R295): A mica engine writes a composed result frame at its plane's frame instant. `late` says that DRAM failed to deliver a line in time. -/
  | micaFrameWrite (g : Nat) (late : Bool)
  /-- FLINT_FAIL (R315): The flint checker's verdict mismatches and later frames carry BROKEN. `got` is the CRC the checker computed. -/
  | flintFail (g : Nat) (got : Nat)
  /-- DECIMATOR_FRAME (R305): A decimator completes a decimated frame after checking source tokens. `late` says that a DRAM write came late. -/
  | decimatorFrame (d : Nat) (late : Bool)
  /-- LAYER_STALE_TIMEOUT (R317): No decimated frame completes within LIVE ms and the layer goes STALE. -/
  | layerStaleTimeout (g : Nat) (l : Nat)
  /-- SCAN_TRAIN_DONE (R324): eDP link training completes, entering ACTIVE or DOWN. `psr` says that the panel reported self-refresh support. -/
  | scanTrainDone (ok : Bool) (psr : Bool)
  /-- EDP_HPD_EDGE (R324): EDP_HPD rises or falls, starting training or taking the link DOWN. -/
  | edpHpdEdge (high : Bool)
  /-- SCAN_TRAIN_RETRY (R324): A DOWN link retries training every 1 s. -/
  | scanTrainRetry
  /-- FLIP (R327): A write of SCAN.FLIP.GO checks the next buffer and sets FLIPPEND. -/
  | flip (m : Nat) (data : Word)
  /-- SCAN_LATCH_POINT (R327): At the end of the last active line a pending flip becomes CUR. -/
  | scanLatchPoint
  /-- SCAN_FRAME_START (R327): A scan-out frame starts reading CUR; a new flip increments FLIPSEQ with a time-stamp. -/
  | scanFrameStart
  /-- UNDERRUN (R326): DRAM does not deliver a line in time and it is sent black. -/
  | underrun
  /-- PSR_ENTRY (R328): After IDLEFR frames without a flip the block enters panel self-refresh. `accepted` says that the panel takes the entry data. -/
  | psrEntry (accepted : Bool)
  /-- PSREXIT (R328): A write of PSREXIT requests exit from PSR and retraining. -/
  | psrexit (m : Nat) (data : Word)
  /-- NATIVE_READ (R329): AUX OP 1 reads the panel's DPCD. `len` is the number of bytes less one. -/
  | nativeRead (m : Nat) (addr : Nat) (len : Nat)
  /-- NATIVE_WRITE (R329): AUX OP 2 writes the panel's DPCD. `len` is the number of bytes less one. -/
  | nativeWrite (m : Nat) (addr : Nat) (len : Nat)
  /-- I2C_READ (R329): AUX OP 3 reads over I²C-over-AUX. `len` is the number of bytes less one. -/
  | i2cRead (m : Nat) (addr : Nat) (len : Nat)
  /-- I2C_WRITE (R329): AUX OP 4 writes over I²C-over-AUX. `len` is the number of bytes less one. -/
  | i2cWrite (m : Nat) (addr : Nat) (len : Nat)
  /-- AUX_REPLY (R329): The panel replies to an AUX request, or DEFER retries are exhausted. `code` is 0 for ACK, 1 for NACK, 2 for DEFER. -/
  | auxReply (code : Nat) (bytes : List Byte)
  /-- AUX_TIMEOUT (R329): No AUX reply within 400 µs. -/
  | auxTimeout
  /-- SIGNAL_DETECT (R337): Signal detect asserts or deasserts on an RX half. `rows` active rows of the frame in progress have been received. -/
  | signalDetect (n : Nat) (on : Bool) (rows : Nat)
  /-- CDR_LOCK (R337): An RX half's CDR locks. `div` says that an S-mode CDR locked at the ÷1.001 rate of its class. -/
  | cdrLock (n : Nat) (div : Bool)
  /-- CDR_LOST (R337): An RX half's CDR loses lock. `rows` active rows of the frame in progress have been received. -/
  | cdrLost (n : Nat) (rows : Nat)
  /-- BLOCK_LOCK (R338): 64 consecutive valid sync headers give block lock. -/
  | blockLock (n : Nat)
  /-- BLOCK_LOST (R338): A 1,024-block window with more than 16 invalid headers loses block lock. `inv` invalid headers stood in the window. -/
  | blockLost (n : Nat) (inv : Nat)
  /-- CELL_RX (R339): A fabric cell is received, its header CRC tested and cell lock updated. -/
  | cellRx (n : Nat) (cell : FabricCell)
  /-- POL_INV (R340): 128 cell times without cell lock invert the hunted polarity. -/
  | polInv (n : Nat)
  /-- SERVICE_CELL_SEND (R341): Every 4 µs an F-mode TX half sends a service cell. -/
  | serviceCellSend (n : Nat)
  /-- SERVICE_CELL_RX (R341): A received service cell updates the peer tag, remote status, claim and L record. -/
  | serviceCellRx (n : Nat) (cell : ServiceCell)
  /-- PLL_RETUNE_DONE (R335): A retuned TX PLL reports lock and the waiting creation completes. `p` is 0 for PLL A, 1 for PLL B. -/
  | pllRetuneDone (q : Nat) (p : Nat)
  /-- PLL_RETUNE_TIMEOUT (R335): A retuning PLL fails to lock within 10 ms and the creation is refused. `p` is 0 for PLL A, 1 for PLL B. -/
  | pllRetuneTimeout (q : Nat) (p : Nat)
  /-- PLLA_LOST (R336): A TX PLL loses lock and its outputs fail as TIMING_LOSS. `p` is 0 for PLL A, 1 for PLL B. -/
  | pllaLost (q : Nat) (p : Nat)
  /-- PLL_RELOCK (R336): A TX PLL relocks without software action. `p` is 0 for PLL A, 1 for PLL B. -/
  | pllRelock (q : Nat) (p : Nat)
  /-- TXEQ_WRITE (R346): A write of LANE.TXEQ is applied between symbols or discarded with TXEQ_IGN. -/
  | txeqWrite (m : Nat) (n : Nat) (data : Word)
  /-- LANE_CFG_WRITE (R354): A write of LANE.CFG is accepted or discarded whole with MODE_REFUSED. -/
  | laneCfgWrite (m : Nat) (n : Nat) (data : Word)
  /-- EQ_LIMIT (R347): Adaptation holds a value at its limit for 100 ms. The values held: CTLE, taps 1 to 4 and tap 5 as RXEQ shows them. -/
  | eqLimit (n : Nat) (ctle : Nat) (dfe14 : Nat) (dfe5 : Nat)
  /-- EYE_MEASURE (R348): Every 1 ms the monitor slicer measures the eye. -/
  | eyeMeasure (n : Nat) (height : Nat) (width : Nat)
  /-- ETH_FRAME_RX (R362): A received Ethernet frame is checked and classified to IPM or a ring. `frame` runs from destination address to FCS; `fecCor` and `fecUnc` are its corrected and uncorrectable FEC codewords; `fifoFull` that the receive FIFO is full behind a ring. -/
  | ethFrameRx (p : Nat) (frame : List Byte) (fecCor : Nat) (fecUnc : Nat) (fifoFull : Bool)
  /-- PAUSE_EXPIRE (R369): A pause time runs out and the held class is released. `cls` is the class, 8 for PAUSE. -/
  | pauseExpire (p : Nat) (cls : Nat)
  /-- PAUSE_WD (R371): A hold reaching PAUSEWD µs is ended and obeyance suspended for 1 s. `cls` is the class, 8 for PAUSE. -/
  | pauseWd (p : Nat) (cls : Nat)
  /-- PAUSE_WD_RELEASE (R371): The 1 s suspension ends and obeyance resumes. -/
  | pauseWdRelease (p : Nat)
  /-- TXKICK (R376): A write of TXKICK makes the MAC scan and send its transmit ring. -/
  | txkick (m : Nat) (p : Nat) (data : Word)
  /-- RING_FRAME_SENT (R376): A ring frame has left or been dropped and its descriptors are returned. -/
  | ringFrameSent (p : Nat)
  /-- LINK_UP (R361): PCS locked with no fault for 128 µs brings the port UP. -/
  | linkUp (p : Nat)
  /-- LINK_DOWN (R361): Loss of PCS lock, a fault sequence or a lane leaving UP takes the port out of UP. -/
  | linkDown (p : Nat)
  /-- SPEED (R379): An SGMII control word reports another speed or half duplex. -/
  | speed (p : Nat)
  /-- STATSNAP (R377): A write of STATSNAP copies the running counters and restarts them. -/
  | statsnap (m : Nat) (p : Nat) (data : Word)
  /-- STATS_SNAP_PERIOD (R378): Firmware snaps every port at least once per millisecond. -/
  | statsSnapPeriod
  /-- INCR_WRITE (R384): A write of INCRHI sets the INCR, or is discarded with INCR_IGN. -/
  | incrWrite (m : Nat) (data : Word)
  /-- STEP_WRITE (R387): A write of STEPHI queues one step of the TIME counter. -/
  | stepWrite (m : Nat) (data : Word)
  /-- STEPPED (R388): A queued step is applied to the counter at a tick. -/
  | stepped
  /-- SERVO_OFFSET (R392): A write of SERVO.OFFHI delivers an offset to the hardware PI loop. -/
  | servoOffset (m : Nat) (data : Word)
  /-- TIME_MODE_WRITE (R393): An unlocked write of TIME.CTRL.MODE changes between NATIVE and SERVO. -/
  | timeModeWrite (m : Nat) (data : Word)
  /-- CAPTURE (R386): A write of CAPCTL.GO latches the counter at the next tick. -/
  | capture (m : Nat) (data : Word)
  /-- TXQ_POP (R397): A write of TXQ POP removes the head transmit time-stamp. -/
  | txqPop (m : Nat) (port : Nat) (data : Word)
  /-- PTP_MESSAGE_RX (R398): Firmware takes a PTP message from ring 0, runs the BMCA and disciplines the counter. `stamp` is the receive time-stamp of its frame. -/
  | ptpMessageRx (port : Nat) (stamp : Nat) (msg : PtpMsg)
  /-- PTP_MESSAGE_SEND (R398): Firmware sends Sync, Announce or Delay_Req at its configured interval. `stamp` is the transmit time-stamp read from the queue of R397, where the message is stamped. -/
  | ptpMessageSend (port : Nat) (kind : PtpKind) (stamp : Nat)
  /-- SYNC_TIMEOUT (R399): No Sync for announceReceiptTimeout intervals; INCR is held. -/
  | syncTimeout
  /-- NETWORK_TIME_LOCKED (R399): The offset stays below 1 µs for 10 s and network time is declared locked. -/
  | networkTimeLocked
  /-- REF_LOST (R406): The selected reference is lost and the loop falls back or enters holdover. -/
  | refLost
  /-- REF_QUAL (R405): A reference stays good for QUALTIME and is qualified. -/
  | refQual (ref : Nat)
  /-- PTPSTAT_WRITE (R405): Firmware sets or clears QUALIFIED for PTP. -/
  | ptpstatWrite (m : Nat) (data : Word)
  /-- REF_REVERT (R407): A higher reference qualified for WTR seconds is selected when REVERT = 1. -/
  | refRevert
  /-- SEL_WRITE (R407): A write to SEL or PRIO re-selects the reference at once. `prio` says which register is written, PRIO or SEL. -/
  | selWrite (m : Nat) (prio : Bool) (data : Word)
  /-- LOOP_PHASE_COMPARE (R409): The loop compares phase and may realign or fall to ACQUIRE. `pulse` says of a pulse of reference `ref` whether it is a line pulse, and how late in ns it comes; the phase of PTP is TIME − L itself (R403). -/
  | loopPhaseCompare (ref : Nat) (pulse : Bool × Int)
  /-- LOOP_STAGE_DWELL (R409): The phase error stays inside a threshold for its dwell and the loop advances stage. -/
  | loopStageDwell
  /-- HOLDOVER_UPDATE (R412): In holdover the DCO offset is recomputed once per second. -/
  | holdoverUpdate
  /-- LOOPSTEP_WRITE (R414): A write of LOOPSTEP adds to the loop offset and remainder. -/
  | loopstepWrite (m : Nat) (data : Word)
  /-- PHSTEP_DONE (R414): The loop step remainder reaches zero. -/
  | phstepDone
  /-- PLANE_STEP (R415): A write of PLANE.STEP moves the plane's frame instants from the next but one. -/
  | planeStep (m : Nat) (p : Nat) (data : Word)
  /-- DRAM_TRAIN_DONE (R441): Every populated channel ends training, or one fails its third attempt. -/
  | dramTrainDone (results : List TrainResult)
  /-- REFRESH_DUE (R434): A refresh falls due and is issued, postponed or made up in a burst. -/
  | refreshDue (c : Nat) (c0queued : Bool)
  /-- MR4_POLL (R433): Every 16 ms the controller reads MR4 and sets tREFI. `band` is the row of the table of R433, `overs` a report above the rated limit. -/
  | mr4Poll (c : Nat) (code : Nat) (band : Nat) (overs : Bool)
  /-- REQUEST_AGE_EXPIRE (R431): A queued DRAM request passes its class age and is promoted or counted late. -/
  | requestAgeExpire (c : Nat) (cls : Nat)
  /-- DRAM_READ (R437): A DRAM read is served and checked under inline ECC. `flips` is how many bits of a 64-bit word with its check bits read flipped. -/
  | dramRead (addr : Nat) (len : Nat) (cls : Nat) (client : DramClient) (flips : Nat)
  /-- SCRUB_LATE (R438): A scrub pass misses its period and the next pass starts. -/
  | scrubLate
  /-- TRACK_INTERVAL (R443): Each tracking interval a channel measures its oscillator and moves delays. `move` is the movement in ps. -/
  | trackInterval (c : Nat) (move : Int)
  /-- DRC_CHKINV_WRITE (R440): A write of DRC.CHKINV arms a DRAM check-bit inversion. -/
  | drcChkinvWrite (m : Nat) (data : Word)
  /-- DRC_CHKINV_APPLY (R440): The next write covering ADDR lands with inverted check bits. -/
  | drcChkinvApply
  /-- DWBANK_WRITE (R37): A write of MGT.DWBANK selects the DRAM bank shown in the window. -/
  | dwbankWrite (m : Nat) (data : Word)
  /-- TWIN_LINK_UP (R449): The twin link comes up and the units exchange signed link-up records. The pair that comes up: the primary 510/511, or the secondary 508/509. -/
  | twinLinkUp (secondary : Bool)
  /-- LINK_UP_RECORD_RX (R449): A partner's link-up record is verified and the link key derived. `ok` says that certificate, signature and identity pass; the record gives the partner's identity and keys, its measurements and its configured claim. -/
  | linkUpRecordRx (ok : Bool) (id : LinkUpId) (measFw : Nat) (measPair : Nat) (claim : Nat)
  /-- TWIN_LINK_DOWN (R451): The twin link leaves UP and the unit's state is re-decided. The pair that leaves UP. -/
  | twinLinkDown (secondary : Bool)
  /-- TWIN_DEADTIME (R451): No link and no heartbeat for DEADTIME takes the unit to ALONE. -/
  | twinDeadtime
  /-- RECOVER (R452): A write of TWIN.RECOVER takes a LOWERED unit to JOIN. -/
  | recover (m : Nat)
  /-- XCHG (R453): A write of TWIN.XCHG on the active requests a role exchange. -/
  | xchg (m : Nat)
  /-- TWIN_CYCLE_BOUNDARY (R460): At a twin-cycle boundary the active sends the cycle copy and signatures. -/
  | twinCycleBoundary
  /-- COPY_RESEND (R460): A cycle copy with no acknowledgement within 1 ms is sent again. -/
  | copyResend
  /-- CYCLE_COPY_RX (R461): The standby applies a cycle copy's records and acknowledges it. `macOk` says that the record's MAC passes. -/
  | cycleCopyRx (macOk : Bool) (cycle : Nat) (mirSeq : Nat) (full : Bool) (items : List CopyItem)
  /-- COPY_ACK_RX (R462): The active receives a cycle acknowledgement, completing a join when due. -/
  | copyAckRx (macOk : Bool) (cycle : Nat)
  /-- MIRROR_RECORD_RX (R458): The standby applies a mirror record in order and acknowledges it. -/
  | mirrorRecordRx (macOk : Bool) (r : MirrorRec)
  /-- MIRROR_ACK_RX (R458): The active receives a mirror acknowledgement and may answer the command. -/
  | mirrorAckRx (macOk : Bool) (seq : Nat)
  /-- MIRROR_RESEND (R458): A mirror record unacknowledged after 50 µs is resent. -/
  | mirrorResend (seq : Nat)
  /-- LATCH_RECORD_RX (R459): The standby latches exactly the takes a latch record lists. -/
  | latchRecordRx (macOk : Bool) (items : List LatchItem)
  /-- SIGNATURE_RX (R464): A partner's output signatures are compared and a claim may be lowered. -/
  | signatureRx (macOk : Bool) (cycle : Nat) (sigs : List SigItem)
  /-- SUPPLY_OK_EDGE (R467): A debounced edge of SUPA_OK or SUPB_OK raises a feed loss or restoration. Feed 0 is A, 1 is B. -/
  | supplyOkEdge (feed : Nat) (good : Bool)
  /-- PMBUS_POLL (R468): Every POLL ms the PMBus master reads each supply unit. What the supply unit answers; none for a NAK, a timeout or a PEC failure. -/
  | pmbusPoll (feed : Nat) (words : Option PmbusWords)
  /-- GBUS_TX_LATCH (R475): 20 µs before the own edge a pending transmit buffer is taken for this cycle. -/
  | gbusTxLatch
  /-- GBUS_OWN_SLOT (R474): At its own slot edge the member sends its frame on every enabled pair. -/
  | gbusOwnSlot
  /-- TXGO (R475): A write of GBUS.TXGO marks the transmit buffer pending. -/
  | txgo (m : Nat)
  /-- GBUS_FRAME_RX (R473): A druse-bus frame is received, judged and entered into MEM and the queue. Pair 0 is GBA, 1 is GBB; `slot` is the slot in which the frame started. -/
  | gbusFrameRx (pair : Nat) (slot : Nat) (frame : GbusFrame)
  /-- GBUS_SLOT_MISS (R479): A member slot ends with no valid frame; HBMISS misses make it LOST. -/
  | gbusSlotMiss (slot : Nat)
  /-- GBUS_PAIR_WINDOW (R483): At the end of a 16-cycle window each pair is judged DOWN or UP. The slots whose members each pair delivered valid frames of in the window, beside those that rows GBUS_FRAME_RX gave. -/
  | gbusPairWindow (gotA : List Nat) (gotB : List Nat)
  /-- TERR_WRITE (R481): A write of GBUS.TERR mutes or unmutes the member. -/
  | terrWrite (m : Nat) (data : Word)
  /-- TERR_TIMEOUT (R481): TERR not written for 1 s mutes the member. -/
  | terrTimeout
  /-- GBUS_POP (R478): A write of GBUS.POP removes the head received frame. -/
  | gbusPop (m : Nat)
  /-- EVENT_RAISE (R489): A block raises an event source, creating or merging its pending record. -/
  | eventRaise (src : Nat) (data : Word)
  /-- RECORD_ENTRY (R492): The collector enters the next pending record, numbers it and runs or suppresses its reaction. `e` says which parts of the entry and of its reaction fail. -/
  | recordEntry (e : EntryErrors)
  /-- REACTION_ACK_TIMEOUT (R499): A reaction step unacknowledged within 10 µs is abandoned and LOSS set. -/
  | reactionAckTimeout
  /-- ACK (R493): A write of FLT.SLOT.ACK frees a busy handling slot. -/
  | ack (m : Nat) (slot : Nat) (data : Word)
  /-- SLOT_HELD (R493): A handling slot busy for HOLDLIM seconds raises SLOT_HELD. -/
  | slotHeld (slot : Nat)
  /-- SAFECLR (R495): A write of FLT.SAFECLR ends an imposed safe state. -/
  | safeclr (m : Nat) (data : Word)
  /-- HISTCLR (R496): A write of FLT.HISTCLR empties the history queue. -/
  | histclr (m : Nat) (data : Word)
  /-- PINTEST (R503): A write of FLT.PINTEST forces the alive pins in MFG or MAINT. -/
  | pintest (m : Nat) (data : Word)
  /-- PIN_READBACK (R504): Every 100 µs FLT samples the pins and flags 3 consecutive mismatches. `a` and `b` are the levels sampled at FLT_A and FLT_B. -/
  | pinReadback (a : Bool) (b : Bool)
  /-- LOCKSTEP (R507): A safety-core mismatch drives the fault levels and starts a warm restart. -/
  | lockstep (env : StartEnv)
  /-- WDSVC (R508): A write of MGT.WDSVC services, expires or is refused by the watchdog. -/
  | wdsvc (m : Nat) (key : Word)
  /-- WDOG (R508): The watchdog expires and the alive signal stops. -/
  | wdog
  /-- WATCHDOG_RESTART (R508): RSTDLY after expiry a warm restart follows. -/
  | watchdogRestart (env : StartEnv)
  /-- LOCKED_READ (R515): A locked read holds its target for the master's following write. -/
  | lockedRead (m : Nat) (addr : Nat)
  /-- BMX_FORCED (R515): A lock held 64 cycles is released by the matrix. -/
  | bmxForced
  /-- REMAP_WRITE (R516): A write of BMX.CTRL.REMAP swaps SRAM and boot ROM for later transactions. -/
  | remapWrite (m : Nat) (data : Word)
  /-- DMA_GO (R517): A write of DMA GO starts a copy of LEN bytes. -/
  | dmaGo (m : Nat) (k : Nat) (data : Word)
  /-- DMA_DONE (R517): A DMA copy completes or stops on an error response. -/
  | dmaDone (k : Nat)
  /-- SENSOR_CONVERSION (R518): A sensor conversion completes and its limits are judged: the converter of the voltage monitors or of the temperatures, whose order chooses the sensor; `value` is the 16-bit result, and `fault` says that the sensor's circuit reports open or short. -/
  | sensorConversion (volt : Bool) (value : Nat) (fault : Bool)
  /-- TRIG (R520): A write of SNS.TRIG requests one conversion or is dropped. -/
  | trig (m : Nat) (data : Word)
  /-- SP_WRITE (R522): A service-port WRITE frame with a good CRC issues a bus-matrix write. `frame` holds the bytes of the frame, its CRC last. -/
  | spWrite (frame : List Byte)
  /-- SP_READ (R522): A service-port READ frame with a good CRC issues a bus-matrix read. -/
  | spRead (frame : List Byte)
  /-- SP_STATUS (R523): A STATUS frame returns the status byte and data of the last transaction. -/
  | spStatus (frame : List Byte)
  /-- SP_TRANSACTION_DONE (R523): A service-port transaction receives its response. -/
  | spTransactionDone
  /-- SP_TIMEOUT (R523): No response within 1 ms abandons the transaction. -/
  | spTimeout
  /-- PRESENCE (R552): A debounced PRESENCE_N edge opens or restarts the presence window. -/
  | presence
  /-- PRESENCE_WINDOW_EXPIRE (R552): The presence window closes after 60 s. -/
  | presenceWindowExpire
  /-- SEAL_OPEN (R553): The seal loop changes from closed to open, giving a presence edge. -/
  | sealOpen
  /-- PRESENCE_RECOVERY_HOLD (R558): PRESENCE_N held 5 s with no usable image moves the chip to MAINT in recovery. -/
  | presenceRecoveryHold
  /-- LC_CHANGE (R557): KEY.CMD OP 1 changes the life-cycle state through fuses and journal records. `target` is the state code of KEY.CMD.ARG. -/
  | lcChange (m : Nat) (target : Nat)
  /-- KEYMSG (R562): KEY.CMD OP 2 judges and applies an owner key message. The message stands in KEY.MSG; `signer` is the public key under which its signature verifies, if any. -/
  | keymsg (m : Nat) (signer : Option Nat)
  /-- ATTEST (R563): KEY.CMD OP 3 returns a signed attestation report. The nonce stands in KEY.MSG. -/
  | attest (m : Nat)
  /-- BEGIN (R568): UPD OP 1 erases the target slots for staging. Its arguments stand in UPD.ARG. -/
  | begin (m : Nat)
  /-- WRITE (R568): UPD OP 2 copies bytes into the staged slot. Its arguments stand in UPD.ARG. -/
  | write (m : Nat)
  /-- VERIFY (R568): UPD OP 3 checks the staged items' signatures, rollback and compatibility. -/
  | verify (m : Nat) (read : StageRead)
  /-- UPD_COMMIT (R569): UPD OP 4 writes a trial boot header and restarts the chip. Its arguments stand in UPD.ARG. -/
  | updCommit (m : Nat) (env : StartEnv)
  /-- CONFIRM (R570): UPD OP 5 confirms the trial header and raises MINSV. -/
  | confirm (m : Nat)
  /-- UPD_ABORT (R568): UPD OP 6 discards the staging. -/
  | updAbort (m : Nat)
  /-- TRIAL_FALLBACK (R570): The trial window expires unconfirmed; the header is invalidated and the chip restarts. -/
  | trialFallback (env : StartEnv)
  /-- JRP_OPEN (R582): An OPEN datagram opens or resumes a session and draws OPEN_REPLY. `qc` is the ephemeral public key of an OPEN in HMAC mode, `sigOk` says that its signature verifies under the key of the peer. -/
  | jrpOpen (h : JrpHdr) (peer : Nat) (resume : Nat) (nonce : Nat) (qc : Option Nat) (sigOk : Bool)
  /-- CLOSE (R585): A CLOSE datagram ends a session. -/
  | close (h : JrpHdr)
  /-- SESSION_TIMEOUT (R585): A session with no valid REQUEST for 30 s closes. -/
  | sessionTimeout (session : Nat)
  /-- SESSION_RETAIN_EXPIRE (R590): A closed session's window and final statuses are dropped after 60 s. -/
  | sessionRetainExpire (session : Nat)
  /-- NOP (R585): JRP opcode 0x0000 keeps a session open. `known` is false for an opcode that names no command. -/
  | nop (h : JrpHdr) (known : Bool)
  /-- JRP_TAKE (R591): JRP opcode 0x0001 issues a take. -/
  | jrpTake (h : JrpHdr) (out : Nat) (src : Nat) (instant : Nat)
  /-- JRP_CANCEL (R591): JRP opcode 0x0002 cancels a scheduled take. -/
  | jrpCancel (h : JrpHdr) (id : Nat)
  /-- JRP_LOCK (R591): JRP opcode 0x0003 locks an output. -/
  | jrpLock (h : JrpHdr) (out : Nat)
  /-- JRP_UNLOCK (R591): JRP opcode 0x0004 unlocks an output. -/
  | jrpUnlock (h : JrpHdr) (out : Nat)
  /-- JRP_PROTECT (R591): JRP opcode 0x0005 protects an output. -/
  | jrpProtect (h : JrpHdr) (out : Nat)
  /-- JRP_UNPROTECT (R591): JRP opcode 0x0006 unprotects an output. -/
  | jrpUnprotect (h : JrpHdr) (out : Nat)
  /-- DTAKE (R593): JRP opcode 0x0007 resolves a druse take and forwards it to the member chip. -/
  | dtake (h : JrpHdr) (druse : Nat) (inPos : Nat) (outPos : Nat) (instant : Nat)
  /-- DRUSE_FORWARD_TIMEOUT (R593): A forwarded druse command has no answer within 50 ms; TIMEOUT is answered and resending continues. -/
  | druseForwardTimeout (session : Nat) (txid : Nat)
  /-- SALVO_OPEN (R591): JRP opcode 0x0010 opens a salvo. -/
  | salvoOpen (h : JrpHdr) (gid : Nat)
  /-- SALVO_ADD (R591): JRP opcode 0x0011 adds takes to a salvo. -/
  | salvoAdd (h : JrpHdr) (gid : Nat) (adds : SalvoAdds)
  /-- SALVO_ARM (R591): JRP opcode 0x0012 arms a salvo. -/
  | salvoArm (h : JrpHdr) (gid : Nat) (instant : Nat) (minlead : Nat)
  /-- SALVO_COMMIT (R591): JRP opcode 0x0013 commits a salvo. -/
  | salvoCommit (h : JrpHdr) (gid : Nat)
  /-- SALVO_ABORT (R591): JRP opcode 0x0014 aborts a salvo. -/
  | salvoAbort (h : JrpHdr) (gid : Nat)
  /-- JRP_CREATE (R591): JRP opcode 0x0020 creates a channel. -/
  | jrpCreate (h : JrpHdr) (args : List Nat) (desc : List Nat)
  /-- JRP_DESTROY (R591): JRP opcode 0x0021 destroys a channel. -/
  | jrpDestroy (h : JrpHdr) (handle : Nat)
  /-- JRP_APPEND (R591): JRP opcode 0x0022 appends a druse member. -/
  | jrpAppend (h : JrpHdr) (req : AppendReq)
  /-- JRP_RESOLVE (R591): JRP opcode 0x0023 resolves a druse position. -/
  | jrpResolve (h : JrpHdr) (druse : Nat) (dir : Nat) (pos : Nat)
  /-- VOICE (R591): JRP opcode 0x0030 issues a voice-map request. -/
  | voice (h : JrpHdr) (op : Nat) (args : List Nat)
  /-- LAYER (R591): JRP opcode 0x0031 issues a layer-mailbox request. `engine` is the handle of the engine. -/
  | layer (h : JrpHdr) (engine : Nat) (op : Nat) (args : List Nat)
  /-- MICA_SET (R591): JRP opcode 0x0032 writes the next set and optionally commits. `words` holds pairs of offset and value. -/
  | micaSet (h : JrpHdr) (engine : Nat) (words : List (Nat × Nat)) (commit : Bool)
  /-- FLINT_LOAD (R591): JRP opcode 0x0033 loads a flint image. -/
  | flintLoad (h : JrpHdr) (engine : Nat) (addr : Nat) (crc : Nat)
  /-- CNV_LOAD (R591): JRP opcode 0x0034 loads converter table values. -/
  | cnvLoad (h : JrpHdr) (cnv : Nat) (lutsel : Nat) (first : Nat) (values : List Nat)
  /-- CNV_SWAP (R591): JRP opcode 0x0035 requests a converter bank swap. -/
  | cnvSwap (h : JrpHdr) (cnv : Nat)
  /-- QUERY (R596): JRP opcode 0x0040 returns records of a queried object. For REGISTER, `first` is the address. -/
  | query (h : JrpHdr) (object : Nat) (first : Nat) (count : Nat)
  /-- SUBSCRIBE (R594): JRP opcode 0x0041 adds a subscription to the session. -/
  | subscribe (h : JrpHdr) (sub : JrpSub)
  /-- UNSUBSCRIBE (R594): JRP opcode 0x0042 removes a subscription. -/
  | unsubscribe (h : JrpHdr) (number : Nat)
  /-- JRP_ATTEST (R591): JRP opcode 0x0043 returns an attestation report. -/
  | jrpAttest (h : JrpHdr) (nonce : List Byte)
  /-- UPD_STAGE (R591): JRP opcode 0x0050 issues an UPD staging operation. -/
  | updStage (h : JrpHdr) (op : Nat) (args : List Nat) (bytes : List Byte) (read : StageRead)
  /-- UPD_CONFIRM (R591): JRP opcode 0x0051 confirms a trial update. -/
  | updConfirm (h : JrpHdr)
  /-- JRP_XCHG (R591): JRP opcode 0x0052 requests a twin role exchange. -/
  | jrpXchg (h : JrpHdr)
  /-- JRP_UPD_COMMIT (R591): JRP class M opcode 0x0080 commits a staged update. -/
  | jrpUpdCommit (h : JrpHdr) (mode : Nat) (trialWin : Nat) (trialMax : Nat) (env : StartEnv)
  /-- JRP_LC_CHANGE (R591): JRP class M opcode 0x0081 changes the life-cycle state. -/
  | jrpLcChange (h : JrpHdr) (target : Nat)
  /-- JRP_KEYMSG (R591): JRP class M opcode 0x0082 submits a key message. -/
  | jrpKeymsg (h : JrpHdr) (msg : List Byte) (signer : Option Nat)
  /-- FORCE_CLEAR (R591): JRP class M opcode 0x0083 removes lock and protect from an output. -/
  | forceClear (h : JrpHdr) (out : Nat)
  /-- FINAL_STATUS (R587): A completion record arrives and the command's final status is cached and notified. -/
  | finalStatus
  /-- NOTIFY_SEND (R595): A queued notification is sent, preceded by a GAP after losses. -/
  | notifySend (session : Nat)
  /-- EDP_LINK_LOSS (R324): The eDP main link is lost while ACTIVE without an HPD change, and the block enters DOWN raising LINK_DOWN. -/
  | edpLinkLoss
  /-- PRBS_CHECK (R350): The PRBS checker of an RX half locks after 64 error-free bits and counts each later bit error in PRBSERR. `clean` error-free bits, then `errors` bit errors. -/
  | prbsCheck (n : Nat) (clean : Nat) (errors : Nat)
  /-- PCS_LOCK (R361): An E-port's PCS gains block lock, alignment and FEC lock, leaving DOWN for LFAULT, RFAULT or the 128 µs count towards UP. -/
  | pcsLock (p : Nat)
  /-- FAULT_SEQUENCE (R361): Local or remote fault ordered sets start or stop arriving at a locked PCS, moving the port between LFAULT, RFAULT and the count towards UP. `kind` is 0 when the ordered sets stop, 1 for local and 2 for remote fault. -/
  | faultSequence (p : Nat) (kind : Nat)
  /-- REF_DISQUAL (R405): A reference that is not in use loses qualification and REF_DISQUAL is raised. -/
  | refDisqual (ref : Nat)
  /-- QUAD_PLL_LOCK_TIMEOUT (R335): A PLL given a new family while its quad was disabled fails to lock within 10 ms of the quad's EN being set, and raises PLLA_LOST or PLLB_LOST. `p` is 0 for PLL A, 1 for PLL B. -/
  | quadPllLockTimeout (q : Nat) (p : Nat)
  /-- SEAL_CLOSED (R553): The seal loop becomes closed after 20 ms of bits that match. -/
  | sealClosed
  /-- PRESENCE_RELEASE (R552): PRESENCE_N is debounced as deasserted, updating KEY.STAT.PRES and starting the 20 ms of deassertion that a presence edge needs. -/
  | presenceRelease
  /-- MEMBER_ANSWER (R593): A member chip's JRP answer to a forwarded druse command reaches the seed, which relays it to the peer, or on HANDLE_STALE reopens its session and forwards once more. Session and transaction ID are those of the peer at the seed. -/
  | memberAnswer (session : Nat) (txid : Nat) (code : Nat) (rest : MemberFields)
  /-- AVS_REQUEST (R603): Once in service, the chip chooses a new VDD_CORE target from its speed monitors and temperatures and sends an AVSBus request, at most one 5 mV step per 1 ms. The step the speed monitors and temperatures call for: 5 mV up or down. -/
  | avsRequest (up : Bool)
  /-- AVS_ANSWER (R603): The regulator answers an AVSBus request; an error answer stops all further requests until reset. -/
  | avsAnswer (ok : Bool)
  /-- AVS_TIMEOUT (R603): An AVSBus request has no answer within 1 ms and the chip sends no further request until reset. -/
  | avsTimeout
  deriving DecidableEq, Repr

end Sys2Proof
end

