-- ==== Sys2Proof/Config.lean ====
section
/-! DEFINITION. What the spec leaves open: constants with no body, so that no proof can rest on a value of theirs.
Each is named in a row of notes/assumptions. -/

namespace Sys2Proof.Config

/-- The packing of the items a chapter names for an event record into its 32-bit data word, which the spec leaves
open (R488): a free value for each source and list of items. -/
opaque eventWord : Nat → List Nat → Word

/-- A fresh value the spec leaves open, by the model's counter. -/
opaque freeNat : Nat → Nat

/-- Which way a quotient is rounded where the spec does not say (by a tag of its rule and its operands). -/
opaque roundUp : Nat → Int → Int → Bool

/-- The firmware's frequency estimate, as an INCR value, from its last INCR and offset: R399 does not say how it is
made. -/
opaque ptpFreqEstimate : Nat → Int → Int
/-- The firmware's offset correction in units of INCR, before SLEWMAX limits it (R399). -/
opaque ptpCorrection : Nat → Int → Int

/-- The clock accuracy the firmware announces for a clock class (R398: it follows from the lodestone's state, and the
spec gives no code). -/
opaque ptpAccuracy : Nat → Nat

/-- The UTC offset and leap flags a grandmaster of its own announces while it knows none from another (R382 leaves their source
open). -/
opaque ptpUtc : Int
opaque ptpLeap : Nat

/-- The period in ps of the clock recovered from an S-mode lane, by the RATE code of its engine (R405 names no frequency). -/
opaque recoveredPeriod : Nat → Nat

/-- A value the spec leaves open, by the number of the rule concerned and the operands it may depend on. -/
opaque freeOf : Nat → List Nat → Nat

/-- The four bytes of a payload ID for a format word and a link number: ST 352's code points, which the spec does not give
(R195). -/
opaque pidBytes : Nat → Nat → Nat

/-- The CRC words of a line that an output sends (R193), by the standards the spec names: a function of the frame sent, of the packets
inserted, of what else the line carries (the time of the frame, for the samples embedded in it, the payload ID and the voices of
the groups embedded), of the link and of the line. -/
opaque lineCrc : Sys2Proof.Frame → List AncPkt → List Nat → Nat → Nat → Nat

/-- A picture of a format of which an untimed read dropped or repeated the essence of so many cells (R70: it names no place). -/
opaque slipped : Nat → List Pix → Nat → List Pix

/-- A picture of a format read untimed, as it stands in the output frame, displaced by so many thirds of a ns (R70). -/
opaque displaced : Nat → List Pix → Int → List Pix

/-- A sample an ASRC voice gives at a tick for the last sample taken in (R268): the conversion is not specified sample by sample. -/
opaque asrc : Nat → Nat → Int → Int
/-- A colour-difference sample between two co-sited ones, by the fixed 4-tap filter of R276 whose taps the spec does not
give: the co-sited samples of the line, and the place. -/
opaque chromaUp : List Int → Nat → Int

/-- A decimated colour-difference sample, by the fixed half-band filter of R281 whose taps the spec does not give: the
samples of the line, and the place. -/
opaque chromaDown : List Int → Nat → Int

/-- A sample of a scaled plane (R280), whose coefficients the spec does not give: filter set, widths and heights, the
plane row by row, and the place. -/
opaque scaled : Nat → Nat × Nat → Nat × Nat → List Int → Nat → Int

/-- A linear-light component after the fixed logarithmic encoding of the slate (R307), which the spec does not give. -/
opaque slateLog : Int → Int

/-- The SHA-384 of contents (R533, R540, R560) as a number of 48 bytes, the first byte highest. -/
opaque sha384 : List Nat → Nat

/-- A signature or public key of the standards the spec names (R560, R563, R582), by what it is made of. -/
opaque crypto : List Nat → Nat

/-- The unique device secret that the fuses hold (R561), which nothing reads. -/
opaque uds : Nat

/-- A key derived under NIST SP 800-108 in counter mode with HMAC-SHA-384 (R449, R561, R583): by the key, the label and the
context. -/
opaque kdf : Nat → String → List Nat → Nat

/-- The public key under which the signature that a message or an image carries verifies, if any, where no command says
so (R536, R562). -/
opaque signerOf : List Nat → Option Nat

/-- The header a firmware bundle holds, whose layout the spec does not give (R568, R571), where no command says so. -/
opaque bundleOf : List Nat → Option Bundle


end Sys2Proof.Config
end

