-- ==== Sys2Proof/Machine/RegMap.lean ====
section
/-! DEFINITION. The register map of the chip, taken row by row from the register tables of spec/ (R34 and the
register map of every chapter): for each block its base, stride and instances, and for each register its offset,
its fields, their access codes and their reset values. -/

namespace Sys2Proof.Machine

/-- The access codes of *Scope and conventions* (R40). -/
inductive Acc where
  | rw | ro | rs | wo | w1c | rwd | rwl
  deriving DecidableEq, Repr

/-- The reset value of a field: a number, or a rule the table states in words. -/
inductive Rst where
  /-- The number the table gives. -/
  | val (n : Nat)
  /-- The table index of the register times the number (CHN.ENT[i].HANDLE, MICA.LAY[l].Z). -/
  | idxMul (n : Nat)
  /-- CNV.MATC: 0x1000 at k = 0, 4 and 8, and 0 elsewhere. -/
  | matDiag
  /-- FLT.SRC[i].SEV: the default severity of source i (R491). -/
  | srcSev
  /-- FLT.SRC[i].REACT: the default reaction of source i (R491). -/
  | srcReact
  deriving DecidableEq, Repr

/-- One field of a register. -/
structure Fld where
  hi : Nat
  lo : Nat
  acc : Acc
  rst : Rst
  deriving DecidableEq, Repr

/-- One register of a block page: its name, offset, (stride, count) for each index, and its fields.
Bits in no field are reserved: they read zero and discard writes (R5). -/
structure RegDef where
  name : String
  off : Nat
  dims : List (Nat × Nat)
  flds : List Fld
  deriving DecidableEq, Repr

/-- The block types of R34; `drcc` is the common page of DRC. -/
inductive BlkKind where
  | cfg | flt | time | lode | fab | chn | prov | sdi | eth | ipm | aud | aprt | cnv | mica | dec | scan | lane | quad | gbus | twin | drc | drcc | mgt | bmx | sns | key | upd
  deriving DecidableEq, Repr

/-- One block instance: its type and its instance index (0 for a single block). -/
structure Blk where
  kind : BlkKind
  inst : Nat
  deriving DecidableEq, Repr

/-- A named field of a register: its byte address and its highest and lowest bit. -/
structure FRef where
  addr : Nat
  hi : Nat
  lo : Nat
  deriving DecidableEq, Repr

/-- The whole 32-bit word that holds a field. -/
def FRef.word (r : FRef) : FRef := { addr := r.addr, hi := 31, lo := 0 }

/-- The width of a field in bits. -/
def FRef.width (r : FRef) : Nat := r.hi + 1 - r.lo

/-- The base address, the stride and the number of instances of each block type (R34). -/
def BlkKind.layout : BlkKind → Nat × Nat × Nat
  | .cfg => (0x10000000, 0x10000, 1)
  | .flt => (0x11000000, 0x10000, 1)
  | .time => (0x12000000, 0x10000, 1)
  | .lode => (0x13000000, 0x10000, 1)
  | .fab => (0x14000000, 0x100000, 1)
  | .chn => (0x15000000, 0x100000, 1)
  | .prov => (0x16000000, 0x10000, 1)
  | .sdi => (0x18000000, 0x1000, 512)
  | .eth => (0x1A000000, 0x1000, 66)
  | .ipm => (0x1C000000, 0x100000, 1)
  | .aud => (0x1E000000, 0x100000, 1)
  | .aprt => (0x1F000000, 0x1000, 8)
  | .cnv => (0x20000000, 0x1000, 32)
  | .mica => (0x21000000, 0x10000, 8)
  | .dec => (0x21080000, 0x100, 256)
  | .scan => (0x22000000, 0x10000, 1)
  | .lane => (0x24000000, 0x1000, 512)
  | .quad => (0x24200000, 0x1000, 128)
  | .gbus => (0x28000000, 0x10000, 1)
  | .twin => (0x29000000, 0x10000, 1)
  | .drc => (0x2A000000, 0x1000, 32)
  | .drcc => (0x2A020000, 0x10000, 1)
  | .mgt => (0x2B000000, 0x10000, 1)
  | .bmx => (0x2B010000, 0x10000, 1)
  | .sns => (0x2B020000, 0x10000, 1)
  | .key => (0x2B030000, 0x10000, 1)
  | .upd => (0x2B040000, 0x10000, 1)

/-- Every block type, in the order of R34's table. -/
def BlkKind.all : List BlkKind := [.cfg, .flt, .time, .lode, .fab, .chn, .prov, .sdi, .eth, .ipm, .aud, .aprt, .cnv, .mica, .dec, .scan, .lane, .quad, .gbus, .twin, .drc, .drcc, .mgt, .bmx, .sns, .key, .upd]

/-- The base address of a block instance. -/
def Blk.base (b : Blk) : Nat := b.kind.layout.1 + b.kind.layout.2.1 * b.inst

/-- The block instance that decodes an address, and the offset in its page (R34). -/
def Blk.ofAddr (a : Nat) : Option (Blk × Nat) :=
  match BlkKind.all.find? (fun k =>
      let l := k.layout
      decide (l.1 ≤ a) && decide (a < l.1 + l.2.1 * l.2.2)) with
  | some k =>
      let l := k.layout
      some (⟨k, (a - l.1) / l.2.1⟩, (a - l.1) % l.2.1)
  | none => none

/-- The index of a register at an offset: `some` of its first and second index when the offset is one of its
instances. -/
def RegDef.at? (r : RegDef) (o : Nat) : Option (Nat × Nat) :=
  match r.dims with
  | [] => if o = r.off then some (0, 0) else none
  | [(s, c)] =>
      if r.off ≤ o ∧ (o - r.off) % s = 0 ∧ (o - r.off) / s < c then some ((o - r.off) / s, 0) else none
  | (s, c) :: (t, d) :: _ =>
      if r.off ≤ o ∧ (o - r.off) % s % t = 0 ∧ (o - r.off) / s < c ∧ (o - r.off) % s / t < d then
        some ((o - r.off) / s, (o - r.off) % s / t) else none

/-- Registers of CFG, part 1. -/
def RegMap.cfg0 : List RegDef := [
  ⟨"CTRL", 0x0, [], [⟨1, 1, .wo, .val 0⟩, ⟨0, 0, .rw, .val 1⟩]⟩,
  ⟨"STAT", 0x4, [], [⟨15, 12, .rs, .val 0⟩, ⟨9, 9, .rs, .val 0⟩, ⟨8, 8, .rs, .val 0⟩, ⟨5, 4, .rs, .val 3⟩, ⟨2, 2, .ro, .val 0⟩, ⟨1, 1, .w1c, .val 0⟩, ⟨0, 0, .rs, .val 1⟩]⟩,
  ⟨"VER", 0x8, [], [⟨31, 16, .ro, .val 3318⟩, ⟨15, 8, .ro, .val 2⟩, ⟨7, 0, .ro, .val 0⟩]⟩,
  ⟨"IMGSEQ", 0x10, [], [⟨31, 0, .ro, .val 0⟩]⟩,
  ⟨"REJECT", 0x14, [], [⟨31, 31, .ro, .val 0⟩, ⟨30, 30, .ro, .val 0⟩, ⟨20, 16, .ro, .val 0⟩, ⟨4, 0, .ro, .val 0⟩]⟩,
  ⟨"REJREC", 0x18, [], [⟨31, 0, .ro, .val 0⟩]⟩,
  ⟨"COUNTS", 0x1C, [], [⟨31, 16, .ro, .val 0⟩, ⟨15, 0, .ro, .val 0⟩]⟩,
  ⟨"RECS", 0x20, [], [⟨31, 0, .ro, .val 0⟩]⟩,
  ⟨"DEVICE", 0x24, [], [⟨4, 4, .ro, .val 0⟩, ⟨1, 0, .ro, .val 0⟩]⟩,
  ⟨"LOCKWAIT", 0x28, [], [⟨31, 0, .ro, .val 0⟩]⟩,
  ⟨"STEPTIME[k]", 0x40, [(0x4, 10)], [⟨31, 0, .ro, .val 0⟩]⟩,
  ⟨"MEASFW[j]", 0x100, [(0x4, 12)], [⟨31, 0, .ro, .val 0⟩]⟩,
  ⟨"MEASCFG[j]", 0x140, [(0x4, 12)], [⟨31, 0, .ro, .val 0⟩]⟩,
  ⟨"MEASPAIR[j]", 0x180, [(0x4, 12)], [⟨31, 0, .ro, .val 0⟩]⟩]

/-- The register map of CFG (spec/22_startup_config.md). -/
def RegMap.cfg : List RegDef := RegMap.cfg0

/-- Registers of FLT, part 1. -/
def RegMap.flt0 : List RegDef := [
  ⟨"CTRL", 0x0, [], [⟨1, 1, .wo, .val 0⟩, ⟨0, 0, .rw, .val 0⟩]⟩,
  ⟨"STAT", 0x4, [], [⟨9, 9, .rs, .val 0⟩, ⟨8, 8, .rs, .val 0⟩, ⟨7, 6, .rs, .val 0⟩, ⟨4, 4, .w1c, .val 0⟩, ⟨2, 2, .ro, .val 0⟩, ⟨1, 1, .w1c, .val 0⟩, ⟨0, 0, .rs, .val 0⟩]⟩,
  ⟨"VER", 0x8, [], [⟨31, 16, .ro, .val 3863⟩, ⟨15, 8, .ro, .val 2⟩, ⟨7, 0, .ro, .val 0⟩]⟩,
  ⟨"CFG", 0x10, [], [⟨14, 14, .rwl, .val 0⟩, ⟨13, 12, .rwl, .val 3⟩, ⟨8, 8, .rwl, .val 1⟩, ⟨7, 0, .rwl, .val 10⟩]⟩,
  ⟨"SEQ", 0x14, [], [⟨31, 0, .rs, .val 0⟩]⟩,
  ⟨"HISTCLR", 0x18, [], [⟨0, 0, .wo, .val 0⟩]⟩,
  ⟨"HISTSTAT", 0x1C, [], [⟨19, 16, .rs, .val 0⟩, ⟨4, 0, .rs, .val 0⟩]⟩,
  ⟨"SUPCNT", 0x20, [], [⟨31, 0, .ro, .val 0⟩]⟩,
  ⟨"SAFECLR", 0x24, [], [⟨0, 0, .wo, .val 0⟩]⟩,
  ⟨"SAFESTAT", 0x28, [], [⟨0, 0, .rs, .val 0⟩]⟩,
  ⟨"PINTEST", 0x2C, [], [⟨1, 0, .rwl, .val 0⟩]⟩,
  ⟨"SLOT[s].BUSY", 0x100, [(0x10, 4)], [⟨31, 31, .rs, .val 0⟩, ⟨26, 24, .rs, .val 0⟩, ⟨10, 0, .rs, .val 0⟩]⟩,
  ⟨"SLOT[s].SEQ", 0x104, [(0x10, 4)], [⟨31, 0, .rs, .val 0⟩]⟩,
  ⟨"SLOT[s].ACK", 0x108, [(0x10, 4)], [⟨0, 0, .wo, .val 0⟩]⟩,
  ⟨"SLOT[s].DATA", 0x10C, [(0x10, 4)], [⟨31, 0, .rs, .val 0⟩]⟩,
  ⟨"HIST[k].VALID", 0x200, [(0x20, 16)], [⟨31, 31, .rs, .val 0⟩, ⟨30, 30, .rs, .val 0⟩, ⟨29, 28, .rs, .val 0⟩, ⟨27, 27, .rs, .val 0⟩, ⟨26, 24, .rs, .val 0⟩, ⟨10, 0, .rs, .val 0⟩]⟩]

/-- Registers of FLT, part 2. -/
def RegMap.flt1 : List RegDef := [
  ⟨"HIST[k].SEQ", 0x204, [(0x20, 16)], [⟨31, 0, .rs, .val 0⟩]⟩,
  ⟨"HIST[k].TLO", 0x208, [(0x20, 16)], [⟨31, 0, .rs, .val 0⟩]⟩,
  ⟨"HIST[k].THI", 0x20C, [(0x20, 16)], [⟨31, 0, .rs, .val 0⟩]⟩,
  ⟨"HIST[k].DATA", 0x210, [(0x20, 16)], [⟨31, 0, .rs, .val 0⟩]⟩,
  ⟨"HIST[k].MERGED", 0x214, [(0x20, 16)], [⟨15, 0, .rs, .val 0⟩]⟩,
  ⟨"HIST[k].RSV18", 0x218, [(0x20, 16)], []⟩,
  ⟨"HIST[k].RSV1C", 0x21C, [(0x20, 16)], []⟩,
  ⟨"SRC[i]", 0x1000, [(0x4, 1536)], [⟨18, 16, .rwl, .srcReact⟩, ⟨13, 12, .rwl, .srcSev⟩]⟩,
  ⟨"CNT[i]", 0x3000, [(0x4, 1536)], [⟨31, 16, .ro, .val 0⟩, ⟨15, 0, .ro, .val 0⟩]⟩]

/-- The register map of FLT (spec/20_faults.md). -/
def RegMap.flt : List RegDef := RegMap.flt0 ++ RegMap.flt1

/-- Registers of TIME, part 1. -/
def RegMap.time0 : List RegDef := [
  ⟨"CTRL", 0x0, [], [⟨4, 4, .rwl, .val 0⟩, ⟨1, 1, .wo, .val 0⟩, ⟨0, 0, .rw, .val 0⟩]⟩,
  ⟨"STAT", 0x4, [], [⟨5, 5, .rs, .val 0⟩, ⟨4, 4, .w1c, .val 0⟩, ⟨2, 2, .ro, .val 0⟩, ⟨1, 1, .w1c, .val 0⟩, ⟨0, 0, .rs, .val 0⟩]⟩,
  ⟨"VER", 0x8, [], [⟨31, 16, .ro, .val 1811⟩, ⟨15, 8, .ro, .val 2⟩, ⟨7, 0, .ro, .val 0⟩]⟩,
  ⟨"NOWFRAC", 0x10, [], [⟨31, 0, .rs, .val 0⟩]⟩,
  ⟨"NOWLO", 0x14, [], [⟨31, 0, .rs, .val 0⟩]⟩,
  ⟨"NOWHI", 0x18, [], [⟨31, 0, .rs, .val 0⟩]⟩,
  ⟨"INCRLO", 0x20, [], [⟨31, 0, .rw, .val 0⟩]⟩,
  ⟨"INCRHI", 0x24, [], [⟨3, 0, .rw, .val 2⟩]⟩,
  ⟨"INCRUSELO", 0x28, [], [⟨31, 0, .rs, .val 0⟩]⟩,
  ⟨"INCRUSEHI", 0x2C, [], [⟨3, 0, .rs, .val 2⟩]⟩,
  ⟨"STEPLO", 0x30, [], [⟨31, 0, .wo, .val 0⟩]⟩,
  ⟨"STEPHI", 0x34, [], [⟨31, 0, .wo, .val 0⟩]⟩,
  ⟨"STEPCNT", 0x38, [], [⟨15, 0, .ro, .val 0⟩]⟩,
  ⟨"LASTSTEPLO", 0x40, [], [⟨31, 0, .rs, .val 0⟩]⟩,
  ⟨"LASTSTEPHI", 0x44, [], [⟨31, 0, .rs, .val 0⟩]⟩,
  ⟨"CAPCTL", 0x50, [], [⟨23, 16, .rs, .val 0⟩, ⟨0, 0, .wo, .val 0⟩]⟩]

/-- Registers of TIME, part 2. -/
def RegMap.time1 : List RegDef := [
  ⟨"CAPFRAC", 0x54, [], [⟨31, 0, .rs, .val 0⟩]⟩,
  ⟨"CAPLO", 0x58, [], [⟨31, 0, .rs, .val 0⟩]⟩,
  ⟨"CAPHI", 0x5C, [], [⟨31, 0, .rs, .val 0⟩]⟩,
  ⟨"EVSTAT", 0x60, [], [⟨5, 5, .w1c, .val 0⟩, ⟨4, 0, .w1c, .val 0⟩]⟩,
  ⟨"OFFLO", 0x100, [], [⟨31, 0, .wo, .val 0⟩]⟩,
  ⟨"OFFHI", 0x104, [], [⟨31, 0, .wo, .val 0⟩]⟩,
  ⟨"KP", 0x108, [], [⟨31, 0, .rw, .val 0x400000⟩]⟩,
  ⟨"KI", 0x10C, [], [⟨31, 0, .rw, .val 0x20000⟩]⟩,
  ⟨"STEPTHR", 0x110, [], [⟨31, 0, .rw, .val 0⟩]⟩,
  ⟨"ADJ", 0x114, [], [⟨31, 0, .rs, .val 0⟩]⟩,
  ⟨"INTEG", 0x118, [], [⟨31, 0, .rs, .val 0⟩]⟩,
  ⟨"STEPS", 0x11C, [], [⟨31, 16, .ro, .val 0⟩, ⟨15, 0, .ro, .val 0⟩]⟩,
  ⟨"PORT[p].INLAT", 0x800, [(0x10, 64)], [⟨31, 0, .rw, .val 0⟩]⟩,
  ⟨"PORT[p].EGLAT", 0x804, [(0x10, 64)], [⟨31, 0, .rw, .val 0⟩]⟩,
  ⟨"PORT[p].ASYM", 0x808, [(0x10, 64)], [⟨31, 0, .rw, .val 0⟩]⟩,
  ⟨"PORT[p].RSV", 0x80C, [(0x10, 64)], []⟩]

/-- Registers of TIME, part 3. -/
def RegMap.time2 : List RegDef := [
  ⟨"TXQ[p].VALID", 0x1000, [(0x10, 64)], [⟨31, 31, .rs, .val 0⟩, ⟨23, 16, .rs, .val 0⟩, ⟨15, 0, .rs, .val 0⟩]⟩,
  ⟨"TXQ[p].TSLO", 0x1004, [(0x10, 64)], [⟨31, 0, .rs, .val 0⟩]⟩,
  ⟨"TXQ[p].TSHI", 0x1008, [(0x10, 64)], [⟨31, 0, .rs, .val 0⟩]⟩,
  ⟨"TXQ[p].OVF", 0x100C, [(0x10, 64)], [⟨31, 31, .w1c, .val 0⟩, ⟨15, 8, .ro, .val 0⟩, ⟨7, 4, .rs, .val 0⟩, ⟨0, 0, .wo, .val 0⟩]⟩]

/-- The register map of TIME (spec/15_time.md). -/
def RegMap.time : List RegDef := RegMap.time0 ++ RegMap.time1 ++ RegMap.time2

/-- Registers of LODE, part 1. -/
def RegMap.lode0 : List RegDef := [
  ⟨"CTRL", 0x0, [], [⟨1, 1, .wo, .val 0⟩, ⟨0, 0, .rw, .val 0⟩]⟩,
  ⟨"STAT", 0x4, [], [⟨14, 14, .rs, .val 0⟩, ⟨13, 13, .rs, .val 0⟩, ⟨12, 12, .rs, .val 0⟩, ⟨11, 8, .rs, .val 0⟩, ⟨6, 4, .rs, .val 0⟩, ⟨2, 2, .ro, .val 0⟩, ⟨1, 1, .w1c, .val 0⟩, ⟨0, 0, .rs, .val 0⟩]⟩,
  ⟨"VER", 0x8, [], [⟨31, 16, .ro, .val 0x10de⟩, ⟨15, 8, .ro, .val 2⟩, ⟨7, 0, .ro, .val 0⟩]⟩,
  ⟨"SEL", 0x10, [], [⟨31, 31, .rw, .val 1⟩, ⟨30, 30, .rw, .val 0⟩, ⟨3, 0, .rw, .val 0⟩]⟩,
  ⟨"PRIO", 0x14, [], [⟨31, 0, .rw, .val 0⟩]⟩,
  ⟨"QUAL", 0x18, [], [⟨31, 16, .rw, .val 60⟩, ⟨15, 8, .rw, .val 2⟩, ⟨7, 0, .rw, .val 20⟩]⟩,
  ⟨"LANESEL", 0x1C, [], [⟨8, 0, .rw, .val 0⟩]⟩,
  ⟨"REFIN[k]", 0x20, [(0x4, 4)], [⟨31, 31, .rw, .val 0⟩, ⟨7, 4, .rw, .val 0⟩, ⟨0, 0, .rw, .val 0⟩]⟩,
  ⟨"REFOFS[k]", 0x30, [(0x4, 4)], [⟨31, 0, .rw, .val 0⟩]⟩,
  ⟨"PPSOFS", 0x40, [], [⟨31, 0, .rw, .val 0⟩]⟩,
  ⟨"PTPSTAT", 0x44, [], [⟨0, 0, .rw, .val 0⟩]⟩,
  ⟨"TRACKBW", 0x50, [], [⟨9, 0, .rw, .val 10⟩]⟩,
  ⟨"DWELL", 0x54, [], [⟨15, 8, .rw, .val 20⟩, ⟨7, 0, .rw, .val 25⟩]⟩,
  ⟨"PHSLEW", 0x58, [], [⟨15, 0, .rw, .val 1000⟩]⟩,
  ⟨"REALIGN", 0x5C, [], [⟨31, 0, .rw, .val 0x2710⟩]⟩,
  ⟨"PBO", 0x60, [], [⟨0, 0, .rw, .val 1⟩]⟩]

/-- Registers of LODE, part 2. -/
def RegMap.lode1 : List RegDef := [
  ⟨"BUILDOUT", 0x64, [], [⟨31, 0, .rs, .val 0⟩]⟩,
  ⟨"PHERR", 0x68, [], [⟨31, 0, .rs, .val 0⟩]⟩,
  ⟨"FREQ", 0x6C, [], [⟨31, 0, .rs, .val 0⟩]⟩,
  ⟨"TMINUSL", 0x70, [], [⟨31, 0, .rs, .val 0⟩]⟩,
  ⟨"LOOPSTEP", 0x74, [], [⟨31, 0, .wo, .val 0⟩]⟩,
  ⟨"LOOPREM", 0x78, [], [⟨31, 0, .rs, .val 0⟩]⟩,
  ⟨"LOOPOFS", 0x7C, [], [⟨31, 0, .rs, .val 0⟩]⟩,
  ⟨"HOLDCFG", 0x80, [], [⟨31, 8, .rw, .val 0x3840⟩, ⟨5, 0, .rw, .val 0⟩]⟩,
  ⟨"AGEING", 0x84, [], [⟨31, 0, .rw, .val 0⟩]⟩,
  ⟨"HOLDAVG", 0x88, [], [⟨31, 0, .rs, .val 0⟩]⟩,
  ⟨"AVGSECS", 0x8C, [], [⟨8, 0, .rs, .val 0⟩]⟩,
  ⟨"HOLDSECS", 0x90, [], [⟨31, 0, .rs, .val 0⟩]⟩,
  ⟨"TEMPTAB[i]", 0xA0, [(0x4, 16)], [⟨31, 16, .rw, .val 0⟩, ⟨15, 0, .rw, .val 0⟩]⟩,
  ⟨"EVSTAT", 0xF0, [], [⟨10, 0, .w1c, .val 0⟩]⟩,
  ⟨"SMD[j]", 0x100, [(0x4, 4)], [⟨31, 0, .rw, .val 0⟩]⟩,
  ⟨"PLANE[p].CFG", 0x200, [(0x10, 16)], [⟨4, 4, .rwd, .val 0⟩, ⟨3, 0, .rwd, .val 0⟩]⟩]

/-- Registers of LODE, part 3. -/
def RegMap.lode2 : List RegDef := [
  ⟨"PLANE[p].STEP", 0x204, [(0x10, 16)], [⟨31, 0, .wo, .val 0⟩]⟩,
  ⟨"PLANE[p].PHASE", 0x208, [(0x10, 16)], [⟨25, 0, .rs, .val 0⟩]⟩,
  ⟨"PLANE[p].FRAMES", 0x20C, [(0x10, 16)], [⟨31, 0, .rs, .val 0⟩]⟩,
  ⟨"CLKOUT[k].CFG", 0x300, [(0x8, 4)], [⟨7, 4, .rwd, .val 0⟩, ⟨3, 0, .rwd, .val 0⟩]⟩,
  ⟨"CLKOUT[k].OFS", 0x304, [(0x8, 4)], [⟨31, 0, .rwd, .val 0⟩]⟩]

/-- The register map of LODE (spec/16_references.md). -/
def RegMap.lode : List RegDef := RegMap.lode0 ++ RegMap.lode1 ++ RegMap.lode2

/-- Registers of FAB, part 1. -/
def RegMap.fab0 : List RegDef := [
  ⟨"CTRL", 0x0, [], [⟨1, 1, .wo, .val 0⟩, ⟨0, 0, .rw, .val 0⟩]⟩,
  ⟨"STAT", 0x4, [], [⟨4, 4, .rs, .val 0⟩, ⟨2, 2, .ro, .val 0⟩, ⟨1, 1, .w1c, .val 0⟩, ⟨0, 0, .rs, .val 0⟩]⟩,
  ⟨"VER", 0x8, [], [⟨31, 16, .ro, .val 4011⟩, ⟨15, 8, .ro, .val 2⟩, ⟨7, 0, .ro, .val 0⟩]⟩,
  ⟨"WINCFG", 0x10, [], [⟨19, 16, .rwd, .val 3⟩, ⟨15, 0, .rwd, .val 0x1388⟩]⟩,
  ⟨"BUDGET", 0x14, [], [⟨26, 16, .rs, .val 0⟩, ⟨10, 0, .rs, .val 0⟩]⟩,
  ⟨"OCC", 0x18, [], [⟨26, 16, .rs, .val 0⟩, ⟨10, 0, .rs, .val 0⟩]⟩,
  ⟨"EVSTAT", 0x1C, [], [⟨12, 0, .w1c, .val 0⟩]⟩,
  ⟨"POISONCNT", 0x20, [], [⟨31, 0, .ro, .val 0⟩]⟩,
  ⟨"ECCCNT", 0x24, [], [⟨31, 16, .ro, .val 0⟩, ⟨15, 0, .ro, .val 0⟩]⟩,
  ⟨"TAKECFG", 0x40, [], [⟨9, 0, .rwd, .val 120⟩]⟩,
  ⟨"TESTAT", 0x44, [], [⟨1, 1, .w1c, .val 0⟩, ⟨0, 0, .rs, .val 0⟩]⟩,
  ⟨"TAKEARG[j]", 0x50, [(0x4, 6)], [⟨31, 0, .rw, .val 0⟩]⟩,
  ⟨"TAKECMD", 0x70, [], [⟨23, 16, .wo, .val 0⟩, ⟨3, 0, .wo, .val 0⟩]⟩,
  ⟨"TAKERES", 0x74, [], [⟨31, 31, .rs, .val 0⟩, ⟨26, 16, .rs, .val 0⟩, ⟨4, 0, .rs, .val 0⟩]⟩,
  ⟨"TAKEID", 0x78, [], [⟨15, 0, .rs, .val 0⟩]⟩,
  ⟨"TCQ0", 0x80, [], [⟨31, 0, .rs, .val 0⟩]⟩]

/-- Registers of FAB, part 2. -/
def RegMap.fab1 : List RegDef := [
  ⟨"TCQ1", 0x84, [], [⟨28, 24, .rs, .val 0⟩, ⟨23, 16, .rs, .val 0⟩, ⟨15, 0, .rs, .val 0⟩]⟩,
  ⟨"TCQ2", 0x88, [], [⟨31, 16, .rs, .val 0⟩, ⟨7, 0, .rs, .val 0⟩]⟩,
  ⟨"TCQ3", 0x8C, [], [⟨31, 0, .rs, .val 0⟩]⟩,
  ⟨"TCQPOP", 0x90, [], [⟨0, 0, .wo, .val 0⟩]⟩,
  ⟨"TCQSTAT", 0x94, [], [⟨31, 31, .w1c, .val 0⟩, ⟨8, 0, .rs, .val 0⟩]⟩,
  ⟨"SCHED", 0xA0, [], [⟨12, 0, .rs, .val 0⟩]⟩,
  ⟨"SALV", 0xA4, [], [⟨21, 16, .rs, .val 0⟩, ⟨13, 0, .rs, .val 0⟩]⟩,
  ⟨"TAKECNT", 0xA8, [], [⟨31, 0, .ro, .val 0⟩]⟩,
  ⟨"ISE[e].CFG", 0x20000, [(0x10, 8192)], [⟨31, 31, .ro, .val 0⟩, ⟨30, 29, .ro, .val 0⟩, ⟨28, 25, .ro, .val 0⟩, ⟨24, 22, .ro, .val 0⟩]⟩,
  ⟨"ISE[e].HANDLE", 0x20004, [(0x10, 8192)], [⟨31, 0, .ro, .val 0⟩]⟩,
  ⟨"ISE[e].ALIGN", 0x20008, [(0x10, 8192)], [⟨31, 30, .rs, .val 0⟩, ⟨27, 0, .rs, .val 0⟩]⟩,
  ⟨"ISE[e].CNT", 0x2000C, [(0x10, 8192)], [⟨31, 16, .ro, .val 0⟩, ⟨15, 0, .ro, .val 0⟩]⟩,
  ⟨"ESE[e].CFG", 0x40000, [(0x10, 8192)], [⟨31, 31, .ro, .val 0⟩, ⟨30, 29, .ro, .val 0⟩, ⟨28, 25, .ro, .val 0⟩, ⟨24, 22, .ro, .val 0⟩]⟩,
  ⟨"ESE[e].HANDLE", 0x40004, [(0x10, 8192)], [⟨31, 0, .ro, .val 0⟩]⟩,
  ⟨"ESE[e].SRC", 0x40008, [(0x10, 8192)], [⟨31, 31, .rs, .val 0⟩, ⟨30, 30, .rs, .val 0⟩, ⟨12, 0, .rs, .val 0⟩]⟩,
  ⟨"ESE[e].SLIPCNT", 0x4000C, [(0x10, 8192)], [⟨15, 0, .ro, .val 0⟩]⟩]

/-- Registers of FAB, part 3. -/
def RegMap.fab2 : List RegDef := [
  ⟨"FS[u].CFG", 0x60000, [(0x100, 96)], [⟨31, 31, .ro, .val 0⟩, ⟨30, 30, .ro, .val 0⟩, ⟨3, 0, .ro, .val 0⟩]⟩,
  ⟨"FS[u].SCFG[k]", 0x60010, [(0x100, 96), (0x10, 4)], [⟨31, 31, .ro, .val 0⟩, ⟨30, 27, .ro, .val 0⟩, ⟨25, 13, .ro, .val 0⟩, ⟨12, 0, .ro, .val 0⟩]⟩,
  ⟨"FS[u].SSTAT[k]", 0x60014, [(0x100, 96), (0x10, 4)], [⟨31, 30, .rs, .val 0⟩, ⟨29, 28, .rs, .val 0⟩, ⟨15, 0, .rs, .val 0⟩]⟩,
  ⟨"FS[u].SCNT[k]", 0x60018, [(0x100, 96), (0x10, 4)], [⟨31, 16, .ro, .val 0⟩, ⟨15, 0, .ro, .val 0⟩]⟩,
  ⟨"FS[u].LATE[k]", 0x6001C, [(0x100, 96), (0x10, 4)], [⟨15, 0, .ro, .val 0⟩]⟩,
  ⟨"RT[i].CUR", 0x80000, [(0x20, 16384)], [⟨31, 0, .rs, .val 0⟩]⟩,
  ⟨"RT[i].PEND", 0x80004, [(0x20, 16384)], [⟨31, 0, .rs, .val 0⟩]⟩,
  ⟨"RT[i].PENDV", 0x80008, [(0x20, 16384)], [⟨31, 31, .rs, .val 0⟩, ⟨30, 30, .rs, .val 0⟩, ⟨29, 29, .rs, .val 0⟩, ⟨28, 28, .rs, .val 0⟩, ⟨27, 27, .rs, .val 0⟩, ⟨23, 16, .rs, .val 0⟩, ⟨15, 0, .rs, .val 0⟩]⟩,
  ⟨"RT[i].PREV", 0x8000C, [(0x20, 16384)], [⟨31, 0, .rs, .val 0⟩]⟩,
  ⟨"RT[i].TLO", 0x80010, [(0x20, 16384)], [⟨31, 0, .rs, .val 0⟩]⟩,
  ⟨"RT[i].THI", 0x80014, [(0x20, 16384)], [⟨31, 0, .rs, .val 0⟩]⟩,
  ⟨"RT[i].SUPCNT", 0x80018, [(0x20, 16384)], [⟨31, 16, .rs, .val 0⟩, ⟨15, 0, .rs, .val 0⟩]⟩,
  ⟨"RT[i].LATSRC", 0x8001C, [(0x20, 16384)], [⟨31, 0, .rs, .val 0⟩]⟩]

/-- The register map of FAB (spec/03_slot_grid.md). -/
def RegMap.fab : List RegDef := RegMap.fab0 ++ RegMap.fab1 ++ RegMap.fab2

/-- Registers of CHN, part 1. -/
def RegMap.chn0 : List RegDef := [
  ⟨"CTRL", 0x0, [], [⟨1, 1, .wo, .val 0⟩, ⟨0, 0, .rw, .val 0⟩]⟩,
  ⟨"STAT", 0x4, [], [⟨4, 4, .w1c, .val 0⟩, ⟨3, 3, .rs, .val 0⟩, ⟨2, 2, .ro, .val 0⟩, ⟨1, 1, .w1c, .val 0⟩, ⟨0, 0, .rs, .val 0⟩]⟩,
  ⟨"VER", 0x8, [], [⟨31, 16, .ro, .val 3150⟩, ⟨15, 8, .ro, .val 2⟩, ⟨7, 0, .ro, .val 0⟩]⟩,
  ⟨"CFG", 0x10, [], [⟨30, 30, .rwd, .val 0⟩, ⟨29, 18, .rwd, .val 0⟩, ⟨17, 0, .rwd, .val 0⟩]⟩,
  ⟨"LOWMARK", 0x14, [], [⟨14, 0, .rw, .val 256⟩]⟩,
  ⟨"COUNT", 0x18, [], [⟨28, 16, .rs, .val 0⟩, ⟨14, 0, .rs, .val 0⟩]⟩,
  ⟨"EPOCH", 0x20, [], [⟨31, 0, .ro, .val 0⟩]⟩,
  ⟨"REQCMD", 0x100, [], [⟨3, 0, .wo, .val 0⟩]⟩,
  ⟨"REQARG[j]", 0x110, [(0x4, 8)], [⟨31, 0, .rw, .val 0⟩]⟩,
  ⟨"RESULT", 0x180, [], [⟨31, 31, .rs, .val 0⟩, ⟨19, 16, .rs, .val 0⟩, ⟨4, 0, .rs, .val 0⟩]⟩,
  ⟨"RESHANDLE", 0x184, [], [⟨31, 0, .rs, .val 0⟩]⟩,
  ⟨"RESSYS", 0x188, [], [⟨17, 0, .rs, .val 0⟩]⟩,
  ⟨"ENT[i].HANDLE", 0x10000, [(0x10, 16384)], [⟨31, 0, .rs, .idxMul 0x4000⟩]⟩,
  ⟨"ENT[i].RES", 0x10004, [(0x10, 16384)], [⟨31, 31, .rs, .val 0⟩, ⟨30, 30, .rs, .val 0⟩, ⟨25, 13, .rs, .val 0⟩, ⟨12, 0, .rs, .val 0⟩]⟩,
  ⟨"ENT[i].STATE", 0x10008, [(0x10, 16384)], [⟨31, 30, .rs, .val 0⟩, ⟨29, 29, .rs, .val 0⟩, ⟨15, 0, .rs, .val 0⟩]⟩,
  ⟨"ENT[i].RSV", 0x1000C, [(0x10, 16384)], []⟩]

/-- Registers of CHN, part 2. -/
def RegMap.chn1 : List RegDef := [
  ⟨"DRU[d].HANDLE", 0x80000, [(0x20, 4096)], [⟨31, 0, .rs, .val 0⟩]⟩,
  ⟨"DRU[d].MEM", 0x80004, [(0x20, 4096)], [⟨31, 16, .rs, .val 0⟩, ⟨14, 0, .rs, .val 0⟩]⟩,
  ⟨"DRU[d].PSYS", 0x80008, [(0x20, 4096)], [⟨31, 31, .rs, .val 0⟩, ⟨30, 30, .rs, .val 0⟩, ⟨17, 0, .rs, .val 0⟩]⟩,
  ⟨"DRU[d].PARENT", 0x8000C, [(0x20, 4096)], [⟨31, 0, .rs, .val 0⟩]⟩,
  ⟨"DRU[d].INSIZE", 0x80010, [(0x20, 4096)], [⟨31, 0, .rs, .val 0⟩]⟩,
  ⟨"DRU[d].OUTSIZE", 0x80014, [(0x20, 4096)], [⟨31, 0, .rs, .val 0⟩]⟩,
  ⟨"DRU[d].RSV18", 0x80018, [(0x20, 4096)], []⟩,
  ⟨"DRU[d].RSV1C", 0x8001C, [(0x20, 4096)], []⟩,
  ⟨"MEM[m].A", 0xA0000, [(0x8, 32768)], [⟨31, 31, .rs, .val 0⟩, ⟨30, 28, .rs, .val 0⟩, ⟨17, 0, .rs, .val 0⟩]⟩,
  ⟨"MEM[m].B", 0xA0004, [(0x8, 32768)], [⟨31, 0, .rs, .val 0⟩]⟩]

/-- The register map of CHN (spec/04_channels_druses.md). -/
def RegMap.chn : List RegDef := RegMap.chn0 ++ RegMap.chn1

/-- Registers of PROV, part 1. -/
def RegMap.prov0 : List RegDef := [
  ⟨"CTRL", 0x0, [], [⟨1, 1, .wo, .val 0⟩, ⟨0, 0, .rw, .val 0⟩]⟩,
  ⟨"STAT", 0x4, [], [⟨4, 4, .w1c, .val 0⟩, ⟨2, 2, .ro, .val 0⟩, ⟨1, 1, .w1c, .val 0⟩, ⟨0, 0, .rs, .val 0⟩]⟩,
  ⟨"VER", 0x8, [], [⟨31, 16, .ro, .val 2575⟩, ⟨15, 8, .ro, .val 2⟩, ⟨7, 0, .ro, .val 0⟩]⟩,
  ⟨"CFG", 0x10, [], [⟨3, 0, .rwd, .val 2⟩]⟩,
  ⟨"OUTCLR", 0x14, [], [⟨31, 31, .wo, .val 0⟩, ⟨12, 0, .wo, .val 0⟩]⟩,
  ⟨"CHKINV", 0x20, [], [⟨31, 31, .rwl, .val 0⟩, ⟨9, 8, .rwl, .val 0⟩, ⟨3, 0, .rwl, .val 0⟩]⟩,
  ⟨"CHKINVSTAT", 0x24, [], [⟨31, 31, .w1c, .val 0⟩, ⟨23, 0, .ro, .val 0⟩]⟩,
  ⟨"TOKINJ", 0x30, [], [⟨31, 31, .rwl, .val 0⟩, ⟨30, 28, .rwl, .val 0⟩, ⟨12, 0, .rwl, .val 0⟩]⟩,
  ⟨"ECC[k]", 0x100, [(0x4, 12)], [⟨31, 16, .ro, .val 0⟩, ⟨15, 0, .ro, .val 0⟩]⟩,
  ⟨"GRP[g].LO", 0x400, [(0x8, 128)], [⟨31, 0, .w1c, .val 0⟩]⟩,
  ⟨"GRP[g].HI", 0x404, [(0x8, 128)], [⟨31, 0, .w1c, .val 0⟩]⟩,
  ⟨"LINK[n]", 0x800, [(0x4, 512)], [⟨31, 14, .rwd, .val 0⟩, ⟨13, 5, .rwd, .val 0⟩, ⟨0, 0, .rwd, .val 1⟩]⟩,
  ⟨"OUT[e]", 0x4000, [(0x4, 8192)], [⟨31, 30, .rwl, .val 0⟩, ⟨29, 29, .rwl, .val 0⟩, ⟨28, 28, .ro, .val 0⟩, ⟨26, 24, .rs, .val 0⟩, ⟨23, 20, .rs, .val 0⟩, ⟨15, 0, .ro, .val 0⟩]⟩]

/-- The register map of PROV (spec/06_path_integrity.md). -/
def RegMap.prov : List RegDef := RegMap.prov0

/-- Registers of SDI, part 1. -/
def RegMap.sdi0 : List RegDef := [
  ⟨"CTRL", 0x0, [], [⟨1, 1, .wo, .val 0⟩, ⟨0, 0, .rw, .val 0⟩]⟩,
  ⟨"STAT", 0x4, [], [⟨2, 2, .ro, .val 0⟩, ⟨1, 1, .w1c, .val 0⟩, ⟨0, 0, .rs, .val 0⟩]⟩,
  ⟨"VER", 0x8, [], [⟨31, 16, .ro, .val 1489⟩, ⟨15, 8, .ro, .val 2⟩, ⟨7, 0, .ro, .val 0⟩]⟩,
  ⟨"RXCFG", 0x10, [], [⟨4, 4, .rwd, .val 1⟩, ⟨3, 0, .rwd, .val 15⟩]⟩,
  ⟨"RXSTAT", 0x14, [], [⟨11, 10, .rs, .val 0⟩, ⟨9, 9, .rs, .val 0⟩, ⟨8, 8, .rs, .val 0⟩, ⟨7, 4, .rs, .val 0⟩, ⟨1, 0, .rs, .val 0⟩]⟩,
  ⟨"RXFMT", 0x18, [], [⟨31, 0, .rs, .val 0⟩]⟩,
  ⟨"RXPID", 0x1C, [], [⟨31, 24, .rs, .val 0⟩, ⟨23, 16, .rs, .val 0⟩, ⟨15, 8, .rs, .val 0⟩, ⟨7, 0, .rs, .val 0⟩]⟩,
  ⟨"RXCHAN", 0x20, [], [⟨31, 0, .ro, .val 0⟩]⟩,
  ⟨"RXCHAN1", 0x24, [], [⟨31, 0, .ro, .val 0⟩]⟩,
  ⟨"CRCCNT", 0x28, [], [⟨31, 16, .ro, .val 0⟩, ⟨15, 0, .ro, .val 0⟩]⟩,
  ⟨"TRSCNT", 0x2C, [], [⟨31, 16, .ro, .val 0⟩, ⟨15, 8, .ro, .val 0⟩, ⟨7, 0, .ro, .val 0⟩]⟩,
  ⟨"ANCCNT", 0x30, [], [⟨31, 16, .ro, .val 0⟩, ⟨15, 0, .ro, .val 0⟩]⟩,
  ⟨"RXAUD", 0x34, [], [⟨7, 0, .ro, .val 0⟩]⟩,
  ⟨"RXAUDSTAT", 0x38, [], [⟨23, 16, .rs, .val 0⟩, ⟨15, 8, .rs, .val 0⟩, ⟨7, 0, .rs, .val 0⟩]⟩,
  ⟨"AUDCNT", 0x3C, [], [⟨31, 16, .ro, .val 0⟩, ⟨15, 0, .ro, .val 0⟩]⟩,
  ⟨"ANCF[k]", 0x40, [(0x4, 8)], [⟨31, 31, .ro, .val 0⟩, ⟨30, 30, .ro, .val 0⟩, ⟨29, 16, .ro, .val 0⟩, ⟨15, 8, .ro, .val 0⟩, ⟨7, 0, .ro, .val 0⟩]⟩]

/-- Registers of SDI, part 2. -/
def RegMap.sdi1 : List RegDef := [
  ⟨"TXCHAN", 0x80, [], [⟨31, 0, .ro, .val 0⟩]⟩,
  ⟨"TXCHAN1", 0x84, [], [⟨31, 0, .ro, .val 0⟩]⟩,
  ⟨"TXFMT", 0x88, [], [⟨31, 0, .ro, .val 0⟩]⟩,
  ⟨"TXSTAT", 0x8C, [], [⟨9, 8, .rs, .val 0⟩, ⟨7, 0, .ro, .val 0⟩]⟩,
  ⟨"ANCOUT", 0x90, [], [⟨31, 31, .ro, .val 0⟩, ⟨30, 30, .ro, .val 0⟩, ⟨13, 0, .ro, .val 0⟩]⟩,
  ⟨"TXANCCNT", 0x94, [], [⟨31, 16, .ro, .val 0⟩, ⟨15, 0, .ro, .val 0⟩]⟩,
  ⟨"ANCDEL[k]", 0xC0, [(0x4, 8)], [⟨31, 31, .rw, .val 0⟩, ⟨30, 30, .rw, .val 0⟩, ⟨15, 8, .rw, .val 0⟩, ⟨7, 0, .rw, .val 0⟩]⟩,
  ⟨"EVSTAT", 0xF0, [], [⟨16, 0, .w1c, .val 0⟩]⟩,
  ⟨"EVEN", 0xF4, [], [⟨16, 0, .rw, .val 0x1fffd⟩]⟩]

/-- The register map of SDI (spec/07_sdi.md). -/
def RegMap.sdi : List RegDef := RegMap.sdi0 ++ RegMap.sdi1

/-- Registers of ETH, part 1. -/
def RegMap.eth0 : List RegDef := [
  ⟨"CTRL", 0x0, [], [⟨1, 1, .wo, .val 0⟩, ⟨0, 0, .rw, .val 0⟩]⟩,
  ⟨"STAT", 0x4, [], [⟨15, 14, .rs, .val 0⟩, ⟨13, 13, .rs, .val 0⟩, ⟨12, 12, .rs, .val 0⟩, ⟨11, 11, .w1c, .val 0⟩, ⟨2, 2, .ro, .val 0⟩, ⟨1, 1, .w1c, .val 0⟩, ⟨0, 0, .rs, .val 0⟩]⟩,
  ⟨"VER", 0x8, [], [⟨31, 16, .ro, .val 3700⟩, ⟨15, 8, .ro, .val 2⟩, ⟨7, 0, .ro, .val 0⟩]⟩,
  ⟨"CFG", 0x10, [], [⟨31, 31, .rwd, .val 1⟩, ⟨30, 29, .rwd, .val 0⟩, ⟨28, 27, .rwd, .val 0⟩, ⟨26, 24, .rwd, .val 0⟩, ⟨22, 20, .rwd, .val 0⟩, ⟨7, 0, .rwd, .val 0⟩]⟩,
  ⟨"MAXFRM", 0x14, [], [⟨13, 0, .rwd, .val 1522⟩]⟩,
  ⟨"MACLO", 0x18, [], [⟨31, 0, .rwd, .val 0⟩]⟩,
  ⟨"MACHI", 0x1C, [], [⟨15, 0, .rwd, .val 0⟩]⟩,
  ⟨"PAUSEWD", 0x20, [], [⟨15, 0, .rwd, .val 200⟩]⟩,
  ⟨"RXRING[r].BASE", 0x40, [(0x10, 2)], [⟨21, 4, .rwd, .val 0⟩]⟩,
  ⟨"RXRING[r].SIZE", 0x44, [(0x10, 2)], [⟨29, 16, .rwd, .val 2048⟩, ⟨10, 0, .rwd, .val 256⟩]⟩,
  ⟨"RXRING[r].HEAD", 0x48, [(0x10, 2)], [⟨9, 0, .rs, .val 0⟩]⟩,
  ⟨"TXRING.BASE", 0x60, [], [⟨21, 4, .rwd, .val 0⟩]⟩,
  ⟨"TXRING.SIZE", 0x64, [], [⟨10, 0, .rwd, .val 256⟩]⟩,
  ⟨"TXRING.HEAD", 0x68, [], [⟨9, 0, .rs, .val 0⟩]⟩,
  ⟨"TXKICK", 0x6C, [], [⟨0, 0, .wo, .val 0⟩]⟩,
  ⟨"MCFW[k].LO", 0x80, [(0x8, 8)], [⟨31, 0, .rw, .val 0⟩]⟩]

/-- Registers of ETH, part 2. -/
def RegMap.eth1 : List RegDef := [
  ⟨"MCFW[k].HI", 0x84, [(0x8, 8)], [⟨31, 31, .rw, .val 0⟩, ⟨15, 0, .rw, .val 0⟩]⟩,
  ⟨"EVSTAT", 0xF0, [], [⟨9, 0, .w1c, .val 0⟩]⟩,
  ⟨"EVEN", 0xF4, [], [⟨9, 0, .rw, .val 1021⟩]⟩,
  ⟨"STATSNAP", 0x100, [], [⟨0, 0, .wo, .val 0⟩]⟩,
  ⟨"SRXFRM", 0x104, [], [⟨19, 0, .ro, .val 0⟩]⟩,
  ⟨"STXFRM", 0x108, [], [⟨19, 0, .ro, .val 0⟩]⟩,
  ⟨"SRXOCT", 0x10C, [], [⟨23, 0, .ro, .val 0⟩]⟩,
  ⟨"STXOCT", 0x110, [], [⟨23, 0, .ro, .val 0⟩]⟩,
  ⟨"SRXFCS", 0x114, [], [⟨15, 0, .ro, .val 0⟩]⟩,
  ⟨"SRXLEN", 0x118, [], [⟨15, 0, .ro, .val 0⟩]⟩,
  ⟨"SRXCSUM", 0x11C, [], [⟨15, 0, .ro, .val 0⟩]⟩,
  ⟨"SRXDROP", 0x120, [], [⟨15, 0, .ro, .val 0⟩]⟩,
  ⟨"SRXPAUSE", 0x124, [], [⟨15, 0, .ro, .val 0⟩]⟩,
  ⟨"STXDROP", 0x128, [], [⟨15, 0, .ro, .val 0⟩]⟩,
  ⟨"SRINGDROP", 0x12C, [], [⟨15, 0, .ro, .val 0⟩]⟩,
  ⟨"SFECCOR", 0x130, [], [⟨15, 0, .ro, .val 0⟩]⟩]

/-- Registers of ETH, part 3. -/
def RegMap.eth2 : List RegDef := [
  ⟨"SFECUNC", 0x134, [], [⟨15, 0, .ro, .val 0⟩]⟩,
  ⟨"MCHASH[k]", 0x200, [(0x4, 128)], [⟨31, 0, .rs, .val 0⟩]⟩]

/-- The register map of ETH (spec/14_ethernet_mac.md). -/
def RegMap.eth : List RegDef := RegMap.eth0 ++ RegMap.eth1 ++ RegMap.eth2

/-- Registers of IPM, part 1. -/
def RegMap.ipm0 : List RegDef := [
  ⟨"CTRL", 0x0, [], [⟨1, 1, .wo, .val 0⟩, ⟨0, 0, .rw, .val 0⟩]⟩,
  ⟨"STAT", 0x4, [], [⟨2, 2, .ro, .val 0⟩, ⟨1, 1, .w1c, .val 0⟩, ⟨0, 0, .rs, .val 0⟩]⟩,
  ⟨"VER", 0x8, [], [⟨31, 16, .ro, .val 401⟩, ⟨15, 8, .ro, .val 2⟩, ⟨7, 0, .ro, .val 0⟩]⟩,
  ⟨"PMEM", 0x10, [], [⟨26, 0, .rs, .val 0⟩]⟩,
  ⟨"PMEMOCC", 0x14, [], [⟨26, 0, .rs, .val 0⟩]⟩,
  ⟨"PMEMPEAK", 0x18, [], [⟨26, 0, .rw, .val 0⟩]⟩,
  ⟨"FLOWS", 0x1C, [], [⟨28, 16, .rs, .val 0⟩, ⟨12, 0, .rs, .val 0⟩]⟩,
  ⟨"POLCFG", 0x20, [], [⟨7, 0, .rwd, .val 8⟩]⟩,
  ⟨"UNMATCH", 0x24, [], [⟨31, 0, .ro, .val 0⟩]⟩,
  ⟨"EVSTAT", 0x28, [], [⟨13, 0, .w1c, .val 0⟩]⟩,
  ⟨"PLANEHOR[p]", 0x40, [(0x4, 16)], [⟨15, 0, .rw, .val 80⟩]⟩,
  ⟨"DESC[s].W[j]", 0x100, [(0x40, 16), (0x4, 16)], [⟨31, 0, .rw, .val 0⟩]⟩,
  ⟨"RXF[f].HANDLE", 0x10000, [(0x20, 4096)], [⟨31, 0, .rs, .val 0⟩]⟩,
  ⟨"RXF[f].TYPE", 0x10004, [(0x20, 4096)], [⟨31, 29, .rs, .val 0⟩, ⟨28, 27, .rs, .val 0⟩, ⟨26, 26, .rs, .val 0⟩, ⟨25, 25, .rs, .val 0⟩, ⟨24, 24, .rs, .val 0⟩, ⟨23, 22, .rs, .val 0⟩, ⟨21, 20, .rs, .val 0⟩, ⟨15, 0, .rs, .val 0⟩]⟩,
  ⟨"RXF[f].SSRC", 0x10008, [(0x20, 4096)], [⟨31, 0, .rs, .val 0⟩]⟩,
  ⟨"RXF[f].LOST", 0x1000C, [(0x20, 4096)], [⟨31, 0, .ro, .val 0⟩]⟩]

/-- Registers of IPM, part 2. -/
def RegMap.ipm1 : List RegDef := [
  ⟨"RXF[f].LATE", 0x10010, [(0x20, 4096)], [⟨31, 0, .ro, .val 0⟩]⟩,
  ⟨"RXF[f].POLDROP", 0x10014, [(0x20, 4096)], [⟨23, 0, .ro, .val 0⟩]⟩,
  ⟨"RXF[f].LATEMAX", 0x10018, [(0x20, 4096)], [⟨31, 16, .rw, .val 0⟩, ⟨15, 0, .rs, .val 0⟩]⟩,
  ⟨"RXF[f].PKTS", 0x1001C, [(0x20, 4096)], [⟨31, 0, .ro, .val 0⟩]⟩,
  ⟨"TXF[f].HANDLE", 0x30000, [(0x20, 4096)], [⟨31, 0, .rs, .val 0⟩]⟩,
  ⟨"TXF[f].TYPE", 0x30004, [(0x20, 4096)], [⟨31, 29, .rs, .val 0⟩, ⟨28, 27, .rs, .val 0⟩, ⟨26, 26, .rs, .val 0⟩, ⟨25, 25, .rs, .val 0⟩, ⟨24, 23, .rs, .val 0⟩]⟩,
  ⟨"TXF[f].SSRC", 0x30008, [(0x20, 4096)], [⟨31, 0, .ro, .val 0⟩]⟩,
  ⟨"TXF[f].TSOFF", 0x3000C, [(0x20, 4096)], [⟨31, 0, .ro, .val 0⟩]⟩,
  ⟨"TXF[f].PKTS", 0x30010, [(0x20, 4096)], [⟨31, 0, .ro, .val 0⟩]⟩,
  ⟨"TXF[f].SEQ", 0x30014, [(0x20, 4096)], [⟨15, 0, .rs, .val 0⟩]⟩,
  ⟨"TXF[f].RSV18", 0x30018, [(0x20, 4096)], []⟩,
  ⟨"TXF[f].RSV1C", 0x3001C, [(0x20, 4096)], []⟩,
  ⟨"S6R[k].RXCFG", 0x80010, [(0x1000, 64)], [⟨4, 4, .ro, .val 1⟩]⟩,
  ⟨"S6R[k].RXSTAT", 0x80014, [(0x1000, 64)], [⟨11, 10, .rs, .val 0⟩, ⟨9, 9, .rs, .val 0⟩, ⟨8, 8, .rs, .val 0⟩, ⟨7, 4, .rs, .val 0⟩, ⟨1, 0, .rs, .val 0⟩]⟩,
  ⟨"S6R[k].RXFMT", 0x80018, [(0x1000, 64)], [⟨31, 0, .rs, .val 0⟩]⟩,
  ⟨"S6R[k].RXPID", 0x8001C, [(0x1000, 64)], [⟨31, 24, .rs, .val 0⟩, ⟨23, 16, .rs, .val 0⟩, ⟨15, 8, .rs, .val 0⟩, ⟨7, 0, .rs, .val 0⟩]⟩]

/-- Registers of IPM, part 3. -/
def RegMap.ipm2 : List RegDef := [
  ⟨"S6R[k].RXCHAN", 0x80020, [(0x1000, 64)], [⟨31, 0, .ro, .val 0⟩]⟩,
  ⟨"S6R[k].RXCHAN1", 0x80024, [(0x1000, 64)], [⟨31, 0, .ro, .val 0⟩]⟩,
  ⟨"S6R[k].CRCCNT", 0x80028, [(0x1000, 64)], [⟨31, 16, .ro, .val 0⟩, ⟨15, 0, .ro, .val 0⟩]⟩,
  ⟨"S6R[k].TRSCNT", 0x8002C, [(0x1000, 64)], [⟨31, 16, .ro, .val 0⟩, ⟨15, 8, .ro, .val 0⟩, ⟨7, 0, .ro, .val 0⟩]⟩,
  ⟨"S6R[k].ANCCNT", 0x80030, [(0x1000, 64)], [⟨31, 16, .ro, .val 0⟩, ⟨15, 0, .ro, .val 0⟩]⟩,
  ⟨"S6R[k].RXAUD", 0x80034, [(0x1000, 64)], [⟨7, 0, .ro, .val 0⟩]⟩,
  ⟨"S6R[k].RXAUDSTAT", 0x80038, [(0x1000, 64)], [⟨23, 16, .rs, .val 0⟩, ⟨15, 8, .rs, .val 0⟩, ⟨7, 0, .rs, .val 0⟩]⟩,
  ⟨"S6R[k].AUDCNT", 0x8003C, [(0x1000, 64)], [⟨31, 16, .ro, .val 0⟩, ⟨15, 0, .ro, .val 0⟩]⟩,
  ⟨"S6R[k].ANCF[j]", 0x80040, [(0x1000, 64), (0x4, 8)], [⟨31, 31, .ro, .val 0⟩, ⟨30, 30, .ro, .val 0⟩, ⟨29, 16, .ro, .val 0⟩, ⟨15, 8, .ro, .val 0⟩, ⟨7, 0, .ro, .val 0⟩]⟩,
  ⟨"S6R[k].EVSTAT", 0x800F0, [(0x1000, 64)], [⟨16, 0, .ro, .val 0⟩]⟩,
  ⟨"S6R[k].EVEN", 0x800F4, [(0x1000, 64)], [⟨16, 0, .ro, .val 0x1fffd⟩]⟩,
  ⟨"S6T[k].TXCHAN", 0xC0080, [(0x1000, 64)], [⟨31, 0, .ro, .val 0⟩]⟩,
  ⟨"S6T[k].TXCHAN1", 0xC0084, [(0x1000, 64)], [⟨31, 0, .ro, .val 0⟩]⟩,
  ⟨"S6T[k].TXFMT", 0xC0088, [(0x1000, 64)], [⟨31, 0, .ro, .val 0⟩]⟩,
  ⟨"S6T[k].TXSTAT", 0xC008C, [(0x1000, 64)], [⟨9, 8, .rs, .val 0⟩, ⟨7, 0, .ro, .val 0⟩]⟩,
  ⟨"S6T[k].ANCOUT", 0xC0090, [(0x1000, 64)], [⟨31, 31, .ro, .val 0⟩, ⟨30, 30, .ro, .val 0⟩, ⟨13, 0, .ro, .val 0⟩]⟩]

/-- Registers of IPM, part 4. -/
def RegMap.ipm3 : List RegDef := [
  ⟨"S6T[k].TXANCCNT", 0xC0094, [(0x1000, 64)], [⟨31, 16, .ro, .val 0⟩, ⟨15, 0, .ro, .val 0⟩]⟩,
  ⟨"S6T[k].ANCDEL[j]", 0xC00C0, [(0x1000, 64), (0x4, 8)], [⟨31, 31, .ro, .val 0⟩, ⟨30, 30, .ro, .val 0⟩, ⟨15, 8, .ro, .val 0⟩, ⟨7, 0, .ro, .val 0⟩]⟩,
  ⟨"S6T[k].EVSTAT", 0xC00F0, [(0x1000, 64)], [⟨16, 0, .ro, .val 0⟩]⟩,
  ⟨"S6T[k].EVEN", 0xC00F4, [(0x1000, 64)], [⟨16, 0, .ro, .val 0x1fffd⟩]⟩]

/-- The register map of IPM (spec/08_ip_media.md). -/
def RegMap.ipm : List RegDef := RegMap.ipm0 ++ RegMap.ipm1 ++ RegMap.ipm2 ++ RegMap.ipm3

/-- Registers of AUD, part 1. -/
def RegMap.aud0 : List RegDef := [
  ⟨"CTRL", 0x0, [], [⟨1, 1, .wo, .val 0⟩, ⟨0, 0, .rw, .val 0⟩]⟩,
  ⟨"STAT", 0x4, [], [⟨5, 5, .rs, .val 0⟩, ⟨4, 4, .w1c, .val 0⟩, ⟨2, 2, .ro, .val 0⟩, ⟨1, 1, .w1c, .val 0⟩, ⟨0, 0, .rs, .val 0⟩]⟩,
  ⟨"VER", 0x8, [], [⟨31, 16, .ro, .val 2768⟩, ⟨15, 8, .ro, .val 2⟩, ⟨7, 0, .ro, .val 0⟩]⟩,
  ⟨"CFG", 0x10, [], [⟨24, 16, .rwd, .val 256⟩, ⟨11, 2, .rwd, .val 64⟩, ⟨0, 0, .rwd, .val 0⟩]⟩,
  ⟨"VOICES", 0x14, [], [⟨31, 16, .rs, .val 0⟩, ⟨15, 0, .rs, .val 0⟩]⟩,
  ⟨"EVSTAT", 0x18, [], [⟨3, 0, .w1c, .val 0⟩]⟩,
  ⟨"FAILVOICES", 0x1C, [], [⟨15, 0, .rs, .val 0⟩]⟩,
  ⟨"MAPCMD", 0x20, [], [⟨3, 0, .wo, .val 0⟩]⟩,
  ⟨"MAPARG[j]", 0x24, [(0x4, 3)], [⟨31, 0, .rw, .val 0⟩]⟩,
  ⟨"MAPRES", 0x30, [], [⟨31, 31, .rs, .val 0⟩, ⟨30, 30, .rs, .val 0⟩, ⟨19, 16, .rs, .val 0⟩, ⟨4, 0, .rs, .val 0⟩]⟩,
  ⟨"IGR[g]", 0x10000, [(0x4, 8192)], [⟨31, 31, .rs, .val 0⟩, ⟨30, 30, .rs, .val 0⟩, ⟨29, 16, .rs, .val 0⟩, ⟨4, 0, .rs, .val 0⟩]⟩,
  ⟨"OGR[g]", 0x18000, [(0x4, 8192)], [⟨31, 31, .rs, .val 0⟩, ⟨30, 30, .rs, .val 0⟩, ⟨29, 16, .rs, .val 0⟩, ⟨4, 0, .rs, .val 0⟩]⟩,
  ⟨"OV[j].VALID", 0x20000, [(0x10, 32768)], [⟨31, 31, .rs, .val 0⟩, ⟨30, 30, .rs, .val 0⟩, ⟨29, 29, .rs, .val 0⟩, ⟨28, 28, .rs, .val 0⟩, ⟨27, 25, .rs, .val 0⟩, ⟨24, 24, .rs, .val 0⟩, ⟨15, 15, .rs, .val 0⟩, ⟨14, 0, .rs, .val 0⟩]⟩,
  ⟨"OV[j].GAIN", 0x20004, [(0x10, 32768)], [⟨31, 16, .rs, .val 0⟩, ⟨8, 0, .rs, .val 0⟩]⟩,
  ⟨"OV[j].COUPLE", 0x20008, [(0x10, 32768)], [⟨31, 0, .rs, .val 0⟩]⟩,
  ⟨"OV[j].FAILCNT", 0x2000C, [(0x10, 32768)], [⟨15, 0, .rs, .val 0⟩]⟩]

/-- The register map of AUD (spec/09_audio.md). -/
def RegMap.aud : List RegDef := RegMap.aud0

/-- Registers of APRT, part 1. -/
def RegMap.aprt0 : List RegDef := [
  ⟨"CTRL", 0x0, [], [⟨1, 1, .wo, .val 0⟩, ⟨0, 0, .rw, .val 0⟩]⟩,
  ⟨"STAT", 0x4, [], [⟨7, 7, .rs, .val 0⟩, ⟨6, 4, .rs, .val 0⟩, ⟨2, 2, .ro, .val 0⟩, ⟨1, 1, .w1c, .val 0⟩, ⟨0, 0, .rs, .val 0⟩]⟩,
  ⟨"VER", 0x8, [], [⟨31, 16, .ro, .val 2718⟩, ⟨15, 8, .ro, .val 2⟩, ⟨7, 0, .ro, .val 0⟩]⟩,
  ⟨"CFG", 0x10, [], [⟨15, 10, .rwd, .val 63⟩, ⟨9, 9, .rwd, .val 0⟩, ⟨8, 8, .rwd, .val 0⟩, ⟨7, 7, .rwd, .val 0⟩, ⟨6, 6, .rwd, .val 0⟩, ⟨5, 4, .rwd, .val 2⟩, ⟨3, 3, .rwd, .val 0⟩, ⟨2, 2, .rwd, .val 0⟩, ⟨1, 0, .rwd, .val 0⟩]⟩,
  ⟨"RXMASKLO", 0x14, [], [⟨31, 0, .rwd, .val 0⟩]⟩,
  ⟨"RXMASKHI", 0x18, [], [⟨31, 0, .rwd, .val 0⟩]⟩,
  ⟨"TXMASKLO", 0x1C, [], [⟨31, 0, .rwd, .val 0⟩]⟩,
  ⟨"TXMASKHI", 0x20, [], [⟨31, 0, .rwd, .val 0⟩]⟩,
  ⟨"RATETOL", 0x24, [], [⟨15, 0, .rw, .val 1000⟩]⟩,
  ⟨"RATE", 0x28, [], [⟨31, 0, .rs, .val 0⟩]⟩,
  ⟨"RATEINFO", 0x2C, [], [⟨31, 16, .rs, .val 0⟩, ⟨3, 3, .rs, .val 0⟩, ⟨2, 0, .rs, .val 0⟩]⟩,
  ⟨"BTSLO", 0x30, [], [⟨31, 0, .rs, .val 0⟩]⟩,
  ⟨"BTSHI", 0x34, [], [⟨31, 0, .rs, .val 0⟩]⟩,
  ⟨"BTSCNT", 0x38, [], [⟨15, 0, .rs, .val 0⟩]⟩,
  ⟨"SLIPCNT", 0x40, [], [⟨31, 16, .ro, .val 0⟩, ⟨15, 0, .ro, .val 0⟩]⟩,
  ⟨"CNT", 0x44, [], [⟨31, 24, .ro, .val 0⟩, ⟨23, 16, .ro, .val 0⟩, ⟨15, 0, .ro, .val 0⟩]⟩]

/-- Registers of APRT, part 2. -/
def RegMap.aprt1 : List RegDef := [
  ⟨"EVSTAT", 0xF0, [], [⟨9, 0, .w1c, .val 0⟩]⟩,
  ⟨"EVEN", 0xF4, [], [⟨9, 0, .rw, .val 1019⟩]⟩]

/-- The register map of APRT (spec/09_audio.md). -/
def RegMap.aprt : List RegDef := RegMap.aprt0 ++ RegMap.aprt1

/-- Registers of CNV, part 1. -/
def RegMap.cnv0 : List RegDef := [
  ⟨"CTRL", 0x0, [], [⟨1, 1, .wo, .val 0⟩, ⟨0, 0, .rw, .val 0⟩]⟩,
  ⟨"STAT", 0x4, [], [⟨7, 7, .w1c, .val 0⟩, ⟨6, 6, .rs, .val 0⟩, ⟨5, 5, .rs, .val 0⟩, ⟨2, 2, .ro, .val 0⟩, ⟨1, 1, .w1c, .val 0⟩, ⟨0, 0, .rs, .val 0⟩]⟩,
  ⟨"VER", 0x8, [], [⟨31, 16, .ro, .val 3086⟩, ⟨15, 8, .ro, .val 2⟩, ⟨7, 0, .ro, .val 0⟩]⟩,
  ⟨"CHAN", 0x10, [], [⟨31, 0, .ro, .val 0⟩]⟩,
  ⟨"INFMT", 0x14, [], [⟨31, 0, .ro, .val 0⟩]⟩,
  ⟨"OUTFMT", 0x18, [], [⟨31, 0, .ro, .val 0⟩]⟩,
  ⟨"PLANES", 0x1C, [], [⟨8, 8, .ro, .val 0⟩, ⟨7, 4, .ro, .val 0⟩, ⟨3, 0, .ro, .val 0⟩]⟩,
  ⟨"DELAY", 0x20, [], [⟨31, 0, .ro, .val 0⟩]⟩,
  ⟨"NEXTPROC", 0x30, [], [⟨5, 4, .rw, .val 0⟩, ⟨3, 3, .rw, .val 1⟩, ⟨2, 2, .rw, .val 1⟩, ⟨1, 1, .rw, .val 1⟩, ⟨0, 0, .rw, .val 1⟩]⟩,
  ⟨"PROC", 0x34, [], [⟨5, 4, .rs, .val 0⟩, ⟨3, 3, .rs, .val 1⟩, ⟨2, 2, .rs, .val 1⟩, ⟨1, 1, .rs, .val 1⟩, ⟨0, 0, .rs, .val 1⟩]⟩,
  ⟨"MATC[k]", 0x40, [(0x4, 9)], [⟨15, 0, .rw, .matDiag⟩]⟩,
  ⟨"MATOFF[k]", 0x64, [(0x4, 6)], [⟨16, 0, .rw, .val 0⟩]⟩,
  ⟨"LUTSEL", 0x80, [], [⟨5, 4, .rw, .val 0⟩, ⟨1, 0, .rw, .val 0⟩]⟩,
  ⟨"LUTADDR", 0x84, [], [⟨15, 0, .rw, .val 0⟩]⟩,
  ⟨"LUTDATA", 0x88, [], [⟨15, 0, .rw, .val 0⟩]⟩,
  ⟨"SWAP", 0x8C, [], [⟨0, 0, .wo, .val 0⟩]⟩]

/-- Registers of CNV, part 2. -/
def RegMap.cnv1 : List RegDef := [
  ⟨"CNT", 0x90, [], [⟨31, 16, .ro, .val 0⟩, ⟨15, 0, .ro, .val 0⟩]⟩,
  ⟨"FRAMES", 0x94, [], [⟨31, 0, .ro, .val 0⟩]⟩,
  ⟨"EVSTAT", 0xF0, [], [⟨5, 0, .w1c, .val 0⟩]⟩,
  ⟨"EVEN", 0xF4, [], [⟨5, 0, .rw, .val 47⟩]⟩]

/-- The register map of CNV (spec/10_conversion.md). -/
def RegMap.cnv : List RegDef := RegMap.cnv0 ++ RegMap.cnv1

/-- Registers of MICA, part 1. -/
def RegMap.mica0 : List RegDef := [
  ⟨"CTRL", 0x0, [], [⟨1, 1, .wo, .val 0⟩, ⟨0, 0, .rw, .val 0⟩]⟩,
  ⟨"STAT", 0x4, [], [⟨11, 10, .rs, .val 0⟩, ⟨9, 9, .w1c, .val 0⟩, ⟨8, 8, .rs, .val 0⟩, ⟨7, 7, .rs, .val 0⟩, ⟨6, 6, .rs, .val 0⟩, ⟨5, 5, .rs, .val 0⟩, ⟨2, 2, .ro, .val 0⟩, ⟨1, 1, .w1c, .val 0⟩, ⟨0, 0, .rs, .val 0⟩]⟩,
  ⟨"VER", 0x8, [], [⟨31, 16, .ro, .val 458⟩, ⟨15, 8, .ro, .val 2⟩, ⟨7, 0, .ro, .val 0⟩]⟩,
  ⟨"CHAN", 0x10, [], [⟨31, 0, .ro, .val 0⟩]⟩,
  ⟨"OUTFMT", 0x14, [], [⟨31, 0, .ro, .val 0⟩]⟩,
  ⟨"PLANE", 0x18, [], [⟨3, 0, .ro, .val 0⟩]⟩,
  ⟨"BG", 0x1C, [], [⟨29, 0, .rw, .val 0⟩]⟩,
  ⟨"COMMIT", 0x20, [], [⟨0, 0, .wo, .val 0⟩]⟩,
  ⟨"REFLATTEN", 0x24, [], [⟨0, 0, .wo, .val 0⟩]⟩,
  ⟨"CNT", 0x28, [], [⟨31, 16, .ro, .val 0⟩, ⟨15, 0, .ro, .val 0⟩]⟩,
  ⟨"FRAMES", 0x2C, [], [⟨31, 0, .ro, .val 0⟩]⟩,
  ⟨"SLATE", 0x30, [], [⟨21, 16, .rs, .val 0⟩, ⟨15, 0, .rs, .val 0⟩]⟩,
  ⟨"LIVE", 0x34, [], [⟨15, 0, .rw, .val 100⟩]⟩,
  ⟨"LUTSEL", 0x40, [], [⟨3, 0, .rw, .val 0⟩]⟩,
  ⟨"LUTADDR", 0x44, [], [⟨11, 0, .rw, .val 0⟩]⟩,
  ⟨"LUTDATA", 0x48, [], [⟨15, 0, .rw, .val 0⟩]⟩]

/-- Registers of MICA, part 2. -/
def RegMap.mica1 : List RegDef := [
  ⟨"LAYCMD", 0x50, [], [⟨3, 0, .wo, .val 0⟩]⟩,
  ⟨"LAYARG[j]", 0x54, [(0x4, 3)], [⟨31, 0, .rw, .val 0⟩]⟩,
  ⟨"LAYRES", 0x60, [], [⟨31, 31, .rs, .val 0⟩, ⟨30, 30, .rs, .val 0⟩, ⟨4, 0, .rs, .val 0⟩]⟩,
  ⟨"EVSTAT", 0xF0, [], [⟨8, 0, .w1c, .val 0⟩]⟩,
  ⟨"EVEN", 0xF4, [], [⟨8, 0, .rw, .val 507⟩]⟩,
  ⟨"FLINT.EN", 0x100, [], [⟨0, 0, .rwl, .val 0⟩]⟩,
  ⟨"FLINTLOAD.ADDRLO", 0x104, [], [⟨31, 6, .rw, .val 0⟩]⟩,
  ⟨"FLINTLOAD.ADDRHI", 0x108, [], [⟨3, 0, .rw, .val 0⟩]⟩,
  ⟨"FLINTLOAD.CRC", 0x10C, [], [⟨31, 0, .rw, .val 0⟩]⟩,
  ⟨"FLINTLOAD.GO", 0x110, [], [⟨0, 0, .rwl, .val 0⟩]⟩,
  ⟨"FLINT.STATE", 0x114, [], [⟨31, 30, .rs, .val 0⟩, ⟨29, 29, .rs, .val 0⟩, ⟨28, 26, .rs, .val 0⟩]⟩,
  ⟨"FLINT.SIGEXP", 0x118, [], [⟨31, 0, .rs, .val 0⟩]⟩,
  ⟨"FLINT.SIGGOT", 0x11C, [], [⟨31, 0, .rs, .val 0⟩]⟩,
  ⟨"FLINT.ALARMS", 0x120, [], [⟨15, 0, .rs, .val 0⟩]⟩,
  ⟨"FLINT.FAILCNT", 0x124, [], [⟨15, 0, .ro, .val 0⟩]⟩,
  ⟨"REG[r].Y", 0x140, [(0x10, 4)], [⟨27, 16, .rw, .val 0⟩, ⟨11, 0, .rw, .val 0⟩]⟩]

/-- Registers of MICA, part 3. -/
def RegMap.mica2 : List RegDef := [
  ⟨"REG[r].H", 0x144, [(0x10, 4)], [⟨27, 16, .rw, .val 0⟩, ⟨11, 0, .rw, .val 0⟩]⟩,
  ⟨"REG[r].MODE", 0x148, [(0x10, 4)], [⟨31, 30, .rw, .val 0⟩, ⟨7, 0, .rw, .val 0⟩]⟩,
  ⟨"REG[r].EXPECT", 0x14C, [(0x10, 4)], [⟨31, 0, .rw, .val 0⟩]⟩,
  ⟨"REG[r].SIG", 0x180, [(0x4, 4)], [⟨31, 0, .rs, .val 0⟩]⟩,
  ⟨"LAY[l].TYPE", 0x1000, [(0x40, 63)], [⟨31, 30, .rw, .val 0⟩, ⟨29, 29, .rw, .val 0⟩, ⟨28, 27, .rw, .val 0⟩, ⟨26, 26, .rw, .val 0⟩, ⟨25, 20, .rw, .idxMul 1⟩, ⟨19, 16, .rw, .val 8⟩, ⟨9, 0, .rw, .val 1023⟩]⟩,
  ⟨"LAY[l].Y", 0x1004, [(0x40, 63)], [⟨27, 16, .rw, .val 0⟩, ⟨11, 0, .rw, .val 0⟩]⟩,
  ⟨"LAY[l].H", 0x1008, [(0x40, 63)], [⟨27, 16, .rw, .val 0⟩, ⟨11, 0, .rw, .val 0⟩]⟩,
  ⟨"LAY[l].COLOUR", 0x100C, [(0x40, 63)], [⟨29, 0, .rw, .val 0⟩]⟩,
  ⟨"LAY[l].GADDRLO", 0x1010, [(0x40, 63)], [⟨31, 6, .rw, .val 0⟩]⟩,
  ⟨"LAY[l].GADDRHI", 0x1014, [(0x40, 63)], [⟨3, 0, .rw, .val 0⟩]⟩,
  ⟨"LAY[l].PITCH", 0x1018, [(0x40, 63)], [⟨19, 0, .rw, .val 0⟩]⟩,
  ⟨"LAY[l].BOUND", 0x101C, [(0x40, 63)], [⟨31, 31, .rs, .val 0⟩, ⟨7, 0, .rs, .val 0⟩]⟩,
  ⟨"LAY[l].SRC", 0x1020, [(0x40, 63)], [⟨31, 0, .rs, .val 0⟩]⟩,
  ⟨"LAY[l].STATE", 0x1024, [(0x40, 63)], [⟨31, 29, .rs, .val 0⟩, ⟨27, 24, .rs, .val 0⟩, ⟨15, 0, .rs, .val 0⟩]⟩,
  ⟨"LAY[l].RSV28", 0x1028, [(0x40, 63)], []⟩,
  ⟨"LAY[l].RSV2C", 0x102C, [(0x40, 63)], []⟩]

/-- Registers of MICA, part 4. -/
def RegMap.mica3 : List RegDef := [
  ⟨"LAY[l].RSV30", 0x1030, [(0x40, 63)], []⟩,
  ⟨"LAY[l].RSV34", 0x1034, [(0x40, 63)], []⟩,
  ⟨"LAY[l].RSV38", 0x1038, [(0x40, 63)], []⟩,
  ⟨"LAY[l].RSV3C", 0x103C, [(0x40, 63)], []⟩,
  ⟨"ACT[l].TYPE", 0x3000, [(0x40, 63)], [⟨31, 30, .rs, .val 0⟩, ⟨29, 29, .rs, .val 0⟩, ⟨28, 27, .rs, .val 0⟩, ⟨26, 26, .rs, .val 0⟩, ⟨25, 20, .rs, .idxMul 1⟩, ⟨19, 16, .rs, .val 8⟩, ⟨9, 0, .rs, .val 1023⟩]⟩,
  ⟨"ACT[l].Y", 0x3004, [(0x40, 63)], [⟨27, 16, .rs, .val 0⟩, ⟨11, 0, .rs, .val 0⟩]⟩,
  ⟨"ACT[l].H", 0x3008, [(0x40, 63)], [⟨27, 16, .rs, .val 0⟩, ⟨11, 0, .rs, .val 0⟩]⟩,
  ⟨"ACT[l].COLOUR", 0x300C, [(0x40, 63)], [⟨29, 0, .rs, .val 0⟩]⟩,
  ⟨"ACT[l].GADDRLO", 0x3010, [(0x40, 63)], [⟨31, 6, .rs, .val 0⟩]⟩,
  ⟨"ACT[l].GADDRHI", 0x3014, [(0x40, 63)], [⟨3, 0, .rs, .val 0⟩]⟩,
  ⟨"ACT[l].PITCH", 0x3018, [(0x40, 63)], [⟨19, 0, .rs, .val 0⟩]⟩]

/-- The register map of MICA (spec/11_compositor.md). -/
def RegMap.mica : List RegDef := RegMap.mica0 ++ RegMap.mica1 ++ RegMap.mica2 ++ RegMap.mica3

/-- Registers of DEC, part 1. -/
def RegMap.dec0 : List RegDef := [
  ⟨"CTRL", 0x0, [], [⟨1, 1, .wo, .val 0⟩, ⟨0, 0, .rw, .val 0⟩]⟩,
  ⟨"STAT", 0x4, [], [⟨2, 2, .ro, .val 0⟩, ⟨1, 1, .w1c, .val 0⟩, ⟨0, 0, .rs, .val 0⟩]⟩,
  ⟨"VER", 0x8, [], [⟨31, 16, .ro, .val 3564⟩, ⟨15, 8, .ro, .val 2⟩, ⟨7, 0, .ro, .val 0⟩]⟩,
  ⟨"SRC", 0x10, [], [⟨31, 0, .ro, .val 0⟩]⟩,
  ⟨"VALID", 0x14, [], [⟨31, 31, .ro, .val 0⟩, ⟨18, 16, .ro, .val 0⟩, ⟨5, 0, .ro, .val 0⟩]⟩,
  ⟨"H", 0x18, [], [⟨27, 16, .ro, .val 0⟩, ⟨11, 0, .ro, .val 0⟩]⟩,
  ⟨"ESE", 0x1C, [], [⟨12, 0, .ro, .val 0⟩]⟩,
  ⟨"FILL", 0x20, [], [⟨1, 0, .rs, .val 0⟩]⟩,
  ⟨"FRAMES", 0x24, [], [⟨31, 0, .ro, .val 0⟩]⟩,
  ⟨"TOKFAIL", 0x28, [], [⟨31, 16, .ro, .val 0⟩, ⟨15, 0, .ro, .val 0⟩]⟩]

/-- The register map of DEC (spec/11_compositor.md). -/
def RegMap.dec : List RegDef := RegMap.dec0

/-- Registers of SCAN, part 1. -/
def RegMap.scan0 : List RegDef := [
  ⟨"CTRL", 0x0, [], [⟨1, 1, .wo, .val 0⟩, ⟨0, 0, .rw, .val 0⟩]⟩,
  ⟨"STAT", 0x4, [], [⟨10, 8, .rs, .val 0⟩, ⟨7, 5, .rs, .val 0⟩, ⟨4, 4, .rs, .val 0⟩, ⟨2, 2, .ro, .val 0⟩, ⟨1, 1, .w1c, .val 0⟩, ⟨0, 0, .rs, .val 0⟩]⟩,
  ⟨"VER", 0x8, [], [⟨31, 16, .ro, .val 1482⟩, ⟨15, 8, .ro, .val 2⟩, ⟨7, 0, .ro, .val 0⟩]⟩,
  ⟨"LINKCFG", 0x10, [], [⟨9, 8, .rwd, .val 1⟩, ⟨5, 4, .rwd, .val 2⟩, ⟨1, 0, .rwd, .val 3⟩]⟩,
  ⟨"FBCFG", 0x14, [], [⟨27, 8, .rwd, .val 0⟩, ⟨1, 0, .rwd, .val 2⟩]⟩,
  ⟨"PIXCLK", 0x18, [], [⟨19, 0, .rwd, .val 0⟩]⟩,
  ⟨"HTIM", 0x1C, [], [⟨27, 16, .rwd, .val 0⟩, ⟨11, 0, .rwd, .val 0⟩]⟩,
  ⟨"HSYNC", 0x20, [], [⟨31, 31, .rwd, .val 0⟩, ⟨27, 16, .rwd, .val 0⟩, ⟨11, 0, .rwd, .val 0⟩]⟩,
  ⟨"VTIM", 0x24, [], [⟨27, 16, .rwd, .val 0⟩, ⟨11, 0, .rwd, .val 0⟩]⟩,
  ⟨"VSYNC", 0x28, [], [⟨31, 31, .rwd, .val 0⟩, ⟨27, 16, .rwd, .val 0⟩, ⟨11, 0, .rwd, .val 0⟩]⟩,
  ⟨"PSRCFG", 0x2C, [], [⟨8, 8, .rw, .val 0⟩, ⟨7, 0, .rw, .val 4⟩]⟩,
  ⟨"PSREXIT", 0x30, [], [⟨0, 0, .wo, .val 0⟩]⟩,
  ⟨"NEXTLO", 0x40, [], [⟨31, 6, .rw, .val 0⟩]⟩,
  ⟨"NEXTHI", 0x44, [], [⟨3, 0, .rw, .val 0⟩]⟩,
  ⟨"FLIP", 0x48, [], [⟨0, 0, .wo, .val 0⟩]⟩,
  ⟨"CURLO", 0x4C, [], [⟨31, 6, .rs, .val 0⟩]⟩]

/-- Registers of SCAN, part 2. -/
def RegMap.scan1 : List RegDef := [
  ⟨"CURHI", 0x50, [], [⟨3, 0, .rs, .val 0⟩]⟩,
  ⟨"FRAMECNT", 0x60, [], [⟨31, 0, .rs, .val 0⟩]⟩,
  ⟨"FLIPTSLO", 0x64, [], [⟨31, 0, .rs, .val 0⟩]⟩,
  ⟨"FLIPTSHI", 0x68, [], [⟨31, 0, .rs, .val 0⟩]⟩,
  ⟨"FLIPSEQ", 0x6C, [], [⟨15, 0, .rs, .val 0⟩]⟩,
  ⟨"CNT", 0x70, [], [⟨31, 16, .ro, .val 0⟩, ⟨15, 0, .ro, .val 0⟩]⟩,
  ⟨"AUXCMD", 0x80, [], [⟨31, 28, .wo, .val 0⟩, ⟨23, 4, .wo, .val 0⟩, ⟨3, 0, .wo, .val 0⟩]⟩,
  ⟨"AUXDATA[k]", 0x84, [(0x4, 4)], [⟨31, 0, .rw, .val 0⟩]⟩,
  ⟨"AUXRES", 0x94, [], [⟨31, 31, .rs, .val 0⟩, ⟨1, 0, .rs, .val 0⟩]⟩]

/-- The register map of SCAN (spec/12_panel_scanout.md). -/
def RegMap.scan : List RegDef := RegMap.scan0 ++ RegMap.scan1

/-- Registers of LANE, part 1. -/
def RegMap.lane0 : List RegDef := [
  ⟨"CTRL", 0x0, [], [⟨1, 1, .wo, .val 0⟩, ⟨0, 0, .rw, .val 0⟩]⟩,
  ⟨"STAT", 0x4, [], [⟨15, 15, .rs, .val 0⟩, ⟨14, 14, .rs, .val 0⟩, ⟨13, 13, .rs, .val 0⟩, ⟨12, 12, .rs, .val 0⟩, ⟨11, 11, .rs, .val 0⟩, ⟨10, 8, .rs, .val 0⟩, ⟨7, 6, .rs, .val 0⟩, ⟨2, 2, .ro, .val 0⟩, ⟨1, 1, .w1c, .val 0⟩, ⟨0, 0, .rs, .val 0⟩]⟩,
  ⟨"VER", 0x8, [], [⟨31, 16, .ro, .val 423⟩, ⟨15, 8, .ro, .val 2⟩, ⟨7, 0, .ro, .val 0⟩]⟩,
  ⟨"CFG", 0x10, [], [⟨18, 18, .rwd, .val 1⟩, ⟨17, 17, .rwd, .val 0⟩, ⟨16, 16, .rwd, .val 0⟩, ⟨13, 12, .rwd, .val 0⟩, ⟨9, 9, .rwd, .val 0⟩, ⟨8, 8, .rwd, .val 0⟩, ⟨6, 4, .rwd, .val 0⟩, ⟨2, 0, .rwd, .val 0⟩]⟩,
  ⟨"TXSTAT", 0x14, [], [⟨8, 8, .rs, .val 0⟩, ⟨7, 4, .rs, .val 15⟩]⟩,
  ⟨"TXEQ", 0x18, [], [⟨20, 16, .rw, .val 0⟩, ⟨13, 8, .rw, .val 63⟩, ⟨3, 0, .rw, .val 0⟩]⟩,
  ⟨"RXEQCTL", 0x1C, [], [⟨1, 1, .rw, .val 0⟩, ⟨0, 0, .rw, .val 0⟩]⟩,
  ⟨"RXEQ.CTLE", 0x20, [], [⟨4, 0, .rs, .val 0⟩]⟩,
  ⟨"RXEQ", 0x24, [], [⟨31, 24, .rs, .val 0⟩, ⟨23, 16, .rs, .val 0⟩, ⟨15, 8, .rs, .val 0⟩, ⟨7, 0, .rs, .val 0⟩]⟩,
  ⟨"RXEQ.DFE5", 0x28, [], [⟨7, 0, .rs, .val 0⟩]⟩,
  ⟨"RXEQSET.CTLE", 0x2C, [], [⟨4, 0, .rw, .val 8⟩]⟩,
  ⟨"RXEQSET", 0x30, [], [⟨31, 24, .rw, .val 0⟩, ⟨23, 16, .rw, .val 0⟩, ⟨15, 8, .rw, .val 0⟩, ⟨7, 0, .rw, .val 0⟩]⟩,
  ⟨"RXEQSET.DFE5", 0x34, [], [⟨7, 0, .rw, .val 0⟩]⟩,
  ⟨"EYE", 0x38, [], [⟨31, 16, .rs, .val 0⟩, ⟨15, 0, .rs, .val 0⟩]⟩,
  ⟨"BLKCNT", 0x40, [], [⟨31, 16, .ro, .val 0⟩, ⟨7, 0, .ro, .val 0⟩]⟩,
  ⟨"CELLCNT", 0x44, [], [⟨31, 16, .ro, .val 0⟩, ⟨15, 8, .ro, .val 0⟩, ⟨7, 0, .ro, .val 0⟩]⟩]

/-- Registers of LANE, part 2. -/
def RegMap.lane1 : List RegDef := [
  ⟨"PEER", 0x48, [], [⟨31, 14, .rs, .val 0⟩, ⟨13, 5, .rs, .val 0⟩, ⟨4, 2, .rs, .val 0⟩, ⟨0, 0, .rs, .val 0⟩]⟩,
  ⟨"PRBS", 0x50, [], [⟨31, 31, .rs, .val 0⟩, ⟨2, 2, .rwd, .val 0⟩, ⟨1, 1, .rwd, .val 0⟩, ⟨0, 0, .rwd, .val 0⟩]⟩,
  ⟨"PRBSERR", 0x54, [], [⟨31, 0, .rw, .val 0⟩]⟩,
  ⟨"PWR", 0x60, [], [⟨1, 1, .rs, .val 0⟩, ⟨0, 0, .rwd, .val 0⟩]⟩,
  ⟨"EVSTAT", 0xF0, [], [⟨12, 0, .w1c, .val 0⟩]⟩,
  ⟨"EVEN", 0xF4, [], [⟨12, 0, .rw, .val 0x1fbf⟩]⟩]

/-- The register map of LANE (spec/13_lanes.md). -/
def RegMap.lane : List RegDef := RegMap.lane0 ++ RegMap.lane1

/-- Registers of QUAD, part 1. -/
def RegMap.quad0 : List RegDef := [
  ⟨"CTRL", 0x0, [], [⟨1, 1, .wo, .val 0⟩, ⟨0, 0, .rw, .val 0⟩]⟩,
  ⟨"STAT", 0x4, [], [⟨6, 6, .rs, .val 0⟩, ⟨5, 5, .rs, .val 0⟩, ⟨4, 4, .rs, .val 0⟩, ⟨2, 2, .ro, .val 0⟩, ⟨1, 1, .w1c, .val 0⟩, ⟨0, 0, .rs, .val 0⟩]⟩,
  ⟨"VER", 0x8, [], [⟨31, 16, .ro, .val 1197⟩, ⟨15, 8, .ro, .val 2⟩, ⟨7, 0, .ro, .val 0⟩]⟩,
  ⟨"CFG", 0x10, [], [⟨0, 0, .rwd, .val 0⟩]⟩,
  ⟨"PLLA", 0x14, [], [⟨31, 31, .rs, .val 0⟩, ⟨30, 30, .rs, .val 0⟩, ⟨29, 29, .rs, .val 0⟩, ⟨18, 16, .rs, .val 0⟩, ⟨3, 0, .rs, .val 15⟩]⟩,
  ⟨"PLLB", 0x18, [], [⟨31, 31, .rs, .val 0⟩, ⟨30, 30, .rs, .val 0⟩, ⟨29, 29, .rs, .val 0⟩, ⟨18, 16, .rs, .val 0⟩, ⟨3, 0, .rs, .val 15⟩]⟩,
  ⟨"PWR", 0x20, [], [⟨1, 1, .rs, .val 0⟩, ⟨0, 0, .rwd, .val 0⟩]⟩,
  ⟨"CNT", 0x24, [], [⟨31, 16, .ro, .val 0⟩, ⟨15, 0, .ro, .val 0⟩]⟩,
  ⟨"EVSTAT", 0xF0, [], [⟨3, 0, .w1c, .val 0⟩]⟩,
  ⟨"EVEN", 0xF4, [], [⟨3, 0, .rw, .val 15⟩]⟩]

/-- The register map of QUAD (spec/13_lanes.md). -/
def RegMap.quad : List RegDef := RegMap.quad0

/-- Registers of GBUS, part 1. -/
def RegMap.gbus0 : List RegDef := [
  ⟨"CTRL", 0x0, [], [⟨1, 1, .wo, .val 0⟩, ⟨0, 0, .rw, .val 0⟩]⟩,
  ⟨"STAT", 0x4, [], [⟨12, 11, .rs, .val 0⟩, ⟨10, 10, .w1c, .val 0⟩, ⟨9, 9, .rs, .val 0⟩, ⟨8, 8, .rs, .val 1⟩, ⟨5, 4, .rs, .val 0⟩, ⟨2, 2, .ro, .val 0⟩, ⟨1, 1, .w1c, .val 0⟩, ⟨0, 0, .rs, .val 0⟩]⟩,
  ⟨"VER", 0x8, [], [⟨31, 16, .ro, .val 1717⟩, ⟨15, 8, .ro, .val 2⟩, ⟨7, 0, .ro, .val 0⟩]⟩,
  ⟨"CFG", 0x10, [], [⟨17, 16, .rwd, .val 3⟩, ⟨11, 8, .rwd, .val 3⟩, ⟨5, 0, .rwd, .val 0⟩]⟩,
  ⟨"TERR", 0x14, [], [⟨15, 0, .rw, .val 0xffff⟩]⟩,
  ⟨"TXLEN", 0x18, [], [⟨8, 0, .rw, .val 0⟩]⟩,
  ⟨"TXGO", 0x1C, [], [⟨0, 0, .wo, .val 0⟩]⟩,
  ⟨"CNT", 0x20, [], [⟨31, 16, .ro, .val 0⟩, ⟨15, 8, .ro, .val 0⟩, ⟨7, 0, .ro, .val 0⟩]⟩,
  ⟨"RXQ", 0x24, [], [⟨31, 31, .w1c, .val 0⟩, ⟨7, 0, .rs, .val 0⟩]⟩,
  ⟨"RXHDRLO", 0x28, [], [⟨31, 0, .rs, .val 0⟩]⟩,
  ⟨"RXHDRHI", 0x2C, [], [⟨31, 0, .rs, .val 0⟩]⟩,
  ⟨"RXLEN", 0x30, [], [⟨8, 0, .rs, .val 0⟩]⟩,
  ⟨"POP", 0x34, [], [⟨0, 0, .wo, .val 0⟩]⟩,
  ⟨"EVSTAT", 0xF0, [], [⟨13, 0, .w1c, .val 0⟩]⟩,
  ⟨"EVEN", 0xF4, [], [⟨13, 0, .rw, .val 0x3ffb⟩]⟩,
  ⟨"TXBUF[j]", 0x100, [(0x4, 64)], [⟨31, 0, .rw, .val 0⟩]⟩]

/-- Registers of GBUS, part 2. -/
def RegMap.gbus1 : List RegDef := [
  ⟨"RXDATA[j]", 0x200, [(0x4, 64)], [⟨31, 0, .rs, .val 0⟩]⟩,
  ⟨"MAP[k]", 0x400, [(0x4, 64)], [⟨31, 31, .rwd, .val 0⟩, ⟨29, 18, .rwd, .val 0⟩, ⟨17, 0, .rwd, .val 0⟩]⟩,
  ⟨"MEM[k].ST", 0x1000, [(0x20, 64)], [⟨31, 30, .rs, .val 0⟩, ⟨29, 29, .w1c, .val 0⟩, ⟨24, 16, .rs, .val 0⟩, ⟨15, 0, .rs, .val 0⟩]⟩,
  ⟨"MEM[k].DEVIDLO", 0x1004, [(0x20, 64)], [⟨31, 0, .rs, .val 0⟩]⟩,
  ⟨"MEM[k].DEVIDHI", 0x1008, [(0x20, 64)], [⟨31, 0, .rs, .val 0⟩]⟩,
  ⟨"MEM[k].TERR", 0x100C, [(0x20, 64)], [⟨15, 0, .rs, .val 0⟩]⟩,
  ⟨"MEM[k].CNT", 0x1010, [(0x20, 64)], [⟨31, 24, .ro, .val 0⟩, ⟨23, 16, .ro, .val 0⟩, ⟨15, 8, .ro, .val 0⟩, ⟨7, 0, .ro, .val 0⟩]⟩,
  ⟨"MEM[k].RSV14", 0x1014, [(0x20, 64)], []⟩,
  ⟨"MEM[k].RSV18", 0x1018, [(0x20, 64)], []⟩,
  ⟨"MEM[k].RSV1C", 0x101C, [(0x20, 64)], []⟩]

/-- The register map of GBUS (spec/19_druse_bus.md). -/
def RegMap.gbus : List RegDef := RegMap.gbus0 ++ RegMap.gbus1

/-- Registers of TWIN, part 1. -/
def RegMap.twin0 : List RegDef := [
  ⟨"CTRL", 0x0, [], [⟨1, 1, .wo, .val 0⟩, ⟨0, 0, .rw, .val 0⟩]⟩,
  ⟨"STAT", 0x4, [], [⟨15, 13, .rs, .val 0⟩, ⟨12, 12, .rs, .val 0⟩, ⟨11, 11, .rs, .val 0⟩, ⟨10, 10, .rs, .val 0⟩, ⟨9, 9, .w1c, .val 0⟩, ⟨2, 2, .ro, .val 0⟩, ⟨1, 1, .w1c, .val 0⟩, ⟨0, 0, .rs, .val 0⟩]⟩,
  ⟨"VER", 0x8, [], [⟨31, 16, .ro, .val 1857⟩, ⟨15, 8, .ro, .val 2⟩, ⟨7, 0, .ro, .val 0⟩]⟩,
  ⟨"CFG", 0x10, [], [⟨23, 16, .rwd, .val 0⟩, ⟨8, 8, .rwd, .val 0⟩, ⟨5, 5, .rwd, .val 1⟩]⟩,
  ⟨"CLAIM", 0x14, [], [⟨7, 0, .rwl, .val 1⟩]⟩,
  ⟨"DEADTIME", 0x18, [], [⟨7, 0, .rwd, .val 5⟩]⟩,
  ⟨"CARRIED", 0x1C, [], [⟨24, 16, .rs, .val 0⟩, ⟨8, 0, .rs, .val 0⟩]⟩,
  ⟨"PDEVIDLO", 0x20, [], [⟨31, 0, .rs, .val 0⟩]⟩,
  ⟨"PDEVIDHI", 0x24, [], [⟨31, 0, .rs, .val 0⟩]⟩,
  ⟨"CYCNUM", 0x28, [], [⟨31, 0, .rs, .val 0⟩]⟩,
  ⟨"ACKED", 0x2C, [], [⟨31, 0, .rs, .val 0⟩]⟩,
  ⟨"MIRSEQ", 0x30, [], [⟨31, 0, .rs, .val 0⟩]⟩,
  ⟨"COPYCNT", 0x34, [], [⟨31, 16, .ro, .val 0⟩, ⟨15, 0, .ro, .val 0⟩]⟩,
  ⟨"COPYBYTES", 0x38, [], [⟨31, 0, .rs, .val 0⟩]⟩,
  ⟨"XCHG", 0x40, [], [⟨0, 0, .wo, .val 0⟩]⟩,
  ⟨"RECOVER", 0x44, [], [⟨0, 0, .wo, .val 0⟩]⟩]

/-- Registers of TWIN, part 2. -/
def RegMap.twin1 : List RegDef := [
  ⟨"SIGMIS", 0x48, [], [⟨28, 16, .rs, .val 0⟩, ⟨15, 0, .ro, .val 0⟩]⟩,
  ⟨"AUTHCNT", 0x4C, [], [⟨15, 0, .ro, .val 0⟩]⟩,
  ⟨"EVSTAT", 0xF0, [], [⟨14, 0, .w1c, .val 0⟩]⟩,
  ⟨"EVEN", 0xF4, [], [⟨14, 0, .rw, .val 0x7fff⟩]⟩,
  ⟨"FMERGE[j]", 0x100, [(0x4, 256)], [⟨31, 31, .rwd, .val 0⟩, ⟨30, 30, .rs, .val 0⟩, ⟨29, 29, .rs, .val 0⟩, ⟨17, 9, .rwd, .val 0⟩, ⟨8, 0, .rwd, .val 0⟩]⟩,
  ⟨"SUPCFG", 0x500, [], [⟨31, 31, .rwd, .val 0⟩, ⟨30, 24, .rwd, .val 89⟩, ⟨22, 16, .rwd, .val 88⟩, ⟨15, 0, .rwd, .val 100⟩]⟩,
  ⟨"SUPSTAT", 0x504, [], [⟨1, 1, .rs, .val 0⟩, ⟨0, 0, .rs, .val 0⟩]⟩,
  ⟨"SUP[f].VIN", 0x510, [(0x10, 2)], [⟨31, 16, .rs, .val 0⟩, ⟨15, 0, .rs, .val 0⟩]⟩,
  ⟨"SUP[f].VOUT", 0x514, [(0x10, 2)], [⟨31, 16, .rs, .val 0⟩, ⟨15, 0, .rs, .val 0⟩]⟩,
  ⟨"SUP[f].TEMP", 0x518, [(0x10, 2)], [⟨31, 16, .rs, .val 0⟩, ⟨15, 0, .rs, .val 0⟩]⟩,
  ⟨"SUP[f].ERRCNT", 0x51C, [(0x10, 2)], [⟨15, 0, .ro, .val 0⟩]⟩]

/-- The register map of TWIN (spec/18_twin.md). -/
def RegMap.twin : List RegDef := RegMap.twin0 ++ RegMap.twin1

/-- Registers of DRC, part 1. -/
def RegMap.drc0 : List RegDef := [
  ⟨"CTRL", 0x0, [], [⟨1, 1, .wo, .val 0⟩, ⟨0, 0, .rw, .val 0⟩]⟩,
  ⟨"STAT", 0x4, [], [⟨8, 8, .rs, .val 0⟩, ⟨6, 5, .rs, .val 0⟩, ⟨2, 2, .ro, .val 0⟩, ⟨1, 1, .w1c, .val 0⟩, ⟨0, 0, .rs, .val 0⟩]⟩,
  ⟨"VER", 0x8, [], [⟨31, 16, .ro, .val 3342⟩, ⟨15, 8, .ro, .val 2⟩, ⟨7, 0, .ro, .val 0⟩]⟩,
  ⟨"TRAINRES", 0x10, [], [⟨31, 24, .rs, .val 0⟩, ⟨23, 16, .rs, .val 0⟩, ⟨15, 0, .rs, .val 0⟩]⟩,
  ⟨"ECCCNT", 0x14, [], [⟨31, 16, .ro, .val 0⟩, ⟨15, 0, .ro, .val 0⟩]⟩,
  ⟨"ECCADDRLO", 0x18, [], [⟨31, 0, .rs, .val 0⟩]⟩,
  ⟨"ECCADDRHI", 0x1C, [], [⟨3, 0, .rs, .val 0⟩]⟩,
  ⟨"REFCNT", 0x20, [], [⟨31, 16, .ro, .val 0⟩, ⟨3, 0, .rs, .val 0⟩]⟩,
  ⟨"LATECNT", 0x24, [], [⟨31, 16, .ro, .val 0⟩, ⟨15, 0, .ro, .val 0⟩]⟩,
  ⟨"TEMP", 0x28, [], [⟨2, 0, .rs, .val 0⟩]⟩,
  ⟨"TRACKOFS", 0x2C, [], [⟨15, 0, .rs, .val 0⟩]⟩,
  ⟨"CLSBYTES[k]", 0x30, [(0x4, 4)], [⟨31, 0, .ro, .val 0⟩]⟩,
  ⟨"EVSTAT", 0xF0, [], [⟨9, 0, .w1c, .val 0⟩]⟩,
  ⟨"EVEN", 0xF4, [], [⟨9, 0, .rw, .val 959⟩]⟩]

/-- The register map of DRC (spec/17_dram.md). -/
def RegMap.drc : List RegDef := RegMap.drc0

/-- Registers of DRCC, part 1. -/
def RegMap.drcc0 : List RegDef := [
  ⟨"CTRL", 0x0, [], [⟨1, 1, .wo, .val 0⟩, ⟨0, 0, .rw, .val 0⟩]⟩,
  ⟨"STAT", 0x4, [], [⟨11, 8, .rs, .val 0⟩, ⟨4, 4, .rs, .val 0⟩, ⟨2, 2, .ro, .val 0⟩, ⟨1, 1, .w1c, .val 0⟩, ⟨0, 0, .rs, .val 0⟩]⟩,
  ⟨"VER", 0x8, [], [⟨31, 16, .ro, .val 3340⟩, ⟨15, 8, .ro, .val 2⟩, ⟨7, 0, .ro, .val 0⟩]⟩,
  ⟨"CFG", 0x10, [], [⟨31, 30, .rwd, .val 2⟩, ⟨29, 28, .rwd, .val 2⟩, ⟨27, 26, .rwd, .val 1⟩, ⟨25, 25, .rwd, .val 0⟩, ⟨24, 24, .rwd, .val 0⟩, ⟨2, 0, .rwd, .val 3⟩]⟩,
  ⟨"CAP", 0x14, [], [⟨26, 16, .rs, .val 0⟩, ⟨10, 0, .rs, .val 0⟩]⟩,
  ⟨"PLAN", 0x18, [], [⟨31, 0, .rs, .val 0⟩]⟩,
  ⟨"CHARGED", 0x1C, [], [⟨31, 0, .rs, .val 0⟩]⟩,
  ⟨"SPACEHELD", 0x20, [], [⟨23, 0, .rs, .val 0⟩]⟩,
  ⟨"FWAREA", 0x30, [], [⟨15, 0, .rwd, .val 256⟩]⟩,
  ⟨"GFXBASE", 0x34, [], [⟨15, 0, .rwd, .val 256⟩]⟩,
  ⟨"GFXSIZE", 0x38, [], [⟨15, 0, .rwd, .val 512⟩]⟩,
  ⟨"REFCFG", 0x40, [], [⟨3, 0, .rwd, .val 8⟩]⟩,
  ⟨"AGE", 0x44, [], [⟨31, 24, .rwd, .val 255⟩, ⟨23, 16, .rwd, .val 64⟩, ⟨15, 8, .rwd, .val 16⟩, ⟨7, 0, .rwd, .val 8⟩]⟩,
  ⟨"SCRUB", 0x48, [], [⟨15, 0, .rwd, .val 600⟩]⟩,
  ⟨"TRACK", 0x4C, [], [⟨7, 0, .rwd, .val 4⟩]⟩,
  ⟨"CHKINV", 0x50, [], [⟨31, 31, .rwl, .val 0⟩, ⟨9, 8, .rwl, .val 0⟩, ⟨0, 0, .w1c, .val 0⟩]⟩]

/-- Registers of DRCC, part 2. -/
def RegMap.drcc1 : List RegDef := [
  ⟨"CHKADDRLO", 0x54, [], [⟨31, 3, .rwl, .val 0⟩]⟩,
  ⟨"CHKADDRHI", 0x58, [], [⟨3, 0, .rwl, .val 0⟩]⟩,
  ⟨"EVSTAT", 0xF0, [], [⟨9, 0, .w1c, .val 0⟩]⟩,
  ⟨"EVEN", 0xF4, [], [⟨9, 0, .rw, .val 959⟩]⟩]

/-- The register map of DRCC (spec/17_dram.md). -/
def RegMap.drcc : List RegDef := RegMap.drcc0 ++ RegMap.drcc1

/-- Registers of MGT, part 1. -/
def RegMap.mgt0 : List RegDef := [
  ⟨"CTRL", 0x0, [], [⟨1, 1, .wo, .val 0⟩, ⟨0, 0, .rw, .val 1⟩]⟩,
  ⟨"STAT", 0x4, [], [⟨19, 19, .w1c, .val 0⟩, ⟨18, 18, .w1c, .val 0⟩, ⟨17, 17, .w1c, .val 0⟩, ⟨16, 16, .w1c, .val 0⟩, ⟨2, 2, .ro, .val 0⟩, ⟨1, 1, .w1c, .val 0⟩, ⟨0, 0, .rs, .val 1⟩, ⟨4, 4, .w1c, .val 0⟩, ⟨3, 3, .w1c, .val 0⟩]⟩,
  ⟨"VER", 0x8, [], [⟨31, 16, .ro, .val 1127⟩, ⟨15, 8, .ro, .val 2⟩, ⟨7, 0, .ro, .val 0⟩]⟩,
  ⟨"IDCODE", 0x10, [], [⟨31, 16, .ro, .val 0x1024⟩, ⟨15, 8, .ro, .val 177⟩, ⟨7, 0, .ro, .val 76⟩]⟩,
  ⟨"UNLOCK", 0x14, [], [⟨15, 1, .wo, .val 0⟩, ⟨0, 0, .rw, .val 0⟩]⟩,
  ⟨"RSTCAUSE", 0x18, [], [⟨2, 0, .ro, .val 0⟩]⟩,
  ⟨"IGNADDR", 0x1C, [], [⟨31, 2, .ro, .val 0⟩, ⟨1, 0, .ro, .val 0⟩]⟩,
  ⟨"IGNCNT", 0x20, [], [⟨15, 0, .rw, .val 0⟩]⟩,
  ⟨"DWBANK", 0x24, [], [⟨5, 0, .rw, .val 0⟩]⟩,
  ⟨"WDCFG", 0x30, [], [⟨15, 8, .rwl, .val 20⟩, ⟨5, 0, .rwl, .val 50⟩]⟩,
  ⟨"WDSVC", 0x34, [], [⟨31, 0, .wo, .val 0⟩]⟩,
  ⟨"WDSTAT", 0x38, [], [⟨5, 0, .rs, .val 50⟩]⟩,
  ⟨"LOGSTAT", 0x40, [], [⟨11, 0, .rs, .val 0⟩, ⟨31, 16, .rs, .val 0⟩]⟩,
  ⟨"SPCFG", 0x44, [], [⟨0, 0, .rw, .val 0⟩]⟩,
  ⟨"SPCNT", 0x48, [], [⟨31, 16, .ro, .val 0⟩, ⟨15, 0, .ro, .val 0⟩]⟩,
  ⟨"DMA[k].SRCLO", 0x100, [(0x20, 2)], [⟨31, 0, .rw, .val 0⟩]⟩]

/-- Registers of MGT, part 2. -/
def RegMap.mgt1 : List RegDef := [
  ⟨"DMA[k].SRCHI", 0x104, [(0x20, 2)], [⟨7, 0, .rw, .val 0⟩]⟩,
  ⟨"DMA[k].DSTLO", 0x108, [(0x20, 2)], [⟨31, 0, .rw, .val 0⟩]⟩,
  ⟨"DMA[k].DSTHI", 0x10C, [(0x20, 2)], [⟨7, 0, .rw, .val 0⟩]⟩,
  ⟨"DMA[k].LEN", 0x110, [(0x20, 2)], [⟨24, 0, .rw, .val 0⟩]⟩,
  ⟨"DMA[k].GO", 0x114, [(0x20, 2)], [⟨0, 0, .wo, .val 0⟩]⟩,
  ⟨"DMA[k].STAT", 0x118, [(0x20, 2)], [⟨31, 31, .w1c, .val 0⟩, ⟨30, 30, .rs, .val 0⟩, ⟨2, 0, .rs, .val 0⟩]⟩]

/-- The register map of MGT (spec/21_management.md). -/
def RegMap.mgt : List RegDef := RegMap.mgt0 ++ RegMap.mgt1

/-- Registers of BMX, part 1. -/
def RegMap.bmx0 : List RegDef := [
  ⟨"CTRL", 0x0, [], [⟨2, 2, .rw, .val 0⟩, ⟨1, 1, .wo, .val 0⟩, ⟨0, 0, .rw, .val 1⟩]⟩,
  ⟨"STAT", 0x4, [], [⟨2, 2, .ro, .val 0⟩, ⟨1, 1, .w1c, .val 0⟩, ⟨0, 0, .rs, .val 1⟩]⟩,
  ⟨"VER", 0x8, [], [⟨31, 16, .ro, .val 2874⟩, ⟨15, 8, .ro, .val 2⟩, ⟨7, 0, .ro, .val 0⟩]⟩,
  ⟨"CNT", 0x10, [], [⟨31, 16, .ro, .val 0⟩, ⟨15, 0, .ro, .val 0⟩]⟩,
  ⟨"OUT[m]", 0x20, [(0x4, 8)], [⟨4, 0, .rs, .val 0⟩]⟩]

/-- The register map of BMX (spec/21_management.md). -/
def RegMap.bmx : List RegDef := RegMap.bmx0

/-- Registers of SNS, part 1. -/
def RegMap.sns0 : List RegDef := [
  ⟨"CTRL", 0x0, [], [⟨1, 1, .wo, .val 0⟩, ⟨0, 0, .rw, .val 1⟩]⟩,
  ⟨"STAT", 0x4, [], [⟨4, 4, .w1c, .val 0⟩, ⟨2, 2, .ro, .val 0⟩, ⟨1, 1, .w1c, .val 0⟩, ⟨0, 0, .rs, .val 1⟩]⟩,
  ⟨"VER", 0x8, [], [⟨31, 16, .ro, .val 1349⟩, ⟨15, 8, .ro, .val 2⟩, ⟨7, 0, .ro, .val 0⟩]⟩,
  ⟨"SAFEMASK0", 0x10, [], [⟨31, 0, .rwl, .val 0⟩]⟩,
  ⟨"SAFEMASK1", 0x14, [], [⟨7, 0, .rwl, .val 0⟩]⟩,
  ⟨"SAFEMASK2", 0x18, [], [⟨31, 0, .rwl, .val 0⟩]⟩,
  ⟨"TRIG", 0x20, [], [⟨6, 0, .wo, .val 0⟩]⟩,
  ⟨"TRIGRES", 0x24, [], [⟨31, 31, .w1c, .val 0⟩, ⟨15, 0, .rs, .val 0⟩]⟩,
  ⟨"TEMP[i]", 0x100, [(0x4, 40)], [⟨15, 0, .rs, .val 0⟩]⟩,
  ⟨"VOLT[j]", 0x200, [(0x4, 32)], [⟨15, 0, .rs, .val 0⟩]⟩,
  ⟨"TLIM[i]", 0x400, [(0x4, 40)], [⟨31, 16, .rw, .val 1760⟩, ⟨15, 0, .rw, .val 0xfec0⟩]⟩,
  ⟨"VLIM[j]", 0x500, [(0x4, 32)], [⟨31, 16, .rw, .val 0xffff⟩, ⟨15, 0, .rw, .val 0⟩]⟩,
  ⟨"HYST", 0x600, [], [⟨15, 8, .rw, .val 20⟩, ⟨7, 0, .rw, .val 32⟩]⟩]

/-- The register map of SNS (spec/21_management.md). -/
def RegMap.sns : List RegDef := RegMap.sns0

/-- Registers of KEY, part 1. -/
def RegMap.key0 : List RegDef := [
  ⟨"CTRL", 0x0, [], [⟨1, 1, .wo, .val 0⟩, ⟨0, 0, .rw, .val 0⟩]⟩,
  ⟨"STAT", 0x4, [], [⟨15, 13, .rs, .val 0⟩, ⟨12, 12, .rs, .val 0⟩, ⟨11, 11, .rs, .val 0⟩, ⟨10, 10, .rs, .val 0⟩, ⟨9, 9, .rs, .val 0⟩, ⟨2, 2, .ro, .val 0⟩, ⟨1, 1, .w1c, .val 0⟩, ⟨0, 0, .rs, .val 0⟩]⟩,
  ⟨"VER", 0x8, [], [⟨31, 16, .ro, .val 3303⟩, ⟨15, 8, .ro, .val 2⟩, ⟨7, 0, .ro, .val 0⟩]⟩,
  ⟨"WINLEFT", 0x10, [], [⟨5, 0, .rs, .val 0⟩]⟩,
  ⟨"DEVIDLO", 0x14, [], [⟨31, 0, .ro, .val 0⟩]⟩,
  ⟨"DEVIDHI", 0x18, [], [⟨31, 0, .ro, .val 0⟩]⟩,
  ⟨"KEYCTR", 0x1C, [], [⟨31, 0, .ro, .val 0⟩]⟩,
  ⟨"OWNERS", 0x20, [], [⟨8, 8, .ro, .val 0⟩, ⟨3, 0, .ro, .val 0⟩]⟩,
  ⟨"FUSES", 0x24, [], [⟨10, 4, .ro, .val 0⟩, ⟨2, 2, .ro, .val 0⟩, ⟨1, 1, .ro, .val 0⟩, ⟨0, 0, .ro, .val 0⟩]⟩,
  ⟨"LCSEQ", 0x28, [], [⟨31, 0, .ro, .val 0⟩]⟩,
  ⟨"CMD", 0x30, [], [⟨7, 4, .wo, .val 0⟩, ⟨3, 0, .wo, .val 0⟩]⟩,
  ⟨"RES", 0x34, [], [⟨31, 31, .rs, .val 0⟩, ⟨4, 0, .rs, .val 0⟩]⟩,
  ⟨"MSG[j]", 0x100, [(0x4, 128)], [⟨31, 0, .rw, .val 0⟩]⟩,
  ⟨"IDPUB[j]", 0x300, [(0x4, 24)], [⟨31, 0, .ro, .val 0⟩]⟩,
  ⟨"CERT[j]", 0x400, [(0x4, 256)], [⟨31, 0, .ro, .val 0⟩]⟩]

/-- The register map of KEY (spec/23_update_keys.md). -/
def RegMap.key : List RegDef := RegMap.key0

/-- Registers of UPD, part 1. -/
def RegMap.upd0 : List RegDef := [
  ⟨"CTRL", 0x0, [], [⟨1, 1, .wo, .val 0⟩, ⟨0, 0, .rw, .val 0⟩]⟩,
  ⟨"STAT", 0x4, [], [⟨15, 12, .rs, .val 0⟩, ⟨8, 8, .rs, .val 0⟩, ⟨2, 2, .ro, .val 0⟩, ⟨1, 1, .w1c, .val 0⟩, ⟨0, 0, .rs, .val 0⟩]⟩,
  ⟨"VER", 0x8, [], [⟨31, 16, .ro, .val 2512⟩, ⟨15, 8, .ro, .val 2⟩, ⟨7, 0, .ro, .val 0⟩]⟩,
  ⟨"CMD", 0x10, [], [⟨3, 0, .wo, .val 0⟩]⟩,
  ⟨"ARG[j]", 0x14, [(0x4, 4)], [⟨31, 0, .rw, .val 0⟩]⟩,
  ⟨"RES", 0x30, [], [⟨31, 31, .rs, .val 0⟩, ⟨4, 0, .rs, .val 0⟩]⟩,
  ⟨"SLOTS", 0x34, [], [⟨11, 8, .rs, .val 0⟩, ⟨3, 3, .rs, .val 0⟩, ⟨2, 2, .rs, .val 0⟩, ⟨1, 1, .rs, .val 0⟩, ⟨0, 0, .rs, .val 0⟩]⟩,
  ⟨"TRIALLEFT", 0x38, [], [⟨16, 0, .rs, .val 0⟩]⟩,
  ⟨"SECVERLO", 0x40, [], [⟨31, 0, .ro, .val 0⟩]⟩,
  ⟨"SECVERHI", 0x44, [], [⟨31, 0, .ro, .val 0⟩]⟩,
  ⟨"MINSVLO", 0x48, [], [⟨31, 0, .ro, .val 0⟩]⟩,
  ⟨"MINSVHI", 0x4C, [], [⟨31, 0, .ro, .val 0⟩]⟩,
  ⟨"HDRSEQ", 0x50, [], [⟨31, 0, .ro, .val 0⟩]⟩,
  ⟨"SETDROP", 0x54, [], [⟨15, 0, .ro, .val 0⟩]⟩,
  ⟨"BUF[j]", 0x1000, [(0x4, 1024)], [⟨31, 0, .rw, .val 0⟩]⟩]

/-- The register map of UPD (spec/23_update_keys.md). -/
def RegMap.upd : List RegDef := RegMap.upd0

/-- The register map of each block type. -/
def BlkKind.regs : BlkKind → List RegDef
  | .cfg => RegMap.cfg
  | .flt => RegMap.flt
  | .time => RegMap.time
  | .lode => RegMap.lode
  | .fab => RegMap.fab
  | .chn => RegMap.chn
  | .prov => RegMap.prov
  | .sdi => RegMap.sdi
  | .eth => RegMap.eth
  | .ipm => RegMap.ipm
  | .aud => RegMap.aud
  | .aprt => RegMap.aprt
  | .cnv => RegMap.cnv
  | .mica => RegMap.mica
  | .dec => RegMap.dec
  | .scan => RegMap.scan
  | .lane => RegMap.lane
  | .quad => RegMap.quad
  | .gbus => RegMap.gbus
  | .twin => RegMap.twin
  | .drc => RegMap.drc
  | .drcc => RegMap.drcc
  | .mgt => RegMap.mgt
  | .bmx => RegMap.bmx
  | .sns => RegMap.sns
  | .key => RegMap.key
  | .upd => RegMap.upd

/-- The first register of a list that has an instance at an offset, with its indices. -/
def RegMap.findIn : List RegDef → Nat → Option (RegDef × Nat × Nat)
  | [], _ => none
  | r :: rs, o =>
      match r.at? o with
      | some ix => some (r, ix)
      | none => RegMap.findIn rs o

/-- The fields a register has in a page: of a control port LANE, MEDIAPCP, UDPCS and MCHASH are reserved (R379). -/
def Blk.trim (b : Blk) (r : RegDef) : RegDef :=
  match b.kind with
  | .eth =>
      if b.inst < 64 then r
      else if r.off = 0x10 then { r with flds := r.flds.filter fun f => f.hi != 31 && f.hi != 26 && f.hi != 7 }
      else if r.off = 0x200 then { r with flds := [] }
      else r
  | _ => r

/-- The register a byte address names, with its block instance and indices; `none` is unmapped (R35). -/
def RegMap.find (a : Nat) : Option (Blk × RegDef × Nat × Nat) :=
  match Blk.ofAddr a with
  | some (b, o) =>
      match RegMap.findIn b.kind.regs o with
      | some (r, i) => some (b, b.trim r, i)
      | none => none
  | none => none

/-- Default severities (0 INFO, 1 WARN, 2 DEGRADE, 3 FAIL) as runs of sources: first, last, severity. A source in
no run is reserved (R486, R491 and the event table of each chapter). -/
def defaultSevRuns : List (Nat × Nat × Nat) :=
  [(0, 0, 1), (1, 1, 3), (2, 2, 1), (8, 10, 3), (16, 16, 1), (17, 17, 2), (18, 18, 0), (19, 19, 3), (20, 20, 0), (21, 21, 1), (32, 33, 1), (34, 34, 0)] ++
  [(35, 37, 1), (38, 39, 2), (40, 40, 0), (41, 42, 1), (43, 44, 2), (45, 45, 1), (46, 46, 0), (86, 88, 1), (89, 90, 0), (91, 91, 1), (92, 92, 0), (93, 93, 3)] ++
  [(94, 94, 1), (96, 97, 1), (98, 98, 2), (99, 100, 3), (101, 101, 2), (102, 102, 0), (103, 103, 2), (104, 104, 0), (108, 108, 1), (109, 109, 0), (110, 110, 1), (111, 111, 0)] ++
  [(112, 112, 1), (113, 113, 0), (114, 114, 2), (115, 116, 1), (117, 117, 2), (118, 118, 0), (119, 119, 1), (120, 120, 0), (121, 121, 1), (122, 122, 0), (123, 124, 1), (125, 125, 0)] ++
  [(128, 128, 1), (129, 129, 0), (130, 133, 1), (134, 134, 0), (135, 135, 1), (136, 136, 2), (137, 137, 1), (138, 138, 0), (139, 139, 1), (160, 160, 1), (161, 161, 2), (162, 162, 1)] ++
  [(163, 163, 2), (164, 164, 0), (165, 167, 1), (168, 168, 0), (169, 169, 2), (170, 171, 0), (192, 703, 1), (704, 831, 2), (832, 896, 1), (897, 897, 0), (898, 902, 1), (903, 903, 0)] ++
  [(904, 905, 1), (906, 906, 0), (907, 907, 1), (908, 908, 2), (909, 909, 0), (910, 910, 1), (944, 951, 1), (960, 960, 1), (961, 961, 0), (962, 964, 1), (965, 966, 0), (967, 967, 2)] ++
  [(968, 968, 1), (969, 970, 0), (971, 971, 3), (972, 972, 2), (973, 973, 0), (992, 993, 1), (994, 994, 0), (995, 995, 2), (996, 997, 1), (998, 998, 2), (999, 1000, 1), (1024, 1151, 3)] ++
  [(1152, 1216, 1), (1217, 1217, 0), (1218, 1218, 1), (1219, 1219, 0), (1224, 1231, 1), (1272, 1272, 3), (1280, 1312, 1), (1313, 1313, 2), (1314, 1314, 1), (1315, 1315, 3), (1316, 1316, 1), (1317, 1317, 2)] ++
  [(1318, 1318, 1), (1319, 1319, 3), (1320, 1320, 1), (1321, 1321, 2), (1322, 1322, 1), (1323, 1323, 3), (1324, 1324, 1), (1325, 1325, 2), (1326, 1326, 1), (1327, 1327, 3), (1328, 1328, 1), (1329, 1329, 2)] ++
  [(1330, 1330, 1), (1331, 1331, 3), (1332, 1332, 1), (1333, 1333, 2), (1334, 1334, 1), (1335, 1335, 3), (1336, 1336, 1), (1337, 1337, 2), (1338, 1338, 1), (1339, 1339, 3), (1340, 1340, 1), (1341, 1341, 2)] ++
  [(1342, 1342, 1), (1343, 1343, 3), (1344, 1346, 1), (1347, 1347, 0), (1348, 1349, 1), (1352, 1383, 2), (1384, 1384, 1), (1385, 1385, 0), (1386, 1386, 1), (1387, 1387, 2), (1388, 1388, 3), (1389, 1390, 2)] ++
  [(1391, 1392, 1), (1393, 1393, 3), (1394, 1394, 0), (1395, 1396, 2), (1397, 1397, 0), (1398, 1399, 1), (1416, 1416, 1), (1417, 1417, 2), (1418, 1418, 0), (1419, 1421, 1), (1422, 1422, 0), (1423, 1423, 2)] ++
  [(1424, 1424, 0), (1425, 1428, 1), (1429, 1429, 0)]

/-- The run of `defaultSevRuns` that holds source i. -/
def sevRun : List (Nat × Nat × Nat) → Nat → Option Nat
  | [], _ => none
  | (a, b, v) :: rs, i => if a ≤ i ∧ i ≤ b then some v else sevRun rs i

/-- The default severity of an event source (R491); reserved sources are INFO. -/
def defaultSeverity (i : Nat) : Nat := (sevRun defaultSevRuns i).getD 0

/-- R491: LOG for INFO and WARN, INTERRUPT for DEGRADE and FAIL, NONE for a reserved source. -/
def defaultReaction (i : Nat) : Nat :=
  match sevRun defaultSevRuns i with
  | none => 0
  | some v => if v < 2 then 1 else 2

/-- The reset value of a field of a register with first index i. -/
def Fld.reset (f : Fld) (i : Nat) : Nat :=
  match f.rst with
  | .val n => n
  | .idxMul n => i * n
  | .matDiag => if i % 4 = 0 then 0x1000 else 0
  | .srcSev => defaultSeverity i
  | .srcReact => defaultReaction i

/-- A register's word at reset, put together from the reset values of its fields. -/
def RegDef.resetWord (r : RegDef) (i : Nat) : Nat :=
  r.flds.foldl (fun w f => w + f.reset i % 2 ^ (f.hi + 1 - f.lo) * 2 ^ f.lo) 0

/-- What an address of the register space holds at reset; an unmapped address reads zero (R35). -/
def resetWord (a : Nat) : BitVec 32 :=
  match RegMap.find a with
  | some (_, r, i, _) => BitVec.ofNat 32 (r.resetWord i)
  | none => 0

end Sys2Proof.Machine
end

