-- ==== Sys2Proof/Machine/Regs.lean ====
section
/-! DEFINITION. A name for every field of every register of the register map, as the tables of spec/ name them:
`Reg.FAB.RT_CUR i` is field CUR of FAB.RT[i]. SDI fields take the base address of their page, because the ST 2022-6
engines of IPM (R242) show pages of the same layout. -/

namespace Sys2Proof.Machine

/-- The page of SDI[n] (R34). -/
def sdiPage (n : Nat) : Nat := 0x18000000 + 0x1000 * n

/-- The page of IPM.S6R[k] (R242). -/
def s6rPage (k : Nat) : Nat := 0x1C080000 + 0x1000 * k

/-- The page of IPM.S6T[k] (R242). -/
def s6tPage (k : Nat) : Nat := 0x1C0C0000 + 0x1000 * k

namespace Reg.CFG

def CTRL_SRST : FRef := ⟨0x10000000, 1, 1⟩
def CTRL_EN : FRef := ⟨0x10000000, 0, 0⟩
def STAT_STEP : FRef := ⟨0x10000004, 15, 12⟩
def STAT_DEGRADED : FRef := ⟨0x10000004, 9, 9⟩
def STAT_FALLBACK : FRef := ⟨0x10000004, 8, 8⟩
def STAT_SLOT : FRef := ⟨0x10000004, 5, 4⟩
def STAT_WPEND : FRef := ⟨0x10000004, 2, 2⟩
def STAT_CFG_IGN : FRef := ⟨0x10000004, 1, 1⟩
def STAT_RUN : FRef := ⟨0x10000004, 0, 0⟩
def VER_BLOCKID : FRef := ⟨0x10000008, 31, 16⟩
def VER_MAJOR : FRef := ⟨0x10000008, 15, 8⟩
def VER_MINOR : FRef := ⟨0x10000008, 7, 0⟩
def IMGSEQ : FRef := ⟨0x10000010, 31, 0⟩
def REJECT_VALID : FRef := ⟨0x10000014, 31, 31⟩
def REJECT_SLOT : FRef := ⟨0x10000014, 30, 30⟩
def REJECT_RESULT : FRef := ⟨0x10000014, 20, 16⟩
def REJECT_REASON : FRef := ⟨0x10000014, 4, 0⟩
def REJREC : FRef := ⟨0x10000018, 31, 0⟩
def COUNTS_SKIPS : FRef := ⟨0x1000001C, 31, 16⟩
def COUNTS_NOPS : FRef := ⟨0x1000001C, 15, 0⟩
def RECS : FRef := ⟨0x10000020, 31, 0⟩
def DEVICE_DRAMREQ : FRef := ⟨0x10000024, 4, 4⟩
def DEVICE_ROLE : FRef := ⟨0x10000024, 1, 0⟩
def LOCKWAIT : FRef := ⟨0x10000028, 31, 0⟩
def STEPTIME (k : Nat) : FRef := ⟨0x10000040 + 0x4 * k, 31, 0⟩
def MEASFW (j : Nat) : FRef := ⟨0x10000100 + 0x4 * j, 31, 0⟩
def MEASCFG (j : Nat) : FRef := ⟨0x10000140 + 0x4 * j, 31, 0⟩
def MEASPAIR (j : Nat) : FRef := ⟨0x10000180 + 0x4 * j, 31, 0⟩

end Reg.CFG

namespace Reg.FLT

def CTRL_SRST : FRef := ⟨0x11000000, 1, 1⟩
def CTRL_EN : FRef := ⟨0x11000000, 0, 0⟩
def STAT_BRB : FRef := ⟨0x11000004, 9, 9⟩
def STAT_ARB : FRef := ⟨0x11000004, 8, 8⟩
def STAT_PHASE : FRef := ⟨0x11000004, 7, 6⟩
def STAT_LOSS : FRef := ⟨0x11000004, 4, 4⟩
def STAT_WPEND : FRef := ⟨0x11000004, 2, 2⟩
def STAT_CFG_IGN : FRef := ⟨0x11000004, 1, 1⟩
def STAT_RUN : FRef := ⟨0x11000004, 0, 0⟩
def VER_BLOCKID : FRef := ⟨0x11000008, 31, 16⟩
def VER_MAJOR : FRef := ⟨0x11000008, 15, 8⟩
def VER_MINOR : FRef := ⟨0x11000008, 7, 0⟩
def CFG_IRQNEN : FRef := ⟨0x11000010, 14, 14⟩
def CFG_IRQNSEV : FRef := ⟨0x11000010, 13, 12⟩
def CFG_LOSSSTOP : FRef := ⟨0x11000010, 8, 8⟩
def CFG_HOLDLIM : FRef := ⟨0x11000010, 7, 0⟩
def SEQ : FRef := ⟨0x11000014, 31, 0⟩
def HISTCLR : FRef := ⟨0x11000018, 0, 0⟩
def HISTSTAT_NEWEST : FRef := ⟨0x1100001C, 19, 16⟩
def HISTSTAT_COUNT : FRef := ⟨0x1100001C, 4, 0⟩
def SUPCNT : FRef := ⟨0x11000020, 31, 0⟩
def SAFECLR : FRef := ⟨0x11000024, 0, 0⟩
def SAFESTAT : FRef := ⟨0x11000028, 0, 0⟩
def PINTEST : FRef := ⟨0x1100002C, 1, 0⟩
def SLOT_BUSY (s : Nat) : FRef := ⟨0x11000100 + 0x10 * s, 31, 31⟩
def SLOT_REACT (s : Nat) : FRef := ⟨0x11000100 + 0x10 * s, 26, 24⟩
def SLOT_SRC (s : Nat) : FRef := ⟨0x11000100 + 0x10 * s, 10, 0⟩
def SLOT_SEQ (s : Nat) : FRef := ⟨0x11000104 + 0x10 * s, 31, 0⟩
def SLOT_ACK (s : Nat) : FRef := ⟨0x11000108 + 0x10 * s, 0, 0⟩
def SLOT_DATA (s : Nat) : FRef := ⟨0x1100010C + 0x10 * s, 31, 0⟩
def HIST_VALID (k : Nat) : FRef := ⟨0x11000200 + 0x20 * k, 31, 31⟩
def HIST_SUPPR (k : Nat) : FRef := ⟨0x11000200 + 0x20 * k, 30, 30⟩
def HIST_SEV (k : Nat) : FRef := ⟨0x11000200 + 0x20 * k, 29, 28⟩
def HIST_PRE (k : Nat) : FRef := ⟨0x11000200 + 0x20 * k, 27, 27⟩
def HIST_REACT (k : Nat) : FRef := ⟨0x11000200 + 0x20 * k, 26, 24⟩
def HIST_SRC (k : Nat) : FRef := ⟨0x11000200 + 0x20 * k, 10, 0⟩
def HIST_SEQ (k : Nat) : FRef := ⟨0x11000204 + 0x20 * k, 31, 0⟩
def HIST_TLO (k : Nat) : FRef := ⟨0x11000208 + 0x20 * k, 31, 0⟩
def HIST_THI (k : Nat) : FRef := ⟨0x1100020C + 0x20 * k, 31, 0⟩
def HIST_DATA (k : Nat) : FRef := ⟨0x11000210 + 0x20 * k, 31, 0⟩
def HIST_MERGED (k : Nat) : FRef := ⟨0x11000214 + 0x20 * k, 15, 0⟩
def SRC_REACT (i : Nat) : FRef := ⟨0x11001000 + 0x4 * i, 18, 16⟩
def SRC_SEV (i : Nat) : FRef := ⟨0x11001000 + 0x4 * i, 13, 12⟩
def CNT_MERGES (i : Nat) : FRef := ⟨0x11003000 + 0x4 * i, 31, 16⟩
def CNT_RAISED (i : Nat) : FRef := ⟨0x11003000 + 0x4 * i, 15, 0⟩

end Reg.FLT

namespace Reg.TIME

def CTRL_MODE : FRef := ⟨0x12000000, 4, 4⟩
def CTRL_SRST : FRef := ⟨0x12000000, 1, 1⟩
def CTRL_EN : FRef := ⟨0x12000000, 0, 0⟩
def STAT_STEPPEND : FRef := ⟨0x12000004, 5, 5⟩
def STAT_INCR_IGN : FRef := ⟨0x12000004, 4, 4⟩
def STAT_WPEND : FRef := ⟨0x12000004, 2, 2⟩
def STAT_CFG_IGN : FRef := ⟨0x12000004, 1, 1⟩
def STAT_RUN : FRef := ⟨0x12000004, 0, 0⟩
def VER_BLOCKID : FRef := ⟨0x12000008, 31, 16⟩
def VER_MAJOR : FRef := ⟨0x12000008, 15, 8⟩
def VER_MINOR : FRef := ⟨0x12000008, 7, 0⟩
def NOWFRAC : FRef := ⟨0x12000010, 31, 0⟩
def NOWLO : FRef := ⟨0x12000014, 31, 0⟩
def NOWHI : FRef := ⟨0x12000018, 31, 0⟩
def INCRLO : FRef := ⟨0x12000020, 31, 0⟩
def INCRHI : FRef := ⟨0x12000024, 3, 0⟩
def INCRUSELO : FRef := ⟨0x12000028, 31, 0⟩
def INCRUSEHI : FRef := ⟨0x1200002C, 3, 0⟩
def STEPLO : FRef := ⟨0x12000030, 31, 0⟩
def STEPHI : FRef := ⟨0x12000034, 31, 0⟩
def STEPCNT : FRef := ⟨0x12000038, 15, 0⟩
def LASTSTEPLO : FRef := ⟨0x12000040, 31, 0⟩
def LASTSTEPHI : FRef := ⟨0x12000044, 31, 0⟩
def CAPCTL_CAPSEQ : FRef := ⟨0x12000050, 23, 16⟩
def CAPCTL_GO : FRef := ⟨0x12000050, 0, 0⟩
def CAPFRAC : FRef := ⟨0x12000054, 31, 0⟩
def CAPLO : FRef := ⟨0x12000058, 31, 0⟩
def CAPHI : FRef := ⟨0x1200005C, 31, 0⟩
def EVSTAT_TXTS_OVF : FRef := ⟨0x12000060, 5, 5⟩
def EVSTAT_EV : FRef := ⟨0x12000060, 4, 0⟩
def SERVO_OFFLO : FRef := ⟨0x12000100, 31, 0⟩
def SERVO_OFFHI : FRef := ⟨0x12000104, 31, 0⟩
def SERVO_KP : FRef := ⟨0x12000108, 31, 0⟩
def SERVO_KI : FRef := ⟨0x1200010C, 31, 0⟩
def SERVO_STEPTHR : FRef := ⟨0x12000110, 31, 0⟩
def SERVO_ADJ : FRef := ⟨0x12000114, 31, 0⟩
def SERVO_INTEG : FRef := ⟨0x12000118, 31, 0⟩
def SERVO_STEPS : FRef := ⟨0x1200011C, 31, 16⟩
def SERVO_OFFSETS : FRef := ⟨0x1200011C, 15, 0⟩
def PORT_INLAT (p : Nat) : FRef := ⟨0x12000800 + 0x10 * p, 31, 0⟩
def PORT_EGLAT (p : Nat) : FRef := ⟨0x12000804 + 0x10 * p, 31, 0⟩
def PORT_ASYM (p : Nat) : FRef := ⟨0x12000808 + 0x10 * p, 31, 0⟩
def TXQ_VALID (p : Nat) : FRef := ⟨0x12001000 + 0x10 * p, 31, 31⟩
def TXQ_SEQ (p : Nat) : FRef := ⟨0x12001000 + 0x10 * p, 23, 16⟩
def TXQ_ID (p : Nat) : FRef := ⟨0x12001000 + 0x10 * p, 15, 0⟩
def TXQ_TSLO (p : Nat) : FRef := ⟨0x12001004 + 0x10 * p, 31, 0⟩
def TXQ_TSHI (p : Nat) : FRef := ⟨0x12001008 + 0x10 * p, 31, 0⟩
def TXQ_OVF (p : Nat) : FRef := ⟨0x1200100C + 0x10 * p, 31, 31⟩
def TXQ_LOST (p : Nat) : FRef := ⟨0x1200100C + 0x10 * p, 15, 8⟩
def TXQ_COUNT (p : Nat) : FRef := ⟨0x1200100C + 0x10 * p, 7, 4⟩
def TXQ_POP (p : Nat) : FRef := ⟨0x1200100C + 0x10 * p, 0, 0⟩

end Reg.TIME

namespace Reg.LODE

def CTRL_SRST : FRef := ⟨0x13000000, 1, 1⟩
def CTRL_EN : FRef := ⟨0x13000000, 0, 0⟩
def STAT_TTBAD : FRef := ⟨0x13000004, 14, 14⟩
def STAT_OUTSPEC : FRef := ⟨0x13000004, 13, 13⟩
def STAT_PHSTEPPEND : FRef := ⟨0x13000004, 12, 12⟩
def STAT_REF : FRef := ⟨0x13000004, 11, 8⟩
def STAT_STATE : FRef := ⟨0x13000004, 6, 4⟩
def STAT_WPEND : FRef := ⟨0x13000004, 2, 2⟩
def STAT_CFG_IGN : FRef := ⟨0x13000004, 1, 1⟩
def STAT_RUN : FRef := ⟨0x13000004, 0, 0⟩
def VER_BLOCKID : FRef := ⟨0x13000008, 31, 16⟩
def VER_MAJOR : FRef := ⟨0x13000008, 15, 8⟩
def VER_MINOR : FRef := ⟨0x13000008, 7, 0⟩
def SEL_AUTO : FRef := ⟨0x13000010, 31, 31⟩
def SEL_REVERT : FRef := ⟨0x13000010, 30, 30⟩
def SEL_MANREF : FRef := ⟨0x13000010, 3, 0⟩
def PRIO : FRef := ⟨0x13000014, 31, 0⟩
def QUAL_WTR : FRef := ⟨0x13000018, 31, 16⟩
def QUAL_QUALTIME : FRef := ⟨0x13000018, 15, 8⟩
def QUAL_FREQTOL : FRef := ⟨0x13000018, 7, 0⟩
def LANESEL : FRef := ⟨0x1300001C, 8, 0⟩
def REFIN_TYPE (k : Nat) : FRef := ⟨0x13000020 + 0x4 * k, 31, 31⟩
def REFIN_RATE (k : Nat) : FRef := ⟨0x13000020 + 0x4 * k, 7, 4⟩
def REFIN_FAMILY (k : Nat) : FRef := ⟨0x13000020 + 0x4 * k, 0, 0⟩
def REFOFS (k : Nat) : FRef := ⟨0x13000030 + 0x4 * k, 31, 0⟩
def PPSOFS : FRef := ⟨0x13000040, 31, 0⟩
def PTPSTAT : FRef := ⟨0x13000044, 0, 0⟩
def TRACKBW : FRef := ⟨0x13000050, 9, 0⟩
def DWELL_NARDWELL : FRef := ⟨0x13000054, 15, 8⟩
def DWELL_ACQDWELL : FRef := ⟨0x13000054, 7, 0⟩
def PHSLEW : FRef := ⟨0x13000058, 15, 0⟩
def REALIGN : FRef := ⟨0x1300005C, 31, 0⟩
def PBO : FRef := ⟨0x13000060, 0, 0⟩
def BUILDOUT : FRef := ⟨0x13000064, 31, 0⟩
def PHERR : FRef := ⟨0x13000068, 31, 0⟩
def FREQ : FRef := ⟨0x1300006C, 31, 0⟩
def TMINUSL : FRef := ⟨0x13000070, 31, 0⟩
def LOOPSTEP : FRef := ⟨0x13000074, 31, 0⟩
def LOOPREM : FRef := ⟨0x13000078, 31, 0⟩
def LOOPOFS : FRef := ⟨0x1300007C, 31, 0⟩
def HOLDCFG_HOLDTIME : FRef := ⟨0x13000080, 31, 8⟩
def HOLDCFG_TSENS : FRef := ⟨0x13000080, 5, 0⟩
def AGEING : FRef := ⟨0x13000084, 31, 0⟩
def HOLDAVG : FRef := ⟨0x13000088, 31, 0⟩
def AVGSECS : FRef := ⟨0x1300008C, 8, 0⟩
def HOLDSECS : FRef := ⟨0x13000090, 31, 0⟩
def TEMPTAB_TEMP (i : Nat) : FRef := ⟨0x130000A0 + 0x4 * i, 31, 16⟩
def TEMPTAB_OFFS (i : Nat) : FRef := ⟨0x130000A0 + 0x4 * i, 15, 0⟩
def EVSTAT : FRef := ⟨0x130000F0, 10, 0⟩
def SMD (j : Nat) : FRef := ⟨0x13000100 + 0x4 * j, 31, 0⟩
def PLANE_CFG_FAMILY (p : Nat) : FRef := ⟨0x13000200 + 0x10 * p, 4, 4⟩
def PLANE_CFG_RATE (p : Nat) : FRef := ⟨0x13000200 + 0x10 * p, 3, 0⟩
def PLANE_STEP (p : Nat) : FRef := ⟨0x13000204 + 0x10 * p, 31, 0⟩
def PLANE_PHASE (p : Nat) : FRef := ⟨0x13000208 + 0x10 * p, 25, 0⟩
def PLANE_FRAMES (p : Nat) : FRef := ⟨0x1300020C + 0x10 * p, 31, 0⟩
def CLKOUT_CFG_PLANE (k : Nat) : FRef := ⟨0x13000300 + 0x8 * k, 7, 4⟩
def CLKOUT_CFG_SRC (k : Nat) : FRef := ⟨0x13000300 + 0x8 * k, 3, 0⟩
def CLKOUT_OFS (k : Nat) : FRef := ⟨0x13000304 + 0x8 * k, 31, 0⟩

end Reg.LODE

namespace Reg.FAB

def CTRL_SRST : FRef := ⟨0x14000000, 1, 1⟩
def CTRL_EN : FRef := ⟨0x14000000, 0, 0⟩
def STAT_COMPACTING : FRef := ⟨0x14000004, 4, 4⟩
def STAT_WPEND : FRef := ⟨0x14000004, 2, 2⟩
def STAT_CFG_IGN : FRef := ⟨0x14000004, 1, 1⟩
def STAT_RUN : FRef := ⟨0x14000004, 0, 0⟩
def VER_BLOCKID : FRef := ⟨0x14000008, 31, 16⟩
def VER_MAJOR : FRef := ⟨0x14000008, 15, 8⟩
def VER_MINOR : FRef := ⟨0x14000008, 7, 0⟩
def WINCFG_TIMEDFR : FRef := ⟨0x14000010, 19, 16⟩
def WINCFG_EDGE : FRef := ⟨0x14000010, 15, 0⟩
def BUDGET_EGRESS : FRef := ⟨0x14000014, 26, 16⟩
def BUDGET_INGRESS : FRef := ⟨0x14000014, 10, 0⟩
def OCC_EGRESS : FRef := ⟨0x14000018, 26, 16⟩
def OCC_INGRESS : FRef := ⟨0x14000018, 10, 0⟩
def EVSTAT : FRef := ⟨0x1400001C, 12, 0⟩
def POISONCNT : FRef := ⟨0x14000020, 31, 0⟩
def ECCCNT_UNCORR : FRef := ⟨0x14000024, 31, 16⟩
def ECCCNT_CORR : FRef := ⟨0x14000024, 15, 0⟩
def TAKECFG : FRef := ⟨0x14000040, 9, 0⟩
def TESTAT_REQ_OVR : FRef := ⟨0x14000044, 1, 1⟩
def TESTAT_BUSY : FRef := ⟨0x14000044, 0, 0⟩
def TAKEARG (j : Nat) : FRef := ⟨0x14000050 + 0x4 * j, 31, 0⟩
def TAKECMD_PEER : FRef := ⟨0x14000070, 23, 16⟩
def TAKECMD_OP : FRef := ⟨0x14000070, 3, 0⟩
def TAKERES_DONE : FRef := ⟨0x14000074, 31, 31⟩
def TAKERES_INDEX : FRef := ⟨0x14000074, 26, 16⟩
def TAKERES_CODE : FRef := ⟨0x14000074, 4, 0⟩
def TAKEID : FRef := ⟨0x14000078, 15, 0⟩
def TCQ0 : FRef := ⟨0x14000080, 31, 0⟩
def TCQ1_CODE : FRef := ⟨0x14000084, 28, 24⟩
def TCQ1_FLAGS : FRef := ⟨0x14000084, 23, 16⟩
def TCQ1_EPOCH : FRef := ⟨0x14000084, 15, 0⟩
def TCQ2_REF : FRef := ⟨0x14000088, 31, 16⟩
def TCQ2_PEER : FRef := ⟨0x14000088, 7, 0⟩
def TCQ3 : FRef := ⟨0x1400008C, 31, 0⟩
def TCQPOP : FRef := ⟨0x14000090, 0, 0⟩
def TCQSTAT_OVF : FRef := ⟨0x14000094, 31, 31⟩
def TCQSTAT_COUNT : FRef := ⟨0x14000094, 8, 0⟩
def SCHED : FRef := ⟨0x140000A0, 12, 0⟩
def SALV_SALVOS : FRef := ⟨0x140000A4, 21, 16⟩
def SALV_TAKES : FRef := ⟨0x140000A4, 13, 0⟩
def TAKECNT : FRef := ⟨0x140000A8, 31, 0⟩
def ISE_CFG_VALID (e : Nat) : FRef := ⟨0x14020000 + 0x10 * e, 31, 31⟩
def ISE_CFG_SIZE (e : Nat) : FRef := ⟨0x14020000 + 0x10 * e, 30, 29⟩
def ISE_CFG_PLANE (e : Nat) : FRef := ⟨0x14020000 + 0x10 * e, 28, 25⟩
def ISE_CFG_PATH (e : Nat) : FRef := ⟨0x14020000 + 0x10 * e, 24, 22⟩
def ISE_HANDLE (e : Nat) : FRef := ⟨0x14020004 + 0x10 * e, 31, 0⟩
def ISE_ALIGN_STATE (e : Nat) : FRef := ⟨0x14020008 + 0x10 * e, 31, 30⟩
def ISE_ALIGN_OFFSET (e : Nat) : FRef := ⟨0x14020008 + 0x10 * e, 27, 0⟩
def ISE_CNT_UNTIMEDCNT (e : Nat) : FRef := ⟨0x1402000C + 0x10 * e, 31, 16⟩
def ISE_CNT_OUTWIN (e : Nat) : FRef := ⟨0x1402000C + 0x10 * e, 15, 0⟩
def ESE_CFG_VALID (e : Nat) : FRef := ⟨0x14040000 + 0x10 * e, 31, 31⟩
def ESE_CFG_SIZE (e : Nat) : FRef := ⟨0x14040000 + 0x10 * e, 30, 29⟩
def ESE_CFG_PLANE (e : Nat) : FRef := ⟨0x14040000 + 0x10 * e, 28, 25⟩
def ESE_CFG_KIND (e : Nat) : FRef := ⟨0x14040000 + 0x10 * e, 24, 22⟩
def ESE_HANDLE (e : Nat) : FRef := ⟨0x14040004 + 0x10 * e, 31, 0⟩
def ESE_SRC_SRCVALID (e : Nat) : FRef := ⟨0x14040008 + 0x10 * e, 31, 31⟩
def ESE_SRC_UNTIMED (e : Nat) : FRef := ⟨0x14040008 + 0x10 * e, 30, 30⟩
def ESE_SRC_ENTRY (e : Nat) : FRef := ⟨0x14040008 + 0x10 * e, 12, 0⟩
def ESE_SLIPCNT (e : Nat) : FRef := ⟨0x1404000C + 0x10 * e, 15, 0⟩
def FS_CFG_BOUND (u : Nat) : FRef := ⟨0x14060000 + 0x100 * u, 31, 31⟩
def FS_CFG_MODE (u : Nat) : FRef := ⟨0x14060000 + 0x100 * u, 30, 30⟩
def FS_CFG_STREAMS (u : Nat) : FRef := ⟨0x14060000 + 0x100 * u, 3, 0⟩
def FS_SCFG_VALID (u : Nat) (k : Nat) : FRef := ⟨0x14060010 + 0x100 * u + 0x10 * k, 31, 31⟩
def FS_SCFG_PLANE (u : Nat) (k : Nat) : FRef := ⟨0x14060010 + 0x100 * u + 0x10 * k, 30, 27⟩
def FS_SCFG_RDENT (u : Nat) (k : Nat) : FRef := ⟨0x14060010 + 0x100 * u + 0x10 * k, 25, 13⟩
def FS_SCFG_RETENT (u : Nat) (k : Nat) : FRef := ⟨0x14060010 + 0x100 * u + 0x10 * k, 12, 0⟩
def FS_SSTAT_STATE (u : Nat) (k : Nat) : FRef := ⟨0x14060014 + 0x100 * u + 0x10 * k, 31, 30⟩
def FS_SSTAT_FILL (u : Nat) (k : Nat) : FRef := ⟨0x14060014 + 0x100 * u + 0x10 * k, 29, 28⟩
def FS_SSTAT_DELAY (u : Nat) (k : Nat) : FRef := ⟨0x14060014 + 0x100 * u + 0x10 * k, 15, 0⟩
def FS_SCNT_REPEATS (u : Nat) (k : Nat) : FRef := ⟨0x14060018 + 0x100 * u + 0x10 * k, 31, 16⟩
def FS_SCNT_DROPS (u : Nat) (k : Nat) : FRef := ⟨0x14060018 + 0x100 * u + 0x10 * k, 15, 0⟩
def FS_LATE (u : Nat) (k : Nat) : FRef := ⟨0x1406001C + 0x100 * u + 0x10 * k, 15, 0⟩
def RT_CUR (i : Nat) : FRef := ⟨0x14080000 + 0x20 * i, 31, 0⟩
def RT_PEND (i : Nat) : FRef := ⟨0x14080004 + 0x20 * i, 31, 0⟩
def RT_PENDV (i : Nat) : FRef := ⟨0x14080008 + 0x20 * i, 31, 31⟩
def RT_PNOSRC (i : Nat) : FRef := ⟨0x14080008 + 0x20 * i, 30, 30⟩
def RT_LATV (i : Nat) : FRef := ⟨0x14080008 + 0x20 * i, 29, 29⟩
def RT_LOCK (i : Nat) : FRef := ⟨0x14080008 + 0x20 * i, 28, 28⟩
def RT_PROTECT (i : Nat) : FRef := ⟨0x14080008 + 0x20 * i, 27, 27⟩
def RT_OWNER (i : Nat) : FRef := ⟨0x14080008 + 0x20 * i, 23, 16⟩
def RT_EPOCH (i : Nat) : FRef := ⟨0x14080008 + 0x20 * i, 15, 0⟩
def RT_PREV (i : Nat) : FRef := ⟨0x1408000C + 0x20 * i, 31, 0⟩
def RT_TLO (i : Nat) : FRef := ⟨0x14080010 + 0x20 * i, 31, 0⟩
def RT_THI (i : Nat) : FRef := ⟨0x14080014 + 0x20 * i, 31, 0⟩
def RT_SUPCNT (i : Nat) : FRef := ⟨0x14080018 + 0x20 * i, 31, 16⟩
def RT_EXECNT (i : Nat) : FRef := ⟨0x14080018 + 0x20 * i, 15, 0⟩
def RT_LATSRC (i : Nat) : FRef := ⟨0x1408001C + 0x20 * i, 31, 0⟩

end Reg.FAB

namespace Reg.CHN

def CTRL_SRST : FRef := ⟨0x15000000, 1, 1⟩
def CTRL_EN : FRef := ⟨0x15000000, 0, 0⟩
def STAT_REQ_OVR : FRef := ⟨0x15000004, 4, 4⟩
def STAT_REQBUSY : FRef := ⟨0x15000004, 3, 3⟩
def STAT_WPEND : FRef := ⟨0x15000004, 2, 2⟩
def STAT_CFG_IGN : FRef := ⟨0x15000004, 1, 1⟩
def STAT_RUN : FRef := ⟨0x15000004, 0, 0⟩
def VER_BLOCKID : FRef := ⟨0x15000008, 31, 16⟩
def VER_MAJOR : FRef := ⟨0x15000008, 15, 8⟩
def VER_MINOR : FRef := ⟨0x15000008, 7, 0⟩
def CFG_CDVALID : FRef := ⟨0x15000010, 30, 30⟩
def CFG_CHIPDRUSE : FRef := ⟨0x15000010, 29, 18⟩
def CFG_SYSNUM : FRef := ⟨0x15000010, 17, 0⟩
def LOWMARK : FRef := ⟨0x15000014, 14, 0⟩
def COUNT_DRUSED : FRef := ⟨0x15000018, 28, 16⟩
def COUNT_USED : FRef := ⟨0x15000018, 14, 0⟩
def EPOCH : FRef := ⟨0x15000020, 31, 0⟩
def REQCMD : FRef := ⟨0x15000100, 3, 0⟩
def REQARG (j : Nat) : FRef := ⟨0x15000110 + 0x4 * j, 31, 0⟩
def RESULT_DONE : FRef := ⟨0x15000180, 31, 31⟩
def RESULT_OP : FRef := ⟨0x15000180, 19, 16⟩
def RESULT_CODE : FRef := ⟨0x15000180, 4, 0⟩
def RESHANDLE : FRef := ⟨0x15000184, 31, 0⟩
def RESSYS : FRef := ⟨0x15000188, 17, 0⟩
def ENT_HANDLE (i : Nat) : FRef := ⟨0x15010000 + 0x10 * i, 31, 0⟩
def ENT_RES_INGV (i : Nat) : FRef := ⟨0x15010004 + 0x10 * i, 31, 31⟩
def ENT_RES_EGV (i : Nat) : FRef := ⟨0x15010004 + 0x10 * i, 30, 30⟩
def ENT_RES_INGENT (i : Nat) : FRef := ⟨0x15010004 + 0x10 * i, 25, 13⟩
def ENT_RES_EGENT (i : Nat) : FRef := ⟨0x15010004 + 0x10 * i, 12, 0⟩
def ENT_STATE_STATE (i : Nat) : FRef := ⟨0x15010008 + 0x10 * i, 31, 30⟩
def ENT_STATE_IMAGE (i : Nat) : FRef := ⟨0x15010008 + 0x10 * i, 29, 29⟩
def ENT_STATE_REFS (i : Nat) : FRef := ⟨0x15010008 + 0x10 * i, 15, 0⟩
def DRU_HANDLE (d : Nat) : FRef := ⟨0x15080000 + 0x20 * d, 31, 0⟩
def DRU_MEM_COUNT (d : Nat) : FRef := ⟨0x15080004 + 0x20 * d, 31, 16⟩
def DRU_MEM_FIRST (d : Nat) : FRef := ⟨0x15080004 + 0x20 * d, 14, 0⟩
def DRU_PSYS_PVALID (d : Nat) : FRef := ⟨0x15080008 + 0x20 * d, 31, 31⟩
def DRU_PSYS_MARK (d : Nat) : FRef := ⟨0x15080008 + 0x20 * d, 30, 30⟩
def DRU_PSYS_SYSNUM (d : Nat) : FRef := ⟨0x15080008 + 0x20 * d, 17, 0⟩
def DRU_PARENT (d : Nat) : FRef := ⟨0x1508000C + 0x20 * d, 31, 0⟩
def DRU_INSIZE (d : Nat) : FRef := ⟨0x15080010 + 0x20 * d, 31, 0⟩
def DRU_OUTSIZE (d : Nat) : FRef := ⟨0x15080014 + 0x20 * d, 31, 0⟩
def MEM_A_VALID (m : Nat) : FRef := ⟨0x150A0000 + 0x8 * m, 31, 31⟩
def MEM_A_TYPE (m : Nat) : FRef := ⟨0x150A0000 + 0x8 * m, 30, 28⟩
def MEM_A_SYSNUM (m : Nat) : FRef := ⟨0x150A0000 + 0x8 * m, 17, 0⟩
def MEM_B (m : Nat) : FRef := ⟨0x150A0004 + 0x8 * m, 31, 0⟩

end Reg.CHN

namespace Reg.PROV

def CTRL_SRST : FRef := ⟨0x16000000, 1, 1⟩
def CTRL_EN : FRef := ⟨0x16000000, 0, 0⟩
def STAT_SS_REFUSED : FRef := ⟨0x16000004, 4, 4⟩
def STAT_WPEND : FRef := ⟨0x16000004, 2, 2⟩
def STAT_CFG_IGN : FRef := ⟨0x16000004, 1, 1⟩
def STAT_RUN : FRef := ⟨0x16000004, 0, 0⟩
def VER_BLOCKID : FRef := ⟨0x16000008, 31, 16⟩
def VER_MAJOR : FRef := ⟨0x16000008, 15, 8⟩
def VER_MINOR : FRef := ⟨0x16000008, 7, 0⟩
def CFG : FRef := ⟨0x16000010, 3, 0⟩
def OUTCLR_GO : FRef := ⟨0x16000014, 31, 31⟩
def OUTCLR_ENTRY : FRef := ⟨0x16000014, 12, 0⟩
def CHKINV_ARM : FRef := ⟨0x16000020, 31, 31⟩
def CHKINV_BITS : FRef := ⟨0x16000020, 9, 8⟩
def CHKINV_MEM : FRef := ⟨0x16000020, 3, 0⟩
def CHKINVSTAT_DONE : FRef := ⟨0x16000024, 31, 31⟩
def CHKINVSTAT_ADDR : FRef := ⟨0x16000024, 23, 0⟩
def TOKINJ_ARM : FRef := ⟨0x16000030, 31, 31⟩
def TOKINJ_WHAT : FRef := ⟨0x16000030, 30, 28⟩
def TOKINJ_ENTRY : FRef := ⟨0x16000030, 12, 0⟩
def ECC_UNCORR (k : Nat) : FRef := ⟨0x16000100 + 0x4 * k, 31, 16⟩
def ECC_CORR (k : Nat) : FRef := ⟨0x16000100 + 0x4 * k, 15, 0⟩
def GRP_LO (g : Nat) : FRef := ⟨0x16000400 + 0x8 * g, 31, 0⟩
def GRP_HI (g : Nat) : FRef := ⟨0x16000404 + 0x8 * g, 31, 0⟩
def LINK_PEERSYS (n : Nat) : FRef := ⟨0x16000800 + 0x4 * n, 31, 14⟩
def LINK_PEERLANE (n : Nat) : FRef := ⟨0x16000800 + 0x4 * n, 13, 5⟩
def LINK_CHECK (n : Nat) : FRef := ⟨0x16000800 + 0x4 * n, 0, 0⟩
def OUT_SAFE (e : Nat) : FRef := ⟨0x16004000 + 0x4 * e, 31, 30⟩
def OUT_RECOV (e : Nat) : FRef := ⟨0x16004000 + 0x4 * e, 29, 29⟩
def OUT_HOLDBUF (e : Nat) : FRef := ⟨0x16004000 + 0x4 * e, 28, 28⟩
def OUT_STATE (e : Nat) : FRef := ⟨0x16004000 + 0x4 * e, 26, 24⟩
def OUT_CAUSE (e : Nat) : FRef := ⟨0x16004000 + 0x4 * e, 23, 20⟩
def OUT_FAILCNT (e : Nat) : FRef := ⟨0x16004000 + 0x4 * e, 15, 0⟩

end Reg.PROV

namespace Reg.SDI

def CTRL_SRST (pg : Nat) : FRef := ⟨pg + 0x0, 1, 1⟩
def CTRL_EN (pg : Nat) : FRef := ⟨pg + 0x0, 0, 0⟩
def STAT_WPEND (pg : Nat) : FRef := ⟨pg + 0x4, 2, 2⟩
def STAT_CFG_IGN (pg : Nat) : FRef := ⟨pg + 0x4, 1, 1⟩
def STAT_RUN (pg : Nat) : FRef := ⟨pg + 0x4, 0, 0⟩
def VER_BLOCKID (pg : Nat) : FRef := ⟨pg + 0x8, 31, 16⟩
def VER_MAJOR (pg : Nat) : FRef := ⟨pg + 0x8, 15, 8⟩
def VER_MINOR (pg : Nat) : FRef := ⟨pg + 0x8, 7, 0⟩
def RXCFG_CRCEV (pg : Nat) : FRef := ⟨pg + 0x10, 4, 4⟩
def RXCFG_RATES (pg : Nat) : FRef := ⟨pg + 0x10, 3, 0⟩
def RXSTAT_LINK (pg : Nat) : FRef := ⟨pg + 0x14, 11, 10⟩
def RXSTAT_FMTVALID (pg : Nat) : FRef := ⟨pg + 0x14, 9, 9⟩
def RXSTAT_DIV1001 (pg : Nat) : FRef := ⟨pg + 0x14, 8, 8⟩
def RXSTAT_RATE (pg : Nat) : FRef := ⟨pg + 0x14, 7, 4⟩
def RXSTAT_STATE (pg : Nat) : FRef := ⟨pg + 0x14, 1, 0⟩
def RXFMT (pg : Nat) : FRef := ⟨pg + 0x18, 31, 0⟩
def RXPID_BYTE1 (pg : Nat) : FRef := ⟨pg + 0x1C, 31, 24⟩
def RXPID_BYTE2 (pg : Nat) : FRef := ⟨pg + 0x1C, 23, 16⟩
def RXPID_BYTE3 (pg : Nat) : FRef := ⟨pg + 0x1C, 15, 8⟩
def RXPID_BYTE4 (pg : Nat) : FRef := ⟨pg + 0x1C, 7, 0⟩
def RXCHAN (pg : Nat) : FRef := ⟨pg + 0x20, 31, 0⟩
def RXCHAN1 (pg : Nat) : FRef := ⟨pg + 0x24, 31, 0⟩
def CRCCNT_LINES (pg : Nat) : FRef := ⟨pg + 0x28, 31, 16⟩
def CRCCNT_SECS (pg : Nat) : FRef := ⟨pg + 0x28, 15, 0⟩
def TRSCNT_XYZCOR (pg : Nat) : FRef := ⟨pg + 0x2C, 31, 16⟩
def TRSCNT_BADLINE (pg : Nat) : FRef := ⟨pg + 0x2C, 15, 8⟩
def TRSCNT_LOSSES (pg : Nat) : FRef := ⟨pg + 0x2C, 7, 0⟩
def ANCCNT_CSERR (pg : Nat) : FRef := ⟨pg + 0x30, 31, 16⟩
def ANCCNT_DROP (pg : Nat) : FRef := ⟨pg + 0x30, 15, 0⟩
def RXAUD (pg : Nat) : FRef := ⟨pg + 0x34, 7, 0⟩
def RXAUDSTAT_BADRATE (pg : Nat) : FRef := ⟨pg + 0x38, 23, 16⟩
def RXAUDSTAT_ASYNC (pg : Nat) : FRef := ⟨pg + 0x38, 15, 8⟩
def RXAUDSTAT_PRESENT (pg : Nat) : FRef := ⟨pg + 0x38, 7, 0⟩
def AUDCNT_ECCERR (pg : Nat) : FRef := ⟨pg + 0x3C, 31, 16⟩
def AUDCNT_SLIP (pg : Nat) : FRef := ⟨pg + 0x3C, 15, 0⟩
def ANCF_EN (pg : Nat) (k : Nat) : FRef := ⟨pg + 0x40 + 0x4 * k, 31, 31⟩
def ANCF_SDIDANY (pg : Nat) (k : Nat) : FRef := ⟨pg + 0x40 + 0x4 * k, 30, 30⟩
def ANCF_CHIDX (pg : Nat) (k : Nat) : FRef := ⟨pg + 0x40 + 0x4 * k, 29, 16⟩
def ANCF_DID (pg : Nat) (k : Nat) : FRef := ⟨pg + 0x40 + 0x4 * k, 15, 8⟩
def ANCF_SDID (pg : Nat) (k : Nat) : FRef := ⟨pg + 0x40 + 0x4 * k, 7, 0⟩
def TXCHAN (pg : Nat) : FRef := ⟨pg + 0x80, 31, 0⟩
def TXCHAN1 (pg : Nat) : FRef := ⟨pg + 0x84, 31, 0⟩
def TXFMT (pg : Nat) : FRef := ⟨pg + 0x88, 31, 0⟩
def TXSTAT_STATE (pg : Nat) : FRef := ⟨pg + 0x8C, 9, 8⟩
def TXSTAT_EMBGRP (pg : Nat) : FRef := ⟨pg + 0x8C, 7, 0⟩
def ANCOUT_VALID (pg : Nat) : FRef := ⟨pg + 0x90, 31, 31⟩
def ANCOUT_FOLLOW (pg : Nat) : FRef := ⟨pg + 0x90, 30, 30⟩
def ANCOUT_REFIDX (pg : Nat) : FRef := ⟨pg + 0x90, 13, 0⟩
def TXANCCNT_INS (pg : Nat) : FRef := ⟨pg + 0x94, 31, 16⟩
def TXANCCNT_DROP (pg : Nat) : FRef := ⟨pg + 0x94, 15, 0⟩
def ANCDEL_EN (pg : Nat) (k : Nat) : FRef := ⟨pg + 0xC0 + 0x4 * k, 31, 31⟩
def ANCDEL_SDIDANY (pg : Nat) (k : Nat) : FRef := ⟨pg + 0xC0 + 0x4 * k, 30, 30⟩
def ANCDEL_DID (pg : Nat) (k : Nat) : FRef := ⟨pg + 0xC0 + 0x4 * k, 15, 8⟩
def ANCDEL_SDID (pg : Nat) (k : Nat) : FRef := ⟨pg + 0xC0 + 0x4 * k, 7, 0⟩
def EVSTAT (pg : Nat) : FRef := ⟨pg + 0xF0, 16, 0⟩
def EVEN (pg : Nat) : FRef := ⟨pg + 0xF4, 16, 0⟩

end Reg.SDI

namespace Reg.ETH

def CTRL_SRST (n : Nat) : FRef := ⟨0x1A000000 + 0x1000 * n, 1, 1⟩
def CTRL_EN (n : Nat) : FRef := ⟨0x1A000000 + 0x1000 * n, 0, 0⟩
def STAT_LINK (n : Nat) : FRef := ⟨0x1A000004 + 0x1000 * n, 15, 14⟩
def STAT_WDHOLD (n : Nat) : FRef := ⟨0x1A000004 + 0x1000 * n, 13, 13⟩
def STAT_PAUSED (n : Nat) : FRef := ⟨0x1A000004 + 0x1000 * n, 12, 12⟩
def STAT_SATURATED (n : Nat) : FRef := ⟨0x1A000004 + 0x1000 * n, 11, 11⟩
def STAT_WPEND (n : Nat) : FRef := ⟨0x1A000004 + 0x1000 * n, 2, 2⟩
def STAT_CFG_IGN (n : Nat) : FRef := ⟨0x1A000004 + 0x1000 * n, 1, 1⟩
def STAT_RUN (n : Nat) : FRef := ⟨0x1A000004 + 0x1000 * n, 0, 0⟩
def VER_BLOCKID (n : Nat) : FRef := ⟨0x1A000008 + 0x1000 * n, 31, 16⟩
def VER_MAJOR (n : Nat) : FRef := ⟨0x1A000008 + 0x1000 * n, 15, 8⟩
def VER_MINOR (n : Nat) : FRef := ⟨0x1A000008 + 0x1000 * n, 7, 0⟩
def CFG_UDPCS (n : Nat) : FRef := ⟨0x1A000010 + 0x1000 * n, 31, 31⟩
def CFG_FEC (n : Nat) : FRef := ⟨0x1A000010 + 0x1000 * n, 30, 29⟩
def CFG_OBEY (n : Nat) : FRef := ⟨0x1A000010 + 0x1000 * n, 28, 27⟩
def CFG_MEDIAPCP (n : Nat) : FRef := ⟨0x1A000010 + 0x1000 * n, 26, 24⟩
def CFG_PTYPE (n : Nat) : FRef := ⟨0x1A000010 + 0x1000 * n, 22, 20⟩
def CFG_LANE (n : Nat) : FRef := ⟨0x1A000010 + 0x1000 * n, 7, 0⟩
def MAXFRM (n : Nat) : FRef := ⟨0x1A000014 + 0x1000 * n, 13, 0⟩
def MACLO (n : Nat) : FRef := ⟨0x1A000018 + 0x1000 * n, 31, 0⟩
def MACHI (n : Nat) : FRef := ⟨0x1A00001C + 0x1000 * n, 15, 0⟩
def PAUSEWD (n : Nat) : FRef := ⟨0x1A000020 + 0x1000 * n, 15, 0⟩
def RXRING_BASE (n : Nat) (r : Nat) : FRef := ⟨0x1A000040 + 0x1000 * n + 0x10 * r, 21, 4⟩
def RXRING_SIZE_BUFSZ (n : Nat) (r : Nat) : FRef := ⟨0x1A000044 + 0x1000 * n + 0x10 * r, 29, 16⟩
def RXRING_SIZE_COUNT (n : Nat) (r : Nat) : FRef := ⟨0x1A000044 + 0x1000 * n + 0x10 * r, 10, 0⟩
def RXRING_HEAD (n : Nat) (r : Nat) : FRef := ⟨0x1A000048 + 0x1000 * n + 0x10 * r, 9, 0⟩
def TXRING_BASE (n : Nat) : FRef := ⟨0x1A000060 + 0x1000 * n, 21, 4⟩
def TXRING_SIZE (n : Nat) : FRef := ⟨0x1A000064 + 0x1000 * n, 10, 0⟩
def TXRING_HEAD (n : Nat) : FRef := ⟨0x1A000068 + 0x1000 * n, 9, 0⟩
def TXKICK (n : Nat) : FRef := ⟨0x1A00006C + 0x1000 * n, 0, 0⟩
def MCFW_LO (n : Nat) (k : Nat) : FRef := ⟨0x1A000080 + 0x1000 * n + 0x8 * k, 31, 0⟩
def MCFW_HI_VALID (n : Nat) (k : Nat) : FRef := ⟨0x1A000084 + 0x1000 * n + 0x8 * k, 31, 31⟩
def MCFW_HI_ADDR (n : Nat) (k : Nat) : FRef := ⟨0x1A000084 + 0x1000 * n + 0x8 * k, 15, 0⟩
def EVSTAT (n : Nat) : FRef := ⟨0x1A0000F0 + 0x1000 * n, 9, 0⟩
def EVEN (n : Nat) : FRef := ⟨0x1A0000F4 + 0x1000 * n, 9, 0⟩
def STATSNAP (n : Nat) : FRef := ⟨0x1A000100 + 0x1000 * n, 0, 0⟩
def SRXFRM (n : Nat) : FRef := ⟨0x1A000104 + 0x1000 * n, 19, 0⟩
def STXFRM (n : Nat) : FRef := ⟨0x1A000108 + 0x1000 * n, 19, 0⟩
def SRXOCT (n : Nat) : FRef := ⟨0x1A00010C + 0x1000 * n, 23, 0⟩
def STXOCT (n : Nat) : FRef := ⟨0x1A000110 + 0x1000 * n, 23, 0⟩
def SRXFCS (n : Nat) : FRef := ⟨0x1A000114 + 0x1000 * n, 15, 0⟩
def SRXLEN (n : Nat) : FRef := ⟨0x1A000118 + 0x1000 * n, 15, 0⟩
def SRXCSUM (n : Nat) : FRef := ⟨0x1A00011C + 0x1000 * n, 15, 0⟩
def SRXDROP (n : Nat) : FRef := ⟨0x1A000120 + 0x1000 * n, 15, 0⟩
def SRXPAUSE (n : Nat) : FRef := ⟨0x1A000124 + 0x1000 * n, 15, 0⟩
def STXDROP (n : Nat) : FRef := ⟨0x1A000128 + 0x1000 * n, 15, 0⟩
def SRINGDROP (n : Nat) : FRef := ⟨0x1A00012C + 0x1000 * n, 15, 0⟩
def SFECCOR (n : Nat) : FRef := ⟨0x1A000130 + 0x1000 * n, 15, 0⟩
def SFECUNC (n : Nat) : FRef := ⟨0x1A000134 + 0x1000 * n, 15, 0⟩
def MCHASH (n : Nat) (k : Nat) : FRef := ⟨0x1A000200 + 0x1000 * n + 0x4 * k, 31, 0⟩

end Reg.ETH

namespace Reg.IPM

def CTRL_SRST : FRef := ⟨0x1C000000, 1, 1⟩
def CTRL_EN : FRef := ⟨0x1C000000, 0, 0⟩
def STAT_WPEND : FRef := ⟨0x1C000004, 2, 2⟩
def STAT_CFG_IGN : FRef := ⟨0x1C000004, 1, 1⟩
def STAT_RUN : FRef := ⟨0x1C000004, 0, 0⟩
def VER_BLOCKID : FRef := ⟨0x1C000008, 31, 16⟩
def VER_MAJOR : FRef := ⟨0x1C000008, 15, 8⟩
def VER_MINOR : FRef := ⟨0x1C000008, 7, 0⟩
def PMEM : FRef := ⟨0x1C000010, 26, 0⟩
def PMEMOCC : FRef := ⟨0x1C000014, 26, 0⟩
def PMEMPEAK : FRef := ⟨0x1C000018, 26, 0⟩
def FLOWS_TX : FRef := ⟨0x1C00001C, 28, 16⟩
def FLOWS_RX : FRef := ⟨0x1C00001C, 12, 0⟩
def POLCFG : FRef := ⟨0x1C000020, 7, 0⟩
def UNMATCH : FRef := ⟨0x1C000024, 31, 0⟩
def EVSTAT : FRef := ⟨0x1C000028, 13, 0⟩
def PLANEHOR (p : Nat) : FRef := ⟨0x1C000040 + 0x4 * p, 15, 0⟩
def DESC_W (s : Nat) (j : Nat) : FRef := ⟨0x1C000100 + 0x40 * s + 0x4 * j, 31, 0⟩
def RXF_HANDLE (f : Nat) : FRef := ⟨0x1C010000 + 0x20 * f, 31, 0⟩
def RXF_TYPE (f : Nat) : FRef := ⟨0x1C010004 + 0x20 * f, 31, 29⟩
def RXF_PACING (f : Nat) : FRef := ⟨0x1C010004 + 0x20 * f, 28, 27⟩
def RXF_DUAL (f : Nat) : FRef := ⟨0x1C010004 + 0x20 * f, 26, 26⟩
def RXF_TOKCHK (f : Nat) : FRef := ⟨0x1C010004 + 0x20 * f, 25, 25⟩
def RXF_UNALIGNED (f : Nat) : FRef := ⟨0x1C010004 + 0x20 * f, 24, 24⟩
def RXF_LEGA (f : Nat) : FRef := ⟨0x1C010004 + 0x20 * f, 23, 22⟩
def RXF_LEGB (f : Nat) : FRef := ⟨0x1C010004 + 0x20 * f, 21, 20⟩
def RXF_HORIZON (f : Nat) : FRef := ⟨0x1C010004 + 0x20 * f, 15, 0⟩
def RXF_SSRC (f : Nat) : FRef := ⟨0x1C010008 + 0x20 * f, 31, 0⟩
def RXF_LOST (f : Nat) : FRef := ⟨0x1C01000C + 0x20 * f, 31, 0⟩
def RXF_LATE (f : Nat) : FRef := ⟨0x1C010010 + 0x20 * f, 31, 0⟩
def RXF_POLDROP (f : Nat) : FRef := ⟨0x1C010014 + 0x20 * f, 23, 0⟩
def RXF_LATEMAX (f : Nat) : FRef := ⟨0x1C010018 + 0x20 * f, 31, 16⟩
def RXF_SKEW (f : Nat) : FRef := ⟨0x1C010018 + 0x20 * f, 15, 0⟩
def RXF_PKTS (f : Nat) : FRef := ⟨0x1C01001C + 0x20 * f, 31, 0⟩
def TXF_HANDLE (f : Nat) : FRef := ⟨0x1C030000 + 0x20 * f, 31, 0⟩
def TXF_TYPE (f : Nat) : FRef := ⟨0x1C030004 + 0x20 * f, 31, 29⟩
def TXF_PACING (f : Nat) : FRef := ⟨0x1C030004 + 0x20 * f, 28, 27⟩
def TXF_DUAL (f : Nat) : FRef := ⟨0x1C030004 + 0x20 * f, 26, 26⟩
def TXF_TOKEXT (f : Nat) : FRef := ⟨0x1C030004 + 0x20 * f, 25, 25⟩
def TXF_STATE (f : Nat) : FRef := ⟨0x1C030004 + 0x20 * f, 24, 23⟩
def TXF_SSRC (f : Nat) : FRef := ⟨0x1C030008 + 0x20 * f, 31, 0⟩
def TXF_TSOFF (f : Nat) : FRef := ⟨0x1C03000C + 0x20 * f, 31, 0⟩
def TXF_PKTS (f : Nat) : FRef := ⟨0x1C030010 + 0x20 * f, 31, 0⟩
def TXF_SEQ (f : Nat) : FRef := ⟨0x1C030014 + 0x20 * f, 15, 0⟩

end Reg.IPM

namespace Reg.AUD

def CTRL_SRST : FRef := ⟨0x1E000000, 1, 1⟩
def CTRL_EN : FRef := ⟨0x1E000000, 0, 0⟩
def STAT_RATE_BLOCK : FRef := ⟨0x1E000004, 5, 5⟩
def STAT_REQ_OVR : FRef := ⟨0x1E000004, 4, 4⟩
def STAT_WPEND : FRef := ⟨0x1E000004, 2, 2⟩
def STAT_CFG_IGN : FRef := ⟨0x1E000004, 1, 1⟩
def STAT_RUN : FRef := ⟨0x1E000004, 0, 0⟩
def VER_BLOCKID : FRef := ⟨0x1E000008, 31, 16⟩
def VER_MAJOR : FRef := ⟨0x1E000008, 15, 8⟩
def VER_MINOR : FRef := ⟨0x1E000008, 7, 0⟩
def CFG_XFADE : FRef := ⟨0x1E000010, 24, 16⟩
def CFG_RAMP : FRef := ⟨0x1E000010, 11, 2⟩
def CFG_RATE : FRef := ⟨0x1E000010, 0, 0⟩
def VOICES_OUT : FRef := ⟨0x1E000014, 31, 16⟩
def VOICES_IN : FRef := ⟨0x1E000014, 15, 0⟩
def EVSTAT : FRef := ⟨0x1E000018, 3, 0⟩
def FAILVOICES : FRef := ⟨0x1E00001C, 15, 0⟩
def MAPCMD : FRef := ⟨0x1E000020, 3, 0⟩
def MAPARG (j : Nat) : FRef := ⟨0x1E000024 + 0x4 * j, 31, 0⟩
def MAPRES_DONE : FRef := ⟨0x1E000030, 31, 31⟩
def MAPRES_BUSY : FRef := ⟨0x1E000030, 30, 30⟩
def MAPRES_OP : FRef := ⟨0x1E000030, 19, 16⟩
def MAPRES_CODE : FRef := ⟨0x1E000030, 4, 0⟩
def IGR_VALID (g : Nat) : FRef := ⟨0x1E010000 + 0x4 * g, 31, 31⟩
def IGR_TDM (g : Nat) : FRef := ⟨0x1E010000 + 0x4 * g, 30, 30⟩
def IGR_CHIDX (g : Nat) : FRef := ⟨0x1E010000 + 0x4 * g, 29, 16⟩
def IGR_ORD (g : Nat) : FRef := ⟨0x1E010000 + 0x4 * g, 4, 0⟩
def OGR_VALID (g : Nat) : FRef := ⟨0x1E018000 + 0x4 * g, 31, 31⟩
def OGR_TDM (g : Nat) : FRef := ⟨0x1E018000 + 0x4 * g, 30, 30⟩
def OGR_CHIDX (g : Nat) : FRef := ⟨0x1E018000 + 0x4 * g, 29, 16⟩
def OGR_ORD (g : Nat) : FRef := ⟨0x1E018000 + 0x4 * g, 4, 0⟩
def OV_VALID (j : Nat) : FRef := ⟨0x1E020000 + 0x10 * j, 31, 31⟩
def OV_MODE (j : Nat) : FRef := ⟨0x1E020000 + 0x10 * j, 30, 30⟩
def OV_MUTE (j : Nat) : FRef := ⟨0x1E020000 + 0x10 * j, 29, 29⟩
def OV_XFCUT (j : Nat) : FRef := ⟨0x1E020000 + 0x10 * j, 28, 28⟩
def OV_STATE (j : Nat) : FRef := ⟨0x1E020000 + 0x10 * j, 27, 25⟩
def OV_HELD (j : Nat) : FRef := ⟨0x1E020000 + 0x10 * j, 24, 24⟩
def OV_SRCV (j : Nat) : FRef := ⟨0x1E020000 + 0x10 * j, 15, 15⟩
def OV_SRC (j : Nat) : FRef := ⟨0x1E020000 + 0x10 * j, 14, 0⟩
def OV_GAIN (j : Nat) : FRef := ⟨0x1E020004 + 0x10 * j, 31, 16⟩
def OV_POS (j : Nat) : FRef := ⟨0x1E020004 + 0x10 * j, 8, 0⟩
def OV_COUPLE (j : Nat) : FRef := ⟨0x1E020008 + 0x10 * j, 31, 0⟩
def OV_FAILCNT (j : Nat) : FRef := ⟨0x1E02000C + 0x10 * j, 15, 0⟩

end Reg.AUD

namespace Reg.APRT

def CTRL_SRST (n : Nat) : FRef := ⟨0x1F000000 + 0x1000 * n, 1, 1⟩
def CTRL_EN (n : Nat) : FRef := ⟨0x1F000000 + 0x1000 * n, 0, 0⟩
def STAT_ASRC_SHORT (n : Nat) : FRef := ⟨0x1F000004 + 0x1000 * n, 7, 7⟩
def STAT_STATE (n : Nat) : FRef := ⟨0x1F000004 + 0x1000 * n, 6, 4⟩
def STAT_WPEND (n : Nat) : FRef := ⟨0x1F000004 + 0x1000 * n, 2, 2⟩
def STAT_CFG_IGN (n : Nat) : FRef := ⟨0x1F000004 + 0x1000 * n, 1, 1⟩
def STAT_RUN (n : Nat) : FRef := ⟨0x1F000004 + 0x1000 * n, 0, 0⟩
def VER_BLOCKID (n : Nat) : FRef := ⟨0x1F000008 + 0x1000 * n, 31, 16⟩
def VER_MAJOR (n : Nat) : FRef := ⟨0x1F000008 + 0x1000 * n, 15, 8⟩
def VER_MINOR (n : Nat) : FRef := ⟨0x1F000008 + 0x1000 * n, 7, 0⟩
def CFG_SLOTS (n : Nat) : FRef := ⟨0x1F000010 + 0x1000 * n, 15, 10⟩
def CFG_FSPOL (n : Nat) : FRef := ⟨0x1F000010 + 0x1000 * n, 9, 9⟩
def CFG_BCLKPOL (n : Nat) : FRef := ⟨0x1F000010 + 0x1000 * n, 8, 8⟩
def CFG_FSDELAY (n : Nat) : FRef := ⟨0x1F000010 + 0x1000 * n, 7, 7⟩
def CFG_FSPULSE (n : Nat) : FRef := ⟨0x1F000010 + 0x1000 * n, 6, 6⟩
def CFG_WIDTH (n : Nat) : FRef := ⟨0x1F000010 + 0x1000 * n, 5, 4⟩
def CFG_TRISTATE (n : Nat) : FRef := ⟨0x1F000010 + 0x1000 * n, 3, 3⟩
def CFG_COMPACT (n : Nat) : FRef := ⟨0x1F000010 + 0x1000 * n, 2, 2⟩
def CFG_MODE (n : Nat) : FRef := ⟨0x1F000010 + 0x1000 * n, 1, 0⟩
def RXMASKLO (n : Nat) : FRef := ⟨0x1F000014 + 0x1000 * n, 31, 0⟩
def RXMASKHI (n : Nat) : FRef := ⟨0x1F000018 + 0x1000 * n, 31, 0⟩
def TXMASKLO (n : Nat) : FRef := ⟨0x1F00001C + 0x1000 * n, 31, 0⟩
def TXMASKHI (n : Nat) : FRef := ⟨0x1F000020 + 0x1000 * n, 31, 0⟩
def RATETOL (n : Nat) : FRef := ⟨0x1F000024 + 0x1000 * n, 15, 0⟩
def RATE (n : Nat) : FRef := ⟨0x1F000028 + 0x1000 * n, 31, 0⟩
def RATEINFO_ASRCV (n : Nat) : FRef := ⟨0x1F00002C + 0x1000 * n, 31, 16⟩
def RATEINFO_ASRCLOCK (n : Nat) : FRef := ⟨0x1F00002C + 0x1000 * n, 3, 3⟩
def RATEINFO_CLASS (n : Nat) : FRef := ⟨0x1F00002C + 0x1000 * n, 2, 0⟩
def BTSLO (n : Nat) : FRef := ⟨0x1F000030 + 0x1000 * n, 31, 0⟩
def BTSHI (n : Nat) : FRef := ⟨0x1F000034 + 0x1000 * n, 31, 0⟩
def BTSCNT (n : Nat) : FRef := ⟨0x1F000038 + 0x1000 * n, 15, 0⟩
def SLIPCNT_DROPS (n : Nat) : FRef := ⟨0x1F000040 + 0x1000 * n, 31, 16⟩
def SLIPCNT_REPEATS (n : Nat) : FRef := ⟨0x1F000040 + 0x1000 * n, 15, 0⟩
def CNT_CLKLOST (n : Nat) : FRef := ⟨0x1F000044 + 0x1000 * n, 31, 24⟩
def CNT_RATECHG (n : Nat) : FRef := ⟨0x1F000044 + 0x1000 * n, 23, 16⟩
def CNT_FRMERR (n : Nat) : FRef := ⟨0x1F000044 + 0x1000 * n, 15, 0⟩
def EVSTAT (n : Nat) : FRef := ⟨0x1F0000F0 + 0x1000 * n, 9, 0⟩
def EVEN (n : Nat) : FRef := ⟨0x1F0000F4 + 0x1000 * n, 9, 0⟩

end Reg.APRT

namespace Reg.CNV

def CTRL_SRST (n : Nat) : FRef := ⟨0x20000000 + 0x1000 * n, 1, 1⟩
def CTRL_EN (n : Nat) : FRef := ⟨0x20000000 + 0x1000 * n, 0, 0⟩
def STAT_LUT_IGN (n : Nat) : FRef := ⟨0x20000004 + 0x1000 * n, 7, 7⟩
def STAT_SWAPPEND (n : Nat) : FRef := ⟨0x20000004 + 0x1000 * n, 6, 6⟩
def STAT_BANK (n : Nat) : FRef := ⟨0x20000004 + 0x1000 * n, 5, 5⟩
def STAT_WPEND (n : Nat) : FRef := ⟨0x20000004 + 0x1000 * n, 2, 2⟩
def STAT_CFG_IGN (n : Nat) : FRef := ⟨0x20000004 + 0x1000 * n, 1, 1⟩
def STAT_RUN (n : Nat) : FRef := ⟨0x20000004 + 0x1000 * n, 0, 0⟩
def VER_BLOCKID (n : Nat) : FRef := ⟨0x20000008 + 0x1000 * n, 31, 16⟩
def VER_MAJOR (n : Nat) : FRef := ⟨0x20000008 + 0x1000 * n, 15, 8⟩
def VER_MINOR (n : Nat) : FRef := ⟨0x20000008 + 0x1000 * n, 7, 0⟩
def CHAN (n : Nat) : FRef := ⟨0x20000010 + 0x1000 * n, 31, 0⟩
def INFMT (n : Nat) : FRef := ⟨0x20000014 + 0x1000 * n, 31, 0⟩
def OUTFMT (n : Nat) : FRef := ⟨0x20000018 + 0x1000 * n, 31, 0⟩
def PLANES_SCALE (n : Nat) : FRef := ⟨0x2000001C + 0x1000 * n, 8, 8⟩
def PLANES_INPLANE (n : Nat) : FRef := ⟨0x2000001C + 0x1000 * n, 7, 4⟩
def PLANES_PLANE (n : Nat) : FRef := ⟨0x2000001C + 0x1000 * n, 3, 0⟩
def DELAY (n : Nat) : FRef := ⟨0x20000020 + 0x1000 * n, 31, 0⟩
def NEXTPROC_FILTER (n : Nat) : FRef := ⟨0x20000030 + 0x1000 * n, 5, 4⟩
def NEXTPROC_PREBYP (n : Nat) : FRef := ⟨0x20000030 + 0x1000 * n, 3, 3⟩
def NEXTPROC_MATBYP (n : Nat) : FRef := ⟨0x20000030 + 0x1000 * n, 2, 2⟩
def NEXTPROC_CUBEBYP (n : Nat) : FRef := ⟨0x20000030 + 0x1000 * n, 1, 1⟩
def NEXTPROC_POSTBYP (n : Nat) : FRef := ⟨0x20000030 + 0x1000 * n, 0, 0⟩
def PROC_FILTER (n : Nat) : FRef := ⟨0x20000034 + 0x1000 * n, 5, 4⟩
def PROC_PREBYP (n : Nat) : FRef := ⟨0x20000034 + 0x1000 * n, 3, 3⟩
def PROC_MATBYP (n : Nat) : FRef := ⟨0x20000034 + 0x1000 * n, 2, 2⟩
def PROC_CUBEBYP (n : Nat) : FRef := ⟨0x20000034 + 0x1000 * n, 1, 1⟩
def PROC_POSTBYP (n : Nat) : FRef := ⟨0x20000034 + 0x1000 * n, 0, 0⟩
def MATC (n : Nat) (k : Nat) : FRef := ⟨0x20000040 + 0x1000 * n + 0x4 * k, 15, 0⟩
def MATOFF (n : Nat) (k : Nat) : FRef := ⟨0x20000064 + 0x1000 * n + 0x4 * k, 16, 0⟩
def LUTSEL_TABLE (n : Nat) : FRef := ⟨0x20000080 + 0x1000 * n, 5, 4⟩
def LUTSEL_COMP (n : Nat) : FRef := ⟨0x20000080 + 0x1000 * n, 1, 0⟩
def LUTADDR (n : Nat) : FRef := ⟨0x20000084 + 0x1000 * n, 15, 0⟩
def LUTDATA (n : Nat) : FRef := ⟨0x20000088 + 0x1000 * n, 15, 0⟩
def SWAP (n : Nat) : FRef := ⟨0x2000008C + 0x1000 * n, 0, 0⟩
def CNT_SWAPS (n : Nat) : FRef := ⟨0x20000090 + 0x1000 * n, 31, 16⟩
def CNT_INBAD (n : Nat) : FRef := ⟨0x20000090 + 0x1000 * n, 15, 0⟩
def FRAMES (n : Nat) : FRef := ⟨0x20000094 + 0x1000 * n, 31, 0⟩
def EVSTAT (n : Nat) : FRef := ⟨0x200000F0 + 0x1000 * n, 5, 0⟩
def EVEN (n : Nat) : FRef := ⟨0x200000F4 + 0x1000 * n, 5, 0⟩

end Reg.CNV

namespace Reg.MICA

def CTRL_SRST (n : Nat) : FRef := ⟨0x21000000 + 0x10000 * n, 1, 1⟩
def CTRL_EN (n : Nat) : FRef := ⟨0x21000000 + 0x10000 * n, 0, 0⟩
def STAT_CREASON (n : Nat) : FRef := ⟨0x21000004 + 0x10000 * n, 11, 10⟩
def STAT_CERR (n : Nat) : FRef := ⟨0x21000004 + 0x10000 * n, 9, 9⟩
def STAT_LOADPEND (n : Nat) : FRef := ⟨0x21000004 + 0x10000 * n, 8, 8⟩
def STAT_QUEUED (n : Nat) : FRef := ⟨0x21000004 + 0x10000 * n, 7, 7⟩
def STAT_FLATTENING (n : Nat) : FRef := ⟨0x21000004 + 0x10000 * n, 6, 6⟩
def STAT_COMMITPEND (n : Nat) : FRef := ⟨0x21000004 + 0x10000 * n, 5, 5⟩
def STAT_WPEND (n : Nat) : FRef := ⟨0x21000004 + 0x10000 * n, 2, 2⟩
def STAT_CFG_IGN (n : Nat) : FRef := ⟨0x21000004 + 0x10000 * n, 1, 1⟩
def STAT_RUN (n : Nat) : FRef := ⟨0x21000004 + 0x10000 * n, 0, 0⟩
def VER_BLOCKID (n : Nat) : FRef := ⟨0x21000008 + 0x10000 * n, 31, 16⟩
def VER_MAJOR (n : Nat) : FRef := ⟨0x21000008 + 0x10000 * n, 15, 8⟩
def VER_MINOR (n : Nat) : FRef := ⟨0x21000008 + 0x10000 * n, 7, 0⟩
def CHAN (n : Nat) : FRef := ⟨0x21000010 + 0x10000 * n, 31, 0⟩
def OUTFMT (n : Nat) : FRef := ⟨0x21000014 + 0x10000 * n, 31, 0⟩
def PLANE (n : Nat) : FRef := ⟨0x21000018 + 0x10000 * n, 3, 0⟩
def BG (n : Nat) : FRef := ⟨0x2100001C + 0x10000 * n, 29, 0⟩
def COMMIT (n : Nat) : FRef := ⟨0x21000020 + 0x10000 * n, 0, 0⟩
def REFLATTEN (n : Nat) : FRef := ⟨0x21000024 + 0x10000 * n, 0, 0⟩
def CNT_COMMITS (n : Nat) : FRef := ⟨0x21000028 + 0x10000 * n, 31, 16⟩
def CNT_FLATTENS (n : Nat) : FRef := ⟨0x21000028 + 0x10000 * n, 15, 0⟩
def FRAMES (n : Nat) : FRef := ⟨0x2100002C + 0x10000 * n, 31, 0⟩
def SLATE_SLATELAYERS (n : Nat) : FRef := ⟨0x21000030 + 0x10000 * n, 21, 16⟩
def SLATE_FLATUS (n : Nat) : FRef := ⟨0x21000030 + 0x10000 * n, 15, 0⟩
def LIVE (n : Nat) : FRef := ⟨0x21000034 + 0x10000 * n, 15, 0⟩
def LUTSEL (n : Nat) : FRef := ⟨0x21000040 + 0x10000 * n, 3, 0⟩
def LUTADDR (n : Nat) : FRef := ⟨0x21000044 + 0x10000 * n, 11, 0⟩
def LUTDATA (n : Nat) : FRef := ⟨0x21000048 + 0x10000 * n, 15, 0⟩
def LAYCMD (n : Nat) : FRef := ⟨0x21000050 + 0x10000 * n, 3, 0⟩
def LAYARG (n : Nat) (j : Nat) : FRef := ⟨0x21000054 + 0x10000 * n + 0x4 * j, 31, 0⟩
def LAYRES_DONE (n : Nat) : FRef := ⟨0x21000060 + 0x10000 * n, 31, 31⟩
def LAYRES_BUSY (n : Nat) : FRef := ⟨0x21000060 + 0x10000 * n, 30, 30⟩
def LAYRES_CODE (n : Nat) : FRef := ⟨0x21000060 + 0x10000 * n, 4, 0⟩
def EVSTAT (n : Nat) : FRef := ⟨0x210000F0 + 0x10000 * n, 8, 0⟩
def EVEN (n : Nat) : FRef := ⟨0x210000F4 + 0x10000 * n, 8, 0⟩
def FLINT_EN (n : Nat) : FRef := ⟨0x21000100 + 0x10000 * n, 0, 0⟩
def FLINTLOAD_ADDRLO (n : Nat) : FRef := ⟨0x21000104 + 0x10000 * n, 31, 6⟩
def FLINTLOAD_ADDRHI (n : Nat) : FRef := ⟨0x21000108 + 0x10000 * n, 3, 0⟩
def FLINTLOAD_CRC (n : Nat) : FRef := ⟨0x2100010C + 0x10000 * n, 31, 0⟩
def FLINTLOAD_GO (n : Nat) : FRef := ⟨0x21000110 + 0x10000 * n, 0, 0⟩
def FLINT_STATE (n : Nat) : FRef := ⟨0x21000114 + 0x10000 * n, 31, 30⟩
def FLINT_BANK (n : Nat) : FRef := ⟨0x21000114 + 0x10000 * n, 29, 29⟩
def FLINT_LOADERR (n : Nat) : FRef := ⟨0x21000114 + 0x10000 * n, 28, 26⟩
def FLINT_SIGEXP (n : Nat) : FRef := ⟨0x21000118 + 0x10000 * n, 31, 0⟩
def FLINT_SIGGOT (n : Nat) : FRef := ⟨0x2100011C + 0x10000 * n, 31, 0⟩
def FLINT_ALARMS (n : Nat) : FRef := ⟨0x21000120 + 0x10000 * n, 15, 0⟩
def FLINT_FAILCNT (n : Nat) : FRef := ⟨0x21000124 + 0x10000 * n, 15, 0⟩
def REG_Y (n : Nat) (r : Nat) : FRef := ⟨0x21000140 + 0x10000 * n + 0x10 * r, 27, 16⟩
def REG_X (n : Nat) (r : Nat) : FRef := ⟨0x21000140 + 0x10000 * n + 0x10 * r, 11, 0⟩
def REG_H (n : Nat) (r : Nat) : FRef := ⟨0x21000144 + 0x10000 * n + 0x10 * r, 27, 16⟩
def REG_W (n : Nat) (r : Nat) : FRef := ⟨0x21000144 + 0x10000 * n + 0x10 * r, 11, 0⟩
def REG_MODE (n : Nat) (r : Nat) : FRef := ⟨0x21000148 + 0x10000 * n + 0x10 * r, 31, 30⟩
def REG_FRAMES (n : Nat) (r : Nat) : FRef := ⟨0x21000148 + 0x10000 * n + 0x10 * r, 7, 0⟩
def REG_EXPECT (n : Nat) (r : Nat) : FRef := ⟨0x2100014C + 0x10000 * n + 0x10 * r, 31, 0⟩
def REG_SIG (n : Nat) (r : Nat) : FRef := ⟨0x21000180 + 0x10000 * n + 0x4 * r, 31, 0⟩
def LAY_TYPE (n : Nat) (l : Nat) : FRef := ⟨0x21001000 + 0x10000 * n + 0x40 * l, 31, 30⟩
def LAY_STATIC (n : Nat) (l : Nat) : FRef := ⟨0x21001000 + 0x10000 * n + 0x40 * l, 29, 29⟩
def LAY_ONFAIL (n : Nat) (l : Nat) : FRef := ⟨0x21001000 + 0x10000 * n + 0x40 * l, 28, 27⟩
def LAY_FMT (n : Nat) (l : Nat) : FRef := ⟨0x21001000 + 0x10000 * n + 0x40 * l, 26, 26⟩
def LAY_Z (n : Nat) (l : Nat) : FRef := ⟨0x21001000 + 0x10000 * n + 0x40 * l, 25, 20⟩
def LAY_LUTSET (n : Nat) (l : Nat) : FRef := ⟨0x21001000 + 0x10000 * n + 0x40 * l, 19, 16⟩
def LAY_GALPHA (n : Nat) (l : Nat) : FRef := ⟨0x21001000 + 0x10000 * n + 0x40 * l, 9, 0⟩
def LAY_Y (n : Nat) (l : Nat) : FRef := ⟨0x21001004 + 0x10000 * n + 0x40 * l, 27, 16⟩
def LAY_X (n : Nat) (l : Nat) : FRef := ⟨0x21001004 + 0x10000 * n + 0x40 * l, 11, 0⟩
def LAY_H (n : Nat) (l : Nat) : FRef := ⟨0x21001008 + 0x10000 * n + 0x40 * l, 27, 16⟩
def LAY_W (n : Nat) (l : Nat) : FRef := ⟨0x21001008 + 0x10000 * n + 0x40 * l, 11, 0⟩
def LAY_COLOUR (n : Nat) (l : Nat) : FRef := ⟨0x2100100C + 0x10000 * n + 0x40 * l, 29, 0⟩
def LAY_GADDRLO (n : Nat) (l : Nat) : FRef := ⟨0x21001010 + 0x10000 * n + 0x40 * l, 31, 6⟩
def LAY_GADDRHI (n : Nat) (l : Nat) : FRef := ⟨0x21001014 + 0x10000 * n + 0x40 * l, 3, 0⟩
def LAY_PITCH (n : Nat) (l : Nat) : FRef := ⟨0x21001018 + 0x10000 * n + 0x40 * l, 19, 0⟩
def LAY_BOUND (n : Nat) (l : Nat) : FRef := ⟨0x2100101C + 0x10000 * n + 0x40 * l, 31, 31⟩
def LAY_SRC (n : Nat) (l : Nat) : FRef := ⟨0x21001020 + 0x10000 * n + 0x40 * l, 31, 0⟩
def LAY_STATE (n : Nat) (l : Nat) : FRef := ⟨0x21001024 + 0x10000 * n + 0x40 * l, 31, 29⟩
def LAY_CAUSE (n : Nat) (l : Nat) : FRef := ⟨0x21001024 + 0x10000 * n + 0x40 * l, 27, 24⟩
def LAY_FAILCNT (n : Nat) (l : Nat) : FRef := ⟨0x21001024 + 0x10000 * n + 0x40 * l, 15, 0⟩
def ACT_TYPE (n : Nat) (l : Nat) : FRef := ⟨0x21003000 + 0x10000 * n + 0x40 * l, 31, 30⟩
def ACT_STATIC (n : Nat) (l : Nat) : FRef := ⟨0x21003000 + 0x10000 * n + 0x40 * l, 29, 29⟩
def ACT_ONFAIL (n : Nat) (l : Nat) : FRef := ⟨0x21003000 + 0x10000 * n + 0x40 * l, 28, 27⟩
def ACT_FMT (n : Nat) (l : Nat) : FRef := ⟨0x21003000 + 0x10000 * n + 0x40 * l, 26, 26⟩
def ACT_Z (n : Nat) (l : Nat) : FRef := ⟨0x21003000 + 0x10000 * n + 0x40 * l, 25, 20⟩
def ACT_LUTSET (n : Nat) (l : Nat) : FRef := ⟨0x21003000 + 0x10000 * n + 0x40 * l, 19, 16⟩
def ACT_GALPHA (n : Nat) (l : Nat) : FRef := ⟨0x21003000 + 0x10000 * n + 0x40 * l, 9, 0⟩
def ACT_Y (n : Nat) (l : Nat) : FRef := ⟨0x21003004 + 0x10000 * n + 0x40 * l, 27, 16⟩
def ACT_X (n : Nat) (l : Nat) : FRef := ⟨0x21003004 + 0x10000 * n + 0x40 * l, 11, 0⟩
def ACT_H (n : Nat) (l : Nat) : FRef := ⟨0x21003008 + 0x10000 * n + 0x40 * l, 27, 16⟩
def ACT_W (n : Nat) (l : Nat) : FRef := ⟨0x21003008 + 0x10000 * n + 0x40 * l, 11, 0⟩
def ACT_COLOUR (n : Nat) (l : Nat) : FRef := ⟨0x2100300C + 0x10000 * n + 0x40 * l, 29, 0⟩
def ACT_GADDRLO (n : Nat) (l : Nat) : FRef := ⟨0x21003010 + 0x10000 * n + 0x40 * l, 31, 6⟩
def ACT_GADDRHI (n : Nat) (l : Nat) : FRef := ⟨0x21003014 + 0x10000 * n + 0x40 * l, 3, 0⟩
def ACT_PITCH (n : Nat) (l : Nat) : FRef := ⟨0x21003018 + 0x10000 * n + 0x40 * l, 19, 0⟩

end Reg.MICA

namespace Reg.DEC

def CTRL_SRST (n : Nat) : FRef := ⟨0x21080000 + 0x100 * n, 1, 1⟩
def CTRL_EN (n : Nat) : FRef := ⟨0x21080000 + 0x100 * n, 0, 0⟩
def STAT_WPEND (n : Nat) : FRef := ⟨0x21080004 + 0x100 * n, 2, 2⟩
def STAT_CFG_IGN (n : Nat) : FRef := ⟨0x21080004 + 0x100 * n, 1, 1⟩
def STAT_RUN (n : Nat) : FRef := ⟨0x21080004 + 0x100 * n, 0, 0⟩
def VER_BLOCKID (n : Nat) : FRef := ⟨0x21080008 + 0x100 * n, 31, 16⟩
def VER_MAJOR (n : Nat) : FRef := ⟨0x21080008 + 0x100 * n, 15, 8⟩
def VER_MINOR (n : Nat) : FRef := ⟨0x21080008 + 0x100 * n, 7, 0⟩
def SRC (n : Nat) : FRef := ⟨0x21080010 + 0x100 * n, 31, 0⟩
def VALID (n : Nat) : FRef := ⟨0x21080014 + 0x100 * n, 31, 31⟩
def ENGINE (n : Nat) : FRef := ⟨0x21080014 + 0x100 * n, 18, 16⟩
def LAYER (n : Nat) : FRef := ⟨0x21080014 + 0x100 * n, 5, 0⟩
def H (n : Nat) : FRef := ⟨0x21080018 + 0x100 * n, 27, 16⟩
def W (n : Nat) : FRef := ⟨0x21080018 + 0x100 * n, 11, 0⟩
def ESE (n : Nat) : FRef := ⟨0x2108001C + 0x100 * n, 12, 0⟩
def FILL (n : Nat) : FRef := ⟨0x21080020 + 0x100 * n, 1, 0⟩
def FRAMES (n : Nat) : FRef := ⟨0x21080024 + 0x100 * n, 31, 0⟩
def TOKFAIL (n : Nat) : FRef := ⟨0x21080028 + 0x100 * n, 31, 16⟩
def LATE (n : Nat) : FRef := ⟨0x21080028 + 0x100 * n, 15, 0⟩

end Reg.DEC

namespace Reg.SCAN

def CTRL_SRST : FRef := ⟨0x22000000, 1, 1⟩
def CTRL_EN : FRef := ⟨0x22000000, 0, 0⟩
def STAT_STARTERR : FRef := ⟨0x22000004, 10, 8⟩
def STAT_LSTATE : FRef := ⟨0x22000004, 7, 5⟩
def STAT_FLIPPEND : FRef := ⟨0x22000004, 4, 4⟩
def STAT_WPEND : FRef := ⟨0x22000004, 2, 2⟩
def STAT_CFG_IGN : FRef := ⟨0x22000004, 1, 1⟩
def STAT_RUN : FRef := ⟨0x22000004, 0, 0⟩
def VER_BLOCKID : FRef := ⟨0x22000008, 31, 16⟩
def VER_MAJOR : FRef := ⟨0x22000008, 15, 8⟩
def VER_MINOR : FRef := ⟨0x22000008, 7, 0⟩
def LINKCFG_BPC : FRef := ⟨0x22000010, 9, 8⟩
def LINKCFG_LANES : FRef := ⟨0x22000010, 5, 4⟩
def LINKCFG_RATE : FRef := ⟨0x22000010, 1, 0⟩
def FBCFG_PITCH : FRef := ⟨0x22000014, 27, 8⟩
def FBCFG_FMT : FRef := ⟨0x22000014, 1, 0⟩
def PIXCLK : FRef := ⟨0x22000018, 19, 0⟩
def HTIM_HTOTAL : FRef := ⟨0x2200001C, 27, 16⟩
def HTIM_HACT : FRef := ⟨0x2200001C, 11, 0⟩
def HSYNC_HPOL : FRef := ⟨0x22000020, 31, 31⟩
def HSYNC_HFP : FRef := ⟨0x22000020, 27, 16⟩
def HSYNC_HSW : FRef := ⟨0x22000020, 11, 0⟩
def VTIM_VTOTAL : FRef := ⟨0x22000024, 27, 16⟩
def VTIM_VACT : FRef := ⟨0x22000024, 11, 0⟩
def VSYNC_VPOL : FRef := ⟨0x22000028, 31, 31⟩
def VSYNC_VFP : FRef := ⟨0x22000028, 27, 16⟩
def VSYNC_VSW : FRef := ⟨0x22000028, 11, 0⟩
def PSRCFG_EN : FRef := ⟨0x2200002C, 8, 8⟩
def PSRCFG_IDLEFR : FRef := ⟨0x2200002C, 7, 0⟩
def PSREXIT : FRef := ⟨0x22000030, 0, 0⟩
def NEXTLO : FRef := ⟨0x22000040, 31, 6⟩
def NEXTHI : FRef := ⟨0x22000044, 3, 0⟩
def FLIP : FRef := ⟨0x22000048, 0, 0⟩
def CURLO : FRef := ⟨0x2200004C, 31, 6⟩
def CURHI : FRef := ⟨0x22000050, 3, 0⟩
def FRAMECNT : FRef := ⟨0x22000060, 31, 0⟩
def FLIPTSLO : FRef := ⟨0x22000064, 31, 0⟩
def FLIPTSHI : FRef := ⟨0x22000068, 31, 0⟩
def FLIPSEQ : FRef := ⟨0x2200006C, 15, 0⟩
def CNT_REPLACED : FRef := ⟨0x22000070, 31, 16⟩
def CNT_UNDERRUN : FRef := ⟨0x22000070, 15, 0⟩
def AUXCMD_OP : FRef := ⟨0x22000080, 31, 28⟩
def AUXCMD_ADDR : FRef := ⟨0x22000080, 23, 4⟩
def AUXCMD_LEN : FRef := ⟨0x22000080, 3, 0⟩
def AUXDATA (k : Nat) : FRef := ⟨0x22000084 + 0x4 * k, 31, 0⟩
def AUXRES_DONE : FRef := ⟨0x22000094, 31, 31⟩
def AUXRES_CODE : FRef := ⟨0x22000094, 1, 0⟩

end Reg.SCAN

namespace Reg.LANE

def CTRL_SRST (n : Nat) : FRef := ⟨0x24000000 + 0x1000 * n, 1, 1⟩
def CTRL_EN (n : Nat) : FRef := ⟨0x24000000 + 0x1000 * n, 0, 0⟩
def STAT_PEERMIS (n : Nat) : FRef := ⟨0x24000004 + 0x1000 * n, 15, 15⟩
def STAT_POLINV (n : Nat) : FRef := ⟨0x24000004 + 0x1000 * n, 14, 14⟩
def STAT_REMDOWN (n : Nat) : FRef := ⟨0x24000004 + 0x1000 * n, 13, 13⟩
def STAT_CDRLOCK (n : Nat) : FRef := ⟨0x24000004 + 0x1000 * n, 12, 12⟩
def STAT_SIGDET (n : Nat) : FRef := ⟨0x24000004 + 0x1000 * n, 11, 11⟩
def STAT_RXSTATE (n : Nat) : FRef := ⟨0x24000004 + 0x1000 * n, 10, 8⟩
def STAT_TXSTATE (n : Nat) : FRef := ⟨0x24000004 + 0x1000 * n, 7, 6⟩
def STAT_WPEND (n : Nat) : FRef := ⟨0x24000004 + 0x1000 * n, 2, 2⟩
def STAT_CFG_IGN (n : Nat) : FRef := ⟨0x24000004 + 0x1000 * n, 1, 1⟩
def STAT_RUN (n : Nat) : FRef := ⟨0x24000004 + 0x1000 * n, 0, 0⟩
def VER_BLOCKID (n : Nat) : FRef := ⟨0x24000008 + 0x1000 * n, 31, 16⟩
def VER_MAJOR (n : Nat) : FRef := ⟨0x24000008 + 0x1000 * n, 15, 8⟩
def VER_MINOR (n : Nat) : FRef := ⟨0x24000008 + 0x1000 * n, 7, 0⟩
def CFG_POLAUTO (n : Nat) : FRef := ⟨0x24000010 + 0x1000 * n, 18, 18⟩
def CFG_TXPOL (n : Nat) : FRef := ⟨0x24000010 + 0x1000 * n, 17, 17⟩
def CFG_RXPOL (n : Nat) : FRef := ⟨0x24000010 + 0x1000 * n, 16, 16⟩
def CFG_LOOP (n : Nat) : FRef := ⟨0x24000010 + 0x1000 * n, 13, 12⟩
def CFG_ERATE (n : Nat) : FRef := ⟨0x24000010 + 0x1000 * n, 9, 9⟩
def CFG_TXPLL (n : Nat) : FRef := ⟨0x24000010 + 0x1000 * n, 8, 8⟩
def CFG_TXMODE (n : Nat) : FRef := ⟨0x24000010 + 0x1000 * n, 6, 4⟩
def CFG_RXMODE (n : Nat) : FRef := ⟨0x24000010 + 0x1000 * n, 2, 0⟩
def TXSTAT_PLL (n : Nat) : FRef := ⟨0x24000014 + 0x1000 * n, 8, 8⟩
def TXSTAT_FAMILY (n : Nat) : FRef := ⟨0x24000014 + 0x1000 * n, 7, 4⟩
def TXEQ_POST (n : Nat) : FRef := ⟨0x24000018 + 0x1000 * n, 20, 16⟩
def TXEQ_MAIN (n : Nat) : FRef := ⟨0x24000018 + 0x1000 * n, 13, 8⟩
def TXEQ_PRE (n : Nat) : FRef := ⟨0x24000018 + 0x1000 * n, 3, 0⟩
def RXEQCTL_OVERRIDE (n : Nat) : FRef := ⟨0x2400001C + 0x1000 * n, 1, 1⟩
def RXEQCTL_FREEZE (n : Nat) : FRef := ⟨0x2400001C + 0x1000 * n, 0, 0⟩
def RXEQ_CTLE (n : Nat) : FRef := ⟨0x24000020 + 0x1000 * n, 4, 0⟩
def RXEQ_DFE4 (n : Nat) : FRef := ⟨0x24000024 + 0x1000 * n, 31, 24⟩
def RXEQ_DFE3 (n : Nat) : FRef := ⟨0x24000024 + 0x1000 * n, 23, 16⟩
def RXEQ_DFE2 (n : Nat) : FRef := ⟨0x24000024 + 0x1000 * n, 15, 8⟩
def RXEQ_DFE1 (n : Nat) : FRef := ⟨0x24000024 + 0x1000 * n, 7, 0⟩
def RXEQ_DFE5 (n : Nat) : FRef := ⟨0x24000028 + 0x1000 * n, 7, 0⟩
def RXEQSET_CTLE (n : Nat) : FRef := ⟨0x2400002C + 0x1000 * n, 4, 0⟩
def RXEQSET_DFE4 (n : Nat) : FRef := ⟨0x24000030 + 0x1000 * n, 31, 24⟩
def RXEQSET_DFE3 (n : Nat) : FRef := ⟨0x24000030 + 0x1000 * n, 23, 16⟩
def RXEQSET_DFE2 (n : Nat) : FRef := ⟨0x24000030 + 0x1000 * n, 15, 8⟩
def RXEQSET_DFE1 (n : Nat) : FRef := ⟨0x24000030 + 0x1000 * n, 7, 0⟩
def RXEQSET_DFE5 (n : Nat) : FRef := ⟨0x24000034 + 0x1000 * n, 7, 0⟩
def EYE_HEIGHT (n : Nat) : FRef := ⟨0x24000038 + 0x1000 * n, 31, 16⟩
def EYE_WIDTH (n : Nat) : FRef := ⟨0x24000038 + 0x1000 * n, 15, 0⟩
def BLKCNT_INVHDR (n : Nat) : FRef := ⟨0x24000040 + 0x1000 * n, 31, 16⟩
def BLKCNT_BLKLOSS (n : Nat) : FRef := ⟨0x24000040 + 0x1000 * n, 7, 0⟩
def CELLCNT_HDRERR (n : Nat) : FRef := ⟨0x24000044 + 0x1000 * n, 31, 16⟩
def CELLCNT_ELASTIC (n : Nat) : FRef := ⟨0x24000044 + 0x1000 * n, 15, 8⟩
def CELLCNT_CELLLOSS (n : Nat) : FRef := ⟨0x24000044 + 0x1000 * n, 7, 0⟩
def PEER_SYSNUM (n : Nat) : FRef := ⟨0x24000048 + 0x1000 * n, 31, 14⟩
def PEER_LANE (n : Nat) : FRef := ⟨0x24000048 + 0x1000 * n, 13, 5⟩
def PEER_RXST (n : Nat) : FRef := ⟨0x24000048 + 0x1000 * n, 4, 2⟩
def PEER_VALID (n : Nat) : FRef := ⟨0x24000048 + 0x1000 * n, 0, 0⟩
def PRBS_LOCK (n : Nat) : FRef := ⟨0x24000050 + 0x1000 * n, 31, 31⟩
def PRBS_PAT (n : Nat) : FRef := ⟨0x24000050 + 0x1000 * n, 2, 2⟩
def PRBS_TXGEN (n : Nat) : FRef := ⟨0x24000050 + 0x1000 * n, 1, 1⟩
def PRBS_RXCHK (n : Nat) : FRef := ⟨0x24000050 + 0x1000 * n, 0, 0⟩
def PRBSERR (n : Nat) : FRef := ⟨0x24000054 + 0x1000 * n, 31, 0⟩
def PWR_READY (n : Nat) : FRef := ⟨0x24000060 + 0x1000 * n, 1, 1⟩
def PWR_DEEP (n : Nat) : FRef := ⟨0x24000060 + 0x1000 * n, 0, 0⟩
def EVSTAT (n : Nat) : FRef := ⟨0x240000F0 + 0x1000 * n, 12, 0⟩
def EVEN (n : Nat) : FRef := ⟨0x240000F4 + 0x1000 * n, 12, 0⟩

end Reg.LANE

namespace Reg.QUAD

def CTRL_SRST (n : Nat) : FRef := ⟨0x24200000 + 0x1000 * n, 1, 1⟩
def CTRL_EN (n : Nat) : FRef := ⟨0x24200000 + 0x1000 * n, 0, 0⟩
def STAT_REVERSED (n : Nat) : FRef := ⟨0x24200004 + 0x1000 * n, 6, 6⟩
def STAT_PLLBLOCK (n : Nat) : FRef := ⟨0x24200004 + 0x1000 * n, 5, 5⟩
def STAT_PLLALOCK (n : Nat) : FRef := ⟨0x24200004 + 0x1000 * n, 4, 4⟩
def STAT_WPEND (n : Nat) : FRef := ⟨0x24200004 + 0x1000 * n, 2, 2⟩
def STAT_CFG_IGN (n : Nat) : FRef := ⟨0x24200004 + 0x1000 * n, 1, 1⟩
def STAT_RUN (n : Nat) : FRef := ⟨0x24200004 + 0x1000 * n, 0, 0⟩
def VER_BLOCKID (n : Nat) : FRef := ⟨0x24200008 + 0x1000 * n, 31, 16⟩
def VER_MAJOR (n : Nat) : FRef := ⟨0x24200008 + 0x1000 * n, 15, 8⟩
def VER_MINOR (n : Nat) : FRef := ⟨0x24200008 + 0x1000 * n, 7, 0⟩
def CFG (n : Nat) : FRef := ⟨0x24200010 + 0x1000 * n, 0, 0⟩
def PLLA_LOCK (n : Nat) : FRef := ⟨0x24200014 + 0x1000 * n, 31, 31⟩
def PLLA_REF (n : Nat) : FRef := ⟨0x24200014 + 0x1000 * n, 30, 30⟩
def PLLA_RETUNE (n : Nat) : FRef := ⟨0x24200014 + 0x1000 * n, 29, 29⟩
def PLLA_USERS (n : Nat) : FRef := ⟨0x24200014 + 0x1000 * n, 18, 16⟩
def PLLA_FAMILY (n : Nat) : FRef := ⟨0x24200014 + 0x1000 * n, 3, 0⟩
def PLLB_LOCK (n : Nat) : FRef := ⟨0x24200018 + 0x1000 * n, 31, 31⟩
def PLLB_REF (n : Nat) : FRef := ⟨0x24200018 + 0x1000 * n, 30, 30⟩
def PLLB_RETUNE (n : Nat) : FRef := ⟨0x24200018 + 0x1000 * n, 29, 29⟩
def PLLB_USERS (n : Nat) : FRef := ⟨0x24200018 + 0x1000 * n, 18, 16⟩
def PLLB_FAMILY (n : Nat) : FRef := ⟨0x24200018 + 0x1000 * n, 3, 0⟩
def PWR_READY (n : Nat) : FRef := ⟨0x24200020 + 0x1000 * n, 1, 1⟩
def PWR_DEEP (n : Nat) : FRef := ⟨0x24200020 + 0x1000 * n, 0, 0⟩
def CNT_RETUNES (n : Nat) : FRef := ⟨0x24200024 + 0x1000 * n, 31, 16⟩
def CNT_LOCKLOSS (n : Nat) : FRef := ⟨0x24200024 + 0x1000 * n, 15, 0⟩
def EVSTAT (n : Nat) : FRef := ⟨0x242000F0 + 0x1000 * n, 3, 0⟩
def EVEN (n : Nat) : FRef := ⟨0x242000F4 + 0x1000 * n, 3, 0⟩

end Reg.QUAD

namespace Reg.GBUS

def CTRL_SRST : FRef := ⟨0x28000000, 1, 1⟩
def CTRL_EN : FRef := ⟨0x28000000, 0, 0⟩
def STAT_PAIRST : FRef := ⟨0x28000004, 12, 11⟩
def STAT_TX_IGN : FRef := ⟨0x28000004, 10, 10⟩
def STAT_TXPEND : FRef := ⟨0x28000004, 9, 9⟩
def STAT_MUTED : FRef := ⟨0x28000004, 8, 8⟩
def STAT_CFGERR : FRef := ⟨0x28000004, 5, 4⟩
def STAT_WPEND : FRef := ⟨0x28000004, 2, 2⟩
def STAT_CFG_IGN : FRef := ⟨0x28000004, 1, 1⟩
def STAT_RUN : FRef := ⟨0x28000004, 0, 0⟩
def VER_BLOCKID : FRef := ⟨0x28000008, 31, 16⟩
def VER_MAJOR : FRef := ⟨0x28000008, 15, 8⟩
def VER_MINOR : FRef := ⟨0x28000008, 7, 0⟩
def CFG_PAIREN : FRef := ⟨0x28000010, 17, 16⟩
def CFG_HBMISS : FRef := ⟨0x28000010, 11, 8⟩
def CFG_OWNSLOT : FRef := ⟨0x28000010, 5, 0⟩
def TERR : FRef := ⟨0x28000014, 15, 0⟩
def TXLEN : FRef := ⟨0x28000018, 8, 0⟩
def TXGO : FRef := ⟨0x2800001C, 0, 0⟩
def CNT_TXDROP : FRef := ⟨0x28000020, 31, 16⟩
def CNT_STEPCNT : FRef := ⟨0x28000020, 15, 8⟩
def CNT_OWNERR : FRef := ⟨0x28000020, 7, 0⟩
def RXQ_OVF : FRef := ⟨0x28000024, 31, 31⟩
def RXQ_COUNT : FRef := ⟨0x28000024, 7, 0⟩
def RXHDRLO : FRef := ⟨0x28000028, 31, 0⟩
def RXHDRHI : FRef := ⟨0x2800002C, 31, 0⟩
def RXLEN : FRef := ⟨0x28000030, 8, 0⟩
def POP : FRef := ⟨0x28000034, 0, 0⟩
def EVSTAT : FRef := ⟨0x280000F0, 13, 0⟩
def EVEN : FRef := ⟨0x280000F4, 13, 0⟩
def TXBUF (j : Nat) : FRef := ⟨0x28000100 + 0x4 * j, 31, 0⟩
def RXDATA (j : Nat) : FRef := ⟨0x28000200 + 0x4 * j, 31, 0⟩
def MAP_VALID (k : Nat) : FRef := ⟨0x28000400 + 0x4 * k, 31, 31⟩
def MAP_DLY (k : Nat) : FRef := ⟨0x28000400 + 0x4 * k, 29, 18⟩
def MAP_SYSNUM (k : Nat) : FRef := ⟨0x28000400 + 0x4 * k, 17, 0⟩
def MEM_ST_STATE (k : Nat) : FRef := ⟨0x28001000 + 0x20 * k, 31, 30⟩
def MEM_ST_ENCROACH (k : Nat) : FRef := ⟨0x28001000 + 0x20 * k, 29, 29⟩
def MEM_ST_CLAIM (k : Nat) : FRef := ⟨0x28001000 + 0x20 * k, 24, 16⟩
def MEM_ST_OFFSET (k : Nat) : FRef := ⟨0x28001000 + 0x20 * k, 15, 0⟩
def MEM_DEVIDLO (k : Nat) : FRef := ⟨0x28001004 + 0x20 * k, 31, 0⟩
def MEM_DEVIDHI (k : Nat) : FRef := ⟨0x28001008 + 0x20 * k, 31, 0⟩
def MEM_TERR (k : Nat) : FRef := ⟨0x2800100C + 0x20 * k, 15, 0⟩
def MEM_CNT_ENCNT (k : Nat) : FRef := ⟨0x28001010 + 0x20 * k, 31, 24⟩
def MEM_CNT_MISS (k : Nat) : FRef := ⟨0x28001010 + 0x20 * k, 23, 16⟩
def MEM_CNT_ERRB (k : Nat) : FRef := ⟨0x28001010 + 0x20 * k, 15, 8⟩
def MEM_CNT_ERRA (k : Nat) : FRef := ⟨0x28001010 + 0x20 * k, 7, 0⟩

end Reg.GBUS

namespace Reg.TWIN

def CTRL_SRST : FRef := ⟨0x29000000, 1, 1⟩
def CTRL_EN : FRef := ⟨0x29000000, 0, 0⟩
def STAT_STATE : FRef := ⟨0x29000004, 15, 13⟩
def STAT_PARTNER : FRef := ⟨0x29000004, 12, 12⟩
def STAT_LINKP : FRef := ⟨0x29000004, 11, 11⟩
def STAT_LINKS : FRef := ⟨0x29000004, 10, 10⟩
def STAT_SPLIT : FRef := ⟨0x29000004, 9, 9⟩
def STAT_WPEND : FRef := ⟨0x29000004, 2, 2⟩
def STAT_CFG_IGN : FRef := ⟨0x29000004, 1, 1⟩
def STAT_RUN : FRef := ⟨0x29000004, 0, 0⟩
def VER_BLOCKID : FRef := ⟨0x29000008, 31, 16⟩
def VER_MAJOR : FRef := ⟨0x29000008, 15, 8⟩
def VER_MINOR : FRef := ⟨0x29000008, 7, 0⟩
def CFG_CYCLE : FRef := ⟨0x29000010, 23, 16⟩
def CFG_SECONDARY : FRef := ⟨0x29000010, 8, 8⟩
def CFG_CMPACT : FRef := ⟨0x29000010, 5, 5⟩
def CLAIM : FRef := ⟨0x29000014, 7, 0⟩
def DEADTIME : FRef := ⟨0x29000018, 7, 0⟩
def CARRIED_OWN : FRef := ⟨0x2900001C, 24, 16⟩
def CARRIED_PARTNER : FRef := ⟨0x2900001C, 8, 0⟩
def PDEVIDLO : FRef := ⟨0x29000020, 31, 0⟩
def PDEVIDHI : FRef := ⟨0x29000024, 31, 0⟩
def CYCNUM : FRef := ⟨0x29000028, 31, 0⟩
def ACKED : FRef := ⟨0x2900002C, 31, 0⟩
def MIRSEQ : FRef := ⟨0x29000030, 31, 0⟩
def COPYCNT_RESENDS : FRef := ⟨0x29000034, 31, 16⟩
def COPYCNT_DIVERGED : FRef := ⟨0x29000034, 15, 0⟩
def COPYBYTES : FRef := ⟨0x29000038, 31, 0⟩
def XCHG : FRef := ⟨0x29000040, 0, 0⟩
def RECOVER : FRef := ⟨0x29000044, 0, 0⟩
def SIGMIS_ENTRY : FRef := ⟨0x29000048, 28, 16⟩
def SIGMIS_COUNT : FRef := ⟨0x29000048, 15, 0⟩
def AUTHCNT : FRef := ⟨0x2900004C, 15, 0⟩
def EVSTAT : FRef := ⟨0x290000F0, 14, 0⟩
def EVEN : FRef := ⟨0x290000F4, 14, 0⟩
def FMERGE_VALID (j : Nat) : FRef := ⟨0x29000100 + 0x4 * j, 31, 31⟩
def FMERGE_AUSE (j : Nat) : FRef := ⟨0x29000100 + 0x4 * j, 30, 30⟩
def FMERGE_BUSE (j : Nat) : FRef := ⟨0x29000100 + 0x4 * j, 29, 29⟩
def FMERGE_LANEB (j : Nat) : FRef := ⟨0x29000100 + 0x4 * j, 17, 9⟩
def FMERGE_LANEA (j : Nat) : FRef := ⟨0x29000100 + 0x4 * j, 8, 0⟩
def SUPCFG_PMBEN : FRef := ⟨0x29000500, 31, 31⟩
def SUPCFG_ADDRB : FRef := ⟨0x29000500, 30, 24⟩
def SUPCFG_ADDRA : FRef := ⟨0x29000500, 22, 16⟩
def SUPCFG_POLL : FRef := ⟨0x29000500, 15, 0⟩
def SUPSTAT_SUPB_OK : FRef := ⟨0x29000504, 1, 1⟩
def SUPSTAT_SUPA_OK : FRef := ⟨0x29000504, 0, 0⟩
def SUP_VIN (f : Nat) : FRef := ⟨0x29000510 + 0x10 * f, 31, 16⟩
def SUP_IIN (f : Nat) : FRef := ⟨0x29000510 + 0x10 * f, 15, 0⟩
def SUP_VOUT (f : Nat) : FRef := ⟨0x29000514 + 0x10 * f, 31, 16⟩
def SUP_IOUT (f : Nat) : FRef := ⟨0x29000514 + 0x10 * f, 15, 0⟩
def SUP_TEMP (f : Nat) : FRef := ⟨0x29000518 + 0x10 * f, 31, 16⟩
def SUP_STATUS (f : Nat) : FRef := ⟨0x29000518 + 0x10 * f, 15, 0⟩
def SUP_ERRCNT (f : Nat) : FRef := ⟨0x2900051C + 0x10 * f, 15, 0⟩

end Reg.TWIN

namespace Reg.DRC

def CTRL_SRST (n : Nat) : FRef := ⟨0x2A000000 + 0x1000 * n, 1, 1⟩
def CTRL_EN (n : Nat) : FRef := ⟨0x2A000000 + 0x1000 * n, 0, 0⟩
def STAT_HOT (n : Nat) : FRef := ⟨0x2A000004 + 0x1000 * n, 8, 8⟩
def STAT_TSTATE (n : Nat) : FRef := ⟨0x2A000004 + 0x1000 * n, 6, 5⟩
def STAT_WPEND (n : Nat) : FRef := ⟨0x2A000004 + 0x1000 * n, 2, 2⟩
def STAT_CFG_IGN (n : Nat) : FRef := ⟨0x2A000004 + 0x1000 * n, 1, 1⟩
def STAT_RUN (n : Nat) : FRef := ⟨0x2A000004 + 0x1000 * n, 0, 0⟩
def VER_BLOCKID (n : Nat) : FRef := ⟨0x2A000008 + 0x1000 * n, 31, 16⟩
def VER_MAJOR (n : Nat) : FRef := ⟨0x2A000008 + 0x1000 * n, 15, 8⟩
def VER_MINOR (n : Nat) : FRef := ⟨0x2A000008 + 0x1000 * n, 7, 0⟩
def TRAINRES_ATTEMPTS (n : Nat) : FRef := ⟨0x2A000010 + 0x1000 * n, 31, 24⟩
def TRAINRES_STEP (n : Nat) : FRef := ⟨0x2A000010 + 0x1000 * n, 23, 16⟩
def TRAINRES_MS (n : Nat) : FRef := ⟨0x2A000010 + 0x1000 * n, 15, 0⟩
def ECCCNT_UNCORR (n : Nat) : FRef := ⟨0x2A000014 + 0x1000 * n, 31, 16⟩
def ECCCNT_CORR (n : Nat) : FRef := ⟨0x2A000014 + 0x1000 * n, 15, 0⟩
def ECCADDRLO (n : Nat) : FRef := ⟨0x2A000018 + 0x1000 * n, 31, 0⟩
def ECCADDRHI (n : Nat) : FRef := ⟨0x2A00001C + 0x1000 * n, 3, 0⟩
def REFCNT_BURSTS (n : Nat) : FRef := ⟨0x2A000020 + 0x1000 * n, 31, 16⟩
def REFCNT_POSTPONED (n : Nat) : FRef := ⟨0x2A000020 + 0x1000 * n, 3, 0⟩
def LATECNT_PROMOTED (n : Nat) : FRef := ⟨0x2A000024 + 0x1000 * n, 31, 16⟩
def LATECNT_C0LATE (n : Nat) : FRef := ⟨0x2A000024 + 0x1000 * n, 15, 0⟩
def TEMP (n : Nat) : FRef := ⟨0x2A000028 + 0x1000 * n, 2, 0⟩
def TRACKOFS (n : Nat) : FRef := ⟨0x2A00002C + 0x1000 * n, 15, 0⟩
def CLSBYTES (n : Nat) (k : Nat) : FRef := ⟨0x2A000030 + 0x1000 * n + 0x4 * k, 31, 0⟩
def EVSTAT (n : Nat) : FRef := ⟨0x2A0000F0 + 0x1000 * n, 9, 0⟩
def EVEN (n : Nat) : FRef := ⟨0x2A0000F4 + 0x1000 * n, 9, 0⟩

end Reg.DRC

namespace Reg.DRCC

def CTRL_SRST : FRef := ⟨0x2A020000, 1, 1⟩
def CTRL_EN : FRef := ⟨0x2A020000, 0, 0⟩
def STAT_CFGERR : FRef := ⟨0x2A020004, 11, 8⟩
def STAT_TRAINED : FRef := ⟨0x2A020004, 4, 4⟩
def STAT_WPEND : FRef := ⟨0x2A020004, 2, 2⟩
def STAT_CFG_IGN : FRef := ⟨0x2A020004, 1, 1⟩
def STAT_RUN : FRef := ⟨0x2A020004, 0, 0⟩
def VER_BLOCKID : FRef := ⟨0x2A020008, 31, 16⟩
def VER_MAJOR : FRef := ⟨0x2A020008, 15, 8⟩
def VER_MINOR : FRef := ⟨0x2A020008, 7, 0⟩
def CFG_RATE : FRef := ⟨0x2A020010, 31, 30⟩
def CFG_CHANS : FRef := ⟨0x2A020010, 29, 28⟩
def CFG_DENS : FRef := ⟨0x2A020010, 27, 26⟩
def CFG_RANKS : FRef := ⟨0x2A020010, 25, 25⟩
def CFG_ECC : FRef := ⟨0x2A020010, 24, 24⟩
def CFG_GRAIN : FRef := ⟨0x2A020010, 2, 0⟩
def CAP_FITTED : FRef := ⟨0x2A020014, 26, 16⟩
def CAP_USABLE : FRef := ⟨0x2A020014, 10, 0⟩
def PLAN : FRef := ⟨0x2A020018, 31, 0⟩
def CHARGED : FRef := ⟨0x2A02001C, 31, 0⟩
def SPACEHELD : FRef := ⟨0x2A020020, 23, 0⟩
def FWAREA : FRef := ⟨0x2A020030, 15, 0⟩
def GFXBASE : FRef := ⟨0x2A020034, 15, 0⟩
def GFXSIZE : FRef := ⟨0x2A020038, 15, 0⟩
def REFCFG : FRef := ⟨0x2A020040, 3, 0⟩
def AGE_AGE3 : FRef := ⟨0x2A020044, 31, 24⟩
def AGE_AGE2 : FRef := ⟨0x2A020044, 23, 16⟩
def AGE_AGE1 : FRef := ⟨0x2A020044, 15, 8⟩
def AGE_AGE0 : FRef := ⟨0x2A020044, 7, 0⟩
def SCRUB : FRef := ⟨0x2A020048, 15, 0⟩
def TRACK : FRef := ⟨0x2A02004C, 7, 0⟩
def CHKINV_ARM : FRef := ⟨0x2A020050, 31, 31⟩
def CHKINV_BITS : FRef := ⟨0x2A020050, 9, 8⟩
def CHKINV_DONE : FRef := ⟨0x2A020050, 0, 0⟩
def CHKADDRLO : FRef := ⟨0x2A020054, 31, 3⟩
def CHKADDRHI : FRef := ⟨0x2A020058, 3, 0⟩
def EVSTAT : FRef := ⟨0x2A0200F0, 9, 0⟩
def EVEN : FRef := ⟨0x2A0200F4, 9, 0⟩

end Reg.DRCC

namespace Reg.MGT

def CTRL_SRST : FRef := ⟨0x2B000000, 1, 1⟩
def CTRL_EN : FRef := ⟨0x2B000000, 0, 0⟩
def STAT_SP_WPROT : FRef := ⟨0x2B000004, 19, 19⟩
def STAT_LOCK_IGN : FRef := ⟨0x2B000004, 18, 18⟩
def STAT_ALIGN : FRef := ⟨0x2B000004, 17, 17⟩
def STAT_DECERR : FRef := ⟨0x2B000004, 16, 16⟩
def STAT_WPEND : FRef := ⟨0x2B000004, 2, 2⟩
def STAT_CFG_IGN : FRef := ⟨0x2B000004, 1, 1⟩
def STAT_RUN : FRef := ⟨0x2B000004, 0, 0⟩
def STAT_LOCKERR : FRef := ⟨0x2B000004, 4, 4⟩
def STAT_SPCRC : FRef := ⟨0x2B000004, 3, 3⟩
def VER_BLOCKID : FRef := ⟨0x2B000008, 31, 16⟩
def VER_MAJOR : FRef := ⟨0x2B000008, 15, 8⟩
def VER_MINOR : FRef := ⟨0x2B000008, 7, 0⟩
def IDCODE_PART : FRef := ⟨0x2B000010, 31, 16⟩
def IDCODE_STEP : FRef := ⟨0x2B000010, 15, 8⟩
def IDCODE_VENDOR : FRef := ⟨0x2B000010, 7, 0⟩
def UNLOCK_KEYHI : FRef := ⟨0x2B000014, 15, 1⟩
def UNLOCK_KEY0 : FRef := ⟨0x2B000014, 0, 0⟩
def RSTCAUSE : FRef := ⟨0x2B000018, 2, 0⟩
def IGNADDR_ADDR : FRef := ⟨0x2B00001C, 31, 2⟩
def IGNADDR_SRC : FRef := ⟨0x2B00001C, 1, 0⟩
def IGNCNT : FRef := ⟨0x2B000020, 15, 0⟩
def DWBANK : FRef := ⟨0x2B000024, 5, 0⟩
def WDCFG_RSTDLY : FRef := ⟨0x2B000030, 15, 8⟩
def WDCFG_TIMEOUT : FRef := ⟨0x2B000030, 5, 0⟩
def WDSVC : FRef := ⟨0x2B000034, 31, 0⟩
def WDSTAT : FRef := ⟨0x2B000038, 5, 0⟩
def LOGSTAT_NEWEST : FRef := ⟨0x2B000040, 11, 0⟩
def LOGSTAT_COUNT : FRef := ⟨0x2B000040, 31, 16⟩
def SPCFG : FRef := ⟨0x2B000044, 0, 0⟩
def SPCNT_LOST : FRef := ⟨0x2B000048, 31, 16⟩
def SPCNT_CRCERR : FRef := ⟨0x2B000048, 15, 0⟩
def DMA_SRCLO (k : Nat) : FRef := ⟨0x2B000100 + 0x20 * k, 31, 0⟩
def DMA_SRCHI (k : Nat) : FRef := ⟨0x2B000104 + 0x20 * k, 7, 0⟩
def DMA_DSTLO (k : Nat) : FRef := ⟨0x2B000108 + 0x20 * k, 31, 0⟩
def DMA_DSTHI (k : Nat) : FRef := ⟨0x2B00010C + 0x20 * k, 7, 0⟩
def DMA_LEN (k : Nat) : FRef := ⟨0x2B000110 + 0x20 * k, 24, 0⟩
def DMA_GO (k : Nat) : FRef := ⟨0x2B000114 + 0x20 * k, 0, 0⟩
def DMA_STAT_DONE (k : Nat) : FRef := ⟨0x2B000118 + 0x20 * k, 31, 31⟩
def DMA_STAT_BUSY (k : Nat) : FRef := ⟨0x2B000118 + 0x20 * k, 30, 30⟩
def DMA_STAT_ERR (k : Nat) : FRef := ⟨0x2B000118 + 0x20 * k, 2, 0⟩

end Reg.MGT

namespace Reg.BMX

def CTRL_REMAP : FRef := ⟨0x2B010000, 2, 2⟩
def CTRL_SRST : FRef := ⟨0x2B010000, 1, 1⟩
def CTRL_EN : FRef := ⟨0x2B010000, 0, 0⟩
def STAT_WPEND : FRef := ⟨0x2B010004, 2, 2⟩
def STAT_CFG_IGN : FRef := ⟨0x2B010004, 1, 1⟩
def STAT_RUN : FRef := ⟨0x2B010004, 0, 0⟩
def VER_BLOCKID : FRef := ⟨0x2B010008, 31, 16⟩
def VER_MAJOR : FRef := ⟨0x2B010008, 15, 8⟩
def VER_MINOR : FRef := ⟨0x2B010008, 7, 0⟩
def CNT_FORCED : FRef := ⟨0x2B010010, 31, 16⟩
def CNT_LOCKERR : FRef := ⟨0x2B010010, 15, 0⟩
def OUT (m : Nat) : FRef := ⟨0x2B010020 + 0x4 * m, 4, 0⟩

end Reg.BMX

namespace Reg.SNS

def CTRL_SRST : FRef := ⟨0x2B020000, 1, 1⟩
def CTRL_EN : FRef := ⟨0x2B020000, 0, 0⟩
def STAT_TRIG_OVR : FRef := ⟨0x2B020004, 4, 4⟩
def STAT_WPEND : FRef := ⟨0x2B020004, 2, 2⟩
def STAT_CFG_IGN : FRef := ⟨0x2B020004, 1, 1⟩
def STAT_RUN : FRef := ⟨0x2B020004, 0, 0⟩
def VER_BLOCKID : FRef := ⟨0x2B020008, 31, 16⟩
def VER_MAJOR : FRef := ⟨0x2B020008, 15, 8⟩
def VER_MINOR : FRef := ⟨0x2B020008, 7, 0⟩
def SAFEMASK0 : FRef := ⟨0x2B020010, 31, 0⟩
def SAFEMASK1 : FRef := ⟨0x2B020014, 7, 0⟩
def SAFEMASK2 : FRef := ⟨0x2B020018, 31, 0⟩
def TRIG : FRef := ⟨0x2B020020, 6, 0⟩
def TRIGRES_DONE : FRef := ⟨0x2B020024, 31, 31⟩
def TRIGRES_VALUE : FRef := ⟨0x2B020024, 15, 0⟩
def TEMP (i : Nat) : FRef := ⟨0x2B020100 + 0x4 * i, 15, 0⟩
def VOLT (j : Nat) : FRef := ⟨0x2B020200 + 0x4 * j, 15, 0⟩
def TLIM_HI (i : Nat) : FRef := ⟨0x2B020400 + 0x4 * i, 31, 16⟩
def TLIM_LO (i : Nat) : FRef := ⟨0x2B020400 + 0x4 * i, 15, 0⟩
def VLIM_HI (j : Nat) : FRef := ⟨0x2B020500 + 0x4 * j, 31, 16⟩
def VLIM_LO (j : Nat) : FRef := ⟨0x2B020500 + 0x4 * j, 15, 0⟩
def HYST_VOLT : FRef := ⟨0x2B020600, 15, 8⟩
def HYST_TEMP : FRef := ⟨0x2B020600, 7, 0⟩

end Reg.SNS

namespace Reg.KEY

def CTRL_SRST : FRef := ⟨0x2B030000, 1, 1⟩
def CTRL_EN : FRef := ⟨0x2B030000, 0, 0⟩
def STAT_LCSTATE : FRef := ⟨0x2B030004, 15, 13⟩
def STAT_WINDOW : FRef := ⟨0x2B030004, 12, 12⟩
def STAT_SEAL : FRef := ⟨0x2B030004, 11, 11⟩
def STAT_PRES : FRef := ⟨0x2B030004, 10, 10⟩
def STAT_NOID : FRef := ⟨0x2B030004, 9, 9⟩
def STAT_WPEND : FRef := ⟨0x2B030004, 2, 2⟩
def STAT_CFG_IGN : FRef := ⟨0x2B030004, 1, 1⟩
def STAT_RUN : FRef := ⟨0x2B030004, 0, 0⟩
def VER_BLOCKID : FRef := ⟨0x2B030008, 31, 16⟩
def VER_MAJOR : FRef := ⟨0x2B030008, 15, 8⟩
def VER_MINOR : FRef := ⟨0x2B030008, 7, 0⟩
def WINLEFT : FRef := ⟨0x2B030010, 5, 0⟩
def DEVIDLO : FRef := ⟨0x2B030014, 31, 0⟩
def DEVIDHI : FRef := ⟨0x2B030018, 31, 0⟩
def KEYCTR : FRef := ⟨0x2B03001C, 31, 0⟩
def OWNERS_SEALEN : FRef := ⟨0x2B030020, 8, 8⟩
def OWNERS_VALID : FRef := ⟨0x2B030020, 3, 0⟩
def FUSES_EPOCH : FRef := ⟨0x2B030024, 10, 4⟩
def FUSES_IDGEN : FRef := ⟨0x2B030024, 2, 2⟩
def FUSES_LCF1 : FRef := ⟨0x2B030024, 1, 1⟩
def FUSES_LCF0 : FRef := ⟨0x2B030024, 0, 0⟩
def LCSEQ : FRef := ⟨0x2B030028, 31, 0⟩
def CMD_ARG : FRef := ⟨0x2B030030, 7, 4⟩
def CMD_OP : FRef := ⟨0x2B030030, 3, 0⟩
def RES_DONE : FRef := ⟨0x2B030034, 31, 31⟩
def RES_CODE : FRef := ⟨0x2B030034, 4, 0⟩
def MSG (j : Nat) : FRef := ⟨0x2B030100 + 0x4 * j, 31, 0⟩
def IDPUB (j : Nat) : FRef := ⟨0x2B030300 + 0x4 * j, 31, 0⟩
def CERT (j : Nat) : FRef := ⟨0x2B030400 + 0x4 * j, 31, 0⟩

end Reg.KEY

namespace Reg.UPD

def CTRL_SRST : FRef := ⟨0x2B040000, 1, 1⟩
def CTRL_EN : FRef := ⟨0x2B040000, 0, 0⟩
def STAT_STATE : FRef := ⟨0x2B040004, 15, 12⟩
def STAT_RECOVERY : FRef := ⟨0x2B040004, 8, 8⟩
def STAT_WPEND : FRef := ⟨0x2B040004, 2, 2⟩
def STAT_CFG_IGN : FRef := ⟨0x2B040004, 1, 1⟩
def STAT_RUN : FRef := ⟨0x2B040004, 0, 0⟩
def VER_BLOCKID : FRef := ⟨0x2B040008, 31, 16⟩
def VER_MAJOR : FRef := ⟨0x2B040008, 15, 8⟩
def VER_MINOR : FRef := ⟨0x2B040008, 7, 0⟩
def CMD : FRef := ⟨0x2B040010, 3, 0⟩
def ARG (j : Nat) : FRef := ⟨0x2B040014 + 0x4 * j, 31, 0⟩
def RES_DONE : FRef := ⟨0x2B040030, 31, 31⟩
def RES_CODE : FRef := ⟨0x2B040030, 4, 0⟩
def SLOTS_ATTEMPTS : FRef := ⟨0x2B040034, 11, 8⟩
def SLOTS_MODE : FRef := ⟨0x2B040034, 3, 3⟩
def SLOTS_TRIAL : FRef := ⟨0x2B040034, 2, 2⟩
def SLOTS_CFGPREF : FRef := ⟨0x2B040034, 1, 1⟩
def SLOTS_FWSLOT : FRef := ⟨0x2B040034, 0, 0⟩
def TRIALLEFT : FRef := ⟨0x2B040038, 16, 0⟩
def SECVERLO : FRef := ⟨0x2B040040, 31, 0⟩
def SECVERHI : FRef := ⟨0x2B040044, 31, 0⟩
def MINSVLO : FRef := ⟨0x2B040048, 31, 0⟩
def MINSVHI : FRef := ⟨0x2B04004C, 31, 0⟩
def HDRSEQ : FRef := ⟨0x2B040050, 31, 0⟩
def SETDROP : FRef := ⟨0x2B040054, 15, 0⟩
def BUF (j : Nat) : FRef := ⟨0x2B041000 + 0x4 * j, 31, 0⟩

end Reg.UPD

end Sys2Proof.Machine
end

