-- ==== Sys2Proof/Machine/Assoc.lean ====
section
/-! DEFINITION. Tables by number: sorted lists of (key, value) pairs in one canonical form, strictly rising keys and
no entry that holds the value an unlisted key reads as. Register file, memories and hidden tables are all such
tables, so equal contents are equal data. -/

namespace Sys2Proof.Machine

/-- The value listed under a key. -/
def Assoc.find {α : Type} : List (Nat × α) → Nat → Option α
  | [], _ => none
  | (k, v) :: t, a => if k = a then some v else Assoc.find t a

/-- List a value under a key, replacing what is there. -/
def Assoc.put {α : Type} : List (Nat × α) → Nat → α → List (Nat × α)
  | [], a, x => [(a, x)]
  | (k, v) :: t, a, x =>
      if k = a then (a, x) :: t else if a < k then (a, x) :: (k, v) :: t else (k, v) :: Assoc.put t a x

/-- Remove a key. -/
def Assoc.del {α : Type} : List (Nat × α) → Nat → List (Nat × α)
  | [], _ => []
  | (k, v) :: t, a => if k = a then Assoc.del t a else (k, v) :: Assoc.del t a

/-- Write a value in canonical form: the value an unlisted key reads as is removed, any other is listed. -/
def Assoc.set {α : Type} [DecidableEq α] (l : List (Nat × α)) (a : Nat) (x dflt : α) : List (Nat × α) :=
  if x = dflt then Assoc.del l a else Assoc.put l a x

/-- The value listed under a key, or the given one. -/
def Assoc.findD {α : Type} (l : List (Nat × α)) (a : Nat) (dflt : α) : α := (Assoc.find l a).getD dflt

/-- Change the value listed under a key, if any. -/
def Assoc.modify {α : Type} (l : List (Nat × α)) (a : Nat) (f : α → α) : List (Nat × α) :=
  match Assoc.find l a with
  | some v => Assoc.put l a (f v)
  | none => l

/-- Keys strictly rising. -/
def Assoc.sorted {α : Type} : List (Nat × α) → Bool
  | [] => true
  | [_] => true
  | (k, _) :: (j, w) :: t => decide (k < j) && Assoc.sorted ((j, w) :: t)

/-- The canonical form: keys strictly rising and no entry equal to what its key reads as when unlisted. -/
def Assoc.canon {α : Type} [DecidableEq α] (dflt : Nat → α) (l : List (Nat × α)) : Bool :=
  Assoc.sorted l && l.all (fun p => decide (p.2 ≠ dflt p.1))

end Sys2Proof.Machine
end

