-- ==== Sys2Proof/Machine/State.lean ====
section
/-! DEFINITION. The state of the chip as plain data: the register file and, beside it, every piece of state the spec
gives the chip that no register shows (queues, rings, deadlines, keys, stored frames), and the commands waiting. -/

namespace Sys2Proof.Machine

/-- The reasons the machine can stop. -/
inductive Fault where
  /-- A slave TDM port whose external bit clock exceeds the limit of its pins, where the spec says the port's
  behaviour is not specified (R261). Raised by APRT_FRAME. Safe: the machine stops where the hardware may go on. -/
  | aprtClockTooFast
  deriving DecidableEq, Repr

/-- Commands that have no meaning in the model. -/
inductive Refusal where
  /-- An arm of `exec` that is not modelled, by the mnemonic of its row. Safe: nothing is claimed of it. -/
  | notModelled (mnemonic : String)
  deriving DecidableEq, Repr

/-- A write accepted on the bus matrix that waits to take effect in its block's domain (R22, R55): `rise`,
`fall` and `srst` say what it does to EN and whether it asks for a soft reset; `cap` holds the RWD words its block starts
with when it sets EN (R45, R47). -/
structure Landing where
  m : Nat
  addr : Nat
  data : Word
  rise : Bool
  fall : Bool
  srst : Bool
  cap : List (Nat × Word)
  /-- Of a soft reset that has taken effect but for the registers of a receive domain whose clock is stopped, the rest (R57). -/
  rxRest : Bool
  deriving DecidableEq, Repr

/-- A transaction of a master; it may wait at a target locked by another (R515). `unl` says that its master's unlock was armed
when it was issued (R50), and `remap` the REMAP under which it was decoded (R516). -/
structure BusOp where
  m : Nat
  write : Bool
  lock : Bool
  addr : Nat
  size : Nat
  data : Word
  unl : Bool
  remap : Bool
  deriving DecidableEq, Repr

/-- A locked sequence in progress (R515): its master, its target and when it began. -/
structure BusLock where
  m : Nat
  target : Nat
  since : Nat
  deriving DecidableEq, Repr

/-- The response of a transaction (R514) and the data read. -/
structure BusResp where
  code : Nat
  data : Word
  deriving DecidableEq, Repr

/-- A service-port transaction in flight (R522, R523). -/
structure SpTrans where
  write : Bool
  addr : Nat
  data : Word
  since : Nat
  deriving DecidableEq, Repr

/-- The service port (R522–R525). -/
structure SpPort where
  inflight : Option SpTrans
  /-- What the matrix answered to the transaction in flight. -/
  answer : Option BusResp
  done : Bool
  lost : Bool
  crcErr : Bool
  timeout : Bool
  resp : BusResp
  unreported : Bool
  /-- The bytes the last STATUS frame returned (R522). -/
  status : List Byte
  deriving DecidableEq, Repr

/-- A converter of SNS (R518): the millisecond whose scan of the safety set it makes, what is left of that scan, and the sensor at
which telemetry goes on. -/
structure SnsConv where
  pass : Option Nat
  left : List Nat
  turn : Nat
  deriving DecidableEq, Repr

/-- The management complex beside its registers. -/
structure MgtState where
  /-- Masters whose unlock is armed, with the time it disarms (R50, R51). -/
  unlocks : List (Nat × Nat)
  /-- The locked sequences in progress, at most one of a master and of a target (R515). -/
  locks : List BusLock
  stalled : List BusOp
  /-- The response to each master's last transaction (R514). -/
  readBack : List (Nat × BusResp)
  wdLast : Nat
  wdExpired : Option Nat
  sp : SpPort
  /-- Sensors outside their limits, not re-armed (R519). -/
  tripped : List Nat
  trig : Option Nat
  /-- The converter of the temperatures (R518). -/
  convT : SnsConv
  /-- The converter of the voltage monitors (R518). -/
  convV : SnsConv
  trigOvrAt : Option Nat
  /-- The SECDED-protected SRAM (R34, R509), bytes by offset. -/
  sram : List Host.Cell
  deriving DecidableEq, Repr

/-- A pending event record (R488, R489). -/
structure PendRec where
  src : Nat
  data : Word
  time : Nat
  merged : Nat
  deriving DecidableEq, Repr

/-- A reaction whose present step waits for its acknowledgement (R499): the steps that remain, and the deadline. -/
structure Reaction where
  steps : List Nat
  noAck : List Nat
  deadline : Nat
  deriving DecidableEq, Repr

/-- The fault collector beside its registers. -/
structure FltState where
  pend : List PendRec
  reaction : Option Reaction
  /-- When each busy handling slot was occupied, and whether SLOT_HELD was raised (R493). -/
  held : List (Nat × (Nat × Bool))
  /-- When the phase SERVICE was entered: the origin of the square wave (R501). -/
  serviceSince : Nat
  /-- Consecutive mismatching samples of FLT_A and FLT_B (R504). -/
  misA : Nat
  misB : Nat
  /-- When the pins were last sampled (R504). -/
  pinAt : Nat
  /-- Interrupts raised to the cores, by severity (R490). -/
  irq : List Nat
  deriving DecidableEq, Repr

/-- An ingress entry beside its registers. -/
structure Ingress where
  /-- The declared format word of its source. -/
  fmt : Nat
  /-- It occupies a whole slot (R62, R274), whatever its SIZE shows. -/
  whole : Bool
  /-- COUNT of the last frame issued since admission or since it left NOSIG (R154, R176). -/
  count : Option Nat
  /-- The frame last started, when its start reached the slot former, and whether it was in window (R68). -/
  cur : Option Frame
  at_ : Nat
  inWin : Bool
  /-- Consecutive frames in window (R71). -/
  run : Nat
  /-- When the cells now held were written (R65). -/
  cells : List Nat
  /-- The entry it moves to in a compaction (R89). -/
  moveTo : Option Nat
  /-- The entry its stream has moved to, and when that frame began; this entry still holds the frame before (R89, R90). -/
  left : Option (Nat × Nat)
  /-- The SDI engine or de-celler delivers frames of the declared format (R188–R190). -/
  writing : Bool
  /-- By how many thirds of a ns the picture of a converter's frame is displaced, its input having been read untimed (R284). -/
  disp : Int
  deriving DecidableEq, Repr

/-- An egress entry beside its registers. -/
structure Egress where
  fmt : Nat
  whole : Bool
  /-- The frame being formatted (none: idle content), whether it is read timed, by how many thirds of a ns the picture of an
  untimed read is displaced (R70), and its take epoch. -/
  cur : Option Frame
  timed : Bool
  disp : Int
  epoch : Nat
  /-- Epoch, COUNT and token state of the last frame checked (R161). -/
  base : Option (Nat × Nat × Nat)
  /-- The lowest cause the present frame failed with (R164). -/
  failed : Option Nat
  /-- The token check of the present frame has been made. -/
  checked : Bool
  /-- Consecutive passing frames of a recovery, and whether they count (R169). -/
  passes : Nat
  counting : Bool
  /-- The verdict whose change of content is still to come (R169). -/
  verdict : Option Nat
  /-- What the lane carries: 0 content, 1 held frame, 2 black. -/
  lane : Nat
  /-- The last verified frame (R166), and a digest mismatch found on reading it. -/
  held : Option Frame
  holdBad : Bool
  /-- The last frame sent had content (R128). -/
  content : Bool
  /-- The source was destroyed: no source at the next switch instant (R129). -/
  srcGone : Bool
  /-- Its channel has been destroyed and stops at the next frame instant (R103). -/
  stopping : Bool
  moveTo : Option Nat
  /-- The anc-ins whose packets the next frame takes (R199), by channel index, each with the frame it had last extracted. -/
  ancFrom : List (Nat × Nat)
  /-- The packets on lines 1 to 6 that an idle frame carries, in which a switch to no source falls (R119, R196). -/
  kept : List AncPkt
  deriving DecidableEq, Repr

/-- One frame in the ring of a frame-sync stream (R76): the frame, when its start was written, and its number. -/
structure RingFrame where
  frame : Frame
  at_ : Nat
  seq : Nat
  deriving DecidableEq, Repr

/-- A frame-sync stream beside its registers. -/
structure FsStream where
  /-- Channel-table index of the binding. -/
  chan : Nat
  /-- Channel-table index of the input bound (R159). -/
  input : Nat
  /-- The ring, newest first, with the frame being written at its head. -/
  ring : List RingFrame
  seq : Nat
  /-- The number of the frame last read, and how often in a row it was returned. -/
  lastRead : Option Nat
  returns : Nat
  deriving DecidableEq, Repr

/-- What waits for a compaction (R88, R304, R355): a channel creation, a lane's start, or a layer binding. -/
inductive CompactWait where
  | create
  | lane (n : Nat)
  | layer (g : Nat)
  deriving DecidableEq, Repr

/-- The take slots of an output beside its route record (R122). -/
structure OutTakes where
  pend : Option TakeRec
  lat : Option TakeRec
  deriving DecidableEq, Repr

/-- A completion record (R126, R150). -/
structure Completion where
  out : Nat
  code : Nat
  flags : Nat
  epoch : Nat
  ref : Nat
  peer : Nat
  tsw : Nat
  deriving DecidableEq, Repr

/-- The slot store and the take engine beside the registers of FAB. -/
structure FabState where
  ing : List (Nat × Ingress)
  egr : List (Nat × Egress)
  /-- Frame-sync streams by 4 × unit + stream. -/
  fs : List (Nat × FsStream)
  compact : Option CompactWait
  /-- The entries that a creation, a layer or a lane was admitted with and still waits for, counted in BUDGET (R88, R304,
  R355): sizes of ingress and egress entries. -/
  need : List (CompactWait × List Nat × List Nat)
  outs : List (Nat × OutTakes)
  sched : List (Nat × SchedTake)
  /-- The use count of each scheduled-take entry used before (R133). -/
  schedUse : List (Nat × Nat)
  salvos : List (Nat × Salvo)
  tcq : List Completion
  deriving DecidableEq, Repr

/-- Path integrity beside the registers of PROV. -/
structure ProvState where
  /-- Words of on-chip memories stored with inverted check bits: memory, word address, bits (R175). -/
  inverted : List (Nat × (Nat × Nat))
  /-- Words whose check failed uncorrectably and were reported (R174, R289). -/
  bad : List (Nat × Nat)
  deriving DecidableEq, Repr
/-- A live or releasing channel beside its entry: kind, creation arguments, descriptor words (R214), the order of
creation, the unit it holds (engine, flow, stream or druse entry), and whether the release still waits. -/
structure Chan where
  kind : Nat
  args : List Nat
  desc : List Nat
  order : Nat
  unit : Nat
  live : Bool
  /-- The charges it holds: DRAM kb/s, DRAM pages, packet memory bytes. -/
  kbps : Nat
  pages : Nat
  pmem : Nat
  /-- Its voice granules, in and out (R250). -/
  gin : List Nat
  gout : List Nat
  deriving DecidableEq, Repr

/-- A druse member (R106): its type (0 channel, 1 lane, 2 druse, 3 chip), system number, reference, and the sizes a
remote member contributes. -/
structure Member where
  type : Nat
  sys : Nat
  ref : Nat
  ins : Nat
  outs : Nat
  deriving DecidableEq, Repr

/-- A claim of a remote member in progress (R111): the druse and the member. -/
structure Claim where
  druse : Nat
  member : Member
  since : Nat
  /-- When it was last sent. -/
  sent : Nat
  deriving DecidableEq, Repr

/-- A creation in progress (R88, R335): its arguments and descriptor, whether the image asks for it, and when it waits for
a PLL, the quad and the PLL. -/
structure CreateWait where
  args : List Nat
  desc : List Nat
  image : Bool
  retune : Bool
  quad : Nat
  pll : Nat
  /-- The DRAM bandwidth in kb/s, the DRAM pages and the packet memory that are reserved for it (R101). -/
  charges : Nat × Nat × Nat
  deriving DecidableEq, Repr

/-- The channel table beside its registers. -/
structure ChnState where
  chans : List (Nat × Chan)
  /-- The next index never used, and the freed indices in the order they were freed (R96). -/
  nextIndex : Nat
  freed : List Nat
  order : Nat
  /-- Members of each druse-table entry, in order. -/
  druses : List (Nat × List Member)
  claim : Option Claim
  /-- A creation that waits for compaction or for a PLL. -/
  waiting : Option CreateWait
  /-- The low condition of TABLE_LOW (R116). -/
  low : Bool
  /-- System numbers found twice (R115). -/
  dupSys : List Nat
  /-- The ENABLE record of the image being loaded lists the TWIN page (R167). -/
  twinListed : Bool
  deriving DecidableEq, Repr
/-- What an engine knows of a stream's payload ID (R194): frames in a row without one, the last one that was judged to disagree, and
the last one received. -/
structure PidRx where
  missing : Nat
  bad : Option Nat
  last : Option SdiPid
  deriving DecidableEq, Repr

/-- The receive half of an SDI engine beside its registers, by page address. -/
structure SdiRx where
  /-- The word spacing found, consecutive consistent lines, and consecutive bad lines while LOCKED (R187). -/
  spacing : Nat
  good : Nat
  bad : Nat
  /-- The frame after LOCKED is being measured (R188). -/
  measuring : Bool
  /-- The payload IDs of the engine's stream, and of the second stream of a level B-DS link (R194). -/
  pid0 : PidRx
  pid1 : PidRx
  /-- The last frame measured was in the declared format, with a payload ID that the channel's policy takes (R189, R194). -/
  fmtOk : Bool
  /-- Audio groups seen in the frame now arriving (R203), bit g for group g + 1. -/
  groups : Nat
  /-- The second of TIME last counted as errored (R191). -/
  errSec : Option Nat
  /-- The rate class being hunted: 3 is 11.88 Gb/s (R186). -/
  hunt : Nat
  /-- The last sample of each de-embedded voice (R204). -/
  lastAudio : List (Nat × Sample)
  /-- The wrong rate that AUD_RATE was last raised for, of group g of stream k at 8 k + g (R203). -/
  rates : List (Nat × Nat)
  deriving DecidableEq, Repr

/-- The side-store buffer of an anc-in (R197): packets of the frame now arriving, and of the frame before. -/
structure AncBuf where
  cur : List AncPkt
  done : List AncPkt
  /-- Frames extracted so far. -/
  turn : Nat
  deriving DecidableEq, Repr

/-- The SDI engines beside their registers, and the side store. -/
structure SdiState where
  rx : List (Nat × SdiRx)
  /-- Side-store buffers by channel-table index; 512 at most (R197). -/
  anc : List (Nat × AncBuf)
  deriving DecidableEq, Repr
/-- A run of samples a video packet carries (R226): row of the frame, place in the row in pixels, and the samples. -/
structure VidSeg where
  row : Nat
  x : Nat
  samples : List Nat
  deriving DecidableEq, Repr

/-- A packet in the repair buffer of a receive flow (R221, R225, R228): extended sequence number, timestamp, marker, the
arrival in ns on legs A and B, on which legs it came late, and what it carries; `bad` says that it contradicts the
declared format, `until_` when it leaves the buffer (R233). -/
structure FlowPkt where
  seq : Nat
  ts : Nat
  marker : Bool
  arrA : Option Nat
  arrB : Option Nat
  inTime : Bool
  lateA : Bool
  lateB : Bool
  segs : List VidSeg
  token : Option (Nat × Nat)
  bad : Bool
  /-- An uncorrectable error of packet memory struck it (R174). -/
  struck : Bool
  bytes : Nat
  until_ : Nat
  deriving DecidableEq, Repr

/-- The token bucket of a leg (R232): its level in 2^-8 of a millionth of a bit, and when that was so. -/
structure Bucket where
  level : Nat
  at_ : Nat
  deriving DecidableEq, Repr

/-- A receive flow beside its registers. -/
structure RxFlow where
  /-- Channel-table index of its channel. -/
  chan : Nat
  desc : List Nat
  /-- An SSRC is learned (R220), since when packets of another have come without one of it, and FLOW_UP stands. -/
  known : Bool
  otherSince : Option Nat
  up : Bool
  /-- Sequence tracking restarts at the next packet (R220); the first and the highest number accepted since it began, and the ranges
  between them that were not accepted (R221). -/
  again : Bool
  since : Nat
  hi : Option Nat
  missed : List (Nat × Nat)
  /-- The highest number of the frame last released, and how many numbers after it counted as lost with it (R225). -/
  ended : Option Nat
  tail : Nat
  pkts : List FlowPkt
  /-- The packets of the frame last released, whose copies on the other leg may still come (R228). -/
  past : List FlowPkt
  buckets : List (Nat × Bucket)
  /-- Legs that have accepted a packet since creation, and legs whose JOIN_TIMEOUT was raised (R219). -/
  got : List Nat
  joinLate : List Nat
  /-- Audio samples waiting, by media-clock tick, a sample for each voice; the last that entered, and how many in a row
  were missing (R239). -/
  audio : List (Nat × List Sample)
  last : List Sample
  missing : Nat
  /-- How timestamps stand to the word clock (R239): the number less the word-clock tick, the difference of the two clocks in
  millionths of a sample that this stands for, and the tick of the last sample. -/
  map : Option (Int × Int × Nat)
  /-- The 64-bit count of policed packets, and POLDROP when last read (R232). -/
  polTotal : Nat
  polLast : Nat
  deriving DecidableEq, Repr

/-- What a send flow still has to send of its frame (R235, R241): the frame and its timestamp, the row and pixel that come
next, and the ANC packets. -/
structure TxFrame where
  frame : Frame
  ts : Nat
  row : Nat
  x : Nat
  first : Bool
  anc : List AncPkt
  deriving DecidableEq, Repr

/-- A send flow beside its registers: its extended sequence number, the frame being sent, the anc-ins whose packets the
next frame takes, and the number of the next audio sample to send (R240). -/
structure TxFlow where
  chan : Nat
  desc : List Nat
  seq : Nat
  cur : Option TxFrame
  ancFrom : List (Nat × Nat)
  next : Nat
  deriving DecidableEq, Repr

/-- A group the firmware reports on a port (R219): the leg's source (0: none), and whether the second report, or the second
leave, is still to come. -/
structure IgmpGroup where
  src : Nat
  again : Bool
  leaving : Bool
  deriving DecidableEq, Repr

/-- The IP media engine beside its registers: flows by number; groups by port × 2^32 + address; ports in IGMPv2
compatibility, with the time it ends. -/
structure IpmState where
  rx : List (Nat × RxFlow)
  tx : List (Nat × TxFlow)
  igmp : List (Nat × IgmpGroup)
  compat : List (Nat × Nat)
  deriving DecidableEq, Repr
/-- An input voice of the TSI: the samples of the block now filling, and the two blocks before it (R146) with the 32-bit
tags they were given on entry (R171). -/
structure InVoice where
  cur : List Sample
  last : List Sample
  older : List Sample
  lastTag : Nat
  olderTag : Nat
  deriving DecidableEq, Repr

/-- A voice switch in progress (R146): the voices, the sample number it starts at and its length. -/
structure Fade where
  old : Option Nat
  new : Option Nat
  start : Nat
  len : Nat
  deriving DecidableEq, Repr

/-- A gain ramp in progress (R258), in 2^-24 of full amplitude. -/
structure Ramp where
  from_ : Nat
  dest : Nat
  start : Nat
  len : Nat
  deriving DecidableEq, Repr

/-- A change of source that waits for a block boundary (R257): FIXED on an input or on none, or COUPLED at a
position. -/
inductive VoiceChange where
  | fixed (src : Option Nat)
  | couple (pos : Nat)
  deriving DecidableEq, Repr

/-- An output voice beside its map entry. -/
structure OutVoice where
  /-- Voice switches that have not ended, the newest first; a cut has the length 0 (R146, R257). -/
  fades : List Fade
  change : Option VoiceChange
  /-- The gain ramps that have not ended and those that they began from, the newest first, and the amplitude before them (R258). -/
  ramps : List Ramp
  amp : Nat
  /-- The last tag checked: index and counter (R171). -/
  tag : Option (Nat × Nat)
  /-- Consecutive passing blocks of a failed voice (R172), and whether it is ramped to silence for its failure. -/
  passes : Nat
  silenced : Bool
  /-- Its released input is ramped to silence, after which the entry shows no source (R259). -/
  freed : Bool
  /-- The output block of the last boundary, and the last four. -/
  out : List Sample
  hist : List Sample
  deriving DecidableEq, Repr

/-- A TDM port beside its registers (R262–R270). -/
structure AprtState where
  /-- Frames since MEASURE was entered. -/
  frames : Nat
  /-- Block stamps, newest first, at most 17. -/
  stamps : List Nat
  /-- The reference rate in mHz (R270), and whether RATE_RANGE was raised in this MEASURE. -/
  refRate : Nat
  rangeRaised : Bool
  /-- The frames in the input FIFO, oldest first; the level of the output FIFO (R267); the TSI tick up to which the port has given
  and taken samples, and the tick at which RUN was entered. -/
  fifoIn : List (List Nat)
  fifoOut : Nat
  lastTick : Nat
  runTick : Nat
  /-- The last frame that entered the TSI, which an underrun repeats. -/
  lastFrame : List Nat
  /-- When the last FS edge came (R266). -/
  edge : Nat
  /-- The tick at which the ASRC voices last locked or lost lock (R268); none: they have not locked since the port started. -/
  asrcAt : Option Nat
  deriving DecidableEq, Repr

/-- The audio matrix beside its registers. -/
structure AudState where
  ins : List (Nat × InVoice)
  outs : List (Nat × OutVoice)
  /-- The block now filling, counted from the SMPTE epoch (R248). -/
  block : Nat
  /-- Blocks since reset, which the tags count (R171). -/
  count : Nat
  ports : List (Nat × AprtState)
  /-- ASRC voices held by each port (R268). -/
  asrc : List (Nat × Nat)
  /-- The rate the allocated granules were given under (R272). -/
  granRate : Nat
  deriving DecidableEq, Repr
/-- One bank of a converter but its tables: the PROC word, the nine coefficients and the six offsets as their
registers hold them. -/
structure CnvBank where
  proc : Nat
  matc : List Nat
  matoff : List Nat
  deriving DecidableEq, Repr

/-- A converter beside its registers: the active bank (the registers show the inactive one), and the tables of both
banks, by table, component and entry; an unlisted entry holds 0. -/
structure CnvHw where
  act : CnvBank
  lut : List (Nat × Nat)
  nextLut : List (Nat × Nat)
  /-- When the swap that is pending was requested (R285). -/
  goAt : Nat
  deriving DecidableEq, Repr

/-- The converters beside their registers. -/
structure CnvState where
  cnv : List (Nat × CnvHw)
  deriving DecidableEq, Repr
/-- A layer set (R299): the seven words of each layer, layers 0 to 62 in turn, the background, and the tables (LUTSEL
number × 4,096 + entry; an unlisted entry holds 0). -/
structure MicaSet where
  words : List Nat
  bg : Nat
  lut : List (Nat × Nat)
  deriving DecidableEq, Repr

/-- A request that waits: a set to commit, or a reflatten (none). -/
structure MicaReq where
  set : Option MicaSet
  /-- It flattens whatever its set changes: a REFLATTEN (R308). -/
  re : Bool
  /-- The words in error that had been rewritten when the snapshot was taken (R320). -/
  fixed : List Nat
  deriving DecidableEq, Repr

/-- A commit or flatten in progress (R299, R307, R308): its set (none: a reflatten), whether it flattens, and since when
it may become active: the commit, or the end of the flatten. -/
structure MicaPending where
  set : Option MicaSet
  flatten : Bool
  since : Option Nat
  /-- The words in error that its set has anew (R320). -/
  fixed : List Nat
  /-- A set accepted before that changes nothing in the slate, with the words it has anew, and since when it may become active
  (R300). -/
  early : Option (MicaSet × List Nat × Nat)
  deriving DecidableEq, Repr

/-- A pixel of three components, red, green and blue or the like. -/
structure Rgb where
  r : Int
  g : Int
  b : Int
  deriving DecidableEq, Repr

/-- A decimated frame (R305): its pixels in rows, 10-bit components as its source sampled them, RGB or YCbCr with a
colorimetry, whether it carries no source, the cause it failed with (0: none), and when it was completed. -/
structure DecFrame where
  w : Nat
  h : Nat
  pixels : List Rgb
  rgb : Bool
  colr : Nat
  nosrc : Bool
  cause : Nat
  at_ : Nat
  deriving DecidableEq, Repr

/-- A decimator beside its registers: its newest complete frame, the frame it last took and its counter (R317), and
whether it leaves its source (R306). -/
structure DecHw where
  newest : Option DecFrame
  base : Option (Nat × Nat)
  leaving : Bool
  kbps : Nat
  pages : Nat
  /-- When it was bound (R317). -/
  since : Nat
  /-- When it was last pointed at a source: it starts at the next first-of-frame cell that it takes (R305, R306). -/
  from_ : Nat
  deriving DecidableEq, Repr

/-- A region monitor: the CRC of the last frame, for how many frames it has stood, and whether REGION is raised
(R318). -/
structure RegionHw where
  last : Option Nat
  same : Nat
  raised : Bool
  deriving DecidableEq, Repr

/-- What a selection point latches (R296): layer words, background and tables, slate and its layers, flint bank, alarms
showing, and the frame of each VIDEO layer. -/
structure MicaLatch where
  set : MicaSet
  slate : Option (List Rgb)
  slateLayers : List Nat
  flint : Option FlintBank
  /-- FLINT.EN. -/
  en : Bool
  alarms : List Nat
  frames : List (Nat × Option DecFrame)
  /-- What DRAM holds of the graphics. -/
  mem : List Host.Cell
  deriving DecidableEq, Repr

/-- A BIND that passed its checks and waits for its egress entry: what it asked for, its decimator, the DRAM charged, and the session
it counts for. -/
structure BindWait where
  layer : Nat
  src : Nat
  w : Nat
  h : Nat
  dec : Nat
  kbps : Nat
  pages : Nat
  session : Nat
  deriving DecidableEq, Repr

/-- A mica engine beside its registers. -/
structure MicaHw where
  /-- A BIND that was admitted and waits for a compaction (R304). -/
  waitBind : Option BindWait
  /-- The tables of the next set, the words in error that have been written since they struck (R320), and whether the window stands
  past entry 4,095 (R303). -/
  nextLut : List (Nat × Nat)
  lutFixed : List Nat
  lutPast : Bool
  /-- The active background and tables; the active layer words stand in the mirror. -/
  bg : Nat
  lut : List (Nat × Nat)
  pending : Option MicaPending
  queued : Option MicaReq
  /-- The active slate as decoded, in raster order (none: the background alone), its layers, and one newly made. -/
  slate : Option (List Rgb)
  slateLayers : List Nat
  newSlate : Option (List Rgb × List Nat)
  /-- The active flint bank, and one loaded that waits for a selection point (R312). -/
  flint : Option FlintBank
  loaded : Option FlintBank
  /-- What the last selection point latched. -/
  latched : Option MicaLatch
  /-- Consecutive matching flint frames, and an uncorrectable error in the flint bank (R315, R316). -/
  matches_ : Nat
  flintBad : Bool
  /-- The table words with an uncorrectable error: table × 4,096 + entry (R320). -/
  lutBad : List Nat
  /-- Passing decimated frames of each layer since it failed (R317). -/
  passes : List (Nat × Nat)
  regions : List (Nat × RegionHw)
  deriving DecidableEq, Repr

/-- The compositor beside its registers. -/
structure MicaState where
  mica : List (Nat × MicaHw)
  dec : List (Nat × DecHw)
  deriving DecidableEq, Repr
/-- A request on the AUX channel (R329): operation, address, length in bytes, DEFERs met, and when it was last sent. -/
structure AuxReq where
  op : Nat
  addr : Nat
  len : Nat
  defers : Nat
  sentAt : Nat
  deriving DecidableEq, Repr

/-- The panel scan-out beside its registers. -/
structure ScanState where
  /-- The level of EDP_HPD. -/
  hpd : Bool
  /-- The training of a start is in progress (R323), a training that leaves PSR (R328), and the last one failed (R324). -/
  starting : Bool
  fromPsr : Bool
  trainFailed : Bool
  /-- When the link last went DOWN (R324). -/
  downAt : Nat
  /-- The panel reported self-refresh at training, and consecutive frames without a flip. -/
  psrPanel : Bool
  idle : Nat
  flipped : Bool
  /-- The buffer of the pending flip, and a buffer latched that the next frame start shows first (R327). -/
  next : Nat
  toShow : Bool
  /-- The AUX request in progress, and whether it waits for training to end. -/
  aux : Option AuxReq
  auxWaits : Bool
  /-- The DRAM bandwidth charged, kb/s. -/
  kbps : Nat
  deriving DecidableEq, Repr
/-- A lane beside its registers. -/
structure LaneHw where
  /-- The slot entries an F-mode lane holds: ingress of halves 0 and 1, egress of halves 0 and 1 (R64). -/
  ents : List Nat
  /-- Consecutive passing and failing cell headers (R339). -/
  good : Nat
  bad : Nat
  /-- The last sequence number of each slot half (R339). -/
  seq : List (Nat × Nat)
  /-- The carried claim last received (R450). -/
  claim : Nat
  /-- EQ_LIMIT has been raised for the present hold (R347). -/
  eqHeld : Bool
  /-- Its start waits for a compaction (R355). -/
  starting : Bool
  /-- A change of signal detect that its stopped receive domain has not taken (R23). -/
  sigWaits : Option Bool
  /-- When the hunt for cell lock at the present polarity began (R340). -/
  huntAt : Nat
  /-- When the CDR last locked, and with it adaptation began (R347). -/
  lockAt : Nat
  /-- When the last service cell left (R341), and when the eye was last measured (R348). -/
  sentAt : Nat
  eyeAt : Nat
  /-- The service-stream data last received for the management firmware (R341). -/
  stream : Nat
  deriving DecidableEq, Repr

/-- The lanes beside their registers. -/
structure LanesState where
  lanes : List (Nat × LaneHw)
  /-- When each TX PLL last began to retune (R335), by 2q + p. -/
  tuned : List (Nat × Nat)
  deriving DecidableEq, Repr
/-- A hold of a port's frames (R369, R371): since when it has lasted without a break, and when it ends. -/
structure Hold where
  since : Nat
  until_ : Nat
  deriving DecidableEq, Repr

/-- An Ethernet port beside its registers. -/
structure EthPort where
  /-- The running counters of R377: RXFRM, TXFRM, RXOCT, TXOCT, RXFCS, RXLEN, RXCSUM, RXDROP, RXPAUSE, TXDROP, RINGDROP,
  FECCOR, FECUNC; and the firmware's 64-bit totals of them (R378). -/
  ctr : List Nat
  totals : List Nat
  /-- The PCS is locked, and the fault ordered sets arriving: 0 none, 1 local, 2 remote (R361). -/
  locked : Bool
  fault : Nat
  /-- Media packets waiting, with their class (R367, R370). -/
  queue : List (Nat × List Byte)
  /-- Holds by class; class 8 is PAUSE, which holds every frame. -/
  holds : List (Nat × Hold)
  /-- A scan of the transmit ring is in progress (R376). -/
  scanning : Bool
  /-- Since when the PCS has been locked with no fault sequence (R361). -/
  cleanAt : Nat
  /-- When the pause watchdog last fired (R371). -/
  wdAt : Nat
  deriving DecidableEq, Repr

/-- The Ethernet ports beside their registers. -/
structure EthState where
  ports : List (Nat × EthPort)
  deriving DecidableEq, Repr
/-- The state of a PTP port in the firmware (R398). -/
inductive PtpPortState where
  | listening | leader | follower | passive
  deriving DecidableEq, Repr

/-- The grandmaster the BMCA selected: the data set it announced and the port it came through (R398). -/
structure PtpParent where
  port : Nat
  /-- The identity of the port that sent it, a boundary clock's perhaps. -/
  source : Nat
  ds : PtpDataset
  /-- The UTC offset and leap flags it announces (R382, R400). -/
  utc : Int
  leap : Nat
  /-- When it last announced. -/
  heard : Nat
  deriving DecidableEq, Repr

/-- Network time in the firmware (R398, R399): the settings of the image, the ports, and the follower's servo. -/
structure PtpState where
  cfg : PtpCfg
  ports : List (Nat × PtpPortState)
  /-- What each sender heard last announced, by port and sender. -/
  foreign : List PtpParent
  parent : Option PtpParent
  /-- The grandmaster last selected, and the UTC offset and leap flags last announced (R400). -/
  gm : Option Nat
  utcSeen : Option (Int × Nat)
  /-- Since when the ports listen. -/
  since : Nat
  /-- The first offset since start, or since time was last declared unlocked, is still to come. -/
  first : Bool
  locked : Bool
  /-- Since when |offset| has stayed below 1 µs. -/
  belowSince : Option Nat
  lastSync : Nat
  syncLost : Bool
  alarmed : Bool
  /-- Sync waiting for its Follow_Up: sequence number, receive stamp and correction. -/
  sync : Option (Nat × Nat × Int)
  /-- The last completed Sync exchange: t1 with its corrections, and t2; none after a step (R389). -/
  exch : Option (Int × Nat)
  /-- The Delay_Req in flight: sequence number and transmit stamp t3. -/
  delayReq : Option (Nat × Nat)
  pathDelay : Int
  offset : Int
  /-- Next sequence number of each message type the firmware sends. -/
  seqs : List (Nat × Nat)
  /-- When each was last sent. -/
  sent : List (Nat × Nat)
  /-- The ST 2059-2 metadata last read (R398). -/
  smd : List Word
  deriving DecidableEq, Repr

/-- The TIME block beside its registers. -/
structure TimeState where
  stepLo : Word
  offLo : Word
  /-- Steps written and not yet applied, oldest first (R387). -/
  steps : List Int
  /-- Servo offsets landed and not yet taken (R392). -/
  offsets : List Int
  capPend : Bool
  /-- The servo's integral, in 2^-24 ppb (R392). -/
  integ : Int
  /-- Transmit time-stamp queues of the E-ports: (ID, stamp), oldest first (R396). -/
  txq : List (Nat × List (Nat × Nat))
  ptp : PtpState
  deriving DecidableEq, Repr

/-- What the detector of a reference has seen (R405): the last pulse or edge at its expected time, and of sync pulses the last frame
pulse so and whether the last one was misplaced; since when the reference has been good; and the measure of its frequency: when the
present one began, how far the phase has drifted since, and whether the last one was within FREQTOL. -/
structure RefSeen where
  edge : Nat
  frame : Nat
  off : Bool
  good : Option Nat
  from_ : Nat
  drift : Int
  within : Bool
  deriving DecidableEq, Repr

/-- The lodestone beside its registers. -/
structure LodeState where
  /-- Lodestone time L, in picoseconds (R402). -/
  l : Nat
  /-- Qualified references with the time each was qualified (R405). -/
  qual : List (Nat × Nat)
  /-- The phase compared of each reference, in ps, as its detector last gave it (R405). -/
  phase : List (Nat × Int)
  /-- The build-out in ps (R408), and when it was last decayed. -/
  buildout : Int
  decayAt : Nat
  /-- The part of a picosecond by which it has decayed beyond that, in 1/1,000,000. -/
  decayRem : Nat
  /-- Since when the phase error has stayed inside the threshold of the present stage (R409). -/
  inside : Option Nat
  /-- When the loop step pending was last written (R414). -/
  stepAt : Nat
  /-- The samples of the holdover average, newest first: frequency offset and temperature (R411), and the last. -/
  avg : List (Int × Int)
  avgAt : Nat
  /-- The average in use in holdover: frequency in 0.001 ppb and temperature in 1/16 °C. -/
  hold : Int × Int
  holdAt : Nat
  specRaised : Bool
  /-- The reference class of the last lock, for R421. -/
  lastClass : Nat
  /-- The exact phase of each plane, in thirds of a nanosecond (R416). -/
  phase3 : List (Nat × Nat)
  /-- Plane steps in ns (R415): the one whose first moved instant is the plane's next frame instant, and the sum of
  those written since the last frame instant. -/
  steps : List (Nat × (Option Int × Option Int))
  /-- By how much each plane until its next frame instant, and each CLKOUT pin until its next edge, still runs beside L, in ps, after a
  realignment (R404). -/
  planeOfs : List (Nat × Int)
  clkOfs : List (Nat × Int)
  /-- What the detectors of the references of codes 2 to 7 have seen. -/
  seen : List (Nat × RefSeen)
  /-- By how much the audio word clock still runs beside L, in ps: it takes the phase of a realignment at its next block boundary
  (R404). -/
  audOfs : Int
  /-- When EN was last set, and when each reference last lost qualification: QUALTIME counts from there (R405). -/
  startAt : Nat
  lostAt : List (Nat × Nat)
  /-- When the last L record of the partner came (R405), and when the own one last left on each pair of T-lanes. -/
  lRecAt : Option Nat
  lSent : List (Nat × Nat)
  deriving DecidableEq, Repr

/-- The external DRAM beside its registers. -/
structure DramState where
  /-- Bytes by system address (R426). -/
  mem : List Host.Cell
  /-- The CFG word in force when the DRAM last trained; a change loses the content (R444). -/
  trainedCfg : Option Word
  /-- 64-bit words (by system address ÷ 8) whose check bits are stored inverted: one bit or two (R440). -/
  inverted : List (Nat × Nat)
  /-- The refresh band each channel's MR4 set: 0, 1, 2 (R433). -/
  band : List (Nat × Nat)
  /-- When the present scrub pass began (R438). -/
  scrubAt : Nat
  /-- 64 KiB pages charged by channels, beside the areas (R428). -/
  pages : Nat
  /-- Bandwidth charged, kb/s, which CHARGED shows in Mb/s (R32). -/
  kbps : Nat
  deriving DecidableEq, Repr

/-- A frame of an output that enters its signature (R463): token, token state and take epoch. -/
structure SigFrame where
  token : Nat
  tstate : Nat
  epoch : Nat
  deriving DecidableEq, Repr

/-- A cycle copy that waits for its acknowledgement: its cycle, whether it is a full copy, the snapshot it was taken from, the
records and the last mirror sequence number it carries, and when it was last sent. -/
structure SentCopy where
  cycle : Nat
  full : Bool
  snap : List CopyItem
  items : List CopyItem
  mirSeq : Nat
  at_ : Nat
  deriving DecidableEq, Repr

/-- The partner's last druse-bus heartbeat (R451). -/
structure Heartbeat where
  at_ : Nat
  claim : Nat
  devid : Nat
  deriving DecidableEq, Repr

/-- Whose command is carried out: its JRP session and transaction ID (R458), 0 of both outside JRP; and its acceptance time. -/
structure CmdCtx where
  session : Nat
  txid : Nat
  at_ : Nat
  deriving DecidableEq, Repr

/-- The twin beside its registers. -/
structure TwinState where
  /-- The own nonce of this link-up (R449). -/
  nonce : Nat
  /-- The link key K (R449). -/
  key : Option Nat
  /-- The partner was verified (R449). -/
  auth : Bool
  /-- The partner's configured CLAIM; its last heartbeat; consecutive failing records. -/
  claim : Nat
  hb : Option Heartbeat
  macFails : Nat
  /-- Mirror records: the last number sent, those without an acknowledgement, commands whose result is awaited, and
  whose command is carried out. -/
  seq : Nat
  mirror : List MirrorRec
  owed : List (MirrorCmd × CmdCtx)
  ctx : CmdCtx
  /-- On the standby: the last record applied, and which record last changed each key of a copied record. -/
  applied : Nat
  changed : List (Nat × Nat)
  /-- Cycle copies: the snapshot of the last acknowledged cycle, the copy that waits, and how far the partner's join has
  come (0 not begun, 1 full copy sent, 2 full copy acknowledged, 3 joined). -/
  base : List CopyItem
  sent : Option SentCopy
  stage : Nat
  /-- On the standby: the last cycle copy applied, and whether the full copy was. -/
  lastCycle : Option Nat
  gotFull : Bool
  /-- A role exchange is asked for (R453). -/
  xchg : Bool
  /-- Signatures of the cycle in progress, outputs that failed in it, and those of the cycle before. -/
  sigs : List (Nat × List SigFrame)
  sigFail : List Nat
  sigCycle : Nat
  sigLast : List SigItem
  /-- Since when there is no link (R451), and whether failing records took it down though its lanes are UP (R449). -/
  downAt : Nat
  cut : Bool
  /-- When each mirror record without an acknowledgement was last sent (R458); the cycle of L whose boundary was the last (R460). -/
  mirrorAt : List (Nat × Nat)
  cycleIdx : Option Int
  /-- The last take that a latch record gave each output, and the cycle whose signatures were compared (R447, R459, R464). -/
  latched : List (Nat × TakeRec)
  sigSeen : Option Nat
  /-- When each supply unit was last polled (R468). -/
  polledAt : List (Nat × Nat)
  deriving DecidableEq, Repr

/-- A frame in the druse bus's receive queue (R478): its header and payload. -/
structure GbusRx where
  hdr : Nat
  payload : List Byte
  deriving DecidableEq, Repr

/-- The druse bus beside its registers. -/
structure GbusState where
  /-- Muted for TERR (R481), and until which instant of TIME for a step (R482). -/
  mute : Bool
  stepUntil : Option Nat
  /-- The payload taken at the latch point for this cycle's frame, and the cycle of the last latch point (R475). -/
  taken : List Byte
  latchCyc : Option Nat
  /-- The slots heard on each pair in this window (R483). -/
  heard : List (Nat × Nat)
  /-- A frame of its own is on the bus, and the pairs on which it has been judged (R477). -/
  ownOut : Bool
  ownSeen : List Nat
  /-- The bus cycle in which each slot's frame was last used (R473). -/
  used : List (Nat × Nat)
  rxq : List GbusRx
  /-- Messages received that the firmware has still to act on: the sender's system number, the type, the body. -/
  msgs : List (Nat × Nat × List Byte)
  /-- When TERR was last written (R481), the bus cycle of the last own frame (R474), and the last window of 16 cycles judged (R483). -/
  terrAt : Nat
  sentCyc : Option Nat
  window : Option Nat
  deriving DecidableEq, Repr

/-- A final status (R587): code, flags, take epoch and switch instant. -/
structure JrpFinal where
  code : Nat
  flags : Nat
  epoch : Nat
  tsw : Nat
  deriving DecidableEq, Repr

/-- A JRP datagram the chip sends (R578): TYPE, the chip's system number, which an opening announces (R115), whether it carries a MAC,
FINAL, session, transaction ID, table epoch, carried claim, result code, and the fields of its body in order (of a RESPONSE:
FINALCODE, FLAGS, and the fields of R591). -/
structure JrpMsg where
  type : Nat
  target : Nat
  mac : Bool
  final : Bool
  session : Nat
  txid : Nat
  epoch : Nat
  claim : Nat
  code : Nat
  body : List Nat
  deriving DecidableEq, Repr

/-- A notification (R594): a final status, a fault record, an executed take, or a TALLY message with its sender. -/
inductive JrpNote where
  | complete (txid : Nat) (f : JrpFinal)
  | event (seq src sev data time merged : Nat)
  | route (out src tsw : Nat)
  | tally (sys : Nat) (body : List Byte)
  deriving DecidableEq, Repr

/-- A command queued in a session (R588, R591), with the table epoch it carries where it names a handle. -/
inductive JrpCmd where
  | nop
  /-- A take-mailbox request with an output handle or schedule ID: OP and arguments. -/
  | fab (op : Nat) (args : List Nat)
  | dtake (druse inPos outPos instant : Nat)
  /-- A salvo operation by global ID: OP, and ARM's instant and MINLEAD. -/
  | salvo (op gid instant minlead : Nat)
  | salvoAdd (gid : Nat) (druse : Option Nat) (takes : List (Nat × Nat))
  /-- The claim of another chip's seed on a druse of this chip (R111): the arguments of its APPEND, and the system number and
  handle of the parent. -/
  | claim (args : List Nat) (psys parent : Nat)
  /-- A channel-table request: OP, arguments, descriptor. -/
  | chn (op : Nat) (args desc : List Nat)
  | voice (op : Nat) (args : List Nat)
  | layer (engine op : Nat) (args : List Nat)
  | micaSet (engine : Nat) (words : List (Nat × Nat)) (commit : Bool)
  | flint (engine addr crc : Nat)
  | cnvLoad (cnv lutsel first : Nat) (values : List Nat)
  | cnvSwap (cnv : Nat)
  | query (object first count : Nat)
  | subscribe (sub : JrpSub)
  | unsubscribe (n : Nat)
  | attest (nonce : List Byte)
  | updStage (op : Nat) (args : List Nat) (bytes : List Byte) (read : StageRead)
  | updConfirm
  | xchg
  | updCommit (mode win max : Nat) (env : StartEnv)
  | lcChange (target : Nat)
  | keyMsg (msg : List Byte) (signer : Option Nat)
  | forceClear (out : Nat)
  deriving DecidableEq, Repr

/-- A transaction ID in a session's window (R586, R587): its answer, code and fields (none: queued or running), whether a
final status belongs to it, and that status once it has arrived. -/
structure JrpEntry where
  txid : Nat
  answer : Option (Nat × List Nat)
  late : Bool
  final : Option JrpFinal
  deriving DecidableEq, Repr

/-- The counts of a session that STATS returns (R596). -/
structure JrpCounts where
  discards : Nat
  busy : Nat
  old : Nat
  repeats : Nat
  lost : Nat
  deriving DecidableEq, Repr

/-- A queued command: its transaction ID, table epoch and command. -/
structure JrpQueued where
  txid : Nat
  epoch : Nat
  cmd : JrpCmd
  deriving DecidableEq, Repr

/-- A session (R582–R590): its peer, its mode, the port, address and UDP port of its OPEN, the client nonce and when it came,
the OPEN_REPLY sent, when the last valid REQUEST came, the highest ID queued, the window, the queue, the credit of its rate in ns
(one command costs 500 µs, 256 at most), its subscriptions, its notification queue, and when a notification was last sent. -/
structure JrpSession where
  id : Nat
  peer : Nat
  hmac : Bool
  port : Nat
  src : Nat
  sport : Nat
  /-- The client's nonce (R582). -/
  nonce : Nat
  /-- The session key of HMAC mode (R583). -/
  key : Option Nat
  opened : Nat
  reply : JrpMsg
  last : Nat
  high : Option Nat
  window : List JrpEntry
  queue : List JrpQueued
  credit : Nat
  creditAt : Nat
  subs : List (Nat × JrpSub)
  notes : List JrpNote
  noteSeq : Nat
  noted : Option Nat
  /-- Notifications lost since the last GAP. -/
  gap : Nat
  counts : JrpCounts
  deriving DecidableEq, Repr

/-- A closed session's window, kept for 60 s from when it closed (R590). -/
structure JrpKept where
  id : Nat
  peer : Nat
  high : Option Nat
  window : List JrpEntry
  queue : List JrpQueued
  closed : Nat
  deriving DecidableEq, Repr

/-- A configured peer (R579): its index, address, mode (0 NONE, 1 HMAC), rights and public key. -/
structure JrpPeer where
  index : Nat
  addr : Nat
  mode : Nat
  rights : Nat
  key : Nat
  deriving DecidableEq, Repr

/-- A take answered and not yet completed (R587): session, transaction ID, the PEER of its records, output (none: any of a
salvo's), source, reference of the completion record, how many of its records are still to come, and the final status so far. -/
structure JrpAwait where
  session : Nat
  txid : Nat
  peer : Nat
  out : Option Nat
  src : Nat
  ref : Nat
  left : Nat
  status : Option JrpFinal
  /-- The takes of a salvo, as output index and source handle. -/
  takes : List (Nat × Nat)
  deriving DecidableEq, Repr

/-- A druse take forwarded to a member (R593): session and transaction ID, member, output, source, instant, whether it was
forwarded again after HANDLE_STALE, and when it was last sent. -/
structure JrpForward where
  session : Nat
  txid : Nat
  sys : Nat
  out : Nat
  src : Nat
  instant : Nat
  again : Bool
  sent : Nat
  deriving DecidableEq, Repr

/-- A result a standby caches from a mirror record (R458, R590). -/
structure JrpShadow where
  session : Nat
  peer : Nat
  entry : JrpEntry
  deriving DecidableEq, Repr

/-- The part of a druse's salvo on one member chip (R113): its system number, its takes as output and source
handles, and its answer to ARM. -/
structure SalvoPart where
  sys : Nat
  takes : List (Nat × Nat)
  answer : Option Nat
  deriving DecidableEq, Repr

/-- A salvo addressed to a druse, which its seed runs as a distributed salvo (R113, R143): global ID; session and transaction
ID of the SALVO_ARM; instant and MINLEAD; 0 built, 1 armed and waiting for answers, 2 committed, 3 aborted; its parts on other
chips; and when ARM was last sent to them. -/
structure DruseSalvo where
  gid : Nat
  session : Nat
  txid : Nat
  instant : Nat
  minlead : Nat
  phase : Nat
  parts : List SalvoPart
  sent : Nat
  deriving DecidableEq, Repr

/-- The firmware's JRP and the settings it takes from PARAM records (R544): addresses of the ETH ports (port × 4 + 0
address, 1 mask, 2 gateway), the UDP port, the peers; and its sessions. -/
structure JrpState where
  ips : List (Nat × Nat)
  udp : Nat
  peers : List JrpPeer
  sessions : List JrpSession
  kept : List JrpKept
  shadow : List JrpShadow
  /-- When the unit last began to carry ACT = 1 (R590). -/
  takeover : Nat
  awaits : List JrpAwait
  forwards : List JrpForward
  /-- Salvos addressed to druses of this chip. -/
  salvos : List DruseSalvo
  /-- Answers that wait for the acknowledgement of a mirror record (R589): session and transaction ID. -/
  held : List (Nat × Nat)
  /-- Commands carried out whose result is still to come, by session (R589). -/
  running : List (Nat × JrpQueued)
  /-- The session served last (R588). -/
  served : Nat
  /-- Commands carried out, by opcode (R596). -/
  done : List (Nat × Nat)
  deriving DecidableEq, Repr

/-- What a step of the loader does (R533, R539): an entry of an image record, or a step of the start. -/
inductive LoadOp where
  | device (role dramreq lockwait : Nat)
  | write (addr data : Nat)
  | modify (addr mask value : Nat)
  | poll (addr mask value timeout : Nat)
  | delay (ns : Nat)
  | route (pairs : List (Nat × Nat))
  | create (args : List Nat)
  | append (entries : List (List Nat))
  | lut (ordinal lutsel first : Nat) (values : List Nat)
  | blob (addr : Nat) (bytes : List Byte)
  | param (key : Nat) (value : List Byte)
  | enable (page : Nat)
  | unit (word : Nat)
  | nop
  | recordEnd
  | endRecord
  | step (k : Nat)
  | bad
  deriving DecidableEq, Repr

/-- What the loader waits for: nothing, the PLLs of step 4, DRAM training, a creation, an instant, a POLL with its deadline,
lodestone lock. -/
inductive LoadWait where
  | run
  | plls
  | dram
  | creation
  | until_ (t : Nat)
  | poll (t : Nat)
  | lock
  deriving DecidableEq, Repr

/-- The configuration loader (R533–R549). -/
structure LoadState where
  on : Bool
  wait : LoadWait
  /-- What is left of the image, by record number. -/
  todo : List (Nat × LoadOp)
  slot : Nat
  /-- The other slot was rejected in this start, and the second read of this one differs (R537). -/
  readErr : Bool
  /-- When step 4 began to wait for PLLs, or step 6 ended (R533). -/
  since : Nat
  pages : List Nat
  /-- The handle of each ordinal; none: skipped (R541, R549). -/
  ordinals : List (Option Nat)
  routes : List (Nat × Nat)
  /-- Engines whose tables or sets were loaded, for step 7: converter n, or 32 + g for mica engine g. -/
  loaded : List Nat
  /-- The DRAM did not train (R549). -/
  noDram : Bool
  /-- A write of the loader was ignored under R44 or refused under R354 (R49). -/
  ignored : Bool
  /-- The role of the DEVICE record (R24). -/
  role : Nat
  deriving DecidableEq, Repr

/-- The fuses (R559); the unique device secret never leaves them. -/
structure Fuses where
  lcf0 : Bool
  lcf1 : Bool
  idgen : Bool
  epoch : Nat
  deriving DecidableEq, Repr

/-- The presence logic (R552, R553, R558): until when the window is open, since when PRESENCE_N is debounced as deasserted or as
asserted, and
whether the present press began as an edge. -/
structure KeyState where
  window : Option Nat
  released : Option Nat
  pressed : Option Nat
  /-- The operational keys JRP and TWIN, derived at start-up (R561). -/
  ops : Option (Nat × Nat)
  /-- The instruction in force at the test port (R614). -/
  tap : TapInstr
  deriving DecidableEq, Repr

/-- The update engine and the running firmware beside UPD's registers: which slots are targets of the staging, what was
verified, the bundle that runs and its slot, the boot header in force (0 A, 1 B, 2 none), and whether the chip waits for
RST_N with nothing to boot (R567). -/
structure UpdState where
  fw : Bool
  cfg : Bool
  fwSlot : Nat
  cfgSlot : Nat
  staged : StageRead
  running : Option Bundle
  hdr : Nat
  trialEnd : Option Nat
  dead : Bool
  dropped : Bool
  /-- The cause of a restart that an accepted COMMIT leaves to be performed (R569). -/
  due : Option Nat
  deriving DecidableEq, Repr

/-- Adaptive voltage (R603): the target of VDD_CORE in mV, when the last request was sent, whether its answer is awaited, and
whether requests have ended. -/
structure AvsState where
  target : Nat
  last : Option Nat
  waiting : Bool
  stopped : Bool
  deriving DecidableEq, Repr

/-- A line that an S-mode output sends, with what is built afresh for it (R193): its number, the XYZ words of its EAV and SAV, and its
CRC words. -/
structure SentLine where
  number : Nat
  eav : Nat
  sav : Nat
  crc : Nat
  deriving DecidableEq, Repr

/-- An audio group that an S-mode output embeds in a frame (R205, R206): the output voices whose samples its data packets carry in
every sample period, and the rate, the synchrony (ASX) and the delay in samples that its control packet tells. -/
structure SentGroup where
  group : Nat
  voices : List Nat
  rate : Nat
  asx : Bool
  delay : Nat
  deriving DecidableEq, Repr

/-- A link of an S-mode output (R193, R195, R205): its lane, its payload ID and the lines it stands on, the audio groups embedded, and
its lines. -/
structure SentLink where
  lane : Nat
  pid : SdiPid
  pidOn : List Nat
  groups : List SentGroup
  lines : List SentLine
  deriving DecidableEq, Repr

/-- A frame as an output sends it: the egress entry; what the lane carries (0 idle, 1 content, 2 the held frame, 3 black); the frame
with the packets that travel with it; by how many thirds of a ns its picture is displaced (R70); the packets inserted from the
side store, on the lines they stand on (R200); the links of an S-mode output; the hop tag of an F-lane output (R155); and, on a unit
of a twin, the number of its first cell (R456). -/
structure SentFrame where
  entry : Nat
  code : Nat
  frame : Frame
  disp : Int
  inserted : List AncPkt
  links : List SentLink
  hop : Option Nat
  cell : Option Nat
  path : List Nat
  deriving DecidableEq, Repr

/-- What the chip sends out of its pins and ports, and what its firmware hands to its host side. -/
inductive Output where
  /-- A frame sent by an output (R207). -/
  | frame (x : SentFrame)
  /-- The second stream of a level B-DS half of which one stream is bound (R185): lane, stream, the idle frame it carries with all its
  timing, TRS, CRC and payload ID (R128), and where the data of the half go (R349). -/
  | idleStream (lane stream : Nat) (f : Frame) (link : SentLink) (path : Nat)
  /-- The seed claims a remote druse for a druse of its own (R111), by a JRP exchange under one transaction ID: the member's
  system number, its type (2 a druse, 3 the chip's own) and handle, and the handle of the parent. -/
  | claim (sys type ref parent : Nat)
  /-- The firmware sends an IGMP message for a group (R219): 0 an IGMPv3 report in INCLUDE mode with the source, 1 one in
  EXCLUDE mode with none, 2 an IGMPv3 leave, 3 an IGMPv2 report, 4 an IGMPv2 leave. -/
  | igmp (port kind group src : Nat)
  /-- A TDM port drives a frame on DOUT (R263): the slots it drives, none for a slot in high impedance. -/
  | tdm (port : Nat) (slots : List (Option Nat))
  /-- The panel receives a frame, as components of the link's depth (R325). -/
  | panel (pixels : List Rgb)
  /-- The panel receives the entry data of self-refresh (R328). -/
  | psrEntry
  /-- A request leaves on the AUX channel (R329): operation, address, and the bytes written or how many are read. -/
  | aux (op addr len : Nat) (bytes : List Byte)
  /-- What a lane's pins carry in a far-end loopback: a line or a cell that its RX half received (R349). -/
  | loopLine (lane : Nat) (l : SdiLine)
  | loopCell (lane : Nat) (c : FabricCell)
  | loopService (lane : Nat) (c : ServiceCell)
  /-- A lane starts with a test pattern in place of its TX half's data (R350): 0 is PRBS31, 1 is PRBS9. -/
  | pattern (lane pat : Nat)
  /-- A lane sends a service cell (R341). -/
  | service (lane : Nat) (cell : ServiceCell)
  /-- A port sends an Ethernet frame, from destination address to FCS (R368). -/
  | eth (port : Nat) (bytes : List Byte)
  /-- A port that is not UP begins to send remote fault ordered sets, or idle (R361). -/
  | ordered (port : Nat) (fault : Bool)
  /-- A PTP message sent by the firmware (R398). -/
  | ptp (port : Nat) (msg : PtpMsg)
  /-- A record leaves on the twin link (R447), with the first 16 bytes of HMAC-SHA-256 over it under the link key where there is one
  (R449). -/
  | twin (r : TwinMsg) (key : Option Nat)
  /-- The druse bus sends a frame on its enabled pairs (R474): its fields, and its bytes from the header to the payload CRC. -/
  | gbus (pairs : Nat) (f : GbusFrame) (bytes : List Byte)
  /-- The firmware sends a JRP datagram to an address and UDP port, through the port its session came by (R578). -/
  | jrp (port addr udp : Nat) (m : JrpMsg)
  /-- The seed of a druse forwards a take to a member chip over its own JRP session (R593): the member's system number,
  output, source, instant, and the peer's session and transaction ID. -/
  | forward (sys out src instant session txid : Nat)
  /-- The seed sends an operation of a salvo's part to a member chip (R113, R143): the member's system number, the OP of the take
  mailbox (7 OPEN, 8 ADD, 9 ARM, 10 COMMIT, 11 ABORT), the global ID, the takes as output and source handles, the instant
  and MINLEAD. -/
  | part (sys op gid : Nat) (takes : List (Nat × Nat)) (instant minlead : Nat)
  /-- The firmware sends SALVO_ANSWER on the druse bus (R145): global ID and result code. -/
  | salvoAnswer (gid code : Nat)
  /-- The chip sends a request on the AVSBus (R603): the target of VDD_CORE in mV. -/
  | avs (target : Nat)
  /-- An operation on the boot flash: sectors erased from a first one (R564). -/
  | erase (sector count : Nat)

  deriving DecidableEq, Repr

/-- The whole machine. -/
structure State where
  /-- The commands that wait, first in first out. -/
  pending : List Instr
  /-- Time since RST_N release in ns: what the spec's deadlines are measured on. -/
  now : Nat
  /-- The MODEL'S OWN counter, not the spec's: the next free value (see Config). -/
  freeCtr : Nat
  /-- The register file: words by byte address; an unlisted address holds its reset value. -/
  regs : List (Nat × Word)
  /-- The RWD words each block took when its EN was set, and uses (R44, R45). -/
  inUse : List (Nat × Word)
  landing : List Landing
  /-- The lower words of wide values as they were when the most significant word was last written (R59), by address of the
  lower word; an unlisted one is its reset value. -/
  wide : List (Nat × Word)
  /-- Blocks whose EN was set again while they still stopped (R47), by page base, with the RWD words they start with. -/
  restart : List (Nat × List (Nat × Word))
  /-- The last raise of each once-per-second event, by its key (R210 and its like). -/
  lastRaise : List (Nat × Nat)
  /-- What the chip has sent, newest first. -/
  out : List Output
  mgt : MgtState
  flt : FltState
  fab : FabState
  prov : ProvState
  chn : ChnState
  sdi : SdiState
  ipm : IpmState
  aud : AudState
  cnv : CnvState
  mica : MicaState
  scan : ScanState
  lanes : LanesState
  eth : EthState
  time : TimeState
  lode : LodeState
  dram : DramState
  twin : TwinState
  gbus : GbusState
  jrp : JrpState
  load : LoadState
  key : KeyState
  upd : UpdState
  avs : AvsState
  /-- What survives every reset: the boot flash and the fuses. -/
  flash : Flash
  fuses : Fuses
  deriving DecidableEq, Repr

/-- The service port after reset. -/
def SpPort.reset : SpPort :=
  { inflight := none, answer := none, done := false, lost := false, crcErr := false, timeout := false, resp := ⟨0, 0⟩,
    unreported := false, status := [] }

/-- The management complex after reset. -/
def MgtState.reset : MgtState :=
  { unlocks := [], locks := [], stalled := [], readBack := [], wdLast := 0, wdExpired := none, sp := SpPort.reset,
    tripped := [], trig := none, convT := ⟨none, [], 0⟩, convV := ⟨none, [], 64⟩, trigOvrAt := none, sram := [] }

/-- The fault collector after reset. -/
def FltState.reset : FltState :=
  { pend := [], reaction := none, held := [], serviceSince := 0, misA := 0, misB := 0, pinAt := 0, irq := [] }

/-- The slot store and take engine after reset. -/
def FabState.reset : FabState :=
  { ing := [], egr := [], fs := [], compact := none, need := [], outs := [], sched := [], schedUse := [], salvos := [], tcq := [] }

/-- Path integrity after reset. -/
def ProvState.reset : ProvState := { inverted := [], bad := [] }

/-- The channel table after reset. -/
def ChnState.reset : ChnState :=
  { chans := [], nextIndex := 0, freed := [], order := 0, druses := [], claim := none, waiting := none, low := false,
    dupSys := [], twinListed := false }

/-- The SDI engines after reset. -/
def SdiState.reset : SdiState := { rx := [], anc := [] }

/-- The IP media engine after reset. -/
def IpmState.reset : IpmState := { rx := [], tx := [], igmp := [], compat := [] }

/-- The audio matrix after reset. -/
def AudState.reset : AudState := { ins := [], outs := [], block := 0, count := 0, ports := [], asrc := [], granRate := 0 }


/-- The converters after reset. -/
def CnvState.reset : CnvState := { cnv := [] }

/-- The compositor after reset. -/
def MicaState.reset : MicaState := { mica := [], dec := [] }
/-- The scan-out after reset. -/
def ScanState.reset : ScanState :=
  { hpd := false, starting := false, fromPsr := false, trainFailed := false, downAt := 0, psrPanel := false, idle := 0,
    flipped := false, next := 0, toShow := false, aux := none, auxWaits := false, kbps := 0 }


/-- The lanes after reset. -/
def LanesState.reset : LanesState := { lanes := [], tuned := [] }
/-- The Ethernet ports after reset. -/
def EthState.reset : EthState := { ports := [] }

/-- The firmware's network time after reset, with the defaults of R398 and R399. -/
def PtpState.reset : PtpState :=
  { cfg := PtpCfg.default, ports := [], foreign := [], parent := none, gm := none, utcSeen := none, since := 0, first := true,
    locked := false, belowSince := none, lastSync := 0, syncLost := false, alarmed := false, sync := none, exch := none,
    delayReq := none, pathDelay := 0, offset := 0, seqs := [], sent := [], smd := [] }

/-- The TIME block after reset. -/
def TimeState.reset : TimeState :=
  { stepLo := 0, offLo := 0, steps := [], offsets := [], capPend := false, integ := 0, txq := [],
    ptp := PtpState.reset }

/-- The lodestone after reset. -/
def LodeState.reset : LodeState :=
  { l := 0, qual := [], phase := [], buildout := 0, decayAt := 0, decayRem := 0, planeOfs := [], clkOfs := [], seen := [], inside := none, stepAt := 0, avg := [], avgAt := 0,
    hold := (0, 0), holdAt := 0, specRaised := false, lastClass := 248, phase3 := [], steps := [],
    audOfs := 0, startAt := 0, lostAt := [], lRecAt := none, lSent := [] }

/-- The external DRAM after reset. -/
def DramState.reset : DramState :=
  { mem := [], trainedCfg := none, inverted := [], band := [], scrubAt := 0, pages := 0, kbps := 0 }

/-- The twin after reset. -/
def TwinState.reset : TwinState :=
  { nonce := 0, key := none, auth := false, claim := 0, hb := none, macFails := 0, seq := 0, mirror := [], owed := [], ctx := ⟨0, 0, 0⟩, applied := 0,
    changed := [], base := [], sent := none, stage := 0, lastCycle := none, gotFull := false, xchg := false, sigs := [],
    sigFail := [], sigCycle := 0, sigLast := [], downAt := 0, cut := false, mirrorAt := [], cycleIdx := none,
    latched := [], sigSeen := none, polledAt := [] }

/-- The druse bus after reset: muted (R481). -/
def GbusState.reset : GbusState :=
  { mute := true, stepUntil := none, taken := [], latchCyc := none, heard := [], ownOut := false, ownSeen := [], used := [], rxq := [], msgs := [],
    terrAt := 0, sentCyc := none, window := none }

/-- JRP after reset: no session, UDP port 14720 (R576). -/
def JrpState.reset : JrpState :=
  { ips := [], udp := 14720, peers := [], sessions := [], kept := [], shadow := [], takeover := 0, awaits := [], forwards := [], salvos := [],
    held := [], running := [], served := 0, done := [] }

/-- The loader after reset. -/
def LoadState.reset : LoadState :=
  { on := false, wait := .run, todo := [], slot := 3, readErr := false, since := 0, pages := [], ordinals := [],
    routes := [], loaded := [], noDram := false, ignored := false, role := 0 }

/-- Presence after reset: no window (R552). -/
def KeyState.reset : KeyState := { window := none, released := none, pressed := none, ops := none, tap := .bypass }

/-- The update engine after reset. -/
def UpdState.reset : UpdState :=
  { fw := false, cfg := false, fwSlot := 0, cfgSlot := 0, staged := { bundle := none, signer := none }, running := none,
    hdr := 2, trialEnd := none, dead := false, dropped := false, due := none }

/-- Adaptive voltage after reset: the regulator holds 0.75 V (R603). -/
def AvsState.reset : AvsState := { target := 750, last := none, waiting := false, stopped := false }

/-- A boot flash that is erased throughout: what the model takes the flash to hold before anything was written to it. -/
def Flash.erased : Flash :=
  { octal := true, hdrA := .blank, hdrB := .blank, blob := { first := .blank, cert := [], owners := [] }, j0 := .blank, j1 := .blank,
    j2 := .blank, j3 := .blank, journal := [], settings := [], minsv := (0, 0),
    fwA := { head := .blank, bytes := [] }, fwB := { head := .blank, bytes := [] },
    cfgA := { bytes := [], signer := none }, cfgB := { bytes := [], signer := none } }

/-- Fuses all intact, as the chip is made. -/
def Fuses.intact : Fuses := { lcf0 := false, lcf1 := false, idgen := false, epoch := 0 }

/-- The machine right after reset: every register at the reset value of its table, nothing queued, nothing stored. -/
def State.reset : State :=
  { pending := [], now := 0, freeCtr := 0, regs := [], inUse := [], landing := [], wide := [], restart := [], lastRaise := [],
    out := [], mgt := MgtState.reset, flt := FltState.reset
    , fab := FabState.reset
    , prov := ProvState.reset
    , chn := ChnState.reset
    , sdi := SdiState.reset
    , ipm := IpmState.reset
    , aud := AudState.reset
    , cnv := CnvState.reset
    , mica := MicaState.reset
    , scan := ScanState.reset
    , lanes := LanesState.reset
    , eth := EthState.reset
    , time := TimeState.reset
    , lode := LodeState.reset
    , dram := DramState.reset
    , twin := TwinState.reset
    , gbus := GbusState.reset
    , jrp := JrpState.reset
    , load := LoadState.reset
    , key := KeyState.reset
    , upd := UpdState.reset
    , avs := AvsState.reset
    , flash := Flash.erased
    , fuses := Fuses.intact
  }

end Sys2Proof.Machine
end

