-- ==== Sys2Proof/Machine/Ops.lean ====
section
/-! DEFINITION. The named operations on the state: reading and writing register fields, byte memories, free values,
time, and bit and byte helpers. -/

namespace Sys2Proof.Machine

/-! ### Bits and bytes -/

/-- Bits hi to lo of a number. -/
def bits (w hi lo : Nat) : Nat := w / 2 ^ lo % 2 ^ (hi + 1 - lo)

/-- A number with bits hi to lo replaced. -/
def setBits (w hi lo v : Nat) : Nat :=
  w - bits w hi lo * 2 ^ lo + v % 2 ^ (hi + 1 - lo) * 2 ^ lo

/-- One bit of a number. -/
def bit (w i : Nat) : Bool := Nat.testBit w i

/-- A Boolean as the bit of a register. -/
def b2n (b : Bool) : Nat := if b then 1 else 0

/-- A w-bit number read as two's complement. -/
def toSigned (w v : Nat) : Int := if v % 2 ^ w < 2 ^ (w - 1) then (v % 2 ^ w : Int) else (v % 2 ^ w : Int) - 2 ^ w

/-- An integer as a w-bit two's-complement number. -/
def ofSigned (w : Nat) (v : Int) : Nat := (v % (2 ^ w : Int)).toNat

/-- An integer held to the range of w-bit two's complement. -/
def satSigned (w : Nat) (v : Int) : Int := max (-(2 ^ (w - 1) : Int)) (min v (2 ^ (w - 1) - 1))

/-- A quotient whose rounding the spec leaves open: exact where it divides, else the floor or the next integer above,
a free choice for each tag and operands. -/
def divFree (tag : Nat) (num den : Int) : Int :=
  if num % den = 0 then num / den else num / den + (if Config.roundUp tag num den then 1 else 0)

/-- A quotient rounded to the nearest integer, halves upwards. -/
def divRound (num den : Int) : Int := (2 * num + den) / (2 * den)

/-- An integer held between two bounds. -/
def clampInt (lo hi v : Int) : Int := max lo (min hi v)

/-- Sum of numbers. -/
def sumList (l : List Nat) : Nat := l.foldl (· + ·) 0

/-- The number that bytes spell, lowest byte first. -/
def leNat : List Byte → Nat
  | [] => 0
  | b :: t => b.toNat + 256 * leNat t

/-- The number that bytes spell, highest byte first. -/
def beNat (l : List Byte) : Nat := l.foldl (fun a b => a * 256 + b.toNat) 0

/-- n bytes of a number, lowest first. -/
def leBytes : Nat → Nat → List Byte
  | 0, _ => []
  | n + 1, v => BitVec.ofNat 8 v :: leBytes n (v / 256)

/-- n bytes of a number, highest first. -/
def beBytes (n v : Nat) : List Byte := (leBytes n v).reverse

/-- One step of an MSB-first CRC of width w on one bit. -/
def crcBit (w poly crc : Nat) (b : Bool) : Nat :=
  let top := Nat.testBit crc (w - 1)
  let sh := crc * 2 % 2 ^ w
  if top != b then Nat.xor sh poly else sh

/-- An MSB-first CRC of width w over a number of n bits, highest bit first. -/
def crcBits (w poly : Nat) : Nat → Nat → Nat → Nat
  | 0, _, crc => crc
  | n + 1, v, crc => crcBits w poly n v (crcBit w poly crc (Nat.testBit v n))

/-- An MSB-first CRC of width w over bytes. -/
def crcBytes (w poly : Nat) (init : Nat) (l : List Byte) : Nat :=
  l.foldl (fun c b => crcBits w poly 8 b.toNat c) init

/-- A number of n bits with its bits in reverse order. -/
def revBits : Nat → Nat → Nat
  | 0, _ => 0
  | n + 1, v => (if Nat.testBit v 0 then 2 ^ n else 0) + revBits n (v / 2)

/-- The reflected CRC-32 of IEEE 802.3 over bytes. -/
def crc32 (l : List Byte) : Nat :=
  let c := l.foldl (fun c b => crcBits 32 0x04C11DB7 8 (revBits 8 b.toNat) c) 0xFFFFFFFF
  Nat.xor (revBits 32 c) 0xFFFFFFFF

/-! ### The register file -/

namespace State

/-- The word at a register address. -/
def rd (s : State) (a : Nat) : Word := Assoc.findD s.regs a (resetWord a)

/-- Put a word at a register address. -/
def wr (s : State) (a : Nat) (w : Word) : State := { s with regs := Assoc.set s.regs a w (resetWord a) }

/-- The value of a register field. -/
def get (s : State) (r : FRef) : Nat := bits (s.rd r.addr).toNat r.hi r.lo

/-- Set a register field, to its width. -/
def set (r : FRef) (v : Nat) (s : State) : State :=
  s.wr r.addr (BitVec.ofNat 32 (setBits (s.rd r.addr).toNat r.hi r.lo v))

/-- A one-bit field is 1, or a wider one is not zero. -/
def flag (s : State) (r : FRef) : Bool := s.get r != 0

/-- Set a field from a Boolean. -/
def setB (r : FRef) (b : Bool) (s : State) : State := s.set r (b2n b)

/-- Add to a counter that wraps. -/
def bump (r : FRef) (n : Nat) (s : State) : State := s.set r (s.get r + n)

/-- Add to a counter that stops at its largest value. -/
def bumpSat (r : FRef) (n : Nat) (s : State) : State := s.set r (min (s.get r + n) (2 ^ r.width - 1))

/-- Set one bit of a field. -/
def orBit (r : FRef) (i : Nat) (s : State) : State := s.set r (s.get r ||| 2 ^ i)

/-- The value of a field that the block uses: of an RWD field, the one it took when its EN was set (R44). -/
def use (s : State) (r : FRef) : Nat :=
  bits (Assoc.findD s.inUse r.addr (resetWord r.addr)).toNat r.hi r.lo

/-- The lower word of a wide value as its block takes it: the word it held when the most significant word was last written
(R59). -/
def wideWord (a : Nat) (s : State) : Word := Assoc.findD s.wide a (resetWord a)

/-- The field of the lower word of a wide value, as the block takes it. -/
def getLow (s : State) (r : FRef) : Nat := bits (s.wideWord r.addr).toNat r.hi r.lo

/-- An address holds the most significant word of a wide value that is stored as it is written (R59); the lower word stands
before it. TIME's INCR, STEP and OFF are taken by meanings of their own. -/
def wideAt (a : Nat) : Bool :=
  match Blk.ofAddr a with
  | none => false
  | some (b, o) =>
      match b.kind with
      | .mgt => decide (0x100 ≤ o) && decide (o < 0x140) && (o % 32 == 4 || o % 32 == 12)
      | .mica => o == 0x108 || (decide (0x1000 ≤ o) && decide (o < 0x2000) && o % 64 == 0x14)
      | .scan => o == 0x44
      | .eth => o == 0x1C || (decide (0x84 ≤ o) && decide (o < 0xC0) && o % 8 == 4)
      | .aprt => o == 0x18 || o == 0x20
      | .drcc => o == 0x58
      | _ => false

/-- The most significant word of a wide value is written: the value takes effect with the lower word as it stands (R59). -/
def takeWide (lo : Nat) (s : State) : State := { s with wide := Assoc.set s.wide lo (s.rd lo) (resetWord lo) }

/-- The recovered-clock domain of an RX half is stopped (R23): it is out of CDR lock and no PLL of its quad can stand in,
because the quad does not run, or because A retunes while B retunes too (R335). -/
def rxStopped (n : Nat) (s : State) : Bool :=
  let q := n / 4
  !s.flag (Reg.LANE.STAT_CDRLOCK n) &&
    (!s.flag (Reg.QUAD.STAT_RUN q) || (s.flag (Reg.QUAD.PLLA_RETUNE q) && s.flag (Reg.QUAD.PLLB_RETUNE q)))

/-- The registers of a lane, an SDI engine or an Ethernet port that lie in the recovered-clock domain of its RX half (R23). -/
def rxDomain (b : Blk) (o : Nat) : Bool :=
  match b.kind with
  | .lane => decide (0x1C ≤ o ∧ o < 0x4C) || [0x54, 0xF0, 0xF4].contains o
  | .sdi => decide (0x14 ≤ o ∧ o < 0x40 ∧ o ≠ 0x20 ∧ o ≠ 0x24 ∧ o ≠ 0x34) || [0xF0, 0xF4].contains o
  | .eth => decide (0x80 ≤ o ∧ o < 0xC0) || [0xF0, 0xF4].contains o
  | _ => false

/-- The recovered clock of a block with such registers is stopped; a port has that of the first lane of its group. -/
def rxClockOff (b : Blk) (s : State) : Bool :=
  match b.kind with
  | .lane | .sdi => s.rxStopped b.inst
  | .eth => decide (b.inst < 64) && s.rxStopped (s.use (Reg.ETH.CFG_LANE b.inst))
  | _ => false

/-- A register lies in a recovered-clock domain that is stopped: it takes no write until a clock returns (R23, R57). -/
def clockStopped (b : Blk) (o : Nat) (s : State) : Bool := rxDomain b o && s.rxClockOff b

/-- A 64-bit value of two registers (R58). -/
def get64 (s : State) (lo hi : FRef) : Nat := s.get lo + s.get hi * 2 ^ 32

/-- Set a 64-bit value of two registers. -/
def set64 (lo hi : FRef) (v : Nat) (s : State) : State := (s.set lo v).set hi (v / 2 ^ 32)

/-- Apply a change when a condition holds. -/
def when (c : Bool) (f : State → State) (s : State) : State := if c then f s else s

/-- Apply a change for each element of a list, in order. -/
def each {α : Type} (l : List α) (f : α → State → State) (s : State) : State := l.foldl (fun t x => f x t) s

/-- The next free value (a value the spec leaves open), and the state with the model's counter advanced. -/
def fresh (s : State) : Nat × State := (Config.freeNat s.freeCtr, { s with freeCtr := s.freeCtr + 1 })

/-- Set a field to a value the spec leaves open. -/
def setFree (r : FRef) (s : State) : State := (s.fresh.2).set r s.fresh.1

/-- Change the management complex. -/
def updMgt (f : MgtState → MgtState) (s : State) : State := { s with mgt := f s.mgt }

/-- Change the fault collector. -/
def updFlt (f : FltState → FltState) (s : State) : State := { s with flt := f s.flt }

/-- Send something out of the chip. -/
def emit (o : Output) (s : State) : State := { s with out := o :: s.out }

/-- Change the TIME block. -/
def updTime (f : TimeState → TimeState) (s : State) : State := { s with time := f s.time }

/-- Change the firmware's network time. -/
def updPtp (f : PtpState → PtpState) (s : State) : State := s.updTime fun t => { t with ptp := f t.ptp }

/-! ### Time -/

/-- The 96-bit TIME counter: 64 bits of nanoseconds and 32 of fraction (chapter 15). -/
def time96 (s : State) : Nat :=
  s.get Reg.TIME.NOWFRAC + s.get Reg.TIME.NOWLO * 2 ^ 32 + s.get Reg.TIME.NOWHI * 2 ^ 64

/-- Set the TIME counter. -/
def setTime96 (v : Nat) (s : State) : State :=
  ((s.set Reg.TIME.NOWFRAC v).set Reg.TIME.NOWLO (v / 2 ^ 32)).set Reg.TIME.NOWHI (v / 2 ^ 64)

/-- The TIME counter in nanoseconds. -/
def timeNs (s : State) : Nat := s.get64 Reg.TIME.NOWLO Reg.TIME.NOWHI

end State

/-! ### Byte memories -/

namespace Memory

/-- What a byte of memory reads as that nothing has written: 0 (a DESIGN CHOICE; the spec gives the memories no
contents after power-on). -/
def dflt (_ : Nat) : Byte := 0

/-- The canonical form of a byte memory. -/
abbrev wf (m : List Host.Cell) : Bool := Assoc.canon dflt m

/-- One byte. -/
def read (m : List Host.Cell) (a : Nat) : Byte := Assoc.findD m a (dflt a)

/-- Write one byte. -/
def write (m : List Host.Cell) (a : Nat) (b : Byte) : List Host.Cell := Assoc.set m a b (dflt a)

/-- n bytes from an address. -/
def readN (m : List Host.Cell) (a : Nat) : Nat → List Byte
  | 0 => []
  | n + 1 => read m a :: readN m (a + 1) n

/-- Write bytes from an address. -/
def writeN (m : List Host.Cell) (a : Nat) : List Byte → List Host.Cell
  | [] => m
  | b :: t => writeN (write m a b) (a + 1) t

/-- A 32-bit word, lowest byte first. -/
def read32 (m : List Host.Cell) (a : Nat) : Nat := leNat (readN m a 4)

/-- Write a 32-bit word, lowest byte first. -/
def write32 (m : List Host.Cell) (a v : Nat) : List Host.Cell := writeN m a (leBytes 4 v)

end Memory

end Sys2Proof.Machine
end

