-- ==== Sys2Proof/Machine/Flags.lean ====
section
/-! DEFINITION. Event flags: raising an event source (R488, R489), the once-per-second limits, the EVSTAT and EVEN
bits of a block's causes, and the configuration-ignored event of each block (R44). -/

namespace Sys2Proof.Machine

namespace State

/-- Merge a raise into the source's pending record, or list a new record after those pending. -/
def mergePend (src : Nat) (data : Word) (t : Nat) : List PendRec → List PendRec × Bool
  | [] => ([{ src := src, data := data, time := t, merged := 0 }], false)
  | p :: ps =>
      if p.src = src then ({ p with merged := min (p.merged + 1) 65535 } :: ps, true)
      else
        let q := mergePend src data t ps
        (p :: q.1, q.2)

/-- Raise an event source with its data word (R489): a source with a pending record merges, keeping the first raise's
word and time; FLT.CNT counts every raise. A source number beyond the collector's is none. -/
def raiseWord (src : Nat) (data : Word) (s : State) : State :=
  if src < 1536 then
    let q := mergePend src data s.timeNs s.flt.pend
    (({ s with flt := { s.flt with pend := q.1 } }).bump (Reg.FLT.CNT_RAISED src) 1).when q.2
      (bump (Reg.FLT.CNT_MERGES src) 1)
  else s

/-- Raise an event source whose record carries the listed items; their packing is open (R488). -/
def raise (src : Nat) (items : List Nat) (s : State) : State := s.raiseWord src (Config.eventWord src items)

/-- One second has passed since the last raise under a key. -/
def rateOk (key : Nat) (s : State) : Bool :=
  match Assoc.find s.lastRaise key with
  | none => true
  | some t => decide (t + 1000000000 ≤ s.now)

/-- Raise a source no more than once per second under a key. -/
def raiseLimited (key src : Nat) (items : List Nat) (s : State) : State :=
  if s.rateOk key then ({ s with lastRaise := Assoc.put s.lastRaise key s.now }).raise src items else s

/-- An occurrence of cause c of a block page: its EVSTAT bit is set, and its source is raised when its EVEN bit is
set, no more than once per second for the page and cause (R210, R292, R356, R380, R445 and their like). -/
def cause (evstat even : FRef) (src c : Nat) (items : List Nat) (s : State) : State :=
  let t := s.orBit evstat c
  if bit (t.get even) c then t.raiseLimited (evstat.addr * 64 + c) src (items ++ [c]) else t

/-- An occurrence of a block event that has an EVSTAT bit and no EVEN. -/
def event (evstat : FRef) (b src : Nat) (items : List Nat) (s : State) : State :=
  (s.orBit evstat b).raise src items

/-- A block event with an EVSTAT bit and an EVEN bit that lets it raise its source. -/
def eventEn (evstat even : FRef) (b src : Nat) (items : List Nat) (s : State) : State :=
  let t := s.orBit evstat b
  if bit (t.get even) b then t.raise src items else t

/-- Event n of FAB: source 961 + n, bit n of FAB.EVSTAT. -/
def fabEvent (n : Nat) (items : List Nat) (s : State) : State := s.event Reg.FAB.EVSTAT n (961 + n) items

/-- Event n of IPM: source 897 + n, bit n of IPM.EVSTAT. -/
def ipmEvent (n : Nat) (items : List Nat) (s : State) : State := s.event Reg.IPM.EVSTAT n (897 + n) items

/-- Event n of AUD: source 1216 + n, bit n of AUD.EVSTAT. -/
def audEvent (n : Nat) (items : List Nat) (s : State) : State := s.event Reg.AUD.EVSTAT n (1216 + n) items

/-- Event n of TIME: source 129 + n, bit n of TIME.EVSTAT. -/
def timeEvent (n : Nat) (items : List Nat) (s : State) : State := s.event Reg.TIME.EVSTAT_EV n (129 + n) items

/-- Event n of LODE: source 161 + n, bit n of LODE.EVSTAT. -/
def lodeEvent (n : Nat) (items : List Nat) (s : State) : State := s.event Reg.LODE.EVSTAT n (161 + n) items

/-- Event n of TWIN: source 1385 + n, bit n of TWIN.EVSTAT, enabled by TWIN.EVEN. -/
def twinEvent (n : Nat) (items : List Nat) (s : State) : State :=
  s.eventEn Reg.TWIN.EVSTAT Reg.TWIN.EVEN n (1385 + n) items

/-- Event n of GBUS: source 1416 + n, bit n of GBUS.EVSTAT, enabled by GBUS.EVEN. -/
def gbusEvent (n : Nat) (items : List Nat) (s : State) : State :=
  s.eventEn Reg.GBUS.EVSTAT Reg.GBUS.EVEN n (1416 + n) items

/-- Cause c of SDI engine n (R210). -/
def sdiCause (n c : Nat) (s : State) : State :=
  s.cause (Reg.SDI.EVSTAT (sdiPage n)) (Reg.SDI.EVEN (sdiPage n)) (1152 + n / 8) c [n]

/-- Cause c of converter n, whose record carries its handle (R292). -/
def cnvCause (n c : Nat) (s : State) : State :=
  s.cause (Reg.CNV.EVSTAT n) (Reg.CNV.EVEN n) (1280 + n) c [s.get (Reg.CNV.CHAN n)]

/-- Cause c of TDM port n. -/
def aprtCause (n c : Nat) (s : State) : State :=
  s.cause (Reg.APRT.EVSTAT n) (Reg.APRT.EVEN n) (1224 + n) c [n]

/-- Cause c of mica engine m. -/
def micaCause (m c : Nat) (s : State) : State :=
  s.cause (Reg.MICA.EVSTAT m) (Reg.MICA.EVEN m) (1312 + 4 * m) c [m]

/-- Cause c of lane n (R356). -/
def laneCause (n c : Nat) (s : State) : State :=
  s.cause (Reg.LANE.EVSTAT n) (Reg.LANE.EVEN n) (192 + n) c [n]

/-- Cause c of quad q (R356). -/
def quadCause (q c : Nat) (s : State) : State :=
  s.cause (Reg.QUAD.EVSTAT q) (Reg.QUAD.EVEN q) (704 + q) c [q]

/-- The event source of Ethernet port p (R380). -/
def ethSource (p : Nat) : Nat := if p < 64 then 832 + p else 22 + p

/-- Cause c of Ethernet port p (R380). -/
def ethCause (p c : Nat) (s : State) : State :=
  s.cause (Reg.ETH.EVSTAT p) (Reg.ETH.EVEN p) (ethSource p) c [p]

/-- Cause c of DRAM channel n (R445). -/
def drcCause (n c : Nat) (s : State) : State :=
  s.cause (Reg.DRC.EVSTAT n) (Reg.DRC.EVEN n) (1352 + n) c [n]

/-- Cause c of the DRC common page, raised on source 1352 as channel 32 (R445). -/
def drccCause (c : Nat) (s : State) : State :=
  s.cause Reg.DRCC.EVSTAT Reg.DRCC.EVEN 1352 c [32]

/-- The configuration-ignored event of a block (R44; the event table of each chapter), with the address. -/
def cfgIgnoredEvent (b : Blk) (addr : Nat) (s : State) : State :=
  match b.kind with
  | .cfg => s.raise 96 [addr]
  | .flt => s.raise 0 [addr]
  | .time => s.raise 128 [addr]
  | .lode => s.raise 160 [addr]
  | .fab => s.raise 960 [addr]
  | .chn => s.raise 88 [addr]
  | .prov => s.raise 16 [addr]
  | .sdi => s.sdiCause b.inst 0
  | .eth => s.ethCause b.inst 0
  | .ipm => s.raise 896 [addr]
  | .aud => s.audEvent 0 [addr]
  | .aprt => s.aprtCause b.inst 0
  | .cnv => s.cnvCause b.inst 0
  | .mica => s.micaCause b.inst 0
  | .dec => s
  | .scan => s.raise 1344 [addr]
  | .lane => s.laneCause b.inst 0
  | .quad => s.quadCause b.inst 0
  | .gbus => s.gbusEvent 0 [addr]
  | .twin => s.raise 1384 [addr]
  | .drc => s.drcCause b.inst 0
  | .drcc => s.drccCause 0
  | .mgt => s.raise 32 [addr]
  | .bmx => s.raise 32 [addr]
  | .sns => s.raise 32 [addr]
  | .key => s.raise 108 [addr]
  | .upd => s.raise 108 [addr]

end State

/-- `<BLOCK>.CTRL.EN`. -/
def Blk.en (b : Blk) : FRef := ⟨b.base, 0, 0⟩
/-- `<BLOCK>.STAT.RUN`. -/
def Blk.run (b : Blk) : FRef := ⟨b.base + 4, 0, 0⟩
/-- `<BLOCK>.STAT.CFG_IGN`. -/
def Blk.cfgIgn (b : Blk) : FRef := ⟨b.base + 4, 1, 1⟩
/-- `<BLOCK>.STAT.WPEND`. -/
def Blk.wpend (b : Blk) : FRef := ⟨b.base + 4, 2, 2⟩

namespace State

/-- The identity class of a master in MGT.IGNADDR.SRC (R510). -/
def ignSrc (m : Nat) : Nat := if m = 6 then 1 else if m = 7 then 2 else 0

/-- A refused write is recorded: its address and requester, and the count, which stops at 0xFFFF (R44, R52, R354). -/
def recordIgnored (m addr : Nat) (s : State) : State :=
  ((s.set Reg.MGT.IGNADDR_ADDR (addr / 4)).set Reg.MGT.IGNADDR_SRC (ignSrc m)).bumpSat Reg.MGT.IGNCNT 1

/-- The loader learns that its write was ignored (R49). -/
def markIgnored (m : Nat) (s : State) : State := if m = 6 then { s with load := { s.load with ignored := true } } else s

/-- A write ignored under the enable rule (R44). -/
def cfgIgnored (m : Nat) (b : Blk) (addr : Nat) (s : State) : State :=
  (((s.set b.cfgIgn 1).recordIgnored m addr).markIgnored m).cfgIgnoredEvent b addr

/-- A write of an RWL field refused while locked (R52). -/
def lockIgnored (m addr : Nat) (s : State) : State :=
  ((s.set Reg.MGT.STAT_LOCK_IGN 1).recordIgnored m addr).raise 33 [addr, ignSrc m]

end State

end Sys2Proof.Machine
end

