-- ==== Sys2Proof/Machine/Notify.lean ====
section
/-! DEFINITION. Chapter 24, what other chapters need of JRP: the notifications of a session's subscriptions (R594, R595),
and the closing of sessions (R585, R590). -/

namespace Sys2Proof.Machine

namespace State

/-- Change the firmware's JRP. -/
def updJrp (f : JrpState → JrpState) (s : State) : State := { s with jrp := f s.jrp }

/-- A live session. -/
def jrpSession (id : Nat) (s : State) : Option JrpSession := s.jrp.sessions.find? fun x => x.id == id

/-- Change a live session. -/
def updSession (id : Nat) (f : JrpSession → JrpSession) (s : State) : State :=
  s.updJrp fun j => { j with sessions := j.sessions.map fun x => if x.id = id then f x else x }

/-- A notification enters a session's queue, or is lost when it holds 1,024 (R595). -/
def pushNote (n : JrpNote) (x : JrpSession) : JrpSession :=
  if x.notes.length < 1024 then { x with notes := x.notes ++ [n] }
  else { x with gap := x.gap + 1, counts := { x.counts with lost := x.counts.lost + 1 } }

/-- Notify every subscription that matches: one notification each. -/
def notify (hit : JrpSub → Bool) (n : JrpNote) (s : State) : State :=
  s.updJrp fun j => { j with sessions := j.sessions.map fun x =>
    (x.subs.filter fun p => hit p.2).foldl (fun y _ => pushNote n y) x }

/-- A record that FLT entered with reaction LOG or stronger (R594). -/
def notifyEvent (seq src sev data time merged : Nat) (s : State) : State :=
  s.notify (fun
    | .events a b lo => decide (a ≤ src) && decide (src ≤ b) && decide (lo ≤ sev)
    | _ => false) (.event seq src sev data time merged)

/-- A take executed at an output: its channel index, its new source and its switch instant. -/
def notifyRoute (i src tsw : Nat) (s : State) : State :=
  s.notify (fun
    | .routes a b => decide (a ≤ i) && decide (i ≤ b)
    | _ => false) (.route (s.get (Reg.CHN.ENT_HANDLE i)) src tsw)

/-- The TALLY messages of a druse-bus payload (chapter 19): type, length, body. -/
def notifyTallies (sys : Nat) : Nat → List Byte → State → State
  | fuel + 1, t :: n :: l, s =>
      let s := s.when (t.toNat == 1) (notify (fun
        | .tallies => true
        | _ => false) (.tally sys (l.take n.toNat)))
      notifyTallies sys fuel (l.drop n.toNat) s
  | _, _, s => s

/-- A session closes; its window, its highest ID and its queue are kept for a resumption (R590). -/
def closeSession (id : Nat) (s : State) : State :=
  match s.jrpSession id with
  | none => s
  | some x =>
      let k : JrpKept :=
        { id := x.id, peer := x.peer, high := x.high, window := x.window, queue := x.queue, closed := s.now }
      s.updJrp fun j => { j with sessions := j.sessions.filter (fun y => y.id != id), kept := j.kept ++ [k] }

/-- Every session closes. -/
def closeSessions (s : State) : State := s.each (s.jrp.sessions.map fun x => x.id) closeSession

end State

end Sys2Proof.Machine
end

