-- ==== Sys2Proof/Machine/Time.lean ====
section
/-! DEFINITION. Chapter 15: the TIME counter, its native and servo corrections, captures, and the time-stamps of the
E-ports. -/

namespace Sys2Proof.Machine

namespace State

/-- The INCR in use, in units of 2^-32 ns (R383). -/
def incrInUse (s : State) : Nat := s.get64 Reg.TIME.INCRUSELO Reg.TIME.INCRUSEHI

/-- Put an INCR in use; the fraction of the counter is not touched (R384). -/
def setIncrInUse (v : Nat) (s : State) : State := s.set64 Reg.TIME.INCRUSELO Reg.TIME.INCRUSEHI v

/-- The range of R384. -/
def incrOk (v : Nat) : Bool := decide (0x1FFBE76C9 ≤ v) && decide (v ≤ 0x200418937)

/-- The chip is in service: start-up step 9 has been reached (R533, R534). -/
def inService (s : State) : Bool := s.get Reg.CFG.STAT_STEP == 9

/-- The corrections of the counter are enabled (R385, R390). -/
def timeEn (s : State) : Bool := s.get Reg.TIME.CTRL_EN == 1

/-- The counter corrected by the servo (R391). -/
def servoMode (s : State) : Bool := s.get Reg.TIME.CTRL_MODE == 1

/-- An ignored INCR (R384, R391, R393). -/
def incrIgnored (items : List Nat) (s : State) : State := (s.set Reg.TIME.STAT_INCR_IGN 1).timeEvent 2 items

/-- STAT.STEPPEND reads 1 from the write of STEPHI, in flight too, until its step is applied (R387). -/
def showStepPend (s : State) : State :=
  s.setB Reg.TIME.STAT_STEPPEND (!s.time.steps.isEmpty || s.landing.any fun l => l.addr == 0x12000034)

/-- A write of INCRHI takes effect (R384, R391); whether it is discarded under R390 was judged when it was accepted. -/
def incrHiLand (data : Word) (s : State) : State :=
  let v := s.get Reg.TIME.INCRLO + data.toNat % 16 * 2 ^ 32
  if s.servoMode || !incrOk v then s.incrIgnored [v]
  else (s.set Reg.TIME.INCRHI data.toNat).setIncrInUse v

/-- A write of STEPHI takes effect: one step is queued (R387). -/
def stepHiLand (data : Word) (s : State) : State :=
  (s.updTime fun t =>
    { t with steps := t.steps ++ [toSigned 64 (t.stepLo.toNat + data.toNat * 2 ^ 32)] }).showStepPend

/-- A write of SERVO.OFFHI takes effect: in SERVO mode one offset reaches the servo (R392, R393). -/
def offHiLand (data : Word) (s : State) : State :=
  if s.servoMode then
    s.updTime fun t => { t with offsets := t.offsets ++ [toSigned 64 (t.offLo.toNat + data.toNat * 2 ^ 32)] }
  else s.incrIgnored []

/-- The registers of TIME whose writes are discarded while EN = 0: INCRHI, STEPHI and SERVO.OFFHI (R390). -/
def timeGated (o : Nat) : Bool := o == 0x24 || o == 0x34 || o == 0x104

/-- The firmware writes INCRHI or STEPHI of the counter, and the write takes effect (R390, R399). -/
def timeFirmware (o : Nat) (data : Word) (s : State) : State :=
  if !s.timeEn then s.cfgIgnored 0 ⟨.time, 0⟩ (0x12000000 + o)
  else if o = 0x24 then s.incrHiLand data else s.stepHiLand data

/-- A change of TIME.CTRL.MODE: to SERVO it clears the integral; the INCR in use stays either way (R393). -/
def timeModeChanged (old : Nat) (s : State) : State :=
  if old = 0 ∧ s.servoMode then (s.updTime fun t => { t with integ := 0 }).set Reg.TIME.SERVO_INTEG 0 else s

/-- One ppb in the servo's fixed point: KP and KI are 8.24 (R392). -/
def ppbOne : Int := 16777216

/-- The servo takes one offset (R392). -/
def servoTake (off : Int) (s : State) : State :=
  let s := s.bump Reg.TIME.SERVO_OFFSETS 1
  let thr : Nat := s.get Reg.TIME.SERVO_STEPTHR
  if thr ≠ 0 ∧ off.natAbs > thr then
    (((((s.updTime fun t => { t with steps := t.steps ++ [-off], integ := 0 }).showStepPend).set
      Reg.TIME.SERVO_INTEG 0).bump Reg.TIME.SERVO_STEPS 1)).timeEvent 3 [ofSigned 32 off]
  else
    let lim : Int := 500000 * ppbOne
    let integ := clampInt (-lim) lim (s.time.integ + (s.get Reg.TIME.SERVO_KI : Int) * off)
    let raw := (s.get Reg.TIME.SERVO_KP : Int) * off + integ
    let adj := clampInt (-lim) lim raw
    let incr := divRound (8589934592 * (1000000000 * ppbOne - adj)) (1000000000 * ppbOne)
    ((((s.updTime fun t => { t with integ := integ }).set Reg.TIME.SERVO_ADJ
        (ofSigned 32 (divFree 392 adj ppbOne))).set Reg.TIME.SERVO_INTEG
        (ofSigned 32 (divFree 392 integ ppbOne))).when (decide (adj ≠ raw)) (timeEvent 4 [])).setIncrInUse
      incr.toNat

/-- The step due at this tick, if any, is taken off the queue. -/
def takeStep (s : State) : Option Int × State :=
  match s.time.steps with
  | [] => (none, s)
  | d :: ds => (some d, (s.updTime fun t => { t with steps := ds }).showStepPend)

/-- The counter at one tick: INCR is added, and a step to the nanoseconds only (R383, R387). -/
def countTick (step : Option Int) (s : State) : State :=
  let v : Int := (s.time96 : Int) + (s.incrInUse : Int) + (match step with | some d => d * 2 ^ 32 | none => 0)
  s.setTime96 (ofSigned 96 v)

/-- What a step leaves behind (R388). -/
def stepDone (s : State) : State :=
  let ns := s.timeNs
  (((s.bump Reg.TIME.STEPCNT 1).set64 Reg.TIME.LASTSTEPLO Reg.TIME.LASTSTEPHI ns).timeEvent 0 [ns % 2 ^ 32]).when
    s.inService (timeEvent 1 [ns % 2 ^ 32])

/-- A capture waiting latches the counter of this tick (R386). -/
def captureTick (s : State) : State :=
  if s.time.capPend then
    ((((s.updTime fun t => { t with capPend := false }).set Reg.TIME.CAPFRAC (s.get Reg.TIME.NOWFRAC)).set
      Reg.TIME.CAPLO (s.get Reg.TIME.NOWLO)).set Reg.TIME.CAPHI (s.get Reg.TIME.NOWHI)).bump Reg.TIME.CAPCTL_CAPSEQ 1
  else s

/-- The servo takes the offsets that have landed (R392). -/
def servoTick (s : State) : State :=
  (s.updTime fun t => { t with offsets := [] }).each s.time.offsets servoTake

/-! ### Time-stamps of the E-ports -/

/-- A stamp in 1/65,536 ns rounded to the nearest nanosecond (R394). -/
def stampRound (v : Int) : Nat := ofSigned 64 (divRound v 65536)

/-- The receive stamp of a frame on E-port p (R394). -/
def rxStamp (p : Nat) (s : State) : Nat :=
  stampRound ((s.time96 / 65536 : Nat) - (s.get (Reg.TIME.PORT_INLAT p) : Int) -
    toSigned 32 (s.get (Reg.TIME.PORT_ASYM p)))

/-- The transmit stamp of a frame on E-port p (R394). -/
def txStamp (p : Nat) (s : State) : Nat :=
  stampRound ((s.time96 / 65536 : Nat) + (s.get (Reg.TIME.PORT_EGLAT p) : Int) -
    toSigned 32 (s.get (Reg.TIME.PORT_ASYM p)))

/-- The head of a port's transmit time-stamp queue as the registers show it (R397). -/
def showTxq (p : Nat) (s : State) : State :=
  let q := Assoc.findD s.time.txq p []
  let s := (s.set (Reg.TIME.TXQ_COUNT p) q.length).setB (Reg.TIME.TXQ_VALID p) (!q.isEmpty)
  match q with
  | [] => s
  | (i, t) :: _ => ((s.set (Reg.TIME.TXQ_ID p) i).set (Reg.TIME.TXQ_TSLO p) t).set (Reg.TIME.TXQ_TSHI p) (t / 2 ^ 32)

/-- A transmit stamp reaches its queue; with 8 entries there the new stamp is lost (R396). -/
def txqPush (p id stamp : Nat) (s : State) : State :=
  let q := Assoc.findD s.time.txq p []
  if q.length < 8 then
    (s.updTime fun t => { t with txq := Assoc.put t.txq p (q ++ [(id, stamp)]) }).showTxq p
  else
    (((s.bump (Reg.TIME.TXQ_LOST p) 1).set (Reg.TIME.TXQ_OVF p) 1).set Reg.TIME.EVSTAT_TXTS_OVF 1).raise 139 [p]

/-- A POP takes effect: the head is removed and SEQ counts it; ignored when empty (R397). -/
def txqPopLand (p : Nat) (s : State) : State :=
  match Assoc.findD s.time.txq p [] with
  | [] => s
  | _ :: q => ((s.updTime fun t => { t with txq := Assoc.put t.txq p q }).bump (Reg.TIME.TXQ_SEQ p) 1).showTxq p

end State

end Sys2Proof.Machine
end

