-- ==== Sys2Proof/Machine/Lode.lean ====
section
/-! DEFINITION. Chapter 16: the lodestone. References and their selection, the loop's stages, realignment, holdover,
loop steps, and the timing planes. -/

namespace Sys2Proof.Machine

/-- Frame periods by RATE code, in thirds of a nanosecond: 23.98, 24, 25, 29.97, 30, 50, 59.94 and 60 Hz (R416); the
planes' codes 8–15 act as 0. -/
def framePeriod3 (rate : Nat) : Nat :=
  match rate with
  | 1 => 125000000
  | 2 => 120000000
  | 3 => 100100000
  | 4 => 100000000
  | 5 => 60000000
  | 6 => 50050000
  | 7 => 50000000
  | _ => 125125000

/-- An integer reduced into −m ÷ 2 (included) to +m ÷ 2 (excluded). -/
def wrapHalf (m : Nat) (v : Int) : Int := (v + (m / 2 : Nat)) % (m : Int) - (m / 2 : Nat)

namespace State

/-- Change the lodestone. -/
def updLode (f : LodeState → LodeState) (s : State) : State := { s with lode := f s.lode }

/-- The lodestone is enabled. -/
def lodeEn (s : State) : Bool := s.get Reg.LODE.CTRL_EN == 1

/-- The loop state of R409. -/
def loopState (s : State) : Nat := s.get Reg.LODE.STAT_STATE

/-- The reference in use. -/
def loopRef (s : State) : Nat := s.get Reg.LODE.STAT_REF

/-- A reference is a phase reference (R405). -/
def isPhaseRef (ref : Nat) (s : State) : Bool :=
  match ref with
  | 1 => true
  | 6 => true
  | 8 => true
  | 2 => s.get (Reg.LODE.REFIN_TYPE 0) == 0
  | 3 => s.get (Reg.LODE.REFIN_TYPE 1) == 0
  | 4 => s.get (Reg.LODE.REFIN_TYPE 2) == 0
  | 5 => s.get (Reg.LODE.REFIN_TYPE 3) == 0
  | _ => false

/-- L in nanoseconds. -/
def lNs (s : State) : Nat := s.lode.l / 1000 % 2 ^ 64

/-- The phase compared of a reference, in ps: of PTP it is TIME − L (R403). -/
def phaseOf (ref : Nat) (s : State) : Int :=
  if ref = 1 then ((s.time96 * 1000 / 2 ^ 32 : Nat) : Int) - s.lode.l
  else Assoc.findD s.lode.phase ref 0

/-- The part of the loop offset already made, in ps (R414). -/
def loopMade (s : State) : Int := toSigned 32 (s.get Reg.LODE.LOOPOFS) - toSigned 32 (s.get Reg.LODE.LOOPREM)

/-- The period of a frequency reference in ps, modulo which its phase is compared (R405, R409); 0 for a phase reference. -/
def refPeriod (ref : Nat) (s : State) : Nat :=
  if s.isPhaseRef ref then 0
  else if 2 ≤ ref ∧ ref ≤ 5 then 100000
  else if ref = 7 then Config.recoveredPeriod (s.get (Reg.SDI.RXSTAT_RATE (s.get Reg.LODE.LANESEL)))
  else 0

/-- The phase error in ps: the phase compared less the build-out and less what the loop offset adds to it. A loop step
moves L, so it adds its negative to the phase compared; it never appears in the error (R409, R414). That of a frequency reference
is taken modulo its period. -/
def phaseError (s : State) : Int :=
  let e := s.phaseOf s.loopRef - s.lode.buildout + s.loopMade
  let p := s.refPeriod s.loopRef
  if p = 0 then e else wrapHalf p e

/-- The registers that show L, the build-out and the phase error. -/
def showLoop (s : State) : State :=
  let tm := divFree 403 ((s.time96 * 1000 / 2 ^ 32 : Nat) - (s.lode.l : Int)) 1000
  ((s.set Reg.LODE.TMINUSL (ofSigned 32 (satSigned 32 tm))).set Reg.LODE.BUILDOUT
      (ofSigned 32 (divFree 408 s.lode.buildout 1000))).set Reg.LODE.PHERR
    (if s.loopRef = 0 then 0 else ofSigned 32 (divFree 409 s.phaseError 1000))

/-- L moves: every phase reference is compared against the new L. -/
def moveL (d : Int) (s : State) : State :=
  s.updLode fun x => { x with l := (((x.l : Int) + d) % (2 ^ 64 * 1000)).toNat, phase := x.phase.map fun p => (p.1, p.2 - d) }

/-- The offsets of a set of planes or pins against L, each less by d. -/
def heldBeside (n : Nat) (d : Int) (l : List (Nat × Int)) : List (Nat × Int) :=
  (List.range n).map fun p => (p, Assoc.findD l p 0 - d)

/-- A realignment: L is set so that the phase error is zero, with no build-out left; each plane follows at its next frame instant, each
CLKOUT pin at its next edge, and the audio word clock at its next block boundary (R404). -/
def realign (s : State) : State :=
  let s := s.updLode fun x => { x with buildout := 0 }
  let d := s.phaseError
  (((s.moveL d).updLode fun x =>
    { x with audOfs := x.audOfs - d, planeOfs := heldBeside 16 d x.planeOfs,
             clkOfs := heldBeside 4 d x.clkOfs }).showLoop).lodeEvent 5 [s.loopRef]

/-- Enter a loop state: STAGE, or HOLDOVER; LOCK_LOST on a fall to ACQUIRE; OUTSPEC clears on leaving HOLDOVER; a
realignment on every entry into ACQUIRE from FREERUN (R404, R409, R412). -/
def enterLoop (st : Nat) (s : State) : State :=
  let old := s.loopState
  if old = st then s
  else
    let s := (s.set Reg.LODE.STAT_STATE st).updLode fun x => { x with inside := none, decayAt := s.now }
    let s := if old = 4 then (s.set Reg.LODE.STAT_OUTSPEC 0).set Reg.LODE.HOLDSECS 0 else s
    let s := if st = 4 then s.lodeEvent 2 [s.loopRef] else s.lodeEvent 3 [s.loopRef, st]
    let s := if st = 1 ∧ (old = 2 ∨ old = 3) then s.lodeEvent 4 [s.loopRef] else s
    if st = 1 ∧ old = 0 then s.realign else s

/-- A table temperature and offset: 1/16 °C and 0.1 ppb, signed (R412). -/
def tempPoint (i : Nat) (s : State) : Int × Int :=
  (toSigned 16 (s.get (Reg.LODE.TEMPTAB_TEMP i)), toSigned 16 (s.get (Reg.LODE.TEMPTAB_OFFS i)))

/-- The 16 points of TEMPTAB. -/
def tempTable (s : State) : List (Int × Int) := (List.range 16).map fun i => s.tempPoint i

/-- The table's temperatures ascend strictly. -/
def ascending : List (Int × Int) → Bool
  | a :: b :: t => decide (a.1 < b.1) && ascending (b :: t)
  | _ => true

/-- T(θ) by linear interpolation, as a fraction in 0.1 ppb; the end values beyond the end points (R412). -/
def tempInterp (th : Int) : List (Int × Int) → Int × Int
  | [] => (0, 1)
  | [a] => (a.2, 1)
  | a :: b :: t =>
      if th ≤ a.1 then (a.2, 1)
      else if th ≤ b.1 then (a.2 * (b.1 - a.1) + (b.2 - a.2) * (th - a.1), b.1 - a.1)
      else tempInterp th (b :: t)

/-- The sensor that gives OSC_IN's temperature (R411); codes 40–63 act as 0. -/
def tempNow (s : State) : Int :=
  let k := s.get Reg.LODE.HOLDCFG_TSENS
  toSigned 16 (s.get (Reg.SNS.TEMP (if k < 40 then k else 0)))

/-- The DCO offset in HOLDOVER, in 0.001 ppb: avg − (T(now) − T(avg)) − ageing × days (R412). -/
def holdOffset (s : State) : Int :=
  let tab := s.tempTable
  let ok := ascending tab
  let a := if ok then tempInterp s.tempNow tab else (0, 1)
  let b := if ok then tempInterp s.lode.hold.2 tab else (0, 1)
  let age := toSigned 32 (s.get Reg.LODE.AGEING) * (s.get Reg.LODE.HOLDSECS : Int)
  let den := a.2 * b.2 * 86400
  divFree 412 ((s.lode.hold.1 * a.2 * b.2 - (a.1 * b.2 - b.1 * a.2) * 100) * 86400 - age * a.2 * b.2) den

/-- One computation of the DCO offset in HOLDOVER (R412), within ±500 ppm (R402). -/
def holdCompute (s : State) : State :=
  (s.setB Reg.LODE.STAT_TTBAD (!ascending s.tempTable)).set Reg.LODE.FREQ (ofSigned 32 (clampInt (-500000000) 500000000 s.holdOffset))

/-- No reference is left: HOLDOVER with an average of at least 10 s, else FREERUN at zero offset (R411). -/
def loseAll (s : State) : State :=
  let s := s.set Reg.LODE.STAT_REF 0
  if s.loopState = 0 ∨ s.loopState = 4 then s
  else if 10 ≤ s.lode.avg.length then
    let n : Int := s.lode.avg.length
    let f := divFree 411 ((s.lode.avg.map (·.1)).foldl (· + ·) 0) n
    let t := divFree 411 ((s.lode.avg.map (·.2)).foldl (· + ·) 0) n
    ((s.updLode fun x => { x with hold := (f, t), holdAt := s.now, specRaised := false }).enterLoop 4).holdCompute
  else (s.enterLoop 0).set Reg.LODE.FREQ 0

/-- A reference is qualified. -/
def refQualified (ref : Nat) (s : State) : Bool := (Assoc.find s.lode.qual ref).isSome

/-- The references of PRIO, entry 0 first, to the first code 0 (R407). -/
def prioList (s : State) : List Nat :=
  ((List.range 8).map fun i => bits (s.get Reg.LODE.PRIO) (4 * i + 3) (4 * i)).takeWhile (· ≠ 0)

/-- The entries of a list after a value. -/
def afterIn (x : Nat) : List Nat → List Nat
  | [] => []
  | y :: t => if y = x then t else afterIn x t

/-- The reference above the one in use that has stayed qualified for WTR seconds, when REVERT = 1 (R407). -/
def revertTo (cur : Nat) (s : State) : Option Nat :=
  if s.get Reg.LODE.SEL_REVERT = 1 then
    (s.prioList.takeWhile (· ≠ cur)).find? fun c =>
      match Assoc.find s.lode.qual c with
      | some t => decide (t + s.get Reg.LODE.QUAL_WTR * 1000000000 ≤ s.now)
      | none => false
  else none

/-- The reference the rules of R407 select; 0 is none. -/
def selectedRef (s : State) : Nat :=
  if s.get Reg.LODE.SEL_AUTO = 0 then
    let r := s.get Reg.LODE.SEL_MANREF
    if s.refQualified r then r else 0
  else
    let cur := s.loopRef
    let l := s.prioList
    if l.contains cur && s.refQualified cur then (s.revertTo cur).getD cur
    else
      match (afterIn cur l).find? (fun c => s.refQualified c) with
      | some c => c
      | none => (l.find? (fun c => s.refQualified c)).getD 0

/-- The clock class that a reference gives in TRACK (R421). -/
def refClass (ref : Nat) : Nat := if ref = 6 then 6 else if ref = 1 ∨ ref = 0 then 248 else 13

/-- Use a reference: hitless, with the build-out of R408; from FREERUN into ACQUIRE, from HOLDOVER into NARROW. -/
def switchRef (new : Nat) (s : State) : State :=
  let old := s.loopRef
  let s := s.set Reg.LODE.STAT_REF new
  if s.loopState = 0 then s.enterLoop 1
  else
    let s := (s.updLode fun x =>
      { x with buildout := s.phaseOf new + s.loopMade, decayAt := s.now, inside := none,
               lastClass := if s.loopState = 3 then refClass new else x.lastClass }).showLoop
    if s.loopState = 4 then s.enterLoop 2
    else s.when (decide (old ≠ 0)) (lodeEvent 1 [old, new, s.get Reg.LODE.BUILDOUT])

/-- Apply the selection rules (R407). -/
def reselect (s : State) : State :=
  if s.lodeEn then
    let new := s.selectedRef
    if new = s.loopRef ∧ new ≠ 0 then s else if new = 0 then s.loseAll else s.switchRef new
  else s

/-- The period at which the pulses of a pin come, or its line period for H pulses, in 1/6,750 ns: of sync pulses by REFIN RATE and
FAMILY, of a 10 MHz pin 100 ns, of PPS_IN the second (R405, R416). -/
def pinPeriod (ref : Nat) (line : Bool) (s : State) : Nat :=
  if ref = 6 then 6750000000000
  else if s.isPhaseRef ref then
    framePeriod3 (s.get (Reg.LODE.REFIN_RATE (ref - 2))) *
      (if line then (if s.get (Reg.LODE.REFIN_FAMILY (ref - 2)) = 1 then 3 else 2) else 2250)
  else 675000

/-- The lane of code 7 is an S-mode half at UP. -/
def laneRefUp (s : State) : Bool :=
  s.use (Reg.LANE.CFG_RXMODE (s.get Reg.LODE.LANESEL)) == 1 && s.get (Reg.LANE.STAT_RXSTATE (s.get Reg.LODE.LANESEL)) == 4

/-- What the detector of a pin has seen tells that it is lost (R405): of sync pulses, 8 H pulses absent from ±100 ns of their time, or a
frame pulse absent, or more than a line from its time; of 10 MHz, no edge for 1 µs, or the frequency outside FREQTOL; of PPS_IN, no edge
within ±1 µs of the expected second. -/
def pinLost (ref : Nat) (x : RefSeen) (s : State) : Bool :=
  if ref = 6 then decide (x.edge + 1000001000 < s.now)
  else if s.isPhaseRef ref then
    x.off || decide (8 * s.pinPeriod ref true + 675000 ≤ 6750 * (s.now - x.edge)) ||
      decide (s.pinPeriod ref false + s.pinPeriod ref true < 6750 * (s.now - x.frame))
  else decide (x.edge + 1000 ≤ s.now) || !x.within

/-- The reference is gone (R405): of PTP the firmware's QUALIFIED reads 0, the lane of code 7 is no S-mode half at UP, of TWIN the link
is down or no L record has come for 250 µs; of a pin its pulses tell. -/
def refGone (ref : Nat) (s : State) : Bool :=
  match ref with
  | 1 => !s.flag Reg.LODE.PTPSTAT
  | 7 => !s.laneRefUp
  | 8 => !s.twin.auth || s.lode.lRecAt.all fun t => decide (t + 250000 ≤ s.now)
  | _ => (Assoc.find s.lode.seen ref).all fun x => s.pinLost ref x

/-- A hardware reference may be qualified: it has stayed good for QUALTIME, counted from when EN was set at the earliest, and since it
was last lost. A pin and the lane of code 7 are good while their pulses or edges come as expected, their frequency within FREQTOL; of
TWIN the link is UP with L records arriving (R405). -/
def refRipe (ref : Nat) (s : State) : Bool :=
  let q := max 1 (s.get Reg.LODE.QUAL_QUALTIME) * 1000000000
  let since := max s.lode.startAt (Assoc.findD s.lode.lostAt ref 0)
  decide (2 ≤ ref) && decide (ref ≤ 8) && decide (since + q ≤ s.now) && !s.refGone ref &&
    (ref == 8 || (Assoc.find s.lode.seen ref).any fun x => x.within && x.good.any fun t => decide (t + q ≤ s.now))

/-- A reference becomes qualified (R405, R407). -/
def qualify (ref : Nat) (s : State) : State :=
  if s.lodeEn && !s.refQualified ref then
    ((s.updLode fun x => { x with qual := Assoc.put x.qual ref s.now }).lodeEvent 7 [ref]).reselect
  else s

/-- A reference loses qualification: REF_DISQUAL, and REF_LOST when it is in use, with the fall-back of R407
(R405, R406). -/
def disqualify (ref : Nat) (s : State) : State :=
  if s.refQualified ref then
    let s := (s.updLode fun x => { x with qual := Assoc.del x.qual ref, lostAt := Assoc.put x.lostAt ref s.now }).lodeEvent 6 [ref]
    if s.loopRef = ref then (s.lodeEvent 0 [ref]).reselect else s
  else s

/-- A write of PTPSTAT takes effect (R405): QUALIFIED is the firmware's word on PTP. -/
def ptpstatLand (q : Bool) (s : State) : State :=
  let s := s.setB Reg.LODE.PTPSTAT q
  if q then s.qualify 1 else s.disqualify 1

/-- EN of the lodestone is cleared: FREERUN, and every reference disqualified without an event (R405, R409). -/
def lodeStop (s : State) : State :=
  (((s.updLode fun x => { x with qual := [] }).enterLoop 0).set Reg.LODE.STAT_REF 0).set Reg.LODE.FREQ 0

/-- EN of the lodestone is set: every qualification starts from the beginning; PTP is qualified while QUALIFIED reads
1 (R405); the loop offset starts at zero (R414). -/
def lodeStart (s : State) : State :=
  let s := (((s.updLode fun x => { x with qual := [], buildout := 0, avg := [], startAt := s.now, lostAt := [] }).set
    Reg.LODE.LOOPOFS 0).set Reg.LODE.LOOPREM 0).set Reg.LODE.STAT_PHSTEPPEND 0
  let s := s.set Reg.LODE.AVGSECS 0
  s.when (s.flag Reg.LODE.PTPSTAT) (qualify 1)

/-- PHSLEW in ns per second; 0 acts as 1. -/
def phSlew (s : State) : Nat := max 1 (s.get Reg.LODE.PHSLEW)

/-- The build-out shrinks towards zero at PHSLEW since it was last looked at, for a phase reference with DECAY = 1
(R408). -/
def decayBuildout (s : State) : State :=
  let n := (s.now - s.lode.decayAt) * s.phSlew + s.lode.decayRem
  let d : Int := (n / 1000000 : Nat)
  let b := s.lode.buildout
  if s.flag Reg.LODE.PBO && s.isPhaseRef s.loopRef then
    s.updLode fun x =>
      { x with buildout := if 0 ≤ b then max 0 (b - d) else min 0 (b + d), decayAt := s.now, decayRem := n % 1000000 }
  else s.updLode fun x => { x with decayAt := s.now, decayRem := 0 }

/-- AVGSECS and HOLDAVG show the average (R411). -/
def showAvg (s : State) : State :=
  (s.set Reg.LODE.AVGSECS s.lode.avg.length).set Reg.LODE.HOLDAVG
    (if s.lode.avg = [] then 0 else ofSigned 32 (divFree 411 ((s.lode.avg.map (·.1)).foldl (· + ·) 0) s.lode.avg.length))

/-- One second of TRACK adds a sample to the holdover average of at most 300 s (R411). -/
def avgSample (s : State) : State :=
  if s.loopState = 3 ∧ (s.lode.avg = [] ∨ s.lode.avgAt + 1000000000 ≤ s.now) then
    (s.updLode fun x =>
      { x with avg := ((toSigned 32 (s.get Reg.LODE.FREQ), s.tempNow) :: x.avg).take 300, avgAt := s.now }).showAvg
  else s

/-- The loop step pending moves L on, no faster than PHSLEW; the last of it raises PHSTEP_DONE (R414). -/
def loopStepMoves (s : State) : State :=
  let rem := toSigned 32 (s.get Reg.LODE.LOOPREM)
  let slew := s.phSlew
  let far := min rem.natAbs ((s.now - s.lode.stepAt) * slew / 1000000)
  let d : Int := if 0 ≤ rem then far else -(far : Int)
  if !s.flag Reg.LODE.STAT_PHSTEPPEND ∨ (far = 0 ∧ rem ≠ 0) then s
  else
    let s := ((s.moveL d).set Reg.LODE.LOOPREM (ofSigned 32 (rem - d))).updLode fun x =>
      { x with stepAt := x.stepAt + far * 1000000 / slew }
    let s := s.showLoop
    if rem - d = 0 then (s.set Reg.LODE.STAT_PHSTEPPEND 0).lodeEvent 9 [s.loopRef] else s

/-- The DCO offset that the loop steers to is the loop filter's own; the spec bounds it to ±500 ppm only (R402): a
free value in 0.001 ppb. -/
def steer (s : State) : State :=
  let f := s.fresh
  (f.2).set Reg.LODE.FREQ (ofSigned 32 ((f.1 % 1000000001 : Nat) - (500000000 : Int)))

/-- The threshold of the present stage, in ps (R409). -/
def stageThreshold (st : Nat) : Option Nat :=
  if st = 1 then some 1000000 else if st = 2 then some 100000 else none

/-- The dwell of the present stage, in ns. -/
def stageDwell (st : Nat) (s : State) : Nat :=
  if st = 1 then max 1 (s.get Reg.LODE.DWELL_ACQDWELL) * 10000000
  else max 1 (s.get Reg.LODE.DWELL_NARDWELL) * 1000000000

/-- The phase error in use is judged: a realignment with PTP beyond REALIGN, a fall to ACQUIRE beyond 10 µs, else the
dwell of the stage (R404, R409). -/
def judgePhase (s : State) : State :=
  let e := s.phaseError.natAbs
  let thr := s.get Reg.LODE.REALIGN
  if s.loopRef = 1 ∧ thr ≠ 0 ∧ thr * 1000 < e then s.realign
  else if (s.loopState = 2 ∨ s.loopState = 3) ∧ 10000000 < e then s.enterLoop 1
  else
    match stageThreshold s.loopState with
    | some t =>
        let i : Option Nat := if e < t then some (s.lode.inside.getD s.now) else none
        s.updLode fun x => { x with inside := i }
    | none => s

/-- The offset of a pin: where its pulse is expected, in ns after L's instant (R405). -/
def pinOfs (ref : Nat) (s : State) : Int :=
  if ref = 6 then toSigned 32 (s.get Reg.LODE.PPSOFS)
  else if s.isPhaseRef ref then toSigned 32 (s.get (Reg.LODE.REFOFS (ref - 2))) else 0

/-- A time difference in ps reduced into half a period either way; the period in 1/6,750 ns, 0 for none. -/
def pinWrap (per : Nat) (ps : Int) : Int := if per = 0 then ps else wrapHalf (1000 * per) (6750 * ps) / 6750

/-- What a detector has seen once one more pulse has come, `dev` ps from its expected time: its place, the frequency once 1 ms has been
measured, and since when the reference has been good. -/
def refSeen (ref : Nat) (line : Bool) (dev : Int) (x : RefSeen) (s : State) : RefSeen :=
  let sync := s.isPhaseRef ref && ref != 6
  let placed := if ref = 6 then decide (dev.natAbs ≤ 1000000)
    else if !sync then true
    else if line then decide (dev.natAbs ≤ 100000)
    else decide (6750 * dev.natAbs ≤ 1000 * s.pinPeriod ref true)
  let drift := x.drift + dev
  let dt : Nat := s.now - x.from_
  let ripe := decide (1000000 ≤ dt)
  let within := if ripe then
      decide ((drift * 1000000000 + toSigned 32 (s.get Reg.LODE.FREQ) * dt).natAbs ≤ s.get Reg.LODE.QUAL_FREQTOL * 1000000 * dt)
    else x.within
  let lost := ref != 7 && s.pinLost ref x
  { edge := if placed && (line || !sync) then s.now else x.edge
    frame := if placed && sync && !line then s.now else x.frame
    off := if sync && !line then !placed else x.off
    good := if !placed || !within then none else if lost then some s.now else some (x.good.getD s.now)
    from_ := if ripe then s.now else x.from_
    drift := if ripe then 0 else drift
    within := within }

/-- A pulse or edge of a pin or of the lane of code 7 comes, `late` ns after the instant of L nearest to it (R405): its phase is where
it is expected less where it came; an H pulse gives the place within a line, and the frame pulse the line. -/
def pulseIn (ref : Nat) (line : Bool) (late : Int) (s : State) : State :=
  let per := if ref = 7 then 0 else s.pinPeriod ref line
  let was := Assoc.find s.lode.phase ref
  let raw := (s.pinOfs ref - late) * 1000
  let old := was.getD (pinWrap per raw)
  let dev0 := pinWrap per (raw - old)
  let dev := if ref = 7 ∧ s.refPeriod 7 ≠ 0 then wrapHalf (s.refPeriod 7) dev0 else dev0
  let new : RefSeen := { edge := s.now, frame := s.now, off := false, good := none, from_ := s.now, drift := 0, within := true }
  let x := s.refSeen ref line dev ((Assoc.find s.lode.seen ref).getD new)
  s.updLode fun y =>
    { y with phase := Assoc.put y.phase ref (if line then old + dev else pinWrap per raw), seen := Assoc.put y.seen ref x }

/-- The detector of a reference gives its phase; the loop compares when it is the one in use (R409). That of PTP is TIME − L, and
that of TWIN stands in the last L record (R403, R405). -/
def phaseCompare (ref : Nat) (line : Bool) (late : Int) (s : State) : State :=
  let s := if ref = 1 ∨ ref = 8 then s else s.pulseIn ref line late
  if s.lodeEn ∧ ref = s.loopRef ∧ ref ≠ 0 ∧ (s.loopState = 1 ∨ s.loopState = 2 ∨ s.loopState = 3) then
    ((s.loopStepMoves.decayBuildout.steer).judgePhase).showLoop.avgSample
  else s

/-- The dwell of the stage has passed inside its threshold: the loop advances (R409). -/
def stageAdvance (s : State) : State :=
  match s.lode.inside with
  | some t =>
      if t + s.stageDwell s.loopState ≤ s.now then
        if s.loopState = 1 then s.enterLoop 2
        else if s.loopState = 2 then
          (s.enterLoop 3).updLode fun x => { x with lastClass := refClass s.loopRef }
        else s
      else s
  | none => s

/-- The lodestone counts as locked for start-up (R410). -/
def lodeLocked (s : State) : Bool := s.loopState == 2 || s.loopState == 3

/-- A second of holdover (R412). -/
def holdSecond (s : State) : State :=
  if s.loopState = 4 ∧ s.lode.holdAt + 1000000000 * (s.get Reg.LODE.HOLDSECS + 1) ≤ s.now then
    let s := (s.bump Reg.LODE.HOLDSECS 1).holdCompute
    if s.get Reg.LODE.HOLDCFG_HOLDTIME ≤ s.get Reg.LODE.HOLDSECS ∧ !s.lode.specRaised then
      ((s.updLode fun x => { x with specRaised := true }).set Reg.LODE.STAT_OUTSPEC 1).lodeEvent 8 [s.loopRef]
    else s
  else s

/-- A write of LOOPSTEP takes effect (R414): it adds to what is still to be made, and PHSTEP_DONE follows when nothing is. -/
def loopStepLand (data : Word) (s : State) : State :=
  let d := toSigned 32 data.toNat
  let s := s.loopStepMoves
  let was := s.flag Reg.LODE.STAT_PHSTEPPEND
  let s := (s.set Reg.LODE.LOOPOFS (ofSigned 32 (toSigned 32 (s.get Reg.LODE.LOOPOFS) + d))).set Reg.LODE.LOOPREM
    (ofSigned 32 (toSigned 32 (s.get Reg.LODE.LOOPREM) + d))
  let s := (s.updLode fun x => { x with stepAt := s.now }).setB Reg.LODE.STAT_PHSTEPPEND (s.flag Reg.LODE.LOOPREM)
  s.when (was && !s.flag Reg.LODE.STAT_PHSTEPPEND) (lodeEvent 9 [s.loopRef])

/-! ### Timing planes -/

/-- The frame rate code of a plane in use (R417). -/
def planeRate (p : Nat) (s : State) : Nat :=
  let r := s.use (Reg.LODE.PLANE_CFG_RATE p)
  if r < 8 then r else 0

/-- The frame period of a plane in thirds of a nanosecond. -/
def planePeriod3 (p : Nat) (s : State) : Nat := framePeriod3 (s.planeRate p)

/-- The exact phase of a plane in thirds of a nanosecond. -/
def planePhase3 (p : Nat) (s : State) : Nat := Assoc.findD s.lode.phase3 p 0

/-- A write of PLANE[p].STEP takes effect; writes before one frame instant add together (R415). -/
def planeStepLand (p : Nat) (data : Word) (s : State) : State :=
  let d := toSigned 32 data.toNat
  let q := Assoc.findD s.lode.steps p (none, none)
  s.updLode fun x => { x with steps := Assoc.put x.steps p (q.1, some (q.2.getD 0 + d)) }

/-- What a plane step does at a frame instant: the first keeps its time, the second is the first one moved (R415).
The Boolean says that this instant is a moved one. -/
def planeStepInstant (p : Nat) (s : State) : State × Bool :=
  let q := Assoc.findD s.lode.steps p (none, none)
  let s := s.updLode fun x => { x with steps := Assoc.set x.steps p (q.2, none) (none, none) }
  match q.1 with
  | none => (s, false)
  | some v =>
      let t3 := s.planePeriod3 p
      let ph := (((s.planePhase3 p : Int) + wrapHalf t3 (3 * v)) % (t3 : Int)).toNat
      (((s.updLode fun x => { x with phase3 := Assoc.put x.phase3 p ph }).set
          (Reg.LODE.PLANE_PHASE p) (divFree 415 ph 3).toNat).lodeEvent 10 [p], true)

/-- The position of L in the frame of a plane, in thirds of a nanosecond from its frame instant (R68, R416). After a realignment the
plane runs on beside L to its next frame instant (R404). -/
def planePos3 (p : Nat) (s : State) : Int :=
  (3 * ((s.lode.l : Int) + Assoc.findD s.lode.planeOfs p 0) / 1000 - s.planePhase3 p) % (s.planePeriod3 p : Int)

/-- A frame instant of a plane: from here on it runs with L again (R404). -/
def planeRejoins (p : Nat) (s : State) : State := s.updLode fun x => { x with planeOfs := Assoc.del x.planeOfs p }

/-! ### Derived clocks (R420) -/

/-- The period of a CLKOUT pulse source in 1/6,750 ns: the second, a plane's frame, or its line in the plane's family. -/
def pulsePeriod (src p : Nat) (s : State) : Nat :=
  if src = 2 then 6750000000000
  else if src = 9 then s.planePeriod3 p * (if s.use (Reg.LODE.PLANE_CFG_FAMILY p) = 1 then 3 else 2)
  else s.planePeriod3 p * 2250

/-- What pin CLKOUT k carries: the source code in effect, 0 for a pin driven low and 8 for 10; the plane of a plane's pulse; and
the delay of a pulse source, reduced modulo its period, in 1/6,750 ns. -/
def clkout (k : Nat) (s : State) : Nat × Nat × Nat :=
  let c := s.use (Reg.LODE.CLKOUT_CFG_SRC k)
  let src := if !s.lodeEn ∨ 11 ≤ c then 0 else if c = 10 then 8 else c
  let p := s.use (Reg.LODE.CLKOUT_CFG_PLANE k)
  let pulse := src == 2 || src == 8 || src == 9
  (src, if src = 8 ∨ src = 9 then p else 0,
    if pulse then ((toSigned 32 (s.use (Reg.LODE.CLKOUT_OFS k)) * 6750) % (s.pulsePeriod src p : Int)).toNat else 0)

/-- The square wave of a source code, as a frequency in Hz: numerator and denominator; the word clock runs at the TSI rate. -/
def clkHz (src tsi : Nat) : Nat × Nat :=
  match src with
  | 1 => (10000000, 1)
  | 3 => (27000000, 1)
  | 4 => (148500000, 1)
  | 5 => (148500000000, 1001)
  | 6 => (tsi, 1)
  | 7 => (256 * tsi, 1)
  | _ => (0, 1)

/-- How many edges pin CLKOUT k has made when L stands at l ps: a square wave two a period; a pulse source one at each pulse and one
1 µs after it (R420). -/
def clkEdges (k : Nat) (l : Int) (s : State) : Int :=
  let c := s.clkout k
  let hz := clkHz c.1 (if s.use Reg.AUD.CFG_RATE = 1 then 96000 else 48000)
  if c.1 = 0 then 0
  else if c.1 = 2 ∨ c.1 = 8 ∨ c.1 = 9 then
    let per : Int := 4 * s.pulsePeriod c.1 c.2.1
    let at_ := 27 * l - 4 * (c.2.2 : Int) - (if c.1 = 2 then 0 else 9000 * (s.planePhase3 c.2.1 : Int))
    at_ / per + (at_ - 27000000) / per
  else 2 * (hz.1 : Int) * l / (1000000000000 * (hz.2 : Int))

/-- The level of pin CLKOUT k: low when it carries nothing, high through the 1 µs of a pulse and the first half of a square wave's
period. -/
def clkLevel (k : Nat) (s : State) : Bool :=
  let n := s.clkEdges k ((s.lode.l : Int) + Assoc.findD s.lode.clkOfs k 0)
  let c := (s.clkout k).1
  if c = 0 then false else if c = 2 ∨ c = 8 ∨ c = 9 then n % 2 != 0 else n % 2 == 0

/-- The CLKOUT pins that make an edge as L goes on from l follow L again (R404). -/
def clkRejoin (l : Nat) (s : State) : State :=
  s.updLode fun x => { x with clkOfs := x.clkOfs.filter fun p => s.clkEdges p.1 ((l : Int) + p.2) == s.clkEdges p.1 ((x.l : Int) + p.2) }

/-- The clock class the firmware announces as leader (R421). -/
def clockClass (s : State) : Nat :=
  match s.loopState with
  | 3 => refClass s.loopRef
  | 4 =>
      if s.flag Reg.LODE.STAT_OUTSPEC then (if s.lode.lastClass = 6 then 52 else if s.lode.lastClass = 13 then 58 else 248)
      else if s.lode.lastClass = 6 then 7 else if s.lode.lastClass = 13 then 14 else 248
  | _ => 248

end State

/-- REF_LOST (R406): the reference in use is lost. With none in use nothing is lost. -/
def execRefLost (s : State) : Host.Outcome State Fault Refusal := .next (s.when (s.refGone s.loopRef) (State.disqualify s.loopRef))

/-- REF_QUAL (R405): a hardware reference has stayed good for QUALTIME. PTP is qualified by PTPSTAT only. -/
def execRefQual (ref : Nat) (s : State) : Host.Outcome State Fault Refusal :=
  .next (s.when (s.refRipe ref) (State.qualify ref))

/-- REF_DISQUAL (R405): a reference that is not in use loses qualification. -/
def execRefDisqual (ref : Nat) (s : State) : Host.Outcome State Fault Refusal :=
  .next (s.when (decide (ref ≠ s.loopRef) && s.refGone ref) (State.disqualify ref))

/-- REF_REVERT (R407): a higher reference has stayed qualified for WTR seconds. -/
def execRefRevert (s : State) : Host.Outcome State Fault Refusal := .next s.reselect

/-- LOOP_PHASE_COMPARE (R409). -/
def execLoopPhaseCompare (ref : Nat) (pulse : Bool × Int) (s : State) : Host.Outcome State Fault Refusal :=
  .next (s.phaseCompare ref pulse.1 pulse.2)

/-- HOLDOVER_UPDATE (R412). -/
def execHoldoverUpdate (s : State) : Host.Outcome State Fault Refusal := .next s.holdSecond

/-- PHSTEP_DONE (R414): the pending step comes to its end, or as far as PHSLEW lets it. -/
def execPhstepDone (s : State) : Host.Outcome State Fault Refusal := .next s.loopStepMoves

end Sys2Proof.Machine
end

