-- ==== Sys2Proof/Machine/Dram.lean ====
section
/-! DEFINITION. Chapter 17: the external DRAM. The start of the common page, training, charges, refresh, inline ECC,
and the accesses of C2 requesters by system address. -/

namespace Sys2Proof.Machine

namespace State

/-- Change the external DRAM. -/
def updDram (f : DramState → DramState) (s : State) : State := { s with dram := f s.dram }

/-- Populated channels N; code 3 is invalid (R424). -/
def dramChans (code : Nat) : Option Nat :=
  match code with
  | 0 => some 8
  | 1 => some 16
  | 2 => some 32
  | _ => none

/-- Capacity per channel in MiB, for the arrangements of R424. -/
def dramChanMib (dens ranks : Nat) : Option Nat :=
  match dens, ranks with
  | 0, 0 => some 512
  | 1, 0 => some 1024
  | 2, 0 => some 2048
  | 0, 1 => some 1024
  | 1, 1 => some 2048
  | _, _ => none

/-- The data rate in MT/s. -/
def dramRate (code : Nat) : Option Nat :=
  match code with
  | 0 => some 6400
  | 1 => some 7500
  | 2 => some 8533
  | _ => none

/-- The fields of the common page in use. -/
def dramCfgChans (s : State) : Nat := (dramChans (s.use Reg.DRCC.CFG_CHANS)).getD 0
def dramCfgMib (s : State) : Nat := (dramChanMib (s.use Reg.DRCC.CFG_DENS) (s.use Reg.DRCC.CFG_RANKS)).getD 0
def dramCfgRate (s : State) : Nat := (dramRate (s.use Reg.DRCC.CFG_RATE)).getD 6400
def dramEcc (s : State) : Bool := s.use Reg.DRCC.CFG_ECC == 1

/-- Fitted capacity in MiB (R426). -/
def dramFittedMib (s : State) : Nat := s.dramCfgChans * s.dramCfgMib

/-- Usable capacity in MiB: 7/8 of the fitted with inline ECC (R426). -/
def dramUsableMib (s : State) : Nat := if s.dramEcc then s.dramFittedMib * 7 / 8 else s.dramFittedMib

/-- The planning figure in Mb/s: 75 % of peak, times 7/8 with inline ECC (R32, R425). -/
def dramPlan (s : State) : Nat :=
  let p := s.dramCfgChans * 12 * s.dramCfgRate
  if s.dramEcc then p * 7 / 8 else p

/-- The first failure of a common start, in the order of R621; 0 is none. -/
def dramCfgErr (s : State) : Nat :=
  let g := s.use Reg.DRCC.CFG_GRAIN
  let fw := s.use Reg.DRCC.FWAREA
  let gb := s.use Reg.DRCC.GFXBASE
  let gs := s.use Reg.DRCC.GFXSIZE
  if g = 0 ∨ 5 < g then 1
  else if dramChans (s.use Reg.DRCC.CFG_CHANS) = none then 2
  else if dramChanMib (s.use Reg.DRCC.CFG_DENS) (s.use Reg.DRCC.CFG_RANKS) = none then 3
  else if dramRate (s.use Reg.DRCC.CFG_RATE) = none then 5
  else if (gb < fw ∧ 0 < gs) ∨ s.dramUsableMib < fw ∨ s.dramUsableMib < gb + gs then 4
  else 0

/-- The EN bit a channel page shows: the common EN and its population (R446). -/
def showDrcEn (s : State) : State :=
  s.each (List.range 32) fun c t =>
    t.setB (Reg.DRC.CTRL_EN c) (t.get Reg.DRCC.CTRL_EN == 1 && decide (c < t.dramCfgChans))

/-- The common EN is set: the start is judged, and every populated channel begins to train (R441, R621). -/
def dramStart (s : State) : State :=
  let e := s.dramCfgErr
  let s := s.showDrcEn.set Reg.DRCC.STAT_CFGERR e
  if e = 0 then
    let s := (s.set Reg.DRCC.STAT_TRAINED 0).set Reg.DRCC.CAP_FITTED (s.dramFittedMib / 64)
    s.each (List.range s.dramCfgChans) fun c t => t.set (Reg.DRC.STAT_TSTATE c) 1
  else s.drccCause 1

/-- The DRAM serves requests (R442, R444). -/
def dramUp (s : State) : Bool := s.get Reg.DRCC.STAT_RUN == 1 && s.get Reg.DRCC.CTRL_EN == 1

/-- SPACEHELD shows the areas and every page charged (R428). -/
def showSpace (s : State) : State :=
  s.set Reg.DRCC.SPACEHELD ((s.use Reg.DRCC.FWAREA + s.use Reg.DRCC.GFXSIZE) * 16 + s.dram.pages)

/-- The common EN is cleared: self-refresh with the content kept, every request refused (R444). Out of service USABLE and PLAN
read 0 (R442), and no channel runs. -/
def dramStop (s : State) : State :=
  let s := s.each (List.range 32) fun c t =>
    ((t.set (Reg.DRC.CTRL_EN c) 0).set (Reg.DRC.STAT_RUN c) 0).set (Reg.DRC.STAT_TSTATE c) 0
  ((s.set Reg.DRCC.STAT_RUN 0).set Reg.DRCC.CAP_USABLE 0).set Reg.DRCC.PLAN 0

/-- One channel's training result is shown; a failure raises TRAIN_FAIL with the failing step (R441, R442). Tracking starts from
the delays just trained (R443). -/
def trainShow (r : TrainResult) (s : State) : State :=
  let s := (((s.set (Reg.DRC.TRAINRES_ATTEMPTS r.chan) r.attempts).set (Reg.DRC.TRAINRES_STEP r.chan) r.step).set
    (Reg.DRC.TRAINRES_MS r.chan) r.ms).set (Reg.DRC.TRACKOFS r.chan) 0
  if r.step = 0 then (s.set (Reg.DRC.STAT_TSTATE r.chan) 2).set (Reg.DRC.STAT_RUN r.chan) 1
  else (s.set (Reg.DRC.STAT_TSTATE r.chan) 3).cause (Reg.DRC.EVSTAT r.chan) (Reg.DRC.EVEN r.chan) (1352 + r.chan) 2
    [r.chan, r.step]

/-- Training is going on. -/
def dramTraining (s : State) : Bool :=
  s.get Reg.DRCC.CTRL_EN == 1 && s.get Reg.DRCC.STAT_RUN == 0 && s.get Reg.DRCC.STAT_CFGERR == 0 &&
    s.get (Reg.DRC.STAT_TSTATE 0) != 0

/-- Training of every populated channel ends: the DRAM enters service, or stays out of it when a channel failed (R441, R442); a changed CFG has
lost the content (R444). -/
def trainDone (results : List TrainResult) (s : State) : State :=
  if s.dramTraining ∧ (List.range s.dramCfgChans).all fun c => results.any fun r => r.chan == c then
    let rs := results.filter fun r => decide (r.chan < s.dramCfgChans)
    let s := s.each rs trainShow
    if rs.all (fun r => decide (r.step = 0)) then
      let cfg := Assoc.findD s.inUse 0x2A020010 (resetWord 0x2A020010)
      let s := s.updDram fun d =>
        { d with trainedCfg := some cfg, scrubAt := s.now,
                 mem := if d.trainedCfg = some cfg then d.mem else [],
                 inverted := if d.trainedCfg = some cfg then d.inverted else [] }
      ((((s.set Reg.DRCC.STAT_TRAINED 1).set Reg.DRCC.STAT_RUN 1).set Reg.DRCC.CAP_USABLE (s.dramUsableMib / 64)).set
        Reg.DRCC.PLAN s.dramPlan).showSpace
    else ((s.set Reg.DRCC.STAT_TRAINED 0).set Reg.DRCC.CAP_USABLE 0).set Reg.DRCC.PLAN 0
  else s

/-! ### Charges -/

/-- Pages still free in the pool (R428). -/
def freePages (s : State) : Nat := s.dramUsableMib * 16 - s.get Reg.DRCC.SPACEHELD

/-- A charge of bandwidth in kb/s and of pages fits (R32, R428); any charge is refused while the DRAM is out of
service (R442). -/
def chargeFits (kbps pages : Nat) (s : State) : Bool :=
  s.dramUp && decide (s.dram.kbps + kbps ≤ 1000 * s.get Reg.DRCC.PLAN) && decide (pages ≤ s.freePages)

/-- CHARGED shows the sum in Mb/s; its rounding is open. -/
def showCharged (s : State) : State := (s.set Reg.DRCC.CHARGED (divFree 446 s.dram.kbps 1000).toNat).showSpace

/-- Take a charge. -/
def charge (kbps pages : Nat) (s : State) : State :=
  (s.updDram fun d => { d with kbps := d.kbps + kbps, pages := d.pages + pages }).showCharged

/-- Return a charge. -/
def uncharge (kbps pages : Nat) (s : State) : State :=
  (s.updDram fun d => { d with kbps := d.kbps - kbps, pages := d.pages - pages }).showCharged

/-! ### Accesses by system address -/

/-- A system address that exists (R426). -/
def dramExists (a : Nat) (s : State) : Bool := decide (a < s.dramUsableMib * 1048576)

/-- The DRAM channel of a system address (R427). -/
def dramChanOf (a : Nat) (s : State) : Nat :=
  a / (128 * 2 ^ s.use Reg.DRCC.CFG_GRAIN) % max 1 s.dramCfgChans

/-- The 64-byte units served of a transfer count on their channels in its class (CLSBYTES). -/
def countUnits (a len cls : Nat) (s : State) : State :=
  s.each (List.range ((a % 64 + len + 63) / 64)) fun k t => t.bump (Reg.DRC.CLSBYTES (t.dramChanOf (a / 64 * 64 + 64 * k)) cls) 1

/-- The system address that DRC.CHKINV names, a wide value (R59). -/
def chkAddr (s : State) : Nat := s.getLow Reg.DRCC.CHKADDRLO * 8 + s.get Reg.DRCC.CHKADDRHI * 2 ^ 32

/-- An armed inversion is stored with the word that ADDR names (R440). -/
def chkinvStrike (s : State) : State :=
  let b := s.get Reg.DRCC.CHKINV_BITS
  ((s.set Reg.DRCC.CHKINV_ARM 0).set Reg.DRCC.CHKINV_DONE 1).updDram fun d =>
    { d with inverted := Assoc.put d.inverted (s.chkAddr / 8) b }

/-- A correctable error on a channel (R437). -/
def eccCor (c : Nat) (s : State) : State := (s.bump (Reg.DRC.ECCCNT_CORR c) 1).drcCause c 4

/-- An uncorrectable error on a channel at a system address (R437). -/
def eccUnc (c a : Nat) (s : State) : State :=
  (((s.bump (Reg.DRC.ECCCNT_UNCORR c) 1).set (Reg.DRC.ECCADDRLO c) a).set (Reg.DRC.ECCADDRHI c) (a / 2 ^ 32)).drcCause c 5

/-- The check of one word, of which so many bits are wrong: one is corrected and written back, more are uncorrectable (R437). -/
def eccWord (w bits : Nat) (q : Nat × State) : Nat × State :=
  let c := q.2.dramChanOf (8 * w)
  if bits = 1 then
    (max 1 q.1, (q.2.updDram fun d => { d with inverted := Assoc.del d.inverted w }).eccCor c)
  else (2, q.2.eccUnc c (8 * w))

/-- What the check of the words at an address finds under inline ECC: 0 nothing, 1 correctable errors, 2 an uncorrectable one (R437).
`flips` bits of the first word were read flipped, beside those whose check bits are stored inverted. -/
def eccCheck (a len flips : Nat) (s : State) : Nat × State :=
  if s.dramEcc then
    let lo := a / 8
    let hi := (a + len - 1) / 8
    let bad := (lo, Assoc.findD s.dram.inverted lo 0 + flips) ::
      s.dram.inverted.filter fun p => decide (lo < p.1) && decide (p.1 ≤ hi)
    (bad.filter fun p => decide (0 < p.2)).foldl (fun q p => eccWord p.1 p.2 q) (0, s)
  else (0, s)

/-- A media client's write of so many bytes counts in class C1, spread evenly over the populated channels (R427, R430): the pages it
goes to are not told, and each channel counts its share rounded up. -/
def mediaWritten (bytes : Nat) (s : State) : State :=
  if s.dramUp then
    s.each (List.range s.dramCfgChans) fun c t => t.bump (Reg.DRC.CLSBYTES c 1) ((bytes + 64 * s.dramCfgChans - 1) / (64 * s.dramCfgChans))
  else s

/-- The words that a write covers only in part: each is carried out as a read-modify-write (R437). -/
def partWords (a len : Nat) : List Nat :=
  let lo := a / 8
  let hi := (a + len - 1) / 8
  let first := if a % 8 ≠ 0 ∨ (lo = hi ∧ len < 8) then [lo] else []
  if lo ≠ hi ∧ (a + len) % 8 ≠ 0 then first ++ [hi] else first

/-- A write of bytes: the words it covers in part are read and checked; it clears stored inversions of the words it covers, then an
armed one strikes (R437, R440). -/
def dramWrite (a : Nat) (bytes : List Byte) (s : State) : State :=
  let lo := a / 8
  let hi := (a + bytes.length - 1) / 8
  let s := s.each (partWords a bytes.length) fun w t => (t.eccCheck (8 * w) 8 0).2
  let s := (s.countUnits a bytes.length 2).updDram fun d =>
    { d with mem := Memory.writeN d.mem a bytes,
             inverted := d.inverted.filter fun p => !(decide (lo ≤ p.1) && decide (p.1 ≤ hi)) }
  s.when (s.flag Reg.DRCC.CHKINV_ARM && s.dramEcc && decide (lo ≤ s.chkAddr / 8) && decide (s.chkAddr / 8 ≤ hi))
    chkinvStrike

/-- A read of n bytes by a C2 requester: none is an uncorrectable error (R437). -/
def dramRead (a n : Nat) (s : State) : Option (List Byte) × State :=
  let r := (s.countUnits a n 2).eccCheck a n 0
  if r.1 = 2 then (none, r.2) else (some (Memory.readN s.dram.mem a n), r.2)

/-! ### Refresh, ages, tracking -/

/-- A refresh falls due on a channel (R434). -/
def refreshDue (c : Nat) (c0queued : Bool) (s : State) : State :=
  let lim := min 8 (s.use Reg.DRCC.REFCFG)
  let p := s.get (Reg.DRC.REFCNT_POSTPONED c)
  if c0queued then
    if p < lim then s.set (Reg.DRC.REFCNT_POSTPONED c) (p + 1)
    else if lim = 0 then s
    else ((s.set (Reg.DRC.REFCNT_POSTPONED c) 0).bump (Reg.DRC.REFCNT_BURSTS c) 1).drcCause c 6
  else s.set (Reg.DRC.REFCNT_POSTPONED c) 0

/-- A poll of MR4 (R433). -/
def mr4Poll (c code band : Nat) (overs : Bool) (s : State) : State :=
  (((s.set (Reg.DRC.TEMP c) code).setB (Reg.DRC.STAT_HOT c) (decide (0 < band))).updDram fun d =>
    { d with band := Assoc.set d.band c band 0 }).when overs (drcCause c 9)

/-- A queued request has waited longer than its class's age (R431). -/
def ageExpire (c cls : Nat) (s : State) : State :=
  if cls = 0 then (s.bump (Reg.DRC.LATECNT_C0LATE c) 1).drcCause c 7
  else s.bump (Reg.DRC.LATECNT_PROMOTED c) 1

/-- 40 % of a UI in ps, which the tracking keeps as its limit (R443). -/
def trackLimit (s : State) : Nat := (divFree 443 400000 s.dramCfgRate).toNat

/-- A tracking interval moves a channel's delays, to ±40 % of a UI (R443). -/
def trackMove (c : Nat) (move : Int) (s : State) : State :=
  let v := toSigned 16 (s.get (Reg.DRC.TRACKOFS c)) + move
  let lim : Int := s.trackLimit
  (s.set (Reg.DRC.TRACKOFS c) (ofSigned 16 (clampInt (-lim) lim v))).when (decide (s.trackLimit ≤ v.natAbs)) (drcCause c 3)

/-- A scrub pass has not come to its end within PERIOD seconds; the next begins (R438). -/
def scrubLate (s : State) : State :=
  if s.dramUp ∧ s.dram.scrubAt + 1000000000 * max 1 (s.use Reg.DRCC.SCRUB) ≤ s.now then
    (s.updDram fun d => { d with scrubAt := s.now }).drccCause 8
  else s

end State

/-- REFRESH_DUE (R434). -/
def execRefreshDue (c : Nat) (c0queued : Bool) (s : State) : Host.Outcome State Fault Refusal :=
  .next (s.when (s.dramUp && decide (c < s.dramCfgChans)) (State.refreshDue c c0queued))

/-- MR4_POLL (R433). -/
def execMr4Poll (c code band : Nat) (overs : Bool) (s : State) : Host.Outcome State Fault Refusal :=
  .next (s.when (s.dramUp && decide (c < s.dramCfgChans)) (State.mr4Poll c code band overs))

/-- REQUEST_AGE_EXPIRE (R431). -/
def execRequestAgeExpire (c cls : Nat) (s : State) : Host.Outcome State Fault Refusal :=
  .next (s.when (s.dramUp && decide (c < s.dramCfgChans)) (State.ageExpire c cls))

/-- SCRUB_LATE (R438). -/
def execScrubLate (s : State) : Host.Outcome State Fault Refusal := .next s.scrubLate

/-- TRACK_INTERVAL (R443). -/
def execTrackInterval (c : Nat) (move : Int) (s : State) : Host.Outcome State Fault Refusal :=
  .next (s.when (s.dramUp && decide (c < s.dramCfgChans)) (State.trackMove c move))

/-- DRC_CHKINV_APPLY (R440): a write that covers ADDR lands. -/
def execDrcChkinvApply (s : State) : Host.Outcome State Fault Refusal :=
  .next (s.when (s.flag Reg.DRCC.CHKINV_ARM && s.dramEcc) State.chkinvStrike)

end Sys2Proof.Machine
end

