-- ==== Sys2Proof/Machine/Formats.lean ====
section
/-! DEFINITION. Format words (chapter 7), entry sizes (R62), rasters, switch lines (R118, R119), the content digest
(R153), colour codes, and the pictures of test generators and of idle content. -/

namespace Sys2Proof.Machine

/-! ### Format words -/

def fmtMap (w : Nat) : Nat := bits w 31 28
def fmtStruct (w : Nat) : Nat := bits w 27 24
def fmtRate (w : Nat) : Nat := bits w 23 20
def fmtSamp (w : Nat) : Nat := bits w 19 18
def fmtDepth (w : Nat) : Nat := bits w 17 17
def fmtColr (w : Nat) : Nat := bits w 15 12

/-- A format word without its COLR field, which R184 and R189 do not compare. -/
def fmtNoColr (w : Nat) : Nat := setBits w 15 12 0

/-- Well formed (R618). -/
def fmtWell (w : Nat) : Bool :=
  decide (fmtMap w ≤ 8) && decide (fmtStruct w ≤ 5) && decide (fmtRate w ≤ 7) && decide (fmtSamp w ≤ 2) &&
    (decide (fmtColr w ≤ 3) || fmtColr w == 15) && bits w 16 16 == 0 && bits w 11 0 == 0

/-- 4:2:2 10-bit. -/
def fmtIs422x10 (w : Nat) : Bool := fmtSamp w == 0 && fmtDepth w == 0
/-- 4:4:4 10- or 12-bit. -/
def fmtIs444 (w : Nat) : Bool := decide (1 ≤ fmtSamp w)
/-- 4:2:2 12-bit. -/
def fmtIs422x12 (w : Nat) : Bool := fmtSamp w == 0 && fmtDepth w == 1
/-- Frame rates 23.98 to 30. -/
def fmtLow (w : Nat) : Bool := decide (fmtRate w ≤ 4)
/-- Frame rates 25, 29.97 and 30. -/
def fmtMid (w : Nat) : Bool := decide (2 ≤ fmtRate w) && decide (fmtRate w ≤ 4)
/-- Frame rates 50, 59.94 and 60. -/
def fmtHigh (w : Nat) : Bool := decide (5 ≤ fmtRate w)
/-- Interlaced or PsF. -/
def fmtSeg (w : Nat) : Bool := fmtStruct w == 0 || fmtStruct w == 2
/-- 2160-line rasters. -/
def fmt2160 (w : Nat) : Bool := fmtStruct w == 4 || fmtStruct w == 5

/-- The combinations of R179, by mapping. -/
def fmtListed (w : Nat) : Bool :=
  let low1080 := (fmtSeg w && fmtMid w) || (fmtStruct w == 1 && fmtLow w)
  let m0 := fmtIs422x10 w && (low1080 || fmtStruct w == 3)
  let m1 := (fmtIs422x10 w && fmtStruct w == 1 && fmtHigh w) || ((fmtIs444 w || fmtIs422x12 w) && low1080)
  let big := fmt2160 w && ((fmtIs422x10 w && fmtHigh w) || (fmtIs444 w && fmtLow w))
  match fmtMap w with
  | 0 => m0
  | 1 => m1
  | 2 => m1
  | 3 => m0
  | 4 => fmtStruct w == 1 && fmtHigh w && (fmtIs444 w || fmtIs422x12 w)
  | 5 => big
  | 6 => big
  | 7 => (fmt2160 w && fmtIs422x10 w && fmtLow w) ||
      (fmtStruct w == 1 && fmtHigh w && fmtIs444 w && fmtDepth w == 0)
  | 8 => big
  | _ => false

/-- The MAP of R215: of the mappings that carry the format, the one with the fewest lanes, the lowest code on a tie. -/
def fmtMapOf (w : Nat) : Option Nat :=
  [0, 1, 2, 3, 7, 8, 4, 5, 6].find? fun m => fmtListed (setBits w 31 28 m)

/-- The MAP is the one R215 gives, where R179 lists the format under some mapping. -/
def fmtMapRight (w : Nat) : Bool :=
  match fmtMapOf w with
  | some m => m == fmtMap w
  | none => true

/-- The entry size of R62: 0 is 12G, 1 is 3G, 2 is 1.5G. -/
def fmtSize (w : Nat) : Nat :=
  match fmtMap w with
  | 0 => 2
  | 3 => 2
  | 1 => 1
  | 2 => 1
  | _ => 0

/-- Lanes of a mapping (R179). -/
def mapLanes (m : Nat) : Nat := if m = 4 then 2 else if m = 5 ∨ m = 6 then 4 else 1

/-- Link rate code of SDI.RXSTAT.RATE of a mapping. -/
def mapLinkRate (m : Nat) : Nat := if m = 0 then 1 else if m = 7 then 3 else if m = 8 then 4 else 2

/-- The ÷1.001 rates. -/
def fmtDiv (w : Nat) : Bool := fmtRate w == 0 || fmtRate w == 3 || fmtRate w == 6

/-- The TX family of R333 of a format. -/
def fmtFamily (w : Nat) : Nat := 2 * (mapLinkRate (fmtMap w) - 1) + (if fmtDiv w then 1 else 0)

/-- The nominal essence rate in kb/s (R62, R179). -/
def fmtNominal (w : Nat) : Nat :=
  match fmtMap w with
  | 0 => 1485000
  | 3 => 1485000
  | 1 => 2970000
  | 2 => 2970000
  | 4 => 5940000
  | 7 => 5940000
  | _ => 11880000

/-- A nominal rate in kb/s at the format's frame rate: ÷1.001 where it runs so, rounded up. -/
def rateAt (w kbps : Nat) : Nat := if fmtDiv w then (kbps * 1000 + 1000) / 1001 else kbps

/-- Nominal frames per second. -/
def fmtFps (w : Nat) : Nat :=
  match fmtRate w with
  | 0 => 24
  | 1 => 24
  | 2 => 25
  | 3 => 30
  | 4 => 30
  | 5 => 50
  | _ => 60

/-- Bytes of a frame at a nominal rate in kb/s (R80). -/
def frameBytes (w kbps : Nat) : Nat := kbps * 1000 / fmtFps w / 8

/-- 64 KiB pages that hold a number of bytes (R80). -/
def pagesOf (bytes : Nat) : Nat := (bytes + 65535) / 65536

/-- The frame period in thirds of a nanosecond. -/
def fmtPeriod3 (w : Nat) : Nat := framePeriod3 (fmtRate w)

/-- Lines of the interface structure that the switch line is counted in (R118). -/
def fmtLines (w : Nat) : Nat := if fmtStruct w = 3 then 750 else 1125

/-- The switch instant after the frame instant, in thirds of a nanosecond (R119); its rounding is open. -/
def switchLead3 (w : Nat) : Nat := (divFree 119 (6 * fmtPeriod3 w) (fmtLines w)).toNat

/-- Active width and height. -/
def fmtWidth (w : Nat) : Nat :=
  match fmtStruct w with
  | 3 => 1280
  | 4 => 3840
  | 5 => 4096
  | _ => 1920
def fmtHeight (w : Nat) : Nat :=
  match fmtStruct w with
  | 3 => 720
  | 4 => 2160
  | 5 => 2160
  | _ => 1080

/-- Rows of the raster in the order of transmission: both fields of an interlaced or segmented frame in turn. -/
def rowOrder (w : Nat) : List Nat :=
  let h := fmtHeight w
  if fmtSeg w then (List.range (h / 2)).map (fun y => 2 * y) ++ (List.range (h / 2)).map (fun y => 2 * y + 1)
  else List.range h

/-- Bits of a sample. -/
def fmtBits (w : Nat) : Nat := if fmtDepth w = 1 then 12 else 10

/-! ### Digest -/

/-- DIGEST of R153 over the active picture. -/
def digest (picture : List Pix) : Nat := picture.foldl (fun c x => crcBits 16 0x1021 16 x.toNat c) 0xFFFF

/-! ### Colour codes -/

/-- Luma weights in 1/10,000 of red and blue: BT.709 for colorimetry 0 and 15, BT.2020 for 1–3 (R301). -/
def lumaWeights (colr : Nat) : Int × Int := if 1 ≤ colr ∧ colr ≤ 3 then (2627, 593) else (2126, 722)

/-- Narrow-range RGB codes at a scale (1 for 10 bits, 4 for 12 bits) to Y, Cb, Cr codes, rounded to nearest. -/
def yuvOfRgb (colr : Nat) (sc : Int) (c : Rgb) : Rgb :=
  let w := lumaWeights colr
  let r := c.r - 64 * sc
  let g := c.g - 64 * sc
  let b := c.b - 64 * sc
  let y := w.1 * r + (10000 - w.1 - w.2) * g + w.2 * b
  ⟨64 * sc + divRound y 10000,
   512 * sc + divRound (896 * (10000 * b - y)) (876 * 2 * (10000 - w.2)),
   512 * sc + divRound (896 * (10000 * r - y)) (876 * 2 * (10000 - w.1))⟩

/-- Y, Cb, Cr codes to narrow-range RGB codes, rounded to nearest. -/
def rgbOfYuv (colr : Nat) (sc : Int) (c : Rgb) : Rgb :=
  let w := lumaWeights colr
  let y := c.r - 64 * sc
  let pb := c.g - 512 * sc
  let pr := c.b - 512 * sc
  let g := 10000 - w.1 - w.2
  let rN := 896 * 10000 * y + 876 * 2 * (10000 - w.1) * pr
  let bN := 896 * 10000 * y + 876 * 2 * (10000 - w.2) * pb
  let r := divRound rN (896 * 10000)
  let b := divRound bN (896 * 10000)
  let gg := divRound (896 * 10000 * 10000 * y - w.1 * rN - w.2 * bN) (896 * 10000 * g)
  ⟨64 * sc + r, 64 * sc + gg, 64 * sc + b⟩

/-- Code limiting of R281. -/
def limitCode (depth : Nat) (c : Int) : Int := if depth = 1 then clampInt 16 4079 c else clampInt 4 1019 c

/-- A code left-justified in 16 bits (R153). -/
def justify (depth : Nat) (c : Int) : Pix := BitVec.ofNat 16 (c.toNat * (if depth = 1 then 16 else 64))

/-- One component of a triple. -/
def Rgb.comp (c : Rgb) (k : Nat) : Int := match k with | 0 => c.r | 1 => c.g | _ => c.b

/-- The samples of a line of triples (Y, Cb, Cr or R, G, B) in the order they are written into the slot: Cb Y Cr Y for
4:2:2, the components in turn for 4:4:4. In 4:2:2 a pair takes the even pixel's Cb and Cr, without a filter: DESIGN CHOICE,
R83 gives a generator's picture no decimation. -/
def packLine (fmt : Nat) (px : List Rgb) : List Pix :=
  let j := fun c => justify (fmtDepth fmt) (limitCode (fmtDepth fmt) c)
  if fmtSamp fmt = 0 then
    (px.zipIdx.map fun p => if p.2 % 2 = 0 then [j p.1.g, j p.1.r] else
      [j ((px[p.2 - 1]?).getD p.1).b, j p.1.r]).flatten
  else (px.map fun c => [j c.r, j c.g, j c.b]).flatten

/-- A raster of RGB codes by (row, column) as a picture of a format. -/
def renderRgb (fmt : Nat) (at_ : Nat → Nat → Rgb) : List Pix :=
  let sc : Int := if fmtDepth fmt = 1 then 4 else 1
  ((rowOrder fmt).map fun y => packLine fmt ((List.range (fmtWidth fmt)).map fun x =>
    if fmtSamp fmt = 2 then at_ y x else yuvOfRgb (fmtColr fmt) sc (at_ y x))).flatten

/-- The black raster of idle content (R128). -/
def blackPicture (fmt : Nat) : List Pix :=
  let sc : Int := if fmtDepth fmt = 1 then 4 else 1
  renderRgb fmt fun _ _ => ⟨64 * sc, 64 * sc, 64 * sc⟩

/-- Eight vertical bars at an amplitude in percent (R82): white, yellow, cyan, green, magenta, red, blue, black from the left.
DESIGN CHOICE: the spec names no colours. -/
def barColour (w : Nat) (sc amp : Int) (x : Nat) : Rgb :=
  let k := x * 8 / max 1 w
  let on := fun b : Bool => 64 * sc + (if b then 876 * sc * amp / 100 else 0)
  ⟨on (k == 0 || k == 1 || k == 4 || k == 5), on (decide (k < 4)), on (k % 2 == 0)⟩

/-- The picture of a test generator (R82, R83): pattern, flat colour, and the frame number for MOVING, whose box
starts at a place the spec leaves open. RAMP runs from 64 to 940 at 10 bits: DESIGN CHOICE, the spec does not give its lowest
and highest legal code. -/
def patternPicture (fmt pat flat n seed : Nat) : List Pix :=
  let w := fmtWidth fmt
  let sc : Int := if fmtDepth fmt = 1 then 4 else 1
  match pat with
  | 1 => renderRgb fmt fun _ x => barColour w sc 75 x
  | 2 => renderRgb fmt fun _ x => barColour w sc 100 x
  | 3 => renderRgb fmt fun _ x =>
      let v := 64 * sc + divRound (876 * sc * x) (max 1 (w - 1) : Nat)
      ⟨v, v, v⟩
  | 4 => renderRgb fmt fun _ _ =>
      ⟨(bits flat 29 20 : Nat) * sc, (bits flat 19 10 : Nat) * sc, (bits flat 9 0 : Nat) * sc⟩
  | 5 =>
      let x0 := (Config.freeOf 82 [seed, 0] + 8 * n) % w
      let y0 := Config.freeOf 82 [seed, 1] % (fmtHeight fmt - 63)
      renderRgb fmt fun y x =>
        if (x + w - x0) % w < 64 ∧ y0 ≤ y ∧ y < y0 + 64 then ⟨940 * sc, 940 * sc, 940 * sc⟩ else barColour w sc 75 x
  | _ => blackPicture fmt

end Sys2Proof.Machine
end

