-- ==== Sys2Proof/Machine/Store.lean ====
section
/-! DEFINITION. Chapter 3: the slot store. Entries, admission and packing, compaction, frame starts and alignment,
poison, provenance tokens as they are issued (R154, R176), and the frame-sync rings. -/

namespace Sys2Proof.Machine

/-! ### Packing of entries into slots (R62, R87) -/

/-- Sub-slots per slot of a size: 0 is 12G, 1 is 3G, 2 is 1.5G. -/
def perSlot (k : Nat) : Nat := if k = 1 then 4 else if k = 2 then 8 else 1

/-- The positions a size uses (R62). -/
def sizePositions (k : Nat) : List Nat := if k = 1 then [0, 2, 4, 6] else if k = 2 then [0, 1, 2, 3, 4, 5, 6, 7] else [0]

/-- The count of R28 over the sizes of the entries of one direction. -/
def slotCount (ks : List Nat) : Nat :=
  let n := fun k => (ks.filter fun x => x == k).length
  n 0 + (n 1 + 3) / 4 + (n 2 + 7) / 8

/-- The size a slot is divided to, when it holds an entry. -/
def slotSize (l : List (Nat × Nat)) (slot : Nat) : Option Nat :=
  (l.find? fun p => p.1 / 8 == slot).map (·.2)

/-- The lowest free position of a slot for a size. -/
def freePos (l : List (Nat × Nat)) (slot k : Nat) : Option Nat :=
  ((sizePositions k).find? fun q => l.all fun p => p.1 != 8 * slot + q).map fun q => 8 * slot + q

/-- The entry that admission allocates (R87). -/
def allocEntry (l : List (Nat × Nat)) (k : Nat) : Option Nat :=
  let free := (List.range 1024).find? fun sl => slotSize l sl == none
  if k = 0 then free.map fun sl => 8 * sl
  else
    match (List.range 1024).find? fun sl => slotSize l sl == some k && (freePos l sl k).isSome with
    | some sl => freePos l sl k
    | none => free.map fun sl => 8 * sl

/-- Allocate entries of several sizes in turn; none when one has no place. -/
def allocAll (l : List (Nat × Nat)) : List Nat → Option (List Nat)
  | [] => some []
  | k :: ks =>
      match allocEntry l k with
      | none => none
      | some e => (allocAll (l ++ [(e, k)]) ks).map fun es => e :: es

/-- Remove repeats from a list of numbers, keeping the first of each. -/
def dedup : List Nat → List Nat
  | [] => []
  | x :: xs => x :: (dedup xs).filter fun y => y != x

/-- Slots divided to a size, lowest first. -/
def slotsOf (l : List (Nat × Nat)) (k : Nat) : List Nat :=
  dedup ((l.filter fun p => p.2 == k).map fun p => p.1 / 8)

/-- The moves that pack the streams of one size (R88): from the highest slots into the free positions of the lowest. -/
def packMoves (l : List (Nat × Nat)) (k : Nat) : List (Nat × Nat) :=
  let n := (l.filter fun p => p.2 == k).length
  let keep := (slotsOf l k).take ((n + perSlot k - 1) / perSlot k)
  let drop := ((slotsOf l k).drop keep.length).reverse
  let from_ := (drop.map fun sl => (l.filter fun p => p.1 / 8 == sl).map (·.1)).flatten
  let into := (keep.map fun sl => ((sizePositions k).map fun q => 8 * sl + q).filter fun e => l.all fun p => p.1 != e).flatten
  from_.zip into

/-- The moves of one side: 3G first, 1.5G as well when the 3G moves free no slot (R88). -/
def sideMoves (l : List (Nat × Nat)) : List (Nat × Nat) :=
  let m := packMoves l 1
  if m = [] then packMoves l 2 else m

/-- The lane delay of an ingress path in ns (R67). -/
def laneDelay (path : Nat) : Nat := if path = 0 then 700 else if path = 1 then 900 else if path = 3 then 450 else 0

namespace State

/-! ### Entries -/

/-- Change the slot store's hidden state. -/
def updFab (f : FabState → FabState) (s : State) : State := { s with fab := f s.fab }

/-- A new ingress entry of a format. -/
def Ingress.fresh (fmt : Nat) (whole : Bool) : Ingress :=
  { fmt := fmt, whole := whole, count := none, cur := none, at_ := 0, inWin := false, run := 0, cells := [],
    moveTo := none, left := none, writing := true, disp := 0 }

/-- A new egress entry of a format. -/
def Egress.fresh (fmt : Nat) (whole : Bool) : Egress :=
  { fmt := fmt, whole := whole, cur := none, timed := false, disp := 0, epoch := 0, base := none, failed := none,
    checked := false, passes := 0, counting := false, verdict := none, lane := 0, held := none, holdBad := false,
    content := false, srcGone := false, stopping := false, moveTo := none, ancFrom := [], kept := [] }

/-- An ingress entry's hidden state. -/
def ing (s : State) (e : Nat) : Ingress := Assoc.findD s.fab.ing e (Ingress.fresh 0 false)

/-- An egress entry's hidden state. -/
def egr (s : State) (e : Nat) : Egress := Assoc.findD s.fab.egr e (Egress.fresh 0 false)

/-- Change an ingress entry that is in use. -/
def updIng (e : Nat) (f : Ingress → Ingress) (s : State) : State :=
  s.updFab fun x => { x with ing := Assoc.modify x.ing e f }

/-- Change an egress entry that is in use. -/
def updEgr (e : Nat) (f : Egress → Egress) (s : State) : State :=
  s.updFab fun x => { x with egr := Assoc.modify x.egr e f }

/-- The entries of the ingress side with the size they take, the targets of moves among them. -/
def ingUse (s : State) : List (Nat × Nat) :=
  s.fab.ing.map (fun p => (p.1, if p.2.whole then 0 else s.get (Reg.FAB.ISE_CFG_SIZE p.1))) ++
    (s.fab.ing.filterMap fun p => p.2.moveTo.map fun t => (t, s.get (Reg.FAB.ISE_CFG_SIZE p.1)))

/-- The entries of the egress side. -/
def egrUse (s : State) : List (Nat × Nat) :=
  s.fab.egr.map (fun p => (p.1, if p.2.whole then 0 else s.get (Reg.FAB.ESE_CFG_SIZE p.1))) ++
    (s.fab.egr.filterMap fun p => p.2.moveTo.map fun t => (t, s.get (Reg.FAB.ESE_CFG_SIZE p.1)))

/-- The sizes held on a side, without the targets of moves, nor entries whose stream has moved. -/
def ingSizes (s : State) : List Nat :=
  (s.fab.ing.filter fun p => p.2.left == none).map fun p => if p.2.whole then 0 else s.get (Reg.FAB.ISE_CFG_SIZE p.1)
def egrSizes (s : State) : List Nat :=
  s.fab.egr.map fun p => if p.2.whole then 0 else s.get (Reg.FAB.ESE_CFG_SIZE p.1)

/-- The sizes that admitted requests still wait for (R88). -/
def ingNeed (s : State) : List Nat := s.fab.need.flatMap fun p => p.2.1
def egrNeed (s : State) : List Nat := s.fab.need.flatMap fun p => p.2.2

/-- FAB.BUDGET and FAB.OCC (R88, R92). -/
def showBudget (s : State) : State :=
  (((s.set Reg.FAB.BUDGET_INGRESS (slotCount (s.ingSizes ++ s.ingNeed))).set Reg.FAB.BUDGET_EGRESS
      (slotCount (s.egrSizes ++ s.egrNeed))).set Reg.FAB.OCC_INGRESS
      (dedup (s.fab.ing.map fun p => p.1 / 8)).length).set Reg.FAB.OCC_EGRESS
      (dedup (s.fab.egr.map fun p => p.1 / 8)).length

/-- What a request was admitted with is counted while it waits, and no longer (R29, R88). -/
def setNeed (w : CompactWait) (ins outs : List Nat) (s : State) : State :=
  (s.updFab fun x => { x with need := (x.need.filter fun p => p.1 != w) ++ [(w, ins, outs)] }).showBudget
def dropNeed (w : CompactWait) (s : State) : State :=
  (s.updFab fun x => { x with need := x.need.filter fun p => p.1 != w }).showBudget
def awaits (w : CompactWait) (s : State) : Bool := s.fab.need.any fun p => p.1 == w

/-- More entries of these sizes pass R28 in both directions. -/
def budgetFits (ins outs : List Nat) (s : State) : Bool :=
  decide (slotCount (s.ingSizes ++ s.ingNeed ++ ins) ≤ 1024) &&
    decide (slotCount (s.egrSizes ++ s.egrNeed ++ outs) ≤ 1024)

/-- Put an ingress entry in use. -/
def openIng (e size plane path handle fmt : Nat) (whole : Bool) (s : State) : State :=
  ((((((s.updFab fun x => { x with ing := Assoc.put x.ing e (Ingress.fresh fmt whole) }).set
    (Reg.FAB.ISE_CFG_VALID e) 1).set (Reg.FAB.ISE_CFG_SIZE e) size).set (Reg.FAB.ISE_CFG_PLANE e) plane).set
    (Reg.FAB.ISE_CFG_PATH e) path).set (Reg.FAB.ISE_HANDLE e) handle).showBudget

/-- Put an egress entry in use. -/
def openEgr (e size plane kind handle fmt : Nat) (whole : Bool) (s : State) : State :=
  ((((((s.updFab fun x => { x with egr := Assoc.put x.egr e (Egress.fresh fmt whole) }).set
    (Reg.FAB.ESE_CFG_VALID e) 1).set (Reg.FAB.ESE_CFG_SIZE e) size).set (Reg.FAB.ESE_CFG_PLANE e) plane).set
    (Reg.FAB.ESE_CFG_KIND e) kind).set (Reg.FAB.ESE_HANDLE e) handle).showBudget

/-- Clear the four words of an entry. -/
def clearWords (base : Nat) (s : State) : State :=
  (((s.wr base 0).wr (base + 4) 0).wr (base + 8) 0).wr (base + 12) 0

/-- Copy the four words of an entry. -/
def copyWords (from_ into : Nat) (s : State) : State :=
  (((s.wr into (s.rd from_)).wr (into + 4) (s.rd (from_ + 4))).wr (into + 8) (s.rd (from_ + 8))).wr (into + 12) (s.rd (from_ + 12))

/-- The addresses of the first words of the entries. -/
def iseBase (e : Nat) : Nat := (Reg.FAB.ISE_HANDLE e).addr - 4
def eseBase (e : Nat) : Nat := (Reg.FAB.ESE_HANDLE e).addr - 4

/-- Free an ingress entry. -/
def closeIng (e : Nat) (s : State) : State :=
  ((s.updFab fun x => { x with ing := Assoc.del x.ing e }).clearWords (iseBase e)).showBudget

/-- Free an egress entry. -/
def closeEgr (e : Nat) (s : State) : State :=
  (((s.updFab fun x => { x with egr := Assoc.del x.egr e }).clearWords (eseBase e)).wr (Reg.PROV.OUT_SAFE e).addr
    0).showBudget

/-- The egress entries that read an ingress entry (R85). -/
def readersOf (s : State) (i : Nat) : List Nat :=
  (s.fab.egr.map (·.1)).filter fun e => s.flag (Reg.FAB.ESE_SRC_SRCVALID e) && s.get (Reg.FAB.ESE_SRC_ENTRY e) == i

/-- The readers of a stream: of its entry, and of one it has moved from and that is not yet freed (R89, R90). -/
def streamReaders (s : State) (i : Nat) : List Nat :=
  s.readersOf i ++ (s.fab.ing.filter fun p => p.2.left.map (·.1) == some i).flatMap fun p => s.readersOf p.1

/-- The channel index a handle names. -/
def handleIdx (h : Nat) : Nat := bits h 27 14

/-- The ingress and egress entries of a channel. -/
def chanIng (s : State) (i : Nat) : Option Nat :=
  if s.flag (Reg.CHN.ENT_RES_INGV i) then some (s.get (Reg.CHN.ENT_RES_INGENT i)) else none
def chanEgr (s : State) (i : Nat) : Option Nat :=
  if s.flag (Reg.CHN.ENT_RES_EGV i) then some (s.get (Reg.CHN.ENT_RES_EGENT i)) else none

/-- An event of FAB no more than once per second under a key. -/
def fabLimited (key n : Nat) (items : List Nat) (s : State) : State :=
  if s.rateOk key then ({ s with lastRaise := Assoc.put s.lastRaise key s.now }).fabEvent n items else s

/-! ### Check bits of the on-chip memories (R174, R175) -/

/-- The next write to the named memory stores its check bits inverted (R175). -/
def chkinvStruck (addr : Nat) (s : State) : State :=
  if s.flag Reg.PROV.CHKINV_ARM then
    let m := s.get Reg.PROV.CHKINV_MEM
    let b := s.get Reg.PROV.CHKINV_BITS
    let s := { s with prov := { s.prov with inverted := s.prov.inverted ++ [(m, addr, b)] } }
    (((s.set Reg.PROV.CHKINV_ARM 0).set Reg.PROV.CHKINVSTAT_ADDR addr).set Reg.PROV.CHKINVSTAT_DONE 1).raise 20 [m, addr]
  else s

/-- A word is written anew: what was stored there with inverted check bits, or found uncorrectable, is gone. -/
def wordWritten (mem addr : Nat) (s : State) : State :=
  if (s.prov.inverted.any fun p => p.1 == mem && p.2.1 == addr) || s.prov.bad.contains (mem, addr) then
    { s with prov := { s.prov with inverted := s.prov.inverted.filter fun p => !(p.1 == mem && p.2.1 == addr),
                                   bad := s.prov.bad.filter fun p => p != (mem, addr) } }
  else s

/-- A write to a word of a memory meets an armed inversion of that memory. -/
def chkinvStruckAt (mem addr : Nat) (s : State) : State :=
  let s := s.wordWritten mem addr
  if s.get Reg.PROV.CHKINV_MEM = mem then s.chkinvStruck addr else s

/-- A read of a word finds this many bad bits: those flipped, or inverted when it was stored. The stored inversion is
gone after the read. -/
def wordBad (mem addr flips : Nat) (s : State) : Nat × State :=
  let inv := s.prov.inverted.filter fun p => p.1 == mem && p.2.1 == addr
  (max flips (inv.foldl (fun m p => max m p.2.2) 0),
   { s with prov := { s.prov with inverted := s.prov.inverted.filter fun p => !(p.1 == mem && p.2.1 == addr) } })

/-- A corrected error, and an uncorrectable one in a control memory (R174). -/
def sramCor (mem addr : Nat) (s : State) : State :=
  (s.bump (Reg.PROV.ECC_CORR mem) 1).raise 18 [mem, addr]
def sramUnc (mem addr : Nat) (s : State) : State :=
  (s.bump (Reg.PROV.ECC_UNCORR mem) 1).raise 19 [mem, addr]

/-- A word of a control memory is read and checked (R174): route table 2, channel table 3, scheduled-take table 4, token and PROV
tables 5, voice map 6, FLT history 11. -/
def tableRead (mem addr : Nat) (s : State) : State :=
  let q := s.wordBad mem addr 0
  (q.2.when (q.1 == 1) (sramCor mem addr)).when (decide (2 ≤ q.1)) (sramUnc mem addr)

/-! ### Compaction (R88, R89) -/

/-- A request that was admitted with entries of these sizes waits for them; when no compaction runs, one is decided and its moves
chosen. -/
def startCompaction (wait : CompactWait) (ins outs : List Nat) (s : State) : State :=
  let s := s.setNeed wait ins outs
  if s.fab.compact.isSome then s
  else
  let mi := if (allocAll s.ingUse ins).isSome then [] else sideMoves s.ingUse
  let me := if (allocAll s.egrUse outs).isSome then [] else sideMoves s.egrUse
  let s := s.each mi fun p t => t.updIng p.1 fun x => { x with moveTo := some p.2 }
  let s := s.each me fun p t => t.updEgr p.1 fun x => { x with moveTo := some p.2 }
  (s.updFab fun x => { x with compact := some wait }).set Reg.FAB.STAT_COMPACTING 1

/-- Every move of the compaction has been made. -/
def movesDone (s : State) : Bool :=
  s.fab.ing.all (fun p => p.2.moveTo == none && p.2.left == none) && s.fab.egr.all (fun p => p.2.moveTo == none)

/-- An ingress stream moves to its target entry; tokens, offsets and alignment state move with it (R89). The old entry keeps the
rest of the previous frame for its readers, until each reaches the read point of the new one; frame-sync reads and decimators
take cells as they are written and follow at once (R622). -/
def moveIng (e : Nat) (s : State) : State :=
  match (s.ing e).moveTo with
  | none => s
  | some t =>
      let x := s.ing e
      let rs := s.readersOf e
      let h := s.get (Reg.FAB.ISE_HANDLE e)
      let s := s.copyWords (iseBase e) (iseBase t)
      let s := s.updFab fun y => { y with ing := Assoc.put y.ing t { x with moveTo := none } }
      let s := if x.cur.isSome then s.updIng e fun y => { y with moveTo := none, left := some (t, s.now) }
        else (s.updFab fun y => { y with ing := Assoc.del y.ing e }).clearWords (iseBase e)
      let s := s.each (rs.filter fun r => x.cur == none || decide (5 ≤ s.get (Reg.FAB.ESE_CFG_KIND r))) fun r u =>
        u.set (Reg.FAB.ESE_SRC_ENTRY r) t
      let s := s.when (h != 0) (set (Reg.CHN.ENT_RES_INGENT (handleIdx h)) t)
      let s := s.each s.fab.fs fun p u =>
        if u.get (Reg.FAB.FS_SCFG_RETENT (p.1 / 4) (p.1 % 4)) = e ∧ p.2.chan = handleIdx h then
          u.set (Reg.FAB.FS_SCFG_RETENT (p.1 / 4) (p.1 % 4)) t else u
      s.showBudget

/-- A reader follows a stream that has moved (R89). -/
def followMove (e : Nat) (s : State) : State :=
  match (s.ing (s.get (Reg.FAB.ESE_SRC_ENTRY e))).left with
  | some t => s.set (Reg.FAB.ESE_SRC_ENTRY e) t.1
  | none => s

/-- An entry whose stream has moved is freed 15.5 µs after the frame start that moved it (R90). -/
def freeMoved (s : State) : State :=
  s.each (s.fab.ing.filter fun p => match p.2.left with | some t => decide (t.2 + 15500 ≤ s.now) | none => false) fun p u =>
    let u := u.each (u.readersOf p.1) fun r v => v.followMove r
    ((u.updFab fun y => { y with ing := Assoc.del y.ing p.1 }).clearWords (iseBase p.1)).showBudget

/-- An egress stream moves to its target entry. -/
def moveEgr (e : Nat) (s : State) : State :=
  match (s.egr e).moveTo with
  | none => s
  | some t =>
      let x := s.egr e
      let h := s.get (Reg.FAB.ESE_HANDLE e)
      let prov := s.rd (Reg.PROV.OUT_SAFE e).addr
      let s := (s.copyWords (eseBase e) (eseBase t)).clearWords (eseBase e)
      let s := (s.wr (Reg.PROV.OUT_SAFE t).addr prov).wr (Reg.PROV.OUT_SAFE e).addr 0
      let s := s.updFab fun y => { y with egr := Assoc.put (Assoc.del y.egr e) t { x with moveTo := none } }
      let s := s.when (h != 0 && s.get (Reg.FAB.ESE_CFG_KIND t) != 6) (set (Reg.CHN.ENT_RES_EGENT (handleIdx h)) t)
      let s := s.each s.fab.fs fun p u =>
        if u.get (Reg.FAB.FS_SCFG_RDENT (p.1 / 4) (p.1 % 4)) = e ∧ p.2.chan = handleIdx h then
          u.set (Reg.FAB.FS_SCFG_RDENT (p.1 / 4) (p.1 % 4)) t else u
      let s := s.each (List.range 256) fun d u =>
        if u.flag (Reg.DEC.VALID d) ∧ u.get (Reg.DEC.ESE d) = e then u.set (Reg.DEC.ESE d) t else u
      s.showBudget

/-! ### Poison and loss -/

/-- The frame-sync streams whose read entry reads an ingress entry. -/
def fsReading (s : State) (e : Nat) : List Nat :=
  (s.fab.fs.map (·.1)).filter fun k =>
    let r := s.get (Reg.FAB.FS_SCFG_RDENT (k / 4) (k % 4))
    s.flag (Reg.FAB.ESE_SRC_SRCVALID r) && s.get (Reg.FAB.ESE_SRC_ENTRY r) == e

/-- The frame in an entry is changed while it is written, and with it what its readers hold of it: the frame of the same token, be it
with the packets of an old source on its first lines (R119). -/
def amendRead (e : Nat) (up : Frame → Frame) (s : State) : State :=
  match (s.ing e).cur with
  | none => s
  | some f =>
      (s.updIng e fun x => { x with cur := some (up f) }).each (s.readersOf e) fun r t =>
        t.updEgr r fun x => { x with cur := x.cur.map fun g => if g.token = f.token then up g else g }

/-- The same, with the copies of frame-sync rings: the frame being written into a ring, and its return where it is already
being read (R76). -/
def amendFrame (e : Nat) (up : Frame → Frame) (s : State) : State :=
  match (s.ing e).cur with
  | none => s
  | some f =>
      (s.amendRead e up).each (s.fsReading e) fun k t =>
        match Assoc.find t.fab.fs k with
        | some x =>
            match x.ring with
            | r :: rs =>
                if r.frame.token = f.token ∧ r.frame.picture = f.picture then
                  (t.updFab fun y => { y with fs := Assoc.put y.fs k { x with ring := { r with frame := up r.frame } :: rs } }).when
                    (x.lastRead == some r.seq) (amendRead (t.get (Reg.FAB.FS_SCFG_RETENT (k / 4) (k % 4))) up)
                else t
            | [] => t
        | none => t

/-- The frame of an ingress entry is poisoned, once (R65, R66). -/
def poisonIng (e : Nat) (s : State) : State :=
  match (s.ing e).cur with
  | none => s
  | some f =>
      if f.poisoned then s else (s.amendFrame e fun g => { g with poisoned := true }).bump Reg.FAB.POISONCNT 1

/-- A frame-sync stream loses its input (R77). -/
def fsNoInput (key : Nat) (s : State) : State :=
  if s.get (Reg.FAB.FS_SSTAT_STATE (key / 4) (key % 4)) = 3 then s
  else (s.set (Reg.FAB.FS_SSTAT_STATE (key / 4) (key % 4)) 3).fabEvent 7 [key / 4, key % 4]

/-- An ingress entry goes to NOSIG (R71). -/
def toNosig (e : Nat) (s : State) : State :=
  if s.get (Reg.FAB.ISE_ALIGN_STATE e) = 0 then s
  else
    let s := (s.set (Reg.FAB.ISE_ALIGN_STATE e) 0).updIng e fun x => { x with cur := none, count := none, run := 0, inWin := false }
    s.each (s.fsReading e) fsNoInput

/-- The ingress path reports loss: nothing is written until the format is found again (R189, R190). -/
def pathLoss (e : Nat) (s : State) : State :=
  (s.updIng e fun x => { x with writing := false }).toNosig e

/-! ### Frame starts -/

/-- The words of slot store that an entry occupies: first word and number, 8 bytes each. -/
def entryWords (i : Nat) (s : State) : Nat × Nat :=
  (i * 384, if (s.ing i).whole then 3072 else match s.get (Reg.FAB.ISE_CFG_SIZE i) with | 0 => 3072 | 1 => 768 | _ => 384)

/-- TIMEDFR of R71: 0 acts as 1. -/
def timedFr (s : State) : Nat := max 1 (s.use Reg.FAB.WINCFG_TIMEDFR)

/-- The alignment state after a frame start (R71, R72). -/
def alignStep (e : Nat) (win : Bool) (off : Int) (s : State) : State :=
  let s := s.when (s.get (Reg.FAB.ISE_ALIGN_STATE e) == 0) (set (Reg.FAB.ISE_ALIGN_STATE e) 3)
  let st := s.get (Reg.FAB.ISE_ALIGN_STATE e)
  if win then
    let n := (s.ing e).run + 1
    let s := s.updIng e fun x => { x with run := n }
    if st ≠ 1 then
      if s.timedFr ≤ n then (s.set (Reg.FAB.ISE_ALIGN_STATE e) 1).fabEvent 0 [e] else s
    else
      let edge := s.use Reg.FAB.WINCFG_EDGE
      if 1 ≤ edge ∧ edge ≤ 6000 ∧ 3 * (edge : Int) < off.natAbs then s.fabLimited (0x72000000 + e) 2 [e] else s
  else
    let s := (s.updIng e fun x => { x with run := 0 }).bump (Reg.FAB.ISE_CNT_OUTWIN e) 1
    if st = 2 then s
    else ((s.set (Reg.FAB.ISE_ALIGN_STATE e) 2).bump (Reg.FAB.ISE_CNT_UNTIMEDCNT e) 1).fabEvent 1 [e]

/-- The ring writer of a frame-sync stream that reads the entry takes the new frame, whose start it writes at a time (R76, R622); while
it is written, at most two of the three buffers are complete (FILL). A stream shows FILLING from the first frame start written:
DESIGN CHOICE, the spec does not say when IDLE ends. -/
def fsWrite (key at_ : Nat) (f : Frame) (s : State) : State :=
  match Assoc.find s.fab.fs key with
  | none => s
  | some x =>
      let src := x.input
      let ok := match f.token with
        | some t => t.idx == src && t.sys == s.use Reg.CHN.CFG_SYSNUM
        | none => false
      let g : Frame := if ok then f else { f with tstate := 2 }
      let ring := ({ frame := g, at_ := at_, seq := x.seq } :: x.ring).take 3
      let s := s.updFab fun y =>
        { y with fs := Assoc.put y.fs key { x with ring := ring, seq := x.seq + 1 } }
      let s := (s.mediaWritten (frameBytes f.fmt (fmtNominal f.fmt))).set (Reg.FAB.FS_SSTAT_FILL (key / 4) (key % 4)) (min 2 x.ring.length)
      s.when (s.get (Reg.FAB.FS_SSTAT_STATE (key / 4) (key % 4)) != 2)
        (set (Reg.FAB.FS_SSTAT_STATE (key / 4) (key % 4)) 1)

/-- Where an ingress stream stands after a move that falls on its frame start. -/
def movedIng (s : State) (e : Nat) : Nat := ((s.ing e).moveTo).getD e

/-- A frame start reached the slot former on an entry so many thirds of a nanosecond ago (R68, R71): the offset is judged, and the
frame written. Frames that a test generator writes or a frame-sync unit returns start at offset 0 (R76, R83). -/
def storeLate (ago3 e : Nat) (f : Frame) (s : State) : State :=
  let t := s.moveIng e
  let e := s.movedIng e
  let s := t
  let p := s.get (Reg.FAB.ISE_CFG_PLANE e)
  let d := laneDelay (s.get (Reg.FAB.ISE_CFG_PATH e))
  let own := s.get (Reg.FAB.ISE_CFG_PATH e) == 6 || s.get (Reg.FAB.ISE_CFG_PATH e) == 7
  let off := if own then 0 else wrapHalf (s.planePeriod3 p) (s.planePos3 p - ago3 - 3 * (d : Int))
  let win := decide (off.natAbs ≤ 18000)
  let s := s.updIng e fun x => { x with cur := some f, at_ := s.now - ago3 / 3, inWin := win }
  let s := s.chkinvStruckAt 0 (s.entryWords e).1
  let s := s.set (Reg.FAB.ISE_ALIGN_OFFSET e) (ofSigned 28 (divFree 68 off 3))
  let s := s.alignStep e win off
  s.each (s.fsReading e) fun k t => t.fsWrite k ((t.ing e).at_ + 6000) f

/-- A frame start reaches the slot former now. -/
def storeFrame (e : Nat) (f : Frame) (s : State) : State := s.storeLate 0 e f

/-! ### Tokens (R152–R157, R176) -/

/-- An armed token injection strikes the frame issued on an entry (R176). -/
def injectToken (e : Nat) (prev : Option Nat) (t : Token) (s : State) : Token × State :=
  if s.flag Reg.PROV.TOKINJ_ARM ∧ s.get Reg.PROV.TOKINJ_ENTRY = e then
    match s.get Reg.PROV.TOKINJ_WHAT with
    | 1 => ({ t with idx := Nat.xor t.idx 1 }, s.set Reg.PROV.TOKINJ_ARM 0)
    | 2 =>
        match prev with
        | some c => ({ t with count := c }, s.set Reg.PROV.TOKINJ_ARM 0)
        | none => (t, s)
    | 3 => ({ t with digest := Nat.xor t.digest 1 }, s.set Reg.PROV.TOKINJ_ARM 0)
    | _ => (t, s)
  else (t, s)

/-- The slot former issues a token on a frame of the channel that owns an entry: COUNT is one more than the last on
the entry, 0 the first time, and fixed for a still source (R154, R157). The frame is then written. -/
def issueLate (ago3 e : Nat) (dig : Nat) (still : Bool) (f : Frame) (s : State) : State :=
  let prev := (s.ing e).count
  let c := match prev with
    | none => 0
    | some n => if still then n else (n + 1) % 65536
  let t : Token := { sys := s.use Reg.CHN.CFG_SYSNUM, idx := handleIdx (s.get (Reg.FAB.ISE_HANDLE e)), count := c, digest := dig }
  let r := s.injectToken e prev t
  let e' := s.movedIng e
  ((r.2.storeLate ago3 e { f with token := some r.1 }).updIng e' fun x => { x with count := some r.1.count }).chkinvStruckAt 5 (8192 + e')

/-- A frame whose start is now is issued. -/
def issueFrame (e : Nat) (dig : Nat) (still : Bool) (f : Frame) (s : State) : State := s.issueLate 0 e dig still f

/-- The idle frame of R128 in a format, with token state NOSRC and the source ID of the channel that sends it. -/
def idleFrame (fmt idx : Nat) (s : State) : Frame :=
  let p := blackPicture fmt
  { fmt := fmt, token := some { sys := s.use Reg.CHN.CFG_SYSNUM, idx := idx, count := 0, digest := digest p },
    tstate := 1, poisoned := false, picture := p, anc := [] }

/-! ### Frame-sync readers -/

/-- DRAM misses a line of the frame being returned (R78). -/
def fsLate (u k : Nat) (s : State) : State :=
  ((s.poisonIng (s.get (Reg.FAB.FS_SCFG_RETENT u k))).bump (Reg.FAB.FS_LATE u k) 1).fabEvent 6 [u, k]

/-- At a frame instant of its plane a stream chooses the newest frame whose start was written 64 µs before (R76), and
returns it with a derived token (R157, R159). In NOINPUT the return carries no frames from this instant (R77), and its entry shows
NOSIG at once: DESIGN CHOICE, R71 names 2 frame periods for frames that stop arriving and R77 gives the return no time. -/
def fsSelect (key : Nat) (s : State) : State :=
  match Assoc.find s.fab.fs key with
  | none => s
  | some x =>
      let u := key / 4
      let k := key % 4
      if s.get (Reg.FAB.FS_SSTAT_STATE u k) = 3 then
        let e := s.get (Reg.FAB.FS_SCFG_RETENT u k)
        ((s.updFab fun y => { y with fs := Assoc.put y.fs key { x with ring := [], lastRead := none, returns := 0 } }).set
          (Reg.FAB.FS_SSTAT_FILL u k) 0).toNosig e
      else
        match x.ring.find? fun r => decide (r.at_ + 64000 ≤ s.now) with
        | none => s
        | some r =>
            let again := x.lastRead == some r.seq
            let skipped := match x.lastRead with
              | some q => decide (q + 1 < r.seq)
              | none => false
            let n := if again then x.returns + 1 else 1
            let run := s.get (Reg.FAB.FS_SSTAT_STATE u k) == 2
            let broken := run && decide (3 ≤ n)
            let s := s.updFab fun y => { y with fs := Assoc.put y.fs key { x with lastRead := some r.seq, returns := n } }
            let s := (s.set (Reg.FAB.FS_SSTAT_STATE u k) 2).set (Reg.FAB.FS_SSTAT_DELAY u k) (divFree 76 (s.now - r.at_ : Nat) 1000).toNat
            let s := s.when skipped fun t =>
              (t.bump (Reg.FAB.FS_SCNT_DROPS u k) (r.seq - x.lastRead.getD r.seq - 1)).fabEvent 4 [u, k]
            let s := s.when again fun t => (t.bump (Reg.FAB.FS_SCNT_REPEATS u k) 1).fabEvent 5 [u, k]
            let e := s.get (Reg.FAB.FS_SCFG_RETENT u k)
            let f : Frame := { r.frame with tstate := if broken then 2 else r.frame.tstate }
            let dig := match r.frame.token with | some t => t.digest | none => digest r.frame.picture
            (s.issueFrame e dig false f).when (!s.dramUp) (fsLate u k)

/-! ### Reading -/

/-- A source has a frame at a read point: its entry has a signal and its newest frame start is less than a frame
period old (R128). -/
def frameAt (i : Nat) (s : State) : Option Frame :=
  let x := s.ing i
  if s.get (Reg.FAB.ISE_ALIGN_STATE i) = 0 then none
  else if 3 * (s.now - x.at_) < fmtPeriod3 x.fmt then x.cur else none

/-- A word of the slot store is read with this many bad bits (R66, R174). -/
def storeWord (i bad : Nat) (s : State) : State :=
  if bad = 0 then s
  else if bad = 1 then ((s.bump Reg.FAB.ECCCNT_CORR 1).sramCor 0 (s.entryWords i).1).fabEvent 9 [i]
  else (((s.bump Reg.FAB.ECCCNT_UNCORR 1).bump (Reg.PROV.ECC_UNCORR 0) 1).poisonIng i).fabEvent 10 [i]

/-- A read of a slot-store entry through its ECC (R66, R175): the flipped bits of each word struck, and words stored with inverted
check bits; each such word is an error of its own. -/
def storeEcc (i : Nat) (flips : List Nat) (s : State) : State :=
  let r := s.entryWords i
  let inv := s.prov.inverted.filter fun p => p.1 == 0 && decide (r.1 ≤ p.2.1) && decide (p.2.1 < r.1 + r.2)
  let s := { s with prov := { s.prov with inverted := s.prov.inverted.filter fun p => !(inv.contains p) } }
  s.each (flips ++ inv.map fun p => p.2.2) fun k t => t.storeWord i k

/-- How far an untimed read displaces the picture (R70), in thirds of a ns: its cells leave 6,000 ns after each was written, where a timed
frame leaves 6,000 ns and the lane delay after the frame instant of the output's plane (R69), so the picture stands off by the
source's timing error against that plane. -/
def readDisp (e i : Nat) (s : State) : Int :=
  let p := s.get (Reg.FAB.ESE_CFG_PLANE e)
  wrapHalf (s.planePeriod3 p)
    (s.planePos3 p - 3 * ((s.now : Int) - (s.ing i).at_) - 3 * (laneDelay (s.get (Reg.FAB.ISE_CFG_PATH i)) : Int))

/-- The reader of an output or converter input takes its frame at its read point (R69, R70, R127, R128), from the entry its
stream moved to (R90). `flips` are the bad bits of words struck, `slips` the cells dropped or repeated to hold the lag. -/
def readPoint (e : Nat) (flips : List Nat) (slips epoch : Nat) (s : State) : State :=
  let start := fun (t : State) (f : Option Frame) (timed : Bool) (d : Int) =>
    t.updEgr e fun x => { x with cur := f, timed := timed, disp := d, epoch := epoch, failed := none, checked := false, kept := [] }
  if s.flag (Reg.FAB.ESE_SRC_SRCVALID e) then
    let s := s.followMove e
    let i := s.get (Reg.FAB.ESE_SRC_ENTRY e)
    let s := s.storeEcc i flips
    match s.frameAt i with
    | none => start s none false 0
    | some f =>
        let timed := (s.ing i).inWin && s.get (Reg.FAB.ISE_CFG_PLANE i) == s.get (Reg.FAB.ESE_CFG_PLANE e)
        let g : Frame := if !timed && slips != 0 then { f with picture := Config.slipped f.fmt f.picture slips } else f
        let s := (start s (some g) timed ((if timed then 0 else s.readDisp e i) + (s.ing i).disp)).setB (Reg.FAB.ESE_SRC_UNTIMED e) (!timed)
        s.when (!timed && slips != 0) fun t =>
          (t.bump (Reg.FAB.ESE_SLIPCNT e) slips).fabLimited (0x70000000 + e) 3 [e]
  else start s none false 0

/-- A frame-sync read or a decimator reads the cells of its source through the store's ECC (R66, R622). -/
def storeRead (e : Nat) (flips : List Nat) (s : State) : State :=
  if s.flag (Reg.FAB.ESE_SRC_SRCVALID e) then s.storeEcc (s.get (Reg.FAB.ESE_SRC_ENTRY e)) flips else s

/-- A cell is written; one that would overwrite unread cells is discarded and poisons the frame (R65). A cell stays
unread for the 15,515 ns an entry holds. -/
def cellWrite (e : Nat) (s : State) : State :=
  let cap := if (s.ing e).whole then 96 else match s.get (Reg.FAB.ISE_CFG_SIZE e) with | 0 => 96 | 1 => 24 | _ => 12
  let live := (s.ing e).cells.filter fun t => decide (s.now < t + 15515)
  if live.length < cap then (s.updIng e fun x => { x with cells := live ++ [s.now] }).chkinvStruckAt 0 (s.entryWords e).1
  else ((s.updIng e fun x => { x with cells := live }).poisonIng e).fabEvent 11 [e]

end State

end Sys2Proof.Machine
end

