-- ==== Sys2Proof/Machine/Handles.lean ====
section
/-! DEFINITION. Chapter 4: handles and how they are judged (R96–R98), and the lookups of channels that other chapters
need. -/

namespace Sys2Proof.Machine

namespace State

/-- Change the channel table's hidden state. -/
def updChn (f : ChnState → ChnState) (s : State) : State := { s with chn := f s.chn }

/-- The kind, and the generation of a handle. -/
def handleKind (h : Nat) : Nat := bits h 31 28
def handleGen (h : Nat) : Nat := bits h 13 0

/-- A handle (R96). -/
def mkHandle (kind idx gen : Nat) : Nat := kind * 2 ^ 28 + idx * 2 ^ 14 + gen % 16384

/-- An entry is LIVE. -/
def isLive (i : Nat) (s : State) : Bool := s.get (Reg.CHN.ENT_STATE_STATE i) == 1

/-- The judgement of a handle where the kinds listed may stand (R97): 0, or the result code. -/
def judgeHandle (h : Nat) (kinds : List Nat) (s : State) : Nat :=
  let k := handleKind h
  let i := handleIdx h
  let e := s.get (Reg.CHN.ENT_HANDLE i)
  if k = 0 ∨ 10 < k then 2
  else if !s.isLive i ∨ handleGen e ≠ handleGen h then 3
  else if handleKind e ≠ k then 2
  else if kinds.contains k then 0
  else 4

/-- Every kind that names a channel. -/
def anyKind : List Nat := [1, 2, 3, 4, 5, 6, 7, 8, 9, 10]

/-- HANDLE_STALE, no more than once per second for each session (R97); the mailbox of CHN counts as session 0. -/
def staleEvent (session h : Nat) (s : State) : State := s.raiseLimited (0x590000000000 + session) 89 [h, session]

/-- The session that a request counts for: that of the JRP command under way, else one for each PEER of the take mailbox. -/
def reqSession (peer : Nat) (s : State) : Nat := if s.twin.ctx.session = 0 then 2 ^ 32 + peer else s.twin.ctx.session

/-- The session of a request to a mailbox that no peer is named at. -/
def boxSession (s : State) : Nat := s.twin.ctx.session

/-- The event of a result, when it is HANDLE_STALE. -/
def staleIf (code session h : Nat) (s : State) : State := s.when (code == 3) (staleEvent session h)

/-- A channel record. -/
def chan (s : State) (i : Nat) : Option Chan := Assoc.find s.chn.chans i

/-- Change a channel record. -/
def updChan (i : Nat) (f : Chan → Chan) (s : State) : State :=
  s.updChn fun x => { x with chans := Assoc.modify x.chans i f }

/-- An argument word of a channel's creation. -/
def chanArg (s : State) (i j : Nat) : Nat :=
  match s.chan i with
  | some c => c.args.getD j 0
  | none => 0

/-- The declared format word of a channel: of its result, for a converter; of its input, for a frame-sync binding. -/
def chanFmt (s : State) (i : Nat) : Nat :=
  match s.chan i with
  | some c =>
      if c.kind = 7 then c.args.getD 2 0
      else if c.kind = 9 then s.chanArg (handleIdx (c.args.getD 1 0)) 1
      else c.args.getD 1 0
  | none => 0

/-- The source field of a video channel (R81). -/
def srcField (args : List Nat) : Nat := bits (args.getD 0 0) 13 12

/-- The video-in that a frame-sync binding is bound to. -/
def fsInput (s : State) (i : Nat) : Nat := handleIdx (s.chanArg i 1)

/-- Live channels, in index order. -/
def liveChans (s : State) : List Nat := (s.chn.chans.filter fun p => p.2.live).map (·.1)

/-- The source of a converter's input, or of an output: the handle the route table holds. -/
def routeOf (s : State) (i : Nat) : Nat := s.get (Reg.FAB.RT_CUR i)

/-- The chain of converters that a source handle is followed back through (R120, R253): the converter indices passed
and the handle it ends at. -/
def converterWalk (s : State) : Nat → Nat → List Nat × Nat
  | 0, h => ([], h)
  | n + 1, h =>
      if handleKind h = 7 then
        let r := s.converterWalk n (s.routeOf (handleIdx h))
        (handleIdx h :: r.1, r.2)
      else ([], h)

/-- An egress entry is pointed at the source handle of a route (none: no source). -/
def repoint (e h : Nat) (s : State) : State :=
  match (if h = 0 then none else s.chanIng (handleIdx h)) with
  | some i => (s.set (Reg.FAB.ESE_SRC_SRCVALID e) 1).set (Reg.FAB.ESE_SRC_ENTRY e) i
  | none => (s.set (Reg.FAB.ESE_SRC_SRCVALID e) 0).set (Reg.FAB.ESE_SRC_ENTRY e) 0

/-- The result registers of the request mailbox (R95). -/
def chnResult (code : Nat) (s : State) : State :=
  ((s.set Reg.CHN.RESULT_DONE 1).set Reg.CHN.RESULT_CODE code).set Reg.CHN.STAT_REQBUSY 0

/-- An argument of the request mailbox. -/
def reqArg (s : State) (j : Nat) : Nat := s.get (Reg.CHN.REQARG j)

end State

end Sys2Proof.Machine
end

