-- ==== Sys2Proof/Machine/Takes.lean ====
section
/-! DEFINITION. Chapter 5: the take engine. Takes, locks, scheduled takes, salvos, latch points, switch instants and
the completion queue. -/

namespace Sys2Proof.Machine

namespace State

/-! ### The completion queue (R126, R150) -/

/-- The head record and the count, as the registers show them. -/
def showTcq (s : State) : State :=
  let s := s.set Reg.FAB.TCQSTAT_COUNT s.fab.tcq.length
  match s.fab.tcq with
  | [] => s
  | c :: _ =>
      ((((((s.set Reg.FAB.TCQ0 c.out).set Reg.FAB.TCQ1_CODE c.code).set Reg.FAB.TCQ1_FLAGS c.flags).set
        Reg.FAB.TCQ1_EPOCH c.epoch).set Reg.FAB.TCQ2_REF c.ref).set Reg.FAB.TCQ2_PEER c.peer).set Reg.FAB.TCQ3 c.tsw

/-- A record enters the queue at its end; records of one switch instant stand in order of their outputs' channel indices
(R147). -/
def tcqInsert (c : Completion) (l : List Completion) : List Completion :=
  let n := (l.reverse.takeWhile fun x => x.tsw == c.tsw && decide (handleIdx c.out < handleIdx x.out)).length
  l.take (l.length - n) ++ [c] ++ l.drop (l.length - n)

/-- A completion record enters the queue, or is lost when it holds 256. -/
def complete (i : Nat) (code flags : Nat) (t : TakeRec) (tsw : Nat) (s : State) : State :=
  let c : Completion :=
    { out := s.get (Reg.CHN.ENT_HANDLE i), code := code, flags := flags, epoch := s.get (Reg.FAB.RT_EPOCH i),
      ref := t.ref, peer := t.peer, tsw := tsw % 2 ^ 32 }
  if s.fab.tcq.length < 256 then (s.updFab fun x => { x with tcq := tcqInsert c x.tcq }).showTcq
  else (s.set Reg.FAB.TCQSTAT_OVF 1).raise 998 [c.out]

/-- The head record is removed; ignored when the queue is empty. -/
def tcqPop (s : State) : State := (s.updFab fun x => { x with tcq := x.tcq.drop 1 }).showTcq

/-! ### Times of an output -/

/-- The egress entry of an output channel. -/
def outEgr (s : State) (i : Nat) : Nat := (s.chanEgr i).getD 0

/-- The format whose switch line an output uses: of a converter, its input format. -/
def outFmt (s : State) (i : Nat) : Nat := s.chanArg i 1

/-- TIME at the coming switch instant of an output (R119), in ns; its rounding from thirds is open. -/
def nextSwitch (s : State) (i : Nat) : Nat :=
  let p := s.get (Reg.FAB.ESE_CFG_PLANE (s.outEgr i))
  let left := ((switchLead3 (s.outFmt i) : Int) - s.planePos3 p) % (s.planePeriod3 p : Int)
  (divFree 126 (3 * (s.timeNs : Int) + left) 3).toNat

/-- CUTOFF in ns (R123): 0–49 act as 50, 1001–1023 as 1000. -/
def cutoffNs (s : State) : Nat := max 50 (min 1000 (s.use Reg.FAB.TAKECFG)) * 1000

/-- The first switch instant of an output at or after a time (R141). -/
def firstSwitchFrom (s : State) (i : Nat) (t : Nat) : Int :=
  let n : Int := s.nextSwitch i
  let p3 : Int := s.planePeriod3 (s.get (Reg.FAB.ESE_CFG_PLANE (s.outEgr i)))
  let k := (3 * ((t : Int) - n) + p3 - 1) / p3
  n + divFree 141 (k * p3) 3

/-! ### Take slots -/

/-- The take slots of an output. -/
def outTakes (s : State) (i : Nat) : OutTakes := Assoc.findD s.fab.outs i { pend := none, lat := none }

/-- Show the take slots in the route record. -/
def showSlots (i : Nat) (s : State) : State :=
  let o := s.outTakes i
  let s := match o.pend with
    | some t => ((s.set (Reg.FAB.RT_PEND i) t.src).set (Reg.FAB.RT_PENDV i) 1).setB (Reg.FAB.RT_PNOSRC i) (t.src == 0)
    | none => ((s.set (Reg.FAB.RT_PEND i) 0).set (Reg.FAB.RT_PENDV i) 0).set (Reg.FAB.RT_PNOSRC i) 0
  match o.lat with
  | some t => (s.set (Reg.FAB.RT_LATSRC i) t.src).set (Reg.FAB.RT_LATV i) 1
  | none => (s.set (Reg.FAB.RT_LATSRC i) 0).set (Reg.FAB.RT_LATV i) 0

/-- Put the take slots of an output. -/
def putSlots (i : Nat) (o : OutTakes) (s : State) : State :=
  ((s.updFab fun x => { x with outs := Assoc.set x.outs i o { pend := none, lat := none } }).showSlots i).chkinvStruckAt 2 i

/-- A take is superseded (R124, R134). -/
def superseded (i : Nat) (t : TakeRec) (s : State) : State :=
  (s.complete i 20 t.flags t s.timeNs).bump (Reg.FAB.RT_SUPCNT i) 1

/-- SCHED.USED. -/
def showSched (s : State) : State := s.set Reg.FAB.SCHED s.fab.sched.length

/-- The use count of a scheduled-take entry (R133). -/
def schedUseOf (s : State) (k : Nat) : Nat := Assoc.findD s.fab.schedUse k 0

/-- The schedule ID of an entry. -/
def schedId (s : State) (k : Nat) : Nat := k + s.schedUseOf k * 4096

/-- A scheduled-take entry is freed, and its use count advances (R133). -/
def freeSched (k : Nat) (s : State) : State :=
  ((s.updFab fun x =>
    { x with sched := Assoc.del x.sched k, schedUse := Assoc.put x.schedUse k ((s.schedUseOf k + 1) % 16) }).showSched).chkinvStruckAt 4 k

/-! ### Salvo store -/

/-- SALV shows the salvos and the takes held. -/
def showSalvos (s : State) : State :=
  (s.set Reg.FAB.SALV_SALVOS s.fab.salvos.length).set Reg.FAB.SALV_TAKES
    (sumList (s.fab.salvos.map fun p => p.2.takes.length))

/-- The takes of a salvo, as output index and source handle. -/
def salvoTakes (s : State) (v : Nat) : List (Nat × Nat) :=
  match Assoc.find s.fab.salvos v with
  | some x => x.takes.map fun t => (handleIdx t.out, if t.nosrc then 0 else t.src)
  | none => []

/-- The channels a salvo names, each once. -/
def salvoChans (v : Salvo) : List Nat :=
  dedup ((v.takes.map fun t => [handleIdx t.out] ++ (if t.nosrc then [] else [handleIdx t.src])).flatten)

/-- Change the count of references of channels (R102). -/
def addRefs (l : List Nat) (s : State) : State :=
  s.each l fun i t => t.set (Reg.CHN.ENT_STATE_REFS i) (t.get (Reg.CHN.ENT_STATE_REFS i) + 1)
def dropRefs (l : List Nat) (s : State) : State :=
  s.each l fun i t => t.set (Reg.CHN.ENT_STATE_REFS i) (t.get (Reg.CHN.ENT_STATE_REFS i) - 1)

/-- A salvo leaves the store. -/
def dropSalvo (v : Nat) (s : State) : State :=
  match Assoc.find s.fab.salvos v with
  | none => s
  | some x =>
      ((s.when x.armed.isSome (dropRefs (salvoChans x))).updFab fun y =>
        { y with salvos := Assoc.del y.salvos v }).showSalvos

/-! ### Judging (R120) -/

/-- A source handle's kinds as a take's source, and the kinds of an output. -/
def srcKinds : List Nat := [1, 7, 8, 9]
def outKinds : List Nat := [2, 7]

/-- Steps 2 to 6 of R120. -/
def judgeTake (out src epoch peer : Nat) (nosrc : Bool) (s : State) : Nat :=
  if epoch ≠ s.get Reg.CHN.EPOCH then 3
  else
    let a := s.judgeHandle out anyKind
    let b := if nosrc then 0 else s.judgeHandle src anyKind
    if a ≠ 0 then a
    else if b ≠ 0 then b
    else if !outKinds.contains (handleKind out) ∨ (!nosrc ∧ !srcKinds.contains (handleKind src)) then 4
    else
      let i := handleIdx out
      let e := s.outEgr i
      if !nosrc ∧ s.get (Reg.FAB.ISE_CFG_SIZE ((s.chanIng (handleIdx src)).getD 0)) ≠ s.get (Reg.FAB.ESE_CFG_SIZE e) then 11
      else if !nosrc ∧ (s.converterWalk 64 src).1.contains i then 14
      else if s.flag (Reg.FAB.RT_LOCK i) then 22
      else if s.flag (Reg.FAB.RT_PROTECT i) ∧ s.get (Reg.FAB.RT_OWNER i) ≠ peer then 23
      else 0

/-- The result of a take-mailbox request (R121). -/
def takeResult (code index : Nat) (s : State) : State :=
  ((s.set Reg.FAB.TAKERES_DONE 1).set Reg.FAB.TAKERES_CODE code).set Reg.FAB.TAKERES_INDEX index

/-- A take-mailbox argument. -/
def takeArg (s : State) (j : Nat) : Nat := s.get (Reg.FAB.TAKEARG j)

/-- The source a take names: 0 with NOSRC. -/
def takeSrc (s : State) : Nat := if bit (s.takeArg 4) 0 then 0 else s.takeArg 1

/-- The instant of a take or of an ARM. -/
def takeInstant (s : State) : Nat := s.takeArg 2 + s.takeArg 3 * 2 ^ 32

/-- Put an immediate take in the pending slot (R124). -/
def pendTake (i : Nat) (t : TakeRec) (s : State) : State :=
  let o := s.outTakes i
  let s := match o.pend with
    | some old => s.superseded i old
    | none => s
  s.putSlots i { o with pend := some t }

/-- TAKE (R120, R121, R133). -/
def opTake (peer : Nat) (s : State) : State :=
  let out := s.takeArg 0
  let nosrc := bit (s.takeArg 4) 0
  let code := s.judgeTake out (s.takeArg 1) (s.takeArg 5) peer nosrc
  let s := s.staleIf code (s.reqSession peer) out
  if code ≠ 0 then s.takeResult code 0
  else
    let i := handleIdx out
    let now := s.timeNs
    let inst := s.takeInstant
    if inst ≠ 0 ∧ now < inst then
      match (List.range 4096).find? fun k => Assoc.find s.fab.sched k == none with
      | none => (s.raise 997 [out]).takeResult 5 0
      | some k =>
          let id := s.schedId k
          let t : TakeRec := { src := s.takeSrc, accepted := now, peer := peer, ref := id, flags := 0 }
          let r : SchedTake := { out := i, instant := inst, stepped := false, latched := false, take := t }
          ((((s.updFab fun x => { x with sched := Assoc.put x.sched k r }).showSched).chkinvStruckAt 4 k).set Reg.FAB.TAKEID id).takeResult 0 0
    else
      let t : TakeRec := { src := s.takeSrc, accepted := now, peer := peer, ref := 0, flags := if inst = 0 then 0 else 16 }
      ((s.pendTake i t).set Reg.FAB.TAKEID 0).takeResult 0 0

/-- The epoch of the mailbox is judged for every OP (R98, R120). -/
def takeEpochOk (s : State) : Bool := s.takeArg 5 == s.get Reg.CHN.EPOCH

/-- CANCEL (R135). -/
def opCancel (s : State) : State :=
  let id := s.takeArg 0 % 65536
  let k := id % 4096
  let s := s.tableRead 4 k
  match Assoc.find s.fab.sched k with
  | some x =>
      if s.schedId k = id ∧ !x.latched then
        (((s.complete x.out 19 x.take.flags x.take s.timeNs).freeSched k)).takeResult 0 0
      else s.takeResult 11 0
  | none => s.takeResult 11 0

/-- The output that a lock request names, or the code that refuses it (R97, R131). -/
def lockTarget (s : State) : Nat :=
  let h := s.takeArg 0
  if !s.takeEpochOk then 3
  else
    let a := s.judgeHandle h anyKind
    if a ≠ 0 then a else if outKinds.contains (handleKind h) then 0 else 4

/-- The state of another peer on an output refuses a request (R131). -/
def lockHeld (i peer : Nat) (s : State) : Nat :=
  if s.get (Reg.FAB.RT_OWNER i) = peer then 0
  else if s.flag (Reg.FAB.RT_LOCK i) then 22
  else if s.flag (Reg.FAB.RT_PROTECT i) then 23
  else 0

/-- An armed salvo of another peer names an output (R131). -/
def salvoHolds (i peer : Nat) (s : State) : Bool :=
  s.fab.salvos.any fun p => p.2.armed.isSome && p.2.peer != peer && p.2.takes.any fun t => handleIdx t.out == i && !t.done

/-- Pending and scheduled takes of an output that a new state refuses are cancelled with its result (R132). -/
def cancelRefused (i code : Nat) (refuses : TakeRec → Bool) (s : State) : State :=
  let o := s.outTakes i
  let s := match o.pend with
    | some t => if refuses t then (s.complete i code t.flags t s.timeNs).putSlots i { o with pend := none } else s
    | none => s
  s.each (s.fab.sched.filter fun p => p.2.out == i && !p.2.latched && refuses p.2.take) fun p t =>
    (t.complete i code p.2.take.flags p.2.take t.timeNs).freeSched p.1

/-- LOCK and PROTECT (R131, R132). -/
def opApply (lock : Bool) (peer : Nat) (s : State) : State :=
  let h := s.takeArg 0
  let code := s.lockTarget
  let s := s.staleIf code (s.reqSession peer) h
  if code ≠ 0 then s.takeResult code 0
  else
    let i := handleIdx h
    let held := s.lockHeld i peer
    if held ≠ 0 then s.takeResult held 0
    else if s.salvoHolds i peer then s.takeResult 13 0
    else
      let s := ((s.set (if lock then Reg.FAB.RT_LOCK i else Reg.FAB.RT_PROTECT i) 1).set (Reg.FAB.RT_OWNER i) peer).chkinvStruckAt 2 i
      let s := if lock then s.cancelRefused i 22 fun _ => true else s.cancelRefused i 23 fun t => t.peer != peer
      s.takeResult 0 0

/-- UNLOCK and UNPROTECT (R131). -/
def opRemove (lock : Bool) (peer : Nat) (s : State) : State :=
  let h := s.takeArg 0
  let code := s.lockTarget
  let s := s.staleIf code (s.reqSession peer) h
  if code ≠ 0 then s.takeResult code 0
  else
    let i := handleIdx h
    let r := if lock then Reg.FAB.RT_LOCK i else Reg.FAB.RT_PROTECT i
    if s.flag r ∧ s.get (Reg.FAB.RT_OWNER i) ≠ peer then s.takeResult (if lock then 22 else 23) 0
    else
      let s := (s.set r 0).chkinvStruckAt 2 i
      (s.when (!s.flag (Reg.FAB.RT_LOCK i) && !s.flag (Reg.FAB.RT_PROTECT i)) (set (Reg.FAB.RT_OWNER i) 0)).takeResult 0 0

/-- A class M command removes either state from any output (R131). -/
def forceClear (i : Nat) (s : State) : State :=
  (((s.set (Reg.FAB.RT_LOCK i) 0).set (Reg.FAB.RT_PROTECT i) 0).set (Reg.FAB.RT_OWNER i) 0).chkinvStruckAt 2 i

/-! ### Salvos -/

/-- OPEN (R139). -/
def opOpen (peer : Nat) (s : State) : State :=
  let gid := s.takeArg 0
  if !s.takeEpochOk then (s.staleEvent (s.reqSession peer) gid).takeResult 3 0
  else
    match s.fab.salvos.find? fun p => p.2.gid == gid with
    | some p => (s.set Reg.FAB.TAKEID p.1).takeResult 0 0
    | none =>
        match (List.range 32).find? fun v => Assoc.find s.fab.salvos v == none with
        | none => (s.raise 997 [gid]).takeResult 5 0
        | some v =>
            let x : Salvo := { gid := gid, opened := s.now, peer := peer, takes := [], armed := none, committed := none, stepped := false }
            (((s.updFab fun y => { y with salvos := Assoc.put y.salvos v x }).showSalvos).set Reg.FAB.TAKEID v).takeResult 0 0

/-- The salvo that the mailbox names. -/
def salvoArg (s : State) : Nat := s.takeArg 0 % 32

/-- ADD (R139). -/
def opAdd (peer : Nat) (s : State) : State :=
  let v := s.salvoArg
  if !s.takeEpochOk then (s.staleEvent (s.reqSession peer) v).takeResult 3 0
  else
    match Assoc.find s.fab.salvos v with
    | none => s.takeResult 11 0
    | some x =>
        if x.armed.isSome then s.takeResult 11 0
        else if 8192 ≤ s.get Reg.FAB.SALV_TAKES ∨ 1024 ≤ x.takes.length then (s.raise 997 [x.gid]).takeResult 5 0
        else
          let t : SalvoTake := { out := s.takeArg 1, src := s.takeArg 2, epoch := s.takeArg 5, latched := false, late := false,
                                 done := false, nosrc := bit (s.takeArg 4) 0 }
          ((s.updFab fun y => { y with salvos := Assoc.put y.salvos v { x with takes := x.takes ++ [t] } }).showSalvos).takeResult 0 0

/-- The first failure of a salvo's takes under R120, with its position. -/
def judgeSalvoTakes (peer : Nat) (s : State) : Nat → List SalvoTake → Option (Nat × Nat)
  | _, [] => none
  | n, t :: ts =>
      let c := s.judgeTake t.out t.src t.epoch peer t.nosrc
      if c = 0 then s.judgeSalvoTakes peer (n + 1) ts else some (c, n)

/-- The position of the first take whose output stands before it, or in another armed salvo. -/
def repeatAt : Nat → List Nat → List SalvoTake → Option Nat
  | _, _, [] => none
  | n, seen, t :: ts => if seen.contains (handleIdx t.out) then some n else repeatAt (n + 1) (seen ++ [handleIdx t.out]) ts
def clashAt (others : List Nat) : Nat → List SalvoTake → Option Nat
  | _, [] => none
  | n, t :: ts => if others.contains (handleIdx t.out) then some n else clashAt others (n + 1) ts

/-- Outputs named by other armed salvos; an output whose take of a committed salvo has executed is named by it no longer (DESIGN CHOICE,
R140 and R131 do not say until when a salvo names its outputs). -/
def armedOutputs (v : Nat) (s : State) : List Nat :=
  ((s.fab.salvos.filter fun p => p.1 != v && p.2.armed.isSome).map fun p =>
    (p.2.takes.filter fun t => !t.done).map fun t => handleIdx t.out).flatten

/-- The lead that an ARM must have (R143), in ns; the chip's "own outputs" are taken to be those the salvo's part names (DESIGN
CHOICE). -/
def armLead (x : Salvo) (minlead : Nat) (s : State) : Nat :=
  x.takes.foldl (fun m t =>
    max m ((2 * s.planePeriod3 (s.get (Reg.FAB.ESE_CFG_PLANE (s.outEgr (handleIdx t.out)))) + 2) / 3)) (minlead * 1000)

/-- The judgement of a whole salvo (R140): the code and the position, 0 when it is armed. -/
def judgeSalvo (v peer : Nat) (x : Salvo) (s : State) : Nat × Nat :=
  match s.judgeSalvoTakes peer 0 x.takes with
  | some r => r
  | none =>
      match repeatAt 0 [] x.takes with
      | some n => (11, n)
      | none =>
          match clashAt (s.armedOutputs v) 0 x.takes with
          | some n => (12, n)
          | none =>
              if x.takes = [] then (17, 0)
              else if s.takeInstant ≠ 0 ∧ s.takeInstant < s.timeNs + s.armLead x (bits (s.takeArg 4) 19 0) then (21, 0)
              else (0, 0)

/-- ARM (R140, R143). -/
def opArm (peer : Nat) (s : State) : State :=
  let v := s.salvoArg
  if !s.takeEpochOk then (s.staleEvent (s.reqSession peer) v).takeResult 3 0
  else
    match Assoc.find s.fab.salvos v with
    | none => s.takeResult 11 0
    | some x =>
        if x.armed.isSome then s.takeResult 0 0
        else
          let r := s.judgeSalvo v peer x
          let s := s.staleIf r.1 (s.reqSession peer) x.gid
          if r.1 ≠ 0 then ((s.when (r.1 == 21) (raise 994 [x.gid])).dropSalvo v).takeResult r.1 r.2
          else
            ((s.updFab fun y =>
              { y with salvos := Assoc.put y.salvos v { x with peer := peer, armed := some (s.takeInstant, s.timeNs) } }).addRefs
                (salvoChans x)).takeResult 0 0

/-- COMMIT (R141, R142, R144). -/
def opCommit (peer : Nat) (s : State) : State :=
  let v := s.salvoArg
  if !s.takeEpochOk then (s.staleEvent (s.reqSession peer) v).takeResult 3 0
  else
    match Assoc.find s.fab.salvos v with
    | none => s.takeResult 25 0
    | some x =>
        match x.armed with
        | none => s.takeResult 25 0
        | some a =>
            if x.committed.isSome then s.takeResult 0 0
            else
              let now := s.timeNs
              let eff := if a.1 = 0 then now else a.1
              let ts := x.takes.map fun t =>
                { t with late := decide (s.firstSwitchFrom (handleIdx t.out) eff - s.cutoffNs < (now : Int)) }
              let s := s.updFab fun y =>
                { y with salvos := Assoc.put y.salvos v { x with takes := ts, committed := some (eff, now) } }
              (s.when (ts.any fun t => t.late) (raise 995 [x.gid])).takeResult 0 0

/-- ABORT (R142). -/
def opAbort (peer : Nat) (s : State) : State :=
  let v := s.salvoArg
  if !s.takeEpochOk then (s.staleEvent (s.reqSession peer) v).takeResult 3 0
  else
    match Assoc.find s.fab.salvos v with
    | none => s.takeResult 25 0
    | some x => if x.committed.isSome then s.takeResult 25 0 else (s.dropSalvo v).takeResult 0 0

/-- A salvo opened and not armed within 1 s is discarded (R139). Before that time the command has no effect. -/
def salvoOpenExpire (v : Nat) (s : State) : State :=
  match Assoc.find s.fab.salvos v with
  | some x => if x.armed.isNone ∧ x.opened + 1000000000 ≤ s.now then (s.dropSalvo v).raise 996 [x.gid] else s
  | none => s

/-- The instant by which an armed salvo must be committed or aborted (R142), in TIME: 1 s after its own, or after the arm. -/
def salvoLimit (a : Nat × Nat) : Nat := (if a.1 = 0 then a.2 else a.1) + 1000000000

/-- A salvo armed and neither committed nor aborted in time is discarded (R142). Before that time the command has no
effect. -/
def salvoExpire (v : Nat) (s : State) : State :=
  match Assoc.find s.fab.salvos v with
  | some x =>
      match x.armed with
      | some a => if x.committed.isNone ∧ salvoLimit a ≤ s.timeNs then (s.dropSalvo v).raise 996 [x.gid] else s
      | none => s
  | none => s

/-- What the record of a discarded request carries (R148): its output handle, or its global salvo ID. -/
def reqNames (op : Nat) (s : State) : Nat :=
  let a := s.takeArg 0
  match op with
  | 2 => match Assoc.find s.fab.sched (a % 4096) with | some x => s.get (Reg.CHN.ENT_HANDLE x.out) | none => 0
  | 8 | 9 | 10 | 11 => match Assoc.find s.fab.salvos (a % 32) with | some x => x.gid | none => 0
  | _ => a

/-- A write of TAKECMD takes effect (R120, R149). -/
def takeCmdLand (data : Word) (s : State) : State :=
  if s.flag Reg.FAB.TESTAT_BUSY then (s.set Reg.FAB.TESTAT_REQ_OVR 1).raise 1000 [s.reqNames (data.toNat % 16)]
  else
    let op := data.toNat % 16
    let peer := bits data.toNat 23 16
    let s := s.set Reg.FAB.TAKERES_DONE 0
    if s.get Reg.FAB.CTRL_EN ≠ 1 then s.takeResult 16 0
    else
      match op with
      | 1 => s.opTake peer
      | 2 => if s.takeEpochOk then s.opCancel else (s.staleEvent (s.reqSession peer) 0).takeResult 3 0
      | 3 => s.opApply true peer
      | 4 => s.opRemove true peer
      | 5 => s.opApply false peer
      | 6 => s.opRemove false peer
      | 7 => s.opOpen peer
      | 8 => s.opAdd peer
      | 9 => s.opArm peer
      | 10 => s.opCommit peer
      | 11 => s.opAbort peer
      | _ => s.takeResult 11 0

/-! ### Latch points (R123, R126, R134) -/

/-- The flags of a take at the latch point. -/
def latchFlags (i src : Nat) (s : State) : Nat :=
  if src = 0 then 0
  else
    let e := (s.chanIng (handleIdx src)).getD 0
    let st := s.get (Reg.FAB.ISE_ALIGN_STATE e)
    let mis := st != 1 || s.get (Reg.FAB.ISE_CFG_PLANE e) != s.get (Reg.FAB.ESE_CFG_PLANE (s.outEgr i))
    b2n mis + 2 * b2n (st == 0)

/-- A take moves to the latched slot with the flags of its source. -/
def latch (i : Nat) (t : TakeRec) (s : State) : State :=
  let o := s.outTakes i
  s.putSlots i { o with lat := some { t with flags := t.flags ||| s.latchFlags i t.src } }

/-- A time-bound take latched supersedes the scheduled takes due, and a pending take accepted before it (R134). R134 settles
no equal acceptance times: a pending take of the same stamp stays pending (DESIGN CHOICE). -/
def settle (i accepted : Nat) (keep : Nat) (due : List (Nat × SchedTake)) (s : State) : State :=
  let s := s.each (due.filter fun p => p.1 != keep) fun p t => (t.superseded i p.2.take).freeSched p.1
  let o := s.outTakes i
  match o.pend with
  | some t => if t.accepted < accepted then (s.superseded i t).putSlots i { o with pend := none } else s
  | none => s

/-- The committed salvo take due at a switch instant of an output: salvo, position and take. -/
def salvoDue (i coming : Nat) (s : State) : Option (Nat × Salvo × SalvoTake) :=
  (s.fab.salvos.filterMap fun p =>
    match p.2.committed with
    | some c => if c.1 ≤ coming then
        (p.2.takes.find? fun t => handleIdx t.out == i && !t.latched).map fun t => (p.1, p.2, t) else none
    | none => none).head?

/-- The latest accepted of a list of scheduled takes (R134); of equal stamps, which R134 does not settle, the one with the
highest entry index (DESIGN CHOICE). -/
def latest : List (Nat × SchedTake) → Option (Nat × SchedTake)
  | [] => none
  | p :: ps =>
      match latest ps with
      | none => some p
      | some q => if p.2.take.accepted ≤ q.2.take.accepted then some q else some p

/-- The latch point of an output (R123, R134). A salvo take counts as accepted when its COMMIT was: DESIGN CHOICE, R134 names no time
of acceptance for it. -/
def latchPoint (i : Nat) (s : State) : State :=
  let o := s.outTakes i
  if o.lat.isSome then s
  else
    let s := s.tableRead 2 i
    let coming := s.nextSwitch i
    let due := s.fab.sched.filter fun p => p.2.out == i && !p.2.latched && decide (p.2.instant ≤ coming)
    match s.salvoDue i coming with
    | some (v, x, t) =>
        let acc := (x.committed.map (·.2)).getD 0
        let r : TakeRec := { src := if t.nosrc then 0 else t.src, accepted := acc, peer := x.peer, ref := v,
                             flags := 64 + (if t.late then 8 else 0) + (if x.stepped then 4 else 0) }
        let ts := x.takes.map fun u => if u = t then { u with latched := true } else u
        ((s.updFab fun y => { y with salvos := Assoc.put y.salvos v { x with takes := ts } }).latch i r).settle i acc 4096 due
    | none =>
        match latest due with
        | some p =>
            let r := { p.2.take with flags := p.2.take.flags ||| (if p.2.stepped then 4 else 0) }
            ((s.updFab fun y => { y with sched := Assoc.put y.sched p.1 { p.2 with latched := true } }).latch i r).settle i
              p.2.take.accepted p.1 due
        | none =>
            match o.pend with
            | some t => if t.accepted ≤ s.timeNs then (s.putSlots i { o with pend := none }).latch i t else s
            | none => s

/-! ### Switch instants (R126, R129) -/

/-- The route record takes a new source: the former one is the previous epoch's, and the epoch advances. -/
def routeTo (i src : Nat) (s : State) : State :=
  let now := s.timeNs
  ((((((s.set (Reg.FAB.RT_PREV i) (s.get (Reg.FAB.RT_CUR i))).set (Reg.FAB.RT_CUR i) src).bump (Reg.FAB.RT_EPOCH i) 1).set
    (Reg.FAB.RT_TLO i) now).set (Reg.FAB.RT_THI i) (now / 2 ^ 32)).repoint (s.outEgr i) src).chkinvStruckAt 2 i

/-- The packets of lines 1 to 6 of the frame that the old source gives an output (R196). -/
def firstLines (x : Egress) : List AncPkt :=
  match x.cur with
  | some o => o.anc.filter fun a => decide (a.line ≤ 6)
  | none => x.kept

/-- The frame in which a switch falls: the packets of lines 1 to 6 are the old source's, all else is the new one's (R119), or idle
content. -/
def switched (old new : Egress) : Egress :=
  match new.cur with
  | some f => { new with cur := some { f with anc := firstLines old ++ f.anc.filter fun a => decide (6 < a.line) } }
  | none => { new with kept := firstLines old }

/-- The reader changes stream at the switch line (R119). -/
def switchFrame (i : Nat) (s : State) : State :=
  let e := s.outEgr i
  let old := s.egr e
  (s.readPoint e [] 0 (s.get (Reg.FAB.RT_EPOCH i))).updEgr e (switched old)

/-- The reference of an executed take is released: its scheduled entry, or its place in the salvo (R133, R139). -/
def takeDone (i : Nat) (t : TakeRec) (s : State) : State :=
  if bit t.flags 6 then
    match Assoc.find s.fab.salvos t.ref with
    | some x =>
        let ts := x.takes.map fun u => if handleIdx u.out = i then { u with done := true } else u
        let s := s.updFab fun y => { y with salvos := Assoc.put y.salvos t.ref { x with takes := ts } }
        s.when (ts.all fun u => u.done) (dropSalvo t.ref)
    | none => s
  else
    match s.fab.sched.find? fun p => p.2.out == i && p.2.latched with
    | some p => s.freeSched p.1
    | none => s

/-- The switch instant of an output, all but its voices. A take that is latched when its source is destroyed is CANCELLED with
SRCGONE at this instant; where another take is latched for the instant at which an output would leave its destroyed source,
the take executes and no record of the destroyed source is queued, which R129 leaves open (DESIGN CHOICE). -/
def switchInstant (i : Nat) (s : State) : State :=
  let o := s.outTakes i
  let e := s.outEgr i
  match o.lat with
  | some t =>
      let gone := t.src != 0 && s.judgeHandle t.src srcKinds != 0
      let s := (((s.putSlots i { o with lat := none }).routeTo i (if gone then 0 else t.src)).updEgr e fun x =>
        { x with srcGone := false }).switchFrame i
      if gone then (s.complete i 19 (t.flags ||| 32) t s.timeNs).takeDone i t
      else
        let s := ((s.bump (Reg.FAB.RT_EXECNT i) 1).bump Reg.FAB.TAKECNT 1).complete i 0 t.flags t s.timeNs
        ((s.when (bit t.flags 0) (raise 992 [s.get (Reg.CHN.ENT_HANDLE i)])).notifyRoute i t.src s.timeNs).takeDone i t
  | none =>
      if (s.egr e).srcGone then
        let t : TakeRec := { src := 0, accepted := 0, peer := 0, ref := 0, flags := 0 }
        let s := ((s.routeTo i 0).updEgr e fun x => { x with srcGone := false }).switchFrame i
        s.complete i 19 32 t s.timeNs
      else s

/-! ### Time steps (R136–R138) -/

/-- A forward step of TIME carries scheduled and committed takes past their instants (R136). -/
def takesStepped (old new : Nat) (s : State) : State :=
  let overs := fun t : Nat => decide (old < t) && decide (t ≤ new)
  let hit := s.fab.sched.filter fun p => overs p.2.instant && !p.2.latched
  let hitS := s.fab.salvos.filter fun p => match p.2.committed with
    | some c => overs c.1
    | none => false
  if hit = [] ∧ hitS = [] then s
  else
    let mark := fun t : TakeRec =>
      if bit t.flags 6 && hitS.any (fun q => q.1 == t.ref) then { t with flags := t.flags ||| 4 } else t
    (s.updFab fun x =>
      { x with sched := x.sched.map fun p => if overs p.2.instant && !p.2.latched then
                 (p.1, { p.2 with stepped := true, take := { p.2.take with flags := p.2.take.flags ||| 4 } }) else p,
               outs := x.outs.map fun p => (p.1, { p.2 with lat := p.2.lat.map mark }),
               salvos := x.salvos.map fun p => match p.2.committed with
                 | some c => if overs c.1 then (p.1, { p.2 with stepped := true }) else p
                 | none => p }).raise 993
      ((hit.map fun p => s.get (Reg.CHN.ENT_HANDLE p.2.out)) ++ hitS.map fun p => p.2.gid)

/-! ### Destroyed channels (R103) -/

/-- Pending and scheduled takes that name a destroyed channel, as output or as source, are cancelled. -/
def cancelNaming (i : Nat) (s : State) : State :=
  let names := fun t : TakeRec => t.src != 0 && handleIdx t.src == i
  let s := s.each (s.fab.sched.filter fun p => !p.2.latched && (p.2.out == i || names p.2.take)) fun p t =>
    (t.complete p.2.out 19 p.2.take.flags p.2.take t.timeNs).freeSched p.1
  s.each (s.fab.outs.filter fun p => match p.2.pend with
      | some t => p.1 == i || names t
      | none => false) fun p t =>
    match p.2.pend with
    | some k => (t.complete p.1 19 k.flags k t.timeNs).putSlots p.1 { p.2 with pend := none }
    | none => t

end State

/-- SALVO_OPEN_EXPIRE (R139): local salvo `v`. -/
def execSalvoOpenExpire (v : Nat) (s : State) : Host.Outcome State Fault Refusal := .next (s.salvoOpenExpire v)

/-- SALVO_EXPIRED (R142): local salvo `v`. -/
def execSalvoExpired (v : Nat) (s : State) : Host.Outcome State Fault Refusal := .next (s.salvoExpire v)

end Sys2Proof.Machine
end

