-- ==== Sys2Proof/Machine/Prov.lean ====
section
/-! DEFINITION. Chapter 6: the egress checks, safe states and recovery, the claim lowered for HANDOVER (R452), fault
injection, and memory errors. -/

namespace Sys2Proof.Machine

namespace State

/-! ### The twin's claim (R452) -/

/-- TWIN.STAT.STATE. -/
def twinState (s : State) : Nat := s.get Reg.TWIN.STAT_STATE

/-- The carried claim of a state (R450). -/
def carriedOf (st claim : Nat) : Nat :=
  match st with
  | 2 => max 1 claim
  | 3 => 256 + max 1 claim
  | 4 => 256 + max 1 claim
  | _ => 0

/-- A state in which a unit carries ACT = 1 (R450). -/
def actsIn (st : Nat) : Bool := st == 3 || st == 4

/-- The unit enters a state of R450; every change raises STATE (R451). A unit that stops carrying ACT = 1 closes its JRP
sessions (R585); what it holds of its partner's is kept from when it begins to carry it (R590). -/
def twinEnter (st : Nat) (s : State) : State :=
  if s.twinState = st then s
  else
    let s := s.when (actsIn s.twinState && !actsIn st) closeSessions
    let s := s.when (!actsIn s.twinState && actsIn st) fun t => t.updJrp fun j => { j with takeover := t.now }
    ((s.set Reg.TWIN.STAT_STATE st).set Reg.TWIN.CARRIED_OWN (carriedOf st (s.get Reg.TWIN.CLAIM))).twinEvent 0 [st]

/-- The claim is lowered (R452). -/
def lowerClaim (why : Nat) (s : State) : State :=
  if s.get Reg.TWIN.CTRL_EN = 1 ∧ s.twinState ≠ 0 ∧ s.twinState ≠ 5 then (s.twinEnter 5).twinEvent 2 [why] else s

/-- The twin has a standby in service (R167): the unit is it, or is the ACTIVE beside it; a unit ALONE has none (R452). -/
def twinStandby (s : State) : Bool := s.get Reg.TWIN.CTRL_EN == 1 && (s.twinState == 2 || s.twinState == 3)

/-! ### Safe states (R165–R170) -/

/-- An entry is an output to a lane, a send flow or a slot half; or one of these or a converter input (R14). -/
def isOutput (e : Nat) (s : State) : Bool := s.flag (Reg.FAB.ESE_CFG_VALID e) && decide (s.get (Reg.FAB.ESE_CFG_KIND e) ≤ 3)
def isChecked (e : Nat) (s : State) : Bool := s.flag (Reg.FAB.ESE_CFG_VALID e) && decide (s.get (Reg.FAB.ESE_CFG_KIND e) ≤ 4)

/-- The checkers judge (PROV.CTRL.EN). -/
def provEn (s : State) : Bool := s.get Reg.PROV.CTRL_EN == 1

/-- An output is in its failed state. -/
def outFailed (e : Nat) (s : State) : Bool :=
  s.get (Reg.PROV.OUT_STATE e) == 2 || s.get (Reg.PROV.OUT_STATE e) == 3

/-- What the lane of an output should carry: 0 content, 1 the held frame, 2 black (R165, R166). -/
def laneTarget (e : Nat) (s : State) : Nat :=
  if s.outFailed e ∧ s.isOutput e then
    match s.get (Reg.PROV.OUT_SAFE e) with
    | 1 => if (s.egr e).held.isSome ∧ !(s.egr e).holdBad then 1 else 2
    | 2 => 2
    | _ => 0
  else 0

/-- The first word of an output frame leaves, with the content that the last verdict at least 100 µs ago and the safe state call for
(R165, R169). -/
def contentSwitch (e : Nat) (s : State) : State :=
  match (s.egr e).verdict with
  | some t => if s.now < t + 100000 then s else s.updEgr e fun x => { x with lane := s.laneTarget e, verdict := none }
  | none => s.updEgr e fun x => { x with lane := s.laneTarget e }

/-- An output whose safe state is HANDOVER and that fails beside a standby in service lowers the chip's claim (R165, R167). -/
def handover (e : Nat) (s : State) : State :=
  s.when (s.get (Reg.PROV.OUT_SAFE e) == 3 && s.outFailed e && s.isOutput e && s.twinStandby) (lowerClaim 0)

/-- An output enters the failed state (R170). -/
def enterFail (e cause : Nat) (s : State) : State :=
  let g := e / 64
  let grp := if e % 64 < 32 then Reg.PROV.GRP_LO g else Reg.PROV.GRP_HI g
  let s := ((s.set (Reg.PROV.OUT_STATE e) 2).orBit grp (e % 32)).updEgr e fun x =>
    { x with passes := 0, counting := false, verdict := some s.now }
  (s.raise (1024 + g) [e, s.get (Reg.FAB.ESE_HANDLE e), cause, (s.egr e).epoch]).handover e

/-- Passing frames of a failed output count towards its recovery (R169): with RECOV = AUTO, or after OUTCLR; never while the
collector imposes the safe state (R495). -/
def recovers (e : Nat) (s : State) : Bool :=
  !s.flag Reg.FLT.SAFESTAT && (s.get (Reg.PROV.OUT_RECOV e) == 0 || (s.egr e).counting)

/-- The held frame reads with a wrong digest (R166): a failure of the lane's content, not of a judged frame. -/
def failHeld (e : Nat) (s : State) : State := (s.set (Reg.PROV.OUT_CAUSE e) 10).bump (Reg.PROV.OUT_FAILCNT e) 1

/-- The present frame of an entry fails with a cause (R164, R170): counted once a frame, the lowest cause recorded. A standby that has
come into service since the output failed is handed over to at its next failing frame (R165). -/
def failFrame (e cause : Nat) (s : State) : State :=
  match (s.egr e).failed with
  | some c =>
      if cause < c then (s.updEgr e fun x => { x with failed := some cause }).set (Reg.PROV.OUT_CAUSE e) cause else s
  | none =>
      let s := (((s.updEgr e fun x => { x with failed := some cause, passes := 0 }).set (Reg.PROV.OUT_CAUSE e) cause).bump
        (Reg.PROV.OUT_FAILCNT e) 1).chkinvStruckAt 5 e
      if s.get (Reg.PROV.OUT_STATE e) = 2 then s.handover e
      else if s.get (Reg.PROV.OUT_STATE e) = 3 then (s.set (Reg.PROV.OUT_STATE e) 2).handover e
      else s.enterFail e cause

/-- The STATE that a passing frame shows. -/
def passState (x : Egress) : Nat :=
  match x.cur with
  | none => 5
  | some f => if f.tstate = 1 then 5 else if x.timed then 1 else 4

/-- The present frame passes every check (R166, R169). -/
def passFrame (e : Nat) (s : State) : State :=
  let x := s.egr e
  let s := s.when (s.flag (Reg.PROV.OUT_HOLDBUF e) && x.cur.isSome) fun t => t.updEgr e fun y => { y with held := x.cur }
  if s.outFailed e then
    if s.recovers e then
      let n := x.passes + 1
      if max 1 (s.use Reg.PROV.CFG) ≤ n then
        (s.set (Reg.PROV.OUT_STATE e) (passState x)).updEgr e fun y =>
          { y with passes := 0, counting := false, verdict := some s.now, holdBad := false }
      else (s.set (Reg.PROV.OUT_STATE e) 3).updEgr e fun y => { y with passes := n }
    else s
  else s.set (Reg.PROV.OUT_STATE e) (passState x)

/-! ### Egress checks (R160–R164) -/

/-- The handle whose frames an output of epoch `ep` may carry: none is a stale epoch (R160). -/
def expectedSource (i ep : Nat) (s : State) : Option Nat :=
  let cur := s.get (Reg.FAB.RT_EPOCH i)
  if ep = cur then some (s.get (Reg.FAB.RT_CUR i))
  else if (ep + 1) % 65536 = cur then some (s.get (Reg.FAB.RT_PREV i))
  else none

/-- The verdict of the counter check: 0, 7 FREEZE or 8 BACKWARD (R161). -/
def counterVerdict (base : Option (Nat × Nat × Nat)) (epoch count : Nat) : Nat :=
  match base with
  | none => 0
  | some (ep, c, st) =>
      let d := (count + 65536 - c) % 65536
      if ep ≠ epoch then 0
      else if st = 3 then 0
      else if d = 0 then 7
      else if 32768 ≤ d then 8
      else 0

/-- The cause that the first cell gives, 0 when it passes: the lowest code of those that apply. -/
def tokenVerdict (e : Nat) (s : State) : Nat :=
  let x := s.egr e
  match x.cur with
  | none => 0
  | some f =>
      match f.token with
      | none => 1
      | some t =>
          match s.expectedSource (handleIdx (s.get (Reg.FAB.ESE_HANDLE e))) x.epoch with
          | none => 2
          | some h =>
              if f.tstate = 1 then 0
              else if h = 0 ∨ t.sys ≠ s.use Reg.CHN.CFG_SYSNUM ∨ t.idx ≠ handleIdx h then 3
              else if f.tstate = 2 then 4
              else counterVerdict x.base x.epoch t.count

/-- The baseline that a frame leaves for the next (R161). -/
def nextBase (x : Egress) : Option (Nat × Nat × Nat) :=
  match x.cur with
  | none => none
  | some f =>
      match f.token with
      | none => none
      | some t => if f.tstate = 1 then none else some (x.epoch, t.count, f.tstate)

/-- The checker judges source and counter at the first cell of a frame (R160, R161). -/
def egressCheck (e : Nat) (s : State) : State :=
  if s.isChecked e ∧ s.provEn ∧ !(s.egr e).checked then
    let s := s.tableRead 5 e
    let c := s.tokenVerdict e
    let s := s.updEgr e fun x => { x with checked := true, base := nextBase x }
    s.when (c != 0) (failFrame e c)
  else s

/-- After the last active line the digest is compared, and the frame passes or fails (R162). `got` is the digest the
checker computed where the samples sent differ from those read. -/
def digestVerdict (e : Nat) (got : Option Nat) (s : State) : State :=
  if s.isChecked e ∧ s.provEn then
    let s := s.egressCheck e
    let x := s.egr e
    let s := match x.cur with
      | none => s
      | some f =>
          if f.poisoned then s.failFrame e 5
          else if x.timed then
            match f.token with
            | some t => s.when (t.digest != got.getD (digest f.picture)) (failFrame e 6)
            | none => s
          else s
    if (s.egr e).failed = none then s.passFrame e else s
  else s

/-- An output fails as TIMING_LOSS (R163, R336). -/
def timingLoss (e : Nat) (s : State) : State := s.when (s.isChecked e && s.provEn) (failFrame e 9)

/-! ### Recovery and the imposed safe state (R169, R494, R495) -/

/-- A write of OUTCLR takes effect: recovery of a failed output begins; ignored for one not failed. -/
def outclrLand (data : Word) (s : State) : State :=
  let e := data.toNat % 8192
  if bit data.toNat 31 ∧ s.outFailed e ∧ !s.flag Reg.FLT.SAFESTAT then
    s.updEgr e fun x => { x with counting := true, passes := if x.counting then x.passes else 0 }
  else s

/-- Every output is put in its configured safe state (R494). -/
def imposeSafe (s : State) : State :=
  (s.each ((s.fab.egr.map (·.1)).filter fun e => s.isOutput e) fun e t =>
    ((t.set (Reg.PROV.OUT_STATE e) 2).set (Reg.PROV.OUT_CAUSE e) 0).updEgr e fun x =>
      { x with counting := false, passes := 0, verdict := some t.now }).set Reg.FLT.SAFESTAT 1

/-- An imposed safe state ends: each output recovers as with RECOV = AUTO, and one with LATCH stays failed (R495). -/
def endSafe (s : State) : State :=
  (s.each ((s.fab.egr.map (·.1)).filter fun e => s.isOutput e && s.outFailed e) fun e t =>
    t.updEgr e fun x => { x with counting := false, passes := 0 }).set Reg.FLT.SAFESTAT 0

/-- A safe-state write that R167 does not allow, for a master. -/
def safeRefused (e safe : Nat) (loaderTwin : Bool) (s : State) : Bool :=
  (safe == 1 && !s.flag (Reg.PROV.OUT_HOLDBUF e)) ||
    (safe == 3 && s.get Reg.TWIN.CTRL_EN == 0 && !loaderTwin)

/-- A discarded safe-state write (R167). -/
def safeRefuse (e : Nat) (s : State) : State := (s.set Reg.PROV.STAT_SS_REFUSED 1).raise 21 [e]

/-! ### Fault injection (R175, R176) -/

/-- A write of CHKINV takes effect: it arms, replaces or disarms; reserved memories discard it. -/
def chkinvLand (data : Word) (s : State) : State :=
  let d := data.toNat
  if 12 ≤ d % 16 then s
  else
    let b := bits d 9 8
    (((s.set Reg.PROV.CHKINV_MEM (d % 16)).set Reg.PROV.CHKINV_BITS b).set Reg.PROV.CHKINV_ARM
      (if bit d 31 ∧ (b = 1 ∨ b = 2) then 1 else 0))

/-- A write of TOKINJ takes effect: WHAT 1 to 3 with ARM arms it, other values disarm at once (R176). -/
def tokinjLand (data : Word) (s : State) : State :=
  let d := data.toNat
  let what := bits d 30 28
  ((s.set Reg.PROV.TOKINJ_WHAT what).set Reg.PROV.TOKINJ_ENTRY (d % 8192)).set Reg.PROV.TOKINJ_ARM
    (if bit d 31 ∧ 1 ≤ what ∧ what ≤ 3 then 1 else 0)

/-- A media memory of R174: slot store, packet memory, TSI sample memory, converter LUTs, mica layer memory. -/
def mediaMem (mem : Nat) : Bool := [0, 1, 7, 8, 9].contains mem

end State

/-- EGRESS_CHECK (R160, R161) of egress entry `e`. -/
def execEgressCheck (e : Nat) (s : State) : Host.Outcome State Fault Refusal := .next (s.egressCheck e)

/-- DIGEST_VERDICT (R162) of egress entry `e`. -/
def execDigestVerdict (e : Nat) (got : Option Nat) (s : State) : Host.Outcome State Fault Refusal :=
  .next (s.digestVerdict e got)

/-- SAFE_CONTENT_SWITCH (R169) of egress entry `e`. -/
def execSafeContentSwitch (e : Nat) (s : State) : Host.Outcome State Fault Refusal := .next (s.contentSwitch e)

/-- CHKINV_DONE (R175) at word `addr` of the memory named. -/
def execChkinvDone (addr : Nat) (s : State) : Host.Outcome State Fault Refusal := .next (s.chkinvStruck addr)

/-- EGRESS_READ_POINT (R70) of egress entry `e`; a frame-sync read or a decimator only meets the store's ECC here (R66). -/
def execEgressReadPoint (e : Nat) (flips : List Nat) (slips : Nat) (s : State) : Host.Outcome State Fault Refusal :=
  .next (if s.isChecked e then
      s.readPoint e flips slips (s.get (Reg.FAB.RT_EPOCH (State.handleIdx (s.get (Reg.FAB.ESE_HANDLE e)))))
    else s.when (s.flag (Reg.FAB.ESE_CFG_VALID e)) (State.storeRead e flips))

/-- INGRESS_CELL_WRITE (R65) of ingress entry `e`. -/
def execIngressCellWrite (e : Nat) (s : State) : Host.Outcome State Fault Refusal :=
  .next (s.when (s.flag (Reg.FAB.ISE_CFG_VALID e)) (State.cellWrite e))

/-- FS_DRAM_LATE (R78) of stream `k` of unit `u`. -/
def execFsDramLate (u k : Nat) (s : State) : Host.Outcome State Fault Refusal :=
  .next (s.when (s.flag (Reg.FAB.FS_SCFG_VALID u k)) (State.fsLate u k))

/-- NO_FRAME_TIMEOUT (R71) of ingress entry `e`. -/
def execNoFrameTimeout (e : Nat) (s : State) : Host.Outcome State Fault Refusal :=
  .next (s.when (s.flag (Reg.FAB.ISE_CFG_VALID e)) (State.toNosig e))

end Sys2Proof.Machine
end

