-- ==== Sys2Proof/Machine/Mirror.lean ====
section
/-! DEFINITION. Chapter 18, what other chapters need of the twin: mirror records of class O commands (R458), eligibility
(R450, R457), and the frames that enter the signatures of outputs (R463). -/

namespace Sys2Proof.Machine

namespace State

/-- Change the twin's hidden state. -/
def updTwin (f : TwinState → TwinState) (s : State) : State := { s with twin := f s.twin }

/-- The unit is one of a twin. -/
def twinOn (s : State) : Bool := s.get Reg.TWIN.CTRL_EN == 1 && s.twinState != 0

/-- A pair that makes the twin link is UP (R447). -/
def pairUp (s : State) : Bool := s.flag Reg.TWIN.STAT_LINKP || (s.use Reg.TWIN.CFG_SECONDARY == 1 && s.flag Reg.TWIN.STAT_LINKS)

/-- The twin link is UP, and keyed (R447, R449). -/
def linkUp (s : State) : Bool := s.pairUp && s.twin.auth

/-- The twin link is down: no pair is UP, or sixteen failing records took it down (R449, R451). -/
def linkDown (s : State) : Bool := !s.pairUp || s.twin.cut

/-- A unit of a twin that is not eligible sends no side-effecting output (R450, R457). -/
def ineligible (s : State) : Bool :=
  s.get Reg.TWIN.CTRL_EN == 1 && !([2, 3, 4].contains s.twinState)

/-- The unit acts: its commands are mirrored over the link. -/
def mirrors (s : State) : Bool := s.twinOn && (s.twinState == 3 || s.twinState == 4) && s.linkUp

/-- Where the data of a TX half goes (R349, R350): 0 to its pins; 1 back to the lane's RX half alone; 2 nowhere, a test pattern or
the recovered data of the RX half standing in its place. -/
def txPath (n : Nat) (s : State) : Nat :=
  let l := s.use (Reg.LANE.CFG_LOOP n)
  if s.use (Reg.LANE.PRBS_TXGEN n) = 1 ∨ l = 3 then 2 else if l = 0 then 0 else 1

/-- The link to the partner carries what a unit sends: of one of its pairs neither lane has a test pattern or a loopback in place of its
data (R349, R350). -/
def twinSends (s : State) : Bool := [508, 510].any fun n => s.txPath n == 0 && s.txPath (n + 1) == 0

/-- A record leaves on the twin link, with a MAC under the link key (R449). -/
def sendTwin (r : TwinMsg) (s : State) : State := s.when s.twinSends (emit (.twin r s.twin.key))

/-! ### Mirror records (R458) -/

/-- A command begins on the active: its record waits for its result. -/
def mirrorOwe (c : MirrorCmd) (s : State) : State :=
  if s.mirrors then s.updTwin fun x => { x with owed := x.owed ++ [(c, { x.ctx with at_ := s.timeNs })] } else s

/-- Result code and handle of a command's mailbox, when the command has its result. -/
def boxResult (c : MirrorCmd) (s : State) : Option (Nat × Nat) :=
  match c.box with
  | 0 => some (s.get Reg.FAB.TAKERES_CODE, 0)
  | 1 => if s.flag Reg.CHN.RESULT_DONE then some (s.get Reg.CHN.RESULT_CODE, s.get Reg.CHN.RESHANDLE) else none
  | 2 => if s.flag Reg.AUD.MAPRES_DONE then some (s.get Reg.AUD.MAPRES_CODE, 0) else none
  | 3 => if s.flag (Reg.MICA.LAYRES_DONE c.engine) then some (s.get (Reg.MICA.LAYRES_CODE c.engine), 0) else none
  | _ => some (0, 0)

/-- A command that has its result is sent to the standby as a record, when it changed state. -/
def mirrorSend (o : MirrorCmd × CmdCtx) (s : State) : State :=
  match s.boxResult o.1 with
  | none => s
  | some r =>
      let s := s.updTwin fun x => { x with owed := x.owed.filter fun y => y != o }
      if r.1 = 0 ∧ s.mirrors then
        let peer := match s.jrpSession o.2.session with | some x => x.peer + 1 | none => o.1.peer
        let m : MirrorRec := { seq := s.twin.seq + 1, cmd := { o.1 with peer := peer }, time := o.2.at_, code := r.1,
                               handle := r.2, session := o.2.session, txid := o.2.txid }
        (s.updTwin fun x => { x with seq := m.seq, mirror := x.mirror ++ [m], mirrorAt := Assoc.put x.mirrorAt m.seq s.now }).sendTwin
          (.mirror m)
      else s

/-- The commands that have their result are sent, oldest first. -/
def mirrorFlush (s : State) : State := s.each s.twin.owed mirrorSend

/-! ### Signatures (R463) -/

/-- A token as its 64 bits (R152). -/
def tokenNat (t : Token) : Nat := t.sys * 2 ^ 46 + t.idx * 2 ^ 32 + t.count * 2 ^ 16 + t.digest

/-- An output sends a frame: it enters the signature of the cycle. -/
def signFrame (e : Nat) (f : Frame) (epoch : Nat) (s : State) : State :=
  if s.twinOn then
    let x : SigFrame := { token := match f.token with | some t => tokenNat t | none => 0, tstate := f.tstate, epoch := epoch }
    let failed := s.get (Reg.PROV.OUT_STATE e) == 2
    s.updTwin fun y =>
      { y with sigs := Assoc.put y.sigs e (Assoc.findD y.sigs e [] ++ [x]),
               sigFail := if failed && !y.sigFail.contains e then y.sigFail ++ [e] else y.sigFail }
  else s

/-! ### Fabric to a twin pair (R455) -/

/-- The egress entry of lane B that repeats an entry of lane A: where FMERGE merges lane A with it. -/
def mergeCopy (n half : Nat) (s : State) : Option Nat :=
  match (List.range 256).find? fun j => s.use (Reg.TWIN.FMERGE_VALID j) == 1 && s.use (Reg.TWIN.FMERGE_LANEA j) == n with
  | some j =>
      match Assoc.find s.lanes.lanes (s.use (Reg.TWIN.FMERGE_LANEB j)) with
      | some x => x.ents[2 + half]?
      | none => none
  | none => none

end State

end Sys2Proof.Machine
end

