-- ==== Sys2Proof/Machine/Audio.lean ====
section
/-! DEFINITION. Chapter 9: the audio matrix. Granules and voice lists, the voice map and its mailbox, crossfades and
ramps, voice tags; and the switch instants of takes with the voices coupled to them. -/

namespace Sys2Proof.Machine

namespace State

/-- Change the audio matrix. -/
def updAud (f : AudState → AudState) (s : State) : State := { s with aud := f s.aud }

/-- The TSI rate in Hz, and the number of voices per direction (R246). -/
def tsiRate (s : State) : Nat := if s.use Reg.AUD.CFG_RATE = 1 then 96000 else 48000
def tsiVoices (s : State) : Nat := if s.use Reg.AUD.CFG_RATE = 1 then 16384 else 32768

/-- The word-clock tick of L (R246, R419), and the position in its block (R248). -/
def sampleTick (s : State) : Nat := ((s.lode.l : Int) + s.lode.audOfs).toNat * s.tsiRate / 1000000000000
/-- The TSI runs: AUD is enabled, and has not refused its start (R272). -/
def tsiRuns (s : State) : Bool := s.flag Reg.AUD.STAT_RUN
/-- The crossfade length L (R146): 257–511 act as 256. -/
def xfadeLen (s : State) : Nat := min 256 (s.use Reg.AUD.CFG_XFADE)

/-- A silent sample. -/
def silence : Sample := { word := 0, vuc := 0 }

/-- The tag of a block of an input voice (R171): [31:17] the voice, [16:8] the block counter, [7:0] the CRC-8. -/
def blockTag (v count crc : Nat) : Nat := v % 32768 * 131072 + count % 512 * 256 + crc % 256

/-- An input voice of the TSI; one that nothing has entered holds blocks of silence, whose CRC-8 is 0. -/
def inVoice (s : State) (v : Nat) : InVoice :=
  Assoc.findD s.aud.ins v
    { cur := [], last := [], older := [], lastTag := blockTag v (s.aud.count + 511) 0, olderTag := blockTag v (s.aud.count + 510) 0 }

/-- An output voice of the TSI. -/
def OutVoice.fresh : OutVoice :=
  { fades := [], change := none, ramps := [], amp := 16777216, tag := none, passes := 0, silenced := false, freed := false,
    out := [], hist := [] }
def outVoice (s : State) (j : Nat) : OutVoice := Assoc.findD s.aud.outs j OutVoice.fresh

/-- Change an output voice. -/
def updOutVoice (j : Nat) (f : OutVoice → OutVoice) (s : State) : State :=
  s.updAud fun x => { x with outs := Assoc.set x.outs j (f (s.outVoice j)) OutVoice.fresh }

/-- A sample enters the TSI on an input voice at a tick: its place in the block is the tick's, and ticks that brought none are
silent. -/
def voiceAt (v tick : Nat) (x : Sample) (s : State) : State :=
  let i := s.inVoice v
  let k := tick % 64
  s.when s.tsiRuns <| updAud fun y => { y with ins := Assoc.put y.ins v { i with cur := (i.cur ++ List.replicate (k - i.cur.length) silence).take k ++ [x] } }

/-- A sample enters the TSI on an input voice. -/
def voiceIn (v : Nat) (x : Sample) (s : State) : State :=
  let i := s.inVoice v
  s.when s.tsiRuns <| updAud fun y => { y with ins := Assoc.put y.ins v { i with cur := i.cur ++ [x] } }

/-! ### Granules and voice lists (R249–R251) -/

/-- The voices of a list of granules. -/
def granuleVoices (gs : List Nat) : List Nat := (gs.map fun g => [4 * g, 4 * g + 1, 4 * g + 2, 4 * g + 3]).flatten

/-- The last granule number of the pool, exclusive. -/
def granuleEnd (s : State) : Nat := s.tsiVoices / 4

/-- The lowest-numbered n free granules of a direction, when there are so many (R250). -/
def freeGranules (valid : Nat → FRef) (n : Nat) (s : State) : Option (List Nat) :=
  let l := (((List.range s.granuleEnd).drop 128).filter fun g => !s.flag (valid g)).take n
  if l.length = n then some l else none

/-- AUD.VOICES. -/
def showVoices (s : State) : State :=
  let live := s.chn.chans
  (s.set Reg.AUD.VOICES_IN (4 * sumList (live.map fun p => p.2.gin.length))).set Reg.AUD.VOICES_OUT
    (4 * sumList (live.map fun p => p.2.gout.length))

/-- Coupled audio flows of a video channel, in order of creation (R251): live channels of a kind whose descriptor W15
names it. -/
def coupledFlows (s : State) (kind i : Nat) : List Chan :=
  let h := s.get (Reg.CHN.ENT_HANDLE i)
  let l := (s.chn.chans.filter fun p => p.2.live && p.2.kind == kind && p.2.desc.getD 15 0 == h && h != 0).map (·.2)
  l.mergeSort fun a b => decide (a.order ≤ b.order)

/-- The coupled lists of a video-in and of a video-out. -/
def coupledIn (s : State) (i : Nat) : List Nat :=
  match s.chan i with
  | some c => granuleVoices (c.gin ++ ((s.coupledFlows 3 i).map fun d => d.gin).flatten)
  | none => []
def coupledOut (s : State) (i : Nat) : List Nat :=
  match s.chan i with
  | some c => granuleVoices (c.gout ++ ((s.coupledFlows 4 i).map fun d => d.gout).flatten)
  | none => []

/-- The audio source of a video source handle (R253): the index of a video-in. -/
def audioSource (s : State) (h : Nat) : Option Nat :=
  let r := (s.converterWalk 64 h).2
  match handleKind r with
  | 1 => some (handleIdx r)
  | 9 => some (s.fsInput (handleIdx r))
  | _ => none

/-- The input voice that a position of a video-out resolves to (R252, R254). -/
def resolveVoice (s : State) (out pos : Nat) : Option Nat :=
  match s.audioSource (s.routeOf out) with
  | some i => (s.coupledIn i)[pos]?
  | none => none

/-! ### Voice switches and ramps (R146, R257, R258) -/

/-- The source an output voice uses, as its entry shows it. -/
def voiceSrc (s : State) (j : Nat) : Option Nat :=
  if s.flag (Reg.AUD.OV_SRCV j) then some (s.get (Reg.AUD.OV_SRC j)) else none

/-- A voice fades: a switch that is no cut has not ended (R146, R257). -/
def fading (v : OutVoice) : Bool := v.fades.any fun f => f.len != 0

/-- The STATE a voice shows when it does not fail. -/
def showVoice (j : Nat) (s : State) : State :=
  let v := s.outVoice j
  let old := s.get (Reg.AUD.OV_STATE j)
  let n := if fading v then 2 else if v.ramps != [] then 3 else if s.flag (Reg.AUD.OV_SRCV j) then 1 else 5
  (s.set (Reg.AUD.OV_STATE j) (if old = 4 then 4 else n)).setB (Reg.AUD.OV_HELD j) (v.change.isSome && fading v)

/-- The nth power of a number c in units of 2^-90, for n below 2^13. -/
def powFix (c n : Nat) : Nat :=
  ((List.range 13).foldl (fun p k => (if bit n k then p.1 * p.2 / 2 ^ 90 else p.1, p.2 * p.2 / 2 ^ 90)) (2 ^ 90, c)).1

/-- The amplitude of a target gain of g ÷ 64 dB (R258), 10^(g ÷ 1,280) of 2^24, whose rounding is open: unity at 0, nothing at
−32,768. -/
def gainOf (g : Int) : Nat :=
  if g = 0 then 16777216
  else if g = -32768 then 0
  else
    let p := if 0 < g then powFix 1240168967144081667947460310 g.toNat else powFix 1235715117428708376260576872 (-g).toNat
    (divFree 258 ((16777216 * p : Nat) : Int) (2 ^ 90)).toNat

/-- The amplitude reached in a ramp at a sample; its rounding is open. A ramp of length 0 is a step at its start. -/
def rampAt (r : Ramp) (k : Nat) : Nat :=
  if r.start + r.len ≤ k then r.dest
  else if k ≤ r.start then r.from_
  else (r.from_ + divFree 258 (((r.dest : Int) - r.from_) * ((k - r.start : Nat) : Int)) (r.len : Nat)).toNat

/-- The amplitude at a sample that a list of ramps gives, the newest first: that of the newest ramp begun by then. -/
def rampsAt (amp k : Nat) : List Ramp → Nat
  | [] => amp
  | r :: rs => if k < r.start then rampsAt amp k rs else rampAt r k

/-- The amplitude an output voice has at a sample. -/
def ampAt (v : OutVoice) (k : Nat) : Nat := rampsAt v.amp k v.ramps

/-- The ramps that matter from a sample onward. -/
def liveRamps (k : Nat) : List Ramp → List Ramp
  | [] => []
  | r :: rs => if k < r.start then r :: liveRamps k rs else if r.start + r.len ≤ k then [] else [r]

/-- Start a ramp to an amplitude over n samples at the next sample period. -/
def startRamp (j target n : Nat) (s : State) : State :=
  let k := s.sampleTick + 1
  (s.updOutVoice j fun v =>
    { v with ramps := { from_ := ampAt v k, dest := target, start := k, len := n } :: v.ramps }).showVoice j

/-- A voice follows a gain or a mute, unless it is on its way to silence for a released input (R259). -/
def rampTo (j n target : Nat) (s : State) : State :=
  if (s.outVoice j).freed then s else s.startRamp j target n

/-- The amplitude that the entry of a voice calls for: 0 when muted or silenced. -/
def voiceTarget (j : Nat) (s : State) : Nat :=
  if s.flag (Reg.AUD.OV_MUTE j) ∨ (s.outVoice j).silenced then 0 else gainOf (toSigned 16 (s.get (Reg.AUD.OV_GAIN j)))

/-- An output voice changes to an input voice, centred on now: a fade of L samples, or a cut, 128 samples of delay from
here (R146, R256). A voice that was ramped to silence for its released input ramps back (R259). -/
def voiceSwitch (j : Nat) (new : Option Nat) (s : State) : State :=
  let old := s.voiceSrc j
  let freed := (s.outVoice j).freed
  if old = new ∧ freed = false then s
  else
    let l := if s.flag (Reg.AUD.OV_XFCUT j) then 0 else s.xfadeLen
    let s := ((s.setB (Reg.AUD.OV_SRCV j) new.isSome).set (Reg.AUD.OV_SRC j) (new.getD 0)).chkinvStruckAt 6 j
    let s := s.updOutVoice j fun v =>
      { v with fades := { old := old, new := new, start := s.sampleTick + 128 - l / 2, len := l } :: v.fades, tag := none,
               freed := false }
    (s.when freed (startRamp j (s.voiceTarget j) 64)).showVoice j

/-- RAMP in samples. -/
def rampLen (s : State) : Nat := s.use Reg.AUD.CFG_RAMP

/-! ### The map mailbox (R256–R258) -/

/-- An entry of the voice map is read (R174, R175): an error of it is corrected, or is one of a control memory. -/
def readMapEntry (j : Nat) (s : State) : State :=
  s.tableRead 6 j

/-- The result of a map request. -/
def mapResult (op code : Nat) (s : State) : State :=
  (((s.set Reg.AUD.MAPRES_DONE 1).set Reg.AUD.MAPRES_BUSY 0).set Reg.AUD.MAPRES_OP op).set Reg.AUD.MAPRES_CODE code

/-- An argument of the map mailbox, and the voice it names. -/
def mapArg (s : State) (k : Nat) : Nat := s.get (Reg.AUD.MAPARG k)
def mapVoice (s : State) : Nat := bits (s.mapArg 0) 14 0

/-- The output voice of the mailbox may be changed: 0, DISABLED or BAD_PARAM (R256). -/
def mapJudge (s : State) : Nat :=
  if s.get Reg.AUD.CTRL_EN ≠ 1 then 16
  else if s.tsiVoices ≤ s.mapVoice ∨ !s.flag (Reg.AUD.OV_VALID s.mapVoice) then 11
  else 0

/-- An input index that something owns. -/
def inputOwned (v : Nat) (s : State) : Bool := decide (v < s.tsiVoices) && s.flag (Reg.AUD.IGR_VALID (v / 4))

/-- A change of source waits for a block boundary; during a fade it is held, and a further one replaces it (R257). -/
def mapChange (op j : Nat) (c : VoiceChange) (s : State) : State :=
  ((s.updOutVoice j fun v => { v with change := some c }).showVoice j).mapResult op 0

/-- SOURCE. -/
def opSource (s : State) : State :=
  let a := s.mapArg 1
  if s.mapJudge ≠ 0 then s.mapResult 1 s.mapJudge
  else if bit a 15 ∧ !s.inputOwned (bits a 14 0) then s.mapResult 1 11
  else s.mapChange 1 s.mapVoice (.fixed (if bit a 15 then some (bits a 14 0) else none))

/-- COUPLE. -/
def opCouple (s : State) : State :=
  let a := s.mapArg 1
  if s.mapJudge ≠ 0 then s.mapResult 2 s.mapJudge
  else if 511 < a then s.mapResult 2 11
  else if s.get (Reg.AUD.OV_COUPLE s.mapVoice) = 0 then s.mapResult 2 4
  else s.mapChange 2 s.mapVoice (.couple a)

/-- GAIN. -/
def opGain (s : State) : State :=
  let g := toSigned 16 (s.mapArg 2)
  let j := s.mapVoice
  if s.mapJudge ≠ 0 then s.mapResult 3 s.mapJudge
  else if g ≠ -32768 ∧ (g < -6144 ∨ 1536 < g) then s.mapResult 3 11
  else
    let s := s.set (Reg.AUD.OV_GAIN j) (ofSigned 16 g)
    ((s.when (!s.flag (Reg.AUD.OV_MUTE j)) (rampTo j s.rampLen (s.voiceTarget j))).chkinvStruckAt 6 j).mapResult 3 0

/-- MUTE. -/
def opMute (s : State) : State :=
  let j := s.mapVoice
  if s.mapJudge ≠ 0 then s.mapResult 4 s.mapJudge
  else
    let s := s.setB (Reg.AUD.OV_MUTE j) (bit (s.mapArg 2) 0)
    ((s.rampTo j s.rampLen (s.voiceTarget j)).chkinvStruckAt 6 j).mapResult 4 0

/-- XFMODE. -/
def opXfmode (s : State) : State :=
  let j := s.mapVoice
  if s.mapJudge ≠ 0 then s.mapResult 5 s.mapJudge
  else ((s.setB (Reg.AUD.OV_XFCUT j) (bit (s.mapArg 2) 0)).chkinvStruckAt 6 j).mapResult 5 0

/-- A write of MAPCMD takes effect (R256). -/
def mapCmdLand (data : Word) (s : State) : State :=
  let op := data.toNat % 16
  if s.flag Reg.AUD.MAPRES_BUSY then (s.set Reg.AUD.STAT_REQ_OVR 1).audEvent 2 [op]
  else
    let s := s.set Reg.AUD.MAPRES_DONE 0
    match op with
    | 1 => s.opSource
    | 2 => s.opCouple
    | 3 => s.opGain
    | 4 => s.opMute
    | 5 => s.opXfmode
    | _ => s.mapResult op (if s.get Reg.AUD.CTRL_EN ≠ 1 then 16 else 11)

/-! ### Switch instants with coupled voices (R146, R254) -/

/-- The coupled voices of a video-out are resolved again. -/
def resolveOut (out : Nat) (s : State) : State :=
  s.each (s.coupledOut out) fun j t =>
    if t.flag (Reg.AUD.OV_MODE j) then t.voiceSwitch j (t.resolveVoice out (t.get (Reg.AUD.OV_POS j))) else t

/-- The video-outs whose audio walk passes a channel, the channel itself among them when it is one (R254). -/
def audioFollowers (i : Nat) (s : State) : List Nat :=
  s.liveChans.filter fun o =>
    handleKind (s.get (Reg.CHN.ENT_HANDLE o)) == 2 && (o == i || (s.converterWalk 64 (s.routeOf o)).1.contains i)

/-- The switch instant of an output or converter, a channel with an egress entry: its take, and at every one of them its voices and
those of the video-outs whose walk passes it (R254). -/
def switchAll (i : Nat) (s : State) : State :=
  if (s.chanEgr i).isNone then s
  else
    let s := s.switchInstant i
    s.each (s.audioFollowers i) resolveOut

/-! ### Block boundaries (R171, R172, R257, R260) -/

/-- A change that waits is applied at a boundary, when no fade is in progress. -/
def applyChange (j : Nat) (s : State) : State :=
  let v := s.outVoice j
  match v.change with
  | none => s
  | some c =>
      if fading v then s
      else
        let s := s.updOutVoice j fun x => { x with change := none }
        match c with
        | .fixed src => ((s.set (Reg.AUD.OV_MODE j) 0).voiceSwitch j src).showVoice j
        | .couple pos =>
            let o := handleIdx (s.get (Reg.AUD.OV_COUPLE j))
            (((s.set (Reg.AUD.OV_MODE j) 1).set (Reg.AUD.OV_POS j) pos).voiceSwitch j (s.resolveVoice o pos)).showVoice j

/-- Sample i of the block of an input voice that leaves the TSI now, 128 samples after it entered. -/
def heldSample (s : State) (v : Option Nat) (i : Nat) : Sample :=
  match v with
  | some n => ((s.inVoice n).older)[i]?.getD silence
  | none => silence

/-- A word held to 24 bits. -/
def sat24 (x : Int) : Int := satSigned 24 x

/-- cos(πk ÷ 2L) in units of 2^-60 (R146): the first terms of its series, of which the next is below that unit. -/
def cosQuarter (k l : Nat) : Int :=
  let x : Int := 1811004864519280710 * (k : Int) / (l : Int)
  let x2 := x * x / 2 ^ 60
  let step := fun (p : Int × Int) (n : Nat) =>
    let t := - (p.2 * x2 / 2 ^ 60) / (((2 * n + 1) * (2 * n + 2) : Nat) : Int)
    (p.1 + t, t)
  ((List.range 13).foldl step ((2 ^ 60 : Int), (2 ^ 60 : Int))).1

/-- Sample k of an equal-power crossfade of L samples (R146): the old voice alone at 0, the new one alone at L, and between
them the sum with the weights cos(πk ÷ 2L) and sin(πk ÷ 2L), whose rounding is open. -/
def crossfade (k l : Nat) (old new : Int) : Int :=
  if k = 0 then old
  else if l ≤ k then new
  else divFree 146 (old * cosQuarter k l + new * cosQuarter (l - k) l) (2 ^ 60)

/-- Sample i of the present block, the sample k of the TSI, of a voice with its switches, the newest first: before a switch
starts the voice before it, after it ends the new one, between them the crossfade. -/
def switchedSample (s : State) (i k : Nat) (cur : Option Nat) : List Fade → Sample
  | [] => s.heldSample cur i
  | f :: rest =>
      let n := s.heldSample f.new i
      if f.start + f.len ≤ k then n
      else
        let o := s.switchedSample i k f.old rest
        if k < f.start then o else { n with word := crossfade (k - f.start) f.len o.word n.word }

/-- The input voice whose block an output voice delivers at sample k; during a fade the old one. -/
def switchedSource (k : Nat) (cur : Option Nat) : List Fade → Option Nat
  | [] => cur
  | f :: rest => if f.start + f.len ≤ k then f.new else switchedSource k f.old rest

/-- A COUPLED voice is silent while its routed output has no frame at its read point, or one that is idle content (R128, R288). -/
def idleVoice (s : State) (j : Nat) : Bool :=
  let o := handleIdx (s.get (Reg.AUD.OV_COUPLE j))
  s.flag (Reg.AUD.OV_MODE j) && s.routeOf o != 0 && ((s.egr (s.outEgr o)).cur.all fun f => f.tstate == 1)

/-- One output sample of a voice: the voice in use or the crossfade, then the gain (R146, R258). -/
def outSample (s : State) (j i : Nat) : Sample :=
  let v := s.outVoice j
  let k := s.aud.block * 64 + i
  let base := if s.idleVoice j then silence else s.switchedSample i k (s.voiceSrc j) v.fades
  let a := ampAt v k
  if a = 16777216 then { base with word := sat24 base.word }
  else { base with word := sat24 (divFree 258 (base.word * a) 16777216) }

/-- The output sample of a voice at a tick: of the present block, or of the last 256 samples before it. -/
def outAt (s : State) (j tick : Nat) : Sample :=
  let h := (s.outVoice j).hist
  if tick / 64 = s.aud.block then s.outSample j (tick % 64)
  else if tick / 64 < s.aud.block then
    (if s.aud.block * 64 - tick ≤ h.length then h[h.length - (s.aud.block * 64 - tick)]?.getD silence else silence)
  else silence

/-- CRC-8 of a block (R171). -/
def blockCrc (l : List Sample) : Nat := l.foldl (fun c x => crcBits 8 7 24 (ofSigned 24 x.word) c) 0

/-- A switch or a ramp from sample `start` over `len` samples is in progress within the present block; one of no length falls inside
it. -/
def inBlock (start len : Nat) (s : State) : Bool :=
  decide (start < (s.aud.block + 1) * 64) && decide (s.aud.block * 64 < start + len)

/-- The check of one voice block: it fails on its source, counter or checksum (R171). -/
def blockFails (b : VoiceBlock) (s : State) : Bool :=
  let v := s.outVoice b.out
  let first := s.aud.block * 64
  let srcOk := ([first, first + 63].any fun k => switchedSource k (s.voiceSrc b.out) v.fades == some b.idx) ||
    v.fades.any fun f => s.inBlock f.start f.len && (f.old == some b.idx || f.new == some b.idx)
  let ctrBad := match v.tag with
    | some (i, c) => i == b.idx && (let d := (b.ctr + 512 - c) % 512; d == 0 || decide (256 ≤ d))
    | none => false
  let plain := !(v.fades.any fun f => s.inBlock f.start f.len) && !(v.ramps.any fun r => s.inBlock r.start r.len) &&
    ampAt v first == 16777216
  !srcOk || ctrBad || (plain && blockCrc b.samples != b.crc)

/-- The safe state of the video output a voice is coupled to asks for silence (R172). -/
def voiceSilences (j : Nat) (s : State) : Bool :=
  let h := s.get (Reg.AUD.OV_COUPLE j)
  let e := s.outEgr (handleIdx h)
  h != 0 && (s.get (Reg.PROV.OUT_SAFE e) == 1 || s.get (Reg.PROV.OUT_SAFE e) == 2)

/-- The block that an output voice delivers, with the tag its source was given on entry (R171): none with no source. -/
def ownBlock (s : State) (j : Nat) : Option VoiceBlock :=
  (switchedSource (s.aud.block * 64 + 63) (s.voiceSrc j) (s.outVoice j).fades).map fun v =>
    let t := (s.inVoice v).olderTag
    { out := j, idx := t / 131072 % 32768, ctr := t / 256 % 512, crc := t % 256,
      samples := (List.range 64).map fun i => s.heldSample (some v) i }

/-- The blocks that the check meets: an output voice's own, unless another is named as met in its place. -/
def metBlocks (s : State) (named : List VoiceBlock) (js : List Nat) : List VoiceBlock :=
  named ++ (js.filter fun j => !(named.map fun b => b.out).contains j).filterMap s.ownBlock

/-- A voice is checked: with a source and with a gain (R260). -/
def voiceChecked (j : Nat) (s : State) : Bool :=
  s.flag (Reg.AUD.OV_SRCV j) && toSigned 16 (s.get (Reg.AUD.OV_GAIN j)) != -32768

/-- A voice block is checked (R171, R172, R260). -/
def checkVoice (b : VoiceBlock) (s : State) : State :=
  let j := b.out
  if s.voiceChecked j then
    let bad := s.blockFails b
    let s := s.updOutVoice j fun v => { v with tag := some (b.idx, b.ctr) }
    if bad then
      let s := (s.bump (Reg.AUD.OV_FAILCNT j) 1).updOutVoice j fun v => { v with passes := 0 }
      if s.get (Reg.AUD.OV_STATE j) = 4 then s
      else
        let s := ((s.set (Reg.AUD.OV_STATE j) 4).bump Reg.AUD.FAILVOICES 1).raise 1272 [j]
        s.when (s.voiceSilences j) fun t => (t.updOutVoice j fun v => { v with silenced := true }).startRamp j 0 64
    else if s.get (Reg.AUD.OV_STATE j) = 4 then
      let n := (s.outVoice j).passes + 1
      if 8 ≤ n then
        let was := (s.outVoice j).silenced
        let s := (((s.set Reg.AUD.FAILVOICES (s.get Reg.AUD.FAILVOICES - 1)).set (Reg.AUD.OV_STATE j) 1).updOutVoice j fun v =>
          { v with passes := 0, silenced := false })
        (s.when was (startRamp j (s.voiceTarget j) 64)).showVoice j
      else s.updOutVoice j fun v => { v with passes := n }
    else s
  else s

/-- Fades and ramps that have ended are taken away; a released input's voice then shows no source (R259). -/
def endFades (j : Nat) (s : State) : State :=
  let k := (s.aud.block + 1) * 64
  let s := s.updOutVoice j fun v =>
    { v with fades := v.fades.takeWhile fun f => decide (k < f.start + f.len),
             amp := ampAt v k, ramps := liveRamps k v.ramps }
  let gone := (s.outVoice j).freed && (s.outVoice j).ramps == []
  let s := s.when gone fun t =>
    (((t.set (Reg.AUD.OV_SRCV j) 0).set (Reg.AUD.OV_SRC j) 0).updOutVoice j fun v =>
      { v with freed := false, fades := [], tag := none, amp := t.voiceTarget j }).audEvent 3 [j]
  s.showVoice j

/-- The voices in use: those with an owner. -/
def voicesInUse (s : State) : List Nat :=
  dedup (s.aud.outs.map (·.1) ++ ((s.chn.chans.map fun p => granuleVoices p.2.gout).flatten))

/-- 64 samples of a block, padded with silence. -/
def padBlock (l : List Sample) : List Sample := (l ++ List.replicate 64 silence).take 64

/-- The block of an input voice ends: it takes its tag (R171), and the block before it becomes the one delivered. -/
def endBlock (count v : Nat) (x : InVoice) : InVoice :=
  let b := padBlock x.cur
  { cur := [], last := b, older := x.last, lastTag := blockTag v count (blockCrc b), olderTag := x.lastTag }

/-- The block of an input voice that leaves the TSI is read (R174, R175): what an uncorrectable error strikes is silence. -/
def readBlock (v : Nat) (s : State) : State :=
  let q := s.wordBad 7 v 0
  let s := q.2.when (q.1 == 1) (sramCor 7 v)
  s.when (decide (2 ≤ q.1)) fun t => (t.bump (Reg.PROV.ECC_UNCORR 7) 1).updAud fun x =>
    { x with ins := Assoc.modify x.ins v fun i => { i with older := i.older.map fun _ => silence, olderTag := i.olderTag / 256 * 256 } }

/-- A block boundary has come since the last: the sample count from the epoch is a multiple of 64 (R248). -/
def boundaryDue (s : State) : Bool := s.tsiRuns && s.sampleTick % 64 == 0 && s.sampleTick / 64 != s.aud.block

/-- A block boundary: the blocks are checked, the output blocks made, ended fades taken away, changes applied, and a
new block begun. `named` are the blocks that the check meets in place of a voice's own. -/
def blockBoundary (named : List VoiceBlock) (s : State) : State :=
  let js := s.voicesInUse
  let s := (s.each js readMapEntry).each (s.aud.ins.map fun p => p.1) readBlock
  let s := s.each (s.metBlocks named js) checkVoice
  let outs := js.map fun j => (j, (List.range 64).map fun i => s.outSample j i)
  let s := s.each outs fun p t => t.updOutVoice p.1 fun v => { v with out := p.2, hist := (v.hist ++ p.2).drop ((v.hist ++ p.2).length - 256) }
  let s := (s.each js endFades).updLode fun x => { x with audOfs := 0 }
  let s := s.updAud fun x =>
    { x with block := s.sampleTick / 64, count := x.count + 1, ins := x.ins.map fun p => (p.1, endBlock x.count p.1 p.2) }
  (s.each (s.aud.ins.map fun p => p.1) fun v t => t.chkinvStruckAt 7 v).each js applyChange

/-! ### Allocation and release -/

/-- The granules of a channel are given (R250, R252): input granules, and output granules whose voices start COUPLED at
their position in the coupled list, or FIXED with no source. -/
def giveIn (i : Nat) (gs : List Nat) (s : State) : State :=
  s.each gs.zipIdx fun p t =>
    (((t.set (Reg.AUD.IGR_VALID p.1) 1).set (Reg.AUD.IGR_TDM p.1) 0).set (Reg.AUD.IGR_CHIDX p.1) i).set (Reg.AUD.IGR_ORD p.1) p.2
def giveOut (i : Nat) (gs : List Nat) (s : State) : State :=
  let s := s.each gs.zipIdx fun p t =>
    (((t.set (Reg.AUD.OGR_VALID p.1) 1).set (Reg.AUD.OGR_TDM p.1) 0).set (Reg.AUD.OGR_CHIDX p.1) i).set (Reg.AUD.OGR_ORD p.1) p.2
  s.each (granuleVoices gs) fun j t => (t.set (Reg.AUD.OV_VALID j) 1).set (Reg.AUD.OV_STATE j) 5

/-- The voices of a coupled list that has changed follow their positions (R251): of those that stay, one COUPLED at its own
old position takes its new one, and no other changes; those that have left are FIXED. -/
def moveVoices (old new : List Nat) (s : State) : State :=
  s.each old.zipIdx fun p t =>
    match new.idxOf? p.1 with
    | some q => t.when (t.flag (Reg.AUD.OV_MODE p.1) && t.get (Reg.AUD.OV_POS p.1) == p.2) fun u => u.set (Reg.AUD.OV_POS p.1) q
    | none => ((t.set (Reg.AUD.OV_MODE p.1) 0).set (Reg.AUD.OV_POS p.1) 0).set (Reg.AUD.OV_COUPLE p.1) 0

/-- The output voices of a video-out's coupled list are coupled to it at their positions, from a position onward. -/
def coupleVoices (out first : Nat) (s : State) : State :=
  let h := s.get (Reg.CHN.ENT_HANDLE out)
  s.each ((s.coupledOut out).zipIdx.drop first) fun p t =>
    ((t.set (Reg.AUD.OV_MODE p.1) 1).set (Reg.AUD.OV_POS p.1) p.2).set (Reg.AUD.OV_COUPLE p.1) h

/-- A change that waits for a boundary and names an input that is released leaves its voice with no source (R259). -/
def freeChange (voices : List Nat) (c : Option VoiceChange) : Option VoiceChange :=
  c.map fun x => match x with
    | .fixed (some v) => if voices.contains v then .fixed none else x
    | _ => x

/-- A FIXED voice whose input is released ramps to silence over 64 samples; its entry then shows no source, and no change that waits
brings a later owner of that input to it (R259). -/
def freeSource (voices : List Nat) (s : State) : State :=
  let s := s.each s.voicesInUse fun j t => t.updOutVoice j fun v => { v with change := freeChange voices v.change }
  s.each (s.voicesInUse.filter fun j =>
      !s.flag (Reg.AUD.OV_MODE j) && match s.voiceSrc j with
        | some v => voices.contains v
        | none => false) fun j t =>
    (t.updOutVoice j fun v => { v with freed := true }).startRamp j 0 64

/-- The words of an output voice entry are cleared; one that failed fails no more. -/
def clearVoice (j : Nat) (s : State) : State :=
  let s := s.when (s.get (Reg.AUD.OV_STATE j) == 4) fun t => t.set Reg.AUD.FAILVOICES (t.get Reg.AUD.FAILVOICES - 1)
  (s.clearWords ((Reg.AUD.OV_COUPLE j).addr - 8)).updAud fun x => { x with outs := Assoc.del x.outs j }

/-- The granules of a released channel return to the pool (R250, R259). -/
def dropGranules (c : Chan) (s : State) : State :=
  let s := s.each c.gin fun g t => t.wr (Reg.AUD.IGR_VALID g).addr 0
  let s := s.each c.gout fun g t => t.wr (Reg.AUD.OGR_VALID g).addr 0
  let s := s.each (granuleVoices c.gout) clearVoice
  (s.freeSource (granuleVoices c.gin)).updAud fun x =>
    { x with ins := x.ins.map fun p => if (granuleVoices c.gin).contains p.1 then (p.1, { p.2 with cur := [] }) else p }

/-- AUD starts (R249, R272): the TDM granules and voices show as owned; a rate other than that of the granules held
blocks the start. The Boolean says that it starts. -/
def audStart (s : State) : State × Bool :=
  let held := s.chn.chans.any fun p => p.2.gin != [] || p.2.gout != []
  let r := s.use Reg.AUD.CFG_RATE
  if held ∧ r ≠ s.aud.granRate then (s.set Reg.AUD.STAT_RATE_BLOCK 1, false)
  else
    let s := (s.set Reg.AUD.STAT_RATE_BLOCK 0).updAud fun x => { x with granRate := r }
    let s := s.each (List.range 128) fun g t =>
      (((t.set (Reg.AUD.IGR_VALID g) 1).set (Reg.AUD.IGR_TDM g) 1).set (Reg.AUD.OGR_VALID g) 1).set (Reg.AUD.OGR_TDM g) 1
    (s.each (List.range 512) fun j t =>
      if t.flag (Reg.AUD.OV_VALID j) then t else (t.set (Reg.AUD.OV_VALID j) 1).set (Reg.AUD.OV_STATE j) 5, true)

end State

/-- SWITCH_INSTANT (R126) of the output with channel index `out`. -/
def execSwitchInstant (out : Nat) (s : State) : Host.Outcome State Fault Refusal := .next (s.switchAll out)

end Sys2Proof.Machine
end

