-- ==== Sys2Proof/Machine/Aprt.lean ====
section
/-! DEFINITION. Chapter 9: the serial audio ports. Start and stop, frames, FIFO slips, clock loss, rate measurement and
ASRC voices. -/

namespace Sys2Proof.Machine

namespace State

/-- A port's hidden state. -/
def AprtState.fresh : AprtState :=
  { frames := 0, stamps := [], refRate := 0, rangeRaised := false, fifoIn := [], fifoOut := 4, lastTick := 0, runTick := 0,
    lastFrame := [], edge := 0, asrcAt := none }
def aprt (s : State) (n : Nat) : AprtState := Assoc.findD s.aud.ports n AprtState.fresh
def updAprt (n : Nat) (f : AprtState → AprtState) (s : State) : State :=
  s.updAud fun x => { x with ports := Assoc.put x.ports n (f (s.aprt n)) }

/-- Slots per frame, bits per slot, and mode (R261, R265). -/
def aprtSlots (s : State) (n : Nat) : Nat := s.use (Reg.APRT.CFG_SLOTS n) + 1
def aprtWidth (s : State) (n : Nat) : Nat :=
  match s.use (Reg.APRT.CFG_WIDTH n) with | 0 => 16 | 1 => 24 | _ => 32
def aprtMode (s : State) (n : Nat) : Nat := s.use (Reg.APRT.CFG_MODE n)

/-- The selected slots of a direction (R263). -/
def aprtMask (s : State) (n : Nat) (tx : Bool) : List Nat :=
  let m := if tx then s.use (Reg.APRT.TXMASKLO n) + s.use (Reg.APRT.TXMASKHI n) * 2 ^ 32
    else s.use (Reg.APRT.RXMASKLO n) + s.use (Reg.APRT.RXMASKHI n) * 2 ^ 32
  (List.range (s.aprtSlots n)).filter fun k => bit m k

/-- The voice index of each selected slot of a direction (R263). -/
def aprtMap (s : State) (n : Nat) (tx : Bool) : List (Nat × Nat) :=
  let sel := s.aprtMask n tx
  if s.use (Reg.APRT.CFG_COMPACT n) = 1 then sel.zipIdx.map fun p => (p.1, 64 * n + p.2)
  else sel.map fun k => (k, 64 * n + k)

/-- Enter RUN (R264, R266): the FIFOs are filled with 4 frames of silence. -/
def aprtRun (n : Nat) (s : State) : State :=
  let s := (s.set (Reg.APRT.STAT_STATE n) 3).updAprt n fun x =>
    { x with fifoIn := List.replicate 4 [], fifoOut := 4, lastTick := s.sampleTick, runTick := s.sampleTick, lastFrame := [] }
  s.when (s.aprtMask n false == [] && s.aprtMask n true == []) (aprtCause n 5)

/-- A port starts (R261, R265, R266, R268). The Boolean says that it starts. -/
def aprtStart (n : Nat) (s : State) : State × Bool :=
  let mode := s.aprtMode n
  let need := (s.aprtMask n false).length + (s.aprtMask n true).length
  let held := sumList (s.aud.asrc.map (·.2))
  let s := s.updAprt n fun _ => AprtState.fresh
  if mode = 3 then (s.aprtCause n 0, false)
  else if mode = 0 ∧ 98304000 < s.aprtSlots n * s.aprtWidth n * s.tsiRate then (s.aprtCause n 8, false)
  else if mode = 0 then ((s.set (Reg.APRT.STAT_ASRC_SHORT n) 0).aprtRun n, true)
  else if mode = 2 ∧ 512 < held + need then ((s.set (Reg.APRT.STAT_ASRC_SHORT n) 1).aprtCause n 6, false)
  else
    let s := s.when (mode == 2) fun t =>
      (t.updAud fun x => { x with asrc := Assoc.put x.asrc n need }).set (Reg.APRT.RATEINFO_ASRCV n) need
    ((s.set (Reg.APRT.STAT_ASRC_SHORT n) 0).set (Reg.APRT.STAT_STATE n) 1, true)

/-- A slot word as an audio word (R261). -/
def slotSample (w v : Nat) : Sample :=
  { word := toSigned 24 (if w = 16 then v * 256 else if w = 24 then v else v / 256), vuc := 0 }

/-- The samples of a frame enter the TSI at a tick (R263). -/
def aprtIn (n tick : Nat) (f : Sample → Sample) (slots : List Nat) (s : State) : State :=
  s.each (s.aprtMap n false) fun p t => t.voiceAt p.2 tick (f (slotSample (t.aprtWidth n) (slots.getD p.1 0)))

/-- A sample converted by an ASRC voice (R268): faded in over 64 samples from its lock, faded out over 64 from its loss. -/
def asrcSample (s : State) (n tick : Nat) (x : Sample) : Sample :=
  let k := match (s.aprt n).asrcAt with
    | some a => min 64 (tick - a)
    | none => if s.flag (Reg.APRT.RATEINFO_ASRCLOCK n) then 64 else 0
  let w := if s.flag (Reg.APRT.RATEINFO_ASRCLOCK n) then k else if (s.aprt n).asrcAt.isSome then 64 - k else 0
  { x with word := sat24 (divFree 268 (Config.asrc n tick x.word * (w : Int)) 64) }

/-- The TSI takes a sample at a tick from a slave port in RUN: from the FIFO, of which a frame is repeated where it would fall to 1,
or through the ASRC voices (R267, R268). -/
def aprtTakeOne (n tick : Nat) (s : State) : State :=
  let x := s.aprt n
  if s.aprtMode n = 2 then s.aprtIn n tick (s.asrcSample n tick) x.lastFrame
  else
    match x.fifoIn with
    | f :: rest =>
        if rest.length ≤ 1 then (s.bump (Reg.APRT.SLIPCNT_REPEATS n) 1).aprtCause n 4 |>.aprtIn n tick id x.lastFrame
        else (s.updAprt n fun y => { y with fifoIn := rest, lastFrame := f }).aprtIn n tick id f
    | [] => s

/-- The TSI and a slave port in RUN have exchanged samples up to a tick: those of the ticks since the last, at most a block of
them, enter the TSI, and as many frames have entered the output FIFO, of which one is held back where it would rise to 7. -/
def aprtTake (upTo n : Nat) (s : State) : State :=
  let x := s.aprt n
  if s.get (Reg.APRT.STAT_STATE n) ≠ 3 ∨ s.aprtMode n = 0 ∨ upTo ≤ x.lastTick then s
  else
    let d := min 64 (upTo - x.lastTick)
    let s := s.each (List.range d) fun i t => t.aprtTakeOne n (upTo + 1 - d + i)
    let held := x.fifoOut + d - 6
    let s := s.when (s.aprtMode n == 1 && held != 0) fun t => (t.bump (Reg.APRT.SLIPCNT_REPEATS n) held).aprtCause n 4
    s.updAprt n fun y => { y with lastTick := upTo, fifoOut := min 6 (x.fifoOut + d) }

/-- The sample a voice gives DOUT in the frame sent now (R263, R267, R268). -/
def aprtSample (s : State) (n j : Nat) : Sample :=
  let now := s.sampleTick
  match s.aprtMode n with
  | 0 => s.outAt j now
  | 2 => s.asrcSample n now (s.outAt j now)
  | _ =>
      let tick := now + 1 - (s.aprt n).fifoOut
      if tick ≤ (s.aprt n).runTick then silence else s.outAt j tick

/-- The slots driven on DOUT for a frame (R263, R266). -/
def aprtOut (n : Nat) (s : State) : List (Option Nat) :=
  let map := s.aprtMap n true
  let w := s.aprtWidth n
  let off : Option Nat := if s.use (Reg.APRT.CFG_TRISTATE n) = 1 then none else some 0
  (List.range (s.aprtSlots n)).map fun k =>
    if s.get (Reg.APRT.STAT_STATE n) = 3 then
      match map.find? fun p => p.1 == k with
      | some p =>
          let u := ofSigned 24 (s.aprtSample n p.2).word
          some (if w = 16 then u / 256 else if w = 24 then u else u * 256)
      | none => off
    else off

/-- DOUT takes a frame from the output FIFO; one is sent twice where it would fall to 1 (R267). -/
def aprtSent (n : Nat) (s : State) : State :=
  if s.get (Reg.APRT.STAT_STATE n) ≠ 3 ∨ s.aprtMode n ≠ 1 then s
  else if (s.aprt n).fifoOut ≤ 2 then (s.bump (Reg.APRT.SLIPCNT_DROPS n) 1).aprtCause n 4
  else s.updAprt n fun x => { x with fifoOut := x.fifoOut - 1 }

/-- A frame enters the input FIFO, or is dropped where the FIFO would rise to 7 (R267). -/
def aprtPush (n : Nat) (slots : List Nat) (s : State) : State :=
  if 6 ≤ (s.aprt n).fifoIn.length then (s.bump (Reg.APRT.SLIPCNT_DROPS n) 1).aprtCause n 4
  else s.updAprt n fun x => { x with fifoIn := x.fifoIn ++ [slots] }

/-- A running port's samples up to now are exchanged, and the frames left in its FIFO discarded (R266). -/
def aprtLeave (n : Nat) (s : State) : State :=
  (s.aprtTake s.sampleTick n).updAprt n fun x => { x with fifoIn := [], lastFrame := [] }

/-- A port stops; its ASRC voices return (R266, R268). -/
def aprtStop (n : Nat) (s : State) : State :=
  ((((s.aprtLeave n).set (Reg.APRT.STAT_STATE n) 0).updAud fun x => { x with asrc := Assoc.del x.asrc n }).set
    (Reg.APRT.RATEINFO_ASRCV n) 0).set (Reg.APRT.RATEINFO_ASRCLOCK n) 0

/-- The class of a rate in mHz (R270). -/
def rateClass (r : Nat) : Nat :=
  let near := fun c : Nat => decide (99 * c ≤ 100 * r) && decide (100 * r ≤ 101 * c)
  if near 32000000 then 1 else if near 44100000 then 2 else if near 48000000 then 3
  else if near 88200000 then 4 else if near 96000000 then 5 else 0

/-- A rate in mHz lies in the range of the port's mode (R265). -/
def aprtInRange (n r : Nat) (s : State) : Bool :=
  match s.aprtMode n with
  | 1 =>
      let t := s.tsiRate * 1000
      decide (999 * t ≤ 1000 * r) && decide (1000 * r ≤ 1001 * t)
  | 2 => decide (30000000 ≤ r) && decide (r ≤ 100000000)
  | _ => true

/-- RATE_CHG and what it brings (R268, R270). -/
def aprtRateStep (n r : Nat) (s : State) : State :=
  let ref := (s.aprt n).refRate
  let d := ((r : Int) - ref).natAbs
  if max 1 (s.get (Reg.APRT.RATETOL n)) * ref < d * 1000000 then
    let s := ((s.bump (Reg.APRT.CNT_RATECHG n) 1).aprtCause n 3).updAprt n fun x => { x with refRate := r }
    s.when (s.aprtMode n == 2) fun t =>
      ((t.when (t.flag (Reg.APRT.RATEINFO_ASRCLOCK n)) (updAprt n fun x => { x with asrcAt := some t.sampleTick })).set
        (Reg.APRT.RATEINFO_ASRCLOCK n) 0).aprtCause n 7
  else s

/-- The port judges a new rate (R266, R270). -/
def aprtJudgeRate (n r : Nat) (s : State) : State :=
  let s := (s.set (Reg.APRT.RATE n) r).set (Reg.APRT.RATEINFO_CLASS n) (rateClass r)
  if s.get (Reg.APRT.STAT_STATE n) = 2 then
    if s.aprtInRange n r then
      let s := (s.updAprt n fun x => { x with refRate := r }).aprtCause n 2
      s.aprtRun n
    else if (s.aprt n).rangeRaised then s
    else (s.updAprt n fun x => { x with rangeRaised := true }).aprtCause n 8
  else
    let s := s.aprtRateStep n r
    if s.aprtInRange n r then s
    else (((s.aprtLeave n).set (Reg.APRT.STAT_STATE n) 2).updAprt n fun x => { x with rangeRaised := true, frames := 0, stamps := [] }).aprtCause n 8

/-- Every 64th frame is time-stamped, and the rate measured over 16 blocks (R269, R270). -/
def aprtStamp (n : Nat) (s : State) : State :=
  let x := s.aprt n
  let s := s.updAprt n fun y => { y with frames := y.frames + 1 }
  if x.frames % 64 ≠ 0 then s
  else
    let t := s.timeNs
    let st := (t :: x.stamps).take 17
    let s := (((s.updAprt n fun y => { y with stamps := st }).set (Reg.APRT.BTSLO n) t).set (Reg.APRT.BTSHI n) (t / 2 ^ 32)).set
      (Reg.APRT.BTSCNT n) (x.frames / 64)
    match st[16]? with
    | some t0 => if t0 < t then s.aprtJudgeRate n (divFree 270 (1024 * 10 ^ 12) ((t - t0 : Nat) : Int)).toNat else s
    | none => s

/-- A sound frame of a running port: to the TSI at once in MASTER, to the FIFO in SLAVE_SYNC, to the ASRC voices in SLAVE_ASRC. -/
def aprtGoodFrame (n : Nat) (slots : List Nat) (s : State) : State :=
  match s.aprtMode n with
  | 0 => (s.aprtIn n s.sampleTick id slots).updAprt n fun x => { x with lastFrame := slots }
  | 1 => s.aprtPush n slots
  | _ => s.updAprt n fun x => { x with lastFrame := slots }

/-- A frame with the wrong bit-clock count: its input is discarded, and the frame before it stands for it, as in an underrun
(R262). -/
def aprtBadFrame (n : Nat) (s : State) : State :=
  let s := (s.bump (Reg.APRT.CNT_FRMERR n) 1).aprtCause n 9
  if s.get (Reg.APRT.STAT_STATE n) ≠ 3 then s
  else
    let s := s.aprtGoodFrame n (if s.aprtMode n = 1 then (s.aprt n).fifoIn.getLast?.getD (s.aprt n).lastFrame else (s.aprt n).lastFrame)
    (s.bump (Reg.APRT.SLIPCNT_REPEATS n) 1).aprtCause n 4

/-- One TDM frame, ended by an FS edge (R262, R266, R269). -/
def aprtFrame (n bclks : Nat) (slots : List Nat) (s : State) : State :=
  let st := s.get (Reg.APRT.STAT_STATE n)
  if st = 0 then s
  else
    let s := (s.aprtTake s.sampleTick n).updAprt n fun x => { x with edge := s.now }
    if st = 1 ∨ st = 4 then
      ((s.set (Reg.APRT.STAT_STATE n) 2).updAprt n fun x => { x with frames := 0, stamps := [], rangeRaised := false }).aprtStamp n
    else
      let s := if bclks = s.aprtSlots n * s.aprtWidth n then s.when (st == 3) (aprtGoodFrame n slots) else s.aprtBadFrame n
      ((s.emit (.tdm n (s.aprtOut n))).aprtSent n).aprtStamp n

/-- No FS edge for 4 frame periods at the last measured rate (R266). -/
def aprtClkLost (n : Nat) (s : State) : State :=
  if s.get (Reg.APRT.STAT_STATE n) = 3 ∧ s.aprtMode n ≠ 0 ∧
      4000000000000 ≤ (s.now - (s.aprt n).edge) * s.get (Reg.APRT.RATE n) then
    (((s.aprtLeave n).set (Reg.APRT.STAT_STATE n) 4).bump (Reg.APRT.CNT_CLKLOST n) 1).aprtCause n 1
  else s

end State

/-- APRT_FRAME (R262): a bit clock beyond the limit on a slave port stops the machine, for the spec gives no
behaviour (R261). -/
def execAprtFrame (n bclks hz : Nat) (slots : List Nat) (s : State) : Host.Outcome State Fault Refusal :=
  if s.get (Reg.APRT.STAT_STATE n) ≠ 0 ∧ s.aprtMode n ≠ 0 ∧ 98304000 < hz then .fault .aprtClockTooFast
  else .next (s.when (decide (n < 8)) (State.aprtFrame n bclks slots))

/-- ASRC_RELOCK_DONE (R268). -/
def execAsrcRelockDone (n : Nat) (s : State) : Host.Outcome State Fault Refusal :=
  .next (s.when (decide (n < 8) && s.aprtMode n == 2 && s.get (Reg.APRT.STAT_STATE n) == 3)
    fun t => (t.updAprt n fun x => { x with asrcAt := some t.sampleTick }).set (Reg.APRT.RATEINFO_ASRCLOCK n) 1)

/-- CLKLOST (R266). -/
def execClklost (n : Nat) (s : State) : Host.Outcome State Fault Refusal :=
  .next (s.when (decide (n < 8)) (State.aprtClkLost n))

/-- AUDIO_BLOCK_BOUNDARY (R248, R257, R171): where the count of samples reaches a multiple of 64, once the slave ports have given
the samples of the ended block; `blocks` are those that the check meets in place of an output voice's own, struck on their way
through the matrix. -/
def execAudioBlockBoundary (blocks : List VoiceBlock) (s : State) : Host.Outcome State Fault Refusal :=
  .next (if s.boundaryDue then (s.each (List.range 8) (State.aprtTake (s.sampleTick - 1))).blockBoundary blocks else s)

end Sys2Proof.Machine
end

