-- ==== Sys2Proof/Machine/Avs.lean ====
section
/-! DEFINITION. Chapter 25, adaptive voltage (R603): the requests the chip sends on the AVSBus. -/

namespace Sys2Proof.Machine

namespace State

/-- Change adaptive voltage. -/
def updAvs (f : AvsState → AvsState) (s : State) : State := { s with avs := f s.avs }

/-- A request may be sent: in service, none awaited, none refused before, and 1 ms after the one before. -/
def avsReady (s : State) : Bool :=
  s.inService && !s.avs.stopped && !s.avs.waiting && (match s.avs.last with | some t => decide (t + 1000000 ≤ s.now) | none => true)

/-- The target a step of 5 mV leads to, held to 0.700–0.800 V. -/
def avsTarget (up : Bool) (s : State) : Nat := max 700 (min 800 (if up then s.avs.target + 5 else s.avs.target - 5))

/-- A request for a new target is sent. -/
def avsRequest (up : Bool) (s : State) : State :=
  if s.avsReady ∧ s.avsTarget up ≠ s.avs.target then
    (s.updAvs fun a => { a with target := s.avsTarget up, last := some s.now, waiting := true }).emit (.avs (s.avsTarget up))
  else s

/-- The 1 ms in which the regulator has to answer is over. -/
def avsLate (s : State) : Bool := s.avs.last.any fun t => decide (t + 1000000 ≤ s.now)

/-- The regulator answers; an answer after its 1 ms is none. -/
def avsAnswer (ok : Bool) (s : State) : State :=
  if s.avs.waiting then s.updAvs fun a => { a with waiting := false, stopped := a.stopped || !ok || s.avsLate } else s

/-- The regulator does not answer within 1 ms. -/
def avsTimeout (s : State) : State :=
  if s.avs.waiting ∧ s.avsLate then s.updAvs fun a => { a with waiting := false, stopped := true } else s

end State

/-- AVS_REQUEST (R603): a step of 5 mV up or down. -/
def execAvsRequest (up : Bool) (s : State) : Host.Outcome State Fault Refusal := .next (s.avsRequest up)

/-- AVS_ANSWER (R603). -/
def execAvsAnswer (ok : Bool) (s : State) : Host.Outcome State Fault Refusal := .next (s.avsAnswer ok)

/-- AVS_TIMEOUT (R603). -/
def execAvsTimeout (s : State) : Host.Outcome State Fault Refusal := .next s.avsTimeout

end Sys2Proof.Machine
end

