-- ==== Sys2Proof/Machine/Sdi.lean ====
section
/-! DEFINITION. Chapter 7: the SDI engines. Rate hunt, line structure, format measurement, payload ID, line checks,
ancillary data and embedded audio, and the frames that outputs send. Engine n is SDI[n] for n below 512, and the
ST 2022-6 receive engine IPM.S6R[n − 512] above (R242). -/

namespace Sys2Proof.Machine

/-- The page of an engine. -/
def enginePage (n : Nat) : Nat := if n < 512 then sdiPage n else s6rPage (n - 512)

/-! ### XYZ words (R187) -/

/-- The XYZ word of F, V and H, with its protection bits. -/
def xyzWord (k : Nat) : Nat :=
  let f := bit k 2
  let v := bit k 1
  let h := bit k 0
  512 + 256 * b2n f + 128 * b2n v + 64 * b2n h + 32 * b2n (v != h) + 16 * b2n (f != h) + 8 * b2n (f != v) +
    4 * b2n ((f != v) != h)

/-- How many bits of two 10-bit words differ. -/
def distance10 (a b : Nat) : Nat := ((List.range 10).filter fun i => bit a i != bit b i).length

/-- A received XYZ word: the F, V and H it carries, and whether a single-bit error was corrected; none when it cannot be
corrected. -/
def readXyz (w : Nat) : Option (Nat × Bool) :=
  match (List.range 8).find? fun k => xyzWord k == w with
  | some k => some (k, false)
  | none => ((List.range 8).find? fun k => distance10 (xyzWord k) w == 1).map fun k => (k, true)

/-- A TRS with this XYZ word stands where an EAV (H = 1) or an SAV (H = 0) belongs: found, and corrected. -/
def readTrs (h : Bool) (w : Option Nat) : Bool × Bool :=
  match w with
  | none => (false, false)
  | some x =>
      match readXyz x with
      | some (k, c) => (bit k 0 == h, c)
      | none => (false, false)

/-! ### Formats -/

/-- Mappings that payload ID alone tells apart: level A and B-DL, 2SI and square division (R188). -/
def mapTwins (a b : Nat) : Bool :=
  a == b || ([1, 2].contains a && [1, 2].contains b) || ([5, 6].contains a && [5, 6].contains b)

/-- A measured format with the fields of another that only payload ID could tell apart (R188): the mapping among its twins,
interlaced against segmented, sampling and depth, where a format so named is listed beside the one measured. -/
def fmtAs (m d : Nat) : Nat :=
  let c := setBits (setBits (setBits m 31 28 (fmtMap d)) 27 24 (if fmtSeg m && fmtSeg d then fmtStruct d else fmtStruct m)) 19 17
    (bits d 19 17)
  if mapTwins (fmtMap m) (fmtMap d) then (if fmtListed c then c else setBits m 31 28 (fmtMap d)) else m

/-! ### Lines of an interface structure (PRESUMED: ST 274, ST 296, ST 292) -/

/-- The second field, and vertical blanking, of a line numbered from 1. -/
def lineField (w l : Nat) : Bool := fmtSeg w && decide (564 ≤ l)
def lineBlank (w l : Nat) : Bool :=
  if fmtStruct w = 3 then decide (l ≤ 25) || decide (746 ≤ l)
  else if fmtSeg w then decide (l ≤ 20) || (decide (561 ≤ l) && decide (l ≤ 583)) || decide (1124 ≤ l)
  else decide (l ≤ 41) || decide (1122 ≤ l)

/-- Words of a line of one data stream. -/
def lineWords (w : Nat) : Nat :=
  match fmtFps w with
  | 24 => if fmtStruct w = 3 then 4125 else 2750
  | 25 => if fmtStruct w = 3 then 3960 else 2640
  | 30 => if fmtStruct w = 3 then 3300 else 2200
  | 50 => if fmtStruct w = 3 then 1980 else 2640
  | _ => if fmtStruct w = 3 then 1650 else 2200

/-- Words of the active picture on a line of one data stream. -/
def activeWords (w : Nat) : Nat := if fmtStruct w = 3 then 1280 else if fmtStruct w = 5 then 2048 else 1920

/-- Words of horizontal blanking that ANC packets may take, from the line CRC to the SAV, beside those that embedded audio takes. -/
def hancWords (w taken : Nat) : Nat := lineWords w - activeWords w - 12 - taken

/-- Words of an ANC packet. -/
def ancWords (p : AncPkt) : Nat := 7 + p.udw.length

/-- The lines that the payload ID of a format stands on (PRESUMED: ST 352). -/
def pidLines (w : Nat) : List Nat := if fmtSeg w then [10, 572] else [10]

/-- A packet has room in the horizontal blanking of a line of its data stream, after the packets there and the payload ID. -/
def ancFits (w taken : Nat) (there : List AncPkt) (p : AncPkt) (l : Nat) : Bool :=
  let used := sumList ((there.filter fun q => q.line == l && q.stream == p.stream && !q.vanc).map ancWords)
  decide (used + (if (pidLines w).contains l then 11 else 0) + ancWords p ≤ hancWords w taken)

/-- The line a side-store packet goes on (R200): its own, or the next with room in the vertical blanking of the same field. -/
def ancLine (w taken : Nat) (there : List AncPkt) (p : AncPkt) : Option Nat :=
  if ancFits w taken there p p.line then some p.line
  else (List.range (fmtLines w + 1)).find? fun l =>
    decide (p.line < l) && lineBlank w l && lineField w l == lineField w p.line && ancFits w taken there p l

/-- Side-store packets are placed in order; those that find no room are left over. -/
def placeAnc (w taken : Nat) (there : List AncPkt) : List AncPkt → List AncPkt × Nat
  | [] => ([], 0)
  | p :: ps =>
      match ancLine w taken there p with
      | some l => let q := { p with line := l, vanc := false }; let r := placeAnc w taken (there ++ [q]) ps; (q :: r.1, r.2)
      | none => let r := placeAnc w taken there ps; (r.1, r.2 + 1)

/-- A flow has a second leg (R214). -/
def dDual (d : List Nat) : Bool := bit (d.getD 0 0) 26

/-- The words of a leg: 0 is A, 1 is B. -/
def legWord (d : List Nat) (leg k : Nat) : Nat := d.getD ((if leg = 0 then 5 else 10) + k) 0
/-- The port of a leg. -/
def legPort (d : List Nat) (leg : Nat) : Nat := bits (legWord d leg 0) 5 0

/-- The legs a flow has. -/
def dLegs (d : List Nat) : List Nat := if dDual d then [0, 1] else [0]

/-- Audio groups a link of a mapping carries (R202). -/
def linkGroups (m : Nat) : Nat := if m = 0 ∨ m = 3 then 4 else 8

/-- The groups of a mask that a link of a format carries, lowest first (R202). -/
def maskGroups (fmt mask : Nat) : List Nat := (List.range (linkGroups (fmtMap fmt))).filter fun g => bit mask g

namespace State

/-- Change the SDI engines. -/
def updSdi (f : SdiState → SdiState) (s : State) : State := { s with sdi := f s.sdi }

/-- The hidden state of an engine. -/
def SdiRx.fresh : SdiRx :=
  { spacing := 0, good := 0, bad := 0, measuring := false, pid0 := ⟨0, none, none⟩, pid1 := ⟨0, none, none⟩, fmtOk := false, groups := 0,
    errSec := none, hunt := 3, lastAudio := [], rates := [] }
def sdiRx (s : State) (n : Nat) : SdiRx := Assoc.findD s.sdi.rx (enginePage n) SdiRx.fresh
def updRx (n : Nat) (f : SdiRx → SdiRx) (s : State) : State :=
  s.updSdi fun x => { x with rx := Assoc.set x.rx (enginePage n) (f (s.sdiRx n)) SdiRx.fresh }

/-- A cause of an engine; a ST 2022-6 engine reports through the source of its group of eight (R210, R244). -/
def engineCause (n c : Nat) (s : State) : State :=
  if n < 512 then s.sdiCause n c
  else s.cause (Reg.SDI.EVSTAT (enginePage n)) (Reg.SDI.EVEN (enginePage n)) (944 + (n - 512) / 8) c [n - 512]

/-- The mode codes of a lane's halves in use; 5 to 7 act as OFF (LANE.CFG). -/
def laneRxMode (n : Nat) (s : State) : Nat := let m := s.use (Reg.LANE.CFG_RXMODE n); if m ≤ 4 then m else 0
def laneTxMode (n : Nat) (s : State) : Nat := let m := s.use (Reg.LANE.CFG_TXMODE n); if m ≤ 4 then m else 0

/-- An RX half delivers data to the blocks above it: UP, with its pattern checker off (R337, R350). -/
def rxUp (n : Nat) (s : State) : Bool :=
  s.get (Reg.LANE.STAT_RXSTATE n) == 4 && s.use (Reg.LANE.PRBS_RXCHK n) == 0

/-- The lane whose pins a lane's RX half takes its data from (R342): polarity, equalisation and the loopbacks stay with these
pins, and with that lane's registers. -/
def pinLane (n : Nat) (s : State) : Nat :=
  if s.use (Reg.QUAD.CFG (n / 4)) = 1 then 4 * (n / 4) + 3 - n % 4 else n

/-- TXSTATE of a TX half that would show `st` without a loopback: LOOP while a loopback drives or suppresses the pins, driver off
in a far-end loopback whose RX half is not ready (R349). -/
def txShown (n st : Nat) (s : State) : Nat :=
  match s.use (Reg.LANE.CFG_LOOP n) with
  | 0 => st
  | 3 =>
      let k := s.pinLane n
      let rx := s.get (Reg.LANE.STAT_RXSTATE k)
      if rx = 4 ∨ (s.laneRxMode k = 1 ∧ 1 ≤ rx) then 3 else 0
  | _ => 3

/-- An engine receives: its block runs on an S-mode half at UP, or a flow holds the ST 2022-6 engine. -/
def sdiReceives (n : Nat) (s : State) : Bool :=
  if n < 512 then s.flag (Reg.SDI.STAT_RUN (sdiPage n)) && s.laneRxMode n == 1 && s.rxUp n
  else decide (n < 576) && s.get (Reg.SDI.RXCHAN (enginePage n)) != 0

/-- The channels bound to an engine's receive half, by index. -/
def rxBound (n : Nat) (s : State) : List Nat :=
  ([s.get (Reg.SDI.RXCHAN (enginePage n)), s.get (Reg.SDI.RXCHAN1 (enginePage n))].filter fun h => h != 0).map handleIdx

/-- The engines that receive the essence of an engine's channel: its lanes (R180). -/
def essenceLanes (n : Nat) (s : State) : List Nat :=
  match s.rxBound n with
  | [] => [n]
  | i :: _ =>
      if n < 512 then (List.range (mapLanes (fmtMap (s.chanFmt i)))).map fun k => bits (s.chanArg i 0) 27 19 + k else [n]

/-- The ingress entries that an engine writes. -/
def rxEntries (n : Nat) (s : State) : List Nat := (s.rxBound n).filterMap s.chanIng

/-! ### Loss (R187, R190) -/

/-- The picture of a frame whose rows after the first `rows` are black, and its digest made to cover it. -/
def blacken (rows : Nat) (f : Frame) : Frame :=
  let h := fmtHeight f.fmt
  let k := rows * (f.picture.length / max 1 h)
  let p := f.picture.take k ++ (blackPicture f.fmt).drop k
  { f with picture := p,
           token := f.token.map fun t => { t with digest := Nat.xor t.digest (Nat.xor (digest f.picture) (digest p)) } }

/-- The slot former completes the frame in progress on an entry with black lines of its declared format (R190). -/
def completeBlack (e rows : Nat) (s : State) : State :=
  let x := s.ing e
  match x.cur with
  | none => s
  | some f =>
      if 3 * (s.now - x.at_) < fmtPeriod3 x.fmt ∧ rows < fmtHeight f.fmt then
        s.amendFrame e (blacken rows)
      else s

/-- The essence of an engine is lost: its frames in progress are closed with black, its entries go to NOSIG, and nothing
is written until the format has been measured again. -/
def essenceLoss (n rows : Nat) (s : State) : State :=
  let es := s.rxEntries n
  let ls := s.essenceLanes n
  let s := s.each es fun e t => (t.completeBlack e rows).pathLoss e
  s.each ls fun k t => t.updRx k fun x => { x with measuring := false }

/-- An engine returns to SEARCH; a loss, not a stop, raises LOCK_LOST when it leaves LOCKED (R187). -/
def toSearch (n rows : Nat) (loss : Bool) (s : State) : State :=
  let pg := enginePage n
  let was := s.get (Reg.SDI.RXSTAT_STATE pg)
  let s := ((s.set (Reg.SDI.RXSTAT_STATE pg) 0).set (Reg.SDI.RXSTAT_FMTVALID pg) 0).updRx n fun x =>
    { x with spacing := 0, good := 0, bad := 0, measuring := false }
  if was = 2 then
    ((s.bump (Reg.SDI.TRSCNT_LOSSES pg) 1).essenceLoss n rows).when loss (engineCause n 2)
  else s

/-- An S-mode half loses its CDR lock, or its engine stops (R187): the link rate shows none. -/
def sdiNoSignal (n rows : Nat) (loss : Bool) (s : State) : State :=
  let pg := enginePage n
  ((s.toSearch n rows loss).set (Reg.SDI.RXSTAT_RATE pg) 0).set (Reg.SDI.RXSTAT_DIV1001 pg) 0

/-! ### Rate hunt (R186) -/

/-- The next class of the hunt, downward and round, among those enabled. -/
def nextClass (rates cur : Nat) : Nat :=
  (([3, 2, 1, 0].map fun k => (cur + k) % 4).find? fun c => bit rates c).getD cur

/-- The class an RX half dwells on: its hunt begins at the highest class enabled. -/
def huntClass (n : Nat) (s : State) : Nat :=
  let rates := s.use (Reg.SDI.RXCFG_RATES (sdiPage n))
  let c := (s.sdiRx n).hunt
  if bit rates c then c else nextClass rates c

/-- The CDR of an S-mode half locks at a rate: the hunt stops, and TRS search begins (R186, R337); in a near-end serial loopback
the rate is that of the lane's TX family (R349). -/
def sdiCdrLock (n : Nat) (div : Bool) (s : State) : State :=
  let pg := enginePage n
  let fam := s.get (Reg.LANE.TXSTAT_FAMILY (s.pinLane n))
  if s.use (Reg.LANE.CFG_LOOP (s.pinLane n)) = 1 then
    (s.set (Reg.SDI.RXSTAT_RATE pg) (fam / 2 + 1)).set (Reg.SDI.RXSTAT_DIV1001 pg) (fam % 2)
  else (s.set (Reg.SDI.RXSTAT_RATE pg) (s.huntClass n + 1)).setB (Reg.SDI.RXSTAT_DIV1001 pg) div

/-- The hunt of an RX half moves on after its dwell. -/
def huntDwell (n : Nat) (s : State) : State :=
  if n < 512 ∧ s.flag (Reg.SDI.STAT_RUN (sdiPage n)) ∧ s.laneRxMode n = 1 ∧ !s.flag (Reg.LANE.STAT_CDRLOCK n) ∧ !s.rxStopped n then
    s.updRx n fun x => { x with hunt := nextClass (s.use (Reg.SDI.RXCFG_RATES (sdiPage n))) (s.huntClass n) }
  else s

/-! ### Lines (R187, R191) -/

/-- A line counts as errored once (R191). -/
def erroredLine (n : Nat) (s : State) : State :=
  let pg := enginePage n
  let sec := s.timeNs / 1000000000
  let s := s.bump (Reg.SDI.CRCCNT_LINES pg) 1
  if (s.sdiRx n).errSec = some sec then s
  else
    let ev := s.use (Reg.SDI.RXCFG_CRCEV pg) == 1
    let s := (s.bump (Reg.SDI.CRCCNT_SECS pg) 1).updRx n fun x => { x with errSec := some sec }
    s.when ev (engineCause n 8)

/-- The rate class at which an engine's half locked is one that RXCFG.RATES enables; with none enabled the half stays in SEARCH
(R186). A ST 2022-6 engine has no hunt. -/
def rateEnabled (n : Nat) (s : State) : Bool :=
  let r := s.get (Reg.SDI.RXSTAT_RATE (enginePage n))
  decide (512 ≤ n) || (r != 0 && bit (s.use (Reg.SDI.RXCFG_RATES (enginePage n))) (r - 1))

/-- In a far-end loopback the pins of a lane carry what its RX half, which the lane of those pins is, receives (R349). -/
def farEnd (n : Nat) (o : Output) (s : State) : State :=
  let m := s.pinLane n
  s.when (decide (n < 512) && s.flag (Reg.LANE.STAT_RUN m) && s.use (Reg.LANE.CFG_LOOP m) == 3 && s.txShown m 0 == 3) (emit o)

/-- A received line. -/
def sdiLineIn (n : Nat) (l : SdiLine) (s : State) : State :=
  let s := s.farEnd n (.loopLine (s.pinLane n) l)
  if s.sdiReceives n then
    let pg := enginePage n
    let e := readTrs true l.eav
    let v := readTrs false l.sav
    let s := s.bump (Reg.SDI.TRSCNT_XYZCOR pg) (b2n e.2 + b2n v.2)
    let x := s.sdiRx n
    match s.get (Reg.SDI.RXSTAT_STATE pg) with
    | 0 =>
        if (e.1 ∨ v.1) ∧ s.rateEnabled n then
          (s.set (Reg.SDI.RXSTAT_STATE pg) 1).updRx n fun y => { y with spacing := 0, good := 0, bad := 0 }
        else s
    | 1 =>
        if (e.1 ∨ v.1) ∧ (x.good = 0 ∨ l.spacing = x.spacing) then
          let s := s.updRx n fun y => { y with spacing := l.spacing, good := x.good + 1 }
          if 3 ≤ x.good + 1 then (s.set (Reg.SDI.RXSTAT_STATE pg) 2).engineCause n 1 else s
        else s.toSearch n l.rows true
    | _ =>
        let s := s.when (l.crcErr || l.lineNoErr) (erroredLine n)
        let s := if e.1 ∧ v.1 ∧ l.spacing = x.spacing then s.updRx n fun y => { y with bad := 0 }
          else
            let s := (s.bump (Reg.SDI.TRSCNT_BADLINE pg) 1).updRx n fun y => { y with bad := x.bad + 1 }
            s.when (decide (4 ≤ x.bad + 1)) (toSearch n l.rows true)
        s.when (l.skewed && s.get (Reg.SDI.RXSTAT_STATE pg) == 2) fun t => (t.essenceLoss n l.rows).engineCause n 10
  else s

/-! ### Frames (R181, R188, R189, R194) -/

/-- The payload ID of a stream is read (R194): it is missing after two frames without one. The Boolean says that it has just been
lost. -/
def pidSeen (x : PidRx) (pid : Option SdiPid) : PidRx × Bool :=
  match pid with
  | some p => ({ x with missing := 0, last := some p }, false)
  | none => ({ x with missing := x.missing + 1, last := if 2 ≤ x.missing + 1 then none else x.last }, x.missing + 1 == 2)

/-- The payload ID of a stream of an engine. -/
def pidRx (n stream : Nat) (s : State) : PidRx := if stream = 1 then (s.sdiRx n).pid1 else (s.sdiRx n).pid0
def updPid (n stream : Nat) (f : PidRx → PidRx) (s : State) : State :=
  s.updRx n fun x => if stream = 1 then { x with pid1 := f x.pid1 } else { x with pid0 := f x.pid0 }

/-- The payload IDs of a frame are read; RXPID shows the last one of the engine's first stream. -/
def readPid (n : Nat) (pid pid1 : Option SdiPid) (s : State) : State :=
  let s := (s.updPid n 0 fun x => (pidSeen x pid).1).updPid n 1 fun x => (pidSeen x pid1).1
  let last := (s.pidRx n 0).last
  if pid.isSome ∨ last.isNone then
    s.wr (Reg.SDI.RXPID_BYTE1 (enginePage n)).addr (BitVec.ofNat 32 (match last with | some p => p.bytes | none => 0))
  else s

/-- The link number shown by each engine of an essence, lane order when its payload ID is missing (R181). -/
def showLink (n : Nat) (s : State) : State :=
  let pg := enginePage n
  let ls := s.essenceLanes n
  let pos := n - ls.headD n
  let link := if ls.all fun k => (s.sdiRx k).pid0.last.isSome then
    (match (s.sdiRx n).pid0.last with | some p => p.link | none => pos) else pos
  (s.set (Reg.SDI.RXSTAT_LINK pg) link).when (link != pos && decide (1 < ls.length)) (engineCause n 9)

/-- PIDPOL of a video-in (R194): 3 is CHECK. -/
def pidPolicy (i : Nat) (s : State) : Nat := let p := bits (s.chanArg i 2) 9 8; if p = 3 then 1 else p

/-- The stream of a level B-DS link that a channel carries; 0 for every other. -/
def chanStream (i : Nat) (s : State) : Nat := bits (s.chanArg i 0) 18 18

/-- The payload ID of its stream is judged for a bound channel: the events, and whether STRICT makes it a loss of format. `lost`
says that it has just been lost. -/
def judgePid (n i : Nat) (pid : Option SdiPid) (lost : Bool) (s : State) : State × Bool :=
  let pol := s.pidPolicy i
  let st := s.chanStream i
  if pol = 0 then (s, true)
  else
    match pid with
    | none => (s.when lost (engineCause n 6), true)
    | some p =>
        if fmtNoColr p.fmt = fmtNoColr (s.chanFmt i) then (s.updPid n st fun x => { x with bad := none }, true)
        else
          let f := fmtNoColr p.fmt
          let s := s.when ((s.pidRx n st).bad != some f) (engineCause n 7)
          (s.updPid n st fun x => { x with bad := some f }, pol != 2)

/-- The measured format is compared with the declared one of a bound channel (R189). An essence is written while every link of it
delivers the declared format. -/
def judgeFormat (n i m : Nat) (pidOk : Bool) (s : State) : State :=
  let d := s.chanFmt i
  let m := fmtAs m d
  let ok := fmtListed m && fmtNoColr m == fmtNoColr d
  let s := if !fmtListed m then s.engineCause n 5 else if fmtNoColr m ≠ fmtNoColr d then s.engineCause n 4 else s
  let many := decide (1 < mapLanes (fmtMap d))
  let s := s.when many (updRx n fun x => { x with fmtOk := ok && pidOk })
  match s.chanIng i with
  | none => s
  | some e =>
      let all := !many || (s.essenceLanes n).all fun k =>
        s.get (Reg.SDI.RXSTAT_STATE (enginePage k)) == 2 && s.flag (Reg.SDI.RXSTAT_FMTVALID (enginePage k)) && (s.sdiRx k).fmtOk
      if ok && pidOk then s.when all fun t => t.updIng e fun x => { x with writing := true } else s.pathLoss e

/-- The anc-in buffers filled from an engine turn over at a frame start (R197, R199). -/
def turnAnc (n : Nat) (s : State) : State :=
  let pg := enginePage n
  s.each (List.range 8) fun k t =>
    if t.flag (Reg.SDI.ANCF_EN pg k) then
      t.updSdi fun x => { x with anc := Assoc.modify x.anc (t.get (Reg.SDI.ANCF_CHIDX pg k)) fun b =>
        { cur := [], done := b.cur, turn := b.turn + 1 } }
    else t

/-- Groups that did not appear in the frame past are absent (R203). -/
def turnGroups (n : Nat) (s : State) : State :=
  let pg := enginePage n
  let g := (s.sdiRx n).groups
  let s := s.updRx n fun x => { x with groups := 0 }
  ((s.set (Reg.SDI.RXAUDSTAT_PRESENT pg) g).set (Reg.SDI.RXAUDSTAT_ASYNC pg)
    (s.get (Reg.SDI.RXAUDSTAT_ASYNC pg) &&& g)).set (Reg.SDI.RXAUDSTAT_BADRATE pg)
    (s.get (Reg.SDI.RXAUDSTAT_BADRATE pg) &&& g)

/-- A frame has been measured (R188, R189, R194). -/
def measured (n fmt : Nat) (pid pid1 : Option SdiPid) (s : State) : State :=
  let pg := enginePage n
  let lost := fun st : Nat => (pidSeen (s.pidRx n st) (if st = 1 then pid1 else pid)).2
  let l0 := lost 0
  let l1 := lost 1
  let s := s.readPid n pid pid1
  let last := (s.pidRx n 0).last
  let bound := s.rxBound n
  let m := match last, bound with
    | some p, _ => fmtAs fmt p.fmt
    | none, i :: _ => fmtAs fmt (s.chanFmt i)
    | none, [] => fmt
  let m := setBits m 15 12 (match last with | some p => fmtColr p.fmt | none => 15)
  let changed := s.flag (Reg.SDI.RXSTAT_FMTVALID pg) && fmtNoColr (s.get (Reg.SDI.RXFMT pg)) != fmtNoColr m
  let s := (s.set (Reg.SDI.RXSTAT_FMTVALID pg) 1).set (Reg.SDI.RXFMT pg) m
  let s := s.showLink n
  if bound = [] then s.when changed (engineCause n 3)
  else s.each bound fun i t =>
    let two := t.chanStream i == 1
    let q := t.judgePid n i (if two then pid1 else pid) (if two then l1 else l0)
    q.1.judgeFormat n i fmt q.2

/-- A frame start at the pins of a locked engine: the first begins the measurement, each later one ends one. -/
def sdiFrame (n fmt : Nat) (pid pid1 : Option SdiPid) (s : State) : State :=
  if s.sdiReceives n ∧ s.get (Reg.SDI.RXSTAT_STATE (enginePage n)) = 2 then
    let s := (s.turnAnc n).turnGroups n
    if (s.sdiRx n).measuring then s.measured n fmt pid pid1
    else s.updRx n fun x => { x with measuring := true }
  else s

/-! ### Ancillary data (R196–R201) -/

/-- A filter's DID and SDID match a packet. -/
def ancMatches (any : Bool) (did sdid : Nat) (p : AncPkt) : Bool := did == p.did && (any || sdid == p.sdid)

/-- The bytes a packet takes in the side store: the word count of the packet with its header, two bytes a word. -/
def ancBytes (p : AncPkt) : Nat := 2 * (7 + p.udw.length)

/-- A packet is stored in an anc-in's buffer, or dropped beyond 4 KiB in the frame (R197, R198); the Boolean says that it
was dropped. -/
def ancStore (i : Nat) (p : AncPkt) (s : State) : State × Bool :=
  match Assoc.find s.sdi.anc i with
  | none => (s, false)
  | some b =>
      if sumList (b.cur.map ancBytes) + ancBytes p ≤ 4096 then
        (s.updSdi fun x => { x with anc := Assoc.put x.anc i { b with cur := b.cur ++ [p] } }, false)
      else (s, true)

/-- A received ANC packet. -/
def ancIn (n : Nat) (p : AncPkt) (s : State) : State :=
  let pg := enginePage n
  if s.sdiReceives n ∧ s.get (Reg.SDI.RXSTAT_STATE pg) = 2 then
    let s := s.when (!p.csOk) fun t => (t.bump (Reg.SDI.ANCCNT_CSERR pg) 1).engineCause n 11
    s.each (List.range 8) fun k t =>
      let i := t.get (Reg.SDI.ANCF_CHIDX pg k)
      let b := s.rxBound n
      let two := decide (1 < b.length) || (b.any fun j => fmtMap (s.chanFmt j) == 3)
      if t.flag (Reg.SDI.ANCF_EN pg k) ∧
          ancMatches (t.flag (Reg.SDI.ANCF_SDIDANY pg k)) (t.get (Reg.SDI.ANCF_DID pg k)) (t.get (Reg.SDI.ANCF_SDID pg k)) p ∧
          (!two ∨ p.stream % 2 = bits (t.chanArg i 0) 18 18) then
        let r := t.ancStore i p
        if r.2 then (r.1.bump (Reg.SDI.ANCCNT_DROP pg) 1).engineCause n 12 else r.1
      else t
  else s

/-- The anc-ins coupled to a source handle (R199): those created on SDI lanes or flows that name it. -/
def ancCoupled (s : State) (h : Nat) : List Nat :=
  if h = 0 then []
  else (s.chn.chans.filter fun p => p.2.live && p.2.kind == 5 &&
    (if bit (p.2.args.getD 0 0) 13 then p.2.desc.getD 15 0 else p.2.args.getD 2 0) == h).map (·.1)

/-- The anc-ins that an anc-out takes its packets from now. -/
def ancSources (s : State) (follow : Bool) (ref : Nat) : List Nat :=
  if follow then s.ancCoupled (s.routeOf ref) else [ref]

/-- DIDs of the audio data and control packets of a group (ST 299), and of payload ID (ST 352). -/
def audioDids (g : Nat) : List Nat := if g < 4 then [0xE7 - g, 0xE3 - g] else [0xA7 - (g - 4), 0xA3 - (g - 4)]

/-- The link of a multi-lane mapping that a packet stands on: two data streams a link. -/
def ancLink (w : Nat) (p : AncPkt) : Nat := if mapLanes (fmtMap w) = 1 then 0 else p.stream / 2

/-- A word of an ANC packet: even parity of a byte in bit 8, its complement in bit 9. -/
def parityWord (v : Nat) : Nat :=
  let p := ((List.range 8).foldl (fun c k => c + b2n (bit v k)) 0) % 2
  v % 256 + p * 256 + (1 - p) * 512

/-- The packets of a source frame that stay in the frame an output sends (R195, R201, R205): those of payload ID, of the groups it
embeds, and of the deletion filters of the link's TX half, whose page is given, are taken out. -/
def ancKept (i : Nat) (page : AncPkt → Nat) (s : State) (l : List AncPkt) : List AncPkt :=
  let w := s.chanFmt i
  l.filter fun p =>
    let pg := page p
    !(p.did == 0x41 && p.sdid == 0x01) &&
    !((maskGroups w (bits (s.chanArg i 2) 7 0)).any fun g => (audioDids g).contains p.did) &&
    !((List.range 8).any fun k => s.flag (Reg.SDI.ANCDEL_EN pg k) &&
      ancMatches (s.flag (Reg.SDI.ANCDEL_SDIDANY pg k)) (s.get (Reg.SDI.ANCDEL_DID pg k))
        (s.get (Reg.SDI.ANCDEL_SDID pg k)) p)

/-- The page of the TX half of an S-mode output that sends a packet. -/
def txPage (i : Nat) (s : State) (p : AncPkt) : Nat := sdiPage (bits (s.chanArg i 0) 27 19 + ancLink (s.chanFmt i) p)

/-- A payload ID packet (R195, ST 352) on a line: its four bytes, the first highest. -/
def pidPacket (w colr l : Nat) : AncPkt :=
  let v := Config.pidBytes (setBits w 15 12 colr) 0
  { line := l, stream := 0, did := 0x41, sdid := 0x01, udw := [24, 16, 8, 0].map fun k => parityWord (v / 2 ^ k), csOk := true, vanc := false }

/-- What an anc-in has extracted from the frame after a given one (R199): none while no further frame has come. -/
def ancNew (i turn : Nat) (s : State) : List AncPkt :=
  match Assoc.find s.sdi.anc i with
  | some b => if b.turn = turn then [] else b.done
  | none => []

/-- The frames that anc-ins have extracted so far. -/
def ancTurns (l : List Nat) (s : State) : List (Nat × Nat) :=
  l.map fun i => (i, match Assoc.find s.sdi.anc i with | some b => b.turn | none => 0)

/-! ### Embedded audio (R202–R205) -/

/-- The input voice of voice v of a group (R202, R249): granules run by link, then by group. -/
def embeddedVoice (n : Nat) (p : AudioPkt) (v : Nat) (s : State) : Option Nat :=
  let pg := enginePage n
  let h := if p.stream = 1 then s.get (Reg.SDI.RXCHAN1 pg) else s.get (Reg.SDI.RXCHAN pg)
  if h = 0 then none
  else
    match s.chan (handleIdx h) with
    | none => none
    | some c =>
        let gs := maskGroups (c.args.getD 1 0) (bits (c.args.getD 2 0) 7 0)
        match gs.idxOf? p.group with
        | none => none
        | some k =>
            let link := if s.flag (Reg.SDI.RXSTAT_FMTVALID pg) then s.get (Reg.SDI.RXSTAT_LINK pg) else n - (s.essenceLanes n).headD n
            (granuleVoices c.gin)[4 * (link * gs.length + k) + v]?

/-- One sample of one voice enters the TSI: dropped, or repeated, for a drift of a whole sample. -/
def audioSampleIn (v drift : Nat) (x : Sample) (s : State) : State :=
  if drift = 1 then s else if drift = 2 then (s.voiceIn v x).voiceIn v x else s.voiceIn v x

/-- An embedded audio packet. -/
def audioPacketIn (n : Nat) (p : AudioPkt) (s : State) : State :=
  let pg := enginePage n
  if s.sdiReceives n ∧ s.get (Reg.SDI.RXSTAT_STATE pg) = 2 ∧ p.group < 8 then
    let c := p.control.getD (48000, false)
    let badRate := c.1 != s.tsiRate
    let put := fun (r : FRef) (b : Bool) (t : State) =>
      t.set r (if b then t.get r ||| 2 ^ p.group else t.get r &&& (255 - 2 ^ p.group))
    let key := 8 * (p.stream % 2) + p.group
    let was := Assoc.find (s.sdiRx n).rates key
    let s := put (Reg.SDI.RXAUDSTAT_PRESENT pg) true s
    let s := put (Reg.SDI.RXAUDSTAT_ASYNC pg) c.2 s
    let s := put (Reg.SDI.RXAUDSTAT_BADRATE pg) badRate s
    let s := s.updRx n fun x => { x with groups := x.groups ||| 2 ^ p.group }
    let vs := (List.range 4).filterMap fun v => (s.embeddedVoice n p v).map fun j => (j, v)
    let s := s.when (p.ecc == 2) fun t => (t.bump (Reg.SDI.AUDCNT_ECCERR pg) 1).engineCause n 16
    if vs = [] then s
    else if badRate then
      (s.updRx n fun x => { x with rates := Assoc.put x.rates key c.1 }).when (was != some c.1) (engineCause n 14)
    else
      let s := s.updRx n fun x => { x with rates := Assoc.del x.rates key }
      let slip := c.2 && p.drift != 0
      let s := s.when slip fun t => (t.bump (Reg.SDI.AUDCNT_SLIP pg) 1).engineCause n 15
      s.each vs fun q t =>
        let x := if p.ecc = 2 then Assoc.findD (t.sdiRx n).lastAudio q.1 silence else p.samples.getD q.2 silence
        (t.audioSampleIn q.1 (if slip then p.drift else 0) x).updRx n fun y =>
          { y with lastAudio := Assoc.put y.lastAudio q.1 x }
  else s

/-! ### Frame starts at the slot former (R71) -/

/-- A frame of a receiver reaches the slot former: written while its receiver delivers the declared format. -/
def frameStartIn (e fmt : Nat) (picture : List Pix) (anc : List AncPkt) (s : State) : State :=
  let path := s.get (Reg.FAB.ISE_CFG_PATH e)
  if s.flag (Reg.FAB.ISE_CFG_VALID e) ∧ path ≠ 3 ∧ (s.ing e).writing then
    s.issueFrame e (digest picture) false
      { fmt := fmt, token := none, tstate := 0, poisoned := false, picture := picture, anc := anc }
  else s

/-! ### Output frames (R128, R207) -/

/-- The lane of a lane output. -/
def outLane (i : Nat) (s : State) : Nat := bits (s.chanArg i 0) 27 19

/-- The fabric is enabled: until then S-mode TX halves have their drivers off, E-mode halves send idle and F-mode halves filler
cells only (R20). -/
def fabricOn (s : State) : Bool := s.flag Reg.FAB.STAT_RUN

/-- An S-mode output may send: its lane and its SDI engine run (R208). -/
def txRuns (n : Nat) (s : State) : Bool :=
  s.flag (Reg.LANE.STAT_RUN n) && s.laneTxMode n == 1 && s.flag (Reg.SDI.STAT_RUN (sdiPage n))

/-- A port is a control port. -/
def isCtl (p : Nat) : Bool := decide (64 ≤ p)

/-- The lanes of a port's group (R358). -/
def ethLanes (p : Nat) (s : State) : List Nat :=
  if isCtl p then []
  else
    let n := match s.use (Reg.ETH.CFG_PTYPE p) with | 2 => 2 | 3 => 4 | _ => 1
    (List.range n).map fun k => s.use (Reg.ETH.CFG_LANE p) + k

/-- The TX PLL of a half reports lock (R163, R209). -/
def txLocked (n : Nat) (s : State) : Bool :=
  if s.get (Reg.LANE.TXSTAT_PLL n) = 0 then s.flag (Reg.QUAD.PLLA_LOCK (n / 4)) else s.flag (Reg.QUAD.PLLB_LOCK (n / 4))

/-- The lanes that an output sends on: of a lane output those of its mapping, of a slot half its lane, of a video send flow those of its
legs' ports (R336). -/
def outputLanes (e : Nat) (s : State) : List Nat :=
  let i := handleIdx (s.get (Reg.FAB.ESE_HANDLE e))
  match s.get (Reg.FAB.ESE_CFG_KIND e) with
  | 2 =>
      match s.chan i with
      | some c => (dLegs c.desc).flatMap fun g => s.ethLanes (legPort c.desc g)
      | none => []
  | 3 => [s.outLane i]
  | _ => (List.range (mapLanes (fmtMap (s.chanFmt i)))).map fun k => s.outLane i + k

/-- The state of the TX half an output shows on all its lanes. -/
def showTx (i st : Nat) (s : State) : State :=
  let n := s.outLane i
  s.each (List.range (mapLanes (fmtMap (s.chanFmt i)))) fun k t =>
    (t.set (Reg.SDI.TXSTAT_STATE (sdiPage (n + k))) st).set (Reg.LANE.STAT_TXSTATE (n + k))
      (s.txShown (n + k) (min st 2))

/-- An F-mode TX half sends slot cells: its lane runs (R84, R344). -/
def halfSends (n : Nat) (s : State) : Bool := s.flag (Reg.LANE.STAT_RUN n) && s.laneTxMode n == 3

/-- The other stream of a level B-DS half is sent by a channel of its own (R185). -/
def otherSends (i : Nat) (s : State) : Bool :=
  let pg := sdiPage (s.outLane i)
  let h := if s.chanStream i = 1 then s.get (Reg.SDI.TXCHAN pg) else s.get (Reg.SDI.TXCHAN1 pg)
  h != 0 && match s.chanEgr (handleIdx h) with | some e => !(s.egr e).stopping | none => false

/-- Side-store packets go into the frame (R199, R200): those that the anc-ins have extracted since the frame before, link by link.
Packets that find no room are counted and dropped. An anc-out on a level B-DS half serves the stream it names. -/
def insertAnc (i e taken : Nat) (kept : List AncPkt) (s : State) : List AncPkt × State :=
  let w := s.chanFmt i
  let links := (List.range (mapLanes (fmtMap w))).filter fun k =>
    s.flag (Reg.SDI.ANCOUT_VALID (sdiPage (s.outLane i + k))) &&
      (fmtMap w != 3 || s.chn.chans.any fun p => p.2.kind == 6 && bits (p.2.args.getD 0 0) 13 12 == 0 &&
        bits (p.2.args.getD 0 0) 27 19 == s.outLane i && bits (p.2.args.getD 0 0) 18 18 == s.chanStream i)
  let r := links.foldl (fun (q : List AncPkt × State) k =>
    let s := q.2
    let n := s.outLane i + k
    let pg := sdiPage n
    let from_ := (s.egr e).ancFrom.filter fun a => a.1 / 16384 == k
    let all := ((from_.map fun a => s.ancNew (a.1 % 16384) a.2).flatten).map fun p =>
      if mapLanes (fmtMap w) = 1 then p else { p with stream := 2 * k + p.stream % 2 }
    let put := placeAnc w taken (kept ++ q.1) all
    let s := (s.bump (Reg.SDI.TXANCCNT_INS pg) put.1.length).when (put.2 != 0) fun t =>
      (t.bump (Reg.SDI.TXANCCNT_DROP pg) put.2).engineCause n 13
    (q.1 ++ put.1, s)) ([], s)
  let s := r.2
  let next := (links.map fun k =>
    let pg := sdiPage (s.outLane i + k)
    (s.ancTurns (s.ancSources (s.flag (Reg.SDI.ANCOUT_FOLLOW pg)) (s.get (Reg.SDI.ANCOUT_REFIDX pg)))).map fun a => (16384 * k + a.1, a.2)).flatten
  (r.1, s.updEgr e fun x => { x with ancFrom := next })

/-- The held frame is read for sending; a wrong digest fails it and the output sends black (R166). -/
def readHeld (e : Nat) (holdBad : Bool) (s : State) : State :=
  if (s.egr e).lane = 1 ∧ holdBad then
    (s.failHeld e).updEgr e fun x => { x with holdBad := true, lane := 2 }
  else s

/-- The 90 kHz (27 MHz for ST 2022-6) timestamp of the present frame of a plane, less TSOFF in ns, truncated (R236). -/
def flowStamp (p type tsoff : Nat) (s : State) : Nat :=
  let t := 3 * (s.timeNs : Int) - s.planePos3 p - 3 * toSigned 32 tsoff
  ofSigned 32 (if type = 4 then t * 27 / 3000 else t * 9 / 300000)

/-- The frame that the engine of a ST 2022-6 flow sends (R242): as an S-mode output does, without the packets that its TX half deletes, and
with the payload ID of the output. -/
def s6Frame (k i colr : Nat) (f : Frame) (s : State) : Frame :=
  { f with anc := ((pidLines f.fmt).map fun l => pidPacket (s.chanFmt i) colr l) ++ s.ancKept i (fun _ => s6tPage k) f.anc }

/-- The packetiser of a video send flow takes the frame its output sends (R235, R237), its picture displaced where its source was read
untimed (R70); its engine shows the state of a ST 2022-6 flow and builds what an SDI engine does (R242). -/
def flowLoad (e i code colr : Nat) (f : Frame) (disp : Int) (s : State) : State :=
  let n := match s.chan i with | some c => c.unit | none => 0
  match Assoc.find s.ipm.tx n with
  | none => s
  | some x =>
      let type := bits (x.desc.getD 0 0) 31 29
      let ts := s.flowStamp (s.get (Reg.FAB.ESE_CFG_PLANE e)) type (x.desc.getD 3 0)
      let g : Frame := if disp = 0 then f else { f with picture := Config.displaced f.fmt f.picture disp }
      let h := s.get (Reg.CHN.ENT_HANDLE i)
      let eng := (List.range 64).find? fun k => s.get (Reg.SDI.TXCHAN (s6tPage k)) == h
      let g : Frame := match eng with | some k => s.s6Frame k i colr g | none => g
      let cur : TxFrame := { frame := g, ts := ts, row := 0, x := 0, first := true, anc := [] }
      let st := if code = 1 ∨ code = 2 then 2 else 1
      let s := ({ s with ipm := { s.ipm with tx := Assoc.put s.ipm.tx n { x with cur := some cur } } }).set
        (Reg.IPM.TXF_STATE n) st
      match eng with
      | some k => s.set (Reg.SDI.TXSTAT_STATE (s6tPage k)) st
      | none => s

/-- A link of a format on a lane, with what is built afresh on it (R193, R195): the payload ID with a colorimetry, and the lines, whose
CRCs cover the frame, the packets inserted and the audio groups embedded. -/
def sentLink (lane w colr k : Nat) (gs : List SentGroup) (f : Frame) (inserted : List AncPkt) (s : State) : SentLink :=
  let d := setBits w 15 12 colr
  let pid : SdiPid := { bytes := Config.pidBytes d k, fmt := d, link := k }
  { lane := lane, pid := pid, pidOn := pidLines w, groups := gs,
    lines := (List.range (fmtLines w)).map fun l =>
      let x := 4 * b2n (lineField w (l + 1)) + 2 * b2n (lineBlank w (l + 1))
      { number := l + 1, eav := xyzWord (x + 1), sav := xyzWord x,
        crc := Config.lineCrc f inserted ([s.now, pid.bytes] ++ gs.flatMap fun g => g.group :: g.voices) k (l + 1) } }

/-- The audio groups embedded on a link of an output (R205, R206). -/
def sentGroups (i k : Nat) (s : State) : List SentGroup :=
  let gs := maskGroups (s.chanFmt i) (bits (s.chanArg i 2) 7 0)
  let vs := match s.chan i with | some c => granuleVoices c.gout | none => []
  gs.zipIdx.map fun g =>
    { group := g.1, voices := (vs.drop (4 * (k * gs.length + g.2))).take 4, rate := s.tsiRate, asx := false, delay := 128 }

/-- The links of an S-mode output. -/
def sentLinks (i colr : Nat) (f : Frame) (inserted : List AncPkt) (s : State) : List SentLink :=
  let w := s.chanFmt i
  (List.range (mapLanes (fmtMap w))).map fun k => s.sentLink (s.outLane i + k) w colr k (s.sentGroups i k) f inserted

/-- The colorimetry of the payload ID received with the source of an entry (R194, R195): of an SDI input, of a ST 2022-6 flow, of the
input of a frame-sync return, or of the far chip where it came by an F-lane; 15, unknown, of a source that had none. -/
def srcColr (e : Nat) (f : Frame) (s : State) : Nat :=
  let i := s.get (Reg.FAB.ESE_SRC_ENTRY e)
  let of := fun (h : Nat) =>
    if s.chn.chans.any (fun p => p.1 == handleIdx h && p.2.kind == 1 && srcField p.2.args == 0) then
      bits (s.get (Reg.SDI.RXFMT (sdiPage (s.outLane (handleIdx h))))) 15 12
    else
      match (List.range 64).find? fun k => s.get (Reg.SDI.RXCHAN (s6rPage k)) == h with
      | some k => bits (s.get (Reg.SDI.RXFMT (s6rPage k))) 15 12
      | none => 15
  if s.get (Reg.FAB.ISE_CFG_PATH i) = 3 then fmtColr f.fmt
  else
    match s.fab.fs.find? fun p => s.get (Reg.FAB.FS_SCFG_RETENT (p.1 / 4) (p.1 % 4)) == i with
    | some p => of (s.get (Reg.CHN.ENT_HANDLE p.2.input))
    | none => of (s.get (Reg.FAB.ISE_HANDLE i))

/-- The hop tag of a frame on an F-lane slot half (R155). -/
def hopTag (n half : Nat) (s : State) : Nat := s.use Reg.CHN.CFG_SYSNUM * 2 ^ 14 + n * 2 ^ 5 + half * 2 ^ 4

/-- Cells of a frame of a format: 240 bytes of essence a cell. -/
def frameCells (w : Nat) : Nat := (frameBytes w (fmtNominal w) + 239) / 240

/-- A twinned chip numbers the cells of a slot half from the frame number of the plane and the place in the frame (R456): the number of
the first. -/
def firstCell (e : Nat) (s : State) : Option Nat :=
  if s.twinOn then some (s.get (Reg.LODE.PLANE_FRAMES (s.get (Reg.FAB.ESE_CFG_PLANE e))) * frameCells (s.egr e).fmt) else none

/-- An output sends a frame; none before the fabric is enabled. -/
def sendFrame (e taken : Nat) (off holdBad : Bool) (s : State) : State :=
  if s.isOutput e ∧ !(s.egr e).stopping then
    let i := handleIdx (s.get (Reg.FAB.ESE_HANDLE e))
    let kind := s.get (Reg.FAB.ESE_CFG_KIND e)
    let n := s.outLane i
    if s.get (Reg.FAB.ESE_HANDLE e) = 0 then s
    else if kind ≤ 1 ∧ !(s.fabricOn && s.txRuns n) then s.showTx i 0
    else if !s.fabricOn ∨ (kind = 3 ∧ !s.halfSends n) then s
    else
      let s := s.when (off || (s.outputLanes e).any fun k => !s.txLocked k) (timingLoss e)
      let s := s.readHeld e holdBad
      let x := s.egr e
      let content := x.cur.any fun f => f.tstate != 1
      let s := s.when (x.content && !content) (raiseLimited (0x78000000 + e) 999 [s.get (Reg.FAB.ESE_HANDLE e)])
      let s := s.updEgr e fun y => { y with content := content }
      let idle : Frame := { s.idleFrame x.fmt i with anc := x.kept }
      let f : Frame := match x.lane with
        | 1 => x.held.getD idle
        | 2 => idle
        | _ => x.cur.getD idle
      let colr := if content then s.srcColr e f else 15
      let f : Frame := if kind ≤ 1 then { f with anc := s.ancKept i (s.txPage i) f.anc } else f
      let f : Frame := if kind = 3 then { f with fmt := x.fmt } else f
      let f : Frame := if 2 ≤ kind ∧ x.failed.isSome then { f with tstate := 2 } else f
      let r := if kind ≤ 1 then s.insertAnc i e taken f.anc else ([], s)
      let s := r.2
      let code := if x.lane = 1 then 2 else if x.lane = 2 then 3 else if content then 1 else 0
      let s := s.when (decide (kind ≤ 1)) (showTx i (if code = 1 ∨ code = 2 then 2 else 1))
      let s := s.signFrame e f x.epoch
      let half := s.chanStream i
      let sent : SentFrame :=
        { entry := e, code := code, frame := f, disp := if x.lane = 0 ∧ x.cur.isSome then x.disp else 0, inserted := r.1,
          links := if kind ≤ 1 then s.sentLinks i colr f r.1 else [],
          hop := if kind = 3 then some (s.hopTag n half) else none, cell := if kind = 3 then s.firstCell e else none,
          path := if kind ≤ 1 then (List.range (mapLanes (fmtMap (s.chanFmt i)))).map fun k => s.txPath (n + k)
            else if kind = 3 then [s.txPath n] else [] }
      let s := s.when (kind == 3) (set (Reg.LANE.STAT_TXSTATE n) (s.txShown n 2))
      let s := (s.when (kind == 2) (flowLoad e i code colr f sent.disp)).emit (.frame sent)
      let other := s.idleFrame x.fmt i
      let s := s.when (decide (kind ≤ 1) && fmtMap (s.chanFmt i) == 3 && !s.otherSends i)
        (emit (.idleStream n (1 - half) other (s.sentLink n (s.chanFmt i) 15 0 [] other []) (s.txPath n)))
      match (if kind = 3 then s.mergeCopy n half else none) with
      | some e2 => s.emit (.frame { sent with entry := e2 })
      | none => s
  else s

/-- The outputs that send on a lane: those of a PLL that loses lock fail as TIMING_LOSS (R209, R336). -/
def outputsOfLane (n : Nat) (s : State) : List Nat :=
  (s.fab.egr.map (·.1)).filter fun e => s.isOutput e && s.get (Reg.FAB.ESE_HANDLE e) != 0 && (s.outputLanes e).contains n

end State

/-- RATE_HUNT_DWELL (R186) of lane `n`. -/
def execRateHuntDwell (n : Nat) (s : State) : Host.Outcome State Fault Refusal := .next (s.huntDwell n)

/-- SDI_LINE (R187, R191) at engine `n`. -/
def execSdiLine (n : Nat) (line : SdiLine) (s : State) : Host.Outcome State Fault Refusal := .next (s.sdiLineIn n line)

/-- SDI_FRAME_START (R188) at engine `n`. -/
def execSdiFrameStart (n fmt : Nat) (pids : FramePids) (s : State) : Host.Outcome State Fault Refusal :=
  .next (s.sdiFrame n fmt pids.first pids.second)

/-- ANC_PACKET_RX (R196) at engine `n`. -/
def execAncPacketRx (n : Nat) (p : AncPkt) (s : State) : Host.Outcome State Fault Refusal := .next (s.ancIn n p)

/-- AUDIO_PACKET_RX (R204) at engine `n`. -/
def execAudioPacketRx (n : Nat) (p : AudioPkt) (s : State) : Host.Outcome State Fault Refusal :=
  .next (s.audioPacketIn n p)

/-- FRAME_START (R71) at ingress entry `e`. -/
def execFrameStart (e fmt : Nat) (picture : List Pix) (anc : List AncPkt) (s : State) :
    Host.Outcome State Fault Refusal := .next (s.frameStartIn e fmt picture anc)

end Sys2Proof.Machine
end

