-- ==== Sys2Proof/Machine/Lanes.lean ====
section
/-! DEFINITION. Chapter 13: the serial lanes. TX PLLs and families, receive states, fabric cells and service cells,
equalisation, test patterns, lane start and stop with the slot entries of F-mode lanes, and LANE.CFG. -/

namespace Sys2Proof.Machine

namespace State

/-- Change the lanes' hidden state. -/
def LaneHw.fresh : LaneHw :=
  { ents := [], good := 0, bad := 0, seq := [], claim := 0, eqHeld := false, starting := false, sigWaits := none, huntAt := 0,
    lockAt := 0, sentAt := 0, eyeAt := 0, stream := 0 }
def laneHw (s : State) (n : Nat) : LaneHw := Assoc.findD s.lanes.lanes n LaneHw.fresh
def updLane (n : Nat) (f : LaneHw → LaneHw) (s : State) : State :=
  { s with lanes := { s.lanes with lanes := Assoc.set s.lanes.lanes n (f (s.laneHw n)) LaneHw.fresh } }

/-! ### Modes -/

/-- The modes written in LANE.CFG, running or not: 5 to 7 act as OFF. -/
def modeCode (m : Nat) : Nat := if m ≤ 4 then m else 0
def cfgRxMode (n : Nat) (s : State) : Nat := modeCode (s.get (Reg.LANE.CFG_RXMODE n))
def cfgTxMode (n : Nat) (s : State) : Nat := modeCode (s.get (Reg.LANE.CFG_TXMODE n))

/-- The lane runs, with an RX half in a fabric or twin mode. -/
def laneRuns (n : Nat) (s : State) : Bool := s.flag (Reg.LANE.STAT_RUN n)
def cellMode (n : Nat) (s : State) : Bool := s.laneRxMode n == 3 || s.laneRxMode n == 4

/-! ### TX PLLs (R333–R336); PLL 0 is A, 1 is B -/

def pllLockF (q p : Nat) : FRef := if p = 0 then Reg.QUAD.PLLA_LOCK q else Reg.QUAD.PLLB_LOCK q
def pllRefF (q p : Nat) : FRef := if p = 0 then Reg.QUAD.PLLA_REF q else Reg.QUAD.PLLB_REF q
def pllRetuneF (q p : Nat) : FRef := if p = 0 then Reg.QUAD.PLLA_RETUNE q else Reg.QUAD.PLLB_RETUNE q
def pllUsersF (q p : Nat) : FRef := if p = 0 then Reg.QUAD.PLLA_USERS q else Reg.QUAD.PLLB_USERS q
def pllFamilyF (q p : Nat) : FRef := if p = 0 then Reg.QUAD.PLLA_FAMILY q else Reg.QUAD.PLLB_FAMILY q
def pllStatF (q p : Nat) : FRef := if p = 0 then Reg.QUAD.STAT_PLLALOCK q else Reg.QUAD.STAT_PLLBLOCK q

/-- The family of an E-, F- or T-mode TX half. -/
def modeFamily (tx erate : Nat) : Option Nat :=
  if tx = 2 then some (8 + erate % 2) else if tx = 3 ∨ tx = 4 then some 10 else none

/-- The families that use a PLL, one for each TX half: E-, F- and T-mode halves by LANE.CFG, S-mode halves as the channel
table assigned them. A CFG word other than the one written stands for lane `n` where one is given. -/
def pllFamilies (q p : Nat) (overs : Option (Nat × Nat)) (s : State) : List Nat :=
  ((List.range 4).map fun k =>
    let n := 4 * q + k
    let w := match overs with
      | some o => if o.1 = n then o.2 else (s.rd (Reg.LANE.CFG_TXMODE n).addr).toNat
      | none => (s.rd (Reg.LANE.CFG_TXMODE n).addr).toNat
    match modeFamily (modeCode (bits w 6 4)) (bits w 9 9) with
    | some f => if bits w 8 8 = p then [f] else []
    | none =>
        let f := s.get (Reg.LANE.TXSTAT_FAMILY n)
        if modeCode (bits w 6 4) = 1 ∧ f ≤ 7 ∧ s.get (Reg.LANE.TXSTAT_PLL n) = p then [f] else []).flatten

/-- The quad's PLLs run (R352). -/
def quadRuns (q : Nat) (s : State) : Bool := s.flag (Reg.QUAD.STAT_RUN q)

/-- A PLL's lock, as both registers show it. -/
def setPllLock (q p : Nat) (b : Bool) (s : State) : State := (s.setB (pllLockF q p) b).setB (pllStatF q p) b

/-- A PLL begins to search for lock; 10 ms later it has failed (R335). -/
def pllBegins (q p : Nat) (s : State) : State :=
  { s with lanes := { s.lanes with tuned := Assoc.put s.lanes.tuned (2 * q + p) s.now } }
def pllOverdue (q p : Nat) (s : State) : Bool := decide (Assoc.findD s.lanes.tuned (2 * q + p) 0 + 10000000 ≤ s.now)

/-- A PLL takes a family: it retunes when its quad runs, and records it otherwise (R335). -/
def pllTune (q p fam : Nat) (s : State) : State :=
  let s := (s.set (pllFamilyF q p) fam).setB (pllRefF q p) (decide (fam ≤ 7))
  if s.quadRuns q then
    (((s.setPllLock q p false).set (pllRetuneF q p) 1).bump (Reg.QUAD.CNT_RETUNES q) 1).pllBegins q p
  else s

/-- USERS is shown, and a PLL whose users' family is not its own takes it; a free one the idle family (R334). -/
def fitPll (q p : Nat) (s : State) : State :=
  let us := s.pllFamilies q p none
  let s := s.set (pllUsersF q p) us.length
  s.when (s.get (pllFamilyF q p) != us.headD 15) (pllTune q p (us.headD 15))
def fitPlls (q : Nat) (s : State) : State := (s.fitPll q 0).fitPll q 1

/-- The PLL for an S-mode family (R334): the one that carries it, else a free one, B before A. -/
def pllFor (q fam : Nat) (s : State) : Option Nat :=
  match [0, 1].find? fun p => s.get (pllFamilyF q p) == fam && s.pllFamilies q p none != [] with
  | some p => some p
  | none => [1, 0].find? fun p => s.pllFamilies q p none == []

/-- The channel table assigns a PLL to the TX halves of an output, or takes it back (family 15). -/
def assignPll (n k p fam : Nat) (s : State) : State :=
  let s := s.each (List.range k) fun j t =>
    (t.set (Reg.LANE.TXSTAT_PLL (n + j)) (if fam = 15 then 0 else p)).set (Reg.LANE.TXSTAT_FAMILY (n + j)) fam
  s.fitPlls (n / 4)

/-- Outputs on a PLL, by egress entry. -/
def pllOutputs (q p : Nat) (s : State) : List Nat :=
  dedup (((List.range 4).map fun k =>
    let n := 4 * q + k
    if s.get (Reg.LANE.TXSTAT_PLL n) = p then s.outputsOfLane n else []).flatten)

/-- The outputs on a PLL that is out of lock fail as TIMING_LOSS (R336). -/
def pllOutputsFail (q p : Nat) (s : State) : State := s.each (s.pllOutputs q p) timingLoss

/-- A TX PLL loses lock (R336). -/
def pllLost (q p : Nat) (s : State) : State :=
  if s.quadRuns q ∧ s.flag (pllLockF q p) then
    (((s.setPllLock q p false).bump (Reg.QUAD.CNT_LOCKLOSS q) 1).quadCause q (1 + p)).pllOutputsFail q p
  else s

/-- A PLL of a quad newly enabled is not locked after 10 ms (R335). -/
def pllLockTimeout (q p : Nat) (s : State) : State :=
  if s.quadRuns q ∧ !s.flag (pllLockF q p) ∧ s.pllOverdue q p then (s.quadCause q (1 + p)).pllOutputsFail q p else s

/-! ### Receive states (R337–R340) -/

/-- The slot halves of an F-mode lane report loss of lock (R337); under a merge the stream lives on the other leg. -/
def fabricDown (n : Nat) (s : State) : State :=
  let js := (List.range 256).filter fun j => s.use (Reg.TWIN.FMERGE_VALID j) == 1 &&
    (s.use (Reg.TWIN.FMERGE_LANEA j) == n || s.use (Reg.TWIN.FMERGE_LANEB j) == n)
  match js with
  | [] => (s.each ((s.laneHw n).ents.take 2) pathLoss).updLane n fun x => { x with seq := [] }
  | j :: _ =>
      let a := s.use (Reg.TWIN.FMERGE_LANEA j)
      let other := if a = n then s.use (Reg.TWIN.FMERGE_LANEB j) else a
      if s.rxUp other then s
      else (s.each ((s.laneHw a).ents.take 2) pathLoss).updLane a fun x => { x with seq := [] }

/-- What an RX half that leaves UP does to the block above it; `rows` is how far the SDI frame in progress has come. The
E-ports and the twin link follow by their own events. -/
def leaveUp (n rows : Nat) (s : State) : State :=
  let s := (s.set (Reg.LANE.PEER_VALID n) 0).when (s.laneRxMode n == 3) (set (Reg.QUAD.STAT_REVERSED (n / 4)) 0)
  if s.laneRxMode n = 1 then s.sdiNoSignal n rows true
  else if s.laneRxMode n = 3 then s.fabricDown n
  else s

/-- An RX half takes a state; short of CELL an F- or T-mode half uses the polarity that RXPOL of its pins gives (R340), and a far-end
loopback of its pins follows its state (R349, R342). -/
def rxTo (n st rows : Nat) (s : State) : State :=
  let old := s.get (Reg.LANE.STAT_RXSTATE n)
  let s := ((s.set (Reg.LANE.STAT_RXSTATE n) st).setB (Reg.LANE.STAT_SIGDET n) (st != 0)).setB
    (Reg.LANE.STAT_CDRLOCK n) (decide (2 ≤ st))
  let s := s.when (decide (2 ≤ old) && decide (st ≤ 1)) (laneCause n 3)
  let s := s.when (old == 4 && st != 4) (leaveUp n rows)
  let s := s.when (decide (st ≤ 1)) (set (Reg.LANE.PRBS_LOCK n) 0)
  let m := s.pinLane n
  let s := s.when (s.cellMode n && decide (st ≤ 2)) (set (Reg.LANE.STAT_POLINV m) (s.use (Reg.LANE.CFG_RXPOL m)))
  let s := s.when (s.laneRuns m && s.use (Reg.LANE.CFG_LOOP m) == 3) (set (Reg.LANE.STAT_TXSTATE m) (s.txShown m 0))
  s.when (st == 4 && old != 4) (laneCause n 6)

/-- An RX half starts its hunt for cell lock, at the polarity that RXPOL of its pins gives (R340, R342). -/
def enterCell (n rows : Nat) (s : State) : State :=
  let m := s.pinLane n
  ((s.rxTo n 3 rows).set (Reg.LANE.STAT_POLINV m) (s.use (Reg.LANE.CFG_RXPOL m))).updLane n fun x =>
    { x with good := 0, bad := 0, huntAt := s.now }

/-- Signal detect asserts or deasserts; a receive domain that is stopped takes it when its clock returns (R23, R57). -/
def signalDetect (n : Nat) (on : Bool) (rows : Nat) (s : State) : State :=
  if s.laneRuns n ∧ s.laneRxMode n ≠ 0 then
    if s.rxStopped n then s.updLane n fun x => { x with sigWaits := some on }
    else if on then s.when (s.get (Reg.LANE.STAT_RXSTATE n) == 0) (rxTo n 1 rows)
    else s.rxTo n 0 rows
  else s

/-- The clock of a receive domain returns: it takes the change of signal detect that waited. -/
def signalTaken (n : Nat) (s : State) : State :=
  match (s.laneHw n).sigWaits with
  | none => s
  | some on =>
      let s := s.updLane n fun x => { x with sigWaits := none }
      if on then s.when (s.get (Reg.LANE.STAT_RXSTATE n) == 0) (rxTo n 1 0) else s.rxTo n 0 0

/-- A PLL reports lock: it runs, and stands in for the clocks that stopped (R23). -/
def pllLocks (q p : Nat) (s : State) : State :=
  if s.quadRuns q then
    ((s.setPllLock q p true).set (pllRetuneF q p) 0).each ((List.range 4).map fun k => 4 * q + k) signalTaken
  else s

/-- The equaliser values in use, in the words of RXEQ. -/
def showEq (n ctle dfe14 dfe5 : Nat) (s : State) : State :=
  ((s.set (Reg.LANE.RXEQ_CTLE n) ctle).wr (Reg.LANE.RXEQ_DFE1 n).addr (BitVec.ofNat 32 dfe14)).set
    (Reg.LANE.RXEQ_DFE5 n) dfe5

/-- The override values apply (R347): CTLE above 20 acts as 20. -/
def eqOverride (n : Nat) (s : State) : State :=
  s.showEq n (min 20 (s.get (Reg.LANE.RXEQSET_CTLE n))) (s.rd (Reg.LANE.RXEQSET_DFE1 n).addr).toNat
    (s.get (Reg.LANE.RXEQSET_DFE5 n))

/-- A write of RXEQCTL or RXEQSET takes effect (R347). -/
def eqLand (n : Nat) (s : State) : State := s.when (s.flag (Reg.LANE.RXEQCTL_OVERRIDE n)) (eqOverride n)

/-- Adaptation runs from CDR lock onward; the values it reaches are open. -/
def adapt (n : Nat) (s : State) : State :=
  if s.flag (Reg.LANE.RXEQCTL_OVERRIDE n) ∨ s.flag (Reg.LANE.RXEQCTL_FREEZE n) then s
  else
    let a := s.fresh
    let b := a.2.fresh
    let c := b.2.fresh
    c.2.showEq n (a.1 % 21) b.1 c.1

/-- The CDR locks (R337), which gives its domain a clock again (R23); an S-mode half locks only while its engine hunts (R186), and
its engine sees the lock only while no pattern is checked (R350). -/
def cdrLock (n : Nat) (div : Bool) (s : State) : State :=
  let m := s.laneRxMode n
  let s := s.signalTaken n
  let hunts := s.flag (Reg.SDI.STAT_RUN (sdiPage n)) && s.use (Reg.SDI.RXCFG_RATES (sdiPage n)) != 0
  if s.laneRuns n ∧ s.get (Reg.LANE.STAT_RXSTATE n) = 1 ∧ (m ≠ 1 ∨ hunts) then
    let k := s.pinLane n
    let s := (s.adapt k).updLane k fun x => { x with lockAt := s.now, eqHeld := false }
    if m = 1 then (s.when (s.use (Reg.LANE.PRBS_RXCHK n) == 0) (sdiCdrLock n div)).rxTo n 4 0
    else if m = 2 then (s.set (Reg.LANE.STAT_POLINV k) (s.use (Reg.LANE.CFG_RXPOL k))).rxTo n 4 0
    else s.rxTo n 2 0
  else s

/-- The CDR loses lock. -/
def cdrLost (n rows : Nat) (s : State) : State :=
  if s.laneRuns n ∧ 2 ≤ s.get (Reg.LANE.STAT_RXSTATE n) then s.rxTo n 1 rows else s

/-- Block lock is gained (R338). -/
def blockLock (n : Nat) (s : State) : State :=
  if s.laneRuns n ∧ s.cellMode n ∧ s.get (Reg.LANE.STAT_RXSTATE n) = 2 then s.enterCell n 0 else s

/-- A window of 1,024 blocks ends (R338). -/
def blockWindow (n inv : Nat) (s : State) : State :=
  if s.laneRuns n ∧ s.cellMode n ∧ 3 ≤ s.get (Reg.LANE.STAT_RXSTATE n) then
    let s := s.bump (Reg.LANE.BLKCNT_INVHDR n) inv
    if 16 < inv then ((s.bump (Reg.LANE.BLKCNT_BLKLOSS n) 1).rxTo n 2 0).laneCause n 4 else s
  else s

/-- 128 cell times of 2,112 bits at 28.125 Gbaud, in ns (R340). -/
def polHunt : Nat := 9612

/-- 128 cell times without cell lock (R340): the half hunts again at the other polarity of its pins. -/
def polInvert (n : Nat) (s : State) : State :=
  let m := s.pinLane n
  if s.laneRuns n ∧ s.cellMode n ∧ s.get (Reg.LANE.STAT_RXSTATE n) = 3 ∧ s.use (Reg.LANE.CFG_POLAUTO m) = 1 ∧
      (s.laneHw n).huntAt + polHunt ≤ s.now then
    (s.setB (Reg.LANE.STAT_POLINV m) (!s.flag (Reg.LANE.STAT_POLINV m))).updLane n fun x => { x with good := 0, huntAt := s.now }
  else s

/-! ### Fabric cells (R155, R156, R339, R344, R455) -/

/-- The CRC-8 of a cell header is right. -/
def headerOk (h : List Byte) : Bool := h.length == 16 && crcBytes 8 7 0 (h.take 15) == ((h.drop 15).headD 0).toNat

/-- The merge that a lane belongs to, and its two lanes (R455). -/
def mergeOf (n : Nat) (s : State) : Option (Nat × Nat × Nat) :=
  ((List.range 256).find? fun j => s.use (Reg.TWIN.FMERGE_VALID j) == 1 &&
    (s.use (Reg.TWIN.FMERGE_LANEA j) == n || s.use (Reg.TWIN.FMERGE_LANEB j) == n)).map fun j =>
      (j, s.use (Reg.TWIN.FMERGE_LANEA j), s.use (Reg.TWIN.FMERGE_LANEB j))

/-- A leg of a merge is merged now (R455): its sender's claim is not 0, and no other leg that carries ACT has a higher
claim when both do. -/
def legMerged (n other : Nat) (first : Bool) (s : State) : Bool :=
  let a := (s.laneHw n).claim
  let b := (s.laneHw other).claim
  a != 0 && s.rxUp n && (if 256 ≤ a ∧ 256 ≤ b then decide (b < a) || (a == b && first) else true)

/-- AUSE and BUSE of a merge. -/
def showMerge (n : Nat) (s : State) : State :=
  match s.mergeOf n with
  | none => s
  | some (j, a, b) =>
      (s.setB (Reg.TWIN.FMERGE_AUSE j) (s.legMerged a b true)).setB (Reg.TWIN.FMERGE_BUSE j) (s.legMerged b a false)

/-- The lane whose entries the cells of a lane enter, and whether they are taken. -/
def streamLane (n : Nat) (s : State) : Nat × Bool :=
  match s.mergeOf n with
  | none => (n, true)
  | some (_, a, b) => if n = a then (a, s.legMerged a b true) else (a, s.legMerged b a false)

/-- The hop tag of a first cell is what PROV.LINK of the lane expects (R155). -/
def hopOk (n h hop : Nat) (s : State) : Bool :=
  bits hop 31 14 == s.use (Reg.PROV.LINK_PEERSYS n) && bits hop 13 5 == s.use (Reg.PROV.LINK_PEERLANE n) &&
    bits hop 4 4 == h

/-- A frame begins on a slot half of a lane (R84, R155, R156), and enters the entry of the stream's lane. -/
def hopFrame (n a h : Nat) (x : HopFrame) (s : State) : State :=
  let check := s.use (Reg.PROV.LINK_CHECK n) == 1
  let ok := check && s.hopOk n h x.hop
  let s := s.when (check && !ok) (raiseLimited (0x11000000 + n) 17 [n, x.hop])
  match (s.laneHw a).ents[h]? with
  | none => s
  | some e =>
      let hd := s.get (Reg.FAB.ISE_HANDLE e)
      if hd = 0 then s
      else if fmtNoColr x.frame.fmt ≠ fmtNoColr (s.ing e).fmt then s.pathLoss e
      else
        let f : Frame := if ok then
            { x.frame with token := x.frame.token.map fun t =>
                { t with sys := s.use Reg.CHN.CFG_SYSNUM, idx := handleIdx hd } }
          else { x.frame with tstate := 2 }
        (s.updIng e fun y => { y with writing := true }).storeFrame e f

/-- Cells of a slot half are lost (R156, R164). Where a frame start was due and no first cell came, a frame begins without one: it has
no token, is poisoned, and what a reader makes of it is black. A start is due one period after the last, to within the window of R68:
DESIGN CHOICE, the spec does not say how a receiver knows that the cell lost was a first cell. -/
def lostCells (e : Nat) (started : Bool) (s : State) : State :=
  let x := s.ing e
  if !started && x.cur.isSome && s.get (Reg.FAB.ISE_HANDLE e) != 0 &&
      decide (fmtPeriod3 x.fmt ≤ 3 * (s.now - x.at_) + 18000) then
    s.storeFrame e { fmt := x.fmt, token := none, tstate := 0, poisoned := true, picture := blackPicture x.fmt, anc := [] }
  else s.poisonIng e

/-- A slot cell in UP: sequence gaps, of overflow losses too, and frame starts. -/
def slotCell (n : Nat) (c : FabricCell) (s : State) : State :=
  let r := s.streamLane n
  let a := r.1
  if r.2 then
    let e := (s.laneHw a).ents[c.kind]?
    let last := Assoc.find (s.laneHw a).seq c.kind
    let old := match last with | some q => decide (c.seq ≤ q) && (s.mergeOf n).isSome | none => false
    let gap := match last with | some q => c.seq != q + 1 | none => false
    if old then s
    else
      let s := if (gap ∨ c.lost ≠ 0) then (match e with | some i => s.lostCells i c.first.isSome | none => s) else s
      let s := s.updLane a fun x => { x with seq := Assoc.put x.seq c.kind c.seq }
      match c.first with
      | some x => s.hopFrame n a c.kind x
      | none => s
  else s

/-- A cell is received (R339). -/
def cellIn (n : Nat) (c : FabricCell) (s : State) : State :=
  if s.laneRuns n ∧ s.cellMode n ∧ s.use (Reg.LANE.PRBS_RXCHK n) = 0 then
    let s := s.farEnd n (.loopCell (s.pinLane n) c)
    let ok := headerOk c.header
    let x := s.laneHw n
    match s.get (Reg.LANE.STAT_RXSTATE n) with
    | 3 =>
        if ok then
          if 8 ≤ x.good + 1 then
            let s := (s.updLane n fun y => { y with good := 0, bad := 0, seq := [] }).rxTo n 4 0
            let m := s.pinLane n
            s.when (s.get (Reg.LANE.STAT_POLINV m) != s.use (Reg.LANE.CFG_RXPOL m)) (laneCause m 7)
          else s.updLane n fun y => { y with good := x.good + 1 }
        else s.updLane n fun y => { y with good := 0 }
    | 4 =>
        let s := s.when (c.lost != 0) fun t => (t.bump (Reg.LANE.CELLCNT_ELASTIC n) c.lost).laneCause n 10
        if ok then
          let s := s.updLane n fun y => { y with bad := 0 }
          if s.laneRxMode n = 3 ∧ c.kind ≤ 1 then s.slotCell n c else s
        else
          let s := (s.bump (Reg.LANE.CELLCNT_HDRERR n) 1).updLane n fun y => { y with bad := x.bad + 1 }
          if 7 ≤ x.bad + 1 then ((s.bump (Reg.LANE.CELLCNT_CELLLOSS n) 1).enterCell n 0).laneCause n 5 else s
    | _ => s
  else s

/-! ### Service cells (R341, R345) -/

/-- STAT.REMDOWN and cause REMOTE_DOWN follow the remote status: both clear at the first service cell that reports UP (R345). -/
def remoteStatus (n : Nat) (down : Bool) (s : State) : State :=
  if down then (s.set (Reg.LANE.STAT_REMDOWN n) 1).laneCause n 9
  else if s.flag (Reg.LANE.STAT_REMDOWN n) then
    let e := s.get (Reg.LANE.EVSTAT n)
    (s.set (Reg.LANE.STAT_REMDOWN n) 0).set (Reg.LANE.EVSTAT n) (e - bits e 9 9 * 512)
  else s

/-- The tags of a quad's four lanes name one partner's quad in reverse of what PROV.LINK expects (R341). -/
def reversedQuad (q : Nat) (s : State) : Bool :=
  (List.range 4).all fun k =>
    let n := 4 * q + k
    let m := 4 * q + 3 - k
    s.get (Reg.LANE.STAT_RXSTATE n) == 4 && s.flag (Reg.LANE.PEER_VALID n) &&
      s.get (Reg.LANE.PEER_SYSNUM n) == s.get (Reg.LANE.PEER_SYSNUM (4 * q)) &&
      s.get (Reg.LANE.PEER_LANE n) / 4 == s.get (Reg.LANE.PEER_LANE (4 * q)) / 4 &&
      s.get (Reg.LANE.PEER_SYSNUM n) == s.use (Reg.PROV.LINK_PEERSYS m) &&
      s.get (Reg.LANE.PEER_LANE n) == s.use (Reg.PROV.LINK_PEERLANE m)

/-- REVERSED follows the tags. -/
def showReversed (q : Nat) (s : State) : State :=
  let r := s.reversedQuad q
  let was := s.flag (Reg.QUAD.STAT_REVERSED q)
  (s.setB (Reg.QUAD.STAT_REVERSED q) r).when (r && !was) (quadCause q 3)

/-- A service cell is received in UP: the tag, the remote status, the claim, and the firmware's service-stream data. -/
def serviceIn (n : Nat) (c : ServiceCell) (s : State) : State :=
  if s.laneRuns n ∧ s.cellMode n ∧ s.rxUp n then
    let s := (((s.set (Reg.LANE.PEER_SYSNUM n) c.sys).set (Reg.LANE.PEER_LANE n) c.lane).set
      (Reg.LANE.PEER_RXST n) c.rxst).set (Reg.LANE.PEER_VALID n) 1
    let s := (s.farEnd n (.loopService (s.pinLane n) c)).updLane n fun x => { x with claim := c.claim, stream := c.data }
    let mis := s.laneRxMode n == 3 &&
      (c.sys != s.use (Reg.PROV.LINK_PEERSYS n) || c.lane != s.use (Reg.PROV.LINK_PEERLANE n))
    let s := (s.setB (Reg.LANE.STAT_PEERMIS n) mis).when mis (laneCause n 8)
    let s := s.remoteStatus n c.down
    (s.when (s.laneRxMode n == 3) (showReversed (n / 4))).showMerge n
  else s

/-- Every 4 µs a service cell leaves an F-mode or T-mode TX half: peer tag, remote status, carried claim, and on a T-lane L
while the unit carries ACT. In a near-end loopback it comes back to the RX half that takes its data from these pins (R349). -/
def serviceSend (n : Nat) (s : State) : State :=
  let t := s.laneTxMode n
  if s.laneRuns n ∧ (t = 3 ∨ t = 4) ∧ (s.laneHw n).sentAt + 4000 ≤ s.now then
    let st := s.get (Reg.LANE.STAT_RXSTATE n)
    let own := s.get Reg.TWIN.CARRIED_OWN
    let rec_ := t == 4 && decide (256 ≤ own) && s.twin.auth && decide (Assoc.findD s.lode.lSent (n / 2) 0 + 50000 ≤ s.now)
    let s := (s.updLane n fun x => { x with sentAt := s.now }).when rec_ (updLode fun x => { x with lSent := Assoc.put x.lSent (n / 2) s.now })
    let c : ServiceCell := { sys := s.use Reg.CHN.CFG_SYSNUM, lane := n, rxst := st, down := st != 4, claim := own,
                             l := if rec_ then some (s.lode.l, true) else none, data := s.fresh.1 }
    let s := s.fresh.2
    match s.txPath n with
    | 0 => s.emit (.service n c)
    | 1 => s.serviceIn (s.pinLane n) c
    | _ => s
  else s

/-- A frame that an F-mode output sends into a near-end loopback begins on the slot half of the lane that takes its data from these pins,
and one of an S-mode output, all of whose lanes loop, on the entries of the engine that receives it (R349). -/
def loopBack (e : Nat) (s : State) : State :=
  match s.out.find? fun o => match o with | .frame x => x.entry == e | _ => false with
  | some (.frame x) =>
      if x.path = [] ∨ !x.path.all (fun p => p == 1) then s
      else
        let i := handleIdx (s.get (Reg.FAB.ESE_HANDLE e))
        let k := s.pinLane (s.outLane i)
        match x.hop with
        | some h => s.when (s.laneRxMode k == 3 && s.rxUp k) (hopFrame k (s.streamLane k).1 (s.chanStream i) { hop := h, frame := x.frame })
        | none =>
            s.when (s.laneRxMode k == 1 && s.rxUp k) fun t => t.each (t.rxEntries k) fun g u =>
              u.frameStartIn g (t.chanFmt i) x.frame.picture (x.frame.anc ++ x.inserted)
  | _ => s

/-- An output sends a frame, and what a loopback does with it. -/
def outputSend (e taken : Nat) (off holdBad : Bool) (s : State) : State :=
  let t := s.sendFrame e taken off holdBad
  if t.out.length = s.out.length then t else t.loopBack e

/-! ### Equalisation and patterns (R346–R350) -/

/-- A write of TXEQ is accepted (R346). -/
def txeqOk (d : Nat) : Bool :=
  let pre := bits d 3 0
  let main := bits d 13 8
  let post := bits d 20 16
  decide (pre + main + post ≤ 63) && decide (pre + post + 8 ≤ main)

/-- A write of TXEQ takes effect, or is discarded. -/
def txeqLand (n : Nat) (data : Word) (s : State) : State :=
  let d := data.toNat
  if txeqOk d then
    ((s.set (Reg.LANE.TXEQ_PRE n) d).set (Reg.LANE.TXEQ_MAIN n) (bits d 13 8)).set (Reg.LANE.TXEQ_POST n) (bits d 20 16)
  else s.laneCause n 11

/-- A value of the equaliser stands at its limit (R347). -/
def atLimit (ctle dfe14 dfe5 : Nat) : Bool :=
  ctle == 20 || ([bits dfe14 7 0, bits dfe14 15 8, bits dfe14 23 16, bits dfe14 31 24, dfe5 % 256].any fun t =>
    t == 127 || t == 128)

/-- Adaptation of the equaliser at the pins of a lane holds values (R347, R342). It has run since CDR lock, so no value has stood
for 100 ms before 100 ms have passed since then. -/
def eqLimit (n ctle dfe14 dfe5 : Nat) (s : State) : State :=
  if s.laneRuns n ∧ s.flag (Reg.LANE.STAT_CDRLOCK (s.pinLane n)) ∧ !s.flag (Reg.LANE.RXEQCTL_OVERRIDE n) ∧
      !s.flag (Reg.LANE.RXEQCTL_FREEZE n) then
    let lim := atLimit ctle dfe14 dfe5 && decide ((s.laneHw n).lockAt + 100000000 ≤ s.now)
    let was := (s.laneHw n).eqHeld
    ((s.showEq n ctle dfe14 dfe5).updLane n fun x => { x with eqHeld := lim }).when (lim && !was) (laneCause n 12)
  else s

/-- Every 1 ms the monitor slicer of the pins measures the eye (R348). -/
def eyeMeasure (n height width : Nat) (s : State) : State :=
  if s.laneRuns n ∧ s.flag (Reg.LANE.STAT_CDRLOCK (s.pinLane n)) ∧ (s.laneHw n).eyeAt + 1000000 ≤ s.now then
    ((s.set (Reg.LANE.EYE_HEIGHT n) height).set (Reg.LANE.EYE_WIDTH n) width).updLane n fun x => { x with eyeAt := s.now }
  else s

/-- The pattern checker (R350): what it makes of the RX half's data, against the pattern that PAT selects. -/
def prbsCheck (n clean errors : Nat) (s : State) : State :=
  let live := s.flag (Reg.LANE.STAT_CDRLOCK n) || s.use (Reg.LANE.CFG_LOOP (s.pinLane n)) == 2
  if s.laneRuns n ∧ live ∧ s.use (Reg.LANE.PRBS_RXCHK n) = 1 then
    let s := if s.flag (Reg.LANE.PRBS_LOCK n) ∨ clean < 64 then s
      else (s.set (Reg.LANE.PRBS_LOCK n) 1).set (Reg.LANE.PRBSERR n) 0
    s.when (s.flag (Reg.LANE.PRBS_LOCK n)) (bumpSat (Reg.LANE.PRBSERR n) errors)
  else s

/-! ### LANE.CFG (R354) -/

/-- A channel holds a half of a lane: RX of inputs, TX of outputs, S-mode or F-mode. -/
def laneHeld (rx : Bool) (n : Nat) (s : State) : Bool :=
  s.chn.chans.any fun p =>
    let a := p.2.args.getD 0 0
    let lane := bits a 27 19
    let w := if srcField p.2.args = 0 ∧ (p.2.kind = 1 ∨ p.2.kind = 2) then mapLanes (fmtMap (p.2.args.getD 1 0)) else 1
    let on := decide (lane ≤ n) && decide (n < lane + w)
    let mine := if rx then p.2.kind == 1 || p.2.kind == 5 else p.2.kind == 2 || p.2.kind == 6
    mine && on && (srcField p.2.args == 0 || srcField p.2.args == 3)

/-- The mode is allowed on the lane by its role (R3, R24): 0 crosspoint, 1 edge, 2 hybrid. -/
def modeAllowed (role n m : Nat) : Bool :=
  match m with
  | 0 => true
  | 1 => role != 0
  | 2 => role != 0 && decide (n < 256)
  | 3 => role != 2
  | _ => decide (508 ≤ n)

/-- At most one family on each PLL of a quad (R25). -/
def familiesOk (q : Nat) (overs : Option (Nat × Nat)) (s : State) : Bool :=
  [0, 1].all fun p => decide ((dedup (s.pllFamilies q p overs)).length ≤ 1)

/-- A CFG word is invalid for a lane under R3, R24, R25 or R332. -/
def cfgInvalid (n d : Nat) (s : State) : Bool :=
  let rx := modeCode (bits d 2 0)
  let tx := modeCode (bits d 6 4)
  let role := s.load.role
  (rx != tx && (decide (2 ≤ rx) || decide (2 ≤ tx))) || !modeAllowed role n rx || !modeAllowed role n tx ||
    !s.familiesOk (n / 4) (some (n, d))

/-- A write of LANE.CFG is discarded whole (R354). -/
def laneCfgRefused (n : Nat) (data : Word) (s : State) : Bool :=
  let d := data.toNat
  (modeCode (bits d 2 0) != s.cfgRxMode n && s.laneHeld true n) ||
    (modeCode (bits d 6 4) != s.cfgTxMode n && s.laneHeld false n) || s.cfgInvalid n d

/-- A discarded write of LANE.CFG. -/
def laneCfgDiscard (m n : Nat) (s : State) : State :=
  (((s.set (Reg.LANE.STAT_CFG_IGN n) 1).recordIgnored m (Reg.LANE.CFG_RXMODE n).addr).markIgnored m).laneCause n 1

/-! ### Start and stop (R20, R351, R352, R355) -/

/-- What a TX half shows when its lane starts: filler in F and T, idle in E, driver off in S; its family (R333). -/
def txStart (n : Nat) (s : State) : State :=
  let tx := s.laneTxMode n
  let s := s.set (Reg.LANE.STAT_TXSTATE n) (s.txShown n (if 2 ≤ tx then 1 else 0))
  match modeFamily tx (s.use (Reg.LANE.CFG_ERATE n)) with
  | some f => (s.set (Reg.LANE.TXSTAT_PLL n) (s.use (Reg.LANE.CFG_TXPLL n))).set (Reg.LANE.TXSTAT_FAMILY n) f
  | none => s

/-- The two ingress and two egress entries of an F-mode lane are put in use (R64); false when they have no place. -/
def laneEntries (n : Nat) (s : State) : State × Bool :=
  match allocAll s.ingUse [0, 0], allocAll s.egrUse [0, 0] with
  | some is, some es =>
      let s := s.each is fun e t => t.openIng e 0 0 3 0 0 true
      let s := s.each es fun e t => t.openEgr e 0 0 3 0 0 true
      (s.updLane n fun x => { x with ents := is ++ es, starting := false }, true)
  | _, _ => (s, false)

/-- A lane comes up once its entries are placed. -/
def laneUp (n : Nat) (s : State) : State :=
  let s := s.when (s.use (Reg.LANE.PRBS_TXGEN n) == 1) (emit (.pattern n (s.use (Reg.LANE.PRBS_PAT n))))
  ((s.set (Reg.LANE.STAT_RUN n) 1).txStart n).updLane n fun x =>
    { x with eqHeld := false, good := 0, bad := 0, seq := [], starting := false, sentAt := s.now, eyeAt := s.now }

/-- A lane starts (R355): it leaves deep low power (R351); an F-mode lane first takes its entries, is refused, or waits for a
compaction. -/
def laneStart (n : Nat) (s : State) : State :=
  let s := (s.set (Reg.LANE.PWR_DEEP n) 0).set (Reg.LANE.PWR_READY n) 1
  if !s.quadRuns (n / 4) then s
  else if s.laneRxMode n ≠ 3 ∨ (s.laneHw n).ents ≠ [] then s.laneUp n
  else if !s.awaits (.lane n) ∧ !s.budgetFits [0, 0] [0, 0] then
    (s.updLane n fun x => { x with starting := false }).laneCause n 2
  else
    let r := s.laneEntries n
    if r.2 then (r.1.dropNeed (.lane n)).laneUp n
    else (s.updLane n fun x => { x with starting := true }).startCompaction (.lane n) [0, 0] [0, 0]

/-- The entries of an F-mode lane with EN = 0 are released, once no channel is bound and no reader is left (R84, R86). -/
def laneRelease (n : Nat) (s : State) : State :=
  let es := (s.laneHw n).ents
  let bound := (es.take 2).any (fun e => s.get (Reg.FAB.ISE_HANDLE e) != 0) ||
    (es.drop 2).any (fun e => s.get (Reg.FAB.ESE_HANDLE e) != 0)
  let read := (es.take 2).any fun e => s.readersOf e != []
  if es = [] ∨ s.get (Reg.LANE.CTRL_EN n) = 1 ∨ s.laneRuns n ∨ bound ∨ read then s
  else ((s.each (es.take 2) closeIng).each (es.drop 2) closeEgr).updLane n fun x => { x with ents := [] }

/-- A lane stops. -/
def laneStop (n : Nat) (s : State) : State :=
  let s := s.rxTo n 0 2160
  let s := (s.set (Reg.LANE.STAT_TXSTATE n) 0).updLane n fun x => { x with starting := false, sigWaits := none, eqHeld := false }
  let s := s.dropNeed (.lane n)
  let s := s.when ((modeFamily (s.laneTxMode n) 0).isSome) fun t =>
    (t.set (Reg.LANE.TXSTAT_PLL n) 0).set (Reg.LANE.TXSTAT_FAMILY n) 15
  (s.set (Reg.LANE.STAT_RUN n) 0).laneRelease n

/-- A quad starts: its PLLs restart with the families of their users, then its enabled lanes (R351, R352). -/
def quadStart (q : Nat) (s : State) : State :=
  let s := (s.fitPlls q).set (Reg.QUAD.PWR_READY q) 1
  let s := (s.set (Reg.QUAD.STAT_RUN q) 1).each [0, 1] fun p t => (t.setPllLock q p false).pllBegins q p
  s.each (List.range 4) fun k t =>
    if t.get (Reg.LANE.CTRL_EN (4 * q + k)) = 1 then t.laneStart (4 * q + k) else t

/-- A quad stops, and its lanes with it. -/
def quadStop (q : Nat) (s : State) : State :=
  let s := s.each (List.range 4) fun k t => if t.laneRuns (4 * q + k) then t.laneStop (4 * q + k) else t
  let s := (s.set (Reg.QUAD.STAT_RUN q) 0).each [0, 1] fun p t => (t.setPllLock q p false).set (pllRetuneF q p) 0
  s.when (s.flag (Reg.QUAD.PWR_DEEP q)) (set (Reg.QUAD.PWR_READY q) 0)

/-- A write of DEEP takes effect while the lane or the quad is stopped (R351): it takes the power away, and EN brings it back. -/
def laneDeepLand (n : Nat) (s : State) : State :=
  if s.laneRuns n ∨ !s.flag (Reg.LANE.PWR_DEEP n) then s else s.set (Reg.LANE.PWR_READY n) 0
def quadDeepLand (q : Nat) (s : State) : State :=
  if s.quadRuns q ∨ !s.flag (Reg.QUAD.PWR_DEEP q) then s else s.set (Reg.QUAD.PWR_READY q) 0

end State

/-- CDR_LOCK (R337) of lane `n`. -/
def execCdrLock (n : Nat) (div : Bool) (s : State) : Host.Outcome State Fault Refusal := .next (s.cdrLock n div)

/-- BLOCK_LOCK (R338) of lane `n`. -/
def execBlockLock (n : Nat) (s : State) : Host.Outcome State Fault Refusal := .next (s.blockLock n)

/-- POL_INV (R340) on lane `n`. -/
def execPolInv (n : Nat) (s : State) : Host.Outcome State Fault Refusal := .next (s.polInvert n)

/-- SERVICE_CELL_SEND (R341) on lane `n`. -/
def execServiceCellSend (n : Nat) (s : State) : Host.Outcome State Fault Refusal := .next (s.serviceSend n)

/-- PLLA_LOST (R336) of PLL `p` of quad `q`. -/
def execPllaLost (q p : Nat) (s : State) : Host.Outcome State Fault Refusal := .next (s.pllLost q p)

/-- PLL_RELOCK (R336) of PLL `p` of quad `q`; the lock that ends a retune is PLL_RETUNE_DONE's (R335). -/
def execPllRelock (q p : Nat) (s : State) : Host.Outcome State Fault Refusal :=
  .next (if s.flag (State.pllRetuneF q p) then s else s.pllLocks q p)

/-- OUTPUT_FRAME_SEND (R207) of egress entry `e`. -/
def execOutputFrameSend (e taken : Nat) (off holdBad : Bool) (s : State) : Host.Outcome State Fault Refusal :=
  .next (s.outputSend e taken off holdBad)

/-- QUAD_PLL_LOCK_TIMEOUT (R335) of PLL `p` of quad `q`. -/
def execQuadPllLockTimeout (q p : Nat) (s : State) : Host.Outcome State Fault Refusal := .next (s.pllLockTimeout q p)

/-- EQ_LIMIT (R347) on lane `n`. -/
def execEqLimit (n ctle dfe14 dfe5 : Nat) (s : State) : Host.Outcome State Fault Refusal :=
  .next (s.eqLimit n ctle dfe14 dfe5)

/-- EYE_MEASURE (R348) on lane `n`. -/
def execEyeMeasure (n height width : Nat) (s : State) : Host.Outcome State Fault Refusal :=
  .next (s.eyeMeasure n height width)

/-- PRBS_CHECK (R350) on lane `n`. -/
def execPrbsCheck (n clean errors : Nat) (s : State) : Host.Outcome State Fault Refusal :=
  .next (s.prbsCheck n clean errors)

end Sys2Proof.Machine
end

