-- ==== Sys2Proof/Machine/Pixel.lean ====
section
/-! DEFINITION. Pixel arithmetic that converters and mica engines share: unpacking (R276), one-dimensional tables
(R277), the matrix (R278), the tetrahedral cube (R279), and packing (R281). -/

namespace Sys2Proof.Machine

/-- Pieces of n samples, k of them. -/
def chunks {α : Type} (n : Nat) : Nat → List α → List (List α)
  | 0, _ => []
  | k + 1, l => l.take n :: chunks n k (l.drop n)

/-- Samples in a line of a format. -/
def lineSamples (fmt : Nat) : Nat := if fmtSamp fmt = 0 then 2 * fmtWidth fmt else 3 * fmtWidth fmt

/-- The samples of a picture at places i, i + step, i + 2·step, … of a line, as integers. -/
def every (step i : Nat) (line : List Pix) : List Int :=
  (line.zipIdx.filter fun p => p.2 % step == i).map fun p => (p.1.toNat : Int)

/-- A line of a picture unpacked into triples of 16-bit samples (R276): colour difference of 4:2:2 is raised to 4:4:4. -/
def unpackLine (fmt : Nat) (line : List Pix) : List Rgb :=
  if fmtSamp fmt = 0 then
    let cb := every 4 0 line
    let cr := every 4 2 line
    (every 2 1 line).zipIdx.map fun p =>
      let k := p.2 / 2
      if p.2 % 2 = 0 then ⟨p.1, cb.getD k 0, cr.getD k 0⟩
      else ⟨p.1, clampInt 0 65535 (Config.chromaUp cb k), clampInt 0 65535 (Config.chromaUp cr k)⟩
  else (chunks 3 (line.length / 3) (line.map fun x => (x.toNat : Int))).map fun c =>
    ⟨c.getD 0 0, c.getD 1 0, c.getD 2 0⟩

/-- The rows of a picture in raster order, unpacked. -/
def unpackPicture (fmt : Nat) (pic : List Pix) : List (List Rgb) :=
  let lines := (chunks (lineSamples fmt) (fmtHeight fmt) pic).map (unpackLine fmt)
  let order := rowOrder fmt
  (List.range (fmtHeight fmt)).map fun y => lines.getD ((order.idxOf? y).getD 0) []

/-- A 16-bit sample packed into an output code (R281): half a code is added, it is truncated, and limited. -/
def packCode (depth : Nat) (v : Int) : Int :=
  limitCode depth (if depth = 1 then (v + 8) / 16 else (v + 32) / 64)

/-- A line of 16-bit triples packed in an output format (R281). -/
def packSamples (fmt : Nat) (px : List Rgb) : List Pix :=
  let j := fun v => justify (fmtDepth fmt) (packCode (fmtDepth fmt) v)
  if fmtSamp fmt = 0 then
    let cb := px.map (·.g)
    let cr := px.map (·.b)
    (px.zipIdx.map fun p =>
      if p.2 % 2 = 0 then [j (Config.chromaDown cb (p.2 / 2)), j p.1.r]
      else [j (Config.chromaDown cr (p.2 / 2)), j p.1.r]).flatten
  else (px.map fun c => [j c.r, j c.g, j c.b]).flatten

/-- Rows in raster order packed into a picture of a format, in the order of transmission. -/
def packPicture (fmt : Nat) (rows : List (List Rgb)) : List Pix :=
  ((rowOrder fmt).map fun y => packSamples fmt (rows.getD y [])).flatten

/-- A one-dimensional table of 4,096 entries at a 16-bit sample (R277). -/
def lut1 (t : Nat → Nat) (x : Int) : Int :=
  let i := (x / 16).toNat
  let f := x % 16
  if 4095 ≤ i then t 4095 else t i + divRound (((t (i + 1) : Int) - t i) * f) 16

/-- A row of the matrix (R278): coefficients, PRE and POST. -/
def matrixRow (c pre : List Int) (post : Int) (x : Rgb) : Int :=
  let sum := ([0, 1, 2].map fun k => c.getD k 0 * (x.comp k + pre.getD k 0)).foldl (· + ·) 0
  clampInt 0 65535 (divRound (sum + 4096 * post) 4096)

/-- The lower node of an axis of the cube at a sample, and the distance from it in 65,535ths (R279). -/
def cubeAxis (x : Int) : Nat × Int :=
  let k := min 31 (x * 32 / 65535).toNat
  (k, x * 32 - 65535 * (k : Int))

/-- Tetrahedral interpolation in the cube, for one component of its nodes (R279). -/
def cubeAt (t : Nat → Nat → Nat → Nat) (x : Rgb) : Int :=
  let a := cubeAxis x.r
  let b := cubeAxis x.g
  let c := cubeAxis x.b
  let v := fun (i j k : Nat) => (t (a.1 + i) (b.1 + j) (c.1 + k) : Int)
  let fa := a.2
  let fb := b.2
  let fc := c.2
  let sum := fun (f1 v1 f2 v2 f3 : Int) =>
    divRound ((65535 - f1) * v 0 0 0 + (f1 - f2) * v1 + (f2 - f3) * v2 + f3 * v 1 1 1) 65535
  if fb ≤ fa ∧ fc ≤ fb then sum fa (v 1 0 0) fb (v 1 1 0) fc
  else if fc ≤ fa ∧ fb ≤ fc then sum fa (v 1 0 0) fc (v 1 0 1) fb
  else if fa ≤ fc ∧ fb ≤ fa then sum fc (v 0 0 1) fa (v 1 0 1) fb
  else if fa ≤ fb ∧ fc ≤ fa then sum fb (v 0 1 0) fa (v 1 1 0) fc
  else if fc ≤ fb ∧ fa ≤ fc then sum fb (v 0 1 0) fc (v 0 1 1) fa
  else sum fc (v 0 0 1) fb (v 0 1 1) fa

/-- Rows scaled from one raster to another, component by component (R280). -/
def scaleRows (filter : Nat) (inW inH outW outH : Nat) (rows : List (List Rgb)) : List (List Rgb) :=
  let plane := fun k => (rows.map fun r => r.map fun c => c.comp k).flatten
  let at_ := fun k i => clampInt 0 65535 (Config.scaled filter (inW, inH) (outW, outH) (plane k) i)
  (List.range outH).map fun y => (List.range outW).map fun x =>
    let i := y * outW + x
    ⟨at_ 0 i, at_ 1 i, at_ 2 i⟩

/-- CRC-32 of 16-bit words, the higher byte of each first. -/
def crc32Words (l : List Nat) : Nat :=
  crc32 ((l.map fun w => [BitVec.ofNat 8 (w / 256), BitVec.ofNat 8 w]).flatten)

end Sys2Proof.Machine
end

