-- ==== Sys2Proof/Machine/Cnv.lean ====
section
/-! DEFINITION. Chapter 10: the converters. Banks and tables, swaps, the pipeline, and result frames. -/

namespace Sys2Proof.Machine

/-- The identity matrix, and the bank a run-time converter starts with (R287). -/
def CnvBank.fresh : CnvBank :=
  { proc := 15, matc := [4096, 0, 0, 0, 4096, 0, 0, 0, 4096], matoff := [0, 0, 0, 0, 0, 0] }

/-- Where a table entry is kept: table, component and entry. -/
def lutKey (table comp addr : Nat) : Nat := (table * 3 + comp) * 65536 + addr

/-- The entries of a table (R285). -/
def lutEntries (table : Nat) : Nat := if table = 1 then 35937 else 4096

/-- The entry of a table. -/
def lutGet (l : List (Nat × Nat)) (table comp addr : Nat) : Nat := Assoc.findD l (lutKey table comp addr) 0

/-- The stages from the pre-LUT to the post-LUT on one pixel, from the bank given (R276, R282). -/
def cnvPixel (b : CnvBank) (l : List (Nat × Nat)) (x : Rgb) : Rgb :=
  let each := fun (f : Nat → Int → Int) (y : Rgb) => (⟨f 0 y.r, f 1 y.g, f 2 y.b⟩ : Rgb)
  let x := if bit b.proc 3 then x else each (fun k v => lut1 (lutGet l 0 k) v) x
  let x := if bit b.proc 2 then x else
    let c := b.matc.map (toSigned 16)
    let o := b.matoff.map (toSigned 17)
    each (fun r _ => matrixRow ((c.drop (3 * r)).take 3) (o.take 3) (o.getD (3 + r) 0) x) x
  let x := if bit b.proc 1 then x else
    each (fun k _ => cubeAt (fun i j m => lutGet l 1 k ((i * 33 + j) * 33 + m)) x) x
  if bit b.proc 0 then x else each (fun k v => lut1 (lutGet l 2 k) v) x

/-- The whole pipeline: a picture of one format into a picture of another (R276). -/
def cnvPicture (b : CnvBank) (l : List (Nat × Nat)) (scale : Bool) (inF outF : Nat) (pic : List Pix) : List Pix :=
  let rows := (unpackPicture inF pic).map fun r => r.map (cnvPixel b l)
  let rows := if scale then
      scaleRows (bits b.proc 5 4) (fmtWidth inF) (fmtHeight inF) (fmtWidth outF) (fmtHeight outF) rows
    else rows
  packPicture outF rows

/-- The structure changes of R275: whether the pair is allowed, and whether it scales. -/
def cnvStructs (inF outF : Nat) : Option Bool :=
  let low := decide (fmtRate inF ≤ 4)
  match fmtStruct inF, fmtStruct outF with
  | 0, 0 => some false
  | 1, 1 => some false
  | 1, 2 => if low then some false else none
  | 1, 3 => some true
  | 1, 4 => some true
  | 2, 2 => some false
  | 2, 1 => some false
  | 2, 4 => some true
  | 3, 3 => some false
  | 3, 1 => some true
  | 4, 4 => some false
  | 4, 1 => some true
  | _, _ => none

namespace State

/-- The hidden state of a converter. -/
def CnvHw.fresh : CnvHw := { act := CnvBank.fresh, lut := [], nextLut := [], goAt := 0 }
def cnvHw (s : State) (n : Nat) : CnvHw := Assoc.findD s.cnv.cnv n CnvHw.fresh
def updCnv (n : Nat) (f : CnvHw → CnvHw) (s : State) : State :=
  { s with cnv := { cnv := Assoc.set s.cnv.cnv n (f (s.cnvHw n)) CnvHw.fresh } }

/-- The inactive bank as its registers hold it, and a bank put into them. -/
def cnvNext (s : State) (n : Nat) : CnvBank :=
  { proc := (s.rd (Reg.CNV.NEXTPROC_FILTER n).addr).toNat,
    matc := (List.range 9).map fun k => s.get (Reg.CNV.MATC n k),
    matoff := (List.range 6).map fun k => s.get (Reg.CNV.MATOFF n k) }
def putCnvNext (n : Nat) (b : CnvBank) (s : State) : State :=
  let s := s.wr (Reg.CNV.NEXTPROC_FILTER n).addr (BitVec.ofNat 32 b.proc)
  let s := s.each b.matc.zipIdx fun p t => t.set (Reg.CNV.MATC n p.2) p.1
  s.each b.matoff.zipIdx fun p t => t.set (Reg.CNV.MATOFF n p.2) p.1

/-- PROC shows the active bank. -/
def showProc (n : Nat) (s : State) : State :=
  s.wr (Reg.CNV.PROC_FILTER n).addr (BitVec.ofNat 32 (s.cnvHw n).act.proc)

/-- A table write is discarded (R285, R286). -/
def lutIgn (n : Nat) (s : State) : State := (s.set (Reg.CNV.STAT_LUT_IGN n) 1).cnvCause n 3

/-- Writes of table registers are discarded while a swap is pending (R286). -/
def cnvLocked (n : Nat) (s : State) : Bool := s.flag (Reg.CNV.STAT_SWAPPEND n)

/-- The table and component that LUTSEL chooses. -/
def cnvSel (n : Nat) (s : State) : Nat × Nat :=
  let t := s.get (Reg.CNV.LUTSEL_TABLE n)
  let c := s.get (Reg.CNV.LUTSEL_COMP n)
  (if t = 3 then 0 else t, if c = 3 then 0 else c)

/-- The word of table memory (mem 8 of PROV) that an entry of a bank of the converter stands in: 2^20 words a bank. -/
def cnvWord (n bank key : Nat) : Nat := (2 * n + bank) * 1048576 + key % 1048576

/-- The inactive bank. -/
def cnvIdle (n : Nat) (s : State) : Nat := 1 - s.get (Reg.CNV.STAT_BANK n)

/-- A write of LUTDATA takes effect (R285, R286). -/
def cnvLutWrite (n : Nat) (data : Word) (s : State) : State :=
  let q := s.cnvSel n
  let a := s.get (Reg.CNV.LUTADDR n)
  let s := s.bump (Reg.CNV.LUTADDR n) 1
  if s.cnvLocked n ∨ lutEntries q.1 ≤ a then s.lutIgn n
  else
    let v := data.toNat % 65536
    let k := lutKey q.1 q.2 a
    ((s.updCnv n fun x => { x with nextLut := Assoc.set x.nextLut k v 0 }).set (Reg.CNV.LUTDATA n) v).chkinvStruckAt 8
      (cnvWord n (s.cnvIdle n) k)

/-- A read of LUTDATA (R285): the entry, or an open value beyond the table's end or in an uncorrectable word (R175). -/
def cnvLutRead (n : Nat) (s : State) : Nat × State :=
  let q := s.cnvSel n
  let a := s.get (Reg.CNV.LUTADDR n)
  let s := s.bump (Reg.CNV.LUTADDR n) 1
  let r := if a < lutEntries q.1 then
      let k := lutKey q.1 q.2 a
      let w := s.wordBad 8 (cnvWord n (s.cnvIdle n) k) 0
      if w.1 ≤ 1 then (lutGet (s.cnvHw n).nextLut q.1 q.2 a, w.2.when (w.1 == 1) (sramCor 8 (cnvWord n (s.cnvIdle n) k)))
      else let f := (w.2.bump (Reg.PROV.ECC_UNCORR 8) 1).fresh
        (f.1 % 65536, f.2)
    else let f := s.fresh
      (f.1 % 65536, f.2)
  (r.1, r.2.set (Reg.CNV.LUTDATA n) r.1)

/-- Values are written into a table of a converter's inactive bank from an address. -/
def cnvLoad (n lutsel first : Nat) (values : List Nat) (s : State) : State :=
  let s := ((s.set (Reg.CNV.LUTSEL_TABLE n) (bits lutsel 5 4)).set (Reg.CNV.LUTSEL_COMP n) (bits lutsel 1 0)).set (Reg.CNV.LUTADDR n) first
  s.each values fun v t => t.cnvLutWrite n (BitVec.ofNat 32 v)

/-- A write of SWAP takes effect (R285). -/
def cnvSwapLand (n : Nat) (data : Word) (s : State) : State :=
  s.when (bit data.toNat 0 && !s.cnvLocked n) fun t =>
    (t.updCnv n fun x => { x with goAt := t.now }).set (Reg.CNV.STAT_SWAPPEND n) 1

/-- The banks exchange for the first input frame that a running converter reads 10 µs or more after the request (R285). -/
def cnvSwapDone (n : Nat) (s : State) : State :=
  let reads := s.flag (Reg.CNV.STAT_RUN n) && s.get (Reg.CNV.CHAN n) != 0 &&
    match s.chanEgr (handleIdx (s.get (Reg.CNV.CHAN n))) with
    | some e => (s.egr e).cur.isSome
    | none => false
  if s.cnvLocked n ∧ reads ∧ (s.cnvHw n).goAt + 10000 ≤ s.now then
    let next := s.cnvNext n
    let x := s.cnvHw n
    let s := (s.updCnv n fun y => { y with act := next, lut := x.nextLut, nextLut := x.lut }).putCnvNext n x.act
    ((((s.setB (Reg.CNV.STAT_BANK n) (!s.flag (Reg.CNV.STAT_BANK n))).set (Reg.CNV.STAT_SWAPPEND n) 0).bump
      (Reg.CNV.CNT_SWAPS n) 1).showProc n).cnvCause n 4
  else s

/-- Words of table memory are read by a result frame: corrected errors, and uncorrectable ones, each reported once
(R289). The Boolean says that the frame is poisoned. -/
def tableWords (mem : Nat) (cause : State → State) (words : List (Nat × Nat)) (s : State) : State × Bool :=
  words.foldl (fun r w =>
    let q := r.1.wordBad mem w.1 w.2
    let t := q.2
    if q.1 = 0 then (t, r.2)
    else if q.1 = 1 then (t.sramCor mem w.1, r.2)
    else
      let was := t.prov.bad.contains (mem, w.1)
      let t := { t with prov := { t.prov with bad := if was then t.prov.bad else t.prov.bad ++ [(mem, w.1)] } }
      (if was then t else cause (t.bump (Reg.PROV.ECC_UNCORR mem) 1), true)) (s, false)

/-- A frame of the converter reads a word of its active bank that was found uncorrectable and not written since: one of a table
that is not bypassed (R289). -/
def cnvTableBad (n : Nat) (s : State) : Bool :=
  let b := cnvWord n (s.get (Reg.CNV.STAT_BANK n)) 0
  s.prov.bad.any fun p => p.1 == 8 && p.2 / 1048576 == b / 1048576 &&
    !(bit (s.cnvHw n).act.proc (match p.2 % 1048576 / 196608 with | 0 => 3 | 1 => 1 | _ => 0))

/-- How long ago the frame that a converter writes now started, in thirds of a ns: at its input plane's frame instant plus D
(R283). -/
def cnvAgo3 (n : Nat) (s : State) : Nat :=
  let p := s.get (Reg.CNV.PLANES_INPLANE n)
  ((s.planePos3 p - 3 * (s.get (Reg.CNV.DELAY n) : Int)) % (s.planePeriod3 p : Int)).toNat

/-- The frame of an entry fails a check of R160 to R162, as its checker found or would find. -/
def frameFails (e : Nat) (s : State) : Bool :=
  let x := s.egr e
  match x.cur with
  | none => false
  | some f =>
      f.poisoned || (if x.checked then x.failed.isSome else s.tokenVerdict e != 0) ||
        (x.timed && match f.token with | some t => t.digest != digest f.picture | none => false)

/-- A converter writes a result frame (R283, R284, R288, R289): `words` are the words of the active bank that it read with flipped
bits. An untimed input displaces its picture. -/
def cnvFrame (n : Nat) (words : List (Nat × Nat)) (s : State) : State :=
  let h := s.get (Reg.CNV.CHAN n)
  match s.chanEgr (handleIdx h), s.chanIng (handleIdx h) with
  | some e, some i =>
      if h = 0 ∨ !s.flag (Reg.CNV.STAT_RUN n) then s
      else
        let inF := s.get (Reg.CNV.INFMT n)
        let outF := s.get (Reg.CNV.OUTFMT n)
        let idle := { s.idleFrame outF (handleIdx h) with token := none }
        let idleOut := fun (t : State) => (t.issueLate (t.cnvAgo3 n) i (digest idle.picture) false idle).updIng (t.movedIng i) fun y =>
          { y with disp := 0 }
        let s := s.bump (Reg.CNV.FRAMES n) 1
        match (s.egr e).cur with
        | none => idleOut s
        | some f =>
            let bad := f.tstate != 1 && s.frameFails e
            let s := s.when bad fun t => (t.bump (Reg.CNV.CNT_INBAD n) 1).cnvCause n 2
            if f.tstate = 1 then idleOut s
            else if fmtNoColr f.fmt ≠ fmtNoColr inF then idleOut (s.cnvCause n 1)
            else
              let r := s.tableWords 8 (fun t => t.cnvCause n 5)
                (words.map fun w => (cnvWord n (s.get (Reg.CNV.STAT_BANK n)) w.1, w.2))
              let s := r.1
              let struck := r.2 || s.cnvTableBad n
              let x := s.cnvHw n
              let pic := cnvPicture x.act x.lut (s.flag (Reg.CNV.PLANES_SCALE n)) inF outF f.picture
              let same := fmtStruct inF == fmtStruct outF && fmtMap inF == fmtMap outF
              let g : Frame := { fmt := outF, token := none, tstate := if bad then 2 else 0, poisoned := struck,
                                 picture := pic, anc := if same then f.anc else [] }
              let s := (s.issueLate (s.cnvAgo3 n) i (digest pic) false g).updIng (s.movedIng i) fun y =>
                { y with disp := (s.egr e).disp }
              s.when struck (bump Reg.FAB.POISONCNT 1)
  | _, _ => s

/-- A converter is given to a channel (R273, R283). One created at run time starts with both banks bypassed; one of the image
starts with bank B active, so that the image's tables fill bank A (R6, R287, R545). -/
def cnvOpen (n h inF outF inPlane plane : Nat) (image : Bool) (s : State) : State :=
  let s := ((s.set (Reg.CNV.CHAN n) h).set (Reg.CNV.INFMT n) inF).set (Reg.CNV.OUTFMT n) outF
  let s := ((s.set (Reg.CNV.PLANES_INPLANE n) inPlane).set (Reg.CNV.PLANES_PLANE n) plane).setB
    (Reg.CNV.PLANES_SCALE n) ((cnvStructs inF outF).getD false)
  let s := s.set (Reg.CNV.DELAY n) ((divFree 283 (switchLead3 outF) 3).toNat + 6000)
  let s := (s.when (!image) fun t => (t.updCnv n fun x => { x with act := CnvBank.fresh }).putCnvNext n CnvBank.fresh).setB
    (Reg.CNV.STAT_BANK n) image
  (((s.set (Reg.CNV.STAT_SWAPPEND n) 0).showProc n).set (Reg.CNV.CTRL_EN n) 1).set (Reg.CNV.STAT_RUN n) 1

/-- A converter stops, and its result goes to NOSIG (R290). -/
def cnvStop (n : Nat) (s : State) : State :=
  let s := s.set (Reg.CNV.STAT_RUN n) 0
  match s.chanIng (handleIdx (s.get (Reg.CNV.CHAN n))) with
  | some i => s.when (s.get (Reg.CNV.CHAN n) != 0) (toNosig i)
  | none => s

/-- A converter is released. -/
def cnvClose (n : Nat) (s : State) : State :=
  let s := (s.cnvStop n).set (Reg.CNV.CTRL_EN n) 0
  (((s.set (Reg.CNV.CHAN n) 0).set (Reg.CNV.INFMT n) 0).set (Reg.CNV.OUTFMT n) 0).wr (Reg.CNV.PLANES_SCALE n).addr 0

end State

/-- SWAP_DONE (R285) of converter `n`. -/
def execSwapDone (n : Nat) (s : State) : Host.Outcome State Fault Refusal := .next (s.cnvSwapDone n)

/-- CNV_FRAME (R283) of converter `n`. -/
def execCnvFrame (n : Nat) (words : List (Nat × Nat)) (s : State) : Host.Outcome State Fault Refusal :=
  .next (s.cnvFrame n words)

end Sys2Proof.Machine
end

