-- ==== Sys2Proof/Machine/Mica.lean ====
section
/-! DEFINITION. Chapter 11: the compositor. Layer sets and commits, the slate, the layer mailbox and decimators, the
flint layer, composition, and the region monitors. -/

namespace Sys2Proof.Machine

/-! ### Layer sets (R297–R300, R307) -/

/-- Word k of layer l of a set. -/
def MicaSet.word (x : MicaSet) (l k : Nat) : Nat := x.words.getD (7 * l + k) 0
def MicaSet.type (x : MicaSet) (l : Nat) : Nat := bits (x.word l 0) 31 30
def MicaSet.static (x : MicaSet) (l : Nat) : Bool := bit (x.word l 0) 29
def MicaSet.z (x : MicaSet) (l : Nat) : Nat := bits (x.word l 0) 25 20
def MicaSet.lutset (x : MicaSet) (l : Nat) : Nat := bits (x.word l 0) 19 16

/-- Non-OFF layers from the bottom up. -/
def MicaSet.stack (x : MicaSet) : List Nat :=
  ((List.range 63).filter fun l => x.type l != 0).mergeSort fun a b => decide (x.z a ≤ x.z b)

/-- The layers of the slate (R307). -/
def MicaSet.slate (x : MicaSet) : List Nat := x.stack.takeWhile fun l => x.type l != 1 && x.static l

/-- The part of a span of n from a that lies below a limit. -/
def spanShown (a n lim : Nat) : Nat := min n (lim - a)

/-- The visible area of a layer of a given size (R298, R299). -/
def MicaSet.area (x : MicaSet) (fmt l w h : Nat) : Nat :=
  spanShown (bits (x.word l 1) 11 0) w (fmtWidth fmt) * spanShown (bits (x.word l 1) 27 16) h (fmtHeight fmt)

/-- Two elements of a list agree. -/
def hasTwin : List Nat → Bool
  | [] => false
  | a :: l => l.contains a || hasTwin l

/-- The reason that refuses a commit (R299), 0 when it is accepted; `size` gives the size of a bound VIDEO layer. -/
def MicaSet.judge (x : MicaSet) (fmt : Nat) (size : Nat → Nat × Nat) : Nat :=
  let st := x.stack
  let graphics := st.filter fun l => x.type l == 2
  let dims := fun l => if x.type l = 1 then size l else (bits (x.word l 2) 11 0, bits (x.word l 2) 27 16)
  let free := st.filter fun l => !x.slate.contains l
  let area := fun l => x.area fmt l (dims l).1 (dims l).2
  let raster := fmtWidth fmt * fmtHeight fmt
  if hasTwin (st.map x.z) ∨ (List.range 63).any (fun l => x.z l == 63) then 1
  else if graphics.any fun l =>
      let p := bits (x.word l 6) 19 0
      p % 64 != 0 || decide (p < 4 * (dims l).1) then 2
  else if 4 * raster < sumList (free.map area) ∨
      raster < sumList ((free.filter fun l => x.type l == 2).map area) then 3
  else 0

/-- The entries of a table of a set. -/
def MicaSet.table (x : MicaSet) (t : Nat) : List (Nat × Nat) := x.lut.filter fun p => p.1 / 4096 == t

/-- A set changes the slate of another (R308). -/
def MicaSet.changes (old new : MicaSet) : Bool :=
  let row := fun (x : MicaSet) l => (List.range 7).map (x.word l)
  old.bg != new.bg || old.slate != new.slate ||
    (new.slate.any fun l => row old l != row new l ||
      (decide (new.lutset l < 8) && old.table (new.lutset l) != new.table (new.lutset l)))

/-! ### Colour and blending (R301) -/

/-- A 10-bit code in linear light through an input table. -/
def MicaSet.linear (x : MicaSet) (t : Nat) (c : Int) : Int :=
  if 8 ≤ t then 64 * c else lut1 (fun i => Assoc.findD x.lut (t * 4096 + i) 0) (64 * c)

/-- A component of the background in linear light: the spec names no input table for it. -/
def backLinear (c : Nat) : Int := (Config.freeOf 301 [c] % 65536 : Nat)

/-- A colour word of 10-bit R, G and B. -/
def colourWord (c : Nat) : Rgb := ⟨(bits c 29 20 : Nat), (bits c 19 10 : Nat), (bits c 9 0 : Nat)⟩

/-- A pixel of a graphic (R297): codes of 10 bits, and its alpha as a fraction. -/
def graphicPixel (fmt w : Nat) : Rgb × Nat × Nat :=
  if fmt = 1 then (⟨(bits w 29 20 : Nat), (bits w 19 10 : Nat), (bits w 9 0 : Nat)⟩, bits w 31 30, 3)
  else
    let up := fun c : Nat => divRound ((c : Int) * 1023) 255
    (⟨up (bits w 23 16), up (bits w 15 8), up (bits w 7 0)⟩, bits w 31 24, 255)

/-- A pixel of a decimated frame in 10-bit RGB codes. -/
def decPixel (f : DecFrame) (x y : Nat) : Rgb :=
  let c := f.pixels.getD (y * f.w + x) ⟨0, 0, 0⟩
  if f.rgb then c
  else
    let r := rgbOfYuv f.colr 1 c
    ⟨clampInt 0 1023 r.r, clampInt 0 1023 r.g, clampInt 0 1023 r.b⟩

/-- What a layer shows at a place of the raster: codes and alpha, or nothing. -/
def layerPixel (x : MicaSet) (mem : List Host.Cell) (frames : List (Nat × Option DecFrame)) (l px py : Nat) :
    Option (Rgb × Nat × Nat) :=
  let ox := bits (x.word l 1) 11 0
  let oy := bits (x.word l 1) 27 16
  let w := bits (x.word l 2) 11 0
  let h := bits (x.word l 2) 27 16
  if px < ox ∨ py < oy then none
  else
    let u := px - ox
    let v := py - oy
    match x.type l with
    | 1 =>
        match (Assoc.find frames l).getD none with
        | some f => if u < f.w ∧ v < f.h then some (decPixel f u v, 1, 1) else none
        | none => none
    | 2 =>
        if u < w ∧ v < h then
          let a := bits (x.word l 4) 31 6 * 64 + bits (x.word l 5) 3 0 * 2 ^ 32
          some (graphicPixel (bits (x.word l 0) 26 26) (Memory.read32 mem (a + v * bits (x.word l 6) 19 0 + 4 * u)))
        else none
    | 3 => if u < w ∧ v < h then some (colourWord (bits (x.word l 3) 29 0), 1, 1) else none
    | _ => none

/-- One component blended over what is below it (R301). -/
def blend (galpha an ad : Nat) (l b : Int) : Int :=
  divRound ((galpha * an : Nat) * l + ((1023 * ad : Nat) - (galpha * an : Nat) : Int) * b) (1023 * ad : Nat)

/-- Layers composed over a pixel in linear light, from the bottom up. -/
def composePixel (x : MicaSet) (mem : List Host.Cell) (frames : List (Nat × Option DecFrame)) (ls : List Nat)
    (px py : Nat) (below : Rgb) : Rgb :=
  ls.foldl (fun b l =>
    match layerPixel x mem frames l px py with
    | none => b
    | some (c, an, ad) =>
        let g := bits (x.word l 0) 9 0
        let t := x.lutset l
        ⟨blend g an ad (x.linear t c.r) b.r, blend g an ad (x.linear t c.g) b.g, blend g an ad (x.linear t c.b) b.b⟩)
    below

/-- The background of a set in linear light. -/
def MicaSet.back (x : MicaSet) : Rgb :=
  ⟨backLinear (bits x.bg 29 20), backLinear (bits x.bg 19 10), backLinear (bits x.bg 9 0)⟩

/-- A pixel as the slate stores it and the engine decodes it (R307). -/
def slateCode (c : Rgb) : Rgb := ⟨Config.slateLog c.r, Config.slateLog c.g, Config.slateLog c.b⟩

/-- The slate of a set, flattened (R308). -/
def flatten (x : MicaSet) (fmt : Nat) (mem : List Host.Cell) : List Rgb :=
  ((List.range (fmtHeight fmt)).map fun y => (List.range (fmtWidth fmt)).map fun px =>
    slateCode (composePixel x mem [] x.slate px y x.back)).flatten

/-- The composed raster, packed in the output format, before the flint (R301). -/
def composePicture (l : MicaLatch) (fmt : Nat) (mem : List Host.Cell) : List Pix :=
  let x := l.set
  let ls := x.stack.filter fun k => !l.slateLayers.contains k
  let out := fun (k : Nat) (v : Int) => lut1 (fun i => Assoc.findD x.lut ((8 + k) * 4096 + i) 0) v
  let pixel := fun px py =>
    let below := match l.slate with
      | some s => s.getD (py * fmtWidth fmt + px) ⟨0, 0, 0⟩
      | none => slateCode x.back
    let c := composePixel x mem l.frames ls px py below
    let c : Rgb := ⟨out 0 c.r, out 1 c.g, out 2 c.b⟩
    if fmtSamp fmt = 2 then c else yuvOfRgb (fmtColr fmt) 64 c
  packPicture fmt ((List.range (fmtHeight fmt)).map fun y => (List.range (fmtWidth fmt)).map fun px => pixel px y)

/-! ### Sample sites and regions (R318) -/

/-- The component and the column of sample i of a line. -/
def sampleSite (fmt i : Nat) : Nat × Nat :=
  if fmtSamp fmt = 0 then
    match i % 4 with
    | 0 => (1, i / 2)
    | 2 => (2, i / 2 - 1)
    | _ => (0, i / 2)
  else (i % 3, i / 3)

/-- The samples of a picture with their component, column and row, in the order of R153. -/
def sites (fmt : Nat) (pic : List Pix) : List (Pix × Nat × Nat × Nat) :=
  let n := lineSamples fmt
  let order := rowOrder fmt
  pic.zipIdx.map fun p =>
    let c := sampleSite fmt (p.2 % n)
    (p.1, c.1, c.2, order.getD (p.2 / n) 0)

/-- The CRC of a rectangle (R318). -/
def regionCrc (fmt x y w h : Nat) (pic : List Pix) : Nat :=
  crc32Words (((sites fmt pic).filter fun p =>
    decide (x ≤ p.2.2.1) && decide (p.2.2.1 < x + w) && decide (y ≤ p.2.2.2) && decide (p.2.2.2 < y + h)).map fun p =>
      p.1.toNat)

/-! ### The flint (R310–R315) -/

/-- The flint value of a pixel of a bank with alarms showing. -/
def flintAt (b : FlintBank) (alarms : List Nat) (x y : Nat) : Nat :=
  let col := x / 16
  let row := y / 16
  let tile := match (alarms.filterMap fun k => b.alarms[k]?).find? fun a => a.col == col && a.row == row with
    | some a => a.tile
    | none => b.map.getD (row * 240 + col) 0
  if tile = 0 then 0 else ((b.tiles[tile]?).getD []).getD (y % 16 * 16 + x % 16) 0

/-- The palette word of an opaque flint value and component. -/
def flintCode (b : FlintBank) (fmt v k : Nat) : Pix :=
  justify (fmtDepth fmt) ((((b.palette[v - 1]?).getD []).getD k 0 : Nat) : Int)

/-- A picture with the flint inserted, and the samples it replaced. -/
def flintPicture (b : FlintBank) (alarms : List Nat) (fmt : Nat) (pic : List Pix) : List Pix × List Pix :=
  let l := (sites fmt pic).map fun p =>
    let v := flintAt b alarms p.2.2.1 p.2.2.2
    if v = 0 then (p.1, false) else (flintCode b fmt v p.2.1, true)
  (l.map (·.1), (l.filter (·.2)).map (·.1))

/-- The two-bit values of a tile of 64 bytes, most significant pair first. -/
def tileValues (l : List Byte) : List Nat :=
  (l.map fun x => [bits x.toNat 7 6, bits x.toNat 5 4, bits x.toNat 3 2, bits x.toNat 1 0]).flatten

/-- An alarm record of eight bytes. -/
def alarmOf (l : List Byte) : FlintAlarm :=
  let w := leNat l
  let layer := bit w 63
  { layer := layer, ref := if layer then bits w 53 48 else bits w 60 48, col := bits w 39 32, row := bits w 31 24,
    tile := bits w 9 0 }

/-- The bank that the bytes of an image hold. -/
def flintBankOf (l : List Byte) (t a : Nat) : FlintBank :=
  let half := fun off i => leNat ((l.drop (off + 2 * i)).take 2)
  { palette := (List.range 3).map fun p => (List.range 3).map fun c => half 8 (3 * p + c),
    map := (List.range 32400).map fun i => half 0x20 i % 1024,
    tiles := (List.range t).map fun i => tileValues ((l.drop (0xFD40 + 64 * i)).take 64),
    alarms := (List.range a).map fun i => alarmOf ((l.drop (0xFD40 + 64 * t + 8 * i)).take 8) }

/-- The judgement of an image (R312): 0 or the failure, and the bank. `entry` says that an egress entry exists. -/
def flintJudge (fmt crc : Nat) (entry : Nat → Bool) (l : List Byte) : Nat × FlintBank :=
  let t := leNat ((l.drop 4).take 2)
  let a := leNat ((l.drop 6).take 2)
  let b := flintBankOf l t a
  let codeOk := fun c : Nat => limitCode (fmtDepth fmt) c == (c : Int)
  let cols := (fmtWidth fmt + 15) / 16
  let rows := (fmtHeight fmt + 15) / 16
  let used := (b.map.zipIdx.filter fun p => decide (p.2 % 240 < cols) && decide (p.2 / 240 < rows)).map (·.1)
  (if leNat (l.take 4) ≠ 0x464C4E54 then 1
   else if t = 0 ∨ 1024 < t ∨ 16 < a ∨ !b.palette.all (fun p => p.all codeOk) then 2
   else if !used.all (fun i => decide (i < t)) ∨ !b.alarms.all (fun r => decide (r.tile < t)) then 3
   else if !b.alarms.all (fun r => if r.layer then decide (r.ref ≤ 62) else entry r.ref) then 4
   else if crc32 (l.take (0xFD40 + 64 * t + 8 * a)) ≠ crc then 5
   else 0, b)

/-! ### Area averaging (R305) -/

/-- How far the spans [a, a + n) and [b, b + m) overlap. -/
def overlap (a n b m : Nat) : Nat := min (a + n) (b + m) - max a b

/-- A plane of sw × sh samples averaged to w × h; the average's rounding to 10 bits is open. -/
def areaAverage (sw sh w h : Nat) (plane : List Int) (x y : Nat) : Int :=
  let xs := ((List.range sw).map fun i => (i, overlap (x * sw) sw (i * w) w)).filter fun p => p.2 != 0
  let ys := ((List.range sh).map fun j => (j, overlap (y * sh) sh (j * h) h)).filter fun p => p.2 != 0
  let sum := (ys.map fun q => (xs.map fun p => (p.2 * q.2 : Nat) * plane.getD (q.1 * sw + p.1) 0)).flatten.foldl (· + ·) 0
  divFree 305 sum (sw * sh * 64 : Nat)

/-- A picture shrunk to w × h, in 10-bit components: colour difference of 4:2:2 is averaged on its own samples. -/
def decimate (fmt w h : Nat) (pic : List Pix) : List Rgb :=
  let lines := chunks (lineSamples fmt) (fmtHeight fmt) pic
  let order := rowOrder fmt
  let rows := (List.range (fmtHeight fmt)).map fun y => lines.getD ((order.idxOf? y).getD 0) []
  let plane := fun step i => (rows.map fun r => every step i r).flatten
  let sw := fmtWidth fmt
  let sh := fmtHeight fmt
  let avg := fun (n : Nat) (p : List Int) x y => areaAverage n sh w h p x y
  let pixel := if fmtSamp fmt = 0 then
      fun x y => (⟨avg sw (plane 2 1) x y, avg (sw / 2) (plane 4 0) x y, avg (sw / 2) (plane 4 2) x y⟩ : Rgb)
    else fun x y => (⟨avg sw (plane 3 0) x y, avg sw (plane 3 1) x y, avg sw (plane 3 2) x y⟩ : Rgb)
  ((List.range h).map fun y => (List.range w).map fun x => pixel x y).flatten

namespace State

/-! ### Engines and decimators -/

def MicaHw.fresh : MicaHw :=
  { waitBind := none, nextLut := [], lutFixed := [], lutPast := false, bg := 0, lut := [], pending := none, queued := none, slate := none,
    slateLayers := [], newSlate := none, flint := none, loaded := none, latched := none, matches_ := 0,
    flintBad := false, lutBad := [], passes := [], regions := [] }
def micaHw (s : State) (g : Nat) : MicaHw := Assoc.findD s.mica.mica g MicaHw.fresh
def updMica (g : Nat) (f : MicaHw → MicaHw) (s : State) : State :=
  { s with mica := { s.mica with mica := Assoc.set s.mica.mica g (f (s.micaHw g)) MicaHw.fresh } }

def DecHw.fresh : DecHw := { newest := none, base := none, leaving := false, kbps := 0, pages := 0, since := 0, from_ := 0 }
def decHw (s : State) (d : Nat) : DecHw := Assoc.findD s.mica.dec d DecHw.fresh
def updDec (d : Nat) (f : DecHw → DecHw) (s : State) : State :=
  { s with mica := { s.mica with dec := Assoc.set s.mica.dec d (f (s.decHw d)) DecHw.fresh } }

/-- The engine runs for a channel. -/
def micaRuns (g : Nat) (s : State) : Bool := decide (g < 8) && s.flag (Reg.MICA.CHAN g) && s.flag (Reg.MICA.STAT_RUN g)

/-- The decimator index field of a layer. -/
def layDec (g l : Nat) : FRef := ⟨(Reg.MICA.LAY_BOUND g l).addr, 7, 0⟩

/-- The size of a layer's binding. -/
def boundSize (g l : Nat) (s : State) : Nat × Nat :=
  if s.flag (Reg.MICA.LAY_BOUND g l) then
    (s.get (Reg.DEC.W (s.get (layDec g l))), s.get (Reg.DEC.H (s.get (layDec g l))))
  else (0, 0)

/-- The next set as its registers hold it (GADDR as a wide value, R59), and the active set. -/
def micaNext (g : Nat) (s : State) : MicaSet :=
  { words := ((List.range 63).map fun l => (List.range 7).map fun k =>
      let a := (Reg.MICA.LAY_TYPE g l).addr + 4 * k
      (if k = 4 then s.wideWord a else s.rd a).toNat).flatten,
    bg := s.get (Reg.MICA.BG g), lut := (s.micaHw g).nextLut }
def micaActive (g : Nat) (s : State) : MicaSet :=
  { words := ((List.range 63).map fun l => (List.range 7).map fun k =>
      (s.rd ((Reg.MICA.ACT_TYPE g l).addr + 4 * k)).toNat).flatten,
    bg := (s.micaHw g).bg, lut := (s.micaHw g).lut }

/-! ### Commits and flattens (R299, R300, R308, R309) -/

/-- COMMITPEND and QUEUED follow what waits. -/
def showPending (g : Nat) (s : State) : State :=
  let x := s.micaHw g
  let set1 := match x.pending with | some p => p.set.isSome || p.early.isSome | none => false
  let set2 := match x.queued with | some q => q.set.isSome | none => false
  let flat := match x.pending with | some p => p.flatten && p.since.isNone | none => false
  ((s.setB (Reg.MICA.STAT_COMMITPEND g) (set1 || set2)).setB (Reg.MICA.STAT_QUEUED g) x.queued.isSome).setB
    (Reg.MICA.STAT_FLATTENING g) flat

/-- The set that waits without a flatten. -/
def MicaPending.waits (p : MicaPending) : Option (MicaSet × List Nat × Nat) :=
  match p.set, p.since with
  | some x, some t => if p.flatten then p.early else some (x, p.fixed, t)
  | _, _ => p.early

/-- A request starts: a set that changes the slate, and a reflatten, flatten. A set that waits beside a reflatten becomes active on its
own, at its own time (R300). -/
def startReq (g : Nat) (r : MicaReq) (s : State) : State :=
  let p : MicaPending := match r.set with
    | some x =>
        let c := r.re || (s.micaActive g).changes x
        { set := some x, flatten := c, since := if c then none else some s.now, fixed := r.fixed, early := none }
    | none => { set := none, flatten := true, since := none, fixed := [], early := (s.micaHw g).pending.bind MicaPending.waits }
  (s.updMica g fun y => { y with pending := some p }).showPending g

/-- The next set is accepted by a commit (R299): 0, or the reason that refuses it. -/
def micaWhy (g : Nat) (s : State) : Nat := (s.micaNext g).judge (s.get (Reg.MICA.OUTFMT g)) fun l => s.boundSize g l

/-- A commit of the next set. -/
def micaTake (g : Nat) (s : State) : MicaReq := { set := some (s.micaNext g), re := false, fixed := (s.micaHw g).lutFixed }

/-- A REFLATTEN that replaces a queued commit carries it, with every write made up to now (R309); the set accepted before stands where
the commit rules refuse the next set as it is now (DESIGN CHOICE). -/
def micaMerge (g : Nat) (old : Option MicaReq) (r : MicaReq) (s : State) : MicaReq :=
  match r.set, old with
  | none, some q => if q.set.isSome then { (if s.micaWhy g = 0 then s.micaTake g else q) with re := true } else r
  | _, _ => r

/-- A request arrives: while a flatten's set has not become active it is queued, replacing one queued before. -/
def micaRequest (g : Nat) (r : MicaReq) (s : State) : State :=
  match (s.micaHw g).pending with
  | some p =>
      if p.flatten then (s.updMica g fun y => { y with queued := some (s.micaMerge g y.queued r) }).showPending g else s.startReq g r
  | none => s.startReq g r

/-- A write of COMMIT takes effect (R299). -/
def micaCommitLand (g : Nat) (data : Word) (s : State) : State :=
  if bit data.toNat 0 ∧ s.micaRuns g then
    let why := s.micaWhy g
    if why = 0 then s.micaRequest g (s.micaTake g)
    else ((s.set (Reg.MICA.STAT_CERR g) 1).set (Reg.MICA.STAT_CREASON g) why).micaCause g 1
  else s

/-- A write of REFLATTEN takes effect (R308). -/
def reflattenLand (g : Nat) (data : Word) (s : State) : State :=
  if bit data.toNat 0 ∧ s.micaRuns g then s.micaRequest g { set := none, re := true, fixed := [] } else s

/-- A flatten ends (R308). -/
def flattenDone (g us : Nat) (s : State) : State :=
  match (s.micaHw g).pending with
  | some p =>
      if p.flatten ∧ p.since = none then
        let x := p.set.getD (s.micaActive g)
        let img := flatten x (s.get (Reg.MICA.OUTFMT g)) s.dram.mem
        let s := s.updMica g fun y =>
          { y with pending := some { p with since := some s.now }, newSlate := some (img, x.slate) }
        (((s.bump (Reg.MICA.CNT_FLATTENS g) 1).set (Reg.MICA.SLATE_FLATUS g) us).showPending g).micaCause g 2
      else s
  | none => s

/-- An uncorrectable error in a word of a table of an engine poisons its frames (R320), until the word has been written again and
committed: DESIGN CHOICE, "until the table is reloaded" is read of the words in error. -/
def micaTableBad (g k : Nat) (s : State) : State :=
  ((s.bump (Reg.PROV.ECC_UNCORR 9) 1).updMica g fun y =>
    { y with lutBad := if y.lutBad.contains k then y.lutBad else y.lutBad ++ [k], lutFixed := y.lutFixed.filter fun w => w != k }).micaCause g 6

/-- The words of layer memory of an engine: 2^20 each, table by table. -/
def micaWord (g k : Nat) : Nat := g * 1048576 + k % 1048576

/-- The tables of the next set are read as they become active (R175): words stored with inverted check bits. -/
def readTables (g : Nat) (s : State) : State :=
  let ws := dedup ((s.prov.inverted.filter fun p => p.1 == 9 && p.2.1 / 1048576 == g).map fun p => p.2.1)
  s.each ws fun w t =>
    let q := t.wordBad 9 w 0
    (q.2.when (q.1 == 1) (sramCor 9 w)).when (decide (2 ≤ q.1)) (micaTableBad g (w % 1048576))

/-- A set becomes active, with the words in error that it has anew. -/
def activate (g : Nat) (x : MicaSet) (fixed : List Nat) (s : State) : State :=
  let s := s.each (List.range 63) fun l t => t.each (List.range 7) fun k u =>
    u.wr ((Reg.MICA.ACT_TYPE g l).addr + 4 * k) (BitVec.ofNat 32 (x.word l k))
  let s := s.updMica g fun y =>
    { y with bg := x.bg, lut := x.lut, lutBad := y.lutBad.filter fun t => !fixed.contains t }
  (s.readTables g).bump (Reg.MICA.CNT_COMMITS g) 1

/-- A set that waits beside a reflatten becomes active at a selection point at least 10 µs after its commit (R300). -/
def activateEarly (g : Nat) (s : State) : State :=
  match (s.micaHw g).pending with
  | none => s
  | some p =>
      match p.early with
      | none => s
      | some q =>
          if s.now < q.2.2 + 10000 then s
          else ((s.activate g q.1 q.2.1).updMica g fun y => { y with pending := some { p with early := none } }).showPending g

/-- The pending set, and the new slate, become active at a selection point at least 10 µs later (R300, R308). -/
def activatePending (g : Nat) (s : State) : State :=
  let s := s.activateEarly g
  let x := s.micaHw g
  match x.pending with
  | none => s
  | some p =>
      match p.since with
      | none => s
      | some t =>
          if s.now < t + 10000 then s
          else
            let s := match p.set with | some y => s.activate g y p.fixed | none => s
            let s := if p.flatten then
                match x.newSlate with
                | some n =>
                    (s.updMica g fun y => { y with slate := some n.1, slateLayers := n.2, newSlate := none }).set
                      (Reg.MICA.SLATE_SLATELAYERS g) n.2.length
                | none => s
              else s
            let s := s.updMica g fun y => { y with pending := none, queued := none }
            match x.queued with
            | some q => s.startReq g q
            | none => s.showPending g

/-! ### The LUT window (R303) -/

/-- The table LUTSEL chooses. -/
def micaSel (g : Nat) (s : State) : Nat := let t := s.get (Reg.MICA.LUTSEL g); if 11 ≤ t then 0 else t

/-- The window moves on from the entry it stood at (R303): LUTADDR has 12 bits, and after entry 4,095 the window stands past the
table's end until LUTADDR is written. -/
def lutOn (g : Nat) (s : State) : State :=
  (s.when (s.get (Reg.MICA.LUTADDR g) == 4095) (updMica g fun x => { x with lutPast := true })).bump (Reg.MICA.LUTADDR g) 1

/-- A write of LUTDATA takes effect (R303): past the end it is discarded. -/
def micaLutWrite (g : Nat) (data : Word) (s : State) : State :=
  if (s.micaHw g).lutPast then s.micaCause g 7
  else
    let k := s.micaSel g * 4096 + s.get (Reg.MICA.LUTADDR g)
    let s := s.updMica g fun x =>
      { x with nextLut := Assoc.set x.nextLut k (data.toNat % 65536) 0,
               lutFixed := if x.lutBad.contains k && !x.lutFixed.contains k then x.lutFixed ++ [k] else x.lutFixed }
    ((s.set (Reg.MICA.LUTDATA g) data.toNat).lutOn g).chkinvStruckAt 9 (micaWord g k)

/-- A read of LUTDATA (R303): the entry, or an open value past the table's end or in an uncorrectable word (R175). -/
def micaLutRead (g : Nat) (s : State) : Nat × State :=
  let k := s.micaSel g * 4096 + s.get (Reg.MICA.LUTADDR g)
  let past := (s.micaHw g).lutPast
  let q := if past then (0, s) else s.wordBad 9 (micaWord g k) 0
  let s := (q.2.when (q.1 == 1) (sramCor 9 (micaWord g k))).when (decide (2 ≤ q.1)) fun t => t.bump (Reg.PROV.ECC_UNCORR 9) 1
  let r := if past ∨ 2 ≤ q.1 then let f := s.fresh
      (f.1 % 65536, f.2)
    else (Assoc.findD (s.micaHw g).nextLut k 0, s)
  (r.1, (r.2.set (Reg.MICA.LUTDATA g) r.1).when (!past) (lutOn g))

/-! ### The layer mailbox (R304–R306) -/

/-- A handle reaches a mica engine's channel through converter inputs and VIDEO layers. -/
def reaches (s : State) (target : Nat) : Nat → Nat → Bool
  | 0, _ => false
  | n + 1, h =>
      let i := handleIdx h
      match handleKind h with
      | 7 => s.reaches target n (s.routeOf i)
      | 8 =>
          i == target || ((List.range 8).any fun g => s.get (Reg.MICA.CHAN g) == h && ((List.range 63).any fun l =>
            s.flag (Reg.MICA.LAY_BOUND g l) && s.reaches target n (s.get (Reg.MICA.LAY_SRC g l))))
      | _ => false

/-- The result of a layer request. -/
def layResult (g code : Nat) (s : State) : State :=
  ((s.set (Reg.MICA.LAYRES_DONE g) 1).set (Reg.MICA.LAYRES_BUSY g) 0).set (Reg.MICA.LAYRES_CODE g) code

/-- The arguments of the mailbox: layer, source, decimated width and height. -/
def layArgs (g : Nat) (s : State) : Nat × Nat × Nat × Nat :=
  let a := s.get (Reg.MICA.LAYARG g 2)
  (bits (s.get (Reg.MICA.LAYARG g 0)) 5 0, s.get (Reg.MICA.LAYARG g 1), bits a 11 0, bits a 27 16)

/-- The DRAM charge of a decimator (R319): kb/s and pages. -/
def decCharge (g src w h : Nat) (s : State) : Nat × Nat :=
  let sf := s.chanFmt (handleIdx src)
  let f := s.get (Reg.MICA.OUTFMT g)
  let px := w * h * 32
  ((rateAt sf (px * fmtFps sf) + rateAt f (px * fmtFps f) + 999) / 1000, pagesOf (3 * w * h * 4))

/-- The entry size of a source handle. -/
def srcSize (h : Nat) (s : State) : Nat := s.get (Reg.FAB.ISE_CFG_SIZE ((s.chanIng (handleIdx h)).getD 0))

/-- A decimator that no layer holds, and no waiting BIND (R304). -/
def decFree (d : Nat) (s : State) : Bool :=
  !s.flag (Reg.DEC.VALID d) && !(List.range 8).any fun g => (s.micaHw g).waitBind.any fun w => w.dec == d

/-- The judgement of BIND and REBIND after the layer is known (R304, steps 3 to 10). -/
def judgeBind (g : Nat) (re : Bool) (s : State) : Nat :=
  let a := s.layArgs g
  let l := a.1
  let h := a.2.1
  let w := a.2.2.1
  let ht := a.2.2.2
  let j := s.judgeHandle h [1, 7, 8, 9]
  let f := s.chanFmt (handleIdx h)
  let sw := fmtWidth f
  let sh := fmtHeight f
  let d := s.get (layDec g l)
  let c := s.decCharge g h w ht
  let held := if re then (s.decHw d).kbps else 0
  let heldPages := if re then (s.decHw d).pages else 0
  if j ≠ 0 then j
  else if fmtStruct f = 5 then 10
  else if w % 2 ≠ 0 ∨ ht % 2 ≠ 0 ∨ w < 16 ∨ ht < 16 ∨ sw < w ∨ sh < ht ∨ 16 * w < sw ∨ 16 * ht < sh then 11
  else if re ∧ s.srcSize h ≠ s.get (Reg.FAB.ESE_CFG_SIZE (s.get (Reg.DEC.ESE d))) then 11
  else if s.reaches (handleIdx (s.get (Reg.MICA.CHAN g))) 48 h then 14
  else if !re ∧ ((List.range 256).find? fun k => s.decFree k) = none then 6
  else if !re ∧ !s.budgetFits [] [s.srcSize h] then 7
  else if !(s.uncharge held heldPages).chargeFits c.1 c.2 then 9
  else 0

/-- The decimator's registers name its source and size. -/
def showDec (d g l h w ht : Nat) (s : State) : State :=
  let s := ((s.set (Reg.DEC.SRC d) h).set (Reg.DEC.VALID d) 1).set (Reg.DEC.ENGINE d) g
  let s := ((s.set (Reg.DEC.LAYER d) l).set (Reg.DEC.W d) w).set (Reg.DEC.H d) ht
  (s.set (Reg.DEC.CTRL_EN d) 1).set (Reg.DEC.STAT_RUN d) 1

/-- An admitted binding takes its decimator and egress entry and is done, or waits for a compaction that gives it the entry; its DRAM
is charged already. -/
def placeBind (g : Nat) (w : BindWait) (s : State) : State :=
  let k := s.srcSize w.src
  match allocEntry s.egrUse k with
  | some e =>
      let s := ((s.openEgr e k (s.get (Reg.MICA.PLANE g)) 6 (s.get (Reg.MICA.CHAN g)) (s.chanFmt (handleIdx w.src)) false).repoint
        e w.src).dropNeed (.layer g)
      let s := ((s.showDec w.dec g w.layer w.src w.w w.h).set (Reg.DEC.ESE w.dec) e).updDec w.dec fun _ =>
        { DecHw.fresh with kbps := w.kbps, pages := w.pages, since := s.now, from_ := s.now }
      let s := (s.set (Reg.MICA.LAY_BOUND g w.layer) 1).set (layDec g w.layer) w.dec
      let s := ((s.set (Reg.MICA.LAY_SRC g w.layer) w.src).set (Reg.MICA.LAY_STATE g w.layer) 1).updMica g fun y =>
        { y with passes := Assoc.del y.passes w.layer, waitBind := none }
      s.layResult g 0
  | none =>
      (((s.updMica g fun y => { y with waitBind := some w }).startCompaction (.layer g) [] [k])).set (Reg.MICA.LAYRES_BUSY g) 1

/-- A BIND that waits is given up, and what it was admitted with goes back. -/
def dropBind (g : Nat) (s : State) : State :=
  match (s.micaHw g).waitBind with
  | none => s
  | some w => ((s.updMica g fun y => { y with waitBind := none }).dropNeed (.layer g)).uncharge w.kbps w.pages

/-- BIND. -/
def opBind (g : Nat) (s : State) : State :=
  let l := (s.layArgs g).1
  if 63 ≤ l then s.layResult g 11
  else if s.flag (Reg.MICA.LAY_BOUND g l) then s.layResult g 12
  else
    let code := s.judgeBind g false
    let a := s.layArgs g
    let s := s.staleIf code s.boxSession a.2.1
    if code ≠ 0 then s.layResult g code
    else
      let c := s.decCharge g a.2.1 a.2.2.1 a.2.2.2
      (s.charge c.1 c.2).placeBind g
        { layer := a.1, src := a.2.1, w := a.2.2.1, h := a.2.2.2, dec := ((List.range 256).find? fun k => s.decFree k).getD 0,
          kbps := c.1, pages := c.2, session := s.boxSession }

/-- REBIND (R306): the decimator reads the new source from its next first-of-frame cell. -/
def opRebind (g : Nat) (s : State) : State :=
  let a := s.layArgs g
  let l := a.1
  if 63 ≤ l ∨ !s.flag (Reg.MICA.LAY_BOUND g l) then s.layResult g 11
  else
    let code := s.judgeBind g true
    let s := s.staleIf code s.boxSession a.2.1
    if code ≠ 0 then s.layResult g code
    else
      let d := s.get (layDec g l)
      let x := s.decHw d
      let c := s.decCharge g a.2.1 a.2.2.1 a.2.2.2
      let s := ((s.uncharge x.kbps x.pages).charge c.1 c.2).updDec d fun y =>
        { y with base := none, kbps := c.1, pages := c.2, from_ := s.now }
      let s := (s.showDec d g l a.2.1 a.2.2.1 a.2.2.2).repoint (s.get (Reg.DEC.ESE d)) a.2.1
      (s.set (Reg.MICA.LAY_SRC g l) a.2.1).layResult g 0

/-- A layer shows as unbound. -/
def clearLayer (g l : Nat) (s : State) : State :=
  (((s.set (Reg.MICA.LAY_BOUND g l) 0).set (layDec g l) 0).set (Reg.MICA.LAY_SRC g l) 0).set (Reg.MICA.LAY_STATE g l) 0

/-- UNBIND (R306): the decimator leaves, and returns once it has left its source. -/
def opUnbind (g : Nat) (s : State) : State :=
  let l := (s.layArgs g).1
  if 63 ≤ l ∨ !s.flag (Reg.MICA.LAY_BOUND g l) then s.layResult g 11
  else
    let d := s.get (layDec g l)
    ((s.updDec d fun x => { x with leaving := true }).clearLayer g l).layResult g 0

/-- A write of LAYCMD takes effect (R304). -/
def layCmdLand (g : Nat) (data : Word) (s : State) : State :=
  if s.flag (Reg.MICA.LAYRES_BUSY g) then s.micaCause g 8
  else
    let s := s.set (Reg.MICA.LAYRES_DONE g) 0
    if s.get (Reg.MICA.CTRL_EN g) ≠ 1 then s.layResult g 16
    else
      match data.toNat % 16 with
      | 1 => s.opBind g
      | 2 => s.opRebind g
      | 3 => s.opUnbind g
      | _ => s.layResult g 11

/-- A decimator returns to the pool. -/
def freeDec (d : Nat) (s : State) : State :=
  let x := s.decHw d
  let s := (s.closeEgr (s.get (Reg.DEC.ESE d))).uncharge x.kbps x.pages
  let s := s.each [0, 4, 0x10, 0x14, 0x18, 0x1C, 0x20] fun o t => t.wr ((Reg.DEC.CTRL_EN d).addr + o) 0
  s.updDec d fun _ => DecHw.fresh

/-- The decimators of an engine. -/
def decsOf (g : Nat) (s : State) : List Nat :=
  (List.range 256).filter fun d => s.flag (Reg.DEC.VALID d) && s.get (Reg.DEC.ENGINE d) == g

/-- A destroyed source leaves its decimators with no source (R86, R306). -/
def decSourceGone (h : Nat) (s : State) : State :=
  s.each ((List.range 256).filter fun d => s.flag (Reg.DEC.VALID d) && s.get (Reg.DEC.SRC d) == h) fun d t =>
    (t.set (Reg.DEC.SRC d) 0).repoint (t.get (Reg.DEC.ESE d)) 0

/-! ### Decimated frames (R305, R317) -/

/-- The cause a source frame fails a binding with, 0 when it passes (R158, R317). -/
def decVerdict (f : Frame) (src : Nat) (base : Option (Nat × Nat)) (s : State) : Nat :=
  match f.token with
  | none => 1
  | some t =>
      if f.tstate = 1 then 0
      else if t.sys ≠ s.use Reg.CHN.CFG_SYSNUM ∨ t.idx ≠ handleIdx src then 3
      else if f.tstate = 2 then 4
      else if f.poisoned then 5
      else
        match base with
        | some (c, st) =>
            let d := (t.count + 65536 - c) % 65536
            if st = 1 ∨ st = 3 ∨ f.tstate = 3 then 0 else if d = 0 then 7 else if 32768 ≤ d then 8 else 0
        | none => 0

/-- A decimator completes a frame, or abandons it when a write came late (R305, R319); it takes cells 6,000 ns after they were written,
and begins with a frame whose first cell it takes (R306). Every source frame's token is checked (R317). -/
def decFrame (d : Nat) (late : Bool) (s : State) : State :=
  let src := s.get (Reg.DEC.SRC d)
  let e := s.get (Reg.DEC.ESE d)
  if d < 256 ∧ s.flag (Reg.DEC.VALID d) ∧ src ≠ 0 ∧ s.flag (Reg.FAB.ESE_SRC_SRCVALID e) then
    let g := s.get (Reg.DEC.ENGINE d)
    let l := s.get (Reg.DEC.LAYER d)
    match (s.ing (s.get (Reg.FAB.ESE_SRC_ENTRY e))).cur with
    | none => s
    | some f =>
        let why := s.decVerdict f src (s.decHw d).base
        if (s.ing (s.get (Reg.FAB.ESE_SRC_ENTRY e))).at_ + 6000 < (s.decHw d).from_ then s
        else if late || !s.dramUp then
          let s := (s.bump (Reg.DEC.LATE d) 1).updDec d fun y => { y with base := f.token.map fun t => (t.count, f.tstate) }
          s.when (why != 0) fun t => ((t.bump (Reg.DEC.TOKFAIL d) 1).bump (Reg.MICA.LAY_FAILCNT g l) 1).updMica g fun y =>
            { y with passes := Assoc.put y.passes l 0 }
        else
          let w := s.get (Reg.DEC.W d)
          let h := s.get (Reg.DEC.H d)
          let x : DecFrame :=
            { w := w, h := h, pixels := decimate f.fmt w h f.picture, rgb := fmtSamp f.fmt == 2, colr := fmtColr f.fmt,
              nosrc := f.tstate == 1, cause := why, at_ := s.now }
          let s := (s.mediaWritten (4 * w * h)).updDec d fun y =>
            { y with newest := some x, base := f.token.map fun t => (t.count, f.tstate) }
          let s := (s.bump (Reg.DEC.FRAMES d) 1).set (Reg.DEC.FILL d) (min 2 (s.get (Reg.DEC.FILL d) + 1))
          if why ≠ 0 then
            ((s.bump (Reg.DEC.TOKFAIL d) 1).bump (Reg.MICA.LAY_FAILCNT g l) 1).updMica g fun y =>
              { y with passes := Assoc.put y.passes l 0 }
          else s.updMica g fun y => { y with passes := Assoc.put y.passes l (Assoc.findD y.passes l 0 + 1) }
  else s

/-- A layer enters FAIL or STALE (R317). -/
def layerFails (g l st cause : Nat) (s : State) : State :=
  if s.get (Reg.MICA.LAY_STATE g l) = st then s
  else
    ((s.set (Reg.MICA.LAY_STATE g l) st).updMica g fun y =>
      { y with passes := if st = 3 then Assoc.put y.passes l 0 else y.passes }).raise (1313 + 4 * g) [g, l, cause]

/-- When the last decimated frame of a layer was completed, or the layer bound. -/
def layerSeen (g l : Nat) (s : State) : Nat :=
  let x := s.decHw (s.get (layDec g l))
  match x.newest with | some f => f.at_ | none => x.since

/-- No decimated frame has been completed within LIVE ms, nor the layer been bound since (R317). -/
def layerStale (g l : Nat) (s : State) : State :=
  if s.micaRuns g ∧ l < 63 ∧ s.flag (Reg.MICA.LAY_BOUND g l) ∧ s.get (Reg.MICA.LIVE g) ≠ 0 ∧
      s.layerSeen g l + s.get (Reg.MICA.LIVE g) * 1000000 ≤ s.now then s.layerFails g l 3 0 else s

/-- A VIDEO layer is judged at a selection point. -/
def judgeLayer (g l : Nat) (s : State) : State :=
  if !s.flag (Reg.MICA.LAY_BOUND g l) then s
  else
    let d := s.get (layDec g l)
    let st := s.get (Reg.MICA.LAY_STATE g l)
    if s.get (Reg.DEC.SRC d) = 0 then s.set (Reg.MICA.LAY_STATE g l) 4
    else
      match (s.decHw d).newest with
      | none => s
      | some f =>
          if f.nosrc then s.set (Reg.MICA.LAY_STATE g l) 4
          else if f.cause ≠ 0 then (s.set (Reg.MICA.LAY_CAUSE g l) f.cause).layerFails g l 2 f.cause
          else if st = 2 ∨ st = 3 ∨ st = 5 then
            let n := Assoc.findD (s.micaHw g).passes l 0
            if max 1 (s.use Reg.PROV.CFG) ≤ n then s.set (Reg.MICA.LAY_STATE g l) 1
            else if 0 < n then s.set (Reg.MICA.LAY_STATE g l) 5 else s
          else s.set (Reg.MICA.LAY_STATE g l) 1

/-- A frame of one colour. -/
def fillFrame (w h colour : Nat) : DecFrame :=
  { w := w, h := h, pixels := List.replicate (w * h) (colourWord colour), rgb := true, colr := 0, nosrc := false,
    cause := 0, at_ := 0 }

/-- What a VIDEO layer shows, with ONFAIL (R317). -/
def layerFrame (g l : Nat) (x : MicaSet) (s : State) : Option DecFrame :=
  if !s.flag (Reg.MICA.LAY_BOUND g l) then none
  else
    let d := s.get (layDec g l)
    let st := s.get (Reg.MICA.LAY_STATE g l)
    let onfail := bits (x.word l 0) 28 27
    if st = 2 ∨ st = 3 then
      match onfail with
      | 1 => some (fillFrame (s.get (Reg.DEC.W d)) (s.get (Reg.DEC.H d)) (bits (x.word l 3) 29 0))
      | 2 => none
      | _ => (s.decHw d).newest
    else (s.decHw d).newest

/-! ### Selection points (R296, R312, R314) -/

/-- The condition of an alarm record. -/
def alarmOn (g : Nat) (a : FlintAlarm) (s : State) : Bool :=
  if a.layer then
    s.get (Reg.MICA.LAY_STATE g a.ref) == 2 || s.get (Reg.MICA.LAY_STATE g a.ref) == 3
  else s.get (Reg.PROV.OUT_STATE a.ref) == 2

/-- A loaded flint bank becomes active. -/
def flintSwap (g : Nat) (s : State) : State :=
  match (s.micaHw g).loaded with
  | none => s
  | some b =>
      ((s.updMica g fun y => { y with flint := some b, loaded := none, flintBad := false }).setB (Reg.MICA.FLINT_BANK g)
        (!s.flag (Reg.MICA.FLINT_BANK g))).set (Reg.MICA.STAT_LOADPEND g) 0

/-- The engine latches what its next frame uses. A layer that fails or recovers here shows it from the next selection point (R317). -/
def selectionPoint (g : Nat) (s : State) : State :=
  if s.micaRuns g then
    let s := (s.activatePending g).flintSwap g
    let s := s.each (s.decsOf g) fun d t => if (t.decHw d).leaving then t.freeDec d else t
    let x := s.micaActive g
    let ls := (List.range 63).filter fun l => x.type l == 1
    let frames := ls.map fun l => (l, s.layerFrame g l x)
    let s := s.each ls (judgeLayer g)
    let b := (s.micaHw g).flint
    let alarms := match b with
      | some b => (b.alarms.zipIdx.filter fun p => s.alarmOn g p.1).map (·.2)
      | none => []
    let s := s.set (Reg.MICA.FLINT_ALARMS g) (sumList (alarms.map fun k => 2 ^ k))
    let y := s.micaHw g
    let l : MicaLatch := { set := x, slate := y.slate, slateLayers := y.slateLayers, flint := b, en := s.flag (Reg.MICA.FLINT_EN g),
                           alarms := alarms, frames := frames, mem := s.dram.mem }
    s.updMica g fun z => { z with latched := some l }
  else s

/-! ### Flint loads (R312) -/

/-- The image address, a wide value (R59). -/
def flintAddr (g : Nat) (s : State) : Nat :=
  s.getLow (Reg.MICA.FLINTLOAD_ADDRLO g) * 64 + s.get (Reg.MICA.FLINTLOAD_ADDRHI g) * 2 ^ 32

/-- A write of FLINTLOAD.GO takes effect. -/
def flintGoLand (g : Nat) (data : Word) (s : State) : State :=
  if bit data.toNat 0 then
    if s.flag (Reg.MICA.STAT_LOADPEND g) then s.micaCause g 4 else s.set (Reg.MICA.STAT_LOADPEND g) 1
  else s

/-- A flint copy ends and is checked. -/
def flintLoadDone (g : Nat) (s : State) : State :=
  if s.flag (Reg.MICA.STAT_LOADPEND g) ∧ (s.micaHw g).loaded = none then
    let l := Memory.readN s.dram.mem (s.flintAddr g) (0xFD40 + 64 * 1024 + 8 * 16)
    let r := flintJudge (s.get (Reg.MICA.OUTFMT g)) (s.get (Reg.MICA.FLINTLOAD_CRC g))
      (fun e => s.flag (Reg.FAB.ESE_CFG_VALID e)) l
    let s := s.set (Reg.MICA.FLINT_LOADERR g) r.1
    if r.1 = 0 then s.updMica g fun y => { y with loaded := some r.2 }
    else (s.set (Reg.MICA.STAT_LOADPEND g) 0).micaCause g 3
  else s

/-! ### Result frames (R295, R315, R318) -/

/-- The flint checker finds a frame right: FLINT.STATE moves towards PASS, but for a bank in error (R316). -/
def flintMatch (g : Nat) (en : Bool) (s : State) : State :=
  let st := s.get (Reg.MICA.FLINT_STATE g)
  if !en then s.set (Reg.MICA.FLINT_STATE g) 0
  else if (s.micaHw g).flintBad then s.set (Reg.MICA.FLINT_STATE g) 2
  else if st = 0 ∨ st = 1 then s.set (Reg.MICA.FLINT_STATE g) 1
  else
    let n := (s.micaHw g).matches_ + 1
    if max 1 (s.use Reg.PROV.CFG) ≤ n then
      (s.set (Reg.MICA.FLINT_STATE g) 1).updMica g fun y => { y with matches_ := 0 }
    else (s.set (Reg.MICA.FLINT_STATE g) 3).updMica g fun y => { y with matches_ := n }

/-- The flint fails (R315, R316). -/
def flintFails (g : Nat) (s : State) : State :=
  ((s.set (Reg.MICA.FLINT_STATE g) 2).updMica g fun y => { y with matches_ := 0 }).raise (1315 + 4 * g) [g]

/-- The checker's verdict on the last frame is a mismatch. -/
def flintVerdict (g got : Nat) (s : State) : State :=
  if s.micaRuns g ∧ s.flag (Reg.MICA.FLINT_EN g) ∧ got % 2 ^ 32 ≠ s.get (Reg.MICA.FLINT_SIGEXP g) then
    ((s.set (Reg.MICA.FLINT_SIGGOT g) got).bump (Reg.MICA.FLINT_FAILCNT g) 1).flintFails g
  else s

/-- An uncorrectable error in the active flint bank (R316). -/
def flintBankBad (g : Nat) (s : State) : State :=
  (s.updMica g fun y => { y with flintBad := true }).flintFails g

/-- A region monitor takes a frame's CRC; one that is off takes none (R318), and of the reserved MODE 3 the same is taken to hold
(DESIGN CHOICE). -/
def regionFrame (g r fmt : Nat) (pic : List Pix) (s : State) : State :=
  let mode := s.get (Reg.MICA.REG_MODE g r)
  if mode ≠ 1 ∧ mode ≠ 2 then
    s.updMica g fun z => { z with regions := Assoc.put z.regions r { last := none, same := 0, raised := false } }
  else
  let crc := regionCrc fmt (s.get (Reg.MICA.REG_X g r)) (s.get (Reg.MICA.REG_Y g r)) (s.get (Reg.MICA.REG_W g r))
    (s.get (Reg.MICA.REG_H g r)) pic
  let x := Assoc.findD (s.micaHw g).regions r { last := none, same := 0, raised := false }
  let s := s.set (Reg.MICA.REG_SIG g r) crc
  let same := if x.last = some crc then x.same + 1 else 0
  let bad := match mode with
    | 1 => decide (max 1 (s.get (Reg.MICA.REG_FRAMES g r)) ≤ same)
    | 2 => crc != s.get (Reg.MICA.REG_EXPECT g r)
    | _ => false
  let y : RegionHw := { last := if mode = 1 then some crc else none, same := same, raised := bad }
  (s.updMica g fun z => { z with regions := Assoc.put z.regions r y }).when (bad && !x.raised)
    (raise (1314 + 4 * g) [g, r])

/-- The engine writes a result frame, which started at the last frame instant of its plane (R295). -/
def micaFrame (g : Nat) (late : Bool) (s : State) : State :=
  match (s.micaHw g).latched, s.chanIng (handleIdx (s.get (Reg.MICA.CHAN g))) with
  | some l, some i =>
      if s.micaRuns g then
        let fmt := s.get (Reg.MICA.OUTFMT g)
        let en := l.en
        let st := s.get (Reg.MICA.FLINT_STATE g)
        let base := composePicture l fmt l.mem
        let r := match l.flint with
          | some b => if en then flintPicture b l.alarms fmt base else (base, [])
          | none => (base, [])
        let sig := crc32Words (r.2.map fun p => p.toNat)
        let late := late || !s.dramUp
        let poison := late || (s.micaHw g).lutBad != []
        let f : Frame := { fmt := fmt, token := none, tstate := if en && (st == 2 || st == 3 || (s.micaHw g).flintBad) then 2 else 0,
                           poisoned := poison, picture := r.1, anc := [] }
        let ago3 := (s.planePos3 (s.get (Reg.MICA.PLANE g))).toNat
        let s := (s.bump (Reg.MICA.FRAMES g) 1).issueLate ago3 i (digest r.1) false f
        let s := s.when poison (bump Reg.FAB.POISONCNT 1)
        let s := s.when late (micaCause g 5)
        let s := s.when en fun t => (t.set (Reg.MICA.FLINT_SIGEXP g) sig).set (Reg.MICA.FLINT_SIGGOT g) sig
        let s := s.flintMatch g en
        s.each (List.range 4) fun k t => t.regionFrame g k fmt r.1
      else s
  | _, _ => s

/-! ### Engines for channels -/

/-- A mica engine is given to a channel (R294). Its flint, which changes by a load only (R313), and its tables stay. -/
def micaOpen (g h fmt plane bg : Nat) (s : State) : State :=
  let s := (((s.set (Reg.MICA.CHAN g) h).set (Reg.MICA.OUTFMT g) fmt).set (Reg.MICA.PLANE g) plane).set (Reg.MICA.BG g) bg
  ((s.updMica g fun y => { MicaHw.fresh with nextLut := y.nextLut, lut := y.lut, flint := y.flint, loaded := y.loaded, flintBad := y.flintBad,
                                                lutBad := y.lutBad, lutFixed := y.lutFixed, bg := bg % 2 ^ 30 }).set
    (Reg.MICA.CTRL_EN g) 1).set (Reg.MICA.STAT_RUN g) 1

/-- A destroyed engine releases its layer bindings (R296). -/
def micaUnbindAll (g : Nat) (s : State) : State :=
  let s := s.when (s.micaHw g).waitBind.isSome fun t => (t.dropBind g).layResult g 16
  let s := s.each (s.decsOf g) fun d t => t.freeDec d
  s.each ((List.range 63).filter fun l => s.flag (Reg.MICA.LAY_BOUND g l)) fun l t => t.clearLayer g l

/-- An engine stops, and its result goes to NOSIG. -/
def micaStop (g : Nat) (s : State) : State :=
  let s := s.set (Reg.MICA.STAT_RUN g) 0
  match s.chanIng (handleIdx (s.get (Reg.MICA.CHAN g))) with
  | some i => s.when (s.get (Reg.MICA.CHAN g) != 0) (toNosig i)
  | none => s

/-- An engine is released. -/
def micaClose (g : Nat) (s : State) : State :=
  let s := ((s.micaUnbindAll g).micaStop g).set (Reg.MICA.CTRL_EN g) 0
  ((((s.set (Reg.MICA.CHAN g) 0).set (Reg.MICA.OUTFMT g) 0).set (Reg.MICA.PLANE g) 0).updMica g fun y =>
    { y with latched := none, pending := none, queued := none }).showPending g

end State

/-- FLATTEN_DONE (R308) of engine `g`. -/
def execFlattenDone (g us : Nat) (s : State) : Host.Outcome State Fault Refusal := .next (s.flattenDone g us)

/-- SELECTION_POINT (R296) of engine `g`. -/
def execSelectionPoint (g : Nat) (s : State) : Host.Outcome State Fault Refusal := .next (s.selectionPoint g)

/-- FLINT_LOAD_DONE (R312) of engine `g`. -/
def execFlintLoadDone (g : Nat) (s : State) : Host.Outcome State Fault Refusal := .next (s.flintLoadDone g)

/-- MICA_FRAME_WRITE (R295) of engine `g`. -/
def execMicaFrameWrite (g : Nat) (late : Bool) (s : State) : Host.Outcome State Fault Refusal :=
  .next (s.micaFrame g late)

/-- FLINT_FAIL (R315) of engine `g`. -/
def execFlintFail (g got : Nat) (s : State) : Host.Outcome State Fault Refusal := .next (s.flintVerdict g got)

/-- DECIMATOR_FRAME (R305) of decimator `d`. -/
def execDecimatorFrame (d : Nat) (late : Bool) (s : State) : Host.Outcome State Fault Refusal := .next (s.decFrame d late)

/-- LAYER_STALE_TIMEOUT (R317) of layer `l` of engine `g`. -/
def execLayerStaleTimeout (g l : Nat) (s : State) : Host.Outcome State Fault Refusal := .next (s.layerStale g l)

end Sys2Proof.Machine
end

