-- ==== Sys2Proof/Machine/Eth.lean ====
section
/-! DEFINITION. Chapter 14: the Ethernet ports. Frame layout and checksums, link states, the media queue and holds, the
descriptor rings in management SRAM, and the statistics. -/

namespace Sys2Proof.Machine

/-! ### Frames -/

/-- The ones'-complement sum of bytes as 16-bit words, highest byte first, folded to 16 bits. -/
def onesSum : List Byte → Nat
  | a :: b :: t => let r := a.toNat * 256 + b.toNat + onesSum t; if 65535 < r then r - 65535 else r
  | [a] => a.toNat * 256
  | [] => 0

/-- n bytes of a list from a place; bytes beyond its end read 0. -/
def slice (l : List Byte) (at_ n : Nat) : List Byte := ((l.drop at_).take n ++ List.replicate n 0).take n

/-- A field of n bytes, highest first. -/
def field (l : List Byte) (at_ n : Nat) : Nat := beNat (slice l at_ n)

/-- A frame without its FCS, padded to 60 bytes, with the FCS after it (R368). -/
def withFcs (l : List Byte) : List Byte :=
  let b := l ++ List.replicate (60 - l.length) 0
  b ++ leBytes 4 (crc32 b)

/-- The FCS of a received frame is right. -/
def fcsRight (l : List Byte) : Bool :=
  decide (4 ≤ l.length) && leNat (l.drop (l.length - 4)) == crc32 (l.take (l.length - 4))

/-- Where the EtherType of the frame proper stands: after a tag when there is one. -/
def etherAt (l : List Byte) : Nat := if field l 12 2 = 0x8100 then 16 else 12
def etherType (l : List Byte) : Nat := field l (etherAt l) 2

/-- The VLAN tag of a frame: its PCP and VLAN ID. -/
def vlanOf (l : List Byte) : Option (Nat × Nat) :=
  if field l 12 2 = 0x8100 then some (bits (field l 14 2) 15 13, bits (field l 14 2) 11 0) else none

/-- Step 3 of R362: a second tag, or TPID 0x88A8, is refused. -/
def tagsOk (l : List Byte) : Bool :=
  field l 12 2 != 0x88A8 && !(field l 12 2 == 0x8100 && (field l 16 2 == 0x8100 || field l 16 2 == 0x88A8))

/-- The IPv4 packet of a frame, from its header to its total length, without padding and FCS. -/
def ipv4Of (l : List Byte) : Option (List Byte) :=
  if etherType l = 0x0800 then
    let p := l.drop (etherAt l + 2)
    some (p.take (min (field p 2 2) (p.length - 4)))
  else none

/-- Header length in bytes, fragment, protocol, and the transport part of an IPv4 packet. -/
def ipHdr (p : List Byte) : Nat := 4 * bits (field p 0 1) 3 0
def ipFragment (p : List Byte) : Bool := bits (field p 6 2) 13 0 != 0
/-- A fragment other than the first: it holds no UDP header. -/
def ipRest (p : List Byte) : Bool := bits (field p 6 2) 12 0 != 0
def ipIsUdp (p : List Byte) : Bool := field p 9 1 == 17
def ipBody (p : List Byte) : List Byte := p.drop (ipHdr p)

/-- The sum over the pseudo-header and datagram of a UDP packet. -/
def udpSum (src dst : Nat) (dgram : List Byte) : Nat :=
  onesSum (beBytes 4 src ++ beBytes 4 dst ++ beBytes 2 17 ++ beBytes 2 dgram.length ++ dgram)

/-- The checksums of R365 are right, or do not apply. -/
def checksumsOk (l : List Byte) : Bool :=
  match ipv4Of l with
  | none => true
  | some p =>
      let u := ipBody p
      let d := u.take (field u 4 2)
      let whole := l.drop (etherAt l + 2)
      decide (onesSum (whole.take (ipHdr whole)) = 65535) &&
        (!ipIsUdp p || ipFragment p || field u 6 2 == 0 ||
          decide (udpSum (field p 12 4) (field p 16 4) d = 65535))

/-- Put n bytes of a value, highest first, into a list of bytes. -/
def patch (l : List Byte) (at_ n v : Nat) : List Byte := l.take at_ ++ beBytes n v ++ l.drop (at_ + n)

/-- The checksum field that makes a sum come out right. -/
def csumOf (sum : Nat) : Nat := 65535 - sum

/-- The UDP checksum field; a sum of zero is sent as all ones. -/
def udpCsum (sum : Nat) : Nat := if csumOf sum = 0 then 65535 else csumOf sum

/-- The insertions of a ring frame with CSUM = 1 (R368). -/
def insertChecksums (l : List Byte) : List Byte :=
  if etherType l = 0x0800 then
    let o := etherAt l + 2
    let p := l.drop o
    let h := ipHdr p
    let p := patch p 10 2 0
    let p := patch p 10 2 (csumOf (onesSum (p.take h)))
    let p :=
      if ipIsUdp p && !ipFragment p then
        let p := patch p (h + 6) 2 0
        patch p (h + 6) 2 (udpCsum (udpSum (field p 12 4) (field p 16 4) ((p.drop h).take (field p (h + 4) 2))))
      else p
    l.take o ++ p
  else l

/-- The hash bin of a destination address (R364). -/
def hashBin (mac : Nat) : Nat := crc32 (beBytes 6 mac) % 4096

/-- The group MAC address of an IPv4 multicast address (RFC 1112). -/
def groupMac (ip : Nat) : Nat := 0x01005E000000 + ip % 2 ^ 23

/-- An IPv4 multicast address. -/
def isGroup (ip : Nat) : Bool := decide (0xE0000000 ≤ ip) && decide (ip ≤ 0xEFFFFFFF)

namespace State

/-! ### Ports -/

def EthPort.fresh : EthPort :=
  { ctr := List.replicate 13 0, totals := List.replicate 13 0, locked := false, fault := 0, queue := [], holds := [],
    scanning := false, cleanAt := 0, wdAt := 0 }

/-- A port's hidden state, and its change. -/
def ethPort (s : State) (p : Nat) : EthPort := Assoc.findD s.eth.ports p EthPort.fresh
def updEth (p : Nat) (f : EthPort → EthPort) (s : State) : State :=
  { s with eth := { s.eth with ports := Assoc.set s.eth.ports p (f (s.ethPort p)) EthPort.fresh } }

/-- The line rate of a port in Mb/s (R358, R379). -/
def ethRate (p : Nat) (s : State) : Nat :=
  match s.use (Reg.ETH.CFG_PTYPE p) with
  | 0 => 10000
  | 1 => 25000
  | 2 => 50000
  | 3 => 100000
  | 4 => 1000
  | 5 => 10000
  | _ => 0

/-- The largest frame (R363). -/
def maxFrm (p : Nat) (s : State) : Nat := max 1518 (min 9216 (s.use (Reg.ETH.MAXFRM p)))

/-- A port sends frames. -/
def ethUp (p : Nat) (s : State) : Bool := s.get (Reg.ETH.STAT_LINK p) == 3

/-! ### Statistics (R377, R378) -/

/-- The largest value of a running counter. -/
def ctrMax (k : Nat) : Nat := if k < 2 then 2 ^ 20 - 1 else if k < 4 then 2 ^ 24 - 1 else 2 ^ 16 - 1

/-- A running counter counts; it stops at its largest value. -/
def ethCount (p k n : Nat) (s : State) : State :=
  let old := (s.ethPort p).ctr.getD k 0
  let new := min (ctrMax k) (old + n)
  let s := s.updEth p fun x => { x with ctr := x.ctr.set k new }
  s.when (decide (old < ctrMax k) && decide (new = ctrMax k)) fun t => (t.set (Reg.ETH.STAT_SATURATED p) 1).ethCause p 7

/-- The snapshot registers, in the order of the counters. -/
def snapRegs (p : Nat) : List FRef :=
  [Reg.ETH.SRXFRM p, Reg.ETH.STXFRM p, Reg.ETH.SRXOCT p, Reg.ETH.STXOCT p, Reg.ETH.SRXFCS p, Reg.ETH.SRXLEN p,
   Reg.ETH.SRXCSUM p, Reg.ETH.SRXDROP p, Reg.ETH.SRXPAUSE p, Reg.ETH.STXDROP p, Reg.ETH.SRINGDROP p,
   Reg.ETH.SFECCOR p, Reg.ETH.SFECUNC p]

/-- A snap: every running counter is copied and restarts, and SATURATED ends (R377). -/
def statSnap (p : Nat) (s : State) : State :=
  let c := (s.ethPort p).ctr
  ((s.each ((snapRegs p).zip c) fun q t => t.set q.1 q.2).set (Reg.ETH.STAT_SATURATED p) 0).updEth p fun x =>
    { x with ctr := List.replicate 13 0 }

/-- A write of STATSNAP takes effect. -/
def statSnapLand (p : Nat) (data : Word) (s : State) : State := s.when (data.toNat % 2 == 1) (statSnap p)

/-- The firmware snaps a port and adds the snapshot to its totals (R378). -/
def statTotal (p : Nat) (s : State) : State :=
  let c := (s.ethPort p).ctr
  (s.statSnap p).updEth p fun x =>
    { x with totals := (x.totals.zip c).map fun q => (q.1 + q.2) % 2 ^ 64 }

/-! ### The media queue and holds (R367–R371) -/

/-- A frame leaves the port; loopbacks and test patterns of its lanes keep it from their pins (R349, R350). -/
def ethOut (p : Nat) (bytes : List Byte) (s : State) : State :=
  let onPins := (s.ethLanes p).all fun n => s.txPath n == 0
  ((s.when onPins (emit (.eth p bytes))).ethCount p 1 1).ethCount p 3 bytes.length

/-- A class is held: by its own PFC hold, or by PAUSE. -/
def held (p cls : Nat) (s : State) : Bool :=
  (s.ethPort p).holds.any fun h => h.1 == cls || h.1 == 8

/-- STAT.PAUSED. -/
def showPaused (p : Nat) (s : State) : State := s.setB (Reg.ETH.STAT_PAUSED p) (!(s.ethPort p).holds.isEmpty)

/-- Packets whose class is no longer held leave in order. -/
def drainMedia (p : Nat) (s : State) : State :=
  let q := (s.ethPort p).queue
  let s := s.updEth p fun x => { x with queue := q.filter fun y => s.held p y.1 }
  s.each (q.filter fun y => !s.held p y.1) fun y t => t.ethOut p y.2

/-- A media packet is given to the port: discarded while the port is not UP or where it is longer than MAXFRM (R363), not sent
until the fabric is enabled (R20), dropped by a full queue, else sent when its
class is free. -/
def ethMedia (p cls : Nat) (frame : List Byte) (s : State) : State :=
  if !s.ethUp p ∨ s.maxFrm p < frame.length then s.ethCount p 9 1
  else if !s.flag Reg.FAB.STAT_RUN then s
  else if s.held p cls then
    if sumList ((s.ethPort p).queue.map fun y => y.2.length) + frame.length ≤ 65536 then
      s.updEth p fun x => { x with queue := x.queue ++ [(cls, frame)] }
    else (s.ethCount p 9 1).ethCause p 5
  else s.ethOut p frame

/-- A hold ends. -/
def endHold (p cls : Nat) (s : State) : State :=
  ((s.updEth p fun x => { x with holds := Assoc.del x.holds cls }).showPaused p).drainMedia p

/-- A pause time for a class: 0 releases it, another replaces what remains. -/
def pauseClass (p quanta cls : Nat) (s : State) : State :=
  if quanta = 0 then s.endHold p cls
  else
    let t := divFree 369 (quanta * 512 * 1000) (s.ethRate p)
    let since := match Assoc.find (s.ethPort p).holds cls with | some h => h.since | none => s.now
    (s.updEth p fun x => { x with holds := Assoc.put x.holds cls { since := since, until_ := s.now + t.toNat } }).showPaused p

/-- A received PAUSE or PFC frame (R369), tagged or not: 0x0001 and 0x0101 are the opcodes of Annex 31B and of IEEE 802.1Qbb. -/
def pauseRx (p : Nat) (l : List Byte) (s : State) : State :=
  let s := s.ethCount p 8 1
  let o := etherAt l + 2
  if s.flag (Reg.ETH.STAT_WDHOLD p) then s
  else
    match s.use (Reg.ETH.CFG_OBEY p), field l o 2 with
    | 1, 0x0001 => s.pauseClass p (field l (o + 2) 2) 8
    | 2, 0x0101 =>
        s.each (List.range 8) fun c t => if bit (field l (o + 2) 2) c then t.pauseClass p (field l (o + 4 + 2 * c) 2) c else t
    | _, _ => s

/-- The time of a pause frame has run out (R369). -/
def pauseOver (p cls : Nat) (s : State) : State :=
  match Assoc.find (s.ethPort p).holds cls with
  | some h => if h.until_ ≤ s.now then s.endHold p cls else s
  | none => s

/-- A hold reaches the watchdog's limit (R371): the port ends it, and ignores PAUSE and PFC for 1 s. -/
def pauseWatchdog (p cls : Nat) (s : State) : State :=
  let wd := s.use (Reg.ETH.PAUSEWD p)
  match Assoc.find (s.ethPort p).holds cls with
  | some h =>
      if wd = 0 ∨ s.now < h.since + 1000 * wd then s
      else (((s.set (Reg.ETH.STAT_WDHOLD p) 1).updEth p fun x => { x with wdAt := s.now }).ethCause p 6).endHold p cls
  | none => s

/-- The second after the watchdog is over (R371). -/
def watchdogOver (p : Nat) (s : State) : State :=
  if p < 66 ∧ (s.ethPort p).wdAt + 1000000000 ≤ s.now then s.set (Reg.ETH.STAT_WDHOLD p) 0 else s

/-! ### Rings (R372–R376) -/

/-- A word of management SRAM, by its offset. -/
def sram32 (s : State) (a : Nat) : Nat := Memory.read32 s.mgt.sram a
/-- Bytes are written to it, word by word through its ECC (R174, R175). -/
def sramPut (a : Nat) (bytes : List Byte) (s : State) : State :=
  let s := s.updMgt fun m => { m with sram := Memory.writeN m.sram a bytes }
  s.when (bytes != []) fun t => t.each (List.range ((a % 4 + bytes.length + 3) / 4)) fun k u => u.chkinvStruckAt 10 (a / 4 + k)
def sramPut32 (a v : Nat) (s : State) : State := s.sramPut a (leBytes 4 v)

/-- The offset of a ring's descriptor, base and count given. -/
def descAt (base count k : Nat) : Nat := base * 16 + 16 * (k % max 1 count)

/-- OWN of the descriptor at an offset. -/
def descOwn (a : Nat) (s : State) : Bool := bit (s.sram32 (a + 4)) 31

/-- Receive ring r of a port: base and count. -/
def rxBase (p r : Nat) (s : State) : Nat × Nat := (s.use (Reg.ETH.RXRING_BASE p r), s.use (Reg.ETH.RXRING_SIZE_COUNT p r))

/-- The buffers a frame fills from HEAD, by fuel: the bytes each takes, and what finds no descriptor. -/
def ringFill (base count bufsz : Nat) (s : State) : Nat → Nat → List Byte → List (Nat × List Byte) × List Byte
  | 0, _, l => ([], l)
  | n + 1, k, l =>
      if l = [] then ([], [])
      else if s.descOwn (descAt base count k) then
        let r := ringFill base count bufsz s n (k + 1) (l.drop bufsz)
        ((k, l.take bufsz) :: r.1, r.2)
      else ([], l)

/-- A frame is written into the buffers of a receive ring (R373, R374): the FIRST descriptor is given back last. -/
def ringWrite (p r : Nat) (l : List Byte) (stamp : Option Nat) (mcast : Bool) (s : State) : State :=
  let bc := s.rxBase p r
  let head := s.get (Reg.ETH.RXRING_HEAD p r)
  let f := s.ringFill bc.1 bc.2 (s.use (Reg.ETH.RXRING_SIZE_BUFSZ p r)) (min bc.2 1024) head l
  if f.1 = [] then s.ethCount p 10 1
  else
    let trunc := !f.2.isEmpty
    let n := f.1.length
    let s := s.each (f.1.zipIdx.reverse) fun q t =>
      let a := descAt bc.1 bc.2 q.1.1
      let last := q.2 + 1 == n
      let first := q.2 == 0
      let t := t.sramPut (t.sram32 a) q.1.2
      let t := t.when (first && stamp.isSome) fun u => (u.sramPut32 (a + 8) (stamp.getD 0)).sramPut32 (a + 12) (stamp.getD 0 / 2 ^ 32)
      t.sramPut32 (a + 4) (b2n first * 2 ^ 30 + b2n last * 2 ^ 29 + b2n (last && trunc) * 2 ^ 28 +
        b2n (first && stamp.isSome) * 2 ^ 27 + b2n mcast * 2 ^ 26 + q.1.2.length)
    let s := s.set (Reg.ETH.RXRING_HEAD p r) ((head + n) % max 1 bc.2)
    s.when trunc fun t => (t.ethCount p 10 1).ethCause p 3

/-- A frame goes to a receive ring, from destination address to the last payload byte, unless the FIFO is full (R375). -/
def ethToRing (p r : Nat) (l : List Byte) (fifoFull : Bool) (s : State) : State :=
  if fifoFull then (s.ethCount p 7 1).ethCause p 4
  else s.ringWrite p r (l.take (l.length - 4)) (if isCtl p then none else some (s.rxStamp p))
    (bit (field l 0 1) 0)

/-- The descriptors of the transmit frame at HEAD, FIRST to LAST, when all are owned by the MAC, by fuel. -/
def txDescs (base count : Nat) (s : State) : Nat → Nat → Option (List Nat)
  | 0, _ => none
  | n + 1, k =>
      let a := descAt base count k
      if s.descOwn a then
        if bit (s.sram32 (a + 4)) 29 then some [a] else (txDescs base count s n (k + 1)).map fun l => a :: l
      else none

/-- The next frame of a transmit scan leaves, or is discarded (R361, R363, R376); it starts only when the media queue is
empty and its class is not held, and on an E-port once the fabric is enabled (R20). -/
def ringSent (p : Nat) (s : State) : State :=
  let x := s.ethPort p
  if !x.scanning then s
  else
    let base := s.use (Reg.ETH.TXRING_BASE p)
    let count := s.use (Reg.ETH.TXRING_SIZE p)
    let head := s.get (Reg.ETH.TXRING_HEAD p)
    match s.txDescs base count (min count 1024) head with
    | none => s.updEth p fun x => { x with scanning := false }
    | some ds =>
        let raw := (ds.map fun a => Memory.readN s.mgt.sram (s.sram32 a) (bits (s.sram32 (a + 4)) 13 0)).flatten
        let first := ds.headD 0
        let w := s.sram32 (first + 4)
        let raw := if bit w 27 then insertChecksums raw else raw
        let frame := withFcs raw
        let drop := !s.ethUp p || decide (s.maxFrm p < frame.length)
        let cls := match vlanOf frame with | some v => v.1 | none => 0
        let idle := !isCtl p && !s.flag Reg.FAB.STAT_RUN
        if !drop ∧ (x.queue ≠ [] ∨ s.held p cls ∨ idle) then s
        else
          let s := if drop then s.ethCount p 9 1 else s.ethOut p frame
          let s := s.each ds fun a t =>
            t.sramPut32 (a + 4) (setBits (setBits (t.sram32 (a + 4)) 31 31 0) 26 26 (b2n drop))
          let s := s.set (Reg.ETH.TXRING_HEAD p) ((head + ds.length) % max 1 count)
          s.when (!drop && !isCtl p && bit w 28) (txqPush p (bits (s.sram32 (first + 8)) 15 0) (s.txStamp p))

/-- A write of TXKICK takes effect (R376). -/
def txKickLand (p : Nat) (data : Word) (s : State) : State :=
  s.when (data.toNat % 2 == 1 && s.flag (Reg.ETH.STAT_RUN p)) (updEth p fun x => { x with scanning := true })

/-! ### Link states (R361) -/

/-- A ring configuration inside the limits of R372. -/
def ringsOk (p : Nat) (s : State) : Bool :=
  let ok := fun (base count : Nat) => decide (2 ≤ count) && decide (count ≤ 1024) && decide (base * 16 + 16 * count ≤ 0x400000)
  let rx := fun r =>
    let sz := s.use (Reg.ETH.RXRING_SIZE_BUFSZ p r)
    let bc := s.rxBase p r
    ok bc.1 bc.2 && sz % 64 == 0 && decide (256 ≤ sz) && decide (sz ≤ 8192)
  (isCtl p || rx 0) && rx 1 && ok (s.use (Reg.ETH.TXRING_BASE p)) (s.use (Reg.ETH.TXRING_SIZE p))


/-- What a port transmits in a state other than UP (R361): idle in RFAULT, remote fault ordered sets in DOWN and LFAULT. -/
def ethIdle (p : Nat) (s : State) : State :=
  s.when (!s.ethUp p && (s.ethLanes p).all fun n => s.txPath n == 0) (emit (.ordered p (s.get (Reg.ETH.STAT_LINK p) != 2)))

/-- The port goes to a state that is not UP; media waiting is discarded. -/
def ethLeave (p st : Nat) (s : State) : State :=
  let up := s.ethUp p
  let n := (s.ethPort p).queue.length
  let s := ((s.set (Reg.ETH.STAT_LINK p) st).updEth p fun x => { x with queue := [] }).ethIdle p
  s.when up fun t => (t.when (n != 0) (ethCount p 9 n)).ethCause p 2

/-- A port starts, unless its rings refuse it (R372). -/
def ethStart (p : Nat) (s : State) : State :=
  if s.ringsOk p then s.ethIdle p else (s.set (Reg.ETH.STAT_RUN p) 0).ethCause p 0

/-- Every lane of the port's group is UP and delivers its data (R337, R350). -/
def ethLanesUp (p : Nat) (s : State) : Bool := (s.ethLanes p).all fun n => s.rxUp n

/-- The PCS locks. -/
def pcsLock (p : Nat) (s : State) : State :=
  if s.flag (Reg.ETH.STAT_RUN p) ∧ s.ethLanesUp p ∧ !(s.ethPort p).locked then
    ((s.updEth p fun x => { x with locked := true, cleanAt := s.now }).set (Reg.ETH.STAT_LINK p) (s.ethPort p).fault).ethIdle p
  else s

/-- Fault ordered sets start or stop arriving. -/
def faultSequence (p kind : Nat) (s : State) : State :=
  let k := min kind 2
  let s := s.updEth p fun x => { x with fault := k, cleanAt := s.now }
  if (s.ethPort p).locked ∧ k ≠ 0 then s.ethLeave p k else s

/-- 128 µs have passed with the PCS locked and no fault sequence. -/
def ethLinkUp (p : Nat) (s : State) : State :=
  let x := s.ethPort p
  if s.flag (Reg.ETH.STAT_RUN p) ∧ x.locked ∧ x.fault = 0 ∧ !s.ethUp p ∧ x.cleanAt + 128000 ≤ s.now then
    (s.set (Reg.ETH.STAT_LINK p) 3).ethCause p 1
  else s

/-- The port's EN is cleared: it goes to DOWN, its holds and scan end. -/
def ethStop (p : Nat) (s : State) : State :=
  ((s.ethLeave p 0).updEth p fun x => { x with locked := false, fault := 0, holds := [], scanning := false }).showPaused p

/-- An SGMII control word reports another speed or half duplex (R379). -/
def sgmiiSpeed (p : Nat) (s : State) : State :=
  if isCtl p ∧ p < 66 ∧ s.use (Reg.ETH.CFG_PTYPE p) = 4 ∧ s.flag (Reg.ETH.STAT_RUN p) then
    ((s.ethLeave p 0).updEth p fun x => { x with locked := false }).ethCause p 9
  else s

/-- The address a port accepts as its own. -/
def ownMac (p : Nat) (s : State) : Nat := s.use (Reg.ETH.MACHI p) * 2 ^ 32 + s.use (Reg.ETH.MACLO p)

/-- A firmware entry of the port holds an address (R364). -/
def inMcfw (p mac : Nat) (s : State) : Bool :=
  (List.range 8).any fun k => s.flag (Reg.ETH.MCFW_HI_VALID p k) &&
    s.get (Reg.ETH.MCFW_HI_ADDR p k) * 2 ^ 32 + s.getLow (Reg.ETH.MCFW_LO p k) == mac

/-- The hash bin of an address is set. -/
def inHash (p mac : Nat) (s : State) : Bool :=
  !isCtl p && bit (s.get (Reg.ETH.MCHASH p (hashBin mac / 32))) (hashBin mac % 32)

/-- The port accepts a destination address (R364). -/
def destOk (p mac : Nat) (s : State) : Bool :=
  mac == s.ownMac p || mac == 0xFFFFFFFFFFFF || s.inMcfw p mac || (bit (mac / 2 ^ 40) 0 && s.inHash p mac)

end State

/-- PAUSE_EXPIRE (R369). -/
def execPauseExpire (p cls : Nat) (s : State) : Host.Outcome State Fault Refusal := .next (s.pauseOver p cls)

/-- PAUSE_WD (R371). -/
def execPauseWd (p cls : Nat) (s : State) : Host.Outcome State Fault Refusal := .next (s.pauseWatchdog p cls)

/-- PAUSE_WD_RELEASE (R371). -/
def execPauseWdRelease (p : Nat) (s : State) : Host.Outcome State Fault Refusal :=
  .next (s.watchdogOver p)

/-- RING_FRAME_SENT (R376). -/
def execRingFrameSent (p : Nat) (s : State) : Host.Outcome State Fault Refusal := .next (s.ringSent p)

/-- LINK_UP (R361). -/
def execLinkUp (p : Nat) (s : State) : Host.Outcome State Fault Refusal := .next (if p < 66 then s.ethLinkUp p else s)

/-- STATS_SNAP_PERIOD (R378). -/
def execStatsSnapPeriod (s : State) : Host.Outcome State Fault Refusal := .next (s.each (List.range 66) State.statTotal)

/-- PCS_LOCK (R361). -/
def execPcsLock (p : Nat) (s : State) : Host.Outcome State Fault Refusal := .next (if p < 66 then s.pcsLock p else s)

end Sys2Proof.Machine
end

