-- ==== Sys2Proof/Machine/Ipm.lean ====
section
/-! DEFINITION. Chapter 8: IP media flows. Descriptors and their judgement, receive classification, RTP handling, the
repair buffer and the release of frames, audio and ANC flows, the packetiser, and IGMP. The layouts of RTP payloads
are those of the standards that chapter 8 names. -/

namespace Sys2Proof.Machine

/-! ### Descriptors (R214, chapter 8's register map) -/

def dType (d : List Nat) : Nat := bits (d.getD 0 0) 31 29
def dPacing (d : List Nat) : Nat := bits (d.getD 0 0) 28 27
/-- TOKEXT of a send flow, TOKCHK of a receive flow. -/
def dTok (d : List Nat) : Bool := bit (d.getD 0 0) 25
def dFollow (d : List Nat) : Bool := bit (d.getD 0 0) 24
def dPt (d : List Nat) : Nat := bits (d.getD 0 0) 23 17
/-- Declared rate in kb/s. -/
def dRate (d : List Nat) : Nat := d.getD 1 0
def dVoices (d : List Nat) : Nat := bits (d.getD 4 0) 31 24
/-- Sample rate of an audio flow in Hz. -/
def dHz (d : List Nat) : Nat := if bit (d.getD 4 0) 22 then 96000 else 48000
def dL16 (d : List Nat) : Bool := bit (d.getD 4 0) 21
/-- Samples in an audio packet (R238). -/
def dSpp (d : List Nat) : Nat := if bit (d.getD 4 0) 23 then dHz d / 8000 else dHz d / 1000
/-- Bytes of a sample on the wire: L16, L24, or the subframe of ST 2110-31. -/
def dSampleBytes (d : List Nat) : Nat := if dType d = 2 then 4 else if dL16 d then 2 else 3

def legTagged (d : List Nat) (leg : Nat) : Bool := bit (legWord d leg 0) 18
def legVlan (d : List Nat) (leg : Nat) : Nat := bits (legWord d leg 0) 17 6
def legDscp (d : List Nat) (leg : Nat) : Nat := bits (legWord d leg 0) 24 19
def legDst (d : List Nat) (leg : Nat) : Nat := legWord d leg 1
def legSrc (d : List Nat) (leg : Nat) : Nat := legWord d leg 2
def legDstPort (d : List Nat) (leg : Nat) : Nat := bits (legWord d leg 3) 15 0
def legSrcPort (d : List Nat) (leg : Nat) : Nat := bits (legWord d leg 3) 31 16

/-- The second leg is given. -/
def secondGiven (d : List Nat) : Bool := (List.range 4).any fun k => legWord d 1 k != 0

/-- What a receive leg matches (R217): VLAN, destination, source and UDP port. -/
def legMatch (d : List Nat) (leg : Nat) : List Nat :=
  [b2n (legTagged d leg), if legTagged d leg then legVlan d leg else 0, legDst d leg, legSrc d leg, legDstPort d leg]

/-! ### Raster times (R225) -/

/-- Lines of the interface structure, the first active line of each field, and samples of a line, as an SDI link of the
format carries them (SMPTE ST 274, ST 296 and ST 2082-10). -/
def totalSamples (w : Nat) : Nat :=
  if fmtLines w = 750 then (if fmtFps w = 50 then 1980 else 1650)
  else match fmtFps w with | 24 => 2750 | 25 => 2640 | 50 => 2640 | _ => 2200
def rowLine (w row : Nat) : Nat :=
  match fmtStruct w with
  | 3 => 26 + row
  | 4 => 42 + row / 2
  | 5 => 42 + row / 2
  | 0 => if row % 2 = 0 then 21 + row / 2 else 584 + row / 2
  | 2 => if row % 2 = 0 then 21 + row / 2 else 584 + row / 2
  | _ => 42 + row

/-- The raster time of pixel x of a row from line 1, in thirds of a nanosecond. -/
def rasterTime3 (w row x : Nat) : Nat :=
  let active := if fmtStruct w = 3 then 1280 else if fmtStruct w = 5 then 2048 else 1920
  let n := totalSamples w
  fmtPeriod3 w * ((rowLine w row - 1) * n + (n - active) + x * active / max 1 (fmtWidth w)) / (fmtLines w * n)

/-! ### RTP (R220) and payloads -/

/-- An RTP packet: marker, payload type, sequence, timestamp, SSRC, the token extension (R243), and the payload. -/
structure Rtp where
  marker : Bool
  pt : Nat
  seq : Nat
  ts : Nat
  ssrc : Nat
  token : Option (Nat × Nat)
  payload : List Byte
  deriving DecidableEq, Repr

/-- Read an RTP packet of version 2; CSRCs, padding and extensions are skipped. -/
def rtpOf (l : List Byte) : Option Rtp :=
  let b0 := field l 0 1
  if 12 ≤ l.length ∧ b0 / 64 = 2 then
    let h := 12 + 4 * (b0 % 16)
    let ext := bit b0 4
    let words := if ext then field l (h + 2) 2 else 0
    let tok := if ext ∧ field l h 2 = 0x4A5A ∧ words = 3 then some (field l (h + 4) 8, field l (h + 12) 4 % 4) else none
    let start := if ext then h + 4 + 4 * words else h
    let pad := if bit b0 5 then field l (l.length - 1) 1 else 0
    some { marker := bit (field l 1 1) 7, pt := field l 1 1 % 128, seq := field l 2 2, ts := field l 4 4,
           ssrc := field l 8 4, token := tok, payload := (l.take (l.length - pad)).drop start }
  else none

/-- n bits, at most 25, from a bit position of bytes, highest first. -/
def bitsAt (l : List Byte) (off n : Nat) : Nat := field l (off / 8) 4 / 2 ^ (32 - off % 8 - n) % 2 ^ n

/-- Bytes and pixels of a packing group of ST 2110-20. -/
def pgroup (w : Nat) : Nat × Nat :=
  if fmtSamp w = 0 then (if fmtDepth w = 0 then (5, 2) else (6, 2))
  else if fmtDepth w = 0 then (15, 4) else (9, 2)

/-- Samples of a pixel in a picture. -/
def perPixel (w : Nat) : Nat := if fmtSamp w = 0 then 2 else 3

/-- The sample row data headers of a video payload, by fuel: length, field, line, continuation, offset. -/
def srdHeaders (l : List Byte) : Nat → Nat → List (List Nat)
  | 0, _ => []
  | n + 1, at_ =>
      let a := field l (at_ + 2) 2
      let b := field l (at_ + 4) 2
      let h := [field l at_ 2, a / 32768, a % 32768, b % 32768]
      if b / 32768 = 1 then h :: srdHeaders l n (at_ + 6) else [h]

/-- The runs of samples of a video payload after its extended sequence number, and whether they agree with the declared
format (R226). -/
def videoSegs (w : Nat) (l : List Byte) : List VidSeg × Bool :=
  let hs := srdHeaders l 3 0
  let step := fun (acc : (List VidSeg × Bool) × Nat) (h : List Nat) =>
    let len := h.getD 0 0
    let line := h.getD 2 0
    let x := h.getD 3 0
    let pg := pgroup w
    let px := len / pg.1 * pg.2
    let row := if fmtSeg w then 2 * line + h.getD 1 0 else line
    let ok := decide (row < fmtHeight w) && decide (x + px ≤ fmtWidth w) && len % pg.1 == 0 && x % pg.2 == 0 &&
      (fmtSeg w || h.getD 1 0 == 0) && decide (acc.2 + len ≤ l.length)
    let smp := (List.range (px * perPixel w)).map fun k => bitsAt l (8 * acc.2 + k * fmtBits w) (fmtBits w)
    ((acc.1.1 ++ [⟨row, x, smp⟩], acc.1.2 && ok), acc.2 + len)
  (hs.foldl step (([], true), 6 * hs.length)).1

/-- The checksum word of an ANC packet's words. -/
def ancSum (ws : List Nat) : Nat :=
  let c := (ws.foldl (fun a w => a + w % 512) 0) % 512
  c + (if c / 256 = 0 then 512 else 0)

/-- The ANC packets of an ST 2110-40 payload (RFC 8331), by count, from a bit position. -/
def ancOf (l : List Byte) : Nat → Nat → List AncPkt
  | 0, _ => []
  | n + 1, off =>
      let dc := bitsAt l (off + 52) 10 % 256
      let ws := (List.range (3 + dc)).map fun k => bitsAt l (off + 32 + 10 * k) 10
      let cs := bitsAt l (off + 62 + 10 * dc) 10
      let len := (72 + 10 * dc + 31) / 32 * 32
      { line := bitsAt l (off + 1) 11, stream := if bitsAt l (off + 24) 1 = 1 then bitsAt l (off + 25) 7 else 0,
        did := ws.getD 0 0 % 256, sdid := ws.getD 1 0 % 256, udw := ws.drop 3, csOk := cs == ancSum ws, vanc := false } ::
        ancOf l n (off + len)

/-- A number of bits as bytes, highest first, padded with zeros to whole units of u bits. -/
def packBits (u : Nat) (ws : List (Nat × Nat)) : List Byte :=
  let n := sumList (ws.map (·.2))
  let v := ws.foldl (fun a w => a * 2 ^ w.2 + w.1 % 2 ^ w.2) 0
  let t := (n + u - 1) / u * u
  beBytes (t / 8) (v * 2 ^ (t - n))

/-- The payload of one ANC packet (none: no packet) of a frame. -/
def ancPayload (seq : Nat) (p : Option AncPkt) : List Byte :=
  let body := match p with
    | none => []
    | some q =>
        let ws := [State.parityWord q.did, State.parityWord q.sdid, State.parityWord q.udw.length] ++ q.udw
        packBits 32 ([(0, 1), (q.line, 11), (0xFFF, 12), (b2n (q.stream != 0), 1), (q.stream, 7)] ++
          (ws ++ [ancSum ws]).map fun w => (w, 10))
  beBytes 2 (seq / 65536) ++ beBytes 2 body.length ++ beBytes 1 (b2n p.isSome) ++ beBytes 3 0 ++ body

/-- A sample of an audio payload (R238): L24 and L16 as the audio word alone; the subframe of ST 2110-31 with V, U, C and
the block start. -/
def audioSample (d : List Nat) (l : List Byte) (at_ : Nat) : Sample :=
  if dType d = 2 then
    let v := field l at_ 4
    { word := toSigned 24 v, vuc := b2n (bit v 24) + 2 * b2n (bit v 25) + 4 * b2n (bit v 26) + 8 * b2n (bit v 29) }
  else if dL16 d then { word := toSigned 16 (field l at_ 2) * 256, vuc := 0 }
  else { word := toSigned 24 (field l at_ 3), vuc := 0 }

/-- Bit k of the channel status that the engine generates (R247): professional use and the sampling frequency 48 kHz in byte 0, 24 bits
in byte 2, 96 kHz in byte 4, and the CRC in byte 23; the places are those of AES3. -/
def statusBit (hz k : Nat) : Bool :=
  let on := if hz = 48000 then [0, 7, 18, 19, 21] else [0, 18, 19, 21, 36]
  if k < 184 then on.contains k
  else
    let crc := (List.range 184).foldl (fun c i =>
      let x := bit c 7 != on.contains i
      let c := c * 2 % 256
      if x then Nat.xor c 0x1D else c) 255
    bit crc (191 - k)

/-- The V, U, C bits and the marker of a send voice whose samples carry no marker, at a sample number (R247). -/
def statusVuc (hz k : Nat) : Nat := 4 * b2n (statusBit hz (k % 192)) + 8 * b2n (k % 192 == 0)

/-- A sample of a voice, the first of its AES3 pair or the second, as a send flow writes it. -/
def sampleBytes (d : List Nat) (first : Bool) (x : Sample) : List Byte :=
  let v := ofSigned 24 x.word
  if dType d = 2 then
    let w := v + b2n (bit x.vuc 0) * 2 ^ 24 + b2n (bit x.vuc 1) * 2 ^ 25 + b2n (bit x.vuc 2) * 2 ^ 26 +
      b2n first * 2 ^ 28 + b2n (bit x.vuc 3) * 2 ^ 29
    let par := ((List.range 27).foldl (fun c k => c + b2n (bit w k)) 0) % 2
    beBytes 4 (w + par * 2 ^ 27)
  else beBytes 3 v

namespace State

/-- Change the IP media engine. -/
def updIpm (f : IpmState → IpmState) (s : State) : State := { s with ipm := f s.ipm }
def updRxf (n : Nat) (f : RxFlow → RxFlow) (s : State) : State :=
  s.updIpm fun x => { x with rx := Assoc.modify x.rx n f }
def updTxf (n : Nat) (f : TxFlow → TxFlow) (s : State) : State :=
  s.updIpm fun x => { x with tx := Assoc.modify x.tx n f }

/-- An event of a flow, and one that is raised no more than once per second for each flow. -/
def flowEvent (n ev : Nat) (s : State) : State := s.ipmEvent ev [s.get (Reg.IPM.RXF_HANDLE n)]
def flowLimited (n ev : Nat) (s : State) : State :=
  let key := 0x74000000 + 16 * n + ev
  if s.rateOk key then ({ s with lastRaise := Assoc.put s.lastRaise key s.now }).flowEvent n ev else s

/-- The declared format and the plane of a flow's channel, and its ingress entry. -/
def flowFmt (x : RxFlow) (s : State) : Nat := s.chanFmt x.chan
def flowEntry (x : RxFlow) (s : State) : Nat := (s.chanIng x.chan).getD 0

/-! ### Horizons (R230) and the timestamps' own time (R223) -/

/-- A flow's horizon in µs: 0 takes the plane's, for video flows only. -/
def horizonOf (d : List Nat) (plane : Nat) (s : State) : Nat :=
  let h := bits (d.getD 2 0) 15 0
  if h = 0 ∧ (dType d = 0 ∨ dType d = 4) then s.get (Reg.IPM.PLANEHOR plane) else h

/-- A clock's 32-bit reading that is nearest to now, as a count since the epoch. -/
def unwrapTs (hz ts : Nat) (s : State) : Int :=
  let nowT : Int := (s.timeNs : Int) * hz / 1000000000
  nowT + wrapHalf (2 ^ 32) ((ts : Int) - nowT)

/-- The media clock of a flow's timestamps. -/
def flowHz (d : List Nat) : Nat :=
  match dType d with | 1 => dHz d | 2 => dHz d | 4 => 27000000 | _ => 90000

/-- The alignment point of a video timestamp in thirds of a nanosecond, and whether it lies on the epoch. -/
def alignPoint3 (hz period3 ts : Nat) (s : State) : Int × Bool :=
  let n := s.unwrapTs hz ts
  let k := -((-(n * 3000000000)) / ((hz * period3 : Nat) : Int))
  if k * ((hz * period3 : Nat) : Int) / 3000000000 = n then (k * period3, true)
  else (divFree 223 (n * 3000000000) hz, false)

/-! ### Packet memory (R31, R231, R233) -/

/-- IPM.PMEM and IPM.PMEMOCC, PMEMPEAK: the charge, and what the repair buffers of video flows hold now. -/
def showPmem (s : State) : State :=
  s.set Reg.IPM.PMEM (divFree 231 (sumList (s.chn.chans.map fun p => p.2.pmem)) 8000).toNat
def showOcc (s : State) : State :=
  let occ := sumList ((s.ipm.rx.filter fun p => dType p.2.desc == 0 || dType p.2.desc == 4).map fun p =>
    sumList ((p.2.pkts.filter fun q => q.inTime && decide (s.timeNs < q.until_)).map fun q => q.bytes))
  (s.set Reg.IPM.PMEMOCC occ).set Reg.IPM.PMEMPEAK (max occ (s.get Reg.IPM.PMEMPEAK))

/-! ### Groups (R218, R219, R364) -/

/-- Legs of receive flows on a port for a group, as flow and leg. -/
def groupLegs (p group : Nat) (s : State) : List (Nat × Nat) :=
  (s.ipm.rx.map fun x => ((dLegs x.2.desc).filter fun g => legPort x.2.desc g == p && legDst x.2.desc g == group).map
    fun g => (x.1, g)).flatten

/-- The hash bin of a group shows whether some leg on the port needs it (R218, R364). -/
def showBin (p ip : Nat) (s : State) : State :=
  let b := hashBin (groupMac ip)
  let on := s.ipm.rx.any fun x => (dLegs x.2.desc).any fun g =>
    legPort x.2.desc g == p && isGroup (legDst x.2.desc g) && hashBin (groupMac (legDst x.2.desc g)) == b
  let r := Reg.ETH.MCHASH p (b / 32)
  let v := s.get r
  s.set r (if bit v (b % 32) then (if on then v else v - 2 ^ (b % 32)) else if on then v + 2 ^ (b % 32) else v)

def igmpKey (p group : Nat) : Nat := p * 2 ^ 32 + group

/-- A port is in IGMPv2 compatibility. -/
def igmpV2 (p : Nat) (s : State) : Bool := (Assoc.find s.ipm.compat p).isSome

/-- The firmware sends a report for a group, or a leave; its port sends idle until the fabric is enabled (R20). -/
def igmpReport (p group src : Nat) (s : State) : State :=
  s.when s.fabricOn (emit (.igmp p (if s.igmpV2 p then 3 else if src = 0 then 1 else 0) group (if s.igmpV2 p then 0 else src)))
def igmpLeave (p group : Nat) (s : State) : State := s.when s.fabricOn (emit (.igmp p (if s.igmpV2 p then 4 else 2) group 0))

/-- The fabric is enabled: the reports that the ports could not send before leave now (R20, R219). -/
def igmpStart (s : State) : State :=
  s.each (s.ipm.igmp.filter fun g => !g.2.leaving) fun g t => t.igmpReport (g.1 / 2 ^ 32) (g.1 % 2 ^ 32) g.2.src

/-- The first leg for a group on a port: a report now, and again after 1 s. -/
def igmpJoin (p group src : Nat) (s : State) : State :=
  if isGroup group then
    (s.igmpReport p group src).updIpm fun x =>
      { x with igmp := Assoc.put x.igmp (igmpKey p group) { src := src, again := true, leaving := false } }
  else s

/-- The last leg is gone: a leave now, and again after 1 s. -/
def igmpGone (p group : Nat) (s : State) : State :=
  if isGroup group then
    (s.igmpLeave p group).updIpm fun x =>
      { x with igmp := Assoc.put x.igmp (igmpKey p group) { src := 0, again := true, leaving := true } }
  else s

/-- The second report or leave. -/
def igmpAgain (p group : Nat) (s : State) : State :=
  match Assoc.find s.ipm.igmp (igmpKey p group) with
  | none => s
  | some g =>
      if !g.again then s
      else if g.leaving then (s.igmpLeave p group).updIpm fun x => { x with igmp := Assoc.del x.igmp (igmpKey p group) }
      else (s.igmpReport p group g.src).updIpm fun x =>
        { x with igmp := Assoc.put x.igmp (igmpKey p group) { g with again := false } }

/-- A query is heard: an IGMPv2 query enters compatibility for the older-querier timeout of RFC 3376 (two query intervals
of 125 s and the query's response time); the groups it asks for are reported. -/
def igmpQuery (p version group maxResp : Nat) (s : State) : State :=
  let s :=
    if version = 2 then
      let was := s.igmpV2 p
      (s.updIpm fun x => { x with compat := Assoc.put x.compat p (s.now + 250000000000 + maxResp) }).when (!was)
        (ipmEvent 12 [p])
    else s
  s.each (s.ipm.igmp.filter fun g => g.1 / 2 ^ 32 == p && !g.2.leaving && (group == 0 || g.1 % 2 ^ 32 == group)) fun g t =>
    t.igmpReport p (g.1 % 2 ^ 32) g.2.src

/-- No packet on a leg 2 s after its report (R219): the event once, then the reports repeated. -/
def joinTimeout (n leg : Nat) (s : State) : State :=
  match Assoc.find s.ipm.rx n with
  | none => s
  | some x =>
      let d := x.desc
      if x.got.contains leg ∨ !(dLegs d).contains leg ∨ !isGroup (legDst d leg) then s
      else if x.joinLate.contains leg then s.igmpReport (legPort d leg) (legDst d leg) (legSrc d leg)
      else (s.updRxf n fun y => { y with joinLate := leg :: y.joinLate }).flowEvent n 13

/-! ### Legs and flows going up and down (R227) -/

def legReg (n leg : Nat) : FRef := if leg = 0 then Reg.IPM.RXF_LEGA n else Reg.IPM.RXF_LEGB n

/-- A leg receives a packet that belongs to it (R217, R219), and it accepts one (R220, R227). -/
def legReceives (n leg : Nat) (s : State) : State :=
  s.updRxf n fun x => { x with got := if x.got.contains leg then x.got else leg :: x.got }
def legAccepts (n leg : Nat) (s : State) : State :=
  let s := s.when (s.get (legReg n leg) == 1) (set (legReg n leg) 2)
  let up := match Assoc.find s.ipm.rx n with | some x => x.up | none => true
  let s := s.updRxf n fun x => { x with up := true }
  s.when (!up) (flowEvent n 0)

/-- A leg goes DOWN; with every leg DOWN the flow does. -/
def legDown (n leg : Nat) (s : State) : State :=
  match Assoc.find s.ipm.rx n with
  | none => s
  | some x =>
      if s.get (legReg n leg) ≤ 1 then s
      else
        let s := (s.set (legReg n leg) 1).flowEvent n 1
        if (dLegs x.desc).all fun g => s.get (legReg n g) == 1 then
          let s := (s.updRxf n fun y => { y with up := false, known := false, otherSince := none }).flowEvent n 2
          s.when (dType x.desc == 0 || dType x.desc == 4) (toNosig (s.flowEntry x))
        else s

/-- The receive legs on a port that left UP go DOWN (R361). -/
def portLegsDown (p : Nat) (s : State) : State :=
  s.each s.ipm.rx fun x t => t.each ((dLegs x.2.desc).filter fun g => legPort x.2.desc g == p) fun g u => u.legDown x.1 g

/-! ### Packets (R217–R221, R225, R232) -/

/-- The receive legs a packet belongs to, as flow and leg. -/
def classify (p : Nat) (frame : List Byte) (s : State) : List (Nat × Nat) :=
  match ipv4Of frame with
  | none => []
  | some ip =>
      let u := ipBody ip
      if ipIsUdp ip && ipHdr ip == 20 && !ipFragment ip && field ip 0 1 / 16 == 4 then
        (s.ipm.rx.map fun x =>
          ((dLegs x.2.desc).filter fun g =>
            let d := x.2.desc
            legPort d g == p &&
              (match vlanOf frame with
               | some v => legTagged d g && v.2 == legVlan d g
               | none => !legTagged d g) &&
              field ip 16 4 == legDst d g && field u 2 2 == legDstPort d g &&
              (legSrc d g == 0 || field ip 12 4 == legSrc d g)).map fun g => (x.1, g)).flatten
      else []

/-- The SSRC of a packet is the learned one (R220); the answer says whether the packet passes. -/
def ssrcCheck (n ssrc : Nat) (s : State) : Bool × State :=
  match Assoc.find s.ipm.rx n with
  | none => (false, s)
  | some x =>
      let again := x.again || s.get (Reg.IPM.RXF_SSRC n) != ssrc
      let learn := fun (t : State) =>
        (t.set (Reg.IPM.RXF_SSRC n) ssrc).updRxf n fun y => { y with known := true, otherSince := none, again := again }
      if !x.known then (true, learn s)
      else if s.get (Reg.IPM.RXF_SSRC n) = ssrc then (true, s.updRxf n fun y => { y with otherSince := none })
      else
        match x.otherSince with
        | none => (false, s.updRxf n fun y => { y with otherSince := some s.now })
        | some t =>
            if t + 100000000 ≤ s.now then
              (true, (learn s).flowEvent n 6)
            else (false, s)

/-- The depth of a flow's token buckets in bytes: its charge, or 64 KiB for ANC (R232). -/
def bucketDepth (n : Nat) (d : List Nat) (s : State) : Nat :=
  if dType d = 3 then 65536 else (divFree 232 (dRate d * s.get (Reg.IPM.RXF_HORIZON n)) 8000).toNat

/-- The policer of a leg: the answer says whether the packet passes (R232). -/
def police (n leg bytes : Nat) (s : State) : Bool × State :=
  match Assoc.find s.ipm.rx n with
  | none => (false, s)
  | some x =>
      let depth := s.bucketDepth n x.desc * 2048000000
      let b := Assoc.findD x.buckets leg { level := depth, at_ := s.now }
      let level := min depth (b.level + (s.now - b.at_) * (dRate x.desc * (256 + s.use Reg.IPM.POLCFG)))
      let cost := bytes * 2048000000
      let put := fun (v : Nat) (t : State) =>
        t.updRxf n fun y => { y with buckets := Assoc.put y.buckets leg { level := v, at_ := s.now } }
      if cost ≤ level then (true, put (level - cost) s)
      else (false, ((put level s).bump (Reg.IPM.RXF_POLDROP n) 1).flowLimited n 5)

/-- Sequence numbers wrap at 2^32 in video flows and at 2^16 in the others (R221). -/
def seqMod (d : List Nat) : Nat := if dType d = 0 then 2 ^ 32 else 2 ^ 16

/-- The sequence number a packet carries: of video with the extension of the payload header (R221). -/
def seqOf (d : List Nat) (r : Rtp) : Nat := if dType d = 0 then field r.payload 0 2 * 65536 + r.seq else r.seq

/-- The place of a packet in the flow's count of numbers, which does not wrap, and whether tracking restarts there (R220, R221): by
a jump of more than 2^15 ahead. Numbers of 16 bits show a jump and a number behind alike; the 1,024 numbers behind the highest are
taken as behind. -/
def seqPlace (x : RxFlow) (r : Rtp) : Nat × Bool :=
  let m := seqMod x.desc
  let raw := seqOf x.desc r
  match x.hi with
  | none => (m + raw, true)
  | some h =>
      let d := (raw + m - h % m) % m
      if x.again then (h + m + d, true)
      else if d ≤ 2 ^ 15 then (h + d, false)
      else if (if m = 2 ^ 32 then 2 ^ 31 ≤ d else m - d ≤ 1024) then (h + d - m, false)
      else (h + d, true)

/-- A packet with this number has been accepted. -/
def seqSeen (x : RxFlow) (seq : Nat) : Bool :=
  match x.hi with
  | none => false
  | some h => decide (x.since ≤ seq) && decide (seq ≤ h) && !(x.missed.any fun g => decide (g.1 ≤ seq) && decide (seq ≤ g.2))

/-- A number is taken out of ranges. -/
def cutRange (seq : Nat) (l : List (Nat × Nat)) : List (Nat × Nat) :=
  (l.map fun g =>
    if g.1 ≤ seq ∧ seq ≤ g.2 then (if g.1 < seq then [(g.1, seq - 1)] else []) ++ (if seq < g.2 then [(seq + 1, g.2)] else [])
    else [g]).flatten

/-- A number is accepted. -/
def seqTrack (seq : Nat) (restart : Bool) (x : RxFlow) : RxFlow :=
  let h := x.hi.getD 0
  if restart then { x with again := false, since := seq, hi := some seq, missed := [], ended := none, tail := 0 }
  else if h < seq then { x with hi := some seq, missed := x.missed ++ (if h + 1 < seq then [(h + 1, seq - 1)] else []) }
  else if seq < x.since then
    { x with since := seq, missed := (if seq + 1 < x.since then [(seq + 1, x.since - 1)] else []) ++ x.missed }
  else { x with missed := cutRange seq x.missed }

/-- The largest lateness in µs, of a packet by its nominal time in ns (R234). -/
def noteLateness (n stamp : Nat) (nominal : Int) (s : State) : State :=
  let us := (divFree 234 (max 0 ((stamp : Int) - nominal)) 1000).toNat
  s.set (Reg.IPM.RXF_LATEMAX n) (max (s.get (Reg.IPM.RXF_LATEMAX n)) (min us 65535))

/-- The media header of ST 2022-6 (R242): the code of the frame structure, and of the frame rate. -/
def s6Header (payload : List Byte) : Nat × Nat :=
  if bit (field payload 0 1) 3 then (field payload 4 2 / 16 % 256, field payload 5 2 / 16 % 256) else (0, 0)

/-- A ST 2022-6 engine shows the link rate that the datagram header names: 3G from 47 Hz progressive up, else 1.5G. -/
def s6Rate (x : RxFlow) (payload : List Byte) (s : State) : State :=
  let q := s6Header payload
  let h := s.get (Reg.CHN.ENT_HANDLE x.chan)
  match (List.range 64).find? fun k => s.get (Reg.SDI.RXCHAN (s6rPage k)) == h with
  | none => s
  | some k =>
      if q.1 = 0 then s
      else
        let fast := (q.1 == 0x21 || q.1 == 0x23) && decide (q.2 ≤ 0x15)
        (s.set (Reg.SDI.RXSTAT_RATE (s6rPage k)) (if fast then 2 else 1)).setB (Reg.SDI.RXSTAT_DIV1001 (s6rPage k)) (q.2 % 2 == 1)

/-- Words of a line of both streams of a ST 2022-6 link, and datagrams of a frame: 1,376 bytes of words of 10 bits. The two streams of
4:2:2 in 10 bits are those of the format; other samplings and level B take a 3G link at every rate. -/
def s6Plain (w : Nat) : Bool := fmtSamp w == 0 && fmtDepth w == 0 && fmtMap w != 2
def s6Line (w : Nat) : Nat := lineWords w * (if !s6Plain w && decide (fmtFps w ≤ 30) then 4 else 2)
def s6Datagrams (fmt : Nat) : Nat := (fmtLines fmt * s6Line fmt * 10 + 11007) / 11008

/-- The place of a ST 2022-6 datagram in its frame, and the timestamp of the frame's first, where the end of the frame before is known
and the first has come (R242). -/
def s6Place (x : RxFlow) (seq ts : Nat) : Option (Nat × Nat) :=
  let ends := (((x.pkts ++ x.past).filter fun q => q.marker && decide (q.seq < seq)).map fun q => q.seq) ++
    (match x.ended with | some e => if e + x.tail < seq then [e + x.tail] else [] | none => [])
  match ends with
  | [] => none
  | _ =>
      let first := ends.foldl max 0 + 1
      if first = seq then some (0, ts)
      else (x.pkts.find? fun q => q.seq == first).map fun q => (seq - first, q.ts)

/-- The nominal time in ns of a packet of a video flow, and when the line of its first sample starts (R225, R242). Of a datagram of
ST 2022-6 whose place is not known it is its timestamp's own time. The point of a second field is its frame's, by half periods. -/
def nominalOf (x : RxFlow) (fmt : Nat) (first : VidSeg) (seq ts : Nat) (s : State) : Int × Int :=
  let hz := flowHz x.desc
  let p3 := fmtPeriod3 fmt
  if dType x.desc = 4 then
    match s6Place x seq ts with
    | some (j, t0) =>
        let ap := (s.alignPoint3 hz p3 t0).1
        let words := fmtLines fmt * s6Line fmt
        ((ap + p3 * (11008 * j) / (10 * words)) / 3, (ap + p3 * (11008 * j / 10 / s6Line fmt) / fmtLines fmt) / 3)
    | none => let t := divFree 223 (s.unwrapTs hz ts * 1000) 27; (t, t)
  else
    let second := fmtSeg fmt && first.row % 2 == 1
    let ap := if second then (s.alignPoint3 hz (p3 / 2) ts).1 - p3 / 2 else (s.alignPoint3 hz p3 ts).1
    ((ap + rasterTime3 fmt first.row first.x) / 3, (ap + rasterTime3 fmt first.row 0) / 3)

/-- A packet of a video flow (R221, R225, R226, R234): one already accepted only marks its leg; one beyond the horizon is dropped. -/
def videoPacket (n leg stamp bytes : Nat) (r : Rtp) (x : RxFlow) (s : State) : State :=
  let fmt := s.flowFmt x
  let pl := seqPlace x r
  let seq := pl.1
  let s := s.when (dType x.desc == 4) (s6Rate x r.payload)
  let sg := if dType x.desc = 0 then videoSegs fmt (r.payload.drop 2) else ([], true)
  let times := s.nominalOf x fmt (sg.1.headD ⟨0, 0, []⟩) seq r.ts
  let nominal := times.1
  let hor := s.get (Reg.IPM.RXF_HORIZON n)
  let ended := match x.ended with | some e => decide (seq ≤ e) | none => false
  let isLate := decide ((hor * 1000 : Nat) < (stamp : Int) - nominal) || ended
  let mark := fun (q : FlowPkt) =>
    if leg = 0 then { q with arrA := some stamp, lateA := isLate } else { q with arrB := some stamp, lateB := isLate }
  let markAll := fun (l : List FlowPkt) => l.map fun q => if q.seq = seq then mark q else q
  if seqSeen x seq ∧ !pl.2 then s.updRxf n fun y => { y with pkts := markAll y.pkts, past := markAll y.past }
  else
    let s := s.noteLateness n stamp nominal
    let base : FlowPkt := (x.pkts.find? fun q => q.seq == seq).getD
      { seq := seq, ts := r.ts, marker := r.marker, arrA := none, arrB := none, inTime := false, lateA := false,
        lateB := false, segs := sg.1, token := r.token, bad := !sg.2, struck := false, bytes := bytes,
        until_ := (times.2 + (hor * 1000 : Nat)).toNat }
    let q := mark { base with inTime := !isLate }
    let s := s.updRxf n fun y =>
      let y := if isLate then y else seqTrack seq pl.2 y
      if ended then { y with past := if y.past.any fun q => q.seq == seq then markAll y.past else y.past ++ [q] }
      else { y with pkts := (y.pkts.filter fun q => q.seq != seq) ++ [q], past := markAll y.past }
    if isLate then (s.bump (Reg.IPM.RXF_LATE n) 1).flowLimited n 4
    else ((s.bump (Reg.IPM.RXF_PKTS n) 1).showOcc).chkinvStruckAt 1 n

/-- A packet of an audio flow (R239): samples whose tick has passed are dropped. -/
def audioPacket (n stamp : Nat) (r : Rtp) (x : RxFlow) (s : State) : State :=
  let d := x.desc
  let pl := seqPlace x r
  if seqSeen x pl.1 ∧ !pl.2 then s
  else
    let nv := max 1 (dVoices d)
    let k := r.payload.length / (dSampleBytes d * nv)
    let t0 := s.unwrapTs (dHz d) r.ts
    let hor := s.get (Reg.IPM.RXF_HORIZON n)
    let rows := (List.range k).map fun (i : Nat) =>
      ((t0 + (i : Int)).toNat, (List.range nv).map fun v => audioSample d r.payload ((i * nv + v) * dSampleBytes d))
    let inTime := rows.filter fun q => decide ((stamp : Int) ≤ (q.1 : Int) * 1000000000 / dHz d + (hor * 1000 : Nat))
    let s := s.noteLateness n stamp (t0 * 1000000000 / dHz d)
    let s := s.updRxf n fun y =>
      let y := seqTrack pl.1 pl.2 y
      { y with audio := inTime.foldl (fun a q => Assoc.put a q.1 q.2) y.audio }
    ((s.bump (Reg.IPM.RXF_PKTS n) 1).chkinvStruckAt 1 n).when (decide (inTime.length < rows.length)) (bump (Reg.IPM.RXF_LATE n) 1)

/-- A packet of an ANC flow (R241): its packets are stored; those beyond the limit count as lost. The marker ends the
frame. -/
def ancPacket (n : Nat) (r : Rtp) (x : RxFlow) (s : State) : State :=
  let pl := seqPlace x r
  if seqSeen x pl.1 ∧ !pl.2 then s
  else
    let ps := ancOf (r.payload.drop 8) (field r.payload 4 1) 0
    let s := s.each ps fun p t =>
      let q := t.ancStore x.chan p
      if q.2 then q.1.bump (Reg.IPM.RXF_LOST n) 1 else q.1
    let s := s.updRxf n (seqTrack pl.1 pl.2)
    (s.bump (Reg.IPM.RXF_PKTS n) 1).when r.marker fun t =>
      t.updSdi fun y => { y with anc := Assoc.modify y.anc x.chan fun b => { done := b.cur, cur := [], turn := b.turn + 1 } }

/-- A classified packet reaches a leg (R219, R220, R227, R232): the policer comes before the packet is accepted, and before the flow
learns its SSRC or its leg goes UP by it. -/
def ipmPacket (n leg stamp bytes : Nat) (dgram : List Byte) (s : State) : State :=
  match Assoc.find s.ipm.rx n, rtpOf dgram with
  | some x, some r =>
      let s := s.legReceives n leg
      if r.pt ≠ dPt x.desc then s
      else
        let b := s.police n leg bytes
        let a := s.ssrcCheck n r.ssrc
        if !a.1 then a.2
        else if !b.1 then b.2
        else
          let s := (b.2.ssrcCheck n r.ssrc).2.legAccepts n leg
          match Assoc.find s.ipm.rx n with
          | none => s
          | some x =>
              match dType x.desc with
              | 1 => s.audioPacket n stamp r x
              | 2 => s.audioPacket n stamp r x
              | 3 => s.ancPacket n r x
              | _ => s.videoPacket n leg stamp bytes r x
  | some _, none => s.legReceives n leg
  | none, _ => s

/-! ### Release of frames (R222, R224–R226, R228, R242, R243) -/

/-- The first field of packets in order (R222): up to its marker, or before a packet of another timestamp, where those of a field share
theirs; and the packets after it. -/
def flowField (shared : Bool) : List FlowPkt → List FlowPkt × List FlowPkt
  | [] => ([], [])
  | p :: ps =>
      if p.marker || (match ps with | q :: _ => shared && q.ts != p.ts | [] => true) then ([p], ps)
      else let r := flowField shared ps; (p :: r.1, r.2)

/-- Rows of a field: some packet carries a row of the first, or of the second. -/
def hasField (second : Nat) (ps : List FlowPkt) : Bool := ps.any fun p => p.segs.any fun g => g.row % 2 == second

/-- The packets of the frame that is next, those that came too late among them, the packets after it, and whether its fields agree
(R222): the second follows the first with its own marker, and its timestamp is half a frame period later. Each datagram of ST 2022-6 has a
timestamp of its own. -/
def flowFrame (type fmt : Nat) (pkts : List FlowPkt) : (List FlowPkt × List FlowPkt) × Bool :=
  let ps := pkts.mergeSort fun a b => decide (a.seq ≤ b.seq)
  let a := flowField (type == 0) ps
  if type = 0 ∧ fmtSeg fmt then
    let mixed := hasField 0 a.1 && hasField 1 a.1
    let b := flowField true a.2
    if hasField 0 a.1 ∧ !mixed ∧ hasField 1 b.1 then
      let ts := fun (l : List FlowPkt) => (l.head?.map fun p => p.ts).getD 0
      let dt := (ts b.1 + 2 ^ 32 - ts a.1) % 2 ^ 32
      let lo := fmtPeriod3 fmt * 45 / 3000000
      ((a.1 ++ b.1, b.2), (dt == lo || dt == lo + 1) && !(hasField 0 b.1))
    else ((a.1, a.2), !mixed)
  else ((a.1, a.2), true)

/-- Lay runs of samples over a line. -/
def overlay (perPx depth : Nat) (line : List Pix) (segs : List VidSeg) : List Pix :=
  segs.foldl (fun l g => l.take (g.x * perPx) ++ (g.samples.map fun (v : Nat) => justify depth (v : Int)) ++
    l.drop (g.x * perPx + g.samples.length)) line

/-- The picture of a frame: what the packets carry over black (R225). -/
def flowPicture (fmt : Nat) (ps : List FlowPkt) : List Pix :=
  let k := fmtWidth fmt * perPixel fmt
  let segs := (ps.filter fun p => p.inTime).map (fun p => p.segs) |>.flatten
  let black := (blackPicture fmt).take k
  ((rowOrder fmt).map fun y => overlay (perPixel fmt) (fmtDepth fmt) black (segs.filter fun g => g.row == y)).flatten

/-- Pixels of a full packet of a frame: the most that one of them carries. -/
def framePixels (fmt : Nat) (ps : List FlowPkt) : Nat :=
  ps.foldl (fun m p => max m (sumList (p.segs.map fun g => g.samples.length) / perPixel fmt)) 1

/-- Packets of a frame from a pixel of a line on, where each line ends its last packet (R235): `k` pixels a packet. -/
def packetsFrom (fmt k at_ x : Nat) : Nat :=
  let per := (fmtWidth fmt + k - 1) / k
  (fmtWidth fmt - x + k - 1) / k + ((rowOrder fmt).length - (at_ + 1)) * per

/-- How many packets a frame lacks before its first, and after its last, when that carries no marker (R225). The spec counts a packet that
never came once; how many they were is estimated from the pixels they would have carried. -/
def lacking (type fmt : Nat) (ps : List FlowPkt) : Nat × Nat :=
  match ps.head?, ps.getLast? with
  | some a, some z =>
      if type = 4 then
        let n := s6Datagrams fmt - (z.seq + 1 - a.seq)
        if z.marker then (n, 0) else (0, n)
      else
        let k := framePixels fmt ps
        let at_ := fun (g : VidSeg) => (rowOrder fmt).idxOf g.row
        let head := match a.segs.head? with
          | some g => packetsFrom fmt k 0 0 - packetsFrom fmt k (at_ g) g.x
          | none => 0
        let tail := match z.segs.getLast? with
          | some g => packetsFrom fmt k (at_ g) (g.x + g.samples.length / perPixel fmt)
          | none => 0
        (head, if z.marker && (!fmtSeg fmt || hasField 1 ps) then 0 else tail)
  | _, _ => (0, 0)

/-- Leg states and the skew of a frame (R228): a leg that delivered every packet of it, and none in time. -/
def legSkew (n : Nat) (ps : List FlowPkt) (s : State) : State :=
  let ps := ps.mergeSort fun a b => decide (a.seq ≤ b.seq)
  let whole : Bool := match ps.head?, ps.getLast? with | some a, some z => decide (z.seq + 1 - a.seq ≤ ps.length) | _, _ => false
  let judge := fun (leg : Nat) (got lateOf : FlowPkt → Bool) (t : State) =>
    if whole && ps.all got && ps.all lateOf then
      t.when (t.get (legReg n leg) == 2) fun u => (u.set (legReg n leg) 3).flowEvent n 8
    else t.when (t.get (legReg n leg) == 3 && ps.any fun p => got p && !lateOf p) (set (legReg n leg) 2)
  let s := judge 0 (fun p => p.arrA.isSome) (fun p => p.lateA) s
  let s := judge 1 (fun p => p.arrB.isSome) (fun p => p.lateB) s
  let both := ps.filterMap fun p => match p.arrA, p.arrB with | some a, some b => some ((b : Int) - a) | _, _ => none
  if both = [] then s
  else s.set (Reg.IPM.RXF_SKEW n) (ofSigned 16 (divFree 228 (both.foldl (· + ·) 0) ((both.length * 1000 : Nat) : Int)))

/-- The ranges of words of a ST 2022-6 frame that its missing datagrams would have carried (R242). -/
def lostWords (lo count : Nat) (ps : List FlowPkt) : List (Nat × Nat) :=
  ((List.range count).filter fun j => !(ps.any fun p => p.inTime && p.seq == lo + j)).map fun j => (11008 * j / 10, (11008 * (j + 1) + 9) / 10)

/-- The lines that ranges of words strike. -/
def struckLines (fmt : Nat) (cuts : List (Nat × Nat)) : List Nat :=
  let n := s6Line fmt
  ((List.range (fmtLines fmt)).map fun l => l + 1).filter fun l => cuts.any fun c => decide (c.1 < l * n) && decide ((l - 1) * n < c.2)

/-- Missing words of a ST 2022-6 frame are written as 0x200 in the colour difference and 0x040 in the luminance (R242). -/
def strikePicture (fmt : Nat) (cuts : List (Nat × Nat)) (picture : List Pix) : List Pix :=
  let k := fmtWidth fmt * perPixel fmt
  let n := s6Line fmt
  ((rowOrder fmt).zipIdx.map fun q =>
    let act := 2 * activeWords fmt * n / (2 * lineWords fmt)
    let from_ := (rowLine fmt q.1 - 1) * n + n - act
    ((picture.drop (q.2 * k)).take k).zipIdx.map fun p =>
      let w := from_ + p.2 * act / k
      if cuts.any fun c => decide (c.1 ≤ w) && decide (w < c.2) then justify 0 (if w % 2 = 0 then 0x200 else 0x040) else p.1).flatten

/-- When a frame of packets is written, in thirds of a ns of TIME (R224): a frame period after the frame start that its alignment point
and release lag give. -/
def releaseDue (n : Nat) (x : RxFlow) (ps : List FlowPkt) (s : State) : Int :=
  let fmt := s.flowFmt x
  let back := if dType x.desc = 0 ∧ fmtSeg fmt ∧ !(hasField 0 ps) then fmtPeriod3 fmt / 2 else 0
  (s.alignPoint3 (flowHz x.desc) (fmtPeriod3 fmt) ((ps.head?.map fun p => p.ts).getD 0)).1 - back +
    (3000 * (s.get (Reg.IPM.RXF_HORIZON n) + 100) + fmtPeriod3 fmt : Nat)

/-- A video frame is released (R224). It is written whole, one frame period after the frame start that its alignment point and release
lag give, when every packet in time has come: the entry then has the offset that this frame start has against its plane, which
the period does not change. Lost packets are counted, a frame that contradicts its format is loss of format, the token extension is
checked, and what packet memory lost poisons the frame. Of ST 2022-6 the engine decodes the picture and the ANC, `picture` and
`anc`; missing words strike them, and the engine writes when it is LOCKED to the declared format. -/
def ipmRelease (n : Nat) (picture : List Pix) (anc : List AncPkt) (s : State) : State :=
  match Assoc.find s.ipm.rx n with
  | none => s
  | some x =>
      let fmt := s.flowFmt x
      let type := dType x.desc
      let e := s.flowEntry x
      let fr := flowFrame type fmt x.pkts
      let ps := fr.1.1
      match (if type = 0 ∨ type = 4 then ps.head? else none), ps.getLast? with
      | some a, some z =>
          let ap := s.alignPoint3 (flowHz x.desc) (fmtPeriod3 fmt) a.ts
          let due := s.releaseDue n x ps
          if 3 * (s.timeNs : Int) < due then s
          else
            let known := x.ended.isSome && decide (x.since ≤ a.seq)
            let lack := lacking type fmt ps
            let from_ := if known then min a.seq (max x.since (x.ended.getD 0 + 1 + x.tail)) else a.seq - lack.1
            let came := (ps.filter fun p => p.inTime).length
            let lost := z.seq + 1 + lack.2 - from_ - came
            let whole := came == z.seq + 1 - a.seq && lack.2 == 0 && min lack.1 (a.seq - from_) == 0
            let m := s.wordBad 1 n 0
            let bad := !fr.2 || ps.any fun p => p.bad
            let done := (x.pkts.filter fun p => decide (a.seq ≤ p.seq) && decide (p.seq ≤ z.seq)).mergeSort fun a b => decide (a.seq ≤ b.seq)
            let s := (m.2.when (m.1 == 1) (sramCor 1 n)).when (decide (2 ≤ m.1)) fun t => t.bump (Reg.PROV.ECC_UNCORR 1) 1
            let s := s.legSkew n x.past
            let s := s.updRxf n fun y =>
              { y with pkts := y.pkts.filter fun p => decide (z.seq < p.seq), past := done, ended := some z.seq, tail := lack.2 }
            let s := s.showOcc
            let s := s.when (lost != 0) fun t => (t.bump (Reg.IPM.RXF_LOST n) lost).flowLimited n 3
            let s := s.when (s.flag (Reg.IPM.RXF_UNALIGNED n) == ap.2) fun t =>
              (t.setB (Reg.IPM.RXF_UNALIGNED n) (!ap.2)).flowEvent n 9
            let h := s.get (Reg.CHN.ENT_HANDLE x.chan)
            let eng := if type = 4 then (List.range 64).find? fun k => s.get (Reg.SDI.RXCHAN (s6rPage k)) == h else none
            let cuts := if type = 4 ∧ !whole then lostWords (z.seq + 1 + lack.2 - s6Datagrams fmt) (s6Datagrams fmt) ps else []
            let s := match eng with
              | some k => s.each (struckLines fmt cuts) fun _ t => t.erroredLine (512 + k)
              | none => s
            if bad then (s.flowEvent n 7).pathLoss e
            else
              let s := s.when (type == 0 && !(s.ing e).writing && whole) (updIng e fun y => { y with writing := true })
              let locked := match eng with
                | some k => s.get (Reg.SDI.RXSTAT_STATE (s6rPage k)) == 2
                | none => type == 0
              if !(s.ing e).writing ∨ !locked then s
              else
                let pic := if type = 0 then flowPicture fmt ps else if cuts = [] then picture else strikePicture fmt cuts picture
                let dg := digest pic
                let tok := ps.findSome? fun p => p.token
                let broken := s.flag (Reg.IPM.RXF_TOKCHK n) && (match tok with
                  | some k => k.2 == 2 || (whole && k.1 % 65536 != dg)
                  | none => false)
                let s := s.when broken (flowLimited n 11)
                let f : Frame := { fmt := fmt, token := none, tstate := if broken then 2 else 0, poisoned := false,
                                   picture := pic, anc := if type = 4 then anc else [] }
                let s := s.issueLate (3 * (s.timeNs : Int) - due).toNat e dg false f
                s.when (decide (2 ≤ m.1) || ps.any fun p => p.struck) (poisonIng e)
      | _, _ => s

/-- How the media clock of a flow, less its horizon, stands to the word clock, in millionths of a sample (R239). -/
def mediaLead (n : Nat) (d : List Nat) (s : State) : Int :=
  ((s.timeNs : Int) - (s.get (Reg.IPM.RXF_HORIZON n) * 1000 : Nat)) * dHz d / 1000 - (s.lode.l * s.tsiRate / 1000000 : Nat)

/-- One sample of an audio flow enters the TSI at each word-clock tick (R239): the one whose timestamp, with the horizon, falls on it; a
missing one enters as silence. When the timestamps have drifted against the word clock by a whole sample, one sample is dropped or
enters twice. -/
def audioTick (n flips : Nat) (s : State) : State :=
  match Assoc.find s.ipm.rx n, Assoc.find s.ipm.rx n |>.bind fun x => s.chan x.chan with
  | some x, some c =>
      let d := x.desc
      if (dType d ≠ 1 ∧ dType d ≠ 2) ∨ x.map.any (fun m => m.2.2 == s.sampleTick) then s
      else
        let lead := s.mediaLead n d
        let m := x.map.getD ((lead + 500000) / 1000000, lead, 0)
        let slip : Int := if 1000000 ≤ lead - m.2.1 then 1 else if lead - m.2.1 ≤ -1000000 then -1 else 0
        let due := ((s.sampleTick : Int) + m.1 + slip).toNat
        let row := if slip = -1 ∧ x.last ≠ [] then some x.last else Assoc.find x.audio due
        let m1 := s.wordBad 1 n flips
        let s := (m1.2.when (m1.1 == 1) (sramCor 1 n)).when (decide (2 ≤ m1.1)) fun t => t.bump (Reg.PROV.ECC_UNCORR 1) 1
        let vs := (granuleVoices c.gin).take (dVoices d)
        let s := s.each vs.zipIdx fun q t => t.voiceAt q.1 t.sampleTick
          (match row with | some r => if 2 ≤ m1.1 then silence else r.getD q.2 silence | none => silence)
        let s := s.updRxf n fun y =>
          { y with audio := y.audio.filter fun q => decide (due < q.1), last := row.getD [],
                   missing := if row.isSome then 0 else y.missing + 1, map := some (m.1 + slip, m.2.1 + 1000000 * slip, s.sampleTick) }
        let s := s.when (row.isNone && x.up && x.missing % max 1 (dSpp d) == 0) (bump (Reg.IPM.RXF_LOST n) 1)
        s.when (slip != 0) (flowLimited n 10)
  | _, _ => s

/-! ### Sending (R229, R235–R237, R240, R241, R243) -/

/-- An Ethernet frame of a media packet on a leg (R229, R236, R368, R369): the fields the spec leaves open are free. -/
def mediaFrame (d : List Nat) (leg : Nat) (rtp : List Byte) (s : State) : List Byte :=
  let p := legPort d leg
  let tag := if legTagged d leg then
      beBytes 2 0x8100 ++ beBytes 2 (s.use (Reg.ETH.CFG_MEDIAPCP p) * 8192 + legVlan d leg)
    else []
  let src := Assoc.findD s.jrp.ips (4 * p) 0
  let dst := legDst d leg
  let len := rtp.length + 8
  let udp0 := beBytes 2 (legSrcPort d leg) ++ beBytes 2 (legDstPort d leg) ++ beBytes 2 len
  let cs := if s.flag (Reg.ETH.CFG_UDPCS p) then udpCsum (udpSum src dst (udp0 ++ beBytes 2 0 ++ rtp)) else 0
  let open_ := fun k => Config.freeOf 368 [p, leg, k]
  let ip0 := beBytes 1 0x45 ++ beBytes 1 (legDscp d leg * 4) ++ beBytes 2 (len + 20) ++ beBytes 2 (open_ 0) ++
    beBytes 2 0x4000 ++ beBytes 1 (open_ 1) ++ beBytes 1 17
  let hdr := ip0 ++ beBytes 2 0 ++ beBytes 4 src ++ beBytes 4 dst
  let ip := ip0 ++ beBytes 2 (csumOf (onesSum hdr)) ++ beBytes 4 src ++ beBytes 4 dst
  withFcs (beBytes 6 (groupMac dst) ++ beBytes 6 (s.ownMac p) ++ tag ++ beBytes 2 0x0800 ++ ip ++ udp0 ++ beBytes 2 cs ++ rtp)

/-- An RTP packet. -/
def rtpBytes (d : List Nat) (marker : Bool) (seq ts : Nat) (ext : List Byte) (payload : List Byte) : List Byte :=
  beBytes 1 (if ext = [] then 0x80 else 0x90) ++ beBytes 1 (b2n marker * 128 + dPt d) ++ beBytes 2 seq ++ beBytes 4 ts ++
    beBytes 4 (d.getD 9 0) ++ ext ++ payload

/-- The 64 bits of a token (R152). -/
def tokenBits (t : Token) : Nat := t.sys * 2 ^ 46 + t.idx * 2 ^ 32 + t.count * 2 ^ 16 + t.digest

/-- The token extension (R243). -/
def tokenExt (f : Frame) : List Byte :=
  beBytes 2 0x4A5A ++ beBytes 2 3 ++ beBytes 8 (match f.token with | some t => tokenBits t | none => 0) ++
    beBytes 4 (f.tstate % 4)

/-- A flow sends a packet on each of its legs, and counts it. -/
def flowSend (n : Nat) (marker : Bool) (ts : Nat) (ext payload : List Byte) (s : State) : State :=
  match Assoc.find s.ipm.tx n with
  | none => s
  | some x =>
      let d := x.desc
      let rtp := rtpBytes d marker x.seq ts ext payload
      let s := s.each (if s.ineligible then [] else dLegs d) fun g t =>
        t.ethMedia (legPort d g) (if legTagged d g then t.use (Reg.ETH.CFG_MEDIAPCP (legPort d g)) else 0) (t.mediaFrame d g rtp)
      ((s.set (Reg.IPM.TXF_SEQ n) x.seq).bump (Reg.IPM.TXF_PKTS n) 1).updTxf n fun y => { y with seq := (y.seq + 1) % 2 ^ 32 }

/-- Pixels in a full packet (R235): 1,260 bytes of sample data. -/
def packetPixels (fmt : Nat) : Nat := 1260 / (pgroup fmt).1 * (pgroup fmt).2

/-- The video-out of a ST 2022-6 send flow embeds audio groups (R205, R242). -/
def s6Audio (i : Nat) (s : State) : Bool := bits (s.chanArg i 2) 7 0 != 0

/-- The two words of a line of a stream in 10 bits that carry a line number, and those of its CRC. -/
def numberWord (l k : Nat) : Nat :=
  if k = 0 then l % 128 * 4 + 512 * (1 - l % 128 / 64) else 512 + l / 128 % 16 * 4
def crcWord (c k : Nat) : Nat := let v := c / 2 ^ (9 * k) % 512; v + 512 * (1 - v / 256)

/-- A word of the two interleaved streams of a ST 2022-6 frame (R242): word `k` of line `l`, colour difference first. ANC packets stand
after the line CRC; of audio data packets there, which the chip builds, the words are open, and so are those of the structures of ST 425
for other samplings and for level B, which the spec does not give. -/
def s6Word (f : Frame) (audio : Bool) (ts l k : Nat) : Nat :=
  let w := f.fmt
  if !s6Plain w then Config.freeOf 425 [l, k] % 1024 else
  let lum := k % 2
  let at_ := k / 2
  let act := activeWords w
  let x := 4 * b2n (lineField w l) + 2 * b2n (lineBlank w l)
  let sync := fun (j v : Nat) => match j with | 0 => 0x3FF | 1 => 0 | 2 => 0 | _ => v
  let blank := if lum = 1 then 0x040 else 0x200
  if at_ < 4 then sync at_ (xyzWord (x + 1))
  else if at_ < 6 then numberWord l (at_ - 4)
  else if at_ < 8 then crcWord (Config.lineCrc f [] [ts] lum l) (at_ - 6)
  else if at_ + act + 4 < lineWords w then
    let ws := ((f.anc.filter fun p => p.line == l && p.stream % 2 == 1 - lum).map fun p =>
      let b := [State.parityWord p.did, State.parityWord p.sdid, State.parityWord p.udw.length] ++ p.udw
      [0, 0x3FF, 0x3FF] ++ b ++ [ancSum b]).flatten
    if audio ∧ ws.length ≤ at_ - 8 then Config.freeOf 242 [l, k] % 1024 else ws.getD (at_ - 8) blank
  else if at_ + act < lineWords w then sync (at_ + act + 4 - lineWords w) (xyzWord x)
  else
    match (rowOrder w).zipIdx.find? fun q => rowLine w q.1 == l with
    | none => blank
    | some q =>
        let n := fmtWidth w * perPixel w
        (f.picture.getD (q.2 * n + (k - 2 * (lineWords w - act)) * n / (2 * act)) (justify 0 (blank : Nat))).toNat / 64

/-- The frame structure and frame rate codes of a format in the header of ST 2022-6. -/
def s6Codes (w : Nat) : Nat × Nat :=
  (match fmtStruct w with | 3 => 0x30 | 0 => 0x20 | 2 => 0x22 | _ => 0x21,
   (match fmtFps w with | 60 => 0x10 | 50 => 0x12 | 48 => 0x14 | 30 => 0x16 | 25 => 0x18 | _ => 0x1A) + b2n (fmtDiv w))

/-- Datagram `x` of a ST 2022-6 frame: the media header with the frame's count, and 1,376 bytes of the words in 10 bits. -/
def s6Payload (f : Frame) (audio : Bool) (ts x : Nat) : List Byte :=
  let q := s6Codes f.fmt
  let n := s6Line f.fmt
  let first := 11008 * x / 10
  let v := ((List.range 1102).map fun j => first + j).foldl (fun a k =>
    a * 1024 + (if k / n < fmtLines f.fmt then s6Word f audio ts (k / n + 1) (k % n) % 1024 else 0)) 0
  let count := match f.token with | some t => t.count | none => ts
  beBytes 4 (2 ^ 27 + count % 256 * 2 ^ 16) ++ beBytes 4 (q.1 * 2 ^ 20 + q.2 * 2 ^ 12 + 2 ^ 8) ++
    beBytes 1376 (v / 2 ^ (12 - 11008 * x % 10) % 2 ^ 11008)

/-- The packetiser sends the next packet of its frame. -/
def packetSend (n : Nat) (s : State) : State :=
  match Assoc.find s.ipm.tx n with
  | none => s
  | some x =>
      match x.cur with
      | none => s
      | some c =>
          let d := x.desc
          let next := fun (v : Option TxFrame) (t : State) => t.updTxf n fun y => { y with cur := v }
          let ext := if c.first && s.flag (Reg.IPM.TXF_TOKEXT n) then tokenExt c.frame else []
          if dType d = 3 then
            let last := decide (c.anc.length ≤ 1)
            (s.flowSend n last c.ts [] (ancPayload x.seq c.anc.head?)).when true
              (next (if last then none else some { c with anc := c.anc.drop 1 }))
          else if dType d = 4 then
            let fmt := c.frame.fmt
            let per := s6Datagrams fmt
            let audio := s.s6Audio x.chan
            let pay := s6Payload c.frame audio c.ts c.x
            let last := decide (per ≤ c.x + 1)
            (s.flowSend n last c.ts ext pay).when true (next (if last then none else some { c with x := c.x + 1, first := false }))
          else
            let fmt := c.frame.fmt
            let order := rowOrder fmt
            let w := fmtWidth fmt
            let k := packetPixels fmt
            let row := order.getD c.row 0
            let m := min k (w - c.x)
            let at_ := (c.row * w + c.x) * perPixel fmt
            let smp := (c.frame.picture.drop at_).take (m * perPixel fmt)
            let sh := if fmtDepth fmt = 1 then 16 else 64
            let data := packBits 8 (smp.map fun v => (v.toNat / sh, fmtBits fmt))
            let lineEnd := decide (w ≤ c.x + m)
            let rows := order.length
            let fieldEnd := decide (c.row + 1 = rows) || (fmtSeg fmt && decide (c.row + 1 = rows / 2))
            let marker := lineEnd && fieldEnd
            let second := fmtSeg fmt && decide (rows / 2 ≤ c.row)
            let ts := if second then (c.ts + fmtPeriod3 fmt * 45 / 3000000) % 2 ^ 32 else c.ts
            let srd := beBytes 2 data.length ++
              beBytes 2 ((if fmtSeg fmt then row % 2 * 32768 + row / 2 else row)) ++ beBytes 2 c.x
            let s := s.flowSend n marker ts ext (beBytes 2 (x.seq / 65536) ++ srd ++ data)
            let done := lineEnd && decide (c.row + 1 = rows)
            next (if done then none
              else if lineEnd then some { c with row := c.row + 1, x := 0, first := false }
              else some { c with x := c.x + m, first := false }) s

/-- The media clock at the present word-clock tick, less TSOFF in ns, truncated (R236): the ticks are those of the epoch (R246), so a
reading off a whole sample by less than a nanosecond's worth stands for it. In 10^-12 of a sample. -/
def mediaTick (hz : Nat) (tsoff : Int) (s : State) : Int :=
  let one : Int := 1000000000000
  let v : Int := (s.timeNs : Int) * hz * 1000 - (((s.lode.l : Int) + s.lode.audOfs) * hz) % one
  let near := (v + one / 2) / one * one
  let v := if (v - near).natAbs ≤ hz * 1000 then near else v
  (v - tsoff * hz * 1000) / one

/-- An audio send flow sends a packet of the samples that have left the TSI (R240). -/
def audioSend (n : Nat) (s : State) : State :=
  match Assoc.find s.ipm.tx n, Assoc.find s.ipm.tx n |>.bind fun x => s.chan x.chan with
  | some x, some c =>
      let d := x.desc
      let k := dSpp d
      let left := s.aud.block * 64
      if dType d ≠ 1 ∧ dType d ≠ 2 then s
      else
        let from_ := if x.next + 256 < left then left - k else x.next
        if left < from_ + k then s
        else
          let vs := (granuleVoices c.gout).take (dVoices d)
          let pay := ((List.range k).map fun i => (vs.zipIdx.map fun v =>
            let h := (s.outVoice v.1).hist
            let x := if left ≤ h.length + (from_ + i) then h.getD (h.length + (from_ + i) - left) silence else silence
            let x := if dType d = 2 ∧ !(h.any fun y => bit y.vuc 3) then { x with vuc := x.vuc % 4 + statusVuc (dHz d) (from_ + i) } else x
            sampleBytes d (v.2 % 2 == 0) x).flatten).flatten
          let ts := ofSigned 32 (s.mediaTick (dHz d) (toSigned 32 (d.getD 3 0)) - ((s.sampleTick : Int) - from_))
          (s.flowSend n false ts [] pay).updTxf n fun y => { y with next := from_ + k }
  | _, _ => s

/-- At a frame instant of a plane each ANC send flow on it takes the packets collected for the frame (R241). -/
def ancFlowLoad (p : Nat) (s : State) : State :=
  s.each (s.ipm.tx.filter fun x => dType x.2.desc == 3 && bits (s.chanArg x.2.chan 0) 17 14 == p) fun x t =>
    let all := (x.2.ancFrom.map fun a => t.ancNew a.1 a.2).flatten
    let from_ := t.ancTurns (t.ancSources (dFollow x.2.desc) (handleIdx (x.2.desc.getD 15 0)))
    let cur : TxFrame := { frame := t.idleFrame 0 0, ts := t.flowStamp p 3 (x.2.desc.getD 3 0), row := 0, x := 0, first := true, anc := all }
    (t.updTxf x.1 fun y => { y with cur := some cur, ancFrom := from_ }).set (Reg.IPM.TXF_STATE x.1) 2

/-! ### Flows of channels -/

/-- IPM.FLOWS. -/
def showFlows (s : State) : State :=
  ((s.set Reg.IPM.FLOWS_RX s.ipm.rx.length).set Reg.IPM.FLOWS_TX s.ipm.tx.length)

/-- The eight words of a flow's registers are cleared. -/
def clearFlow (base : Nat) (s : State) : State := (s.clearWords base).clearWords (base + 16)

/-- The words of a receive flow are cleared as it opens; LATEMAX, which a record of stage A may have written, stays (R48, R245). -/
def clearRxf (n : Nat) (s : State) : State :=
  let late := s.get (Reg.IPM.RXF_LATEMAX n)
  (s.clearFlow (Reg.IPM.RXF_HANDLE n).addr).set (Reg.IPM.RXF_LATEMAX n) late

/-- A receive flow is opened for a channel (R218, R219). -/
def openRxf (n i h : Nat) (d : List Nat) (plane : Nat) (s : State) : State :=
  let newGroups := (dLegs d).filter fun g => (s.groupLegs (legPort d g) (legDst d g)).isEmpty
  let x : RxFlow :=
    { chan := i, desc := d, known := false, otherSince := none, up := false, again := false, since := 0, hi := none, missed := [],
      ended := none, tail := 0, pkts := [], past := [], buckets := [], got := [], joinLate := [], audio := [], last := [], missing := 0,
      map := none, polTotal := 0, polLast := 0 }
  let s := s.updIpm fun y => { y with rx := Assoc.put y.rx n x }
  let s := (s.clearRxf n).set (Reg.IPM.RXF_HANDLE n) h
  let s := (((s.set (Reg.IPM.RXF_TYPE n) (dType d)).set (Reg.IPM.RXF_PACING n) (dPacing d)).setB (Reg.IPM.RXF_DUAL n)
    (dDual d)).setB (Reg.IPM.RXF_TOKCHK n) (dTok d)
  let s := ((s.set (Reg.IPM.RXF_LEGA n) 1).set (Reg.IPM.RXF_LEGB n) (b2n (dDual d))).set (Reg.IPM.RXF_HORIZON n)
    (s.horizonOf d plane)
  let s := s.each ((dLegs d).filter fun g => isGroup (legDst d g)) fun g t => t.showBin (legPort d g) (legDst d g)
  (s.each newGroups fun g t => if g = 1 ∧ newGroups.contains 0 ∧ legPort d 0 = legPort d 1 ∧ legDst d 0 = legDst d 1 then t
    else t.igmpJoin (legPort d g) (legDst d g) (legSrc d g)).showFlows

/-- A receive flow ends with its channel. -/
def closeRxf (n : Nat) (s : State) : State :=
  match Assoc.find s.ipm.rx n with
  | none => s
  | some x =>
      let d := x.desc
      let s := (s.updIpm fun y => { y with rx := Assoc.del y.rx n }).clearFlow (Reg.IPM.RXF_HANDLE n).addr
      let s := s.each ((dLegs d).filter fun g => isGroup (legDst d g)) fun g t => t.showBin (legPort d g) (legDst d g)
      let last := (dLegs d).filter fun g => (s.groupLegs (legPort d g) (legDst d g)).isEmpty
      (s.each last fun g t => if g = 1 ∧ last.contains 0 ∧ legPort d 0 = legPort d 1 ∧ legDst d 0 = legDst d 1 then t
        else t.igmpGone (legPort d g) (legDst d g)).showFlows.showOcc

/-- A send flow is opened; its sequence number starts at a random value (R236). -/
def openTxf (n i h : Nat) (d : List Nat) (s : State) : State :=
  let v := s.fresh
  let s := v.2
  let x : TxFlow := { chan := i, desc := d, seq := v.1 % 2 ^ 32, cur := none, ancFrom := [], next := s.aud.block * 64 }
  let s := s.updIpm fun y => { y with tx := Assoc.put y.tx n x }
  let s := (s.clearFlow (Reg.IPM.TXF_HANDLE n).addr).set (Reg.IPM.TXF_HANDLE n) h
  let s := (((s.set (Reg.IPM.TXF_TYPE n) (dType d)).set (Reg.IPM.TXF_PACING n) (dPacing d)).setB (Reg.IPM.TXF_DUAL n)
    (dDual d)).setB (Reg.IPM.TXF_TOKEXT n) (dTok d)
  ((s.set (Reg.IPM.TXF_SSRC n) (d.getD 9 0)).set (Reg.IPM.TXF_TSOFF n) (d.getD 3 0)).showFlows

/-- A send flow ends with its channel. -/
def closeTxf (n : Nat) (s : State) : State :=
  ((s.updIpm fun y => { y with tx := Assoc.del y.tx n }).clearFlow (Reg.IPM.TXF_HANDLE n).addr).showFlows

/-! ### Judging a descriptor at creation (R214–R216, R238) -/

/-- The sum of declared rates of the flow legs on a port in a direction, in kb/s (R216). -/
def portLoad (p : Nat) (send : Bool) (s : State) : Nat :=
  let ds := if send then s.ipm.tx.map fun x => x.2.desc else s.ipm.rx.map fun x => x.2.desc
  sumList (ds.map fun d => sumList ((dLegs d).map fun g => if legPort d g = p then dRate d else 0))

/-- A flow's legs stay below 97 % of their ports' line rates. -/
def portBwOk (d : List Nat) (send : Bool) (s : State) : Bool :=
  (dLegs d).all fun g =>
    let p := legPort d g
    let own := sumList ((dLegs d).map fun k => if legPort d k = p then dRate d else 0)
    decide (100 * (s.portLoad p send + own) ≤ 97 * s.ethRate p * 1000)

/-- A port is configured as an E-port on lanes in E-mode. -/
def isEPort (p : Nat) (s : State) : Bool :=
  s.flag (Reg.ETH.CTRL_EN p) && decide (s.use (Reg.ETH.CFG_PTYPE p) ≤ 3) &&
    (s.ethLanes p).all fun n => s.cfgRxMode n == 2

/-- A descriptor and format word that are not well formed for a kind on a plane (R214, R215, R230, R238). -/
def flowBad (kind plane fmt : Nat) (d : List Nat) (s : State) : Bool :=
  let t := dType d
  let send := kind % 2 == 0
  let video := kind ≤ 2
  let hor := s.horizonOf d plane
  let v := dVoices d
  let most := (if bit (d.getD 4 0) 23 then 64 else 8) / (if bit (d.getD 4 0) 22 then 2 else 1)
  let zero := bits (d.getD 0 0) 16 0 != 0 || bits (d.getD 2 0) 31 16 != 0 || bits (d.getD 4 0) 20 0 != 0 ||
    bits (d.getD 5 0) 31 25 != 0 || bits (d.getD 10 0) 31 25 != 0 || d.getD 14 0 != 0 ||
    (!send && (d.getD 3 0 != 0 || d.getD 9 0 != 0))
  let kindBad := match kind with
    | 1 => t != 0 && t != 4
    | 2 => t != 0 && t != 4
    | 3 => t != 1 && t != 2
    | 4 => t != 1 && t != 2
    | _ => t != 3
  zero || kindBad || dPacing d == 3 || (dLegs d).any (fun g => !s.isEPort (legPort d g)) || dDual d != secondGiven d ||
    (send && (dLegs d).any fun g => !isGroup (legDst d g)) ||
    (video && (!fmtWell fmt || fmtRate fmt != s.planeRate plane || !(fmtMapRight fmt || (t == 4 && fmtMap fmt == 3)))) ||
    (kind == 1 && (decide (hor < 20) || decide (2000 < hor))) ||
    (kind == 3 && (decide (hor < 250) || decide (40000 < hor))) ||
    ((kind == 3 || kind == 4) && (v == 0 || decide (most < v) || (t == 2 && v % 2 == 1)))

/-- A flow asks for what is not supported (R9, R212, R214, R238). -/
def flowUnsupported (kind fmt : Nat) (d : List Nat) (s : State) : Bool :=
  (decide (kind ≤ 2) && (!fmtListed fmt || (dType d == 4 && (fmtMap fmt == 3 || decide (4 ≤ fmtMap fmt))))) ||
    ((kind == 3 || kind == 4) && dHz d != s.tsiRate) || (kind == 4 && dL16 d)

/-- Another receive leg on the same port has the same match (R214, R217). -/
def flowConflict (d : List Nat) (s : State) : Bool :=
  ((dLegs d).any fun g => s.ipm.rx.any fun x => (dLegs x.2.desc).any fun k =>
    legPort x.2.desc k == legPort d g && legMatch x.2.desc k == legMatch d g) ||
  (dDual d && legPort d 0 == legPort d 1 && legMatch d 0 == legMatch d 1)

end State

/-- IPM_FRAME_RELEASE (R224) of receive flow `f`. -/
def execIpmFrameRelease (f : Nat) (picture : List Pix) (anc : List AncPkt) (s : State) :
    Host.Outcome State Fault Refusal := .next (s.ipmRelease f picture anc)

/-- LEG_DOWN (R227). -/
def execLegDown (f leg : Nat) (s : State) : Host.Outcome State Fault Refusal := .next (s.legDown f leg)

/-- AUDIO_SAMPLE_TICK (R239). -/
def execAudioSampleTick (f flips : Nat) (s : State) : Host.Outcome State Fault Refusal := .next (s.audioTick f flips)

/-- IPM_PACKET_SEND (R235). -/
def execIpmPacketSend (f : Nat) (s : State) : Host.Outcome State Fault Refusal := .next (s.packetSend f)

/-- AUDIO_FLOW_SEND (R240). -/
def execAudioFlowSend (f : Nat) (s : State) : Host.Outcome State Fault Refusal := .next (s.audioSend f)

/-- IGMP_REPORT_TIMER (R219). -/
def execIgmpReportTimer (p group : Nat) (s : State) : Host.Outcome State Fault Refusal := .next (s.igmpAgain p group)

/-- IGMP_QUERY_RX (R219). -/
def execIgmpQueryRx (p version group maxResp : Nat) (s : State) : Host.Outcome State Fault Refusal :=
  .next (s.igmpQuery p version group maxResp)

/-- IGMP_COMPAT_TIMEOUT (R219). -/
def execIgmpCompatTimeout (p : Nat) (s : State) : Host.Outcome State Fault Refusal :=
  .next (s.updIpm fun x => { x with compat := Assoc.del x.compat p })

/-- JOIN_TIMEOUT (R219). -/
def execJoinTimeout (f leg : Nat) (s : State) : Host.Outcome State Fault Refusal := .next (s.joinTimeout f leg)

/-- POLDROP_ACCUMULATE (R232): the difference since the last reading goes into each flow's 64-bit count. -/
def execPoldropAccumulate (s : State) : Host.Outcome State Fault Refusal :=
  .next (s.each s.ipm.rx fun x t =>
    let v := t.get (Reg.IPM.RXF_POLDROP x.1)
    t.updRxf x.1 fun y => { y with polTotal := (y.polTotal + (v + 2 ^ 24 - y.polLast) % 2 ^ 24) % 2 ^ 64, polLast := v })

end Sys2Proof.Machine
end

