-- ==== Sys2Proof/Machine/EthRx.lean ====
section
/-! DEFINITION. Chapter 14: frames received by an Ethernet port, from the FCS to their one place, and what a port's link
does to the media flows on it. -/

namespace Sys2Proof.Machine

namespace State

/-- A frame accepted at step 5 goes to exactly one place (R366); the packets of a leg are the IPM's whether it runs or not. -/
def ethClassify (p : Nat) (l : List Byte) (fifoFull : Bool) (s : State) : State :=
  let legs := if isCtl p then [] else s.classify p l
  let ip := ipv4Of l
  let udp := match ip with | some q => ipIsUdp q && !ipRest q | none => false
  let dport := match ip with | some q => field (ipBody q) 2 2 | none => 0
  let mac := field l 0 6
  if legs ≠ [] then
    let dg := match ip with | some q => (ipBody q).take (field (ipBody q) 4 2) |>.drop 8 | none => []
    s.when (s.flag Reg.IPM.STAT_RUN) fun u => u.each legs fun g t => t.ipmPacket g.1 g.2 (t.rxStamp p) l.length dg
  else if !isCtl p && udp && (dport == 319 || dport == 320) then s.ethToRing p 0 l fifoFull
  else if !isCtl p && ip.any ipIsUdp && bit (mac / 2 ^ 40) 0 && mac != 0xFFFFFFFFFFFF && !s.inMcfw p mac then s.bump Reg.IPM.UNMATCH 1
  else s.ethToRing p 1 l fifoFull

/-- A received frame passes the steps of R362 in turn. -/
def ethFrameIn (p : Nat) (l : List Byte) (fecCor fecUnc : Nat) (fifoFull : Bool) (s : State) : State :=
  if 66 ≤ p ∨ !s.flag (Reg.ETH.STAT_RUN p) ∨ !(s.ethPort p).locked then s
  else
    let s := (s.when (fecCor != 0) (ethCount p 11 fecCor)).when (fecUnc != 0) fun t => (t.ethCount p 12 fecUnc).ethCause p 8
    if fecUnc ≠ 0 ∨ !fcsRight l then s.ethCount p 4 1
    else if l.length < 64 ∨ s.maxFrm p < l.length then s.ethCount p 5 1
    else if etherType l = 0x8808 ∧ (field l (etherAt l + 2) 2 = 1 ∨ field l (etherAt l + 2) 2 = 0x0101) then s.pauseRx p l
    else if !tagsOk l ∨ !s.destOk p (field l 0 6) then s.ethCount p 7 1
    else
      let s := (s.ethCount p 0 1).ethCount p 2 l.length
      if !checksumsOk l then s.ethCount p 6 1 else s.ethClassify p l fifoFull

/-- The port leaves UP, and the legs on it go DOWN. -/
def ethDown (p : Nat) (f : State → State) (s : State) : State :=
  let up := s.ethUp p
  (f s).when (up && !isCtl p) (portLegsDown p)

end State

/-- ETH_FRAME_RX (R362). -/
def execEthFrameRx (p : Nat) (frame : List Byte) (fecCor fecUnc : Nat) (fifoFull : Bool) (s : State) :
    Host.Outcome State Fault Refusal := .next (s.ethFrameIn p frame fecCor fecUnc fifoFull)

/-- The link of the port goes DOWN (R361). -/
def State.ethLost (p : Nat) (s : State) : State :=
  s.ethDown p fun t => (t.ethLeave p 0).updEth p fun x => { x with locked := false }

/-- LINK_DOWN (R361): PCS lock, alignment or FEC lock is lost, or a lane of the group leaves UP. -/
def execLinkDown (p : Nat) (s : State) : Host.Outcome State Fault Refusal :=
  .next (if p < 66 then s.ethLost p else s)

/-- FAULT_SEQUENCE (R361). -/
def execFaultSequence (p kind : Nat) (s : State) : Host.Outcome State Fault Refusal :=
  .next (if p < 66 then s.ethDown p (State.faultSequence p kind) else s)

/-- SPEED (R379). -/
def execSpeed (p : Nat) (s : State) : Host.Outcome State Fault Refusal := .next (s.ethDown p (State.sgmiiSpeed p))

end Sys2Proof.Machine
end

