-- ==== Sys2Proof/Machine/Scan.lean ====
section
/-! DEFINITION. Chapter 12: the panel scan-out. Start checks, link states, flips, self-refresh, and the AUX mailbox. -/

namespace Sys2Proof.Machine

/-- The bits of a pixel, and its bytes (R325). -/
def scanBpp (fmt : Nat) : Nat := match fmt with | 0 => 16 | 1 => 24 | _ => 32

/-- A component of n bits widened to 10 by repeating its high bits (R325). -/
def widen10 (n v : Nat) : Nat := if n = 5 then v * 32 + v else if n = 6 then v * 16 + v / 4 else if n = 8 then v * 4 + v / 64 else v

/-- Ten bits rounded to the link's depth. -/
def linkDepth (bpc v : Nat) : Nat := min (2 ^ bpc - 1) (divRound v (2 ^ (10 - bpc) : Nat)).toNat

/-- The components of a pixel read from its bytes, lowest address first (R325). -/
def scanPixel (fmt bpc : Nat) (l : List Byte) : Rgb :=
  let c := fun (n hi lo v : Nat) => (linkDepth bpc (widen10 n (bits v hi lo)) : Int)
  match fmt with
  | 0 => let v := leNat l; ⟨c 5 15 11 v, c 6 10 5 v, c 5 4 0 v⟩
  | 1 => let v := beNat l; ⟨c 8 23 16 v, c 8 15 8 v, c 8 7 0 v⟩
  | 2 => let v := leNat l; ⟨c 8 23 16 v, c 8 15 8 v, c 8 7 0 v⟩
  | _ => let v := leNat l; ⟨c 10 29 20 v, c 10 19 10 v, c 10 9 0 v⟩

namespace State

/-- Change the scan-out. -/
def updScan (f : ScanState → ScanState) (s : State) : State := { s with scan := f s.scan }

/-- The value of a scan-out field: the one in use while it runs or starts (R46), else the register's. -/
def scanUse (r : FRef) (s : State) : Nat := if s.flag Reg.SCAN.CTRL_EN ∨ s.flag Reg.SCAN.STAT_RUN then s.use r else s.get r

def scanBpc (s : State) : Nat := match s.scanUse Reg.SCAN.LINKCFG_BPC with | 0 => 6 | 2 => 10 | _ => 8
def scanLanes (s : State) : Nat := match s.scanUse Reg.SCAN.LINKCFG_LANES with | 0 => 1 | 1 => 2 | _ => 4
/-- The lane rate in Mb/s. -/
def scanRate (s : State) : Nat :=
  match s.scanUse Reg.SCAN.LINKCFG_RATE with | 0 => 1620 | 1 => 2700 | 2 => 5400 | _ => 8100

/-- The DRAM bandwidth a scan-out needs, in kb/s (R323); its rounding is open. -/
def scanKbps (s : State) : Nat :=
  let u := fun r => s.scanUse r
  (divFree 323 (u Reg.SCAN.HTIM_HACT * u Reg.SCAN.VTIM_VACT * scanBpp (u Reg.SCAN.FBCFG_FMT) * u Reg.SCAN.PIXCLK)
    (max 1 (u Reg.SCAN.HTIM_HTOTAL * u Reg.SCAN.VTIM_VTOTAL))).toNat

/-- The first start check that fails, but for training (R323, R325). -/
def scanCheck (s : State) : Nat :=
  let u := fun r => s.scanUse r
  let clk := u Reg.SCAN.PIXCLK
  let pitch := u Reg.SCAN.FBCFG_PITCH
  if clk < 25000 ∨ 594000 < clk ∨ u Reg.SCAN.HTIM_HACT = 0 ∨ u Reg.SCAN.VTIM_VACT = 0 ∨
      u Reg.SCAN.HTIM_HTOTAL < u Reg.SCAN.HTIM_HACT + u Reg.SCAN.HSYNC_HFP + u Reg.SCAN.HSYNC_HSW ∨
      u Reg.SCAN.VTIM_VTOTAL < u Reg.SCAN.VTIM_VACT + u Reg.SCAN.VSYNC_VFP + u Reg.SCAN.VSYNC_VSW ∨
      pitch % 64 ≠ 0 ∨ 8 * pitch < u Reg.SCAN.HTIM_HACT * scanBpp (u Reg.SCAN.FBCFG_FMT) then 3
  else if s.scanLanes * s.scanRate * 800 < clk * 3 * s.scanBpc then 1
  else if !s.chargeFits s.scanKbps 0 then 2
  else if !s.scan.hpd then 5
  else 0

/-- A start is refused. -/
def scanRefused (err : Nat) (s : State) : State :=
  ((((s.set Reg.SCAN.STAT_STARTERR err).set Reg.SCAN.STAT_RUN 0).set Reg.SCAN.STAT_LSTATE 0).updScan fun x =>
    { x with starting := false }).raise 1349 [err]

/-- EN is set: the checks, then the training of the link (R323). -/
def scanStart (s : State) : State :=
  let s := ((s.set Reg.SCAN.STAT_STARTERR 0).set Reg.SCAN.STAT_RUN 0).set Reg.SCAN.FRAMECNT 0
  let e := s.scanCheck
  if e ≠ 0 then s.scanRefused e
  else (s.set Reg.SCAN.STAT_LSTATE 1).updScan fun x =>
    { x with starting := true, idle := 0, flipped := false, toShow := false, fromPsr := false }

/-- A request waiting for the AUX channel is sent when training has ended (R329). -/
def auxSend (s : State) : State :=
  match s.scan.aux with
  | some q =>
      let bytes := if q.op = 2 ∨ q.op = 4 then
          ((List.range 4).map fun k => leBytes 4 (s.get (Reg.SCAN.AUXDATA k))).flatten.take q.len
        else []
      (s.updScan fun x => { x with aux := some { q with sentAt := s.now }, auxWaits := false }).emit (.aux q.op q.addr q.len bytes)
  | none => s

/-- The link goes DOWN; a training that this ends gives the AUX channel back (R329). -/
def scanDown (failed : Bool) (s : State) : State :=
  (((s.set Reg.SCAN.STAT_LSTATE 4).updScan fun x =>
    { x with trainFailed := failed, fromPsr := false, downAt := s.now }).raise 1345 []).when s.scan.auxWaits auxSend

/-- Link training ends. -/
def scanTrained (ok psr : Bool) (s : State) : State :=
  if s.get Reg.SCAN.STAT_LSTATE ≠ 1 then s
  else
    let s :=
      if ok then
        let first := s.scan.starting
        let k := s.scanKbps
        let s := (s.set Reg.SCAN.STAT_LSTATE 2).updScan fun x =>
          { x with starting := false, fromPsr := false, trainFailed := false, psrPanel := psr, idle := 0 }
        s.when first fun t =>
          ((t.set Reg.SCAN.STAT_RUN 1).charge k 0).updScan fun x => { x with kbps := k }
      else if s.scan.starting then s.scanRefused 4
      else s.scanDown true
    s.when s.scan.auxWaits auxSend

/-- Training begins again. -/
def scanTrain (s : State) : State := (s.set Reg.SCAN.STAT_LSTATE 1).updScan fun x => { x with trainFailed := false }

/-- EDP_HPD rises or falls (R324). -/
def hpdEdge (high : Bool) (s : State) : State :=
  let s := s.updScan fun x => { x with hpd := high }
  let l := s.get Reg.SCAN.STAT_LSTATE
  if high then s.when (l == 4) scanTrain
  else if l = 2 ∨ l = 3 ∨ (l = 1 ∧ !s.scan.starting) then s.scanDown false
  else s

/-- A DOWN link retries training, 1 s after the training that failed (R324). -/
def scanRetry (s : State) : State :=
  s.when (s.get Reg.SCAN.STAT_LSTATE == 4 && s.scan.trainFailed &&
    decide (s.scan.downAt + 1000000000 ≤ s.now)) scanTrain

/-- An exit from self-refresh is requested (R328). -/
def psrExit (s : State) : State :=
  s.when (s.get Reg.SCAN.STAT_LSTATE == 3) fun t => (t.scanTrain).updScan fun x => { x with fromPsr := true }

/-- EN is cleared: the charge is released and the link goes OFF, out of self-refresh and training alike (R323, R324). -/
def scanStop (s : State) : State :=
  (((s.uncharge s.scan.kbps 0).set Reg.SCAN.STAT_LSTATE 0).updScan fun x =>
    { x with kbps := 0, starting := false, fromPsr := false, trainFailed := false, idle := 0 }).when s.scan.auxWaits auxSend

/-! ### Flips (R327) -/

/-- A write of FLIP takes effect. -/
def flipLand (data : Word) (s : State) : State :=
  if data.toNat % 2 = 0 then s
  else
    let a := s.getLow Reg.SCAN.NEXTLO * 64 + s.get Reg.SCAN.NEXTHI * 2 ^ 32
    let size := s.scanUse Reg.SCAN.FBCFG_PITCH * s.scanUse Reg.SCAN.VTIM_VACT
    if s.dramUsableMib * 1048576 < a + size ∨ s.dramUsableMib * 1048576 ≤ a then s.raise 1347 [a]
    else if s.flag Reg.SCAN.STAT_RUN then
      let s := s.when (s.flag Reg.SCAN.STAT_FLIPPEND) (bump Reg.SCAN.CNT_REPLACED 1)
      ((s.set Reg.SCAN.STAT_FLIPPEND 1).updScan fun x => { x with next := a, flipped := true, idle := 0 }).psrExit
    else (s.set Reg.SCAN.CURLO (a / 64)).set Reg.SCAN.CURHI (a / 2 ^ 32)

/-- At the latch point the pending buffer becomes CUR; not while a training that leaves self-refresh goes on. -/
def scanLatch (s : State) : State :=
  if s.flag Reg.SCAN.STAT_RUN ∧ s.flag Reg.SCAN.STAT_FLIPPEND ∧ !s.scan.fromPsr ∧ s.get Reg.SCAN.STAT_LSTATE ≠ 3 then
    let a := s.scan.next
    (((s.set Reg.SCAN.CURLO (a / 64)).set Reg.SCAN.CURHI (a / 2 ^ 32)).set Reg.SCAN.STAT_FLIPPEND 0).updScan fun x =>
      { x with toShow := true }
  else s

/-- The picture of the buffer in use. -/
def scanPicture (s : State) : List Rgb :=
  let fmt := s.scanUse Reg.SCAN.FBCFG_FMT
  let n := scanBpp fmt / 8
  let base := s.get Reg.SCAN.CURLO * 64 + s.get Reg.SCAN.CURHI * 2 ^ 32
  ((List.range (s.scanUse Reg.SCAN.VTIM_VACT)).map fun y => (List.range (s.scanUse Reg.SCAN.HTIM_HACT)).map fun x =>
    scanPixel fmt s.scanBpc (Memory.readN s.dram.mem (base + y * s.scanUse Reg.SCAN.FBCFG_PITCH + x * n) n)).flatten

/-- Lines of the frame have gone black for want of DRAM data (R326). -/
def scanLate (lines : Nat) (s : State) : State := (s.bump Reg.SCAN.CNT_UNDERRUN lines).raiseLimited 0x7A000000 1346 []

/-- The frame last sent to the panel, with a line black. -/
def blackLine (w line : Nat) : List Output → List Output
  | [] => []
  | .panel p :: l => .panel (p.take (line * w) ++ List.replicate (min w (p.length - line * w)) ⟨0, 0, 0⟩ ++ p.drop (line * w + w)) :: l
  | o :: l => o :: blackLine w line l

/-- A line comes too late from DRAM: the frame being sent has that line black (R326). Which line it is, is free. -/
def scanUnderrun (s : State) : State :=
  if s.get Reg.SCAN.STAT_LSTATE = 2 then
    let f := s.fresh
    let line := f.1 % max 1 (s.scanUse Reg.SCAN.VTIM_VACT)
    ({ f.2 with out := blackLine (s.scanUse Reg.SCAN.HTIM_HACT) line s.out }).scanLate 1
  else s

/-- The frame as the panel receives it: while the DRAM refuses every request each of its lines is late, and so black (R326, R444). -/
def scanSend (s : State) : State :=
  if s.dramUp then s.emit (.panel s.scanPicture)
  else
    let rows := s.scanUse Reg.SCAN.VTIM_VACT
    (s.emit (.panel (List.replicate (rows * s.scanUse Reg.SCAN.HTIM_HACT) ⟨0, 0, 0⟩))).scanLate rows

/-- A frame start: it is counted in every state but OFF; the first frame of a new buffer that is sent is stamped (R327, R328). -/
def scanFrame (s : State) : State :=
  let l := s.get Reg.SCAN.STAT_LSTATE
  if l = 0 then s
  else
    let s := s.bump Reg.SCAN.FRAMECNT 1
    let s := s.updScan fun x => { x with idle := if x.flipped then 0 else x.idle + 1, flipped := false }
    let s := s.when (s.scan.toShow && l == 2) fun t =>
      ((t.bump Reg.SCAN.FLIPSEQ 1).set64 Reg.SCAN.FLIPTSLO Reg.SCAN.FLIPTSHI t.timeNs).updScan fun x => { x with toShow := false }
    s.when (l == 2) scanSend

/-- The block enters self-refresh after IDLEFR frames without a flip (R328). -/
def psrEntry (accepted : Bool) (s : State) : State :=
  if s.get Reg.SCAN.STAT_LSTATE = 2 ∧ s.flag Reg.SCAN.PSRCFG_EN ∧ s.scan.psrPanel ∧ !s.flag Reg.SCAN.STAT_FLIPPEND ∧
      max 2 (s.get Reg.SCAN.PSRCFG_IDLEFR) ≤ s.scan.idle then
    let s := s.emit .psrEntry
    if accepted then s.set Reg.SCAN.STAT_LSTATE 3 else s.raise 1348 []
  else s

/-! ### The AUX mailbox (R329) -/

/-- A write of AUXCMD takes effect. -/
def auxCmdLand (data : Word) (s : State) : State :=
  let op := bits data.toNat 31 28
  if s.scan.aux.isSome ∨ op = 0 ∨ 4 < op then s
  else
    let q : AuxReq := { op := op, addr := bits data.toNat 23 4, len := bits data.toNat 3 0 + 1, defers := 0, sentAt := s.now }
    let training := s.get Reg.SCAN.STAT_LSTATE == 1
    let s := (s.set Reg.SCAN.AUXRES_DONE 0).updScan fun x => { x with aux := some q, auxWaits := training }
    s.when (!training) auxSend

/-- A request is answered. -/
def auxDone (code : Nat) (s : State) : State :=
  ((s.set Reg.SCAN.AUXRES_DONE 1).set Reg.SCAN.AUXRES_CODE code).updScan fun x => { x with aux := none, auxWaits := false }

/-- The panel replies: DEFER is retried up to seven times. -/
def auxReply (code : Nat) (bytes : List Byte) (s : State) : State :=
  match s.scan.aux with
  | none => s
  | some q =>
      if s.scan.auxWaits then s
      else if code = 0 then
        let s := if q.op = 1 ∨ q.op = 3 then
            let old := ((List.range 4).map fun k => leBytes 4 (s.get (Reg.SCAN.AUXDATA k))).flatten
            let all := bytes.take q.len ++ old.drop (bytes.take q.len).length
            s.each (List.range 4) fun k t => t.set (Reg.SCAN.AUXDATA k) (leNat ((all.drop (4 * k)).take 4))
          else s
        s.auxDone 0
      else if code = 1 then s.auxDone 1
      else if q.defers < 7 then (s.updScan fun x => { x with aux := some { q with defers := q.defers + 1 } }).auxSend
      else s.auxDone 2

end State

/-- SCAN_TRAIN_DONE (R324). -/
def execScanTrainDone (ok psr : Bool) (s : State) : Host.Outcome State Fault Refusal := .next (s.scanTrained ok psr)

/-- EDP_HPD_EDGE (R324). -/
def execEdpHpdEdge (high : Bool) (s : State) : Host.Outcome State Fault Refusal := .next (s.hpdEdge high)

/-- SCAN_TRAIN_RETRY (R324). -/
def execScanTrainRetry (s : State) : Host.Outcome State Fault Refusal := .next s.scanRetry

/-- SCAN_LATCH_POINT (R327). -/
def execScanLatchPoint (s : State) : Host.Outcome State Fault Refusal := .next s.scanLatch

/-- SCAN_FRAME_START (R327). -/
def execScanFrameStart (s : State) : Host.Outcome State Fault Refusal := .next s.scanFrame

/-- UNDERRUN (R326) of a line of the frame. -/
def execUnderrun (s : State) : Host.Outcome State Fault Refusal := .next s.scanUnderrun

/-- PSR_ENTRY (R328). -/
def execPsrEntry (accepted : Bool) (s : State) : Host.Outcome State Fault Refusal := .next (s.psrEntry accepted)

/-- AUX_REPLY (R329). -/
def execAuxReply (code : Nat) (bytes : List Byte) (s : State) : Host.Outcome State Fault Refusal :=
  .next (s.auxReply code bytes)

/-- AUX_TIMEOUT (R329): no reply for 400 µs. -/
def execAuxTimeout (s : State) : Host.Outcome State Fault Refusal :=
  .next (match s.scan.aux with
    | some q => if s.scan.auxWaits ∨ s.now < q.sentAt + 400000 then s else s.auxDone 3
    | none => s)

/-- EDP_LINK_LOSS (R324). -/
def execEdpLinkLoss (s : State) : Host.Outcome State Fault Refusal :=
  .next (if s.get Reg.SCAN.STAT_LSTATE = 2 then s.scanDown false else s)

end Sys2Proof.Machine
end

