-- ==== Sys2Proof/Machine/Create.lean ====
section
/-! DEFINITION. Chapter 4: creation of channels and druses with the checks of R101 and the parameters of each kind
(R74, R75, R79–R84, R184, R197, R199, R214, R250, R273, R294), waiting for compaction and for a PLL (R88, R335), and
CHN's events. -/

namespace Sys2Proof.Machine

/-! ### Arguments -/

/-- Kind, plane, lowest lane and stream of creation arguments. -/
def argKind (a : List Nat) : Nat := bits (a.getD 0 0) 31 28
def argPlane (a : List Nat) : Nat := bits (a.getD 0 0) 17 14
def argLane (a : List Nat) : Nat := bits (a.getD 0 0) 27 19
def argStream (a : List Nat) : Nat := bits (a.getD 0 0) 18 18
def argFmt (a : List Nat) : Nat := a.getD 1 0
def argSet (a : List Nat) : Nat := a.getD 2 0

/-- The source field, where the kind has one (R81): 0 a lane, 1 a test generator, 2 a flow, 3 an F-lane slot half. -/
def argSource (a : List Nat) : Nat := bits (a.getD 0 0) 13 12

/-- Kinds that name a lane or a flow. -/
def carried (kind : Nat) : Bool := decide (1 ≤ kind) && decide (kind ≤ 6)

/-- A creation on an IP flow. -/
def onFlow (a : List Nat) : Bool := carried (argKind a) && argSource a == 2

/-- A video channel on S-mode lanes, on a slot half, or a test generator. -/
def onLanes (a : List Nat) : Bool := decide (argKind a ≤ 2) && argSource a == 0
def onHalf (a : List Nat) : Bool := decide (argKind a ≤ 2) && argSource a == 3
def isGenerator (a : List Nat) : Bool := argKind a == 1 && argSource a == 1

/-- The lanes of a video channel on S-mode lanes (R180). -/
def argLanes (a : List Nat) : List Nat := (List.range (mapLanes (fmtMap (argFmt a)))).map fun k => argLane a + k

/-- The handles a creation names, with the kinds that may stand there (R97, R197, R199, R241, R251). -/
def namedHandles (a d : List Nat) : List (Nat × List Nat) :=
  let w := d.getD 15 0
  match argKind a with
  | 3 => if w = 0 then [] else [(w, [1])]
  | 4 => if w = 0 then [] else [(w, [2])]
  | 5 => [(if onFlow a then w else argSet a, [1])]
  | 6 => if onFlow a then [(w, [if dFollow d then 2 else 5])] else [(argSet a, [if bit (argFmt a) 30 then 2 else 5])]
  | 9 => [(argFmt a, [1])]
  | _ => []

namespace State

/-- The first of several judgements that is not 0. -/
def firstBad (l : List (Nat × List Nat)) (s : State) : Nat :=
  match l with
  | [] => 0
  | p :: ps => let c := s.judgeHandle p.1 p.2; if c = 0 then s.firstBad ps else c

/-! ### Step 2: well-formed parameters -/

/-- A format word that a plane cannot carry: malformed, or of another frame rate. -/
def fmtBad (w plane : Nat) (s : State) : Bool := !fmtWell w || fmtRate w != s.planeRate plane

/-- Lanes of a video channel that are not all in S-mode (R184), and placement of a multi-lane essence (R180). -/
def lanesBad (a : List Nat) (s : State) : Bool :=
  let rx := argKind a == 1
  s.fmtBad (argFmt a) (argPlane a) || (argStream a == 1 && fmtMap (argFmt a) != 3) ||
    argLane a % mapLanes (fmtMap (argFmt a)) != 0 ||
    (argLanes a).any fun n => (if rx then s.cfgRxMode n else s.cfgTxMode n) != 1

/-- A test generator's parameters (R82). -/
def generatorBad (a : List Nat) (s : State) : Bool :=
  let pat := bits (argSet a) 3 0
  bits (a.getD 0 0) 27 18 != 0 || bits (a.getD 0 0) 11 0 != 0 || s.fmtBad (argFmt a) (argPlane a) ||
    !fmtMapRight (argFmt a) || decide (5 < pat) || bits (argSet a) 31 5 != 0 || bits (a.getD 3 0) 31 30 != 0 ||
    (pat != 4 && a.getD 3 0 != 0)

/-- A slot half's parameters (R84). -/
def halfBad (a : List Nat) (s : State) : Bool :=
  let n := argLane a
  bits (a.getD 0 0) 11 0 != 0 || s.fmtBad (argFmt a) (argPlane a) ||
    (if argKind a = 1 then s.cfgRxMode n else s.cfgTxMode n) != 3 || s.get (Reg.LANE.CTRL_EN n) == 0 ||
    (!s.laneRuns n && (s.laneHw n).ents == []) || (s.laneHw n).ents == []

/-- A flow's parameters (R213, R214). -/
def flowArgsBad (a d : List Nat) (s : State) : Bool :=
  let k := argKind a
  bits (a.getD 0 0) 27 18 != 0 || bits (a.getD 0 0) 11 4 != 0 || (decide (3 ≤ k) && argFmt a != 0) ||
    (k != 2 && argSet a != 0) || s.flowBad k (argPlane a) (argFmt a) d

/-- The coupled list a flow would lengthen stays within 512 voices (R251). -/
def coupledTooLong (a d : List Nat) (s : State) : Bool :=
  let w := d.getD 15 0
  let add := 4 * ((dVoices d + 3) / 4)
  if w = 0 then false
  else
    match argKind a with
    | 3 => decide (512 < (s.coupledIn (handleIdx w)).length + add)
    | 4 => decide (512 < (s.coupledOut (handleIdx w)).length + add)
    | _ => false

/-- A converter's parameters (R273). -/
def converterBad (a : List Nat) (s : State) : Bool :=
  let inPlane := bits (a.getD 0 0) 13 10
  let outF := argSet a
  bits (a.getD 0 0) 27 18 != 0 || bits (a.getD 0 0) 9 0 != 0 || inPlane == argPlane a || fmtRate (argFmt a) != fmtRate outF ||
    s.fmtBad (argFmt a) inPlane || s.fmtBad outF (argPlane a) || !fmtMapRight (argFmt a) || !fmtMapRight outF

/-- The parameters are not well formed. -/
def paramsBad (a d : List Nat) (s : State) : Bool :=
  match argKind a with
  | 1 => if onLanes a then s.lanesBad a else if isGenerator a then s.generatorBad a
      else if onFlow a then s.flowArgsBad a d else s.halfBad a
  | 2 => if onLanes a then s.lanesBad a else if onFlow a then s.flowArgsBad a d else if onHalf a then s.halfBad a else true
  | 3 => !onFlow a || s.flowArgsBad a d
  | 4 => !onFlow a || s.flowArgsBad a d
  | 5 => if onFlow a then s.flowArgsBad a d else argSource a != 0 || s.cfgRxMode (argLane a) != 1
  | 6 => if onFlow a then s.flowArgsBad a d else argSource a != 0 || s.cfgTxMode (argLane a) != 1
  | 7 => s.converterBad a
  | 8 => bits (a.getD 0 0) 27 18 != 0 || bits (a.getD 0 0) 13 0 != 0 || s.fmtBad (argFmt a) (argPlane a) ||
      !fmtMapRight (argFmt a)
  | 9 => bits (a.getD 0 0) 27 18 != 0 || bits (a.getD 0 0) 13 0 != 0 || (a.drop 2).any fun w => w != 0
  | 10 => false
  | _ => true

/-! ### Step 3: supported options -/

/-- The request asks for what is not supported (R75, R82, R84, R184, R214, R273, R294). -/
def unsupported (a d : List Nat) (s : State) : Bool :=
  match argKind a with
  | 7 => !fmtListed (argFmt a) || !fmtListed (argSet a) || fmtStruct (argFmt a) == 5 || fmtStruct (argSet a) == 5 ||
      (cnvStructs (argFmt a) (argSet a)).isNone
  | 8 => !fmtListed (argFmt a) || fmtStruct (argFmt a) == 5 || fmtStruct (argFmt a) == 2
  | 9 => fmtRate (s.chanFmt (handleIdx (argFmt a))) != s.planeRate (argPlane a)
  | k =>
      if onFlow a then s.flowUnsupported k (argFmt a) d
      else decide (1 ≤ k) && decide (k ≤ 2) && !fmtListed (argFmt a)

/-! ### Step 4: conflicts -/

/-- The channel registers of a lane's streams in a direction. -/
def laneChan (rx : Bool) (n stream : Nat) (s : State) : Nat :=
  let pg := sdiPage n
  match rx, stream with
  | true, 0 => s.get (Reg.SDI.RXCHAN pg)
  | true, _ => s.get (Reg.SDI.RXCHAN1 pg)
  | false, 0 => s.get (Reg.SDI.TXCHAN pg)
  | false, _ => s.get (Reg.SDI.TXCHAN1 pg)

/-- A lane is held for a video channel: its stream is taken, or the other stream carries another format (R184). -/
def laneTaken (a : List Nat) (n : Nat) (s : State) : Bool :=
  let rx := argKind a == 1
  let mine := s.laneChan rx n (argStream a)
  let other := s.laneChan rx n (1 - argStream a)
  mine != 0 || (other != 0 && fmtNoColr (s.chanFmt (handleIdx other)) != fmtNoColr (argFmt a)) ||
    (other != 0 && fmtMap (argFmt a) != 3)

/-- The entry of a slot half in a direction (R64, R84). -/
def halfEntry (a : List Nat) (s : State) : Nat :=
  (s.laneHw (argLane a)).ents.getD (if argKind a = 1 then argStream a else 2 + argStream a) 0

/-- A named lane, flow, stream or port is held by another channel. -/
def conflicts (a d : List Nat) (s : State) : Bool :=
  let k := argKind a
  if onFlow a then (k % 2 == 1 && s.flowConflict d)
  else if decide (k ≤ 2) && argSource a == 3 then
    (if k = 1 then s.get (Reg.FAB.ISE_HANDLE (s.halfEntry a)) else s.get (Reg.FAB.ESE_HANDLE (s.halfEntry a))) != 0
  else if onLanes a then
    (argLanes a).any (fun n => s.laneTaken a n) ||
      (k == 2 && (s.pllFor (argLane a / 4) (fmtFamily (argFmt a))).isNone)
  else if k = 6 then s.flag (Reg.SDI.ANCOUT_VALID (sdiPage (argLane a)))
  else false

/-! ### Steps 5 and 6: entries and units -/

/-- The channel-table index that the next creation takes (R96). -/
def nextEntry (s : State) : Option Nat :=
  if s.chn.nextIndex < 16384 then some s.chn.nextIndex else s.chn.freed.head?

/-- The druse-table entry that the next druse takes. -/
def nextDruse (s : State) : Option Nat := (List.range 4096).find? fun d => s.get (Reg.CHN.DRU_HANDLE d) == 0

/-- A free ST 2022-6 engine in a direction (R242). -/
def s6Engine (rx : Bool) (s : State) : Option Nat :=
  (List.range 64).find? fun k =>
    (if rx then s.get (Reg.SDI.RXCHAN (s6rPage k)) else s.get (Reg.SDI.TXCHAN (s6tPage k))) == 0

/-- Buffers of the side store that are taken (R99, R197): one for each anc-in and each anc-out. -/
def sideBuffers (s : State) : Nat := (s.chn.chans.filter fun p => p.2.kind == 5 || p.2.kind == 6).length

/-- Test generators on the chip (R82). -/
def generators (s : State) : Nat := (s.chn.chans.filter fun p => isGenerator p.2.args).length

/-- The stream of a frame-sync unit that a binding of a size takes (R74), as 4 × unit + stream. -/
def fsFit (size : Nat) (s : State) : Option Nat :=
  let free := (List.range 96).find? fun u => !s.flag (Reg.FAB.FS_CFG_BOUND u)
  if size = 0 then free.map fun u => 4 * u
  else
    let part := (List.range 384).find? fun q =>
      s.flag (Reg.FAB.FS_CFG_BOUND (q / 4)) && s.get (Reg.FAB.FS_CFG_MODE (q / 4)) == 1 &&
        !s.flag (Reg.FAB.FS_SCFG_VALID (q / 4) (q % 4))
    match part with
    | some q => some q
    | none => free.map fun u => 4 * u

/-- The stream size of a binding: 12G where its input's entry is, else 3G (R74). -/
def fsSize (a : List Nat) (s : State) : Nat :=
  if s.get (Reg.FAB.ISE_CFG_SIZE ((s.chanIng (handleIdx (argFmt a))).getD 0)) = 0 then 0 else 1

/-- The unit a creation takes: engine, flow, filter, stream or druse entry; none where no unit is free. A kind that
takes none answers 0. -/
def unitFor (a d : List Nat) (s : State) : Option Nat :=
  let k := argKind a
  if onFlow a then
    let f := if k % 2 = 1 then (List.range 4096).find? fun n => (Assoc.find s.ipm.rx n).isNone
      else (List.range 4096).find? fun n => (Assoc.find s.ipm.tx n).isNone
    if dType d = 4 ∧ (s.s6Engine (k % 2 == 1)).isNone then none
    else if (k = 5 ∨ k = 6) ∧ 512 ≤ s.sideBuffers then none
    else f
  else
    match k with
    | 1 => if isGenerator a ∧ 64 ≤ s.generators then none else some 0
    | 5 =>
        if 512 ≤ s.sideBuffers then none
        else (List.range 8).find? fun j => !s.flag (Reg.SDI.ANCF_EN (sdiPage (argLane a)) j)
    | 6 => if 512 ≤ s.sideBuffers then none else some 0
    | 7 => (List.range 32).find? fun n => s.get (Reg.CNV.CHAN n) == 0
    | 8 => (List.range 8).find? fun g => s.get (Reg.MICA.CHAN g) == 0
    | 9 => some ((s.fsFit (s.fsSize a)).getD 0)
    | 10 => s.nextDruse
    | _ => some 0

/-! ### Steps 7 to 9: slots, packet memory and DRAM -/

/-- Sizes of the ingress and egress entries a creation takes (R62, R99). -/
def entrySizes (a : List Nat) (s : State) : List Nat × List Nat :=
  match argKind a with
  | 1 => if argSource a = 3 then ([], []) else ([fmtSize (argFmt a)], [])
  | 2 => if argSource a = 3 then ([], []) else ([], [fmtSize (argFmt a)])
  | 7 => ([0], [0])
  | 8 => ([0], [])
  | 9 => ([s.fsSize a], [s.fsSize a])
  | _ => ([], [])

/-- What a creation is charged: DRAM kb/s and pages, and packet memory as rate × horizon (R31, R80, R166, R231, R319). -/
def charges (a d : List Nat) (s : State) : Nat × Nat × Nat :=
  match argKind a with
  | 1 => (0, 0, if onFlow a then dRate d * s.horizonOf d (argPlane a) else 0)
  | 2 =>
      let f := argFmt a
      if bit (argSet a) 28 then (rateAt f (fmtNominal f), pagesOf (2 * frameBytes f (fmtNominal f)), 0) else (0, 0, 0)
  | 3 => (2 * dRate d, pagesOf ((dRate d * s.horizonOf d (argPlane a) + 7999) / 8000), 0)
  | 8 =>
      let f := argFmt a
      let px := 2 * fmtWidth f * fmtHeight f
      ((rateAt f (px * 32 * fmtFps f) + 999) / 1000, pagesOf (px * 4), 0)
  | 9 =>
      let f := s.chanFmt (handleIdx (argFmt a))
      (2 * rateAt f (fmtNominal f), pagesOf (3 * frameBytes f (fmtNominal f)), 0)
  | _ => (0, 0, 0)

/-- Packet memory holds a further charge (R31). -/
def pmemFits (add : Nat) (s : State) : Bool :=
  decide (sumList (s.chn.chans.map fun p => p.2.pmem) + add ≤ 67108864 * 8000)

/-- Voice granules of a creation, in and out (R250). -/
def voiceNeed (a d : List Nat) : Nat × Nat :=
  let groups := (maskGroups (argFmt a) (bits (argSet a) 7 0)).length * mapLanes (fmtMap (argFmt a))
  match argKind a with
  | 1 => if onLanes a then (groups, 0) else (0, 0)
  | 2 => if onLanes a then (0, groups) else (0, 0)
  | 3 => ((dVoices d + 3) / 4, 0)
  | 4 => (0, (dVoices d + 3) / 4)
  | _ => (0, 0)

/-- The result of a creation's checks in order (R101, R216, R250). -/
def createCode (a d : List Nat) (s : State) : Nat :=
  let h := s.firstBad (namedHandles a d)
  let sz := s.entrySizes a
  let ch := s.charges a d
  let v := voiceNeed a d
  if s.get Reg.CHN.CTRL_EN = 0 then 16
  else if s.paramsBad a d then 11
  else if h ≠ 0 then h
  else if s.coupledTooLong a d then 11
  else if s.unsupported a d then 10
  else if s.conflicts a d then 12
  else if s.nextEntry = none ∨ (argKind a = 10 ∧ s.nextDruse = none) then 5
  else if s.unitFor a d = none then 6
  else if !s.budgetFits sz.1 sz.2 ∨ (argKind a = 9 ∧ s.fsFit (s.fsSize a) = none) then 7
  else if ch.2.2 ≠ 0 ∧ !s.pmemFits ch.2.2 then 8
  else if (ch.1 ≠ 0 ∨ ch.2.1 ≠ 0) ∧ !s.chargeFits ch.1 ch.2.1 then 9
  else if onFlow a ∧ !s.portBwOk d (argKind a % 2 == 0) then 26
  else if s.freeGranules Reg.AUD.IGR_VALID v.1 = none ∨ s.freeGranules Reg.AUD.OGR_VALID v.2 = none then 27
  else 0

/-! ### Tables and events -/

/-- TABLE_LOW (R116): entering the low condition, and re-arming. -/
def judgeLow (enter : Bool) (s : State) : State :=
  let low := decide (16384 - s.get Reg.CHN.COUNT_USED < s.get Reg.CHN.LOWMARK)
  if low ∧ enter ∧ !s.chn.low then (s.updChn fun x => { x with low := true }).raise 91 [16384 - s.get Reg.CHN.COUNT_USED]
  else if !low then s.updChn fun x => { x with low := false }
  else s

/-- CHN.COUNT. -/
def showCount (s : State) : State :=
  (s.set Reg.CHN.COUNT_USED s.chn.chans.length).set Reg.CHN.COUNT_DRUSED s.chn.druses.length

/-- A request is refused, with the event of a creation (R116) and of a stale handle (R97). -/
def createRefused (code : Nat) (a d : List Nat) (s : State) : State :=
  let stale := match (namedHandles a d).find? fun p => s.judgeHandle p.1 p.2 == 3 with
    | some p => p.1
    | none => 0
  let s := s.staleIf code s.boxSession stale
  let s := (s.when (code == 7) (fabEvent 12 [a.getD 0 0])).when (code == 27) (audEvent 1 [a.getD 0 0])
  (s.raise 90 [code, a.getD 0 0]).chnResult code

/-! ### Opening a channel -/

/-- An output's safe state, recovery and hold buffer (R165–R167, R178): a refused safe state becomes MARK. -/
def openOut (e set_ : Nat) (image : Bool) (s : State) : State :=
  let safe := bits set_ 31 30
  let s := (((s.wr (Reg.PROV.OUT_SAFE e).addr 0).set (Reg.PROV.OUT_HOLDBUF e) (bits set_ 28 28)).set (Reg.PROV.OUT_RECOV e)
    (bits set_ 29 29)).chkinvStruckAt 5 e
  if s.safeRefused e safe (image && s.chn.twinListed) then s.safeRefuse e else s.set (Reg.PROV.OUT_SAFE e) safe

/-- The entries of a channel stand in its table entry. -/
def showIng (i e : Nat) (s : State) : State := (s.set (Reg.CHN.ENT_RES_INGV i) 1).set (Reg.CHN.ENT_RES_INGENT i) e
def showEgr (i e : Nat) (s : State) : State := (s.set (Reg.CHN.ENT_RES_EGV i) 1).set (Reg.CHN.ENT_RES_EGENT i) e

/-- A video-in takes its entry and its source. -/
def openVideoIn (i h unit e : Nat) (w : CreateWait) (s : State) : State :=
  let a := w.args
  let f := argFmt a
  if onHalf a then
    let e := s.halfEntry a
    let s := ((s.set (Reg.FAB.ISE_HANDLE e) h).set (Reg.FAB.ISE_CFG_SIZE e) (fmtSize f)).set (Reg.FAB.ISE_CFG_PLANE e) (argPlane a)
    (s.updIng e fun _ => { Ingress.fresh f true with writing := false }).showIng i e
  else
    let path := if isGenerator a then 6 else if onFlow a then 2 else if mapLanes (fmtMap f) = 1 then 0 else 1
    let s := (s.openIng e (fmtSize f) (argPlane a) path h f false).showIng i e
    if isGenerator a then s
    else if onFlow a then
      let s := s.openRxf unit i h w.desc (argPlane a)
      match (if dType w.desc = 4 then s.s6Engine true else none) with
      | some k => (s.set (Reg.SDI.RXCHAN (s6rPage k)) h).updIng e fun x => { x with writing := false }
      | none => s
    else
      let s := s.each (argLanes a) fun n t =>
        let pg := sdiPage n
        let t := if argStream a = 1 then t.set (Reg.SDI.RXCHAN1 pg) h else t.set (Reg.SDI.RXCHAN pg) h
        let t := (t.updPid n (argStream a) fun x => { x with missing := 0, bad := none }).updRx n fun x =>
          { x with fmtOk := false, rates := x.rates.filter fun r => r.1 / 8 != argStream a }
        t.set (Reg.SDI.RXAUD pg) (bits (argSet a) 7 0 ||| if t.laneChan true n (1 - argStream a) = 0 then 0 else t.get (Reg.SDI.RXAUD pg))
      s.updIng e fun x => { x with writing := false }

/-- A video-out takes its entry, its lanes or its flow. -/
def openVideoOut (i h unit e : Nat) (w : CreateWait) (s : State) : State :=
  let a := w.args
  let f := argFmt a
  if onHalf a then
    let e := s.halfEntry a
    let s := ((s.set (Reg.FAB.ESE_HANDLE e) h).set (Reg.FAB.ESE_CFG_SIZE e) (fmtSize f)).set (Reg.FAB.ESE_CFG_PLANE e) (argPlane a)
    ((s.updEgr e fun _ => Egress.fresh f true).openOut e (argSet a) w.image).showEgr i e
  else
    let kind := if onFlow a then 2 else if mapLanes (fmtMap f) = 1 then 0 else 1
    let s := ((s.openEgr e (fmtSize f) (argPlane a) kind h f false).openOut e (argSet a) w.image).showEgr i e
    if onFlow a then
      let s := s.openTxf unit i h w.desc
      match (if dType w.desc = 4 then s.s6Engine false else none) with
      | some k => (s.set (Reg.SDI.TXCHAN (s6tPage k)) h).set (Reg.SDI.TXFMT (s6tPage k)) f
      | none => s
    else
      let s := s.each (argLanes a) fun n t =>
        let pg := sdiPage n
        let t := if argStream a = 1 then t.set (Reg.SDI.TXCHAN1 pg) h else t.set (Reg.SDI.TXCHAN pg) h
        (t.set (Reg.SDI.TXFMT pg) f).set (Reg.SDI.TXSTAT_EMBGRP pg)
          (bits (argSet a) 7 0 ||| if t.laneChan false n (1 - argStream a) = 0 then 0 else t.get (Reg.SDI.TXSTAT_EMBGRP pg))
      match s.pllFor (argLane a / 4) (fmtFamily f) with
      | some p => s.assignPll (argLane a) (mapLanes (fmtMap f)) p (fmtFamily f)
      | none => s

/-- An anc-in takes its filter or flow, and a buffer of the side store (R197, R241). -/
def openAncIn (i h unit : Nat) (w : CreateWait) (s : State) : State :=
  let a := w.args
  let s := s.updSdi fun x => { x with anc := Assoc.put x.anc i { cur := [], done := [], turn := 0 } }
  if onFlow a then s.openRxf unit i h w.desc (argPlane a)
  else
    let pg := sdiPage (argLane a)
    ((((s.set (Reg.SDI.ANCF_EN pg unit) 1).setB (Reg.SDI.ANCF_SDIDANY pg unit) (bit (argFmt a) 30)).set
      (Reg.SDI.ANCF_CHIDX pg unit) i).set (Reg.SDI.ANCF_DID pg unit) (bits (argFmt a) 15 8)).set
      (Reg.SDI.ANCF_SDID pg unit) (bits (argFmt a) 7 0)

/-- An anc-out takes its TX half or flow (R199, R241). -/
def openAncOut (i h unit : Nat) (w : CreateWait) (s : State) : State :=
  let a := w.args
  if onFlow a then s.openTxf unit i h w.desc
  else
    let pg := sdiPage (argLane a)
    ((s.set (Reg.SDI.ANCOUT_VALID pg) 1).setB (Reg.SDI.ANCOUT_FOLLOW pg) (bit (argFmt a) 30)).set (Reg.SDI.ANCOUT_REFIDX pg)
      (handleIdx (argSet a))

/-- A frame-sync binding takes its stream (R74, R75, R77). -/
def openSync (i h unit ei eo : Nat) (w : CreateWait) (s : State) : State :=
  let a := w.args
  let u := unit / 4
  let k := unit % 4
  let f := s.chanFmt (handleIdx (argFmt a))
  let size := s.fsSize a
  let input := (s.chanIng (handleIdx (argFmt a))).getD 0
  let s := (s.openIng ei size (argPlane a) 7 h f false).showIng i ei
  let s := ((s.openEgr eo size (argPlane a) 5 h f false).showEgr i eo).repoint eo (argFmt a)
  let s := s.updFab fun x =>
    { x with fs := Assoc.put x.fs unit { chan := i, input := handleIdx (argFmt a), ring := [], seq := 0, lastRead := none, returns := 0 } }
  let s := ((s.set (Reg.FAB.FS_CFG_BOUND u) 1).setB (Reg.FAB.FS_CFG_MODE u) (size != 0)).orBit (Reg.FAB.FS_CFG_STREAMS u) k
  let s := (((s.set (Reg.FAB.FS_SCFG_VALID u k) 1).set (Reg.FAB.FS_SCFG_PLANE u k) (argPlane a)).set (Reg.FAB.FS_SCFG_RDENT u k)
    eo).set (Reg.FAB.FS_SCFG_RETENT u k) ei
  if s.get (Reg.FAB.ISE_ALIGN_STATE input) = 0 then s.fsNoInput unit else s

/-- The granules of a new channel, and the couplings that follow (R250, R251). -/
def openVoices (i : Nat) (gin gout : List Nat) (w : CreateWait) (s : State) : State :=
  let first := if argKind w.args = 4 then (s.coupledOut (handleIdx (w.desc.getD 15 0))).length else 0
  let s := ((s.updChan i fun c => { c with gin := gin, gout := gout }).giveIn i gin).giveOut i gout
  let out := if argKind w.args = 2 then some i
    else if argKind w.args = 4 ∧ w.desc.getD 15 0 ≠ 0 then some (handleIdx (w.desc.getD 15 0)) else none
  let s := match out with
    | some o => s.coupleVoices o first
    | none => s
  s.showVoices

/-- A channel opens at an index of the channel table, with its entries given (R96, R101). -/
def openAt (i : Nat) (w : CreateWait) (eis eos : List Nat) (s : State) : State :=
  let a := w.args
  let d := w.desc
  let kind := argKind a
  let h := mkHandle kind i (handleGen (s.get (Reg.CHN.ENT_HANDLE i)))
  let unit := (s.unitFor a d).getD 0
  let ch := w.charges
  let v := voiceNeed a d
  let gin := (s.freeGranules Reg.AUD.IGR_VALID v.1).getD []
  let gout := (s.freeGranules Reg.AUD.OGR_VALID v.2).getD []
  let ei := eis.headD 0
  let eo := eos.headD 0
  let c : Chan := { kind := kind, args := a, desc := d, order := s.chn.order, unit := unit, live := true, kbps := ch.1,
                    pages := ch.2.1, pmem := ch.2.2, gin := [], gout := [] }
  let s := s.updChn fun x =>
    { x with chans := Assoc.put x.chans i c, order := x.order + 1, nextIndex := max x.nextIndex (i + 1),
             freed := x.freed.filter fun k => k != i }
  let s := ((((s.set (Reg.CHN.ENT_HANDLE i) h).wr (Reg.CHN.ENT_RES_INGV i).addr 0).set (Reg.CHN.ENT_STATE_STATE i) 1).setB
    (Reg.CHN.ENT_STATE_IMAGE i) w.image).chkinvStruckAt 3 i
  let s := match kind with
    | 1 => s.openVideoIn i h unit ei w
    | 2 => s.openVideoOut i h unit eo w
    | 3 => s.openRxf unit i h d (argPlane a)
    | 4 => s.openTxf unit i h d
    | 5 => s.openAncIn i h unit w
    | 6 => s.openAncOut i h unit w
    | 7 =>
        let inPlane := bits (a.getD 0 0) 13 10
        let s := (s.openIng ei (fmtSize (argSet a)) (argPlane a) 4 h (argSet a) true).showIng i ei
        let s := (s.openEgr eo (fmtSize (argFmt a)) inPlane 4 h (argFmt a) true).showEgr i eo
        s.cnvOpen unit h (argFmt a) (argSet a) inPlane (argPlane a) w.image
    | 8 =>
        let s := (s.openIng ei (fmtSize (argFmt a)) (argPlane a) 5 h (argFmt a) true).showIng i ei
        s.micaOpen unit h (argFmt a) (argPlane a) (bits (argSet a) 29 0)
    | 9 => s.openSync i h unit ei eo w
    | _ => (s.set (Reg.CHN.DRU_HANDLE unit) h).updChn fun x => { x with druses := Assoc.put x.druses unit [] }
  ((s.openVoices i gin gout w).when (ch.2.2 != 0) showPmem).showCount

/-- A creation that has passed its checks, at the index that the next creation takes. -/
def openChannel (w : CreateWait) (eis eos : List Nat) (s : State) : State :=
  let i := s.nextEntry.getD 0
  let s := s.openAt i w eis eos
  ((s.set Reg.CHN.RESHANDLE (s.get (Reg.CHN.ENT_HANDLE i))).judgeLow true).chnResult 0

/-- The quad and PLL a video-out must wait for (R335): its PLL takes a new family while the quad runs. -/
def pllWait (a : List Nat) (s : State) : Option (Nat × Nat) :=
  if onLanes a ∧ argKind a = 2 then
    let q := argLane a / 4
    match s.pllFor q (fmtFamily (argFmt a)) with
    | some p =>
        if s.quadRuns q ∧ (s.get (pllFamilyF q p) ≠ fmtFamily (argFmt a) ∨ s.flag (pllRetuneF q p)) then some (q, p) else none
    | none => none
  else none

/-- A creation that passed its checks is completed, or waits for a compaction or for a PLL (R88, R335). -/
def placeCreate (w : CreateWait) (s : State) : State :=
  let sz := s.entrySizes w.args
  match allocAll s.ingUse sz.1, allocAll s.egrUse sz.2 with
  | some eis, some eos =>
      match s.pllWait w.args with
      | some q =>
          let s := s.assignPll (argLane w.args) (mapLanes (fmtMap (argFmt w.args))) q.2 (fmtFamily (argFmt w.args))
          (s.setNeed .create sz.1 sz.2).updChn fun x => { x with waiting := some { w with retune := true, quad := q.1, pll := q.2 } }
      | none =>
          ((s.updChn fun x => { x with waiting := none }).dropNeed .create).openChannel w eis eos
  | _, _ =>
      let s := s.updChn fun x => { x with waiting := some { w with retune := false } }
      s.startCompaction .create sz.1 sz.2

/-- The descriptor that a creation on a flow names (R214). -/
def reqDesc (a : List Nat) (s : State) : List Nat :=
  if onFlow a then (List.range 16).map fun j => s.get (Reg.IPM.DESC_W (bits (a.getD 0 0) 3 0) j) else []

/-- CREATE: a creation that passes every check reserves all its resources together (R101). -/
def opCreate (image : Bool) (s : State) : State :=
  let a := (List.range 8).map s.reqArg
  let d := s.reqDesc a
  let code := s.createCode a d
  if code ≠ 0 then s.createRefused code a d
  else
    let ch := s.charges a d
    (s.when (ch.1 != 0 || ch.2.1 != 0) (charge ch.1 ch.2.1)).placeCreate
      { args := a, desc := d, image := image, retune := false, quad := 0, pll := 0, charges := ch }

/-- A creation that waited is taken up again. The slots it needs are counted in the budget already. -/
def resumeCreate (s : State) : State :=
  match s.chn.waiting with
  | some w => s.placeCreate w
  | none => s

/-- The PLL of a quad reports lock, and a creation that waits for it completes (R335). -/
def retuneDone (q p : Nat) (s : State) : State :=
  if s.quadRuns q ∧ s.flag (pllRetuneF q p) then
    let s := s.pllLocks q p
    match s.chn.waiting with
    | some w => if w.retune ∧ w.quad = q ∧ w.pll = p then s.resumeCreate else s
    | none => s
  else s

/-- The PLL does not lock within 10 ms: the creation is refused NO_UNIT, and the PLL is left free (R335). -/
def retuneTimeout (q p : Nat) (s : State) : State :=
  match s.chn.waiting with
  | some w =>
      if w.retune ∧ w.quad = q ∧ w.pll = p ∧ s.flag (pllRetuneF q p) ∧ s.pllOverdue q p then
        let s := s.quadCause q (1 + p)
        let s := s.assignPll (argLane w.args) (mapLanes (fmtMap (argFmt w.args))) 0 15
        let s := s.when (w.charges.1 != 0 || w.charges.2.1 != 0) (uncharge w.charges.1 w.charges.2.1)
        ((s.updChn fun x => { x with waiting := none }).dropNeed .create).createRefused 6 w.args w.desc
      else s
  | none => s

/-- A quad that stops ends the wait for its PLL: the creation completes at once (R335). -/
def quadStopCreate (q : Nat) (s : State) : State :=
  match s.chn.waiting with
  | some w => if w.retune ∧ w.quad = q then s.resumeCreate else s
  | none => s

/-! ### The end of a compaction (R88) -/

/-- Layers that wait for a compaction are placed, as they were admitted; one whose source has been destroyed meanwhile is refused,
and what it was admitted with goes back. -/
def resumeLayers (s : State) : State :=
  s.each (List.range 8) fun g t =>
    match (t.micaHw g).waitBind with
    | none => t
    | some w =>
        let code := t.judgeHandle w.src [1, 7, 8, 9]
        if code = 0 then t.placeBind g w
        else ((t.dropBind g).staleIf code w.session w.src).layResult g code

/-- Lanes that wait for a compaction start. -/
def resumeLanes (s : State) : State :=
  s.each ((s.lanes.lanes.filter fun p => p.2.starting).map (·.1)) laneStart

/-- The last move has been made: what waits is placed. -/
def compactDone (s : State) : State :=
  if s.fab.compact.isSome ∧ s.movesDone then
    let s := (s.updFab fun x => { x with compact := none }).set Reg.FAB.STAT_COMPACTING 0
    let s := s.fabEvent 8 []
    let s := match s.chn.waiting with
      | some w => if w.retune then s else s.resumeCreate
      | none => s
    s.resumeLayers.resumeLanes.showBudget
  else s

/-- CHN.LOWMARK takes a new value (R116). -/
def lowmarkLand (data : Word) (s : State) : State := (s.set Reg.CHN.LOWMARK data.toNat).judgeLow true

end State

/-- COMPACT (R88). -/
def execCompact (s : State) : Host.Outcome State Fault Refusal := .next s.compactDone.mirrorFlush

/-- PLL_RETUNE_DONE (R335): PLL `p` of quad `q`. -/
def execPllRetuneDone (q p : Nat) (s : State) : Host.Outcome State Fault Refusal := .next (s.retuneDone q p).mirrorFlush

/-- PLL_RETUNE_TIMEOUT (R335): PLL `p` of quad `q`. -/
def execPllRetuneTimeout (q p : Nat) (s : State) : Host.Outcome State Fault Refusal := .next (s.retuneTimeout q p).mirrorFlush

end Sys2Proof.Machine
end

