-- ==== Sys2Proof/Machine/Channels.lean ====
section
/-! DEFINITION. Chapter 4: destruction and release of channels (R102–R104), druses, their members, claims and resolution
(R106–R113), the request mailbox of CHN (R95, R117), and what a frame instant of a timing plane does (R416, R89, R103,
R207, R237). -/

namespace Sys2Proof.Machine

namespace State

/-! ### Members of druses (R106–R109) -/

/-- Members of a druse-table entry. -/
def membersOf (d : Nat) (s : State) : List Member := Assoc.findD s.chn.druses d []

/-- The druse-table entry of a druse handle. -/
def druseOf (h : Nat) (s : State) : Nat :=
  match s.chan (handleIdx h) with
  | some c => c.unit
  | none => 0

/-- A system number is this chip's own. -/
def ownSys (n : Nat) (s : State) : Bool := n == s.use Reg.CHN.CFG_SYSNUM

/-- A member that is a druse of this chip: a druse, or the chip druse. -/
def localDruse (m : Member) (s : State) : Bool := (m.type == 2 || m.type == 3) && s.ownSys m.sys

/-- Member records from a number on, one druse's members. -/
def writeMembers (first : Nat) (ms : List Member) (s : State) : State :=
  s.each ms.zipIdx fun p t =>
    let k := first + p.2
    (((t.set (Reg.CHN.MEM_A_VALID k) 1).set (Reg.CHN.MEM_A_TYPE k) p.1.type).set (Reg.CHN.MEM_A_SYSNUM k) p.1.sys).set
      (Reg.CHN.MEM_B k) p.1.ref

/-- The member records, packed in the order of the druse table, with each druse's count and first record. -/
def showDruses (s : State) : State :=
  let total := sumList (s.chn.druses.map fun p => p.2.length)
  let r := s.chn.druses.foldl (fun (q : Nat × State) p =>
    (q.1 + p.2.length,
      ((q.2.writeMembers q.1 p.2).set (Reg.CHN.DRU_MEM_COUNT p.1) p.2.length).set (Reg.CHN.DRU_MEM_FIRST p.1) q.1)) (0, s)
  let rest := (r.2.regs.map (·.1)).filter fun a => decide ((Reg.CHN.MEM_A_VALID total).addr ≤ a) &&
    decide (a < (Reg.CHN.MEM_A_VALID 32768).addr)
  r.2.each rest fun a t => t.wr a 0

/-- The range that a member contributes (R106): inputs, or outputs. -/
def memberSize (m : Member) (out : Bool) (s : State) : Nat :=
  if m.type = 1 then 2
  else if m.type = 0 then
    let k := handleKind m.ref
    if k = 7 then 1
    else if out then (if k = 2 ∨ k = 4 ∨ k = 6 then 1 else 0)
    else if k = 2 ∨ k = 4 ∨ k = 6 then 0 else 1
  else if s.localDruse m then
    s.get (if out then Reg.CHN.DRU_OUTSIZE (s.druseOf m.ref) else Reg.CHN.DRU_INSIZE (s.druseOf m.ref))
  else if out then m.outs else m.ins

/-- A druse is appended a member; the druse named becomes its child and is frozen (R109). -/
def addMember (d : Nat) (m : Member) (s : State) : State :=
  let ins := s.memberSize m false
  let outs := s.memberSize m true
  let s := (s.updChn fun x => { x with druses := Assoc.put x.druses d (s.membersOf d ++ [m]) }).showDruses
  let s := (s.bump (Reg.CHN.DRU_INSIZE d) ins).bump (Reg.CHN.DRU_OUTSIZE d) outs
  let s := s.when (m.type == 0 || s.localDruse m) (addRefs [handleIdx m.ref])
  if s.localDruse m then
    let k := s.druseOf m.ref
    ((s.set (Reg.CHN.DRU_PSYS_PVALID k) 1).set (Reg.CHN.DRU_PSYS_SYSNUM k) (s.use Reg.CHN.CFG_SYSNUM)).set (Reg.CHN.DRU_PARENT k)
      (s.get (Reg.CHN.DRU_HANDLE d))
  else s

/-- A druse that is released names no members any more, and its records are free (R99, R104). What becomes of its members the
spec does not say: children on this chip lose their parent, and so are no longer frozen; chips of remote members are told
nothing (DESIGN CHOICE). -/
def dropMembers (d : Nat) (s : State) : State :=
  let ms := s.membersOf d
  let s := s.dropRefs ((ms.filter fun m => m.type == 0 || s.localDruse m).map fun m => handleIdx m.ref)
  let s := s.each (ms.filter fun m => s.localDruse m) fun m t =>
    let k := t.druseOf m.ref
    (t.wr (Reg.CHN.DRU_PSYS_PVALID k).addr 0).set (Reg.CHN.DRU_PARENT k) 0
  ((s.updChn fun x => { x with druses := Assoc.put x.druses d [] }).showDruses.set (Reg.CHN.DRU_INSIZE d) 0).set
    (Reg.CHN.DRU_OUTSIZE d) 0

/-- The parent of a druse where it is on another chip: its system number and handle. -/
def foreignParent (s : State) (d : Nat) : Option (Nat × Nat) :=
  if s.flag (Reg.CHN.DRU_PSYS_PVALID d) ∧ !s.ownSys (s.get (Reg.CHN.DRU_PSYS_SYSNUM d)) then
    some (s.get (Reg.CHN.DRU_PSYS_SYSNUM d), s.get (Reg.CHN.DRU_PARENT d))
  else none

/-- The druse of this chip that has a druse of another chip as its member. -/
def parentOfForeign (s : State) (f : Nat × Nat) : Option Nat :=
  (s.chn.druses.find? fun p => p.2.any fun m => decide (2 ≤ m.type) && m.sys == f.1 && m.ref == f.2).map (·.1)

/-- The next druse of this chip up a parent chain (R110): the parent, or the parent of a parent on another chip where this chip has
its record. -/
def nextUp (s : State) (d : Nat) : Option Nat :=
  match s.foreignParent d with
  | some f => s.parentOfForeign f
  | none => if s.flag (Reg.CHN.DRU_PSYS_PVALID d) then some (s.druseOf (s.get (Reg.CHN.DRU_PARENT d))) else none

/-- A druse and the druses of this chip on its parent chain, as druse-table entries (R110). -/
def parentChain (s : State) : Nat → Nat → List Nat
  | 0, d => [d]
  | n + 1, d =>
      match s.nextUp d with
      | some k => d :: s.parentChain n k
      | none => [d]

/-- The druses of other chips on a parent chain, as far as this chip's records show them. -/
def foreignParents (s : State) (d : Nat) : List (Nat × Nat) := (s.parentChain 4096 d).filterMap s.foreignParent

/-- Member records in use. -/
def memberCount (s : State) : Nat := sumList (s.chn.druses.map fun p => p.2.length)

/-! ### APPEND (R109–R111) -/

/-- An append is refused, with its event where R116 names one. -/
def appendRefused (code : Nat) (s : State) : State :=
  (s.when ([1, 13, 14, 18].contains code) (raise 92 [code, s.reqArg 0, s.reqArg 3])).chnResult code

/-- The member that the arguments name. The chip of this system number is its chip druse (R107). -/
def reqMember (s : State) : Member :=
  let type := bits (s.reqArg 1) 30 28
  let sys := bits (s.reqArg 2) 17 0
  let ref := if type = 1 then bits (s.reqArg 3) 8 0
    else if type = 3 ∧ s.ownSys sys then s.get (Reg.CHN.DRU_HANDLE (s.use Reg.CHN.CFG_CHIPDRUSE)) else s.reqArg 3
  { type := type, sys := sys, ref := ref, ins := 0, outs := 0 }

/-- A lane that can be a member (R106). -/
def memberLane (n : Nat) (s : State) : Bool :=
  [1, 3].contains (s.cfgRxMode n) || [1, 3].contains (s.cfgTxMode n)

/-- A chip druse that can be named: one of the configuration image (R107). -/
def chipDruseOk (s : State) : Bool :=
  let h := s.get (Reg.CHN.DRU_HANDLE (s.use Reg.CHN.CFG_CHIPDRUSE))
  s.use Reg.CHN.CFG_CDVALID == 1 && h != 0 && s.flag (Reg.CHN.ENT_STATE_IMAGE (handleIdx h))

/-- The judgement of an append, up to the claim of a remote member; 0 when it may go on. The spec gives no result for a channel
or a lane of another chip, which is refused BAD_PARAM here, and no order among results that apply together: here CONFLICT
stands before BUSY, BUSY before CYCLE, CYCLE before IN_USE, and IN_USE before NO_ENTRY (DESIGN CHOICE). -/
def appendCode (m : Member) (s : State) : Nat :=
  let p := s.judgeHandle (s.reqArg 0) [10]
  let own := s.ownSys m.sys
  let d := s.druseOf (s.reqArg 0)
  if s.get Reg.CHN.CTRL_EN = 0 then 16
  else if p ≠ 0 then p
  else if 3 < m.type ∨ (m.type ≤ 1 ∧ !own) then 11
  else if m.type = 1 ∧ !s.memberLane m.ref then 11
  else if m.type = 3 ∧ own ∧ !s.chipDruseOk then 11
  else
    let j := if m.type = 0 then s.judgeHandle m.ref [1, 2, 3, 4, 5, 6, 7, 8, 9]
      else if s.localDruse m then s.judgeHandle m.ref [10] else 0
    if j ≠ 0 then j
    else if 2 ≤ m.type ∧ !own ∧ s.chn.dupSys.contains m.sys then 12
    else if s.flag (Reg.CHN.DRU_PSYS_MARK d) ∨ (s.localDruse m ∧ s.flag (Reg.CHN.DRU_PSYS_MARK (s.druseOf m.ref))) then 1
    else if s.localDruse m ∧ (s.parentChain 4096 d).contains (s.druseOf m.ref) then 14
    else if m.type = 2 ∧ !own ∧ (s.foreignParents d).contains (m.sys, m.ref) then 14
    else if s.flag (Reg.CHN.DRU_PSYS_PVALID d) then 13
    else if s.localDruse m ∧ s.flag (Reg.CHN.DRU_PSYS_PVALID (s.druseOf m.ref)) then 13
    else if 32768 ≤ s.memberCount then 5
    else 0

/-- A member fits the ranges of a druse (R108). -/
def rangeFits (d : Nat) (m : Member) (s : State) : Bool :=
  decide (s.get (Reg.CHN.DRU_INSIZE d) + s.memberSize m false ≤ 2 ^ 31) &&
    decide (s.get (Reg.CHN.DRU_OUTSIZE d) + s.memberSize m true ≤ 2 ^ 31)

/-- A member is appended, unless a range would grow too long. -/
def finishAppend (d : Nat) (m : Member) (s : State) : State :=
  if s.rangeFits d m then (s.addMember d m).chnResult 0 else s.chnResult 11

/-- The marks of a claim on a druse and its parent chain are set or cleared (R111). -/
def setMarks (d : Nat) (on : Bool) (s : State) : State :=
  s.each (s.parentChain 4096 d) fun k t => t.setB (Reg.CHN.DRU_PSYS_MARK k) on

/-- APPEND. -/
def opAppend (s : State) : State :=
  let m := s.reqMember
  let code := s.appendCode m
  let d := s.druseOf (s.reqArg 0)
  if code ≠ 0 then
    let h := if s.judgeHandle (s.reqArg 0) [10] = 3 then s.reqArg 0 else m.ref
    (s.staleIf code s.boxSession h).appendRefused code
  else if 2 ≤ m.type ∧ !s.ownSys m.sys then
    ((s.setMarks d true).updChn fun x => { x with claim := some { druse := d, member := m, since := s.now, sent := s.now } }).emit
      (.claim m.sys m.type m.ref (s.get (Reg.CHN.DRU_HANDLE d)))
  else s.finishAppend d m

/-- The remote chip answers a claim (R111): where it accepts, with the handle and the ranges of the druse, for a chip named as member
those of its chip druse (R107). -/
def claimAnswer (code handle ins outs : Nat) (s : State) : State :=
  match s.chn.claim with
  | none => s
  | some c =>
      let s := (s.setMarks c.druse false).updChn fun x => { x with claim := none }
      if code % 32 = 0 then s.finishAppend c.druse
          { c.member with ref := if c.member.type = 3 then handle else c.member.ref, ins := ins, outs := outs }
        else s.appendRefused (code % 32)

/-- No answer within 50 ms: TIMEOUT, and both sides are left unchanged (R111). Before that the claim is sent again under its
transaction ID, every 20 ms (DESIGN CHOICE: the spec gives no time). -/
def claimTimeout (s : State) : State :=
  match s.chn.claim with
  | none => s
  | some c =>
      if c.since + 50000000 ≤ s.now then ((s.setMarks c.druse false).updChn fun x => { x with claim := none }).appendRefused 18
      else if c.sent + 20000000 ≤ s.now then
        (s.updChn fun x => { x with claim := some { c with sent := s.now } }).emit
          (.claim c.member.sys c.member.type c.member.ref (s.get (Reg.CHN.DRU_HANDLE c.druse)))
      else s

/-- The seed of a druse on another chip claims a druse of this one (R111): refused BUSY while the druse is marked, CYCLE where the
parent's chain leads through this chip to the druse (R110), and IN_USE when it has a parent, else it has one from then on. The
answer tells the druse's handle and ranges. -/
def claimed (args : List Nat) (psys parent : Nat) (s : State) : Nat × State :=
  let type := bits (args.getD 1 0) 30 28
  let h := if type = 3 then s.get (Reg.CHN.DRU_HANDLE (s.use Reg.CHN.CFG_CHIPDRUSE)) else args.getD 3 0
  let j := s.judgeHandle h [10]
  let k := s.druseOf h
  let refuse := fun code : Nat =>
    (code, s.when ([1, 13, 14].contains code) (raise 92 [code, parent, h]))
  if s.get Reg.CHN.CTRL_EN = 0 then refuse 16
  else if (type ≠ 2 ∧ type ≠ 3) ∨ (type = 3 ∧ !s.chipDruseOk) then refuse 11
  else if j ≠ 0 then (j, s.staleIf j (s.reqSession 0) h)
  else if s.flag (Reg.CHN.DRU_PSYS_MARK k) then refuse 1
  else if ((s.parentOfForeign (psys, parent)).map (s.parentChain 4096)).any fun l => l.contains k then refuse 14
  else if s.flag (Reg.CHN.DRU_PSYS_PVALID k) then refuse 13
  else (0, ((s.set (Reg.CHN.DRU_PSYS_PVALID k) 1).set (Reg.CHN.DRU_PSYS_SYSNUM k) psys).set (Reg.CHN.DRU_PARENT k) parent)

/-! ### RESOLVE (R108) -/

/-- The member of a list in which a position falls, and the position within it. -/
def pick (s : State) (out : Bool) : List Member → Nat → Option (Member × Nat)
  | [], _ => none
  | m :: ms, p =>
      let n := s.memberSize m out
      if p < n then some (m, p) else s.pick out ms (p - n)

/-- The handle at a lane position (R106), 0 where none is bound. A channel that is being released still stands on its lane,
and is what the position resolves to (DESIGN CHOICE: the spec does not say whether it is bound). -/
def lanePosition (n p : Nat) (out : Bool) (s : State) : Nat :=
  if (if out then s.cfgTxMode n else s.cfgRxMode n) = 3 then
    match (s.laneHw n).ents[if out then 2 + p else p]? with
    | some e => s.get (if out then Reg.FAB.ESE_HANDLE e else Reg.FAB.ISE_HANDLE e)
    | none => 0
  else
    let h := s.laneChan (!out) n p
    if h = 0 then 0
    else if p = 0 ∧ bits (s.chanArg (handleIdx h) 0) 27 19 ≠ n then 0
    else h

/-- A position resolved to a result code, a system number and a handle; none where it lies in a member on another chip. -/
def resolvePos (s : State) (out : Bool) : Nat → List Member → Nat → Nat × Nat × Option Nat
  | 0, _, _ => (11, 0, none)
  | k + 1, ms, p =>
      match s.pick out ms p with
      | none => (11, 0, none)
      | some (m, q) =>
          if m.type = 0 then (0, m.sys, some m.ref)
          else if m.type = 1 then
            let h := s.lanePosition m.ref q out
            if h = 0 then (17, 0, none) else (0, m.sys, some h)
          else if s.localDruse m then s.resolvePos out k (s.membersOf (s.druseOf m.ref)) q
          else (0, m.sys, none)

/-- What a position in a member on another chip resolves to is that chip's to know, and free: a channel, EMPTY, or BAD_PARAM,
and, where its own members lie on further chips, another system number. -/
def resolveRemote (s : State) : State :=
  let q := s.fresh
  if q.1 % 3 = 1 then q.2.chnResult 17
  else if q.1 % 3 = 2 then q.2.chnResult 11
  else ((q.2.setFree Reg.CHN.RESSYS).setFree Reg.CHN.RESHANDLE).chnResult 0

/-- RESOLVE. -/
def opResolve (s : State) : State :=
  let j := s.judgeHandle (s.reqArg 0) [10]
  if s.get Reg.CHN.CTRL_EN = 0 then s.chnResult 16
  else if j ≠ 0 then (s.staleIf j s.boxSession (s.reqArg 0)).chnResult j
  else
    let r := s.resolvePos (bit (s.reqArg 1) 0) 4097 (s.membersOf (s.druseOf (s.reqArg 0))) (s.reqArg 2)
    if r.1 ≠ 0 then s.chnResult r.1
    else
      match r.2.2 with
      | some h => ((s.set Reg.CHN.RESSYS r.2.1).set Reg.CHN.RESHANDLE h).chnResult 0
      | none => s.resolveRemote

/-! ### DESTROY (R102, R103) -/

/-- A channel is in use, so that it cannot be destroyed. -/
def inUseBy (i : Nat) (s : State) : Bool :=
  s.get (Reg.CHN.ENT_STATE_REFS i) != 0 || (s.fab.fs.any fun p => p.2.input == i) ||
    match s.chan i with
    | some c => c.kind == 10 && s.flag (Reg.CHN.DRU_PSYS_PVALID c.unit)
    | none => false

/-- The readers of a destroyed channel's ingress entry are told (R86, R129, R306). -/
def tellReaders (i h : Nat) (s : State) : State :=
  match s.chanIng i with
  | none => s
  | some e =>
      let rs := (s.streamReaders e).filter fun r => s.isChecked r
      (s.each rs fun r t => t.updEgr r fun x => { x with srcGone := true }).decSourceGone h

/-- An accepted destroy: the generation rises, takes that name the channel are cancelled, its readers are told to leave,
and couplings end (R103, R251, R296). -/
def destroyChannel (i : Nat) (c : Chan) (s : State) : State :=
  let h := s.get (Reg.CHN.ENT_HANDLE i)
  let list := s.coupledOut (handleIdx (c.desc.getD 15 0))
  let s := s.cancelNaming i
  let s := s.when (c.kind == 8) (micaUnbindAll c.unit)
  let s := (((s.set (Reg.CHN.ENT_HANDLE i) (mkHandle 0 i (handleGen h + 1))).set (Reg.CHN.ENT_STATE_STATE i) 2).chkinvStruckAt 3 i).updChan i fun x =>
    { x with live := false }
  let s := s.tellReaders i h
  let w := c.desc.getD 15 0
  s.when (c.kind == 4 && w != 0 && s.judgeHandle w [2] == 0) (moveVoices list (s.coupledOut (handleIdx w)))

/-- DESTROY. -/
def opDestroy (s : State) : State :=
  let h := s.reqArg 0
  let j := s.judgeHandle h anyKind
  if s.get Reg.CHN.CTRL_EN = 0 then s.chnResult 16
  else if j ≠ 0 then (s.staleIf j s.boxSession h).chnResult j
  else if s.inUseBy (handleIdx h) then s.chnResult 13
  else
    match s.chan (handleIdx h) with
    | some c => (s.destroyChannel (handleIdx h) c).chnResult 0
    | none => s.chnResult 3

/-! ### Release (R104) -/

/-- The entries of a slot half are unbound (R84). -/
def unbindIng (e : Nat) (s : State) : State :=
  (((s.set (Reg.FAB.ISE_HANDLE e) 0).set (Reg.FAB.ISE_CFG_SIZE e) 0).set (Reg.FAB.ISE_CFG_PLANE e) 0).updIng e fun _ =>
    Ingress.fresh 0 true
def unbindEgr (e : Nat) (s : State) : State :=
  let s := ((s.set (Reg.FAB.ESE_HANDLE e) 0).set (Reg.FAB.ESE_CFG_SIZE e) 0).set (Reg.FAB.ESE_CFG_PLANE e) 0
  ((s.wr (Reg.FAB.ESE_SRC_ENTRY e).addr 0).wr (Reg.PROV.OUT_SAFE e).addr 0).updEgr e fun _ => Egress.fresh 0 true

/-- The lanes of a video channel are given back. -/
def freeRxLanes (a : List Nat) (s : State) : State :=
  s.each (argLanes a) fun n t =>
    let pg := sdiPage n
    let t := if argStream a = 1 then t.set (Reg.SDI.RXCHAN1 pg) 0 else t.set (Reg.SDI.RXCHAN pg) 0
    t.when (t.rxBound n == []) (set (Reg.SDI.RXAUD pg) 0)
def freeTxLanes (a : List Nat) (s : State) : State :=
  let s := s.each (argLanes a) fun n t =>
    let pg := sdiPage n
    let t := if argStream a = 1 then t.set (Reg.SDI.TXCHAN1 pg) 0 else t.set (Reg.SDI.TXCHAN pg) 0
    t.when (t.get (Reg.SDI.TXCHAN pg) == 0 && t.get (Reg.SDI.TXCHAN1 pg) == 0) fun u =>
      (u.set (Reg.SDI.TXFMT pg) 0).set (Reg.SDI.TXSTAT_EMBGRP pg) 0
  let pg := sdiPage (argLane a)
  s.when (s.get (Reg.SDI.TXCHAN pg) == 0 && s.get (Reg.SDI.TXCHAN1 pg) == 0)
    (assignPll (argLane a) (mapLanes (fmtMap (argFmt a))) 0 15)

/-- The ST 2022-6 engine of a flow is given back (R242). -/
def freeS6 (h : Nat) (s : State) : State :=
  s.each (List.range 64) fun k t =>
    let t := t.when (t.get (Reg.SDI.RXCHAN (s6rPage k)) == h) (set (Reg.SDI.RXCHAN (s6rPage k)) 0)
    t.when (t.get (Reg.SDI.TXCHAN (s6tPage k)) == h) fun u =>
      (u.set (Reg.SDI.TXCHAN (s6tPage k)) 0).set (Reg.SDI.TXFMT (s6tPage k)) 0

/-- A frame-sync stream is given back (R74). -/
def freeSync (q : Nat) (s : State) : State :=
  let u := q / 4
  let s := (s.updFab fun x => { x with fs := Assoc.del x.fs q }).clearWords (Reg.FAB.FS_SCFG_VALID u (q % 4)).addr
  let left := s.get (Reg.FAB.FS_CFG_STREAMS u) - 2 ^ (q % 4)
  if left = 0 then s.wr (Reg.FAB.FS_CFG_STREAMS u).addr 0 else s.set (Reg.FAB.FS_CFG_STREAMS u) left

/-- The last reader has left, and an output has stopped. -/
def released (i : Nat) (c : Chan) (s : State) : Bool :=
  (match s.chanIng i with
    | some e => s.streamReaders e == []
    | none => true) &&
    (c.kind != 2 || match s.chanEgr i with
      | some e => (s.egr e).stopping
      | none => true)

/-- What a channel held beside its table entry is given back. -/
def freeHeld (i h : Nat) (c : Chan) (s : State) : State :=
  let a := c.args
  let ing := (s.chanIng i).getD 0
  let egr := (s.chanEgr i).getD 0
  match c.kind with
  | 1 =>
      if onHalf a then (s.unbindIng ing).laneRelease (argLane a)
      else if isGenerator a then s.closeIng ing
      else if onFlow a then ((s.closeRxf c.unit).freeS6 h).closeIng ing
      else (s.freeRxLanes a).closeIng ing
  | 2 =>
      if onHalf a then (s.unbindEgr egr).laneRelease (argLane a)
      else if onFlow a then ((s.closeTxf c.unit).freeS6 h).closeEgr egr
      else (s.freeTxLanes a).closeEgr egr
  | 3 => s.closeRxf c.unit
  | 4 => s.closeTxf c.unit
  | 5 =>
      let s := s.updSdi fun x => { x with anc := Assoc.del x.anc i }
      if onFlow a then s.closeRxf c.unit else s.wr (Reg.SDI.ANCF_EN (sdiPage (argLane a)) c.unit).addr 0
  | 6 => if onFlow a then s.closeTxf c.unit else s.wr (Reg.SDI.ANCOUT_VALID (sdiPage (argLane a))).addr 0
  | 7 => ((s.cnvClose c.unit).closeIng ing).closeEgr egr
  | 8 => (s.micaClose c.unit).closeIng ing
  | 9 => ((s.freeSync c.unit).closeIng ing).closeEgr egr
  | _ =>
      (((s.dropMembers c.unit).clearWords (Reg.CHN.DRU_HANDLE c.unit).addr).clearWords ((Reg.CHN.DRU_HANDLE c.unit).addr + 16)).updChn fun x =>
        { x with druses := Assoc.del x.druses c.unit }

/-- The entry and its resources return to the free pools (R104). -/
def releaseEntry (i : Nat) (s : State) : State :=
  match s.chan i with
  | none => s
  | some c =>
      if c.live ∨ !s.released i c then s
      else
        let h := mkHandle c.kind i (handleGen (s.get (Reg.CHN.ENT_HANDLE i)) + 16383)
        let s := s.freeHeld i h c
        let s := s.when (c.kbps != 0 || c.pages != 0) (uncharge c.kbps c.pages)
        let s := s.dropGranules c
        let s := s.updChn fun x => { x with chans := Assoc.del x.chans i, freed := x.freed ++ [i] }
        let s := ((s.wr (Reg.CHN.ENT_RES_INGV i).addr 0).wr (Reg.CHN.ENT_STATE_STATE i).addr 0).chkinvStruckAt 3 i
        let s := (s.clearWords (Reg.FAB.RT_CUR i).addr).clearWords ((Reg.FAB.RT_CUR i).addr + 16)
        let s := s.updFab fun x => { x with outs := Assoc.del x.outs i }
        (s.showVoices.when (c.pmem != 0) showPmem).showCount.judgeLow false

/-! ### The request mailbox (R95, R117) -/

/-- A write of CHN.REQCMD: one request at a time, another is discarded. -/
def reqCmdLand (m : Nat) (data : Word) (s : State) : State :=
  if s.flag Reg.CHN.STAT_REQBUSY then (s.set Reg.CHN.STAT_REQ_OVR 1).raise 94 []
  else
    let op := bits data.toNat 3 0
    let s := ((s.set Reg.CHN.RESULT_DONE 0).set Reg.CHN.RESULT_OP op).set Reg.CHN.STAT_REQBUSY 1
    match op with
    | 1 => s.opCreate (m == 6)
    | 2 => s.opDestroy
    | 3 => s.opAppend
    | 4 => s.opResolve
    | _ => s.chnResult (if s.get Reg.CHN.CTRL_EN = 0 then 16 else 11)

/-! ### Frame instants of the planes (R416) -/

/-- The frame a test generator writes (R82, R83). -/
def generatorFrame (i e : Nat) (s : State) : State :=
  let f := s.chanArg i 1
  let pat := bits (s.chanArg i 2) 3 0
  let still := bit (s.chanArg i 2) 4 && pat != 5
  let pic := patternPicture f pat (s.chanArg i 3) (s.get (Reg.LODE.PLANE_FRAMES (s.get (Reg.FAB.ISE_CFG_PLANE e))))
    (s.get (Reg.FAB.ISE_HANDLE e))
  s.issueFrame e (digest pic) still
    { fmt := f, token := none, tstate := if still then 3 else 0, poisoned := false, picture := pic, anc := [] }

/-- Streams whose move falls on a frame instant of the plane (R89): ingress streams without a signal, and egress
streams. -/
def planeMoves (p : Nat) (s : State) : State :=
  let is := (s.fab.ing.filter fun x => x.2.moveTo.isSome && s.get (Reg.FAB.ISE_CFG_PLANE x.1) == p &&
    s.get (Reg.FAB.ISE_ALIGN_STATE x.1) == 0).map (·.1)
  let es := (s.fab.egr.filter fun x => x.2.moveTo.isSome && s.get (Reg.FAB.ESE_CFG_PLANE x.1) == p).map (·.1)
  (s.each is moveIng).each es moveEgr

/-- A slot half sends no more: its lane shows filler once the other half is idle too (R344). -/
def halfStops (i : Nat) (s : State) : State :=
  let n := s.outLane i
  let busy := ((s.laneHw n).ents.drop 2).any fun e => s.get (Reg.FAB.ESE_HANDLE e) != 0 && !(s.egr e).stopping
  s.when (s.laneRuns n && !busy) (set (Reg.LANE.STAT_TXSTATE n) (s.txShown n 1))

/-- Outputs of destroyed video-outs on the plane stop (R103, R208, R237). -/
def planeStops (p : Nat) (s : State) : State :=
  s.each (s.chn.chans.filter fun x => !x.2.live && x.2.kind == 2) fun x t =>
    match t.chanEgr x.1 with
    | some e =>
        if t.get (Reg.FAB.ESE_CFG_PLANE e) = p ∧ !(t.egr e).stopping then
          let t := t.updEgr e fun y => { y with stopping := true }
          if onLanes x.2.args then t.when (fmtMap (argFmt x.2.args) != 3 || !t.otherSends x.1) (showTx x.1 0)
          else if onFlow x.2.args then (t.updTxf x.2.unit fun y => { y with cur := none }).set (Reg.IPM.TXF_STATE x.2.unit) 0
          else if onHalf x.2.args then t.halfStops x.1
          else t
        else t
    | none => t

/-- A frame instant of plane p. -/
def planeFrame (p : Nat) (s : State) : State :=
  let s := (s.bump (Reg.LODE.PLANE_FRAMES p) 1).planeRejoins p |>.planeStepInstant p |>.1
  let s := (s.planeMoves p).planeStops p
  let gens := (s.fab.ing.map (·.1)).filter fun e => s.get (Reg.FAB.ISE_CFG_PATH e) == 6 && s.get (Reg.FAB.ISE_CFG_PLANE e) == p
  let s := s.each gens fun e t => t.generatorFrame (handleIdx (t.get (Reg.FAB.ISE_HANDLE e))) e
  let fss := (s.fab.fs.map (·.1)).filter fun q => s.get (Reg.FAB.FS_SCFG_PLANE (q / 4) (q % 4)) == p
  (s.each fss fsSelect).ancFlowLoad p

end State

/-- APPEND_CLAIM_ANSWER (R111). -/
def execAppendClaimAnswer (code handle : Nat) (size : Nat × Nat) (s : State) : Host.Outcome State Fault Refusal :=
  .next (s.claimAnswer code handle size.1 size.2).mirrorFlush

/-- APPEND_CLAIM_TIMEOUT (R111). -/
def execAppendClaimTimeout (s : State) : Host.Outcome State Fault Refusal := .next s.claimTimeout.mirrorFlush

/-- ENTRY_RELEASE (R104) of channel-table index `i`. -/
def execEntryRelease (i : Nat) (s : State) : Host.Outcome State Fault Refusal := .next (s.releaseEntry i)

/-- PLANE_FRAME_INSTANT (R416) of plane `p`. -/
def execPlaneFrameInstant (p : Nat) (s : State) : Host.Outcome State Fault Refusal :=
  .next (if p < 16 then s.planeFrame p else s)

end Sys2Proof.Machine
end

