-- ==== Sys2Proof/Machine/Twin.lean ====
section
/-! DEFINITION. Chapter 18: the twin link, states and claims, mirror and latch records, cycle copies, signatures, role
exchange, and the supply feeds. -/

namespace Sys2Proof.Machine

/-- The part of a register word that a cycle copy covers as a word (R460): route records, the epoch of the channel table, voice map
entries with gain and mode, the layer registers of the mica engines. -/
def copyMask (a : Nat) : Nat :=
  if (Reg.FAB.RT_CUR 0).addr ≤ a ∧ a < (Reg.FAB.RT_CUR 16384).addr then 0xFFFFFFFF
  else if a = Reg.CHN.EPOCH.addr then 0xFFFFFFFF
  else if (Reg.AUD.OV_VALID 0).addr ≤ a ∧ a < (Reg.AUD.OV_VALID 32768).addr then
    (match a % 16 with | 0 => 0xF000FFFF | 4 => 0xFFFFFFFF | 8 => 0xFFFFFFFF | _ => 0)
  else if (List.range 8).any (fun g => decide ((Reg.MICA.LAY_TYPE g 0).addr ≤ a ∧ a < (Reg.MICA.LAY_TYPE g 63).addr) ||
      decide ((Reg.MICA.ACT_TYPE g 0).addr ≤ a ∧ a < (Reg.MICA.ACT_TYPE g 63).addr)) then
    (if a % 64 = 36 then 0 else 0xFFFFFFFF)
  else 0

/-- The key of a copied record: what it is, and which. -/
def copyKey : CopyItem → Nat
  | .word a _ => a
  | .pend i _ => 2 ^ 32 + i
  | .sched k _ => 2 * 2 ^ 32 + k
  | .salvo v _ => 3 * 2 ^ 32 + v
  | .tables g act _ _ => 4 * 2 ^ 32 + 2 * g + b2n act
  | .flint g _ => 5 * 2 ^ 32 + g
  | .count i _ => 6 * 2 ^ 32 + i
  | .seqStart i _ => 7 * 2 ^ 32 + i
  | .chan i _ _ => 8 * 2 ^ 32 + i
  | .hold _ _ => 9 * 2 ^ 32

/-- The record that stands where a copied record is no longer listed. -/
def copyGone : CopyItem → CopyItem
  | .word a _ => .word a ((resetWord a).toNat &&& copyMask a)
  | .pend i _ => .pend i none
  | .sched k _ => .sched k none
  | .salvo v _ => .salvo v none
  | .tables g act _ _ => .tables g act 0 []
  | .flint g _ => .flint g none
  | .count i _ => .count i none
  | .seqStart i n => .seqStart i n
  | .chan i h _ => .chan i h none
  | .hold b l => .hold b l

/-- What has changed from one snapshot to another. -/
def copyDelta (old new : List CopyItem) : List CopyItem :=
  new.filter (fun x => !old.contains x) ++
    ((old.filter fun x => new.all fun y => copyKey y != copyKey x).map copyGone)

namespace State

/-- The own device identity. -/
def devid (s : State) : Nat := s.get64 Reg.KEY.DEVIDLO Reg.KEY.DEVIDHI

/-- The configured CLAIM; 0 acts as 1 (R450). -/
def ownClaim (s : State) : Nat := max 1 (s.get Reg.TWIN.CLAIM)

/-- The unit is the higher of the pair: the higher CLAIM, or on a tie the higher identity (R451). A partner whose CLAIM no
link-up record has told counts as a tie. -/
def winsJoin (devid : Nat) (s : State) : Bool :=
  (s.twin.claim != 0 && decide (s.twin.claim < s.ownClaim)) ||
    ((s.twin.claim == 0 || s.twin.claim == s.ownClaim) && decide (devid < s.devid))

/-! ### Snapshots (R460, R462) -/

/-- The entry of the channel table as a copied record. -/
def chanItem (i : Nat) (s : State) : CopyItem :=
  .chan i (s.get (Reg.CHN.ENT_HANDLE i)) (match s.chan i with
    | some c => if c.live then some ⟨c.args, c.desc, s.flag (Reg.CHN.ENT_STATE_IMAGE i)⟩ else none
    | none => none)

/-- The averages and the build-out of the lodestone as a copied record. -/
def holdItem (s : State) : CopyItem := .hold s.lode.buildout s.lode.avg

/-- The token counter of a channel's source, and the next sequence number of its send flow. -/
def chanCount (i : Nat) (s : State) : Option Nat := (s.chanIng i).bind fun e => (s.ing e).count
def chanSeq (i : Nat) (s : State) : Option Nat :=
  (s.ipm.tx.find? fun p => p.2.chan == i).map fun p => p.2.seq

/-- The records that a cycle copy covers, as they stand. A full copy adds the token counters and the sequence numbers of
send flows. -/
def snapshot (full : Bool) (s : State) : List CopyItem :=
  (s.chn.chans.map fun p => s.chanItem p.1) ++
  (s.regs.filterMap fun p => if copyMask p.1 = 0 then none else some (.word p.1 (p.2.toNat &&& copyMask p.1))) ++
  (s.fab.outs.filterMap fun p => p.2.pend.map fun t => .pend p.1 (some t)) ++
  (s.fab.sched.map fun p => .sched p.1 (some p.2)) ++ (s.fab.salvos.map fun p => .salvo p.1 (some p.2)) ++
  ((s.mica.mica.map fun p =>
    [CopyItem.tables p.1 false (s.get (Reg.MICA.BG p.1)) p.2.nextLut, .tables p.1 true p.2.bg p.2.lut, .flint p.1 p.2.flint]).flatten) ++
  [s.holdItem] ++
  (if full then (s.chn.chans.filterMap fun p => (s.chanCount p.1).map fun c => .count p.1 (some c)) ++
    (s.ipm.tx.map fun p => .seqStart p.2.chan p.2.seq) else [])

/-- The record as the unit itself holds it. -/
def ownItem (x : CopyItem) (s : State) : CopyItem :=
  match x with
  | .word a _ => .word a ((s.rd a).toNat &&& copyMask a)
  | .pend i _ => .pend i (s.outTakes i).pend
  | .sched k _ => .sched k (Assoc.find s.fab.sched k)
  | .salvo v _ => .salvo v (Assoc.find s.fab.salvos v)
  | .tables g act _ _ => let y := s.micaHw g; if act then .tables g act y.bg y.lut else .tables g act (s.get (Reg.MICA.BG g)) y.nextLut
  | .flint g _ => .flint g (s.micaHw g).flint
  | .count i _ => .count i (s.chanCount i)
  | .seqStart i n => .seqStart i ((s.chanSeq i).getD n)
  | .chan i _ _ => s.chanItem i
  | .hold _ _ => s.holdItem

/-- What a copied word calls for beside the register: an output reads the source its route record names, and a voice has the source and
the amplitude that its map entry gives. -/
def followWord (a : Nat) (s : State) : State :=
  let r := (Reg.FAB.RT_CUR 0).addr
  let v := (Reg.AUD.OV_VALID 0).addr
  if r ≤ a ∧ a < (Reg.FAB.RT_CUR 16384).addr then
    let i := (a - r) / 32
    s.when (a == (Reg.FAB.RT_CUR i).addr && (s.chanEgr i).isSome) fun t => t.repoint (t.outEgr i) (t.get (Reg.FAB.RT_CUR i))
  else if v ≤ a ∧ a < (Reg.AUD.OV_VALID 32768).addr then
    let j := (a - v) / 16
    (s.updOutVoice j fun y => { y with fades := [], ramps := [], amp := s.voiceTarget j, tag := none }).showVoice j
  else s

/-- The channel of an index becomes the one of a copied entry: another that is live there is destroyed, and once its entries are free, the
copied one opens. -/
def followChan (i h : Nat) (c : Option ChanCopy) (s : State) : State :=
  let s := match s.chan i with
    | some y => if y.live ∧ s.get (Reg.CHN.ENT_HANDLE i) ≠ h then s.destroyChannel i y else s
    | none => s
  match s.chan i, c with
  | none, some c =>
      let w : CreateWait :=
        { args := c.args, desc := c.desc, image := c.image, retune := false, quad := 0, pll := 0, charges := s.charges c.args c.desc }
      let sz := s.entrySizes c.args
      match allocAll s.ingUse sz.1, allocAll s.egrUse sz.2 with
      | some eis, some eos =>
          let s := s.set (Reg.CHN.ENT_HANDLE i) (mkHandle 0 i (handleGen h))
          (s.when (w.charges.1 != 0 || w.charges.2.1 != 0) (charge w.charges.1 w.charges.2.1)).openAt i w eis eos
      | _, _ => s
  | none, none => (s.set (Reg.CHN.ENT_HANDLE i) h).updChn fun x =>
      if i < x.nextIndex then x else { x with nextIndex := i + 1, freed := x.freed ++ [i] }
  | some _, _ => s

/-- A copied record is applied. -/
def applyItem (x : CopyItem) (s : State) : State :=
  match x with
  | .word a w =>
      ((s.wr a (BitVec.ofNat 32 (((s.rd a).toNat &&& (0xFFFFFFFF - copyMask a)) + (w &&& copyMask a)))).when (wideAt a)
        (takeWide (a - 4))).followWord a
  | .chan i h c => s.followChan i h c
  | .hold b l => ((s.updLode fun y => { y with buildout := b, avg := l, decayAt := s.now, decayRem := 0 }).showAvg).showLoop
  | .pend i t => s.putSlots i { s.outTakes i with pend := t }
  | .sched k t =>
      (s.updFab fun y => { y with sched := match t with
        | some v => Assoc.put y.sched k v
        | none => Assoc.del y.sched k }).showSched
  | .salvo v t =>
      (s.updFab fun y => { y with salvos := match t with
        | some x => Assoc.put y.salvos v x
        | none => Assoc.del y.salvos v }).showSalvos
  | .tables g act bg lut =>
      if act then s.updMica g fun y => { y with bg := bg, lut := lut }
      else (s.set (Reg.MICA.BG g) bg).updMica g fun y => { y with nextLut := lut }
  | .flint g b => s.updMica g fun y => { y with flint := b }
  | .count i c => match s.chanIng i with
      | some e => s.updIng e fun y => { y with count := c }
      | none => s
  | .seqStart i n => s.updIpm fun y => { y with tx := y.tx.map fun p => if p.2.chan = i then (p.1, { p.2 with seq := n }) else p }

/-! ### States (R450, R451) -/

/-- The unit takes over (R451); what it later sends a partner that joins begins with a full copy (R462), and its mirror records go on
from the last it applied. -/
def takeOver (s : State) : State :=
  ((s.twinEnter 4).twinEvent 1 [4]).updTwin fun x =>
    { x with stage := 0, sent := none, base := [], seq := max x.seq x.applied, xchg := false }

/-- DEADTIME in ns; 0 acts as 1 ms. -/
def deadNs (s : State) : Nat := max 1 (s.use Reg.TWIN.DEADTIME) * 1000000

/-- The heartbeat within DEADTIME. -/
def heartbeat (s : State) : Option Heartbeat :=
  match s.twin.hb with
  | some h => if s.now < h.at_ + s.deadNs then some h else none
  | none => none

/-- The partner's carried claim is read, on the link or in a heartbeat, and the state re-decided (R451). -/
def partnerReads (link : Bool) (c devid : Nat) (s : State) : State :=
  let s := (s.set Reg.TWIN.CARRIED_PARTNER c).set Reg.TWIN.STAT_PARTNER 1
  if !s.twinOn then s
  else
    match s.twinState with
    | 1 => if s.linkDown ∧ !link ∧ c = 0 ∧ s.winsJoin devid then s.twinEnter 4 else s
    | 2 => if c = 0 then s.takeOver else if s.linkDown ∧ 256 ≤ c then s.twinEnter 1 else s
    | 3 => if c = 0 then (s.twinEnter 4).updTwin fun x => { x with stage := 0, sent := none } else s
    | 4 =>
        let own := s.get Reg.TWIN.CARRIED_OWN
        if s.linkDown ∧ 256 ≤ c ∧ (own < c ∨ (own = c ∧ s.devid < devid)) then
          ((s.set Reg.TWIN.STAT_SPLIT 1).twinEvent 8 [4]).twinEnter 1
        else s
    | _ => s

/-- The join of the partner begins anew with the link. -/
def freshLink (s : State) : State :=
  s.updTwin fun x =>
    { x with key := none, auth := false, macFails := 0, seq := 0, mirror := [], owed := [], applied := 0, changed := [], base := [],
             sent := none, stage := 0, lastCycle := none, gotFull := false, xchg := false, downAt := s.now, cut := false,
             mirrorAt := [], latched := [], sigSeen := none }

/-- The unit's ephemeral private key of a nonce, derived from its TWIN root (R449, R561); none without operational keys. -/
def twinEph (s : State) (nonce : Nat) : Option Nat := s.key.ops.map fun k => Config.kdf k.2 "TWIN-EPH" [nonce]

/-- A unit begins the exchange of a link-up (R449): a random nonce, and the signed record with its ephemeral public key. -/
def linkExchange (s : State) : State :=
  let q := s.fresh
  match s.twinEph q.1 with
  | some d => (q.2.updTwin fun x => { x with nonce := q.1 }).sendTwin (.linkUp q.1 (Config.crypto [449, d]))
  | none => s

/-- The link key (R449): of the secret that the units share, the lower DEVID and nonce first. -/
def linkKey (s : State) (devid nonce pub : Nat) : Option Nat :=
  (s.twinEph s.twin.nonce).map fun d =>
    let low := decide (s.devid ≤ devid)
    Config.kdf (Config.crypto [449, d, pub]) "TWIN-LINK"
      (if low then [s.devid, devid, s.twin.nonce, nonce] else [devid, s.devid, nonce, s.twin.nonce])

/-- The twin cycle in which L stands (R460): the frame of plane 0, or CYCLE ms of lodestone time, of which 1–4 act as 5. -/
def cycleIndex (s : State) : Int :=
  let c := s.use Reg.TWIN.CFG_CYCLE
  if c = 0 then (3 * (s.lode.l : Int) / 1000 - s.planePhase3 0) / (s.planePeriod3 0 : Int) else s.lNs / (max 5 c * 1000000)

/-- A unit starts as JOIN (R450); a pair that is up already is keyed. -/
def twinStart (s : State) : State :=
  let s := (s.freshLink.twinEnter 1).updTwin fun x => { x with cycleIdx := some s.cycleIndex }
  if s.pairUp then s.linkExchange else s

/-- A unit stops: OFF. -/
def twinStop (s : State) : State := s.freshLink.twinEnter 0

/-- A lane is a T-mode lane whose RX half is UP. -/
def twinLaneUp (n : Nat) (s : State) : Bool := s.laneRuns n && s.laneRxMode n == 4 && s.rxUp n

/-- A pair of the link comes up, both of its lanes UP (R343): the units exchange link-up records (R448, R449). -/
def twinUp (secondary : Bool) (s : State) : State :=
  let n := if secondary then 508 else 510
  if !s.twinLaneUp n ∨ !s.twinLaneUp (n + 1) then s
  else
    let was := s.pairUp && !s.twin.cut
    let s := s.set (if secondary then Reg.TWIN.STAT_LINKS else Reg.TWIN.STAT_LINKP) 1
    if s.twinOn ∧ !was ∧ s.pairUp then s.freshLink.linkExchange else s

/-- The measurements the unit compares: the words of MEASFW and of MEASPAIR as one number, the first word lowest. -/
def measWords (r : Nat → FRef) (s : State) : Nat := ((List.range 12).map fun j => s.get (r j) * 2 ^ (32 * j)).foldl (· + ·) 0

/-- The partner's link-up record arrives (R448, R449, R451, R454); a unit that cannot derive the key discards it as it does one that
fails its checks. -/
def linkRecord (ok : Bool) (devid measFw measPair claim nonce pub : Nat) (s : State) : State :=
  if !s.twinOn ∨ s.linkDown then s
  else if !ok ∨ s.key.ops = none then s.twinEvent 0 [s.twinState, 2]
  else
    let s := s.set64 Reg.TWIN.PDEVIDLO Reg.TWIN.PDEVIDHI devid
    let s := s.updTwin fun x => { x with claim := max 1 (claim % 256) }
    if measFw ≠ s.measWords Reg.CFG.MEASFW ∨ measPair ≠ s.measWords Reg.CFG.MEASPAIR then s.twinEvent 0 [s.twinState, 1]
    else
      let s := s.updTwin fun x => { x with key := s.linkKey devid nonce pub, auth := true, macFails := 0 }
      let s := s.when (s.twinState == 1 && s.twin.claim == s.ownClaim) (twinEvent 3 [s.twinState])
      if s.twinState = 1 ∧ s.get Reg.TWIN.CARRIED_PARTNER = 0 ∧ s.winsJoin devid then s.twinEnter 3 else s

/-- The link is down: it lost its key, the lodestone its TWIN reference (R405), and the state is re-decided (R451). -/
def linkLost (s : State) : State :=
  let s := ((s.freshLink).twinEvent 4 [s.twinState]).disqualify 8
  match s.twinState with
  | 3 => s.twinEnter 4
  | 2 =>
      match s.heartbeat with
      | some h => if h.claim = 0 then s.takeOver else if 256 ≤ h.claim then s.twinEnter 1 else s
      | none => s
  | _ => s

/-- A pair of the link leaves UP. -/
def twinDown (secondary : Bool) (s : State) : State :=
  let was := !s.linkDown
  let s := s.set (if secondary then Reg.TWIN.STAT_LINKS else Reg.TWIN.STAT_LINKP) 0
  if s.twinOn ∧ was ∧ s.linkDown then s.linkLost else s

/-- No link and no heartbeat for DEADTIME (R451). -/
def deadTime (s : State) : State :=
  if !s.twinOn ∨ !s.linkDown ∨ s.now < s.twin.downAt + s.deadNs ∨ s.heartbeat.isSome then s
  else
    let s := s.set Reg.TWIN.STAT_PARTNER 0
    match s.twinState with
    | 1 => s.twinEnter 4
    | 2 => s.takeOver
    | _ => s

/-- A write of GO to RECOVER (R452), and to XCHG (R453). -/
def recoverLand (data : Word) (s : State) : State :=
  if bit data.toNat 0 ∧ s.twinState = 5 then (s.twinEnter 1).updTwin fun x => { x with gotFull := false, stage := 0 } else s
def xchgLand (data : Word) (s : State) : State :=
  if bit data.toNat 0 ∧ s.twinState = 3 then
    ((s.mirrorOwe { box := 7, engine := 0, op := 0, args := [], peer := 0 }).mirrorFlush).updTwin fun x => { x with xchg := true }
  else s

/-- The MAC of a link record is checked (R449): sixteen failing in a row take the link down. -/
def macCheck (ok : Bool) (s : State) : Bool × State :=
  if !s.linkUp then (false, s)
  else if ok then (true, s.updTwin fun x => { x with macFails := 0 })
  else
    let s := (s.bump Reg.TWIN.AUTHCNT 1).updTwin fun x => { x with macFails := x.macFails + 1 }
    (false, if 16 ≤ s.twin.macFails then s.linkLost.updTwin fun x => { x with cut := true } else s)

/-! ### Mirror records at the standby (R458) -/

/-- Registers from a first one take the words of a list. -/
def putArgs (r : Nat → FRef) (l : List Nat) (s : State) : State := s.each l.zipIdx fun p t => t.set (r p.2) p.1

/-- Words written to registers, as pairs of address and word in one list. -/
def putPairs : List Nat → State → State
  | a :: w :: l, s => putPairs l ((s.wr a (BitVec.ofNat 32 w)).when (wideAt a) (takeWide (a - 4)))
  | _, s => s

/-- A command is carried out as the active accepted it. -/
def runCmd (c : MirrorCmd) (s : State) : State :=
  let op := BitVec.ofNat 32 c.op
  match c.box with
  | 0 => (s.putArgs Reg.FAB.TAKEARG c.args).takeCmdLand (BitVec.ofNat 32 (c.peer * 65536 + c.op))
  | 1 =>
      let s := s.putArgs Reg.CHN.REQARG (c.args.take 8)
      let s := s.putArgs (Reg.IPM.DESC_W (bits (c.args.headD 0) 3 0)) (c.args.drop 8)
      s.reqCmdLand 0 op
  | 2 => (s.putArgs Reg.AUD.MAPARG c.args).mapCmdLand op
  | 3 => (s.putArgs (Reg.MICA.LAYARG c.engine) c.args).layCmdLand c.engine op
  | 4 => (putPairs c.args s).when (c.op == 1) (micaCommitLand c.engine 1)
  | 5 => s.reflattenLand c.engine 1
  | 6 => (putPairs c.args s).flintGoLand c.engine op
  | 8 => s.cnvLoad c.engine (c.args.getD 0 0) (c.args.getD 1 0) (c.args.drop 2)
  | 9 => s.cnvSwapLand c.engine 1
  | _ => s.updTwin fun x => { x with xchg := true }

/-- Something is done as of another instant of TIME. -/
def atTime (t : Nat) (f : State → State) (s : State) : State :=
  let now := s.time96
  (f (s.setTime96 (t * 2 ^ 32))).setTime96 now

/-- A record of a command that completes later than its answer: a take, or a salvo's commit (R587). -/
def recLate (r : MirrorRec) : Bool := r.cmd.box == 0 && (r.cmd.op == 1 || r.cmd.op == 10)

/-- The result that the standby caches for a record (R458, R590). -/
def shadowEntry (r : MirrorRec) (s : State) : JrpEntry :=
  let fields := if r.cmd.box = 0 ∧ r.cmd.op = 1 then [s.get Reg.FAB.TAKEID, 0, 0] else if r.cmd.box = 1 ∧ r.cmd.op = 1 then [r.handle] else []
  { txid := r.txid, answer := some (r.code, fields), late := recLate r, final := none }

/-- The completion that the standby awaits for a record. -/
def shadowAwait (r : MirrorRec) (s : State) : List JrpAwait :=
  if !recLate r then []
  else if r.cmd.op = 1 then
    [{ session := r.session, txid := r.txid, peer := r.cmd.peer, out := some (handleIdx (r.cmd.args.getD 0 0)),
       src := r.cmd.args.getD 1 0, ref := s.get Reg.FAB.TAKEID, left := 1, status := none, takes := [] }]
  else
    let v := r.cmd.args.getD 0 0 % 32
    let l := s.salvoTakes v
    [{ session := r.session, txid := r.txid, peer := r.cmd.peer, out := none, src := 0, ref := v, left := max 1 l.length, status := none,
       takes := l }]

/-- The standby applies a record in sequence order, and acknowledges it. -/
def mirrorIn (r : MirrorRec) (s : State) : State :=
  if s.twinState = 2 ∨ (s.twinState = 1 ∧ s.twin.gotFull) then
    if r.seq = s.twin.applied + 1 then
      let before := s.snapshot false
      let s := s.atTime r.time (runCmd r.cmd)
      let keys := (copyDelta before (s.snapshot false)).map copyKey
      let s := s.when (r.session != 0) fun t => t.updJrp fun j =>
        { j with shadow := j.shadow ++ [{ session := r.session, peer := r.cmd.peer, entry := t.shadowEntry r }],
                 awaits := j.awaits ++ t.shadowAwait r }
      (s.updTwin fun x =>
        { x with applied := r.seq, changed := keys.foldl (fun l k => Assoc.put l k r.seq) x.changed }).sendTwin (.mirrorAck r.seq)
    else if r.seq ≤ s.twin.applied then s.sendTwin (.mirrorAck r.seq)
    else s
  else s

/-- The active receives an acknowledgement. -/
def mirrorAck (seq : Nat) (s : State) : State :=
  if s.twin.mirror.any fun m => m.seq == seq then
    (s.updTwin fun x =>
      { x with mirror := x.mirror.filter fun m => m.seq != seq, mirrorAt := Assoc.del x.mirrorAt seq }).set Reg.TWIN.MIRSEQ seq
  else s

/-- A record without an acknowledgement for 50 µs is sent again. -/
def mirrorAgain (seq : Nat) (s : State) : State :=
  match s.twin.mirror.find? fun m => m.seq == seq with
  | some m =>
      if s.now < Assoc.findD s.twin.mirrorAt seq 0 + 50000 then s
      else (s.updTwin fun x => { x with mirrorAt := Assoc.put x.mirrorAt seq s.now }).sendTwin (.mirror m)
  | none => s

/-! ### Latch points of a twin (R459) -/

/-- A record that stands without acknowledgement accepted a take. -/
def unacked (s : State) (op accepted : Nat) (named : MirrorRec → Bool) : Bool :=
  s.twin.mirror.any fun m => m.cmd.box == 0 && m.cmd.op == op && m.time == accepted && named m

/-- The latch point of an output: the active latches only takes that the standby holds, and sends what it latched; the
standby latches none of its own choosing. -/
def twinLatch (i : Nat) (s : State) : State :=
  if s.twinOn ∧ s.twinState = 2 then s
  else if s.twinOn ∧ s.linkUp ∧ s.twinState = 3 then
    let mine := fun m : MirrorRec => handleIdx (m.cmd.args.getD 0 0) == i
    let o := s.outTakes i
    let heldPend := match o.pend with | some t => s.unacked 1 t.accepted mine | none => false
    let heldSched := s.fab.sched.filter fun p => p.2.out == i && !p.2.latched && s.unacked 1 p.2.take.accepted mine
    let heldSalvo := s.fab.salvos.filter fun p => match p.2.committed with
      | some c => s.unacked 10 c.2 fun m => m.cmd.args.getD 0 0 % 32 == p.1
      | none => false
    let t := s.when heldPend (putSlots i { o with pend := none })
    let t := t.updFab fun y =>
      { y with sched := y.sched.filter (fun p => !heldSched.contains p),
               salvos := y.salvos.map fun p => if heldSalvo.contains p then (p.1, { p.2 with committed := none }) else p }
    let t := t.latchPoint i
    let t := t.updFab fun y =>
      { y with sched := heldSched.foldl (fun l p => Assoc.put l p.1 p.2) y.sched,
               salvos := heldSalvo.foldl (fun l p => Assoc.put l p.1 p.2) y.salvos }
    let t := t.when heldPend fun u => u.putSlots i { u.outTakes i with pend := o.pend }
    match (t.outTakes i).lat with
    | some r => if o.lat = none then t.sendTwin (.latch [⟨i, r⟩]) else t
    | none => t
  else s.latchPoint i

/-- The standby latches a take of a latch record, once: the record comes on both pairs of the link (R447). -/
def latchListed (x : LatchItem) (s : State) : State :=
  if Assoc.find s.twin.latched x.out = some x.take then s
  else
    let s := s.updTwin fun y => { y with latched := Assoc.put y.latched x.out x.take }
    let o := s.outTakes x.out
    let t := x.take
    let same := fun u : TakeRec => u.src == t.src && u.accepted == t.accepted
    let s := s.when (match o.pend with | some u => same u | none => false) (putSlots x.out { o with pend := none })
    let s := s.updFab fun y =>
      { y with sched := y.sched.map (fun p => if p.2.out = x.out ∧ same p.2.take then (p.1, { p.2 with latched := true }) else p),
               salvos := y.salvos.map fun p => if bit t.flags 6 ∧ p.1 = t.ref then
                 (p.1, { p.2 with takes := p.2.takes.map fun u => if handleIdx u.out = x.out then { u with latched := true } else u })
                 else p }
    s.putSlots x.out { s.outTakes x.out with lat := some t }

/-! ### Cycle copies and signatures (R460–R464) -/

/-- The signature of an output over the frames of a cycle: token in 8 bytes, token state in 1, take epoch in 2. -/
def signature (fs : List SigFrame) : Nat :=
  crc32 ((fs.map fun f => beBytes 8 f.token ++ beBytes 1 f.tstate ++ beBytes 2 f.epoch).flatten)

/-- The signatures of the cycle that ends are closed and sent. -/
def closeSignatures (s : State) : State :=
  let l := s.twin.sigs.map fun p =>
    { e := p.1, crc := signature p.2, failed := s.twin.sigFail.contains p.1 || s.get (Reg.PROV.OUT_STATE p.1) == 2 : SigItem }
  let c := s.get Reg.TWIN.CYCNUM
  let s := s.updTwin fun x => { x with sigs := [], sigFail := [], sigCycle := c, sigLast := l }
  if s.linkUp then s.sendTwin (.signatures c l) else s

/-- The active sends the copy of a cycle: a full one to a partner that joins. -/
def sendCopy (s : State) : State :=
  let full := decide (s.twin.stage < 2)
  let snap := s.snapshot full
  let items := if full then snap else copyDelta s.twin.base snap
  let c := s.get Reg.TWIN.CYCNUM
  let x : SentCopy := { cycle := c, full := full, snap := s.snapshot false, items := items, mirSeq := s.twin.seq, at_ := s.now }
  ((s.updTwin fun y => { y with sent := some x, stage := max y.stage 1 }).setFree Reg.TWIN.COPYBYTES).sendTwin
    (.copy c x.mirSeq full items)

/-- A boundary of the twin cycle, once L has entered the next one (R453, R460, R463). -/
def cycleBoundary (s : State) : State :=
  if !s.twinOn ∨ s.twin.cycleIdx = some s.cycleIndex then s
  else
    let old := s.get Reg.TWIN.CYCNUM
    let s := (s.closeSignatures.bump Reg.TWIN.CYCNUM 1).updTwin fun x => { x with cycleIdx := some s.cycleIndex }
    match s.twinState with
    | 2 =>
        if s.twin.xchg ∧ s.twin.lastCycle = some old then
          ((s.twinEnter 3).twinEvent 9 [3]).updTwin fun x => { x with xchg := false, stage := 3, base := [], seq := x.applied }
        else s
    | 5 => s
    | 1 => s
    | _ =>
        if !s.linkUp then s
        else
          let s := s.when s.twin.sent.isSome (twinEvent 7 [s.twinState])
          if s.twinState = 3 ∧ s.twin.xchg ∧ s.twin.sent = none ∧ s.get Reg.TWIN.ACKED = old then
            ((s.twinEnter 2).twinEvent 9 [2]).updTwin fun x =>
              { x with xchg := false, lastCycle := none, gotFull := true, applied := x.seq, changed := [] }
          else s.sendCopy

/-- A copy without an acknowledgement for 1 ms is sent again, as it was. -/
def copyAgain (s : State) : State :=
  match s.twin.sent with
  | some c =>
      if s.now < c.at_ + 1000000 then s
      else
        ((s.bump Reg.TWIN.COPYCNT_RESENDS 1).updTwin fun x => { x with sent := some { c with at_ := s.now } }).sendTwin
          (.copy c.cycle c.mirSeq c.full c.items)
  | none => s

/-- A cycle copy arrives: the standby applies it once and acknowledges it (R461, R462). -/
def copyIn (cycle mirSeq : Nat) (full : Bool) (items : List CopyItem) (s : State) : State :=
  if s.twinState ≠ 1 ∧ s.twinState ≠ 2 then s
  else if s.twin.lastCycle = some cycle then s.sendTwin (.copyAck cycle)
  else if !full ∧ !s.twin.gotFull then s
  else
    let use := items.filter fun x => decide (Assoc.findD s.twin.changed (copyKey x) 0 ≤ mirSeq)
    let diff := use.filter fun x => s.ownItem x != x
    let s := s.when (!full && !diff.isEmpty) fun t => (t.bump Reg.TWIN.COPYCNT_DIVERGED diff.length).twinEvent 6 [t.twinState]
    let s := (s.each diff applyItem).set Reg.TWIN.CYCNUM cycle
    let s := s.updTwin fun x =>
      { x with lastCycle := some cycle, gotFull := true, applied := if full then mirSeq else x.applied }
    let s := s.sendTwin (.copyAck cycle)
    if !full ∧ s.twinState = 1 then s.twinEnter 2 else s

/-- The active receives the acknowledgement of a cycle; a first copy after the full one completes a join (R462). -/
def copyAck (cycle : Nat) (s : State) : State :=
  match s.twin.sent with
  | some c =>
      if c.cycle = cycle then
        let joins := !c.full && s.twin.stage == 2
        let s := (s.updTwin fun x =>
          { x with base := c.snap, sent := none, stage := if c.full then 2 else 3 }).set Reg.TWIN.ACKED cycle
        if joins ∧ s.twinState = 4 then s.twinEnter 3 else s
      else s
  | none => s

/-- The partner's signatures of a cycle are compared with the unit's own (R464). -/
def compareSigs (cycle : Nat) (sigs : List SigItem) (s : State) : State :=
  if cycle ≠ s.twin.sigCycle ∨ s.twin.sigSeen = some cycle then s
  else
    let s := s.updTwin fun x => { x with sigSeen := some cycle }
    let bad := (s.twin.sigLast.filterMap fun a => (sigs.find? fun b => b.e == a.e && b.crc != a.crc).map fun b => (a, b))
    if bad.isEmpty then s
    else
      let last := (bad.getLast?.map fun p => p.1.e).getD 0
      let s := ((s.bump Reg.TWIN.SIGMIS_COUNT bad.length).set Reg.TWIN.SIGMIS_ENTRY last).twinEvent 5 [s.twinState, last]
      let lower := s.use Reg.TWIN.CFG_CMPACT == 1 && bad.any fun p => p.1.failed && !p.2.failed
      s.when lower (lowerClaim 3)

/-! ### Supply feeds (R467, R468) -/

/-- A debounced edge of a supply pin. -/
def supplyEdge (feed : Nat) (good : Bool) (s : State) : State :=
  let f := if feed = 0 then Reg.TWIN.SUPSTAT_SUPA_OK else Reg.TWIN.SUPSTAT_SUPB_OK
  if s.flag f = good then s
  else (s.setB f good).twinEvent (if good then 12 else if feed = 0 then 10 else 11) [feed % 2]

/-- A field of SUPCFG as the PMBus master takes it: on a chip that is not twinned, as it is written. -/
def supCfg (r : FRef) (s : State) : Nat := if s.get Reg.TWIN.CTRL_EN = 1 then s.use r else s.get r

/-- A supply unit is polled, POLL ms after the last time or later. -/
def pmbusPoll (feed : Nat) (w : Option PmbusWords) (s : State) : State :=
  let f := feed % 2
  let due := (Assoc.find s.twin.polledAt f).all fun t => decide (t + max 1 (s.supCfg Reg.TWIN.SUPCFG_POLL) * 1000000 ≤ s.now)
  if s.supCfg Reg.TWIN.SUPCFG_PMBEN = 1 ∧ s.flag Reg.SNS.STAT_RUN ∧ due = true then
    let s := s.updTwin fun x => { x with polledAt := Assoc.put x.polledAt f s.now }
    match w with
    | none => (s.bump (Reg.TWIN.SUP_ERRCNT f) 1).twinEvent 14 [f]
    | some x =>
        let old := s.get (Reg.TWIN.SUP_STATUS f)
        let s := (((s.set (Reg.TWIN.SUP_VIN f) x.vin).set (Reg.TWIN.SUP_IIN f) x.iin).set (Reg.TWIN.SUP_VOUT f) x.vout).set
          (Reg.TWIN.SUP_IOUT f) x.iout
        let s := (s.set (Reg.TWIN.SUP_TEMP f) x.temp).set (Reg.TWIN.SUP_STATUS f) x.status
        s.when (s.get (Reg.TWIN.SUP_STATUS f) != old && s.get (Reg.TWIN.SUP_STATUS f) != 0) (twinEvent 13 [f])
  else s

/-- An L record of the partner: its MAC is checked (R449), and of a partner that acts it gives the phase of reference TWIN (R405). -/
def lRecord (claim : Nat) (r : Nat × Bool) (s : State) : State :=
  let m := s.macCheck r.2
  if m.1 ∧ 256 ≤ claim then
    m.2.updLode fun x => { x with phase := Assoc.put x.phase 8 ((r.1 : Int) - x.l), lRecAt := some m.2.now }
  else m.2

/-- A service cell of a T-mode lane carries the partner's claim (R341, R450), and an L record at times. -/
def twinService (n : Nat) (c : ServiceCell) (s : State) : State :=
  if s.twinLaneUp n then
    let s := s.partnerReads true c.claim (s.get64 Reg.TWIN.PDEVIDLO Reg.TWIN.PDEVIDHI)
    match c.l with
    | some r => s.lRecord c.claim r
    | none => s
  else s

end State

/-- TWIN_LINK_UP (R449). -/
def execTwinLinkUp (secondary : Bool) (s : State) : Host.Outcome State Fault Refusal := .next (s.twinUp secondary)

/-- LINK_UP_RECORD_RX (R449). -/
def execLinkUpRecordRx (ok : Bool) (id : LinkUpId) (measFw measPair claim : Nat) (s : State) : Host.Outcome State Fault Refusal :=
  .next (s.linkRecord ok id.devid measFw measPair claim id.nonce id.pub)

/-- TWIN_LINK_DOWN (R451). -/
def execTwinLinkDown (secondary : Bool) (s : State) : Host.Outcome State Fault Refusal := .next (s.twinDown secondary)

/-- TWIN_DEADTIME (R451). -/
def execTwinDeadtime (s : State) : Host.Outcome State Fault Refusal := .next s.deadTime

/-- TWIN_CYCLE_BOUNDARY (R460). -/
def execTwinCycleBoundary (s : State) : Host.Outcome State Fault Refusal := .next s.cycleBoundary

/-- COPY_RESEND (R460). -/
def execCopyResend (s : State) : Host.Outcome State Fault Refusal := .next s.copyAgain

/-- CYCLE_COPY_RX (R461). -/
def execCycleCopyRx (macOk : Bool) (cycle mirSeq : Nat) (full : Bool) (items : List CopyItem) (s : State) :
    Host.Outcome State Fault Refusal :=
  let r := s.macCheck macOk
  .next (if r.1 then r.2.copyIn cycle mirSeq full items else r.2)

/-- COPY_ACK_RX (R462). -/
def execCopyAckRx (macOk : Bool) (cycle : Nat) (s : State) : Host.Outcome State Fault Refusal :=
  let r := s.macCheck macOk
  .next (if r.1 then r.2.copyAck cycle else r.2)

/-- MIRROR_RECORD_RX (R458). -/
def execMirrorRecordRx (macOk : Bool) (m : MirrorRec) (s : State) : Host.Outcome State Fault Refusal :=
  let r := s.macCheck macOk
  .next (if r.1 then r.2.mirrorIn m else r.2)

/-- MIRROR_RESEND (R458). -/
def execMirrorResend (seq : Nat) (s : State) : Host.Outcome State Fault Refusal := .next (s.mirrorAgain seq)

/-- LATCH_RECORD_RX (R459). -/
def execLatchRecordRx (macOk : Bool) (items : List LatchItem) (s : State) : Host.Outcome State Fault Refusal :=
  let r := s.macCheck macOk
  .next (if r.1 ∧ r.2.twinState = 2 then r.2.each items State.latchListed else r.2)

/-- SIGNATURE_RX (R464). -/
def execSignatureRx (macOk : Bool) (cycle : Nat) (sigs : List SigItem) (s : State) : Host.Outcome State Fault Refusal :=
  let r := s.macCheck macOk
  .next (if r.1 then r.2.compareSigs cycle sigs else r.2)

/-- SUPPLY_OK_EDGE (R467). -/
def execSupplyOkEdge (feed : Nat) (good : Bool) (s : State) : Host.Outcome State Fault Refusal := .next (s.supplyEdge feed good)

/-- PMBUS_POLL (R468). -/
def execPmbusPoll (feed : Nat) (words : Option PmbusWords) (s : State) : Host.Outcome State Fault Refusal :=
  .next (s.pmbusPoll feed words)

/-- LATCH_POINT (R123) of the output with channel-table index `out`. -/
def execLatchPoint (out : Nat) (s : State) : Host.Outcome State Fault Refusal :=
  .next (s.twinLatch out)

/-- SERVICE_CELL_RX (R341) on lane `n`. -/
def execServiceCellRx (n : Nat) (cell : ServiceCell) (s : State) : Host.Outcome State Fault Refusal :=
  .next ((s.serviceIn n cell).twinService n cell)

end Sys2Proof.Machine
end

