-- ==== Sys2Proof/Machine/Gbus.lean ====
section
/-! DEFINITION. Chapter 19: the druse bus. -/

namespace Sys2Proof.Machine

/-- The 64-bit header of a frame. -/
def gbusHeader (f : GbusFrame) : Nat :=
  f.ver % 16 * 2 ^ 60 + f.slot % 64 * 2 ^ 54 + f.sys % 2 ^ 18 * 2 ^ 36 + f.cycle % 1024 * 2 ^ 26 +
    f.payload.length % 512 * 2 ^ 17 + f.claim % 512 * 2 ^ 8

/-- CRC-16 of R153 over bytes: the polynomial 0x1021 from 0xFFFF, highest bit first. -/
def crc16 (l : List Byte) : Nat :=
  l.foldl (fun c b => (List.range 8).foldl (fun c i =>
    let x := bit c 15 != bit b.toNat (7 - i)
    let c := c * 2 % 65536
    if x then Nat.xor c 0x1021 else c) c) 0xFFFF

/-- The bytes of a frame between its delimiters: header, heartbeat, their CRC-16, and a payload with its CRC-32, each the most
significant byte first. -/
def gbusBytes (f : GbusFrame) : List Byte :=
  let head := beBytes 8 (gbusHeader f) ++ beBytes 8 f.devid ++ beBytes 2 f.terr
  head ++ beBytes 2 (crc16 head) ++ (if f.payload = [] then [] else f.payload ++ beBytes 4 (crc32 f.payload))

namespace State

/-- Change the druse bus's hidden state. -/
def updGbus (f : GbusState → GbusState) (s : State) : State := { s with gbus := f s.gbus }

/-- The bus runs. -/
def gbusRuns (s : State) : Bool := s.flag Reg.GBUS.STAT_RUN

/-- A pair is enabled. -/
def pairOn (p : Nat) (s : State) : Bool := bit (s.use Reg.GBUS.CFG_PAIREN) p

/-- The gap after a step of TIME lasts (R482). -/
def inStepGap (s : State) : Bool :=
  match s.gbus.stepUntil with
  | some t => decide (s.timeNs < t)
  | none => false

/-- STAT.MUTED. -/
def showMuted (s : State) : State := s.setB Reg.GBUS.STAT_MUTED (s.gbus.mute || s.inStepGap)

/-- The bus cycle of TIME, and the window of 16 cycles it is in (R471, R483). -/
def busCycle (s : State) : Nat := s.timeNs / 1000000
def busWindow (s : State) : Nat := s.busCycle / 16

/-! ### Start (R472) -/

/-- The reason that refuses a start, 0 when it is accepted. -/
def gbusCfgErr (s : State) : Nat :=
  let k := s.get Reg.GBUS.CFG_OWNSLOT
  if s.get (Reg.GBUS.MAP_VALID k) = 0 then 1
  else if s.get (Reg.GBUS.MAP_SYSNUM k) ≠ s.use Reg.CHN.CFG_SYSNUM then 2
  else if s.get Reg.GBUS.CFG_PAIREN = 0 then 3
  else 0

/-- The bus starts: the members of its map are lost until they are heard. -/
def gbusStart (s : State) : State :=
  let s := s.updGbus fun x =>
    { x with taken := [], latchCyc := none, heard := [], ownOut := false, ownSeen := [], used := [], sentCyc := none,
             window := some s.busWindow }
  let s := (s.set Reg.GBUS.STAT_PAIRST 0).showMuted
  s.each (List.range 64) fun k t => (t.set (Reg.GBUS.MEM_ST_STATE k) (t.use (Reg.GBUS.MAP_VALID k))).set (Reg.GBUS.MEM_CNT_MISS k) 0

/-! ### Sending (R474–R477) -/

/-- A write of GO to TXGO. -/
def txgoLand (data : Word) (s : State) : State :=
  if bit data.toNat 0 then s.set Reg.GBUS.STAT_TXPEND 1 else s

/-- A write to TXBUF or TXLEN while a buffer is pending is discarded (R475). -/
def txIgnored (s : State) : State := (s.set Reg.GBUS.STAT_TX_IGN 1).gbusEvent 11 []

/-- The bytes of the transmit buffer. -/
def txBytes (s : State) : List Byte :=
  (((List.range 64).map fun j => leBytes 4 (s.get (Reg.GBUS.TXBUF j))).flatten).take (min 256 (s.get Reg.GBUS.TXLEN))

/-- The cycle whose own edge the latch point 20 µs before it belongs to (R475). -/
def latchCycle (s : State) : Nat := (s.timeNs + 20000 - 15625 * s.use Reg.GBUS.CFG_OWNSLOT) / 1000000

/-- The latch point, one in a cycle: a pending buffer is taken for this cycle's frame, or dropped on a unit that is not eligible. A muted
member sends no frame, and its buffer stays pending. -/
def gbusLatch (s : State) : State :=
  if !s.gbusRuns ∨ s.gbus.latchCyc = some s.latchCycle then s
  else if !s.flag Reg.GBUS.STAT_TXPEND ∨ s.gbus.mute ∨ s.inStepGap then s.updGbus fun x => { x with latchCyc := some s.latchCycle }
  else
    let s := s.updGbus fun x => { x with latchCyc := some s.latchCycle }
    let s := s.set Reg.GBUS.STAT_TXPEND 0
    if s.ineligible then s.bump Reg.GBUS.CNT_TXDROP 1
    else
      let l := s.txBytes
      s.updGbus fun x => { x with taken := l }

/-- The counter of own errors of a pair (R477). -/
def ownErrF (p : Nat) : FRef := if p = 0 then ⟨Reg.GBUS.CNT_OWNERR.addr, 3, 0⟩ else ⟨Reg.GBUS.CNT_OWNERR.addr, 7, 4⟩
def ownErr (p : Nat) (s : State) : State := (s.bump (ownErrF p) 1).gbusEvent 9 [p]

/-- The seed repeats ARM in every cycle until each part answers, and COMMIT or ABORT until the instant (R145). -/
def repeatParts (s : State) : State :=
  if s.ineligible then s
  else
    let s := s.each s.jrp.salvos fun x t =>
      let op := if x.phase = 1 then 9 else if x.phase = 2 then 10 else 11
      t.each (x.parts.filter fun p => 1 ≤ x.phase && (x.phase != 1 || p.answer.isNone)) fun p u =>
        u.emit (.part p.sys op x.gid [] x.instant x.minlead)
    s.updJrp fun j => { j with salvos := j.salvos.filter fun x => decide (x.phase ≤ 1) || decide (s.timeNs ≤ x.instant) }

/-- The own slot's edge: pairs on which the last own frame was not heard count an error, and a frame is sent on every enabled pair,
one in a cycle. -/
def gbusOwnSlot (s : State) : State :=
  if !s.gbusRuns ∨ s.gbus.sentCyc = some s.busCycle then s
  else
    let miss := if s.gbus.ownOut then [0, 1].filter fun p => s.pairOn p && !s.gbus.ownSeen.contains p else []
    let s := (s.each miss ownErr).showMuted.repeatParts
    if s.gbus.mute ∨ s.inStepGap then s.updGbus fun x => { x with ownOut := false, ownSeen := [] }
    else
      let f : GbusFrame :=
        { ver := 1, slot := s.use Reg.GBUS.CFG_OWNSLOT, sys := s.use Reg.CHN.CFG_SYSNUM, cycle := s.busCycle % 1000,
          claim := if s.get Reg.TWIN.CTRL_EN = 1 then s.get Reg.TWIN.CARRIED_OWN else 0, devid := s.devid,
          terr := s.get Reg.GBUS.TERR, payload := s.gbus.taken, headerOk := true, payloadOk := true, start := 0, crossed := false }
      (s.updGbus fun x => { x with taken := [], ownOut := true, ownSeen := [], sentCyc := some s.busCycle }).emit
        (.gbus (s.use Reg.GBUS.CFG_PAIREN) f (gbusBytes f))

/-! ### Receiving (R473, R478–R480) -/

/-- The head of the receive queue stands in the registers. -/
def showRxq (s : State) : State :=
  let h := s.gbus.rxq.head?
  let hdr := (h.map fun x => x.hdr).getD 0
  let pay := (h.map fun x => x.payload).getD []
  let s := ((s.set Reg.GBUS.RXQ_COUNT s.gbus.rxq.length).set64 Reg.GBUS.RXHDRLO Reg.GBUS.RXHDRHI hdr).set Reg.GBUS.RXLEN pay.length
  s.each (List.range 64) fun j t => t.set (Reg.GBUS.RXDATA j) (leNat ((pay.drop (4 * j)).take 4))

/-- A write of GO to POP. -/
def popLand (data : Word) (s : State) : State :=
  if bit data.toNat 0 then (s.updGbus fun x => { x with rxq := x.rxq.drop 1 }).showRxq else s

/-- A frame is discarded, and counted against its slot (R473). -/
def frameDiscard (p slot : Nat) (f : GbusFrame) (s : State) : State :=
  let s := s.bump (if p = 0 then Reg.GBUS.MEM_CNT_ERRA slot else Reg.GBUS.MEM_CNT_ERRB slot) 1
  let mis := f.headerOk && f.ver == 1 && (f.slot != slot || f.sys != s.use (Reg.GBUS.MAP_SYSNUM slot))
  let s := (s.when mis (gbusEvent 12 [slot])).when f.crossed (gbusEvent 4 [slot])
  s.when (slot == s.use Reg.GBUS.CFG_OWNSLOT && s.gbus.ownOut) fun t =>
    (t.ownErr p).updGbus fun x => { x with ownSeen := x.ownSeen ++ [p] }

/-- The offset of a frame, and the check of it (R480, R482). -/
def judgeOffset (slot : Nat) (f : GbusFrame) (s : State) : State :=
  let off := f.start - (s.use (Reg.GBUS.MAP_DLY slot) : Int)
  let s := s.set (Reg.GBUS.MEM_ST_OFFSET slot) (ofSigned 16 (satSigned 16 off))
  if 500 < off.natAbs ∧ !s.inStepGap then
    ((s.set (Reg.GBUS.MEM_ST_ENCROACH slot) 1).bump (Reg.GBUS.MEM_CNT_ENCNT slot) 1).gbusEvent 3 [slot]
  else s

/-- The chip's own system number with another identity than its own and its twin's (R115). -/
def sysnumCheck (sys devid : Nat) (s : State) : State :=
  let partner := s.get64 Reg.TWIN.PDEVIDLO Reg.TWIN.PDEVIDHI
  let twin := s.get Reg.TWIN.CTRL_EN == 1 && (partner == 0 || partner == devid)
  if sys = s.use Reg.CHN.CFG_SYSNUM ∧ devid ≠ s.devid ∧ !twin then
    (s.updChn fun x => { x with dupSys := if x.dupSys.contains sys then x.dupSys else x.dupSys ++ [sys] }).raise 93 [sys, devid]
  else s

/-- A heartbeat of the twin partner (R448, R451). -/
def partnerBeat (f : GbusFrame) (s : State) : State :=
  let partner := s.get64 Reg.TWIN.PDEVIDLO Reg.TWIN.PDEVIDHI
  if s.get Reg.TWIN.CTRL_EN = 1 ∧ f.sys = s.use Reg.CHN.CFG_SYSNUM ∧ f.devid ≠ s.devid ∧ (partner = 0 ∨ partner = f.devid) then
    let s := (s.set64 Reg.TWIN.PDEVIDLO Reg.TWIN.PDEVIDHI f.devid).updTwin fun x =>
      { x with hb := some { at_ := s.now, claim := f.claim, devid := f.devid } }
    s.partnerReads false f.claim f.devid
  else s

/-- The messages of a payload: type and body. -/
def payloadMsgs : Nat → List Byte → List (Nat × List Byte)
  | fuel + 1, t :: n :: l => (t.toNat, l.take n.toNat) :: payloadMsgs fuel (l.drop n.toNat)
  | _, _ => []

/-- The sender of a slot is the one whose messages are acted on (R454): no other member heard carries its system number with a
higher claim, or with the same claim and a higher identity. -/
def senderChosen (slot : Nat) (f : GbusFrame) (s : State) : Bool :=
  (List.range 64).all fun k =>
    k == slot || s.get (Reg.GBUS.MEM_ST_STATE k) != 2 || s.use (Reg.GBUS.MAP_SYSNUM k) != f.sys ||
      decide (s.get (Reg.GBUS.MEM_ST_CLAIM k) < f.claim) ||
      (s.get (Reg.GBUS.MEM_ST_CLAIM k) == f.claim && decide (s.get64 (Reg.GBUS.MEM_DEVIDLO k) (Reg.GBUS.MEM_DEVIDHI k) ≤ f.devid))

/-- The payload of a frame waits for the firmware: tallies are reported to subscribers, and the salvo messages of R145 are acted
on. -/
def takeMessages (slot : Nat) (f : GbusFrame) (s : State) : State :=
  if s.senderChosen slot f then
    (s.notifyTallies f.sys 128 f.payload).updGbus fun x =>
      { x with msgs := x.msgs ++ ((payloadMsgs 128 f.payload).filter fun m => decide (2 ≤ m.1) && decide (m.1 ≤ 5)).map fun m => (f.sys, m) }
  else s

/-- A valid frame is used: its member's record is updated, and a payload enters the queue. -/
def frameUse (slot : Nat) (f : GbusFrame) (s : State) : State :=
  let s := s.judgeOffset slot f
  let s := s.when (s.get (Reg.GBUS.MEM_ST_STATE slot) != 2) fun t => (t.set (Reg.GBUS.MEM_ST_STATE slot) 2).gbusEvent 6 [slot]
  let s := (((s.set (Reg.GBUS.MEM_ST_CLAIM slot) f.claim).set64 (Reg.GBUS.MEM_DEVIDLO slot) (Reg.GBUS.MEM_DEVIDHI slot) f.devid).set
    (Reg.GBUS.MEM_TERR slot) f.terr).set (Reg.GBUS.MEM_CNT_MISS slot) 0
  let s := (s.sysnumCheck f.sys f.devid).partnerBeat f
  if f.payload.isEmpty then s
  else if s.gbus.rxq.length < 128 then
    ((s.updGbus fun x => { x with rxq := x.rxq ++ [{ hdr := gbusHeader f, payload := f.payload }] }).showRxq).takeMessages slot f
  else (s.set Reg.GBUS.RXQ_OVF 1).gbusEvent 10 [slot]

/-- A frame is received on a pair in a slot. -/
def gbusFrame (p slot : Nat) (f : GbusFrame) (s : State) : State :=
  if !s.gbusRuns ∨ 64 ≤ slot ∨ !s.pairOn p ∨ 2 ≤ p then s
  else if !f.headerOk ∨ f.ver ≠ 1 ∨ f.slot ≠ slot ∨ s.use (Reg.GBUS.MAP_VALID slot) = 0 ∨
      f.sys ≠ s.use (Reg.GBUS.MAP_SYSNUM slot) ∨ (!f.payload.isEmpty ∧ !f.payloadOk) ∨ f.crossed then
    s.frameDiscard p slot f
  else
    let s := s.when (slot == s.use Reg.GBUS.CFG_OWNSLOT) (updGbus fun x => { x with ownSeen := x.ownSeen ++ [p] })
    let s := s.updGbus fun x => { x with heard := if x.heard.contains (p, slot) then x.heard else x.heard ++ [(p, slot)] }
    let c := s.busCycle
    if Assoc.find s.gbus.used slot = some c then s
    else (s.updGbus fun x => { x with used := Assoc.put x.used slot c }).frameUse slot f

/-- A member slot ends a cycle with no valid frame (R479); slot 63 ends with its cycle. -/
def slotMiss (slot : Nat) (s : State) : State :=
  if !s.gbusRuns ∨ 64 ≤ slot ∨ s.use (Reg.GBUS.MAP_VALID slot) = 0 ∨
      Assoc.find s.gbus.used slot = some ((s.timeNs - 1) / 1000000) then s
  else
    let s := s.bumpSat (Reg.GBUS.MEM_CNT_MISS slot) 1
    if s.get (Reg.GBUS.MEM_ST_STATE slot) = 2 ∧ max 1 (s.use Reg.GBUS.CFG_HBMISS) ≤ s.get (Reg.GBUS.MEM_CNT_MISS slot) then
      (s.set (Reg.GBUS.MEM_ST_STATE slot) 1).gbusEvent 5 [slot]
    else s

/-! ### Drift and pairs (R481–R483) -/

/-- The member mutes, or unmutes. -/
def setMute (on : Bool) (s : State) : State :=
  if s.gbus.mute = on then s
  else ((s.updGbus fun x => { x with mute := on }).showMuted).gbusEvent (if on then 1 else 2) []

/-- A write of TERR. -/
def terrLand (data : Word) (s : State) : State :=
  let v := data.toNat % 65536
  let s := (s.set Reg.GBUS.TERR v).updGbus fun x => { x with terrAt := s.now }
  if 500 < v then s.setMute true else if v ≤ 400 then s.setMute false else s

/-- A step of TIME is applied: the member is silent until the first cycle that begins 1 ms after it (R482). -/
def gbusStepped (s : State) : State :=
  if s.gbusRuns then
    let t := s.timeNs
    let go := (t + 1000000 + 999999) / 1000000 * 1000000
    (((s.updGbus fun x => { x with stepUntil := some go }).showMuted).bump Reg.GBUS.CNT_STEPCNT 1).gbusEvent 13 []
  else s

/-- TERR has not been written for 1 s. -/
def terrTimeout (s : State) : State := s.when (decide (s.gbus.terrAt + 1000000000 ≤ s.now)) (setMute true)

/-- A window of 16 cycles ends for a pair: `got` and `other` are the slots heard on it and on the other pair. -/
def judgePair (p : Nat) (got other : List Nat) (s : State) : State :=
  let f : FRef := ⟨Reg.GBUS.STAT_PAIRST.addr, Reg.GBUS.STAT_PAIRST.lo + p, Reg.GBUS.STAT_PAIRST.lo + p⟩
  if !s.pairOn p then s
  else if s.flag f then
    (if got.isEmpty ∧ !other.isEmpty then (s.set f 0).gbusEvent 7 [p] else s)
  else if !got.isEmpty ∧ ((List.range 64).all fun k => s.get (Reg.GBUS.MEM_ST_STATE k) != 2 || got.contains k) then
    (s.set f 1).gbusEvent 8 [p]
  else s

/-- A window of 16 cycles ends for both pairs, once in that window; beside the slots heard on them `gotA` and `gotB` are. -/
def pairWindow (gotA gotB : List Nat) (s : State) : State :=
  if !s.gbusRuns ∨ s.gbus.window = some s.busWindow then s
  else
    let got := fun p : Nat => (s.gbus.heard.filter fun x => x.1 == p).map (·.2) ++ if p = 0 then gotA else gotB
    ((s.updGbus fun x => { x with window := some s.busWindow, heard := [] }).judgePair 0 (got 0) (got 1)).judgePair 1 (got 1) (got 0)

end State

/-- GBUS_TX_LATCH (R475). -/
def execGbusTxLatch (s : State) : Host.Outcome State Fault Refusal := .next s.gbusLatch

/-- GBUS_OWN_SLOT (R474). -/
def execGbusOwnSlot (s : State) : Host.Outcome State Fault Refusal := .next s.gbusOwnSlot

/-- GBUS_FRAME_RX (R473). -/
def execGbusFrameRx (pair slot : Nat) (frame : GbusFrame) (s : State) : Host.Outcome State Fault Refusal :=
  .next (s.gbusFrame pair slot frame)

/-- GBUS_SLOT_MISS (R479). -/
def execGbusSlotMiss (slot : Nat) (s : State) : Host.Outcome State Fault Refusal := .next (s.slotMiss slot)

/-- GBUS_PAIR_WINDOW (R483). -/
def execGbusPairWindow (gotA gotB : List Nat) (s : State) : Host.Outcome State Fault Refusal :=
  .next (s.pairWindow gotA gotB)

/-- TERR_TIMEOUT (R481). -/
def execTerrTimeout (s : State) : Host.Outcome State Fault Refusal := .next s.terrTimeout

end Sys2Proof.Machine
end

