-- ==== Sys2Proof/Machine/Flt.lean ====
section
/-! DEFINITION. Chapter 20: intake of records, reactions and handling slots, the history, and the alive signal. -/

namespace Sys2Proof.Machine

/-- The default reaction of a severity (R491): LOG for INFO and WARN, INTERRUPT for DEGRADE and FAIL. -/
def sevReaction (sev : Nat) : Nat := if sev ≤ 1 then 1 else 2

/-- A record as it is entered: its source, severity, reaction configured, whether it is suppressed, its sequence number and
the rest of the pending record. -/
structure Entered where
  rec_ : PendRec
  sev : Nat
  react : Nat
  suppr : Bool
  seq : Nat
  deriving DecidableEq, Repr

namespace State

/-! ### The alive signal (R501–R504) -/

/-- FLT.STAT.PHASE. -/
def phase (s : State) : Nat := s.get Reg.FLT.STAT_PHASE

/-- The pins enter a phase: STATIC_FAULT before service, STOPPED in service; other phases are left only by a reset. -/
def stopAlive (s : State) : State :=
  if s.phase = 0 then s.set Reg.FLT.STAT_PHASE 2 else if s.phase = 1 then s.set Reg.FLT.STAT_PHASE 3 else s

/-- The chip enters service: the square wave begins; which level comes first is open (R501). -/
def startAlive (s : State) : State :=
  if s.phase = 0 then
    let q := s.fresh
    (q.2.updFlt fun x => { x with serviceSince := (1000000 - s.now % 1000000) + 500000 * (q.1 % 2) }).set Reg.FLT.STAT_PHASE 1
  else s

/-- A life-cycle state in which PINTEST acts (R503). -/
def pinTestOpen (s : State) : Bool := s.get Reg.KEY.STAT_LCSTATE == 0 || s.get Reg.KEY.STAT_LCSTATE == 3

/-- FLT_A is at its high level in the present half period of the square wave. -/
def waveHigh (s : State) : Bool := decide ((s.now + s.flt.serviceSince) / 500000 % 2 = 0)

/-- PINTEST.FORCE where it acts. -/
def pinForce (s : State) : Nat := if s.pinTestOpen then s.get Reg.FLT.PINTEST else 0

/-- The levels driven on FLT_A and FLT_B (R501, R503). -/
def pinLevels (s : State) : Bool × Bool :=
  match s.pinForce with
  | 1 => (true, false)
  | 2 => (false, true)
  | 3 => (false, false)
  | _ =>
      match s.phase with
      | 0 => (true, false)
      | 1 => (s.waveHigh, !s.waveHigh)
      | 2 => (false, true)
      | _ => (false, false)

/-- An edge of the square wave was driven less than 2 µs ago. -/
def nearEdge (s : State) : Bool :=
  s.pinForce == 0 && s.phase == 1 && decide ((s.now + s.flt.serviceSince) % 500000 < 2000)

/-- The pins are sampled every 100 µs (R504): PIN_READBACK on the third mismatch in a row of either. -/
def pinSample (a b : Bool) (s : State) : State :=
  if s.now < s.flt.pinAt + 100000 then s
  else if s.nearEdge then s.updFlt fun x => { x with pinAt := s.now }
  else
    let lv := s.pinLevels
    let ma := if a = lv.1 then 0 else s.flt.misA + 1
    let mb := if b = lv.2 then 0 else s.flt.misB + 1
    let s := ((s.updFlt fun x => { x with misA := ma, misB := mb, pinAt := s.now }).setB Reg.FLT.STAT_ARB a).setB Reg.FLT.STAT_BRB b
    (s.when (ma == 3) (raise 1 [0])).when (mb == 3) (raise 1 [1])

/-- A write of PINTEST lands; it is ignored, and FORCE reads 0, outside MFG and MAINT (R503). -/
def pinTestLand (data : Word) (s : State) : State :=
  s.set Reg.FLT.PINTEST (if s.pinTestOpen then data.toNat % 4 else 0)

/-! ### History and event log (R496–R498, R521) -/

/-- Entry k of the history takes a record. -/
def histPut (k : Nat) (e : Entered) (s : State) : State :=
  let s := (((((s.set (Reg.FLT.HIST_VALID k) 1).setB (Reg.FLT.HIST_SUPPR k) e.suppr).set (Reg.FLT.HIST_SEV k) e.sev).set
    (Reg.FLT.HIST_PRE k) 0).set (Reg.FLT.HIST_REACT k) e.react).set (Reg.FLT.HIST_SRC k) e.rec_.src
  let s := (s.set (Reg.FLT.HIST_SEQ k) e.seq).set64 (Reg.FLT.HIST_TLO k) (Reg.FLT.HIST_THI k) e.rec_.time
  ((s.set (Reg.FLT.HIST_DATA k) e.rec_.data.toNat).set (Reg.FLT.HIST_MERGED k) e.rec_.merged).chkinvStruckAt 11 (8 * k)

/-- How many of the 16 entries are valid. -/
def histCount (s : State) : Nat := ((List.range 16).filter fun k => s.flag (Reg.FLT.HIST_VALID k)).length

/-- A record enters the ring, and entry 0 when that is empty (R496). -/
def histAdd (e : Entered) (s : State) : State :=
  let k := s.get Reg.FLT.HISTSTAT_NEWEST % 15 + 1
  let s := (s.histPut k e).when (!s.flag (Reg.FLT.HIST_VALID 0)) (histPut 0 e)
  (s.set Reg.FLT.HISTSTAT_NEWEST k).set Reg.FLT.HISTSTAT_COUNT s.histCount

/-- All 16 entries are emptied (R496). -/
def histClear (s : State) : State :=
  let s := s.each (List.range 128) fun j t => t.wr ((Reg.FLT.HIST_VALID 0).addr + 4 * j) 0
  (s.set Reg.FLT.HISTSTAT_NEWEST 0).set Reg.FLT.HISTSTAT_COUNT 0

/-- The eight words of a record, laid out as a history entry. -/
def entryBytes (e : Entered) : List Byte :=
  leBytes 4 (2 ^ 31 + b2n e.suppr * 2 ^ 30 + e.sev % 4 * 2 ^ 28 + e.react % 8 * 2 ^ 24 + e.rec_.src % 2048) ++
    leBytes 4 e.seq ++ leBytes 8 e.rec_.time ++ leBytes 4 e.rec_.data.toNat ++ leBytes 4 e.rec_.merged ++ leBytes 8 0

/-- The offset of the event log in SRAM (R509). -/
def logBase : Nat := 0x3E0000

/-- A record is written to the event log ring, and offered to the subscriptions (R521, R594). -/
def logWrite (e : Entered) (s : State) : State :=
  let n := s.get Reg.MGT.LOGSTAT_COUNT
  let k := if n = 0 then 0 else (s.get Reg.MGT.LOGSTAT_NEWEST + 1) % 4096
  let s := ((s.sramPut (logBase + 32 * k) (entryBytes e))).set Reg.MGT.LOGSTAT_NEWEST k
  (s.set Reg.MGT.LOGSTAT_COUNT (min 4096 (n + 1))).notifyEvent e.seq e.rec_.src e.sev e.rec_.data.toNat e.rec_.time e.rec_.merged

/-! ### Slots and reactions (R490–R495, R499) -/

/-- A slot of equal or higher severity is busy. -/
def slotBusyFrom (sev : Nat) (s : State) : Bool :=
  (List.range 4).any fun k => decide (sev ≤ k) && s.flag (Reg.FLT.SLOT_BUSY k)

/-- A slot is occupied, and its severity's interrupt raised (R490, R492). -/
def occupy (e : Entered) (react : Nat) (s : State) : State :=
  let k := e.sev
  let s := ((s.set (Reg.FLT.SLOT_BUSY k) 1).set (Reg.FLT.SLOT_REACT k) react).set (Reg.FLT.SLOT_SRC k) e.rec_.src
  let s := (s.set (Reg.FLT.SLOT_SEQ k) e.seq).set (Reg.FLT.SLOT_DATA k) e.rec_.data.toNat
  s.updFlt fun x =>
    { x with held := Assoc.put x.held k (s.now, false), irq := if x.irq.contains k then x.irq else x.irq ++ [k] }

/-- A slot is freed, and its interrupt withdrawn. -/
def freeSlot (k : Nat) (s : State) : State :=
  (s.set (Reg.FLT.SLOT_BUSY k) 0).updFlt fun x =>
    { x with held := Assoc.del x.held k, irq := x.irq.filter fun j => j != k }

/-- What a reaction step does at its target. -/
def stepTarget (step : Nat) (s : State) : State :=
  match step with
  | 3 => s.lowerClaim 1
  | 4 => s.imposeSafe
  | _ => s.stopAlive

/-- What a target does whose acknowledgement never comes is open; the collector's own registers keep no trace of it. -/
def stepLost (step : Nat) (s : State) : State :=
  let q := s.fresh
  if q.1 % 2 = 0 then q.2
  else
    match step with
    | 3 => q.2.lowerClaim 1
    | 4 => q.2.imposeSafe.set Reg.FLT.SAFESTAT (s.get Reg.FLT.SAFESTAT)
    | _ => q.2

/-- The steps of a reaction run in order; one without an acknowledgement waits (R499). -/
def runSteps (noAck : List Nat) : List Nat → State → State
  | [], s => s
  | k :: ks, s =>
      if noAck.contains k then
        (s.stepLost k).updFlt fun x => { x with reaction := some { steps := ks, noAck := noAck, deadline := s.now + 10000 } }
      else runSteps noAck ks (s.stepTarget k)

/-- The steps that a reaction code adds beyond INTERRUPT. -/
def stepsOf (react : Nat) : List Nat := [3, 4, 5].filter fun k => decide (k ≤ react)

/-- The pending record that is entered next (R489). -/
def nextPend (s : State) : Option PendRec :=
  s.flt.pend.foldl (fun best p =>
    match best with
    | none => some p
    | some b =>
        let sp := s.get (Reg.FLT.SRC_SEV p.src)
        let sb := s.get (Reg.FLT.SRC_SEV b.src)
        if sb < sp ∨ (sb = sp ∧ p.src < b.src) then some p else some b) none

/-- The severity and reaction a record takes: those of FLT.SRC, or the defaults when they cannot be read (R491, R499). -/
def srcConfig (src : Nat) (bad : Bool) (s : State) : Nat × Nat :=
  if bad then
    let sev := bits (resetWord (Reg.FLT.SRC_SEV src).addr).toNat 13 12
    (sev, sevReaction sev)
  else (s.get (Reg.FLT.SRC_SEV src), s.get (Reg.FLT.SRC_REACT src))

/-- The reaction in effect: codes 6 and 7 act as 5, and with FLT.CTRL.EN = 0 those stronger than LOG act as LOG. -/
def effective (react : Nat) (s : State) : Nat :=
  if s.get Reg.FLT.CTRL_EN = 0 then min 1 react else min 5 react

/-- A pending record is entered (R488–R492, R499). -/
def enterRecord (e : EntryErrors) (p : PendRec) (s : State) : State :=
  let cfg := s.srcConfig p.src e.srcRead
  let react := s.effective cfg.2
  let suppr := decide (2 ≤ react) && s.slotBusyFrom cfg.1
  let x : Entered := { rec_ := p, sev := cfg.1, react := cfg.2, suppr := suppr, seq := s.get Reg.FLT.SEQ }
  let s := (s.updFlt fun y => { y with pend := y.pend.filter fun r => r.src != p.src }).bump Reg.FLT.SEQ 1
  let s := s.when (e.srcRead || e.histWrite) (set Reg.FLT.STAT_LOSS 1)
  let s := s.when (!e.histWrite) (histAdd x)
  let s := s.when (decide (1 ≤ react)) (logWrite x)
  if suppr then s.bump Reg.FLT.SUPCNT 1
  else if 2 ≤ react then
    let noAck := (if e.noAckHandover && s.get Reg.TWIN.CTRL_EN == 1 then [3] else []) ++ (if e.noAckSafe then [4] else []) ++
      (if e.noAckStop then [5] else [])
    (s.occupy x react).runSteps noAck (stepsOf react)
  else s

/-- The collector enters the next pending record; it waits while a reaction step has no acknowledgement. -/
def enterNext (e : EntryErrors) (s : State) : State :=
  match s.flt.reaction, s.nextPend with
  | none, some p => s.enterRecord e p
  | _, _ => s

/-- Every pending record is entered, as before a restart that the firmware performs. -/
def enterAll : Nat → State → State
  | 0, s => s
  | n + 1, s => enterAll n (s.enterNext ⟨false, false, false, false, false⟩)

/-- A step stays unacknowledged for 10 µs: it counts as not carried out, and the remaining steps run (R499). -/
def ackTimeout (s : State) : State :=
  match s.flt.reaction with
  | none => s
  | some r => if s.now < r.deadline then s else ((s.updFlt fun x => { x with reaction := none }).set Reg.FLT.STAT_LOSS 1).runSteps r.noAck r.steps

/-- A write of GO to a slot's ACK (R493). -/
def ackLand (k : Nat) (data : Word) (s : State) : State :=
  if bit data.toNat 0 ∧ s.flag (Reg.FLT.SLOT_BUSY k) ∧ s.get (Reg.FLT.SLOT_REACT k) ≠ 5 then s.freeSlot k else s

/-- A slot has stayed busy for CFG.HOLDLIM seconds (R493). -/
def slotHeld (k : Nat) (s : State) : State :=
  if s.get Reg.FLT.CFG_HOLDLIM = 0 then s
  else
    match Assoc.find s.flt.held k with
    | some (t, false) =>
        if s.now < t + s.get Reg.FLT.CFG_HOLDLIM * 1000000000 then s
        else (s.updFlt fun x => { x with held := Assoc.put x.held k (t, true) }).raise 2 [k]
    | _ => s

/-- A write of GO to SAFECLR (R495). -/
def safeClrLand (data : Word) (s : State) : State :=
  if bit data.toNat 0 ∧ !(s.flag (Reg.FLT.SLOT_BUSY 3) && s.get (Reg.FLT.SLOT_REACT 3) == 5) ∧ s.flag Reg.FLT.SAFESTAT then
    s.endSafe
  else s

/-- A write of GO to HISTCLR. -/
def histClrLand (data : Word) (s : State) : State := s.when (bit data.toNat 0) histClear

/-- A soft reset of FLT frees the slots held under anything but STOP, as by ACK (R620). -/
def fltSoftSlots (s : State) : State :=
  s.each (List.range 4) fun k t =>
    if t.flag (Reg.FLT.SLOT_BUSY k) ∧ t.get (Reg.FLT.SLOT_REACT k) ≠ 5 then t.freeSlot k else t

/-- IRQ_N is asserted (R525). -/
def irqAsserted (s : State) : Bool :=
  (s.flag Reg.FLT.CFG_IRQNEN && s.slotBusyFrom (s.get Reg.FLT.CFG_IRQNSEV)) ||
    (s.flag Reg.MGT.SPCFG && s.mgt.sp.unreported)

end State

/-- EVENT_RAISE (R489) of a source, with its data word. A reserved source is never raised (R486). -/
def execEventRaise (src : Nat) (data : Word) (s : State) : Host.Outcome State Fault Refusal :=
  .next (s.when (sevRun defaultSevRuns src).isSome (State.raiseWord src data))

/-- RECORD_ENTRY (R488–R492). -/
def execRecordEntry (e : EntryErrors) (s : State) : Host.Outcome State Fault Refusal := .next (s.enterNext e)

/-- REACTION_ACK_TIMEOUT (R499). -/
def execReactionAckTimeout (s : State) : Host.Outcome State Fault Refusal := .next s.ackTimeout

/-- SLOT_HELD (R493) of a handling slot. -/
def execSlotHeld (slot : Nat) (s : State) : Host.Outcome State Fault Refusal := .next (if slot < 4 then s.slotHeld slot else s)

/-- PIN_READBACK (R504). -/
def execPinReadback (a b : Bool) (s : State) : Host.Outcome State Fault Refusal := .next (s.pinSample a b)

end Sys2Proof.Machine
end

