-- ==== Sys2Proof/Machine/Mgt.lean ====
section
/-! DEFINITION. Chapter 21: the unlock, the watchdog, the sensors, and the start of a DMA copy. -/

namespace Sys2Proof.Machine

namespace State

/-! ### The unlock (R50, R51) -/

/-- The unlock is armed for a master. -/
def armed (m : Nat) (s : State) : Bool :=
  match Assoc.find s.mgt.unlocks m with
  | some t => decide (s.now < t)
  | none => false

/-- The unlock of a master disarms: it was consumed, timed out, or disarmed by a write. -/
def disarm (m : Nat) (s : State) : State := s.updMgt fun x => { x with unlocks := Assoc.del x.unlocks m }

/-- A write of MGT.UNLOCK: bits [15:0] arm or disarm. -/
def unlockWrite (m : Nat) (data : Word) (s : State) : State :=
  if data.toNat % 65536 = 0xC3A5 then
    s.updMgt fun x => { x with unlocks := Assoc.put x.unlocks m (s.now + 1000000) }
  else s.disarm m

/-! ### The watchdog (R508) -/

/-- WDCFG.TIMEOUT in ms, and RSTDLY. -/
def wdTimeout (s : State) : Nat := min 50 (max 1 (s.get Reg.MGT.WDCFG_TIMEOUT))

/-- WDSTAT.LEFT; how a part of a millisecond shows is open. -/
def showWatchdog (s : State) : State :=
  s.set Reg.MGT.WDSTAT (divFree 508 ((s.mgt.wdLast + s.wdTimeout * 1000000 - s.now : Nat) : Int) 1000000).toNat

/-- The watchdog expires: the alive signal stops (R501). -/
def wdExpire (s : State) : State :=
  if s.mgt.wdExpired.isSome then s
  else ((s.updMgt fun x => { x with wdExpired := some s.now }).stopAlive).set Reg.MGT.WDSTAT 0

/-- The safety firmware has stopped servicing its watchdog, because it sees LOSS set (R500). -/
def serviceStopped (s : State) : Bool := s.flag Reg.FLT.CFG_LOSSSTOP && s.flag Reg.FLT.STAT_LOSS

/-- A write of WDSVC. One of the service key by master 4 is its firmware's service, which R500 stops. -/
def wdService (m : Nat) (key : Word) (s : State) : State :=
  if key.toNat = 0xA55A then
    if m = 4 then
      if s.mgt.wdExpired.isSome ∨ s.serviceStopped then s else (s.updMgt fun x => { x with wdLast := s.now }).showWatchdog
    else s.raise 42 [m]
  else if m = 4 then s.wdExpire
  else s

/-! ### Sensors (R518–R520) -/

/-- The limits of a sensor, high and low, and its hysteresis; temperatures are signed. -/
def sensorLimits (sensor : Nat) (s : State) : Int × Int × Nat :=
  if sensor < 40 then
    (toSigned 16 (s.get (Reg.SNS.TLIM_HI sensor)), toSigned 16 (s.get (Reg.SNS.TLIM_LO sensor)), s.get Reg.SNS.HYST_TEMP)
  else
    ((s.get (Reg.SNS.VLIM_HI (sensor - 64)) : Int), (s.get (Reg.SNS.VLIM_LO (sensor - 64)) : Int), s.get Reg.SNS.HYST_VOLT)

/-- A number that TRIG.SENSOR may name. -/
def sensorNamed (sensor : Nat) : Bool := decide (sensor < 40) || (decide (64 ≤ sensor) && decide (sensor < 96))

/-- A result is judged by its limits: a crossing is raised once, until a result returns inside by the hysteresis. -/
def judgeSensor (sensor value : Nat) (s : State) : State :=
  let lim := s.sensorLimits sensor
  let v : Int := if sensor < 40 then toSigned 16 value else value
  let out := decide (lim.1 < v) || decide (v < lim.2.1)
  let inside := decide (v + lim.2.2 ≤ lim.1) && decide (lim.2.1 + lim.2.2 ≤ v)
  if out ∧ !s.mgt.tripped.contains sensor then
    (s.updMgt fun x => { x with tripped := sensor :: x.tripped }).raise (if sensor < 40 then 43 else 44) [sensor]
  else if inside then s.updMgt fun x => { x with tripped := x.tripped.filter fun k => k != sensor }
  else s

/-- The sensors of a converter, and those of them in the safety set (R518). -/
def sensorsOf (volt : Bool) : List Nat := if volt then (List.range 32).map fun j => 64 + j else List.range 40
def inSafety (s : State) (sensor : Nat) : Bool :=
  let w := Reg.SNS.SAFEMASK0.addr + 4 * (if sensor < 64 then sensor / 32 else 2)
  bit (s.rd w).toNat (sensor % 32)

/-- A converter of SNS. -/
def snsConv (volt : Bool) (s : State) : SnsConv := if volt then s.mgt.convV else s.mgt.convT
def putConv (volt : Bool) (c : SnsConv) (s : State) : State :=
  s.updMgt fun x => if volt then { x with convV := c } else { x with convT := c }

/-- The sensor that a converter serves next, whether it was triggered, and how the converter then stands (R518): the safety set once
in every millisecond, then a triggered conversion, then telemetry in turn. -/
def servedSensor (volt : Bool) (s : State) : Option (Nat × Bool × SnsConv) :=
  let c := s.snsConv volt
  let ms := s.now / 1000000
  let left := if c.pass = some ms then c.left else (sensorsOf volt).filter s.inSafety
  match left with
  | k :: rest => some (k, false, { c with pass := some ms, left := rest })
  | [] =>
      match s.mgt.trig.filter fun k => decide (64 ≤ k) == volt with
      | some k => some (k, true, { c with pass := some ms, left := [] })
      | none =>
          let rest := (sensorsOf volt).filter fun k => !s.inSafety k
          (((rest.filter fun k => decide (c.turn ≤ k)) ++ rest).head?).map fun k => (k, false, { pass := some ms, left := [], turn := k + 1 })

/-- A conversion completes: that of the sensor the converter serves. An open or short circuit reads 0x8000 (R519). -/
def sensorDone (volt : Bool) (value : Nat) (fault : Bool) (s : State) : State :=
  if !s.flag Reg.SNS.STAT_RUN then s
  else
    match s.servedSensor volt with
    | none => s
    | some (sensor, triggered, c) =>
        let v := if fault then 0x8000 else value % 65536
        let s := (s.putConv volt c).set (if volt then Reg.SNS.VOLT (sensor - 64) else Reg.SNS.TEMP sensor) v
        let s := s.when triggered fun t =>
          ((t.set Reg.SNS.TRIGRES_VALUE v).set Reg.SNS.TRIGRES_DONE 1).updMgt fun x => { x with trig := none }
        if fault then s.raise 45 [sensor] else s.judgeSensor sensor v

/-- A write of TRIG. -/
def trigLand (data : Word) (s : State) : State :=
  let k := data.toNat % 128
  if !sensorNamed k then s
  else if s.mgt.trig.isSome then (s.set Reg.SNS.STAT_TRIG_OVR 1).raiseLimited 46 46 [k]
  else s.updMgt fun x => { x with trig := some k }

/-! ### DMA (R517) -/

/-- A DMA copy ends with a response code. -/
def dmaEnd (k code : Nat) (s : State) : State :=
  (((s.set (Reg.MGT.DMA_STAT_BUSY k) 0).set (Reg.MGT.DMA_STAT_ERR k) code).set (Reg.MGT.DMA_STAT_DONE k) 1).raise
    (if code = 0 then 40 else 41) [k]

/-- Source and destination of an engine: 40-bit addresses, bit 39 set for a DRAM system address; wide
values (R59). -/
def dmaSrc (k : Nat) (s : State) : Nat := s.getLow (Reg.MGT.DMA_SRCLO k) + s.get (Reg.MGT.DMA_SRCHI k) * 2 ^ 32
def dmaDst (k : Nat) (s : State) : Nat := s.getLow (Reg.MGT.DMA_DSTLO k) + s.get (Reg.MGT.DMA_DSTHI k) * 2 ^ 32

/-- An address is a register address not aligned to four bytes. -/
def dmaSkew (a : Nat) : Bool := !bit a 39 && (Blk.ofAddr (a % 2 ^ 32)).isSome && a % 4 != 0

/-- A write of GO to an engine. -/
def dmaGoLand (k : Nat) (data : Word) (s : State) : State :=
  if !bit data.toNat 0 ∨ s.flag (Reg.MGT.DMA_STAT_BUSY k) then s
  else
    let len := s.get (Reg.MGT.DMA_LEN k)
    if len = 0 then s.dmaEnd k 0
    else if len % 4 ≠ 0 ∨ 16777216 < len ∨ dmaSkew (s.dmaSrc k) ∨ dmaSkew (s.dmaDst k) then s.dmaEnd k 2
    else s.set (Reg.MGT.DMA_STAT_BUSY k) 1

end State

/-- UNLOCK_TIMEOUT (R51) of master `m`: an unlock whose 1 ms has run out disarms; one still within it stays. -/
def execUnlockTimeout (m : Nat) (s : State) : Host.Outcome State Fault Refusal :=
  .next (if s.armed m then s else s.disarm m)

/-- WDOG (R508): the watchdog expires when TIMEOUT has passed since the last service. -/
def execWdog (s : State) : Host.Outcome State Fault Refusal :=
  .next (s.when (decide (s.mgt.wdLast + s.wdTimeout * 1000000 ≤ s.now)) State.wdExpire)

/-- SENSOR_CONVERSION (R518, R519) of the temperatures' or the voltage monitors' converter. -/
def execSensorConversion (volt : Bool) (value : Nat) (fault : Bool) (s : State) : Host.Outcome State Fault Refusal :=
  .next (s.sensorDone volt value fault)

end Sys2Proof.Machine
end

