-- ==== Sys2Proof/Machine/LaneRx.lean ====
section
/-! DEFINITION. Chapters 13, 14 and 18: the events that can take an RX half from UP, with what the blocks above its lane make of
it: the Ethernet port and the twin link that the lane is part of. -/

namespace Sys2Proof.Machine

namespace State

/-- The ports whose group a lane is in and which have lost it (R361). -/
def portsLost (n : Nat) (s : State) : List Nat :=
  (List.range 64).filter fun p => s.flag (Reg.ETH.STAT_RUN p) && (s.ethPort p).locked && (s.ethLanes p).contains n

/-- What follows when a lane has left UP: an E-port that needs it goes DOWN (R361), and so does the whole link of a twin pair
(R343); the recovered clock of the lane in LANESEL is lost as a reference (R405). A lane at UP changes nothing. -/
def laneFollow (n : Nat) (s : State) : State :=
  if s.get (Reg.LANE.STAT_RXSTATE n) = 4 then s
  else if s.laneRxMode n = 1 ∧ s.get Reg.LODE.LANESEL = n then s.disqualify 7
  else if s.laneRxMode n = 2 then s.each (s.portsLost n) ethLost
  else if s.laneRxMode n = 4 ∧ 508 ≤ n then
    let secondary := decide (n < 510)
    s.when (s.flag (if secondary then Reg.TWIN.STAT_LINKS else Reg.TWIN.STAT_LINKP)) (twinDown secondary)
  else s

/-- An event of an RX half, with what follows when it takes the half from UP. -/
def laneEvent (n : Nat) (f : State → State) (s : State) : State :=
  if s.get (Reg.LANE.STAT_RXSTATE n) = 4 then (f s).laneFollow n else f s

end State

/-- SIGNAL_DETECT (R337) of lane `n`. -/
def execSignalDetect (n : Nat) (on : Bool) (rows : Nat) (s : State) : Host.Outcome State Fault Refusal :=
  .next (s.laneEvent n (State.signalDetect n on rows))

/-- CDR_LOST (R337) of lane `n`. -/
def execCdrLost (n rows : Nat) (s : State) : Host.Outcome State Fault Refusal := .next (s.laneEvent n (State.cdrLost n rows))

/-- BLOCK_LOST (R338): a window ends on lane `n`. -/
def execBlockLost (n inv : Nat) (s : State) : Host.Outcome State Fault Refusal := .next (s.laneEvent n (State.blockWindow n inv))

/-- CELL_RX (R339) on lane `n`. -/
def execCellRx (n : Nat) (cell : FabricCell) (s : State) : Host.Outcome State Fault Refusal := .next (s.laneEvent n (State.cellIn n cell))

end Sys2Proof.Machine
end

