-- ==== Sys2Proof/Machine/Keys.lean ====
section
/-! DEFINITION. Chapter 23, the key store: presence, the seal loop, the life cycle, fuses, owner keys and attestation; and
the erase journal of the boot flash (R564). -/

namespace Sys2Proof.Machine

namespace State

/-- Change the boot flash. -/
def updFlash (f : Flash → Flash) (s : State) : State := { s with flash := f s.flash }

/-- Change the presence logic. -/
def updKey (f : KeyState → KeyState) (s : State) : State := { s with key := f s.key }

/-! ### The journal (R564) -/

/-- An intent without an erase-done entry that names it, or a reject mark: what is copied when a sector fills. -/
def liveEntry (l : List JEntry) (e : JEntry) : Bool :=
  e.type == 3 || (e.type == 1 && !l.any fun d => d.type == 2 && d.ref == e.seq)

/-- The number of the next journal entry. -/
def nextJournal (s : State) : Nat := match s.flash.journal.getLast? with | some e => e.seq + 1 | none => 0

/-- The entries that a journal sector holds after its header. -/
def journalRoom : Nat := 2047

/-- An entry is appended; a sector that fills is left for the other, which takes the live entries across. -/
def journalAdd (type sector count ref reason result record : Nat) (s : State) : State :=
  let e : JEntry := { seq := s.nextJournal, type := type, sector := sector, count := count, ref := ref, reason := reason,
                      result := result, record := record }
  let l := s.flash.journal ++ [e]
  if l.length + 1 < journalRoom then s.updFlash fun f => { f with journal := l }
  else
    let other := match s.flash.j2, s.flash.j3 with
      | .good a, .good b => if a < b then 5 else 6
      | .good _, _ => 6
      | _, _ => 5
    let gen := match s.flash.j2, s.flash.j3 with
      | .good a, .good b => max a b + 1
      | .good a, _ => a + 1
      | _, .good b => b + 1
      | _, _ => 0
    let i : JEntry := { seq := e.seq + 1, type := 1, sector := other, count := 1, ref := 0, reason := 0, result := 0, record := 0 }
    let d : JEntry := { seq := e.seq + 2, type := 2, sector := other, count := 1, ref := i.seq, reason := 0, result := 0, record := 0 }
    (s.updFlash fun f =>
      { f with journal := l.filter (liveEntry l) ++ [d], j2 := if other = 5 then .good gen else f.j2,
               j3 := if other = 6 then .good gen else f.j3 }).emit (.erase other 1)

/-- Sectors are erased under an intent (R564): what they hold is erased by the caller. -/
def eraseUnder (sector count : Nat) (s : State) : State :=
  let n := s.nextJournal
  let s := (s.journalAdd 1 sector count 0 0 0 0).emit (.erase sector count)
  s.journalAdd 2 sector count n 0 0 0

/-! ### What KEY's registers show -/

/-- The owner-state record in force. -/
def ownerState (s : State) : OwnerRec :=
  (s.flash.blob.owners.getLast?).getD { seq := 0, keys := [none, none, none, none], ctr := 0, policy := 0 }

/-- The owner key in a slot. -/
def ownerKey (k : Nat) (s : State) : Option Nat := (s.ownerState.keys[k]?).getD none

/-- The validity flags of the owner slots. -/
def ownerFlags (s : State) : Nat :=
  ((List.range 4).map fun k => if (s.ownerKey k).isSome then 2 ^ k else 0).foldl (· + ·) 0

/-- Owners, counter and fuses as the registers show them. -/
def showKey (s : State) : State :=
  let o := s.ownerState
  let s := ((s.set Reg.KEY.OWNERS_VALID s.ownerFlags).set Reg.KEY.OWNERS_SEALEN (o.policy % 2)).set Reg.KEY.KEYCTR o.ctr
  (((s.set Reg.KEY.FUSES_EPOCH s.fuses.epoch).setB Reg.KEY.FUSES_IDGEN s.fuses.idgen).setB Reg.KEY.FUSES_LCF1 s.fuses.lcf1).setB
    Reg.KEY.FUSES_LCF0 s.fuses.lcf0

/-- The life-cycle state (R555). -/
def lcState (s : State) : Nat := s.get Reg.KEY.STAT_LCSTATE

/-- Fuses are blown: each raises FUSE_BLOWN (R559). -/
def blow (f : Fuses → Fuses) (code : Nat) (s : State) : State :=
  if f s.fuses = s.fuses then s else ({ s with fuses := f s.fuses }.raise 125 [code]).showKey

/-! ### Presence (R552–R554) -/

/-- A presence edge: the window opens, or its 60 s begin again. -/
def presenceEdge (s : State) : State :=
  ((s.updKey fun k => { k with window := some (s.now + 60000000000) }).set Reg.KEY.STAT_WINDOW 1).set Reg.KEY.WINLEFT 60

/-- PRESENCE_N is debounced as asserted: an edge after at least 20 ms of debounced deassertion. -/
def presencePress (s : State) : State :=
  let edge := match s.key.released with | some t => decide (t + 20000000 ≤ s.now) | none => false
  if s.flag Reg.KEY.STAT_PRES then s
  else
    let s := (s.set Reg.KEY.STAT_PRES 1).updKey fun k => { k with released := none, pressed := some s.now }
    if edge then s.presenceEdge.raise 120 [] else s

/-- PRESENCE_N is debounced as deasserted. -/
def presenceRelease (s : State) : State :=
  let s := (s.set Reg.KEY.STAT_PRES 0).updKey fun k => { k with pressed := none }
  if s.key.released = none then s.updKey fun k => { k with released := some s.now } else s

/-- The 60 s of a presence window are not yet over. -/
def windowOpen (s : State) : Bool := s.key.window.any fun t => decide (s.now < t)

/-- The window closes once its 60 s are over. -/
def windowExpire (s : State) : State :=
  if s.windowOpen then s
  else ((s.updKey fun k => { k with window := none }).set Reg.KEY.STAT_WINDOW 0).set Reg.KEY.WINLEFT 0

/-- The seal loop opens: a presence edge, when the owner policy has the loop on (R553). -/
def sealOpen (s : State) : State :=
  if s.flag Reg.KEY.OWNERS_SEALEN ∧ !s.flag Reg.KEY.STAT_SEAL then
    ((s.set Reg.KEY.STAT_SEAL 1).presenceEdge.raise 121 []).raise 120 []
  else s

/-- The seal loop is closed again. -/
def sealClosed (s : State) : State := if s.flag Reg.KEY.OWNERS_SEALEN then s.set Reg.KEY.STAT_SEAL 0 else s

/-! ### The life cycle (R555–R558) -/

/-- A record that counts: VALID untouched, and a state code of 1 to 3. -/
def lcValid : Sector LcRec → Option LcRec
  | .good r => if r.valid = 0xFFFFFFFF ∧ 1 ≤ r.state ∧ r.state ≤ 3 then some r else none
  | _ => none

/-- The record in force, and whether J1 holds it. -/
def lcRecord (f : Flash) : Option (LcRec × Bool) :=
  match lcValid f.j0, lcValid f.j1 with
  | some a, some b => if a.seq < b.seq then some (b, true) else some (a, false)
  | some a, none => some (a, false)
  | none, some b => some (b, true)
  | none, none => none

/-- The state found at a start (R556). -/
def lcAtStart (s : State) : Nat :=
  if s.fuses.lcf1 then 4
  else if !s.fuses.lcf0 then 0
  else match lcRecord s.flash with | some (r, _) => r.state | none => 1

/-- The owner keys are erased, with the whole key blob (R555, R557). -/
def eraseBlob (s : State) : State :=
  ((s.eraseUnder 2 1).updFlash fun f => { f with blob := { first := .blank, cert := [], owners := [] } }).showKey.set
    Reg.KEY.STAT_NOID 1

/-- The test port takes an instruction (R614): the boundary scan drives pins only while RST_N is low or in MFG or MAINT, and core
debug is open in MFG only (R506); BYPASS stands in place of what may not run. -/
def tapSelect (rstLow : Bool) (i : TapInstr) (s : State) : TapInstr :=
  match i with
  | .extest => if rstLow ∨ s.lcState = 0 ∨ s.lcState = 3 then i else .bypass
  | .intest => if rstLow ∨ s.lcState = 0 ∨ s.lcState = 3 then i else .bypass
  | .debug => if s.lcState = 0 then i else .bypass
  | _ => i

/-- The instruction at the test port is judged again, RST_N being high. -/
def tapJudge (s : State) : State := s.updKey fun k => { k with tap := s.tapSelect false k.tap }

/-- A change of the life-cycle state is written: fuse, erase, new record, old record (R557). -/
def lcWrite (target : Nat) (s : State) : State :=
  let s := if target = 1 then s.blow (fun f => { f with lcf0 := true }) 0
    else if target = 4 then s.blow (fun f => { f with lcf1 := true }) 1 else s
  let old := lcRecord s.flash
  let toJ1 := match old with | some (_, j1) => !j1 | none => false
  let r : LcRec := { seq := (match old with | some (x, _) => x.seq + 1 | none => 0), state := target, devid := s.devid,
                     valid := 0xFFFFFFFF }
  let dead : LcRec → Sector LcRec := fun x => .good { x with valid := 0 }
  let s := s.eraseUnder (if toJ1 then 4 else 3) 1
  let s := s.updFlash fun f =>
    if toJ1 then { f with j1 := .good r, j0 := match old with | some (x, _) => dead x | none => f.j0 }
    else { f with j0 := .good r, j1 := match old with | some (x, _) => dead x | none => f.j1 }
  let s := ((s.set Reg.KEY.STAT_LCSTATE target).set Reg.KEY.LCSEQ r.seq).when (target == 4) eraseBlob
  (s.when (!s.pinTestOpen) (set Reg.FLT.PINTEST 0)).tapJudge.raise 118 [target]

/-- The changes of R555's table. -/
def lcAllowed (target : Nat) (s : State) : Bool :=
  match s.lcState, target with
  | 0, 1 => s.ownerFlags != 0 && !s.flash.blob.cert.isEmpty
  | 1, 2 => true
  | 2, 3 => true
  | 3, 2 => true
  | 3, 4 => true
  | _, _ => false

/-- A request ends with a result code. -/
def keyResult (code : Nat) (s : State) : State := (s.set Reg.KEY.RES_CODE code).set Reg.KEY.RES_DONE 1

/-- LC_CHANGE (R555, R557), inside a presence window (R554). -/
def opLcChange (target : Nat) (s : State) : State :=
  if !s.windowOpen then s.keyResult 28
  else if s.lcAllowed target then (s.lcWrite target).keyResult 0
  else (s.raise 119 [target]).keyResult 11

/-- PRESENCE_N held for 5 s while no image can be used: recovery (R558). -/
def recoveryHold (s : State) : State :=
  let step := s.get Reg.CFG.STAT_STEP
  let held := s.key.pressed.any fun t => decide (t + 5000000000 ≤ s.now)
  if (step = 10 ∨ step = 11) ∧ (s.lcState = 1 ∨ s.lcState = 2) ∧ held then
    (s.lcWrite 3).set Reg.UPD.STAT_RECOVERY 1
  else s

/-! ### Key messages (R562) -/

/-- The bytes of KEY.MSG. -/
def keyMsg (s : State) : List Byte := ((List.range 128).map fun j => leBytes 4 (s.get (Reg.KEY.MSG j))).flatten

/-- Bytes are put into KEY.MSG from its first. -/
def putKeyMsg (l : List Byte) (s : State) : State :=
  s.each (List.range ((l.length + 3) / 4)) fun j t => t.set (Reg.KEY.MSG j) (leNat ((l.drop (4 * j)).take 4))

/-- A field of a message, lowest byte first. -/
def msgField (l : List Byte) (at_ n : Nat) : Nat := leNat ((l.drop at_).take n)

/-- The first ADD in MFG needs no signature (R562). -/
def firstAdd (op : Nat) (s : State) : Bool := s.lcState == 0 && op == 1 && s.ownerFlags == 0

/-- The operation of a message is allowed. -/
def keyOpAllowed (op target signing : Nat) (s : State) : Bool :=
  match op with
  | 2 => decide (target < 4) && target != signing && (List.range 4).any fun k => k != target && (s.ownerKey k).isSome
  | 4 => s.lcState == 1
  | 3 => true
  | _ => decide (target < 4)

/-- The result code of a key message, in R562's order. -/
def keyMsgCode (l : List Byte) (signer : Option Nat) (s : State) : Nat :=
  let op := msgField l 4 1
  let signing := msgField l 6 1
  if msgField l 0 4 ≠ 0x4B594D53 ∨ op = 0 ∨ 4 < op ∨ msgField l 8 8 ≠ s.devid then 30
  else if !s.firstAdd op && (signer.isNone || s.ownerKey signing != signer) then 30
  else if msgField l 0x10 4 ≤ s.ownerState.ctr then 29
  else if !s.keyOpAllowed op (msgField l 5 1) signing then 11
  else 0

/-- The owner state that an accepted message leaves. -/
def keyMsgApply (l : List Byte) (o : OwnerRec) : OwnerRec :=
  let t := msgField l 5 1
  let key := msgField l 0x18 96
  let o := { o with seq := o.seq + 1, ctr := msgField l 0x10 4 }
  match msgField l 4 1 with
  | 1 => { o with keys := o.keys.set t (some key) }
  | 2 => { o with keys := o.keys.set t none }
  | 3 => { o with policy := msgField l 0x14 4 }
  | _ => { o with keys := [some key, none, none, none] }

/-- Room for another record stands in the key blob, with the reserve of 512 bytes (R562). -/
def blobRoom (s : State) : Bool := decide (2048 + 416 * s.flash.blob.owners.length + 512 ≤ 65536)

/-- KEYMSG (R562), inside a presence window. -/
def opKeyMsg (signer : Option Nat) (s : State) : State :=
  let l := s.keyMsg
  let code := if s.blobRoom then s.keyMsgCode l signer else 5
  if !s.windowOpen then s.keyResult 28
  else if code = 0 then
    let o := keyMsgApply l s.ownerState
    (((s.updFlash fun f => { f with blob := { f.blob with owners := f.blob.owners ++ [o] } }).showKey).raise 122 [msgField l 4 1]).keyResult 0
  else (s.raise 123 [code]).keyResult code

/-! ### Attestation (R563) -/

/-- The bytes of registers from a first one. -/
def regBytes (r : Nat → FRef) (n : Nat) (s : State) : List Byte := ((List.range n).map fun j => leBytes 4 (s.get (r j))).flatten

/-- The report over a nonce: its signature is made by the identity key. -/
def attestReport (nonce : List Byte) (s : State) : List Byte :=
  let body := leBytes 4 0x41545354 ++ nonce.take 32 ++ leBytes 8 s.devid ++ s.regBytes Reg.KEY.IDPUB 24 ++
    leBytes 1 s.lcState ++ leBytes 1 1 ++ leBytes 1 0 ++ leBytes 1 s.fuses.epoch ++
    leBytes 8 (s.get64 Reg.UPD.SECVERLO Reg.UPD.SECVERHI) ++ s.regBytes Reg.CFG.MEASFW 12 ++ s.regBytes Reg.CFG.MEASCFG 12 ++
    leBytes 4 s.ownerState.ctr
  body ++ leBytes 96 (Config.crypto (563 :: body.map fun b => b.toNat))

/-- ATTEST (R563): no window is needed; without identity it is refused (R560). -/
def opAttest (s : State) : State :=
  if s.flag Reg.KEY.STAT_NOID then s.keyResult 30 else (s.putKeyMsg (s.attestReport s.keyMsg)).keyResult 0

/-- A write of KEY.CMD starts a request (R554, R555, R562, R563). -/
def keyCmd (op arg : Nat) (signer : Option Nat) (s : State) : State :=
  let s := s.set Reg.KEY.RES_DONE 0
  match op with
  | 1 => s.opLcChange arg
  | 2 => s.opKeyMsg signer
  | 3 => s.opAttest
  | _ => s.keyResult (if s.windowOpen then 11 else 28)

/-- A write of KEY.CMD, with the signature of its message judged by what it holds. -/
def keyCmdLand (data : Word) (s : State) : State :=
  s.keyCmd (data.toNat % 16) (bits data.toNat 7 4) (Config.signerOf (s.keyMsg.map fun b => b.toNat))

end State

/-- PRESENCE (R552): PRESENCE_N is debounced as asserted. -/
def execPresence (s : State) : Host.Outcome State Fault Refusal := .next s.presencePress

/-- PRESENCE_RELEASE (R552): PRESENCE_N is debounced as deasserted. -/
def execPresenceRelease (s : State) : Host.Outcome State Fault Refusal := .next s.presenceRelease

/-- PRESENCE_WINDOW_EXPIRE (R552). -/
def execPresenceWindowExpire (s : State) : Host.Outcome State Fault Refusal := .next s.windowExpire

/-- SEAL_OPEN (R553). -/
def execSealOpen (s : State) : Host.Outcome State Fault Refusal := .next s.sealOpen

/-- SEAL_CLOSED (R553). -/
def execSealClosed (s : State) : Host.Outcome State Fault Refusal := .next s.sealClosed

/-- PRESENCE_RECOVERY_HOLD (R558). -/
def execPresenceRecoveryHold (s : State) : Host.Outcome State Fault Refusal := .next s.recoveryHold

end Sys2Proof.Machine
end

