-- ==== Sys2Proof/Machine/Image.lean ====
section
/-! DEFINITION. Chapter 22, the configuration image: its header and records as a slot holds them (little-endian), the
checks of R536, and the steps of the loader its records spell (R538–R544). -/

namespace Sys2Proof.Machine

/-- A byte of a slot; one that nothing has programmed since its sector was erased reads 0xFF. -/
def slotByte (b : List (Nat × Byte)) (a : Nat) : Nat := (Assoc.findD b a 0xFF).toNat

/-- A number of n bytes of a slot, lowest first. -/
def slotLe (b : List (Nat × Byte)) (a : Nat) : Nat → Nat
  | 0 => 0
  | n + 1 => slotByte b a + 256 * slotLe b (a + 1) n

/-- n bytes of a slot. -/
def slotBytes (b : List (Nat × Byte)) (a : Nat) : Nat → List Byte
  | 0 => []
  | n + 1 => Assoc.findD b a 0xFF :: slotBytes b (a + 1) n

/-- n words of a slot. -/
def slotWords (b : List (Nat × Byte)) (a n : Nat) : List Nat := (List.range n).map fun k => slotLe b (a + 4 * k) 4

/-- LENGTH, SEQ and MINFW of an image's header. -/
def imgLength (b : List (Nat × Byte)) : Nat := slotLe b 0x0C 4
def imgSeq (b : List (Nat × Byte)) : Nat := slotLe b 0x10 4
def imgMinFw (b : List (Nat × Byte)) : Nat := slotLe b 0x18 4
/-- FLAGS [0], SIGNED. -/
def imgSigned (b : List (Nat × Byte)) : Bool := bit (slotLe b 6 2) 0
/-- KEYIDX of the signature block. -/
def imgKeyIdx (b : List (Nat × Byte)) : Nat := slotLe b (imgLength b) 4

/-- HDRCRC is right. -/
def imgCrcOk (b : List (Nat × Byte)) : Bool := crc32 (slotBytes b 0 0x3C) == slotLe b 0x3C 4

/-- A record as it stands in the image: type, flags, count, length, and the offset of its body. -/
structure ImgRec where
  type : Nat
  flags : Nat
  count : Nat
  length : Nat
  body : Nat
  deriving DecidableEq, Repr

/-- The records from an offset up to the end of the image, by their lengths; the walk stops at one that passes the end. -/
def imgRecords (b : List (Nat × Byte)) (stop : Nat) : Nat → Nat → List ImgRec × Bool
  | 0, at_ => ([], at_ == stop)
  | n + 1, at_ =>
      if at_ = stop then ([], true)
      else
        let r : ImgRec := { type := slotByte b at_, flags := slotByte b (at_ + 1), count := slotLe b (at_ + 2) 2,
                            length := slotLe b (at_ + 4) 4, body := at_ + 8 }
        if stop < at_ + 8 + r.length then ([r], false)
        else
          let q := imgRecords b stop n (at_ + 8 + r.length)
          (r :: q.1, q.2)

/-- The default stage of a type (R539): 1 is A, 2 is B; none for an unknown type. -/
def recStage (type : Nat) : Option Nat :=
  if [1, 2, 3, 4, 5, 0x20, 0x25, 0x27, 0x28].contains type then some 1
  else if [6, 0x21, 0x22, 0x23, 0x24, 0x2F].contains type then some 2
  else none

/-- The stage of a record: STAGE 0 is its type's (R538). -/
def stageOf (r : ImgRec) : Nat := if r.flags % 4 = 0 then (recStage r.type).getD 0 else r.flags % 4

/-- The entries of a PARAM body: key and value; none when they do not fill the body (R544). -/
def paramEntries (b : List (Nat × Byte)) (stop : Nat) : Nat → Nat → Option (List (Nat × List Byte))
  | 0, at_ => if at_ = stop then some [] else none
  | n + 1, at_ =>
      let len := slotLe b (at_ + 2) 2
      let next := at_ + 4 + (len + 3) / 4 * 4
      if stop < next then none
      else (paramEntries b stop n next).map fun l => (slotLe b at_ 2, slotBytes b (at_ + 4) len) :: l

/-- The LENGTH of a counted record fits its type and COUNT (R538, R539). -/
def recFits (b : List (Nat × Byte)) (r : ImgRec) : Bool :=
  if r.count = 0 then r.length == 0
  else if r.length % 4 ≠ 0 then false
  else
    match r.type with
    | 0x01 => r.length == 4 + 4 * r.count
    | 0x02 => r.length == 12
    | 0x03 => r.length == 12 * r.count
    | 0x04 => r.length == 16 * r.count
    | 0x05 => r.length == 0
    | 0x06 => r.length == 4 * r.count
    | 0x20 => r.length == 8 && r.count == 1
    | 0x21 => r.length == 32 * r.count
    | 0x22 => r.length == 16 * r.count
    | 0x23 => r.length == 12 + 4 * ((r.count + 1) / 2)
    | 0x24 => decide (8 ≤ r.length) && r.count == 1
    | 0x25 => (paramEntries b (r.body + r.length) r.count r.body).isSome
    | 0x27 => r.length == 4 * r.count
    | 0x28 => r.length == 4 && r.count == 1
    | 0x2F => r.length == 0 && r.count == 1
    | _ => false

/-- A record is refused BADREC by itself: an unknown type, STAGE 3, or a LENGTH that does not fit. -/
def recBad (b : List (Nat × Byte)) (r : ImgRec) : Bool :=
  (recStage r.type).isNone || r.flags % 4 == 3 || !recFits b r

/-- Position of the first element that meets a condition. -/
def firstIdx {α : Type} (p : α → Bool) (l : List α) : Option Nat :=
  (l.zipIdx.find? fun q => p q.1).map (·.2)

/-- The place of the first record whose stage falls below one before it. -/
def stageDrop : Nat → List ImgRec → Option Nat
  | _, [] => none
  | st, r :: l =>
      if r.count = 0 then (stageDrop st l).map (· + 1)
      else if stageOf r < st then some 0
      else (stageDrop (stageOf r) l).map (· + 1)

/-- Step 5 of R536: the reason code and the record concerned, 0 when the records pass. -/
def recordsCheck (b : List (Nat × Byte)) : Nat × Nat :=
  let q := imgRecords b (imgLength b) (imgLength b / 8) 0x40
  let counted := q.1.filter fun r => r.count != 0
  match firstIdx (recBad b) q.1 with
  | some k => (6, k)
  | none =>
      if (counted.filter fun r => r.type == 0x28).length > 1 then
        (6, (firstIdx (fun r => r.type == 0x28 && r.count != 0) q.1.reverse).elim 0 fun k => q.1.length - 1 - k)
      else if !q.2 then (8, q.1.length - 1)
      else if (counted.head?.map fun r => r.type) ≠ some 0x20 then (7, (firstIdx (fun r => r.count != 0) q.1).getD 0)
      else if (stageDrop 0 q.1).isSome then (7, (stageDrop 0 q.1).getD 0)
      else if (counted.getLast?.map fun r => r.type) ≠ some 0x2F ∨ (q.1.getLast?.map fun r => r.type) ≠ some 0x2F ∨
          (q.1.getLast?.map fun r => r.count) ≠ some 1 then (8, q.1.length - 1)
      else (0, 0)

/-- The bytes of an image without the 12 bytes of its UNIT record (R540). -/
def imgPair (b : List (Nat × Byte)) : List Byte :=
  let n := imgLength b
  match (imgRecords b n (n / 8) 0x40).1.find? fun r => r.type == 0x28 && r.count == 1 with
  | some r => slotBytes b 0 (r.body - 8) ++ slotBytes b (r.body + 4) (n - r.body - 4)
  | none => slotBytes b 0 n

namespace State

/-- The size of a configuration slot under the boot header in force. -/
def cfgSlotSize (slot : Nat) (s : State) : Nat :=
  let parts := match (if s.upd.hdr = 1 then s.flash.hdrB else s.flash.hdrA) with | .good h => h.parts | _ => []
  ((parts[if slot = 0 then 8 else 9]?).getD (0, 0x980000)).2

/-- A configuration slot of the flash. -/
def cfgSlot (slot : Nat) (s : State) : CfgSlot := if slot = 0 then s.flash.cfgA else s.flash.cfgB

/-- The signature check of step 3: signed under a valid owner key, or unsigned in MFG. -/
def imgSignatureOk (c : CfgSlot) (s : State) : Bool :=
  if imgSigned c.bytes then
    c.signer.isSome && s.lcState != 4 && s.ownerKey (imgKeyIdx c.bytes) == c.signer
  else s.lcState == 0

/-- Steps 1 to 4 of R536: the reason code, 0 when the image passes. -/
def imgHeaderCheck (c : CfgSlot) (size release : Nat) (s : State) : Nat :=
  let b := c.bytes
  if slotLe b 0 4 ≠ 0x4A4C5A43 ∨ slotLe b 4 2 ≠ 2 ∨ slotLe b 8 2 ≠ 0x1024 ∨ size < imgLength b + 112 then 1
  else if !imgCrcOk b then 2
  else if !s.imgSignatureOk c then 3
  else if release < imgMinFw b then 4
  else 0

/-- The five checks of R536: the reason and the record concerned, 0 when the image passes. -/
def imgCheck (slot release : Nat) (s : State) : Nat × Nat :=
  let c := s.cfgSlot slot
  let h := s.imgHeaderCheck c (s.cfgSlotSize slot) release
  if h ≠ 0 then (h, 0) else recordsCheck c.bytes

end State

/-! ### What the records ask of the loader -/

/-- The entries of a record, in order (R539). -/
def recOps (b : List (Nat × Byte)) (r : ImgRec) : List LoadOp :=
  let w := fun k => slotLe b (r.body + 4 * k) 4
  let ns := List.range r.count
  match r.type with
  | 0x01 => ns.map fun k => .write (w 0 + 4 * k) (w (1 + k))
  | 0x02 => ns.map fun k => .write ((w 0 + k * w 1) % 2 ^ 32) (w 2)
  | 0x03 => ns.map fun k => .modify (w (3 * k)) (w (3 * k + 1)) (w (3 * k + 2))
  | 0x04 => ns.map fun k => .poll (w (4 * k)) (w (4 * k + 1)) (w (4 * k + 2)) (w (4 * k + 3))
  | 0x05 => [.delay (10000 * r.count)]
  | 0x06 => [.route (ns.map fun k => (slotLe b (r.body + 4 * k) 2, slotLe b (r.body + 4 * k + 2) 2))]
  | 0x20 => if w 0 % 4 = 3 then [.bad] else [.device (w 0 % 4) (bits (w 0) 4 4) (w 1)]
  | 0x21 => ns.map fun k => .create (slotWords b (r.body + 32 * k) 8)
  | 0x22 => [.append (ns.map fun k => slotWords b (r.body + 16 * k) 4)]
  | 0x23 => [.lut (w 0) (w 1) (w 2) (ns.map fun k => slotLe b (r.body + 12 + 2 * k) 2)]
  | 0x24 => [.blob (slotLe b r.body 8) (slotBytes b (r.body + 8) (r.length - 8))]
  | 0x25 => ((paramEntries b (r.body + r.length) r.count r.body).getD []).map fun p => .param p.1 p.2
  | 0x27 => ns.map fun k => .enable (w k)
  | 0x28 => [.unit (w 0)]
  | _ => []

/-- The steps of one record, with its number: a counted no-op does nothing else (R538). -/
def recSteps (b : List (Nat × Byte)) (p : ImgRec × Nat) : List (Nat × LoadOp) :=
  if p.1.count = 0 then [(p.2, .nop)]
  else ((recOps b p.1).map fun o => (p.2, o)) ++ [(p.2, if p.1.type = 0x2F then .endRecord else .recordEnd)]

/-- The whole start from step 3 (R533): stage A with UNIT last (R540), steps 3 to 6, stage B, steps 7 to 9. -/
def imgProgram (b : List (Nat × Byte)) : List (Nat × LoadOp) :=
  let rs := (imgRecords b (imgLength b) (imgLength b / 8) 0x40).1.zipIdx
  let isA := fun p : ImgRec × Nat => p.1.count == 0 || stageOf p.1 == 1
  let isUnit := fun p : ImgRec × Nat => p.1.type == 0x28 && p.1.count != 0
  let a := rs.filter fun p => isA p && !isUnit p
  let u := rs.filter isUnit
  let bs := rs.filter fun p => !isA p && !isUnit p
  let steps := fun l : List (ImgRec × Nat) => (l.map (recSteps b)).flatten
  steps a ++ steps u ++ [(0, .step 3), (0, .step 4), (0, .step 5), (0, .step 6)] ++ steps bs ++
    [(0, .step 7), (0, .step 8), (0, .step 9)]

end Sys2Proof.Machine
end

