-- ==== Sys2Proof/Machine/Update.lean ====
section
/-! DEFINITION. Chapter 23, the update engine: boot headers, what the boot ROM boots, the repair of the flash, staging,
commit, trial and confirmation. The restarts themselves are performed by the commands that call for them. -/

namespace Sys2Proof.Machine

/-! ### Boot headers (R532, R566, R567) -/

/-- Two regions of a partition table overlap. -/
def overlaps (a b : Nat × Nat) : Bool := decide (a.1 < b.1 + b.2) && decide (b.1 < a.1 + a.2)

/-- Every region is 64 KiB-aligned, and none overlaps another (R532). -/
def partsOk : List (Nat × Nat) → Bool
  | [] => true
  | a :: l => decide (a.1 % 65536 = 0) && l.all (fun b => !overlaps a b) && partsOk l

/-- The header of a sector, when it is valid: its CRC is correct, VALID is untouched and its regions are well placed. -/
def validHdr : Sector BootHdr → Option BootHdr
  | .good h => if h.valid = 0xFFFFFFFF ∧ partsOk h.parts then some h else none
  | _ => none

/-- How many bits of ATTEMPTS are cleared. -/
def attemptsUsed (w : Word) : Nat := ((List.range 32).filter fun i => !bit w.toNat i).length

/-- ATTEMPTS with its next bit cleared. -/
def clearAttempt (w : Word) : Word :=
  match (List.range 32).find? fun i => bit w.toNat i with
  | some i => BitVec.ofNat 32 (w.toNat - 2 ^ i)
  | none => w

/-- A trial not yet confirmed. -/
def onTrial (h : BootHdr) : Bool := h.trial && h.confirm == 0xFFFFFFFF

/-- A trial that has used up its attempts. -/
def exhausted (h : BootHdr) : Bool := onTrial h && decide (h.trialMax ≤ attemptsUsed h.attempts)

namespace State

/-- Change the update engine. -/
def updUpd (f : UpdState → UpdState) (s : State) : State := { s with upd := f s.upd }

/-- MINSV in force (R571, R572). -/
def minSv (s : State) : Nat := max s.flash.minsv.1 s.flash.minsv.2

/-- The anti-rollback rule of a bundle (R571). -/
def svOk (b : Bundle) (s : State) : Bool :=
  decide (s.minSv ≤ b.secver) && decide (s.fuses.epoch ≤ b.secver / 2 ^ 48)

/-- A firmware slot of the flash. -/
def fwSlot (slot : Nat) (s : State) : FwSlot := if slot = 0 then s.flash.fwA else s.flash.fwB

/-- The bundle a header would boot, when its signature and its SECVER pass (R567). -/
def bootable (h : BootHdr) (s : State) : Option Bundle :=
  match (s.fwSlot h.fwSlot).head with
  | .good b => if b.sigOk && s.svOk b then some b else none
  | _ => none

/-- The header of sector A (0) or B (1). -/
def hdrOf (k : Nat) (s : State) : Option BootHdr := validHdr (if k = 0 then s.flash.hdrA else s.flash.hdrB)

/-- Header k can be booted: valid, not an exhausted trial, and with a bundle that passes. -/
def hdrBoots (k : Nat) (s : State) : Bool :=
  match s.hdrOf k with
  | some h => !exhausted h && (s.bootable h).isSome
  | none => false

/-- The header the ROM boots: the valid one with the higher sequence number, else the other (R532, R567); 2 is none. -/
def bootChoice (s : State) : Nat :=
  let a := s.hdrBoots 0
  let b := s.hdrBoots 1
  if a && b then
    match s.hdrOf 0, s.hdrOf 1 with
    | some x, some y => if x.seq < y.seq then 1 else 0
    | _, _ => 0
  else if a then 0 else if b then 1 else 2

/-- The header in force. -/
def hdrInForce (s : State) : Option BootHdr :=
  match if s.upd.hdr = 0 then s.flash.hdrA else if s.upd.hdr = 1 then s.flash.hdrB else .blank with
  | .good h => some h
  | _ => none

/-- A header sector is programmed. -/
def putHdr (k : Nat) (h : BootHdr) (s : State) : State :=
  s.updFlash fun f => if k = 0 then { f with hdrA := .good h } else { f with hdrB := .good h }

/-- What UPD shows of the header in force and of the running firmware. -/
def showUpd (s : State) : State :=
  let s := match s.hdrInForce with
    | some h => (((((s.set Reg.UPD.HDRSEQ h.seq).set Reg.UPD.SLOTS_FWSLOT h.fwSlot).set Reg.UPD.SLOTS_CFGPREF h.cfgPref).set
        Reg.UPD.SLOTS_MODE h.mode).setB Reg.UPD.SLOTS_TRIAL (onTrial h)).set Reg.UPD.SLOTS_ATTEMPTS (attemptsUsed h.attempts)
    | none => s
  let s := s.set64 Reg.UPD.MINSVLO Reg.UPD.MINSVHI s.minSv
  match s.upd.running with
  | some b => s.set64 Reg.UPD.SECVERLO Reg.UPD.SECVERHI b.secver
  | none => s

/-- A trial header is invalidated. -/
def killHdr (k : Nat) (s : State) : State :=
  match if k = 0 then s.flash.hdrA else s.flash.hdrB with
  | .good h => s.putHdr k { h with valid := 0 }
  | _ => s

/-- The previous firmware finds a trial header with its attempts exhausted, or invalid for its bundle: TRIAL_FALLBACK, and
that header is invalidated (R570). -/
def findTrial (s : State) : State :=
  let k := 1 - s.upd.hdr
  match s.hdrOf k, s.hdrInForce with
  | some h, some own => if onTrial h && decide (own.seq < h.seq) then (s.raise 114 [k]).killHdr k else s
  | _, _ => s

/-- The boot ROM boots a header, where the flash device has the octal mode it reads with (R531): a trial uses one attempt; the
firmware's own trial begins (R567, R570). -/
def bootHdr (s : State) : State :=
  let k := if s.flash.octal then s.bootChoice else 2
  if 2 ≤ k then (s.stopAlive).updUpd fun u => { u with dead := true, hdr := 2 }
  else
    match s.hdrOf k with
    | none => s
    | some h =>
        let h := if onTrial h then { h with attempts := clearAttempt h.attempts } else h
        let s := (s.putHdr k h).updUpd fun u =>
          { u with hdr := k, running := s.bootable h, trialEnd := if onTrial h then some (s.now + h.trialWin * 1000000000) else none }
        let s := s.findTrial.showUpd
        if onTrial h then
          ((s.raise 112 [k]).set Reg.UPD.TRIALLEFT h.trialWin).updFlash fun f => { f with minsv := (s.minSv, s.minSv) }
        else s

/-! ### The repair of the flash (R565) -/

/-- Sectors that an intent names are what they are after an erase. -/
def eraseSector (n : Nat) (s : State) : State :=
  s.updFlash fun f =>
    match n with
    | 0 => { f with hdrA := .blank }
    | 1 => { f with hdrB := .blank }
    | 2 => { f with blob := { first := .blank, cert := [], owners := [] } }
    | 3 => { f with j0 := .blank }
    | 4 => { f with j1 := .blank }
    | 5 => { f with j2 := .blank }
    | 6 => { f with j3 := .blank }
    | 16 => { f with fwA := { head := .blank, bytes := [] } }
    | 112 => { f with fwB := { head := .blank, bytes := [] } }
    | 208 => { f with cfgA := { bytes := [], signer := none } }
    | 360 => { f with cfgB := { bytes := [], signer := none } }
    | _ => if 7 ≤ n ∧ n < 15 then { f with settings := f.settings.set (n - 7) .blank } else f

/-- FLASH_RECOVERED of a sector, by its offset. -/
def flashRecovered (n : Nat) (s : State) : State := s.raise 116 [n * 65536]

/-- Step 1: the sectors of every open intent are erased again, and the intent is closed. -/
def closeIntents (s : State) : State :=
  s.each (s.flash.journal.filter fun e => e.type == 1 && liveEntry s.flash.journal e) fun e t =>
    let t := t.each (List.range e.count) fun k u => ((u.eraseSector (e.sector + k)).emit (.erase (e.sector + k) 1)).flashRecovered (e.sector + k)
    t.journalAdd 2 e.sector e.count e.seq 0 0 0

/-- The headers of a configuration slot's first sector: all ones, or right. -/
def cfgHeadBad (b : List (Nat × Byte)) : Bool :=
  (slotBytes b 0 0x40).any (fun x => x != 0xFF) && !imgCrcOk b

/-- A sector whose header is invalid and not all ones. -/
def sectorBad {α : Type} : Sector α → Bool
  | .bad => true
  | _ => false

/-- Step 2: sectors whose header is half erased or half written are erased under an intent. -/
def repairHeaders (s : State) : State :=
  let f := s.flash
  let bad := (if sectorBad f.hdrA then [0] else []) ++ (if sectorBad f.hdrB then [1] else []) ++
    (if sectorBad f.j0 then [3] else []) ++ (if sectorBad f.j1 then [4] else []) ++ (if sectorBad f.j2 then [5] else []) ++
    (if sectorBad f.j3 then [6] else []) ++
    ((f.settings.zipIdx.filter fun p => sectorBad p.1).map fun p => 7 + p.2) ++
    (if sectorBad f.fwA.head then [16] else []) ++ (if sectorBad f.fwB.head then [112] else []) ++
    (if cfgHeadBad f.cfgA.bytes then [208] else []) ++ (if cfgHeadBad f.cfgB.bytes then [360] else [])
  s.each bad fun n t => ((t.eraseUnder n 1).eraseSector n).flashRecovered n

/-- The repair at the start of step 2 of a start; an interrupted retirement is completed (R557). -/
def repairFlash (s : State) : State :=
  let s := s.closeIntents.repairHeaders
  s.when (s.fuses.lcf1 && !(s.flash.blob.owners.isEmpty && s.flash.blob.first == .blank)) eraseBlob

/-! ### Staging and commit (R568, R569) -/

/-- A request ends with a result code. -/
def updResult (code : Nat) (s : State) : State := (s.set Reg.UPD.RES_CODE code).set Reg.UPD.RES_DONE 1

/-- An argument of the request. -/
def updArg (j : Nat) (s : State) : Nat := s.get (Reg.UPD.ARG j)

/-- The header in force is a trial without confirmation: BEGIN and COMMIT are refused BUSY (R569). -/
def trialOpen (s : State) : Bool := match s.hdrInForce with | some h => onTrial h | none => false

/-- UPD.STAT.STATE. -/
def updPhase (s : State) : Nat := s.get Reg.UPD.STAT_STATE

/-- BEGIN: the slots not in force become targets, and are erased under intents. -/
def opBegin (s : State) : State :=
  let a := s.updArg 0
  if s.trialOpen then s.updResult 1
  else if a % 4 = 0 then s.updResult 11
  else
    let fw := bit a 0
    let cfg := bit a 1
    let h := s.hdrInForce
    let fs := match h with | some x => 1 - x.fwSlot | none => 0
    let cs := match h with | some x => 1 - x.cfgPref | none => 0
    let fn := if fs = 0 then 16 else 112
    let cn := if cs = 0 then 208 else 360
    let s := s.when fw fun t => (t.eraseUnder fn 96).eraseSector fn
    let s := s.when cfg fun t => (t.eraseUnder cn 152).eraseSector cn
    ((s.updUpd fun u => { u with fw := fw, cfg := cfg, fwSlot := fs, cfgSlot := cs, staged := { bundle := none, signer := none } }).set
      Reg.UPD.STAT_STATE 1).updResult 0

/-- Bytes are programmed into a slot at an offset. -/
def programBytes (b : List (Nat × Byte)) : Nat → List Byte → List (Nat × Byte)
  | _, [] => b
  | a, x :: l => programBytes (Assoc.set b a x 0xFF) (a + 1) l

/-- Bytes reach the target slot of the staging. -/
def stageBytes (toFw : Bool) (at_ : Nat) (l : List Byte) (s : State) : State :=
  s.updFlash fun f =>
    if toFw then
      let put := fun x : FwSlot => { x with bytes := programBytes x.bytes at_ l }
      if s.upd.fwSlot = 0 then { f with fwA := put f.fwA } else { f with fwB := put f.fwB }
    else
      let put := fun x : CfgSlot => { x with bytes := programBytes x.bytes at_ l, signer := none }
      if s.upd.cfgSlot = 0 then { f with cfgA := put f.cfgA } else { f with cfgB := put f.cfgB }

/-- The size of the target slot. -/
def targetSize (toFw : Bool) (s : State) : Nat := if toFw then 0x600000 else s.cfgSlotSize s.upd.cfgSlot

/-- The bytes that WRITE copies, from the staging buffer or from DRAM; none where DRAM answers with an error. -/
def stageSource (len : Nat) (s : State) : Option (List Byte) × State :=
  let a := s.updArg 3
  if bit a 31 then
    if s.dramUp ∧ s.dramExists (a % 2 ^ 31 * 64 + len - 1) then s.dramRead (a % 2 ^ 31 * 64) len else (none, s)
  else (some (((List.range 1024).map fun j => leBytes 4 (s.get (Reg.UPD.BUF j))).flatten.take len), s)

/-- WRITE: bytes are copied into the target. Where both slots are targets, ARG0 names the one, coded as for BEGIN. -/
def opWrite (s : State) : State :=
  let len := s.updArg 2
  let at_ := s.updArg 1
  let toFw := s.upd.fw && (!s.upd.cfg || bit (s.updArg 0) 0)
  if s.updPhase ≠ 1 ∨ s.targetSize toFw < at_ + len ∨ (!bit (s.updArg 3) 31 ∧ 4096 < len) then s.updResult 11
  else
    match s.stageSource len with
    | (some l, s) => (s.stageBytes toFw at_ l).updResult 0
    | (none, s) => (s.raise 117 [at_]).updResult 9

/-- Every pair of main firmware and section accepts each other (R573). -/
def compatible (b : Bundle) : Bool :=
  b.mode != 1 ||
    ((b.versions.zip b.accepts).all (fun p => decide (p.2.1 ≤ p.1) && decide (p.1 ≤ p.2.2)) &&
      b.mainMin.all fun m => decide (m ≤ b.release))

/-- The release the staged image is judged against: the staged firmware's, else the running one's. -/
def stageRelease (r : StageRead) (s : State) : Nat :=
  match (if s.upd.fw then r.bundle else s.upd.running) with
  | some b => b.release
  | none => 0

/-- The result code of VERIFY. -/
def verifyCode (r : StageRead) (s : State) : Nat :=
  let fwBad := s.upd.fw && (match r.bundle with | some b => !b.sigOk | none => true)
  let c := { s.cfgSlot s.upd.cfgSlot with signer := r.signer }
  if fwBad then 30
  else if s.upd.cfg ∧ s.imgHeaderCheck c (s.cfgSlotSize s.upd.cfgSlot) (s.stageRelease r) ≠ 0 then 30
  else
    match if s.upd.fw then r.bundle else none with
    | none => 0
    | some b => if !s.svOk b then 29 else if !compatible b then 31 else 0

/-- What was read of the staged items stands for them in their slots. -/
def keepStaged (r : StageRead) (s : State) : State :=
  let s := s.updUpd fun u => { u with staged := r }
  let s := s.when s.upd.cfg fun t => t.updFlash fun f =>
    if t.upd.cfgSlot = 0 then { f with cfgA := { f.cfgA with signer := r.signer } }
    else { f with cfgB := { f.cfgB with signer := r.signer } }
  match if s.upd.fw then r.bundle else none with
  | some b => s.updFlash fun f =>
      if s.upd.fwSlot = 0 then { f with fwA := { f.fwA with head := .good b } } else { f with fwB := { f.fwB with head := .good b } }
  | none => s

/-- VERIFY (R568, R571). -/
def opVerify (r : StageRead) (s : State) : State :=
  if s.updPhase ≠ 1 then s.updResult 11
  else
    let code := s.verifyCode r
    if code = 0 then (((s.keepStaged r).set Reg.UPD.STAT_STATE 2).raise 109 [b2n s.upd.fw, b2n s.upd.cfg]).updResult 0
    else ((((s.when (code == 29) (raise 115 [])).raise 110 [code]).set Reg.UPD.STAT_STATE 0)).updResult code

/-- COMMIT's arguments are in range. -/
def commitArgsOk (s : State) : Bool :=
  decide (60 ≤ s.updArg 1) && decide (s.updArg 1 ≤ 86400) && decide (1 ≤ s.updArg 2 % 16) && decide (s.updArg 2 % 16 ≤ 8)

/-- The result code of COMMIT. -/
def commitCode (s : State) : Nat :=
  if s.trialOpen then 1 else if s.updPhase ≠ 2 then 11 else if !s.windowOpen then 28 else if !s.commitArgsOk then 11 else 0

/-- COMMIT (R569): the new header is written; the restart that follows has cause 3 or 4. -/
def opUpdCommit (s : State) : State × Option Nat :=
  let code := s.commitCode
  if code ≠ 0 then (s.updResult code, none)
  else
    let k := if s.upd.hdr = 0 then 1 else 0
    let old := s.hdrInForce
    let h : BootHdr :=
      { seq := (match old with | some x => x.seq + 1 | none => 0), parts := (match old with | some x => x.parts | none => []),
        fwSlot := if s.upd.fw then s.upd.fwSlot else (match old with | some x => x.fwSlot | none => 0),
        cfgPref := if s.upd.cfg then s.upd.cfgSlot else (match old with | some x => x.cfgPref | none => 0),
        mode := s.updArg 0 % 2, trial := true, trialWin := s.updArg 1, trialMax := s.updArg 2 % 16,
        valid := 0xFFFFFFFF, confirm := 0xFFFFFFFF, attempts := 0xFFFFFFFF }
    let s := ((s.set Reg.UPD.STAT_STATE 3).eraseUnder k 1).putHdr k h
    ((s.raise 111 [k]).updResult 0, some (if s.upd.fw then 3 else 4))

/-- CONFIRM (R570, R571): MINSV rises to the running SECVER, and the fuses to its upper 16 bits. -/
def opConfirm (s : State) : State :=
  match s.hdrInForce, s.upd.running with
  | some h, some b =>
      if onTrial h ∧ h.valid = 0xFFFFFFFF then
        let s := (s.putHdr s.upd.hdr { h with confirm := 0 }).updUpd fun u => { u with trialEnd := none }
        let sv := max s.minSv b.secver
        let s := s.updFlash fun f => { f with minsv := (sv, sv) }
        let target := min 64 (b.secver / 2 ^ 48)
        let s := s.each (List.range (target - s.fuses.epoch)) fun k t =>
          t.blow (fun f => { f with epoch := f.epoch + 1 }) (4 + k)
        ((s.showUpd.set Reg.UPD.TRIALLEFT 0).raise 113 [h.seq]).updResult 0
      else s.updResult 11
  | _, _ => s.updResult 11

/-- ABORT: the staging is discarded. -/
def opUpdAbort (s : State) : State :=
  ((s.updUpd fun u => { u with fw := false, cfg := false, staged := { bundle := none, signer := none } }).set
    Reg.UPD.STAT_STATE 0).updResult 0

/-- The trial window expires unconfirmed (R570): the header is invalidated, and a restart with cause 3 follows. -/
def trialExpire (s : State) : State × Bool :=
  match s.hdrInForce with
  | some h =>
      if onTrial h && s.upd.trialEnd.any (fun t => decide (t ≤ s.now)) then ((s.killHdr s.upd.hdr).raise 114 [s.upd.hdr], true) else (s, false)
  | none => (s, false)

/-- What the staged slots hold, where no command says what VERIFY reads of them. -/
def stagedRead (s : State) : StageRead :=
  let nats := fun l : List (Nat × Byte) => (l.map fun p => [p.1, p.2.toNat]).flatten
  { bundle := Config.bundleOf (nats (s.fwSlot s.upd.fwSlot).bytes), signer := Config.signerOf (nats (s.cfgSlot s.upd.cfgSlot).bytes) }

/-- A write of UPD.CMD starts a request (R568–R570); a COMMIT that is accepted leaves the cause of the restart. -/
def updCmd (op : Nat) (read : StageRead) (s : State) : State × Option Nat :=
  let s := s.set Reg.UPD.RES_DONE 0
  match op with
  | 1 => (s.opBegin, none)
  | 2 => (s.opWrite, none)
  | 3 => (s.opVerify read, none)
  | 4 => s.opUpdCommit
  | 5 => (s.opConfirm, none)
  | 6 => (s.opUpdAbort, none)
  | _ => (s.updResult 11, none)

end State

end Sys2Proof.Machine
end

