-- ==== Sys2Proof/Machine/SoftReset.lean ====
section
/-! DEFINITION. Chapter 2, blocks as a whole: the RWD words a block takes when it starts (R44–R47), what starting and
stopping mean to each block, and the block soft reset with what it keeps (R60, R620). -/

namespace Sys2Proof.Machine

/-- An address lies in the page of a block. -/
def Blk.has (b : Blk) (addr : Nat) : Bool :=
  decide (b.base ≤ addr) && decide (addr < b.base + b.kind.layout.2.1)

/-- The block of a page base. -/
def Blk.ofBase (a : Nat) : Option Blk :=
  match Blk.ofAddr a with
  | some (b, 0) => some b
  | _ => none

/-- The registers of a block lie in the bus-matrix domain (R619). -/
def Blk.busSide (b : Blk) : Bool :=
  match b.kind with
  | .mgt | .bmx | .sns | .flt | .cfg | .key | .upd => true
  | _ => false

namespace State

/-! ### Start and stop -/

/-- An address holds a register with RWD fields. -/
def rwdAt (a : Nat) : Bool :=
  match RegMap.find a with
  | some (_, r, _, _) => r.flds.any fun f => decide (f.acc = .rwd)
  | none => false

/-- The RWD words of a block as the bus-matrix domain holds them; of the lower word of a wide value, the one taken with its
most significant word (R59). -/
def rwdWords (b : Blk) (s : State) : List (Nat × Word) :=
  (s.regs.filter fun p => b.has p.1 && rwdAt p.1 && !wideAt (p.1 + 4)) ++
    s.wide.filter fun p => b.has p.1 && rwdAt p.1

/-- A block takes its RWD words (R44). -/
def takeRwd (b : Blk) (cap : List (Nat × Word)) (s : State) : State :=
  { s with inUse := cap.foldl (fun l p => Assoc.put l p.1 p.2) (s.inUse.filter fun p => !b.has p.1) }

/-- A block runs. -/
def runs (b : Blk) (s : State) : State := s.set b.run 1

/-- A block starts with the RWD words it took. Some blocks judge their start first, and some run only later. -/
def startBlock (b : Blk) (cap : List (Nat × Word)) (s : State) : State :=
  let old := s.inUse
  let s := s.takeRwd b cap
  match b.kind with
  | .lode => (s.runs b).lodeStart
  | .drc => s
  | .drcc => s.dramStart
  | .aud =>
      let r := s.audStart
      if r.2 then r.1.runs b else { r.1 with inUse := old }
  | .aprt => let r := s.aprtStart b.inst; r.1.setB b.run r.2
  | .lane => s.laneStart b.inst
  | .quad => s.quadStart b.inst
  | .scan => s.scanStart
  | .eth => (s.runs b).ethStart b.inst
  | .gbus =>
      let e := s.gbusCfgErr
      let s := s.set Reg.GBUS.STAT_CFGERR e
      if e = 0 then (s.runs b).gbusStart else (s.set b.cfgIgn 1).gbusEvent 0 [e]
  | .twin => (s.runs b).twinStart
  | .fab => (s.runs b).igmpStart
  | .cfg | .flt | .time | .chn | .prov | .sdi | .ipm | .cnv | .mica | .dec | .mgt | .bmx | .sns | .key | .upd =>
      s.runs b

/-- A block stops: STAT.RUN reads 0 (R46). -/
def stopBlock (b : Blk) (s : State) : State :=
  match b.kind with
  | .lode => (s.set b.run 0).lodeStop
  | .drcc => s.dramStop
  | .aprt => (s.set b.run 0).aprtStop b.inst
  | .lane => (s.laneStop b.inst).laneFollow b.inst
  | .quad => ((s.quadStop b.inst).quadStopCreate b.inst).each ((List.range 4).map fun k => 4 * b.inst + k) laneFollow
  | .scan => (s.set b.run 0).scanStop
  | .eth =>
      let up := s.ethUp b.inst
      (((s.set b.run 0).ethStop b.inst).when up (portLegsDown b.inst)).when up (fun t => t.showPaused b.inst)
  | .twin => (s.set b.run 0).twinStop
  | .cnv => s.cnvStop b.inst
  | .mica => s.micaStop b.inst
  | .sdi => (s.toSearch b.inst 4320 false).set b.run 0
  | .ipm =>
      (s.each ((List.range 64).filter fun k => s.flag ⟨s6rPage k + 0x20, 31, 0⟩) fun k t => t.toSearch (512 + k) 4320 false).set b.run 0
  | .cfg | .flt | .time | .fab | .chn | .prov | .aud | .dec | .gbus | .drc | .mgt | .bmx | .sns | .key | .upd => s.set b.run 0

/-! ### The block soft reset -/

/-- Registers whose RO and RS fields a soft reset leaves: those set at creation, those that show what R620 keeps, and
those that show fuses, keys and the life cycle; by block kind and offset. -/
def softKept (k : BlkKind) (o : Nat) : Bool :=
  let in_ := fun a z : Nat => decide (a ≤ o) && decide (o < z)
  match k with
  | .cfg => o == 0x04
  | .flt => o == 0x04 || o == 0x14 || o == 0x1C || o == 0x28 || in_ 0x100 0x400
  | .time => in_ 0x10 0x1C || o == 0x28 || o == 0x2C
  | .lode => false
  | .fab => o == 0x14 || o == 0x18 || in_ 0x80 0x90 || o == 0x94 || o == 0xA0 || o == 0xA4 || in_ 0x20000 0x100000
  | .chn => o == 0x04 || o == 0x18 || o == 0x20 || in_ 0x10000 0x100000
  | .prov => false
  | .sdi => o == 0x20 || o == 0x24 || o == 0x34 || in_ 0x40 0x60 || in_ 0x80 0x8C || o == 0x90
  | .eth => in_ 0x200 0x400
  | .ipm =>
      o == 0x10 || o == 0x14 || o == 0x1C || (in_ 0x10000 0x30000 && decide (o % 32 < 0x0C)) ||
        (in_ 0x30000 0x50000 && (decide (o % 32 < 0x10) || o % 32 == 0x14)) ||
        (in_ 0x80000 0xC0000 && [0x20, 0x24, 0x34, 0x40, 0x44, 0x48, 0x4C, 0x50, 0x54, 0x58, 0x5C].contains (o % 4096)) ||
        (in_ 0xC0000 0x100000 && [0x80, 0x84, 0x88, 0x90].contains (o % 4096))
  | .aud => o == 0x14 || o == 0x1C || in_ 0x10000 0x20000 || (in_ 0x20000 0xA0000 && o % 16 != 0x0C)
  | .aprt => false
  | .cnv => in_ 0x10 0x24
  | .mica =>
      in_ 0x10 0x1C || in_ 0x114 0x124 || (in_ 0x1000 0x2000 && ((o % 64 == 0x1C) || o % 64 == 0x20 || o % 64 == 0x24))
  | .dec => in_ 0x10 0x20
  | .scan => false
  | .lane => o == 0x14
  | .quad => false
  | .gbus => false
  | .twin => false
  | .drc => false
  | .drcc => o == 0x1C || o == 0x20
  | .mgt => o == 0x10 || o == 0x38 || o == 0x118 || o == 0x138
  | .bmx => in_ 0x20 0x40
  | .sns => false
  | .key => o == 0x04 || in_ 0x10 0x30 || in_ 0x300 0x800
  | .upd => o == 0x04 || in_ 0x34 0x54

/-- Registers a soft reset keeps whole: CHN.CFG, and LANE.CFG while a channel holds either half (R620). -/
def softKeptWhole (b : Blk) (o : Nat) (s : State) : Bool :=
  match b.kind with
  | .chn => o == 0x10
  | .lane => o == 0x10 && (s.laneHeld true b.inst || s.laneHeld false b.inst)
  | _ => false

/-- A field keeps its value through a soft reset of its block. STAT.RUN shows whether the block runs, and the state and cause
of an output are marks of the safety concept; embedded groups and hold buffers are set at creation. -/
def softKeepsField (b : Blk) (o : Nat) (f : Fld) (s : State) : Bool :=
  s.softKeptWhole b o ||
    (match f.acc with
     | .rwl => true
     | .ro | .rs =>
         softKept b.kind o || (o == 4 && f.lo == 0) || (b.kind == .prov && decide (0x4000 ≤ o) && decide (20 ≤ f.lo)) ||
           (b.kind == .sdi && o == 0x8C && f.lo == 0) ||
           (b.kind == .ipm && decide (0xC0000 ≤ o) && o % 4096 == 0x8C && f.lo == 0)
     | .w1c => b.kind == .flt && o == 4 && f.lo == 4
     | .rw | .wo | .rwd => false)

/-- A field that the bus-matrix domain holds of its block: RWD fields and EN (R44). It returns to its reset value when a write
of SRST is accepted, every other field when that write takes effect in the block, so that writes keep their order (R55). -/
def busHeld (b : Blk) (o : Nat) (f : Fld) : Bool := f.acc == .rwd || (o == 0 && f.lo == 0 && b.kind != .drc)

/-- A register word after a soft reset of its block, on the side that the bus-matrix domain holds or on the other. -/
def softWord (held : Bool) (b : Blk) (addr : Nat) (w : Word) (s : State) : Word :=
  match RegMap.find addr with
  | some (_, r, _, _) =>
      BitVec.ofNat 32 (r.flds.foldl (fun v f =>
        if s.softKeepsField b (addr - b.base) f || busHeld b (addr - b.base) f != held then
          setBits v f.hi f.lo (bits w.toNat f.hi f.lo) else v)
        (resetWord addr).toNat)
  | none => w

/-- The registers of a block after a soft reset, on one of the two sides, those whose offset is chosen; a wide value returns
whole. -/
def softRegs (held : Bool) (b : Blk) (chosen : Nat → Bool) (s : State) : State :=
  let t := s.each (s.regs.filter fun p => b.has p.1 && chosen (p.1 - b.base)) fun p t => t.wr p.1 (s.softWord held b p.1 p.2)
  { t with wide := t.wide.filter fun p => !b.has p.1 || rwdAt p.1 != held || b.kind == .drcc }

/-- What a soft reset does to the state of a block that no register shows. -/
def softHidden (b : Blk) (s : State) : State :=
  match b.kind with
  | .flt => s.fltSoftSlots
  | .time => s.updTime fun x =>
      { x with stepLo := 0, offLo := 0, steps := [], offsets := [], capPend := false, integ := 0, txq := [] }
  | .lode => s.updLode fun x =>
      { x with buildout := 0, inside := none, avg := [], hold := (0, 0), specRaised := false, phase3 := [], steps := [],
               audOfs := 0, lRecAt := none }
  | .chn => { s with chn := { s.chn with low := false } }
  | .sdi => s.updRx b.inst fun _ => SdiRx.fresh
  | .eth => s.updEth b.inst fun x => { EthPort.fresh with totals := x.totals }
  | .ipm => { s with ipm := { s.ipm with rx := s.ipm.rx.map fun p => (p.1, { p.2 with polTotal := 0, polLast := 0 }) } }
  | .aprt => s.updAprt b.inst fun _ => AprtState.fresh
  | .cnv => s.updCnv b.inst fun x => { x with act := CnvBank.fresh }
  | .mica => (s.dropBind b.inst).updMica b.inst fun x =>
      { MicaHw.fresh with flint := x.flint, loaded := x.loaded, matches_ := x.matches_, flintBad := x.flintBad }
  | .dec => s.updDec b.inst fun x => { x with newest := none, base := none }
  | .scan => s.updScan fun x => { ScanState.reset with hpd := x.hpd, kbps := x.kbps }
  | .lane => (s.updLane b.inst fun x => { LaneHw.fresh with ents := x.ents }).when
      (s.laneHeld true b.inst || s.laneHeld false b.inst) (laneCause b.inst 1)
  | .gbus => { s with gbus := GbusState.reset }
  | .twin => s.freshLink
  | .mgt => s.updMgt fun x => { x with sp := { x.sp with unreported := false } }
  | .sns => s.updMgt fun x => { x with tripped := [], trig := none, trigOvrAt := none }
  | .cfg | .fab | .prov | .aud | .quad | .drc | .drcc | .bmx | .key | .upd => s

/-- A block soft reset is accepted (R60, R620): what the bus-matrix domain holds of the block returns to its reset value; every
unlock disarms (R51). -/
def softHeld (b : Blk) (s : State) : State := (s.softRegs true b fun _ => true).updMgt fun x => { x with unlocks := [] }

/-- A block soft reset takes effect in the block, but for the registers of a receive domain whose clock is stopped (R57). -/
def softReset (b : Blk) (s : State) : State := (s.softRegs false b fun o => !s.clockStopped b o).softHidden b

/-- What a soft reset left for the receive domain, once its clock returns. -/
def softRest (b : Blk) (s : State) : State := s.softRegs false b (rxDomain b)

end State

end Sys2Proof.Machine
end

