-- ==== Sys2Proof/Machine/Land.lean ====
section
/-! DEFINITION. Chapter 2, register writes: how each field of a write is judged by its access code (R40–R53), what a block
does when a write takes effect in its domain (R22, R55), and the registers whose write does more than store. -/

namespace Sys2Proof.Machine

namespace State

/-! ### Taking effect -/

/-- The fields of a word that a landing write stores: RW fields take the data but EN, which is held in the bus-matrix
domain; W1C bits written 1 clear. -/
def landWord (r : RegDef) (old data : Nat) : Nat :=
  r.flds.foldl (fun v f =>
    match f.acc with
    | .rw => if r.off = 0 ∧ f.lo = 0 then v else setBits v f.hi f.lo (bits data f.hi f.lo)
    | .w1c => setBits v f.hi f.lo (bits v f.hi f.lo &&& Nat.xor (bits data f.hi f.lo) (2 ^ (f.hi + 1 - f.lo) - 1))
    | .rwd | .rwl | .ro | .rs | .wo => v) old

/-- A write is stored by the access codes of its fields; the most significant word of a wide value completes it (R59). Commands have an order, so a W1C bit that hardware sets and a write
clears is clear when the clear comes later; the spec's same cycle, in which the set wins (R42), is the order in which the set
comes later (DESIGN CHOICE). -/
def landStore (r : RegDef) (addr : Nat) (data : Word) (s : State) : State :=
  (s.wr addr (BitVec.ofNat 32 (landWord r (s.rd addr).toNat data.toNat))).when
    (wideAt addr && r.flds.any fun f => f.acc == .rw) (takeWide (addr - 4))

/-- A mailbox command is carried out, and mirrored when the unit is the active of a twin (R458); a busy mailbox discards
it. -/
def mirrored (busy : Bool) (box engine op : Nat) (args : List Nat) (peer : Nat) (f : State → State) (s : State) : State :=
  if busy then f s
  else (f (s.mirrorOwe { box := box, engine := engine, op := op, args := args, peer := peer })).mirrorFlush

/-- The words of a mailbox's argument registers. -/
def argWords (r : Nat → FRef) (n : Nat) (s : State) : List Nat := (List.range n).map fun j => s.get (r j)

/-- The take mailbox (R120, R149). -/
def takeBox (data : Word) (s : State) : State :=
  s.mirrored (s.flag Reg.FAB.TESTAT_BUSY) 0 0 (data.toNat % 16) (s.argWords Reg.FAB.TAKEARG 6) (bits data.toNat 23 16) (takeCmdLand data)

/-- The take mailbox written by a master: the request stays in progress to the end of the tick, and a further TAKECMD until then is
discarded (R121, R149). -/
def takeBoxHeld (data : Word) (s : State) : State :=
  if s.flag Reg.FAB.TESTAT_BUSY then s.takeBox data
  else ((s.takeBox data).set Reg.FAB.TAKERES_DONE 0).set Reg.FAB.TESTAT_BUSY 1

/-- The request mailbox of the channel table (R95, R117), with the descriptor words it may name. RESOLVE changes no state. -/
def chnBox (m : Nat) (data : Word) (s : State) : State :=
  let a := s.argWords Reg.CHN.REQARG 8
  if data.toNat % 16 = 4 then s.reqCmdLand m data
  else s.mirrored (s.flag Reg.CHN.STAT_REQBUSY) 1 0 (data.toNat % 16) (a ++ s.argWords (Reg.IPM.DESC_W (bits (a.headD 0) 3 0)) 16) 0 (reqCmdLand m data)

/-- The voice-map mailbox (R256). -/
def mapBox (data : Word) (s : State) : State :=
  s.mirrored (s.flag Reg.AUD.MAPRES_BUSY) 2 0 (data.toNat % 16) (s.argWords Reg.AUD.MAPARG 3) 0 (mapCmdLand data)

/-- The voice-map mailbox written by a master, in progress to the end of the tick. -/
def mapBoxHeld (data : Word) (s : State) : State :=
  if s.flag Reg.AUD.MAPRES_BUSY then s.mapBox data
  else ((s.mapBox data).set Reg.AUD.MAPRES_DONE 0).set Reg.AUD.MAPRES_BUSY 1

/-- Requests of the take and map mailboxes finish. -/
def endBoxes (s : State) : State :=
  let s := s.when (s.flag Reg.FAB.TESTAT_BUSY) fun t => (t.set Reg.FAB.TESTAT_BUSY 0).set Reg.FAB.TAKERES_DONE 1
  s.when (s.flag Reg.AUD.MAPRES_BUSY) fun t => (t.set Reg.AUD.MAPRES_BUSY 0).set Reg.AUD.MAPRES_DONE 1

/-- The layer mailbox of a mica engine (R304). -/
def layBox (g : Nat) (data : Word) (s : State) : State :=
  s.mirrored (s.flag (Reg.MICA.LAYRES_BUSY g)) 3 g (data.toNat % 16) (s.argWords (Reg.MICA.LAYARG g) 3) 0 (layCmdLand g data)

/-- A commit, a reflatten and a flint load of a mica engine (R299, R308, R312). -/
def commitBox (g : Nat) (data : Word) (s : State) : State :=
  if bit data.toNat 0 then s.mirrored false 4 g 1 [] 0 (micaCommitLand g data) else s.micaCommitLand g data
def reflattenBox (g : Nat) (data : Word) (s : State) : State :=
  if bit data.toNat 0 then s.mirrored false 5 g 1 [] 0 (reflattenLand g data) else s.reflattenLand g data
def flintBox (g : Nat) (data : Word) (s : State) : State :=
  if bit data.toNat 0 then
    let lo := (Reg.MICA.FLINTLOAD_ADDRLO g).addr
    s.mirrored false 6 g 1 ([lo, (s.wideWord lo).toNat] ++
      [Reg.MICA.FLINTLOAD_ADDRHI g, Reg.MICA.FLINTLOAD_CRC g].flatMap fun r => [r.addr, (s.rd r.addr).toNat]) 0 (flintGoLand g data)
  else s.flintGoLand g data

/-- A request of the update engine; a restart it asks for is left due. -/
def updCmdLand (data : Word) (s : State) : State :=
  let r := s.updCmd (data.toNat % 16) s.stagedRead
  r.1.when r.2.isSome fun t => t.updUpd fun u => { u with due := r.2 }

/-- What a landing write does at a register that is more than stored; `i` is the index of the register. -/
def landSpecial (m : Nat) (b : Blk) (o i : Nat) (data : Word) (s : State) : Option State :=
  match b.kind with
  | .flt =>
      if o = 0x18 then some (s.histClrLand data)
      else if o = 0x24 then some (s.safeClrLand data)
      else if o = 0x108 then some (s.ackLand i data)
      else none
  | .time =>
      if o = 0x24 then some (s.incrHiLand data)
      else if o = 0x30 then some (s.updTime fun x => { x with stepLo := data })
      else if o = 0x34 then some (s.stepHiLand data)
      else if o = 0x50 then some (s.when (bit data.toNat 0) (updTime fun x => { x with capPend := true }))
      else if o = 0x100 then some (s.updTime fun x => { x with offLo := data })
      else if o = 0x104 then some (s.offHiLand data)
      else if o = 0x100C then
        some ((s.when (bit data.toNat 31) (set (Reg.TIME.TXQ_OVF i) 0)).when (bit data.toNat 0) (txqPopLand i))
      else none
  | .lode =>
      if o = 0x44 then some (s.ptpstatLand (bit data.toNat 0))
      else if o = 0x74 then some (s.loopStepLand data)
      else if o = 0x204 then some (s.planeStepLand i data)
      else none
  | .fab =>
      if o = 0x70 then some (s.takeBoxHeld data)
      else if o = 0x90 then some (s.when (bit data.toNat 0) tcqPop)
      else none
  | .chn =>
      if o = 0x14 then some (s.lowmarkLand data)
      else if o = 0x100 then some (s.chnBox m data)
      else none
  | .prov => if o = 0x14 then some (s.outclrLand data) else none
  | .eth =>
      if o = 0x6C then some (s.txKickLand b.inst data)
      else if o = 0x100 then some (s.statSnapLand b.inst data)
      else none
  | .aud => if o = 0x20 then some (s.mapBoxHeld data) else none
  | .cnv =>
      if (o = 0x30 ∨ (0x40 ≤ o ∧ o < 0x7C)) ∧ s.cnvLocked b.inst then some (s.lutIgn b.inst)
      else if o = 0x88 then some (s.cnvLutWrite b.inst data)
      else if o = 0x8C then some (s.cnvSwapLand b.inst data)
      else none
  | .mica =>
      if o = 0x20 then some (s.commitBox b.inst data)
      else if o = 0x24 then some (s.reflattenBox b.inst data)
      else if o = 0x48 then some (s.micaLutWrite b.inst data)
      else if o = 0x50 then some (s.layBox b.inst data)
      else none
  | .scan =>
      if o = 0x30 then some (s.when (bit data.toNat 0) psrExit)
      else if o = 0x48 then some (s.flipLand data)
      else if o = 0x80 then some (s.auxCmdLand data)
      else none
  | .lane => if o = 0x18 then some (s.txeqLand b.inst data) else none
  | .gbus =>
      if o = 0x14 then some (s.terrLand data)
      else if (o = 0x18 ∨ o = 0x100) ∧ s.flag Reg.GBUS.STAT_TXPEND then some s.txIgnored
      else if o = 0x1C then some (s.txgoLand data)
      else if o = 0x34 then some (s.popLand data)
      else none
  | .twin =>
      if o = 0x40 then some (s.xchgLand data)
      else if o = 0x44 then some (s.recoverLand data)
      else none
  | .mgt =>
      if o = 0x14 then some (s.unlockWrite m data)
      else if o = 0x34 then some (s.wdService m data)
      else if o = 0x114 then some (s.dmaGoLand i data)
      else none
  | .sns => if o = 0x20 then some (s.trigLand data) else none
  | .key => if o = 0x30 then some (s.keyCmdLand data) else none
  | .upd => if o = 0x10 then some (s.updCmdLand data) else none
  | .cfg | .sdi | .ipm | .aprt | .dec | .quad | .drc | .drcc | .bmx => none

/-- What follows a write that was stored: a reference selected anew (R407), the temperature table judged (R412), equaliser values that apply (R347). -/
def landAfter (b : Blk) (o : Nat) (s : State) : State :=
  match b.kind with
  | .lode =>
      let s := s.when (decide (0xA0 ≤ o) && decide (o < 0xE0)) fun t => t.setB Reg.LODE.STAT_TTBAD (!ascending t.tempTable)
      s.when (o == 0x10 || o == 0x14) reselect
  | .mica => s.when (o == 0x44) (updMica b.inst fun x => { x with lutPast := false })
  | .lane => s.when (o == 0x1C || (decide (0x2C ≤ o) && decide (o ≤ 0x34))) (eqLand b.inst)
  | _ => s

/-- Setting EN: a block that stops completes its stop first (R47). -/
def raiseEn (b : Blk) (cap : List (Nat × Word)) (s : State) : State :=
  if s.flag b.run then { s with restart := Assoc.put s.restart b.base cap } else s.startBlock b cap

/-- Clearing EN: a running block finishes its unit first (R46); one that does not run has none. The panel's link and its DRAM charge go
at once (R323, R324). -/
def lowerEn (b : Blk) (s : State) : State :=
  let s := { s with restart := Assoc.del s.restart b.base }
  let s := s.when (b.kind == .scan) scanStop
  if s.flag b.run then s else s.stopBlock b

/-- A write takes effect in its block (R55). -/
def landWrite (l : Landing) (s : State) : State :=
  match RegMap.find l.addr with
  | none => s
  | some (b, r, i, _) =>
      let s := s.when l.srst (softReset b)
      let s := match s.landSpecial l.m b r.off i l.data with
        | some t => t
        | none => (s.landStore r l.addr l.data).landAfter b r.off
      (s.when l.rise (raiseEn b l.cap)).when l.fall (lowerEn b)

/-- STAT.WPEND of a block (R55). -/
def showWpend (b : Blk) (s : State) : State := s.setB b.wpend (s.landing.any fun l => b.has l.addr)

/-- A write waits for a receive domain whose clock is stopped (R57). -/
def waitsForClock (b : Blk) (l : Landing) (s : State) : Bool :=
  if l.rxRest then s.rxClockOff b else s.clockStopped b (l.addr - b.base)

/-- The oldest write that waits for a block takes effect; one for a domain whose clock is stopped goes on waiting (R57), and so does
the part of a soft reset that such a domain takes, at its place among the writes (R55). -/
def landOldest (b : Blk) (s : State) : State :=
  match s.landing.find? fun l => b.has l.addr && !s.waitsForClock b l with
  | none => s
  | some l =>
      let off := s.rxClockOff b
      let s := { s with landing := if l.srst && !l.rxRest && off then s.landing.map fun x => if x = l then { l with rxRest := true } else x
                                   else s.landing.erase l }
      (if l.rxRest then s.softRest b else s.landWrite l).showWpend b

/-- Every write that waits for a block takes effect, in order, but those that wait for a clock. -/
def landAll (b : Blk) (s : State) : State :=
  s.each (s.landing.filter fun l => b.has l.addr) fun _ t => t.landOldest b

/-- A disabled block has finished its unit (R46): it stops. One whose EN was set again stops too, and starts at the next tick
(R47). -/
def stopDone (b : Blk) (s : State) : State :=
  if s.flag b.run ∧ (s.get b.en = 0 ∨ (Assoc.find s.restart b.base).isSome) then s.stopBlock b else s

/-- Blocks that stopped with EN set again start, with the RWD words present when EN was set (R47). -/
def restartBlocks (s : State) : State :=
  s.each s.restart fun p t =>
    match Blk.ofBase p.1 with
    | some b => if t.flag b.run then t else ({ t with restart := Assoc.del t.restart p.1 }).startBlock b p.2
    | none => t

/-! ### Acceptance on the bus matrix -/

/-- A field of a write differs from the field's current value. -/
def fieldDiffers (old data : Nat) (f : Fld) : Bool := bits old f.hi f.lo != bits data f.hi f.lo

/-- A changed RWD field of an enabled block (R44), and a changed RWL field written while locked (R52). -/
def fieldIgnored (en : Bool) (old data : Nat) (f : Fld) : Bool := f.acc == .rwd && en && fieldDiffers old data f
def fieldLocked (unl : Bool) (old data : Nat) (f : Fld) : Bool := f.acc == .rwl && !unl && fieldDiffers old data f

/-- The word of a register once the bus-matrix domain holds the RWD and RWL fields of a write, and EN (R44, R53). The EN of
a DRAM channel follows the common EN (R446). -/
def heldWord (b : Blk) (r : RegDef) (en unl : Bool) (old data : Nat) : Nat :=
  r.flds.foldl (fun v f =>
    let take : Bool := match f.acc with
      | .rwd => !en
      | .rwl => unl
      | .rw => decide (r.off = 0 ∧ f.lo = 0 ∧ b.kind ≠ .drc)
      | .ro | .rs | .wo | .w1c => false
    if take then setBits v f.hi f.lo (bits data f.hi f.lo) else v) old

/-- An unlocked write of PROV.OUT: each of SAFE and RECOV by itself (R167, R178). -/
def outWrite (m e : Nat) (data : Word) (s : State) : State :=
  if !s.isChecked e then s
  else
    let safe := bits data.toNat 31 30
    let s := if s.safeRefused e safe (m == 6 && s.chn.twinListed) then s.safeRefuse e else s.set (Reg.PROV.OUT_SAFE e) safe
    ((s.set (Reg.PROV.OUT_RECOV e) (bits data.toNat 29 29)).chkinvStruckAt 5 e).handover e

/-- An unlocked write of DRC.CHKINV: ARM without inline ECC is discarded (R440). -/
def drcChkinvWrite (data : Word) (s : State) : State :=
  if bit data.toNat 31 ∧ !s.dramEcc then s.drccCause 0
  else
    let b := bits data.toNat 9 8
    (s.set Reg.DRCC.CHKINV_BITS b).setB Reg.DRCC.CHKINV_ARM (bit data.toNat 31 && (b == 1 || b == 2))

/-- Unlocked writes that are judged as a whole, or do more than store. -/
def heldSpecial (m : Nat) (b : Blk) (o i : Nat) (data : Word) (s : State) : Option State :=
  match b.kind with
  | .flt => if o = 0x2C then some (s.pinTestLand data) else none
  | .prov =>
      if o = 0x20 then some (s.chkinvLand data)
      else if o = 0x30 then some (s.tokinjLand data)
      else if o = 0x4000 then some (s.outWrite m i data)
      else none
  | .mica => if o = 0x110 then some (s.flintBox b.inst data) else none
  | .drcc => if o = 0x50 then some (s.drcChkinvWrite data) else none
  | _ => none

/-- What follows at once when the bus-matrix domain takes a field: TIME.CTRL.MODE (R393), the PLLs that the lanes' TX halves use
(R334), and DEEP of a stopped lane or quad (R351). -/
def heldAfter (b : Blk) (o old : Nat) (s : State) : State :=
  match b.kind with
  | .time => s.when (o == 0) (timeModeChanged (bits old 4 4))
  | .lane => (s.when (o == 0x10) (fitPlls (b.inst / 4))).when (o == 0x60) (laneDeepLand b.inst)
  | .quad => s.when (o == 0x20) (quadDeepLand b.inst)
  | _ => s

/-- A write of a register is accepted on the bus matrix: refused fields are flagged, RWD and RWL fields and EN are held, and
the rest takes effect in the block's domain (R40–R53). A soft reset (R60) comes before the fields of its own write: EN returns
to its reset value, or is set where the same write sets it. -/
def acceptWrite (m addr : Nat) (data : Word) (unl : Bool) (b : Blk) (r : RegDef) (i : Nat) (s : State) : State :=
  let en := s.get b.en == 1
  let old := (s.rd addr).toNat
  let d := data.toNat
  if b.kind = .lane ∧ r.off = 0x10 ∧ s.laneCfgRefused b.inst data then s.laneCfgDiscard m b.inst
  else if b.kind = .time ∧ !en ∧ timeGated r.off then s.cfgIgnored m b addr
  else
    let s := s.when (r.flds.any (fieldIgnored en old d)) (cfgIgnored m b addr)
    let s := s.when (r.flds.any (fieldLocked unl old d)) (lockIgnored m addr)
    let srst := r.off == 0 && bit d 1
    let s := s.when (srst && en) (set b.cfgIgn 1)
    let s := s.when (srst && !en) (softHeld b)
    let d := if srst && !en then d ||| (s.rd addr).toNat % 2 else d
    let s := match if unl then s.heldSpecial m b r.off i data else none with
      | some t => t
      | none =>
          let w := heldWord b r en unl (s.rd addr).toNat d
          let s := if w = (s.rd addr).toNat then s else (s.wr addr (BitVec.ofNat 32 w)).heldAfter b r.off old
          s.when (wideAt addr && r.flds.any fun f => (f.acc == Acc.rwd && !en) || (f.acc == Acc.rwl && unl)) (takeWide (addr - 4))
    let now := s.get b.en == 1
    let l : Landing := { m := m, addr := addr, data := data, rise := now && !en, fall := !now && en, srst := srst && !en,
                         cap := if now && !en then s.rwdWords b else [], rxRest := false }
    if b.busSide then s.landWrite l
    else (({ s with landing := s.landing ++ [l] }).set b.wpend 1).when (addr == 0x12000034) showStepPend

end State

end Sys2Proof.Machine
end

