-- ==== Sys2Proof/Machine/Bus.lean ====
section
/-! DEFINITION. Chapters 2 and 21, the bus matrix: where an address decodes (R34–R37, R511), what each transaction answers
(R514), reads, locked sequences (R515), and the commands that are register writes of any block. -/

namespace Sys2Proof.Machine

/-- Where an address decodes: management SRAM or boot ROM by offset, the DRAM window by offset, a block region, or nowhere. -/
inductive Place where
  | sram (off : Nat)
  | rom (off : Nat)
  | window (off : Nat)
  | block (b : Blk)
  | nowhere
  deriving DecidableEq, Repr

/-- The bus-matrix target of a block (R511). -/
def BlkKind.target : BlkKind → Nat
  | .cfg | .flt | .time | .lode => 3
  | .fab | .chn | .prov => 4
  | .sdi | .eth | .ipm => 5
  | .aud | .aprt | .cnv | .mica | .dec | .scan => 6
  | .lane | .quad => 7
  | .gbus | .twin | .drc | .drcc => 8
  | .mgt | .bmx | .sns | .key | .upd => 9

namespace State

/-- The place of an address (R34, R36). -/
def place (addr : Nat) (s : State) : Place :=
  if addr < 0x800000 then
    let low := decide (addr < 0x400000)
    if low == s.flag Reg.BMX.CTRL_REMAP then .sram (addr % 0x400000) else .rom (addr % 0x40000)
  else if 0x40000000 ≤ addr ∧ addr < 0x80000000 then .window (addr - 0x40000000)
  else
    match Blk.ofAddr addr with
    | some (b, _) => .block b
    | none => .nowhere

/-- The target of an address. -/
def busTarget (addr : Nat) (s : State) : Option Nat :=
  match s.place addr with
  | .sram _ => some 0
  | .rom _ => some 1
  | .window _ => some 2
  | .block b => some b.kind.target
  | .nowhere => none

/-- An unmapped access (R35), a refused one (R33): the flag, and MAP_ERR (R514). -/
def decodeErr (m addr : Nat) (s : State) : Nat × State := (1, (s.set Reg.MGT.STAT_DECERR 1).raise 34 [addr, m])
def alignErr (m addr : Nat) (s : State) : Nat × State := (2, (s.set Reg.MGT.STAT_ALIGN 1).raise 34 [addr, m])

/-- A memory answers with an error: DATAERR is raised for every master but the service port. -/
def dataErr (m addr : Nat) (s : State) : Nat × State := (5, s.when (decide (m ≤ 6)) (raise 39 [addr, m]))

/-- A transaction locked out (R515). -/
def lockErr (m addr : Nat) (s : State) : Nat × State :=
  (4, ((s.set Reg.MGT.STAT_LOCKERR 1).bump Reg.BMX.CNT_LOCKERR 1).raise 37 [addr, m])

/-- The service port may not write in the present life-cycle state (R38; RETIRED reads only as well). -/
def writeProtected (m : Nat) (s : State) : Bool := m == 7 && s.lcState != 0 && s.lcState != 3

/-- A refused service-port write. -/
def protErr (addr : Nat) (s : State) : Nat × State := (3, (s.set Reg.MGT.STAT_SP_WPROT 1).raise 35 [addr])

/-- The system address that the DRAM window shows at an offset (R37). -/
def windowAddr (off : Nat) (s : State) : Nat := s.get Reg.MGT.DWBANK * 2 ^ 30 + off

/-- The register, if any, that an access of a size reaches: none when it is refused under R33 or R35. -/
def regAt (addr : Nat) : Option (Blk × RegDef × Nat) := (RegMap.find addr).map fun x => (x.1, x.2.1, x.2.2.1)

/-! ### Writes -/

/-- Bytes written to memory from a word. -/
def wordBytes (size : Nat) (data : Word) : List Byte := leBytes (min size 4) data.toNat

/-- A write of bytes to DRAM by its system address. -/
def dramPut (m a addr : Nat) (l : List Byte) (s : State) : Nat × State :=
  if !s.dramExists a then s.decodeErr m addr
  else if !s.dramUp then s.dataErr m addr
  else (0, s.dramWrite a l)

/-- A write is decoded and judged (R33, R35, R37, R38), and answered. DESIGN CHOICE, the spec gives no order: an access is
decoded first, then its alignment and size are judged, then the register is looked up, then the life-cycle state. So a
service-port write in PROVISIONED or SERVICE that is also unmapped or misaligned answers DECODE or ALIGN and leaves SP_WPROT
clear, and an access that is both misaligned and at an undefined offset of a block region sets ALIGN alone. -/
def writeAt (m addr size : Nat) (data : Word) (unl : Bool) (s : State) : Nat × State :=
  match s.place addr with
  | .nowhere => s.decodeErr m addr
  | .sram off =>
      if m = 7 then s.decodeErr m addr
      else (0, s.sramPut off (wordBytes size data))
  | .rom _ => if m = 7 then s.decodeErr m addr else (0, s)
  | .window off =>
      if !s.dramExists (s.windowAddr off) then s.decodeErr m addr
      else if s.writeProtected m then s.protErr addr
      else s.dramPut m (s.windowAddr off) addr (wordBytes size data)
  | .block _ =>
      if size ≠ 4 ∨ addr % 4 ≠ 0 then s.alignErr m addr
      else
        match regAt addr with
        | none => s.decodeErr m addr
        | some (b, r, i) =>
            if s.writeProtected m then s.protErr addr
            else (0, s.acceptWrite m addr data unl b r i)

/-! ### Reads -/

/-- The value a register read returns: WO fields read zero, KEY0 reads whether the unlock is armed for the reading
master, and RUN of a lane, an SDI engine or an Ethernet port whose receive clock is stopped reads 0 (R57). -/
def regRead (m addr : Nat) (r : RegDef) (s : State) : Nat :=
  if addr = Reg.MGT.UNLOCK_KEY0.addr then b2n (s.armed m)
  else
    let stopped := match Blk.ofAddr addr with
      | some (b, o) => o == 4 && s.rxClockOff b
      | none => false
    r.flds.foldl (fun v f => if f.acc == .wo || (stopped && f.lo == 0) then v else setBits v f.hi f.lo (bits (s.rd addr).toNat f.hi f.lo)) 0

/-- A word of SRAM is read and checked (R174, R509). -/
def sramRead (m addr off n : Nat) (s : State) : Nat × Nat × State :=
  let q := s.wordBad 10 (off / 4) 0
  let v := leNat (Memory.readN q.2.mgt.sram off n)
  if q.1 = 0 then (0, v, q.2)
  else if q.1 = 1 then (0, v, q.2.sramCor 10 (off / 4))
  else
    let e := (q.2.sramUnc 10 (off / 4)).dataErr m addr
    (e.1, 0, e.2)

/-- The on-chip memory that a register read meets, and the word of it (R174, R175): the route, channel and PROV tables and the voice map
by entry, the FLT history by word from its first entry. -/
def tableAt (b : Blk) (off i addr : Nat) : Option (Nat × Nat) :=
  match b.kind with
  | .fab => if 0x80000 ≤ off ∧ off < 0x80020 then some (2, i) else none
  | .chn => if 0x10000 ≤ off ∧ off < 0x10010 then some (3, i) else none
  | .prov => if 0x4000 ≤ off ∧ off < 0x4004 then some (5, i) else none
  | .aud => if 0x20000 ≤ off ∧ off < 0x20010 then some (6, i) else none
  | .flt => if 0x200 ≤ off ∧ off < 0x220 then some (11, (addr - (Reg.FLT.HIST_VALID 0).addr) / 4) else none
  | _ => none

/-- A read of DRAM by its system address. -/
def dramGet (m a addr n : Nat) (s : State) : Nat × Nat × State :=
  if !s.dramExists a then let e := s.decodeErr m addr; (e.1, 0, e.2)
  else if !s.dramUp then let e := s.dataErr m addr; (e.1, 0, e.2)
  else
    match s.dramRead a n with
    | (some l, s) => (0, leNat l, s)
    | (none, s) => let e := s.dataErr m addr; (e.1, 0, e.2)

/-- A read is decoded and answered: response code, data, and the state. The boot ROM's content is open. -/
def readAt (m addr size : Nat) (s : State) : Nat × Nat × State :=
  match s.place addr with
  | .nowhere => let e := s.decodeErr m addr; (e.1, 0, e.2)
  | .sram off => if m = 7 then let e := s.decodeErr m addr; (e.1, 0, e.2) else s.sramRead m addr off (min size 4)
  | .rom off =>
      if m = 7 then let e := s.decodeErr m addr; (e.1, 0, e.2) else (0, Config.freeOf 36 [off] % 2 ^ (8 * min size 4), s)
  | .window off => s.dramGet m (s.windowAddr off) addr (min size 4)
  | .block _ =>
      if size ≠ 4 ∨ addr % 4 ≠ 0 then let e := s.alignErr m addr; (e.1, 0, e.2)
      else
        match regAt addr with
        | none => let e := s.decodeErr m addr; (e.1, 0, e.2)
        | some (b, r, i) =>
            if b.kind = .cnv ∧ r.off = 0x88 then let q := s.cnvLutRead b.inst; (0, q.1, q.2)
            else if b.kind = .mica ∧ r.off = 0x48 then let q := s.micaLutRead b.inst; (0, q.1, q.2)
            else
              match tableAt b r.off i addr with
              | some w => (0, s.regRead m addr r, s.tableRead w.1 w.2)
              | none => (0, s.regRead m addr r, s)

/-! ### Locked sequences (R515) -/

/-- The response reaches its master. -/
def answer (m : Nat) (x : BusResp) (s : State) : State :=
  s.updMgt fun g =>
    if m = 7 then { g with sp := { g.sp with answer := some x } } else { g with readBack := Assoc.put g.readBack m x }

/-- The address of a transaction under the present REMAP: one that waited completes at the target to which it was decoded, SRAM or
boot ROM, whatever REMAP has become (R516). -/
def issuedAt (op : BusOp) (s : State) : Nat :=
  if op.addr < 0x800000 ∧ op.remap ≠ s.flag Reg.BMX.CTRL_REMAP then Nat.xor op.addr 0x400000 else op.addr

/-- A transaction is carried out and answered; a write has the unlock that its master held when it was issued. -/
def perform (op : BusOp) (s : State) : State :=
  let addr := s.issuedAt op
  if op.write then
    let r := s.writeAt op.m addr op.size op.data op.unl
    r.2.answer op.m ⟨r.1, 0⟩
  else
    let r := s.readAt op.m addr op.size
    r.2.2.answer op.m ⟨r.1, BitVec.ofNat 32 r.2.1⟩

/-- A transaction refused LOCKERR. -/
def refuseLocked (op : BusOp) (s : State) : State :=
  let r := s.lockErr op.m op.addr
  r.2.answer op.m ⟨r.1, 0⟩

/-- BMX.OUT shows the transactions of a master that wait. -/
def showOut (m : Nat) (s : State) : State :=
  s.set (Reg.BMX.OUT m) (min 16 (s.mgt.stalled.filter fun x => x.m == m).length)

/-- The locked sequence of a master. -/
def lockOf (m : Nat) (s : State) : Option BusLock := s.mgt.locks.find? fun l => l.m == m

/-- A master's lock is released. -/
def unlockBus (m : Nat) (s : State) : State := s.updMgt fun g => { g with locks := g.locks.filter fun l => l.m != m }

/-- A transaction waits: its target is held by another master, an earlier one of its master waits at that target, or it is a locked
read and transactions of its master to other targets have not completed (R513, R515). -/
def mustWait (op : BusOp) (t : Option Nat) (s : State) : Bool :=
  s.mgt.locks.any fun _ =>
    (s.mgt.locks.any fun l => l.m != op.m && t == some l.target) ||
      s.mgt.stalled.any fun x => x.m == op.m && (op.lock || s.busTarget (s.issuedAt x) == t)

/-- A transaction is issued: it is refused while its master holds another target, waits, or is carried out; a locked read takes its
target, and the holder's write to it releases it. Locks of different masters hold different targets. The Boolean says that a target
was released. -/
def issue (op : BusOp) (s : State) : State × Bool :=
  let t := s.busTarget (s.issuedAt op)
  match s.lockOf op.m with
  | some l =>
      if t ≠ none ∧ t ≠ some l.target then (s.refuseLocked op, false)
      else
        let s := s.perform op
        if op.write ∧ t = some l.target then (s.unlockBus op.m, true) else (s, false)
  | none =>
      if s.mustWait op t then ((s.updMgt fun g => { g with stalled := g.stalled ++ [op] }).showOut op.m, false)
      else if op.lock ∧ (t = some 1 ∨ t = some 2) then (s.refuseLocked op, false)
      else
        let s := s.perform op
        match t with
        | some k =>
            (s.when op.lock (updMgt fun g => { g with locks := g.locks ++ [{ m := op.m, target := k, since := s.now }] }), false)
        | none => (s, false)

/-- Transactions that waited are issued again, oldest first. -/
def drainStalled : Nat → State → State
  | 0, s => s
  | n + 1, s =>
      match s.mgt.stalled with
      | [] => s
      | op :: rest => drainStalled n (((s.updMgt fun g => { g with stalled := rest }).showOut op.m).issue op).1

/-- What waited at a target runs when it is released. -/
def runStalled (s : State) : State :=
  let n := s.mgt.stalled.length
  s.drainStalled (n * n + n)

/-- A transaction of a master. -/
def busOp (op : BusOp) (s : State) : State :=
  let r := s.issue op
  if r.2 then r.1.runStalled else r.1

/-- A write of 32 bits, or of another size, by a master: it consumes the master's unlock when it is issued, whatever becomes of
it, also where it waits at a locked target (R50); the loader needs none (R53). -/
def busWrite (m addr size : Nat) (data : Word) (s : State) : State :=
  (s.disarm m).busOp { m := m, write := true, lock := false, addr := addr, size := size, data := data,
                       unl := m == 6 || s.armed m, remap := s.flag Reg.BMX.CTRL_REMAP }

/-- A read by a master. -/
def busRead (m addr size : Nat) (lock : Bool) (s : State) : State :=
  s.busOp { m := m, write := false, lock := lock, addr := addr, size := size, data := 0, unl := false,
            remap := s.flag Reg.BMX.CTRL_REMAP }

/-- A register write that has a command of its own: it is issued, and takes effect in its block. -/
def writeNow (m addr : Nat) (data : Word) (s : State) : State :=
  match Blk.ofAddr addr with
  | some (b, _) => (s.busWrite m addr 4 data).landAll b
  | none => s.busWrite m addr 4 data

/-- A write of the CTRL of a block page. -/
def ctrlWrite (m blk : Nat) (data : Word) (s : State) : State :=
  match Blk.ofBase blk with
  | some _ => s.writeNow m blk data
  | none => s

/-- A lock that has held its target for 64 cycles: the matrix releases it (R515). -/
def lockForced (s : State) : State :=
  match s.mgt.locks.find? fun l => decide (l.since + 128 ≤ s.now) with
  | some l => (((s.unlockBus l.m).bump Reg.BMX.CNT_FORCED 1).raise 38 [l.m, l.target]).runStalled
  | none => s

/-! ### The copy of a DMA engine (R517) -/

/-- A word from a DMA address: response code and word. -/
def dmaGet (a : Nat) (s : State) : Nat × Nat × State :=
  if bit a 39 then s.dramGet 5 (a % 2 ^ 36) (a % 2 ^ 32) 4 else s.readAt 5 (a % 2 ^ 32) 4

/-- A word to a DMA address: a write of master 5, which consumes its unlock (R50). -/
def dmaPut (a v : Nat) (s : State) : Nat × State :=
  let unl := s.armed 5
  let s := s.disarm 5
  if bit a 39 then s.dramPut 5 (a % 2 ^ 36) (a % 2 ^ 32) (leBytes 4 v)
  else s.writeAt 5 (a % 2 ^ 32) 4 (BitVec.ofNat 32 v) unl

/-- Words are copied until the first response other than OK. -/
def dmaCopy : Nat → Nat → Nat → State → Nat × State
  | 0, _, _, s => (0, s)
  | n + 1, src, dst, s =>
      match s.dmaGet src with
      | (0, v, s) =>
          match s.dmaPut dst v with
          | (0, s) => dmaCopy n (src + 4) (dst + 4) s
          | e => e
      | (e, _, s) => (e, s)

/-- An engine completes its copy, which is made whole here; it waits while a master holds a target. -/
def dmaDone (k : Nat) (s : State) : State :=
  if 2 ≤ k ∨ !s.flag (Reg.MGT.DMA_STAT_BUSY k) ∨ !s.mgt.locks.isEmpty then s
  else
    let r := s.dmaCopy (s.get (Reg.MGT.DMA_LEN k) / 4) (s.dmaSrc k) (s.dmaDst k)
    r.2.dmaEnd k r.1

end State

/-- REGISTER_WRITE (R40) by master `m` of a word, or of another size, at an address. -/
def execRegisterWrite (m addr size : Nat) (data : Word) (s : State) : Host.Outcome State Fault Refusal :=
  .next (s.busWrite m addr size data)

/-- DOMAIN_WRITE_EFFECT (R22): the oldest write that waits for the block of a page base takes effect. -/
def execDomainWriteEffect (blk : Nat) (s : State) : Host.Outcome State Fault Refusal :=
  .next (match Blk.ofBase blk with | some b => s.landOldest b | none => s)

/-- UNLOCK (R50). -/
def execUnlock (m : Nat) (data : Word) (s : State) : Host.Outcome State Fault Refusal :=
  .next (s.busWrite m Reg.MGT.UNLOCK_KEY0.addr 4 data)

/-- BLOCK_SOFT_RESET (R60, R620): a write of CTRL. -/
def execBlockSoftReset (m blk : Nat) (data : Word) (s : State) : Host.Outcome State Fault Refusal :=
  .next (s.ctrlWrite m blk data)

/-- BLOCK_ENABLE (R45): a write of CTRL. -/
def execBlockEnable (m blk : Nat) (data : Word) (s : State) : Host.Outcome State Fault Refusal :=
  .next (s.ctrlWrite m blk data)

/-- BLOCK_DISABLE (R46): a write of CTRL. -/
def execBlockDisable (m blk : Nat) (data : Word) (s : State) : Host.Outcome State Fault Refusal :=
  .next (s.ctrlWrite m blk data)

/-- BLOCK_STOP_DONE (R46, R47) of the block of a page base. -/
def execBlockStopDone (blk : Nat) (s : State) : Host.Outcome State Fault Refusal :=
  .next (match Blk.ofBase blk with | some b => s.stopDone b | none => s)

/-- LOCKED_READ (R515) by master `m`. -/
def execLockedRead (m addr : Nat) (s : State) : Host.Outcome State Fault Refusal := .next (s.busRead m addr 4 true)

/-- BMX_FORCED (R515). -/
def execBmxForced (s : State) : Host.Outcome State Fault Refusal := .next s.lockForced

/-- DMA_DONE (R517) of engine `k`. -/
def execDmaDone (k : Nat) (s : State) : Host.Outcome State Fault Refusal := .next (s.dmaDone k)

end Sys2Proof.Machine
end

