-- ==== Sys2Proof/Machine/Load.lean ====
section
/-! DEFINITION. Chapter 22, the start: what the resets leave (R60), the boot, the choice of an image (R535–R537, R547, R548),
the loader's records (R538–R546), and the steps of the start up to in service (R533, R534, R549). -/

namespace Sys2Proof.Machine

/-- What a step of the loader comes to: it is done, it waits, it rejects the image with a reason and a creation result, or the
start ends there. -/
inductive LoadOut where
  | go (s : State)
  | wait (w : LoadWait) (s : State)
  | reject (reason result : Nat) (s : State)
  | halt (s : State)

namespace State

/-- Change the loader. -/
def updLoad (f : LoadState → LoadState) (s : State) : State := { s with load := f s.load }

/-! ### Resets (R60) -/

/-- The table epoch of a start: it differs from the one before (R98). -/
def drawEpoch (old : Nat) (s : State) : State :=
  let q := s.fresh
  q.2.set Reg.CHN.EPOCH (old + 1 + q.1 % (2 ^ 32 - 1))

/-- What the pins show is kept: presence, seal loop and supplies. -/
def keepPins (old : State) (s : State) : State :=
  let keep := fun r : FRef => set r (old.get r)
  keep Reg.TWIN.SUPSTAT_SUPA_OK (keep Reg.TWIN.SUPSTAT_SUPB_OK (keep Reg.KEY.STAT_PRES (keep Reg.KEY.STAT_SEAL s)))

/-- A register of the history queue of FLT (R498). -/
def isHistory (a : Nat) : Bool := (decide (0x11000200 ≤ a) && decide (a < 0x11000400)) || a == 0x1100001C

/-- PRE is set in every valid entry of the history. -/
def markHistory (s : State) : State :=
  s.each (List.range 16) fun k t => if t.flag (Reg.FLT.HIST_VALID k) then t.set (Reg.FLT.HIST_PRE k) 1 else t

/-- The reset of the whole chip: everything returns to its reset value. Fuses and flash are outside it. -/
def resetAll (s : State) : State :=
  let r := State.reset
  let r := { r with pending := s.pending, freeCtr := s.freeCtr, out := s.out, flash := s.flash, fuses := s.fuses }
  let r := { r with scan := { r.scan with hpd := s.scan.hpd }, key := { r.key with released := s.key.released, pressed := s.key.pressed, tap := s.key.tap } }
  (s.keepPins r).drawEpoch (s.get Reg.CHN.EPOCH)

/-- A power-on reset. -/
def resetCold (s : State) : State :=
  (s.resetAll).updKey fun k => { k with released := k.released.map fun _ => 0, pressed := k.pressed.map fun _ => 0 }

/-- A warm restart: the cause, the history queue and STAT.LOSS are kept (R60, R498), and so are what the DRAM holds, what
R590 keeps of sessions, and the target of VDD_CORE (R603). -/
def resetWarm (cause : Nat) (s : State) : State :=
  let s := s.closeSessions
  let t := s.resetAll
  let t := { t with now := s.now, dram := { t.dram with mem := s.dram.mem, inverted := s.dram.inverted,
                                                        trainedCfg := s.dram.trainedCfg },
                    mgt := { t.mgt with wdLast := s.now }, avs := { t.avs with target := s.avs.target } }
  let t := t.updJrp fun j => { j with kept := s.jrp.kept }
  let t := t.each (s.regs.filter fun p => isHistory p.1) fun p u => u.wr p.1 p.2
  (((t.set Reg.FLT.STAT_LOSS (s.get Reg.FLT.STAT_LOSS)).set Reg.MGT.RSTCAUSE cause).markHistory)

/-! ### Steps and measurements -/

/-- The end of a step: its time, and the step after it (R533). -/
def endStep (k : Nat) (s : State) : State :=
  let s := s.set (Reg.CFG.STEPTIME k) (s.now / 1000000)
  if k < 9 then s.set Reg.CFG.STAT_STEP (k + 1) else s

/-- A 48-byte number in twelve registers, word 0 first. -/
def putHash (r : Nat → FRef) (v : Nat) (s : State) : State :=
  s.each (List.range 12) fun j t => t.set (r j) (v / 2 ^ (32 * (11 - j)))

/-- Firmware and image are measured, and the operational keys derived from the device secret (R533, R540, R561); a chip without its
identity starts without them (R560). -/
def measure (slot : Nat) (s : State) : State :=
  let nats := fun l : List Byte => l.map fun (x : Byte) => x.toNat
  let b := (s.cfgSlot slot).bytes
  let fw := match s.hdrInForce with
    | some h => ((s.fwSlot h.fwSlot).bytes.map fun p => [p.1, p.2.toNat]).flatten
    | none => []
  let mf := Config.sha384 fw
  let mc := Config.sha384 (nats (slotBytes b 0 (imgLength b)))
  let s := ((s.putHash Reg.CFG.MEASFW mf).putHash Reg.CFG.MEASCFG mc).putHash Reg.CFG.MEASPAIR (Config.sha384 (nats (imgPair b)))
  s.updKey fun k =>
    { k with ops := if s.flag Reg.KEY.STAT_NOID then none
                    else some (Config.kdf Config.uds "JRP" [mf, mc], Config.kdf Config.uds "TWIN" [mf, mc]) }

/-! ### Identity (R556, R560) -/

/-- At the first start in MFG a key pair is made; a start with the pair lost has no identity. -/
def startIdentity (s : State) : State :=
  let s := (s.set Reg.KEY.STAT_LCSTATE s.lcAtStart).tapJudge
  let s := match lcRecord s.flash with | some (r, _) => s.set Reg.KEY.LCSEQ r.seq | none => s
  let s :=
    if s.lcState = 0 ∧ !s.fuses.idgen then
      let q := s.fresh
      (q.2.updFlash fun f => { f with blob := { f.blob with first := .good (some (Config.crypto [560, q.1])) } }).blow
        (fun f => { f with idgen := true }) 2
    else s
  let s := match s.flash.blob.first with
    | .good (some pub) =>
        let l := beBytes 96 pub
        let id := Config.sha384 (l.map fun (x : Byte) => x.toNat) / 2 ^ 320
        ((s.each (List.range 24) fun j t => t.set (Reg.KEY.IDPUB j) (leNat ((l.drop (4 * j)).take 4))).set64 Reg.KEY.DEVIDLO
          Reg.KEY.DEVIDHI id).set Reg.KEY.STAT_NOID 0
    | _ => s.setB Reg.KEY.STAT_NOID s.fuses.idgen
  (s.each s.flash.blob.cert.zipIdx fun p t => t.wr (Reg.KEY.CERT p.2).addr p.1).showKey

/-! ### What a record may not touch (R542) -/

/-- An address that no record writes, modifies or polls; the one exception is MODE of TIME.CTRL, by its mask. -/
def forbidden (addr : Nat) (mask : Option Nat) (s : State) : Bool :=
  match s.place addr with
  | .sram _ | .rom _ | .window _ => true
  | .nowhere => false
  | .block b =>
      (match b.kind with | .cfg | .key | .upd | .bmx => true | _ => false) ||
        addr / 4 == Reg.MGT.UNLOCK_KEY0.addr / 4 || addr / 4 == Reg.MGT.WDSVC.addr / 4 ||
        (addr / 4 * 4 == b.base && !(b.kind == .time && mask == some 0x10)) ||
        (decide (0x15000100 ≤ addr) && decide (addr < 0x15000130)) || (decide (0x14000050 ≤ addr) && decide (addr < 0x14000074))

/-- A word of an engine's inactive bank or next set, by the number of its engine in `loaded`. -/
def loadsEngine (addr : Nat) : Option Nat :=
  match regAt addr with
  | some (b, r, _) =>
      if b.kind = .cnv ∧ (r.off = 0x30 ∨ (0x40 ≤ r.off ∧ r.off < 0x7C)) then some b.inst
      else if b.kind = .mica ∧ (r.off = 0x1C ∨ (0x1000 ≤ r.off ∧ r.off < 0x2000)) then some (32 + b.inst)
      else none
  | none => none

/-- An engine is among those that step 7 swaps or commits. -/
def addLoaded (e : Option Nat) (s : State) : State :=
  match e with
  | some k => s.updLoad fun l => { l with loaded := if l.loaded.contains k then l.loaded else l.loaded ++ [k] }
  | none => s

/-- A write of the loader: master 6, which needs no unlock (R53). One answered with an error, and one that is ignored, reject
the image (R3, R49, R542). -/
def loadWrite (addr data : Nat) (s : State) : LoadOut :=
  let role : Bool := match regAt addr with
    | some (b, r, _) => b.kind == .lane && r.off == 0x10 && s.cfgInvalid b.inst data
    | none => false
  match (s.updLoad fun l => { l with ignored := false }).writeAt 6 addr 4 (BitVec.ofNat 32 data) true with
  | (0, s) =>
      let s := match Blk.ofAddr addr with | some (b, _) => s.landAll b | none => s
      if !s.load.ignored then .go (s.addLoaded (loadsEngine addr))
      else .reject (if role then 12 else 11) 0 s
  | (_, s) => .reject 10 0 s

/-! ### Records by their ordinals (R541, R549) -/

/-- An ordinal of a channel created before: its handle, or none where it was skipped. -/
def ordinal (k : Nat) (s : State) : Option (Option Nat) := s.load.ordinals[k]?

/-- An ordinal names a skipped creation. -/
def ordSkipped (k : Nat) (s : State) : Bool := s.ordinal k == some none

/-- The handle of an ordinal, 0 where there is none. -/
def ordHandle (k : Nat) (s : State) : Nat := ((s.ordinal k).getD none).getD 0

/-- A creation ends with its result. -/
def created (s : State) : LoadOut :=
  let code := s.get Reg.CHN.RESULT_CODE
  if code = 0 then .go (s.updLoad fun l => { l with ordinals := l.ordinals ++ [some (s.get Reg.CHN.RESHANDLE)] })
  else if code = 9 ∧ s.load.noDram then
    .go (((s.updLoad fun l => { l with ordinals := l.ordinals ++ [none] }).bump Reg.CFG.COUNTS_SKIPS 1).raise 102 [s.load.ordinals.length])
  else .reject 14 code s

/-- CREATE: eight words to the request mailbox; a creation that waits is waited for. -/
def loadCreate (args : List Nat) (s : State) : LoadOut :=
  if s.load.wait = .creation then (if s.flag Reg.CHN.STAT_REQBUSY then .wait .creation s else s.created)
  else
    let s := (s.putArgs Reg.CHN.REQARG args).reqCmdLand 6 1
    if s.flag Reg.CHN.STAT_REQBUSY then .wait .creation s else s.created

/-- The arguments of an APPEND with ordinals replaced by handles; none where it is refused BADREC. -/
def appendArgs (l : List Nat) (s : State) : Option (List Nat) :=
  let type := bits (l.getD 1 0) 30 28
  if type = 3 ∨ !s.ownSys (l.getD 2 0 % 2 ^ 18) ∨ s.ordinal (l.getD 0 0) = none ∨ (type ≠ 1 ∧ s.ordinal (l.getD 3 0) = none) then none
  else some [s.ordHandle (l.getD 0 0), l.getD 1 0, l.getD 2 0, if type = 1 then l.getD 3 0 else s.ordHandle (l.getD 3 0)]

/-- An APPEND names a skipped ordinal. -/
def appendSkipped (l : List Nat) (s : State) : Bool :=
  s.ordSkipped (l.getD 0 0) || (bits (l.getD 1 0) 30 28 != 1 && s.ordSkipped (l.getD 3 0))

/-- The appends of a record, in order; a result other than OK rejects the image as a creation's does. -/
def loadAppends : List (List Nat) → State → LoadOut
  | [], s => .go s
  | l :: ls, s =>
      match s.appendArgs l with
      | none => .reject 6 0 s
      | some a =>
          let s := (s.putArgs Reg.CHN.REQARG a).reqCmdLand 6 3
          let code := s.get Reg.CHN.RESULT_CODE
          if code = 0 then loadAppends ls s else .reject 14 code s

/-- The pairs of a ROUTE record, judged by R120 steps 2 to 5 (R543). -/
def loadRoutes : List (Nat × Nat) → State → LoadOut
  | [], s => .go s
  | (o, x) :: l, s =>
      let out := s.ordHandle o
      let src := if x = 0xFFFF then 0 else s.ordHandle x
      let code := s.judgeTake out src (s.get Reg.CHN.EPOCH) 0 (x == 0xFFFF)
      if code = 0 ∨ code = 22 ∨ code = 23 then
        loadRoutes l (s.updLoad fun y => { y with routes := Assoc.put y.routes (handleIdx out) src })
      else .reject 15 0 s

/-- A ROUTE pair names a skipped ordinal. -/
def routeSkipped (p : Nat × Nat) (s : State) : Bool := s.ordSkipped p.1 || (p.2 != 0xFFFF && s.ordSkipped p.2)

/-- Values go into a table of the engine that an ordinal names (R545). -/
def loadLut (k lutsel first : Nat) (values : List Nat) (s : State) : LoadOut :=
  match s.ordinal k with
  | none => .reject 6 0 s
  | some none => .go s
  | some (some h) =>
      match s.chan (handleIdx h) with
      | some c =>
          if c.kind = 7 then
            .go ((s.cnvLoad c.unit lutsel first values).addLoaded (some c.unit))
          else if c.kind = 8 then
            let s := ((s.set (Reg.MICA.LUTSEL c.unit) lutsel).set (Reg.MICA.LUTADDR c.unit) first).updMica c.unit fun x => { x with lutPast := false }
            .go ((s.each values fun v t => t.micaLutWrite c.unit (BitVec.ofNat 32 v)).addLoaded (some (32 + c.unit)))
          else .reject 6 0 s
      | none => .reject 6 0 s

/-- A BLOB goes into the graphics area (R428, R542); it is skipped without DRAM. -/
def loadBlob (addr : Nat) (bytes : List Byte) (s : State) : LoadOut :=
  let lo := s.use Reg.DRCC.GFXBASE * 1048576
  let a := addr % 2 ^ 36
  if s.load.noDram then .go s
  else if s.dramUp ∧ lo ≤ a ∧ a + bytes.length ≤ lo + s.use Reg.DRCC.GFXSIZE * 1048576 then .go (s.dramWrite a bytes)
  else .reject 6 0 s

/-! ### Settings (R544) -/

/-- A setting of network time, by its key; none for an unknown key. A value outside the range of R398 and R399 leaves the setting. -/
def ptpParam (key : Nat) (v : Int) (c : PtpCfg) : Option PtpCfg :=
  let n := v.toNat
  let mask := fun base : Nat => (List.range 32).filterMap fun i => if bit (ofSigned 32 v) i then some (base + i) else none
  let within := fun (lo hi : Int) (d : PtpCfg) => some (if lo ≤ v ∧ v ≤ hi then d else c)
  match key with
  | 0x2000 => some { c with leader := decide (v ≠ 0) }
  | 0x2001 => within 0 127 { c with domain := n }
  | 0x2002 => within (-7) (-1) { c with logSync := v }
  | 0x2003 => within (-3) 1 { c with logAnnounce := v }
  | 0x2004 => within (-7) 0 { c with logDelayReq := v }
  | 0x2005 => within 2 10 { c with receiptTimeout := n }
  | 0x2006 => within 0 255 { c with priority1 := n }
  | 0x2007 => within 0 255 { c with priority2 := n }
  | 0x2008 => some { c with hybrid := decide (v ≠ 0) }
  | 0x2009 => some { c with ports := (c.ports.filter fun p => decide (32 ≤ p)) ++ mask 0 }
  | 0x200A => some { c with ports := (c.ports.filter fun p => decide (p < 32)) ++ mask 32 }
  | 0x200B => within 1000 1000000000 { c with stepLimitNs := n }
  | 0x200C => within 1 500000 { c with slewMaxPpb := n }
  | 0x2010 => some { c with alarmNs := n }
  | _ => none

/-- A peer of JRP as its entry holds it (R579): address, mode, rights, public key. -/
def jrpPeer (i : Nat) (l : List Byte) : JrpPeer :=
  { index := i, addr := leNat (l.take 4), mode := leNat ((l.drop 4).take 1), rights := leNat ((l.drop 8).take 4),
    key := leNat ((l.drop 12).take 96) }

/-- An entry of PARAM: an unknown key and a wrong length are refused BADREC. -/
def loadParam (key : Nat) (value : List Byte) (s : State) : LoadOut :=
  let four := value.length == 4
  if key < 0x1000 then
    if four ∧ key < 264 ∧ key % 4 ≠ 3 then .go (s.updJrp fun j => { j with ips := Assoc.put j.ips key (leNat value) })
    else .reject 6 0 s
  else if key = 0x1000 then
    if four then .go (s.updJrp fun j => { j with udp := leNat value % 65536 }) else .reject 6 0 s
  else if 0x1100 ≤ key ∧ key < 0x1140 then
    let x := jrpPeer (key - 0x1100) value
    if value.length = (if x.mode = 0 then 12 else 108) ∧ x.mode ≤ 1 then
      .go (s.updJrp fun j => { j with peers := (j.peers.filter fun p => p.index != x.index) ++ [x] })
    else .reject 6 0 s
  else if key < 0x2000 then .reject 6 0 s
  else
    match ptpParam key (toSigned 32 (leNat value)) s.time.ptp.cfg with
    | some c => if four then .go (s.updPtp fun p => { p with cfg := c, since := s.now }) else .reject 6 0 s
    | none => .reject 6 0 s

/-- A page of ENABLE (R542): BADREC for any but the listed blocks. -/
def loadEnable (page : Nat) (s : State) : LoadOut :=
  match Blk.ofBase page with
  | some b =>
      match b.kind with
      | .lane | .quad | .drcc | .lode | .gbus | .sdi | .eth | .ipm | .aud | .aprt | .scan | .twin =>
          let s := s.updLoad fun l => { l with pages := if l.pages.contains page then l.pages else l.pages ++ [page] }
          .go (s.when (b.kind == .twin) (updChn fun c => { c with twinListed := true }))
      | _ => .reject 6 0 s
  | none => .reject 6 0 s

/-- UNIT (R540): CLAIM and OWNSLOT. -/
def loadUnit (w : Nat) (s : State) : LoadOut :=
  if w / 2 ^ 14 ≠ 0 then .reject 6 0 s
  else .go ((s.set Reg.TWIN.CLAIM (bits w 7 0)).set Reg.GBUS.CFG_OWNSLOT (bits w 13 8))

/-! ### Enabling (R533, R353) -/

/-- What waited for the receive clocks of a quad's lanes takes effect once the quad runs (R23). -/
def landQuad (q : Nat) (s : State) : State :=
  let s := s.each (List.range 4) fun k t => (t.landAll ⟨.lane, 4 * q + k⟩).landAll ⟨.sdi, 4 * q + k⟩
  s.each ((List.range 64).filter fun p => s.use (Reg.ETH.CFG_LANE p) / 4 == q) fun p t => t.landAll ⟨.eth, p⟩

/-- EN of a block is set. -/
def enable (b : Blk) (s : State) : State :=
  if s.flag b.en then s else ((s.set b.en 1).raiseEn b (s.rwdWords b)).when (b.kind == .quad) (landQuad b.inst)

/-- The pages of ENABLE that name a block of a kind. -/
def listed (k : BlkKind) (s : State) : List Blk :=
  s.load.pages.filterMap fun p => match Blk.ofBase p with | some b => if b.kind = k then some b else none | none => none

/-- Every listed instance of some blocks is enabled, kind by kind. -/
def enableListed (ks : List BlkKind) (s : State) : State := s.each ks fun k t => t.each (t.listed k) enable

/-- An E-port of ENABLE with a group or an FEC that R358 does not allow, or whose lanes are not all E-mode lanes of its rate on one
PLL (R359); a control port of ENABLE that R379 does not allow. -/
def ethPortInvalid (p : Nat) (s : State) : Bool :=
  let t := s.get (Reg.ETH.CFG_PTYPE p)
  let fec := s.get (Reg.ETH.CFG_FEC p)
  if isCtl p then !(t == 4 || t == 5) || fec != 0 || decide (2 ≤ s.get (Reg.ETH.CFG_OBEY p))
  else
    let a := s.get (Reg.ETH.CFG_LANE p)
    let n := match t with | 2 => 2 | 3 => 4 | _ => 1
    decide (4 ≤ t) || a % n != 0 || decide (256 < a + n) ||
      !((match t with | 0 => [0, 1] | 1 => [0, 1, 2] | _ => [0, 2]).contains fec) ||
      (List.range n).any fun k =>
        s.cfgRxMode (a + k) != 2 || s.cfgTxMode (a + k) != 2 || s.get (Reg.LANE.CFG_ERATE (a + k)) != min t 1 ||
          s.get (Reg.LANE.CFG_TXPLL (a + k)) != s.get (Reg.LANE.CFG_TXPLL a)

/-- The image is invalid by its Ethernet ports (R359, R379): one of them is, or an E-mode lane belongs to none of them or to two. -/
def ethInvalid (s : State) : Bool :=
  let ps := (s.listed .eth).map fun b => b.inst
  let lanesOf := fun p : Nat =>
    if isCtl p then [] else (List.range (match s.get (Reg.ETH.CFG_PTYPE p) with | 2 => 2 | 3 => 4 | _ => 1)).map fun k => s.get (Reg.ETH.CFG_LANE p) + k
  ps.any (fun p => s.ethPortInvalid p) ||
    (List.range 256).any fun n => s.cfgRxMode n == 2 && (ps.filter fun p => (lanesOf p).contains n).length != 1

/-- The PLLs of enabled quads with an E, F or T family that do not report lock (R353). -/
def pllsOpen (s : State) : List (Nat × Nat) :=
  ((s.listed .quad).map fun b => [0, 1].filterMap fun p =>
    if 8 ≤ s.get (pllFamilyF b.inst p) ∧ s.get (pllFamilyF b.inst p) ≤ 10 ∧ s.pllFamilies b.inst p none ≠ [] ∧ !s.flag (pllLockF b.inst p)
    then some (b.inst, p) else none).flatten

/-- The lanes of step 4 are enabled. -/
def enableLanes (s : State) : State := (s.enableListed [.lane]).endStep 4

/-! ### The steps -/

/-- Every pending record is entered. -/
def enterPending (s : State) : State := s.enterAll s.flt.pend.length

/-- The start ends for good: the step shown, and a source with reaction STOP (R548, R549). -/
def stopStart (step src : Nat) (items : List Nat) (s : State) : State :=
  (((((s.set Reg.CFG.STAT_STEP step).enable ⟨.flt, 0⟩).set (Reg.FLT.SRC_REACT src) 5).raise src items).enterPending).updLoad fun l =>
    { l with on := false, todo := [] }

/-- Step 5: the DRAM trains if listed; a failure halts the start, or leaves it degraded (R549). -/
def stepDram (s : State) : LoadOut :=
  let s := s.when (s.load.wait != .dram) (enableListed [.drcc])
  if (s.listed .drcc).isEmpty ∨ s.flag Reg.DRCC.STAT_TRAINED then .go (s.endStep 5)
  else if s.dramTraining then .wait .dram s
  else if s.flag Reg.CFG.DEVICE_DRAMREQ then .halt ((s.endStep 5).stopStart 11 100 [])
  else .go ((((s.updLoad fun l => { l with noDram := true }).set Reg.CFG.STAT_DEGRADED 1).raise 101 []).endStep 5)

/-- An engine that a live channel holds. -/
def engineLive (kind unit : Nat) (s : State) : Bool :=
  s.chn.chans.any fun p => p.2.live && p.2.kind == kind && p.2.unit == unit

/-- Step 7: SWAP to every converter loaded, COMMIT to every mica engine loaded. -/
def stepCommit (s : State) : State :=
  s.each s.load.loaded fun k t =>
    if k < 32 then t.when (t.engineLive 7 k) (cnvSwapLand k 1) else t.when (t.engineLive 8 (k - 32)) (micaCommitLand (k - 32) 1)

/-- Step 8: lodestone lock, for LOCKWAIT ms at most; 0 is no wait (R534). -/
def stepLock (s : State) : LoadOut :=
  if s.get Reg.CFG.LOCKWAIT = 0 ∨ s.lodeLocked then .go (s.endStep 8) else .wait .lock s

/-- Step 9: routes with epoch 0 and no completion (R543), the fabric, and the twin; the chip is in service (R534). -/
def stepService (s : State) : State :=
  let s := s.each s.load.routes fun p t => (t.set (Reg.FAB.RT_CUR p.1) p.2).repoint (t.outEgr p.1) p.2
  let s := s.enable ⟨.fab, 0⟩
  let s := s.when (!s.load.noDram) (enableListed [.twin])
  (s.startAlive.raise 104 [s.load.slot]).endStep 9

/-- A step of the start. The Ethernet ports are judged after stage A, and again after stage B, whose records may write LANE.CFG. -/
def loadStep (k : Nat) (s : State) : LoadOut :=
  match k with
  | 3 => if s.ethInvalid then .reject 12 0 s else .go (((((s.enable ⟨.flt, 0⟩).enable ⟨.time, 0⟩).enable ⟨.chn, 0⟩).enable ⟨.prov, 0⟩).endStep 3)
  | 4 =>
      let s := s.when (s.load.wait != .plls) fun t => (t.enableListed [.quad]).updLoad fun l => { l with since := s.now }
      if s.pllsOpen.isEmpty then .go s.enableLanes else .wait .plls s
  | 5 => s.stepDram
  | 6 =>
      let s := (s.enableListed [.lode, .gbus, .sdi, .eth, .ipm, .aud, .aprt, .scan]).endStep 6
      .go (s.updLoad fun l => { l with since := s.now })
  | 7 => if s.ethInvalid then .reject 12 0 s else .go (s.stepCommit.endStep 7)
  | 8 => s.stepLock
  | _ => .go s.stepService

/-- POLL: the register is read until it matches, or its time is over. -/
def loadPoll (addr mask value timeout : Nat) (s : State) : LoadOut :=
  match s.readAt 6 addr 4 with
  | (0, v, s) =>
      if Nat.land v mask = value then .go s
      else
        match s.load.wait with
        | .poll t => if t ≤ s.now then .reject 13 0 s else .wait (.poll t) s
        | _ => if timeout = 0 then .reject 13 0 s else .wait (.poll (s.now + timeout * 1000)) s
  | (_, _, s) => .reject 10 0 s

/-- One entry of a record, or one step. -/
def loadOp (op : LoadOp) (s : State) : LoadOut :=
  match op with
  | .device role dramreq lockwait =>
      .go ((((s.updLoad fun l => { l with role := role }).set Reg.CFG.DEVICE_ROLE role).set Reg.CFG.DEVICE_DRAMREQ dramreq).set Reg.CFG.LOCKWAIT lockwait)
  | .write addr data => if s.forbidden addr none then .reject 9 0 s else s.loadWrite addr data
  | .modify addr mask value =>
      if s.forbidden addr (some mask) then .reject 9 0 s
      else
        match s.readAt 6 addr 4 with
        | (0, v, s) => s.loadWrite addr (Nat.lor (Nat.land v (Nat.xor mask 0xFFFFFFFF)) (Nat.land value mask))
        | (_, _, s) => .reject 10 0 s
  | .poll addr mask value timeout => if s.forbidden addr none then .reject 9 0 s else s.loadPoll addr mask value timeout
  | .delay ns =>
      match s.load.wait with
      | .until_ t => if t ≤ s.now then .go s else .wait (.until_ t) s
      | _ => if ns = 0 then .go s else .wait (.until_ (s.now + ns)) s
  | .route pairs => if pairs.any fun p => s.routeSkipped p then .go s else loadRoutes pairs s
  | .create args => s.loadCreate args
  | .append entries => if entries.any fun l => s.appendSkipped l then .go s else loadAppends entries s
  | .lut k lutsel first values => s.loadLut k lutsel first values
  | .blob addr bytes => s.loadBlob addr bytes
  | .param key value => s.loadParam key value
  | .enable page => s.loadEnable page
  | .unit w => s.loadUnit w
  | .nop => .go (s.bump Reg.CFG.COUNTS_NOPS 1)
  | .recordEnd => .go (s.bump Reg.CFG.RECS 1)
  | .endRecord => if s.load.readErr then .reject 5 0 s else .go (s.bump Reg.CFG.RECS 1)
  | .step k => s.loadStep k
  | .bad => .reject 6 0 s

/-- The rejection registers. -/
def putReject (slot reason result record : Nat) (s : State) : State :=
  ((((s.set Reg.CFG.REJECT_VALID 1).set Reg.CFG.REJECT_SLOT slot).set Reg.CFG.REJECT_REASON reason).set Reg.CFG.REJECT_RESULT result).set
    Reg.CFG.REJREC record

/-- An image fails while it is applied: its reject mark, and IMG_REJECTED (R547). -/
def rejectApplied (record reason result : Nat) (s : State) : State :=
  let slot := s.load.slot
  let seq := imgSeq (s.cfgSlot slot).bytes
  (((s.journalAdd 3 slot 1 seq reason result record).putReject slot reason result record).raise 97 [slot, reason]).updLoad fun l =>
    { l with on := false, todo := [] }

/-- The loader goes on until it waits or is done; the Boolean says that it rejected the image. -/
def runOps : List (Nat × LoadOp) → State → State × Bool
  | [], s => (s.updLoad fun l => { l with on := false, todo := [], wait := .run }, false)
  | (k, op) :: l, s =>
      match s.loadOp op with
      | .go t => runOps l (t.updLoad fun x => { x with wait := .run })
      | .wait w t => (t.updLoad fun x => { x with wait := w, todo := (k, op) :: l }, false)
      | .reject reason result t => (t.rejectApplied k reason result, true)
      | .halt t => (t, false)

/-! ### The start (R533) -/

/-- The reject mark of a slot's image in the journal (R535). -/
def markOf (slot : Nat) (s : State) : Option JEntry :=
  (s.flash.journal.filter fun e => e.type == 3 && e.sector == slot && e.ref == imgSeq (s.cfgSlot slot).bytes).getLast?

/-- The release of the running firmware. -/
def release (s : State) : Nat := match s.upd.running with | some b => b.release | none => 0

/-- A slot is tried: skipped when it is marked, rejected when a check fails (R535, R536). -/
def trySlot (slot : Nat) (s : State) : Bool × State :=
  match s.markOf slot with
  | some e =>
      (false, if s.get Reg.MGT.RSTCAUSE = 4 then s.putReject slot e.reason e.result e.record else s.putReject slot 16 0 0)
  | none =>
      let c := s.imgCheck slot s.release
      if c.1 = 0 then (true, s) else (false, (s.putReject slot c.1 0 c.2).raise 97 [slot, c.1])

/-- The image is chosen: the preferred slot, or the other one (R535, R547); none when both are rejected. -/
def chooseImage (s : State) : Option Nat × State :=
  let pref := match s.hdrInForce with | some h => h.cfgPref % 2 | none => 0
  match s.trySlot pref with
  | (true, s) => (some pref, s)
  | (false, s) =>
      match s.trySlot (1 - pref) with
      | (true, s) => (some (1 - pref), (s.set Reg.CFG.STAT_FALLBACK 1).raise 98 [1 - pref])
      | (false, s) => (none, s)

/-- Step 2 and what follows: the image is chosen, measured and applied. -/
def applyImage (env : StartEnv) (s : State) : State × Bool :=
  match s.chooseImage with
  | (none, s) => (s.stopStart 10 99 [], false)
  | (some slot, s) =>
      let b := (s.cfgSlot slot).bytes
      let s := (((s.measure slot).set Reg.CFG.IMGSEQ (imgSeq b)).set Reg.CFG.STAT_SLOT slot).endStep 2
      runOps (imgProgram b) (s.updLoad fun l => { l with on := true, slot := slot, readErr := env.readErr == some slot })

/-- The record of the cause of a warm restart is entered before any other (R487, R498). -/
def causeRecord (s : State) : State :=
  match s.get Reg.MGT.RSTCAUSE with
  | 1 => (s.raise 10 []).enterNext ⟨false, false, false, false, false⟩
  | 2 => (s.raise 9 []).enterNext ⟨false, false, false, false, false⟩
  | _ => s

/-- The start from the boot ROM on, over a chip just reset; the Boolean says that the image was rejected while it was
applied. -/
def boot (env : StartEnv) (s : State) : State × Bool :=
  let s := s.causeRecord
  let s := match env.selftest with | some k => s.raise 8 [k] | none => s
  let s := s.startIdentity.bootHdr
  if s.upd.dead then (s, false)
  else
    let s := ((((s.endStep 0).set Reg.BMX.CTRL_REMAP 1).enable ⟨.key, 0⟩).enable ⟨.upd, 0⟩).endStep 1
    (match env.repairErr with | some a => s.repairFlash.raise 117 [a] | none => s.repairFlash).applyImage env

/-- A start, and the warm restarts with RSTCAUSE 4 that rejections lead to (R547): each marks a slot. -/
def startChip : Nat → StartEnv → State → State
  | 0, _, s => s
  | n + 1, env, s =>
      match s.boot env with
      | (t, false) => t
      | (t, true) => startChip n { env with selftest := none, repairErr := none } (t.enterPending.resetWarm 4)

/-- A power-on reset (R60). -/
def powerOn (env : StartEnv) (s : State) : State := startChip 4 env s.resetCold

/-- A warm restart (R60); one that the firmware performs finds no record pending. -/
def warmStart (cause : Nat) (env : StartEnv) (s : State) : State :=
  startChip 4 env ((s.when (decide (3 ≤ cause)) enterPending).resetWarm cause)

/-- The loader is taken up again. -/
def loadResume (s : State) : State :=
  if s.load.on then
    match runOps s.load.todo s with
    | (t, false) => t
    | (t, true) => startChip 4 ⟨none, none, none⟩ (t.enterPending.resetWarm 4)
  else s

/-- The first step that the loader still has to do is passed. -/
def loadSkip (s : State) : State := s.updLoad fun l => { l with wait := .run, todo := l.todo.drop 1 }

/-- 10 ms pass in step 4: every PLL not locked raises its quad's cause, and the start goes on (R533). -/
def pllWaitExpire (s : State) : State :=
  if s.load.on ∧ s.load.wait = .plls ∧ s.load.since + 10000000 ≤ s.now then
    let s := s.each s.pllsOpen fun p t => t.quadCause p.1 (1 + p.2)
    s.enableLanes.loadSkip.loadResume
  else s

/-- LOCKWAIT ms have passed since step 6 ended (R534). -/
def lockWaitExpire (s : State) : State :=
  if s.load.on ∧ s.load.wait = .lock ∧ s.load.since + s.get Reg.CFG.LOCKWAIT * 1000000 ≤ s.now then ((s.raise 103 []).endStep 8).loadSkip.loadResume else s

/-- The restart an accepted COMMIT left due is performed (R569). -/
def restartDue (env : StartEnv) (s : State) : State :=
  match s.upd.due with
  | some c => s.warmStart c env
  | none => s

/-- A mailbox write with what the command says of its surroundings: judged as any write by its master, and carried out as the
command says. A write that waits at a locked target is carried out later like any other. -/
def gated (m addr : Nat) (data : Word) (f : State → State) (s : State) : State :=
  let t := s.busTarget addr
  let held := s.lockOf m
  if (match held with
      | some l => t != some l.target
      | none => s.mgt.locks.any fun l => t == some l.target) then s.busWrite m addr 4 data
  else
    let s := s.disarm m
    let s := if s.writeProtected m then let r := s.protErr addr; r.2.answer m ⟨r.1, 0⟩ else (f s).answer m ⟨0, 0⟩
    if held.isSome then (s.unlockBus m).runStalled else s

end State

/-- POWER_ON_RESET (R60): RST_N is released, after what the card wrote to the boot flash while it was low, and with the instruction a
tester holds in the test port (R614). -/
def execPowerOnReset (card : CardInput) (env : StartEnv) (s : State) : Host.Outcome State Fault Refusal :=
  .next ((({ s with flash := card.flash.getD s.flash }).updKey fun k => { k with tap := s.tapSelect true card.tap }).powerOn env)

/-- WARM_RESTART (R60), with a cause of MGT.RSTCAUSE. -/
def execWarmRestart (cause : Nat) (env : StartEnv) (s : State) : Host.Outcome State Fault Refusal :=
  .next (s.when (decide (1 ≤ cause) && decide (cause ≤ 4)) (State.warmStart cause env))

/-- LOCKSTEP (R507). -/
def execLockstep (env : StartEnv) (s : State) : Host.Outcome State Fault Refusal := .next (s.warmStart 2 env)

/-- WATCHDOG_RESTART (R508): RSTDLY ms after an expiry; with RSTDLY 0 the chip stays stopped. -/
def execWatchdogRestart (env : StartEnv) (s : State) : Host.Outcome State Fault Refusal :=
  .next (s.when (s.get Reg.MGT.WDCFG_RSTDLY != 0 &&
    s.mgt.wdExpired.any fun t => decide (t + s.get Reg.MGT.WDCFG_RSTDLY * 1000000 ≤ s.now)) (State.warmStart 1 env))

/-- START_PLL_WAIT_EXPIRE (R533). -/
def execStartPllWaitExpire (s : State) : Host.Outcome State Fault Refusal := .next s.pllWaitExpire

/-- LOCKWAIT_EXPIRE (R534). -/
def execLockwaitExpire (s : State) : Host.Outcome State Fault Refusal := .next s.lockWaitExpire

/-- LOOP_STAGE_DWELL (R409): the loop advances a stage, for which a start may wait. -/
def execLoopStageDwell (s : State) : Host.Outcome State Fault Refusal := .next s.stageAdvance.loadResume

/-- DRAM_TRAIN_DONE (R441, R442): training ends, for which a start may wait. -/
def execDramTrainDone (results : List TrainResult) (s : State) : Host.Outcome State Fault Refusal :=
  .next (s.trainDone results).loadResume

/-- TRIAL_FALLBACK (R570): the trial window expires unconfirmed, and the firmware restarts. -/
def execTrialFallback (env : StartEnv) (s : State) : Host.Outcome State Fault Refusal :=
  .next (let r := s.trialExpire; if r.2 then r.1.warmStart 3 env else r.1)

/-- KEYMSG (R562) by master `m`: a write of KEY.CMD, with the key under which the message verifies. -/
def execKeymsg (m : Nat) (signer : Option Nat) (s : State) : Host.Outcome State Fault Refusal :=
  .next (s.gated m Reg.KEY.CMD_OP.addr 2 (State.keyCmd 2 0 signer))

/-- VERIFY (R568) by master `m`: a write of UPD.CMD, with what the staged items read as. -/
def execVerify (m : Nat) (read : StageRead) (s : State) : Host.Outcome State Fault Refusal :=
  .next (s.gated m Reg.UPD.CMD.addr 3 fun t => (t.updCmd 3 read).1)

/-- UPD_COMMIT (R569) by master `m`: a write of UPD.CMD, and the restart that follows an accepted commit. -/
def execUpdCommit (m : Nat) (env : StartEnv) (s : State) : Host.Outcome State Fault Refusal :=
  .next ((s.gated m Reg.UPD.CMD.addr 4 (State.updCmdLand 4)).restartDue env)

end Sys2Proof.Machine
end

