-- ==== Sys2Proof/Machine/Jrp.lean ====
section
/-! DEFINITION. Chapter 24, the Jaltar Route Protocol: sessions, how a REQUEST is judged (R584–R588), how queued commands are
carried out through the mailboxes, and their answers and final statuses (R587, R589). -/

namespace Sys2Proof.Machine

/-- What a command comes to: its code and fields, whether a final status follows (R587), and that status. -/
structure JrpResult where
  code : Nat
  fields : List Nat
  late : Bool
  final : Option JrpFinal
  deriving DecidableEq, Repr

/-- A command that is complete with its answer. -/
def jrpDone (code : Nat) (fields : List Nat) : JrpResult := { code := code, fields := fields, late := false, final := none }

/-! ### The message set (R591) -/

/-- The opcode of a command. -/
def JrpCmd.opcode : JrpCmd → Nat
  | .nop => 0
  | .fab op _ => op
  | .dtake .. => 7
  | .salvo op _ _ _ => if op = 7 then 0x10 else op + 9
  | .salvoAdd .. => 0x11
  | .claim .. => 0x22
  | .chn op _ _ => op + 0x1F
  | .voice .. => 0x30
  | .layer .. => 0x31
  | .micaSet .. => 0x32
  | .flint .. => 0x33
  | .cnvLoad .. => 0x34
  | .cnvSwap .. => 0x35
  | .query .. => 0x40
  | .subscribe .. => 0x41
  | .unsubscribe .. => 0x42
  | .attest .. => 0x43
  | .updStage .. => 0x50
  | .updConfirm => 0x51
  | .xchg => 0x52
  | .updCommit .. => 0x80
  | .lcChange .. => 0x81
  | .keyMsg .. => 0x82
  | .forceClear .. => 0x83

/-- The bit of the rights word that a command needs (R580, R591); NOP needs none. -/
def JrpCmd.right : JrpCmd → Option Nat
  | .nop => none
  | .fab .. | .dtake .. | .salvo .. | .salvoAdd .. => some 0
  | .claim .. => some 1
  | .chn op _ _ => some (if op = 4 then 5 else 1)
  | .voice .. | .layer .. | .micaSet .. | .cnvLoad .. | .cnvSwap .. => some 1
  | .flint .. => some 2
  | .updStage .. | .updConfirm | .xchg => some 3
  | .updCommit .. | .lcChange .. | .keyMsg .. | .forceClear .. => some 4
  | .query .. | .subscribe .. | .unsubscribe .. | .attest .. => some 5

/-- A command of class M. -/
def JrpCmd.classM (c : JrpCmd) : Bool := decide (0x80 ≤ c.opcode)

/-- A command that is carried out before the chip is in service (R585). -/
def JrpCmd.early : JrpCmd → Bool
  | .nop | .query .. | .subscribe .. | .unsubscribe .. | .attest .. | .updStage .. | .updConfirm => true
  | c => c.classM

/-- The handle that a command names, whose table epoch is judged first (R98). -/
def JrpCmd.names : JrpCmd → Option Nat
  | .fab op args => if op = 2 then none else some (args.getD 0 0)
  | .dtake druse _ _ _ => some druse
  | .salvoAdd _ druse takes => some (druse.getD ((takes.headD (0, 0)).1))
  | .claim args _ _ => some (args.getD 3 0)
  | .chn op args desc => if op = 1 then (namedHandles args desc).head?.map (·.1) else some (args.getD 0 0)
  | .layer engine _ _ | .micaSet engine _ _ | .flint engine _ _ => some engine
  | .cnvLoad cnv _ _ _ | .cnvSwap cnv => some cnv
  | .forceClear out => some out
  | _ => none

/-- Answers that are never cached: BUSY, TIMEOUT, NOT_READY, BAD_SESSION (R587). -/
def neverCached (code : Nat) : Bool := code == 1 || code == 18 || code == 33 || code == 34

/-- The fields of an answer with its final status: epoch and switch instant are those of the completion (R587). -/
def finalFields (fields : List Nat) (f : JrpFinal) : List Nat :=
  match fields with
  | [id, _, _] => [id, f.epoch, f.tsw]
  | l => l

/-- The body of a RESPONSE: FINALCODE, FLAGS and the fields (R591). -/
def JrpResult.body (r : JrpResult) : List Nat :=
  if r.late then
    match r.final with
    | some f => f.code :: f.flags :: finalFields r.fields f
    | none => 0xFFFF :: 0 :: r.fields
  else r.code :: 0 :: r.fields

namespace State

/-! ### Datagrams -/

/-- The claim the unit carries, sent in every datagram (R577). -/
def carriedClaim (s : State) : Nat := s.get Reg.TWIN.CARRIED_OWN

/-- A RESPONSE with a code and a body, to an address. -/
def jrpSend (port addr udp : Nat) (mac final : Bool) (session txid code : Nat) (body : List Nat) (s : State) : State :=
  s.emit (.jrp port addr udp
    { type := 4, target := s.use Reg.CHN.CFG_SYSNUM, mac := mac, final := final, session := session, txid := txid, epoch := s.get Reg.CHN.EPOCH,
      claim := s.carriedClaim, code := code, body := body })

/-- A RESPONSE in a session. -/
def jrpRespond (x : JrpSession) (txid : Nat) (r : JrpResult) (s : State) : State :=
  s.jrpSend x.port x.src x.sport x.hmac (r.late && r.final.isSome) x.id txid r.code r.body

/-- A refusal before the queue, answered to the sender. -/
def jrpRefuse (h : JrpHdr) (x : JrpSession) (code : Nat) (s : State) : State :=
  s.jrpSend x.port h.src h.sport x.hmac false x.id h.txid code [code, 0]

/-- JRP listens: from the end of step 3 of the start, while there are peers (R585). -/
def jrpListens (s : State) : Bool := decide (4 ≤ s.get Reg.CFG.STAT_STEP) && decide (s.get Reg.CFG.STAT_STEP ≤ 9)

/-- The unit handles datagrams: it is no unit of a twin, or carries ACT = 1 (R577). -/
def jrpActs (s : State) : Bool := s.get Reg.TWIN.CTRL_EN == 0 || bit s.carriedClaim 8

/-- A port that JRP runs on: CTL0, CTL1, and an E-port with an address (R576). -/
def jrpPort (p : Nat) (s : State) : Bool :=
  p == 64 || p == 65 || (decide (p < 64) && (Assoc.find s.jrp.ips (4 * p)).isSome)

/-- A datagram is taken in: to JRP's UDP port, no fragment, and from an address that a peer lists (R576, R579). -/
def jrpHears (h : JrpHdr) (s : State) : Bool :=
  s.jrpListens && s.jrpActs && s.jrpPort h.port && h.dport == s.jrp.udp && !h.fragment && s.jrp.peers.any fun p => p.addr == h.src

/-- A count of a session. -/
def jrpCount (id : Nat) (f : JrpCounts → JrpCounts) (s : State) : State := s.updSession id fun x => { x with counts := f x.counts }

/-- A datagram discarded at step 1 or 3 of R584. -/
def jrpDiscard (id : Nat) (s : State) : State := s.jrpCount id fun c => { c with discards := c.discards + 1 }

/-! ### Windows (R586) and answers (R587, R589) -/

/-- How an ID stands to a session's window. -/
inductive TxClass where
  | known (e : JrpEntry)
  | fresh
  | old
  deriving DecidableEq, Repr

/-- An ID is judged in serial arithmetic against the highest queued and the window of 4,096. -/
def txClass (x : JrpSession) (txid : Nat) : TxClass :=
  match x.high with
  | none => .fresh
  | some h =>
      let up := (txid + 2 ^ 32 - h) % 2 ^ 32
      if 1 ≤ up ∧ up ≤ 2 ^ 31 then .fresh
      else if (h + 2 ^ 32 - txid) % 2 ^ 32 < 4096 then
        match x.window.find? fun e => e.txid == txid with
        | some e => .known e
        | none => .fresh
      else .old

/-- The window with a new ID. -/
def txWindow (x : JrpSession) (txid : Nat) : JrpSession :=
  let h := match x.high with
    | none => txid
    | some h => let up := (txid + 2 ^ 32 - h) % 2 ^ 32; if 1 ≤ up ∧ up ≤ 2 ^ 31 then txid else h
  { x with high := some h,
           window := (x.window.filter fun e => decide ((h + 2 ^ 32 - e.txid) % 2 ^ 32 < 4096)) ++
             [{ txid := txid, answer := none, late := false, final := none }] }

/-- An entry of a window changes, in a live session or in one that is kept. -/
def updWindow (id : Nat) (f : List JrpEntry → List JrpEntry) (s : State) : State :=
  (s.updSession id fun x => { x with window := f x.window }).updJrp fun j =>
    { j with kept := j.kept.map fun k => if k.id = id then { k with window := f k.window } else k }

/-- The window of a session. -/
def windowOf (id : Nat) (s : State) : List JrpEntry :=
  match s.jrpSession id with
  | some x => x.window
  | none => match s.jrp.kept.find? fun k => k.id == id with | some k => k.window | none => []

/-- An answer is cached, or forgotten when it is never cached. -/
def cacheAnswer (txid : Nat) (r : JrpResult) (l : List JrpEntry) : List JrpEntry :=
  if neverCached r.code then l.filter fun e => e.txid != txid
  else l.map fun e => if e.txid = txid then { e with answer := some (r.code, r.fields), late := r.late, final := r.final } else e

/-- The cached result of an entry. -/
def entryResult (e : JrpEntry) : Option JrpResult :=
  e.answer.map fun a => { code := a.1, fields := a.2, late := e.late, final := e.final }

/-- A mirror record of a command stands without acknowledgement while the standby is in STANDBY (R458). -/
def mirrorOpen (id txid : Nat) (s : State) : Bool :=
  s.twinState == 3 && s.twin.mirror.any fun m => m.session == id && m.txid == txid

/-- A command has its result: it is cached, and answered, on a twin once its mirror record is acknowledged (R589). -/
def answerCmd (id txid : Nat) (r : JrpResult) (s : State) : State :=
  let s := s.updWindow id (cacheAnswer txid r)
  if s.mirrorOpen id txid then s.updJrp fun j => { j with held := j.held ++ [(id, txid)] }
  else match s.jrpSession id with
    | some x => s.jrpRespond x txid r
    | none => s

/-- Answers whose mirror records are acknowledged are sent. -/
def releaseHeld (s : State) : State :=
  s.each s.jrp.held fun p t =>
    if t.mirrorOpen p.1 p.2 then t
    else
      let t := t.updJrp fun j => { j with held := j.held.filter fun y => y != p }
      match t.jrpSession p.1, (t.windowOf p.1).find? fun e => e.txid == p.2 with
      | some x, some e => match entryResult e with | some r => t.jrpRespond x p.2 r | none => t
      | _, _ => t

/-! ### Final statuses (R587) -/

/-- A final status arrives: it is cached wherever the command is remembered, and its session is notified. -/
def jrpFinal (id txid : Nat) (f : JrpFinal) (s : State) : State :=
  let mark := fun e : JrpEntry => if e.txid = txid ∧ e.late ∧ e.final = none then { e with final := some f } else e
  let s := (s.updWindow id fun l => l.map mark).updJrp fun j =>
    { j with shadow := j.shadow.map fun y => if y.session = id then { y with entry := mark y.entry } else y }
  s.updSession id (pushNote (.complete txid f))

/-- A completion is that of an awaited take of its peer, or of a take of an awaited salvo; its record names the output by its
handle. -/
def JrpAwait.hit (c : Completion) (w : JrpAwait) : Bool :=
  match w.out with
  | some i => i == handleIdx c.out && w.peer == c.peer && w.ref == c.ref && !bit c.flags 6
  | none => w.ref == c.ref && bit c.flags 6

/-- A status with a further completion: a salvo keeps its first failure (R587). -/
def addStatus (c : Completion) (old : Option JrpFinal) : JrpFinal :=
  match old with
  | none => { code := c.code, flags := c.flags, epoch := c.epoch, tsw := c.tsw }
  | some f => { code := if f.code = 0 then c.code else f.code, flags := f.flags ||| c.flags, epoch := c.epoch, tsw := c.tsw }

/-- The takes that an awaited command stands for, as output index and source handle. -/
def awaitTakes (w : JrpAwait) : List (Nat × Nat) := match w.out with | some i => [(i, w.src)] | none => w.takes

/-- The take of an awaited command on an output has its record still to come: it is pending, latched, scheduled or in a salvo that is
held, or its record stands in the queue. -/
def awaitOpen (w : JrpAwait) (s : State) (i : Nat) : Bool :=
  (s.fab.tcq.any fun c => JrpAwait.hit c w && handleIdx c.out == i) ||
    match w.out with
    | some _ =>
        let o := s.outTakes i
        let own := fun t : TakeRec => t.peer == w.peer && t.ref == w.ref && !bit t.flags 6
        o.pend.any own || o.lat.any own || s.fab.sched.any fun p => p.2.out == i && own p.2.take
    | none => match Assoc.find s.fab.salvos w.ref with
        | some x => x.takes.any fun t => handleIdx t.out == i && !t.done
        | none => false

/-- The status of takes whose records were lost, as the route table tells it (R150): executed where each output shows its source, with
the epoch and switch instant of the last; else the code is free. A failure that came before stands. -/
def lostStatus (w : JrpAwait) (gone : List (Nat × Nat)) (s : State) : JrpFinal × State :=
  let i := (gone.getLast?.map (·.1)).getD 0
  let seen : JrpFinal :=
    { code := 0, flags := if w.out.isSome then 0 else 64, epoch := s.get (Reg.FAB.RT_EPOCH i), tsw := s.get (Reg.FAB.RT_TLO i) }
  let f := w.status.getD seen
  if f.code ≠ 0 ∨ gone.all (fun p => s.get (Reg.FAB.RT_CUR p.1) == p.2) then ({ f with epoch := seen.epoch, tsw := seen.tsw }, s)
  else let q := s.fresh; ({ seen with code := 19 + q.1 % 2 }, q.2)

/-- After an overflow of the queue the firmware rebuilds its view before it relays further results (R150): of the takes awaited, those
whose records were lost have their status from the route table, and a command of which none is still to come has its final
status. -/
def rebuildView (s : State) : State :=
  if s.flag Reg.FAB.TCQSTAT_OVF then
    (s.each s.jrp.awaits fun w t =>
      let still := (awaitTakes w).filter fun p => t.awaitOpen w p.1
      if w.left ≤ still.length then t
      else
        let f := t.lostStatus w ((awaitTakes w).filter fun p => !t.awaitOpen w p.1)
        if still = [] then (f.2.updJrp fun j => { j with awaits := j.awaits.erase w }).jrpFinal w.session w.txid f.1
        else f.2.updJrp fun j =>
          { j with awaits := j.awaits.map fun y => if y = w then { w with left := still.length, status := some f.1 } else y }).set
      Reg.FAB.TCQSTAT_OVF 0
  else s

/-- The firmware takes the completion record at the head of the queue. -/
def finalStatus (s : State) : State :=
  let s := s.rebuildView
  match s.fab.tcq with
  | [] => s
  | c :: _ =>
      let s := s.tcqPop
      match s.jrp.awaits.find? (JrpAwait.hit c) with
      | none => s
      | some w =>
          let f := addStatus c w.status
          if 2 ≤ w.left then
            s.updJrp fun j => { j with awaits := j.awaits.map fun y => if y = w then { w with left := w.left - 1, status := some f } else y }
          else (s.updJrp fun j => { j with awaits := j.awaits.erase w }).jrpFinal w.session w.txid f

/-! ### Queries (R596) -/

/-- Words of registers from an address. -/
def wordsFrom (a n : Nat) (s : State) : List Nat := (List.range n).map fun k => (s.rd (a + 4 * k)).toNat

/-- Entries of the event log from a sequence number on, oldest first. -/
def logRecords (first : Nat) (s : State) : List (List Nat) :=
  let n := s.get Reg.MGT.LOGSTAT_COUNT
  let newest := s.get Reg.MGT.LOGSTAT_NEWEST
  let l := (List.range n).map fun k =>
    (List.range 8).map fun j => Memory.read32 s.mgt.sram (logBase + 32 * ((newest + 4097 + k - n) % 4096) + 4 * j)
  l.filter fun e => decide ((e.getD 1 0 + 2 ^ 32 - first) % 2 ^ 32 < 2 ^ 31)

/-- The counts of STATS: of each session, of the ports, of the policers, and of the commands carried out. -/
def statRecords (s : State) : List (List Nat) :=
  (s.jrp.sessions.map fun x => [x.id, x.counts.discards, x.counts.busy, x.counts.old, x.counts.repeats, x.counts.lost]) ++
    (s.eth.ports.map fun p => p.1 :: p.2.totals) ++ (s.ipm.rx.map fun p => [p.1, p.2.polTotal]) ++
    (s.jrp.done.map fun p => [p.1, p.2])

/-- The offset of UTC from PTP time that the firmware carries, the one announced last, in two's complement (R382). -/
def utcNow (s : State) : Nat := ofSigned 32 (s.time.ptp.utcSeen.getD (Config.ptpUtc, Config.ptpLeap)).1

/-- The records of an object from a first index, at most so many; STATUS reports the offset of UTC too (R382). -/
def queryRecords (object first count : Nat) (s : State) : Option (List (List Nat)) :=
  let span := fun (top : Nat) (f : Nat → List Nat) => some ((List.range (min count (top - first))).map fun k => f (first + k))
  match object with
  | 1 => span 16384 fun i => s.wordsFrom (Reg.FAB.RT_CUR i).addr 8
  | 2 => span 16384 fun i => s.wordsFrom (Reg.CHN.ENT_HANDLE i).addr 4
  | 3 => span 4096 fun d => s.wordsFrom (Reg.CHN.DRU_HANDLE d).addr 8
  | 4 => some ((s.logRecords first).take count)
  | 5 => some ((s.statRecords.drop first).take count)
  | 6 => some [[s.get Reg.CFG.STAT_STEP, s.lcState, b2n s.time.ptp.locked, s.loopState, s.carriedClaim, s.utcNow]]
  | _ => none

/-- Whole records that fit one datagram beside the first four bytes, and the next index in the last word when not all do; `next` tells
it of the first record left out and their number. -/
def fitRecords (next : List Nat → Nat → Nat) (l : List (List Nat)) : List Nat :=
  let size := fun m : List (List Nat) => sumList (m.map fun r => 4 * r.length)
  if size l ≤ 1424 then l.flatten
  else
    let n := ((List.range l.length).filter fun k => decide (size (l.take (k + 1)) ≤ 1420)).length
    (l.take n).flatten ++ [next (l.getD n []) n]

/-- Reads of registers, each with its response (R514). -/
def queryRead (addr : Nat) : Nat → State → List Nat × State
  | 0, s => ([], s)
  | n + 1, s =>
      let r := s.readAt 0 addr 4
      let q := queryRead (addr + 4) n r.2.2
      (r.1 :: r.2.1 :: q.1, q.2)

/-- QUERY. -/
def jrpQuery (object first count : Nat) (s : State) : JrpResult × State :=
  if object = 7 then
    if 64 < count then (jrpDone 11 [], s) else let r := s.queryRead first count; (jrpDone 0 r.1, r.2)
  else
    match s.queryRecords object first count with
    | some l => (jrpDone 0 (fitRecords (fun r n => if object = 4 then r.getD 1 0 else first + n) l), s)
    | none => (jrpDone 11 [], s)

/-! ### Carrying commands out -/

/-- The word that starts a mailbox operation. -/
def opWord (op : Nat) : Word := BitVec.ofNat 32 op

/-- A request in the take mailbox, with the current table epoch: its result code. -/
def runFab (op peer : Nat) (args : List Nat) (s : State) : Nat × State :=
  let s := (s.putArgs Reg.FAB.TAKEARG (args ++ List.replicate (5 - args.length) 0 ++ [s.get Reg.CHN.EPOCH])).takeBox
    (BitVec.ofNat 32 (peer * 65536 + op))
  (s.get Reg.FAB.TAKERES_CODE, s)

/-- A completion is awaited for a command (R587). -/
def await (id txid peer : Nat) (out : Option Nat) (src ref left : Nat) (s : State) : State :=
  let w : JrpAwait := { session := id, txid := txid, peer := peer, out := out, src := src, ref := ref, left := left, status := none,
                        takes := if out.isNone then s.salvoTakes ref else [] }
  s.updJrp fun j => { j with awaits := j.awaits ++ [w] }

/-- TAKE: source 0 is no source, instant 0 is immediate. -/
def jrpTake (x : JrpSession) (txid out src instant : Nat) (s : State) : JrpResult × State :=
  match s.runFab 1 (x.peer + 1) [out, src, instant % 2 ^ 32, instant / 2 ^ 32, b2n (src == 0)] with
  | (0, s) =>
      let id := s.get Reg.FAB.TAKEID
      ({ code := 0, fields := [id, 0, 0], late := true, final := none }, s.await x.id txid (x.peer + 1) (some (handleIdx out)) src id 1)
  | (c, s) => (jrpDone c [0, 0, 0], s)

/-- A request in the channel table's mailbox. -/
def runChn (op : Nat) (args desc : List Nat) (s : State) : State :=
  let s := s.putArgs Reg.CHN.REQARG args
  let s := s.putArgs (Reg.IPM.DESC_W (bits (args.getD 0 0) 3 0)) (desc.take 16)
  s.chnBox 0 (opWord op)

/-- The answer to a finished request of the channel table. -/
def chnAnswer (op : Nat) (s : State) : JrpResult :=
  let c := s.get Reg.CHN.RESULT_CODE
  jrpDone c (if op = 1 then [s.get Reg.CHN.RESHANDLE] else if op = 4 then [s.get Reg.CHN.RESSYS, s.get Reg.CHN.RESHANDLE] else [])

/-- A position of a druse lies in a member on another chip. -/
def posFar (druse dir pos : Nat) (s : State) : Bool :=
  let r := s.resolvePos (bit dir 0) 4097 (s.membersOf (s.druseOf druse)) pos
  r.1 == 0 && r.2.2.isNone

/-- A position of a druse is resolved: result code, system number and handle; CONFLICT where a member on another chip resolves
it to a system number found twice (R115). -/
def resolve (druse dir pos : Nat) (s : State) : Nat × Nat × Nat × State :=
  let far := s.posFar druse dir pos
  let s := s.runChn 4 [druse, dir, pos] []
  let c := s.get Reg.CHN.RESULT_CODE
  let sys := s.get Reg.CHN.RESSYS
  (if c = 0 ∧ far ∧ s.chn.dupSys.contains sys then 12 else c, sys, s.get Reg.CHN.RESHANDLE, s)

/-- The forward of a command, if one is under way. -/
def forwardOf (id txid : Nat) (s : State) : Option JrpForward := s.jrp.forwards.find? fun f => f.session == id && f.txid == txid

/-- The seed sends a forwarded take. -/
def sendForward (f : JrpForward) (s : State) : State := s.emit (.forward f.sys f.out f.src f.instant f.session f.txid)

/-- DTAKE (R593): both positions are resolved, and the take is carried out here or forwarded to their chip. -/
def jrpDtake (x : JrpSession) (txid druse inPos outPos instant : Nat) (s : State) : Option JrpResult × State :=
  match s.forwardOf x.id txid with
  | some f => (none, s.sendForward f)
  | none =>
      match s.resolve druse 0 inPos with
      | (0, sysIn, src, s) =>
          match s.resolve druse 1 outPos with
          | (0, sysOut, out, s) =>
              if sysIn ≠ sysOut then (some (jrpDone 15 [0, 0, 0]), s)
              else if s.ownSys sysOut then let r := s.jrpTake x txid out src instant; (some r.1, r.2)
              else
                let f : JrpForward :=
                  { session := x.id, txid := txid, sys := sysOut, out := out, src := src, instant := instant, again := false, sent := s.now }
                (none, (s.updJrp fun j => { j with forwards := j.forwards ++ [f] }).sendForward f)
          | (c, _, _, s) => (some (jrpDone c [0, 0, 0]), s)
      | (c, _, _, s) => (some (jrpDone c [0, 0, 0]), s)

/-- A salvo by its global ID. -/
def salvoOf (gid : Nat) (s : State) : Option (Nat × Salvo) := s.fab.salvos.find? fun p => p.2.gid == gid

/-- A salvo addressed to a druse, with parts on other chips. -/
def druseSalvo (gid : Nat) (s : State) : Option DruseSalvo := s.jrp.salvos.find? fun x => x.gid == gid

/-- A druse's salvo is put in place of what stands under its global ID. -/
def putDruseSalvo (x : DruseSalvo) (s : State) : State :=
  s.updJrp fun j => { j with salvos := (j.salvos.filter fun y => y.gid != x.gid) ++ [x] }

/-- An operation goes to every part of a druse's salvo. -/
def sendParts (op : Nat) (x : DruseSalvo) (s : State) : State :=
  s.each x.parts fun p t => t.emit (.part p.sys op x.gid [] x.instant x.minlead)

/-- A druse's salvo is aborted on every chip (R143). -/
def abortParts (x : DruseSalvo) (s : State) : State := (s.sendParts 11 x).putDruseSalvo { x with phase := 3 }

/-- COMMIT of the salvo on this chip; its completion is awaited. -/
def jrpCommit (x : JrpSession) (txid v : Nat) (y : Salvo) (s : State) : JrpResult × State :=
  let peer := x.peer + 1
  match s.runFab 10 peer [v] with
  | (0, s) =>
      ({ code := 0, fields := [], late := true, final := none },
        s.await x.id txid peer none 0 v (y.takes.filter fun t => !t.done).length)
  | (c, s) => (jrpDone c [], s)

/-- ARM of a salvo with parts on other chips (R143): the part on this chip first, where there is one, then the others. A part
refused ends it everywhere. -/
def armParts (x : JrpSession) (txid instant minlead : Nat) (y : DruseSalvo) (s : State) : Option JrpResult × State :=
  let y := { y with session := x.id, txid := txid, instant := instant, minlead := minlead, phase := 1, sent := s.now }
  let r := match s.salvoOf y.gid with
    | some (v, z) =>
        if z.takes = [] then (0, (s.runFab 11 (x.peer + 1) [v]).2)
        else s.runFab 9 (x.peer + 1) [v, 0, instant % 2 ^ 32, instant / 2 ^ 32, minlead]
    | none => (0, s)
  if r.1 = 0 then (none, (r.2.putDruseSalvo y).sendParts 9 y)
  else (some (jrpDone r.1 [r.2.get Reg.FAB.TAKERES_INDEX]), r.2.abortParts y)

/-- OPEN, ARM, COMMIT and ABORT of a salvo; an OPEN forgets what ended under its global ID. The seed of a druse commits a salvo addressed to the druse when every part has
answered ARM with OK, so that a SALVO_COMMIT after it is a second one, and OK (R142, R143). -/
def jrpSalvo (x : JrpSession) (txid op gid instant minlead : Nat) (s : State) : Option JrpResult × State :=
  let peer := x.peer + 1
  if op = 7 then
    let r := s.runFab 7 peer [gid]
    (some (jrpDone r.1 []), r.2.when (r.1 == 0) (updJrp fun j => { j with salvos := j.salvos.filter fun y => !(y.gid == gid && decide (2 ≤ y.phase)) }))
  else
    match op, s.druseSalvo gid with
    | 9, some y =>
        if y.phase = 0 then s.armParts x txid instant minlead y else (some (jrpDone (if y.phase = 3 then 11 else 0) [0]), s)
    | 10, some y => (some (jrpDone (if y.phase = 2 then 0 else 25) []), s.when (y.phase == 2) (sendParts 10 y))
    | 11, some y =>
        if 2 ≤ y.phase then (some (jrpDone 25 []), s)
        else
          let s := s.abortParts y
          (some (jrpDone 0 []), match s.salvoOf gid with | some (v, _) => (s.runFab 11 peer [v]).2 | none => s)
    | _, _ =>
        match s.salvoOf gid with
        | none => (some (jrpDone (if op = 9 then 11 else 25) []), s)
        | some (v, y) =>
            if op = 9 then
              let r := s.runFab 9 peer [v, 0, instant % 2 ^ 32, instant / 2 ^ 32, minlead]
              (some (jrpDone r.1 [r.2.get Reg.FAB.TAKERES_INDEX]), r.2)
            else if op = 10 then let r := s.jrpCommit x txid v y; (some r.1, r.2)
            else let r := s.runFab op peer [v]; (some (jrpDone r.1 []), r.2)

/-- A take of SALVO_ADD on this chip; source 0 is no source. -/
def addTake (peer v out src : Nat) (nosrc : Bool) (s : State) : Nat × State := s.runFab 8 peer [v, out, src, 0, b2n nosrc]

/-- A take enters the part of a salvo on another chip, which is opened first (R143). -/
def addPart (gid sys : Nat) (t : Nat × Nat) (s : State) : State :=
  let y := (s.druseSalvo gid).getD { gid := gid, session := 0, txid := 0, instant := 0, minlead := 0, phase := 0, parts := [], sent := 0 }
  let known := y.parts.any fun p => p.sys == sys
  let parts := if known then y.parts.map fun p => if p.sys = sys then { p with takes := p.takes ++ [t] } else p
    else y.parts ++ [{ sys := sys, takes := [t], answer := none }]
  ((s.when (!known) (emit (.part sys 7 gid [] 0 0))).emit (.part sys 8 gid [t] 0 0)).putDruseSalvo { y with parts := parts }

/-- A take of SALVO_ADD: of handles, or of positions of a druse, which must resolve to one chip (R113). -/
def addEntry (peer v gid : Nat) (druse : Option Nat) (t : Nat × Nat) (s : State) : Nat × State :=
  match druse with
  | none => s.addTake peer v t.1 t.2 (t.2 == 0)
  | some d =>
      match s.resolve d 1 t.1 with
      | (0, sysOut, out, s) =>
          match s.resolve d 0 t.2 with
          | (0, sysIn, src, s) =>
              if sysIn ≠ sysOut then (15, s)
              else if s.ownSys sysOut then s.addTake peer v out src false
              else (0, s.addPart gid sysOut (out, src))
          | (c, _, _, s) => (c, s)
      | (c, _, _, s) => (c, s)

/-- The takes of SALVO_ADD, in order, up to the first that is refused. -/
def jrpSalvoAdd (peer v gid : Nat) (druse : Option Nat) : List (Nat × Nat) → State → Nat × State
  | [], s => (0, s)
  | t :: l, s =>
      match s.addEntry peer v gid druse t with
      | (0, s) => jrpSalvoAdd peer v gid druse l s
      | r => r

/-- The engine that a handle of a kind names, or the code that refuses it. -/
def engineOf (h kind : Nat) (s : State) : Nat × Nat :=
  let c := s.judgeHandle h [kind]
  if c ≠ 0 then (c, 0) else (0, match s.chan (handleIdx h) with | some y => y.unit | none => 0)

/-- A command is refused for the handle it names, with its event when the handle is stale (R97, R116). -/
def handleRefused (code h : Nat) (s : State) : JrpResult × State := (jrpDone code [], s.staleIf code (s.reqSession 0) h)

/-- An offset of the next set: the background, or one of the seven words of a layer. -/
def setOffset (o : Nat) : Bool :=
  o == 0x1C || (decide (0x1000 ≤ o) && decide (o < 0x1000 + 0x40 * 63) && o % 4 == 0 && decide (o % 0x40 ≤ 0x18))

/-- Values are put into an engine's next set. -/
def putSet (g : Nat) (words : List (Nat × Nat)) (s : State) : State :=
  s.each words fun p t =>
    let a := (Blk.mk .mica g).base + p.1
    match regAt a with
    | some (_, r, _) => t.landStore r a (BitVec.ofNat 32 p.2)
    | none => t

/-- MICA_SET: values, and a COMMIT. -/
def jrpMicaSet (engine : Nat) (words : List (Nat × Nat)) (commit : Bool) (s : State) : JrpResult × State :=
  let e := s.engineOf engine 8
  if e.1 ≠ 0 then s.handleRefused e.1 engine
  else if words.any fun p => !setOffset p.1 then (jrpDone 11 [], s)
  else
    let g := e.2
    let s := s.putSet g words
    let pairs := (words.map fun p => let a := (Blk.mk .mica g).base + p.1; [a, (s.rd a).toNat]).flatten
    (jrpDone 0 [], s.mirrored false 4 g (b2n commit) pairs 0 fun t => t.when commit (micaCommitLand g 1))

/-- FLINT_LOAD: the load's registers, and GO with the unlock (R313). -/
def jrpFlint (engine addr crc : Nat) (s : State) : JrpResult × State :=
  let e := s.engineOf engine 8
  if e.1 ≠ 0 then s.handleRefused e.1 engine
  else
    let g := e.2
    let s := ((s.set (Reg.MICA.FLINTLOAD_ADDRLO g) (addr / 64)).set (Reg.MICA.FLINTLOAD_ADDRHI g) (addr / 2 ^ 32)).takeWide (Reg.MICA.FLINTLOAD_ADDRLO g).addr |>.set (Reg.MICA.FLINTLOAD_CRC g) crc
    (jrpDone 0 [], s.flintBox g 1)

/-- CNV_LOAD and CNV_SWAP. -/
def jrpCnvLoad (cnv lutsel first : Nat) (values : List Nat) (s : State) : JrpResult × State :=
  let e := s.engineOf cnv 7
  if e.1 ≠ 0 then s.handleRefused e.1 cnv
  else if 700 < values.length then (jrpDone 11 [], s)
  else (jrpDone 0 [], s.mirrored false 8 e.2 0 (lutsel :: first :: values) 0 (cnvLoad e.2 lutsel first values))
def jrpCnvSwap (cnv : Nat) (s : State) : JrpResult × State :=
  let e := s.engineOf cnv 7
  if e.1 ≠ 0 then s.handleRefused e.1 cnv else (jrpDone 0 [], s.mirrored false 9 e.2 0 [] 0 (cnvSwapLand e.2 1))

/-- LAYER: a request in an engine's layer mailbox; none while it waits. -/
def jrpLayer (engine op : Nat) (args : List Nat) (s : State) : Option JrpResult × State :=
  let e := s.engineOf engine 8
  if e.1 ≠ 0 then let r := s.handleRefused e.1 engine; (some r.1, r.2)
  else
    let s := (s.putArgs (Reg.MICA.LAYARG e.2) (args.take 3)).layBox e.2 (opWord op)
    (if s.flag (Reg.MICA.LAYRES_BUSY e.2) then none else some (jrpDone (s.get (Reg.MICA.LAYRES_CODE e.2)) []), s)

/-- VOICE: a request in the map mailbox. -/
def jrpVoice (op : Nat) (args : List Nat) (s : State) : JrpResult × State :=
  let s := (s.putArgs Reg.AUD.MAPARG (args.take 3)).mapBox (opWord op)
  (jrpDone (s.get Reg.AUD.MAPRES_CODE) [], s)

/-- SUBSCRIBE: 16 at most (R594). -/
def jrpSubscribe (x : JrpSession) (sub : JrpSub) (s : State) : JrpResult × State :=
  match (List.range 16).find? fun n => (Assoc.find x.subs n).isNone with
  | some n => (jrpDone 0 [n], s.updSession x.id fun y => { y with subs := Assoc.put y.subs n sub })
  | none => (jrpDone 5 [0], s)
def jrpUnsubscribe (x : JrpSession) (n : Nat) (s : State) : JrpResult × State :=
  match Assoc.find x.subs n with
  | some _ => (jrpDone 0 [n], s.updSession x.id fun y => { y with subs := Assoc.del y.subs n })
  | none => (jrpDone 11 [n], s)

/-- UPD_STAGE: a request of the update engine; VERIFY's result is its final status (R587). -/
def jrpStage (op : Nat) (args : List Nat) (bytes : List Byte) (read : StageRead) (s : State) : JrpResult × State :=
  if !([1, 2, 3, 6]).contains op ∨ 1024 < bytes.length then (jrpDone 11 [], s)
  else
    let s := s.putArgs Reg.UPD.ARG (args.take 4)
    let s := s.when (op == 2) fun t =>
      t.each (List.range ((bytes.length + 3) / 4)) fun j u => u.set (Reg.UPD.BUF j) (leNat ((bytes.drop (4 * j)).take 4))
    let staging := s.updPhase == 1
    let s := (s.updCmd op read).1
    let c := s.get Reg.UPD.RES_CODE
    (if op = 3 ∧ staging then { code := 0, fields := [], late := true, final := some { code := c, flags := 0, epoch := 0, tsw := 0 } }
      else jrpDone c [], s)

/-- UPD_COMMIT: an accepted one leaves its restart due. -/
def jrpUpdCommit (mode win max : Nat) (s : State) : JrpResult × State :=
  let s := (s.putArgs Reg.UPD.ARG [mode, win, max]).updCmdLand (opWord 4)
  (jrpDone (s.get Reg.UPD.RES_CODE) [], s)

/-- A request of the key store. -/
def jrpKey (op arg : Nat) (signer : Option Nat) (s : State) : JrpResult × State :=
  let s := s.keyCmd op arg signer
  (jrpDone (s.get Reg.KEY.RES_CODE) [], s)

/-- ATTEST: the report over the nonce (R563). -/
def jrpAttest (nonce : List Byte) (s : State) : JrpResult × State :=
  let s := (s.putKeyMsg nonce).keyCmd 3 0 none
  let c := s.get Reg.KEY.RES_CODE
  (jrpDone c (if c = 0 then (s.attestReport nonce).map fun (b : Byte) => b.toNat else []), s)

/-- FORCE_CLEAR: lock and protect of an output (R131). -/
def jrpForceClear (out : Nat) (s : State) : JrpResult × State :=
  let a := s.judgeHandle out anyKind
  if a ≠ 0 then s.handleRefused a out
  else if outKinds.contains (handleKind out) then (jrpDone 0 [], s.forceClear (handleIdx out))
  else (jrpDone 4 [], s)

/-- A claim of another chip's seed (R111): its answer tells the handle and the ranges of the druse claimed. -/
def jrpClaimed (args : List Nat) (psys parent : Nat) (s : State) : JrpResult × State :=
  let r := s.claimed args psys parent
  let k := s.druseOf (if bits (args.getD 1 0) 30 28 = 3 then s.get (Reg.CHN.DRU_HANDLE (s.use Reg.CHN.CFG_CHIPDRUSE)) else args.getD 3 0)
  (jrpDone r.1 (if r.1 = 0 then [s.get (Reg.CHN.DRU_HANDLE k), s.get (Reg.CHN.DRU_INSIZE k), s.get (Reg.CHN.DRU_OUTSIZE k)] else []), r.2)

/-- A command whose epoch is right is carried out; none when its result is still to come. -/
def jrpCarry (x : JrpSession) (txid : Nat) (c : JrpCmd) (s : State) : Option JrpResult × State :=
  let now := fun r : JrpResult × State => (some r.1, r.2)
  match c with
  | .nop => (some (jrpDone 0 []), s)
  | .fab op args =>
      if op = 1 then now (s.jrpTake x txid (args.getD 0 0) (args.getD 1 0) (args.getD 2 0))
      else let r := s.runFab op (x.peer + 1) args; (some (jrpDone r.1 []), r.2)
  | .dtake druse i o t => s.jrpDtake x txid druse i o t
  | .salvo op gid instant minlead => s.jrpSalvo x txid op gid instant minlead
  | .salvoAdd gid druse takes =>
      match s.salvoOf gid with
      | some (v, _) =>
          if takes = [] ∨ 176 < takes.length then (some (jrpDone 11 []), s)
          else let r := jrpSalvoAdd (x.peer + 1) v gid druse takes s; (some (jrpDone r.1 []), r.2)
      | none => (some (jrpDone 11 []), s)
  | .claim args psys parent => now (s.jrpClaimed args psys parent)
  | .chn op args desc =>
      let s := s.runChn op args desc
      (if s.flag Reg.CHN.STAT_REQBUSY then none else some (s.chnAnswer op), s)
  | .voice op args => now (s.jrpVoice op args)
  | .layer engine op args => s.jrpLayer engine op args
  | .micaSet engine words commit => now (s.jrpMicaSet engine words commit)
  | .flint engine addr crc => now (s.jrpFlint engine addr crc)
  | .cnvLoad cnv lutsel first values => now (s.jrpCnvLoad cnv lutsel first values)
  | .cnvSwap cnv => now (s.jrpCnvSwap cnv)
  | .query object first count => now (s.jrpQuery object first count)
  | .subscribe sub => now (s.jrpSubscribe x sub)
  | .unsubscribe n => now (s.jrpUnsubscribe x n)
  | .attest nonce => now (s.jrpAttest nonce)
  | .updStage op args bytes read => now (s.jrpStage op args bytes read)
  | .updConfirm => let s := (s.updCmd 5 s.stagedRead).1; (some (jrpDone (s.get Reg.UPD.RES_CODE) []), s)
  | .xchg => (some (jrpDone 0 []), s.xchgLand 1)
  | .updCommit mode win max _ => now (s.jrpUpdCommit mode win max)
  | .lcChange target => now (s.jrpKey 1 target none)
  | .keyMsg msg signer => now ((s.putKeyMsg msg).jrpKey 2 0 signer)
  | .forceClear out => now (s.jrpForceClear out)

/-- The table epoch is judged before anything else (R98, R593). -/
def jrpJudged (x : JrpSession) (q : JrpQueued) (s : State) : Option JrpResult × State :=
  match q.cmd.names with
  | some h => if q.epoch ≠ s.get Reg.CHN.EPOCH then (some (jrpDone 3 []), s.staleEvent x.id h) else s.jrpCarry x q.txid q.cmd
  | none => s.jrpCarry x q.txid q.cmd

/-! ### The queues (R588, R589) -/

/-- A command needs a mailbox that a request of another holds. -/
def jrpBlocked (c : JrpCmd) (s : State) : Bool :=
  match c with
  | .chn .. => s.flag Reg.CHN.STAT_REQBUSY
  | .dtake .. | .salvoAdd _ (some _) _ => s.flag Reg.CHN.STAT_REQBUSY || s.flag Reg.FAB.TESTAT_BUSY
  | .fab .. | .salvo .. | .salvoAdd _ none _ => s.flag Reg.FAB.TESTAT_BUSY
  | .voice .. => s.flag Reg.AUD.MAPRES_BUSY
  | .layer engine _ _ => let e := s.engineOf engine 8; e.1 == 0 && s.flag (Reg.MICA.LAYRES_BUSY e.2)
  | _ => false

/-- The credit of a session now: 500 µs a command, 256 commands at most. -/
def jrpCredit (x : JrpSession) (s : State) : Nat := min 128000000 (x.credit + (s.now - x.creditAt))

/-- A command of a session may be taken now. -/
def jrpReady (x : JrpSession) (s : State) : Bool :=
  match x.queue with
  | [] => false
  | q :: _ =>
      decide (500000 ≤ s.jrpCredit x) && !(s.jrp.running.any fun r => r.1 == x.id) && !(s.jrp.held.any fun r => r.1 == x.id) &&
        !s.jrpBlocked q.cmd

/-- The session whose turn it is: the first ready one after the one served last. -/
def jrpNext (s : State) : Option JrpSession :=
  let l := s.jrp.sessions
  let k := (firstIdx (fun x : JrpSession => x.id == s.jrp.served) l).elim 0 (· + 1)
  (l.drop k ++ l.take k).find? fun x => s.jrpReady x

/-- The next command of a session is carried out. -/
def jrpServe (x : JrpSession) (q : JrpQueued) (s : State) : State :=
  let s := (s.updSession x.id fun y => { y with queue := y.queue.drop 1, credit := s.jrpCredit x - 500000, creditAt := s.now }).updJrp
    fun j => { j with served := x.id, done := Assoc.put j.done q.cmd.opcode (Assoc.findD j.done q.cmd.opcode 0 + 1) }
  let s := s.updTwin fun t => { t with ctx := ⟨x.id, q.txid, 0⟩ }
  let r := s.jrpJudged x q
  let s := r.2.updTwin fun t => { t with ctx := ⟨0, 0, 0⟩ }
  match r.1 with
  | some a =>
      let s := s.answerCmd x.id q.txid a
      let s := match a.final with | some f => s.updSession x.id (pushNote (.complete q.txid f)) | none => s
      match q.cmd with
      | .updCommit _ _ _ env => s.restartDue env
      | _ => s
  | none => s.updJrp fun j => { j with running := j.running ++ [(x.id, q)] }

/-- Sessions are served round-robin, as long as one is ready. -/
def jrpServeAll : Nat → State → State
  | 0, s => s
  | n + 1, s =>
      match s.jrpNext with
      | some x => match x.queue with | q :: _ => jrpServeAll n (s.jrpServe x q) | [] => s
      | none => s

/-- The result of a command whose mailbox request has ended. -/
def jrpEnded (c : JrpCmd) (s : State) : Option JrpResult :=
  match c with
  | .chn op _ _ => if s.flag Reg.CHN.STAT_REQBUSY then none else some (s.chnAnswer op)
  | .layer engine _ _ =>
      let e := s.engineOf engine 8
      if s.flag (Reg.MICA.LAYRES_BUSY e.2) then none else some (jrpDone (s.get (Reg.MICA.LAYRES_CODE e.2)) [])
  | _ => none

/-- Commands whose result has come are answered. -/
def jrpFinish (s : State) : State :=
  s.each s.jrp.running fun p t =>
    match t.jrpEnded p.2.cmd with
    | some r => (t.updJrp fun j => { j with running := j.running.filter fun y => y != p }).answerCmd p.1 p.2.txid r
    | none => t

/-- JRP goes on: results that have come, acknowledgements, and the queues. -/
def jrpPump (s : State) : State :=
  let s := s.jrpFinish.releaseHeld
  s.jrpServeAll (sumList (s.jrp.sessions.map fun x => x.queue.length))

/-! ### REQUESTs (R584) -/

/-- Step 7: the opcode, the right, and class M (R580, R581). -/
def jrpRefusal (x : JrpSession) (known : Bool) (c : JrpCmd) (s : State) : Nat :=
  let rights := match s.jrp.peers.find? fun p => p.index == x.peer with | some p => p.rights | none => 0
  if !known then 11
  else if (match c.right with | some b => !bit rights b | none => false) then 32
  else if c.classM ∧ !x.hmac then 32
  else if c.classM ∧ !s.windowOpen then 28
  else 0

/-- A new command: steps 6 and 7, R585, and the queue. -/
def jrpQueue (h : JrpHdr) (x : JrpSession) (known : Bool) (c : JrpCmd) (s : State) : State :=
  if 256 ≤ x.queue.length then (s.jrpCount x.id fun k => { k with busy := k.busy + 1 }).jrpRefuse h x 1
  else
    let code := s.jrpRefusal x known c
    if code ≠ 0 then s.jrpRefuse h x code
    else if !c.early ∧ !s.inService then s.jrpRefuse h x 33
    else
      (s.updSession x.id fun y =>
        let y := txWindow y h.txid
        { y with queue := y.queue ++ [{ txid := h.txid, epoch := h.epoch, cmd := c }] }).jrpPump

/-- An ID that was queued before: its cached answer, or nothing while it is queued or running (R586). -/
def jrpRepeat (x : JrpSession) (e : JrpEntry) (s : State) : State :=
  let s := s.jrpCount x.id fun k => { k with repeats := k.repeats + 1 }
  if s.jrp.held.any fun p => p.1 == x.id && p.2 == e.txid then s
  else match entryResult e with | some r => s.jrpRespond x e.txid r | none => s

/-- Steps 1 to 3 of R584: the session, when the datagram is one of its own. -/
def jrpSessionOf (h : JrpHdr) (s : State) : Option JrpSession :=
  match s.jrpSession h.session with
  | some x => if !x.hmac ∧ (h.src ≠ x.src ∨ h.sport ≠ x.sport) then none else some x
  | none => none

/-- A REQUEST arrives. -/
def jrpRequest (h : JrpHdr) (known : Bool) (c : JrpCmd) (s : State) : State :=
  if !s.jrpHears h then s
  else if !h.formOk then s.jrpDiscard h.session
  else
    match s.jrpSessionOf h with
    | none => s.jrpSend h.port h.src h.sport false false h.session h.txid 34 [34, 0]
    | some x =>
        if x.hmac ∧ !h.macOk then s.jrpDiscard x.id
        else
          let s := s.updSession x.id fun y => { y with last := s.now }
          if !s.ownSys h.target then s.jrpRefuse h x 36
          else
            match txClass x h.txid with
            | .known e => s.jrpRepeat x e
            | .old => (s.jrpCount x.id fun k => { k with old := k.old + 1 }).jrpRefuse h x 35
            | .fresh => s.jrpQueue h x known c

end State

end Sys2Proof.Machine
end

