-- ==== Sys2Proof/Machine/JrpRows.lean ====
section
/-! DEFINITION. Chapter 24, the commands of JRP: the opening and closing of sessions (R582, R585, R590), each REQUEST of the
message set (R591), forwarded druse takes (R593), final statuses and notifications (R587, R594, R595). -/

namespace Sys2Proof.Machine

namespace State

/-! ### Sessions -/

/-- A session ID that is not in use: random and non-zero (R582). -/
def freshSession (resume : Nat) (s : State) : Nat × State :=
  let used := resume :: 0 :: ((s.jrp.sessions.map fun x => x.id) ++ (s.jrp.kept.map fun x => x.id) ++ s.jrp.shadow.map fun x => x.session)
  let q := s.fresh
  let l := (List.range (used.length + 1)).map fun k => (q.1 + k) % 2 ^ 32
  (((l.find? fun v => !used.contains v).getD 0), q.2)

/-- OPEN_REPLY to a sender. -/
def sendReply (port addr udp : Nat) (m : JrpMsg) (s : State) : State := s.emit (.jrp port addr udp m)

/-- The chip's ephemeral private key of a session, derived from the JRP root (R561, R583). -/
def sessionEph (s : State) (id nonce server : Nat) : Nat :=
  Config.kdf ((s.key.ops.map fun k => k.1).getD 0) "SESS" [id, nonce, server]

/-- The session key (R583): of the secret shared with the client's public key. -/
def sessionKey (s : State) (id nonce server qc : Nat) : Nat :=
  Config.kdf (Config.crypto [583, s.sessionEph id nonce server, qc]) "JRP-SESS" [nonce, server, id, s.devid]

/-- The reply to an OPEN: session ID, server nonce and DEVID, and in HMAC mode the chip's ephemeral public key and its signature. -/
def openReply (id nonce : Nat) (hmac : Bool) (qc : Nat) (s : State) : JrpMsg × State :=
  let q := s.fresh
  let pub := Config.crypto [583, s.sessionEph id nonce q.1]
  let body := [id, q.1, s.devid] ++ (if hmac then [pub, Config.crypto [582, id, nonce, q.1, qc, pub]] else [])
  ({ type := 2, target := s.use Reg.CHN.CFG_SYSNUM, mac := false, final := false, session := id, txid := 0, epoch := s.get Reg.CHN.EPOCH, claim := s.carriedClaim,
     code := 0, body := body }, q.2)

/-- What a closed session of a peer left, for 60 s: on the unit itself, or by the mirror records of its partner (R590). -/
def keptOf (id : Nat) (p : JrpPeer) (s : State) : Option JrpKept :=
  let held := fun t : Nat => decide (s.now < t + 60000000000)
  match s.jrp.kept.find? fun k => k.id == id && k.peer == p.index && held k.closed with
  | some k => some k
  | none =>
      let l := s.jrp.shadow.filter fun y => y.session == id && y.peer == p.index + 1 && held s.jrp.takeover
      match l.getLast? with
      | some y => some { id := id, peer := p.index, high := some y.entry.txid, window := l.map fun z => z.entry, queue := [],
                         closed := s.jrp.takeover }
      | none => none

/-- A session opens: a fresh one, or one that resumes what is kept. -/
def openSession (h : JrpHdr) (p : JrpPeer) (resume nonce qc : Nat) (s : State) : State :=
  let old := s.keptOf resume p
  let f := match old with | some k => (k.id, s) | none => s.freshSession resume
  let r := f.2.openReply f.1 nonce (p.mode == 1) qc
  let x : JrpSession :=
    { id := f.1, peer := p.index, hmac := p.mode == 1, port := h.port, src := h.src, sport := h.sport, nonce := nonce,
      key := (if p.mode = 1 then some (s.sessionKey f.1 nonce (r.1.body.getD 1 0) qc) else none), opened := s.now,
      reply := r.1, last := s.now, high := (match old with | some k => k.high | none => none),
      window := (match old with | some k => k.window | none => []), queue := (match old with | some k => k.queue | none => []),
      credit := 128000000, creditAt := s.now, subs := [], notes := [], noteSeq := 0, noted := none, gap := 0,
      counts := { discards := 0, busy := 0, old := 0, repeats := 0, lost := 0 } }
  let s := r.2.updJrp fun j =>
    { j with sessions := j.sessions ++ [x], kept := j.kept.filter (fun k => k.id != f.1), shadow := j.shadow.filter fun y => y.session != f.1 }
  (s.sendReply h.port h.src h.sport r.1).jrpPump

/-- An OPEN arrives (R582). -/
def jrpOpen (h : JrpHdr) (peer resume nonce : Nat) (qc : Option Nat) (sigOk : Bool) (s : State) : State :=
  if !s.jrpHears h ∨ !h.formOk then s
  else
    match s.jrp.peers.find? fun p => p.index == peer && p.addr == h.src with
    | none => s
    | some p =>
        if p.mode = 1 ∧ (qc.isNone ∨ !sigOk ∨ s.key.ops = none) then s
        else
          match s.jrp.sessions.find? fun x => x.peer == peer && x.nonce == nonce && decide (s.now ≤ x.opened + 5000000000) with
          | some x => s.sendReply h.port h.src h.sport x.reply
          | none =>
              if 4 ≤ (s.jrp.sessions.filter fun x => x.peer == peer).length ∨ 64 ≤ s.jrp.sessions.length then
                s.sendReply h.port h.src h.sport
                  { type := 2, target := s.use Reg.CHN.CFG_SYSNUM, mac := false, final := false, session := 0, txid := 0, epoch := s.get Reg.CHN.EPOCH,
                    claim := s.carriedClaim, code := 5, body := [] }
              else s.openSession h p resume nonce (qc.getD 0)

/-- A CLOSE arrives (R585). -/
def jrpClose (h : JrpHdr) (s : State) : State :=
  if !s.jrpHears h then s
  else if !h.formOk then s.jrpDiscard h.session
  else
    match s.jrpSessionOf h with
    | none => s
    | some x => if x.hmac ∧ !h.macOk then s.jrpDiscard x.id else s.closeSession x.id

/-- What is kept of a closed session is dropped once 60 s have passed since it closed; what came by mirror records, 60 s after the
takeover (R590). -/
def dropKept (id : Nat) (s : State) : State :=
  let past := fun t : Nat => decide (t + 60000000000 ≤ s.now)
  let acts := s.jrpActs && past s.jrp.takeover
  s.updJrp fun j =>
    { j with kept := j.kept.filter (fun k => !(k.id == id && past k.closed)),
             shadow := j.shadow.filter fun y => !(y.session == id && acts) }

/-- A session without a valid REQUEST for 30 s closes (R585). -/
def sessionTimeout (id : Nat) (s : State) : State :=
  s.when ((s.jrpSession id).any fun x => decide (x.last + 30000000000 ≤ s.now)) (closeSession id)

/-! ### Forwarded takes (R593) -/

/-- A command of a session no longer runs. -/
def endRunning (id txid : Nat) (s : State) : State :=
  s.updJrp fun j => { j with running := j.running.filter fun r => !(r.1 == id && r.2.txid == txid) }

/-- A part of a druse's salvo has answered ARM (R143): a refusal aborts every part; when all have answered OK the salvo is committed on
every chip. The SALVO_ARM is answered then. -/
def partAnswer (y : DruseSalvo) (sys code : Nat) (s : State) : State :=
  let y := { y with parts := y.parts.map fun p => if p.sys = sys then { p with answer := some code } else p }
  let run := s.jrp.running.any fun r => r.1 == y.session && r.2.txid == y.txid
  let tell := fun (code : Nat) (t : State) =>
    if run then ((t.endRunning y.session y.txid).answerCmd y.session y.txid (jrpDone code [0])).jrpPump else t
  if code ≠ 0 then
    let s := s.abortParts y
    tell code (match s.salvoOf y.gid with | some (v, z) => (s.runFab 11 z.peer [v]).2 | none => s)
  else if y.parts.all fun p => p.answer == some 0 then
    let s := (s.putDruseSalvo { y with phase := 2 }).sendParts 10 y
    tell 0 (match s.salvoOf y.gid with | some (v, z) => (s.runFab 10 z.peer [v]).2 | none => s)
  else s.putDruseSalvo y

/-- A member answers a forwarded take or the ARM of a salvo's part; its later answer with the final status is relayed as that. -/
def memberAnswer (id txid sys code : Nat) (fields : List Nat) (s : State) : State :=
  match s.jrp.salvos.find? fun y => y.phase == 1 && y.session == id && y.txid == txid && y.parts.any fun p => p.sys == sys with
  | some y => s.partAnswer y sys code
  | none =>
    match s.forwardOf id txid with
    | some f =>
        if code = 3 ∧ !f.again then
          let g := { f with again := true, sent := s.now }
          (s.updJrp fun j => { j with forwards := j.forwards.map fun y => if y = f then g else y }).sendForward g
        else
          let s := s.updJrp fun j => { j with forwards := j.forwards.filter fun y => y != f }
          if s.jrp.running.any fun r => r.1 == id && r.2.txid == txid then
            (((s.endRunning id txid).answerCmd id txid
              (if code = 0 then { code := 0, fields := [fields.getD 0 0, 0, 0], late := true, final := none } else jrpDone code [0, 0, 0]))).jrpPump
          else s
    | none =>
        if s.jrp.awaits.any fun w => w.session == id && w.txid == txid then s
        else s.jrpFinal id txid { code := code, flags := 0, epoch := fields.getD 1 0, tsw := fields.getD 2 0 }

/-- A member has had 50 ms to answer. -/
def answerLate (sent : Nat) (s : State) : Bool := decide (sent + 50000000 ≤ s.now)

/-- No answer within 50 ms: TIMEOUT is answered, and what was sent to members without answer is sent again under the same ID. -/
def forwardTimeout (id txid : Nat) (s : State) : State :=
  let late := fun t : State =>
    if t.jrp.running.any fun r => r.1 == id && r.2.txid == txid then
      ((t.endRunning id txid).answerCmd id txid (jrpDone 18 [0, 0, 0])).jrpPump
    else t
  match s.jrp.salvos.find? fun y => y.phase == 1 && y.session == id && y.txid == txid with
  | some y =>
      if s.answerLate y.sent then
        late ((s.putDruseSalvo { y with sent := s.now }).sendParts 9 { y with parts := y.parts.filter fun p => p.answer.isNone })
      else s
  | none =>
      match s.forwardOf id txid with
      | none => s
      | some f =>
          if s.answerLate f.sent then
            let g := { f with sent := s.now }
            late ((s.updJrp fun j => { j with forwards := j.forwards.map fun y => if y = f then g else y }).sendForward g)
          else s

/-! ### Messages of the druse bus (R145) -/

/-- A number of a message's body, most significant byte first. -/
def msgNat (l : List Byte) (at_ n : Nat) : Nat := ((l.drop at_).take n).foldl (fun a b => a * 256 + b.toNat) 0

/-- The firmware acts on a message from a member: SALVO_ARM for this chip arms the salvo of its global ID and is answered,
SALVO_COMMIT and SALVO_ABORT end it, and SALVO_ANSWER is the answer of a part. Repeats change nothing (R139, R142). -/
def actMessage (sender type : Nat) (body : List Byte) (s : State) : State :=
  if type = 3 then
    match s.jrp.salvos.find? fun y => y.phase == 1 && y.gid == msgNat body 0 4 && y.parts.any fun p => p.sys == sender with
    | some y => s.partAnswer y sender (msgNat body 4 2)
    | none => s
  else if !s.ownSys (msgNat body 0 4) then s
  else
    let gid := msgNat body 4 4
    match type, s.salvoOf gid with
    | 2, some (v, x) =>
        let r := s.runFab 9 x.peer [v, 0, msgNat body 12 4, msgNat body 8 4, msgNat body 16 4]
        r.2.emit (.salvoAnswer gid r.1)
    | 2, none => s.emit (.salvoAnswer gid 11)
    | 4, some (v, x) => (s.runFab 10 x.peer [v]).2
    | 5, some (v, x) => (s.runFab 11 x.peer [v]).2
    | _, _ => s

/-- The firmware acts on the messages received, in order. -/
def busMessages (s : State) : State :=
  (s.updGbus fun x => { x with msgs := [] }).each s.gbus.msgs fun m t => t.actMessage m.1 m.2.1 m.2.2

/-! ### Notifications (R594, R595) -/

/-- The body of a notification: its kind, its number, and the record. -/
def noteBody (n seq : Nat) : List Nat → List Nat := fun l => n :: seq :: l
def JrpNote.body (seq : Nat) : JrpNote → List Nat
  | .complete txid f => noteBody 1 seq [txid, f.code, f.flags, f.epoch, f.tsw]
  | .event fseq src sev data time merged => noteBody 2 seq [fseq, src, sev, data, time, merged]
  | .route out src tsw => noteBody 3 seq [out, src, tsw]
  | .tally sys l => noteBody 4 seq (sys :: l.map fun b => b.toNat)

/-- The next notification of a session is sent, 100 µs after the last at the earliest: a GAP after losses, else the oldest queued. -/
def notifySend (id : Nat) (s : State) : State :=
  match s.jrpSession id with
  | none => s
  | some x =>
      let send := fun (body : List Nat) (f : JrpSession → JrpSession) =>
        (s.updSession id fun y => f { y with noteSeq := (y.noteSeq + 1) % 2 ^ 32, noted := some s.now }).emit (.jrp x.port x.src x.sport
          { type := 5, target := s.use Reg.CHN.CFG_SYSNUM, mac := x.hmac, final := false, session := id, txid := 0, epoch := s.get Reg.CHN.EPOCH, claim := s.carriedClaim,
            code := 0, body := body })
      if x.noted.any fun t => decide (s.now < t + 100000) then s
      else if x.gap ≠ 0 then send (noteBody 5 x.noteSeq [x.gap]) fun y => { y with gap := 0 }
      else
        match x.notes with
        | [] => s
        | n :: l => send (JrpNote.body x.noteSeq n) fun y => { y with notes := l }

/-- The active receives a mirror acknowledgement, and answers what waited for it (R458, R589). -/
def mirrorAckRx (macOk : Bool) (seq : Nat) (s : State) : State :=
  let r := s.macCheck macOk
  if r.1 then (r.2.mirrorAck seq).jrpPump else r.2

end State

/-- JRP_OPEN (R582): an OPEN of a peer index with RESUME and a nonce. -/
def execJrpOpen (h : JrpHdr) (peer resume nonce : Nat) (qc : Option Nat) (sigOk : Bool) (s : State) : Host.Outcome State Fault Refusal :=
  .next (s.jrpOpen h peer resume nonce qc sigOk)

/-- CLOSE (R585). -/
def execClose (h : JrpHdr) (s : State) : Host.Outcome State Fault Refusal := .next (s.jrpClose h)

/-- SESSION_TIMEOUT (R585): 30 s without a valid REQUEST. -/
def execSessionTimeout (session : Nat) (s : State) : Host.Outcome State Fault Refusal := .next (s.sessionTimeout session)

/-- SESSION_RETAIN_EXPIRE (R590). -/
def execSessionRetainExpire (session : Nat) (s : State) : Host.Outcome State Fault Refusal := .next (s.dropKept session)

/-- NOP (R585), or an opcode that names no command. -/
def execNop (h : JrpHdr) (known : Bool) (s : State) : Host.Outcome State Fault Refusal := .next (s.jrpRequest h known .nop)

/-- JRP_TAKE (R591). -/
def execJrpTake (h : JrpHdr) (out src instant : Nat) (s : State) : Host.Outcome State Fault Refusal :=
  .next (s.jrpRequest h true (.fab 1 [out, src, instant]))

/-- JRP_CANCEL (R591). -/
def execJrpCancel (h : JrpHdr) (id : Nat) (s : State) : Host.Outcome State Fault Refusal := .next (s.jrpRequest h true (.fab 2 [id]))

/-- JRP_LOCK (R591). -/
def execJrpLock (h : JrpHdr) (out : Nat) (s : State) : Host.Outcome State Fault Refusal := .next (s.jrpRequest h true (.fab 3 [out]))

/-- JRP_UNLOCK (R591). -/
def execJrpUnlock (h : JrpHdr) (out : Nat) (s : State) : Host.Outcome State Fault Refusal := .next (s.jrpRequest h true (.fab 4 [out]))

/-- JRP_PROTECT (R591). -/
def execJrpProtect (h : JrpHdr) (out : Nat) (s : State) : Host.Outcome State Fault Refusal := .next (s.jrpRequest h true (.fab 5 [out]))

/-- JRP_UNPROTECT (R591). -/
def execJrpUnprotect (h : JrpHdr) (out : Nat) (s : State) : Host.Outcome State Fault Refusal := .next (s.jrpRequest h true (.fab 6 [out]))

/-- DTAKE (R593). -/
def execDtake (h : JrpHdr) (druse inPos outPos instant : Nat) (s : State) : Host.Outcome State Fault Refusal :=
  .next (s.jrpRequest h true (.dtake druse inPos outPos instant))

/-- DRUSE_FORWARD_TIMEOUT (R593). -/
def execDruseForwardTimeout (session txid : Nat) (s : State) : Host.Outcome State Fault Refusal := .next (s.forwardTimeout session txid)

/-- MEMBER_ANSWER (R593). -/
def execMemberAnswer (session txid code : Nat) (rest : MemberFields) (s : State) : Host.Outcome State Fault Refusal :=
  .next ((match rest.opened with | some o => s.sysnumCheck o.1 o.2 | none => s).memberAnswer session txid rest.sys code rest.fields)

/-- SALVO_OPEN (R591). -/
def execSalvoOpen (h : JrpHdr) (gid : Nat) (s : State) : Host.Outcome State Fault Refusal := .next (s.jrpRequest h true (.salvo 7 gid 0 0))

/-- SALVO_ADD (R591). -/
def execSalvoAdd (h : JrpHdr) (gid : Nat) (adds : SalvoAdds) (s : State) : Host.Outcome State Fault Refusal :=
  .next (s.jrpRequest h true (.salvoAdd gid adds.druse adds.takes))

/-- SALVO_ARM (R591). -/
def execSalvoArm (h : JrpHdr) (gid instant minlead : Nat) (s : State) : Host.Outcome State Fault Refusal :=
  .next (s.jrpRequest h true (.salvo 9 gid instant minlead))

/-- SALVO_COMMIT (R591). -/
def execSalvoCommit (h : JrpHdr) (gid : Nat) (s : State) : Host.Outcome State Fault Refusal := .next (s.jrpRequest h true (.salvo 10 gid 0 0))

/-- SALVO_ABORT (R591). -/
def execSalvoAbort (h : JrpHdr) (gid : Nat) (s : State) : Host.Outcome State Fault Refusal := .next (s.jrpRequest h true (.salvo 11 gid 0 0))

/-- JRP_CREATE (R591). -/
def execJrpCreate (h : JrpHdr) (args desc : List Nat) (s : State) : Host.Outcome State Fault Refusal :=
  .next (s.jrpRequest h true (.chn 1 args desc))

/-- JRP_DESTROY (R591). -/
def execJrpDestroy (h : JrpHdr) (handle : Nat) (s : State) : Host.Outcome State Fault Refusal :=
  .next (s.jrpRequest h true (.chn 2 [handle] []))

/-- JRP_APPEND (R591), or the claim of another chip's seed (R111). -/
def execJrpAppend (h : JrpHdr) (req : AppendReq) (s : State) : Host.Outcome State Fault Refusal :=
  .next (s.jrpRequest h true (match req.claimant with | some c => .claim req.args c.1 c.2 | none => .chn 3 req.args []))

/-- JRP_RESOLVE (R591). -/
def execJrpResolve (h : JrpHdr) (druse dir pos : Nat) (s : State) : Host.Outcome State Fault Refusal :=
  .next (s.jrpRequest h true (.chn 4 [druse, dir, pos] []))

/-- VOICE (R591). -/
def execVoice (h : JrpHdr) (op : Nat) (args : List Nat) (s : State) : Host.Outcome State Fault Refusal :=
  .next (s.jrpRequest h true (.voice op args))

/-- LAYER (R591). -/
def execLayer (h : JrpHdr) (engine op : Nat) (args : List Nat) (s : State) : Host.Outcome State Fault Refusal :=
  .next (s.jrpRequest h true (.layer engine op args))

/-- MICA_SET (R591). -/
def execMicaSet (h : JrpHdr) (engine : Nat) (words : List (Nat × Nat)) (commit : Bool) (s : State) : Host.Outcome State Fault Refusal :=
  .next (s.jrpRequest h true (.micaSet engine words commit))

/-- FLINT_LOAD (R591, R313). -/
def execFlintLoad (h : JrpHdr) (engine addr crc : Nat) (s : State) : Host.Outcome State Fault Refusal :=
  .next (s.jrpRequest h true (.flint engine addr crc))

/-- CNV_LOAD (R591). -/
def execCnvLoad (h : JrpHdr) (cnv lutsel first : Nat) (values : List Nat) (s : State) : Host.Outcome State Fault Refusal :=
  .next (s.jrpRequest h true (.cnvLoad cnv lutsel first values))

/-- CNV_SWAP (R591). -/
def execCnvSwap (h : JrpHdr) (cnv : Nat) (s : State) : Host.Outcome State Fault Refusal := .next (s.jrpRequest h true (.cnvSwap cnv))

/-- QUERY (R596). -/
def execQuery (h : JrpHdr) (object first count : Nat) (s : State) : Host.Outcome State Fault Refusal :=
  .next (s.jrpRequest h true (.query object first count))

/-- SUBSCRIBE (R594). -/
def execSubscribe (h : JrpHdr) (sub : JrpSub) (s : State) : Host.Outcome State Fault Refusal := .next (s.jrpRequest h true (.subscribe sub))

/-- UNSUBSCRIBE (R594). -/
def execUnsubscribe (h : JrpHdr) (number : Nat) (s : State) : Host.Outcome State Fault Refusal :=
  .next (s.jrpRequest h true (.unsubscribe number))

/-- JRP_ATTEST (R563, R591). -/
def execJrpAttest (h : JrpHdr) (nonce : List Byte) (s : State) : Host.Outcome State Fault Refusal := .next (s.jrpRequest h true (.attest nonce))

/-- UPD_STAGE (R568, R591). -/
def execUpdStage (h : JrpHdr) (op : Nat) (args : List Nat) (bytes : List Byte) (read : StageRead) (s : State) : Host.Outcome State Fault Refusal :=
  .next (s.jrpRequest h true (.updStage op args bytes read))

/-- UPD_CONFIRM (R570, R591). -/
def execUpdConfirm (h : JrpHdr) (s : State) : Host.Outcome State Fault Refusal := .next (s.jrpRequest h true .updConfirm)

/-- JRP_XCHG (R453, R591). -/
def execJrpXchg (h : JrpHdr) (s : State) : Host.Outcome State Fault Refusal := .next (s.jrpRequest h true .xchg)

/-- JRP_UPD_COMMIT (R569, R591). -/
def execJrpUpdCommit (h : JrpHdr) (mode trialWin trialMax : Nat) (env : StartEnv) (s : State) : Host.Outcome State Fault Refusal :=
  .next (s.jrpRequest h true (.updCommit mode trialWin trialMax env))

/-- JRP_LC_CHANGE (R555, R591). -/
def execJrpLcChange (h : JrpHdr) (target : Nat) (s : State) : Host.Outcome State Fault Refusal := .next (s.jrpRequest h true (.lcChange target))

/-- JRP_KEYMSG (R562, R591). -/
def execJrpKeymsg (h : JrpHdr) (msg : List Byte) (signer : Option Nat) (s : State) : Host.Outcome State Fault Refusal :=
  .next (s.jrpRequest h true (.keyMsg msg signer))

/-- FORCE_CLEAR (R131, R591). -/
def execForceClear (h : JrpHdr) (out : Nat) (s : State) : Host.Outcome State Fault Refusal := .next (s.jrpRequest h true (.forceClear out))

/-- FINAL_STATUS (R587): the firmware takes a completion record. -/
def execFinalStatus (s : State) : Host.Outcome State Fault Refusal := .next s.finalStatus

/-- NOTIFY_SEND (R595). -/
def execNotifySend (session : Nat) (s : State) : Host.Outcome State Fault Refusal := .next (s.notifySend session)

/-- MIRROR_ACK_RX (R458). -/
def execMirrorAckRx (macOk : Bool) (seq : Nat) (s : State) : Host.Outcome State Fault Refusal := .next (s.mirrorAckRx macOk seq)

end Sys2Proof.Machine
end

