-- ==== Sys2Proof/Machine/Ptp.lean ====
section
/-! DEFINITION. Chapter 15, network time in the firmware: the BMCA over the PTP ports, the follower's discipline of
the counter (R399), and the messages sent (R398). -/

namespace Sys2Proof.Machine

/-- The comparison of two data sets by the BMCA (R398, IEEE 1588-2019): the first is better. -/
def ptpBetter (a b : PtpDataset) : Bool :=
  if a.identity = b.identity then decide (a.stepsRemoved < b.stepsRemoved)
  else if a.priority1 ≠ b.priority1 then decide (a.priority1 < b.priority1)
  else if a.clockClass ≠ b.clockClass then decide (a.clockClass < b.clockClass)
  else if a.accuracy ≠ b.accuracy then decide (a.accuracy < b.accuracy)
  else if a.variance ≠ b.variance then decide (a.variance < b.variance)
  else if a.priority2 ≠ b.priority2 then decide (a.priority2 < b.priority2)
  else decide (a.identity < b.identity)

/-- A duration of 2^e seconds in ns, for an exponent of either sign. -/
def pow2Ns (e : Int) : Nat := if 0 ≤ e then 1000000000 * 2 ^ e.toNat else 1000000000 / 2 ^ (-e).toNat

namespace State

/-- The chip's own data set (R398, R421). -/
def ptpOwn (s : State) : PtpDataset :=
  let c := s.time.ptp.cfg
  { priority1 := c.priority1, clockClass := s.clockClass, accuracy := Config.ptpAccuracy s.clockClass, variance := 0xFFFF,
    priority2 := c.priority2, identity := c.identity, stepsRemoved := 0 }

/-- How long a sender counts that announces nothing more: announceReceiptTimeout announce intervals (R398). -/
def ptpReceipt (s : State) : Nat := s.time.ptp.cfg.receiptTimeout * pow2Ns s.time.ptp.cfg.logAnnounce

/-- The UTC offset and leap flags the chip announces as grandmaster: those last announced to it. -/
def ptpUtcOwn (s : State) : Int × Nat := s.time.ptp.utcSeen.getD (Config.ptpUtc, Config.ptpLeap)

/-- The chip may lead and its own data set is better than that of the best sender heard; with none heard, once it has listened for the
receipt timeout. -/
def ptpLeads (s : State) : Bool :=
  s.time.ptp.cfg.leader &&
    match s.time.ptp.parent with
    | none => decide (s.time.ptp.since + s.ptpReceipt ≤ s.now)
    | some b => ptpBetter s.ptpOwn b.ds

/-- What a leading port announces (R398): the chip's own data set, or as a boundary clock that of the grandmaster it follows. -/
def ptpAnnounced (s : State) : PtpBody :=
  match s.time.ptp.parent with
  | none => .announce s.ptpOwn s.ptpUtcOwn.1 s.ptpUtcOwn.2
  | some b =>
      if ptpBetter s.ptpOwn b.ds then .announce s.ptpOwn s.ptpUtcOwn.1 s.ptpUtcOwn.2
      else .announce { b.ds with stepsRemoved := b.ds.stepsRemoved + 1 } b.utc b.leap

/-- A message of the firmware, in its domain and under its identity. -/
def ptpMsg (seq : Nat) (uni : Bool) (corr : Int) (body : PtpBody) (s : State) : PtpMsg :=
  { domain := s.time.ptp.cfg.domain, seq := seq, source := s.time.ptp.cfg.identity, unicast := uni, correction := corr, body := body }

/-- The state the BMCA gives a PTP port: FOLLOWER where the best data set comes in, LEADER elsewhere when the chip may
lead, PASSIVE otherwise; LISTENING while nothing is heard. -/
def ptpDecide (p : Nat) (s : State) : PtpPortState :=
  match s.time.ptp.parent with
  | none => if s.ptpLeads then .leader else .listening
  | some b =>
      if s.ptpLeads then .leader
      else if b.port = p then .follower
      else if s.time.ptp.cfg.leader then .leader else .passive

/-- Set the state of one PTP port; a change raises PTP_PORT_STATE (R400). -/
def ptpSetPort (p : Nat) (s : State) : State :=
  let n := s.ptpDecide p
  if Assoc.findD s.time.ptp.ports p .listening = n then s
  else (s.updPtp fun x => { x with ports := Assoc.put x.ports p n }).raise 134 [p]

/-- Set the states of all PTP ports. -/
def ptpPorts (s : State) : State := s.each s.time.ptp.cfg.ports ptpSetPort

/-- The senders that still count. -/
def ptpHeard (s : State) : List PtpParent := s.time.ptp.foreign.filter fun b => decide (s.now < b.heard + s.ptpReceipt)

/-- The better of two senders: by data set, and for one grandmaster equally far away by the sender, then by the port. -/
def ptpPick (b : Option PtpParent) (x : PtpParent) : Option PtpParent :=
  match b with
  | none => some x
  | some y =>
      let same := x.ds.identity == y.ds.identity && x.ds.stepsRemoved == y.ds.stepsRemoved
      let nearer := decide (x.source < y.source) || (x.source == y.source && decide (x.port < y.port))
      if ptpBetter x.ds y.ds || (same && nearer) then some x else some y

/-- The grandmaster the BMCA selects: the chip itself, or the one the best sender follows; none while it listens. -/
def ptpGm (s : State) : Option Nat :=
  if s.ptpLeads then some s.time.ptp.cfg.identity else s.time.ptp.parent.map fun b => b.ds.identity

/-- The BMCA selects a grandmaster: one other than the one before raises GM_CHANGE, with the port it is heard on (R400). -/
def ptpSelected (s : State) : State :=
  if s.ptpGm.isNone ∨ s.ptpGm = s.time.ptp.gm then s
  else (s.updPtp fun x => { x with gm := s.ptpGm }).raise 135 (if s.ptpLeads then [] else (s.time.ptp.parent.map fun b => b.port).toList)

/-- The UTC offset or the leap flags announced are others than those announced before (R400). -/
def ptpUtcSeen (b : PtpParent) (s : State) : State :=
  if s.time.ptp.utcSeen = some (b.utc, b.leap) then s
  else (s.updPtp fun x => { x with utcSeen := some (b.utc, b.leap) }).when s.time.ptp.utcSeen.isSome (raise 138 [b.port])

/-- The BMCA over the senders that still count (R398): the best becomes the parent, whose samples begin anew where it is another, and
the ports take their states. -/
def ptpElect (s : State) : State :=
  let best := s.ptpHeard.foldl ptpPick none
  let same := (best.map fun b => (b.port, b.source)) == s.time.ptp.parent.map fun b => (b.port, b.source)
  let s := s.updPtp fun x => { x with foreign := s.ptpHeard, parent := best }
  let s := s.when (!same) (updPtp fun x => { x with sync := none, exch := none, delayReq := none, lastSync := s.now })
  let s := s.ptpSelected
  (match best with
   | some b => s.ptpUtcSeen b
   | none => s).ptpPorts

/-- An Announce: the sender's data set replaces its last, and the BMCA runs; the chip's own are discarded (R398, R400). -/
def ptpAnnounce (port source : Nat) (ds : PtpDataset) (utc : Int) (leap : Nat) (s : State) : State :=
  let new : PtpParent := { port := port, source := source, ds := ds, utc := utc, leap := leap, heard := s.now }
  let own := s.time.ptp.cfg.identity
  if ds.identity = own ∨ source = own then s
  else (s.updPtp fun x => { x with foreign := (x.foreign.filter fun b => b.port != port || b.source != source) ++ [new] }).ptpElect

/-- The firmware steps the counter by −offset (R399). -/
def ptpStep (off : Int) (s : State) : State :=
  let d := ofSigned 64 (-off)
  (s.updTime fun t => { t with stepLo := BitVec.ofNat 32 d }).timeFirmware 0x34 (BitVec.ofNat 32 (d / 2 ^ 32))

/-- The firmware writes an INCR: its frequency estimate less a correction no larger than SLEWMAX (R399). -/
def ptpSlew (off : Int) (s : State) : State :=
  let lim : Int := divRound (s.time.ptp.cfg.slewMaxPpb * 8589934592) 1000000000
  let v := (Config.ptpFreqEstimate s.incrInUse off - clampInt (-lim) lim (Config.ptpCorrection s.incrInUse off)).toNat
  (s.set Reg.TIME.INCRLO v).timeFirmware 0x24 (BitVec.ofNat 32 (v / 2 ^ 32))

/-- The follower's discipline for one offset (R399); the firmware writes its magnitude to GBUS.TERR (R481). -/
def ptpDiscipline (off : Int) (s : State) : State :=
  let c := s.time.ptp.cfg
  let a := off.natAbs
  let s := s.updPtp fun x =>
    { x with offset := off, lastSync := s.now, syncLost := false,
             belowSince := if a < 1000 then some (x.belowSince.getD s.now) else none }
  let overs := decide (c.alarmNs < a) && decide (c.alarmNs ≠ 0)
  let s := s.when (overs && !s.time.ptp.alarmed) (raise 137 [ofSigned 32 off])
  let s := (s.updPtp fun x => { x with alarmed := overs }).terrLand (BitVec.ofNat 32 (min a 0xFFFF))
  if s.time.ptp.first ∨ (s.inService ∧ c.stepLimitNs < a) then
    (s.ptpStep off).updPtp fun x => { x with first := false }
  else s.ptpSlew off

/-- A stamp was taken before the most recent step (R389). -/
def beforeStep (stamp : Nat) (s : State) : Bool := decide (stamp < s.get64 Reg.TIME.LASTSTEPLO Reg.TIME.LASTSTEPHI)

/-- A Sync exchange is complete: t1 sent, with its corrections, and t2 received. One that straddles a step is discarded (R389). -/
def ptpSyncDone (t1 : Int) (t2 : Nat) (s : State) : State :=
  if s.beforeStep t2 then s.updPtp fun x => { x with sync := none, exch := none, lastSync := s.now, syncLost := false }
  else (s.updPtp fun x => { x with exch := some (t1, t2), sync := none }).ptpDiscipline ((t2 : Int) - t1 - s.time.ptp.pathDelay)

/-- The message is from the parent, through its port. -/
def ptpFromParent (port source : Nat) (s : State) : Bool :=
  match s.time.ptp.parent with
  | some b => decide (b.port = port) && decide (b.source = source) &&
      decide (Assoc.findD s.time.ptp.ports port .listening = .follower)
  | none => false

/-- ST 2059-2 metadata read as follower is passed to the lodestone (R398). -/
def ptpSmd (smd : List Word) (s : State) : State :=
  if smd.isEmpty then s
  else (s.updPtp fun x => { x with smd := smd }).each ((List.range 4).zip smd) fun p t => t.set (Reg.LODE.SMD p.1) p.2.toNat

/-- A Delay_Resp completes a delay measurement with the last Sync exchange (R398). One that straddles a step is discarded (R389). -/
def ptpDelayDone (q t4 : Nat) (corr : Int) (s : State) : State :=
  match s.time.ptp.delayReq, s.time.ptp.exch with
  | some (q', t3), some (t1, t2) =>
      if q' ≠ q then s
      else if s.beforeStep t3 ∨ s.beforeStep t2 then s.updPtp fun x => { x with delayReq := none }
      else s.updPtp fun x => { x with pathDelay := divFree 398 (((t2 : Int) - t1) + ((t4 : Int) - t3) - corr) 2, delayReq := none }
  | _, _ => s

/-- A PTP message from ring 0 (R398): other domains, other ports and unsupported messages are discarded. -/
def ptpReceive (port stamp : Nat) (msg : PtpMsg) (s : State) : State :=
  let c := s.time.ptp.cfg
  if !c.ports.contains port || decide (msg.domain ≠ c.domain) then s
  else
    match msg.body with
    | .announce ds utc leap => s.ptpAnnounce port msg.source ds utc leap
    | .syncOneStep t1 smd => s.when (s.ptpFromParent port msg.source) fun s => (s.ptpSmd smd).ptpSyncDone (t1 + msg.correction) stamp
    | .syncTwoStep => s.when (s.ptpFromParent port msg.source)
        (updPtp fun x => { x with sync := some (msg.seq, stamp, msg.correction) })
    | .followUp t1 smd =>
        if s.ptpFromParent port msg.source then
          match s.time.ptp.sync with
          | some (q, t2, corr) => if q = msg.seq then (s.ptpSmd smd).ptpSyncDone (t1 + corr + msg.correction) t2 else s
          | none => s
        else s
    | .delayReq requester =>
        s.when (decide (Assoc.findD s.time.ptp.ports port .listening = .leader))
          (emit (.ptp port (s.ptpMsg msg.seq msg.unicast msg.correction (.delayResp requester stamp))))
    | .delayResp requester t4 =>
        s.when (s.ptpFromParent port msg.source && decide (requester = c.identity)) (ptpDelayDone msg.seq t4 msg.correction)
    | .other => s

/-- The next sequence number of a message type the firmware sends on a port. -/
def ptpSeqKey (port : Nat) : PtpKind → Nat
  | .sync => 4 * port
  | .followUp => 4 * port
  | .announce => 4 * port + 1
  | .delayReq => 4 * port + 2
  | .delayResp => 4 * port + 3

/-- The interval at which a message type is sent (R398). -/
def ptpInterval (kind : PtpKind) (s : State) : Nat :=
  match kind with
  | .sync | .followUp | .delayResp => pow2Ns s.time.ptp.cfg.logSync
  | .announce => pow2Ns s.time.ptp.cfg.logAnnounce
  | .delayReq => pow2Ns s.time.ptp.cfg.logDelayReq

/-- The interval of a message type has passed on a port since the last was sent. -/
def ptpDue (port : Nat) (kind : PtpKind) (s : State) : Bool :=
  match Assoc.find s.time.ptp.sent (ptpSeqKey port kind) with
  | none => true
  | some t => decide (t + s.ptpInterval kind ≤ s.now)

/-- The firmware sends a message its port's state lets it send, once its interval has passed: Sync with its Follow_Up and Announce as
leader, Delay_Req as follower, unicast in hybrid mode; a leader's Follow_Up carries the ST 2059-2 metadata of the lodestone (R398). -/
def ptpSend (port : Nat) (kind : PtpKind) (stamp : Nat) (s : State) : State :=
  if !s.time.ptp.cfg.ports.contains port then s
  else
    let s := s.ptpElect
    let key := ptpSeqKey port kind
    let q := Assoc.findD s.time.ptp.seqs key 0
    let go := s.updPtp fun x => { x with seqs := Assoc.put x.seqs key ((q + 1) % 65536), sent := Assoc.put x.sent key s.now }
    if !s.ptpDue port kind then s
    else
      match kind, Assoc.findD s.time.ptp.ports port .listening with
      | .sync, .leader => (go.emit (.ptp port (s.ptpMsg q false 0 .syncTwoStep))).emit
          (.ptp port (s.ptpMsg q false 0 (.followUp stamp ((List.range 4).map fun j => s.rd (Reg.LODE.SMD j).addr))))
      | .announce, .leader => go.emit (.ptp port (s.ptpMsg q false 0 s.ptpAnnounced))
      | .delayReq, .follower =>
          (go.emit (.ptp port (s.ptpMsg q s.time.ptp.cfg.hybrid 0 (.delayReq s.time.ptp.cfg.identity)))).updPtp
            fun x => { x with delayReq := some (q, stamp) }
      | _, _ => s

/-- No Sync for announceReceiptTimeout announce intervals: INCR is held, the lodestone is told (R399); a sender that announces no more
is given up (R398). -/
def ptpSyncTimeout (s : State) : State :=
  let p := s.time.ptp
  if p.parent.isSome ∧ !p.syncLost ∧ p.lastSync + s.ptpReceipt ≤ s.now then
    (((s.updPtp fun x => { x with syncLost := true, belowSince := none, locked := false, first := true }).raise 136 []).ptpstatLand false).ptpElect
  else s

/-- |offset| has stayed below 1 µs for 10 s: network time is declared locked, and PTP is qualified (R399, R405). -/
def ptpLocked (s : State) : State :=
  match s.time.ptp.belowSince with
  | some t =>
      if t + 10000000000 ≤ s.now ∧ !s.time.ptp.locked then
        (s.updPtp fun x => { x with locked := true }).ptpstatLand true
      else s
  | none => s

end State

/-- PTP_MESSAGE_RX (R398). -/
def execPtpMessageRx (port stamp : Nat) (msg : PtpMsg) (s : State) : Host.Outcome State Fault Refusal :=
  .next (s.ptpReceive port stamp msg)

/-- PTP_MESSAGE_SEND (R398). -/
def execPtpMessageSend (port : Nat) (kind : PtpKind) (stamp : Nat) (s : State) : Host.Outcome State Fault Refusal :=
  .next (s.ptpSend port kind stamp)

/-- SYNC_TIMEOUT (R399). -/
def execSyncTimeout (s : State) : Host.Outcome State Fault Refusal := .next s.ptpSyncTimeout

/-- NETWORK_TIME_LOCKED (R399). -/
def execNetworkTimeLocked (s : State) : Host.Outcome State Fault Refusal := .next s.ptpLocked

end Sys2Proof.Machine
end

