-- ==== Sys2Proof/Machine/RegRows.lean ====
section
/-! DEFINITION. The commands that are a write of one register, by a master of the bus matrix: the write is issued and judged
like any other, and takes effect in its block. -/

namespace Sys2Proof.Machine

/-- The word of a take-mailbox command. -/
def takeCmdWord (peer op : Nat) : Word := BitVec.ofNat 32 (peer % 256 * 65536 + op)

/-- The word of an AUX command: operation, address and length less one. -/
def auxCmdWord (op addr len : Nat) : Word := BitVec.ofNat 32 (op * 2 ^ 28 + addr % 2 ^ 20 * 16 + len % 16)

/-- A table access through LUTDATA: a write, or a read answered to its master. -/
def State.lutAccess (m addr : Nat) (write : Bool) (data : Word) (s : State) : State :=
  if write then s.writeNow m addr data else s.busRead m addr 4 false

/-- CREATE (R101). -/
def execCreate (m : Nat) (s : State) : Host.Outcome State Fault Refusal :=
  .next (s.writeNow m Reg.CHN.REQCMD.addr 1)

/-- DESTROY (R103). -/
def execDestroy (m : Nat) (s : State) : Host.Outcome State Fault Refusal :=
  .next (s.writeNow m Reg.CHN.REQCMD.addr 2)

/-- APPEND (R109). -/
def execAppend (m : Nat) (s : State) : Host.Outcome State Fault Refusal :=
  .next (s.writeNow m Reg.CHN.REQCMD.addr 3)

/-- RESOLVE (R108). -/
def execResolve (m : Nat) (s : State) : Host.Outcome State Fault Refusal :=
  .next (s.writeNow m Reg.CHN.REQCMD.addr 4)

/-- CHN_LOWMARK_WRITE (R116). -/
def execChnLowmarkWrite (m : Nat) (data : Word) (s : State) : Host.Outcome State Fault Refusal :=
  .next (s.writeNow m Reg.CHN.LOWMARK.addr data)

/-- TAKE (R120), by a peer. -/
def execTake (m peer : Nat) (s : State) : Host.Outcome State Fault Refusal :=
  .next (s.writeNow m Reg.FAB.TAKECMD_OP.addr (takeCmdWord peer 1))

/-- CANCEL (R135), by a peer. -/
def execCancel (m peer : Nat) (s : State) : Host.Outcome State Fault Refusal :=
  .next (s.writeNow m Reg.FAB.TAKECMD_OP.addr (takeCmdWord peer 2))

/-- LOCK (R131), by a peer. -/
def execLock (m peer : Nat) (s : State) : Host.Outcome State Fault Refusal :=
  .next (s.writeNow m Reg.FAB.TAKECMD_OP.addr (takeCmdWord peer 3))

/-- UNLOCK_OUTPUT (R131), by a peer. -/
def execUnlockOutput (m peer : Nat) (s : State) : Host.Outcome State Fault Refusal :=
  .next (s.writeNow m Reg.FAB.TAKECMD_OP.addr (takeCmdWord peer 4))

/-- PROTECT (R131), by a peer. -/
def execProtect (m peer : Nat) (s : State) : Host.Outcome State Fault Refusal :=
  .next (s.writeNow m Reg.FAB.TAKECMD_OP.addr (takeCmdWord peer 5))

/-- UNPROTECT (R131), by a peer. -/
def execUnprotect (m peer : Nat) (s : State) : Host.Outcome State Fault Refusal :=
  .next (s.writeNow m Reg.FAB.TAKECMD_OP.addr (takeCmdWord peer 6))

/-- OPEN (R139), by a peer. -/
def execOpenGid (m peer : Nat) (s : State) : Host.Outcome State Fault Refusal :=
  .next (s.writeNow m Reg.FAB.TAKECMD_OP.addr (takeCmdWord peer 7))

/-- ADD (R139), by a peer. -/
def execAdd (m peer : Nat) (s : State) : Host.Outcome State Fault Refusal :=
  .next (s.writeNow m Reg.FAB.TAKECMD_OP.addr (takeCmdWord peer 8))

/-- ARM (R140), by a peer. -/
def execArm (m peer : Nat) (s : State) : Host.Outcome State Fault Refusal :=
  .next (s.writeNow m Reg.FAB.TAKECMD_OP.addr (takeCmdWord peer 9))

/-- COMMIT (R141), by a peer. -/
def execCommit (m peer : Nat) (s : State) : Host.Outcome State Fault Refusal :=
  .next (s.writeNow m Reg.FAB.TAKECMD_OP.addr (takeCmdWord peer 10))

/-- ABORT (R142), by a peer. -/
def execAbort (m peer : Nat) (s : State) : Host.Outcome State Fault Refusal :=
  .next (s.writeNow m Reg.FAB.TAKECMD_OP.addr (takeCmdWord peer 11))

/-- TCQPOP (R150). -/
def execTcqpop (m : Nat) (data : Word) (s : State) : Host.Outcome State Fault Refusal :=
  .next (s.writeNow m Reg.FAB.TCQPOP.addr data)

/-- OUTCLR (R169). -/
def execOutclr (m : Nat) (data : Word) (s : State) : Host.Outcome State Fault Refusal :=
  .next (s.writeNow m Reg.PROV.OUTCLR_GO.addr data)

/-- CHKINV_WRITE (R175). -/
def execChkinvWrite (m : Nat) (data : Word) (s : State) : Host.Outcome State Fault Refusal :=
  .next (s.writeNow m Reg.PROV.CHKINV_ARM.addr data)

/-- TOKINJ_WRITE (R176). -/
def execTokinjWrite (m : Nat) (data : Word) (s : State) : Host.Outcome State Fault Refusal :=
  .next (s.writeNow m Reg.PROV.TOKINJ_ARM.addr data)

/-- SOURCE (R256). -/
def execSource (m : Nat) (s : State) : Host.Outcome State Fault Refusal :=
  .next (s.writeNow m Reg.AUD.MAPCMD.addr 1)

/-- COUPLE (R256). -/
def execCouple (m : Nat) (s : State) : Host.Outcome State Fault Refusal :=
  .next (s.writeNow m Reg.AUD.MAPCMD.addr 2)

/-- GAIN (R258). -/
def execGain (m : Nat) (s : State) : Host.Outcome State Fault Refusal :=
  .next (s.writeNow m Reg.AUD.MAPCMD.addr 3)

/-- MUTE (R258). -/
def execMute (m : Nat) (s : State) : Host.Outcome State Fault Refusal :=
  .next (s.writeNow m Reg.AUD.MAPCMD.addr 4)

/-- XFMODE (R256). -/
def execXfmode (m : Nat) (s : State) : Host.Outcome State Fault Refusal :=
  .next (s.writeNow m Reg.AUD.MAPCMD.addr 5)

/-- SWAP (R285) of converter `n`. -/
def execSwap (m n : Nat) (data : Word) (s : State) : Host.Outcome State Fault Refusal :=
  .next (s.when (decide (n < 32)) (State.writeNow m (Reg.CNV.SWAP n).addr data))

/-- BIND (R304) of mica engine `g`. -/
def execBind (m g : Nat) (s : State) : Host.Outcome State Fault Refusal :=
  .next (s.when (decide (g < 8)) (State.writeNow m (Reg.MICA.LAYCMD g).addr 1))

/-- REBIND (R306) of mica engine `g`. -/
def execRebind (m g : Nat) (s : State) : Host.Outcome State Fault Refusal :=
  .next (s.when (decide (g < 8)) (State.writeNow m (Reg.MICA.LAYCMD g).addr 2))

/-- UNBIND (R306) of mica engine `g`. -/
def execUnbind (m g : Nat) (s : State) : Host.Outcome State Fault Refusal :=
  .next (s.when (decide (g < 8)) (State.writeNow m (Reg.MICA.LAYCMD g).addr 3))

/-- MICA_COMMIT (R299) of engine `g`. -/
def execMicaCommit (m g : Nat) (data : Word) (s : State) : Host.Outcome State Fault Refusal :=
  .next (s.when (decide (g < 8)) (State.writeNow m (Reg.MICA.COMMIT g).addr data))

/-- REFLATTEN (R308) of engine `g`. -/
def execReflatten (m g : Nat) (data : Word) (s : State) : Host.Outcome State Fault Refusal :=
  .next (s.when (decide (g < 8)) (State.writeNow m (Reg.MICA.REFLATTEN g).addr data))

/-- FLINTLOAD_GO (R312) of engine `g`. -/
def execFlintloadGo (m g : Nat) (data : Word) (s : State) : Host.Outcome State Fault Refusal :=
  .next (s.when (decide (g < 8)) (State.writeNow m (Reg.MICA.FLINTLOAD_GO g).addr data))

/-- FLIP (R327). -/
def execFlip (m : Nat) (data : Word) (s : State) : Host.Outcome State Fault Refusal :=
  .next (s.writeNow m Reg.SCAN.FLIP.addr data)

/-- PSREXIT (R328). -/
def execPsrexit (m : Nat) (data : Word) (s : State) : Host.Outcome State Fault Refusal :=
  .next (s.writeNow m Reg.SCAN.PSREXIT.addr data)

/-- NATIVE_READ (R329). -/
def execNativeRead (m addr len : Nat) (s : State) : Host.Outcome State Fault Refusal :=
  .next (s.writeNow m Reg.SCAN.AUXCMD_OP.addr (auxCmdWord 1 addr len))

/-- NATIVE_WRITE (R329). -/
def execNativeWrite (m addr len : Nat) (s : State) : Host.Outcome State Fault Refusal :=
  .next (s.writeNow m Reg.SCAN.AUXCMD_OP.addr (auxCmdWord 2 addr len))

/-- I2C_READ (R329). -/
def execI2cRead (m addr len : Nat) (s : State) : Host.Outcome State Fault Refusal :=
  .next (s.writeNow m Reg.SCAN.AUXCMD_OP.addr (auxCmdWord 3 addr len))

/-- I2C_WRITE (R329). -/
def execI2cWrite (m addr len : Nat) (s : State) : Host.Outcome State Fault Refusal :=
  .next (s.writeNow m Reg.SCAN.AUXCMD_OP.addr (auxCmdWord 4 addr len))

/-- TXEQ_WRITE (R346) of lane `n`. -/
def execTxeqWrite (m n : Nat) (data : Word) (s : State) : Host.Outcome State Fault Refusal :=
  .next (s.when (decide (n < 512)) (State.writeNow m (Reg.LANE.TXEQ_PRE n).addr data))

/-- LANE_CFG_WRITE (R354) of lane `n`. -/
def execLaneCfgWrite (m n : Nat) (data : Word) (s : State) : Host.Outcome State Fault Refusal :=
  .next (s.when (decide (n < 512)) (State.writeNow m (Reg.LANE.CFG_RXMODE n).addr data))

/-- TXKICK (R376) of port `p`. -/
def execTxkick (m p : Nat) (data : Word) (s : State) : Host.Outcome State Fault Refusal :=
  .next (s.when (decide (p < 66)) (State.writeNow m (Reg.ETH.TXKICK p).addr data))

/-- STATSNAP (R377) of port `p`. -/
def execStatsnap (m p : Nat) (data : Word) (s : State) : Host.Outcome State Fault Refusal :=
  .next (s.when (decide (p < 66)) (State.writeNow m (Reg.ETH.STATSNAP p).addr data))

/-- INCR_WRITE (R384). -/
def execIncrWrite (m : Nat) (data : Word) (s : State) : Host.Outcome State Fault Refusal :=
  .next (s.writeNow m Reg.TIME.INCRHI.addr data)

/-- STEP_WRITE (R387). -/
def execStepWrite (m : Nat) (data : Word) (s : State) : Host.Outcome State Fault Refusal :=
  .next (s.writeNow m Reg.TIME.STEPHI.addr data)

/-- TIME_MODE_WRITE (R393): a write of TIME.CTRL. -/
def execTimeModeWrite (m : Nat) (data : Word) (s : State) : Host.Outcome State Fault Refusal :=
  .next (s.writeNow m 0x12000000 data)

/-- TXQ_POP (R397) of a port. -/
def execTxqPop (m port : Nat) (data : Word) (s : State) : Host.Outcome State Fault Refusal :=
  .next (s.when (decide (port < 64)) (State.writeNow m (Reg.TIME.TXQ_POP port).addr data))

/-- PTPSTAT_WRITE (R405). -/
def execPtpstatWrite (m : Nat) (data : Word) (s : State) : Host.Outcome State Fault Refusal :=
  .next (s.writeNow m Reg.LODE.PTPSTAT.addr data)

/-- SEL_WRITE (R407) of PRIO or SEL. -/
def execSelWrite (m : Nat) (prio : Bool) (data : Word) (s : State) : Host.Outcome State Fault Refusal :=
  .next (s.writeNow m (if prio then Reg.LODE.PRIO.addr else Reg.LODE.SEL_AUTO.addr) data)

/-- LOOPSTEP_WRITE (R414). -/
def execLoopstepWrite (m : Nat) (data : Word) (s : State) : Host.Outcome State Fault Refusal :=
  .next (s.writeNow m Reg.LODE.LOOPSTEP.addr data)

/-- PLANE_STEP (R415) of plane `p`. -/
def execPlaneStep (m p : Nat) (data : Word) (s : State) : Host.Outcome State Fault Refusal :=
  .next (s.when (decide (p < 16)) (State.writeNow m (Reg.LODE.PLANE_STEP p).addr data))

/-- DRC_CHKINV_WRITE (R440). -/
def execDrcChkinvWrite (m : Nat) (data : Word) (s : State) : Host.Outcome State Fault Refusal :=
  .next (s.writeNow m Reg.DRCC.CHKINV_ARM.addr data)

/-- DWBANK_WRITE (R37). -/
def execDwbankWrite (m : Nat) (data : Word) (s : State) : Host.Outcome State Fault Refusal :=
  .next (s.writeNow m Reg.MGT.DWBANK.addr data)

/-- RECOVER (R452). -/
def execRecover (m : Nat) (s : State) : Host.Outcome State Fault Refusal :=
  .next (s.writeNow m Reg.TWIN.RECOVER.addr 1)

/-- XCHG (R453). -/
def execXchg (m : Nat) (s : State) : Host.Outcome State Fault Refusal :=
  .next (s.writeNow m Reg.TWIN.XCHG.addr 1)

/-- TXGO (R475). -/
def execTxgo (m : Nat) (s : State) : Host.Outcome State Fault Refusal :=
  .next (s.writeNow m Reg.GBUS.TXGO.addr 1)

/-- TERR_WRITE (R481). -/
def execTerrWrite (m : Nat) (data : Word) (s : State) : Host.Outcome State Fault Refusal :=
  .next (s.writeNow m Reg.GBUS.TERR.addr data)

/-- GBUS_POP (R478). -/
def execGbusPop (m : Nat) (s : State) : Host.Outcome State Fault Refusal :=
  .next (s.writeNow m Reg.GBUS.POP.addr 1)

/-- ACK (R493) of a handling slot. -/
def execAck (m slot : Nat) (data : Word) (s : State) : Host.Outcome State Fault Refusal :=
  .next (s.when (decide (slot < 4)) (State.writeNow m (Reg.FLT.SLOT_ACK slot).addr data))

/-- SAFECLR (R495). -/
def execSafeclr (m : Nat) (data : Word) (s : State) : Host.Outcome State Fault Refusal :=
  .next (s.writeNow m Reg.FLT.SAFECLR.addr data)

/-- HISTCLR (R496). -/
def execHistclr (m : Nat) (data : Word) (s : State) : Host.Outcome State Fault Refusal :=
  .next (s.writeNow m Reg.FLT.HISTCLR.addr data)

/-- PINTEST (R503). -/
def execPintest (m : Nat) (data : Word) (s : State) : Host.Outcome State Fault Refusal :=
  .next (s.writeNow m Reg.FLT.PINTEST.addr data)

/-- WDSVC (R508). -/
def execWdsvc (m : Nat) (key : Word) (s : State) : Host.Outcome State Fault Refusal :=
  .next (s.writeNow m Reg.MGT.WDSVC.addr key)

/-- REMAP_WRITE (R516): a write of BMX.CTRL. -/
def execRemapWrite (m : Nat) (data : Word) (s : State) : Host.Outcome State Fault Refusal :=
  .next (s.writeNow m Reg.BMX.CTRL_REMAP.addr data)

/-- DMA_GO (R517) of engine `k`. -/
def execDmaGo (m k : Nat) (data : Word) (s : State) : Host.Outcome State Fault Refusal :=
  .next (s.when (decide (k < 2)) (State.writeNow m (Reg.MGT.DMA_GO k).addr data))

/-- TRIG (R520). -/
def execTrig (m : Nat) (data : Word) (s : State) : Host.Outcome State Fault Refusal :=
  .next (s.writeNow m Reg.SNS.TRIG.addr data)

/-- LC_CHANGE (R557) to a state. -/
def execLcChange (m target : Nat) (s : State) : Host.Outcome State Fault Refusal :=
  .next (s.writeNow m Reg.KEY.CMD_OP.addr (BitVec.ofNat 32 (target % 16 * 16 + 1)))

/-- ATTEST (R563). -/
def execAttest (m : Nat) (s : State) : Host.Outcome State Fault Refusal :=
  .next (s.writeNow m Reg.KEY.CMD_OP.addr 3)

/-- BEGIN (R568). -/
def execBegin (m : Nat) (s : State) : Host.Outcome State Fault Refusal :=
  .next (s.writeNow m Reg.UPD.CMD.addr 1)

/-- WRITE (R568). -/
def execWrite (m : Nat) (s : State) : Host.Outcome State Fault Refusal :=
  .next (s.writeNow m Reg.UPD.CMD.addr 2)

/-- CONFIRM (R570). -/
def execConfirm (m : Nat) (s : State) : Host.Outcome State Fault Refusal :=
  .next (s.writeNow m Reg.UPD.CMD.addr 5)

/-- UPD_ABORT (R568). -/
def execUpdAbort (m : Nat) (s : State) : Host.Outcome State Fault Refusal :=
  .next (s.writeNow m Reg.UPD.CMD.addr 6)

/-- CNV_LUTDATA_ACCESS (R285) of converter `n`. -/
def execCnvLutdataAccess (m n : Nat) (write : Bool) (data : Word) (s : State) : Host.Outcome State Fault Refusal :=
  .next (s.when (decide (n < 32)) (State.lutAccess m (Reg.CNV.LUTDATA n).addr write data))

/-- MICA_LUTDATA_ACCESS (R303) of engine `g`. -/
def execMicaLutdataAccess (m g : Nat) (write : Bool) (data : Word) (s : State) : Host.Outcome State Fault Refusal :=
  .next (s.when (decide (g < 8)) (State.lutAccess m (Reg.MICA.LUTDATA g).addr write data))

end Sys2Proof.Machine
end

