-- ==== Sys2Proof/Machine/Scrub.lean ====
section
/-! DEFINITION. Memory errors as their readers meet them: the background scrub of on-chip memories (R174) and reads of DRAM
under inline ECC with what each client makes of an uncorrectable error (R437). -/

namespace Sys2Proof.Machine

namespace State

/-! ### The scrub (R174) -/

/-- An uncorrectable error in mica layer memory: part 1 is the active flint bank (R316), the rest the table that the word is of
(R320). -/
def micaUnc (g part addr : Nat) (s : State) : State :=
  if part = 1 then (s.bump (Reg.PROV.ECC_UNCORR 9) 1).flintBankBad g
  else s.micaTableBad g (addr % 1048576)

/-- An uncorrectable error in a media memory poisons the frame, or the block of samples, that it strikes: a packet's frame, a
block of a voice. -/
def packetUnc (flow : Nat) (s : State) : State :=
  (s.bump (Reg.PROV.ECC_UNCORR 1) 1).updRxf flow fun x =>
    { x with pkts := match x.pkts with | p :: ps => { p with struck := true } :: ps | [] => [] }
def sampleUnc (voice : Nat) (s : State) : State :=
  (s.bump (Reg.PROV.ECC_UNCORR 7) 1).updAud fun x =>
    { x with ins := Assoc.modify x.ins voice fun v => { v with cur := v.cur.map fun _ => silence } }

/-- The scrub reads a word of a memory. -/
def scrubRead (mem addr flips unit part : Nat) (s : State) : State :=
  if 12 ≤ mem then s
  else if mem = 0 then s.storeEcc unit [flips]
  else if mem = 8 then (s.tableWords 8 (cnvCause unit 5) [(addr, flips)]).1
  else
    let q := s.wordBad mem addr flips
    if q.1 = 0 then q.2
    else if q.1 = 1 then q.2.sramCor mem addr
    else
      match mem with
      | 1 => q.2.packetUnc unit
      | 7 => q.2.sampleUnc unit
      | 9 => q.2.micaUnc unit part addr
      | _ => q.2.sramUnc mem addr

/-! ### DRAM reads (R437) -/

/-- What a client makes of an uncorrectable error in the data it reads: a media client poisons the frame it was reading, an
audio client enters the block as silence, a C2 requester receives an error response. -/
def dramUnc (client : DramClient) (addr : Nat) (s : State) : State :=
  match client with
  | .frameSync u k => s.poisonIng (s.get (Reg.FAB.FS_SCFG_RETENT u k))
  | .hold e => s.readHeld e true
  | .mica g =>
      match s.chanIng (handleIdx (s.get (Reg.MICA.CHAN g))) with
      | some i => s.when (s.get (Reg.MICA.CHAN g) != 0) (poisonIng i)
      | none => s
  | .decimator d => s.updDec d fun x => { x with newest := x.newest.map fun f => { f with cause := 5 } }
  | .audio flow => s.updRxf flow fun x =>
      { x with audio := (x.audio.take 64).map (fun p => (p.1, p.2.map fun _ => silence)) ++ x.audio.drop 64 }
  | .requester m => let e := s.dataErr m addr; e.2.answer m ⟨5, 0⟩
  | .scan | .scrub => s

/-- A read of DRAM is served and checked. -/
def dramServed (addr len cls : Nat) (client : DramClient) (flips : Nat) (s : State) : State :=
  if !s.dramUp ∨ !s.dramExists (addr + len - 1) then s
  else
    let q := (s.countUnits addr len (cls % 4)).eccCheck addr len flips
    if q.1 = 2 then q.2.dramUnc client addr else q.2

end State

/-- SCRUB_READ (R174) of a word of memory `mem`, numbered as PROV.CHKINV.MEM. -/
def execScrubRead (mem addr flips unit part : Nat) (s : State) : Host.Outcome State Fault Refusal :=
  .next (s.scrubRead mem addr flips unit part)

/-- DRAM_READ (R437) of `len` bytes in class `cls`. -/
def execDramRead (addr len cls : Nat) (client : DramClient) (flips : Nat) (s : State) : Host.Outcome State Fault Refusal :=
  .next (s.dramServed addr len cls client flips)

end Sys2Proof.Machine
end

