-- ==== Sys2Proof/Machine/Sp.lean ====
section
/-! DEFINITION. Chapter 21, the service port (R522–R525, R530): frames, the transaction in flight, and STATUS. -/

namespace Sys2Proof.Machine

/-- The CRC-8 that ends a frame (R522). -/
def spCrc (l : List Byte) : Nat := crcBytes 8 0x07 0 l

/-- What the port makes of a frame. -/
inductive SpFrame where
  | write (addr : Nat) (data : Word)
  | read (addr : Nat)
  | status
  | bad
  deriving DecidableEq, Repr

/-- A frame is judged by its command, its length and its CRC; fields come most significant byte first (R522). -/
def spFrame (l : List Byte) : SpFrame :=
  let body := l.take (l.length - 1)
  if l.length < 2 ∨ spCrc body ≠ (l.getLastD 0).toNat then .bad
  else
    let addr := beNat ((l.drop 1).take 4)
    match (l.headD 0).toNat, l.length with
    | 0x02, 10 => .write addr (BitVec.ofNat 32 (beNat ((l.drop 5).take 4)))
    | 0x0B, 6 => .read addr
    | 0x05, 2 => .status
    | _, _ => .bad

namespace State

/-- Change the service port. -/
def updSp (f : SpPort → SpPort) (s : State) : State := s.updMgt fun g => { g with sp := f g.sp }

/-- The port answers from step 1 of the start on (R530). -/
def spUp (s : State) : Bool := decide (1 ≤ s.get Reg.CFG.STAT_STEP)

/-- SP_FRAME (R522). -/
def spDiscard (s : State) : State :=
  (((s.set Reg.MGT.STAT_SPCRC 1).bump Reg.MGT.SPCNT_CRCERR 1).raise 36 []).updSp fun p => { p with crcErr := true, lost := true }

/-- A frame comes while the previous transaction is not done (R522, R524). -/
def spLost (s : State) : State := (s.bump Reg.MGT.SPCNT_LOST 1).updSp fun p => { p with lost := true }

/-- A transaction is issued to the bus matrix as master 7. -/
def spIssue (write : Bool) (addr : Nat) (data : Word) (s : State) : State :=
  if s.mgt.sp.inflight.isSome then s.spLost
  else
    let s := s.updSp fun p =>
      { p with inflight := some { write := write, addr := addr, data := data, since := s.now }, answer := none,
               done := false, timeout := false }
    if write then s.busWrite 7 addr 4 data else s.busRead 7 addr 4 false

/-- The status byte (R523). -/
def spStatusByte (p : SpPort) : Nat :=
  b2n p.done * 128 + b2n p.lost * 64 + b2n p.crcErr * 32 + b2n p.timeout * 16 + p.resp.code % 16

/-- A STATUS frame is answered: the status byte, the data and their CRC; what it reports is reported once. -/
def spReport (s : State) : State :=
  s.updSp fun p =>
    let l := BitVec.ofNat 8 (spStatusByte p) :: beBytes 4 p.resp.data.toNat
    { p with status := l ++ [BitVec.ofNat 8 (spCrc l)], lost := false, crcErr := false,
             unreported := if p.done then false else p.unreported }

/-- A frame ends on the port. -/
def spRx (frame : List Byte) (s : State) : State :=
  if !s.spUp then s
  else
    match spFrame frame with
    | .write a d => s.spIssue true a d
    | .read a => s.spIssue false a 0
    | .status => s.spReport
    | .bad => s.spDiscard

/-- The matrix has answered the transaction in flight: it is done. -/
def spDone (s : State) : State :=
  match s.mgt.sp.inflight, s.mgt.sp.answer with
  | some _, some x =>
      s.updSp fun p => { p with inflight := none, answer := none, done := true, timeout := false, resp := x, unreported := true }
  | _, _ => s

/-- No response within 1 ms: the transaction is abandoned and counts as done; what its code and data read is open. -/
def spTimeout (s : State) : State :=
  match s.mgt.sp.inflight with
  | none => s
  | some x =>
      if s.now < x.since + 1000000 then s
      else
        let c := s.fresh
        let d := c.2.fresh
        ((d.2.updMgt fun g => { g with stalled := g.stalled.filter fun x => x.m != 7 }).showOut 7).updSp fun p =>
          { p with inflight := none, answer := none, done := true, timeout := true,
                   resp := ⟨c.1 % 16, BitVec.ofNat 32 d.1⟩, unreported := true }

end State

/-- SP_WRITE (R522): a frame on the service port. -/
def execSpWrite (frame : List Byte) (s : State) : Host.Outcome State Fault Refusal := .next (s.spRx frame)

/-- SP_READ (R522): a frame on the service port. -/
def execSpRead (frame : List Byte) (s : State) : Host.Outcome State Fault Refusal := .next (s.spRx frame)

/-- SP_STATUS (R523): a frame on the service port. -/
def execSpStatus (frame : List Byte) (s : State) : Host.Outcome State Fault Refusal := .next (s.spRx frame)

/-- SP_TRANSACTION_DONE (R522): the transaction in flight has been answered. -/
def execSpTransactionDone (s : State) : Host.Outcome State Fault Refusal := .next s.spDone

/-- SP_TIMEOUT (R523). -/
def execSpTimeout (s : State) : Host.Outcome State Fault Refusal := .next s.spTimeout

end Sys2Proof.Machine
end

