-- ==== Sys2Proof/Machine/Tick.lean ====
section
/-! DEFINITION. What a tick of the time clock does (R383, R402): the TIME counter and lodestone time advance, steps, captures and
servo offsets are taken, and what waits for time or for a result goes on. It is what a step does when no command waits. -/

namespace Sys2Proof.Machine

namespace State

/-- What a step of the counter means to the blocks that live by it (R136, R413, R482); PTP samples in
progress would straddle it and are discarded (R389). -/
def stepSeen (old : Nat) (s : State) : State :=
  ((((s.stepDone).takesStepped old s.timeNs).gbusStepped).when (s.loopRef == 1) judgePhase).updPtp
    fun x => { x with sync := none, exch := none, delayReq := none }

/-- The counter and lodestone time advance, and the step whose turn it is applies. -/
def timeAdvance (s : State) : State :=
  let old := s.timeNs
  let l := s.lode.l
  let r := s.takeStep
  let s := ({ r.2.countTick r.1 with now := s.now + 2 }).updLode fun x => { x with l := (x.l + 2000) % (2 ^ 64 * 1000) }
  ((s.when r.1.isSome (stepSeen old)).decayBuildout.when (!s.lode.clkOfs.isEmpty) (clkRejoin l)).showLoop

/-- Registers that show time left, in whole seconds: watchdog, presence window, which closes at its end, and trial window. -/
def showTime (s : State) : State :=
  let left := fun t : Nat => (divFree 552 ((t - s.now : Nat) : Int) 1000000000).toNat
  let s := s.when s.mgt.wdExpired.isNone showWatchdog
  let s := match s.key.window with | some t => (s.set Reg.KEY.WINLEFT (left t)).windowExpire | none => s
  match s.upd.trialEnd with | some t => s.set Reg.UPD.TRIALLEFT (left t) | none => s

/-- One tick of 2 ns. -/
def tick (s : State) : State :=
  ((s.timeAdvance.when (!s.ipm.rx.isEmpty) showOcc).freeMoved.servoTick.captureTick.showTime.endBoxes.restartDue ⟨none, none, none⟩).loadResume.busMessages.jrpPump.restartBlocks

end State

/-- STEPPED (R387, R388): the tick at which a step that waits applies. -/
def execStepped (s : State) : Host.Outcome State Fault Refusal := .next (s.when (s.time.steps != []) State.tick)

/-- SERVO_OFFSET (R392): a write of SERVO.OFFHI by master `m`, taken at the next tick. -/
def execServoOffset (m : Nat) (data : Word) (s : State) : Host.Outcome State Fault Refusal :=
  .next (s.writeNow m Reg.TIME.SERVO_OFFHI.addr data).tick

/-- CAPTURE (R386): a write of CAPCTL by master `m`, and the tick that latches the counter. -/
def execCapture (m : Nat) (data : Word) (s : State) : Host.Outcome State Fault Refusal :=
  .next (s.writeNow m Reg.TIME.CAPCTL_GO.addr data).tick

end Sys2Proof.Machine
end

