-- ==== Sys2Proof/Machine/Dispatch.lean ====
section
/-! DEFINITION. One arm per command: the meaning of each constructor of Instr. -/

namespace Sys2Proof.Machine

def exec (i : Instr) (s : State) : Host.Outcome State Fault Refusal :=
  match i with
  | .registerWrite m addr size data => Sys2Proof.Machine.execRegisterWrite m addr size data s
  | .domainWriteEffect blk => Sys2Proof.Machine.execDomainWriteEffect blk s
  | .unlock m data => Sys2Proof.Machine.execUnlock m data s
  | .unlockTimeout m => Sys2Proof.Machine.execUnlockTimeout m s
  | .blockSoftReset m blk data => Sys2Proof.Machine.execBlockSoftReset m blk data s
  | .blockEnable m blk data => Sys2Proof.Machine.execBlockEnable m blk data s
  | .blockDisable m blk data => Sys2Proof.Machine.execBlockDisable m blk data s
  | .blockStopDone blk => Sys2Proof.Machine.execBlockStopDone blk s
  | .powerOnReset card env => Sys2Proof.Machine.execPowerOnReset card env s
  | .warmRestart cause env => Sys2Proof.Machine.execWarmRestart cause env s
  | .startPllWaitExpire => Sys2Proof.Machine.execStartPllWaitExpire s
  | .lockwaitExpire => Sys2Proof.Machine.execLockwaitExpire s
  | .frameStart e fmt picture anc => Sys2Proof.Machine.execFrameStart e fmt picture anc s
  | .noFrameTimeout e => Sys2Proof.Machine.execNoFrameTimeout e s
  | .ingressCellWrite e => Sys2Proof.Machine.execIngressCellWrite e s
  | .egressReadPoint e flips slips => Sys2Proof.Machine.execEgressReadPoint e flips slips s
  | .planeFrameInstant p => Sys2Proof.Machine.execPlaneFrameInstant p s
  | .fsDramLate u k => Sys2Proof.Machine.execFsDramLate u k s
  | .compact => Sys2Proof.Machine.execCompact s
  | .create m => Sys2Proof.Machine.execCreate m s
  | .destroy m => Sys2Proof.Machine.execDestroy m s
  | .append m => Sys2Proof.Machine.execAppend m s
  | .resolve m => Sys2Proof.Machine.execResolve m s
  | .chnLowmarkWrite m data => Sys2Proof.Machine.execChnLowmarkWrite m data s
  | .appendClaimAnswer code handle size => Sys2Proof.Machine.execAppendClaimAnswer code handle size s
  | .appendClaimTimeout => Sys2Proof.Machine.execAppendClaimTimeout s
  | .entryRelease k => Sys2Proof.Machine.execEntryRelease k s
  | .take m peer => Sys2Proof.Machine.execTake m peer s
  | .cancel m peer => Sys2Proof.Machine.execCancel m peer s
  | .lock m peer => Sys2Proof.Machine.execLock m peer s
  | .unlockOutput m peer => Sys2Proof.Machine.execUnlockOutput m peer s
  | .protect m peer => Sys2Proof.Machine.execProtect m peer s
  | .unprotect m peer => Sys2Proof.Machine.execUnprotect m peer s
  | .openGid m peer => Sys2Proof.Machine.execOpenGid m peer s
  | .add m peer => Sys2Proof.Machine.execAdd m peer s
  | .arm m peer => Sys2Proof.Machine.execArm m peer s
  | .commit m peer => Sys2Proof.Machine.execCommit m peer s
  | .abort m peer => Sys2Proof.Machine.execAbort m peer s
  | .salvoOpenExpire v => Sys2Proof.Machine.execSalvoOpenExpire v s
  | .salvoExpired v => Sys2Proof.Machine.execSalvoExpired v s
  | .latchPoint out => Sys2Proof.Machine.execLatchPoint out s
  | .switchInstant out => Sys2Proof.Machine.execSwitchInstant out s
  | .tcqpop m data => Sys2Proof.Machine.execTcqpop m data s
  | .outputFrameSend e taken off holdBad => Sys2Proof.Machine.execOutputFrameSend e taken off holdBad s
  | .egressCheck e => Sys2Proof.Machine.execEgressCheck e s
  | .digestVerdict e got => Sys2Proof.Machine.execDigestVerdict e got s
  | .safeContentSwitch e => Sys2Proof.Machine.execSafeContentSwitch e s
  | .outclr m data => Sys2Proof.Machine.execOutclr m data s
  | .chkinvWrite m data => Sys2Proof.Machine.execChkinvWrite m data s
  | .chkinvDone addr => Sys2Proof.Machine.execChkinvDone addr s
  | .tokinjWrite m data => Sys2Proof.Machine.execTokinjWrite m data s
  | .scrubRead mem addr flips unit part => Sys2Proof.Machine.execScrubRead mem addr flips unit part s
  | .rateHuntDwell n => Sys2Proof.Machine.execRateHuntDwell n s
  | .sdiLine n line => Sys2Proof.Machine.execSdiLine n line s
  | .sdiFrameStart n fmt pids => Sys2Proof.Machine.execSdiFrameStart n fmt pids s
  | .ancPacketRx n p => Sys2Proof.Machine.execAncPacketRx n p s
  | .audioPacketRx n p => Sys2Proof.Machine.execAudioPacketRx n p s
  | .ipmFrameRelease f picture anc => Sys2Proof.Machine.execIpmFrameRelease f picture anc s
  | .legDown f leg => Sys2Proof.Machine.execLegDown f leg s
  | .audioSampleTick f flips => Sys2Proof.Machine.execAudioSampleTick f flips s
  | .ipmPacketSend f => Sys2Proof.Machine.execIpmPacketSend f s
  | .audioFlowSend f => Sys2Proof.Machine.execAudioFlowSend f s
  | .igmpReportTimer p group => Sys2Proof.Machine.execIgmpReportTimer p group s
  | .igmpQueryRx p version group maxResp => Sys2Proof.Machine.execIgmpQueryRx p version group maxResp s
  | .igmpCompatTimeout p => Sys2Proof.Machine.execIgmpCompatTimeout p s
  | .joinTimeout f leg => Sys2Proof.Machine.execJoinTimeout f leg s
  | .poldropAccumulate => Sys2Proof.Machine.execPoldropAccumulate s
  | .source m => Sys2Proof.Machine.execSource m s
  | .couple m => Sys2Proof.Machine.execCouple m s
  | .gain m => Sys2Proof.Machine.execGain m s
  | .mute m => Sys2Proof.Machine.execMute m s
  | .xfmode m => Sys2Proof.Machine.execXfmode m s
  | .audioBlockBoundary blocks => Sys2Proof.Machine.execAudioBlockBoundary blocks s
  | .aprtFrame n bclks hz slots => Sys2Proof.Machine.execAprtFrame n bclks hz slots s
  | .asrcRelockDone n => Sys2Proof.Machine.execAsrcRelockDone n s
  | .clklost n => Sys2Proof.Machine.execClklost n s
  | .swap m n data => Sys2Proof.Machine.execSwap m n data s
  | .swapDone n => Sys2Proof.Machine.execSwapDone n s
  | .cnvLutdataAccess m n write data => Sys2Proof.Machine.execCnvLutdataAccess m n write data s
  | .cnvFrame n words => Sys2Proof.Machine.execCnvFrame n words s
  | .bind m g => Sys2Proof.Machine.execBind m g s
  | .rebind m g => Sys2Proof.Machine.execRebind m g s
  | .unbind m g => Sys2Proof.Machine.execUnbind m g s
  | .micaCommit m g data => Sys2Proof.Machine.execMicaCommit m g data s
  | .reflatten m g data => Sys2Proof.Machine.execReflatten m g data s
  | .flattenDone g us => Sys2Proof.Machine.execFlattenDone g us s
  | .selectionPoint g => Sys2Proof.Machine.execSelectionPoint g s
  | .micaLutdataAccess m g write data => Sys2Proof.Machine.execMicaLutdataAccess m g write data s
  | .flintloadGo m g data => Sys2Proof.Machine.execFlintloadGo m g data s
  | .flintLoadDone g => Sys2Proof.Machine.execFlintLoadDone g s
  | .micaFrameWrite g late => Sys2Proof.Machine.execMicaFrameWrite g late s
  | .flintFail g got => Sys2Proof.Machine.execFlintFail g got s
  | .decimatorFrame d late => Sys2Proof.Machine.execDecimatorFrame d late s
  | .layerStaleTimeout g l => Sys2Proof.Machine.execLayerStaleTimeout g l s
  | .scanTrainDone ok psr => Sys2Proof.Machine.execScanTrainDone ok psr s
  | .edpHpdEdge high => Sys2Proof.Machine.execEdpHpdEdge high s
  | .scanTrainRetry => Sys2Proof.Machine.execScanTrainRetry s
  | .flip m data => Sys2Proof.Machine.execFlip m data s
  | .scanLatchPoint => Sys2Proof.Machine.execScanLatchPoint s
  | .scanFrameStart => Sys2Proof.Machine.execScanFrameStart s
  | .underrun => Sys2Proof.Machine.execUnderrun s
  | .psrEntry accepted => Sys2Proof.Machine.execPsrEntry accepted s
  | .psrexit m data => Sys2Proof.Machine.execPsrexit m data s
  | .nativeRead m addr len => Sys2Proof.Machine.execNativeRead m addr len s
  | .nativeWrite m addr len => Sys2Proof.Machine.execNativeWrite m addr len s
  | .i2cRead m addr len => Sys2Proof.Machine.execI2cRead m addr len s
  | .i2cWrite m addr len => Sys2Proof.Machine.execI2cWrite m addr len s
  | .auxReply code bytes => Sys2Proof.Machine.execAuxReply code bytes s
  | .auxTimeout => Sys2Proof.Machine.execAuxTimeout s
  | .signalDetect n on rows => Sys2Proof.Machine.execSignalDetect n on rows s
  | .cdrLock n div => Sys2Proof.Machine.execCdrLock n div s
  | .cdrLost n rows => Sys2Proof.Machine.execCdrLost n rows s
  | .blockLock n => Sys2Proof.Machine.execBlockLock n s
  | .blockLost n inv => Sys2Proof.Machine.execBlockLost n inv s
  | .cellRx n cell => Sys2Proof.Machine.execCellRx n cell s
  | .polInv n => Sys2Proof.Machine.execPolInv n s
  | .serviceCellSend n => Sys2Proof.Machine.execServiceCellSend n s
  | .serviceCellRx n cell => Sys2Proof.Machine.execServiceCellRx n cell s
  | .pllRetuneDone q p => Sys2Proof.Machine.execPllRetuneDone q p s
  | .pllRetuneTimeout q p => Sys2Proof.Machine.execPllRetuneTimeout q p s
  | .pllaLost q p => Sys2Proof.Machine.execPllaLost q p s
  | .pllRelock q p => Sys2Proof.Machine.execPllRelock q p s
  | .txeqWrite m n data => Sys2Proof.Machine.execTxeqWrite m n data s
  | .laneCfgWrite m n data => Sys2Proof.Machine.execLaneCfgWrite m n data s
  | .eqLimit n ctle dfe14 dfe5 => Sys2Proof.Machine.execEqLimit n ctle dfe14 dfe5 s
  | .eyeMeasure n height width => Sys2Proof.Machine.execEyeMeasure n height width s
  | .ethFrameRx p frame fecCor fecUnc fifoFull => Sys2Proof.Machine.execEthFrameRx p frame fecCor fecUnc fifoFull s
  | .pauseExpire p cls => Sys2Proof.Machine.execPauseExpire p cls s
  | .pauseWd p cls => Sys2Proof.Machine.execPauseWd p cls s
  | .pauseWdRelease p => Sys2Proof.Machine.execPauseWdRelease p s
  | .txkick m p data => Sys2Proof.Machine.execTxkick m p data s
  | .ringFrameSent p => Sys2Proof.Machine.execRingFrameSent p s
  | .linkUp p => Sys2Proof.Machine.execLinkUp p s
  | .linkDown p => Sys2Proof.Machine.execLinkDown p s
  | .speed p => Sys2Proof.Machine.execSpeed p s
  | .statsnap m p data => Sys2Proof.Machine.execStatsnap m p data s
  | .statsSnapPeriod => Sys2Proof.Machine.execStatsSnapPeriod s
  | .incrWrite m data => Sys2Proof.Machine.execIncrWrite m data s
  | .stepWrite m data => Sys2Proof.Machine.execStepWrite m data s
  | .stepped => Sys2Proof.Machine.execStepped s
  | .servoOffset m data => Sys2Proof.Machine.execServoOffset m data s
  | .timeModeWrite m data => Sys2Proof.Machine.execTimeModeWrite m data s
  | .capture m data => Sys2Proof.Machine.execCapture m data s
  | .txqPop m port data => Sys2Proof.Machine.execTxqPop m port data s
  | .ptpMessageRx port stamp msg => Sys2Proof.Machine.execPtpMessageRx port stamp msg s
  | .ptpMessageSend port kind stamp => Sys2Proof.Machine.execPtpMessageSend port kind stamp s
  | .syncTimeout => Sys2Proof.Machine.execSyncTimeout s
  | .networkTimeLocked => Sys2Proof.Machine.execNetworkTimeLocked s
  | .refLost => Sys2Proof.Machine.execRefLost s
  | .refQual ref => Sys2Proof.Machine.execRefQual ref s
  | .ptpstatWrite m data => Sys2Proof.Machine.execPtpstatWrite m data s
  | .refRevert => Sys2Proof.Machine.execRefRevert s
  | .selWrite m prio data => Sys2Proof.Machine.execSelWrite m prio data s
  | .loopPhaseCompare ref pulse => Sys2Proof.Machine.execLoopPhaseCompare ref pulse s
  | .loopStageDwell => Sys2Proof.Machine.execLoopStageDwell s
  | .holdoverUpdate => Sys2Proof.Machine.execHoldoverUpdate s
  | .loopstepWrite m data => Sys2Proof.Machine.execLoopstepWrite m data s
  | .phstepDone => Sys2Proof.Machine.execPhstepDone s
  | .planeStep m p data => Sys2Proof.Machine.execPlaneStep m p data s
  | .dramTrainDone results => Sys2Proof.Machine.execDramTrainDone results s
  | .refreshDue c c0queued => Sys2Proof.Machine.execRefreshDue c c0queued s
  | .mr4Poll c code band overs => Sys2Proof.Machine.execMr4Poll c code band overs s
  | .requestAgeExpire c cls => Sys2Proof.Machine.execRequestAgeExpire c cls s
  | .dramRead addr len cls client flips => Sys2Proof.Machine.execDramRead addr len cls client flips s
  | .scrubLate => Sys2Proof.Machine.execScrubLate s
  | .trackInterval c move => Sys2Proof.Machine.execTrackInterval c move s
  | .drcChkinvWrite m data => Sys2Proof.Machine.execDrcChkinvWrite m data s
  | .drcChkinvApply => Sys2Proof.Machine.execDrcChkinvApply s
  | .dwbankWrite m data => Sys2Proof.Machine.execDwbankWrite m data s
  | .twinLinkUp secondary => Sys2Proof.Machine.execTwinLinkUp secondary s
  | .linkUpRecordRx ok id measFw measPair claim => Sys2Proof.Machine.execLinkUpRecordRx ok id measFw measPair claim s
  | .twinLinkDown secondary => Sys2Proof.Machine.execTwinLinkDown secondary s
  | .twinDeadtime => Sys2Proof.Machine.execTwinDeadtime s
  | .recover m => Sys2Proof.Machine.execRecover m s
  | .xchg m => Sys2Proof.Machine.execXchg m s
  | .twinCycleBoundary => Sys2Proof.Machine.execTwinCycleBoundary s
  | .copyResend => Sys2Proof.Machine.execCopyResend s
  | .cycleCopyRx macOk cycle mirSeq full items => Sys2Proof.Machine.execCycleCopyRx macOk cycle mirSeq full items s
  | .copyAckRx macOk cycle => Sys2Proof.Machine.execCopyAckRx macOk cycle s
  | .mirrorRecordRx macOk r => Sys2Proof.Machine.execMirrorRecordRx macOk r s
  | .mirrorAckRx macOk seq => Sys2Proof.Machine.execMirrorAckRx macOk seq s
  | .mirrorResend seq => Sys2Proof.Machine.execMirrorResend seq s
  | .latchRecordRx macOk items => Sys2Proof.Machine.execLatchRecordRx macOk items s
  | .signatureRx macOk cycle sigs => Sys2Proof.Machine.execSignatureRx macOk cycle sigs s
  | .supplyOkEdge feed good => Sys2Proof.Machine.execSupplyOkEdge feed good s
  | .pmbusPoll feed words => Sys2Proof.Machine.execPmbusPoll feed words s
  | .gbusTxLatch => Sys2Proof.Machine.execGbusTxLatch s
  | .gbusOwnSlot => Sys2Proof.Machine.execGbusOwnSlot s
  | .txgo m => Sys2Proof.Machine.execTxgo m s
  | .gbusFrameRx pair slot frame => Sys2Proof.Machine.execGbusFrameRx pair slot frame s
  | .gbusSlotMiss slot => Sys2Proof.Machine.execGbusSlotMiss slot s
  | .gbusPairWindow gotA gotB => Sys2Proof.Machine.execGbusPairWindow gotA gotB s
  | .terrWrite m data => Sys2Proof.Machine.execTerrWrite m data s
  | .terrTimeout => Sys2Proof.Machine.execTerrTimeout s
  | .gbusPop m => Sys2Proof.Machine.execGbusPop m s
  | .eventRaise src data => Sys2Proof.Machine.execEventRaise src data s
  | .recordEntry e => Sys2Proof.Machine.execRecordEntry e s
  | .reactionAckTimeout => Sys2Proof.Machine.execReactionAckTimeout s
  | .ack m slot data => Sys2Proof.Machine.execAck m slot data s
  | .slotHeld slot => Sys2Proof.Machine.execSlotHeld slot s
  | .safeclr m data => Sys2Proof.Machine.execSafeclr m data s
  | .histclr m data => Sys2Proof.Machine.execHistclr m data s
  | .pintest m data => Sys2Proof.Machine.execPintest m data s
  | .pinReadback a b => Sys2Proof.Machine.execPinReadback a b s
  | .lockstep env => Sys2Proof.Machine.execLockstep env s
  | .wdsvc m key => Sys2Proof.Machine.execWdsvc m key s
  | .wdog => Sys2Proof.Machine.execWdog s
  | .watchdogRestart env => Sys2Proof.Machine.execWatchdogRestart env s
  | .lockedRead m addr => Sys2Proof.Machine.execLockedRead m addr s
  | .bmxForced => Sys2Proof.Machine.execBmxForced s
  | .remapWrite m data => Sys2Proof.Machine.execRemapWrite m data s
  | .dmaGo m k data => Sys2Proof.Machine.execDmaGo m k data s
  | .dmaDone k => Sys2Proof.Machine.execDmaDone k s
  | .sensorConversion volt value fault => Sys2Proof.Machine.execSensorConversion volt value fault s
  | .trig m data => Sys2Proof.Machine.execTrig m data s
  | .spWrite frame => Sys2Proof.Machine.execSpWrite frame s
  | .spRead frame => Sys2Proof.Machine.execSpRead frame s
  | .spStatus frame => Sys2Proof.Machine.execSpStatus frame s
  | .spTransactionDone => Sys2Proof.Machine.execSpTransactionDone s
  | .spTimeout => Sys2Proof.Machine.execSpTimeout s
  | .presence => Sys2Proof.Machine.execPresence s
  | .presenceWindowExpire => Sys2Proof.Machine.execPresenceWindowExpire s
  | .sealOpen => Sys2Proof.Machine.execSealOpen s
  | .presenceRecoveryHold => Sys2Proof.Machine.execPresenceRecoveryHold s
  | .lcChange m target => Sys2Proof.Machine.execLcChange m target s
  | .keymsg m signer => Sys2Proof.Machine.execKeymsg m signer s
  | .attest m => Sys2Proof.Machine.execAttest m s
  | .begin m => Sys2Proof.Machine.execBegin m s
  | .write m => Sys2Proof.Machine.execWrite m s
  | .verify m read => Sys2Proof.Machine.execVerify m read s
  | .updCommit m env => Sys2Proof.Machine.execUpdCommit m env s
  | .confirm m => Sys2Proof.Machine.execConfirm m s
  | .updAbort m => Sys2Proof.Machine.execUpdAbort m s
  | .trialFallback env => Sys2Proof.Machine.execTrialFallback env s
  | .jrpOpen h peer resume nonce qc sigOk => Sys2Proof.Machine.execJrpOpen h peer resume nonce qc sigOk s
  | .close h => Sys2Proof.Machine.execClose h s
  | .sessionTimeout session => Sys2Proof.Machine.execSessionTimeout session s
  | .sessionRetainExpire session => Sys2Proof.Machine.execSessionRetainExpire session s
  | .nop h known => Sys2Proof.Machine.execNop h known s
  | .jrpTake h out src instant => Sys2Proof.Machine.execJrpTake h out src instant s
  | .jrpCancel h id => Sys2Proof.Machine.execJrpCancel h id s
  | .jrpLock h out => Sys2Proof.Machine.execJrpLock h out s
  | .jrpUnlock h out => Sys2Proof.Machine.execJrpUnlock h out s
  | .jrpProtect h out => Sys2Proof.Machine.execJrpProtect h out s
  | .jrpUnprotect h out => Sys2Proof.Machine.execJrpUnprotect h out s
  | .dtake h druse inPos outPos instant => Sys2Proof.Machine.execDtake h druse inPos outPos instant s
  | .druseForwardTimeout session txid => Sys2Proof.Machine.execDruseForwardTimeout session txid s
  | .salvoOpen h gid => Sys2Proof.Machine.execSalvoOpen h gid s
  | .salvoAdd h gid adds => Sys2Proof.Machine.execSalvoAdd h gid adds s
  | .salvoArm h gid instant minlead => Sys2Proof.Machine.execSalvoArm h gid instant minlead s
  | .salvoCommit h gid => Sys2Proof.Machine.execSalvoCommit h gid s
  | .salvoAbort h gid => Sys2Proof.Machine.execSalvoAbort h gid s
  | .jrpCreate h args desc => Sys2Proof.Machine.execJrpCreate h args desc s
  | .jrpDestroy h handle => Sys2Proof.Machine.execJrpDestroy h handle s
  | .jrpAppend h req => Sys2Proof.Machine.execJrpAppend h req s
  | .jrpResolve h druse dir pos => Sys2Proof.Machine.execJrpResolve h druse dir pos s
  | .voice h op args => Sys2Proof.Machine.execVoice h op args s
  | .layer h engine op args => Sys2Proof.Machine.execLayer h engine op args s
  | .micaSet h engine words commit => Sys2Proof.Machine.execMicaSet h engine words commit s
  | .flintLoad h engine addr crc => Sys2Proof.Machine.execFlintLoad h engine addr crc s
  | .cnvLoad h cnv lutsel first values => Sys2Proof.Machine.execCnvLoad h cnv lutsel first values s
  | .cnvSwap h cnv => Sys2Proof.Machine.execCnvSwap h cnv s
  | .query h object first count => Sys2Proof.Machine.execQuery h object first count s
  | .subscribe h sub => Sys2Proof.Machine.execSubscribe h sub s
  | .unsubscribe h number => Sys2Proof.Machine.execUnsubscribe h number s
  | .jrpAttest h nonce => Sys2Proof.Machine.execJrpAttest h nonce s
  | .updStage h op args bytes read => Sys2Proof.Machine.execUpdStage h op args bytes read s
  | .updConfirm h => Sys2Proof.Machine.execUpdConfirm h s
  | .jrpXchg h => Sys2Proof.Machine.execJrpXchg h s
  | .jrpUpdCommit h mode trialWin trialMax env => Sys2Proof.Machine.execJrpUpdCommit h mode trialWin trialMax env s
  | .jrpLcChange h target => Sys2Proof.Machine.execJrpLcChange h target s
  | .jrpKeymsg h msg signer => Sys2Proof.Machine.execJrpKeymsg h msg signer s
  | .forceClear h out => Sys2Proof.Machine.execForceClear h out s
  | .finalStatus => Sys2Proof.Machine.execFinalStatus s
  | .notifySend session => Sys2Proof.Machine.execNotifySend session s
  | .edpLinkLoss => Sys2Proof.Machine.execEdpLinkLoss s
  | .prbsCheck n clean errors => Sys2Proof.Machine.execPrbsCheck n clean errors s
  | .pcsLock p => Sys2Proof.Machine.execPcsLock p s
  | .faultSequence p kind => Sys2Proof.Machine.execFaultSequence p kind s
  | .refDisqual ref => Sys2Proof.Machine.execRefDisqual ref s
  | .quadPllLockTimeout q p => Sys2Proof.Machine.execQuadPllLockTimeout q p s
  | .sealClosed => Sys2Proof.Machine.execSealClosed s
  | .presenceRelease => Sys2Proof.Machine.execPresenceRelease s
  | .memberAnswer session txid code rest => Sys2Proof.Machine.execMemberAnswer session txid code rest s
  | .avsRequest up => Sys2Proof.Machine.execAvsRequest up s
  | .avsAnswer ok => Sys2Proof.Machine.execAvsAnswer ok s
  | .avsTimeout => Sys2Proof.Machine.execAvsTimeout s

end Sys2Proof.Machine
end

