-- ==== Sys2Proof/WellFormed.lean ====
section
/-! DEFINITION. Which terms of `Instr` are commands the block can meet: the indices of the units the chip has (R34), the
widths of fields, and the values a code may take. The meanings are total on every term; a statement that needs a bound takes it
from here. -/

namespace Sys2Proof

/-- A number that fits a 32-bit word. -/
def isWord (x : Nat) : Bool := decide (x < 0x100000000)

/-- The fields of an ANC packet have the widths of SMPTE ST 291-1 (R196). -/
def AncPkt.wf (p : AncPkt) : Bool :=
  decide (p.line < 2048) && decide (p.stream < 8) && decide (p.did < 256) && decide (p.sdid < 256) &&
    decide (p.udw.length ≤ 255) && p.udw.all fun x => decide (x < 1024)

/-- The fields of a provenance token (R152). -/
def Token.wf (t : Token) : Bool :=
  decide (t.sys < 0x40000) && decide (t.idx < 0x4000) && decide (t.count < 0x10000) && decide (t.digest < 0x10000)

/-- A frame's format word, token and token state (R152), and its packets. -/
def Frame.wf (f : Frame) : Bool :=
  isWord f.fmt && f.token.all Token.wf && decide (f.tstate < 4) && f.anc.all AncPkt.wf

/-- The V, U, C and block-start bits of a TSI sample (R247). -/
def Sample.wf (x : Sample) : Bool := decide (x.vuc < 16)

/-- An output voice of the audio unit and the 64 samples of its block (R171). -/
def VoiceBlock.wf (b : VoiceBlock) : Bool :=
  decide (b.out < 32768) && decide (b.crc < 0x10000) && b.samples.all Sample.wf

/-- The XYZ words of a line are 10-bit words (R187). -/
def SdiLine.wf (l : SdiLine) : Bool :=
  l.eav.all (fun x => decide (x < 1024)) && l.sav.all fun x => decide (x < 1024)

/-- A payload ID has four bytes (R194). -/
def SdiPid.wf (p : SdiPid) : Bool := isWord p.bytes && isWord p.fmt

/-- An audio packet belongs to one of eight groups and carries four voices (R202). -/
def AudioPkt.wf (p : AudioPkt) : Bool :=
  decide (p.group < 9) && decide (p.ecc < 3) && decide (p.drift < 3) && p.samples.all Sample.wf

/-- A fabric cell has 16 header bytes and one of four types (R339). -/
def FabricCell.wf (c : FabricCell) : Bool :=
  decide (c.header.length = 16) && decide (c.kind < 4) && c.first.all fun x => x.frame.wf

/-- A service cell's tag and claim (R341, R450). -/
def ServiceCell.wf (c : ServiceCell) : Bool :=
  decide (c.sys < 0x40000) && decide (c.lane < 512) && decide (c.claim < 512)

/-- A druse-bus frame's header fields (R473). -/
def GbusFrame.wf (f : GbusFrame) : Bool :=
  decide (f.ver < 16) && decide (f.slot < 64) && decide (f.sys < 0x40000) && decide (f.claim < 512)

/-- A training result names one of 32 channels and one of the steps of R441. -/
def TrainResult.wf (r : TrainResult) : Bool := decide (r.chan < 32) && decide (r.attempts ≤ 3)

/-- A PTP message's domain and sequence number (R398). -/
def PtpMsg.wf (p : PtpMsg) : Bool := decide (p.domain < 256) && decide (p.seq < 0x10000)

/-- A mirror record names a mailbox that the model mirrors (R458). -/
def MirrorRec.wf (r : MirrorRec) : Bool := decide (r.cmd.box < 10)

/-- A self-test of R487 and a configuration slot, 0 or 1 (R537). -/
def StartEnv.wf (e : StartEnv) : Bool :=
  e.selftest.all (fun x => decide (x < 256)) && e.readErr.all (fun x => decide (x < 2)) && e.repairErr.all fun x => decide (x < 2 ^ 32)

/-- A datagram's port and header fields (R576, R578). -/
def JrpHdr.wf (h : JrpHdr) : Bool :=
  decide (h.port < 66) && isWord h.src && decide (h.sport < 0x10000) && decide (h.dport < 0x10000) && isWord h.session &&
    isWord h.txid && isWord h.epoch && isWord h.target

/-- A subscription's ranges (R594). -/
def JrpSub.wf : JrpSub → Bool
  | .events first last sev => decide (first < 1536) && decide (last < 1536) && decide (sev < 4)
  | .routes first last => decide (first < 16384) && decide (last < 16384)
  | .tallies => true

/-- A command is well formed. -/
def Instr.wf : Instr → Bool
  | .registerWrite m addr size _ => decide (m < 8) && isWord addr && ([1, 2, 4, 8, 16].contains size)
  | .domainWriteEffect blk => decide (blk < 0x2B050000) && decide (blk % 256 = 0)
  | .unlock m _ => decide (m < 8)
  | .unlockTimeout m => decide (m < 8)
  | .blockSoftReset m blk data => decide (m < 8) && decide (blk < 0x2B050000) && decide (blk % 256 = 0) && data.getLsbD 1
  | .blockEnable m blk data => decide (m < 8) && decide (blk < 0x2B050000) && decide (blk % 256 = 0) && data.getLsbD 0 && !data.getLsbD 1
  | .blockDisable m blk data => decide (m < 8) && decide (blk < 0x2B050000) && decide (blk % 256 = 0) && !data.getLsbD 0 && !data.getLsbD 1
  | .blockStopDone blk => decide (blk < 0x2B050000) && decide (blk % 256 = 0)
  | .powerOnReset _ env => env.wf
  | .warmRestart cause env => decide (1 ≤ cause) && decide (cause ≤ 4) && env.wf
  | .startPllWaitExpire => true
  | .lockwaitExpire => true
  | .frameStart e fmt _ anc => decide (e < 8192) && isWord fmt && anc.all AncPkt.wf
  | .noFrameTimeout e => decide (e < 8192)
  | .ingressCellWrite e => decide (e < 8192)
  | .egressReadPoint e flips _ => decide (e < 8192) && flips.all (fun k => decide (k < 73))
  | .planeFrameInstant p => decide (p < 16)
  | .fsDramLate _ _ => true
  | .compact => true
  | .create m => decide (m < 8)
  | .destroy m => decide (m < 8)
  | .append m => decide (m < 8)
  | .resolve m => decide (m < 8)
  | .chnLowmarkWrite m _ => decide (m < 8)
  | .appendClaimAnswer code handle size => decide (code < 256) && isWord handle && isWord size.1 && isWord size.2
  | .appendClaimTimeout => true
  | .entryRelease i => decide (i < 16384)
  | .take m peer => decide (m < 8) && decide (peer < 65)
  | .cancel m peer => decide (m < 8) && decide (peer < 65)
  | .lock m peer => decide (m < 8) && decide (peer < 65)
  | .unlockOutput m peer => decide (m < 8) && decide (peer < 65)
  | .protect m peer => decide (m < 8) && decide (peer < 65)
  | .unprotect m peer => decide (m < 8) && decide (peer < 65)
  | .openGid m peer => decide (m < 8) && decide (peer < 65)
  | .add m peer => decide (m < 8) && decide (peer < 65)
  | .arm m peer => decide (m < 8) && decide (peer < 65)
  | .commit m peer => decide (m < 8) && decide (peer < 65)
  | .abort m peer => decide (m < 8) && decide (peer < 65)
  | .salvoOpenExpire v => decide (v < 256)
  | .salvoExpired v => decide (v < 256)
  | .latchPoint out => decide (out < 16384)
  | .switchInstant out => decide (out < 16384)
  | .tcqpop m _ => decide (m < 8)
  | .outputFrameSend e taken _ _ => decide (e < 8192) && decide (taken < 4125)
  | .egressCheck e => decide (e < 8192)
  | .digestVerdict e got => decide (e < 8192) && (got.all fun x => decide (x < 0x10000))
  | .safeContentSwitch e => decide (e < 8192)
  | .outclr m _ => decide (m < 8)
  | .chkinvWrite m _ => decide (m < 8)
  | .chkinvDone addr => isWord addr
  | .tokinjWrite m _ => decide (m < 8)
  | .scrubRead mem addr flips _ part => decide (mem < 12) && isWord addr && decide (flips < 73) && decide (part < 2)
  | .rateHuntDwell n => decide (n < 512)
  | .sdiLine n line => decide (n < 576) && line.wf
  | .sdiFrameStart n fmt pids => decide (n < 576) && isWord fmt && pids.first.all SdiPid.wf && pids.second.all SdiPid.wf
  | .ancPacketRx n p => decide (n < 576) && p.wf
  | .audioPacketRx n p => decide (n < 576) && p.wf
  | .ipmFrameRelease f _ anc => decide (f < 4096) && anc.all AncPkt.wf
  | .legDown f leg => decide (f < 4096) && decide (leg < 2)
  | .audioSampleTick f flips => decide (f < 4096) && decide (flips < 73)
  | .ipmPacketSend f => decide (f < 4096)
  | .audioFlowSend f => decide (f < 4096)
  | .igmpReportTimer p group => decide (p < 66) && isWord group
  | .igmpQueryRx p version group _ => decide (p < 66) && ([2, 3].contains version) && isWord group
  | .igmpCompatTimeout p => decide (p < 66)
  | .joinTimeout f leg => decide (f < 4096) && decide (leg < 2)
  | .poldropAccumulate => true
  | .source m => decide (m < 8)
  | .couple m => decide (m < 8)
  | .gain m => decide (m < 8)
  | .mute m => decide (m < 8)
  | .xfmode m => decide (m < 8)
  | .audioBlockBoundary blocks => blocks.all VoiceBlock.wf
  | .aprtFrame n _ _ slots => decide (n < 8) && (slots.all fun x => isWord x)
  | .asrcRelockDone n => decide (n < 8)
  | .clklost n => decide (n < 8)
  | .swap m n _ => decide (m < 8) && decide (n < 32)
  | .swapDone n => decide (n < 32)
  | .cnvLutdataAccess m n _ _ => decide (m < 8) && decide (n < 32)
  | .cnvFrame n words => decide (n < 32) && (words.all fun x => decide (1 ≤ x.2))
  | .bind m g => decide (m < 8) && decide (g < 8)
  | .rebind m g => decide (m < 8) && decide (g < 8)
  | .unbind m g => decide (m < 8) && decide (g < 8)
  | .micaCommit m g _ => decide (m < 8) && decide (g < 8)
  | .reflatten m g _ => decide (m < 8) && decide (g < 8)
  | .flattenDone g _ => decide (g < 8)
  | .selectionPoint g => decide (g < 8)
  | .micaLutdataAccess m g _ _ => decide (m < 8) && decide (g < 8)
  | .flintloadGo m g _ => decide (m < 8) && decide (g < 8)
  | .flintLoadDone g => decide (g < 8)
  | .micaFrameWrite g _ => decide (g < 8)
  | .flintFail g got => decide (g < 8) && isWord got
  | .decimatorFrame d _ => decide (d < 256)
  | .layerStaleTimeout g l => decide (g < 8) && decide (l < 64)
  | .scanTrainDone _ _ => true
  | .edpHpdEdge _ => true
  | .scanTrainRetry => true
  | .flip m _ => decide (m < 8)
  | .scanLatchPoint => true
  | .scanFrameStart => true
  | .underrun => true
  | .psrEntry _ => true
  | .psrexit m _ => decide (m < 8)
  | .nativeRead m addr len => decide (m < 8) && decide (addr < 1048576) && decide (len < 16)
  | .nativeWrite m addr len => decide (m < 8) && decide (addr < 1048576) && decide (len < 16)
  | .i2cRead m addr len => decide (m < 8) && decide (addr < 128) && decide (len < 16)
  | .i2cWrite m addr len => decide (m < 8) && decide (addr < 128) && decide (len < 16)
  | .auxReply code bytes => decide (code < 3) && decide (bytes.length ≤ 16)
  | .auxTimeout => true
  | .signalDetect n _ _ => decide (n < 512)
  | .cdrLock n _ => decide (n < 512)
  | .cdrLost n _ => decide (n < 512)
  | .blockLock n => decide (n < 512)
  | .blockLost n inv => decide (n < 512) && decide (inv ≤ 1024)
  | .cellRx n cell => decide (n < 512) && cell.wf
  | .polInv n => decide (n < 512)
  | .serviceCellSend n => decide (n < 512)
  | .serviceCellRx n cell => decide (n < 512) && cell.wf
  | .pllRetuneDone q p => decide (q < 128) && decide (p < 2)
  | .pllRetuneTimeout q p => decide (q < 128) && decide (p < 2)
  | .pllaLost q p => decide (q < 128) && decide (p < 2)
  | .pllRelock q p => decide (q < 128) && decide (p < 2)
  | .txeqWrite m n _ => decide (m < 8) && decide (n < 512)
  | .laneCfgWrite m n _ => decide (m < 8) && decide (n < 512)
  | .eqLimit n ctle _ _ => decide (n < 512) && decide (ctle < 32)
  | .eyeMeasure n _ _ => decide (n < 512)
  | .ethFrameRx p frame _ _ _ => decide (p < 66) && decide (frame.length < 0x10000)
  | .pauseExpire p cls => decide (p < 66) && decide (cls < 9)
  | .pauseWd p cls => decide (p < 66) && decide (cls < 9)
  | .pauseWdRelease p => decide (p < 66)
  | .txkick m p _ => decide (m < 8) && decide (p < 66)
  | .ringFrameSent p => decide (p < 66)
  | .linkUp p => decide (p < 66)
  | .linkDown p => decide (p < 66)
  | .speed p => decide (p < 66)
  | .statsnap m p _ => decide (m < 8) && decide (p < 66)
  | .statsSnapPeriod => true
  | .incrWrite m _ => decide (m < 8)
  | .stepWrite m _ => decide (m < 8)
  | .stepped => true
  | .servoOffset m _ => decide (m < 8)
  | .timeModeWrite m _ => decide (m < 8)
  | .capture m _ => decide (m < 8)
  | .txqPop m port _ => decide (m < 8) && decide (port < 66)
  | .ptpMessageRx port _ msg => decide (port < 66) && msg.wf
  | .ptpMessageSend port _ _ => decide (port < 66)
  | .syncTimeout => true
  | .networkTimeLocked => true
  | .refLost => true
  | .refQual ref => decide (1 ≤ ref) && decide (ref ≤ 8)
  | .ptpstatWrite m _ => decide (m < 8)
  | .refRevert => true
  | .selWrite m _ _ => decide (m < 8)
  | .loopPhaseCompare ref _ => decide (1 ≤ ref) && decide (ref ≤ 8)
  | .loopStageDwell => true
  | .holdoverUpdate => true
  | .loopstepWrite m _ => decide (m < 8)
  | .phstepDone => true
  | .planeStep m p _ => decide (m < 8) && decide (p < 16)
  | .dramTrainDone results => results.all TrainResult.wf
  | .refreshDue c _ => decide (c < 32)
  | .mr4Poll c code band _ => decide (c < 32) && decide (code < 256) && decide (band < 8)
  | .requestAgeExpire c cls => decide (c < 32) && decide (cls < 4)
  | .dramRead addr _ cls _ flips => decide (addr < 0x8000000000) && decide (cls < 4) && decide (flips < 73)
  | .scrubLate => true
  | .trackInterval c _ => decide (c < 32)
  | .drcChkinvWrite m _ => decide (m < 8)
  | .drcChkinvApply => true
  | .dwbankWrite m _ => decide (m < 8)
  | .twinLinkUp _ => true
  | .linkUpRecordRx _ id _ _ claim => decide (id.devid < 2 ^ 64) && decide (claim < 512)
  | .twinLinkDown _ => true
  | .twinDeadtime => true
  | .recover m => decide (m < 8)
  | .xchg m => decide (m < 8)
  | .twinCycleBoundary => true
  | .copyResend => true
  | .cycleCopyRx _ cycle mirSeq _ _ => isWord cycle && isWord mirSeq
  | .copyAckRx _ cycle => isWord cycle
  | .mirrorRecordRx _ r => r.wf
  | .mirrorAckRx _ seq => isWord seq
  | .mirrorResend seq => isWord seq
  | .latchRecordRx _ items => (items.all fun x => decide (x.out < 16384))
  | .signatureRx _ cycle sigs => isWord cycle && (sigs.all fun x => decide (x.e < 8192))
  | .supplyOkEdge feed _ => decide (feed < 2)
  | .pmbusPoll feed _ => decide (feed < 2)
  | .gbusTxLatch => true
  | .gbusOwnSlot => true
  | .txgo m => decide (m < 8)
  | .gbusFrameRx pair slot frame => decide (pair < 2) && decide (slot < 64) && frame.wf
  | .gbusSlotMiss slot => decide (slot < 64)
  | .gbusPairWindow gotA gotB => (gotA.all fun x => decide (x < 64)) && gotB.all fun x => decide (x < 64)
  | .terrWrite m _ => decide (m < 8)
  | .terrTimeout => true
  | .gbusPop m => decide (m < 8)
  | .eventRaise src _ => decide (src < 1536)
  | .recordEntry _ => true
  | .reactionAckTimeout => true
  | .ack m slot _ => decide (m < 8) && decide (slot < 4)
  | .slotHeld slot => decide (slot < 4)
  | .safeclr m _ => decide (m < 8)
  | .histclr m _ => decide (m < 8)
  | .pintest m _ => decide (m < 8)
  | .pinReadback _ _ => true
  | .lockstep env => env.wf
  | .wdsvc m _ => decide (m < 8)
  | .wdog => true
  | .watchdogRestart env => env.wf
  | .lockedRead m addr => decide (m < 8) && isWord addr
  | .bmxForced => true
  | .remapWrite m _ => decide (m < 8)
  | .dmaGo m k _ => decide (m < 8) && decide (k < 2)
  | .dmaDone k => decide (k < 2)
  | .sensorConversion _ value _ => decide (value < 65536)
  | .trig m _ => decide (m < 8)
  | .spWrite frame => decide (frame.length ≤ 10)
  | .spRead frame => decide (frame.length ≤ 10)
  | .spStatus frame => decide (frame.length ≤ 10)
  | .spTransactionDone => true
  | .spTimeout => true
  | .presence => true
  | .presenceWindowExpire => true
  | .sealOpen => true
  | .presenceRecoveryHold => true
  | .lcChange m target => decide (m < 8) && decide (target < 16)
  | .keymsg m _ => decide (m < 8)
  | .attest m => decide (m < 8)
  | .begin m => decide (m < 8)
  | .write m => decide (m < 8)
  | .verify m _ => decide (m < 8)
  | .updCommit m env => decide (m < 8) && env.wf
  | .confirm m => decide (m < 8)
  | .updAbort m => decide (m < 8)
  | .trialFallback env => env.wf
  | .jrpOpen h peer resume _ _ _ => h.wf && decide (peer < 64) && isWord resume
  | .close h => h.wf
  | .sessionTimeout session => isWord session
  | .sessionRetainExpire session => isWord session
  | .nop h _ => h.wf
  | .jrpTake h out src instant => h.wf && isWord out && isWord src && decide (instant < 2 ^ 96)
  | .jrpCancel h id => h.wf && isWord id
  | .jrpLock h out => h.wf && isWord out
  | .jrpUnlock h out => h.wf && isWord out
  | .jrpProtect h out => h.wf && isWord out
  | .jrpUnprotect h out => h.wf && isWord out
  | .dtake h druse inPos outPos instant => h.wf && isWord druse && isWord inPos && isWord outPos && decide (instant < 2 ^ 96)
  | .druseForwardTimeout session txid => isWord session && isWord txid
  | .salvoOpen h gid => h.wf && isWord gid
  | .salvoAdd h gid adds => h.wf && isWord gid && (adds.druse.all fun d => isWord d) && (adds.takes.all fun x => isWord x.1 && isWord x.2)
  | .salvoArm h gid instant _ => h.wf && isWord gid && decide (instant < 2 ^ 96)
  | .salvoCommit h gid => h.wf && isWord gid
  | .salvoAbort h gid => h.wf && isWord gid
  | .jrpCreate h args desc => h.wf && (args.all fun x => isWord x) && (desc.all fun x => isWord x)
  | .jrpDestroy h handle => h.wf && isWord handle
  | .jrpAppend h req => h.wf && (req.args.all fun x => isWord x) && (req.claimant.all fun c => decide (c.1 < 262144) && isWord c.2)
  | .jrpResolve h druse dir pos => h.wf && isWord druse && decide (dir < 2) && isWord pos
  | .voice h op args => h.wf && decide (op < 256) && (args.all fun x => isWord x)
  | .layer h engine op args => h.wf && isWord engine && decide (op < 256) && (args.all fun x => isWord x)
  | .micaSet h engine words _ => h.wf && isWord engine && (words.all fun x => isWord x.2)
  | .flintLoad h engine _ crc => h.wf && isWord engine && isWord crc
  | .cnvLoad h cnv lutsel first values => h.wf && isWord cnv && isWord lutsel && isWord first && (values.all fun x => isWord x)
  | .cnvSwap h cnv => h.wf && isWord cnv
  | .query h object first count => h.wf && decide (object < 65536) && isWord first && decide (count < 65536)
  | .subscribe h sub => h.wf && sub.wf
  | .unsubscribe h number => h.wf && isWord number
  | .jrpAttest h nonce => h.wf && decide (nonce.length = 32)
  | .updStage h op args bytes _ => h.wf && decide (op < 256) && (args.all fun x => isWord x) && decide (bytes.length ≤ 1428)
  | .updConfirm h => h.wf
  | .jrpXchg h => h.wf
  | .jrpUpdCommit h mode trialWin trialMax env => h.wf && isWord mode && isWord trialWin && isWord trialMax && env.wf
  | .jrpLcChange h target => h.wf && decide (target < 16)
  | .jrpKeymsg h msg _ => h.wf && decide (msg.length ≤ 1428)
  | .forceClear h out => h.wf && isWord out
  | .finalStatus => true
  | .notifySend session => isWord session
  | .edpLinkLoss => true
  | .prbsCheck n _ _ => decide (n < 512)
  | .pcsLock p => decide (p < 66)
  | .faultSequence p kind => decide (p < 66) && decide (kind < 3)
  | .refDisqual ref => decide (1 ≤ ref) && decide (ref ≤ 8)
  | .quadPllLockTimeout q p => decide (q < 128) && decide (p < 2)
  | .sealClosed => true
  | .presenceRelease => true
  | .memberAnswer session txid code rest => isWord session && isWord txid && decide (rest.sys < 262144) && decide (code < 65536)
  | .avsRequest _ => true
  | .avsAnswer _ => true
  | .avsTimeout => true

end Sys2Proof
end

