-- ==== Sys2Proof/Safety.lean ====
section
/-! DEFINITION. What counts as a safe run of the block, in the terms claims use: a command completes when it answers a next
state, a state is sound when its tables stand in their canonical form, and a run is safe when every step of it completes. -/

namespace Sys2Proof.Machine

/-- An outcome is a next state: no fault and no refusal. -/
def completes (o : Host.Outcome State Fault Refusal) : Bool :=
  match o with
  | .next _ => true
  | .fault _ => false
  | .refused _ => false

/-- The register file stands in its canonical form: addresses strictly rising, and no word listed that is its reset value. -/
def RegsCanon (s : State) : Prop := Assoc.canon resetWord s.regs = true

/-- Management SRAM and the external DRAM stand in the canonical form of a byte memory. -/
def MemCanon (s : State) : Prop := Memory.wf s.mgt.sram = true ∧ Memory.wf s.dram.mem = true

/-- A sound state: register file and byte memories are canonical, so that equal contents are equal data. -/
structure Sound (s : State) : Prop where
  regs : RegsCanon s
  mem : MemCanon s

/-- No fuse that was blown reads as intact again (R559). -/
def FusesKept (s t : State) : Prop :=
  (s.fuses.lcf0 = true → t.fuses.lcf0 = true) ∧ (s.fuses.lcf1 = true → t.fuses.lcf1 = true) ∧
    (s.fuses.idgen = true → t.fuses.idgen = true)

/-- Master `m` is one of the bus masters 0 to 6, no master holds a target locked, and no register write waits for its domain: a
register write that master `m` issues is judged and takes effect at once. -/
abbrev Quiet (m : Nat) (s : State) : Prop := m ≤ 6 ∧ s.mgt.locks = [] ∧ s.landing = []

/-- An address lies outside the pages of the listed block types. -/
def Outside (ks : List BlkKind) (a : Nat) : Bool :=
  match Blk.ofAddr a with
  | some (b, _) => !ks.contains b.kind
  | none => true

/-- Every register outside the pages of the listed block types reads after as it read before. -/
def RegsKept (ks : List BlkKind) (s t : State) : Prop := ∀ a, Outside ks a = true → t.rd a = s.rd a

/-- Every register word but the listed addresses reads after as it read before. -/
def WordsKept (l : List Nat) (s t : State) : Prop := ∀ a, a ∉ l → t.rd a = s.rd a

/-- Every byte of management SRAM and of the external DRAM reads after as it read before. -/
def MemoryKept (s t : State) : Prop :=
  ∀ a, Memory.read t.mgt.sram a = Memory.read s.mgt.sram a ∧ Memory.read t.dram.mem a = Memory.read s.dram.mem a

/-- A record of an event source is pending in the fault collector. -/
abbrev Raised (src : Nat) (t : State) : Prop := ∃ p ∈ t.flt.pend, p.src = src

/-- No restart is due, no block waits to start again, no image is being loaded, no bus message waits, no source entry is vacated
and no JRP session is open: a tick moves time only. -/
abbrev Undisturbed (s : State) : Prop :=
  s.upd.due = none ∧ s.restart = [] ∧ s.load.on = false ∧ s.gbus.msgs = [] ∧ (s.fab.ing.all fun p => p.2.left.isNone) = true ∧
    s.jrp.sessions = [] ∧ s.jrp.running = [] ∧ s.jrp.held = []

/-- Command `c` in the datagram of header `h` is one that the judging of R584 queues in session `x`, the only one and idle, with
its right, its credit and the current table epoch, on a unit in service that mirrors to no twin: it is carried out at once. -/
abbrev JrpReady (h : JrpHdr) (x : JrpSession) (c : JrpCmd) (s : State) : Prop :=
  s.get Reg.CFG.STAT_STEP = 9 ∧ s.mirrors = false ∧ s.twin.mirror = [] ∧ s.jrpHears h = true ∧ h.formOk = true ∧
    s.jrpSessionOf h = some x ∧ (x.hmac = true → h.macOk = true) ∧ s.ownSys h.target = true ∧
    State.txClass x h.txid = .fresh ∧ s.jrpRefusal x true c = 0 ∧ s.jrp.sessions = [x] ∧ s.jrp.running = [] ∧
    s.jrp.held = [] ∧ s.jrp.forwards = [] ∧ x.queue = [] ∧ 500000 ≤ s.jrpCredit x ∧ h.epoch = s.get Reg.CHN.EPOCH

/-- Transaction ID, code and body of a RESPONSE sent in session `x` (R587). -/
def jrpReply (x : JrpSession) : Output → Option (Nat × Nat × List Nat)
  | .jrp port addr udp m =>
      if port = x.port ∧ addr = x.src ∧ udp = x.sport ∧ m.type = 4 ∧ m.session = x.id ∧ m.mac = x.hmac then
        some (m.txid, m.code, m.body)
      else none
  | _ => none

/-- The last thing sent is the RESPONSE to a transaction of session `x`, with this code and body. -/
abbrev Replied (x : JrpSession) (txid code : Nat) (body : List Nat) (t : State) : Prop :=
  t.out.head?.bind (jrpReply x) = some (txid, code, body)

/-- A run of n steps in which every step completes. -/
def SafeRun : Nat → State → Prop
  | 0, _ => True
  | n + 1, s => ∃ t, step s = .next t ∧ SafeRun n t

end Sys2Proof.Machine
end

