-- ==== Sys2Proof/Certificates/Slice0/Obligations.lean ====
section
/-! DEFINITION. The statements of this package: what the rules of the spec say that commands do, what they leave alone, and the
invariants that every step keeps. -/

open Sys2Proof Sys2Proof.Machine

/-- A step carries out the command at the front of the queue. When a command stands at the front of the queue, one step is exec
of that command on the state whose queue is the rest. With an empty queue the step is a tick of the time clock (the model's
choice, log entry 1). (95_what_each_step_holds.md, 15_time.md) -/
def Obligations.StepCarriesOutTheFrontCommand : Prop :=
  (∀ (s : State) (c : Instr) (rest : List Instr), s.pending = c :: rest → step s = exec c { s with pending := rest }) ∧
  (∀ s : State, s.pending = [] → step s = .next s.tick)

/-- Reset leaves every register at the reset value of its table. After power-on every register word reads the reset values of
its table fields, no write waits, no unlock is armed, no target is locked, no record is pending and no command waits (the
empty queues beside the registers are the model's choice, log entry 8). Rests on parts of R60. (02_register_interface.md,
20_faults.md) -/
def Obligations.ResetLeavesTheTableValues : Prop :=
  (∀ a, State.reset.rd a = resetWord a) ∧ State.reset.landing = [] ∧ State.reset.mgt.unlocks = [] ∧ State.reset.mgt.locks = [] ∧
    State.reset.flt.pend = [] ∧ State.reset.pending = []

/-- A register access that is narrower, wider or misaligned is not performed. A REGISTER_WRITE to a block region that is not 32
bits wide or not aligned to 4 bytes answers ALIGN, sets MGT.STAT.ALIGN and leaves every register outside MGT and the event
counts, and all memory, as it was. A misaligned read answers ALIGN with data 0. A read of another width or misaligned gives
0 and sets MGT.STAT.ALIGN, whoever makes it. (R33) -/
def Obligations.MisalignedAccessIsNotPerformed : Prop :=
  (∀ (s : State) (m addr size : Nat) (data : Word) (b : Blk),
    Quiet m s →
    s.place addr = .block b →
    size ≠ 4 ∨ addr % 4 ≠ 0 →
    ∃ t, exec (.registerWrite m addr size data) s = .next t ∧
      t.get Reg.MGT.STAT_ALIGN = 1 ∧
      Assoc.find t.mgt.readBack m = some ⟨2, 0⟩ ∧
      RegsKept [.mgt, .flt] s t ∧
      t = { s with regs := t.regs, mgt := t.mgt, flt := t.flt } ∧
      t.mgt.sram = s.mgt.sram) ∧
  (∀ (s : State) (m addr : Nat) (b : Blk),
    Quiet m s →
    s.place addr = .block b →
    addr % 4 ≠ 0 →
    ∃ t, exec (.lockedRead m addr) s = .next t ∧
      t.get Reg.MGT.STAT_ALIGN = 1 ∧
      Assoc.find t.mgt.readBack m = some ⟨2, 0⟩ ∧
      RegsKept [.mgt, .flt] s t) ∧
  (∀ (s : State) (m addr size : Nat) (b : Blk), s.place addr = .block b → size ≠ 4 ∨ addr % 4 ≠ 0 →
    (s.readAt m addr size).2.1 = 0 ∧ (s.readAt m addr size).2.2.get Reg.MGT.STAT_ALIGN = 1)

/-- A read of an unmapped address gives 0, a write to one is discarded, and DECERR is set. A write to an address outside every
decoded range answers DECERR, sets MGT.STAT.DECERR and is discarded. A read of an address outside every decoded range
answers DECERR with data 0. An offset that the block does not define is unmapped as well. A read of any width outside every
range gives 0 and sets MGT.STAT.DECERR, whoever makes it. (R35) -/
def Obligations.UnmappedAccessChangesNothing : Prop :=
  (∀ (s : State) (m addr size : Nat) (data : Word),
    Quiet m s →
    s.place addr = .nowhere →
    ∃ t, exec (.registerWrite m addr size data) s = .next t ∧
      t.get Reg.MGT.STAT_DECERR = 1 ∧
      Assoc.find t.mgt.readBack m = some ⟨1, 0⟩ ∧
      RegsKept [.mgt, .flt] s t ∧
      t = { s with regs := t.regs, mgt := t.mgt, flt := t.flt } ∧
      t.mgt.sram = s.mgt.sram) ∧
  (∀ (s : State) (m addr : Nat),
    Quiet m s →
    s.place addr = .nowhere →
    ∃ t, exec (.lockedRead m addr) s = .next t ∧
      t.get Reg.MGT.STAT_DECERR = 1 ∧
      Assoc.find t.mgt.readBack m = some ⟨1, 0⟩ ∧
      RegsKept [.mgt, .flt] s t) ∧
  (∀ (s : State) (m addr : Nat) (data : Word) (b : Blk),
    Quiet m s →
    s.place addr = .block b →
    addr % 4 = 0 →
    RegMap.find addr = none →
    ∃ t, exec (.registerWrite m addr 4 data) s = .next t ∧
      t.get Reg.MGT.STAT_DECERR = 1 ∧
      Assoc.find t.mgt.readBack m = some ⟨1, 0⟩ ∧
      RegsKept [.mgt, .flt] s t) ∧
  (∀ (s : State) (m addr size : Nat), s.place addr = .nowhere →
    (s.readAt m addr size).2.1 = 0 ∧ (s.readAt m addr size).2.2.get Reg.MGT.STAT_DECERR = 1)

/-- An accepted register write waits for its block, and takes effect there when the domain takes it. A REGISTER_WRITE of a
register without RWD and RWL fields, other than a CTRL, of a block outside the bus-matrix domain (TIME with EN = 1, and not
its STEPHI) answers OK, waits behind the writes that wait already, and shows STAT.WPEND = 1 of its block; no other register
changes yet. When the domain of a block other than LODE and LANE takes its oldest waiting write, and the register only
stores it: every RW field but EN takes the data, every bit of a W1C field that the data carries as 1 clears, every other
field keeps its value; the write no longer waits, WPEND tells whether another does, and no other register but STAT of the
block changes. A write of LODE or LANE may select a reference or set the equaliser anew beside: its RW fields take the data.
A write of a register that starts something does what the statements of its own command say, and no longer waits. A write of
CTRL starts the block with the RWD words taken with it where it set EN, and stops it where it cleared EN. A write of SRST
resets the block; while the clock of its receive half is stopped the part of the reset that lies there goes on waiting
(R57). That part follows when a clock is there. With no write waiting, or none but for a receive domain whose clock is
stopped, nothing happens. Rests on parts of R22, R40, R55, R57. (01_architecture.md, 02_register_interface.md) -/
def Obligations.AcceptedWriteWaits : Prop :=
  (∀ (s : State) (m addr : Nat) (data : Word) (b : Blk) (r : RegDef) (i j : Nat),
    Quiet m s →
    s.armed m = false →
    m ≠ 6 →
    RegMap.find addr = some (b, r, i, j) →
    s.place addr = .block b →
    addr % 4 = 0 →
    b.busSide = false →
    r.off ≠ 0 →
    (r.flds.all fun f => f.acc != .rwd && f.acc != .rwl) = true →
    (b.kind = .time → s.get b.en = 1) →
    (b.kind = .time → r.off ≠ 0x34) →
    ∃ t, exec (.registerWrite m addr 4 data) s = .next t ∧
      t.landing = s.landing ++ [⟨m, addr, data, false, false, false, [], false⟩] ∧
      t.get b.wpend = 1 ∧
      WordsKept [b.base + 4] s t ∧
      Assoc.find t.mgt.readBack m = some ⟨0, 0⟩ ∧
      t = { s with regs := t.regs, mgt := t.mgt, landing := t.landing }) ∧
  (∀ (s : State) (blk k : Nat) (b : Blk) (l : Landing) (r : RegDef) (i j : Nat) (f : Fld),
    Blk.ofBase blk = some b →
    (s.landing.find? (fun x => b.has x.addr && !s.waitsForClock b x) = some l) →
    RegMap.find l.addr = some (b, r, i, j) →
    l.rxRest = false →
    l.rise = false →
    l.fall = false →
    l.srst = false →
    s.landSpecial l.m b r.off i l.data = none →
    b.kind ≠ .lode →
    b.kind ≠ .lane →
    r.off ≠ 4 →
    f ∈ r.flds →
    ∃ t, exec (.domainWriteEffect blk) s = .next t ∧
      (f.acc = .rw → (r.off = 0 → f.lo ≠ 0) → bits (t.rd l.addr).toNat f.hi f.lo = bits l.data.toNat f.hi f.lo) ∧
      (f.acc = .w1c → k < 32 → f.lo ≤ k → k ≤ f.hi → (t.rd l.addr).toNat.testBit k = ((s.rd l.addr).toNat.testBit k && !l.data.toNat.testBit k)) ∧
      (f.acc ≠ .rw → f.acc ≠ .w1c → bits (t.rd l.addr).toNat f.hi f.lo = bits (s.rd l.addr).toNat f.hi f.lo) ∧
      t.landing = s.landing.erase l ∧
      (t.get b.wpend = b2n ((s.landing.erase l).any fun x => b.has x.addr)) ∧
      WordsKept [l.addr, b.base + 4] s t) ∧
  (∀ (s : State) (blk : Nat) (b : Blk) (l : Landing) (r : RegDef) (i j : Nat) (f : Fld),
    Blk.ofBase blk = some b →
    (s.landing.find? (fun x => b.has x.addr && !s.waitsForClock b x) = some l) →
    RegMap.find l.addr = some (b, r, i, j) →
    l.rxRest = false →
    l.rise = false →
    l.fall = false →
    l.srst = false →
    s.landSpecial l.m b r.off i l.data = none →
    b.kind = .lode ∨ b.kind = .lane →
    r.off ≠ 0 →
    r.off ≠ 4 →
    f ∈ r.flds →
    f.acc = .rw →
    ∃ t, exec (.domainWriteEffect blk) s = .next t ∧
      bits (t.rd l.addr).toNat f.hi f.lo = bits l.data.toNat f.hi f.lo ∧
      t.landing = s.landing.erase l) ∧
  (∀ (s u : State) (blk : Nat) (b : Blk) (l : Landing) (r : RegDef) (i j : Nat),
    Blk.ofBase blk = some b →
    (s.landing.find? (fun x => b.has x.addr && !s.waitsForClock b x) = some l) →
    RegMap.find l.addr = some (b, r, i, j) →
    l.rxRest = false →
    l.rise = false →
    l.fall = false →
    l.srst = false →
    ({ s with landing := s.landing.erase l } : State).landSpecial l.m b r.off i l.data = some u →
    ∃ t, exec (.domainWriteEffect blk) s = .next t ∧
      t = u.showWpend b) ∧
  (∀ (s : State) (blk : Nat) (b : Blk) (l : Landing) (r : RegDef) (i j : Nat),
    Blk.ofBase blk = some b →
    (s.landing.find? (fun x => b.has x.addr && !s.waitsForClock b x) = some l) →
    RegMap.find l.addr = some (b, r, i, j) →
    l.rxRest = false →
    r.off = 0 →
    l.srst = false →
    ∃ t, exec (.domainWriteEffect blk) s = .next t ∧
      t = (((({ s with landing := s.landing.erase l } : State).landStore r l.addr l.data).when l.rise (State.raiseEn b l.cap)).when l.fall (State.lowerEn b)).showWpend b) ∧
  (∀ (s : State) (blk : Nat) (b : Blk) (l : Landing) (r : RegDef) (i j : Nat),
    Blk.ofBase blk = some b →
    (s.landing.find? (fun x => b.has x.addr && !s.waitsForClock b x) = some l) →
    RegMap.find l.addr = some (b, r, i, j) →
    l.rxRest = false →
    r.off = 0 →
    l.srst = true →
    l.rise = false →
    l.fall = false →
    ∃ t, exec (.domainWriteEffect blk) s = .next t ∧
      (t = ((({ s with landing := if s.rxClockOff b then s.landing.map (fun x => if x = l then { l with rxRest := true } else x) else s.landing.erase l } : State).softReset b).landStore r l.addr l.data).showWpend b)) ∧
  (∀ (s : State) (blk : Nat) (b : Blk) (l : Landing),
    Blk.ofBase blk = some b →
    (s.landing.find? (fun x => b.has x.addr && !s.waitsForClock b x) = some l) →
    l.rxRest = true →
    ∃ t, exec (.domainWriteEffect blk) s = .next t ∧
      t = (({ s with landing := s.landing.erase l } : State).softRest b).showWpend b) ∧
  (∀ (s : State) (blk : Nat) (b : Blk),
    Blk.ofBase blk = some b →
    (s.landing.find? (fun x => b.has x.addr && !s.waitsForClock b x) = none) →
    ∃ t, exec (.domainWriteEffect blk) s = .next t ∧
      t = s)

/-- A locked field is written only by the master that armed the unlock, which a key arms and a time disarms. A write that would
change an RWL field while its master has not unlocked leaves the field as it was, sets MGT.STAT.LOCK_IGN, puts the address
into MGT.IGNADDR and raises the lock-ignored event. A write by the master that armed the unlock lands in the field and
consumes the unlock. The registers of PROV, MICA, DRCC and PINTEST that judge an unlocked write as a whole have statements
of their own. The unlock of another master is neither consumed nor of use; only a block soft reset disarms it. UNLOCK with
0xC3A5 in bits 15..0 arms the unlock of its master for 1 ms, whatever bits 31..16 carry, and changes no register. UNLOCK
with any other value disarms it. UNLOCK_TIMEOUT disarms an unlock whose time has run out and changes nothing else; one that
still runs stays armed. Rests on parts of R50, R52, R51. (02_register_interface.md) -/
def Obligations.LockedFieldsKeepTheirValue : Prop :=
  (∀ (s : State) (m addr : Nat) (data : Word) (b : Blk) (r : RegDef) (i j : Nat) (f : Fld),
    Quiet m s →
    m ≠ 6 →
    s.armed m = false →
    RegMap.find addr = some (b, r, i, j) →
    s.place addr = .block b →
    addr % 4 = 0 →
    f ∈ r.flds →
    f.acc = .rwl →
    bits (s.rd addr).toNat f.hi f.lo ≠ bits data.toNat f.hi f.lo →
    ∃ t, exec (.registerWrite m addr 4 data) s = .next t ∧
      bits (t.rd addr).toNat f.hi f.lo = bits (s.rd addr).toNat f.hi f.lo ∧
      t.get Reg.MGT.STAT_LOCK_IGN = 1 ∧
      t.get Reg.MGT.IGNADDR_ADDR = addr / 4 ∧
      Raised 33 t) ∧
  (∀ (s : State) (m addr : Nat) (data : Word) (b : Blk) (r : RegDef) (i j : Nat) (f : Fld),
    Quiet m s →
    s.armed m = true →
    RegMap.find addr = some (b, r, i, j) →
    s.place addr = .block b →
    addr % 4 = 0 →
    f ∈ r.flds →
    f.acc = .rwl →
    b.kind ≠ .prov →
    b.kind ≠ .mica →
    b.kind ≠ .drcc →
    b.kind ≠ .lane →
    (b.kind = .flt → r.off ≠ 0x2C) →
    ∃ t, exec (.registerWrite m addr 4 data) s = .next t ∧
      bits (t.rd addr).toNat f.hi f.lo = bits data.toNat f.hi f.lo ∧
      Assoc.find t.mgt.unlocks m = none) ∧
  (∀ (s : State) (m addr k : Nat) (data : Word) (b : Blk),
    Quiet m s →
    k ≠ m →
    s.place addr = .block b →
    ∃ t, exec (.registerWrite m addr 4 data) s = .next t ∧
      (Assoc.find t.mgt.unlocks k = Assoc.find s.mgt.unlocks k ∨ (addr % 4 = 0 ∧ addr - b.base = 0 ∧ bit data.toNat 1 = true))) ∧
  (∀ (s : State) (m : Nat) (data : Word),
    Quiet m s →
    data.toNat % 65536 = 0xC3A5 →
    ∃ t, exec (.unlock m data) s = .next t ∧
      Assoc.find t.mgt.unlocks m = some (s.now + 1000000) ∧
      t.armed m = true ∧
      t = { s with mgt := t.mgt, regs := t.regs } ∧
      WordsKept [] s t ∧
      t.mgt.sram = s.mgt.sram) ∧
  (∀ (s : State) (m : Nat) (data : Word),
    Quiet m s →
    data.toNat % 65536 ≠ 0xC3A5 →
    ∃ t, exec (.unlock m data) s = .next t ∧
      t.armed m = false ∧
      t = { s with mgt := t.mgt, regs := t.regs } ∧
      WordsKept [] s t) ∧
  (∀ (s : State) (m d : Nat),
    Assoc.find s.mgt.unlocks m = some d →
    d ≤ s.now →
    ∃ t, exec (.unlockTimeout m) s = .next t ∧
      Assoc.find t.mgt.unlocks m = none ∧
      t.armed m = false ∧
      (∀ k, k ≠ m → Assoc.find t.mgt.unlocks k = Assoc.find s.mgt.unlocks k) ∧
      t = { s with mgt := { s.mgt with unlocks := t.mgt.unlocks } }) ∧
  (∀ (s : State) (m d : Nat),
    Assoc.find s.mgt.unlocks m = some d →
    s.now < d →
    ∃ t, exec (.unlockTimeout m) s = .next t ∧
      t = s)

/-- Configuration of an enabled block keeps its value. A write that would change an RWD field while EN is 1 leaves the field as
it was, sets STAT.CFG_IGN of the block and puts the address into MGT.IGNADDR; a write that clears EN in the same word is no
exception (R45). While EN is 0 the field takes the data, whether or not the block still runs (R46). Rests on parts of R44,
R45, R46. (02_register_interface.md) -/
def Obligations.EnabledConfigurationIsIgnored : Prop :=
  (∀ (s : State) (m addr : Nat) (data : Word) (b : Blk) (r : RegDef) (i j : Nat) (f : Fld),
    Quiet m s →
    s.get b.en = 1 →
    RegMap.find addr = some (b, r, i, j) →
    s.place addr = .block b →
    addr % 4 = 0 →
    f ∈ r.flds →
    f.acc = .rwd →
    bits (s.rd addr).toNat f.hi f.lo ≠ bits data.toNat f.hi f.lo →
    ∃ t, exec (.registerWrite m addr 4 data) s = .next t ∧
      bits (t.rd addr).toNat f.hi f.lo = bits (s.rd addr).toNat f.hi f.lo ∧
      t.get b.cfgIgn = 1 ∧
      t.get Reg.MGT.IGNADDR_ADDR = addr / 4) ∧
  (∀ (s : State) (m addr : Nat) (data : Word) (b : Blk) (r : RegDef) (i j : Nat) (f : Fld),
    Quiet m s →
    s.get b.en = 0 →
    RegMap.find addr = some (b, r, i, j) →
    s.place addr = .block b →
    addr % 4 = 0 →
    f ∈ r.flds →
    f.acc = .rwd →
    r.off ≠ 0 →
    b.kind ≠ .lane →
    b.kind ≠ .quad →
    ∃ t, exec (.registerWrite m addr 4 data) s = .next t ∧
      bits (t.rd addr).toNat f.hi f.lo = bits data.toNat f.hi f.lo)

/-- A block starts when EN is set, finishes its unit when EN is cleared, and stops when the unit is done. BLOCK_ENABLE of any
block sets its CTRL.EN, but that of a DRAM channel, which follows the common EN. A block of a type whose start has no
condition (all but AUD, APRT, SCAN, LANE, QUAD, GBUS and DRC) runs once the write has taken effect. One that is enabled
already stays so, and neither starts nor stops. BLOCK_DISABLE of any block but a DRAM channel clears CTRL.EN, and the block
still finishes its unit: STAT.RUN reads 1. The EN of a DRAM channel keeps its value. BLOCK_STOP_DONE of a block that was
disabled: the unit is done and STAT.RUN reads 0, also where EN was set again meanwhile: the block then waits to start. A
block that does not run, or is not to stop, has nothing to finish. A block of CHN, PROV or DEC that waits so starts at the
next tick of an otherwise idle chip. BLOCK_SOFT_RESET of a disabled block other than a DRAM channel, whose receive clock
runs where it has one, returns EN and every RW and RWD field of it to its reset value, but CHN.CFG and the CFG of a lane,
and disarms every unlock. A lane of which a channel holds a half keeps its CFG. SRST written while EN is 1 and stays 1
resets nothing and sets STAT.CFG_IGN. Rests on parts of R44, R45, R46, R47, R60, R620, R51. (02_register_interface.md) -/
def Obligations.BlocksStartAndStop : Prop :=
  (∀ (s : State) (m blk : Nat) (data : Word) (b : Blk),
    Quiet m s →
    Blk.ofBase blk = some b →
    s.get b.en = 0 →
    bit data.toNat 0 = true →
    bit data.toNat 1 = false →
    ∃ t, exec (.blockEnable m blk data) s = .next t ∧
      t.get b.en = b2n (b.kind != .drc) ∧
      t.get b.wpend = 0) ∧
  (∀ (s : State) (m blk : Nat) (data : Word) (b : Blk),
    Quiet m s →
    Blk.ofBase blk = some b →
    b.kind ∈ [BlkKind.fab, .chn, .prov, .sdi, .ipm, .cnv, .mica, .dec, .time, .flt, .cfg, .mgt, .bmx, .sns, .key, .upd, .lode, .eth, .twin] →
    s.get b.en = 0 →
    s.get b.run = 0 →
    bit data.toNat 0 = true →
    bit data.toNat 1 = false →
    ∃ t, exec (.blockEnable m blk data) s = .next t ∧
      t.get b.run = 1) ∧
  (∀ (s : State) (m blk : Nat) (data : Word) (b : Blk),
    Quiet m s →
    Blk.ofBase blk = some b →
    s.get b.en = 1 →
    bit data.toNat 0 = true →
    bit data.toNat 1 = false →
    ∃ t, exec (.blockEnable m blk data) s = .next t ∧
      t.get b.en = 1 ∧
      t.get b.run = s.get b.run) ∧
  (∀ (s : State) (m blk : Nat) (data : Word) (b : Blk),
    Quiet m s →
    Blk.ofBase blk = some b →
    b.kind ≠ .drc →
    s.get b.en = 1 →
    s.get b.run = 1 →
    bit data.toNat 0 = false →
    bit data.toNat 1 = false →
    ∃ t, exec (.blockDisable m blk data) s = .next t ∧
      t.get b.en = 0 ∧
      t.get b.run = 1) ∧
  (∀ (s : State) (m blk : Nat) (data : Word) (b : Blk),
    Quiet m s →
    Blk.ofBase blk = some b →
    b.kind = .drc →
    bit data.toNat 1 = false →
    ∃ t, exec (.blockDisable m blk data) s = .next t ∧
      t.get b.en = s.get b.en ∧
      t.get b.run = s.get b.run) ∧
  (∀ (s : State) (blk : Nat) (b : Blk),
    Blk.ofBase blk = some b →
    s.get b.run = 1 →
    s.get b.en = 0 ∨ (Assoc.find s.restart b.base).isSome = true →
    ∃ t, exec (.blockStopDone blk) s = .next t ∧
      t.get b.run = 0 ∧
      t.get b.en = s.get b.en ∧
      t.restart = s.restart) ∧
  (∀ (s : State) (blk : Nat) (b : Blk),
    Blk.ofBase blk = some b →
    s.get b.run = 0 ∨ (s.get b.en = 1 ∧ (Assoc.find s.restart b.base).isSome = false) →
    ∃ t, exec (.blockStopDone blk) s = .next t ∧
      t = s) ∧
  (∀ (s : State) (b : Blk), s.pending = [] → s.restart = [(b.base, [])] → Undisturbed { s with restart := [] } →
    Blk.ofBase b.base = some b → b.kind ∈ [BlkKind.chn, .prov, .dec] → s.get b.en = 1 → s.get b.run = 0 →
    ∃ t, step s = .next t ∧ t.get b.run = 1 ∧ t.restart = []) ∧
  (∀ (s : State) (m blk addr : Nat) (data : Word) (b : Blk) (r : RegDef) (i j : Nat) (f : Fld),
    Quiet m s →
    Blk.ofBase blk = some b →
    b.kind ≠ .drc →
    s.get b.en = 0 →
    bit data.toNat 0 = false →
    bit data.toNat 1 = true →
    RegMap.find addr = some (b, r, i, j) →
    r.off ≠ 0 →
    r.off ≠ 4 →
    (b.kind = .chn → r.off ≠ 0x10) →
    (b.kind = .lane → r.off ≠ 0x10) →
    s.rxClockOff b = false →
    f ∈ r.flds →
    f.acc = .rw ∨ f.acc = .rwd →
    ∃ t, exec (.blockSoftReset m blk data) s = .next t ∧
      bits (t.rd addr).toNat f.hi f.lo = bits (resetWord addr).toNat f.hi f.lo ∧
      t.get b.en = bits (resetWord b.en.addr).toNat 0 0 ∧
      t.mgt.unlocks = []) ∧
  (∀ (s : State) (m blk n : Nat),
    Quiet m s →
    Blk.ofBase blk = some ⟨.lane, n⟩ →
    s.get (Blk.en ⟨.lane, n⟩) = 0 →
    s.rxClockOff ⟨.lane, n⟩ = false →
    (s.laneHeld true n || s.laneHeld false n) = true →
    ∃ t, exec (.blockSoftReset m blk 2) s = .next t ∧
      (t.rd (Reg.LANE.CFG_LOOP n).addr) = s.rd (Reg.LANE.CFG_LOOP n).addr) ∧
  (∀ (s : State) (m blk : Nat) (b : Blk) (data : Word),
    Quiet m s →
    Blk.ofBase blk = some b →
    s.get b.en = 1 →
    bit data.toNat 0 = true →
    bit data.toNat 1 = true →
    ∃ t, exec (.blockSoftReset m blk data) s = .next t ∧
      t.get b.cfgIgn = 1 ∧
      t.get b.en = 1 ∧
      t.get b.run = s.get b.run ∧
      WordsKept [b.base, b.base + 4] s t)

/-- The watchdog, the sensors, the trigger and the adaptive voltage. WDSVC with 0x0000A55A from the safety cores services the
watchdog, unless it has expired or their firmware has stopped (LOSS seen with LOSSSTOP = 1). Then it services nothing. The
same value from any other master is discarded and raises WDOG_FOREIGN. Any other value from master 4 makes the watchdog
expire at once, and in service the alive signal stops. Any other value from another master, or once it has expired, does
nothing. WDOG: at expiry the alive signal stops, and nothing else changes. Before TIMEOUT has passed since the last service
it is nothing. SENSOR_CONVERSION writes the result of the sensor that the converter serves, a temperature or a voltage, and
the converter goes on; which it serves is said now. A converter whose sensors are all in the safety set, and that has served
them in this millisecond, has nothing to serve. First it serves what is left of the scan of the safety set in this
millisecond. In a new millisecond the scan starts again; then the triggered sensor, whose result TRIGRES takes as well; then
telemetry in turn. The other converter serves the voltage monitors; a voltage above HI raises VOLT_LIMIT once, until it
returns inside. An open or shorted sensor reads 0x8000 and raises SENSOR_FAIL. While SNS does not run nothing is converted.
TRIG requests one conversion of the sensor it names. A trigger while one is pending is dropped, and STAT.TRIG_OVR is set. A
number that is no sensor does nothing. AVS_REQUEST sends the target 5 mV up or down, within 0.700 to 0.800 V. Nothing is
sent outside service, after a refusal, while one is awaited or within 1 ms, and at the limit. AVS_ANSWER after its 1 ms
counts as none; one not awaited is nothing. Within 1 ms of the request a refusal ends adaptive voltage. AVS_TIMEOUT, 1 ms
after the request, ends it as well. before that it is nothing. Rests on parts of R508, R501, R518, R519, R520, R603.
(21_management.md, 20_faults.md, 25_electrical.md) -/
def Obligations.WatchdogAndSensors : Prop :=
  (∀ (s : State) (m : Nat) (key : Word),
    Quiet m s →
    m = 4 →
    key = 0xA55A →
    s.mgt.wdExpired = none →
    s.serviceStopped = false →
    ∃ t, exec (.wdsvc m key) s = .next t ∧
      t.mgt.wdLast = s.now ∧
      t.mgt.wdExpired = none ∧
      RegsKept [.mgt] s t ∧
      t.get Reg.FLT.STAT_PHASE = s.get Reg.FLT.STAT_PHASE) ∧
  (∀ (s : State) (m : Nat) (key : Word),
    Quiet m s →
    m = 4 →
    key = 0xA55A →
    s.mgt.wdExpired ≠ none ∨ s.serviceStopped = true →
    ∃ t, exec (.wdsvc m key) s = .next t ∧
      t.mgt.wdLast = s.mgt.wdLast ∧
      t.mgt.wdExpired = s.mgt.wdExpired ∧
      WordsKept [] s t) ∧
  (∀ (s : State) (m : Nat) (key : Word),
    Quiet m s →
    m ≠ 4 →
    key = 0xA55A →
    ∃ t, exec (.wdsvc m key) s = .next t ∧
      t.mgt.wdLast = s.mgt.wdLast ∧
      t.mgt.wdExpired = s.mgt.wdExpired ∧
      Raised 42 t ∧
      RegsKept [.flt] s t) ∧
  (∀ (s : State) (m : Nat) (key : Word),
    Quiet m s →
    m = 4 →
    key ≠ 0xA55A →
    s.mgt.wdExpired = none →
    ∃ t, exec (.wdsvc m key) s = .next t ∧
      t.mgt.wdExpired = some s.now ∧
      (s.get Reg.FLT.STAT_PHASE = 1 → t.get Reg.FLT.STAT_PHASE = 3)) ∧
  (∀ (s : State) (m : Nat) (key : Word),
    Quiet m s →
    m ≠ 4 ∨ s.mgt.wdExpired ≠ none →
    key ≠ 0xA55A →
    ∃ t, exec (.wdsvc m key) s = .next t ∧
      t.mgt.wdLast = s.mgt.wdLast ∧
      t.mgt.wdExpired = s.mgt.wdExpired ∧
      WordsKept [] s t) ∧
  (∀ (s : State),
    s.mgt.wdExpired = none →
    s.mgt.wdLast + s.wdTimeout * 1000000 ≤ s.now →
    ∃ t, exec (.wdog) s = .next t ∧
      t.mgt.wdExpired = some s.now ∧
      t.get Reg.MGT.WDSTAT = 0 ∧
      (s.get Reg.FLT.STAT_PHASE = 1 → t.get Reg.FLT.STAT_PHASE = 3) ∧
      (s.get Reg.FLT.STAT_PHASE = 0 → t.get Reg.FLT.STAT_PHASE = 2) ∧
      t = { s with regs := t.regs, mgt := { s.mgt with wdExpired := some s.now } } ∧
      WordsKept [Reg.FLT.STAT_PHASE.addr, Reg.MGT.WDSTAT.addr] s t) ∧
  (∀ (s : State),
    s.now < s.mgt.wdLast + s.wdTimeout * 1000000 →
    ∃ t, exec (.wdog) s = .next t ∧
      t = s) ∧
  (∀ (s : State) (volt fault trg : Bool) (value k : Nat) (c : SnsConv),
    s.get Reg.SNS.STAT_RUN = 1 →
    s.servedSensor volt = some (k, trg, c) →
    ∃ t, exec (.sensorConversion volt value fault) s = .next t ∧
      (t.get (if volt then Reg.SNS.VOLT (k - 64) else Reg.SNS.TEMP k) = if fault then 0x8000 else value % 65536) ∧
      t.snsConv volt = c ∧
      t.snsConv (!volt) = s.snsConv (!volt) ∧
      (t.mgt.trig = if trg then none else s.mgt.trig) ∧
      RegsKept [.sns, .flt] s t) ∧
  (∀ (s : State) (volt fault : Bool) (value : Nat),
    s.servedSensor volt = none →
    ∃ t, exec (.sensorConversion volt value fault) s = .next t ∧
      t = s) ∧
  (∀ (s : State) (k value u : Nat) (rest : List Nat),
    k < 40 →
    s.get Reg.SNS.STAT_RUN = 1 →
    s.mgt.convT = ⟨some (s.now / 1000000), k :: rest, u⟩ →
    ∃ t, exec (.sensorConversion false value false) s = .next t ∧
      t.get (Reg.SNS.TEMP k) = value % 65536 ∧
      t.mgt.convT = ⟨some (s.now / 1000000), rest, u⟩ ∧
      t.mgt.trig = s.mgt.trig ∧
      RegsKept [.sns, .flt] s t) ∧
  (∀ (s : State) (value u : Nat),
    s.get Reg.SNS.STAT_RUN = 1 →
    s.mgt.convT.pass ≠ some (s.now / 1000000) →
    s.mgt.convT.turn = u →
    s.inSafety 0 = true →
    ∃ t, exec (.sensorConversion false value false) s = .next t ∧
      t.get (Reg.SNS.TEMP 0) = value % 65536 ∧
      t.mgt.convT.pass = some (s.now / 1000000) ∧
      t.mgt.convT.turn = u ∧
      t.mgt.trig = s.mgt.trig) ∧
  (∀ (s : State) (k value u : Nat),
    k < 40 →
    s.get Reg.SNS.STAT_RUN = 1 →
    s.mgt.convT = ⟨some (s.now / 1000000), [], u⟩ →
    s.mgt.trig = some k →
    ∃ t, exec (.sensorConversion false value false) s = .next t ∧
      t.get (Reg.SNS.TEMP k) = value % 65536 ∧
      t.get Reg.SNS.TRIGRES_VALUE = value % 65536 ∧
      t.get Reg.SNS.TRIGRES_DONE = 1 ∧
      t.mgt.trig = none ∧
      RegsKept [.sns, .flt] s t) ∧
  (∀ (s : State) (k value : Nat),
    k < 40 →
    s.get Reg.SNS.STAT_RUN = 1 →
    s.mgt.convT = ⟨some (s.now / 1000000), [], k⟩ →
    s.mgt.trig = none →
    s.inSafety k = false →
    ∃ t, exec (.sensorConversion false value false) s = .next t ∧
      t.get (Reg.SNS.TEMP k) = value % 65536 ∧
      t.mgt.convT = ⟨some (s.now / 1000000), [], k + 1⟩ ∧
      RegsKept [.sns, .flt] s t) ∧
  (∀ (s : State) (k value u : Nat) (rest : List Nat),
    k < 32 →
    s.get Reg.SNS.STAT_RUN = 1 →
    s.mgt.convV = ⟨some (s.now / 1000000), (64 + k) :: rest, u⟩ →
    value < 0x8000 →
    s.get (Reg.SNS.VLIM_HI k) < value →
    s.mgt.tripped.contains (64 + k) = false →
    ∃ t, exec (.sensorConversion true value false) s = .next t ∧
      t.get (Reg.SNS.VOLT k) = value ∧
      Raised 44 t ∧
      (64 + k) ∈ t.mgt.tripped ∧
      t.mgt.convV = ⟨some (s.now / 1000000), rest, u⟩ ∧
      t.mgt.convT = s.mgt.convT) ∧
  (∀ (s : State) (k value u : Nat) (rest : List Nat),
    k < 40 →
    s.get Reg.SNS.STAT_RUN = 1 →
    s.mgt.convT = ⟨some (s.now / 1000000), k :: rest, u⟩ →
    ∃ t, exec (.sensorConversion false value true) s = .next t ∧
      t.get (Reg.SNS.TEMP k) = 0x8000 ∧
      Raised 45 t ∧
      t.mgt.convT = ⟨some (s.now / 1000000), rest, u⟩ ∧
      t.mgt.tripped = s.mgt.tripped ∧
      RegsKept [.sns, .flt] s t) ∧
  (∀ (s : State) (volt fault : Bool) (value : Nat),
    s.get Reg.SNS.STAT_RUN = 0 →
    ∃ t, exec (.sensorConversion volt value fault) s = .next t ∧
      t = s) ∧
  (∀ (s : State) (m : Nat) (data : Word),
    Quiet m s →
    State.sensorNamed (data.toNat % 128) = true →
    s.mgt.trig = none →
    ∃ t, exec (.trig m data) s = .next t ∧
      t.mgt.trig = some (data.toNat % 128) ∧
      RegsKept [.sns] s t) ∧
  (∀ (s : State) (m : Nat) (data : Word),
    Quiet m s →
    State.sensorNamed (data.toNat % 128) = true →
    s.mgt.trig ≠ none →
    ∃ t, exec (.trig m data) s = .next t ∧
      t.mgt.trig = s.mgt.trig ∧
      t.get Reg.SNS.STAT_TRIG_OVR = 1) ∧
  (∀ (s : State) (m : Nat) (data : Word),
    Quiet m s →
    State.sensorNamed (data.toNat % 128) = false →
    ∃ t, exec (.trig m data) s = .next t ∧
      t.mgt.trig = s.mgt.trig ∧
      WordsKept [] s t) ∧
  (∀ (s : State) (up : Bool),
    s.avsReady = true →
    s.avsTarget up ≠ s.avs.target →
    ∃ t, exec (.avsRequest up) s = .next t ∧
      t.avs.target = s.avsTarget up ∧
      700 ≤ t.avs.target ∧ t.avs.target ≤ 800 ∧
      t.avs.waiting = true ∧
      t.avs.last = some s.now ∧
      t.out = .avs t.avs.target :: s.out ∧
      t = { s with avs := t.avs, out := t.out }) ∧
  (∀ (s : State) (up : Bool),
    s.avsReady = false ∨ s.avsTarget up = s.avs.target →
    ∃ t, exec (.avsRequest up) s = .next t ∧
      t = s) ∧
  (∀ (s : State) (ok : Bool),
    s.avs.waiting = true →
    s.avsLate = true →
    ∃ t, exec (.avsAnswer ok) s = .next t ∧
      t.avs.waiting = false ∧
      t.avs.stopped = true ∧
      t = { s with avs := t.avs }) ∧
  (∀ (s : State) (ok : Bool),
    s.avs.waiting = false →
    ∃ t, exec (.avsAnswer ok) s = .next t ∧
      t = s) ∧
  (∀ (s : State) (ok : Bool),
    s.avs.waiting = true →
    s.avsLate = false →
    ∃ t, exec (.avsAnswer ok) s = .next t ∧
      t.avs.waiting = false ∧
      (ok = false → t.avs.stopped = true) ∧
      (ok = true → t.avs.stopped = s.avs.stopped) ∧
      t.avs.target = s.avs.target ∧
      t = { s with avs := t.avs }) ∧
  (∀ (s : State),
    s.avs.waiting = true →
    s.avsLate = true →
    ∃ t, exec (.avsTimeout) s = .next t ∧
      t.avs.waiting = false ∧
      t.avs.stopped = true ∧
      t = { s with avs := t.avs }) ∧
  (∀ (s : State),
    s.avs.waiting = false ∨ s.avsLate = false →
    ∃ t, exec (.avsTimeout) s = .next t ∧
      t = s)

/-- The bus matrix: locks, the remap, the DRAM bank, and the copy engines. LOCKED_READ of a register, with no word of a memory
inverted, answers its fields (RUN of a block whose receive clock stands apart) and takes the target for the master; no
register changes. The LUTDATA windows of converters and mica, whose read advances an index, have statements of their own.
One of SRAM answers its four bytes and takes the target likewise. One to a target that another master holds waits. A locked
read of the boot ROM or the DRAM window is refused LOCKERR. While it holds a target, a transaction of the master to another
target is refused LOCKERR, and the lock stays. A transaction of another master to the held target waits, and consumes the
unlock of its master. BMX_FORCED releases a lock that has held its target for 128 ns, counts the release and raises its
event. With no lock so long it is nothing. The holder's write to its target ends the sequence. REMAP_WRITE: address 0
decodes to SRAM with REMAP = 1 and to the boot ROM with REMAP = 0. DWBANK chooses the bank that the DRAM window shows.
DMA_GO starts a copy of a legal length and alignment: BUSY reads 1. A length that is no multiple of 4 or above 16 MiB, or a
register address that is not aligned to 4 bytes, completes at once with ERR = ALIGN and no access. A length of 0 completes
at once with ERR = OK. A GO while BUSY = 1 is ignored, and so is one that writes 0. A write of SRCLO alone does not change
the source an engine uses; the write of SRCHI takes both words. DMA_DONE of a copy within SRAM, of words to words that do
not overlap them, with no word inverted: every byte at DST reads as that at SRC did, every other byte is kept, DONE sets and
DMA_DONE is raised. An engine that is not busy completes nothing, and one waits while a master holds a target. A copy stops
at the first response other than OK, and ERR takes that code: here that of a source that does not exist. Rests on parts of
R515, R36, R37, R514, R517, R59. (21_management.md, 02_register_interface.md) -/
def Obligations.BusMatrixLocksRemapAndBank : Prop :=
  (∀ (s : State) (m addr : Nat) (b : Blk) (r : RegDef) (i j : Nat) (f : Fld),
    Quiet m s →
    s.place addr = .block b →
    RegMap.find addr = some (b, r, i, j) →
    addr % 4 = 0 →
    b.kind ≠ .cnv →
    b.kind ≠ .mica →
    addr ≠ Reg.MGT.UNLOCK_KEY0.addr →
    f ∈ r.flds →
    f.acc ≠ .wo →
    (f.lo = 0 → s.rxClockOff b = true → r.off ≠ 4) →
    s.prov.inverted = [] →
    ∃ t, exec (.lockedRead m addr) s = .next t ∧
      t.mgt.locks = [{ m := m, target := b.kind.target, since := s.now }] ∧
      WordsKept [] s t ∧
      (∃ w : Word, Assoc.find t.mgt.readBack m = some ⟨0, w⟩ ∧ bits w.toNat f.hi f.lo = bits (s.rd addr).toNat f.hi f.lo) ∧
      t = { s with mgt := t.mgt }) ∧
  (∀ (s : State) (m addr off : Nat),
    Quiet m s →
    s.place addr = .sram off →
    s.prov.inverted = [] →
    ∃ t, exec (.lockedRead m addr) s = .next t ∧
      t.mgt.locks = [{ m := m, target := 0, since := s.now }] ∧
      Assoc.find t.mgt.readBack m = some ⟨0, BitVec.ofNat 32 (leNat (Memory.readN s.mgt.sram off 4))⟩ ∧
      t = { s with mgt := t.mgt } ∧
      t.mgt.sram = s.mgt.sram) ∧
  (∀ (s : State) (m addr : Nat) (l : BusLock),
    m ≤ 6 →
    s.mgt.locks = [l] →
    l.m ≠ m →
    s.busTarget addr = some l.target →
    ∃ t, exec (.lockedRead m addr) s = .next t ∧
      t.mgt.stalled = s.mgt.stalled ++ [{ m := m, write := false, lock := true, addr := addr, size := 4, data := 0, unl := false, remap := s.flag Reg.BMX.CTRL_REMAP }] ∧
      t.mgt.locks = [l] ∧
      RegsKept [.bmx] s t) ∧
  (∀ (s : State) (m addr : Nat),
    Quiet m s →
    s.busTarget addr = some 1 ∨ s.busTarget addr = some 2 →
    ∃ t, exec (.lockedRead m addr) s = .next t ∧
      t.get Reg.MGT.STAT_LOCKERR = 1 ∧
      Assoc.find t.mgt.readBack m = some ⟨4, 0⟩ ∧
      Raised 37 t ∧
      t.mgt.locks = [] ∧
      RegsKept [.mgt, .bmx, .flt] s t) ∧
  (∀ (s : State) (m addr : Nat) (data : Word) (l : BusLock) (k : Nat),
    m ≤ 6 →
    s.lockOf m = some l →
    s.busTarget addr = some k →
    k ≠ l.target →
    ∃ t, exec (.registerWrite m addr 4 data) s = .next t ∧
      t.get Reg.MGT.STAT_LOCKERR = 1 ∧
      Assoc.find t.mgt.readBack m = some ⟨4, 0⟩ ∧
      Raised 37 t ∧
      t.mgt.locks = s.mgt.locks ∧
      RegsKept [.mgt, .bmx, .flt] s t) ∧
  (∀ (s : State) (m addr : Nat) (data : Word) (l : BusLock),
    m ≤ 6 →
    s.mgt.locks = [l] →
    l.m ≠ m →
    s.busTarget addr = some l.target →
    ∃ t, exec (.registerWrite m addr 4 data) s = .next t ∧
      t.mgt.stalled = s.mgt.stalled ++ [{ m := m, write := true, lock := false, addr := addr, size := 4, data := data, unl := m == 6 || s.armed m, remap := s.flag Reg.BMX.CTRL_REMAP }] ∧
      Assoc.find t.mgt.unlocks m = none ∧
      t.mgt.locks = [l] ∧
      RegsKept [.bmx] s t) ∧
  (∀ (s : State) (l : BusLock),
    (s.mgt.locks.find? (fun x => decide (x.since + 128 ≤ s.now)) = some l) →
    s.mgt.stalled = [] →
    ∃ t, exec (.bmxForced) s = .next t ∧
      (t.mgt.locks = s.mgt.locks.filter fun x => x.m != l.m) ∧
      t.get Reg.BMX.CNT_FORCED = (s.get Reg.BMX.CNT_FORCED + 1) % 65536 ∧
      Raised 38 t ∧
      RegsKept [.bmx, .flt] s t ∧
      t = { s with regs := t.regs, flt := t.flt, mgt := { s.mgt with locks := t.mgt.locks } }) ∧
  (∀ (s : State),
    (s.mgt.locks.find? (fun x => decide (x.since + 128 ≤ s.now)) = none) →
    ∃ t, exec (.bmxForced) s = .next t ∧
      t = s) ∧
  (∀ (s : State) (m addr : Nat) (data : Word) (l : BusLock),
    s.mgt.locks = [l] →
    l.m = m →
    s.mgt.stalled = [] →
    s.busTarget addr = some l.target →
    ∃ t, exec (.registerWrite m addr 4 data) s = .next t ∧
      t.mgt.locks = []) ∧
  (∀ (s : State) (m : Nat) (data : Word),
    Quiet m s →
    ∃ t, exec (.remapWrite m data) s = .next t ∧
      t.get Reg.BMX.CTRL_REMAP = bits data.toNat 2 2 ∧
      RegsKept [.bmx, .mgt] s t ∧
      (t.place 0 = if bit data.toNat 2 then .sram 0 else .rom 0)) ∧
  (∀ (s : State) (m : Nat) (data : Word),
    Quiet m s →
    ∃ t, exec (.dwbankWrite m data) s = .next t ∧
      t.get Reg.MGT.DWBANK = data.toNat % 64 ∧
      WordsKept [Reg.MGT.DWBANK.addr] s t ∧
      t.windowAddr 5 = data.toNat % 64 * 2 ^ 30 + 5) ∧
  (∀ (s : State) (m k : Nat) (data : Word),
    Quiet m s →
    k < 2 →
    bit data.toNat 0 = true →
    s.get (Reg.MGT.DMA_STAT_BUSY k) = 0 →
    s.get (Reg.MGT.DMA_LEN k) ≠ 0 →
    s.get (Reg.MGT.DMA_LEN k) % 4 = 0 →
    s.get (Reg.MGT.DMA_LEN k) ≤ 16777216 →
    State.dmaSkew (s.dmaSrc k) = false →
    State.dmaSkew (s.dmaDst k) = false →
    ∃ t, exec (.dmaGo m k data) s = .next t ∧
      t.get (Reg.MGT.DMA_STAT_BUSY k) = 1 ∧
      WordsKept [(Reg.MGT.DMA_STAT_BUSY k).addr] s t) ∧
  (∀ (s : State) (m k : Nat) (data : Word),
    Quiet m s →
    k < 2 →
    bit data.toNat 0 = true →
    s.get (Reg.MGT.DMA_STAT_BUSY k) = 0 →
    s.get (Reg.MGT.DMA_LEN k) ≠ 0 →
    s.get (Reg.MGT.DMA_LEN k) % 4 ≠ 0 ∨ 16777216 < s.get (Reg.MGT.DMA_LEN k) ∨ State.dmaSkew (s.dmaSrc k) = true ∨ State.dmaSkew (s.dmaDst k) = true →
    ∃ t, exec (.dmaGo m k data) s = .next t ∧
      t.get (Reg.MGT.DMA_STAT_BUSY k) = 0 ∧
      t.get (Reg.MGT.DMA_STAT_ERR k) = 2 ∧
      t.get (Reg.MGT.DMA_STAT_DONE k) = 1 ∧
      Raised 41 t ∧
      MemoryKept s t) ∧
  (∀ (s : State) (m k : Nat) (data : Word),
    Quiet m s →
    k < 2 →
    bit data.toNat 0 = true →
    s.get (Reg.MGT.DMA_STAT_BUSY k) = 0 →
    s.get (Reg.MGT.DMA_LEN k) = 0 →
    ∃ t, exec (.dmaGo m k data) s = .next t ∧
      t.get (Reg.MGT.DMA_STAT_BUSY k) = 0 ∧
      t.get (Reg.MGT.DMA_STAT_ERR k) = 0 ∧
      t.get (Reg.MGT.DMA_STAT_DONE k) = 1 ∧
      Raised 40 t ∧
      MemoryKept s t) ∧
  (∀ (s : State) (m k : Nat) (data : Word),
    Quiet m s →
    k < 2 →
    s.get (Reg.MGT.DMA_STAT_BUSY k) = 1 ∨ bit data.toNat 0 = false →
    ∃ t, exec (.dmaGo m k data) s = .next t ∧
      WordsKept [] s t ∧
      MemoryKept s t) ∧
  (∀ (s : State) (m k : Nat) (data : Word),
    Quiet m s →
    k < 2 →
    ∃ t, exec (.registerWrite m (Reg.MGT.DMA_SRCLO k).addr 4 data) s = .next t ∧
      t.get (Reg.MGT.DMA_SRCLO k) = data.toNat ∧
      t.dmaSrc k = s.dmaSrc k ∧
      t.dmaDst k = s.dmaDst k) ∧
  (∀ (s : State) (m k : Nat) (data : Word),
    Quiet m s →
    k < 2 →
    ∃ t, exec (.registerWrite m (Reg.MGT.DMA_SRCHI k).addr 4 data) s = .next t ∧
      t.dmaSrc k = s.get (Reg.MGT.DMA_SRCLO k) + data.toNat % 256 * 2 ^ 32 ∧
      t.dmaDst k = s.dmaDst k) ∧
  (∀ (s : State) (k a d x : Nat),
    k < 2 →
    s.get (Reg.MGT.DMA_STAT_BUSY k) = 1 →
    s.mgt.locks = [] →
    s.get Reg.BMX.CTRL_REMAP = 1 →
    s.get (Reg.MGT.DMA_LEN k) % 4 = 0 →
    s.dmaSrc k = a →
    s.dmaDst k = d →
    a + s.get (Reg.MGT.DMA_LEN k) ≤ 0x400000 →
    d + s.get (Reg.MGT.DMA_LEN k) ≤ 0x400000 →
    a % 4 = 0 →
    d % 4 = 0 →
    a + s.get (Reg.MGT.DMA_LEN k) ≤ d ∨ d + s.get (Reg.MGT.DMA_LEN k) ≤ a →
    s.prov.inverted = [] →
    ∃ t, exec (.dmaDone k) s = .next t ∧
      t.get (Reg.MGT.DMA_STAT_BUSY k) = 0 ∧
      t.get (Reg.MGT.DMA_STAT_ERR k) = 0 ∧
      t.get (Reg.MGT.DMA_STAT_DONE k) = 1 ∧
      Raised 40 t ∧
      (x < s.get (Reg.MGT.DMA_LEN k) → Memory.read t.mgt.sram (d + x) = Memory.read s.mgt.sram (a + x)) ∧
      (x < d ∨ d + s.get (Reg.MGT.DMA_LEN k) ≤ x → Memory.read t.mgt.sram x = Memory.read s.mgt.sram x)) ∧
  (∀ (s : State) (k : Nat),
    k < 2 →
    s.get (Reg.MGT.DMA_STAT_BUSY k) = 0 ∨ s.mgt.locks ≠ [] →
    ∃ t, exec (.dmaDone k) s = .next t ∧
      t = s) ∧
  (∀ (s : State) (k : Nat),
    k < 2 →
    s.get (Reg.MGT.DMA_STAT_BUSY k) = 1 →
    s.mgt.locks = [] →
    4 ≤ s.get (Reg.MGT.DMA_LEN k) →
    s.dmaSrc k < 2 ^ 32 →
    s.place (s.dmaSrc k) = .nowhere →
    ∃ t, exec (.dmaDone k) s = .next t ∧
      t.get (Reg.MGT.DMA_STAT_BUSY k) = 0 ∧
      t.get (Reg.MGT.DMA_STAT_ERR k) = 1 ∧
      t.get (Reg.MGT.DMA_STAT_DONE k) = 1 ∧
      Raised 41 t ∧
      MemoryKept s t)

/-- The service port: its frames, and the writes it is refused in PROVISIONED and SERVICE. SP_READ with a good CRC is issued to
the matrix as a read of the address, most significant byte first, and answered there. SP_WRITE likewise as a write of the
four data bytes. SP_STATUS returns the status byte, four data bytes and their CRC, and what it reports is reported once. The
answer to a read of a register is OK with its fields. While a transaction is in flight a further one is lost, and STATUS
will say so. Before step 1 of the start the port answers nothing. A frame of any of the three with a wrong CRC or length is
discarded, and STAT.SPCRC is set. SP_TRANSACTION_DONE: the transaction in flight is done with the response of the matrix;
without one, or before the response, it is nothing. SP_TIMEOUT before the 1 ms is over is nothing. A transaction without a
response for 1 ms is abandoned, and counts as done with TIMEOUT; its code and data are free values. A write by the service
port in PROVISIONED or SERVICE answers WPROT, sets MGT.STAT.SP_WPROT and lands in no block. Rests on parts of R522, R523,
R524, R530, R38, R514. (21_management.md, 22_startup_config.md, 02_register_interface.md) -/
def Obligations.ServicePortFrames : Prop :=
  (∀ (s : State) (a3 a2 a1 a0 : Byte) (frame : List Byte),
    s.spUp = true →
    s.mgt.sp.inflight = none →
    frame = [0x0B, a3, a2, a1, a0, BitVec.ofNat 8 (spCrc [0x0B, a3, a2, a1, a0])] →
    s.mgt.locks = [] →
    ∃ t, exec (.spRead frame) s = .next t ∧
      (∃ x, t.mgt.sp.inflight = some x ∧ x.write = false ∧ x.addr = beNat [a3, a2, a1, a0]) ∧
      t.mgt.sp.answer ≠ none ∧
      t.mgt.sp.done = false) ∧
  (∀ (s : State) (b : List Byte) (frame : List Byte),
    s.spUp = true →
    s.mgt.sp.inflight = none →
    b.length = 8 →
    frame = 0x02 :: b ++ [BitVec.ofNat 8 (spCrc (0x02 :: b))] →
    s.mgt.locks = [] →
    ∃ t, exec (.spWrite frame) s = .next t ∧
      (∃ x, t.mgt.sp.inflight = some x ∧ x.write = true ∧ x.addr = beNat (b.take 4) ∧ x.data.toNat = beNat (b.drop 4)) ∧
      t.mgt.sp.answer ≠ none) ∧
  (∀ (s : State),
    s.spUp = true →
    ∃ t, exec (.spStatus [0x05, 0x1B]) s = .next t ∧
      t.mgt.sp.status.length = 6 ∧
      t.mgt.sp.lost = false ∧
      t.mgt.sp.crcErr = false ∧
      (s.mgt.sp.done = true → t.mgt.sp.unreported = false) ∧
      (t.mgt.sp.status.headD 0).toNat = b2n s.mgt.sp.done * 128 + b2n s.mgt.sp.lost * 64 + b2n s.mgt.sp.crcErr * 32 + b2n s.mgt.sp.timeout * 16 + s.mgt.sp.resp.code % 16 ∧
      WordsKept [] s t) ∧
  (∀ (s : State) (a3 a2 a1 a0 : Byte) (frame : List Byte) (b : Blk) (r : RegDef) (i j : Nat) (f : Fld),
    s.spUp = true →
    s.mgt.sp.inflight = none →
    frame = [0x0B, a3, a2, a1, a0, BitVec.ofNat 8 (spCrc [0x0B, a3, a2, a1, a0])] →
    s.mgt.locks = [] →
    RegMap.find (beNat [a3, a2, a1, a0]) = some (b, r, i, j) →
    s.place (beNat [a3, a2, a1, a0]) = .block b →
    beNat [a3, a2, a1, a0] % 4 = 0 →
    b.kind ≠ .cnv →
    b.kind ≠ .mica →
    beNat [a3, a2, a1, a0] ≠ Reg.MGT.UNLOCK_KEY0.addr →
    f ∈ r.flds →
    f.acc ≠ .wo →
    (f.lo = 0 → s.rxClockOff b = true → r.off ≠ 4) →
    ∃ t, exec (.spRead frame) s = .next t ∧
      (∃ w : Word, t.mgt.sp.answer = some ⟨0, w⟩ ∧ bits w.toNat f.hi f.lo = bits (s.rd (beNat [a3, a2, a1, a0])).toNat f.hi f.lo)) ∧
  (∀ (s : State) (frame : List Byte), s.spUp = true → spFrame frame ≠ .bad → spFrame frame ≠ .status → s.mgt.sp.inflight ≠ none →
    ∀ c ∈ [Instr.spRead frame, .spWrite frame], ∃ t, exec c s = .next t ∧ t.mgt.sp.lost = true ∧ t.mgt.sp.inflight = s.mgt.sp.inflight ∧ t.mgt.sp.answer = s.mgt.sp.answer ∧ RegsKept [.mgt] s t) ∧
  (∀ (s : State) (frame : List Byte), s.spUp = false → ∀ c ∈ [Instr.spRead frame, .spWrite frame, .spStatus frame], exec c s = .next s) ∧
  (∀ (s : State) (frame : List Byte),
    s.spUp = true →
    spFrame frame = .bad →
    ∃ t, exec (.spWrite frame) s = .next t ∧
      t.get Reg.MGT.STAT_SPCRC = 1 ∧
      t.mgt.sp.crcErr = true ∧
      t.mgt.sp.inflight = s.mgt.sp.inflight ∧
      Raised 36 t ∧
      RegsKept [.mgt, .flt] s t ∧
      exec (.spRead frame) s = .next t ∧
      exec (.spStatus frame) s = .next t) ∧
  (∀ (s : State) (x : SpTrans) (y : BusResp),
    s.mgt.sp.inflight = some x →
    s.mgt.sp.answer = some y →
    ∃ t, exec (.spTransactionDone) s = .next t ∧
      t.mgt.sp.inflight = none ∧
      t.mgt.sp.done = true ∧
      t.mgt.sp.timeout = false ∧
      t.mgt.sp.resp = y ∧
      t.mgt.sp.unreported = true ∧
      t = { s with mgt := { s.mgt with sp := t.mgt.sp } }) ∧
  (∀ (s : State),
    s.mgt.sp.inflight = none ∨ s.mgt.sp.answer = none →
    ∃ t, exec (.spTransactionDone) s = .next t ∧
      t = s) ∧
  (∀ (s : State),
    (s.mgt.sp.inflight.all (fun x => decide (s.now < x.since + 1000000)) = true) →
    ∃ t, exec (.spTimeout) s = .next t ∧
      t = s) ∧
  (∀ (s : State) (x : SpTrans),
    s.mgt.sp.inflight = some x →
    x.since + 1000000 ≤ s.now →
    ∃ t, exec (.spTimeout) s = .next t ∧
      t.mgt.sp.inflight = none ∧
      t.mgt.sp.done = true ∧
      t.mgt.sp.timeout = true ∧
      t.mgt.sp.unreported = true ∧
      RegsKept [.bmx] s t ∧
      MemoryKept s t) ∧
  (∀ (s : State) (addr : Nat) (data : Word) (b : Blk) (r : RegDef) (i j : Nat),
    s.mgt.locks = [] →
    s.lcState = 1 ∨ s.lcState = 2 →
    s.place addr = .block b →
    RegMap.find addr = some (b, r, i, j) →
    addr % 4 = 0 →
    ∃ t, exec (.registerWrite 7 addr 4 data) s = .next t ∧
      t.get Reg.MGT.STAT_SP_WPROT = 1 ∧
      t.mgt.sp.answer = some ⟨3, 0⟩ ∧
      RegsKept [.mgt, .flt] s t ∧
      MemoryKept s t)

/-- The fault collector: records enter in order; slots, history and pins. EVENT_RAISE of a source that has no pending record
lists one, with the data word and the time, and counts the raise. A raise while the record is pending merges into it: the
merge count saturates at 65535, and the word and time of the first raise are kept. RECORD_ENTRY, with no inversion of check
bits armed, enters the pending record of the highest severity, and of those the lowest source number, and takes the next
sequence number. It goes into the ring entry after the newest, and entry 0 takes it only when empty. With reaction INTERRUPT
and no slot of its severity or above busy, it occupies its slot and raises the interrupt. While a slot of equal or higher
severity is busy, it is suppressed: it is counted, and no reaction runs. ACK frees a slot occupied under INTERRUPT, HANDOVER
or SAFE, and does not clear the safe state. ACK to a free slot, or to one occupied under STOP, is ignored. SLOT_HELD is
raised once per occupation, after HOLDLIM seconds. SAFECLR ends an imposed safe state, and frees no slot. SAFECLR is ignored
while the FAIL slot is busy under STOP. HISTCLR empties all 16 entries. PINTEST.FORCE acts only in MFG and MAINT, and reads
0 elsewhere; 2 drives the pins to (0, 1). PIN_READBACK shows the sampled levels, and the third mismatch in a row raises the
event. REACTION_ACK_TIMEOUT sets STAT.LOSS, and the remaining steps run: SAFE imposes the safe state, STOP stops the alive
signal. Rests on parts of R489, R492, R496, R490, R493, R494, R495, R499, R503, R504. (20_faults.md) -/
def Obligations.RecordsAreEnteredInOrder : Prop :=
  (∀ (s : State) (src : Nat) (data : Word),
    (sevRun defaultSevRuns src).isSome = true →
    (∀ p ∈ s.flt.pend, p.src ≠ src) →
    src < 1536 →
    ∃ t, exec (.eventRaise src data) s = .next t ∧
      t.flt.pend = s.flt.pend ++ [⟨src, data, s.timeNs, 0⟩] ∧
      t.get (Reg.FLT.CNT_RAISED src) = (s.get (Reg.FLT.CNT_RAISED src) + 1) % 65536 ∧
      WordsKept [(Reg.FLT.CNT_RAISED src).addr] s t ∧
      t = { s with regs := t.regs, flt := t.flt }) ∧
  (∀ (s : State) (src : Nat) (data : Word) (p : PendRec) (rest : List PendRec),
    (sevRun defaultSevRuns src).isSome = true →
    s.flt.pend = p :: rest →
    p.src = src →
    src < 1536 →
    ∃ t, exec (.eventRaise src data) s = .next t ∧
      t.flt.pend = { p with merged := min (p.merged + 1) 65535 } :: rest ∧
      t.get (Reg.FLT.CNT_MERGES src) = (s.get (Reg.FLT.CNT_MERGES src) + 1) % 65536) ∧
  (∀ (s : State) (e : EntryErrors) (p : PendRec),
    s.flt.reaction = none →
    s.get Reg.PROV.CHKINV_ARM = 0 →
    p ∈ s.flt.pend →
    (∀ q ∈ s.flt.pend, s.get (Reg.FLT.SRC_SEV q.src) < s.get (Reg.FLT.SRC_SEV p.src) ∨ (s.get (Reg.FLT.SRC_SEV q.src) = s.get (Reg.FLT.SRC_SEV p.src) ∧ p.src ≤ q.src)) →
    ∃ t, exec (.recordEntry e) s = .next t ∧
      (t.flt.pend = s.flt.pend.filter fun q => q.src != p.src) ∧
      t.get Reg.FLT.SEQ = (s.get Reg.FLT.SEQ + 1) % 2 ^ 32) ∧
  (∀ (s : State) (e : EntryErrors) (p : PendRec) (k : Nat),
    s.flt.reaction = none →
    s.flt.pend = [p] →
    p.src < 1536 →
    e = ⟨false, false, false, false, false⟩ →
    k = s.get Reg.FLT.HISTSTAT_NEWEST % 15 + 1 →
    ∃ t, exec (.recordEntry e) s = .next t ∧
      t.get Reg.FLT.HISTSTAT_NEWEST = k ∧
      t.get (Reg.FLT.HIST_VALID k) = 1 ∧
      t.get (Reg.FLT.HIST_SRC k) = p.src ∧
      t.get (Reg.FLT.HIST_SEQ k) = s.get Reg.FLT.SEQ ∧
      t.get (Reg.FLT.HIST_DATA k) = p.data.toNat ∧
      t.get (Reg.FLT.HIST_VALID 0) = 1 ∧
      (s.get (Reg.FLT.HIST_VALID 0) = 1 → t.rd (Reg.FLT.HIST_SRC 0).addr = s.rd (Reg.FLT.HIST_SRC 0).addr)) ∧
  (∀ (s : State) (e : EntryErrors) (p : PendRec) (k : Nat),
    s.flt.reaction = none →
    s.flt.pend = [p] →
    p.src < 1536 →
    e = ⟨false, false, false, false, false⟩ →
    k = s.get (Reg.FLT.SRC_SEV p.src) →
    s.get (Reg.FLT.SRC_REACT p.src) = 2 →
    s.get Reg.FLT.CTRL_EN = 1 →
    s.slotBusyFrom k = false →
    ∃ t, exec (.recordEntry e) s = .next t ∧
      t.get (Reg.FLT.SLOT_BUSY k) = 1 ∧
      t.get (Reg.FLT.SLOT_SRC k) = p.src ∧
      t.get (Reg.FLT.SLOT_SEQ k) = s.get Reg.FLT.SEQ ∧
      t.get (Reg.FLT.SLOT_DATA k) = p.data.toNat ∧
      k ∈ t.flt.irq ∧
      t.get Reg.FLT.SUPCNT = s.get Reg.FLT.SUPCNT ∧
      t.get Reg.FLT.SAFESTAT = s.get Reg.FLT.SAFESTAT) ∧
  (∀ (s : State) (e : EntryErrors) (p : PendRec) (k : Nat),
    s.flt.reaction = none →
    s.flt.pend = [p] →
    p.src < 1536 →
    e = ⟨false, false, false, false, false⟩ →
    s.get (Reg.FLT.SRC_SEV p.src) ≤ k →
    k < 4 →
    s.get (Reg.FLT.SLOT_BUSY k) = 1 →
    2 ≤ s.get (Reg.FLT.SRC_REACT p.src) →
    s.get Reg.FLT.CTRL_EN = 1 →
    ∃ t, exec (.recordEntry e) s = .next t ∧
      t.get Reg.FLT.SUPCNT = (s.get Reg.FLT.SUPCNT + 1) % 2 ^ 32 ∧
      t.rd (Reg.FLT.SLOT_BUSY k).addr = s.rd (Reg.FLT.SLOT_BUSY k).addr ∧
      t.flt.irq = s.flt.irq ∧
      t.flt.reaction = none ∧
      t.get Reg.FLT.SAFESTAT = s.get Reg.FLT.SAFESTAT) ∧
  (∀ (s : State) (m k : Nat) (data : Word),
    Quiet m s →
    k < 4 →
    bit data.toNat 0 = true →
    s.get (Reg.FLT.SLOT_BUSY k) = 1 →
    s.get (Reg.FLT.SLOT_REACT k) ≠ 5 →
    ∃ t, exec (.ack m k data) s = .next t ∧
      t.get (Reg.FLT.SLOT_BUSY k) = 0 ∧
      k ∉ t.flt.irq ∧
      t.get Reg.FLT.SAFESTAT = s.get Reg.FLT.SAFESTAT ∧
      WordsKept [(Reg.FLT.SLOT_BUSY k).addr] s t) ∧
  (∀ (s : State) (m k : Nat) (data : Word),
    Quiet m s →
    k < 4 →
    s.get (Reg.FLT.SLOT_BUSY k) = 0 ∨ s.get (Reg.FLT.SLOT_REACT k) = 5 →
    ∃ t, exec (.ack m k data) s = .next t ∧
      WordsKept [] s t ∧
      t.flt = s.flt) ∧
  (∀ (s : State) (k since : Nat),
    k < 4 →
    s.get Reg.FLT.CFG_HOLDLIM ≠ 0 →
    Assoc.find s.flt.held k = some (since, false) →
    since + s.get Reg.FLT.CFG_HOLDLIM * 1000000000 ≤ s.now →
    ∃ t, exec (.slotHeld k) s = .next t ∧
      Raised 2 t ∧
      Assoc.find t.flt.held k = some (since, true) ∧
      RegsKept [.flt] s t ∧
      MemoryKept s t) ∧
  (∀ (s : State) (m : Nat) (data : Word),
    Quiet m s →
    bit data.toNat 0 = true →
    s.get (Reg.FLT.SLOT_BUSY 3) = 0 →
    s.get Reg.FLT.SAFESTAT = 1 →
    ∃ t, exec (.safeclr m data) s = .next t ∧
      t.get Reg.FLT.SAFESTAT = 0 ∧
      WordsKept [Reg.FLT.SAFESTAT.addr] s t) ∧
  (∀ (s : State) (m : Nat) (data : Word),
    Quiet m s →
    s.get (Reg.FLT.SLOT_BUSY 3) = 1 →
    s.get (Reg.FLT.SLOT_REACT 3) = 5 →
    ∃ t, exec (.safeclr m data) s = .next t ∧
      t.get Reg.FLT.SAFESTAT = s.get Reg.FLT.SAFESTAT ∧
      t.fab = s.fab ∧
      WordsKept [] s t) ∧
  (∀ (s : State) (m k : Nat) (data : Word),
    Quiet m s →
    bit data.toNat 0 = true →
    k < 16 →
    ∃ t, exec (.histclr m data) s = .next t ∧
      t.get (Reg.FLT.HIST_VALID k) = 0 ∧
      t.get Reg.FLT.HISTSTAT_COUNT = 0 ∧
      t.get Reg.FLT.SEQ = s.get Reg.FLT.SEQ ∧
      t.mgt.sram = s.mgt.sram) ∧
  (∀ (s : State) (m : Nat) (data : Word),
    Quiet m s →
    s.armed m = true →
    ∃ t, exec (.pintest m data) s = .next t ∧
      (t.get Reg.FLT.PINTEST = if s.get Reg.KEY.STAT_LCSTATE = 0 ∨ s.get Reg.KEY.STAT_LCSTATE = 3 then data.toNat % 4 else 0) ∧
      (t.get Reg.FLT.PINTEST = 2 → t.pinLevels = (false, true)) ∧
      WordsKept [Reg.FLT.PINTEST.addr] s t) ∧
  (∀ (s : State) (a b : Bool),
    s.nearEdge = false →
    s.flt.pinAt + 100000 ≤ s.now →
    a ≠ s.pinLevels.1 →
    s.flt.misA = 2 →
    ∃ t, exec (.pinReadback a b) s = .next t ∧
      t.get Reg.FLT.STAT_ARB = b2n a ∧
      t.get Reg.FLT.STAT_BRB = b2n b ∧
      Raised 1 t ∧
      RegsKept [.flt] s t) ∧
  (∀ (s : State) (x : Reaction),
    s.flt.reaction = some x →
    x.noAck = [] →
    x.deadline ≤ s.now →
    ∃ t, exec (.reactionAckTimeout) s = .next t ∧
      t.get Reg.FLT.STAT_LOSS = 1 ∧
      t.flt.reaction = none ∧
      (5 ∈ x.steps ∧ s.get Reg.FLT.STAT_PHASE = 1 → t.get Reg.FLT.STAT_PHASE = 3) ∧
      (4 ∈ x.steps → t.get Reg.FLT.SAFESTAT = 1))

/-- Power-on reset and warm restarts. POWER_ON_RESET resets the chip over what the card wrote to the flash, and boots it; an
image rejected while it is applied is followed by a restart with cause 4. WARM_RESTART with a cause of 1 to 4 likewise over
what it keeps. Another number is no cause. Before the boot a power-on reset leaves every register word at its reset value,
but the table epoch and the words that show pins, the memories empty, no unlock and no waiting write. A warm restart keeps
the DRAM, STAT.LOSS, fuses, flash and the core voltage, and sets the cause. A header that boots, with no image in either
slot, ends in step 10. POWER_ON_RESET returns the chip to its reset values: no unlock, no waiting write, empty memories.
With no boot header on the flash the boot ROM boots nothing and the pins show the static fault. The test port holds the
instruction it was given as far as the life-cycle state allows it: in PROVISIONED and SERVICE no boundary scan that drives
pins, and no core debug. WARM_RESTART keeps the DRAM, the cause, STAT.LOSS, the frozen history entry, the fuses and the core
voltage, and returns the rest to reset. LOCKSTEP is a warm restart with cause 2. With no header to boot, the record LOCKSTEP
is entered first, with sequence number 0. WATCHDOG_RESTART, RSTDLY ms after an expiry, is one with cause 1. Its record is
entered first. With RSTDLY = 0 the chip stays stopped, and before its time nothing happens. TRIAL_FALLBACK, when a trial
expires unconfirmed, raises its event, invalidates the header and restarts with cause 3; before that nothing happens. The
header reads as invalid then, with RSTCAUSE 3. START_PLL_WAIT_EXPIRE: each PLL not locked raises its quad's cause, the lanes
are enabled, and the start goes on past step 4; otherwise it is nothing. Where nothing follows, STEP then reads 5.
LOCKWAIT_EXPIRE raises its event, and the start goes on past step 8; otherwise it is nothing. Where nothing follows, STEP
then reads 9. Rests on parts of R60, R487, R498, R508, R533, R534, R567, R570, R614. (02_register_interface.md,
20_faults.md, 21_management.md, 22_startup_config.md, 23_update_keys.md, 25_electrical.md) -/
def Obligations.StartsAndRestarts : Prop :=
  (∀ (s : State) (card : CardInput) (env : StartEnv),
    ∃ t, exec (.powerOnReset card env) s = .next t ∧
      (((({ s with flash := card.flash.getD s.flash } : State).updKey fun k => { k with tap := s.tapSelect true card.tap }).resetCold.boot env).2 = false → t = ((({ s with flash := card.flash.getD s.flash } : State).updKey fun k => { k with tap := s.tapSelect true card.tap }).resetCold.boot env).1) ∧
      ((({ s with flash := card.flash.getD s.flash } : State).updKey fun k => { k with tap := s.tapSelect true card.tap }).resetCold.boot env).2 = true → t = State.startChip 3 { env with selftest := none, repairErr := none } (((({ s with flash := card.flash.getD s.flash } : State).updKey fun k => { k with tap := s.tapSelect true card.tap }).resetCold.boot env).1.enterPending.resetWarm 4)) ∧
  (∀ (s : State) (cause : Nat) (env : StartEnv),
    1 ≤ cause →
    cause ≤ 4 →
    ∃ t, exec (.warmRestart cause env) s = .next t ∧
      ((((if 3 ≤ cause then s.enterPending else s).resetWarm cause).boot env).2 = false → t = (((if 3 ≤ cause then s.enterPending else s).resetWarm cause).boot env).1) ∧
      (((if 3 ≤ cause then s.enterPending else s).resetWarm cause).boot env).2 = true → t = State.startChip 3 { env with selftest := none, repairErr := none } ((((if 3 ≤ cause then s.enterPending else s).resetWarm cause).boot env).1.enterPending.resetWarm 4)) ∧
  (∀ (s : State) (cause : Nat) (env : StartEnv),
    cause = 0 ∨ 4 < cause →
    ∃ t, exec (.warmRestart cause env) s = .next t ∧
      t = s) ∧
  (∀ (s : State) (a : Nat), a ≠ Reg.CHN.EPOCH.addr → a ≠ Reg.TWIN.SUPSTAT_SUPA_OK.addr → a ≠ Reg.KEY.STAT_PRES.addr →
    s.resetCold.rd a = resetWord a ∧ s.resetCold.mgt.sram = [] ∧ s.resetCold.dram.mem = [] ∧ s.resetCold.mgt.unlocks = [] ∧ s.resetCold.landing = [] ∧ s.resetCold.now = 0 ∧ s.resetCold.fuses = s.fuses) ∧
  (∀ (s : State) (cause : Nat), (s.resetWarm cause).get Reg.MGT.RSTCAUSE = cause % 8 ∧ (s.resetWarm cause).dram.mem = s.dram.mem ∧ (s.resetWarm cause).now = s.now ∧
    (s.resetWarm cause).get Reg.FLT.STAT_LOSS = s.get Reg.FLT.STAT_LOSS ∧ (s.resetWarm cause).fuses = s.fuses ∧ (s.resetWarm cause).flash = s.flash ∧ (s.resetWarm cause).avs.target = s.avs.target ∧
    (s.resetWarm cause).mgt.sram = [] ∧ (s.resetWarm cause).mgt.unlocks = [] ∧ (s.resetWarm cause).landing = []) ∧
  (∀ (s : State) (fl : Flash) (tap : TapInstr) (env : StartEnv) (h : BootHdr) (b : Bundle),
    fl.octal = true →
    fl.hdrA = .good h →
    fl.hdrB = .blank →
    h.valid = 0xFFFFFFFF →
    h.trial = false →
    h.parts = [] →
    fl.journal = [] →
    fl.cfgA.bytes = [] →
    fl.cfgB.bytes = [] →
    fl.fwA.head = .good b →
    h.fwSlot = 0 →
    b.sigOk = true →
    fl.minsv = (0, 0) →
    s.fuses = State.reset.fuses →
    env = ⟨none, none, none⟩ →
    ∃ t, exec (.powerOnReset ⟨some fl, tap⟩ env) s = .next t ∧
      t.upd.dead = false ∧
      t.upd.hdr = 0 ∧
      t.get Reg.CFG.STAT_STEP = 10 ∧
      t.get Reg.BMX.CTRL_REMAP = 1) ∧
  (∀ (s : State) (fl : Flash) (tap : TapInstr) (env : StartEnv),
    fl.hdrA = .blank →
    fl.hdrB = .blank →
    s.fuses.idgen = true →
    ∃ t, exec (.powerOnReset ⟨some fl, tap⟩ env) s = .next t ∧
      t.upd.dead = true ∧
      t.get Reg.FLT.STAT_PHASE = 2 ∧
      t.get Reg.MGT.RSTCAUSE = 0 ∧
      t.flash = fl ∧
      t.fuses = s.fuses ∧
      t.mgt.sram = [] ∧
      t.dram.mem = [] ∧
      t.mgt.unlocks = [] ∧
      t.landing = [] ∧
      t.now = 0 ∧
      (t.lcState = 1 ∨ t.lcState = 2 → t.key.tap ≠ .extest ∧ t.key.tap ≠ .intest ∧ t.key.tap ≠ .debug) ∧
      (t.lcState = 0 → tap = .debug ∨ t.key.tap = tap) ∧
      RegsKept [.flt, .key, .chn, .twin, .upd, .cfg] State.reset t) ∧
  (∀ (s : State) (cause : Nat) (env : StartEnv) (k : Nat),
    cause = 1 ∨ cause = 2 →
    k < 16 →
    s.flash.hdrA = .blank →
    s.flash.hdrB = .blank →
    s.fuses.idgen = true →
    ∃ t, exec (.warmRestart cause env) s = .next t ∧
      t.get Reg.MGT.RSTCAUSE = cause ∧
      t.upd.dead = true ∧
      t.dram.mem = s.dram.mem ∧
      t.now = s.now ∧
      t.get Reg.FLT.STAT_LOSS = s.get Reg.FLT.STAT_LOSS ∧
      t.mgt.wdLast = s.now ∧
      t.fuses = s.fuses ∧
      t.mgt.unlocks = [] ∧
      t.avs.target = s.avs.target ∧
      (t.get (Reg.FLT.HIST_SEQ 0) = s.get (Reg.FLT.HIST_SEQ 0) ∨ s.get (Reg.FLT.HIST_VALID 0) = 0)) ∧
  (∀ (s : State) (env : StartEnv),
    ∃ t, exec (.lockstep env) s = .next t ∧
      exec (.warmRestart 2 env) s = .next t) ∧
  (∀ (s : State) (env : StartEnv),
    s.flash.hdrA = .blank →
    s.flash.hdrB = .blank →
    s.fuses.idgen = true →
    ∃ t, exec (.lockstep env) s = .next t ∧
      t.get Reg.MGT.RSTCAUSE = 2 ∧
      t.upd.dead = true ∧
      t.dram.mem = s.dram.mem ∧
      t.get (Reg.FLT.HIST_SRC (t.get Reg.FLT.HISTSTAT_NEWEST)) = 9 ∧
      t.get (Reg.FLT.HIST_SEQ (t.get Reg.FLT.HISTSTAT_NEWEST)) = 0) ∧
  (∀ (s : State) (env : StartEnv) (e : Nat),
    s.mgt.wdExpired = some e →
    e + s.get Reg.MGT.WDCFG_RSTDLY * 1000000 ≤ s.now →
    s.get Reg.MGT.WDCFG_RSTDLY ≠ 0 →
    ∃ t, exec (.watchdogRestart env) s = .next t ∧
      exec (.warmRestart 1 env) s = .next t) ∧
  (∀ (s : State) (env : StartEnv) (e : Nat),
    s.mgt.wdExpired = some e →
    e + s.get Reg.MGT.WDCFG_RSTDLY * 1000000 ≤ s.now →
    s.get Reg.MGT.WDCFG_RSTDLY ≠ 0 →
    s.flash.hdrA = .blank →
    s.flash.hdrB = .blank →
    s.fuses.idgen = true →
    ∃ t, exec (.watchdogRestart env) s = .next t ∧
      t.get Reg.MGT.RSTCAUSE = 1 ∧
      t.mgt.wdExpired = none ∧
      t.upd.dead = true ∧
      t.dram.mem = s.dram.mem ∧
      t.get (Reg.FLT.HIST_SRC (t.get Reg.FLT.HISTSTAT_NEWEST)) = 10) ∧
  (∀ (s : State) (env : StartEnv),
    (s.get Reg.MGT.WDCFG_RSTDLY = 0 ∨ s.mgt.wdExpired.all (fun e => decide (s.now < e + s.get Reg.MGT.WDCFG_RSTDLY * 1000000)) = true) →
    ∃ t, exec (.watchdogRestart env) s = .next t ∧
      t = s) ∧
  (∀ (s : State) (env : StartEnv) (h : BootHdr) (e : Nat),
    s.hdrInForce = some h →
    h.trial = true →
    h.confirm = 0xFFFFFFFF →
    s.upd.trialEnd = some e →
    e ≤ s.now →
    ∃ t, exec (.trialFallback env) s = .next t ∧
      exec (.warmRestart 3 env) ((s.killHdr s.upd.hdr).raise 114 [s.upd.hdr]) = .next t) ∧
  (∀ (s : State) (env : StartEnv),
    (s.hdrInForce = none ∨ s.upd.trialEnd.all (fun e => decide (s.now < e)) = true) →
    ∃ t, exec (.trialFallback env) s = .next t ∧
      t = s) ∧
  (∀ (s : State) (env : StartEnv) (h : BootHdr) (e : Nat),
    s.upd.hdr = 0 →
    s.flash.hdrA = .good h →
    h.trial = true →
    h.confirm = 0xFFFFFFFF →
    s.upd.trialEnd = some e →
    e ≤ s.now →
    s.flash.hdrB = .blank →
    s.fuses.idgen = true →
    ∃ t, exec (.trialFallback env) s = .next t ∧
      t.flash.hdrA = .good { h with valid := 0 } ∧
      t.get Reg.MGT.RSTCAUSE = 3 ∧
      t.upd.dead = true) ∧
  (∀ (s u v : State) (k : Nat) (rest : List (Nat × LoadOp)),
    s.load.on = true →
    s.load.wait = .plls →
    s.load.since + 10000000 ≤ s.now →
    s.load.todo = (k, .step 4) :: rest →
    (u = ((s.each s.pllsOpen fun p x => x.quadCause p.1 (1 + p.2)).enableLanes.updLoad fun l => { l with wait := .run, todo := rest })) →
    State.runOps rest u = (v, false) →
    ∃ t, exec (.startPllWaitExpire) s = .next t ∧
      t = v) ∧
  (∀ (s : State),
    s.load.on = false ∨ s.load.wait ≠ .plls ∨ s.now < s.load.since + 10000000 →
    ∃ t, exec (.startPllWaitExpire) s = .next t ∧
      t = s) ∧
  (∀ (s : State) (k : Nat),
    s.load.on = true →
    s.load.wait = .plls →
    s.load.since + 10000000 ≤ s.now →
    s.load.todo = [(k, .step 4)] →
    ∃ t, exec (.startPllWaitExpire) s = .next t ∧
      t.load.on = false ∧
      t.load.todo = [] ∧
      t.get Reg.CFG.STAT_STEP = 5) ∧
  (∀ (s u v : State) (k : Nat) (rest : List (Nat × LoadOp)),
    s.load.on = true →
    s.load.wait = .lock →
    s.load.since + s.get Reg.CFG.LOCKWAIT * 1000000 ≤ s.now →
    s.load.todo = (k, .step 8) :: rest →
    (u = (((s.raise 103 []).endStep 8).updLoad fun l => { l with wait := .run, todo := rest })) →
    State.runOps rest u = (v, false) →
    ∃ t, exec (.lockwaitExpire) s = .next t ∧
      t = v) ∧
  (∀ (s : State),
    s.load.on = false ∨ s.load.wait ≠ .lock ∨ s.now < s.load.since + s.get Reg.CFG.LOCKWAIT * 1000000 →
    ∃ t, exec (.lockwaitExpire) s = .next t ∧
      t = s) ∧
  (∀ (s : State) (k : Nat),
    s.load.on = true →
    s.load.wait = .lock →
    s.load.since + s.get Reg.CFG.LOCKWAIT * 1000000 ≤ s.now →
    s.load.todo = [(k, .step 8)] →
    ∃ t, exec (.lockwaitExpire) s = .next t ∧
      t.load.on = false ∧
      t.get Reg.CFG.STAT_STEP = 9 ∧
      t.get (Reg.CFG.STEPTIME 8) = s.now / 1000000 % 2 ^ 32 ∧
      Raised 103 t ∧
      RegsKept [.cfg, .flt] s t)

/-- The life cycle, the key block, presence and the seal. LC_CHANGE inside a presence window makes the reversible changes of the
table, and blows no fuse. A change to RETIRED blows its fuse and erases the owner keys. From MFG to PROVISIONED, with an
owner key and a certificate, it blows the other fuse. A change that the table does not allow is refused. Outside a presence
window it is refused and changes nothing. KEYMSG that passes every check of R562 appends an owner-state record with the
counter of the message. A message whose counter is not above the stored one is refused, and nothing is stored. Any failing
check refuses the message with its code, and stores nothing; so do a window that is not open, and a full key blob. ATTEST
without identity is refused. With one it needs no window: the report carries its mark, the nonce and the device identity.
PRESENCE after at least 20 ms of debounced release is an edge: the window opens for 60 s. After less it is shown, and is no
edge. A pin already shown as asserted stays so. PRESENCE_RELEASE shows the pin released, from the first time on.
PRESENCE_WINDOW_EXPIRE closes the window, once its 60 s are over. Before, it is nothing. SEAL_OPEN, when the owner policy
has the loop on, is a presence edge. With the loop off, or open already, it is nothing. SEAL_CLOSED shows the loop closed.
With the loop off it is nothing. PRESENCE_RECOVERY_HOLD, the pin debounced as asserted for 5 s, in PROVISIONED or SERVICE,
while no image can be used, changes to MAINT; otherwise it is nothing. Rests on parts of R554, R555, R557, R559, R562, R563,
R552, R553, R558. (23_update_keys.md) -/
def Obligations.LifeCycleAndKeys : Prop :=
  (∀ (s : State) (m k : Nat),
    Quiet m s →
    s.windowOpen = true →
    s.get Reg.KEY.STAT_LCSTATE = 1 ∧ k = 2 ∨ s.get Reg.KEY.STAT_LCSTATE = 2 ∧ k = 3 ∨ s.get Reg.KEY.STAT_LCSTATE = 3 ∧ k = 2 →
    ∃ t, exec (.lcChange m k) s = .next t ∧
      t.get Reg.KEY.STAT_LCSTATE = k ∧
      t.get Reg.KEY.RES_CODE = 0 ∧
      t.get Reg.KEY.RES_DONE = 1 ∧
      Raised 118 t ∧
      t.fuses = s.fuses ∧
      t.flash.blob = s.flash.blob) ∧
  (∀ (s : State) (m k : Nat),
    Quiet m s →
    s.windowOpen = true →
    s.get Reg.KEY.STAT_LCSTATE = 3 →
    k = 4 →
    ∃ t, exec (.lcChange m k) s = .next t ∧
      t.get Reg.KEY.STAT_LCSTATE = 4 ∧
      t.get Reg.KEY.RES_CODE = 0 ∧
      t.fuses.lcf1 = true ∧
      t.flash.blob.owners = [] ∧
      t.get Reg.KEY.STAT_NOID = 1) ∧
  (∀ (s : State) (m k : Nat),
    Quiet m s →
    s.windowOpen = true →
    s.get Reg.KEY.STAT_LCSTATE = 0 →
    k = 1 →
    s.ownerFlags ≠ 0 →
    s.flash.blob.cert ≠ [] →
    ∃ t, exec (.lcChange m k) s = .next t ∧
      t.get Reg.KEY.STAT_LCSTATE = 1 ∧
      t.get Reg.KEY.RES_CODE = 0 ∧
      t.fuses.lcf0 = true ∧
      Raised 118 t) ∧
  (∀ (s : State) (m k : Nat),
    Quiet m s →
    s.windowOpen = true →
    s.lcAllowed k = false →
    ∃ t, exec (.lcChange m k) s = .next t ∧
      t.get Reg.KEY.RES_CODE = 11 ∧
      t.get Reg.KEY.RES_DONE = 1 ∧
      t.get Reg.KEY.STAT_LCSTATE = s.get Reg.KEY.STAT_LCSTATE ∧
      Raised 119 t ∧
      t.fuses = s.fuses ∧
      t.flash = s.flash) ∧
  (∀ (s : State) (m k : Nat),
    Quiet m s →
    s.windowOpen = false →
    ∃ t, exec (.lcChange m k) s = .next t ∧
      t.get Reg.KEY.RES_CODE = 28 ∧
      t.get Reg.KEY.STAT_LCSTATE = s.get Reg.KEY.STAT_LCSTATE ∧
      t.fuses = s.fuses ∧
      t.flash = s.flash) ∧
  (∀ (s : State) (m : Nat) (sg : Option Nat),
    Quiet m s →
    s.windowOpen = true →
    s.blobRoom = true →
    s.keyMsgCode s.keyMsg sg = 0 →
    ∃ t, exec (.keymsg m sg) s = .next t ∧
      t.get Reg.KEY.RES_CODE = 0 ∧
      t.get Reg.KEY.RES_DONE = 1 ∧
      t.flash.blob.owners.length = s.flash.blob.owners.length + 1 ∧
      t.ownerState.ctr = State.msgField s.keyMsg 0x10 4 ∧
      t.get Reg.KEY.KEYCTR = State.msgField s.keyMsg 0x10 4 ∧
      Raised 122 t) ∧
  (∀ (s : State) (m : Nat) (sg : Option Nat),
    Quiet m s →
    s.windowOpen = true →
    s.blobRoom = true →
    State.msgField s.keyMsg 0x10 4 ≤ s.ownerState.ctr →
    sg ≠ none →
    s.firstAdd (State.msgField s.keyMsg 4 1) = false →
    s.ownerKey (State.msgField s.keyMsg 6 1) = sg →
    State.msgField s.keyMsg 0 4 = 0x4B594D53 →
    State.msgField s.keyMsg 8 8 = s.devid →
    State.msgField s.keyMsg 4 1 = 3 →
    ∃ t, exec (.keymsg m sg) s = .next t ∧
      t.get Reg.KEY.RES_CODE = 29 ∧
      t.flash = s.flash ∧
      Raised 123 t) ∧
  (∀ (s : State) (m c : Nat) (sg : Option Nat),
    Quiet m s →
    s.windowOpen = true →
    s.blobRoom = true →
    s.keyMsgCode s.keyMsg sg = c →
    c ≠ 0 →
    ∃ t, exec (.keymsg m sg) s = .next t ∧
      t.get Reg.KEY.RES_CODE = c % 256 ∧
      t.get Reg.KEY.RES_DONE = 1 ∧
      t.flash = s.flash ∧
      Raised 123 t) ∧
  (∀ (s : State) (m : Nat) (sg : Option Nat),
    Quiet m s →
    s.windowOpen = false ∨ s.blobRoom = false →
    ∃ t, exec (.keymsg m sg) s = .next t ∧
      (t.get Reg.KEY.RES_CODE = if s.windowOpen then 5 else 28) ∧
      t.get Reg.KEY.RES_DONE = 1 ∧
      t.flash = s.flash) ∧
  (∀ (s : State) (m : Nat),
    Quiet m s →
    s.get Reg.KEY.STAT_NOID = 1 →
    ∃ t, exec (.attest m) s = .next t ∧
      t.get Reg.KEY.RES_CODE = 30 ∧
      t.get Reg.KEY.RES_DONE = 1 ∧
      t.get (Reg.KEY.MSG 0) = s.get (Reg.KEY.MSG 0)) ∧
  (∀ (s : State) (m : Nat),
    Quiet m s →
    s.get Reg.KEY.STAT_NOID = 0 →
    ∃ t, exec (.attest m) s = .next t ∧
      t.get Reg.KEY.RES_CODE = 0 ∧
      t.get Reg.KEY.RES_DONE = 1 ∧
      t.get (Reg.KEY.MSG 0) = 0x41545354 ∧
      t.get (Reg.KEY.MSG 9) = s.get Reg.KEY.DEVIDLO ∧
      t.get (Reg.KEY.MSG 1) = s.get (Reg.KEY.MSG 0) ∧
      t.fuses = s.fuses ∧
      t.flash = s.flash) ∧
  (∀ (s : State) (u : Nat),
    s.get Reg.KEY.STAT_PRES = 0 →
    s.key.released = some u →
    u + 20000000 ≤ s.now →
    ∃ t, exec (.presence) s = .next t ∧
      t.get Reg.KEY.STAT_PRES = 1 ∧
      t.get Reg.KEY.STAT_WINDOW = 1 ∧
      t.get Reg.KEY.WINLEFT = 60 ∧
      t.key.window = some (s.now + 60000000000) ∧
      t.key.pressed = some s.now ∧
      Raised 120 t ∧
      RegsKept [.key, .flt] s t) ∧
  (∀ (s : State),
    s.get Reg.KEY.STAT_PRES = 0 →
    (s.key.released.all (fun u => decide (s.now < u + 20000000)) = true) →
    ∃ t, exec (.presence) s = .next t ∧
      t.get Reg.KEY.STAT_PRES = 1 ∧
      t.key.window = s.key.window ∧
      t.key.pressed = some s.now ∧
      WordsKept [Reg.KEY.STAT_PRES.addr] s t ∧
      t = { s with regs := t.regs, key := t.key }) ∧
  (∀ (s : State),
    s.get Reg.KEY.STAT_PRES = 1 →
    ∃ t, exec (.presence) s = .next t ∧
      t = s) ∧
  (∀ (s : State),
    ∃ t, exec (.presenceRelease) s = .next t ∧
      t.get Reg.KEY.STAT_PRES = 0 ∧
      t.key.released = some (s.key.released.getD s.now) ∧
      t.key.pressed = none ∧
      t.get Reg.KEY.STAT_WINDOW = s.get Reg.KEY.STAT_WINDOW ∧
      WordsKept [Reg.KEY.STAT_PRES.addr] s t ∧
      t = { s with regs := t.regs, key := t.key }) ∧
  (∀ (s : State),
    s.windowOpen = false →
    ∃ t, exec (.presenceWindowExpire) s = .next t ∧
      t.get Reg.KEY.STAT_WINDOW = 0 ∧
      t.get Reg.KEY.WINLEFT = 0 ∧
      t.key.window = none ∧
      WordsKept [Reg.KEY.STAT_WINDOW.addr, Reg.KEY.WINLEFT.addr] s t ∧
      t = { s with regs := t.regs, key := t.key }) ∧
  (∀ (s : State),
    s.windowOpen = true →
    ∃ t, exec (.presenceWindowExpire) s = .next t ∧
      t = s) ∧
  (∀ (s : State),
    s.get Reg.KEY.OWNERS_SEALEN = 1 →
    s.get Reg.KEY.STAT_SEAL = 0 →
    ∃ t, exec (.sealOpen) s = .next t ∧
      t.get Reg.KEY.STAT_SEAL = 1 ∧
      t.get Reg.KEY.STAT_WINDOW = 1 ∧
      Raised 121 t ∧
      Raised 120 t ∧
      RegsKept [.key, .flt] s t) ∧
  (∀ (s : State),
    s.get Reg.KEY.OWNERS_SEALEN = 0 ∨ s.get Reg.KEY.STAT_SEAL = 1 →
    ∃ t, exec (.sealOpen) s = .next t ∧
      t = s) ∧
  (∀ (s : State),
    s.get Reg.KEY.OWNERS_SEALEN = 1 →
    ∃ t, exec (.sealClosed) s = .next t ∧
      t.get Reg.KEY.STAT_SEAL = 0 ∧
      WordsKept [Reg.KEY.STAT_SEAL.addr] s t ∧
      t = { s with regs := t.regs }) ∧
  (∀ (s : State),
    s.get Reg.KEY.OWNERS_SEALEN = 0 →
    ∃ t, exec (.sealClosed) s = .next t ∧
      t = s) ∧
  (∀ (s : State) (u : Nat),
    s.get Reg.CFG.STAT_STEP = 10 ∨ s.get Reg.CFG.STAT_STEP = 11 →
    s.get Reg.KEY.STAT_LCSTATE = 1 ∨ s.get Reg.KEY.STAT_LCSTATE = 2 →
    s.key.pressed = some u →
    u + 5000000000 ≤ s.now →
    ∃ t, exec (.presenceRecoveryHold) s = .next t ∧
      t.get Reg.KEY.STAT_LCSTATE = 3 ∧
      t.get Reg.UPD.STAT_RECOVERY = 1 ∧
      Raised 118 t ∧
      t.fuses = s.fuses) ∧
  (∀ (s : State),
    (s.get Reg.CFG.STAT_STEP ≠ 10 ∧ s.get Reg.CFG.STAT_STEP ≠ 11) ∨ (s.get Reg.KEY.STAT_LCSTATE ≠ 1 ∧ s.get Reg.KEY.STAT_LCSTATE ≠ 2) ∨ s.key.pressed.all (fun u => decide (s.now < u + 5000000000)) = true →
    ∃ t, exec (.presenceRecoveryHold) s = .next t ∧
      t = s)

/-- Staging, verification, commit and confirmation of an update. BEGIN makes the slots not in force the targets of a staging. It
is refused BUSY during a trial, and without a target. WRITE programs the bytes of the staging buffer into the target slot,
firmware or configuration, at the offset. Outside a staging, its slot or the buffer it is refused. VERIFY of a staging that
passes its checks leaves it verified. A staging that fails one, a bundle that does not verify (30) among them, is dropped
with its code. Without a staging it is refused. UPD_COMMIT writes a trial header, one sequence number above the one in
force, to the other sector, and a restart with cause 3 follows. It is refused during a trial, without a verified staging,
outside a presence window (28) and with arguments out of range. CONFIRM confirms the trial in force and raises the minimum
security version to the running one. Without a trial in force it is refused. ABORT discards the staging. Rests on parts of
R568, R569, R570, R571. (23_update_keys.md) -/
def Obligations.UpdateEngine : Prop :=
  (∀ (s : State) (m : Nat),
    Quiet m s →
    s.trialOpen = false →
    s.get (Reg.UPD.ARG 0) % 4 ≠ 0 →
    ∃ t, exec (.begin m) s = .next t ∧
      t.get Reg.UPD.STAT_STATE = 1 ∧
      t.get Reg.UPD.RES_CODE = 0 ∧
      t.get Reg.UPD.RES_DONE = 1 ∧
      t.upd.fw = bit (s.get (Reg.UPD.ARG 0)) 0 ∧
      t.upd.cfg = bit (s.get (Reg.UPD.ARG 0)) 1 ∧
      t.fuses = s.fuses) ∧
  (∀ (s : State) (m : Nat),
    Quiet m s →
    s.trialOpen = true ∨ s.get (Reg.UPD.ARG 0) % 4 = 0 →
    ∃ t, exec (.begin m) s = .next t ∧
      t.get Reg.UPD.STAT_STATE = s.get Reg.UPD.STAT_STATE ∧
      (t.get Reg.UPD.RES_CODE = if s.trialOpen then 1 else 11) ∧
      t.get Reg.UPD.RES_DONE = 1 ∧
      t.upd = s.upd ∧
      t.flash = s.flash) ∧
  (∀ (s : State) (m j : Nat) (w : Bool),
    Quiet m s →
    s.get Reg.UPD.STAT_STATE = 1 →
    (s.upd.fw && (!s.upd.cfg || bit (s.get (Reg.UPD.ARG 0)) 0)) = w →
    s.upd.fwSlot ≤ 1 →
    s.upd.cfgSlot ≤ 1 →
    bit (s.get (Reg.UPD.ARG 3)) 31 = false →
    s.get (Reg.UPD.ARG 2) ≤ 4096 →
    s.get (Reg.UPD.ARG 1) + s.get (Reg.UPD.ARG 2) ≤ s.targetSize w →
    j < s.get (Reg.UPD.ARG 2) →
    ∃ t, exec (.write m) s = .next t ∧
      t.get Reg.UPD.RES_CODE = 0 ∧
      t.get Reg.UPD.RES_DONE = 1 ∧
      (Assoc.findD (if w then (t.fwSlot s.upd.fwSlot).bytes else (t.cfgSlot s.upd.cfgSlot).bytes) (s.get (Reg.UPD.ARG 1) + j) 0xFF = BitVec.ofNat 8 (s.get (Reg.UPD.BUF (j / 4)) / 256 ^ (j % 4))) ∧
      t.upd = s.upd) ∧
  (∀ (s : State) (m : Nat),
    Quiet m s →
    s.get Reg.UPD.STAT_STATE ≠ 1 ∨ s.targetSize (s.upd.fw && (!s.upd.cfg || bit (s.get (Reg.UPD.ARG 0)) 0)) < s.get (Reg.UPD.ARG 1) + s.get (Reg.UPD.ARG 2) ∨ (bit (s.get (Reg.UPD.ARG 3)) 31 = false ∧ 4096 < s.get (Reg.UPD.ARG 2)) →
    ∃ t, exec (.write m) s = .next t ∧
      t.get Reg.UPD.RES_CODE = 11 ∧
      t.get Reg.UPD.RES_DONE = 1 ∧
      t.flash = s.flash) ∧
  (∀ (s : State) (m : Nat) (rd : StageRead),
    Quiet m s →
    s.get Reg.UPD.STAT_STATE = 1 →
    s.verifyCode rd = 0 →
    ∃ t, exec (.verify m rd) s = .next t ∧
      t.get Reg.UPD.STAT_STATE = 2 ∧
      t.get Reg.UPD.RES_CODE = 0 ∧
      t.get Reg.UPD.RES_DONE = 1 ∧
      Raised 109 t ∧
      t.upd.staged = rd) ∧
  (∀ (s : State) (m c : Nat) (rd : StageRead),
    Quiet m s →
    s.get Reg.UPD.STAT_STATE = 1 →
    s.verifyCode rd = c →
    c ≠ 0 →
    ∃ t, exec (.verify m rd) s = .next t ∧
      t.get Reg.UPD.STAT_STATE = 0 ∧
      t.get Reg.UPD.RES_CODE = c % 256 ∧
      t.get Reg.UPD.RES_DONE = 1 ∧
      Raised 110 t ∧
      t.flash = s.flash ∧
      (rd.bundle = none ∧ s.upd.fw = true → c = 30)) ∧
  (∀ (s : State) (m : Nat) (rd : StageRead),
    Quiet m s →
    s.get Reg.UPD.STAT_STATE ≠ 1 →
    ∃ t, exec (.verify m rd) s = .next t ∧
      t.get Reg.UPD.STAT_STATE = s.get Reg.UPD.STAT_STATE ∧
      t.get Reg.UPD.RES_CODE = 11 ∧
      t.flash = s.flash) ∧
  (∀ (s : State) (m : Nat) (env : StartEnv) (h : BootHdr),
    Quiet m s →
    s.get Reg.UPD.STAT_STATE = 2 →
    s.windowOpen = true →
    60 ≤ s.get (Reg.UPD.ARG 1) →
    s.get (Reg.UPD.ARG 1) ≤ 86400 →
    1 ≤ s.get (Reg.UPD.ARG 2) % 16 →
    s.get (Reg.UPD.ARG 2) % 16 ≤ 8 →
    s.upd.hdr = 0 →
    s.flash.hdrA = .good h →
    h.trial = false →
    s.flash.fwA.head = .blank →
    s.flash.fwB.head = .blank →
    s.fuses.idgen = true →
    s.upd.fw = true →
    ∃ t, exec (.updCommit m env) s = .next t ∧
      (∃ g : BootHdr, t.flash.hdrB = .good g ∧ g.seq = h.seq + 1 ∧ g.trial = true ∧ g.confirm = 0xFFFFFFFF ∧ g.fwSlot = s.upd.fwSlot) ∧
      t.flash.hdrA = .good h ∧
      t.get Reg.MGT.RSTCAUSE = 3) ∧
  (∀ (s : State) (m c : Nat) (env : StartEnv),
    Quiet m s →
    s.upd.due = none →
    s.commitCode = c →
    c ≠ 0 →
    ∃ t, exec (.updCommit m env) s = .next t ∧
      t.get Reg.UPD.RES_CODE = c % 256 ∧
      t.get Reg.UPD.RES_DONE = 1 ∧
      t.flash = s.flash ∧
      t.upd.due = none ∧
      (s.trialOpen = false → s.get Reg.UPD.STAT_STATE = 2 → s.windowOpen = false → c = 28)) ∧
  (∀ (s : State) (m : Nat) (h : BootHdr) (b : Bundle),
    Quiet m s →
    s.upd.hdr = 0 →
    s.flash.hdrA = .good h →
    s.upd.running = some b →
    h.trial = true →
    h.confirm = 0xFFFFFFFF →
    h.valid = 0xFFFFFFFF →
    ∃ t, exec (.confirm m) s = .next t ∧
      t.get Reg.UPD.RES_CODE = 0 ∧
      t.get Reg.UPD.RES_DONE = 1 ∧
      t.flash.hdrA = .good { h with confirm := 0 } ∧
      t.get Reg.UPD.TRIALLEFT = 0 ∧
      t.upd.trialEnd = none ∧
      t.minSv = max s.minSv b.secver ∧
      Raised 113 t) ∧
  (∀ (s : State) (m : Nat),
    Quiet m s →
    s.trialOpen = false →
    ∃ t, exec (.confirm m) s = .next t ∧
      t.get Reg.UPD.RES_CODE = 11 ∧
      t.get Reg.UPD.RES_DONE = 1 ∧
      t.flash = s.flash) ∧
  (∀ (s : State) (m : Nat),
    Quiet m s →
    ∃ t, exec (.updAbort m) s = .next t ∧
      t.get Reg.UPD.STAT_STATE = 0 ∧
      t.get Reg.UPD.RES_CODE = 0 ∧
      t.get Reg.UPD.RES_DONE = 1 ∧
      t.upd.fw = false ∧
      t.upd.cfg = false ∧
      t.flash = s.flash ∧
      RegsKept [.upd] s t)

/-- Requests of the channel-table mailbox. CREATE of a channel of any kind that passes its checks and waits for nothing takes a
free index: the entry is LIVE, its handle carries kind, index and generation and stands in RESHANDLE, and the result is OK.
One whose PLL takes another family while its quad runs waits for that PLL. A druse takes no entry of the slot store; a test
generator takes an ingress entry of the slot store, which carries its handle. A creation that fails a check reports the code
of the first one that fails, and creates nothing. DESTROY of a channel not in use raises the generation of its entry and
leaves it DYING; with CHN off, with a handle that does not pass, or in use, it is refused (16, its code, 13). APPEND of a
lane puts it at the end of the druse; the ranges of the druse grow by two each way. So does that of a channel, or of a druse
of this chip; one of a druse on another chip is claimed of that chip first. An append that fails a check, or would make a
range too long, changes no druse. RESOLVE of a position that falls on a channel of this chip answers its system number and
handle; an empty position answers EMPTY, one beyond the range BAD_PARAM; what one on another chip answers is free among OK,
BAD_PARAM and EMPTY. A handle that is no druse answers its code. A request of any of the four while one is in progress is
discarded, and REQ_OVR is set. input position 0 of a druse whose first member is an input channel is that channel. A write
of LOWMARK takes effect, and enters the low condition when fewer entries are free. Rests on parts of R95, R96, R101, R103,
R108, R109, R116. (04_channels_druses.md) -/
def Obligations.ChannelRequests : Prop :=
  (∀ (s : State) (m i : Nat) (a d eis eos : List Nat),
    Quiet m s →
    s.get Reg.CHN.STAT_REQBUSY = 0 →
    a = (List.range 8).map s.reqArg →
    d = s.reqDesc a →
    s.createCode a d = 0 →
    s.nextEntry = some i →
    i < 16384 →
    allocAll s.ingUse (s.entrySizes a).1 = some eis →
    allocAll s.egrUse (s.entrySizes a).2 = some eos →
    s.pllWait a = none →
    ∃ t, exec (.create m) s = .next t ∧
      t.get Reg.CHN.RESULT_DONE = 1 ∧
      t.get Reg.CHN.RESULT_CODE = 0 ∧
      t.get Reg.CHN.STAT_REQBUSY = 0 ∧
      t.get Reg.CHN.RESHANDLE = State.mkHandle (argKind a) i (State.handleGen (s.get (Reg.CHN.ENT_HANDLE i))) ∧
      t.get (Reg.CHN.ENT_HANDLE i) = t.get Reg.CHN.RESHANDLE ∧
      t.get (Reg.CHN.ENT_STATE_STATE i) = 1 ∧
      (∃ c, t.chan i = some c ∧ c.kind = argKind a ∧ c.args = a ∧ c.desc = d ∧ c.live = true)) ∧
  (∀ (s : State) (m : Nat) (a d eis eos : List Nat) (q : Nat × Nat),
    Quiet m s →
    s.get Reg.CHN.STAT_REQBUSY = 0 →
    a = (List.range 8).map s.reqArg →
    d = s.reqDesc a →
    s.createCode a d = 0 →
    allocAll s.ingUse (s.entrySizes a).1 = some eis →
    allocAll s.egrUse (s.entrySizes a).2 = some eos →
    s.pllWait a = some q →
    ∃ t, exec (.create m) s = .next t ∧
      t.get Reg.CHN.RESULT_DONE = 0 ∧
      t.get Reg.CHN.STAT_REQBUSY = 1 ∧
      (∃ w, t.chn.waiting = some w ∧ w.args = a ∧ w.desc = d ∧ w.retune = true ∧ w.quad = q.1 ∧ w.pll = q.2)) ∧
  (∀ (s : State) (m i : Nat) (a d : List Nat),
    Quiet m s →
    s.get Reg.CHN.STAT_REQBUSY = 0 →
    a = (List.range 8).map s.reqArg →
    d = s.reqDesc a →
    argKind a = 10 →
    s.createCode a d = 0 →
    i = s.chn.nextIndex →
    i < 16384 →
    ∃ t, exec (.create m) s = .next t ∧
      t.get Reg.CHN.RESULT_DONE = 1 ∧
      t.get Reg.CHN.RESULT_CODE = 0 ∧
      t.get Reg.CHN.STAT_REQBUSY = 0 ∧
      t.get Reg.CHN.RESHANDLE = State.mkHandle 10 i (State.handleGen (s.get (Reg.CHN.ENT_HANDLE i))) ∧
      t.get (Reg.CHN.ENT_HANDLE i) = t.get Reg.CHN.RESHANDLE ∧
      t.get (Reg.CHN.ENT_STATE_STATE i) = 1 ∧
      (∃ c, t.chan i = some c ∧ c.kind = 10 ∧ c.live = true) ∧
      t.chn.nextIndex = i + 1) ∧
  (∀ (s : State) (m i e : Nat) (a d : List Nat),
    Quiet m s →
    s.get Reg.CHN.STAT_REQBUSY = 0 →
    a = (List.range 8).map s.reqArg →
    d = s.reqDesc a →
    argKind a = 1 →
    isGenerator a = true →
    s.createCode a d = 0 →
    i = s.chn.nextIndex →
    i < 16384 →
    allocAll s.ingUse [fmtSize (argFmt a)] = some [e] →
    e < 8192 →
    ∃ t, exec (.create m) s = .next t ∧
      t.get Reg.CHN.RESULT_DONE = 1 ∧
      t.get Reg.CHN.RESULT_CODE = 0 ∧
      t.get (Reg.CHN.ENT_HANDLE i) = State.mkHandle 1 i (State.handleGen (s.get (Reg.CHN.ENT_HANDLE i))) ∧
      t.get (Reg.CHN.ENT_STATE_STATE i) = 1 ∧
      t.get (Reg.FAB.ISE_HANDLE e) = t.get (Reg.CHN.ENT_HANDLE i) ∧
      t.get (Reg.FAB.ISE_CFG_VALID e) = 1 ∧
      t.get (Reg.CHN.ENT_RES_INGENT i) = e) ∧
  (∀ (s : State) (m i : Nat) (a d : List Nat) (code : Nat),
    Quiet m s →
    s.get Reg.CHN.STAT_REQBUSY = 0 →
    a = (List.range 8).map s.reqArg →
    d = s.reqDesc a →
    code = s.createCode a d →
    code ≠ 0 →
    ∃ t, exec (.create m) s = .next t ∧
      t.get Reg.CHN.RESULT_DONE = 1 ∧
      t.get Reg.CHN.RESULT_CODE = code ∧
      Raised 90 t ∧
      t.chn = s.chn ∧
      t.get (Reg.CHN.ENT_STATE_STATE i) = s.get (Reg.CHN.ENT_STATE_STATE i)) ∧
  (∀ (s : State) (m h : Nat) (c : Chan),
    Quiet m s →
    s.get Reg.CHN.STAT_REQBUSY = 0 →
    s.get Reg.CHN.CTRL_EN = 1 →
    h = s.reqArg 0 →
    s.judgeHandle h State.anyKind = 0 →
    s.inUseBy (State.handleIdx h) = false →
    s.chan (State.handleIdx h) = some c →
    ∃ t, exec (.destroy m) s = .next t ∧
      t.get Reg.CHN.RESULT_DONE = 1 ∧
      t.get Reg.CHN.RESULT_CODE = 0 ∧
      t.get (Reg.CHN.ENT_STATE_STATE (State.handleIdx h)) = 2 ∧
      t.get (Reg.CHN.ENT_HANDLE (State.handleIdx h)) = State.mkHandle 0 (State.handleIdx h) (State.handleGen (s.get (Reg.CHN.ENT_HANDLE (State.handleIdx h))) + 1) ∧
      (∃ x, t.chan (State.handleIdx h) = some x ∧ x.live = false)) ∧
  (∀ (s : State) (m h c : Nat),
    Quiet m s →
    s.get Reg.CHN.STAT_REQBUSY = 0 →
    h = s.reqArg 0 →
    (c = (if s.get Reg.CHN.CTRL_EN = 0 then 16 else if s.judgeHandle h State.anyKind ≠ 0 then s.judgeHandle h State.anyKind else if s.inUseBy (State.handleIdx h) then 13 else 0)) →
    c ≠ 0 →
    ∃ t, exec (.destroy m) s = .next t ∧
      t.get Reg.CHN.RESULT_DONE = 1 ∧
      t.get Reg.CHN.RESULT_CODE = c % 32 ∧
      t.chn.chans = s.chn.chans ∧
      t.chn.druses = s.chn.druses) ∧
  (∀ (s : State) (m d : Nat) (x : Member),
    Quiet m s →
    s.get Reg.CHN.STAT_REQBUSY = 0 →
    x = s.reqMember →
    x.type = 1 →
    s.appendCode x = 0 →
    d = s.druseOf (s.reqArg 0) →
    d < 4096 →
    s.rangeFits d x = true →
    ∃ t, exec (.append m) s = .next t ∧
      t.get Reg.CHN.RESULT_DONE = 1 ∧
      t.get Reg.CHN.RESULT_CODE = 0 ∧
      t.membersOf d = s.membersOf d ++ [x] ∧
      t.get (Reg.CHN.DRU_INSIZE d) = s.get (Reg.CHN.DRU_INSIZE d) + 2 ∧
      t.get (Reg.CHN.DRU_OUTSIZE d) = s.get (Reg.CHN.DRU_OUTSIZE d) + 2) ∧
  (∀ (s : State) (m d : Nat) (x : Member),
    Quiet m s →
    s.get Reg.CHN.STAT_REQBUSY = 0 →
    x = s.reqMember →
    s.appendCode x = 0 →
    x.type ≤ 1 ∨ s.ownSys x.sys = true →
    d = s.druseOf (s.reqArg 0) →
    s.rangeFits d x = true →
    ∃ t, exec (.append m) s = .next t ∧
      t.get Reg.CHN.RESULT_DONE = 1 ∧
      t.get Reg.CHN.RESULT_CODE = 0 ∧
      t.membersOf d = s.membersOf d ++ [x]) ∧
  (∀ (s : State) (m d : Nat) (x : Member),
    Quiet m s →
    s.get Reg.CHN.STAT_REQBUSY = 0 →
    x = s.reqMember →
    s.appendCode x = 0 →
    2 ≤ x.type →
    s.ownSys x.sys = false →
    d = s.druseOf (s.reqArg 0) →
    s.mirrors = false →
    ∃ t, exec (.append m) s = .next t ∧
      t.get Reg.CHN.RESULT_DONE = 0 ∧
      t.get Reg.CHN.STAT_REQBUSY = 1 ∧
      t.chn.claim = some { druse := d, member := x, since := s.now, sent := s.now } ∧
      t.chn.druses = s.chn.druses ∧
      t.out = .claim x.sys x.type x.ref (s.get (Reg.CHN.DRU_HANDLE d)) :: s.out) ∧
  (∀ (s : State) (m c : Nat) (x : Member),
    Quiet m s →
    s.get Reg.CHN.STAT_REQBUSY = 0 →
    x = s.reqMember →
    (c = (if s.appendCode x ≠ 0 then s.appendCode x else if (x.type ≤ 1 ∨ s.ownSys x.sys = true) ∧ s.rangeFits (s.druseOf (s.reqArg 0)) x = false then 11 else 0)) →
    c ≠ 0 →
    ∃ t, exec (.append m) s = .next t ∧
      t.get Reg.CHN.RESULT_DONE = 1 ∧
      t.get Reg.CHN.RESULT_CODE = c % 32 ∧
      t.chn.druses = s.chn.druses) ∧
  (∀ (s : State) (m h k : Nat),
    Quiet m s →
    s.get Reg.CHN.STAT_REQBUSY = 0 →
    s.get Reg.CHN.CTRL_EN = 1 →
    s.judgeHandle (s.reqArg 0) [10] = 0 →
    s.resolvePos (bit (s.reqArg 1) 0) 4097 (s.membersOf (s.druseOf (s.reqArg 0))) (s.reqArg 2) = (0, k, some h) →
    ∃ t, exec (.resolve m) s = .next t ∧
      t.get Reg.CHN.RESULT_DONE = 1 ∧
      t.get Reg.CHN.RESULT_CODE = 0 ∧
      t.get Reg.CHN.RESHANDLE = h % 2 ^ 32 ∧
      t.get Reg.CHN.RESSYS = k % 2 ^ 18 ∧
      t.chn = s.chn) ∧
  (∀ (s : State) (m c k : Nat) (o : Option Nat),
    Quiet m s →
    s.get Reg.CHN.STAT_REQBUSY = 0 →
    s.get Reg.CHN.CTRL_EN = 1 →
    s.judgeHandle (s.reqArg 0) [10] = 0 →
    s.resolvePos (bit (s.reqArg 1) 0) 4097 (s.membersOf (s.druseOf (s.reqArg 0))) (s.reqArg 2) = (c, k, o) →
    c ≠ 0 →
    ∃ t, exec (.resolve m) s = .next t ∧
      t.get Reg.CHN.RESULT_DONE = 1 ∧
      t.get Reg.CHN.RESULT_CODE = c % 32 ∧
      t.chn = s.chn) ∧
  (∀ (s : State) (m k : Nat),
    Quiet m s →
    s.get Reg.CHN.STAT_REQBUSY = 0 →
    s.get Reg.CHN.CTRL_EN = 1 →
    s.judgeHandle (s.reqArg 0) [10] = 0 →
    s.resolvePos (bit (s.reqArg 1) 0) 4097 (s.membersOf (s.druseOf (s.reqArg 0))) (s.reqArg 2) = (0, k, none) →
    ∃ t, exec (.resolve m) s = .next t ∧
      t.get Reg.CHN.RESULT_DONE = 1 ∧
      t.get Reg.CHN.RESULT_CODE ∈ [0, 11, 17] ∧
      t.chn = s.chn) ∧
  (∀ (s : State) (m c : Nat),
    Quiet m s →
    s.get Reg.CHN.STAT_REQBUSY = 0 →
    (c = (if s.get Reg.CHN.CTRL_EN = 0 then 16 else s.judgeHandle (s.reqArg 0) [10])) →
    c ≠ 0 →
    ∃ t, exec (.resolve m) s = .next t ∧
      t.get Reg.CHN.RESULT_DONE = 1 ∧
      t.get Reg.CHN.RESULT_CODE = c % 32 ∧
      t.chn.druses = s.chn.druses) ∧
  (∀ (s : State) (m : Nat), Quiet m s → s.get Reg.CHN.STAT_REQBUSY = 1 →
    ∀ c ∈ [Instr.create m, .destroy m, .append m, .resolve m], ∃ t, exec c s = .next t ∧ t.get Reg.CHN.STAT_REQ_OVR = 1 ∧ t.chn = s.chn ∧ Raised 94 t) ∧
  (∀ (s : State) (m d : Nat) (x : Member) (ms : List Member),
    Quiet m s →
    s.get Reg.CHN.STAT_REQBUSY = 0 →
    s.get Reg.CHN.CTRL_EN = 1 →
    s.judgeHandle (s.reqArg 0) [10] = 0 →
    d = s.druseOf (s.reqArg 0) →
    s.membersOf d = x :: ms →
    x.type = 0 →
    State.handleKind x.ref = 1 →
    bit (s.reqArg 1) 0 = false →
    s.reqArg 2 = 0 →
    ∃ t, exec (.resolve m) s = .next t ∧
      t.get Reg.CHN.RESULT_DONE = 1 ∧
      t.get Reg.CHN.RESULT_CODE = 0 ∧
      t.get Reg.CHN.RESHANDLE = x.ref % 2 ^ 32 ∧
      t.get Reg.CHN.RESSYS = x.sys % 2 ^ 18 ∧
      t.chn = s.chn) ∧
  (∀ (s : State) (m : Nat) (data : Word),
    Quiet m s →
    ∃ t, exec (.chnLowmarkWrite m data) s = .next t ∧
      t.get Reg.CHN.LOWMARK = data.toNat % 32768 ∧
      (16384 - s.get Reg.CHN.COUNT_USED < data.toNat % 32768 ∧ s.chn.low = false → Raised 91 t ∧ t.chn.low = true) ∧
      RegsKept [.chn, .flt] s t)

/-- Claims, release of entries, compaction, retuned PLLs and frame instants. APPEND_CLAIM_ANSWER that accepts makes the remote
druse, that of the handle answered where a chip was named, a member with the ranges answered. An answer that refuses leaves
the druse unchanged and reports its code. Ranges that do not fit are BAD_PARAM. With no claim open, an answer or its time is
nothing. Before its 50 ms APPEND_CLAIM_TIMEOUT sends the claim again 20 ms after it was sent (log entry of R111: the model's
choice), and else waits. Then it reports TIMEOUT and leaves the druse unchanged. ENTRY_RELEASE: once the last reader has
left, the entry is FREE and its index joins the freed ones. Before that, or without an entry, it is nothing. COMPACT before
the last move changes nothing. After it a creation that waits is completed; where nothing waits COMPACTING reads 0, and the
event is raised. PLL_RETUNE_DONE: the PLL reports lock, and the creation that waits for it completes. A PLL that is not
retuning reports nothing. PLL_RETUNE_TIMEOUT before its 10 ms, or with no creation waiting, is nothing; then the creation
that waits is refused NO_UNIT. PLANE_FRAME_INSTANT counts a frame of its plane. There is none of a plane above 15. Rests on
parts of R88, R104, R111, R335, R416. (03_slot_grid.md, 04_channels_druses.md, 13_lanes.md, 16_references.md) -/
def Obligations.ClaimsReleaseAndFrameInstants : Prop :=
  (∀ (s : State) (code h ins outs : Nat) (c : Claim),
    s.chn.claim = some c →
    code % 32 = 0 →
    (s.rangeFits c.druse { c.member with ref := if c.member.type = 3 then h else c.member.ref, ins := ins, outs := outs } = true) →
    ∃ t, exec (.appendClaimAnswer code h (ins, outs)) s = .next t ∧
      t.get Reg.CHN.RESULT_DONE = 1 ∧
      t.get Reg.CHN.RESULT_CODE = 0 ∧
      t.chn.claim = none ∧
      (t.membersOf c.druse = s.membersOf c.druse ++ [{ c.member with ref := if c.member.type = 3 then h else c.member.ref, ins := ins, outs := outs }])) ∧
  (∀ (s : State) (code h ins outs : Nat) (c : Claim),
    s.chn.claim = some c →
    code % 32 ≠ 0 →
    ∃ t, exec (.appendClaimAnswer code h (ins, outs)) s = .next t ∧
      t.get Reg.CHN.RESULT_CODE = code % 32 ∧
      t.chn.claim = none ∧
      t.chn.druses = s.chn.druses) ∧
  (∀ (s : State) (code h ins outs : Nat) (c : Claim),
    s.chn.claim = some c →
    code % 32 = 0 →
    (s.rangeFits c.druse { c.member with ref := if c.member.type = 3 then h else c.member.ref, ins := ins, outs := outs } = false) →
    ∃ t, exec (.appendClaimAnswer code h (ins, outs)) s = .next t ∧
      t.get Reg.CHN.RESULT_CODE = 11 ∧
      t.chn.claim = none ∧
      t.chn.druses = s.chn.druses) ∧
  (∀ (s : State) (code h ins outs : Nat), s.chn.claim = none → ∀ c ∈ [Instr.appendClaimAnswer code h (ins, outs), .appendClaimTimeout], ∃ t, exec c s = .next t ∧ t.chn = s.chn ∧ t.regs = s.regs) ∧
  (∀ (s : State) (c : Claim),
    s.chn.claim = some c →
    s.now < c.since + 50000000 →
    c.sent + 20000000 ≤ s.now →
    s.twin.owed = [] →
    ∃ t, exec (.appendClaimTimeout) s = .next t ∧
      t.chn = { s.chn with claim := some { c with sent := s.now } } ∧
      t.out = .claim c.member.sys c.member.type c.member.ref (s.get (Reg.CHN.DRU_HANDLE c.druse)) :: s.out ∧
      t.regs = s.regs) ∧
  (∀ (s : State) (c : Claim),
    s.chn.claim = some c →
    s.now < c.since + 50000000 →
    s.now < c.sent + 20000000 →
    s.twin.owed = [] →
    ∃ t, exec (.appendClaimTimeout) s = .next t ∧
      t = s) ∧
  (∀ (s : State) (c : Claim),
    s.chn.claim = some c →
    c.since + 50000000 ≤ s.now →
    ∃ t, exec (.appendClaimTimeout) s = .next t ∧
      t.get Reg.CHN.RESULT_DONE = 1 ∧
      t.get Reg.CHN.RESULT_CODE = 18 ∧
      t.chn.claim = none ∧
      t.chn.druses = s.chn.druses ∧
      Raised 92 t) ∧
  (∀ (s : State) (i : Nat) (c : Chan),
    s.chan i = some c →
    i < 16384 →
    c.live = false →
    s.released i c = true →
    ∃ t, exec (.entryRelease i) s = .next t ∧
      t.get (Reg.CHN.ENT_STATE_STATE i) = 0 ∧
      t.chan i = none ∧
      t.chn.freed = s.chn.freed ++ [i]) ∧
  (∀ (s : State) (i : Nat),
    (s.chan i).all (fun c => c.live || !s.released i c) = true →
    ∃ t, exec (.entryRelease i) s = .next t ∧
      t = s) ∧
  (∀ (s : State),
    s.fab.compact = none ∨ s.movesDone = false →
    ∃ t, exec (.compact) s = .next t ∧
      t.fab = s.fab ∧
      t.chn = s.chn ∧
      t.regs = s.regs) ∧
  (∀ (s : State) (w : CreateWait) (i : Nat) (eis eos : List Nat),
    s.fab.compact.isSome = true →
    s.movesDone = true →
    s.chn.waiting = some w →
    w.retune = false →
    s.nextEntry = some i →
    i < 16384 →
    allocAll s.ingUse (s.entrySizes w.args).1 = some eis →
    allocAll s.egrUse (s.entrySizes w.args).2 = some eos →
    s.pllWait w.args = none →
    ∃ t, exec (.compact) s = .next t ∧
      t.get Reg.CHN.RESULT_DONE = 1 ∧
      t.get Reg.CHN.RESULT_CODE = 0 ∧
      t.chn.waiting = none ∧
      (∃ c, t.chan i = some c ∧ c.args = w.args ∧ c.live = true)) ∧
  (∀ (s : State),
    s.fab.compact.isSome = true →
    s.movesDone = true →
    s.chn.waiting = none →
    (∀ g ∈ List.range 8, (s.micaHw g).waitBind = none) →
    (s.lanes.lanes.all fun p => !p.2.starting) = true →
    ∃ t, exec (.compact) s = .next t ∧
      t.fab.compact = none ∧
      t.get Reg.FAB.STAT_COMPACTING = 0 ∧
      bit (t.get Reg.FAB.EVSTAT) 8 = true ∧
      Raised 969 t) ∧
  (∀ (s : State) (q p : Nat),
    q < 128 →
    p < 2 →
    s.quadRuns q = true →
    s.get (State.pllRetuneF q p) = 1 →
    s.chn.waiting = none →
    ∃ t, exec (.pllRetuneDone q p) s = .next t ∧
      t.get (State.pllLockF q p) = 1 ∧
      t.get (State.pllRetuneF q p) = 0) ∧
  (∀ (s : State) (q p i f : Nat) (w : CreateWait) (eis eos : List Nat),
    q < 128 →
    p < 2 →
    s.quadRuns q = true →
    s.get (State.pllRetuneF q p) = 1 →
    s.chn.waiting = some w →
    w.retune = true →
    w.quad = q →
    w.pll = p →
    argLane w.args / 4 = q →
    f = fmtFamily (argFmt w.args) →
    s.pllFor q f = some p →
    s.get (State.pllFamilyF q p) = f →
    s.nextEntry = some i →
    i < 16384 →
    allocAll s.ingUse (s.entrySizes w.args).1 = some eis →
    allocAll s.egrUse (s.entrySizes w.args).2 = some eos →
    ∃ t, exec (.pllRetuneDone q p) s = .next t ∧
      t.get (State.pllLockF q p) = 1 ∧
      t.get Reg.CHN.RESULT_DONE = 1 ∧
      t.get Reg.CHN.RESULT_CODE = 0 ∧
      t.chn.waiting = none ∧
      (∃ c, t.chan i = some c ∧ c.args = w.args ∧ c.live = true)) ∧
  (∀ (s : State) (q p : Nat),
    s.quadRuns q = false ∨ s.get (State.pllRetuneF q p) = 0 →
    ∃ t, exec (.pllRetuneDone q p) s = .next t ∧
      t.chn = s.chn ∧
      t.regs = s.regs) ∧
  (∀ (s : State) (q p : Nat),
    (s.chn.waiting.all (fun w => !w.retune || w.quad != q || w.pll != p) = true ∨ s.get (State.pllRetuneF q p) = 0 ∨ s.pllOverdue q p = false) →
    ∃ t, exec (.pllRetuneTimeout q p) s = .next t ∧
      t.chn = s.chn ∧
      t.regs = s.regs) ∧
  (∀ (s : State) (q p : Nat) (w : CreateWait),
    q < 128 →
    p < 2 →
    s.chn.waiting = some w →
    w.retune = true →
    w.quad = q →
    w.pll = p →
    s.get (State.pllRetuneF q p) = 1 →
    s.pllOverdue q p = true →
    ∃ t, exec (.pllRetuneTimeout q p) s = .next t ∧
      t.chn.waiting = none ∧
      t.get Reg.CHN.RESULT_DONE = 1 ∧
      t.get Reg.CHN.RESULT_CODE = 6 ∧
      (t.fab.need = s.fab.need.filter fun x => x.1 != .create) ∧
      Raised 90 t) ∧
  (∀ (s : State) (p : Nat),
    p < 16 →
    ∃ t, exec (.planeFrameInstant p) s = .next t ∧
      t.get (Reg.LODE.PLANE_FRAMES p) = (s.get (Reg.LODE.PLANE_FRAMES p) + 1) % 2 ^ 32) ∧
  (∀ (s : State) (p : Nat),
    16 ≤ p →
    ∃ t, exec (.planeFrameInstant p) s = .next t ∧
      t = s)

/-- Takes, cancels, locks and protects by the take mailbox. TAKE without an instant, or with one that is past and marked so,
stands in the pending slot of its output; the route does not change yet, and the request is in progress until a tick ends
it. It supersedes the take that was pending, which completes SUPERSEDED and is counted. TAKE with a coming instant takes a
scheduled-take entry, whose ID it answers. With none free it is refused NO_ENTRY; one that fails a check of R120 is refused
with its code, and takes nothing. A further request of any of the six while one is in progress is discarded, and
TESTAT.REQ_OVR is set; with FAB off it is refused DISABLED. TAKE to a locked output is refused LOCKED. CANCEL of a scheduled
take that is not latched frees its entry, advances its use count and completes it CANCELLED. One latched, or of another ID,
is refused. LOCK marks the output and its owner, and cancels the pending take. PROTECT marks the output and its owner.
UNLOCK by the owner clears the mark. UNPROTECT likewise. LOCK of an output that another peer holds, or of none, is refused,
and so is PROTECT. UNLOCK and UNPROTECT by another peer are refused. Rests on parts of R120, R121, R124, R131, R132, R133,
R135. (05_takes_salvos.md) -/
def Obligations.TakesAndLocks : Prop :=
  (∀ (s : State) (m peer : Nat) (i : Nat),
    Quiet m s →
    peer < 256 →
    s.get Reg.FAB.TESTAT_BUSY = 0 →
    s.get Reg.FAB.CTRL_EN = 1 →
    s.judgeTake (s.takeArg 0) (s.takeArg 1) (s.takeArg 5) peer (bit (s.takeArg 4) 0) = 0 →
    s.takeInstant ≤ s.timeNs →
    i = State.handleIdx (s.takeArg 0) →
    ∃ t, exec (.take m peer) s = .next t ∧
      t.get Reg.FAB.TESTAT_BUSY = 1 ∧
      t.get Reg.FAB.TAKERES_CODE = 0 ∧
      ((t.outTakes i).pend = some { src := s.takeSrc, accepted := s.timeNs, peer := peer, ref := 0, flags := if s.takeInstant = 0 then 0 else 16 }) ∧
      t.get (Reg.FAB.RT_PENDV i) = 1 ∧
      t.get (Reg.FAB.RT_PEND i) = s.takeSrc ∧
      t.get (Reg.FAB.RT_CUR i) = s.get (Reg.FAB.RT_CUR i) ∧
      t.get Reg.FAB.TAKEID = 0) ∧
  (∀ (s : State) (m peer : Nat) (i : Nat) (old : TakeRec),
    Quiet m s →
    peer < 256 →
    s.get Reg.FAB.TESTAT_BUSY = 0 →
    s.get Reg.FAB.CTRL_EN = 1 →
    s.judgeTake (s.takeArg 0) (s.takeArg 1) (s.takeArg 5) peer (bit (s.takeArg 4) 0) = 0 →
    s.takeInstant = 0 →
    i = State.handleIdx (s.takeArg 0) →
    (s.outTakes i).pend = some old →
    s.fab.tcq = [] →
    ∃ t, exec (.take m peer) s = .next t ∧
      t.get Reg.FAB.TESTAT_BUSY = 1 ∧
      t.get Reg.FAB.TAKERES_CODE = 0 ∧
      ((t.fab.tcq.map fun c => (c.code, c.peer)) = [(20, old.peer)]) ∧
      t.get (Reg.FAB.RT_SUPCNT i) = (s.get (Reg.FAB.RT_SUPCNT i) + 1) % 65536) ∧
  (∀ (s : State) (m peer : Nat) (k : Nat),
    Quiet m s →
    peer < 256 →
    s.get Reg.FAB.TESTAT_BUSY = 0 →
    s.get Reg.FAB.CTRL_EN = 1 →
    s.judgeTake (s.takeArg 0) (s.takeArg 1) (s.takeArg 5) peer (bit (s.takeArg 4) 0) = 0 →
    s.timeNs < s.takeInstant →
    (List.range 4096).find? (fun j => Assoc.find s.fab.sched j == none) = some k →
    ∃ t, exec (.take m peer) s = .next t ∧
      t.get Reg.FAB.TESTAT_BUSY = 1 ∧
      t.get Reg.FAB.TAKERES_CODE = 0 ∧
      (∃ x, Assoc.find t.fab.sched k = some x ∧ x.instant = s.takeInstant ∧ x.out = State.handleIdx (s.takeArg 0) ∧ x.latched = false) ∧
      t.get Reg.FAB.TAKEID = s.schedId k % 65536) ∧
  (∀ (s : State) (m peer : Nat),
    Quiet m s →
    peer < 256 →
    s.get Reg.FAB.TESTAT_BUSY = 0 →
    s.get Reg.FAB.CTRL_EN = 1 →
    s.judgeTake (s.takeArg 0) (s.takeArg 1) (s.takeArg 5) peer (bit (s.takeArg 4) 0) = 0 →
    s.timeNs < s.takeInstant →
    (List.range 4096).find? (fun j => Assoc.find s.fab.sched j == none) = none →
    ∃ t, exec (.take m peer) s = .next t ∧
      t.get Reg.FAB.TESTAT_BUSY = 1 ∧
      t.get Reg.FAB.TAKERES_CODE = 5 ∧
      t.fab = s.fab ∧
      Raised 997 t) ∧
  (∀ (s : State) (m peer : Nat) (c : Nat),
    Quiet m s →
    peer < 256 →
    s.get Reg.FAB.TESTAT_BUSY = 0 →
    s.get Reg.FAB.CTRL_EN = 1 →
    s.judgeTake (s.takeArg 0) (s.takeArg 1) (s.takeArg 5) peer (bit (s.takeArg 4) 0) = c →
    c ≠ 0 →
    ∃ t, exec (.take m peer) s = .next t ∧
      t.get Reg.FAB.TESTAT_BUSY = 1 ∧
      t.get Reg.FAB.TAKERES_CODE = c % 32 ∧
      t.fab = s.fab) ∧
  (∀ (s : State) (m peer : Nat), Quiet m s → peer < 256 → s.get Reg.FAB.TESTAT_BUSY = 1 →
    ∀ c ∈ [Instr.take m peer, .cancel m peer, .lock m peer, .unlockOutput m peer, .protect m peer, .unprotect m peer],
      ∃ t, exec c s = .next t ∧ t.get Reg.FAB.TESTAT_REQ_OVR = 1 ∧ Raised 1000 t ∧ t.fab = s.fab ∧ RegsKept [.fab, .flt] s t) ∧
  (∀ (s : State) (m peer : Nat), Quiet m s → peer < 256 → s.get Reg.FAB.TESTAT_BUSY = 0 → s.get Reg.FAB.CTRL_EN = 0 →
    ∀ c ∈ [Instr.take m peer, .cancel m peer, .lock m peer, .unlockOutput m peer, .protect m peer, .unprotect m peer],
      ∃ t, exec c s = .next t ∧ t.get Reg.FAB.TESTAT_BUSY = 1 ∧ t.get Reg.FAB.TAKERES_CODE = 16 ∧ t.fab = s.fab) ∧
  (∀ (s : State) (m peer : Nat),
    Quiet m s →
    peer < 256 →
    s.get Reg.FAB.TESTAT_BUSY = 0 →
    s.get Reg.FAB.CTRL_EN = 1 →
    s.takeArg 5 = s.get Reg.CHN.EPOCH →
    s.judgeHandle (s.takeArg 0) State.anyKind = 0 →
    bit (s.takeArg 4) 0 = true →
    State.outKinds.contains (State.handleKind (s.takeArg 0)) = true →
    s.get (Reg.FAB.RT_LOCK (State.handleIdx (s.takeArg 0))) = 1 →
    ∃ t, exec (.take m peer) s = .next t ∧
      t.get Reg.FAB.TESTAT_BUSY = 1 ∧
      t.get Reg.FAB.TAKERES_CODE = 22 ∧
      t.fab = s.fab) ∧
  (∀ (s : State) (m peer : Nat) (k : Nat) (x : SchedTake),
    Quiet m s →
    peer < 256 →
    s.get Reg.FAB.TESTAT_BUSY = 0 →
    s.get Reg.FAB.CTRL_EN = 1 →
    s.takeEpochOk = true →
    k = s.takeArg 0 % 4096 →
    Assoc.find s.fab.sched k = some x →
    s.schedId k = s.takeArg 0 % 65536 →
    x.latched = false →
    s.fab.tcq = [] →
    ∃ t, exec (.cancel m peer) s = .next t ∧
      t.get Reg.FAB.TESTAT_BUSY = 1 ∧
      t.get Reg.FAB.TAKERES_CODE = 0 ∧
      Assoc.find t.fab.sched k = none ∧
      ((t.fab.tcq.map fun c => (c.code, c.ref)) = [(19, x.take.ref)]) ∧
      (s.schedUseOf k < 16 → t.schedUseOf k = (s.schedUseOf k + 1) % 16)) ∧
  (∀ (s : State) (m peer : Nat),
    Quiet m s →
    peer < 256 →
    s.get Reg.FAB.TESTAT_BUSY = 0 →
    s.get Reg.FAB.CTRL_EN = 1 →
    s.takeEpochOk = true →
    (Assoc.find s.fab.sched (s.takeArg 0 % 4096)).all (fun x => x.latched || s.schedId (s.takeArg 0 % 4096) != s.takeArg 0 % 65536) = true →
    s.prov.inverted = [] →
    ∃ t, exec (.cancel m peer) s = .next t ∧
      t.get Reg.FAB.TESTAT_BUSY = 1 ∧
      t.get Reg.FAB.TAKERES_CODE = 11 ∧
      t.fab = s.fab) ∧
  (∀ (s : State) (m peer : Nat) (i : Nat),
    Quiet m s →
    peer < 256 →
    s.get Reg.FAB.TESTAT_BUSY = 0 →
    s.get Reg.FAB.CTRL_EN = 1 →
    s.lockTarget = 0 →
    i = State.handleIdx (s.takeArg 0) →
    s.lockHeld i peer = 0 →
    s.salvoHolds i peer = false →
    ∃ t, exec (.lock m peer) s = .next t ∧
      t.get Reg.FAB.TESTAT_BUSY = 1 ∧
      t.get Reg.FAB.TAKERES_CODE = 0 ∧
      t.get (Reg.FAB.RT_LOCK i) = 1 ∧
      t.get (Reg.FAB.RT_OWNER i) = peer ∧
      t.get (Reg.FAB.RT_PROTECT i) = s.get (Reg.FAB.RT_PROTECT i) ∧
      (t.outTakes i).pend = none) ∧
  (∀ (s : State) (m peer : Nat) (i : Nat),
    Quiet m s →
    peer < 256 →
    s.get Reg.FAB.TESTAT_BUSY = 0 →
    s.get Reg.FAB.CTRL_EN = 1 →
    s.lockTarget = 0 →
    i = State.handleIdx (s.takeArg 0) →
    s.lockHeld i peer = 0 →
    s.salvoHolds i peer = false →
    ∃ t, exec (.protect m peer) s = .next t ∧
      t.get Reg.FAB.TESTAT_BUSY = 1 ∧
      t.get Reg.FAB.TAKERES_CODE = 0 ∧
      t.get (Reg.FAB.RT_PROTECT i) = 1 ∧
      t.get (Reg.FAB.RT_OWNER i) = peer ∧
      t.get (Reg.FAB.RT_LOCK i) = s.get (Reg.FAB.RT_LOCK i)) ∧
  (∀ (s : State) (m peer : Nat) (i : Nat),
    Quiet m s →
    peer < 256 →
    s.get Reg.FAB.TESTAT_BUSY = 0 →
    s.get Reg.FAB.CTRL_EN = 1 →
    s.lockTarget = 0 →
    i = State.handleIdx (s.takeArg 0) →
    s.get (Reg.FAB.RT_OWNER i) = peer ∨ s.get (Reg.FAB.RT_LOCK i) = 0 →
    ∃ t, exec (.unlockOutput m peer) s = .next t ∧
      t.get Reg.FAB.TESTAT_BUSY = 1 ∧
      t.get Reg.FAB.TAKERES_CODE = 0 ∧
      t.get (Reg.FAB.RT_LOCK i) = 0 ∧
      (s.get (Reg.FAB.RT_PROTECT i) = 0 → t.get (Reg.FAB.RT_OWNER i) = 0) ∧
      t.get (Reg.FAB.RT_PROTECT i) = s.get (Reg.FAB.RT_PROTECT i)) ∧
  (∀ (s : State) (m peer : Nat) (i : Nat),
    Quiet m s →
    peer < 256 →
    s.get Reg.FAB.TESTAT_BUSY = 0 →
    s.get Reg.FAB.CTRL_EN = 1 →
    s.lockTarget = 0 →
    i = State.handleIdx (s.takeArg 0) →
    s.get (Reg.FAB.RT_OWNER i) = peer ∨ s.get (Reg.FAB.RT_PROTECT i) = 0 →
    ∃ t, exec (.unprotect m peer) s = .next t ∧
      t.get Reg.FAB.TESTAT_BUSY = 1 ∧
      t.get Reg.FAB.TAKERES_CODE = 0 ∧
      t.get (Reg.FAB.RT_PROTECT i) = 0 ∧
      (s.get (Reg.FAB.RT_LOCK i) = 0 → t.get (Reg.FAB.RT_OWNER i) = 0) ∧
      t.get (Reg.FAB.RT_LOCK i) = s.get (Reg.FAB.RT_LOCK i)) ∧
  (∀ (s : State) (m peer : Nat) (i c : Nat),
    Quiet m s →
    peer < 256 →
    s.get Reg.FAB.TESTAT_BUSY = 0 →
    s.get Reg.FAB.CTRL_EN = 1 →
    i = State.handleIdx (s.takeArg 0) →
    (c = (if s.lockTarget ≠ 0 then s.lockTarget else if s.lockHeld i peer ≠ 0 then s.lockHeld i peer else if s.salvoHolds i peer then 13 else 0)) →
    c ≠ 0 →
    ∃ t, exec (.lock m peer) s = .next t ∧
      t.get Reg.FAB.TESTAT_BUSY = 1 ∧
      t.get Reg.FAB.TAKERES_CODE = c % 32 ∧
      t.fab = s.fab ∧
      t.rd (Reg.FAB.RT_LOCK i).addr = s.rd (Reg.FAB.RT_LOCK i).addr) ∧
  (∀ (s : State) (m peer : Nat) (i c : Nat),
    Quiet m s →
    peer < 256 →
    s.get Reg.FAB.TESTAT_BUSY = 0 →
    s.get Reg.FAB.CTRL_EN = 1 →
    i = State.handleIdx (s.takeArg 0) →
    (c = (if s.lockTarget ≠ 0 then s.lockTarget else if s.lockHeld i peer ≠ 0 then s.lockHeld i peer else if s.salvoHolds i peer then 13 else 0)) →
    c ≠ 0 →
    ∃ t, exec (.protect m peer) s = .next t ∧
      t.get Reg.FAB.TESTAT_BUSY = 1 ∧
      t.get Reg.FAB.TAKERES_CODE = c % 32 ∧
      t.fab = s.fab ∧
      t.rd (Reg.FAB.RT_LOCK i).addr = s.rd (Reg.FAB.RT_LOCK i).addr) ∧
  (∀ (s : State) (m peer : Nat) (i c : Nat),
    Quiet m s →
    peer < 256 →
    s.get Reg.FAB.TESTAT_BUSY = 0 →
    s.get Reg.FAB.CTRL_EN = 1 →
    i = State.handleIdx (s.takeArg 0) →
    (c = (if s.lockTarget ≠ 0 then s.lockTarget else if s.get (Reg.FAB.RT_LOCK i) = 1 ∧ s.get (Reg.FAB.RT_OWNER i) ≠ peer then 22 else 0)) →
    c ≠ 0 →
    ∃ t, exec (.unlockOutput m peer) s = .next t ∧
      t.get Reg.FAB.TESTAT_BUSY = 1 ∧
      t.get Reg.FAB.TAKERES_CODE = c % 32 ∧
      t.fab = s.fab ∧
      t.rd (Reg.FAB.RT_LOCK i).addr = s.rd (Reg.FAB.RT_LOCK i).addr) ∧
  (∀ (s : State) (m peer : Nat) (i c : Nat),
    Quiet m s →
    peer < 256 →
    s.get Reg.FAB.TESTAT_BUSY = 0 →
    s.get Reg.FAB.CTRL_EN = 1 →
    i = State.handleIdx (s.takeArg 0) →
    (c = (if s.lockTarget ≠ 0 then s.lockTarget else if s.get (Reg.FAB.RT_PROTECT i) = 1 ∧ s.get (Reg.FAB.RT_OWNER i) ≠ peer then 23 else 0)) →
    c ≠ 0 →
    ∃ t, exec (.unprotect m peer) s = .next t ∧
      t.get Reg.FAB.TESTAT_BUSY = 1 ∧
      t.get Reg.FAB.TAKERES_CODE = c % 32 ∧
      t.fab = s.fab ∧
      t.rd (Reg.FAB.RT_LOCK i).addr = s.rd (Reg.FAB.RT_LOCK i).addr)

/-- Salvos: open, add, arm, commit, abort and expiry. OPEN of a new global ID takes a free local salvo and answers its number.
Of a known one it answers the number again; with none free it is refused. ADD puts a take at the end of an open salvo; no
output is touched. To an armed or unknown one, or to a full store, it is refused. ARM of a salvo whose takes all pass is
held with its instant and the time of the arm. One that fails a check is refused with its code and position, and discarded:
arming again changes nothing, and of an unknown one it is refused. an empty salvo is one (17). COMMIT of an armed salvo
fixes its effective instant: that of the arm, or now. Committing again changes nothing; one not armed, or unknown, is
refused. ABORT discards a salvo that is not committed. One committed, or unknown, is refused. With FAB off, or under an old
table epoch, each of the five is refused. SALVO_OPEN_EXPIRE discards a salvo that was not armed within 1 s. SALVO_EXPIRED
discards one that was neither committed nor aborted 1 s after its instant, or after the arm where it has none. An open salvo
within its second stays, and so does an armed one within its. TCQPOP removes the head of the completion queue; the record
registers show the next. With no record, or a 0 written, nothing is removed. Rests on parts of R126, R139, R140, R141, R142,
R143, R150. (05_takes_salvos.md) -/
def Obligations.Salvos : Prop :=
  (∀ (s : State) (m peer : Nat) (v : Nat),
    Quiet m s →
    peer < 256 →
    s.get Reg.FAB.TESTAT_BUSY = 0 →
    s.get Reg.FAB.CTRL_EN = 1 →
    s.takeEpochOk = true →
    (s.fab.salvos.find? fun p => p.2.gid == s.takeArg 0) = none →
    ((List.range 32).find? fun k => Assoc.find s.fab.salvos k == none) = some v →
    ∃ t, exec (.openGid m peer) s = .next t ∧
      t.get Reg.FAB.TESTAT_BUSY = 1 ∧
      t.get Reg.FAB.TAKERES_CODE = 0 ∧
      (∃ x, Assoc.find t.fab.salvos v = some x ∧ x.gid = s.takeArg 0 ∧ x.takes = [] ∧ x.armed = none ∧ x.opened = s.now) ∧
      t.get Reg.FAB.TAKEID = v) ∧
  (∀ (s : State) (m peer : Nat) (p : Nat × Salvo),
    Quiet m s →
    peer < 256 →
    s.get Reg.FAB.TESTAT_BUSY = 0 →
    s.get Reg.FAB.CTRL_EN = 1 →
    s.takeEpochOk = true →
    (s.fab.salvos.find? fun p => p.2.gid == s.takeArg 0) = some p →
    p.1 < 65536 →
    ∃ t, exec (.openGid m peer) s = .next t ∧
      t.get Reg.FAB.TESTAT_BUSY = 1 ∧
      t.get Reg.FAB.TAKERES_CODE = 0 ∧
      t.get Reg.FAB.TAKEID = p.1 ∧
      t.fab = s.fab) ∧
  (∀ (s : State) (m peer : Nat),
    Quiet m s →
    peer < 256 →
    s.get Reg.FAB.TESTAT_BUSY = 0 →
    s.get Reg.FAB.CTRL_EN = 1 →
    s.takeEpochOk = true →
    (s.fab.salvos.find? fun p => p.2.gid == s.takeArg 0) = none →
    ((List.range 32).find? fun k => Assoc.find s.fab.salvos k == none) = none →
    ∃ t, exec (.openGid m peer) s = .next t ∧
      t.get Reg.FAB.TAKERES_CODE = 5 ∧
      t.fab = s.fab ∧
      Raised 997 t) ∧
  (∀ (s : State) (m peer : Nat) (v : Nat) (x : Salvo),
    Quiet m s →
    peer < 256 →
    s.get Reg.FAB.TESTAT_BUSY = 0 →
    s.get Reg.FAB.CTRL_EN = 1 →
    s.takeEpochOk = true →
    v = s.takeArg 0 % 32 →
    Assoc.find s.fab.salvos v = some x →
    x.armed = none →
    s.get Reg.FAB.SALV_TAKES < 8192 →
    x.takes.length < 1024 →
    ∃ t, exec (.add m peer) s = .next t ∧
      t.get Reg.FAB.TESTAT_BUSY = 1 ∧
      t.get Reg.FAB.TAKERES_CODE = 0 ∧
      ((Assoc.find t.fab.salvos v).map fun y => (y.takes.dropLast, y.takes.getLast?.map fun a => (a.out, a.epoch))) = some (x.takes, some (s.takeArg 1, s.takeArg 5)) ∧
      t.get (Reg.FAB.RT_PENDV (State.handleIdx (s.takeArg 1))) = s.get (Reg.FAB.RT_PENDV (State.handleIdx (s.takeArg 1)))) ∧
  (∀ (s : State) (m peer : Nat) (v c : Nat),
    Quiet m s →
    peer < 256 →
    s.get Reg.FAB.TESTAT_BUSY = 0 →
    s.get Reg.FAB.CTRL_EN = 1 →
    s.takeEpochOk = true →
    v = s.takeArg 0 % 32 →
    (c = (if (Assoc.find s.fab.salvos v).all (fun x => x.armed.isSome) then 11 else if 8192 ≤ s.get Reg.FAB.SALV_TAKES ∨ (Assoc.find s.fab.salvos v).any (fun x => decide (1024 ≤ x.takes.length)) then 5 else 0)) →
    c ≠ 0 →
    ∃ t, exec (.add m peer) s = .next t ∧
      t.get Reg.FAB.TAKERES_CODE = c ∧
      t.fab = s.fab) ∧
  (∀ (s : State) (m peer : Nat) (v : Nat) (x : Salvo),
    Quiet m s →
    peer < 256 →
    s.get Reg.FAB.TESTAT_BUSY = 0 →
    s.get Reg.FAB.CTRL_EN = 1 →
    s.takeEpochOk = true →
    v = s.takeArg 0 % 32 →
    Assoc.find s.fab.salvos v = some x →
    x.armed = none →
    s.judgeSalvo v peer x = (0, 0) →
    ∃ t, exec (.arm m peer) s = .next t ∧
      t.get Reg.FAB.TESTAT_BUSY = 1 ∧
      t.get Reg.FAB.TAKERES_CODE = 0 ∧
      Assoc.find t.fab.salvos v = some { x with peer := peer, armed := some (s.takeInstant, s.timeNs) }) ∧
  (∀ (s : State) (m peer : Nat) (v : Nat) (x : Salvo) (q : Nat × Nat),
    Quiet m s →
    peer < 256 →
    s.get Reg.FAB.TESTAT_BUSY = 0 →
    s.get Reg.FAB.CTRL_EN = 1 →
    s.takeEpochOk = true →
    v = s.takeArg 0 % 32 →
    Assoc.find s.fab.salvos v = some x →
    x.armed = none →
    s.judgeSalvo v peer x = q →
    q.1 ≠ 0 →
    ∃ t, exec (.arm m peer) s = .next t ∧
      t.get Reg.FAB.TAKERES_CODE = q.1 % 32 ∧
      t.get Reg.FAB.TAKERES_INDEX = q.2 % 2048 ∧
      Assoc.find t.fab.salvos v = none) ∧
  (∀ (s : State) (m peer : Nat) (v : Nat),
    Quiet m s →
    peer < 256 →
    s.get Reg.FAB.TESTAT_BUSY = 0 →
    s.get Reg.FAB.CTRL_EN = 1 →
    s.takeEpochOk = true →
    v = s.takeArg 0 % 32 →
    (Assoc.find s.fab.salvos v).all (fun x => x.armed.isSome) = true →
    ∃ t, exec (.arm m peer) s = .next t ∧
      (t.get Reg.FAB.TAKERES_CODE = if (Assoc.find s.fab.salvos v).isSome then 0 else 11) ∧
      t.fab = s.fab) ∧
  (∀ (s : State) (m peer : Nat) (v : Nat) (x : Salvo),
    Quiet m s →
    peer < 256 →
    s.get Reg.FAB.TESTAT_BUSY = 0 →
    s.get Reg.FAB.CTRL_EN = 1 →
    s.takeEpochOk = true →
    v = s.takeArg 0 % 32 →
    Assoc.find s.fab.salvos v = some x →
    x.armed = none →
    x.takes = [] →
    ∃ t, exec (.arm m peer) s = .next t ∧
      t.get Reg.FAB.TESTAT_BUSY = 1 ∧
      t.get Reg.FAB.TAKERES_CODE = 17 ∧
      Assoc.find t.fab.salvos v = none) ∧
  (∀ (s : State) (m peer : Nat) (v : Nat) (x : Salvo) (a : Nat × Nat),
    Quiet m s →
    peer < 256 →
    s.get Reg.FAB.TESTAT_BUSY = 0 →
    s.get Reg.FAB.CTRL_EN = 1 →
    s.takeEpochOk = true →
    v = s.takeArg 0 % 32 →
    Assoc.find s.fab.salvos v = some x →
    x.armed = some a →
    x.committed = none →
    ∃ t, exec (.commit m peer) s = .next t ∧
      t.get Reg.FAB.TESTAT_BUSY = 1 ∧
      t.get Reg.FAB.TAKERES_CODE = 0 ∧
      (∃ y, Assoc.find t.fab.salvos v = some y ∧ y.committed = some (if a.1 = 0 then s.timeNs else a.1, s.timeNs) ∧ y.armed = x.armed ∧ y.takes.length = x.takes.length)) ∧
  (∀ (s : State) (m peer : Nat) (v : Nat),
    Quiet m s →
    peer < 256 →
    s.get Reg.FAB.TESTAT_BUSY = 0 →
    s.get Reg.FAB.CTRL_EN = 1 →
    s.takeEpochOk = true →
    v = s.takeArg 0 % 32 →
    (Assoc.find s.fab.salvos v).all (fun x => x.armed.isNone || x.committed.isSome) = true →
    ∃ t, exec (.commit m peer) s = .next t ∧
      (t.get Reg.FAB.TAKERES_CODE = if (Assoc.find s.fab.salvos v).any (fun x => x.armed.isSome) then 0 else 25) ∧
      t.fab = s.fab) ∧
  (∀ (s : State) (m peer : Nat) (v : Nat) (x : Salvo),
    Quiet m s →
    peer < 256 →
    s.get Reg.FAB.TESTAT_BUSY = 0 →
    s.get Reg.FAB.CTRL_EN = 1 →
    s.takeEpochOk = true →
    v = s.takeArg 0 % 32 →
    Assoc.find s.fab.salvos v = some x →
    x.committed = none →
    ∃ t, exec (.abort m peer) s = .next t ∧
      t.get Reg.FAB.TESTAT_BUSY = 1 ∧
      t.get Reg.FAB.TAKERES_CODE = 0 ∧
      Assoc.find t.fab.salvos v = none) ∧
  (∀ (s : State) (m peer : Nat) (v : Nat),
    Quiet m s →
    peer < 256 →
    s.get Reg.FAB.TESTAT_BUSY = 0 →
    s.get Reg.FAB.CTRL_EN = 1 →
    s.takeEpochOk = true →
    v = s.takeArg 0 % 32 →
    (Assoc.find s.fab.salvos v).all (fun x => x.committed.isSome) = true →
    ∃ t, exec (.abort m peer) s = .next t ∧
      t.get Reg.FAB.TAKERES_CODE = 25 ∧
      t.fab = s.fab) ∧
  (∀ (s : State) (m peer : Nat), Quiet m s → peer < 256 → s.get Reg.FAB.TESTAT_BUSY = 0 → s.get Reg.FAB.CTRL_EN = 0 ∨ s.takeEpochOk = false →
    ∀ c ∈ [Instr.openGid m peer, .add m peer, .arm m peer, .commit m peer, .abort m peer],
      ∃ t, exec c s = .next t ∧ t.get Reg.FAB.TESTAT_BUSY = 1 ∧ t.get Reg.FAB.TAKERES_CODE = (if s.get Reg.FAB.CTRL_EN = 0 then 16 else 3) ∧ t.fab.salvos = s.fab.salvos) ∧
  (∀ (s : State) (v : Nat) (x : Salvo),
    Assoc.find s.fab.salvos v = some x →
    x.armed = none →
    x.opened + 1000000000 ≤ s.now →
    ∃ t, exec (.salvoOpenExpire v) s = .next t ∧
      Assoc.find t.fab.salvos v = none ∧
      Raised 996 t ∧
      RegsKept [.fab, .flt] s t) ∧
  (∀ (s : State) (v : Nat) (x : Salvo) (a : Nat × Nat),
    Assoc.find s.fab.salvos v = some x →
    x.armed = some a →
    x.committed = none →
    (if a.1 = 0 then a.2 else a.1) + 1000000000 ≤ s.timeNs →
    ∃ t, exec (.salvoExpired v) s = .next t ∧
      Assoc.find t.fab.salvos v = none ∧
      Raised 996 t ∧
      RegsKept [.fab, .chn, .flt] s t) ∧
  (∀ (s : State) (v : Nat),
    (Assoc.find s.fab.salvos v).all (fun x => x.armed.isSome || decide (s.now < x.opened + 1000000000)) = true →
    ∃ t, exec (.salvoOpenExpire v) s = .next t ∧
      t = s) ∧
  (∀ (s : State) (v : Nat),
    (Assoc.find s.fab.salvos v).all (fun x => x.committed.isSome || x.armed.all (fun a => decide (s.timeNs < (if a.1 = 0 then a.2 else a.1) + 1000000000))) = true →
    ∃ t, exec (.salvoExpired v) s = .next t ∧
      t = s) ∧
  (∀ (s : State) (m : Nat) (data : Word) (c : Completion) (rest : List Completion),
    Quiet m s →
    bit data.toNat 0 = true →
    s.fab.tcq = c :: rest →
    rest.length < 256 →
    ∃ t, exec (.tcqpop m data) s = .next t ∧
      t.fab.tcq = rest ∧
      t.get Reg.FAB.TCQSTAT_COUNT = rest.length ∧
      (∀ x ys, rest = x :: ys → t.get Reg.FAB.TCQ0 = x.out % 2 ^ 32 ∧ t.get Reg.FAB.TCQ3 = x.tsw % 2 ^ 32)) ∧
  (∀ (s : State) (m : Nat) (data : Word),
    Quiet m s →
    bit data.toNat 0 = false ∨ s.fab.tcq = [] →
    ∃ t, exec (.tcqpop m data) s = .next t ∧
      t.fab.tcq = s.fab.tcq ∧
      t.get Reg.FAB.TAKECNT = s.get Reg.FAB.TAKECNT)

/-- Egress checks, digests, safe content and fault injection; the slot store. EGRESS_CHECK of a frame that fails: the output
enters FAIL, with the cause and one count. One that passes only becomes the baseline of the next. An entry that is not
checked, or was in this frame, is left, and with PROV off so are all. A frame without a token fails with cause 1.
DIGEST_VERDICT: a timed frame whose picture does not give its digest fails with cause 6. A frame that passes shows its
output verified. A poisoned one fails with cause 5. An untimed one has no digest to compare, and shows so. An entry that is
not checked is left. SAFE_CONTENT_SWITCH: the lane changes to the content that a verdict at least 100 µs old calls for; a
younger one waits. without one the lane shows what its output calls for. OUTCLR begins the recovery of a failed output. Of
one not failed, or under an imposed safe state, it is ignored. An unlocked CHKINV_WRITE arms the inversion of one or two
check bits of a memory. An unlocked TOKINJ_WRITE arms an injection for WHAT 1 to 3. Locked, either write changes nothing; a
memory above 11 is none. CHKINV_DONE: the next write of the memory stores inverted bits, the arm clears and the address
shows. Unarmed it is nothing. EGRESS_READ_POINT takes the newest frame of the source, single-bit errors of the store
corrected, timed where it is in window and of one plane, and the checks begin anew. Every cell that an untimed reader drops
or repeats to hold the lag counts as a slip; what the picture becomes is free. An uncorrectable word poisons the frame. An
entry not in use reads nothing. An output without a source formats idle content. INGRESS_CELL_WRITE with room stores a cell,
which an inversion armed for the store strikes. A cell that would overwrite unread ones poisons the frame. FS_DRAM_LATE
counts a missed line. NO_FRAME_TIMEOUT: an entry without a frame goes to NOSIG. Rests on parts of R160, R161, R162, R164,
R169, R170, R175, R176, R65, R66, R70, R71, R78, R128. (06_path_integrity.md, 03_slot_grid.md, 05_takes_salvos.md) -/
def Obligations.PathIntegrity : Prop :=
  (∀ (s : State) (e c : Nat) (x : Egress),
    e < 8192 →
    Assoc.find s.fab.egr e = some x →
    s.isChecked e = true →
    s.provEn = true →
    x.checked = false →
    x.failed = none →
    s.tokenVerdict e = c →
    c ≠ 0 →
    ∃ t, exec (.egressCheck e) s = .next t ∧
      t.get (Reg.PROV.OUT_CAUSE e) = c % 16 ∧
      t.get (Reg.PROV.OUT_STATE e) = 2 ∧
      t.get (Reg.PROV.OUT_FAILCNT e) = (s.get (Reg.PROV.OUT_FAILCNT e) + 1) % 65536 ∧
      (t.egr e).checked = true ∧
      (t.egr e).failed = some c) ∧
  (∀ (s : State) (e : Nat) (x : Egress),
    e < 8192 →
    Assoc.find s.fab.egr e = some x →
    s.isChecked e = true →
    s.provEn = true →
    x.checked = false →
    s.tokenVerdict e = 0 →
    s.prov.inverted = [] →
    ∃ t, exec (.egressCheck e) s = .next t ∧
      t.egr e = { x with checked := true, base := State.nextBase x } ∧
      t = { s with fab := t.fab }) ∧
  (∀ (s : State) (e : Nat),
    s.isChecked e = false ∨ s.provEn = false ∨ (s.egr e).checked = true →
    ∃ t, exec (.egressCheck e) s = .next t ∧
      t = s) ∧
  (∀ (s : State) (e : Nat) (x : Egress) (f : Frame),
    Assoc.find s.fab.egr e = some x →
    x.cur = some f →
    f.token = none →
    ∃ t, exec (.egressCheck e) s = .next t ∧
      s.tokenVerdict e = 1) ∧
  (∀ (s : State) (e : Nat) (got : Option Nat) (x : Egress) (f : Frame) (k : Token),
    e < 8192 →
    Assoc.find s.fab.egr e = some x →
    s.isChecked e = true →
    s.provEn = true →
    x.checked = true →
    x.failed = none →
    x.timed = true →
    x.cur = some f →
    f.poisoned = false →
    f.token = some k →
    k.digest ≠ got.getD (digest f.picture) →
    ∃ t, exec (.digestVerdict e got) s = .next t ∧
      t.get (Reg.PROV.OUT_CAUSE e) = 6 ∧
      t.get (Reg.PROV.OUT_STATE e) = 2 ∧
      (t.egr e).failed = some 6) ∧
  (∀ (s : State) (e : Nat) (got : Option Nat) (x : Egress) (f : Frame) (k : Token),
    e < 8192 →
    Assoc.find s.fab.egr e = some x →
    s.isChecked e = true →
    s.provEn = true →
    x.checked = true →
    x.failed = none →
    x.timed = true →
    x.cur = some f →
    f.poisoned = false →
    f.tstate ≠ 1 →
    f.token = some k →
    k.digest = got.getD (digest f.picture) →
    s.get (Reg.PROV.OUT_STATE e) ≠ 2 →
    s.get (Reg.PROV.OUT_STATE e) ≠ 3 →
    ∃ t, exec (.digestVerdict e got) s = .next t ∧
      t.get (Reg.PROV.OUT_STATE e) = 1 ∧
      t.get (Reg.PROV.OUT_FAILCNT e) = s.get (Reg.PROV.OUT_FAILCNT e) ∧
      RegsKept [.prov] s t) ∧
  (∀ (s : State) (e : Nat) (got : Option Nat) (x : Egress) (f : Frame),
    e < 8192 →
    Assoc.find s.fab.egr e = some x →
    s.isChecked e = true →
    s.provEn = true →
    x.checked = true →
    x.failed = none →
    x.cur = some f →
    f.poisoned = true →
    ∃ t, exec (.digestVerdict e got) s = .next t ∧
      t.get (Reg.PROV.OUT_CAUSE e) = 5 ∧
      (t.egr e).failed = some 5) ∧
  (∀ (s : State) (e : Nat) (got : Option Nat) (x : Egress) (f : Frame),
    e < 8192 →
    Assoc.find s.fab.egr e = some x →
    s.isChecked e = true →
    s.provEn = true →
    x.checked = true →
    x.failed = none →
    x.timed = false →
    x.cur = some f →
    f.poisoned = false →
    s.outFailed e = false →
    ∃ t, exec (.digestVerdict e got) s = .next t ∧
      (t.get (Reg.PROV.OUT_STATE e) = if f.tstate = 1 then 5 else 4) ∧
      t.get (Reg.PROV.OUT_FAILCNT e) = s.get (Reg.PROV.OUT_FAILCNT e)) ∧
  (∀ (s : State) (e : Nat) (got : Option Nat),
    s.isChecked e = false ∨ s.provEn = false →
    ∃ t, exec (.digestVerdict e got) s = .next t ∧
      t = s) ∧
  (∀ (s : State) (e v : Nat) (x : Egress),
    Assoc.find s.fab.egr e = some x →
    x.verdict = some v →
    v + 100000 ≤ s.now →
    ∃ t, exec (.safeContentSwitch e) s = .next t ∧
      t.egr e = { x with lane := s.laneTarget e, verdict := none } ∧
      t = { s with fab := t.fab }) ∧
  (∀ (s : State) (e v : Nat) (x : Egress),
    Assoc.find s.fab.egr e = some x →
    x.verdict = some v →
    s.now < v + 100000 →
    ∃ t, exec (.safeContentSwitch e) s = .next t ∧
      t = s) ∧
  (∀ (s : State) (e : Nat) (x : Egress),
    Assoc.find s.fab.egr e = some x →
    x.verdict = none →
    ∃ t, exec (.safeContentSwitch e) s = .next t ∧
      t.egr e = { x with lane := s.laneTarget e } ∧
      t = { s with fab := t.fab }) ∧
  (∀ (s : State) (m e : Nat) (data : Word) (x : Egress),
    Quiet m s →
    data.toNat = 2 ^ 31 + e →
    e < 8192 →
    s.outFailed e = true →
    s.get Reg.FLT.SAFESTAT = 0 →
    Assoc.find s.fab.egr e = some x →
    ∃ t, exec (.outclr m data) s = .next t ∧
      (t.egr e).counting = true ∧
      RegsKept [.prov] s t) ∧
  (∀ (s : State) (m : Nat) (data : Word),
    Quiet m s →
    bit data.toNat 31 = false ∨ s.outFailed (data.toNat % 8192) = false ∨ s.get Reg.FLT.SAFESTAT = 1 →
    ∃ t, exec (.outclr m data) s = .next t ∧
      t.fab = s.fab ∧
      RegsKept [.prov] s t) ∧
  (∀ (s : State) (m : Nat) (data : Word),
    Quiet m s →
    s.armed m = true →
    data.toNat % 16 < 12 →
    ∃ t, exec (.chkinvWrite m data) s = .next t ∧
      t.get Reg.PROV.CHKINV_MEM = data.toNat % 16 ∧
      t.get Reg.PROV.CHKINV_BITS = bits data.toNat 9 8 ∧
      (t.get Reg.PROV.CHKINV_ARM = if bit data.toNat 31 ∧ (bits data.toNat 9 8 = 1 ∨ bits data.toNat 9 8 = 2) then 1 else 0) ∧
      RegsKept [.prov] s t) ∧
  (∀ (s : State) (m : Nat) (data : Word),
    Quiet m s →
    s.armed m = true →
    ∃ t, exec (.tokinjWrite m data) s = .next t ∧
      t.get Reg.PROV.TOKINJ_WHAT = bits data.toNat 30 28 ∧
      t.get Reg.PROV.TOKINJ_ENTRY = data.toNat % 8192 ∧
      (t.get Reg.PROV.TOKINJ_ARM = if bit data.toNat 31 ∧ 1 ≤ bits data.toNat 30 28 ∧ bits data.toNat 30 28 ≤ 3 then 1 else 0) ∧
      RegsKept [.prov] s t) ∧
  (∀ (s : State) (m : Nat) (data : Word), Quiet m s → s.armed m = false →
    ∀ c ∈ [Instr.chkinvWrite m data, .tokinjWrite m data], ∃ t, exec c s = .next t ∧ t.rd Reg.PROV.CHKINV_ARM.addr = s.rd Reg.PROV.CHKINV_ARM.addr ∧ t.rd Reg.PROV.TOKINJ_ARM.addr = s.rd Reg.PROV.TOKINJ_ARM.addr) ∧
  (∀ (s : State) (m : Nat) (data : Word),
    Quiet m s →
    s.armed m = true →
    12 ≤ data.toNat % 16 →
    ∃ t, exec (.chkinvWrite m data) s = .next t ∧
      t.rd Reg.PROV.CHKINV_ARM.addr = s.rd Reg.PROV.CHKINV_ARM.addr ∧
      RegsKept [.prov] s t) ∧
  (∀ (s : State) (a : Nat),
    s.get Reg.PROV.CHKINV_ARM = 1 →
    ∃ t, exec (.chkinvDone a) s = .next t ∧
      t.prov.inverted = s.prov.inverted ++ [(s.get Reg.PROV.CHKINV_MEM, a, s.get Reg.PROV.CHKINV_BITS)] ∧
      t.get Reg.PROV.CHKINV_ARM = 0 ∧
      t.get Reg.PROV.CHKINVSTAT_DONE = 1 ∧
      t.get Reg.PROV.CHKINVSTAT_ADDR = a % 2 ^ 24 ∧
      Raised 20 t ∧
      RegsKept [.prov, .flt] s t) ∧
  (∀ (s : State) (a : Nat),
    s.get Reg.PROV.CHKINV_ARM = 0 →
    ∃ t, exec (.chkinvDone a) s = .next t ∧
      t = s) ∧
  (∀ (s : State) (e i n : Nat) (fl : List Nat) (x : Egress) (f : Frame),
    e < 8192 →
    s.isChecked e = true →
    Assoc.find s.fab.egr e = some x →
    s.get (Reg.FAB.ESE_SRC_SRCVALID e) = 1 →
    i = s.get (Reg.FAB.ESE_SRC_ENTRY e) →
    s.prov.inverted = [] →
    (s.ing i).left = none →
    s.frameAt i = some f →
    (fl.all (fun k => decide (k ≤ 1)) = true) →
    n = 0 ∨ ((s.ing i).inWin = true ∧ s.get (Reg.FAB.ISE_CFG_PLANE i) = s.get (Reg.FAB.ESE_CFG_PLANE e)) →
    ∃ t, exec (.egressReadPoint e fl n) s = .next t ∧
      (t.egr e).cur = some f ∧
      (t.egr e).checked = false ∧
      (t.egr e).failed = none ∧
      t.get (Reg.FAB.ESE_SRC_UNTIMED e) = b2n (!(t.egr e).timed) ∧
      (t.egr e).timed = ((s.ing i).inWin && s.get (Reg.FAB.ISE_CFG_PLANE i) == s.get (Reg.FAB.ESE_CFG_PLANE e)) ∧
      RegsKept [.fab, .prov, .flt] s t) ∧
  (∀ (s : State) (e i n : Nat) (x : Egress) (f : Frame),
    e < 8192 →
    s.isChecked e = true →
    Assoc.find s.fab.egr e = some x →
    s.get (Reg.FAB.ESE_SRC_SRCVALID e) = 1 →
    i = s.get (Reg.FAB.ESE_SRC_ENTRY e) →
    s.prov.inverted = [] →
    (s.ing i).left = none →
    s.frameAt i = some f →
    (s.ing i).inWin = false →
    n ≠ 0 →
    ∃ t, exec (.egressReadPoint e [] n) s = .next t ∧
      (t.egr e).cur = some { f with picture := Config.slipped f.fmt f.picture n } ∧
      (t.egr e).timed = false ∧
      t.get (Reg.FAB.ESE_SRC_UNTIMED e) = 1 ∧
      t.get (Reg.FAB.ESE_SLIPCNT e) = (s.get (Reg.FAB.ESE_SLIPCNT e) + n) % 65536) ∧
  (∀ (s : State) (e i k : Nat) (x : Egress) (f : Frame),
    e < 8192 →
    i < 8192 →
    s.isChecked e = true →
    Assoc.find s.fab.egr e = some x →
    s.get (Reg.FAB.ESE_SRC_SRCVALID e) = 1 →
    i = s.get (Reg.FAB.ESE_SRC_ENTRY e) →
    s.prov.inverted = [] →
    (s.ing i).left = none →
    s.frameAt i = some f →
    2 ≤ k →
    f.poisoned = false →
    (Assoc.find s.fab.ing i).isSome = true →
    ∃ t, exec (.egressReadPoint e [k] 0) s = .next t ∧
      (t.egr e).cur = some { f with poisoned := true } ∧
      t.get Reg.FAB.ECCCNT_UNCORR = (s.get Reg.FAB.ECCCNT_UNCORR + 1) % 65536) ∧
  (∀ (s : State) (e n : Nat) (fl : List Nat),
    s.get (Reg.FAB.ESE_CFG_VALID e) = 0 →
    ∃ t, exec (.egressReadPoint e fl n) s = .next t ∧
      t = s) ∧
  (∀ (s : State) (e n : Nat) (fl : List Nat) (x : Egress),
    s.isChecked e = true →
    Assoc.find s.fab.egr e = some x →
    s.get (Reg.FAB.ESE_SRC_SRCVALID e) = 0 →
    ∃ t, exec (.egressReadPoint e fl n) s = .next t ∧
      (t.egr e).cur = none ∧
      RegsKept [] s t) ∧
  (∀ (s : State) (e : Nat) (x : Ingress),
    s.get (Reg.FAB.ISE_CFG_VALID e) = 1 →
    Assoc.find s.fab.ing e = some x →
    (x.cells.filter fun a => decide (s.now < a + 15515)).length < (if x.whole ∨ s.get (Reg.FAB.ISE_CFG_SIZE e) = 0 then 96 else if s.get (Reg.FAB.ISE_CFG_SIZE e) = 1 then 24 else 12) →
    ∃ t, exec (.ingressCellWrite e) s = .next t ∧
      ((t.ing e).cells = (x.cells.filter fun a => decide (s.now < a + 15515)) ++ [s.now]) ∧
      (t.ing e).cur = x.cur ∧
      t = { s with fab := t.fab, prov := t.prov, regs := t.regs, flt := t.flt } ∧
      RegsKept [.prov, .flt] s t ∧
      (s.get Reg.PROV.CHKINV_ARM = 0 → WordsKept [] s t)) ∧
  (∀ (s : State) (e : Nat) (x : Ingress) (f : Frame),
    e < 8192 →
    s.get (Reg.FAB.ISE_CFG_VALID e) = 1 →
    Assoc.find s.fab.ing e = some x →
    (if x.whole ∨ s.get (Reg.FAB.ISE_CFG_SIZE e) = 0 then 96 else if s.get (Reg.FAB.ISE_CFG_SIZE e) = 1 then 24 else 12) ≤ (x.cells.filter fun a => decide (s.now < a + 15515)).length →
    x.cur = some f →
    f.poisoned = false →
    ∃ t, exec (.ingressCellWrite e) s = .next t ∧
      (t.ing e).cur = some { f with poisoned := true } ∧
      t.get Reg.FAB.POISONCNT = (s.get Reg.FAB.POISONCNT + 1) % 2 ^ 32 ∧
      bit (t.get Reg.FAB.EVSTAT) 11 = true ∧
      Raised 972 t) ∧
  (∀ (s : State) (u k : Nat),
    u < 96 →
    k < 4 →
    s.get (Reg.FAB.FS_SCFG_VALID u k) = 1 →
    ∃ t, exec (.fsDramLate u k) s = .next t ∧
      t.get (Reg.FAB.FS_LATE u k) = (s.get (Reg.FAB.FS_LATE u k) + 1) % 65536 ∧
      bit (t.get Reg.FAB.EVSTAT) 6 = true ∧
      Raised 967 t ∧
      RegsKept [.fab, .flt] s t) ∧
  (∀ (s : State) (e : Nat),
    e < 8192 →
    s.get (Reg.FAB.ISE_CFG_VALID e) = 1 →
    s.get (Reg.FAB.ISE_ALIGN_STATE e) ≠ 0 →
    s.fab.fs = [] →
    ∃ t, exec (.noFrameTimeout e) s = .next t ∧
      t.get (Reg.FAB.ISE_ALIGN_STATE e) = 0 ∧
      (t.ing e).cur = none ∧
      WordsKept [(Reg.FAB.ISE_ALIGN_STATE e).addr] s t)

/-- The voice map of the audio matrix, and the check of its blocks. Each of the five requests, made while the last is busy, sets
STAT.REQ_OVR, raises event 2 and is discarded. While AUD is disabled each answers DISABLED. Of a voice beyond the TSI or not
valid each answers BAD_PARAM; the cases below are of a valid voice. SOURCE of an input nobody owns answers BAD_PARAM. SOURCE
of an owned input answers code 0; the change waits for a block boundary. SOURCE without an input asks for silence. COUPLE of
a voice that has an output answers 0 and waits likewise. On a voice that has none it answers WRONG_KIND. A position above
511 answers BAD_PARAM. GAIN of an unmuted voice writes the gain and starts a ramp of RAMP samples to its amplitude. Of a
muted voice, or one on its way to silence for a released input, GAIN writes the gain and starts no ramp. Of a voice silenced
by a failure the ramp leads to silence. A gain out of range answers BAD_PARAM and changes no voice. MUTE ramps to silence
and keeps the gain. With bit 0 of its argument 0 it ramps back to the gain. On its way to silence for a released input a
voice takes the mute without a ramp. XFMODE chooses cut or crossfade. No boundary falls between two multiples of 64 samples.
A boundary of a matrix without voices numbers the block by its count of samples, and changes nothing else. nor whatever
blocks are named; at a boundary, whatever the voices and the blocks named, the block number and the count advance. A voice
whose block fails a check goes to FAIL and is counted. One whose block passes, or that has no source or a gain of minus
infinity, stays as it was. After 8 passes in a row a voice leaves FAIL. A SWITCH_INSTANT of what is no output changes
nothing; nor does one of an output with no latched take, whose source stands, and which no voice follows; with one of no
source the output has none, the take is executed, counted and completed. Rests on parts of R256, R257, R258, R126, R146,
R171, R172, R248, R260. (09_audio.md, 05_takes_salvos.md, 06_path_integrity.md) -/
def Obligations.VoiceMap : Prop :=
  (∀ (s : State) (m : Nat) (cmd : Instr), cmd ∈ ([.source m, .couple m, .gain m, .mute m, .xfmode m] : List Instr) →
    Quiet m s →
    s.get Reg.AUD.MAPRES_BUSY = 1 →
    ∃ t, exec cmd s = .next t ∧
      t.get Reg.AUD.STAT_REQ_OVR = 1 ∧
      bit (t.get Reg.AUD.EVSTAT) 2 = true ∧
      t.get Reg.AUD.MAPRES_BUSY = 1 ∧
      t.aud = s.aud ∧
      RegsKept [.aud, .twin, .flt] s t) ∧
  (∀ (s : State) (m : Nat) (cmd : Instr), cmd ∈ ([.source m, .couple m, .gain m, .mute m, .xfmode m] : List Instr) →
    Quiet m s →
    s.get Reg.AUD.MAPRES_BUSY = 0 →
    s.get Reg.AUD.CTRL_EN = 0 →
    ∃ t, exec cmd s = .next t ∧
      t.get Reg.AUD.MAPRES_CODE = 16 ∧
      t.aud = s.aud ∧
      (t.get Reg.AUD.MAPRES_DONE = 1 ∨ t.get Reg.AUD.MAPRES_BUSY = 1) ∧
      RegsKept [.aud, .twin, .flt] s t) ∧
  (∀ (s : State) (m : Nat) (cmd : Instr), cmd ∈ ([.source m, .couple m, .gain m, .mute m, .xfmode m] : List Instr) →
    Quiet m s →
    s.get Reg.AUD.MAPRES_BUSY = 0 →
    s.get Reg.AUD.CTRL_EN = 1 →
    s.tsiVoices ≤ s.mapVoice ∨ s.get (Reg.AUD.OV_VALID s.mapVoice) = 0 →
    ∃ t, exec cmd s = .next t ∧
      t.get Reg.AUD.MAPRES_CODE = 11 ∧
      t.aud = s.aud ∧
      RegsKept [.aud, .twin, .flt] s t) ∧
  (∀ (s : State) (m : Nat),
    Quiet m s →
    s.get Reg.AUD.MAPRES_BUSY = 0 →
    s.get Reg.AUD.CTRL_EN = 1 →
    s.mapVoice < s.tsiVoices →
    s.get (Reg.AUD.OV_VALID s.mapVoice) = 1 →
    bit (s.mapArg 1) 15 = true →
    s.inputOwned (bits (s.mapArg 1) 14 0) = false →
    ∃ t, exec (.source m) s = .next t ∧
      t.get Reg.AUD.MAPRES_CODE = 11 ∧
      t.aud = s.aud ∧
      RegsKept [.aud, .twin, .flt] s t) ∧
  (∀ (s : State) (m j v : Nat),
    Quiet m s →
    s.get Reg.AUD.MAPRES_BUSY = 0 →
    s.get Reg.AUD.CTRL_EN = 1 →
    j = s.mapVoice →
    j < s.tsiVoices →
    s.get (Reg.AUD.OV_VALID j) = 1 →
    bit (s.mapArg 1) 15 = true →
    v = bits (s.mapArg 1) 14 0 →
    s.inputOwned v = true →
    ∃ t, exec (.source m) s = .next t ∧
      t.get Reg.AUD.MAPRES_BUSY = 1 ∧
      t.get Reg.AUD.MAPRES_CODE = 0 ∧
      t.get Reg.AUD.MAPRES_OP = 1 ∧
      (t.outVoice j).change = some (.fixed (some v)) ∧
      (t.outVoice j).fades = (s.outVoice j).fades ∧
      t.get (Reg.AUD.OV_SRC j) = s.get (Reg.AUD.OV_SRC j) ∧
      RegsKept [.aud, .twin, .flt, .prov] s t) ∧
  (∀ (s : State) (m j : Nat),
    Quiet m s →
    s.get Reg.AUD.MAPRES_BUSY = 0 →
    s.get Reg.AUD.CTRL_EN = 1 →
    j = s.mapVoice →
    j < s.tsiVoices →
    s.get (Reg.AUD.OV_VALID j) = 1 →
    bit (s.mapArg 1) 15 = false →
    ∃ t, exec (.source m) s = .next t ∧
      t.get Reg.AUD.MAPRES_BUSY = 1 ∧
      t.get Reg.AUD.MAPRES_CODE = 0 ∧
      (t.outVoice j).change = some (.fixed none)) ∧
  (∀ (s : State) (m j p : Nat),
    Quiet m s →
    s.get Reg.AUD.MAPRES_BUSY = 0 →
    s.get Reg.AUD.CTRL_EN = 1 →
    j = s.mapVoice →
    j < s.tsiVoices →
    s.get (Reg.AUD.OV_VALID j) = 1 →
    p = s.mapArg 1 →
    p ≤ 511 →
    s.get (Reg.AUD.OV_COUPLE j) ≠ 0 →
    ∃ t, exec (.couple m) s = .next t ∧
      t.get Reg.AUD.MAPRES_BUSY = 1 ∧
      t.get Reg.AUD.MAPRES_CODE = 0 ∧
      t.get Reg.AUD.MAPRES_OP = 2 ∧
      (t.outVoice j).change = some (.couple p) ∧
      RegsKept [.aud, .twin, .flt, .prov] s t) ∧
  (∀ (s : State) (m j : Nat),
    Quiet m s →
    s.get Reg.AUD.MAPRES_BUSY = 0 →
    s.get Reg.AUD.CTRL_EN = 1 →
    j = s.mapVoice →
    j < s.tsiVoices →
    s.get (Reg.AUD.OV_VALID j) = 1 →
    s.mapArg 1 ≤ 511 →
    s.get (Reg.AUD.OV_COUPLE j) = 0 →
    ∃ t, exec (.couple m) s = .next t ∧
      t.get Reg.AUD.MAPRES_BUSY = 1 ∧
      t.get Reg.AUD.MAPRES_CODE = 4 ∧
      (t.outVoice j).change = (s.outVoice j).change ∧
      RegsKept [.aud, .twin, .flt, .prov] s t) ∧
  (∀ (s : State) (m j : Nat),
    Quiet m s →
    s.get Reg.AUD.MAPRES_BUSY = 0 →
    s.get Reg.AUD.CTRL_EN = 1 →
    j = s.mapVoice →
    j < s.tsiVoices →
    s.get (Reg.AUD.OV_VALID j) = 1 →
    511 < s.mapArg 1 →
    ∃ t, exec (.couple m) s = .next t ∧
      t.get Reg.AUD.MAPRES_CODE = 11 ∧
      t.aud = s.aud ∧
      RegsKept [.aud, .twin, .flt] s t) ∧
  (∀ (s : State) (m j : Nat) (g : Int),
    Quiet m s →
    s.get Reg.AUD.MAPRES_BUSY = 0 →
    s.get Reg.AUD.CTRL_EN = 1 →
    j = s.mapVoice →
    j < s.tsiVoices →
    s.get (Reg.AUD.OV_VALID j) = 1 →
    g = toSigned 16 (s.mapArg 2) →
    g = -32768 ∨ (-6144 ≤ g ∧ g ≤ 1536) →
    s.get (Reg.AUD.OV_MUTE j) = 0 →
    (s.outVoice j).silenced = false →
    (s.outVoice j).freed = false →
    ∃ t, exec (.gain m) s = .next t ∧
      t.get Reg.AUD.MAPRES_BUSY = 1 ∧
      t.get Reg.AUD.MAPRES_CODE = 0 ∧
      t.get (Reg.AUD.OV_GAIN j) = ofSigned 16 g ∧
      (t.outVoice j).ramps = ⟨State.ampAt (s.outVoice j) (s.sampleTick + 1), State.gainOf g, s.sampleTick + 1, s.rampLen⟩ :: (s.outVoice j).ramps ∧
      RegsKept [.aud, .twin, .flt, .prov] s t) ∧
  (∀ (s : State) (m j : Nat) (g : Int),
    Quiet m s →
    s.get Reg.AUD.MAPRES_BUSY = 0 →
    s.get Reg.AUD.CTRL_EN = 1 →
    j = s.mapVoice →
    j < s.tsiVoices →
    s.get (Reg.AUD.OV_VALID j) = 1 →
    g = toSigned 16 (s.mapArg 2) →
    g = -32768 ∨ (-6144 ≤ g ∧ g ≤ 1536) →
    s.get (Reg.AUD.OV_MUTE j) = 1 ∨ (s.outVoice j).freed = true →
    ∃ t, exec (.gain m) s = .next t ∧
      t.get Reg.AUD.MAPRES_BUSY = 1 ∧
      t.get Reg.AUD.MAPRES_CODE = 0 ∧
      t.get (Reg.AUD.OV_GAIN j) = ofSigned 16 g ∧
      t.aud = s.aud ∧
      RegsKept [.aud, .twin, .flt, .prov] s t) ∧
  (∀ (s : State) (m j : Nat) (g : Int),
    Quiet m s →
    s.get Reg.AUD.MAPRES_BUSY = 0 →
    s.get Reg.AUD.CTRL_EN = 1 →
    j = s.mapVoice →
    j < s.tsiVoices →
    s.get (Reg.AUD.OV_VALID j) = 1 →
    g = toSigned 16 (s.mapArg 2) →
    g = -32768 ∨ (-6144 ≤ g ∧ g ≤ 1536) →
    s.get (Reg.AUD.OV_MUTE j) = 0 →
    (s.outVoice j).silenced = true →
    (s.outVoice j).freed = false →
    ∃ t, exec (.gain m) s = .next t ∧
      t.get Reg.AUD.MAPRES_BUSY = 1 ∧
      t.get Reg.AUD.MAPRES_CODE = 0 ∧
      t.get (Reg.AUD.OV_GAIN j) = ofSigned 16 g ∧
      (t.outVoice j).ramps = ⟨State.ampAt (s.outVoice j) (s.sampleTick + 1), 0, s.sampleTick + 1, s.rampLen⟩ :: (s.outVoice j).ramps) ∧
  (∀ (s : State) (m j : Nat) (g : Int),
    Quiet m s →
    s.get Reg.AUD.MAPRES_BUSY = 0 →
    s.get Reg.AUD.CTRL_EN = 1 →
    j = s.mapVoice →
    j < s.tsiVoices →
    s.get (Reg.AUD.OV_VALID j) = 1 →
    g = toSigned 16 (s.mapArg 2) →
    g ≠ -32768 →
    g < -6144 ∨ 1536 < g →
    ∃ t, exec (.gain m) s = .next t ∧
      t.get Reg.AUD.MAPRES_BUSY = 1 ∧
      t.get Reg.AUD.MAPRES_CODE = 11 ∧
      t.get (Reg.AUD.OV_GAIN j) = s.get (Reg.AUD.OV_GAIN j) ∧
      t.aud = s.aud) ∧
  (∀ (s : State) (m j : Nat),
    Quiet m s →
    s.get Reg.AUD.MAPRES_BUSY = 0 →
    s.get Reg.AUD.CTRL_EN = 1 →
    j = s.mapVoice →
    j < s.tsiVoices →
    s.get (Reg.AUD.OV_VALID j) = 1 →
    bit (s.mapArg 2) 0 = true →
    (s.outVoice j).freed = false →
    ∃ t, exec (.mute m) s = .next t ∧
      t.get Reg.AUD.MAPRES_BUSY = 1 ∧
      t.get Reg.AUD.MAPRES_CODE = 0 ∧
      t.get (Reg.AUD.OV_MUTE j) = 1 ∧
      (t.outVoice j).ramps = ⟨State.ampAt (s.outVoice j) (s.sampleTick + 1), 0, s.sampleTick + 1, s.rampLen⟩ :: (s.outVoice j).ramps ∧
      t.get (Reg.AUD.OV_GAIN j) = s.get (Reg.AUD.OV_GAIN j) ∧
      RegsKept [.aud, .twin, .flt, .prov] s t) ∧
  (∀ (s : State) (m j : Nat),
    Quiet m s →
    s.get Reg.AUD.MAPRES_BUSY = 0 →
    s.get Reg.AUD.CTRL_EN = 1 →
    j = s.mapVoice →
    j < s.tsiVoices →
    s.get (Reg.AUD.OV_VALID j) = 1 →
    bit (s.mapArg 2) 0 = false →
    (s.outVoice j).freed = false →
    (s.outVoice j).silenced = false →
    ∃ t, exec (.mute m) s = .next t ∧
      t.get Reg.AUD.MAPRES_BUSY = 1 ∧
      t.get Reg.AUD.MAPRES_CODE = 0 ∧
      t.get (Reg.AUD.OV_MUTE j) = 0 ∧
      (t.outVoice j).ramps = ⟨State.ampAt (s.outVoice j) (s.sampleTick + 1), State.gainOf (toSigned 16 (s.get (Reg.AUD.OV_GAIN j))), s.sampleTick + 1, s.rampLen⟩ :: (s.outVoice j).ramps) ∧
  (∀ (s : State) (m j : Nat),
    Quiet m s →
    s.get Reg.AUD.MAPRES_BUSY = 0 →
    s.get Reg.AUD.CTRL_EN = 1 →
    j = s.mapVoice →
    j < s.tsiVoices →
    s.get (Reg.AUD.OV_VALID j) = 1 →
    (s.outVoice j).freed = true →
    ∃ t, exec (.mute m) s = .next t ∧
      t.get Reg.AUD.MAPRES_BUSY = 1 ∧
      t.get Reg.AUD.MAPRES_CODE = 0 ∧
      t.get (Reg.AUD.OV_MUTE j) = b2n (bit (s.mapArg 2) 0) ∧
      t.aud = s.aud ∧
      RegsKept [.aud, .twin, .flt, .prov] s t) ∧
  (∀ (s : State) (m j : Nat),
    Quiet m s →
    s.get Reg.AUD.MAPRES_BUSY = 0 →
    s.get Reg.AUD.CTRL_EN = 1 →
    j = s.mapVoice →
    j < s.tsiVoices →
    s.get (Reg.AUD.OV_VALID j) = 1 →
    ∃ t, exec (.xfmode m) s = .next t ∧
      t.get Reg.AUD.MAPRES_BUSY = 1 ∧
      t.get Reg.AUD.MAPRES_CODE = 0 ∧
      t.get (Reg.AUD.OV_XFCUT j) = b2n (bit (s.mapArg 2) 0) ∧
      t.aud = s.aud ∧
      RegsKept [.aud, .twin, .flt, .prov] s t) ∧
  (∀ (s : State),
    s.boundaryDue = false →
    ∃ t, exec (.audioBlockBoundary []) s = .next t ∧
      t = s) ∧
  (∀ (s : State),
    s.boundaryDue = true →
    (∀ n ∈ List.range 8, s.get (Reg.APRT.STAT_STATE n) ≠ 3) →
    s.voicesInUse = [] →
    s.aud.ins = [] →
    ∃ t, exec (.audioBlockBoundary []) s = .next t ∧
      t.aud = { s.aud with block := s.sampleTick / 64, count := s.aud.count + 1 } ∧
      t = { s with aud := t.aud }) ∧
  (∀ (s : State) (l : List VoiceBlock),
    s.boundaryDue = false →
    ∃ t, exec (.audioBlockBoundary l) s = .next t ∧
      t = s) ∧
  (∀ (s : State) (l : List VoiceBlock),
    s.boundaryDue = true →
    ∃ t, exec (.audioBlockBoundary l) s = .next t ∧
      t.aud.block = s.sampleTick / 64 ∧
      t.aud.count = s.aud.count + 1) ∧
  (∀ (s : State) (b : VoiceBlock) (j : Nat),
    s.boundaryDue = true →
    (∀ n ∈ List.range 8, s.get (Reg.APRT.STAT_STATE n) ≠ 3) →
    j = b.out →
    j < 32768 →
    s.voiceChecked j = true →
    s.blockFails b = true →
    s.get (Reg.AUD.OV_STATE j) ≠ 4 →
    s.voicesInUse = [] →
    s.aud.ins = [] →
    ∃ t, exec (.audioBlockBoundary [b]) s = .next t ∧
      t.get (Reg.AUD.OV_STATE j) = 4 ∧
      t.get (Reg.AUD.OV_FAILCNT j) = (s.get (Reg.AUD.OV_FAILCNT j) + 1) % 65536 ∧
      t.get Reg.AUD.FAILVOICES = (s.get Reg.AUD.FAILVOICES + 1) % 65536 ∧
      Raised 1272 t) ∧
  (∀ (s : State) (b : VoiceBlock) (j : Nat),
    s.boundaryDue = true →
    (∀ n ∈ List.range 8, s.get (Reg.APRT.STAT_STATE n) ≠ 3) →
    j = b.out →
    j < 32768 →
    s.voiceChecked j = false ∨ (s.blockFails b = false ∧ s.get (Reg.AUD.OV_STATE j) ≠ 4) →
    s.voicesInUse = [] →
    s.aud.ins = [] →
    ∃ t, exec (.audioBlockBoundary [b]) s = .next t ∧
      t.get (Reg.AUD.OV_STATE j) = s.get (Reg.AUD.OV_STATE j) ∧
      t.get (Reg.AUD.OV_FAILCNT j) = s.get (Reg.AUD.OV_FAILCNT j) ∧
      t.get Reg.AUD.FAILVOICES = s.get Reg.AUD.FAILVOICES ∧
      t.flt = s.flt) ∧
  (∀ (s : State) (b : VoiceBlock) (j : Nat),
    s.boundaryDue = true →
    (∀ n ∈ List.range 8, s.get (Reg.APRT.STAT_STATE n) ≠ 3) →
    j = b.out →
    j < 32768 →
    s.voiceChecked j = true →
    s.blockFails b = false →
    s.get (Reg.AUD.OV_STATE j) = 4 →
    7 ≤ (s.outVoice j).passes →
    0 < s.get Reg.AUD.FAILVOICES →
    s.voicesInUse = [j] →
    s.aud.ins = [] →
    ∃ t, exec (.audioBlockBoundary [b]) s = .next t ∧
      t.get (Reg.AUD.OV_STATE j) ≠ 4 ∧
      t.get Reg.AUD.FAILVOICES + 1 = s.get Reg.AUD.FAILVOICES ∧
      t.get (Reg.AUD.OV_FAILCNT j) = s.get (Reg.AUD.OV_FAILCNT j) ∧
      (t.outVoice j).silenced = false) ∧
  (∀ (s : State) (out : Nat),
    s.chanEgr out = none →
    ∃ t, exec (.switchInstant out) s = .next t ∧
      t = s) ∧
  (∀ (s : State) (out e : Nat),
    s.chanEgr out = some e →
    s.outTakes out = ⟨none, none⟩ →
    (s.egr e).srcGone = false →
    s.audioFollowers out = [] →
    ∃ t, exec (.switchInstant out) s = .next t ∧
      t = s) ∧
  (∀ (s : State) (i e : Nat) (u : TakeRec),
    i < 16384 →
    s.chanEgr i = some e →
    s.outTakes i = ⟨none, some u⟩ →
    u.src = 0 →
    u.ref = 0 →
    bit u.flags 6 = false →
    s.fab.tcq = [] →
    s.get Reg.PROV.CHKINV_ARM = 0 →
    s.get Reg.AUD.STAT_RUN = 0 →
    ∃ t, exec (.switchInstant i) s = .next t ∧
      t.outTakes i = ⟨none, none⟩ ∧
      t.get (Reg.FAB.RT_CUR i) = 0 ∧
      t.get (Reg.FAB.RT_LATV i) = 0 ∧
      t.get (Reg.FAB.RT_EXECNT i) = (s.get (Reg.FAB.RT_EXECNT i) + 1) % 2 ^ (Reg.FAB.RT_EXECNT i).width ∧
      ((t.fab.tcq.map fun c => (c.out, c.code, c.peer)) = [(s.get (Reg.CHN.ENT_HANDLE i), 0, u.peer)]))

/-- Serial audio ports: frames, lost clocks and relock. An APRT_FRAME on a running slave port whose bit clock exceeds 98,304,000
Hz stops the machine: the spec gives the port no behaviour there. A port that does not run takes no frame. The first frame
after NO_CLOCK or lost clock enters MEASURE and stamps its time. A frame with a wrong count of bit clocks is counted and the
last frame repeated. In MEASURE a sound frame is counted and gives the TSI nothing; the port sends the frame it has. One
with a wrong count is counted there too, and nothing repeated. Every 64th frame is stamped with the time and its block
count. With a stamp 1,024 frames back RATE is the rate in mHz, its rounding open, and its class follows. In RUN a sound
frame of a MASTER port is taken at once; of a SLAVE_ASRC port it is what the converters read. A frame of a SLAVE_SYNC port
whose input FIFO holds 6 is dropped and counted; where the output FIFO would fall to 1 a frame is sent twice, and counted. A
sound frame of a SLAVE_SYNC port goes to the end of its input FIFO, and one leaves its output FIFO; nothing slips. CLKLOST,
4 frame periods after the last FS edge, takes a slave port out of RUN, counts, and discards the frames in its FIFO. A master
port, one not in RUN or one before its time has no clock to lose. ASRC_RELOCK_DONE of a port that is no SLAVE_ASRC port in
RUN changes nothing; of one it shows the converters locked, and their fade back in begins. Rests on parts of R261, R262,
R266, R267, R268, R269. (09_audio.md) -/
def Obligations.AudioPorts : Prop :=
  (∀ (s : State) (n bclks hz : Nat) (slots : List Nat), s.get (Reg.APRT.STAT_STATE n) ≠ 0 → s.aprtMode n ≠ 0 → 98304000 < hz →
    exec (.aprtFrame n bclks hz slots) s = .fault .aprtClockTooFast) ∧
  (∀ (s : State) (n bclks hz : Nat) (slots : List Nat),
    s.get (Reg.APRT.STAT_STATE n) = 0 ∨ (8 ≤ n ∧ (s.aprtMode n = 0 ∨ hz ≤ 98304000)) →
    ∃ t, exec (.aprtFrame n bclks hz slots) s = .next t ∧
      t = s) ∧
  (∀ (s : State) (n bclks hz : Nat) (slots : List Nat),
    n < 8 →
    hz ≤ 98304000 →
    s.get (Reg.APRT.STAT_STATE n) = 1 ∨ s.get (Reg.APRT.STAT_STATE n) = 4 →
    ∃ t, exec (.aprtFrame n bclks hz slots) s = .next t ∧
      t.get (Reg.APRT.STAT_STATE n) = 2 ∧
      (t.aprt n).frames = 1 ∧
      (t.aprt n).stamps = [s.timeNs] ∧
      t.get64 (Reg.APRT.BTSLO n) (Reg.APRT.BTSHI n) = s.timeNs % 2 ^ 64 ∧
      t.get (Reg.APRT.BTSCNT n) = 0 ∧
      RegsKept [.aprt] s t) ∧
  (∀ (s : State) (n bclks hz : Nat) (slots : List Nat),
    n < 8 →
    s.aprtMode n = 0 →
    s.get (Reg.APRT.STAT_STATE n) = 3 →
    bclks ≠ s.aprtSlots n * s.aprtWidth n →
    (s.aprt n).frames % 64 ≠ 0 →
    ∃ t, exec (.aprtFrame n bclks hz slots) s = .next t ∧
      t.get (Reg.APRT.CNT_FRMERR n) = (s.get (Reg.APRT.CNT_FRMERR n) + 1) % 2 ^ (Reg.APRT.CNT_FRMERR n).width ∧
      t.get (Reg.APRT.SLIPCNT_REPEATS n) = (s.get (Reg.APRT.SLIPCNT_REPEATS n) + 1) % 2 ^ (Reg.APRT.SLIPCNT_REPEATS n).width ∧
      (t.aprt n).frames = (s.aprt n).frames + 1 ∧
      RegsKept [.aprt, .flt] s t) ∧
  (∀ (s : State) (n bclks hz : Nat) (slots : List Nat),
    n < 8 →
    s.aprtMode n = 0 ∨ hz ≤ 98304000 →
    s.get (Reg.APRT.STAT_STATE n) = 2 →
    (s.aprt n).frames % 64 ≠ 0 →
    bclks = s.aprtSlots n * s.aprtWidth n →
    ∃ t, exec (.aprtFrame n bclks hz slots) s = .next t ∧
      (t.aprt n).frames = (s.aprt n).frames + 1 ∧
      (t.aprt n).edge = s.now ∧
      t.out = .tdm n (s.aprtOut n) :: s.out ∧
      t.regs = s.regs) ∧
  (∀ (s : State) (n bclks hz : Nat) (slots : List Nat),
    n < 8 →
    s.aprtMode n = 0 ∨ hz ≤ 98304000 →
    s.get (Reg.APRT.STAT_STATE n) = 2 →
    (s.aprt n).frames % 64 ≠ 0 →
    bclks ≠ s.aprtSlots n * s.aprtWidth n →
    ∃ t, exec (.aprtFrame n bclks hz slots) s = .next t ∧
      t.get (Reg.APRT.CNT_FRMERR n) = (s.get (Reg.APRT.CNT_FRMERR n) + 1) % 2 ^ (Reg.APRT.CNT_FRMERR n).width ∧
      t.get (Reg.APRT.SLIPCNT_REPEATS n) = s.get (Reg.APRT.SLIPCNT_REPEATS n) ∧
      t.out = .tdm n (s.aprtOut n) :: s.out ∧
      RegsKept [.aprt, .flt] s t) ∧
  (∀ (s : State) (n bclks hz : Nat) (slots : List Nat),
    n < 8 →
    s.aprtMode n = 0 ∨ hz ≤ 98304000 →
    s.get (Reg.APRT.STAT_STATE n) = 2 ∨ s.get (Reg.APRT.STAT_STATE n) = 3 →
    (s.aprt n).frames % 64 = 0 →
    (s.aprt n).stamps.length < 16 →
    ∃ t, exec (.aprtFrame n bclks hz slots) s = .next t ∧
      (t.aprt n).stamps = s.timeNs :: (s.aprt n).stamps ∧
      t.get64 (Reg.APRT.BTSLO n) (Reg.APRT.BTSHI n) = s.timeNs % 2 ^ 64 ∧
      t.get (Reg.APRT.BTSCNT n) = (s.aprt n).frames / 64 % 2 ^ (Reg.APRT.BTSCNT n).width ∧
      t.get (Reg.APRT.RATE n) = s.get (Reg.APRT.RATE n)) ∧
  (∀ (s : State) (n bclks hz : Nat) (slots : List Nat) (t0 r : Nat),
    n < 8 →
    s.aprtMode n = 0 ∨ hz ≤ 98304000 →
    s.get (Reg.APRT.STAT_STATE n) = 2 ∨ s.get (Reg.APRT.STAT_STATE n) = 3 →
    (s.aprt n).frames % 64 = 0 →
    (s.aprt n).stamps[15]? = some t0 →
    t0 < s.timeNs →
    r = (divFree 270 (1024 * 10 ^ 12) ((s.timeNs - t0 : Nat) : Int)).toNat →
    ∃ t, exec (.aprtFrame n bclks hz slots) s = .next t ∧
      t.get (Reg.APRT.RATE n) = r % 2 ^ 32 ∧
      t.get (Reg.APRT.RATEINFO_CLASS n) = State.rateClass r % 2 ^ (Reg.APRT.RATEINFO_CLASS n).width) ∧
  (∀ (s : State) (n bclks hz : Nat) (slots : List Nat),
    n < 8 →
    s.get (Reg.APRT.STAT_STATE n) = 3 →
    bclks = s.aprtSlots n * s.aprtWidth n →
    (s.aprt n).frames % 64 ≠ 0 →
    s.sampleTick ≤ (s.aprt n).lastTick →
    s.aprtMode n = 0 →
    ∃ t, exec (.aprtFrame n bclks hz slots) s = .next t ∧
      (t.aprt n).lastFrame = slots ∧
      (t.aprt n).fifoIn = (s.aprt n).fifoIn ∧
      (t.aprt n).edge = s.now ∧
      t.out = .tdm n (s.aprtOut n) :: s.out ∧
      t.regs = s.regs) ∧
  (∀ (s : State) (n bclks hz : Nat) (slots : List Nat),
    n < 8 →
    hz ≤ 98304000 →
    s.get (Reg.APRT.STAT_STATE n) = 3 →
    bclks = s.aprtSlots n * s.aprtWidth n →
    (s.aprt n).frames % 64 ≠ 0 →
    s.sampleTick ≤ (s.aprt n).lastTick →
    s.aprtMode n = 2 →
    ∃ t, exec (.aprtFrame n bclks hz slots) s = .next t ∧
      (t.aprt n).lastFrame = slots ∧
      (t.aprt n).fifoIn = (s.aprt n).fifoIn ∧
      t.out = .tdm n (s.aprtOut n) :: s.out ∧
      t.regs = s.regs) ∧
  (∀ (s : State) (n bclks hz : Nat) (slots : List Nat),
    n < 8 →
    hz ≤ 98304000 →
    s.get (Reg.APRT.STAT_STATE n) = 3 →
    bclks = s.aprtSlots n * s.aprtWidth n →
    (s.aprt n).frames % 64 ≠ 0 →
    s.sampleTick ≤ (s.aprt n).lastTick →
    s.aprtMode n = 1 →
    6 ≤ (s.aprt n).fifoIn.length →
    2 < (s.aprt n).fifoOut →
    ∃ t, exec (.aprtFrame n bclks hz slots) s = .next t ∧
      t.get (Reg.APRT.SLIPCNT_DROPS n) = (s.get (Reg.APRT.SLIPCNT_DROPS n) + 1) % 2 ^ (Reg.APRT.SLIPCNT_DROPS n).width ∧
      (t.aprt n).fifoIn = (s.aprt n).fifoIn ∧
      (t.aprt n).fifoOut + 1 = (s.aprt n).fifoOut ∧
      RegsKept [.aprt, .flt] s t) ∧
  (∀ (s : State) (n bclks hz : Nat) (slots : List Nat),
    n < 8 →
    hz ≤ 98304000 →
    s.get (Reg.APRT.STAT_STATE n) = 3 →
    bclks = s.aprtSlots n * s.aprtWidth n →
    (s.aprt n).frames % 64 ≠ 0 →
    s.sampleTick ≤ (s.aprt n).lastTick →
    s.aprtMode n = 1 →
    (s.aprt n).fifoIn.length < 6 →
    (s.aprt n).fifoOut ≤ 2 →
    ∃ t, exec (.aprtFrame n bclks hz slots) s = .next t ∧
      t.get (Reg.APRT.SLIPCNT_DROPS n) = (s.get (Reg.APRT.SLIPCNT_DROPS n) + 1) % 2 ^ (Reg.APRT.SLIPCNT_DROPS n).width ∧
      (t.aprt n).fifoIn = (s.aprt n).fifoIn ++ [slots] ∧
      (t.aprt n).fifoOut = (s.aprt n).fifoOut ∧
      RegsKept [.aprt, .flt] s t) ∧
  (∀ (s : State) (n bclks hz : Nat) (slots : List Nat) (q : List (List Nat)),
    n < 8 →
    hz ≤ 98304000 →
    s.aprtMode n = 1 →
    s.get (Reg.APRT.STAT_STATE n) = 3 →
    bclks = s.aprtSlots n * s.aprtWidth n →
    (s.aprt n).frames % 64 ≠ 0 →
    s.sampleTick ≤ (s.aprt n).lastTick →
    (s.aprt n).fifoIn = q →
    q.length < 6 →
    2 < (s.aprt n).fifoOut →
    ∃ t, exec (.aprtFrame n bclks hz slots) s = .next t ∧
      (t.aprt n).fifoIn = q ++ [slots] ∧
      (t.aprt n).fifoOut + 1 = (s.aprt n).fifoOut ∧
      (t.aprt n).edge = s.now ∧
      t.regs = s.regs) ∧
  (∀ (s : State) (n : Nat),
    n < 8 →
    s.aprtMode n ≠ 0 →
    s.get (Reg.APRT.STAT_STATE n) = 3 →
    4000000000000 ≤ (s.now - (s.aprt n).edge) * s.get (Reg.APRT.RATE n) →
    ∃ t, exec (.clklost n) s = .next t ∧
      t.get (Reg.APRT.STAT_STATE n) = 4 ∧
      t.get (Reg.APRT.CNT_CLKLOST n) = (s.get (Reg.APRT.CNT_CLKLOST n) + 1) % 2 ^ (Reg.APRT.CNT_CLKLOST n).width ∧
      (t.aprt n).fifoIn = [] ∧
      RegsKept [.aprt, .flt] s t) ∧
  (∀ (s : State) (n : Nat),
    8 ≤ n ∨ s.aprtMode n = 0 ∨ s.get (Reg.APRT.STAT_STATE n) ≠ 3 ∨ (s.now - (s.aprt n).edge) * s.get (Reg.APRT.RATE n) < 4000000000000 →
    ∃ t, exec (.clklost n) s = .next t ∧
      t = s) ∧
  (∀ (s : State) (n : Nat),
    8 ≤ n ∨ s.aprtMode n ≠ 2 ∨ s.get (Reg.APRT.STAT_STATE n) ≠ 3 →
    ∃ t, exec (.asrcRelockDone n) s = .next t ∧
      t = s) ∧
  (∀ (s : State) (n : Nat),
    n < 8 →
    s.aprtMode n = 2 →
    s.get (Reg.APRT.STAT_STATE n) = 3 →
    ∃ t, exec (.asrcRelockDone n) s = .next t ∧
      t.get (Reg.APRT.RATEINFO_ASRCLOCK n) = 1 ∧
      t = { s with regs := t.regs, aud := t.aud } ∧
      (t.aprt n).asrcAt = some s.sampleTick ∧
      WordsKept [(Reg.APRT.RATEINFO_ASRCLOCK n).addr] s t)

/-- Converters: tables, swap and result frames. SWAP makes an exchange of banks pending; with bit 0 clear, or with one pending,
it does nothing. SWAP_DONE of a converter that runs and reads an input frame, 10 µs or more after the request, exchanges the
banks and tables, counts, and shows the new PROC; before that, with none pending or on a stopped or free engine it does
nothing; nor while no input frame is read. A write of LUTDATA stores the entry in the inactive bank and advances LUTADDR. A
read answers the entry and advances likewise. Beyond the end of the table a write is discarded and flagged, and a read
answers a value that is free. There is no converter 32. While a swap is pending the write is discarded and flagged. A
converter that does not run, or has no channel, writes no frame. Without an input frame it writes an idle result of its
output format; so it does when the input frame is idle content, and when it is of another format, with cause 1. From a frame
of its input format it writes the picture that its active bank and tables make of it, BROKEN and counted where that frame
fails a check; the ANC goes through where the structure and mapping stay. A table word that was found uncorrectable poisons
it. Rests on parts of R276, R283, R285, R286, R288. (10_conversion.md) -/
def Obligations.Converters : Prop :=
  (∀ (s : State) (m n : Nat) (data : Word),
    Quiet m s →
    n < 32 →
    bit data.toNat 0 = true →
    s.get (Reg.CNV.STAT_SWAPPEND n) = 0 →
    ∃ t, exec (.swap m n data) s = .next t ∧
      t.get (Reg.CNV.STAT_SWAPPEND n) = 1 ∧
      t.cnvHw n = { s.cnvHw n with goAt := s.now } ∧
      RegsKept [.cnv] s t) ∧
  (∀ (s : State) (m n : Nat) (data : Word),
    Quiet m s →
    32 ≤ n ∨ bit data.toNat 0 = false ∨ s.get (Reg.CNV.STAT_SWAPPEND n) = 1 →
    ∃ t, exec (.swap m n data) s = .next t ∧
      t.cnv = s.cnv ∧
      WordsKept [(Reg.CNV.STAT_RUN n).addr] s t) ∧
  (∀ (s : State) (n e : Nat),
    n < 32 →
    s.get (Reg.CNV.STAT_SWAPPEND n) = 1 →
    s.get (Reg.CNV.STAT_RUN n) = 1 →
    s.get (Reg.CNV.CHAN n) ≠ 0 →
    s.chanEgr (State.handleIdx (s.get (Reg.CNV.CHAN n))) = some e →
    (s.egr e).cur.isSome = true →
    (s.cnvHw n).goAt + 10000 ≤ s.now →
    ∃ t, exec (.swapDone n) s = .next t ∧
      (t.cnvHw n).act = s.cnvNext n ∧
      (t.cnvHw n).lut = (s.cnvHw n).nextLut ∧
      (t.cnvHw n).nextLut = (s.cnvHw n).lut ∧
      t.get (Reg.CNV.STAT_SWAPPEND n) = 0 ∧
      t.get (Reg.CNV.STAT_BANK n) = 1 - s.get (Reg.CNV.STAT_BANK n) ∧
      t.get (Reg.CNV.CNT_SWAPS n) = (s.get (Reg.CNV.CNT_SWAPS n) + 1) % 2 ^ (Reg.CNV.CNT_SWAPS n).width ∧
      t.rd (Reg.CNV.PROC_FILTER n).addr = s.rd (Reg.CNV.NEXTPROC_FILTER n).addr ∧
      RegsKept [.cnv, .flt] s t) ∧
  (∀ (s : State) (n : Nat),
    s.get (Reg.CNV.STAT_SWAPPEND n) = 0 ∨ s.get (Reg.CNV.STAT_RUN n) = 0 ∨ s.get (Reg.CNV.CHAN n) = 0 ∨ s.now < (s.cnvHw n).goAt + 10000 →
    ∃ t, exec (.swapDone n) s = .next t ∧
      t = s) ∧
  (∀ (s : State) (n e : Nat),
    s.chanEgr (State.handleIdx (s.get (Reg.CNV.CHAN n))) = some e →
    (s.egr e).cur = none →
    ∃ t, exec (.swapDone n) s = .next t ∧
      t = s) ∧
  (∀ (s : State) (m n a v : Nat) (data : Word) (q : Nat × Nat),
    Quiet m s →
    n < 32 →
    s.get (Reg.CNV.STAT_SWAPPEND n) = 0 →
    q = s.cnvSel n →
    a = s.get (Reg.CNV.LUTADDR n) →
    a < lutEntries q.1 →
    v = data.toNat % 65536 →
    ∃ t, exec (.cnvLutdataAccess m n true data) s = .next t ∧
      lutGet (t.cnvHw n).nextLut q.1 q.2 a = v ∧
      (t.cnvHw n).lut = (s.cnvHw n).lut ∧
      t.get (Reg.CNV.LUTADDR n) = (a + 1) % 65536 ∧
      RegsKept [.cnv, .prov, .flt] s t) ∧
  (∀ (s : State) (m n a v : Nat) (data : Word) (q : Nat × Nat),
    Quiet m s →
    n < 32 →
    s.mgt.stalled = [] →
    q = s.cnvSel n →
    a = s.get (Reg.CNV.LUTADDR n) →
    a < lutEntries q.1 →
    v = lutGet (s.cnvHw n).nextLut q.1 q.2 a →
    v < 65536 →
    s.prov.inverted = [] →
    ∃ t, exec (.cnvLutdataAccess m n false data) s = .next t ∧
      Assoc.find t.mgt.readBack m = some ⟨0, BitVec.ofNat 32 v⟩ ∧
      t.get (Reg.CNV.LUTADDR n) = (a + 1) % 65536 ∧
      t.cnv = s.cnv) ∧
  (∀ (s : State) (m n a : Nat) (data : Word),
    Quiet m s →
    n < 32 →
    a = s.get (Reg.CNV.LUTADDR n) →
    lutEntries (s.cnvSel n).1 ≤ a →
    ∃ t, exec (.cnvLutdataAccess m n true data) s = .next t ∧
      t.get (Reg.CNV.STAT_LUT_IGN n) = 1 ∧
      t.cnv = s.cnv ∧
      bit (t.get (Reg.CNV.EVSTAT n)) 3 = true ∧
      t.get (Reg.CNV.LUTADDR n) = (a + 1) % 65536 ∧
      RegsKept [.cnv, .flt] s t) ∧
  (∀ (s : State) (m n a : Nat) (data : Word),
    Quiet m s →
    n < 32 →
    s.mgt.stalled = [] →
    a = s.get (Reg.CNV.LUTADDR n) →
    lutEntries (s.cnvSel n).1 ≤ a →
    ∃ t, exec (.cnvLutdataAccess m n false data) s = .next t ∧
      Assoc.find t.mgt.readBack m = some ⟨0, BitVec.ofNat 32 (Config.freeNat s.freeCtr % 65536)⟩ ∧
      t.freeCtr = s.freeCtr + 1 ∧
      t.get (Reg.CNV.LUTADDR n) = (a + 1) % 65536 ∧
      t.cnv = s.cnv) ∧
  (∀ (s : State) (m n : Nat) (w : Bool) (data : Word),
    32 ≤ n →
    ∃ t, exec (.cnvLutdataAccess m n w data) s = .next t ∧
      t = s) ∧
  (∀ (s : State) (m n : Nat) (data : Word),
    Quiet m s →
    n < 32 →
    s.get (Reg.CNV.STAT_SWAPPEND n) = 1 →
    ∃ t, exec (.cnvLutdataAccess m n true data) s = .next t ∧
      t.get (Reg.CNV.STAT_LUT_IGN n) = 1 ∧
      t.cnv = s.cnv ∧
      bit (t.get (Reg.CNV.EVSTAT n)) 3 = true) ∧
  (∀ (s : State) (n : Nat) (words : List (Nat × Nat)),
    s.get (Reg.CNV.STAT_RUN n) = 0 ∨ s.get (Reg.CNV.CHAN n) = 0 ∨ s.chanEgr (State.handleIdx (s.get (Reg.CNV.CHAN n))) = none ∨ s.chanIng (State.handleIdx (s.get (Reg.CNV.CHAN n))) = none →
    ∃ t, exec (.cnvFrame n words) s = .next t ∧
      t = s) ∧
  (∀ (s : State) (n h e i : Nat) (words : List (Nat × Nat)) (x : Ingress),
    n < 32 →
    h = s.get (Reg.CNV.CHAN n) →
    h ≠ 0 →
    s.get (Reg.CNV.STAT_RUN n) = 1 →
    s.chanEgr (State.handleIdx h) = some e →
    s.chanIng (State.handleIdx h) = some i →
    i < 8192 →
    Assoc.find s.fab.ing i = some x →
    x.moveTo = none →
    (s.egr e).cur = none →
    ∃ t, exec (.cnvFrame n words) s = .next t ∧
      t.get (Reg.CNV.FRAMES n) = (s.get (Reg.CNV.FRAMES n) + 1) % 2 ^ 32 ∧
      t.cnv = s.cnv ∧
      (((t.ing i).cur.any fun f => f.fmt == s.get (Reg.CNV.OUTFMT n) && f.tstate == 1 && !f.poisoned && f.anc == []) = true) ∧
      (t.ing i).disp = 0) ∧
  (∀ (s : State) (n h e i : Nat) (words : List (Nat × Nat)) (x : Ingress) (f : Frame),
    n < 32 →
    h = s.get (Reg.CNV.CHAN n) →
    h ≠ 0 →
    s.get (Reg.CNV.STAT_RUN n) = 1 →
    s.chanEgr (State.handleIdx h) = some e →
    s.chanIng (State.handleIdx h) = some i →
    i < 8192 →
    Assoc.find s.fab.ing i = some x →
    x.moveTo = none →
    (s.egr e).cur = some f →
    f.tstate = 1 →
    ∃ t, exec (.cnvFrame n words) s = .next t ∧
      t.get (Reg.CNV.FRAMES n) = (s.get (Reg.CNV.FRAMES n) + 1) % 2 ^ 32 ∧
      t.cnv = s.cnv ∧
      (((t.ing i).cur.any fun f => f.fmt == s.get (Reg.CNV.OUTFMT n) && f.tstate == 1 && !f.poisoned && f.anc == []) = true) ∧
      (t.ing i).disp = 0 ∧
      t.get (Reg.CNV.CNT_INBAD n) = s.get (Reg.CNV.CNT_INBAD n)) ∧
  (∀ (s : State) (n h e i : Nat) (words : List (Nat × Nat)) (x : Ingress) (f : Frame),
    n < 32 →
    h = s.get (Reg.CNV.CHAN n) →
    h ≠ 0 →
    s.get (Reg.CNV.STAT_RUN n) = 1 →
    s.chanEgr (State.handleIdx h) = some e →
    s.chanIng (State.handleIdx h) = some i →
    i < 8192 →
    Assoc.find s.fab.ing i = some x →
    x.moveTo = none →
    (s.egr e).cur = some f →
    f.tstate ≠ 1 →
    fmtNoColr f.fmt ≠ fmtNoColr (s.get (Reg.CNV.INFMT n)) →
    ∃ t, exec (.cnvFrame n words) s = .next t ∧
      t.get (Reg.CNV.FRAMES n) = (s.get (Reg.CNV.FRAMES n) + 1) % 2 ^ 32 ∧
      t.cnv = s.cnv ∧
      (((t.ing i).cur.any fun f => f.fmt == s.get (Reg.CNV.OUTFMT n) && f.tstate == 1 && !f.poisoned && f.anc == []) = true) ∧
      bit (t.get (Reg.CNV.EVSTAT n)) 1 = true) ∧
  (∀ (s : State) (n h e i : Nat) (words : List (Nat × Nat)) (x : Ingress) (f : Frame) (c : CnvHw) (b : Bool),
    n < 32 →
    h = s.get (Reg.CNV.CHAN n) →
    h ≠ 0 →
    s.get (Reg.CNV.STAT_RUN n) = 1 →
    s.chanEgr (State.handleIdx h) = some e →
    s.chanIng (State.handleIdx h) = some i →
    i < 8192 →
    Assoc.find s.fab.ing i = some x →
    x.moveTo = none →
    (s.egr e).cur = some f →
    f.tstate ≠ 1 →
    fmtNoColr f.fmt = fmtNoColr (s.get (Reg.CNV.INFMT n)) →
    c = s.cnvHw n →
    b = s.frameFails e →
    words = [] →
    s.cnvTableBad n = false →
    ∃ t, exec (.cnvFrame n words) s = .next t ∧
      t.get (Reg.CNV.FRAMES n) = (s.get (Reg.CNV.FRAMES n) + 1) % 2 ^ 32 ∧
      t.cnv = s.cnv ∧
      (((t.ing i).cur.any fun g => g.fmt == s.get (Reg.CNV.OUTFMT n) && g.tstate == (if b then 2 else 0) && !g.poisoned && g.picture == cnvPicture c.act c.lut (s.flag (Reg.CNV.PLANES_SCALE n)) (s.get (Reg.CNV.INFMT n)) (s.get (Reg.CNV.OUTFMT n)) f.picture && g.anc == (if fmtStruct (s.get (Reg.CNV.INFMT n)) = fmtStruct (s.get (Reg.CNV.OUTFMT n)) ∧ fmtMap (s.get (Reg.CNV.INFMT n)) = fmtMap (s.get (Reg.CNV.OUTFMT n)) then f.anc else [])) = true) ∧
      (t.ing i).disp = (s.egr e).disp ∧
      t.get (Reg.CNV.CNT_INBAD n) = (s.get (Reg.CNV.CNT_INBAD n) + b2n b) % 2 ^ (Reg.CNV.CNT_INBAD n).width) ∧
  (∀ (s : State) (n h e i : Nat) (words : List (Nat × Nat)) (x : Ingress) (f : Frame),
    n < 32 →
    h = s.get (Reg.CNV.CHAN n) →
    h ≠ 0 →
    s.get (Reg.CNV.STAT_RUN n) = 1 →
    s.chanEgr (State.handleIdx h) = some e →
    s.chanIng (State.handleIdx h) = some i →
    i < 8192 →
    Assoc.find s.fab.ing i = some x →
    x.moveTo = none →
    (s.egr e).cur = some f →
    f.tstate ≠ 1 →
    fmtNoColr f.fmt = fmtNoColr (s.get (Reg.CNV.INFMT n)) →
    s.cnvTableBad n = true →
    ∃ t, exec (.cnvFrame n words) s = .next t ∧
      t.get (Reg.CNV.FRAMES n) = (s.get (Reg.CNV.FRAMES n) + 1) % 2 ^ 32 ∧
      t.cnv = s.cnv ∧
      (((t.ing i).cur.any fun g => g.fmt == s.get (Reg.CNV.OUTFMT n) && g.poisoned) = true))

/-- SDI receive: rate hunt and lines; frames that enter the slot store. RATE_HUNT_DWELL without CDR lock moves the hunt to the
next enabled class and changes no register; locked, not running or not in S-mode it does nothing. An engine that does not
receive takes no line; one in a far-end loopback only sends it on. Of one that receives every line counts the XYZ words it
corrects. In SEARCH, at an enabled rate, a line with a TRS begins the count of consistent lines; at another rate, or without
a TRS, it stays in SEARCH. In VERIFY a consistent line is counted, the third locks the engine, and an inconsistent one
returns it to SEARCH. While LOCKED a sound line ends a run of bad ones. A line with a CRC or line-number error is counted
once. A line without both TRS at their places is counted; fewer than four in a row keep the lock. The fourth loses it. A
link beyond the skew limit loses the essence, with cause 10. FRAME_START stores the frame, on the entry it moves to where a
move is due, with a token whose count is one more than the last. On an entry not in use or of an F-lane, or while the
receiver does not deliver the declared format, nothing is written. Rests on parts of R186, R187, R190, R191, R71, R155.
(07_sdi.md, 03_slot_grid.md, 06_path_integrity.md) -/
def Obligations.SdiReceiveLines : Prop :=
  (∀ (s : State) (n : Nat),
    n < 512 →
    s.get (Reg.SDI.STAT_RUN (sdiPage n)) = 1 →
    s.laneRxMode n = 1 →
    s.get (Reg.LANE.STAT_CDRLOCK n) = 0 →
    s.rxStopped n = false →
    ∃ t, exec (.rateHuntDwell n) s = .next t ∧
      (t.sdiRx n).hunt = State.nextClass (s.use (Reg.SDI.RXCFG_RATES (sdiPage n))) (s.huntClass n) ∧
      t = { s with sdi := t.sdi }) ∧
  (∀ (s : State) (n : Nat),
    512 ≤ n ∨ s.get (Reg.SDI.STAT_RUN (sdiPage n)) = 0 ∨ s.laneRxMode n ≠ 1 ∨ s.get (Reg.LANE.STAT_CDRLOCK n) = 1 ∨ s.rxStopped n = true →
    ∃ t, exec (.rateHuntDwell n) s = .next t ∧
      t = s) ∧
  (∀ (s : State) (n : Nat) (l : SdiLine),
    s.sdiReceives n = false →
    ∃ t, exec (.sdiLine n l) s = .next t ∧
      t = { s with out := t.out } ∧
      (s.use (Reg.LANE.CFG_LOOP (s.pinLane n)) ≠ 3 → t.out = s.out)) ∧
  (∀ (s : State) (n : Nat) (l : SdiLine),
    n < 576 →
    s.sdiReceives n = true →
    ∃ t, exec (.sdiLine n l) s = .next t ∧
      t.get (Reg.SDI.TRSCNT_XYZCOR (enginePage n)) = (s.get (Reg.SDI.TRSCNT_XYZCOR (enginePage n)) + (b2n (readTrs true l.eav).2 + b2n (readTrs false l.sav).2)) % 2 ^ (Reg.SDI.TRSCNT_XYZCOR 0).width) ∧
  (∀ (s : State) (n : Nat) (l : SdiLine),
    n < 576 →
    s.sdiReceives n = true →
    s.get (Reg.SDI.RXSTAT_STATE (enginePage n)) = 0 →
    s.rateEnabled n = true →
    (readTrs true l.eav).1 = true ∨ (readTrs false l.sav).1 = true →
    ∃ t, exec (.sdiLine n l) s = .next t ∧
      t.get (Reg.SDI.RXSTAT_STATE (enginePage n)) = 1 ∧
      (t.sdiRx n).good = 0 ∧
      RegsKept [.sdi, .ipm, .flt] s t) ∧
  (∀ (s : State) (n : Nat) (l : SdiLine),
    n < 576 →
    s.sdiReceives n = true →
    s.get (Reg.SDI.RXSTAT_STATE (enginePage n)) = 0 →
    s.rateEnabled n = false ∨ ((readTrs true l.eav).1 = false ∧ (readTrs false l.sav).1 = false) →
    ∃ t, exec (.sdiLine n l) s = .next t ∧
      t.get (Reg.SDI.RXSTAT_STATE (enginePage n)) = 0 ∧
      t.sdi = s.sdi ∧
      RegsKept [.sdi, .ipm, .flt] s t) ∧
  (∀ (s : State) (n : Nat) (l : SdiLine),
    n < 576 →
    s.sdiReceives n = true →
    s.get (Reg.SDI.RXSTAT_STATE (enginePage n)) = 1 →
    (readTrs true l.eav).1 = true ∨ (readTrs false l.sav).1 = true →
    (s.sdiRx n).good = 0 ∨ l.spacing = (s.sdiRx n).spacing →
    (s.sdiRx n).good < 2 →
    ∃ t, exec (.sdiLine n l) s = .next t ∧
      t.get (Reg.SDI.RXSTAT_STATE (enginePage n)) = 1 ∧
      (t.sdiRx n).good = (s.sdiRx n).good + 1 ∧
      (t.sdiRx n).spacing = l.spacing ∧
      RegsKept [.sdi, .ipm, .flt] s t) ∧
  (∀ (s : State) (n : Nat) (l : SdiLine),
    n < 576 →
    s.sdiReceives n = true →
    s.get (Reg.SDI.RXSTAT_STATE (enginePage n)) = 1 →
    (readTrs true l.eav).1 = true ∨ (readTrs false l.sav).1 = true →
    2 ≤ (s.sdiRx n).good →
    l.spacing = (s.sdiRx n).spacing →
    ∃ t, exec (.sdiLine n l) s = .next t ∧
      t.get (Reg.SDI.RXSTAT_STATE (enginePage n)) = 2 ∧
      bit (t.get (Reg.SDI.EVSTAT (enginePage n))) 1 = true ∧
      RegsKept [.sdi, .ipm, .flt] s t) ∧
  (∀ (s : State) (n : Nat) (l : SdiLine),
    n < 576 →
    s.sdiReceives n = true →
    s.get (Reg.SDI.RXSTAT_STATE (enginePage n)) = 1 →
    ((readTrs true l.eav).1 = false ∧ (readTrs false l.sav).1 = false) ∨ ((s.sdiRx n).good ≠ 0 ∧ l.spacing ≠ (s.sdiRx n).spacing) →
    ∃ t, exec (.sdiLine n l) s = .next t ∧
      t.get (Reg.SDI.RXSTAT_STATE (enginePage n)) = 0 ∧
      RegsKept [.sdi, .ipm, .flt] s t) ∧
  (∀ (s : State) (n : Nat) (l : SdiLine),
    n < 576 →
    s.sdiReceives n = true →
    s.get (Reg.SDI.RXSTAT_STATE (enginePage n)) = 2 →
    (readTrs true l.eav).1 = true →
    (readTrs false l.sav).1 = true →
    l.spacing = (s.sdiRx n).spacing →
    l.crcErr = false →
    l.lineNoErr = false →
    l.skewed = false →
    ∃ t, exec (.sdiLine n l) s = .next t ∧
      t.get (Reg.SDI.RXSTAT_STATE (enginePage n)) = 2 ∧
      (t.sdiRx n).bad = 0 ∧
      t.get (Reg.SDI.TRSCNT_BADLINE (enginePage n)) = s.get (Reg.SDI.TRSCNT_BADLINE (enginePage n)) ∧
      t.get (Reg.SDI.CRCCNT_LINES (enginePage n)) = s.get (Reg.SDI.CRCCNT_LINES (enginePage n)) ∧
      RegsKept [.sdi, .ipm, .flt] s t) ∧
  (∀ (s : State) (n : Nat) (l : SdiLine),
    n < 576 →
    s.sdiReceives n = true →
    s.get (Reg.SDI.RXSTAT_STATE (enginePage n)) = 2 →
    l.crcErr = true ∨ l.lineNoErr = true →
    ∃ t, exec (.sdiLine n l) s = .next t ∧
      t.get (Reg.SDI.CRCCNT_LINES (enginePage n)) = (s.get (Reg.SDI.CRCCNT_LINES (enginePage n)) + 1) % 2 ^ (Reg.SDI.CRCCNT_LINES 0).width) ∧
  (∀ (s : State) (n : Nat) (l : SdiLine),
    n < 576 →
    s.sdiReceives n = true →
    s.get (Reg.SDI.RXSTAT_STATE (enginePage n)) = 2 →
    (readTrs true l.eav).1 = false ∨ (readTrs false l.sav).1 = false ∨ l.spacing ≠ (s.sdiRx n).spacing →
    l.skewed = false →
    (s.sdiRx n).bad < 3 →
    ∃ t, exec (.sdiLine n l) s = .next t ∧
      t.get (Reg.SDI.RXSTAT_STATE (enginePage n)) = 2 ∧
      t.get (Reg.SDI.TRSCNT_BADLINE (enginePage n)) = (s.get (Reg.SDI.TRSCNT_BADLINE (enginePage n)) + 1) % 2 ^ (Reg.SDI.TRSCNT_BADLINE 0).width ∧
      (t.sdiRx n).bad = (s.sdiRx n).bad + 1 ∧
      RegsKept [.sdi, .ipm, .flt] s t) ∧
  (∀ (s : State) (n : Nat) (l : SdiLine),
    n < 576 →
    s.sdiReceives n = true →
    s.get (Reg.SDI.RXSTAT_STATE (enginePage n)) = 2 →
    (readTrs true l.eav).1 = false ∨ (readTrs false l.sav).1 = false ∨ l.spacing ≠ (s.sdiRx n).spacing →
    3 ≤ (s.sdiRx n).bad →
    ∃ t, exec (.sdiLine n l) s = .next t ∧
      t.get (Reg.SDI.RXSTAT_STATE (enginePage n)) = 0 ∧
      t.get (Reg.SDI.RXSTAT_FMTVALID (enginePage n)) = 0 ∧
      bit (t.get (Reg.SDI.EVSTAT (enginePage n))) 2 = true) ∧
  (∀ (s : State) (n : Nat) (l : SdiLine),
    n < 576 →
    s.sdiReceives n = true →
    s.get (Reg.SDI.RXSTAT_STATE (enginePage n)) = 2 →
    (s.sdiRx n).bad < 3 →
    l.skewed = true →
    ∃ t, exec (.sdiLine n l) s = .next t ∧
      bit (t.get (Reg.SDI.EVSTAT (enginePage n))) 10 = true ∧
      (t.sdiRx n).measuring = false ∧
      (s.rxBound n = [] → t.get (Reg.SDI.RXSTAT_STATE (enginePage n)) = 2)) ∧
  (∀ (s : State) (e k fmt : Nat) (picture : List Pix) (anc : List AncPkt) (x : Ingress) (f : Frame),
    e < 8192 →
    k < 8192 →
    k = s.movedIng e →
    s.get (Reg.FAB.ISE_CFG_VALID e) = 1 →
    s.get (Reg.FAB.ISE_CFG_PATH e) ≠ 3 →
    Assoc.find s.fab.ing e = some x →
    x.writing = true →
    (Assoc.find s.fab.ing k).isSome = true →
    s.get Reg.PROV.TOKINJ_ARM = 0 →
    f = { fmt := fmt, token := some ⟨s.use Reg.CHN.CFG_SYSNUM, State.handleIdx (s.get (Reg.FAB.ISE_HANDLE e)), (match x.count with | none => 0 | some c => (c + 1) % 65536), digest picture⟩, tstate := 0, poisoned := false, picture := picture, anc := anc } →
    ∃ t, exec (.frameStart e fmt picture anc) s = .next t ∧
      (t.ing k).cur = some f ∧
      (t.ing k).at_ = s.now ∧
      ((t.ing k).count = f.token.map fun a => a.count)) ∧
  (∀ (s : State) (e fmt : Nat) (picture : List Pix) (anc : List AncPkt),
    s.get (Reg.FAB.ISE_CFG_VALID e) = 0 ∨ s.get (Reg.FAB.ISE_CFG_PATH e) = 3 ∨ (s.ing e).writing = false →
    ∃ t, exec (.frameStart e fmt picture anc) s = .next t ∧
      t = s)

/-- SDI frames, ancillary packets, embedded audio and output frames. An engine not LOCKED takes no SDI_FRAME_START. The first
after lock begins the measurement; a later one of an engine with no channel shows the measured format and the payload ID
bytes; another format than before raises cause 3, and two frames without an ID show none. With a channel of one lane, the
payload ID ignored, frames of the declared format are written from then on; another format stops the writing, with cause 4,
and its entry shows NOSIG. An engine not LOCKED takes no ancillary packet. A packet with a wrong checksum is counted and
raises its cause. A sound packet that no filter wants changes nothing. One that a filter wants goes to its buffer while 4
KiB of the frame are not full; beyond them it is dropped, with cause 12. Of no group 0 to 7, or at an engine not LOCKED, an
audio packet is nothing. AUDIO_PACKET_RX otherwise shows its group present, synchronous or not, and of right or wrong rate;
without a channel no sample enters the matrix. A group that a channel takes, newly of another rate than the TSI, raises
cause 14 and gives no sample; of the right rate each voice of the group gets its sample; a sample that asynchronous drift
drops is counted as a slip, with cause 15; one with an uncorrectable ECC error is counted, with cause 16, and repeats the
last sample. An entry that is no output sends nothing. Nor does a lane output before the fabric is enabled, or whose lane or
engine does not run. nor a flow or slot half before it, nor a half that does not send. A running lane output whose source
gives content sends it, and its engine shows so; without a frame it sends idle content; in HOLD the frame held; in BLACK, or
where the held frame is found wrong, black. A slot half sends its frame with its hop tag, BROKEN while it fails; a flow
output gives its frame to the packetiser. Sent off its time, or without a TX clock, a checked output fails as TIMING_LOSS.
Rests on parts of R71, R155, R188, R189, R196, R202, R204. (03_slot_grid.md, 06_path_integrity.md, 07_sdi.md) -/
def Obligations.SdiFramesAndPackets : Prop :=
  (∀ (s : State) (n fmt : Nat) (ps : FramePids),
    s.sdiReceives n = false ∨ s.get (Reg.SDI.RXSTAT_STATE (enginePage n)) ≠ 2 →
    ∃ t, exec (.sdiFrameStart n fmt ps) s = .next t ∧
      t = s) ∧
  (∀ (s : State) (n fmt : Nat) (pid pid1 : Option SdiPid),
    n < 576 →
    s.sdiReceives n = true →
    s.get (Reg.SDI.RXSTAT_STATE (enginePage n)) = 2 →
    (s.sdiRx n).measuring = false →
    ∃ t, exec (.sdiFrameStart n fmt ⟨pid, pid1⟩) s = .next t ∧
      (t.sdiRx n).measuring = true ∧
      t.get (Reg.SDI.RXSTAT_FMTVALID (enginePage n)) = s.get (Reg.SDI.RXSTAT_FMTVALID (enginePage n)) ∧
      t.get (Reg.SDI.RXAUDSTAT_PRESENT (enginePage n)) = (s.sdiRx n).groups % 256 ∧
      RegsKept [.sdi, .ipm, .flt] s t) ∧
  (∀ (s : State) (n fmt : Nat) (p : SdiPid),
    n < 576 →
    s.sdiReceives n = true →
    s.get (Reg.SDI.RXSTAT_STATE (enginePage n)) = 2 →
    (s.sdiRx n).measuring = true →
    s.rxBound n = [] →
    s.get (Reg.SDI.RXSTAT_FMTVALID (enginePage n)) = 0 →
    ∃ t, exec (.sdiFrameStart n fmt ⟨some p, none⟩) s = .next t ∧
      t.get (Reg.SDI.RXSTAT_FMTVALID (enginePage n)) = 1 ∧
      t.get (Reg.SDI.RXFMT (enginePage n)) = setBits (fmtAs fmt p.fmt) 15 12 (fmtColr p.fmt) % 2 ^ 32 ∧
      t.rd (Reg.SDI.RXPID_BYTE1 (enginePage n)).addr = BitVec.ofNat 32 p.bytes ∧
      RegsKept [.sdi, .ipm, .flt] s t) ∧
  (∀ (s : State) (n fmt : Nat),
    n < 576 →
    s.sdiReceives n = true →
    s.get (Reg.SDI.RXSTAT_STATE (enginePage n)) = 2 →
    (s.sdiRx n).measuring = true →
    s.rxBound n = [] →
    s.get (Reg.SDI.RXSTAT_FMTVALID (enginePage n)) = 1 →
    1 ≤ (s.sdiRx n).pid0.missing →
    fmtNoColr (s.get (Reg.SDI.RXFMT (enginePage n))) ≠ fmtNoColr fmt →
    ∃ t, exec (.sdiFrameStart n fmt ⟨none, none⟩) s = .next t ∧
      t.get (Reg.SDI.RXFMT (enginePage n)) = setBits fmt 15 12 15 % 2 ^ 32 ∧
      bit (t.get (Reg.SDI.EVSTAT (enginePage n))) 3 = true ∧
      t.rd (Reg.SDI.RXPID_BYTE1 (enginePage n)).addr = 0 ∧
      RegsKept [.sdi, .ipm, .flt] s t) ∧
  (∀ (s : State) (n fmt i e : Nat) (ps : FramePids),
    n < 576 →
    s.sdiReceives n = true →
    s.get (Reg.SDI.RXSTAT_STATE (enginePage n)) = 2 →
    (s.sdiRx n).measuring = true →
    s.rxBound n = [i] →
    s.chanIng i = some e →
    e < 8192 →
    (Assoc.find s.fab.ing e).isSome = true →
    s.pidPolicy i = 0 →
    mapLanes (fmtMap (s.chanFmt i)) = 1 →
    fmtListed (fmtAs fmt (s.chanFmt i)) = true →
    fmtNoColr (fmtAs fmt (s.chanFmt i)) = fmtNoColr (s.chanFmt i) →
    ∃ t, exec (.sdiFrameStart n fmt ps) s = .next t ∧
      (t.ing e).writing = true ∧
      t.get (Reg.SDI.RXSTAT_FMTVALID (enginePage n)) = 1 ∧
      bit (t.get (Reg.SDI.EVSTAT (enginePage n))) 4 = bit (s.get (Reg.SDI.EVSTAT (enginePage n))) 4) ∧
  (∀ (s : State) (n fmt i e : Nat) (ps : FramePids),
    n < 576 →
    s.sdiReceives n = true →
    s.get (Reg.SDI.RXSTAT_STATE (enginePage n)) = 2 →
    (s.sdiRx n).measuring = true →
    s.rxBound n = [i] →
    s.chanIng i = some e →
    e < 8192 →
    (Assoc.find s.fab.ing e).isSome = true →
    fmtListed (fmtAs fmt (s.chanFmt i)) = true →
    fmtNoColr (fmtAs fmt (s.chanFmt i)) ≠ fmtNoColr (s.chanFmt i) →
    ∃ t, exec (.sdiFrameStart n fmt ps) s = .next t ∧
      (t.ing e).writing = false ∧
      t.get (Reg.FAB.ISE_ALIGN_STATE e) = 0 ∧
      bit (t.get (Reg.SDI.EVSTAT (enginePage n))) 4 = true) ∧
  (∀ (s : State) (n : Nat) (p : AncPkt),
    s.sdiReceives n = false ∨ s.get (Reg.SDI.RXSTAT_STATE (enginePage n)) ≠ 2 →
    ∃ t, exec (.ancPacketRx n p) s = .next t ∧
      t = s) ∧
  (∀ (s : State) (n : Nat) (p : AncPkt),
    n < 576 →
    s.sdiReceives n = true →
    s.get (Reg.SDI.RXSTAT_STATE (enginePage n)) = 2 →
    p.csOk = false →
    (∀ k ∈ List.range 8, s.get (Reg.SDI.ANCF_EN (enginePage n) k) = 0) →
    ∃ t, exec (.ancPacketRx n p) s = .next t ∧
      t.get (Reg.SDI.ANCCNT_CSERR (enginePage n)) = (s.get (Reg.SDI.ANCCNT_CSERR (enginePage n)) + 1) % 2 ^ (Reg.SDI.ANCCNT_CSERR 0).width ∧
      bit (t.get (Reg.SDI.EVSTAT (enginePage n))) 11 = true ∧
      t.sdi = s.sdi ∧
      RegsKept [.sdi, .ipm, .flt] s t) ∧
  (∀ (s : State) (n : Nat) (p : AncPkt),
    n < 576 →
    s.sdiReceives n = true →
    s.get (Reg.SDI.RXSTAT_STATE (enginePage n)) = 2 →
    p.csOk = true →
    (∀ k ∈ List.range 8, s.get (Reg.SDI.ANCF_EN (enginePage n) k) = 0) →
    ∃ t, exec (.ancPacketRx n p) s = .next t ∧
      t = s) ∧
  (∀ (s : State) (n k i : Nat) (p : AncPkt) (b : AncBuf),
    n < 576 →
    s.sdiReceives n = true →
    s.get (Reg.SDI.RXSTAT_STATE (enginePage n)) = 2 →
    p.csOk = true →
    k < 8 →
    (∀ j ∈ List.range 8, s.get (Reg.SDI.ANCF_EN (enginePage n) j) = b2n (j == k)) →
    State.ancMatches (s.flag (Reg.SDI.ANCF_SDIDANY (enginePage n) k)) (s.get (Reg.SDI.ANCF_DID (enginePage n) k)) (s.get (Reg.SDI.ANCF_SDID (enginePage n) k)) p = true →
    s.rxBound n = [] →
    i = s.get (Reg.SDI.ANCF_CHIDX (enginePage n) k) →
    Assoc.find s.sdi.anc i = some b →
    sumList (b.cur.map State.ancBytes) + State.ancBytes p ≤ 4096 →
    ∃ t, exec (.ancPacketRx n p) s = .next t ∧
      Assoc.find t.sdi.anc i = some { b with cur := b.cur ++ [p] } ∧
      t = { s with sdi := t.sdi }) ∧
  (∀ (s : State) (n k i : Nat) (p : AncPkt) (b : AncBuf),
    n < 576 →
    s.sdiReceives n = true →
    s.get (Reg.SDI.RXSTAT_STATE (enginePage n)) = 2 →
    p.csOk = true →
    k < 8 →
    (∀ j ∈ List.range 8, s.get (Reg.SDI.ANCF_EN (enginePage n) j) = b2n (j == k)) →
    State.ancMatches (s.flag (Reg.SDI.ANCF_SDIDANY (enginePage n) k)) (s.get (Reg.SDI.ANCF_DID (enginePage n) k)) (s.get (Reg.SDI.ANCF_SDID (enginePage n) k)) p = true →
    s.rxBound n = [] →
    i = s.get (Reg.SDI.ANCF_CHIDX (enginePage n) k) →
    Assoc.find s.sdi.anc i = some b →
    4096 < sumList (b.cur.map State.ancBytes) + State.ancBytes p →
    ∃ t, exec (.ancPacketRx n p) s = .next t ∧
      t.sdi = s.sdi ∧
      t.get (Reg.SDI.ANCCNT_DROP (enginePage n)) = (s.get (Reg.SDI.ANCCNT_DROP (enginePage n)) + 1) % 2 ^ (Reg.SDI.ANCCNT_DROP 0).width ∧
      bit (t.get (Reg.SDI.EVSTAT (enginePage n))) 12 = true ∧
      RegsKept [.sdi, .ipm, .flt] s t) ∧
  (∀ (s : State) (n : Nat) (p : AudioPkt),
    s.sdiReceives n = false ∨ s.get (Reg.SDI.RXSTAT_STATE (enginePage n)) ≠ 2 ∨ 8 ≤ p.group →
    ∃ t, exec (.audioPacketRx n p) s = .next t ∧
      t = s) ∧
  (∀ (s : State) (n : Nat) (p : AudioPkt),
    n < 576 →
    s.sdiReceives n = true →
    s.get (Reg.SDI.RXSTAT_STATE (enginePage n)) = 2 →
    p.group < 8 →
    s.get (Reg.SDI.RXCHAN (enginePage n)) = 0 →
    s.get (Reg.SDI.RXCHAN1 (enginePage n)) = 0 →
    ∃ t, exec (.audioPacketRx n p) s = .next t ∧
      bit (t.get (Reg.SDI.RXAUDSTAT_PRESENT (enginePage n))) p.group = true ∧
      bit (t.get (Reg.SDI.RXAUDSTAT_ASYNC (enginePage n))) p.group = (p.control.getD (48000, false)).2 ∧
      bit (t.get (Reg.SDI.RXAUDSTAT_BADRATE (enginePage n))) p.group = ((p.control.getD (48000, false)).1 != s.tsiRate) ∧
      (t.sdiRx n).groups = (s.sdiRx n).groups ||| 2 ^ p.group ∧
      t.aud = s.aud ∧
      RegsKept [.sdi, .ipm, .flt] s t) ∧
  (∀ (s : State) (n : Nat) (p : AudioPkt),
    n < 576 →
    s.sdiReceives n = true →
    s.get (Reg.SDI.RXSTAT_STATE (enginePage n)) = 2 →
    p.group < 8 →
    (p.control.getD (48000, false)).1 ≠ s.tsiRate →
    (s.embeddedVoice n p 0).isSome = true →
    Assoc.find (s.sdiRx n).rates (8 * (p.stream % 2) + p.group) ≠ some (p.control.getD (48000, false)).1 →
    ∃ t, exec (.audioPacketRx n p) s = .next t ∧
      bit (t.get (Reg.SDI.EVSTAT (enginePage n))) 14 = true ∧
      t.aud = s.aud ∧
      Assoc.find (t.sdiRx n).rates (8 * (p.stream % 2) + p.group) = some (p.control.getD (48000, false)).1) ∧
  (∀ (s : State) (n j : Nat) (p : AudioPkt),
    n < 576 →
    s.sdiReceives n = true →
    s.get (Reg.SDI.RXSTAT_STATE (enginePage n)) = 2 →
    p.group < 8 →
    (p.control.getD (48000, false)).1 = s.tsiRate →
    (∀ v ∈ List.range 4, s.embeddedVoice n p v = some (j + v)) →
    p.ecc ≠ 2 →
    (p.control.getD (48000, false)).2 = false ∨ p.drift = 0 →
    ∃ t, exec (.audioPacketRx n p) s = .next t ∧
      (∀ v ∈ List.range 4, t.inVoice (j + v) = (s.voiceIn (j + v) (p.samples.getD v State.silence)).inVoice (j + v)) ∧
      t.get (Reg.SDI.AUDCNT_SLIP (enginePage n)) = s.get (Reg.SDI.AUDCNT_SLIP (enginePage n)) ∧
      t.get (Reg.SDI.AUDCNT_ECCERR (enginePage n)) = s.get (Reg.SDI.AUDCNT_ECCERR (enginePage n))) ∧
  (∀ (s : State) (n j : Nat) (p : AudioPkt),
    n < 576 →
    s.sdiReceives n = true →
    s.get (Reg.SDI.RXSTAT_STATE (enginePage n)) = 2 →
    p.group < 8 →
    (p.control.getD (48000, false)).1 = s.tsiRate →
    (∀ v ∈ List.range 4, s.embeddedVoice n p v = some (j + v)) →
    (p.control.getD (48000, false)).2 = true →
    p.drift = 1 →
    ∃ t, exec (.audioPacketRx n p) s = .next t ∧
      (∀ v ∈ List.range 4, t.inVoice (j + v) = s.inVoice (j + v)) ∧
      t.get (Reg.SDI.AUDCNT_SLIP (enginePage n)) = (s.get (Reg.SDI.AUDCNT_SLIP (enginePage n)) + 1) % 2 ^ (Reg.SDI.AUDCNT_SLIP 0).width ∧
      bit (t.get (Reg.SDI.EVSTAT (enginePage n))) 15 = true) ∧
  (∀ (s : State) (n j : Nat) (p : AudioPkt),
    n < 576 →
    s.sdiReceives n = true →
    s.get (Reg.SDI.RXSTAT_STATE (enginePage n)) = 2 →
    p.group < 8 →
    (p.control.getD (48000, false)).1 = s.tsiRate →
    (∀ v ∈ List.range 4, s.embeddedVoice n p v = some (j + v)) →
    (p.control.getD (48000, false)).2 = false →
    p.ecc = 2 →
    ∃ t, exec (.audioPacketRx n p) s = .next t ∧
      (∀ v ∈ List.range 4, t.inVoice (j + v) = (s.voiceIn (j + v) (Assoc.findD (s.sdiRx n).lastAudio (j + v) State.silence)).inVoice (j + v)) ∧
      t.get (Reg.SDI.AUDCNT_ECCERR (enginePage n)) = (s.get (Reg.SDI.AUDCNT_ECCERR (enginePage n)) + 1) % 2 ^ (Reg.SDI.AUDCNT_ECCERR 0).width ∧
      bit (t.get (Reg.SDI.EVSTAT (enginePage n))) 16 = true) ∧
  (∀ (s : State) (e taken : Nat) (off holdBad : Bool),
    (s.isOutput e && !(s.egr e).stopping) = false →
    ∃ t, exec (.outputFrameSend e taken off holdBad) s = .next t ∧
      t = s) ∧
  (∀ (s : State) (e n taken : Nat) (off holdBad : Bool),
    s.get (Reg.FAB.ESE_CFG_KIND e) ≤ 1 →
    n = s.outLane (State.handleIdx (s.get (Reg.FAB.ESE_HANDLE e))) →
    s.fabricOn = false ∨ s.txRuns n = false →
    ∃ t, exec (.outputFrameSend e taken off holdBad) s = .next t ∧
      t.out = s.out ∧
      t.fab = s.fab ∧
      RegsKept [.sdi, .lane] s t) ∧
  (∀ (s : State) (e n taken : Nat) (off holdBad : Bool),
    s.get (Reg.FAB.ESE_HANDLE e) = 0 ∨ (2 ≤ s.get (Reg.FAB.ESE_CFG_KIND e) ∧ s.fabricOn = false) ∨ (s.get (Reg.FAB.ESE_CFG_KIND e) = 3 ∧ n = s.outLane (State.handleIdx (s.get (Reg.FAB.ESE_HANDLE e))) ∧ s.halfSends n = false) →
    ∃ t, exec (.outputFrameSend e taken off holdBad) s = .next t ∧
      t = s) ∧
  (∀ (s : State) (e n taken : Nat) (off holdBad : Bool) (x : Egress) (f : Frame),
    s.get (Reg.FAB.ESE_CFG_KIND e) ≤ 1 →
    n = s.outLane (State.handleIdx (s.get (Reg.FAB.ESE_HANDLE e))) →
    n < 512 →
    s.txRuns n = true →
    e < 8192 →
    s.get Reg.FAB.STAT_RUN = 1 →
    s.get (Reg.FAB.ESE_CFG_VALID e) = 1 →
    s.get (Reg.FAB.ESE_HANDLE e) ≠ 0 →
    Assoc.find s.fab.egr e = some x →
    x.stopping = false →
    off = false →
    (s.outputLanes e).all (fun k => s.txLocked k) = true →
    x.lane = 0 →
    x.cur = some f →
    f.tstate ≠ 1 →
    ∃ t, exec (.outputFrameSend e taken off holdBad) s = .next t ∧
      ((t.out.filterMap fun o => match o with | .frame x => some (x.entry, x.code, x.frame.picture, x.frame.tstate) | _ => none).head?) = some (e, 1, f.picture, f.tstate) ∧
      t.get (Reg.SDI.TXSTAT_STATE (sdiPage n)) = 2 ∧
      (t.egr e).content = true ∧
      (t.egr e).lane = 0) ∧
  (∀ (s : State) (e n taken : Nat) (off holdBad : Bool) (x : Egress),
    s.get (Reg.FAB.ESE_CFG_KIND e) ≤ 1 →
    n = s.outLane (State.handleIdx (s.get (Reg.FAB.ESE_HANDLE e))) →
    n < 512 →
    s.txRuns n = true →
    e < 8192 →
    s.get Reg.FAB.STAT_RUN = 1 →
    s.get (Reg.FAB.ESE_CFG_VALID e) = 1 →
    s.get (Reg.FAB.ESE_HANDLE e) ≠ 0 →
    Assoc.find s.fab.egr e = some x →
    x.stopping = false →
    off = false →
    (s.outputLanes e).all (fun k => s.txLocked k) = true →
    x.lane = 0 →
    x.cur = none →
    x.content = false →
    ∃ t, exec (.outputFrameSend e taken off holdBad) s = .next t ∧
      ((t.out.filterMap fun o => match o with | .frame x => some (x.entry, x.code, x.frame.picture, x.frame.tstate) | _ => none).head?) = some (e, 0, blackPicture x.fmt, 1) ∧
      t.get (Reg.SDI.TXSTAT_STATE (sdiPage n)) = 1 ∧
      (t.egr e).content = false) ∧
  (∀ (s : State) (e n taken : Nat) (off holdBad : Bool) (x : Egress) (f : Frame),
    s.get (Reg.FAB.ESE_CFG_KIND e) ≤ 1 →
    n = s.outLane (State.handleIdx (s.get (Reg.FAB.ESE_HANDLE e))) →
    n < 512 →
    s.txRuns n = true →
    e < 8192 →
    s.get Reg.FAB.STAT_RUN = 1 →
    s.get (Reg.FAB.ESE_CFG_VALID e) = 1 →
    s.get (Reg.FAB.ESE_HANDLE e) ≠ 0 →
    Assoc.find s.fab.egr e = some x →
    x.stopping = false →
    off = false →
    (s.outputLanes e).all (fun k => s.txLocked k) = true →
    x.lane = 1 →
    x.held = some f →
    holdBad = false →
    ∃ t, exec (.outputFrameSend e taken off holdBad) s = .next t ∧
      ((t.out.filterMap fun o => match o with | .frame x => some (x.entry, x.code, x.frame.picture, x.frame.tstate) | _ => none).head?) = some (e, 2, f.picture, f.tstate) ∧
      (t.egr e).lane = 1) ∧
  (∀ (s : State) (e n taken : Nat) (off holdBad : Bool) (x : Egress),
    s.get (Reg.FAB.ESE_CFG_KIND e) ≤ 1 →
    n = s.outLane (State.handleIdx (s.get (Reg.FAB.ESE_HANDLE e))) →
    n < 512 →
    s.txRuns n = true →
    e < 8192 →
    s.get Reg.FAB.STAT_RUN = 1 →
    s.get (Reg.FAB.ESE_CFG_VALID e) = 1 →
    s.get (Reg.FAB.ESE_HANDLE e) ≠ 0 →
    Assoc.find s.fab.egr e = some x →
    x.stopping = false →
    off = false →
    (s.outputLanes e).all (fun k => s.txLocked k) = true →
    x.lane = 2 ∨ (x.lane = 1 ∧ holdBad = true) →
    ∃ t, exec (.outputFrameSend e taken off holdBad) s = .next t ∧
      ((t.out.filterMap fun o => match o with | .frame x => some (x.entry, x.code, x.frame.picture, x.frame.tstate) | _ => none).head?) = some (e, 3, blackPicture x.fmt, 1) ∧
      (t.egr e).lane = 2 ∧
      (x.lane = 1 → (t.egr e).holdBad = true)) ∧
  (∀ (s : State) (e n taken : Nat) (off holdBad : Bool) (x : Egress) (f : Frame),
    s.get (Reg.FAB.ESE_CFG_KIND e) = 3 →
    n = s.outLane (State.handleIdx (s.get (Reg.FAB.ESE_HANDLE e))) →
    n < 512 →
    s.halfSends n = true →
    e < 8192 →
    s.get Reg.FAB.STAT_RUN = 1 →
    s.get (Reg.FAB.ESE_CFG_VALID e) = 1 →
    s.get (Reg.FAB.ESE_HANDLE e) ≠ 0 →
    Assoc.find s.fab.egr e = some x →
    x.stopping = false →
    off = false →
    (s.outputLanes e).all (fun k => s.txLocked k) = true →
    x.lane = 0 →
    x.cur = some f →
    f.tstate ≠ 1 →
    ∃ t, exec (.outputFrameSend e taken off holdBad) s = .next t ∧
      ((t.out.filterMap fun o => match o with | .frame y => (if y.entry = e then some (y.code, y.hop, y.frame.picture, y.frame.fmt, y.frame.tstate) else none) | _ => none).head?) = some (1, some (s.hopTag n (s.chanStream (State.handleIdx (s.get (Reg.FAB.ESE_HANDLE e))))), f.picture, x.fmt, (if x.failed.isSome then 2 else f.tstate))) ∧
  (∀ (s : State) (e n taken : Nat) (off holdBad : Bool) (x : Egress) (f : Frame),
    s.get (Reg.FAB.ESE_CFG_KIND e) = 2 →
    n = 0 →
    e < 8192 →
    s.get Reg.FAB.STAT_RUN = 1 →
    s.get (Reg.FAB.ESE_CFG_VALID e) = 1 →
    s.get (Reg.FAB.ESE_HANDLE e) ≠ 0 →
    Assoc.find s.fab.egr e = some x →
    x.stopping = false →
    off = false →
    (s.outputLanes e).all (fun k => s.txLocked k) = true →
    x.lane = 0 →
    x.cur = some f →
    f.tstate ≠ 1 →
    ∃ t, exec (.outputFrameSend e taken off holdBad) s = .next t ∧
      (t.out = .frame { entry := e, code := 1, frame := { f with tstate := if x.failed.isSome then 2 else f.tstate }, disp := x.disp, inserted := [], links := [], hop := none, cell := none, path := [] } :: s.out) ∧
      (t.egr e).content = true ∧
      (t.egr e).lane = 0) ∧
  (∀ (s : State) (e taken : Nat) (off holdBad : Bool) (x : Egress),
    e < 8192 →
    s.get Reg.FAB.STAT_RUN = 1 →
    s.get (Reg.FAB.ESE_CFG_VALID e) = 1 →
    s.get (Reg.FAB.ESE_CFG_KIND e) = 2 →
    s.get (Reg.FAB.ESE_HANDLE e) ≠ 0 →
    Assoc.find s.fab.egr e = some x →
    x.stopping = false →
    x.failed = none →
    off = true →
    s.get Reg.PROV.CTRL_EN = 1 →
    ∃ t, exec (.outputFrameSend e taken off holdBad) s = .next t ∧
      (t.egr e).failed = some 9 ∧
      t.get (Reg.PROV.OUT_CAUSE e) = 9)

/-- IP media: releases, legs, ticks and sends. IPM_FRAME_RELEASE of no receive flow changes nothing, nor of one that is not
video, whose repair buffer is empty or whose next frame is not due. When it is due its packets leave the buffer, whatever
else holds. A sound frame of ST 2110-20 is written to the entry of its flow with the picture its packets carry; one that
contradicts its declared format raises its event and stops the entry. While a ST 2022-6 engine has not found the declared
format no frame is written. LEG_DOWN of a leg not UP, or of no flow, changes nothing. That of the last leg UP takes the flow
down too; while another leg stands the flow stays up. AUDIO_SAMPLE_TICK of no flow changes nothing, nor of one without a
channel or no audio flow; and one sample enters at each tick. With no sample due silence enters, and a flow that is UP
counts a loss for each packet time of them; the sample due at the tick enters; corrected when one bit of its word is
flipped, and as silence when more are. A drift of a whole sample moves the mapping by one sample. IPM_PACKET_SEND of no
flow, or of one with no frame to send, does nothing. Otherwise it counts a packet and advances the sequence number: of an
ANC flow it sends the next ANC packet, and the last ends the frame; of ST 2022-6 the next datagram; of ST 2110-20 the next
1,260 bytes of a line, line by line. AUDIO_FLOW_SEND sends one packet of the next samples that have left the matrix, of the
newest where they are no longer held, and waits while too few have; of no audio flow it sends nothing. Rests on parts of
R224, R227, R235, R239, R240, R241. (08_ip_media.md) -/
def Obligations.MediaFlows : Prop :=
  (∀ (s : State) (n : Nat) (pic : List Pix) (anc : List AncPkt),
    Assoc.find s.ipm.rx n = none →
    ∃ t, exec (.ipmFrameRelease n pic anc) s = .next t ∧
      t = s) ∧
  (∀ (s : State) (n : Nat) (x : RxFlow) (pic : List Pix) (anc : List AncPkt),
    Assoc.find s.ipm.rx n = some x →
    (dType x.desc ≠ 0 ∧ dType x.desc ≠ 4) ∨ x.pkts = [] ∨ 3 * (s.timeNs : Int) < s.releaseDue n x (State.flowFrame (dType x.desc) (s.flowFmt x) x.pkts).1.1 →
    ∃ t, exec (.ipmFrameRelease n pic anc) s = .next t ∧
      t = s) ∧
  (∀ (s : State) (n e : Nat) (x : RxFlow) (ps : List FlowPkt) (z : FlowPkt) (pic : List Pix) (anc : List AncPkt),
    n < 4096 →
    Assoc.find s.ipm.rx n = some x →
    dType x.desc = 0 ∨ dType x.desc = 4 →
    ps = (State.flowFrame (dType x.desc) (s.flowFmt x) x.pkts).1.1 →
    ps.getLast? = some z →
    s.releaseDue n x ps ≤ 3 * (s.timeNs : Int) →
    e = s.flowEntry x →
    ∃ t, exec (.ipmFrameRelease n pic anc) s = .next t ∧
      (∃ y, Assoc.find t.ipm.rx n = some y ∧ y.pkts = x.pkts.filter (fun p => decide (z.seq < p.seq)) ∧ y.ended = some z.seq ∧ y.desc = x.desc) ∧
      t.get Reg.IPM.PMEMOCC ≤ t.get Reg.IPM.PMEMPEAK) ∧
  (∀ (s : State) (n e : Nat) (x : RxFlow) (ps : List FlowPkt) (z : FlowPkt) (pic : List Pix) (anc : List AncPkt) (i : Ingress),
    dType x.desc = 0 →
    n < 4096 →
    Assoc.find s.ipm.rx n = some x →
    dType x.desc = 0 ∨ dType x.desc = 4 →
    ps = (State.flowFrame (dType x.desc) (s.flowFmt x) x.pkts).1.1 →
    ps.getLast? = some z →
    s.releaseDue n x ps ≤ 3 * (s.timeNs : Int) →
    e = s.flowEntry x →
    (State.flowFrame 0 (s.flowFmt x) x.pkts).2 = true →
    (ps.any fun p => p.bad || p.struck || p.token.isSome) = false →
    s.prov.inverted = [] →
    e < 8192 →
    Assoc.find s.fab.ing e = some i →
    i.writing = true →
    i.moveTo = none →
    s.get Reg.PROV.TOKINJ_ARM = 0 →
    ∃ t, exec (.ipmFrameRelease n pic anc) s = .next t ∧
      (∃ g, (t.ing e).cur = some g ∧ g.fmt = s.flowFmt x ∧ g.picture = State.flowPicture (s.flowFmt x) ps ∧ g.tstate = 0 ∧ g.poisoned = false)) ∧
  (∀ (s : State) (n e : Nat) (x : RxFlow) (ps : List FlowPkt) (z : FlowPkt) (pic : List Pix) (anc : List AncPkt),
    n < 4096 →
    Assoc.find s.ipm.rx n = some x →
    dType x.desc = 0 ∨ dType x.desc = 4 →
    ps = (State.flowFrame (dType x.desc) (s.flowFmt x) x.pkts).1.1 →
    ps.getLast? = some z →
    s.releaseDue n x ps ≤ 3 * (s.timeNs : Int) →
    e = s.flowEntry x →
    ((State.flowFrame (dType x.desc) (s.flowFmt x) x.pkts).2 && !(ps.any fun p => p.bad)) = false →
    e < 8192 →
    (Assoc.find s.fab.ing e).isSome = true →
    ∃ t, exec (.ipmFrameRelease n pic anc) s = .next t ∧
      (t.ing e).writing = false ∧
      t.get (Reg.FAB.ISE_ALIGN_STATE e) = 0 ∧
      Raised 904 t) ∧
  (∀ (s : State) (n e : Nat) (x : RxFlow) (ps : List FlowPkt) (z : FlowPkt) (pic : List Pix) (anc : List AncPkt) (i : Ingress),
    n < 4096 →
    Assoc.find s.ipm.rx n = some x →
    dType x.desc = 0 ∨ dType x.desc = 4 →
    ps = (State.flowFrame (dType x.desc) (s.flowFmt x) x.pkts).1.1 →
    ps.getLast? = some z →
    s.releaseDue n x ps ≤ 3 * (s.timeNs : Int) →
    e = s.flowEntry x →
    (State.flowFrame (dType x.desc) (s.flowFmt x) x.pkts).2 = true →
    (ps.any fun p => p.bad) = false →
    e < 8192 →
    Assoc.find s.fab.ing e = some i →
    i.writing = false →
    dType x.desc = 4 →
    ∃ t, exec (.ipmFrameRelease n pic anc) s = .next t ∧
      (t.ing e).cur = i.cur) ∧
  (∀ (s : State) (n g : Nat),
    Assoc.find s.ipm.rx n = none ∨ s.get (State.legReg n g) ≤ 1 →
    ∃ t, exec (.legDown n g) s = .next t ∧
      t = s) ∧
  (∀ (s : State) (n g : Nat) (x : RxFlow),
    n < 4096 →
    Assoc.find s.ipm.rx n = some x →
    2 ≤ s.get (State.legReg n g) →
    (dLegs x.desc).all (fun k => decide (k % 2 = g % 2) || s.get (State.legReg n k) == 1) = true →
    g < 2 →
    ∃ t, exec (.legDown n g) s = .next t ∧
      t.get (State.legReg n g) = 1 ∧
      (∃ y, Assoc.find t.ipm.rx n = some y ∧ y.up = false ∧ y.known = false ∧ y.pkts = x.pkts) ∧
      Raised 898 t ∧
      Raised 899 t) ∧
  (∀ (s : State) (n g : Nat) (x : RxFlow),
    n < 4096 →
    Assoc.find s.ipm.rx n = some x →
    2 ≤ s.get (State.legReg n g) →
    g < 2 →
    dDual x.desc = true →
    s.get (State.legReg n (1 - g)) ≠ 1 →
    ∃ t, exec (.legDown n g) s = .next t ∧
      t.get (State.legReg n g) = 1 ∧
      t.get (State.legReg n (1 - g)) = s.get (State.legReg n (1 - g)) ∧
      t.ipm = s.ipm ∧
      Raised 898 t ∧
      RegsKept [.ipm, .flt] s t) ∧
  (∀ (s : State) (n flips : Nat),
    Assoc.find s.ipm.rx n = none →
    ∃ t, exec (.audioSampleTick n flips) s = .next t ∧
      t = s) ∧
  (∀ (s : State) (n flips : Nat) (x : RxFlow),
    Assoc.find s.ipm.rx n = some x →
    (s.chan x.chan = none ∨ (dType x.desc ≠ 1 ∧ dType x.desc ≠ 2) ∨ (x.map.any fun m => m.2.2 == s.sampleTick) = true) →
    ∃ t, exec (.audioSampleTick n flips) s = .next t ∧
      t = s) ∧
  (∀ (s : State) (n : Nat) (x : RxFlow) (c : Chan),
    n < 4096 →
    Assoc.find s.ipm.rx n = some x →
    s.chan x.chan = some c →
    dType x.desc = 1 ∨ dType x.desc = 2 →
    x.map = none →
    x.audio = [] →
    s.prov.inverted = [] →
    ∃ t, exec (.audioSampleTick n 0) s = .next t ∧
      t.get (Reg.IPM.RXF_LOST n) = (s.get (Reg.IPM.RXF_LOST n) + b2n (x.up && x.missing % max 1 (dSpp x.desc) == 0)) % 2 ^ 32 ∧
      (∃ y, Assoc.find t.ipm.rx n = some y ∧ y.missing = x.missing + 1) ∧
      RegsKept [.ipm] s t ∧
      t = { s with regs := t.regs, ipm := t.ipm, aud := t.aud }) ∧
  (∀ (s : State) (n u : Nat) (x : RxFlow) (c : Chan) (k l : Int) (r : List Sample),
    n < 4096 →
    Assoc.find s.ipm.rx n = some x →
    s.chan x.chan = some c →
    dType x.desc = 1 ∨ dType x.desc = 2 →
    x.map = some (k, l, u) →
    u ≠ s.sampleTick →
    -1000000 < s.mediaLead n x.desc - l →
    s.mediaLead n x.desc - l < 1000000 →
    Assoc.find x.audio ((s.sampleTick : Int) + k).toNat = some r →
    s.prov.inverted = [] →
    ∃ t, exec (.audioSampleTick n 0) s = .next t ∧
      (∃ y, Assoc.find t.ipm.rx n = some y ∧ y.last = r ∧ y.missing = 0 ∧ y.map = some (k, l, s.sampleTick)) ∧
      t.regs = s.regs ∧
      t = { s with ipm := t.ipm, aud := t.aud }) ∧
  (∀ (s : State) (n u : Nat) (x : RxFlow) (c : Chan) (k l : Int) (r : List Sample),
    n < 4096 →
    Assoc.find s.ipm.rx n = some x →
    s.chan x.chan = some c →
    dType x.desc = 1 ∨ dType x.desc = 2 →
    x.map = some (k, l, u) →
    u ≠ s.sampleTick →
    -1000000 < s.mediaLead n x.desc - l →
    s.mediaLead n x.desc - l < 1000000 →
    Assoc.find x.audio ((s.sampleTick : Int) + k).toNat = some r →
    s.prov.inverted = [] →
    ∃ t, exec (.audioSampleTick n 1) s = .next t ∧
      t.get (Reg.PROV.ECC_CORR 1) = (s.get (Reg.PROV.ECC_CORR 1) + 1) % 2 ^ (Reg.PROV.ECC_CORR 0).width ∧
      Raised 18 t ∧
      (∃ y, Assoc.find t.ipm.rx n = some y ∧ y.last = r ∧ y.missing = 0) ∧
      RegsKept [.prov, .flt] s t) ∧
  (∀ (s : State) (n u flips g : Nat) (x : RxFlow) (c : Chan) (k l : Int) (r : List Sample),
    n < 4096 →
    Assoc.find s.ipm.rx n = some x →
    s.chan x.chan = some c →
    dType x.desc = 1 ∨ dType x.desc = 2 →
    x.map = some (k, l, u) →
    u ≠ s.sampleTick →
    -1000000 < s.mediaLead n x.desc - l →
    s.mediaLead n x.desc - l < 1000000 →
    Assoc.find x.audio ((s.sampleTick : Int) + k).toNat = some r →
    s.prov.inverted = [] →
    2 ≤ flips →
    c.gin = [g] →
    1 ≤ dVoices x.desc →
    (s.inVoice (4 * g)).cur.length = s.sampleTick % 64 →
    s.get Reg.AUD.STAT_RUN = 1 →
    ∃ t, exec (.audioSampleTick n flips) s = .next t ∧
      t.get (Reg.PROV.ECC_UNCORR 1) = (s.get (Reg.PROV.ECC_UNCORR 1) + 1) % 2 ^ (Reg.PROV.ECC_UNCORR 0).width ∧
      (t.inVoice (4 * g)).cur = (s.inVoice (4 * g)).cur ++ [State.silence] ∧
      RegsKept [.prov] s t) ∧
  (∀ (s : State) (n u flips : Nat) (x : RxFlow) (c : Chan) (k l : Int) (d : Int),
    n < 4096 →
    Assoc.find s.ipm.rx n = some x →
    s.chan x.chan = some c →
    dType x.desc = 1 ∨ dType x.desc = 2 →
    x.map = some (k, l, u) →
    u ≠ s.sampleTick →
    (d = 1 ∧ 1000000 ≤ s.mediaLead n x.desc - l) ∨ (d = -1 ∧ s.mediaLead n x.desc - l ≤ -1000000) →
    ∃ t, exec (.audioSampleTick n flips) s = .next t ∧
      (∃ y, Assoc.find t.ipm.rx n = some y ∧ y.map = some (k + d, l + 1000000 * d, s.sampleTick))) ∧
  (∀ (s : State) (n : Nat),
    (Assoc.find s.ipm.tx n = none ∨ (Assoc.find s.ipm.tx n).any (fun x => x.cur.isNone) = true) →
    ∃ t, exec (.ipmPacketSend n) s = .next t ∧
      t = s) ∧
  (∀ (s : State) (n : Nat) (x : TxFlow) (c : TxFrame),
    n < 4096 →
    Assoc.find s.ipm.tx n = some x →
    dType x.desc = 3 →
    x.cur = some c →
    ∃ t, exec (.ipmPacketSend n) s = .next t ∧
      t.get (Reg.IPM.TXF_SEQ n) = x.seq % 65536 ∧
      t.get (Reg.IPM.TXF_PKTS n) = (s.get (Reg.IPM.TXF_PKTS n) + 1) % 2 ^ 32 ∧
      (Assoc.find t.ipm.tx n = some { x with seq := (x.seq + 1) % 2 ^ 32, cur := if c.anc.length ≤ 1 then none else some { c with anc := c.anc.drop 1 } })) ∧
  (∀ (s : State) (n : Nat) (x : TxFlow) (c : TxFrame),
    n < 4096 →
    Assoc.find s.ipm.tx n = some x →
    dType x.desc = 4 →
    x.cur = some c →
    ∃ t, exec (.ipmPacketSend n) s = .next t ∧
      t.get (Reg.IPM.TXF_SEQ n) = x.seq % 65536 ∧
      t.get (Reg.IPM.TXF_PKTS n) = (s.get (Reg.IPM.TXF_PKTS n) + 1) % 2 ^ 32 ∧
      (Assoc.find t.ipm.tx n = some { x with seq := (x.seq + 1) % 2 ^ 32, cur := if State.s6Datagrams c.frame.fmt ≤ c.x + 1 then none else some { c with x := c.x + 1, first := false } })) ∧
  (∀ (s : State) (n m : Nat) (x : TxFlow) (c : TxFrame),
    n < 4096 →
    Assoc.find s.ipm.tx n = some x →
    dType x.desc = 0 →
    x.cur = some c →
    m = min (State.packetPixels c.frame.fmt) (fmtWidth c.frame.fmt - c.x) →
    ∃ t, exec (.ipmPacketSend n) s = .next t ∧
      t.get (Reg.IPM.TXF_SEQ n) = x.seq % 65536 ∧
      t.get (Reg.IPM.TXF_PKTS n) = (s.get (Reg.IPM.TXF_PKTS n) + 1) % 2 ^ 32 ∧
      (Assoc.find t.ipm.tx n = some { x with seq := (x.seq + 1) % 2 ^ 32, cur := if c.x + m < fmtWidth c.frame.fmt then some { c with x := c.x + m, first := false } else if c.row + 1 = (rowOrder c.frame.fmt).length then none else some { c with row := c.row + 1, x := 0, first := false } })) ∧
  (∀ (s : State) (n k f : Nat) (x : TxFlow) (c : Chan),
    n < 4096 →
    Assoc.find s.ipm.tx n = some x →
    s.chan x.chan = some c →
    dType x.desc = 1 ∨ dType x.desc = 2 →
    k = dSpp x.desc →
    (f = (if x.next + 256 < s.aud.block * 64 then s.aud.block * 64 - k else x.next)) →
    f + k ≤ s.aud.block * 64 →
    ∃ t, exec (.audioFlowSend n) s = .next t ∧
      t.get (Reg.IPM.TXF_SEQ n) = x.seq % 65536 ∧
      t.get (Reg.IPM.TXF_PKTS n) = (s.get (Reg.IPM.TXF_PKTS n) + 1) % 2 ^ 32 ∧
      Assoc.find t.ipm.tx n = some { x with seq := (x.seq + 1) % 2 ^ 32, next := f + k } ∧
      t.aud = s.aud) ∧
  (∀ (s : State) (n : Nat) (x : TxFlow),
    Assoc.find s.ipm.tx n = some x →
    s.chan x.chan = none ∨ (dType x.desc ≠ 1 ∧ dType x.desc ≠ 2) ∨ (s.aud.block * 64 ≤ x.next + 256 ∧ s.aud.block * 64 < x.next + dSpp x.desc) →
    ∃ t, exec (.audioFlowSend n) s = .next t ∧
      t = s)

/-- IGMP membership, join watch and policed packets. IGMP_REPORT_TIMER of a group not held, or whose repeat is done, sends
nothing. Otherwise it repeats the report once: of IGMPv3 with the source or for any source, in compatibility of IGMPv2. So
it repeats a leave, and the group is gone. Before the fabric is enabled the port sends idle, so nothing is sent. An IGMPv2
query enters or extends compatibility for 250 s and the response time; entering it raises an event. A query is answered with
the reports of the groups of its port that it asks for; before the fabric is enabled with none. IGMP_COMPAT_TIMEOUT ends the
compatibility of its port. JOIN_TIMEOUT of a leg that has had a packet, or has no group, changes nothing. Of another it
raises its event once, and repeats the report afterwards. POLDROP_ACCUMULATE adds the growth of each flow's 24-bit POLDROP,
modulo 2^24, to its count of 64 bits. Rests on parts of R219, R232. (08_ip_media.md) -/
def Obligations.MediaGroups : Prop :=
  (∀ (s : State) (p g : Nat),
    (Assoc.find s.ipm.igmp (State.igmpKey p g)).all (fun q => !q.again) = true →
    ∃ t, exec (.igmpReportTimer p g) s = .next t ∧
      t = s) ∧
  (∀ (s : State) (p g v : Nat) (q : IgmpGroup),
    Assoc.find s.ipm.igmp (State.igmpKey p g) = some q →
    q.again = true →
    q.leaving = false →
    s.get Reg.FAB.STAT_RUN = 1 →
    (v = (if s.igmpV2 p = true then 0 else q.src)) →
    ∃ t, exec (.igmpReportTimer p g) s = .next t ∧
      (t.out = .igmp p (if s.igmpV2 p = true then 3 else if q.src = 0 then 1 else 0) g v :: s.out) ∧
      Assoc.find t.ipm.igmp (State.igmpKey p g) = some { q with again := false } ∧
      t = { s with ipm := t.ipm, out := t.out }) ∧
  (∀ (s : State) (p g : Nat) (q : IgmpGroup),
    Assoc.find s.ipm.igmp (State.igmpKey p g) = some q →
    q.again = true →
    q.leaving = true →
    s.get Reg.FAB.STAT_RUN = 1 →
    ∃ t, exec (.igmpReportTimer p g) s = .next t ∧
      (t.out = .igmp p (if s.igmpV2 p = true then 4 else 2) g 0 :: s.out) ∧
      t = { s with ipm := t.ipm, out := t.out } ∧
      Assoc.find t.ipm.igmp (State.igmpKey p g) = none) ∧
  (∀ (s : State) (p g : Nat) (q : IgmpGroup),
    Assoc.find s.ipm.igmp (State.igmpKey p g) = some q →
    s.get Reg.FAB.STAT_RUN = 0 →
    ∃ t, exec (.igmpReportTimer p g) s = .next t ∧
      t = { s with ipm := t.ipm }) ∧
  (∀ (s : State) (p r g : Nat),
    ∃ t, exec (.igmpQueryRx p 2 g r) s = .next t ∧
      Assoc.find t.ipm.compat p = some (s.now + 250000000000 + r) ∧
      (s.igmpV2 p = false → Raised 909 t) ∧
      (s.igmpV2 p = true → t.flt = s.flt) ∧
      t.ipm.igmp = s.ipm.igmp) ∧
  (∀ (s : State) (p v g r : Nat) (l : List (Nat × IgmpGroup)),
    s.get Reg.FAB.STAT_RUN = 1 →
    (l = s.ipm.igmp.filter (fun q => q.1 / 2 ^ 32 == p && !q.2.leaving && (g == 0 || q.1 % 2 ^ 32 == g))) →
    ∃ t, exec (.igmpQueryRx p v g r) s = .next t ∧
      (t.out = (l.map fun q => if v = 2 ∨ s.igmpV2 p = true then .igmp p 3 (q.1 % 2 ^ 32) 0 else .igmp p (if q.2.src = 0 then 1 else 0) (q.1 % 2 ^ 32) q.2.src).reverse ++ s.out) ∧
      (v ≠ 2 → t = { s with out := t.out })) ∧
  (∀ (s : State) (p v g r : Nat),
    s.get Reg.FAB.STAT_RUN = 0 →
    ∃ t, exec (.igmpQueryRx p v g r) s = .next t ∧
      t.out = s.out ∧
      (v ≠ 2 → t = s)) ∧
  (∀ (s : State) (p k : Nat),
    k ≠ p →
    ∃ t, exec (.igmpCompatTimeout p) s = .next t ∧
      Assoc.find t.ipm.compat p = none ∧
      Assoc.find t.ipm.compat k = Assoc.find s.ipm.compat k ∧
      t = { s with ipm := { s.ipm with compat := t.ipm.compat } }) ∧
  (∀ (s : State) (n g : Nat),
    (Assoc.find s.ipm.rx n).all (fun x => x.got.contains g || !(dLegs x.desc).contains g || !isGroup (legDst x.desc g)) = true →
    ∃ t, exec (.joinTimeout n g) s = .next t ∧
      t = s) ∧
  (∀ (s : State) (n g : Nat) (x : RxFlow),
    n < 4096 →
    Assoc.find s.ipm.rx n = some x →
    x.got.contains g = false →
    (dLegs x.desc).contains g = true →
    isGroup (legDst x.desc g) = true →
    x.joinLate.contains g = false →
    ∃ t, exec (.joinTimeout n g) s = .next t ∧
      Raised 910 t ∧
      Assoc.find t.ipm.rx n = some { x with joinLate := g :: x.joinLate } ∧
      t.out = s.out) ∧
  (∀ (s : State) (n g : Nat) (x : RxFlow),
    Assoc.find s.ipm.rx n = some x →
    x.got.contains g = false →
    (dLegs x.desc).contains g = true →
    isGroup (legDst x.desc g) = true →
    x.joinLate.contains g = true →
    s.get Reg.FAB.STAT_RUN = 1 →
    s.igmpV2 (legPort x.desc g) = false →
    ∃ t, exec (.joinTimeout n g) s = .next t ∧
      (t = { s with out := .igmp (legPort x.desc g) (if legSrc x.desc g = 0 then 1 else 0) (legDst x.desc g) (legSrc x.desc g) :: s.out })) ∧
  (∀ (s : State),
    (s.ipm.rx.map fun p => p.1).Nodup →
    ∃ t, exec (.poldropAccumulate) s = .next t ∧
      (t.ipm.rx = s.ipm.rx.map fun p => (p.1, { p.2 with polTotal := (p.2.polTotal + (s.get (Reg.IPM.RXF_POLDROP p.1) + 2 ^ 24 - p.2.polLast) % 2 ^ 24) % 2 ^ 64, polLast := s.get (Reg.IPM.RXF_POLDROP p.1) })) ∧
      t = { s with ipm := t.ipm })

/-- Ethernet receive, statistics and pauses. A port that does not run or has no PCS lock receives nothing. Another counts
corrected and uncorrectable FEC codewords. A frame with such a codeword, or whose FCS is wrong, is counted in RXFCS and goes
nowhere; one too short or too long in RXLEN; one of no accepted tag or address in RXDROP. An accepted frame counts itself
and its octets, and one with a wrong checksum goes no further. Of a sound frame to a control port: with the FIFO full it is
dropped with its cause; without a descriptor in ring 1 it is counted in RINGDROP; else it is written to the buffer, and its
descriptor given back with its length. At an E-port a group datagram that no leg, PTP or firmware entry takes counts in
UNMATCH. A PAUSE or PFC frame is counted; a port that obeys none, or after a watchdog, takes no more from it; an obeyed
PAUSE holds the port, an obeyed PFC a class. PAUSE_EXPIRE of no hold, or before its time, does nothing; it ends a hold whose
time is over, and the media packets that waited for it leave. PAUSE_WD of no hold, before the limit or with PAUSEWD 0 does
nothing; PAUSEWD microseconds into the hold it ends it, and shows WDHOLD with its cause. PAUSE_WD_RELEASE, 1 s later, clears
WDHOLD, and not before. STATSNAP copies the running counters into the snapshot and restarts them; with bit 0 clear it does
nothing. STATS_SNAP_PERIOD does so for every port and adds the snapshot to its totals. Rests on parts of R362, R364, R369,
R371, R377, R378. (14_ethernet_mac.md) -/
def Obligations.EthernetReceiveAndCounts : Prop :=
  (∀ (s : State) (p a b : Nat) (l : List Byte) (f : Bool),
    66 ≤ p ∨ s.get (Reg.ETH.STAT_RUN p) = 0 ∨ (s.ethPort p).locked = false →
    ∃ t, exec (.ethFrameRx p l a b f) s = .next t ∧
      t = s) ∧
  (∀ (s : State) (p a b : Nat) (l : List Byte) (f : Bool),
    p < 66 →
    s.get (Reg.ETH.STAT_RUN p) = 1 →
    (s.ethPort p).locked = true →
    (s.ethPort p).ctr.length = 13 →
    ∃ t, exec (.ethFrameRx p l a b f) s = .next t ∧
      (t.ethPort p).ctr.getD 11 0 = min (State.ctrMax 11) ((s.ethPort p).ctr.getD 11 0 + a) ∧
      (t.ethPort p).ctr.getD 12 0 = min (State.ctrMax 12) ((s.ethPort p).ctr.getD 12 0 + b)) ∧
  (∀ (s : State) (p a b : Nat) (l : List Byte) (f : Bool),
    p < 66 →
    s.get (Reg.ETH.STAT_RUN p) = 1 →
    (s.ethPort p).locked = true →
    (s.ethPort p).ctr.length = 13 →
    b ≠ 0 ∨ fcsRight l = false →
    ∃ t, exec (.ethFrameRx p l a b f) s = .next t ∧
      (t.ethPort p).ctr.getD 4 0 = min (State.ctrMax 4) ((s.ethPort p).ctr.getD 4 0 + 1) ∧
      (t.ethPort p).ctr.getD 0 0 = (s.ethPort p).ctr.getD 0 0 ∧
      RegsKept [.eth, .flt] s t ∧
      t.out = s.out ∧
      MemoryKept s t ∧
      t = { s with regs := t.regs, eth := t.eth, flt := t.flt, lastRaise := t.lastRaise }) ∧
  (∀ (s : State) (p a b : Nat) (l : List Byte) (f : Bool),
    p < 66 →
    s.get (Reg.ETH.STAT_RUN p) = 1 →
    (s.ethPort p).locked = true →
    (s.ethPort p).ctr.length = 13 →
    b = 0 →
    fcsRight l = true →
    l.length < 64 ∨ s.maxFrm p < l.length →
    ∃ t, exec (.ethFrameRx p l a b f) s = .next t ∧
      (t.ethPort p).ctr.getD 5 0 = min (State.ctrMax 5) ((s.ethPort p).ctr.getD 5 0 + 1) ∧
      (t.ethPort p).ctr.getD 0 0 = (s.ethPort p).ctr.getD 0 0 ∧
      RegsKept [.eth, .flt] s t ∧
      t.out = s.out ∧
      MemoryKept s t) ∧
  (∀ (s : State) (p a b : Nat) (l : List Byte) (f : Bool),
    p < 66 →
    s.get (Reg.ETH.STAT_RUN p) = 1 →
    (s.ethPort p).locked = true →
    (s.ethPort p).ctr.length = 13 →
    b = 0 →
    fcsRight l = true →
    64 ≤ l.length →
    l.length ≤ s.maxFrm p →
    etherType l ≠ 0x8808 ∨ (field l (etherAt l + 2) 2 ≠ 1 ∧ field l (etherAt l + 2) 2 ≠ 0x0101) →
    tagsOk l = false ∨ s.destOk p (field l 0 6) = false →
    ∃ t, exec (.ethFrameRx p l a b f) s = .next t ∧
      (t.ethPort p).ctr.getD 7 0 = min (State.ctrMax 7) ((s.ethPort p).ctr.getD 7 0 + 1) ∧
      (t.ethPort p).ctr.getD 0 0 = (s.ethPort p).ctr.getD 0 0 ∧
      RegsKept [.eth, .flt] s t ∧
      t.out = s.out ∧
      MemoryKept s t) ∧
  (∀ (s : State) (p a b : Nat) (l : List Byte) (f : Bool),
    p < 66 →
    s.get (Reg.ETH.STAT_RUN p) = 1 →
    (s.ethPort p).locked = true →
    (s.ethPort p).ctr.length = 13 →
    b = 0 →
    fcsRight l = true →
    64 ≤ l.length →
    l.length ≤ s.maxFrm p →
    etherType l ≠ 0x8808 ∨ (field l (etherAt l + 2) 2 ≠ 1 ∧ field l (etherAt l + 2) 2 ≠ 0x0101) →
    tagsOk l = true →
    s.destOk p (field l 0 6) = true →
    checksumsOk l = false →
    ∃ t, exec (.ethFrameRx p l a b f) s = .next t ∧
      (t.ethPort p).ctr.getD 0 0 = min (State.ctrMax 0) ((s.ethPort p).ctr.getD 0 0 + 1) ∧
      (t.ethPort p).ctr.getD 2 0 = min (State.ctrMax 2) ((s.ethPort p).ctr.getD 2 0 + l.length) ∧
      (t.ethPort p).ctr.getD 6 0 = min (State.ctrMax 6) ((s.ethPort p).ctr.getD 6 0 + 1) ∧
      RegsKept [.eth, .flt] s t ∧
      t.out = s.out ∧
      MemoryKept s t) ∧
  (∀ (s : State) (p a b : Nat) (l : List Byte) (f : Bool),
    p = 64 ∨ p = 65 →
    s.get (Reg.ETH.STAT_RUN p) = 1 →
    (s.ethPort p).locked = true →
    (s.ethPort p).ctr.length = 13 →
    b = 0 →
    fcsRight l = true →
    64 ≤ l.length →
    l.length ≤ s.maxFrm p →
    etherType l ≠ 0x8808 ∨ (field l (etherAt l + 2) 2 ≠ 1 ∧ field l (etherAt l + 2) 2 ≠ 0x0101) →
    tagsOk l = true →
    s.destOk p (field l 0 6) = true →
    checksumsOk l = true →
    f = true →
    ∃ t, exec (.ethFrameRx p l a b f) s = .next t ∧
      (t.ethPort p).ctr.getD 0 0 = min (State.ctrMax 0) ((s.ethPort p).ctr.getD 0 0 + 1) ∧
      (t.ethPort p).ctr.getD 2 0 = min (State.ctrMax 2) ((s.ethPort p).ctr.getD 2 0 + l.length) ∧
      (t.ethPort p).ctr.getD 7 0 = min (State.ctrMax 7) ((s.ethPort p).ctr.getD 7 0 + 1) ∧
      bit (t.get (Reg.ETH.EVSTAT p)) 4 = true ∧
      RegsKept [.eth, .flt] s t ∧
      MemoryKept s t) ∧
  (∀ (s : State) (p a b : Nat) (l : List Byte) (f : Bool) (c h : Nat),
    p = 64 ∨ p = 65 →
    s.get (Reg.ETH.STAT_RUN p) = 1 →
    (s.ethPort p).locked = true →
    (s.ethPort p).ctr.length = 13 →
    b = 0 →
    fcsRight l = true →
    64 ≤ l.length →
    l.length ≤ s.maxFrm p →
    etherType l ≠ 0x8808 ∨ (field l (etherAt l + 2) 2 ≠ 1 ∧ field l (etherAt l + 2) 2 ≠ 0x0101) →
    tagsOk l = true →
    s.destOk p (field l 0 6) = true →
    checksumsOk l = true →
    f = false →
    h = s.get (Reg.ETH.RXRING_HEAD p 1) →
    c = s.use (Reg.ETH.RXRING_SIZE_COUNT p 1) →
    s.descOwn (State.descAt (s.use (Reg.ETH.RXRING_BASE p 1)) c h) = false ∨ c = 0 →
    ∃ t, exec (.ethFrameRx p l a b f) s = .next t ∧
      (t.ethPort p).ctr.getD 0 0 = min (State.ctrMax 0) ((s.ethPort p).ctr.getD 0 0 + 1) ∧
      (t.ethPort p).ctr.getD 10 0 = min (State.ctrMax 10) ((s.ethPort p).ctr.getD 10 0 + 1) ∧
      t.get (Reg.ETH.RXRING_HEAD p 1) = h ∧
      RegsKept [.eth, .flt] s t ∧
      MemoryKept s t) ∧
  (∀ (s : State) (p a b : Nat) (l : List Byte) (f : Bool) (c h d q : Nat),
    p = 64 ∨ p = 65 →
    s.get (Reg.ETH.STAT_RUN p) = 1 →
    (s.ethPort p).locked = true →
    (s.ethPort p).ctr.length = 13 →
    b = 0 →
    fcsRight l = true →
    64 ≤ l.length →
    l.length ≤ s.maxFrm p →
    etherType l ≠ 0x8808 ∨ (field l (etherAt l + 2) 2 ≠ 1 ∧ field l (etherAt l + 2) 2 ≠ 0x0101) →
    tagsOk l = true →
    s.destOk p (field l 0 6) = true →
    checksumsOk l = true →
    f = false →
    h = s.get (Reg.ETH.RXRING_HEAD p 1) →
    c = s.use (Reg.ETH.RXRING_SIZE_COUNT p 1) →
    2 ≤ c →
    c ≤ 1024 →
    d = State.descAt (s.use (Reg.ETH.RXRING_BASE p 1)) c h →
    s.descOwn d = true →
    l.length - 4 ≤ s.use (Reg.ETH.RXRING_SIZE_BUFSZ p 1) →
    q = s.sram32 d →
    q + 9216 ≤ d ∨ d + 16 ≤ q →
    ∃ t, exec (.ethFrameRx p l a b f) s = .next t ∧
      (t.ethPort p).ctr.getD 0 0 = min (State.ctrMax 0) ((s.ethPort p).ctr.getD 0 0 + 1) ∧
      (t.ethPort p).ctr.getD 10 0 = (s.ethPort p).ctr.getD 10 0 ∧
      t.get (Reg.ETH.RXRING_HEAD p 1) = (h + 1) % c ∧
      Memory.readN t.mgt.sram q (l.length - 4) = l.take (l.length - 4) ∧
      t.sram32 (d + 4) = (2 ^ 30 + 2 ^ 29 + b2n (bit (field l 0 1) 0) * 2 ^ 26 + (l.length - 4)) % 2 ^ 32 ∧
      RegsKept [.eth, .flt, .prov] s t) ∧
  (∀ (s : State) (p a b : Nat) (l : List Byte) (f : Bool),
    p < 64 →
    s.get (Reg.ETH.STAT_RUN p) = 1 →
    (s.ethPort p).locked = true →
    (s.ethPort p).ctr.length = 13 →
    b = 0 →
    fcsRight l = true →
    64 ≤ l.length →
    l.length ≤ s.maxFrm p →
    etherType l ≠ 0x8808 ∨ (field l (etherAt l + 2) 2 ≠ 1 ∧ field l (etherAt l + 2) 2 ≠ 0x0101) →
    tagsOk l = true →
    s.destOk p (field l 0 6) = true →
    checksumsOk l = true →
    s.classify p l = [] →
    (ipv4Of l).any ipIsUdp = true →
    (ipv4Of l).any (fun q => (field (ipBody q) 2 2 == 319 || field (ipBody q) 2 2 == 320)) = false →
    bit (field l 0 6 / 2 ^ 40) 0 = true →
    field l 0 6 ≠ 0xFFFFFFFFFFFF →
    s.inMcfw p (field l 0 6) = false →
    ∃ t, exec (.ethFrameRx p l a b f) s = .next t ∧
      (t.ethPort p).ctr.getD 0 0 = min (State.ctrMax 0) ((s.ethPort p).ctr.getD 0 0 + 1) ∧
      t.get Reg.IPM.UNMATCH = (s.get Reg.IPM.UNMATCH + 1) % 2 ^ 32 ∧
      RegsKept [.eth, .flt, .ipm] s t ∧
      MemoryKept s t) ∧
  (∀ (s : State) (p a : Nat) (l : List Byte) (f : Bool),
    p < 66 →
    s.get (Reg.ETH.STAT_RUN p) = 1 →
    (s.ethPort p).locked = true →
    (s.ethPort p).ctr.length = 13 →
    fcsRight l = true →
    64 ≤ l.length →
    l.length ≤ s.maxFrm p →
    etherType l = 0x8808 →
    field l (etherAt l + 2) 2 = 1 ∨ field l (etherAt l + 2) 2 = 0x0101 →
    s.get (Reg.ETH.STAT_WDHOLD p) = 1 ∨ s.use (Reg.ETH.CFG_OBEY p) = 0 →
    ∃ t, exec (.ethFrameRx p l a 0 f) s = .next t ∧
      (t.ethPort p).ctr.getD 8 0 = min (State.ctrMax 8) ((s.ethPort p).ctr.getD 8 0 + 1) ∧
      (t.ethPort p).ctr.getD 0 0 = (s.ethPort p).ctr.getD 0 0 ∧
      (t.ethPort p).holds = (s.ethPort p).holds ∧
      RegsKept [.eth, .flt] s t ∧
      MemoryKept s t ∧
      t.out = s.out) ∧
  (∀ (s : State) (p q a : Nat) (l : List Byte) (f : Bool),
    p < 66 →
    s.get (Reg.ETH.STAT_RUN p) = 1 →
    (s.ethPort p).locked = true →
    (s.ethPort p).ctr.length = 13 →
    fcsRight l = true →
    64 ≤ l.length →
    l.length ≤ s.maxFrm p →
    etherType l = 0x8808 →
    field l (etherAt l + 2) 2 = 1 →
    q = field l (etherAt l + 4) 2 →
    q ≠ 0 →
    s.use (Reg.ETH.CFG_OBEY p) = 1 →
    s.get (Reg.ETH.STAT_WDHOLD p) = 0 →
    ∃ t, exec (.ethFrameRx p l a 0 f) s = .next t ∧
      (t.ethPort p).ctr.getD 8 0 = min (State.ctrMax 8) ((s.ethPort p).ctr.getD 8 0 + 1) ∧
      t.held p 8 = true ∧
      t.get (Reg.ETH.STAT_PAUSED p) = 1 ∧
      MemoryKept s t) ∧
  (∀ (s : State) (p q c a : Nat) (l : List Byte) (f : Bool),
    p < 66 →
    s.get (Reg.ETH.STAT_RUN p) = 1 →
    (s.ethPort p).locked = true →
    (s.ethPort p).ctr.length = 13 →
    fcsRight l = true →
    64 ≤ l.length →
    l.length ≤ s.maxFrm p →
    etherType l = 0x8808 →
    field l (etherAt l + 2) 2 = 0x0101 →
    c < 8 →
    field l (etherAt l + 4) 2 = 2 ^ c →
    q = field l (etherAt l + 6 + 2 * c) 2 →
    q ≠ 0 →
    s.use (Reg.ETH.CFG_OBEY p) = 2 →
    s.get (Reg.ETH.STAT_WDHOLD p) = 0 →
    ∃ t, exec (.ethFrameRx p l a 0 f) s = .next t ∧
      (t.ethPort p).ctr.getD 8 0 = min (State.ctrMax 8) ((s.ethPort p).ctr.getD 8 0 + 1) ∧
      t.held p c = true ∧
      t.get (Reg.ETH.STAT_PAUSED p) = 1 ∧
      MemoryKept s t) ∧
  (∀ (s : State) (p cls : Nat),
    (Assoc.find (s.ethPort p).holds cls).all (fun h => decide (s.now < h.until_)) = true →
    ∃ t, exec (.pauseExpire p cls) s = .next t ∧
      t = s) ∧
  (∀ (s : State) (p cls u v : Nat),
    p < 66 →
    (s.ethPort p).holds = [(cls, ⟨u, v⟩)] →
    (s.ethPort p).queue = [] →
    v ≤ s.now →
    ∃ t, exec (.pauseExpire p cls) s = .next t ∧
      (t.ethPort p).holds = [] ∧
      t.get (Reg.ETH.STAT_PAUSED p) = 0 ∧
      t.out = s.out ∧
      WordsKept [(Reg.ETH.STAT_PAUSED p).addr] s t) ∧
  (∀ (s : State) (p cls u v : Nat) (fr : List Byte),
    p < 66 →
    (s.ethPort p).holds = [(cls, ⟨u, v⟩)] →
    (s.ethPort p).queue = [(cls, fr)] →
    v ≤ s.now →
    (s.ethLanes p).all (fun n => s.txPath n == 0) = true →
    (s.ethPort p).ctr.length = 13 →
    ∃ t, exec (.pauseExpire p cls) s = .next t ∧
      (t.ethPort p).queue = [] ∧
      t.out = .eth p fr :: s.out ∧
      (t.ethPort p).ctr.getD 1 0 = min (State.ctrMax 1) ((s.ethPort p).ctr.getD 1 0 + 1) ∧
      (t.ethPort p).ctr.getD 3 0 = min (State.ctrMax 3) ((s.ethPort p).ctr.getD 3 0 + fr.length)) ∧
  (∀ (s : State) (p cls : Nat),
    (Assoc.find (s.ethPort p).holds cls).all (fun h => decide (s.now < h.since + 1000 * s.use (Reg.ETH.PAUSEWD p))) = true ∨ s.use (Reg.ETH.PAUSEWD p) = 0 →
    ∃ t, exec (.pauseWd p cls) s = .next t ∧
      t = s) ∧
  (∀ (s : State) (p cls u v : Nat),
    p < 66 →
    (s.ethPort p).holds = [(cls, ⟨u, v⟩)] →
    (s.ethPort p).queue = [] →
    s.use (Reg.ETH.PAUSEWD p) ≠ 0 →
    u + 1000 * s.use (Reg.ETH.PAUSEWD p) ≤ s.now →
    ∃ t, exec (.pauseWd p cls) s = .next t ∧
      (t.ethPort p).holds = [] ∧
      t.get (Reg.ETH.STAT_WDHOLD p) = 1 ∧
      bit (t.get (Reg.ETH.EVSTAT p)) 6 = true ∧
      RegsKept [.eth, .flt] s t) ∧
  (∀ (s : State) (p : Nat),
    p < 66 →
    (s.ethPort p).wdAt + 1000000000 ≤ s.now →
    ∃ t, exec (.pauseWdRelease p) s = .next t ∧
      t.get (Reg.ETH.STAT_WDHOLD p) = 0 ∧
      t = { s with regs := t.regs } ∧
      WordsKept [(Reg.ETH.STAT_WDHOLD p).addr] s t) ∧
  (∀ (s : State) (p : Nat),
    66 ≤ p ∨ s.now < (s.ethPort p).wdAt + 1000000000 →
    ∃ t, exec (.pauseWdRelease p) s = .next t ∧
      t = s) ∧
  (∀ (s : State) (m p : Nat) (data : Word),
    Quiet m s →
    p < 66 →
    bit data.toNat 0 = true →
    (s.ethPort p).ctr.length = 13 →
    ∃ t, exec (.statsnap m p data) s = .next t ∧
      t.get (Reg.ETH.SRXFRM p) = (s.ethPort p).ctr.getD 0 0 % 2 ^ (Reg.ETH.SRXFRM p).width ∧
      t.get (Reg.ETH.SFECUNC p) = (s.ethPort p).ctr.getD 12 0 % 2 ^ (Reg.ETH.SFECUNC p).width ∧
      t.get (Reg.ETH.STXDROP p) = (s.ethPort p).ctr.getD 9 0 % 2 ^ (Reg.ETH.STXDROP p).width ∧
      t.ethPort p = { s.ethPort p with ctr := List.replicate 13 0 } ∧
      t.get (Reg.ETH.STAT_SATURATED p) = 0 ∧
      RegsKept [.eth] s t) ∧
  (∀ (s : State) (m p : Nat) (data : Word),
    Quiet m s →
    66 ≤ p ∨ bit data.toNat 0 = false →
    ∃ t, exec (.statsnap m p data) s = .next t ∧
      t.eth = s.eth ∧
      WordsKept [(Reg.ETH.STAT_RUN p).addr] s t) ∧
  (∀ (s : State) (p : Nat),
    p < 66 →
    (s.ethPort p).totals.length = 13 →
    (s.ethPort p).ctr.length = 13 →
    ∃ t, exec (.statsSnapPeriod) s = .next t ∧
      (t.ethPort p).ctr = List.replicate 13 0 ∧
      ((t.ethPort p).totals = ((s.ethPort p).totals.zip (s.ethPort p).ctr).map fun q => (q.1 + q.2) % 2 ^ 64) ∧
      t.get (Reg.ETH.SRXOCT p) = (s.ethPort p).ctr.getD 2 0 % 2 ^ (Reg.ETH.SRXOCT p).width ∧
      RegsKept [.eth] s t)

/-- Ethernet link states and transmit rings. PCS_LOCK of a port that does not run, is locked, or whose lanes are not UP changes
nothing; else it locks the port, which shows the faults it receives, and sends idle in RFAULT, remote fault sets otherwise.
LINK_UP of a port that has been locked without faults for 128 µs takes it UP; of any other it does nothing. LINK_DOWN takes
a port to DOWN and empties its media queue, with its cause when it was UP. The packets that waited count in TXDROP. A fault
sequence takes a locked port to LOCAL_FAULT or REMOTE_FAULT; its end, or one at a port not locked, is only noted. SPEED of a
running SGMII control port takes it to DOWN; of another port it does nothing. TXKICK of a running port begins a scan of its
transmit ring; of one that does not run, or with bit 0 clear, it does nothing. Without a scan RING_FRAME_SENT sends nothing,
and a scan that finds no whole frame ends. The next frame waits for the media queue, for its class and, at an E-port, for
the fabric. While the port is not UP, or longer than MAXFRM, it is discarded, counted, and its descriptor given back with
its error bit. Else it leaves with its FCS, and with its checksums where its descriptor asks, the descriptor is given back,
and HEAD advances; one that asks for a timestamp goes out the same way. Rests on parts of R361, R368, R372, R376, R379.
(14_ethernet_mac.md) -/
def Obligations.EthernetLinkAndRings : Prop :=
  (∀ (s : State) (p : Nat),
    66 ≤ p ∨ s.get (Reg.ETH.STAT_RUN p) = 0 ∨ s.ethLanesUp p = false ∨ (s.ethPort p).locked = true →
    ∃ t, exec (.pcsLock p) s = .next t ∧
      t = s) ∧
  (∀ (s : State) (p : Nat),
    p < 66 →
    s.get (Reg.ETH.STAT_RUN p) = 1 →
    s.ethLanesUp p = true →
    (s.ethPort p).locked = false →
    (s.ethPort p).fault < 3 →
    ∃ t, exec (.pcsLock p) s = .next t ∧
      t.ethPort p = { s.ethPort p with locked := true, cleanAt := s.now } ∧
      t.get (Reg.ETH.STAT_LINK p) = (s.ethPort p).fault ∧
      ((s.ethLanes p).all (fun n => s.txPath n == 0) = true → t.out = .ordered p ((s.ethPort p).fault != 2) :: s.out) ∧
      WordsKept [(Reg.ETH.STAT_LINK p).addr] s t) ∧
  (∀ (s : State) (p : Nat),
    p < 66 →
    s.get (Reg.ETH.STAT_RUN p) = 1 →
    (s.ethPort p).locked = true →
    (s.ethPort p).fault = 0 →
    s.get (Reg.ETH.STAT_LINK p) ≠ 3 →
    (s.ethPort p).cleanAt + 128000 ≤ s.now →
    ∃ t, exec (.linkUp p) s = .next t ∧
      t.get (Reg.ETH.STAT_LINK p) = 3 ∧
      bit (t.get (Reg.ETH.EVSTAT p)) 1 = true ∧
      RegsKept [.eth, .flt] s t) ∧
  (∀ (s : State) (p : Nat),
    66 ≤ p ∨ s.get (Reg.ETH.STAT_RUN p) = 0 ∨ (s.ethPort p).locked = false ∨ (s.ethPort p).fault ≠ 0 ∨ s.get (Reg.ETH.STAT_LINK p) = 3 ∨ s.now < (s.ethPort p).cleanAt + 128000 →
    ∃ t, exec (.linkUp p) s = .next t ∧
      t = s) ∧
  (∀ (s : State) (p : Nat),
    p < 66 →
    ∃ t, exec (.linkDown p) s = .next t ∧
      t.get (Reg.ETH.STAT_LINK p) = 0 ∧
      (t.ethPort p).locked = false ∧
      (t.ethPort p).queue = [] ∧
      (s.get (Reg.ETH.STAT_LINK p) = 3 → bit (t.get (Reg.ETH.EVSTAT p)) 2 = true)) ∧
  (∀ (s : State) (p n : Nat),
    p < 66 →
    s.get (Reg.ETH.STAT_LINK p) = 3 →
    n = (s.ethPort p).queue.length →
    n ≠ 0 →
    s.ipm.rx = [] →
    (s.ethPort p).ctr.length = 13 →
    ∃ t, exec (.linkDown p) s = .next t ∧
      (t.ethPort p).ctr.getD 9 0 = min (State.ctrMax 9) ((s.ethPort p).ctr.getD 9 0 + n) ∧
      RegsKept [.eth, .flt] s t) ∧
  (∀ (s : State) (p k : Nat),
    p < 66 →
    k = 1 ∨ k = 2 →
    (s.ethPort p).locked = true →
    ∃ t, exec (.faultSequence p k) s = .next t ∧
      t.get (Reg.ETH.STAT_LINK p) = k ∧
      (t.ethPort p).fault = k ∧
      (t.ethPort p).locked = true ∧
      (t.ethPort p).queue = []) ∧
  (∀ (s : State) (p k : Nat),
    p < 66 →
    k = 0 ∨ (s.ethPort p).locked = false →
    ∃ t, exec (.faultSequence p k) s = .next t ∧
      t.get (Reg.ETH.STAT_LINK p) = s.get (Reg.ETH.STAT_LINK p) ∧
      t.ethPort p = { s.ethPort p with fault := min k 2, cleanAt := s.now } ∧
      t.regs = s.regs) ∧
  (∀ (s : State) (p : Nat),
    p = 64 ∨ p = 65 →
    s.use (Reg.ETH.CFG_PTYPE p) = 4 →
    s.get (Reg.ETH.STAT_RUN p) = 1 →
    ∃ t, exec (.speed p) s = .next t ∧
      t.get (Reg.ETH.STAT_LINK p) = 0 ∧
      (t.ethPort p).locked = false ∧
      bit (t.get (Reg.ETH.EVSTAT p)) 9 = true ∧
      RegsKept [.eth, .flt] s t) ∧
  (∀ (s : State) (p : Nat),
    p < 64 ∨ 66 ≤ p ∨ s.use (Reg.ETH.CFG_PTYPE p) ≠ 4 ∨ s.get (Reg.ETH.STAT_RUN p) = 0 →
    ∃ t, exec (.speed p) s = .next t ∧
      t = s) ∧
  (∀ (s : State) (m p : Nat) (data : Word),
    Quiet m s →
    p < 66 →
    bit data.toNat 0 = true →
    s.get (Reg.ETH.STAT_RUN p) = 1 →
    ∃ t, exec (.txkick m p data) s = .next t ∧
      t.ethPort p = { s.ethPort p with scanning := true } ∧
      t.out = s.out) ∧
  (∀ (s : State) (m p : Nat) (data : Word),
    Quiet m s →
    66 ≤ p ∨ bit data.toNat 0 = false ∨ s.get (Reg.ETH.STAT_RUN p) = 0 →
    ∃ t, exec (.txkick m p data) s = .next t ∧
      t.eth = s.eth ∧
      WordsKept [(Reg.ETH.STAT_RUN p).addr] s t) ∧
  (∀ (s : State) (p : Nat),
    (s.ethPort p).scanning = false →
    ∃ t, exec (.ringFrameSent p) s = .next t ∧
      t = s) ∧
  (∀ (s : State) (p count : Nat),
    p < 66 →
    (s.ethPort p).scanning = true →
    count = s.use (Reg.ETH.TXRING_SIZE p) →
    s.txDescs (s.use (Reg.ETH.TXRING_BASE p)) count (min count 1024) (s.get (Reg.ETH.TXRING_HEAD p)) = none →
    ∃ t, exec (.ringFrameSent p) s = .next t ∧
      t.ethPort p = { s.ethPort p with scanning := false } ∧
      t.out = s.out ∧
      t.regs = s.regs ∧
      MemoryKept s t) ∧
  (∀ (s : State) (p a w count : Nat) (frame : List Byte),
    p < 66 →
    (s.ethPort p).scanning = true →
    count = s.use (Reg.ETH.TXRING_SIZE p) →
    2 ≤ count →
    count ≤ 1024 →
    s.txDescs (s.use (Reg.ETH.TXRING_BASE p)) count count (s.get (Reg.ETH.TXRING_HEAD p)) = some [a] →
    w = s.sram32 (a + 4) →
    (frame = withFcs (if bit w 27 = true then insertChecksums (Memory.readN s.mgt.sram (s.sram32 a) (bits w 13 0)) else Memory.readN s.mgt.sram (s.sram32 a) (bits w 13 0))) →
    s.get (Reg.ETH.STAT_LINK p) = 3 →
    frame.length ≤ s.maxFrm p →
    (s.ethPort p).queue ≠ [] ∨ s.held p (match vlanOf frame with | some v => v.1 | none => 0) = true ∨ (p < 64 ∧ s.fabricOn = false) →
    ∃ t, exec (.ringFrameSent p) s = .next t ∧
      t = s) ∧
  (∀ (s : State) (p a w count : Nat) (frame : List Byte),
    p < 66 →
    (s.ethPort p).scanning = true →
    count = s.use (Reg.ETH.TXRING_SIZE p) →
    2 ≤ count →
    count ≤ 1024 →
    s.txDescs (s.use (Reg.ETH.TXRING_BASE p)) count count (s.get (Reg.ETH.TXRING_HEAD p)) = some [a] →
    w = s.sram32 (a + 4) →
    (frame = withFcs (if bit w 27 = true then insertChecksums (Memory.readN s.mgt.sram (s.sram32 a) (bits w 13 0)) else Memory.readN s.mgt.sram (s.sram32 a) (bits w 13 0))) →
    s.get (Reg.ETH.STAT_LINK p) ≠ 3 ∨ s.maxFrm p < frame.length →
    (s.ethPort p).ctr.length = 13 →
    ∃ t, exec (.ringFrameSent p) s = .next t ∧
      t.out = s.out ∧
      (t.ethPort p).ctr.getD 9 0 = min (State.ctrMax 9) ((s.ethPort p).ctr.getD 9 0 + 1) ∧
      t.get (Reg.ETH.TXRING_HEAD p) = (s.get (Reg.ETH.TXRING_HEAD p) + 1) % count ∧
      t.sram32 (a + 4) = setBits (setBits w 31 31 0) 26 26 1 ∧
      (∀ b, b < a + 4 ∨ a + 8 ≤ b → Memory.read t.mgt.sram b = Memory.read s.mgt.sram b) ∧
      RegsKept [.eth, .flt, .prov] s t) ∧
  (∀ (s : State) (p a w count : Nat) (frame : List Byte),
    p < 66 →
    (s.ethPort p).scanning = true →
    count = s.use (Reg.ETH.TXRING_SIZE p) →
    2 ≤ count →
    count ≤ 1024 →
    s.txDescs (s.use (Reg.ETH.TXRING_BASE p)) count count (s.get (Reg.ETH.TXRING_HEAD p)) = some [a] →
    w = s.sram32 (a + 4) →
    (frame = withFcs (if bit w 27 = true then insertChecksums (Memory.readN s.mgt.sram (s.sram32 a) (bits w 13 0)) else Memory.readN s.mgt.sram (s.sram32 a) (bits w 13 0))) →
    s.get (Reg.ETH.STAT_LINK p) = 3 →
    frame.length ≤ s.maxFrm p →
    (s.ethPort p).queue = [] →
    (s.ethPort p).holds = [] →
    s.fabricOn = true ∨ 64 ≤ p →
    (s.ethLanes p).all (fun n => s.txPath n == 0) = true →
    (s.ethPort p).ctr.length = 13 →
    bit w 28 = false →
    ∃ t, exec (.ringFrameSent p) s = .next t ∧
      t.out = .eth p frame :: s.out ∧
      (t.ethPort p).ctr.getD 1 0 = min (State.ctrMax 1) ((s.ethPort p).ctr.getD 1 0 + 1) ∧
      (t.ethPort p).ctr.getD 3 0 = min (State.ctrMax 3) ((s.ethPort p).ctr.getD 3 0 + frame.length) ∧
      t.get (Reg.ETH.TXRING_HEAD p) = (s.get (Reg.ETH.TXRING_HEAD p) + 1) % count ∧
      t.sram32 (a + 4) = setBits (setBits w 31 31 0) 26 26 0 ∧
      (∀ b, b < a + 4 ∨ a + 8 ≤ b → Memory.read t.mgt.sram b = Memory.read s.mgt.sram b) ∧
      RegsKept [.eth, .flt, .prov] s t) ∧
  (∀ (s : State) (p a w count : Nat) (frame : List Byte),
    p < 66 →
    (s.ethPort p).scanning = true →
    count = s.use (Reg.ETH.TXRING_SIZE p) →
    2 ≤ count →
    count ≤ 1024 →
    s.txDescs (s.use (Reg.ETH.TXRING_BASE p)) count count (s.get (Reg.ETH.TXRING_HEAD p)) = some [a] →
    w = s.sram32 (a + 4) →
    (frame = withFcs (if bit w 27 = true then insertChecksums (Memory.readN s.mgt.sram (s.sram32 a) (bits w 13 0)) else Memory.readN s.mgt.sram (s.sram32 a) (bits w 13 0))) →
    p < 64 →
    s.get (Reg.ETH.STAT_LINK p) = 3 →
    frame.length ≤ s.maxFrm p →
    (s.ethPort p).queue = [] →
    (s.ethPort p).holds = [] →
    s.fabricOn = true →
    (s.ethLanes p).all (fun n => s.txPath n == 0) = true →
    bit w 28 = true →
    ∃ t, exec (.ringFrameSent p) s = .next t ∧
      t.out.contains (.eth p frame) = true ∧
      t.get (Reg.ETH.TXRING_HEAD p) = (s.get (Reg.ETH.TXRING_HEAD p) + 1) % count ∧
      t.sram32 (a + 4) = setBits (setBits w 31 31 0) 26 26 0)

/-- Serial lanes: receive states, blocks and cells. SIGNAL_DETECT of a half that does not run, or has its signal, changes
nothing; it takes a running half from NO_SIGNAL to the search for its clock. its loss takes a half of any mode back, with
the loss of the clock as cause. While the clock of the half is stopped the change waits for it. CDR_LOCK of a fabric or twin
half begins the search for blocks, of an S-mode half whose engine hunts it is UP, of any other half that does not search for
its clock it is nothing, and of an Ethernet half takes it UP. CDR_LOST returns the half to that search; a half without its
clock has none to lose. BLOCK_LOCK begins the hunt for cells at the polarity of RXPOL; a half that does not search for
blocks takes none. Without block lock BLOCK_LOST counts nothing. A window with more than 16 invalid headers loses block
lock; with no more they are only counted. A half of no cell mode, or with its checker on, takes no cell; before block lock
none is read. In the hunt the eighth sound header in a row takes the half UP, with a cause where the polarity found is not
that of RXPOL; before it sound headers are counted, and a wrong one begins the count anew. A wrong header in UP is counted;
fewer than seven in a row keep the lock, and the seventh begins the hunt anew, with its cause. Cells that the elastic buffer
lost are counted, with their cause. The first cell of a frame with the right hop tag stores the frame on the entry of its
slot half, under the handle of the channel there; with a wrong one it is BROKEN, with its event; of another format it is
loss of format. POL_INV, 128 cell times into the hunt, inverts the polarity tried at the pins of the half. before that,
without POLAUTO or outside the hunt it does nothing. A half of no cell mode, or within 4 µs of its last, sends no service
cell. SERVICE_CELL_SEND sends the peer tag, the receive state, the carried claim, and data of the firmware, which are free;
on a twin lane of a unit that carries ACT also L, every 50 µs. Rests on parts of R155, R156, R337, R338, R339, R340, R341.
(06_path_integrity.md, 13_lanes.md) -/
def Obligations.LaneReceive : Prop :=
  (∀ (s : State) (n rows : Nat) (on : Bool),
    s.get (Reg.LANE.STAT_RUN n) = 0 ∨ s.laneRxMode n = 0 ∨ (s.rxStopped n = false ∧ on = true ∧ s.get (Reg.LANE.STAT_RXSTATE n) ≠ 0) →
    ∃ t, exec (.signalDetect n on rows) s = .next t ∧
      t = s) ∧
  (∀ (s : State) (n : Nat),
    n < 512 →
    s.get (Reg.LANE.STAT_RUN n) = 1 →
    s.laneRxMode n ≠ 0 →
    s.rxStopped n = false →
    s.get (Reg.LANE.STAT_RXSTATE n) = 0 →
    ∃ t, exec (.signalDetect n true 0) s = .next t ∧
      t.get (Reg.LANE.STAT_RXSTATE n) = 1 ∧
      t.get (Reg.LANE.STAT_SIGDET n) = 1 ∧
      t.get (Reg.LANE.STAT_CDRLOCK n) = 0 ∧
      RegsKept [.lane, .flt] s t) ∧
  (∀ (s : State) (n rows : Nat),
    n < 512 →
    s.get (Reg.LANE.STAT_RUN n) = 1 →
    s.laneRxMode n ≠ 0 →
    s.rxStopped n = false →
    ∃ t, exec (.signalDetect n false rows) s = .next t ∧
      t.get (Reg.LANE.STAT_RXSTATE n) = 0 ∧
      t.get (Reg.LANE.STAT_SIGDET n) = 0 ∧
      t.get (Reg.LANE.STAT_CDRLOCK n) = 0 ∧
      (2 ≤ s.get (Reg.LANE.STAT_RXSTATE n) → bit (t.get (Reg.LANE.EVSTAT n)) 3 = true)) ∧
  (∀ (s : State) (n rows : Nat) (on : Bool),
    n < 512 →
    s.get (Reg.LANE.STAT_RUN n) = 1 →
    s.laneRxMode n ≠ 0 →
    s.rxStopped n = true →
    ∃ t, exec (.signalDetect n on rows) s = .next t ∧
      (t.laneHw n).sigWaits = some on ∧
      t = { s with lanes := t.lanes }) ∧
  (∀ (s : State) (n : Nat) (d : Bool),
    n < 512 →
    s.get (Reg.LANE.STAT_RUN n) = 1 →
    s.laneRxMode n = 3 ∨ s.laneRxMode n = 4 →
    s.get (Reg.LANE.STAT_RXSTATE n) = 1 →
    ∃ t, exec (.cdrLock n d) s = .next t ∧
      t.get (Reg.LANE.STAT_RXSTATE n) = 2 ∧
      t.get (Reg.LANE.STAT_CDRLOCK n) = 1 ∧
      RegsKept [.lane, .flt] s t) ∧
  (∀ (s : State) (n : Nat) (d : Bool),
    n < 512 →
    s.get (Reg.LANE.STAT_RUN n) = 1 →
    s.laneRxMode n = 1 →
    s.get (Reg.LANE.STAT_RXSTATE n) = 1 →
    (s.laneHw n).sigWaits = none →
    s.get (Reg.SDI.STAT_RUN (sdiPage n)) = 1 →
    s.use (Reg.SDI.RXCFG_RATES (sdiPage n)) ≠ 0 →
    ∃ t, exec (.cdrLock n d) s = .next t ∧
      t.get (Reg.LANE.STAT_RXSTATE n) = 4 ∧
      t.get (Reg.LANE.STAT_CDRLOCK n) = 1 ∧
      bit (t.get (Reg.LANE.EVSTAT n)) 6 = true ∧
      RegsKept [.lane, .sdi, .flt] s t) ∧
  (∀ (s : State) (n : Nat) (d : Bool),
    (s.laneHw n).sigWaits = none →
    s.get (Reg.LANE.STAT_RUN n) = 0 ∨ s.get (Reg.LANE.STAT_RXSTATE n) ≠ 1 ∨ (s.laneRxMode n = 1 ∧ (s.get (Reg.SDI.STAT_RUN (sdiPage n)) = 0 ∨ s.use (Reg.SDI.RXCFG_RATES (sdiPage n)) = 0)) →
    ∃ t, exec (.cdrLock n d) s = .next t ∧
      t = s) ∧
  (∀ (s : State) (n : Nat) (d : Bool),
    n < 512 →
    s.get (Reg.LANE.STAT_RUN n) = 1 →
    s.laneRxMode n = 2 →
    s.get (Reg.LANE.STAT_RXSTATE n) = 1 →
    ∃ t, exec (.cdrLock n d) s = .next t ∧
      t.get (Reg.LANE.STAT_RXSTATE n) = 4 ∧
      bit (t.get (Reg.LANE.EVSTAT n)) 6 = true ∧
      t.get (Reg.LANE.STAT_POLINV (s.pinLane n)) = s.use (Reg.LANE.CFG_RXPOL (s.pinLane n)) ∧
      RegsKept [.lane, .flt] s t) ∧
  (∀ (s : State) (n rows : Nat),
    n < 512 →
    s.get (Reg.LANE.STAT_RUN n) = 1 →
    2 ≤ s.get (Reg.LANE.STAT_RXSTATE n) →
    ∃ t, exec (.cdrLost n rows) s = .next t ∧
      t.get (Reg.LANE.STAT_RXSTATE n) = 1 ∧
      t.get (Reg.LANE.PRBS_LOCK n) = 0 ∧
      t.get (Reg.LANE.STAT_CDRLOCK n) = 0 ∧
      bit (t.get (Reg.LANE.EVSTAT n)) 3 = true) ∧
  (∀ (s : State) (n rows : Nat),
    s.get (Reg.LANE.STAT_RUN n) = 0 ∨ s.get (Reg.LANE.STAT_RXSTATE n) < 2 →
    ∃ t, exec (.cdrLost n rows) s = .next t ∧
      t = s) ∧
  (∀ (s : State) (n : Nat),
    n < 512 →
    s.cellMode n = true →
    s.get (Reg.LANE.STAT_RUN n) = 1 →
    s.get (Reg.LANE.STAT_RXSTATE n) = 2 →
    ∃ t, exec (.blockLock n) s = .next t ∧
      t.get (Reg.LANE.STAT_RXSTATE n) = 3 ∧
      (t.laneHw n).good = 0 ∧
      t.get (Reg.LANE.STAT_POLINV (s.pinLane n)) = s.use (Reg.LANE.CFG_RXPOL (s.pinLane n)) ∧
      RegsKept [.lane, .flt] s t) ∧
  (∀ (s : State) (n : Nat),
    s.get (Reg.LANE.STAT_RUN n) = 0 ∨ s.cellMode n = false ∨ s.get (Reg.LANE.STAT_RXSTATE n) ≠ 2 →
    ∃ t, exec (.blockLock n) s = .next t ∧
      t = s) ∧
  (∀ (s : State) (n inv : Nat),
    s.get (Reg.LANE.STAT_RUN n) = 0 ∨ s.cellMode n = false ∨ s.get (Reg.LANE.STAT_RXSTATE n) < 3 →
    ∃ t, exec (.blockLost n inv) s = .next t ∧
      t = s) ∧
  (∀ (s : State) (n inv : Nat),
    n < 512 →
    s.cellMode n = true →
    s.get (Reg.LANE.STAT_RUN n) = 1 →
    3 ≤ s.get (Reg.LANE.STAT_RXSTATE n) →
    16 < inv →
    ∃ t, exec (.blockLost n inv) s = .next t ∧
      t.get (Reg.LANE.STAT_RXSTATE n) = 2 ∧
      t.get (Reg.LANE.BLKCNT_BLKLOSS n) = (s.get (Reg.LANE.BLKCNT_BLKLOSS n) + 1) % 256 ∧
      t.get (Reg.LANE.BLKCNT_INVHDR n) = (s.get (Reg.LANE.BLKCNT_INVHDR n) + inv) % 65536 ∧
      bit (t.get (Reg.LANE.EVSTAT n)) 4 = true) ∧
  (∀ (s : State) (n inv : Nat),
    n < 512 →
    s.cellMode n = true →
    s.get (Reg.LANE.STAT_RUN n) = 1 →
    3 ≤ s.get (Reg.LANE.STAT_RXSTATE n) →
    inv ≤ 16 →
    ∃ t, exec (.blockLost n inv) s = .next t ∧
      t.get (Reg.LANE.BLKCNT_INVHDR n) = (s.get (Reg.LANE.BLKCNT_INVHDR n) + inv) % 65536 ∧
      WordsKept [(Reg.LANE.BLKCNT_INVHDR n).addr] s t) ∧
  (∀ (s : State) (n : Nat) (c : FabricCell),
    s.get (Reg.LANE.STAT_RUN n) = 0 ∨ s.cellMode n = false ∨ s.use (Reg.LANE.PRBS_RXCHK n) ≠ 0 →
    ∃ t, exec (.cellRx n c) s = .next t ∧
      t = s) ∧
  (∀ (s : State) (n : Nat) (c : FabricCell),
    s.get (Reg.LANE.STAT_RXSTATE n) < 3 →
    ∃ t, exec (.cellRx n c) s = .next t ∧
      t = { s with out := t.out }) ∧
  (∀ (s : State) (n : Nat) (c : FabricCell),
    n < 512 →
    s.cellMode n = true →
    s.get (Reg.LANE.STAT_RUN n) = 1 →
    s.use (Reg.LANE.PRBS_RXCHK n) = 0 →
    s.get (Reg.LANE.STAT_RXSTATE n) = 3 →
    State.headerOk c.header = true →
    7 ≤ (s.laneHw n).good →
    ∃ t, exec (.cellRx n c) s = .next t ∧
      t.get (Reg.LANE.STAT_RXSTATE n) = 4 ∧
      bit (t.get (Reg.LANE.EVSTAT n)) 6 = true ∧
      (t.laneHw n).bad = 0 ∧
      (s.get (Reg.LANE.STAT_POLINV (s.pinLane n)) ≠ s.use (Reg.LANE.CFG_RXPOL (s.pinLane n)) → bit (t.get (Reg.LANE.EVSTAT (s.pinLane n))) 7 = true) ∧
      RegsKept [.lane, .flt] s t) ∧
  (∀ (s : State) (n : Nat) (c : FabricCell),
    n < 512 →
    s.cellMode n = true →
    s.get (Reg.LANE.STAT_RUN n) = 1 →
    s.use (Reg.LANE.PRBS_RXCHK n) = 0 →
    s.get (Reg.LANE.STAT_RXSTATE n) = 3 →
    State.headerOk c.header = false ∨ (s.laneHw n).good < 7 →
    ∃ t, exec (.cellRx n c) s = .next t ∧
      t.get (Reg.LANE.STAT_RXSTATE n) = 3 ∧
      (t.laneHw n).good = (if State.headerOk c.header = true then (s.laneHw n).good + 1 else 0) ∧
      t.regs = s.regs) ∧
  (∀ (s : State) (n : Nat) (c : FabricCell),
    n < 512 →
    s.cellMode n = true →
    s.get (Reg.LANE.STAT_RUN n) = 1 →
    s.use (Reg.LANE.PRBS_RXCHK n) = 0 →
    s.get (Reg.LANE.STAT_RXSTATE n) = 4 →
    State.headerOk c.header = false →
    (s.laneHw n).bad < 6 →
    c.lost = 0 →
    ∃ t, exec (.cellRx n c) s = .next t ∧
      t.get (Reg.LANE.STAT_RXSTATE n) = 4 ∧
      (t.laneHw n).bad = (s.laneHw n).bad + 1 ∧
      t.get (Reg.LANE.CELLCNT_HDRERR n) = (s.get (Reg.LANE.CELLCNT_HDRERR n) + 1) % 65536 ∧
      WordsKept [(Reg.LANE.CELLCNT_HDRERR n).addr] s t) ∧
  (∀ (s : State) (n : Nat) (c : FabricCell),
    n < 512 →
    s.cellMode n = true →
    s.get (Reg.LANE.STAT_RUN n) = 1 →
    s.use (Reg.LANE.PRBS_RXCHK n) = 0 →
    s.get (Reg.LANE.STAT_RXSTATE n) = 4 →
    State.headerOk c.header = false →
    6 ≤ (s.laneHw n).bad →
    ∃ t, exec (.cellRx n c) s = .next t ∧
      t.get (Reg.LANE.STAT_RXSTATE n) = 3 ∧
      (t.laneHw n).good = 0 ∧
      t.get (Reg.LANE.CELLCNT_HDRERR n) = (s.get (Reg.LANE.CELLCNT_HDRERR n) + 1) % 65536 ∧
      t.get (Reg.LANE.CELLCNT_CELLLOSS n) = (s.get (Reg.LANE.CELLCNT_CELLLOSS n) + 1) % 2 ^ (Reg.LANE.CELLCNT_CELLLOSS 0).width ∧
      bit (t.get (Reg.LANE.EVSTAT n)) 5 = true) ∧
  (∀ (s : State) (n : Nat) (c : FabricCell),
    n < 512 →
    s.cellMode n = true →
    s.get (Reg.LANE.STAT_RUN n) = 1 →
    s.use (Reg.LANE.PRBS_RXCHK n) = 0 →
    s.get (Reg.LANE.STAT_RXSTATE n) = 4 →
    c.lost ≠ 0 →
    ∃ t, exec (.cellRx n c) s = .next t ∧
      t.get (Reg.LANE.CELLCNT_ELASTIC n) = (s.get (Reg.LANE.CELLCNT_ELASTIC n) + c.lost) % 2 ^ (Reg.LANE.CELLCNT_ELASTIC 0).width ∧
      bit (t.get (Reg.LANE.EVSTAT n)) 10 = true) ∧
  (∀ (s : State) (n e : Nat) (c : FabricCell) (x : HopFrame),
    n < 512 →
    s.get (Reg.LANE.STAT_RUN n) = 1 →
    s.laneRxMode n = 3 →
    s.use (Reg.LANE.PRBS_RXCHK n) = 0 →
    s.get (Reg.LANE.STAT_RXSTATE n) = 4 →
    State.headerOk c.header = true →
    c.kind ≤ 1 →
    s.mergeOf n = none →
    (s.laneHw n).ents[c.kind]? = some e →
    e < 8192 →
    (Assoc.find s.fab.ing e).isSome = true →
    (s.ing e).moveTo = none →
    c.lost = 0 →
    (Assoc.find (s.laneHw n).seq c.kind).all (fun q => c.seq == q + 1) = true →
    c.first = some x →
    s.get (Reg.FAB.ISE_HANDLE e) ≠ 0 →
    s.use (Reg.PROV.LINK_CHECK n) = 1 →
    s.hopOk n c.kind x.hop = true →
    fmtNoColr x.frame.fmt = fmtNoColr (s.ing e).fmt →
    ∃ t, exec (.cellRx n c) s = .next t ∧
      ((t.ing e).cur = some { x.frame with token := x.frame.token.map fun k => { k with sys := s.use Reg.CHN.CFG_SYSNUM, idx := State.handleIdx (s.get (Reg.FAB.ISE_HANDLE e)) } }) ∧
      Assoc.find (t.laneHw n).seq c.kind = some c.seq) ∧
  (∀ (s : State) (n e : Nat) (c : FabricCell) (x : HopFrame),
    n < 512 →
    s.get (Reg.LANE.STAT_RUN n) = 1 →
    s.laneRxMode n = 3 →
    s.use (Reg.LANE.PRBS_RXCHK n) = 0 →
    s.get (Reg.LANE.STAT_RXSTATE n) = 4 →
    State.headerOk c.header = true →
    c.kind ≤ 1 →
    s.mergeOf n = none →
    (s.laneHw n).ents[c.kind]? = some e →
    e < 8192 →
    (Assoc.find s.fab.ing e).isSome = true →
    (s.ing e).moveTo = none →
    c.lost = 0 →
    (Assoc.find (s.laneHw n).seq c.kind).all (fun q => c.seq == q + 1) = true →
    c.first = some x →
    s.get (Reg.FAB.ISE_HANDLE e) ≠ 0 →
    s.use (Reg.PROV.LINK_CHECK n) = 1 →
    s.hopOk n c.kind x.hop = false →
    fmtNoColr x.frame.fmt = fmtNoColr (s.ing e).fmt →
    ∃ t, exec (.cellRx n c) s = .next t ∧
      (t.ing e).cur = some { x.frame with tstate := 2 } ∧
      ((s.lastRaise.any fun q => q.1 == 0x11000000 + n) = false → Raised 17 t)) ∧
  (∀ (s : State) (n e : Nat) (c : FabricCell) (x : HopFrame),
    n < 512 →
    s.get (Reg.LANE.STAT_RUN n) = 1 →
    s.laneRxMode n = 3 →
    s.use (Reg.LANE.PRBS_RXCHK n) = 0 →
    s.get (Reg.LANE.STAT_RXSTATE n) = 4 →
    State.headerOk c.header = true →
    c.kind ≤ 1 →
    s.mergeOf n = none →
    (s.laneHw n).ents[c.kind]? = some e →
    e < 8192 →
    (Assoc.find s.fab.ing e).isSome = true →
    (s.ing e).moveTo = none →
    c.lost = 0 →
    (Assoc.find (s.laneHw n).seq c.kind).all (fun q => c.seq == q + 1) = true →
    c.first = some x →
    s.get (Reg.FAB.ISE_HANDLE e) ≠ 0 →
    fmtNoColr x.frame.fmt ≠ fmtNoColr (s.ing e).fmt →
    ∃ t, exec (.cellRx n c) s = .next t ∧
      (t.ing e).writing = false ∧
      t.get (Reg.FAB.ISE_ALIGN_STATE e) = 0) ∧
  (∀ (s : State) (n : Nat),
    n < 512 →
    s.cellMode n = true →
    s.get (Reg.LANE.STAT_RUN n) = 1 →
    s.get (Reg.LANE.STAT_RXSTATE n) = 3 →
    s.use (Reg.LANE.CFG_POLAUTO (s.pinLane n)) = 1 →
    (s.laneHw n).huntAt + 9612 ≤ s.now →
    ∃ t, exec (.polInv n) s = .next t ∧
      t.get (Reg.LANE.STAT_POLINV (s.pinLane n)) = 1 - s.get (Reg.LANE.STAT_POLINV (s.pinLane n)) ∧
      WordsKept [(Reg.LANE.STAT_POLINV (s.pinLane n)).addr] s t) ∧
  (∀ (s : State) (n : Nat),
    s.get (Reg.LANE.STAT_RUN n) = 0 ∨ s.cellMode n = false ∨ s.get (Reg.LANE.STAT_RXSTATE n) ≠ 3 ∨ s.use (Reg.LANE.CFG_POLAUTO (s.pinLane n)) = 0 ∨ s.now < (s.laneHw n).huntAt + 9612 →
    ∃ t, exec (.polInv n) s = .next t ∧
      t = s) ∧
  (∀ (s : State) (n : Nat),
    s.get (Reg.LANE.STAT_RUN n) = 0 ∨ s.laneTxMode n ≤ 2 ∨ s.now < (s.laneHw n).sentAt + 4000 →
    ∃ t, exec (.serviceCellSend n) s = .next t ∧
      t = s) ∧
  (∀ (s : State) (n : Nat),
    s.get (Reg.LANE.STAT_RUN n) = 1 →
    s.laneTxMode n = 3 →
    s.txPath n = 0 →
    (s.laneHw n).sentAt + 4000 ≤ s.now →
    ∃ t, exec (.serviceCellSend n) s = .next t ∧
      t.out = .service n ⟨s.use Reg.CHN.CFG_SYSNUM, n, s.get (Reg.LANE.STAT_RXSTATE n), s.get (Reg.LANE.STAT_RXSTATE n) != 4, s.get Reg.TWIN.CARRIED_OWN, none, Config.freeNat s.freeCtr⟩ :: s.out ∧
      (t.laneHw n).sentAt = s.now ∧
      t = { s with out := t.out, lanes := t.lanes, freeCtr := s.freeCtr + 1 }) ∧
  (∀ (s : State) (n : Nat),
    s.get (Reg.LANE.STAT_RUN n) = 1 →
    s.laneTxMode n = 4 →
    s.txPath n = 0 →
    (s.laneHw n).sentAt + 4000 ≤ s.now →
    ∃ t, exec (.serviceCellSend n) s = .next t ∧
      ((t.out.head?.any fun o => match o with | .service k c => k == n && c.claim == s.get Reg.TWIN.CARRIED_OWN && c.l == (if 256 ≤ s.get Reg.TWIN.CARRIED_OWN ∧ s.twin.auth = true ∧ Assoc.findD s.lode.lSent (n / 2) 0 + 50000 ≤ s.now then some (s.lode.l, true) else none) | _ => false) = true) ∧
      (t.laneHw n).sentAt = s.now)

/-- Serial lanes: TX PLLs, equalisation, patterns and LANE.CFG. PLLA_LOST shows the loss, counts it and raises its cause; the
other PLL is untouched. An output on it fails as TIMING_LOSS. In a stopped quad, or without lock, there is none to lose.
PLL_RELOCK shows it locked again; of a stopped quad, or while the PLL retunes, it is nothing. QUAD_PLL_LOCK_TIMEOUT of a PLL
that has not locked in 10 ms raises its cause; before that, or once locked, it does nothing. TXEQ_WRITE of taps inside the
limits sets them; outside them it is discarded with its cause. EQ_LIMIT shows the values of the equaliser; one that stands
at its limit 100 ms after lock raises the cause once. While the equaliser does not adapt nothing changes. EYE_MEASURE, 1 ms
after the last, stores height and width; earlier, or without lock, it does not measure. PRBS_CHECK locks on 64 clean bits
and counts errors from there, saturating. With the checker off, no data or fewer clean bits nothing changes. A
LANE_CFG_WRITE that R354 refuses, with EN set or clear, is discarded whole, sets CFG_IGN and raises its cause; with EN clear
any other sets the modes, the PLL and the polarities; with EN set the modes stay, and a change of them is flagged with cause
0. There is no lane 512. Rests on parts of R335, R336, R346, R347, R348, R350, R354. (13_lanes.md) -/
def Obligations.LaneTransmitAndConfiguration : Prop :=
  (∀ (s : State) (q p : Nat),
    q < 128 →
    p < 2 →
    s.get (Reg.QUAD.STAT_RUN q) = 1 →
    s.get (State.pllLockF q p) = 1 →
    s.fab.egr = [] →
    ∃ t, exec (.pllaLost q p) s = .next t ∧
      t.get (State.pllLockF q p) = 0 ∧
      t.get (State.pllStatF q p) = 0 ∧
      t.get (Reg.QUAD.CNT_LOCKLOSS q) = (s.get (Reg.QUAD.CNT_LOCKLOSS q) + 1) % 65536 ∧
      bit (t.get (Reg.QUAD.EVSTAT q)) (1 + p) = true ∧
      t.get (State.pllLockF q (1 - p)) = s.get (State.pllLockF q (1 - p)) ∧
      RegsKept [.quad, .flt] s t) ∧
  (∀ (s : State) (q p e : Nat),
    q < 128 →
    p < 2 →
    e < 8192 →
    s.get (Reg.QUAD.STAT_RUN q) = 1 →
    s.get (State.pllLockF q p) = 1 →
    s.pllOutputs q p = [e] →
    s.isChecked e = true →
    s.get Reg.PROV.CTRL_EN = 1 →
    (s.egr e).failed = none →
    (Assoc.find s.fab.egr e).isSome = true →
    ∃ t, exec (.pllaLost q p) s = .next t ∧
      (t.egr e).failed = some 9 ∧
      t.get (Reg.PROV.OUT_CAUSE e) = 9 ∧
      t.get (State.pllLockF q p) = 0) ∧
  (∀ (s : State) (q p : Nat),
    s.get (Reg.QUAD.STAT_RUN q) = 0 ∨ s.get (State.pllLockF q p) = 0 →
    ∃ t, exec (.pllaLost q p) s = .next t ∧
      t = s) ∧
  (∀ (s : State) (q p : Nat),
    q < 128 →
    p < 2 →
    s.get (Reg.QUAD.STAT_RUN q) = 1 →
    s.get (State.pllRetuneF q p) = 0 →
    (∀ k ∈ List.range 4, (s.laneHw (4 * q + k)).sigWaits = none) →
    ∃ t, exec (.pllRelock q p) s = .next t ∧
      t.get (State.pllLockF q p) = 1 ∧
      t.get (State.pllStatF q p) = 1 ∧
      t.get (State.pllRetuneF q p) = 0 ∧
      RegsKept [.quad] s t) ∧
  (∀ (s : State) (q p : Nat),
    s.get (Reg.QUAD.STAT_RUN q) = 0 ∨ s.get (State.pllRetuneF q p) = 1 →
    ∃ t, exec (.pllRelock q p) s = .next t ∧
      t = s) ∧
  (∀ (s : State) (q p : Nat),
    q < 128 →
    p < 2 →
    s.get (Reg.QUAD.STAT_RUN q) = 1 →
    s.get (State.pllLockF q p) = 0 →
    s.pllOverdue q p = true →
    ∃ t, exec (.quadPllLockTimeout q p) s = .next t ∧
      bit (t.get (Reg.QUAD.EVSTAT q)) (1 + p) = true ∧
      (s.fab.egr = [] → RegsKept [.quad, .flt] s t)) ∧
  (∀ (s : State) (q p : Nat),
    s.get (Reg.QUAD.STAT_RUN q) = 0 ∨ s.get (State.pllLockF q p) = 1 ∨ s.pllOverdue q p = false →
    ∃ t, exec (.quadPllLockTimeout q p) s = .next t ∧
      t = s) ∧
  (∀ (s : State) (m n : Nat) (data : Word),
    Quiet m s →
    n < 512 →
    State.txeqOk data.toNat = true →
    ∃ t, exec (.txeqWrite m n data) s = .next t ∧
      t.get (Reg.LANE.TXEQ_PRE n) = bits data.toNat 3 0 ∧
      t.get (Reg.LANE.TXEQ_MAIN n) = bits data.toNat 13 8 ∧
      t.get (Reg.LANE.TXEQ_POST n) = bits data.toNat 20 16 ∧
      RegsKept [.lane] s t) ∧
  (∀ (s : State) (m n : Nat) (data : Word),
    Quiet m s →
    n < 512 →
    State.txeqOk data.toNat = false →
    ∃ t, exec (.txeqWrite m n data) s = .next t ∧
      t.get (Reg.LANE.TXEQ_PRE n) = s.get (Reg.LANE.TXEQ_PRE n) ∧
      t.get (Reg.LANE.TXEQ_MAIN n) = s.get (Reg.LANE.TXEQ_MAIN n) ∧
      t.get (Reg.LANE.TXEQ_POST n) = s.get (Reg.LANE.TXEQ_POST n) ∧
      bit (t.get (Reg.LANE.EVSTAT n)) 11 = true) ∧
  (∀ (s : State) (n c d e : Nat) (lim : Bool),
    n < 512 →
    s.get (Reg.LANE.STAT_RUN n) = 1 →
    s.get (Reg.LANE.STAT_CDRLOCK (s.pinLane n)) = 1 →
    s.get (Reg.LANE.RXEQCTL_OVERRIDE n) = 0 →
    s.get (Reg.LANE.RXEQCTL_FREEZE n) = 0 →
    lim = (State.atLimit c d e && decide ((s.laneHw n).lockAt + 100000000 ≤ s.now)) →
    ∃ t, exec (.eqLimit n c d e) s = .next t ∧
      t.get (Reg.LANE.RXEQ_CTLE n) = c % 32 ∧
      (t.rd (Reg.LANE.RXEQ_DFE1 n).addr) = BitVec.ofNat 32 d ∧
      t.get (Reg.LANE.RXEQ_DFE5 n) = e % 256 ∧
      (t.laneHw n).eqHeld = lim ∧
      (lim = true ∧ (s.laneHw n).eqHeld = false → bit (t.get (Reg.LANE.EVSTAT n)) 12 = true) ∧
      (lim = false ∨ (s.laneHw n).eqHeld = true → t.get (Reg.LANE.EVSTAT n) = s.get (Reg.LANE.EVSTAT n)) ∧
      RegsKept [.lane, .flt] s t) ∧
  (∀ (s : State) (n c d e : Nat),
    s.get (Reg.LANE.STAT_RUN n) = 0 ∨ s.get (Reg.LANE.STAT_CDRLOCK (s.pinLane n)) = 0 ∨ s.get (Reg.LANE.RXEQCTL_OVERRIDE n) = 1 ∨ s.get (Reg.LANE.RXEQCTL_FREEZE n) = 1 →
    ∃ t, exec (.eqLimit n c d e) s = .next t ∧
      t = s) ∧
  (∀ (s : State) (n h w : Nat),
    n < 512 →
    s.get (Reg.LANE.STAT_RUN n) = 1 →
    s.get (Reg.LANE.STAT_CDRLOCK (s.pinLane n)) = 1 →
    (s.laneHw n).eyeAt + 1000000 ≤ s.now →
    ∃ t, exec (.eyeMeasure n h w) s = .next t ∧
      t.get (Reg.LANE.EYE_HEIGHT n) = h % 65536 ∧
      t.get (Reg.LANE.EYE_WIDTH n) = w % 65536 ∧
      WordsKept [(Reg.LANE.EYE_WIDTH n).addr] s t ∧
      t = { s with regs := t.regs, lanes := t.lanes }) ∧
  (∀ (s : State) (n h w : Nat),
    s.get (Reg.LANE.STAT_RUN n) = 0 ∨ s.get (Reg.LANE.STAT_CDRLOCK (s.pinLane n)) = 0 ∨ s.now < (s.laneHw n).eyeAt + 1000000 →
    ∃ t, exec (.eyeMeasure n h w) s = .next t ∧
      t = s) ∧
  (∀ (s : State) (n c e : Nat),
    n < 512 →
    s.get (Reg.LANE.STAT_RUN n) = 1 →
    s.get (Reg.LANE.STAT_CDRLOCK n) = 1 ∨ s.use (Reg.LANE.CFG_LOOP (s.pinLane n)) = 2 →
    s.use (Reg.LANE.PRBS_RXCHK n) = 1 →
    s.get (Reg.LANE.PRBS_LOCK n) = 0 →
    64 ≤ c →
    ∃ t, exec (.prbsCheck n c e) s = .next t ∧
      t.get (Reg.LANE.PRBS_LOCK n) = 1 ∧
      t.get (Reg.LANE.PRBSERR n) = min e (2 ^ 32 - 1) ∧
      WordsKept [(Reg.LANE.PRBS_LOCK n).addr, (Reg.LANE.PRBSERR n).addr] s t) ∧
  (∀ (s : State) (n c e : Nat),
    n < 512 →
    s.get (Reg.LANE.STAT_RUN n) = 1 →
    s.get (Reg.LANE.STAT_CDRLOCK n) = 1 ∨ s.use (Reg.LANE.CFG_LOOP (s.pinLane n)) = 2 →
    s.use (Reg.LANE.PRBS_RXCHK n) = 1 →
    s.get (Reg.LANE.PRBS_LOCK n) = 1 →
    ∃ t, exec (.prbsCheck n c e) s = .next t ∧
      t.get (Reg.LANE.PRBSERR n) = min (s.get (Reg.LANE.PRBSERR n) + e) (2 ^ 32 - 1) ∧
      WordsKept [(Reg.LANE.PRBSERR n).addr] s t) ∧
  (∀ (s : State) (n c e : Nat),
    s.get (Reg.LANE.STAT_RUN n) = 0 ∨ s.use (Reg.LANE.PRBS_RXCHK n) = 0 ∨ (s.get (Reg.LANE.STAT_CDRLOCK n) = 0 ∧ s.use (Reg.LANE.CFG_LOOP (s.pinLane n)) ≠ 2) ∨ (s.get (Reg.LANE.PRBS_LOCK n) = 0 ∧ c < 64) →
    ∃ t, exec (.prbsCheck n c e) s = .next t ∧
      t = s) ∧
  (∀ (s : State) (m n : Nat) (data : Word),
    Quiet m s →
    n < 512 →
    s.laneCfgRefused n data = true →
    ∃ t, exec (.laneCfgWrite m n data) s = .next t ∧
      t.rd (Reg.LANE.CFG_RXMODE n).addr = s.rd (Reg.LANE.CFG_RXMODE n).addr ∧
      t.get (Reg.LANE.STAT_CFG_IGN n) = 1 ∧
      bit (t.get (Reg.LANE.EVSTAT n)) 1 = true) ∧
  (∀ (s : State) (m n : Nat) (data : Word),
    Quiet m s →
    n < 512 →
    s.get (Reg.LANE.CTRL_EN n) = 0 →
    s.laneCfgRefused n data = false →
    ∃ t, exec (.laneCfgWrite m n data) s = .next t ∧
      t.get (Reg.LANE.CFG_RXMODE n) = bits data.toNat 2 0 ∧
      t.get (Reg.LANE.CFG_TXMODE n) = bits data.toNat 6 4 ∧
      t.get (Reg.LANE.CFG_TXPLL n) = bits data.toNat 8 8 ∧
      t.get (Reg.LANE.CFG_POLAUTO n) = bits data.toNat 18 18 ∧
      RegsKept [.lane, .quad] s t) ∧
  (∀ (s : State) (m n : Nat) (data : Word),
    Quiet m s →
    n < 512 →
    s.get (Reg.LANE.CTRL_EN n) = 1 →
    s.laneCfgRefused n data = false →
    ∃ t, exec (.laneCfgWrite m n data) s = .next t ∧
      t.get (Reg.LANE.CFG_RXMODE n) = s.get (Reg.LANE.CFG_RXMODE n) ∧
      t.get (Reg.LANE.CFG_TXMODE n) = s.get (Reg.LANE.CFG_TXMODE n) ∧
      (bits data.toNat 2 0 ≠ s.get (Reg.LANE.CFG_RXMODE n) → t.get (Reg.LANE.STAT_CFG_IGN n) = 1 ∧ bit (t.get (Reg.LANE.EVSTAT n)) 0 = true)) ∧
  (∀ (s : State) (m n : Nat) (data : Word) (cmd : Instr), cmd ∈ ([.laneCfgWrite m n data, .txeqWrite m n data] : List Instr) →
    512 ≤ n →
    ∃ t, exec cmd s = .next t ∧
      t = s)

/-- Mica engines: commits, flattens, tables and selection. MICA_COMMIT of an acceptable set makes it pending, in place of a set
that waits without a flatten; one that changes the slate flattens first. While a flattened set has not become active it is
queued, replacing a request queued before. A set that the rules refuse leaves everything as it was and shows its reason.
REFLATTEN begins a flatten of the active set; a set that waits keeps waiting beside it. While another flatten runs it is
queued, and takes along a commit queued before. Without bit 0, or with the engine stopped, either request is nothing.
FLATTEN_DONE counts, shows the time taken, and lets the set become active; with no flatten in progress it is nothing.
SELECTION_POINT activates a set that has been pending for 10 µs and counts it; one that was flattened brings its new slate;
a queued request then starts. Until then, and with none pending, it latches the active set, the slate, the flint and what
DRAM holds. A loaded flint bank becomes active. A stopped engine does none of it. An unlocked FLINTLOAD_GO makes a load
pending; while one is pending it is ignored, with cause FLINT_BUSY; locked, or without bit 0, no load begins.
FLINT_LOAD_DONE judges the image in DRAM: a good one waits for the next selection point, another ends the load with its
error and cause; with no load pending, or one that waits already, it is nothing. FLINT_FAIL with a wrong signature shows
FAIL, counts it and raises its event; with the right one, or the flint off, there is no failure. MICA_FRAME_WRITE before the
first selection point, or without an ingress entry, writes nothing; afterwards it writes the picture composed of what the
selection point latched; with the flint on, its samples are inserted and signed, and the checker passes; in FAIL, recovering
or with a bank in error the frame is BROKEN. A late frame, or one without DRAM, is poisoned with cause 5. A region monitor
in MATCH mode raises REGION when the CRC of its rectangle differs from EXPECT. Rests on parts of R295, R296, R299, R300,
R303, R308, R309, R312, R315, R316, R318. (11_compositor.md) -/
def Obligations.MicaCommits : Prop :=
  (∀ (s : State) (m g : Nat) (data : Word) (c : Bool),
    Quiet m s →
    s.micaRuns g = true →
    bit data.toNat 0 = true →
    s.micaWhy g = 0 →
    ((s.micaHw g).pending.map MicaPending.flatten).getD false = false →
    c = (s.micaActive g).changes (s.micaNext g) →
    ∃ t, exec (.micaCommit m g data) s = .next t ∧
      ((t.micaHw g).pending = some ⟨some (s.micaNext g), c, if c then none else some s.now, (s.micaHw g).lutFixed, none⟩) ∧
      t.get (Reg.MICA.STAT_COMMITPEND g) = 1 ∧
      t.get (Reg.MICA.STAT_FLATTENING g) = b2n c ∧
      (t.micaHw g).queued = (s.micaHw g).queued ∧
      RegsKept [.mica, .twin, .flt] s t) ∧
  (∀ (s : State) (m g : Nat) (data : Word),
    Quiet m s →
    s.micaRuns g = true →
    bit data.toNat 0 = true →
    s.micaWhy g = 0 →
    ((s.micaHw g).pending.map MicaPending.flatten).getD false = true →
    ∃ t, exec (.micaCommit m g data) s = .next t ∧
      (t.micaHw g).queued = some ⟨some (s.micaNext g), false, (s.micaHw g).lutFixed⟩ ∧
      (t.micaHw g).pending = (s.micaHw g).pending ∧
      t.get (Reg.MICA.STAT_QUEUED g) = 1 ∧
      t.get (Reg.MICA.STAT_COMMITPEND g) = 1 ∧
      RegsKept [.mica, .twin, .flt] s t) ∧
  (∀ (s : State) (m g why : Nat) (data : Word),
    Quiet m s →
    s.micaRuns g = true →
    bit data.toNat 0 = true →
    why = s.micaWhy g →
    why ≠ 0 →
    ∃ t, exec (.micaCommit m g data) s = .next t ∧
      t.get (Reg.MICA.STAT_CERR g) = 1 ∧
      t.get (Reg.MICA.STAT_CREASON g) = why ∧
      bit (t.get (Reg.MICA.EVSTAT g)) 1 = true ∧
      t.mica = s.mica) ∧
  (∀ (s : State) (m g : Nat) (data : Word),
    Quiet m s →
    s.micaRuns g = true →
    bit data.toNat 0 = true →
    ((s.micaHw g).pending.map MicaPending.flatten).getD false = false →
    ∃ t, exec (.reflatten m g data) s = .next t ∧
      (t.micaHw g).pending = some ⟨none, true, none, [], (s.micaHw g).pending.bind State.MicaPending.waits⟩ ∧
      t.get (Reg.MICA.STAT_FLATTENING g) = 1 ∧
      (t.micaHw g).queued = (s.micaHw g).queued ∧
      RegsKept [.mica, .twin, .flt] s t) ∧
  (∀ (s : State) (m g : Nat) (data : Word),
    Quiet m s →
    s.micaRuns g = true →
    bit data.toNat 0 = true →
    ((s.micaHw g).pending.map MicaPending.flatten).getD false = true →
    ∃ t, exec (.reflatten m g data) s = .next t ∧
      (t.micaHw g).queued = some (s.micaMerge g (s.micaHw g).queued ⟨none, true, []⟩) ∧
      (t.micaHw g).pending = (s.micaHw g).pending ∧
      t.get (Reg.MICA.STAT_QUEUED g) = 1 ∧
      RegsKept [.mica, .twin, .flt] s t) ∧
  (∀ (s : State) (m g : Nat) (data : Word) (cmd : Instr), cmd ∈ ([.micaCommit m g data, .reflatten m g data] : List Instr) →
    Quiet m s →
    8 ≤ g ∨ s.micaRuns g = false ∨ bit data.toNat 0 = false →
    ∃ t, exec cmd s = .next t ∧
      t.mica = s.mica ∧
      WordsKept [(Reg.MICA.STAT_RUN g).addr] s t) ∧
  (∀ (s : State) (g us : Nat) (p : MicaPending),
    g < 8 →
    (s.micaHw g).pending = some p →
    p.flatten = true →
    p.since = none →
    ∃ t, exec (.flattenDone g us) s = .next t ∧
      (t.micaHw g).pending = some { p with since := some s.now } ∧
      (t.micaHw g).newSlate.isSome = true ∧
      t.get (Reg.MICA.CNT_FLATTENS g) = (s.get (Reg.MICA.CNT_FLATTENS g) + 1) % 2 ^ (Reg.MICA.CNT_FLATTENS g).width ∧
      t.get (Reg.MICA.SLATE_FLATUS g) = us % 65536 ∧
      bit (t.get (Reg.MICA.EVSTAT g)) 2 = true ∧
      RegsKept [.mica, .flt] s t) ∧
  (∀ (s : State) (g us : Nat),
    ((s.micaHw g).pending.map fun p => p.flatten && p.since.isNone).getD false = false →
    ∃ t, exec (.flattenDone g us) s = .next t ∧
      t = s) ∧
  (∀ (s : State) (g a : Nat) (x : MicaSet) (w : List Nat),
    s.micaRuns g = true →
    (s.micaHw g).pending = some ⟨some x, false, some a, w, none⟩ →
    (s.micaHw g).queued = none →
    (s.micaHw g).loaded = none →
    a + 10000 ≤ s.now →
    ∃ t, exec (.selectionPoint g) s = .next t ∧
      (t.micaHw g).pending = none ∧
      (t.micaHw g).bg = x.bg ∧
      (t.micaHw g).lut = x.lut ∧
      (∀ l ∈ List.range 63, ∀ k ∈ List.range 7, (t.rd ((Reg.MICA.ACT_TYPE g l).addr + 4 * k)).toNat = x.word l k % 2 ^ 32) ∧
      t.get (Reg.MICA.CNT_COMMITS g) = (s.get (Reg.MICA.CNT_COMMITS g) + 1) % 2 ^ (Reg.MICA.CNT_COMMITS g).width ∧
      t.get (Reg.MICA.STAT_COMMITPEND g) = 0) ∧
  (∀ (s : State) (g a : Nat) (x : MicaSet) (w : List Nat) (n : List Rgb × List Nat),
    s.micaRuns g = true →
    (s.micaHw g).pending = some ⟨some x, true, some a, w, none⟩ →
    (s.micaHw g).newSlate = some n →
    (s.micaHw g).queued = none →
    (s.micaHw g).loaded = none →
    a + 10000 ≤ s.now →
    ∃ t, exec (.selectionPoint g) s = .next t ∧
      (t.micaHw g).pending = none ∧
      (t.micaHw g).bg = x.bg ∧
      (t.micaHw g).slate = some n.1 ∧
      (t.micaHw g).slateLayers = n.2 ∧
      t.get (Reg.MICA.SLATE_SLATELAYERS g) = n.2.length % 2 ^ (Reg.MICA.SLATE_SLATELAYERS g).width ∧
      (t.micaHw g).newSlate = none) ∧
  (∀ (s : State) (g a : Nat) (p : MicaPending) (r : MicaReq),
    s.micaRuns g = true →
    (s.micaHw g).pending = some p →
    p.since = some a →
    p.early = none →
    a + 10000 ≤ s.now →
    (s.micaHw g).queued = some r →
    ∃ t, exec (.selectionPoint g) s = .next t ∧
      (t.micaHw g).queued = none ∧
      (∃ q, (t.micaHw g).pending = some q ∧ q.set = r.set)) ∧
  (∀ (s : State) (g : Nat),
    s.micaRuns g = true →
    ((s.micaHw g).pending.map fun p => (p.early.map fun q => decide (s.now < q.2.2 + 10000)).getD true && (p.since.map fun a => decide (s.now < a + 10000)).getD true).getD true = true →
    (s.micaHw g).loaded = none →
    ∃ t, exec (.selectionPoint g) s = .next t ∧
      (t.micaHw g).pending = (s.micaHw g).pending ∧
      (∃ l, (t.micaHw g).latched = some l ∧ l.set = s.micaActive g ∧ l.slate = (s.micaHw g).slate ∧ l.flint = (s.micaHw g).flint ∧ l.en = s.flag (Reg.MICA.FLINT_EN g) ∧ l.mem = s.dram.mem) ∧
      t.get (Reg.MICA.CNT_COMMITS g) = s.get (Reg.MICA.CNT_COMMITS g)) ∧
  (∀ (s : State) (g : Nat) (x : FlintBank),
    s.micaRuns g = true →
    (s.micaHw g).pending = none →
    (s.micaHw g).loaded = some x →
    ∃ t, exec (.selectionPoint g) s = .next t ∧
      (t.micaHw g).flint = some x ∧
      (t.micaHw g).loaded = none ∧
      (t.micaHw g).flintBad = false ∧
      t.get (Reg.MICA.FLINT_BANK g) = 1 - s.get (Reg.MICA.FLINT_BANK g) ∧
      t.get (Reg.MICA.STAT_LOADPEND g) = 0) ∧
  (∀ (s : State) (g : Nat) (l : Bool) (h : Nat) (cmd : Instr), cmd ∈ ([.selectionPoint g, .micaFrameWrite g l, .flintFail g h] : List Instr) →
    s.micaRuns g = false →
    ∃ t, exec cmd s = .next t ∧
      t = s) ∧
  (∀ (s : State) (m g : Nat) (data : Word),
    Quiet m s →
    g < 8 →
    s.armed m = true →
    bit data.toNat 0 = true →
    s.get (Reg.MICA.STAT_LOADPEND g) = 0 →
    ∃ t, exec (.flintloadGo m g data) s = .next t ∧
      t.get (Reg.MICA.STAT_LOADPEND g) = 1 ∧
      t.mica = s.mica ∧
      t.armed m = false) ∧
  (∀ (s : State) (m g : Nat) (data : Word),
    Quiet m s →
    g < 8 →
    s.armed m = true →
    bit data.toNat 0 = true →
    s.get (Reg.MICA.STAT_LOADPEND g) = 1 →
    ∃ t, exec (.flintloadGo m g data) s = .next t ∧
      bit (t.get (Reg.MICA.EVSTAT g)) 4 = true ∧
      t.get (Reg.MICA.STAT_LOADPEND g) = 1 ∧
      t.mica = s.mica) ∧
  (∀ (s : State) (m g : Nat) (data : Word),
    Quiet m s →
    g < 8 →
    s.armed m = false ∨ bit data.toNat 0 = false →
    ∃ t, exec (.flintloadGo m g data) s = .next t ∧
      t.get (Reg.MICA.STAT_LOADPEND g) = s.get (Reg.MICA.STAT_LOADPEND g) ∧
      t.mica = s.mica) ∧
  (∀ (s : State) (g : Nat) (r : Nat × FlintBank),
    g < 8 →
    s.get (Reg.MICA.STAT_LOADPEND g) = 1 →
    (s.micaHw g).loaded = none →
    (r = flintJudge (s.get (Reg.MICA.OUTFMT g)) (s.get (Reg.MICA.FLINTLOAD_CRC g)) (fun k => s.flag (Reg.FAB.ESE_CFG_VALID k)) (Memory.readN s.dram.mem (s.flintAddr g) (0xFD40 + 64 * 1024 + 8 * 16))) →
    ∃ t, exec (.flintLoadDone g) s = .next t ∧
      t.get (Reg.MICA.FLINT_LOADERR g) = r.1 ∧
      (r.1 = 0 → (t.micaHw g).loaded = some r.2 ∧ t.get (Reg.MICA.STAT_LOADPEND g) = 1) ∧
      (r.1 ≠ 0 → t.get (Reg.MICA.STAT_LOADPEND g) = 0 ∧ t.mica = s.mica ∧ bit (t.get (Reg.MICA.EVSTAT g)) 3 = true) ∧
      RegsKept [.mica, .flt] s t) ∧
  (∀ (s : State) (g : Nat),
    s.get (Reg.MICA.STAT_LOADPEND g) = 0 ∨ (s.micaHw g).loaded.isSome = true →
    ∃ t, exec (.flintLoadDone g) s = .next t ∧
      t = s) ∧
  (∀ (s : State) (g got : Nat),
    s.micaRuns g = true →
    s.get (Reg.MICA.FLINT_EN g) = 1 →
    got % 2 ^ 32 ≠ s.get (Reg.MICA.FLINT_SIGEXP g) →
    ∃ t, exec (.flintFail g got) s = .next t ∧
      t.get (Reg.MICA.FLINT_STATE g) = 2 ∧
      (t.micaHw g).matches_ = 0 ∧
      t.get (Reg.MICA.FLINT_SIGGOT g) = got % 2 ^ 32 ∧
      t.get (Reg.MICA.FLINT_FAILCNT g) = (s.get (Reg.MICA.FLINT_FAILCNT g) + 1) % 2 ^ (Reg.MICA.FLINT_FAILCNT g).width ∧
      Raised (1315 + 4 * g) t ∧
      RegsKept [.mica, .flt] s t) ∧
  (∀ (s : State) (g got : Nat),
    s.get (Reg.MICA.FLINT_EN g) = 0 ∨ got % 2 ^ 32 = s.get (Reg.MICA.FLINT_SIGEXP g) →
    ∃ t, exec (.flintFail g got) s = .next t ∧
      t = s) ∧
  (∀ (s : State) (g : Nat) (l : Bool),
    (s.micaHw g).latched = none ∨ s.chanIng (State.handleIdx (s.get (Reg.MICA.CHAN g))) = none →
    ∃ t, exec (.micaFrameWrite g l) s = .next t ∧
      t = s) ∧
  (∀ (s : State) (g i : Nat) (l : MicaLatch) (x : Ingress),
    s.micaRuns g = true →
    (s.micaHw g).latched = some l →
    s.chanIng (State.handleIdx (s.get (Reg.MICA.CHAN g))) = some i →
    i < 8192 →
    Assoc.find s.fab.ing i = some x →
    x.moveTo = none →
    l.en = false →
    (s.micaHw g).lutBad = [] →
    s.dramUp = true →
    ∃ t, exec (.micaFrameWrite g false) s = .next t ∧
      t.get (Reg.MICA.FRAMES g) = (s.get (Reg.MICA.FRAMES g) + 1) % 2 ^ 32 ∧
      (∃ f, (t.ing i).cur = some f ∧ f.picture = composePicture l (s.get (Reg.MICA.OUTFMT g)) l.mem ∧ f.tstate = 0 ∧ f.poisoned = false) ∧
      t.get (Reg.MICA.FLINT_STATE g) = 0) ∧
  (∀ (s : State) (g i : Nat) (l : MicaLatch) (x : Ingress) (fb : FlintBank) (q : List Pix × List Pix),
    s.micaRuns g = true →
    (s.micaHw g).latched = some l →
    s.chanIng (State.handleIdx (s.get (Reg.MICA.CHAN g))) = some i →
    i < 8192 →
    Assoc.find s.fab.ing i = some x →
    x.moveTo = none →
    l.en = true →
    l.flint = some fb →
    q = flintPicture fb l.alarms (s.get (Reg.MICA.OUTFMT g)) (composePicture l (s.get (Reg.MICA.OUTFMT g)) l.mem) →
    (s.micaHw g).lutBad = [] →
    (s.micaHw g).flintBad = false →
    s.get (Reg.MICA.FLINT_STATE g) ≤ 1 →
    s.dramUp = true →
    ∃ t, exec (.micaFrameWrite g false) s = .next t ∧
      (∃ f, (t.ing i).cur = some f ∧ f.picture = q.1 ∧ f.tstate = 0) ∧
      (t.get (Reg.MICA.FLINT_SIGEXP g) = crc32Words (q.2.map fun p => p.toNat) % 2 ^ 32) ∧
      t.get (Reg.MICA.FLINT_STATE g) = 1) ∧
  (∀ (s : State) (g i : Nat) (l : MicaLatch) (x : Ingress),
    s.micaRuns g = true →
    (s.micaHw g).latched = some l →
    s.chanIng (State.handleIdx (s.get (Reg.MICA.CHAN g))) = some i →
    i < 8192 →
    Assoc.find s.fab.ing i = some x →
    x.moveTo = none →
    l.en = true →
    2 ≤ s.get (Reg.MICA.FLINT_STATE g) ∨ (s.micaHw g).flintBad = true →
    ∃ t, exec (.micaFrameWrite g false) s = .next t ∧
      (∃ f, (t.ing i).cur = some f ∧ f.tstate = 2) ∧
      ((s.micaHw g).flintBad = true → t.get (Reg.MICA.FLINT_STATE g) = 2)) ∧
  (∀ (s : State) (g i : Nat) (l : MicaLatch) (late : Bool),
    s.micaRuns g = true →
    (s.micaHw g).latched = some l →
    s.chanIng (State.handleIdx (s.get (Reg.MICA.CHAN g))) = some i →
    late = true ∨ s.dramUp = false →
    ∃ t, exec (.micaFrameWrite g late) s = .next t ∧
      t.get (Reg.MICA.FRAMES g) = (s.get (Reg.MICA.FRAMES g) + 1) % 2 ^ 32 ∧
      bit (t.get (Reg.MICA.EVSTAT g)) 5 = true ∧
      (i < 8192 → (Assoc.find s.fab.ing i).isSome = true → (s.ing i).moveTo = none → ∃ f, (t.ing i).cur = some f ∧ f.poisoned = true)) ∧
  (∀ (s : State) (g i k : Nat) (l : MicaLatch) (late : Bool),
    s.micaRuns g = true →
    (s.micaHw g).latched = some l →
    s.chanIng (State.handleIdx (s.get (Reg.MICA.CHAN g))) = some i →
    k < 4 →
    s.get (Reg.MICA.REG_MODE g k) = 2 →
    l.flint = none →
    ((s.micaHw g).regions.find? fun p => p.1 == k) = none →
    s.get (Reg.MICA.REG_EXPECT g k) ≠ regionCrc (s.get (Reg.MICA.OUTFMT g)) (s.get (Reg.MICA.REG_X g k)) (s.get (Reg.MICA.REG_Y g k)) (s.get (Reg.MICA.REG_W g k)) (s.get (Reg.MICA.REG_H g k)) (composePicture l (s.get (Reg.MICA.OUTFMT g)) l.mem) →
    ∃ t, exec (.micaFrameWrite g late) s = .next t ∧
      Raised (1314 + 4 * g) t ∧
      t.get (Reg.MICA.REG_SIG g k) ≠ s.get (Reg.MICA.REG_EXPECT g k))

/-- Mica layers: binding, decimated frames and staleness; the tables of the next set. BIND, REBIND and UNBIND are discarded with
cause 8 while a request is in progress, answer DISABLED while the engine is not enabled, and BAD_PARAM for layer 63. BIND of
a bound layer answers IN_USE; one that fails a check answers its code and binds nothing; one that passes gives the layer the
first free decimator and an egress entry, and answers 0, or, where only a compaction gives it an entry, waits for it with
the mailbox held. REBIND and UNBIND of an unbound layer answer BAD_PARAM. REBIND that fails a check keeps the old binding;
any other keeps the decimator, which shows its last frame until it reads the new source. UNBIND clears the layer, and its
decimator leaves. DECIMATOR_FRAME without a decimator, a source, or a frame that began since the binding is nothing. A late
write, or DRAM that is down, abandons the frame and counts it; its token is checked all the same. A frame that passes is
completed and counted; one that fails carries its cause (1 without a token). LAYER_STALE_TIMEOUT, LIVE ms after the last
decimated frame or the binding, takes a bound layer to STALE with its event; before that, in STALE, unbound or with LIVE = 0
it does nothing. A write of LUTDATA goes to the table of the next set and advances LUTADDR; past entry 4,095 it is
discarded, with cause LUT_IGN. A read answers the entry of the next set and advances LUTADDR; past the end it answers a
value that is free. There are eight engines. Rests on parts of R304, R305, R306, R317, R303. (11_compositor.md) -/
def Obligations.MicaLayers : Prop :=
  (∀ (s : State) (m g : Nat) (cmd : Instr), cmd ∈ ([.bind m g, .rebind m g, .unbind m g] : List Instr) →
    Quiet m s →
    g < 8 →
    s.get (Reg.MICA.LAYRES_BUSY g) = 1 →
    ∃ t, exec cmd s = .next t ∧
      t.mica = s.mica ∧
      t.get (Reg.MICA.LAYRES_BUSY g) = 1 ∧
      t.get (Reg.MICA.LAYRES_DONE g) = s.get (Reg.MICA.LAYRES_DONE g) ∧
      bit (t.get (Reg.MICA.EVSTAT g)) 8 = true) ∧
  (∀ (s : State) (m g : Nat) (cmd : Instr), cmd ∈ ([.bind m g, .rebind m g, .unbind m g] : List Instr) →
    Quiet m s →
    g < 8 →
    s.get (Reg.MICA.LAYRES_BUSY g) = 0 →
    s.get (Reg.MICA.CTRL_EN g) = 0 →
    ∃ t, exec cmd s = .next t ∧
      t.get (Reg.MICA.LAYRES_DONE g) = 1 ∧
      t.get (Reg.MICA.LAYRES_CODE g) = 16 ∧
      t.get (Reg.MICA.LAYRES_BUSY g) = 0 ∧
      t.mica = s.mica) ∧
  (∀ (s : State) (m g : Nat) (cmd : Instr), cmd ∈ ([.bind m g, .rebind m g, .unbind m g] : List Instr) →
    Quiet m s →
    g < 8 →
    s.get (Reg.MICA.LAYRES_BUSY g) = 0 →
    s.get (Reg.MICA.CTRL_EN g) = 1 →
    63 ≤ (s.layArgs g).1 →
    ∃ t, exec cmd s = .next t ∧
      t.get (Reg.MICA.LAYRES_DONE g) = 1 ∧
      t.get (Reg.MICA.LAYRES_CODE g) = 11 ∧
      t.get (Reg.MICA.LAYRES_BUSY g) = 0 ∧
      t.mica = s.mica) ∧
  (∀ (s : State) (m g l : Nat),
    Quiet m s →
    g < 8 →
    s.get (Reg.MICA.LAYRES_BUSY g) = 0 →
    s.get (Reg.MICA.CTRL_EN g) = 1 →
    l = (s.layArgs g).1 →
    l < 63 →
    s.get (Reg.MICA.LAY_BOUND g l) = 1 →
    ∃ t, exec (.bind m g) s = .next t ∧
      t.get (Reg.MICA.LAYRES_DONE g) = 1 ∧
      t.get (Reg.MICA.LAYRES_CODE g) = 12 ∧
      t.get (Reg.MICA.LAYRES_BUSY g) = 0 ∧
      t.mica = s.mica) ∧
  (∀ (s : State) (m g l c : Nat),
    Quiet m s →
    g < 8 →
    s.get (Reg.MICA.LAYRES_BUSY g) = 0 →
    s.get (Reg.MICA.CTRL_EN g) = 1 →
    l = (s.layArgs g).1 →
    l < 63 →
    s.get (Reg.MICA.LAY_BOUND g l) = 0 →
    c = s.judgeBind g false →
    c ≠ 0 →
    ∃ t, exec (.bind m g) s = .next t ∧
      t.get (Reg.MICA.LAYRES_DONE g) = 1 ∧
      t.get (Reg.MICA.LAYRES_CODE g) = c ∧
      t.get (Reg.MICA.LAYRES_BUSY g) = 0 ∧
      t.mica = s.mica ∧
      t.get (Reg.MICA.LAY_BOUND g l) = 0) ∧
  (∀ (s : State) (m g l h e d : Nat),
    Quiet m s →
    g < 8 →
    s.get (Reg.MICA.LAYRES_BUSY g) = 0 →
    s.get (Reg.MICA.CTRL_EN g) = 1 →
    l = (s.layArgs g).1 →
    l < 63 →
    h = (s.layArgs g).2.1 →
    s.get (Reg.MICA.LAY_BOUND g l) = 0 →
    s.judgeBind g false = 0 →
    allocEntry s.egrUse (s.srcSize h) = some e →
    (List.range 256).find? (fun j => s.decFree j) = some d →
    e < 8192 →
    ∃ t, exec (.bind m g) s = .next t ∧
      t.get (Reg.MICA.LAYRES_DONE g) = 1 ∧
      t.get (Reg.MICA.LAYRES_CODE g) = 0 ∧
      t.get (Reg.MICA.LAYRES_BUSY g) = 0 ∧
      t.get (Reg.MICA.LAY_BOUND g l) = 1 ∧
      t.get (State.layDec g l) = d ∧
      t.get (Reg.MICA.LAY_SRC g l) = h ∧
      t.get (Reg.MICA.LAY_STATE g l) = 1 ∧
      t.get (Reg.DEC.VALID d) = 1 ∧
      t.get (Reg.DEC.SRC d) = h ∧
      t.get (Reg.DEC.W d) = (s.layArgs g).2.2.1 ∧
      t.get (Reg.DEC.H d) = (s.layArgs g).2.2.2 ∧
      t.get (Reg.DEC.ESE d) = e ∧
      t.get (Reg.DEC.ENGINE d) = g ∧
      t.get (Reg.DEC.LAYER d) = l ∧
      (t.decHw d).from_ = s.now) ∧
  (∀ (s : State) (m g l : Nat),
    Quiet m s →
    g < 8 →
    s.get (Reg.MICA.LAYRES_BUSY g) = 0 →
    s.get (Reg.MICA.CTRL_EN g) = 1 →
    l = (s.layArgs g).1 →
    l < 63 →
    s.get (Reg.MICA.LAY_BOUND g l) = 0 →
    s.judgeBind g false = 0 →
    ∃ t, exec (.bind m g) s = .next t ∧
      (if (allocEntry s.egrUse (s.srcSize (s.layArgs g).2.1)).isSome = true then t.get (Reg.MICA.LAYRES_DONE g) = 1 ∧ t.get (Reg.MICA.LAYRES_CODE g) = 0 ∧ t.get (Reg.MICA.LAY_BOUND g l) = 1 else t.get (Reg.MICA.LAYRES_BUSY g) = 1 ∧ t.get (Reg.MICA.LAYRES_DONE g) = 0 ∧ t.get (Reg.MICA.LAY_BOUND g l) = 0 ∧ (t.micaHw g).waitBind.isSome = true)) ∧
  (∀ (s : State) (m g l : Nat) (cmd : Instr), cmd ∈ ([.rebind m g, .unbind m g] : List Instr) →
    Quiet m s →
    g < 8 →
    s.get (Reg.MICA.LAYRES_BUSY g) = 0 →
    s.get (Reg.MICA.CTRL_EN g) = 1 →
    l = (s.layArgs g).1 →
    l < 63 →
    s.get (Reg.MICA.LAY_BOUND g l) = 0 →
    ∃ t, exec cmd s = .next t ∧
      t.get (Reg.MICA.LAYRES_DONE g) = 1 ∧
      t.get (Reg.MICA.LAYRES_CODE g) = 11 ∧
      t.get (Reg.MICA.LAYRES_BUSY g) = 0 ∧
      t.mica = s.mica) ∧
  (∀ (s : State) (m g l c : Nat),
    Quiet m s →
    g < 8 →
    s.get (Reg.MICA.LAYRES_BUSY g) = 0 →
    s.get (Reg.MICA.CTRL_EN g) = 1 →
    l = (s.layArgs g).1 →
    l < 63 →
    s.get (Reg.MICA.LAY_BOUND g l) = 1 →
    c = s.judgeBind g true →
    c ≠ 0 →
    ∃ t, exec (.rebind m g) s = .next t ∧
      t.get (Reg.MICA.LAYRES_DONE g) = 1 ∧
      t.get (Reg.MICA.LAYRES_CODE g) = c ∧
      t.get (Reg.MICA.LAYRES_BUSY g) = 0 ∧
      t.mica = s.mica ∧
      t.get (Reg.MICA.LAY_BOUND g l) = 1 ∧
      t.get (Reg.MICA.LAY_SRC g l) = s.get (Reg.MICA.LAY_SRC g l)) ∧
  (∀ (s : State) (m g l h d : Nat),
    Quiet m s →
    g < 8 →
    s.get (Reg.MICA.LAYRES_BUSY g) = 0 →
    s.get (Reg.MICA.CTRL_EN g) = 1 →
    l = (s.layArgs g).1 →
    l < 63 →
    h = (s.layArgs g).2.1 →
    s.get (Reg.MICA.LAY_BOUND g l) = 1 →
    s.judgeBind g true = 0 →
    d = s.get (State.layDec g l) →
    ∃ t, exec (.rebind m g) s = .next t ∧
      t.get (Reg.MICA.LAYRES_DONE g) = 1 ∧
      t.get (Reg.MICA.LAYRES_CODE g) = 0 ∧
      t.get (Reg.MICA.LAYRES_BUSY g) = 0 ∧
      t.get (Reg.MICA.LAY_SRC g l) = h ∧
      t.get (Reg.DEC.SRC d) = h ∧
      t.get (Reg.DEC.W d) = (s.layArgs g).2.2.1 ∧
      t.get (Reg.DEC.H d) = (s.layArgs g).2.2.2 ∧
      t.get (State.layDec g l) = d ∧
      (t.decHw d).newest = (s.decHw d).newest ∧
      (t.decHw d).from_ = s.now ∧
      (t.decHw d).base = none) ∧
  (∀ (s : State) (m g l d : Nat),
    Quiet m s →
    g < 8 →
    s.get (Reg.MICA.LAYRES_BUSY g) = 0 →
    s.get (Reg.MICA.CTRL_EN g) = 1 →
    l = (s.layArgs g).1 →
    l < 63 →
    s.get (Reg.MICA.LAY_BOUND g l) = 1 →
    d = s.get (State.layDec g l) →
    ∃ t, exec (.unbind m g) s = .next t ∧
      t.get (Reg.MICA.LAYRES_DONE g) = 1 ∧
      t.get (Reg.MICA.LAYRES_CODE g) = 0 ∧
      t.get (Reg.MICA.LAYRES_BUSY g) = 0 ∧
      t.get (Reg.MICA.LAY_BOUND g l) = 0 ∧
      t.get (Reg.MICA.LAY_SRC g l) = 0 ∧
      t.get (Reg.MICA.LAY_STATE g l) = 0 ∧
      (t.decHw d).leaving = true) ∧
  (∀ (s : State) (d : Nat) (late : Bool),
    256 ≤ d ∨ s.get (Reg.DEC.VALID d) = 0 ∨ s.get (Reg.DEC.SRC d) = 0 ∨ s.get (Reg.FAB.ESE_SRC_SRCVALID (s.get (Reg.DEC.ESE d))) = 0 ∨ (s.ing (s.get (Reg.FAB.ESE_SRC_ENTRY (s.get (Reg.DEC.ESE d))))).cur = none ∨ (s.ing (s.get (Reg.FAB.ESE_SRC_ENTRY (s.get (Reg.DEC.ESE d))))).at_ + 6000 < (s.decHw d).from_ →
    ∃ t, exec (.decimatorFrame d late) s = .next t ∧
      t = s) ∧
  (∀ (s : State) (d e i why : Nat) (f : Frame) (late : Bool),
    d < 256 →
    s.get (Reg.DEC.VALID d) = 1 →
    s.get (Reg.DEC.SRC d) ≠ 0 →
    e = s.get (Reg.DEC.ESE d) →
    s.get (Reg.FAB.ESE_SRC_SRCVALID e) = 1 →
    i = s.get (Reg.FAB.ESE_SRC_ENTRY e) →
    (s.ing i).cur = some f →
    (s.decHw d).from_ ≤ (s.ing i).at_ + 6000 →
    why = s.decVerdict f (s.get (Reg.DEC.SRC d)) (s.decHw d).base →
    late = true ∨ s.dramUp = false →
    why = 0 →
    ∃ t, exec (.decimatorFrame d late) s = .next t ∧
      t.get (Reg.DEC.LATE d) = (s.get (Reg.DEC.LATE d) + 1) % 65536 ∧
      (t.decHw d).base = f.token.map (fun k => (k.count, f.tstate)) ∧
      (t.decHw d).newest = (s.decHw d).newest ∧
      WordsKept [(Reg.DEC.LATE d).addr] s t) ∧
  (∀ (s : State) (d e i g l why : Nat) (f : Frame) (late : Bool),
    d < 256 →
    s.get (Reg.DEC.VALID d) = 1 →
    s.get (Reg.DEC.SRC d) ≠ 0 →
    e = s.get (Reg.DEC.ESE d) →
    s.get (Reg.FAB.ESE_SRC_SRCVALID e) = 1 →
    i = s.get (Reg.FAB.ESE_SRC_ENTRY e) →
    (s.ing i).cur = some f →
    (s.decHw d).from_ ≤ (s.ing i).at_ + 6000 →
    why = s.decVerdict f (s.get (Reg.DEC.SRC d)) (s.decHw d).base →
    g = s.get (Reg.DEC.ENGINE d) →
    l = s.get (Reg.DEC.LAYER d) →
    g < 8 →
    l < 63 →
    late = true ∨ s.dramUp = false →
    why ≠ 0 →
    ∃ t, exec (.decimatorFrame d late) s = .next t ∧
      t.get (Reg.DEC.LATE d) = (s.get (Reg.DEC.LATE d) + 1) % 65536 ∧
      (t.decHw d).base = f.token.map (fun k => (k.count, f.tstate)) ∧
      t.get (Reg.DEC.TOKFAIL d) = (s.get (Reg.DEC.TOKFAIL d) + 1) % 65536 ∧
      t.get (Reg.MICA.LAY_FAILCNT g l) = (s.get (Reg.MICA.LAY_FAILCNT g l) + 1) % 65536 ∧
      Assoc.findD (t.micaHw g).passes l 0 = 0) ∧
  (∀ (s : State) (d e i g l why : Nat) (f : Frame) (late : Bool),
    d < 256 →
    s.get (Reg.DEC.VALID d) = 1 →
    s.get (Reg.DEC.SRC d) ≠ 0 →
    e = s.get (Reg.DEC.ESE d) →
    s.get (Reg.FAB.ESE_SRC_SRCVALID e) = 1 →
    i = s.get (Reg.FAB.ESE_SRC_ENTRY e) →
    (s.ing i).cur = some f →
    (s.decHw d).from_ ≤ (s.ing i).at_ + 6000 →
    why = s.decVerdict f (s.get (Reg.DEC.SRC d)) (s.decHw d).base →
    g = s.get (Reg.DEC.ENGINE d) →
    l = s.get (Reg.DEC.LAYER d) →
    g < 8 →
    l < 63 →
    late = false →
    s.dramUp = true →
    why = 0 →
    ∃ t, exec (.decimatorFrame d late) s = .next t ∧
      t.get (Reg.DEC.FRAMES d) = (s.get (Reg.DEC.FRAMES d) + 1) % 2 ^ 32 ∧
      (t.decHw d).base = f.token.map (fun k => (k.count, f.tstate)) ∧
      Assoc.findD (t.micaHw g).passes l 0 = Assoc.findD (s.micaHw g).passes l 0 + 1 ∧
      (∃ x, (t.decHw d).newest = some x ∧ x.cause = 0 ∧ x.w = s.get (Reg.DEC.W d) ∧ x.h = s.get (Reg.DEC.H d) ∧ x.at_ = s.now) ∧
      RegsKept [.dec, .mica, .drc] s t) ∧
  (∀ (s : State) (d e i g l why : Nat) (f : Frame) (late : Bool),
    d < 256 →
    s.get (Reg.DEC.VALID d) = 1 →
    s.get (Reg.DEC.SRC d) ≠ 0 →
    e = s.get (Reg.DEC.ESE d) →
    s.get (Reg.FAB.ESE_SRC_SRCVALID e) = 1 →
    i = s.get (Reg.FAB.ESE_SRC_ENTRY e) →
    (s.ing i).cur = some f →
    (s.decHw d).from_ ≤ (s.ing i).at_ + 6000 →
    why = s.decVerdict f (s.get (Reg.DEC.SRC d)) (s.decHw d).base →
    g = s.get (Reg.DEC.ENGINE d) →
    l = s.get (Reg.DEC.LAYER d) →
    g < 8 →
    l < 63 →
    late = false →
    s.dramUp = true →
    why ≠ 0 →
    ∃ t, exec (.decimatorFrame d late) s = .next t ∧
      t.get (Reg.DEC.FRAMES d) = (s.get (Reg.DEC.FRAMES d) + 1) % 2 ^ 32 ∧
      (t.decHw d).base = f.token.map (fun k => (k.count, f.tstate)) ∧
      t.get (Reg.DEC.TOKFAIL d) = (s.get (Reg.DEC.TOKFAIL d) + 1) % 65536 ∧
      t.get (Reg.MICA.LAY_FAILCNT g l) = (s.get (Reg.MICA.LAY_FAILCNT g l) + 1) % 65536 ∧
      Assoc.findD (t.micaHw g).passes l 0 = 0 ∧
      (∃ x, (t.decHw d).newest = some x ∧ x.cause = why) ∧
      RegsKept [.dec, .mica, .drc] s t) ∧
  (∀ (s : State) (g l : Nat),
    s.micaRuns g = true →
    l < 63 →
    s.get (Reg.MICA.LAY_BOUND g l) = 1 →
    s.get (Reg.MICA.LIVE g) ≠ 0 →
    s.get (Reg.MICA.LAY_STATE g l) ≠ 3 →
    s.layerSeen g l + s.get (Reg.MICA.LIVE g) * 1000000 ≤ s.now →
    ∃ t, exec (.layerStaleTimeout g l) s = .next t ∧
      t.get (Reg.MICA.LAY_STATE g l) = 3 ∧
      Assoc.findD (t.micaHw g).passes l 0 = 0 ∧
      Raised (1313 + 4 * g) t ∧
      RegsKept [.mica, .flt] s t) ∧
  (∀ (s : State) (g l : Nat),
    s.micaRuns g = false ∨ 63 ≤ l ∨ s.get (Reg.MICA.LAY_BOUND g l) = 0 ∨ s.get (Reg.MICA.LIVE g) = 0 ∨ s.get (Reg.MICA.LAY_STATE g l) = 3 ∨ s.now < s.layerSeen g l + s.get (Reg.MICA.LIVE g) * 1000000 →
    ∃ t, exec (.layerStaleTimeout g l) s = .next t ∧
      t = s) ∧
  (∀ (s : State) (m g a k : Nat) (data : Word),
    Quiet m s →
    g < 8 →
    a = s.get (Reg.MICA.LUTADDR g) →
    k = s.micaSel g * 4096 + a →
    (s.micaHw g).lutPast = false →
    ∃ t, exec (.micaLutdataAccess m g true data) s = .next t ∧
      Assoc.findD (t.micaHw g).nextLut k 0 = data.toNat % 65536 ∧
      t.get (Reg.MICA.LUTADDR g) = (a + 1) % 4096 ∧
      (t.micaHw g).lutPast = (a == 4095) ∧
      (t.micaHw g).lut = (s.micaHw g).lut) ∧
  (∀ (s : State) (m g : Nat) (data : Word),
    Quiet m s →
    g < 8 →
    (s.micaHw g).lutPast = true →
    ∃ t, exec (.micaLutdataAccess m g true data) s = .next t ∧
      t.mica = s.mica ∧
      t.get (Reg.MICA.LUTADDR g) = s.get (Reg.MICA.LUTADDR g) ∧
      bit (t.get (Reg.MICA.EVSTAT g)) 7 = true) ∧
  (∀ (s : State) (m g a k v : Nat) (data : Word),
    Quiet m s →
    g < 8 →
    s.mgt.stalled = [] →
    a = s.get (Reg.MICA.LUTADDR g) →
    k = s.micaSel g * 4096 + a →
    v = Assoc.findD (s.micaHw g).nextLut k 0 →
    v < 65536 →
    (s.micaHw g).lutPast = false →
    s.prov.inverted = [] →
    ∃ t, exec (.micaLutdataAccess m g false data) s = .next t ∧
      Assoc.find t.mgt.readBack m = some ⟨0, BitVec.ofNat 32 v⟩ ∧
      t.get (Reg.MICA.LUTADDR g) = (a + 1) % 4096 ∧
      (t.micaHw g).nextLut = (s.micaHw g).nextLut) ∧
  (∀ (s : State) (m g : Nat) (data : Word),
    Quiet m s →
    g < 8 →
    s.mgt.stalled = [] →
    (s.micaHw g).lutPast = true →
    ∃ t, exec (.micaLutdataAccess m g false data) s = .next t ∧
      Assoc.find t.mgt.readBack m = some ⟨0, BitVec.ofNat 32 (Config.freeNat s.freeCtr % 65536)⟩ ∧
      t.freeCtr = s.freeCtr + 1 ∧
      t.get (Reg.MICA.LUTADDR g) = s.get (Reg.MICA.LUTADDR g) ∧
      t.mica = s.mica) ∧
  (∀ (s : State) (m g : Nat) (w : Bool) (data : Word) (cmd : Instr), cmd ∈ ([.micaLutdataAccess m g w data, .micaCommit m g data, .reflatten m g data, .flintloadGo m g data, .bind m g, .rebind m g, .unbind m g] : List Instr) →
    8 ≤ g →
    ∃ t, exec cmd s = .next t ∧
      t = s)

/-- Panel scan-out: start, link training, hot plug, flips and frames. Setting EN with timings, bandwidth and panel that pass the
checks begins the training of the link; a check that fails refuses the start with its code and event. Clearing EN turns the
link OFF and gives its DRAM bandwidth back at once. SCAN_TRAIN_DONE of a start goes UP, runs, and charges its DRAM
bandwidth. A failed one refuses the start with its event. A later training that succeeds goes UP again, and one that fails
DOWN, with its event. Outside training it is nothing. EDP_HPD falling takes a link that is UP, in self-refresh or training
again DOWN with its event; rising, it trains a DOWN link again. In the other states only the level is taken.
SCAN_TRAIN_RETRY trains a link that failed to train, 1 s after it went DOWN; before that, and in any other case, it does
nothing. EDP_LINK_LOSS takes an UP link DOWN; no other has one to lose. FLIP of a buffer inside the DRAM makes it pending,
counts one that it replaces, and leaves self-refresh; while the block does not run it is CUR at once; one not wholly inside
is refused with its event. FLIP and PSREXIT without bit 0 do nothing. SCAN_LATCH_POINT makes the pending buffer CUR; with
none pending, in self-refresh or while it is being left, nothing. SCAN_FRAME_START in OFF is nothing; in every other state
it counts frames, and those without a flip; in UP it stamps the first of a new buffer, and sends the picture; with the DRAM
out of service every line of it is late, black and counted. Rests on parts of R323, R324, R326, R327. (12_panel_scanout.md) -/
def Obligations.ScanLink : Prop :=
  (∀ (s : State) (m blk : Nat) (data : Word),
    Quiet m s →
    blk = (Blk.mk .scan 0).base →
    s.get Reg.SCAN.CTRL_EN = 0 →
    s.get Reg.SCAN.STAT_RUN = 0 →
    data = 1 →
    s.scanCheck = 0 →
    ∃ t, exec (.blockEnable m blk data) s = .next t ∧
      t.get Reg.SCAN.STAT_LSTATE = 1 ∧
      t.scan.starting = true ∧
      t.get Reg.SCAN.STAT_STARTERR = 0 ∧
      t.get Reg.SCAN.FRAMECNT = 0 ∧
      t.get Reg.SCAN.STAT_RUN = 0 ∧
      t.dram = s.dram) ∧
  (∀ (s : State) (m blk e : Nat) (data : Word),
    Quiet m s →
    blk = (Blk.mk .scan 0).base →
    s.get Reg.SCAN.CTRL_EN = 0 →
    s.get Reg.SCAN.STAT_RUN = 0 →
    data = 1 →
    e = s.scanCheck →
    e ≠ 0 →
    ∃ t, exec (.blockEnable m blk data) s = .next t ∧
      t.get Reg.SCAN.STAT_LSTATE = 0 ∧
      t.scan.starting = false ∧
      t.get Reg.SCAN.STAT_STARTERR = e ∧
      t.get Reg.SCAN.STAT_RUN = 0 ∧
      Raised 1349 t ∧
      t.dram = s.dram) ∧
  (∀ (s : State) (m blk : Nat) (data : Word),
    Quiet m s →
    blk = (Blk.mk .scan 0).base →
    s.get Reg.SCAN.CTRL_EN = 1 →
    data = 0 →
    ∃ t, exec (.blockDisable m blk data) s = .next t ∧
      t.get Reg.SCAN.STAT_LSTATE = 0 ∧
      t.scan.kbps = 0 ∧
      t.dram.kbps = s.dram.kbps - s.scan.kbps ∧
      t.scan.starting = false) ∧
  (∀ (s : State) (p : Bool),
    s.get Reg.SCAN.STAT_LSTATE = 1 →
    s.scan.starting = true →
    ∃ t, exec (.scanTrainDone true p) s = .next t ∧
      t.get Reg.SCAN.STAT_LSTATE = 2 ∧
      t.get Reg.SCAN.STAT_RUN = 1 ∧
      t.scan.starting = false ∧
      t.scan.psrPanel = p ∧
      t.dram.kbps = s.dram.kbps + s.scanKbps ∧
      t.scan.kbps = s.scanKbps) ∧
  (∀ (s : State) (p : Bool),
    s.get Reg.SCAN.STAT_LSTATE = 1 →
    s.scan.starting = true →
    ∃ t, exec (.scanTrainDone false p) s = .next t ∧
      t.get Reg.SCAN.STAT_LSTATE = 0 ∧
      t.get Reg.SCAN.STAT_STARTERR = 4 ∧
      t.get Reg.SCAN.STAT_RUN = 0 ∧
      t.scan.starting = false ∧
      Raised 1349 t ∧
      t.dram = s.dram ∧
      RegsKept [.scan, .flt] s t) ∧
  (∀ (s : State) (p : Bool),
    s.get Reg.SCAN.STAT_LSTATE = 1 →
    s.scan.starting = false →
    ∃ t, exec (.scanTrainDone true p) s = .next t ∧
      t.get Reg.SCAN.STAT_LSTATE = 2 ∧
      t.scan.trainFailed = false ∧
      t.scan.fromPsr = false ∧
      t.scan.psrPanel = p ∧
      t.dram = s.dram ∧
      WordsKept [Reg.SCAN.STAT_LSTATE.addr] s t) ∧
  (∀ (s : State) (p : Bool),
    s.get Reg.SCAN.STAT_LSTATE = 1 →
    s.scan.starting = false →
    ∃ t, exec (.scanTrainDone false p) s = .next t ∧
      t.get Reg.SCAN.STAT_LSTATE = 4 ∧
      t.scan.trainFailed = true ∧
      t.scan.downAt = s.now ∧
      Raised 1345 t ∧
      RegsKept [.scan, .flt] s t) ∧
  (∀ (s : State) (k p : Bool),
    s.get Reg.SCAN.STAT_LSTATE ≠ 1 →
    ∃ t, exec (.scanTrainDone k p) s = .next t ∧
      t = s) ∧
  (∀ (s : State),
    s.get Reg.SCAN.STAT_LSTATE = 2 ∨ s.get Reg.SCAN.STAT_LSTATE = 3 ∨ (s.get Reg.SCAN.STAT_LSTATE = 1 ∧ s.scan.starting = false) →
    ∃ t, exec (.edpHpdEdge false) s = .next t ∧
      t.get Reg.SCAN.STAT_LSTATE = 4 ∧
      t.scan.hpd = false ∧
      t.scan.trainFailed = false ∧
      Raised 1345 t ∧
      RegsKept [.scan, .flt] s t) ∧
  (∀ (s : State),
    s.get Reg.SCAN.STAT_LSTATE = 4 →
    ∃ t, exec (.edpHpdEdge true) s = .next t ∧
      t.get Reg.SCAN.STAT_LSTATE = 1 ∧
      t.scan.hpd = true ∧
      t.scan.trainFailed = false ∧
      t.out = s.out ∧
      RegsKept [.scan, .flt] s t) ∧
  (∀ (s : State) (h : Bool),
    (if h then s.get Reg.SCAN.STAT_LSTATE ≠ 4 else (s.get Reg.SCAN.STAT_LSTATE = 0 ∨ s.get Reg.SCAN.STAT_LSTATE = 4 ∨ (s.get Reg.SCAN.STAT_LSTATE = 1 ∧ s.scan.starting = true))) →
    ∃ t, exec (.edpHpdEdge h) s = .next t ∧
      t = { s with scan := { s.scan with hpd := h } }) ∧
  (∀ (s : State),
    s.get Reg.SCAN.STAT_LSTATE = 4 →
    s.scan.trainFailed = true →
    s.scan.downAt + 1000000000 ≤ s.now →
    ∃ t, exec (.scanTrainRetry) s = .next t ∧
      t.get Reg.SCAN.STAT_LSTATE = 1 ∧
      t.scan.trainFailed = false ∧
      RegsKept [.scan] s t) ∧
  (∀ (s : State),
    s.get Reg.SCAN.STAT_LSTATE ≠ 4 ∨ s.scan.trainFailed = false ∨ s.now < s.scan.downAt + 1000000000 →
    ∃ t, exec (.scanTrainRetry) s = .next t ∧
      t = s) ∧
  (∀ (s : State),
    s.get Reg.SCAN.STAT_LSTATE = 2 →
    ∃ t, exec (.edpLinkLoss) s = .next t ∧
      t.get Reg.SCAN.STAT_LSTATE = 4 ∧
      t.scan.trainFailed = false ∧
      Raised 1345 t ∧
      RegsKept [.scan, .flt] s t) ∧
  (∀ (s : State),
    s.get Reg.SCAN.STAT_LSTATE ≠ 2 →
    ∃ t, exec (.edpLinkLoss) s = .next t ∧
      t = s) ∧
  (∀ (s : State) (m a : Nat) (data : Word),
    Quiet m s →
    bit data.toNat 0 = true →
    a = s.getLow Reg.SCAN.NEXTLO * 64 + s.get Reg.SCAN.NEXTHI * 2 ^ 32 →
    a + s.scanUse Reg.SCAN.FBCFG_PITCH * s.scanUse Reg.SCAN.VTIM_VACT ≤ s.dramUsableMib * 1048576 →
    a < s.dramUsableMib * 1048576 →
    s.get Reg.SCAN.STAT_RUN = 1 →
    ∃ t, exec (.flip m data) s = .next t ∧
      t.get Reg.SCAN.STAT_FLIPPEND = 1 ∧
      t.scan.next = a ∧
      t.scan.flipped = true ∧
      t.scan.idle = 0 ∧
      t.get Reg.SCAN.CURLO = s.get Reg.SCAN.CURLO ∧
      t.get Reg.SCAN.CNT_REPLACED = (s.get Reg.SCAN.CNT_REPLACED + s.get Reg.SCAN.STAT_FLIPPEND) % 2 ^ (Reg.SCAN.CNT_REPLACED).width ∧
      (t.get Reg.SCAN.STAT_LSTATE = if s.get Reg.SCAN.STAT_LSTATE = 3 then 1 else s.get Reg.SCAN.STAT_LSTATE) ∧
      RegsKept [.scan] s t) ∧
  (∀ (s : State) (m a : Nat) (data : Word),
    Quiet m s →
    bit data.toNat 0 = true →
    a = s.getLow Reg.SCAN.NEXTLO * 64 + s.get Reg.SCAN.NEXTHI * 2 ^ 32 →
    a + s.scanUse Reg.SCAN.FBCFG_PITCH * s.scanUse Reg.SCAN.VTIM_VACT ≤ s.dramUsableMib * 1048576 →
    a < s.dramUsableMib * 1048576 →
    s.get Reg.SCAN.STAT_RUN = 0 →
    ∃ t, exec (.flip m data) s = .next t ∧
      t.get Reg.SCAN.CURLO * 64 + t.get Reg.SCAN.CURHI * 2 ^ 32 = a ∧
      t.get Reg.SCAN.STAT_FLIPPEND = s.get Reg.SCAN.STAT_FLIPPEND ∧
      t.scan = s.scan ∧
      RegsKept [.scan] s t) ∧
  (∀ (s : State) (m a : Nat) (data : Word),
    Quiet m s →
    bit data.toNat 0 = true →
    a = s.getLow Reg.SCAN.NEXTLO * 64 + s.get Reg.SCAN.NEXTHI * 2 ^ 32 →
    s.dramUsableMib * 1048576 ≤ a ∨ s.dramUsableMib * 1048576 < a + s.scanUse Reg.SCAN.FBCFG_PITCH * s.scanUse Reg.SCAN.VTIM_VACT →
    ∃ t, exec (.flip m data) s = .next t ∧
      Raised 1347 t ∧
      t.scan = s.scan ∧
      t.get Reg.SCAN.STAT_FLIPPEND = s.get Reg.SCAN.STAT_FLIPPEND ∧
      t.get Reg.SCAN.CURLO = s.get Reg.SCAN.CURLO) ∧
  (∀ (s : State) (m : Nat) (data : Word) (cmd : Instr), cmd ∈ ([.flip m data, .psrexit m data] : List Instr) →
    Quiet m s →
    bit data.toNat 0 = false →
    ∃ t, exec cmd s = .next t ∧
      t.scan = s.scan ∧
      WordsKept [Reg.SCAN.STAT_RUN.addr] s t) ∧
  (∀ (s : State),
    s.get Reg.SCAN.STAT_RUN = 1 →
    s.get Reg.SCAN.STAT_FLIPPEND = 1 →
    s.scan.fromPsr = false →
    s.get Reg.SCAN.STAT_LSTATE ≠ 3 →
    s.scan.next % 64 = 0 →
    s.scan.next < 2 ^ 36 →
    ∃ t, exec (.scanLatchPoint) s = .next t ∧
      t.get Reg.SCAN.STAT_FLIPPEND = 0 ∧
      t.get Reg.SCAN.CURLO * 64 + t.get Reg.SCAN.CURHI * 2 ^ 32 = s.scan.next ∧
      t.scan = { s.scan with toShow := true } ∧
      RegsKept [.scan] s t) ∧
  (∀ (s : State),
    s.get Reg.SCAN.STAT_RUN = 0 ∨ s.get Reg.SCAN.STAT_FLIPPEND = 0 ∨ s.scan.fromPsr = true ∨ s.get Reg.SCAN.STAT_LSTATE = 3 →
    ∃ t, exec (.scanLatchPoint) s = .next t ∧
      t = s) ∧
  (∀ (s : State),
    s.get Reg.SCAN.STAT_LSTATE = 0 →
    ∃ t, exec (.scanFrameStart) s = .next t ∧
      t = s) ∧
  (∀ (s : State),
    s.get Reg.SCAN.STAT_LSTATE ≠ 0 →
    s.get Reg.SCAN.STAT_LSTATE ≠ 2 →
    ∃ t, exec (.scanFrameStart) s = .next t ∧
      t.get Reg.SCAN.FRAMECNT = (s.get Reg.SCAN.FRAMECNT + 1) % 2 ^ 32 ∧
      (t.scan = { s.scan with idle := if s.scan.flipped then 0 else s.scan.idle + 1, flipped := false }) ∧
      t.out = s.out ∧
      WordsKept [Reg.SCAN.FRAMECNT.addr] s t) ∧
  (∀ (s : State),
    s.get Reg.SCAN.STAT_LSTATE = 2 →
    s.scan.toShow = true →
    ∃ t, exec (.scanFrameStart) s = .next t ∧
      t.get Reg.SCAN.FRAMECNT = (s.get Reg.SCAN.FRAMECNT + 1) % 2 ^ 32 ∧
      t.get Reg.SCAN.FLIPSEQ = (s.get Reg.SCAN.FLIPSEQ + 1) % 2 ^ (Reg.SCAN.FLIPSEQ).width ∧
      t.get64 Reg.SCAN.FLIPTSLO Reg.SCAN.FLIPTSHI = s.timeNs % 2 ^ 64 ∧
      t.scan.toShow = false ∧
      RegsKept [.scan, .flt] s t) ∧
  (∀ (s : State),
    s.get Reg.SCAN.STAT_LSTATE = 2 →
    s.dramUp = true →
    ∃ t, exec (.scanFrameStart) s = .next t ∧
      t.out = .panel s.scanPicture :: s.out ∧
      t.get Reg.SCAN.FRAMECNT = (s.get Reg.SCAN.FRAMECNT + 1) % 2 ^ 32 ∧
      t.get Reg.SCAN.CNT_UNDERRUN = s.get Reg.SCAN.CNT_UNDERRUN ∧
      RegsKept [.scan] s t) ∧
  (∀ (s : State),
    s.get Reg.SCAN.STAT_LSTATE = 2 →
    s.dramUp = false →
    s.scanUse Reg.SCAN.VTIM_VACT < 65536 →
    ∃ t, exec (.scanFrameStart) s = .next t ∧
      t.out = .panel (List.replicate (s.scanUse Reg.SCAN.VTIM_VACT * s.scanUse Reg.SCAN.HTIM_HACT) ⟨0, 0, 0⟩) :: s.out ∧
      t.get Reg.SCAN.CNT_UNDERRUN = (s.get Reg.SCAN.CNT_UNDERRUN + s.scanUse Reg.SCAN.VTIM_VACT) % 2 ^ (Reg.SCAN.CNT_UNDERRUN).width ∧
      RegsKept [.scan, .flt] s t)

/-- Panel scan-out: AUX mailbox, self-refresh and underrun. NATIVE_READ, NATIVE_WRITE, I2C_READ and I2C_WRITE send their request
on the AUX channel when it is free and the link does not train; a request of each of the four kinds that is written while
the link trains waits, and is sent when the training ends. A request while one is in progress is discarded. AUX_REPLY with
ACK stores the bytes read in AUXDATA and ends the request; of a write it only ends it. NACK ends it with code 1 and an
eighth DEFER with code 2, an earlier one is retried. With no request sent there is no reply and no timeout. AUX_TIMEOUT, 400
µs after it was sent, ends it with code 3, and not before. PSR_ENTRY sends the entry data; a panel that accepts takes the
link to PSR, a refusal raises its event. Off, with a flip pending or before IDLEFR idle frames there is none. PSREXIT leaves
PSR by training; in any other state it is nothing. UNDERRUN makes the late line, which is free, of the frame being sent
black, and counts it; only in UP are lines sent. Rests on parts of R326, R328, R329. (12_panel_scanout.md) -/
def Obligations.ScanAuxAndRefresh : Prop :=
  (∀ (s : State) (m a n : Nat),
    Quiet m s →
    s.scan.aux = none →
    s.get Reg.SCAN.STAT_LSTATE ≠ 1 →
    ∃ t, exec (.nativeRead m a n) s = .next t ∧
      t.scan.aux = some ⟨1, a % 2 ^ 20, n % 16 + 1, 0, s.now⟩ ∧
      t.scan.auxWaits = false ∧
      t.get Reg.SCAN.AUXRES_DONE = 0 ∧
      t.out = .aux 1 (a % 2 ^ 20) (n % 16 + 1) [] :: s.out ∧
      RegsKept [.scan] s t) ∧
  (∀ (s : State) (m a n : Nat),
    Quiet m s →
    s.scan.aux = none →
    s.get Reg.SCAN.STAT_LSTATE ≠ 1 →
    ∃ t, exec (.nativeWrite m a n) s = .next t ∧
      t.scan.aux = some ⟨2, a % 2 ^ 20, n % 16 + 1, 0, s.now⟩ ∧
      t.scan.auxWaits = false ∧
      t.get Reg.SCAN.AUXRES_DONE = 0 ∧
      (t.out = .aux 2 (a % 2 ^ 20) (n % 16 + 1) (((List.range 4).map fun j => leBytes 4 (s.get (Reg.SCAN.AUXDATA j))).flatten.take (n % 16 + 1)) :: s.out) ∧
      RegsKept [.scan] s t) ∧
  (∀ (s : State) (m a n : Nat),
    Quiet m s →
    s.scan.aux = none →
    s.get Reg.SCAN.STAT_LSTATE ≠ 1 →
    ∃ t, exec (.i2cRead m a n) s = .next t ∧
      t.scan.aux = some ⟨3, a % 2 ^ 20, n % 16 + 1, 0, s.now⟩ ∧
      t.scan.auxWaits = false ∧
      t.get Reg.SCAN.AUXRES_DONE = 0 ∧
      t.out = .aux 3 (a % 2 ^ 20) (n % 16 + 1) [] :: s.out ∧
      RegsKept [.scan] s t) ∧
  (∀ (s : State) (m a n : Nat),
    Quiet m s →
    s.scan.aux = none →
    s.get Reg.SCAN.STAT_LSTATE ≠ 1 →
    ∃ t, exec (.i2cWrite m a n) s = .next t ∧
      t.scan.aux = some ⟨4, a % 2 ^ 20, n % 16 + 1, 0, s.now⟩ ∧
      t.scan.auxWaits = false ∧
      t.get Reg.SCAN.AUXRES_DONE = 0 ∧
      (t.out = .aux 4 (a % 2 ^ 20) (n % 16 + 1) (((List.range 4).map fun j => leBytes 4 (s.get (Reg.SCAN.AUXDATA j))).flatten.take (n % 16 + 1)) :: s.out) ∧
      RegsKept [.scan] s t) ∧
  (∀ (s : State) (m a n : Nat),
    Quiet m s →
    s.scan.aux = none →
    s.get Reg.SCAN.STAT_LSTATE = 1 →
    ∃ t, exec (.nativeRead m a n) s = .next t ∧
      t.scan.aux = some ⟨1, a % 2 ^ 20, n % 16 + 1, 0, s.now⟩ ∧
      t.scan.auxWaits = true ∧
      t.out = s.out) ∧
  (∀ (s : State) (m a n : Nat),
    Quiet m s →
    s.scan.aux = none →
    s.get Reg.SCAN.STAT_LSTATE = 1 →
    ∃ t, exec (.nativeWrite m a n) s = .next t ∧
      t.scan.aux = some ⟨2, a % 2 ^ 20, n % 16 + 1, 0, s.now⟩ ∧
      t.scan.auxWaits = true ∧
      t.out = s.out) ∧
  (∀ (s : State) (m a n : Nat),
    Quiet m s →
    s.scan.aux = none →
    s.get Reg.SCAN.STAT_LSTATE = 1 →
    ∃ t, exec (.i2cRead m a n) s = .next t ∧
      t.scan.aux = some ⟨3, a % 2 ^ 20, n % 16 + 1, 0, s.now⟩ ∧
      t.scan.auxWaits = true ∧
      t.out = s.out) ∧
  (∀ (s : State) (m a n : Nat),
    Quiet m s →
    s.scan.aux = none →
    s.get Reg.SCAN.STAT_LSTATE = 1 →
    ∃ t, exec (.i2cWrite m a n) s = .next t ∧
      t.scan.aux = some ⟨4, a % 2 ^ 20, n % 16 + 1, 0, s.now⟩ ∧
      t.scan.auxWaits = true ∧
      t.out = s.out) ∧
  (∀ (s : State) (q : AuxReq) (k p : Bool) (b : List Byte),
    s.scan.aux = some q →
    s.scan.auxWaits = true →
    s.get Reg.SCAN.STAT_LSTATE = 1 →
    (b = if q.op = 2 ∨ q.op = 4 then (((List.range 4).map fun j => leBytes 4 (s.get (Reg.SCAN.AUXDATA j))).flatten.take q.len) else []) →
    ∃ t, exec (.scanTrainDone k p) s = .next t ∧
      t.scan.aux = some { q with sentAt := s.now } ∧
      t.scan.auxWaits = false ∧
      t.out = .aux q.op q.addr q.len b :: s.out) ∧
  (∀ (s : State) (m a n : Nat) (cmd : Instr), cmd ∈ ([.nativeRead m a n, .nativeWrite m a n, .i2cRead m a n, .i2cWrite m a n] : List Instr) →
    Quiet m s →
    s.scan.aux.isSome = true →
    ∃ t, exec cmd s = .next t ∧
      t.scan = s.scan ∧
      t.out = s.out ∧
      t.get Reg.SCAN.AUXRES_DONE = s.get Reg.SCAN.AUXRES_DONE) ∧
  (∀ (s : State) (q : AuxReq) (b l : List Byte),
    s.scan.aux = some q →
    s.scan.auxWaits = false →
    q.op = 1 ∨ q.op = 3 →
    (l = b.take q.len ++ ((List.range 4).map fun j => leBytes 4 (s.get (Reg.SCAN.AUXDATA j))).flatten.drop (b.take q.len).length) →
    ∃ t, exec (.auxReply 0 b) s = .next t ∧
      t.scan.aux = none ∧
      t.get Reg.SCAN.AUXRES_DONE = 1 ∧
      t.get Reg.SCAN.AUXRES_CODE = 0 ∧
      (∀ k ∈ List.range 4, t.get (Reg.SCAN.AUXDATA k) = leNat ((l.drop (4 * k)).take 4)) ∧
      RegsKept [.scan] s t) ∧
  (∀ (s : State) (q : AuxReq) (b : List Byte),
    s.scan.aux = some q →
    s.scan.auxWaits = false →
    q.op = 2 ∨ q.op = 4 →
    ∃ t, exec (.auxReply 0 b) s = .next t ∧
      t.scan.aux = none ∧
      t.get Reg.SCAN.AUXRES_DONE = 1 ∧
      t.get Reg.SCAN.AUXRES_CODE = 0 ∧
      (∀ k ∈ List.range 4, t.get (Reg.SCAN.AUXDATA k) = s.get (Reg.SCAN.AUXDATA k)) ∧
      RegsKept [.scan] s t) ∧
  (∀ (s : State) (q : AuxReq) (c e : Nat) (b : List Byte),
    s.scan.aux = some q →
    s.scan.auxWaits = false →
    c = 1 ∨ (2 ≤ c ∧ 7 ≤ q.defers) →
    (e = if c = 1 then 1 else 2) →
    ∃ t, exec (.auxReply c b) s = .next t ∧
      t.scan.aux = none ∧
      t.get Reg.SCAN.AUXRES_CODE = e ∧
      t.get Reg.SCAN.AUXRES_DONE = 1 ∧
      (∀ k ∈ List.range 4, t.get (Reg.SCAN.AUXDATA k) = s.get (Reg.SCAN.AUXDATA k)) ∧
      RegsKept [.scan] s t) ∧
  (∀ (s : State) (q : AuxReq) (c : Nat) (b l : List Byte),
    s.scan.aux = some q →
    s.scan.auxWaits = false →
    2 ≤ c →
    q.defers < 7 →
    (l = if q.op = 2 ∨ q.op = 4 then (((List.range 4).map fun j => leBytes 4 (s.get (Reg.SCAN.AUXDATA j))).flatten.take q.len) else []) →
    ∃ t, exec (.auxReply c b) s = .next t ∧
      t.scan.aux = some { q with defers := q.defers + 1, sentAt := s.now } ∧
      t.out = .aux q.op q.addr q.len l :: s.out ∧
      t.regs = s.regs) ∧
  (∀ (s : State) (c : Nat) (b : List Byte) (cmd : Instr), cmd ∈ ([.auxReply c b, .auxTimeout] : List Instr) →
    s.scan.aux = none ∨ s.scan.auxWaits = true →
    ∃ t, exec cmd s = .next t ∧
      t = s) ∧
  (∀ (s : State) (q : AuxReq),
    s.scan.aux = some q →
    s.scan.auxWaits = false →
    q.sentAt + 400000 ≤ s.now →
    ∃ t, exec (.auxTimeout) s = .next t ∧
      t.scan.aux = none ∧
      t.get Reg.SCAN.AUXRES_CODE = 3 ∧
      t.get Reg.SCAN.AUXRES_DONE = 1 ∧
      RegsKept [.scan] s t) ∧
  (∀ (s : State) (q : AuxReq),
    s.scan.aux = some q →
    s.now < q.sentAt + 400000 →
    ∃ t, exec (.auxTimeout) s = .next t ∧
      t = s) ∧
  (∀ (s : State) (a : Bool),
    s.get Reg.SCAN.STAT_LSTATE = 2 →
    s.get Reg.SCAN.PSRCFG_EN = 1 →
    s.scan.psrPanel = true →
    s.get Reg.SCAN.STAT_FLIPPEND = 0 →
    max 2 (s.get Reg.SCAN.PSRCFG_IDLEFR) ≤ s.scan.idle →
    ∃ t, exec (.psrEntry a) s = .next t ∧
      (t.get Reg.SCAN.STAT_LSTATE = (if a then 3 else 2)) ∧
      t.out = .psrEntry :: s.out ∧
      (a = false → Raised 1348 t) ∧
      t.scan = s.scan ∧
      RegsKept [.scan, .flt] s t) ∧
  (∀ (s : State) (a : Bool),
    s.get Reg.SCAN.STAT_LSTATE ≠ 2 ∨ s.get Reg.SCAN.PSRCFG_EN = 0 ∨ s.scan.psrPanel = false ∨ s.get Reg.SCAN.STAT_FLIPPEND = 1 ∨ s.scan.idle < max 2 (s.get Reg.SCAN.PSRCFG_IDLEFR) →
    ∃ t, exec (.psrEntry a) s = .next t ∧
      t = s) ∧
  (∀ (s : State) (m : Nat) (data : Word),
    Quiet m s →
    bit data.toNat 0 = true →
    s.get Reg.SCAN.STAT_LSTATE = 3 →
    ∃ t, exec (.psrexit m data) s = .next t ∧
      t.get Reg.SCAN.STAT_LSTATE = 1 ∧
      t.scan.fromPsr = true ∧
      RegsKept [.scan] s t) ∧
  (∀ (s : State) (m : Nat) (data : Word),
    Quiet m s →
    s.get Reg.SCAN.STAT_LSTATE ≠ 3 →
    ∃ t, exec (.psrexit m data) s = .next t ∧
      t.scan = s.scan ∧
      WordsKept [Reg.SCAN.STAT_RUN.addr] s t) ∧
  (∀ (s : State),
    s.get Reg.SCAN.STAT_LSTATE = 2 →
    ∃ t, exec (.underrun) s = .next t ∧
      t.get Reg.SCAN.CNT_UNDERRUN = (s.get Reg.SCAN.CNT_UNDERRUN + 1) % 2 ^ (Reg.SCAN.CNT_UNDERRUN).width ∧
      RegsKept [.scan, .flt] s t ∧
      t.scan = s.scan ∧
      t.freeCtr = s.freeCtr + 1 ∧
      t.out = State.blackLine (s.scanUse Reg.SCAN.HTIM_HACT) (s.fresh.1 % max 1 (s.scanUse Reg.SCAN.VTIM_VACT)) s.out) ∧
  (∀ (s : State),
    s.get Reg.SCAN.STAT_LSTATE ≠ 2 →
    ∃ t, exec (.underrun) s = .next t ∧
      t = s)

/-- TIME: INCR, steps, servo, captures and transmit stamps. INCR_WRITE of a value in range in NATIVE mode is in use, and the
counter is untouched; out of range, or in SERVO mode, it is ignored with its event. STEP_WRITE queues one signed step. While
TIME is disabled both are discarded and flagged. STEPPED: the counter takes INCR and the step, counts it, and raises its
event; PTP samples that straddle it are dropped. With no step waiting it changes nothing. SERVO_OFFSET is taken at the next
tick: integral and correction within 500 ppm give the INCR in use, and a limit its event; one beyond STEPTHR is a step
instead. In NATIVE mode, or with TIME disabled, it is ignored and flagged. CAPTURE latches the counter of the next tick and
counts; without GO it latches nothing. TIME_MODE_WRITE, unlocked, changes the mode and keeps the INCR in use; to SERVO it
clears the integral. Locked, it leaves the mode, flagged. TXQ_POP removes the head of a transmit queue and shows the next;
of an empty queue it is ignored, and bit 31 clears OVF. Rests on parts of R383, R384, R386, R387, R388, R390, R392, R393,
R397. (15_time.md) -/
def Obligations.TimeCorrections : Prop :=
  (∀ (s : State) (m v : Nat) (data : Word),
    Quiet m s →
    s.timeEn = true →
    s.servoMode = false →
    v = s.get Reg.TIME.INCRLO + data.toNat % 16 * 2 ^ 32 →
    State.incrOk v = true →
    ∃ t, exec (.incrWrite m data) s = .next t ∧
      t.incrInUse = v ∧
      t.get Reg.TIME.INCRHI = data.toNat % 16 ∧
      t.time96 = s.time96 ∧
      RegsKept [.time] s t) ∧
  (∀ (s : State) (m v : Nat) (data : Word),
    Quiet m s →
    s.timeEn = true →
    v = s.get Reg.TIME.INCRLO + data.toNat % 16 * 2 ^ 32 →
    s.servoMode = true ∨ State.incrOk v = false →
    ∃ t, exec (.incrWrite m data) s = .next t ∧
      t.incrInUse = s.incrInUse ∧
      t.get Reg.TIME.STAT_INCR_IGN = 1 ∧
      Raised 131 t ∧
      t.time = s.time ∧
      RegsKept [.time, .flt] s t) ∧
  (∀ (s : State) (m : Nat) (data : Word),
    Quiet m s →
    s.timeEn = true →
    ∃ t, exec (.stepWrite m data) s = .next t ∧
      t.time.steps = s.time.steps ++ [toSigned 64 (s.time.stepLo.toNat + data.toNat * 2 ^ 32)] ∧
      t.get Reg.TIME.STAT_STEPPEND = 1 ∧
      t.time96 = s.time96 ∧
      RegsKept [.time] s t) ∧
  (∀ (s : State) (m : Nat) (data : Word) (cmd : Instr), cmd ∈ ([.incrWrite m data, .stepWrite m data] : List Instr) →
    Quiet m s →
    s.timeEn = false →
    ∃ t, exec cmd s = .next t ∧
      t.time = s.time ∧
      t.incrInUse = s.incrInUse ∧
      t.get Reg.TIME.STAT_CFG_IGN = 1) ∧
  (∀ (s : State) (d : Int) (ds : List Int),
    s.time.steps = d :: ds →
    s.time.offsets = [] →
    s.time.capPend = false →
    Undisturbed s →
    ∃ t, exec (.stepped) s = .next t ∧
      t.time.steps = ds ∧
      t.time96 = ofSigned 96 ((s.time96 : Int) + s.incrInUse + d * 2 ^ 32) ∧
      t.now = s.now + 2 ∧
      t.get Reg.TIME.STEPCNT = (s.get Reg.TIME.STEPCNT + 1) % 65536 ∧
      (ds = [] → s.landing = [] → t.get Reg.TIME.STAT_STEPPEND = 0) ∧
      t.time.ptp.sync = none ∧ t.time.ptp.exch = none ∧ t.time.ptp.delayReq = none ∧
      Raised 129 t) ∧
  (∀ (s : State),
    s.time.steps = [] →
    ∃ t, exec (.stepped) s = .next t ∧
      t = s) ∧
  (∀ (s : State) (m thr : Nat) (data : Word) (o i a : Int),
    Quiet m s →
    s.timeEn = true →
    s.servoMode = true →
    thr = s.get Reg.TIME.SERVO_STEPTHR →
    s.time.steps = [] →
    s.time.offsets = [] →
    s.time.capPend = false →
    Undisturbed s →
    o = toSigned 64 (s.time.offLo.toNat + data.toNat * 2 ^ 32) →
    thr = 0 ∨ o.natAbs ≤ thr →
    i = clampInt (-(500000 * 16777216)) (500000 * 16777216) (s.time.integ + (s.get Reg.TIME.SERVO_KI : Int) * o) →
    a = clampInt (-(500000 * 16777216)) (500000 * 16777216) ((s.get Reg.TIME.SERVO_KP : Int) * o + i) →
    ∃ t, exec (.servoOffset m data) s = .next t ∧
      t.get Reg.TIME.SERVO_OFFSETS = (s.get Reg.TIME.SERVO_OFFSETS + 1) % 65536 ∧
      t.time.offsets = [] ∧
      t.time.integ = i ∧
      t.incrInUse = (divRound (8589934592 * (1000000000 * 16777216 - a)) (1000000000 * 16777216)).toNat % 2 ^ 36 ∧
      (a ≠ (s.get Reg.TIME.SERVO_KP : Int) * o + i → Raised 133 t)) ∧
  (∀ (s : State) (m thr : Nat) (data : Word),
    Quiet m s →
    s.timeEn = true →
    s.servoMode = true →
    thr = s.get Reg.TIME.SERVO_STEPTHR →
    s.time.steps = [] →
    s.time.offsets = [] →
    s.time.capPend = false →
    Undisturbed s →
    thr ≠ 0 →
    thr < (toSigned 64 (s.time.offLo.toNat + data.toNat * 2 ^ 32)).natAbs →
    ∃ t, exec (.servoOffset m data) s = .next t ∧
      t.time.steps = [-(toSigned 64 (s.time.offLo.toNat + data.toNat * 2 ^ 32))] ∧
      t.get Reg.TIME.SERVO_STEPS = (s.get Reg.TIME.SERVO_STEPS + 1) % 65536 ∧
      t.time.integ = 0 ∧
      t.incrInUse = s.incrInUse ∧
      Raised 132 t) ∧
  (∀ (s : State) (m : Nat) (data : Word),
    Quiet m s →
    s.timeEn = false ∨ s.servoMode = false →
    s.time.steps = [] →
    s.time.offsets = [] →
    s.time.capPend = false →
    Undisturbed s →
    ∃ t, exec (.servoOffset m data) s = .next t ∧
      t.time.integ = s.time.integ ∧
      t.time.offsets = [] ∧
      t.incrInUse = s.incrInUse ∧
      t.get Reg.TIME.SERVO_OFFSETS = s.get Reg.TIME.SERVO_OFFSETS ∧
      (if s.timeEn then t.get Reg.TIME.STAT_INCR_IGN = 1 else t.get Reg.TIME.STAT_CFG_IGN = 1)) ∧
  (∀ (s : State) (m : Nat) (data : Word),
    Quiet m s →
    bit data.toNat 0 = true →
    s.time.steps = [] →
    s.time.offsets = [] →
    Undisturbed s →
    ∃ t, exec (.capture m data) s = .next t ∧
      t.get Reg.TIME.CAPFRAC = t.get Reg.TIME.NOWFRAC ∧
      t.get64 Reg.TIME.CAPLO Reg.TIME.CAPHI = t.get64 Reg.TIME.NOWLO Reg.TIME.NOWHI ∧
      t.get Reg.TIME.CAPCTL_CAPSEQ = (s.get Reg.TIME.CAPCTL_CAPSEQ + 1) % 256 ∧
      t.time.capPend = false) ∧
  (∀ (s : State) (m : Nat) (data : Word),
    Quiet m s →
    bit data.toNat 0 = false →
    s.time.steps = [] →
    s.time.offsets = [] →
    s.time.capPend = false →
    Undisturbed s →
    ∃ t, exec (.capture m data) s = .next t ∧
      t.get Reg.TIME.CAPFRAC = s.get Reg.TIME.CAPFRAC ∧
      t.get Reg.TIME.CAPCTL_CAPSEQ = s.get Reg.TIME.CAPCTL_CAPSEQ ∧
      t.now = s.now + 2) ∧
  (∀ (s : State) (m : Nat) (data : Word),
    Quiet m s →
    s.armed m = true →
    bit data.toNat 1 = false →
    ∃ t, exec (.timeModeWrite m data) s = .next t ∧
      t.get Reg.TIME.CTRL_MODE = bits data.toNat 4 4 ∧
      (t.time.integ = if s.get Reg.TIME.CTRL_MODE = 0 ∧ bit data.toNat 4 = true then 0 else s.time.integ) ∧
      (s.get Reg.TIME.CTRL_MODE = 0 ∧ bit data.toNat 4 = true → t.get Reg.TIME.SERVO_INTEG = 0) ∧
      t.incrInUse = s.incrInUse ∧
      t.time96 = s.time96) ∧
  (∀ (s : State) (m : Nat) (data : Word),
    Quiet m s →
    s.armed m = false →
    bit data.toNat 1 = false →
    ∃ t, exec (.timeModeWrite m data) s = .next t ∧
      t.get Reg.TIME.CTRL_MODE = s.get Reg.TIME.CTRL_MODE ∧
      t.time.integ = s.time.integ ∧
      t.incrInUse = s.incrInUse ∧
      (bits data.toNat 4 4 ≠ s.get Reg.TIME.CTRL_MODE → t.get Reg.MGT.STAT_LOCK_IGN = 1)) ∧
  (∀ (s : State) (m p : Nat) (data : Word) (q : Nat × Nat) (l : List (Nat × Nat)),
    Quiet m s →
    p < 64 →
    bit data.toNat 0 = true →
    Assoc.find s.time.txq p = some (q :: l) →
    l.length < 8 →
    ∃ t, exec (.txqPop m p data) s = .next t ∧
      Assoc.find t.time.txq p = some l ∧
      t.get (Reg.TIME.TXQ_SEQ p) = (s.get (Reg.TIME.TXQ_SEQ p) + 1) % 256 ∧
      t.get (Reg.TIME.TXQ_COUNT p) = l.length ∧
      t.get (Reg.TIME.TXQ_VALID p) = b2n (!l.isEmpty) ∧
      (∀ y ∈ l.head?.toList, t.get (Reg.TIME.TXQ_ID p) = y.1 % 65536 ∧ t.get64 (Reg.TIME.TXQ_TSLO p) (Reg.TIME.TXQ_TSHI p) = y.2 % 2 ^ 64) ∧
      RegsKept [.time] s t) ∧
  (∀ (s : State) (m p : Nat) (data : Word),
    Quiet m s →
    64 ≤ p ∨ bit data.toNat 0 = false ∨ Assoc.findD s.time.txq p [] = [] →
    ∃ t, exec (.txqPop m p data) s = .next t ∧
      t.time = s.time ∧
      (p < 64 → bit data.toNat 31 = true → t.get (Reg.TIME.TXQ_OVF p) = 0))

/-- Network time: PTP messages, Sync timeout and lock. A message of another domain, on another port or of an unsupported kind is
discarded. So is an Announce of the chip itself; the first of another makes it the parent, its port a follower, and raises
the change of grandmaster. A two-step Sync of the parent waits, with its stamp, for its Follow_Up. A one-step Sync gives an
offset: the first, or in service one beyond the step limit, is a step; any other writes INCR, moved by no more than the slew
limit. A Follow_Up completes its Sync with both corrections. Those of a sender that is not the parent are discarded, as is a
Follow_Up without its Sync. A sample that straddles a step is dropped. A leader answers a Delay_Req with its stamp; another
port does not. A Delay_Resp to the request in flight gives the path delay; any other is ignored. PTP_MESSAGE_SEND lets the
BMCA judge the port; a leader whose interval has passed sends Sync and its Follow_Up under one sequence number, or Announce,
and a follower Delay_Req. A port in another state, or before its interval, sends none, and one that is no PTP port is not
judged. SYNC_TIMEOUT holds INCR, tells the lodestone, and raises its event; without a parent, a second time or earlier it is
nothing. NETWORK_TIME_LOCKED after 10 s below 1 µs qualifies PTP; earlier, or once locked, it is nothing. PTPSTAT_WRITE sets
QUALIFIED; while the lodestone is enabled it is the word on PTP. Rests on parts of R389, R398, R399, R400, R405.
(15_time.md, 16_references.md) -/
def Obligations.NetworkTime : Prop :=
  (∀ (s : State) (port stamp : Nat) (msg : PtpMsg),
    s.time.ptp.cfg.ports.contains port = false ∨ msg.domain ≠ s.time.ptp.cfg.domain ∨ msg.body = .other →
    ∃ t, exec (.ptpMessageRx port stamp msg) s = .next t ∧
      t = s) ∧
  (∀ (s : State) (port stamp : Nat) (msg : PtpMsg) (ds : PtpDataset) (utc : Int) (leap : Nat),
    s.time.ptp.cfg.ports.contains port = true →
    msg.domain = s.time.ptp.cfg.domain →
    msg.body = .announce ds utc leap →
    ds.identity = s.time.ptp.cfg.identity ∨ msg.source = s.time.ptp.cfg.identity →
    ∃ t, exec (.ptpMessageRx port stamp msg) s = .next t ∧
      t = s) ∧
  (∀ (s : State) (port stamp : Nat) (msg : PtpMsg) (ds : PtpDataset) (utc : Int) (leap : Nat),
    s.time.ptp.cfg.ports.contains port = true →
    msg.domain = s.time.ptp.cfg.domain →
    msg.body = .announce ds utc leap →
    ds.identity ≠ s.time.ptp.cfg.identity →
    msg.source ≠ s.time.ptp.cfg.identity →
    s.time.ptp.foreign = [] →
    0 < s.ptpReceipt →
    s.time.ptp.cfg.leader = false →
    s.time.ptp.gm ≠ some ds.identity →
    ∃ t, exec (.ptpMessageRx port stamp msg) s = .next t ∧
      t.time.ptp.parent = some ⟨port, msg.source, ds, utc, leap, s.now⟩ ∧
      Assoc.findD t.time.ptp.ports port .listening = .follower ∧
      t.time.ptp.gm = some ds.identity ∧
      Raised 135 t) ∧
  (∀ (s : State) (port stamp : Nat) (msg : PtpMsg),
    s.time.ptp.cfg.ports.contains port = true →
    msg.domain = s.time.ptp.cfg.domain →
    msg.body = .syncTwoStep →
    s.ptpFromParent port msg.source = true →
    ∃ t, exec (.ptpMessageRx port stamp msg) s = .next t ∧
      t.time.ptp = { s.time.ptp with sync := some (msg.seq, stamp, msg.correction) } ∧
      t = { s with time := t.time }) ∧
  (∀ (s : State) (port stamp : Nat) (msg : PtpMsg) (o : Int) (t1 : Nat) (l : List Word),
    s.time.ptp.cfg.ports.contains port = true →
    msg.domain = s.time.ptp.cfg.domain →
    msg.body = .syncOneStep t1 l →
    s.ptpFromParent port msg.source = true →
    s.beforeStep stamp = false →
    o = (stamp : Int) - (t1 + msg.correction) - s.time.ptp.pathDelay →
    s.time.ptp.first = true ∨ (s.inService = true ∧ s.time.ptp.cfg.stepLimitNs < o.natAbs) →
    s.timeEn = true →
    ∃ t, exec (.ptpMessageRx port stamp msg) s = .next t ∧
      t.time.ptp.offset = o ∧
      t.time.ptp.exch = some ((t1 : Int) + msg.correction, stamp) ∧
      t.time.ptp.lastSync = s.now ∧
      t.time.ptp.syncLost = false ∧
      t.get Reg.GBUS.TERR = min o.natAbs 65535 ∧
      t.time.steps = s.time.steps ++ [toSigned 64 (ofSigned 64 (-o))] ∧
      t.time.ptp.first = false) ∧
  (∀ (s : State) (port stamp : Nat) (msg : PtpMsg) (o : Int) (t1 : Nat) (l : List Word),
    s.time.ptp.cfg.ports.contains port = true →
    msg.domain = s.time.ptp.cfg.domain →
    msg.body = .syncOneStep t1 l →
    s.ptpFromParent port msg.source = true →
    s.beforeStep stamp = false →
    o = (stamp : Int) - (t1 + msg.correction) - s.time.ptp.pathDelay →
    s.time.ptp.first = false →
    s.inService = false ∨ o.natAbs ≤ s.time.ptp.cfg.stepLimitNs →
    s.timeEn = true →
    s.servoMode = false →
    ∃ t, exec (.ptpMessageRx port stamp msg) s = .next t ∧
      t.time.ptp.offset = o ∧
      t.time.ptp.exch = some ((t1 : Int) + msg.correction, stamp) ∧
      t.time.ptp.lastSync = s.now ∧
      t.time.ptp.syncLost = false ∧
      t.get Reg.GBUS.TERR = min o.natAbs 65535 ∧
      (t.incrInUse = if State.incrOk ((Config.ptpFreqEstimate s.incrInUse o - clampInt (-(divRound (s.time.ptp.cfg.slewMaxPpb * 8589934592) 1000000000)) (divRound (s.time.ptp.cfg.slewMaxPpb * 8589934592) 1000000000) (Config.ptpCorrection s.incrInUse o)).toNat % 2 ^ 36) then (Config.ptpFreqEstimate s.incrInUse o - clampInt (-(divRound (s.time.ptp.cfg.slewMaxPpb * 8589934592) 1000000000)) (divRound (s.time.ptp.cfg.slewMaxPpb * 8589934592) 1000000000) (Config.ptpCorrection s.incrInUse o)).toNat % 2 ^ 36 else s.incrInUse) ∧
      t.time.steps = s.time.steps) ∧
  (∀ (s : State) (port stamp : Nat) (msg : PtpMsg) (q r stamp2 : Nat) (corr : Int) (l : List Word),
    s.time.ptp.cfg.ports.contains port = true →
    msg.domain = s.time.ptp.cfg.domain →
    msg.body = .followUp r l →
    s.ptpFromParent port msg.source = true →
    s.time.ptp.sync = some (q, stamp2, corr) →
    q = msg.seq →
    s.beforeStep stamp2 = false →
    ∃ t, exec (.ptpMessageRx port stamp msg) s = .next t ∧
      t.time.ptp.exch = some ((r : Int) + (corr + msg.correction), stamp2) ∧
      t.time.ptp.sync = none ∧
      t.time.ptp.offset = (stamp2 : Int) - ((r : Int) + (corr + msg.correction)) - s.time.ptp.pathDelay ∧
      t.time.ptp.lastSync = s.now) ∧
  (∀ (s : State) (port stamp : Nat) (msg : PtpMsg) (t1 r : Nat) (l : List Word) (cmd : Instr), cmd ∈ ([.ptpMessageRx port stamp { msg with body := .syncOneStep t1 l }, .ptpMessageRx port stamp { msg with body := .syncTwoStep }, .ptpMessageRx port stamp { msg with body := .followUp t1 l }, .ptpMessageRx port stamp { msg with body := .delayResp r t1 }] : List Instr) →
    s.time.ptp.cfg.ports.contains port = true →
    msg.domain = s.time.ptp.cfg.domain →
    s.ptpFromParent port msg.source = false →
    ∃ t, exec cmd s = .next t ∧
      t = s) ∧
  (∀ (s : State) (port stamp : Nat) (msg : PtpMsg) (r : Nat) (l : List Word),
    s.time.ptp.cfg.ports.contains port = true →
    msg.domain = s.time.ptp.cfg.domain →
    msg.body = .followUp r l →
    (s.time.ptp.sync.map fun p => p.1) ≠ some msg.seq →
    ∃ t, exec (.ptpMessageRx port stamp msg) s = .next t ∧
      t = s) ∧
  (∀ (s : State) (port stamp : Nat) (msg : PtpMsg) (t1 : Nat) (l : List Word),
    s.time.ptp.cfg.ports.contains port = true →
    msg.domain = s.time.ptp.cfg.domain →
    msg.body = .syncOneStep t1 l →
    s.ptpFromParent port msg.source = true →
    s.beforeStep stamp = true →
    ∃ t, exec (.ptpMessageRx port stamp msg) s = .next t ∧
      t.time.ptp.exch = none ∧
      t.time.ptp.offset = s.time.ptp.offset ∧
      t.time.steps = s.time.steps ∧
      t.incrInUse = s.incrInUse) ∧
  (∀ (s : State) (port stamp : Nat) (msg : PtpMsg) (r : Nat),
    s.time.ptp.cfg.ports.contains port = true →
    msg.domain = s.time.ptp.cfg.domain →
    msg.body = .delayReq r →
    Assoc.findD s.time.ptp.ports port .listening = .leader →
    ∃ t, exec (.ptpMessageRx port stamp msg) s = .next t ∧
      t.out = .ptp port ⟨msg.domain, msg.seq, s.time.ptp.cfg.identity, msg.unicast, msg.correction, .delayResp r stamp⟩ :: s.out ∧
      t = { s with out := t.out }) ∧
  (∀ (s : State) (port stamp : Nat) (msg : PtpMsg) (r : Nat),
    s.time.ptp.cfg.ports.contains port = true →
    msg.domain = s.time.ptp.cfg.domain →
    msg.body = .delayReq r →
    Assoc.findD s.time.ptp.ports port .listening ≠ .leader →
    ∃ t, exec (.ptpMessageRx port stamp msg) s = .next t ∧
      t = s) ∧
  (∀ (s : State) (port stamp : Nat) (msg : PtpMsg) (t1 : Int) (t2 t3 t4 : Nat),
    s.time.ptp.cfg.ports.contains port = true →
    msg.domain = s.time.ptp.cfg.domain →
    msg.body = .delayResp s.time.ptp.cfg.identity t4 →
    s.ptpFromParent port msg.source = true →
    s.time.ptp.delayReq = some (msg.seq, t3) →
    s.time.ptp.exch = some (t1, t2) →
    s.beforeStep t2 = false →
    s.beforeStep t3 = false →
    ∃ t, exec (.ptpMessageRx port stamp msg) s = .next t ∧
      t.time.ptp.pathDelay = divFree 398 (((t2 : Int) - t1) + ((t4 : Int) - t3) - msg.correction) 2 ∧
      t.time.ptp.delayReq = none ∧
      t = { s with time := t.time }) ∧
  (∀ (s : State) (port stamp : Nat) (msg : PtpMsg) (r t4 : Nat),
    s.time.ptp.cfg.ports.contains port = true →
    msg.domain = s.time.ptp.cfg.domain →
    msg.body = .delayResp r t4 →
    (r ≠ s.time.ptp.cfg.identity ∨ (s.time.ptp.delayReq.map fun p => p.1) ≠ some msg.seq ∨ s.time.ptp.exch = none) →
    ∃ t, exec (.ptpMessageRx port stamp msg) s = .next t ∧
      t = s) ∧
  (∀ (s u : State) (port stamp q : Nat),
    s.time.ptp.cfg.ports.contains port = true →
    u = s.ptpElect →
    u.ptpDue port .sync = true →
    Assoc.findD u.time.ptp.ports port .listening = .leader →
    q = Assoc.findD u.time.ptp.seqs (State.ptpSeqKey port .sync) 0 →
    ∃ t, exec (.ptpMessageSend port .sync stamp) s = .next t ∧
      (t.out = .ptp port ⟨u.time.ptp.cfg.domain, q, u.time.ptp.cfg.identity, false, 0, .followUp stamp ((List.range 4).map fun j => u.rd (Reg.LODE.SMD j).addr)⟩ :: .ptp port ⟨u.time.ptp.cfg.domain, q, u.time.ptp.cfg.identity, false, 0, .syncTwoStep⟩ :: u.out) ∧
      Assoc.findD t.time.ptp.seqs (State.ptpSeqKey port .sync) 0 = (q + 1) % 65536 ∧
      Assoc.find t.time.ptp.sent (State.ptpSeqKey port .sync) = some u.now ∧
      t.regs = u.regs) ∧
  (∀ (s u : State) (port stamp q : Nat),
    s.time.ptp.cfg.ports.contains port = true →
    u = s.ptpElect →
    u.ptpDue port .announce = true →
    Assoc.findD u.time.ptp.ports port .listening = .leader →
    q = Assoc.findD u.time.ptp.seqs (State.ptpSeqKey port .announce) 0 →
    ∃ t, exec (.ptpMessageSend port .announce stamp) s = .next t ∧
      t.out = .ptp port ⟨u.time.ptp.cfg.domain, q, u.time.ptp.cfg.identity, false, 0, u.ptpAnnounced⟩ :: u.out ∧
      t.regs = u.regs) ∧
  (∀ (s u : State) (port stamp q : Nat),
    s.time.ptp.cfg.ports.contains port = true →
    u = s.ptpElect →
    u.ptpDue port .delayReq = true →
    Assoc.findD u.time.ptp.ports port .listening = .follower →
    q = Assoc.findD u.time.ptp.seqs (State.ptpSeqKey port .delayReq) 0 →
    ∃ t, exec (.ptpMessageSend port .delayReq stamp) s = .next t ∧
      t.out = .ptp port ⟨u.time.ptp.cfg.domain, q, u.time.ptp.cfg.identity, u.time.ptp.cfg.hybrid, 0, .delayReq u.time.ptp.cfg.identity⟩ :: u.out ∧
      t.time.ptp.delayReq = some (q, stamp) ∧
      t.regs = u.regs) ∧
  (∀ (s u : State) (port stamp : Nat) (k : PtpKind),
    s.time.ptp.cfg.ports.contains port = true →
    u = s.ptpElect →
    (u.ptpDue port k = false ∨ k = .followUp ∨ k = .delayResp ∨ Assoc.findD u.time.ptp.ports port .listening ≠ (if k = .delayReq then .follower else .leader)) →
    ∃ t, exec (.ptpMessageSend port k stamp) s = .next t ∧
      t = u) ∧
  (∀ (s : State) (port stamp : Nat) (k : PtpKind),
    s.time.ptp.cfg.ports.contains port = false →
    ∃ t, exec (.ptpMessageSend port k stamp) s = .next t ∧
      t = s) ∧
  (∀ (s : State),
    s.time.ptp.parent.isSome = true →
    s.time.ptp.syncLost = false →
    s.time.ptp.lastSync + s.ptpReceipt ≤ s.now →
    ∃ t, exec (.syncTimeout) s = .next t ∧
      t.time.ptp.syncLost = true ∧
      t.time.ptp.locked = false ∧
      t.time.ptp.first = true ∧
      t.get Reg.LODE.PTPSTAT = 0 ∧
      t.incrInUse = s.incrInUse ∧
      Raised 136 t) ∧
  (∀ (s : State),
    s.time.ptp.parent = none ∨ s.time.ptp.syncLost = true ∨ s.now < s.time.ptp.lastSync + s.ptpReceipt →
    ∃ t, exec (.syncTimeout) s = .next t ∧
      t = s) ∧
  (∀ (s : State) (a : Nat),
    s.time.ptp.belowSince = some a →
    a + 10000000000 ≤ s.now →
    s.time.ptp.locked = false →
    ∃ t, exec (.networkTimeLocked) s = .next t ∧
      t.time.ptp = { s.time.ptp with locked := true } ∧
      t.get Reg.LODE.PTPSTAT = 1) ∧
  (∀ (s : State),
    (s.time.ptp.belowSince.all (fun a => s.now < a + 10000000000) = true ∨ s.time.ptp.locked = true) →
    ∃ t, exec (.networkTimeLocked) s = .next t ∧
      t = s) ∧
  (∀ (s : State) (m : Nat) (data : Word),
    Quiet m s →
    ∃ t, exec (.ptpstatWrite m data) s = .next t ∧
      t.get Reg.LODE.PTPSTAT = data.toNat % 2 ∧
      (s.get Reg.LODE.CTRL_EN = 1 → t.refQualified 1 = bit data.toNat 0))

/-- The lodestone: references, loop stages, holdover, loop and plane steps. REF_QUAL qualifies a reference that has been good
for QUALTIME with its event, and the selection rules apply; of any other it is nothing. REF_DISQUAL of a reference that is
gone and not in use takes its qualification; any other stays. REF_LOST of the reference in use takes its qualification with
both events: the loop goes on with the next that is qualified; with none and no average of 10 s it falls to FREERUN at zero
offset, and with one to HOLDOVER, with its event. A reference that is good, or not qualified, is not lost. REF_REVERT with
the selected reference in use changes nothing; with another selected, the loop takes that one without a hit and raises its
event, out of FREERUN into ACQUIRE and out of HOLDOVER into NARROW; with none, it is as if the last were lost.
LOOP_PHASE_COMPARE of a pin or lane not in use keeps its phase, where its pulse is expected less where it came, of an H
pulse within its line; PTP and TWIN have no pulses. Of the reference in use it steers the oscillator within 500 ppm, by an
amount that is free. LOOP_STAGE_DWELL passed in ACQUIRE goes to NARROW, and in NARROW to TRACK; before it, or in another
state, nothing. HOLDOVER_UPDATE counts a second, judges the temperature table, computes the offset within 500 ppm, and after
HOLDTIME is out of specification with its event; before the second is over, or outside HOLDOVER, nothing. LOOPSTEP_WRITE
adds to LOOPOFS and LOOPREM, after what the step before has made by then, without moving L itself; PHSTEP_DONE moves L by
what remained, with its event, or, sooner, as far as PHSLEW has let it, backwards too; with none pending, or no nanosecond
to make yet, nothing. While EN = 0 every CLKOUT pin is driven low; source code 10 acts as 8, the frame pulse of its plane,
delayed by OFS modulo the frame period. PLANE_STEP adds to the step of the plane; there are 16. SEL_WRITE stores the
selection, and the loop takes the reference it selects, or the order of priority, likewise; disabled, nothing is reselected.
Rests on parts of R402, R405, R406, R407, R408, R409, R411, R412, R414, R415, R420. (16_references.md) -/
def Obligations.Lodestone : Prop :=
  (∀ (s : State) (r : Nat),
    s.lodeEn = true →
    s.refRipe r = true →
    s.refQualified r = false →
    ∃ t, exec (.refQual r) s = .next t ∧
      t.refQualified r = true ∧
      Raised 168 t ∧
      RegsKept [.lode, .flt] s t) ∧
  (∀ (s : State) (r : Nat),
    s.lodeEn = false ∨ s.refRipe r = false ∨ s.refQualified r = true →
    ∃ t, exec (.refQual r) s = .next t ∧
      t = s) ∧
  (∀ (s : State) (r : Nat),
    s.refQualified r = true →
    s.refGone r = true →
    r ≠ s.loopRef →
    (∀ p ∈ s.lode.qual, ∀ q ∈ s.lode.qual, p.1 = q.1 → p = q) →
    ∃ t, exec (.refDisqual r) s = .next t ∧
      t.refQualified r = false ∧
      Assoc.find t.lode.lostAt r = some s.now ∧
      t.get Reg.LODE.STAT_REF = s.get Reg.LODE.STAT_REF ∧
      Raised 167 t ∧
      RegsKept [.lode, .flt] s t) ∧
  (∀ (s : State) (r : Nat),
    s.refQualified r = false ∨ s.refGone r = false ∨ r = s.loopRef →
    ∃ t, exec (.refDisqual r) s = .next t ∧
      t = s) ∧
  (∀ (s : State) (r : Nat),
    r = s.loopRef →
    s.refQualified r = true →
    s.refGone r = true →
    (∀ p ∈ s.lode.qual, ∀ q ∈ s.lode.qual, p.1 = q.1 → p = q) →
    ∃ t, exec (.refLost) s = .next t ∧
      t.refQualified r = false ∧
      Assoc.find t.lode.lostAt r = some s.now ∧
      Raised 161 t ∧
      Raised 167 t ∧
      RegsKept [.lode, .flt] s t) ∧
  (∀ (s : State) (n : Nat),
    s.lodeEn = true →
    s.loopRef ≠ 0 →
    s.refQualified s.loopRef = true →
    s.refGone s.loopRef = true →
    s.prioList = [s.loopRef, n] →
    n ≠ s.loopRef →
    s.get Reg.LODE.SEL_AUTO = 1 →
    s.lode.qual = [(s.loopRef, 0), (n, 0)] →
    1 ≤ s.get Reg.LODE.STAT_STATE →
    s.get Reg.LODE.STAT_STATE ≤ 3 →
    ∃ t, exec (.refLost) s = .next t ∧
      t.get Reg.LODE.STAT_REF = n ∧
      t.get Reg.LODE.STAT_STATE = s.get Reg.LODE.STAT_STATE ∧
      Raised 162 t) ∧
  (∀ (s : State),
    s.lodeEn = true →
    s.loopRef ≠ 0 →
    s.refQualified s.loopRef = true →
    s.refGone s.loopRef = true →
    s.prioList = [s.loopRef] →
    s.get Reg.LODE.SEL_AUTO = 1 →
    s.lode.qual = [(s.loopRef, 0)] →
    s.lode.avg.length < 10 →
    1 ≤ s.get Reg.LODE.STAT_STATE →
    s.get Reg.LODE.STAT_STATE ≤ 3 →
    ∃ t, exec (.refLost) s = .next t ∧
      t.get Reg.LODE.STAT_REF = 0 ∧
      t.get Reg.LODE.STAT_STATE = 0 ∧
      t.get Reg.LODE.FREQ = 0 ∧
      RegsKept [.lode, .flt] s t) ∧
  (∀ (s : State),
    s.lodeEn = true →
    s.loopRef ≠ 0 →
    s.refQualified s.loopRef = true →
    s.refGone s.loopRef = true →
    s.prioList = [s.loopRef] →
    s.get Reg.LODE.SEL_AUTO = 1 →
    s.lode.qual = [(s.loopRef, 0)] →
    10 ≤ s.lode.avg.length →
    1 ≤ s.get Reg.LODE.STAT_STATE →
    s.get Reg.LODE.STAT_STATE ≤ 3 →
    ∃ t, exec (.refLost) s = .next t ∧
      t.get Reg.LODE.STAT_REF = 0 ∧
      t.get Reg.LODE.STAT_STATE = 4 ∧
      t.lode.holdAt = s.now ∧
      Raised 163 t ∧
      RegsKept [.lode, .flt] s t) ∧
  (∀ (s : State),
    s.refQualified s.loopRef = false ∨ s.refGone s.loopRef = false →
    ∃ t, exec (.refLost) s = .next t ∧
      t = s) ∧
  (∀ (s : State),
    s.lodeEn = false ∨ (s.selectedRef = s.loopRef ∧ s.loopRef ≠ 0) →
    ∃ t, exec (.refRevert) s = .next t ∧
      t = s) ∧
  (∀ (s : State) (n : Nat),
    s.lodeEn = true →
    n = s.selectedRef →
    n ≠ s.loopRef →
    n ≠ 0 →
    ∃ t, exec (.refRevert) s = .next t ∧
      t.get Reg.LODE.STAT_REF = n ∧
      (t.loopState = if s.loopState = 0 then 1 else if s.loopState = 4 then 2 else s.loopState) ∧
      t.lode.inside = none ∧
      (s.loopRef ≠ 0 → s.loopState ≠ 0 → s.loopState ≠ 4 → Raised 162 t) ∧
      (s.loopState ≠ 0 → t.lode.l = s.lode.l) ∧
      RegsKept [.lode, .flt] s t) ∧
  (∀ (s : State),
    s.lodeEn = true →
    s.selectedRef = 0 →
    ∃ t, exec (.refRevert) s = .next t ∧
      t.get Reg.LODE.STAT_REF = 0 ∧
      (t.loopState = if s.loopState = 0 ∨ s.loopState = 4 then s.loopState else if 10 ≤ s.lode.avg.length then 4 else 0) ∧
      RegsKept [.lode, .flt] s t) ∧
  (∀ (s : State) (r : Nat) (ph : Int),
    2 ≤ r →
    r ≠ 8 →
    s.lodeEn = false ∨ r ≠ s.loopRef ∨ s.loopState = 0 ∨ 4 ≤ s.loopState →
    ∃ t, exec (.loopPhaseCompare r (false, ph)) s = .next t ∧
      (Assoc.find t.lode.phase r = some (State.pinWrap (if r = 7 then 0 else s.pinPeriod r false) ((s.pinOfs r - ph) * 1000))) ∧
      (Assoc.find t.lode.seen r).isSome = true ∧
      t.regs = s.regs ∧
      t = { s with lode := t.lode }) ∧
  (∀ (s : State) (r : Nat) (ph : Int),
    2 ≤ r →
    r ≠ 8 →
    s.lodeEn = false ∨ r ≠ s.loopRef ∨ s.loopState = 0 ∨ 4 ≤ s.loopState →
    ∃ t, exec (.loopPhaseCompare r (true, ph)) s = .next t ∧
      (Assoc.find t.lode.phase r).isSome = true ∧
      (Assoc.find t.lode.seen r).isSome = true ∧
      t.regs = s.regs ∧
      t = { s with lode := t.lode }) ∧
  (∀ (s : State) (r : Nat) (line : Bool) (ph : Int),
    r = 1 ∨ r = 8 →
    s.lodeEn = false ∨ r ≠ s.loopRef ∨ s.loopState = 0 ∨ 4 ≤ s.loopState →
    ∃ t, exec (.loopPhaseCompare r (line, ph)) s = .next t ∧
      t = s) ∧
  (∀ (s : State) (r : Nat) (line : Bool) (ph : Int),
    s.lodeEn = true →
    r = s.loopRef →
    r ≠ 0 →
    s.loopState = 1 ∨ s.loopState = 2 ∨ s.loopState = 3 →
    ∃ t, exec (.loopPhaseCompare r (line, ph)) s = .next t ∧
      (toSigned 32 (t.get Reg.LODE.FREQ)).natAbs ≤ 500000000 ∧
      t.freeCtr = s.freeCtr + 1 ∧
      t.get Reg.LODE.STAT_REF = r ∧
      (t.loopState = s.loopState ∨ t.loopState = 1) ∧
      RegsKept [.lode, .flt] s t) ∧
  (∀ (s : State) (a : Nat),
    s.lode.inside = some a →
    a + s.stageDwell s.loopState ≤ s.now →
    s.loopState = 1 ∨ s.loopState = 2 →
    s.load.on = false →
    ∃ t, exec (.loopStageDwell) s = .next t ∧
      t.get Reg.LODE.STAT_STATE = s.loopState + 1 ∧
      t.lode.inside = none ∧
      Raised 164 t ∧
      (s.loopState = 2 → t.lode.lastClass = State.refClass s.loopRef) ∧
      RegsKept [.lode, .flt] s t) ∧
  (∀ (s : State),
    s.load.on = false →
    (s.lode.inside.all (fun a => s.now < a + s.stageDwell s.loopState) = true ∨ s.loopState = 0 ∨ 3 ≤ s.loopState) →
    ∃ t, exec (.loopStageDwell) s = .next t ∧
      t = s) ∧
  (∀ (s : State) (n : Nat),
    s.loopState = 4 →
    n = s.get Reg.LODE.HOLDSECS + 1 →
    s.lode.holdAt + 1000000000 * n ≤ s.now →
    n < 2 ^ 32 →
    ∃ t, exec (.holdoverUpdate) s = .next t ∧
      t.get Reg.LODE.HOLDSECS = n ∧
      t.get Reg.LODE.STAT_TTBAD = b2n (!State.ascending s.tempTable) ∧
      (toSigned 32 (t.get Reg.LODE.FREQ)).natAbs ≤ 500000000 ∧
      (if s.get Reg.LODE.HOLDCFG_HOLDTIME ≤ n ∧ s.lode.specRaised = false then t.get Reg.LODE.STAT_OUTSPEC = 1 ∧ Raised 169 t else t.get Reg.LODE.STAT_OUTSPEC = s.get Reg.LODE.STAT_OUTSPEC) ∧
      RegsKept [.lode, .flt] s t) ∧
  (∀ (s : State),
    s.loopState ≠ 4 ∨ s.now < s.lode.holdAt + 1000000000 * (s.get Reg.LODE.HOLDSECS + 1) →
    ∃ t, exec (.holdoverUpdate) s = .next t ∧
      t = s) ∧
  (∀ (s u : State) (m : Nat) (data : Word),
    Quiet m s →
    u = s.loopStepMoves →
    ∃ t, exec (.loopstepWrite m data) s = .next t ∧
      t.get Reg.LODE.LOOPOFS = ofSigned 32 (toSigned 32 (u.get Reg.LODE.LOOPOFS) + toSigned 32 data.toNat) ∧
      t.get Reg.LODE.LOOPREM = ofSigned 32 (toSigned 32 (u.get Reg.LODE.LOOPREM) + toSigned 32 data.toNat) ∧
      t.get Reg.LODE.STAT_PHSTEPPEND = b2n (t.get Reg.LODE.LOOPREM != 0) ∧
      t.lode.stepAt = s.now ∧
      t.lode.l = u.lode.l ∧
      RegsKept [.lode, .flt] s t) ∧
  (∀ (s : State) (d : Int),
    d = toSigned 32 (s.get Reg.LODE.LOOPREM) →
    s.get Reg.LODE.STAT_PHSTEPPEND = 1 →
    d.natAbs * 1000000 ≤ (s.now - s.lode.stepAt) * s.phSlew →
    ∃ t, exec (.phstepDone) s = .next t ∧
      t.get Reg.LODE.LOOPREM = 0 ∧
      t.get Reg.LODE.STAT_PHSTEPPEND = 0 ∧
      (t.lode.l : Int) = ((s.lode.l : Int) + d) % (2 ^ 64 * 1000) ∧
      Raised 170 t ∧
      RegsKept [.lode, .flt] s t) ∧
  (∀ (s : State) (d e : Int),
    d = toSigned 32 (s.get Reg.LODE.LOOPREM) →
    s.get Reg.LODE.STAT_PHSTEPPEND = 1 →
    e = ((s.now - s.lode.stepAt) * s.phSlew / 1000000 : Nat) →
    0 < e →
    e < d →
    ∃ t, exec (.phstepDone) s = .next t ∧
      t.get Reg.LODE.LOOPREM = ofSigned 32 (d - e) ∧
      t.get Reg.LODE.STAT_PHSTEPPEND = 1 ∧
      (t.lode.l : Int) = ((s.lode.l : Int) + e) % (2 ^ 64 * 1000) ∧
      RegsKept [.lode] s t) ∧
  (∀ (s : State) (d e : Int),
    d = toSigned 32 (s.get Reg.LODE.LOOPREM) →
    s.get Reg.LODE.STAT_PHSTEPPEND = 1 →
    e = ((s.now - s.lode.stepAt) * s.phSlew / 1000000 : Nat) →
    0 < e →
    e < -d →
    ∃ t, exec (.phstepDone) s = .next t ∧
      t.get Reg.LODE.LOOPREM = ofSigned 32 (d + e) ∧
      t.get Reg.LODE.STAT_PHSTEPPEND = 1 ∧
      (t.lode.l : Int) = ((s.lode.l : Int) - e) % (2 ^ 64 * 1000) ∧
      RegsKept [.lode] s t) ∧
  (∀ (s : State),
    s.get Reg.LODE.STAT_PHSTEPPEND = 0 ∨ (s.get Reg.LODE.LOOPREM ≠ 0 ∧ (s.now - s.lode.stepAt) * s.phSlew < 1000000) →
    ∃ t, exec (.phstepDone) s = .next t ∧
      t = s) ∧
  (∀ (s : State) (k : Nat), (s.lodeEn = false → s.clkout k = (0, 0, 0)) ∧
    (∀ p, s.lodeEn = true → s.use (Reg.LODE.CLKOUT_CFG_SRC k) = 10 → s.use (Reg.LODE.CLKOUT_CFG_PLANE k) = p →
      (s.clkout k).1 = 8 ∧ (s.clkout k).2.1 = p ∧ ((s.clkout k).2.2 : Int) = (toSigned 32 (s.use (Reg.LODE.CLKOUT_OFS k)) * 6750) % ((s.planePeriod3 p * 2250 : Nat) : Int))) ∧
  (∀ (s : State) (m p : Nat) (data : Word),
    Quiet m s →
    p < 16 →
    ∃ t, exec (.planeStep m p data) s = .next t ∧
      Assoc.findD t.lode.steps p (none, none) = ((Assoc.findD s.lode.steps p (none, none)).1, some ((Assoc.findD s.lode.steps p (none, none)).2.getD 0 + toSigned 32 data.toNat)) ∧
      t.lode.phase3 = s.lode.phase3 ∧
      RegsKept [.lode] s t) ∧
  (∀ (s : State) (m p : Nat) (data : Word),
    16 ≤ p →
    ∃ t, exec (.planeStep m p data) s = .next t ∧
      t = s) ∧
  (∀ (s : State) (m r : Nat) (data : Word),
    Quiet m s →
    s.lodeEn = true →
    r = (((s.set Reg.LODE.SEL_AUTO (bits data.toNat 31 31)).set Reg.LODE.SEL_REVERT (bits data.toNat 30 30)).set Reg.LODE.SEL_MANREF (bits data.toNat 3 0)).selectedRef →
    ∃ t, exec (.selWrite m false data) s = .next t ∧
      t.get Reg.LODE.SEL_AUTO = bits data.toNat 31 31 ∧
      t.get Reg.LODE.SEL_REVERT = bits data.toNat 30 30 ∧
      t.get Reg.LODE.SEL_MANREF = bits data.toNat 3 0 ∧
      t.get Reg.LODE.STAT_REF = r ∧
      RegsKept [.lode, .flt] s t) ∧
  (∀ (s : State) (m r : Nat) (data : Word),
    Quiet m s →
    s.lodeEn = true →
    r = (s.set Reg.LODE.PRIO data.toNat).selectedRef →
    ∃ t, exec (.selWrite m true data) s = .next t ∧
      t.get Reg.LODE.PRIO = data.toNat ∧
      t.get Reg.LODE.STAT_REF = r ∧
      RegsKept [.lode, .flt] s t) ∧
  (∀ (s : State) (m : Nat) (p : Bool) (data : Word),
    Quiet m s →
    s.lodeEn = false →
    ∃ t, exec (.selWrite m p data) s = .next t ∧
      (if p then t.get Reg.LODE.PRIO = data.toNat else (t.get Reg.LODE.SEL_AUTO = bits data.toNat 31 31 ∧ t.get Reg.LODE.SEL_REVERT = bits data.toNat 30 30 ∧ t.get Reg.LODE.SEL_MANREF = bits data.toNat 3 0)) ∧
      t.get Reg.LODE.STAT_REF = s.get Reg.LODE.STAT_REF ∧
      RegsKept [.lode] s t)

/-- External DRAM: training results, refresh, temperature, ages, tracking, scrub. DRAM_TRAIN_DONE with the results of every
populated channel, one failed: the channel shows FAILED with its step and raises TRAIN_FAIL, and the DRAM stays out of
service with capacity and plan 0; with every channel passed the DRAM enters service with its capacity and plan, and keeps
its content where the configuration is the one it was trained for, and only there. With no training going on, or a channel
yet to end, it is nothing. A channel that is not populated, or out of service, has no refresh, poll, age or tracking.
REFRESH_DUE with class C0 queued is postponed below the limit; at the limit the postponed refreshes are issued in a burst,
counted with its event; with a limit of 0 none is ever postponed; with none queued, none stays postponed. MR4_POLL shows the
temperature code, HOT above band 0, and the event of an excess. REQUEST_AGE_EXPIRE of class 0 counts late with its event; of
another class it counts a promotion. TRACK_INTERVAL moves the tracked offset, where that stays inside the limit; at the
limit it keeps the limit, and raises its event. SCRUB_LATE, a period after the pass began, raises its event on the common
page; earlier, or out of service, it is nothing. Rests on parts of R431, R433, R434, R438, R441, R442, R443, R444.
(17_dram.md) -/
def Obligations.DramTrainingAndRefresh : Prop :=
  (∀ (s : State) (results : List TrainResult) (r : TrainResult),
    s.dramTraining = true →
    s.load.on = false →
    (List.range s.dramCfgChans).all (fun c => results.any fun x => x.chan == c) = true →
    r ∈ results →
    (∀ q ∈ results, q.chan = r.chan → q = r) →
    r.chan < s.dramCfgChans →
    r.chan < 32 →
    1 ≤ r.step →
    r.step < 256 →
    ∃ t, exec (.dramTrainDone results) s = .next t ∧
      t.get Reg.DRCC.STAT_RUN = 0 ∧
      t.get Reg.DRCC.STAT_TRAINED = 0 ∧
      t.get Reg.DRCC.CAP_USABLE = 0 ∧
      t.get Reg.DRCC.PLAN = 0 ∧
      t.get (Reg.DRC.STAT_TSTATE r.chan) = 3 ∧
      t.get (Reg.DRC.TRAINRES_STEP r.chan) = r.step ∧
      bit (t.get (Reg.DRC.EVSTAT r.chan)) 2 = true ∧
      RegsKept [.drc, .drcc, .flt] s t) ∧
  (∀ (s : State) (results : List TrainResult),
    s.dramTraining = true →
    s.load.on = false →
    (List.range s.dramCfgChans).all (fun c => results.any fun x => x.chan == c) = true →
    (∀ r ∈ results, r.chan < s.dramCfgChans → r.step = 0) →
    ∃ t, exec (.dramTrainDone results) s = .next t ∧
      t.get Reg.DRCC.STAT_RUN = 1 ∧
      t.get Reg.DRCC.STAT_TRAINED = 1 ∧
      t.get Reg.DRCC.CAP_USABLE = s.dramUsableMib / 64 % 2048 ∧
      t.get Reg.DRCC.PLAN = s.dramPlan % 2 ^ (Reg.DRCC.PLAN).width ∧
      t.dram.trainedCfg = some (Assoc.findD s.inUse 0x2A020010 (resetWord 0x2A020010)) ∧
      (t.dram.mem = if s.dram.trainedCfg = t.dram.trainedCfg then s.dram.mem else []) ∧
      RegsKept [.drc, .drcc] s t) ∧
  (∀ (s : State) (results : List TrainResult),
    s.load.on = false →
    (s.dramTraining = false ∨ (List.range s.dramCfgChans).all (fun c => results.any fun x => x.chan == c) = false) →
    ∃ t, exec (.dramTrainDone results) s = .next t ∧
      t = s) ∧
  (∀ (s : State) (c cls : Nat) (q overs : Bool) (k band : Nat) (v : Int) (cmd : Instr), cmd ∈ ([.refreshDue c q, .mr4Poll c k band overs, .requestAgeExpire c cls, .trackInterval c v] : List Instr) →
    s.dramUp = false ∨ s.dramCfgChans ≤ c →
    ∃ t, exec cmd s = .next t ∧
      t = s) ∧
  (∀ (s : State) (c : Nat),
    s.dramUp = true →
    c < s.dramCfgChans →
    c < 32 →
    s.get (Reg.DRC.REFCNT_POSTPONED c) < min 8 (s.use Reg.DRCC.REFCFG) →
    ∃ t, exec (.refreshDue c true) s = .next t ∧
      t.get (Reg.DRC.REFCNT_POSTPONED c) = s.get (Reg.DRC.REFCNT_POSTPONED c) + 1 ∧
      WordsKept [(Reg.DRC.REFCNT_POSTPONED c).addr] s t ∧
      t = { s with regs := t.regs }) ∧
  (∀ (s : State) (c : Nat),
    s.dramUp = true →
    c < s.dramCfgChans →
    c < 32 →
    min 8 (s.use Reg.DRCC.REFCFG) ≤ s.get (Reg.DRC.REFCNT_POSTPONED c) →
    0 < s.use Reg.DRCC.REFCFG →
    ∃ t, exec (.refreshDue c true) s = .next t ∧
      t.get (Reg.DRC.REFCNT_POSTPONED c) = 0 ∧
      t.get (Reg.DRC.REFCNT_BURSTS c) = (s.get (Reg.DRC.REFCNT_BURSTS c) + 1) % 65536 ∧
      bit (t.get (Reg.DRC.EVSTAT c)) 6 = true ∧
      RegsKept [.drc, .flt] s t) ∧
  (∀ (s : State) (c : Nat),
    s.dramUp = true →
    c < s.dramCfgChans →
    c < 32 →
    s.use Reg.DRCC.REFCFG = 0 →
    ∃ t, exec (.refreshDue c true) s = .next t ∧
      t = s) ∧
  (∀ (s : State) (c : Nat),
    s.dramUp = true →
    c < s.dramCfgChans →
    c < 32 →
    ∃ t, exec (.refreshDue c false) s = .next t ∧
      t.get (Reg.DRC.REFCNT_POSTPONED c) = 0 ∧
      WordsKept [(Reg.DRC.REFCNT_POSTPONED c).addr] s t) ∧
  (∀ (s : State) (c code band : Nat) (overs : Bool),
    s.dramUp = true →
    c < s.dramCfgChans →
    c < 32 →
    ∃ t, exec (.mr4Poll c code band overs) s = .next t ∧
      t.get (Reg.DRC.TEMP c) = code % 2 ^ (Reg.DRC.TEMP c).width ∧
      t.get (Reg.DRC.STAT_HOT c) = b2n (decide (0 < band)) ∧
      Assoc.findD t.dram.band c 0 = band ∧
      (if overs then bit (t.get (Reg.DRC.EVSTAT c)) 9 = true else t.get (Reg.DRC.EVSTAT c) = s.get (Reg.DRC.EVSTAT c)) ∧
      RegsKept [.drc, .flt] s t) ∧
  (∀ (s : State) (c : Nat),
    s.dramUp = true →
    c < s.dramCfgChans →
    c < 32 →
    ∃ t, exec (.requestAgeExpire c 0) s = .next t ∧
      t.get (Reg.DRC.LATECNT_C0LATE c) = (s.get (Reg.DRC.LATECNT_C0LATE c) + 1) % 65536 ∧
      bit (t.get (Reg.DRC.EVSTAT c)) 7 = true ∧
      RegsKept [.drc, .flt] s t) ∧
  (∀ (s : State) (c cls : Nat),
    s.dramUp = true →
    c < s.dramCfgChans →
    c < 32 →
    1 ≤ cls →
    ∃ t, exec (.requestAgeExpire c cls) s = .next t ∧
      t.get (Reg.DRC.LATECNT_PROMOTED c) = (s.get (Reg.DRC.LATECNT_PROMOTED c) + 1) % 65536 ∧
      WordsKept [(Reg.DRC.LATECNT_PROMOTED c).addr] s t) ∧
  (∀ (s : State) (c : Nat) (move v : Int),
    s.dramUp = true →
    c < s.dramCfgChans →
    c < 32 →
    v = toSigned 16 (s.get (Reg.DRC.TRACKOFS c)) + move →
    v.natAbs < s.trackLimit →
    ∃ t, exec (.trackInterval c move) s = .next t ∧
      toSigned 16 (t.get (Reg.DRC.TRACKOFS c)) = v ∧
      WordsKept [(Reg.DRC.TRACKOFS c).addr] s t) ∧
  (∀ (s : State) (c : Nat) (move v : Int),
    s.dramUp = true →
    c < s.dramCfgChans →
    c < 32 →
    v = toSigned 16 (s.get (Reg.DRC.TRACKOFS c)) + move →
    s.trackLimit ≤ v.natAbs →
    ∃ t, exec (.trackInterval c move) s = .next t ∧
      (toSigned 16 (t.get (Reg.DRC.TRACKOFS c))).natAbs = s.trackLimit ∧
      bit (t.get (Reg.DRC.EVSTAT c)) 3 = true ∧
      RegsKept [.drc, .flt] s t) ∧
  (∀ (s : State),
    s.dramUp = true →
    s.dram.scrubAt + 1000000000 * max 1 (s.use Reg.DRCC.SCRUB) ≤ s.now →
    ∃ t, exec (.scrubLate) s = .next t ∧
      t.dram.scrubAt = s.now ∧
      bit (t.get Reg.DRCC.EVSTAT) 8 = true ∧
      t.dram.mem = s.dram.mem ∧
      RegsKept [.drcc, .flt] s t) ∧
  (∀ (s : State),
    s.dramUp = false ∨ s.now < s.dram.scrubAt + 1000000000 * max 1 (s.use Reg.DRCC.SCRUB) →
    ∃ t, exec (.scrubLate) s = .next t ∧
      t = s)

/-- Error checking: DRAM reads, check-bit inversion and the on-chip scrub. A DRAM_READ out of service, or beyond the usable
capacity, is not served and changes nothing here. Without inline ECC a read that is served counts its units of 64 bytes,
each on its channel in its class, and nothing else; one aligned unit counts once. Under inline ECC one wrong bit, flipped or
stored inverted, is corrected, written back and counted, for whichever client; two or more are uncorrectable, counted with
their address and event; a requester is answered with an error, a decimated frame fails, a frame of a frame synchroniser is
poisoned, and samples are silence. DRC_CHKINV_WRITE, unlocked, arms an inversion of one or two bits, or disarms; without
inline ECC it is discarded with its cause, and locked it changes nothing. DRC_CHKINV_APPLY stores it with the next write
that covers ADDR, disarms and shows DONE; with none armed nothing is inverted. SCRUB_READ of one of the 12 on-chip memories:
a clean word changes nothing; one wrong bit counts a correction with its event; more, in a control memory, are
uncorrectable, in the active flint bank fail the flint, in a mica table mark it, strike the oldest packet waiting of a flow,
or silence a voice; a converter table is marked likewise, or corrected, and the slot store poisons the frame it strikes with
its event, or corrects it with another. Rests on parts of R174, R175, R316, R320, R437, R440. (06_path_integrity.md,
11_compositor.md, 17_dram.md) -/
def Obligations.ErrorChecking : Prop :=
  (∀ (s : State) (addr len cls flips : Nat) (client : DramClient),
    s.dramUp = false ∨ s.dramExists (addr + len - 1) = false →
    ∃ t, exec (.dramRead addr len cls client flips) s = .next t ∧
      t = s) ∧
  (∀ (s : State) (addr len cls flips : Nat) (client : DramClient),
    s.dramEcc = false →
    s.dramUp = true →
    s.dramExists (addr + len - 1) = true →
    ∃ t, exec (.dramRead addr len cls client flips) s = .next t ∧
      t = s.countUnits addr len (cls % 4)) ∧
  (∀ (s : State) (a cls c flips : Nat) (client : DramClient),
    s.dramUp = true →
    s.dramExists (a * 64 + 63) = true →
    cls < 4 →
    c = s.dramChanOf (a * 64) →
    c < 32 →
    s.dramEcc = false ∨ (flips = 0 ∧ s.dram.inverted = []) →
    ∃ t, exec (.dramRead (a * 64) 64 cls client flips) s = .next t ∧
      t.get (Reg.DRC.CLSBYTES c cls) = (s.get (Reg.DRC.CLSBYTES c cls) + 1) % 2 ^ 32 ∧
      t.dram = s.dram ∧
      WordsKept [(Reg.DRC.CLSBYTES c cls).addr] s t) ∧
  (∀ (s : State) (a c flips cls : Nat) (client : DramClient),
    s.dramUp = true →
    s.dramEcc = true →
    s.dramExists (a * 64 + 63) = true →
    c = s.dramChanOf (a * 64) →
    c < 32 →
    Assoc.findD s.dram.inverted (a * 8) 0 + flips = 1 →
    (s.dram.inverted.all (fun p => p.1 ≤ a * 8 || a * 8 + 7 < p.1) = true) →
    ∃ t, exec (.dramRead (a * 64) 64 cls client flips) s = .next t ∧
      t.get (Reg.DRC.ECCCNT_CORR c) = (s.get (Reg.DRC.ECCCNT_CORR c) + 1) % 65536 ∧
      t.get (Reg.DRC.ECCCNT_UNCORR c) = s.get (Reg.DRC.ECCCNT_UNCORR c) ∧
      bit (t.get (Reg.DRC.EVSTAT c)) 4 = true ∧
      Assoc.find t.dram.inverted (a * 8) = none ∧
      t.dram.mem = s.dram.mem ∧
      RegsKept [.drc, .flt] s t) ∧
  (∀ (s : State) (a c flips cls : Nat) (cmd : Instr), cmd ∈ ([.dramRead (a * 64) 64 cls .scrub flips, .dramRead (a * 64) 64 cls .scan flips] : List Instr) →
    s.dramUp = true →
    s.dramEcc = true →
    s.dramExists (a * 64 + 63) = true →
    c = s.dramChanOf (a * 64) →
    c < 32 →
    2 ≤ Assoc.findD s.dram.inverted (a * 8) 0 + flips →
    (s.dram.inverted.all (fun p => p.1 ≤ a * 8 || a * 8 + 7 < p.1) = true) →
    ∃ t, exec cmd s = .next t ∧
      t.get (Reg.DRC.ECCCNT_UNCORR c) = (s.get (Reg.DRC.ECCCNT_UNCORR c) + 1) % 65536 ∧
      t.dram.mem = s.dram.mem ∧
      t.get (Reg.DRC.ECCADDRLO c) = a * 64 % 2 ^ 32 ∧
      t.get (Reg.DRC.ECCADDRHI c) = a * 64 / 2 ^ 32 % 16 ∧
      bit (t.get (Reg.DRC.EVSTAT c)) 5 = true ∧
      RegsKept [.drc, .flt] s t) ∧
  (∀ (s : State) (a c flips cls m : Nat),
    s.dramUp = true →
    s.dramEcc = true →
    s.dramExists (a * 64 + 63) = true →
    c = s.dramChanOf (a * 64) →
    c < 32 →
    2 ≤ Assoc.findD s.dram.inverted (a * 8) 0 + flips →
    (s.dram.inverted.all (fun p => p.1 ≤ a * 8 || a * 8 + 7 < p.1) = true) →
    m ≤ 6 →
    ∃ t, exec (.dramRead (a * 64) 64 cls (.requester m) flips) s = .next t ∧
      t.get (Reg.DRC.ECCCNT_UNCORR c) = (s.get (Reg.DRC.ECCCNT_UNCORR c) + 1) % 65536 ∧
      t.dram.mem = s.dram.mem ∧
      ((Assoc.find t.mgt.readBack m).map (fun x => x.code) = some 5) ∧
      Raised 39 t) ∧
  (∀ (s : State) (a c flips cls d : Nat) (x : DecFrame),
    s.dramUp = true →
    s.dramEcc = true →
    s.dramExists (a * 64 + 63) = true →
    c = s.dramChanOf (a * 64) →
    c < 32 →
    2 ≤ Assoc.findD s.dram.inverted (a * 8) 0 + flips →
    (s.dram.inverted.all (fun p => p.1 ≤ a * 8 || a * 8 + 7 < p.1) = true) →
    (s.decHw d).newest = some x →
    ∃ t, exec (.dramRead (a * 64) 64 cls (.decimator d) flips) s = .next t ∧
      t.get (Reg.DRC.ECCCNT_UNCORR c) = (s.get (Reg.DRC.ECCCNT_UNCORR c) + 1) % 65536 ∧
      t.dram.mem = s.dram.mem ∧
      (t.decHw d).newest = some { x with cause := 5 }) ∧
  (∀ (s : State) (a c flips cls u k e : Nat) (f : Frame),
    s.dramUp = true →
    s.dramEcc = true →
    s.dramExists (a * 64 + 63) = true →
    c = s.dramChanOf (a * 64) →
    c < 32 →
    2 ≤ Assoc.findD s.dram.inverted (a * 8) 0 + flips →
    (s.dram.inverted.all (fun p => p.1 ≤ a * 8 || a * 8 + 7 < p.1) = true) →
    e = s.get (Reg.FAB.FS_SCFG_RETENT u k) →
    (s.ing e).cur = some f →
    f.poisoned = false →
    (Assoc.find s.fab.ing e).isSome = true →
    ∃ t, exec (.dramRead (a * 64) 64 cls (.frameSync u k) flips) s = .next t ∧
      t.get (Reg.DRC.ECCCNT_UNCORR c) = (s.get (Reg.DRC.ECCCNT_UNCORR c) + 1) % 65536 ∧
      t.dram.mem = s.dram.mem ∧
      (∃ g, (t.ing e).cur = some g ∧ g.poisoned = true) ∧
      t.get Reg.FAB.POISONCNT = (s.get Reg.FAB.POISONCNT + 1) % 2 ^ (Reg.FAB.POISONCNT).width) ∧
  (∀ (s : State) (a c flips cls n : Nat),
    s.dramUp = true →
    s.dramEcc = true →
    s.dramExists (a * 64 + 63) = true →
    c = s.dramChanOf (a * 64) →
    c < 32 →
    2 ≤ Assoc.findD s.dram.inverted (a * 8) 0 + flips →
    (s.dram.inverted.all (fun p => p.1 ≤ a * 8 || a * 8 + 7 < p.1) = true) →
    ∃ t, exec (.dramRead (a * 64) 64 cls (.audio n) flips) s = .next t ∧
      t.get (Reg.DRC.ECCCNT_UNCORR c) = (s.get (Reg.DRC.ECCCNT_UNCORR c) + 1) % 65536 ∧
      t.dram.mem = s.dram.mem ∧
      (Assoc.find t.ipm.rx n).map (fun y => y.audio) = (Assoc.find s.ipm.rx n).map (fun y => (y.audio.take 64).map (fun p => (p.1, p.2.map fun _ => State.silence)) ++ y.audio.drop 64) ∧
      RegsKept [.drc, .flt] s t) ∧
  (∀ (s : State) (m : Nat) (data : Word),
    Quiet m s →
    s.armed m = true →
    s.dramEcc = true →
    ∃ t, exec (.drcChkinvWrite m data) s = .next t ∧
      t.get Reg.DRCC.CHKINV_ARM = b2n (bit data.toNat 31 && (bits data.toNat 9 8 == 1 || bits data.toNat 9 8 == 2)) ∧
      t.get Reg.DRCC.CHKINV_BITS = bits data.toNat 9 8 ∧
      t.dram = s.dram ∧
      RegsKept [.drcc] s t) ∧
  (∀ (s : State) (m : Nat) (data : Word),
    Quiet m s →
    s.armed m = true →
    s.dramEcc = false →
    bit data.toNat 31 = true →
    ∃ t, exec (.drcChkinvWrite m data) s = .next t ∧
      t.get Reg.DRCC.CHKINV_ARM = s.get Reg.DRCC.CHKINV_ARM ∧
      bit (t.get Reg.DRCC.EVSTAT) 0 = true ∧
      t.dram = s.dram) ∧
  (∀ (s : State) (m : Nat) (data : Word),
    Quiet m s →
    s.armed m = false →
    ∃ t, exec (.drcChkinvWrite m data) s = .next t ∧
      t.get Reg.DRCC.CHKINV_ARM = s.get Reg.DRCC.CHKINV_ARM ∧
      t.get Reg.DRCC.CHKINV_BITS = s.get Reg.DRCC.CHKINV_BITS ∧
      t.dram = s.dram) ∧
  (∀ (s : State),
    s.get Reg.DRCC.CHKINV_ARM = 1 →
    s.dramEcc = true →
    ∃ t, exec (.drcChkinvApply) s = .next t ∧
      t.get Reg.DRCC.CHKINV_ARM = 0 ∧
      t.get Reg.DRCC.CHKINV_DONE = 1 ∧
      Assoc.find t.dram.inverted (s.chkAddr / 8) = some (s.get Reg.DRCC.CHKINV_BITS) ∧
      t.dram.mem = s.dram.mem ∧
      RegsKept [.drcc] s t) ∧
  (∀ (s : State),
    s.get Reg.DRCC.CHKINV_ARM = 0 ∨ s.dramEcc = false →
    ∃ t, exec (.drcChkinvApply) s = .next t ∧
      t = s) ∧
  (∀ (s : State) (mem addr flips u p : Nat),
    12 ≤ mem →
    ∃ t, exec (.scrubRead mem addr flips u p) s = .next t ∧
      t = s) ∧
  (∀ (s : State) (mem addr flips u p : Nat),
    mem < 12 →
    mem ≠ 0 →
    mem ≠ 8 →
    (s.wordBad mem addr flips).1 = 0 →
    ∃ t, exec (.scrubRead mem addr flips u p) s = .next t ∧
      t = (s.wordBad mem addr flips).2 ∧
      t.regs = s.regs) ∧
  (∀ (s : State) (mem addr flips u p : Nat),
    mem < 12 →
    mem ≠ 0 →
    mem ≠ 8 →
    (s.wordBad mem addr flips).1 = 1 →
    ∃ t, exec (.scrubRead mem addr flips u p) s = .next t ∧
      t.get (Reg.PROV.ECC_CORR mem) = (s.get (Reg.PROV.ECC_CORR mem) + 1) % 65536 ∧
      t.get (Reg.PROV.ECC_UNCORR mem) = s.get (Reg.PROV.ECC_UNCORR mem) ∧
      Raised 18 t ∧
      RegsKept [.prov, .flt] s t) ∧
  (∀ (s : State) (mem addr flips u p : Nat),
    mem < 12 →
    mem ∉ [0, 1, 7, 8, 9] →
    2 ≤ (s.wordBad mem addr flips).1 →
    ∃ t, exec (.scrubRead mem addr flips u p) s = .next t ∧
      t.get (Reg.PROV.ECC_UNCORR mem) = (s.get (Reg.PROV.ECC_UNCORR mem) + 1) % 65536 ∧
      t.get (Reg.PROV.ECC_CORR mem) = s.get (Reg.PROV.ECC_CORR mem) ∧
      Raised 19 t ∧
      RegsKept [.prov, .flt] s t) ∧
  (∀ (s : State) (addr flips g : Nat),
    g < 8 →
    2 ≤ (s.wordBad 9 addr flips).1 →
    ∃ t, exec (.scrubRead 9 addr flips g 1) s = .next t ∧
      t.get (Reg.PROV.ECC_UNCORR 9) = (s.get (Reg.PROV.ECC_UNCORR 9) + 1) % 65536 ∧
      t.get (Reg.MICA.FLINT_STATE g) = 2 ∧
      (t.micaHw g).flintBad = true ∧
      Raised (1315 + 4 * g) t) ∧
  (∀ (s : State) (addr flips g p : Nat),
    g < 8 →
    p ≠ 1 →
    2 ≤ (s.wordBad 9 addr flips).1 →
    ∃ t, exec (.scrubRead 9 addr flips g p) s = .next t ∧
      t.get (Reg.PROV.ECC_UNCORR 9) = (s.get (Reg.PROV.ECC_UNCORR 9) + 1) % 65536 ∧
      (t.micaHw g).lutBad.contains (addr % 1048576) = true ∧
      bit (t.get (Reg.MICA.EVSTAT g)) 6 = true) ∧
  (∀ (s : State) (addr flips n p : Nat),
    2 ≤ (s.wordBad 1 addr flips).1 →
    ∃ t, exec (.scrubRead 1 addr flips n p) s = .next t ∧
      t.get (Reg.PROV.ECC_UNCORR 1) = (s.get (Reg.PROV.ECC_UNCORR 1) + 1) % 65536 ∧
      ((Assoc.find t.ipm.rx n).all (fun y => y.pkts.head?.all (fun x => x.struck)) = true) ∧
      RegsKept [.prov] s t) ∧
  (∀ (s : State) (addr flips n p : Nat),
    2 ≤ (s.wordBad 7 addr flips).1 →
    ∃ t, exec (.scrubRead 7 addr flips n p) s = .next t ∧
      t.get (Reg.PROV.ECC_UNCORR 7) = (s.get (Reg.PROV.ECC_UNCORR 7) + 1) % 65536 ∧
      (t.aud.ins.map (fun q => q.1) = s.aud.ins.map (fun q => q.1)) ∧
      RegsKept [.prov] s t) ∧
  (∀ (s : State) (addr flips n p : Nat),
    n < 32 →
    2 ≤ (s.wordBad 8 addr flips).1 →
    s.prov.bad.contains (8, addr) = false →
    ∃ t, exec (.scrubRead 8 addr flips n p) s = .next t ∧
      t.get (Reg.PROV.ECC_UNCORR 8) = (s.get (Reg.PROV.ECC_UNCORR 8) + 1) % 65536 ∧
      t.prov.bad.contains (8, addr) = true ∧
      bit (t.get (Reg.CNV.EVSTAT n)) 5 = true) ∧
  (∀ (s : State) (addr flips n p : Nat),
    (s.wordBad 8 addr flips).1 = 1 →
    ∃ t, exec (.scrubRead 8 addr flips n p) s = .next t ∧
      t.get (Reg.PROV.ECC_CORR 8) = (s.get (Reg.PROV.ECC_CORR 8) + 1) % 65536 ∧
      Raised 18 t ∧
      RegsKept [.prov, .flt] s t) ∧
  (∀ (s : State) (addr flips n p : Nat),
    n < 8192 →
    s.prov.inverted = [] →
    2 ≤ flips →
    ∃ t, exec (.scrubRead 0 addr flips n p) s = .next t ∧
      t.get Reg.FAB.ECCCNT_UNCORR = (s.get Reg.FAB.ECCCNT_UNCORR + 1) % 65536 ∧
      t.get (Reg.PROV.ECC_UNCORR 0) = (s.get (Reg.PROV.ECC_UNCORR 0) + 1) % 65536 ∧
      ((t.ing n).cur.all (fun f => f.poisoned) = true) ∧
      Raised 971 t) ∧
  (∀ (s : State) (addr n p : Nat),
    n < 8192 →
    s.prov.inverted = [] →
    ∃ t, exec (.scrubRead 0 addr 1 n p) s = .next t ∧
      t.get Reg.FAB.ECCCNT_CORR = (s.get Reg.FAB.ECCCNT_CORR + 1) % 65536 ∧
      t.get (Reg.PROV.ECC_CORR 0) = (s.get (Reg.PROV.ECC_CORR 0) + 1) % 65536 ∧
      Raised 970 t ∧
      t.fab = s.fab)

/-- Twin link and states: link up and down, records, dead time, recovery and exchange. TWIN_LINK_UP of the first pair of the
link of a unit shows it and sends a link-up record with a fresh nonce and an ephemeral key; the link is not keyed yet.
Without an operational key it sends none; a further pair, a pair that is not used, or one of a unit that is OFF is only
shown. A pair of which a lane is not UP is not UP. LINK_UP_RECORD_RX is nothing to a unit that is OFF or has no link; with a
bad signature, or without operational keys, it raises STATE and keys nothing; with other measurements it raises STATE, and
keeps identity and claim only; with the same measurements it keys the link and keeps the identity and claim of the partner.
Of two units that join with no claim carried, the one of the higher CLAIM, on a tie of the higher identity, goes ACTIVE.
TWIN_LINK_DOWN of the last pair takes the key and the records that wait: an ACTIVE unit goes SOLO, and a STANDBY takes over,
joins or stays by the claim of its last heartbeat; of any other pair it only shows. TWIN_DEADTIME without a link: a unit
that joins, or stands by, goes SOLO and carries its claim with ACT; any other stays, with no partner shown. Before then,
with a heartbeat, or with a link it is nothing. RECOVER takes a LOWERED unit to JOIN; in any other state it is nothing. XCHG
on the ACTIVE unit asks for the exchange, and mirrors it to the partner; without a link there is nothing to mirror, and on
another unit it is ignored. SERVICE_CELL_RX on a lane that is not up in a cell mode is nothing; on a lane in F mode it shows
the peer with its receive state and what it says of the lane, and a peer that PROV.LINK does not name with its cause; on a
lane in T mode the claim it carries is the claim of the partner. A partner that carries none hands over: a STANDBY takes
over. An L record of a partner that acts gives the phase of reference TWIN. Rests on parts of R341, R449, R450, R451, R452,
R453, R454, R458. (13_lanes.md, 18_twin.md) -/
def Obligations.TwinLinkAndStates : Prop :=
  (∀ (s : State) (b : Bool),
    s.twinOn = true →
    (s.pairUp && !s.twin.cut) = false →
    b = false ∨ s.use Reg.TWIN.CFG_SECONDARY = 1 →
    s.key.ops.isSome = true →
    (s.twinLaneUp (if b then 508 else 510) && s.twinLaneUp (if b then 509 else 511)) = true →
    ∃ t, exec (.twinLinkUp b) s = .next t ∧
      (t.flag (if b then Reg.TWIN.STAT_LINKS else Reg.TWIN.STAT_LINKP) = true) ∧
      t.twin.auth = false ∧
      t.twin.key = none ∧
      t.get Reg.TWIN.STAT_STATE = s.get Reg.TWIN.STAT_STATE ∧
      (t.out = (if s.twinSends then [.twin (.linkUp t.twin.nonce (Config.crypto [449, (s.twinEph t.twin.nonce).getD 0])) none] else []) ++ s.out) ∧
      WordsKept [Reg.TWIN.STAT_STATE.addr] s t) ∧
  (∀ (s : State) (b : Bool),
    s.twinOn = true →
    (s.pairUp && !s.twin.cut) = false →
    b = false ∨ s.use Reg.TWIN.CFG_SECONDARY = 1 →
    s.key.ops = none →
    (s.twinLaneUp (if b then 508 else 510) && s.twinLaneUp (if b then 509 else 511)) = true →
    ∃ t, exec (.twinLinkUp b) s = .next t ∧
      (t.flag (if b then Reg.TWIN.STAT_LINKS else Reg.TWIN.STAT_LINKP) = true) ∧
      t.twin.auth = false ∧
      t.out = s.out ∧
      t.get Reg.TWIN.STAT_STATE = s.get Reg.TWIN.STAT_STATE) ∧
  (∀ (s : State) (b : Bool),
    s.twinOn = false ∨ (s.pairUp && !s.twin.cut) = true ∨ (b = true ∧ s.use Reg.TWIN.CFG_SECONDARY = 0 ∧ s.get Reg.TWIN.STAT_LINKP = 0) →
    (s.twinLaneUp (if b then 508 else 510) && s.twinLaneUp (if b then 509 else 511)) = true →
    ∃ t, exec (.twinLinkUp b) s = .next t ∧
      (t.flag (if b then Reg.TWIN.STAT_LINKS else Reg.TWIN.STAT_LINKP) = true) ∧
      t.twin = s.twin ∧
      t.out = s.out ∧
      WordsKept [Reg.TWIN.STAT_STATE.addr] s t) ∧
  (∀ (s : State) (b : Bool),
    (s.twinLaneUp (if b then 508 else 510) && s.twinLaneUp (if b then 509 else 511)) = false →
    ∃ t, exec (.twinLinkUp b) s = .next t ∧
      t = s) ∧
  (∀ (s : State) (ok : Bool) (d f p c n u : Nat),
    s.twinOn = false ∨ s.linkDown = true →
    ∃ t, exec (.linkUpRecordRx ok ⟨d, n, u⟩ f p c) s = .next t ∧
      t = s) ∧
  (∀ (s : State) (ok : Bool) (d f p c n u : Nat),
    s.twinOn = true →
    s.linkDown = false →
    ok = false ∨ s.key.ops = none →
    ∃ t, exec (.linkUpRecordRx ok ⟨d, n, u⟩ f p c) s = .next t ∧
      t.twin = s.twin ∧
      t.get Reg.TWIN.STAT_STATE = s.get Reg.TWIN.STAT_STATE ∧
      bit (t.get Reg.TWIN.EVSTAT) 0 = true ∧
      RegsKept [.twin, .flt] s t) ∧
  (∀ (s : State) (d f p c n u : Nat),
    s.twinOn = true →
    s.linkDown = false →
    s.key.ops.isSome = true →
    f ≠ s.measWords Reg.CFG.MEASFW ∨ p ≠ s.measWords Reg.CFG.MEASPAIR →
    ∃ t, exec (.linkUpRecordRx true ⟨d, n, u⟩ f p c) s = .next t ∧
      t.twin = { s.twin with claim := max 1 (c % 256) } ∧
      t.get64 Reg.TWIN.PDEVIDLO Reg.TWIN.PDEVIDHI = d % 2 ^ 64 ∧
      t.get Reg.TWIN.STAT_STATE = s.get Reg.TWIN.STAT_STATE ∧
      bit (t.get Reg.TWIN.EVSTAT) 0 = true ∧
      RegsKept [.twin, .flt] s t) ∧
  (∀ (s : State) (d f p c n u : Nat),
    s.twinOn = true →
    s.linkDown = false →
    f = s.measWords Reg.CFG.MEASFW →
    p = s.measWords Reg.CFG.MEASPAIR →
    s.key.ops.isSome = true →
    s.get Reg.TWIN.STAT_STATE ≠ 1 ∨ s.get Reg.TWIN.CARRIED_PARTNER ≠ 0 →
    ∃ t, exec (.linkUpRecordRx true ⟨d, n, u⟩ f p c) s = .next t ∧
      t.twin.auth = true ∧
      t.twin.key = s.linkKey d n u ∧
      t.twin.macFails = 0 ∧
      t.twin.claim = max 1 (c % 256) ∧
      t.get64 Reg.TWIN.PDEVIDLO Reg.TWIN.PDEVIDHI = d % 2 ^ 64 ∧
      t.get Reg.TWIN.STAT_STATE = s.get Reg.TWIN.STAT_STATE ∧
      (s.get Reg.TWIN.STAT_STATE = 1 → s.ownClaim = max 1 (c % 256) → bit (t.get Reg.TWIN.EVSTAT) 3 = true) ∧
      RegsKept [.twin, .flt] s t) ∧
  (∀ (s : State) (d f p c n u : Nat) (w : Nat),
    s.get Reg.TWIN.CTRL_EN = 1 →
    s.linkDown = false →
    f = s.measWords Reg.CFG.MEASFW →
    p = s.measWords Reg.CFG.MEASPAIR →
    s.key.ops.isSome = true →
    s.get Reg.TWIN.STAT_STATE = 1 →
    s.get Reg.TWIN.CARRIED_PARTNER = 0 →
    w = max 1 (c % 256) →
    ∃ t, exec (.linkUpRecordRx true ⟨d, n, u⟩ f p c) s = .next t ∧
      t.twin.auth = true ∧
      t.twin.key = s.linkKey d n u ∧
      (t.get Reg.TWIN.STAT_STATE = if w < s.ownClaim ∨ (w = s.ownClaim ∧ d % 2 ^ 64 < s.devid ∨ w = s.ownClaim ∧ d < s.devid) then 3 else 1) ∧
      RegsKept [.twin, .flt] s t) ∧
  (∀ (s : State) (b : Bool),
    s.twinOn = true →
    s.linkDown = false →
    b = true ∨ s.use Reg.TWIN.CFG_SECONDARY = 0 ∨ s.get Reg.TWIN.STAT_LINKS = 0 →
    b = false ∨ s.get Reg.TWIN.STAT_LINKP = 0 →
    s.get Reg.TWIN.STAT_STATE ≤ 5 →
    ∃ t, exec (.twinLinkDown b) s = .next t ∧
      (t.flag (if b then Reg.TWIN.STAT_LINKS else Reg.TWIN.STAT_LINKP) = false) ∧
      t.twin.auth = false ∧
      t.twin.key = none ∧
      t.twin.mirror = [] ∧
      (t.get Reg.TWIN.STAT_STATE = (match s.get Reg.TWIN.STAT_STATE, s.heartbeat with | 3, _ => 4 | 2, some h => (if h.claim = 0 then 4 else if 256 ≤ h.claim then 1 else 2) | st, _ => st)) ∧
      bit (t.get Reg.TWIN.EVSTAT) 4 = true ∧
      (t.refQualified 8 = s.refQualified 8 ∨ t.refQualified 8 = false) ∧
      RegsKept [.twin, .lode, .flt] s t) ∧
  (∀ (s : State) (b : Bool),
    s.twinOn = false ∨ s.linkDown = true ∨ (b = false ∧ s.use Reg.TWIN.CFG_SECONDARY = 1 ∧ s.get Reg.TWIN.STAT_LINKS = 1) ∨ (b = true ∧ (s.get Reg.TWIN.STAT_LINKP = 1 ∨ s.use Reg.TWIN.CFG_SECONDARY = 0)) →
    ∃ t, exec (.twinLinkDown b) s = .next t ∧
      (t.flag (if b then Reg.TWIN.STAT_LINKS else Reg.TWIN.STAT_LINKP) = false) ∧
      t.twin = s.twin ∧
      WordsKept [Reg.TWIN.STAT_STATE.addr] s t) ∧
  (∀ (s : State),
    s.get Reg.TWIN.CTRL_EN = 1 →
    s.get Reg.TWIN.STAT_STATE = 1 ∨ s.get Reg.TWIN.STAT_STATE = 2 →
    s.linkDown = true →
    s.twin.downAt + s.deadNs ≤ s.now →
    s.heartbeat = none →
    ∃ t, exec (.twinDeadtime) s = .next t ∧
      t.get Reg.TWIN.STAT_PARTNER = 0 ∧
      t.get Reg.TWIN.STAT_STATE = 4 ∧
      t.get Reg.TWIN.CARRIED_OWN = 256 + s.ownClaim ∧
      bit (t.get Reg.TWIN.EVSTAT) 0 = true ∧
      RegsKept [.twin, .flt] s t) ∧
  (∀ (s : State),
    s.get Reg.TWIN.CTRL_EN = 1 →
    3 ≤ s.get Reg.TWIN.STAT_STATE →
    s.linkDown = true →
    s.twin.downAt + s.deadNs ≤ s.now →
    s.heartbeat = none →
    ∃ t, exec (.twinDeadtime) s = .next t ∧
      t.get Reg.TWIN.STAT_PARTNER = 0 ∧
      t.twin = s.twin ∧
      t.get Reg.TWIN.STAT_STATE = s.get Reg.TWIN.STAT_STATE ∧
      WordsKept [Reg.TWIN.STAT_STATE.addr] s t) ∧
  (∀ (s : State),
    s.twinOn = false ∨ s.now < s.twin.downAt + s.deadNs ∨ s.heartbeat.isSome = true ∨ s.linkDown = false →
    ∃ t, exec (.twinDeadtime) s = .next t ∧
      t = s) ∧
  (∀ (s : State) (m : Nat),
    Quiet m s →
    s.get Reg.TWIN.STAT_STATE = 5 →
    ∃ t, exec (.recover m) s = .next t ∧
      t.get Reg.TWIN.STAT_STATE = 1 ∧
      t.twin.gotFull = false ∧
      t.twin.stage = 0 ∧
      t.get Reg.TWIN.CARRIED_OWN = 0 ∧
      bit (t.get Reg.TWIN.EVSTAT) 0 = true ∧
      RegsKept [.twin, .flt] s t) ∧
  (∀ (s : State) (m : Nat),
    Quiet m s →
    s.get Reg.TWIN.STAT_STATE ≠ 5 →
    ∃ t, exec (.recover m) s = .next t ∧
      t.twin = s.twin ∧
      t.get Reg.TWIN.STAT_STATE = s.get Reg.TWIN.STAT_STATE ∧
      WordsKept [Reg.TWIN.STAT_STATE.addr] s t) ∧
  (∀ (s : State) (m : Nat),
    Quiet m s →
    s.get Reg.TWIN.CTRL_EN = 1 →
    s.get Reg.TWIN.STAT_STATE = 3 →
    s.twin.owed = [] →
    s.linkUp = true →
    ∃ t, exec (.xchg m) s = .next t ∧
      t.twin.xchg = true ∧
      t.twin.seq = s.twin.seq + 1 ∧
      t.twin.mirror.length = s.twin.mirror.length + 1 ∧
      t.get Reg.TWIN.STAT_STATE = 3 ∧
      RegsKept [.twin, .flt] s t) ∧
  (∀ (s : State) (m : Nat),
    Quiet m s →
    s.get Reg.TWIN.STAT_STATE = 3 →
    s.mirrors = false →
    s.twin.owed = [] →
    ∃ t, exec (.xchg m) s = .next t ∧
      t.twin = { s.twin with xchg := true } ∧
      t.get Reg.TWIN.STAT_STATE = 3 ∧
      WordsKept [Reg.TWIN.STAT_STATE.addr] s t) ∧
  (∀ (s : State) (m : Nat),
    Quiet m s →
    s.get Reg.TWIN.STAT_STATE ≠ 3 →
    ∃ t, exec (.xchg m) s = .next t ∧
      t.twin = s.twin ∧
      WordsKept [Reg.TWIN.STAT_STATE.addr] s t) ∧
  (∀ (s : State) (n : Nat) (cell : ServiceCell),
    (s.laneRuns n && s.cellMode n && s.rxUp n) = false →
    ∃ t, exec (.serviceCellRx n cell) s = .next t ∧
      t = s) ∧
  (∀ (s : State) (n : Nat) (cell : ServiceCell) (q : Bool),
    n < 512 →
    s.laneRuns n = true →
    s.cellMode n = true →
    s.rxUp n = true →
    cell.sys < 256 →
    cell.lane < 512 →
    cell.rxst < 8 →
    s.laneRxMode n = 3 →
    q = decide (cell.sys ≠ s.use (Reg.PROV.LINK_PEERSYS n) ∨ cell.lane ≠ s.use (Reg.PROV.LINK_PEERLANE n)) →
    ∃ t, exec (.serviceCellRx n cell) s = .next t ∧
      t.get (Reg.LANE.PEER_SYSNUM n) = cell.sys ∧
      t.get (Reg.LANE.PEER_LANE n) = cell.lane ∧
      t.get (Reg.LANE.PEER_RXST n) = cell.rxst ∧
      t.get (Reg.LANE.PEER_VALID n) = 1 ∧
      t.get (Reg.LANE.STAT_REMDOWN n) = b2n cell.down ∧
      (t.laneHw n).claim = cell.claim ∧
      (t.laneHw n).stream = cell.data ∧
      t.get (Reg.LANE.STAT_PEERMIS n) = b2n q ∧
      (q = true → bit (t.get (Reg.LANE.EVSTAT n)) 8 = true) ∧
      (cell.down = true → bit (t.get (Reg.LANE.EVSTAT n)) 9 = true) ∧
      t.twin = s.twin) ∧
  (∀ (s : State) (n : Nat) (cell : ServiceCell),
    n < 512 →
    s.laneRuns n = true →
    s.cellMode n = true →
    s.rxUp n = true →
    cell.sys < 256 →
    cell.lane < 512 →
    cell.rxst < 8 →
    s.laneRxMode n = 4 →
    s.get Reg.TWIN.CTRL_EN = 0 →
    cell.claim < 512 →
    cell.l = none →
    ∃ t, exec (.serviceCellRx n cell) s = .next t ∧
      t.get (Reg.LANE.PEER_SYSNUM n) = cell.sys ∧
      t.get (Reg.LANE.PEER_LANE n) = cell.lane ∧
      t.get (Reg.LANE.PEER_RXST n) = cell.rxst ∧
      t.get (Reg.LANE.PEER_VALID n) = 1 ∧
      t.get (Reg.LANE.STAT_REMDOWN n) = b2n cell.down ∧
      (t.laneHw n).claim = cell.claim ∧
      (t.laneHw n).stream = cell.data ∧
      t.get Reg.TWIN.CARRIED_PARTNER = cell.claim ∧
      t.get Reg.TWIN.STAT_PARTNER = 1 ∧
      t.twin = s.twin) ∧
  (∀ (s : State) (n : Nat) (cell : ServiceCell),
    n < 512 →
    s.laneRuns n = true →
    s.cellMode n = true →
    s.rxUp n = true →
    cell.sys < 256 →
    cell.lane < 512 →
    cell.rxst < 8 →
    s.laneRxMode n = 4 →
    s.get Reg.TWIN.CTRL_EN = 1 →
    s.get Reg.TWIN.STAT_STATE = 2 →
    cell.claim = 0 →
    cell.l = none →
    ∃ t, exec (.serviceCellRx n cell) s = .next t ∧
      t.get Reg.TWIN.STAT_STATE = 4 ∧
      t.twin.xchg = false ∧
      t.twin.stage = 0 ∧
      bit (t.get Reg.TWIN.EVSTAT) 1 = true) ∧
  (∀ (s : State) (n : Nat) (cell : ServiceCell) (l : Nat),
    n < 512 →
    s.twinLaneUp n = true →
    s.cellMode n = true →
    s.linkUp = true →
    s.get Reg.TWIN.STAT_STATE = 2 →
    256 ≤ cell.claim →
    s.linkDown = false →
    cell.claim < 512 →
    cell.l = some (l, true) →
    ∃ t, exec (.serviceCellRx n cell) s = .next t ∧
      t.lode.lRecAt = some s.now ∧
      Assoc.find t.lode.phase 8 = some ((l : Int) - s.lode.l) ∧
      t.twin.macFails = 0 ∧
      t.get Reg.TWIN.STAT_STATE = 2)

/-- Twin records: cycle boundary, copies, mirror and latch records, signatures; a bad MAC. TWIN_CYCLE_BOUNDARY is nothing to a
unit that is OFF, or while L stands in the cycle that began last; a unit without a keyed link, but for a STANDBY, counts the
cycle and closes the signatures of the one that ends; over the link it sends them, and one that joins or stands by sends no
more. An ACTIVE or SOLO unit sends the copy of the cycle, a full one to a partner that joins, with the event of one not
acknowledged; in an exchange the ACTIVE, with everything acknowledged, becomes the STANDBY, and the STANDBY the ACTIVE.
COPY_RESEND without a copy that has waited for 1 ms is nothing; one that has is sent again as it was, and counted. Without a
keyed link none of CYCLE_COPY_RX, COPY_ACK_RX, MIRROR_RECORD_RX, MIRROR_ACK_RX, LATCH_RECORD_RX and SIGNATURE_RX does
anything; a record with a bad MAC is counted and not applied, and the sixteenth in a row takes the link down. CYCLE_COPY_RX
of a full copy: the unit takes the cycle number and acknowledges; of a later one a unit that joins becomes the STANDBY. A
record of it that differs from the own one is taken, counted with its event, here a pending take, an active flint bank, or a
word of a route record; one that a later mirror record has changed, or that agrees, is not. A copy that came before is only
acknowledged again; a unit that acts takes none, and none is taken before a full one. COPY_ACK_RX ends the wait; that of the
first copy after the full one completes the join: SOLO goes ACTIVE; that of another cycle is nothing. MIRROR_RECORD_RX of a
record applied before is only acknowledged again; the next in sequence is carried out as the active accepted it (the
exchange, say), and acknowledged; one out of sequence, or at a unit that takes none, is dropped. MIRROR_ACK_RX removes its
record and shows its number; of no record that waits it is nothing. MIRROR_RESEND sends one that has waited for 50 µs again;
no other. Rests on parts of R447, R449, R453, R458, R459, R460, R461, R462, R463, R464. (18_twin.md) -/
def Obligations.TwinRecords : Prop :=
  (∀ (s : State),
    s.twinOn = false ∨ s.twin.cycleIdx = some s.cycleIndex →
    ∃ t, exec (.twinCycleBoundary) s = .next t ∧
      t = s) ∧
  (∀ (s : State),
    s.twinOn = true →
    s.twin.cycleIdx ≠ some s.cycleIndex →
    s.get Reg.TWIN.STAT_STATE = 1 ∨ 5 ≤ s.get Reg.TWIN.STAT_STATE ∨ s.linkUp = false →
    s.get Reg.TWIN.STAT_STATE ≠ 2 →
    s.linkUp = false →
    ∃ t, exec (.twinCycleBoundary) s = .next t ∧
      t.get Reg.TWIN.CYCNUM = (s.get Reg.TWIN.CYCNUM + 1) % 2 ^ 32 ∧
      t.twin.sigs = [] ∧
      t.twin.sigCycle = s.get Reg.TWIN.CYCNUM ∧
      t.twin.cycleIdx = some s.cycleIndex ∧
      t.twin.sent = s.twin.sent ∧
      t.out = s.out ∧
      WordsKept [Reg.TWIN.CYCNUM.addr] s t) ∧
  (∀ (s : State) (l : List SigItem),
    s.twinOn = true →
    s.twin.cycleIdx ≠ some s.cycleIndex →
    s.linkUp = true →
    s.get Reg.TWIN.STAT_STATE = 1 ∨ (s.get Reg.TWIN.STAT_STATE = 2 ∧ s.twin.xchg = false) →
    (l = s.twin.sigs.map (fun p => ⟨p.1, State.signature p.2, s.twin.sigFail.contains p.1 || s.get (Reg.PROV.OUT_STATE p.1) == 2⟩)) →
    ∃ t, exec (.twinCycleBoundary) s = .next t ∧
      t.get Reg.TWIN.CYCNUM = (s.get Reg.TWIN.CYCNUM + 1) % 2 ^ 32 ∧
      t.twin.sigLast = l ∧
      (t.out = (if s.twinSends then [.twin (.signatures (s.get Reg.TWIN.CYCNUM) l) s.twin.key] else []) ++ s.out) ∧
      WordsKept [Reg.TWIN.CYCNUM.addr] s t) ∧
  (∀ (s : State),
    s.twinOn = true →
    s.twin.cycleIdx ≠ some s.cycleIndex →
    s.linkUp = true →
    s.get Reg.TWIN.STAT_STATE = 3 ∨ s.get Reg.TWIN.STAT_STATE = 4 →
    s.twin.xchg = false →
    ∃ t, exec (.twinCycleBoundary) s = .next t ∧
      (∃ x, t.twin.sent = some x ∧ x.cycle = t.get Reg.TWIN.CYCNUM ∧ x.full = decide (s.twin.stage < 2) ∧ x.mirSeq = s.twin.seq ∧ x.at_ = s.now) ∧
      t.twin.stage = max s.twin.stage 1 ∧
      t.get Reg.TWIN.CYCNUM = (s.get Reg.TWIN.CYCNUM + 1) % 2 ^ 32 ∧
      (s.twin.sent.isSome = true → bit (t.get Reg.TWIN.EVSTAT) 7 = true) ∧
      t.get Reg.TWIN.STAT_STATE = s.get Reg.TWIN.STAT_STATE) ∧
  (∀ (s : State),
    s.twinOn = true →
    s.twin.cycleIdx ≠ some s.cycleIndex →
    s.linkUp = true →
    s.get Reg.TWIN.STAT_STATE = 3 →
    s.twin.xchg = true →
    s.twin.sent = none →
    s.get Reg.TWIN.ACKED = s.get Reg.TWIN.CYCNUM →
    ∃ t, exec (.twinCycleBoundary) s = .next t ∧
      t.get Reg.TWIN.STAT_STATE = 2 ∧
      t.twin.xchg = false ∧
      t.twin.gotFull = true ∧
      t.twin.applied = s.twin.seq ∧
      bit (t.get Reg.TWIN.EVSTAT) 9 = true) ∧
  (∀ (s : State),
    s.twinOn = true →
    s.twin.cycleIdx ≠ some s.cycleIndex →
    s.get Reg.TWIN.STAT_STATE = 2 →
    s.twin.xchg = true →
    s.twin.lastCycle = some (s.get Reg.TWIN.CYCNUM) →
    ∃ t, exec (.twinCycleBoundary) s = .next t ∧
      t.get Reg.TWIN.STAT_STATE = 3 ∧
      t.twin.xchg = false ∧
      t.twin.seq = s.twin.applied ∧
      t.twin.stage = 3 ∧
      bit (t.get Reg.TWIN.EVSTAT) 9 = true) ∧
  (∀ (s : State),
    (s.twin.sent.all (fun c => s.now < c.at_ + 1000000) = true) →
    ∃ t, exec (.copyResend) s = .next t ∧
      t = s) ∧
  (∀ (s : State) (c : SentCopy),
    s.twin.sent = some c →
    c.at_ + 1000000 ≤ s.now →
    ∃ t, exec (.copyResend) s = .next t ∧
      t.get Reg.TWIN.COPYCNT_RESENDS = (s.get Reg.TWIN.COPYCNT_RESENDS + 1) % 65536 ∧
      (t.out = (if s.twinSends then [.twin (.copy c.cycle c.mirSeq c.full c.items) s.twin.key] else []) ++ s.out) ∧
      t.twin = { s.twin with sent := some { c with at_ := s.now } } ∧
      WordsKept [Reg.TWIN.COPYCNT_RESENDS.addr] s t) ∧
  (∀ (s : State) (ok full : Bool) (c q : Nat) (items : List CopyItem) (r : MirrorRec) (its : List LatchItem) (sigs : List SigItem) (cmd : Instr), cmd ∈ ([.cycleCopyRx ok c q full items, .copyAckRx ok c, .mirrorRecordRx ok r, .mirrorAckRx ok q, .latchRecordRx ok its, .signatureRx ok c sigs] : List Instr) →
    s.linkUp = false →
    ∃ t, exec cmd s = .next t ∧
      t = s) ∧
  (∀ (s : State) (full : Bool) (c q : Nat) (items : List CopyItem) (r : MirrorRec) (its : List LatchItem) (sigs : List SigItem) (cmd : Instr), cmd ∈ ([.cycleCopyRx false c q full items, .copyAckRx false c, .mirrorRecordRx false r, .mirrorAckRx false q, .latchRecordRx false its, .signatureRx false c sigs] : List Instr) →
    s.linkUp = true →
    s.twin.macFails < 15 →
    ∃ t, exec cmd s = .next t ∧
      t.get Reg.TWIN.AUTHCNT = (s.get Reg.TWIN.AUTHCNT + 1) % 65536 ∧
      t.twin = { s.twin with macFails := s.twin.macFails + 1 } ∧
      t.out = s.out ∧
      WordsKept [Reg.TWIN.AUTHCNT.addr] s t) ∧
  (∀ (s : State) (full : Bool) (c q : Nat) (items : List CopyItem) (r : MirrorRec) (its : List LatchItem) (sigs : List SigItem) (cmd : Instr), cmd ∈ ([.cycleCopyRx false c q full items, .copyAckRx false c, .mirrorRecordRx false r, .mirrorAckRx false q, .latchRecordRx false its, .signatureRx false c sigs] : List Instr) →
    s.linkUp = true →
    15 ≤ s.twin.macFails →
    ∃ t, exec cmd s = .next t ∧
      t.get Reg.TWIN.AUTHCNT = (s.get Reg.TWIN.AUTHCNT + 1) % 65536 ∧
      t.twin.cut = true ∧
      t.twin.auth = false ∧
      t.twin.key = none ∧
      bit (t.get Reg.TWIN.EVSTAT) 4 = true) ∧
  (∀ (s : State) (c q : Nat),
    s.linkUp = true →
    s.get Reg.TWIN.STAT_STATE = 1 ∨ s.get Reg.TWIN.STAT_STATE = 2 →
    s.twin.lastCycle ≠ some c →
    c < 2 ^ 32 →
    ∃ t, exec (.cycleCopyRx true c q true []) s = .next t ∧
      t.get Reg.TWIN.CYCNUM = c ∧
      t.twin.lastCycle = some c ∧
      t.twin.gotFull = true ∧
      (t.out = (if s.twinSends then [.twin (.copyAck c) s.twin.key] else []) ++ s.out) ∧
      t.twin.applied = q ∧
      t.get Reg.TWIN.STAT_STATE = s.get Reg.TWIN.STAT_STATE ∧
      WordsKept [Reg.TWIN.CYCNUM.addr] s t) ∧
  (∀ (s : State) (c q : Nat),
    s.linkUp = true →
    s.get Reg.TWIN.STAT_STATE = 1 ∨ s.get Reg.TWIN.STAT_STATE = 2 →
    s.twin.lastCycle ≠ some c →
    c < 2 ^ 32 →
    s.twin.gotFull = true →
    ∃ t, exec (.cycleCopyRx true c q false []) s = .next t ∧
      t.get Reg.TWIN.CYCNUM = c ∧
      t.twin.lastCycle = some c ∧
      t.twin.gotFull = true ∧
      (t.out = (if s.twinSends then [.twin (.copyAck c) s.twin.key] else []) ++ s.out) ∧
      t.twin.applied = s.twin.applied ∧
      t.get Reg.TWIN.STAT_STATE = 2 ∧
      RegsKept [.twin, .flt] s t) ∧
  (∀ (s : State) (c q i : Nat) (u : Option TakeRec),
    s.linkUp = true →
    s.get Reg.TWIN.STAT_STATE = 1 ∨ s.get Reg.TWIN.STAT_STATE = 2 →
    s.twin.lastCycle ≠ some c →
    c < 2 ^ 32 →
    s.twin.gotFull = true →
    i < 16384 →
    (s.outTakes i).pend ≠ u →
    Assoc.findD s.twin.changed (2 ^ 32 + i) 0 ≤ q →
    ∃ t, exec (.cycleCopyRx true c q false [.pend i u]) s = .next t ∧
      (t.outTakes i).pend = u ∧
      t.get (Reg.FAB.RT_PENDV i) = b2n u.isSome ∧
      t.get Reg.TWIN.COPYCNT_DIVERGED = (s.get Reg.TWIN.COPYCNT_DIVERGED + 1) % 65536 ∧
      bit (t.get Reg.TWIN.EVSTAT) 6 = true) ∧
  (∀ (s : State) (c q g : Nat) (u : Option FlintBank),
    s.linkUp = true →
    s.get Reg.TWIN.STAT_STATE = 1 ∨ s.get Reg.TWIN.STAT_STATE = 2 →
    s.twin.lastCycle ≠ some c →
    c < 2 ^ 32 →
    (s.micaHw g).flint ≠ u →
    Assoc.findD s.twin.changed (5 * 2 ^ 32 + g) 0 ≤ q →
    ∃ t, exec (.cycleCopyRx true c q true [.flint g u]) s = .next t ∧
      (t.micaHw g).flint = u ∧
      t.get Reg.TWIN.COPYCNT_DIVERGED = s.get Reg.TWIN.COPYCNT_DIVERGED) ∧
  (∀ (s : State) (c q i w : Nat),
    s.linkUp = true →
    s.get Reg.TWIN.STAT_STATE = 1 ∨ s.get Reg.TWIN.STAT_STATE = 2 →
    s.twin.lastCycle ≠ some c →
    c < 2 ^ 32 →
    i < 16384 →
    s.chanEgr i = none →
    s.get (Reg.FAB.RT_CUR i) ≠ w →
    w < 2 ^ 32 →
    Assoc.findD s.twin.changed (Reg.FAB.RT_CUR i).addr 0 ≤ q →
    ∃ t, exec (.cycleCopyRx true c q true [.word (Reg.FAB.RT_CUR i).addr w]) s = .next t ∧
      t.get (Reg.FAB.RT_CUR i) = w) ∧
  (∀ (s : State) (c q : Nat) (x : CopyItem) (full : Bool),
    s.linkUp = true →
    s.get Reg.TWIN.STAT_STATE = 1 ∨ s.get Reg.TWIN.STAT_STATE = 2 →
    s.twin.lastCycle ≠ some c →
    c < 2 ^ 32 →
    s.twin.gotFull = true →
    q < Assoc.findD s.twin.changed (copyKey x) 0 ∨ s.ownItem x = x →
    ∃ t, exec (.cycleCopyRx true c q full [x]) s = .next t ∧
      t.get Reg.TWIN.CYCNUM = c ∧
      t.twin.lastCycle = some c ∧
      t.twin.gotFull = true ∧
      (t.out = (if s.twinSends then [.twin (.copyAck c) s.twin.key] else []) ++ s.out) ∧
      t.get Reg.TWIN.COPYCNT_DIVERGED = s.get Reg.TWIN.COPYCNT_DIVERGED ∧
      t.fab = s.fab ∧
      t.mica = s.mica ∧
      t.chn = s.chn ∧
      t.lode = s.lode) ∧
  (∀ (s : State) (c q : Nat) (full : Bool) (items : List CopyItem),
    s.linkUp = true →
    s.get Reg.TWIN.STAT_STATE = 1 ∨ s.get Reg.TWIN.STAT_STATE = 2 →
    s.twin.lastCycle = some c →
    ∃ t, exec (.cycleCopyRx true c q full items) s = .next t ∧
      (t.out = (if s.twinSends then [.twin (.copyAck c) s.twin.key] else []) ++ s.out) ∧
      t.regs = s.regs ∧
      t.twin = { s.twin with macFails := 0 }) ∧
  (∀ (s : State) (c q : Nat) (full : Bool) (items : List CopyItem),
    s.linkUp = true →
    (s.get Reg.TWIN.STAT_STATE ≠ 1 ∧ s.get Reg.TWIN.STAT_STATE ≠ 2) ∨ (s.twin.lastCycle ≠ some c ∧ full = false ∧ s.twin.gotFull = false) →
    ∃ t, exec (.cycleCopyRx true c q full items) s = .next t ∧
      t = { s with twin := { s.twin with macFails := 0 } }) ∧
  (∀ (s : State) (c : Nat) (k : SentCopy),
    s.linkUp = true →
    s.twin.sent = some k →
    k.cycle = c →
    c < 2 ^ 32 →
    ∃ t, exec (.copyAckRx true c) s = .next t ∧
      t.twin.sent = none ∧
      t.twin.base = k.snap ∧
      (t.twin.stage = (if k.full then 2 else 3)) ∧
      t.get Reg.TWIN.ACKED = c ∧
      (t.get Reg.TWIN.STAT_STATE = if k.full = false ∧ s.twin.stage = 2 ∧ s.get Reg.TWIN.STAT_STATE = 4 then 3 else s.get Reg.TWIN.STAT_STATE) ∧
      RegsKept [.twin, .flt] s t) ∧
  (∀ (s : State) (c : Nat),
    s.linkUp = true →
    (s.twin.sent.all (fun k => k.cycle != c) = true) →
    ∃ t, exec (.copyAckRx true c) s = .next t ∧
      t = { s with twin := { s.twin with macFails := 0 } }) ∧
  (∀ (s : State) (r : MirrorRec),
    s.linkUp = true →
    s.get Reg.TWIN.STAT_STATE = 2 ∨ (s.get Reg.TWIN.STAT_STATE = 1 ∧ s.twin.gotFull = true) →
    r.seq ≤ s.twin.applied →
    ∃ t, exec (.mirrorRecordRx true r) s = .next t ∧
      (t.out = (if s.twinSends then [.twin (.mirrorAck r.seq) s.twin.key] else []) ++ s.out) ∧
      t.regs = s.regs ∧
      t.twin.applied = s.twin.applied) ∧
  (∀ (s : State) (r : MirrorRec),
    s.linkUp = true →
    s.get Reg.TWIN.STAT_STATE = 2 ∨ (s.get Reg.TWIN.STAT_STATE = 1 ∧ s.twin.gotFull = true) →
    r.seq = s.twin.applied + 1 →
    ∃ t, exec (.mirrorRecordRx true r) s = .next t ∧
      t.twin.applied = r.seq ∧
      (r.cmd.box = 7 → t.twin.xchg = true)) ∧
  (∀ (s : State) (r : MirrorRec),
    s.linkUp = true →
    (s.get Reg.TWIN.STAT_STATE ≠ 2 ∧ (s.get Reg.TWIN.STAT_STATE ≠ 1 ∨ s.twin.gotFull = false)) ∨ s.twin.applied + 1 < r.seq →
    ∃ t, exec (.mirrorRecordRx true r) s = .next t ∧
      t = { s with twin := { s.twin with macFails := 0 } }) ∧
  (∀ (s : State) (q : Nat),
    s.linkUp = true →
    (s.twin.mirror.any (fun r => r.seq == q) = true) →
    q < 2 ^ 32 →
    ∃ t, exec (.mirrorAckRx true q) s = .next t ∧
      (t.twin.mirror = s.twin.mirror.filter (fun r => r.seq != q)) ∧
      t.get Reg.TWIN.MIRSEQ = q ∧
      WordsKept [Reg.TWIN.MIRSEQ.addr] s t) ∧
  (∀ (s : State) (q : Nat),
    s.linkUp = true →
    (s.twin.mirror.any (fun r => r.seq == q) = false) →
    ∃ t, exec (.mirrorAckRx true q) s = .next t ∧
      t = { s with twin := { s.twin with macFails := 0 } }) ∧
  (∀ (s : State) (q : Nat) (r : MirrorRec),
    (s.twin.mirror.find? (fun x => x.seq == q) = some r) →
    Assoc.findD s.twin.mirrorAt q 0 + 50000 ≤ s.now →
    ∃ t, exec (.mirrorResend q) s = .next t ∧
      (t.out = (if s.twinSends then [.twin (.mirror r) s.twin.key] else []) ++ s.out) ∧
      t = { s with out := t.out, twin := { s.twin with mirrorAt := Assoc.put s.twin.mirrorAt q s.now } }) ∧
  (∀ (s : State) (q : Nat),
    (s.twin.mirror.any (fun r => r.seq == q) = false ∨ s.now < Assoc.findD s.twin.mirrorAt q 0 + 50000) →
    ∃ t, exec (.mirrorResend q) s = .next t ∧
      t = s)

/-- Supply feeds, PMBus polls, latch points, latch records and signatures of the twin. SUPPLY_OK_EDGE shows the pin of the feed,
with the event of its loss or return; without a change it is nothing. PMBUS_POLL shows what the unit of the feed answers,
with the event of a new status; without an answer it counts an error with its event. Off, or before POLL ms have passed, no
unit is polled. LATCH_POINT: a standby latches nothing of its own choosing; an output with a latched take latches no other;
one with none accepted latches none; one not yet accepted by then waits; a take accepted by then is latched. The ACTIVE
beside a standby latches one that the standby holds, and sends it what it latched; one whose record waits for its
acknowledgement it leaves pending. LATCH_RECORD_RX: the standby latches the take that the active latched, and it is no
longer pending; once only, and only the STANDBY. SIGNATURE_RX counts an output whose signatures differ, with its number and
event, and lowers the claim of the unit that alone failed it where CMPACT says so; where they agree it does nothing, and of
another cycle, or a second time, it compares nothing. Rests on parts of R121, R123, R459, R467, R468, R464.
(05_takes_salvos.md, 18_twin.md) -/
def Obligations.SupplyFeedsAndLatchPoints : Prop :=
  (∀ (s : State) (feed : Nat) (good : Bool),
    (s.flag (if feed = 0 then Reg.TWIN.SUPSTAT_SUPA_OK else Reg.TWIN.SUPSTAT_SUPB_OK) ≠ good) →
    ∃ t, exec (.supplyOkEdge feed good) s = .next t ∧
      (t.flag (if feed = 0 then Reg.TWIN.SUPSTAT_SUPA_OK else Reg.TWIN.SUPSTAT_SUPB_OK) = good) ∧
      (bit (t.get Reg.TWIN.EVSTAT) (if good then 12 else if feed = 0 then 10 else 11) = true) ∧
      RegsKept [.twin, .flt] s t) ∧
  (∀ (s : State) (feed : Nat) (good : Bool),
    (s.flag (if feed = 0 then Reg.TWIN.SUPSTAT_SUPA_OK else Reg.TWIN.SUPSTAT_SUPB_OK) = good) →
    ∃ t, exec (.supplyOkEdge feed good) s = .next t ∧
      t = s) ∧
  (∀ (s : State) (feed f : Nat) (w : PmbusWords),
    f = feed % 2 →
    s.supCfg Reg.TWIN.SUPCFG_PMBEN = 1 →
    s.flag Reg.SNS.STAT_RUN = true →
    (Assoc.find s.twin.polledAt f).all (fun x => decide (x + max 1 (s.supCfg Reg.TWIN.SUPCFG_POLL) * 1000000 ≤ s.now)) = true →
    ∃ t, exec (.pmbusPoll feed (some w)) s = .next t ∧
      t.get (Reg.TWIN.SUP_VIN f) = w.vin % 65536 ∧
      t.get (Reg.TWIN.SUP_IIN f) = w.iin % 65536 ∧
      t.get (Reg.TWIN.SUP_VOUT f) = w.vout % 65536 ∧
      t.get (Reg.TWIN.SUP_IOUT f) = w.iout % 65536 ∧
      t.get (Reg.TWIN.SUP_TEMP f) = w.temp % 65536 ∧
      t.get (Reg.TWIN.SUP_STATUS f) = w.status % 65536 ∧
      t.get (Reg.TWIN.SUP_ERRCNT f) = s.get (Reg.TWIN.SUP_ERRCNT f) ∧
      (if w.status % 65536 ≠ 0 ∧ w.status % 65536 ≠ s.get (Reg.TWIN.SUP_STATUS f) then bit (t.get Reg.TWIN.EVSTAT) 13 = true else t.get Reg.TWIN.EVSTAT = s.get Reg.TWIN.EVSTAT) ∧
      Assoc.find t.twin.polledAt f = some s.now ∧
      RegsKept [.twin, .flt] s t) ∧
  (∀ (s : State) (feed f : Nat),
    f = feed % 2 →
    s.supCfg Reg.TWIN.SUPCFG_PMBEN = 1 →
    s.flag Reg.SNS.STAT_RUN = true →
    (Assoc.find s.twin.polledAt f).all (fun x => decide (x + max 1 (s.supCfg Reg.TWIN.SUPCFG_POLL) * 1000000 ≤ s.now)) = true →
    ∃ t, exec (.pmbusPoll feed none) s = .next t ∧
      t.get (Reg.TWIN.SUP_ERRCNT f) = (s.get (Reg.TWIN.SUP_ERRCNT f) + 1) % 65536 ∧
      bit (t.get Reg.TWIN.EVSTAT) 14 = true ∧
      t.get (Reg.TWIN.SUP_VIN f) = s.get (Reg.TWIN.SUP_VIN f) ∧
      Assoc.find t.twin.polledAt f = some s.now ∧
      RegsKept [.twin, .flt] s t) ∧
  (∀ (s : State) (feed f : Nat) (w : Option PmbusWords),
    f = feed % 2 →
    (s.supCfg Reg.TWIN.SUPCFG_PMBEN = 0 ∨ s.flag Reg.SNS.STAT_RUN = false ∨ (Assoc.find s.twin.polledAt f).all (fun x => decide (x + max 1 (s.supCfg Reg.TWIN.SUPCFG_POLL) * 1000000 ≤ s.now)) = false) →
    ∃ t, exec (.pmbusPoll feed w) s = .next t ∧
      t = s) ∧
  (∀ (s : State) (i : Nat),
    s.twinOn = true →
    s.get Reg.TWIN.STAT_STATE = 2 →
    ∃ t, exec (.latchPoint i) s = .next t ∧
      t = s) ∧
  (∀ (s : State) (i : Nat),
    s.twinOn = false →
    (s.outTakes i).lat.isSome = true →
    ∃ t, exec (.latchPoint i) s = .next t ∧
      t = s) ∧
  (∀ (s : State) (i : Nat),
    s.twinOn = false →
    s.outTakes i = ⟨none, none⟩ →
    s.fab.sched = [] →
    s.fab.salvos = [] →
    s.prov.inverted = [] →
    ∃ t, exec (.latchPoint i) s = .next t ∧
      t = s) ∧
  (∀ (s : State) (i : Nat) (u : TakeRec),
    s.twinOn = false →
    s.outTakes i = ⟨some u, none⟩ →
    s.fab.sched = [] →
    s.fab.salvos = [] →
    s.timeNs < u.accepted →
    s.prov.inverted = [] →
    ∃ t, exec (.latchPoint i) s = .next t ∧
      t.fab = s.fab ∧
      t.regs = s.regs) ∧
  (∀ (s : State) (i : Nat) (u : TakeRec),
    s.twinOn = false ∨ s.linkUp = false ∨ s.get Reg.TWIN.STAT_STATE = 4 →
    s.get Reg.TWIN.STAT_STATE ≠ 2 →
    s.outTakes i = ⟨some u, none⟩ →
    s.fab.sched = [] →
    s.fab.salvos = [] →
    u.accepted ≤ s.timeNs →
    i < 16384 →
    u.src < 2 ^ 32 →
    s.prov.inverted = [] →
    ∃ t, exec (.latchPoint i) s = .next t ∧
      (t.outTakes i).pend = none ∧
      (t.outTakes i).lat.map (·.src) = some u.src ∧
      t.get (Reg.FAB.RT_LATV i) = 1 ∧
      t.get (Reg.FAB.RT_LATSRC i) = u.src ∧
      t.get (Reg.FAB.RT_PENDV i) = 0 ∧
      RegsKept [.fab, .prov, .flt] s t) ∧
  (∀ (s : State) (i : Nat) (u : TakeRec),
    s.get Reg.TWIN.CTRL_EN = 1 →
    s.get Reg.TWIN.STAT_STATE = 3 →
    s.linkUp = true →
    s.outTakes i = ⟨some u, none⟩ →
    s.fab.sched = [] →
    s.fab.salvos = [] →
    u.accepted ≤ s.timeNs →
    i < 16384 →
    u.src < 2 ^ 32 →
    s.twin.mirror = [] →
    s.prov.inverted = [] →
    ∃ t, exec (.latchPoint i) s = .next t ∧
      (t.outTakes i).pend = none ∧
      (t.outTakes i).lat.map (·.src) = some u.src ∧
      (∀ x ∈ (t.outTakes i).lat.toList, t.out = (if s.twinSends then [.twin (.latch [⟨i, x⟩]) s.twin.key] else []) ++ s.out)) ∧
  (∀ (s : State) (i : Nat) (u : TakeRec),
    s.get Reg.TWIN.CTRL_EN = 1 →
    s.get Reg.TWIN.STAT_STATE = 3 →
    s.linkUp = true →
    s.outTakes i = ⟨some u, none⟩ →
    s.fab.sched = [] →
    s.fab.salvos = [] →
    i < 16384 →
    (s.unacked 1 u.accepted (fun m => State.handleIdx (m.cmd.args.getD 0 0) == i) = true) →
    s.prov.inverted = [] →
    ∃ t, exec (.latchPoint i) s = .next t ∧
      t.outTakes i = ⟨some u, none⟩ ∧
      t.out = s.out) ∧
  (∀ (s : State) (i : Nat) (u : TakeRec),
    s.linkUp = true →
    s.get Reg.TWIN.STAT_STATE = 2 →
    i < 16384 →
    u.src < 2 ^ 32 →
    Assoc.find s.twin.latched i ≠ some u →
    ∃ t, exec (.latchRecordRx true [⟨i, u⟩]) s = .next t ∧
      (t.outTakes i).lat = some u ∧
      t.get (Reg.FAB.RT_LATSRC i) = u.src ∧
      t.get (Reg.FAB.RT_LATV i) = 1 ∧
      Assoc.find t.twin.latched i = some u ∧
      ((s.outTakes i).pend.any (fun v => v.src == u.src && v.accepted == u.accepted) = true → (t.outTakes i).pend = none) ∧
      RegsKept [.fab, .prov, .flt] s t) ∧
  (∀ (s : State) (l : List LatchItem),
    s.linkUp = true →
    (s.get Reg.TWIN.STAT_STATE ≠ 2 ∨ l.all (fun x => Assoc.find s.twin.latched x.out == some x.take) = true) →
    ∃ t, exec (.latchRecordRx true l) s = .next t ∧
      t = { s with twin := { s.twin with macFails := 0 } }) ∧
  (∀ (s : State) (c a b n : Nat) (y z : Bool),
    s.linkUp = true →
    s.twin.sigCycle = c →
    s.twin.sigLast = [⟨n, a, y⟩] →
    a ≠ b →
    s.twin.sigSeen ≠ some c →
    n < 2 ^ (Reg.TWIN.SIGMIS_ENTRY).width →
    s.get Reg.TWIN.CTRL_EN = 1 →
    s.get Reg.TWIN.STAT_STATE ≠ 0 →
    ∃ t, exec (.signatureRx true c [⟨n, b, z⟩]) s = .next t ∧
      t.get Reg.TWIN.SIGMIS_COUNT = (s.get Reg.TWIN.SIGMIS_COUNT + 1) % 65536 ∧
      t.get Reg.TWIN.SIGMIS_ENTRY = n ∧
      bit (t.get Reg.TWIN.EVSTAT) 5 = true ∧
      t.twin.sigSeen = some c ∧
      (t.get Reg.TWIN.STAT_STATE = if s.use Reg.TWIN.CFG_CMPACT = 1 ∧ y = true ∧ z = false then 5 else s.get Reg.TWIN.STAT_STATE) ∧
      RegsKept [.twin, .flt] s t) ∧
  (∀ (s : State) (c : Nat) (l : List SigItem),
    s.linkUp = true →
    s.twin.sigCycle = c →
    s.twin.sigSeen ≠ some c →
    (s.twin.sigLast.all (fun a => l.all fun b => b.e != a.e || b.crc == a.crc) = true) →
    ∃ t, exec (.signatureRx true c l) s = .next t ∧
      t = { s with twin := { s.twin with macFails := 0, sigSeen := some c } }) ∧
  (∀ (s : State) (c : Nat) (l : List SigItem),
    s.linkUp = true →
    s.twin.sigCycle ≠ c ∨ s.twin.sigSeen = some c →
    ∃ t, exec (.signatureRx true c l) s = .next t ∧
      t = { s with twin := { s.twin with macFails := 0 } })

/-- The druse bus: sending, the own slot and drift. TXGO marks the transmit buffer pending. GBUS_TX_LATCH is nothing on a bus
that does not run, or a second time for one cycle; it takes a pending buffer for the frame of the cycle; on a unit that is
not eligible it drops and counts it; with none pending, or on a silent member, it takes none and leaves the buffer as it is.
GBUS_OWN_SLOT is nothing on a bus that does not run, or a second time in one cycle; else it sends one frame with its bytes
on the enabled pairs: version 1, the own slot, the system number, the cycle, the claim carried, the identity, TERR and the
payload taken; an enabled pair on which the last own frame was not heard counts an own error, with the event; a silent
member sends none. TERR_WRITE above 500 ns mutes the member; at 400 ns or less it unmutes it; between, or in that state
already, it stays as it is. TERR_TIMEOUT mutes it too; before 1 s has passed, or of a muted member, it is nothing. Rests on
parts of R474, R475, R477, R481, R482. (19_druse_bus.md) -/
def Obligations.DruseBusSending : Prop :=
  (∀ (s : State) (m : Nat),
    Quiet m s →
    ∃ t, exec (.txgo m) s = .next t ∧
      t.get Reg.GBUS.STAT_TXPEND = 1 ∧
      t.gbus = s.gbus ∧
      WordsKept [(Reg.GBUS.STAT_RUN).addr] s t) ∧
  (∀ (s : State),
    s.get Reg.GBUS.STAT_RUN = 0 ∨ s.gbus.latchCyc = some s.latchCycle →
    ∃ t, exec (.gbusTxLatch) s = .next t ∧
      t = s) ∧
  (∀ (s : State),
    s.get Reg.GBUS.STAT_RUN = 1 →
    s.gbus.latchCyc ≠ some s.latchCycle →
    s.get Reg.GBUS.STAT_TXPEND = 1 →
    s.gbus.mute = false →
    s.inStepGap = false →
    s.ineligible = false →
    ∃ t, exec (.gbusTxLatch) s = .next t ∧
      t.get Reg.GBUS.STAT_TXPEND = 0 ∧
      t.gbus = { s.gbus with latchCyc := some s.latchCycle, taken := s.txBytes } ∧
      WordsKept [(Reg.GBUS.STAT_RUN).addr] s t) ∧
  (∀ (s : State),
    s.get Reg.GBUS.STAT_RUN = 1 →
    s.gbus.latchCyc ≠ some s.latchCycle →
    s.get Reg.GBUS.STAT_TXPEND = 1 →
    s.gbus.mute = false →
    s.inStepGap = false →
    s.ineligible = true →
    ∃ t, exec (.gbusTxLatch) s = .next t ∧
      t.get Reg.GBUS.STAT_TXPEND = 0 ∧
      t.gbus = { s.gbus with latchCyc := some s.latchCycle } ∧
      t.get Reg.GBUS.CNT_TXDROP = (s.get Reg.GBUS.CNT_TXDROP + 1) % 2 ^ Reg.GBUS.CNT_TXDROP.width ∧
      RegsKept [.gbus] s t) ∧
  (∀ (s : State),
    s.get Reg.GBUS.STAT_RUN = 1 →
    s.gbus.latchCyc ≠ some s.latchCycle →
    s.get Reg.GBUS.STAT_TXPEND = 0 ∨ s.gbus.mute = true ∨ s.inStepGap = true →
    ∃ t, exec (.gbusTxLatch) s = .next t ∧
      t = { s with gbus := { s.gbus with latchCyc := some s.latchCycle } }) ∧
  (∀ (s : State),
    s.get Reg.GBUS.STAT_RUN = 0 ∨ s.gbus.sentCyc = some s.busCycle →
    ∃ t, exec (.gbusOwnSlot) s = .next t ∧
      t = s) ∧
  (∀ (s : State) (g : GbusFrame),
    s.get Reg.GBUS.STAT_RUN = 1 →
    s.gbus.mute = false →
    s.inStepGap = false →
    s.gbus.sentCyc ≠ some s.busCycle →
    (g = (⟨1, s.use Reg.GBUS.CFG_OWNSLOT, s.use Reg.CHN.CFG_SYSNUM, s.timeNs / 1000000 % 1000, if s.get Reg.TWIN.CTRL_EN = 1 then s.get Reg.TWIN.CARRIED_OWN else 0, s.devid, s.get Reg.GBUS.TERR, s.gbus.taken, true, true, 0, false⟩ : GbusFrame)) →
    ∃ t, exec (.gbusOwnSlot) s = .next t ∧
      t.out.head? = some (.gbus (s.use Reg.GBUS.CFG_PAIREN) g (gbusBytes g)) ∧
      t.gbus = { s.gbus with taken := [], ownOut := true, ownSeen := [], sentCyc := some s.busCycle } ∧
      t.get Reg.GBUS.STAT_MUTED = 0 ∧
      (s.jrp.salvos = [] → t.out.length = s.out.length + 1) ∧
      RegsKept [.gbus, .flt] s t) ∧
  (∀ (s : State),
    s.get Reg.GBUS.STAT_RUN = 1 →
    s.gbus.sentCyc ≠ some s.busCycle →
    ∃ t, exec (.gbusOwnSlot) s = .next t ∧
      (t.get (State.ownErrF 0) = (s.get (State.ownErrF 0) + (if s.gbus.ownOut = true ∧ s.pairOn 0 = true ∧ s.gbus.ownSeen.contains 0 = false then 1 else 0)) % 16) ∧
      (t.get (State.ownErrF 1) = (s.get (State.ownErrF 1) + (if s.gbus.ownOut = true ∧ s.pairOn 1 = true ∧ s.gbus.ownSeen.contains 1 = false then 1 else 0)) % 16) ∧
      ((s.gbus.ownOut = true ∧ s.pairOn 0 = true ∧ s.gbus.ownSeen.contains 0 = false) ∨ (s.gbus.ownOut = true ∧ s.pairOn 1 = true ∧ s.gbus.ownSeen.contains 1 = false) → bit (t.get Reg.GBUS.EVSTAT) 9 = true)) ∧
  (∀ (s : State),
    s.get Reg.GBUS.STAT_RUN = 1 →
    s.gbus.mute = true ∨ s.inStepGap = true →
    s.gbus.sentCyc ≠ some s.busCycle →
    s.jrp.salvos = [] →
    ∃ t, exec (.gbusOwnSlot) s = .next t ∧
      t.out = s.out ∧
      t.gbus = { s.gbus with ownOut := false, ownSeen := [] } ∧
      t.get Reg.GBUS.STAT_MUTED = 1 ∧
      RegsKept [.gbus, .flt] s t) ∧
  (∀ (s : State) (m : Nat) (data : Word),
    Quiet m s →
    500 < data.toNat % 65536 →
    s.gbus.mute = false →
    ∃ t, exec (.terrWrite m data) s = .next t ∧
      t.get Reg.GBUS.TERR = data.toNat % 65536 ∧
      t.gbus = { s.gbus with mute := true, terrAt := s.now } ∧
      t.get Reg.GBUS.STAT_MUTED = 1 ∧
      bit (t.get Reg.GBUS.EVSTAT) 1 = true ∧
      RegsKept [.gbus, .flt] s t) ∧
  (∀ (s : State) (m : Nat) (data : Word),
    Quiet m s →
    data.toNat % 65536 ≤ 400 →
    s.gbus.mute = true →
    ∃ t, exec (.terrWrite m data) s = .next t ∧
      t.get Reg.GBUS.TERR = data.toNat % 65536 ∧
      t.gbus = { s.gbus with mute := false, terrAt := s.now } ∧
      t.get Reg.GBUS.STAT_MUTED = b2n s.inStepGap ∧
      bit (t.get Reg.GBUS.EVSTAT) 2 = true ∧
      RegsKept [.gbus, .flt] s t) ∧
  (∀ (s : State) (m : Nat) (data : Word),
    Quiet m s →
    (400 < data.toNat % 65536 ∧ data.toNat % 65536 ≤ 500) ∨ (500 < data.toNat % 65536 ∧ s.gbus.mute = true) ∨ (data.toNat % 65536 ≤ 400 ∧ s.gbus.mute = false) →
    ∃ t, exec (.terrWrite m data) s = .next t ∧
      t.get Reg.GBUS.TERR = data.toNat % 65536 ∧
      t.gbus = { s.gbus with terrAt := s.now } ∧
      WordsKept [Reg.GBUS.TERR.addr, (Reg.GBUS.STAT_RUN).addr] s t) ∧
  (∀ (s : State),
    s.gbus.mute = false →
    s.gbus.terrAt + 1000000000 ≤ s.now →
    ∃ t, exec (.terrTimeout) s = .next t ∧
      t.gbus = { s.gbus with mute := true } ∧
      t.get Reg.GBUS.STAT_MUTED = 1 ∧
      t.get Reg.GBUS.TERR = s.get Reg.GBUS.TERR ∧
      bit (t.get Reg.GBUS.EVSTAT) 1 = true ∧
      RegsKept [.gbus, .flt] s t) ∧
  (∀ (s : State),
    s.gbus.mute = true ∨ s.now < s.gbus.terrAt + 1000000000 →
    ∃ t, exec (.terrTimeout) s = .next t ∧
      t = s)

/-- The druse bus: receiving, missed slots and pairs. GBUS_FRAME_RX on a pair that is off, in no slot, or on a bus that does not
run is nothing; with a bad header or payload, of another version, slot or system number than the map has, or over its slot's
edge, it is discarded and counted against its slot and pair, a mismatch and a crossing with their events; the own one is an
own error; the second valid copy in a cycle is heard, and not used; a valid first one makes its member present, keeps its
time error, claim and identity, clears its misses and shows its offset, above 500 ns with ENCROACH and its event; its
payload enters the receive queue, or a full queue overflows with its event. GBUS_SLOT_MISS counts; at HBMISS the member is
lost with its event; before, or of a lost one, it only counts, up to its largest value; of a slot with no member, or heard
in the cycle that ends, it is nothing. GBUS_PAIR_WINDOW is nothing a second time in one window, or on a bus that does not
run; of two pairs in service one on which nothing was heard, while the other heard a slot, goes out of service with its
event; a pair out of service that heard every present member comes into service with its event; pair A likewise. GBUS_POP
removes the head of the receive queue, and the next one stands in the registers. Rests on parts of R473, R477, R478, R479,
R480, R483. (19_druse_bus.md) -/
def Obligations.DruseBusReceiving : Prop :=
  (∀ (s : State) (p k : Nat) (f : GbusFrame),
    s.get Reg.GBUS.STAT_RUN = 0 ∨ 64 ≤ k ∨ s.pairOn p = false ∨ 2 ≤ p →
    ∃ t, exec (.gbusFrameRx p k f) s = .next t ∧
      t = s) ∧
  (∀ (s : State) (p k : Nat) (f : GbusFrame),
    s.get Reg.GBUS.STAT_RUN = 1 →
    p < 2 →
    k < 64 →
    s.pairOn p = true →
    f.headerOk = false ∨ f.ver ≠ 1 ∨ f.slot ≠ k ∨ s.use (Reg.GBUS.MAP_VALID k) = 0 ∨ f.sys ≠ s.use (Reg.GBUS.MAP_SYSNUM k) ∨ (f.payload ≠ [] ∧ f.payloadOk = false) ∨ f.crossed = true →
    ∃ t, exec (.gbusFrameRx p k f) s = .next t ∧
      (t.get (if p = 0 then Reg.GBUS.MEM_CNT_ERRA k else Reg.GBUS.MEM_CNT_ERRB k) = (s.get (if p = 0 then Reg.GBUS.MEM_CNT_ERRA k else Reg.GBUS.MEM_CNT_ERRB k) + 1) % 256) ∧
      t.gbus.rxq = s.gbus.rxq ∧
      t.gbus.used = s.gbus.used ∧
      t.gbus.heard = s.gbus.heard ∧
      t.get (Reg.GBUS.MEM_ST_STATE k) = s.get (Reg.GBUS.MEM_ST_STATE k) ∧
      (k = s.use Reg.GBUS.CFG_OWNSLOT ∧ s.gbus.ownOut = true) → (t.get (State.ownErrF p) = (s.get (State.ownErrF p) + 1) % 16 ∧ t.gbus.ownSeen = s.gbus.ownSeen ++ [p] ∧ bit (t.get Reg.GBUS.EVSTAT) 9 = true) ∧
      (¬(k = s.use Reg.GBUS.CFG_OWNSLOT ∧ s.gbus.ownOut = true) → t.gbus = s.gbus) ∧
      ((f.headerOk = true ∧ f.ver = 1 ∧ (f.slot ≠ k ∨ f.sys ≠ s.use (Reg.GBUS.MAP_SYSNUM k))) → bit (t.get Reg.GBUS.EVSTAT) 12 = true) ∧
      (f.crossed = true → bit (t.get Reg.GBUS.EVSTAT) 4 = true) ∧
      RegsKept [.gbus, .flt] s t) ∧
  (∀ (s : State) (p k : Nat) (f : GbusFrame),
    s.get Reg.GBUS.STAT_RUN = 1 →
    p < 2 →
    k < 64 →
    s.pairOn p = true →
    f.headerOk = true →
    f.ver = 1 →
    f.slot = k →
    s.use (Reg.GBUS.MAP_VALID k) = 1 →
    f.sys = s.use (Reg.GBUS.MAP_SYSNUM k) →
    f.payload = [] ∨ f.payloadOk = true →
    f.crossed = false →
    Assoc.find s.gbus.used k = some s.busCycle →
    ∃ t, exec (.gbusFrameRx p k f) s = .next t ∧
      t.regs = s.regs ∧
      (t.gbus = { s.gbus with ownSeen := (if k = s.use Reg.GBUS.CFG_OWNSLOT then s.gbus.ownSeen ++ [p] else s.gbus.ownSeen), heard := (if s.gbus.heard.contains (p, k) then s.gbus.heard else s.gbus.heard ++ [(p, k)]) }) ∧
      t.out = s.out) ∧
  (∀ (s : State) (p k : Nat) (f : GbusFrame),
    s.get Reg.GBUS.STAT_RUN = 1 →
    p < 2 →
    k < 64 →
    s.pairOn p = true →
    f.headerOk = true →
    f.ver = 1 →
    f.slot = k →
    s.use (Reg.GBUS.MAP_VALID k) = 1 →
    f.sys = s.use (Reg.GBUS.MAP_SYSNUM k) →
    f.payload = [] ∨ f.payloadOk = true →
    f.crossed = false →
    Assoc.find s.gbus.used k ≠ some s.busCycle →
    f.terr < 65536 →
    f.claim < 512 →
    f.devid < 2 ^ 64 →
    ∃ t, exec (.gbusFrameRx p k f) s = .next t ∧
      t.get (Reg.GBUS.MEM_ST_STATE k) = 2 ∧
      t.get (Reg.GBUS.MEM_TERR k) = f.terr ∧
      t.get (Reg.GBUS.MEM_ST_CLAIM k) = f.claim ∧
      t.get64 (Reg.GBUS.MEM_DEVIDLO k) (Reg.GBUS.MEM_DEVIDHI k) = f.devid ∧
      t.get (Reg.GBUS.MEM_CNT_MISS k) = 0 ∧
      Assoc.find t.gbus.used k = some s.busCycle ∧
      (p, k) ∈ t.gbus.heard ∧
      toSigned 16 (t.get (Reg.GBUS.MEM_ST_OFFSET k)) = satSigned 16 (f.start - (s.use (Reg.GBUS.MAP_DLY k) : Int)) ∧
      (s.get (Reg.GBUS.MEM_ST_STATE k) ≠ 2 → bit (t.get Reg.GBUS.EVSTAT) 6 = true) ∧
      (500 < (f.start - (s.use (Reg.GBUS.MAP_DLY k) : Int)).natAbs ∧ s.inStepGap = false) → (t.get (Reg.GBUS.MEM_ST_ENCROACH k) = 1 ∧ bit (t.get Reg.GBUS.EVSTAT) 3 = true)) ∧
  (∀ (s : State) (p k : Nat) (f : GbusFrame),
    s.get Reg.GBUS.STAT_RUN = 1 →
    p < 2 →
    k < 64 →
    s.pairOn p = true →
    f.headerOk = true →
    f.ver = 1 →
    f.slot = k →
    s.use (Reg.GBUS.MAP_VALID k) = 1 →
    f.sys = s.use (Reg.GBUS.MAP_SYSNUM k) →
    f.payload = [] ∨ f.payloadOk = true →
    f.crossed = false →
    Assoc.find s.gbus.used k ≠ some s.busCycle →
    f.sys ≠ s.use Reg.CHN.CFG_SYSNUM →
    ∃ t, exec (.gbusFrameRx p k f) s = .next t ∧
      (t.gbus.rxq = (if f.payload = [] ∨ 128 ≤ s.gbus.rxq.length then s.gbus.rxq else s.gbus.rxq ++ [⟨gbusHeader f, f.payload⟩])) ∧
      (f.payload ≠ [] ∧ 128 ≤ s.gbus.rxq.length) → (t.get Reg.GBUS.RXQ_OVF = 1 ∧ bit (t.get Reg.GBUS.EVSTAT) 10 = true) ∧
      (f.payload ≠ [] ∧ s.gbus.rxq = []) → (t.get Reg.GBUS.RXQ_COUNT = 1 ∧ t.get Reg.GBUS.RXLEN = f.payload.length % 512 ∧ t.get (Reg.GBUS.RXDATA 0) = leNat (f.payload.take 4)) ∧
      RegsKept [.gbus, .flt] s t) ∧
  (∀ (s : State) (k n : Nat),
    s.get Reg.GBUS.STAT_RUN = 1 →
    k < 64 →
    s.use (Reg.GBUS.MAP_VALID k) = 1 →
    n = min (s.get (Reg.GBUS.MEM_CNT_MISS k) + 1) 255 →
    s.get (Reg.GBUS.MEM_ST_STATE k) = 2 →
    max 1 (s.use Reg.GBUS.CFG_HBMISS) ≤ n →
    ¬(Assoc.find s.gbus.used k = some ((s.timeNs - 1) / 1000000)) →
    ∃ t, exec (.gbusSlotMiss k) s = .next t ∧
      t.get (Reg.GBUS.MEM_ST_STATE k) = 1 ∧
      t.get (Reg.GBUS.MEM_CNT_MISS k) = n ∧
      bit (t.get Reg.GBUS.EVSTAT) 5 = true ∧
      t.gbus = s.gbus ∧
      RegsKept [.gbus, .flt] s t) ∧
  (∀ (s : State) (k n : Nat),
    s.get Reg.GBUS.STAT_RUN = 1 →
    k < 64 →
    s.use (Reg.GBUS.MAP_VALID k) = 1 →
    n = min (s.get (Reg.GBUS.MEM_CNT_MISS k) + 1) 255 →
    s.get (Reg.GBUS.MEM_ST_STATE k) ≠ 2 ∨ n < max 1 (s.use Reg.GBUS.CFG_HBMISS) →
    ¬(Assoc.find s.gbus.used k = some ((s.timeNs - 1) / 1000000)) →
    ∃ t, exec (.gbusSlotMiss k) s = .next t ∧
      t.get (Reg.GBUS.MEM_CNT_MISS k) = n ∧
      t.gbus = s.gbus ∧
      t.get (Reg.GBUS.MEM_ST_STATE k) = s.get (Reg.GBUS.MEM_ST_STATE k) ∧
      WordsKept [(Reg.GBUS.MEM_CNT_MISS k).addr] s t) ∧
  (∀ (s : State) (k : Nat),
    s.get Reg.GBUS.STAT_RUN = 0 ∨ 64 ≤ k ∨ s.use (Reg.GBUS.MAP_VALID k) = 0 ∨ Assoc.find s.gbus.used k = some ((s.timeNs - 1) / 1000000) →
    ∃ t, exec (.gbusSlotMiss k) s = .next t ∧
      t = s) ∧
  (∀ (s : State) (a b : List Nat),
    s.get Reg.GBUS.STAT_RUN = 0 ∨ s.gbus.window = some s.busWindow →
    ∃ t, exec (.gbusPairWindow a b) s = .next t ∧
      t = s) ∧
  (∀ (s : State) (a b : List Nat),
    s.get Reg.GBUS.STAT_RUN = 1 →
    s.gbus.window ≠ some s.busWindow →
    s.pairOn 0 = true →
    s.pairOn 1 = true →
    s.flag (⟨Reg.GBUS.STAT_PAIRST.addr, Reg.GBUS.STAT_PAIRST.lo + 0, Reg.GBUS.STAT_PAIRST.lo + 0⟩ : FRef) = true →
    s.flag (⟨Reg.GBUS.STAT_PAIRST.addr, Reg.GBUS.STAT_PAIRST.lo + 1, Reg.GBUS.STAT_PAIRST.lo + 1⟩ : FRef) = true →
    ∃ t, exec (.gbusPairWindow a b) s = .next t ∧
      (t.flag (⟨Reg.GBUS.STAT_PAIRST.addr, Reg.GBUS.STAT_PAIRST.lo + 0, Reg.GBUS.STAT_PAIRST.lo + 0⟩ : FRef) = !(((s.gbus.heard.filter (fun x => x.1 == 0)).isEmpty && a.isEmpty) && !((s.gbus.heard.filter (fun x => x.1 == 1)).isEmpty && b.isEmpty))) ∧
      (t.flag (⟨Reg.GBUS.STAT_PAIRST.addr, Reg.GBUS.STAT_PAIRST.lo + 1, Reg.GBUS.STAT_PAIRST.lo + 1⟩ : FRef) = !(((s.gbus.heard.filter (fun x => x.1 == 1)).isEmpty && b.isEmpty) && !((s.gbus.heard.filter (fun x => x.1 == 0)).isEmpty && a.isEmpty))) ∧
      ((((s.gbus.heard.filter (fun x => x.1 == 0)).isEmpty && a.isEmpty) ≠ ((s.gbus.heard.filter (fun x => x.1 == 1)).isEmpty && b.isEmpty)) → bit (t.get Reg.GBUS.EVSTAT) 7 = true) ∧
      t.gbus = { s.gbus with window := some s.busWindow, heard := [] } ∧
      RegsKept [.gbus, .flt] s t) ∧
  (∀ (s : State) (a b : List Nat),
    s.get Reg.GBUS.STAT_RUN = 1 →
    s.gbus.window ≠ some s.busWindow →
    s.pairOn 1 = true →
    s.flag (⟨Reg.GBUS.STAT_PAIRST.addr, Reg.GBUS.STAT_PAIRST.lo + 1, Reg.GBUS.STAT_PAIRST.lo + 1⟩ : FRef) = false →
    ∃ t, exec (.gbusPairWindow a b) s = .next t ∧
      (t.flag (⟨Reg.GBUS.STAT_PAIRST.addr, Reg.GBUS.STAT_PAIRST.lo + 1, Reg.GBUS.STAT_PAIRST.lo + 1⟩ : FRef) = (!((s.gbus.heard.filter (fun x => x.1 == 1)).isEmpty && b.isEmpty) && (List.range 64).all (fun k => s.get (Reg.GBUS.MEM_ST_STATE k) != 2 || s.gbus.heard.contains (1, k) || b.contains k))) ∧
      (t.flag (⟨Reg.GBUS.STAT_PAIRST.addr, Reg.GBUS.STAT_PAIRST.lo + 1, Reg.GBUS.STAT_PAIRST.lo + 1⟩ : FRef) = true → bit (t.get Reg.GBUS.EVSTAT) 8 = true)) ∧
  (∀ (s : State) (a b : List Nat),
    s.get Reg.GBUS.STAT_RUN = 1 →
    s.gbus.window ≠ some s.busWindow →
    s.pairOn 0 = true →
    s.flag (⟨Reg.GBUS.STAT_PAIRST.addr, Reg.GBUS.STAT_PAIRST.lo + 0, Reg.GBUS.STAT_PAIRST.lo + 0⟩ : FRef) = false →
    ∃ t, exec (.gbusPairWindow a b) s = .next t ∧
      (t.flag (⟨Reg.GBUS.STAT_PAIRST.addr, Reg.GBUS.STAT_PAIRST.lo + 0, Reg.GBUS.STAT_PAIRST.lo + 0⟩ : FRef) = (!((s.gbus.heard.filter (fun x => x.1 == 0)).isEmpty && a.isEmpty) && (List.range 64).all (fun k => s.get (Reg.GBUS.MEM_ST_STATE k) != 2 || s.gbus.heard.contains (0, k) || a.contains k))) ∧
      (t.flag (⟨Reg.GBUS.STAT_PAIRST.addr, Reg.GBUS.STAT_PAIRST.lo + 0, Reg.GBUS.STAT_PAIRST.lo + 0⟩ : FRef) = true → bit (t.get Reg.GBUS.EVSTAT) 8 = true)) ∧
  (∀ (s : State) (m : Nat) (l : List GbusRx),
    Quiet m s →
    l = s.gbus.rxq.drop 1 →
    ∃ t, exec (.gbusPop m) s = .next t ∧
      t.gbus = { s.gbus with rxq := l } ∧
      t.get Reg.GBUS.RXQ_COUNT = l.length % 2 ^ Reg.GBUS.RXQ_COUNT.width ∧
      (t.get Reg.GBUS.RXLEN = ((l.head?.map (fun x => x.payload.length)).getD 0) % 2 ^ Reg.GBUS.RXLEN.width) ∧
      (t.get (Reg.GBUS.RXDATA 0) = leNat (((l.head?.map (fun x => x.payload)).getD []).take 4)) ∧
      RegsKept [.gbus] s t)

/-- JRP sessions: opening, resuming, closing and what is kept. JRP_OPEN in a datagram that is not taken in (a fragment, from an
address no peer lists, before step 4 of the start, to a unit that does not act) or whose form is inconsistent is discarded;
so is that of no listed peer, and in HMAC mode one without a public key, with a bad signature, or while the chip has no
keys. Any other opens a fresh session with an empty window and a full credit, and its OPEN_REPLY tells ID and system number;
with the ID of one that is kept for its peer it resumes that one with its window. The same nonce again within 5 s is
answered with the same reply; a fifth session of a peer, or a 65th, is refused with code 5. CLOSE in a datagram not taken
in, or of no session, is nothing; with a bad MAC it is counted as discarded; else it closes the session, whose window and
queue are kept. SESSION_TIMEOUT, 30 s after the last valid REQUEST, likewise; before, it is nothing. SESSION_RETAIN_EXPIRE
drops what has been kept for 60 s; what came by mirror records, 60 s after the takeover. NOTIFY_SEND sends the oldest
notification of a session, numbered, 100 µs after the last at the earliest; after losses a GAP goes first; too early, or
with none, it sends nothing. Rests on parts of R576, R579, R582, R585, R590, R594, R595. (24_control_protocol.md) -/
def Obligations.JrpSessions : Prop :=
  (∀ (s : State) (h : JrpHdr) (p r n : Nat) (qc : Option Nat) (ok : Bool),
    s.jrpHears h = false ∨ h.formOk = false →
    ∃ t, exec (.jrpOpen h p r n qc ok) s = .next t ∧
      t = s) ∧
  (∀ (s : State) (h : JrpHdr) (p r n : Nat) (qc : Option Nat) (ok : Bool),
    (s.jrp.peers.find? fun q => q.index == p && q.addr == h.src) = none →
    ∃ t, exec (.jrpOpen h p r n qc ok) s = .next t ∧
      t = s) ∧
  (∀ (s : State) (h : JrpHdr) (p : JrpPeer) (r n : Nat) (qc : Option Nat) (ok : Bool),
    s.jrpHears h = true →
    h.formOk = true →
    (s.jrp.peers.find? fun q => q.index == p.index && q.addr == h.src) = some p →
    p.mode = 1 →
    qc.isNone = true ∨ ok = false ∨ s.key.ops = none →
    ∃ t, exec (.jrpOpen h p.index r n qc ok) s = .next t ∧
      t = s) ∧
  (∀ (s : State) (h : JrpHdr) (p : JrpPeer) (r n : Nat) (qc : Option Nat) (ok : Bool),
    s.jrpHears h = true →
    h.formOk = true →
    (s.jrp.peers.find? fun q => q.index == p.index && q.addr == h.src) = some p →
    (p.mode = 1 → (qc.isSome = true ∧ ok = true ∧ s.key.ops.isSome = true)) →
    (s.jrp.sessions.find? fun y => y.peer == p.index && y.nonce == n && decide (s.now ≤ y.opened + 5000000000)) = none →
    (¬(4 ≤ (s.jrp.sessions.filter fun y => y.peer == p.index).length ∨ 64 ≤ s.jrp.sessions.length)) →
    s.keptOf r p = none →
    s.jrp.running = [] →
    s.jrp.held = [] →
    (s.jrp.sessions.all fun y => y.queue.isEmpty) = true →
    ∃ t, exec (.jrpOpen h p.index r n qc ok) s = .next t ∧
      t.jrp.sessions.take s.jrp.sessions.length = s.jrp.sessions ∧
      t.jrp.sessions.length = s.jrp.sessions.length + 1 ∧
      (t.jrp.sessions.getLast?.map fun x => (x.peer, x.hmac, x.port, x.src, x.sport)) = some (p.index, p.mode == 1, h.port, h.src, h.sport) ∧
      (t.jrp.sessions.getLast?.map fun x => (x.nonce, x.high, x.window, x.queue, x.credit)) = some (n, none, [], [], 128000000) ∧
      ((t.jrp.sessions.getLast?.map fun x => Output.jrp h.port h.src h.sport x.reply) = t.out.head?) ∧
      (t.jrp.sessions.getLast?.map fun x => (x.reply.type, x.reply.session, x.reply.code, x.reply.target)) = (t.jrp.sessions.getLast?.map fun x => (2, x.id, 0, s.use Reg.CHN.CFG_SYSNUM)) ∧
      t.out.length = s.out.length + 1 ∧
      t.regs = s.regs) ∧
  (∀ (s : State) (h : JrpHdr) (p : JrpPeer) (r n : Nat) (qc : Option Nat) (ok : Bool) (k : JrpKept),
    s.jrpHears h = true →
    h.formOk = true →
    (s.jrp.peers.find? fun q => q.index == p.index && q.addr == h.src) = some p →
    (p.mode = 1 → (qc.isSome = true ∧ ok = true ∧ s.key.ops.isSome = true)) →
    (s.jrp.sessions.find? fun y => y.peer == p.index && y.nonce == n && decide (s.now ≤ y.opened + 5000000000)) = none →
    (¬(4 ≤ (s.jrp.sessions.filter fun y => y.peer == p.index).length ∨ 64 ≤ s.jrp.sessions.length)) →
    s.keptOf r p = some k →
    k.queue = [] →
    s.jrp.running = [] →
    s.jrp.held = [] →
    (s.jrp.sessions.all fun y => y.queue.isEmpty) = true →
    ∃ t, exec (.jrpOpen h p.index r n qc ok) s = .next t ∧
      t.jrp.sessions.length = s.jrp.sessions.length + 1 ∧
      (t.jrp.sessions.getLast?.map fun x => (x.id, x.high, x.window)) = some (k.id, k.high, k.window) ∧
      ((t.jrp.kept.any fun y => y.id == k.id) = false) ∧
      t.out.length = s.out.length + 1 ∧
      t.regs = s.regs) ∧
  (∀ (s : State) (h : JrpHdr) (p : JrpPeer) (r n : Nat) (qc : Option Nat) (ok : Bool) (x : JrpSession),
    s.jrpHears h = true →
    h.formOk = true →
    (s.jrp.peers.find? fun q => q.index == p.index && q.addr == h.src) = some p →
    (p.mode = 1 → (qc.isSome = true ∧ ok = true ∧ s.key.ops.isSome = true)) →
    (s.jrp.sessions.find? fun y => y.peer == p.index && y.nonce == n && decide (s.now ≤ y.opened + 5000000000)) = some x →
    ∃ t, exec (.jrpOpen h p.index r n qc ok) s = .next t ∧
      t = { s with out := .jrp h.port h.src h.sport x.reply :: s.out }) ∧
  (∀ (s : State) (h : JrpHdr) (p : JrpPeer) (r n : Nat) (qc : Option Nat) (ok : Bool),
    s.jrpHears h = true →
    h.formOk = true →
    (s.jrp.peers.find? fun q => q.index == p.index && q.addr == h.src) = some p →
    (p.mode = 1 → (qc.isSome = true ∧ ok = true ∧ s.key.ops.isSome = true)) →
    (s.jrp.sessions.find? fun y => y.peer == p.index && y.nonce == n && decide (s.now ≤ y.opened + 5000000000)) = none →
    (4 ≤ (s.jrp.sessions.filter fun y => y.peer == p.index).length ∨ 64 ≤ s.jrp.sessions.length) →
    ∃ t, exec (.jrpOpen h p.index r n qc ok) s = .next t ∧
      t = { s with out := .jrp h.port h.src h.sport ⟨2, s.use Reg.CHN.CFG_SYSNUM, false, false, 0, 0, s.get Reg.CHN.EPOCH, s.carriedClaim, 5, []⟩ :: s.out }) ∧
  (∀ (s : State) (h : JrpHdr),
    s.jrpHears h = false ∨ (h.formOk = true ∧ s.jrpSessionOf h = none) →
    ∃ t, exec (.close h) s = .next t ∧
      t = s) ∧
  (∀ (s : State) (h : JrpHdr) (x : JrpSession),
    s.jrpHears h = true →
    h.formOk = true →
    s.jrpSessionOf h = some x →
    x.hmac = true ∧ h.macOk = false →
    ∃ t, exec (.close h) s = .next t ∧
      (t = { s with jrp := (s.updSession x.id fun y => { y with counts := { y.counts with discards := y.counts.discards + 1 } }).jrp })) ∧
  (∀ (s : State) (h : JrpHdr) (x : JrpSession),
    s.jrpHears h = true →
    h.formOk = true →
    s.jrpSessionOf h = some x →
    (x.hmac = true → h.macOk = true) →
    ∃ t, exec (.close h) s = .next t ∧
      (t = { s with jrp := { s.jrp with sessions := s.jrp.sessions.filter (fun y => y.id != x.id), kept := s.jrp.kept ++ [⟨x.id, x.peer, x.high, x.window, x.queue, s.now⟩] } })) ∧
  (∀ (s : State) (x : JrpSession),
    s.jrpSession x.id = some x →
    x.last + 30000000000 ≤ s.now →
    ∃ t, exec (.sessionTimeout x.id) s = .next t ∧
      (t = { s with jrp := { s.jrp with sessions := s.jrp.sessions.filter (fun y => y.id != x.id), kept := s.jrp.kept ++ [⟨x.id, x.peer, x.high, x.window, x.queue, s.now⟩] } })) ∧
  (∀ (s : State) (n : Nat),
    ((s.jrpSession n).all fun x => decide (s.now < x.last + 30000000000)) = true →
    ∃ t, exec (.sessionTimeout n) s = .next t ∧
      t = s) ∧
  (∀ (s : State) (n : Nat),
    s.jrp.shadow = [] ∨ s.jrpActs = false ∨ s.now < s.jrp.takeover + 60000000000 →
    ∃ t, exec (.sessionRetainExpire n) s = .next t ∧
      (t = { s with jrp := { s.jrp with kept := s.jrp.kept.filter (fun k => !(k.id == n && decide (k.closed + 60000000000 ≤ s.now))) } })) ∧
  (∀ (s : State) (n : Nat),
    s.jrpActs = true →
    s.jrp.takeover + 60000000000 ≤ s.now →
    ∃ t, exec (.sessionRetainExpire n) s = .next t ∧
      (t.jrp.shadow = s.jrp.shadow.filter (fun y => y.session != n)) ∧
      t.jrp.sessions = s.jrp.sessions ∧
      t = { s with jrp := t.jrp }) ∧
  (∀ (s : State) (x : JrpSession) (n : JrpNote) (l : List JrpNote),
    s.jrpSession x.id = some x →
    (x.noted.any fun u => decide (s.now < u + 100000)) = false →
    x.gap = 0 →
    x.notes = n :: l →
    ∃ t, exec (.notifySend x.id) s = .next t ∧
      (t = { s with jrp := (s.updSession x.id fun y => { y with notes := l, noteSeq := (y.noteSeq + 1) % 2 ^ 32, noted := some s.now }).jrp, out := .jrp x.port x.src x.sport ⟨5, s.use Reg.CHN.CFG_SYSNUM, x.hmac, false, x.id, 0, s.get Reg.CHN.EPOCH, s.carriedClaim, 0, State.JrpNote.body x.noteSeq n⟩ :: s.out })) ∧
  (∀ (s : State) (x : JrpSession),
    s.jrpSession x.id = some x →
    (x.noted.any fun u => decide (s.now < u + 100000)) = false →
    x.gap ≠ 0 →
    ∃ t, exec (.notifySend x.id) s = .next t ∧
      (t = { s with jrp := (s.updSession x.id fun y => { y with gap := 0, noteSeq := (y.noteSeq + 1) % 2 ^ 32, noted := some s.now }).jrp, out := .jrp x.port x.src x.sport ⟨5, s.use Reg.CHN.CFG_SYSNUM, x.hmac, false, x.id, 0, s.get Reg.CHN.EPOCH, s.carriedClaim, 0, [5, x.noteSeq, x.gap]⟩ :: s.out })) ∧
  (∀ (s : State) (n : Nat),
    ((s.jrpSession n).all fun x => (x.noted.any fun u => decide (s.now < u + 100000)) || (x.gap == 0 && x.notes.isEmpty)) = true →
    ∃ t, exec (.notifySend n) s = .next t ∧
      t = s)

/-- JRP REQUESTs: what is judged before one is queued; NOP, stale table epochs, queries, subscriptions and ATTEST. Each of the
34 REQUESTs in a datagram that is not taken in is nothing; with an inconsistent form it is counted against the session it
names; in no session of its sender it is answered BAD_SESSION; with a bad MAC it is counted as discarded; for another system
number WRONG_TARGET; with an ID below the window TXID_OLD, counted; an ID that is queued, running or waits for its mirror is
counted and not answered, one that has its answer gets that again; none is carried out a second time. A fresh ID with 256
commands queued is answered BUSY, counted; an opcode that names no command BAD_PARAM; one whose right k (R591) the peer has
not NO_RIGHT, and one of class M in a session without HMAC too; outside a presence window it is answered NO_PRESENCE; before
the unit is in service NOT_READY, but for NOP, QUERY, SUBSCRIBE, UNSUBSCRIBE, ATTEST, UPD_STAGE, UPD_CONFIRM and class M.
One that passes enters its session's queue and window, and waits there while the session's credit is below the 500 µs of a
command. NOP is answered 0, takes 500 µs of the credit, and its ID enters the window. Under another table epoch a command
that names a handle is answered HANDLE_STALE, whatever the handle. QUERY of the event log answers its entries from a
sequence number on; of the state, the start step, the life cycle, lock of PTP, the loop, the claim and the offset of UTC; of
a route, a channel or a druse, its words; of the counts, none beyond the last; of no object, or of more than 64 registers,
BAD_PARAM; of registers, each with its response. SUBSCRIBE takes the first free number of the session; with 16 it is
refused. UNSUBSCRIBE ends it; of a number that is free it is refused. ATTEST answers the report over the nonce, without
identity its refusal. Rests on parts of R576, R577, R580, R581, R584, R585, R586, R587, R588, R591, R98, R593, R594, R596.
(24_control_protocol.md, 04_channels_druses.md) -/
def Obligations.JrpRefusals : Prop :=
  (∀ (s : State) (h : JrpHdr) (out src instant id druse i o gid minlead op e a b n : Nat) (known ok : Bool) (adds : SalvoAdds) (args desc : List Nat) (req : AppendReq) (words : List (Nat × Nat)) (sub : JrpSub) (bytes : List Byte) (rd : StageRead) (sg : Option Nat) (env : StartEnv) (cmd : Instr), cmd ∈ ([.nop h known, .jrpTake h out src instant, .jrpCancel h id, .jrpLock h out, .jrpUnlock h out, .jrpProtect h out, .jrpUnprotect h out, .dtake h druse i o instant, .salvoOpen h gid, .salvoAdd h gid adds, .salvoArm h gid instant minlead, .salvoCommit h gid, .salvoAbort h gid, .jrpCreate h args desc, .jrpDestroy h out, .jrpAppend h req, .jrpResolve h druse i o, .voice h op args, .layer h e op args, .micaSet h e words ok, .flintLoad h e a b, .cnvLoad h e a b args, .cnvSwap h e, .jrpXchg h, .query h a b n, .subscribe h sub, .unsubscribe h n, .jrpAttest h bytes, .updStage h op args bytes rd, .updConfirm h, .jrpUpdCommit h a b n env, .jrpLcChange h n, .jrpKeymsg h bytes sg, .forceClear h out] : List Instr) →
    s.jrpHears h = false →
    ∃ t, exec cmd s = .next t ∧
      t = s) ∧
  (∀ (s : State) (h : JrpHdr) (out src instant id druse i o gid minlead op e a b n : Nat) (known ok : Bool) (adds : SalvoAdds) (args desc : List Nat) (req : AppendReq) (words : List (Nat × Nat)) (sub : JrpSub) (bytes : List Byte) (rd : StageRead) (sg : Option Nat) (env : StartEnv) (cmd : Instr), cmd ∈ ([.nop h known, .jrpTake h out src instant, .jrpCancel h id, .jrpLock h out, .jrpUnlock h out, .jrpProtect h out, .jrpUnprotect h out, .dtake h druse i o instant, .salvoOpen h gid, .salvoAdd h gid adds, .salvoArm h gid instant minlead, .salvoCommit h gid, .salvoAbort h gid, .jrpCreate h args desc, .jrpDestroy h out, .jrpAppend h req, .jrpResolve h druse i o, .voice h op args, .layer h e op args, .micaSet h e words ok, .flintLoad h e a b, .cnvLoad h e a b args, .cnvSwap h e, .jrpXchg h, .query h a b n, .subscribe h sub, .unsubscribe h n, .jrpAttest h bytes, .updStage h op args bytes rd, .updConfirm h, .jrpUpdCommit h a b n env, .jrpLcChange h n, .jrpKeymsg h bytes sg, .forceClear h out] : List Instr) →
    s.jrpHears h = true →
    h.formOk = false →
    ∃ t, exec cmd s = .next t ∧
      (t = { s with jrp := (s.updSession h.session fun y => { y with counts := { y.counts with discards := y.counts.discards + 1 } }).jrp })) ∧
  (∀ (s : State) (h : JrpHdr) (out src instant id druse i o gid minlead op e a b n : Nat) (known ok : Bool) (adds : SalvoAdds) (args desc : List Nat) (req : AppendReq) (words : List (Nat × Nat)) (sub : JrpSub) (bytes : List Byte) (rd : StageRead) (sg : Option Nat) (env : StartEnv) (cmd : Instr), cmd ∈ ([.nop h known, .jrpTake h out src instant, .jrpCancel h id, .jrpLock h out, .jrpUnlock h out, .jrpProtect h out, .jrpUnprotect h out, .dtake h druse i o instant, .salvoOpen h gid, .salvoAdd h gid adds, .salvoArm h gid instant minlead, .salvoCommit h gid, .salvoAbort h gid, .jrpCreate h args desc, .jrpDestroy h out, .jrpAppend h req, .jrpResolve h druse i o, .voice h op args, .layer h e op args, .micaSet h e words ok, .flintLoad h e a b, .cnvLoad h e a b args, .cnvSwap h e, .jrpXchg h, .query h a b n, .subscribe h sub, .unsubscribe h n, .jrpAttest h bytes, .updStage h op args bytes rd, .updConfirm h, .jrpUpdCommit h a b n env, .jrpLcChange h n, .jrpKeymsg h bytes sg, .forceClear h out] : List Instr) →
    s.jrpHears h = true →
    h.formOk = true →
    s.jrpSessionOf h = none →
    ∃ t, exec cmd s = .next t ∧
      t = { s with out := .jrp h.port h.src h.sport ⟨4, s.use Reg.CHN.CFG_SYSNUM, false, false, h.session, h.txid, s.get Reg.CHN.EPOCH, s.carriedClaim, 34, [34, 0]⟩ :: s.out }) ∧
  (∀ (s : State) (h : JrpHdr) (x : JrpSession) (out src instant id druse i o gid minlead op e a b n : Nat) (known ok : Bool) (adds : SalvoAdds) (args desc : List Nat) (req : AppendReq) (words : List (Nat × Nat)) (sub : JrpSub) (bytes : List Byte) (rd : StageRead) (sg : Option Nat) (env : StartEnv) (cmd : Instr), cmd ∈ ([.nop h known, .jrpTake h out src instant, .jrpCancel h id, .jrpLock h out, .jrpUnlock h out, .jrpProtect h out, .jrpUnprotect h out, .dtake h druse i o instant, .salvoOpen h gid, .salvoAdd h gid adds, .salvoArm h gid instant minlead, .salvoCommit h gid, .salvoAbort h gid, .jrpCreate h args desc, .jrpDestroy h out, .jrpAppend h req, .jrpResolve h druse i o, .voice h op args, .layer h e op args, .micaSet h e words ok, .flintLoad h e a b, .cnvLoad h e a b args, .cnvSwap h e, .jrpXchg h, .query h a b n, .subscribe h sub, .unsubscribe h n, .jrpAttest h bytes, .updStage h op args bytes rd, .updConfirm h, .jrpUpdCommit h a b n env, .jrpLcChange h n, .jrpKeymsg h bytes sg, .forceClear h out] : List Instr) →
    s.jrpHears h = true →
    h.formOk = true →
    s.jrpSessionOf h = some x →
    x.hmac = true ∧ h.macOk = false →
    ∃ t, exec cmd s = .next t ∧
      (t = { s with jrp := (s.updSession x.id fun y => { y with counts := { y.counts with discards := y.counts.discards + 1 } }).jrp })) ∧
  (∀ (s : State) (h : JrpHdr) (x : JrpSession) (out src instant id druse i o gid minlead op e a b n : Nat) (known ok : Bool) (adds : SalvoAdds) (args desc : List Nat) (req : AppendReq) (words : List (Nat × Nat)) (sub : JrpSub) (bytes : List Byte) (rd : StageRead) (sg : Option Nat) (env : StartEnv) (cmd : Instr), cmd ∈ ([.nop h known, .jrpTake h out src instant, .jrpCancel h id, .jrpLock h out, .jrpUnlock h out, .jrpProtect h out, .jrpUnprotect h out, .dtake h druse i o instant, .salvoOpen h gid, .salvoAdd h gid adds, .salvoArm h gid instant minlead, .salvoCommit h gid, .salvoAbort h gid, .jrpCreate h args desc, .jrpDestroy h out, .jrpAppend h req, .jrpResolve h druse i o, .voice h op args, .layer h e op args, .micaSet h e words ok, .flintLoad h e a b, .cnvLoad h e a b args, .cnvSwap h e, .jrpXchg h, .query h a b n, .subscribe h sub, .unsubscribe h n, .jrpAttest h bytes, .updStage h op args bytes rd, .updConfirm h, .jrpUpdCommit h a b n env, .jrpLcChange h n, .jrpKeymsg h bytes sg, .forceClear h out] : List Instr) →
    s.jrpHears h = true →
    h.formOk = true →
    s.jrpSessionOf h = some x →
    (x.hmac = true → h.macOk = true) →
    s.ownSys h.target = false →
    ∃ t, exec cmd s = .next t ∧
      (t = { s with jrp := (s.updSession x.id fun y => { y with last := s.now }).jrp, out := .jrp x.port h.src h.sport ⟨4, s.use Reg.CHN.CFG_SYSNUM, x.hmac, false, x.id, h.txid, s.get Reg.CHN.EPOCH, s.carriedClaim, 36, [36, 0]⟩ :: s.out })) ∧
  (∀ (s : State) (h : JrpHdr) (x : JrpSession) (out src instant id druse i o gid minlead op e a b n : Nat) (known ok : Bool) (adds : SalvoAdds) (args desc : List Nat) (req : AppendReq) (words : List (Nat × Nat)) (sub : JrpSub) (bytes : List Byte) (rd : StageRead) (sg : Option Nat) (env : StartEnv) (cmd : Instr), cmd ∈ ([.nop h known, .jrpTake h out src instant, .jrpCancel h id, .jrpLock h out, .jrpUnlock h out, .jrpProtect h out, .jrpUnprotect h out, .dtake h druse i o instant, .salvoOpen h gid, .salvoAdd h gid adds, .salvoArm h gid instant minlead, .salvoCommit h gid, .salvoAbort h gid, .jrpCreate h args desc, .jrpDestroy h out, .jrpAppend h req, .jrpResolve h druse i o, .voice h op args, .layer h e op args, .micaSet h e words ok, .flintLoad h e a b, .cnvLoad h e a b args, .cnvSwap h e, .jrpXchg h, .query h a b n, .subscribe h sub, .unsubscribe h n, .jrpAttest h bytes, .updStage h op args bytes rd, .updConfirm h, .jrpUpdCommit h a b n env, .jrpLcChange h n, .jrpKeymsg h bytes sg, .forceClear h out] : List Instr) →
    s.jrpHears h = true →
    h.formOk = true →
    s.jrpSessionOf h = some x →
    (x.hmac = true → h.macOk = true) →
    s.ownSys h.target = true →
    State.txClass x h.txid = .old →
    ∃ t, exec cmd s = .next t ∧
      (t = { s with jrp := (s.updSession x.id fun y => { y with last := s.now, counts := { y.counts with old := y.counts.old + 1 } }).jrp, out := .jrp x.port h.src h.sport ⟨4, s.use Reg.CHN.CFG_SYSNUM, x.hmac, false, x.id, h.txid, s.get Reg.CHN.EPOCH, s.carriedClaim, 35, [35, 0]⟩ :: s.out })) ∧
  (∀ (s : State) (h : JrpHdr) (x : JrpSession) (out src instant id druse i o gid minlead op e a b n : Nat) (known ok : Bool) (adds : SalvoAdds) (args desc : List Nat) (req : AppendReq) (words : List (Nat × Nat)) (sub : JrpSub) (bytes : List Byte) (rd : StageRead) (sg : Option Nat) (env : StartEnv) (w : JrpEntry) (cmd : Instr), cmd ∈ ([.nop h known, .jrpTake h out src instant, .jrpCancel h id, .jrpLock h out, .jrpUnlock h out, .jrpProtect h out, .jrpUnprotect h out, .dtake h druse i o instant, .salvoOpen h gid, .salvoAdd h gid adds, .salvoArm h gid instant minlead, .salvoCommit h gid, .salvoAbort h gid, .jrpCreate h args desc, .jrpDestroy h out, .jrpAppend h req, .jrpResolve h druse i o, .voice h op args, .layer h e op args, .micaSet h e words ok, .flintLoad h e a b, .cnvLoad h e a b args, .cnvSwap h e, .jrpXchg h, .query h a b n, .subscribe h sub, .unsubscribe h n, .jrpAttest h bytes, .updStage h op args bytes rd, .updConfirm h, .jrpUpdCommit h a b n env, .jrpLcChange h n, .jrpKeymsg h bytes sg, .forceClear h out] : List Instr) →
    s.jrpHears h = true →
    h.formOk = true →
    s.jrpSessionOf h = some x →
    (x.hmac = true → h.macOk = true) →
    s.ownSys h.target = true →
    State.txClass x h.txid = .known w →
    (w.answer = none ∨ (s.jrp.held.any fun p => p.1 == x.id && p.2 == w.txid) = true) →
    ∃ t, exec cmd s = .next t ∧
      (t = { s with jrp := (s.updSession x.id fun y => { y with last := s.now, counts := { y.counts with repeats := y.counts.repeats + 1 } }).jrp })) ∧
  (∀ (s : State) (h : JrpHdr) (x : JrpSession) (out src instant id druse i o gid minlead op e a b n : Nat) (known ok : Bool) (adds : SalvoAdds) (args desc : List Nat) (req : AppendReq) (words : List (Nat × Nat)) (sub : JrpSub) (bytes : List Byte) (rd : StageRead) (sg : Option Nat) (env : StartEnv) (w : JrpEntry) (c : Nat) (l : List Nat) (cmd : Instr), cmd ∈ ([.nop h known, .jrpTake h out src instant, .jrpCancel h id, .jrpLock h out, .jrpUnlock h out, .jrpProtect h out, .jrpUnprotect h out, .dtake h druse i o instant, .salvoOpen h gid, .salvoAdd h gid adds, .salvoArm h gid instant minlead, .salvoCommit h gid, .salvoAbort h gid, .jrpCreate h args desc, .jrpDestroy h out, .jrpAppend h req, .jrpResolve h druse i o, .voice h op args, .layer h e op args, .micaSet h e words ok, .flintLoad h e a b, .cnvLoad h e a b args, .cnvSwap h e, .jrpXchg h, .query h a b n, .subscribe h sub, .unsubscribe h n, .jrpAttest h bytes, .updStage h op args bytes rd, .updConfirm h, .jrpUpdCommit h a b n env, .jrpLcChange h n, .jrpKeymsg h bytes sg, .forceClear h out] : List Instr) →
    s.jrpHears h = true →
    h.formOk = true →
    s.jrpSessionOf h = some x →
    (x.hmac = true → h.macOk = true) →
    s.ownSys h.target = true →
    State.txClass x h.txid = .known w →
    w.answer = some (c, l) →
    w.late = false →
    (s.jrp.held.any fun p => p.1 == x.id && p.2 == w.txid) = false →
    ∃ t, exec cmd s = .next t ∧
      (t = { s with jrp := (s.updSession x.id fun y => { y with last := s.now, counts := { y.counts with repeats := y.counts.repeats + 1 } }).jrp, out := .jrp x.port x.src x.sport ⟨4, s.use Reg.CHN.CFG_SYSNUM, x.hmac, false, x.id, w.txid, s.get Reg.CHN.EPOCH, s.carriedClaim, c, (c :: 0 :: l)⟩ :: s.out })) ∧
  (∀ (s : State) (h : JrpHdr) (x : JrpSession) (out src instant id druse i o gid minlead op e a b n : Nat) (known ok : Bool) (adds : SalvoAdds) (args desc : List Nat) (req : AppendReq) (words : List (Nat × Nat)) (sub : JrpSub) (bytes : List Byte) (rd : StageRead) (sg : Option Nat) (env : StartEnv) (cmd : Instr), cmd ∈ ([.nop h known, .jrpTake h out src instant, .jrpCancel h id, .jrpLock h out, .jrpUnlock h out, .jrpProtect h out, .jrpUnprotect h out, .dtake h druse i o instant, .salvoOpen h gid, .salvoAdd h gid adds, .salvoArm h gid instant minlead, .salvoCommit h gid, .salvoAbort h gid, .jrpCreate h args desc, .jrpDestroy h out, .jrpAppend h req, .jrpResolve h druse i o, .voice h op args, .layer h e op args, .micaSet h e words ok, .flintLoad h e a b, .cnvLoad h e a b args, .cnvSwap h e, .jrpXchg h, .query h a b n, .subscribe h sub, .unsubscribe h n, .jrpAttest h bytes, .updStage h op args bytes rd, .updConfirm h, .jrpUpdCommit h a b n env, .jrpLcChange h n, .jrpKeymsg h bytes sg, .forceClear h out] : List Instr) →
    s.jrpHears h = true →
    h.formOk = true →
    s.jrpSessionOf h = some x →
    (x.hmac = true → h.macOk = true) →
    s.ownSys h.target = true →
    State.txClass x h.txid = .fresh →
    256 ≤ x.queue.length →
    ∃ t, exec cmd s = .next t ∧
      (t = { s with jrp := (s.updSession x.id fun y => { y with last := s.now, counts := { y.counts with busy := y.counts.busy + 1 } }).jrp, out := .jrp x.port h.src h.sport ⟨4, s.use Reg.CHN.CFG_SYSNUM, x.hmac, false, x.id, h.txid, s.get Reg.CHN.EPOCH, s.carriedClaim, 1, [1, 0]⟩ :: s.out })) ∧
  (∀ (s : State) (h : JrpHdr) (x : JrpSession),
    s.jrpHears h = true →
    h.formOk = true →
    s.jrpSessionOf h = some x →
    (x.hmac = true → h.macOk = true) →
    s.ownSys h.target = true →
    State.txClass x h.txid = .fresh →
    x.queue.length < 256 →
    ∃ t, exec (.nop h false) s = .next t ∧
      (t = { s with jrp := (s.updSession x.id fun y => { y with last := s.now }).jrp, out := .jrp x.port h.src h.sport ⟨4, s.use Reg.CHN.CFG_SYSNUM, x.hmac, false, x.id, h.txid, s.get Reg.CHN.EPOCH, s.carriedClaim, 11, [11, 0]⟩ :: s.out })) ∧
  (∀ (s : State) (h : JrpHdr) (x : JrpSession) (out src instant id druse i o gid minlead op e a b n : Nat) (ok : Bool) (adds : SalvoAdds) (args desc : List Nat) (req : AppendReq) (words : List (Nat × Nat)) (sub : JrpSub) (bytes : List Byte) (rd : StageRead) (sg : Option Nat) (env : StartEnv) (k : Nat) (cmd : Instr), (cmd, k) ∈ ([(.jrpTake h out src instant, 0), (.jrpCancel h id, 0), (.jrpLock h out, 0), (.jrpUnlock h out, 0), (.jrpProtect h out, 0), (.jrpUnprotect h out, 0), (.dtake h druse i o instant, 0), (.salvoOpen h gid, 0), (.salvoAdd h gid adds, 0), (.salvoArm h gid instant minlead, 0), (.salvoCommit h gid, 0), (.salvoAbort h gid, 0), (.jrpCreate h args desc, 1), (.jrpDestroy h out, 1), (.jrpAppend h req, 1), (.jrpResolve h druse i o, 5), (.voice h op args, 1), (.layer h e op args, 1), (.micaSet h e words ok, 1), (.flintLoad h e a b, 2), (.cnvLoad h e a b args, 1), (.cnvSwap h e, 1), (.jrpXchg h, 3), (.query h a b n, 5), (.subscribe h sub, 5), (.unsubscribe h n, 5), (.jrpAttest h bytes, 5), (.updStage h op args bytes rd, 3), (.updConfirm h, 3), (.jrpUpdCommit h a b n env, 4), (.jrpLcChange h n, 4), (.jrpKeymsg h bytes sg, 4), (.forceClear h out, 4)] : List (Instr × Nat)) →
    s.jrpHears h = true →
    h.formOk = true →
    s.jrpSessionOf h = some x →
    (x.hmac = true → h.macOk = true) →
    s.ownSys h.target = true →
    State.txClass x h.txid = .fresh →
    x.queue.length < 256 →
    ((s.jrp.peers.find? fun p => p.index == x.peer).any fun p => bit p.rights k) = false →
    ∃ t, exec cmd s = .next t ∧
      (t = { s with jrp := (s.updSession x.id fun y => { y with last := s.now }).jrp, out := .jrp x.port h.src h.sport ⟨4, s.use Reg.CHN.CFG_SYSNUM, x.hmac, false, x.id, h.txid, s.get Reg.CHN.EPOCH, s.carriedClaim, 32, [32, 0]⟩ :: s.out })) ∧
  (∀ (s : State) (h : JrpHdr) (x : JrpSession) (out a b n : Nat) (bytes : List Byte) (sg : Option Nat) (env : StartEnv) (k : Nat) (cmd : Instr), (cmd, k) ∈ ([(.jrpUpdCommit h a b n env, 4), (.jrpLcChange h n, 4), (.jrpKeymsg h bytes sg, 4), (.forceClear h out, 4)] : List (Instr × Nat)) →
    s.jrpHears h = true →
    h.formOk = true →
    s.jrpSessionOf h = some x →
    (x.hmac = true → h.macOk = true) →
    s.ownSys h.target = true →
    State.txClass x h.txid = .fresh →
    x.queue.length < 256 →
    ((s.jrp.peers.find? fun p => p.index == x.peer).any fun p => bit p.rights k) = true →
    x.hmac = false ∨ s.windowOpen = false →
    ∃ t, exec cmd s = .next t ∧
      (t = { s with jrp := (s.updSession x.id fun y => { y with last := s.now }).jrp, out := .jrp x.port h.src h.sport ⟨4, s.use Reg.CHN.CFG_SYSNUM, x.hmac, false, x.id, h.txid, s.get Reg.CHN.EPOCH, s.carriedClaim, (if x.hmac then 28 else 32), [(if x.hmac then 28 else 32), 0]⟩ :: s.out })) ∧
  (∀ (s : State) (h : JrpHdr) (x : JrpSession) (out src instant id druse i o gid minlead op e a b : Nat) (ok : Bool) (adds : SalvoAdds) (args desc : List Nat) (req : AppendReq) (words : List (Nat × Nat)) (k : Nat) (cmd : Instr), (cmd, k) ∈ ([(.jrpTake h out src instant, 0), (.jrpCancel h id, 0), (.jrpLock h out, 0), (.jrpUnlock h out, 0), (.jrpProtect h out, 0), (.jrpUnprotect h out, 0), (.dtake h druse i o instant, 0), (.salvoOpen h gid, 0), (.salvoAdd h gid adds, 0), (.salvoArm h gid instant minlead, 0), (.salvoCommit h gid, 0), (.salvoAbort h gid, 0), (.jrpCreate h args desc, 1), (.jrpDestroy h out, 1), (.jrpAppend h req, 1), (.jrpResolve h druse i o, 5), (.voice h op args, 1), (.layer h e op args, 1), (.micaSet h e words ok, 1), (.flintLoad h e a b, 2), (.cnvLoad h e a b args, 1), (.cnvSwap h e, 1), (.jrpXchg h, 3)] : List (Instr × Nat)) →
    s.jrpHears h = true →
    h.formOk = true →
    s.jrpSessionOf h = some x →
    (x.hmac = true → h.macOk = true) →
    s.ownSys h.target = true →
    State.txClass x h.txid = .fresh →
    x.queue.length < 256 →
    ((s.jrp.peers.find? fun p => p.index == x.peer).any fun p => bit p.rights k) = true →
    s.get Reg.CFG.STAT_STEP ≠ 9 →
    ∃ t, exec cmd s = .next t ∧
      (t = { s with jrp := (s.updSession x.id fun y => { y with last := s.now }).jrp, out := .jrp x.port h.src h.sport ⟨4, s.use Reg.CHN.CFG_SYSNUM, x.hmac, false, x.id, h.txid, s.get Reg.CHN.EPOCH, s.carriedClaim, 33, [33, 0]⟩ :: s.out })) ∧
  (∀ (s : State) (h : JrpHdr) (x : JrpSession) (out src instant id druse i o gid minlead op e a b n : Nat) (ok : Bool) (adds : SalvoAdds) (args desc : List Nat) (req : AppendReq) (words : List (Nat × Nat)) (sub : JrpSub) (bytes : List Byte) (rd : StageRead) (k : Nat) (cmd : Instr), (cmd, k) ∈ ([(.jrpTake h out src instant, 0), (.jrpCancel h id, 0), (.jrpLock h out, 0), (.jrpUnlock h out, 0), (.jrpProtect h out, 0), (.jrpUnprotect h out, 0), (.dtake h druse i o instant, 0), (.salvoOpen h gid, 0), (.salvoAdd h gid adds, 0), (.salvoArm h gid instant minlead, 0), (.salvoCommit h gid, 0), (.salvoAbort h gid, 0), (.jrpCreate h args desc, 1), (.jrpDestroy h out, 1), (.jrpAppend h req, 1), (.jrpResolve h druse i o, 5), (.voice h op args, 1), (.layer h e op args, 1), (.micaSet h e words ok, 1), (.flintLoad h e a b, 2), (.cnvLoad h e a b args, 1), (.cnvSwap h e, 1), (.jrpXchg h, 3), (.query h a b n, 5), (.subscribe h sub, 5), (.unsubscribe h n, 5), (.jrpAttest h bytes, 5), (.updStage h op args bytes rd, 3), (.updConfirm h, 3)] : List (Instr × Nat)) →
    s.jrpHears h = true →
    h.formOk = true →
    s.jrpSessionOf h = some x →
    (x.hmac = true → h.macOk = true) →
    s.ownSys h.target = true →
    State.txClass x h.txid = .fresh →
    x.queue = [] →
    ((s.jrp.peers.find? fun p => p.index == x.peer).any fun p => bit p.rights k) = true →
    s.get Reg.CFG.STAT_STEP = 9 →
    s.jrp.sessions = [x] →
    s.jrp.running = [] →
    s.jrp.held = [] →
    s.jrpCredit x < 500000 →
    ∃ t, exec cmd s = .next t ∧
      ((t.jrp.sessions.map fun y => (y.id, y.last, y.high, y.queue.map fun q => (q.txid, q.epoch))) = [(x.id, s.now, (State.txWindow x h.txid).high, [(h.txid, h.epoch)])]) ∧
      t.out = s.out ∧
      t.regs = s.regs ∧
      t.fab = s.fab ∧
      t.chn = s.chn) ∧
  (∀ (s : State) (h : JrpHdr) (x : JrpSession),
    JrpReady h x (.nop) s →
    ∃ t, exec (.nop h true) s = .next t ∧
      Replied x h.txid 0 [0, 0] t ∧
      ((t.jrp.sessions.map fun y => (y.high, y.queue, y.credit)) = [((State.txWindow x h.txid).high, [], s.jrpCredit x - 500000)]) ∧
      t.regs = s.regs) ∧
  (∀ (s : State) (h : JrpHdr) (x : JrpSession) (out src instant druse i o gid op e a b : Nat) (ok : Bool) (adds : SalvoAdds) (args desc : List Nat) (req : AppendReq) (words : List (Nat × Nat)) (k : Nat) (cmd : Instr), (cmd, k) ∈ ([(.jrpTake h out src instant, 0), (.jrpLock h out, 0), (.jrpUnlock h out, 0), (.jrpProtect h out, 0), (.jrpUnprotect h out, 0), (.dtake h druse i o instant, 0), (.salvoAdd h gid adds, 0), (.jrpDestroy h out, 1), (.jrpAppend h req, 1), (.jrpResolve h druse i o, 5), (.layer h e op args, 1), (.micaSet h e words ok, 1), (.flintLoad h e a b, 2), (.cnvLoad h e a b args, 1), (.cnvSwap h e, 1)] : List (Instr × Nat)) →
    JrpReady { h with epoch := s.get Reg.CHN.EPOCH } x .nop s →
    ((s.jrp.peers.find? fun p => p.index == x.peer).any fun p => bit p.rights k) = true →
    h.epoch ≠ s.get Reg.CHN.EPOCH →
    s.get Reg.CHN.STAT_REQBUSY = 0 →
    s.get Reg.FAB.TESTAT_BUSY = 0 →
    s.get (Reg.MICA.LAYRES_BUSY (s.engineOf e 8).2) = 0 →
    desc = [] →
    bits (args.getD 0 0) 31 28 = 2 →
    ∃ t, exec cmd s = .next t ∧
      Replied x h.txid 3 [3, 0] t ∧
      t.fab = s.fab ∧
      t.mica = s.mica ∧
      t.cnv = s.cnv ∧
      t.chn.chans = s.chn.chans ∧
      t.chn.druses = s.chn.druses) ∧
  (∀ (s : State) (h : JrpHdr) (x : JrpSession) (a n : Nat) (l : List (List Nat)),
    JrpReady h x (.query 4 a n) s →
    l = (s.logRecords a).take n →
    l.length ≤ 44 →
    (l.all fun r => r.length == 8) = true →
    ∃ t, exec (.query h 4 a n) s = .next t ∧
      Replied x h.txid 0 (0 :: 0 :: l.flatten) t ∧
      t.regs = s.regs) ∧
  (∀ (s : State) (h : JrpHdr) (x : JrpSession) (a n : Nat),
    JrpReady h x (.query 6 a n) s →
    ∃ t, exec (.query h 6 a n) s = .next t ∧
      Replied x h.txid 0 [0, 0, 9, s.lcState, b2n s.time.ptp.locked, s.loopState, s.carriedClaim, s.utcNow] t ∧
      t.regs = s.regs) ∧
  (∀ (s : State) (h : JrpHdr) (x : JrpSession) (a i n : Nat),
    JrpReady h x (.query a i n) s →
    1 ≤ a →
    a ≤ 3 →
    i < 16384 →
    (a = 3 → i < 4096) →
    1 ≤ n →
    ∃ t, exec (.query h a i 1) s = .next t ∧
      (Replied x h.txid 0 (0 :: 0 :: (if a = 1 then s.wordsFrom (Reg.FAB.RT_CUR i).addr 8 else if a = 2 then s.wordsFrom (Reg.CHN.ENT_HANDLE i).addr 4 else s.wordsFrom (Reg.CHN.DRU_HANDLE i).addr 8)) t) ∧
      t.regs = s.regs) ∧
  (∀ (s : State) (h : JrpHdr) (x : JrpSession) (a n : Nat),
    JrpReady h x (.query 5 a n) s →
    s.statRecords.length ≤ a ∨ n = 0 →
    ∃ t, exec (.query h 5 a n) s = .next t ∧
      Replied x h.txid 0 [0, 0] t ∧
      t.regs = s.regs) ∧
  (∀ (s : State) (h : JrpHdr) (x : JrpSession) (p a n : Nat),
    JrpReady h x (.query p a n) s →
    p = 0 ∨ 8 ≤ p ∨ (p = 7 ∧ 64 < n) →
    ∃ t, exec (.query h p a n) s = .next t ∧
      Replied x h.txid 11 [11, 0] t ∧
      t.regs = s.regs) ∧
  (∀ (s : State) (h : JrpHdr) (x : JrpSession) (a i : Nat),
    JrpReady h x (.query 7 a 1) s →
    i < 16384 →
    a = (Reg.CHN.ENT_HANDLE i).addr →
    s.mgt.locks = [] →
    ∃ t, exec (.query h 7 a 1) s = .next t ∧
      Replied x h.txid 0 [0, 0, 0, (s.rd a).toNat] t ∧
      t.chn = s.chn) ∧
  (∀ (s : State) (h : JrpHdr) (x : JrpSession) (sub : JrpSub) (n : Nat),
    JrpReady h x (.subscribe sub) s →
    (List.range 16).find? (fun j => (Assoc.find x.subs j).isNone) = some n →
    ∃ t, exec (.subscribe h sub) s = .next t ∧
      Replied x h.txid 0 [0, 0, n] t ∧
      ((t.jrp.sessions.map fun y => y.subs) = [Assoc.put x.subs n sub]) ∧
      t.regs = s.regs) ∧
  (∀ (s : State) (h : JrpHdr) (x : JrpSession) (sub : JrpSub),
    JrpReady h x (.subscribe sub) s →
    (List.range 16).find? (fun j => (Assoc.find x.subs j).isNone) = none →
    ∃ t, exec (.subscribe h sub) s = .next t ∧
      Replied x h.txid 5 [5, 0, 0] t ∧
      ((t.jrp.sessions.map fun y => y.subs) = [x.subs]) ∧
      t.regs = s.regs) ∧
  (∀ (s : State) (h : JrpHdr) (x : JrpSession) (n : Nat),
    JrpReady h x (.unsubscribe n) s →
    (Assoc.find x.subs n).isSome = true →
    ∃ t, exec (.unsubscribe h n) s = .next t ∧
      Replied x h.txid 0 [0, 0, n] t ∧
      ((t.jrp.sessions.map fun y => y.subs) = [Assoc.del x.subs n]) ∧
      t.regs = s.regs) ∧
  (∀ (s : State) (h : JrpHdr) (x : JrpSession) (n : Nat),
    JrpReady h x (.unsubscribe n) s →
    (Assoc.find x.subs n).isSome = false →
    ∃ t, exec (.unsubscribe h n) s = .next t ∧
      Replied x h.txid 11 [11, 0, n] t ∧
      ((t.jrp.sessions.map fun y => y.subs) = [x.subs]) ∧
      t.regs = s.regs) ∧
  (∀ (s : State) (h : JrpHdr) (x : JrpSession) (nonce : List Byte) (c : Nat),
    JrpReady h x (.attest nonce) s →
    (c = (if s.get Reg.KEY.STAT_NOID = 1 then 30 else 0)) →
    ∃ t, exec (.jrpAttest h nonce) s = .next t ∧
      (t.out.head?.bind (jrpReply x)).map (fun a => (a.1, a.2.1)) = some (h.txid, c) ∧
      t.get Reg.KEY.RES_CODE = c ∧
      t.fuses = s.fuses ∧
      t.flash = s.flash)

/-- JRP: takes, cancels, locks, protects and final statuses. JRP_TAKE at once, or of a past instant, stands in the pending slot
for its peer; it is answered with the final status still to come, which is awaited. With a coming instant it is scheduled,
and answered with its ID. With no entry free, or one that fails a check of R120, it is refused with its code, and leaves the
takes as they were; with FAB off this and the commands below are refused DISABLED. JRP_CANCEL of a scheduled take completes
it CANCELLED; of one latched, or of another ID, it is refused. JRP_LOCK and JRP_PROTECT mark the output and its owner, the
peer; JRP_UNLOCK and JRP_UNPROTECT by the owner, or without the mark, clear it. On no output, or one that another peer or a
salvo of its holds, each of the four is refused. FORCE_CLEAR clears lock and protect, whoever owns them; of no output it is
refused. FINAL_STATUS takes a completion record: the awaited command has its status in the window, and its session is
notified; a salvo with takes still to complete keeps its first failure; one that nobody awaits is only taken. After an
overflow the firmware rebuilds its view first, and OVF is clear. With an empty queue it changes nothing. Rests on parts of
R131, R150, R580, R587, R588, R591. (05_takes_salvos.md, 24_control_protocol.md) -/
def Obligations.JrpTakes : Prop :=
  (∀ (s : State) (h : JrpHdr) (x : JrpSession) (out i : Nat) (src instant : Nat),
    JrpReady h x (.fab 1 [out, src, instant]) s →
    s.get Reg.FAB.TESTAT_BUSY = 0 →
    s.get Reg.FAB.CTRL_EN = 1 →
    x.peer < 255 →
    i = State.handleIdx out →
    out < 2 ^ 32 →
    src < 2 ^ 32 →
    instant < 2 ^ 64 →
    s.judgeTake out src (s.get Reg.CHN.EPOCH) (x.peer + 1) (src == 0) = 0 →
    instant ≤ s.timeNs →
    ∃ t, exec (.jrpTake h out src instant) s = .next t ∧
      Replied x h.txid 0 [0xFFFF, 0, 0, 0, 0] t ∧
      ((t.outTakes i).pend = some ⟨src, s.timeNs, x.peer + 1, 0, if instant = 0 then 0 else 16⟩) ∧
      t.get (Reg.FAB.RT_PENDV i) = 1 ∧
      t.get (Reg.FAB.RT_CUR i) = s.get (Reg.FAB.RT_CUR i) ∧
      ((t.jrp.awaits.drop s.jrp.awaits.length).map (fun w => (w.session, w.txid, w.left, w.status)) = [(x.id, h.txid, 1, none)])) ∧
  (∀ (s : State) (h : JrpHdr) (x : JrpSession) (out i : Nat) (src instant : Nat) (k : Nat),
    JrpReady h x (.fab 1 [out, src, instant]) s →
    s.get Reg.FAB.TESTAT_BUSY = 0 →
    s.get Reg.FAB.CTRL_EN = 1 →
    x.peer < 255 →
    i = State.handleIdx out →
    out < 2 ^ 32 →
    src < 2 ^ 32 →
    instant < 2 ^ 64 →
    s.judgeTake out src (s.get Reg.CHN.EPOCH) (x.peer + 1) (src == 0) = 0 →
    s.timeNs < instant →
    (List.range 4096).find? (fun j => Assoc.find s.fab.sched j == none) = some k →
    ∃ t, exec (.jrpTake h out src instant) s = .next t ∧
      Replied x h.txid 0 [0xFFFF, 0, s.schedId k % 65536, 0, 0] t ∧
      ((Assoc.find t.fab.sched k).map fun y => (y.out, y.instant, y.take.src, y.take.peer)) = some (i, instant, src, x.peer + 1) ∧
      t.get (Reg.FAB.RT_CUR i) = s.get (Reg.FAB.RT_CUR i) ∧
      ((t.jrp.awaits.drop s.jrp.awaits.length).map (fun w => (w.session, w.txid, w.left, w.status)) = [(x.id, h.txid, 1, none)])) ∧
  (∀ (s : State) (h : JrpHdr) (x : JrpSession) (out i : Nat) (src instant : Nat),
    JrpReady h x (.fab 1 [out, src, instant]) s →
    s.get Reg.FAB.TESTAT_BUSY = 0 →
    s.get Reg.FAB.CTRL_EN = 1 →
    x.peer < 255 →
    i = State.handleIdx out →
    out < 2 ^ 32 →
    src < 2 ^ 32 →
    instant < 2 ^ 64 →
    s.judgeTake out src (s.get Reg.CHN.EPOCH) (x.peer + 1) (src == 0) = 0 →
    s.timeNs < instant →
    (List.range 4096).find? (fun j => Assoc.find s.fab.sched j == none) = none →
    ∃ t, exec (.jrpTake h out src instant) s = .next t ∧
      Replied x h.txid 5 [5, 0, 0, 0, 0] t ∧
      t.fab = s.fab ∧
      t.jrp.awaits = s.jrp.awaits) ∧
  (∀ (s : State) (h : JrpHdr) (x : JrpSession) (out i : Nat) (src instant : Nat) (c : Nat),
    JrpReady h x (.fab 1 [out, src, instant]) s →
    s.get Reg.FAB.TESTAT_BUSY = 0 →
    s.get Reg.FAB.CTRL_EN = 1 →
    x.peer < 255 →
    i = State.handleIdx out →
    out < 2 ^ 32 →
    src < 2 ^ 32 →
    instant < 2 ^ 64 →
    c = s.judgeTake out src (s.get Reg.CHN.EPOCH) (x.peer + 1) (src == 0) →
    c ≠ 0 →
    ∃ t, exec (.jrpTake h out src instant) s = .next t ∧
      Replied x h.txid c [c, 0, 0, 0, 0] t ∧
      t.fab = s.fab ∧
      t.jrp.awaits = s.jrp.awaits) ∧
  (∀ (s : State) (h : JrpHdr) (x : JrpSession) (out id : Nat) (l : List Nat) (cmd : Instr), cmd ∈ ([.jrpCancel h id, .jrpLock h out, .jrpUnlock h out, .jrpProtect h out, .jrpUnprotect h out, .salvoOpen h id] : List Instr) →
    JrpReady h x .nop s →
    ((s.jrp.peers.find? fun p => p.index == x.peer).any fun p => bit p.rights 0) = true →
    s.get Reg.FAB.TESTAT_BUSY = 0 →
    s.get Reg.FAB.CTRL_EN = 0 →
    l = [16, 0] →
    ∃ t, exec cmd s = .next t ∧
      Replied x h.txid 16 l t ∧
      t.fab = s.fab) ∧
  (∀ (s : State) (h : JrpHdr) (x : JrpSession) (id k : Nat) (y : SchedTake),
    JrpReady h x (.fab 2 [id]) s →
    s.get Reg.FAB.TESTAT_BUSY = 0 →
    s.get Reg.FAB.CTRL_EN = 1 →
    x.peer < 255 →
    id < 65536 →
    k = id % 4096 →
    Assoc.find s.fab.sched k = some y →
    s.schedId k = id →
    y.latched = false →
    ∃ t, exec (.jrpCancel h id) s = .next t ∧
      Replied x h.txid 0 [0, 0] t ∧
      Assoc.find t.fab.sched k = none ∧
      (s.fab.tcq.length < 256 → (t.fab.tcq.getLast?.map fun c => c.code) = some 19)) ∧
  (∀ (s : State) (h : JrpHdr) (x : JrpSession) (id : Nat),
    JrpReady h x (.fab 2 [id]) s →
    s.get Reg.FAB.TESTAT_BUSY = 0 →
    s.get Reg.FAB.CTRL_EN = 1 →
    x.peer < 255 →
    id < 65536 →
    (Assoc.find s.fab.sched (id % 4096)).all (fun y => y.latched || s.schedId (id % 4096) != id) = true →
    s.prov.inverted = [] →
    ∃ t, exec (.jrpCancel h id) s = .next t ∧
      Replied x h.txid 11 [11, 0] t ∧
      t.fab = s.fab) ∧
  (∀ (s : State) (h : JrpHdr) (x : JrpSession) (out i : Nat),
    JrpReady h x (.fab 3 [out]) s →
    s.get Reg.FAB.TESTAT_BUSY = 0 →
    s.get Reg.FAB.CTRL_EN = 1 →
    x.peer < 255 →
    i = State.handleIdx out →
    out < 2 ^ 32 →
    s.judgeHandle out State.anyKind = 0 →
    State.outKinds.contains (State.handleKind out) = true →
    s.lockHeld i (x.peer + 1) = 0 →
    s.salvoHolds i (x.peer + 1) = false →
    ∃ t, exec (.jrpLock h out) s = .next t ∧
      Replied x h.txid 0 [0, 0] t ∧
      t.get (Reg.FAB.RT_LOCK i) = 1 ∧
      t.get (Reg.FAB.RT_OWNER i) = x.peer + 1) ∧
  (∀ (s : State) (h : JrpHdr) (x : JrpSession) (out i : Nat),
    JrpReady h x (.fab 5 [out]) s →
    s.get Reg.FAB.TESTAT_BUSY = 0 →
    s.get Reg.FAB.CTRL_EN = 1 →
    x.peer < 255 →
    i = State.handleIdx out →
    out < 2 ^ 32 →
    s.judgeHandle out State.anyKind = 0 →
    State.outKinds.contains (State.handleKind out) = true →
    s.lockHeld i (x.peer + 1) = 0 →
    s.salvoHolds i (x.peer + 1) = false →
    ∃ t, exec (.jrpProtect h out) s = .next t ∧
      Replied x h.txid 0 [0, 0] t ∧
      t.get (Reg.FAB.RT_PROTECT i) = 1 ∧
      t.get (Reg.FAB.RT_OWNER i) = x.peer + 1) ∧
  (∀ (s : State) (h : JrpHdr) (x : JrpSession) (out i : Nat),
    JrpReady h x (.fab 4 [out]) s →
    s.get Reg.FAB.TESTAT_BUSY = 0 →
    s.get Reg.FAB.CTRL_EN = 1 →
    x.peer < 255 →
    i = State.handleIdx out →
    out < 2 ^ 32 →
    s.judgeHandle out State.anyKind = 0 →
    State.outKinds.contains (State.handleKind out) = true →
    s.get (Reg.FAB.RT_OWNER i) = x.peer + 1 ∨ s.get (Reg.FAB.RT_LOCK i) = 0 →
    ∃ t, exec (.jrpUnlock h out) s = .next t ∧
      Replied x h.txid 0 [0, 0] t ∧
      t.get (Reg.FAB.RT_LOCK i) = 0) ∧
  (∀ (s : State) (h : JrpHdr) (x : JrpSession) (out i : Nat),
    JrpReady h x (.fab 6 [out]) s →
    s.get Reg.FAB.TESTAT_BUSY = 0 →
    s.get Reg.FAB.CTRL_EN = 1 →
    x.peer < 255 →
    i = State.handleIdx out →
    out < 2 ^ 32 →
    s.judgeHandle out State.anyKind = 0 →
    State.outKinds.contains (State.handleKind out) = true →
    s.get (Reg.FAB.RT_OWNER i) = x.peer + 1 ∨ s.get (Reg.FAB.RT_PROTECT i) = 0 →
    ∃ t, exec (.jrpUnprotect h out) s = .next t ∧
      Replied x h.txid 0 [0, 0] t ∧
      t.get (Reg.FAB.RT_PROTECT i) = 0) ∧
  (∀ (s : State) (h : JrpHdr) (x : JrpSession) (out i : Nat) (c : Nat),
    JrpReady h x (.fab 3 [out]) s →
    s.get Reg.FAB.TESTAT_BUSY = 0 →
    s.get Reg.FAB.CTRL_EN = 1 →
    x.peer < 255 →
    i = State.handleIdx out →
    out < 2 ^ 32 →
    (c = (if s.judgeHandle out State.anyKind ≠ 0 then s.judgeHandle out State.anyKind else if State.outKinds.contains (State.handleKind out) then (if s.lockHeld i (x.peer + 1) ≠ 0 then s.lockHeld i (x.peer + 1) else if s.salvoHolds i (x.peer + 1) then 13 else 0) else 4)) →
    c ≠ 0 →
    ∃ t, exec (.jrpLock h out) s = .next t ∧
      Replied x h.txid c [c, 0] t ∧
      t.fab = s.fab ∧
      t.rd (Reg.FAB.RT_LOCK i).addr = s.rd (Reg.FAB.RT_LOCK i).addr) ∧
  (∀ (s : State) (h : JrpHdr) (x : JrpSession) (out i : Nat) (c : Nat),
    JrpReady h x (.fab 5 [out]) s →
    s.get Reg.FAB.TESTAT_BUSY = 0 →
    s.get Reg.FAB.CTRL_EN = 1 →
    x.peer < 255 →
    i = State.handleIdx out →
    out < 2 ^ 32 →
    (c = (if s.judgeHandle out State.anyKind ≠ 0 then s.judgeHandle out State.anyKind else if State.outKinds.contains (State.handleKind out) then (if s.lockHeld i (x.peer + 1) ≠ 0 then s.lockHeld i (x.peer + 1) else if s.salvoHolds i (x.peer + 1) then 13 else 0) else 4)) →
    c ≠ 0 →
    ∃ t, exec (.jrpProtect h out) s = .next t ∧
      Replied x h.txid c [c, 0] t ∧
      t.fab = s.fab ∧
      t.rd (Reg.FAB.RT_LOCK i).addr = s.rd (Reg.FAB.RT_LOCK i).addr) ∧
  (∀ (s : State) (h : JrpHdr) (x : JrpSession) (out i : Nat) (c : Nat),
    JrpReady h x (.fab 4 [out]) s →
    s.get Reg.FAB.TESTAT_BUSY = 0 →
    s.get Reg.FAB.CTRL_EN = 1 →
    x.peer < 255 →
    i = State.handleIdx out →
    out < 2 ^ 32 →
    (c = (if s.judgeHandle out State.anyKind ≠ 0 then s.judgeHandle out State.anyKind else if State.outKinds.contains (State.handleKind out) then (if s.get (Reg.FAB.RT_LOCK i) = 1 ∧ s.get (Reg.FAB.RT_OWNER i) ≠ x.peer + 1 then 22 else 0) else 4)) →
    c ≠ 0 →
    ∃ t, exec (.jrpUnlock h out) s = .next t ∧
      Replied x h.txid c [c, 0] t ∧
      t.fab = s.fab ∧
      t.rd (Reg.FAB.RT_LOCK i).addr = s.rd (Reg.FAB.RT_LOCK i).addr) ∧
  (∀ (s : State) (h : JrpHdr) (x : JrpSession) (out i : Nat) (c : Nat),
    JrpReady h x (.fab 6 [out]) s →
    s.get Reg.FAB.TESTAT_BUSY = 0 →
    s.get Reg.FAB.CTRL_EN = 1 →
    x.peer < 255 →
    i = State.handleIdx out →
    out < 2 ^ 32 →
    (c = (if s.judgeHandle out State.anyKind ≠ 0 then s.judgeHandle out State.anyKind else if State.outKinds.contains (State.handleKind out) then (if s.get (Reg.FAB.RT_PROTECT i) = 1 ∧ s.get (Reg.FAB.RT_OWNER i) ≠ x.peer + 1 then 23 else 0) else 4)) →
    c ≠ 0 →
    ∃ t, exec (.jrpUnprotect h out) s = .next t ∧
      Replied x h.txid c [c, 0] t ∧
      t.fab = s.fab ∧
      t.rd (Reg.FAB.RT_LOCK i).addr = s.rd (Reg.FAB.RT_LOCK i).addr) ∧
  (∀ (s : State) (h : JrpHdr) (x : JrpSession) (out i : Nat),
    JrpReady h x (.forceClear out) s →
    i = State.handleIdx out →
    out < 2 ^ 32 →
    s.judgeHandle out State.anyKind = 0 →
    State.outKinds.contains (State.handleKind out) = true →
    i < 16384 →
    ∃ t, exec (.forceClear h out) s = .next t ∧
      Replied x h.txid 0 [0, 0] t ∧
      t.get (Reg.FAB.RT_LOCK i) = 0 ∧
      t.get (Reg.FAB.RT_PROTECT i) = 0 ∧
      t.get (Reg.FAB.RT_OWNER i) = 0) ∧
  (∀ (s : State) (h : JrpHdr) (x : JrpSession) (out c : Nat),
    JrpReady h x (.forceClear out) s →
    (c = (if s.judgeHandle out State.anyKind ≠ 0 then s.judgeHandle out State.anyKind else if State.outKinds.contains (State.handleKind out) then 0 else 4)) →
    c ≠ 0 →
    ∃ t, exec (.forceClear h out) s = .next t ∧
      Replied x h.txid c [c, 0] t ∧
      t.fab = s.fab ∧
      t.chn.chans = s.chn.chans) ∧
  (∀ (s : State) (x : JrpSession) (c : Completion) (l : List Completion) (w : JrpAwait) (e : JrpEntry),
    s.fab.tcq = c :: l →
    s.get Reg.FAB.TCQSTAT_OVF = 0 →
    s.jrp.awaits = [w] →
    State.JrpAwait.hit c w = true →
    w.left ≤ 1 →
    w.status = none →
    w.session = x.id →
    w.txid = e.txid →
    s.jrp.sessions = [x] →
    x.window = [e] →
    e.late = true →
    e.final = none →
    x.notes = [] →
    ∃ t, exec (.finalStatus) s = .next t ∧
      t.fab.tcq = l ∧
      t.jrp.awaits = [] ∧
      ((t.jrp.sessions.map fun y => (y.window, y.notes)) = [([{ e with final := some ⟨c.code, c.flags, c.epoch, c.tsw⟩ }], [.complete e.txid ⟨c.code, c.flags, c.epoch, c.tsw⟩])])) ∧
  (∀ (s : State) (c : Completion) (l : List Completion) (w : JrpAwait),
    s.fab.tcq = c :: l →
    s.get Reg.FAB.TCQSTAT_OVF = 0 →
    s.jrp.awaits = [w] →
    State.JrpAwait.hit c w = true →
    2 ≤ w.left →
    ∃ t, exec (.finalStatus) s = .next t ∧
      t.fab.tcq = l ∧
      ((t.jrp.awaits.map fun y => (y.left, y.status.map fun f => f.code)) = [(w.left - 1, some (match w.status with | some f => (if f.code = 0 then c.code else f.code) | none => c.code))]) ∧
      t.jrp.sessions = s.jrp.sessions) ∧
  (∀ (s : State) (c : Completion) (l : List Completion),
    s.fab.tcq = c :: l →
    s.get Reg.FAB.TCQSTAT_OVF = 0 →
    (s.jrp.awaits.any (State.JrpAwait.hit c)) = false →
    ∃ t, exec (.finalStatus) s = .next t ∧
      t.fab.tcq = l ∧
      t.jrp = s.jrp) ∧
  (∀ (s : State),
    s.get Reg.FAB.TCQSTAT_OVF = 1 →
    s.jrp.awaits = [] →
    ∃ t, exec (.finalStatus) s = .next t ∧
      t.get Reg.FAB.TCQSTAT_OVF = 0 ∧
      t.fab.tcq = s.fab.tcq.drop 1 ∧
      t.jrp = s.jrp) ∧
  (∀ (s : State),
    s.fab.tcq = [] →
    s.get Reg.FAB.TCQSTAT_OVF = 0 →
    ∃ t, exec (.finalStatus) s = .next t ∧
      t = s)

/-- JRP: the commands of a salvo. SALVO_OPEN of a new global ID takes a free local salvo; of a known one it changes nothing,
with none free it is refused. SALVO_ADD puts its takes at the end of the open salvo; to no salvo, or with none or above 176,
it is refused, and so it is to an armed or full one. SALVO_ARM of a salvo whose takes all pass holds it for its peer, with
its instant; one that fails a check is refused with its code and position, and discarded. SALVO_COMMIT of an armed salvo
fixes its instant; the completions of its takes are awaited. SALVO_ABORT discards it, and is refused once it is committed.
COMMIT of a salvo not armed is refused; each of the three of no salvo is refused. SALVO_ARM of a salvo with parts on other
chips only is sent to each, and runs until they answer; its COMMIT after the seed's own is OK, before it refused; its ABORT
goes to every part. Rests on parts of R139, R140, R141, R142, R143, R591. (05_takes_salvos.md, 24_control_protocol.md) -/
def Obligations.JrpSalvos : Prop :=
  (∀ (s : State) (h : JrpHdr) (x : JrpSession) (gid v : Nat),
    JrpReady h x (.salvo 7 gid 0 0) s →
    s.get Reg.FAB.TESTAT_BUSY = 0 →
    s.get Reg.FAB.CTRL_EN = 1 →
    x.peer < 255 →
    gid < 2 ^ 32 →
    (s.fab.salvos.find? fun p => p.2.gid == gid) = none →
    ((List.range 32).find? fun k => Assoc.find s.fab.salvos k == none) = some v →
    ∃ t, exec (.salvoOpen h gid) s = .next t ∧
      Replied x h.txid 0 [0, 0] t ∧
      (∃ y, Assoc.find t.fab.salvos v = some y ∧ y.gid = gid ∧ y.takes = [] ∧ y.armed = none)) ∧
  (∀ (s : State) (h : JrpHdr) (x : JrpSession) (gid c : Nat),
    JrpReady h x (.salvo 7 gid 0 0) s →
    s.get Reg.FAB.TESTAT_BUSY = 0 →
    s.get Reg.FAB.CTRL_EN = 1 →
    x.peer < 255 →
    gid < 2 ^ 32 →
    (c = (if (s.fab.salvos.find? fun p => p.2.gid == gid).isSome then 0 else if ((List.range 32).find? fun k => Assoc.find s.fab.salvos k == none) = none then 5 else 1)) →
    c ≠ 1 →
    ∃ t, exec (.salvoOpen h gid) s = .next t ∧
      Replied x h.txid c [c, 0] t ∧
      t.fab.salvos = s.fab.salvos) ∧
  (∀ (s : State) (h : JrpHdr) (x : JrpSession) (gid v : Nat) (y : Salvo) (out src : Nat),
    JrpReady h x (.salvoAdd gid none [(out, src)]) s →
    s.get Reg.FAB.TESTAT_BUSY = 0 →
    s.get Reg.FAB.CTRL_EN = 1 →
    x.peer < 255 →
    s.druseSalvo gid = none →
    s.salvoOf gid = some (v, y) →
    Assoc.find s.fab.salvos v = some y →
    v < 32 →
    y.armed = none →
    s.get Reg.FAB.SALV_TAKES < 8192 →
    y.takes.length < 1024 →
    out < 2 ^ 32 →
    src < 2 ^ 32 →
    ∃ t, exec (.salvoAdd h gid ⟨none, [(out, src)]⟩) s = .next t ∧
      Replied x h.txid 0 [0, 0] t ∧
      ((Assoc.find t.fab.salvos v).map fun z => z.takes.map fun u => (u.out, u.src)) = some (y.takes.map (fun u => (u.out, u.src)) ++ [(out, src)])) ∧
  (∀ (s : State) (h : JrpHdr) (x : JrpSession) (gid : Nat) (y : SalvoAdds),
    JrpReady h x (.salvoAdd gid y.druse y.takes) s →
    s.get Reg.FAB.TESTAT_BUSY = 0 →
    s.get Reg.CHN.STAT_REQBUSY = 0 →
    s.salvoOf gid = none ∨ y.takes = [] ∨ 176 < y.takes.length →
    ∃ t, exec (.salvoAdd h gid y) s = .next t ∧
      Replied x h.txid 11 [11, 0] t ∧
      t.fab = s.fab ∧
      t.chn = s.chn) ∧
  (∀ (s : State) (h : JrpHdr) (x : JrpSession) (gid v : Nat) (y : Salvo) (out src c : Nat),
    JrpReady h x (.salvoAdd gid none [(out, src)]) s →
    s.get Reg.FAB.TESTAT_BUSY = 0 →
    s.get Reg.FAB.CTRL_EN = 1 →
    x.peer < 255 →
    s.druseSalvo gid = none →
    s.salvoOf gid = some (v, y) →
    Assoc.find s.fab.salvos v = some y →
    v < 32 →
    (c = (if y.armed.isSome then 11 else if 8192 ≤ s.get Reg.FAB.SALV_TAKES ∨ 1024 ≤ y.takes.length then 5 else 0)) →
    c ≠ 0 →
    ∃ t, exec (.salvoAdd h gid ⟨none, [(out, src)]⟩) s = .next t ∧
      Replied x h.txid c [c, 0] t ∧
      t.fab = s.fab) ∧
  (∀ (s : State) (h : JrpHdr) (x : JrpSession) (gid v : Nat) (y : Salvo) (instant ml : Nat),
    JrpReady h x (.salvo 9 gid instant ml) s →
    s.get Reg.FAB.TESTAT_BUSY = 0 →
    s.get Reg.FAB.CTRL_EN = 1 →
    x.peer < 255 →
    s.druseSalvo gid = none →
    s.salvoOf gid = some (v, y) →
    Assoc.find s.fab.salvos v = some y →
    v < 32 →
    y.armed = none →
    s.judgeSalvo v (x.peer + 1) y = (0, 0) →
    instant < 2 ^ 64 →
    ∃ t, exec (.salvoArm h gid instant ml) s = .next t ∧
      Replied x h.txid 0 [0, 0, 0] t ∧
      Assoc.find t.fab.salvos v = some { y with peer := x.peer + 1, armed := some (instant, s.timeNs) }) ∧
  (∀ (s : State) (h : JrpHdr) (x : JrpSession) (gid v : Nat) (y : Salvo) (instant ml : Nat) (q : Nat × Nat),
    JrpReady h x (.salvo 9 gid instant ml) s →
    s.get Reg.FAB.TESTAT_BUSY = 0 →
    s.get Reg.FAB.CTRL_EN = 1 →
    x.peer < 255 →
    s.druseSalvo gid = none →
    s.salvoOf gid = some (v, y) →
    Assoc.find s.fab.salvos v = some y →
    v < 32 →
    y.armed = none →
    s.judgeSalvo v (x.peer + 1) y = q →
    q.1 ≠ 0 →
    q.1 < 32 →
    q.2 < 2048 →
    ∃ t, exec (.salvoArm h gid 0 0) s = .next t ∧
      Replied x h.txid q.1 [q.1, 0, q.2] t ∧
      Assoc.find t.fab.salvos v = none) ∧
  (∀ (s : State) (h : JrpHdr) (x : JrpSession) (gid v : Nat) (y : Salvo) (a : Nat × Nat),
    JrpReady h x (.salvo 10 gid 0 0) s →
    s.get Reg.FAB.TESTAT_BUSY = 0 →
    s.get Reg.FAB.CTRL_EN = 1 →
    x.peer < 255 →
    s.druseSalvo gid = none →
    s.salvoOf gid = some (v, y) →
    Assoc.find s.fab.salvos v = some y →
    v < 32 →
    y.armed = some a →
    y.committed = none →
    ∃ t, exec (.salvoCommit h gid) s = .next t ∧
      Replied x h.txid 0 [0xFFFF, 0] t ∧
      ((Assoc.find t.fab.salvos v).map fun z => z.committed) = some (some (if a.1 = 0 then s.timeNs else a.1, s.timeNs)) ∧
      ((t.jrp.awaits.drop s.jrp.awaits.length).map (fun w => (w.session, w.txid, w.left, w.status)) = [(x.id, h.txid, (y.takes.filter fun t => !t.done).length, none)])) ∧
  (∀ (s : State) (h : JrpHdr) (x : JrpSession) (gid v : Nat) (y : Salvo),
    JrpReady h x (.salvo 11 gid 0 0) s →
    s.get Reg.FAB.TESTAT_BUSY = 0 →
    s.get Reg.FAB.CTRL_EN = 1 →
    x.peer < 255 →
    s.druseSalvo gid = none →
    s.salvoOf gid = some (v, y) →
    Assoc.find s.fab.salvos v = some y →
    v < 32 →
    y.committed = none →
    ∃ t, exec (.salvoAbort h gid) s = .next t ∧
      Replied x h.txid 0 [0, 0] t ∧
      Assoc.find t.fab.salvos v = none) ∧
  (∀ (s : State) (h : JrpHdr) (x : JrpSession) (gid v : Nat) (y : Salvo),
    JrpReady h x (.salvo 11 gid 0 0) s →
    s.get Reg.FAB.TESTAT_BUSY = 0 →
    s.get Reg.FAB.CTRL_EN = 1 →
    x.peer < 255 →
    s.druseSalvo gid = none →
    s.salvoOf gid = some (v, y) →
    Assoc.find s.fab.salvos v = some y →
    v < 32 →
    y.committed.isSome = true →
    ∃ t, exec (.salvoAbort h gid) s = .next t ∧
      Replied x h.txid 25 [25, 0] t ∧
      t.fab = s.fab) ∧
  (∀ (s : State) (h : JrpHdr) (x : JrpSession) (gid v : Nat) (y : Salvo),
    JrpReady h x (.salvo 10 gid 0 0) s →
    s.get Reg.FAB.TESTAT_BUSY = 0 →
    s.get Reg.FAB.CTRL_EN = 1 →
    x.peer < 255 →
    s.druseSalvo gid = none →
    s.salvoOf gid = some (v, y) →
    Assoc.find s.fab.salvos v = some y →
    v < 32 →
    y.armed = none →
    ∃ t, exec (.salvoCommit h gid) s = .next t ∧
      Replied x h.txid 25 [25, 0] t ∧
      t.fab = s.fab) ∧
  (∀ (s : State) (h : JrpHdr) (x : JrpSession) (gid instant ml : Nat) (k : Nat) (cmd : Instr), (cmd, k) ∈ ([(.salvoArm h gid instant ml, 11), (.salvoCommit h gid, 25), (.salvoAbort h gid, 25)] : List (Instr × Nat)) →
    JrpReady h x .nop s →
    ((s.jrp.peers.find? fun p => p.index == x.peer).any fun p => bit p.rights 0) = true →
    s.get Reg.FAB.TESTAT_BUSY = 0 →
    s.druseSalvo gid = none →
    s.salvoOf gid = none →
    ∃ t, exec cmd s = .next t ∧
      Replied x h.txid k [k, 0] t ∧
      t.fab = s.fab ∧
      t.jrp.salvos = s.jrp.salvos) ∧
  (∀ (s : State) (h : JrpHdr) (x : JrpSession) (gid : Nat) (y : DruseSalvo) (instant ml : Nat),
    JrpReady h x (.salvo 9 gid instant ml) s →
    s.get Reg.FAB.TESTAT_BUSY = 0 →
    s.salvoOf gid = none →
    s.druseSalvo gid = some y →
    y.gid = gid →
    y.phase = 0 →
    ∃ t, exec (.salvoArm h gid instant ml) s = .next t ∧
      (t.out = (y.parts.reverse.map fun p => Output.part p.sys 9 gid [] instant ml) ++ s.out) ∧
      ((t.jrp.salvos.filter fun z => z.gid == gid) = [{ y with session := x.id, txid := h.txid, instant := instant, minlead := ml, phase := 1, sent := s.now }]) ∧
      ((t.jrp.running.map fun p => (p.1, p.2.txid)) = [(x.id, h.txid)]) ∧
      t.fab = s.fab) ∧
  (∀ (s : State) (h : JrpHdr) (x : JrpSession) (gid : Nat) (y : DruseSalvo) (c : Nat),
    JrpReady h x (.salvo 10 gid 0 0) s →
    s.get Reg.FAB.TESTAT_BUSY = 0 →
    s.druseSalvo gid = some y →
    y.gid = gid →
    (c = (if y.phase = 2 then 0 else 25)) →
    ∃ t, exec (.salvoCommit h gid) s = .next t ∧
      Replied x h.txid c [c, 0] t ∧
      t.fab = s.fab ∧
      t.jrp.salvos = s.jrp.salvos) ∧
  (∀ (s : State) (h : JrpHdr) (x : JrpSession) (gid : Nat) (y : DruseSalvo),
    JrpReady h x (.salvo 11 gid 0 0) s →
    s.get Reg.FAB.TESTAT_BUSY = 0 →
    s.salvoOf gid = none →
    s.druseSalvo gid = some y →
    y.gid = gid →
    y.phase ≤ 1 →
    ∃ t, exec (.salvoAbort h gid) s = .next t ∧
      Replied x h.txid 0 [0, 0] t ∧
      (t.out.drop 1 = (y.parts.reverse.map fun p => Output.part p.sys 11 gid [] y.instant y.minlead) ++ s.out) ∧
      ((t.jrp.salvos.filter fun z => z.gid == gid) = [{ y with phase := 3 }]) ∧
      t.fab = s.fab)

/-- JRP: DTAKE resolves two positions of a druse, and a take on another chip is forwarded and answered. DTAKE resolves both
positions; on members of this chip the take is carried out here, with the results of a JRP_TAKE. On members of another chip
it is forwarded there, and runs until that answers; on members of two chips it is refused NO_PATH (15). A position that does
not resolve, or no druse, is answered with its code. MEMBER_ANSWER answers the command with the ID of the member, its final
status still to come; a first HANDLE_STALE forwards it once more; any other refusal is answered as it is. Its later answer
with the final status is relayed as that. DRUSE_FORWARD_TIMEOUT, 50 ms after the command was sent, answers TIMEOUT, and the
command is sent again under its ID; before, or of no command that was sent, it is nothing. Rests on parts of R108, R112,
R113, R593, R143, R587. (04_channels_druses.md, 24_control_protocol.md, 05_takes_salvos.md) -/
def Obligations.JrpDruseTakes : Prop :=
  (∀ (s : State) (h : JrpHdr) (x : JrpSession) (druse ip op instant sys src out : Nat),
    JrpReady h x (.dtake druse ip op instant) s →
    druse < 2 ^ 32 →
    ip < 2 ^ 32 →
    op < 2 ^ 32 →
    s.get Reg.FAB.TESTAT_BUSY = 0 →
    s.get Reg.CHN.STAT_REQBUSY = 0 →
    s.get Reg.CHN.CTRL_EN = 1 →
    s.judgeHandle druse [10] = 0 →
    s.get Reg.FAB.CTRL_EN = 1 →
    x.peer < 255 →
    s.resolvePos false 4097 (s.membersOf (s.druseOf druse)) ip = (0, sys, some src) →
    s.resolvePos true 4097 (s.membersOf (s.druseOf druse)) op = (0, sys, some out) →
    s.ownSys sys = true →
    sys < 2 ^ 18 →
    src < 2 ^ 32 →
    out < 2 ^ 32 →
    src ≠ 0 →
    s.judgeTake out src (s.get Reg.CHN.EPOCH) (x.peer + 1) false = 0 →
    instant ≤ s.timeNs →
    (s.forwardOf x.id h.txid) = none →
    ∃ t, exec (.dtake h druse ip op instant) s = .next t ∧
      Replied x h.txid 0 [0xFFFF, 0, 0, 0, 0] t ∧
      ((t.outTakes (State.handleIdx out)).pend = some ⟨src, s.timeNs, x.peer + 1, 0, if instant = 0 then 0 else 16⟩) ∧
      ((t.jrp.awaits.drop s.jrp.awaits.length).map (fun w => (w.session, w.txid, w.left, w.status)) = [(x.id, h.txid, 1, none)])) ∧
  (∀ (s : State) (h : JrpHdr) (x : JrpSession) (druse ip op instant sys src out : Nat) (c : Nat),
    JrpReady h x (.dtake druse ip op instant) s →
    druse < 2 ^ 32 →
    ip < 2 ^ 32 →
    op < 2 ^ 32 →
    s.get Reg.FAB.TESTAT_BUSY = 0 →
    s.get Reg.CHN.STAT_REQBUSY = 0 →
    s.get Reg.CHN.CTRL_EN = 1 →
    s.judgeHandle druse [10] = 0 →
    s.get Reg.FAB.CTRL_EN = 1 →
    x.peer < 255 →
    s.resolvePos false 4097 (s.membersOf (s.druseOf druse)) ip = (0, sys, some src) →
    s.resolvePos true 4097 (s.membersOf (s.druseOf druse)) op = (0, sys, some out) →
    s.ownSys sys = true →
    sys < 2 ^ 18 →
    src < 2 ^ 32 →
    out < 2 ^ 32 →
    src ≠ 0 →
    instant < 2 ^ 64 →
    c = s.judgeTake out src (s.get Reg.CHN.EPOCH) (x.peer + 1) false →
    c ≠ 0 →
    ∃ t, exec (.dtake h druse ip op instant) s = .next t ∧
      Replied x h.txid c [c, 0, 0, 0, 0] t ∧
      t.fab = s.fab) ∧
  (∀ (s : State) (h : JrpHdr) (x : JrpSession) (druse ip op instant sys src out : Nat),
    JrpReady h x (.dtake druse ip op instant) s →
    druse < 2 ^ 32 →
    ip < 2 ^ 32 →
    op < 2 ^ 32 →
    s.get Reg.FAB.TESTAT_BUSY = 0 →
    s.get Reg.CHN.STAT_REQBUSY = 0 →
    s.get Reg.CHN.CTRL_EN = 1 →
    s.judgeHandle druse [10] = 0 →
    s.resolvePos false 4097 (s.membersOf (s.druseOf druse)) ip = (0, sys, some src) →
    s.resolvePos true 4097 (s.membersOf (s.druseOf druse)) op = (0, sys, some out) →
    s.ownSys sys = false →
    sys < 2 ^ 18 →
    src < 2 ^ 32 →
    out < 2 ^ 32 →
    ∃ t, exec (.dtake h druse ip op instant) s = .next t ∧
      t.jrp.forwards = [⟨x.id, h.txid, sys, out, src, instant, false, s.now⟩] ∧
      t.out = .forward sys out src instant x.id h.txid :: s.out ∧
      ((t.jrp.running.map fun p => (p.1, p.2.txid)) = [(x.id, h.txid)]) ∧
      t.fab = s.fab) ∧
  (∀ (s : State) (h : JrpHdr) (x : JrpSession) (druse ip op instant sys sys2 src out : Nat),
    JrpReady h x (.dtake druse ip op instant) s →
    druse < 2 ^ 32 →
    ip < 2 ^ 32 →
    op < 2 ^ 32 →
    s.get Reg.FAB.TESTAT_BUSY = 0 →
    s.get Reg.CHN.STAT_REQBUSY = 0 →
    s.get Reg.CHN.CTRL_EN = 1 →
    s.judgeHandle druse [10] = 0 →
    s.resolvePos false 4097 (s.membersOf (s.druseOf druse)) ip = (0, sys, some src) →
    s.resolvePos true 4097 (s.membersOf (s.druseOf druse)) op = (0, sys2, some out) →
    sys ≠ sys2 →
    sys < 2 ^ 18 →
    sys2 < 2 ^ 18 →
    src < 2 ^ 32 →
    out < 2 ^ 32 →
    ∃ t, exec (.dtake h druse ip op instant) s = .next t ∧
      Replied x h.txid 15 [15, 0, 0, 0, 0] t ∧
      t.fab = s.fab ∧
      t.out.length = s.out.length + 1) ∧
  (∀ (s : State) (h : JrpHdr) (x : JrpSession) (druse ip op instant : Nat) (c : Nat),
    JrpReady h x (.dtake druse ip op instant) s →
    druse < 2 ^ 32 →
    ip < 2 ^ 32 →
    op < 2 ^ 32 →
    s.get Reg.FAB.TESTAT_BUSY = 0 →
    s.get Reg.CHN.STAT_REQBUSY = 0 →
    (c = (if s.get Reg.CHN.CTRL_EN = 0 then 16 else if s.judgeHandle druse [10] ≠ 0 then s.judgeHandle druse [10] else (s.resolvePos false 4097 (s.membersOf (s.druseOf druse)) ip).1)) →
    c ≠ 0 →
    ∃ t, exec (.dtake h druse ip op instant) s = .next t ∧
      Replied x h.txid c [c, 0, 0, 0, 0] t ∧
      t.fab = s.fab ∧
      t.chn.druses = s.chn.druses) ∧
  (∀ (s : State) (x : JrpSession) (q : JrpQueued) (f : JrpForward) (sys id ep sw : Nat),
    s.jrp.sessions = [x] →
    s.jrp.salvos = [] →
    x.queue = [] →
    s.jrp.held = [] →
    s.twin.mirror = [] →
    s.jrp.forwards = [f] →
    f.session = x.id →
    f.txid = q.txid →
    s.jrp.running = [(x.id, q)] →
    s.jrpEnded q.cmd = none →
    (x.window.map fun e => e.txid) = [q.txid] →
    ∃ t, exec (.memberAnswer x.id q.txid 0 ⟨sys, [id, ep, sw], none⟩) s = .next t ∧
      Replied x q.txid 0 [0xFFFF, 0, id, 0, 0] t ∧
      t.jrp.forwards = [] ∧
      t.jrp.running = [] ∧
      t.regs = s.regs) ∧
  (∀ (s : State) (x : JrpSession) (q : JrpQueued) (f : JrpForward) (sys id ep sw : Nat),
    s.jrp.sessions = [x] →
    s.jrp.salvos = [] →
    x.queue = [] →
    s.jrp.held = [] →
    s.twin.mirror = [] →
    s.jrp.forwards = [f] →
    f.session = x.id →
    f.txid = q.txid →
    s.jrp.running = [(x.id, q)] →
    s.jrpEnded q.cmd = none →
    (x.window.map fun e => e.txid) = [q.txid] →
    f.again = false →
    ∃ t, exec (.memberAnswer x.id q.txid 3 ⟨sys, [id, ep, sw], none⟩) s = .next t ∧
      t.jrp.forwards = [{ f with again := true, sent := s.now }] ∧
      t.out = .forward f.sys f.out f.src f.instant f.session f.txid :: s.out ∧
      t.jrp.running = s.jrp.running ∧
      t.regs = s.regs) ∧
  (∀ (s : State) (x : JrpSession) (q : JrpQueued) (f : JrpForward) (sys id ep sw c : Nat),
    s.jrp.sessions = [x] →
    s.jrp.salvos = [] →
    x.queue = [] →
    s.jrp.held = [] →
    s.twin.mirror = [] →
    s.jrp.forwards = [f] →
    f.session = x.id →
    f.txid = q.txid →
    s.jrp.running = [(x.id, q)] →
    s.jrpEnded q.cmd = none →
    (x.window.map fun e => e.txid) = [q.txid] →
    c ≠ 0 →
    (c = 3 → f.again = true) →
    ∃ t, exec (.memberAnswer x.id q.txid c ⟨sys, [id, ep, sw], none⟩) s = .next t ∧
      Replied x q.txid c [c, 0, 0, 0, 0] t ∧
      t.jrp.forwards = [] ∧
      t.jrp.running = [] ∧
      t.regs = s.regs) ∧
  (∀ (s : State) (x : JrpSession) (e : JrpEntry) (sys id ep sw c : Nat),
    s.jrp.salvos = [] →
    s.jrp.forwards = [] →
    s.jrp.awaits = [] →
    s.jrp.sessions = [x] →
    s.jrp.kept = [] →
    s.jrp.shadow = [] →
    x.window = [e] →
    e.late = true →
    e.final = none →
    x.notes = [] →
    ∃ t, exec (.memberAnswer x.id e.txid c ⟨sys, [id, ep, sw], none⟩) s = .next t ∧
      ((t.jrp.sessions.map fun y => (y.window, y.notes)) = [([{ e with final := some ⟨c, 0, ep, sw⟩ }], [.complete e.txid ⟨c, 0, ep, sw⟩])]) ∧
      t.regs = s.regs) ∧
  (∀ (s : State) (x : JrpSession) (q : JrpQueued) (f : JrpForward),
    s.jrp.sessions = [x] →
    s.jrp.salvos = [] →
    x.queue = [] →
    s.jrp.held = [] →
    s.twin.mirror = [] →
    s.jrp.forwards = [f] →
    f.session = x.id →
    f.txid = q.txid →
    s.jrp.running = [(x.id, q)] →
    s.jrpEnded q.cmd = none →
    (x.window.map fun e => e.txid) = [q.txid] →
    f.sent + 50000000 ≤ s.now →
    ∃ t, exec (.druseForwardTimeout x.id q.txid) s = .next t ∧
      t.out.drop 1 = .forward f.sys f.out f.src f.instant f.session f.txid :: s.out ∧
      Replied x q.txid 18 [18, 0, 0, 0, 0] t ∧
      t.jrp.running = [] ∧
      t.jrp.forwards = [{ f with sent := s.now }] ∧
      t.regs = s.regs) ∧
  (∀ (s : State) (n k : Nat),
    (s.jrp.salvos.all fun y => !(y.phase == 1 && y.session == n && y.txid == k) || decide (s.now < y.sent + 50000000)) = true →
    ((s.forwardOf n k).all fun f => decide (s.now < f.sent + 50000000)) = true →
    ∃ t, exec (.druseForwardTimeout n k) s = .next t ∧
      t = s)

/-- JRP commands on channels, voices, layers, flint, converters and druses. JRP_CREATE of a channel of any kind that passes its
checks and waits for nothing takes a free index, and its answer carries the handle; one that waits for its PLL runs, and is
answered when it is done; one refused is answered with its code. JRP_DESTROY of one not in use leaves it DYING; another is
refused. JRP_APPEND of a lane, a channel or a druse of this chip puts it at the end of the druse; of a druse of another chip
it is claimed there, and runs until that answers; one refused is answered with its code. As the claim of another chip it
gives the druse its parent, and answers handle and ranges; a druse marked (BUSY), above it in the chain (CYCLE) or with a
parent (IN_USE) keeps what it has. JRP_RESOLVE answers system number and handle of the channel at a position of a druse, or
the code of one that does not resolve. VOICE with SOURCE and COUPLE change its voice at a block boundary; GAIN, MUTE and
XFMODE set its gain, its mute and its cut; one refused is answered with its code. LAYER with BIND binds a layer of the
engine to a source, with REBIND to another, and with UNBIND clears it, and its decimator leaves; one refused is answered
with its code. With a handle that is no engine's LAYER, MICA_SET and FLINT_LOAD are refused with its code, and with one that
is no converter's CNV_LOAD and CNV_SWAP. MICA_SET puts its values, the background and words of layers, into the next set of
the engine; with another offset it is refused. With its COMMIT the set becomes pending; one that fails its checks sets CERR
with its reason. FLINT_LOAD makes a load of its address and checksum pending; while one is pending none is. CNV_LOAD stores
an entry in the inactive bank of the converter, table and component as named; more than 700 are refused. CNV_SWAP makes the
exchange of banks pending; while it is, a further one changes nothing. Rests on parts of R98, R108, R111, R256, R591, R593,
R285, R299, R304, R312, R313. (04_channels_druses.md, 09_audio.md, 24_control_protocol.md, 10_conversion.md,
11_compositor.md) -/
def Obligations.JrpChannels : Prop :=
  (∀ (s : State) (h : JrpHdr) (x : JrpSession) (a desc d eis eos : List Nat) (i : Nat),
    JrpReady h x (.chn 1 a desc) s →
    s.get Reg.CHN.STAT_REQBUSY = 0 →
    s.get Reg.CHN.CTRL_EN = 1 →
    a.length = 8 →
    (a.all fun w => w < 2 ^ 32) = true →
    (desc.all fun w => w < 2 ^ 32) = true →
    d = ((s.putArgs Reg.CHN.REQARG a).putArgs (Reg.IPM.DESC_W (bits (a.getD 0 0) 3 0)) (desc.take 16)).reqDesc a →
    ((s.putArgs Reg.CHN.REQARG a).putArgs (Reg.IPM.DESC_W (bits (a.getD 0 0) 3 0)) (desc.take 16)).createCode a d = 0 →
    ((s.putArgs Reg.CHN.REQARG a).putArgs (Reg.IPM.DESC_W (bits (a.getD 0 0) 3 0)) (desc.take 16)).nextEntry = some i →
    i < 16384 →
    allocAll s.ingUse (((s.putArgs Reg.CHN.REQARG a).putArgs (Reg.IPM.DESC_W (bits (a.getD 0 0) 3 0)) (desc.take 16)).entrySizes a).1 = some eis →
    allocAll s.egrUse (((s.putArgs Reg.CHN.REQARG a).putArgs (Reg.IPM.DESC_W (bits (a.getD 0 0) 3 0)) (desc.take 16)).entrySizes a).2 = some eos →
    ((s.putArgs Reg.CHN.REQARG a).putArgs (Reg.IPM.DESC_W (bits (a.getD 0 0) 3 0)) (desc.take 16)).pllWait a = none →
    ∃ t, exec (.jrpCreate h a desc) s = .next t ∧
      Replied x h.txid 0 [0, 0, State.mkHandle (argKind a) i (State.handleGen (s.get (Reg.CHN.ENT_HANDLE i)))] t ∧
      t.get (Reg.CHN.ENT_STATE_STATE i) = 1 ∧
      (∃ c, t.chan i = some c ∧ c.kind = argKind a ∧ c.live = true)) ∧
  (∀ (s : State) (h : JrpHdr) (x : JrpSession) (a desc d eis eos : List Nat),
    JrpReady h x (.chn 1 a desc) s →
    s.get Reg.CHN.STAT_REQBUSY = 0 →
    s.get Reg.CHN.CTRL_EN = 1 →
    a.length = 8 →
    (a.all fun w => w < 2 ^ 32) = true →
    (desc.all fun w => w < 2 ^ 32) = true →
    d = ((s.putArgs Reg.CHN.REQARG a).putArgs (Reg.IPM.DESC_W (bits (a.getD 0 0) 3 0)) (desc.take 16)).reqDesc a →
    ((s.putArgs Reg.CHN.REQARG a).putArgs (Reg.IPM.DESC_W (bits (a.getD 0 0) 3 0)) (desc.take 16)).createCode a d = 0 →
    ((s.putArgs Reg.CHN.REQARG a).putArgs (Reg.IPM.DESC_W (bits (a.getD 0 0) 3 0)) (desc.take 16)).nextEntry = none ∨ allocAll s.ingUse (((s.putArgs Reg.CHN.REQARG a).putArgs (Reg.IPM.DESC_W (bits (a.getD 0 0) 3 0)) (desc.take 16)).entrySizes a).1 = none ∨ allocAll s.egrUse (((s.putArgs Reg.CHN.REQARG a).putArgs (Reg.IPM.DESC_W (bits (a.getD 0 0) 3 0)) (desc.take 16)).entrySizes a).2 = none ∨ ((s.putArgs Reg.CHN.REQARG a).putArgs (Reg.IPM.DESC_W (bits (a.getD 0 0) 3 0)) (desc.take 16)).pllWait a ≠ none →
    allocAll s.ingUse (((s.putArgs Reg.CHN.REQARG a).putArgs (Reg.IPM.DESC_W (bits (a.getD 0 0) 3 0)) (desc.take 16)).entrySizes a).1 = some eis →
    allocAll s.egrUse (((s.putArgs Reg.CHN.REQARG a).putArgs (Reg.IPM.DESC_W (bits (a.getD 0 0) 3 0)) (desc.take 16)).entrySizes a).2 = some eos →
    ((s.putArgs Reg.CHN.REQARG a).putArgs (Reg.IPM.DESC_W (bits (a.getD 0 0) 3 0)) (desc.take 16)).pllWait a ≠ none →
    ∃ t, exec (.jrpCreate h a desc) s = .next t ∧
      ((t.jrp.running.map fun p => (p.1, p.2.txid)) = [(x.id, h.txid)]) ∧
      t.out = s.out ∧
      t.get Reg.CHN.STAT_REQBUSY = 1) ∧
  (∀ (s : State) (h : JrpHdr) (x : JrpSession) (a desc d : List Nat) (c : Nat),
    JrpReady h x (.chn 1 a desc) s →
    s.get Reg.CHN.STAT_REQBUSY = 0 →
    a.length = 8 →
    (a.all fun w => w < 2 ^ 32) = true →
    (desc.all fun w => w < 2 ^ 32) = true →
    d = ((s.putArgs Reg.CHN.REQARG a).putArgs (Reg.IPM.DESC_W (bits (a.getD 0 0) 3 0)) (desc.take 16)).reqDesc a →
    c = ((s.putArgs Reg.CHN.REQARG a).putArgs (Reg.IPM.DESC_W (bits (a.getD 0 0) 3 0)) (desc.take 16)).createCode a d →
    c ≠ 0 →
    ∃ t, exec (.jrpCreate h a desc) s = .next t ∧
      (t.out.head?.bind (jrpReply x)).map (fun y => (y.1, y.2.1)) = some (h.txid, c) ∧
      t.chn.chans = s.chn.chans ∧
      t.chn.nextIndex = s.chn.nextIndex) ∧
  (∀ (s : State) (h : JrpHdr) (x : JrpSession) (hd i : Nat) (c : Chan),
    JrpReady h x (.chn 2 [hd] []) s →
    s.get Reg.CHN.STAT_REQBUSY = 0 →
    s.get Reg.CHN.CTRL_EN = 1 →
    hd < 2 ^ 32 →
    i = State.handleIdx hd →
    s.judgeHandle hd State.anyKind = 0 →
    s.inUseBy i = false →
    s.chan i = some c →
    ∃ t, exec (.jrpDestroy h hd) s = .next t ∧
      Replied x h.txid 0 [0, 0] t ∧
      t.get (Reg.CHN.ENT_STATE_STATE i) = 2 ∧
      (∃ y, t.chan i = some y ∧ y.live = false)) ∧
  (∀ (s : State) (h : JrpHdr) (x : JrpSession) (hd c : Nat),
    JrpReady h x (.chn 2 [hd] []) s →
    s.get Reg.CHN.STAT_REQBUSY = 0 →
    hd < 2 ^ 32 →
    (c = (if s.get Reg.CHN.CTRL_EN = 0 then 16 else if s.judgeHandle hd State.anyKind ≠ 0 then s.judgeHandle hd State.anyKind else if s.inUseBy (State.handleIdx hd) then 13 else 0)) →
    c ≠ 0 →
    ∃ t, exec (.jrpDestroy h hd) s = .next t ∧
      Replied x h.txid c [c, 0] t ∧
      t.chn.chans = s.chn.chans ∧
      t.chn.druses = s.chn.druses) ∧
  (∀ (s : State) (h : JrpHdr) (x : JrpSession) (a : List Nat) (d : Nat) (y : Member),
    JrpReady h x (.chn 3 a []) s →
    s.get Reg.CHN.STAT_REQBUSY = 0 →
    s.get Reg.CHN.CTRL_EN = 1 →
    a.length = 8 →
    (a.all fun w => w < 2 ^ 32) = true →
    y = (s.putArgs Reg.CHN.REQARG a).reqMember →
    (s.putArgs Reg.CHN.REQARG a).appendCode y = 0 →
    d = s.druseOf (a.getD 0 0) →
    y.type ≤ 1 ∨ s.ownSys y.sys = true →
    s.rangeFits d y = true →
    d < 4096 →
    ∃ t, exec (.jrpAppend h ⟨a, none⟩) s = .next t ∧
      Replied x h.txid 0 [0, 0] t ∧
      t.membersOf d = s.membersOf d ++ [y]) ∧
  (∀ (s : State) (h : JrpHdr) (x : JrpSession) (a : List Nat) (d : Nat) (y : Member),
    JrpReady h x (.chn 3 a []) s →
    s.get Reg.CHN.STAT_REQBUSY = 0 →
    s.get Reg.CHN.CTRL_EN = 1 →
    a.length = 8 →
    (a.all fun w => w < 2 ^ 32) = true →
    y = (s.putArgs Reg.CHN.REQARG a).reqMember →
    (s.putArgs Reg.CHN.REQARG a).appendCode y = 0 →
    d = s.druseOf (a.getD 0 0) →
    2 ≤ y.type →
    s.ownSys y.sys = false →
    ∃ t, exec (.jrpAppend h ⟨a, none⟩) s = .next t ∧
      ((t.jrp.running.map fun p => (p.1, p.2.txid)) = [(x.id, h.txid)]) ∧
      t.out = .claim y.sys y.type y.ref (s.get (Reg.CHN.DRU_HANDLE d)) :: s.out ∧
      t.chn.druses = s.chn.druses) ∧
  (∀ (s : State) (h : JrpHdr) (x : JrpSession) (a : List Nat) (y : Member) (c : Nat),
    JrpReady h x (.chn 3 a []) s →
    s.get Reg.CHN.STAT_REQBUSY = 0 →
    a.length = 8 →
    (a.all fun w => w < 2 ^ 32) = true →
    y = (s.putArgs Reg.CHN.REQARG a).reqMember →
    (c = (if (s.putArgs Reg.CHN.REQARG a).appendCode y ≠ 0 then (s.putArgs Reg.CHN.REQARG a).appendCode y else if (y.type ≤ 1 ∨ s.ownSys y.sys = true) ∧ s.rangeFits (s.druseOf (a.getD 0 0)) y = false then 11 else 0)) →
    c ≠ 0 →
    ∃ t, exec (.jrpAppend h ⟨a, none⟩) s = .next t ∧
      Replied x h.txid c [c, 0] t ∧
      t.chn.druses = s.chn.druses) ∧
  (∀ (s : State) (h : JrpHdr) (x : JrpSession) (a : List Nat) (ps pa hh d : Nat),
    JrpReady h x (.claim a ps pa) s →
    h.epoch = s.get Reg.CHN.EPOCH →
    (hh = (if bits (a.getD 1 0) 30 28 = 3 then s.get (Reg.CHN.DRU_HANDLE (s.use Reg.CHN.CFG_CHIPDRUSE)) else a.getD 3 0)) →
    d = s.druseOf hh →
    s.get Reg.CHN.CTRL_EN = 1 →
    bits (a.getD 1 0) 30 28 = 2 ∨ (bits (a.getD 1 0) 30 28 = 3 ∧ s.chipDruseOk = true) →
    s.judgeHandle hh [10] = 0 →
    s.get (Reg.CHN.DRU_PSYS_MARK d) = 0 →
    s.get (Reg.CHN.DRU_PSYS_PVALID d) = 0 →
    (((s.parentOfForeign (ps, pa)).map (s.parentChain 4096)).any fun l => l.contains d) = false →
    ps < 2 ^ 18 →
    pa < 2 ^ 32 →
    d < 4096 →
    ∃ t, exec (.jrpAppend h ⟨a, some (ps, pa)⟩) s = .next t ∧
      t.get (Reg.CHN.DRU_PSYS_PVALID d) = 1 ∧
      t.get (Reg.CHN.DRU_PSYS_SYSNUM d) = ps ∧
      t.get (Reg.CHN.DRU_PARENT d) = pa ∧
      Replied x h.txid 0 [0, 0, s.get (Reg.CHN.DRU_HANDLE d), s.get (Reg.CHN.DRU_INSIZE d), s.get (Reg.CHN.DRU_OUTSIZE d)] t) ∧
  (∀ (s : State) (h : JrpHdr) (x : JrpSession) (a : List Nat) (ps pa hh d c : Nat),
    JrpReady h x (.claim a ps pa) s →
    h.epoch = s.get Reg.CHN.EPOCH →
    (hh = (if bits (a.getD 1 0) 30 28 = 3 then s.get (Reg.CHN.DRU_HANDLE (s.use Reg.CHN.CFG_CHIPDRUSE)) else a.getD 3 0)) →
    d = s.druseOf hh →
    (c = (if s.get Reg.CHN.CTRL_EN = 0 then 16 else if ¬(bits (a.getD 1 0) 30 28 = 2 ∨ (bits (a.getD 1 0) 30 28 = 3 ∧ s.chipDruseOk = true)) then 11 else if s.judgeHandle hh [10] ≠ 0 then s.judgeHandle hh [10] else if s.get (Reg.CHN.DRU_PSYS_MARK d) = 1 then 1 else if (((s.parentOfForeign (ps, pa)).map (s.parentChain 4096)).any fun l => l.contains d) then 14 else if s.get (Reg.CHN.DRU_PSYS_PVALID d) = 1 then 13 else 0)) →
    c ≠ 0 →
    ∃ t, exec (.jrpAppend h ⟨a, some (ps, pa)⟩) s = .next t ∧
      Replied x h.txid c [c, 0] t ∧
      t.chn.druses = s.chn.druses ∧
      t.get (Reg.CHN.DRU_PARENT d) = s.get (Reg.CHN.DRU_PARENT d) ∧
      t.get (Reg.CHN.DRU_PSYS_PVALID d) = s.get (Reg.CHN.DRU_PSYS_PVALID d)) ∧
  (∀ (s : State) (h : JrpHdr) (x : JrpSession) (hd dir pos sys hnd : Nat),
    JrpReady h x (.chn 4 [hd, dir, pos] []) s →
    s.get Reg.CHN.STAT_REQBUSY = 0 →
    s.get Reg.CHN.CTRL_EN = 1 →
    hd < 2 ^ 32 →
    dir < 2 ^ 32 →
    pos < 2 ^ 32 →
    s.judgeHandle hd [10] = 0 →
    s.resolvePos (bit dir 0) 4097 (s.membersOf (s.druseOf hd)) pos = (0, sys, some hnd) →
    sys < 2 ^ 18 →
    hnd < 2 ^ 32 →
    ∃ t, exec (.jrpResolve h hd dir pos) s = .next t ∧
      Replied x h.txid 0 [0, 0, sys, hnd] t ∧
      t.chn = s.chn) ∧
  (∀ (s : State) (h : JrpHdr) (x : JrpSession) (hd dir pos c : Nat),
    JrpReady h x (.chn 4 [hd, dir, pos] []) s →
    s.get Reg.CHN.STAT_REQBUSY = 0 →
    hd < 2 ^ 32 →
    dir < 2 ^ 32 →
    pos < 2 ^ 32 →
    (c = (if s.get Reg.CHN.CTRL_EN = 0 then 16 else if s.judgeHandle hd [10] ≠ 0 then s.judgeHandle hd [10] else (s.resolvePos (bit dir 0) 4097 (s.membersOf (s.druseOf hd)) pos).1)) →
    c ≠ 0 →
    ∃ t, exec (.jrpResolve h hd dir pos) s = .next t ∧
      (t.out.head?.bind (jrpReply x)).map (fun y => (y.1, y.2.1)) = some (h.txid, c) ∧
      t.chn.chans = s.chn.chans ∧
      t.chn.druses = s.chn.druses) ∧
  (∀ (s : State) (h : JrpHdr) (x : JrpSession) (j a g : Nat),
    s.get Reg.AUD.MAPRES_BUSY = 0 →
    j < 32768 →
    a < 2 ^ 16 →
    g < 2 ^ 16 →
    JrpReady h x (.voice 1 [j, a, g]) s →
    s.get Reg.AUD.CTRL_EN = 1 →
    j < s.tsiVoices →
    s.get (Reg.AUD.OV_VALID j) = 1 →
    (bit a 15 = true → s.inputOwned (bits a 14 0) = true) →
    ∃ t, exec (.voice h 1 [j, a, g]) s = .next t ∧
      Replied x h.txid 0 [0, 0] t ∧
      (t.outVoice j).change = some (.fixed (if bit a 15 then some (bits a 14 0) else none))) ∧
  (∀ (s : State) (h : JrpHdr) (x : JrpSession) (j a g : Nat),
    s.get Reg.AUD.MAPRES_BUSY = 0 →
    j < 32768 →
    a < 2 ^ 16 →
    g < 2 ^ 16 →
    JrpReady h x (.voice 2 [j, a, g]) s →
    s.get Reg.AUD.CTRL_EN = 1 →
    j < s.tsiVoices →
    s.get (Reg.AUD.OV_VALID j) = 1 →
    a ≤ 511 →
    s.get (Reg.AUD.OV_COUPLE j) ≠ 0 →
    ∃ t, exec (.voice h 2 [j, a, g]) s = .next t ∧
      Replied x h.txid 0 [0, 0] t ∧
      (t.outVoice j).change = some (.couple a)) ∧
  (∀ (s : State) (h : JrpHdr) (x : JrpSession) (j a g op : Nat),
    s.get Reg.AUD.MAPRES_BUSY = 0 →
    j < 32768 →
    a < 2 ^ 16 →
    g < 2 ^ 16 →
    JrpReady h x (.voice op [j, a, g]) s →
    s.get Reg.AUD.CTRL_EN = 1 →
    j < s.tsiVoices →
    s.get (Reg.AUD.OV_VALID j) = 1 →
    3 ≤ op →
    op ≤ 5 →
    (op = 3 → (toSigned 16 g = -32768 ∨ (-6144 ≤ toSigned 16 g ∧ toSigned 16 g ≤ 1536))) →
    ∃ t, exec (.voice h op [j, a, g]) s = .next t ∧
      Replied x h.txid 0 [0, 0] t ∧
      (t.get (Reg.AUD.OV_GAIN j) = (if op = 3 then g else s.get (Reg.AUD.OV_GAIN j))) ∧
      (t.get (Reg.AUD.OV_MUTE j) = (if op = 4 then b2n (bit g 0) else s.get (Reg.AUD.OV_MUTE j))) ∧
      (t.get (Reg.AUD.OV_XFCUT j) = (if op = 5 then b2n (bit g 0) else s.get (Reg.AUD.OV_XFCUT j)))) ∧
  (∀ (s : State) (h : JrpHdr) (x : JrpSession) (j a g op : Nat) (c : Nat),
    JrpReady h x (.voice op [j, a, g]) s →
    s.get Reg.AUD.MAPRES_BUSY = 0 →
    j < 32768 →
    a < 2 ^ 16 →
    g < 2 ^ 16 →
    op < 16 →
    (c = (if s.get Reg.AUD.CTRL_EN = 0 then 16 else if s.tsiVoices ≤ j ∨ s.get (Reg.AUD.OV_VALID j) = 0 ∨ op = 0 ∨ 6 ≤ op then 11 else if op = 1 then (if bit a 15 ∧ s.inputOwned (bits a 14 0) = false then 11 else 0) else if op = 2 then (if 511 < a then 11 else if s.get (Reg.AUD.OV_COUPLE j) = 0 then 4 else 0) else if op = 3 ∧ toSigned 16 g ≠ -32768 ∧ (toSigned 16 g < -6144 ∨ 1536 < toSigned 16 g) then 11 else 0)) →
    c ≠ 0 →
    ∃ t, exec (.voice h op [j, a, g]) s = .next t ∧
      Replied x h.txid c [c, 0] t ∧
      t.aud = s.aud ∧
      t.get (Reg.AUD.OV_GAIN j) = s.get (Reg.AUD.OV_GAIN j)) ∧
  (∀ (s : State) (h : JrpHdr) (x : JrpSession) (e n : Nat) (l a b : Nat) (f d : Nat),
    JrpReady h x (.layer e 1 [l, a, b]) s →
    n < 8 →
    s.engineOf e 8 = (0, n) →
    s.get (Reg.MICA.LAYRES_BUSY n) = 0 →
    s.get (Reg.MICA.CTRL_EN n) = 1 →
    l < 63 →
    a < 2 ^ 32 →
    b < 2 ^ 32 →
    s.get (Reg.MICA.LAY_BOUND n l) = 0 →
    (s.putArgs (Reg.MICA.LAYARG n) [l, a, b]).judgeBind n false = 0 →
    allocEntry s.egrUse (s.srcSize a) = some f →
    (List.range 256).find? (fun j => s.decFree j) = some d →
    f < 8192 →
    ∃ t, exec (.layer h e 1 [l, a, b]) s = .next t ∧
      Replied x h.txid 0 [0, 0] t ∧
      t.get (Reg.MICA.LAY_BOUND n l) = 1 ∧
      t.get (Reg.MICA.LAY_SRC n l) = a ∧
      t.get (State.layDec n l) = d ∧
      t.get (Reg.DEC.ESE d) = f) ∧
  (∀ (s : State) (h : JrpHdr) (x : JrpSession) (e n : Nat) (l a b : Nat),
    JrpReady h x (.layer e 2 [l, a, b]) s →
    n < 8 →
    s.engineOf e 8 = (0, n) →
    s.get (Reg.MICA.LAYRES_BUSY n) = 0 →
    s.get (Reg.MICA.CTRL_EN n) = 1 →
    l < 63 →
    a < 2 ^ 32 →
    b < 2 ^ 32 →
    s.get (Reg.MICA.LAY_BOUND n l) = 1 →
    (s.putArgs (Reg.MICA.LAYARG n) [l, a, b]).judgeBind n true = 0 →
    ∃ t, exec (.layer h e 2 [l, a, b]) s = .next t ∧
      Replied x h.txid 0 [0, 0] t ∧
      t.get (Reg.MICA.LAY_SRC n l) = a ∧
      t.get (State.layDec n l) = s.get (State.layDec n l)) ∧
  (∀ (s : State) (h : JrpHdr) (x : JrpSession) (e n : Nat) (l a b : Nat) (d : Nat),
    JrpReady h x (.layer e 3 [l, a, b]) s →
    n < 8 →
    s.engineOf e 8 = (0, n) →
    s.get (Reg.MICA.LAYRES_BUSY n) = 0 →
    s.get (Reg.MICA.CTRL_EN n) = 1 →
    l < 63 →
    a < 2 ^ 32 →
    b < 2 ^ 32 →
    s.get (Reg.MICA.LAY_BOUND n l) = 1 →
    d = s.get (State.layDec n l) →
    ∃ t, exec (.layer h e 3 [l, a, b]) s = .next t ∧
      Replied x h.txid 0 [0, 0] t ∧
      t.get (Reg.MICA.LAY_BOUND n l) = 0 ∧
      t.get (Reg.MICA.LAY_SRC n l) = 0 ∧
      (t.decHw d).leaving = true) ∧
  (∀ (s : State) (h : JrpHdr) (x : JrpSession) (e n : Nat) (l a b op : Nat) (c : Nat),
    JrpReady h x (.layer e op [l, a, b]) s →
    n < 8 →
    s.engineOf e 8 = (0, n) →
    s.get (Reg.MICA.LAYRES_BUSY n) = 0 →
    op < 16 →
    l < 2 ^ 32 →
    a < 2 ^ 32 →
    b < 2 ^ 32 →
    (c = (if s.get (Reg.MICA.CTRL_EN n) = 0 then 16 else if op = 0 ∨ 4 ≤ op then 11 else if 63 ≤ l % 64 then 11 else if op = 1 ∧ s.get (Reg.MICA.LAY_BOUND n (l % 64)) = 1 then 12 else if 2 ≤ op ∧ s.get (Reg.MICA.LAY_BOUND n (l % 64)) = 0 then 11 else if op = 3 then 0 else (s.putArgs (Reg.MICA.LAYARG n) [l, a, b]).judgeBind n (op == 2))) →
    c ≠ 0 →
    ∃ t, exec (.layer h e op [l, a, b]) s = .next t ∧
      Replied x h.txid c [c, 0] t ∧
      t.mica = s.mica ∧
      t.get (Reg.MICA.LAY_SRC n (l % 64)) = s.get (Reg.MICA.LAY_SRC n (l % 64))) ∧
  (∀ (s : State) (h : JrpHdr) (x : JrpSession) (e n : Nat) (a b op : Nat) (c : Nat) (args : List Nat) (ws : List (Nat × Nat)) (w : Bool) (cmd : Instr), cmd ∈ ([.layer h e op args, .micaSet h e ws w, .flintLoad h e a b] : List Instr) →
    JrpReady h x .nop s →
    ((s.jrp.peers.find? fun p => p.index == x.peer).any fun p => bit p.rights 1) = true →
    ((s.jrp.peers.find? fun p => p.index == x.peer).any fun p => bit p.rights 2) = true →
    s.engineOf e 8 = (c, n) →
    c ≠ 0 →
    ∃ t, exec cmd s = .next t ∧
      Replied x h.txid c [c, 0] t ∧
      t.mica = s.mica ∧
      t.fab = s.fab) ∧
  (∀ (s : State) (h : JrpHdr) (x : JrpSession) (e n : Nat) (c a b : Nat) (l : List Nat) (cmd : Instr), cmd ∈ ([.cnvLoad h e a b l, .cnvSwap h e] : List Instr) →
    JrpReady h x .nop s →
    ((s.jrp.peers.find? fun p => p.index == x.peer).any fun p => bit p.rights 1) = true →
    s.engineOf e 7 = (c, n) →
    c ≠ 0 →
    ∃ t, exec cmd s = .next t ∧
      Replied x h.txid c [c, 0] t ∧
      t.cnv = s.cnv ∧
      t.fab = s.fab) ∧
  (∀ (s : State) (h : JrpHdr) (x : JrpSession) (e n : Nat) (v : Nat),
    JrpReady h x (.micaSet e [(0x1C, v)] false) s →
    n < 8 →
    s.engineOf e 8 = (0, n) →
    v < 2 ^ 32 →
    ∃ t, exec (.micaSet h e [(0x1C, v)] false) s = .next t ∧
      Replied x h.txid 0 [0, 0] t ∧
      t.get (Reg.MICA.BG n) = v % 2 ^ (Reg.MICA.BG n).width ∧
      t.get (Reg.MICA.STAT_COMMITPEND n) = s.get (Reg.MICA.STAT_COMMITPEND n) ∧
      RegsKept [.mica] s t) ∧
  (∀ (s : State) (h : JrpHdr) (x : JrpSession) (e n : Nat) (v l : Nat),
    JrpReady h x (.micaSet e [(0x1000 + 0x40 * l, v)] false) s →
    n < 8 →
    s.engineOf e 8 = (0, n) →
    v < 2 ^ 32 →
    l < 63 →
    ∃ t, exec (.micaSet h e [(0x1000 + 0x40 * l, v)] false) s = .next t ∧
      Replied x h.txid 0 [0, 0] t ∧
      t.get (Reg.MICA.LAY_Z n l) = bits v 25 20 ∧
      RegsKept [.mica] s t) ∧
  (∀ (s : State) (h : JrpHdr) (x : JrpSession) (e n : Nat) (ws : List (Nat × Nat)) (w : Bool),
    JrpReady h x (.micaSet e ws w) s →
    s.engineOf e 8 = (0, n) →
    (ws.any fun p => !State.setOffset p.1) = true →
    ∃ t, exec (.micaSet h e ws w) s = .next t ∧
      Replied x h.txid 11 [11, 0] t ∧
      t.mica = s.mica ∧
      RegsKept [] s t) ∧
  (∀ (s : State) (h : JrpHdr) (x : JrpSession) (e n : Nat) (c : Bool),
    JrpReady h x (.micaSet e [] true) s →
    n < 8 →
    s.engineOf e 8 = (0, n) →
    s.micaRuns n = true →
    s.micaWhy n = 0 →
    (s.micaHw n).pending = none →
    c = (s.micaActive n).changes (s.micaNext n) →
    ∃ t, exec (.micaSet h e [] true) s = .next t ∧
      Replied x h.txid 0 [0, 0] t ∧
      ((t.micaHw n).pending.map fun p => (p.set, p.flatten)) = some (some (s.micaNext n), c) ∧
      t.get (Reg.MICA.STAT_COMMITPEND n) = 1) ∧
  (∀ (s : State) (h : JrpHdr) (x : JrpSession) (e n : Nat),
    JrpReady h x (.micaSet e [] true) s →
    n < 8 →
    s.engineOf e 8 = (0, n) →
    s.micaRuns n = true →
    s.micaWhy n ≠ 0 →
    ∃ t, exec (.micaSet h e [] true) s = .next t ∧
      Replied x h.txid 0 [0, 0] t ∧
      t.mica = s.mica ∧
      t.get (Reg.MICA.STAT_CERR n) = 1 ∧
      t.get (Reg.MICA.STAT_CREASON n) = s.micaWhy n % 2 ^ (Reg.MICA.STAT_CREASON n).width) ∧
  (∀ (s : State) (h : JrpHdr) (x : JrpSession) (e n : Nat) (a k : Nat),
    JrpReady h x (.flint e a k) s →
    n < 8 →
    s.engineOf e 8 = (0, n) →
    s.get (Reg.MICA.STAT_LOADPEND n) = 0 →
    k < 2 ^ 32 →
    ∃ t, exec (.flintLoad h e a k) s = .next t ∧
      Replied x h.txid 0 [0, 0] t ∧
      t.get (Reg.MICA.STAT_LOADPEND n) = 1 ∧
      t.get (Reg.MICA.FLINTLOAD_CRC n) = k ∧
      t.mica = s.mica ∧
      RegsKept [.mica] s t) ∧
  (∀ (s : State) (h : JrpHdr) (x : JrpSession) (e n : Nat) (a k : Nat),
    JrpReady h x (.flint e a k) s →
    n < 8 →
    s.engineOf e 8 = (0, n) →
    s.get (Reg.MICA.STAT_LOADPEND n) = 1 →
    k < 2 ^ 32 →
    ∃ t, exec (.flintLoad h e a k) s = .next t ∧
      Replied x h.txid 0 [0, 0] t ∧
      t.get (Reg.MICA.STAT_LOADPEND n) = 1 ∧
      t.mica = s.mica ∧
      RegsKept [.mica, .flt] s t) ∧
  (∀ (s : State) (h : JrpHdr) (x : JrpSession) (e n : Nat) (ls f v tb cp : Nat),
    JrpReady h x (.cnvLoad e ls f [v]) s →
    n < 32 →
    s.engineOf e 7 = (0, n) →
    s.get (Reg.CNV.STAT_SWAPPEND n) = 0 →
    v < 65536 →
    tb = bits ls 5 4 →
    cp = bits ls 1 0 →
    f < lutEntries tb →
    f < 2 ^ 16 →
    ∃ t, exec (.cnvLoad h e ls f [v]) s = .next t ∧
      Replied x h.txid 0 [0, 0] t ∧
      (lutGet (t.cnvHw n).nextLut tb cp f = v % 2 ^ 16 ∨ tb = 3 ∨ cp = 3) ∧
      (t.cnvHw n).lut = (s.cnvHw n).lut) ∧
  (∀ (s : State) (h : JrpHdr) (x : JrpSession) (e n : Nat) (ls f : Nat) (l : List Nat),
    JrpReady h x (.cnvLoad e ls f l) s →
    s.engineOf e 7 = (0, n) →
    700 < l.length →
    ∃ t, exec (.cnvLoad h e ls f l) s = .next t ∧
      Replied x h.txid 11 [11, 0] t ∧
      t.cnv = s.cnv ∧
      RegsKept [] s t) ∧
  (∀ (s : State) (h : JrpHdr) (x : JrpSession) (e n : Nat),
    JrpReady h x (.cnvSwap e) s →
    n < 32 →
    s.engineOf e 7 = (0, n) →
    s.get (Reg.CNV.STAT_SWAPPEND n) = 0 →
    ∃ t, exec (.cnvSwap h e) s = .next t ∧
      Replied x h.txid 0 [0, 0] t ∧
      t.get (Reg.CNV.STAT_SWAPPEND n) = 1 ∧
      (t.cnvHw n).lut = (s.cnvHw n).lut ∧
      (t.cnvHw n).nextLut = (s.cnvHw n).nextLut ∧
      RegsKept [.cnv] s t) ∧
  (∀ (s : State) (h : JrpHdr) (x : JrpSession) (e n : Nat),
    JrpReady h x (.cnvSwap e) s →
    n < 32 →
    s.engineOf e 7 = (0, n) →
    s.get (Reg.CNV.STAT_SWAPPEND n) = 1 →
    ∃ t, exec (.cnvSwap h e) s = .next t ∧
      Replied x h.txid 0 [0, 0] t ∧
      t.cnv = s.cnv ∧
      RegsKept [.cnv] s t)

/-- JRP: staging and committing an update, keys, life cycle and role exchange. UPD_STAGE with BEGIN opens a staging; during a
trial, or without a target, it is refused. WRITE programs its bytes into the target slot at the offset; outside a staging or
its slot it is refused. VERIFY of one that passes has its result as final status, of which the session is notified too; one
that fails is dropped with its code; without a staging it is refused. ABORT ends it. Another operation, or above 1,024
bytes, is refused. UPD_CONFIRM confirms the trial in force; without one it is refused. JRP_UPD_COMMIT writes a trial header
to the other sector, and the restart follows; it is refused during a trial, without a verified staging, or with arguments
out of range. JRP_LC_CHANGE makes the changes of the table, without a fuse or with one, of PROVISIONED too; one it does not
allow is refused. JRP_KEYMSG that passes its checks appends an owner-state record; another is refused with its code, and
stores nothing. JRP_XCHG on the ACTIVE unit asks for the exchange; on another it is answered and asks for none. Rests on
parts of R453, R555, R562, R568, R569, R570, R587, R591. (18_twin.md, 23_update_keys.md, 24_control_protocol.md) -/
def Obligations.JrpUpdateAndKeys : Prop :=
  (∀ (s : State) (h : JrpHdr) (x : JrpSession) (b : List Byte) (rd : StageRead) (a : Nat),
    JrpReady h x (.updStage 1 [a] b rd) s →
    s.trialOpen = false →
    a % 4 ≠ 0 →
    a < 2 ^ 32 →
    b.length ≤ 1024 →
    ∃ t, exec (.updStage h 1 [a] b rd) s = .next t ∧
      Replied x h.txid 0 [0, 0] t ∧
      t.get Reg.UPD.STAT_STATE = 1 ∧
      t.upd.fw = bit a 0 ∧
      t.upd.cfg = bit a 1 ∧
      t.fuses = s.fuses) ∧
  (∀ (s : State) (h : JrpHdr) (x : JrpSession) (b : List Byte) (rd : StageRead) (a : Nat),
    JrpReady h x (.updStage 1 [a] b rd) s →
    s.trialOpen = true ∨ a % 4 = 0 →
    a < 2 ^ 32 →
    b.length ≤ 1024 →
    ∃ t, exec (.updStage h 1 [a] b rd) s = .next t ∧
      (Replied x h.txid (if s.trialOpen then 1 else 11) [(if s.trialOpen then 1 else 11), 0] t) ∧
      t.upd = s.upd ∧
      t.flash = s.flash) ∧
  (∀ (s : State) (h : JrpHdr) (x : JrpSession) (b : List Byte) (rd : StageRead) (a o n q j : Nat) (w : Bool),
    JrpReady h x (.updStage 2 [a, o, n, q] b rd) s →
    a < 2 ^ 32 →
    o < 2 ^ 32 →
    q < 2 ^ 31 →
    b.length ≤ 1024 →
    n = b.length →
    s.get Reg.UPD.STAT_STATE = 1 →
    (s.upd.fw && (!s.upd.cfg || bit a 0)) = w →
    s.upd.fwSlot ≤ 1 →
    s.upd.cfgSlot ≤ 1 →
    o + n ≤ s.targetSize w →
    j < n →
    ∃ t, exec (.updStage h 2 [a, o, n, q] b rd) s = .next t ∧
      Replied x h.txid 0 [0, 0] t ∧
      (Assoc.findD (if w then (t.fwSlot s.upd.fwSlot).bytes else (t.cfgSlot s.upd.cfgSlot).bytes) (o + j) 0xFF = b.getD j 0) ∧
      t.upd = s.upd) ∧
  (∀ (s : State) (h : JrpHdr) (x : JrpSession) (b : List Byte) (rd : StageRead) (a o n q : Nat),
    JrpReady h x (.updStage 2 [a, o, n, q] b rd) s →
    a < 2 ^ 32 →
    o < 2 ^ 32 →
    n < 2 ^ 32 →
    q < 2 ^ 31 →
    b.length ≤ 1024 →
    s.get Reg.UPD.STAT_STATE ≠ 1 ∨ s.targetSize (s.upd.fw && (!s.upd.cfg || bit a 0)) < o + n ∨ 4096 < n →
    ∃ t, exec (.updStage h 2 [a, o, n, q] b rd) s = .next t ∧
      Replied x h.txid 11 [11, 0] t ∧
      t.flash = s.flash ∧
      t.upd = s.upd) ∧
  (∀ (s : State) (h : JrpHdr) (x : JrpSession) (args : List Nat) (b : List Byte) (rd : StageRead),
    JrpReady h x (.updStage 3 args b rd) s →
    args.length ≤ 4 →
    b.length ≤ 1024 →
    s.get Reg.UPD.STAT_STATE = 1 →
    s.verifyCode rd = 0 →
    x.notes = [] →
    x.gap = 0 →
    ∃ t, exec (.updStage h 3 args b rd) s = .next t ∧
      Replied x h.txid 0 [0, 0] t ∧
      t.get Reg.UPD.STAT_STATE = 2 ∧
      t.upd.staged = rd ∧
      ((t.jrp.sessions.map fun y => y.notes) = [[.complete h.txid ⟨0, 0, 0, 0⟩]])) ∧
  (∀ (s : State) (h : JrpHdr) (x : JrpSession) (args : List Nat) (b : List Byte) (rd : StageRead) (c : Nat),
    JrpReady h x (.updStage 3 args b rd) s →
    args.length ≤ 4 →
    b.length ≤ 1024 →
    s.get Reg.UPD.STAT_STATE = 1 →
    c = s.verifyCode rd →
    c ≠ 0 →
    x.notes = [] →
    x.gap = 0 →
    ∃ t, exec (.updStage h 3 args b rd) s = .next t ∧
      (t.out.head?.bind (jrpReply x)).map (fun y => (y.1, y.2.1, y.2.2.head?)) = some (h.txid, 0, some (c % 256)) ∧
      t.get Reg.UPD.STAT_STATE = 0 ∧
      t.flash = s.flash ∧
      ((t.jrp.sessions.map fun y => y.notes) = [[.complete h.txid ⟨c % 256, 0, 0, 0⟩]])) ∧
  (∀ (s : State) (h : JrpHdr) (x : JrpSession) (args : List Nat) (b : List Byte) (rd : StageRead),
    JrpReady h x (.updStage 3 args b rd) s →
    args.length ≤ 4 →
    b.length ≤ 1024 →
    s.get Reg.UPD.STAT_STATE ≠ 1 →
    ∃ t, exec (.updStage h 3 args b rd) s = .next t ∧
      Replied x h.txid 11 [11, 0] t ∧
      t.get Reg.UPD.STAT_STATE = s.get Reg.UPD.STAT_STATE ∧
      t.flash = s.flash) ∧
  (∀ (s : State) (h : JrpHdr) (x : JrpSession) (args : List Nat) (b : List Byte) (rd : StageRead),
    JrpReady h x (.updStage 6 args b rd) s →
    args.length ≤ 4 →
    b.length ≤ 1024 →
    ∃ t, exec (.updStage h 6 args b rd) s = .next t ∧
      t.flash = s.flash ∧
      t.out.length = s.out.length + 1 ∧
      (s.get Reg.UPD.STAT_STATE ≠ 0 → s.trialOpen = false → (t.get Reg.UPD.STAT_STATE = 0 ∧ Replied x h.txid 0 [0, 0] t))) ∧
  (∀ (s : State) (h : JrpHdr) (x : JrpSession) (args : List Nat) (b : List Byte) (rd : StageRead) (op : Nat),
    JrpReady h x (.updStage op args b rd) s →
    ([1, 2, 3, 6]).contains op = false ∨ 1024 < b.length →
    ∃ t, exec (.updStage h op args b rd) s = .next t ∧
      Replied x h.txid 11 [11, 0] t ∧
      t.upd = s.upd ∧
      t.flash = s.flash ∧
      RegsKept [] s t) ∧
  (∀ (s : State) (h : JrpHdr) (x : JrpSession) (g : BootHdr) (b : Bundle),
    JrpReady h x (.updConfirm) s →
    s.upd.hdr = 0 →
    s.flash.hdrA = .good g →
    s.upd.running = some b →
    g.trial = true →
    g.confirm = 0xFFFFFFFF →
    g.valid = 0xFFFFFFFF →
    ∃ t, exec (.updConfirm h) s = .next t ∧
      Replied x h.txid 0 [0, 0] t ∧
      t.flash.hdrA = .good { g with confirm := 0 } ∧
      t.get Reg.UPD.TRIALLEFT = 0 ∧
      t.upd.trialEnd = none) ∧
  (∀ (s : State) (h : JrpHdr) (x : JrpSession),
    JrpReady h x (.updConfirm) s →
    s.trialOpen = false →
    ∃ t, exec (.updConfirm h) s = .next t ∧
      Replied x h.txid 11 [11, 0] t ∧
      t.flash = s.flash ∧
      t.upd = s.upd) ∧
  (∀ (s : State) (h : JrpHdr) (x : JrpSession) (mode win mx : Nat) (env : StartEnv) (g : BootHdr),
    JrpReady h x (.updCommit mode win mx env) s →
    mode < 2 ^ 32 →
    60 ≤ win →
    win ≤ 86400 →
    1 ≤ mx →
    mx ≤ 8 →
    s.get Reg.UPD.STAT_STATE = 2 →
    s.windowOpen = true →
    s.upd.hdr = 0 →
    s.flash.hdrA = .good g →
    g.trial = false →
    s.flash.fwA.head = .blank →
    s.flash.fwB.head = .blank →
    s.fuses.idgen = true →
    s.upd.fw = true →
    ∃ t, exec (.jrpUpdCommit h mode win mx env) s = .next t ∧
      (∃ k : BootHdr, t.flash.hdrB = .good k ∧ k.seq = g.seq + 1 ∧ k.trial = true ∧ k.fwSlot = s.upd.fwSlot) ∧
      t.get Reg.MGT.RSTCAUSE = 3) ∧
  (∀ (s : State) (h : JrpHdr) (x : JrpSession) (mode win mx : Nat) (env : StartEnv) (c : Nat),
    JrpReady h x (.updCommit mode win mx env) s →
    mode < 2 ^ 32 →
    win < 2 ^ 32 →
    mx < 2 ^ 32 →
    s.upd.due = none →
    c = (s.putArgs Reg.UPD.ARG [mode, win, mx]).commitCode →
    c ≠ 0 →
    ∃ t, exec (.jrpUpdCommit h mode win mx env) s = .next t ∧
      Replied x h.txid c [c, 0] t ∧
      t.flash = s.flash ∧
      t.upd.due = none) ∧
  (∀ (s : State) (h : JrpHdr) (x : JrpSession) (k : Nat),
    JrpReady h x (.lcChange k) s →
    s.get Reg.KEY.STAT_LCSTATE = 1 ∧ k = 2 ∨ s.get Reg.KEY.STAT_LCSTATE = 2 ∧ k = 3 ∨ s.get Reg.KEY.STAT_LCSTATE = 3 ∧ k = 2 →
    ∃ t, exec (.jrpLcChange h k) s = .next t ∧
      Replied x h.txid 0 [0, 0] t ∧
      t.get Reg.KEY.STAT_LCSTATE = k ∧
      t.fuses = s.fuses) ∧
  (∀ (s : State) (h : JrpHdr) (x : JrpSession) (k : Nat),
    JrpReady h x (.lcChange k) s →
    k < 16 →
    s.get Reg.KEY.STAT_LCSTATE = 3 →
    k = 4 →
    ∃ t, exec (.jrpLcChange h k) s = .next t ∧
      Replied x h.txid 0 [0, 0] t ∧
      t.get Reg.KEY.STAT_LCSTATE = 4 ∧
      t.fuses.lcf1 = true ∧
      t.flash.blob.owners = []) ∧
  (∀ (s : State) (h : JrpHdr) (x : JrpSession) (k : Nat),
    JrpReady h x (.lcChange k) s →
    s.get Reg.KEY.STAT_LCSTATE = 0 →
    k = 1 →
    s.ownerFlags ≠ 0 →
    s.flash.blob.cert ≠ [] →
    ∃ t, exec (.jrpLcChange h k) s = .next t ∧
      Replied x h.txid 0 [0, 0] t ∧
      t.get Reg.KEY.STAT_LCSTATE = 1 ∧
      t.fuses.lcf0 = true) ∧
  (∀ (s : State) (h : JrpHdr) (x : JrpSession) (k : Nat),
    JrpReady h x (.lcChange k) s →
    s.lcAllowed k = false →
    ∃ t, exec (.jrpLcChange h k) s = .next t ∧
      Replied x h.txid 11 [11, 0] t ∧
      t.get Reg.KEY.STAT_LCSTATE = s.get Reg.KEY.STAT_LCSTATE ∧
      t.fuses = s.fuses ∧
      t.flash = s.flash) ∧
  (∀ (s : State) (h : JrpHdr) (x : JrpSession) (msg : List Byte) (sg : Option Nat),
    JrpReady h x (.keyMsg msg sg) s →
    s.blobRoom = true →
    s.keyMsgCode (s.putKeyMsg msg).keyMsg sg = 0 →
    ∃ t, exec (.jrpKeymsg h msg sg) s = .next t ∧
      Replied x h.txid 0 [0, 0] t ∧
      t.flash.blob.owners.length = s.flash.blob.owners.length + 1 ∧
      t.ownerState.ctr = State.msgField (s.putKeyMsg msg).keyMsg 0x10 4) ∧
  (∀ (s : State) (h : JrpHdr) (x : JrpSession) (msg : List Byte) (sg : Option Nat) (c : Nat),
    JrpReady h x (.keyMsg msg sg) s →
    (c = (if s.blobRoom = false then 5 else s.keyMsgCode (s.putKeyMsg msg).keyMsg sg)) →
    c ≠ 0 →
    ∃ t, exec (.jrpKeymsg h msg sg) s = .next t ∧
      Replied x h.txid c [c, 0] t ∧
      t.flash = s.flash) ∧
  (∀ (s : State) (h : JrpHdr) (x : JrpSession),
    JrpReady h x (.xchg) s →
    s.get Reg.TWIN.CTRL_EN = 1 →
    s.get Reg.TWIN.STAT_STATE = 3 →
    ∃ t, exec (.jrpXchg h) s = .next t ∧
      Replied x h.txid 0 [0, 0] t ∧
      t.twin.xchg = true ∧
      t.regs = s.regs) ∧
  (∀ (s : State) (h : JrpHdr) (x : JrpSession),
    JrpReady h x (.xchg) s →
    s.get Reg.TWIN.STAT_STATE ≠ 3 →
    ∃ t, exec (.jrpXchg h) s = .next t ∧
      Replied x h.txid 0 [0, 0] t ∧
      t.twin.xchg = s.twin.xchg ∧
      t.regs = s.regs)

/-- While a swap of a converter is pending, writes to its tables and its next set are discarded and flagged. While SWAPPEND is
1, a write of LUTDATA changes no table and sets LUT_IGN. A write of MATC that takes effect then is discarded and sets
LUT_IGN, and so is a write of MATOFF or of NEXTPROC. A further GO changes nothing. (R286) -/
def Obligations.LoadsWaitForTheSwap : Prop :=
  (∀ (s : State) (m n : Nat) (data : Word),
    Quiet m s →
    n < 32 →
    s.get (Reg.CNV.STAT_SWAPPEND n) = 1 →
    ∃ t, exec (.cnvLutdataAccess m n true data) s = .next t ∧
      t.get (Reg.CNV.STAT_LUT_IGN n) = 1 ∧
      t.cnv = s.cnv ∧
      t.cnvNext n = s.cnvNext n) ∧
  (∀ (s : State) (m n k : Nat) (data : Word),
    n < 32 →
    s.get (Reg.CNV.STAT_SWAPPEND n) = 1 →
    s.landing = [⟨m, (Reg.CNV.MATC n k).addr, data, false, false, false, [], false⟩] →
    k < 9 →
    ∃ t, exec (.domainWriteEffect (Blk.base ⟨.cnv, n⟩)) s = .next t ∧
      t.get (Reg.CNV.STAT_LUT_IGN n) = 1 ∧
      t.cnv = s.cnv ∧
      t.rd (Reg.CNV.MATC n k).addr = s.rd (Reg.CNV.MATC n k).addr) ∧
  (∀ (s : State) (m n k : Nat) (data : Word),
    n < 32 →
    s.get (Reg.CNV.STAT_SWAPPEND n) = 1 →
    s.landing = [⟨m, (Reg.CNV.MATOFF n k).addr, data, false, false, false, [], false⟩] →
    k < 6 →
    ∃ t, exec (.domainWriteEffect (Blk.base ⟨.cnv, n⟩)) s = .next t ∧
      t.get (Reg.CNV.STAT_LUT_IGN n) = 1 ∧
      t.cnv = s.cnv ∧
      t.rd (Reg.CNV.MATOFF n k).addr = s.rd (Reg.CNV.MATOFF n k).addr) ∧
  (∀ (s : State) (m n : Nat) (data : Word),
    n < 32 →
    s.get (Reg.CNV.STAT_SWAPPEND n) = 1 →
    s.landing = [⟨m, (Reg.CNV.NEXTPROC_FILTER n).addr, data, false, false, false, [], false⟩] →
    ∃ t, exec (.domainWriteEffect (Blk.base ⟨.cnv, n⟩)) s = .next t ∧
      t.get (Reg.CNV.STAT_LUT_IGN n) = 1 ∧
      t.cnv = s.cnv ∧
      t.rd (Reg.CNV.NEXTPROC_FILTER n).addr = s.rd (Reg.CNV.NEXTPROC_FILTER n).addr) ∧
  (∀ (s : State) (m n : Nat) (data : Word),
    Quiet m s →
    n < 32 →
    s.get (Reg.CNV.STAT_SWAPPEND n) = 1 →
    ∃ t, exec (.swap m n data) s = .next t ∧
      t.get (Reg.CNV.STAT_SWAPPEND n) = 1 ∧
      t.cnv = s.cnv ∧
      RegsKept [] s t)

/-- The state after reset is sound. After reset the register file and the byte memories stand in their canonical form.
(02_register_interface.md, 17_dram.md) -/
def Obligations.SoundAtReset : Prop :=
  Sound State.reset

/-- Every step keeps a sound state sound. In every state whose register file and byte memories are canonical, a step that
answers a next state leaves them canonical: addresses strictly rising, no register listed at its reset value, no byte listed
at what an unlisted one reads. The form is the model's own (log entry 7 for the byte). (02_register_interface.md,
17_dram.md) -/
def Obligations.SoundIsKept : Prop :=
  ∀ s t : State, Sound s → step s = .next t → Sound t

/-- No step restores a blown fuse. Whatever the command, a step leaves LCF0, LCF1 and IDGEN blown where they were blown: the
life cycle never goes back and the identity is made once. (23_update_keys.md, 24_control_protocol.md) -/
def Obligations.FusesStayBlown : Prop :=
  ∀ s t : State, step s = .next t → FusesKept s t

/-- A step takes one command from the queue and adds none. Commands are carried out first in, first out: a step removes the
front command, and no command adds, removes or reorders one that waits (the queue is the model's own, log entry 1).
(95_what_each_step_holds.md) -/
def Obligations.CommandsAreTakenInOrder : Prop :=
  ∀ (s t : State) (c : Instr) (rest : List Instr), s.pending = c :: rest → step s = .next t → t.pending = rest

/-- Every command in every state answers a next state, but for an audio frame beyond the limit of its bit clock. Each of the 287
commands answers a next state, in every state and with every operand, and leaves the queue as it is: the one condition is
that the bit clock of an APRT_FRAME is within the 98.304 MHz of R261. Beyond it a running slave port faults, for which the
spec gives no behaviour; no other command faults, and none is refused. (95_what_each_step_holds.md, 09_audio.md) -/
def Obligations.EveryCommandCompletes : Prop :=
  (∀ (c : Instr) (s : State), (∀ n bclks hz slots, c = .aprtFrame n bclks hz slots → hz ≤ 98304000) →
    ∃ t, exec c s = .next t ∧ t.pending = s.pending) ∧
  (∀ (c : Instr) (s : State), (∃ t, exec c s = .next t) ∨
    (∃ n bclks hz slots, c = .aprtFrame n bclks hz slots ∧ exec c s = .fault .aprtClockTooFast ∧ s.get (Reg.APRT.STAT_STATE n) ≠ 0 ∧ s.aprtMode n ≠ 0 ∧ 98304000 < hz))

/-- What the commands of the video, audio, fabric and panel units leave alone. Each of these commands, in any state where it
answers a next state, changes no field of the state but those listed, and no register outside the pages of the block types
listed where they are: NO_FRAME_TIMEOUT, FS_DRAM_LATE, SALVO_OPEN_EXPIRE, SALVO_EXPIRED, SAFE_CONTENT_SWITCH, CHKINV_DONE,
RATE_HUNT_DWELL, ANC_PACKET_RX, IGMP_REPORT_TIMER, IGMP_QUERY_RX, IGMP_COMPAT_TIMEOUT, JOIN_TIMEOUT, POLDROP_ACCUMULATE,
ASRC_RELOCK_DONE, SWAP_DONE, FLATTEN_DONE, FLINT_LOAD_DONE, FLINT_FAIL, DECIMATOR_FRAME, LAYER_STALE_TIMEOUT,
SCAN_TRAIN_DONE, EDP_HPD_EDGE, SCAN_TRAIN_RETRY, SCAN_LATCH_POINT, SCAN_FRAME_START, UNDERRUN, PSR_ENTRY, AUX_REPLY,
AUX_TIMEOUT, POL_INV, PLL_RELOCK, EQ_LIMIT, EYE_MEASURE, EDP_LINK_LOSS, PRBS_CHECK. (95_what_each_step_holds.md) -/
def Obligations.MediaFramesOfEffect : Prop :=
  (∀ (s t : State) (e : Nat), Instr.wf (.noFrameTimeout e) = true →
    exec (.noFrameTimeout e) s = .next t → t = { s with fab := t.fab, flt := t.flt, regs := t.regs }) ∧
  (∀ (s t : State) (u : Nat) (k : Nat), Instr.wf (.fsDramLate u k) = true →
    exec (.fsDramLate u k) s = .next t → t = { s with fab := t.fab, flt := t.flt, regs := t.regs }) ∧
  (∀ (s t : State) (v : Nat), Instr.wf (.salvoOpenExpire v) = true →
    exec (.salvoOpenExpire v) s = .next t → t = { s with fab := t.fab, flt := t.flt, regs := t.regs } ∧ RegsKept [.chn, .fab, .flt] s t) ∧
  (∀ (s t : State) (v : Nat), Instr.wf (.salvoExpired v) = true →
    exec (.salvoExpired v) s = .next t → t = { s with fab := t.fab, flt := t.flt, regs := t.regs } ∧ RegsKept [.chn, .fab, .flt] s t) ∧
  (∀ (s t : State) (e : Nat), Instr.wf (.safeContentSwitch e) = true →
    exec (.safeContentSwitch e) s = .next t → t = { s with fab := t.fab }) ∧
  (∀ (s t : State) (addr : Nat), Instr.wf (.chkinvDone addr) = true →
    exec (.chkinvDone addr) s = .next t → t = { s with flt := t.flt, prov := t.prov, regs := t.regs } ∧ RegsKept [.flt, .prov] s t) ∧
  (∀ (s t : State) (n : Nat), Instr.wf (.rateHuntDwell n) = true →
    exec (.rateHuntDwell n) s = .next t → t = { s with freeCtr := t.freeCtr, regs := t.regs, sdi := t.sdi }) ∧
  (∀ (s t : State) (n : Nat) (p : AncPkt), Instr.wf (.ancPacketRx n p) = true →
    exec (.ancPacketRx n p) s = .next t → t = { s with flt := t.flt, lastRaise := t.lastRaise, regs := t.regs, sdi := t.sdi }) ∧
  (∀ (s t : State) (p : Nat) (group : Nat), Instr.wf (.igmpReportTimer p group) = true →
    exec (.igmpReportTimer p group) s = .next t → t = { s with ipm := t.ipm, out := t.out }) ∧
  (∀ (s t : State) (p : Nat) (version : Nat) (group : Nat) (maxResp : Nat), Instr.wf (.igmpQueryRx p version group maxResp) = true →
    exec (.igmpQueryRx p version group maxResp) s = .next t → t = { s with flt := t.flt, ipm := t.ipm, out := t.out, regs := t.regs }) ∧
  (∀ (s t : State) (p : Nat), Instr.wf (.igmpCompatTimeout p) = true →
    exec (.igmpCompatTimeout p) s = .next t → t = { s with ipm := t.ipm }) ∧
  (∀ (s t : State) (f : Nat) (leg : Nat), Instr.wf (.joinTimeout f leg) = true →
    exec (.joinTimeout f leg) s = .next t → t = { s with flt := t.flt, ipm := t.ipm, out := t.out, regs := t.regs }) ∧
  (∀ (s t : State), Instr.wf (.poldropAccumulate) = true →
    exec (.poldropAccumulate) s = .next t → t = { s with ipm := t.ipm }) ∧
  (∀ (s t : State) (n : Nat), Instr.wf (.asrcRelockDone n) = true →
    exec (.asrcRelockDone n) s = .next t → t = { s with aud := t.aud, regs := t.regs } ∧ RegsKept [.aprt] s t) ∧
  (∀ (s t : State) (n : Nat), Instr.wf (.swapDone n) = true →
    exec (.swapDone n) s = .next t → t = { s with cnv := t.cnv, flt := t.flt, freeCtr := t.freeCtr, lastRaise := t.lastRaise, regs := t.regs } ∧ RegsKept [.cnv, .flt] s t) ∧
  (∀ (s t : State) (g : Nat) (us : Nat), Instr.wf (.flattenDone g us) = true →
    exec (.flattenDone g us) s = .next t → t = { s with flt := t.flt, freeCtr := t.freeCtr, lastRaise := t.lastRaise, mica := t.mica, regs := t.regs }) ∧
  (∀ (s t : State) (g : Nat), Instr.wf (.flintLoadDone g) = true →
    exec (.flintLoadDone g) s = .next t → t = { s with flt := t.flt, freeCtr := t.freeCtr, lastRaise := t.lastRaise, mica := t.mica, regs := t.regs }) ∧
  (∀ (s t : State) (g : Nat) (got : Nat), Instr.wf (.flintFail g got) = true →
    exec (.flintFail g got) s = .next t → t = { s with flt := t.flt, freeCtr := t.freeCtr, mica := t.mica, regs := t.regs } ∧ RegsKept [.flt, .mica] s t) ∧
  (∀ (s t : State) (d : Nat) (late : Bool), Instr.wf (.decimatorFrame d late) = true →
    exec (.decimatorFrame d late) s = .next t → t = { s with flt := t.flt, freeCtr := t.freeCtr, lastRaise := t.lastRaise, mica := t.mica, regs := t.regs }) ∧
  (∀ (s t : State) (g : Nat) (l : Nat), Instr.wf (.layerStaleTimeout g l) = true →
    exec (.layerStaleTimeout g l) s = .next t → t = { s with flt := t.flt, freeCtr := t.freeCtr, lastRaise := t.lastRaise, mica := t.mica, regs := t.regs }) ∧
  (∀ (s t : State) (ok : Bool) (psr : Bool), Instr.wf (.scanTrainDone ok psr) = true →
    exec (.scanTrainDone ok psr) s = .next t → t = { s with dram := t.dram, flt := t.flt, out := t.out, regs := t.regs, scan := t.scan } ∧ RegsKept [.drcc, .flt, .scan] s t) ∧
  (∀ (s t : State) (high : Bool), Instr.wf (.edpHpdEdge high) = true →
    exec (.edpHpdEdge high) s = .next t → t = { s with flt := t.flt, out := t.out, regs := t.regs, scan := t.scan } ∧ RegsKept [.flt, .scan] s t) ∧
  (∀ (s t : State), Instr.wf (.scanTrainRetry) = true →
    exec (.scanTrainRetry) s = .next t → t = { s with regs := t.regs, scan := t.scan } ∧ RegsKept [.scan] s t) ∧
  (∀ (s t : State), Instr.wf (.scanLatchPoint) = true →
    exec (.scanLatchPoint) s = .next t → t = { s with regs := t.regs, scan := t.scan } ∧ RegsKept [.scan] s t) ∧
  (∀ (s t : State), Instr.wf (.scanFrameStart) = true →
    exec (.scanFrameStart) s = .next t → t = { s with flt := t.flt, lastRaise := t.lastRaise, out := t.out, regs := t.regs, scan := t.scan } ∧ RegsKept [.flt, .scan] s t) ∧
  (∀ (s t : State), Instr.wf (.underrun) = true →
    exec (.underrun) s = .next t → t = { s with flt := t.flt, freeCtr := t.freeCtr, lastRaise := t.lastRaise, regs := t.regs } ∧ RegsKept [.flt, .scan] s t) ∧
  (∀ (s t : State) (accepted : Bool), Instr.wf (.psrEntry accepted) = true →
    exec (.psrEntry accepted) s = .next t → t = { s with flt := t.flt, out := t.out, regs := t.regs } ∧ RegsKept [.flt, .scan] s t) ∧
  (∀ (s t : State) (code : Nat) (bytes : List Byte), Instr.wf (.auxReply code bytes) = true →
    exec (.auxReply code bytes) s = .next t → t = { s with out := t.out, regs := t.regs, scan := t.scan } ∧ RegsKept [.scan] s t) ∧
  (∀ (s t : State), Instr.wf (.auxTimeout) = true →
    exec (.auxTimeout) s = .next t → t = { s with regs := t.regs, scan := t.scan } ∧ RegsKept [.scan] s t) ∧
  (∀ (s t : State) (n : Nat), Instr.wf (.polInv n) = true →
    exec (.polInv n) s = .next t → t = { s with freeCtr := t.freeCtr, lanes := t.lanes, regs := t.regs } ∧ RegsKept [.lane] s t) ∧
  (∀ (s t : State) (q : Nat) (p : Nat), Instr.wf (.pllRelock q p) = true →
    exec (.pllRelock q p) s = .next t → t = { s with fab := t.fab, flt := t.flt, freeCtr := t.freeCtr, lanes := t.lanes, lastRaise := t.lastRaise, regs := t.regs, sdi := t.sdi } ∧ RegsKept [.fab, .flt, .lane, .quad, .sdi] s t) ∧
  (∀ (s t : State) (n : Nat) (ctle : Nat) (dfe14 : Nat) (dfe5 : Nat), Instr.wf (.eqLimit n ctle dfe14 dfe5) = true →
    exec (.eqLimit n ctle dfe14 dfe5) s = .next t → t = { s with flt := t.flt, freeCtr := t.freeCtr, lanes := t.lanes, lastRaise := t.lastRaise, regs := t.regs } ∧ RegsKept [.flt, .lane] s t) ∧
  (∀ (s t : State) (n : Nat) (height : Nat) (width : Nat), Instr.wf (.eyeMeasure n height width) = true →
    exec (.eyeMeasure n height width) s = .next t → t = { s with freeCtr := t.freeCtr, lanes := t.lanes, regs := t.regs } ∧ RegsKept [.lane] s t) ∧
  (∀ (s t : State), Instr.wf (.edpLinkLoss) = true →
    exec (.edpLinkLoss) s = .next t → t = { s with flt := t.flt, out := t.out, regs := t.regs, scan := t.scan } ∧ RegsKept [.flt, .scan] s t) ∧
  (∀ (s t : State) (n : Nat) (clean : Nat) (errors : Nat), Instr.wf (.prbsCheck n clean errors) = true →
    exec (.prbsCheck n clean errors) s = .next t → t = { s with regs := t.regs } ∧ RegsKept [.lane] s t)

/-- What the commands of the links, the twin, the druse bus, JRP, management, time, DRAM and keys leave alone. Each of these
commands, in any state where it answers a next state, changes no field of the state but those listed, and no register
outside the pages of the block types listed where they are: UNLOCK_TIMEOUT, PAUSE_WD_RELEASE, LINK_UP, STATS_SNAP_PERIOD,
PTP_MESSAGE_SEND, HOLDOVER_UPDATE, PHSTEP_DONE, REFRESH_DUE, MR4_POLL, REQUEST_AGE_EXPIRE, SCRUB_LATE, TRACK_INTERVAL,
DRC_CHKINV_APPLY, TWIN_LINK_UP, LINK_UP_RECORD_RX, TWIN_DEADTIME, COPY_RESEND, MIRROR_RESEND, SUPPLY_OK_EDGE, PMBUS_POLL,
GBUS_TX_LATCH, GBUS_OWN_SLOT, GBUS_SLOT_MISS, GBUS_PAIR_WINDOW, TERR_TIMEOUT, EVENT_RAISE, SLOT_HELD, PIN_READBACK, WDOG,
SENSOR_CONVERSION, SP_TRANSACTION_DONE, SP_TIMEOUT, PRESENCE, PRESENCE_WINDOW_EXPIRE, SEAL_OPEN, CLOSE, SESSION_TIMEOUT,
SESSION_RETAIN_EXPIRE, FINAL_STATUS, NOTIFY_SEND, PCS_LOCK, SEAL_CLOSED, PRESENCE_RELEASE, AVS_REQUEST, AVS_ANSWER,
AVS_TIMEOUT. (95_what_each_step_holds.md) -/
def Obligations.LinkFramesOfEffect : Prop :=
  (∀ (s t : State) (m : Nat), Instr.wf (.unlockTimeout m) = true →
    exec (.unlockTimeout m) s = .next t → t = { s with mgt := t.mgt }) ∧
  (∀ (s t : State) (p : Nat), Instr.wf (.pauseWdRelease p) = true →
    exec (.pauseWdRelease p) s = .next t → t = { s with regs := t.regs } ∧ RegsKept [.eth] s t) ∧
  (∀ (s t : State) (p : Nat), Instr.wf (.linkUp p) = true →
    exec (.linkUp p) s = .next t → t = { s with flt := t.flt, lastRaise := t.lastRaise, regs := t.regs } ∧ RegsKept [.eth, .flt] s t) ∧
  (∀ (s t : State), Instr.wf (.statsSnapPeriod) = true →
    exec (.statsSnapPeriod) s = .next t → t = { s with eth := t.eth, freeCtr := t.freeCtr, regs := t.regs } ∧ RegsKept [.eth] s t) ∧
  (∀ (s t : State) (port : Nat) (kind : PtpKind) (stamp : Nat), Instr.wf (.ptpMessageSend port kind stamp) = true →
    exec (.ptpMessageSend port kind stamp) s = .next t → t = { s with flt := t.flt, out := t.out, regs := t.regs, time := t.time } ∧ RegsKept [.flt] s t) ∧
  (∀ (s t : State), Instr.wf (.holdoverUpdate) = true →
    exec (.holdoverUpdate) s = .next t → t = { s with flt := t.flt, lode := t.lode, regs := t.regs } ∧ RegsKept [.flt, .lode] s t) ∧
  (∀ (s t : State), Instr.wf (.phstepDone) = true →
    exec (.phstepDone) s = .next t → t = { s with flt := t.flt, lode := t.lode, regs := t.regs } ∧ RegsKept [.flt, .lode] s t) ∧
  (∀ (s t : State) (c : Nat) (c0queued : Bool), Instr.wf (.refreshDue c c0queued) = true →
    exec (.refreshDue c c0queued) s = .next t → t = { s with flt := t.flt, lastRaise := t.lastRaise, regs := t.regs } ∧ RegsKept [.drc, .drcc, .flt] s t) ∧
  (∀ (s t : State) (c : Nat) (code : Nat) (band : Nat) (overs : Bool), Instr.wf (.mr4Poll c code band overs) = true →
    exec (.mr4Poll c code band overs) s = .next t → t = { s with dram := t.dram, flt := t.flt, lastRaise := t.lastRaise, regs := t.regs } ∧ RegsKept [.drc, .flt] s t) ∧
  (∀ (s t : State) (c : Nat) (cls : Nat), Instr.wf (.requestAgeExpire c cls) = true →
    exec (.requestAgeExpire c cls) s = .next t → t = { s with flt := t.flt, lastRaise := t.lastRaise, regs := t.regs } ∧ RegsKept [.drc, .flt] s t) ∧
  (∀ (s t : State), Instr.wf (.scrubLate) = true →
    exec (.scrubLate) s = .next t → t = { s with dram := t.dram, flt := t.flt, lastRaise := t.lastRaise, regs := t.regs } ∧ RegsKept [.drcc, .flt] s t) ∧
  (∀ (s t : State) (c : Nat) (move : Int), Instr.wf (.trackInterval c move) = true →
    exec (.trackInterval c move) s = .next t → t = { s with flt := t.flt, lastRaise := t.lastRaise, regs := t.regs } ∧ RegsKept [.drc, .flt] s t) ∧
  (∀ (s t : State), Instr.wf (.drcChkinvApply) = true →
    exec (.drcChkinvApply) s = .next t → t = { s with dram := t.dram, regs := t.regs } ∧ RegsKept [.drcc] s t) ∧
  (∀ (s t : State) (secondary : Bool), Instr.wf (.twinLinkUp secondary) = true →
    exec (.twinLinkUp secondary) s = .next t → t = { s with freeCtr := t.freeCtr, out := t.out, regs := t.regs, twin := t.twin } ∧ RegsKept [.twin] s t) ∧
  (∀ (s t : State) (ok : Bool) (id : LinkUpId) (measFw : Nat) (measPair : Nat) (claim : Nat), Instr.wf (.linkUpRecordRx ok id measFw measPair claim) = true →
    exec (.linkUpRecordRx ok id measFw measPair claim) s = .next t → t = { s with flt := t.flt, jrp := t.jrp, regs := t.regs, twin := t.twin } ∧ RegsKept [.cfg, .flt, .twin] s t) ∧
  (∀ (s t : State), Instr.wf (.twinDeadtime) = true →
    exec (.twinDeadtime) s = .next t → t = { s with flt := t.flt, jrp := t.jrp, regs := t.regs, twin := t.twin } ∧ RegsKept [.flt, .twin] s t) ∧
  (∀ (s t : State), Instr.wf (.copyResend) = true →
    exec (.copyResend) s = .next t → t = { s with out := t.out, regs := t.regs, twin := t.twin } ∧ RegsKept [.twin] s t) ∧
  (∀ (s t : State) (seq : Nat), Instr.wf (.mirrorResend seq) = true →
    exec (.mirrorResend seq) s = .next t → t = { s with out := t.out, twin := t.twin }) ∧
  (∀ (s t : State) (feed : Nat) (good : Bool), Instr.wf (.supplyOkEdge feed good) = true →
    exec (.supplyOkEdge feed good) s = .next t → t = { s with flt := t.flt, regs := t.regs } ∧ RegsKept [.flt, .twin] s t) ∧
  (∀ (s t : State) (feed : Nat) (words : Option PmbusWords), Instr.wf (.pmbusPoll feed words) = true →
    exec (.pmbusPoll feed words) s = .next t → t = { s with flt := t.flt, regs := t.regs, twin := t.twin } ∧ RegsKept [.flt, .sns, .twin] s t) ∧
  (∀ (s t : State), Instr.wf (.gbusTxLatch) = true →
    exec (.gbusTxLatch) s = .next t → t = { s with gbus := t.gbus, regs := t.regs } ∧ RegsKept [.gbus] s t) ∧
  (∀ (s t : State), Instr.wf (.gbusOwnSlot) = true →
    exec (.gbusOwnSlot) s = .next t → t = { s with flt := t.flt, gbus := t.gbus, jrp := t.jrp, mgt := t.mgt, out := t.out, regs := t.regs } ∧ RegsKept [.flt, .gbus] s t) ∧
  (∀ (s t : State) (slot : Nat), Instr.wf (.gbusSlotMiss slot) = true →
    exec (.gbusSlotMiss slot) s = .next t → t = { s with flt := t.flt, regs := t.regs } ∧ RegsKept [.flt, .gbus] s t) ∧
  (∀ (s t : State) (gotA : List Nat) (gotB : List Nat), Instr.wf (.gbusPairWindow gotA gotB) = true →
    exec (.gbusPairWindow gotA gotB) s = .next t → t = { s with flt := t.flt, gbus := t.gbus, regs := t.regs } ∧ RegsKept [.flt, .gbus] s t) ∧
  (∀ (s t : State), Instr.wf (.terrTimeout) = true →
    exec (.terrTimeout) s = .next t → t = { s with flt := t.flt, gbus := t.gbus, regs := t.regs } ∧ RegsKept [.flt, .gbus] s t) ∧
  (∀ (s t : State) (src : Nat) (data : Word), Instr.wf (.eventRaise src data) = true →
    exec (.eventRaise src data) s = .next t → t = { s with flt := t.flt, regs := t.regs } ∧ RegsKept [.flt] s t) ∧
  (∀ (s t : State) (slot : Nat), Instr.wf (.slotHeld slot) = true →
    exec (.slotHeld slot) s = .next t → t = { s with flt := t.flt, regs := t.regs } ∧ RegsKept [.flt] s t) ∧
  (∀ (s t : State) (a : Bool) (b : Bool), Instr.wf (.pinReadback a b) = true →
    exec (.pinReadback a b) s = .next t → t = { s with flt := t.flt, regs := t.regs } ∧ RegsKept [.flt] s t) ∧
  (∀ (s t : State), Instr.wf (.wdog) = true →
    exec (.wdog) s = .next t → t = { s with mgt := t.mgt, regs := t.regs } ∧ RegsKept [.flt, .mgt] s t) ∧
  (∀ (s t : State) (volt : Bool) (value : Nat) (fault : Bool), Instr.wf (.sensorConversion volt value fault) = true →
    exec (.sensorConversion volt value fault) s = .next t → t = { s with flt := t.flt, mgt := t.mgt, regs := t.regs } ∧ RegsKept [.flt, .sns] s t) ∧
  (∀ (s t : State), Instr.wf (.spTransactionDone) = true →
    exec (.spTransactionDone) s = .next t → t = { s with mgt := t.mgt }) ∧
  (∀ (s t : State), Instr.wf (.spTimeout) = true →
    exec (.spTimeout) s = .next t → t = { s with freeCtr := t.freeCtr, mgt := t.mgt, regs := t.regs } ∧ RegsKept [.bmx] s t) ∧
  (∀ (s t : State), Instr.wf (.presence) = true →
    exec (.presence) s = .next t → t = { s with flt := t.flt, key := t.key, regs := t.regs } ∧ RegsKept [.flt, .key] s t) ∧
  (∀ (s t : State), Instr.wf (.presenceWindowExpire) = true →
    exec (.presenceWindowExpire) s = .next t → t = { s with key := t.key, regs := t.regs } ∧ RegsKept [.key] s t) ∧
  (∀ (s t : State), Instr.wf (.sealOpen) = true →
    exec (.sealOpen) s = .next t → t = { s with flt := t.flt, key := t.key, regs := t.regs } ∧ RegsKept [.flt, .key] s t) ∧
  (∀ (s t : State) (h : JrpHdr), Instr.wf (.close h) = true →
    exec (.close h) s = .next t → t = { s with jrp := t.jrp }) ∧
  (∀ (s t : State) (session : Nat), Instr.wf (.sessionTimeout session) = true →
    exec (.sessionTimeout session) s = .next t → t = { s with jrp := t.jrp }) ∧
  (∀ (s t : State) (session : Nat), Instr.wf (.sessionRetainExpire session) = true →
    exec (.sessionRetainExpire session) s = .next t → t = { s with jrp := t.jrp }) ∧
  (∀ (s t : State), Instr.wf (.finalStatus) = true →
    exec (.finalStatus) s = .next t → t = { s with fab := t.fab, flt := t.flt, freeCtr := t.freeCtr, jrp := t.jrp, regs := t.regs } ∧ RegsKept [.chn, .fab, .flt] s t) ∧
  (∀ (s t : State) (session : Nat), Instr.wf (.notifySend session) = true →
    exec (.notifySend session) s = .next t → t = { s with jrp := t.jrp, out := t.out }) ∧
  (∀ (s t : State) (p : Nat), Instr.wf (.pcsLock p) = true →
    exec (.pcsLock p) s = .next t → t = { s with eth := t.eth, freeCtr := t.freeCtr, out := t.out, regs := t.regs } ∧ RegsKept [.eth] s t) ∧
  (∀ (s t : State), Instr.wf (.sealClosed) = true →
    exec (.sealClosed) s = .next t → t = { s with regs := t.regs } ∧ RegsKept [.key] s t) ∧
  (∀ (s t : State), Instr.wf (.presenceRelease) = true →
    exec (.presenceRelease) s = .next t → t = { s with key := t.key, regs := t.regs } ∧ RegsKept [.key] s t) ∧
  (∀ (s t : State) (up : Bool), Instr.wf (.avsRequest up) = true →
    exec (.avsRequest up) s = .next t → t = { s with avs := t.avs, out := t.out }) ∧
  (∀ (s t : State) (ok : Bool), Instr.wf (.avsAnswer ok) = true →
    exec (.avsAnswer ok) s = .next t → t = { s with avs := t.avs }) ∧
  (∀ (s t : State), Instr.wf (.avsTimeout) = true →
    exec (.avsTimeout) s = .next t → t = { s with avs := t.avs })
end

