-- ==== Sys2Proof/Laws/Assoc.lean ====
section
/-! SUPPORT. Laws of the sorted tables: what is read after a write, and that a write keeps the canonical form. -/

namespace Sys2Proof.Machine

variable {α : Type}

@[simp] theorem Assoc.find_put_same (l : List (Nat × α)) (a : Nat) (x : α) : Assoc.find (Assoc.put l a x) a = some x := by
  induction l with
  | nil => simp [Assoc.put, Assoc.find]
  | cons p t ih =>
    obtain ⟨k, v⟩ := p
    unfold Assoc.put
    split
    · simp [Assoc.find]
    · split
      · simp [Assoc.find]
      · simp [Assoc.find, *]

theorem Assoc.find_put_other (l : List (Nat × α)) (a b : Nat) (x : α) (h : b ≠ a) :
    Assoc.find (Assoc.put l a x) b = Assoc.find l b := by
  induction l with
  | nil => simp [Assoc.put, Assoc.find, Ne.symm h]
  | cons p t ih =>
    obtain ⟨k, v⟩ := p
    unfold Assoc.put
    split
    · subst k; simp [Assoc.find, Ne.symm h]
    · split
      · simp [Assoc.find, Ne.symm h]
      · simp [Assoc.find, ih]

@[simp] theorem Assoc.find_del_same (l : List (Nat × α)) (a : Nat) : Assoc.find (Assoc.del l a) a = none := by
  induction l with
  | nil => rfl
  | cons p t ih =>
    obtain ⟨k, v⟩ := p
    unfold Assoc.del
    split
    · exact ih
    · simp [Assoc.find, *]

theorem Assoc.find_del_other (l : List (Nat × α)) (a b : Nat) (h : b ≠ a) :
    Assoc.find (Assoc.del l a) b = Assoc.find l b := by
  induction l with
  | nil => rfl
  | cons p t ih =>
    obtain ⟨k, v⟩ := p
    unfold Assoc.del
    split
    · subst k; simp [Assoc.find, Ne.symm h, ih]
    · simp [Assoc.find, ih]

@[simp] theorem Assoc.findD_set_same [DecidableEq α] (l : List (Nat × α)) (a : Nat) (x d : α) :
    Assoc.findD (Assoc.set l a x d) a d = x := by
  unfold Assoc.set Assoc.findD
  split
  · simp [*]
  · simp

theorem Assoc.findD_set_other [DecidableEq α] (l : List (Nat × α)) (a b : Nat) (x d e : α) (h : b ≠ a) :
    Assoc.findD (Assoc.set l a x d) b e = Assoc.findD l b e := by
  unfold Assoc.set Assoc.findD
  split
  · rw [Assoc.find_del_other l a b h]
  · rw [Assoc.find_put_other l a b x h]

/-- Every key of a table lies above a bound. -/
def Assoc.above (n : Nat) (l : List (Nat × α)) : Prop := ∀ p ∈ l, n < p.1

theorem Assoc.sorted_cons (k : Nat) (v : α) (t : List (Nat × α)) :
    Assoc.sorted ((k, v) :: t) = true ↔ Assoc.above k t ∧ Assoc.sorted t = true := by
  induction t generalizing k v with
  | nil => simp [Assoc.sorted, Assoc.above]
  | cons p t ih =>
    obtain ⟨j, w⟩ := p
    simp only [Assoc.sorted, Bool.and_eq_true, decide_eq_true_eq]
    constructor
    · intro ⟨h1, h2⟩
      refine ⟨?_, h2⟩
      intro q hq
      rcases List.mem_cons.mp hq with rfl | hq
      · exact h1
      · exact lt_trans h1 ((ih j w).mp h2 |>.1 q hq)
    · intro ⟨h1, h2⟩
      exact ⟨h1 (j, w) (by simp), h2⟩

theorem Assoc.mem_put {l : List (Nat × α)} {a : Nat} {x : α} {p : Nat × α} (h : p ∈ Assoc.put l a x) :
    p = (a, x) ∨ p ∈ l := by
  induction l with
  | nil => simpa [Assoc.put] using h
  | cons q t ih =>
    obtain ⟨k, v⟩ := q
    unfold Assoc.put at h
    split at h
    · rcases List.mem_cons.mp h with h | h
      · exact .inl h
      · exact .inr (List.mem_cons_of_mem _ h)
    · split at h
      · rcases List.mem_cons.mp h with h | h
        · exact .inl h
        · exact .inr h
      · rcases List.mem_cons.mp h with h | h
        · exact .inr (by simp [h])
        · rcases ih h with h | h
          · exact .inl h
          · exact .inr (List.mem_cons_of_mem _ h)

theorem Assoc.mem_del {l : List (Nat × α)} {a : Nat} {p : Nat × α} (h : p ∈ Assoc.del l a) : p ∈ l := by
  induction l with
  | nil => simp [Assoc.del] at h
  | cons q t ih =>
    obtain ⟨k, v⟩ := q
    unfold Assoc.del at h
    split at h
    · exact List.mem_cons_of_mem _ (ih h)
    · rcases List.mem_cons.mp h with h | h
      · simp [h]
      · exact List.mem_cons_of_mem _ (ih h)

theorem Assoc.sorted_put {l : List (Nat × α)} (a : Nat) (x : α) (h : Assoc.sorted l = true) :
    Assoc.sorted (Assoc.put l a x) = true := by
  induction l with
  | nil => rfl
  | cons q t ih =>
    obtain ⟨k, v⟩ := q
    have ⟨h1, h2⟩ := (Assoc.sorted_cons k v t).mp h
    unfold Assoc.put
    split
    · subst k; exact (Assoc.sorted_cons _ _ _).mpr ⟨h1, h2⟩
    · split
      · rename_i hlt
        refine (Assoc.sorted_cons _ _ _).mpr ⟨?_, h⟩
        intro p hp
        rcases List.mem_cons.mp hp with rfl | hp
        · exact hlt
        · exact lt_trans hlt (h1 p hp)
      · refine (Assoc.sorted_cons _ _ _).mpr ⟨?_, ih h2⟩
        intro p hp
        rcases Assoc.mem_put hp with rfl | hp
        · change k < a; omega
        · exact h1 p hp

theorem Assoc.sorted_del {l : List (Nat × α)} (a : Nat) (h : Assoc.sorted l = true) :
    Assoc.sorted (Assoc.del l a) = true := by
  induction l with
  | nil => rfl
  | cons q t ih =>
    obtain ⟨k, v⟩ := q
    have ⟨h1, h2⟩ := (Assoc.sorted_cons k v t).mp h
    unfold Assoc.del
    split
    · exact ih h2
    · refine (Assoc.sorted_cons _ _ _).mpr ⟨?_, ih h2⟩
      intro p hp
      exact h1 p (Assoc.mem_del hp)

/-- A write keeps the canonical form. -/
theorem Assoc.canon_set [DecidableEq α] {d : Nat → α} {l : List (Nat × α)} (a : Nat) (x : α)
    (h : Assoc.canon d l = true) : Assoc.canon d (Assoc.set l a x (d a)) = true := by
  simp only [Assoc.canon, Bool.and_eq_true, List.all_eq_true, decide_eq_true_eq] at h ⊢
  obtain ⟨hs, ha⟩ := h
  unfold Assoc.set
  split
  · exact ⟨Assoc.sorted_del a hs, fun p hp => ha p (Assoc.mem_del hp)⟩
  · rename_i hx
    refine ⟨Assoc.sorted_put a x hs, fun p hp => ?_⟩
    rcases Assoc.mem_put hp with rfl | hp
    · exact hx
    · exact ha p hp

end Sys2Proof.Machine
end

