-- ==== Sys2Proof/Laws/Registers.lean ====
section
/-! SUPPORT. Laws of the register file: what a field reads after it, or another field, was set, and what the raise of an event
leaves alone. Later proofs cite these and never unfold `set` or `wr`. -/

namespace Sys2Proof.Machine

/-- Two fields have no bit in common. -/
def FRef.apart (r q : FRef) : Bool := r.addr != q.addr || decide (r.hi < q.lo) || decide (q.hi < r.lo)

theorem FRef.apart_of_addr {r q : FRef} (h : r.addr ≠ q.addr) : r.apart q = true := by simp [FRef.apart, h]

namespace State

variable (s : State)

@[simp] theorem rd_wr_same (a : Nat) (w : Word) : (s.wr a w).rd a = w := by simp [rd, wr]

theorem rd_wr_other {a b : Nat} (w : Word) (h : b ≠ a) : (s.wr a w).rd b = s.rd b := by
  unfold rd wr
  exact Assoc.findD_set_other s.regs a b w _ _ h

theorem get_wr_other {r : FRef} {a : Nat} (w : Word) (h : r.addr ≠ a) : (s.wr a w).get r = s.get r := by
  simp only [get, rd_wr_other s w h]

theorem get_wr_same {r : FRef} (w : Word) : (s.wr r.addr w).get r = bits w.toNat r.hi r.lo := by simp [get]

theorem rd_set_same {r : FRef} (v : Nat) (h : r.hi < 32) :
    ((s.set r v).rd r.addr).toNat = setBits (s.rd r.addr).toNat r.hi r.lo v := by
  simp only [set, rd_wr_same, BitVec.toNat_ofNat]
  exact Nat.mod_eq_of_lt (setBits_lt (s.rd r.addr).isLt h)

/-- A field reads what it was set to, to its width. -/
theorem get_set_same {r : FRef} (v : Nat) (h : r.hi < 32) : (s.set r v).get r = v % 2 ^ r.width := by
  simp only [get, rd_set_same s v h, bits_setBits_same, FRef.width]

/-- A field keeps its value when one apart from it is set. -/
theorem get_set_other {r q : FRef} (v : Nat) (h : r.apart q = true) (hq : q.hi < 32) : (s.set q v).get r = s.get r := by
  by_cases ha : r.addr = q.addr
  · simp only [get]
    rw [ha, rd_set_same s v hq]
    apply bits_setBits_other
    simp [FRef.apart, ha] at h
    omega
  · exact get_wr_other s _ ha

theorem rd_set_other {a : Nat} {q : FRef} (v : Nat) (h : a ≠ q.addr) : (s.set q v).rd a = s.rd a := rd_wr_other s _ h

@[simp] theorem when_true (f : State → State) : s.when true f = f s := rfl
@[simp] theorem when_false (f : State → State) : s.when false f = s := rfl

/-- What a conditional change keeps, whatever the condition. -/
theorem when_keeps {β : Type} (p : State → β) (c : Bool) (f : State → State) (h : p (f s) = p s) : p (s.when c f) = p s := by
  cases c
  · rfl
  · exact h

/-- What every change of a sequence keeps. -/
theorem each_keeps {α β : Type} (p : State → β) (f : α → State → State) (l : List α) (h : ∀ x t, p (f x t) = p t) :
    p (s.each l f) = p s := by
  unfold each
  induction l generalizing s with
  | nil => rfl
  | cons x l ih => rw [List.foldl_cons, ih, h]

/-- A predicate that every change of a sequence keeps. -/
theorem each_inv {α : Type} (p : State → Prop) (f : α → State → State) (l : List α) (h : ∀ x t, p t → p (f x t)) (h0 : p s) :
    p (s.each l f) := by
  unfold each
  induction l generalizing s with
  | nil => exact h0
  | cons x l ih => rw [List.foldl_cons]; exact ih _ (h x s h0)

/-- The register file as a raise leaves it: the counters of FLT.CNT may have moved, nothing else. -/
theorem get_raiseWord {r : FRef} (src : Nat) (d : Word) (h : r.addr < 0x11003000 ∨ 0x11004800 ≤ r.addr) :
    (s.raiseWord src d).get r = s.get r := by
  unfold raiseWord
  split
  · rename_i hs
    have h1 : r.apart (Reg.FLT.CNT_RAISED src) = true := by
      apply FRef.apart_of_addr; simp only [Reg.FLT.CNT_RAISED]; omega
    have h2 : r.apart (Reg.FLT.CNT_MERGES src) = true := by
      apply FRef.apart_of_addr; simp only [Reg.FLT.CNT_MERGES]; omega
    rw [when_keeps _ (fun t => t.get r)]
    · unfold bump
      rw [get_set_other _ _ h1 (by simp [Reg.FLT.CNT_RAISED])]
      rfl
    · unfold bump
      rw [get_set_other _ _ h2 (by simp [Reg.FLT.CNT_MERGES])]
  · rfl

theorem get_raise {r : FRef} (src : Nat) (items : List Nat) (h : r.addr < 0x11003000 ∨ 0x11004800 ≤ r.addr) :
    (s.raise src items).get r = s.get r := get_raiseWord s src _ h

theorem get_raiseLimited {r : FRef} (k src : Nat) (items : List Nat) (h : r.addr < 0x11003000 ∨ 0x11004800 ≤ r.addr) :
    (s.raiseLimited k src items).get r = s.get r := by
  unfold raiseLimited
  split
  · rw [get_raise _ _ _ h]; rfl
  · rfl

/-- Setting a bit of a field keeps the fields apart from it. -/
theorem get_orBit_other {r q : FRef} (i : Nat) (h : r.apart q = true) (hq : q.hi < 32) : (s.orBit q i).get r = s.get r :=
  get_set_other s _ h hq

theorem get_bump_other {r q : FRef} (n : Nat) (h : r.apart q = true) (hq : q.hi < 32) : (s.bump q n).get r = s.get r :=
  get_set_other s _ h hq

theorem get_bumpSat_other {r q : FRef} (n : Nat) (h : r.apart q = true) (hq : q.hi < 32) : (s.bumpSat q n).get r = s.get r :=
  get_set_other s _ h hq

theorem get_setB_other {r q : FRef} (b : Bool) (h : r.apart q = true) (hq : q.hi < 32) : (s.setB q b).get r = s.get r :=
  get_set_other s _ h hq

/-- A one-bit field reads the Boolean it was set from. -/
theorem flag_setB_same {r : FRef} (b : Bool) (h : r.hi < 32) (hw : r.lo ≤ r.hi) : (s.setB r b).flag r = b := by
  unfold setB flag
  rw [get_set_same s _ h]
  have : 1 < 2 ^ r.width := Nat.one_lt_two_pow (by unfold FRef.width; omega)
  cases b
  · simp [b2n]
  · simp [b2n, Nat.mod_eq_of_lt this]

end State

end Sys2Proof.Machine
end

