-- ==== Sys2Proof/Laws/Bus.lean ====
section
/-! SUPPORT. Laws of the bus matrix: what a 32-bit register write does when no master holds a target and no write waits. -/

namespace Sys2Proof.Machine

/-- A state as a landing write meets it, beside the state in which the write was issued: no write waits, the unlock of the
master is consumed and its answer noted, STAT.WPEND of the block may show, and all else is as it was. -/
structure State.Landed (m : Nat) (b : Blk) (s t : State) : Prop where
  rest : t = { s with regs := t.regs, mgt := t.mgt, landing := [] }
  regs : ∀ r : FRef, r.apart b.wpend = true → t.get r = s.get r
  words : ∀ a, a ≠ b.base + 4 → t.rd a = s.rd a
  mgt : t.mgt = { (s.disarm m).mgt with readBack := Assoc.put s.mgt.readBack m ⟨0, 0⟩ }

/-- No field of a register is held in the bus-matrix domain. -/
def RegDef.plain (r : RegDef) : Bool := r.off != 0 && r.flds.all fun f => f.acc != .rwd && f.acc != .rwl

namespace State

/-- An address of the register space reaches its block. -/
theorem place_block {addr : Nat} {b : Blk} {o : Nat} (s : State) (h : Blk.ofAddr addr = some (b, o))
    (hl : 0x10000000 ≤ addr) (hh : addr < 0x40000000) : s.place addr = .block b := by
  unfold place
  rw [if_neg (by omega), if_neg (by omega), h]

theorem wpend_apart_en (b : Blk) : b.wpend.apart b.en = true := by
  apply FRef.apart_of_addr; simp [Blk.wpend, Blk.en]

theorem foldl_same {α β : Type} (g : β → α → β) (l : List α) (v : β) (h : ∀ x ∈ l, g v x = v) : l.foldl g v = v := by
  induction l with
  | nil => rfl
  | cons x t ih => rw [List.foldl_cons, h x (by simp)]; exact ih fun y hy => h y (by simp [hy])

theorem heldWord_plain {b : Blk} {r : RegDef} (en unl : Bool) (old data : Nat) (h : r.plain = true) :
    heldWord b r en unl old data = old := by
  unfold RegDef.plain at h
  simp only [Bool.and_eq_true, bne_iff_ne, ne_eq, List.all_eq_true] at h
  apply foldl_same
  intro f hf
  have hg := h.2 f hf
  cases hacc : f.acc <;> simp_all

theorem noneIgnored {r : RegDef} (en : Bool) (old data : Nat) (h : r.plain = true) :
    r.flds.any (fieldIgnored en old data) = false := by
  unfold RegDef.plain at h
  simp only [Bool.and_eq_true, bne_iff_ne, ne_eq, List.all_eq_true] at h
  rw [List.any_eq_false]
  intro f hf
  have := h.2 f hf
  simp [fieldIgnored, this.1]

theorem noneLocked {r : RegDef} (unl : Bool) (old data : Nat) (h : r.plain = true) :
    r.flds.any (fieldLocked unl old data) = false := by
  unfold RegDef.plain at h
  simp only [Bool.and_eq_true, bne_iff_ne, ne_eq, List.all_eq_true] at h
  rw [List.any_eq_false]
  intro f hf
  have := h.2 f hf
  simp [fieldLocked, this.2]

theorem noneTaken {r : RegDef} (en unl : Bool) (h : r.plain = true) :
    (r.flds.any fun f => (f.acc == Acc.rwd && !en) || (f.acc == Acc.rwl && unl)) = false := by
  unfold RegDef.plain at h
  simp only [Bool.and_eq_true, bne_iff_ne, ne_eq, List.all_eq_true] at h
  rw [List.any_eq_false]
  intro f hf
  have := h.2 f hf
  simp [this.1, this.2]

/-- The landing that a plain write leaves. -/
def plainLanding (m addr : Nat) (data : Word) : Landing :=
  { m := m, addr := addr, data := data, rise := false, fall := false, srst := false, cap := [], rxRest := false }

/-- A write of a plain register is accepted: it waits for its block, or takes effect at once on the bus side. -/
theorem acceptWrite_plain {m addr : Nat} {data : Word} {unl : Bool} {b : Blk} {r : RegDef} {i : Nat} (s : State)
    (hp : r.plain = true) (hl : b.kind ≠ .lane ∨ r.off ≠ 0x10) (ht : b.kind ≠ .time ∨ s.get b.en = 1)
    (hs : s.heldSpecial m b r.off i data = none) :
    s.acceptWrite m addr data unl b r i =
      if b.busSide then s.landWrite (plainLanding m addr data)
      else (({ s with landing := s.landing ++ [plainLanding m addr data] }).set b.wpend 1).when (addr == 0x12000034) showStepPend := by
  have h0 : (r.off == 0) = false := by
    unfold RegDef.plain at hp
    simp only [Bool.and_eq_true, bne_iff_ne, ne_eq] at hp
    simpa using hp.1
  have hlane : ¬(b.kind = .lane ∧ r.off = 0x10 ∧ s.laneCfgRefused b.inst data = true) := by
    rintro ⟨h1, h2, -⟩
    rcases hl with h | h
    · exact h h1
    · exact h h2
  have htime : ¬(b.kind = .time ∧ (!(s.get b.en == 1)) = true ∧ timeGated r.off = true) := by
    rintro ⟨h1, h2, -⟩
    rcases ht with h | h
    · exact h h1
    · simp [h] at h2
  unfold acceptWrite
  simp only [if_neg hlane, if_neg htime, noneIgnored _ _ _ hp, noneLocked _ _ _ hp, noneTaken _ _ hp, Bool.and_false, when_false, h0, Bool.false_and,
    heldWord_plain _ _ _ _ hp, if_true, hs, ite_self, plainLanding]
  cases (s.get b.en == 1) <;> simp

/-- A landing of one plain write runs what the register does on a landing. -/
theorem landWrite_some {m addr : Nat} {data : Word} {b : Blk} {r : RegDef} {i j : Nat} {s u : State}
    (hf : RegMap.find addr = some (b, r, i, j)) (hu : s.landSpecial m b r.off i data = some u) :
    s.landWrite (plainLanding m addr data) = u := by
  unfold landWrite plainLanding
  simp only [hf, when_false, hu]

theorem landWrite_none {m addr : Nat} {data : Word} {b : Blk} {r : RegDef} {i j : Nat} {s : State}
    (hf : RegMap.find addr = some (b, r, i, j)) (hu : s.landSpecial m b r.off i data = none) :
    s.landWrite (plainLanding m addr data) = (s.landStore r addr data).landAfter b r.off := by
  unfold landWrite plainLanding
  simp only [hf, when_false, hu]

/-- With no target held, a transaction that asks for no lock is carried out. -/
theorem busOp_free {op : BusOp} {s : State} (hlock : s.mgt.locks = []) (hop : op.lock = false) :
    s.busOp op = s.perform op := by
  unfold busOp issue lockOf mustWait
  simp only [hlock, hop, List.find?_nil, List.any_nil, Bool.false_eq_true, false_and, if_false, when_false]
  cases s.busTarget (s.issuedAt op) <;> rfl

/-- A transaction that was not kept waiting goes to its own address. -/
theorem issuedAt_now {op : BusOp} {s : State} (h : op.remap = s.flag Reg.BMX.CTRL_REMAP) : s.issuedAt op = op.addr := by
  simp [issuedAt, h]

/-- One write that waits takes effect, where the clock of its register runs. -/
theorem landAll_one {b : Blk} {t : State} {l : Landing} (h : t.landing = [l]) (hb : b.has l.addr = true)
    (hc : t.clockStopped b (l.addr - b.base) = false) (hr : l.rxRest = false) (hs : l.srst = false) :
    t.landAll b = (({ t with landing := [] }).landWrite l).showWpend b := by
  unfold landAll each
  simp only [h, List.filter_cons, hb, if_true, List.filter_nil, List.foldl_cons, List.foldl_nil, landOldest,
    List.find?_cons, List.erase_cons_head, waitsForClock, hc, hr, hs, Bool.false_eq_true, if_false, Bool.not_false,
    Bool.false_and, Bool.and_self]

theorem landAll_nil {b : Blk} {t : State} (h : t.landing = []) : t.landAll b = t := by
  unfold landAll each
  simp only [h, List.filter_nil, List.foldl_nil]

/-- The acceptance of a write by a master other than the service port. -/
theorem writeAt_block {m addr : Nat} {data : Word} {unl : Bool} {b : Blk} {r : RegDef} {i j o : Nat} (s : State)
    (hm : m ≤ 6) (hf : RegMap.find addr = some (b, r, i, j)) (ho : Blk.ofAddr addr = some (b, o))
    (hlo : 0x10000000 ≤ addr) (hhi : addr < 0x40000000) (hal : addr % 4 = 0) :
    s.writeAt m addr 4 data unl = (0, s.acceptWrite m addr data unl b r i) := by
  have hr : regAt addr = some (b, r, i) := by simp [regAt, hf]
  have hwp : s.writeProtected m = false := by
    have : (m == 7) = false := by simpa using (show m ≠ 7 by omega)
    simp [writeProtected, this]
  unfold writeAt
  rw [place_block s ho hlo hhi]
  simp only [hal, hr, hwp, ne_eq, not_true_eq_false, or_self, if_false, Bool.false_eq_true]

/-- A register write by a master other than the service port, with no target held. -/
theorem busWrite_block {m addr : Nat} {data : Word} {b : Blk} {r : RegDef} {i j o : Nat} (s : State)
    (hm : m ≤ 6) (hlock : s.mgt.locks = []) (hf : RegMap.find addr = some (b, r, i, j))
    (ho : Blk.ofAddr addr = some (b, o)) (hlo : 0x10000000 ≤ addr) (hhi : addr < 0x40000000) (hal : addr % 4 = 0) :
    s.busWrite m addr 4 data = ((s.disarm m).acceptWrite m addr data (m == 6 || s.armed m) b r i).answer m ⟨0, 0⟩ := by
  unfold busWrite
  rw [busOp_free (s := s.disarm m) hlock rfl]
  unfold perform
  rw [issuedAt_now (s := s.disarm m) rfl]
  simp only [if_true, writeAt_block _ hm hf ho hlo hhi hal]

/-- The state on which a plain write of another domain takes effect. -/
def landed (m : Nat) (b : Blk) (s : State) : State :=
  { (((s.disarm m).set b.wpend 1).answer m ⟨0, 0⟩) with landing := [] }

theorem landed_is (m : Nat) (b : Blk) (s : State) (hm : m ≤ 6) : Landed m b s (s.landed m b) := by
  refine ⟨?_, ?_, ?_, ?_⟩
  · simp only [landed, answer, updMgt, disarm, set, wr, if_neg (show m ≠ 7 by omega)]
  · intro r' hr
    have h1 : (s.landed m b).get r' = ((s.disarm m).set b.wpend 1).get r' := rfl
    rw [h1, get_set_other _ _ hr (by simp [Blk.wpend])]
    rfl
  · intro a ha
    have h1 : (s.landed m b).rd a = ((s.disarm m).set b.wpend 1).rd a := rfl
    rw [h1, rd_set_other _ _ (by simpa [Blk.wpend] using ha)]
    rfl
  · simp only [landed, answer, updMgt, disarm, set, wr, if_neg (show m ≠ 7 by omega)]

/-- The write of a plain register of a block of another domain, with no lock and no write waiting: it takes effect on a state
that is the one before, but for STAT.WPEND and the master's unlock and answer. -/
theorem writeNow_domain {m addr : Nat} {data : Word} {b : Blk} {r : RegDef} {i j o : Nat} (s : State)
    (hm : m ≤ 6) (hlock : s.mgt.locks = []) (hland : s.landing = [])
    (hf : RegMap.find addr = some (b, r, i, j)) (ho : Blk.ofAddr addr = some (b, o))
    (hlo : 0x10000000 ≤ addr) (hhi : addr < 0x40000000) (hal : addr % 4 = 0) (hhas : b.has addr = true)
    (hp : r.plain = true) (hl : b.kind ≠ .lane ∨ r.off ≠ 0x10) (ht : b.kind ≠ .time ∨ (s.disarm m).get b.en = 1) (hs : ∀ t : State, t.heldSpecial m b r.off i data = none)
    (hb : b.busSide = false) (hc : ∀ t : State, t.clockStopped b (addr - b.base) = false) (ha : (addr == 0x12000034) = false) :
    s.writeNow m addr data = ((s.landed m b).landWrite (plainLanding m addr data)).showWpend b := by
  unfold writeNow
  simp only [ho]
  rw [busWrite_block s hm hlock hf ho hlo hhi hal, acceptWrite_plain _ hp hl ht (hs _), hb, if_neg (by simp), ha, when_false]
  rw [landAll_one (l := plainLanding m addr data) ?_ hhas (hc _) rfl rfl]
  · simp only [landed, answer, updMgt, disarm, set, wr, rd, if_neg (show m ≠ 7 by omega)]
  · simp only [answer, updMgt, disarm, set, wr, if_neg (show m ≠ 7 by omega), hland, List.nil_append]

/-- The state on which a plain write of the bus side takes effect. -/
theorem writeNow_bus {m addr : Nat} {data : Word} {b : Blk} {r : RegDef} {i j o : Nat} (s : State)
    (hm : m ≤ 6) (hlock : s.mgt.locks = [])
    (hf : RegMap.find addr = some (b, r, i, j)) (ho : Blk.ofAddr addr = some (b, o))
    (hlo : 0x10000000 ≤ addr) (hhi : addr < 0x40000000) (hal : addr % 4 = 0)
    (hp : r.plain = true) (hl : b.kind ≠ .lane ∨ r.off ≠ 0x10) (ht : b.kind ≠ .time ∨ (s.disarm m).get b.en = 1) (hs : ∀ t : State, t.heldSpecial m b r.off i data = none)
    (hb : b.busSide = true) (hk : ((s.disarm m).landWrite (plainLanding m addr data)).landing = []) :
    s.writeNow m addr data = ((s.disarm m).landWrite (plainLanding m addr data)).answer m ⟨0, 0⟩ := by
  unfold writeNow
  simp only [ho]
  rw [busWrite_block s hm hlock hf ho hlo hhi hal, acceptWrite_plain _ hp hl ht (hs _), hb, if_pos rfl]
  exact landAll_nil (by simpa only [answer, updMgt, if_neg (show m ≠ 7 by omega)] using hk)

end State

end Sys2Proof.Machine
end

