-- ==== Sys2Proof/Laws/Events.lean ====
section
/-! SUPPORT. What raising an event, and marking a cause, can do: the fault collector's pending records, its counts, the EVSTAT bit
of the block, the time of the last raise, and nothing else; and that the register file stays canonical. -/

namespace Sys2Proof.Machine.State

variable (s : State)

/-- Everything a raise can change: registers (the collector's counts) and the collector's records. -/
theorem raiseWord_is (src : Nat) (d : Word) :
    s.raiseWord src d = { s with regs := (s.raiseWord src d).regs, flt := (s.raiseWord src d).flt } := by
  unfold raiseWord
  split
  · generalize (mergePend src d s.timeNs s.flt.pend) = q
    obtain ⟨q1, b⟩ := q
    cases b <;> rfl
  · rfl

theorem raise_is (src : Nat) (items : List Nat) :
    s.raise src items = { s with regs := (s.raise src items).regs, flt := (s.raise src items).flt } := raiseWord_is s src _

theorem raiseLimited_is (key src : Nat) (items : List Nat) :
    s.raiseLimited key src items = { s with
      regs := (s.raiseLimited key src items).regs, flt := (s.raiseLimited key src items).flt,
      lastRaise := (s.raiseLimited key src items).lastRaise } := by
  unfold raiseLimited
  split
  · rw [raise_is]
  · rfl

theorem cause_is (e v : FRef) (src c : Nat) (items : List Nat) :
    s.cause e v src c items = { s with
      regs := (s.cause e v src c items).regs, flt := (s.cause e v src c items).flt,
      lastRaise := (s.cause e v src c items).lastRaise } := by
  unfold cause
  simp only []
  split
  · rw [raiseLimited_is]; rfl
  · rfl

theorem event_is (e : FRef) (b src : Nat) (items : List Nat) :
    s.event e b src items = { s with regs := (s.event e b src items).regs, flt := (s.event e b src items).flt } := by
  unfold event
  rw [raise_is]; rfl

theorem eventEn_is (e v : FRef) (b src : Nat) (items : List Nat) :
    s.eventEn e v b src items = { s with regs := (s.eventEn e v b src items).regs, flt := (s.eventEn e v b src items).flt } := by
  unfold eventEn
  simp only []
  split
  · rw [raise_is]; rfl
  · rfl

@[simp] theorem raiseWord_pending (src : Nat) (d : Word) : (s.raiseWord src d).pending = s.pending := (congrArg (·.pending) (s.raiseWord_is src d) :)
@[simp] theorem raiseWord_now (src : Nat) (d : Word) : (s.raiseWord src d).now = s.now := (congrArg (·.now) (s.raiseWord_is src d) :)
@[simp] theorem raiseWord_freeCtr (src : Nat) (d : Word) : (s.raiseWord src d).freeCtr = s.freeCtr := (congrArg (·.freeCtr) (s.raiseWord_is src d) :)
@[simp] theorem raiseWord_inUse (src : Nat) (d : Word) : (s.raiseWord src d).inUse = s.inUse := (congrArg (·.inUse) (s.raiseWord_is src d) :)
@[simp] theorem raiseWord_landing (src : Nat) (d : Word) : (s.raiseWord src d).landing = s.landing := (congrArg (·.landing) (s.raiseWord_is src d) :)
@[simp] theorem raiseWord_wide (src : Nat) (d : Word) : (s.raiseWord src d).wide = s.wide := (congrArg (·.wide) (s.raiseWord_is src d) :)
@[simp] theorem raiseWord_restart (src : Nat) (d : Word) : (s.raiseWord src d).restart = s.restart := (congrArg (·.restart) (s.raiseWord_is src d) :)
@[simp] theorem raiseWord_lastRaise (src : Nat) (d : Word) : (s.raiseWord src d).lastRaise = s.lastRaise := (congrArg (·.lastRaise) (s.raiseWord_is src d) :)
@[simp] theorem raiseWord_out (src : Nat) (d : Word) : (s.raiseWord src d).out = s.out := (congrArg (·.out) (s.raiseWord_is src d) :)
@[simp] theorem raiseWord_mgt (src : Nat) (d : Word) : (s.raiseWord src d).mgt = s.mgt := (congrArg (·.mgt) (s.raiseWord_is src d) :)
@[simp] theorem raiseWord_fab (src : Nat) (d : Word) : (s.raiseWord src d).fab = s.fab := (congrArg (·.fab) (s.raiseWord_is src d) :)
@[simp] theorem raiseWord_prov (src : Nat) (d : Word) : (s.raiseWord src d).prov = s.prov := (congrArg (·.prov) (s.raiseWord_is src d) :)
@[simp] theorem raiseWord_chn (src : Nat) (d : Word) : (s.raiseWord src d).chn = s.chn := (congrArg (·.chn) (s.raiseWord_is src d) :)
@[simp] theorem raiseWord_sdi (src : Nat) (d : Word) : (s.raiseWord src d).sdi = s.sdi := (congrArg (·.sdi) (s.raiseWord_is src d) :)
@[simp] theorem raiseWord_ipm (src : Nat) (d : Word) : (s.raiseWord src d).ipm = s.ipm := (congrArg (·.ipm) (s.raiseWord_is src d) :)
@[simp] theorem raiseWord_aud (src : Nat) (d : Word) : (s.raiseWord src d).aud = s.aud := (congrArg (·.aud) (s.raiseWord_is src d) :)
@[simp] theorem raiseWord_cnv (src : Nat) (d : Word) : (s.raiseWord src d).cnv = s.cnv := (congrArg (·.cnv) (s.raiseWord_is src d) :)
@[simp] theorem raiseWord_mica (src : Nat) (d : Word) : (s.raiseWord src d).mica = s.mica := (congrArg (·.mica) (s.raiseWord_is src d) :)
@[simp] theorem raiseWord_scan (src : Nat) (d : Word) : (s.raiseWord src d).scan = s.scan := (congrArg (·.scan) (s.raiseWord_is src d) :)
@[simp] theorem raiseWord_lanes (src : Nat) (d : Word) : (s.raiseWord src d).lanes = s.lanes := (congrArg (·.lanes) (s.raiseWord_is src d) :)
@[simp] theorem raiseWord_eth (src : Nat) (d : Word) : (s.raiseWord src d).eth = s.eth := (congrArg (·.eth) (s.raiseWord_is src d) :)
@[simp] theorem raiseWord_time (src : Nat) (d : Word) : (s.raiseWord src d).time = s.time := (congrArg (·.time) (s.raiseWord_is src d) :)
@[simp] theorem raiseWord_lode (src : Nat) (d : Word) : (s.raiseWord src d).lode = s.lode := (congrArg (·.lode) (s.raiseWord_is src d) :)
@[simp] theorem raiseWord_dram (src : Nat) (d : Word) : (s.raiseWord src d).dram = s.dram := (congrArg (·.dram) (s.raiseWord_is src d) :)
@[simp] theorem raiseWord_twin (src : Nat) (d : Word) : (s.raiseWord src d).twin = s.twin := (congrArg (·.twin) (s.raiseWord_is src d) :)
@[simp] theorem raiseWord_gbus (src : Nat) (d : Word) : (s.raiseWord src d).gbus = s.gbus := (congrArg (·.gbus) (s.raiseWord_is src d) :)
@[simp] theorem raiseWord_jrp (src : Nat) (d : Word) : (s.raiseWord src d).jrp = s.jrp := (congrArg (·.jrp) (s.raiseWord_is src d) :)
@[simp] theorem raiseWord_load (src : Nat) (d : Word) : (s.raiseWord src d).load = s.load := (congrArg (·.load) (s.raiseWord_is src d) :)
@[simp] theorem raiseWord_key (src : Nat) (d : Word) : (s.raiseWord src d).key = s.key := (congrArg (·.key) (s.raiseWord_is src d) :)
@[simp] theorem raiseWord_upd (src : Nat) (d : Word) : (s.raiseWord src d).upd = s.upd := (congrArg (·.upd) (s.raiseWord_is src d) :)
@[simp] theorem raiseWord_avs (src : Nat) (d : Word) : (s.raiseWord src d).avs = s.avs := (congrArg (·.avs) (s.raiseWord_is src d) :)
@[simp] theorem raiseWord_flash (src : Nat) (d : Word) : (s.raiseWord src d).flash = s.flash := (congrArg (·.flash) (s.raiseWord_is src d) :)
@[simp] theorem raiseWord_fuses (src : Nat) (d : Word) : (s.raiseWord src d).fuses = s.fuses := (congrArg (·.fuses) (s.raiseWord_is src d) :)

@[simp] theorem raise_pending (src : Nat) (items : List Nat) : (s.raise src items).pending = s.pending := (congrArg (·.pending) (s.raise_is src items) :)
@[simp] theorem raise_now (src : Nat) (items : List Nat) : (s.raise src items).now = s.now := (congrArg (·.now) (s.raise_is src items) :)
@[simp] theorem raise_freeCtr (src : Nat) (items : List Nat) : (s.raise src items).freeCtr = s.freeCtr := (congrArg (·.freeCtr) (s.raise_is src items) :)
@[simp] theorem raise_inUse (src : Nat) (items : List Nat) : (s.raise src items).inUse = s.inUse := (congrArg (·.inUse) (s.raise_is src items) :)
@[simp] theorem raise_landing (src : Nat) (items : List Nat) : (s.raise src items).landing = s.landing := (congrArg (·.landing) (s.raise_is src items) :)
@[simp] theorem raise_wide (src : Nat) (items : List Nat) : (s.raise src items).wide = s.wide := (congrArg (·.wide) (s.raise_is src items) :)
@[simp] theorem raise_restart (src : Nat) (items : List Nat) : (s.raise src items).restart = s.restart := (congrArg (·.restart) (s.raise_is src items) :)
@[simp] theorem raise_lastRaise (src : Nat) (items : List Nat) : (s.raise src items).lastRaise = s.lastRaise := (congrArg (·.lastRaise) (s.raise_is src items) :)
@[simp] theorem raise_out (src : Nat) (items : List Nat) : (s.raise src items).out = s.out := (congrArg (·.out) (s.raise_is src items) :)
@[simp] theorem raise_mgt (src : Nat) (items : List Nat) : (s.raise src items).mgt = s.mgt := (congrArg (·.mgt) (s.raise_is src items) :)
@[simp] theorem raise_fab (src : Nat) (items : List Nat) : (s.raise src items).fab = s.fab := (congrArg (·.fab) (s.raise_is src items) :)
@[simp] theorem raise_prov (src : Nat) (items : List Nat) : (s.raise src items).prov = s.prov := (congrArg (·.prov) (s.raise_is src items) :)
@[simp] theorem raise_chn (src : Nat) (items : List Nat) : (s.raise src items).chn = s.chn := (congrArg (·.chn) (s.raise_is src items) :)
@[simp] theorem raise_sdi (src : Nat) (items : List Nat) : (s.raise src items).sdi = s.sdi := (congrArg (·.sdi) (s.raise_is src items) :)
@[simp] theorem raise_ipm (src : Nat) (items : List Nat) : (s.raise src items).ipm = s.ipm := (congrArg (·.ipm) (s.raise_is src items) :)
@[simp] theorem raise_aud (src : Nat) (items : List Nat) : (s.raise src items).aud = s.aud := (congrArg (·.aud) (s.raise_is src items) :)
@[simp] theorem raise_cnv (src : Nat) (items : List Nat) : (s.raise src items).cnv = s.cnv := (congrArg (·.cnv) (s.raise_is src items) :)
@[simp] theorem raise_mica (src : Nat) (items : List Nat) : (s.raise src items).mica = s.mica := (congrArg (·.mica) (s.raise_is src items) :)
@[simp] theorem raise_scan (src : Nat) (items : List Nat) : (s.raise src items).scan = s.scan := (congrArg (·.scan) (s.raise_is src items) :)
@[simp] theorem raise_lanes (src : Nat) (items : List Nat) : (s.raise src items).lanes = s.lanes := (congrArg (·.lanes) (s.raise_is src items) :)
@[simp] theorem raise_eth (src : Nat) (items : List Nat) : (s.raise src items).eth = s.eth := (congrArg (·.eth) (s.raise_is src items) :)
@[simp] theorem raise_time (src : Nat) (items : List Nat) : (s.raise src items).time = s.time := (congrArg (·.time) (s.raise_is src items) :)
@[simp] theorem raise_lode (src : Nat) (items : List Nat) : (s.raise src items).lode = s.lode := (congrArg (·.lode) (s.raise_is src items) :)
@[simp] theorem raise_dram (src : Nat) (items : List Nat) : (s.raise src items).dram = s.dram := (congrArg (·.dram) (s.raise_is src items) :)
@[simp] theorem raise_twin (src : Nat) (items : List Nat) : (s.raise src items).twin = s.twin := (congrArg (·.twin) (s.raise_is src items) :)
@[simp] theorem raise_gbus (src : Nat) (items : List Nat) : (s.raise src items).gbus = s.gbus := (congrArg (·.gbus) (s.raise_is src items) :)
@[simp] theorem raise_jrp (src : Nat) (items : List Nat) : (s.raise src items).jrp = s.jrp := (congrArg (·.jrp) (s.raise_is src items) :)
@[simp] theorem raise_load (src : Nat) (items : List Nat) : (s.raise src items).load = s.load := (congrArg (·.load) (s.raise_is src items) :)
@[simp] theorem raise_key (src : Nat) (items : List Nat) : (s.raise src items).key = s.key := (congrArg (·.key) (s.raise_is src items) :)
@[simp] theorem raise_upd (src : Nat) (items : List Nat) : (s.raise src items).upd = s.upd := (congrArg (·.upd) (s.raise_is src items) :)
@[simp] theorem raise_avs (src : Nat) (items : List Nat) : (s.raise src items).avs = s.avs := (congrArg (·.avs) (s.raise_is src items) :)
@[simp] theorem raise_flash (src : Nat) (items : List Nat) : (s.raise src items).flash = s.flash := (congrArg (·.flash) (s.raise_is src items) :)
@[simp] theorem raise_fuses (src : Nat) (items : List Nat) : (s.raise src items).fuses = s.fuses := (congrArg (·.fuses) (s.raise_is src items) :)

@[simp] theorem raiseLimited_pending (key src : Nat) (items : List Nat) : (s.raiseLimited key src items).pending = s.pending := (congrArg (·.pending) (s.raiseLimited_is key src items) :)
@[simp] theorem raiseLimited_now (key src : Nat) (items : List Nat) : (s.raiseLimited key src items).now = s.now := (congrArg (·.now) (s.raiseLimited_is key src items) :)
@[simp] theorem raiseLimited_freeCtr (key src : Nat) (items : List Nat) : (s.raiseLimited key src items).freeCtr = s.freeCtr := (congrArg (·.freeCtr) (s.raiseLimited_is key src items) :)
@[simp] theorem raiseLimited_inUse (key src : Nat) (items : List Nat) : (s.raiseLimited key src items).inUse = s.inUse := (congrArg (·.inUse) (s.raiseLimited_is key src items) :)
@[simp] theorem raiseLimited_landing (key src : Nat) (items : List Nat) : (s.raiseLimited key src items).landing = s.landing := (congrArg (·.landing) (s.raiseLimited_is key src items) :)
@[simp] theorem raiseLimited_wide (key src : Nat) (items : List Nat) : (s.raiseLimited key src items).wide = s.wide := (congrArg (·.wide) (s.raiseLimited_is key src items) :)
@[simp] theorem raiseLimited_restart (key src : Nat) (items : List Nat) : (s.raiseLimited key src items).restart = s.restart := (congrArg (·.restart) (s.raiseLimited_is key src items) :)
@[simp] theorem raiseLimited_out (key src : Nat) (items : List Nat) : (s.raiseLimited key src items).out = s.out := (congrArg (·.out) (s.raiseLimited_is key src items) :)
@[simp] theorem raiseLimited_mgt (key src : Nat) (items : List Nat) : (s.raiseLimited key src items).mgt = s.mgt := (congrArg (·.mgt) (s.raiseLimited_is key src items) :)
@[simp] theorem raiseLimited_fab (key src : Nat) (items : List Nat) : (s.raiseLimited key src items).fab = s.fab := (congrArg (·.fab) (s.raiseLimited_is key src items) :)
@[simp] theorem raiseLimited_prov (key src : Nat) (items : List Nat) : (s.raiseLimited key src items).prov = s.prov := (congrArg (·.prov) (s.raiseLimited_is key src items) :)
@[simp] theorem raiseLimited_chn (key src : Nat) (items : List Nat) : (s.raiseLimited key src items).chn = s.chn := (congrArg (·.chn) (s.raiseLimited_is key src items) :)
@[simp] theorem raiseLimited_sdi (key src : Nat) (items : List Nat) : (s.raiseLimited key src items).sdi = s.sdi := (congrArg (·.sdi) (s.raiseLimited_is key src items) :)
@[simp] theorem raiseLimited_ipm (key src : Nat) (items : List Nat) : (s.raiseLimited key src items).ipm = s.ipm := (congrArg (·.ipm) (s.raiseLimited_is key src items) :)
@[simp] theorem raiseLimited_aud (key src : Nat) (items : List Nat) : (s.raiseLimited key src items).aud = s.aud := (congrArg (·.aud) (s.raiseLimited_is key src items) :)
@[simp] theorem raiseLimited_cnv (key src : Nat) (items : List Nat) : (s.raiseLimited key src items).cnv = s.cnv := (congrArg (·.cnv) (s.raiseLimited_is key src items) :)
@[simp] theorem raiseLimited_mica (key src : Nat) (items : List Nat) : (s.raiseLimited key src items).mica = s.mica := (congrArg (·.mica) (s.raiseLimited_is key src items) :)
@[simp] theorem raiseLimited_scan (key src : Nat) (items : List Nat) : (s.raiseLimited key src items).scan = s.scan := (congrArg (·.scan) (s.raiseLimited_is key src items) :)
@[simp] theorem raiseLimited_lanes (key src : Nat) (items : List Nat) : (s.raiseLimited key src items).lanes = s.lanes := (congrArg (·.lanes) (s.raiseLimited_is key src items) :)
@[simp] theorem raiseLimited_eth (key src : Nat) (items : List Nat) : (s.raiseLimited key src items).eth = s.eth := (congrArg (·.eth) (s.raiseLimited_is key src items) :)
@[simp] theorem raiseLimited_time (key src : Nat) (items : List Nat) : (s.raiseLimited key src items).time = s.time := (congrArg (·.time) (s.raiseLimited_is key src items) :)
@[simp] theorem raiseLimited_lode (key src : Nat) (items : List Nat) : (s.raiseLimited key src items).lode = s.lode := (congrArg (·.lode) (s.raiseLimited_is key src items) :)
@[simp] theorem raiseLimited_dram (key src : Nat) (items : List Nat) : (s.raiseLimited key src items).dram = s.dram := (congrArg (·.dram) (s.raiseLimited_is key src items) :)
@[simp] theorem raiseLimited_twin (key src : Nat) (items : List Nat) : (s.raiseLimited key src items).twin = s.twin := (congrArg (·.twin) (s.raiseLimited_is key src items) :)
@[simp] theorem raiseLimited_gbus (key src : Nat) (items : List Nat) : (s.raiseLimited key src items).gbus = s.gbus := (congrArg (·.gbus) (s.raiseLimited_is key src items) :)
@[simp] theorem raiseLimited_jrp (key src : Nat) (items : List Nat) : (s.raiseLimited key src items).jrp = s.jrp := (congrArg (·.jrp) (s.raiseLimited_is key src items) :)
@[simp] theorem raiseLimited_load (key src : Nat) (items : List Nat) : (s.raiseLimited key src items).load = s.load := (congrArg (·.load) (s.raiseLimited_is key src items) :)
@[simp] theorem raiseLimited_key (key src : Nat) (items : List Nat) : (s.raiseLimited key src items).key = s.key := (congrArg (·.key) (s.raiseLimited_is key src items) :)
@[simp] theorem raiseLimited_upd (key src : Nat) (items : List Nat) : (s.raiseLimited key src items).upd = s.upd := (congrArg (·.upd) (s.raiseLimited_is key src items) :)
@[simp] theorem raiseLimited_avs (key src : Nat) (items : List Nat) : (s.raiseLimited key src items).avs = s.avs := (congrArg (·.avs) (s.raiseLimited_is key src items) :)
@[simp] theorem raiseLimited_flash (key src : Nat) (items : List Nat) : (s.raiseLimited key src items).flash = s.flash := (congrArg (·.flash) (s.raiseLimited_is key src items) :)
@[simp] theorem raiseLimited_fuses (key src : Nat) (items : List Nat) : (s.raiseLimited key src items).fuses = s.fuses := (congrArg (·.fuses) (s.raiseLimited_is key src items) :)

@[simp] theorem cause_pending (e v : FRef) (src c : Nat) (items : List Nat) : (s.cause e v src c items).pending = s.pending := (congrArg (·.pending) (s.cause_is e v src c items) :)
@[simp] theorem cause_now (e v : FRef) (src c : Nat) (items : List Nat) : (s.cause e v src c items).now = s.now := (congrArg (·.now) (s.cause_is e v src c items) :)
@[simp] theorem cause_freeCtr (e v : FRef) (src c : Nat) (items : List Nat) : (s.cause e v src c items).freeCtr = s.freeCtr := (congrArg (·.freeCtr) (s.cause_is e v src c items) :)
@[simp] theorem cause_inUse (e v : FRef) (src c : Nat) (items : List Nat) : (s.cause e v src c items).inUse = s.inUse := (congrArg (·.inUse) (s.cause_is e v src c items) :)
@[simp] theorem cause_landing (e v : FRef) (src c : Nat) (items : List Nat) : (s.cause e v src c items).landing = s.landing := (congrArg (·.landing) (s.cause_is e v src c items) :)
@[simp] theorem cause_wide (e v : FRef) (src c : Nat) (items : List Nat) : (s.cause e v src c items).wide = s.wide := (congrArg (·.wide) (s.cause_is e v src c items) :)
@[simp] theorem cause_restart (e v : FRef) (src c : Nat) (items : List Nat) : (s.cause e v src c items).restart = s.restart := (congrArg (·.restart) (s.cause_is e v src c items) :)
@[simp] theorem cause_out (e v : FRef) (src c : Nat) (items : List Nat) : (s.cause e v src c items).out = s.out := (congrArg (·.out) (s.cause_is e v src c items) :)
@[simp] theorem cause_mgt (e v : FRef) (src c : Nat) (items : List Nat) : (s.cause e v src c items).mgt = s.mgt := (congrArg (·.mgt) (s.cause_is e v src c items) :)
@[simp] theorem cause_fab (e v : FRef) (src c : Nat) (items : List Nat) : (s.cause e v src c items).fab = s.fab := (congrArg (·.fab) (s.cause_is e v src c items) :)
@[simp] theorem cause_prov (e v : FRef) (src c : Nat) (items : List Nat) : (s.cause e v src c items).prov = s.prov := (congrArg (·.prov) (s.cause_is e v src c items) :)
@[simp] theorem cause_chn (e v : FRef) (src c : Nat) (items : List Nat) : (s.cause e v src c items).chn = s.chn := (congrArg (·.chn) (s.cause_is e v src c items) :)
@[simp] theorem cause_sdi (e v : FRef) (src c : Nat) (items : List Nat) : (s.cause e v src c items).sdi = s.sdi := (congrArg (·.sdi) (s.cause_is e v src c items) :)
@[simp] theorem cause_ipm (e v : FRef) (src c : Nat) (items : List Nat) : (s.cause e v src c items).ipm = s.ipm := (congrArg (·.ipm) (s.cause_is e v src c items) :)
@[simp] theorem cause_aud (e v : FRef) (src c : Nat) (items : List Nat) : (s.cause e v src c items).aud = s.aud := (congrArg (·.aud) (s.cause_is e v src c items) :)
@[simp] theorem cause_cnv (e v : FRef) (src c : Nat) (items : List Nat) : (s.cause e v src c items).cnv = s.cnv := (congrArg (·.cnv) (s.cause_is e v src c items) :)
@[simp] theorem cause_mica (e v : FRef) (src c : Nat) (items : List Nat) : (s.cause e v src c items).mica = s.mica := (congrArg (·.mica) (s.cause_is e v src c items) :)
@[simp] theorem cause_scan (e v : FRef) (src c : Nat) (items : List Nat) : (s.cause e v src c items).scan = s.scan := (congrArg (·.scan) (s.cause_is e v src c items) :)
@[simp] theorem cause_lanes (e v : FRef) (src c : Nat) (items : List Nat) : (s.cause e v src c items).lanes = s.lanes := (congrArg (·.lanes) (s.cause_is e v src c items) :)
@[simp] theorem cause_eth (e v : FRef) (src c : Nat) (items : List Nat) : (s.cause e v src c items).eth = s.eth := (congrArg (·.eth) (s.cause_is e v src c items) :)
@[simp] theorem cause_time (e v : FRef) (src c : Nat) (items : List Nat) : (s.cause e v src c items).time = s.time := (congrArg (·.time) (s.cause_is e v src c items) :)
@[simp] theorem cause_lode (e v : FRef) (src c : Nat) (items : List Nat) : (s.cause e v src c items).lode = s.lode := (congrArg (·.lode) (s.cause_is e v src c items) :)
@[simp] theorem cause_dram (e v : FRef) (src c : Nat) (items : List Nat) : (s.cause e v src c items).dram = s.dram := (congrArg (·.dram) (s.cause_is e v src c items) :)
@[simp] theorem cause_twin (e v : FRef) (src c : Nat) (items : List Nat) : (s.cause e v src c items).twin = s.twin := (congrArg (·.twin) (s.cause_is e v src c items) :)
@[simp] theorem cause_gbus (e v : FRef) (src c : Nat) (items : List Nat) : (s.cause e v src c items).gbus = s.gbus := (congrArg (·.gbus) (s.cause_is e v src c items) :)
@[simp] theorem cause_jrp (e v : FRef) (src c : Nat) (items : List Nat) : (s.cause e v src c items).jrp = s.jrp := (congrArg (·.jrp) (s.cause_is e v src c items) :)
@[simp] theorem cause_load (e v : FRef) (src c : Nat) (items : List Nat) : (s.cause e v src c items).load = s.load := (congrArg (·.load) (s.cause_is e v src c items) :)
@[simp] theorem cause_key (e v : FRef) (src c : Nat) (items : List Nat) : (s.cause e v src c items).key = s.key := (congrArg (·.key) (s.cause_is e v src c items) :)
@[simp] theorem cause_upd (e v : FRef) (src c : Nat) (items : List Nat) : (s.cause e v src c items).upd = s.upd := (congrArg (·.upd) (s.cause_is e v src c items) :)
@[simp] theorem cause_avs (e v : FRef) (src c : Nat) (items : List Nat) : (s.cause e v src c items).avs = s.avs := (congrArg (·.avs) (s.cause_is e v src c items) :)
@[simp] theorem cause_flash (e v : FRef) (src c : Nat) (items : List Nat) : (s.cause e v src c items).flash = s.flash := (congrArg (·.flash) (s.cause_is e v src c items) :)
@[simp] theorem cause_fuses (e v : FRef) (src c : Nat) (items : List Nat) : (s.cause e v src c items).fuses = s.fuses := (congrArg (·.fuses) (s.cause_is e v src c items) :)

@[simp] theorem event_pending (e : FRef) (b src : Nat) (items : List Nat) : (s.event e b src items).pending = s.pending := (congrArg (·.pending) (s.event_is e b src items) :)
@[simp] theorem event_now (e : FRef) (b src : Nat) (items : List Nat) : (s.event e b src items).now = s.now := (congrArg (·.now) (s.event_is e b src items) :)
@[simp] theorem event_freeCtr (e : FRef) (b src : Nat) (items : List Nat) : (s.event e b src items).freeCtr = s.freeCtr := (congrArg (·.freeCtr) (s.event_is e b src items) :)
@[simp] theorem event_inUse (e : FRef) (b src : Nat) (items : List Nat) : (s.event e b src items).inUse = s.inUse := (congrArg (·.inUse) (s.event_is e b src items) :)
@[simp] theorem event_landing (e : FRef) (b src : Nat) (items : List Nat) : (s.event e b src items).landing = s.landing := (congrArg (·.landing) (s.event_is e b src items) :)
@[simp] theorem event_wide (e : FRef) (b src : Nat) (items : List Nat) : (s.event e b src items).wide = s.wide := (congrArg (·.wide) (s.event_is e b src items) :)
@[simp] theorem event_restart (e : FRef) (b src : Nat) (items : List Nat) : (s.event e b src items).restart = s.restart := (congrArg (·.restart) (s.event_is e b src items) :)
@[simp] theorem event_lastRaise (e : FRef) (b src : Nat) (items : List Nat) : (s.event e b src items).lastRaise = s.lastRaise := (congrArg (·.lastRaise) (s.event_is e b src items) :)
@[simp] theorem event_out (e : FRef) (b src : Nat) (items : List Nat) : (s.event e b src items).out = s.out := (congrArg (·.out) (s.event_is e b src items) :)
@[simp] theorem event_mgt (e : FRef) (b src : Nat) (items : List Nat) : (s.event e b src items).mgt = s.mgt := (congrArg (·.mgt) (s.event_is e b src items) :)
@[simp] theorem event_fab (e : FRef) (b src : Nat) (items : List Nat) : (s.event e b src items).fab = s.fab := (congrArg (·.fab) (s.event_is e b src items) :)
@[simp] theorem event_prov (e : FRef) (b src : Nat) (items : List Nat) : (s.event e b src items).prov = s.prov := (congrArg (·.prov) (s.event_is e b src items) :)
@[simp] theorem event_chn (e : FRef) (b src : Nat) (items : List Nat) : (s.event e b src items).chn = s.chn := (congrArg (·.chn) (s.event_is e b src items) :)
@[simp] theorem event_sdi (e : FRef) (b src : Nat) (items : List Nat) : (s.event e b src items).sdi = s.sdi := (congrArg (·.sdi) (s.event_is e b src items) :)
@[simp] theorem event_ipm (e : FRef) (b src : Nat) (items : List Nat) : (s.event e b src items).ipm = s.ipm := (congrArg (·.ipm) (s.event_is e b src items) :)
@[simp] theorem event_aud (e : FRef) (b src : Nat) (items : List Nat) : (s.event e b src items).aud = s.aud := (congrArg (·.aud) (s.event_is e b src items) :)
@[simp] theorem event_cnv (e : FRef) (b src : Nat) (items : List Nat) : (s.event e b src items).cnv = s.cnv := (congrArg (·.cnv) (s.event_is e b src items) :)
@[simp] theorem event_mica (e : FRef) (b src : Nat) (items : List Nat) : (s.event e b src items).mica = s.mica := (congrArg (·.mica) (s.event_is e b src items) :)
@[simp] theorem event_scan (e : FRef) (b src : Nat) (items : List Nat) : (s.event e b src items).scan = s.scan := (congrArg (·.scan) (s.event_is e b src items) :)
@[simp] theorem event_lanes (e : FRef) (b src : Nat) (items : List Nat) : (s.event e b src items).lanes = s.lanes := (congrArg (·.lanes) (s.event_is e b src items) :)
@[simp] theorem event_eth (e : FRef) (b src : Nat) (items : List Nat) : (s.event e b src items).eth = s.eth := (congrArg (·.eth) (s.event_is e b src items) :)
@[simp] theorem event_time (e : FRef) (b src : Nat) (items : List Nat) : (s.event e b src items).time = s.time := (congrArg (·.time) (s.event_is e b src items) :)
@[simp] theorem event_lode (e : FRef) (b src : Nat) (items : List Nat) : (s.event e b src items).lode = s.lode := (congrArg (·.lode) (s.event_is e b src items) :)
@[simp] theorem event_dram (e : FRef) (b src : Nat) (items : List Nat) : (s.event e b src items).dram = s.dram := (congrArg (·.dram) (s.event_is e b src items) :)
@[simp] theorem event_twin (e : FRef) (b src : Nat) (items : List Nat) : (s.event e b src items).twin = s.twin := (congrArg (·.twin) (s.event_is e b src items) :)
@[simp] theorem event_gbus (e : FRef) (b src : Nat) (items : List Nat) : (s.event e b src items).gbus = s.gbus := (congrArg (·.gbus) (s.event_is e b src items) :)
@[simp] theorem event_jrp (e : FRef) (b src : Nat) (items : List Nat) : (s.event e b src items).jrp = s.jrp := (congrArg (·.jrp) (s.event_is e b src items) :)
@[simp] theorem event_load (e : FRef) (b src : Nat) (items : List Nat) : (s.event e b src items).load = s.load := (congrArg (·.load) (s.event_is e b src items) :)
@[simp] theorem event_key (e : FRef) (b src : Nat) (items : List Nat) : (s.event e b src items).key = s.key := (congrArg (·.key) (s.event_is e b src items) :)
@[simp] theorem event_upd (e : FRef) (b src : Nat) (items : List Nat) : (s.event e b src items).upd = s.upd := (congrArg (·.upd) (s.event_is e b src items) :)
@[simp] theorem event_avs (e : FRef) (b src : Nat) (items : List Nat) : (s.event e b src items).avs = s.avs := (congrArg (·.avs) (s.event_is e b src items) :)
@[simp] theorem event_flash (e : FRef) (b src : Nat) (items : List Nat) : (s.event e b src items).flash = s.flash := (congrArg (·.flash) (s.event_is e b src items) :)
@[simp] theorem event_fuses (e : FRef) (b src : Nat) (items : List Nat) : (s.event e b src items).fuses = s.fuses := (congrArg (·.fuses) (s.event_is e b src items) :)

@[simp] theorem eventEn_pending (e v : FRef) (b src : Nat) (items : List Nat) : (s.eventEn e v b src items).pending = s.pending := (congrArg (·.pending) (s.eventEn_is e v b src items) :)
@[simp] theorem eventEn_now (e v : FRef) (b src : Nat) (items : List Nat) : (s.eventEn e v b src items).now = s.now := (congrArg (·.now) (s.eventEn_is e v b src items) :)
@[simp] theorem eventEn_freeCtr (e v : FRef) (b src : Nat) (items : List Nat) : (s.eventEn e v b src items).freeCtr = s.freeCtr := (congrArg (·.freeCtr) (s.eventEn_is e v b src items) :)
@[simp] theorem eventEn_inUse (e v : FRef) (b src : Nat) (items : List Nat) : (s.eventEn e v b src items).inUse = s.inUse := (congrArg (·.inUse) (s.eventEn_is e v b src items) :)
@[simp] theorem eventEn_landing (e v : FRef) (b src : Nat) (items : List Nat) : (s.eventEn e v b src items).landing = s.landing := (congrArg (·.landing) (s.eventEn_is e v b src items) :)
@[simp] theorem eventEn_wide (e v : FRef) (b src : Nat) (items : List Nat) : (s.eventEn e v b src items).wide = s.wide := (congrArg (·.wide) (s.eventEn_is e v b src items) :)
@[simp] theorem eventEn_restart (e v : FRef) (b src : Nat) (items : List Nat) : (s.eventEn e v b src items).restart = s.restart := (congrArg (·.restart) (s.eventEn_is e v b src items) :)
@[simp] theorem eventEn_lastRaise (e v : FRef) (b src : Nat) (items : List Nat) : (s.eventEn e v b src items).lastRaise = s.lastRaise := (congrArg (·.lastRaise) (s.eventEn_is e v b src items) :)
@[simp] theorem eventEn_out (e v : FRef) (b src : Nat) (items : List Nat) : (s.eventEn e v b src items).out = s.out := (congrArg (·.out) (s.eventEn_is e v b src items) :)
@[simp] theorem eventEn_mgt (e v : FRef) (b src : Nat) (items : List Nat) : (s.eventEn e v b src items).mgt = s.mgt := (congrArg (·.mgt) (s.eventEn_is e v b src items) :)
@[simp] theorem eventEn_fab (e v : FRef) (b src : Nat) (items : List Nat) : (s.eventEn e v b src items).fab = s.fab := (congrArg (·.fab) (s.eventEn_is e v b src items) :)
@[simp] theorem eventEn_prov (e v : FRef) (b src : Nat) (items : List Nat) : (s.eventEn e v b src items).prov = s.prov := (congrArg (·.prov) (s.eventEn_is e v b src items) :)
@[simp] theorem eventEn_chn (e v : FRef) (b src : Nat) (items : List Nat) : (s.eventEn e v b src items).chn = s.chn := (congrArg (·.chn) (s.eventEn_is e v b src items) :)
@[simp] theorem eventEn_sdi (e v : FRef) (b src : Nat) (items : List Nat) : (s.eventEn e v b src items).sdi = s.sdi := (congrArg (·.sdi) (s.eventEn_is e v b src items) :)
@[simp] theorem eventEn_ipm (e v : FRef) (b src : Nat) (items : List Nat) : (s.eventEn e v b src items).ipm = s.ipm := (congrArg (·.ipm) (s.eventEn_is e v b src items) :)
@[simp] theorem eventEn_aud (e v : FRef) (b src : Nat) (items : List Nat) : (s.eventEn e v b src items).aud = s.aud := (congrArg (·.aud) (s.eventEn_is e v b src items) :)
@[simp] theorem eventEn_cnv (e v : FRef) (b src : Nat) (items : List Nat) : (s.eventEn e v b src items).cnv = s.cnv := (congrArg (·.cnv) (s.eventEn_is e v b src items) :)
@[simp] theorem eventEn_mica (e v : FRef) (b src : Nat) (items : List Nat) : (s.eventEn e v b src items).mica = s.mica := (congrArg (·.mica) (s.eventEn_is e v b src items) :)
@[simp] theorem eventEn_scan (e v : FRef) (b src : Nat) (items : List Nat) : (s.eventEn e v b src items).scan = s.scan := (congrArg (·.scan) (s.eventEn_is e v b src items) :)
@[simp] theorem eventEn_lanes (e v : FRef) (b src : Nat) (items : List Nat) : (s.eventEn e v b src items).lanes = s.lanes := (congrArg (·.lanes) (s.eventEn_is e v b src items) :)
@[simp] theorem eventEn_eth (e v : FRef) (b src : Nat) (items : List Nat) : (s.eventEn e v b src items).eth = s.eth := (congrArg (·.eth) (s.eventEn_is e v b src items) :)
@[simp] theorem eventEn_time (e v : FRef) (b src : Nat) (items : List Nat) : (s.eventEn e v b src items).time = s.time := (congrArg (·.time) (s.eventEn_is e v b src items) :)
@[simp] theorem eventEn_lode (e v : FRef) (b src : Nat) (items : List Nat) : (s.eventEn e v b src items).lode = s.lode := (congrArg (·.lode) (s.eventEn_is e v b src items) :)
@[simp] theorem eventEn_dram (e v : FRef) (b src : Nat) (items : List Nat) : (s.eventEn e v b src items).dram = s.dram := (congrArg (·.dram) (s.eventEn_is e v b src items) :)
@[simp] theorem eventEn_twin (e v : FRef) (b src : Nat) (items : List Nat) : (s.eventEn e v b src items).twin = s.twin := (congrArg (·.twin) (s.eventEn_is e v b src items) :)
@[simp] theorem eventEn_gbus (e v : FRef) (b src : Nat) (items : List Nat) : (s.eventEn e v b src items).gbus = s.gbus := (congrArg (·.gbus) (s.eventEn_is e v b src items) :)
@[simp] theorem eventEn_jrp (e v : FRef) (b src : Nat) (items : List Nat) : (s.eventEn e v b src items).jrp = s.jrp := (congrArg (·.jrp) (s.eventEn_is e v b src items) :)
@[simp] theorem eventEn_load (e v : FRef) (b src : Nat) (items : List Nat) : (s.eventEn e v b src items).load = s.load := (congrArg (·.load) (s.eventEn_is e v b src items) :)
@[simp] theorem eventEn_key (e v : FRef) (b src : Nat) (items : List Nat) : (s.eventEn e v b src items).key = s.key := (congrArg (·.key) (s.eventEn_is e v b src items) :)
@[simp] theorem eventEn_upd (e v : FRef) (b src : Nat) (items : List Nat) : (s.eventEn e v b src items).upd = s.upd := (congrArg (·.upd) (s.eventEn_is e v b src items) :)
@[simp] theorem eventEn_avs (e v : FRef) (b src : Nat) (items : List Nat) : (s.eventEn e v b src items).avs = s.avs := (congrArg (·.avs) (s.eventEn_is e v b src items) :)
@[simp] theorem eventEn_flash (e v : FRef) (b src : Nat) (items : List Nat) : (s.eventEn e v b src items).flash = s.flash := (congrArg (·.flash) (s.eventEn_is e v b src items) :)
@[simp] theorem eventEn_fuses (e v : FRef) (b src : Nat) (items : List Nat) : (s.eventEn e v b src items).fuses = s.fuses := (congrArg (·.fuses) (s.eventEn_is e v b src items) :)

/-- A raise writes no register but the collector's counts. -/
theorem rd_raiseWord {a : Nat} (src : Nat) (d : Word) (h : a < 0x11003000 ∨ 0x11004800 ≤ a) :
    (s.raiseWord src d).rd a = s.rd a := by
  unfold raiseWord
  split
  · rename_i hs
    have h1 : a ≠ (Reg.FLT.CNT_RAISED src).addr := by simp only [Reg.FLT.CNT_RAISED]; omega
    have h2 : a ≠ (Reg.FLT.CNT_MERGES src).addr := by simp only [Reg.FLT.CNT_MERGES]; omega
    rw [when_keeps _ (fun t => t.rd a)]
    · unfold bump
      rw [rd_set_other _ _ h1]
      rfl
    · unfold bump
      rw [rd_set_other _ _ h2]
  · rfl

theorem rd_raise {a : Nat} (src : Nat) (items : List Nat) (h : a < 0x11003000 ∨ 0x11004800 ≤ a) :
    (s.raise src items).rd a = s.rd a := rd_raiseWord s src _ h

theorem rd_raiseLimited {a : Nat} (k src : Nat) (items : List Nat) (h : a < 0x11003000 ∨ 0x11004800 ≤ a) :
    (s.raiseLimited k src items).rd a = s.rd a := by
  unfold raiseLimited
  split
  · rw [rd_raise _ _ _ h]; rfl
  · rfl

theorem rd_orBit_other {a : Nat} {r : FRef} (i : Nat) (h : a ≠ r.addr) : (s.orBit r i).rd a = s.rd a := rd_set_other s _ h

theorem rd_cause {a : Nat} (e v : FRef) (src c : Nat) (items : List Nat) (he : a ≠ e.addr)
    (h : a < 0x11003000 ∨ 0x11004800 ≤ a) : (s.cause e v src c items).rd a = s.rd a := by
  unfold cause
  simp only []
  split
  · rw [rd_raiseLimited _ _ _ _ h, rd_orBit_other _ _ he]
  · rw [rd_orBit_other _ _ he]

theorem rd_event {a : Nat} (e : FRef) (b src : Nat) (items : List Nat) (he : a ≠ e.addr)
    (h : a < 0x11003000 ∨ 0x11004800 ≤ a) : (s.event e b src items).rd a = s.rd a := by
  unfold event
  rw [rd_raise _ _ _ h, rd_orBit_other _ _ he]

theorem rd_eventEn {a : Nat} (e v : FRef) (b src : Nat) (items : List Nat) (he : a ≠ e.addr)
    (h : a < 0x11003000 ∨ 0x11004800 ≤ a) : (s.eventEn e v b src items).rd a = s.rd a := by
  unfold eventEn
  simp only []
  split
  · rw [rd_raise _ _ _ h, rd_orBit_other _ _ he]
  · rw [rd_orBit_other _ _ he]

/-! ### The register file stays canonical -/

variable {s}

/-- States with the same register file. -/
theorem regsCanon_of {t : State} (h : t.regs = s.regs) (hs : RegsCanon s) : RegsCanon t := by
  unfold RegsCanon at *; rw [h]; exact hs

theorem regsCanon_wr (a : Nat) (w : Word) (h : RegsCanon s) : RegsCanon (s.wr a w) := Assoc.canon_set a w h
theorem regsCanon_set (r : FRef) (v : Nat) (h : RegsCanon s) : RegsCanon (s.set r v) := regsCanon_wr _ _ h
theorem regsCanon_setB (r : FRef) (b : Bool) (h : RegsCanon s) : RegsCanon (s.setB r b) := regsCanon_set _ _ h
theorem regsCanon_bump (r : FRef) (n : Nat) (h : RegsCanon s) : RegsCanon (s.bump r n) := regsCanon_set _ _ h
theorem regsCanon_bumpSat (r : FRef) (n : Nat) (h : RegsCanon s) : RegsCanon (s.bumpSat r n) := regsCanon_set _ _ h
theorem regsCanon_orBit (r : FRef) (i : Nat) (h : RegsCanon s) : RegsCanon (s.orBit r i) := regsCanon_set _ _ h

theorem regsCanon_when (c : Bool) (f : State → State) (hf : RegsCanon s → RegsCanon (f s)) (h : RegsCanon s) :
    RegsCanon (s.when c f) := by
  cases c
  · exact h
  · exact hf h

theorem regsCanon_each {α : Type} (l : List α) (f : α → State → State) (hf : ∀ x t, RegsCanon t → RegsCanon (f x t))
    (h : RegsCanon s) : RegsCanon (s.each l f) := each_inv s RegsCanon f l hf h

theorem regsCanon_raiseWord (src : Nat) (d : Word) (h : RegsCanon s) : RegsCanon (s.raiseWord src d) := by
  unfold raiseWord
  split
  · apply regsCanon_when
    · exact regsCanon_bump _ _
    · exact regsCanon_bump _ _ (regsCanon_of (s := s) rfl h)
  · exact h

theorem regsCanon_raise (src : Nat) (items : List Nat) (h : RegsCanon s) : RegsCanon (s.raise src items) :=
  regsCanon_raiseWord _ _ h

theorem regsCanon_raiseLimited (k src : Nat) (items : List Nat) (h : RegsCanon s) :
    RegsCanon (s.raiseLimited k src items) := by
  unfold raiseLimited
  split
  · exact regsCanon_raise _ _ (regsCanon_of (s := s) rfl h)
  · exact h

theorem regsCanon_cause (e v : FRef) (src c : Nat) (items : List Nat) (h : RegsCanon s) :
    RegsCanon (s.cause e v src c items) := by
  unfold cause
  simp only []
  split
  · exact regsCanon_raiseLimited _ _ _ (regsCanon_orBit _ _ h)
  · exact regsCanon_orBit _ _ h

theorem regsCanon_event (e : FRef) (b src : Nat) (items : List Nat) (h : RegsCanon s) :
    RegsCanon (s.event e b src items) := regsCanon_raise _ _ (regsCanon_orBit _ _ h)

theorem regsCanon_eventEn (e v : FRef) (b src : Nat) (items : List Nat) (h : RegsCanon s) :
    RegsCanon (s.eventEn e v b src items) := by
  unfold eventEn
  simp only []
  split
  · exact regsCanon_raise _ _ (regsCanon_orBit _ _ h)
  · exact regsCanon_orBit _ _ h

end Sys2Proof.Machine.State
end

