-- ==== Sys2Proof/Laws/PerInstr.lean ====
section
/-! SUPPORT. Per command: a well-formed command that a bus master sends names one of the eight masters (R34), and the datagram
of a well-formed JRP command has a well-formed header (R578). -/

namespace Sys2Proof.Laws.Command

/-- The bus master that sends a command. -/
def master : Instr → Option Nat
  | .registerWrite m _ _ _ => some m
  | .domainWriteEffect _ => none
  | .unlock m _ => some m
  | .unlockTimeout m => some m
  | .blockSoftReset m _ _ => some m
  | .blockEnable m _ _ => some m
  | .blockDisable m _ _ => some m
  | .blockStopDone _ => none
  | .powerOnReset _ _ => none
  | .warmRestart _ _ => none
  | .startPllWaitExpire => none
  | .lockwaitExpire => none
  | .frameStart _ _ _ _ => none
  | .noFrameTimeout _ => none
  | .ingressCellWrite _ => none
  | .egressReadPoint _ _ _ => none
  | .planeFrameInstant _ => none
  | .fsDramLate _ _ => none
  | .compact => none
  | .create m => some m
  | .destroy m => some m
  | .append m => some m
  | .resolve m => some m
  | .chnLowmarkWrite m _ => some m
  | .appendClaimAnswer _ _ _ => none
  | .appendClaimTimeout => none
  | .entryRelease _ => none
  | .take m _ => some m
  | .cancel m _ => some m
  | .lock m _ => some m
  | .unlockOutput m _ => some m
  | .protect m _ => some m
  | .unprotect m _ => some m
  | .openGid m _ => some m
  | .add m _ => some m
  | .arm m _ => some m
  | .commit m _ => some m
  | .abort m _ => some m
  | .salvoOpenExpire _ => none
  | .salvoExpired _ => none
  | .latchPoint _ => none
  | .switchInstant _ => none
  | .tcqpop m _ => some m
  | .outputFrameSend _ _ _ _ => none
  | .egressCheck _ => none
  | .digestVerdict _ _ => none
  | .safeContentSwitch _ => none
  | .outclr m _ => some m
  | .chkinvWrite m _ => some m
  | .chkinvDone _ => none
  | .tokinjWrite m _ => some m
  | .scrubRead _ _ _ _ _ => none
  | .rateHuntDwell _ => none
  | .sdiLine _ _ => none
  | .sdiFrameStart _ _ _ => none
  | .ancPacketRx _ _ => none
  | .audioPacketRx _ _ => none
  | .ipmFrameRelease _ _ _ => none
  | .legDown _ _ => none
  | .audioSampleTick _ _ => none
  | .ipmPacketSend _ => none
  | .audioFlowSend _ => none
  | .igmpReportTimer _ _ => none
  | .igmpQueryRx _ _ _ _ => none
  | .igmpCompatTimeout _ => none
  | .joinTimeout _ _ => none
  | .poldropAccumulate => none
  | .source m => some m
  | .couple m => some m
  | .gain m => some m
  | .mute m => some m
  | .xfmode m => some m
  | .audioBlockBoundary _ => none
  | .aprtFrame _ _ _ _ => none
  | .asrcRelockDone _ => none
  | .clklost _ => none
  | .swap m _ _ => some m
  | .swapDone _ => none
  | .cnvLutdataAccess m _ _ _ => some m
  | .cnvFrame _ _ => none
  | .bind m _ => some m
  | .rebind m _ => some m
  | .unbind m _ => some m
  | .micaCommit m _ _ => some m
  | .reflatten m _ _ => some m
  | .flattenDone _ _ => none
  | .selectionPoint _ => none
  | .micaLutdataAccess m _ _ _ => some m
  | .flintloadGo m _ _ => some m
  | .flintLoadDone _ => none
  | .micaFrameWrite _ _ => none
  | .flintFail _ _ => none
  | .decimatorFrame _ _ => none
  | .layerStaleTimeout _ _ => none
  | .scanTrainDone _ _ => none
  | .edpHpdEdge _ => none
  | .scanTrainRetry => none
  | .flip m _ => some m
  | .scanLatchPoint => none
  | .scanFrameStart => none
  | .underrun => none
  | .psrEntry _ => none
  | .psrexit m _ => some m
  | .nativeRead m _ _ => some m
  | .nativeWrite m _ _ => some m
  | .i2cRead m _ _ => some m
  | .i2cWrite m _ _ => some m
  | .auxReply _ _ => none
  | .auxTimeout => none
  | .signalDetect _ _ _ => none
  | .cdrLock _ _ => none
  | .cdrLost _ _ => none
  | .blockLock _ => none
  | .blockLost _ _ => none
  | .cellRx _ _ => none
  | .polInv _ => none
  | .serviceCellSend _ => none
  | .serviceCellRx _ _ => none
  | .pllRetuneDone _ _ => none
  | .pllRetuneTimeout _ _ => none
  | .pllaLost _ _ => none
  | .pllRelock _ _ => none
  | .txeqWrite m _ _ => some m
  | .laneCfgWrite m _ _ => some m
  | .eqLimit _ _ _ _ => none
  | .eyeMeasure _ _ _ => none
  | .ethFrameRx _ _ _ _ _ => none
  | .pauseExpire _ _ => none
  | .pauseWd _ _ => none
  | .pauseWdRelease _ => none
  | .txkick m _ _ => some m
  | .ringFrameSent _ => none
  | .linkUp _ => none
  | .linkDown _ => none
  | .speed _ => none
  | .statsnap m _ _ => some m
  | .statsSnapPeriod => none
  | .incrWrite m _ => some m
  | .stepWrite m _ => some m
  | .stepped => none
  | .servoOffset m _ => some m
  | .timeModeWrite m _ => some m
  | .capture m _ => some m
  | .txqPop m _ _ => some m
  | .ptpMessageRx _ _ _ => none
  | .ptpMessageSend _ _ _ => none
  | .syncTimeout => none
  | .networkTimeLocked => none
  | .refLost => none
  | .refQual _ => none
  | .ptpstatWrite m _ => some m
  | .refRevert => none
  | .selWrite m _ _ => some m
  | .loopPhaseCompare _ _ => none
  | .loopStageDwell => none
  | .holdoverUpdate => none
  | .loopstepWrite m _ => some m
  | .phstepDone => none
  | .planeStep m _ _ => some m
  | .dramTrainDone _ => none
  | .refreshDue _ _ => none
  | .mr4Poll _ _ _ _ => none
  | .requestAgeExpire _ _ => none
  | .dramRead _ _ _ _ _ => none
  | .scrubLate => none
  | .trackInterval _ _ => none
  | .drcChkinvWrite m _ => some m
  | .drcChkinvApply => none
  | .dwbankWrite m _ => some m
  | .twinLinkUp _ => none
  | .linkUpRecordRx _ _ _ _ _ => none
  | .twinLinkDown _ => none
  | .twinDeadtime => none
  | .recover m => some m
  | .xchg m => some m
  | .twinCycleBoundary => none
  | .copyResend => none
  | .cycleCopyRx _ _ _ _ _ => none
  | .copyAckRx _ _ => none
  | .mirrorRecordRx _ _ => none
  | .mirrorAckRx _ _ => none
  | .mirrorResend _ => none
  | .latchRecordRx _ _ => none
  | .signatureRx _ _ _ => none
  | .supplyOkEdge _ _ => none
  | .pmbusPoll _ _ => none
  | .gbusTxLatch => none
  | .gbusOwnSlot => none
  | .txgo m => some m
  | .gbusFrameRx _ _ _ => none
  | .gbusSlotMiss _ => none
  | .gbusPairWindow _ _ => none
  | .terrWrite m _ => some m
  | .terrTimeout => none
  | .gbusPop m => some m
  | .eventRaise _ _ => none
  | .recordEntry _ => none
  | .reactionAckTimeout => none
  | .ack m _ _ => some m
  | .slotHeld _ => none
  | .safeclr m _ => some m
  | .histclr m _ => some m
  | .pintest m _ => some m
  | .pinReadback _ _ => none
  | .lockstep _ => none
  | .wdsvc m _ => some m
  | .wdog => none
  | .watchdogRestart _ => none
  | .lockedRead m _ => some m
  | .bmxForced => none
  | .remapWrite m _ => some m
  | .dmaGo m _ _ => some m
  | .dmaDone _ => none
  | .sensorConversion _ _ _ => none
  | .trig m _ => some m
  | .spWrite _ => none
  | .spRead _ => none
  | .spStatus _ => none
  | .spTransactionDone => none
  | .spTimeout => none
  | .presence => none
  | .presenceWindowExpire => none
  | .sealOpen => none
  | .presenceRecoveryHold => none
  | .lcChange m _ => some m
  | .keymsg m _ => some m
  | .attest m => some m
  | .begin m => some m
  | .write m => some m
  | .verify m _ => some m
  | .updCommit m _ => some m
  | .confirm m => some m
  | .updAbort m => some m
  | .trialFallback _ => none
  | .jrpOpen _ _ _ _ _ _ => none
  | .close _ => none
  | .sessionTimeout _ => none
  | .sessionRetainExpire _ => none
  | .nop _ _ => none
  | .jrpTake _ _ _ _ => none
  | .jrpCancel _ _ => none
  | .jrpLock _ _ => none
  | .jrpUnlock _ _ => none
  | .jrpProtect _ _ => none
  | .jrpUnprotect _ _ => none
  | .dtake _ _ _ _ _ => none
  | .druseForwardTimeout _ _ => none
  | .salvoOpen _ _ => none
  | .salvoAdd _ _ _ => none
  | .salvoArm _ _ _ _ => none
  | .salvoCommit _ _ => none
  | .salvoAbort _ _ => none
  | .jrpCreate _ _ _ => none
  | .jrpDestroy _ _ => none
  | .jrpAppend _ _ => none
  | .jrpResolve _ _ _ _ => none
  | .voice _ _ _ => none
  | .layer _ _ _ _ => none
  | .micaSet _ _ _ _ => none
  | .flintLoad _ _ _ _ => none
  | .cnvLoad _ _ _ _ _ => none
  | .cnvSwap _ _ => none
  | .query _ _ _ _ => none
  | .subscribe _ _ => none
  | .unsubscribe _ _ => none
  | .jrpAttest _ _ => none
  | .updStage _ _ _ _ _ => none
  | .updConfirm _ => none
  | .jrpXchg _ => none
  | .jrpUpdCommit _ _ _ _ _ => none
  | .jrpLcChange _ _ => none
  | .jrpKeymsg _ _ _ => none
  | .forceClear _ _ => none
  | .finalStatus => none
  | .notifySend _ => none
  | .edpLinkLoss => none
  | .prbsCheck _ _ _ => none
  | .pcsLock _ => none
  | .faultSequence _ _ => none
  | .refDisqual _ => none
  | .quadPllLockTimeout _ _ => none
  | .sealClosed => none
  | .presenceRelease => none
  | .memberAnswer _ _ _ _ => none
  | .avsRequest _ => none
  | .avsAnswer _ => none
  | .avsTimeout => none

/-- The header of the datagram that carries a command. -/
def header : Instr → Option JrpHdr
  | .registerWrite _ _ _ _ => none
  | .domainWriteEffect _ => none
  | .unlock _ _ => none
  | .unlockTimeout _ => none
  | .blockSoftReset _ _ _ => none
  | .blockEnable _ _ _ => none
  | .blockDisable _ _ _ => none
  | .blockStopDone _ => none
  | .powerOnReset _ _ => none
  | .warmRestart _ _ => none
  | .startPllWaitExpire => none
  | .lockwaitExpire => none
  | .frameStart _ _ _ _ => none
  | .noFrameTimeout _ => none
  | .ingressCellWrite _ => none
  | .egressReadPoint _ _ _ => none
  | .planeFrameInstant _ => none
  | .fsDramLate _ _ => none
  | .compact => none
  | .create _ => none
  | .destroy _ => none
  | .append _ => none
  | .resolve _ => none
  | .chnLowmarkWrite _ _ => none
  | .appendClaimAnswer _ _ _ => none
  | .appendClaimTimeout => none
  | .entryRelease _ => none
  | .take _ _ => none
  | .cancel _ _ => none
  | .lock _ _ => none
  | .unlockOutput _ _ => none
  | .protect _ _ => none
  | .unprotect _ _ => none
  | .openGid _ _ => none
  | .add _ _ => none
  | .arm _ _ => none
  | .commit _ _ => none
  | .abort _ _ => none
  | .salvoOpenExpire _ => none
  | .salvoExpired _ => none
  | .latchPoint _ => none
  | .switchInstant _ => none
  | .tcqpop _ _ => none
  | .outputFrameSend _ _ _ _ => none
  | .egressCheck _ => none
  | .digestVerdict _ _ => none
  | .safeContentSwitch _ => none
  | .outclr _ _ => none
  | .chkinvWrite _ _ => none
  | .chkinvDone _ => none
  | .tokinjWrite _ _ => none
  | .scrubRead _ _ _ _ _ => none
  | .rateHuntDwell _ => none
  | .sdiLine _ _ => none
  | .sdiFrameStart _ _ _ => none
  | .ancPacketRx _ _ => none
  | .audioPacketRx _ _ => none
  | .ipmFrameRelease _ _ _ => none
  | .legDown _ _ => none
  | .audioSampleTick _ _ => none
  | .ipmPacketSend _ => none
  | .audioFlowSend _ => none
  | .igmpReportTimer _ _ => none
  | .igmpQueryRx _ _ _ _ => none
  | .igmpCompatTimeout _ => none
  | .joinTimeout _ _ => none
  | .poldropAccumulate => none
  | .source _ => none
  | .couple _ => none
  | .gain _ => none
  | .mute _ => none
  | .xfmode _ => none
  | .audioBlockBoundary _ => none
  | .aprtFrame _ _ _ _ => none
  | .asrcRelockDone _ => none
  | .clklost _ => none
  | .swap _ _ _ => none
  | .swapDone _ => none
  | .cnvLutdataAccess _ _ _ _ => none
  | .cnvFrame _ _ => none
  | .bind _ _ => none
  | .rebind _ _ => none
  | .unbind _ _ => none
  | .micaCommit _ _ _ => none
  | .reflatten _ _ _ => none
  | .flattenDone _ _ => none
  | .selectionPoint _ => none
  | .micaLutdataAccess _ _ _ _ => none
  | .flintloadGo _ _ _ => none
  | .flintLoadDone _ => none
  | .micaFrameWrite _ _ => none
  | .flintFail _ _ => none
  | .decimatorFrame _ _ => none
  | .layerStaleTimeout _ _ => none
  | .scanTrainDone _ _ => none
  | .edpHpdEdge _ => none
  | .scanTrainRetry => none
  | .flip _ _ => none
  | .scanLatchPoint => none
  | .scanFrameStart => none
  | .underrun => none
  | .psrEntry _ => none
  | .psrexit _ _ => none
  | .nativeRead _ _ _ => none
  | .nativeWrite _ _ _ => none
  | .i2cRead _ _ _ => none
  | .i2cWrite _ _ _ => none
  | .auxReply _ _ => none
  | .auxTimeout => none
  | .signalDetect _ _ _ => none
  | .cdrLock _ _ => none
  | .cdrLost _ _ => none
  | .blockLock _ => none
  | .blockLost _ _ => none
  | .cellRx _ _ => none
  | .polInv _ => none
  | .serviceCellSend _ => none
  | .serviceCellRx _ _ => none
  | .pllRetuneDone _ _ => none
  | .pllRetuneTimeout _ _ => none
  | .pllaLost _ _ => none
  | .pllRelock _ _ => none
  | .txeqWrite _ _ _ => none
  | .laneCfgWrite _ _ _ => none
  | .eqLimit _ _ _ _ => none
  | .eyeMeasure _ _ _ => none
  | .ethFrameRx _ _ _ _ _ => none
  | .pauseExpire _ _ => none
  | .pauseWd _ _ => none
  | .pauseWdRelease _ => none
  | .txkick _ _ _ => none
  | .ringFrameSent _ => none
  | .linkUp _ => none
  | .linkDown _ => none
  | .speed _ => none
  | .statsnap _ _ _ => none
  | .statsSnapPeriod => none
  | .incrWrite _ _ => none
  | .stepWrite _ _ => none
  | .stepped => none
  | .servoOffset _ _ => none
  | .timeModeWrite _ _ => none
  | .capture _ _ => none
  | .txqPop _ _ _ => none
  | .ptpMessageRx _ _ _ => none
  | .ptpMessageSend _ _ _ => none
  | .syncTimeout => none
  | .networkTimeLocked => none
  | .refLost => none
  | .refQual _ => none
  | .ptpstatWrite _ _ => none
  | .refRevert => none
  | .selWrite _ _ _ => none
  | .loopPhaseCompare _ _ => none
  | .loopStageDwell => none
  | .holdoverUpdate => none
  | .loopstepWrite _ _ => none
  | .phstepDone => none
  | .planeStep _ _ _ => none
  | .dramTrainDone _ => none
  | .refreshDue _ _ => none
  | .mr4Poll _ _ _ _ => none
  | .requestAgeExpire _ _ => none
  | .dramRead _ _ _ _ _ => none
  | .scrubLate => none
  | .trackInterval _ _ => none
  | .drcChkinvWrite _ _ => none
  | .drcChkinvApply => none
  | .dwbankWrite _ _ => none
  | .twinLinkUp _ => none
  | .linkUpRecordRx _ _ _ _ _ => none
  | .twinLinkDown _ => none
  | .twinDeadtime => none
  | .recover _ => none
  | .xchg _ => none
  | .twinCycleBoundary => none
  | .copyResend => none
  | .cycleCopyRx _ _ _ _ _ => none
  | .copyAckRx _ _ => none
  | .mirrorRecordRx _ _ => none
  | .mirrorAckRx _ _ => none
  | .mirrorResend _ => none
  | .latchRecordRx _ _ => none
  | .signatureRx _ _ _ => none
  | .supplyOkEdge _ _ => none
  | .pmbusPoll _ _ => none
  | .gbusTxLatch => none
  | .gbusOwnSlot => none
  | .txgo _ => none
  | .gbusFrameRx _ _ _ => none
  | .gbusSlotMiss _ => none
  | .gbusPairWindow _ _ => none
  | .terrWrite _ _ => none
  | .terrTimeout => none
  | .gbusPop _ => none
  | .eventRaise _ _ => none
  | .recordEntry _ => none
  | .reactionAckTimeout => none
  | .ack _ _ _ => none
  | .slotHeld _ => none
  | .safeclr _ _ => none
  | .histclr _ _ => none
  | .pintest _ _ => none
  | .pinReadback _ _ => none
  | .lockstep _ => none
  | .wdsvc _ _ => none
  | .wdog => none
  | .watchdogRestart _ => none
  | .lockedRead _ _ => none
  | .bmxForced => none
  | .remapWrite _ _ => none
  | .dmaGo _ _ _ => none
  | .dmaDone _ => none
  | .sensorConversion _ _ _ => none
  | .trig _ _ => none
  | .spWrite _ => none
  | .spRead _ => none
  | .spStatus _ => none
  | .spTransactionDone => none
  | .spTimeout => none
  | .presence => none
  | .presenceWindowExpire => none
  | .sealOpen => none
  | .presenceRecoveryHold => none
  | .lcChange _ _ => none
  | .keymsg _ _ => none
  | .attest _ => none
  | .begin _ => none
  | .write _ => none
  | .verify _ _ => none
  | .updCommit _ _ => none
  | .confirm _ => none
  | .updAbort _ => none
  | .trialFallback _ => none
  | .jrpOpen h _ _ _ _ _ => some h
  | .close h => some h
  | .sessionTimeout _ => none
  | .sessionRetainExpire _ => none
  | .nop h _ => some h
  | .jrpTake h _ _ _ => some h
  | .jrpCancel h _ => some h
  | .jrpLock h _ => some h
  | .jrpUnlock h _ => some h
  | .jrpProtect h _ => some h
  | .jrpUnprotect h _ => some h
  | .dtake h _ _ _ _ => some h
  | .druseForwardTimeout _ _ => none
  | .salvoOpen h _ => some h
  | .salvoAdd h _ _ => some h
  | .salvoArm h _ _ _ => some h
  | .salvoCommit h _ => some h
  | .salvoAbort h _ => some h
  | .jrpCreate h _ _ => some h
  | .jrpDestroy h _ => some h
  | .jrpAppend h _ => some h
  | .jrpResolve h _ _ _ => some h
  | .voice h _ _ => some h
  | .layer h _ _ _ => some h
  | .micaSet h _ _ _ => some h
  | .flintLoad h _ _ _ => some h
  | .cnvLoad h _ _ _ _ => some h
  | .cnvSwap h _ => some h
  | .query h _ _ _ => some h
  | .subscribe h _ => some h
  | .unsubscribe h _ => some h
  | .jrpAttest h _ => some h
  | .updStage h _ _ _ _ => some h
  | .updConfirm h => some h
  | .jrpXchg h => some h
  | .jrpUpdCommit h _ _ _ _ => some h
  | .jrpLcChange h _ => some h
  | .jrpKeymsg h _ _ => some h
  | .forceClear h _ => some h
  | .finalStatus => none
  | .notifySend _ => none
  | .edpLinkLoss => none
  | .prbsCheck _ _ _ => none
  | .pcsLock _ => none
  | .faultSequence _ _ => none
  | .refDisqual _ => none
  | .quadPllLockTimeout _ _ => none
  | .sealClosed => none
  | .presenceRelease => none
  | .memberAnswer _ _ _ _ => none
  | .avsRequest _ => none
  | .avsAnswer _ => none
  | .avsTimeout => none

/-- What the family says of a command. -/
def Statement (i : Instr) : Prop :=
  i.wf = true → (∀ m, master i = some m → m < 8) ∧ ∀ h, header i = some h → h.wf = true

theorem left {a b : Bool} (h : (a && b) = true) : a = true := (Bool.and_eq_true_iff.mp h).1

/-- A command with neither a master nor a header. -/
theorem neither {i : Instr} (hm : master i = none) (hh : header i = none) : Statement i := by
  intro _; simp [hm, hh]

/-- A command that a master sends. -/
theorem sent {i : Instr} {m : Nat} (hm : master i = some m) (hh : header i = none) (h : i.wf = true → m < 8) : Statement i := by
  intro w; simp [hm, hh, h w]

/-- A command that a datagram carries. -/
theorem carried {i : Instr} {x : JrpHdr} (hm : master i = none) (hh : header i = some x) (h : i.wf = true → x.wf = true) :
    Statement i := by
  intro w; simp [hm, hh, h w]

theorem registerWrite (m : Nat) (addr : Nat) (size : Nat) (data : Word) : Statement (.registerWrite m addr size data) :=
  sent rfl rfl fun w => of_decide_eq_true (left (left w))
theorem domainWriteEffect (blk : Nat) : Statement (.domainWriteEffect blk) :=
  neither rfl rfl
theorem unlock (m : Nat) (data : Word) : Statement (.unlock m data) :=
  sent rfl rfl fun w => of_decide_eq_true w
theorem unlockTimeout (m : Nat) : Statement (.unlockTimeout m) :=
  sent rfl rfl fun w => of_decide_eq_true w
theorem blockSoftReset (m : Nat) (blk : Nat) (data : Word) : Statement (.blockSoftReset m blk data) :=
  sent rfl rfl fun w => of_decide_eq_true (left (left (left w)))
theorem blockEnable (m : Nat) (blk : Nat) (data : Word) : Statement (.blockEnable m blk data) :=
  sent rfl rfl fun w => of_decide_eq_true (left (left (left (left w))))
theorem blockDisable (m : Nat) (blk : Nat) (data : Word) : Statement (.blockDisable m blk data) :=
  sent rfl rfl fun w => of_decide_eq_true (left (left (left (left w))))
theorem blockStopDone (blk : Nat) : Statement (.blockStopDone blk) :=
  neither rfl rfl
theorem powerOnReset (card : CardInput) (env : StartEnv) : Statement (.powerOnReset card env) :=
  neither rfl rfl
theorem warmRestart (cause : Nat) (env : StartEnv) : Statement (.warmRestart cause env) :=
  neither rfl rfl
theorem startPllWaitExpire : Statement (.startPllWaitExpire) :=
  neither rfl rfl
theorem lockwaitExpire : Statement (.lockwaitExpire) :=
  neither rfl rfl
theorem frameStart (e : Nat) (fmt : Nat) (picture : List Pix) (anc : List AncPkt) : Statement (.frameStart e fmt picture anc) :=
  neither rfl rfl
theorem noFrameTimeout (e : Nat) : Statement (.noFrameTimeout e) :=
  neither rfl rfl
theorem ingressCellWrite (e : Nat) : Statement (.ingressCellWrite e) :=
  neither rfl rfl
theorem egressReadPoint (e : Nat) (flips : List Nat) (slips : Nat) : Statement (.egressReadPoint e flips slips) :=
  neither rfl rfl
theorem planeFrameInstant (p : Nat) : Statement (.planeFrameInstant p) :=
  neither rfl rfl
theorem fsDramLate (u : Nat) (k : Nat) : Statement (.fsDramLate u k) :=
  neither rfl rfl
theorem compact : Statement (.compact) :=
  neither rfl rfl
theorem create (m : Nat) : Statement (.create m) :=
  sent rfl rfl fun w => of_decide_eq_true w
theorem destroy (m : Nat) : Statement (.destroy m) :=
  sent rfl rfl fun w => of_decide_eq_true w
theorem append (m : Nat) : Statement (.append m) :=
  sent rfl rfl fun w => of_decide_eq_true w
theorem resolve (m : Nat) : Statement (.resolve m) :=
  sent rfl rfl fun w => of_decide_eq_true w
theorem chnLowmarkWrite (m : Nat) (data : Word) : Statement (.chnLowmarkWrite m data) :=
  sent rfl rfl fun w => of_decide_eq_true w
theorem appendClaimAnswer (code : Nat) (handle : Nat) (size : Nat × Nat) : Statement (.appendClaimAnswer code handle size) :=
  neither rfl rfl
theorem appendClaimTimeout : Statement (.appendClaimTimeout) :=
  neither rfl rfl
theorem entryRelease (i : Nat) : Statement (.entryRelease i) :=
  neither rfl rfl
theorem take (m : Nat) (peer : Nat) : Statement (.take m peer) :=
  sent rfl rfl fun w => of_decide_eq_true (left w)
theorem cancel (m : Nat) (peer : Nat) : Statement (.cancel m peer) :=
  sent rfl rfl fun w => of_decide_eq_true (left w)
theorem lock (m : Nat) (peer : Nat) : Statement (.lock m peer) :=
  sent rfl rfl fun w => of_decide_eq_true (left w)
theorem unlockOutput (m : Nat) (peer : Nat) : Statement (.unlockOutput m peer) :=
  sent rfl rfl fun w => of_decide_eq_true (left w)
theorem protect (m : Nat) (peer : Nat) : Statement (.protect m peer) :=
  sent rfl rfl fun w => of_decide_eq_true (left w)
theorem unprotect (m : Nat) (peer : Nat) : Statement (.unprotect m peer) :=
  sent rfl rfl fun w => of_decide_eq_true (left w)
theorem openGid (m : Nat) (peer : Nat) : Statement (.openGid m peer) :=
  sent rfl rfl fun w => of_decide_eq_true (left w)
theorem add (m : Nat) (peer : Nat) : Statement (.add m peer) :=
  sent rfl rfl fun w => of_decide_eq_true (left w)
theorem arm (m : Nat) (peer : Nat) : Statement (.arm m peer) :=
  sent rfl rfl fun w => of_decide_eq_true (left w)
theorem commit (m : Nat) (peer : Nat) : Statement (.commit m peer) :=
  sent rfl rfl fun w => of_decide_eq_true (left w)
theorem abort (m : Nat) (peer : Nat) : Statement (.abort m peer) :=
  sent rfl rfl fun w => of_decide_eq_true (left w)
theorem salvoOpenExpire (v : Nat) : Statement (.salvoOpenExpire v) :=
  neither rfl rfl
theorem salvoExpired (v : Nat) : Statement (.salvoExpired v) :=
  neither rfl rfl
theorem latchPoint (out : Nat) : Statement (.latchPoint out) :=
  neither rfl rfl
theorem switchInstant (out : Nat) : Statement (.switchInstant out) :=
  neither rfl rfl
theorem tcqpop (m : Nat) (data : Word) : Statement (.tcqpop m data) :=
  sent rfl rfl fun w => of_decide_eq_true w
theorem outputFrameSend (e : Nat) (taken : Nat) (off : Bool) (holdBad : Bool) : Statement (.outputFrameSend e taken off holdBad) :=
  neither rfl rfl
theorem egressCheck (e : Nat) : Statement (.egressCheck e) :=
  neither rfl rfl
theorem digestVerdict (e : Nat) (got : Option Nat) : Statement (.digestVerdict e got) :=
  neither rfl rfl
theorem safeContentSwitch (e : Nat) : Statement (.safeContentSwitch e) :=
  neither rfl rfl
theorem outclr (m : Nat) (data : Word) : Statement (.outclr m data) :=
  sent rfl rfl fun w => of_decide_eq_true w
theorem chkinvWrite (m : Nat) (data : Word) : Statement (.chkinvWrite m data) :=
  sent rfl rfl fun w => of_decide_eq_true w
theorem chkinvDone (addr : Nat) : Statement (.chkinvDone addr) :=
  neither rfl rfl
theorem tokinjWrite (m : Nat) (data : Word) : Statement (.tokinjWrite m data) :=
  sent rfl rfl fun w => of_decide_eq_true w
theorem scrubRead (mem : Nat) (addr : Nat) (flips : Nat) (unit : Nat) (part : Nat) : Statement (.scrubRead mem addr flips unit part) :=
  neither rfl rfl
theorem rateHuntDwell (n : Nat) : Statement (.rateHuntDwell n) :=
  neither rfl rfl
theorem sdiLine (n : Nat) (line : SdiLine) : Statement (.sdiLine n line) :=
  neither rfl rfl
theorem sdiFrameStart (n : Nat) (fmt : Nat) (pids : FramePids) : Statement (.sdiFrameStart n fmt pids) :=
  neither rfl rfl
theorem ancPacketRx (n : Nat) (p : AncPkt) : Statement (.ancPacketRx n p) :=
  neither rfl rfl
theorem audioPacketRx (n : Nat) (p : AudioPkt) : Statement (.audioPacketRx n p) :=
  neither rfl rfl
theorem ipmFrameRelease (f : Nat) (picture : List Pix) (anc : List AncPkt) : Statement (.ipmFrameRelease f picture anc) :=
  neither rfl rfl
theorem legDown (f : Nat) (leg : Nat) : Statement (.legDown f leg) :=
  neither rfl rfl
theorem audioSampleTick (f : Nat) (flips : Nat) : Statement (.audioSampleTick f flips) :=
  neither rfl rfl
theorem ipmPacketSend (f : Nat) : Statement (.ipmPacketSend f) :=
  neither rfl rfl
theorem audioFlowSend (f : Nat) : Statement (.audioFlowSend f) :=
  neither rfl rfl
theorem igmpReportTimer (p : Nat) (group : Nat) : Statement (.igmpReportTimer p group) :=
  neither rfl rfl
theorem igmpQueryRx (p : Nat) (version : Nat) (group : Nat) (maxResp : Nat) : Statement (.igmpQueryRx p version group maxResp) :=
  neither rfl rfl
theorem igmpCompatTimeout (p : Nat) : Statement (.igmpCompatTimeout p) :=
  neither rfl rfl
theorem joinTimeout (f : Nat) (leg : Nat) : Statement (.joinTimeout f leg) :=
  neither rfl rfl
theorem poldropAccumulate : Statement (.poldropAccumulate) :=
  neither rfl rfl
theorem source (m : Nat) : Statement (.source m) :=
  sent rfl rfl fun w => of_decide_eq_true w
theorem couple (m : Nat) : Statement (.couple m) :=
  sent rfl rfl fun w => of_decide_eq_true w
theorem gain (m : Nat) : Statement (.gain m) :=
  sent rfl rfl fun w => of_decide_eq_true w
theorem mute (m : Nat) : Statement (.mute m) :=
  sent rfl rfl fun w => of_decide_eq_true w
theorem xfmode (m : Nat) : Statement (.xfmode m) :=
  sent rfl rfl fun w => of_decide_eq_true w
theorem audioBlockBoundary (blocks : List VoiceBlock) : Statement (.audioBlockBoundary blocks) :=
  neither rfl rfl
theorem aprtFrame (n : Nat) (bclks : Nat) (hz : Nat) (slots : List Nat) : Statement (.aprtFrame n bclks hz slots) :=
  neither rfl rfl
theorem asrcRelockDone (n : Nat) : Statement (.asrcRelockDone n) :=
  neither rfl rfl
theorem clklost (n : Nat) : Statement (.clklost n) :=
  neither rfl rfl
theorem swap (m : Nat) (n : Nat) (data : Word) : Statement (.swap m n data) :=
  sent rfl rfl fun w => of_decide_eq_true (left w)
theorem swapDone (n : Nat) : Statement (.swapDone n) :=
  neither rfl rfl
theorem cnvLutdataAccess (m : Nat) (n : Nat) (write : Bool) (data : Word) : Statement (.cnvLutdataAccess m n write data) :=
  sent rfl rfl fun w => of_decide_eq_true (left w)
theorem cnvFrame (n : Nat) (words : List (Nat × Nat)) : Statement (.cnvFrame n words) :=
  neither rfl rfl
theorem bind (m : Nat) (g : Nat) : Statement (.bind m g) :=
  sent rfl rfl fun w => of_decide_eq_true (left w)
theorem rebind (m : Nat) (g : Nat) : Statement (.rebind m g) :=
  sent rfl rfl fun w => of_decide_eq_true (left w)
theorem unbind (m : Nat) (g : Nat) : Statement (.unbind m g) :=
  sent rfl rfl fun w => of_decide_eq_true (left w)
theorem micaCommit (m : Nat) (g : Nat) (data : Word) : Statement (.micaCommit m g data) :=
  sent rfl rfl fun w => of_decide_eq_true (left w)
theorem reflatten (m : Nat) (g : Nat) (data : Word) : Statement (.reflatten m g data) :=
  sent rfl rfl fun w => of_decide_eq_true (left w)
theorem flattenDone (g : Nat) (us : Nat) : Statement (.flattenDone g us) :=
  neither rfl rfl
theorem selectionPoint (g : Nat) : Statement (.selectionPoint g) :=
  neither rfl rfl
theorem micaLutdataAccess (m : Nat) (g : Nat) (write : Bool) (data : Word) : Statement (.micaLutdataAccess m g write data) :=
  sent rfl rfl fun w => of_decide_eq_true (left w)
theorem flintloadGo (m : Nat) (g : Nat) (data : Word) : Statement (.flintloadGo m g data) :=
  sent rfl rfl fun w => of_decide_eq_true (left w)
theorem flintLoadDone (g : Nat) : Statement (.flintLoadDone g) :=
  neither rfl rfl
theorem micaFrameWrite (g : Nat) (late : Bool) : Statement (.micaFrameWrite g late) :=
  neither rfl rfl
theorem flintFail (g : Nat) (got : Nat) : Statement (.flintFail g got) :=
  neither rfl rfl
theorem decimatorFrame (d : Nat) (late : Bool) : Statement (.decimatorFrame d late) :=
  neither rfl rfl
theorem layerStaleTimeout (g : Nat) (l : Nat) : Statement (.layerStaleTimeout g l) :=
  neither rfl rfl
theorem scanTrainDone (ok : Bool) (psr : Bool) : Statement (.scanTrainDone ok psr) :=
  neither rfl rfl
theorem edpHpdEdge (high : Bool) : Statement (.edpHpdEdge high) :=
  neither rfl rfl
theorem scanTrainRetry : Statement (.scanTrainRetry) :=
  neither rfl rfl
theorem flip (m : Nat) (data : Word) : Statement (.flip m data) :=
  sent rfl rfl fun w => of_decide_eq_true w
theorem scanLatchPoint : Statement (.scanLatchPoint) :=
  neither rfl rfl
theorem scanFrameStart : Statement (.scanFrameStart) :=
  neither rfl rfl
theorem underrun : Statement (.underrun) :=
  neither rfl rfl
theorem psrEntry (accepted : Bool) : Statement (.psrEntry accepted) :=
  neither rfl rfl
theorem psrexit (m : Nat) (data : Word) : Statement (.psrexit m data) :=
  sent rfl rfl fun w => of_decide_eq_true w
theorem nativeRead (m : Nat) (addr : Nat) (len : Nat) : Statement (.nativeRead m addr len) :=
  sent rfl rfl fun w => of_decide_eq_true (left (left w))
theorem nativeWrite (m : Nat) (addr : Nat) (len : Nat) : Statement (.nativeWrite m addr len) :=
  sent rfl rfl fun w => of_decide_eq_true (left (left w))
theorem i2cRead (m : Nat) (addr : Nat) (len : Nat) : Statement (.i2cRead m addr len) :=
  sent rfl rfl fun w => of_decide_eq_true (left (left w))
theorem i2cWrite (m : Nat) (addr : Nat) (len : Nat) : Statement (.i2cWrite m addr len) :=
  sent rfl rfl fun w => of_decide_eq_true (left (left w))
theorem auxReply (code : Nat) (bytes : List Byte) : Statement (.auxReply code bytes) :=
  neither rfl rfl
theorem auxTimeout : Statement (.auxTimeout) :=
  neither rfl rfl
theorem signalDetect (n : Nat) (on : Bool) (rows : Nat) : Statement (.signalDetect n on rows) :=
  neither rfl rfl
theorem cdrLock (n : Nat) (div : Bool) : Statement (.cdrLock n div) :=
  neither rfl rfl
theorem cdrLost (n : Nat) (rows : Nat) : Statement (.cdrLost n rows) :=
  neither rfl rfl
theorem blockLock (n : Nat) : Statement (.blockLock n) :=
  neither rfl rfl
theorem blockLost (n : Nat) (inv : Nat) : Statement (.blockLost n inv) :=
  neither rfl rfl
theorem cellRx (n : Nat) (cell : FabricCell) : Statement (.cellRx n cell) :=
  neither rfl rfl
theorem polInv (n : Nat) : Statement (.polInv n) :=
  neither rfl rfl
theorem serviceCellSend (n : Nat) : Statement (.serviceCellSend n) :=
  neither rfl rfl
theorem serviceCellRx (n : Nat) (cell : ServiceCell) : Statement (.serviceCellRx n cell) :=
  neither rfl rfl
theorem pllRetuneDone (q : Nat) (p : Nat) : Statement (.pllRetuneDone q p) :=
  neither rfl rfl
theorem pllRetuneTimeout (q : Nat) (p : Nat) : Statement (.pllRetuneTimeout q p) :=
  neither rfl rfl
theorem pllaLost (q : Nat) (p : Nat) : Statement (.pllaLost q p) :=
  neither rfl rfl
theorem pllRelock (q : Nat) (p : Nat) : Statement (.pllRelock q p) :=
  neither rfl rfl
theorem txeqWrite (m : Nat) (n : Nat) (data : Word) : Statement (.txeqWrite m n data) :=
  sent rfl rfl fun w => of_decide_eq_true (left w)
theorem laneCfgWrite (m : Nat) (n : Nat) (data : Word) : Statement (.laneCfgWrite m n data) :=
  sent rfl rfl fun w => of_decide_eq_true (left w)
theorem eqLimit (n : Nat) (ctle : Nat) (dfe14 : Nat) (dfe5 : Nat) : Statement (.eqLimit n ctle dfe14 dfe5) :=
  neither rfl rfl
theorem eyeMeasure (n : Nat) (height : Nat) (width : Nat) : Statement (.eyeMeasure n height width) :=
  neither rfl rfl
theorem ethFrameRx (p : Nat) (frame : List Byte) (fecCor : Nat) (fecUnc : Nat) (fifoFull : Bool) : Statement (.ethFrameRx p frame fecCor fecUnc fifoFull) :=
  neither rfl rfl
theorem pauseExpire (p : Nat) (cls : Nat) : Statement (.pauseExpire p cls) :=
  neither rfl rfl
theorem pauseWd (p : Nat) (cls : Nat) : Statement (.pauseWd p cls) :=
  neither rfl rfl
theorem pauseWdRelease (p : Nat) : Statement (.pauseWdRelease p) :=
  neither rfl rfl
theorem txkick (m : Nat) (p : Nat) (data : Word) : Statement (.txkick m p data) :=
  sent rfl rfl fun w => of_decide_eq_true (left w)
theorem ringFrameSent (p : Nat) : Statement (.ringFrameSent p) :=
  neither rfl rfl
theorem linkUp (p : Nat) : Statement (.linkUp p) :=
  neither rfl rfl
theorem linkDown (p : Nat) : Statement (.linkDown p) :=
  neither rfl rfl
theorem speed (p : Nat) : Statement (.speed p) :=
  neither rfl rfl
theorem statsnap (m : Nat) (p : Nat) (data : Word) : Statement (.statsnap m p data) :=
  sent rfl rfl fun w => of_decide_eq_true (left w)
theorem statsSnapPeriod : Statement (.statsSnapPeriod) :=
  neither rfl rfl
theorem incrWrite (m : Nat) (data : Word) : Statement (.incrWrite m data) :=
  sent rfl rfl fun w => of_decide_eq_true w
theorem stepWrite (m : Nat) (data : Word) : Statement (.stepWrite m data) :=
  sent rfl rfl fun w => of_decide_eq_true w
theorem stepped : Statement (.stepped) :=
  neither rfl rfl
theorem servoOffset (m : Nat) (data : Word) : Statement (.servoOffset m data) :=
  sent rfl rfl fun w => of_decide_eq_true w
theorem timeModeWrite (m : Nat) (data : Word) : Statement (.timeModeWrite m data) :=
  sent rfl rfl fun w => of_decide_eq_true w
theorem capture (m : Nat) (data : Word) : Statement (.capture m data) :=
  sent rfl rfl fun w => of_decide_eq_true w
theorem txqPop (m : Nat) (port : Nat) (data : Word) : Statement (.txqPop m port data) :=
  sent rfl rfl fun w => of_decide_eq_true (left w)
theorem ptpMessageRx (port : Nat) (stamp : Nat) (msg : PtpMsg) : Statement (.ptpMessageRx port stamp msg) :=
  neither rfl rfl
theorem ptpMessageSend (port : Nat) (kind : PtpKind) (stamp : Nat) : Statement (.ptpMessageSend port kind stamp) :=
  neither rfl rfl
theorem syncTimeout : Statement (.syncTimeout) :=
  neither rfl rfl
theorem networkTimeLocked : Statement (.networkTimeLocked) :=
  neither rfl rfl
theorem refLost : Statement (.refLost) :=
  neither rfl rfl
theorem refQual (ref : Nat) : Statement (.refQual ref) :=
  neither rfl rfl
theorem ptpstatWrite (m : Nat) (data : Word) : Statement (.ptpstatWrite m data) :=
  sent rfl rfl fun w => of_decide_eq_true w
theorem refRevert : Statement (.refRevert) :=
  neither rfl rfl
theorem selWrite (m : Nat) (prio : Bool) (data : Word) : Statement (.selWrite m prio data) :=
  sent rfl rfl fun w => of_decide_eq_true w
theorem loopPhaseCompare (ref : Nat) (pulse : Bool × Int) : Statement (.loopPhaseCompare ref pulse) :=
  neither rfl rfl
theorem loopStageDwell : Statement (.loopStageDwell) :=
  neither rfl rfl
theorem holdoverUpdate : Statement (.holdoverUpdate) :=
  neither rfl rfl
theorem loopstepWrite (m : Nat) (data : Word) : Statement (.loopstepWrite m data) :=
  sent rfl rfl fun w => of_decide_eq_true w
theorem phstepDone : Statement (.phstepDone) :=
  neither rfl rfl
theorem planeStep (m : Nat) (p : Nat) (data : Word) : Statement (.planeStep m p data) :=
  sent rfl rfl fun w => of_decide_eq_true (left w)
theorem dramTrainDone (results : List TrainResult) : Statement (.dramTrainDone results) :=
  neither rfl rfl
theorem refreshDue (c : Nat) (c0queued : Bool) : Statement (.refreshDue c c0queued) :=
  neither rfl rfl
theorem mr4Poll (c : Nat) (code : Nat) (band : Nat) (overs : Bool) : Statement (.mr4Poll c code band overs) :=
  neither rfl rfl
theorem requestAgeExpire (c : Nat) (cls : Nat) : Statement (.requestAgeExpire c cls) :=
  neither rfl rfl
theorem dramRead (addr : Nat) (len : Nat) (cls : Nat) (client : DramClient) (flips : Nat) : Statement (.dramRead addr len cls client flips) :=
  neither rfl rfl
theorem scrubLate : Statement (.scrubLate) :=
  neither rfl rfl
theorem trackInterval (c : Nat) (move : Int) : Statement (.trackInterval c move) :=
  neither rfl rfl
theorem drcChkinvWrite (m : Nat) (data : Word) : Statement (.drcChkinvWrite m data) :=
  sent rfl rfl fun w => of_decide_eq_true w
theorem drcChkinvApply : Statement (.drcChkinvApply) :=
  neither rfl rfl
theorem dwbankWrite (m : Nat) (data : Word) : Statement (.dwbankWrite m data) :=
  sent rfl rfl fun w => of_decide_eq_true w
theorem twinLinkUp (secondary : Bool) : Statement (.twinLinkUp secondary) :=
  neither rfl rfl
theorem linkUpRecordRx (ok : Bool) (id : LinkUpId) (measFw : Nat) (measPair : Nat) (claim : Nat) : Statement (.linkUpRecordRx ok id measFw measPair claim) :=
  neither rfl rfl
theorem twinLinkDown (secondary : Bool) : Statement (.twinLinkDown secondary) :=
  neither rfl rfl
theorem twinDeadtime : Statement (.twinDeadtime) :=
  neither rfl rfl
theorem recover (m : Nat) : Statement (.recover m) :=
  sent rfl rfl fun w => of_decide_eq_true w
theorem xchg (m : Nat) : Statement (.xchg m) :=
  sent rfl rfl fun w => of_decide_eq_true w
theorem twinCycleBoundary : Statement (.twinCycleBoundary) :=
  neither rfl rfl
theorem copyResend : Statement (.copyResend) :=
  neither rfl rfl
theorem cycleCopyRx (macOk : Bool) (cycle : Nat) (mirSeq : Nat) (full : Bool) (items : List CopyItem) : Statement (.cycleCopyRx macOk cycle mirSeq full items) :=
  neither rfl rfl
theorem copyAckRx (macOk : Bool) (cycle : Nat) : Statement (.copyAckRx macOk cycle) :=
  neither rfl rfl
theorem mirrorRecordRx (macOk : Bool) (r : MirrorRec) : Statement (.mirrorRecordRx macOk r) :=
  neither rfl rfl
theorem mirrorAckRx (macOk : Bool) (seq : Nat) : Statement (.mirrorAckRx macOk seq) :=
  neither rfl rfl
theorem mirrorResend (seq : Nat) : Statement (.mirrorResend seq) :=
  neither rfl rfl
theorem latchRecordRx (macOk : Bool) (items : List LatchItem) : Statement (.latchRecordRx macOk items) :=
  neither rfl rfl
theorem signatureRx (macOk : Bool) (cycle : Nat) (sigs : List SigItem) : Statement (.signatureRx macOk cycle sigs) :=
  neither rfl rfl
theorem supplyOkEdge (feed : Nat) (good : Bool) : Statement (.supplyOkEdge feed good) :=
  neither rfl rfl
theorem pmbusPoll (feed : Nat) (words : Option PmbusWords) : Statement (.pmbusPoll feed words) :=
  neither rfl rfl
theorem gbusTxLatch : Statement (.gbusTxLatch) :=
  neither rfl rfl
theorem gbusOwnSlot : Statement (.gbusOwnSlot) :=
  neither rfl rfl
theorem txgo (m : Nat) : Statement (.txgo m) :=
  sent rfl rfl fun w => of_decide_eq_true w
theorem gbusFrameRx (pair : Nat) (slot : Nat) (frame : GbusFrame) : Statement (.gbusFrameRx pair slot frame) :=
  neither rfl rfl
theorem gbusSlotMiss (slot : Nat) : Statement (.gbusSlotMiss slot) :=
  neither rfl rfl
theorem gbusPairWindow (gotA : List Nat) (gotB : List Nat) : Statement (.gbusPairWindow gotA gotB) :=
  neither rfl rfl
theorem terrWrite (m : Nat) (data : Word) : Statement (.terrWrite m data) :=
  sent rfl rfl fun w => of_decide_eq_true w
theorem terrTimeout : Statement (.terrTimeout) :=
  neither rfl rfl
theorem gbusPop (m : Nat) : Statement (.gbusPop m) :=
  sent rfl rfl fun w => of_decide_eq_true w
theorem eventRaise (src : Nat) (data : Word) : Statement (.eventRaise src data) :=
  neither rfl rfl
theorem recordEntry (e : EntryErrors) : Statement (.recordEntry e) :=
  neither rfl rfl
theorem reactionAckTimeout : Statement (.reactionAckTimeout) :=
  neither rfl rfl
theorem ack (m : Nat) (slot : Nat) (data : Word) : Statement (.ack m slot data) :=
  sent rfl rfl fun w => of_decide_eq_true (left w)
theorem slotHeld (slot : Nat) : Statement (.slotHeld slot) :=
  neither rfl rfl
theorem safeclr (m : Nat) (data : Word) : Statement (.safeclr m data) :=
  sent rfl rfl fun w => of_decide_eq_true w
theorem histclr (m : Nat) (data : Word) : Statement (.histclr m data) :=
  sent rfl rfl fun w => of_decide_eq_true w
theorem pintest (m : Nat) (data : Word) : Statement (.pintest m data) :=
  sent rfl rfl fun w => of_decide_eq_true w
theorem pinReadback (a : Bool) (b : Bool) : Statement (.pinReadback a b) :=
  neither rfl rfl
theorem lockstep (env : StartEnv) : Statement (.lockstep env) :=
  neither rfl rfl
theorem wdsvc (m : Nat) (key : Word) : Statement (.wdsvc m key) :=
  sent rfl rfl fun w => of_decide_eq_true w
theorem wdog : Statement (.wdog) :=
  neither rfl rfl
theorem watchdogRestart (env : StartEnv) : Statement (.watchdogRestart env) :=
  neither rfl rfl
theorem lockedRead (m : Nat) (addr : Nat) : Statement (.lockedRead m addr) :=
  sent rfl rfl fun w => of_decide_eq_true (left w)
theorem bmxForced : Statement (.bmxForced) :=
  neither rfl rfl
theorem remapWrite (m : Nat) (data : Word) : Statement (.remapWrite m data) :=
  sent rfl rfl fun w => of_decide_eq_true w
theorem dmaGo (m : Nat) (k : Nat) (data : Word) : Statement (.dmaGo m k data) :=
  sent rfl rfl fun w => of_decide_eq_true (left w)
theorem dmaDone (k : Nat) : Statement (.dmaDone k) :=
  neither rfl rfl
theorem sensorConversion (volt : Bool) (value : Nat) (fault : Bool) : Statement (.sensorConversion volt value fault) :=
  neither rfl rfl
theorem trig (m : Nat) (data : Word) : Statement (.trig m data) :=
  sent rfl rfl fun w => of_decide_eq_true w
theorem spWrite (frame : List Byte) : Statement (.spWrite frame) :=
  neither rfl rfl
theorem spRead (frame : List Byte) : Statement (.spRead frame) :=
  neither rfl rfl
theorem spStatus (frame : List Byte) : Statement (.spStatus frame) :=
  neither rfl rfl
theorem spTransactionDone : Statement (.spTransactionDone) :=
  neither rfl rfl
theorem spTimeout : Statement (.spTimeout) :=
  neither rfl rfl
theorem presence : Statement (.presence) :=
  neither rfl rfl
theorem presenceWindowExpire : Statement (.presenceWindowExpire) :=
  neither rfl rfl
theorem sealOpen : Statement (.sealOpen) :=
  neither rfl rfl
theorem presenceRecoveryHold : Statement (.presenceRecoveryHold) :=
  neither rfl rfl
theorem lcChange (m : Nat) (target : Nat) : Statement (.lcChange m target) :=
  sent rfl rfl fun w => of_decide_eq_true (left w)
theorem keymsg (m : Nat) (signer : Option Nat) : Statement (.keymsg m signer) :=
  sent rfl rfl fun w => of_decide_eq_true w
theorem attest (m : Nat) : Statement (.attest m) :=
  sent rfl rfl fun w => of_decide_eq_true w
theorem begin (m : Nat) : Statement (.begin m) :=
  sent rfl rfl fun w => of_decide_eq_true w
theorem write (m : Nat) : Statement (.write m) :=
  sent rfl rfl fun w => of_decide_eq_true w
theorem verify (m : Nat) (read : StageRead) : Statement (.verify m read) :=
  sent rfl rfl fun w => of_decide_eq_true w
theorem updCommit (m : Nat) (env : StartEnv) : Statement (.updCommit m env) :=
  sent rfl rfl fun w => of_decide_eq_true (left w)
theorem confirm (m : Nat) : Statement (.confirm m) :=
  sent rfl rfl fun w => of_decide_eq_true w
theorem updAbort (m : Nat) : Statement (.updAbort m) :=
  sent rfl rfl fun w => of_decide_eq_true w
theorem trialFallback (env : StartEnv) : Statement (.trialFallback env) :=
  neither rfl rfl
theorem jrpOpen (h : JrpHdr) (peer : Nat) (resume : Nat) (nonce : Nat) (qc : Option Nat) (sigOk : Bool) : Statement (.jrpOpen h peer resume nonce qc sigOk) :=
  carried rfl rfl fun w => (left (left w))
theorem close (h : JrpHdr) : Statement (.close h) :=
  carried rfl rfl fun w => w
theorem sessionTimeout (session : Nat) : Statement (.sessionTimeout session) :=
  neither rfl rfl
theorem sessionRetainExpire (session : Nat) : Statement (.sessionRetainExpire session) :=
  neither rfl rfl
theorem nop (h : JrpHdr) (known : Bool) : Statement (.nop h known) :=
  carried rfl rfl fun w => w
theorem jrpTake (h : JrpHdr) (out : Nat) (src : Nat) (instant : Nat) : Statement (.jrpTake h out src instant) :=
  carried rfl rfl fun w => (left (left (left w)))
theorem jrpCancel (h : JrpHdr) (id : Nat) : Statement (.jrpCancel h id) :=
  carried rfl rfl fun w => (left w)
theorem jrpLock (h : JrpHdr) (out : Nat) : Statement (.jrpLock h out) :=
  carried rfl rfl fun w => (left w)
theorem jrpUnlock (h : JrpHdr) (out : Nat) : Statement (.jrpUnlock h out) :=
  carried rfl rfl fun w => (left w)
theorem jrpProtect (h : JrpHdr) (out : Nat) : Statement (.jrpProtect h out) :=
  carried rfl rfl fun w => (left w)
theorem jrpUnprotect (h : JrpHdr) (out : Nat) : Statement (.jrpUnprotect h out) :=
  carried rfl rfl fun w => (left w)
theorem dtake (h : JrpHdr) (druse : Nat) (inPos : Nat) (outPos : Nat) (instant : Nat) : Statement (.dtake h druse inPos outPos instant) :=
  carried rfl rfl fun w => (left (left (left (left w))))
theorem druseForwardTimeout (session : Nat) (txid : Nat) : Statement (.druseForwardTimeout session txid) :=
  neither rfl rfl
theorem salvoOpen (h : JrpHdr) (gid : Nat) : Statement (.salvoOpen h gid) :=
  carried rfl rfl fun w => (left w)
theorem salvoAdd (h : JrpHdr) (gid : Nat) (adds : SalvoAdds) : Statement (.salvoAdd h gid adds) :=
  carried rfl rfl fun w => (left (left (left w)))
theorem salvoArm (h : JrpHdr) (gid : Nat) (instant : Nat) (minlead : Nat) : Statement (.salvoArm h gid instant minlead) :=
  carried rfl rfl fun w => (left (left w))
theorem salvoCommit (h : JrpHdr) (gid : Nat) : Statement (.salvoCommit h gid) :=
  carried rfl rfl fun w => (left w)
theorem salvoAbort (h : JrpHdr) (gid : Nat) : Statement (.salvoAbort h gid) :=
  carried rfl rfl fun w => (left w)
theorem jrpCreate (h : JrpHdr) (args : List Nat) (desc : List Nat) : Statement (.jrpCreate h args desc) :=
  carried rfl rfl fun w => (left (left w))
theorem jrpDestroy (h : JrpHdr) (handle : Nat) : Statement (.jrpDestroy h handle) :=
  carried rfl rfl fun w => (left w)
theorem jrpAppend (h : JrpHdr) (req : AppendReq) : Statement (.jrpAppend h req) :=
  carried rfl rfl fun w => (left (left w))
theorem jrpResolve (h : JrpHdr) (druse : Nat) (dir : Nat) (pos : Nat) : Statement (.jrpResolve h druse dir pos) :=
  carried rfl rfl fun w => (left (left (left w)))
theorem voice (h : JrpHdr) (op : Nat) (args : List Nat) : Statement (.voice h op args) :=
  carried rfl rfl fun w => (left (left w))
theorem layer (h : JrpHdr) (engine : Nat) (op : Nat) (args : List Nat) : Statement (.layer h engine op args) :=
  carried rfl rfl fun w => (left (left (left w)))
theorem micaSet (h : JrpHdr) (engine : Nat) (words : List (Nat × Nat)) (commit : Bool) : Statement (.micaSet h engine words commit) :=
  carried rfl rfl fun w => (left (left w))
theorem flintLoad (h : JrpHdr) (engine : Nat) (addr : Nat) (crc : Nat) : Statement (.flintLoad h engine addr crc) :=
  carried rfl rfl fun w => (left (left w))
theorem cnvLoad (h : JrpHdr) (cnv : Nat) (lutsel : Nat) (first : Nat) (values : List Nat) : Statement (.cnvLoad h cnv lutsel first values) :=
  carried rfl rfl fun w => (left (left (left (left w))))
theorem cnvSwap (h : JrpHdr) (cnv : Nat) : Statement (.cnvSwap h cnv) :=
  carried rfl rfl fun w => (left w)
theorem query (h : JrpHdr) (object : Nat) (first : Nat) (count : Nat) : Statement (.query h object first count) :=
  carried rfl rfl fun w => (left (left (left w)))
theorem subscribe (h : JrpHdr) (sub : JrpSub) : Statement (.subscribe h sub) :=
  carried rfl rfl fun w => (left w)
theorem unsubscribe (h : JrpHdr) (number : Nat) : Statement (.unsubscribe h number) :=
  carried rfl rfl fun w => (left w)
theorem jrpAttest (h : JrpHdr) (nonce : List Byte) : Statement (.jrpAttest h nonce) :=
  carried rfl rfl fun w => (left w)
theorem updStage (h : JrpHdr) (op : Nat) (args : List Nat) (bytes : List Byte) (read : StageRead) : Statement (.updStage h op args bytes read) :=
  carried rfl rfl fun w => (left (left (left w)))
theorem updConfirm (h : JrpHdr) : Statement (.updConfirm h) :=
  carried rfl rfl fun w => w
theorem jrpXchg (h : JrpHdr) : Statement (.jrpXchg h) :=
  carried rfl rfl fun w => w
theorem jrpUpdCommit (h : JrpHdr) (mode : Nat) (trialWin : Nat) (trialMax : Nat) (env : StartEnv) : Statement (.jrpUpdCommit h mode trialWin trialMax env) :=
  carried rfl rfl fun w => (left (left (left (left w))))
theorem jrpLcChange (h : JrpHdr) (target : Nat) : Statement (.jrpLcChange h target) :=
  carried rfl rfl fun w => (left w)
theorem jrpKeymsg (h : JrpHdr) (msg : List Byte) (signer : Option Nat) : Statement (.jrpKeymsg h msg signer) :=
  carried rfl rfl fun w => (left w)
theorem forceClear (h : JrpHdr) (out : Nat) : Statement (.forceClear h out) :=
  carried rfl rfl fun w => (left w)
theorem finalStatus : Statement (.finalStatus) :=
  neither rfl rfl
theorem notifySend (session : Nat) : Statement (.notifySend session) :=
  neither rfl rfl
theorem edpLinkLoss : Statement (.edpLinkLoss) :=
  neither rfl rfl
theorem prbsCheck (n : Nat) (clean : Nat) (errors : Nat) : Statement (.prbsCheck n clean errors) :=
  neither rfl rfl
theorem pcsLock (p : Nat) : Statement (.pcsLock p) :=
  neither rfl rfl
theorem faultSequence (p : Nat) (kind : Nat) : Statement (.faultSequence p kind) :=
  neither rfl rfl
theorem refDisqual (ref : Nat) : Statement (.refDisqual ref) :=
  neither rfl rfl
theorem quadPllLockTimeout (q : Nat) (p : Nat) : Statement (.quadPllLockTimeout q p) :=
  neither rfl rfl
theorem sealClosed : Statement (.sealClosed) :=
  neither rfl rfl
theorem presenceRelease : Statement (.presenceRelease) :=
  neither rfl rfl
theorem memberAnswer (session : Nat) (txid : Nat) (code : Nat) (rest : MemberFields) : Statement (.memberAnswer session txid code rest) :=
  neither rfl rfl
theorem avsRequest (up : Bool) : Statement (.avsRequest up) :=
  neither rfl rfl
theorem avsAnswer (ok : Bool) : Statement (.avsAnswer ok) :=
  neither rfl rfl
theorem avsTimeout : Statement (.avsTimeout) :=
  neither rfl rfl

end Sys2Proof.Laws.Command
end

