-- ==== Sys2Proof/Laws/State.lean ====
section
/-! SUPPORT. What each update of a part of the state leaves alone, one lemma per field: no later proof unfolds a record update. -/

namespace Sys2Proof.Machine.State

variable (s : State)

@[simp] theorem updAvs_pending (f : AvsState → AvsState) : (s.updAvs f).pending = s.pending := rfl
@[simp] theorem updAvs_now (f : AvsState → AvsState) : (s.updAvs f).now = s.now := rfl
@[simp] theorem updAvs_freeCtr (f : AvsState → AvsState) : (s.updAvs f).freeCtr = s.freeCtr := rfl
@[simp] theorem updAvs_regs (f : AvsState → AvsState) : (s.updAvs f).regs = s.regs := rfl
@[simp] theorem updAvs_inUse (f : AvsState → AvsState) : (s.updAvs f).inUse = s.inUse := rfl
@[simp] theorem updAvs_landing (f : AvsState → AvsState) : (s.updAvs f).landing = s.landing := rfl
@[simp] theorem updAvs_wide (f : AvsState → AvsState) : (s.updAvs f).wide = s.wide := rfl
@[simp] theorem updAvs_restart (f : AvsState → AvsState) : (s.updAvs f).restart = s.restart := rfl
@[simp] theorem updAvs_lastRaise (f : AvsState → AvsState) : (s.updAvs f).lastRaise = s.lastRaise := rfl
@[simp] theorem updAvs_out (f : AvsState → AvsState) : (s.updAvs f).out = s.out := rfl
@[simp] theorem updAvs_mgt (f : AvsState → AvsState) : (s.updAvs f).mgt = s.mgt := rfl
@[simp] theorem updAvs_flt (f : AvsState → AvsState) : (s.updAvs f).flt = s.flt := rfl
@[simp] theorem updAvs_fab (f : AvsState → AvsState) : (s.updAvs f).fab = s.fab := rfl
@[simp] theorem updAvs_prov (f : AvsState → AvsState) : (s.updAvs f).prov = s.prov := rfl
@[simp] theorem updAvs_chn (f : AvsState → AvsState) : (s.updAvs f).chn = s.chn := rfl
@[simp] theorem updAvs_sdi (f : AvsState → AvsState) : (s.updAvs f).sdi = s.sdi := rfl
@[simp] theorem updAvs_ipm (f : AvsState → AvsState) : (s.updAvs f).ipm = s.ipm := rfl
@[simp] theorem updAvs_aud (f : AvsState → AvsState) : (s.updAvs f).aud = s.aud := rfl
@[simp] theorem updAvs_cnv (f : AvsState → AvsState) : (s.updAvs f).cnv = s.cnv := rfl
@[simp] theorem updAvs_mica (f : AvsState → AvsState) : (s.updAvs f).mica = s.mica := rfl
@[simp] theorem updAvs_scan (f : AvsState → AvsState) : (s.updAvs f).scan = s.scan := rfl
@[simp] theorem updAvs_lanes (f : AvsState → AvsState) : (s.updAvs f).lanes = s.lanes := rfl
@[simp] theorem updAvs_eth (f : AvsState → AvsState) : (s.updAvs f).eth = s.eth := rfl
@[simp] theorem updAvs_time (f : AvsState → AvsState) : (s.updAvs f).time = s.time := rfl
@[simp] theorem updAvs_lode (f : AvsState → AvsState) : (s.updAvs f).lode = s.lode := rfl
@[simp] theorem updAvs_dram (f : AvsState → AvsState) : (s.updAvs f).dram = s.dram := rfl
@[simp] theorem updAvs_twin (f : AvsState → AvsState) : (s.updAvs f).twin = s.twin := rfl
@[simp] theorem updAvs_gbus (f : AvsState → AvsState) : (s.updAvs f).gbus = s.gbus := rfl
@[simp] theorem updAvs_jrp (f : AvsState → AvsState) : (s.updAvs f).jrp = s.jrp := rfl
@[simp] theorem updAvs_load (f : AvsState → AvsState) : (s.updAvs f).load = s.load := rfl
@[simp] theorem updAvs_key (f : AvsState → AvsState) : (s.updAvs f).key = s.key := rfl
@[simp] theorem updAvs_upd (f : AvsState → AvsState) : (s.updAvs f).upd = s.upd := rfl
@[simp] theorem updAvs_avs (f : AvsState → AvsState) : (s.updAvs f).avs = f s.avs := rfl
@[simp] theorem updAvs_flash (f : AvsState → AvsState) : (s.updAvs f).flash = s.flash := rfl
@[simp] theorem updAvs_fuses (f : AvsState → AvsState) : (s.updAvs f).fuses = s.fuses := rfl
@[simp] theorem updAvs_rd (f : AvsState → AvsState) (a : Nat) : (s.updAvs f).rd a = s.rd a := rfl
@[simp] theorem updAvs_get (f : AvsState → AvsState) (r : FRef) : (s.updAvs f).get r = s.get r := rfl

@[simp] theorem updAud_pending (f : AudState → AudState) : (s.updAud f).pending = s.pending := rfl
@[simp] theorem updAud_now (f : AudState → AudState) : (s.updAud f).now = s.now := rfl
@[simp] theorem updAud_freeCtr (f : AudState → AudState) : (s.updAud f).freeCtr = s.freeCtr := rfl
@[simp] theorem updAud_regs (f : AudState → AudState) : (s.updAud f).regs = s.regs := rfl
@[simp] theorem updAud_inUse (f : AudState → AudState) : (s.updAud f).inUse = s.inUse := rfl
@[simp] theorem updAud_landing (f : AudState → AudState) : (s.updAud f).landing = s.landing := rfl
@[simp] theorem updAud_wide (f : AudState → AudState) : (s.updAud f).wide = s.wide := rfl
@[simp] theorem updAud_restart (f : AudState → AudState) : (s.updAud f).restart = s.restart := rfl
@[simp] theorem updAud_lastRaise (f : AudState → AudState) : (s.updAud f).lastRaise = s.lastRaise := rfl
@[simp] theorem updAud_out (f : AudState → AudState) : (s.updAud f).out = s.out := rfl
@[simp] theorem updAud_mgt (f : AudState → AudState) : (s.updAud f).mgt = s.mgt := rfl
@[simp] theorem updAud_flt (f : AudState → AudState) : (s.updAud f).flt = s.flt := rfl
@[simp] theorem updAud_fab (f : AudState → AudState) : (s.updAud f).fab = s.fab := rfl
@[simp] theorem updAud_prov (f : AudState → AudState) : (s.updAud f).prov = s.prov := rfl
@[simp] theorem updAud_chn (f : AudState → AudState) : (s.updAud f).chn = s.chn := rfl
@[simp] theorem updAud_sdi (f : AudState → AudState) : (s.updAud f).sdi = s.sdi := rfl
@[simp] theorem updAud_ipm (f : AudState → AudState) : (s.updAud f).ipm = s.ipm := rfl
@[simp] theorem updAud_aud (f : AudState → AudState) : (s.updAud f).aud = f s.aud := rfl
@[simp] theorem updAud_cnv (f : AudState → AudState) : (s.updAud f).cnv = s.cnv := rfl
@[simp] theorem updAud_mica (f : AudState → AudState) : (s.updAud f).mica = s.mica := rfl
@[simp] theorem updAud_scan (f : AudState → AudState) : (s.updAud f).scan = s.scan := rfl
@[simp] theorem updAud_lanes (f : AudState → AudState) : (s.updAud f).lanes = s.lanes := rfl
@[simp] theorem updAud_eth (f : AudState → AudState) : (s.updAud f).eth = s.eth := rfl
@[simp] theorem updAud_time (f : AudState → AudState) : (s.updAud f).time = s.time := rfl
@[simp] theorem updAud_lode (f : AudState → AudState) : (s.updAud f).lode = s.lode := rfl
@[simp] theorem updAud_dram (f : AudState → AudState) : (s.updAud f).dram = s.dram := rfl
@[simp] theorem updAud_twin (f : AudState → AudState) : (s.updAud f).twin = s.twin := rfl
@[simp] theorem updAud_gbus (f : AudState → AudState) : (s.updAud f).gbus = s.gbus := rfl
@[simp] theorem updAud_jrp (f : AudState → AudState) : (s.updAud f).jrp = s.jrp := rfl
@[simp] theorem updAud_load (f : AudState → AudState) : (s.updAud f).load = s.load := rfl
@[simp] theorem updAud_key (f : AudState → AudState) : (s.updAud f).key = s.key := rfl
@[simp] theorem updAud_upd (f : AudState → AudState) : (s.updAud f).upd = s.upd := rfl
@[simp] theorem updAud_avs (f : AudState → AudState) : (s.updAud f).avs = s.avs := rfl
@[simp] theorem updAud_flash (f : AudState → AudState) : (s.updAud f).flash = s.flash := rfl
@[simp] theorem updAud_fuses (f : AudState → AudState) : (s.updAud f).fuses = s.fuses := rfl
@[simp] theorem updAud_rd (f : AudState → AudState) (a : Nat) : (s.updAud f).rd a = s.rd a := rfl
@[simp] theorem updAud_get (f : AudState → AudState) (r : FRef) : (s.updAud f).get r = s.get r := rfl

@[simp] theorem updDram_pending (f : DramState → DramState) : (s.updDram f).pending = s.pending := rfl
@[simp] theorem updDram_now (f : DramState → DramState) : (s.updDram f).now = s.now := rfl
@[simp] theorem updDram_freeCtr (f : DramState → DramState) : (s.updDram f).freeCtr = s.freeCtr := rfl
@[simp] theorem updDram_regs (f : DramState → DramState) : (s.updDram f).regs = s.regs := rfl
@[simp] theorem updDram_inUse (f : DramState → DramState) : (s.updDram f).inUse = s.inUse := rfl
@[simp] theorem updDram_landing (f : DramState → DramState) : (s.updDram f).landing = s.landing := rfl
@[simp] theorem updDram_wide (f : DramState → DramState) : (s.updDram f).wide = s.wide := rfl
@[simp] theorem updDram_restart (f : DramState → DramState) : (s.updDram f).restart = s.restart := rfl
@[simp] theorem updDram_lastRaise (f : DramState → DramState) : (s.updDram f).lastRaise = s.lastRaise := rfl
@[simp] theorem updDram_out (f : DramState → DramState) : (s.updDram f).out = s.out := rfl
@[simp] theorem updDram_mgt (f : DramState → DramState) : (s.updDram f).mgt = s.mgt := rfl
@[simp] theorem updDram_flt (f : DramState → DramState) : (s.updDram f).flt = s.flt := rfl
@[simp] theorem updDram_fab (f : DramState → DramState) : (s.updDram f).fab = s.fab := rfl
@[simp] theorem updDram_prov (f : DramState → DramState) : (s.updDram f).prov = s.prov := rfl
@[simp] theorem updDram_chn (f : DramState → DramState) : (s.updDram f).chn = s.chn := rfl
@[simp] theorem updDram_sdi (f : DramState → DramState) : (s.updDram f).sdi = s.sdi := rfl
@[simp] theorem updDram_ipm (f : DramState → DramState) : (s.updDram f).ipm = s.ipm := rfl
@[simp] theorem updDram_aud (f : DramState → DramState) : (s.updDram f).aud = s.aud := rfl
@[simp] theorem updDram_cnv (f : DramState → DramState) : (s.updDram f).cnv = s.cnv := rfl
@[simp] theorem updDram_mica (f : DramState → DramState) : (s.updDram f).mica = s.mica := rfl
@[simp] theorem updDram_scan (f : DramState → DramState) : (s.updDram f).scan = s.scan := rfl
@[simp] theorem updDram_lanes (f : DramState → DramState) : (s.updDram f).lanes = s.lanes := rfl
@[simp] theorem updDram_eth (f : DramState → DramState) : (s.updDram f).eth = s.eth := rfl
@[simp] theorem updDram_time (f : DramState → DramState) : (s.updDram f).time = s.time := rfl
@[simp] theorem updDram_lode (f : DramState → DramState) : (s.updDram f).lode = s.lode := rfl
@[simp] theorem updDram_dram (f : DramState → DramState) : (s.updDram f).dram = f s.dram := rfl
@[simp] theorem updDram_twin (f : DramState → DramState) : (s.updDram f).twin = s.twin := rfl
@[simp] theorem updDram_gbus (f : DramState → DramState) : (s.updDram f).gbus = s.gbus := rfl
@[simp] theorem updDram_jrp (f : DramState → DramState) : (s.updDram f).jrp = s.jrp := rfl
@[simp] theorem updDram_load (f : DramState → DramState) : (s.updDram f).load = s.load := rfl
@[simp] theorem updDram_key (f : DramState → DramState) : (s.updDram f).key = s.key := rfl
@[simp] theorem updDram_upd (f : DramState → DramState) : (s.updDram f).upd = s.upd := rfl
@[simp] theorem updDram_avs (f : DramState → DramState) : (s.updDram f).avs = s.avs := rfl
@[simp] theorem updDram_flash (f : DramState → DramState) : (s.updDram f).flash = s.flash := rfl
@[simp] theorem updDram_fuses (f : DramState → DramState) : (s.updDram f).fuses = s.fuses := rfl
@[simp] theorem updDram_rd (f : DramState → DramState) (a : Nat) : (s.updDram f).rd a = s.rd a := rfl
@[simp] theorem updDram_get (f : DramState → DramState) (r : FRef) : (s.updDram f).get r = s.get r := rfl

@[simp] theorem updGbus_pending (f : GbusState → GbusState) : (s.updGbus f).pending = s.pending := rfl
@[simp] theorem updGbus_now (f : GbusState → GbusState) : (s.updGbus f).now = s.now := rfl
@[simp] theorem updGbus_freeCtr (f : GbusState → GbusState) : (s.updGbus f).freeCtr = s.freeCtr := rfl
@[simp] theorem updGbus_regs (f : GbusState → GbusState) : (s.updGbus f).regs = s.regs := rfl
@[simp] theorem updGbus_inUse (f : GbusState → GbusState) : (s.updGbus f).inUse = s.inUse := rfl
@[simp] theorem updGbus_landing (f : GbusState → GbusState) : (s.updGbus f).landing = s.landing := rfl
@[simp] theorem updGbus_wide (f : GbusState → GbusState) : (s.updGbus f).wide = s.wide := rfl
@[simp] theorem updGbus_restart (f : GbusState → GbusState) : (s.updGbus f).restart = s.restart := rfl
@[simp] theorem updGbus_lastRaise (f : GbusState → GbusState) : (s.updGbus f).lastRaise = s.lastRaise := rfl
@[simp] theorem updGbus_out (f : GbusState → GbusState) : (s.updGbus f).out = s.out := rfl
@[simp] theorem updGbus_mgt (f : GbusState → GbusState) : (s.updGbus f).mgt = s.mgt := rfl
@[simp] theorem updGbus_flt (f : GbusState → GbusState) : (s.updGbus f).flt = s.flt := rfl
@[simp] theorem updGbus_fab (f : GbusState → GbusState) : (s.updGbus f).fab = s.fab := rfl
@[simp] theorem updGbus_prov (f : GbusState → GbusState) : (s.updGbus f).prov = s.prov := rfl
@[simp] theorem updGbus_chn (f : GbusState → GbusState) : (s.updGbus f).chn = s.chn := rfl
@[simp] theorem updGbus_sdi (f : GbusState → GbusState) : (s.updGbus f).sdi = s.sdi := rfl
@[simp] theorem updGbus_ipm (f : GbusState → GbusState) : (s.updGbus f).ipm = s.ipm := rfl
@[simp] theorem updGbus_aud (f : GbusState → GbusState) : (s.updGbus f).aud = s.aud := rfl
@[simp] theorem updGbus_cnv (f : GbusState → GbusState) : (s.updGbus f).cnv = s.cnv := rfl
@[simp] theorem updGbus_mica (f : GbusState → GbusState) : (s.updGbus f).mica = s.mica := rfl
@[simp] theorem updGbus_scan (f : GbusState → GbusState) : (s.updGbus f).scan = s.scan := rfl
@[simp] theorem updGbus_lanes (f : GbusState → GbusState) : (s.updGbus f).lanes = s.lanes := rfl
@[simp] theorem updGbus_eth (f : GbusState → GbusState) : (s.updGbus f).eth = s.eth := rfl
@[simp] theorem updGbus_time (f : GbusState → GbusState) : (s.updGbus f).time = s.time := rfl
@[simp] theorem updGbus_lode (f : GbusState → GbusState) : (s.updGbus f).lode = s.lode := rfl
@[simp] theorem updGbus_dram (f : GbusState → GbusState) : (s.updGbus f).dram = s.dram := rfl
@[simp] theorem updGbus_twin (f : GbusState → GbusState) : (s.updGbus f).twin = s.twin := rfl
@[simp] theorem updGbus_gbus (f : GbusState → GbusState) : (s.updGbus f).gbus = f s.gbus := rfl
@[simp] theorem updGbus_jrp (f : GbusState → GbusState) : (s.updGbus f).jrp = s.jrp := rfl
@[simp] theorem updGbus_load (f : GbusState → GbusState) : (s.updGbus f).load = s.load := rfl
@[simp] theorem updGbus_key (f : GbusState → GbusState) : (s.updGbus f).key = s.key := rfl
@[simp] theorem updGbus_upd (f : GbusState → GbusState) : (s.updGbus f).upd = s.upd := rfl
@[simp] theorem updGbus_avs (f : GbusState → GbusState) : (s.updGbus f).avs = s.avs := rfl
@[simp] theorem updGbus_flash (f : GbusState → GbusState) : (s.updGbus f).flash = s.flash := rfl
@[simp] theorem updGbus_fuses (f : GbusState → GbusState) : (s.updGbus f).fuses = s.fuses := rfl
@[simp] theorem updGbus_rd (f : GbusState → GbusState) (a : Nat) : (s.updGbus f).rd a = s.rd a := rfl
@[simp] theorem updGbus_get (f : GbusState → GbusState) (r : FRef) : (s.updGbus f).get r = s.get r := rfl

@[simp] theorem updChn_pending (f : ChnState → ChnState) : (s.updChn f).pending = s.pending := rfl
@[simp] theorem updChn_now (f : ChnState → ChnState) : (s.updChn f).now = s.now := rfl
@[simp] theorem updChn_freeCtr (f : ChnState → ChnState) : (s.updChn f).freeCtr = s.freeCtr := rfl
@[simp] theorem updChn_regs (f : ChnState → ChnState) : (s.updChn f).regs = s.regs := rfl
@[simp] theorem updChn_inUse (f : ChnState → ChnState) : (s.updChn f).inUse = s.inUse := rfl
@[simp] theorem updChn_landing (f : ChnState → ChnState) : (s.updChn f).landing = s.landing := rfl
@[simp] theorem updChn_wide (f : ChnState → ChnState) : (s.updChn f).wide = s.wide := rfl
@[simp] theorem updChn_restart (f : ChnState → ChnState) : (s.updChn f).restart = s.restart := rfl
@[simp] theorem updChn_lastRaise (f : ChnState → ChnState) : (s.updChn f).lastRaise = s.lastRaise := rfl
@[simp] theorem updChn_out (f : ChnState → ChnState) : (s.updChn f).out = s.out := rfl
@[simp] theorem updChn_mgt (f : ChnState → ChnState) : (s.updChn f).mgt = s.mgt := rfl
@[simp] theorem updChn_flt (f : ChnState → ChnState) : (s.updChn f).flt = s.flt := rfl
@[simp] theorem updChn_fab (f : ChnState → ChnState) : (s.updChn f).fab = s.fab := rfl
@[simp] theorem updChn_prov (f : ChnState → ChnState) : (s.updChn f).prov = s.prov := rfl
@[simp] theorem updChn_chn (f : ChnState → ChnState) : (s.updChn f).chn = f s.chn := rfl
@[simp] theorem updChn_sdi (f : ChnState → ChnState) : (s.updChn f).sdi = s.sdi := rfl
@[simp] theorem updChn_ipm (f : ChnState → ChnState) : (s.updChn f).ipm = s.ipm := rfl
@[simp] theorem updChn_aud (f : ChnState → ChnState) : (s.updChn f).aud = s.aud := rfl
@[simp] theorem updChn_cnv (f : ChnState → ChnState) : (s.updChn f).cnv = s.cnv := rfl
@[simp] theorem updChn_mica (f : ChnState → ChnState) : (s.updChn f).mica = s.mica := rfl
@[simp] theorem updChn_scan (f : ChnState → ChnState) : (s.updChn f).scan = s.scan := rfl
@[simp] theorem updChn_lanes (f : ChnState → ChnState) : (s.updChn f).lanes = s.lanes := rfl
@[simp] theorem updChn_eth (f : ChnState → ChnState) : (s.updChn f).eth = s.eth := rfl
@[simp] theorem updChn_time (f : ChnState → ChnState) : (s.updChn f).time = s.time := rfl
@[simp] theorem updChn_lode (f : ChnState → ChnState) : (s.updChn f).lode = s.lode := rfl
@[simp] theorem updChn_dram (f : ChnState → ChnState) : (s.updChn f).dram = s.dram := rfl
@[simp] theorem updChn_twin (f : ChnState → ChnState) : (s.updChn f).twin = s.twin := rfl
@[simp] theorem updChn_gbus (f : ChnState → ChnState) : (s.updChn f).gbus = s.gbus := rfl
@[simp] theorem updChn_jrp (f : ChnState → ChnState) : (s.updChn f).jrp = s.jrp := rfl
@[simp] theorem updChn_load (f : ChnState → ChnState) : (s.updChn f).load = s.load := rfl
@[simp] theorem updChn_key (f : ChnState → ChnState) : (s.updChn f).key = s.key := rfl
@[simp] theorem updChn_upd (f : ChnState → ChnState) : (s.updChn f).upd = s.upd := rfl
@[simp] theorem updChn_avs (f : ChnState → ChnState) : (s.updChn f).avs = s.avs := rfl
@[simp] theorem updChn_flash (f : ChnState → ChnState) : (s.updChn f).flash = s.flash := rfl
@[simp] theorem updChn_fuses (f : ChnState → ChnState) : (s.updChn f).fuses = s.fuses := rfl
@[simp] theorem updChn_rd (f : ChnState → ChnState) (a : Nat) : (s.updChn f).rd a = s.rd a := rfl
@[simp] theorem updChn_get (f : ChnState → ChnState) (r : FRef) : (s.updChn f).get r = s.get r := rfl

@[simp] theorem updIpm_pending (f : IpmState → IpmState) : (s.updIpm f).pending = s.pending := rfl
@[simp] theorem updIpm_now (f : IpmState → IpmState) : (s.updIpm f).now = s.now := rfl
@[simp] theorem updIpm_freeCtr (f : IpmState → IpmState) : (s.updIpm f).freeCtr = s.freeCtr := rfl
@[simp] theorem updIpm_regs (f : IpmState → IpmState) : (s.updIpm f).regs = s.regs := rfl
@[simp] theorem updIpm_inUse (f : IpmState → IpmState) : (s.updIpm f).inUse = s.inUse := rfl
@[simp] theorem updIpm_landing (f : IpmState → IpmState) : (s.updIpm f).landing = s.landing := rfl
@[simp] theorem updIpm_wide (f : IpmState → IpmState) : (s.updIpm f).wide = s.wide := rfl
@[simp] theorem updIpm_restart (f : IpmState → IpmState) : (s.updIpm f).restart = s.restart := rfl
@[simp] theorem updIpm_lastRaise (f : IpmState → IpmState) : (s.updIpm f).lastRaise = s.lastRaise := rfl
@[simp] theorem updIpm_out (f : IpmState → IpmState) : (s.updIpm f).out = s.out := rfl
@[simp] theorem updIpm_mgt (f : IpmState → IpmState) : (s.updIpm f).mgt = s.mgt := rfl
@[simp] theorem updIpm_flt (f : IpmState → IpmState) : (s.updIpm f).flt = s.flt := rfl
@[simp] theorem updIpm_fab (f : IpmState → IpmState) : (s.updIpm f).fab = s.fab := rfl
@[simp] theorem updIpm_prov (f : IpmState → IpmState) : (s.updIpm f).prov = s.prov := rfl
@[simp] theorem updIpm_chn (f : IpmState → IpmState) : (s.updIpm f).chn = s.chn := rfl
@[simp] theorem updIpm_sdi (f : IpmState → IpmState) : (s.updIpm f).sdi = s.sdi := rfl
@[simp] theorem updIpm_ipm (f : IpmState → IpmState) : (s.updIpm f).ipm = f s.ipm := rfl
@[simp] theorem updIpm_aud (f : IpmState → IpmState) : (s.updIpm f).aud = s.aud := rfl
@[simp] theorem updIpm_cnv (f : IpmState → IpmState) : (s.updIpm f).cnv = s.cnv := rfl
@[simp] theorem updIpm_mica (f : IpmState → IpmState) : (s.updIpm f).mica = s.mica := rfl
@[simp] theorem updIpm_scan (f : IpmState → IpmState) : (s.updIpm f).scan = s.scan := rfl
@[simp] theorem updIpm_lanes (f : IpmState → IpmState) : (s.updIpm f).lanes = s.lanes := rfl
@[simp] theorem updIpm_eth (f : IpmState → IpmState) : (s.updIpm f).eth = s.eth := rfl
@[simp] theorem updIpm_time (f : IpmState → IpmState) : (s.updIpm f).time = s.time := rfl
@[simp] theorem updIpm_lode (f : IpmState → IpmState) : (s.updIpm f).lode = s.lode := rfl
@[simp] theorem updIpm_dram (f : IpmState → IpmState) : (s.updIpm f).dram = s.dram := rfl
@[simp] theorem updIpm_twin (f : IpmState → IpmState) : (s.updIpm f).twin = s.twin := rfl
@[simp] theorem updIpm_gbus (f : IpmState → IpmState) : (s.updIpm f).gbus = s.gbus := rfl
@[simp] theorem updIpm_jrp (f : IpmState → IpmState) : (s.updIpm f).jrp = s.jrp := rfl
@[simp] theorem updIpm_load (f : IpmState → IpmState) : (s.updIpm f).load = s.load := rfl
@[simp] theorem updIpm_key (f : IpmState → IpmState) : (s.updIpm f).key = s.key := rfl
@[simp] theorem updIpm_upd (f : IpmState → IpmState) : (s.updIpm f).upd = s.upd := rfl
@[simp] theorem updIpm_avs (f : IpmState → IpmState) : (s.updIpm f).avs = s.avs := rfl
@[simp] theorem updIpm_flash (f : IpmState → IpmState) : (s.updIpm f).flash = s.flash := rfl
@[simp] theorem updIpm_fuses (f : IpmState → IpmState) : (s.updIpm f).fuses = s.fuses := rfl
@[simp] theorem updIpm_rd (f : IpmState → IpmState) (a : Nat) : (s.updIpm f).rd a = s.rd a := rfl
@[simp] theorem updIpm_get (f : IpmState → IpmState) (r : FRef) : (s.updIpm f).get r = s.get r := rfl

@[simp] theorem updFlash_pending (f : Flash → Flash) : (s.updFlash f).pending = s.pending := rfl
@[simp] theorem updFlash_now (f : Flash → Flash) : (s.updFlash f).now = s.now := rfl
@[simp] theorem updFlash_freeCtr (f : Flash → Flash) : (s.updFlash f).freeCtr = s.freeCtr := rfl
@[simp] theorem updFlash_regs (f : Flash → Flash) : (s.updFlash f).regs = s.regs := rfl
@[simp] theorem updFlash_inUse (f : Flash → Flash) : (s.updFlash f).inUse = s.inUse := rfl
@[simp] theorem updFlash_landing (f : Flash → Flash) : (s.updFlash f).landing = s.landing := rfl
@[simp] theorem updFlash_wide (f : Flash → Flash) : (s.updFlash f).wide = s.wide := rfl
@[simp] theorem updFlash_restart (f : Flash → Flash) : (s.updFlash f).restart = s.restart := rfl
@[simp] theorem updFlash_lastRaise (f : Flash → Flash) : (s.updFlash f).lastRaise = s.lastRaise := rfl
@[simp] theorem updFlash_out (f : Flash → Flash) : (s.updFlash f).out = s.out := rfl
@[simp] theorem updFlash_mgt (f : Flash → Flash) : (s.updFlash f).mgt = s.mgt := rfl
@[simp] theorem updFlash_flt (f : Flash → Flash) : (s.updFlash f).flt = s.flt := rfl
@[simp] theorem updFlash_fab (f : Flash → Flash) : (s.updFlash f).fab = s.fab := rfl
@[simp] theorem updFlash_prov (f : Flash → Flash) : (s.updFlash f).prov = s.prov := rfl
@[simp] theorem updFlash_chn (f : Flash → Flash) : (s.updFlash f).chn = s.chn := rfl
@[simp] theorem updFlash_sdi (f : Flash → Flash) : (s.updFlash f).sdi = s.sdi := rfl
@[simp] theorem updFlash_ipm (f : Flash → Flash) : (s.updFlash f).ipm = s.ipm := rfl
@[simp] theorem updFlash_aud (f : Flash → Flash) : (s.updFlash f).aud = s.aud := rfl
@[simp] theorem updFlash_cnv (f : Flash → Flash) : (s.updFlash f).cnv = s.cnv := rfl
@[simp] theorem updFlash_mica (f : Flash → Flash) : (s.updFlash f).mica = s.mica := rfl
@[simp] theorem updFlash_scan (f : Flash → Flash) : (s.updFlash f).scan = s.scan := rfl
@[simp] theorem updFlash_lanes (f : Flash → Flash) : (s.updFlash f).lanes = s.lanes := rfl
@[simp] theorem updFlash_eth (f : Flash → Flash) : (s.updFlash f).eth = s.eth := rfl
@[simp] theorem updFlash_time (f : Flash → Flash) : (s.updFlash f).time = s.time := rfl
@[simp] theorem updFlash_lode (f : Flash → Flash) : (s.updFlash f).lode = s.lode := rfl
@[simp] theorem updFlash_dram (f : Flash → Flash) : (s.updFlash f).dram = s.dram := rfl
@[simp] theorem updFlash_twin (f : Flash → Flash) : (s.updFlash f).twin = s.twin := rfl
@[simp] theorem updFlash_gbus (f : Flash → Flash) : (s.updFlash f).gbus = s.gbus := rfl
@[simp] theorem updFlash_jrp (f : Flash → Flash) : (s.updFlash f).jrp = s.jrp := rfl
@[simp] theorem updFlash_load (f : Flash → Flash) : (s.updFlash f).load = s.load := rfl
@[simp] theorem updFlash_key (f : Flash → Flash) : (s.updFlash f).key = s.key := rfl
@[simp] theorem updFlash_upd (f : Flash → Flash) : (s.updFlash f).upd = s.upd := rfl
@[simp] theorem updFlash_avs (f : Flash → Flash) : (s.updFlash f).avs = s.avs := rfl
@[simp] theorem updFlash_flash (f : Flash → Flash) : (s.updFlash f).flash = f s.flash := rfl
@[simp] theorem updFlash_fuses (f : Flash → Flash) : (s.updFlash f).fuses = s.fuses := rfl
@[simp] theorem updFlash_rd (f : Flash → Flash) (a : Nat) : (s.updFlash f).rd a = s.rd a := rfl
@[simp] theorem updFlash_get (f : Flash → Flash) (r : FRef) : (s.updFlash f).get r = s.get r := rfl

@[simp] theorem updKey_pending (f : KeyState → KeyState) : (s.updKey f).pending = s.pending := rfl
@[simp] theorem updKey_now (f : KeyState → KeyState) : (s.updKey f).now = s.now := rfl
@[simp] theorem updKey_freeCtr (f : KeyState → KeyState) : (s.updKey f).freeCtr = s.freeCtr := rfl
@[simp] theorem updKey_regs (f : KeyState → KeyState) : (s.updKey f).regs = s.regs := rfl
@[simp] theorem updKey_inUse (f : KeyState → KeyState) : (s.updKey f).inUse = s.inUse := rfl
@[simp] theorem updKey_landing (f : KeyState → KeyState) : (s.updKey f).landing = s.landing := rfl
@[simp] theorem updKey_wide (f : KeyState → KeyState) : (s.updKey f).wide = s.wide := rfl
@[simp] theorem updKey_restart (f : KeyState → KeyState) : (s.updKey f).restart = s.restart := rfl
@[simp] theorem updKey_lastRaise (f : KeyState → KeyState) : (s.updKey f).lastRaise = s.lastRaise := rfl
@[simp] theorem updKey_out (f : KeyState → KeyState) : (s.updKey f).out = s.out := rfl
@[simp] theorem updKey_mgt (f : KeyState → KeyState) : (s.updKey f).mgt = s.mgt := rfl
@[simp] theorem updKey_flt (f : KeyState → KeyState) : (s.updKey f).flt = s.flt := rfl
@[simp] theorem updKey_fab (f : KeyState → KeyState) : (s.updKey f).fab = s.fab := rfl
@[simp] theorem updKey_prov (f : KeyState → KeyState) : (s.updKey f).prov = s.prov := rfl
@[simp] theorem updKey_chn (f : KeyState → KeyState) : (s.updKey f).chn = s.chn := rfl
@[simp] theorem updKey_sdi (f : KeyState → KeyState) : (s.updKey f).sdi = s.sdi := rfl
@[simp] theorem updKey_ipm (f : KeyState → KeyState) : (s.updKey f).ipm = s.ipm := rfl
@[simp] theorem updKey_aud (f : KeyState → KeyState) : (s.updKey f).aud = s.aud := rfl
@[simp] theorem updKey_cnv (f : KeyState → KeyState) : (s.updKey f).cnv = s.cnv := rfl
@[simp] theorem updKey_mica (f : KeyState → KeyState) : (s.updKey f).mica = s.mica := rfl
@[simp] theorem updKey_scan (f : KeyState → KeyState) : (s.updKey f).scan = s.scan := rfl
@[simp] theorem updKey_lanes (f : KeyState → KeyState) : (s.updKey f).lanes = s.lanes := rfl
@[simp] theorem updKey_eth (f : KeyState → KeyState) : (s.updKey f).eth = s.eth := rfl
@[simp] theorem updKey_time (f : KeyState → KeyState) : (s.updKey f).time = s.time := rfl
@[simp] theorem updKey_lode (f : KeyState → KeyState) : (s.updKey f).lode = s.lode := rfl
@[simp] theorem updKey_dram (f : KeyState → KeyState) : (s.updKey f).dram = s.dram := rfl
@[simp] theorem updKey_twin (f : KeyState → KeyState) : (s.updKey f).twin = s.twin := rfl
@[simp] theorem updKey_gbus (f : KeyState → KeyState) : (s.updKey f).gbus = s.gbus := rfl
@[simp] theorem updKey_jrp (f : KeyState → KeyState) : (s.updKey f).jrp = s.jrp := rfl
@[simp] theorem updKey_load (f : KeyState → KeyState) : (s.updKey f).load = s.load := rfl
@[simp] theorem updKey_key (f : KeyState → KeyState) : (s.updKey f).key = f s.key := rfl
@[simp] theorem updKey_upd (f : KeyState → KeyState) : (s.updKey f).upd = s.upd := rfl
@[simp] theorem updKey_avs (f : KeyState → KeyState) : (s.updKey f).avs = s.avs := rfl
@[simp] theorem updKey_flash (f : KeyState → KeyState) : (s.updKey f).flash = s.flash := rfl
@[simp] theorem updKey_fuses (f : KeyState → KeyState) : (s.updKey f).fuses = s.fuses := rfl
@[simp] theorem updKey_rd (f : KeyState → KeyState) (a : Nat) : (s.updKey f).rd a = s.rd a := rfl
@[simp] theorem updKey_get (f : KeyState → KeyState) (r : FRef) : (s.updKey f).get r = s.get r := rfl

@[simp] theorem updLoad_pending (f : LoadState → LoadState) : (s.updLoad f).pending = s.pending := rfl
@[simp] theorem updLoad_now (f : LoadState → LoadState) : (s.updLoad f).now = s.now := rfl
@[simp] theorem updLoad_freeCtr (f : LoadState → LoadState) : (s.updLoad f).freeCtr = s.freeCtr := rfl
@[simp] theorem updLoad_regs (f : LoadState → LoadState) : (s.updLoad f).regs = s.regs := rfl
@[simp] theorem updLoad_inUse (f : LoadState → LoadState) : (s.updLoad f).inUse = s.inUse := rfl
@[simp] theorem updLoad_landing (f : LoadState → LoadState) : (s.updLoad f).landing = s.landing := rfl
@[simp] theorem updLoad_wide (f : LoadState → LoadState) : (s.updLoad f).wide = s.wide := rfl
@[simp] theorem updLoad_restart (f : LoadState → LoadState) : (s.updLoad f).restart = s.restart := rfl
@[simp] theorem updLoad_lastRaise (f : LoadState → LoadState) : (s.updLoad f).lastRaise = s.lastRaise := rfl
@[simp] theorem updLoad_out (f : LoadState → LoadState) : (s.updLoad f).out = s.out := rfl
@[simp] theorem updLoad_mgt (f : LoadState → LoadState) : (s.updLoad f).mgt = s.mgt := rfl
@[simp] theorem updLoad_flt (f : LoadState → LoadState) : (s.updLoad f).flt = s.flt := rfl
@[simp] theorem updLoad_fab (f : LoadState → LoadState) : (s.updLoad f).fab = s.fab := rfl
@[simp] theorem updLoad_prov (f : LoadState → LoadState) : (s.updLoad f).prov = s.prov := rfl
@[simp] theorem updLoad_chn (f : LoadState → LoadState) : (s.updLoad f).chn = s.chn := rfl
@[simp] theorem updLoad_sdi (f : LoadState → LoadState) : (s.updLoad f).sdi = s.sdi := rfl
@[simp] theorem updLoad_ipm (f : LoadState → LoadState) : (s.updLoad f).ipm = s.ipm := rfl
@[simp] theorem updLoad_aud (f : LoadState → LoadState) : (s.updLoad f).aud = s.aud := rfl
@[simp] theorem updLoad_cnv (f : LoadState → LoadState) : (s.updLoad f).cnv = s.cnv := rfl
@[simp] theorem updLoad_mica (f : LoadState → LoadState) : (s.updLoad f).mica = s.mica := rfl
@[simp] theorem updLoad_scan (f : LoadState → LoadState) : (s.updLoad f).scan = s.scan := rfl
@[simp] theorem updLoad_lanes (f : LoadState → LoadState) : (s.updLoad f).lanes = s.lanes := rfl
@[simp] theorem updLoad_eth (f : LoadState → LoadState) : (s.updLoad f).eth = s.eth := rfl
@[simp] theorem updLoad_time (f : LoadState → LoadState) : (s.updLoad f).time = s.time := rfl
@[simp] theorem updLoad_lode (f : LoadState → LoadState) : (s.updLoad f).lode = s.lode := rfl
@[simp] theorem updLoad_dram (f : LoadState → LoadState) : (s.updLoad f).dram = s.dram := rfl
@[simp] theorem updLoad_twin (f : LoadState → LoadState) : (s.updLoad f).twin = s.twin := rfl
@[simp] theorem updLoad_gbus (f : LoadState → LoadState) : (s.updLoad f).gbus = s.gbus := rfl
@[simp] theorem updLoad_jrp (f : LoadState → LoadState) : (s.updLoad f).jrp = s.jrp := rfl
@[simp] theorem updLoad_load (f : LoadState → LoadState) : (s.updLoad f).load = f s.load := rfl
@[simp] theorem updLoad_key (f : LoadState → LoadState) : (s.updLoad f).key = s.key := rfl
@[simp] theorem updLoad_upd (f : LoadState → LoadState) : (s.updLoad f).upd = s.upd := rfl
@[simp] theorem updLoad_avs (f : LoadState → LoadState) : (s.updLoad f).avs = s.avs := rfl
@[simp] theorem updLoad_flash (f : LoadState → LoadState) : (s.updLoad f).flash = s.flash := rfl
@[simp] theorem updLoad_fuses (f : LoadState → LoadState) : (s.updLoad f).fuses = s.fuses := rfl
@[simp] theorem updLoad_rd (f : LoadState → LoadState) (a : Nat) : (s.updLoad f).rd a = s.rd a := rfl
@[simp] theorem updLoad_get (f : LoadState → LoadState) (r : FRef) : (s.updLoad f).get r = s.get r := rfl

@[simp] theorem updLode_pending (f : LodeState → LodeState) : (s.updLode f).pending = s.pending := rfl
@[simp] theorem updLode_now (f : LodeState → LodeState) : (s.updLode f).now = s.now := rfl
@[simp] theorem updLode_freeCtr (f : LodeState → LodeState) : (s.updLode f).freeCtr = s.freeCtr := rfl
@[simp] theorem updLode_regs (f : LodeState → LodeState) : (s.updLode f).regs = s.regs := rfl
@[simp] theorem updLode_inUse (f : LodeState → LodeState) : (s.updLode f).inUse = s.inUse := rfl
@[simp] theorem updLode_landing (f : LodeState → LodeState) : (s.updLode f).landing = s.landing := rfl
@[simp] theorem updLode_wide (f : LodeState → LodeState) : (s.updLode f).wide = s.wide := rfl
@[simp] theorem updLode_restart (f : LodeState → LodeState) : (s.updLode f).restart = s.restart := rfl
@[simp] theorem updLode_lastRaise (f : LodeState → LodeState) : (s.updLode f).lastRaise = s.lastRaise := rfl
@[simp] theorem updLode_out (f : LodeState → LodeState) : (s.updLode f).out = s.out := rfl
@[simp] theorem updLode_mgt (f : LodeState → LodeState) : (s.updLode f).mgt = s.mgt := rfl
@[simp] theorem updLode_flt (f : LodeState → LodeState) : (s.updLode f).flt = s.flt := rfl
@[simp] theorem updLode_fab (f : LodeState → LodeState) : (s.updLode f).fab = s.fab := rfl
@[simp] theorem updLode_prov (f : LodeState → LodeState) : (s.updLode f).prov = s.prov := rfl
@[simp] theorem updLode_chn (f : LodeState → LodeState) : (s.updLode f).chn = s.chn := rfl
@[simp] theorem updLode_sdi (f : LodeState → LodeState) : (s.updLode f).sdi = s.sdi := rfl
@[simp] theorem updLode_ipm (f : LodeState → LodeState) : (s.updLode f).ipm = s.ipm := rfl
@[simp] theorem updLode_aud (f : LodeState → LodeState) : (s.updLode f).aud = s.aud := rfl
@[simp] theorem updLode_cnv (f : LodeState → LodeState) : (s.updLode f).cnv = s.cnv := rfl
@[simp] theorem updLode_mica (f : LodeState → LodeState) : (s.updLode f).mica = s.mica := rfl
@[simp] theorem updLode_scan (f : LodeState → LodeState) : (s.updLode f).scan = s.scan := rfl
@[simp] theorem updLode_lanes (f : LodeState → LodeState) : (s.updLode f).lanes = s.lanes := rfl
@[simp] theorem updLode_eth (f : LodeState → LodeState) : (s.updLode f).eth = s.eth := rfl
@[simp] theorem updLode_time (f : LodeState → LodeState) : (s.updLode f).time = s.time := rfl
@[simp] theorem updLode_lode (f : LodeState → LodeState) : (s.updLode f).lode = f s.lode := rfl
@[simp] theorem updLode_dram (f : LodeState → LodeState) : (s.updLode f).dram = s.dram := rfl
@[simp] theorem updLode_twin (f : LodeState → LodeState) : (s.updLode f).twin = s.twin := rfl
@[simp] theorem updLode_gbus (f : LodeState → LodeState) : (s.updLode f).gbus = s.gbus := rfl
@[simp] theorem updLode_jrp (f : LodeState → LodeState) : (s.updLode f).jrp = s.jrp := rfl
@[simp] theorem updLode_load (f : LodeState → LodeState) : (s.updLode f).load = s.load := rfl
@[simp] theorem updLode_key (f : LodeState → LodeState) : (s.updLode f).key = s.key := rfl
@[simp] theorem updLode_upd (f : LodeState → LodeState) : (s.updLode f).upd = s.upd := rfl
@[simp] theorem updLode_avs (f : LodeState → LodeState) : (s.updLode f).avs = s.avs := rfl
@[simp] theorem updLode_flash (f : LodeState → LodeState) : (s.updLode f).flash = s.flash := rfl
@[simp] theorem updLode_fuses (f : LodeState → LodeState) : (s.updLode f).fuses = s.fuses := rfl
@[simp] theorem updLode_rd (f : LodeState → LodeState) (a : Nat) : (s.updLode f).rd a = s.rd a := rfl
@[simp] theorem updLode_get (f : LodeState → LodeState) (r : FRef) : (s.updLode f).get r = s.get r := rfl

@[simp] theorem updTwin_pending (f : TwinState → TwinState) : (s.updTwin f).pending = s.pending := rfl
@[simp] theorem updTwin_now (f : TwinState → TwinState) : (s.updTwin f).now = s.now := rfl
@[simp] theorem updTwin_freeCtr (f : TwinState → TwinState) : (s.updTwin f).freeCtr = s.freeCtr := rfl
@[simp] theorem updTwin_regs (f : TwinState → TwinState) : (s.updTwin f).regs = s.regs := rfl
@[simp] theorem updTwin_inUse (f : TwinState → TwinState) : (s.updTwin f).inUse = s.inUse := rfl
@[simp] theorem updTwin_landing (f : TwinState → TwinState) : (s.updTwin f).landing = s.landing := rfl
@[simp] theorem updTwin_wide (f : TwinState → TwinState) : (s.updTwin f).wide = s.wide := rfl
@[simp] theorem updTwin_restart (f : TwinState → TwinState) : (s.updTwin f).restart = s.restart := rfl
@[simp] theorem updTwin_lastRaise (f : TwinState → TwinState) : (s.updTwin f).lastRaise = s.lastRaise := rfl
@[simp] theorem updTwin_out (f : TwinState → TwinState) : (s.updTwin f).out = s.out := rfl
@[simp] theorem updTwin_mgt (f : TwinState → TwinState) : (s.updTwin f).mgt = s.mgt := rfl
@[simp] theorem updTwin_flt (f : TwinState → TwinState) : (s.updTwin f).flt = s.flt := rfl
@[simp] theorem updTwin_fab (f : TwinState → TwinState) : (s.updTwin f).fab = s.fab := rfl
@[simp] theorem updTwin_prov (f : TwinState → TwinState) : (s.updTwin f).prov = s.prov := rfl
@[simp] theorem updTwin_chn (f : TwinState → TwinState) : (s.updTwin f).chn = s.chn := rfl
@[simp] theorem updTwin_sdi (f : TwinState → TwinState) : (s.updTwin f).sdi = s.sdi := rfl
@[simp] theorem updTwin_ipm (f : TwinState → TwinState) : (s.updTwin f).ipm = s.ipm := rfl
@[simp] theorem updTwin_aud (f : TwinState → TwinState) : (s.updTwin f).aud = s.aud := rfl
@[simp] theorem updTwin_cnv (f : TwinState → TwinState) : (s.updTwin f).cnv = s.cnv := rfl
@[simp] theorem updTwin_mica (f : TwinState → TwinState) : (s.updTwin f).mica = s.mica := rfl
@[simp] theorem updTwin_scan (f : TwinState → TwinState) : (s.updTwin f).scan = s.scan := rfl
@[simp] theorem updTwin_lanes (f : TwinState → TwinState) : (s.updTwin f).lanes = s.lanes := rfl
@[simp] theorem updTwin_eth (f : TwinState → TwinState) : (s.updTwin f).eth = s.eth := rfl
@[simp] theorem updTwin_time (f : TwinState → TwinState) : (s.updTwin f).time = s.time := rfl
@[simp] theorem updTwin_lode (f : TwinState → TwinState) : (s.updTwin f).lode = s.lode := rfl
@[simp] theorem updTwin_dram (f : TwinState → TwinState) : (s.updTwin f).dram = s.dram := rfl
@[simp] theorem updTwin_twin (f : TwinState → TwinState) : (s.updTwin f).twin = f s.twin := rfl
@[simp] theorem updTwin_gbus (f : TwinState → TwinState) : (s.updTwin f).gbus = s.gbus := rfl
@[simp] theorem updTwin_jrp (f : TwinState → TwinState) : (s.updTwin f).jrp = s.jrp := rfl
@[simp] theorem updTwin_load (f : TwinState → TwinState) : (s.updTwin f).load = s.load := rfl
@[simp] theorem updTwin_key (f : TwinState → TwinState) : (s.updTwin f).key = s.key := rfl
@[simp] theorem updTwin_upd (f : TwinState → TwinState) : (s.updTwin f).upd = s.upd := rfl
@[simp] theorem updTwin_avs (f : TwinState → TwinState) : (s.updTwin f).avs = s.avs := rfl
@[simp] theorem updTwin_flash (f : TwinState → TwinState) : (s.updTwin f).flash = s.flash := rfl
@[simp] theorem updTwin_fuses (f : TwinState → TwinState) : (s.updTwin f).fuses = s.fuses := rfl
@[simp] theorem updTwin_rd (f : TwinState → TwinState) (a : Nat) : (s.updTwin f).rd a = s.rd a := rfl
@[simp] theorem updTwin_get (f : TwinState → TwinState) (r : FRef) : (s.updTwin f).get r = s.get r := rfl

@[simp] theorem updJrp_pending (f : JrpState → JrpState) : (s.updJrp f).pending = s.pending := rfl
@[simp] theorem updJrp_now (f : JrpState → JrpState) : (s.updJrp f).now = s.now := rfl
@[simp] theorem updJrp_freeCtr (f : JrpState → JrpState) : (s.updJrp f).freeCtr = s.freeCtr := rfl
@[simp] theorem updJrp_regs (f : JrpState → JrpState) : (s.updJrp f).regs = s.regs := rfl
@[simp] theorem updJrp_inUse (f : JrpState → JrpState) : (s.updJrp f).inUse = s.inUse := rfl
@[simp] theorem updJrp_landing (f : JrpState → JrpState) : (s.updJrp f).landing = s.landing := rfl
@[simp] theorem updJrp_wide (f : JrpState → JrpState) : (s.updJrp f).wide = s.wide := rfl
@[simp] theorem updJrp_restart (f : JrpState → JrpState) : (s.updJrp f).restart = s.restart := rfl
@[simp] theorem updJrp_lastRaise (f : JrpState → JrpState) : (s.updJrp f).lastRaise = s.lastRaise := rfl
@[simp] theorem updJrp_out (f : JrpState → JrpState) : (s.updJrp f).out = s.out := rfl
@[simp] theorem updJrp_mgt (f : JrpState → JrpState) : (s.updJrp f).mgt = s.mgt := rfl
@[simp] theorem updJrp_flt (f : JrpState → JrpState) : (s.updJrp f).flt = s.flt := rfl
@[simp] theorem updJrp_fab (f : JrpState → JrpState) : (s.updJrp f).fab = s.fab := rfl
@[simp] theorem updJrp_prov (f : JrpState → JrpState) : (s.updJrp f).prov = s.prov := rfl
@[simp] theorem updJrp_chn (f : JrpState → JrpState) : (s.updJrp f).chn = s.chn := rfl
@[simp] theorem updJrp_sdi (f : JrpState → JrpState) : (s.updJrp f).sdi = s.sdi := rfl
@[simp] theorem updJrp_ipm (f : JrpState → JrpState) : (s.updJrp f).ipm = s.ipm := rfl
@[simp] theorem updJrp_aud (f : JrpState → JrpState) : (s.updJrp f).aud = s.aud := rfl
@[simp] theorem updJrp_cnv (f : JrpState → JrpState) : (s.updJrp f).cnv = s.cnv := rfl
@[simp] theorem updJrp_mica (f : JrpState → JrpState) : (s.updJrp f).mica = s.mica := rfl
@[simp] theorem updJrp_scan (f : JrpState → JrpState) : (s.updJrp f).scan = s.scan := rfl
@[simp] theorem updJrp_lanes (f : JrpState → JrpState) : (s.updJrp f).lanes = s.lanes := rfl
@[simp] theorem updJrp_eth (f : JrpState → JrpState) : (s.updJrp f).eth = s.eth := rfl
@[simp] theorem updJrp_time (f : JrpState → JrpState) : (s.updJrp f).time = s.time := rfl
@[simp] theorem updJrp_lode (f : JrpState → JrpState) : (s.updJrp f).lode = s.lode := rfl
@[simp] theorem updJrp_dram (f : JrpState → JrpState) : (s.updJrp f).dram = s.dram := rfl
@[simp] theorem updJrp_twin (f : JrpState → JrpState) : (s.updJrp f).twin = s.twin := rfl
@[simp] theorem updJrp_gbus (f : JrpState → JrpState) : (s.updJrp f).gbus = s.gbus := rfl
@[simp] theorem updJrp_jrp (f : JrpState → JrpState) : (s.updJrp f).jrp = f s.jrp := rfl
@[simp] theorem updJrp_load (f : JrpState → JrpState) : (s.updJrp f).load = s.load := rfl
@[simp] theorem updJrp_key (f : JrpState → JrpState) : (s.updJrp f).key = s.key := rfl
@[simp] theorem updJrp_upd (f : JrpState → JrpState) : (s.updJrp f).upd = s.upd := rfl
@[simp] theorem updJrp_avs (f : JrpState → JrpState) : (s.updJrp f).avs = s.avs := rfl
@[simp] theorem updJrp_flash (f : JrpState → JrpState) : (s.updJrp f).flash = s.flash := rfl
@[simp] theorem updJrp_fuses (f : JrpState → JrpState) : (s.updJrp f).fuses = s.fuses := rfl
@[simp] theorem updJrp_rd (f : JrpState → JrpState) (a : Nat) : (s.updJrp f).rd a = s.rd a := rfl
@[simp] theorem updJrp_get (f : JrpState → JrpState) (r : FRef) : (s.updJrp f).get r = s.get r := rfl

@[simp] theorem updMgt_pending (f : MgtState → MgtState) : (s.updMgt f).pending = s.pending := rfl
@[simp] theorem updMgt_now (f : MgtState → MgtState) : (s.updMgt f).now = s.now := rfl
@[simp] theorem updMgt_freeCtr (f : MgtState → MgtState) : (s.updMgt f).freeCtr = s.freeCtr := rfl
@[simp] theorem updMgt_regs (f : MgtState → MgtState) : (s.updMgt f).regs = s.regs := rfl
@[simp] theorem updMgt_inUse (f : MgtState → MgtState) : (s.updMgt f).inUse = s.inUse := rfl
@[simp] theorem updMgt_landing (f : MgtState → MgtState) : (s.updMgt f).landing = s.landing := rfl
@[simp] theorem updMgt_wide (f : MgtState → MgtState) : (s.updMgt f).wide = s.wide := rfl
@[simp] theorem updMgt_restart (f : MgtState → MgtState) : (s.updMgt f).restart = s.restart := rfl
@[simp] theorem updMgt_lastRaise (f : MgtState → MgtState) : (s.updMgt f).lastRaise = s.lastRaise := rfl
@[simp] theorem updMgt_out (f : MgtState → MgtState) : (s.updMgt f).out = s.out := rfl
@[simp] theorem updMgt_mgt (f : MgtState → MgtState) : (s.updMgt f).mgt = f s.mgt := rfl
@[simp] theorem updMgt_flt (f : MgtState → MgtState) : (s.updMgt f).flt = s.flt := rfl
@[simp] theorem updMgt_fab (f : MgtState → MgtState) : (s.updMgt f).fab = s.fab := rfl
@[simp] theorem updMgt_prov (f : MgtState → MgtState) : (s.updMgt f).prov = s.prov := rfl
@[simp] theorem updMgt_chn (f : MgtState → MgtState) : (s.updMgt f).chn = s.chn := rfl
@[simp] theorem updMgt_sdi (f : MgtState → MgtState) : (s.updMgt f).sdi = s.sdi := rfl
@[simp] theorem updMgt_ipm (f : MgtState → MgtState) : (s.updMgt f).ipm = s.ipm := rfl
@[simp] theorem updMgt_aud (f : MgtState → MgtState) : (s.updMgt f).aud = s.aud := rfl
@[simp] theorem updMgt_cnv (f : MgtState → MgtState) : (s.updMgt f).cnv = s.cnv := rfl
@[simp] theorem updMgt_mica (f : MgtState → MgtState) : (s.updMgt f).mica = s.mica := rfl
@[simp] theorem updMgt_scan (f : MgtState → MgtState) : (s.updMgt f).scan = s.scan := rfl
@[simp] theorem updMgt_lanes (f : MgtState → MgtState) : (s.updMgt f).lanes = s.lanes := rfl
@[simp] theorem updMgt_eth (f : MgtState → MgtState) : (s.updMgt f).eth = s.eth := rfl
@[simp] theorem updMgt_time (f : MgtState → MgtState) : (s.updMgt f).time = s.time := rfl
@[simp] theorem updMgt_lode (f : MgtState → MgtState) : (s.updMgt f).lode = s.lode := rfl
@[simp] theorem updMgt_dram (f : MgtState → MgtState) : (s.updMgt f).dram = s.dram := rfl
@[simp] theorem updMgt_twin (f : MgtState → MgtState) : (s.updMgt f).twin = s.twin := rfl
@[simp] theorem updMgt_gbus (f : MgtState → MgtState) : (s.updMgt f).gbus = s.gbus := rfl
@[simp] theorem updMgt_jrp (f : MgtState → MgtState) : (s.updMgt f).jrp = s.jrp := rfl
@[simp] theorem updMgt_load (f : MgtState → MgtState) : (s.updMgt f).load = s.load := rfl
@[simp] theorem updMgt_key (f : MgtState → MgtState) : (s.updMgt f).key = s.key := rfl
@[simp] theorem updMgt_upd (f : MgtState → MgtState) : (s.updMgt f).upd = s.upd := rfl
@[simp] theorem updMgt_avs (f : MgtState → MgtState) : (s.updMgt f).avs = s.avs := rfl
@[simp] theorem updMgt_flash (f : MgtState → MgtState) : (s.updMgt f).flash = s.flash := rfl
@[simp] theorem updMgt_fuses (f : MgtState → MgtState) : (s.updMgt f).fuses = s.fuses := rfl
@[simp] theorem updMgt_rd (f : MgtState → MgtState) (a : Nat) : (s.updMgt f).rd a = s.rd a := rfl
@[simp] theorem updMgt_get (f : MgtState → MgtState) (r : FRef) : (s.updMgt f).get r = s.get r := rfl

@[simp] theorem updFlt_pending (f : FltState → FltState) : (s.updFlt f).pending = s.pending := rfl
@[simp] theorem updFlt_now (f : FltState → FltState) : (s.updFlt f).now = s.now := rfl
@[simp] theorem updFlt_freeCtr (f : FltState → FltState) : (s.updFlt f).freeCtr = s.freeCtr := rfl
@[simp] theorem updFlt_regs (f : FltState → FltState) : (s.updFlt f).regs = s.regs := rfl
@[simp] theorem updFlt_inUse (f : FltState → FltState) : (s.updFlt f).inUse = s.inUse := rfl
@[simp] theorem updFlt_landing (f : FltState → FltState) : (s.updFlt f).landing = s.landing := rfl
@[simp] theorem updFlt_wide (f : FltState → FltState) : (s.updFlt f).wide = s.wide := rfl
@[simp] theorem updFlt_restart (f : FltState → FltState) : (s.updFlt f).restart = s.restart := rfl
@[simp] theorem updFlt_lastRaise (f : FltState → FltState) : (s.updFlt f).lastRaise = s.lastRaise := rfl
@[simp] theorem updFlt_out (f : FltState → FltState) : (s.updFlt f).out = s.out := rfl
@[simp] theorem updFlt_mgt (f : FltState → FltState) : (s.updFlt f).mgt = s.mgt := rfl
@[simp] theorem updFlt_flt (f : FltState → FltState) : (s.updFlt f).flt = f s.flt := rfl
@[simp] theorem updFlt_fab (f : FltState → FltState) : (s.updFlt f).fab = s.fab := rfl
@[simp] theorem updFlt_prov (f : FltState → FltState) : (s.updFlt f).prov = s.prov := rfl
@[simp] theorem updFlt_chn (f : FltState → FltState) : (s.updFlt f).chn = s.chn := rfl
@[simp] theorem updFlt_sdi (f : FltState → FltState) : (s.updFlt f).sdi = s.sdi := rfl
@[simp] theorem updFlt_ipm (f : FltState → FltState) : (s.updFlt f).ipm = s.ipm := rfl
@[simp] theorem updFlt_aud (f : FltState → FltState) : (s.updFlt f).aud = s.aud := rfl
@[simp] theorem updFlt_cnv (f : FltState → FltState) : (s.updFlt f).cnv = s.cnv := rfl
@[simp] theorem updFlt_mica (f : FltState → FltState) : (s.updFlt f).mica = s.mica := rfl
@[simp] theorem updFlt_scan (f : FltState → FltState) : (s.updFlt f).scan = s.scan := rfl
@[simp] theorem updFlt_lanes (f : FltState → FltState) : (s.updFlt f).lanes = s.lanes := rfl
@[simp] theorem updFlt_eth (f : FltState → FltState) : (s.updFlt f).eth = s.eth := rfl
@[simp] theorem updFlt_time (f : FltState → FltState) : (s.updFlt f).time = s.time := rfl
@[simp] theorem updFlt_lode (f : FltState → FltState) : (s.updFlt f).lode = s.lode := rfl
@[simp] theorem updFlt_dram (f : FltState → FltState) : (s.updFlt f).dram = s.dram := rfl
@[simp] theorem updFlt_twin (f : FltState → FltState) : (s.updFlt f).twin = s.twin := rfl
@[simp] theorem updFlt_gbus (f : FltState → FltState) : (s.updFlt f).gbus = s.gbus := rfl
@[simp] theorem updFlt_jrp (f : FltState → FltState) : (s.updFlt f).jrp = s.jrp := rfl
@[simp] theorem updFlt_load (f : FltState → FltState) : (s.updFlt f).load = s.load := rfl
@[simp] theorem updFlt_key (f : FltState → FltState) : (s.updFlt f).key = s.key := rfl
@[simp] theorem updFlt_upd (f : FltState → FltState) : (s.updFlt f).upd = s.upd := rfl
@[simp] theorem updFlt_avs (f : FltState → FltState) : (s.updFlt f).avs = s.avs := rfl
@[simp] theorem updFlt_flash (f : FltState → FltState) : (s.updFlt f).flash = s.flash := rfl
@[simp] theorem updFlt_fuses (f : FltState → FltState) : (s.updFlt f).fuses = s.fuses := rfl
@[simp] theorem updFlt_rd (f : FltState → FltState) (a : Nat) : (s.updFlt f).rd a = s.rd a := rfl
@[simp] theorem updFlt_get (f : FltState → FltState) (r : FRef) : (s.updFlt f).get r = s.get r := rfl

@[simp] theorem updTime_pending (f : TimeState → TimeState) : (s.updTime f).pending = s.pending := rfl
@[simp] theorem updTime_now (f : TimeState → TimeState) : (s.updTime f).now = s.now := rfl
@[simp] theorem updTime_freeCtr (f : TimeState → TimeState) : (s.updTime f).freeCtr = s.freeCtr := rfl
@[simp] theorem updTime_regs (f : TimeState → TimeState) : (s.updTime f).regs = s.regs := rfl
@[simp] theorem updTime_inUse (f : TimeState → TimeState) : (s.updTime f).inUse = s.inUse := rfl
@[simp] theorem updTime_landing (f : TimeState → TimeState) : (s.updTime f).landing = s.landing := rfl
@[simp] theorem updTime_wide (f : TimeState → TimeState) : (s.updTime f).wide = s.wide := rfl
@[simp] theorem updTime_restart (f : TimeState → TimeState) : (s.updTime f).restart = s.restart := rfl
@[simp] theorem updTime_lastRaise (f : TimeState → TimeState) : (s.updTime f).lastRaise = s.lastRaise := rfl
@[simp] theorem updTime_out (f : TimeState → TimeState) : (s.updTime f).out = s.out := rfl
@[simp] theorem updTime_mgt (f : TimeState → TimeState) : (s.updTime f).mgt = s.mgt := rfl
@[simp] theorem updTime_flt (f : TimeState → TimeState) : (s.updTime f).flt = s.flt := rfl
@[simp] theorem updTime_fab (f : TimeState → TimeState) : (s.updTime f).fab = s.fab := rfl
@[simp] theorem updTime_prov (f : TimeState → TimeState) : (s.updTime f).prov = s.prov := rfl
@[simp] theorem updTime_chn (f : TimeState → TimeState) : (s.updTime f).chn = s.chn := rfl
@[simp] theorem updTime_sdi (f : TimeState → TimeState) : (s.updTime f).sdi = s.sdi := rfl
@[simp] theorem updTime_ipm (f : TimeState → TimeState) : (s.updTime f).ipm = s.ipm := rfl
@[simp] theorem updTime_aud (f : TimeState → TimeState) : (s.updTime f).aud = s.aud := rfl
@[simp] theorem updTime_cnv (f : TimeState → TimeState) : (s.updTime f).cnv = s.cnv := rfl
@[simp] theorem updTime_mica (f : TimeState → TimeState) : (s.updTime f).mica = s.mica := rfl
@[simp] theorem updTime_scan (f : TimeState → TimeState) : (s.updTime f).scan = s.scan := rfl
@[simp] theorem updTime_lanes (f : TimeState → TimeState) : (s.updTime f).lanes = s.lanes := rfl
@[simp] theorem updTime_eth (f : TimeState → TimeState) : (s.updTime f).eth = s.eth := rfl
@[simp] theorem updTime_time (f : TimeState → TimeState) : (s.updTime f).time = f s.time := rfl
@[simp] theorem updTime_lode (f : TimeState → TimeState) : (s.updTime f).lode = s.lode := rfl
@[simp] theorem updTime_dram (f : TimeState → TimeState) : (s.updTime f).dram = s.dram := rfl
@[simp] theorem updTime_twin (f : TimeState → TimeState) : (s.updTime f).twin = s.twin := rfl
@[simp] theorem updTime_gbus (f : TimeState → TimeState) : (s.updTime f).gbus = s.gbus := rfl
@[simp] theorem updTime_jrp (f : TimeState → TimeState) : (s.updTime f).jrp = s.jrp := rfl
@[simp] theorem updTime_load (f : TimeState → TimeState) : (s.updTime f).load = s.load := rfl
@[simp] theorem updTime_key (f : TimeState → TimeState) : (s.updTime f).key = s.key := rfl
@[simp] theorem updTime_upd (f : TimeState → TimeState) : (s.updTime f).upd = s.upd := rfl
@[simp] theorem updTime_avs (f : TimeState → TimeState) : (s.updTime f).avs = s.avs := rfl
@[simp] theorem updTime_flash (f : TimeState → TimeState) : (s.updTime f).flash = s.flash := rfl
@[simp] theorem updTime_fuses (f : TimeState → TimeState) : (s.updTime f).fuses = s.fuses := rfl
@[simp] theorem updTime_rd (f : TimeState → TimeState) (a : Nat) : (s.updTime f).rd a = s.rd a := rfl
@[simp] theorem updTime_get (f : TimeState → TimeState) (r : FRef) : (s.updTime f).get r = s.get r := rfl

@[simp] theorem updScan_pending (f : ScanState → ScanState) : (s.updScan f).pending = s.pending := rfl
@[simp] theorem updScan_now (f : ScanState → ScanState) : (s.updScan f).now = s.now := rfl
@[simp] theorem updScan_freeCtr (f : ScanState → ScanState) : (s.updScan f).freeCtr = s.freeCtr := rfl
@[simp] theorem updScan_regs (f : ScanState → ScanState) : (s.updScan f).regs = s.regs := rfl
@[simp] theorem updScan_inUse (f : ScanState → ScanState) : (s.updScan f).inUse = s.inUse := rfl
@[simp] theorem updScan_landing (f : ScanState → ScanState) : (s.updScan f).landing = s.landing := rfl
@[simp] theorem updScan_wide (f : ScanState → ScanState) : (s.updScan f).wide = s.wide := rfl
@[simp] theorem updScan_restart (f : ScanState → ScanState) : (s.updScan f).restart = s.restart := rfl
@[simp] theorem updScan_lastRaise (f : ScanState → ScanState) : (s.updScan f).lastRaise = s.lastRaise := rfl
@[simp] theorem updScan_out (f : ScanState → ScanState) : (s.updScan f).out = s.out := rfl
@[simp] theorem updScan_mgt (f : ScanState → ScanState) : (s.updScan f).mgt = s.mgt := rfl
@[simp] theorem updScan_flt (f : ScanState → ScanState) : (s.updScan f).flt = s.flt := rfl
@[simp] theorem updScan_fab (f : ScanState → ScanState) : (s.updScan f).fab = s.fab := rfl
@[simp] theorem updScan_prov (f : ScanState → ScanState) : (s.updScan f).prov = s.prov := rfl
@[simp] theorem updScan_chn (f : ScanState → ScanState) : (s.updScan f).chn = s.chn := rfl
@[simp] theorem updScan_sdi (f : ScanState → ScanState) : (s.updScan f).sdi = s.sdi := rfl
@[simp] theorem updScan_ipm (f : ScanState → ScanState) : (s.updScan f).ipm = s.ipm := rfl
@[simp] theorem updScan_aud (f : ScanState → ScanState) : (s.updScan f).aud = s.aud := rfl
@[simp] theorem updScan_cnv (f : ScanState → ScanState) : (s.updScan f).cnv = s.cnv := rfl
@[simp] theorem updScan_mica (f : ScanState → ScanState) : (s.updScan f).mica = s.mica := rfl
@[simp] theorem updScan_scan (f : ScanState → ScanState) : (s.updScan f).scan = f s.scan := rfl
@[simp] theorem updScan_lanes (f : ScanState → ScanState) : (s.updScan f).lanes = s.lanes := rfl
@[simp] theorem updScan_eth (f : ScanState → ScanState) : (s.updScan f).eth = s.eth := rfl
@[simp] theorem updScan_time (f : ScanState → ScanState) : (s.updScan f).time = s.time := rfl
@[simp] theorem updScan_lode (f : ScanState → ScanState) : (s.updScan f).lode = s.lode := rfl
@[simp] theorem updScan_dram (f : ScanState → ScanState) : (s.updScan f).dram = s.dram := rfl
@[simp] theorem updScan_twin (f : ScanState → ScanState) : (s.updScan f).twin = s.twin := rfl
@[simp] theorem updScan_gbus (f : ScanState → ScanState) : (s.updScan f).gbus = s.gbus := rfl
@[simp] theorem updScan_jrp (f : ScanState → ScanState) : (s.updScan f).jrp = s.jrp := rfl
@[simp] theorem updScan_load (f : ScanState → ScanState) : (s.updScan f).load = s.load := rfl
@[simp] theorem updScan_key (f : ScanState → ScanState) : (s.updScan f).key = s.key := rfl
@[simp] theorem updScan_upd (f : ScanState → ScanState) : (s.updScan f).upd = s.upd := rfl
@[simp] theorem updScan_avs (f : ScanState → ScanState) : (s.updScan f).avs = s.avs := rfl
@[simp] theorem updScan_flash (f : ScanState → ScanState) : (s.updScan f).flash = s.flash := rfl
@[simp] theorem updScan_fuses (f : ScanState → ScanState) : (s.updScan f).fuses = s.fuses := rfl
@[simp] theorem updScan_rd (f : ScanState → ScanState) (a : Nat) : (s.updScan f).rd a = s.rd a := rfl
@[simp] theorem updScan_get (f : ScanState → ScanState) (r : FRef) : (s.updScan f).get r = s.get r := rfl

@[simp] theorem updSdi_pending (f : SdiState → SdiState) : (s.updSdi f).pending = s.pending := rfl
@[simp] theorem updSdi_now (f : SdiState → SdiState) : (s.updSdi f).now = s.now := rfl
@[simp] theorem updSdi_freeCtr (f : SdiState → SdiState) : (s.updSdi f).freeCtr = s.freeCtr := rfl
@[simp] theorem updSdi_regs (f : SdiState → SdiState) : (s.updSdi f).regs = s.regs := rfl
@[simp] theorem updSdi_inUse (f : SdiState → SdiState) : (s.updSdi f).inUse = s.inUse := rfl
@[simp] theorem updSdi_landing (f : SdiState → SdiState) : (s.updSdi f).landing = s.landing := rfl
@[simp] theorem updSdi_wide (f : SdiState → SdiState) : (s.updSdi f).wide = s.wide := rfl
@[simp] theorem updSdi_restart (f : SdiState → SdiState) : (s.updSdi f).restart = s.restart := rfl
@[simp] theorem updSdi_lastRaise (f : SdiState → SdiState) : (s.updSdi f).lastRaise = s.lastRaise := rfl
@[simp] theorem updSdi_out (f : SdiState → SdiState) : (s.updSdi f).out = s.out := rfl
@[simp] theorem updSdi_mgt (f : SdiState → SdiState) : (s.updSdi f).mgt = s.mgt := rfl
@[simp] theorem updSdi_flt (f : SdiState → SdiState) : (s.updSdi f).flt = s.flt := rfl
@[simp] theorem updSdi_fab (f : SdiState → SdiState) : (s.updSdi f).fab = s.fab := rfl
@[simp] theorem updSdi_prov (f : SdiState → SdiState) : (s.updSdi f).prov = s.prov := rfl
@[simp] theorem updSdi_chn (f : SdiState → SdiState) : (s.updSdi f).chn = s.chn := rfl
@[simp] theorem updSdi_sdi (f : SdiState → SdiState) : (s.updSdi f).sdi = f s.sdi := rfl
@[simp] theorem updSdi_ipm (f : SdiState → SdiState) : (s.updSdi f).ipm = s.ipm := rfl
@[simp] theorem updSdi_aud (f : SdiState → SdiState) : (s.updSdi f).aud = s.aud := rfl
@[simp] theorem updSdi_cnv (f : SdiState → SdiState) : (s.updSdi f).cnv = s.cnv := rfl
@[simp] theorem updSdi_mica (f : SdiState → SdiState) : (s.updSdi f).mica = s.mica := rfl
@[simp] theorem updSdi_scan (f : SdiState → SdiState) : (s.updSdi f).scan = s.scan := rfl
@[simp] theorem updSdi_lanes (f : SdiState → SdiState) : (s.updSdi f).lanes = s.lanes := rfl
@[simp] theorem updSdi_eth (f : SdiState → SdiState) : (s.updSdi f).eth = s.eth := rfl
@[simp] theorem updSdi_time (f : SdiState → SdiState) : (s.updSdi f).time = s.time := rfl
@[simp] theorem updSdi_lode (f : SdiState → SdiState) : (s.updSdi f).lode = s.lode := rfl
@[simp] theorem updSdi_dram (f : SdiState → SdiState) : (s.updSdi f).dram = s.dram := rfl
@[simp] theorem updSdi_twin (f : SdiState → SdiState) : (s.updSdi f).twin = s.twin := rfl
@[simp] theorem updSdi_gbus (f : SdiState → SdiState) : (s.updSdi f).gbus = s.gbus := rfl
@[simp] theorem updSdi_jrp (f : SdiState → SdiState) : (s.updSdi f).jrp = s.jrp := rfl
@[simp] theorem updSdi_load (f : SdiState → SdiState) : (s.updSdi f).load = s.load := rfl
@[simp] theorem updSdi_key (f : SdiState → SdiState) : (s.updSdi f).key = s.key := rfl
@[simp] theorem updSdi_upd (f : SdiState → SdiState) : (s.updSdi f).upd = s.upd := rfl
@[simp] theorem updSdi_avs (f : SdiState → SdiState) : (s.updSdi f).avs = s.avs := rfl
@[simp] theorem updSdi_flash (f : SdiState → SdiState) : (s.updSdi f).flash = s.flash := rfl
@[simp] theorem updSdi_fuses (f : SdiState → SdiState) : (s.updSdi f).fuses = s.fuses := rfl
@[simp] theorem updSdi_rd (f : SdiState → SdiState) (a : Nat) : (s.updSdi f).rd a = s.rd a := rfl
@[simp] theorem updSdi_get (f : SdiState → SdiState) (r : FRef) : (s.updSdi f).get r = s.get r := rfl

@[simp] theorem updFab_pending (f : FabState → FabState) : (s.updFab f).pending = s.pending := rfl
@[simp] theorem updFab_now (f : FabState → FabState) : (s.updFab f).now = s.now := rfl
@[simp] theorem updFab_freeCtr (f : FabState → FabState) : (s.updFab f).freeCtr = s.freeCtr := rfl
@[simp] theorem updFab_regs (f : FabState → FabState) : (s.updFab f).regs = s.regs := rfl
@[simp] theorem updFab_inUse (f : FabState → FabState) : (s.updFab f).inUse = s.inUse := rfl
@[simp] theorem updFab_landing (f : FabState → FabState) : (s.updFab f).landing = s.landing := rfl
@[simp] theorem updFab_wide (f : FabState → FabState) : (s.updFab f).wide = s.wide := rfl
@[simp] theorem updFab_restart (f : FabState → FabState) : (s.updFab f).restart = s.restart := rfl
@[simp] theorem updFab_lastRaise (f : FabState → FabState) : (s.updFab f).lastRaise = s.lastRaise := rfl
@[simp] theorem updFab_out (f : FabState → FabState) : (s.updFab f).out = s.out := rfl
@[simp] theorem updFab_mgt (f : FabState → FabState) : (s.updFab f).mgt = s.mgt := rfl
@[simp] theorem updFab_flt (f : FabState → FabState) : (s.updFab f).flt = s.flt := rfl
@[simp] theorem updFab_fab (f : FabState → FabState) : (s.updFab f).fab = f s.fab := rfl
@[simp] theorem updFab_prov (f : FabState → FabState) : (s.updFab f).prov = s.prov := rfl
@[simp] theorem updFab_chn (f : FabState → FabState) : (s.updFab f).chn = s.chn := rfl
@[simp] theorem updFab_sdi (f : FabState → FabState) : (s.updFab f).sdi = s.sdi := rfl
@[simp] theorem updFab_ipm (f : FabState → FabState) : (s.updFab f).ipm = s.ipm := rfl
@[simp] theorem updFab_aud (f : FabState → FabState) : (s.updFab f).aud = s.aud := rfl
@[simp] theorem updFab_cnv (f : FabState → FabState) : (s.updFab f).cnv = s.cnv := rfl
@[simp] theorem updFab_mica (f : FabState → FabState) : (s.updFab f).mica = s.mica := rfl
@[simp] theorem updFab_scan (f : FabState → FabState) : (s.updFab f).scan = s.scan := rfl
@[simp] theorem updFab_lanes (f : FabState → FabState) : (s.updFab f).lanes = s.lanes := rfl
@[simp] theorem updFab_eth (f : FabState → FabState) : (s.updFab f).eth = s.eth := rfl
@[simp] theorem updFab_time (f : FabState → FabState) : (s.updFab f).time = s.time := rfl
@[simp] theorem updFab_lode (f : FabState → FabState) : (s.updFab f).lode = s.lode := rfl
@[simp] theorem updFab_dram (f : FabState → FabState) : (s.updFab f).dram = s.dram := rfl
@[simp] theorem updFab_twin (f : FabState → FabState) : (s.updFab f).twin = s.twin := rfl
@[simp] theorem updFab_gbus (f : FabState → FabState) : (s.updFab f).gbus = s.gbus := rfl
@[simp] theorem updFab_jrp (f : FabState → FabState) : (s.updFab f).jrp = s.jrp := rfl
@[simp] theorem updFab_load (f : FabState → FabState) : (s.updFab f).load = s.load := rfl
@[simp] theorem updFab_key (f : FabState → FabState) : (s.updFab f).key = s.key := rfl
@[simp] theorem updFab_upd (f : FabState → FabState) : (s.updFab f).upd = s.upd := rfl
@[simp] theorem updFab_avs (f : FabState → FabState) : (s.updFab f).avs = s.avs := rfl
@[simp] theorem updFab_flash (f : FabState → FabState) : (s.updFab f).flash = s.flash := rfl
@[simp] theorem updFab_fuses (f : FabState → FabState) : (s.updFab f).fuses = s.fuses := rfl
@[simp] theorem updFab_rd (f : FabState → FabState) (a : Nat) : (s.updFab f).rd a = s.rd a := rfl
@[simp] theorem updFab_get (f : FabState → FabState) (r : FRef) : (s.updFab f).get r = s.get r := rfl

@[simp] theorem updUpd_pending (f : UpdState → UpdState) : (s.updUpd f).pending = s.pending := rfl
@[simp] theorem updUpd_now (f : UpdState → UpdState) : (s.updUpd f).now = s.now := rfl
@[simp] theorem updUpd_freeCtr (f : UpdState → UpdState) : (s.updUpd f).freeCtr = s.freeCtr := rfl
@[simp] theorem updUpd_regs (f : UpdState → UpdState) : (s.updUpd f).regs = s.regs := rfl
@[simp] theorem updUpd_inUse (f : UpdState → UpdState) : (s.updUpd f).inUse = s.inUse := rfl
@[simp] theorem updUpd_landing (f : UpdState → UpdState) : (s.updUpd f).landing = s.landing := rfl
@[simp] theorem updUpd_wide (f : UpdState → UpdState) : (s.updUpd f).wide = s.wide := rfl
@[simp] theorem updUpd_restart (f : UpdState → UpdState) : (s.updUpd f).restart = s.restart := rfl
@[simp] theorem updUpd_lastRaise (f : UpdState → UpdState) : (s.updUpd f).lastRaise = s.lastRaise := rfl
@[simp] theorem updUpd_out (f : UpdState → UpdState) : (s.updUpd f).out = s.out := rfl
@[simp] theorem updUpd_mgt (f : UpdState → UpdState) : (s.updUpd f).mgt = s.mgt := rfl
@[simp] theorem updUpd_flt (f : UpdState → UpdState) : (s.updUpd f).flt = s.flt := rfl
@[simp] theorem updUpd_fab (f : UpdState → UpdState) : (s.updUpd f).fab = s.fab := rfl
@[simp] theorem updUpd_prov (f : UpdState → UpdState) : (s.updUpd f).prov = s.prov := rfl
@[simp] theorem updUpd_chn (f : UpdState → UpdState) : (s.updUpd f).chn = s.chn := rfl
@[simp] theorem updUpd_sdi (f : UpdState → UpdState) : (s.updUpd f).sdi = s.sdi := rfl
@[simp] theorem updUpd_ipm (f : UpdState → UpdState) : (s.updUpd f).ipm = s.ipm := rfl
@[simp] theorem updUpd_aud (f : UpdState → UpdState) : (s.updUpd f).aud = s.aud := rfl
@[simp] theorem updUpd_cnv (f : UpdState → UpdState) : (s.updUpd f).cnv = s.cnv := rfl
@[simp] theorem updUpd_mica (f : UpdState → UpdState) : (s.updUpd f).mica = s.mica := rfl
@[simp] theorem updUpd_scan (f : UpdState → UpdState) : (s.updUpd f).scan = s.scan := rfl
@[simp] theorem updUpd_lanes (f : UpdState → UpdState) : (s.updUpd f).lanes = s.lanes := rfl
@[simp] theorem updUpd_eth (f : UpdState → UpdState) : (s.updUpd f).eth = s.eth := rfl
@[simp] theorem updUpd_time (f : UpdState → UpdState) : (s.updUpd f).time = s.time := rfl
@[simp] theorem updUpd_lode (f : UpdState → UpdState) : (s.updUpd f).lode = s.lode := rfl
@[simp] theorem updUpd_dram (f : UpdState → UpdState) : (s.updUpd f).dram = s.dram := rfl
@[simp] theorem updUpd_twin (f : UpdState → UpdState) : (s.updUpd f).twin = s.twin := rfl
@[simp] theorem updUpd_gbus (f : UpdState → UpdState) : (s.updUpd f).gbus = s.gbus := rfl
@[simp] theorem updUpd_jrp (f : UpdState → UpdState) : (s.updUpd f).jrp = s.jrp := rfl
@[simp] theorem updUpd_load (f : UpdState → UpdState) : (s.updUpd f).load = s.load := rfl
@[simp] theorem updUpd_key (f : UpdState → UpdState) : (s.updUpd f).key = s.key := rfl
@[simp] theorem updUpd_upd (f : UpdState → UpdState) : (s.updUpd f).upd = f s.upd := rfl
@[simp] theorem updUpd_avs (f : UpdState → UpdState) : (s.updUpd f).avs = s.avs := rfl
@[simp] theorem updUpd_flash (f : UpdState → UpdState) : (s.updUpd f).flash = s.flash := rfl
@[simp] theorem updUpd_fuses (f : UpdState → UpdState) : (s.updUpd f).fuses = s.fuses := rfl
@[simp] theorem updUpd_rd (f : UpdState → UpdState) (a : Nat) : (s.updUpd f).rd a = s.rd a := rfl
@[simp] theorem updUpd_get (f : UpdState → UpdState) (r : FRef) : (s.updUpd f).get r = s.get r := rfl

@[simp] theorem updAprt_pending (n : Nat) (f : AprtState → AprtState) : (s.updAprt n f).pending = s.pending := rfl
@[simp] theorem updAprt_now (n : Nat) (f : AprtState → AprtState) : (s.updAprt n f).now = s.now := rfl
@[simp] theorem updAprt_freeCtr (n : Nat) (f : AprtState → AprtState) : (s.updAprt n f).freeCtr = s.freeCtr := rfl
@[simp] theorem updAprt_regs (n : Nat) (f : AprtState → AprtState) : (s.updAprt n f).regs = s.regs := rfl
@[simp] theorem updAprt_inUse (n : Nat) (f : AprtState → AprtState) : (s.updAprt n f).inUse = s.inUse := rfl
@[simp] theorem updAprt_landing (n : Nat) (f : AprtState → AprtState) : (s.updAprt n f).landing = s.landing := rfl
@[simp] theorem updAprt_wide (n : Nat) (f : AprtState → AprtState) : (s.updAprt n f).wide = s.wide := rfl
@[simp] theorem updAprt_restart (n : Nat) (f : AprtState → AprtState) : (s.updAprt n f).restart = s.restart := rfl
@[simp] theorem updAprt_lastRaise (n : Nat) (f : AprtState → AprtState) : (s.updAprt n f).lastRaise = s.lastRaise := rfl
@[simp] theorem updAprt_out (n : Nat) (f : AprtState → AprtState) : (s.updAprt n f).out = s.out := rfl
@[simp] theorem updAprt_mgt (n : Nat) (f : AprtState → AprtState) : (s.updAprt n f).mgt = s.mgt := rfl
@[simp] theorem updAprt_flt (n : Nat) (f : AprtState → AprtState) : (s.updAprt n f).flt = s.flt := rfl
@[simp] theorem updAprt_fab (n : Nat) (f : AprtState → AprtState) : (s.updAprt n f).fab = s.fab := rfl
@[simp] theorem updAprt_prov (n : Nat) (f : AprtState → AprtState) : (s.updAprt n f).prov = s.prov := rfl
@[simp] theorem updAprt_chn (n : Nat) (f : AprtState → AprtState) : (s.updAprt n f).chn = s.chn := rfl
@[simp] theorem updAprt_sdi (n : Nat) (f : AprtState → AprtState) : (s.updAprt n f).sdi = s.sdi := rfl
@[simp] theorem updAprt_ipm (n : Nat) (f : AprtState → AprtState) : (s.updAprt n f).ipm = s.ipm := rfl
@[simp] theorem updAprt_cnv (n : Nat) (f : AprtState → AprtState) : (s.updAprt n f).cnv = s.cnv := rfl
@[simp] theorem updAprt_mica (n : Nat) (f : AprtState → AprtState) : (s.updAprt n f).mica = s.mica := rfl
@[simp] theorem updAprt_scan (n : Nat) (f : AprtState → AprtState) : (s.updAprt n f).scan = s.scan := rfl
@[simp] theorem updAprt_lanes (n : Nat) (f : AprtState → AprtState) : (s.updAprt n f).lanes = s.lanes := rfl
@[simp] theorem updAprt_eth (n : Nat) (f : AprtState → AprtState) : (s.updAprt n f).eth = s.eth := rfl
@[simp] theorem updAprt_time (n : Nat) (f : AprtState → AprtState) : (s.updAprt n f).time = s.time := rfl
@[simp] theorem updAprt_lode (n : Nat) (f : AprtState → AprtState) : (s.updAprt n f).lode = s.lode := rfl
@[simp] theorem updAprt_dram (n : Nat) (f : AprtState → AprtState) : (s.updAprt n f).dram = s.dram := rfl
@[simp] theorem updAprt_twin (n : Nat) (f : AprtState → AprtState) : (s.updAprt n f).twin = s.twin := rfl
@[simp] theorem updAprt_gbus (n : Nat) (f : AprtState → AprtState) : (s.updAprt n f).gbus = s.gbus := rfl
@[simp] theorem updAprt_jrp (n : Nat) (f : AprtState → AprtState) : (s.updAprt n f).jrp = s.jrp := rfl
@[simp] theorem updAprt_load (n : Nat) (f : AprtState → AprtState) : (s.updAprt n f).load = s.load := rfl
@[simp] theorem updAprt_key (n : Nat) (f : AprtState → AprtState) : (s.updAprt n f).key = s.key := rfl
@[simp] theorem updAprt_upd (n : Nat) (f : AprtState → AprtState) : (s.updAprt n f).upd = s.upd := rfl
@[simp] theorem updAprt_avs (n : Nat) (f : AprtState → AprtState) : (s.updAprt n f).avs = s.avs := rfl
@[simp] theorem updAprt_flash (n : Nat) (f : AprtState → AprtState) : (s.updAprt n f).flash = s.flash := rfl
@[simp] theorem updAprt_fuses (n : Nat) (f : AprtState → AprtState) : (s.updAprt n f).fuses = s.fuses := rfl
@[simp] theorem updAprt_rd (n : Nat) (f : AprtState → AprtState) (a : Nat) : (s.updAprt n f).rd a = s.rd a := rfl
@[simp] theorem updAprt_get (n : Nat) (f : AprtState → AprtState) (r : FRef) : (s.updAprt n f).get r = s.get r := rfl

@[simp] theorem updOutVoice_pending (n : Nat) (f : OutVoice → OutVoice) : (s.updOutVoice n f).pending = s.pending := rfl
@[simp] theorem updOutVoice_now (n : Nat) (f : OutVoice → OutVoice) : (s.updOutVoice n f).now = s.now := rfl
@[simp] theorem updOutVoice_freeCtr (n : Nat) (f : OutVoice → OutVoice) : (s.updOutVoice n f).freeCtr = s.freeCtr := rfl
@[simp] theorem updOutVoice_regs (n : Nat) (f : OutVoice → OutVoice) : (s.updOutVoice n f).regs = s.regs := rfl
@[simp] theorem updOutVoice_inUse (n : Nat) (f : OutVoice → OutVoice) : (s.updOutVoice n f).inUse = s.inUse := rfl
@[simp] theorem updOutVoice_landing (n : Nat) (f : OutVoice → OutVoice) : (s.updOutVoice n f).landing = s.landing := rfl
@[simp] theorem updOutVoice_wide (n : Nat) (f : OutVoice → OutVoice) : (s.updOutVoice n f).wide = s.wide := rfl
@[simp] theorem updOutVoice_restart (n : Nat) (f : OutVoice → OutVoice) : (s.updOutVoice n f).restart = s.restart := rfl
@[simp] theorem updOutVoice_lastRaise (n : Nat) (f : OutVoice → OutVoice) : (s.updOutVoice n f).lastRaise = s.lastRaise := rfl
@[simp] theorem updOutVoice_out (n : Nat) (f : OutVoice → OutVoice) : (s.updOutVoice n f).out = s.out := rfl
@[simp] theorem updOutVoice_mgt (n : Nat) (f : OutVoice → OutVoice) : (s.updOutVoice n f).mgt = s.mgt := rfl
@[simp] theorem updOutVoice_flt (n : Nat) (f : OutVoice → OutVoice) : (s.updOutVoice n f).flt = s.flt := rfl
@[simp] theorem updOutVoice_fab (n : Nat) (f : OutVoice → OutVoice) : (s.updOutVoice n f).fab = s.fab := rfl
@[simp] theorem updOutVoice_prov (n : Nat) (f : OutVoice → OutVoice) : (s.updOutVoice n f).prov = s.prov := rfl
@[simp] theorem updOutVoice_chn (n : Nat) (f : OutVoice → OutVoice) : (s.updOutVoice n f).chn = s.chn := rfl
@[simp] theorem updOutVoice_sdi (n : Nat) (f : OutVoice → OutVoice) : (s.updOutVoice n f).sdi = s.sdi := rfl
@[simp] theorem updOutVoice_ipm (n : Nat) (f : OutVoice → OutVoice) : (s.updOutVoice n f).ipm = s.ipm := rfl
@[simp] theorem updOutVoice_cnv (n : Nat) (f : OutVoice → OutVoice) : (s.updOutVoice n f).cnv = s.cnv := rfl
@[simp] theorem updOutVoice_mica (n : Nat) (f : OutVoice → OutVoice) : (s.updOutVoice n f).mica = s.mica := rfl
@[simp] theorem updOutVoice_scan (n : Nat) (f : OutVoice → OutVoice) : (s.updOutVoice n f).scan = s.scan := rfl
@[simp] theorem updOutVoice_lanes (n : Nat) (f : OutVoice → OutVoice) : (s.updOutVoice n f).lanes = s.lanes := rfl
@[simp] theorem updOutVoice_eth (n : Nat) (f : OutVoice → OutVoice) : (s.updOutVoice n f).eth = s.eth := rfl
@[simp] theorem updOutVoice_time (n : Nat) (f : OutVoice → OutVoice) : (s.updOutVoice n f).time = s.time := rfl
@[simp] theorem updOutVoice_lode (n : Nat) (f : OutVoice → OutVoice) : (s.updOutVoice n f).lode = s.lode := rfl
@[simp] theorem updOutVoice_dram (n : Nat) (f : OutVoice → OutVoice) : (s.updOutVoice n f).dram = s.dram := rfl
@[simp] theorem updOutVoice_twin (n : Nat) (f : OutVoice → OutVoice) : (s.updOutVoice n f).twin = s.twin := rfl
@[simp] theorem updOutVoice_gbus (n : Nat) (f : OutVoice → OutVoice) : (s.updOutVoice n f).gbus = s.gbus := rfl
@[simp] theorem updOutVoice_jrp (n : Nat) (f : OutVoice → OutVoice) : (s.updOutVoice n f).jrp = s.jrp := rfl
@[simp] theorem updOutVoice_load (n : Nat) (f : OutVoice → OutVoice) : (s.updOutVoice n f).load = s.load := rfl
@[simp] theorem updOutVoice_key (n : Nat) (f : OutVoice → OutVoice) : (s.updOutVoice n f).key = s.key := rfl
@[simp] theorem updOutVoice_upd (n : Nat) (f : OutVoice → OutVoice) : (s.updOutVoice n f).upd = s.upd := rfl
@[simp] theorem updOutVoice_avs (n : Nat) (f : OutVoice → OutVoice) : (s.updOutVoice n f).avs = s.avs := rfl
@[simp] theorem updOutVoice_flash (n : Nat) (f : OutVoice → OutVoice) : (s.updOutVoice n f).flash = s.flash := rfl
@[simp] theorem updOutVoice_fuses (n : Nat) (f : OutVoice → OutVoice) : (s.updOutVoice n f).fuses = s.fuses := rfl
@[simp] theorem updOutVoice_rd (n : Nat) (f : OutVoice → OutVoice) (a : Nat) : (s.updOutVoice n f).rd a = s.rd a := rfl
@[simp] theorem updOutVoice_get (n : Nat) (f : OutVoice → OutVoice) (r : FRef) : (s.updOutVoice n f).get r = s.get r := rfl

@[simp] theorem updCnv_pending (n : Nat) (f : CnvHw → CnvHw) : (s.updCnv n f).pending = s.pending := rfl
@[simp] theorem updCnv_now (n : Nat) (f : CnvHw → CnvHw) : (s.updCnv n f).now = s.now := rfl
@[simp] theorem updCnv_freeCtr (n : Nat) (f : CnvHw → CnvHw) : (s.updCnv n f).freeCtr = s.freeCtr := rfl
@[simp] theorem updCnv_regs (n : Nat) (f : CnvHw → CnvHw) : (s.updCnv n f).regs = s.regs := rfl
@[simp] theorem updCnv_inUse (n : Nat) (f : CnvHw → CnvHw) : (s.updCnv n f).inUse = s.inUse := rfl
@[simp] theorem updCnv_landing (n : Nat) (f : CnvHw → CnvHw) : (s.updCnv n f).landing = s.landing := rfl
@[simp] theorem updCnv_wide (n : Nat) (f : CnvHw → CnvHw) : (s.updCnv n f).wide = s.wide := rfl
@[simp] theorem updCnv_restart (n : Nat) (f : CnvHw → CnvHw) : (s.updCnv n f).restart = s.restart := rfl
@[simp] theorem updCnv_lastRaise (n : Nat) (f : CnvHw → CnvHw) : (s.updCnv n f).lastRaise = s.lastRaise := rfl
@[simp] theorem updCnv_out (n : Nat) (f : CnvHw → CnvHw) : (s.updCnv n f).out = s.out := rfl
@[simp] theorem updCnv_mgt (n : Nat) (f : CnvHw → CnvHw) : (s.updCnv n f).mgt = s.mgt := rfl
@[simp] theorem updCnv_flt (n : Nat) (f : CnvHw → CnvHw) : (s.updCnv n f).flt = s.flt := rfl
@[simp] theorem updCnv_fab (n : Nat) (f : CnvHw → CnvHw) : (s.updCnv n f).fab = s.fab := rfl
@[simp] theorem updCnv_prov (n : Nat) (f : CnvHw → CnvHw) : (s.updCnv n f).prov = s.prov := rfl
@[simp] theorem updCnv_chn (n : Nat) (f : CnvHw → CnvHw) : (s.updCnv n f).chn = s.chn := rfl
@[simp] theorem updCnv_sdi (n : Nat) (f : CnvHw → CnvHw) : (s.updCnv n f).sdi = s.sdi := rfl
@[simp] theorem updCnv_ipm (n : Nat) (f : CnvHw → CnvHw) : (s.updCnv n f).ipm = s.ipm := rfl
@[simp] theorem updCnv_aud (n : Nat) (f : CnvHw → CnvHw) : (s.updCnv n f).aud = s.aud := rfl
@[simp] theorem updCnv_mica (n : Nat) (f : CnvHw → CnvHw) : (s.updCnv n f).mica = s.mica := rfl
@[simp] theorem updCnv_scan (n : Nat) (f : CnvHw → CnvHw) : (s.updCnv n f).scan = s.scan := rfl
@[simp] theorem updCnv_lanes (n : Nat) (f : CnvHw → CnvHw) : (s.updCnv n f).lanes = s.lanes := rfl
@[simp] theorem updCnv_eth (n : Nat) (f : CnvHw → CnvHw) : (s.updCnv n f).eth = s.eth := rfl
@[simp] theorem updCnv_time (n : Nat) (f : CnvHw → CnvHw) : (s.updCnv n f).time = s.time := rfl
@[simp] theorem updCnv_lode (n : Nat) (f : CnvHw → CnvHw) : (s.updCnv n f).lode = s.lode := rfl
@[simp] theorem updCnv_dram (n : Nat) (f : CnvHw → CnvHw) : (s.updCnv n f).dram = s.dram := rfl
@[simp] theorem updCnv_twin (n : Nat) (f : CnvHw → CnvHw) : (s.updCnv n f).twin = s.twin := rfl
@[simp] theorem updCnv_gbus (n : Nat) (f : CnvHw → CnvHw) : (s.updCnv n f).gbus = s.gbus := rfl
@[simp] theorem updCnv_jrp (n : Nat) (f : CnvHw → CnvHw) : (s.updCnv n f).jrp = s.jrp := rfl
@[simp] theorem updCnv_load (n : Nat) (f : CnvHw → CnvHw) : (s.updCnv n f).load = s.load := rfl
@[simp] theorem updCnv_key (n : Nat) (f : CnvHw → CnvHw) : (s.updCnv n f).key = s.key := rfl
@[simp] theorem updCnv_upd (n : Nat) (f : CnvHw → CnvHw) : (s.updCnv n f).upd = s.upd := rfl
@[simp] theorem updCnv_avs (n : Nat) (f : CnvHw → CnvHw) : (s.updCnv n f).avs = s.avs := rfl
@[simp] theorem updCnv_flash (n : Nat) (f : CnvHw → CnvHw) : (s.updCnv n f).flash = s.flash := rfl
@[simp] theorem updCnv_fuses (n : Nat) (f : CnvHw → CnvHw) : (s.updCnv n f).fuses = s.fuses := rfl
@[simp] theorem updCnv_rd (n : Nat) (f : CnvHw → CnvHw) (a : Nat) : (s.updCnv n f).rd a = s.rd a := rfl
@[simp] theorem updCnv_get (n : Nat) (f : CnvHw → CnvHw) (r : FRef) : (s.updCnv n f).get r = s.get r := rfl

@[simp] theorem updEth_pending (n : Nat) (f : EthPort → EthPort) : (s.updEth n f).pending = s.pending := rfl
@[simp] theorem updEth_now (n : Nat) (f : EthPort → EthPort) : (s.updEth n f).now = s.now := rfl
@[simp] theorem updEth_freeCtr (n : Nat) (f : EthPort → EthPort) : (s.updEth n f).freeCtr = s.freeCtr := rfl
@[simp] theorem updEth_regs (n : Nat) (f : EthPort → EthPort) : (s.updEth n f).regs = s.regs := rfl
@[simp] theorem updEth_inUse (n : Nat) (f : EthPort → EthPort) : (s.updEth n f).inUse = s.inUse := rfl
@[simp] theorem updEth_landing (n : Nat) (f : EthPort → EthPort) : (s.updEth n f).landing = s.landing := rfl
@[simp] theorem updEth_wide (n : Nat) (f : EthPort → EthPort) : (s.updEth n f).wide = s.wide := rfl
@[simp] theorem updEth_restart (n : Nat) (f : EthPort → EthPort) : (s.updEth n f).restart = s.restart := rfl
@[simp] theorem updEth_lastRaise (n : Nat) (f : EthPort → EthPort) : (s.updEth n f).lastRaise = s.lastRaise := rfl
@[simp] theorem updEth_out (n : Nat) (f : EthPort → EthPort) : (s.updEth n f).out = s.out := rfl
@[simp] theorem updEth_mgt (n : Nat) (f : EthPort → EthPort) : (s.updEth n f).mgt = s.mgt := rfl
@[simp] theorem updEth_flt (n : Nat) (f : EthPort → EthPort) : (s.updEth n f).flt = s.flt := rfl
@[simp] theorem updEth_fab (n : Nat) (f : EthPort → EthPort) : (s.updEth n f).fab = s.fab := rfl
@[simp] theorem updEth_prov (n : Nat) (f : EthPort → EthPort) : (s.updEth n f).prov = s.prov := rfl
@[simp] theorem updEth_chn (n : Nat) (f : EthPort → EthPort) : (s.updEth n f).chn = s.chn := rfl
@[simp] theorem updEth_sdi (n : Nat) (f : EthPort → EthPort) : (s.updEth n f).sdi = s.sdi := rfl
@[simp] theorem updEth_ipm (n : Nat) (f : EthPort → EthPort) : (s.updEth n f).ipm = s.ipm := rfl
@[simp] theorem updEth_aud (n : Nat) (f : EthPort → EthPort) : (s.updEth n f).aud = s.aud := rfl
@[simp] theorem updEth_cnv (n : Nat) (f : EthPort → EthPort) : (s.updEth n f).cnv = s.cnv := rfl
@[simp] theorem updEth_mica (n : Nat) (f : EthPort → EthPort) : (s.updEth n f).mica = s.mica := rfl
@[simp] theorem updEth_scan (n : Nat) (f : EthPort → EthPort) : (s.updEth n f).scan = s.scan := rfl
@[simp] theorem updEth_lanes (n : Nat) (f : EthPort → EthPort) : (s.updEth n f).lanes = s.lanes := rfl
@[simp] theorem updEth_time (n : Nat) (f : EthPort → EthPort) : (s.updEth n f).time = s.time := rfl
@[simp] theorem updEth_lode (n : Nat) (f : EthPort → EthPort) : (s.updEth n f).lode = s.lode := rfl
@[simp] theorem updEth_dram (n : Nat) (f : EthPort → EthPort) : (s.updEth n f).dram = s.dram := rfl
@[simp] theorem updEth_twin (n : Nat) (f : EthPort → EthPort) : (s.updEth n f).twin = s.twin := rfl
@[simp] theorem updEth_gbus (n : Nat) (f : EthPort → EthPort) : (s.updEth n f).gbus = s.gbus := rfl
@[simp] theorem updEth_jrp (n : Nat) (f : EthPort → EthPort) : (s.updEth n f).jrp = s.jrp := rfl
@[simp] theorem updEth_load (n : Nat) (f : EthPort → EthPort) : (s.updEth n f).load = s.load := rfl
@[simp] theorem updEth_key (n : Nat) (f : EthPort → EthPort) : (s.updEth n f).key = s.key := rfl
@[simp] theorem updEth_upd (n : Nat) (f : EthPort → EthPort) : (s.updEth n f).upd = s.upd := rfl
@[simp] theorem updEth_avs (n : Nat) (f : EthPort → EthPort) : (s.updEth n f).avs = s.avs := rfl
@[simp] theorem updEth_flash (n : Nat) (f : EthPort → EthPort) : (s.updEth n f).flash = s.flash := rfl
@[simp] theorem updEth_fuses (n : Nat) (f : EthPort → EthPort) : (s.updEth n f).fuses = s.fuses := rfl
@[simp] theorem updEth_rd (n : Nat) (f : EthPort → EthPort) (a : Nat) : (s.updEth n f).rd a = s.rd a := rfl
@[simp] theorem updEth_get (n : Nat) (f : EthPort → EthPort) (r : FRef) : (s.updEth n f).get r = s.get r := rfl

@[simp] theorem updChan_pending (n : Nat) (f : Chan → Chan) : (s.updChan n f).pending = s.pending := rfl
@[simp] theorem updChan_now (n : Nat) (f : Chan → Chan) : (s.updChan n f).now = s.now := rfl
@[simp] theorem updChan_freeCtr (n : Nat) (f : Chan → Chan) : (s.updChan n f).freeCtr = s.freeCtr := rfl
@[simp] theorem updChan_regs (n : Nat) (f : Chan → Chan) : (s.updChan n f).regs = s.regs := rfl
@[simp] theorem updChan_inUse (n : Nat) (f : Chan → Chan) : (s.updChan n f).inUse = s.inUse := rfl
@[simp] theorem updChan_landing (n : Nat) (f : Chan → Chan) : (s.updChan n f).landing = s.landing := rfl
@[simp] theorem updChan_wide (n : Nat) (f : Chan → Chan) : (s.updChan n f).wide = s.wide := rfl
@[simp] theorem updChan_restart (n : Nat) (f : Chan → Chan) : (s.updChan n f).restart = s.restart := rfl
@[simp] theorem updChan_lastRaise (n : Nat) (f : Chan → Chan) : (s.updChan n f).lastRaise = s.lastRaise := rfl
@[simp] theorem updChan_out (n : Nat) (f : Chan → Chan) : (s.updChan n f).out = s.out := rfl
@[simp] theorem updChan_mgt (n : Nat) (f : Chan → Chan) : (s.updChan n f).mgt = s.mgt := rfl
@[simp] theorem updChan_flt (n : Nat) (f : Chan → Chan) : (s.updChan n f).flt = s.flt := rfl
@[simp] theorem updChan_fab (n : Nat) (f : Chan → Chan) : (s.updChan n f).fab = s.fab := rfl
@[simp] theorem updChan_prov (n : Nat) (f : Chan → Chan) : (s.updChan n f).prov = s.prov := rfl
@[simp] theorem updChan_sdi (n : Nat) (f : Chan → Chan) : (s.updChan n f).sdi = s.sdi := rfl
@[simp] theorem updChan_ipm (n : Nat) (f : Chan → Chan) : (s.updChan n f).ipm = s.ipm := rfl
@[simp] theorem updChan_aud (n : Nat) (f : Chan → Chan) : (s.updChan n f).aud = s.aud := rfl
@[simp] theorem updChan_cnv (n : Nat) (f : Chan → Chan) : (s.updChan n f).cnv = s.cnv := rfl
@[simp] theorem updChan_mica (n : Nat) (f : Chan → Chan) : (s.updChan n f).mica = s.mica := rfl
@[simp] theorem updChan_scan (n : Nat) (f : Chan → Chan) : (s.updChan n f).scan = s.scan := rfl
@[simp] theorem updChan_lanes (n : Nat) (f : Chan → Chan) : (s.updChan n f).lanes = s.lanes := rfl
@[simp] theorem updChan_eth (n : Nat) (f : Chan → Chan) : (s.updChan n f).eth = s.eth := rfl
@[simp] theorem updChan_time (n : Nat) (f : Chan → Chan) : (s.updChan n f).time = s.time := rfl
@[simp] theorem updChan_lode (n : Nat) (f : Chan → Chan) : (s.updChan n f).lode = s.lode := rfl
@[simp] theorem updChan_dram (n : Nat) (f : Chan → Chan) : (s.updChan n f).dram = s.dram := rfl
@[simp] theorem updChan_twin (n : Nat) (f : Chan → Chan) : (s.updChan n f).twin = s.twin := rfl
@[simp] theorem updChan_gbus (n : Nat) (f : Chan → Chan) : (s.updChan n f).gbus = s.gbus := rfl
@[simp] theorem updChan_jrp (n : Nat) (f : Chan → Chan) : (s.updChan n f).jrp = s.jrp := rfl
@[simp] theorem updChan_load (n : Nat) (f : Chan → Chan) : (s.updChan n f).load = s.load := rfl
@[simp] theorem updChan_key (n : Nat) (f : Chan → Chan) : (s.updChan n f).key = s.key := rfl
@[simp] theorem updChan_upd (n : Nat) (f : Chan → Chan) : (s.updChan n f).upd = s.upd := rfl
@[simp] theorem updChan_avs (n : Nat) (f : Chan → Chan) : (s.updChan n f).avs = s.avs := rfl
@[simp] theorem updChan_flash (n : Nat) (f : Chan → Chan) : (s.updChan n f).flash = s.flash := rfl
@[simp] theorem updChan_fuses (n : Nat) (f : Chan → Chan) : (s.updChan n f).fuses = s.fuses := rfl
@[simp] theorem updChan_rd (n : Nat) (f : Chan → Chan) (a : Nat) : (s.updChan n f).rd a = s.rd a := rfl
@[simp] theorem updChan_get (n : Nat) (f : Chan → Chan) (r : FRef) : (s.updChan n f).get r = s.get r := rfl

@[simp] theorem updRxf_pending (n : Nat) (f : RxFlow → RxFlow) : (s.updRxf n f).pending = s.pending := rfl
@[simp] theorem updRxf_now (n : Nat) (f : RxFlow → RxFlow) : (s.updRxf n f).now = s.now := rfl
@[simp] theorem updRxf_freeCtr (n : Nat) (f : RxFlow → RxFlow) : (s.updRxf n f).freeCtr = s.freeCtr := rfl
@[simp] theorem updRxf_regs (n : Nat) (f : RxFlow → RxFlow) : (s.updRxf n f).regs = s.regs := rfl
@[simp] theorem updRxf_inUse (n : Nat) (f : RxFlow → RxFlow) : (s.updRxf n f).inUse = s.inUse := rfl
@[simp] theorem updRxf_landing (n : Nat) (f : RxFlow → RxFlow) : (s.updRxf n f).landing = s.landing := rfl
@[simp] theorem updRxf_wide (n : Nat) (f : RxFlow → RxFlow) : (s.updRxf n f).wide = s.wide := rfl
@[simp] theorem updRxf_restart (n : Nat) (f : RxFlow → RxFlow) : (s.updRxf n f).restart = s.restart := rfl
@[simp] theorem updRxf_lastRaise (n : Nat) (f : RxFlow → RxFlow) : (s.updRxf n f).lastRaise = s.lastRaise := rfl
@[simp] theorem updRxf_out (n : Nat) (f : RxFlow → RxFlow) : (s.updRxf n f).out = s.out := rfl
@[simp] theorem updRxf_mgt (n : Nat) (f : RxFlow → RxFlow) : (s.updRxf n f).mgt = s.mgt := rfl
@[simp] theorem updRxf_flt (n : Nat) (f : RxFlow → RxFlow) : (s.updRxf n f).flt = s.flt := rfl
@[simp] theorem updRxf_fab (n : Nat) (f : RxFlow → RxFlow) : (s.updRxf n f).fab = s.fab := rfl
@[simp] theorem updRxf_prov (n : Nat) (f : RxFlow → RxFlow) : (s.updRxf n f).prov = s.prov := rfl
@[simp] theorem updRxf_chn (n : Nat) (f : RxFlow → RxFlow) : (s.updRxf n f).chn = s.chn := rfl
@[simp] theorem updRxf_sdi (n : Nat) (f : RxFlow → RxFlow) : (s.updRxf n f).sdi = s.sdi := rfl
@[simp] theorem updRxf_aud (n : Nat) (f : RxFlow → RxFlow) : (s.updRxf n f).aud = s.aud := rfl
@[simp] theorem updRxf_cnv (n : Nat) (f : RxFlow → RxFlow) : (s.updRxf n f).cnv = s.cnv := rfl
@[simp] theorem updRxf_mica (n : Nat) (f : RxFlow → RxFlow) : (s.updRxf n f).mica = s.mica := rfl
@[simp] theorem updRxf_scan (n : Nat) (f : RxFlow → RxFlow) : (s.updRxf n f).scan = s.scan := rfl
@[simp] theorem updRxf_lanes (n : Nat) (f : RxFlow → RxFlow) : (s.updRxf n f).lanes = s.lanes := rfl
@[simp] theorem updRxf_eth (n : Nat) (f : RxFlow → RxFlow) : (s.updRxf n f).eth = s.eth := rfl
@[simp] theorem updRxf_time (n : Nat) (f : RxFlow → RxFlow) : (s.updRxf n f).time = s.time := rfl
@[simp] theorem updRxf_lode (n : Nat) (f : RxFlow → RxFlow) : (s.updRxf n f).lode = s.lode := rfl
@[simp] theorem updRxf_dram (n : Nat) (f : RxFlow → RxFlow) : (s.updRxf n f).dram = s.dram := rfl
@[simp] theorem updRxf_twin (n : Nat) (f : RxFlow → RxFlow) : (s.updRxf n f).twin = s.twin := rfl
@[simp] theorem updRxf_gbus (n : Nat) (f : RxFlow → RxFlow) : (s.updRxf n f).gbus = s.gbus := rfl
@[simp] theorem updRxf_jrp (n : Nat) (f : RxFlow → RxFlow) : (s.updRxf n f).jrp = s.jrp := rfl
@[simp] theorem updRxf_load (n : Nat) (f : RxFlow → RxFlow) : (s.updRxf n f).load = s.load := rfl
@[simp] theorem updRxf_key (n : Nat) (f : RxFlow → RxFlow) : (s.updRxf n f).key = s.key := rfl
@[simp] theorem updRxf_upd (n : Nat) (f : RxFlow → RxFlow) : (s.updRxf n f).upd = s.upd := rfl
@[simp] theorem updRxf_avs (n : Nat) (f : RxFlow → RxFlow) : (s.updRxf n f).avs = s.avs := rfl
@[simp] theorem updRxf_flash (n : Nat) (f : RxFlow → RxFlow) : (s.updRxf n f).flash = s.flash := rfl
@[simp] theorem updRxf_fuses (n : Nat) (f : RxFlow → RxFlow) : (s.updRxf n f).fuses = s.fuses := rfl
@[simp] theorem updRxf_rd (n : Nat) (f : RxFlow → RxFlow) (a : Nat) : (s.updRxf n f).rd a = s.rd a := rfl
@[simp] theorem updRxf_get (n : Nat) (f : RxFlow → RxFlow) (r : FRef) : (s.updRxf n f).get r = s.get r := rfl

@[simp] theorem updTxf_pending (n : Nat) (f : TxFlow → TxFlow) : (s.updTxf n f).pending = s.pending := rfl
@[simp] theorem updTxf_now (n : Nat) (f : TxFlow → TxFlow) : (s.updTxf n f).now = s.now := rfl
@[simp] theorem updTxf_freeCtr (n : Nat) (f : TxFlow → TxFlow) : (s.updTxf n f).freeCtr = s.freeCtr := rfl
@[simp] theorem updTxf_regs (n : Nat) (f : TxFlow → TxFlow) : (s.updTxf n f).regs = s.regs := rfl
@[simp] theorem updTxf_inUse (n : Nat) (f : TxFlow → TxFlow) : (s.updTxf n f).inUse = s.inUse := rfl
@[simp] theorem updTxf_landing (n : Nat) (f : TxFlow → TxFlow) : (s.updTxf n f).landing = s.landing := rfl
@[simp] theorem updTxf_wide (n : Nat) (f : TxFlow → TxFlow) : (s.updTxf n f).wide = s.wide := rfl
@[simp] theorem updTxf_restart (n : Nat) (f : TxFlow → TxFlow) : (s.updTxf n f).restart = s.restart := rfl
@[simp] theorem updTxf_lastRaise (n : Nat) (f : TxFlow → TxFlow) : (s.updTxf n f).lastRaise = s.lastRaise := rfl
@[simp] theorem updTxf_out (n : Nat) (f : TxFlow → TxFlow) : (s.updTxf n f).out = s.out := rfl
@[simp] theorem updTxf_mgt (n : Nat) (f : TxFlow → TxFlow) : (s.updTxf n f).mgt = s.mgt := rfl
@[simp] theorem updTxf_flt (n : Nat) (f : TxFlow → TxFlow) : (s.updTxf n f).flt = s.flt := rfl
@[simp] theorem updTxf_fab (n : Nat) (f : TxFlow → TxFlow) : (s.updTxf n f).fab = s.fab := rfl
@[simp] theorem updTxf_prov (n : Nat) (f : TxFlow → TxFlow) : (s.updTxf n f).prov = s.prov := rfl
@[simp] theorem updTxf_chn (n : Nat) (f : TxFlow → TxFlow) : (s.updTxf n f).chn = s.chn := rfl
@[simp] theorem updTxf_sdi (n : Nat) (f : TxFlow → TxFlow) : (s.updTxf n f).sdi = s.sdi := rfl
@[simp] theorem updTxf_aud (n : Nat) (f : TxFlow → TxFlow) : (s.updTxf n f).aud = s.aud := rfl
@[simp] theorem updTxf_cnv (n : Nat) (f : TxFlow → TxFlow) : (s.updTxf n f).cnv = s.cnv := rfl
@[simp] theorem updTxf_mica (n : Nat) (f : TxFlow → TxFlow) : (s.updTxf n f).mica = s.mica := rfl
@[simp] theorem updTxf_scan (n : Nat) (f : TxFlow → TxFlow) : (s.updTxf n f).scan = s.scan := rfl
@[simp] theorem updTxf_lanes (n : Nat) (f : TxFlow → TxFlow) : (s.updTxf n f).lanes = s.lanes := rfl
@[simp] theorem updTxf_eth (n : Nat) (f : TxFlow → TxFlow) : (s.updTxf n f).eth = s.eth := rfl
@[simp] theorem updTxf_time (n : Nat) (f : TxFlow → TxFlow) : (s.updTxf n f).time = s.time := rfl
@[simp] theorem updTxf_lode (n : Nat) (f : TxFlow → TxFlow) : (s.updTxf n f).lode = s.lode := rfl
@[simp] theorem updTxf_dram (n : Nat) (f : TxFlow → TxFlow) : (s.updTxf n f).dram = s.dram := rfl
@[simp] theorem updTxf_twin (n : Nat) (f : TxFlow → TxFlow) : (s.updTxf n f).twin = s.twin := rfl
@[simp] theorem updTxf_gbus (n : Nat) (f : TxFlow → TxFlow) : (s.updTxf n f).gbus = s.gbus := rfl
@[simp] theorem updTxf_jrp (n : Nat) (f : TxFlow → TxFlow) : (s.updTxf n f).jrp = s.jrp := rfl
@[simp] theorem updTxf_load (n : Nat) (f : TxFlow → TxFlow) : (s.updTxf n f).load = s.load := rfl
@[simp] theorem updTxf_key (n : Nat) (f : TxFlow → TxFlow) : (s.updTxf n f).key = s.key := rfl
@[simp] theorem updTxf_upd (n : Nat) (f : TxFlow → TxFlow) : (s.updTxf n f).upd = s.upd := rfl
@[simp] theorem updTxf_avs (n : Nat) (f : TxFlow → TxFlow) : (s.updTxf n f).avs = s.avs := rfl
@[simp] theorem updTxf_flash (n : Nat) (f : TxFlow → TxFlow) : (s.updTxf n f).flash = s.flash := rfl
@[simp] theorem updTxf_fuses (n : Nat) (f : TxFlow → TxFlow) : (s.updTxf n f).fuses = s.fuses := rfl
@[simp] theorem updTxf_rd (n : Nat) (f : TxFlow → TxFlow) (a : Nat) : (s.updTxf n f).rd a = s.rd a := rfl
@[simp] theorem updTxf_get (n : Nat) (f : TxFlow → TxFlow) (r : FRef) : (s.updTxf n f).get r = s.get r := rfl

@[simp] theorem updLane_pending (n : Nat) (f : LaneHw → LaneHw) : (s.updLane n f).pending = s.pending := rfl
@[simp] theorem updLane_now (n : Nat) (f : LaneHw → LaneHw) : (s.updLane n f).now = s.now := rfl
@[simp] theorem updLane_freeCtr (n : Nat) (f : LaneHw → LaneHw) : (s.updLane n f).freeCtr = s.freeCtr := rfl
@[simp] theorem updLane_regs (n : Nat) (f : LaneHw → LaneHw) : (s.updLane n f).regs = s.regs := rfl
@[simp] theorem updLane_inUse (n : Nat) (f : LaneHw → LaneHw) : (s.updLane n f).inUse = s.inUse := rfl
@[simp] theorem updLane_landing (n : Nat) (f : LaneHw → LaneHw) : (s.updLane n f).landing = s.landing := rfl
@[simp] theorem updLane_wide (n : Nat) (f : LaneHw → LaneHw) : (s.updLane n f).wide = s.wide := rfl
@[simp] theorem updLane_restart (n : Nat) (f : LaneHw → LaneHw) : (s.updLane n f).restart = s.restart := rfl
@[simp] theorem updLane_lastRaise (n : Nat) (f : LaneHw → LaneHw) : (s.updLane n f).lastRaise = s.lastRaise := rfl
@[simp] theorem updLane_out (n : Nat) (f : LaneHw → LaneHw) : (s.updLane n f).out = s.out := rfl
@[simp] theorem updLane_mgt (n : Nat) (f : LaneHw → LaneHw) : (s.updLane n f).mgt = s.mgt := rfl
@[simp] theorem updLane_flt (n : Nat) (f : LaneHw → LaneHw) : (s.updLane n f).flt = s.flt := rfl
@[simp] theorem updLane_fab (n : Nat) (f : LaneHw → LaneHw) : (s.updLane n f).fab = s.fab := rfl
@[simp] theorem updLane_prov (n : Nat) (f : LaneHw → LaneHw) : (s.updLane n f).prov = s.prov := rfl
@[simp] theorem updLane_chn (n : Nat) (f : LaneHw → LaneHw) : (s.updLane n f).chn = s.chn := rfl
@[simp] theorem updLane_sdi (n : Nat) (f : LaneHw → LaneHw) : (s.updLane n f).sdi = s.sdi := rfl
@[simp] theorem updLane_ipm (n : Nat) (f : LaneHw → LaneHw) : (s.updLane n f).ipm = s.ipm := rfl
@[simp] theorem updLane_aud (n : Nat) (f : LaneHw → LaneHw) : (s.updLane n f).aud = s.aud := rfl
@[simp] theorem updLane_cnv (n : Nat) (f : LaneHw → LaneHw) : (s.updLane n f).cnv = s.cnv := rfl
@[simp] theorem updLane_mica (n : Nat) (f : LaneHw → LaneHw) : (s.updLane n f).mica = s.mica := rfl
@[simp] theorem updLane_scan (n : Nat) (f : LaneHw → LaneHw) : (s.updLane n f).scan = s.scan := rfl
@[simp] theorem updLane_eth (n : Nat) (f : LaneHw → LaneHw) : (s.updLane n f).eth = s.eth := rfl
@[simp] theorem updLane_time (n : Nat) (f : LaneHw → LaneHw) : (s.updLane n f).time = s.time := rfl
@[simp] theorem updLane_lode (n : Nat) (f : LaneHw → LaneHw) : (s.updLane n f).lode = s.lode := rfl
@[simp] theorem updLane_dram (n : Nat) (f : LaneHw → LaneHw) : (s.updLane n f).dram = s.dram := rfl
@[simp] theorem updLane_twin (n : Nat) (f : LaneHw → LaneHw) : (s.updLane n f).twin = s.twin := rfl
@[simp] theorem updLane_gbus (n : Nat) (f : LaneHw → LaneHw) : (s.updLane n f).gbus = s.gbus := rfl
@[simp] theorem updLane_jrp (n : Nat) (f : LaneHw → LaneHw) : (s.updLane n f).jrp = s.jrp := rfl
@[simp] theorem updLane_load (n : Nat) (f : LaneHw → LaneHw) : (s.updLane n f).load = s.load := rfl
@[simp] theorem updLane_key (n : Nat) (f : LaneHw → LaneHw) : (s.updLane n f).key = s.key := rfl
@[simp] theorem updLane_upd (n : Nat) (f : LaneHw → LaneHw) : (s.updLane n f).upd = s.upd := rfl
@[simp] theorem updLane_avs (n : Nat) (f : LaneHw → LaneHw) : (s.updLane n f).avs = s.avs := rfl
@[simp] theorem updLane_flash (n : Nat) (f : LaneHw → LaneHw) : (s.updLane n f).flash = s.flash := rfl
@[simp] theorem updLane_fuses (n : Nat) (f : LaneHw → LaneHw) : (s.updLane n f).fuses = s.fuses := rfl
@[simp] theorem updLane_rd (n : Nat) (f : LaneHw → LaneHw) (a : Nat) : (s.updLane n f).rd a = s.rd a := rfl
@[simp] theorem updLane_get (n : Nat) (f : LaneHw → LaneHw) (r : FRef) : (s.updLane n f).get r = s.get r := rfl

@[simp] theorem updMica_pending (n : Nat) (f : MicaHw → MicaHw) : (s.updMica n f).pending = s.pending := rfl
@[simp] theorem updMica_now (n : Nat) (f : MicaHw → MicaHw) : (s.updMica n f).now = s.now := rfl
@[simp] theorem updMica_freeCtr (n : Nat) (f : MicaHw → MicaHw) : (s.updMica n f).freeCtr = s.freeCtr := rfl
@[simp] theorem updMica_regs (n : Nat) (f : MicaHw → MicaHw) : (s.updMica n f).regs = s.regs := rfl
@[simp] theorem updMica_inUse (n : Nat) (f : MicaHw → MicaHw) : (s.updMica n f).inUse = s.inUse := rfl
@[simp] theorem updMica_landing (n : Nat) (f : MicaHw → MicaHw) : (s.updMica n f).landing = s.landing := rfl
@[simp] theorem updMica_wide (n : Nat) (f : MicaHw → MicaHw) : (s.updMica n f).wide = s.wide := rfl
@[simp] theorem updMica_restart (n : Nat) (f : MicaHw → MicaHw) : (s.updMica n f).restart = s.restart := rfl
@[simp] theorem updMica_lastRaise (n : Nat) (f : MicaHw → MicaHw) : (s.updMica n f).lastRaise = s.lastRaise := rfl
@[simp] theorem updMica_out (n : Nat) (f : MicaHw → MicaHw) : (s.updMica n f).out = s.out := rfl
@[simp] theorem updMica_mgt (n : Nat) (f : MicaHw → MicaHw) : (s.updMica n f).mgt = s.mgt := rfl
@[simp] theorem updMica_flt (n : Nat) (f : MicaHw → MicaHw) : (s.updMica n f).flt = s.flt := rfl
@[simp] theorem updMica_fab (n : Nat) (f : MicaHw → MicaHw) : (s.updMica n f).fab = s.fab := rfl
@[simp] theorem updMica_prov (n : Nat) (f : MicaHw → MicaHw) : (s.updMica n f).prov = s.prov := rfl
@[simp] theorem updMica_chn (n : Nat) (f : MicaHw → MicaHw) : (s.updMica n f).chn = s.chn := rfl
@[simp] theorem updMica_sdi (n : Nat) (f : MicaHw → MicaHw) : (s.updMica n f).sdi = s.sdi := rfl
@[simp] theorem updMica_ipm (n : Nat) (f : MicaHw → MicaHw) : (s.updMica n f).ipm = s.ipm := rfl
@[simp] theorem updMica_aud (n : Nat) (f : MicaHw → MicaHw) : (s.updMica n f).aud = s.aud := rfl
@[simp] theorem updMica_cnv (n : Nat) (f : MicaHw → MicaHw) : (s.updMica n f).cnv = s.cnv := rfl
@[simp] theorem updMica_scan (n : Nat) (f : MicaHw → MicaHw) : (s.updMica n f).scan = s.scan := rfl
@[simp] theorem updMica_lanes (n : Nat) (f : MicaHw → MicaHw) : (s.updMica n f).lanes = s.lanes := rfl
@[simp] theorem updMica_eth (n : Nat) (f : MicaHw → MicaHw) : (s.updMica n f).eth = s.eth := rfl
@[simp] theorem updMica_time (n : Nat) (f : MicaHw → MicaHw) : (s.updMica n f).time = s.time := rfl
@[simp] theorem updMica_lode (n : Nat) (f : MicaHw → MicaHw) : (s.updMica n f).lode = s.lode := rfl
@[simp] theorem updMica_dram (n : Nat) (f : MicaHw → MicaHw) : (s.updMica n f).dram = s.dram := rfl
@[simp] theorem updMica_twin (n : Nat) (f : MicaHw → MicaHw) : (s.updMica n f).twin = s.twin := rfl
@[simp] theorem updMica_gbus (n : Nat) (f : MicaHw → MicaHw) : (s.updMica n f).gbus = s.gbus := rfl
@[simp] theorem updMica_jrp (n : Nat) (f : MicaHw → MicaHw) : (s.updMica n f).jrp = s.jrp := rfl
@[simp] theorem updMica_load (n : Nat) (f : MicaHw → MicaHw) : (s.updMica n f).load = s.load := rfl
@[simp] theorem updMica_key (n : Nat) (f : MicaHw → MicaHw) : (s.updMica n f).key = s.key := rfl
@[simp] theorem updMica_upd (n : Nat) (f : MicaHw → MicaHw) : (s.updMica n f).upd = s.upd := rfl
@[simp] theorem updMica_avs (n : Nat) (f : MicaHw → MicaHw) : (s.updMica n f).avs = s.avs := rfl
@[simp] theorem updMica_flash (n : Nat) (f : MicaHw → MicaHw) : (s.updMica n f).flash = s.flash := rfl
@[simp] theorem updMica_fuses (n : Nat) (f : MicaHw → MicaHw) : (s.updMica n f).fuses = s.fuses := rfl
@[simp] theorem updMica_rd (n : Nat) (f : MicaHw → MicaHw) (a : Nat) : (s.updMica n f).rd a = s.rd a := rfl
@[simp] theorem updMica_get (n : Nat) (f : MicaHw → MicaHw) (r : FRef) : (s.updMica n f).get r = s.get r := rfl

@[simp] theorem updDec_pending (n : Nat) (f : DecHw → DecHw) : (s.updDec n f).pending = s.pending := rfl
@[simp] theorem updDec_now (n : Nat) (f : DecHw → DecHw) : (s.updDec n f).now = s.now := rfl
@[simp] theorem updDec_freeCtr (n : Nat) (f : DecHw → DecHw) : (s.updDec n f).freeCtr = s.freeCtr := rfl
@[simp] theorem updDec_regs (n : Nat) (f : DecHw → DecHw) : (s.updDec n f).regs = s.regs := rfl
@[simp] theorem updDec_inUse (n : Nat) (f : DecHw → DecHw) : (s.updDec n f).inUse = s.inUse := rfl
@[simp] theorem updDec_landing (n : Nat) (f : DecHw → DecHw) : (s.updDec n f).landing = s.landing := rfl
@[simp] theorem updDec_wide (n : Nat) (f : DecHw → DecHw) : (s.updDec n f).wide = s.wide := rfl
@[simp] theorem updDec_restart (n : Nat) (f : DecHw → DecHw) : (s.updDec n f).restart = s.restart := rfl
@[simp] theorem updDec_lastRaise (n : Nat) (f : DecHw → DecHw) : (s.updDec n f).lastRaise = s.lastRaise := rfl
@[simp] theorem updDec_out (n : Nat) (f : DecHw → DecHw) : (s.updDec n f).out = s.out := rfl
@[simp] theorem updDec_mgt (n : Nat) (f : DecHw → DecHw) : (s.updDec n f).mgt = s.mgt := rfl
@[simp] theorem updDec_flt (n : Nat) (f : DecHw → DecHw) : (s.updDec n f).flt = s.flt := rfl
@[simp] theorem updDec_fab (n : Nat) (f : DecHw → DecHw) : (s.updDec n f).fab = s.fab := rfl
@[simp] theorem updDec_prov (n : Nat) (f : DecHw → DecHw) : (s.updDec n f).prov = s.prov := rfl
@[simp] theorem updDec_chn (n : Nat) (f : DecHw → DecHw) : (s.updDec n f).chn = s.chn := rfl
@[simp] theorem updDec_sdi (n : Nat) (f : DecHw → DecHw) : (s.updDec n f).sdi = s.sdi := rfl
@[simp] theorem updDec_ipm (n : Nat) (f : DecHw → DecHw) : (s.updDec n f).ipm = s.ipm := rfl
@[simp] theorem updDec_aud (n : Nat) (f : DecHw → DecHw) : (s.updDec n f).aud = s.aud := rfl
@[simp] theorem updDec_cnv (n : Nat) (f : DecHw → DecHw) : (s.updDec n f).cnv = s.cnv := rfl
@[simp] theorem updDec_scan (n : Nat) (f : DecHw → DecHw) : (s.updDec n f).scan = s.scan := rfl
@[simp] theorem updDec_lanes (n : Nat) (f : DecHw → DecHw) : (s.updDec n f).lanes = s.lanes := rfl
@[simp] theorem updDec_eth (n : Nat) (f : DecHw → DecHw) : (s.updDec n f).eth = s.eth := rfl
@[simp] theorem updDec_time (n : Nat) (f : DecHw → DecHw) : (s.updDec n f).time = s.time := rfl
@[simp] theorem updDec_lode (n : Nat) (f : DecHw → DecHw) : (s.updDec n f).lode = s.lode := rfl
@[simp] theorem updDec_dram (n : Nat) (f : DecHw → DecHw) : (s.updDec n f).dram = s.dram := rfl
@[simp] theorem updDec_twin (n : Nat) (f : DecHw → DecHw) : (s.updDec n f).twin = s.twin := rfl
@[simp] theorem updDec_gbus (n : Nat) (f : DecHw → DecHw) : (s.updDec n f).gbus = s.gbus := rfl
@[simp] theorem updDec_jrp (n : Nat) (f : DecHw → DecHw) : (s.updDec n f).jrp = s.jrp := rfl
@[simp] theorem updDec_load (n : Nat) (f : DecHw → DecHw) : (s.updDec n f).load = s.load := rfl
@[simp] theorem updDec_key (n : Nat) (f : DecHw → DecHw) : (s.updDec n f).key = s.key := rfl
@[simp] theorem updDec_upd (n : Nat) (f : DecHw → DecHw) : (s.updDec n f).upd = s.upd := rfl
@[simp] theorem updDec_avs (n : Nat) (f : DecHw → DecHw) : (s.updDec n f).avs = s.avs := rfl
@[simp] theorem updDec_flash (n : Nat) (f : DecHw → DecHw) : (s.updDec n f).flash = s.flash := rfl
@[simp] theorem updDec_fuses (n : Nat) (f : DecHw → DecHw) : (s.updDec n f).fuses = s.fuses := rfl
@[simp] theorem updDec_rd (n : Nat) (f : DecHw → DecHw) (a : Nat) : (s.updDec n f).rd a = s.rd a := rfl
@[simp] theorem updDec_get (n : Nat) (f : DecHw → DecHw) (r : FRef) : (s.updDec n f).get r = s.get r := rfl

@[simp] theorem updSession_pending (n : Nat) (f : JrpSession → JrpSession) : (s.updSession n f).pending = s.pending := rfl
@[simp] theorem updSession_now (n : Nat) (f : JrpSession → JrpSession) : (s.updSession n f).now = s.now := rfl
@[simp] theorem updSession_freeCtr (n : Nat) (f : JrpSession → JrpSession) : (s.updSession n f).freeCtr = s.freeCtr := rfl
@[simp] theorem updSession_regs (n : Nat) (f : JrpSession → JrpSession) : (s.updSession n f).regs = s.regs := rfl
@[simp] theorem updSession_inUse (n : Nat) (f : JrpSession → JrpSession) : (s.updSession n f).inUse = s.inUse := rfl
@[simp] theorem updSession_landing (n : Nat) (f : JrpSession → JrpSession) : (s.updSession n f).landing = s.landing := rfl
@[simp] theorem updSession_wide (n : Nat) (f : JrpSession → JrpSession) : (s.updSession n f).wide = s.wide := rfl
@[simp] theorem updSession_restart (n : Nat) (f : JrpSession → JrpSession) : (s.updSession n f).restart = s.restart := rfl
@[simp] theorem updSession_lastRaise (n : Nat) (f : JrpSession → JrpSession) : (s.updSession n f).lastRaise = s.lastRaise := rfl
@[simp] theorem updSession_out (n : Nat) (f : JrpSession → JrpSession) : (s.updSession n f).out = s.out := rfl
@[simp] theorem updSession_mgt (n : Nat) (f : JrpSession → JrpSession) : (s.updSession n f).mgt = s.mgt := rfl
@[simp] theorem updSession_flt (n : Nat) (f : JrpSession → JrpSession) : (s.updSession n f).flt = s.flt := rfl
@[simp] theorem updSession_fab (n : Nat) (f : JrpSession → JrpSession) : (s.updSession n f).fab = s.fab := rfl
@[simp] theorem updSession_prov (n : Nat) (f : JrpSession → JrpSession) : (s.updSession n f).prov = s.prov := rfl
@[simp] theorem updSession_chn (n : Nat) (f : JrpSession → JrpSession) : (s.updSession n f).chn = s.chn := rfl
@[simp] theorem updSession_sdi (n : Nat) (f : JrpSession → JrpSession) : (s.updSession n f).sdi = s.sdi := rfl
@[simp] theorem updSession_ipm (n : Nat) (f : JrpSession → JrpSession) : (s.updSession n f).ipm = s.ipm := rfl
@[simp] theorem updSession_aud (n : Nat) (f : JrpSession → JrpSession) : (s.updSession n f).aud = s.aud := rfl
@[simp] theorem updSession_cnv (n : Nat) (f : JrpSession → JrpSession) : (s.updSession n f).cnv = s.cnv := rfl
@[simp] theorem updSession_mica (n : Nat) (f : JrpSession → JrpSession) : (s.updSession n f).mica = s.mica := rfl
@[simp] theorem updSession_scan (n : Nat) (f : JrpSession → JrpSession) : (s.updSession n f).scan = s.scan := rfl
@[simp] theorem updSession_lanes (n : Nat) (f : JrpSession → JrpSession) : (s.updSession n f).lanes = s.lanes := rfl
@[simp] theorem updSession_eth (n : Nat) (f : JrpSession → JrpSession) : (s.updSession n f).eth = s.eth := rfl
@[simp] theorem updSession_time (n : Nat) (f : JrpSession → JrpSession) : (s.updSession n f).time = s.time := rfl
@[simp] theorem updSession_lode (n : Nat) (f : JrpSession → JrpSession) : (s.updSession n f).lode = s.lode := rfl
@[simp] theorem updSession_dram (n : Nat) (f : JrpSession → JrpSession) : (s.updSession n f).dram = s.dram := rfl
@[simp] theorem updSession_twin (n : Nat) (f : JrpSession → JrpSession) : (s.updSession n f).twin = s.twin := rfl
@[simp] theorem updSession_gbus (n : Nat) (f : JrpSession → JrpSession) : (s.updSession n f).gbus = s.gbus := rfl
@[simp] theorem updSession_load (n : Nat) (f : JrpSession → JrpSession) : (s.updSession n f).load = s.load := rfl
@[simp] theorem updSession_key (n : Nat) (f : JrpSession → JrpSession) : (s.updSession n f).key = s.key := rfl
@[simp] theorem updSession_upd (n : Nat) (f : JrpSession → JrpSession) : (s.updSession n f).upd = s.upd := rfl
@[simp] theorem updSession_avs (n : Nat) (f : JrpSession → JrpSession) : (s.updSession n f).avs = s.avs := rfl
@[simp] theorem updSession_flash (n : Nat) (f : JrpSession → JrpSession) : (s.updSession n f).flash = s.flash := rfl
@[simp] theorem updSession_fuses (n : Nat) (f : JrpSession → JrpSession) : (s.updSession n f).fuses = s.fuses := rfl
@[simp] theorem updSession_rd (n : Nat) (f : JrpSession → JrpSession) (a : Nat) : (s.updSession n f).rd a = s.rd a := rfl
@[simp] theorem updSession_get (n : Nat) (f : JrpSession → JrpSession) (r : FRef) : (s.updSession n f).get r = s.get r := rfl

@[simp] theorem updRx_pending (n : Nat) (f : SdiRx → SdiRx) : (s.updRx n f).pending = s.pending := rfl
@[simp] theorem updRx_now (n : Nat) (f : SdiRx → SdiRx) : (s.updRx n f).now = s.now := rfl
@[simp] theorem updRx_freeCtr (n : Nat) (f : SdiRx → SdiRx) : (s.updRx n f).freeCtr = s.freeCtr := rfl
@[simp] theorem updRx_regs (n : Nat) (f : SdiRx → SdiRx) : (s.updRx n f).regs = s.regs := rfl
@[simp] theorem updRx_inUse (n : Nat) (f : SdiRx → SdiRx) : (s.updRx n f).inUse = s.inUse := rfl
@[simp] theorem updRx_landing (n : Nat) (f : SdiRx → SdiRx) : (s.updRx n f).landing = s.landing := rfl
@[simp] theorem updRx_wide (n : Nat) (f : SdiRx → SdiRx) : (s.updRx n f).wide = s.wide := rfl
@[simp] theorem updRx_restart (n : Nat) (f : SdiRx → SdiRx) : (s.updRx n f).restart = s.restart := rfl
@[simp] theorem updRx_lastRaise (n : Nat) (f : SdiRx → SdiRx) : (s.updRx n f).lastRaise = s.lastRaise := rfl
@[simp] theorem updRx_out (n : Nat) (f : SdiRx → SdiRx) : (s.updRx n f).out = s.out := rfl
@[simp] theorem updRx_mgt (n : Nat) (f : SdiRx → SdiRx) : (s.updRx n f).mgt = s.mgt := rfl
@[simp] theorem updRx_flt (n : Nat) (f : SdiRx → SdiRx) : (s.updRx n f).flt = s.flt := rfl
@[simp] theorem updRx_fab (n : Nat) (f : SdiRx → SdiRx) : (s.updRx n f).fab = s.fab := rfl
@[simp] theorem updRx_prov (n : Nat) (f : SdiRx → SdiRx) : (s.updRx n f).prov = s.prov := rfl
@[simp] theorem updRx_chn (n : Nat) (f : SdiRx → SdiRx) : (s.updRx n f).chn = s.chn := rfl
@[simp] theorem updRx_ipm (n : Nat) (f : SdiRx → SdiRx) : (s.updRx n f).ipm = s.ipm := rfl
@[simp] theorem updRx_aud (n : Nat) (f : SdiRx → SdiRx) : (s.updRx n f).aud = s.aud := rfl
@[simp] theorem updRx_cnv (n : Nat) (f : SdiRx → SdiRx) : (s.updRx n f).cnv = s.cnv := rfl
@[simp] theorem updRx_mica (n : Nat) (f : SdiRx → SdiRx) : (s.updRx n f).mica = s.mica := rfl
@[simp] theorem updRx_scan (n : Nat) (f : SdiRx → SdiRx) : (s.updRx n f).scan = s.scan := rfl
@[simp] theorem updRx_lanes (n : Nat) (f : SdiRx → SdiRx) : (s.updRx n f).lanes = s.lanes := rfl
@[simp] theorem updRx_eth (n : Nat) (f : SdiRx → SdiRx) : (s.updRx n f).eth = s.eth := rfl
@[simp] theorem updRx_time (n : Nat) (f : SdiRx → SdiRx) : (s.updRx n f).time = s.time := rfl
@[simp] theorem updRx_lode (n : Nat) (f : SdiRx → SdiRx) : (s.updRx n f).lode = s.lode := rfl
@[simp] theorem updRx_dram (n : Nat) (f : SdiRx → SdiRx) : (s.updRx n f).dram = s.dram := rfl
@[simp] theorem updRx_twin (n : Nat) (f : SdiRx → SdiRx) : (s.updRx n f).twin = s.twin := rfl
@[simp] theorem updRx_gbus (n : Nat) (f : SdiRx → SdiRx) : (s.updRx n f).gbus = s.gbus := rfl
@[simp] theorem updRx_jrp (n : Nat) (f : SdiRx → SdiRx) : (s.updRx n f).jrp = s.jrp := rfl
@[simp] theorem updRx_load (n : Nat) (f : SdiRx → SdiRx) : (s.updRx n f).load = s.load := rfl
@[simp] theorem updRx_key (n : Nat) (f : SdiRx → SdiRx) : (s.updRx n f).key = s.key := rfl
@[simp] theorem updRx_upd (n : Nat) (f : SdiRx → SdiRx) : (s.updRx n f).upd = s.upd := rfl
@[simp] theorem updRx_avs (n : Nat) (f : SdiRx → SdiRx) : (s.updRx n f).avs = s.avs := rfl
@[simp] theorem updRx_flash (n : Nat) (f : SdiRx → SdiRx) : (s.updRx n f).flash = s.flash := rfl
@[simp] theorem updRx_fuses (n : Nat) (f : SdiRx → SdiRx) : (s.updRx n f).fuses = s.fuses := rfl
@[simp] theorem updRx_rd (n : Nat) (f : SdiRx → SdiRx) (a : Nat) : (s.updRx n f).rd a = s.rd a := rfl
@[simp] theorem updRx_get (n : Nat) (f : SdiRx → SdiRx) (r : FRef) : (s.updRx n f).get r = s.get r := rfl

@[simp] theorem updIng_pending (n : Nat) (f : Ingress → Ingress) : (s.updIng n f).pending = s.pending := rfl
@[simp] theorem updIng_now (n : Nat) (f : Ingress → Ingress) : (s.updIng n f).now = s.now := rfl
@[simp] theorem updIng_freeCtr (n : Nat) (f : Ingress → Ingress) : (s.updIng n f).freeCtr = s.freeCtr := rfl
@[simp] theorem updIng_regs (n : Nat) (f : Ingress → Ingress) : (s.updIng n f).regs = s.regs := rfl
@[simp] theorem updIng_inUse (n : Nat) (f : Ingress → Ingress) : (s.updIng n f).inUse = s.inUse := rfl
@[simp] theorem updIng_landing (n : Nat) (f : Ingress → Ingress) : (s.updIng n f).landing = s.landing := rfl
@[simp] theorem updIng_wide (n : Nat) (f : Ingress → Ingress) : (s.updIng n f).wide = s.wide := rfl
@[simp] theorem updIng_restart (n : Nat) (f : Ingress → Ingress) : (s.updIng n f).restart = s.restart := rfl
@[simp] theorem updIng_lastRaise (n : Nat) (f : Ingress → Ingress) : (s.updIng n f).lastRaise = s.lastRaise := rfl
@[simp] theorem updIng_out (n : Nat) (f : Ingress → Ingress) : (s.updIng n f).out = s.out := rfl
@[simp] theorem updIng_mgt (n : Nat) (f : Ingress → Ingress) : (s.updIng n f).mgt = s.mgt := rfl
@[simp] theorem updIng_flt (n : Nat) (f : Ingress → Ingress) : (s.updIng n f).flt = s.flt := rfl
@[simp] theorem updIng_prov (n : Nat) (f : Ingress → Ingress) : (s.updIng n f).prov = s.prov := rfl
@[simp] theorem updIng_chn (n : Nat) (f : Ingress → Ingress) : (s.updIng n f).chn = s.chn := rfl
@[simp] theorem updIng_sdi (n : Nat) (f : Ingress → Ingress) : (s.updIng n f).sdi = s.sdi := rfl
@[simp] theorem updIng_ipm (n : Nat) (f : Ingress → Ingress) : (s.updIng n f).ipm = s.ipm := rfl
@[simp] theorem updIng_aud (n : Nat) (f : Ingress → Ingress) : (s.updIng n f).aud = s.aud := rfl
@[simp] theorem updIng_cnv (n : Nat) (f : Ingress → Ingress) : (s.updIng n f).cnv = s.cnv := rfl
@[simp] theorem updIng_mica (n : Nat) (f : Ingress → Ingress) : (s.updIng n f).mica = s.mica := rfl
@[simp] theorem updIng_scan (n : Nat) (f : Ingress → Ingress) : (s.updIng n f).scan = s.scan := rfl
@[simp] theorem updIng_lanes (n : Nat) (f : Ingress → Ingress) : (s.updIng n f).lanes = s.lanes := rfl
@[simp] theorem updIng_eth (n : Nat) (f : Ingress → Ingress) : (s.updIng n f).eth = s.eth := rfl
@[simp] theorem updIng_time (n : Nat) (f : Ingress → Ingress) : (s.updIng n f).time = s.time := rfl
@[simp] theorem updIng_lode (n : Nat) (f : Ingress → Ingress) : (s.updIng n f).lode = s.lode := rfl
@[simp] theorem updIng_dram (n : Nat) (f : Ingress → Ingress) : (s.updIng n f).dram = s.dram := rfl
@[simp] theorem updIng_twin (n : Nat) (f : Ingress → Ingress) : (s.updIng n f).twin = s.twin := rfl
@[simp] theorem updIng_gbus (n : Nat) (f : Ingress → Ingress) : (s.updIng n f).gbus = s.gbus := rfl
@[simp] theorem updIng_jrp (n : Nat) (f : Ingress → Ingress) : (s.updIng n f).jrp = s.jrp := rfl
@[simp] theorem updIng_load (n : Nat) (f : Ingress → Ingress) : (s.updIng n f).load = s.load := rfl
@[simp] theorem updIng_key (n : Nat) (f : Ingress → Ingress) : (s.updIng n f).key = s.key := rfl
@[simp] theorem updIng_upd (n : Nat) (f : Ingress → Ingress) : (s.updIng n f).upd = s.upd := rfl
@[simp] theorem updIng_avs (n : Nat) (f : Ingress → Ingress) : (s.updIng n f).avs = s.avs := rfl
@[simp] theorem updIng_flash (n : Nat) (f : Ingress → Ingress) : (s.updIng n f).flash = s.flash := rfl
@[simp] theorem updIng_fuses (n : Nat) (f : Ingress → Ingress) : (s.updIng n f).fuses = s.fuses := rfl
@[simp] theorem updIng_rd (n : Nat) (f : Ingress → Ingress) (a : Nat) : (s.updIng n f).rd a = s.rd a := rfl
@[simp] theorem updIng_get (n : Nat) (f : Ingress → Ingress) (r : FRef) : (s.updIng n f).get r = s.get r := rfl

@[simp] theorem updEgr_pending (n : Nat) (f : Egress → Egress) : (s.updEgr n f).pending = s.pending := rfl
@[simp] theorem updEgr_now (n : Nat) (f : Egress → Egress) : (s.updEgr n f).now = s.now := rfl
@[simp] theorem updEgr_freeCtr (n : Nat) (f : Egress → Egress) : (s.updEgr n f).freeCtr = s.freeCtr := rfl
@[simp] theorem updEgr_regs (n : Nat) (f : Egress → Egress) : (s.updEgr n f).regs = s.regs := rfl
@[simp] theorem updEgr_inUse (n : Nat) (f : Egress → Egress) : (s.updEgr n f).inUse = s.inUse := rfl
@[simp] theorem updEgr_landing (n : Nat) (f : Egress → Egress) : (s.updEgr n f).landing = s.landing := rfl
@[simp] theorem updEgr_wide (n : Nat) (f : Egress → Egress) : (s.updEgr n f).wide = s.wide := rfl
@[simp] theorem updEgr_restart (n : Nat) (f : Egress → Egress) : (s.updEgr n f).restart = s.restart := rfl
@[simp] theorem updEgr_lastRaise (n : Nat) (f : Egress → Egress) : (s.updEgr n f).lastRaise = s.lastRaise := rfl
@[simp] theorem updEgr_out (n : Nat) (f : Egress → Egress) : (s.updEgr n f).out = s.out := rfl
@[simp] theorem updEgr_mgt (n : Nat) (f : Egress → Egress) : (s.updEgr n f).mgt = s.mgt := rfl
@[simp] theorem updEgr_flt (n : Nat) (f : Egress → Egress) : (s.updEgr n f).flt = s.flt := rfl
@[simp] theorem updEgr_prov (n : Nat) (f : Egress → Egress) : (s.updEgr n f).prov = s.prov := rfl
@[simp] theorem updEgr_chn (n : Nat) (f : Egress → Egress) : (s.updEgr n f).chn = s.chn := rfl
@[simp] theorem updEgr_sdi (n : Nat) (f : Egress → Egress) : (s.updEgr n f).sdi = s.sdi := rfl
@[simp] theorem updEgr_ipm (n : Nat) (f : Egress → Egress) : (s.updEgr n f).ipm = s.ipm := rfl
@[simp] theorem updEgr_aud (n : Nat) (f : Egress → Egress) : (s.updEgr n f).aud = s.aud := rfl
@[simp] theorem updEgr_cnv (n : Nat) (f : Egress → Egress) : (s.updEgr n f).cnv = s.cnv := rfl
@[simp] theorem updEgr_mica (n : Nat) (f : Egress → Egress) : (s.updEgr n f).mica = s.mica := rfl
@[simp] theorem updEgr_scan (n : Nat) (f : Egress → Egress) : (s.updEgr n f).scan = s.scan := rfl
@[simp] theorem updEgr_lanes (n : Nat) (f : Egress → Egress) : (s.updEgr n f).lanes = s.lanes := rfl
@[simp] theorem updEgr_eth (n : Nat) (f : Egress → Egress) : (s.updEgr n f).eth = s.eth := rfl
@[simp] theorem updEgr_time (n : Nat) (f : Egress → Egress) : (s.updEgr n f).time = s.time := rfl
@[simp] theorem updEgr_lode (n : Nat) (f : Egress → Egress) : (s.updEgr n f).lode = s.lode := rfl
@[simp] theorem updEgr_dram (n : Nat) (f : Egress → Egress) : (s.updEgr n f).dram = s.dram := rfl
@[simp] theorem updEgr_twin (n : Nat) (f : Egress → Egress) : (s.updEgr n f).twin = s.twin := rfl
@[simp] theorem updEgr_gbus (n : Nat) (f : Egress → Egress) : (s.updEgr n f).gbus = s.gbus := rfl
@[simp] theorem updEgr_jrp (n : Nat) (f : Egress → Egress) : (s.updEgr n f).jrp = s.jrp := rfl
@[simp] theorem updEgr_load (n : Nat) (f : Egress → Egress) : (s.updEgr n f).load = s.load := rfl
@[simp] theorem updEgr_key (n : Nat) (f : Egress → Egress) : (s.updEgr n f).key = s.key := rfl
@[simp] theorem updEgr_upd (n : Nat) (f : Egress → Egress) : (s.updEgr n f).upd = s.upd := rfl
@[simp] theorem updEgr_avs (n : Nat) (f : Egress → Egress) : (s.updEgr n f).avs = s.avs := rfl
@[simp] theorem updEgr_flash (n : Nat) (f : Egress → Egress) : (s.updEgr n f).flash = s.flash := rfl
@[simp] theorem updEgr_fuses (n : Nat) (f : Egress → Egress) : (s.updEgr n f).fuses = s.fuses := rfl
@[simp] theorem updEgr_rd (n : Nat) (f : Egress → Egress) (a : Nat) : (s.updEgr n f).rd a = s.rd a := rfl
@[simp] theorem updEgr_get (n : Nat) (f : Egress → Egress) (r : FRef) : (s.updEgr n f).get r = s.get r := rfl

@[simp] theorem wr_pending (a : Nat) (w : Word) : (s.wr a w).pending = s.pending := rfl
@[simp] theorem wr_now (a : Nat) (w : Word) : (s.wr a w).now = s.now := rfl
@[simp] theorem wr_freeCtr (a : Nat) (w : Word) : (s.wr a w).freeCtr = s.freeCtr := rfl
@[simp] theorem wr_inUse (a : Nat) (w : Word) : (s.wr a w).inUse = s.inUse := rfl
@[simp] theorem wr_landing (a : Nat) (w : Word) : (s.wr a w).landing = s.landing := rfl
@[simp] theorem wr_wide (a : Nat) (w : Word) : (s.wr a w).wide = s.wide := rfl
@[simp] theorem wr_restart (a : Nat) (w : Word) : (s.wr a w).restart = s.restart := rfl
@[simp] theorem wr_lastRaise (a : Nat) (w : Word) : (s.wr a w).lastRaise = s.lastRaise := rfl
@[simp] theorem wr_out (a : Nat) (w : Word) : (s.wr a w).out = s.out := rfl
@[simp] theorem wr_mgt (a : Nat) (w : Word) : (s.wr a w).mgt = s.mgt := rfl
@[simp] theorem wr_flt (a : Nat) (w : Word) : (s.wr a w).flt = s.flt := rfl
@[simp] theorem wr_fab (a : Nat) (w : Word) : (s.wr a w).fab = s.fab := rfl
@[simp] theorem wr_prov (a : Nat) (w : Word) : (s.wr a w).prov = s.prov := rfl
@[simp] theorem wr_chn (a : Nat) (w : Word) : (s.wr a w).chn = s.chn := rfl
@[simp] theorem wr_sdi (a : Nat) (w : Word) : (s.wr a w).sdi = s.sdi := rfl
@[simp] theorem wr_ipm (a : Nat) (w : Word) : (s.wr a w).ipm = s.ipm := rfl
@[simp] theorem wr_aud (a : Nat) (w : Word) : (s.wr a w).aud = s.aud := rfl
@[simp] theorem wr_cnv (a : Nat) (w : Word) : (s.wr a w).cnv = s.cnv := rfl
@[simp] theorem wr_mica (a : Nat) (w : Word) : (s.wr a w).mica = s.mica := rfl
@[simp] theorem wr_scan (a : Nat) (w : Word) : (s.wr a w).scan = s.scan := rfl
@[simp] theorem wr_lanes (a : Nat) (w : Word) : (s.wr a w).lanes = s.lanes := rfl
@[simp] theorem wr_eth (a : Nat) (w : Word) : (s.wr a w).eth = s.eth := rfl
@[simp] theorem wr_time (a : Nat) (w : Word) : (s.wr a w).time = s.time := rfl
@[simp] theorem wr_lode (a : Nat) (w : Word) : (s.wr a w).lode = s.lode := rfl
@[simp] theorem wr_dram (a : Nat) (w : Word) : (s.wr a w).dram = s.dram := rfl
@[simp] theorem wr_twin (a : Nat) (w : Word) : (s.wr a w).twin = s.twin := rfl
@[simp] theorem wr_gbus (a : Nat) (w : Word) : (s.wr a w).gbus = s.gbus := rfl
@[simp] theorem wr_jrp (a : Nat) (w : Word) : (s.wr a w).jrp = s.jrp := rfl
@[simp] theorem wr_load (a : Nat) (w : Word) : (s.wr a w).load = s.load := rfl
@[simp] theorem wr_key (a : Nat) (w : Word) : (s.wr a w).key = s.key := rfl
@[simp] theorem wr_upd (a : Nat) (w : Word) : (s.wr a w).upd = s.upd := rfl
@[simp] theorem wr_avs (a : Nat) (w : Word) : (s.wr a w).avs = s.avs := rfl
@[simp] theorem wr_flash (a : Nat) (w : Word) : (s.wr a w).flash = s.flash := rfl
@[simp] theorem wr_fuses (a : Nat) (w : Word) : (s.wr a w).fuses = s.fuses := rfl

@[simp] theorem set_pending (r : FRef) (v : Nat) : (s.set r v).pending = s.pending := rfl
@[simp] theorem set_now (r : FRef) (v : Nat) : (s.set r v).now = s.now := rfl
@[simp] theorem set_freeCtr (r : FRef) (v : Nat) : (s.set r v).freeCtr = s.freeCtr := rfl
@[simp] theorem set_inUse (r : FRef) (v : Nat) : (s.set r v).inUse = s.inUse := rfl
@[simp] theorem set_landing (r : FRef) (v : Nat) : (s.set r v).landing = s.landing := rfl
@[simp] theorem set_wide (r : FRef) (v : Nat) : (s.set r v).wide = s.wide := rfl
@[simp] theorem set_restart (r : FRef) (v : Nat) : (s.set r v).restart = s.restart := rfl
@[simp] theorem set_lastRaise (r : FRef) (v : Nat) : (s.set r v).lastRaise = s.lastRaise := rfl
@[simp] theorem set_out (r : FRef) (v : Nat) : (s.set r v).out = s.out := rfl
@[simp] theorem set_mgt (r : FRef) (v : Nat) : (s.set r v).mgt = s.mgt := rfl
@[simp] theorem set_flt (r : FRef) (v : Nat) : (s.set r v).flt = s.flt := rfl
@[simp] theorem set_fab (r : FRef) (v : Nat) : (s.set r v).fab = s.fab := rfl
@[simp] theorem set_prov (r : FRef) (v : Nat) : (s.set r v).prov = s.prov := rfl
@[simp] theorem set_chn (r : FRef) (v : Nat) : (s.set r v).chn = s.chn := rfl
@[simp] theorem set_sdi (r : FRef) (v : Nat) : (s.set r v).sdi = s.sdi := rfl
@[simp] theorem set_ipm (r : FRef) (v : Nat) : (s.set r v).ipm = s.ipm := rfl
@[simp] theorem set_aud (r : FRef) (v : Nat) : (s.set r v).aud = s.aud := rfl
@[simp] theorem set_cnv (r : FRef) (v : Nat) : (s.set r v).cnv = s.cnv := rfl
@[simp] theorem set_mica (r : FRef) (v : Nat) : (s.set r v).mica = s.mica := rfl
@[simp] theorem set_scan (r : FRef) (v : Nat) : (s.set r v).scan = s.scan := rfl
@[simp] theorem set_lanes (r : FRef) (v : Nat) : (s.set r v).lanes = s.lanes := rfl
@[simp] theorem set_eth (r : FRef) (v : Nat) : (s.set r v).eth = s.eth := rfl
@[simp] theorem set_time (r : FRef) (v : Nat) : (s.set r v).time = s.time := rfl
@[simp] theorem set_lode (r : FRef) (v : Nat) : (s.set r v).lode = s.lode := rfl
@[simp] theorem set_dram (r : FRef) (v : Nat) : (s.set r v).dram = s.dram := rfl
@[simp] theorem set_twin (r : FRef) (v : Nat) : (s.set r v).twin = s.twin := rfl
@[simp] theorem set_gbus (r : FRef) (v : Nat) : (s.set r v).gbus = s.gbus := rfl
@[simp] theorem set_jrp (r : FRef) (v : Nat) : (s.set r v).jrp = s.jrp := rfl
@[simp] theorem set_load (r : FRef) (v : Nat) : (s.set r v).load = s.load := rfl
@[simp] theorem set_key (r : FRef) (v : Nat) : (s.set r v).key = s.key := rfl
@[simp] theorem set_upd (r : FRef) (v : Nat) : (s.set r v).upd = s.upd := rfl
@[simp] theorem set_avs (r : FRef) (v : Nat) : (s.set r v).avs = s.avs := rfl
@[simp] theorem set_flash (r : FRef) (v : Nat) : (s.set r v).flash = s.flash := rfl
@[simp] theorem set_fuses (r : FRef) (v : Nat) : (s.set r v).fuses = s.fuses := rfl

@[simp] theorem setB_pending (r : FRef) (b : Bool) : (s.setB r b).pending = s.pending := rfl
@[simp] theorem setB_now (r : FRef) (b : Bool) : (s.setB r b).now = s.now := rfl
@[simp] theorem setB_freeCtr (r : FRef) (b : Bool) : (s.setB r b).freeCtr = s.freeCtr := rfl
@[simp] theorem setB_inUse (r : FRef) (b : Bool) : (s.setB r b).inUse = s.inUse := rfl
@[simp] theorem setB_landing (r : FRef) (b : Bool) : (s.setB r b).landing = s.landing := rfl
@[simp] theorem setB_wide (r : FRef) (b : Bool) : (s.setB r b).wide = s.wide := rfl
@[simp] theorem setB_restart (r : FRef) (b : Bool) : (s.setB r b).restart = s.restart := rfl
@[simp] theorem setB_lastRaise (r : FRef) (b : Bool) : (s.setB r b).lastRaise = s.lastRaise := rfl
@[simp] theorem setB_out (r : FRef) (b : Bool) : (s.setB r b).out = s.out := rfl
@[simp] theorem setB_mgt (r : FRef) (b : Bool) : (s.setB r b).mgt = s.mgt := rfl
@[simp] theorem setB_flt (r : FRef) (b : Bool) : (s.setB r b).flt = s.flt := rfl
@[simp] theorem setB_fab (r : FRef) (b : Bool) : (s.setB r b).fab = s.fab := rfl
@[simp] theorem setB_prov (r : FRef) (b : Bool) : (s.setB r b).prov = s.prov := rfl
@[simp] theorem setB_chn (r : FRef) (b : Bool) : (s.setB r b).chn = s.chn := rfl
@[simp] theorem setB_sdi (r : FRef) (b : Bool) : (s.setB r b).sdi = s.sdi := rfl
@[simp] theorem setB_ipm (r : FRef) (b : Bool) : (s.setB r b).ipm = s.ipm := rfl
@[simp] theorem setB_aud (r : FRef) (b : Bool) : (s.setB r b).aud = s.aud := rfl
@[simp] theorem setB_cnv (r : FRef) (b : Bool) : (s.setB r b).cnv = s.cnv := rfl
@[simp] theorem setB_mica (r : FRef) (b : Bool) : (s.setB r b).mica = s.mica := rfl
@[simp] theorem setB_scan (r : FRef) (b : Bool) : (s.setB r b).scan = s.scan := rfl
@[simp] theorem setB_lanes (r : FRef) (b : Bool) : (s.setB r b).lanes = s.lanes := rfl
@[simp] theorem setB_eth (r : FRef) (b : Bool) : (s.setB r b).eth = s.eth := rfl
@[simp] theorem setB_time (r : FRef) (b : Bool) : (s.setB r b).time = s.time := rfl
@[simp] theorem setB_lode (r : FRef) (b : Bool) : (s.setB r b).lode = s.lode := rfl
@[simp] theorem setB_dram (r : FRef) (b : Bool) : (s.setB r b).dram = s.dram := rfl
@[simp] theorem setB_twin (r : FRef) (b : Bool) : (s.setB r b).twin = s.twin := rfl
@[simp] theorem setB_gbus (r : FRef) (b : Bool) : (s.setB r b).gbus = s.gbus := rfl
@[simp] theorem setB_jrp (r : FRef) (b : Bool) : (s.setB r b).jrp = s.jrp := rfl
@[simp] theorem setB_load (r : FRef) (b : Bool) : (s.setB r b).load = s.load := rfl
@[simp] theorem setB_key (r : FRef) (b : Bool) : (s.setB r b).key = s.key := rfl
@[simp] theorem setB_upd (r : FRef) (b : Bool) : (s.setB r b).upd = s.upd := rfl
@[simp] theorem setB_avs (r : FRef) (b : Bool) : (s.setB r b).avs = s.avs := rfl
@[simp] theorem setB_flash (r : FRef) (b : Bool) : (s.setB r b).flash = s.flash := rfl
@[simp] theorem setB_fuses (r : FRef) (b : Bool) : (s.setB r b).fuses = s.fuses := rfl

@[simp] theorem bump_pending (r : FRef) (n : Nat) : (s.bump r n).pending = s.pending := rfl
@[simp] theorem bump_now (r : FRef) (n : Nat) : (s.bump r n).now = s.now := rfl
@[simp] theorem bump_freeCtr (r : FRef) (n : Nat) : (s.bump r n).freeCtr = s.freeCtr := rfl
@[simp] theorem bump_inUse (r : FRef) (n : Nat) : (s.bump r n).inUse = s.inUse := rfl
@[simp] theorem bump_landing (r : FRef) (n : Nat) : (s.bump r n).landing = s.landing := rfl
@[simp] theorem bump_wide (r : FRef) (n : Nat) : (s.bump r n).wide = s.wide := rfl
@[simp] theorem bump_restart (r : FRef) (n : Nat) : (s.bump r n).restart = s.restart := rfl
@[simp] theorem bump_lastRaise (r : FRef) (n : Nat) : (s.bump r n).lastRaise = s.lastRaise := rfl
@[simp] theorem bump_out (r : FRef) (n : Nat) : (s.bump r n).out = s.out := rfl
@[simp] theorem bump_mgt (r : FRef) (n : Nat) : (s.bump r n).mgt = s.mgt := rfl
@[simp] theorem bump_flt (r : FRef) (n : Nat) : (s.bump r n).flt = s.flt := rfl
@[simp] theorem bump_fab (r : FRef) (n : Nat) : (s.bump r n).fab = s.fab := rfl
@[simp] theorem bump_prov (r : FRef) (n : Nat) : (s.bump r n).prov = s.prov := rfl
@[simp] theorem bump_chn (r : FRef) (n : Nat) : (s.bump r n).chn = s.chn := rfl
@[simp] theorem bump_sdi (r : FRef) (n : Nat) : (s.bump r n).sdi = s.sdi := rfl
@[simp] theorem bump_ipm (r : FRef) (n : Nat) : (s.bump r n).ipm = s.ipm := rfl
@[simp] theorem bump_aud (r : FRef) (n : Nat) : (s.bump r n).aud = s.aud := rfl
@[simp] theorem bump_cnv (r : FRef) (n : Nat) : (s.bump r n).cnv = s.cnv := rfl
@[simp] theorem bump_mica (r : FRef) (n : Nat) : (s.bump r n).mica = s.mica := rfl
@[simp] theorem bump_scan (r : FRef) (n : Nat) : (s.bump r n).scan = s.scan := rfl
@[simp] theorem bump_lanes (r : FRef) (n : Nat) : (s.bump r n).lanes = s.lanes := rfl
@[simp] theorem bump_eth (r : FRef) (n : Nat) : (s.bump r n).eth = s.eth := rfl
@[simp] theorem bump_time (r : FRef) (n : Nat) : (s.bump r n).time = s.time := rfl
@[simp] theorem bump_lode (r : FRef) (n : Nat) : (s.bump r n).lode = s.lode := rfl
@[simp] theorem bump_dram (r : FRef) (n : Nat) : (s.bump r n).dram = s.dram := rfl
@[simp] theorem bump_twin (r : FRef) (n : Nat) : (s.bump r n).twin = s.twin := rfl
@[simp] theorem bump_gbus (r : FRef) (n : Nat) : (s.bump r n).gbus = s.gbus := rfl
@[simp] theorem bump_jrp (r : FRef) (n : Nat) : (s.bump r n).jrp = s.jrp := rfl
@[simp] theorem bump_load (r : FRef) (n : Nat) : (s.bump r n).load = s.load := rfl
@[simp] theorem bump_key (r : FRef) (n : Nat) : (s.bump r n).key = s.key := rfl
@[simp] theorem bump_upd (r : FRef) (n : Nat) : (s.bump r n).upd = s.upd := rfl
@[simp] theorem bump_avs (r : FRef) (n : Nat) : (s.bump r n).avs = s.avs := rfl
@[simp] theorem bump_flash (r : FRef) (n : Nat) : (s.bump r n).flash = s.flash := rfl
@[simp] theorem bump_fuses (r : FRef) (n : Nat) : (s.bump r n).fuses = s.fuses := rfl

@[simp] theorem bumpSat_pending (r : FRef) (n : Nat) : (s.bumpSat r n).pending = s.pending := rfl
@[simp] theorem bumpSat_now (r : FRef) (n : Nat) : (s.bumpSat r n).now = s.now := rfl
@[simp] theorem bumpSat_freeCtr (r : FRef) (n : Nat) : (s.bumpSat r n).freeCtr = s.freeCtr := rfl
@[simp] theorem bumpSat_inUse (r : FRef) (n : Nat) : (s.bumpSat r n).inUse = s.inUse := rfl
@[simp] theorem bumpSat_landing (r : FRef) (n : Nat) : (s.bumpSat r n).landing = s.landing := rfl
@[simp] theorem bumpSat_wide (r : FRef) (n : Nat) : (s.bumpSat r n).wide = s.wide := rfl
@[simp] theorem bumpSat_restart (r : FRef) (n : Nat) : (s.bumpSat r n).restart = s.restart := rfl
@[simp] theorem bumpSat_lastRaise (r : FRef) (n : Nat) : (s.bumpSat r n).lastRaise = s.lastRaise := rfl
@[simp] theorem bumpSat_out (r : FRef) (n : Nat) : (s.bumpSat r n).out = s.out := rfl
@[simp] theorem bumpSat_mgt (r : FRef) (n : Nat) : (s.bumpSat r n).mgt = s.mgt := rfl
@[simp] theorem bumpSat_flt (r : FRef) (n : Nat) : (s.bumpSat r n).flt = s.flt := rfl
@[simp] theorem bumpSat_fab (r : FRef) (n : Nat) : (s.bumpSat r n).fab = s.fab := rfl
@[simp] theorem bumpSat_prov (r : FRef) (n : Nat) : (s.bumpSat r n).prov = s.prov := rfl
@[simp] theorem bumpSat_chn (r : FRef) (n : Nat) : (s.bumpSat r n).chn = s.chn := rfl
@[simp] theorem bumpSat_sdi (r : FRef) (n : Nat) : (s.bumpSat r n).sdi = s.sdi := rfl
@[simp] theorem bumpSat_ipm (r : FRef) (n : Nat) : (s.bumpSat r n).ipm = s.ipm := rfl
@[simp] theorem bumpSat_aud (r : FRef) (n : Nat) : (s.bumpSat r n).aud = s.aud := rfl
@[simp] theorem bumpSat_cnv (r : FRef) (n : Nat) : (s.bumpSat r n).cnv = s.cnv := rfl
@[simp] theorem bumpSat_mica (r : FRef) (n : Nat) : (s.bumpSat r n).mica = s.mica := rfl
@[simp] theorem bumpSat_scan (r : FRef) (n : Nat) : (s.bumpSat r n).scan = s.scan := rfl
@[simp] theorem bumpSat_lanes (r : FRef) (n : Nat) : (s.bumpSat r n).lanes = s.lanes := rfl
@[simp] theorem bumpSat_eth (r : FRef) (n : Nat) : (s.bumpSat r n).eth = s.eth := rfl
@[simp] theorem bumpSat_time (r : FRef) (n : Nat) : (s.bumpSat r n).time = s.time := rfl
@[simp] theorem bumpSat_lode (r : FRef) (n : Nat) : (s.bumpSat r n).lode = s.lode := rfl
@[simp] theorem bumpSat_dram (r : FRef) (n : Nat) : (s.bumpSat r n).dram = s.dram := rfl
@[simp] theorem bumpSat_twin (r : FRef) (n : Nat) : (s.bumpSat r n).twin = s.twin := rfl
@[simp] theorem bumpSat_gbus (r : FRef) (n : Nat) : (s.bumpSat r n).gbus = s.gbus := rfl
@[simp] theorem bumpSat_jrp (r : FRef) (n : Nat) : (s.bumpSat r n).jrp = s.jrp := rfl
@[simp] theorem bumpSat_load (r : FRef) (n : Nat) : (s.bumpSat r n).load = s.load := rfl
@[simp] theorem bumpSat_key (r : FRef) (n : Nat) : (s.bumpSat r n).key = s.key := rfl
@[simp] theorem bumpSat_upd (r : FRef) (n : Nat) : (s.bumpSat r n).upd = s.upd := rfl
@[simp] theorem bumpSat_avs (r : FRef) (n : Nat) : (s.bumpSat r n).avs = s.avs := rfl
@[simp] theorem bumpSat_flash (r : FRef) (n : Nat) : (s.bumpSat r n).flash = s.flash := rfl
@[simp] theorem bumpSat_fuses (r : FRef) (n : Nat) : (s.bumpSat r n).fuses = s.fuses := rfl

@[simp] theorem orBit_pending (r : FRef) (i : Nat) : (s.orBit r i).pending = s.pending := rfl
@[simp] theorem orBit_now (r : FRef) (i : Nat) : (s.orBit r i).now = s.now := rfl
@[simp] theorem orBit_freeCtr (r : FRef) (i : Nat) : (s.orBit r i).freeCtr = s.freeCtr := rfl
@[simp] theorem orBit_inUse (r : FRef) (i : Nat) : (s.orBit r i).inUse = s.inUse := rfl
@[simp] theorem orBit_landing (r : FRef) (i : Nat) : (s.orBit r i).landing = s.landing := rfl
@[simp] theorem orBit_wide (r : FRef) (i : Nat) : (s.orBit r i).wide = s.wide := rfl
@[simp] theorem orBit_restart (r : FRef) (i : Nat) : (s.orBit r i).restart = s.restart := rfl
@[simp] theorem orBit_lastRaise (r : FRef) (i : Nat) : (s.orBit r i).lastRaise = s.lastRaise := rfl
@[simp] theorem orBit_out (r : FRef) (i : Nat) : (s.orBit r i).out = s.out := rfl
@[simp] theorem orBit_mgt (r : FRef) (i : Nat) : (s.orBit r i).mgt = s.mgt := rfl
@[simp] theorem orBit_flt (r : FRef) (i : Nat) : (s.orBit r i).flt = s.flt := rfl
@[simp] theorem orBit_fab (r : FRef) (i : Nat) : (s.orBit r i).fab = s.fab := rfl
@[simp] theorem orBit_prov (r : FRef) (i : Nat) : (s.orBit r i).prov = s.prov := rfl
@[simp] theorem orBit_chn (r : FRef) (i : Nat) : (s.orBit r i).chn = s.chn := rfl
@[simp] theorem orBit_sdi (r : FRef) (i : Nat) : (s.orBit r i).sdi = s.sdi := rfl
@[simp] theorem orBit_ipm (r : FRef) (i : Nat) : (s.orBit r i).ipm = s.ipm := rfl
@[simp] theorem orBit_aud (r : FRef) (i : Nat) : (s.orBit r i).aud = s.aud := rfl
@[simp] theorem orBit_cnv (r : FRef) (i : Nat) : (s.orBit r i).cnv = s.cnv := rfl
@[simp] theorem orBit_mica (r : FRef) (i : Nat) : (s.orBit r i).mica = s.mica := rfl
@[simp] theorem orBit_scan (r : FRef) (i : Nat) : (s.orBit r i).scan = s.scan := rfl
@[simp] theorem orBit_lanes (r : FRef) (i : Nat) : (s.orBit r i).lanes = s.lanes := rfl
@[simp] theorem orBit_eth (r : FRef) (i : Nat) : (s.orBit r i).eth = s.eth := rfl
@[simp] theorem orBit_time (r : FRef) (i : Nat) : (s.orBit r i).time = s.time := rfl
@[simp] theorem orBit_lode (r : FRef) (i : Nat) : (s.orBit r i).lode = s.lode := rfl
@[simp] theorem orBit_dram (r : FRef) (i : Nat) : (s.orBit r i).dram = s.dram := rfl
@[simp] theorem orBit_twin (r : FRef) (i : Nat) : (s.orBit r i).twin = s.twin := rfl
@[simp] theorem orBit_gbus (r : FRef) (i : Nat) : (s.orBit r i).gbus = s.gbus := rfl
@[simp] theorem orBit_jrp (r : FRef) (i : Nat) : (s.orBit r i).jrp = s.jrp := rfl
@[simp] theorem orBit_load (r : FRef) (i : Nat) : (s.orBit r i).load = s.load := rfl
@[simp] theorem orBit_key (r : FRef) (i : Nat) : (s.orBit r i).key = s.key := rfl
@[simp] theorem orBit_upd (r : FRef) (i : Nat) : (s.orBit r i).upd = s.upd := rfl
@[simp] theorem orBit_avs (r : FRef) (i : Nat) : (s.orBit r i).avs = s.avs := rfl
@[simp] theorem orBit_flash (r : FRef) (i : Nat) : (s.orBit r i).flash = s.flash := rfl
@[simp] theorem orBit_fuses (r : FRef) (i : Nat) : (s.orBit r i).fuses = s.fuses := rfl

@[simp] theorem emit_pending (o : Output) : (s.emit o).pending = s.pending := rfl
@[simp] theorem emit_now (o : Output) : (s.emit o).now = s.now := rfl
@[simp] theorem emit_freeCtr (o : Output) : (s.emit o).freeCtr = s.freeCtr := rfl
@[simp] theorem emit_regs (o : Output) : (s.emit o).regs = s.regs := rfl
@[simp] theorem emit_inUse (o : Output) : (s.emit o).inUse = s.inUse := rfl
@[simp] theorem emit_landing (o : Output) : (s.emit o).landing = s.landing := rfl
@[simp] theorem emit_wide (o : Output) : (s.emit o).wide = s.wide := rfl
@[simp] theorem emit_restart (o : Output) : (s.emit o).restart = s.restart := rfl
@[simp] theorem emit_lastRaise (o : Output) : (s.emit o).lastRaise = s.lastRaise := rfl
@[simp] theorem emit_out (o : Output) : (s.emit o).out = o :: s.out := rfl
@[simp] theorem emit_mgt (o : Output) : (s.emit o).mgt = s.mgt := rfl
@[simp] theorem emit_flt (o : Output) : (s.emit o).flt = s.flt := rfl
@[simp] theorem emit_fab (o : Output) : (s.emit o).fab = s.fab := rfl
@[simp] theorem emit_prov (o : Output) : (s.emit o).prov = s.prov := rfl
@[simp] theorem emit_chn (o : Output) : (s.emit o).chn = s.chn := rfl
@[simp] theorem emit_sdi (o : Output) : (s.emit o).sdi = s.sdi := rfl
@[simp] theorem emit_ipm (o : Output) : (s.emit o).ipm = s.ipm := rfl
@[simp] theorem emit_aud (o : Output) : (s.emit o).aud = s.aud := rfl
@[simp] theorem emit_cnv (o : Output) : (s.emit o).cnv = s.cnv := rfl
@[simp] theorem emit_mica (o : Output) : (s.emit o).mica = s.mica := rfl
@[simp] theorem emit_scan (o : Output) : (s.emit o).scan = s.scan := rfl
@[simp] theorem emit_lanes (o : Output) : (s.emit o).lanes = s.lanes := rfl
@[simp] theorem emit_eth (o : Output) : (s.emit o).eth = s.eth := rfl
@[simp] theorem emit_time (o : Output) : (s.emit o).time = s.time := rfl
@[simp] theorem emit_lode (o : Output) : (s.emit o).lode = s.lode := rfl
@[simp] theorem emit_dram (o : Output) : (s.emit o).dram = s.dram := rfl
@[simp] theorem emit_twin (o : Output) : (s.emit o).twin = s.twin := rfl
@[simp] theorem emit_gbus (o : Output) : (s.emit o).gbus = s.gbus := rfl
@[simp] theorem emit_jrp (o : Output) : (s.emit o).jrp = s.jrp := rfl
@[simp] theorem emit_load (o : Output) : (s.emit o).load = s.load := rfl
@[simp] theorem emit_key (o : Output) : (s.emit o).key = s.key := rfl
@[simp] theorem emit_upd (o : Output) : (s.emit o).upd = s.upd := rfl
@[simp] theorem emit_avs (o : Output) : (s.emit o).avs = s.avs := rfl
@[simp] theorem emit_flash (o : Output) : (s.emit o).flash = s.flash := rfl
@[simp] theorem emit_fuses (o : Output) : (s.emit o).fuses = s.fuses := rfl

end Sys2Proof.Machine.State
end

