-- ==== Sys2Proof/Tests/Slice0.lean ====
section
/-! SUPPORT. Tests: for every statement a state and operands that meet its hypotheses, for most one effect on a small state, and
for the checks of `Instr.wf` terms that they refuse. The expected values are those of the rules the statements rest on. -/

set_option Elab.async false

open Sys2Proof Sys2Proof.Machine

/-- The register, and its block, at an address of the register map. -/
def Tests.regOf (a : Nat) : RegDef := match RegMap.find a with | some (_, r, _, _) => r | none => ⟨"", 0, [], []⟩
def Tests.blkOf (a : Nat) : Blk := match RegMap.find a with | some (b, _, _, _) => b | none => ⟨.cfg, 0⟩
def Tests.regBlk (a : Nat) : Blk := match Blk.ofAddr a with | some (b, _) => b | none => ⟨.cfg, 0⟩

/-- An outcome is a next state of which a test holds. -/
def Tests.nextIs (o : Host.Outcome State Fault Refusal) (p : State → Bool) : Bool :=
  match o with
  | .next t => p t
  | .fault _ => false
  | .refused _ => false

/-- In a full schedule no slot is free. -/
theorem Tests.find_full (n : Nat) (x : SchedTake) (q : List (Nat × SchedTake)) (e : q = (List.range n).map fun k => (k, x)) :
    (List.range n).find? (fun j => Assoc.find q j == none) = none := by
  have found : ∀ (l : List Nat) (j : Nat), j ∈ l → Assoc.find (l.map fun k => (k, x)) j ≠ none := by
    intro l
    induction l with
    | nil => simp
    | cons a l ih =>
      intro j hj
      rcases List.mem_cons.1 hj with rfl | hj
      · simp [Assoc.find]
      · by_cases e : a = j
        · simp [Assoc.find, e]
        · simpa [Assoc.find, e] using ih j hj
  subst e
  simp only [List.find?_eq_none, beq_iff_eq]
  exact fun j hj => found _ j hj

/-- 40 % of a UI at 6400 MT/s is 62.5 ps. -/
theorem Tests.trackLimit_6400 (s : State) (h : s.dramCfgRate = 6400) : 62 ≤ s.trackLimit ∧ s.trackLimit ≤ 63 := by
  unfold State.trackLimit divFree
  rw [h]
  cases Config.roundUp 443 400000 (6400 : Nat) <;> decide

/-- The CRC of an empty region. -/
theorem Tests.regionCrc_none {fmt x y w h : Nat} {pic : List Pix} (e : w = 0) : regionCrc fmt x y w h pic = crc32Words [] := by
  subst e
  unfold regionCrc
  rw [List.filter_eq_nil_iff.2]
  · rfl
  · intro p _; simp

/-- A command is well-formed and answers a next state from reset. -/
def Tests.runs (c : Instr) : Bool := c.wf && Tests.nextIs (exec c State.reset) fun _ => true

/-- States and operands that meet the hypotheses of each clause of `Obligations.StepCarriesOutTheFrontCommand`. -/
theorem witness_step_carries_out_the_front_command :
(∃ t, step { State.reset with pending := [.wdog, .presence] } = .next t ∧ t.pending = [.presence]) ∧
(State.reset.pending = []) :=
  ⟨⟨_, rfl, by decide +kernel⟩,
  by decide +kernel⟩

/-- States and operands that meet the hypotheses of each clause of `Obligations.ResetLeavesTheTableValues`. -/
theorem witness_reset_leaves_the_table_values :
State.reset.get Reg.MGT.WDCFG_TIMEOUT = 50 :=
  by decide +kernel

/-- States and operands that meet the hypotheses of each clause of `Obligations.MisalignedAccessIsNotPerformed`. -/
theorem witness_misaligned_access_is_not_performed :
(∃ (s : State) (m addr size : Nat) (b : Blk), Quiet m s ∧ s.place addr = .block b ∧ (size ≠ 4 ∨ addr % 4 ≠ 0)) ∧
(∃ (s : State) (m addr : Nat) (b : Blk), Quiet m s ∧ s.place addr = .block b ∧ addr % 4 ≠ 0) ∧
(State.reset.place 0x11000001 = .block ⟨.flt, 0⟩ ∧ ((4 : Nat) ≠ 4 ∨ 0x11000001 % 4 ≠ 0)) :=
  ⟨⟨State.reset, 0, 0x10000012, 4, ⟨.cfg, 0⟩, by decide +kernel⟩,
  ⟨State.reset, 3, 0x11000001, ⟨.flt, 0⟩, by decide +kernel⟩,
  by decide +kernel⟩

/-- States and operands that meet the hypotheses of each clause of `Obligations.UnmappedAccessChangesNothing`. -/
theorem witness_unmapped_access_changes_nothing :
(∃ (s : State) (m addr : Nat), Quiet m s ∧ s.place addr = .nowhere) ∧
(∃ (s : State) (m addr : Nat), Quiet m s ∧ s.place addr = .nowhere) ∧
(∃ (s : State) (m addr : Nat) (b : Blk), Quiet m s ∧ s.place addr = .block b ∧ addr % 4 = 0 ∧ RegMap.find addr = none) ∧
(State.reset.place 0x0F000000 = .nowhere) :=
  ⟨⟨State.reset, 6, 0x0F000000, by decide +kernel⟩,
  ⟨State.reset, 6, 0x0F000000, by decide +kernel⟩,
  ⟨State.reset, 1, 0x1000FFFC, ⟨.cfg, 0⟩, by decide +kernel⟩,
  by decide +kernel⟩

/-- States and operands that meet the hypotheses of each clause of `Obligations.AcceptedWriteWaits`. -/
theorem witness_accepted_write_waits :
(∃ (s : State) (m addr : Nat) (b : Blk) (r : RegDef) (i j : Nat), Quiet m s ∧ s.armed m = false ∧ m ≠ 6 ∧ RegMap.find addr
      = some (b, r, i, j) ∧ s.place addr = .block b ∧ addr % 4 = 0 ∧ b.busSide = false ∧ r.off ≠ 0 ∧ ((r.flds.all fun f =>
      f.acc != .rwd && f.acc != .rwl) = true) ∧ (b.kind = .time → s.get b.en = 1) ∧ (b.kind = .time → r.off ≠ 0x34)) ∧
(∃ (s : State) (blk : Nat) (b : Blk) (l : Landing) (r : RegDef) (i j : Nat) (f : Fld), Blk.ofBase blk = some b ∧
      (s.landing.find? (fun x => b.has x.addr && !s.waitsForClock b x) = some l) ∧ RegMap.find l.addr = some (b, r, i, j)
      ∧ l.rxRest = false ∧ l.rise = false ∧ l.fall = false ∧ l.srst = false ∧ s.landSpecial l.m b r.off i l.data = none ∧
      b.kind ≠ .lode ∧ b.kind ≠ .lane ∧ r.off ≠ 4 ∧ f ∈ r.flds) ∧
(∃ (s : State) (blk : Nat) (b : Blk) (l : Landing) (r : RegDef) (i j : Nat) (f : Fld), Blk.ofBase blk = some b ∧
      (s.landing.find? (fun x => b.has x.addr && !s.waitsForClock b x) = some l) ∧ RegMap.find l.addr = some (b, r, i, j)
      ∧ l.rxRest = false ∧ l.rise = false ∧ l.fall = false ∧ l.srst = false ∧ s.landSpecial l.m b r.off i l.data = none ∧
      (b.kind = .lode ∨ b.kind = .lane) ∧ r.off ≠ 0 ∧ r.off ≠ 4 ∧ f ∈ r.flds ∧ f.acc = .rw) ∧
(∃ (s u : State) (blk : Nat) (b : Blk) (l : Landing) (r : RegDef) (i j : Nat), Blk.ofBase blk = some b ∧ (s.landing.find?
      (fun x => b.has x.addr && !s.waitsForClock b x) = some l) ∧ RegMap.find l.addr = some (b, r, i, j) ∧ l.rxRest =
      false ∧ l.rise = false ∧ l.fall = false ∧ l.srst = false ∧ ({ s with landing := s.landing.erase l } :
      State).landSpecial l.m b r.off i l.data = some u) ∧
(∃ (s : State) (blk : Nat) (b : Blk) (l : Landing) (r : RegDef) (i j : Nat), Blk.ofBase blk = some b ∧ (s.landing.find?
      (fun x => b.has x.addr && !s.waitsForClock b x) = some l) ∧ RegMap.find l.addr = some (b, r, i, j) ∧ l.rxRest =
      false ∧ r.off = 0 ∧ l.srst = false) ∧
(∃ (s : State) (blk : Nat) (b : Blk) (l : Landing) (r : RegDef) (i j : Nat), Blk.ofBase blk = some b ∧ (s.landing.find?
      (fun x => b.has x.addr && !s.waitsForClock b x) = some l) ∧ RegMap.find l.addr = some (b, r, i, j) ∧ l.rxRest =
      false ∧ r.off = 0 ∧ l.srst = true ∧ l.rise = false ∧ l.fall = false) ∧
(∃ (s : State) (blk : Nat) (b : Blk) (l : Landing), Blk.ofBase blk = some b ∧ (s.landing.find? (fun x => b.has x.addr &&
      !s.waitsForClock b x) = some l) ∧ l.rxRest = true) ∧
(∃ (s : State) (blk : Nat) (b : Blk), Blk.ofBase blk = some b ∧ (s.landing.find? (fun x => b.has x.addr &&
      !s.waitsForClock b x) = none)) :=
  ⟨⟨State.reset, 2, 0x15000014, Tests.blkOf 0x15000014, Tests.regOf 0x15000014, 0, 0, by decide +kernel⟩,
  ⟨({ State.reset with landing := [⟨2, 0x180000C0, 0x55, false, false, false, [], false⟩] }), 0x18000000, ⟨.sdi, 0⟩, ⟨2,
      0x180000C0, 0x55, false, false, false, [], false⟩, Tests.regOf 0x180000C0, 0, 0, (Tests.regOf 0x180000C0).flds.headD
      ⟨0,0,.rw,.val 0⟩, by decide +kernel⟩,
  ⟨({ State.reset with landing := [⟨2, 0x13000010, 0x5, false, false, false, [], false⟩] }), (Tests.regBlk 0x13000010).base,
      Tests.regBlk 0x13000010, ⟨2, 0x13000010, 0x5, false, false, false, [], false⟩, Tests.regOf 0x13000010, 0, 0,
      ((Tests.regOf 0x13000010).flds.find? fun x => x.acc == .rw).getD ⟨0,0,.rw,.val 0⟩, by decide +kernel⟩,
  ⟨({ State.reset with landing := [⟨2, 0x15000014, 9, false, false, false, [], false⟩] }),
      (({ State.reset with landing := [] } : State).lowmarkLand 9), 0x15000000, ⟨.chn, 0⟩, ⟨2, 0x15000014, 9, false,
      false, false, [], false⟩, Tests.regOf 0x15000014, 0, 0, by decide +kernel⟩,
  ⟨({ State.reset with landing := [⟨2, 0x15000000, 1, true, false, false, [], false⟩] }), 0x15000000, ⟨.chn, 0⟩, ⟨2,
      0x15000000, 1, true, false, false, [], false⟩, Tests.regOf 0x15000000, 0, 0, by decide +kernel⟩,
  ⟨({ State.reset with landing := [⟨2, 0x15000000, 2, false, false, true, [], false⟩] }), 0x15000000, ⟨.chn, 0⟩, ⟨2,
      0x15000000, 2, false, false, true, [], false⟩, Tests.regOf 0x15000000, 0, 0, by decide +kernel⟩,
  ⟨(({ State.reset with landing := [⟨2, 0x18000000, 2, false, false, true, [], true⟩] } : State).set (Reg.QUAD.STAT_RUN 0)
      1), 0x18000000, ⟨.sdi, 0⟩, ⟨2, 0x18000000, 2, false, false, true, [], true⟩, by decide +kernel⟩,
  ⟨({ State.reset with landing := [⟨2, 0x180000F0, 0x5, false, false, false, [], false⟩] } : State), 0x18000000, ⟨.sdi, 0⟩,
      by decide +kernel⟩⟩

/-- States and operands that meet the hypotheses of each clause of `Obligations.LockedFieldsKeepTheirValue`. -/
theorem witness_locked_fields_keep_their_value :
(∃ (s : State) (m addr : Nat) (data : Word) (b : Blk) (r : RegDef) (i j : Nat) (f : Fld), Quiet m s ∧ m ≠ 6 ∧ s.armed m =
      false ∧ RegMap.find addr = some (b, r, i, j) ∧ s.place addr = .block b ∧ addr % 4 = 0 ∧ f ∈ r.flds ∧ f.acc = .rwl ∧
      bits (s.rd addr).toNat f.hi f.lo ≠ bits data.toNat f.hi f.lo) ∧
(∃ (s : State) (m addr : Nat) (b : Blk) (r : RegDef) (i j : Nat) (f : Fld), Quiet m s ∧ s.armed m = true ∧ RegMap.find
      addr = some (b, r, i, j) ∧ s.place addr = .block b ∧ addr % 4 = 0 ∧ f ∈ r.flds ∧ f.acc = .rwl ∧ b.kind ≠ .prov ∧
      b.kind ≠ .mica ∧ b.kind ≠ .drcc ∧ b.kind ≠ .lane ∧ (b.kind = .flt → r.off ≠ 0x2C)) ∧
(∃ (s : State) (m addr k : Nat) (b : Blk), Quiet m s ∧ k ≠ m ∧ s.place addr = .block b) ∧
(∃ (s : State) (m : Nat) (data : Word), Quiet m s ∧ data.toNat % 65536 = 0xC3A5) ∧
(∃ (s : State) (m : Nat) (data : Word), Quiet m s ∧ data.toNat % 65536 ≠ 0xC3A5) ∧
(∃ (s : State) (m d : Nat), Assoc.find s.mgt.unlocks m = some d ∧ d ≤ s.now) ∧
(∃ (s : State) (m d : Nat), Assoc.find s.mgt.unlocks m = some d ∧ s.now < d) :=
  ⟨⟨State.reset, 0, 0x11001010, 0x20077, Tests.blkOf 0x11001010, Tests.regOf 0x11001010, 4, 0, (Tests.regOf
      0x11001010).flds.headD ⟨0,0,.rw,.val 0⟩, by decide +kernel⟩,
  ⟨State.reset.unlockWrite 0 0xC3A5, 0, 0x11001010, Tests.blkOf 0x11001010, Tests.regOf 0x11001010, 4, 0, (Tests.regOf
      0x11001010).flds.headD ⟨0,0,.rw,.val 0⟩, by decide +kernel⟩,
  ⟨State.reset.unlockWrite 3 0xC3A5, 0, 0x11001010, 3, ⟨.flt, 0⟩, by decide +kernel⟩,
  ⟨State.reset, 4, 0xFFFFC3A5, by decide +kernel⟩,
  ⟨State.reset.unlockWrite 4 0xC3A5, 4, 0, by decide +kernel⟩,
  ⟨({ State.reset.unlockWrite 4 0xC3A5 with now := 1000000 } : State), 4, 1000000, by decide +kernel⟩,
  ⟨State.reset.unlockWrite 4 0xC3A5, 4, 1000000, by decide +kernel⟩⟩

/-- States and operands that meet the hypotheses of each clause of `Obligations.EnabledConfigurationIsIgnored`. -/
theorem witness_enabled_configuration_is_ignored :
(∃ (s : State) (m addr : Nat) (data : Word) (b : Blk) (r : RegDef) (i j : Nat) (f : Fld), Quiet m s ∧ s.get b.en = 1 ∧
      RegMap.find addr = some (b, r, i, j) ∧ s.place addr = .block b ∧ addr % 4 = 0 ∧ f ∈ r.flds ∧ f.acc = .rwd ∧ bits
      (s.rd addr).toNat f.hi f.lo ≠ bits data.toNat f.hi f.lo) ∧
(∃ (s : State) (m addr : Nat) (b : Blk) (r : RegDef) (i j : Nat) (f : Fld), Quiet m s ∧ s.get b.en = 0 ∧ RegMap.find addr
      = some (b, r, i, j) ∧ s.place addr = .block b ∧ addr % 4 = 0 ∧ f ∈ r.flds ∧ f.acc = .rwd ∧ r.off ≠ 0 ∧ b.kind ≠
      .lane ∧ b.kind ≠ .quad) :=
  ⟨⟨State.reset.set ⟨0x18000000, 0, 0⟩ 1, 0, 0x18000010, 0x3, Tests.blkOf 0x18000010, Tests.regOf 0x18000010, 0, 0,
      (Tests.regOf 0x18000010).flds.headD ⟨0,0,.rw,.val 0⟩, by decide +kernel⟩,
  ⟨State.reset, 0, 0x18000010, Tests.blkOf 0x18000010, Tests.regOf 0x18000010, 0, 0, (Tests.regOf 0x18000010).flds.headD
      ⟨0,0,.rw,.val 0⟩, by decide +kernel⟩⟩

/-- States and operands that meet the hypotheses of each clause of `Obligations.BlocksStartAndStop`. -/
theorem witness_blocks_start_and_stop :
(∃ (s : State) (m blk : Nat) (data : Word) (b : Blk), Quiet m s ∧ Blk.ofBase blk = some b ∧ s.get b.en = 0 ∧ bit
      data.toNat 0 = true ∧ bit data.toNat 1 = false) ∧
(∃ (s : State) (m blk : Nat) (data : Word) (b : Blk), Quiet m s ∧ Blk.ofBase blk = some b ∧ b.kind ∈ [BlkKind.fab, .chn,
      .prov, .sdi, .ipm, .cnv, .mica, .dec, .time, .flt, .cfg, .mgt, .bmx, .sns, .key, .upd, .lode, .eth, .twin] ∧ s.get
      b.en = 0 ∧ s.get b.run = 0 ∧ bit data.toNat 0 = true ∧ bit data.toNat 1 = false) ∧
(∃ (s : State) (m blk : Nat) (data : Word) (b : Blk), Quiet m s ∧ Blk.ofBase blk = some b ∧ s.get b.en = 1 ∧ bit
      data.toNat 0 = true ∧ bit data.toNat 1 = false) ∧
(∃ (s : State) (m blk : Nat) (data : Word) (b : Blk), Quiet m s ∧ Blk.ofBase blk = some b ∧ b.kind ≠ .drc ∧ s.get b.en = 1
      ∧ s.get b.run = 1 ∧ bit data.toNat 0 = false ∧ bit data.toNat 1 = false) ∧
(∃ (s : State) (m blk : Nat) (data : Word) (b : Blk), Quiet m s ∧ Blk.ofBase blk = some b ∧ b.kind = .drc ∧ bit data.toNat
      1 = false) ∧
(∃ (s : State) (blk : Nat) (b : Blk), Blk.ofBase blk = some b ∧ s.get b.run = 1 ∧ (s.get b.en = 0 ∨ (Assoc.find s.restart
      b.base).isSome = true)) ∧
(∃ (s : State) (blk : Nat) (b : Blk), Blk.ofBase blk = some b ∧ (s.get b.run = 0 ∨ (s.get b.en = 1 ∧ (Assoc.find s.restart
      b.base).isSome = false))) ∧
(∃ (s : State) (b : Blk), s.pending = [] ∧ s.restart = [(b.base, [])] ∧ Undisturbed { s with restart := [] } ∧ Blk.ofBase
      b.base = some b ∧ b.kind ∈ [BlkKind.chn, .prov, .dec] ∧ s.get b.en = 1 ∧ s.get b.run = 0) ∧
(∃ (s : State) (m blk addr : Nat) (data : Word) (b : Blk) (r : RegDef) (i j : Nat) (f : Fld), Quiet m s ∧ Blk.ofBase blk =
      some b ∧ b.kind ≠ .drc ∧ s.get b.en = 0 ∧ bit data.toNat 0 = false ∧ bit data.toNat 1 = true ∧ RegMap.find addr =
      some (b, r, i, j) ∧ r.off ≠ 0 ∧ r.off ≠ 4 ∧ (b.kind = .chn → r.off ≠ 0x10) ∧ (b.kind = .lane → r.off ≠ 0x10) ∧
      s.rxClockOff b = false ∧ f ∈ r.flds ∧ (f.acc = .rw ∨ f.acc = .rwd)) ∧
(∃ (s : State) (m blk n : Nat), Quiet m s ∧ Blk.ofBase blk = some ⟨.lane, n⟩ ∧ s.get (Blk.en ⟨.lane, n⟩) = 0 ∧
      s.rxClockOff ⟨.lane, n⟩ = false ∧ (s.laneHeld true n || s.laneHeld false n) = true) ∧
(∃ (s : State) (m blk : Nat) (b : Blk) (data : Word), Quiet m s ∧ Blk.ofBase blk = some b ∧ s.get b.en = 1 ∧ bit
      data.toNat 0 = true ∧ bit data.toNat 1 = true) :=
  ⟨⟨State.reset, 0, 0x18001000, 1, ⟨.sdi, 1⟩, by decide +kernel⟩,
  ⟨State.reset, 0, 0x1C000000, 1, ⟨.ipm, 0⟩, by decide +kernel⟩,
  ⟨State.reset.set ⟨0x18001000, 0, 0⟩ 1, 0, 0x18001000, 1, ⟨.sdi, 1⟩, by decide +kernel⟩,
  ⟨(State.reset.set ⟨0x15000000, 0, 0⟩ 1).set ⟨0x15000004, 0, 0⟩ 1, 0, 0x15000000, 0, ⟨.chn, 0⟩, by decide +kernel⟩,
  ⟨State.reset, 0, (Tests.regBlk 0x2A001000).base, 0, Tests.regBlk 0x2A001000, by decide +kernel⟩,
  ⟨(State.reset.set ⟨0x15000000, 0, 0⟩ 0).set ⟨0x15000004, 0, 0⟩ 1, 0x15000000, ⟨.chn, 0⟩, by decide +kernel⟩,
  ⟨State.reset, 0x15000000, ⟨.chn, 0⟩, by decide +kernel⟩,
  ⟨({ State.reset with restart := [(0x15000000, [])] } : State).set ⟨0x15000000, 0, 0⟩ 1, ⟨.chn, 0⟩, by decide +kernel⟩,
  ⟨State.reset.set ⟨0x180000C0, 31, 0⟩ 0x55 |>.set (Reg.QUAD.STAT_RUN 0) 1, 0, 0x18000000, 0x180000C0, 2, ⟨.sdi, 0⟩,
      Tests.regOf 0x180000C0, 0, 0, (Tests.regOf 0x180000C0).flds.headD ⟨0,0,.rw,.val 0⟩, by decide +kernel⟩,
  ⟨({ State.reset with chn := { State.reset.chn with chans := [(3, ⟨2, [4 * 2 ^ 19], [], 0, 0, true, 0, 0, 0, [], []⟩)] } }
      : State).set (Reg.QUAD.STAT_RUN 1) 1, 0, (Tests.regBlk (Reg.LANE.CFG_LOOP 4).addr).base, 4, by decide +kernel⟩,
  ⟨State.reset.set ⟨0x18001000, 0, 0⟩ 1, 0, 0x18001000, ⟨.sdi, 1⟩, 3, by decide +kernel⟩⟩

/-- States and operands that meet the hypotheses of each clause of `Obligations.WatchdogAndSensors`. -/
theorem witness_watchdog_and_sensors :
(∃ (s : State) (m : Nat) (key : Word), Quiet m s ∧ m = 4 ∧ key = 0xA55A ∧ s.mgt.wdExpired = none ∧ s.serviceStopped =
      false) ∧
(∃ (s : State) (m : Nat) (key : Word), Quiet m s ∧ m = 4 ∧ key = 0xA55A ∧ (s.mgt.wdExpired ≠ none ∨ s.serviceStopped =
      true)) ∧
(∃ (s : State) (m : Nat) (key : Word), Quiet m s ∧ m ≠ 4 ∧ key = 0xA55A) ∧
(∃ (s : State) (m : Nat) (key : Word), Quiet m s ∧ m = 4 ∧ key ≠ 0xA55A ∧ s.mgt.wdExpired = none) ∧
(∃ (s : State) (m : Nat) (key : Word), Quiet m s ∧ (m ≠ 4 ∨ s.mgt.wdExpired ≠ none) ∧ key ≠ 0xA55A) ∧
(∃ (s : State), s.mgt.wdExpired = none ∧ s.mgt.wdLast + s.wdTimeout * 1000000 ≤ s.now) ∧
(∃ (s : State), s.now < s.mgt.wdLast + s.wdTimeout * 1000000) ∧
(∃ (s : State) (volt trg : Bool) (k : Nat) (c : SnsConv), s.get Reg.SNS.STAT_RUN = 1 ∧ s.servedSensor volt = some (k, trg,
      c)) ∧
(∃ (s : State) (volt : Bool), s.servedSensor volt = none) ∧
(∃ (s : State) (k u : Nat) (rest : List Nat), k < 40 ∧ s.get Reg.SNS.STAT_RUN = 1 ∧ s.mgt.convT = ⟨some (s.now / 1000000),
      k :: rest, u⟩) ∧
(∃ (s : State) (u : Nat), s.get Reg.SNS.STAT_RUN = 1 ∧ s.mgt.convT.pass ≠ some (s.now / 1000000) ∧ s.mgt.convT.turn = u ∧
      s.inSafety 0 = true) ∧
(∃ (s : State) (k u : Nat), k < 40 ∧ s.get Reg.SNS.STAT_RUN = 1 ∧ s.mgt.convT = ⟨some (s.now / 1000000), [], u⟩ ∧
      s.mgt.trig = some k) ∧
(∃ (s : State) (k : Nat), k < 40 ∧ s.get Reg.SNS.STAT_RUN = 1 ∧ s.mgt.convT = ⟨some (s.now / 1000000), [], k⟩ ∧ s.mgt.trig
      = none ∧ s.inSafety k = false) ∧
(∃ (s : State) (k value u : Nat) (rest : List Nat), k < 32 ∧ s.get Reg.SNS.STAT_RUN = 1 ∧ s.mgt.convV = ⟨some (s.now /
      1000000), (64 + k) :: rest, u⟩ ∧ value < 0x8000 ∧ s.get (Reg.SNS.VLIM_HI k) < value ∧ s.mgt.tripped.contains (64 +
      k) = false) ∧
(∃ (s : State) (k u : Nat) (rest : List Nat), k < 40 ∧ s.get Reg.SNS.STAT_RUN = 1 ∧ s.mgt.convT = ⟨some (s.now / 1000000),
      k :: rest, u⟩) ∧
(∃ (s : State), s.get Reg.SNS.STAT_RUN = 0) ∧
(∃ (s : State) (m : Nat) (data : Word), Quiet m s ∧ State.sensorNamed (data.toNat % 128) = true ∧ s.mgt.trig = none) ∧
(∃ (s : State) (m : Nat) (data : Word), Quiet m s ∧ State.sensorNamed (data.toNat % 128) = true ∧ s.mgt.trig ≠ none) ∧
(∃ (s : State) (m : Nat) (data : Word), Quiet m s ∧ State.sensorNamed (data.toNat % 128) = false) ∧
(∃ (s : State) (up : Bool), s.avsReady = true ∧ s.avsTarget up ≠ s.avs.target) ∧
(∃ (s : State) (up : Bool), (s.avsReady = false ∨ s.avsTarget up = s.avs.target)) ∧
(∃ (s : State), s.avs.waiting = true ∧ s.avsLate = true) ∧
(∃ (s : State), s.avs.waiting = false) ∧
(∃ (s : State), s.avs.waiting = true ∧ s.avsLate = false) ∧
(∃ (s : State), s.avs.waiting = true ∧ s.avsLate = true) ∧
(∃ (s : State), (s.avs.waiting = false ∨ s.avsLate = false)) :=
  ⟨⟨State.reset, 4, 0xA55A, by decide +kernel⟩,
  ⟨State.reset.set Reg.FLT.STAT_LOSS 1 |>.set Reg.FLT.CFG_LOSSSTOP 1, 4, 0xA55A, by decide +kernel⟩,
  ⟨State.reset, 0, 0xA55A, by decide +kernel⟩,
  ⟨State.reset.set Reg.FLT.STAT_PHASE 1, 4, 0x1, by decide +kernel⟩,
  ⟨State.reset, 3, 0x1, by decide +kernel⟩,
  ⟨(({ State.reset with now := 50000000 } : State).set Reg.FLT.STAT_PHASE 1), by decide +kernel⟩,
  ⟨State.reset, by decide +kernel⟩,
  ⟨(State.reset.set Reg.SNS.STAT_RUN 1).updMgt fun g => { g with trig := some 70 }, true, true, 70, ⟨some 0, [],
      State.reset.mgt.convV.turn⟩, by decide +kernel⟩,
  ⟨(((State.reset.set Reg.SNS.STAT_RUN 1).wr (Reg.SNS.SAFEMASK0.addr + 8) 0xFFFFFFFF).updMgt fun g =>
      { g with convV := ⟨some 0, [], 0⟩ }), true, by decide +kernel⟩,
  ⟨(State.reset.set Reg.SNS.STAT_RUN 1).updMgt fun g => { g with convT := ⟨some 0, [3, 5], 0⟩, trig := some 7 }, 3, 0, [5],
      by decide +kernel⟩,
  ⟨((State.reset.set Reg.SNS.STAT_RUN 1).wr Reg.SNS.SAFEMASK0.addr 9).updMgt fun g => { g with trig := some 7 }, 0,
      by decide +kernel⟩,
  ⟨(State.reset.set Reg.SNS.STAT_RUN 1).updMgt fun g => { g with convT := ⟨some 0, [], 0⟩, trig := some 7 }, 7, 0,
      by decide +kernel⟩,
  ⟨(State.reset.set Reg.SNS.STAT_RUN 1).updMgt fun g => { g with convT := ⟨some 0, [], 7⟩ }, 7, by decide +kernel⟩,
  ⟨((State.reset.set Reg.SNS.STAT_RUN 1).set (Reg.SNS.VLIM_HI 2) 100).updMgt fun g => { g with convV := ⟨some 0, [66], 0⟩ },
      2, 101, 0, [], by decide +kernel⟩,
  ⟨(State.reset.set Reg.SNS.STAT_RUN 1).updMgt fun g => { g with convT := ⟨some 0, [3, 5], 0⟩, trig := some 7 }, 3, 0, [5],
      by decide +kernel⟩,
  ⟨State.reset.set Reg.SNS.STAT_RUN 0, by decide +kernel⟩,
  ⟨State.reset, 0, 5, by decide +kernel⟩,
  ⟨State.reset.updMgt fun g => { g with trig := some 3 }, 0, 5, by decide +kernel⟩,
  ⟨State.reset, 0, 41, by decide +kernel⟩,
  ⟨(State.reset.set Reg.CFG.STAT_STEP 9), true, by decide +kernel⟩,
  ⟨State.reset, true, by decide +kernel⟩,
  ⟨{ State.reset with now := 1000000, avs := { State.reset.avs with waiting := true, last := some 0 } }, by decide +kernel⟩,
  ⟨State.reset, by decide +kernel⟩,
  ⟨{ State.reset with avs := { State.reset.avs with waiting := true } }, by decide +kernel⟩,
  ⟨{ State.reset with now := 1000000, avs := { State.reset.avs with waiting := true, last := some 0 } }, by decide +kernel⟩,
  ⟨State.reset, by decide +kernel⟩⟩

/-- States and operands that meet the hypotheses of each clause of `Obligations.BusMatrixLocksRemapAndBank`. -/
theorem witness_bus_matrix_locks_remap_and_bank :
(∃ (s : State) (m addr : Nat) (b : Blk) (r : RegDef) (i j : Nat) (f : Fld), Quiet m s ∧ s.place addr = .block b ∧
      RegMap.find addr = some (b, r, i, j) ∧ addr % 4 = 0 ∧ b.kind ≠ .cnv ∧ b.kind ≠ .mica ∧ addr ≠
      Reg.MGT.UNLOCK_KEY0.addr ∧ f ∈ r.flds ∧ f.acc ≠ .wo ∧ (f.lo = 0 → s.rxClockOff b = true → r.off ≠ 4) ∧
      s.prov.inverted = []) ∧
(∃ (s : State) (m addr off : Nat), Quiet m s ∧ s.place addr = .sram off ∧ s.prov.inverted = []) ∧
(∃ (s : State) (m addr : Nat) (l : BusLock), m ≤ 6 ∧ s.mgt.locks = [l] ∧ l.m ≠ m ∧ s.busTarget addr = some l.target) ∧
(∃ (s : State) (m addr : Nat), Quiet m s ∧ (s.busTarget addr = some 1 ∨ s.busTarget addr = some 2)) ∧
(∃ (s : State) (m addr : Nat) (l : BusLock) (k : Nat), m ≤ 6 ∧ s.lockOf m = some l ∧ s.busTarget addr = some k ∧ k ≠
      l.target) ∧
(∃ (s : State) (m addr : Nat) (l : BusLock), m ≤ 6 ∧ s.mgt.locks = [l] ∧ l.m ≠ m ∧ s.busTarget addr = some l.target) ∧
(∃ (s : State) (l : BusLock), (s.mgt.locks.find? (fun x => decide (x.since + 128 ≤ s.now)) = some l) ∧ s.mgt.stalled = []) ∧
(∃ (s : State), (s.mgt.locks.find? (fun x => decide (x.since + 128 ≤ s.now)) = none)) ∧
(∃ (s : State) (m addr : Nat) (l : BusLock), s.mgt.locks = [l] ∧ l.m = m ∧ s.mgt.stalled = [] ∧ s.busTarget addr = some
      l.target) ∧
(∃ (s : State) (m : Nat), Quiet m s) ∧
(∃ (s : State) (m : Nat), Quiet m s) ∧
(∃ (s : State) (m k : Nat) (data : Word), Quiet m s ∧ k < 2 ∧ bit data.toNat 0 = true ∧ s.get (Reg.MGT.DMA_STAT_BUSY k) =
      0 ∧ s.get (Reg.MGT.DMA_LEN k) ≠ 0 ∧ s.get (Reg.MGT.DMA_LEN k) % 4 = 0 ∧ s.get (Reg.MGT.DMA_LEN k) ≤ 16777216 ∧
      State.dmaSkew (s.dmaSrc k) = false ∧ State.dmaSkew (s.dmaDst k) = false) ∧
(∃ (s : State) (m k : Nat) (data : Word), Quiet m s ∧ k < 2 ∧ bit data.toNat 0 = true ∧ s.get (Reg.MGT.DMA_STAT_BUSY k) =
      0 ∧ s.get (Reg.MGT.DMA_LEN k) ≠ 0 ∧ (s.get (Reg.MGT.DMA_LEN k) % 4 ≠ 0 ∨ 16777216 < s.get (Reg.MGT.DMA_LEN k) ∨
      State.dmaSkew (s.dmaSrc k) = true ∨ State.dmaSkew (s.dmaDst k) = true)) ∧
(∃ (s : State) (m k : Nat) (data : Word), Quiet m s ∧ k < 2 ∧ bit data.toNat 0 = true ∧ s.get (Reg.MGT.DMA_STAT_BUSY k) =
      0 ∧ s.get (Reg.MGT.DMA_LEN k) = 0) ∧
(∃ (s : State) (m k : Nat) (data : Word), Quiet m s ∧ k < 2 ∧ (s.get (Reg.MGT.DMA_STAT_BUSY k) = 1 ∨ bit data.toNat 0 =
      false)) ∧
(∃ (s : State) (m k : Nat), Quiet m s ∧ k < 2) ∧
(∃ (s : State) (m k : Nat), Quiet m s ∧ k < 2) ∧
(∃ (s : State) (k a d : Nat), k < 2 ∧ s.get (Reg.MGT.DMA_STAT_BUSY k) = 1 ∧ s.mgt.locks = [] ∧ s.get Reg.BMX.CTRL_REMAP =
      1 ∧ s.get (Reg.MGT.DMA_LEN k) % 4 = 0 ∧ s.dmaSrc k = a ∧ s.dmaDst k = d ∧ a + s.get (Reg.MGT.DMA_LEN k) ≤ 0x400000 ∧
      d + s.get (Reg.MGT.DMA_LEN k) ≤ 0x400000 ∧ a % 4 = 0 ∧ d % 4 = 0 ∧ (a + s.get (Reg.MGT.DMA_LEN k) ≤ d ∨ d + s.get
      (Reg.MGT.DMA_LEN k) ≤ a) ∧ s.prov.inverted = []) ∧
(∃ (s : State) (k : Nat), k < 2 ∧ (s.get (Reg.MGT.DMA_STAT_BUSY k) = 0 ∨ s.mgt.locks ≠ [])) ∧
(∃ (s : State) (k : Nat), k < 2 ∧ s.get (Reg.MGT.DMA_STAT_BUSY k) = 1 ∧ s.mgt.locks = [] ∧ 4 ≤ s.get (Reg.MGT.DMA_LEN k) ∧
      s.dmaSrc k < 2 ^ 32 ∧ s.place (s.dmaSrc k) = .nowhere) :=
  ⟨⟨State.reset.set Reg.FLT.CFG_HOLDLIM 9, 2, 0x11000010, Tests.blkOf 0x11000010, Tests.regOf 0x11000010, 0, 0, (Tests.regOf
      0x11000010).flds.headD ⟨0,0,.rw,.val 0⟩, by decide +kernel⟩,
  ⟨(State.reset.set Reg.BMX.CTRL_REMAP 1).sramPut 0x100 [1, 2, 3, 4], 2, 0x100, 0x100, by decide +kernel⟩,
  ⟨State.reset.updMgt fun g => { g with locks := [⟨2, 9, 0⟩] }, 3, Reg.MGT.DWBANK.addr, ⟨2, 9, 0⟩, by decide +kernel⟩,
  ⟨State.reset, 2, 0x40000000, by decide +kernel⟩,
  ⟨State.reset.updMgt fun g => { g with locks := [⟨2, 9, 0⟩] }, 2, 0x14000010, ⟨2, 9, 0⟩, 4, by decide +kernel⟩,
  ⟨State.reset.updMgt fun g => { g with locks := [⟨2, 9, 0⟩] }, 3, Reg.MGT.DWBANK.addr, ⟨2, 9, 0⟩, by decide +kernel⟩,
  ⟨({ State.reset with now := 128 } : State).updMgt fun g => { g with locks := [⟨2, 9, 0⟩] }, ⟨2, 9, 0⟩, by decide +kernel⟩,
  ⟨({ State.reset with now := 127 } : State).updMgt fun g => { g with locks := [⟨2, 9, 0⟩] }, by decide +kernel⟩,
  ⟨State.reset.updMgt fun g => { g with locks := [⟨2, 9, 0⟩] }, 2, Reg.MGT.DWBANK.addr, ⟨2, 9, 0⟩, by decide +kernel⟩,
  ⟨State.reset, 0, by decide +kernel⟩,
  ⟨State.reset, 0, by decide +kernel⟩,
  ⟨State.reset.set (Reg.MGT.DMA_LEN 1) 8, 0, 1, 1, by decide +kernel⟩,
  ⟨State.reset.set (Reg.MGT.DMA_LEN 0) 7, 0, 0, 1, by decide +kernel⟩,
  ⟨State.reset, 0, 0, 1, by decide +kernel⟩,
  ⟨State.reset.set (Reg.MGT.DMA_STAT_BUSY 0) 1, 0, 0, 1, by decide +kernel⟩,
  ⟨State.reset, 0, 1, by decide +kernel⟩,
  ⟨State.reset.set (Reg.MGT.DMA_SRCLO 1) 0x90, 0, 1, by decide +kernel⟩,
  ⟨(((State.reset.sramPut 0x100 [1, 2, 3, 4, 5, 6, 7, 8]).set Reg.BMX.CTRL_REMAP 1).set (Reg.MGT.DMA_STAT_BUSY 0) 1).set
      (Reg.MGT.DMA_LEN 0) 8 |>.set (Reg.MGT.DMA_SRCLO 0) 0x100 |>.set (Reg.MGT.DMA_DSTLO 0) 0x200 |> fun s =>
      { s with wide := [((Reg.MGT.DMA_SRCLO 0).addr, 0x100), ((Reg.MGT.DMA_DSTLO 0).addr, 0x200)] }, 0, 0x100, 0x200,
      by decide +kernel⟩,
  ⟨State.reset, 0, by decide +kernel⟩,
  ⟨((({ State.reset with wide := [((Reg.MGT.DMA_SRCLO 0).addr, 0x0F000000)] } : State).set (Reg.MGT.DMA_STAT_BUSY 0) 1).set
      (Reg.MGT.DMA_LEN 0) 4), 0, by decide +kernel⟩⟩

/-- States and operands that meet the hypotheses of each clause of `Obligations.ServicePortFrames`. -/
theorem witness_service_port_frames :
(∃ (s : State) (a3 a2 a1 a0 : Byte) (frame : List Byte), s.spUp = true ∧ s.mgt.sp.inflight = none ∧ frame = [0x0B, a3, a2,
      a1, a0, BitVec.ofNat 8 (spCrc [0x0B, a3, a2, a1, a0])] ∧ s.mgt.locks = []) ∧
(∃ (s : State) (b : List Byte) (frame : List Byte), s.spUp = true ∧ s.mgt.sp.inflight = none ∧ b.length = 8 ∧ frame = 0x02
      :: b ++ [BitVec.ofNat 8 (spCrc (0x02 :: b))] ∧ s.mgt.locks = []) ∧
(∃ (s : State), s.spUp = true) ∧
(∃ (s : State) (a3 a2 a1 a0 : Byte) (frame : List Byte) (b : Blk) (r : RegDef) (i j : Nat) (f : Fld), s.spUp = true ∧
      s.mgt.sp.inflight = none ∧ frame = [0x0B, a3, a2, a1, a0, BitVec.ofNat 8 (spCrc [0x0B, a3, a2, a1, a0])] ∧
      s.mgt.locks = [] ∧ RegMap.find (beNat [a3, a2, a1, a0]) = some (b, r, i, j) ∧ s.place (beNat [a3, a2, a1, a0]) =
      .block b ∧ beNat [a3, a2, a1, a0] % 4 = 0 ∧ b.kind ≠ .cnv ∧ b.kind ≠ .mica ∧ beNat [a3, a2, a1, a0] ≠
      Reg.MGT.UNLOCK_KEY0.addr ∧ f ∈ r.flds ∧ f.acc ≠ .wo ∧ (f.lo = 0 → s.rxClockOff b = true → r.off ≠ 4)) ∧
(∃ (s : State) (frame : List Byte), s.spUp = true ∧ spFrame frame ≠ .bad ∧ spFrame frame ≠ .status ∧ s.mgt.sp.inflight ≠
      none) ∧
(State.reset.spUp = false) ∧
(∃ (s : State) (frame : List Byte), s.spUp = true ∧ spFrame frame = .bad) ∧
(∃ (s : State) (x : SpTrans) (y : BusResp), s.mgt.sp.inflight = some x ∧ s.mgt.sp.answer = some y) ∧
(∃ (s : State), (s.mgt.sp.inflight = none ∨ s.mgt.sp.answer = none)) ∧
(∃ (s : State), (s.mgt.sp.inflight.all (fun x => decide (s.now < x.since + 1000000)) = true)) ∧
(∃ (s : State) (x : SpTrans), s.mgt.sp.inflight = some x ∧ x.since + 1000000 ≤ s.now) ∧
(∃ (s : State) (addr : Nat) (b : Blk) (r : RegDef) (i j : Nat), s.mgt.locks = [] ∧ (s.lcState = 1 ∨ s.lcState = 2) ∧
      s.place addr = .block b ∧ RegMap.find addr = some (b, r, i, j) ∧ addr % 4 = 0) :=
  ⟨⟨State.reset.set Reg.CFG.STAT_STEP 1, 0x11, 0, 0, 0x10, let l : List Byte := [0x0B, 0x11, 0, 0, 0x10]; l ++ [BitVec.ofNat
      8 (spCrc l)], by decide +kernel⟩,
  ⟨State.reset.set Reg.CFG.STAT_STEP 1, [0x11, 0, 0, 0x10, 0, 0, 1, 2], let l : List Byte := [0x02, 0x11, 0, 0, 0x10, 0, 0,
      1, 2]; l ++ [BitVec.ofNat 8 (spCrc l)], by decide +kernel⟩,
  ⟨State.reset.set Reg.CFG.STAT_STEP 1, by decide +kernel⟩,
  ⟨State.reset.set Reg.CFG.STAT_STEP 1, 0x11, 0, 0, 0x10, let l : List Byte := [0x0B, 0x11, 0, 0, 0x10]; l ++ [BitVec.ofNat
      8 (spCrc l)], ⟨.flt, 0⟩, Tests.regOf 0x11000010, 0, 0, (Tests.regOf 0x11000010).flds.headD ⟨0,0,.rw,.val 0⟩,
      by decide +kernel⟩,
  ⟨(State.reset.set Reg.CFG.STAT_STEP 1).updSp fun p => { p with inflight := some ⟨true, 5, 6, 0⟩ }, let l : List Byte :=
      [0x0B, 0x11, 0, 0, 0x10]; l ++ [BitVec.ofNat 8 (spCrc l)], by decide +kernel⟩,
  by decide +kernel,
  ⟨State.reset.set Reg.CFG.STAT_STEP 1, [0x02, 0, 1], by decide +kernel⟩,
  ⟨State.reset.updSp fun p => { p with inflight := some ⟨true, 5, 6, 0⟩, answer := some ⟨0, 7⟩ }, ⟨true, 5, 6, 0⟩, ⟨0, 7⟩,
      by decide +kernel⟩,
  ⟨State.reset, by decide +kernel⟩,
  ⟨({ State.reset with now := 999999 } : State).updSp fun p => { p with inflight := some ⟨true, 5, 6, 0⟩ },
      by decide +kernel⟩,
  ⟨({ State.reset with now := 1000000 } : State).updSp fun p => { p with inflight := some ⟨true, 5, 6, 0⟩ }, ⟨true, 5, 6,
      0⟩, by decide +kernel⟩,
  ⟨State.reset.set Reg.KEY.STAT_LCSTATE 1, 0x11000018, Tests.blkOf 0x11000018, Tests.regOf 0x11000018, 0, 0,
      by decide +kernel⟩⟩

/-- States and operands that meet the hypotheses of each clause of `Obligations.RecordsAreEnteredInOrder`. -/
theorem witness_records_are_entered_in_order :
(∃ (s : State) (src : Nat), (sevRun defaultSevRuns src).isSome = true ∧ (∀ p ∈ s.flt.pend, p.src ≠ src) ∧ src < 1536) ∧
(∃ (s : State) (src : Nat) (p : PendRec) (rest : List PendRec), (sevRun defaultSevRuns src).isSome = true ∧ s.flt.pend = p
      :: rest ∧ p.src = src ∧ src < 1536) ∧
(∃ (s : State) (p : PendRec), s.flt.reaction = none ∧ s.get Reg.PROV.CHKINV_ARM = 0 ∧ p ∈ s.flt.pend ∧ (∀ q ∈ s.flt.pend,
      s.get (Reg.FLT.SRC_SEV q.src) < s.get (Reg.FLT.SRC_SEV p.src) ∨ (s.get (Reg.FLT.SRC_SEV q.src) = s.get
      (Reg.FLT.SRC_SEV p.src) ∧ p.src ≤ q.src))) ∧
(∃ (s : State) (e : EntryErrors) (p : PendRec) (k : Nat), s.flt.reaction = none ∧ s.flt.pend = [p] ∧ p.src < 1536 ∧ e =
      ⟨false, false, false, false, false⟩ ∧ k = s.get Reg.FLT.HISTSTAT_NEWEST % 15 + 1) ∧
(∃ (s : State) (e : EntryErrors) (p : PendRec) (k : Nat), s.flt.reaction = none ∧ s.flt.pend = [p] ∧ p.src < 1536 ∧ e =
      ⟨false, false, false, false, false⟩ ∧ k = s.get (Reg.FLT.SRC_SEV p.src) ∧ s.get (Reg.FLT.SRC_REACT p.src) = 2 ∧
      s.get Reg.FLT.CTRL_EN = 1 ∧ s.slotBusyFrom k = false) ∧
(∃ (s : State) (e : EntryErrors) (p : PendRec) (k : Nat), s.flt.reaction = none ∧ s.flt.pend = [p] ∧ p.src < 1536 ∧ e =
      ⟨false, false, false, false, false⟩ ∧ s.get (Reg.FLT.SRC_SEV p.src) ≤ k ∧ k < 4 ∧ s.get (Reg.FLT.SLOT_BUSY k) = 1 ∧
      2 ≤ s.get (Reg.FLT.SRC_REACT p.src) ∧ s.get Reg.FLT.CTRL_EN = 1) ∧
(∃ (s : State) (m k : Nat) (data : Word), Quiet m s ∧ k < 4 ∧ bit data.toNat 0 = true ∧ s.get (Reg.FLT.SLOT_BUSY k) = 1 ∧
      s.get (Reg.FLT.SLOT_REACT k) ≠ 5) ∧
(∃ (s : State) (m k : Nat), Quiet m s ∧ k < 4 ∧ (s.get (Reg.FLT.SLOT_BUSY k) = 0 ∨ s.get (Reg.FLT.SLOT_REACT k) = 5)) ∧
(∃ (s : State) (k since : Nat), k < 4 ∧ s.get Reg.FLT.CFG_HOLDLIM ≠ 0 ∧ Assoc.find s.flt.held k = some (since, false) ∧
      since + s.get Reg.FLT.CFG_HOLDLIM * 1000000000 ≤ s.now) ∧
(∃ (s : State) (m : Nat) (data : Word), Quiet m s ∧ bit data.toNat 0 = true ∧ s.get (Reg.FLT.SLOT_BUSY 3) = 0 ∧ s.get
      Reg.FLT.SAFESTAT = 1) ∧
(∃ (s : State) (m : Nat), Quiet m s ∧ s.get (Reg.FLT.SLOT_BUSY 3) = 1 ∧ s.get (Reg.FLT.SLOT_REACT 3) = 5) ∧
(∃ (s : State) (m k : Nat) (data : Word), Quiet m s ∧ bit data.toNat 0 = true ∧ k < 16) ∧
(∃ (s : State) (m : Nat), Quiet m s ∧ s.armed m = true) ∧
(∃ (s : State) (a : Bool), s.nearEdge = false ∧ s.flt.pinAt + 100000 ≤ s.now ∧ a ≠ s.pinLevels.1 ∧ s.flt.misA = 2) ∧
(∃ (s : State) (x : Reaction), s.flt.reaction = some x ∧ x.noAck = [] ∧ x.deadline ≤ s.now) :=
  ⟨⟨State.reset, 33, by decide +kernel⟩,
  ⟨{ State.reset with flt := { State.reset.flt with pend := [⟨300, 5, 0, 0⟩, ⟨17, 6, 1, 2⟩] } }, 300, ⟨300, 5, 0, 0⟩, [⟨17,
      6, 1, 2⟩], by decide +kernel⟩,
  ⟨({ State.reset with flt := { State.reset.flt with pend := [⟨300, 5, 0, 0⟩, ⟨17, 6, 1, 2⟩] } } : State).set
      (Reg.FLT.SRC_SEV 300) 2 |>.set (Reg.FLT.SRC_SEV 17) 1, ⟨300, 5, 0, 0⟩, by decide +kernel⟩,
  ⟨{ State.reset with flt := { State.reset.flt with pend := [⟨300, 5, 0, 0⟩] } }, ⟨false, false, false, false, false⟩, ⟨300,
      5, 0, 0⟩, 1, by decide +kernel⟩,
  ⟨{ State.reset with flt := { State.reset.flt with pend := [⟨300, 5, 0, 0⟩] } } |>.set (Reg.FLT.SRC_SEV 300) 2 |>.set
      (Reg.FLT.SRC_REACT 300) 2 |>.set Reg.FLT.CTRL_EN 1, ⟨false, false, false, false, false⟩, ⟨300, 5, 0, 0⟩, 2,
      by decide +kernel⟩,
  ⟨{ State.reset with flt := { State.reset.flt with pend := [⟨300, 5, 0, 0⟩] } } |>.set (Reg.FLT.SRC_SEV 300) 2 |>.set
      (Reg.FLT.SRC_REACT 300) 2 |>.set Reg.FLT.CTRL_EN 1 |>.set (Reg.FLT.SLOT_BUSY 3) 1, ⟨false, false, false, false,
      false⟩, ⟨300, 5, 0, 0⟩, 3, by decide +kernel⟩,
  ⟨State.reset.set (Reg.FLT.SLOT_BUSY 2) 1, 0, 2, 1, by decide +kernel⟩,
  ⟨State.reset, 0, 2, by decide +kernel⟩,
  ⟨({ State.reset with flt := { State.reset.flt with held := [(1, (7, false))] }, now := 3000000007 } : State).set
      Reg.FLT.CFG_HOLDLIM 3, 1, 7, by decide +kernel⟩,
  ⟨State.reset.set Reg.FLT.SAFESTAT 1, 0, 1, by decide +kernel⟩,
  ⟨(State.reset.set (Reg.FLT.SLOT_BUSY 3) 1).set (Reg.FLT.SLOT_REACT 3) 5, 0, by decide +kernel⟩,
  ⟨State.reset.set (Reg.FLT.HIST_VALID 4) 1, 0, 4, 1, by decide +kernel⟩,
  ⟨(State.reset.unlockWrite 0 0xC3A5).set Reg.KEY.STAT_LCSTATE 3, 0, by decide +kernel⟩,
  ⟨{ State.reset with flt := { State.reset.flt with misA := 2 }, now := 100000 }, false, by decide +kernel⟩,
  ⟨({ State.reset with flt := { State.reset.flt with reaction := some ⟨[4, 5], [], 3⟩ }, now := 3 } : State).set
      Reg.FLT.STAT_PHASE 1, ⟨[4, 5], [], 3⟩, by decide +kernel⟩⟩

/-- States and operands that meet the hypotheses of each clause of `Obligations.StartsAndRestarts`. -/
theorem witness_starts_and_restarts :
(∃ (cause : Nat), 1 ≤ cause ∧ cause ≤ 4) ∧
(∃ (cause : Nat), (cause = 0 ∨ 4 < cause)) ∧
(State.reset.resetCold.now = 0) ∧
(∃ (s : State) (fl : Flash) (env : StartEnv) (h : BootHdr) (b : Bundle), fl.octal = true ∧ fl.hdrA = .good h ∧ fl.hdrB =
      .blank ∧ h.valid = 0xFFFFFFFF ∧ h.trial = false ∧ h.parts = [] ∧ fl.journal = [] ∧ fl.cfgA.bytes = [] ∧
      fl.cfgB.bytes = [] ∧ fl.fwA.head = .good b ∧ h.fwSlot = 0 ∧ b.sigOk = true ∧ fl.minsv = (0, 0) ∧ s.fuses =
      State.reset.fuses ∧ env = ⟨none, none, none⟩) ∧
(∃ (s : State) (fl : Flash), fl.hdrA = .blank ∧ fl.hdrB = .blank ∧ s.fuses.idgen = true) ∧
(∃ (s : State) (cause : Nat) (k : Nat), (cause = 1 ∨ cause = 2) ∧ k < 16 ∧ s.flash.hdrA = .blank ∧ s.flash.hdrB = .blank ∧
      s.fuses.idgen = true) ∧
(∃ (s : State), s.flash.hdrA = .blank ∧ s.flash.hdrB = .blank ∧ s.fuses.idgen = true) ∧
(∃ (s : State) (e : Nat), s.mgt.wdExpired = some e ∧ e + s.get Reg.MGT.WDCFG_RSTDLY * 1000000 ≤ s.now ∧ s.get
      Reg.MGT.WDCFG_RSTDLY ≠ 0) ∧
(∃ (s : State) (e : Nat), s.mgt.wdExpired = some e ∧ e + s.get Reg.MGT.WDCFG_RSTDLY * 1000000 ≤ s.now ∧ s.get
      Reg.MGT.WDCFG_RSTDLY ≠ 0 ∧ s.flash.hdrA = .blank ∧ s.flash.hdrB = .blank ∧ s.fuses.idgen = true) ∧
(∃ (s : State), (s.get Reg.MGT.WDCFG_RSTDLY = 0 ∨ s.mgt.wdExpired.all (fun e => decide (s.now < e + s.get
      Reg.MGT.WDCFG_RSTDLY * 1000000)) = true)) ∧
(∃ (s : State) (h : BootHdr) (e : Nat), s.hdrInForce = some h ∧ h.trial = true ∧ h.confirm = 0xFFFFFFFF ∧ s.upd.trialEnd =
      some e ∧ e ≤ s.now) ∧
(∃ (s : State), (s.hdrInForce = none ∨ s.upd.trialEnd.all (fun e => decide (s.now < e)) = true)) ∧
(∃ (s : State) (h : BootHdr) (e : Nat), s.upd.hdr = 0 ∧ s.flash.hdrA = .good h ∧ h.trial = true ∧ h.confirm = 0xFFFFFFFF ∧
      s.upd.trialEnd = some e ∧ e ≤ s.now ∧ s.flash.hdrB = .blank ∧ s.fuses.idgen = true) ∧
(∃ (s u v : State) (k : Nat) (rest : List (Nat × LoadOp)), s.load.on = true ∧ s.load.wait = .plls ∧ s.load.since +
      10000000 ≤ s.now ∧ s.load.todo = (k, .step 4) :: rest ∧ (u = ((s.each s.pllsOpen fun p x => x.quadCause p.1 (1 +
      p.2)).enableLanes.updLoad fun l => { l with wait := .run, todo := rest })) ∧ State.runOps rest u = (v, false)) ∧
(∃ (s : State), (s.load.on = false ∨ s.load.wait ≠ .plls ∨ s.now < s.load.since + 10000000)) ∧
(∃ (s : State) (k : Nat), s.load.on = true ∧ s.load.wait = .plls ∧ s.load.since + 10000000 ≤ s.now ∧ s.load.todo = [(k,
      .step 4)]) ∧
(∃ (s u v : State) (k : Nat) (rest : List (Nat × LoadOp)), (u = (((s.raise 103 []).endStep 8).updLoad fun l =>
      { l with wait := .run, todo := rest })) ∧ State.runOps rest u = (v, false) ∧ s.load.on = true ∧ s.load.wait = .lock
      ∧ s.load.since + s.get Reg.CFG.LOCKWAIT * 1000000 ≤ s.now ∧ s.load.todo = (k, .step 8) :: rest) ∧
(∃ (s : State), (s.load.on = false ∨ s.load.wait ≠ .lock ∨ s.now < s.load.since + s.get Reg.CFG.LOCKWAIT * 1000000)) ∧
(∃ (s : State) (k : Nat), s.load.on = true ∧ s.load.wait = .lock ∧ s.load.since + s.get Reg.CFG.LOCKWAIT * 1000000 ≤ s.now
      ∧ s.load.todo = [(k, .step 8)]) :=
  ⟨⟨1, by decide +kernel⟩,
  ⟨0, by decide +kernel⟩,
  by decide +kernel,
  ⟨State.reset,
      { State.reset.flash with hdrA := .good ⟨3, [], 0, 0, 0, false, 60, 3, 0xFFFFFFFF, 0xFFFFFFFF, 0xFFFFFFFF⟩, fwA := ⟨.good ⟨1, 9, 0, true, [], [], []⟩, []⟩, octal := true, minsv := (0, 0) },
      ⟨none, none, none⟩, ⟨3, [], 0, 0, 0, false, 60, 3, 0xFFFFFFFF, 0xFFFFFFFF, 0xFFFFFFFF⟩, ⟨1, 9, 0, true, [], [], []⟩,
      by decide +kernel⟩,
  ⟨{ State.reset with fuses := { State.reset.fuses with idgen := true }, now := 77 }, State.reset.flash, by decide +kernel⟩,
  ⟨({ ({ (((State.reset.set (Reg.FLT.HIST_VALID 3) 1).set (Reg.FLT.HIST_SRC 3) 44).set Reg.FLT.STAT_LOSS 1) with dram := { State.reset.dram with mem := [(5, 9)] } }) with fuses := { State.reset.fuses with idgen := true } }
      : State), 1, 3, by decide +kernel⟩,
  ⟨({ ({ (((State.reset.set (Reg.FLT.HIST_VALID 3) 1).set (Reg.FLT.HIST_SRC 3) 44).set Reg.FLT.STAT_LOSS 1) with dram := { State.reset.dram with mem := [(5, 9)] } }) with fuses := { State.reset.fuses with idgen := true } }
      : State), by decide +kernel⟩,
  ⟨({ State.reset with mgt := { State.reset.mgt with wdExpired := some 5 }, now := 1000000000 } : State), 5,
      by decide +kernel⟩,
  ⟨({ ({ (((State.reset.set (Reg.FLT.HIST_VALID 3) 1).set (Reg.FLT.HIST_SRC 3) 44).set Reg.FLT.STAT_LOSS 1) with dram := { State.reset.dram with mem := [(5, 9)] } }) with fuses := { State.reset.fuses with idgen := true }, mgt := { State.reset.mgt with wdExpired := some 5 }, now := 1000000000 }
      : State), 5, by decide +kernel⟩,
  ⟨(({ State.reset with mgt := { State.reset.mgt with wdExpired := some 5 } } : State).set Reg.MGT.WDCFG_RSTDLY 0),
      by decide +kernel⟩,
  ⟨({ State.reset with now := 9, upd := { State.reset.upd with hdr := 0, trialEnd := some 9 }, flash := { State.reset.flash with hdrA := .good ⟨3, [], 0, 0, 0, true, 60, 3, 0xFFFFFFFF, 0xFFFFFFFF, 0xFFFFFFFF⟩ } }
      : State), ⟨3, [], 0, 0, 0, true, 60, 3, 0xFFFFFFFF, 0xFFFFFFFF, 0xFFFFFFFF⟩, 9, by decide +kernel⟩,
  ⟨State.reset, by decide +kernel⟩,
  ⟨({ State.reset with now := 9, fuses := { State.reset.fuses with idgen := true }, upd := { State.reset.upd with hdr := 0, trialEnd := some 9 }, flash := { State.reset.flash with hdrA := .good ⟨3, [], 0, 0, 0, true, 60, 3, 0xFFFFFFFF, 0xFFFFFFFF, 0xFFFFFFFF⟩ } }
      : State), ⟨3, [], 0, 0, 0, true, 60, 3, 0xFFFFFFFF, 0xFFFFFFFF, 0xFFFFFFFF⟩, 9, by decide +kernel⟩,
  ⟨(({ State.reset with now := 10000000, load := { State.reset.load with on := true, wait := .plls, todo := [(0, .step 4)] } }
      : State).set Reg.CFG.STAT_STEP 4),
      (((({ State.reset with now := 10000000, load := { State.reset.load with on := true, wait := .plls, todo := [(0, .step 4)] } }
      : State).set Reg.CFG.STAT_STEP 4).each
      (({ State.reset with now := 10000000, load := { State.reset.load with on := true, wait := .plls, todo := [(0, .step 4)] } }
      : State).set Reg.CFG.STAT_STEP 4).pllsOpen fun p x => x.quadCause p.1 (1 + p.2)).enableLanes.updLoad fun l =>
      { l with wait := .run, todo := [] }), (State.runOps []
      (((({ State.reset with now := 10000000, load := { State.reset.load with on := true, wait := .plls, todo := [(0, .step 4)] } }
      : State).set Reg.CFG.STAT_STEP 4).each
      (({ State.reset with now := 10000000, load := { State.reset.load with on := true, wait := .plls, todo := [(0, .step 4)] } }
      : State).set Reg.CFG.STAT_STEP 4).pllsOpen fun p x => x.quadCause p.1 (1 + p.2)).enableLanes.updLoad fun l =>
      { l with wait := .run, todo := [] })).1, 0, [], by decide +kernel⟩,
  ⟨State.reset, by decide +kernel⟩,
  ⟨(({ State.reset with now := 10000000, load := { State.reset.load with on := true, wait := .plls, todo := [(0, .step 4)] } }
      : State).set Reg.CFG.STAT_STEP 4), 0, by decide +kernel⟩,
  ⟨(({ State.reset with now := 123000000, load := { State.reset.load with on := true, wait := .lock, todo := [(0, .step 8)] } }
      : State).set Reg.CFG.STAT_STEP 8), _, (State.runOps []
      ((((({ State.reset with now := 123000000, load := { State.reset.load with on := true, wait := .lock, todo := [(0, .step 8)] } }
      : State).set Reg.CFG.STAT_STEP 8).raise 103 []).endStep 8).updLoad fun l => { l with wait := .run, todo := [] })).1,
      0, [], rfl, rfl, by decide +kernel⟩,
  ⟨State.reset, by decide +kernel⟩,
  ⟨(({ State.reset with now := 123000000, load := { State.reset.load with on := true, wait := .lock, todo := [(0, .step 8)] } }
      : State).set Reg.CFG.STAT_STEP 8), 0, by decide +kernel⟩⟩

/-- States and operands that meet the hypotheses of each clause of `Obligations.LifeCycleAndKeys`. -/
theorem witness_life_cycle_and_keys :
(∃ (s : State) (m k : Nat), Quiet m s ∧ s.windowOpen = true ∧ (s.get Reg.KEY.STAT_LCSTATE = 1 ∧ k = 2 ∨ s.get
      Reg.KEY.STAT_LCSTATE = 2 ∧ k = 3 ∨ s.get Reg.KEY.STAT_LCSTATE = 3 ∧ k = 2)) ∧
(∃ (s : State) (m k : Nat), Quiet m s ∧ s.windowOpen = true ∧ s.get Reg.KEY.STAT_LCSTATE = 3 ∧ k = 4) ∧
(∃ (s : State) (m k : Nat), Quiet m s ∧ s.windowOpen = true ∧ s.get Reg.KEY.STAT_LCSTATE = 0 ∧ k = 1 ∧ s.ownerFlags ≠ 0 ∧
      s.flash.blob.cert ≠ []) ∧
(∃ (s : State) (m k : Nat), Quiet m s ∧ s.windowOpen = true ∧ s.lcAllowed k = false) ∧
(∃ (s : State) (m : Nat), Quiet m s ∧ s.windowOpen = false) ∧
(∃ (s : State) (m : Nat) (sg : Option Nat), Quiet m s ∧ s.windowOpen = true ∧ s.blobRoom = true ∧ s.keyMsgCode s.keyMsg sg
      = 0) ∧
(∃ (s : State) (m : Nat) (sg : Option Nat), Quiet m s ∧ s.windowOpen = true ∧ s.blobRoom = true ∧ State.msgField s.keyMsg
      0x10 4 ≤ s.ownerState.ctr ∧ sg ≠ none ∧ s.firstAdd (State.msgField s.keyMsg 4 1) = false ∧ s.ownerKey
      (State.msgField s.keyMsg 6 1) = sg ∧ State.msgField s.keyMsg 0 4 = 0x4B594D53 ∧ State.msgField s.keyMsg 8 8 =
      s.devid ∧ State.msgField s.keyMsg 4 1 = 3) ∧
(∃ (s : State) (m c : Nat) (sg : Option Nat), Quiet m s ∧ s.windowOpen = true ∧ s.blobRoom = true ∧ s.keyMsgCode s.keyMsg
      sg = c ∧ c ≠ 0) ∧
(∃ (s : State) (m : Nat), Quiet m s ∧ (s.windowOpen = false ∨ s.blobRoom = false)) ∧
(∃ (s : State) (m : Nat), Quiet m s ∧ s.get Reg.KEY.STAT_NOID = 1) ∧
(∃ (s : State) (m : Nat), Quiet m s ∧ s.get Reg.KEY.STAT_NOID = 0) ∧
(∃ (s : State) (u : Nat), s.get Reg.KEY.STAT_PRES = 0 ∧ s.key.released = some u ∧ u + 20000000 ≤ s.now) ∧
(∃ (s : State), s.get Reg.KEY.STAT_PRES = 0 ∧ (s.key.released.all (fun u => decide (s.now < u + 20000000)) = true)) ∧
(∃ (s : State), s.get Reg.KEY.STAT_PRES = 1) ∧
(∃ (s : State), s.windowOpen = false) ∧
(∃ (s : State), s.windowOpen = true) ∧
(∃ (s : State), s.get Reg.KEY.OWNERS_SEALEN = 1 ∧ s.get Reg.KEY.STAT_SEAL = 0) ∧
(∃ (s : State), (s.get Reg.KEY.OWNERS_SEALEN = 0 ∨ s.get Reg.KEY.STAT_SEAL = 1)) ∧
(∃ (s : State), s.get Reg.KEY.OWNERS_SEALEN = 1) ∧
(∃ (s : State), s.get Reg.KEY.OWNERS_SEALEN = 0) ∧
(∃ (s : State) (u : Nat), (s.get Reg.CFG.STAT_STEP = 10 ∨ s.get Reg.CFG.STAT_STEP = 11) ∧ (s.get Reg.KEY.STAT_LCSTATE = 1
      ∨ s.get Reg.KEY.STAT_LCSTATE = 2) ∧ s.key.pressed = some u ∧ u + 5000000000 ≤ s.now) ∧
(∃ (s : State), ((s.get Reg.CFG.STAT_STEP ≠ 10 ∧ s.get Reg.CFG.STAT_STEP ≠ 11) ∨ (s.get Reg.KEY.STAT_LCSTATE ≠ 1 ∧ s.get
      Reg.KEY.STAT_LCSTATE ≠ 2) ∨ s.key.pressed.all (fun u => decide (s.now < u + 5000000000)) = true)) :=
  ⟨⟨((({ State.reset with key := { State.reset.key with window := some 60000000000 } } : State).set Reg.KEY.STAT_WINDOW
      1).set Reg.KEY.STAT_LCSTATE 1), 0, 2, by decide +kernel⟩,
  ⟨((({ State.reset with key := { State.reset.key with window := some 60000000000 } } : State).set Reg.KEY.STAT_WINDOW
      1).set Reg.KEY.STAT_LCSTATE 3), 0, 4, by decide +kernel⟩,
  ⟨({ (((({ State.reset with key := { State.reset.key with window := some 60000000000 } } : State).set Reg.KEY.STAT_WINDOW 1).set Reg.KEY.STAT_LCSTATE 0)) with flash := { State.reset.flash with blob := { State.reset.flash.blob with cert := [5], owners := [⟨0, [some 5, none, none, none], 7, 0⟩] } } }
      : State), 0, 1, by decide +kernel⟩,
  ⟨((({ State.reset with key := { State.reset.key with window := some 60000000000 } } : State).set Reg.KEY.STAT_WINDOW
      1).set Reg.KEY.STAT_LCSTATE 1), 0, 4, by decide +kernel⟩,
  ⟨State.reset, 0, by decide +kernel⟩,
  ⟨(((((({ State.reset with key := { State.reset.key with window := some 60000000000 } } : State).set Reg.KEY.STAT_WINDOW
      1).set Reg.KEY.STAT_LCSTATE 0).set (Reg.KEY.MSG 0) 0x4B594D53).set (Reg.KEY.MSG 1) 1).set (Reg.KEY.MSG 4) 7), 0,
      none, by decide +kernel⟩,
  ⟨({ (((((({ State.reset with key := { State.reset.key with window := some 60000000000 } } : State).set Reg.KEY.STAT_WINDOW 1).set Reg.KEY.STAT_LCSTATE 2).set (Reg.KEY.MSG 0) 0x4B594D53).set (Reg.KEY.MSG 1) 3).set (Reg.KEY.MSG 4) 7) with flash := { State.reset.flash with blob := { State.reset.flash.blob with owners := [⟨0, [some 5, none, none, none], 7, 0⟩] } } }
      : State), 0, some 5, by decide +kernel⟩,
  ⟨((({ State.reset with key := { State.reset.key with window := some 60000000000 } } : State).set Reg.KEY.STAT_WINDOW
      1).set Reg.KEY.STAT_LCSTATE 0), 0, 30, none, by decide +kernel⟩,
  ⟨State.reset, 0, by decide +kernel⟩,
  ⟨State.reset.set Reg.KEY.STAT_NOID 1, 0, by decide +kernel⟩,
  ⟨State.reset.set (Reg.KEY.MSG 0) 0x1234567, 0, by decide +kernel⟩,
  ⟨{ State.reset with now := 30000000, key := { State.reset.key with released := some 0 } }, 0, by decide +kernel⟩,
  ⟨{ State.reset with now := 3000000, key := { State.reset.key with released := some 0 } }, by decide +kernel⟩,
  ⟨State.reset.set Reg.KEY.STAT_PRES 1, by decide +kernel⟩,
  ⟨({ State.reset with now := 70000000000, key := { State.reset.key with window := some 60000000000 } } : State).set
      Reg.KEY.STAT_WINDOW 1, by decide +kernel⟩,
  ⟨({ State.reset with key := { State.reset.key with window := some 60000000000 } } : State), by decide +kernel⟩,
  ⟨State.reset.set Reg.KEY.OWNERS_SEALEN 1, by decide +kernel⟩,
  ⟨State.reset, by decide +kernel⟩,
  ⟨(State.reset.set Reg.KEY.OWNERS_SEALEN 1).set Reg.KEY.STAT_SEAL 1, by decide +kernel⟩,
  ⟨State.reset, by decide +kernel⟩,
  ⟨((({ State.reset with now := 5000000000, key := { State.reset.key with pressed := some 0 } } : State).set
      Reg.CFG.STAT_STEP 10).set Reg.KEY.STAT_LCSTATE 2).set Reg.KEY.STAT_PRES 1, 0, by decide +kernel⟩,
  ⟨State.reset, by decide +kernel⟩⟩

/-- States and operands that meet the hypotheses of each clause of `Obligations.UpdateEngine`. -/
theorem witness_update_engine :
(∃ (s : State) (m : Nat), Quiet m s ∧ s.trialOpen = false ∧ s.get (Reg.UPD.ARG 0) % 4 ≠ 0) ∧
(∃ (s : State) (m : Nat), Quiet m s ∧ (s.trialOpen = true ∨ s.get (Reg.UPD.ARG 0) % 4 = 0)) ∧
(∃ (s : State) (m j : Nat) (w : Bool), Quiet m s ∧ s.get Reg.UPD.STAT_STATE = 1 ∧ (s.upd.fw && (!s.upd.cfg || bit (s.get
      (Reg.UPD.ARG 0)) 0)) = w ∧ s.upd.fwSlot ≤ 1 ∧ s.upd.cfgSlot ≤ 1 ∧ bit (s.get (Reg.UPD.ARG 3)) 31 = false ∧ s.get
      (Reg.UPD.ARG 2) ≤ 4096 ∧ s.get (Reg.UPD.ARG 1) + s.get (Reg.UPD.ARG 2) ≤ s.targetSize w ∧ j < s.get (Reg.UPD.ARG 2)) ∧
(∃ (s : State) (m : Nat), Quiet m s ∧ (s.get Reg.UPD.STAT_STATE ≠ 1 ∨ s.targetSize (s.upd.fw && (!s.upd.cfg || bit (s.get
      (Reg.UPD.ARG 0)) 0)) < s.get (Reg.UPD.ARG 1) + s.get (Reg.UPD.ARG 2) ∨ (bit (s.get (Reg.UPD.ARG 3)) 31 = false ∧
      4096 < s.get (Reg.UPD.ARG 2)))) ∧
(∃ (s : State) (m : Nat) (rd : StageRead), Quiet m s ∧ s.get Reg.UPD.STAT_STATE = 1 ∧ s.verifyCode rd = 0) ∧
(∃ (s : State) (m c : Nat) (rd : StageRead), Quiet m s ∧ s.get Reg.UPD.STAT_STATE = 1 ∧ s.verifyCode rd = c ∧ c ≠ 0) ∧
(∃ (s : State) (m : Nat), Quiet m s ∧ s.get Reg.UPD.STAT_STATE ≠ 1) ∧
(∃ (s : State) (m : Nat) (h : BootHdr), Quiet m s ∧ s.get Reg.UPD.STAT_STATE = 2 ∧ s.windowOpen = true ∧ 60 ≤ s.get
      (Reg.UPD.ARG 1) ∧ s.get (Reg.UPD.ARG 1) ≤ 86400 ∧ 1 ≤ s.get (Reg.UPD.ARG 2) % 16 ∧ s.get (Reg.UPD.ARG 2) % 16 ≤ 8 ∧
      s.upd.hdr = 0 ∧ s.flash.hdrA = .good h ∧ h.trial = false ∧ s.flash.fwA.head = .blank ∧ s.flash.fwB.head = .blank ∧
      s.fuses.idgen = true ∧ s.upd.fw = true) ∧
(∃ (s : State) (m c : Nat), Quiet m s ∧ s.upd.due = none ∧ s.commitCode = c ∧ c ≠ 0) ∧
(∃ (s : State) (m : Nat) (h : BootHdr) (b : Bundle), Quiet m s ∧ s.upd.hdr = 0 ∧ s.flash.hdrA = .good h ∧ s.upd.running =
      some b ∧ h.trial = true ∧ h.confirm = 0xFFFFFFFF ∧ h.valid = 0xFFFFFFFF) ∧
(∃ (s : State) (m : Nat), Quiet m s ∧ s.trialOpen = false) ∧
(∃ (s : State) (m : Nat), Quiet m s) :=
  ⟨⟨State.reset.set (Reg.UPD.ARG 0) 3, 0, by decide +kernel⟩,
  ⟨State.reset, 0, by decide +kernel⟩,
  ⟨(((({ State.reset with upd := { State.reset.upd with fw := true, fwSlot := 0 }, flash := { State.reset.flash with minsv := (0, 0) } }
      : State).set Reg.UPD.STAT_STATE 1).set (Reg.UPD.ARG 1) 0x40).set (Reg.UPD.ARG 2) 6).set (Reg.UPD.BUF 1) 0xAABBCCDD,
      0, 5, true, by decide +kernel⟩,
  ⟨State.reset, 0, by decide +kernel⟩,
  ⟨State.reset.set Reg.UPD.STAT_STATE 1, 0, ⟨none, none⟩, by decide +kernel⟩,
  ⟨(({ State.reset with upd := { State.reset.upd with fw := true }, flash := { State.reset.flash with minsv := (0, 0) } } :
      State).set Reg.UPD.STAT_STATE 1), 0, 30, ⟨none, none⟩, by decide +kernel⟩,
  ⟨State.reset, 0, by decide +kernel⟩,
  ⟨(((((({ ({ State.reset with upd := { State.reset.upd with fw := true, hdr := 0 }, flash := { State.reset.flash with hdrA := .good ⟨3, [], 0, 0, 0, false, 60, 3, 0xFFFFFFFF, 0xFFFFFFFF, 0xFFFFFFFF⟩ } } : State) with fuses := { State.reset.fuses with idgen := true }, key := { State.reset.key with window := some 60000000000 } }
      : State).set Reg.UPD.STAT_STATE 2).set Reg.KEY.STAT_WINDOW 1).set (Reg.UPD.ARG 1) 60).set (Reg.UPD.ARG 2) 3)), 0,
      ⟨3, [], 0, 0, 0, false, 60, 3, 0xFFFFFFFF, 0xFFFFFFFF, 0xFFFFFFFF⟩, by decide +kernel⟩,
  ⟨State.reset, 0, 11, by decide +kernel⟩,
  ⟨({ State.reset with upd := { State.reset.upd with hdr := 0, running := some ⟨1, 9, 0, true, [], [], []⟩ }, flash := { State.reset.flash with hdrA := .good ⟨3, [], 0, 0, 0, true, 60, 3, 0xFFFFFFFF, 0xFFFFFFFF, 0xFFFFFFFF⟩ } }
      : State), 0, ⟨3, [], 0, 0, 0, true, 60, 3, 0xFFFFFFFF, 0xFFFFFFFF, 0xFFFFFFFF⟩, ⟨1, 9, 0, true, [], [], []⟩,
      by decide +kernel⟩,
  ⟨State.reset, 0, by decide +kernel⟩,
  ⟨State.reset.set Reg.UPD.STAT_STATE 2, 0, by decide +kernel⟩⟩

/-- States and operands that meet the hypotheses of each clause of `Obligations.ChannelRequests`. -/
theorem witness_channel_requests :
(∃ (s : State) (m i : Nat) (a d eis eos : List Nat), Quiet m s ∧ s.get Reg.CHN.STAT_REQBUSY = 0 ∧ a = (List.range 8).map
      s.reqArg ∧ d = s.reqDesc a ∧ s.createCode a d = 0 ∧ s.nextEntry = some i ∧ i < 16384 ∧ allocAll s.ingUse
      (s.entrySizes a).1 = some eis ∧ allocAll s.egrUse (s.entrySizes a).2 = some eos ∧ s.pllWait a = none) ∧
(∃ (s : State) (m : Nat) (a d eis eos : List Nat) (q : Nat × Nat), Quiet m s ∧ s.get Reg.CHN.STAT_REQBUSY = 0 ∧ a =
      (List.range 8).map s.reqArg ∧ d = s.reqDesc a ∧ s.createCode a d = 0 ∧ allocAll s.ingUse (s.entrySizes a).1 = some
      eis ∧ allocAll s.egrUse (s.entrySizes a).2 = some eos ∧ s.pllWait a = some q) ∧
(∃ (s : State) (m i : Nat) (a d : List Nat), Quiet m s ∧ s.get Reg.CHN.STAT_REQBUSY = 0 ∧ a = (List.range 8).map s.reqArg
      ∧ d = s.reqDesc a ∧ argKind a = 10 ∧ s.createCode a d = 0 ∧ i = s.chn.nextIndex ∧ i < 16384) ∧
(∃ (s : State) (m i e : Nat) (a d : List Nat), Quiet m s ∧ s.get Reg.CHN.STAT_REQBUSY = 0 ∧ a = (List.range 8).map
      s.reqArg ∧ d = s.reqDesc a ∧ argKind a = 1 ∧ isGenerator a = true ∧ s.createCode a d = 0 ∧ i = s.chn.nextIndex ∧ i <
      16384 ∧ allocAll s.ingUse [fmtSize (argFmt a)] = some [e] ∧ e < 8192) ∧
(∃ (s : State) (m : Nat) (a d : List Nat) (code : Nat), Quiet m s ∧ s.get Reg.CHN.STAT_REQBUSY = 0 ∧ a = (List.range
      8).map s.reqArg ∧ d = s.reqDesc a ∧ code = s.createCode a d ∧ code ≠ 0) ∧
(∃ (s : State) (m h : Nat) (c : Chan), Quiet m s ∧ s.get Reg.CHN.STAT_REQBUSY = 0 ∧ s.get Reg.CHN.CTRL_EN = 1 ∧ h =
      s.reqArg 0 ∧ s.judgeHandle h State.anyKind = 0 ∧ s.inUseBy (State.handleIdx h) = false ∧ s.chan (State.handleIdx h)
      = some c) ∧
(∃ (s : State) (m h c : Nat), Quiet m s ∧ s.get Reg.CHN.STAT_REQBUSY = 0 ∧ h = s.reqArg 0 ∧ (c = (if s.get Reg.CHN.CTRL_EN
      = 0 then 16 else if s.judgeHandle h State.anyKind ≠ 0 then s.judgeHandle h State.anyKind else if s.inUseBy
      (State.handleIdx h) then 13 else 0)) ∧ c ≠ 0) ∧
(∃ (s : State) (m d : Nat) (x : Member), Quiet m s ∧ s.get Reg.CHN.STAT_REQBUSY = 0 ∧ x = s.reqMember ∧ x.type = 1 ∧
      s.appendCode x = 0 ∧ d = s.druseOf (s.reqArg 0) ∧ d < 4096 ∧ s.rangeFits d x = true) ∧
(∃ (s : State) (m d : Nat) (x : Member), Quiet m s ∧ s.get Reg.CHN.STAT_REQBUSY = 0 ∧ x = s.reqMember ∧ s.appendCode x = 0
      ∧ (x.type ≤ 1 ∨ s.ownSys x.sys = true) ∧ d = s.druseOf (s.reqArg 0) ∧ s.rangeFits d x = true) ∧
(∃ (s : State) (m d : Nat) (x : Member), Quiet m s ∧ s.get Reg.CHN.STAT_REQBUSY = 0 ∧ x = s.reqMember ∧ s.appendCode x = 0
      ∧ 2 ≤ x.type ∧ s.ownSys x.sys = false ∧ d = s.druseOf (s.reqArg 0) ∧ s.mirrors = false) ∧
(∃ (s : State) (m c : Nat) (x : Member), Quiet m s ∧ s.get Reg.CHN.STAT_REQBUSY = 0 ∧ x = s.reqMember ∧ (c = (if
      s.appendCode x ≠ 0 then s.appendCode x else if (x.type ≤ 1 ∨ s.ownSys x.sys = true) ∧ s.rangeFits (s.druseOf
      (s.reqArg 0)) x = false then 11 else 0)) ∧ c ≠ 0) ∧
(∃ (s : State) (m h k : Nat), Quiet m s ∧ s.get Reg.CHN.STAT_REQBUSY = 0 ∧ s.get Reg.CHN.CTRL_EN = 1 ∧ s.judgeHandle
      (s.reqArg 0) [10] = 0 ∧ s.resolvePos (bit (s.reqArg 1) 0) 4097 (s.membersOf (s.druseOf (s.reqArg 0))) (s.reqArg 2) =
      (0, k, some h)) ∧
(∃ (s : State) (m c k : Nat) (o : Option Nat), Quiet m s ∧ s.get Reg.CHN.STAT_REQBUSY = 0 ∧ s.get Reg.CHN.CTRL_EN = 1 ∧
      s.judgeHandle (s.reqArg 0) [10] = 0 ∧ s.resolvePos (bit (s.reqArg 1) 0) 4097 (s.membersOf (s.druseOf (s.reqArg 0)))
      (s.reqArg 2) = (c, k, o) ∧ c ≠ 0) ∧
(∃ (s : State) (m k : Nat), Quiet m s ∧ s.get Reg.CHN.STAT_REQBUSY = 0 ∧ s.get Reg.CHN.CTRL_EN = 1 ∧ s.judgeHandle
      (s.reqArg 0) [10] = 0 ∧ s.resolvePos (bit (s.reqArg 1) 0) 4097 (s.membersOf (s.druseOf (s.reqArg 0))) (s.reqArg 2) =
      (0, k, none)) ∧
(∃ (s : State) (m c : Nat), Quiet m s ∧ s.get Reg.CHN.STAT_REQBUSY = 0 ∧ (c = (if s.get Reg.CHN.CTRL_EN = 0 then 16 else
      s.judgeHandle (s.reqArg 0) [10])) ∧ c ≠ 0) ∧
(∃ (s : State) (m : Nat), Quiet m s ∧ s.get Reg.CHN.STAT_REQBUSY = 1) ∧
(∃ (s : State) (m d : Nat) (x : Member) (ms : List Member), Quiet m s ∧ s.get Reg.CHN.STAT_REQBUSY = 0 ∧ s.get
      Reg.CHN.CTRL_EN = 1 ∧ s.judgeHandle (s.reqArg 0) [10] = 0 ∧ d = s.druseOf (s.reqArg 0) ∧ s.membersOf d = x :: ms ∧
      x.type = 0 ∧ State.handleKind x.ref = 1 ∧ bit (s.reqArg 1) 0 = false ∧ s.reqArg 2 = 0) ∧
(∃ (s : State) (m : Nat), Quiet m s) :=
  ⟨⟨(State.reset.set Reg.CHN.CTRL_EN 1).set (Reg.CHN.REQARG 0) 0xA0000000, 0, 0, (List.range 8).map ((State.reset.set
      Reg.CHN.CTRL_EN 1).set (Reg.CHN.REQARG 0) 0xA0000000).reqArg, [], [], [], by decide +kernel⟩,
  ⟨((((State.reset.set Reg.CHN.CTRL_EN 1).set (Reg.CHN.REQARG 0) 0x20000000).set (Reg.CHN.REQARG 1) 0x1000000).set
      (Reg.LANE.CFG_TXMODE 0) 1).set (Reg.QUAD.STAT_RUN 0) 1, 0, (List.range 8).map (((((State.reset.set Reg.CHN.CTRL_EN
      1).set (Reg.CHN.REQARG 0) 0x20000000).set (Reg.CHN.REQARG 1) 0x1000000).set (Reg.LANE.CFG_TXMODE 0) 1).set
      (Reg.QUAD.STAT_RUN 0) 1).reqArg, [], [], [0], (0, 1), by decide +kernel⟩,
  ⟨(State.reset.set Reg.CHN.CTRL_EN 1).set (Reg.CHN.REQARG 0) 0xA0000000, 0, 0, (List.range 8).map ((State.reset.set
      Reg.CHN.CTRL_EN 1).set (Reg.CHN.REQARG 0) 0xA0000000).reqArg, [], by decide +kernel⟩,
  ⟨((State.reset.set Reg.CHN.CTRL_EN 1).set (Reg.CHN.REQARG 0) 0x10001000).set (Reg.CHN.REQARG 1) 0x1000000, 0, 0, 0,
      (List.range 8).map (((State.reset.set Reg.CHN.CTRL_EN 1).set (Reg.CHN.REQARG 0) 0x10001000).set (Reg.CHN.REQARG 1)
      0x1000000).reqArg, [], by decide +kernel⟩,
  ⟨(State.reset.set Reg.CHN.CTRL_EN 1), 0, (List.range 8).map (State.reset.set Reg.CHN.CTRL_EN 1).reqArg, [], 11,
      by decide +kernel⟩,
  ⟨((((({ (State.reset.set Reg.CHN.CTRL_EN 1) with chn := { State.reset.chn with chans := [(3, ⟨10, [], [], 0, 5, true, 0, 0, 0, [], []⟩)], druses := [(5, [])], nextIndex := 4 } }
      : State)).set (Reg.CHN.ENT_HANDLE 3) (State.mkHandle 10 3 7)).set (Reg.CHN.ENT_STATE_STATE 3) 1).set (Reg.CHN.REQARG
      0) (State.mkHandle 10 3 7)).set (Reg.CHN.DRU_HANDLE 5) (State.mkHandle 10 3 7), 0, State.mkHandle 10 3 7, ⟨10, [],
      [], 0, 5, true, 0, 0, 0, [], []⟩, by decide +kernel⟩,
  ⟨(State.reset.set Reg.CHN.CTRL_EN 1), 0, 0, 2, by decide +kernel⟩,
  ⟨(((((({ (State.reset.set Reg.CHN.CTRL_EN 1) with chn := { State.reset.chn with chans := [(3, ⟨10, [], [], 0, 5, true, 0, 0, 0, [], []⟩)], druses := [(5, [])], nextIndex := 4 } }
      : State)).set (Reg.CHN.ENT_HANDLE 3) (State.mkHandle 10 3 7)).set (Reg.CHN.ENT_STATE_STATE 3) 1).set (Reg.CHN.REQARG
      0) (State.mkHandle 10 3 7)).set (Reg.CHN.DRU_HANDLE 5) (State.mkHandle 10 3 7)).set (Reg.CHN.REQARG 1) 0x10000000
      |>.set (Reg.LANE.CFG_RXMODE 0) 1, 0, 5, ⟨1, 0, 0, 0, 0⟩, by decide +kernel⟩,
  ⟨(((((({ (State.reset.set Reg.CHN.CTRL_EN 1) with chn := { State.reset.chn with chans := [(3, ⟨10, [], [], 0, 5, true, 0, 0, 0, [], []⟩)], druses := [(5, [])], nextIndex := 4 } }
      : State)).set (Reg.CHN.ENT_HANDLE 3) (State.mkHandle 10 3 7)).set (Reg.CHN.ENT_STATE_STATE 3) 1).set (Reg.CHN.REQARG
      0) (State.mkHandle 10 3 7)).set (Reg.CHN.DRU_HANDLE 5) (State.mkHandle 10 3 7)).set (Reg.CHN.REQARG 1) 0x10000000
      |>.set (Reg.LANE.CFG_RXMODE 0) 1, 0, 5, ⟨1, 0, 0, 0, 0⟩, by decide +kernel⟩,
  ⟨(((((({ (State.reset.set Reg.CHN.CTRL_EN 1) with chn := { State.reset.chn with chans := [(3, ⟨10, [], [], 0, 5, true, 0, 0, 0, [], []⟩)], druses := [(5, [])], nextIndex := 4 } }
      : State)).set (Reg.CHN.ENT_HANDLE 3) (State.mkHandle 10 3 7)).set (Reg.CHN.ENT_STATE_STATE 3) 1).set (Reg.CHN.REQARG
      0) (State.mkHandle 10 3 7)).set (Reg.CHN.DRU_HANDLE 5) (State.mkHandle 10 3 7)).set (Reg.CHN.REQARG 1) 0x20000000
      |>.set (Reg.CHN.REQARG 2) 9 |>.set (Reg.CHN.REQARG 3) 77, 0, 5, State.reqMember
      ((((((({ (State.reset.set Reg.CHN.CTRL_EN 1) with chn := { State.reset.chn with chans := [(3, ⟨10, [], [], 0, 5, true, 0, 0, 0, [], []⟩)], druses := [(5, [])], nextIndex := 4 } }
      : State)).set (Reg.CHN.ENT_HANDLE 3) (State.mkHandle 10 3 7)).set (Reg.CHN.ENT_STATE_STATE 3) 1).set (Reg.CHN.REQARG
      0) (State.mkHandle 10 3 7)).set (Reg.CHN.DRU_HANDLE 5) (State.mkHandle 10 3 7)).set (Reg.CHN.REQARG 1) 0x20000000
      |>.set (Reg.CHN.REQARG 2) 9 |>.set (Reg.CHN.REQARG 3) 77), by decide +kernel⟩,
  ⟨(State.reset.set Reg.CHN.CTRL_EN 1), 0, 2, State.reqMember (State.reset.set Reg.CHN.CTRL_EN 1), by decide +kernel⟩,
  ⟨((((({ (State.reset.set Reg.CHN.CTRL_EN 1) with chn := { State.reset.chn with chans := [(3, ⟨10, [], [], 0, 5, true, 0, 0, 0, [], []⟩)], druses := [(5, [⟨0, 2, 0x10004001, 0, 0⟩])], nextIndex := 4 } }
      : State)).set (Reg.CHN.ENT_HANDLE 3) (State.mkHandle 10 3 7)).set (Reg.CHN.ENT_STATE_STATE 3) 1).set (Reg.CHN.REQARG
      0) (State.mkHandle 10 3 7)).set (Reg.CHN.DRU_HANDLE 5) (State.mkHandle 10 3 7), 0, 0x10004001, 2, by decide +kernel⟩,
  ⟨((((({ (State.reset.set Reg.CHN.CTRL_EN 1) with chn := { State.reset.chn with chans := [(3, ⟨10, [], [], 0, 5, true, 0, 0, 0, [], []⟩)], druses := [(5, [])], nextIndex := 4 } }
      : State)).set (Reg.CHN.ENT_HANDLE 3) (State.mkHandle 10 3 7)).set (Reg.CHN.ENT_STATE_STATE 3) 1).set (Reg.CHN.REQARG
      0) (State.mkHandle 10 3 7)).set (Reg.CHN.DRU_HANDLE 5) (State.mkHandle 10 3 7), 0, 11, 0, none, by decide +kernel⟩,
  ⟨((((({ (State.reset.set Reg.CHN.CTRL_EN 1) with chn := { State.reset.chn with chans := [(3, ⟨10, [], [], 0, 5, true, 0, 0, 0, [], []⟩)], druses := [(5, [⟨2, 9, 77, 5, 5⟩])], nextIndex := 4 } }
      : State)).set (Reg.CHN.ENT_HANDLE 3) (State.mkHandle 10 3 7)).set (Reg.CHN.ENT_STATE_STATE 3) 1).set (Reg.CHN.REQARG
      0) (State.mkHandle 10 3 7)).set (Reg.CHN.DRU_HANDLE 5) (State.mkHandle 10 3 7), 0, 9, by decide +kernel⟩,
  ⟨(State.reset.set Reg.CHN.CTRL_EN 1), 0, 2, by decide +kernel⟩,
  ⟨State.reset.set Reg.CHN.STAT_REQBUSY 1, 0, by decide +kernel⟩,
  ⟨((((({ (State.reset.set Reg.CHN.CTRL_EN 1) with chn := { State.reset.chn with chans := [(3, ⟨10, [], [], 0, 5, true, 0, 0, 0, [], []⟩)], druses := [(5, [⟨0, 2, 0x10004001, 0, 0⟩])], nextIndex := 4 } }
      : State)).set (Reg.CHN.ENT_HANDLE 3) (State.mkHandle 10 3 7)).set (Reg.CHN.ENT_STATE_STATE 3) 1).set (Reg.CHN.REQARG
      0) (State.mkHandle 10 3 7)).set (Reg.CHN.DRU_HANDLE 5) (State.mkHandle 10 3 7), 0, 5, ⟨0, 2, 0x10004001, 0, 0⟩, [],
      by decide +kernel⟩,
  ⟨State.reset.set Reg.CHN.COUNT_USED 16000, 0, by decide +kernel⟩⟩

/-- States and operands that meet the hypotheses of each clause of `Obligations.ClaimsReleaseAndFrameInstants`. -/
theorem witness_claims_release_and_frame_instants :
(∃ (s : State) (code h ins outs : Nat) (c : Claim), s.chn.claim = some c ∧ code % 32 = 0 ∧ (s.rangeFits c.druse
      { c.member with ref := if c.member.type = 3 then h else c.member.ref, ins := ins, outs := outs } = true)) ∧
(∃ (s : State) (code : Nat) (c : Claim), s.chn.claim = some c ∧ code % 32 ≠ 0) ∧
(∃ (s : State) (code h ins outs : Nat) (c : Claim), s.chn.claim = some c ∧ code % 32 = 0 ∧ (s.rangeFits c.druse
      { c.member with ref := if c.member.type = 3 then h else c.member.ref, ins := ins, outs := outs } = false)) ∧
(State.reset.chn.claim = none) ∧
(∃ (s : State) (c : Claim), s.chn.claim = some c ∧ s.now < c.since + 50000000 ∧ c.sent + 20000000 ≤ s.now ∧ s.twin.owed =
      []) ∧
(∃ (s : State) (c : Claim), s.chn.claim = some c ∧ s.now < c.since + 50000000 ∧ s.now < c.sent + 20000000 ∧ s.twin.owed =
      []) ∧
(∃ (s : State) (c : Claim), s.chn.claim = some c ∧ c.since + 50000000 ≤ s.now) ∧
(∃ (s : State) (i : Nat) (c : Chan), s.chan i = some c ∧ i < 16384 ∧ c.live = false ∧ s.released i c = true) ∧
(∃ (s : State) (i : Nat), ((s.chan i).all (fun c => c.live || !s.released i c) = true)) ∧
(∃ (s : State), (s.fab.compact = none ∨ s.movesDone = false)) ∧
(∃ (s : State) (w : CreateWait) (i : Nat) (eis eos : List Nat), s.fab.compact.isSome = true ∧ s.movesDone = true ∧
      s.chn.waiting = some w ∧ w.retune = false ∧ s.nextEntry = some i ∧ i < 16384 ∧ allocAll s.ingUse (s.entrySizes
      w.args).1 = some eis ∧ allocAll s.egrUse (s.entrySizes w.args).2 = some eos ∧ s.pllWait w.args = none) ∧
(∃ (s : State), s.fab.compact.isSome = true ∧ s.movesDone = true ∧ s.chn.waiting = none ∧ (∀ g ∈ List.range 8, (s.micaHw
      g).waitBind = none) ∧ ((s.lanes.lanes.all fun p => !p.2.starting) = true)) ∧
(∃ (s : State) (q p : Nat), q < 128 ∧ p < 2 ∧ s.quadRuns q = true ∧ s.get (State.pllRetuneF q p) = 1 ∧ s.chn.waiting =
      none) ∧
(∃ (s : State) (q p i f : Nat) (w : CreateWait) (eis eos : List Nat), q < 128 ∧ p < 2 ∧ s.quadRuns q = true ∧ s.get
      (State.pllRetuneF q p) = 1 ∧ s.chn.waiting = some w ∧ w.retune = true ∧ w.quad = q ∧ w.pll = p ∧ argLane w.args / 4
      = q ∧ f = fmtFamily (argFmt w.args) ∧ s.pllFor q f = some p ∧ s.get (State.pllFamilyF q p) = f ∧ s.nextEntry = some
      i ∧ i < 16384 ∧ allocAll s.ingUse (s.entrySizes w.args).1 = some eis ∧ allocAll s.egrUse (s.entrySizes w.args).2 =
      some eos) ∧
(∃ (s : State) (q p : Nat), (s.quadRuns q = false ∨ s.get (State.pllRetuneF q p) = 0)) ∧
(∃ (s : State) (q p : Nat), (s.chn.waiting.all (fun w => !w.retune || w.quad != q || w.pll != p) = true ∨ s.get
      (State.pllRetuneF q p) = 0 ∨ s.pllOverdue q p = false)) ∧
(∃ (s : State) (q p : Nat) (w : CreateWait), q < 128 ∧ p < 2 ∧ s.chn.waiting = some w ∧ w.retune = true ∧ w.quad = q ∧
      w.pll = p ∧ s.get (State.pllRetuneF q p) = 1 ∧ s.pllOverdue q p = true) ∧
(∃ (p : Nat), p < 16) ∧
(∃ (p : Nat), 16 ≤ p) :=
  ⟨⟨({ (State.reset.set Reg.CHN.CTRL_EN 1) with chn := { State.reset.chn with chans := [(3, ⟨10, [], [], 0, 5, true, 0, 0, 0, [], []⟩)], druses := [(5, [])], claim := some ⟨5, ⟨2, 9, 77, 0, 0⟩, 0, 0⟩ } }
      : State), 0, 0, 4, 6, ⟨5, ⟨2, 9, 77, 0, 0⟩, 0, 0⟩, by decide +kernel⟩,
  ⟨({ (State.reset.set Reg.CHN.CTRL_EN 1) with chn := { State.reset.chn with chans := [(3, ⟨10, [], [], 0, 5, true, 0, 0, 0, [], []⟩)], druses := [(5, [])], claim := some ⟨5, ⟨2, 9, 77, 0, 0⟩, 0, 0⟩ } }
      : State), 13, ⟨5, ⟨2, 9, 77, 0, 0⟩, 0, 0⟩, by decide +kernel⟩,
  ⟨({ (State.reset.set Reg.CHN.CTRL_EN 1) with chn := { State.reset.chn with chans := [(3, ⟨10, [], [], 0, 5, true, 0, 0, 0, [], []⟩)], druses := [(5, [])], claim := some ⟨5, ⟨2, 9, 77, 0, 0⟩, 0, 0⟩ } }
      : State), 0, 0, 0x80000001, 6, ⟨5, ⟨2, 9, 77, 0, 0⟩, 0, 0⟩, by decide +kernel⟩,
  by decide +kernel,
  ⟨({ ({ (State.reset.set Reg.CHN.CTRL_EN 1) with chn := { State.reset.chn with chans := [(3, ⟨10, [], [], 0, 5, true, 0, 0, 0, [], []⟩)], druses := [(5, [])], claim := some ⟨5, ⟨2, 9, 77, 0, 0⟩, 0, 0⟩ } } : State) with now := 20000000 }
      : State), ⟨5, ⟨2, 9, 77, 0, 0⟩, 0, 0⟩, by decide +kernel⟩,
  ⟨({ (State.reset.set Reg.CHN.CTRL_EN 1) with chn := { State.reset.chn with chans := [(3, ⟨10, [], [], 0, 5, true, 0, 0, 0, [], []⟩)], druses := [(5, [])], claim := some ⟨5, ⟨2, 9, 77, 0, 0⟩, 0, 0⟩ } }
      : State), ⟨5, ⟨2, 9, 77, 0, 0⟩, 0, 0⟩, by decide +kernel⟩,
  ⟨({ ({ (State.reset.set Reg.CHN.CTRL_EN 1) with chn := { State.reset.chn with chans := [(3, ⟨10, [], [], 0, 5, true, 0, 0, 0, [], []⟩)], druses := [(5, [])], claim := some ⟨5, ⟨2, 9, 77, 0, 0⟩, 0, 0⟩ } } : State) with now := 50000000 }
      : State), ⟨5, ⟨2, 9, 77, 0, 0⟩, 0, 0⟩, by decide +kernel⟩,
  ⟨(({ (State.reset.set Reg.CHN.CTRL_EN 1) with chn := { State.reset.chn with chans := [(3, ⟨10, [], [], 0, 5, false, 0, 0, 0, [], []⟩)], druses := [(5, [])] } }
      : State).set (Reg.CHN.ENT_STATE_STATE 3) 2), 3, ⟨10, [], [], 0, 5, false, 0, 0, 0, [], []⟩, by decide +kernel⟩,
  ⟨State.reset, 3, by decide +kernel⟩,
  ⟨State.reset, by decide +kernel⟩,
  ⟨({ (State.reset.set (Reg.CHN.REQARG 0) 0x10001000) with fab := { State.reset.fab with compact := some .create }, chn := { State.reset.chn with waiting := some ⟨[0x10001000, 0x1000000], [], false, false, 0, 0, (0, 0, 0)⟩ } }
      : State).set Reg.FAB.STAT_COMPACTING 1, ⟨[0x10001000, 0x1000000], [], false, false, 0, 0, (0, 0, 0)⟩, 0, [0], [],
      by decide +kernel⟩,
  ⟨({ State.reset with fab := { State.reset.fab with compact := some .create } } : State).set Reg.FAB.STAT_COMPACTING 1,
      by decide +kernel⟩,
  ⟨(State.reset.set (Reg.QUAD.STAT_RUN 4) 1).set (State.pllRetuneF 4 1) 1, 4, 1, by decide +kernel⟩,
  ⟨((({ State.reset with chn := { State.reset.chn with waiting := some ⟨[0x20000000, 0x1000000], [], false, true, 0, 0, (0, 0, 0)⟩ } }
      : State).set (State.pllRetuneF 0 0) 1).set (Reg.QUAD.STAT_RUN 0) 1).set (State.pllFamilyF 0 0) (fmtFamily 0x1000000)
      |>.set (Reg.LANE.CFG_TXMODE 0) 1 |>.set (Reg.LANE.TXSTAT_FAMILY 0) (fmtFamily 0x1000000), 0, 0, 0, fmtFamily
      0x1000000, ⟨[0x20000000, 0x1000000], [], false, true, 0, 0, (0, 0, 0)⟩, [], [0], by decide +kernel⟩,
  ⟨State.reset, 4, 1, by decide +kernel⟩,
  ⟨State.reset, 4, 1, by decide +kernel⟩,
  ⟨({ State.reset with now := 10000000, chn := { State.reset.chn with waiting := some ⟨[0x20000000], [], false, true, 4, 1, (0, 0, 0)⟩ } }
      : State).set (State.pllRetuneF 4 1) 1, 4, 1, ⟨[0x20000000], [], false, true, 4, 1, (0, 0, 0)⟩, by decide +kernel⟩,
  ⟨3, by decide +kernel⟩,
  ⟨16, by decide +kernel⟩⟩

/-- States and operands that meet the hypotheses of each clause of `Obligations.TakesAndLocks`. -/
theorem witness_takes_and_locks :
(∃ (s : State) (m peer : Nat) (i : Nat), Quiet m s ∧ peer < 256 ∧ s.get Reg.FAB.TESTAT_BUSY = 0 ∧ s.get Reg.FAB.CTRL_EN =
      1 ∧ s.judgeTake (s.takeArg 0) (s.takeArg 1) (s.takeArg 5) peer (bit (s.takeArg 4) 0) = 0 ∧ s.takeInstant ≤ s.timeNs
      ∧ i = State.handleIdx (s.takeArg 0)) ∧
(∃ (s : State) (m peer : Nat) (i : Nat) (old : TakeRec), Quiet m s ∧ peer < 256 ∧ s.get Reg.FAB.TESTAT_BUSY = 0 ∧ s.get
      Reg.FAB.CTRL_EN = 1 ∧ s.judgeTake (s.takeArg 0) (s.takeArg 1) (s.takeArg 5) peer (bit (s.takeArg 4) 0) = 0 ∧
      s.takeInstant = 0 ∧ i = State.handleIdx (s.takeArg 0) ∧ (s.outTakes i).pend = some old ∧ s.fab.tcq = []) ∧
(∃ (s : State) (m peer : Nat) (k : Nat), Quiet m s ∧ peer < 256 ∧ s.get Reg.FAB.TESTAT_BUSY = 0 ∧ s.get Reg.FAB.CTRL_EN =
      1 ∧ s.judgeTake (s.takeArg 0) (s.takeArg 1) (s.takeArg 5) peer (bit (s.takeArg 4) 0) = 0 ∧ s.timeNs < s.takeInstant
      ∧ ((List.range 4096).find? (fun j => Assoc.find s.fab.sched j == none) = some k)) ∧
(∃ (s : State) (m peer : Nat), Quiet m s ∧ peer < 256 ∧ s.get Reg.FAB.TESTAT_BUSY = 0 ∧ s.get Reg.FAB.CTRL_EN = 1 ∧
      s.judgeTake (s.takeArg 0) (s.takeArg 1) (s.takeArg 5) peer (bit (s.takeArg 4) 0) = 0 ∧ s.timeNs < s.takeInstant ∧
      ((List.range 4096).find? (fun j => Assoc.find s.fab.sched j == none) = none)) ∧
(∃ (s : State) (m peer : Nat) (c : Nat), Quiet m s ∧ peer < 256 ∧ s.get Reg.FAB.TESTAT_BUSY = 0 ∧ s.get Reg.FAB.CTRL_EN =
      1 ∧ s.judgeTake (s.takeArg 0) (s.takeArg 1) (s.takeArg 5) peer (bit (s.takeArg 4) 0) = c ∧ c ≠ 0) ∧
(∃ (s : State) (m peer : Nat), Quiet m s ∧ peer < 256 ∧ s.get Reg.FAB.TESTAT_BUSY = 1) ∧
(∃ (s : State) (m peer : Nat), Quiet m s ∧ peer < 256 ∧ s.get Reg.FAB.TESTAT_BUSY = 0 ∧ s.get Reg.FAB.CTRL_EN = 0) ∧
(∃ (s : State) (m peer : Nat), Quiet m s ∧ peer < 256 ∧ s.get Reg.FAB.TESTAT_BUSY = 0 ∧ s.get Reg.FAB.CTRL_EN = 1 ∧
      s.takeArg 5 = s.get Reg.CHN.EPOCH ∧ s.judgeHandle (s.takeArg 0) State.anyKind = 0 ∧ bit (s.takeArg 4) 0 = true ∧
      State.outKinds.contains (State.handleKind (s.takeArg 0)) = true ∧ s.get (Reg.FAB.RT_LOCK (State.handleIdx (s.takeArg
      0))) = 1) ∧
(∃ (s : State) (m peer : Nat) (k : Nat) (x : SchedTake), Quiet m s ∧ peer < 256 ∧ s.get Reg.FAB.TESTAT_BUSY = 0 ∧ s.get
      Reg.FAB.CTRL_EN = 1 ∧ s.takeEpochOk = true ∧ k = s.takeArg 0 % 4096 ∧ Assoc.find s.fab.sched k = some x ∧ s.schedId
      k = s.takeArg 0 % 65536 ∧ x.latched = false ∧ s.fab.tcq = []) ∧
(∃ (s : State) (m peer : Nat), Quiet m s ∧ peer < 256 ∧ s.get Reg.FAB.TESTAT_BUSY = 0 ∧ s.get Reg.FAB.CTRL_EN = 1 ∧
      s.takeEpochOk = true ∧ ((Assoc.find s.fab.sched (s.takeArg 0 % 4096)).all (fun x => x.latched || s.schedId
      (s.takeArg 0 % 4096) != s.takeArg 0 % 65536) = true) ∧ s.prov.inverted = []) ∧
(∃ (s : State) (m peer : Nat) (i : Nat), Quiet m s ∧ peer < 256 ∧ s.get Reg.FAB.TESTAT_BUSY = 0 ∧ s.get Reg.FAB.CTRL_EN =
      1 ∧ s.lockTarget = 0 ∧ i = State.handleIdx (s.takeArg 0) ∧ s.lockHeld i peer = 0 ∧ s.salvoHolds i peer = false) ∧
(∃ (s : State) (m peer : Nat) (i : Nat), Quiet m s ∧ peer < 256 ∧ s.get Reg.FAB.TESTAT_BUSY = 0 ∧ s.get Reg.FAB.CTRL_EN =
      1 ∧ s.lockTarget = 0 ∧ i = State.handleIdx (s.takeArg 0) ∧ s.lockHeld i peer = 0 ∧ s.salvoHolds i peer = false) ∧
(∃ (s : State) (m peer : Nat) (i : Nat), Quiet m s ∧ peer < 256 ∧ s.get Reg.FAB.TESTAT_BUSY = 0 ∧ s.get Reg.FAB.CTRL_EN =
      1 ∧ s.lockTarget = 0 ∧ i = State.handleIdx (s.takeArg 0) ∧ (s.get (Reg.FAB.RT_OWNER i) = peer ∨ s.get
      (Reg.FAB.RT_LOCK i) = 0)) ∧
(∃ (s : State) (m peer : Nat) (i : Nat), Quiet m s ∧ peer < 256 ∧ s.get Reg.FAB.TESTAT_BUSY = 0 ∧ s.get Reg.FAB.CTRL_EN =
      1 ∧ s.lockTarget = 0 ∧ i = State.handleIdx (s.takeArg 0) ∧ (s.get (Reg.FAB.RT_OWNER i) = peer ∨ s.get
      (Reg.FAB.RT_PROTECT i) = 0)) ∧
(∃ (s : State) (m peer : Nat) (i c : Nat), Quiet m s ∧ peer < 256 ∧ s.get Reg.FAB.TESTAT_BUSY = 0 ∧ s.get Reg.FAB.CTRL_EN
      = 1 ∧ i = State.handleIdx (s.takeArg 0) ∧ (c = (if s.lockTarget ≠ 0 then s.lockTarget else if s.lockHeld i peer ≠ 0
      then s.lockHeld i peer else if s.salvoHolds i peer then 13 else 0)) ∧ c ≠ 0) ∧
(∃ (s : State) (m peer : Nat) (i c : Nat), Quiet m s ∧ peer < 256 ∧ s.get Reg.FAB.TESTAT_BUSY = 0 ∧ s.get Reg.FAB.CTRL_EN
      = 1 ∧ i = State.handleIdx (s.takeArg 0) ∧ (c = (if s.lockTarget ≠ 0 then s.lockTarget else if s.lockHeld i peer ≠ 0
      then s.lockHeld i peer else if s.salvoHolds i peer then 13 else 0)) ∧ c ≠ 0) ∧
(∃ (s : State) (m peer : Nat) (i c : Nat), Quiet m s ∧ peer < 256 ∧ s.get Reg.FAB.TESTAT_BUSY = 0 ∧ s.get Reg.FAB.CTRL_EN
      = 1 ∧ i = State.handleIdx (s.takeArg 0) ∧ (c = (if s.lockTarget ≠ 0 then s.lockTarget else if s.get (Reg.FAB.RT_LOCK
      i) = 1 ∧ s.get (Reg.FAB.RT_OWNER i) ≠ peer then 22 else 0)) ∧ c ≠ 0) ∧
(∃ (s : State) (m peer : Nat) (i c : Nat), Quiet m s ∧ peer < 256 ∧ s.get Reg.FAB.TESTAT_BUSY = 0 ∧ s.get Reg.FAB.CTRL_EN
      = 1 ∧ i = State.handleIdx (s.takeArg 0) ∧ (c = (if s.lockTarget ≠ 0 then s.lockTarget else if s.get
      (Reg.FAB.RT_PROTECT i) = 1 ∧ s.get (Reg.FAB.RT_OWNER i) ≠ peer then 23 else 0)) ∧ c ≠ 0) :=
  ⟨⟨((((State.reset.set Reg.FAB.CTRL_EN 1).set (Reg.CHN.ENT_HANDLE 1) (State.mkHandle 2 1 5)).set (Reg.CHN.ENT_STATE_STATE 1)
      1).set (Reg.FAB.TAKEARG 0) (State.mkHandle 2 1 5)).set (Reg.FAB.TAKEARG 4) 1, 0, 7, 1, by decide +kernel⟩,
  ⟨({ (((((State.reset.set Reg.FAB.CTRL_EN 1).set (Reg.CHN.ENT_HANDLE 1) (State.mkHandle 2 1 5)).set (Reg.CHN.ENT_STATE_STATE 1) 1).set (Reg.FAB.TAKEARG 0) (State.mkHandle 2 1 5)).set (Reg.FAB.TAKEARG 4) 1) with fab := { State.reset.fab with outs := [(1, ⟨some ⟨0, 3, 9, 0, 0⟩, none⟩)] } }
      : State), 0, 7, 1, ⟨0, 3, 9, 0, 0⟩, by decide +kernel⟩,
  ⟨((((State.reset.set Reg.FAB.CTRL_EN 1).set (Reg.CHN.ENT_HANDLE 1) (State.mkHandle 2 1 5)).set (Reg.CHN.ENT_STATE_STATE 1)
      1).set (Reg.FAB.TAKEARG 0) (State.mkHandle 2 1 5)).set (Reg.FAB.TAKEARG 4) 1 |>.set (Reg.FAB.TAKEARG 2) 900, 0, 7,
      0, by decide +kernel⟩,
  ⟨({ (((((State.reset.set Reg.FAB.CTRL_EN 1).set (Reg.CHN.ENT_HANDLE 1) (State.mkHandle 2 1 5)).set (Reg.CHN.ENT_STATE_STATE 1) 1).set (Reg.FAB.TAKEARG 0) (State.mkHandle 2 1 5)).set (Reg.FAB.TAKEARG 4) 1) with fab := { State.reset.fab with sched := (List.range 4096).map fun k => (k, ⟨1, 900, false, false, ⟨0, 3, 9, 0, 0⟩⟩) } }
      : State) |>.set (Reg.FAB.TAKEARG 2) 900, 0, 7, by decide +kernel, by decide +kernel, by decide +kernel,
      by decide +kernel, by decide +kernel, by decide +kernel, Tests.find_full 4096 ⟨1, 900, false, false, ⟨0, 3, 9, 0,
      0⟩⟩ _ (by rw [Sys2Proof.Machine.State.set_fab])⟩,
  ⟨((((State.reset.set Reg.FAB.CTRL_EN 1).set (Reg.CHN.ENT_HANDLE 1) (State.mkHandle 2 1 5)).set (Reg.CHN.ENT_STATE_STATE 1)
      1).set (Reg.FAB.TAKEARG 0) (State.mkHandle 2 1 5)).set (Reg.FAB.TAKEARG 4) 1 |>.set (Reg.FAB.TAKEARG 5) 9, 0, 7, 3,
      by decide +kernel⟩,
  ⟨State.reset.set Reg.FAB.TESTAT_BUSY 1, 0, 7, by decide +kernel⟩,
  ⟨State.reset, 0, 7, by decide +kernel⟩,
  ⟨((((State.reset.set Reg.FAB.CTRL_EN 1).set (Reg.CHN.ENT_HANDLE 1) (State.mkHandle 2 1 5)).set (Reg.CHN.ENT_STATE_STATE 1)
      1).set (Reg.FAB.TAKEARG 0) (State.mkHandle 2 1 5)).set (Reg.FAB.TAKEARG 4) 1 |>.set (Reg.FAB.RT_LOCK 1) 1, 0, 7,
      by decide +kernel⟩,
  ⟨({ (((((State.reset.set Reg.FAB.CTRL_EN 1).set (Reg.CHN.ENT_HANDLE 1) (State.mkHandle 2 1 5)).set (Reg.CHN.ENT_STATE_STATE 1) 1).set (Reg.FAB.TAKEARG 0) (State.mkHandle 2 1 5)).set (Reg.FAB.TAKEARG 4) 1) with fab := { State.reset.fab with sched := [(3, ⟨1, 900, false, false, ⟨0, 3, 9, 0, 0⟩⟩)] } }
      : State).set (Reg.FAB.TAKEARG 0) 3, 0, 7, 3, ⟨1, 900, false, false, ⟨0, 3, 9, 0, 0⟩⟩, by decide +kernel⟩,
  ⟨((((State.reset.set Reg.FAB.CTRL_EN 1).set (Reg.CHN.ENT_HANDLE 1) (State.mkHandle 2 1 5)).set (Reg.CHN.ENT_STATE_STATE 1)
      1).set (Reg.FAB.TAKEARG 0) (State.mkHandle 2 1 5)).set (Reg.FAB.TAKEARG 4) 1, 0, 7, by decide +kernel⟩,
  ⟨((((State.reset.set Reg.FAB.CTRL_EN 1).set (Reg.CHN.ENT_HANDLE 1) (State.mkHandle 2 1 5)).set (Reg.CHN.ENT_STATE_STATE 1)
      1).set (Reg.FAB.TAKEARG 0) (State.mkHandle 2 1 5)).set (Reg.FAB.TAKEARG 4) 1, 0, 7, 1, by decide +kernel⟩,
  ⟨((((State.reset.set Reg.FAB.CTRL_EN 1).set (Reg.CHN.ENT_HANDLE 1) (State.mkHandle 2 1 5)).set (Reg.CHN.ENT_STATE_STATE 1)
      1).set (Reg.FAB.TAKEARG 0) (State.mkHandle 2 1 5)).set (Reg.FAB.TAKEARG 4) 1, 0, 7, 1, by decide +kernel⟩,
  ⟨((((State.reset.set Reg.FAB.CTRL_EN 1).set (Reg.CHN.ENT_HANDLE 1) (State.mkHandle 2 1 5)).set (Reg.CHN.ENT_STATE_STATE 1)
      1).set (Reg.FAB.TAKEARG 0) (State.mkHandle 2 1 5)).set (Reg.FAB.TAKEARG 4) 1 |>.set (Reg.FAB.RT_LOCK 1) 1 |>.set
      (Reg.FAB.RT_OWNER 1) 7, 0, 7, 1, by decide +kernel⟩,
  ⟨((((State.reset.set Reg.FAB.CTRL_EN 1).set (Reg.CHN.ENT_HANDLE 1) (State.mkHandle 2 1 5)).set (Reg.CHN.ENT_STATE_STATE 1)
      1).set (Reg.FAB.TAKEARG 0) (State.mkHandle 2 1 5)).set (Reg.FAB.TAKEARG 4) 1 |>.set (Reg.FAB.RT_PROTECT 1) 1 |>.set
      (Reg.FAB.RT_OWNER 1) 7, 0, 7, 1, by decide +kernel⟩,
  ⟨((((State.reset.set Reg.FAB.CTRL_EN 1).set (Reg.CHN.ENT_HANDLE 1) (State.mkHandle 2 1 5)).set (Reg.CHN.ENT_STATE_STATE 1)
      1).set (Reg.FAB.TAKEARG 0) (State.mkHandle 2 1 5)).set (Reg.FAB.TAKEARG 4) 1 |>.set (Reg.FAB.RT_LOCK 1) 1 |>.set
      (Reg.FAB.RT_OWNER 1) 9, 0, 7, 1, 22, by decide +kernel⟩,
  ⟨((((State.reset.set Reg.FAB.CTRL_EN 1).set (Reg.CHN.ENT_HANDLE 1) (State.mkHandle 2 1 5)).set (Reg.CHN.ENT_STATE_STATE 1)
      1).set (Reg.FAB.TAKEARG 0) (State.mkHandle 2 1 5)).set (Reg.FAB.TAKEARG 4) 1 |>.set (Reg.FAB.RT_LOCK 1) 1 |>.set
      (Reg.FAB.RT_OWNER 1) 9, 0, 7, 1, 22, by decide +kernel⟩,
  ⟨((((State.reset.set Reg.FAB.CTRL_EN 1).set (Reg.CHN.ENT_HANDLE 1) (State.mkHandle 2 1 5)).set (Reg.CHN.ENT_STATE_STATE 1)
      1).set (Reg.FAB.TAKEARG 0) (State.mkHandle 2 1 5)).set (Reg.FAB.TAKEARG 4) 1 |>.set (Reg.FAB.RT_LOCK 1) 1 |>.set
      (Reg.FAB.RT_OWNER 1) 9, 0, 7, 1, 22, by decide +kernel⟩,
  ⟨((((State.reset.set Reg.FAB.CTRL_EN 1).set (Reg.CHN.ENT_HANDLE 1) (State.mkHandle 2 1 5)).set (Reg.CHN.ENT_STATE_STATE 1)
      1).set (Reg.FAB.TAKEARG 0) (State.mkHandle 2 1 5)).set (Reg.FAB.TAKEARG 4) 1 |>.set (Reg.FAB.RT_PROTECT 1) 1 |>.set
      (Reg.FAB.RT_OWNER 1) 9, 0, 7, 1, 23, by decide +kernel⟩⟩

/-- States and operands that meet the hypotheses of each clause of `Obligations.Salvos`. -/
theorem witness_salvos :
(∃ (s : State) (m peer : Nat) (v : Nat), Quiet m s ∧ peer < 256 ∧ s.get Reg.FAB.TESTAT_BUSY = 0 ∧ s.get Reg.FAB.CTRL_EN =
      1 ∧ s.takeEpochOk = true ∧ ((s.fab.salvos.find? fun p => p.2.gid == s.takeArg 0) = none) ∧ (((List.range 32).find?
      fun k => Assoc.find s.fab.salvos k == none) = some v)) ∧
(∃ (s : State) (m peer : Nat) (p : Nat × Salvo), Quiet m s ∧ peer < 256 ∧ s.get Reg.FAB.TESTAT_BUSY = 0 ∧ s.get
      Reg.FAB.CTRL_EN = 1 ∧ s.takeEpochOk = true ∧ ((s.fab.salvos.find? fun p => p.2.gid == s.takeArg 0) = some p) ∧ p.1 <
      65536) ∧
(∃ (s : State) (m peer : Nat), Quiet m s ∧ peer < 256 ∧ s.get Reg.FAB.TESTAT_BUSY = 0 ∧ s.get Reg.FAB.CTRL_EN = 1 ∧
      s.takeEpochOk = true ∧ ((s.fab.salvos.find? fun p => p.2.gid == s.takeArg 0) = none) ∧ (((List.range 32).find? fun k
      => Assoc.find s.fab.salvos k == none) = none)) ∧
(∃ (s : State) (m peer : Nat) (v : Nat) (x : Salvo), Quiet m s ∧ peer < 256 ∧ s.get Reg.FAB.TESTAT_BUSY = 0 ∧ s.get
      Reg.FAB.CTRL_EN = 1 ∧ s.takeEpochOk = true ∧ v = s.takeArg 0 % 32 ∧ Assoc.find s.fab.salvos v = some x ∧ x.armed =
      none ∧ s.get Reg.FAB.SALV_TAKES < 8192 ∧ x.takes.length < 1024) ∧
(∃ (s : State) (m peer : Nat) (v c : Nat), Quiet m s ∧ peer < 256 ∧ s.get Reg.FAB.TESTAT_BUSY = 0 ∧ s.get Reg.FAB.CTRL_EN
      = 1 ∧ s.takeEpochOk = true ∧ v = s.takeArg 0 % 32 ∧ (c = (if (Assoc.find s.fab.salvos v).all (fun x =>
      x.armed.isSome) then 11 else if 8192 ≤ s.get Reg.FAB.SALV_TAKES ∨ (Assoc.find s.fab.salvos v).any (fun x => decide
      (1024 ≤ x.takes.length)) then 5 else 0)) ∧ c ≠ 0) ∧
(∃ (s : State) (m peer : Nat) (v : Nat) (x : Salvo), Quiet m s ∧ peer < 256 ∧ s.get Reg.FAB.TESTAT_BUSY = 0 ∧ s.get
      Reg.FAB.CTRL_EN = 1 ∧ s.takeEpochOk = true ∧ v = s.takeArg 0 % 32 ∧ Assoc.find s.fab.salvos v = some x ∧ x.armed =
      none ∧ s.judgeSalvo v peer x = (0, 0)) ∧
(∃ (s : State) (m peer : Nat) (v : Nat) (x : Salvo) (q : Nat × Nat), Quiet m s ∧ peer < 256 ∧ s.get Reg.FAB.TESTAT_BUSY =
      0 ∧ s.get Reg.FAB.CTRL_EN = 1 ∧ s.takeEpochOk = true ∧ v = s.takeArg 0 % 32 ∧ Assoc.find s.fab.salvos v = some x ∧
      x.armed = none ∧ s.judgeSalvo v peer x = q ∧ q.1 ≠ 0) ∧
(∃ (s : State) (m peer : Nat) (v : Nat), Quiet m s ∧ peer < 256 ∧ s.get Reg.FAB.TESTAT_BUSY = 0 ∧ s.get Reg.FAB.CTRL_EN =
      1 ∧ s.takeEpochOk = true ∧ v = s.takeArg 0 % 32 ∧ ((Assoc.find s.fab.salvos v).all (fun x => x.armed.isSome) =
      true)) ∧
(∃ (s : State) (m peer : Nat) (v : Nat) (x : Salvo), Quiet m s ∧ peer < 256 ∧ s.get Reg.FAB.TESTAT_BUSY = 0 ∧ s.get
      Reg.FAB.CTRL_EN = 1 ∧ s.takeEpochOk = true ∧ v = s.takeArg 0 % 32 ∧ Assoc.find s.fab.salvos v = some x ∧ x.armed =
      none ∧ x.takes = []) ∧
(∃ (s : State) (m peer : Nat) (v : Nat) (x : Salvo) (a : Nat × Nat), Quiet m s ∧ peer < 256 ∧ s.get Reg.FAB.TESTAT_BUSY =
      0 ∧ s.get Reg.FAB.CTRL_EN = 1 ∧ s.takeEpochOk = true ∧ v = s.takeArg 0 % 32 ∧ Assoc.find s.fab.salvos v = some x ∧
      x.armed = some a ∧ x.committed = none) ∧
(∃ (s : State) (m peer : Nat) (v : Nat), Quiet m s ∧ peer < 256 ∧ s.get Reg.FAB.TESTAT_BUSY = 0 ∧ s.get Reg.FAB.CTRL_EN =
      1 ∧ s.takeEpochOk = true ∧ v = s.takeArg 0 % 32 ∧ ((Assoc.find s.fab.salvos v).all (fun x => x.armed.isNone ||
      x.committed.isSome) = true)) ∧
(∃ (s : State) (m peer : Nat) (v : Nat) (x : Salvo), Quiet m s ∧ peer < 256 ∧ s.get Reg.FAB.TESTAT_BUSY = 0 ∧ s.get
      Reg.FAB.CTRL_EN = 1 ∧ s.takeEpochOk = true ∧ v = s.takeArg 0 % 32 ∧ Assoc.find s.fab.salvos v = some x ∧ x.committed
      = none) ∧
(∃ (s : State) (m peer : Nat) (v : Nat), Quiet m s ∧ peer < 256 ∧ s.get Reg.FAB.TESTAT_BUSY = 0 ∧ s.get Reg.FAB.CTRL_EN =
      1 ∧ s.takeEpochOk = true ∧ v = s.takeArg 0 % 32 ∧ ((Assoc.find s.fab.salvos v).all (fun x => x.committed.isSome) =
      true)) ∧
(∃ (s : State) (m peer : Nat), Quiet m s ∧ peer < 256 ∧ s.get Reg.FAB.TESTAT_BUSY = 0 ∧ (s.get Reg.FAB.CTRL_EN = 0 ∨
      s.takeEpochOk = false)) ∧
(∃ (s : State) (v : Nat) (x : Salvo), Assoc.find s.fab.salvos v = some x ∧ x.armed = none ∧ x.opened + 1000000000 ≤ s.now) ∧
(∃ (s : State) (v : Nat) (x : Salvo) (a : Nat × Nat), Assoc.find s.fab.salvos v = some x ∧ x.armed = some a ∧ x.committed
      = none ∧ ((if a.1 = 0 then a.2 else a.1) + 1000000000 ≤ s.timeNs)) ∧
(∃ (s : State) (v : Nat), ((Assoc.find s.fab.salvos v).all (fun x => x.armed.isSome || decide (s.now < x.opened +
      1000000000)) = true)) ∧
(∃ (s : State) (v : Nat), ((Assoc.find s.fab.salvos v).all (fun x => x.committed.isSome || x.armed.all (fun a => decide
      (s.timeNs < (if a.1 = 0 then a.2 else a.1) + 1000000000))) = true)) ∧
(∃ (s : State) (m : Nat) (data : Word) (c : Completion) (rest : List Completion), Quiet m s ∧ bit data.toNat 0 = true ∧
      s.fab.tcq = c :: rest ∧ rest.length < 256) ∧
(∃ (s : State) (m : Nat) (data : Word), Quiet m s ∧ (bit data.toNat 0 = false ∨ s.fab.tcq = [])) :=
  ⟨⟨((((State.reset.set Reg.FAB.CTRL_EN 1).set (Reg.CHN.ENT_HANDLE 1) (State.mkHandle 2 1 5)).set (Reg.CHN.ENT_STATE_STATE 1)
      1).set (Reg.FAB.TAKEARG 0) (State.mkHandle 2 1 5)).set (Reg.FAB.TAKEARG 4) 1, 0, 7, 0, by decide +kernel⟩,
  ⟨({ (((((State.reset.set Reg.FAB.CTRL_EN 1).set (Reg.CHN.ENT_HANDLE 1) (State.mkHandle 2 1 5)).set (Reg.CHN.ENT_STATE_STATE 1) 1).set (Reg.FAB.TAKEARG 0) (State.mkHandle 2 1 5)).set (Reg.FAB.TAKEARG 4) 1) with fab := { State.reset.fab with salvos := [(2, ⟨5, 0, 7, [], none, none, false⟩)] } }
      : State).set (Reg.FAB.TAKEARG 0) 5, 0, 7, (2, ⟨5, 0, 7, [], none, none, false⟩), by decide +kernel⟩,
  ⟨({ (((((State.reset.set Reg.FAB.CTRL_EN 1).set (Reg.CHN.ENT_HANDLE 1) (State.mkHandle 2 1 5)).set (Reg.CHN.ENT_STATE_STATE 1) 1).set (Reg.FAB.TAKEARG 0) (State.mkHandle 2 1 5)).set (Reg.FAB.TAKEARG 4) 1) with fab := { State.reset.fab with salvos := (List.range 32).map fun k => (k, ⟨5, 0, 7, [], none, none, false⟩) } }
      : State), 0, 7, by decide +kernel⟩,
  ⟨({ (((((State.reset.set Reg.FAB.CTRL_EN 1).set (Reg.CHN.ENT_HANDLE 1) (State.mkHandle 2 1 5)).set (Reg.CHN.ENT_STATE_STATE 1) 1).set (Reg.FAB.TAKEARG 0) (State.mkHandle 2 1 5)).set (Reg.FAB.TAKEARG 4) 1) with fab := { State.reset.fab with salvos := [(2, ⟨5, 0, 7, [], none, none, false⟩)] } }
      : State).set (Reg.FAB.TAKEARG 0) 2, 0, 7, 2, ⟨5, 0, 7, [], none, none, false⟩, by decide +kernel⟩,
  ⟨((((State.reset.set Reg.FAB.CTRL_EN 1).set (Reg.CHN.ENT_HANDLE 1) (State.mkHandle 2 1 5)).set (Reg.CHN.ENT_STATE_STATE 1)
      1).set (Reg.FAB.TAKEARG 0) (State.mkHandle 2 1 5)).set (Reg.FAB.TAKEARG 4) 1, 0, 7, (State.mkHandle 2 1 5) % 32, 11,
      by decide +kernel⟩,
  ⟨({ (((((State.reset.set Reg.FAB.CTRL_EN 1).set (Reg.CHN.ENT_HANDLE 1) (State.mkHandle 2 1 5)).set (Reg.CHN.ENT_STATE_STATE 1) 1).set (Reg.FAB.TAKEARG 0) (State.mkHandle 2 1 5)).set (Reg.FAB.TAKEARG 4) 1) with fab := { State.reset.fab with salvos := [(2, ⟨5, 0, 7, [⟨State.mkHandle 2 1 5, 0, 0, false, false, false, true⟩], none, none, false⟩)] } }
      : State).set (Reg.FAB.TAKEARG 0) 2, 0, 7, 2, ⟨5, 0, 7, [⟨State.mkHandle 2 1 5, 0, 0, false, false, false, true⟩],
      none, none, false⟩, by decide +kernel⟩,
  ⟨({ (((((State.reset.set Reg.FAB.CTRL_EN 1).set (Reg.CHN.ENT_HANDLE 1) (State.mkHandle 2 1 5)).set (Reg.CHN.ENT_STATE_STATE 1) 1).set (Reg.FAB.TAKEARG 0) (State.mkHandle 2 1 5)).set (Reg.FAB.TAKEARG 4) 1) with fab := { State.reset.fab with salvos := [(2, ⟨5, 0, 7, [], none, none, false⟩)] } }
      : State).set (Reg.FAB.TAKEARG 0) 2, 0, 7, 2, ⟨5, 0, 7, [], none, none, false⟩, (17, 0), by decide +kernel⟩,
  ⟨((((State.reset.set Reg.FAB.CTRL_EN 1).set (Reg.CHN.ENT_HANDLE 1) (State.mkHandle 2 1 5)).set (Reg.CHN.ENT_STATE_STATE 1)
      1).set (Reg.FAB.TAKEARG 0) (State.mkHandle 2 1 5)).set (Reg.FAB.TAKEARG 4) 1, 0, 7, (State.mkHandle 2 1 5) % 32,
      by decide +kernel⟩,
  ⟨({ (((((State.reset.set Reg.FAB.CTRL_EN 1).set (Reg.CHN.ENT_HANDLE 1) (State.mkHandle 2 1 5)).set (Reg.CHN.ENT_STATE_STATE 1) 1).set (Reg.FAB.TAKEARG 0) (State.mkHandle 2 1 5)).set (Reg.FAB.TAKEARG 4) 1) with fab := { State.reset.fab with salvos := [(2, ⟨5, 0, 7, [], none, none, false⟩)] } }
      : State).set (Reg.FAB.TAKEARG 0) 2, 0, 7, 2, ⟨5, 0, 7, [], none, none, false⟩, by decide +kernel⟩,
  ⟨({ (((((State.reset.set Reg.FAB.CTRL_EN 1).set (Reg.CHN.ENT_HANDLE 1) (State.mkHandle 2 1 5)).set (Reg.CHN.ENT_STATE_STATE 1) 1).set (Reg.FAB.TAKEARG 0) (State.mkHandle 2 1 5)).set (Reg.FAB.TAKEARG 4) 1) with fab := { State.reset.fab with salvos := [(2, ⟨5, 0, 7, [], some (0, 4), none, false⟩)] } }
      : State).set (Reg.FAB.TAKEARG 0) 2, 0, 7, 2, ⟨5, 0, 7, [], some (0, 4), none, false⟩, (0, 4), by decide +kernel⟩,
  ⟨((((State.reset.set Reg.FAB.CTRL_EN 1).set (Reg.CHN.ENT_HANDLE 1) (State.mkHandle 2 1 5)).set (Reg.CHN.ENT_STATE_STATE 1)
      1).set (Reg.FAB.TAKEARG 0) (State.mkHandle 2 1 5)).set (Reg.FAB.TAKEARG 4) 1, 0, 7, (State.mkHandle 2 1 5) % 32,
      by decide +kernel⟩,
  ⟨({ (((((State.reset.set Reg.FAB.CTRL_EN 1).set (Reg.CHN.ENT_HANDLE 1) (State.mkHandle 2 1 5)).set (Reg.CHN.ENT_STATE_STATE 1) 1).set (Reg.FAB.TAKEARG 0) (State.mkHandle 2 1 5)).set (Reg.FAB.TAKEARG 4) 1) with fab := { State.reset.fab with salvos := [(2, ⟨5, 0, 7, [], some (0, 4), none, false⟩)] } }
      : State).set (Reg.FAB.TAKEARG 0) 2, 0, 7, 2, ⟨5, 0, 7, [], some (0, 4), none, false⟩, by decide +kernel⟩,
  ⟨((((State.reset.set Reg.FAB.CTRL_EN 1).set (Reg.CHN.ENT_HANDLE 1) (State.mkHandle 2 1 5)).set (Reg.CHN.ENT_STATE_STATE 1)
      1).set (Reg.FAB.TAKEARG 0) (State.mkHandle 2 1 5)).set (Reg.FAB.TAKEARG 4) 1, 0, 7, (State.mkHandle 2 1 5) % 32,
      by decide +kernel⟩,
  ⟨State.reset, 0, 7, by decide +kernel⟩,
  ⟨({ ({ (((((State.reset.set Reg.FAB.CTRL_EN 1).set (Reg.CHN.ENT_HANDLE 1) (State.mkHandle 2 1 5)).set (Reg.CHN.ENT_STATE_STATE 1) 1).set (Reg.FAB.TAKEARG 0) (State.mkHandle 2 1 5)).set (Reg.FAB.TAKEARG 4) 1) with fab := { State.reset.fab with salvos := [(2, ⟨5, 0, 7, [], none, none, false⟩)] } } : State).set (Reg.FAB.TAKEARG 0) 2 with now := 1000000000 }
      : State), 2, ⟨5, 0, 7, [], none, none, false⟩, by decide +kernel⟩,
  ⟨({ (((((State.reset.set Reg.FAB.CTRL_EN 1).set (Reg.CHN.ENT_HANDLE 1) (State.mkHandle 2 1 5)).set (Reg.CHN.ENT_STATE_STATE 1) 1).set (Reg.FAB.TAKEARG 0) (State.mkHandle 2 1 5)).set (Reg.FAB.TAKEARG 4) 1) with fab := { State.reset.fab with salvos := [(2, ⟨5, 0, 7, [], some (0, 4), none, false⟩)] } }
      : State).set (Reg.FAB.TAKEARG 0) 2 |>.set Reg.TIME.NOWLO 1100000000, 2, ⟨5, 0, 7, [], some (0, 4), none, false⟩, (0,
      4), by decide +kernel⟩,
  ⟨({ (((((State.reset.set Reg.FAB.CTRL_EN 1).set (Reg.CHN.ENT_HANDLE 1) (State.mkHandle 2 1 5)).set (Reg.CHN.ENT_STATE_STATE 1) 1).set (Reg.FAB.TAKEARG 0) (State.mkHandle 2 1 5)).set (Reg.FAB.TAKEARG 4) 1) with fab := { State.reset.fab with salvos := [(2, ⟨5, 0, 7, [], none, none, false⟩)] } }
      : State).set (Reg.FAB.TAKEARG 0) 2, 2, by decide +kernel⟩,
  ⟨({ (((((State.reset.set Reg.FAB.CTRL_EN 1).set (Reg.CHN.ENT_HANDLE 1) (State.mkHandle 2 1 5)).set (Reg.CHN.ENT_STATE_STATE 1) 1).set (Reg.FAB.TAKEARG 0) (State.mkHandle 2 1 5)).set (Reg.FAB.TAKEARG 4) 1) with fab := { State.reset.fab with salvos := [(2, ⟨5, 0, 7, [], none, none, false⟩)] } }
      : State).set (Reg.FAB.TAKEARG 0) 2, 2, by decide +kernel⟩,
  ⟨({ (((((State.reset.set Reg.FAB.CTRL_EN 1).set (Reg.CHN.ENT_HANDLE 1) (State.mkHandle 2 1 5)).set (Reg.CHN.ENT_STATE_STATE 1) 1).set (Reg.FAB.TAKEARG 0) (State.mkHandle 2 1 5)).set (Reg.FAB.TAKEARG 4) 1) with fab := { State.reset.fab with tcq := [⟨1, 2, 3, 4, 5, 6, 7⟩, ⟨8, 2, 3, 4, 5, 6, 9⟩] } }
      : State), 0, 1, ⟨1, 2, 3, 4, 5, 6, 7⟩, [⟨8, 2, 3, 4, 5, 6, 9⟩], by decide +kernel⟩,
  ⟨((((State.reset.set Reg.FAB.CTRL_EN 1).set (Reg.CHN.ENT_HANDLE 1) (State.mkHandle 2 1 5)).set (Reg.CHN.ENT_STATE_STATE 1)
      1).set (Reg.FAB.TAKEARG 0) (State.mkHandle 2 1 5)).set (Reg.FAB.TAKEARG 4) 1, 0, 1, by decide +kernel⟩⟩

/-- States and operands that meet the hypotheses of each clause of `Obligations.PathIntegrity`. -/
theorem witness_path_integrity :
(∃ (s : State) (e c : Nat) (x : Egress), e < 8192 ∧ Assoc.find s.fab.egr e = some x ∧ s.isChecked e = true ∧ s.provEn =
      true ∧ x.checked = false ∧ x.failed = none ∧ s.tokenVerdict e = c ∧ c ≠ 0) ∧
(∃ (s : State) (e : Nat) (x : Egress), e < 8192 ∧ Assoc.find s.fab.egr e = some x ∧ s.isChecked e = true ∧ s.provEn = true
      ∧ x.checked = false ∧ s.tokenVerdict e = 0 ∧ s.prov.inverted = []) ∧
(∃ (s : State) (e : Nat), (s.isChecked e = false ∨ s.provEn = false ∨ (s.egr e).checked = true)) ∧
(∃ (s : State) (e : Nat) (x : Egress) (f : Frame), Assoc.find s.fab.egr e = some x ∧ x.cur = some f ∧ f.token = none) ∧
(∃ (s : State) (e : Nat) (got : Option Nat) (x : Egress) (f : Frame) (k : Token), e < 8192 ∧ Assoc.find s.fab.egr e = some
      x ∧ s.isChecked e = true ∧ s.provEn = true ∧ x.checked = true ∧ x.failed = none ∧ x.timed = true ∧ x.cur = some f ∧
      f.poisoned = false ∧ f.token = some k ∧ k.digest ≠ got.getD (digest f.picture)) ∧
(∃ (s : State) (e : Nat) (got : Option Nat) (x : Egress) (f : Frame) (k : Token), e < 8192 ∧ Assoc.find s.fab.egr e = some
      x ∧ s.isChecked e = true ∧ s.provEn = true ∧ x.checked = true ∧ x.failed = none ∧ x.timed = true ∧ x.cur = some f ∧
      f.poisoned = false ∧ f.tstate ≠ 1 ∧ f.token = some k ∧ k.digest = got.getD (digest f.picture) ∧ s.get
      (Reg.PROV.OUT_STATE e) ≠ 2 ∧ s.get (Reg.PROV.OUT_STATE e) ≠ 3) ∧
(∃ (s : State) (e : Nat) (x : Egress) (f : Frame), e < 8192 ∧ Assoc.find s.fab.egr e = some x ∧ s.isChecked e = true ∧
      s.provEn = true ∧ x.checked = true ∧ x.failed = none ∧ x.cur = some f ∧ f.poisoned = true) ∧
(∃ (s : State) (e : Nat) (x : Egress) (f : Frame), e < 8192 ∧ Assoc.find s.fab.egr e = some x ∧ s.isChecked e = true ∧
      s.provEn = true ∧ x.checked = true ∧ x.failed = none ∧ x.timed = false ∧ x.cur = some f ∧ f.poisoned = false ∧
      s.outFailed e = false) ∧
(∃ (s : State) (e : Nat), (s.isChecked e = false ∨ s.provEn = false)) ∧
(∃ (s : State) (e v : Nat) (x : Egress), Assoc.find s.fab.egr e = some x ∧ x.verdict = some v ∧ v + 100000 ≤ s.now) ∧
(∃ (s : State) (e v : Nat) (x : Egress), Assoc.find s.fab.egr e = some x ∧ x.verdict = some v ∧ s.now < v + 100000) ∧
(∃ (s : State) (e : Nat) (x : Egress), Assoc.find s.fab.egr e = some x ∧ x.verdict = none) ∧
(∃ (s : State) (m e : Nat) (data : Word) (x : Egress), Quiet m s ∧ data.toNat = 2 ^ 31 + e ∧ e < 8192 ∧ s.outFailed e =
      true ∧ s.get Reg.FLT.SAFESTAT = 0 ∧ Assoc.find s.fab.egr e = some x) ∧
(∃ (s : State) (m : Nat) (data : Word), Quiet m s ∧ (bit data.toNat 31 = false ∨ s.outFailed (data.toNat % 8192) = false ∨
      s.get Reg.FLT.SAFESTAT = 1)) ∧
(∃ (s : State) (m : Nat) (data : Word), Quiet m s ∧ s.armed m = true ∧ data.toNat % 16 < 12) ∧
(∃ (s : State) (m : Nat), Quiet m s ∧ s.armed m = true) ∧
(State.reset.armed 0 = false) ∧
(∃ (s : State) (m : Nat) (data : Word), Quiet m s ∧ s.armed m = true ∧ 12 ≤ data.toNat % 16) ∧
(∃ (s : State), s.get Reg.PROV.CHKINV_ARM = 1) ∧
(∃ (s : State), s.get Reg.PROV.CHKINV_ARM = 0) ∧
(∃ (s : State) (e i n : Nat) (fl : List Nat) (x : Egress) (f : Frame), e < 8192 ∧ s.isChecked e = true ∧ Assoc.find
      s.fab.egr e = some x ∧ s.get (Reg.FAB.ESE_SRC_SRCVALID e) = 1 ∧ i = s.get (Reg.FAB.ESE_SRC_ENTRY e) ∧
      s.prov.inverted = [] ∧ (s.ing i).left = none ∧ s.frameAt i = some f ∧ (fl.all (fun k => decide (k ≤ 1)) = true) ∧ (n
      = 0 ∨ ((s.ing i).inWin = true ∧ s.get (Reg.FAB.ISE_CFG_PLANE i) = s.get (Reg.FAB.ESE_CFG_PLANE e)))) ∧
(∃ (s : State) (e i n : Nat) (x : Egress) (f : Frame), e < 8192 ∧ s.isChecked e = true ∧ Assoc.find s.fab.egr e = some x ∧
      s.get (Reg.FAB.ESE_SRC_SRCVALID e) = 1 ∧ i = s.get (Reg.FAB.ESE_SRC_ENTRY e) ∧ s.prov.inverted = [] ∧ (s.ing i).left
      = none ∧ s.frameAt i = some f ∧ (s.ing i).inWin = false ∧ n ≠ 0) ∧
(∃ (s : State) (e i k : Nat) (x : Egress) (f : Frame), e < 8192 ∧ i < 8192 ∧ s.isChecked e = true ∧ Assoc.find s.fab.egr e
      = some x ∧ s.get (Reg.FAB.ESE_SRC_SRCVALID e) = 1 ∧ i = s.get (Reg.FAB.ESE_SRC_ENTRY e) ∧ s.prov.inverted = [] ∧
      (s.ing i).left = none ∧ s.frameAt i = some f ∧ 2 ≤ k ∧ f.poisoned = false ∧ (Assoc.find s.fab.ing i).isSome = true) ∧
(∃ (s : State) (e : Nat), s.get (Reg.FAB.ESE_CFG_VALID e) = 0) ∧
(∃ (s : State) (e : Nat) (x : Egress), s.isChecked e = true ∧ Assoc.find s.fab.egr e = some x ∧ s.get
      (Reg.FAB.ESE_SRC_SRCVALID e) = 0) ∧
(∃ (s : State) (e : Nat) (x : Ingress), s.get (Reg.FAB.ISE_CFG_VALID e) = 1 ∧ Assoc.find s.fab.ing e = some x ∧
      (x.cells.filter fun a => decide (s.now < a + 15515)).length < (if x.whole ∨ s.get (Reg.FAB.ISE_CFG_SIZE e) = 0 then
      96 else if s.get (Reg.FAB.ISE_CFG_SIZE e) = 1 then 24 else 12)) ∧
(∃ (s : State) (e : Nat) (x : Ingress) (f : Frame), e < 8192 ∧ s.get (Reg.FAB.ISE_CFG_VALID e) = 1 ∧ Assoc.find s.fab.ing
      e = some x ∧ ((if x.whole ∨ s.get (Reg.FAB.ISE_CFG_SIZE e) = 0 then 96 else if s.get (Reg.FAB.ISE_CFG_SIZE e) = 1
      then 24 else 12) ≤ (x.cells.filter fun a => decide (s.now < a + 15515)).length) ∧ x.cur = some f ∧ f.poisoned =
      false) ∧
(∃ (s : State) (u k : Nat), u < 96 ∧ k < 4 ∧ s.get (Reg.FAB.FS_SCFG_VALID u k) = 1) ∧
(∃ (s : State) (e : Nat), e < 8192 ∧ s.get (Reg.FAB.ISE_CFG_VALID e) = 1 ∧ s.get (Reg.FAB.ISE_ALIGN_STATE e) ≠ 0 ∧
      s.fab.fs = []) :=
  ⟨⟨(({ State.reset with fab := { State.reset.fab with egr := [(3, { State.Egress.fresh 0 false with cur := some ⟨0x1000000, none, 0, false, [], []⟩ })], ing := [(4, { State.Ingress.fresh 0x1000000 false with cur := some ⟨0x1000000, none, 0, false, [], []⟩ })] } }
      : State).set (Reg.FAB.ESE_CFG_VALID 3) 1 |>.set (Reg.FAB.ISE_CFG_VALID 4) 1 |>.set Reg.PROV.CTRL_EN 1), 3, 1,
      { State.Egress.fresh 0 false with cur := some ⟨0x1000000, none, 0, false, [], []⟩ }, by decide +kernel⟩,
  ⟨(({ State.reset with fab := { State.reset.fab with egr := [(3, { State.Egress.fresh 0 false with verdict := none })], ing := [(4, { State.Ingress.fresh 0x1000000 false with cur := some ⟨0x1000000, none, 0, false, [], []⟩ })] } }
      : State).set (Reg.FAB.ESE_CFG_VALID 3) 1 |>.set (Reg.FAB.ISE_CFG_VALID 4) 1 |>.set Reg.PROV.CTRL_EN 1), 3,
      { State.Egress.fresh 0 false with verdict := none }, by decide +kernel⟩,
  ⟨State.reset, 3, by decide +kernel⟩,
  ⟨(({ State.reset with fab := { State.reset.fab with egr := [(3, { State.Egress.fresh 0 false with cur := some ⟨0x1000000, none, 0, false, [], []⟩ })], ing := [(4, { State.Ingress.fresh 0x1000000 false with cur := some ⟨0x1000000, none, 0, false, [], []⟩ })] } }
      : State).set (Reg.FAB.ESE_CFG_VALID 3) 1 |>.set (Reg.FAB.ISE_CFG_VALID 4) 1 |>.set Reg.PROV.CTRL_EN 1), 3,
      { State.Egress.fresh 0 false with cur := some ⟨0x1000000, none, 0, false, [], []⟩ }, ⟨0x1000000, none, 0, false, [],
      []⟩, by decide +kernel⟩,
  ⟨(({ State.reset with fab := { State.reset.fab with egr := [(3, { State.Egress.fresh 0 false with checked := true, timed := true, cur := some ⟨0x1000000, (some ⟨0, 0, 5, 7⟩), 0, false, [], []⟩ })], ing := [(4, { State.Ingress.fresh 0x1000000 false with cur := some ⟨0x1000000, none, 0, false, [], []⟩ })] } }
      : State).set (Reg.FAB.ESE_CFG_VALID 3) 1 |>.set (Reg.FAB.ISE_CFG_VALID 4) 1 |>.set Reg.PROV.CTRL_EN 1), 3, none,
      { State.Egress.fresh 0 false with checked := true, timed := true, cur := some ⟨0x1000000, (some ⟨0, 0, 5, 7⟩), 0, false, [], []⟩ },
      ⟨0x1000000, (some ⟨0, 0, 5, 7⟩), 0, false, [], []⟩, ⟨0, 0, 5, 7⟩, by decide +kernel⟩,
  ⟨(({ State.reset with fab := { State.reset.fab with egr := [(3, { State.Egress.fresh 0 false with checked := true, timed := true, cur := some ⟨0x1000000, (some ⟨0, 0, 5, digest []⟩), 0, false, [], []⟩ })], ing := [(4, { State.Ingress.fresh 0x1000000 false with cur := some ⟨0x1000000, none, 0, false, [], []⟩ })] } }
      : State).set (Reg.FAB.ESE_CFG_VALID 3) 1 |>.set (Reg.FAB.ISE_CFG_VALID 4) 1 |>.set Reg.PROV.CTRL_EN 1), 3, none,
      { State.Egress.fresh 0 false with checked := true, timed := true, cur := some ⟨0x1000000, (some ⟨0, 0, 5, digest []⟩), 0, false, [], []⟩ },
      ⟨0x1000000, (some ⟨0, 0, 5, digest []⟩), 0, false, [], []⟩, ⟨0, 0, 5, digest []⟩, by decide +kernel⟩,
  ⟨(({ State.reset with fab := { State.reset.fab with egr := [(3, { State.Egress.fresh 0 false with checked := true, cur := some ⟨0x1000000, (some ⟨0, 0, 5, 7⟩), 0, true, [], []⟩ })], ing := [(4, { State.Ingress.fresh 0x1000000 false with cur := some ⟨0x1000000, none, 0, false, [], []⟩ })] } }
      : State).set (Reg.FAB.ESE_CFG_VALID 3) 1 |>.set (Reg.FAB.ISE_CFG_VALID 4) 1 |>.set Reg.PROV.CTRL_EN 1), 3,
      { State.Egress.fresh 0 false with checked := true, cur := some ⟨0x1000000, (some ⟨0, 0, 5, 7⟩), 0, true, [], []⟩ },
      ⟨0x1000000, (some ⟨0, 0, 5, 7⟩), 0, true, [], []⟩, by decide +kernel⟩,
  ⟨(({ State.reset with fab := { State.reset.fab with egr := [(3, { State.Egress.fresh 0 false with checked := true, cur := some ⟨0x1000000, (some ⟨0, 0, 5, 7⟩), 0, false, [], []⟩ })], ing := [(4, { State.Ingress.fresh 0x1000000 false with cur := some ⟨0x1000000, none, 0, false, [], []⟩ })] } }
      : State).set (Reg.FAB.ESE_CFG_VALID 3) 1 |>.set (Reg.FAB.ISE_CFG_VALID 4) 1 |>.set Reg.PROV.CTRL_EN 1), 3,
      { State.Egress.fresh 0 false with checked := true, cur := some ⟨0x1000000, (some ⟨0, 0, 5, 7⟩), 0, false, [], []⟩ },
      ⟨0x1000000, (some ⟨0, 0, 5, 7⟩), 0, false, [], []⟩, by decide +kernel⟩,
  ⟨State.reset, 3, by decide +kernel⟩,
  ⟨({ (({ State.reset with fab := { State.reset.fab with egr := [(3, { State.Egress.fresh 0 false with verdict := some 9 })], ing := [(4, { State.Ingress.fresh 0x1000000 false with cur := some ⟨0x1000000, none, 0, false, [], []⟩ })] } } : State).set (Reg.FAB.ESE_CFG_VALID 3) 1 |>.set (Reg.FAB.ISE_CFG_VALID 4) 1 |>.set Reg.PROV.CTRL_EN 1 |>.set (Reg.PROV.OUT_STATE 3) 2 |>.set (Reg.PROV.OUT_SAFE 3) 2) with now := 100009 }
      : State), 3, 9, { State.Egress.fresh 0 false with verdict := some 9 }, by decide +kernel⟩,
  ⟨(({ State.reset with fab := { State.reset.fab with egr := [(3, { State.Egress.fresh 0 false with verdict := some 9 })], ing := [(4, { State.Ingress.fresh 0x1000000 false with cur := some ⟨0x1000000, none, 0, false, [], []⟩ })] } }
      : State).set (Reg.FAB.ESE_CFG_VALID 3) 1 |>.set (Reg.FAB.ISE_CFG_VALID 4) 1 |>.set Reg.PROV.CTRL_EN 1), 3, 9,
      { State.Egress.fresh 0 false with verdict := some 9 }, by decide +kernel⟩,
  ⟨(({ State.reset with fab := { State.reset.fab with egr := [(3, { State.Egress.fresh 0 false with verdict := none })], ing := [(4, { State.Ingress.fresh 0x1000000 false with cur := some ⟨0x1000000, none, 0, false, [], []⟩ })] } }
      : State).set (Reg.FAB.ESE_CFG_VALID 3) 1 |>.set (Reg.FAB.ISE_CFG_VALID 4) 1 |>.set Reg.PROV.CTRL_EN 1), 3,
      { State.Egress.fresh 0 false with verdict := none }, by decide +kernel⟩,
  ⟨(({ State.reset with fab := { State.reset.fab with egr := [(3, { State.Egress.fresh 0 false with verdict := none })], ing := [(4, { State.Ingress.fresh 0x1000000 false with cur := some ⟨0x1000000, none, 0, false, [], []⟩ })] } }
      : State).set (Reg.FAB.ESE_CFG_VALID 3) 1 |>.set (Reg.FAB.ISE_CFG_VALID 4) 1 |>.set Reg.PROV.CTRL_EN 1 |>.set
      (Reg.PROV.OUT_STATE 3) 2), 0, 3, 0x80000003, { State.Egress.fresh 0 false with verdict := none }, by decide +kernel⟩,
  ⟨State.reset, 0, 0x80000003, by decide +kernel⟩,
  ⟨State.reset.unlockWrite 0 0xC3A5, 0, 0x80000103, by decide +kernel⟩,
  ⟨State.reset.unlockWrite 0 0xC3A5, 0, by decide +kernel⟩,
  by decide +kernel,
  ⟨State.reset.unlockWrite 0 0xC3A5, 0, 0x8000010F, by decide +kernel⟩,
  ⟨State.reset.set Reg.PROV.CHKINV_ARM 1, by decide +kernel⟩,
  ⟨State.reset, by decide +kernel⟩,
  ⟨(({ State.reset with fab := { State.reset.fab with egr := [(3, { State.Egress.fresh 0 false with failed := some 3 })], ing := [(4, { State.Ingress.fresh 0x1000000 false with cur := some ⟨0x1000000, none, 0, false, [], []⟩ })] } }
      : State).set (Reg.FAB.ESE_CFG_VALID 3) 1 |>.set (Reg.FAB.ISE_CFG_VALID 4) 1 |>.set Reg.PROV.CTRL_EN 1 |>.set
      (Reg.FAB.ESE_SRC_SRCVALID 3) 1 |>.set (Reg.FAB.ESE_SRC_ENTRY 3) 4 |>.set (Reg.FAB.ISE_ALIGN_STATE 4) 1), 3, 4, 0,
      [1, 0], { State.Egress.fresh 0 false with failed := some 3 }, ⟨0x1000000, none, 0, false, [], []⟩,
      by decide +kernel⟩,
  ⟨(({ State.reset with fab := { State.reset.fab with egr := [(3, { State.Egress.fresh 0 false with failed := some 3 })], ing := [(4, { State.Ingress.fresh 0x1000000 false with cur := some ⟨0x1000000, none, 0, false, [], []⟩ })] } }
      : State).set (Reg.FAB.ESE_CFG_VALID 3) 1 |>.set (Reg.FAB.ISE_CFG_VALID 4) 1 |>.set Reg.PROV.CTRL_EN 1 |>.set
      (Reg.FAB.ESE_SRC_SRCVALID 3) 1 |>.set (Reg.FAB.ESE_SRC_ENTRY 3) 4 |>.set (Reg.FAB.ISE_ALIGN_STATE 4) 1), 3, 4, 2,
      { State.Egress.fresh 0 false with failed := some 3 }, ⟨0x1000000, none, 0, false, [], []⟩, by decide +kernel⟩,
  ⟨(({ State.reset with fab := { State.reset.fab with egr := [(3, { State.Egress.fresh 0 false with failed := some 3 })], ing := [(4, { State.Ingress.fresh 0x1000000 false with cur := some ⟨0x1000000, none, 0, false, [], []⟩ })] } }
      : State).set (Reg.FAB.ESE_CFG_VALID 3) 1 |>.set (Reg.FAB.ISE_CFG_VALID 4) 1 |>.set Reg.PROV.CTRL_EN 1 |>.set
      (Reg.FAB.ESE_SRC_SRCVALID 3) 1 |>.set (Reg.FAB.ESE_SRC_ENTRY 3) 4 |>.set (Reg.FAB.ISE_ALIGN_STATE 4) 1), 3, 4, 2,
      { State.Egress.fresh 0 false with failed := some 3 }, ⟨0x1000000, none, 0, false, [], []⟩, by decide +kernel⟩,
  ⟨State.reset, 3, by decide +kernel⟩,
  ⟨(({ State.reset with fab := { State.reset.fab with egr := [(3, { State.Egress.fresh 0 false with failed := some 3 })], ing := [(4, { State.Ingress.fresh 0x1000000 false with cur := some ⟨0x1000000, none, 0, false, [], []⟩ })] } }
      : State).set (Reg.FAB.ESE_CFG_VALID 3) 1 |>.set (Reg.FAB.ISE_CFG_VALID 4) 1 |>.set Reg.PROV.CTRL_EN 1), 3,
      { State.Egress.fresh 0 false with failed := some 3 }, by decide +kernel⟩,
  ⟨(({ State.reset with fab := { State.reset.fab with egr := [(3, { State.Egress.fresh 0 false with failed := some 3 })], ing := [(4, { State.Ingress.fresh 0x1000000 false with cur := some ⟨0x1000000, none, 0, false, [], []⟩ })] } }
      : State).set (Reg.FAB.ESE_CFG_VALID 3) 1 |>.set (Reg.FAB.ISE_CFG_VALID 4) 1 |>.set Reg.PROV.CTRL_EN 1 |>.set
      (Reg.FAB.ISE_CFG_SIZE 4) 2), 4,
      { State.Ingress.fresh 0x1000000 false with cur := some ⟨0x1000000, none, 0, false, [], []⟩ }, by decide +kernel⟩,
  ⟨({ (({ State.reset with fab := { State.reset.fab with egr := [(3, { State.Egress.fresh 0 false with failed := some 3 })], ing := [(4, { State.Ingress.fresh 0x1000000 false with cur := some ⟨0x1000000, none, 0, false, [], []⟩ })] } } : State).set (Reg.FAB.ESE_CFG_VALID 3) 1 |>.set (Reg.FAB.ISE_CFG_VALID 4) 1 |>.set Reg.PROV.CTRL_EN 1 |>.set (Reg.FAB.ISE_CFG_SIZE 4) 2) with fab := { State.reset.fab with ing := [(4, { State.Ingress.fresh 0x1000000 false with cells := [0,0,0,0,0,0,0,0,0,0,0,0], cur := some ⟨0x1000000, none, 0, false, [], []⟩ })] } }
      : State), 4,
      { State.Ingress.fresh 0x1000000 false with cells := [0,0,0,0,0,0,0,0,0,0,0,0], cur := some ⟨0x1000000, none, 0, false, [], []⟩ },
      ⟨0x1000000, none, 0, false, [], []⟩, by decide +kernel⟩,
  ⟨State.reset.set (Reg.FAB.FS_SCFG_VALID 5 2) 1, 5, 2, by decide +kernel⟩,
  ⟨(({ State.reset with fab := { State.reset.fab with egr := [(3, { State.Egress.fresh 0 false with failed := some 3 })], ing := [(4, { State.Ingress.fresh 0x1000000 false with cur := some ⟨0x1000000, none, 0, false, [], []⟩ })] } }
      : State).set (Reg.FAB.ESE_CFG_VALID 3) 1 |>.set (Reg.FAB.ISE_CFG_VALID 4) 1 |>.set Reg.PROV.CTRL_EN 1 |>.set
      (Reg.FAB.ISE_ALIGN_STATE 4) 1), 4, by decide +kernel⟩⟩

/-- States and operands that meet the hypotheses of each clause of `Obligations.VoiceMap`. -/
theorem witness_voice_map :
(∃ (s : State) (m : Nat), Quiet m s ∧ s.get Reg.AUD.MAPRES_BUSY = 1) ∧
(∃ (s : State) (m : Nat), Quiet m s ∧ s.get Reg.AUD.MAPRES_BUSY = 0 ∧ s.get Reg.AUD.CTRL_EN = 0) ∧
(∃ (s : State) (m : Nat), Quiet m s ∧ s.get Reg.AUD.MAPRES_BUSY = 0 ∧ s.get Reg.AUD.CTRL_EN = 1 ∧ (s.tsiVoices ≤
      s.mapVoice ∨ s.get (Reg.AUD.OV_VALID s.mapVoice) = 0)) ∧
(∃ (s : State) (m : Nat), Quiet m s ∧ s.get Reg.AUD.MAPRES_BUSY = 0 ∧ s.get Reg.AUD.CTRL_EN = 1 ∧ s.mapVoice < s.tsiVoices
      ∧ s.get (Reg.AUD.OV_VALID s.mapVoice) = 1 ∧ bit (s.mapArg 1) 15 = true ∧ s.inputOwned (bits (s.mapArg 1) 14 0) =
      false) ∧
(∃ (s : State) (m j v : Nat), Quiet m s ∧ s.get Reg.AUD.MAPRES_BUSY = 0 ∧ s.get Reg.AUD.CTRL_EN = 1 ∧ j = s.mapVoice ∧ j <
      s.tsiVoices ∧ s.get (Reg.AUD.OV_VALID j) = 1 ∧ bit (s.mapArg 1) 15 = true ∧ v = bits (s.mapArg 1) 14 0 ∧
      s.inputOwned v = true) ∧
(∃ (s : State) (m j : Nat), Quiet m s ∧ s.get Reg.AUD.MAPRES_BUSY = 0 ∧ s.get Reg.AUD.CTRL_EN = 1 ∧ j = s.mapVoice ∧ j <
      s.tsiVoices ∧ s.get (Reg.AUD.OV_VALID j) = 1 ∧ bit (s.mapArg 1) 15 = false) ∧
(∃ (s : State) (m j p : Nat), Quiet m s ∧ s.get Reg.AUD.MAPRES_BUSY = 0 ∧ s.get Reg.AUD.CTRL_EN = 1 ∧ j = s.mapVoice ∧ j <
      s.tsiVoices ∧ s.get (Reg.AUD.OV_VALID j) = 1 ∧ p = s.mapArg 1 ∧ p ≤ 511 ∧ s.get (Reg.AUD.OV_COUPLE j) ≠ 0) ∧
(∃ (s : State) (m j : Nat), Quiet m s ∧ s.get Reg.AUD.MAPRES_BUSY = 0 ∧ s.get Reg.AUD.CTRL_EN = 1 ∧ j = s.mapVoice ∧ j <
      s.tsiVoices ∧ s.get (Reg.AUD.OV_VALID j) = 1 ∧ s.mapArg 1 ≤ 511 ∧ s.get (Reg.AUD.OV_COUPLE j) = 0) ∧
(∃ (s : State) (m j : Nat), Quiet m s ∧ s.get Reg.AUD.MAPRES_BUSY = 0 ∧ s.get Reg.AUD.CTRL_EN = 1 ∧ j = s.mapVoice ∧ j <
      s.tsiVoices ∧ s.get (Reg.AUD.OV_VALID j) = 1 ∧ 511 < s.mapArg 1) ∧
(∃ (s : State) (m j : Nat) (g : Int), Quiet m s ∧ s.get Reg.AUD.MAPRES_BUSY = 0 ∧ s.get Reg.AUD.CTRL_EN = 1 ∧ j =
      s.mapVoice ∧ j < s.tsiVoices ∧ s.get (Reg.AUD.OV_VALID j) = 1 ∧ g = toSigned 16 (s.mapArg 2) ∧ (g = -32768 ∨ (-6144
      ≤ g ∧ g ≤ 1536)) ∧ s.get (Reg.AUD.OV_MUTE j) = 0 ∧ (s.outVoice j).silenced = false ∧ (s.outVoice j).freed = false) ∧
(∃ (s : State) (m j : Nat) (g : Int), Quiet m s ∧ s.get Reg.AUD.MAPRES_BUSY = 0 ∧ s.get Reg.AUD.CTRL_EN = 1 ∧ j =
      s.mapVoice ∧ j < s.tsiVoices ∧ s.get (Reg.AUD.OV_VALID j) = 1 ∧ g = toSigned 16 (s.mapArg 2) ∧ (g = -32768 ∨ (-6144
      ≤ g ∧ g ≤ 1536)) ∧ (s.get (Reg.AUD.OV_MUTE j) = 1 ∨ (s.outVoice j).freed = true)) ∧
(∃ (s : State) (m j : Nat) (g : Int), Quiet m s ∧ s.get Reg.AUD.MAPRES_BUSY = 0 ∧ s.get Reg.AUD.CTRL_EN = 1 ∧ j =
      s.mapVoice ∧ j < s.tsiVoices ∧ s.get (Reg.AUD.OV_VALID j) = 1 ∧ g = toSigned 16 (s.mapArg 2) ∧ (g = -32768 ∨ (-6144
      ≤ g ∧ g ≤ 1536)) ∧ s.get (Reg.AUD.OV_MUTE j) = 0 ∧ (s.outVoice j).silenced = true ∧ (s.outVoice j).freed = false) ∧
(∃ (s : State) (m j : Nat) (g : Int), Quiet m s ∧ s.get Reg.AUD.MAPRES_BUSY = 0 ∧ s.get Reg.AUD.CTRL_EN = 1 ∧ j =
      s.mapVoice ∧ j < s.tsiVoices ∧ s.get (Reg.AUD.OV_VALID j) = 1 ∧ g = toSigned 16 (s.mapArg 2) ∧ g ≠ -32768 ∧ (g <
      -6144 ∨ 1536 < g)) ∧
(∃ (s : State) (m j : Nat), Quiet m s ∧ s.get Reg.AUD.MAPRES_BUSY = 0 ∧ s.get Reg.AUD.CTRL_EN = 1 ∧ j = s.mapVoice ∧ j <
      s.tsiVoices ∧ s.get (Reg.AUD.OV_VALID j) = 1 ∧ bit (s.mapArg 2) 0 = true ∧ (s.outVoice j).freed = false) ∧
(∃ (s : State) (m j : Nat), Quiet m s ∧ s.get Reg.AUD.MAPRES_BUSY = 0 ∧ s.get Reg.AUD.CTRL_EN = 1 ∧ j = s.mapVoice ∧ j <
      s.tsiVoices ∧ s.get (Reg.AUD.OV_VALID j) = 1 ∧ bit (s.mapArg 2) 0 = false ∧ (s.outVoice j).freed = false ∧
      (s.outVoice j).silenced = false) ∧
(∃ (s : State) (m j : Nat), Quiet m s ∧ s.get Reg.AUD.MAPRES_BUSY = 0 ∧ s.get Reg.AUD.CTRL_EN = 1 ∧ j = s.mapVoice ∧ j <
      s.tsiVoices ∧ s.get (Reg.AUD.OV_VALID j) = 1 ∧ (s.outVoice j).freed = true) ∧
(∃ (s : State) (m j : Nat), Quiet m s ∧ s.get Reg.AUD.MAPRES_BUSY = 0 ∧ s.get Reg.AUD.CTRL_EN = 1 ∧ j = s.mapVoice ∧ j <
      s.tsiVoices ∧ s.get (Reg.AUD.OV_VALID j) = 1) ∧
(∃ (s : State), s.boundaryDue = false) ∧
(∃ (s : State), s.boundaryDue = true ∧ (∀ n ∈ List.range 8, s.get (Reg.APRT.STAT_STATE n) ≠ 3) ∧ s.voicesInUse = [] ∧
      s.aud.ins = []) ∧
(∃ (s : State), s.boundaryDue = false) ∧
(∃ (s : State), s.boundaryDue = true) ∧
(∃ (s : State) (b : VoiceBlock) (j : Nat), s.boundaryDue = true ∧ (∀ n ∈ List.range 8, s.get (Reg.APRT.STAT_STATE n) ≠ 3)
      ∧ j = b.out ∧ j < 32768 ∧ s.voiceChecked j = true ∧ s.blockFails b = true ∧ s.get (Reg.AUD.OV_STATE j) ≠ 4 ∧
      s.voicesInUse = [] ∧ s.aud.ins = []) ∧
(∃ (s : State) (b : VoiceBlock) (j : Nat), s.boundaryDue = true ∧ (∀ n ∈ List.range 8, s.get (Reg.APRT.STAT_STATE n) ≠ 3)
      ∧ j = b.out ∧ j < 32768 ∧ (s.voiceChecked j = false ∨ (s.blockFails b = false ∧ s.get (Reg.AUD.OV_STATE j) ≠ 4)) ∧
      s.voicesInUse = [] ∧ s.aud.ins = []) ∧
(∃ (s : State) (b : VoiceBlock) (j : Nat), s.boundaryDue = true ∧ (∀ n ∈ List.range 8, s.get (Reg.APRT.STAT_STATE n) ≠ 3)
      ∧ j = b.out ∧ j < 32768 ∧ s.voiceChecked j = true ∧ s.blockFails b = false ∧ s.get (Reg.AUD.OV_STATE j) = 4 ∧ 7 ≤
      (s.outVoice j).passes ∧ 0 < s.get Reg.AUD.FAILVOICES ∧ s.voicesInUse = [j] ∧ s.aud.ins = []) ∧
(∃ (s : State) (out : Nat), s.chanEgr out = none) ∧
(∃ (s : State) (out e : Nat), s.chanEgr out = some e ∧ s.outTakes out = ⟨none, none⟩ ∧ (s.egr e).srcGone = false ∧
      s.audioFollowers out = []) ∧
(∃ (s : State) (i e : Nat) (u : TakeRec), i < 16384 ∧ s.chanEgr i = some e ∧ s.outTakes i = ⟨none, some u⟩ ∧ u.src = 0 ∧
      u.ref = 0 ∧ bit u.flags 6 = false ∧ s.fab.tcq = [] ∧ s.get Reg.PROV.CHKINV_ARM = 0 ∧ s.get Reg.AUD.STAT_RUN = 0) :=
  ⟨⟨State.reset.set Reg.AUD.MAPRES_BUSY 1, 0, by decide +kernel⟩,
  ⟨State.reset, 0, by decide +kernel⟩,
  ⟨(State.reset.set Reg.AUD.CTRL_EN 1 |>.set (Reg.AUD.OV_VALID 700) 1 |>.set (Reg.AUD.OV_COUPLE 700) 5 |>.set
      (Reg.AUD.IGR_VALID 20) 1 |>.set (Reg.AUD.MAPARG 0) 700 |>.set (Reg.AUD.MAPARG 1) 0 |>.set (Reg.AUD.MAPARG 2) 0).set
      (Reg.AUD.OV_VALID 700) 0, 0, by decide +kernel⟩,
  ⟨(State.reset.set Reg.AUD.CTRL_EN 1 |>.set (Reg.AUD.OV_VALID 700) 1 |>.set (Reg.AUD.OV_COUPLE 700) 5 |>.set
      (Reg.AUD.IGR_VALID 20) 1 |>.set (Reg.AUD.MAPARG 0) 700 |>.set (Reg.AUD.MAPARG 1) 0x8070 |>.set (Reg.AUD.MAPARG 2)
      0), 0, by decide +kernel⟩,
  ⟨(State.reset.set Reg.AUD.CTRL_EN 1 |>.set (Reg.AUD.OV_VALID 700) 1 |>.set (Reg.AUD.OV_COUPLE 700) 5 |>.set
      (Reg.AUD.IGR_VALID 20) 1 |>.set (Reg.AUD.MAPARG 0) 700 |>.set (Reg.AUD.MAPARG 1) 0x8050 |>.set (Reg.AUD.MAPARG 2)
      0), 0, 700, 80, by decide +kernel⟩,
  ⟨(State.reset.set Reg.AUD.CTRL_EN 1 |>.set (Reg.AUD.OV_VALID 700) 1 |>.set (Reg.AUD.OV_COUPLE 700) 5 |>.set
      (Reg.AUD.IGR_VALID 20) 1 |>.set (Reg.AUD.MAPARG 0) 700 |>.set (Reg.AUD.MAPARG 1) 80 |>.set (Reg.AUD.MAPARG 2) 0), 0,
      700, by decide +kernel⟩,
  ⟨(State.reset.set Reg.AUD.CTRL_EN 1 |>.set (Reg.AUD.OV_VALID 700) 1 |>.set (Reg.AUD.OV_COUPLE 700) 5 |>.set
      (Reg.AUD.IGR_VALID 20) 1 |>.set (Reg.AUD.MAPARG 0) 700 |>.set (Reg.AUD.MAPARG 1) 80 |>.set (Reg.AUD.MAPARG 2) 0), 0,
      700, 80, by decide +kernel⟩,
  ⟨(State.reset.set Reg.AUD.CTRL_EN 1 |>.set (Reg.AUD.OV_VALID 700) 1 |>.set (Reg.AUD.OV_COUPLE 700) 5 |>.set
      (Reg.AUD.IGR_VALID 20) 1 |>.set (Reg.AUD.MAPARG 0) 700 |>.set (Reg.AUD.MAPARG 1) 80 |>.set (Reg.AUD.MAPARG 2) 0).set
      (Reg.AUD.OV_COUPLE 700) 0, 0, 700, by decide +kernel⟩,
  ⟨(State.reset.set Reg.AUD.CTRL_EN 1 |>.set (Reg.AUD.OV_VALID 700) 1 |>.set (Reg.AUD.OV_COUPLE 700) 5 |>.set
      (Reg.AUD.IGR_VALID 20) 1 |>.set (Reg.AUD.MAPARG 0) 700 |>.set (Reg.AUD.MAPARG 1) 512 |>.set (Reg.AUD.MAPARG 2) 0),
      0, 700, by decide +kernel⟩,
  ⟨(State.reset.set Reg.AUD.CTRL_EN 1 |>.set (Reg.AUD.OV_VALID 700) 1 |>.set (Reg.AUD.OV_COUPLE 700) 5 |>.set
      (Reg.AUD.IGR_VALID 20) 1 |>.set (Reg.AUD.MAPARG 0) 700 |>.set (Reg.AUD.MAPARG 1) 0 |>.set (Reg.AUD.MAPARG 2)
      0x8000), 0, 700, -32768, by decide +kernel⟩,
  ⟨(State.reset.set Reg.AUD.CTRL_EN 1 |>.set (Reg.AUD.OV_VALID 700) 1 |>.set (Reg.AUD.OV_COUPLE 700) 5 |>.set
      (Reg.AUD.IGR_VALID 20) 1 |>.set (Reg.AUD.MAPARG 0) 700 |>.set (Reg.AUD.MAPARG 1) 0 |>.set (Reg.AUD.MAPARG 2)
      0x8000).set (Reg.AUD.OV_MUTE 700) 1, 0, 700, -32768, by decide +kernel⟩,
  ⟨(State.reset.set Reg.AUD.CTRL_EN 1 |>.set (Reg.AUD.OV_VALID 700) 1 |>.set (Reg.AUD.OV_COUPLE 700) 5 |>.set
      (Reg.AUD.IGR_VALID 20) 1 |>.set (Reg.AUD.MAPARG 0) 700 |>.set (Reg.AUD.MAPARG 1) 0 |>.set (Reg.AUD.MAPARG 2)
      0x100).updOutVoice 700 (fun v => { v with silenced := true }), 0, 700, 256, by decide +kernel⟩,
  ⟨(State.reset.set Reg.AUD.CTRL_EN 1 |>.set (Reg.AUD.OV_VALID 700) 1 |>.set (Reg.AUD.OV_COUPLE 700) 5 |>.set
      (Reg.AUD.IGR_VALID 20) 1 |>.set (Reg.AUD.MAPARG 0) 700 |>.set (Reg.AUD.MAPARG 1) 0 |>.set (Reg.AUD.MAPARG 2) 1537),
      0, 700, 1537, by decide +kernel⟩,
  ⟨(State.reset.set Reg.AUD.CTRL_EN 1 |>.set (Reg.AUD.OV_VALID 700) 1 |>.set (Reg.AUD.OV_COUPLE 700) 5 |>.set
      (Reg.AUD.IGR_VALID 20) 1 |>.set (Reg.AUD.MAPARG 0) 700 |>.set (Reg.AUD.MAPARG 1) 0 |>.set (Reg.AUD.MAPARG 2) 1), 0,
      700, by decide +kernel⟩,
  ⟨(State.reset.set Reg.AUD.CTRL_EN 1 |>.set (Reg.AUD.OV_VALID 700) 1 |>.set (Reg.AUD.OV_COUPLE 700) 5 |>.set
      (Reg.AUD.IGR_VALID 20) 1 |>.set (Reg.AUD.MAPARG 0) 700 |>.set (Reg.AUD.MAPARG 1) 0 |>.set (Reg.AUD.MAPARG 2) 0).set
      (Reg.AUD.OV_MUTE 700) 1 |>.set (Reg.AUD.OV_GAIN 700) 0x8000, 0, 700, by decide +kernel⟩,
  ⟨(State.reset.set Reg.AUD.CTRL_EN 1 |>.set (Reg.AUD.OV_VALID 700) 1 |>.set (Reg.AUD.OV_COUPLE 700) 5 |>.set
      (Reg.AUD.IGR_VALID 20) 1 |>.set (Reg.AUD.MAPARG 0) 700 |>.set (Reg.AUD.MAPARG 1) 0 |>.set (Reg.AUD.MAPARG 2)
      1).updOutVoice 700 (fun v => { v with freed := true }), 0, 700, by decide +kernel⟩,
  ⟨(State.reset.set Reg.AUD.CTRL_EN 1 |>.set (Reg.AUD.OV_VALID 700) 1 |>.set (Reg.AUD.OV_COUPLE 700) 5 |>.set
      (Reg.AUD.IGR_VALID 20) 1 |>.set (Reg.AUD.MAPARG 0) 700 |>.set (Reg.AUD.MAPARG 1) 0 |>.set (Reg.AUD.MAPARG 2) 1), 0,
      700, by decide +kernel⟩,
  ⟨State.reset, by decide +kernel⟩,
  ⟨(({ State.reset with lode := { State.reset.lode with l := 4000000000000 } } : State).set Reg.AUD.STAT_RUN 1),
      by decide +kernel⟩,
  ⟨State.reset, by decide +kernel⟩,
  ⟨(({ State.reset with lode := { State.reset.lode with l := 4000000000000 } } : State).set Reg.AUD.STAT_RUN 1),
      by decide +kernel⟩,
  ⟨(((({ State.reset with lode := { State.reset.lode with l := 4000000000000 } } : State).set Reg.AUD.STAT_RUN 1).set
      (Reg.AUD.OV_SRCV 9) 1).set (Reg.AUD.OV_SRC 9) 3), ⟨9, 4, 0, 0, []⟩, 9, by decide +kernel⟩,
  ⟨(((({ State.reset with lode := { State.reset.lode with l := 4000000000000 } } : State).set Reg.AUD.STAT_RUN 1).set
      (Reg.AUD.OV_SRCV 9) 1).set (Reg.AUD.OV_SRC 9) 3), ⟨9, 3, 0, 0, []⟩, 9, by decide +kernel⟩,
  ⟨((((((({ State.reset with lode := { State.reset.lode with l := 4000000000000 } } : State).set Reg.AUD.STAT_RUN 1).set
      (Reg.AUD.OV_SRCV 9) 1).set (Reg.AUD.OV_SRC 9) 3).set (Reg.AUD.OV_STATE 9) 4).set Reg.AUD.FAILVOICES 2).updOutVoice 9
      (fun v => { v with passes := 7 })), ⟨9, 3, 0, 0, []⟩, 9, by decide +kernel⟩,
  ⟨State.reset, 3, by decide +kernel⟩,
  ⟨(State.reset.set (Reg.CHN.ENT_RES_EGV 9) 1), 9, 0, by decide +kernel⟩,
  ⟨({ State.reset with fab := { State.reset.fab with outs := [(9, ⟨none, some ⟨0, 5, 1, 0, 0⟩⟩)] } } : State).set
      (Reg.CHN.ENT_RES_EGV 9) 1, 9, 0, ⟨0, 5, 1, 0, 0⟩, by decide +kernel⟩⟩

/-- States and operands that meet the hypotheses of each clause of `Obligations.AudioPorts`. -/
theorem witness_audio_ports :
(({ State.reset.set (Reg.APRT.STAT_STATE 2) 1 with inUse := [((Reg.APRT.CFG_MODE 2).addr, BitVec.ofNat 32 (2 ^ (Reg.APRT.CFG_MODE 2).lo))] }
      : State).get (Reg.APRT.STAT_STATE 2) ≠ 0 ∧
      ({ State.reset.set (Reg.APRT.STAT_STATE 2) 1 with inUse := [((Reg.APRT.CFG_MODE 2).addr, BitVec.ofNat 32 (2 ^ (Reg.APRT.CFG_MODE 2).lo))] }
      : State).aprtMode 2 ≠ 0) ∧
(∃ (s : State) (n hz : Nat), (s.get (Reg.APRT.STAT_STATE n) = 0 ∨ (8 ≤ n ∧ (s.aprtMode n = 0 ∨ hz ≤ 98304000)))) ∧
(∃ (s : State) (n hz : Nat), n < 8 ∧ hz ≤ 98304000 ∧ (s.get (Reg.APRT.STAT_STATE n) = 1 ∨ s.get (Reg.APRT.STAT_STATE n) =
      4)) ∧
(∃ (s : State) (n bclks : Nat), n < 8 ∧ s.aprtMode n = 0 ∧ s.get (Reg.APRT.STAT_STATE n) = 3 ∧ bclks ≠ s.aprtSlots n *
      s.aprtWidth n ∧ (s.aprt n).frames % 64 ≠ 0) ∧
(∃ (s : State) (n bclks hz : Nat), n < 8 ∧ (s.aprtMode n = 0 ∨ hz ≤ 98304000) ∧ s.get (Reg.APRT.STAT_STATE n) = 2 ∧
      (s.aprt n).frames % 64 ≠ 0 ∧ bclks = s.aprtSlots n * s.aprtWidth n) ∧
(∃ (s : State) (n bclks hz : Nat), n < 8 ∧ (s.aprtMode n = 0 ∨ hz ≤ 98304000) ∧ s.get (Reg.APRT.STAT_STATE n) = 2 ∧
      (s.aprt n).frames % 64 ≠ 0 ∧ bclks ≠ s.aprtSlots n * s.aprtWidth n) ∧
(∃ (s : State) (n hz : Nat), n < 8 ∧ (s.aprtMode n = 0 ∨ hz ≤ 98304000) ∧ (s.get (Reg.APRT.STAT_STATE n) = 2 ∨ s.get
      (Reg.APRT.STAT_STATE n) = 3) ∧ (s.aprt n).frames % 64 = 0 ∧ (s.aprt n).stamps.length < 16) ∧
(∃ (s : State) (n hz : Nat) (t0 r : Nat), r = (divFree 270 (1024 * 10 ^ 12) ((s.timeNs - t0 : Nat) : Int)).toNat ∧ n < 8 ∧
      (s.aprtMode n = 0 ∨ hz ≤ 98304000) ∧ (s.get (Reg.APRT.STAT_STATE n) = 2 ∨ s.get (Reg.APRT.STAT_STATE n) = 3) ∧
      (s.aprt n).frames % 64 = 0 ∧ (s.aprt n).stamps[15]? = some t0 ∧ t0 < s.timeNs) ∧
(∃ (s : State) (n bclks : Nat), n < 8 ∧ s.get (Reg.APRT.STAT_STATE n) = 3 ∧ bclks = s.aprtSlots n * s.aprtWidth n ∧
      (s.aprt n).frames % 64 ≠ 0 ∧ s.sampleTick ≤ (s.aprt n).lastTick ∧ s.aprtMode n = 0) ∧
(∃ (s : State) (n bclks hz : Nat), n < 8 ∧ hz ≤ 98304000 ∧ s.get (Reg.APRT.STAT_STATE n) = 3 ∧ bclks = s.aprtSlots n *
      s.aprtWidth n ∧ (s.aprt n).frames % 64 ≠ 0 ∧ s.sampleTick ≤ (s.aprt n).lastTick ∧ s.aprtMode n = 2) ∧
(∃ (s : State) (n bclks hz : Nat), n < 8 ∧ hz ≤ 98304000 ∧ s.get (Reg.APRT.STAT_STATE n) = 3 ∧ bclks = s.aprtSlots n *
      s.aprtWidth n ∧ (s.aprt n).frames % 64 ≠ 0 ∧ s.sampleTick ≤ (s.aprt n).lastTick ∧ s.aprtMode n = 1 ∧ 6 ≤ (s.aprt
      n).fifoIn.length ∧ 2 < (s.aprt n).fifoOut) ∧
(∃ (s : State) (n bclks hz : Nat), n < 8 ∧ hz ≤ 98304000 ∧ s.get (Reg.APRT.STAT_STATE n) = 3 ∧ bclks = s.aprtSlots n *
      s.aprtWidth n ∧ (s.aprt n).frames % 64 ≠ 0 ∧ s.sampleTick ≤ (s.aprt n).lastTick ∧ s.aprtMode n = 1 ∧ (s.aprt
      n).fifoIn.length < 6 ∧ (s.aprt n).fifoOut ≤ 2) ∧
(∃ (s : State) (n bclks hz : Nat) (q : List (List Nat)), n < 8 ∧ hz ≤ 98304000 ∧ s.aprtMode n = 1 ∧ s.get
      (Reg.APRT.STAT_STATE n) = 3 ∧ bclks = s.aprtSlots n * s.aprtWidth n ∧ (s.aprt n).frames % 64 ≠ 0 ∧ s.sampleTick ≤
      (s.aprt n).lastTick ∧ (s.aprt n).fifoIn = q ∧ q.length < 6 ∧ 2 < (s.aprt n).fifoOut) ∧
(∃ (s : State) (n : Nat), n < 8 ∧ s.aprtMode n ≠ 0 ∧ s.get (Reg.APRT.STAT_STATE n) = 3 ∧ 4000000000000 ≤ (s.now - (s.aprt
      n).edge) * s.get (Reg.APRT.RATE n)) ∧
(∃ (s : State) (n : Nat), (8 ≤ n ∨ s.aprtMode n = 0 ∨ s.get (Reg.APRT.STAT_STATE n) ≠ 3 ∨ (s.now - (s.aprt n).edge) *
      s.get (Reg.APRT.RATE n) < 4000000000000)) ∧
(∃ (s : State) (n : Nat), (8 ≤ n ∨ s.aprtMode n ≠ 2 ∨ s.get (Reg.APRT.STAT_STATE n) ≠ 3)) ∧
(∃ (s : State) (n : Nat), n < 8 ∧ s.aprtMode n = 2 ∧ s.get (Reg.APRT.STAT_STATE n) = 3) :=
  ⟨by decide +kernel,
  ⟨State.reset, 2, 48000, by decide +kernel⟩,
  ⟨(State.reset.set (Reg.APRT.STAT_STATE 2) 1), 2, 48000, by decide +kernel⟩,
  ⟨(State.reset.set (Reg.APRT.STAT_STATE 2) 3 |>.updAprt 2 fun x => { x with frames := 5 }), 2, 5, by decide +kernel⟩,
  ⟨(State.reset.set (Reg.APRT.STAT_STATE 2) 2 |>.updAprt 2 fun x => { x with frames := 5 }), 2, (64 * 32), 48000,
      by decide +kernel⟩,
  ⟨(State.reset.set (Reg.APRT.STAT_STATE 2) 2 |>.updAprt 2 fun x => { x with frames := 5 }), 2, 15, 48000,
      by decide +kernel⟩,
  ⟨(State.reset.set (Reg.APRT.STAT_STATE 2) 2 |>.updAprt 2 fun x => { x with frames := 128, stamps := [4, 3] }), 2, 48000,
      by decide +kernel⟩,
  ⟨(((State.reset.set (Reg.APRT.STAT_STATE 2) 2 |>.updAprt 2 fun x =>
      { x with frames := 1024, stamps := List.replicate 16 0 }) : State).set Reg.TIME.NOWLO 9), 2, 48000, 0, _, rfl,
      by decide +kernel⟩,
  ⟨(State.reset.set (Reg.APRT.STAT_STATE 2) 3 |>.updAprt 2 fun x => { x with frames := 5, lastTick := 9 }), 2, (64 * 32),
      by decide +kernel⟩,
  ⟨({ (State.reset.set (Reg.APRT.STAT_STATE 2) 3 |>.updAprt 2 fun x => { x with frames := 5 }) with inUse := [((Reg.APRT.CFG_MODE 2).addr, BitVec.ofNat 32 (2 * 2 ^ (Reg.APRT.CFG_MODE 2).lo))] }
      : State), 2, (16 * 1), 48000, by decide +kernel⟩,
  ⟨({ (State.reset.set (Reg.APRT.STAT_STATE 2) 3 |>.updAprt 2 fun x => { x with frames := 5, fifoIn := [[1], [2], [1], [2], [1], [2]] }) with inUse := [((Reg.APRT.CFG_MODE 2).addr, BitVec.ofNat 32 (1 * 2 ^ (Reg.APRT.CFG_MODE 2).lo))] }
      : State), 2, (16 * 1), 48000, by decide +kernel⟩,
  ⟨({ (State.reset.set (Reg.APRT.STAT_STATE 2) 3 |>.updAprt 2 fun x => { x with frames := 5, fifoOut := 2 }) with inUse := [((Reg.APRT.CFG_MODE 2).addr, BitVec.ofNat 32 (1 * 2 ^ (Reg.APRT.CFG_MODE 2).lo))] }
      : State), 2, (16 * 1), 48000, by decide +kernel⟩,
  ⟨({ (State.reset.set (Reg.APRT.STAT_STATE 2) 3 |>.updAprt 2 fun x => { x with frames := 5, fifoIn := [[1], [2]] }) with inUse := [((Reg.APRT.CFG_MODE 2).addr, BitVec.ofNat 32 (1 * 2 ^ (Reg.APRT.CFG_MODE 2).lo))] }
      : State), 2, (16 * 1), 48000, [[1], [2]], by decide +kernel⟩,
  ⟨({ (State.reset.set (Reg.APRT.STAT_STATE 2) 3 |>.set (Reg.APRT.RATE 2) 48000000 |>.updAprt 2 fun x => { x with fifoIn := [[1], [2]] }) with now := 90000, inUse := [((Reg.APRT.CFG_MODE 2).addr, BitVec.ofNat 32 (1 * 2 ^ (Reg.APRT.CFG_MODE 2).lo))] }
      : State), 2, by decide +kernel⟩,
  ⟨(State.reset.set (Reg.APRT.STAT_STATE 2) 3), 2, by decide +kernel⟩,
  ⟨(State.reset.set (Reg.APRT.STAT_STATE 2) 3), 2, by decide +kernel⟩,
  ⟨({ (State.reset.set (Reg.APRT.STAT_STATE 2) 3) with inUse := [((Reg.APRT.CFG_MODE 2).addr, BitVec.ofNat 32 (2 * 2 ^ (Reg.APRT.CFG_MODE 2).lo))] }
      : State), 2, by decide +kernel⟩⟩

/-- States and operands that meet the hypotheses of each clause of `Obligations.Converters`. -/
theorem witness_converters :
(∃ (s : State) (m n : Nat) (data : Word), Quiet m s ∧ n < 32 ∧ bit data.toNat 0 = true ∧ s.get (Reg.CNV.STAT_SWAPPEND n) =
      0) ∧
(∃ (s : State) (m n : Nat) (data : Word), Quiet m s ∧ (32 ≤ n ∨ bit data.toNat 0 = false ∨ s.get (Reg.CNV.STAT_SWAPPEND n)
      = 1)) ∧
(∃ (s : State) (n e : Nat), n < 32 ∧ s.get (Reg.CNV.STAT_SWAPPEND n) = 1 ∧ s.get (Reg.CNV.STAT_RUN n) = 1 ∧ s.get
      (Reg.CNV.CHAN n) ≠ 0 ∧ s.chanEgr (State.handleIdx (s.get (Reg.CNV.CHAN n))) = some e ∧ (s.egr e).cur.isSome = true ∧
      (s.cnvHw n).goAt + 10000 ≤ s.now) ∧
(∃ (s : State) (n : Nat), (s.get (Reg.CNV.STAT_SWAPPEND n) = 0 ∨ s.get (Reg.CNV.STAT_RUN n) = 0 ∨ s.get (Reg.CNV.CHAN n) =
      0 ∨ s.now < (s.cnvHw n).goAt + 10000)) ∧
(∃ (s : State) (n e : Nat), s.chanEgr (State.handleIdx (s.get (Reg.CNV.CHAN n))) = some e ∧ (s.egr e).cur = none) ∧
(∃ (s : State) (m n a v : Nat) (data : Word) (q : Nat × Nat), Quiet m s ∧ n < 32 ∧ s.get (Reg.CNV.STAT_SWAPPEND n) = 0 ∧ q
      = s.cnvSel n ∧ a = s.get (Reg.CNV.LUTADDR n) ∧ a < lutEntries q.1 ∧ v = data.toNat % 65536) ∧
(∃ (s : State) (m n a v : Nat) (q : Nat × Nat), Quiet m s ∧ n < 32 ∧ s.mgt.stalled = [] ∧ q = s.cnvSel n ∧ a = s.get
      (Reg.CNV.LUTADDR n) ∧ a < lutEntries q.1 ∧ v = lutGet (s.cnvHw n).nextLut q.1 q.2 a ∧ v < 65536 ∧ s.prov.inverted =
      []) ∧
(∃ (s : State) (m n a : Nat), Quiet m s ∧ n < 32 ∧ a = s.get (Reg.CNV.LUTADDR n) ∧ lutEntries (s.cnvSel n).1 ≤ a) ∧
(∃ (s : State) (m n a : Nat), Quiet m s ∧ n < 32 ∧ s.mgt.stalled = [] ∧ a = s.get (Reg.CNV.LUTADDR n) ∧ lutEntries
      (s.cnvSel n).1 ≤ a) ∧
(∃ (n : Nat), 32 ≤ n) ∧
(∃ (s : State) (m n : Nat), Quiet m s ∧ n < 32 ∧ s.get (Reg.CNV.STAT_SWAPPEND n) = 1) ∧
(∃ (s : State) (n : Nat), (s.get (Reg.CNV.STAT_RUN n) = 0 ∨ s.get (Reg.CNV.CHAN n) = 0 ∨ s.chanEgr (State.handleIdx (s.get
      (Reg.CNV.CHAN n))) = none ∨ s.chanIng (State.handleIdx (s.get (Reg.CNV.CHAN n))) = none)) ∧
(∃ (s : State) (n h e i : Nat) (x : Ingress), n < 32 ∧ h = s.get (Reg.CNV.CHAN n) ∧ h ≠ 0 ∧ s.get (Reg.CNV.STAT_RUN n) = 1
      ∧ s.chanEgr (State.handleIdx h) = some e ∧ s.chanIng (State.handleIdx h) = some i ∧ i < 8192 ∧ Assoc.find s.fab.ing
      i = some x ∧ x.moveTo = none ∧ (s.egr e).cur = none) ∧
(∃ (s : State) (n h e i : Nat) (x : Ingress) (f : Frame), n < 32 ∧ h = s.get (Reg.CNV.CHAN n) ∧ h ≠ 0 ∧ s.get
      (Reg.CNV.STAT_RUN n) = 1 ∧ s.chanEgr (State.handleIdx h) = some e ∧ s.chanIng (State.handleIdx h) = some i ∧ i <
      8192 ∧ Assoc.find s.fab.ing i = some x ∧ x.moveTo = none ∧ (s.egr e).cur = some f ∧ f.tstate = 1) ∧
(∃ (s : State) (n h e i : Nat) (x : Ingress) (f : Frame), n < 32 ∧ h = s.get (Reg.CNV.CHAN n) ∧ h ≠ 0 ∧ s.get
      (Reg.CNV.STAT_RUN n) = 1 ∧ s.chanEgr (State.handleIdx h) = some e ∧ s.chanIng (State.handleIdx h) = some i ∧ i <
      8192 ∧ Assoc.find s.fab.ing i = some x ∧ x.moveTo = none ∧ (s.egr e).cur = some f ∧ f.tstate ≠ 1 ∧ fmtNoColr f.fmt ≠
      fmtNoColr (s.get (Reg.CNV.INFMT n))) ∧
(∃ (s : State) (n h e i : Nat) (words : List (Nat × Nat)) (x : Ingress) (f : Frame) (c : CnvHw) (b : Bool), n < 32 ∧ h =
      s.get (Reg.CNV.CHAN n) ∧ h ≠ 0 ∧ s.get (Reg.CNV.STAT_RUN n) = 1 ∧ s.chanEgr (State.handleIdx h) = some e ∧ s.chanIng
      (State.handleIdx h) = some i ∧ i < 8192 ∧ Assoc.find s.fab.ing i = some x ∧ x.moveTo = none ∧ (s.egr e).cur = some f
      ∧ f.tstate ≠ 1 ∧ fmtNoColr f.fmt = fmtNoColr (s.get (Reg.CNV.INFMT n)) ∧ c = s.cnvHw n ∧ b = s.frameFails e ∧ words
      = [] ∧ s.cnvTableBad n = false) ∧
(∃ (s : State) (n h e i : Nat) (x : Ingress) (f : Frame), n < 32 ∧ h = s.get (Reg.CNV.CHAN n) ∧ h ≠ 0 ∧ s.get
      (Reg.CNV.STAT_RUN n) = 1 ∧ s.chanEgr (State.handleIdx h) = some e ∧ s.chanIng (State.handleIdx h) = some i ∧ i <
      8192 ∧ Assoc.find s.fab.ing i = some x ∧ x.moveTo = none ∧ (s.egr e).cur = some f ∧ f.tstate ≠ 1 ∧ fmtNoColr f.fmt =
      fmtNoColr (s.get (Reg.CNV.INFMT n)) ∧ s.cnvTableBad n = true) :=
  ⟨⟨State.reset, 0, 3, 1, by decide +kernel⟩,
  ⟨State.reset, 0, 3, 2, by decide +kernel⟩,
  ⟨((({ State.reset with now := 10000,  fab := { State.reset.fab with ing := [(7, State.Ingress.fresh 0x1000000 false)], egr := [(9, { State.Egress.fresh 0 false with cur := some ⟨0, none, 0, false, [], []⟩ })] } }
      : State).set (Reg.CNV.CHAN 3) (State.mkHandle 5 3 1) |>.set (Reg.CNV.STAT_RUN 3) 1 |>.set (Reg.CHN.ENT_RES_INGV 3) 1
      |>.set (Reg.CHN.ENT_RES_INGENT 3) 7 |>.set (Reg.CHN.ENT_RES_EGV 3) 1 |>.set (Reg.CHN.ENT_RES_EGENT 3) 9 |>.set
      (Reg.CNV.OUTFMT 3) 0x1).set (Reg.CNV.STAT_SWAPPEND 3) 1), 3, 9, by decide +kernel⟩,
  ⟨State.reset.set (Reg.CNV.STAT_SWAPPEND 3) 1, 3, by decide +kernel⟩,
  ⟨((({ State.reset with now := 10000,  fab := { State.reset.fab with ing := [(7, State.Ingress.fresh 0x1000000 false)], egr := [(9, { State.Egress.fresh 0 false with cur := none })] } }
      : State).set (Reg.CNV.CHAN 3) (State.mkHandle 5 3 1) |>.set (Reg.CNV.STAT_RUN 3) 1 |>.set (Reg.CHN.ENT_RES_INGV 3) 1
      |>.set (Reg.CHN.ENT_RES_INGENT 3) 7 |>.set (Reg.CHN.ENT_RES_EGV 3) 1 |>.set (Reg.CHN.ENT_RES_EGENT 3) 9 |>.set
      (Reg.CNV.OUTFMT 3) 0x1).set (Reg.CNV.STAT_SWAPPEND 3) 1), 3, 9, by decide +kernel⟩,
  ⟨State.reset.set (Reg.CNV.LUTADDR 3) 9, 0, 3, 9, 0x7777, 0x7777, (0, 0), by decide +kernel⟩,
  ⟨State.reset.set (Reg.CNV.LUTADDR 3) 9, 0, 3, 9, 0, (0, 0), by decide +kernel⟩,
  ⟨State.reset.set (Reg.CNV.LUTADDR 3) 4096, 0, 3, 4096, by decide +kernel⟩,
  ⟨State.reset.set (Reg.CNV.LUTADDR 3) 4096, 0, 3, 4096, by decide +kernel⟩,
  ⟨32, by decide +kernel⟩,
  ⟨State.reset.set (Reg.CNV.STAT_SWAPPEND 3) 1, 0, 3, by decide +kernel⟩,
  ⟨State.reset, 3, by decide +kernel⟩,
  ⟨(({ State.reset with  fab := { State.reset.fab with ing := [(7, State.Ingress.fresh 0x1000000 false)], egr := [(9, { State.Egress.fresh 0 false with cur := none })] } }
      : State).set (Reg.CNV.CHAN 3) (State.mkHandle 5 3 1) |>.set (Reg.CNV.STAT_RUN 3) 1 |>.set (Reg.CHN.ENT_RES_INGV 3) 1
      |>.set (Reg.CHN.ENT_RES_INGENT 3) 7 |>.set (Reg.CHN.ENT_RES_EGV 3) 1 |>.set (Reg.CHN.ENT_RES_EGENT 3) 9 |>.set
      (Reg.CNV.OUTFMT 3) 0x1), 3, (State.mkHandle 5 3 1), 9, 7, State.Ingress.fresh 0x1000000 false, by decide +kernel⟩,
  ⟨(({ State.reset with  fab := { State.reset.fab with ing := [(7, State.Ingress.fresh 0x1000000 false)], egr := [(9, { State.Egress.fresh 0 false with cur := some ⟨0, none, 1, false, [], []⟩ })] } }
      : State).set (Reg.CNV.CHAN 3) (State.mkHandle 5 3 1) |>.set (Reg.CNV.STAT_RUN 3) 1 |>.set (Reg.CHN.ENT_RES_INGV 3) 1
      |>.set (Reg.CHN.ENT_RES_INGENT 3) 7 |>.set (Reg.CHN.ENT_RES_EGV 3) 1 |>.set (Reg.CHN.ENT_RES_EGENT 3) 9 |>.set
      (Reg.CNV.OUTFMT 3) 0x1), 3, (State.mkHandle 5 3 1), 9, 7, State.Ingress.fresh 0x1000000 false, ⟨0, none, 1, false,
      [], []⟩, by decide +kernel⟩,
  ⟨((({ State.reset with  fab := { State.reset.fab with ing := [(7, State.Ingress.fresh 0x1000000 false)], egr := [(9, { State.Egress.fresh 0 false with cur := some ⟨0, none, 0, false, [], []⟩ })] } }
      : State).set (Reg.CNV.CHAN 3) (State.mkHandle 5 3 1) |>.set (Reg.CNV.STAT_RUN 3) 1 |>.set (Reg.CHN.ENT_RES_INGV 3) 1
      |>.set (Reg.CHN.ENT_RES_INGENT 3) 7 |>.set (Reg.CHN.ENT_RES_EGV 3) 1 |>.set (Reg.CHN.ENT_RES_EGENT 3) 9 |>.set
      (Reg.CNV.OUTFMT 3) 0x1).set (Reg.CNV.INFMT 3) 9), 3, (State.mkHandle 5 3 1), 9, 7, State.Ingress.fresh 0x1000000
      false, ⟨0, none, 0, false, [], []⟩, by decide +kernel⟩,
  ⟨(({ State.reset with  fab := { State.reset.fab with ing := [(7, State.Ingress.fresh 0x1000000 false)], egr := [(9, { State.Egress.fresh 0 false with cur := some ⟨0, none, 0, false, [], []⟩ })] } }
      : State).set (Reg.CNV.CHAN 3) (State.mkHandle 5 3 1) |>.set (Reg.CNV.STAT_RUN 3) 1 |>.set (Reg.CHN.ENT_RES_INGV 3) 1
      |>.set (Reg.CHN.ENT_RES_INGENT 3) 7 |>.set (Reg.CHN.ENT_RES_EGV 3) 1 |>.set (Reg.CHN.ENT_RES_EGENT 3) 9 |>.set
      (Reg.CNV.OUTFMT 3) 0x1), 3, (State.mkHandle 5 3 1), 9, 7, [], State.Ingress.fresh 0x1000000 false, ⟨0, none, 0,
      false, [], []⟩, State.CnvHw.fresh, true, by decide +kernel⟩,
  ⟨(({ (({ State.reset with  fab := { State.reset.fab with ing := [(7, State.Ingress.fresh 0x1000000 false)], egr := [(9, { State.Egress.fresh 0 false with cur := some ⟨0, none, 0, false, [], []⟩ })] } } : State).set (Reg.CNV.CHAN 3) (State.mkHandle 5 3 1) |>.set (Reg.CNV.STAT_RUN 3) 1 |>.set (Reg.CHN.ENT_RES_INGV 3) 1 |>.set (Reg.CHN.ENT_RES_INGENT 3) 7 |>.set (Reg.CHN.ENT_RES_EGV 3) 1 |>.set (Reg.CHN.ENT_RES_EGENT 3) 9 |>.set (Reg.CNV.OUTFMT 3) 0x1) with prov := { State.reset.prov with bad := [(8, 6 * 1048576)] } }
      : State).updCnv 3 fun x => { x with act := { x.act with proc := 0 } }), 3, (State.mkHandle 5 3 1), 9, 7,
      State.Ingress.fresh 0x1000000 false, ⟨0, none, 0, false, [], []⟩, by decide +kernel⟩⟩

/-- States and operands that meet the hypotheses of each clause of `Obligations.SdiReceiveLines`. -/
theorem witness_sdi_receive_lines :
(∃ (s : State) (n : Nat), n < 512 ∧ s.get (Reg.SDI.STAT_RUN (sdiPage n)) = 1 ∧ s.laneRxMode n = 1 ∧ s.get
      (Reg.LANE.STAT_CDRLOCK n) = 0 ∧ s.rxStopped n = false) ∧
(∃ (s : State) (n : Nat), (512 ≤ n ∨ s.get (Reg.SDI.STAT_RUN (sdiPage n)) = 0 ∨ s.laneRxMode n ≠ 1 ∨ s.get
      (Reg.LANE.STAT_CDRLOCK n) = 1 ∨ s.rxStopped n = true)) ∧
(∃ (s : State) (n : Nat), s.sdiReceives n = false) ∧
(∃ (s : State) (n : Nat), n < 576 ∧ s.sdiReceives n = true) ∧
(∃ (s : State) (n : Nat) (l : SdiLine), n < 576 ∧ s.sdiReceives n = true ∧ s.get (Reg.SDI.RXSTAT_STATE (enginePage n)) = 0
      ∧ s.rateEnabled n = true ∧ ((readTrs true l.eav).1 = true ∨ (readTrs false l.sav).1 = true)) ∧
(∃ (s : State) (n : Nat) (l : SdiLine), n < 576 ∧ s.sdiReceives n = true ∧ s.get (Reg.SDI.RXSTAT_STATE (enginePage n)) = 0
      ∧ (s.rateEnabled n = false ∨ ((readTrs true l.eav).1 = false ∧ (readTrs false l.sav).1 = false))) ∧
(∃ (s : State) (n : Nat) (l : SdiLine), n < 576 ∧ s.sdiReceives n = true ∧ s.get (Reg.SDI.RXSTAT_STATE (enginePage n)) = 1
      ∧ ((readTrs true l.eav).1 = true ∨ (readTrs false l.sav).1 = true) ∧ ((s.sdiRx n).good = 0 ∨ l.spacing = (s.sdiRx
      n).spacing) ∧ (s.sdiRx n).good < 2) ∧
(∃ (s : State) (n : Nat) (l : SdiLine), n < 576 ∧ s.sdiReceives n = true ∧ s.get (Reg.SDI.RXSTAT_STATE (enginePage n)) = 1
      ∧ ((readTrs true l.eav).1 = true ∨ (readTrs false l.sav).1 = true) ∧ 2 ≤ (s.sdiRx n).good ∧ l.spacing = (s.sdiRx
      n).spacing) ∧
(∃ (s : State) (n : Nat) (l : SdiLine), n < 576 ∧ s.sdiReceives n = true ∧ s.get (Reg.SDI.RXSTAT_STATE (enginePage n)) = 1
      ∧ ((readTrs true l.eav).1 = false ∧ (readTrs false l.sav).1 = false) ∨ ((s.sdiRx n).good ≠ 0 ∧ l.spacing ≠ (s.sdiRx
      n).spacing)) ∧
(∃ (s : State) (n : Nat) (l : SdiLine), n < 576 ∧ s.sdiReceives n = true ∧ s.get (Reg.SDI.RXSTAT_STATE (enginePage n)) = 2
      ∧ (readTrs true l.eav).1 = true ∧ (readTrs false l.sav).1 = true ∧ l.spacing = (s.sdiRx n).spacing ∧ l.crcErr =
      false ∧ l.lineNoErr = false ∧ l.skewed = false) ∧
(∃ (s : State) (n : Nat) (l : SdiLine), n < 576 ∧ s.sdiReceives n = true ∧ s.get (Reg.SDI.RXSTAT_STATE (enginePage n)) = 2
      ∧ (l.crcErr = true ∨ l.lineNoErr = true)) ∧
(∃ (s : State) (n : Nat) (l : SdiLine), n < 576 ∧ s.sdiReceives n = true ∧ s.get (Reg.SDI.RXSTAT_STATE (enginePage n)) = 2
      ∧ ((readTrs true l.eav).1 = false ∨ (readTrs false l.sav).1 = false ∨ l.spacing ≠ (s.sdiRx n).spacing) ∧ l.skewed =
      false ∧ (s.sdiRx n).bad < 3) ∧
(∃ (s : State) (n : Nat) (l : SdiLine), n < 576 ∧ s.sdiReceives n = true ∧ s.get (Reg.SDI.RXSTAT_STATE (enginePage n)) = 2
      ∧ ((readTrs true l.eav).1 = false ∨ (readTrs false l.sav).1 = false ∨ l.spacing ≠ (s.sdiRx n).spacing) ∧ 3 ≤
      (s.sdiRx n).bad) ∧
(∃ (s : State) (n : Nat) (l : SdiLine), n < 576 ∧ s.sdiReceives n = true ∧ s.get (Reg.SDI.RXSTAT_STATE (enginePage n)) = 2
      ∧ (s.sdiRx n).bad < 3 ∧ l.skewed = true) ∧
(∃ (s : State) (e k fmt : Nat) (picture : List Pix) (anc : List AncPkt) (x : Ingress) (f : Frame), e < 8192 ∧ k < 8192 ∧ k
      = s.movedIng e ∧ s.get (Reg.FAB.ISE_CFG_VALID e) = 1 ∧ s.get (Reg.FAB.ISE_CFG_PATH e) ≠ 3 ∧ Assoc.find s.fab.ing e =
      some x ∧ x.writing = true ∧ (Assoc.find s.fab.ing k).isSome = true ∧ s.get Reg.PROV.TOKINJ_ARM = 0 ∧ (f =
      { fmt := fmt, token := some ⟨s.use Reg.CHN.CFG_SYSNUM, State.handleIdx (s.get (Reg.FAB.ISE_HANDLE e)), (match x.count with | none => 0 | some c => (c + 1) % 65536), digest picture⟩, tstate := 0, poisoned := false, picture := picture, anc := anc })) ∧
(∃ (s : State) (e : Nat), (s.get (Reg.FAB.ISE_CFG_VALID e) = 0 ∨ s.get (Reg.FAB.ISE_CFG_PATH e) = 3 ∨ (s.ing e).writing =
      false)) :=
  ⟨⟨({ State.reset.set (Reg.SDI.STAT_RUN (sdiPage 3)) 1 |>.set (Reg.QUAD.STAT_RUN 0) 1 |>.set (Reg.LANE.STAT_RXSTATE 3) 4 |>.set (Reg.SDI.RXSTAT_STATE (sdiPage 3)) 0 with inUse := [((Reg.LANE.CFG_RXMODE 3).addr, BitVec.ofNat 32 (2 ^ (Reg.LANE.CFG_RXMODE 3).lo))] }
      : State), 3, by decide +kernel⟩,
  ⟨({ State.reset.set (Reg.SDI.STAT_RUN (sdiPage 3)) 1 |>.set (Reg.QUAD.STAT_RUN 0) 1 |>.set (Reg.LANE.STAT_RXSTATE 3) 4 |>.set (Reg.SDI.RXSTAT_STATE (sdiPage 3)) 0 with inUse := [((Reg.LANE.CFG_RXMODE 3).addr, BitVec.ofNat 32 (2 ^ (Reg.LANE.CFG_RXMODE 3).lo))] }
      : State).set (Reg.LANE.STAT_CDRLOCK 3) 1, 3, by decide +kernel⟩,
  ⟨State.reset, 3, by decide +kernel⟩,
  ⟨({ State.reset.set (Reg.SDI.STAT_RUN (sdiPage 3)) 1 |>.set (Reg.QUAD.STAT_RUN 0) 1 |>.set (Reg.LANE.STAT_RXSTATE 3) 4 |>.set (Reg.SDI.RXSTAT_STATE (sdiPage 3)) 2 with inUse := [((Reg.LANE.CFG_RXMODE 3).addr, BitVec.ofNat 32 (2 ^ (Reg.LANE.CFG_RXMODE 3).lo))] }
      : State), 3, by decide +kernel⟩,
  ⟨({ State.reset.set (Reg.SDI.STAT_RUN (sdiPage 3)) 1 |>.set (Reg.QUAD.STAT_RUN 0) 1 |>.set (Reg.LANE.STAT_RXSTATE 3) 4 |>.set (Reg.SDI.RXSTAT_STATE (sdiPage 3)) 0 |>.set (Reg.SDI.RXSTAT_RATE (sdiPage 3)) 3 with inUse := [((Reg.LANE.CFG_RXMODE 3).addr, BitVec.ofNat 32 (2 ^ (Reg.LANE.CFG_RXMODE 3).lo))] }
      : State), 3, ⟨some 0x274, some 0x200, 2200, false, false, false, 0⟩, by decide +kernel⟩,
  ⟨({ State.reset.set (Reg.SDI.STAT_RUN (sdiPage 3)) 1 |>.set (Reg.QUAD.STAT_RUN 0) 1 |>.set (Reg.LANE.STAT_RXSTATE 3) 4 |>.set (Reg.SDI.RXSTAT_STATE (sdiPage 3)) 0 with inUse := [((Reg.LANE.CFG_RXMODE 3).addr, BitVec.ofNat 32 (2 ^ (Reg.LANE.CFG_RXMODE 3).lo))] }
      : State), 3, ⟨some 0x274, some 0x200, 2200, false, false, false, 0⟩, by decide +kernel⟩,
  ⟨({ State.reset.set (Reg.SDI.STAT_RUN (sdiPage 3)) 1 |>.set (Reg.QUAD.STAT_RUN 0) 1 |>.set (Reg.LANE.STAT_RXSTATE 3) 4 |>.set (Reg.SDI.RXSTAT_STATE (sdiPage 3)) 1 |>.updRx 3 fun x => { x with good := 1, spacing := 2200 } with inUse := [((Reg.LANE.CFG_RXMODE 3).addr, BitVec.ofNat 32 (2 ^ (Reg.LANE.CFG_RXMODE 3).lo))] }
      : State), 3, ⟨some 0x274, some 0x200, 2200, false, false, false, 0⟩, by decide +kernel⟩,
  ⟨({ State.reset.set (Reg.SDI.STAT_RUN (sdiPage 3)) 1 |>.set (Reg.QUAD.STAT_RUN 0) 1 |>.set (Reg.LANE.STAT_RXSTATE 3) 4 |>.set (Reg.SDI.RXSTAT_STATE (sdiPage 3)) 1 |>.updRx 3 fun x => { x with good := 2, spacing := 2200 } with inUse := [((Reg.LANE.CFG_RXMODE 3).addr, BitVec.ofNat 32 (2 ^ (Reg.LANE.CFG_RXMODE 3).lo))] }
      : State), 3, ⟨some 0x274, some 0x200, 2200, false, false, false, 0⟩, by decide +kernel⟩,
  ⟨({ State.reset.set (Reg.SDI.STAT_RUN (sdiPage 3)) 1 |>.set (Reg.QUAD.STAT_RUN 0) 1 |>.set (Reg.LANE.STAT_RXSTATE 3) 4 |>.set (Reg.SDI.RXSTAT_STATE (sdiPage 3)) 1 |>.updRx 3 fun x => { x with good := 2, spacing := 2199 } with inUse := [((Reg.LANE.CFG_RXMODE 3).addr, BitVec.ofNat 32 (2 ^ (Reg.LANE.CFG_RXMODE 3).lo))] }
      : State), 3, ⟨some 0x274, some 0x200, 2200, false, false, false, 0⟩, by decide +kernel⟩,
  ⟨({ State.reset.set (Reg.SDI.STAT_RUN (sdiPage 3)) 1 |>.set (Reg.QUAD.STAT_RUN 0) 1 |>.set (Reg.LANE.STAT_RXSTATE 3) 4 |>.set (Reg.SDI.RXSTAT_STATE (sdiPage 3)) 2 |>.updRx 3 fun x => { x with bad := 2, spacing := 2200 } with inUse := [((Reg.LANE.CFG_RXMODE 3).addr, BitVec.ofNat 32 (2 ^ (Reg.LANE.CFG_RXMODE 3).lo))] }
      : State), 3, ⟨some 0x274, some 0x200, 2200, false, false, false, 0⟩, by decide +kernel⟩,
  ⟨({ State.reset.set (Reg.SDI.STAT_RUN (sdiPage 3)) 1 |>.set (Reg.QUAD.STAT_RUN 0) 1 |>.set (Reg.LANE.STAT_RXSTATE 3) 4 |>.set (Reg.SDI.RXSTAT_STATE (sdiPage 3)) 2 with inUse := [((Reg.LANE.CFG_RXMODE 3).addr, BitVec.ofNat 32 (2 ^ (Reg.LANE.CFG_RXMODE 3).lo))] }
      : State), 3, ⟨some 0x274, some 0x200, 2200, true, false, false, 0⟩, by decide +kernel⟩,
  ⟨({ State.reset.set (Reg.SDI.STAT_RUN (sdiPage 3)) 1 |>.set (Reg.QUAD.STAT_RUN 0) 1 |>.set (Reg.LANE.STAT_RXSTATE 3) 4 |>.set (Reg.SDI.RXSTAT_STATE (sdiPage 3)) 2 with inUse := [((Reg.LANE.CFG_RXMODE 3).addr, BitVec.ofNat 32 (2 ^ (Reg.LANE.CFG_RXMODE 3).lo))] }
      : State), 3, ⟨none, some 0x200, 2200, false, false, false, 0⟩, by decide +kernel⟩,
  ⟨({ State.reset.set (Reg.SDI.STAT_RUN (sdiPage 3)) 1 |>.set (Reg.QUAD.STAT_RUN 0) 1 |>.set (Reg.LANE.STAT_RXSTATE 3) 4 |>.set (Reg.SDI.RXSTAT_STATE (sdiPage 3)) 2 |>.updRx 3 fun x => { x with bad := 3 } with inUse := [((Reg.LANE.CFG_RXMODE 3).addr, BitVec.ofNat 32 (2 ^ (Reg.LANE.CFG_RXMODE 3).lo))] }
      : State), 3, ⟨none, some 0x200, 2200, false, false, false, 0⟩, by decide +kernel⟩,
  ⟨({ State.reset.set (Reg.SDI.STAT_RUN (sdiPage 3)) 1 |>.set (Reg.QUAD.STAT_RUN 0) 1 |>.set (Reg.LANE.STAT_RXSTATE 3) 4 |>.set (Reg.SDI.RXSTAT_STATE (sdiPage 3)) 2 |>.updRx 3 fun x => { x with measuring := true } with inUse := [((Reg.LANE.CFG_RXMODE 3).addr, BitVec.ofNat 32 (2 ^ (Reg.LANE.CFG_RXMODE 3).lo))] }
      : State), 3, ⟨some 0x274, some 0x200, 2200, false, false, true, 0⟩, by decide +kernel⟩,
  ⟨(({ State.reset with fab := { State.reset.fab with ing := [(4, { State.Ingress.fresh 0x1000000 false with writing := true, count := some 65535 })] } }
      : State).set (Reg.FAB.ISE_CFG_VALID 4) 1), 4, 4, 0x1000000, [], [],
      { State.Ingress.fresh 0x1000000 false with writing := true, count := some 65535 }, ⟨0x1000000, some ⟨State.reset.use
      Reg.CHN.CFG_SYSNUM, 0, 0, digest []⟩, 0, false, [], []⟩, by decide +kernel⟩,
  ⟨(({ State.reset with fab := { State.reset.fab with ing := [(4, { State.Ingress.fresh 0x1000000 false with writing := false })] } }
      : State).set (Reg.FAB.ISE_CFG_VALID 4) 1), 4, by decide +kernel⟩⟩

/-- States and operands that meet the hypotheses of each clause of `Obligations.SdiFramesAndPackets`. -/
theorem witness_sdi_frames_and_packets :
(∃ (s : State) (n : Nat), (s.sdiReceives n = false ∨ s.get (Reg.SDI.RXSTAT_STATE (enginePage n)) ≠ 2)) ∧
(∃ (s : State) (n : Nat), n < 576 ∧ s.sdiReceives n = true ∧ s.get (Reg.SDI.RXSTAT_STATE (enginePage n)) = 2 ∧ (s.sdiRx
      n).measuring = false) ∧
(∃ (s : State) (n : Nat), n < 576 ∧ s.sdiReceives n = true ∧ s.get (Reg.SDI.RXSTAT_STATE (enginePage n)) = 2 ∧ (s.sdiRx
      n).measuring = true ∧ s.rxBound n = [] ∧ s.get (Reg.SDI.RXSTAT_FMTVALID (enginePage n)) = 0) ∧
(∃ (s : State) (n fmt : Nat), n < 576 ∧ s.sdiReceives n = true ∧ s.get (Reg.SDI.RXSTAT_STATE (enginePage n)) = 2 ∧
      (s.sdiRx n).measuring = true ∧ s.rxBound n = [] ∧ s.get (Reg.SDI.RXSTAT_FMTVALID (enginePage n)) = 1 ∧ 1 ≤ (s.sdiRx
      n).pid0.missing ∧ fmtNoColr (s.get (Reg.SDI.RXFMT (enginePage n))) ≠ fmtNoColr fmt) ∧
(∃ (s : State) (n fmt i e : Nat), n < 576 ∧ s.sdiReceives n = true ∧ s.get (Reg.SDI.RXSTAT_STATE (enginePage n)) = 2 ∧
      (s.sdiRx n).measuring = true ∧ s.rxBound n = [i] ∧ s.chanIng i = some e ∧ e < 8192 ∧ (Assoc.find s.fab.ing e).isSome
      = true ∧ s.pidPolicy i = 0 ∧ mapLanes (fmtMap (s.chanFmt i)) = 1 ∧ fmtListed (fmtAs fmt (s.chanFmt i)) = true ∧
      fmtNoColr (fmtAs fmt (s.chanFmt i)) = fmtNoColr (s.chanFmt i)) ∧
(∃ (s : State) (n fmt i e : Nat), n < 576 ∧ s.sdiReceives n = true ∧ s.get (Reg.SDI.RXSTAT_STATE (enginePage n)) = 2 ∧
      (s.sdiRx n).measuring = true ∧ s.rxBound n = [i] ∧ s.chanIng i = some e ∧ e < 8192 ∧ (Assoc.find s.fab.ing e).isSome
      = true ∧ fmtListed (fmtAs fmt (s.chanFmt i)) = true ∧ fmtNoColr (fmtAs fmt (s.chanFmt i)) ≠ fmtNoColr (s.chanFmt i)) ∧
(∃ (s : State) (n : Nat), (s.sdiReceives n = false ∨ s.get (Reg.SDI.RXSTAT_STATE (enginePage n)) ≠ 2)) ∧
(∃ (s : State) (n : Nat) (p : AncPkt), n < 576 ∧ s.sdiReceives n = true ∧ s.get (Reg.SDI.RXSTAT_STATE (enginePage n)) = 2
      ∧ p.csOk = false ∧ (∀ k ∈ List.range 8, s.get (Reg.SDI.ANCF_EN (enginePage n) k) = 0)) ∧
(∃ (s : State) (n : Nat) (p : AncPkt), n < 576 ∧ s.sdiReceives n = true ∧ s.get (Reg.SDI.RXSTAT_STATE (enginePage n)) = 2
      ∧ p.csOk = true ∧ (∀ k ∈ List.range 8, s.get (Reg.SDI.ANCF_EN (enginePage n) k) = 0)) ∧
(∃ (s : State) (n k i : Nat) (p : AncPkt) (b : AncBuf), n < 576 ∧ s.sdiReceives n = true ∧ s.get (Reg.SDI.RXSTAT_STATE
      (enginePage n)) = 2 ∧ p.csOk = true ∧ k < 8 ∧ (∀ j ∈ List.range 8, s.get (Reg.SDI.ANCF_EN (enginePage n) j) = b2n (j
      == k)) ∧ State.ancMatches (s.flag (Reg.SDI.ANCF_SDIDANY (enginePage n) k)) (s.get (Reg.SDI.ANCF_DID (enginePage n)
      k)) (s.get (Reg.SDI.ANCF_SDID (enginePage n) k)) p = true ∧ s.rxBound n = [] ∧ i = s.get (Reg.SDI.ANCF_CHIDX
      (enginePage n) k) ∧ Assoc.find s.sdi.anc i = some b ∧ sumList (b.cur.map State.ancBytes) + State.ancBytes p ≤ 4096) ∧
(∃ (s : State) (n k i : Nat) (p : AncPkt) (b : AncBuf), n < 576 ∧ s.sdiReceives n = true ∧ s.get (Reg.SDI.RXSTAT_STATE
      (enginePage n)) = 2 ∧ p.csOk = true ∧ k < 8 ∧ (∀ j ∈ List.range 8, s.get (Reg.SDI.ANCF_EN (enginePage n) j) = b2n (j
      == k)) ∧ State.ancMatches (s.flag (Reg.SDI.ANCF_SDIDANY (enginePage n) k)) (s.get (Reg.SDI.ANCF_DID (enginePage n)
      k)) (s.get (Reg.SDI.ANCF_SDID (enginePage n) k)) p = true ∧ s.rxBound n = [] ∧ i = s.get (Reg.SDI.ANCF_CHIDX
      (enginePage n) k) ∧ Assoc.find s.sdi.anc i = some b ∧ 4096 < sumList (b.cur.map State.ancBytes) + State.ancBytes p) ∧
(∃ (s : State) (n : Nat) (p : AudioPkt), (s.sdiReceives n = false ∨ s.get (Reg.SDI.RXSTAT_STATE (enginePage n)) ≠ 2 ∨ 8 ≤
      p.group)) ∧
(∃ (s : State) (n : Nat) (p : AudioPkt), n < 576 ∧ s.sdiReceives n = true ∧ s.get (Reg.SDI.RXSTAT_STATE (enginePage n)) =
      2 ∧ p.group < 8 ∧ s.get (Reg.SDI.RXCHAN (enginePage n)) = 0 ∧ s.get (Reg.SDI.RXCHAN1 (enginePage n)) = 0) ∧
(∃ (s : State) (n : Nat) (p : AudioPkt), n < 576 ∧ s.sdiReceives n = true ∧ s.get (Reg.SDI.RXSTAT_STATE (enginePage n)) =
      2 ∧ p.group < 8 ∧ (p.control.getD (48000, false)).1 ≠ s.tsiRate ∧ (s.embeddedVoice n p 0).isSome = true ∧ Assoc.find
      (s.sdiRx n).rates (8 * (p.stream % 2) + p.group) ≠ some (p.control.getD (48000, false)).1) ∧
(∃ (s : State) (n j : Nat) (p : AudioPkt), n < 576 ∧ s.sdiReceives n = true ∧ s.get (Reg.SDI.RXSTAT_STATE (enginePage n))
      = 2 ∧ p.group < 8 ∧ (p.control.getD (48000, false)).1 = s.tsiRate ∧ (∀ v ∈ List.range 4, s.embeddedVoice n p v =
      some (j + v)) ∧ p.ecc ≠ 2 ∧ ((p.control.getD (48000, false)).2 = false ∨ p.drift = 0)) ∧
(∃ (s : State) (n j : Nat) (p : AudioPkt), n < 576 ∧ s.sdiReceives n = true ∧ s.get (Reg.SDI.RXSTAT_STATE (enginePage n))
      = 2 ∧ p.group < 8 ∧ (p.control.getD (48000, false)).1 = s.tsiRate ∧ (∀ v ∈ List.range 4, s.embeddedVoice n p v =
      some (j + v)) ∧ (p.control.getD (48000, false)).2 = true ∧ p.drift = 1) ∧
(∃ (s : State) (n j : Nat) (p : AudioPkt), n < 576 ∧ s.sdiReceives n = true ∧ s.get (Reg.SDI.RXSTAT_STATE (enginePage n))
      = 2 ∧ p.group < 8 ∧ (p.control.getD (48000, false)).1 = s.tsiRate ∧ (∀ v ∈ List.range 4, s.embeddedVoice n p v =
      some (j + v)) ∧ (p.control.getD (48000, false)).2 = false ∧ p.ecc = 2) ∧
(∃ (s : State) (e : Nat), (s.isOutput e && !(s.egr e).stopping) = false) ∧
(∃ (s : State) (e n : Nat), s.get (Reg.FAB.ESE_CFG_KIND e) ≤ 1 ∧ n = s.outLane (State.handleIdx (s.get (Reg.FAB.ESE_HANDLE
      e))) ∧ (s.fabricOn = false ∨ s.txRuns n = false)) ∧
(∃ (s : State) (e n : Nat), (s.get (Reg.FAB.ESE_HANDLE e) = 0 ∨ (2 ≤ s.get (Reg.FAB.ESE_CFG_KIND e) ∧ s.fabricOn = false)
      ∨ (s.get (Reg.FAB.ESE_CFG_KIND e) = 3 ∧ n = s.outLane (State.handleIdx (s.get (Reg.FAB.ESE_HANDLE e))) ∧ s.halfSends
      n = false))) ∧
(∃ (s : State) (e n : Nat) (off : Bool) (x : Egress) (f : Frame), s.get (Reg.FAB.ESE_CFG_KIND e) ≤ 1 ∧ n = s.outLane
      (State.handleIdx (s.get (Reg.FAB.ESE_HANDLE e))) ∧ n < 512 ∧ s.txRuns n = true ∧ e < 8192 ∧ s.get Reg.FAB.STAT_RUN =
      1 ∧ s.get (Reg.FAB.ESE_CFG_VALID e) = 1 ∧ s.get (Reg.FAB.ESE_HANDLE e) ≠ 0 ∧ Assoc.find s.fab.egr e = some x ∧
      x.stopping = false ∧ off = false ∧ ((s.outputLanes e).all (fun k => s.txLocked k) = true) ∧ x.lane = 0 ∧ x.cur =
      some f ∧ f.tstate ≠ 1) ∧
(∃ (s : State) (e n : Nat) (off : Bool) (x : Egress), s.get (Reg.FAB.ESE_CFG_KIND e) ≤ 1 ∧ n = s.outLane (State.handleIdx
      (s.get (Reg.FAB.ESE_HANDLE e))) ∧ n < 512 ∧ s.txRuns n = true ∧ e < 8192 ∧ s.get Reg.FAB.STAT_RUN = 1 ∧ s.get
      (Reg.FAB.ESE_CFG_VALID e) = 1 ∧ s.get (Reg.FAB.ESE_HANDLE e) ≠ 0 ∧ Assoc.find s.fab.egr e = some x ∧ x.stopping =
      false ∧ off = false ∧ ((s.outputLanes e).all (fun k => s.txLocked k) = true) ∧ x.lane = 0 ∧ x.cur = none ∧ x.content
      = false) ∧
(∃ (s : State) (e n : Nat) (off holdBad : Bool) (x : Egress) (f : Frame), s.get (Reg.FAB.ESE_CFG_KIND e) ≤ 1 ∧ n =
      s.outLane (State.handleIdx (s.get (Reg.FAB.ESE_HANDLE e))) ∧ n < 512 ∧ s.txRuns n = true ∧ e < 8192 ∧ s.get
      Reg.FAB.STAT_RUN = 1 ∧ s.get (Reg.FAB.ESE_CFG_VALID e) = 1 ∧ s.get (Reg.FAB.ESE_HANDLE e) ≠ 0 ∧ Assoc.find s.fab.egr
      e = some x ∧ x.stopping = false ∧ off = false ∧ ((s.outputLanes e).all (fun k => s.txLocked k) = true) ∧ x.lane = 1
      ∧ x.held = some f ∧ holdBad = false) ∧
(∃ (s : State) (e n : Nat) (off holdBad : Bool) (x : Egress), s.get (Reg.FAB.ESE_CFG_KIND e) ≤ 1 ∧ n = s.outLane
      (State.handleIdx (s.get (Reg.FAB.ESE_HANDLE e))) ∧ n < 512 ∧ s.txRuns n = true ∧ e < 8192 ∧ s.get Reg.FAB.STAT_RUN =
      1 ∧ s.get (Reg.FAB.ESE_CFG_VALID e) = 1 ∧ s.get (Reg.FAB.ESE_HANDLE e) ≠ 0 ∧ Assoc.find s.fab.egr e = some x ∧
      x.stopping = false ∧ off = false ∧ ((s.outputLanes e).all (fun k => s.txLocked k) = true) ∧ (x.lane = 2 ∨ (x.lane =
      1 ∧ holdBad = true))) ∧
(∃ (s : State) (e n : Nat) (off : Bool) (x : Egress) (f : Frame), s.get (Reg.FAB.ESE_CFG_KIND e) = 3 ∧ n = s.outLane
      (State.handleIdx (s.get (Reg.FAB.ESE_HANDLE e))) ∧ n < 512 ∧ s.halfSends n = true ∧ e < 8192 ∧ s.get
      Reg.FAB.STAT_RUN = 1 ∧ s.get (Reg.FAB.ESE_CFG_VALID e) = 1 ∧ s.get (Reg.FAB.ESE_HANDLE e) ≠ 0 ∧ Assoc.find s.fab.egr
      e = some x ∧ x.stopping = false ∧ off = false ∧ ((s.outputLanes e).all (fun k => s.txLocked k) = true) ∧ x.lane = 0
      ∧ x.cur = some f ∧ f.tstate ≠ 1) ∧
(∃ (s : State) (e n : Nat) (off : Bool) (x : Egress) (f : Frame), s.get (Reg.FAB.ESE_CFG_KIND e) = 2 ∧ n = 0 ∧ e < 8192 ∧
      s.get Reg.FAB.STAT_RUN = 1 ∧ s.get (Reg.FAB.ESE_CFG_VALID e) = 1 ∧ s.get (Reg.FAB.ESE_HANDLE e) ≠ 0 ∧ Assoc.find
      s.fab.egr e = some x ∧ x.stopping = false ∧ off = false ∧ ((s.outputLanes e).all (fun k => s.txLocked k) = true) ∧
      x.lane = 0 ∧ x.cur = some f ∧ f.tstate ≠ 1) ∧
(∃ (s : State) (e : Nat) (off : Bool) (x : Egress), e < 8192 ∧ s.get Reg.FAB.STAT_RUN = 1 ∧ s.get (Reg.FAB.ESE_CFG_VALID
      e) = 1 ∧ s.get (Reg.FAB.ESE_CFG_KIND e) = 2 ∧ s.get (Reg.FAB.ESE_HANDLE e) ≠ 0 ∧ Assoc.find s.fab.egr e = some x ∧
      x.stopping = false ∧ x.failed = none ∧ off = true ∧ s.get Reg.PROV.CTRL_EN = 1) :=
  ⟨⟨({ State.reset.set (Reg.SDI.STAT_RUN (sdiPage 3)) 1 |>.set (Reg.QUAD.STAT_RUN 0) 1 |>.set (Reg.LANE.STAT_RXSTATE 3) 4 |>.set (Reg.SDI.RXSTAT_STATE (sdiPage 3)) 1 with inUse := [((Reg.LANE.CFG_RXMODE 3).addr, BitVec.ofNat 32 (2 ^ (Reg.LANE.CFG_RXMODE 3).lo))] }
      : State), 3, by decide +kernel⟩,
  ⟨({ State.reset.set (Reg.SDI.STAT_RUN (sdiPage 3)) 1 |>.set (Reg.QUAD.STAT_RUN 0) 1 |>.set (Reg.LANE.STAT_RXSTATE 3) 4 |>.set (Reg.SDI.RXSTAT_STATE (sdiPage 3)) 2 with inUse := [((Reg.LANE.CFG_RXMODE 3).addr, BitVec.ofNat 32 (2 ^ (Reg.LANE.CFG_RXMODE 3).lo))] }
      : State), 3, by decide +kernel⟩,
  ⟨({ State.reset.set (Reg.SDI.STAT_RUN (sdiPage 3)) 1 |>.set (Reg.QUAD.STAT_RUN 0) 1 |>.set (Reg.LANE.STAT_RXSTATE 3) 4 |>.set (Reg.SDI.RXSTAT_STATE (sdiPage 3)) 2 |>.updRx 3 fun x => { x with measuring := true } with inUse := [((Reg.LANE.CFG_RXMODE 3).addr, BitVec.ofNat 32 (2 ^ (Reg.LANE.CFG_RXMODE 3).lo))] }
      : State), 3, by decide +kernel⟩,
  ⟨({ State.reset.set (Reg.SDI.STAT_RUN (sdiPage 3)) 1 |>.set (Reg.QUAD.STAT_RUN 0) 1 |>.set (Reg.LANE.STAT_RXSTATE 3) 4 |>.set (Reg.SDI.RXSTAT_STATE (sdiPage 3)) 2 |>.set (Reg.SDI.RXSTAT_FMTVALID (sdiPage 3)) 1 |>.set (Reg.SDI.RXFMT (sdiPage 3)) 0x2000000 |>.updRx 3 fun x => { x with measuring := true, pid0 := { x.pid0 with missing := 1 } } with inUse := [((Reg.LANE.CFG_RXMODE 3).addr, BitVec.ofNat 32 (2 ^ (Reg.LANE.CFG_RXMODE 3).lo))] }
      : State), 3, 0x1000000, by decide +kernel⟩,
  ⟨({ State.reset.set (Reg.SDI.STAT_RUN (sdiPage 3)) 1 |>.set (Reg.QUAD.STAT_RUN 0) 1 |>.set (Reg.LANE.STAT_RXSTATE 3) 4 |>.set (Reg.SDI.RXSTAT_STATE (sdiPage 3)) 2 |>.set (Reg.SDI.RXCHAN (sdiPage 3)) (State.mkHandle 1 5 1) |>.set (Reg.CHN.ENT_RES_INGV 5) 1 |>.set (Reg.CHN.ENT_RES_INGENT 5) 7 |>.set (Reg.FAB.ISE_ALIGN_STATE 7) 1 |>.updRx 3 fun x => { x with measuring := true } with chn := { State.reset.chn with chans := [(5, ⟨1, [3 * 2 ^ 19, 0x1000000, 1], [], 0, 0, true, 0, 0, 0, [4], []⟩)] }, fab := { State.reset.fab with ing := [(7, State.Ingress.fresh 0x1000000 false)] }, inUse := [((Reg.LANE.CFG_RXMODE 3).addr, BitVec.ofNat 32 (2 ^ (Reg.LANE.CFG_RXMODE 3).lo))] }
      : State), 3, 0x1000000, 5, 7, by decide +kernel⟩,
  ⟨({ State.reset.set (Reg.SDI.STAT_RUN (sdiPage 3)) 1 |>.set (Reg.QUAD.STAT_RUN 0) 1 |>.set (Reg.LANE.STAT_RXSTATE 3) 4 |>.set (Reg.SDI.RXSTAT_STATE (sdiPage 3)) 2 |>.set (Reg.SDI.RXCHAN (sdiPage 3)) (State.mkHandle 1 5 1) |>.set (Reg.CHN.ENT_RES_INGV 5) 1 |>.set (Reg.CHN.ENT_RES_INGENT 5) 7 |>.set (Reg.FAB.ISE_ALIGN_STATE 7) 1 |>.updRx 3 fun x => { x with measuring := true } with chn := { State.reset.chn with chans := [(5, ⟨1, [3 * 2 ^ 19, 0x1000000, 1], [], 0, 0, true, 0, 0, 0, [4], []⟩)] }, fab := { State.reset.fab with ing := [(7, State.Ingress.fresh 0x1000000 false)] }, inUse := [((Reg.LANE.CFG_RXMODE 3).addr, BitVec.ofNat 32 (2 ^ (Reg.LANE.CFG_RXMODE 3).lo))] }
      : State), 3, 0x1200000, 5, 7, by decide +kernel⟩,
  ⟨({ State.reset.set (Reg.SDI.STAT_RUN (sdiPage 3)) 1 |>.set (Reg.QUAD.STAT_RUN 0) 1 |>.set (Reg.LANE.STAT_RXSTATE 3) 4 |>.set (Reg.SDI.RXSTAT_STATE (sdiPage 3)) 1 with inUse := [((Reg.LANE.CFG_RXMODE 3).addr, BitVec.ofNat 32 (2 ^ (Reg.LANE.CFG_RXMODE 3).lo))] }
      : State), 3, by decide +kernel⟩,
  ⟨({ State.reset.set (Reg.SDI.STAT_RUN (sdiPage 3)) 1 |>.set (Reg.QUAD.STAT_RUN 0) 1 |>.set (Reg.LANE.STAT_RXSTATE 3) 4 |>.set (Reg.SDI.RXSTAT_STATE (sdiPage 3)) 2 with inUse := [((Reg.LANE.CFG_RXMODE 3).addr, BitVec.ofNat 32 (2 ^ (Reg.LANE.CFG_RXMODE 3).lo))] }
      : State), 3, ⟨9, 0, 0x61, 1, [1, 2], false, false⟩, by decide +kernel⟩,
  ⟨({ State.reset.set (Reg.SDI.STAT_RUN (sdiPage 3)) 1 |>.set (Reg.QUAD.STAT_RUN 0) 1 |>.set (Reg.LANE.STAT_RXSTATE 3) 4 |>.set (Reg.SDI.RXSTAT_STATE (sdiPage 3)) 2 with inUse := [((Reg.LANE.CFG_RXMODE 3).addr, BitVec.ofNat 32 (2 ^ (Reg.LANE.CFG_RXMODE 3).lo))] }
      : State), 3, ⟨9, 0, 0x61, 1, [1, 2], true, false⟩, by decide +kernel⟩,
  ⟨({ State.reset.set (Reg.SDI.STAT_RUN (sdiPage 3)) 1 |>.set (Reg.QUAD.STAT_RUN 0) 1 |>.set (Reg.LANE.STAT_RXSTATE 3) 4 |>.set (Reg.SDI.RXSTAT_STATE (sdiPage 3)) 2 |>.set (Reg.SDI.ANCF_EN (sdiPage 3) 2) 1 |>.set (Reg.SDI.ANCF_DID (sdiPage 3) 2) 0x61 |>.set (Reg.SDI.ANCF_SDID (sdiPage 3) 2) 1 |>.set (Reg.SDI.ANCF_CHIDX (sdiPage 3) 2) 5 |>.updSdi fun x => { x with anc := [(5, ⟨[], [], 0⟩)] } with inUse := [((Reg.LANE.CFG_RXMODE 3).addr, BitVec.ofNat 32 (2 ^ (Reg.LANE.CFG_RXMODE 3).lo))] }
      : State), 3, 2, 5, ⟨9, 0, 0x61, 1, [1, 2], true, false⟩, ⟨[], [], 0⟩, by decide +kernel⟩,
  ⟨({ State.reset.set (Reg.SDI.STAT_RUN (sdiPage 3)) 1 |>.set (Reg.QUAD.STAT_RUN 0) 1 |>.set (Reg.LANE.STAT_RXSTATE 3) 4 |>.set (Reg.SDI.RXSTAT_STATE (sdiPage 3)) 2 |>.set (Reg.SDI.ANCF_EN (sdiPage 3) 2) 1 |>.set (Reg.SDI.ANCF_DID (sdiPage 3) 2) 0x61 |>.set (Reg.SDI.ANCF_SDID (sdiPage 3) 2) 1 |>.set (Reg.SDI.ANCF_CHIDX (sdiPage 3) 2) 5 |>.updSdi fun x => { x with anc := [(5, ⟨[⟨9, 0, 0x61, 1, List.replicate 2041 0, true, false⟩], [], 0⟩)] } with inUse := [((Reg.LANE.CFG_RXMODE 3).addr, BitVec.ofNat 32 (2 ^ (Reg.LANE.CFG_RXMODE 3).lo))] }
      : State), 3, 2, 5, ⟨9, 0, 0x61, 1, [1, 2], true, false⟩, ⟨[⟨9, 0, 0x61, 1, List.replicate 2041 0, true, false⟩], [],
      0⟩, by decide +kernel⟩,
  ⟨({ State.reset.set (Reg.SDI.STAT_RUN (sdiPage 3)) 1 |>.set (Reg.QUAD.STAT_RUN 0) 1 |>.set (Reg.LANE.STAT_RXSTATE 3) 4 |>.set (Reg.SDI.RXSTAT_STATE (sdiPage 3)) 1 with inUse := [((Reg.LANE.CFG_RXMODE 3).addr, BitVec.ofNat 32 (2 ^ (Reg.LANE.CFG_RXMODE 3).lo))] }
      : State), 3, ⟨0, 2, some (48000, true), 0, 0, []⟩, by decide +kernel⟩,
  ⟨({ State.reset.set (Reg.SDI.STAT_RUN (sdiPage 3)) 1 |>.set (Reg.QUAD.STAT_RUN 0) 1 |>.set (Reg.LANE.STAT_RXSTATE 3) 4 |>.set (Reg.SDI.RXSTAT_STATE (sdiPage 3)) 2 with inUse := [((Reg.LANE.CFG_RXMODE 3).addr, BitVec.ofNat 32 (2 ^ (Reg.LANE.CFG_RXMODE 3).lo))] }
      : State), 3, ⟨0, 2, some (48000, true), 0, 0, []⟩, by decide +kernel⟩,
  ⟨({ State.reset.set (Reg.SDI.STAT_RUN (sdiPage 3)) 1 |>.set (Reg.QUAD.STAT_RUN 0) 1 |>.set (Reg.LANE.STAT_RXSTATE 3) 4 |>.set (Reg.SDI.RXSTAT_STATE (sdiPage 3)) 2 |>.set (Reg.SDI.RXCHAN (sdiPage 3)) (State.mkHandle 1 5 1) |>.set Reg.AUD.STAT_RUN 1 with chn := { State.reset.chn with chans := [(5, ⟨1, [3 * 2 ^ 19, 0x1000000, 1], [], 0, 0, true, 0, 0, 0, [4], []⟩)] }, fab := { State.reset.fab with ing := [(7, State.Ingress.fresh 0x1000000 false)] }, inUse := [((Reg.LANE.CFG_RXMODE 3).addr, BitVec.ofNat 32 (2 ^ (Reg.LANE.CFG_RXMODE 3).lo))] }
      : State), 3, ⟨0, 0, some (44100, true), 0, 0, []⟩, by decide +kernel⟩,
  ⟨({ State.reset.set (Reg.SDI.STAT_RUN (sdiPage 3)) 1 |>.set (Reg.QUAD.STAT_RUN 0) 1 |>.set (Reg.LANE.STAT_RXSTATE 3) 4 |>.set (Reg.SDI.RXSTAT_STATE (sdiPage 3)) 2 |>.set (Reg.SDI.RXCHAN (sdiPage 3)) (State.mkHandle 1 5 1) |>.set Reg.AUD.STAT_RUN 1 with chn := { State.reset.chn with chans := [(5, ⟨1, [3 * 2 ^ 19, 0x1000000, 1], [], 0, 0, true, 0, 0, 0, [4], []⟩)] }, fab := { State.reset.fab with ing := [(7, State.Ingress.fresh 0x1000000 false)] }, inUse := [((Reg.LANE.CFG_RXMODE 3).addr, BitVec.ofNat 32 (2 ^ (Reg.LANE.CFG_RXMODE 3).lo))] }
      : State), 3, 16, ⟨0, 0, some (48000, true), 0, 0, [⟨5, 0⟩]⟩, by decide +kernel⟩,
  ⟨({ State.reset.set (Reg.SDI.STAT_RUN (sdiPage 3)) 1 |>.set (Reg.QUAD.STAT_RUN 0) 1 |>.set (Reg.LANE.STAT_RXSTATE 3) 4 |>.set (Reg.SDI.RXSTAT_STATE (sdiPage 3)) 2 |>.set (Reg.SDI.RXCHAN (sdiPage 3)) (State.mkHandle 1 5 1) |>.set Reg.AUD.STAT_RUN 1 with chn := { State.reset.chn with chans := [(5, ⟨1, [3 * 2 ^ 19, 0x1000000, 1], [], 0, 0, true, 0, 0, 0, [4], []⟩)] }, fab := { State.reset.fab with ing := [(7, State.Ingress.fresh 0x1000000 false)] }, inUse := [((Reg.LANE.CFG_RXMODE 3).addr, BitVec.ofNat 32 (2 ^ (Reg.LANE.CFG_RXMODE 3).lo))] }
      : State), 3, 16, ⟨0, 0, some (48000, true), 0, 1, [⟨5, 0⟩]⟩, by decide +kernel⟩,
  ⟨({ State.reset.set (Reg.SDI.STAT_RUN (sdiPage 3)) 1 |>.set (Reg.QUAD.STAT_RUN 0) 1 |>.set (Reg.LANE.STAT_RXSTATE 3) 4 |>.set (Reg.SDI.RXSTAT_STATE (sdiPage 3)) 2 |>.set (Reg.SDI.RXCHAN (sdiPage 3)) (State.mkHandle 1 5 1) |>.set Reg.AUD.STAT_RUN 1 with chn := { State.reset.chn with chans := [(5, ⟨1, [3 * 2 ^ 19, 0x1000000, 1], [], 0, 0, true, 0, 0, 0, [4], []⟩)] }, fab := { State.reset.fab with ing := [(7, State.Ingress.fresh 0x1000000 false)] }, inUse := [((Reg.LANE.CFG_RXMODE 3).addr, BitVec.ofNat 32 (2 ^ (Reg.LANE.CFG_RXMODE 3).lo))] }
      : State), 3, 16, ⟨0, 0, some (48000, false), 2, 1, [⟨5, 0⟩]⟩, by decide +kernel⟩,
  ⟨State.reset, 4, by decide +kernel⟩,
  ⟨(({ State.reset with fab := { State.reset.fab with egr := [(4, State.Egress.fresh 0x1000000 false)] } } : State).set
      (Reg.FAB.ESE_CFG_VALID 4) 1 |>.set (Reg.FAB.ESE_HANDLE 4) (State.mkHandle 2 3 1)), 4, 0, by decide +kernel⟩,
  ⟨(({ State.reset with inUse := [((Reg.LANE.CFG_TXMODE 0).addr, BitVec.ofNat 32 (3 * 2 ^ (Reg.LANE.CFG_TXMODE 0).lo))], fab := { State.reset.fab with egr := [(4, { State.Egress.fresh 0x1000000 false with  })] } }
      : State).set (Reg.FAB.ESE_CFG_VALID 4) 1 |>.set (Reg.FAB.ESE_CFG_KIND 4) 2 |>.set Reg.FAB.STAT_RUN 1 |>.set
      (Reg.FAB.ESE_HANDLE 4) (State.mkHandle 2 3 1) |>.set (Reg.LANE.STAT_RUN 0) 1 |>.set (Reg.SDI.STAT_RUN (sdiPage 0)) 1
      |>.set (Reg.QUAD.PLLA_LOCK 0) 1).set Reg.FAB.STAT_RUN 0, 4, 0, by decide +kernel⟩,
  ⟨(({ State.reset with inUse := [((Reg.LANE.CFG_TXMODE 0).addr, BitVec.ofNat 32 (1 * 2 ^ (Reg.LANE.CFG_TXMODE 0).lo))], fab := { State.reset.fab with egr := [(4, { State.Egress.fresh 0x1000000 false with cur := some ⟨0x1000000, none, 0, false, [], []⟩ })] } }
      : State).set (Reg.FAB.ESE_CFG_VALID 4) 1 |>.set (Reg.FAB.ESE_CFG_KIND 4) 0 |>.set Reg.FAB.STAT_RUN 1 |>.set
      (Reg.FAB.ESE_HANDLE 4) (State.mkHandle 2 3 1) |>.set (Reg.LANE.STAT_RUN 0) 1 |>.set (Reg.SDI.STAT_RUN (sdiPage 0)) 1
      |>.set (Reg.QUAD.PLLA_LOCK 0) 1), 4, 0, false,
      { State.Egress.fresh 0x1000000 false with cur := some ⟨0x1000000, none, 0, false, [], []⟩ }, ⟨0x1000000, none, 0,
      false, [], []⟩, by decide +kernel⟩,
  ⟨(({ State.reset with inUse := [((Reg.LANE.CFG_TXMODE 0).addr, BitVec.ofNat 32 (1 * 2 ^ (Reg.LANE.CFG_TXMODE 0).lo))], fab := { State.reset.fab with egr := [(4, { State.Egress.fresh 0x1000000 false with  })] } }
      : State).set (Reg.FAB.ESE_CFG_VALID 4) 1 |>.set (Reg.FAB.ESE_CFG_KIND 4) 0 |>.set Reg.FAB.STAT_RUN 1 |>.set
      (Reg.FAB.ESE_HANDLE 4) (State.mkHandle 2 3 1) |>.set (Reg.LANE.STAT_RUN 0) 1 |>.set (Reg.SDI.STAT_RUN (sdiPage 0)) 1
      |>.set (Reg.QUAD.PLLA_LOCK 0) 1), 4, 0, false, State.Egress.fresh 0x1000000 false, by decide +kernel⟩,
  ⟨(({ State.reset with inUse := [((Reg.LANE.CFG_TXMODE 0).addr, BitVec.ofNat 32 (1 * 2 ^ (Reg.LANE.CFG_TXMODE 0).lo))], fab := { State.reset.fab with egr := [(4, { State.Egress.fresh 0x1000000 false with lane := 1, held := some ⟨0x1000000, none, 0, false, [], []⟩ })] } }
      : State).set (Reg.FAB.ESE_CFG_VALID 4) 1 |>.set (Reg.FAB.ESE_CFG_KIND 4) 0 |>.set Reg.FAB.STAT_RUN 1 |>.set
      (Reg.FAB.ESE_HANDLE 4) (State.mkHandle 2 3 1) |>.set (Reg.LANE.STAT_RUN 0) 1 |>.set (Reg.SDI.STAT_RUN (sdiPage 0)) 1
      |>.set (Reg.QUAD.PLLA_LOCK 0) 1), 4, 0, false, false,
      { State.Egress.fresh 0x1000000 false with lane := 1, held := some ⟨0x1000000, none, 0, false, [], []⟩ }, ⟨0x1000000,
      none, 0, false, [], []⟩, by decide +kernel⟩,
  ⟨(({ State.reset with inUse := [((Reg.LANE.CFG_TXMODE 0).addr, BitVec.ofNat 32 (1 * 2 ^ (Reg.LANE.CFG_TXMODE 0).lo))], fab := { State.reset.fab with egr := [(4, { State.Egress.fresh 0x1000000 false with lane := 2 })] } }
      : State).set (Reg.FAB.ESE_CFG_VALID 4) 1 |>.set (Reg.FAB.ESE_CFG_KIND 4) 0 |>.set Reg.FAB.STAT_RUN 1 |>.set
      (Reg.FAB.ESE_HANDLE 4) (State.mkHandle 2 3 1) |>.set (Reg.LANE.STAT_RUN 0) 1 |>.set (Reg.SDI.STAT_RUN (sdiPage 0)) 1
      |>.set (Reg.QUAD.PLLA_LOCK 0) 1), 4, 0, false, false, { State.Egress.fresh 0x1000000 false with lane := 2 },
      by decide +kernel⟩,
  ⟨(({ State.reset with inUse := [((Reg.LANE.CFG_TXMODE 0).addr, BitVec.ofNat 32 (3 * 2 ^ (Reg.LANE.CFG_TXMODE 0).lo))], fab := { State.reset.fab with egr := [(4, { State.Egress.fresh 0x1000000 false with cur := some ⟨0x1000000, none, 0, false, [], []⟩ })] } }
      : State).set (Reg.FAB.ESE_CFG_VALID 4) 1 |>.set (Reg.FAB.ESE_CFG_KIND 4) 3 |>.set Reg.FAB.STAT_RUN 1 |>.set
      (Reg.FAB.ESE_HANDLE 4) (State.mkHandle 2 3 1) |>.set (Reg.LANE.STAT_RUN 0) 1 |>.set (Reg.SDI.STAT_RUN (sdiPage 0)) 1
      |>.set (Reg.QUAD.PLLA_LOCK 0) 1), 4, 0, false,
      { State.Egress.fresh 0x1000000 false with cur := some ⟨0x1000000, none, 0, false, [], []⟩ }, ⟨0x1000000, none, 0,
      false, [], []⟩, by decide +kernel⟩,
  ⟨(({ State.reset with inUse := [((Reg.LANE.CFG_TXMODE 0).addr, BitVec.ofNat 32 (3 * 2 ^ (Reg.LANE.CFG_TXMODE 0).lo))], fab := { State.reset.fab with egr := [(4, { State.Egress.fresh 0x1000000 false with cur := some ⟨0x1000000, none, 0, false, [], []⟩ })] } }
      : State).set (Reg.FAB.ESE_CFG_VALID 4) 1 |>.set (Reg.FAB.ESE_CFG_KIND 4) 2 |>.set Reg.FAB.STAT_RUN 1 |>.set
      (Reg.FAB.ESE_HANDLE 4) (State.mkHandle 2 3 1) |>.set (Reg.LANE.STAT_RUN 0) 1 |>.set (Reg.SDI.STAT_RUN (sdiPage 0)) 1
      |>.set (Reg.QUAD.PLLA_LOCK 0) 1), 4, 0, false,
      { State.Egress.fresh 0x1000000 false with cur := some ⟨0x1000000, none, 0, false, [], []⟩ }, ⟨0x1000000, none, 0,
      false, [], []⟩, by decide +kernel⟩,
  ⟨(({ State.reset with inUse := [((Reg.LANE.CFG_TXMODE 0).addr, BitVec.ofNat 32 (3 * 2 ^ (Reg.LANE.CFG_TXMODE 0).lo))], fab := { State.reset.fab with egr := [(4, { State.Egress.fresh 0x1000000 false with cur := some ⟨0x1000000, none, 0, false, [], []⟩ })] } }
      : State).set (Reg.FAB.ESE_CFG_VALID 4) 1 |>.set (Reg.FAB.ESE_CFG_KIND 4) 2 |>.set Reg.FAB.STAT_RUN 1 |>.set
      (Reg.FAB.ESE_HANDLE 4) (State.mkHandle 2 3 1) |>.set (Reg.LANE.STAT_RUN 0) 1 |>.set (Reg.SDI.STAT_RUN (sdiPage 0)) 1
      |>.set (Reg.QUAD.PLLA_LOCK 0) 1).set Reg.PROV.CTRL_EN 1, 4, true,
      { State.Egress.fresh 0x1000000 false with cur := some ⟨0x1000000, none, 0, false, [], []⟩ }, by decide +kernel⟩⟩

/-- States and operands that meet the hypotheses of each clause of `Obligations.MediaFlows`. -/
theorem witness_media_flows :
(∃ (s : State) (n : Nat), Assoc.find s.ipm.rx n = none) ∧
(∃ (s : State) (n : Nat) (x : RxFlow), Assoc.find s.ipm.rx n = some x ∧ ((dType x.desc ≠ 0 ∧ dType x.desc ≠ 4) ∨ x.pkts =
      [] ∨ 3 * (s.timeNs : Int) < s.releaseDue n x (State.flowFrame (dType x.desc) (s.flowFmt x) x.pkts).1.1)) ∧
(∃ (s : State) (n e : Nat) (x : RxFlow) (ps : List FlowPkt) (z : FlowPkt), n < 4096 ∧ Assoc.find s.ipm.rx n = some x ∧
      (dType x.desc = 0 ∨ dType x.desc = 4) ∧ ps = (State.flowFrame (dType x.desc) (s.flowFmt x) x.pkts).1.1 ∧ ps.getLast?
      = some z ∧ s.releaseDue n x ps ≤ 3 * (s.timeNs : Int) ∧ e = s.flowEntry x) ∧
(∃ (s : State) (n e : Nat) (x : RxFlow) (ps : List FlowPkt) (z : FlowPkt) (i : Ingress), dType x.desc = 0 ∧ n < 4096 ∧
      Assoc.find s.ipm.rx n = some x ∧ (dType x.desc = 0 ∨ dType x.desc = 4) ∧ ps = (State.flowFrame (dType x.desc)
      (s.flowFmt x) x.pkts).1.1 ∧ ps.getLast? = some z ∧ s.releaseDue n x ps ≤ 3 * (s.timeNs : Int) ∧ e = s.flowEntry x ∧
      (State.flowFrame 0 (s.flowFmt x) x.pkts).2 = true ∧ ((ps.any fun p => p.bad || p.struck || p.token.isSome) = false)
      ∧ s.prov.inverted = [] ∧ e < 8192 ∧ Assoc.find s.fab.ing e = some i ∧ i.writing = true ∧ i.moveTo = none ∧ s.get
      Reg.PROV.TOKINJ_ARM = 0) ∧
(∃ (s : State) (n e : Nat) (x : RxFlow) (ps : List FlowPkt) (z : FlowPkt), n < 4096 ∧ Assoc.find s.ipm.rx n = some x ∧
      (dType x.desc = 0 ∨ dType x.desc = 4) ∧ ps = (State.flowFrame (dType x.desc) (s.flowFmt x) x.pkts).1.1 ∧ ps.getLast?
      = some z ∧ s.releaseDue n x ps ≤ 3 * (s.timeNs : Int) ∧ e = s.flowEntry x ∧ (((State.flowFrame (dType x.desc)
      (s.flowFmt x) x.pkts).2 && !(ps.any fun p => p.bad)) = false) ∧ e < 8192 ∧ (Assoc.find s.fab.ing e).isSome = true) ∧
(∃ (s : State) (n e : Nat) (x : RxFlow) (ps : List FlowPkt) (z : FlowPkt) (i : Ingress), n < 4096 ∧ Assoc.find s.ipm.rx n
      = some x ∧ (dType x.desc = 0 ∨ dType x.desc = 4) ∧ ps = (State.flowFrame (dType x.desc) (s.flowFmt x) x.pkts).1.1 ∧
      ps.getLast? = some z ∧ s.releaseDue n x ps ≤ 3 * (s.timeNs : Int) ∧ e = s.flowEntry x ∧ (State.flowFrame (dType
      x.desc) (s.flowFmt x) x.pkts).2 = true ∧ ((ps.any fun p => p.bad) = false) ∧ e < 8192 ∧ Assoc.find s.fab.ing e =
      some i ∧ i.writing = false ∧ dType x.desc = 4) ∧
(∃ (s : State) (n g : Nat), (Assoc.find s.ipm.rx n = none ∨ s.get (State.legReg n g) ≤ 1)) ∧
(∃ (s : State) (n g : Nat) (x : RxFlow), n < 4096 ∧ Assoc.find s.ipm.rx n = some x ∧ 2 ≤ s.get (State.legReg n g) ∧
      ((dLegs x.desc).all (fun k => decide (k % 2 = g % 2) || s.get (State.legReg n k) == 1) = true) ∧ g < 2) ∧
(∃ (s : State) (n g : Nat) (x : RxFlow), n < 4096 ∧ Assoc.find s.ipm.rx n = some x ∧ 2 ≤ s.get (State.legReg n g) ∧ g < 2
      ∧ dDual x.desc = true ∧ s.get (State.legReg n (1 - g)) ≠ 1) ∧
(∃ (s : State) (n : Nat), Assoc.find s.ipm.rx n = none) ∧
(∃ (s : State) (n : Nat) (x : RxFlow), Assoc.find s.ipm.rx n = some x ∧ (s.chan x.chan = none ∨ (dType x.desc ≠ 1 ∧ dType
      x.desc ≠ 2) ∨ (x.map.any fun m => m.2.2 == s.sampleTick) = true)) ∧
(∃ (s : State) (n : Nat) (x : RxFlow) (c : Chan), n < 4096 ∧ Assoc.find s.ipm.rx n = some x ∧ s.chan x.chan = some c ∧
      (dType x.desc = 1 ∨ dType x.desc = 2) ∧ x.map = none ∧ x.audio = [] ∧ s.prov.inverted = []) ∧
(∃ (s : State) (n u : Nat) (x : RxFlow) (c : Chan) (k l : Int) (r : List Sample), n < 4096 ∧ Assoc.find s.ipm.rx n = some
      x ∧ s.chan x.chan = some c ∧ (dType x.desc = 1 ∨ dType x.desc = 2) ∧ x.map = some (k, l, u) ∧ u ≠ s.sampleTick ∧
      -1000000 < s.mediaLead n x.desc - l ∧ s.mediaLead n x.desc - l < 1000000 ∧ Assoc.find x.audio ((s.sampleTick : Int)
      + k).toNat = some r ∧ s.prov.inverted = []) ∧
(∃ (s : State) (n u : Nat) (x : RxFlow) (c : Chan) (k l : Int) (r : List Sample), n < 4096 ∧ Assoc.find s.ipm.rx n = some
      x ∧ s.chan x.chan = some c ∧ (dType x.desc = 1 ∨ dType x.desc = 2) ∧ x.map = some (k, l, u) ∧ u ≠ s.sampleTick ∧
      -1000000 < s.mediaLead n x.desc - l ∧ s.mediaLead n x.desc - l < 1000000 ∧ Assoc.find x.audio ((s.sampleTick : Int)
      + k).toNat = some r ∧ s.prov.inverted = []) ∧
(∃ (s : State) (n u flips g : Nat) (x : RxFlow) (c : Chan) (k l : Int) (r : List Sample), n < 4096 ∧ Assoc.find s.ipm.rx n
      = some x ∧ s.chan x.chan = some c ∧ (dType x.desc = 1 ∨ dType x.desc = 2) ∧ x.map = some (k, l, u) ∧ u ≠
      s.sampleTick ∧ -1000000 < s.mediaLead n x.desc - l ∧ s.mediaLead n x.desc - l < 1000000 ∧ Assoc.find x.audio
      ((s.sampleTick : Int) + k).toNat = some r ∧ s.prov.inverted = [] ∧ 2 ≤ flips ∧ c.gin = [g] ∧ 1 ≤ dVoices x.desc ∧
      (s.inVoice (4 * g)).cur.length = s.sampleTick % 64 ∧ s.get Reg.AUD.STAT_RUN = 1) ∧
(∃ (s : State) (n u : Nat) (x : RxFlow) (c : Chan) (k l : Int) (d : Int), n < 4096 ∧ Assoc.find s.ipm.rx n = some x ∧
      s.chan x.chan = some c ∧ (dType x.desc = 1 ∨ dType x.desc = 2) ∧ x.map = some (k, l, u) ∧ u ≠ s.sampleTick ∧ (d = 1
      ∧ 1000000 ≤ s.mediaLead n x.desc - l) ∨ (d = -1 ∧ s.mediaLead n x.desc - l ≤ -1000000)) ∧
(∃ (s : State) (n : Nat), (Assoc.find s.ipm.tx n = none ∨ (Assoc.find s.ipm.tx n).any (fun x => x.cur.isNone) = true)) ∧
(∃ (s : State) (n : Nat) (x : TxFlow) (c : TxFrame), n < 4096 ∧ Assoc.find s.ipm.tx n = some x ∧ dType x.desc = 3 ∧ x.cur
      = some c) ∧
(∃ (s : State) (n : Nat) (x : TxFlow) (c : TxFrame), n < 4096 ∧ Assoc.find s.ipm.tx n = some x ∧ dType x.desc = 4 ∧ x.cur
      = some c) ∧
(∃ (s : State) (n m : Nat) (x : TxFlow) (c : TxFrame), n < 4096 ∧ Assoc.find s.ipm.tx n = some x ∧ dType x.desc = 0 ∧
      x.cur = some c ∧ m = min (State.packetPixels c.frame.fmt) (fmtWidth c.frame.fmt - c.x)) ∧
(∃ (s : State) (n k f : Nat) (x : TxFlow) (c : Chan), n < 4096 ∧ Assoc.find s.ipm.tx n = some x ∧ s.chan x.chan = some c ∧
      (dType x.desc = 1 ∨ dType x.desc = 2) ∧ k = dSpp x.desc ∧ (f = (if x.next + 256 < s.aud.block * 64 then s.aud.block
      * 64 - k else x.next)) ∧ f + k ≤ s.aud.block * 64) ∧
(∃ (s : State) (n : Nat) (x : TxFlow), Assoc.find s.ipm.tx n = some x ∧ (s.chan x.chan = none ∨ (dType x.desc ≠ 1 ∧ dType
      x.desc ≠ 2) ∨ (s.aud.block * 64 ≤ x.next + 256 ∧ s.aud.block * 64 < x.next + dSpp x.desc))) :=
  ⟨⟨(({ State.reset with ipm := { rx := [], tx := [], igmp := [], compat := [] }, chn := { State.reset.chn with chans := [] } }
      : State)), 5, by decide +kernel⟩,
  ⟨(({ State.reset with ipm := { rx := [(5, ({ chan := 3, desc := [0 * 2 ^ 29, 0, 0, 0, 2 * 2 ^ 24, 0, 0xEF000001, 0, 5004, 7, 0, 0, 0, 0, 0, 0], known := false, otherSince := none, up := false, again := false, since := 0, hi := none, missed := [], ended := none, tail := 0, pkts := [⟨9, 90000, true, some 5, none, true, false, false, [⟨0, 0, []⟩], none, false, false, 100, 0⟩], past := [], buckets := [], got := [], joinLate := [], audio := [], last := [], missing := 0, map := none, polTotal := 0, polLast := 0 } : RxFlow))], tx := [], igmp := [], compat := [] }, chn := { State.reset.chn with chans := [] } }
      : State)), 5,
      ({ chan := 3, desc := [0 * 2 ^ 29, 0, 0, 0, 2 * 2 ^ 24, 0, 0xEF000001, 0, 5004, 7, 0, 0, 0, 0, 0, 0], known := false, otherSince := none, up := false, again := false, since := 0, hi := none, missed := [], ended := none, tail := 0, pkts := [⟨9, 90000, true, some 5, none, true, false, false, [⟨0, 0, []⟩], none, false, false, 100, 0⟩], past := [], buckets := [], got := [], joinLate := [], audio := [], last := [], missing := 0, map := none, polTotal := 0, polLast := 0 }
      : RxFlow), by decide +kernel⟩,
  ⟨(({ (({ State.reset with ipm := { rx := [(5, ({ chan := 3, desc := [0 * 2 ^ 29, 0, 0, 0, 2 * 2 ^ 24, 0, 0xEF000001, 0, 5004, 7, 0, 0, 0, 0, 0, 0], known := false, otherSince := none, up := false, again := false, since := 0, hi := none, missed := [], ended := none, tail := 0, pkts := [⟨9, 90000, true, some 5, none, true, false, false, [⟨0, 0, []⟩], none, false, false, 100, 0⟩], past := [], buckets := [], got := [], joinLate := [], audio := [], last := [], missing := 0, map := none, polTotal := 0, polLast := 0 } : RxFlow))], tx := [], igmp := [], compat := [] }, chn := { State.reset.chn with chans := [] } } : State)) with fab := { State.reset.fab with ing := [(0, { State.Ingress.fresh 0x1000000 false with writing := true })] } }
      : State).set Reg.TIME.NOWLO 1100000000), 5, 0,
      ({ chan := 3, desc := [0 * 2 ^ 29, 0, 0, 0, 2 * 2 ^ 24, 0, 0xEF000001, 0, 5004, 7, 0, 0, 0, 0, 0, 0], known := false, otherSince := none, up := false, again := false, since := 0, hi := none, missed := [], ended := none, tail := 0, pkts := [⟨9, 90000, true, some 5, none, true, false, false, [⟨0, 0, []⟩], none, false, false, 100, 0⟩], past := [], buckets := [], got := [], joinLate := [], audio := [], last := [], missing := 0, map := none, polTotal := 0, polLast := 0 }
      : RxFlow), [⟨9, 90000, true, some 5, none, true, false, false, [⟨0, 0, []⟩], none, false, false, 100, 0⟩], ⟨9,
      90000, true, some 5, none, true, false, false, [⟨0, 0, []⟩], none, false, false, 100, 0⟩, by decide +kernel⟩,
  ⟨(({ (({ State.reset with ipm := { rx := [(5, ({ chan := 3, desc := [0 * 2 ^ 29, 0, 0, 0, 2 * 2 ^ 24, 0, 0xEF000001, 0, 5004, 7, 0, 0, 0, 0, 0, 0], known := false, otherSince := none, up := false, again := false, since := 0, hi := none, missed := [], ended := none, tail := 0, pkts := [⟨9, 90000, true, some 5, none, true, false, false, [⟨0, 0, []⟩], none, false, false, 100, 0⟩], past := [], buckets := [], got := [], joinLate := [], audio := [], last := [], missing := 0, map := none, polTotal := 0, polLast := 0 } : RxFlow))], tx := [], igmp := [], compat := [] }, chn := { State.reset.chn with chans := [] } } : State)) with fab := { State.reset.fab with ing := [(0, { State.Ingress.fresh 0x1000000 false with writing := true })] } }
      : State).set Reg.TIME.NOWLO 1100000000), 5, 0,
      ({ chan := 3, desc := [0 * 2 ^ 29, 0, 0, 0, 2 * 2 ^ 24, 0, 0xEF000001, 0, 5004, 7, 0, 0, 0, 0, 0, 0], known := false, otherSince := none, up := false, again := false, since := 0, hi := none, missed := [], ended := none, tail := 0, pkts := [⟨9, 90000, true, some 5, none, true, false, false, [⟨0, 0, []⟩], none, false, false, 100, 0⟩], past := [], buckets := [], got := [], joinLate := [], audio := [], last := [], missing := 0, map := none, polTotal := 0, polLast := 0 }
      : RxFlow), [⟨9, 90000, true, some 5, none, true, false, false, [⟨0, 0, []⟩], none, false, false, 100, 0⟩], ⟨9,
      90000, true, some 5, none, true, false, false, [⟨0, 0, []⟩], none, false, false, 100, 0⟩,
      { State.Ingress.fresh 0x1000000 false with writing := true }, by decide +kernel⟩,
  ⟨(({ (({ State.reset with ipm := { rx := [(5, ({ chan := 3, desc := [0 * 2 ^ 29, 0, 0, 0, 2 * 2 ^ 24, 0, 0xEF000001, 0, 5004, 7, 0, 0, 0, 0, 0, 0], known := false, otherSince := none, up := false, again := false, since := 0, hi := none, missed := [], ended := none, tail := 0, pkts := [⟨9, 90000, true, some 5, none, true, false, false, [⟨0, 0, []⟩], none, true, false, 100, 0⟩], past := [], buckets := [], got := [], joinLate := [], audio := [], last := [], missing := 0, map := none, polTotal := 0, polLast := 0 } : RxFlow))], tx := [], igmp := [], compat := [] }, chn := { State.reset.chn with chans := [] } } : State)) with fab := { State.reset.fab with ing := [(0, { State.Ingress.fresh 0x1000000 false with writing := true })] } }
      : State).set Reg.TIME.NOWLO 1100000000), 5, 0,
      ({ chan := 3, desc := [0 * 2 ^ 29, 0, 0, 0, 2 * 2 ^ 24, 0, 0xEF000001, 0, 5004, 7, 0, 0, 0, 0, 0, 0], known := false, otherSince := none, up := false, again := false, since := 0, hi := none, missed := [], ended := none, tail := 0, pkts := [⟨9, 90000, true, some 5, none, true, false, false, [⟨0, 0, []⟩], none, true, false, 100, 0⟩], past := [], buckets := [], got := [], joinLate := [], audio := [], last := [], missing := 0, map := none, polTotal := 0, polLast := 0 }
      : RxFlow), [⟨9, 90000, true, some 5, none, true, false, false, [⟨0, 0, []⟩], none, true, false, 100, 0⟩], ⟨9, 90000,
      true, some 5, none, true, false, false, [⟨0, 0, []⟩], none, true, false, 100, 0⟩, by decide +kernel⟩,
  ⟨(({ (({ State.reset with ipm := { rx := [(5, ({ chan := 3, desc := [4 * 2 ^ 29, 0, 0, 0, 2 * 2 ^ 24, 0, 0xEF000001, 0, 5004, 7, 0, 0, 0, 0, 0, 0], known := false, otherSince := none, up := false, again := false, since := 0, hi := none, missed := [], ended := none, tail := 0, pkts := [⟨9, 90000, true, some 5, none, true, false, false, [⟨0, 0, []⟩], none, false, false, 100, 0⟩], past := [], buckets := [], got := [], joinLate := [], audio := [], last := [], missing := 0, map := none, polTotal := 0, polLast := 0 } : RxFlow))], tx := [], igmp := [], compat := [] }, chn := { State.reset.chn with chans := [] } } : State)) with fab := { State.reset.fab with ing := [(0, { State.Ingress.fresh 0x1000000 false with writing := false })] } }
      : State).set Reg.TIME.NOWLO 1100000000), 5, 0,
      ({ chan := 3, desc := [4 * 2 ^ 29, 0, 0, 0, 2 * 2 ^ 24, 0, 0xEF000001, 0, 5004, 7, 0, 0, 0, 0, 0, 0], known := false, otherSince := none, up := false, again := false, since := 0, hi := none, missed := [], ended := none, tail := 0, pkts := [⟨9, 90000, true, some 5, none, true, false, false, [⟨0, 0, []⟩], none, false, false, 100, 0⟩], past := [], buckets := [], got := [], joinLate := [], audio := [], last := [], missing := 0, map := none, polTotal := 0, polLast := 0 }
      : RxFlow), [⟨9, 90000, true, some 5, none, true, false, false, [⟨0, 0, []⟩], none, false, false, 100, 0⟩], ⟨9,
      90000, true, some 5, none, true, false, false, [⟨0, 0, []⟩], none, false, false, 100, 0⟩,
      { State.Ingress.fresh 0x1000000 false with writing := false }, by decide +kernel⟩,
  ⟨(({ State.reset with ipm := { rx := [(5, ({ chan := 3, desc := List.replicate 16 0, known := false, otherSince := none, up := false, again := false, since := 0, hi := none, missed := [], ended := none, tail := 0, pkts := [], past := [], buckets := [], got := [], joinLate := [], audio := [], last := [], missing := 0, map := none, polTotal := 0, polLast := 0 } : RxFlow))], tx := [], igmp := [], compat := [] }, chn := { State.reset.chn with chans := [] } }
      : State)), 5, 1, by decide +kernel⟩,
  ⟨(({ State.reset with ipm := { rx := [(5, ({ chan := 3, desc := List.replicate 16 0, known := false, otherSince := none, up := false, again := false, since := 0, hi := none, missed := [], ended := none, tail := 0, pkts := [], past := [], buckets := [], got := [], joinLate := [], audio := [], last := [], missing := 0, map := none, polTotal := 0, polLast := 0 } : RxFlow))], tx := [], igmp := [], compat := [] }, chn := { State.reset.chn with chans := [] } }
      : State).set (Reg.IPM.RXF_LEGA 5) 2), 5, 0,
      ({ chan := 3, desc := List.replicate 16 0, known := false, otherSince := none, up := false, again := false, since := 0, hi := none, missed := [], ended := none, tail := 0, pkts := [], past := [], buckets := [], got := [], joinLate := [], audio := [], last := [], missing := 0, map := none, polTotal := 0, polLast := 0 }
      : RxFlow), by decide +kernel⟩,
  ⟨(({ State.reset with ipm := { rx := [(5, ({ chan := 3, desc := [2 ^ 26], known := false, otherSince := none, up := false, again := false, since := 0, hi := none, missed := [], ended := none, tail := 0, pkts := [], past := [], buckets := [], got := [], joinLate := [], audio := [], last := [], missing := 0, map := none, polTotal := 0, polLast := 0 } : RxFlow))], tx := [], igmp := [], compat := [] }, chn := { State.reset.chn with chans := [] } }
      : State).set (Reg.IPM.RXF_LEGA 5) 2 |>.set (Reg.IPM.RXF_LEGB 5) 2), 5, 0,
      ({ chan := 3, desc := [2 ^ 26], known := false, otherSince := none, up := false, again := false, since := 0, hi := none, missed := [], ended := none, tail := 0, pkts := [], past := [], buckets := [], got := [], joinLate := [], audio := [], last := [], missing := 0, map := none, polTotal := 0, polLast := 0 }
      : RxFlow), by decide +kernel⟩,
  ⟨(({ State.reset with ipm := { rx := [], tx := [], igmp := [], compat := [] }, chn := { State.reset.chn with chans := [] } }
      : State)), 5, by decide +kernel⟩,
  ⟨(({ State.reset with ipm := { rx := [(5, ({ chan := 3, desc := [1 * 2 ^ 29, 0, 0, 0, 2 * 2 ^ 24, 0, 0xEF000001, 0, 5004, 7, 0, 0, 0, 0, 0, 0], known := false, otherSince := none, up := false, again := false, since := 0, hi := none, missed := [], ended := none, tail := 0, pkts := [], past := [], buckets := [], got := [], joinLate := [], audio := [], last := [], missing := 0, map := some (7, 0, 0), polTotal := 0, polLast := 0 } : RxFlow))], tx := [], igmp := [], compat := [] }, chn := { State.reset.chn with chans := [(3, ⟨3, [], [], 0, 5, true, 0, 0, 0, [], []⟩)] } }
      : State)), 5,
      ({ chan := 3, desc := [1 * 2 ^ 29, 0, 0, 0, 2 * 2 ^ 24, 0, 0xEF000001, 0, 5004, 7, 0, 0, 0, 0, 0, 0], known := false, otherSince := none, up := false, again := false, since := 0, hi := none, missed := [], ended := none, tail := 0, pkts := [], past := [], buckets := [], got := [], joinLate := [], audio := [], last := [], missing := 0, map := some (7, 0, 0), polTotal := 0, polLast := 0 }
      : RxFlow), by decide +kernel⟩,
  ⟨(({ State.reset with ipm := { rx := [(5, ({ chan := 3, desc := [1 * 2 ^ 29, 0, 0, 0, 2 * 2 ^ 24, 0, 0xEF000001, 0, 5004, 7, 0, 0, 0, 0, 0, 0], known := false, otherSince := none, up := true, again := false, since := 0, hi := none, missed := [], ended := none, tail := 0, pkts := [], past := [], buckets := [], got := [], joinLate := [], audio := [], last := [], missing := 0, map := none, polTotal := 0, polLast := 0 } : RxFlow))], tx := [], igmp := [], compat := [] }, chn := { State.reset.chn with chans := [(3, ⟨3, [], [], 0, 5, true, 0, 0, 0, [], []⟩)] } }
      : State)), 5,
      ({ chan := 3, desc := [1 * 2 ^ 29, 0, 0, 0, 2 * 2 ^ 24, 0, 0xEF000001, 0, 5004, 7, 0, 0, 0, 0, 0, 0], known := false, otherSince := none, up := true, again := false, since := 0, hi := none, missed := [], ended := none, tail := 0, pkts := [], past := [], buckets := [], got := [], joinLate := [], audio := [], last := [], missing := 0, map := none, polTotal := 0, polLast := 0 }
      : RxFlow), ⟨3, [], [], 0, 5, true, 0, 0, 0, [], []⟩, by decide +kernel⟩,
  ⟨(({ State.reset with ipm := { rx := [(5, ({ chan := 3, desc := [1 * 2 ^ 29, 0, 0, 0, 2 * 2 ^ 24, 0, 0xEF000001, 0, 5004, 7, 0, 0, 0, 0, 0, 0], known := false, otherSince := none, up := true, again := false, since := 0, hi := none, missed := [], ended := none, tail := 0, pkts := [], past := [], buckets := [], got := [], joinLate := [], audio := [(7, [⟨5, 0⟩])], last := [], missing := 0, map := some (7, 0, 9), polTotal := 0, polLast := 0 } : RxFlow))], tx := [], igmp := [], compat := [] }, chn := { State.reset.chn with chans := [(3, ⟨3, [], [], 0, 5, true, 0, 0, 0, [], []⟩)] } }
      : State)), 5, 9,
      ({ chan := 3, desc := [1 * 2 ^ 29, 0, 0, 0, 2 * 2 ^ 24, 0, 0xEF000001, 0, 5004, 7, 0, 0, 0, 0, 0, 0], known := false, otherSince := none, up := true, again := false, since := 0, hi := none, missed := [], ended := none, tail := 0, pkts := [], past := [], buckets := [], got := [], joinLate := [], audio := [(7, [⟨5, 0⟩])], last := [], missing := 0, map := some (7, 0, 9), polTotal := 0, polLast := 0 }
      : RxFlow), ⟨3, [], [], 0, 5, true, 0, 0, 0, [], []⟩, 7, 0, [⟨5, 0⟩], by decide +kernel⟩,
  ⟨(({ State.reset with ipm := { rx := [(5, ({ chan := 3, desc := [1 * 2 ^ 29, 0, 0, 0, 2 * 2 ^ 24, 0, 0xEF000001, 0, 5004, 7, 0, 0, 0, 0, 0, 0], known := false, otherSince := none, up := true, again := false, since := 0, hi := none, missed := [], ended := none, tail := 0, pkts := [], past := [], buckets := [], got := [], joinLate := [], audio := [(7, [⟨5, 0⟩])], last := [], missing := 0, map := some (7, 0, 9), polTotal := 0, polLast := 0 } : RxFlow))], tx := [], igmp := [], compat := [] }, chn := { State.reset.chn with chans := [(3, ⟨3, [], [], 0, 5, true, 0, 0, 0, [], []⟩)] } }
      : State)), 5, 9,
      ({ chan := 3, desc := [1 * 2 ^ 29, 0, 0, 0, 2 * 2 ^ 24, 0, 0xEF000001, 0, 5004, 7, 0, 0, 0, 0, 0, 0], known := false, otherSince := none, up := true, again := false, since := 0, hi := none, missed := [], ended := none, tail := 0, pkts := [], past := [], buckets := [], got := [], joinLate := [], audio := [(7, [⟨5, 0⟩])], last := [], missing := 0, map := some (7, 0, 9), polTotal := 0, polLast := 0 }
      : RxFlow), ⟨3, [], [], 0, 5, true, 0, 0, 0, [], []⟩, 7, 0, [⟨5, 0⟩], by decide +kernel⟩,
  ⟨(({ State.reset with ipm := { rx := [(5, ({ chan := 3, desc := [1 * 2 ^ 29, 0, 0, 0, 2 * 2 ^ 24, 0, 0xEF000001, 0, 5004, 7, 0, 0, 0, 0, 0, 0], known := false, otherSince := none, up := true, again := false, since := 0, hi := none, missed := [], ended := none, tail := 0, pkts := [], past := [], buckets := [], got := [], joinLate := [], audio := [(7, [⟨5, 0⟩])], last := [], missing := 0, map := some (7, 0, 9), polTotal := 0, polLast := 0 } : RxFlow))], tx := [], igmp := [], compat := [] }, chn := { State.reset.chn with chans := [(3, ⟨3, [], [], 0, 5, true, 0, 0, 0, [200], []⟩)] } }
      : State)).set Reg.AUD.STAT_RUN 1, 5, 9, 2, 200,
      ({ chan := 3, desc := [1 * 2 ^ 29, 0, 0, 0, 2 * 2 ^ 24, 0, 0xEF000001, 0, 5004, 7, 0, 0, 0, 0, 0, 0], known := false, otherSince := none, up := true, again := false, since := 0, hi := none, missed := [], ended := none, tail := 0, pkts := [], past := [], buckets := [], got := [], joinLate := [], audio := [(7, [⟨5, 0⟩])], last := [], missing := 0, map := some (7, 0, 9), polTotal := 0, polLast := 0 }
      : RxFlow), ⟨3, [], [], 0, 5, true, 0, 0, 0, [200], []⟩, 7, 0, [⟨5, 0⟩], by decide +kernel⟩,
  ⟨(({ State.reset with ipm := { rx := [(5, ({ chan := 3, desc := [1 * 2 ^ 29, 0, 0, 0, 2 * 2 ^ 24, 0, 0xEF000001, 0, 5004, 7, 0, 0, 0, 0, 0, 0], known := false, otherSince := none, up := false, again := false, since := 0, hi := none, missed := [], ended := none, tail := 0, pkts := [], past := [], buckets := [], got := [], joinLate := [], audio := [], last := [], missing := 0, map := some (7, 9000000, 9), polTotal := 0, polLast := 0 } : RxFlow))], tx := [], igmp := [], compat := [] }, chn := { State.reset.chn with chans := [(3, ⟨3, [], [], 0, 5, true, 0, 0, 0, [], []⟩)] } }
      : State)), 5, 9,
      ({ chan := 3, desc := [1 * 2 ^ 29, 0, 0, 0, 2 * 2 ^ 24, 0, 0xEF000001, 0, 5004, 7, 0, 0, 0, 0, 0, 0], known := false, otherSince := none, up := false, again := false, since := 0, hi := none, missed := [], ended := none, tail := 0, pkts := [], past := [], buckets := [], got := [], joinLate := [], audio := [], last := [], missing := 0, map := some (7, 9000000, 9), polTotal := 0, polLast := 0 }
      : RxFlow), ⟨3, [], [], 0, 5, true, 0, 0, 0, [], []⟩, 7, 9000000, -1, by decide +kernel⟩,
  ⟨(({ State.reset with ipm := { rx := [], tx := [(5, ({ chan := 3, desc := [3 * 2 ^ 29, 0, 0, 0, 2 * 2 ^ 24, 0, 0xEF000001, 0, 5004, 7, 0, 0, 0, 0, 0, 0], seq := 65535, cur := none, ancFrom := [], next := 0 } : TxFlow))], igmp := [], compat := [] }, chn := { State.reset.chn with chans := [] } }
      : State)), 5, by decide +kernel⟩,
  ⟨(({ State.reset with ipm := { rx := [], tx := [(5, ({ chan := 3, desc := [3 * 2 ^ 29, 0, 0, 0, 2 * 2 ^ 24, 0, 0xEF000001, 0, 5004, 7, 0, 0, 0, 0, 0, 0], seq := 65535, cur := some ⟨⟨0x1000000, none, 0, false, [], []⟩, 7, 0, 0, true, []⟩, ancFrom := [], next := 0 } : TxFlow))], igmp := [], compat := [] }, chn := { State.reset.chn with chans := [] } }
      : State)), 5,
      ({ chan := 3, desc := [3 * 2 ^ 29, 0, 0, 0, 2 * 2 ^ 24, 0, 0xEF000001, 0, 5004, 7, 0, 0, 0, 0, 0, 0], seq := 65535, cur := some ⟨⟨0x1000000, none, 0, false, [], []⟩, 7, 0, 0, true, []⟩, ancFrom := [], next := 0 }
      : TxFlow), ⟨⟨0x1000000, none, 0, false, [], []⟩, 7, 0, 0, true, []⟩, by decide +kernel⟩,
  ⟨(({ State.reset with ipm := { rx := [], tx := [(5, ({ chan := 3, desc := [4 * 2 ^ 29, 0, 0, 0, 2 * 2 ^ 24, 0, 0xEF000001, 0, 5004, 7, 0, 0, 0, 0, 0, 0], seq := 65535, cur := some ⟨⟨0x1000000, none, 0, false, [], []⟩, 7, 0, 7, true, []⟩, ancFrom := [], next := 0 } : TxFlow))], igmp := [], compat := [] }, chn := { State.reset.chn with chans := [] } }
      : State)), 5,
      ({ chan := 3, desc := [4 * 2 ^ 29, 0, 0, 0, 2 * 2 ^ 24, 0, 0xEF000001, 0, 5004, 7, 0, 0, 0, 0, 0, 0], seq := 65535, cur := some ⟨⟨0x1000000, none, 0, false, [], []⟩, 7, 0, 7, true, []⟩, ancFrom := [], next := 0 }
      : TxFlow), ⟨⟨0x1000000, none, 0, false, [], []⟩, 7, 0, 7, true, []⟩, by decide +kernel⟩,
  ⟨(({ State.reset with ipm := { rx := [], tx := [(5, ({ chan := 3, desc := [0 * 2 ^ 29, 0, 0, 0, 2 * 2 ^ 24, 0, 0xEF000001, 0, 5004, 7, 0, 0, 0, 0, 0, 0], seq := 65535, cur := some ⟨⟨0x1000000, none, 0, false, [], []⟩, 7, 0, 0, true, []⟩, ancFrom := [], next := 0 } : TxFlow))], igmp := [], compat := [] }, chn := { State.reset.chn with chans := [] } }
      : State)), 5, 504,
      ({ chan := 3, desc := [0 * 2 ^ 29, 0, 0, 0, 2 * 2 ^ 24, 0, 0xEF000001, 0, 5004, 7, 0, 0, 0, 0, 0, 0], seq := 65535, cur := some ⟨⟨0x1000000, none, 0, false, [], []⟩, 7, 0, 0, true, []⟩, ancFrom := [], next := 0 }
      : TxFlow), ⟨⟨0x1000000, none, 0, false, [], []⟩, 7, 0, 0, true, []⟩, by decide +kernel⟩,
  ⟨({ (({ State.reset with ipm := { rx := [], tx := [(5, ({ chan := 3, desc := [1 * 2 ^ 29, 0, 0, 0, 2 * 2 ^ 24, 0, 0xEF000001, 0, 5004, 7, 0, 0, 0, 0, 0, 0], seq := 65535, cur := none, ancFrom := [], next := 0 } : TxFlow))], igmp := [], compat := [] }, chn := { State.reset.chn with chans := [(3, ⟨3, [], [], 0, 5, true, 0, 0, 0, [], []⟩)] } } : State)) with aud := { State.reset.aud with block := 1 } }
      : State), 5, 48, 0,
      ({ chan := 3, desc := [1 * 2 ^ 29, 0, 0, 0, 2 * 2 ^ 24, 0, 0xEF000001, 0, 5004, 7, 0, 0, 0, 0, 0, 0], seq := 65535, cur := none, ancFrom := [], next := 0 }
      : TxFlow), ⟨3, [], [], 0, 5, true, 0, 0, 0, [], []⟩, by decide +kernel⟩,
  ⟨(({ State.reset with ipm := { rx := [], tx := [(5, ({ chan := 3, desc := [1 * 2 ^ 29, 0, 0, 0, 2 * 2 ^ 24, 0, 0xEF000001, 0, 5004, 7, 0, 0, 0, 0, 0, 0], seq := 65535, cur := none, ancFrom := [], next := 0 } : TxFlow))], igmp := [], compat := [] }, chn := { State.reset.chn with chans := [(3, ⟨3, [], [], 0, 5, true, 0, 0, 0, [], []⟩)] } }
      : State)), 5,
      ({ chan := 3, desc := [1 * 2 ^ 29, 0, 0, 0, 2 * 2 ^ 24, 0, 0xEF000001, 0, 5004, 7, 0, 0, 0, 0, 0, 0], seq := 65535, cur := none, ancFrom := [], next := 0 }
      : TxFlow), by decide +kernel⟩⟩

/-- States and operands that meet the hypotheses of each clause of `Obligations.MediaGroups`. -/
theorem witness_media_groups :
(∃ (s : State) (p g : Nat), ((Assoc.find s.ipm.igmp (State.igmpKey p g)).all (fun q => !q.again) = true)) ∧
(∃ (s : State) (p g v : Nat) (q : IgmpGroup), Assoc.find s.ipm.igmp (State.igmpKey p g) = some q ∧ q.again = true ∧
      q.leaving = false ∧ s.get Reg.FAB.STAT_RUN = 1 ∧ (v = (if s.igmpV2 p = true then 0 else q.src))) ∧
(∃ (s : State) (p g : Nat) (q : IgmpGroup), Assoc.find s.ipm.igmp (State.igmpKey p g) = some q ∧ q.again = true ∧
      q.leaving = true ∧ s.get Reg.FAB.STAT_RUN = 1) ∧
(∃ (s : State) (p g : Nat) (q : IgmpGroup), Assoc.find s.ipm.igmp (State.igmpKey p g) = some q ∧ s.get Reg.FAB.STAT_RUN =
      0) ∧
(∃ (s : State) (p g : Nat) (l : List (Nat × IgmpGroup)), s.get Reg.FAB.STAT_RUN = 1 ∧ (l = s.ipm.igmp.filter (fun q => q.1
      / 2 ^ 32 == p && !q.2.leaving && (g == 0 || q.1 % 2 ^ 32 == g)))) ∧
(∃ (s : State), s.get Reg.FAB.STAT_RUN = 0) ∧
(∃ (p k : Nat), k ≠ p) ∧
(∃ (s : State) (n g : Nat), ((Assoc.find s.ipm.rx n).all (fun x => x.got.contains g || !(dLegs x.desc).contains g ||
      !isGroup (legDst x.desc g)) = true)) ∧
(∃ (s : State) (n g : Nat) (x : RxFlow), n < 4096 ∧ Assoc.find s.ipm.rx n = some x ∧ x.got.contains g = false ∧ (dLegs
      x.desc).contains g = true ∧ isGroup (legDst x.desc g) = true ∧ x.joinLate.contains g = false) ∧
(∃ (s : State) (n g : Nat) (x : RxFlow), Assoc.find s.ipm.rx n = some x ∧ x.got.contains g = false ∧ (dLegs
      x.desc).contains g = true ∧ isGroup (legDst x.desc g) = true ∧ x.joinLate.contains g = true ∧ s.get Reg.FAB.STAT_RUN
      = 1 ∧ s.igmpV2 (legPort x.desc g) = false) ∧
(∃ (s : State), ((s.ipm.rx.map fun p => p.1).Nodup)) :=
  ⟨⟨(({ State.reset with ipm := { rx := [], tx := [], igmp := [], compat := [] }, chn := { State.reset.chn with chans := [] } }
      : State)), 2, 0xEF000001, by decide +kernel⟩,
  ⟨(({ State.reset with ipm := { rx := [], tx := [], igmp := [((State.igmpKey 2 0xEF000001), ⟨9, true, false⟩)], compat := [] }, chn := { State.reset.chn with chans := [] } }
      : State).set Reg.FAB.STAT_RUN 1), 2, 0xEF000001, 9, ⟨9, true, false⟩, by decide +kernel⟩,
  ⟨(({ State.reset with ipm := { rx := [], tx := [], igmp := [((State.igmpKey 2 0xEF000001), ⟨9, true, true⟩)], compat := [(2, 100)] }, chn := { State.reset.chn with chans := [] } }
      : State).set Reg.FAB.STAT_RUN 1), 2, 0xEF000001, ⟨9, true, true⟩, by decide +kernel⟩,
  ⟨(({ State.reset with ipm := { rx := [], tx := [], igmp := [((State.igmpKey 2 0xEF000001), ⟨9, true, true⟩)], compat := [] }, chn := { State.reset.chn with chans := [] } }
      : State)), 2, 0xEF000001, ⟨9, true, true⟩, by decide +kernel⟩,
  ⟨(({ State.reset with ipm := { rx := [], tx := [], igmp := [((State.igmpKey 2 0xEF000001), ⟨9, true, false⟩)], compat := [] }, chn := { State.reset.chn with chans := [] } }
      : State).set Reg.FAB.STAT_RUN 1), 2, 0xEF000001, [((State.igmpKey 2 0xEF000001), ⟨9, true, false⟩)],
      by decide +kernel⟩,
  ⟨(({ State.reset with ipm := { rx := [], tx := [], igmp := [((State.igmpKey 2 0xEF000001), ⟨9, true, false⟩)], compat := [] }, chn := { State.reset.chn with chans := [] } }
      : State)), by decide +kernel⟩,
  ⟨2, 3, by decide +kernel⟩,
  ⟨(({ State.reset with ipm := { rx := [(5, ({ chan := 3, desc := [1 * 2 ^ 29, 0, 0, 0, 2 * 2 ^ 24, 0, 0xEF000001, 0, 5004, 7, 0, 0, 0, 0, 0, 0], known := false, otherSince := none, up := true, again := false, since := 0, hi := none, missed := [], ended := none, tail := 0, pkts := [], past := [], buckets := [], got := [], joinLate := [], audio := [], last := [], missing := 0, map := none, polTotal := 0, polLast := 0 } : RxFlow))], tx := [], igmp := [], compat := [] }, chn := { State.reset.chn with chans := [] } }
      : State)), 5, 1, by decide +kernel⟩,
  ⟨(({ State.reset with ipm := { rx := [(5, ({ chan := 3, desc := [1 * 2 ^ 29, 0, 0, 0, 2 * 2 ^ 24, 0, 0xEF000001, 0, 5004, 7, 0, 0, 0, 0, 0, 0], known := false, otherSince := none, up := true, again := false, since := 0, hi := none, missed := [], ended := none, tail := 0, pkts := [], past := [], buckets := [], got := [], joinLate := [], audio := [], last := [], missing := 0, map := none, polTotal := 0, polLast := 0 } : RxFlow))], tx := [], igmp := [], compat := [] }, chn := { State.reset.chn with chans := [] } }
      : State)), 5, 0,
      ({ chan := 3, desc := [1 * 2 ^ 29, 0, 0, 0, 2 * 2 ^ 24, 0, 0xEF000001, 0, 5004, 7, 0, 0, 0, 0, 0, 0], known := false, otherSince := none, up := true, again := false, since := 0, hi := none, missed := [], ended := none, tail := 0, pkts := [], past := [], buckets := [], got := [], joinLate := [], audio := [], last := [], missing := 0, map := none, polTotal := 0, polLast := 0 }
      : RxFlow), by decide +kernel⟩,
  ⟨(({ State.reset with ipm := { rx := [(5, ({ chan := 3, desc := [1 * 2 ^ 29, 0, 0, 0, 2 * 2 ^ 24, 0, 0xEF000001, 0, 5004, 7, 0, 0, 0, 0, 0, 0], known := false, otherSince := none, up := false, again := false, since := 0, hi := none, missed := [], ended := none, tail := 0, pkts := [], past := [], buckets := [], got := [], joinLate := [0], audio := [], last := [], missing := 0, map := none, polTotal := 0, polLast := 0 } : RxFlow))], tx := [], igmp := [], compat := [] }, chn := { State.reset.chn with chans := [] } }
      : State).set Reg.FAB.STAT_RUN 1), 5, 0,
      ({ chan := 3, desc := [1 * 2 ^ 29, 0, 0, 0, 2 * 2 ^ 24, 0, 0xEF000001, 0, 5004, 7, 0, 0, 0, 0, 0, 0], known := false, otherSince := none, up := false, again := false, since := 0, hi := none, missed := [], ended := none, tail := 0, pkts := [], past := [], buckets := [], got := [], joinLate := [0], audio := [], last := [], missing := 0, map := none, polTotal := 0, polLast := 0 }
      : RxFlow), by decide +kernel⟩,
  ⟨(({ State.reset with ipm := { rx := [(5, ({ chan := 3, desc := [1 * 2 ^ 29, 0, 0, 0, 2 * 2 ^ 24, 0, 0xEF000001, 0, 5004, 7, 0, 0, 0, 0, 0, 0], known := false, otherSince := none, up := false, again := false, since := 0, hi := none, missed := [], ended := none, tail := 0, pkts := [], past := [], buckets := [], got := [], joinLate := [], audio := [], last := [], missing := 0, map := none, polTotal := 0, polLast := 9 } : RxFlow)), (7, ({ chan := 3, desc := [1 * 2 ^ 29, 0, 0, 0, 2 * 2 ^ 24, 0, 0xEF000001, 0, 5004, 7, 0, 0, 0, 0, 0, 0], known := false, otherSince := none, up := false, again := false, since := 0, hi := none, missed := [], ended := none, tail := 0, pkts := [], past := [], buckets := [], got := [], joinLate := [], audio := [], last := [], missing := 0, map := none, polTotal := 0, polLast := 1 } : RxFlow))], tx := [], igmp := [], compat := [] }, chn := { State.reset.chn with chans := [] } }
      : State).set (Reg.IPM.RXF_POLDROP 5) 4), by decide +kernel⟩⟩

/-- States and operands that meet the hypotheses of each clause of `Obligations.EthernetReceiveAndCounts`. -/
theorem witness_ethernet_receive_and_counts :
(∃ (s : State) (p : Nat), (66 ≤ p ∨ s.get (Reg.ETH.STAT_RUN p) = 0 ∨ (s.ethPort p).locked = false)) ∧
(∃ (s : State) (p : Nat), p < 66 ∧ s.get (Reg.ETH.STAT_RUN p) = 1 ∧ (s.ethPort p).locked = true ∧ (s.ethPort p).ctr.length
      = 13) ∧
(∃ (s : State) (p b : Nat) (l : List Byte), p < 66 ∧ s.get (Reg.ETH.STAT_RUN p) = 1 ∧ (s.ethPort p).locked = true ∧
      (s.ethPort p).ctr.length = 13 ∧ (b ≠ 0 ∨ fcsRight l = false)) ∧
(∃ (s : State) (p b : Nat) (l : List Byte), p < 66 ∧ s.get (Reg.ETH.STAT_RUN p) = 1 ∧ (s.ethPort p).locked = true ∧
      (s.ethPort p).ctr.length = 13 ∧ b = 0 ∧ fcsRight l = true ∧ (l.length < 64 ∨ s.maxFrm p < l.length)) ∧
(∃ (s : State) (p b : Nat) (l : List Byte), p < 66 ∧ s.get (Reg.ETH.STAT_RUN p) = 1 ∧ (s.ethPort p).locked = true ∧
      (s.ethPort p).ctr.length = 13 ∧ b = 0 ∧ fcsRight l = true ∧ 64 ≤ l.length ∧ l.length ≤ s.maxFrm p ∧ (etherType l ≠
      0x8808 ∨ (field l (etherAt l + 2) 2 ≠ 1 ∧ field l (etherAt l + 2) 2 ≠ 0x0101)) ∧ (tagsOk l = false ∨ s.destOk p
      (field l 0 6) = false)) ∧
(∃ (s : State) (p b : Nat) (l : List Byte), p < 66 ∧ s.get (Reg.ETH.STAT_RUN p) = 1 ∧ (s.ethPort p).locked = true ∧
      (s.ethPort p).ctr.length = 13 ∧ b = 0 ∧ fcsRight l = true ∧ 64 ≤ l.length ∧ l.length ≤ s.maxFrm p ∧ (etherType l ≠
      0x8808 ∨ (field l (etherAt l + 2) 2 ≠ 1 ∧ field l (etherAt l + 2) 2 ≠ 0x0101)) ∧ tagsOk l = true ∧ s.destOk p (field
      l 0 6) = true ∧ checksumsOk l = false) ∧
(∃ (s : State) (p b : Nat) (l : List Byte) (f : Bool), (p = 64 ∨ p = 65) ∧ s.get (Reg.ETH.STAT_RUN p) = 1 ∧ (s.ethPort
      p).locked = true ∧ (s.ethPort p).ctr.length = 13 ∧ b = 0 ∧ fcsRight l = true ∧ 64 ≤ l.length ∧ l.length ≤ s.maxFrm p
      ∧ (etherType l ≠ 0x8808 ∨ (field l (etherAt l + 2) 2 ≠ 1 ∧ field l (etherAt l + 2) 2 ≠ 0x0101)) ∧ tagsOk l = true ∧
      s.destOk p (field l 0 6) = true ∧ checksumsOk l = true ∧ f = true) ∧
(∃ (s : State) (p b : Nat) (l : List Byte) (f : Bool) (c h : Nat), (p = 64 ∨ p = 65) ∧ s.get (Reg.ETH.STAT_RUN p) = 1 ∧
      (s.ethPort p).locked = true ∧ (s.ethPort p).ctr.length = 13 ∧ b = 0 ∧ fcsRight l = true ∧ 64 ≤ l.length ∧ l.length ≤
      s.maxFrm p ∧ (etherType l ≠ 0x8808 ∨ (field l (etherAt l + 2) 2 ≠ 1 ∧ field l (etherAt l + 2) 2 ≠ 0x0101)) ∧ tagsOk
      l = true ∧ s.destOk p (field l 0 6) = true ∧ checksumsOk l = true ∧ f = false ∧ h = s.get (Reg.ETH.RXRING_HEAD p 1)
      ∧ c = s.use (Reg.ETH.RXRING_SIZE_COUNT p 1) ∧ (s.descOwn (State.descAt (s.use (Reg.ETH.RXRING_BASE p 1)) c h) =
      false ∨ c = 0)) ∧
(∃ (s : State) (p b : Nat) (l : List Byte) (f : Bool) (c h d q : Nat), (p = 64 ∨ p = 65) ∧ s.get (Reg.ETH.STAT_RUN p) = 1
      ∧ (s.ethPort p).locked = true ∧ (s.ethPort p).ctr.length = 13 ∧ b = 0 ∧ fcsRight l = true ∧ 64 ≤ l.length ∧ l.length
      ≤ s.maxFrm p ∧ (etherType l ≠ 0x8808 ∨ (field l (etherAt l + 2) 2 ≠ 1 ∧ field l (etherAt l + 2) 2 ≠ 0x0101)) ∧
      tagsOk l = true ∧ s.destOk p (field l 0 6) = true ∧ checksumsOk l = true ∧ f = false ∧ h = s.get
      (Reg.ETH.RXRING_HEAD p 1) ∧ c = s.use (Reg.ETH.RXRING_SIZE_COUNT p 1) ∧ 2 ≤ c ∧ c ≤ 1024 ∧ d = State.descAt (s.use
      (Reg.ETH.RXRING_BASE p 1)) c h ∧ s.descOwn d = true ∧ l.length - 4 ≤ s.use (Reg.ETH.RXRING_SIZE_BUFSZ p 1) ∧ q =
      s.sram32 d ∧ (q + 9216 ≤ d ∨ d + 16 ≤ q)) ∧
(∃ (s : State) (p b : Nat) (l : List Byte), p < 64 ∧ s.get (Reg.ETH.STAT_RUN p) = 1 ∧ (s.ethPort p).locked = true ∧
      (s.ethPort p).ctr.length = 13 ∧ b = 0 ∧ fcsRight l = true ∧ 64 ≤ l.length ∧ l.length ≤ s.maxFrm p ∧ (etherType l ≠
      0x8808 ∨ (field l (etherAt l + 2) 2 ≠ 1 ∧ field l (etherAt l + 2) 2 ≠ 0x0101)) ∧ tagsOk l = true ∧ s.destOk p (field
      l 0 6) = true ∧ checksumsOk l = true ∧ s.classify p l = [] ∧ (ipv4Of l).any ipIsUdp = true ∧ ((ipv4Of l).any (fun q
      => (field (ipBody q) 2 2 == 319 || field (ipBody q) 2 2 == 320)) = false) ∧ bit (field l 0 6 / 2 ^ 40) 0 = true ∧
      field l 0 6 ≠ 0xFFFFFFFFFFFF ∧ s.inMcfw p (field l 0 6) = false) ∧
(∃ (s : State) (p : Nat) (l : List Byte), p < 66 ∧ s.get (Reg.ETH.STAT_RUN p) = 1 ∧ (s.ethPort p).locked = true ∧
      (s.ethPort p).ctr.length = 13 ∧ fcsRight l = true ∧ 64 ≤ l.length ∧ l.length ≤ s.maxFrm p ∧ etherType l = 0x8808 ∧
      (field l (etherAt l + 2) 2 = 1 ∨ field l (etherAt l + 2) 2 = 0x0101) ∧ (s.get (Reg.ETH.STAT_WDHOLD p) = 1 ∨ s.use
      (Reg.ETH.CFG_OBEY p) = 0)) ∧
(∃ (s : State) (p q : Nat) (l : List Byte), p < 66 ∧ s.get (Reg.ETH.STAT_RUN p) = 1 ∧ (s.ethPort p).locked = true ∧
      (s.ethPort p).ctr.length = 13 ∧ fcsRight l = true ∧ 64 ≤ l.length ∧ l.length ≤ s.maxFrm p ∧ etherType l = 0x8808 ∧
      field l (etherAt l + 2) 2 = 1 ∧ q = field l (etherAt l + 4) 2 ∧ q ≠ 0 ∧ s.use (Reg.ETH.CFG_OBEY p) = 1 ∧ s.get
      (Reg.ETH.STAT_WDHOLD p) = 0) ∧
(∃ (s : State) (p q c : Nat) (l : List Byte), p < 66 ∧ s.get (Reg.ETH.STAT_RUN p) = 1 ∧ (s.ethPort p).locked = true ∧
      (s.ethPort p).ctr.length = 13 ∧ fcsRight l = true ∧ 64 ≤ l.length ∧ l.length ≤ s.maxFrm p ∧ etherType l = 0x8808 ∧
      field l (etherAt l + 2) 2 = 0x0101 ∧ c < 8 ∧ field l (etherAt l + 4) 2 = 2 ^ c ∧ q = field l (etherAt l + 6 + 2 * c)
      2 ∧ q ≠ 0 ∧ s.use (Reg.ETH.CFG_OBEY p) = 2 ∧ s.get (Reg.ETH.STAT_WDHOLD p) = 0) ∧
(∃ (s : State) (p cls : Nat), ((Assoc.find (s.ethPort p).holds cls).all (fun h => decide (s.now < h.until_)) = true)) ∧
(∃ (s : State) (p cls u v : Nat), p < 66 ∧ (s.ethPort p).holds = [(cls, ⟨u, v⟩)] ∧ (s.ethPort p).queue = [] ∧ v ≤ s.now) ∧
(∃ (s : State) (p cls u v : Nat) (fr : List Byte), p < 66 ∧ (s.ethPort p).holds = [(cls, ⟨u, v⟩)] ∧ (s.ethPort p).queue =
      [(cls, fr)] ∧ v ≤ s.now ∧ ((s.ethLanes p).all (fun n => s.txPath n == 0) = true) ∧ (s.ethPort p).ctr.length = 13) ∧
(∃ (s : State) (p cls : Nat), ((Assoc.find (s.ethPort p).holds cls).all (fun h => decide (s.now < h.since + 1000 * s.use
      (Reg.ETH.PAUSEWD p))) = true ∨ s.use (Reg.ETH.PAUSEWD p) = 0)) ∧
(∃ (s : State) (p cls u v : Nat), p < 66 ∧ (s.ethPort p).holds = [(cls, ⟨u, v⟩)] ∧ (s.ethPort p).queue = [] ∧ s.use
      (Reg.ETH.PAUSEWD p) ≠ 0 ∧ u + 1000 * s.use (Reg.ETH.PAUSEWD p) ≤ s.now) ∧
(∃ (s : State) (p : Nat), p < 66 ∧ (s.ethPort p).wdAt + 1000000000 ≤ s.now) ∧
(∃ (s : State) (p : Nat), (66 ≤ p ∨ s.now < (s.ethPort p).wdAt + 1000000000)) ∧
(∃ (s : State) (m p : Nat) (data : Word), Quiet m s ∧ p < 66 ∧ bit data.toNat 0 = true ∧ (s.ethPort p).ctr.length = 13) ∧
(∃ (s : State) (m p : Nat) (data : Word), Quiet m s ∧ (66 ≤ p ∨ bit data.toNat 0 = false)) ∧
(∃ (s : State) (p : Nat), p < 66 ∧ (s.ethPort p).totals.length = 13 ∧ (s.ethPort p).ctr.length = 13) :=
  ⟨⟨(({ State.reset with now := 0, eth := { State.reset.eth with ports := [(3, ({ ctr := List.replicate 13 0, totals := List.replicate 13 0, locked := false, fault := 0, queue := [], holds := [], scanning := false, cleanAt := 0, wdAt := 0 } : EthPort))] }, inUse := [], mgt := { State.reset.mgt with sram := [] } }
      : State)), 3, by decide +kernel⟩,
  ⟨(({ State.reset with now := 0, eth := { State.reset.eth with ports := [(3, ({ ctr := List.replicate 13 0, totals := List.replicate 13 0, locked := true, fault := 0, queue := [], holds := [], scanning := false, cleanAt := 0, wdAt := 0 } : EthPort))] }, inUse := [], mgt := { State.reset.mgt with sram := [] } }
      : State) |>.set (Reg.ETH.STAT_RUN 3) 1), 3, by decide +kernel⟩,
  ⟨(({ State.reset with now := 0, eth := { State.reset.eth with ports := [(3, ({ ctr := List.replicate 13 0, totals := List.replicate 13 0, locked := true, fault := 0, queue := [], holds := [], scanning := false, cleanAt := 0, wdAt := 0 } : EthPort))] }, inUse := [], mgt := { State.reset.mgt with sram := [] } }
      : State) |>.set (Reg.ETH.STAT_RUN 3) 1), 3, 0, [1, 2, 3, 4, 5], by decide +kernel⟩,
  ⟨(({ State.reset with now := 0, eth := { State.reset.eth with ports := [(3, ({ ctr := List.replicate 13 0, totals := List.replicate 13 0, locked := true, fault := 0, queue := [], holds := [], scanning := false, cleanAt := 0, wdAt := 0 } : EthPort))] }, inUse := [], mgt := { State.reset.mgt with sram := [] } }
      : State) |>.set (Reg.ETH.STAT_RUN 3) 1), 3, 0, ([1, 2, 3] ++ leBytes 4 (crc32 [1, 2, 3])), by decide +kernel⟩,
  ⟨(({ State.reset with now := 0, eth := { State.reset.eth with ports := [(3, ({ ctr := List.replicate 13 0, totals := List.replicate 13 0, locked := true, fault := 0, queue := [], holds := [], scanning := false, cleanAt := 0, wdAt := 0 } : EthPort))] }, inUse := [], mgt := { State.reset.mgt with sram := [] } }
      : State) |>.set (Reg.ETH.STAT_RUN 3) 1), 3, 0, (withFcs (List.replicate 6 2 ++ List.replicate 54 0)),
      by decide +kernel⟩,
  ⟨(({ State.reset with now := 0, eth := { State.reset.eth with ports := [(3, ({ ctr := List.replicate 13 0, totals := List.replicate 13 0, locked := true, fault := 0, queue := [], holds := [], scanning := false, cleanAt := 0, wdAt := 0 } : EthPort))] }, inUse := [], mgt := { State.reset.mgt with sram := [] } }
      : State) |>.set (Reg.ETH.STAT_RUN 3) 1), 3, 0, (withFcs ([255, 255, 255, 255, 255, 255] ++ [0, 0, 0, 0, 0, 0, 8, 0]
      ++ [69, 0, 0, 46, 0, 0, 64, 0, 9, 17, 120, 190, 10, 0, 0, 1, 239, 0, 0, 1] ++ [0, 9] ++ [0, 9] ++ [0, 26, 0, 0] ++
      List.replicate 18 0)), by decide +kernel⟩,
  ⟨(({ State.reset with now := 0, eth := { State.reset.eth with ports := [(64, ({ ctr := List.replicate 13 0, totals := List.replicate 13 0, locked := true, fault := 0, queue := [], holds := [], scanning := false, cleanAt := 0, wdAt := 0 } : EthPort))] }, inUse := [], mgt := { State.reset.mgt with sram := [] } }
      : State) |>.set (Reg.ETH.STAT_RUN 64) 1), 64, 0, (withFcs (List.replicate 6 255 ++ List.replicate 54 0)), true,
      by decide +kernel⟩,
  ⟨(({ State.reset with now := 0, eth := { State.reset.eth with ports := [(64, ({ ctr := List.replicate 13 0, totals := List.replicate 13 0, locked := true, fault := 0, queue := [], holds := [], scanning := false, cleanAt := 0, wdAt := 0 } : EthPort))] }, inUse := [((Reg.ETH.RXRING_BASE 64 1).addr, BitVec.ofNat 32 (0x10 * 2 ^ (Reg.ETH.RXRING_BASE 64 1).lo)), ((Reg.ETH.RXRING_SIZE_COUNT 64 1).addr, BitVec.ofNat 32 (4 * 2 ^ (Reg.ETH.RXRING_SIZE_COUNT 64 1).lo + 256 * 2 ^ (Reg.ETH.RXRING_SIZE_BUFSZ 64 1).lo))], mgt := { State.reset.mgt with sram := [] } }
      : State) |>.set (Reg.ETH.STAT_RUN 64) 1), 64, 0, (withFcs (List.replicate 6 255 ++ List.replicate 54 0)), false, 4,
      0, by decide +kernel⟩,
  ⟨(({ State.reset with now := 0, eth := { State.reset.eth with ports := [(64, ({ ctr := List.replicate 13 0, totals := List.replicate 13 0, locked := true, fault := 0, queue := [], holds := [], scanning := false, cleanAt := 0, wdAt := 0 } : EthPort))] }, inUse := [((Reg.ETH.RXRING_BASE 64 1).addr, BitVec.ofNat 32 (0x10 * 2 ^ (Reg.ETH.RXRING_BASE 64 1).lo)), ((Reg.ETH.RXRING_SIZE_COUNT 64 1).addr, BitVec.ofNat 32 (4 * 2 ^ (Reg.ETH.RXRING_SIZE_COUNT 64 1).lo + 256 * 2 ^ (Reg.ETH.RXRING_SIZE_BUFSZ 64 1).lo))], mgt := { State.reset.mgt with sram := Memory.writeN (Memory.writeN [] 0x104 [0, 0, 0, 0x80]) 0x101 [2, 0, 0] } }
      : State) |>.set (Reg.ETH.STAT_RUN 64) 1), 64, 0, (withFcs (List.replicate 6 255 ++ List.replicate 54 0)), false, 4,
      0, 0x100, 0x200, by decide +kernel⟩,
  ⟨(({ State.reset with now := 0, eth := { State.reset.eth with ports := [(3, ({ ctr := List.replicate 13 0, totals := List.replicate 13 0, locked := true, fault := 0, queue := [], holds := [], scanning := false, cleanAt := 0, wdAt := 0 } : EthPort))] }, inUse := [], mgt := { State.reset.mgt with sram := [] } }
      : State) |>.set (Reg.ETH.STAT_RUN 3) 1 |>.set (Reg.ETH.MCHASH 3 (hashBin 0x01005E000001 / 32)) (2 ^ 32 - 1)), 3, 0,
      (withFcs ([1, 0, 94, 0, 0, 1] ++ [0, 0, 0, 0, 0, 0, 8, 0] ++ [69, 0, 0, 46, 0, 0, 64, 0, 9, 17, 120, 189, 10, 0, 0,
      1, 239, 0, 0, 1] ++ [0, 9] ++ [0, 9] ++ [0, 26, 0, 0] ++ List.replicate 18 0)), by decide +kernel⟩,
  ⟨(({ State.reset with now := 0, eth := { State.reset.eth with ports := [(3, ({ ctr := List.replicate 13 0, totals := List.replicate 13 0, locked := true, fault := 0, queue := [], holds := [], scanning := false, cleanAt := 0, wdAt := 0 } : EthPort))] }, inUse := [], mgt := { State.reset.mgt with sram := [] } }
      : State) |>.set (Reg.ETH.STAT_RUN 3) 1), 3, (withFcs (List.replicate 12 0 ++ [0x88, 0x08, 0, 1, 0, 9] ++
      List.replicate 42 0)), by decide +kernel⟩,
  ⟨(({ State.reset with now := 0, eth := { State.reset.eth with ports := [(3, ({ ctr := List.replicate 13 0, totals := List.replicate 13 0, locked := true, fault := 0, queue := [], holds := [], scanning := false, cleanAt := 0, wdAt := 0 } : EthPort))] }, inUse := [((Reg.ETH.CFG_OBEY 3).addr, BitVec.ofNat 32 (2 ^ (Reg.ETH.CFG_OBEY 3).lo))], mgt := { State.reset.mgt with sram := [] } }
      : State) |>.set (Reg.ETH.STAT_RUN 3) 1), 3, 9, (withFcs (List.replicate 12 0 ++ [0x88, 0x08, 0, 1, 0, 9] ++
      List.replicate 42 0)), by decide +kernel⟩,
  ⟨(({ State.reset with now := 0, eth := { State.reset.eth with ports := [(3, ({ ctr := List.replicate 13 0, totals := List.replicate 13 0, locked := true, fault := 0, queue := [], holds := [], scanning := false, cleanAt := 0, wdAt := 0 } : EthPort))] }, inUse := [((Reg.ETH.CFG_OBEY 3).addr, BitVec.ofNat 32 (2 * 2 ^ (Reg.ETH.CFG_OBEY 3).lo))], mgt := { State.reset.mgt with sram := [] } }
      : State) |>.set (Reg.ETH.STAT_RUN 3) 1), 3, 9, 2, (withFcs (List.replicate 12 0 ++ [0x88, 0x08, 1, 1, 0, 4, 0, 0, 0,
      0, 0, 9] ++ List.replicate 36 0)), by decide +kernel⟩,
  ⟨(({ State.reset with now := 0, eth := { State.reset.eth with ports := [(3, ({ ctr := List.replicate 13 0, totals := List.replicate 13 0, locked := false, fault := 0, queue := [], holds := [(8, ⟨1, 2⟩)], scanning := false, cleanAt := 0, wdAt := 0 } : EthPort))] }, inUse := [], mgt := { State.reset.mgt with sram := [] } }
      : State)), 3, 8, by decide +kernel⟩,
  ⟨(({ State.reset with now := 2, eth := { State.reset.eth with ports := [(3, ({ ctr := List.replicate 13 0, totals := List.replicate 13 0, locked := false, fault := 0, queue := [], holds := [(8, ⟨1, 2⟩)], scanning := false, cleanAt := 0, wdAt := 0 } : EthPort))] }, inUse := [], mgt := { State.reset.mgt with sram := [] } }
      : State) |>.set (Reg.ETH.STAT_PAUSED 3) 1), 3, 8, 1, 2, by decide +kernel⟩,
  ⟨(({ State.reset with now := 2, eth := { State.reset.eth with ports := [(3, ({ ctr := List.replicate 13 0, totals := List.replicate 13 0, locked := false, fault := 0, queue := [(8, [1, 2])], holds := [(8, ⟨1, 2⟩)], scanning := false, cleanAt := 0, wdAt := 0 } : EthPort))] }, inUse := [], mgt := { State.reset.mgt with sram := [] } }
      : State) |>.set (Reg.ETH.STAT_PAUSED 3) 1), 3, 8, 1, 2, [1, 2], by decide +kernel⟩,
  ⟨(({ State.reset with now := 0, eth := { State.reset.eth with ports := [(3, ({ ctr := List.replicate 13 0, totals := List.replicate 13 0, locked := false, fault := 0, queue := [], holds := [], scanning := false, cleanAt := 0, wdAt := 0 } : EthPort))] }, inUse := [], mgt := { State.reset.mgt with sram := [] } }
      : State)), 3, 8, by decide +kernel⟩,
  ⟨(({ State.reset with now := 9000, eth := { State.reset.eth with ports := [(3, ({ ctr := List.replicate 13 0, totals := List.replicate 13 0, locked := false, fault := 0, queue := [], holds := [(8, ⟨1, 2⟩)], scanning := false, cleanAt := 0, wdAt := 0 } : EthPort))] }, inUse := [((Reg.ETH.PAUSEWD 3).addr, 5)], mgt := { State.reset.mgt with sram := [] } }
      : State) |>.set (Reg.ETH.STAT_PAUSED 3) 1), 3, 8, 1, 2, by decide +kernel⟩,
  ⟨(({ State.reset with now := 1000000000, eth := { State.reset.eth with ports := [(3, ({ ctr := List.replicate 13 0, totals := List.replicate 13 0, locked := false, fault := 0, queue := [], holds := [], scanning := false, cleanAt := 0, wdAt := 0 } : EthPort))] }, inUse := [], mgt := { State.reset.mgt with sram := [] } }
      : State) |>.set (Reg.ETH.STAT_WDHOLD 3) 1), 3, by decide +kernel⟩,
  ⟨(({ State.reset with now := 0, eth := { State.reset.eth with ports := [(3, ({ ctr := List.replicate 13 0, totals := List.replicate 13 0, locked := false, fault := 0, queue := [], holds := [], scanning := false, cleanAt := 0, wdAt := 0 } : EthPort))] }, inUse := [], mgt := { State.reset.mgt with sram := [] } }
      : State) |>.set (Reg.ETH.STAT_WDHOLD 3) 1), 3, by decide +kernel⟩,
  ⟨(({ State.reset with now := 0, eth := { State.reset.eth with ports := [(3, ({ ctr := [1,2,3,4,5,6,7,8,9,10,11,12,13], totals := List.replicate 13 0, locked := false, fault := 0, queue := [], holds := [], scanning := false, cleanAt := 0, wdAt := 0 } : EthPort))] }, inUse := [], mgt := { State.reset.mgt with sram := [] } }
      : State)), 0, 3, 1, by decide +kernel⟩,
  ⟨(({ State.reset with now := 0, eth := { State.reset.eth with ports := [(3, ({ ctr := List.replicate 13 0, totals := List.replicate 13 0, locked := false, fault := 0, queue := [], holds := [], scanning := false, cleanAt := 0, wdAt := 0 } : EthPort))] }, inUse := [], mgt := { State.reset.mgt with sram := [] } }
      : State)), 0, 3, 2, by decide +kernel⟩,
  ⟨(({ State.reset with now := 0, eth := { State.reset.eth with ports := [(3, ({ ctr := [1,2,3,4,5,6,7,8,9,10,11,12,13], totals := List.replicate 13 0, locked := false, fault := 0, queue := [], holds := [], scanning := false, cleanAt := 0, wdAt := 0 } : EthPort))] }, inUse := [], mgt := { State.reset.mgt with sram := [] } }
      : State)), 3, by decide +kernel⟩⟩

/-- States and operands that meet the hypotheses of each clause of `Obligations.EthernetLinkAndRings`. -/
theorem witness_ethernet_link_and_rings :
(∃ (s : State) (p : Nat), (66 ≤ p ∨ s.get (Reg.ETH.STAT_RUN p) = 0 ∨ s.ethLanesUp p = false ∨ (s.ethPort p).locked =
      true)) ∧
(∃ (s : State) (p : Nat), p < 66 ∧ s.get (Reg.ETH.STAT_RUN p) = 1 ∧ s.ethLanesUp p = true ∧ (s.ethPort p).locked = false ∧
      (s.ethPort p).fault < 3) ∧
(∃ (s : State) (p : Nat), p < 66 ∧ s.get (Reg.ETH.STAT_RUN p) = 1 ∧ (s.ethPort p).locked = true ∧ (s.ethPort p).fault = 0
      ∧ s.get (Reg.ETH.STAT_LINK p) ≠ 3 ∧ (s.ethPort p).cleanAt + 128000 ≤ s.now) ∧
(∃ (s : State) (p : Nat), (66 ≤ p ∨ s.get (Reg.ETH.STAT_RUN p) = 0 ∨ (s.ethPort p).locked = false ∨ (s.ethPort p).fault ≠
      0 ∨ s.get (Reg.ETH.STAT_LINK p) = 3 ∨ s.now < (s.ethPort p).cleanAt + 128000)) ∧
(∃ (p : Nat), p < 66) ∧
(∃ (s : State) (p n : Nat), p < 66 ∧ s.get (Reg.ETH.STAT_LINK p) = 3 ∧ n = (s.ethPort p).queue.length ∧ n ≠ 0 ∧ s.ipm.rx =
      [] ∧ (s.ethPort p).ctr.length = 13) ∧
(∃ (s : State) (p k : Nat), p < 66 ∧ (k = 1 ∨ k = 2) ∧ (s.ethPort p).locked = true) ∧
(∃ (s : State) (p k : Nat), p < 66 ∧ (k = 0 ∨ (s.ethPort p).locked = false)) ∧
(∃ (s : State) (p : Nat), (p = 64 ∨ p = 65) ∧ s.use (Reg.ETH.CFG_PTYPE p) = 4 ∧ s.get (Reg.ETH.STAT_RUN p) = 1) ∧
(∃ (s : State) (p : Nat), (p < 64 ∨ 66 ≤ p ∨ s.use (Reg.ETH.CFG_PTYPE p) ≠ 4 ∨ s.get (Reg.ETH.STAT_RUN p) = 0)) ∧
(∃ (s : State) (m p : Nat) (data : Word), Quiet m s ∧ p < 66 ∧ bit data.toNat 0 = true ∧ s.get (Reg.ETH.STAT_RUN p) = 1) ∧
(∃ (s : State) (m p : Nat) (data : Word), Quiet m s ∧ (66 ≤ p ∨ bit data.toNat 0 = false ∨ s.get (Reg.ETH.STAT_RUN p) =
      0)) ∧
(∃ (s : State) (p : Nat), (s.ethPort p).scanning = false) ∧
(∃ (s : State) (p count : Nat), p < 66 ∧ (s.ethPort p).scanning = true ∧ count = s.use (Reg.ETH.TXRING_SIZE p) ∧ s.txDescs
      (s.use (Reg.ETH.TXRING_BASE p)) count (min count 1024) (s.get (Reg.ETH.TXRING_HEAD p)) = none) ∧
(∃ (s : State) (p a w count : Nat) (frame : List Byte), p < 66 ∧ (s.ethPort p).scanning = true ∧ count = s.use
      (Reg.ETH.TXRING_SIZE p) ∧ 2 ≤ count ∧ count ≤ 1024 ∧ s.txDescs (s.use (Reg.ETH.TXRING_BASE p)) count count (s.get
      (Reg.ETH.TXRING_HEAD p)) = some [a] ∧ w = s.sram32 (a + 4) ∧ (frame = withFcs (if bit w 27 = true then
      insertChecksums (Memory.readN s.mgt.sram (s.sram32 a) (bits w 13 0)) else Memory.readN s.mgt.sram (s.sram32 a) (bits
      w 13 0))) ∧ s.get (Reg.ETH.STAT_LINK p) = 3 ∧ frame.length ≤ s.maxFrm p ∧ (s.ethPort p).queue ≠ [] ∨ s.held p (match
      vlanOf frame with | some v => v.1 | none => 0) = true ∨ (p < 64 ∧ s.fabricOn = false)) ∧
(∃ (s : State) (p a w count : Nat) (frame : List Byte), p < 66 ∧ (s.ethPort p).scanning = true ∧ count = s.use
      (Reg.ETH.TXRING_SIZE p) ∧ 2 ≤ count ∧ count ≤ 1024 ∧ s.txDescs (s.use (Reg.ETH.TXRING_BASE p)) count count (s.get
      (Reg.ETH.TXRING_HEAD p)) = some [a] ∧ w = s.sram32 (a + 4) ∧ (frame = withFcs (if bit w 27 = true then
      insertChecksums (Memory.readN s.mgt.sram (s.sram32 a) (bits w 13 0)) else Memory.readN s.mgt.sram (s.sram32 a) (bits
      w 13 0))) ∧ (s.get (Reg.ETH.STAT_LINK p) ≠ 3 ∨ s.maxFrm p < frame.length) ∧ (s.ethPort p).ctr.length = 13) ∧
(∃ (s : State) (p a w count : Nat) (frame : List Byte), p < 66 ∧ (s.ethPort p).scanning = true ∧ count = s.use
      (Reg.ETH.TXRING_SIZE p) ∧ 2 ≤ count ∧ count ≤ 1024 ∧ s.txDescs (s.use (Reg.ETH.TXRING_BASE p)) count count (s.get
      (Reg.ETH.TXRING_HEAD p)) = some [a] ∧ w = s.sram32 (a + 4) ∧ (frame = withFcs (if bit w 27 = true then
      insertChecksums (Memory.readN s.mgt.sram (s.sram32 a) (bits w 13 0)) else Memory.readN s.mgt.sram (s.sram32 a) (bits
      w 13 0))) ∧ s.get (Reg.ETH.STAT_LINK p) = 3 ∧ frame.length ≤ s.maxFrm p ∧ (s.ethPort p).queue = [] ∧ (s.ethPort
      p).holds = [] ∧ (s.fabricOn = true ∨ 64 ≤ p) ∧ ((s.ethLanes p).all (fun n => s.txPath n == 0) = true) ∧ (s.ethPort
      p).ctr.length = 13 ∧ bit w 28 = false) ∧
(∃ (s : State) (p a w count : Nat) (frame : List Byte), p < 66 ∧ (s.ethPort p).scanning = true ∧ count = s.use
      (Reg.ETH.TXRING_SIZE p) ∧ 2 ≤ count ∧ count ≤ 1024 ∧ s.txDescs (s.use (Reg.ETH.TXRING_BASE p)) count count (s.get
      (Reg.ETH.TXRING_HEAD p)) = some [a] ∧ w = s.sram32 (a + 4) ∧ (frame = withFcs (if bit w 27 = true then
      insertChecksums (Memory.readN s.mgt.sram (s.sram32 a) (bits w 13 0)) else Memory.readN s.mgt.sram (s.sram32 a) (bits
      w 13 0))) ∧ p < 64 ∧ s.get (Reg.ETH.STAT_LINK p) = 3 ∧ frame.length ≤ s.maxFrm p ∧ (s.ethPort p).queue = [] ∧
      (s.ethPort p).holds = [] ∧ s.fabricOn = true ∧ ((s.ethLanes p).all (fun n => s.txPath n == 0) = true) ∧ bit w 28 =
      true) :=
  ⟨⟨(({ State.reset with now := 0, eth := { State.reset.eth with ports := [(64, ({ ctr := List.replicate 13 0, totals := List.replicate 13 0, locked := false, fault := 0, queue := [], holds := [], scanning := false, cleanAt := 0, wdAt := 0 } : EthPort))] }, inUse := [], mgt := { State.reset.mgt with sram := [] } }
      : State)), 64, by decide +kernel⟩,
  ⟨(({ State.reset with now := 0, eth := { State.reset.eth with ports := [(64, ({ ctr := List.replicate 13 0, totals := List.replicate 13 0, locked := false, fault := 0, queue := [], holds := [], scanning := false, cleanAt := 0, wdAt := 0 } : EthPort))] }, inUse := [], mgt := { State.reset.mgt with sram := [] } }
      : State) |>.set (Reg.ETH.STAT_RUN 64) 1), 64, by decide +kernel⟩,
  ⟨(({ State.reset with now := 128000, eth := { State.reset.eth with ports := [(3, ({ ctr := List.replicate 13 0, totals := List.replicate 13 0, locked := true, fault := 0, queue := [], holds := [], scanning := false, cleanAt := 0, wdAt := 0 } : EthPort))] }, inUse := [], mgt := { State.reset.mgt with sram := [] } }
      : State) |>.set (Reg.ETH.STAT_RUN 3) 1), 3, by decide +kernel⟩,
  ⟨(({ State.reset with now := 0, eth := { State.reset.eth with ports := [(3, ({ ctr := List.replicate 13 0, totals := List.replicate 13 0, locked := true, fault := 0, queue := [], holds := [], scanning := false, cleanAt := 0, wdAt := 0 } : EthPort))] }, inUse := [], mgt := { State.reset.mgt with sram := [] } }
      : State) |>.set (Reg.ETH.STAT_RUN 3) 1), 3, by decide +kernel⟩,
  ⟨3, by decide +kernel⟩,
  ⟨(({ State.reset with now := 0, eth := { State.reset.eth with ports := [(3, ({ ctr := List.replicate 13 0, totals := List.replicate 13 0, locked := true, fault := 0, queue := [(8, [1])], holds := [], scanning := false, cleanAt := 0, wdAt := 0 } : EthPort))] }, inUse := [], mgt := { State.reset.mgt with sram := [] } }
      : State) |>.set (Reg.ETH.STAT_RUN 3) 1 |>.set (Reg.ETH.STAT_LINK 3) 3), 3, 1, by decide +kernel⟩,
  ⟨(({ State.reset with now := 0, eth := { State.reset.eth with ports := [(3, ({ ctr := List.replicate 13 0, totals := List.replicate 13 0, locked := true, fault := 0, queue := [], holds := [], scanning := false, cleanAt := 0, wdAt := 0 } : EthPort))] }, inUse := [], mgt := { State.reset.mgt with sram := [] } }
      : State) |>.set (Reg.ETH.STAT_RUN 3) 1 |>.set (Reg.ETH.STAT_LINK 3) 3), 3, 2, by decide +kernel⟩,
  ⟨(({ State.reset with now := 0, eth := { State.reset.eth with ports := [(3, ({ ctr := List.replicate 13 0, totals := List.replicate 13 0, locked := false, fault := 0, queue := [], holds := [], scanning := false, cleanAt := 0, wdAt := 0 } : EthPort))] }, inUse := [], mgt := { State.reset.mgt with sram := [] } }
      : State)), 3, 2, by decide +kernel⟩,
  ⟨(({ State.reset with now := 0, eth := { State.reset.eth with ports := [(64, ({ ctr := List.replicate 13 0, totals := List.replicate 13 0, locked := true, fault := 0, queue := [], holds := [], scanning := false, cleanAt := 0, wdAt := 0 } : EthPort))] }, inUse := [((Reg.ETH.CFG_PTYPE 64).addr, BitVec.ofNat 32 (4 * 2 ^ (Reg.ETH.CFG_PTYPE 64).lo))], mgt := { State.reset.mgt with sram := [] } }
      : State) |>.set (Reg.ETH.STAT_RUN 64) 1), 64, by decide +kernel⟩,
  ⟨(({ State.reset with now := 0, eth := { State.reset.eth with ports := [(64, ({ ctr := List.replicate 13 0, totals := List.replicate 13 0, locked := true, fault := 0, queue := [], holds := [], scanning := false, cleanAt := 0, wdAt := 0 } : EthPort))] }, inUse := [], mgt := { State.reset.mgt with sram := [] } }
      : State)), 64, by decide +kernel⟩,
  ⟨(({ State.reset with now := 0, eth := { State.reset.eth with ports := [(3, ({ ctr := List.replicate 13 0, totals := List.replicate 13 0, locked := false, fault := 0, queue := [], holds := [], scanning := false, cleanAt := 0, wdAt := 0 } : EthPort))] }, inUse := [], mgt := { State.reset.mgt with sram := [] } }
      : State) |>.set (Reg.ETH.STAT_RUN 3) 1), 0, 3, 1, by decide +kernel⟩,
  ⟨(({ State.reset with now := 0, eth := { State.reset.eth with ports := [(3, ({ ctr := List.replicate 13 0, totals := List.replicate 13 0, locked := false, fault := 0, queue := [], holds := [], scanning := false, cleanAt := 0, wdAt := 0 } : EthPort))] }, inUse := [], mgt := { State.reset.mgt with sram := [] } }
      : State)), 0, 3, 1, by decide +kernel⟩,
  ⟨(({ State.reset with now := 0, eth := { State.reset.eth with ports := [(3, ({ ctr := List.replicate 13 0, totals := List.replicate 13 0, locked := false, fault := 0, queue := [], holds := [], scanning := false, cleanAt := 0, wdAt := 0 } : EthPort))] }, inUse := [], mgt := { State.reset.mgt with sram := [] } }
      : State) |>.set (Reg.ETH.STAT_RUN 3) 1), 3, by decide +kernel⟩,
  ⟨(({ State.reset with now := 0, eth := { State.reset.eth with ports := [(3, ({ ctr := List.replicate 13 0, totals := List.replicate 13 0, locked := false, fault := 0, queue := [], holds := [], scanning := true, cleanAt := 0, wdAt := 0 } : EthPort))] }, inUse := [((Reg.ETH.TXRING_BASE 3).addr, BitVec.ofNat 32 (0x10 * 2 ^ (Reg.ETH.TXRING_BASE 3).lo)), ((Reg.ETH.TXRING_SIZE 3).addr, BitVec.ofNat 32 (4 * 2 ^ (Reg.ETH.TXRING_SIZE 3).lo))], mgt := { State.reset.mgt with sram := [] } }
      : State) |>.set (Reg.ETH.STAT_RUN 3) 1), 3, 4, by decide +kernel⟩,
  ⟨(({ State.reset with now := 0, eth := { State.reset.eth with ports := [(3, ({ ctr := List.replicate 13 0, totals := List.replicate 13 0, locked := false, fault := 0, queue := [], holds := [], scanning := true, cleanAt := 0, wdAt := 0 } : EthPort))] }, inUse := [((Reg.ETH.TXRING_BASE 3).addr, BitVec.ofNat 32 (0x10 * 2 ^ (Reg.ETH.TXRING_BASE 3).lo)), ((Reg.ETH.TXRING_SIZE 3).addr, BitVec.ofNat 32 (4 * 2 ^ (Reg.ETH.TXRING_SIZE 3).lo))], mgt := { State.reset.mgt with sram := Memory.writeN (Memory.writeN [] 0x104 [60, 0, 0, 0xE0]) 0x101 [2, 0, 0] } }
      : State) |>.set (Reg.ETH.STAT_RUN 3) 1 |>.set (Reg.ETH.STAT_LINK 3) 3 |>.set Reg.FAB.STAT_RUN 1).set
      Reg.FAB.STAT_RUN 0, 3, 0x100, 0xE000003C, 4, (withFcs (Memory.readN (Memory.writeN (Memory.writeN [] 0x104 [60, 0,
      0, 0xE0]) 0x101 [2, 0, 0]) 0x200 60)), by decide +kernel⟩,
  ⟨(({ State.reset with now := 0, eth := { State.reset.eth with ports := [(3, ({ ctr := List.replicate 13 0, totals := List.replicate 13 0, locked := false, fault := 0, queue := [], holds := [], scanning := true, cleanAt := 0, wdAt := 0 } : EthPort))] }, inUse := [((Reg.ETH.TXRING_BASE 3).addr, BitVec.ofNat 32 (0x10 * 2 ^ (Reg.ETH.TXRING_BASE 3).lo)), ((Reg.ETH.TXRING_SIZE 3).addr, BitVec.ofNat 32 (4 * 2 ^ (Reg.ETH.TXRING_SIZE 3).lo))], mgt := { State.reset.mgt with sram := Memory.writeN (Memory.writeN [] 0x104 [60, 0, 0, 0xE0]) 0x101 [2, 0, 0] } }
      : State) |>.set (Reg.ETH.STAT_RUN 3) 1 |>.set (Reg.ETH.STAT_LINK 3) 3 |>.set Reg.FAB.STAT_RUN 1).set
      (Reg.ETH.STAT_LINK 3) 1, 3, 0x100, 0xE000003C, 4, (withFcs (Memory.readN (Memory.writeN (Memory.writeN [] 0x104 [60,
      0, 0, 0xE0]) 0x101 [2, 0, 0]) 0x200 60)), by decide +kernel⟩,
  ⟨(({ State.reset with now := 0, eth := { State.reset.eth with ports := [(3, ({ ctr := List.replicate 13 0, totals := List.replicate 13 0, locked := false, fault := 0, queue := [], holds := [], scanning := true, cleanAt := 0, wdAt := 0 } : EthPort))] }, inUse := [((Reg.ETH.TXRING_BASE 3).addr, BitVec.ofNat 32 (0x10 * 2 ^ (Reg.ETH.TXRING_BASE 3).lo)), ((Reg.ETH.TXRING_SIZE 3).addr, BitVec.ofNat 32 (4 * 2 ^ (Reg.ETH.TXRING_SIZE 3).lo))], mgt := { State.reset.mgt with sram := Memory.writeN (Memory.writeN [] 0x104 [60, 0, 0, 0xE0]) 0x101 [2, 0, 0] } }
      : State) |>.set (Reg.ETH.STAT_RUN 3) 1 |>.set (Reg.ETH.STAT_LINK 3) 3 |>.set Reg.FAB.STAT_RUN 1), 3, 0x100,
      0xE000003C, 4, (withFcs (Memory.readN (Memory.writeN (Memory.writeN [] 0x104 [60, 0, 0, 0xE0]) 0x101 [2, 0, 0])
      0x200 60)), by decide +kernel⟩,
  ⟨(({ State.reset with now := 0, eth := { State.reset.eth with ports := [(3, ({ ctr := List.replicate 13 0, totals := List.replicate 13 0, locked := false, fault := 0, queue := [], holds := [], scanning := true, cleanAt := 0, wdAt := 0 } : EthPort))] }, inUse := [((Reg.ETH.TXRING_BASE 3).addr, BitVec.ofNat 32 (0x10 * 2 ^ (Reg.ETH.TXRING_BASE 3).lo)), ((Reg.ETH.TXRING_SIZE 3).addr, BitVec.ofNat 32 (4 * 2 ^ (Reg.ETH.TXRING_SIZE 3).lo))], mgt := { State.reset.mgt with sram := Memory.writeN (Memory.writeN [] 0x104 [60, 0, 0, 0xF0]) 0x101 [2, 0, 0] } }
      : State) |>.set (Reg.ETH.STAT_RUN 3) 1 |>.set (Reg.ETH.STAT_LINK 3) 3 |>.set Reg.FAB.STAT_RUN 1), 3, 0x100,
      0xF000003C, 4, (withFcs (Memory.readN (Memory.writeN (Memory.writeN [] 0x104 [60, 0, 0, 0xF0]) 0x101 [2, 0, 0])
      0x200 60)), by decide +kernel⟩⟩

/-- States and operands that meet the hypotheses of each clause of `Obligations.LaneReceive`. -/
theorem witness_lane_receive :
(∃ (s : State) (n : Nat) (on : Bool), (s.get (Reg.LANE.STAT_RUN n) = 0 ∨ s.laneRxMode n = 0 ∨ (s.rxStopped n = false ∧ on
      = true ∧ s.get (Reg.LANE.STAT_RXSTATE n) ≠ 0))) ∧
(∃ (s : State) (n : Nat), n < 512 ∧ s.get (Reg.LANE.STAT_RUN n) = 1 ∧ s.laneRxMode n ≠ 0 ∧ s.rxStopped n = false ∧ s.get
      (Reg.LANE.STAT_RXSTATE n) = 0) ∧
(∃ (s : State) (n : Nat), n < 512 ∧ s.get (Reg.LANE.STAT_RUN n) = 1 ∧ s.laneRxMode n ≠ 0 ∧ s.rxStopped n = false) ∧
(∃ (s : State) (n : Nat), n < 512 ∧ s.get (Reg.LANE.STAT_RUN n) = 1 ∧ s.laneRxMode n ≠ 0 ∧ s.rxStopped n = true) ∧
(∃ (s : State) (n : Nat), n < 512 ∧ s.get (Reg.LANE.STAT_RUN n) = 1 ∧ (s.laneRxMode n = 3 ∨ s.laneRxMode n = 4) ∧ s.get
      (Reg.LANE.STAT_RXSTATE n) = 1) ∧
(∃ (s : State) (n : Nat), n < 512 ∧ s.get (Reg.LANE.STAT_RUN n) = 1 ∧ s.laneRxMode n = 1 ∧ s.get (Reg.LANE.STAT_RXSTATE n)
      = 1 ∧ (s.laneHw n).sigWaits = none ∧ s.get (Reg.SDI.STAT_RUN (sdiPage n)) = 1 ∧ s.use (Reg.SDI.RXCFG_RATES (sdiPage
      n)) ≠ 0) ∧
(∃ (s : State) (n : Nat), (s.laneHw n).sigWaits = none ∧ (s.get (Reg.LANE.STAT_RUN n) = 0 ∨ s.get (Reg.LANE.STAT_RXSTATE
      n) ≠ 1 ∨ (s.laneRxMode n = 1 ∧ (s.get (Reg.SDI.STAT_RUN (sdiPage n)) = 0 ∨ s.use (Reg.SDI.RXCFG_RATES (sdiPage n)) =
      0)))) ∧
(∃ (s : State) (n : Nat), n < 512 ∧ s.get (Reg.LANE.STAT_RUN n) = 1 ∧ s.laneRxMode n = 2 ∧ s.get (Reg.LANE.STAT_RXSTATE n)
      = 1) ∧
(∃ (s : State) (n : Nat), n < 512 ∧ s.get (Reg.LANE.STAT_RUN n) = 1 ∧ 2 ≤ s.get (Reg.LANE.STAT_RXSTATE n)) ∧
(∃ (s : State) (n : Nat), (s.get (Reg.LANE.STAT_RUN n) = 0 ∨ s.get (Reg.LANE.STAT_RXSTATE n) < 2)) ∧
(∃ (s : State) (n : Nat), n < 512 ∧ s.cellMode n = true ∧ s.get (Reg.LANE.STAT_RUN n) = 1 ∧ s.get (Reg.LANE.STAT_RXSTATE
      n) = 2) ∧
(∃ (s : State) (n : Nat), (s.get (Reg.LANE.STAT_RUN n) = 0 ∨ s.cellMode n = false ∨ s.get (Reg.LANE.STAT_RXSTATE n) ≠ 2)) ∧
(∃ (s : State) (n : Nat), (s.get (Reg.LANE.STAT_RUN n) = 0 ∨ s.cellMode n = false ∨ s.get (Reg.LANE.STAT_RXSTATE n) < 3)) ∧
(∃ (s : State) (n inv : Nat), n < 512 ∧ s.cellMode n = true ∧ s.get (Reg.LANE.STAT_RUN n) = 1 ∧ 3 ≤ s.get
      (Reg.LANE.STAT_RXSTATE n) ∧ 16 < inv) ∧
(∃ (s : State) (n inv : Nat), n < 512 ∧ s.cellMode n = true ∧ s.get (Reg.LANE.STAT_RUN n) = 1 ∧ 3 ≤ s.get
      (Reg.LANE.STAT_RXSTATE n) ∧ inv ≤ 16) ∧
(∃ (s : State) (n : Nat), (s.get (Reg.LANE.STAT_RUN n) = 0 ∨ s.cellMode n = false ∨ s.use (Reg.LANE.PRBS_RXCHK n) ≠ 0)) ∧
(∃ (s : State) (n : Nat), s.get (Reg.LANE.STAT_RXSTATE n) < 3) ∧
(∃ (s : State) (n : Nat) (c : FabricCell), n < 512 ∧ s.cellMode n = true ∧ s.get (Reg.LANE.STAT_RUN n) = 1 ∧ s.use
      (Reg.LANE.PRBS_RXCHK n) = 0 ∧ s.get (Reg.LANE.STAT_RXSTATE n) = 3 ∧ State.headerOk c.header = true ∧ 7 ≤ (s.laneHw
      n).good) ∧
(∃ (s : State) (n : Nat) (c : FabricCell), n < 512 ∧ s.cellMode n = true ∧ s.get (Reg.LANE.STAT_RUN n) = 1 ∧ s.use
      (Reg.LANE.PRBS_RXCHK n) = 0 ∧ s.get (Reg.LANE.STAT_RXSTATE n) = 3 ∧ (State.headerOk c.header = false ∨ (s.laneHw
      n).good < 7)) ∧
(∃ (s : State) (n : Nat) (c : FabricCell), n < 512 ∧ s.cellMode n = true ∧ s.get (Reg.LANE.STAT_RUN n) = 1 ∧ s.use
      (Reg.LANE.PRBS_RXCHK n) = 0 ∧ s.get (Reg.LANE.STAT_RXSTATE n) = 4 ∧ State.headerOk c.header = false ∧ (s.laneHw
      n).bad < 6 ∧ c.lost = 0) ∧
(∃ (s : State) (n : Nat) (c : FabricCell), n < 512 ∧ s.cellMode n = true ∧ s.get (Reg.LANE.STAT_RUN n) = 1 ∧ s.use
      (Reg.LANE.PRBS_RXCHK n) = 0 ∧ s.get (Reg.LANE.STAT_RXSTATE n) = 4 ∧ State.headerOk c.header = false ∧ 6 ≤ (s.laneHw
      n).bad) ∧
(∃ (s : State) (n : Nat) (c : FabricCell), n < 512 ∧ s.cellMode n = true ∧ s.get (Reg.LANE.STAT_RUN n) = 1 ∧ s.use
      (Reg.LANE.PRBS_RXCHK n) = 0 ∧ s.get (Reg.LANE.STAT_RXSTATE n) = 4 ∧ c.lost ≠ 0) ∧
(∃ (s : State) (n e : Nat) (c : FabricCell) (x : HopFrame), n < 512 ∧ s.get (Reg.LANE.STAT_RUN n) = 1 ∧ s.laneRxMode n = 3
      ∧ s.use (Reg.LANE.PRBS_RXCHK n) = 0 ∧ s.get (Reg.LANE.STAT_RXSTATE n) = 4 ∧ State.headerOk c.header = true ∧ c.kind
      ≤ 1 ∧ s.mergeOf n = none ∧ (s.laneHw n).ents[c.kind]? = some e ∧ e < 8192 ∧ (Assoc.find s.fab.ing e).isSome = true ∧
      (s.ing e).moveTo = none ∧ c.lost = 0 ∧ ((Assoc.find (s.laneHw n).seq c.kind).all (fun q => c.seq == q + 1) = true) ∧
      c.first = some x ∧ s.get (Reg.FAB.ISE_HANDLE e) ≠ 0 ∧ s.use (Reg.PROV.LINK_CHECK n) = 1 ∧ s.hopOk n c.kind x.hop =
      true ∧ fmtNoColr x.frame.fmt = fmtNoColr (s.ing e).fmt) ∧
(∃ (s : State) (n e : Nat) (c : FabricCell) (x : HopFrame), n < 512 ∧ s.get (Reg.LANE.STAT_RUN n) = 1 ∧ s.laneRxMode n = 3
      ∧ s.use (Reg.LANE.PRBS_RXCHK n) = 0 ∧ s.get (Reg.LANE.STAT_RXSTATE n) = 4 ∧ State.headerOk c.header = true ∧ c.kind
      ≤ 1 ∧ s.mergeOf n = none ∧ (s.laneHw n).ents[c.kind]? = some e ∧ e < 8192 ∧ (Assoc.find s.fab.ing e).isSome = true ∧
      (s.ing e).moveTo = none ∧ c.lost = 0 ∧ ((Assoc.find (s.laneHw n).seq c.kind).all (fun q => c.seq == q + 1) = true) ∧
      c.first = some x ∧ s.get (Reg.FAB.ISE_HANDLE e) ≠ 0 ∧ s.use (Reg.PROV.LINK_CHECK n) = 1 ∧ s.hopOk n c.kind x.hop =
      false ∧ fmtNoColr x.frame.fmt = fmtNoColr (s.ing e).fmt) ∧
(∃ (s : State) (n e : Nat) (c : FabricCell) (x : HopFrame), n < 512 ∧ s.get (Reg.LANE.STAT_RUN n) = 1 ∧ s.laneRxMode n = 3
      ∧ s.use (Reg.LANE.PRBS_RXCHK n) = 0 ∧ s.get (Reg.LANE.STAT_RXSTATE n) = 4 ∧ State.headerOk c.header = true ∧ c.kind
      ≤ 1 ∧ s.mergeOf n = none ∧ (s.laneHw n).ents[c.kind]? = some e ∧ e < 8192 ∧ (Assoc.find s.fab.ing e).isSome = true ∧
      (s.ing e).moveTo = none ∧ c.lost = 0 ∧ ((Assoc.find (s.laneHw n).seq c.kind).all (fun q => c.seq == q + 1) = true) ∧
      c.first = some x ∧ s.get (Reg.FAB.ISE_HANDLE e) ≠ 0 ∧ fmtNoColr x.frame.fmt ≠ fmtNoColr (s.ing e).fmt) ∧
(∃ (s : State) (n : Nat), n < 512 ∧ s.cellMode n = true ∧ s.get (Reg.LANE.STAT_RUN n) = 1 ∧ s.get (Reg.LANE.STAT_RXSTATE
      n) = 3 ∧ s.use (Reg.LANE.CFG_POLAUTO (s.pinLane n)) = 1 ∧ (s.laneHw n).huntAt + 9612 ≤ s.now) ∧
(∃ (s : State) (n : Nat), (s.get (Reg.LANE.STAT_RUN n) = 0 ∨ s.cellMode n = false ∨ s.get (Reg.LANE.STAT_RXSTATE n) ≠ 3 ∨
      s.use (Reg.LANE.CFG_POLAUTO (s.pinLane n)) = 0 ∨ s.now < (s.laneHw n).huntAt + 9612)) ∧
(∃ (s : State) (n : Nat), (s.get (Reg.LANE.STAT_RUN n) = 0 ∨ s.laneTxMode n ≤ 2 ∨ s.now < (s.laneHw n).sentAt + 4000)) ∧
(∃ (s : State) (n : Nat), s.get (Reg.LANE.STAT_RUN n) = 1 ∧ s.laneTxMode n = 3 ∧ s.txPath n = 0 ∧ (s.laneHw n).sentAt +
      4000 ≤ s.now) ∧
(∃ (s : State) (n : Nat), s.get (Reg.LANE.STAT_RUN n) = 1 ∧ s.laneTxMode n = 4 ∧ s.txPath n = 0 ∧ (s.laneHw n).sentAt +
      4000 ≤ s.now) :=
  ⟨⟨(({ State.reset with inUse := [((Reg.LANE.CFG_RXMODE 3).addr, 0x33)] } : State).set (Reg.LANE.STAT_RUN 3) 1 |>.set
      (Reg.LANE.STAT_RXSTATE 3) 2 |>.set (Reg.QUAD.STAT_RUN 0) 1), 3, true, by decide +kernel⟩,
  ⟨(({ State.reset with inUse := [((Reg.LANE.CFG_RXMODE 3).addr, 0x33)] } : State).set (Reg.LANE.STAT_RUN 3) 1 |>.set
      (Reg.LANE.STAT_RXSTATE 3) 0 |>.set (Reg.QUAD.STAT_RUN 0) 1), 3, by decide +kernel⟩,
  ⟨(({ State.reset with inUse := [((Reg.LANE.CFG_RXMODE 3).addr, 0x33)] } : State).set (Reg.LANE.STAT_RUN 3) 1 |>.set
      (Reg.LANE.STAT_RXSTATE 3) 2 |>.set (Reg.QUAD.STAT_RUN 0) 1), 3, by decide +kernel⟩,
  ⟨(({ State.reset with inUse := [((Reg.LANE.CFG_RXMODE 3).addr, 0x33)] } : State).set (Reg.LANE.STAT_RUN 3) 1 |>.set
      (Reg.LANE.STAT_RXSTATE 3) 0), 3, by decide +kernel⟩,
  ⟨(({ State.reset with inUse := [((Reg.LANE.CFG_RXMODE 3).addr, 0x33)] } : State).set (Reg.LANE.STAT_RUN 3) 1 |>.set
      (Reg.LANE.STAT_RXSTATE 3) 1), 3, by decide +kernel⟩,
  ⟨(({ State.reset with inUse := [((Reg.LANE.CFG_RXMODE 3).addr, 0x11)] } : State).set (Reg.LANE.STAT_RUN 3) 1 |>.set
      (Reg.LANE.STAT_RXSTATE 3) 1 |>.set (Reg.SDI.STAT_RUN (sdiPage 3)) 1 |>.set (Reg.SDI.RXCFG_RATES (sdiPage 3)) 15), 3,
      by decide +kernel⟩,
  ⟨(({ State.reset with inUse := [((Reg.LANE.CFG_RXMODE 3).addr, 0x33)] } : State).set (Reg.LANE.STAT_RUN 3) 1 |>.set
      (Reg.LANE.STAT_RXSTATE 3) 0), 3, by decide +kernel⟩,
  ⟨(({ State.reset with inUse := [((Reg.LANE.CFG_RXMODE 3).addr, 0x10022)] } : State).set (Reg.LANE.STAT_RUN 3) 1 |>.set
      (Reg.LANE.STAT_RXSTATE 3) 1), 3, by decide +kernel⟩,
  ⟨(({ State.reset with inUse := [((Reg.LANE.CFG_RXMODE 3).addr, 0x44)] } : State).set (Reg.LANE.STAT_RUN 3) 1 |>.set
      (Reg.LANE.STAT_RXSTATE 3) 4), 3, by decide +kernel⟩,
  ⟨(({ State.reset with inUse := [((Reg.LANE.CFG_RXMODE 3).addr, 0x44)] } : State).set (Reg.LANE.STAT_RUN 3) 1 |>.set
      (Reg.LANE.STAT_RXSTATE 3) 1), 3, by decide +kernel⟩,
  ⟨(({ State.reset with inUse := [((Reg.LANE.CFG_RXMODE 3).addr, 0x10033)] } : State).set (Reg.LANE.STAT_RUN 3) 1 |>.set
      (Reg.LANE.STAT_RXSTATE 3) 2), 3, by decide +kernel⟩,
  ⟨(({ State.reset with inUse := [((Reg.LANE.CFG_RXMODE 3).addr, 0x33)] } : State).set (Reg.LANE.STAT_RUN 3) 1 |>.set
      (Reg.LANE.STAT_RXSTATE 3) 3), 3, by decide +kernel⟩,
  ⟨(({ State.reset with inUse := [((Reg.LANE.CFG_RXMODE 3).addr, 0x33)] } : State).set (Reg.LANE.STAT_RUN 3) 1 |>.set
      (Reg.LANE.STAT_RXSTATE 3) 2), 3, by decide +kernel⟩,
  ⟨(({ State.reset with inUse := [((Reg.LANE.CFG_RXMODE 3).addr, 0x33)] } : State).set (Reg.LANE.STAT_RUN 3) 1 |>.set
      (Reg.LANE.STAT_RXSTATE 3) 3), 3, 17, by decide +kernel⟩,
  ⟨(({ State.reset with inUse := [((Reg.LANE.CFG_RXMODE 3).addr, 0x33)] } : State).set (Reg.LANE.STAT_RUN 3) 1 |>.set
      (Reg.LANE.STAT_RXSTATE 3) 3), 3, 16, by decide +kernel⟩,
  ⟨(({ State.reset with inUse := [((Reg.LANE.CFG_RXMODE 3).addr, 0x11)] } : State).set (Reg.LANE.STAT_RUN 3) 1 |>.set
      (Reg.LANE.STAT_RXSTATE 3) 3), 3, by decide +kernel⟩,
  ⟨(({ State.reset with inUse := [((Reg.LANE.CFG_RXMODE 3).addr, 0x33)] } : State).set (Reg.LANE.STAT_RUN 3) 1 |>.set
      (Reg.LANE.STAT_RXSTATE 3) 2), 3, by decide +kernel⟩,
  ⟨(({ State.reset with inUse := [((Reg.LANE.CFG_RXMODE 3).addr, 0x33)] } : State).set (Reg.LANE.STAT_RUN 3) 1 |>.set
      (Reg.LANE.STAT_RXSTATE 3) 3) |>.updLane 3 fun x => { x with good := 7 }, 3, ⟨(List.replicate 15 0 ++ [BitVec.ofNat 8
      (crcBytes 8 7 0 (List.replicate 15 0))]), 0, 5, none, 0⟩, by decide +kernel⟩,
  ⟨(({ State.reset with inUse := [((Reg.LANE.CFG_RXMODE 3).addr, 0x33)] } : State).set (Reg.LANE.STAT_RUN 3) 1 |>.set
      (Reg.LANE.STAT_RXSTATE 3) 3), 3, ⟨(List.replicate 15 0 ++ [BitVec.ofNat 8 (crcBytes 8 7 0 (List.replicate 15 0))]),
      0, 5, none, 0⟩, by decide +kernel⟩,
  ⟨(({ State.reset with inUse := [((Reg.LANE.CFG_RXMODE 3).addr, 0x33)] } : State).set (Reg.LANE.STAT_RUN 3) 1 |>.set
      (Reg.LANE.STAT_RXSTATE 3) 4), 3, ⟨List.replicate 16 1, 0, 5, none, 0⟩, by decide +kernel⟩,
  ⟨(({ State.reset with inUse := [((Reg.LANE.CFG_RXMODE 3).addr, 0x33)] } : State).set (Reg.LANE.STAT_RUN 3) 1 |>.set
      (Reg.LANE.STAT_RXSTATE 3) 4) |>.updLane 3 fun x => { x with bad := 6 }, 3, ⟨List.replicate 16 1, 0, 5, none, 0⟩,
      by decide +kernel⟩,
  ⟨(({ State.reset with inUse := [((Reg.LANE.CFG_RXMODE 3).addr, 0x33)] } : State).set (Reg.LANE.STAT_RUN 3) 1 |>.set
      (Reg.LANE.STAT_RXSTATE 3) 4), 3, ⟨(List.replicate 15 0 ++ [BitVec.ofNat 8 (crcBytes 8 7 0 (List.replicate 15 0))]),
      0, 5, none, 2⟩, by decide +kernel⟩,
  ⟨(({ State.reset with fab := { State.reset.fab with ing := [(7, State.Ingress.fresh 0x1000000 false)] }, inUse := [((Reg.LANE.CFG_RXMODE 3).addr, 0x33), ((Reg.PROV.LINK_CHECK 3).addr, BitVec.ofNat 32 (2 ^ (Reg.PROV.LINK_CHECK 3).lo))] }
      : State).set (Reg.LANE.STAT_RUN 3) 1 |>.set (Reg.LANE.STAT_RXSTATE 3) 4 |>.set (Reg.FAB.ISE_HANDLE 7)
      (State.mkHandle 1 5 1) |>.set (Reg.FAB.ISE_ALIGN_STATE 7) 1 |>.updLane 3 fun x =>
      { x with ents := [7, 8, 1, 2], seq := [(0, 4)] }), 3, 7, ⟨(List.replicate 15 0 ++ [BitVec.ofNat 8 (crcBytes 8 7 0
      (List.replicate 15 0))]), 0, 5, (some ⟨0, ⟨0x1000000, some ⟨9, 9, 4, 0⟩, 0, false, [], []⟩⟩), 0⟩, ⟨0, ⟨0x1000000,
      some ⟨9, 9, 4, 0⟩, 0, false, [], []⟩⟩, by decide +kernel⟩,
  ⟨(({ State.reset with fab := { State.reset.fab with ing := [(7, State.Ingress.fresh 0x1000000 false)] }, inUse := [((Reg.LANE.CFG_RXMODE 3).addr, 0x33), ((Reg.PROV.LINK_CHECK 3).addr, BitVec.ofNat 32 (2 ^ (Reg.PROV.LINK_CHECK 3).lo))] }
      : State).set (Reg.LANE.STAT_RUN 3) 1 |>.set (Reg.LANE.STAT_RXSTATE 3) 4 |>.set (Reg.FAB.ISE_HANDLE 7)
      (State.mkHandle 1 5 1) |>.set (Reg.FAB.ISE_ALIGN_STATE 7) 1 |>.updLane 3 fun x =>
      { x with ents := [7, 8, 1, 2], seq := [(0, 4)] }), 3, 7, ⟨(List.replicate 15 0 ++ [BitVec.ofNat 8 (crcBytes 8 7 0
      (List.replicate 15 0))]), 0, 5, (some ⟨16, ⟨0x1000000, some ⟨9, 9, 4, 0⟩, 0, false, [], []⟩⟩), 0⟩, ⟨16, ⟨0x1000000,
      some ⟨9, 9, 4, 0⟩, 0, false, [], []⟩⟩, by decide +kernel⟩,
  ⟨(({ State.reset with fab := { State.reset.fab with ing := [(7, State.Ingress.fresh 0x1200000 false)] }, inUse := [((Reg.LANE.CFG_RXMODE 3).addr, 0x33), ((Reg.PROV.LINK_CHECK 3).addr, BitVec.ofNat 32 (2 ^ (Reg.PROV.LINK_CHECK 3).lo))] }
      : State).set (Reg.LANE.STAT_RUN 3) 1 |>.set (Reg.LANE.STAT_RXSTATE 3) 4 |>.set (Reg.FAB.ISE_HANDLE 7)
      (State.mkHandle 1 5 1) |>.set (Reg.FAB.ISE_ALIGN_STATE 7) 1 |>.updLane 3 fun x =>
      { x with ents := [7, 8, 1, 2], seq := [(0, 4)] }), 3, 7, ⟨(List.replicate 15 0 ++ [BitVec.ofNat 8 (crcBytes 8 7 0
      (List.replicate 15 0))]), 0, 5, (some ⟨0, ⟨0x1000000, some ⟨9, 9, 4, 0⟩, 0, false, [], []⟩⟩), 0⟩, ⟨0, ⟨0x1000000,
      some ⟨9, 9, 4, 0⟩, 0, false, [], []⟩⟩, by decide +kernel⟩,
  ⟨(({ State.reset with inUse := [((Reg.LANE.CFG_RXMODE 3).addr, 0x40033)] } : State).set (Reg.LANE.STAT_RUN 3) 1 |>.set
      (Reg.LANE.STAT_RXSTATE 3) 3 |> fun s => { s with now := 9612 }), 3, by decide +kernel⟩,
  ⟨(({ State.reset with inUse := [((Reg.LANE.CFG_RXMODE 3).addr, 0x40033)] } : State).set (Reg.LANE.STAT_RUN 3) 1 |>.set
      (Reg.LANE.STAT_RXSTATE 3) 3), 3, by decide +kernel⟩,
  ⟨(({ State.reset with inUse := [((Reg.LANE.CFG_RXMODE 3).addr, 0x33)] } : State).set (Reg.LANE.STAT_RUN 3) 1 |>.set
      (Reg.LANE.STAT_RXSTATE 3) 3), 3, by decide +kernel⟩,
  ⟨(({ State.reset with inUse := [((Reg.LANE.CFG_RXMODE 3).addr, 0x33)] } : State).set (Reg.LANE.STAT_RUN 3) 1 |>.set
      (Reg.LANE.STAT_RXSTATE 3) 3 |> fun s => { s with now := 4000 }), 3, by decide +kernel⟩,
  ⟨(({ State.reset with inUse := [((Reg.LANE.CFG_RXMODE 3).addr, 0x44)] } : State).set (Reg.LANE.STAT_RUN 3) 1 |>.set
      (Reg.LANE.STAT_RXSTATE 3) 3 |> fun (s : State) => { s with now := 50000, twin := { s.twin with auth := true } }).set
      Reg.TWIN.CARRIED_OWN 256, 3, by decide +kernel⟩⟩

/-- States and operands that meet the hypotheses of each clause of `Obligations.LaneTransmitAndConfiguration`. -/
theorem witness_lane_transmit_and_configuration :
(∃ (s : State) (q p : Nat), q < 128 ∧ p < 2 ∧ s.get (Reg.QUAD.STAT_RUN q) = 1 ∧ s.get (State.pllLockF q p) = 1 ∧ s.fab.egr
      = []) ∧
(∃ (s : State) (q p e : Nat), q < 128 ∧ p < 2 ∧ e < 8192 ∧ s.get (Reg.QUAD.STAT_RUN q) = 1 ∧ s.get (State.pllLockF q p) =
      1 ∧ s.pllOutputs q p = [e] ∧ s.isChecked e = true ∧ s.get Reg.PROV.CTRL_EN = 1 ∧ (s.egr e).failed = none ∧
      (Assoc.find s.fab.egr e).isSome = true) ∧
(∃ (s : State) (q p : Nat), (s.get (Reg.QUAD.STAT_RUN q) = 0 ∨ s.get (State.pllLockF q p) = 0)) ∧
(∃ (s : State) (q p : Nat), q < 128 ∧ p < 2 ∧ s.get (Reg.QUAD.STAT_RUN q) = 1 ∧ s.get (State.pllRetuneF q p) = 0 ∧ (∀ k ∈
      List.range 4, (s.laneHw (4 * q + k)).sigWaits = none)) ∧
(∃ (s : State) (q p : Nat), (s.get (Reg.QUAD.STAT_RUN q) = 0 ∨ s.get (State.pllRetuneF q p) = 1)) ∧
(∃ (s : State) (q p : Nat), q < 128 ∧ p < 2 ∧ s.get (Reg.QUAD.STAT_RUN q) = 1 ∧ s.get (State.pllLockF q p) = 0 ∧
      s.pllOverdue q p = true) ∧
(∃ (s : State) (q p : Nat), (s.get (Reg.QUAD.STAT_RUN q) = 0 ∨ s.get (State.pllLockF q p) = 1 ∨ s.pllOverdue q p = false)) ∧
(∃ (s : State) (m n : Nat) (data : Word), Quiet m s ∧ n < 512 ∧ State.txeqOk data.toNat = true) ∧
(∃ (s : State) (m n : Nat) (data : Word), Quiet m s ∧ n < 512 ∧ State.txeqOk data.toNat = false) ∧
(∃ (s : State) (n c d e : Nat) (lim : Bool), n < 512 ∧ s.get (Reg.LANE.STAT_RUN n) = 1 ∧ s.get (Reg.LANE.STAT_CDRLOCK
      (s.pinLane n)) = 1 ∧ s.get (Reg.LANE.RXEQCTL_OVERRIDE n) = 0 ∧ s.get (Reg.LANE.RXEQCTL_FREEZE n) = 0 ∧ lim =
      (State.atLimit c d e && decide ((s.laneHw n).lockAt + 100000000 ≤ s.now))) ∧
(∃ (s : State) (n : Nat), (s.get (Reg.LANE.STAT_RUN n) = 0 ∨ s.get (Reg.LANE.STAT_CDRLOCK (s.pinLane n)) = 0 ∨ s.get
      (Reg.LANE.RXEQCTL_OVERRIDE n) = 1 ∨ s.get (Reg.LANE.RXEQCTL_FREEZE n) = 1)) ∧
(∃ (s : State) (n : Nat), n < 512 ∧ s.get (Reg.LANE.STAT_RUN n) = 1 ∧ s.get (Reg.LANE.STAT_CDRLOCK (s.pinLane n)) = 1 ∧
      (s.laneHw n).eyeAt + 1000000 ≤ s.now) ∧
(∃ (s : State) (n : Nat), (s.get (Reg.LANE.STAT_RUN n) = 0 ∨ s.get (Reg.LANE.STAT_CDRLOCK (s.pinLane n)) = 0 ∨ s.now <
      (s.laneHw n).eyeAt + 1000000)) ∧
(∃ (s : State) (n c : Nat), n < 512 ∧ s.get (Reg.LANE.STAT_RUN n) = 1 ∧ (s.get (Reg.LANE.STAT_CDRLOCK n) = 1 ∨ s.use
      (Reg.LANE.CFG_LOOP (s.pinLane n)) = 2) ∧ s.use (Reg.LANE.PRBS_RXCHK n) = 1 ∧ s.get (Reg.LANE.PRBS_LOCK n) = 0 ∧ 64 ≤
      c) ∧
(∃ (s : State) (n : Nat), n < 512 ∧ s.get (Reg.LANE.STAT_RUN n) = 1 ∧ (s.get (Reg.LANE.STAT_CDRLOCK n) = 1 ∨ s.use
      (Reg.LANE.CFG_LOOP (s.pinLane n)) = 2) ∧ s.use (Reg.LANE.PRBS_RXCHK n) = 1 ∧ s.get (Reg.LANE.PRBS_LOCK n) = 1) ∧
(∃ (s : State) (n c : Nat), (s.get (Reg.LANE.STAT_RUN n) = 0 ∨ s.use (Reg.LANE.PRBS_RXCHK n) = 0 ∨ (s.get
      (Reg.LANE.STAT_CDRLOCK n) = 0 ∧ s.use (Reg.LANE.CFG_LOOP (s.pinLane n)) ≠ 2) ∨ (s.get (Reg.LANE.PRBS_LOCK n) = 0 ∧ c
      < 64))) ∧
(∃ (s : State) (m n : Nat) (data : Word), Quiet m s ∧ n < 512 ∧ s.laneCfgRefused n data = true) ∧
(∃ (s : State) (m n : Nat) (data : Word), Quiet m s ∧ n < 512 ∧ s.get (Reg.LANE.CTRL_EN n) = 0 ∧ s.laneCfgRefused n data =
      false) ∧
(∃ (s : State) (m n : Nat) (data : Word), Quiet m s ∧ n < 512 ∧ s.get (Reg.LANE.CTRL_EN n) = 1 ∧ s.laneCfgRefused n data =
      false) ∧
(∃ (n : Nat), 512 ≤ n) :=
  ⟨⟨(State.reset.set (Reg.QUAD.STAT_RUN 3) 1 |>.set (Reg.QUAD.PLLA_LOCK 3) 1), 3, 0, by decide +kernel⟩,
  ⟨(({ State.reset with fab := { State.reset.fab with egr := [(4, State.Egress.fresh 0x1000000 false)] } } : State).set
      (Reg.FAB.ESE_CFG_VALID 4) 1 |>.set (Reg.FAB.ESE_HANDLE 4) (State.mkHandle 2 3 1) |>.set Reg.PROV.CTRL_EN 1 |>.set
      (Reg.QUAD.STAT_RUN 0) 1 |>.set (Reg.QUAD.PLLA_LOCK 0) 1), 0, 0, 4, by decide +kernel⟩,
  ⟨(State.reset.set (Reg.QUAD.STAT_RUN 3) 1), 3, 1, by decide +kernel⟩,
  ⟨(State.reset.set (Reg.QUAD.STAT_RUN 3) 1), 3, 0, by decide +kernel⟩,
  ⟨State.reset, 3, 0, by decide +kernel⟩,
  ⟨(({ State.reset with now := 10000000 } : State).set (Reg.QUAD.STAT_RUN 3) 1), 3, 1, by decide +kernel⟩,
  ⟨State.reset, 3, 0, by decide +kernel⟩,
  ⟨State.reset, 0, 3, 0x00023003, by decide +kernel⟩,
  ⟨State.reset, 0, 3, 0x0003000F, by decide +kernel⟩,
  ⟨(({ State.reset with inUse := [((Reg.LANE.CFG_RXMODE 3).addr, 0x33)] } : State).set (Reg.LANE.STAT_RUN 3) 1 |>.set
      (Reg.LANE.STAT_RXSTATE 3) 2 |>.set (Reg.LANE.STAT_CDRLOCK 3) 1 |> fun s => { s with now := 100000000 }), 3, 20, 5,
      6, true, by decide +kernel⟩,
  ⟨(({ State.reset with inUse := [((Reg.LANE.CFG_RXMODE 3).addr, 0x33)] } : State).set (Reg.LANE.STAT_RUN 3) 1 |>.set
      (Reg.LANE.STAT_RXSTATE 3) 2), 3, by decide +kernel⟩,
  ⟨(({ State.reset with inUse := [((Reg.LANE.CFG_RXMODE 3).addr, 0x33)] } : State).set (Reg.LANE.STAT_RUN 3) 1 |>.set
      (Reg.LANE.STAT_RXSTATE 3) 2 |>.set (Reg.LANE.STAT_CDRLOCK 3) 1 |> fun s => { s with now := 1000000 }), 3,
      by decide +kernel⟩,
  ⟨(({ State.reset with inUse := [((Reg.LANE.CFG_RXMODE 3).addr, 0x33)] } : State).set (Reg.LANE.STAT_RUN 3) 1 |>.set
      (Reg.LANE.STAT_RXSTATE 3) 2), 3, by decide +kernel⟩,
  ⟨(({ State.reset with inUse := [((Reg.LANE.CFG_RXMODE 3).addr, 0x33), ((Reg.LANE.PRBS_RXCHK 3).addr, 1)] } : State).set
      (Reg.LANE.STAT_RUN 3) 1 |>.set (Reg.LANE.STAT_RXSTATE 3) 2 |>.set (Reg.LANE.STAT_CDRLOCK 3) 1), 3, 64,
      by decide +kernel⟩,
  ⟨(({ State.reset with inUse := [((Reg.LANE.CFG_RXMODE 3).addr, 0x33), ((Reg.LANE.PRBS_RXCHK 3).addr, 1)] } : State).set
      (Reg.LANE.STAT_RUN 3) 1 |>.set (Reg.LANE.STAT_RXSTATE 3) 2 |>.set (Reg.LANE.STAT_CDRLOCK 3) 1 |>.set
      (Reg.LANE.PRBS_LOCK 3) 1), 3, by decide +kernel⟩,
  ⟨(({ State.reset with inUse := [((Reg.LANE.CFG_RXMODE 3).addr, 0x33)] } : State).set (Reg.LANE.STAT_RUN 3) 1 |>.set
      (Reg.LANE.STAT_RXSTATE 3) 2 |>.set (Reg.LANE.STAT_CDRLOCK 3) 1), 3, 64, by decide +kernel⟩,
  ⟨State.reset, 0, 3, 0x44, by decide +kernel⟩,
  ⟨State.reset, 0, 3, 0x40033, by decide +kernel⟩,
  ⟨State.reset.set (Reg.LANE.CTRL_EN 3) 1, 0, 3, 0x40033, by decide +kernel⟩,
  ⟨512, by decide +kernel⟩⟩

/-- States and operands that meet the hypotheses of each clause of `Obligations.MicaCommits`. -/
theorem witness_mica_commits :
(∃ (s : State) (m g : Nat) (data : Word) (c : Bool), Quiet m s ∧ s.micaRuns g = true ∧ bit data.toNat 0 = true ∧ s.micaWhy
      g = 0 ∧ ((s.micaHw g).pending.map MicaPending.flatten).getD false = false ∧ c = (s.micaActive g).changes (s.micaNext
      g)) ∧
(∃ (s : State) (m g : Nat) (data : Word), Quiet m s ∧ s.micaRuns g = true ∧ bit data.toNat 0 = true ∧ s.micaWhy g = 0 ∧
      ((s.micaHw g).pending.map MicaPending.flatten).getD false = true) ∧
(∃ (s : State) (m g why : Nat) (data : Word), Quiet m s ∧ s.micaRuns g = true ∧ bit data.toNat 0 = true ∧ why = s.micaWhy
      g ∧ why ≠ 0) ∧
(∃ (s : State) (m g : Nat) (data : Word), Quiet m s ∧ s.micaRuns g = true ∧ bit data.toNat 0 = true ∧ ((s.micaHw
      g).pending.map MicaPending.flatten).getD false = false) ∧
(∃ (s : State) (m g : Nat) (data : Word), Quiet m s ∧ s.micaRuns g = true ∧ bit data.toNat 0 = true ∧ ((s.micaHw
      g).pending.map MicaPending.flatten).getD false = true) ∧
(∃ (s : State) (m g : Nat) (data : Word), Quiet m s ∧ (8 ≤ g ∨ s.micaRuns g = false ∨ bit data.toNat 0 = false)) ∧
(∃ (s : State) (g : Nat) (p : MicaPending), g < 8 ∧ (s.micaHw g).pending = some p ∧ p.flatten = true ∧ p.since = none) ∧
(∃ (s : State) (g : Nat), (((s.micaHw g).pending.map fun p => p.flatten && p.since.isNone).getD false = false)) ∧
(∃ (s : State) (g a : Nat) (x : MicaSet) (w : List Nat), s.micaRuns g = true ∧ (s.micaHw g).pending = some ⟨some x, false,
      some a, w, none⟩ ∧ (s.micaHw g).queued = none ∧ (s.micaHw g).loaded = none ∧ a + 10000 ≤ s.now) ∧
(∃ (s : State) (g a : Nat) (x : MicaSet) (w : List Nat) (n : List Rgb × List Nat), s.micaRuns g = true ∧ (s.micaHw
      g).pending = some ⟨some x, true, some a, w, none⟩ ∧ (s.micaHw g).newSlate = some n ∧ (s.micaHw g).queued = none ∧
      (s.micaHw g).loaded = none ∧ a + 10000 ≤ s.now) ∧
(∃ (s : State) (g a : Nat) (p : MicaPending) (r : MicaReq), s.micaRuns g = true ∧ (s.micaHw g).pending = some p ∧ p.since
      = some a ∧ p.early = none ∧ a + 10000 ≤ s.now ∧ (s.micaHw g).queued = some r) ∧
(∃ (s : State) (g : Nat), s.micaRuns g = true ∧ (((s.micaHw g).pending.map fun p => (p.early.map fun q => decide (s.now <
      q.2.2 + 10000)).getD true && (p.since.map fun a => decide (s.now < a + 10000)).getD true).getD true = true) ∧
      (s.micaHw g).loaded = none) ∧
(∃ (s : State) (g : Nat) (x : FlintBank), s.micaRuns g = true ∧ (s.micaHw g).pending = none ∧ (s.micaHw g).loaded = some
      x) ∧
(∃ (s : State) (g : Nat), s.micaRuns g = false) ∧
(∃ (s : State) (m g : Nat) (data : Word), Quiet m s ∧ g < 8 ∧ s.armed m = true ∧ bit data.toNat 0 = true ∧ s.get
      (Reg.MICA.STAT_LOADPEND g) = 0) ∧
(∃ (s : State) (m g : Nat) (data : Word), Quiet m s ∧ g < 8 ∧ s.armed m = true ∧ bit data.toNat 0 = true ∧ s.get
      (Reg.MICA.STAT_LOADPEND g) = 1) ∧
(∃ (s : State) (m g : Nat) (data : Word), Quiet m s ∧ g < 8 ∧ (s.armed m = false ∨ bit data.toNat 0 = false)) ∧
(∃ (s : State) (g : Nat) (r : Nat × FlintBank), (r = flintJudge (s.get (Reg.MICA.OUTFMT g)) (s.get (Reg.MICA.FLINTLOAD_CRC
      g)) (fun k => s.flag (Reg.FAB.ESE_CFG_VALID k)) (Memory.readN s.dram.mem (s.flintAddr g) (0xFD40 + 64 * 1024 + 8 *
      16))) ∧ g < 8 ∧ s.get (Reg.MICA.STAT_LOADPEND g) = 1 ∧ (s.micaHw g).loaded = none) ∧
(∃ (s : State) (g : Nat), (s.get (Reg.MICA.STAT_LOADPEND g) = 0 ∨ (s.micaHw g).loaded.isSome = true)) ∧
(∃ (s : State) (g got : Nat), s.micaRuns g = true ∧ s.get (Reg.MICA.FLINT_EN g) = 1 ∧ got % 2 ^ 32 ≠ s.get
      (Reg.MICA.FLINT_SIGEXP g)) ∧
(∃ (s : State) (g got : Nat), (s.get (Reg.MICA.FLINT_EN g) = 0 ∨ got % 2 ^ 32 = s.get (Reg.MICA.FLINT_SIGEXP g))) ∧
(∃ (s : State) (g : Nat), ((s.micaHw g).latched = none ∨ s.chanIng (State.handleIdx (s.get (Reg.MICA.CHAN g))) = none)) ∧
(∃ (s : State) (g i : Nat) (l : MicaLatch) (x : Ingress), s.micaRuns g = true ∧ (s.micaHw g).latched = some l ∧ s.chanIng
      (State.handleIdx (s.get (Reg.MICA.CHAN g))) = some i ∧ i < 8192 ∧ Assoc.find s.fab.ing i = some x ∧ x.moveTo = none
      ∧ l.en = false ∧ (s.micaHw g).lutBad = [] ∧ s.dramUp = true) ∧
(∃ (s : State) (g i : Nat) (l : MicaLatch) (x : Ingress) (fb : FlintBank) (q : List Pix × List Pix), q = flintPicture fb
      l.alarms (s.get (Reg.MICA.OUTFMT g)) (composePicture l (s.get (Reg.MICA.OUTFMT g)) l.mem) ∧ s.micaRuns g = true ∧
      (s.micaHw g).latched = some l ∧ s.chanIng (State.handleIdx (s.get (Reg.MICA.CHAN g))) = some i ∧ i < 8192 ∧
      Assoc.find s.fab.ing i = some x ∧ x.moveTo = none ∧ l.en = true ∧ l.flint = some fb ∧ (s.micaHw g).lutBad = [] ∧
      (s.micaHw g).flintBad = false ∧ s.get (Reg.MICA.FLINT_STATE g) ≤ 1 ∧ s.dramUp = true) ∧
(∃ (s : State) (g i : Nat) (l : MicaLatch) (x : Ingress), s.micaRuns g = true ∧ (s.micaHw g).latched = some l ∧ s.chanIng
      (State.handleIdx (s.get (Reg.MICA.CHAN g))) = some i ∧ i < 8192 ∧ Assoc.find s.fab.ing i = some x ∧ x.moveTo = none
      ∧ l.en = true ∧ (2 ≤ s.get (Reg.MICA.FLINT_STATE g) ∨ (s.micaHw g).flintBad = true)) ∧
(∃ (s : State) (g i : Nat) (l : MicaLatch) (late : Bool), s.micaRuns g = true ∧ (s.micaHw g).latched = some l ∧ s.chanIng
      (State.handleIdx (s.get (Reg.MICA.CHAN g))) = some i ∧ (late = true ∨ s.dramUp = false)) ∧
(∃ (s : State) (g i k : Nat) (l : MicaLatch), s.micaRuns g = true ∧ (s.micaHw g).latched = some l ∧ s.chanIng
      (State.handleIdx (s.get (Reg.MICA.CHAN g))) = some i ∧ k < 4 ∧ s.get (Reg.MICA.REG_MODE g k) = 2 ∧ l.flint = none ∧
      (((s.micaHw g).regions.find? fun p => p.1 == k) = none) ∧ s.get (Reg.MICA.REG_EXPECT g k) ≠ regionCrc (s.get
      (Reg.MICA.OUTFMT g)) (s.get (Reg.MICA.REG_X g k)) (s.get (Reg.MICA.REG_Y g k)) (s.get (Reg.MICA.REG_W g k)) (s.get
      (Reg.MICA.REG_H g k)) (composePicture l (s.get (Reg.MICA.OUTFMT g)) l.mem)) :=
  ⟨⟨(({ State.reset with mica := { State.reset.mica with mica := [(2, State.MicaHw.fresh)], dec := [] }, chn := { State.reset.chn with chans := [] }, now := 0 }
      : State).set (Reg.MICA.CHAN 2) (State.mkHandle 8 9 1) |>.set (Reg.MICA.CTRL_EN 2) 1 |>.set (Reg.MICA.STAT_RUN 2) 1),
      0, 2, 1, false, by decide +kernel⟩,
  ⟨(({ State.reset with mica := { State.reset.mica with mica := [(2, { State.MicaHw.fresh with pending := some ⟨none, true, none, [], none⟩ })], dec := [] }, chn := { State.reset.chn with chans := [] }, now := 0 }
      : State).set (Reg.MICA.CHAN 2) (State.mkHandle 8 9 1) |>.set (Reg.MICA.CTRL_EN 2) 1 |>.set (Reg.MICA.STAT_RUN 2) 1),
      0, 2, 1, by decide +kernel⟩,
  ⟨(({ State.reset with mica := { State.reset.mica with mica := [(2, State.MicaHw.fresh)], dec := [] }, chn := { State.reset.chn with chans := [] }, now := 0 }
      : State).set (Reg.MICA.CHAN 2) (State.mkHandle 8 9 1) |>.set (Reg.MICA.CTRL_EN 2) 1 |>.set (Reg.MICA.STAT_RUN 2) 1
      |>.set (Reg.MICA.LAY_Z 2 4) 63), 0, 2, 1, 1, by decide +kernel⟩,
  ⟨(({ State.reset with mica := { State.reset.mica with mica := [(2, State.MicaHw.fresh)], dec := [] }, chn := { State.reset.chn with chans := [] }, now := 0 }
      : State).set (Reg.MICA.CHAN 2) (State.mkHandle 8 9 1) |>.set (Reg.MICA.CTRL_EN 2) 1 |>.set (Reg.MICA.STAT_RUN 2) 1),
      0, 2, 1, by decide +kernel⟩,
  ⟨(({ State.reset with mica := { State.reset.mica with mica := [(2, { State.MicaHw.fresh with pending := some ⟨none, true, none, [], none⟩ })], dec := [] }, chn := { State.reset.chn with chans := [] }, now := 0 }
      : State).set (Reg.MICA.CHAN 2) (State.mkHandle 8 9 1) |>.set (Reg.MICA.CTRL_EN 2) 1 |>.set (Reg.MICA.STAT_RUN 2) 1),
      0, 2, 1, by decide +kernel⟩,
  ⟨(({ State.reset with mica := { State.reset.mica with mica := [(2, State.MicaHw.fresh)], dec := [] }, chn := { State.reset.chn with chans := [] }, now := 0 }
      : State).set (Reg.MICA.CHAN 2) (State.mkHandle 8 9 1) |>.set (Reg.MICA.CTRL_EN 2) 1 |>.set (Reg.MICA.STAT_RUN 2) 1),
      0, 2, 2, by decide +kernel⟩,
  ⟨(({ State.reset with mica := { State.reset.mica with mica := [(2, { State.MicaHw.fresh with pending := some ⟨none, true, none, [], none⟩ })], dec := [] }, chn := { State.reset.chn with chans := [] }, now := 0 }
      : State).set (Reg.MICA.CHAN 2) (State.mkHandle 8 9 1) |>.set (Reg.MICA.CTRL_EN 2) 1 |>.set (Reg.MICA.STAT_RUN 2) 1),
      2, ⟨none, true, none, [], none⟩, by decide +kernel⟩,
  ⟨(({ State.reset with mica := { State.reset.mica with mica := [(2, State.MicaHw.fresh)], dec := [] }, chn := { State.reset.chn with chans := [] }, now := 0 }
      : State).set (Reg.MICA.CHAN 2) (State.mkHandle 8 9 1) |>.set (Reg.MICA.CTRL_EN 2) 1 |>.set (Reg.MICA.STAT_RUN 2) 1),
      2, by decide +kernel⟩,
  ⟨(({ State.reset with mica := { State.reset.mica with mica := [(2, { State.MicaHw.fresh with pending := some ⟨some ⟨[], 7, []⟩, false, some 5, [], none⟩ })], dec := [] }, chn := { State.reset.chn with chans := [] }, now := 10005 }
      : State).set (Reg.MICA.CHAN 2) (State.mkHandle 8 9 1) |>.set (Reg.MICA.CTRL_EN 2) 1 |>.set (Reg.MICA.STAT_RUN 2) 1),
      2, 5, ⟨[], 7, []⟩, [], by decide +kernel⟩,
  ⟨(({ State.reset with mica := { State.reset.mica with mica := [(2, { State.MicaHw.fresh with pending := some ⟨some ⟨[], 7, []⟩, true, some 5, [], none⟩, newSlate := some ([], [3]) })], dec := [] }, chn := { State.reset.chn with chans := [] }, now := 10005 }
      : State).set (Reg.MICA.CHAN 2) (State.mkHandle 8 9 1) |>.set (Reg.MICA.CTRL_EN 2) 1 |>.set (Reg.MICA.STAT_RUN 2) 1),
      2, 5, ⟨[], 7, []⟩, [], ([], [3]), by decide +kernel⟩,
  ⟨(({ State.reset with mica := { State.reset.mica with mica := [(2, { State.MicaHw.fresh with pending := some ⟨some ⟨[], 7, []⟩, false, some 5, [], none⟩, queued := some ⟨none, true, []⟩ })], dec := [] }, chn := { State.reset.chn with chans := [] }, now := 10005 }
      : State).set (Reg.MICA.CHAN 2) (State.mkHandle 8 9 1) |>.set (Reg.MICA.CTRL_EN 2) 1 |>.set (Reg.MICA.STAT_RUN 2) 1),
      2, 5, ⟨some ⟨[], 7, []⟩, false, some 5, [], none⟩, ⟨none, true, []⟩, by decide +kernel⟩,
  ⟨(({ State.reset with mica := { State.reset.mica with mica := [(2, State.MicaHw.fresh)], dec := [] }, chn := { State.reset.chn with chans := [] }, now := 0 }
      : State).set (Reg.MICA.CHAN 2) (State.mkHandle 8 9 1) |>.set (Reg.MICA.CTRL_EN 2) 1 |>.set (Reg.MICA.STAT_RUN 2) 1),
      2, by decide +kernel⟩,
  ⟨(({ State.reset with mica := { State.reset.mica with mica := [(2, { State.MicaHw.fresh with loaded := some ⟨[], [], [], []⟩ })], dec := [] }, chn := { State.reset.chn with chans := [] }, now := 0 }
      : State).set (Reg.MICA.CHAN 2) (State.mkHandle 8 9 1) |>.set (Reg.MICA.CTRL_EN 2) 1 |>.set (Reg.MICA.STAT_RUN 2) 1),
      2, ⟨[], [], [], []⟩, by decide +kernel⟩,
  ⟨State.reset, 2, by decide +kernel⟩,
  ⟨((({ State.reset with mica := { State.reset.mica with mica := [(2, State.MicaHw.fresh)], dec := [] }, chn := { State.reset.chn with chans := [] }, now := 0 }
      : State).set (Reg.MICA.CHAN 2) (State.mkHandle 8 9 1) |>.set (Reg.MICA.CTRL_EN 2) 1 |>.set (Reg.MICA.STAT_RUN 2)
      1).unlockWrite 0 0xC3A5), 0, 2, 1, by decide +kernel⟩,
  ⟨((({ State.reset with mica := { State.reset.mica with mica := [(2, State.MicaHw.fresh)], dec := [] }, chn := { State.reset.chn with chans := [] }, now := 0 }
      : State).set (Reg.MICA.CHAN 2) (State.mkHandle 8 9 1) |>.set (Reg.MICA.CTRL_EN 2) 1 |>.set (Reg.MICA.STAT_RUN 2) 1
      |>.set (Reg.MICA.STAT_LOADPEND 2) 1).unlockWrite 0 0xC3A5), 0, 2, 1, by decide +kernel⟩,
  ⟨(({ State.reset with mica := { State.reset.mica with mica := [(2, State.MicaHw.fresh)], dec := [] }, chn := { State.reset.chn with chans := [] }, now := 0 }
      : State).set (Reg.MICA.CHAN 2) (State.mkHandle 8 9 1) |>.set (Reg.MICA.CTRL_EN 2) 1 |>.set (Reg.MICA.STAT_RUN 2) 1),
      0, 2, 1, by decide +kernel⟩,
  ⟨(({ State.reset with mica := { State.reset.mica with mica := [(2, State.MicaHw.fresh)], dec := [] }, chn := { State.reset.chn with chans := [] }, now := 0 }
      : State).set (Reg.MICA.CHAN 2) (State.mkHandle 8 9 1) |>.set (Reg.MICA.CTRL_EN 2) 1 |>.set (Reg.MICA.STAT_RUN 2) 1
      |>.set (Reg.MICA.STAT_LOADPEND 2) 1), 2, _, rfl, by decide +kernel⟩,
  ⟨(({ State.reset with mica := { State.reset.mica with mica := [(2, State.MicaHw.fresh)], dec := [] }, chn := { State.reset.chn with chans := [] }, now := 0 }
      : State).set (Reg.MICA.CHAN 2) (State.mkHandle 8 9 1) |>.set (Reg.MICA.CTRL_EN 2) 1 |>.set (Reg.MICA.STAT_RUN 2) 1),
      2, by decide +kernel⟩,
  ⟨(({ State.reset with mica := { State.reset.mica with mica := [(2, State.MicaHw.fresh)], dec := [] }, chn := { State.reset.chn with chans := [] }, now := 0 }
      : State).set (Reg.MICA.CHAN 2) (State.mkHandle 8 9 1) |>.set (Reg.MICA.CTRL_EN 2) 1 |>.set (Reg.MICA.STAT_RUN 2) 1
      |>.set (Reg.MICA.FLINT_EN 2) 1), 2, 7, by decide +kernel⟩,
  ⟨(({ State.reset with mica := { State.reset.mica with mica := [(2, State.MicaHw.fresh)], dec := [] }, chn := { State.reset.chn with chans := [] }, now := 0 }
      : State).set (Reg.MICA.CHAN 2) (State.mkHandle 8 9 1) |>.set (Reg.MICA.CTRL_EN 2) 1 |>.set (Reg.MICA.STAT_RUN 2) 1),
      2, 7, by decide +kernel⟩,
  ⟨(({ State.reset with mica := { State.reset.mica with mica := [(2, State.MicaHw.fresh)], dec := [] }, chn := { State.reset.chn with chans := [] }, now := 0 }
      : State).set (Reg.MICA.CHAN 2) (State.mkHandle 8 9 1) |>.set (Reg.MICA.CTRL_EN 2) 1 |>.set (Reg.MICA.STAT_RUN 2) 1),
      2, by decide +kernel⟩,
  ⟨((({ (({ State.reset with mica := { State.reset.mica with mica := [(2, { State.MicaHw.fresh with latched := some ⟨⟨[], 0, []⟩, none, [], none, false, [], [], []⟩ })], dec := [] }, chn := { State.reset.chn with chans := [] }, now := 0 } : State).set (Reg.MICA.CHAN 2) (State.mkHandle 8 9 1) |>.set (Reg.MICA.CTRL_EN 2) 1 |>.set (Reg.MICA.STAT_RUN 2) 1) with fab := { State.reset.fab with ing := [(7, State.Ingress.fresh 0x1000000 false)] } }
      : State).set (Reg.CHN.ENT_RES_INGV 9) 1 |>.set (Reg.CHN.ENT_RES_INGENT 9) 7 |>.set Reg.DRCC.STAT_RUN 1 |>.set
      Reg.DRCC.CTRL_EN 1)), 2, 7, ⟨⟨[], 0, []⟩, none, [], none, false, [], [], []⟩, State.Ingress.fresh 0x1000000 false,
      by decide +kernel⟩,
  ⟨((({ (({ State.reset with mica := { State.reset.mica with mica := [(2, { State.MicaHw.fresh with latched := some ⟨⟨[], 0, []⟩, none, [], (some ⟨[], [], [], []⟩), true, [], [], []⟩ })], dec := [] }, chn := { State.reset.chn with chans := [] }, now := 0 } : State).set (Reg.MICA.CHAN 2) (State.mkHandle 8 9 1) |>.set (Reg.MICA.CTRL_EN 2) 1 |>.set (Reg.MICA.STAT_RUN 2) 1) with fab := { State.reset.fab with ing := [(7, State.Ingress.fresh 0x1000000 false)] } }
      : State).set (Reg.CHN.ENT_RES_INGV 9) 1 |>.set (Reg.CHN.ENT_RES_INGENT 9) 7 |>.set Reg.DRCC.STAT_RUN 1 |>.set
      Reg.DRCC.CTRL_EN 1)), 2, 7, ⟨⟨[], 0, []⟩, none, [], (some ⟨[], [], [], []⟩), true, [], [], []⟩, State.Ingress.fresh
      0x1000000 false, ⟨[], [], [], []⟩, _, rfl, by decide +kernel⟩,
  ⟨((({ (({ State.reset with mica := { State.reset.mica with mica := [(2, { State.MicaHw.fresh with latched := some ⟨⟨[], 0, []⟩, none, [], none, true, [], [], []⟩ })], dec := [] }, chn := { State.reset.chn with chans := [] }, now := 0 } : State).set (Reg.MICA.CHAN 2) (State.mkHandle 8 9 1) |>.set (Reg.MICA.CTRL_EN 2) 1 |>.set (Reg.MICA.STAT_RUN 2) 1) with fab := { State.reset.fab with ing := [(7, State.Ingress.fresh 0x1000000 false)] } }
      : State).set (Reg.CHN.ENT_RES_INGV 9) 1 |>.set (Reg.CHN.ENT_RES_INGENT 9) 7 |>.set Reg.DRCC.STAT_RUN 1 |>.set
      Reg.DRCC.CTRL_EN 1) |>.set (Reg.MICA.FLINT_STATE 2) 2), 2, 7, ⟨⟨[], 0, []⟩, none, [], none, true, [], [], []⟩,
      State.Ingress.fresh 0x1000000 false, by decide +kernel⟩,
  ⟨((({ (({ State.reset with mica := { State.reset.mica with mica := [(2, { State.MicaHw.fresh with latched := some ⟨⟨[], 0, []⟩, none, [], none, false, [], [], []⟩ })], dec := [] }, chn := { State.reset.chn with chans := [] }, now := 0 } : State).set (Reg.MICA.CHAN 2) (State.mkHandle 8 9 1) |>.set (Reg.MICA.CTRL_EN 2) 1 |>.set (Reg.MICA.STAT_RUN 2) 1) with fab := { State.reset.fab with ing := [(7, State.Ingress.fresh 0x1000000 false)] } }
      : State).set (Reg.CHN.ENT_RES_INGV 9) 1 |>.set (Reg.CHN.ENT_RES_INGENT 9) 7 |>.set Reg.DRCC.STAT_RUN 1 |>.set
      Reg.DRCC.CTRL_EN 1)), 2, 7, ⟨⟨[], 0, []⟩, none, [], none, false, [], [], []⟩, true, by decide +kernel⟩,
  ⟨((({ (({ State.reset with mica := { State.reset.mica with mica := [(2, { State.MicaHw.fresh with latched := some ⟨⟨[], 0, []⟩, none, [], none, false, [], [], []⟩ })], dec := [] }, chn := { State.reset.chn with chans := [] }, now := 0 } : State).set (Reg.MICA.CHAN 2) (State.mkHandle 8 9 1) |>.set (Reg.MICA.CTRL_EN 2) 1 |>.set (Reg.MICA.STAT_RUN 2) 1) with fab := { State.reset.fab with ing := [(7, State.Ingress.fresh 0x1000000 false)] } }
      : State).set (Reg.CHN.ENT_RES_INGV 9) 1 |>.set (Reg.CHN.ENT_RES_INGENT 9) 7 |>.set Reg.DRCC.STAT_RUN 1 |>.set
      Reg.DRCC.CTRL_EN 1) |>.set (Reg.MICA.REG_MODE 2 1) 2 |>.set (Reg.MICA.REG_EXPECT 2 1) 7), 2, 7, 1, ⟨⟨[], 0, []⟩,
      none, [], none, false, [], [], []⟩, by decide +kernel, by decide +kernel, by decide +kernel, by decide +kernel,
      by decide +kernel, by decide +kernel, by decide +kernel, fun h => absurd (h.trans (Tests.regionCrc_none
      (by decide +kernel))) (by decide +kernel)⟩⟩

/-- States and operands that meet the hypotheses of each clause of `Obligations.MicaLayers`. -/
theorem witness_mica_layers :
(∃ (s : State) (m g : Nat), Quiet m s ∧ g < 8 ∧ s.get (Reg.MICA.LAYRES_BUSY g) = 1) ∧
(∃ (s : State) (m g : Nat), Quiet m s ∧ g < 8 ∧ s.get (Reg.MICA.LAYRES_BUSY g) = 0 ∧ s.get (Reg.MICA.CTRL_EN g) = 0) ∧
(∃ (s : State) (m g : Nat), Quiet m s ∧ g < 8 ∧ s.get (Reg.MICA.LAYRES_BUSY g) = 0 ∧ s.get (Reg.MICA.CTRL_EN g) = 1 ∧ 63 ≤
      (s.layArgs g).1) ∧
(∃ (s : State) (m g l : Nat), Quiet m s ∧ g < 8 ∧ s.get (Reg.MICA.LAYRES_BUSY g) = 0 ∧ s.get (Reg.MICA.CTRL_EN g) = 1 ∧ l
      = (s.layArgs g).1 ∧ l < 63 ∧ s.get (Reg.MICA.LAY_BOUND g l) = 1) ∧
(∃ (s : State) (m g l c : Nat), Quiet m s ∧ g < 8 ∧ s.get (Reg.MICA.LAYRES_BUSY g) = 0 ∧ s.get (Reg.MICA.CTRL_EN g) = 1 ∧
      l = (s.layArgs g).1 ∧ l < 63 ∧ s.get (Reg.MICA.LAY_BOUND g l) = 0 ∧ c = s.judgeBind g false ∧ c ≠ 0) ∧
(∃ (s : State) (m g l h e d : Nat), Quiet m s ∧ g < 8 ∧ s.get (Reg.MICA.LAYRES_BUSY g) = 0 ∧ s.get (Reg.MICA.CTRL_EN g) =
      1 ∧ l = (s.layArgs g).1 ∧ l < 63 ∧ h = (s.layArgs g).2.1 ∧ s.get (Reg.MICA.LAY_BOUND g l) = 0 ∧ s.judgeBind g false
      = 0 ∧ allocEntry s.egrUse (s.srcSize h) = some e ∧ ((List.range 256).find? (fun j => s.decFree j) = some d) ∧ e <
      8192) ∧
(∃ (s : State) (m g l : Nat), Quiet m s ∧ g < 8 ∧ s.get (Reg.MICA.LAYRES_BUSY g) = 0 ∧ s.get (Reg.MICA.CTRL_EN g) = 1 ∧ l
      = (s.layArgs g).1 ∧ l < 63 ∧ s.get (Reg.MICA.LAY_BOUND g l) = 0 ∧ s.judgeBind g false = 0) ∧
(∃ (s : State) (m g l : Nat), Quiet m s ∧ g < 8 ∧ s.get (Reg.MICA.LAYRES_BUSY g) = 0 ∧ s.get (Reg.MICA.CTRL_EN g) = 1 ∧ l
      = (s.layArgs g).1 ∧ l < 63 ∧ s.get (Reg.MICA.LAY_BOUND g l) = 0) ∧
(∃ (s : State) (m g l c : Nat), Quiet m s ∧ g < 8 ∧ s.get (Reg.MICA.LAYRES_BUSY g) = 0 ∧ s.get (Reg.MICA.CTRL_EN g) = 1 ∧
      l = (s.layArgs g).1 ∧ l < 63 ∧ s.get (Reg.MICA.LAY_BOUND g l) = 1 ∧ c = s.judgeBind g true ∧ c ≠ 0) ∧
(∃ (s : State) (m g l h d : Nat), Quiet m s ∧ g < 8 ∧ s.get (Reg.MICA.LAYRES_BUSY g) = 0 ∧ s.get (Reg.MICA.CTRL_EN g) = 1
      ∧ l = (s.layArgs g).1 ∧ l < 63 ∧ h = (s.layArgs g).2.1 ∧ s.get (Reg.MICA.LAY_BOUND g l) = 1 ∧ s.judgeBind g true = 0
      ∧ d = s.get (State.layDec g l)) ∧
(∃ (s : State) (m g l d : Nat), Quiet m s ∧ g < 8 ∧ s.get (Reg.MICA.LAYRES_BUSY g) = 0 ∧ s.get (Reg.MICA.CTRL_EN g) = 1 ∧
      l = (s.layArgs g).1 ∧ l < 63 ∧ s.get (Reg.MICA.LAY_BOUND g l) = 1 ∧ d = s.get (State.layDec g l)) ∧
(∃ (s : State) (d : Nat), (256 ≤ d ∨ s.get (Reg.DEC.VALID d) = 0 ∨ s.get (Reg.DEC.SRC d) = 0 ∨ s.get
      (Reg.FAB.ESE_SRC_SRCVALID (s.get (Reg.DEC.ESE d))) = 0 ∨ (s.ing (s.get (Reg.FAB.ESE_SRC_ENTRY (s.get (Reg.DEC.ESE
      d))))).cur = none ∨ (s.ing (s.get (Reg.FAB.ESE_SRC_ENTRY (s.get (Reg.DEC.ESE d))))).at_ + 6000 < (s.decHw d).from_)) ∧
(∃ (s : State) (d e i why : Nat) (f : Frame) (late : Bool), d < 256 ∧ s.get (Reg.DEC.VALID d) = 1 ∧ s.get (Reg.DEC.SRC d)
      ≠ 0 ∧ e = s.get (Reg.DEC.ESE d) ∧ s.get (Reg.FAB.ESE_SRC_SRCVALID e) = 1 ∧ i = s.get (Reg.FAB.ESE_SRC_ENTRY e) ∧
      (s.ing i).cur = some f ∧ (s.decHw d).from_ ≤ (s.ing i).at_ + 6000 ∧ why = s.decVerdict f (s.get (Reg.DEC.SRC d))
      (s.decHw d).base ∧ (late = true ∨ s.dramUp = false) ∧ why = 0) ∧
(∃ (s : State) (d e i g l why : Nat) (f : Frame) (late : Bool), d < 256 ∧ s.get (Reg.DEC.VALID d) = 1 ∧ s.get (Reg.DEC.SRC
      d) ≠ 0 ∧ e = s.get (Reg.DEC.ESE d) ∧ s.get (Reg.FAB.ESE_SRC_SRCVALID e) = 1 ∧ i = s.get (Reg.FAB.ESE_SRC_ENTRY e) ∧
      (s.ing i).cur = some f ∧ (s.decHw d).from_ ≤ (s.ing i).at_ + 6000 ∧ why = s.decVerdict f (s.get (Reg.DEC.SRC d))
      (s.decHw d).base ∧ g = s.get (Reg.DEC.ENGINE d) ∧ l = s.get (Reg.DEC.LAYER d) ∧ g < 8 ∧ l < 63 ∧ (late = true ∨
      s.dramUp = false) ∧ why ≠ 0) ∧
(∃ (s : State) (d e i g l why : Nat) (f : Frame) (late : Bool), d < 256 ∧ s.get (Reg.DEC.VALID d) = 1 ∧ s.get (Reg.DEC.SRC
      d) ≠ 0 ∧ e = s.get (Reg.DEC.ESE d) ∧ s.get (Reg.FAB.ESE_SRC_SRCVALID e) = 1 ∧ i = s.get (Reg.FAB.ESE_SRC_ENTRY e) ∧
      (s.ing i).cur = some f ∧ (s.decHw d).from_ ≤ (s.ing i).at_ + 6000 ∧ why = s.decVerdict f (s.get (Reg.DEC.SRC d))
      (s.decHw d).base ∧ g = s.get (Reg.DEC.ENGINE d) ∧ l = s.get (Reg.DEC.LAYER d) ∧ g < 8 ∧ l < 63 ∧ late = false ∧
      s.dramUp = true ∧ why = 0) ∧
(∃ (s : State) (d e i g l why : Nat) (f : Frame) (late : Bool), d < 256 ∧ s.get (Reg.DEC.VALID d) = 1 ∧ s.get (Reg.DEC.SRC
      d) ≠ 0 ∧ e = s.get (Reg.DEC.ESE d) ∧ s.get (Reg.FAB.ESE_SRC_SRCVALID e) = 1 ∧ i = s.get (Reg.FAB.ESE_SRC_ENTRY e) ∧
      (s.ing i).cur = some f ∧ (s.decHw d).from_ ≤ (s.ing i).at_ + 6000 ∧ why = s.decVerdict f (s.get (Reg.DEC.SRC d))
      (s.decHw d).base ∧ g = s.get (Reg.DEC.ENGINE d) ∧ l = s.get (Reg.DEC.LAYER d) ∧ g < 8 ∧ l < 63 ∧ late = false ∧
      s.dramUp = true ∧ why ≠ 0) ∧
(∃ (s : State) (g l : Nat), s.micaRuns g = true ∧ l < 63 ∧ s.get (Reg.MICA.LAY_BOUND g l) = 1 ∧ s.get (Reg.MICA.LIVE g) ≠
      0 ∧ s.get (Reg.MICA.LAY_STATE g l) ≠ 3 ∧ s.layerSeen g l + s.get (Reg.MICA.LIVE g) * 1000000 ≤ s.now) ∧
(∃ (s : State) (g l : Nat), (s.micaRuns g = false ∨ 63 ≤ l ∨ s.get (Reg.MICA.LAY_BOUND g l) = 0 ∨ s.get (Reg.MICA.LIVE g)
      = 0 ∨ s.get (Reg.MICA.LAY_STATE g l) = 3 ∨ s.now < s.layerSeen g l + s.get (Reg.MICA.LIVE g) * 1000000)) ∧
(∃ (s : State) (m g a k : Nat), Quiet m s ∧ g < 8 ∧ a = s.get (Reg.MICA.LUTADDR g) ∧ k = s.micaSel g * 4096 + a ∧
      (s.micaHw g).lutPast = false) ∧
(∃ (s : State) (m g : Nat), Quiet m s ∧ g < 8 ∧ (s.micaHw g).lutPast = true) ∧
(∃ (s : State) (m g a k v : Nat), Quiet m s ∧ g < 8 ∧ s.mgt.stalled = [] ∧ a = s.get (Reg.MICA.LUTADDR g) ∧ k = s.micaSel
      g * 4096 + a ∧ v = Assoc.findD (s.micaHw g).nextLut k 0 ∧ v < 65536 ∧ (s.micaHw g).lutPast = false ∧ s.prov.inverted
      = []) ∧
(∃ (s : State) (m g : Nat), Quiet m s ∧ g < 8 ∧ s.mgt.stalled = [] ∧ (s.micaHw g).lutPast = true) ∧
(∃ (g : Nat), 8 ≤ g) :=
  ⟨⟨(({ State.reset with mica := { State.reset.mica with mica := [(2, State.MicaHw.fresh)], dec := [] }, chn := { State.reset.chn with chans := [(5, ⟨1, [0, 0x11100000], [], 0, 0, true, 0, 0, 0, [], []⟩)] }, now := 0 }
      : State).set (Reg.MICA.CHAN 2) (State.mkHandle 8 9 1) |>.set (Reg.MICA.CTRL_EN 2) 1 |>.set (Reg.MICA.STAT_RUN 2) 1
      |>.set (Reg.CHN.ENT_HANDLE 5) (State.mkHandle 1 5 1) |>.set (Reg.CHN.ENT_STATE_STATE 5) 1 |>.set
      (Reg.CHN.ENT_RES_INGV 5) 1 |>.set (Reg.CHN.ENT_RES_INGENT 5) 7 |>.set (Reg.MICA.LAYARG 2 0) 3 |>.set
      (Reg.MICA.LAYARG 2 1) (State.mkHandle 1 5 1) |>.set (Reg.MICA.LAYARG 2 2) (540 * 65536 + 960) |>.set
      (Reg.MICA.OUTFMT 2) 0x11100000 |>.set Reg.DRCC.STAT_RUN 1 |>.set Reg.DRCC.CTRL_EN 1 |>.set Reg.DRCC.PLAN 1000000
      |>.set (Reg.MICA.LAYRES_BUSY 2) 1), 0, 2, by decide +kernel⟩,
  ⟨State.reset, 0, 2, by decide +kernel⟩,
  ⟨(({ State.reset with mica := { State.reset.mica with mica := [(2, State.MicaHw.fresh)], dec := [] }, chn := { State.reset.chn with chans := [(5, ⟨1, [0, 0x11100000], [], 0, 0, true, 0, 0, 0, [], []⟩)] }, now := 0 }
      : State).set (Reg.MICA.CHAN 2) (State.mkHandle 8 9 1) |>.set (Reg.MICA.CTRL_EN 2) 1 |>.set (Reg.MICA.STAT_RUN 2) 1
      |>.set (Reg.CHN.ENT_HANDLE 5) (State.mkHandle 1 5 1) |>.set (Reg.CHN.ENT_STATE_STATE 5) 1 |>.set
      (Reg.CHN.ENT_RES_INGV 5) 1 |>.set (Reg.CHN.ENT_RES_INGENT 5) 7 |>.set (Reg.MICA.LAYARG 2 0) 3 |>.set
      (Reg.MICA.LAYARG 2 1) (State.mkHandle 1 5 1) |>.set (Reg.MICA.LAYARG 2 2) (540 * 65536 + 960) |>.set
      (Reg.MICA.OUTFMT 2) 0x11100000 |>.set Reg.DRCC.STAT_RUN 1 |>.set Reg.DRCC.CTRL_EN 1 |>.set Reg.DRCC.PLAN 1000000
      |>.set (Reg.MICA.LAYARG 2 0) 63), 0, 2, by decide +kernel⟩,
  ⟨(({ State.reset with mica := { State.reset.mica with mica := [(2, State.MicaHw.fresh)], dec := [] }, chn := { State.reset.chn with chans := [(5, ⟨1, [0, 0x11100000], [], 0, 0, true, 0, 0, 0, [], []⟩)] }, now := 0 }
      : State).set (Reg.MICA.CHAN 2) (State.mkHandle 8 9 1) |>.set (Reg.MICA.CTRL_EN 2) 1 |>.set (Reg.MICA.STAT_RUN 2) 1
      |>.set (Reg.CHN.ENT_HANDLE 5) (State.mkHandle 1 5 1) |>.set (Reg.CHN.ENT_STATE_STATE 5) 1 |>.set
      (Reg.CHN.ENT_RES_INGV 5) 1 |>.set (Reg.CHN.ENT_RES_INGENT 5) 7 |>.set (Reg.MICA.LAYARG 2 0) 3 |>.set
      (Reg.MICA.LAYARG 2 1) (State.mkHandle 1 5 1) |>.set (Reg.MICA.LAYARG 2 2) (540 * 65536 + 960) |>.set
      (Reg.MICA.OUTFMT 2) 0x11100000 |>.set Reg.DRCC.STAT_RUN 1 |>.set Reg.DRCC.CTRL_EN 1 |>.set Reg.DRCC.PLAN 1000000
      |>.set (Reg.MICA.LAY_BOUND 2 3) 1 |>.set (State.layDec 2 3) 9 |>.set (Reg.DEC.VALID 9) 1 |>.set (Reg.DEC.ENGINE 9)
      2), 0, 2, 3, by decide +kernel⟩,
  ⟨(({ State.reset with mica := { State.reset.mica with mica := [(2, State.MicaHw.fresh)], dec := [] }, chn := { State.reset.chn with chans := [] }, now := 0 }
      : State).set (Reg.MICA.CHAN 2) (State.mkHandle 8 9 1) |>.set (Reg.MICA.CTRL_EN 2) 1 |>.set (Reg.MICA.STAT_RUN 2) 1
      |>.set (Reg.MICA.LAYARG 2 0) 3), 0, 2, 3, 2, by decide +kernel⟩,
  ⟨(({ State.reset with mica := { State.reset.mica with mica := [(2, State.MicaHw.fresh)], dec := [] }, chn := { State.reset.chn with chans := [(5, ⟨1, [0, 0x11100000], [], 0, 0, true, 0, 0, 0, [], []⟩)] }, now := 0 }
      : State).set (Reg.MICA.CHAN 2) (State.mkHandle 8 9 1) |>.set (Reg.MICA.CTRL_EN 2) 1 |>.set (Reg.MICA.STAT_RUN 2) 1
      |>.set (Reg.CHN.ENT_HANDLE 5) (State.mkHandle 1 5 1) |>.set (Reg.CHN.ENT_STATE_STATE 5) 1 |>.set
      (Reg.CHN.ENT_RES_INGV 5) 1 |>.set (Reg.CHN.ENT_RES_INGENT 5) 7 |>.set (Reg.MICA.LAYARG 2 0) 3 |>.set
      (Reg.MICA.LAYARG 2 1) (State.mkHandle 1 5 1) |>.set (Reg.MICA.LAYARG 2 2) (540 * 65536 + 960) |>.set
      (Reg.MICA.OUTFMT 2) 0x11100000 |>.set Reg.DRCC.STAT_RUN 1 |>.set Reg.DRCC.CTRL_EN 1 |>.set Reg.DRCC.PLAN 1000000),
      0, 2, 3, State.mkHandle 1 5 1, 0, 0, by decide +kernel⟩,
  ⟨(({ State.reset with mica := { State.reset.mica with mica := [(2, State.MicaHw.fresh)], dec := [] }, chn := { State.reset.chn with chans := [(5, ⟨1, [0, 0x11100000], [], 0, 0, true, 0, 0, 0, [], []⟩)] }, now := 0 }
      : State).set (Reg.MICA.CHAN 2) (State.mkHandle 8 9 1) |>.set (Reg.MICA.CTRL_EN 2) 1 |>.set (Reg.MICA.STAT_RUN 2) 1
      |>.set (Reg.CHN.ENT_HANDLE 5) (State.mkHandle 1 5 1) |>.set (Reg.CHN.ENT_STATE_STATE 5) 1 |>.set
      (Reg.CHN.ENT_RES_INGV 5) 1 |>.set (Reg.CHN.ENT_RES_INGENT 5) 7 |>.set (Reg.MICA.LAYARG 2 0) 3 |>.set
      (Reg.MICA.LAYARG 2 1) (State.mkHandle 1 5 1) |>.set (Reg.MICA.LAYARG 2 2) (540 * 65536 + 960) |>.set
      (Reg.MICA.OUTFMT 2) 0x11100000 |>.set Reg.DRCC.STAT_RUN 1 |>.set Reg.DRCC.CTRL_EN 1 |>.set Reg.DRCC.PLAN 1000000),
      0, 2, 3, by decide +kernel⟩,
  ⟨(({ State.reset with mica := { State.reset.mica with mica := [(2, State.MicaHw.fresh)], dec := [] }, chn := { State.reset.chn with chans := [(5, ⟨1, [0, 0x11100000], [], 0, 0, true, 0, 0, 0, [], []⟩)] }, now := 0 }
      : State).set (Reg.MICA.CHAN 2) (State.mkHandle 8 9 1) |>.set (Reg.MICA.CTRL_EN 2) 1 |>.set (Reg.MICA.STAT_RUN 2) 1
      |>.set (Reg.CHN.ENT_HANDLE 5) (State.mkHandle 1 5 1) |>.set (Reg.CHN.ENT_STATE_STATE 5) 1 |>.set
      (Reg.CHN.ENT_RES_INGV 5) 1 |>.set (Reg.CHN.ENT_RES_INGENT 5) 7 |>.set (Reg.MICA.LAYARG 2 0) 3 |>.set
      (Reg.MICA.LAYARG 2 1) (State.mkHandle 1 5 1) |>.set (Reg.MICA.LAYARG 2 2) (540 * 65536 + 960) |>.set
      (Reg.MICA.OUTFMT 2) 0x11100000 |>.set Reg.DRCC.STAT_RUN 1 |>.set Reg.DRCC.CTRL_EN 1 |>.set Reg.DRCC.PLAN 1000000),
      0, 2, 3, by decide +kernel⟩,
  ⟨(({ State.reset with mica := { State.reset.mica with mica := [(2, State.MicaHw.fresh)], dec := [] }, chn := { State.reset.chn with chans := [(5, ⟨1, [0, 0x11100000], [], 0, 0, true, 0, 0, 0, [], []⟩)] }, now := 0 }
      : State).set (Reg.MICA.CHAN 2) (State.mkHandle 8 9 1) |>.set (Reg.MICA.CTRL_EN 2) 1 |>.set (Reg.MICA.STAT_RUN 2) 1
      |>.set (Reg.CHN.ENT_HANDLE 5) (State.mkHandle 1 5 1) |>.set (Reg.CHN.ENT_STATE_STATE 5) 1 |>.set
      (Reg.CHN.ENT_RES_INGV 5) 1 |>.set (Reg.CHN.ENT_RES_INGENT 5) 7 |>.set (Reg.MICA.LAYARG 2 0) 3 |>.set
      (Reg.MICA.LAYARG 2 1) (State.mkHandle 1 5 1) |>.set (Reg.MICA.LAYARG 2 2) (540 * 65536 + 960) |>.set
      (Reg.MICA.OUTFMT 2) 0x11100000 |>.set Reg.DRCC.STAT_RUN 1 |>.set Reg.DRCC.CTRL_EN 1 |>.set Reg.DRCC.PLAN 1000000
      |>.set (Reg.MICA.LAY_BOUND 2 3) 1 |>.set (State.layDec 2 3) 9 |>.set (Reg.DEC.VALID 9) 1 |>.set (Reg.DEC.ENGINE 9) 2
      |>.set (Reg.MICA.LAYARG 2 1) 0), 0, 2, 3, 2, by decide +kernel⟩,
  ⟨(({ State.reset with mica := { State.reset.mica with mica := [(2, State.MicaHw.fresh)], dec := [] }, chn := { State.reset.chn with chans := [(5, ⟨1, [0, 0x11100000], [], 0, 0, true, 0, 0, 0, [], []⟩)] }, now := 0 }
      : State).set (Reg.MICA.CHAN 2) (State.mkHandle 8 9 1) |>.set (Reg.MICA.CTRL_EN 2) 1 |>.set (Reg.MICA.STAT_RUN 2) 1
      |>.set (Reg.CHN.ENT_HANDLE 5) (State.mkHandle 1 5 1) |>.set (Reg.CHN.ENT_STATE_STATE 5) 1 |>.set
      (Reg.CHN.ENT_RES_INGV 5) 1 |>.set (Reg.CHN.ENT_RES_INGENT 5) 7 |>.set (Reg.MICA.LAYARG 2 0) 3 |>.set
      (Reg.MICA.LAYARG 2 1) (State.mkHandle 1 5 1) |>.set (Reg.MICA.LAYARG 2 2) (540 * 65536 + 960) |>.set
      (Reg.MICA.OUTFMT 2) 0x11100000 |>.set Reg.DRCC.STAT_RUN 1 |>.set Reg.DRCC.CTRL_EN 1 |>.set Reg.DRCC.PLAN 1000000
      |>.set (Reg.MICA.LAY_BOUND 2 3) 1 |>.set (State.layDec 2 3) 9 |>.set (Reg.DEC.VALID 9) 1 |>.set (Reg.DEC.ENGINE 9)
      2), 0, 2, 3, State.mkHandle 1 5 1, 9, by decide +kernel⟩,
  ⟨(({ State.reset with mica := { State.reset.mica with mica := [(2, State.MicaHw.fresh)], dec := [] }, chn := { State.reset.chn with chans := [(5, ⟨1, [0, 0x11100000], [], 0, 0, true, 0, 0, 0, [], []⟩)] }, now := 0 }
      : State).set (Reg.MICA.CHAN 2) (State.mkHandle 8 9 1) |>.set (Reg.MICA.CTRL_EN 2) 1 |>.set (Reg.MICA.STAT_RUN 2) 1
      |>.set (Reg.CHN.ENT_HANDLE 5) (State.mkHandle 1 5 1) |>.set (Reg.CHN.ENT_STATE_STATE 5) 1 |>.set
      (Reg.CHN.ENT_RES_INGV 5) 1 |>.set (Reg.CHN.ENT_RES_INGENT 5) 7 |>.set (Reg.MICA.LAYARG 2 0) 3 |>.set
      (Reg.MICA.LAYARG 2 1) (State.mkHandle 1 5 1) |>.set (Reg.MICA.LAYARG 2 2) (540 * 65536 + 960) |>.set
      (Reg.MICA.OUTFMT 2) 0x11100000 |>.set Reg.DRCC.STAT_RUN 1 |>.set Reg.DRCC.CTRL_EN 1 |>.set Reg.DRCC.PLAN 1000000
      |>.set (Reg.MICA.LAY_BOUND 2 3) 1 |>.set (State.layDec 2 3) 9 |>.set (Reg.DEC.VALID 9) 1 |>.set (Reg.DEC.ENGINE 9)
      2), 0, 2, 3, 9, by decide +kernel⟩,
  ⟨(({ State.reset with mica := { State.reset.mica with mica := [(2, State.MicaHw.fresh)], dec := [] }, chn := { State.reset.chn with chans := [(5, ⟨1, [0, 0x11100000], [], 0, 0, true, 0, 0, 0, [], []⟩)] }, now := 0 }
      : State).set (Reg.MICA.CHAN 2) (State.mkHandle 8 9 1) |>.set (Reg.MICA.CTRL_EN 2) 1 |>.set (Reg.MICA.STAT_RUN 2) 1
      |>.set (Reg.CHN.ENT_HANDLE 5) (State.mkHandle 1 5 1) |>.set (Reg.CHN.ENT_STATE_STATE 5) 1 |>.set
      (Reg.CHN.ENT_RES_INGV 5) 1 |>.set (Reg.CHN.ENT_RES_INGENT 5) 7 |>.set (Reg.MICA.LAYARG 2 0) 3 |>.set
      (Reg.MICA.LAYARG 2 1) (State.mkHandle 1 5 1) |>.set (Reg.MICA.LAYARG 2 2) (540 * 65536 + 960) |>.set
      (Reg.MICA.OUTFMT 2) 0x11100000 |>.set Reg.DRCC.STAT_RUN 1 |>.set Reg.DRCC.CTRL_EN 1 |>.set Reg.DRCC.PLAN 1000000
      |>.set (Reg.MICA.LAY_BOUND 2 3) 1 |>.set (State.layDec 2 3) 9 |>.set (Reg.DEC.VALID 9) 1 |>.set (Reg.DEC.ENGINE 9)
      2), 9, by decide +kernel⟩,
  ⟨({ (({ State.reset with mica := { State.reset.mica with mica := [(2, State.MicaHw.fresh)], dec := [] }, chn := { State.reset.chn with chans := [(5, ⟨1, [0, 0x11100000], [], 0, 0, true, 0, 0, 0, [], []⟩)] }, now := 0 } : State).set (Reg.MICA.CHAN 2) (State.mkHandle 8 9 1) |>.set (Reg.MICA.CTRL_EN 2) 1 |>.set (Reg.MICA.STAT_RUN 2) 1 |>.set (Reg.CHN.ENT_HANDLE 5) (State.mkHandle 1 5 1) |>.set (Reg.CHN.ENT_STATE_STATE 5) 1 |>.set (Reg.CHN.ENT_RES_INGV 5) 1 |>.set (Reg.CHN.ENT_RES_INGENT 5) 7 |>.set (Reg.MICA.LAYARG 2 0) 3 |>.set (Reg.MICA.LAYARG 2 1) (State.mkHandle 1 5 1) |>.set (Reg.MICA.LAYARG 2 2) (540 * 65536 + 960) |>.set (Reg.MICA.OUTFMT 2) 0x11100000 |>.set Reg.DRCC.STAT_RUN 1 |>.set Reg.DRCC.CTRL_EN 1 |>.set Reg.DRCC.PLAN 1000000 |>.set (Reg.MICA.LAY_BOUND 2 3) 1 |>.set (State.layDec 2 3) 9 |>.set (Reg.DEC.VALID 9) 1 |>.set (Reg.DEC.ENGINE 9) 2) with fab := { State.reset.fab with ing := [(7, { State.Ingress.fresh 0x1000000 false with cur := some ⟨0x1000000, some ⟨0, 5, 4, 0⟩, 0, false, [], []⟩ })] } }
      : State).set (Reg.DEC.SRC 9) (State.mkHandle 1 5 1) |>.set (Reg.DEC.ESE 9) 4 |>.set (Reg.DEC.LAYER 9) 3 |>.set
      (Reg.FAB.ESE_SRC_SRCVALID 4) 1 |>.set (Reg.FAB.ESE_SRC_ENTRY 4) 7, 9, 4, 7, 0, ⟨0x1000000, some ⟨0, 5, 4, 0⟩, 0,
      false, [], []⟩, true, by decide +kernel⟩,
  ⟨({ (({ State.reset with mica := { State.reset.mica with mica := [(2, State.MicaHw.fresh)], dec := [] }, chn := { State.reset.chn with chans := [(5, ⟨1, [0, 0x11100000], [], 0, 0, true, 0, 0, 0, [], []⟩)] }, now := 0 } : State).set (Reg.MICA.CHAN 2) (State.mkHandle 8 9 1) |>.set (Reg.MICA.CTRL_EN 2) 1 |>.set (Reg.MICA.STAT_RUN 2) 1 |>.set (Reg.CHN.ENT_HANDLE 5) (State.mkHandle 1 5 1) |>.set (Reg.CHN.ENT_STATE_STATE 5) 1 |>.set (Reg.CHN.ENT_RES_INGV 5) 1 |>.set (Reg.CHN.ENT_RES_INGENT 5) 7 |>.set (Reg.MICA.LAYARG 2 0) 3 |>.set (Reg.MICA.LAYARG 2 1) (State.mkHandle 1 5 1) |>.set (Reg.MICA.LAYARG 2 2) (540 * 65536 + 960) |>.set (Reg.MICA.OUTFMT 2) 0x11100000 |>.set Reg.DRCC.STAT_RUN 1 |>.set Reg.DRCC.CTRL_EN 1 |>.set Reg.DRCC.PLAN 1000000 |>.set (Reg.MICA.LAY_BOUND 2 3) 1 |>.set (State.layDec 2 3) 9 |>.set (Reg.DEC.VALID 9) 1 |>.set (Reg.DEC.ENGINE 9) 2) with fab := { State.reset.fab with ing := [(7, { State.Ingress.fresh 0x1000000 false with cur := some ⟨0x1000000, none, 0, false, [], []⟩ })] } }
      : State).set (Reg.DEC.SRC 9) (5) |>.set (Reg.DEC.ESE 9) 4 |>.set (Reg.DEC.LAYER 9) 3 |>.set
      (Reg.FAB.ESE_SRC_SRCVALID 4) 1 |>.set (Reg.FAB.ESE_SRC_ENTRY 4) 7, 9, 4, 7, 2, 3, 1, ⟨0x1000000, none, 0, false, [],
      []⟩, true, by decide +kernel⟩,
  ⟨({ (({ State.reset with mica := { State.reset.mica with mica := [(2, State.MicaHw.fresh)], dec := [] }, chn := { State.reset.chn with chans := [(5, ⟨1, [0, 0x11100000], [], 0, 0, true, 0, 0, 0, [], []⟩)] }, now := 0 } : State).set (Reg.MICA.CHAN 2) (State.mkHandle 8 9 1) |>.set (Reg.MICA.CTRL_EN 2) 1 |>.set (Reg.MICA.STAT_RUN 2) 1 |>.set (Reg.CHN.ENT_HANDLE 5) (State.mkHandle 1 5 1) |>.set (Reg.CHN.ENT_STATE_STATE 5) 1 |>.set (Reg.CHN.ENT_RES_INGV 5) 1 |>.set (Reg.CHN.ENT_RES_INGENT 5) 7 |>.set (Reg.MICA.LAYARG 2 0) 3 |>.set (Reg.MICA.LAYARG 2 1) (State.mkHandle 1 5 1) |>.set (Reg.MICA.LAYARG 2 2) (540 * 65536 + 960) |>.set (Reg.MICA.OUTFMT 2) 0x11100000 |>.set Reg.DRCC.STAT_RUN 1 |>.set Reg.DRCC.CTRL_EN 1 |>.set Reg.DRCC.PLAN 1000000 |>.set (Reg.MICA.LAY_BOUND 2 3) 1 |>.set (State.layDec 2 3) 9 |>.set (Reg.DEC.VALID 9) 1 |>.set (Reg.DEC.ENGINE 9) 2) with fab := { State.reset.fab with ing := [(7, { State.Ingress.fresh 0x1000000 false with cur := some ⟨0x1000000, some ⟨0, 5, 4, 0⟩, 0, false, [], []⟩ })] } }
      : State).set (Reg.DEC.SRC 9) (State.mkHandle 1 5 1) |>.set (Reg.DEC.ESE 9) 4 |>.set (Reg.DEC.LAYER 9) 3 |>.set
      (Reg.FAB.ESE_SRC_SRCVALID 4) 1 |>.set (Reg.FAB.ESE_SRC_ENTRY 4) 7, 9, 4, 7, 2, 3, 0, ⟨0x1000000, some ⟨0, 5, 4, 0⟩,
      0, false, [], []⟩, false, by decide +kernel⟩,
  ⟨({ (({ State.reset with mica := { State.reset.mica with mica := [(2, State.MicaHw.fresh)], dec := [] }, chn := { State.reset.chn with chans := [(5, ⟨1, [0, 0x11100000], [], 0, 0, true, 0, 0, 0, [], []⟩)] }, now := 0 } : State).set (Reg.MICA.CHAN 2) (State.mkHandle 8 9 1) |>.set (Reg.MICA.CTRL_EN 2) 1 |>.set (Reg.MICA.STAT_RUN 2) 1 |>.set (Reg.CHN.ENT_HANDLE 5) (State.mkHandle 1 5 1) |>.set (Reg.CHN.ENT_STATE_STATE 5) 1 |>.set (Reg.CHN.ENT_RES_INGV 5) 1 |>.set (Reg.CHN.ENT_RES_INGENT 5) 7 |>.set (Reg.MICA.LAYARG 2 0) 3 |>.set (Reg.MICA.LAYARG 2 1) (State.mkHandle 1 5 1) |>.set (Reg.MICA.LAYARG 2 2) (540 * 65536 + 960) |>.set (Reg.MICA.OUTFMT 2) 0x11100000 |>.set Reg.DRCC.STAT_RUN 1 |>.set Reg.DRCC.CTRL_EN 1 |>.set Reg.DRCC.PLAN 1000000 |>.set (Reg.MICA.LAY_BOUND 2 3) 1 |>.set (State.layDec 2 3) 9 |>.set (Reg.DEC.VALID 9) 1 |>.set (Reg.DEC.ENGINE 9) 2) with fab := { State.reset.fab with ing := [(7, { State.Ingress.fresh 0x1000000 false with cur := some ⟨0x1000000, none, 0, false, [], []⟩ })] } }
      : State).set (Reg.DEC.SRC 9) (5) |>.set (Reg.DEC.ESE 9) 4 |>.set (Reg.DEC.LAYER 9) 3 |>.set
      (Reg.FAB.ESE_SRC_SRCVALID 4) 1 |>.set (Reg.FAB.ESE_SRC_ENTRY 4) 7, 9, 4, 7, 2, 3, 1, ⟨0x1000000, none, 0, false, [],
      []⟩, false, by decide +kernel⟩,
  ⟨({ (({ State.reset with mica := { State.reset.mica with mica := [(2, State.MicaHw.fresh)], dec := [] }, chn := { State.reset.chn with chans := [(5, ⟨1, [0, 0x11100000], [], 0, 0, true, 0, 0, 0, [], []⟩)] }, now := 0 } : State).set (Reg.MICA.CHAN 2) (State.mkHandle 8 9 1) |>.set (Reg.MICA.CTRL_EN 2) 1 |>.set (Reg.MICA.STAT_RUN 2) 1 |>.set (Reg.CHN.ENT_HANDLE 5) (State.mkHandle 1 5 1) |>.set (Reg.CHN.ENT_STATE_STATE 5) 1 |>.set (Reg.CHN.ENT_RES_INGV 5) 1 |>.set (Reg.CHN.ENT_RES_INGENT 5) 7 |>.set (Reg.MICA.LAYARG 2 0) 3 |>.set (Reg.MICA.LAYARG 2 1) (State.mkHandle 1 5 1) |>.set (Reg.MICA.LAYARG 2 2) (540 * 65536 + 960) |>.set (Reg.MICA.OUTFMT 2) 0x11100000 |>.set Reg.DRCC.STAT_RUN 1 |>.set Reg.DRCC.CTRL_EN 1 |>.set Reg.DRCC.PLAN 1000000 |>.set (Reg.MICA.LAY_BOUND 2 3) 1 |>.set (State.layDec 2 3) 9 |>.set (Reg.DEC.VALID 9) 1 |>.set (Reg.DEC.ENGINE 9) 2 |>.set (Reg.MICA.LIVE 2) 5) with now := 5000000 }
      : State), 2, 3, by decide +kernel⟩,
  ⟨(({ State.reset with mica := { State.reset.mica with mica := [(2, State.MicaHw.fresh)], dec := [] }, chn := { State.reset.chn with chans := [(5, ⟨1, [0, 0x11100000], [], 0, 0, true, 0, 0, 0, [], []⟩)] }, now := 0 }
      : State).set (Reg.MICA.CHAN 2) (State.mkHandle 8 9 1) |>.set (Reg.MICA.CTRL_EN 2) 1 |>.set (Reg.MICA.STAT_RUN 2) 1
      |>.set (Reg.CHN.ENT_HANDLE 5) (State.mkHandle 1 5 1) |>.set (Reg.CHN.ENT_STATE_STATE 5) 1 |>.set
      (Reg.CHN.ENT_RES_INGV 5) 1 |>.set (Reg.CHN.ENT_RES_INGENT 5) 7 |>.set (Reg.MICA.LAYARG 2 0) 3 |>.set
      (Reg.MICA.LAYARG 2 1) (State.mkHandle 1 5 1) |>.set (Reg.MICA.LAYARG 2 2) (540 * 65536 + 960) |>.set
      (Reg.MICA.OUTFMT 2) 0x11100000 |>.set Reg.DRCC.STAT_RUN 1 |>.set Reg.DRCC.CTRL_EN 1 |>.set Reg.DRCC.PLAN 1000000
      |>.set (Reg.MICA.LAY_BOUND 2 3) 1 |>.set (State.layDec 2 3) 9 |>.set (Reg.DEC.VALID 9) 1 |>.set (Reg.DEC.ENGINE 9) 2
      |>.set (Reg.MICA.LIVE 2) 5), 2, 3, by decide +kernel⟩,
  ⟨(({ State.reset with mica := { State.reset.mica with mica := [(2, State.MicaHw.fresh)], dec := [] }, chn := { State.reset.chn with chans := [] }, now := 0 }
      : State).set (Reg.MICA.CHAN 2) (State.mkHandle 8 9 1) |>.set (Reg.MICA.CTRL_EN 2) 1 |>.set (Reg.MICA.STAT_RUN 2) 1
      |>.set (Reg.MICA.LUTADDR 2) 4095), 0, 2, 4095, 4095, by decide +kernel⟩,
  ⟨(({ State.reset with mica := { State.reset.mica with mica := [(2, State.MicaHw.fresh)], dec := [] }, chn := { State.reset.chn with chans := [] }, now := 0 }
      : State).set (Reg.MICA.CHAN 2) (State.mkHandle 8 9 1) |>.set (Reg.MICA.CTRL_EN 2) 1 |>.set (Reg.MICA.STAT_RUN 2) 1
      |>.updMica 2 fun x => { x with lutPast := true }), 0, 2, by decide +kernel⟩,
  ⟨(({ State.reset with mica := { State.reset.mica with mica := [(2, State.MicaHw.fresh)], dec := [] }, chn := { State.reset.chn with chans := [] }, now := 0 }
      : State).set (Reg.MICA.CHAN 2) (State.mkHandle 8 9 1) |>.set (Reg.MICA.CTRL_EN 2) 1 |>.set (Reg.MICA.STAT_RUN 2) 1
      |>.set (Reg.MICA.LUTADDR 2) 4095), 0, 2, 4095, 4095, 0, by decide +kernel⟩,
  ⟨(({ State.reset with mica := { State.reset.mica with mica := [(2, State.MicaHw.fresh)], dec := [] }, chn := { State.reset.chn with chans := [] }, now := 0 }
      : State).set (Reg.MICA.CHAN 2) (State.mkHandle 8 9 1) |>.set (Reg.MICA.CTRL_EN 2) 1 |>.set (Reg.MICA.STAT_RUN 2) 1
      |>.updMica 2 fun x => { x with lutPast := true }), 0, 2, by decide +kernel⟩,
  ⟨8, by decide +kernel⟩⟩

/-- States and operands that meet the hypotheses of each clause of `Obligations.ScanLink`. -/
theorem witness_scan_link :
(∃ (s : State) (m blk : Nat) (data : Word), Quiet m s ∧ blk = (Blk.mk .scan 0).base ∧ s.get Reg.SCAN.CTRL_EN = 0 ∧ s.get
      Reg.SCAN.STAT_RUN = 0 ∧ data = 1 ∧ s.scanCheck = 0) ∧
(∃ (s : State) (m blk e : Nat) (data : Word), Quiet m s ∧ blk = (Blk.mk .scan 0).base ∧ s.get Reg.SCAN.CTRL_EN = 0 ∧ s.get
      Reg.SCAN.STAT_RUN = 0 ∧ data = 1 ∧ e = s.scanCheck ∧ e ≠ 0) ∧
(∃ (s : State) (m blk : Nat) (data : Word), Quiet m s ∧ blk = (Blk.mk .scan 0).base ∧ s.get Reg.SCAN.CTRL_EN = 1 ∧ data =
      0) ∧
(∃ (s : State), s.get Reg.SCAN.STAT_LSTATE = 1 ∧ s.scan.starting = true) ∧
(∃ (s : State), s.get Reg.SCAN.STAT_LSTATE = 1 ∧ s.scan.starting = true) ∧
(∃ (s : State), s.get Reg.SCAN.STAT_LSTATE = 1 ∧ s.scan.starting = false) ∧
(∃ (s : State), s.get Reg.SCAN.STAT_LSTATE = 1 ∧ s.scan.starting = false) ∧
(∃ (s : State), s.get Reg.SCAN.STAT_LSTATE ≠ 1) ∧
(∃ (s : State), (s.get Reg.SCAN.STAT_LSTATE = 2 ∨ s.get Reg.SCAN.STAT_LSTATE = 3 ∨ (s.get Reg.SCAN.STAT_LSTATE = 1 ∧
      s.scan.starting = false))) ∧
(∃ (s : State), s.get Reg.SCAN.STAT_LSTATE = 4) ∧
(∃ (s : State) (h : Bool), (if h then s.get Reg.SCAN.STAT_LSTATE ≠ 4 else (s.get Reg.SCAN.STAT_LSTATE = 0 ∨ s.get
      Reg.SCAN.STAT_LSTATE = 4 ∨ (s.get Reg.SCAN.STAT_LSTATE = 1 ∧ s.scan.starting = true)))) ∧
(∃ (s : State), s.get Reg.SCAN.STAT_LSTATE = 4 ∧ s.scan.trainFailed = true ∧ s.scan.downAt + 1000000000 ≤ s.now) ∧
(∃ (s : State), (s.get Reg.SCAN.STAT_LSTATE ≠ 4 ∨ s.scan.trainFailed = false ∨ s.now < s.scan.downAt + 1000000000)) ∧
(∃ (s : State), s.get Reg.SCAN.STAT_LSTATE = 2) ∧
(∃ (s : State), s.get Reg.SCAN.STAT_LSTATE ≠ 2) ∧
(∃ (s : State) (m a : Nat) (data : Word), Quiet m s ∧ bit data.toNat 0 = true ∧ a = s.getLow Reg.SCAN.NEXTLO * 64 + s.get
      Reg.SCAN.NEXTHI * 2 ^ 32 ∧ a + s.scanUse Reg.SCAN.FBCFG_PITCH * s.scanUse Reg.SCAN.VTIM_VACT ≤ s.dramUsableMib *
      1048576 ∧ a < s.dramUsableMib * 1048576 ∧ s.get Reg.SCAN.STAT_RUN = 1) ∧
(∃ (s : State) (m a : Nat) (data : Word), Quiet m s ∧ bit data.toNat 0 = true ∧ a = s.getLow Reg.SCAN.NEXTLO * 64 + s.get
      Reg.SCAN.NEXTHI * 2 ^ 32 ∧ a + s.scanUse Reg.SCAN.FBCFG_PITCH * s.scanUse Reg.SCAN.VTIM_VACT ≤ s.dramUsableMib *
      1048576 ∧ a < s.dramUsableMib * 1048576 ∧ s.get Reg.SCAN.STAT_RUN = 0) ∧
(∃ (s : State) (m a : Nat) (data : Word), Quiet m s ∧ bit data.toNat 0 = true ∧ a = s.getLow Reg.SCAN.NEXTLO * 64 + s.get
      Reg.SCAN.NEXTHI * 2 ^ 32 ∧ (s.dramUsableMib * 1048576 ≤ a ∨ s.dramUsableMib * 1048576 < a + s.scanUse
      Reg.SCAN.FBCFG_PITCH * s.scanUse Reg.SCAN.VTIM_VACT)) ∧
(∃ (s : State) (m : Nat) (data : Word), Quiet m s ∧ bit data.toNat 0 = false) ∧
(∃ (s : State), s.get Reg.SCAN.STAT_RUN = 1 ∧ s.get Reg.SCAN.STAT_FLIPPEND = 1 ∧ s.scan.fromPsr = false ∧ s.get
      Reg.SCAN.STAT_LSTATE ≠ 3 ∧ s.scan.next % 64 = 0 ∧ s.scan.next < 2 ^ 36) ∧
(∃ (s : State), (s.get Reg.SCAN.STAT_RUN = 0 ∨ s.get Reg.SCAN.STAT_FLIPPEND = 0 ∨ s.scan.fromPsr = true ∨ s.get
      Reg.SCAN.STAT_LSTATE = 3)) ∧
(∃ (s : State), s.get Reg.SCAN.STAT_LSTATE = 0) ∧
(∃ (s : State), s.get Reg.SCAN.STAT_LSTATE ≠ 0 ∧ s.get Reg.SCAN.STAT_LSTATE ≠ 2) ∧
(∃ (s : State), s.get Reg.SCAN.STAT_LSTATE = 2 ∧ s.scan.toShow = true) ∧
(∃ (s : State), s.get Reg.SCAN.STAT_LSTATE = 2 ∧ s.dramUp = true) ∧
(∃ (s : State), s.get Reg.SCAN.STAT_LSTATE = 2 ∧ s.dramUp = false ∧ s.scanUse Reg.SCAN.VTIM_VACT < 65536) :=
  ⟨⟨(({ State.reset with scan := { State.reset.scan with hpd := true } } : State).set Reg.SCAN.STAT_LSTATE 0 |>.set
      Reg.SCAN.PIXCLK 25000 |>.set Reg.SCAN.HTIM_HTOTAL 16 |>.set Reg.SCAN.HTIM_HACT 16 |>.set Reg.SCAN.VTIM_VTOTAL 4
      |>.set Reg.SCAN.VTIM_VACT 4 |>.set Reg.SCAN.FBCFG_PITCH 64 |>.set Reg.SCAN.FBCFG_FMT 2 |>.set Reg.SCAN.LINKCFG_LANES
      2 |>.set Reg.DRCC.STAT_RUN 1 |>.set Reg.DRCC.CTRL_EN 1 |>.set Reg.DRCC.PLAN 1000), 0, (Blk.mk .scan 0).base, 1,
      by decide +kernel⟩,
  ⟨(({ State.reset with scan := { State.reset.scan with hpd := true } } : State).set Reg.SCAN.STAT_LSTATE 0), 0, (Blk.mk
      .scan 0).base, 3, 1, by decide +kernel⟩,
  ⟨({ (({ State.reset with scan := { State.reset.scan with hpd := true, kbps := 200 } } : State).set Reg.SCAN.STAT_LSTATE 2 |>.set Reg.SCAN.CTRL_EN 1 |>.set Reg.SCAN.STAT_RUN 1) with dram := { State.reset.dram with kbps := 500 } }
      : State), 0, (Blk.mk .scan 0).base, 0, by decide +kernel⟩,
  ⟨(({ State.reset with scan := { State.reset.scan with hpd := true, starting := true } } : State).set Reg.SCAN.STAT_LSTATE
      1), by decide +kernel⟩,
  ⟨(({ State.reset with scan := { State.reset.scan with hpd := true, starting := true } } : State).set Reg.SCAN.STAT_LSTATE
      1), by decide +kernel⟩,
  ⟨(({ State.reset with scan := { State.reset.scan with hpd := true } } : State).set Reg.SCAN.STAT_LSTATE 1),
      by decide +kernel⟩,
  ⟨(({ State.reset with scan := { State.reset.scan with hpd := true } } : State).set Reg.SCAN.STAT_LSTATE 1),
      by decide +kernel⟩,
  ⟨(({ State.reset with scan := { State.reset.scan with hpd := true } } : State).set Reg.SCAN.STAT_LSTATE 2),
      by decide +kernel⟩,
  ⟨(({ State.reset with scan := { State.reset.scan with hpd := true } } : State).set Reg.SCAN.STAT_LSTATE 2),
      by decide +kernel⟩,
  ⟨(({ State.reset with scan := { State.reset.scan with hpd := true } } : State).set Reg.SCAN.STAT_LSTATE 4),
      by decide +kernel⟩,
  ⟨(({ State.reset with scan := { State.reset.scan with hpd := true } } : State).set Reg.SCAN.STAT_LSTATE 0), false,
      by decide +kernel⟩,
  ⟨({ (({ State.reset with scan := { State.reset.scan with hpd := true, trainFailed := true } } : State).set Reg.SCAN.STAT_LSTATE 4) with now := 1000000000 }
      : State), by decide +kernel⟩,
  ⟨(({ State.reset with scan := { State.reset.scan with hpd := true, trainFailed := true } } : State).set
      Reg.SCAN.STAT_LSTATE 4), by decide +kernel⟩,
  ⟨(({ State.reset with scan := { State.reset.scan with hpd := true } } : State).set Reg.SCAN.STAT_LSTATE 2),
      by decide +kernel⟩,
  ⟨(({ State.reset with scan := { State.reset.scan with hpd := true } } : State).set Reg.SCAN.STAT_LSTATE 3),
      by decide +kernel⟩,
  ⟨({ (({ State.reset with scan := { State.reset.scan with hpd := true } } : State).set Reg.SCAN.STAT_LSTATE 2 |>.set Reg.SCAN.STAT_RUN 1) with wide := [(Reg.SCAN.NEXTLO.addr, 256)] }
      : State), 0, 256, 1, by decide +kernel⟩,
  ⟨({ (({ State.reset with scan := { State.reset.scan with hpd := true } } : State).set Reg.SCAN.STAT_LSTATE 0) with wide := [(Reg.SCAN.NEXTLO.addr, 256)] }
      : State), 0, 256, 1, by decide +kernel⟩,
  ⟨(({ State.reset with scan := { State.reset.scan with hpd := true } } : State).set Reg.SCAN.STAT_LSTATE 2 |>.set
      Reg.SCAN.STAT_RUN 1 |>.set Reg.SCAN.NEXTHI 15), 0, 15 * 2 ^ 32, 1, by decide +kernel⟩,
  ⟨(({ State.reset with scan := { State.reset.scan with hpd := true } } : State).set Reg.SCAN.STAT_LSTATE 3 |>.set
      Reg.SCAN.STAT_RUN 1), 0, 2, by decide +kernel⟩,
  ⟨(({ State.reset with scan := { State.reset.scan with hpd := true, next := 256 } } : State).set Reg.SCAN.STAT_LSTATE 2
      |>.set Reg.SCAN.STAT_RUN 1 |>.set Reg.SCAN.STAT_FLIPPEND 1), by decide +kernel⟩,
  ⟨(({ State.reset with scan := { State.reset.scan with hpd := true } } : State).set Reg.SCAN.STAT_LSTATE 2 |>.set
      Reg.SCAN.STAT_RUN 1), by decide +kernel⟩,
  ⟨(({ State.reset with scan := { State.reset.scan with hpd := true } } : State).set Reg.SCAN.STAT_LSTATE 0),
      by decide +kernel⟩,
  ⟨(({ State.reset with scan := { State.reset.scan with hpd := true, toShow := true } } : State).set Reg.SCAN.STAT_LSTATE
      1), by decide +kernel⟩,
  ⟨(({ State.reset with scan := { State.reset.scan with hpd := true, toShow := true } } : State).set Reg.SCAN.STAT_LSTATE
      2), by decide +kernel⟩,
  ⟨(({ State.reset with scan := { State.reset.scan with hpd := true } } : State).set Reg.SCAN.STAT_LSTATE 2 |>.set
      Reg.DRCC.STAT_RUN 1 |>.set Reg.DRCC.CTRL_EN 1), by decide +kernel⟩,
  ⟨(({ State.reset with scan := { State.reset.scan with hpd := true } } : State).set Reg.SCAN.STAT_LSTATE 2),
      by decide +kernel⟩⟩

/-- States and operands that meet the hypotheses of each clause of `Obligations.ScanAuxAndRefresh`. -/
theorem witness_scan_aux_and_refresh :
(∃ (s : State) (m : Nat), Quiet m s ∧ s.scan.aux = none ∧ s.get Reg.SCAN.STAT_LSTATE ≠ 1) ∧
(∃ (s : State) (m : Nat), Quiet m s ∧ s.scan.aux = none ∧ s.get Reg.SCAN.STAT_LSTATE ≠ 1) ∧
(∃ (s : State) (m : Nat), Quiet m s ∧ s.scan.aux = none ∧ s.get Reg.SCAN.STAT_LSTATE ≠ 1) ∧
(∃ (s : State) (m : Nat), Quiet m s ∧ s.scan.aux = none ∧ s.get Reg.SCAN.STAT_LSTATE ≠ 1) ∧
(∃ (s : State) (m : Nat), Quiet m s ∧ s.scan.aux = none ∧ s.get Reg.SCAN.STAT_LSTATE = 1) ∧
(∃ (s : State) (m : Nat), Quiet m s ∧ s.scan.aux = none ∧ s.get Reg.SCAN.STAT_LSTATE = 1) ∧
(∃ (s : State) (m : Nat), Quiet m s ∧ s.scan.aux = none ∧ s.get Reg.SCAN.STAT_LSTATE = 1) ∧
(∃ (s : State) (m : Nat), Quiet m s ∧ s.scan.aux = none ∧ s.get Reg.SCAN.STAT_LSTATE = 1) ∧
(∃ (s : State) (q : AuxReq) (b : List Byte), s.scan.aux = some q ∧ s.scan.auxWaits = true ∧ s.get Reg.SCAN.STAT_LSTATE = 1
      ∧ (b = if q.op = 2 ∨ q.op = 4 then (((List.range 4).map fun j => leBytes 4 (s.get (Reg.SCAN.AUXDATA
      j))).flatten.take q.len) else [])) ∧
(∃ (s : State) (m : Nat), Quiet m s ∧ s.scan.aux.isSome = true) ∧
(∃ (s : State) (q : AuxReq) (b l : List Byte), (l = b.take q.len ++ ((List.range 4).map fun j => leBytes 4 (s.get
      (Reg.SCAN.AUXDATA j))).flatten.drop (b.take q.len).length) ∧ s.scan.aux = some q ∧ s.scan.auxWaits = false ∧ (q.op =
      1 ∨ q.op = 3)) ∧
(∃ (s : State) (q : AuxReq), s.scan.aux = some q ∧ s.scan.auxWaits = false ∧ (q.op = 2 ∨ q.op = 4)) ∧
(∃ (s : State) (q : AuxReq) (c e : Nat), s.scan.aux = some q ∧ s.scan.auxWaits = false ∧ (c = 1 ∨ (2 ≤ c ∧ 7 ≤ q.defers))
      ∧ (e = if c = 1 then 1 else 2)) ∧
(∃ (s : State) (q : AuxReq) (c : Nat) (l : List Byte), s.scan.aux = some q ∧ s.scan.auxWaits = false ∧ 2 ≤ c ∧ q.defers <
      7 ∧ (l = if q.op = 2 ∨ q.op = 4 then (((List.range 4).map fun j => leBytes 4 (s.get (Reg.SCAN.AUXDATA
      j))).flatten.take q.len) else [])) ∧
(∃ (s : State), (s.scan.aux = none ∨ s.scan.auxWaits = true)) ∧
(∃ (s : State) (q : AuxReq), s.scan.aux = some q ∧ s.scan.auxWaits = false ∧ q.sentAt + 400000 ≤ s.now) ∧
(∃ (s : State) (q : AuxReq), s.scan.aux = some q ∧ s.now < q.sentAt + 400000) ∧
(∃ (s : State), s.get Reg.SCAN.STAT_LSTATE = 2 ∧ s.get Reg.SCAN.PSRCFG_EN = 1 ∧ s.scan.psrPanel = true ∧ s.get
      Reg.SCAN.STAT_FLIPPEND = 0 ∧ max 2 (s.get Reg.SCAN.PSRCFG_IDLEFR) ≤ s.scan.idle) ∧
(∃ (s : State), (s.get Reg.SCAN.STAT_LSTATE ≠ 2 ∨ s.get Reg.SCAN.PSRCFG_EN = 0 ∨ s.scan.psrPanel = false ∨ s.get
      Reg.SCAN.STAT_FLIPPEND = 1 ∨ s.scan.idle < max 2 (s.get Reg.SCAN.PSRCFG_IDLEFR))) ∧
(∃ (s : State) (m : Nat) (data : Word), Quiet m s ∧ bit data.toNat 0 = true ∧ s.get Reg.SCAN.STAT_LSTATE = 3) ∧
(∃ (s : State) (m : Nat), Quiet m s ∧ s.get Reg.SCAN.STAT_LSTATE ≠ 3) ∧
(∃ (s : State), s.get Reg.SCAN.STAT_LSTATE = 2) ∧
(∃ (s : State), s.get Reg.SCAN.STAT_LSTATE ≠ 2) :=
  ⟨⟨(({ State.reset with scan := { State.reset.scan with hpd := true } } : State).set Reg.SCAN.STAT_LSTATE 2), 0,
      by decide +kernel⟩,
  ⟨(({ State.reset with scan := { State.reset.scan with hpd := true } } : State).set Reg.SCAN.STAT_LSTATE 2), 0,
      by decide +kernel⟩,
  ⟨(({ State.reset with scan := { State.reset.scan with hpd := true } } : State).set Reg.SCAN.STAT_LSTATE 2), 0,
      by decide +kernel⟩,
  ⟨(({ State.reset with scan := { State.reset.scan with hpd := true } } : State).set Reg.SCAN.STAT_LSTATE 2), 0,
      by decide +kernel⟩,
  ⟨(({ State.reset with scan := { State.reset.scan with hpd := true } } : State).set Reg.SCAN.STAT_LSTATE 1), 0,
      by decide +kernel⟩,
  ⟨(({ State.reset with scan := { State.reset.scan with hpd := true } } : State).set Reg.SCAN.STAT_LSTATE 1), 0,
      by decide +kernel⟩,
  ⟨(({ State.reset with scan := { State.reset.scan with hpd := true } } : State).set Reg.SCAN.STAT_LSTATE 1), 0,
      by decide +kernel⟩,
  ⟨(({ State.reset with scan := { State.reset.scan with hpd := true } } : State).set Reg.SCAN.STAT_LSTATE 1), 0,
      by decide +kernel⟩,
  ⟨(({ State.reset with scan := { State.reset.scan with hpd := true, aux := some ⟨1, 5, 1, 0, 0⟩, auxWaits := true } } :
      State).set Reg.SCAN.STAT_LSTATE 1), ⟨1, 5, 1, 0, 0⟩, [], by decide +kernel⟩,
  ⟨(({ State.reset with scan := { State.reset.scan with hpd := true, aux := some ⟨1, 0x100, 4, 0, 0⟩ } } : State).set
      Reg.SCAN.STAT_LSTATE 2), 0, by decide +kernel⟩,
  ⟨(({ State.reset with scan := { State.reset.scan with hpd := true, aux := some ⟨1, 5, 2, 0, 0⟩ } } : State).set
      Reg.SCAN.STAT_LSTATE 2), ⟨1, 5, 2, 0, 0⟩, [0x5A, 7, 9], _, rfl, by decide +kernel⟩,
  ⟨(({ State.reset with scan := { State.reset.scan with hpd := true, aux := some ⟨2, 5, 2, 0, 0⟩ } } : State).set
      Reg.SCAN.STAT_LSTATE 2), ⟨2, 5, 2, 0, 0⟩, by decide +kernel⟩,
  ⟨(({ State.reset with scan := { State.reset.scan with hpd := true, aux := some ⟨1, 0x100, 4, 7, 0⟩ } } : State).set
      Reg.SCAN.STAT_LSTATE 2), ⟨1, 0x100, 4, 7, 0⟩, 2, 2, by decide +kernel⟩,
  ⟨(({ State.reset with scan := { State.reset.scan with hpd := true, aux := some ⟨1, 0x100, 4, 0, 0⟩ } } : State).set
      Reg.SCAN.STAT_LSTATE 2), ⟨1, 0x100, 4, 0, 0⟩, 2, [], by decide +kernel⟩,
  ⟨(({ State.reset with scan := { State.reset.scan with hpd := true } } : State).set Reg.SCAN.STAT_LSTATE 2),
      by decide +kernel⟩,
  ⟨({ (({ State.reset with scan := { State.reset.scan with hpd := true, aux := some ⟨1, 0x100, 4, 0, 0⟩ } } : State).set Reg.SCAN.STAT_LSTATE 2) with now := 400000 }
      : State), ⟨1, 0x100, 4, 0, 0⟩, by decide +kernel⟩,
  ⟨(({ State.reset with scan := { State.reset.scan with hpd := true, aux := some ⟨1, 0x100, 4, 0, 0⟩ } } : State).set
      Reg.SCAN.STAT_LSTATE 2), ⟨1, 0x100, 4, 0, 0⟩, by decide +kernel⟩,
  ⟨(({ State.reset with scan := { State.reset.scan with hpd := true, psrPanel := true, idle := 100 } } : State).set
      Reg.SCAN.STAT_LSTATE 2 |>.set Reg.SCAN.PSRCFG_EN 1), by decide +kernel⟩,
  ⟨(({ State.reset with scan := { State.reset.scan with hpd := true, psrPanel := true, idle := 1 } } : State).set
      Reg.SCAN.STAT_LSTATE 2 |>.set Reg.SCAN.PSRCFG_EN 1), by decide +kernel⟩,
  ⟨(({ State.reset with scan := { State.reset.scan with hpd := true } } : State).set Reg.SCAN.STAT_LSTATE 3), 0, 1,
      by decide +kernel⟩,
  ⟨(({ State.reset with scan := { State.reset.scan with hpd := true } } : State).set Reg.SCAN.STAT_LSTATE 2), 0,
      by decide +kernel⟩,
  ⟨(({ State.reset with scan := { State.reset.scan with hpd := true } } : State).set Reg.SCAN.STAT_LSTATE 2),
      by decide +kernel⟩,
  ⟨(({ State.reset with scan := { State.reset.scan with hpd := true } } : State).set Reg.SCAN.STAT_LSTATE 1),
      by decide +kernel⟩⟩

/-- States and operands that meet the hypotheses of each clause of `Obligations.TimeCorrections`. -/
theorem witness_time_corrections :
(∃ (s : State) (m v : Nat) (data : Word), Quiet m s ∧ s.timeEn = true ∧ s.servoMode = false ∧ v = s.get Reg.TIME.INCRLO +
      data.toNat % 16 * 2 ^ 32 ∧ State.incrOk v = true) ∧
(∃ (s : State) (m v : Nat) (data : Word), Quiet m s ∧ s.timeEn = true ∧ v = s.get Reg.TIME.INCRLO + data.toNat % 16 * 2 ^
      32 ∧ (s.servoMode = true ∨ State.incrOk v = false)) ∧
(∃ (s : State) (m : Nat), Quiet m s ∧ s.timeEn = true) ∧
(∃ (s : State) (m : Nat), Quiet m s ∧ s.timeEn = false) ∧
(∃ (s : State) (d : Int) (ds : List Int), s.time.steps = d :: ds ∧ s.time.offsets = [] ∧ s.time.capPend = false ∧
      Undisturbed s) ∧
(∃ (s : State), s.time.steps = []) ∧
(∃ (s : State) (m thr : Nat) (data : Word) (o i a : Int), Quiet m s ∧ s.timeEn = true ∧ s.servoMode = true ∧ thr = s.get
      Reg.TIME.SERVO_STEPTHR ∧ s.time.steps = [] ∧ s.time.offsets = [] ∧ s.time.capPend = false ∧ Undisturbed s ∧ o =
      toSigned 64 (s.time.offLo.toNat + data.toNat * 2 ^ 32) ∧ (thr = 0 ∨ o.natAbs ≤ thr) ∧ i = clampInt (-(500000 *
      16777216)) (500000 * 16777216) (s.time.integ + (s.get Reg.TIME.SERVO_KI : Int) * o) ∧ a = clampInt (-(500000 *
      16777216)) (500000 * 16777216) ((s.get Reg.TIME.SERVO_KP : Int) * o + i)) ∧
(∃ (s : State) (m thr : Nat) (data : Word), Quiet m s ∧ s.timeEn = true ∧ s.servoMode = true ∧ thr = s.get
      Reg.TIME.SERVO_STEPTHR ∧ s.time.steps = [] ∧ s.time.offsets = [] ∧ s.time.capPend = false ∧ Undisturbed s ∧ thr ≠ 0
      ∧ thr < (toSigned 64 (s.time.offLo.toNat + data.toNat * 2 ^ 32)).natAbs) ∧
(∃ (s : State) (m : Nat), Quiet m s ∧ (s.timeEn = false ∨ s.servoMode = false) ∧ s.time.steps = [] ∧ s.time.offsets = [] ∧
      s.time.capPend = false ∧ Undisturbed s) ∧
(∃ (s : State) (m : Nat) (data : Word), Quiet m s ∧ bit data.toNat 0 = true ∧ s.time.steps = [] ∧ s.time.offsets = [] ∧
      Undisturbed s) ∧
(∃ (s : State) (m : Nat) (data : Word), Quiet m s ∧ bit data.toNat 0 = false ∧ s.time.steps = [] ∧ s.time.offsets = [] ∧
      s.time.capPend = false ∧ Undisturbed s) ∧
(∃ (s : State) (m : Nat) (data : Word), Quiet m s ∧ s.armed m = true ∧ bit data.toNat 1 = false) ∧
(∃ (s : State) (m : Nat) (data : Word), Quiet m s ∧ s.armed m = false ∧ bit data.toNat 1 = false) ∧
(∃ (s : State) (m p : Nat) (data : Word) (q : Nat × Nat) (l : List (Nat × Nat)), Quiet m s ∧ p < 64 ∧ bit data.toNat 0 =
      true ∧ Assoc.find s.time.txq p = some (q :: l) ∧ l.length < 8) ∧
(∃ (s : State) (m p : Nat) (data : Word), Quiet m s ∧ (64 ≤ p ∨ bit data.toNat 0 = false ∨ Assoc.findD s.time.txq p [] =
      [])) :=
  ⟨⟨(State.reset |>.set Reg.TIME.CTRL_EN 1), 0, 2 * 2 ^ 32, 2, by decide +kernel⟩,
  ⟨(State.reset |>.set Reg.TIME.CTRL_EN 1), 0, 4 * 2 ^ 32, 4, by decide +kernel⟩,
  ⟨(State.reset |>.set Reg.TIME.CTRL_EN 1), 0, by decide +kernel⟩,
  ⟨(State.reset), 0, by decide +kernel⟩,
  ⟨(({ State.reset with time := { State.reset.time with steps := [-5] } } : State) |>.set Reg.TIME.CTRL_EN 1), -5, [],
      by decide +kernel⟩,
  ⟨(State.reset |>.set Reg.TIME.CTRL_EN 1), by decide +kernel⟩,
  ⟨(State.reset |>.set Reg.TIME.CTRL_EN 1 |>.set Reg.TIME.CTRL_MODE 1 |>.set Reg.TIME.SERVO_KI 5), 0, 0, 0, 0, 0, 0,
      by decide +kernel⟩,
  ⟨(State.reset |>.set Reg.TIME.CTRL_EN 1 |>.set Reg.TIME.CTRL_MODE 1 |>.set Reg.TIME.SERVO_STEPTHR 5), 0, 5, 1,
      by decide +kernel⟩,
  ⟨(State.reset |>.set Reg.TIME.CTRL_EN 1), 0, by decide +kernel⟩,
  ⟨(State.reset |>.set Reg.TIME.CTRL_EN 1), 0, 1, by decide +kernel⟩,
  ⟨(State.reset |>.set Reg.TIME.CTRL_EN 1), 0, 2, by decide +kernel⟩,
  ⟨(({ State.reset with time := { State.reset.time with integ := 77 } } : State) |>.set Reg.TIME.CTRL_EN 1 |>.unlockWrite 0
      0xC3A5), 0, 17, by decide +kernel⟩,
  ⟨(State.reset |>.set Reg.TIME.CTRL_EN 1), 0, 17, by decide +kernel⟩,
  ⟨(({ State.reset with time := { State.reset.time with txq := [(3, [(1, 2), (4, 5)])] } } : State) |>.set Reg.TIME.CTRL_EN
      1), 0, 3, 1, (1, 2), [(4, 5)], by decide +kernel⟩,
  ⟨(State.reset |>.set Reg.TIME.CTRL_EN 1), 0, 3, 1, by decide +kernel⟩⟩

/-- States and operands that meet the hypotheses of each clause of `Obligations.NetworkTime`. -/
theorem witness_network_time :
(∃ (s : State) (port : Nat) (msg : PtpMsg), (s.time.ptp.cfg.ports.contains port = false ∨ msg.domain ≠
      s.time.ptp.cfg.domain ∨ msg.body = .other)) ∧
(∃ (s : State) (port : Nat) (msg : PtpMsg) (ds : PtpDataset) (utc : Int) (leap : Nat), s.time.ptp.cfg.ports.contains port
      = true ∧ msg.domain = s.time.ptp.cfg.domain ∧ msg.body = .announce ds utc leap ∧ (ds.identity =
      s.time.ptp.cfg.identity ∨ msg.source = s.time.ptp.cfg.identity)) ∧
(∃ (s : State) (port : Nat) (msg : PtpMsg) (ds : PtpDataset) (utc : Int) (leap : Nat), s.time.ptp.cfg.ports.contains port
      = true ∧ msg.domain = s.time.ptp.cfg.domain ∧ msg.body = .announce ds utc leap ∧ ds.identity ≠
      s.time.ptp.cfg.identity ∧ msg.source ≠ s.time.ptp.cfg.identity ∧ s.time.ptp.foreign = [] ∧ 0 < s.ptpReceipt ∧
      s.time.ptp.cfg.leader = false ∧ s.time.ptp.gm ≠ some ds.identity) ∧
(∃ (s : State) (port : Nat) (msg : PtpMsg), s.time.ptp.cfg.ports.contains port = true ∧ msg.domain = s.time.ptp.cfg.domain
      ∧ msg.body = .syncTwoStep ∧ s.ptpFromParent port msg.source = true) ∧
(∃ (s : State) (port stamp : Nat) (msg : PtpMsg) (o : Int) (t1 : Nat) (l : List Word), s.time.ptp.cfg.ports.contains port
      = true ∧ msg.domain = s.time.ptp.cfg.domain ∧ msg.body = .syncOneStep t1 l ∧ s.ptpFromParent port msg.source = true
      ∧ s.beforeStep stamp = false ∧ o = (stamp : Int) - (t1 + msg.correction) - s.time.ptp.pathDelay ∧ (s.time.ptp.first
      = true ∨ (s.inService = true ∧ s.time.ptp.cfg.stepLimitNs < o.natAbs)) ∧ s.timeEn = true) ∧
(∃ (s : State) (port stamp : Nat) (msg : PtpMsg) (o : Int) (t1 : Nat) (l : List Word), s.time.ptp.cfg.ports.contains port
      = true ∧ msg.domain = s.time.ptp.cfg.domain ∧ msg.body = .syncOneStep t1 l ∧ s.ptpFromParent port msg.source = true
      ∧ s.beforeStep stamp = false ∧ o = (stamp : Int) - (t1 + msg.correction) - s.time.ptp.pathDelay ∧ s.time.ptp.first =
      false ∧ (s.inService = false ∨ o.natAbs ≤ s.time.ptp.cfg.stepLimitNs) ∧ s.timeEn = true ∧ s.servoMode = false) ∧
(∃ (s : State) (port : Nat) (msg : PtpMsg) (q r stamp2 : Nat) (corr : Int) (l : List Word), s.time.ptp.cfg.ports.contains
      port = true ∧ msg.domain = s.time.ptp.cfg.domain ∧ msg.body = .followUp r l ∧ s.ptpFromParent port msg.source = true
      ∧ s.time.ptp.sync = some (q, stamp2, corr) ∧ q = msg.seq ∧ s.beforeStep stamp2 = false) ∧
(∃ (s : State) (port : Nat) (msg : PtpMsg), s.time.ptp.cfg.ports.contains port = true ∧ msg.domain = s.time.ptp.cfg.domain
      ∧ s.ptpFromParent port msg.source = false) ∧
(∃ (s : State) (port : Nat) (msg : PtpMsg) (r : Nat) (l : List Word), s.time.ptp.cfg.ports.contains port = true ∧
      msg.domain = s.time.ptp.cfg.domain ∧ msg.body = .followUp r l ∧ ((s.time.ptp.sync.map fun p => p.1) ≠ some msg.seq)) ∧
(∃ (s : State) (port stamp : Nat) (msg : PtpMsg) (t1 : Nat) (l : List Word), s.time.ptp.cfg.ports.contains port = true ∧
      msg.domain = s.time.ptp.cfg.domain ∧ msg.body = .syncOneStep t1 l ∧ s.ptpFromParent port msg.source = true ∧
      s.beforeStep stamp = true) ∧
(∃ (s : State) (port : Nat) (msg : PtpMsg) (r : Nat), s.time.ptp.cfg.ports.contains port = true ∧ msg.domain =
      s.time.ptp.cfg.domain ∧ msg.body = .delayReq r ∧ Assoc.findD s.time.ptp.ports port .listening = .leader) ∧
(∃ (s : State) (port : Nat) (msg : PtpMsg) (r : Nat), s.time.ptp.cfg.ports.contains port = true ∧ msg.domain =
      s.time.ptp.cfg.domain ∧ msg.body = .delayReq r ∧ Assoc.findD s.time.ptp.ports port .listening ≠ .leader) ∧
(∃ (s : State) (port : Nat) (msg : PtpMsg) (t1 : Int) (t2 t3 t4 : Nat), s.time.ptp.cfg.ports.contains port = true ∧
      msg.domain = s.time.ptp.cfg.domain ∧ msg.body = .delayResp s.time.ptp.cfg.identity t4 ∧ s.ptpFromParent port
      msg.source = true ∧ s.time.ptp.delayReq = some (msg.seq, t3) ∧ s.time.ptp.exch = some (t1, t2) ∧ s.beforeStep t2 =
      false ∧ s.beforeStep t3 = false) ∧
(∃ (s : State) (port : Nat) (msg : PtpMsg) (r t4 : Nat), s.time.ptp.cfg.ports.contains port = true ∧ msg.domain =
      s.time.ptp.cfg.domain ∧ msg.body = .delayResp r t4 ∧ (r ≠ s.time.ptp.cfg.identity ∨ (s.time.ptp.delayReq.map fun p
      => p.1) ≠ some msg.seq ∨ s.time.ptp.exch = none)) ∧
(∃ (s u : State) (port q : Nat), s.time.ptp.cfg.ports.contains port = true ∧ u = s.ptpElect ∧ u.ptpDue port .sync = true ∧
      Assoc.findD u.time.ptp.ports port .listening = .leader ∧ q = Assoc.findD u.time.ptp.seqs (State.ptpSeqKey port
      .sync) 0) ∧
(∃ (s u : State) (port q : Nat), s.time.ptp.cfg.ports.contains port = true ∧ u = s.ptpElect ∧ u.ptpDue port .announce =
      true ∧ Assoc.findD u.time.ptp.ports port .listening = .leader ∧ q = Assoc.findD u.time.ptp.seqs (State.ptpSeqKey
      port .announce) 0) ∧
(∃ (s u : State) (port q : Nat), s.time.ptp.cfg.ports.contains port = true ∧ u = s.ptpElect ∧ u.ptpDue port .delayReq =
      true ∧ Assoc.findD u.time.ptp.ports port .listening = .follower ∧ q = Assoc.findD u.time.ptp.seqs (State.ptpSeqKey
      port .delayReq) 0) ∧
(∃ (s u : State) (port : Nat) (k : PtpKind), s.time.ptp.cfg.ports.contains port = true ∧ u = s.ptpElect ∧ (u.ptpDue port k
      = false ∨ k = .followUp ∨ k = .delayResp ∨ Assoc.findD u.time.ptp.ports port .listening ≠ (if k = .delayReq then
      .follower else .leader))) ∧
(∃ (s : State) (port : Nat), s.time.ptp.cfg.ports.contains port = false) ∧
(∃ (s : State), s.time.ptp.parent.isSome = true ∧ s.time.ptp.syncLost = false ∧ s.time.ptp.lastSync + s.ptpReceipt ≤
      s.now) ∧
(∃ (s : State), (s.time.ptp.parent = none ∨ s.time.ptp.syncLost = true ∨ s.now < s.time.ptp.lastSync + s.ptpReceipt)) ∧
(∃ (s : State) (a : Nat), s.time.ptp.belowSince = some a ∧ a + 10000000000 ≤ s.now ∧ s.time.ptp.locked = false) ∧
(∃ (s : State), (s.time.ptp.belowSince.all (fun a => s.now < a + 10000000000) = true ∨ s.time.ptp.locked = true)) ∧
(∃ (s : State) (m : Nat), Quiet m s) :=
  ⟨⟨(State.reset), 3, ⟨0, 1, 2, false, 0, .syncTwoStep⟩, by decide +kernel⟩,
  ⟨(({ State.reset with time := { State.reset.time with ptp := { State.reset.time.ptp with cfg := { ports := [3], leader := false, hybrid := false, domain := 7, logSync := 0, logAnnounce := 0, logDelayReq := 0, receiptTimeout := 3, priority1 := 128, priority2 := 128, identity := 55, stepLimitNs := 1000, slewMaxPpb := 1000, alarmNs := 0 } } } }
      : State)), 3, ⟨7, 1, 55, false, 0, .announce ⟨1, 6, 0, 0, 0, 99, 0⟩ 37 0⟩, ⟨1, 6, 0, 0, 0, 99, 0⟩, 37, 0,
      by decide +kernel⟩,
  ⟨(({ State.reset with time := { State.reset.time with ptp := { State.reset.time.ptp with cfg := { ports := [3], leader := false, hybrid := false, domain := 7, logSync := 0, logAnnounce := 0, logDelayReq := 0, receiptTimeout := 3, priority1 := 128, priority2 := 128, identity := 55, stepLimitNs := 1000, slewMaxPpb := 1000, alarmNs := 0 } } } }
      : State)), 3, ⟨7, 1, 99, false, 0, .announce ⟨1, 6, 0, 0, 0, 99, 0⟩ 37 0⟩, ⟨1, 6, 0, 0, 0, 99, 0⟩, 37, 0,
      by decide +kernel⟩,
  ⟨(({ State.reset with time := { State.reset.time with ptp := { State.reset.time.ptp with cfg := { ports := [3], leader := false, hybrid := false, domain := 7, logSync := 0, logAnnounce := 0, logDelayReq := 0, receiptTimeout := 3, priority1 := 128, priority2 := 128, identity := 55, stepLimitNs := 1000, slewMaxPpb := 1000, alarmNs := 0 }, ports := [(3, .follower)], parent := some ⟨3, 99, ⟨1, 6, 0, 0, 0, 99, 0⟩, 37, 0, 0⟩ } } }
      : State)), 3, ⟨7, 1, 99, false, 0, .syncTwoStep⟩, by decide +kernel⟩,
  ⟨({ (({ State.reset with time := { State.reset.time with ptp := { State.reset.time.ptp with cfg := { ports := [3], leader := false, hybrid := false, domain := 7, logSync := 0, logAnnounce := 0, logDelayReq := 0, receiptTimeout := 3, priority1 := 128, priority2 := 128, identity := 55, stepLimitNs := 1000, slewMaxPpb := 1000, alarmNs := 0 }, ports := [(3, .follower)], parent := some ⟨3, 99, ⟨1, 6, 0, 0, 0, 99, 0⟩, 37, 0, 0⟩, first := true } } } : State) |>.set Reg.TIME.CTRL_EN 1) with now := 2000 }
      : State), 3, 5, ⟨7, 1, 99, false, 0, .syncOneStep 2 []⟩, 3, 2, [], by decide +kernel⟩,
  ⟨({ (({ State.reset with time := { State.reset.time with ptp := { State.reset.time.ptp with cfg := { ports := [3], leader := false, hybrid := false, domain := 7, logSync := 0, logAnnounce := 0, logDelayReq := 0, receiptTimeout := 3, priority1 := 128, priority2 := 128, identity := 55, stepLimitNs := 1000, slewMaxPpb := 1000, alarmNs := 0 }, ports := [(3, .follower)], parent := some ⟨3, 99, ⟨1, 6, 0, 0, 0, 99, 0⟩, 37, 0, 0⟩, first := false } } } : State) |>.set Reg.TIME.CTRL_EN 1) with now := 2000 }
      : State), 3, 5, ⟨7, 1, 99, false, 0, .syncOneStep 2 []⟩, 3, 2, [], by decide +kernel⟩,
  ⟨(({ State.reset with time := { State.reset.time with ptp := { State.reset.time.ptp with cfg := { ports := [3], leader := false, hybrid := false, domain := 7, logSync := 0, logAnnounce := 0, logDelayReq := 0, receiptTimeout := 3, priority1 := 128, priority2 := 128, identity := 55, stepLimitNs := 1000, slewMaxPpb := 1000, alarmNs := 0 }, ports := [(3, .follower)], parent := some ⟨3, 99, ⟨1, 6, 0, 0, 0, 99, 0⟩, 37, 0, 0⟩, sync := some (1, 9, 4) } } }
      : State) |>.set Reg.TIME.CTRL_EN 1), 3, ⟨7, 1, 99, false, 2, .followUp 1 []⟩, 1, 1, 9, 4, [], by decide +kernel⟩,
  ⟨(({ State.reset with time := { State.reset.time with ptp := { State.reset.time.ptp with cfg := { ports := [3], leader := false, hybrid := false, domain := 7, logSync := 0, logAnnounce := 0, logDelayReq := 0, receiptTimeout := 3, priority1 := 128, priority2 := 128, identity := 55, stepLimitNs := 1000, slewMaxPpb := 1000, alarmNs := 0 } } } }
      : State)), 3, ⟨7, 1, 99, false, 0, .other⟩, by decide +kernel⟩,
  ⟨(({ State.reset with time := { State.reset.time with ptp := { State.reset.time.ptp with cfg := { ports := [3], leader := false, hybrid := false, domain := 7, logSync := 0, logAnnounce := 0, logDelayReq := 0, receiptTimeout := 3, priority1 := 128, priority2 := 128, identity := 55, stepLimitNs := 1000, slewMaxPpb := 1000, alarmNs := 0 }, ports := [(3, .follower)], parent := some ⟨3, 99, ⟨1, 6, 0, 0, 0, 99, 0⟩, 37, 0, 0⟩ } } }
      : State)), 3, ⟨7, 1, 99, false, 2, .followUp 1 []⟩, 1, [], by decide +kernel⟩,
  ⟨(({ State.reset with time := { State.reset.time with ptp := { State.reset.time.ptp with cfg := { ports := [3], leader := false, hybrid := false, domain := 7, logSync := 0, logAnnounce := 0, logDelayReq := 0, receiptTimeout := 3, priority1 := 128, priority2 := 128, identity := 55, stepLimitNs := 1000, slewMaxPpb := 1000, alarmNs := 0 }, ports := [(3, .follower)], parent := some ⟨3, 99, ⟨1, 6, 0, 0, 0, 99, 0⟩, 37, 0, 0⟩ } } }
      : State) |>.set Reg.TIME.CTRL_EN 1 |>.set Reg.TIME.LASTSTEPLO 9), 3, 5, ⟨7, 1, 99, false, 0, .syncOneStep 2 []⟩, 2,
      [], by decide +kernel⟩,
  ⟨(({ State.reset with time := { State.reset.time with ptp := { State.reset.time.ptp with cfg := { ports := [3], leader := true, hybrid := false, domain := 7, logSync := 0, logAnnounce := 0, logDelayReq := 0, receiptTimeout := 3, priority1 := 128, priority2 := 128, identity := 55, stepLimitNs := 1000, slewMaxPpb := 1000, alarmNs := 0 }, ports := [(3, .leader)], gm := some 55 } } }
      : State)), 3, ⟨7, 1, 99, true, 0, .delayReq 8⟩, 8, by decide +kernel⟩,
  ⟨(({ State.reset with time := { State.reset.time with ptp := { State.reset.time.ptp with cfg := { ports := [3], leader := false, hybrid := false, domain := 7, logSync := 0, logAnnounce := 0, logDelayReq := 0, receiptTimeout := 3, priority1 := 128, priority2 := 128, identity := 55, stepLimitNs := 1000, slewMaxPpb := 1000, alarmNs := 0 }, ports := [(3, .follower)], parent := some ⟨3, 99, ⟨1, 6, 0, 0, 0, 99, 0⟩, 37, 0, 0⟩ } } }
      : State)), 3, ⟨7, 1, 99, true, 0, .delayReq 8⟩, 8, by decide +kernel⟩,
  ⟨(({ State.reset with time := { State.reset.time with ptp := { State.reset.time.ptp with cfg := { ports := [3], leader := false, hybrid := false, domain := 7, logSync := 0, logAnnounce := 0, logDelayReq := 0, receiptTimeout := 3, priority1 := 128, priority2 := 128, identity := 55, stepLimitNs := 1000, slewMaxPpb := 1000, alarmNs := 0 }, ports := [(3, .follower)], parent := some ⟨3, 99, ⟨1, 6, 0, 0, 0, 99, 0⟩, 37, 0, 0⟩, delayReq := some (1, 4), exch := some (2, 3) } } }
      : State)), 3, ⟨7, 1, 99, false, 0, .delayResp 55 8⟩, 2, 3, 4, 8, by decide +kernel⟩,
  ⟨(({ State.reset with time := { State.reset.time with ptp := { State.reset.time.ptp with cfg := { ports := [3], leader := false, hybrid := false, domain := 7, logSync := 0, logAnnounce := 0, logDelayReq := 0, receiptTimeout := 3, priority1 := 128, priority2 := 128, identity := 55, stepLimitNs := 1000, slewMaxPpb := 1000, alarmNs := 0 }, ports := [(3, .follower)], parent := some ⟨3, 99, ⟨1, 6, 0, 0, 0, 99, 0⟩, 37, 0, 0⟩ } } }
      : State)), 3, ⟨7, 1, 99, false, 0, .delayResp 55 8⟩, 55, 8, by decide +kernel⟩,
  ⟨({ (({ State.reset with time := { State.reset.time with ptp := { State.reset.time.ptp with cfg := { ports := [3], leader := true, hybrid := false, domain := 7, logSync := 0, logAnnounce := 0, logDelayReq := 0, receiptTimeout := 3, priority1 := 128, priority2 := 128, identity := 55, stepLimitNs := 1000, slewMaxPpb := 1000, alarmNs := 0 }, ports := [(3, .leader)], gm := some 55 } } } : State)) with now := 3000000000 }
      : State),
      (({ (({ State.reset with time := { State.reset.time with ptp := { State.reset.time.ptp with cfg := { ports := [3], leader := true, hybrid := false, domain := 7, logSync := 0, logAnnounce := 0, logDelayReq := 0, receiptTimeout := 3, priority1 := 128, priority2 := 128, identity := 55, stepLimitNs := 1000, slewMaxPpb := 1000, alarmNs := 0 }, ports := [(3, .leader)], gm := some 55 } } } : State)) with now := 3000000000 }
      : State).ptpElect), 3, 0, by decide +kernel⟩,
  ⟨({ (({ State.reset with time := { State.reset.time with ptp := { State.reset.time.ptp with cfg := { ports := [3], leader := true, hybrid := false, domain := 7, logSync := 0, logAnnounce := 0, logDelayReq := 0, receiptTimeout := 3, priority1 := 128, priority2 := 128, identity := 55, stepLimitNs := 1000, slewMaxPpb := 1000, alarmNs := 0 }, ports := [(3, .leader)], gm := some 55 } } } : State)) with now := 3000000000 }
      : State),
      (({ (({ State.reset with time := { State.reset.time with ptp := { State.reset.time.ptp with cfg := { ports := [3], leader := true, hybrid := false, domain := 7, logSync := 0, logAnnounce := 0, logDelayReq := 0, receiptTimeout := 3, priority1 := 128, priority2 := 128, identity := 55, stepLimitNs := 1000, slewMaxPpb := 1000, alarmNs := 0 }, ports := [(3, .leader)], gm := some 55 } } } : State)) with now := 3000000000 }
      : State).ptpElect), 3, 0, by decide +kernel⟩,
  ⟨(({ State.reset with time := { State.reset.time with ptp := { State.reset.time.ptp with cfg := { ports := [3], leader := false, hybrid := false, domain := 7, logSync := 0, logAnnounce := 0, logDelayReq := 0, receiptTimeout := 3, priority1 := 128, priority2 := 128, identity := 55, stepLimitNs := 1000, slewMaxPpb := 1000, alarmNs := 0 }, ports := [(3, .follower)], parent := some ⟨3, 99, ⟨1, 6, 0, 0, 0, 99, 0⟩, 37, 0, 0⟩, foreign := [⟨3, 99, ⟨1, 6, 0, 0, 0, 99, 0⟩, 37, 0, 0⟩], gm := some 99, utcSeen := some (37, 0) } } }
      : State)),
      ((({ State.reset with time := { State.reset.time with ptp := { State.reset.time.ptp with cfg := { ports := [3], leader := false, hybrid := false, domain := 7, logSync := 0, logAnnounce := 0, logDelayReq := 0, receiptTimeout := 3, priority1 := 128, priority2 := 128, identity := 55, stepLimitNs := 1000, slewMaxPpb := 1000, alarmNs := 0 }, ports := [(3, .follower)], parent := some ⟨3, 99, ⟨1, 6, 0, 0, 0, 99, 0⟩, 37, 0, 0⟩, foreign := [⟨3, 99, ⟨1, 6, 0, 0, 0, 99, 0⟩, 37, 0, 0⟩], gm := some 99, utcSeen := some (37, 0) } } }
      : State)).ptpElect), 3, 0, by decide +kernel⟩,
  ⟨(({ State.reset with time := { State.reset.time with ptp := { State.reset.time.ptp with cfg := { ports := [3], leader := true, hybrid := false, domain := 7, logSync := 0, logAnnounce := 0, logDelayReq := 0, receiptTimeout := 3, priority1 := 128, priority2 := 128, identity := 55, stepLimitNs := 1000, slewMaxPpb := 1000, alarmNs := 0 } } } }
      : State)),
      ((({ State.reset with time := { State.reset.time with ptp := { State.reset.time.ptp with cfg := { ports := [3], leader := true, hybrid := false, domain := 7, logSync := 0, logAnnounce := 0, logDelayReq := 0, receiptTimeout := 3, priority1 := 128, priority2 := 128, identity := 55, stepLimitNs := 1000, slewMaxPpb := 1000, alarmNs := 0 } } } }
      : State)).ptpElect), 3, .sync, by decide +kernel⟩,
  ⟨(({ State.reset with time := { State.reset.time with ptp := { State.reset.time.ptp with cfg := { ports := [3], leader := true, hybrid := false, domain := 7, logSync := 0, logAnnounce := 0, logDelayReq := 0, receiptTimeout := 3, priority1 := 128, priority2 := 128, identity := 55, stepLimitNs := 1000, slewMaxPpb := 1000, alarmNs := 0 } } } }
      : State)), 4, by decide +kernel⟩,
  ⟨(({ State.reset with time := { State.reset.time with ptp := { State.reset.time.ptp with cfg := { ports := [3], leader := false, hybrid := false, domain := 7, logSync := 0, logAnnounce := 0, logDelayReq := 0, receiptTimeout := 0, priority1 := 128, priority2 := 128, identity := 55, stepLimitNs := 1000, slewMaxPpb := 1000, alarmNs := 0 }, ports := [(3, .follower)], parent := some ⟨3, 99, ⟨1, 6, 0, 0, 0, 99, 0⟩, 37, 0, 0⟩, lastSync := 0, syncLost := false } } }
      : State)), by decide +kernel⟩,
  ⟨(({ State.reset with time := { State.reset.time with ptp := { State.reset.time.ptp with cfg := { ports := [3], leader := false, hybrid := false, domain := 7, logSync := 0, logAnnounce := 0, logDelayReq := 0, receiptTimeout := 3, priority1 := 128, priority2 := 128, identity := 55, stepLimitNs := 1000, slewMaxPpb := 1000, alarmNs := 0 }, ports := [(3, .follower)], parent := some ⟨3, 99, ⟨1, 6, 0, 0, 0, 99, 0⟩, 37, 0, 0⟩ } } }
      : State)), by decide +kernel⟩,
  ⟨{ (({ State.reset with time := { State.reset.time with ptp := { State.reset.time.ptp with belowSince := some 5 } } } : State)) with now := 10000000005 },
      5, by decide +kernel⟩,
  ⟨(({ State.reset with time := { State.reset.time with ptp := { State.reset.time.ptp with belowSince := some 5 } } } :
      State)), by decide +kernel⟩,
  ⟨(State.reset |>.set Reg.LODE.CTRL_EN 1), 0, by decide +kernel⟩⟩

/-- States and operands that meet the hypotheses of each clause of `Obligations.Lodestone`. -/
theorem witness_lodestone :
(∃ (s : State) (r : Nat), s.lodeEn = true ∧ s.refRipe r = true ∧ s.refQualified r = false) ∧
(∃ (s : State) (r : Nat), (s.lodeEn = false ∨ s.refRipe r = false ∨ s.refQualified r = true)) ∧
(∃ (s : State) (r : Nat), (∀ p ∈ s.lode.qual, ∀ q ∈ s.lode.qual, p.1 = q.1 → p = q) ∧ s.refQualified r = true ∧ s.refGone
      r = true ∧ r ≠ s.loopRef) ∧
(∃ (s : State) (r : Nat), (s.refQualified r = false ∨ s.refGone r = false ∨ r = s.loopRef)) ∧
(∃ (s : State) (r : Nat), (∀ p ∈ s.lode.qual, ∀ q ∈ s.lode.qual, p.1 = q.1 → p = q) ∧ r = s.loopRef ∧ s.refQualified r =
      true ∧ s.refGone r = true) ∧
(∃ (s : State) (n : Nat), s.lodeEn = true ∧ s.loopRef ≠ 0 ∧ s.refQualified s.loopRef = true ∧ s.refGone s.loopRef = true ∧
      s.prioList = [s.loopRef, n] ∧ n ≠ s.loopRef ∧ s.get Reg.LODE.SEL_AUTO = 1 ∧ s.lode.qual = [(s.loopRef, 0), (n, 0)] ∧
      1 ≤ s.get Reg.LODE.STAT_STATE ∧ s.get Reg.LODE.STAT_STATE ≤ 3) ∧
(∃ (s : State), s.lodeEn = true ∧ s.loopRef ≠ 0 ∧ s.refQualified s.loopRef = true ∧ s.refGone s.loopRef = true ∧
      s.prioList = [s.loopRef] ∧ s.get Reg.LODE.SEL_AUTO = 1 ∧ s.lode.qual = [(s.loopRef, 0)] ∧ s.lode.avg.length < 10 ∧ 1
      ≤ s.get Reg.LODE.STAT_STATE ∧ s.get Reg.LODE.STAT_STATE ≤ 3) ∧
(∃ (s : State), s.lodeEn = true ∧ s.loopRef ≠ 0 ∧ s.refQualified s.loopRef = true ∧ s.refGone s.loopRef = true ∧
      s.prioList = [s.loopRef] ∧ s.get Reg.LODE.SEL_AUTO = 1 ∧ s.lode.qual = [(s.loopRef, 0)] ∧ 10 ≤ s.lode.avg.length ∧ 1
      ≤ s.get Reg.LODE.STAT_STATE ∧ s.get Reg.LODE.STAT_STATE ≤ 3) ∧
(∃ (s : State), (s.refQualified s.loopRef = false ∨ s.refGone s.loopRef = false)) ∧
(∃ (s : State), (s.lodeEn = false ∨ (s.selectedRef = s.loopRef ∧ s.loopRef ≠ 0))) ∧
(∃ (s : State) (n : Nat), s.lodeEn = true ∧ n = s.selectedRef ∧ n ≠ s.loopRef ∧ n ≠ 0) ∧
(∃ (s : State), s.lodeEn = true ∧ s.selectedRef = 0) ∧
(∃ (s : State) (r : Nat), 2 ≤ r ∧ r ≠ 8 ∧ (s.lodeEn = false ∨ r ≠ s.loopRef ∨ s.loopState = 0 ∨ 4 ≤ s.loopState)) ∧
(∃ (s : State) (r : Nat), 2 ≤ r ∧ r ≠ 8 ∧ (s.lodeEn = false ∨ r ≠ s.loopRef ∨ s.loopState = 0 ∨ 4 ≤ s.loopState)) ∧
(∃ (s : State) (r : Nat), (r = 1 ∨ r = 8) ∧ (s.lodeEn = false ∨ r ≠ s.loopRef ∨ s.loopState = 0 ∨ 4 ≤ s.loopState)) ∧
(∃ (s : State) (r : Nat), s.lodeEn = true ∧ r = s.loopRef ∧ r ≠ 0 ∧ (s.loopState = 1 ∨ s.loopState = 2 ∨ s.loopState = 3)) ∧
(∃ (s : State) (a : Nat), s.lode.inside = some a ∧ a + s.stageDwell s.loopState ≤ s.now ∧ (s.loopState = 1 ∨ s.loopState =
      2) ∧ s.load.on = false) ∧
(∃ (s : State), s.load.on = false ∧ (s.lode.inside.all (fun a => s.now < a + s.stageDwell s.loopState) = true ∨
      s.loopState = 0 ∨ 3 ≤ s.loopState)) ∧
(∃ (s : State) (n : Nat), s.loopState = 4 ∧ n = s.get Reg.LODE.HOLDSECS + 1 ∧ s.lode.holdAt + 1000000000 * n ≤ s.now ∧ n <
      2 ^ 32) ∧
(∃ (s : State), (s.loopState ≠ 4 ∨ s.now < s.lode.holdAt + 1000000000 * (s.get Reg.LODE.HOLDSECS + 1))) ∧
(∃ (s u : State) (m : Nat), Quiet m s ∧ u = s.loopStepMoves) ∧
(∃ (s : State) (d : Int), d = toSigned 32 (s.get Reg.LODE.LOOPREM) ∧ s.get Reg.LODE.STAT_PHSTEPPEND = 1 ∧ d.natAbs *
      1000000 ≤ (s.now - s.lode.stepAt) * s.phSlew) ∧
(∃ (s : State) (d e : Int), d = toSigned 32 (s.get Reg.LODE.LOOPREM) ∧ s.get Reg.LODE.STAT_PHSTEPPEND = 1 ∧ e = ((s.now -
      s.lode.stepAt) * s.phSlew / 1000000 : Nat) ∧ 0 < e ∧ e < d) ∧
(∃ (s : State) (d e : Int), d = toSigned 32 (s.get Reg.LODE.LOOPREM) ∧ s.get Reg.LODE.STAT_PHSTEPPEND = 1 ∧ e = ((s.now -
      s.lode.stepAt) * s.phSlew / 1000000 : Nat) ∧ 0 < e ∧ e < -d) ∧
(∃ (s : State), (s.get Reg.LODE.STAT_PHSTEPPEND = 0 ∨ (s.get Reg.LODE.LOOPREM ≠ 0 ∧ (s.now - s.lode.stepAt) * s.phSlew <
      1000000))) ∧
(State.reset.lodeEn = false) ∧
((({ State.reset with inUse := [((Reg.LODE.CLKOUT_CFG_SRC 1).addr, 10)] } : State).set Reg.LODE.CTRL_EN 1).lodeEn = true ∧
      (({ State.reset with inUse := [((Reg.LODE.CLKOUT_CFG_SRC 1).addr, 10)] } : State).set Reg.LODE.CTRL_EN 1).use
      (Reg.LODE.CLKOUT_CFG_SRC 1) = 10 ∧ (({ State.reset with inUse := [((Reg.LODE.CLKOUT_CFG_SRC 1).addr, 10)] } :
      State).set Reg.LODE.CTRL_EN 1).use (Reg.LODE.CLKOUT_CFG_PLANE 1) = 0) ∧
(∃ (s : State) (m p : Nat), Quiet m s ∧ p < 16) ∧
(∃ (p : Nat), 16 ≤ p) ∧
(∃ (s : State) (m r : Nat) (data : Word), Quiet m s ∧ s.lodeEn = true ∧ r = (((s.set Reg.LODE.SEL_AUTO (bits data.toNat 31
      31)).set Reg.LODE.SEL_REVERT (bits data.toNat 30 30)).set Reg.LODE.SEL_MANREF (bits data.toNat 3 0)).selectedRef) ∧
(∃ (s : State) (m r : Nat) (data : Word), Quiet m s ∧ s.lodeEn = true ∧ r = (s.set Reg.LODE.PRIO data.toNat).selectedRef) ∧
(∃ (s : State) (m : Nat), Quiet m s ∧ s.lodeEn = false) :=
  ⟨⟨{ (({ State.reset with lode := { State.reset.lode with seen := [(6, ⟨3000000000, 3000000000, false, some 0, 3000000000, 0, true⟩)] } } : State) |>.set Reg.LODE.CTRL_EN 1) with now := 3000000000 },
      6, by decide +kernel⟩,
  ⟨(State.reset |>.set Reg.LODE.CTRL_EN 1), 6, by decide +kernel⟩,
  ⟨(({ State.reset with lode := { State.reset.lode with qual := [(6, 0)] } } : State) |>.set Reg.LODE.CTRL_EN 1), 6,
      by decide +kernel, by decide +kernel⟩,
  ⟨(State.reset |>.set Reg.LODE.CTRL_EN 1), 6, by decide +kernel⟩,
  ⟨(({ State.reset with lode := { State.reset.lode with qual := [(6, 0)] } } : State) |>.set Reg.LODE.CTRL_EN 1 |>.set
      Reg.LODE.STAT_REF 6 |>.set Reg.LODE.PRIO 6 |>.set Reg.LODE.SEL_AUTO 1 |>.set Reg.LODE.STAT_STATE 3), 6,
      by decide +kernel, by decide +kernel⟩,
  ⟨(({ State.reset with lode := { State.reset.lode with qual := [(6, 0), (7, 0)] } } : State) |>.set Reg.LODE.CTRL_EN 1
      |>.set Reg.LODE.STAT_REF 6 |>.set Reg.LODE.PRIO 0x76 |>.set Reg.LODE.SEL_AUTO 1 |>.set Reg.LODE.STAT_STATE 3), 7,
      by decide +kernel⟩,
  ⟨(({ State.reset with lode := { State.reset.lode with qual := [(6, 0)] } } : State) |>.set Reg.LODE.CTRL_EN 1 |>.set
      Reg.LODE.STAT_REF 6 |>.set Reg.LODE.PRIO 6 |>.set Reg.LODE.SEL_AUTO 1 |>.set Reg.LODE.STAT_STATE 3),
      by decide +kernel⟩,
  ⟨(({ State.reset with lode := { State.reset.lode with qual := [(6, 0)], avg := List.replicate 10 (5, 6) } } : State)
      |>.set Reg.LODE.CTRL_EN 1 |>.set Reg.LODE.STAT_REF 6 |>.set Reg.LODE.PRIO 6 |>.set Reg.LODE.SEL_AUTO 1 |>.set
      Reg.LODE.STAT_STATE 3), by decide +kernel⟩,
  ⟨(State.reset |>.set Reg.LODE.CTRL_EN 1), by decide +kernel⟩,
  ⟨(({ State.reset with lode := { State.reset.lode with qual := [(6, 0)] } } : State) |>.set Reg.LODE.CTRL_EN 1 |>.set
      Reg.LODE.STAT_REF 6 |>.set Reg.LODE.PRIO 6 |>.set Reg.LODE.SEL_AUTO 1), by decide +kernel⟩,
  ⟨(({ State.reset with lode := { State.reset.lode with qual := [(6, 0), (7, 0)] } } : State) |>.set Reg.LODE.CTRL_EN 1
      |>.set Reg.LODE.STAT_REF 6 |>.set Reg.LODE.PRIO 6 |>.set Reg.LODE.SEL_AUTO 0 |>.set Reg.LODE.SEL_MANREF 7 |>.set
      Reg.LODE.STAT_STATE 3), 7, by decide +kernel⟩,
  ⟨(State.reset |>.set Reg.LODE.CTRL_EN 1 |>.set Reg.LODE.STAT_STATE 3), by decide +kernel⟩,
  ⟨(State.reset |>.set Reg.LODE.CTRL_EN 1), 6, by decide +kernel⟩,
  ⟨(State.reset |>.set Reg.LODE.CTRL_EN 1), 6, by decide +kernel⟩,
  ⟨(State.reset |>.set Reg.LODE.CTRL_EN 1), 1, by decide +kernel⟩,
  ⟨(({ State.reset with lode := { State.reset.lode with qual := [(6, 0)] } } : State) |>.set Reg.LODE.CTRL_EN 1 |>.set
      Reg.LODE.STAT_REF 6 |>.set Reg.LODE.STAT_STATE 2), 6, by decide +kernel⟩,
  ⟨{ (({ State.reset with lode := { State.reset.lode with inside := some 0 } } : State) |>.set Reg.LODE.CTRL_EN 1 |>.set Reg.LODE.STAT_STATE 1 |>.set Reg.LODE.DWELL_ACQDWELL 1) with now := 1000000000 },
      0, by decide +kernel⟩,
  ⟨(State.reset |>.set Reg.LODE.CTRL_EN 1), by decide +kernel⟩,
  ⟨{ (State.reset |>.set Reg.LODE.CTRL_EN 1 |>.set Reg.LODE.STAT_STATE 4 |>.set Reg.LODE.HOLDCFG_HOLDTIME 100) with now := 1000000000 },
      1, by decide +kernel⟩,
  ⟨(State.reset |>.set Reg.LODE.CTRL_EN 1), by decide +kernel⟩,
  ⟨(State.reset |>.set Reg.LODE.CTRL_EN 1), ((State.reset |>.set Reg.LODE.CTRL_EN 1).loopStepMoves), 0, by decide +kernel⟩,
  ⟨{ (State.reset |>.set Reg.LODE.CTRL_EN 1 |>.set Reg.LODE.LOOPREM 5 |>.set Reg.LODE.STAT_PHSTEPPEND 1) with now := 1000000000 },
      5, by decide +kernel⟩,
  ⟨{ (State.reset |>.set Reg.LODE.CTRL_EN 1 |>.set Reg.LODE.LOOPREM 5 |>.set Reg.LODE.PHSLEW 1 |>.set Reg.LODE.STAT_PHSTEPPEND 1) with now := 1000000 },
      5, 1, by decide +kernel⟩,
  ⟨{ (State.reset |>.set Reg.LODE.CTRL_EN 1 |>.set Reg.LODE.LOOPREM (2 ^ 32 - 5) |>.set Reg.LODE.PHSLEW 1 |>.set Reg.LODE.STAT_PHSTEPPEND 1) with now := 1000000 },
      -5, 1, by decide +kernel⟩,
  ⟨(State.reset |>.set Reg.LODE.CTRL_EN 1), by decide +kernel⟩,
  by decide +kernel,
  by decide +kernel,
  ⟨(State.reset |>.set Reg.LODE.CTRL_EN 1), 0, 3, by decide +kernel⟩,
  ⟨16, by decide +kernel⟩,
  ⟨(State.reset |>.set Reg.LODE.CTRL_EN 1), 0, 0, 0x80000003, by decide +kernel⟩,
  ⟨(State.reset |>.set Reg.LODE.CTRL_EN 1), 0, 0, 0x3, by decide +kernel⟩,
  ⟨(State.reset), 0, by decide +kernel⟩⟩

/-- States and operands that meet the hypotheses of each clause of `Obligations.DramTrainingAndRefresh`. -/
theorem witness_dram_training_and_refresh :
(∃ (s : State) (results : List TrainResult) (r : TrainResult), s.dramTraining = true ∧ s.load.on = false ∧ ((List.range
      s.dramCfgChans).all (fun c => results.any fun x => x.chan == c) = true) ∧ r ∈ results ∧ (∀ q ∈ results, q.chan =
      r.chan → q = r) ∧ r.chan < s.dramCfgChans ∧ r.chan < 32 ∧ 1 ≤ r.step ∧ r.step < 256) ∧
(∃ (s : State) (results : List TrainResult), s.dramTraining = true ∧ s.load.on = false ∧ ((List.range s.dramCfgChans).all
      (fun c => results.any fun x => x.chan == c) = true) ∧ (∀ r ∈ results, r.chan < s.dramCfgChans → r.step = 0)) ∧
(∃ (s : State) (results : List TrainResult), s.load.on = false ∧ (s.dramTraining = false ∨ (List.range s.dramCfgChans).all
      (fun c => results.any fun x => x.chan == c) = false)) ∧
(∃ (s : State) (c : Nat), (s.dramUp = false ∨ s.dramCfgChans ≤ c)) ∧
(∃ (s : State) (c : Nat), s.dramUp = true ∧ c < s.dramCfgChans ∧ c < 32 ∧ s.get (Reg.DRC.REFCNT_POSTPONED c) < min 8
      (s.use Reg.DRCC.REFCFG)) ∧
(∃ (s : State) (c : Nat), s.dramUp = true ∧ c < s.dramCfgChans ∧ c < 32 ∧ min 8 (s.use Reg.DRCC.REFCFG) ≤ s.get
      (Reg.DRC.REFCNT_POSTPONED c) ∧ 0 < s.use Reg.DRCC.REFCFG) ∧
(∃ (s : State) (c : Nat), s.dramUp = true ∧ c < s.dramCfgChans ∧ c < 32 ∧ s.use Reg.DRCC.REFCFG = 0) ∧
(∃ (s : State) (c : Nat), s.dramUp = true ∧ c < s.dramCfgChans ∧ c < 32) ∧
(∃ (s : State) (c : Nat), s.dramUp = true ∧ c < s.dramCfgChans ∧ c < 32) ∧
(∃ (s : State) (c : Nat), s.dramUp = true ∧ c < s.dramCfgChans ∧ c < 32) ∧
(∃ (s : State) (c cls : Nat), s.dramUp = true ∧ c < s.dramCfgChans ∧ c < 32 ∧ 1 ≤ cls) ∧
(∃ (s : State) (c : Nat) (move v : Int), s.dramUp = true ∧ c < s.dramCfgChans ∧ c < 32 ∧ v = toSigned 16 (s.get
      (Reg.DRC.TRACKOFS c)) + move ∧ v.natAbs < s.trackLimit) ∧
(∃ (s : State) (c : Nat) (move v : Int), s.dramUp = true ∧ c < s.dramCfgChans ∧ c < 32 ∧ v = toSigned 16 (s.get
      (Reg.DRC.TRACKOFS c)) + move ∧ s.trackLimit ≤ v.natAbs) ∧
(∃ (s : State), s.dramUp = true ∧ s.dram.scrubAt + 1000000000 * max 1 (s.use Reg.DRCC.SCRUB) ≤ s.now) ∧
(∃ (s : State), (s.dramUp = false ∨ s.now < s.dram.scrubAt + 1000000000 * max 1 (s.use Reg.DRCC.SCRUB))) :=
  ⟨⟨(({ State.reset with inUse := [(0x2A020010, 0x00000001)] } : State) |>.set Reg.DRCC.STAT_RUN 1 |>.set Reg.DRCC.CTRL_EN 1
      |>.set Reg.DRCC.STAT_RUN 0 |>.set (Reg.DRC.STAT_TSTATE 0) 1), [⟨0, 1, 0, 20⟩, ⟨1, 1, 0, 20⟩, ⟨2, 1, 0, 20⟩, ⟨3, 1,
      4, 20⟩, ⟨4, 1, 0, 20⟩, ⟨5, 1, 0, 20⟩, ⟨6, 1, 0, 20⟩, ⟨7, 1, 0, 20⟩], ⟨3, 1, 4, 20⟩, by decide +kernel⟩,
  ⟨(({ State.reset with inUse := [(0x2A020010, 0x00000001)] } : State) |>.set Reg.DRCC.STAT_RUN 1 |>.set Reg.DRCC.CTRL_EN 1
      |>.set Reg.DRCC.STAT_RUN 0 |>.set (Reg.DRC.STAT_TSTATE 0) 1), [⟨0, 1, 0, 20⟩, ⟨1, 1, 0, 20⟩, ⟨2, 1, 0, 20⟩, ⟨3, 1,
      0, 20⟩, ⟨4, 1, 0, 20⟩, ⟨5, 1, 0, 20⟩, ⟨6, 1, 0, 20⟩, ⟨7, 1, 0, 20⟩], by decide +kernel⟩,
  ⟨(({ State.reset with inUse := [(0x2A020010, 0x00000001)] } : State) |>.set Reg.DRCC.STAT_RUN 1 |>.set Reg.DRCC.CTRL_EN 1
      |>.set Reg.DRCC.STAT_RUN 0 |>.set (Reg.DRC.STAT_TSTATE 0) 1), [⟨0, 1, 0, 20⟩], by decide +kernel⟩,
  ⟨(({ State.reset with inUse := [(0x2A020010, 0x01000001)] } : State) |>.set Reg.DRCC.STAT_RUN 1 |>.set Reg.DRCC.CTRL_EN
      1), 8, by decide +kernel⟩,
  ⟨(({ State.reset with inUse := [(0x2A020010, 0x01000001), (0x2A020040, 4)] } : State) |>.set Reg.DRCC.STAT_RUN 1 |>.set
      Reg.DRCC.CTRL_EN 1), 3, by decide +kernel⟩,
  ⟨(({ State.reset with inUse := [(0x2A020010, 0x01000001), (0x2A020040, 4)] } : State) |>.set Reg.DRCC.STAT_RUN 1 |>.set
      Reg.DRCC.CTRL_EN 1 |>.set (Reg.DRC.REFCNT_POSTPONED 3) 4), 3, by decide +kernel⟩,
  ⟨(({ State.reset with inUse := [(0x2A020010, 0x01000001), (0x2A020040, 0)] } : State) |>.set Reg.DRCC.STAT_RUN 1 |>.set
      Reg.DRCC.CTRL_EN 1), 3, by decide +kernel⟩,
  ⟨(({ State.reset with inUse := [(0x2A020010, 0x01000001)] } : State) |>.set Reg.DRCC.STAT_RUN 1 |>.set Reg.DRCC.CTRL_EN 1
      |>.set (Reg.DRC.REFCNT_POSTPONED 3) 4), 3, by decide +kernel⟩,
  ⟨(({ State.reset with inUse := [(0x2A020010, 0x01000001)] } : State) |>.set Reg.DRCC.STAT_RUN 1 |>.set Reg.DRCC.CTRL_EN
      1), 3, by decide +kernel⟩,
  ⟨(({ State.reset with inUse := [(0x2A020010, 0x01000001)] } : State) |>.set Reg.DRCC.STAT_RUN 1 |>.set Reg.DRCC.CTRL_EN
      1), 3, by decide +kernel⟩,
  ⟨(({ State.reset with inUse := [(0x2A020010, 0x01000001)] } : State) |>.set Reg.DRCC.STAT_RUN 1 |>.set Reg.DRCC.CTRL_EN
      1), 3, 2, by decide +kernel⟩,
  ⟨(({ State.reset with inUse := [(0x2A020010, 0x00000001)] } : State) |>.set Reg.DRCC.STAT_RUN 1 |>.set Reg.DRCC.CTRL_EN
      1), 3, -5, -5, by decide +kernel, by decide +kernel, by decide +kernel, by decide +kernel, Nat.lt_of_lt_of_le (by
      decide) (Tests.trackLimit_6400 _ (by decide +kernel)).1⟩,
  ⟨(({ State.reset with inUse := [(0x2A020010, 0x00000001)] } : State) |>.set Reg.DRCC.STAT_RUN 1 |>.set Reg.DRCC.CTRL_EN
      1), 3, -50000, -50000, by decide +kernel, by decide +kernel, by decide +kernel, by decide +kernel, Nat.le_trans
      (Tests.trackLimit_6400 _ (by decide +kernel)).2 (by decide)⟩,
  ⟨{ (({ State.reset with inUse := [(0x2A020010, 0x01000001)] } : State) |>.set Reg.DRCC.STAT_RUN 1 |>.set Reg.DRCC.CTRL_EN 1) with now := 600000000000 },
      by decide +kernel⟩,
  ⟨(({ State.reset with inUse := [(0x2A020010, 0x01000001)] } : State) |>.set Reg.DRCC.STAT_RUN 1 |>.set Reg.DRCC.CTRL_EN
      1), by decide +kernel⟩⟩

/-- States and operands that meet the hypotheses of each clause of `Obligations.ErrorChecking`. -/
theorem witness_error_checking :
(∃ (s : State) (addr len : Nat), (s.dramUp = false ∨ s.dramExists (addr + len - 1) = false)) ∧
(∃ (s : State) (addr len : Nat), s.dramEcc = false ∧ s.dramUp = true ∧ s.dramExists (addr + len - 1) = true) ∧
(∃ (s : State) (a cls c flips : Nat), s.dramUp = true ∧ s.dramExists (a * 64 + 63) = true ∧ cls < 4 ∧ c = s.dramChanOf (a
      * 64) ∧ c < 32 ∧ (s.dramEcc = false ∨ (flips = 0 ∧ s.dram.inverted = []))) ∧
(∃ (s : State) (a c flips : Nat), s.dramUp = true ∧ s.dramEcc = true ∧ s.dramExists (a * 64 + 63) = true ∧ c =
      s.dramChanOf (a * 64) ∧ c < 32 ∧ Assoc.findD s.dram.inverted (a * 8) 0 + flips = 1 ∧ (s.dram.inverted.all (fun p =>
      p.1 ≤ a * 8 || a * 8 + 7 < p.1) = true)) ∧
(∃ (s : State) (a c flips : Nat), s.dramUp = true ∧ s.dramEcc = true ∧ s.dramExists (a * 64 + 63) = true ∧ c =
      s.dramChanOf (a * 64) ∧ c < 32 ∧ 2 ≤ Assoc.findD s.dram.inverted (a * 8) 0 + flips ∧ (s.dram.inverted.all (fun p =>
      p.1 ≤ a * 8 || a * 8 + 7 < p.1) = true)) ∧
(∃ (s : State) (a c flips m : Nat), s.dramUp = true ∧ s.dramEcc = true ∧ s.dramExists (a * 64 + 63) = true ∧ c =
      s.dramChanOf (a * 64) ∧ c < 32 ∧ 2 ≤ Assoc.findD s.dram.inverted (a * 8) 0 + flips ∧ (s.dram.inverted.all (fun p =>
      p.1 ≤ a * 8 || a * 8 + 7 < p.1) = true) ∧ m ≤ 6) ∧
(∃ (s : State) (a c flips d : Nat) (x : DecFrame), s.dramUp = true ∧ s.dramEcc = true ∧ s.dramExists (a * 64 + 63) = true
      ∧ c = s.dramChanOf (a * 64) ∧ c < 32 ∧ 2 ≤ Assoc.findD s.dram.inverted (a * 8) 0 + flips ∧ (s.dram.inverted.all (fun
      p => p.1 ≤ a * 8 || a * 8 + 7 < p.1) = true) ∧ (s.decHw d).newest = some x) ∧
(∃ (s : State) (a c flips u k e : Nat) (f : Frame), s.dramUp = true ∧ s.dramEcc = true ∧ s.dramExists (a * 64 + 63) = true
      ∧ c = s.dramChanOf (a * 64) ∧ c < 32 ∧ 2 ≤ Assoc.findD s.dram.inverted (a * 8) 0 + flips ∧ (s.dram.inverted.all (fun
      p => p.1 ≤ a * 8 || a * 8 + 7 < p.1) = true) ∧ e = s.get (Reg.FAB.FS_SCFG_RETENT u k) ∧ (s.ing e).cur = some f ∧
      f.poisoned = false ∧ (Assoc.find s.fab.ing e).isSome = true) ∧
(∃ (s : State) (a c flips : Nat), s.dramUp = true ∧ s.dramEcc = true ∧ s.dramExists (a * 64 + 63) = true ∧ c =
      s.dramChanOf (a * 64) ∧ c < 32 ∧ 2 ≤ Assoc.findD s.dram.inverted (a * 8) 0 + flips ∧ (s.dram.inverted.all (fun p =>
      p.1 ≤ a * 8 || a * 8 + 7 < p.1) = true)) ∧
(∃ (s : State) (m : Nat), Quiet m s ∧ s.armed m = true ∧ s.dramEcc = true) ∧
(∃ (s : State) (m : Nat) (data : Word), Quiet m s ∧ s.armed m = true ∧ s.dramEcc = false ∧ bit data.toNat 31 = true) ∧
(∃ (s : State) (m : Nat), Quiet m s ∧ s.armed m = false) ∧
(∃ (s : State), s.get Reg.DRCC.CHKINV_ARM = 1 ∧ s.dramEcc = true) ∧
(∃ (s : State), (s.get Reg.DRCC.CHKINV_ARM = 0 ∨ s.dramEcc = false)) ∧
(∃ (mem : Nat), 12 ≤ mem) ∧
(∃ (s : State) (mem addr flips : Nat), mem < 12 ∧ mem ≠ 0 ∧ mem ≠ 8 ∧ (s.wordBad mem addr flips).1 = 0) ∧
(∃ (s : State) (mem addr flips : Nat), mem < 12 ∧ mem ≠ 0 ∧ mem ≠ 8 ∧ (s.wordBad mem addr flips).1 = 1) ∧
(∃ (s : State) (mem addr flips : Nat), mem < 12 ∧ mem ∉ [0, 1, 7, 8, 9] ∧ 2 ≤ (s.wordBad mem addr flips).1) ∧
(∃ (s : State) (addr flips g : Nat), g < 8 ∧ 2 ≤ (s.wordBad 9 addr flips).1) ∧
(∃ (s : State) (addr flips g p : Nat), g < 8 ∧ p ≠ 1 ∧ 2 ≤ (s.wordBad 9 addr flips).1) ∧
(∃ (s : State) (addr flips : Nat), 2 ≤ (s.wordBad 1 addr flips).1) ∧
(∃ (s : State) (addr flips : Nat), 2 ≤ (s.wordBad 7 addr flips).1) ∧
(∃ (s : State) (addr flips n : Nat), n < 32 ∧ 2 ≤ (s.wordBad 8 addr flips).1 ∧ s.prov.bad.contains (8, addr) = false) ∧
(∃ (s : State) (addr flips : Nat), (s.wordBad 8 addr flips).1 = 1) ∧
(∃ (s : State) (flips n : Nat), n < 8192 ∧ s.prov.inverted = [] ∧ 2 ≤ flips) ∧
(∃ (s : State) (n : Nat), n < 8192 ∧ s.prov.inverted = []) :=
  ⟨⟨State.reset, 0, 64, by decide +kernel⟩,
  ⟨(({ State.reset with inUse := [(0x2A020010, 0x00000001)] } : State) |>.set Reg.DRCC.STAT_RUN 1 |>.set Reg.DRCC.CTRL_EN
      1), 100, 640, by decide +kernel⟩,
  ⟨(({ State.reset with inUse := [(0x2A020010, 0x01000001)] } : State) |>.set Reg.DRCC.STAT_RUN 1 |>.set Reg.DRCC.CTRL_EN
      1), 0, 2, 0, 0, by decide +kernel⟩,
  ⟨(({ State.reset with inUse := [(0x2A020010, 0x01000001)] } : State) |>.set Reg.DRCC.STAT_RUN 1 |>.set Reg.DRCC.CTRL_EN
      1), 0, 0, 1, by decide +kernel⟩,
  ⟨(({ State.reset with inUse := [(0x2A020010, 0x01000001)] } : State) |>.set Reg.DRCC.STAT_RUN 1 |>.set Reg.DRCC.CTRL_EN
      1), 0, 0, 2, by decide +kernel⟩,
  ⟨(({ State.reset with inUse := [(0x2A020010, 0x01000001)] } : State) |>.set Reg.DRCC.STAT_RUN 1 |>.set Reg.DRCC.CTRL_EN
      1), 0, 0, 2, 1, by decide +kernel⟩,
  ⟨({ (({ State.reset with inUse := [(0x2A020010, 0x01000001)] } : State) |>.set Reg.DRCC.STAT_RUN 1 |>.set Reg.DRCC.CTRL_EN 1) with mica := { State.reset.mica with dec := [(9, { State.DecHw.fresh with newest := some ⟨2, 2, [], false, 0, false, 0, 5⟩ })] } }
      : State), 0, 0, 2, 9, ⟨2, 2, [], false, 0, false, 0, 5⟩, by decide +kernel⟩,
  ⟨({ (({ State.reset with inUse := [(0x2A020010, 0x01000001)] } : State) |>.set Reg.DRCC.STAT_RUN 1 |>.set Reg.DRCC.CTRL_EN 1) with fab := { State.reset.fab with ing := [(0, { State.Ingress.fresh 0x1000000 false with cur := some ⟨0x1000000, none, 0, false, [], []⟩ })] } }
      : State), 0, 0, 2, 0, 1, 0, ⟨0x1000000, none, 0, false, [], []⟩, by decide +kernel⟩,
  ⟨(({ State.reset with inUse := [(0x2A020010, 0x01000001)] } : State) |>.set Reg.DRCC.STAT_RUN 1 |>.set Reg.DRCC.CTRL_EN
      1), 0, 0, 2, by decide +kernel⟩,
  ⟨(({ State.reset with inUse := [(0x2A020010, 0x01000001)] } : State) |>.set Reg.DRCC.STAT_RUN 1 |>.set Reg.DRCC.CTRL_EN 1
      |>.unlockWrite 0 0xC3A5), 0, by decide +kernel⟩,
  ⟨(({ State.reset with inUse := [(0x2A020010, 0x00000001)] } : State) |>.set Reg.DRCC.STAT_RUN 1 |>.set Reg.DRCC.CTRL_EN 1
      |>.unlockWrite 0 0xC3A5), 0, 0x80000100, by decide +kernel⟩,
  ⟨(({ State.reset with inUse := [(0x2A020010, 0x01000001)] } : State) |>.set Reg.DRCC.STAT_RUN 1 |>.set Reg.DRCC.CTRL_EN
      1), 0, by decide +kernel⟩,
  ⟨(({ State.reset with inUse := [(0x2A020010, 0x01000001)] } : State) |>.set Reg.DRCC.STAT_RUN 1 |>.set Reg.DRCC.CTRL_EN 1
      |>.set Reg.DRCC.CHKINV_ARM 1 |>.set Reg.DRCC.CHKINV_BITS 2), by decide +kernel⟩,
  ⟨(({ State.reset with inUse := [(0x2A020010, 0x01000001)] } : State) |>.set Reg.DRCC.STAT_RUN 1 |>.set Reg.DRCC.CTRL_EN
      1), by decide +kernel⟩,
  ⟨12, by decide +kernel⟩,
  ⟨State.reset, 2, 100, 0, by decide +kernel⟩,
  ⟨State.reset, 2, 100, 1, by decide +kernel⟩,
  ⟨State.reset, 2, 100, 2, by decide +kernel⟩,
  ⟨State.reset, 100, 2, 2, by decide +kernel⟩,
  ⟨State.reset, 100, 2, 2, 0, by decide +kernel⟩,
  ⟨State.reset, 100, 2, by decide +kernel⟩,
  ⟨State.reset, 100, 2, by decide +kernel⟩,
  ⟨State.reset, 100, 2, 2, by decide +kernel⟩,
  ⟨State.reset, 100, 1, by decide +kernel⟩,
  ⟨State.reset, 2, 2, by decide +kernel⟩,
  ⟨State.reset, 2, by decide +kernel⟩⟩

/-- States and operands that meet the hypotheses of each clause of `Obligations.TwinLinkAndStates`. -/
theorem witness_twin_link_and_states :
(∃ (s : State) (b : Bool), s.twinOn = true ∧ (s.pairUp && !s.twin.cut) = false ∧ (b = false ∨ s.use Reg.TWIN.CFG_SECONDARY
      = 1) ∧ s.key.ops.isSome = true ∧ ((s.twinLaneUp (if b then 508 else 510) && s.twinLaneUp (if b then 509 else 511)) =
      true)) ∧
(∃ (s : State) (b : Bool), s.twinOn = true ∧ (s.pairUp && !s.twin.cut) = false ∧ (b = false ∨ s.use Reg.TWIN.CFG_SECONDARY
      = 1) ∧ s.key.ops = none ∧ ((s.twinLaneUp (if b then 508 else 510) && s.twinLaneUp (if b then 509 else 511)) = true)) ∧
(∃ (s : State) (b : Bool), (s.twinOn = false ∨ (s.pairUp && !s.twin.cut) = true ∨ (b = true ∧ s.use Reg.TWIN.CFG_SECONDARY
      = 0 ∧ s.get Reg.TWIN.STAT_LINKP = 0)) ∧ ((s.twinLaneUp (if b then 508 else 510) && s.twinLaneUp (if b then 509 else
      511)) = true)) ∧
(∃ (s : State) (b : Bool), ((s.twinLaneUp (if b then 508 else 510) && s.twinLaneUp (if b then 509 else 511)) = false)) ∧
(∃ (s : State), (s.twinOn = false ∨ s.linkDown = true)) ∧
(∃ (s : State) (ok : Bool), s.twinOn = true ∧ s.linkDown = false ∧ (ok = false ∨ s.key.ops = none)) ∧
(∃ (s : State) (f p : Nat), s.twinOn = true ∧ s.linkDown = false ∧ s.key.ops.isSome = true ∧ (f ≠ s.measWords
      Reg.CFG.MEASFW ∨ p ≠ s.measWords Reg.CFG.MEASPAIR)) ∧
(∃ (s : State) (f p : Nat), s.twinOn = true ∧ s.linkDown = false ∧ f = s.measWords Reg.CFG.MEASFW ∧ p = s.measWords
      Reg.CFG.MEASPAIR ∧ s.key.ops.isSome = true ∧ (s.get Reg.TWIN.STAT_STATE ≠ 1 ∨ s.get Reg.TWIN.CARRIED_PARTNER ≠ 0)) ∧
(∃ (s : State) (f p c : Nat) (w : Nat), s.get Reg.TWIN.CTRL_EN = 1 ∧ s.linkDown = false ∧ f = s.measWords Reg.CFG.MEASFW ∧
      p = s.measWords Reg.CFG.MEASPAIR ∧ s.key.ops.isSome = true ∧ s.get Reg.TWIN.STAT_STATE = 1 ∧ s.get
      Reg.TWIN.CARRIED_PARTNER = 0 ∧ w = max 1 (c % 256)) ∧
(∃ (s : State) (b : Bool), s.twinOn = true ∧ s.linkDown = false ∧ (b = true ∨ s.use Reg.TWIN.CFG_SECONDARY = 0 ∨ s.get
      Reg.TWIN.STAT_LINKS = 0) ∧ (b = false ∨ s.get Reg.TWIN.STAT_LINKP = 0) ∧ s.get Reg.TWIN.STAT_STATE ≤ 5) ∧
(∃ (s : State) (b : Bool), (s.twinOn = false ∨ s.linkDown = true ∨ (b = false ∧ s.use Reg.TWIN.CFG_SECONDARY = 1 ∧ s.get
      Reg.TWIN.STAT_LINKS = 1) ∨ (b = true ∧ (s.get Reg.TWIN.STAT_LINKP = 1 ∨ s.use Reg.TWIN.CFG_SECONDARY = 0)))) ∧
(∃ (s : State), s.get Reg.TWIN.CTRL_EN = 1 ∧ (s.get Reg.TWIN.STAT_STATE = 1 ∨ s.get Reg.TWIN.STAT_STATE = 2) ∧ s.linkDown
      = true ∧ s.twin.downAt + s.deadNs ≤ s.now ∧ s.heartbeat = none) ∧
(∃ (s : State), s.get Reg.TWIN.CTRL_EN = 1 ∧ 3 ≤ s.get Reg.TWIN.STAT_STATE ∧ s.linkDown = true ∧ s.twin.downAt + s.deadNs
      ≤ s.now ∧ s.heartbeat = none) ∧
(∃ (s : State), (s.twinOn = false ∨ s.now < s.twin.downAt + s.deadNs ∨ s.heartbeat.isSome = true ∨ s.linkDown = false)) ∧
(∃ (s : State) (m : Nat), Quiet m s ∧ s.get Reg.TWIN.STAT_STATE = 5) ∧
(∃ (s : State) (m : Nat), Quiet m s ∧ s.get Reg.TWIN.STAT_STATE ≠ 5) ∧
(∃ (s : State) (m : Nat), Quiet m s ∧ s.get Reg.TWIN.CTRL_EN = 1 ∧ s.get Reg.TWIN.STAT_STATE = 3 ∧ s.twin.owed = [] ∧
      s.linkUp = true) ∧
(∃ (s : State) (m : Nat), Quiet m s ∧ s.get Reg.TWIN.STAT_STATE = 3 ∧ s.mirrors = false ∧ s.twin.owed = []) ∧
(∃ (s : State) (m : Nat), Quiet m s ∧ s.get Reg.TWIN.STAT_STATE ≠ 3) ∧
(∃ (s : State) (n : Nat), (s.laneRuns n && s.cellMode n && s.rxUp n) = false) ∧
(∃ (s : State) (n : Nat) (cell : ServiceCell) (q : Bool), n < 512 ∧ s.laneRuns n = true ∧ s.cellMode n = true ∧ s.rxUp n =
      true ∧ cell.sys < 256 ∧ cell.lane < 512 ∧ cell.rxst < 8 ∧ s.laneRxMode n = 3 ∧ (q = decide (cell.sys ≠ s.use
      (Reg.PROV.LINK_PEERSYS n) ∨ cell.lane ≠ s.use (Reg.PROV.LINK_PEERLANE n)))) ∧
(∃ (s : State) (n : Nat) (cell : ServiceCell), n < 512 ∧ s.laneRuns n = true ∧ s.cellMode n = true ∧ s.rxUp n = true ∧
      cell.sys < 256 ∧ cell.lane < 512 ∧ cell.rxst < 8 ∧ s.laneRxMode n = 4 ∧ s.get Reg.TWIN.CTRL_EN = 0 ∧ cell.claim <
      512 ∧ cell.l = none) ∧
(∃ (s : State) (n : Nat) (cell : ServiceCell), n < 512 ∧ s.laneRuns n = true ∧ s.cellMode n = true ∧ s.rxUp n = true ∧
      cell.sys < 256 ∧ cell.lane < 512 ∧ cell.rxst < 8 ∧ s.laneRxMode n = 4 ∧ s.get Reg.TWIN.CTRL_EN = 1 ∧ s.get
      Reg.TWIN.STAT_STATE = 2 ∧ cell.claim = 0 ∧ cell.l = none) ∧
(∃ (s : State) (n : Nat) (cell : ServiceCell) (l : Nat), n < 512 ∧ s.twinLaneUp n = true ∧ s.cellMode n = true ∧ s.linkUp
      = true ∧ s.get Reg.TWIN.STAT_STATE = 2 ∧ 256 ≤ cell.claim ∧ s.linkDown = false ∧ cell.claim < 512 ∧ cell.l = some
      (l, true)) :=
  ⟨⟨((({ State.reset with inUse := [((Reg.LANE.CFG_RXMODE 510).addr, 0x44), ((Reg.LANE.CFG_RXMODE 511).addr, 0x44)] } :
      State) |>.set (Reg.LANE.STAT_RUN 510) 1 |>.set (Reg.LANE.STAT_RXSTATE 510) 4 |>.set (Reg.LANE.STAT_RUN 511) 1 |>.set
      (Reg.LANE.STAT_RXSTATE 511) 4 |>.set Reg.TWIN.CTRL_EN 1 |>.set Reg.TWIN.STAT_STATE 1).updKey fun k =>
      { k with ops := some (5, 6) }), false, by decide +kernel⟩,
  ⟨(({ State.reset with inUse := [((Reg.LANE.CFG_RXMODE 510).addr, 0x44), ((Reg.LANE.CFG_RXMODE 511).addr, 0x44)] } : State)
      |>.set (Reg.LANE.STAT_RUN 510) 1 |>.set (Reg.LANE.STAT_RXSTATE 510) 4 |>.set (Reg.LANE.STAT_RUN 511) 1 |>.set
      (Reg.LANE.STAT_RXSTATE 511) 4 |>.set Reg.TWIN.CTRL_EN 1 |>.set Reg.TWIN.STAT_STATE 1), false, by decide +kernel⟩,
  ⟨((({ State.reset with inUse := [((Reg.LANE.CFG_RXMODE 510).addr, 0x44), ((Reg.LANE.CFG_RXMODE 511).addr, 0x44)] } :
      State) |>.set (Reg.LANE.STAT_RUN 510) 1 |>.set (Reg.LANE.STAT_RXSTATE 510) 4 |>.set (Reg.LANE.STAT_RUN 511) 1 |>.set
      (Reg.LANE.STAT_RXSTATE 511) 4 |>.set Reg.TWIN.CTRL_EN 1 |>.set Reg.TWIN.STAT_STATE 1).set Reg.TWIN.CTRL_EN 0),
      false, by decide +kernel⟩,
  ⟨(State.reset |>.set Reg.TWIN.CTRL_EN 1 |>.set Reg.TWIN.STAT_STATE 1), true, by decide +kernel⟩,
  ⟨State.reset, by decide +kernel⟩,
  ⟨(State.reset |>.set Reg.TWIN.CTRL_EN 1 |>.set Reg.TWIN.STAT_STATE 1 |>.set Reg.TWIN.STAT_LINKP 1), false,
      by decide +kernel⟩,
  ⟨(((State.reset |>.set Reg.TWIN.CTRL_EN 1 |>.set Reg.TWIN.STAT_STATE 3 |>.set Reg.TWIN.STAT_LINKP 1)).updKey fun k =>
      { k with ops := some (5, 6) }), 1, 0, by decide +kernel⟩,
  ⟨(((State.reset |>.set Reg.TWIN.CTRL_EN 1 |>.set Reg.TWIN.STAT_STATE 3 |>.set Reg.TWIN.STAT_LINKP 1)).updKey fun k =>
      { k with ops := some (5, 6) }), 0, 0, by decide +kernel⟩,
  ⟨(((State.reset |>.set Reg.TWIN.CTRL_EN 1 |>.set Reg.TWIN.STAT_STATE 1 |>.set Reg.TWIN.STAT_LINKP 1)).updKey fun k =>
      { k with ops := some (5, 6) }), 0, 0, 3, 3, by decide +kernel⟩,
  ⟨(({ State.reset with twin := { State.reset.twin with auth := true } } : State) |>.set Reg.TWIN.CTRL_EN 1 |>.set
      Reg.TWIN.STAT_STATE 4 |>.set Reg.TWIN.STAT_LINKP 1), false, by decide +kernel⟩,
  ⟨State.reset, false, by decide +kernel⟩,
  ⟨(({ State.reset with now := 10000000 } : State) |>.set Reg.TWIN.CTRL_EN 1 |>.set Reg.TWIN.STAT_STATE 2),
      by decide +kernel⟩,
  ⟨(({ State.reset with now := 10000000 } : State) |>.set Reg.TWIN.CTRL_EN 1 |>.set Reg.TWIN.STAT_STATE 4),
      by decide +kernel⟩,
  ⟨(State.reset |>.set Reg.TWIN.CTRL_EN 1 |>.set Reg.TWIN.STAT_STATE 2), by decide +kernel⟩,
  ⟨(State.reset |>.set Reg.TWIN.CTRL_EN 1 |>.set Reg.TWIN.STAT_STATE 5 |>.set Reg.TWIN.STAT_LINKP 1), 0, by decide +kernel⟩,
  ⟨(State.reset |>.set Reg.TWIN.CTRL_EN 1 |>.set Reg.TWIN.STAT_STATE 3 |>.set Reg.TWIN.STAT_LINKP 1), 0, by decide +kernel⟩,
  ⟨(({ State.reset with twin := { State.reset.twin with auth := true } } : State) |>.set Reg.TWIN.CTRL_EN 1 |>.set
      Reg.TWIN.STAT_STATE 3 |>.set Reg.TWIN.STAT_LINKP 1), 0, by decide +kernel⟩,
  ⟨(State.reset |>.set Reg.TWIN.CTRL_EN 1 |>.set Reg.TWIN.STAT_STATE 3 |>.set Reg.TWIN.STAT_LINKP 1), 0, by decide +kernel⟩,
  ⟨(State.reset |>.set Reg.TWIN.CTRL_EN 1 |>.set Reg.TWIN.STAT_STATE 4 |>.set Reg.TWIN.STAT_LINKP 1), 0, by decide +kernel⟩,
  ⟨State.reset, 7, by decide +kernel⟩,
  ⟨({ State.reset with inUse := [((Reg.LANE.CFG_RXMODE 508).addr, 0x33)] } : State).set (Reg.LANE.STAT_RUN 508) 1 |>.set
      (Reg.LANE.STAT_RXSTATE 508) 4, 508, ⟨5, 6, 3, false, 260, none, 9⟩, true, by decide +kernel⟩,
  ⟨({ State.reset with inUse := [((Reg.LANE.CFG_RXMODE 508).addr, 0x44)] } : State).set (Reg.LANE.STAT_RUN 508) 1 |>.set
      (Reg.LANE.STAT_RXSTATE 508) 4, 508, ⟨5, 6, 3, false, 260, none, 9⟩, by decide +kernel⟩,
  ⟨({ State.reset with inUse := [((Reg.LANE.CFG_RXMODE 508).addr, 0x44)] } : State).set (Reg.LANE.STAT_RUN 508) 1 |>.set
      (Reg.LANE.STAT_RXSTATE 508) 4 |>.set Reg.TWIN.CTRL_EN 1 |>.set Reg.TWIN.STAT_STATE 2, 508, ⟨5, 6, 3, false, 0, none,
      9⟩, by decide +kernel⟩,
  ⟨(((({ State.reset with inUse := [((Reg.LANE.CFG_RXMODE 510).addr, 0x44), ((Reg.LANE.CFG_RXMODE 511).addr, 0x44)] } :
      State) |>.set (Reg.LANE.STAT_RUN 510) 1 |>.set (Reg.LANE.STAT_RXSTATE 510) 4 |>.set (Reg.LANE.STAT_RUN 511) 1 |>.set
      (Reg.LANE.STAT_RXSTATE 511) 4 |>.set Reg.TWIN.CTRL_EN 1 |>.set Reg.TWIN.STAT_STATE 1).set Reg.TWIN.STAT_LINKP 1
      |>.set Reg.TWIN.STAT_STATE 2).updTwin fun x => { x with auth := true }), 511, ⟨5, 6, 3, false, 260, some (77, true),
      0⟩, 77, by decide +kernel⟩⟩

/-- States and operands that meet the hypotheses of each clause of `Obligations.TwinRecords`. -/
theorem witness_twin_records :
(∃ (s : State), (s.twinOn = false ∨ s.twin.cycleIdx = some s.cycleIndex)) ∧
(∃ (s : State), s.twinOn = true ∧ s.twin.cycleIdx ≠ some s.cycleIndex ∧ (s.get Reg.TWIN.STAT_STATE = 1 ∨ 5 ≤ s.get
      Reg.TWIN.STAT_STATE ∨ s.linkUp = false) ∧ s.get Reg.TWIN.STAT_STATE ≠ 2 ∧ s.linkUp = false) ∧
(∃ (s : State) (l : List SigItem), s.twinOn = true ∧ s.twin.cycleIdx ≠ some s.cycleIndex ∧ s.linkUp = true ∧ (s.get
      Reg.TWIN.STAT_STATE = 1 ∨ (s.get Reg.TWIN.STAT_STATE = 2 ∧ s.twin.xchg = false)) ∧ (l = s.twin.sigs.map (fun p =>
      ⟨p.1, State.signature p.2, s.twin.sigFail.contains p.1 || s.get (Reg.PROV.OUT_STATE p.1) == 2⟩))) ∧
(∃ (s : State), s.twinOn = true ∧ s.twin.cycleIdx ≠ some s.cycleIndex ∧ s.linkUp = true ∧ (s.get Reg.TWIN.STAT_STATE = 3 ∨
      s.get Reg.TWIN.STAT_STATE = 4) ∧ s.twin.xchg = false) ∧
(∃ (s : State), s.twinOn = true ∧ s.twin.cycleIdx ≠ some s.cycleIndex ∧ s.linkUp = true ∧ s.get Reg.TWIN.STAT_STATE = 3 ∧
      s.twin.xchg = true ∧ s.twin.sent = none ∧ s.get Reg.TWIN.ACKED = s.get Reg.TWIN.CYCNUM) ∧
(∃ (s : State), s.twinOn = true ∧ s.twin.cycleIdx ≠ some s.cycleIndex ∧ s.get Reg.TWIN.STAT_STATE = 2 ∧ s.twin.xchg = true
      ∧ s.twin.lastCycle = some (s.get Reg.TWIN.CYCNUM)) ∧
(∃ (s : State), (s.twin.sent.all (fun c => s.now < c.at_ + 1000000) = true)) ∧
(∃ (s : State) (c : SentCopy), s.twin.sent = some c ∧ c.at_ + 1000000 ≤ s.now) ∧
(∃ (s : State), s.linkUp = false) ∧
(∃ (s : State), s.linkUp = true ∧ s.twin.macFails < 15) ∧
(∃ (s : State), s.linkUp = true ∧ 15 ≤ s.twin.macFails) ∧
(∃ (s : State) (c : Nat), s.linkUp = true ∧ (s.get Reg.TWIN.STAT_STATE = 1 ∨ s.get Reg.TWIN.STAT_STATE = 2) ∧
      s.twin.lastCycle ≠ some c ∧ c < 2 ^ 32) ∧
(∃ (s : State) (c : Nat), s.linkUp = true ∧ (s.get Reg.TWIN.STAT_STATE = 1 ∨ s.get Reg.TWIN.STAT_STATE = 2) ∧
      s.twin.lastCycle ≠ some c ∧ c < 2 ^ 32 ∧ s.twin.gotFull = true) ∧
(∃ (s : State) (c q i : Nat) (u : Option TakeRec), s.linkUp = true ∧ (s.get Reg.TWIN.STAT_STATE = 1 ∨ s.get
      Reg.TWIN.STAT_STATE = 2) ∧ s.twin.lastCycle ≠ some c ∧ c < 2 ^ 32 ∧ s.twin.gotFull = true ∧ i < 16384 ∧ (s.outTakes
      i).pend ≠ u ∧ Assoc.findD s.twin.changed (2 ^ 32 + i) 0 ≤ q) ∧
(∃ (s : State) (c q g : Nat) (u : Option FlintBank), s.linkUp = true ∧ (s.get Reg.TWIN.STAT_STATE = 1 ∨ s.get
      Reg.TWIN.STAT_STATE = 2) ∧ s.twin.lastCycle ≠ some c ∧ c < 2 ^ 32 ∧ (s.micaHw g).flint ≠ u ∧ Assoc.findD
      s.twin.changed (5 * 2 ^ 32 + g) 0 ≤ q) ∧
(∃ (s : State) (c q i w : Nat), s.linkUp = true ∧ (s.get Reg.TWIN.STAT_STATE = 1 ∨ s.get Reg.TWIN.STAT_STATE = 2) ∧
      s.twin.lastCycle ≠ some c ∧ c < 2 ^ 32 ∧ i < 16384 ∧ s.chanEgr i = none ∧ s.get (Reg.FAB.RT_CUR i) ≠ w ∧ w < 2 ^ 32
      ∧ Assoc.findD s.twin.changed (Reg.FAB.RT_CUR i).addr 0 ≤ q) ∧
(∃ (s : State) (c q : Nat) (x : CopyItem), s.linkUp = true ∧ (s.get Reg.TWIN.STAT_STATE = 1 ∨ s.get Reg.TWIN.STAT_STATE =
      2) ∧ s.twin.lastCycle ≠ some c ∧ c < 2 ^ 32 ∧ s.twin.gotFull = true ∧ (q < Assoc.findD s.twin.changed (copyKey x) 0
      ∨ s.ownItem x = x)) ∧
(∃ (s : State) (c : Nat), s.linkUp = true ∧ (s.get Reg.TWIN.STAT_STATE = 1 ∨ s.get Reg.TWIN.STAT_STATE = 2) ∧
      s.twin.lastCycle = some c) ∧
(∃ (s : State) (c : Nat) (full : Bool), s.linkUp = true ∧ (s.get Reg.TWIN.STAT_STATE ≠ 1 ∧ s.get Reg.TWIN.STAT_STATE ≠ 2)
      ∨ (s.twin.lastCycle ≠ some c ∧ full = false ∧ s.twin.gotFull = false)) ∧
(∃ (s : State) (c : Nat) (k : SentCopy), s.linkUp = true ∧ s.twin.sent = some k ∧ k.cycle = c ∧ c < 2 ^ 32) ∧
(∃ (s : State) (c : Nat), s.linkUp = true ∧ (s.twin.sent.all (fun k => k.cycle != c) = true)) ∧
(∃ (s : State) (r : MirrorRec), s.linkUp = true ∧ (s.get Reg.TWIN.STAT_STATE = 2 ∨ (s.get Reg.TWIN.STAT_STATE = 1 ∧
      s.twin.gotFull = true)) ∧ r.seq ≤ s.twin.applied) ∧
(∃ (s : State) (r : MirrorRec), s.linkUp = true ∧ (s.get Reg.TWIN.STAT_STATE = 2 ∨ (s.get Reg.TWIN.STAT_STATE = 1 ∧
      s.twin.gotFull = true)) ∧ r.seq = s.twin.applied + 1) ∧
(∃ (s : State) (r : MirrorRec), s.linkUp = true ∧ ((s.get Reg.TWIN.STAT_STATE ≠ 2 ∧ (s.get Reg.TWIN.STAT_STATE ≠ 1 ∨
      s.twin.gotFull = false)) ∨ s.twin.applied + 1 < r.seq)) ∧
(∃ (s : State) (q : Nat), s.linkUp = true ∧ (s.twin.mirror.any (fun r => r.seq == q) = true) ∧ q < 2 ^ 32) ∧
(∃ (s : State) (q : Nat), s.linkUp = true ∧ (s.twin.mirror.any (fun r => r.seq == q) = false)) ∧
(∃ (s : State) (q : Nat) (r : MirrorRec), (s.twin.mirror.find? (fun x => x.seq == q) = some r) ∧ Assoc.findD
      s.twin.mirrorAt q 0 + 50000 ≤ s.now) ∧
(∃ (s : State) (q : Nat), (s.twin.mirror.any (fun r => r.seq == q) = false ∨ s.now < Assoc.findD s.twin.mirrorAt q 0 +
      50000)) :=
  ⟨⟨State.reset, by decide +kernel⟩,
  ⟨(State.reset |>.set Reg.TWIN.CTRL_EN 1 |>.set Reg.TWIN.STAT_STATE 4 |>.set Reg.TWIN.STAT_LINKP 1), by decide +kernel⟩,
  ⟨(({ State.reset with twin := { State.reset.twin with auth := true } } : State) |>.set Reg.TWIN.CTRL_EN 1 |>.set
      Reg.TWIN.STAT_STATE 2 |>.set Reg.TWIN.STAT_LINKP 1), [], by decide +kernel⟩,
  ⟨(({ State.reset with twin := { State.reset.twin with auth := true } } : State) |>.set Reg.TWIN.CTRL_EN 1 |>.set
      Reg.TWIN.STAT_STATE 3 |>.set Reg.TWIN.STAT_LINKP 1), by decide +kernel⟩,
  ⟨(({ State.reset with twin := { State.reset.twin with auth := true, xchg := true } } : State) |>.set Reg.TWIN.CTRL_EN 1
      |>.set Reg.TWIN.STAT_STATE 3 |>.set Reg.TWIN.STAT_LINKP 1), by decide +kernel⟩,
  ⟨(({ State.reset with twin := { State.reset.twin with auth := true, xchg := true, lastCycle := some 0 } } : State) |>.set
      Reg.TWIN.CTRL_EN 1 |>.set Reg.TWIN.STAT_STATE 2 |>.set Reg.TWIN.STAT_LINKP 1), by decide +kernel⟩,
  ⟨(State.reset |>.set Reg.TWIN.CTRL_EN 1 |>.set Reg.TWIN.STAT_STATE 3 |>.set Reg.TWIN.STAT_LINKP 1), by decide +kernel⟩,
  ⟨(({ State.reset with twin := { State.reset.twin with sent := some ⟨4, true, [], [], 7, 5⟩ }, now := 1000005 } : State)
      |>.set Reg.TWIN.CTRL_EN 1 |>.set Reg.TWIN.STAT_STATE 3 |>.set Reg.TWIN.STAT_LINKP 1), ⟨4, true, [], [], 7, 5⟩,
      by decide +kernel⟩,
  ⟨(State.reset |>.set Reg.TWIN.CTRL_EN 1 |>.set Reg.TWIN.STAT_STATE 2 |>.set Reg.TWIN.STAT_LINKP 1), by decide +kernel⟩,
  ⟨(({ State.reset with twin := { State.reset.twin with auth := true } } : State) |>.set Reg.TWIN.CTRL_EN 1 |>.set
      Reg.TWIN.STAT_STATE 2 |>.set Reg.TWIN.STAT_LINKP 1), by decide +kernel⟩,
  ⟨(({ State.reset with twin := { State.reset.twin with auth := true, macFails := 15 } } : State) |>.set Reg.TWIN.CTRL_EN 1
      |>.set Reg.TWIN.STAT_STATE 2 |>.set Reg.TWIN.STAT_LINKP 1), by decide +kernel⟩,
  ⟨(({ State.reset with twin := { State.reset.twin with auth := true } } : State) |>.set Reg.TWIN.CTRL_EN 1 |>.set
      Reg.TWIN.STAT_STATE 1 |>.set Reg.TWIN.STAT_LINKP 1), 5, by decide +kernel⟩,
  ⟨(({ State.reset with twin := { State.reset.twin with auth := true, gotFull := true } } : State) |>.set Reg.TWIN.CTRL_EN 1
      |>.set Reg.TWIN.STAT_STATE 1 |>.set Reg.TWIN.STAT_LINKP 1), 5, by decide +kernel⟩,
  ⟨(({ State.reset with twin := { State.reset.twin with auth := true, gotFull := true } } : State) |>.set Reg.TWIN.CTRL_EN 1
      |>.set Reg.TWIN.STAT_STATE 2 |>.set Reg.TWIN.STAT_LINKP 1), 5, 9, 9, some ⟨77, 5, 1, 0, 0⟩, by decide +kernel⟩,
  ⟨(({ State.reset with twin := { State.reset.twin with auth := true } } : State) |>.set Reg.TWIN.CTRL_EN 1 |>.set
      Reg.TWIN.STAT_STATE 1 |>.set Reg.TWIN.STAT_LINKP 1), 5, 9, 3, some ⟨[], [], [], []⟩, by decide +kernel⟩,
  ⟨(({ State.reset with twin := { State.reset.twin with auth := true } } : State) |>.set Reg.TWIN.CTRL_EN 1 |>.set
      Reg.TWIN.STAT_STATE 1 |>.set Reg.TWIN.STAT_LINKP 1), 5, 9, 3, 77, by decide +kernel⟩,
  ⟨(({ State.reset with twin := { State.reset.twin with auth := true, gotFull := true } } : State) |>.set Reg.TWIN.CTRL_EN 1
      |>.set Reg.TWIN.STAT_STATE 1 |>.set Reg.TWIN.STAT_LINKP 1), 5, 9, .pend 9 none, by decide +kernel⟩,
  ⟨(({ State.reset with twin := { State.reset.twin with auth := true, lastCycle := some 5 } } : State) |>.set
      Reg.TWIN.CTRL_EN 1 |>.set Reg.TWIN.STAT_STATE 1 |>.set Reg.TWIN.STAT_LINKP 1), 5, by decide +kernel⟩,
  ⟨(({ State.reset with twin := { State.reset.twin with auth := true } } : State) |>.set Reg.TWIN.CTRL_EN 1 |>.set
      Reg.TWIN.STAT_STATE 3 |>.set Reg.TWIN.STAT_LINKP 1), 5, true, by decide +kernel⟩,
  ⟨(({ State.reset with twin := { State.reset.twin with auth := true, stage := 2, sent := some ⟨4, false, [], [], 7, 5⟩ } }
      : State) |>.set Reg.TWIN.CTRL_EN 1 |>.set Reg.TWIN.STAT_STATE 4 |>.set Reg.TWIN.STAT_LINKP 1), 4, ⟨4, false, [], [],
      7, 5⟩, by decide +kernel⟩,
  ⟨(({ State.reset with twin := { State.reset.twin with auth := true } } : State) |>.set Reg.TWIN.CTRL_EN 1 |>.set
      Reg.TWIN.STAT_STATE 4 |>.set Reg.TWIN.STAT_LINKP 1), 4, by decide +kernel⟩,
  ⟨(({ State.reset with twin := { State.reset.twin with auth := true, applied := 5 } } : State) |>.set Reg.TWIN.CTRL_EN 1
      |>.set Reg.TWIN.STAT_STATE 2 |>.set Reg.TWIN.STAT_LINKP 1), ⟨4, ⟨7, 0, 0, [], 0⟩, 0, 0, 0, 0, 0⟩, by decide +kernel⟩,
  ⟨(({ State.reset with twin := { State.reset.twin with auth := true, applied := 5 } } : State) |>.set Reg.TWIN.CTRL_EN 1
      |>.set Reg.TWIN.STAT_STATE 2 |>.set Reg.TWIN.STAT_LINKP 1), ⟨6, ⟨7, 0, 0, [], 0⟩, 0, 0, 0, 0, 0⟩, by decide +kernel⟩,
  ⟨(({ State.reset with twin := { State.reset.twin with auth := true, applied := 5 } } : State) |>.set Reg.TWIN.CTRL_EN 1
      |>.set Reg.TWIN.STAT_STATE 2 |>.set Reg.TWIN.STAT_LINKP 1), ⟨7, ⟨7, 0, 0, [], 0⟩, 0, 0, 0, 0, 0⟩, by decide +kernel⟩,
  ⟨(({ State.reset with twin := { State.reset.twin with auth := true, mirror := [⟨6, ⟨7, 0, 0, [], 0⟩, 0, 0, 0, 0, 0⟩] } } :
      State) |>.set Reg.TWIN.CTRL_EN 1 |>.set Reg.TWIN.STAT_STATE 3 |>.set Reg.TWIN.STAT_LINKP 1), 6, by decide +kernel⟩,
  ⟨(({ State.reset with twin := { State.reset.twin with auth := true } } : State) |>.set Reg.TWIN.CTRL_EN 1 |>.set
      Reg.TWIN.STAT_STATE 3 |>.set Reg.TWIN.STAT_LINKP 1), 6, by decide +kernel⟩,
  ⟨(({ State.reset with twin := { State.reset.twin with mirror := [⟨6, ⟨7, 0, 0, [], 0⟩, 0, 0, 0, 0, 0⟩], mirrorAt := [(6, 10)] }, now := 50010 }
      : State) |>.set Reg.TWIN.CTRL_EN 1 |>.set Reg.TWIN.STAT_STATE 3 |>.set Reg.TWIN.STAT_LINKP 1), 6, ⟨6, ⟨7, 0, 0, [],
      0⟩, 0, 0, 0, 0, 0⟩, by decide +kernel⟩,
  ⟨(State.reset |>.set Reg.TWIN.CTRL_EN 1 |>.set Reg.TWIN.STAT_STATE 3 |>.set Reg.TWIN.STAT_LINKP 1), 6, by decide +kernel⟩⟩

/-- States and operands that meet the hypotheses of each clause of `Obligations.SupplyFeedsAndLatchPoints`. -/
theorem witness_supply_feeds_and_latch_points :
(∃ (s : State) (feed : Nat) (good : Bool), (s.flag (if feed = 0 then Reg.TWIN.SUPSTAT_SUPA_OK else
      Reg.TWIN.SUPSTAT_SUPB_OK) ≠ good)) ∧
(∃ (s : State) (feed : Nat) (good : Bool), (s.flag (if feed = 0 then Reg.TWIN.SUPSTAT_SUPA_OK else
      Reg.TWIN.SUPSTAT_SUPB_OK) = good)) ∧
(∃ (s : State) (feed f : Nat), f = feed % 2 ∧ s.supCfg Reg.TWIN.SUPCFG_PMBEN = 1 ∧ s.flag Reg.SNS.STAT_RUN = true ∧
      ((Assoc.find s.twin.polledAt f).all (fun x => decide (x + max 1 (s.supCfg Reg.TWIN.SUPCFG_POLL) * 1000000 ≤ s.now))
      = true)) ∧
(∃ (s : State) (feed f : Nat), f = feed % 2 ∧ s.supCfg Reg.TWIN.SUPCFG_PMBEN = 1 ∧ s.flag Reg.SNS.STAT_RUN = true ∧
      ((Assoc.find s.twin.polledAt f).all (fun x => decide (x + max 1 (s.supCfg Reg.TWIN.SUPCFG_POLL) * 1000000 ≤ s.now))
      = true)) ∧
(∃ (s : State) (feed f : Nat), f = feed % 2 ∧ (s.supCfg Reg.TWIN.SUPCFG_PMBEN = 0 ∨ s.flag Reg.SNS.STAT_RUN = false ∨
      (Assoc.find s.twin.polledAt f).all (fun x => decide (x + max 1 (s.supCfg Reg.TWIN.SUPCFG_POLL) * 1000000 ≤ s.now)) =
      false)) ∧
(∃ (s : State), s.twinOn = true ∧ s.get Reg.TWIN.STAT_STATE = 2) ∧
(∃ (s : State) (i : Nat), s.twinOn = false ∧ (s.outTakes i).lat.isSome = true) ∧
(∃ (s : State) (i : Nat), s.twinOn = false ∧ s.outTakes i = ⟨none, none⟩ ∧ s.fab.sched = [] ∧ s.fab.salvos = [] ∧
      s.prov.inverted = []) ∧
(∃ (s : State) (i : Nat) (u : TakeRec), s.twinOn = false ∧ s.outTakes i = ⟨some u, none⟩ ∧ s.fab.sched = [] ∧ s.fab.salvos
      = [] ∧ s.timeNs < u.accepted ∧ s.prov.inverted = []) ∧
(∃ (s : State) (i : Nat) (u : TakeRec), (s.twinOn = false ∨ s.linkUp = false ∨ s.get Reg.TWIN.STAT_STATE = 4) ∧ s.get
      Reg.TWIN.STAT_STATE ≠ 2 ∧ s.outTakes i = ⟨some u, none⟩ ∧ s.fab.sched = [] ∧ s.fab.salvos = [] ∧ u.accepted ≤
      s.timeNs ∧ i < 16384 ∧ u.src < 2 ^ 32 ∧ s.prov.inverted = []) ∧
(∃ (s : State) (i : Nat) (u : TakeRec), s.get Reg.TWIN.CTRL_EN = 1 ∧ s.get Reg.TWIN.STAT_STATE = 3 ∧ s.linkUp = true ∧
      s.outTakes i = ⟨some u, none⟩ ∧ s.fab.sched = [] ∧ s.fab.salvos = [] ∧ u.accepted ≤ s.timeNs ∧ i < 16384 ∧ u.src < 2
      ^ 32 ∧ s.twin.mirror = [] ∧ s.prov.inverted = []) ∧
(∃ (s : State) (i : Nat) (u : TakeRec), s.get Reg.TWIN.CTRL_EN = 1 ∧ s.get Reg.TWIN.STAT_STATE = 3 ∧ s.linkUp = true ∧
      s.outTakes i = ⟨some u, none⟩ ∧ s.fab.sched = [] ∧ s.fab.salvos = [] ∧ i < 16384 ∧ (s.unacked 1 u.accepted (fun m =>
      State.handleIdx (m.cmd.args.getD 0 0) == i) = true) ∧ s.prov.inverted = []) ∧
(∃ (s : State) (i : Nat) (u : TakeRec), s.linkUp = true ∧ s.get Reg.TWIN.STAT_STATE = 2 ∧ i < 16384 ∧ u.src < 2 ^ 32 ∧
      Assoc.find s.twin.latched i ≠ some u) ∧
(∃ (s : State) (l : List LatchItem), s.linkUp = true ∧ (s.get Reg.TWIN.STAT_STATE ≠ 2 ∨ l.all (fun x => Assoc.find
      s.twin.latched x.out == some x.take) = true)) ∧
(∃ (s : State) (c a b n : Nat) (y : Bool), s.linkUp = true ∧ s.twin.sigCycle = c ∧ s.twin.sigLast = [⟨n, a, y⟩] ∧ a ≠ b ∧
      s.twin.sigSeen ≠ some c ∧ n < 2 ^ (Reg.TWIN.SIGMIS_ENTRY).width ∧ s.get Reg.TWIN.CTRL_EN = 1 ∧ s.get
      Reg.TWIN.STAT_STATE ≠ 0) ∧
(∃ (s : State) (c : Nat) (l : List SigItem), s.linkUp = true ∧ s.twin.sigCycle = c ∧ s.twin.sigSeen ≠ some c ∧
      (s.twin.sigLast.all (fun a => l.all fun b => b.e != a.e || b.crc == a.crc) = true)) ∧
(∃ (s : State) (c : Nat), s.linkUp = true ∧ (s.twin.sigCycle ≠ c ∨ s.twin.sigSeen = some c)) :=
  ⟨⟨State.reset, 1, true, by decide +kernel⟩,
  ⟨State.reset, 0, false, by decide +kernel⟩,
  ⟨({ State.reset with inUse := [(0x29000500, 0x80000000)] } : State) |>.set Reg.TWIN.CTRL_EN 1 |>.set Reg.SNS.STAT_RUN 1,
      1, 1, by decide +kernel⟩,
  ⟨({ State.reset with inUse := [(0x29000500, 0x80000000)] } : State) |>.set Reg.TWIN.CTRL_EN 1 |>.set Reg.SNS.STAT_RUN 1,
      1, 1, by decide +kernel⟩,
  ⟨State.reset, 1, 1, by decide +kernel⟩,
  ⟨(State.reset |>.set Reg.TWIN.CTRL_EN 1 |>.set Reg.TWIN.STAT_STATE 2 |>.set Reg.TWIN.STAT_LINKP 1), by decide +kernel⟩,
  ⟨{ State.reset with fab := { State.reset.fab with outs := [(9, ⟨none, some ⟨77, 5, 1, 0, 0⟩⟩)] } }, 9, by decide +kernel⟩,
  ⟨State.reset, 9, by decide +kernel⟩,
  ⟨{ State.reset with fab := { State.reset.fab with outs := [(9, ⟨some ⟨77, 100, 1, 0, 0⟩, none⟩)] } }, 9, ⟨77, 100, 1, 0,
      0⟩, by decide +kernel⟩,
  ⟨{ State.reset with fab := { State.reset.fab with outs := [(9, ⟨some ⟨77, 0, 1, 0, 0⟩, none⟩)] } }, 9, ⟨77, 0, 1, 0, 0⟩,
      by decide +kernel⟩,
  ⟨(({ State.reset with twin := { State.reset.twin with auth := true }, fab := { State.reset.fab with outs := [(9, ⟨some ⟨77, 0, 1, 0, 0⟩, none⟩)] } }
      : State) |>.set Reg.TWIN.CTRL_EN 1 |>.set Reg.TWIN.STAT_STATE 3 |>.set Reg.TWIN.STAT_LINKP 1), 9, ⟨77, 0, 1, 0, 0⟩,
      by decide +kernel⟩,
  ⟨(({ State.reset with twin := { State.reset.twin with auth := true, mirror := [⟨6, ⟨0, 0, 1, [State.mkHandle 2 9 1], 0⟩, 0, 0, 0, 0, 0⟩] }, fab := { State.reset.fab with outs := [(9, ⟨some ⟨77, 0, 1, 0, 0⟩, none⟩)] } }
      : State) |>.set Reg.TWIN.CTRL_EN 1 |>.set Reg.TWIN.STAT_STATE 3 |>.set Reg.TWIN.STAT_LINKP 1), 9, ⟨77, 0, 1, 0, 0⟩,
      by decide +kernel⟩,
  ⟨(({ State.reset with twin := { State.reset.twin with auth := true }, fab := { State.reset.fab with outs := [(9, ⟨some ⟨77, 5, 1, 0, 0⟩, none⟩)] } }
      : State) |>.set Reg.TWIN.CTRL_EN 1 |>.set Reg.TWIN.STAT_STATE 2 |>.set Reg.TWIN.STAT_LINKP 1), 9, ⟨77, 5, 1, 0, 0⟩,
      by decide +kernel⟩,
  ⟨(({ State.reset with twin := { State.reset.twin with auth := true } } : State) |>.set Reg.TWIN.CTRL_EN 1 |>.set
      Reg.TWIN.STAT_STATE 3 |>.set Reg.TWIN.STAT_LINKP 1), [⟨9, ⟨77, 5, 1, 0, 0⟩⟩], by decide +kernel⟩,
  ⟨(({ State.reset with twin := { State.reset.twin with auth := true, sigCycle := 3, sigLast := [⟨7, 1, false⟩] } } : State)
      |>.set Reg.TWIN.CTRL_EN 1 |>.set Reg.TWIN.STAT_STATE 2 |>.set Reg.TWIN.STAT_LINKP 1), 3, 1, 2, 7, false,
      by decide +kernel⟩,
  ⟨(({ State.reset with twin := { State.reset.twin with auth := true, sigCycle := 3, sigLast := [⟨7, 1, false⟩] } } : State)
      |>.set Reg.TWIN.CTRL_EN 1 |>.set Reg.TWIN.STAT_STATE 2 |>.set Reg.TWIN.STAT_LINKP 1), 3, [⟨7, 1, false⟩, ⟨8, 3,
      true⟩], by decide +kernel⟩,
  ⟨(({ State.reset with twin := { State.reset.twin with auth := true, sigCycle := 3 } } : State) |>.set Reg.TWIN.CTRL_EN 1
      |>.set Reg.TWIN.STAT_STATE 2 |>.set Reg.TWIN.STAT_LINKP 1), 4, by decide +kernel⟩⟩

/-- States and operands that meet the hypotheses of each clause of `Obligations.DruseBusSending`. -/
theorem witness_druse_bus_sending :
(∃ (s : State) (m : Nat), Quiet m s) ∧
(∃ (s : State), (s.get Reg.GBUS.STAT_RUN = 0 ∨ s.gbus.latchCyc = some s.latchCycle)) ∧
(∃ (s : State), s.get Reg.GBUS.STAT_RUN = 1 ∧ s.gbus.latchCyc ≠ some s.latchCycle ∧ s.get Reg.GBUS.STAT_TXPEND = 1 ∧
      s.gbus.mute = false ∧ s.inStepGap = false ∧ s.ineligible = false) ∧
(∃ (s : State), s.get Reg.GBUS.STAT_RUN = 1 ∧ s.gbus.latchCyc ≠ some s.latchCycle ∧ s.get Reg.GBUS.STAT_TXPEND = 1 ∧
      s.gbus.mute = false ∧ s.inStepGap = false ∧ s.ineligible = true) ∧
(∃ (s : State), s.get Reg.GBUS.STAT_RUN = 1 ∧ s.gbus.latchCyc ≠ some s.latchCycle ∧ (s.get Reg.GBUS.STAT_TXPEND = 0 ∨
      s.gbus.mute = true ∨ s.inStepGap = true)) ∧
(∃ (s : State), (s.get Reg.GBUS.STAT_RUN = 0 ∨ s.gbus.sentCyc = some s.busCycle)) ∧
(∃ (s : State) (g : GbusFrame), s.get Reg.GBUS.STAT_RUN = 1 ∧ s.gbus.mute = false ∧ s.inStepGap = false ∧ s.gbus.sentCyc ≠
      some s.busCycle ∧ (g = (⟨1, s.use Reg.GBUS.CFG_OWNSLOT, s.use Reg.CHN.CFG_SYSNUM, s.timeNs / 1000000 % 1000, if
      s.get Reg.TWIN.CTRL_EN = 1 then s.get Reg.TWIN.CARRIED_OWN else 0, s.devid, s.get Reg.GBUS.TERR, s.gbus.taken, true,
      true, 0, false⟩ : GbusFrame))) ∧
(∃ (s : State), s.get Reg.GBUS.STAT_RUN = 1 ∧ s.gbus.sentCyc ≠ some s.busCycle) ∧
(∃ (s : State), s.get Reg.GBUS.STAT_RUN = 1 ∧ (s.gbus.mute = true ∨ s.inStepGap = true) ∧ s.gbus.sentCyc ≠ some s.busCycle
      ∧ s.jrp.salvos = []) ∧
(∃ (s : State) (m : Nat) (data : Word), Quiet m s ∧ 500 < data.toNat % 65536 ∧ s.gbus.mute = false) ∧
(∃ (s : State) (m : Nat) (data : Word), Quiet m s ∧ data.toNat % 65536 ≤ 400 ∧ s.gbus.mute = true) ∧
(∃ (s : State) (m : Nat) (data : Word), Quiet m s ∧ (400 < data.toNat % 65536 ∧ data.toNat % 65536 ≤ 500) ∨ (500 <
      data.toNat % 65536 ∧ s.gbus.mute = true) ∨ (data.toNat % 65536 ≤ 400 ∧ s.gbus.mute = false)) ∧
(∃ (s : State), s.gbus.mute = false ∧ s.gbus.terrAt + 1000000000 ≤ s.now) ∧
(∃ (s : State), (s.gbus.mute = true ∨ s.now < s.gbus.terrAt + 1000000000)) :=
  ⟨⟨(State.reset |>.set Reg.GBUS.STAT_RUN 1 |>.set Reg.GBUS.CTRL_EN 1), 0, by decide +kernel⟩,
  ⟨State.reset, by decide +kernel⟩,
  ⟨(({ State.reset with gbus := { State.reset.gbus with mute := false } } : State) |>.set Reg.GBUS.STAT_RUN 1 |>.set
      Reg.GBUS.STAT_TXPEND 1 |>.set Reg.GBUS.TXLEN 4 |>.set (Reg.GBUS.TXBUF 0) 0xA1B2C3D4), by decide +kernel⟩,
  ⟨(({ State.reset with gbus := { State.reset.gbus with mute := false } } : State) |>.set Reg.GBUS.STAT_RUN 1 |>.set
      Reg.GBUS.STAT_TXPEND 1 |>.set Reg.TWIN.CTRL_EN 1 |>.set Reg.TWIN.STAT_STATE 1), by decide +kernel⟩,
  ⟨(({ State.reset with gbus := { State.reset.gbus with mute := true } } : State) |>.set Reg.GBUS.STAT_RUN 1 |>.set
      Reg.GBUS.STAT_TXPEND 1), by decide +kernel⟩,
  ⟨State.reset, by decide +kernel⟩,
  ⟨(({ State.reset with gbus := { State.reset.gbus with taken := [1, 2], mute := false } } : State) |>.set Reg.GBUS.STAT_RUN
      1), (let s := ((({ State.reset with gbus := { State.reset.gbus with taken := [1, 2], mute := false } } : State)
      |>.set Reg.GBUS.STAT_RUN 1)); (⟨1, s.use Reg.GBUS.CFG_OWNSLOT, s.use Reg.CHN.CFG_SYSNUM, s.timeNs / 1000000 % 1000,
      if s.get Reg.TWIN.CTRL_EN = 1 then s.get Reg.TWIN.CARRIED_OWN else 0, s.devid, s.get Reg.GBUS.TERR, s.gbus.taken,
      true, true, 0, false⟩ : GbusFrame)), by decide +kernel⟩,
  ⟨(({ State.reset with inUse := [((Reg.GBUS.CFG_OWNSLOT).addr, 0x00030201)], gbus := { State.reset.gbus with ownOut := true, ownSeen := [1] } }
      : State) |>.set Reg.GBUS.STAT_RUN 1), by decide +kernel⟩,
  ⟨(({ State.reset with gbus := { State.reset.gbus with mute := true } } : State) |>.set Reg.GBUS.STAT_RUN 1),
      by decide +kernel⟩,
  ⟨(({ State.reset with gbus := { State.reset.gbus with mute := false } } : State) |>.set Reg.GBUS.STAT_RUN 1 |>.set
      Reg.GBUS.CTRL_EN 1), 0, 501, by decide +kernel⟩,
  ⟨(({ State.reset with gbus := { State.reset.gbus with mute := true } } : State) |>.set Reg.GBUS.STAT_RUN 1 |>.set
      Reg.GBUS.CTRL_EN 1), 0, 400, by decide +kernel⟩,
  ⟨(State.reset |>.set Reg.GBUS.STAT_RUN 1 |>.set Reg.GBUS.CTRL_EN 1), 0, 450, by decide +kernel⟩,
  ⟨({ (({ State.reset with gbus := { State.reset.gbus with mute := false } } : State) |>.set Reg.GBUS.STAT_RUN 1) with now := 1000000000 }
      : State), by decide +kernel⟩,
  ⟨(({ State.reset with gbus := { State.reset.gbus with mute := false } } : State) |>.set Reg.GBUS.STAT_RUN 1),
      by decide +kernel⟩⟩

/-- States and operands that meet the hypotheses of each clause of `Obligations.DruseBusReceiving`. -/
theorem witness_druse_bus_receiving :
(∃ (s : State) (p k : Nat), (s.get Reg.GBUS.STAT_RUN = 0 ∨ 64 ≤ k ∨ s.pairOn p = false ∨ 2 ≤ p)) ∧
(∃ (s : State) (p k : Nat) (f : GbusFrame), s.get Reg.GBUS.STAT_RUN = 1 ∧ p < 2 ∧ k < 64 ∧ s.pairOn p = true ∧ (f.headerOk
      = false ∨ f.ver ≠ 1 ∨ f.slot ≠ k ∨ s.use (Reg.GBUS.MAP_VALID k) = 0 ∨ f.sys ≠ s.use (Reg.GBUS.MAP_SYSNUM k) ∨
      (f.payload ≠ [] ∧ f.payloadOk = false) ∨ f.crossed = true)) ∧
(∃ (s : State) (p k : Nat) (f : GbusFrame), s.get Reg.GBUS.STAT_RUN = 1 ∧ p < 2 ∧ k < 64 ∧ s.pairOn p = true ∧ f.headerOk
      = true ∧ f.ver = 1 ∧ f.slot = k ∧ s.use (Reg.GBUS.MAP_VALID k) = 1 ∧ f.sys = s.use (Reg.GBUS.MAP_SYSNUM k) ∧
      (f.payload = [] ∨ f.payloadOk = true) ∧ f.crossed = false ∧ Assoc.find s.gbus.used k = some s.busCycle) ∧
(∃ (s : State) (p k : Nat) (f : GbusFrame), s.get Reg.GBUS.STAT_RUN = 1 ∧ p < 2 ∧ k < 64 ∧ s.pairOn p = true ∧ f.headerOk
      = true ∧ f.ver = 1 ∧ f.slot = k ∧ s.use (Reg.GBUS.MAP_VALID k) = 1 ∧ f.sys = s.use (Reg.GBUS.MAP_SYSNUM k) ∧
      (f.payload = [] ∨ f.payloadOk = true) ∧ f.crossed = false ∧ Assoc.find s.gbus.used k ≠ some s.busCycle ∧ f.terr <
      65536 ∧ f.claim < 512 ∧ f.devid < 2 ^ 64) ∧
(∃ (s : State) (p k : Nat) (f : GbusFrame), s.get Reg.GBUS.STAT_RUN = 1 ∧ p < 2 ∧ k < 64 ∧ s.pairOn p = true ∧ f.headerOk
      = true ∧ f.ver = 1 ∧ f.slot = k ∧ s.use (Reg.GBUS.MAP_VALID k) = 1 ∧ f.sys = s.use (Reg.GBUS.MAP_SYSNUM k) ∧
      (f.payload = [] ∨ f.payloadOk = true) ∧ f.crossed = false ∧ Assoc.find s.gbus.used k ≠ some s.busCycle ∧ f.sys ≠
      s.use Reg.CHN.CFG_SYSNUM) ∧
(∃ (s : State) (k n : Nat), s.get Reg.GBUS.STAT_RUN = 1 ∧ k < 64 ∧ s.use (Reg.GBUS.MAP_VALID k) = 1 ∧ n = min (s.get
      (Reg.GBUS.MEM_CNT_MISS k) + 1) 255 ∧ s.get (Reg.GBUS.MEM_ST_STATE k) = 2 ∧ max 1 (s.use Reg.GBUS.CFG_HBMISS) ≤ n ∧
      ¬(Assoc.find s.gbus.used k = some ((s.timeNs - 1) / 1000000))) ∧
(∃ (s : State) (k n : Nat), s.get Reg.GBUS.STAT_RUN = 1 ∧ k < 64 ∧ s.use (Reg.GBUS.MAP_VALID k) = 1 ∧ n = min (s.get
      (Reg.GBUS.MEM_CNT_MISS k) + 1) 255 ∧ (s.get (Reg.GBUS.MEM_ST_STATE k) ≠ 2 ∨ n < max 1 (s.use Reg.GBUS.CFG_HBMISS)) ∧
      ¬(Assoc.find s.gbus.used k = some ((s.timeNs - 1) / 1000000))) ∧
(∃ (s : State) (k : Nat), (s.get Reg.GBUS.STAT_RUN = 0 ∨ 64 ≤ k ∨ s.use (Reg.GBUS.MAP_VALID k) = 0 ∨ Assoc.find
      s.gbus.used k = some ((s.timeNs - 1) / 1000000))) ∧
(∃ (s : State), (s.get Reg.GBUS.STAT_RUN = 0 ∨ s.gbus.window = some s.busWindow)) ∧
(∃ (s : State), s.get Reg.GBUS.STAT_RUN = 1 ∧ s.gbus.window ≠ some s.busWindow ∧ s.pairOn 0 = true ∧ s.pairOn 1 = true ∧
      s.flag (⟨Reg.GBUS.STAT_PAIRST.addr, Reg.GBUS.STAT_PAIRST.lo + 0, Reg.GBUS.STAT_PAIRST.lo + 0⟩ : FRef) = true ∧
      s.flag (⟨Reg.GBUS.STAT_PAIRST.addr, Reg.GBUS.STAT_PAIRST.lo + 1, Reg.GBUS.STAT_PAIRST.lo + 1⟩ : FRef) = true) ∧
(∃ (s : State), s.get Reg.GBUS.STAT_RUN = 1 ∧ s.gbus.window ≠ some s.busWindow ∧ s.pairOn 1 = true ∧ s.flag
      (⟨Reg.GBUS.STAT_PAIRST.addr, Reg.GBUS.STAT_PAIRST.lo + 1, Reg.GBUS.STAT_PAIRST.lo + 1⟩ : FRef) = false) ∧
(∃ (s : State), s.get Reg.GBUS.STAT_RUN = 1 ∧ s.gbus.window ≠ some s.busWindow ∧ s.pairOn 0 = true ∧ s.flag
      (⟨Reg.GBUS.STAT_PAIRST.addr, Reg.GBUS.STAT_PAIRST.lo + 0, Reg.GBUS.STAT_PAIRST.lo + 0⟩ : FRef) = false) ∧
(∃ (s : State) (m : Nat) (l : List GbusRx), Quiet m s ∧ l = s.gbus.rxq.drop 1) :=
  ⟨⟨(({ State.reset with inUse := [((Reg.GBUS.CFG_OWNSLOT).addr, 0x00010201)] } : State) |>.set Reg.GBUS.STAT_RUN 1), 1, 3,
      by decide +kernel⟩,
  ⟨(({ State.reset with inUse := [((Reg.GBUS.CFG_OWNSLOT).addr, 0x00030201), ((Reg.GBUS.MAP_VALID 3).addr, 0x80000009)] } :
      State) |>.set Reg.GBUS.STAT_RUN 1), 1, 3,
      ({ ver := 1, slot := 3, sys := 9, cycle := 0, claim := 0, devid := 77, terr := 5, payload := [], headerOk := false, payloadOk := true, start := 0, crossed := false }
      : GbusFrame), by decide +kernel⟩,
  ⟨(({ State.reset with inUse := [((Reg.GBUS.CFG_OWNSLOT).addr, 0x00030201), ((Reg.GBUS.MAP_VALID 3).addr, 0x80000009)], gbus := { State.reset.gbus with used := [(3, 0)] } }
      : State) |>.set Reg.GBUS.STAT_RUN 1), 1, 3,
      ({ ver := 1, slot := 3, sys := 9, cycle := 0, claim := 0, devid := 77, terr := 5, payload := [], headerOk := true, payloadOk := true, start := 0, crossed := false }
      : GbusFrame), by decide +kernel⟩,
  ⟨(({ State.reset with inUse := [((Reg.GBUS.CFG_OWNSLOT).addr, 0x00030201), ((Reg.GBUS.MAP_VALID 3).addr, 0x80000009)] } :
      State) |>.set Reg.GBUS.STAT_RUN 1 |>.set (Reg.GBUS.MEM_ST_STATE 3) 1), 1, 3,
      ({ ver := 1, slot := 3, sys := 9, cycle := 0, claim := 0, devid := 77, terr := 5, payload := [], headerOk := true, payloadOk := true, start := 0, crossed := false }
      : GbusFrame), by decide +kernel⟩,
  ⟨(({ State.reset with inUse := [((Reg.GBUS.CFG_OWNSLOT).addr, 0x00030201), ((Reg.GBUS.MAP_VALID 3).addr, 0x80000009)] } :
      State) |>.set Reg.GBUS.STAT_RUN 1), 1, 3,
      ({ ver := 1, slot := 3, sys := 9, cycle := 0, claim := 0, devid := 77, terr := 5, payload := [1, 2, 3, 4], headerOk := true, payloadOk := true, start := 0, crossed := false }
      : GbusFrame), by decide +kernel⟩,
  ⟨(({ State.reset with inUse := [((Reg.GBUS.CFG_OWNSLOT).addr, 0x00030101), ((Reg.GBUS.MAP_VALID 3).addr, 0x80000009)] } :
      State) |>.set Reg.GBUS.STAT_RUN 1 |>.set (Reg.GBUS.MEM_ST_STATE 3) 2), 3, 1, by decide +kernel⟩,
  ⟨(({ State.reset with inUse := [((Reg.GBUS.CFG_OWNSLOT).addr, 0x00030201), ((Reg.GBUS.MAP_VALID 3).addr, 0x80000009)] } :
      State) |>.set Reg.GBUS.STAT_RUN 1 |>.set (Reg.GBUS.MEM_CNT_MISS 3) 255), 3, 255, by decide +kernel⟩,
  ⟨(({ State.reset with inUse := [((Reg.GBUS.CFG_OWNSLOT).addr, 0x00030201), ((Reg.GBUS.MAP_VALID 3).addr, 0x80000009)] } :
      State) |>.set Reg.GBUS.STAT_RUN 1), 4, by decide +kernel⟩,
  ⟨State.reset, by decide +kernel⟩,
  ⟨(({ State.reset with inUse := [((Reg.GBUS.CFG_OWNSLOT).addr, 0x00030201), ((Reg.GBUS.MAP_VALID 3).addr, 0x80000009)], gbus := { State.reset.gbus with heard := [(1, 3)] } }
      : State) |>.set Reg.GBUS.STAT_RUN 1 |>.set Reg.GBUS.STAT_PAIRST 3), by decide +kernel⟩,
  ⟨(({ State.reset with inUse := [((Reg.GBUS.CFG_OWNSLOT).addr, 0x00030201), ((Reg.GBUS.MAP_VALID 3).addr, 0x80000009)], gbus := { State.reset.gbus with heard := [(1, 3)] } }
      : State) |>.set Reg.GBUS.STAT_RUN 1 |>.set Reg.GBUS.STAT_PAIRST 1), by decide +kernel⟩,
  ⟨(({ State.reset with inUse := [((Reg.GBUS.CFG_OWNSLOT).addr, 0x00030201), ((Reg.GBUS.MAP_VALID 3).addr, 0x80000009)], gbus := { State.reset.gbus with heard := [(0, 3)] } }
      : State) |>.set Reg.GBUS.STAT_RUN 1 |>.set Reg.GBUS.STAT_PAIRST 2), by decide +kernel⟩,
  ⟨(({ State.reset with gbus := { State.reset.gbus with rxq := [⟨5, [1, 2]⟩] } } : State) |>.set Reg.GBUS.STAT_RUN 1 |>.set
      Reg.GBUS.CTRL_EN 1), 0, [], by decide +kernel⟩⟩

/-- States and operands that meet the hypotheses of each clause of `Obligations.JrpSessions`. -/
theorem witness_jrp_sessions :
(∃ (s : State) (h : JrpHdr), (s.jrpHears h = false ∨ h.formOk = false)) ∧
(∃ (s : State) (h : JrpHdr) (p : Nat), ((s.jrp.peers.find? fun q => q.index == p && q.addr == h.src) = none)) ∧
(∃ (s : State) (h : JrpHdr) (p : JrpPeer) (qc : Option Nat) (ok : Bool), s.jrpHears h = true ∧ h.formOk = true ∧
      ((s.jrp.peers.find? fun q => q.index == p.index && q.addr == h.src) = some p) ∧ p.mode = 1 ∧ (qc.isNone = true ∨ ok
      = false ∨ s.key.ops = none)) ∧
(∃ (s : State) (h : JrpHdr) (p : JrpPeer) (r n : Nat) (qc : Option Nat) (ok : Bool), s.jrpHears h = true ∧ h.formOk = true
      ∧ ((s.jrp.peers.find? fun q => q.index == p.index && q.addr == h.src) = some p) ∧ (p.mode = 1 → (qc.isSome = true ∧
      ok = true ∧ s.key.ops.isSome = true)) ∧ ((s.jrp.sessions.find? fun y => y.peer == p.index && y.nonce == n && decide
      (s.now ≤ y.opened + 5000000000)) = none) ∧ (¬(4 ≤ (s.jrp.sessions.filter fun y => y.peer == p.index).length ∨ 64 ≤
      s.jrp.sessions.length)) ∧ s.keptOf r p = none ∧ s.jrp.running = [] ∧ s.jrp.held = [] ∧ ((s.jrp.sessions.all fun y =>
      y.queue.isEmpty) = true)) ∧
(∃ (s : State) (h : JrpHdr) (p : JrpPeer) (r n : Nat) (qc : Option Nat) (ok : Bool) (k : JrpKept), s.jrpHears h = true ∧
      h.formOk = true ∧ ((s.jrp.peers.find? fun q => q.index == p.index && q.addr == h.src) = some p) ∧ (p.mode = 1 →
      (qc.isSome = true ∧ ok = true ∧ s.key.ops.isSome = true)) ∧ ((s.jrp.sessions.find? fun y => y.peer == p.index &&
      y.nonce == n && decide (s.now ≤ y.opened + 5000000000)) = none) ∧ (¬(4 ≤ (s.jrp.sessions.filter fun y => y.peer ==
      p.index).length ∨ 64 ≤ s.jrp.sessions.length)) ∧ s.keptOf r p = some k ∧ k.queue = [] ∧ s.jrp.running = [] ∧
      s.jrp.held = [] ∧ ((s.jrp.sessions.all fun y => y.queue.isEmpty) = true)) ∧
(∃ (s : State) (h : JrpHdr) (p : JrpPeer) (n : Nat) (qc : Option Nat) (ok : Bool) (x : JrpSession), s.jrpHears h = true ∧
      h.formOk = true ∧ ((s.jrp.peers.find? fun q => q.index == p.index && q.addr == h.src) = some p) ∧ (p.mode = 1 →
      (qc.isSome = true ∧ ok = true ∧ s.key.ops.isSome = true)) ∧ ((s.jrp.sessions.find? fun y => y.peer == p.index &&
      y.nonce == n && decide (s.now ≤ y.opened + 5000000000)) = some x)) ∧
(∃ (s : State) (h : JrpHdr) (p : JrpPeer) (n : Nat) (qc : Option Nat) (ok : Bool), s.jrpHears h = true ∧ h.formOk = true ∧
      ((s.jrp.peers.find? fun q => q.index == p.index && q.addr == h.src) = some p) ∧ (p.mode = 1 → (qc.isSome = true ∧ ok
      = true ∧ s.key.ops.isSome = true)) ∧ ((s.jrp.sessions.find? fun y => y.peer == p.index && y.nonce == n && decide
      (s.now ≤ y.opened + 5000000000)) = none) ∧ (4 ≤ (s.jrp.sessions.filter fun y => y.peer == p.index).length ∨ 64 ≤
      s.jrp.sessions.length)) ∧
(∃ (s : State) (h : JrpHdr), (s.jrpHears h = false ∨ (h.formOk = true ∧ s.jrpSessionOf h = none))) ∧
(∃ (s : State) (h : JrpHdr) (x : JrpSession), s.jrpHears h = true ∧ h.formOk = true ∧ s.jrpSessionOf h = some x ∧ x.hmac =
      true ∧ h.macOk = false) ∧
(∃ (s : State) (h : JrpHdr) (x : JrpSession), s.jrpHears h = true ∧ h.formOk = true ∧ s.jrpSessionOf h = some x ∧ (x.hmac
      = true → h.macOk = true)) ∧
(∃ (s : State) (x : JrpSession), s.jrpSession x.id = some x ∧ x.last + 30000000000 ≤ s.now) ∧
(∃ (s : State) (n : Nat), (((s.jrpSession n).all fun x => decide (s.now < x.last + 30000000000)) = true)) ∧
(∃ (s : State), (s.jrp.shadow = [] ∨ s.jrpActs = false ∨ s.now < s.jrp.takeover + 60000000000)) ∧
(∃ (s : State), s.jrpActs = true ∧ s.jrp.takeover + 60000000000 ≤ s.now) ∧
(∃ (s : State) (x : JrpSession) (n : JrpNote) (l : List JrpNote), s.jrpSession x.id = some x ∧ ((x.noted.any fun u =>
      decide (s.now < u + 100000)) = false) ∧ x.gap = 0 ∧ x.notes = n :: l) ∧
(∃ (s : State) (x : JrpSession), s.jrpSession x.id = some x ∧ ((x.noted.any fun u => decide (s.now < u + 100000)) = false)
      ∧ x.gap ≠ 0) ∧
(∃ (s : State) (n : Nat), (((s.jrpSession n).all fun x => (x.noted.any fun u => decide (s.now < u + 100000)) || (x.gap ==
      0 && x.notes.isEmpty)) = true)) :=
  ⟨⟨State.reset, ⟨64, 0xC0A80101, 5000, 14720, false, true, true, 77, 9, 0, 0⟩, by decide +kernel⟩,
  ⟨(({ (State.reset) with jrp := { State.reset.jrp with sessions := [⟨77, 2, false, 64, 0xC0A80101, 5000, 1, none, 0, ⟨2, 0, false, false, 77, 0, 0, 0, 0, []⟩, 0, none, [], [], 128000000, 0, [], [], 0, none, 0, ⟨0, 0, 0, 0, 0⟩⟩], peers := [⟨2, 0xC0A80101, 0, 63, 0⟩] } }
      : State) |>.set Reg.CFG.STAT_STEP 9), ⟨64, 0xC0A80101, 5000, 14720, false, true, true, 77, 9, 0, 0⟩, 3,
      by decide +kernel⟩,
  ⟨(({ (State.reset) with jrp := { State.reset.jrp with sessions := [⟨77, 2, false, 64, 0xC0A80101, 5000, 1, none, 0, ⟨2, 0, false, false, 77, 0, 0, 0, 0, []⟩, 0, none, [], [], 128000000, 0, [], [], 0, none, 0, ⟨0, 0, 0, 0, 0⟩⟩], peers := [⟨2, 0xC0A80101, 1, 63, 0⟩] } }
      : State) |>.set Reg.CFG.STAT_STEP 9), ⟨64, 0xC0A80101, 5000, 14720, false, true, true, 77, 9, 0, 0⟩, ⟨2, 0xC0A80101,
      1, 63, 0⟩, none, true, by decide +kernel⟩,
  ⟨(({ (State.reset) with jrp := { State.reset.jrp with sessions := [], peers := [⟨2, 0xC0A80101, 0, 63, 0⟩] } } : State)
      |>.set Reg.CFG.STAT_STEP 9), ⟨64, 0xC0A80101, 5000, 14720, false, true, true, 77, 9, 0, 0⟩, ⟨2, 0xC0A80101, 0, 63,
      0⟩, 0, 5, none, true, by decide +kernel⟩,
  ⟨(({ (State.reset) with jrp := { State.reset.jrp with sessions := [], kept := [⟨55, 2, some 9, [⟨9, some (0, []), false, none⟩], [], 0⟩], peers := [⟨2, 0xC0A80101, 0, 63, 0⟩] } }
      : State) |>.set Reg.CFG.STAT_STEP 9), ⟨64, 0xC0A80101, 5000, 14720, false, true, true, 77, 9, 0, 0⟩, ⟨2, 0xC0A80101,
      0, 63, 0⟩, 55, 5, none, true, ⟨55, 2, some 9, [⟨9, some (0, []), false, none⟩], [], 0⟩, by decide +kernel⟩,
  ⟨(({ (State.reset) with jrp := { State.reset.jrp with sessions := [⟨77, 2, false, 64, 0xC0A80101, 5000, 1, none, 0, ⟨2, 0, false, false, 77, 0, 0, 0, 0, []⟩, 0, none, [], [], 128000000, 0, [], [], 0, none, 0, ⟨0, 0, 0, 0, 0⟩⟩], peers := [⟨2, 0xC0A80101, 0, 63, 0⟩] } }
      : State) |>.set Reg.CFG.STAT_STEP 9), ⟨64, 0xC0A80101, 5000, 14720, false, true, true, 77, 9, 0, 0⟩, ⟨2, 0xC0A80101,
      0, 63, 0⟩, 1, none, true, ⟨77, 2, false, 64, 0xC0A80101, 5000, 1, none, 0, ⟨2, 0, false, false, 77, 0, 0, 0, 0, []⟩,
      0, none, [], [], 128000000, 0, [], [], 0, none, 0, ⟨0, 0, 0, 0, 0⟩⟩, by decide +kernel⟩,
  ⟨(({ (State.reset) with jrp := { State.reset.jrp with sessions := [⟨77, 2, false, 64, 0xC0A80101, 5000, 1, none, 0, ⟨2, 0, false, false, 77, 0, 0, 0, 0, []⟩, 0, none, [], [], 128000000, 0, [], [], 0, none, 0, ⟨0, 0, 0, 0, 0⟩⟩, ⟨77, 2, false, 64, 0xC0A80101, 5000, 1, none, 0, ⟨2, 0, false, false, 77, 0, 0, 0, 0, []⟩, 0, none, [], [], 128000000, 0, [], [], 0, none, 0, ⟨0, 0, 0, 0, 0⟩⟩, ⟨77, 2, false, 64, 0xC0A80101, 5000, 1, none, 0, ⟨2, 0, false, false, 77, 0, 0, 0, 0, []⟩, 0, none, [], [], 128000000, 0, [], [], 0, none, 0, ⟨0, 0, 0, 0, 0⟩⟩, ⟨77, 2, false, 64, 0xC0A80101, 5000, 1, none, 0, ⟨2, 0, false, false, 77, 0, 0, 0, 0, []⟩, 0, none, [], [], 128000000, 0, [], [], 0, none, 0, ⟨0, 0, 0, 0, 0⟩⟩], peers := [⟨2, 0xC0A80101, 0, 63, 0⟩] } }
      : State) |>.set Reg.CFG.STAT_STEP 9), ⟨64, 0xC0A80101, 5000, 14720, false, true, true, 77, 9, 0, 0⟩, ⟨2, 0xC0A80101,
      0, 63, 0⟩, 5, none, true, by decide +kernel⟩,
  ⟨(({ (State.reset) with jrp := { State.reset.jrp with sessions := [], peers := [⟨2, 0xC0A80101, 0, 63, 0⟩] } } : State)
      |>.set Reg.CFG.STAT_STEP 9), ⟨64, 0xC0A80101, 5000, 14720, false, true, true, 77, 9, 0, 0⟩, by decide +kernel⟩,
  ⟨(({ (State.reset) with jrp := { State.reset.jrp with sessions := [⟨77, 2, true, 64, 0xC0A80101, 5000, 1, none, 0, ⟨2, 0, false, false, 77, 0, 0, 0, 0, []⟩, 0, none, [], [], 128000000, 0, [], [], 0, none, 0, ⟨0, 0, 0, 0, 0⟩⟩], peers := [⟨2, 0xC0A80101, 0, 63, 0⟩] } }
      : State) |>.set Reg.CFG.STAT_STEP 9), (⟨64, 0xC0A80101, 5000, 14720, false, true, false, 77, 9, 0, 0⟩ : JrpHdr),
      ⟨77, 2, true, 64, 0xC0A80101, 5000, 1, none, 0, ⟨2, 0, false, false, 77, 0, 0, 0, 0, []⟩, 0, none, [], [],
      128000000, 0, [], [], 0, none, 0, ⟨0, 0, 0, 0, 0⟩⟩, by decide +kernel⟩,
  ⟨(({ (State.reset) with jrp := { State.reset.jrp with sessions := [⟨77, 2, false, 64, 0xC0A80101, 5000, 1, none, 0, ⟨2, 0, false, false, 77, 0, 0, 0, 0, []⟩, 0, none, [], [], 128000000, 0, [], [], 0, none, 0, ⟨0, 0, 0, 0, 0⟩⟩], peers := [⟨2, 0xC0A80101, 0, 63, 0⟩] } }
      : State) |>.set Reg.CFG.STAT_STEP 9), ⟨64, 0xC0A80101, 5000, 14720, false, true, true, 77, 9, 0, 0⟩, ⟨77, 2, false,
      64, 0xC0A80101, 5000, 1, none, 0, ⟨2, 0, false, false, 77, 0, 0, 0, 0, []⟩, 0, none, [], [], 128000000, 0, [], [],
      0, none, 0, ⟨0, 0, 0, 0, 0⟩⟩, by decide +kernel⟩,
  ⟨(({ ({ State.reset with now := 30000000000 }) with jrp := { State.reset.jrp with sessions := [⟨77, 2, false, 64, 0xC0A80101, 5000, 1, none, 0, ⟨2, 0, false, false, 77, 0, 0, 0, 0, []⟩, 0, none, [], [], 128000000, 0, [], [], 0, none, 0, ⟨0, 0, 0, 0, 0⟩⟩], peers := [⟨2, 0xC0A80101, 0, 63, 0⟩] } }
      : State) |>.set Reg.CFG.STAT_STEP 9), ⟨77, 2, false, 64, 0xC0A80101, 5000, 1, none, 0, ⟨2, 0, false, false, 77, 0,
      0, 0, 0, []⟩, 0, none, [], [], 128000000, 0, [], [], 0, none, 0, ⟨0, 0, 0, 0, 0⟩⟩, by decide +kernel⟩,
  ⟨(({ (State.reset) with jrp := { State.reset.jrp with sessions := [⟨77, 2, false, 64, 0xC0A80101, 5000, 1, none, 0, ⟨2, 0, false, false, 77, 0, 0, 0, 0, []⟩, 0, none, [], [], 128000000, 0, [], [], 0, none, 0, ⟨0, 0, 0, 0, 0⟩⟩], peers := [⟨2, 0xC0A80101, 0, 63, 0⟩] } }
      : State) |>.set Reg.CFG.STAT_STEP 9), 77, by decide +kernel⟩,
  ⟨(({ ({ State.reset with now := 60000000000 }) with jrp := { State.reset.jrp with kept := [⟨55, 2, some 9, [], [], 0⟩], sessions := [⟨77, 2, false, 64, 0xC0A80101, 5000, 1, none, 0, ⟨2, 0, false, false, 77, 0, 0, 0, 0, []⟩, 0, none, [], [], 128000000, 0, [], [], 0, none, 0, ⟨0, 0, 0, 0, 0⟩⟩], peers := [⟨2, 0xC0A80101, 0, 63, 0⟩] } }
      : State) |>.set Reg.CFG.STAT_STEP 9), by decide +kernel⟩,
  ⟨(({ ({ State.reset with now := 60000000000 }) with jrp := { State.reset.jrp with shadow := [⟨55, 3, ⟨9, none, false, none⟩⟩], sessions := [⟨77, 2, false, 64, 0xC0A80101, 5000, 1, none, 0, ⟨2, 0, false, false, 77, 0, 0, 0, 0, []⟩, 0, none, [], [], 128000000, 0, [], [], 0, none, 0, ⟨0, 0, 0, 0, 0⟩⟩], peers := [⟨2, 0xC0A80101, 0, 63, 0⟩] } }
      : State) |>.set Reg.CFG.STAT_STEP 9), by decide +kernel⟩,
  ⟨(({ (State.reset) with jrp := { State.reset.jrp with sessions := [⟨77, 2, false, 64, 0xC0A80101, 5000, 1, none, 0, ⟨2, 0, false, false, 77, 0, 0, 0, 0, []⟩, 0, none, [], [], 128000000, 0, [], [.route 1 2 3, .route 4 5 6], 0, none, 0, ⟨0, 0, 0, 0, 0⟩⟩], peers := [⟨2, 0xC0A80101, 0, 63, 0⟩] } }
      : State) |>.set Reg.CFG.STAT_STEP 9), ⟨77, 2, false, 64, 0xC0A80101, 5000, 1, none, 0, ⟨2, 0, false, false, 77, 0,
      0, 0, 0, []⟩, 0, none, [], [], 128000000, 0, [], [.route 1 2 3, .route 4 5 6], 0, none, 0, ⟨0, 0, 0, 0, 0⟩⟩, .route
      1 2 3, [.route 4 5 6], by decide +kernel⟩,
  ⟨(({ (State.reset) with jrp := { State.reset.jrp with sessions := [⟨77, 2, false, 64, 0xC0A80101, 5000, 1, none, 0, ⟨2, 0, false, false, 77, 0, 0, 0, 0, []⟩, 0, none, [], [], 128000000, 0, [], [], 3, none, 7, ⟨0, 0, 0, 0, 0⟩⟩], peers := [⟨2, 0xC0A80101, 0, 63, 0⟩] } }
      : State) |>.set Reg.CFG.STAT_STEP 9), ⟨77, 2, false, 64, 0xC0A80101, 5000, 1, none, 0, ⟨2, 0, false, false, 77, 0,
      0, 0, 0, []⟩, 0, none, [], [], 128000000, 0, [], [], 3, none, 7, ⟨0, 0, 0, 0, 0⟩⟩, by decide +kernel⟩,
  ⟨(({ (State.reset) with jrp := { State.reset.jrp with sessions := [⟨77, 2, false, 64, 0xC0A80101, 5000, 1, none, 0, ⟨2, 0, false, false, 77, 0, 0, 0, 0, []⟩, 0, none, [], [], 128000000, 0, [], [], 0, none, 0, ⟨0, 0, 0, 0, 0⟩⟩], peers := [⟨2, 0xC0A80101, 0, 63, 0⟩] } }
      : State) |>.set Reg.CFG.STAT_STEP 9), 77, by decide +kernel⟩⟩

/-- States and operands that meet the hypotheses of each clause of `Obligations.JrpRefusals`. -/
theorem witness_jrp_refusals :
(∃ (s : State) (h : JrpHdr), s.jrpHears h = false) ∧
(∃ (s : State) (h : JrpHdr), s.jrpHears h = true ∧ h.formOk = false) ∧
(∃ (s : State) (h : JrpHdr), s.jrpHears h = true ∧ h.formOk = true ∧ s.jrpSessionOf h = none) ∧
(∃ (s : State) (h : JrpHdr) (x : JrpSession), s.jrpHears h = true ∧ h.formOk = true ∧ s.jrpSessionOf h = some x ∧ x.hmac =
      true ∧ h.macOk = false) ∧
(∃ (s : State) (h : JrpHdr) (x : JrpSession), s.jrpHears h = true ∧ h.formOk = true ∧ s.jrpSessionOf h = some x ∧ (x.hmac
      = true → h.macOk = true) ∧ s.ownSys h.target = false) ∧
(∃ (s : State) (h : JrpHdr) (x : JrpSession), s.jrpHears h = true ∧ h.formOk = true ∧ s.jrpSessionOf h = some x ∧ (x.hmac
      = true → h.macOk = true) ∧ s.ownSys h.target = true ∧ State.txClass x h.txid = .old) ∧
(∃ (s : State) (h : JrpHdr) (x : JrpSession) (w : JrpEntry), s.jrpHears h = true ∧ h.formOk = true ∧ s.jrpSessionOf h =
      some x ∧ (x.hmac = true → h.macOk = true) ∧ s.ownSys h.target = true ∧ State.txClass x h.txid = .known w ∧ (w.answer
      = none ∨ (s.jrp.held.any fun p => p.1 == x.id && p.2 == w.txid) = true)) ∧
(∃ (s : State) (h : JrpHdr) (x : JrpSession) (w : JrpEntry) (c : Nat) (l : List Nat), s.jrpHears h = true ∧ h.formOk =
      true ∧ s.jrpSessionOf h = some x ∧ (x.hmac = true → h.macOk = true) ∧ s.ownSys h.target = true ∧ State.txClass x
      h.txid = .known w ∧ w.answer = some (c, l) ∧ w.late = false ∧ ((s.jrp.held.any fun p => p.1 == x.id && p.2 ==
      w.txid) = false)) ∧
(∃ (s : State) (h : JrpHdr) (x : JrpSession), s.jrpHears h = true ∧ h.formOk = true ∧ s.jrpSessionOf h = some x ∧ (x.hmac
      = true → h.macOk = true) ∧ s.ownSys h.target = true ∧ State.txClass x h.txid = .fresh ∧ 256 ≤ x.queue.length) ∧
(∃ (s : State) (h : JrpHdr) (x : JrpSession), s.jrpHears h = true ∧ h.formOk = true ∧ s.jrpSessionOf h = some x ∧ (x.hmac
      = true → h.macOk = true) ∧ s.ownSys h.target = true ∧ State.txClass x h.txid = .fresh ∧ x.queue.length < 256) ∧
(∃ (s : State) (h : JrpHdr) (x : JrpSession) (k : Nat), s.jrpHears h = true ∧ h.formOk = true ∧ s.jrpSessionOf h = some x
      ∧ (x.hmac = true → h.macOk = true) ∧ s.ownSys h.target = true ∧ State.txClass x h.txid = .fresh ∧ x.queue.length <
      256 ∧ (((s.jrp.peers.find? fun p => p.index == x.peer).any fun p => bit p.rights k) = false)) ∧
(∃ (s : State) (h : JrpHdr) (x : JrpSession) (k : Nat), s.jrpHears h = true ∧ h.formOk = true ∧ s.jrpSessionOf h = some x
      ∧ (x.hmac = true → h.macOk = true) ∧ s.ownSys h.target = true ∧ State.txClass x h.txid = .fresh ∧ x.queue.length <
      256 ∧ (((s.jrp.peers.find? fun p => p.index == x.peer).any fun p => bit p.rights k) = true) ∧ (x.hmac = false ∨
      s.windowOpen = false)) ∧
(∃ (s : State) (h : JrpHdr) (x : JrpSession) (k : Nat), s.jrpHears h = true ∧ h.formOk = true ∧ s.jrpSessionOf h = some x
      ∧ (x.hmac = true → h.macOk = true) ∧ s.ownSys h.target = true ∧ State.txClass x h.txid = .fresh ∧ x.queue.length <
      256 ∧ (((s.jrp.peers.find? fun p => p.index == x.peer).any fun p => bit p.rights k) = true) ∧ s.get
      Reg.CFG.STAT_STEP ≠ 9) ∧
(∃ (s : State) (h : JrpHdr) (x : JrpSession) (k : Nat), s.jrpHears h = true ∧ h.formOk = true ∧ s.jrpSessionOf h = some x
      ∧ (x.hmac = true → h.macOk = true) ∧ s.ownSys h.target = true ∧ State.txClass x h.txid = .fresh ∧ x.queue = [] ∧
      (((s.jrp.peers.find? fun p => p.index == x.peer).any fun p => bit p.rights k) = true) ∧ s.get Reg.CFG.STAT_STEP = 9
      ∧ s.jrp.sessions = [x] ∧ s.jrp.running = [] ∧ s.jrp.held = [] ∧ s.jrpCredit x < 500000) ∧
(∃ (s : State) (h : JrpHdr) (x : JrpSession), JrpReady h x (.nop) s) ∧
(∃ (s : State) (h : JrpHdr) (x : JrpSession) (e : Nat) (args desc : List Nat) (k : Nat), JrpReady
      { h with epoch := s.get Reg.CHN.EPOCH } x .nop s ∧ (((s.jrp.peers.find? fun p => p.index == x.peer).any fun p => bit
      p.rights k) = true) ∧ h.epoch ≠ s.get Reg.CHN.EPOCH ∧ s.get Reg.CHN.STAT_REQBUSY = 0 ∧ s.get Reg.FAB.TESTAT_BUSY = 0
      ∧ s.get (Reg.MICA.LAYRES_BUSY (s.engineOf e 8).2) = 0 ∧ desc = [] ∧ bits (args.getD 0 0) 31 28 = 2) ∧
(∃ (s : State) (h : JrpHdr) (x : JrpSession) (a n : Nat) (l : List (List Nat)), JrpReady h x (.query 4 a n) s ∧ l =
      (s.logRecords a).take n ∧ l.length ≤ 44 ∧ ((l.all fun r => r.length == 8) = true)) ∧
(∃ (s : State) (h : JrpHdr) (x : JrpSession) (a n : Nat), JrpReady h x (.query 6 a n) s) ∧
(∃ (s : State) (h : JrpHdr) (x : JrpSession) (a i n : Nat), JrpReady h x (.query a i n) s ∧ 1 ≤ a ∧ a ≤ 3 ∧ i < 16384 ∧ (a
      = 3 → i < 4096) ∧ 1 ≤ n) ∧
(∃ (s : State) (h : JrpHdr) (x : JrpSession) (a n : Nat), JrpReady h x (.query 5 a n) s ∧ (s.statRecords.length ≤ a ∨ n =
      0)) ∧
(∃ (s : State) (h : JrpHdr) (x : JrpSession) (p a n : Nat), JrpReady h x (.query p a n) s ∧ (p = 0 ∨ 8 ≤ p ∨ (p = 7 ∧ 64 <
      n))) ∧
(∃ (s : State) (h : JrpHdr) (x : JrpSession) (a i : Nat), JrpReady h x (.query 7 a 1) s ∧ i < 16384 ∧ a =
      (Reg.CHN.ENT_HANDLE i).addr ∧ s.mgt.locks = []) ∧
(∃ (s : State) (h : JrpHdr) (x : JrpSession) (sub : JrpSub) (n : Nat), JrpReady h x (.subscribe sub) s ∧ ((List.range
      16).find? (fun j => (Assoc.find x.subs j).isNone) = some n)) ∧
(∃ (s : State) (h : JrpHdr) (x : JrpSession) (sub : JrpSub), JrpReady h x (.subscribe sub) s ∧ ((List.range 16).find? (fun
      j => (Assoc.find x.subs j).isNone) = none)) ∧
(∃ (s : State) (h : JrpHdr) (x : JrpSession) (n : Nat), JrpReady h x (.unsubscribe n) s ∧ (Assoc.find x.subs n).isSome =
      true) ∧
(∃ (s : State) (h : JrpHdr) (x : JrpSession) (n : Nat), JrpReady h x (.unsubscribe n) s ∧ (Assoc.find x.subs n).isSome =
      false) ∧
(∃ (s : State) (h : JrpHdr) (x : JrpSession) (nonce : List Byte) (c : Nat), JrpReady h x (.attest nonce) s ∧ (c = (if
      s.get Reg.KEY.STAT_NOID = 1 then 30 else 0))) :=
  ⟨⟨State.reset, ⟨64, 0xC0A80101, 5000, 14720, false, true, true, 77, 9, 0, 0⟩, by decide +kernel⟩,
  ⟨(({ (State.reset) with jrp := { State.reset.jrp with sessions := [⟨77, 2, false, 64, 0xC0A80101, 5000, 1, none, 0, ⟨2, 0, false, false, 77, 0, 0, 0, 0, []⟩, 0, none, [], [], 128000000, 0, [], [], 0, none, 0, ⟨0, 0, 0, 0, 0⟩⟩], peers := [⟨2, 0xC0A80101, 0, 63, 0⟩] } }
      : State) |>.set Reg.CFG.STAT_STEP 9), (⟨64, 0xC0A80101, 5000, 14720, false, false, true, 77, 9, 0, 0⟩ : JrpHdr),
      by decide +kernel⟩,
  ⟨(({ (State.reset) with jrp := { State.reset.jrp with sessions := [], peers := [⟨2, 0xC0A80101, 0, 63, 0⟩] } } : State)
      |>.set Reg.CFG.STAT_STEP 9), ⟨64, 0xC0A80101, 5000, 14720, false, true, true, 77, 9, 0, 0⟩, by decide +kernel⟩,
  ⟨(({ (State.reset) with jrp := { State.reset.jrp with sessions := [⟨77, 2, true, 64, 0xC0A80101, 5000, 1, none, 0, ⟨2, 0, false, false, 77, 0, 0, 0, 0, []⟩, 0, none, [], [], 128000000, 0, [], [], 0, none, 0, ⟨0, 0, 0, 0, 0⟩⟩], peers := [⟨2, 0xC0A80101, 0, 63, 0⟩] } }
      : State) |>.set Reg.CFG.STAT_STEP 9), (⟨64, 0xC0A80101, 5000, 14720, false, true, false, 77, 9, 0, 0⟩ : JrpHdr),
      ⟨77, 2, true, 64, 0xC0A80101, 5000, 1, none, 0, ⟨2, 0, false, false, 77, 0, 0, 0, 0, []⟩, 0, none, [], [],
      128000000, 0, [], [], 0, none, 0, ⟨0, 0, 0, 0, 0⟩⟩, by decide +kernel⟩,
  ⟨(({ (State.reset) with jrp := { State.reset.jrp with sessions := [⟨77, 2, false, 64, 0xC0A80101, 5000, 1, none, 0, ⟨2, 0, false, false, 77, 0, 0, 0, 0, []⟩, 0, none, [], [], 128000000, 0, [], [], 0, none, 0, ⟨0, 0, 0, 0, 0⟩⟩], peers := [⟨2, 0xC0A80101, 0, 63, 0⟩] } }
      : State) |>.set Reg.CFG.STAT_STEP 9), (⟨64, 0xC0A80101, 5000, 14720, false, true, true, 77, 9, 0, 9⟩ : JrpHdr), ⟨77,
      2, false, 64, 0xC0A80101, 5000, 1, none, 0, ⟨2, 0, false, false, 77, 0, 0, 0, 0, []⟩, 0, none, [], [], 128000000, 0,
      [], [], 0, none, 0, ⟨0, 0, 0, 0, 0⟩⟩, by decide +kernel⟩,
  ⟨(({ (State.reset) with jrp := { State.reset.jrp with sessions := [⟨77, 2, false, 64, 0xC0A80101, 5000, 1, none, 0, ⟨2, 0, false, false, 77, 0, 0, 0, 0, []⟩, 0, some 9000, [], [], 128000000, 0, [], [], 0, none, 0, ⟨0, 0, 0, 0, 0⟩⟩], peers := [⟨2, 0xC0A80101, 0, 63, 0⟩] } }
      : State) |>.set Reg.CFG.STAT_STEP 9), ⟨64, 0xC0A80101, 5000, 14720, false, true, true, 77, 9, 0, 0⟩, ⟨77, 2, false,
      64, 0xC0A80101, 5000, 1, none, 0, ⟨2, 0, false, false, 77, 0, 0, 0, 0, []⟩, 0, some 9000, [], [], 128000000, 0, [],
      [], 0, none, 0, ⟨0, 0, 0, 0, 0⟩⟩, by decide +kernel⟩,
  ⟨(({ (State.reset) with jrp := { State.reset.jrp with sessions := [⟨77, 2, false, 64, 0xC0A80101, 5000, 1, none, 0, ⟨2, 0, false, false, 77, 0, 0, 0, 0, []⟩, 0, some 9, [⟨9, none, false, none⟩], [], 128000000, 0, [], [], 0, none, 0, ⟨0, 0, 0, 0, 0⟩⟩], peers := [⟨2, 0xC0A80101, 0, 63, 0⟩] } }
      : State) |>.set Reg.CFG.STAT_STEP 9), ⟨64, 0xC0A80101, 5000, 14720, false, true, true, 77, 9, 0, 0⟩, ⟨77, 2, false,
      64, 0xC0A80101, 5000, 1, none, 0, ⟨2, 0, false, false, 77, 0, 0, 0, 0, []⟩, 0, some 9, [⟨9, none, false, none⟩], [],
      128000000, 0, [], [], 0, none, 0, ⟨0, 0, 0, 0, 0⟩⟩, ⟨9, none, false, none⟩, by decide +kernel⟩,
  ⟨(({ (State.reset) with jrp := { State.reset.jrp with sessions := [⟨77, 2, false, 64, 0xC0A80101, 5000, 1, none, 0, ⟨2, 0, false, false, 77, 0, 0, 0, 0, []⟩, 0, some 9, [⟨9, some (12, [5]), false, none⟩], [], 128000000, 0, [], [], 0, none, 0, ⟨0, 0, 0, 0, 0⟩⟩], peers := [⟨2, 0xC0A80101, 0, 63, 0⟩] } }
      : State) |>.set Reg.CFG.STAT_STEP 9), ⟨64, 0xC0A80101, 5000, 14720, false, true, true, 77, 9, 0, 0⟩, ⟨77, 2, false,
      64, 0xC0A80101, 5000, 1, none, 0, ⟨2, 0, false, false, 77, 0, 0, 0, 0, []⟩, 0, some 9, [⟨9, some (12, [5]), false,
      none⟩], [], 128000000, 0, [], [], 0, none, 0, ⟨0, 0, 0, 0, 0⟩⟩, ⟨9, some (12, [5]), false, none⟩, 12, [5],
      by decide +kernel⟩,
  ⟨(({ (State.reset) with jrp := { State.reset.jrp with sessions := [⟨77, 2, false, 64, 0xC0A80101, 5000, 1, none, 0, ⟨2, 0, false, false, 77, 0, 0, 0, 0, []⟩, 0, none, [], (List.replicate 256 ⟨1, 0, .nop⟩), 128000000, 0, [], [], 0, none, 0, ⟨0, 0, 0, 0, 0⟩⟩], peers := [⟨2, 0xC0A80101, 0, 63, 0⟩] } }
      : State) |>.set Reg.CFG.STAT_STEP 9), ⟨64, 0xC0A80101, 5000, 14720, false, true, true, 77, 9, 0, 0⟩, ⟨77, 2, false,
      64, 0xC0A80101, 5000, 1, none, 0, ⟨2, 0, false, false, 77, 0, 0, 0, 0, []⟩, 0, none, [], (List.replicate 256 ⟨1, 0,
      .nop⟩), 128000000, 0, [], [], 0, none, 0, ⟨0, 0, 0, 0, 0⟩⟩, by decide +kernel⟩,
  ⟨(({ (State.reset) with jrp := { State.reset.jrp with sessions := [⟨77, 2, false, 64, 0xC0A80101, 5000, 1, none, 0, ⟨2, 0, false, false, 77, 0, 0, 0, 0, []⟩, 0, none, [], [], 128000000, 0, [], [], 0, none, 0, ⟨0, 0, 0, 0, 0⟩⟩], peers := [⟨2, 0xC0A80101, 0, 63, 0⟩] } }
      : State) |>.set Reg.CFG.STAT_STEP 9), ⟨64, 0xC0A80101, 5000, 14720, false, true, true, 77, 9, 0, 0⟩, ⟨77, 2, false,
      64, 0xC0A80101, 5000, 1, none, 0, ⟨2, 0, false, false, 77, 0, 0, 0, 0, []⟩, 0, none, [], [], 128000000, 0, [], [],
      0, none, 0, ⟨0, 0, 0, 0, 0⟩⟩, by decide +kernel⟩,
  ⟨(({ (State.reset) with jrp := { State.reset.jrp with sessions := [⟨77, 2, false, 64, 0xC0A80101, 5000, 1, none, 0, ⟨2, 0, false, false, 77, 0, 0, 0, 0, []⟩, 0, none, [], [], 128000000, 0, [], [], 0, none, 0, ⟨0, 0, 0, 0, 0⟩⟩], peers := [⟨2, 0xC0A80101, 0, 0, 0⟩] } }
      : State) |>.set Reg.CFG.STAT_STEP 9), ⟨64, 0xC0A80101, 5000, 14720, false, true, true, 77, 9, 0, 0⟩, ⟨77, 2, false,
      64, 0xC0A80101, 5000, 1, none, 0, ⟨2, 0, false, false, 77, 0, 0, 0, 0, []⟩, 0, none, [], [], 128000000, 0, [], [],
      0, none, 0, ⟨0, 0, 0, 0, 0⟩⟩, 0, by decide +kernel⟩,
  ⟨(({ (State.reset) with jrp := { State.reset.jrp with sessions := [⟨77, 2, false, 64, 0xC0A80101, 5000, 1, none, 0, ⟨2, 0, false, false, 77, 0, 0, 0, 0, []⟩, 0, none, [], [], 128000000, 0, [], [], 0, none, 0, ⟨0, 0, 0, 0, 0⟩⟩], peers := [⟨2, 0xC0A80101, 0, 63, 0⟩] } }
      : State) |>.set Reg.CFG.STAT_STEP 9), ⟨64, 0xC0A80101, 5000, 14720, false, true, true, 77, 9, 0, 0⟩, ⟨77, 2, false,
      64, 0xC0A80101, 5000, 1, none, 0, ⟨2, 0, false, false, 77, 0, 0, 0, 0, []⟩, 0, none, [], [], 128000000, 0, [], [],
      0, none, 0, ⟨0, 0, 0, 0, 0⟩⟩, 4, by decide +kernel⟩,
  ⟨(({ (State.reset) with jrp := { State.reset.jrp with sessions := [⟨77, 2, false, 64, 0xC0A80101, 5000, 1, none, 0, ⟨2, 0, false, false, 77, 0, 0, 0, 0, []⟩, 0, none, [], [], 128000000, 0, [], [], 0, none, 0, ⟨0, 0, 0, 0, 0⟩⟩], peers := [⟨2, 0xC0A80101, 0, 63, 0⟩] } }
      : State) |>.set Reg.CFG.STAT_STEP 9 |>.set Reg.CFG.STAT_STEP 7), ⟨64, 0xC0A80101, 5000, 14720, false, true, true,
      77, 9, 0, 0⟩, ⟨77, 2, false, 64, 0xC0A80101, 5000, 1, none, 0, ⟨2, 0, false, false, 77, 0, 0, 0, 0, []⟩, 0, none,
      [], [], 128000000, 0, [], [], 0, none, 0, ⟨0, 0, 0, 0, 0⟩⟩, 0, by decide +kernel⟩,
  ⟨(({ (State.reset) with jrp := { State.reset.jrp with sessions := [⟨77, 2, false, 64, 0xC0A80101, 5000, 1, none, 0, ⟨2, 0, false, false, 77, 0, 0, 0, 0, []⟩, 0, none, [], [], 0, 0, [], [], 0, none, 0, ⟨0, 0, 0, 0, 0⟩⟩], peers := [⟨2, 0xC0A80101, 0, 63, 0⟩] } }
      : State) |>.set Reg.CFG.STAT_STEP 9), ⟨64, 0xC0A80101, 5000, 14720, false, true, true, 77, 9, 0, 0⟩, ⟨77, 2, false,
      64, 0xC0A80101, 5000, 1, none, 0, ⟨2, 0, false, false, 77, 0, 0, 0, 0, []⟩, 0, none, [], [], 0, 0, [], [], 0, none,
      0, ⟨0, 0, 0, 0, 0⟩⟩, 0, by decide +kernel⟩,
  ⟨(({ (State.reset) with jrp := { State.reset.jrp with sessions := [⟨77, 2, false, 64, 0xC0A80101, 5000, 1, none, 0, ⟨2, 0, false, false, 77, 0, 0, 0, 0, []⟩, 0, none, [], [], 128000000, 0, [], [], 0, none, 0, ⟨0, 0, 0, 0, 0⟩⟩], peers := [⟨2, 0xC0A80101, 0, 63, 0⟩] } }
      : State) |>.set Reg.CFG.STAT_STEP 9), ⟨64, 0xC0A80101, 5000, 14720, false, true, true, 77, 9, 0, 0⟩, ⟨77, 2, false,
      64, 0xC0A80101, 5000, 1, none, 0, ⟨2, 0, false, false, 77, 0, 0, 0, 0, []⟩, 0, none, [], [], 128000000, 0, [], [],
      0, none, 0, ⟨0, 0, 0, 0, 0⟩⟩, by decide +kernel⟩,
  ⟨(({ (State.reset) with jrp := { State.reset.jrp with sessions := [⟨77, 2, false, 64, 0xC0A80101, 5000, 1, none, 0, ⟨2, 0, false, false, 77, 0, 0, 0, 0, []⟩, 0, none, [], [], 128000000, 0, [], [], 0, none, 0, ⟨0, 0, 0, 0, 0⟩⟩], peers := [⟨2, 0xC0A80101, 0, 63, 0⟩] } }
      : State) |>.set Reg.CFG.STAT_STEP 9 |>.set Reg.CHN.EPOCH 9), ⟨64, 0xC0A80101, 5000, 14720, false, true, true, 77, 9,
      0, 0⟩, ⟨77, 2, false, 64, 0xC0A80101, 5000, 1, none, 0, ⟨2, 0, false, false, 77, 0, 0, 0, 0, []⟩, 0, none, [], [],
      128000000, 0, [], [], 0, none, 0, ⟨0, 0, 0, 0, 0⟩⟩, 5, [0x20000000, 0, 0], [], 0, by decide +kernel⟩,
  ⟨(({ (State.reset) with jrp := { State.reset.jrp with sessions := [⟨77, 2, false, 64, 0xC0A80101, 5000, 1, none, 0, ⟨2, 0, false, false, 77, 0, 0, 0, 0, []⟩, 0, none, [], [], 128000000, 0, [], [], 0, none, 0, ⟨0, 0, 0, 0, 0⟩⟩], peers := [⟨2, 0xC0A80101, 0, 63, 0⟩] } }
      : State) |>.set Reg.CFG.STAT_STEP 9 |>.set Reg.MGT.LOGSTAT_COUNT 2), ⟨64, 0xC0A80101, 5000, 14720, false, true,
      true, 77, 9, 0, 0⟩, ⟨77, 2, false, 64, 0xC0A80101, 5000, 1, none, 0, ⟨2, 0, false, false, 77, 0, 0, 0, 0, []⟩, 0,
      none, [], [], 128000000, 0, [], [], 0, none, 0, ⟨0, 0, 0, 0, 0⟩⟩, 0, 5,
      ((({ (State.reset) with jrp := { State.reset.jrp with sessions := [⟨77, 2, false, 64, 0xC0A80101, 5000, 1, none, 0, ⟨2, 0, false, false, 77, 0, 0, 0, 0, []⟩, 0, none, [], [], 128000000, 0, [], [], 0, none, 0, ⟨0, 0, 0, 0, 0⟩⟩], peers := [⟨2, 0xC0A80101, 0, 63, 0⟩] } }
      : State) |>.set Reg.CFG.STAT_STEP 9 |>.set Reg.MGT.LOGSTAT_COUNT 2)).logRecords 0 |>.take 5, by decide +kernel⟩,
  ⟨(({ (State.reset) with jrp := { State.reset.jrp with sessions := [⟨77, 2, false, 64, 0xC0A80101, 5000, 1, none, 0, ⟨2, 0, false, false, 77, 0, 0, 0, 0, []⟩, 0, none, [], [], 128000000, 0, [], [], 0, none, 0, ⟨0, 0, 0, 0, 0⟩⟩], peers := [⟨2, 0xC0A80101, 0, 63, 0⟩] } }
      : State) |>.set Reg.CFG.STAT_STEP 9), ⟨64, 0xC0A80101, 5000, 14720, false, true, true, 77, 9, 0, 0⟩, ⟨77, 2, false,
      64, 0xC0A80101, 5000, 1, none, 0, ⟨2, 0, false, false, 77, 0, 0, 0, 0, []⟩, 0, none, [], [], 128000000, 0, [], [],
      0, none, 0, ⟨0, 0, 0, 0, 0⟩⟩, 0, 5, by decide +kernel⟩,
  ⟨(({ (State.reset) with jrp := { State.reset.jrp with sessions := [⟨77, 2, false, 64, 0xC0A80101, 5000, 1, none, 0, ⟨2, 0, false, false, 77, 0, 0, 0, 0, []⟩, 0, none, [], [], 128000000, 0, [], [], 0, none, 0, ⟨0, 0, 0, 0, 0⟩⟩], peers := [⟨2, 0xC0A80101, 0, 63, 0⟩] } }
      : State) |>.set Reg.CFG.STAT_STEP 9), ⟨64, 0xC0A80101, 5000, 14720, false, true, true, 77, 9, 0, 0⟩, ⟨77, 2, false,
      64, 0xC0A80101, 5000, 1, none, 0, ⟨2, 0, false, false, 77, 0, 0, 0, 0, []⟩, 0, none, [], [], 128000000, 0, [], [],
      0, none, 0, ⟨0, 0, 0, 0, 0⟩⟩, 1, 4, 1, by decide +kernel⟩,
  ⟨(({ (State.reset) with jrp := { State.reset.jrp with sessions := [⟨77, 2, false, 64, 0xC0A80101, 5000, 1, none, 0, ⟨2, 0, false, false, 77, 0, 0, 0, 0, []⟩, 0, none, [], [], 128000000, 0, [], [], 0, none, 0, ⟨0, 0, 0, 0, 0⟩⟩], peers := [⟨2, 0xC0A80101, 0, 63, 0⟩] } }
      : State) |>.set Reg.CFG.STAT_STEP 9), ⟨64, 0xC0A80101, 5000, 14720, false, true, true, 77, 9, 0, 0⟩, ⟨77, 2, false,
      64, 0xC0A80101, 5000, 1, none, 0, ⟨2, 0, false, false, 77, 0, 0, 0, 0, []⟩, 0, none, [], [], 128000000, 0, [], [],
      0, none, 0, ⟨0, 0, 0, 0, 0⟩⟩, 9, 5, by decide +kernel⟩,
  ⟨(({ (State.reset) with jrp := { State.reset.jrp with sessions := [⟨77, 2, false, 64, 0xC0A80101, 5000, 1, none, 0, ⟨2, 0, false, false, 77, 0, 0, 0, 0, []⟩, 0, none, [], [], 128000000, 0, [], [], 0, none, 0, ⟨0, 0, 0, 0, 0⟩⟩], peers := [⟨2, 0xC0A80101, 0, 63, 0⟩] } }
      : State) |>.set Reg.CFG.STAT_STEP 9), ⟨64, 0xC0A80101, 5000, 14720, false, true, true, 77, 9, 0, 0⟩, ⟨77, 2, false,
      64, 0xC0A80101, 5000, 1, none, 0, ⟨2, 0, false, false, 77, 0, 0, 0, 0, []⟩, 0, none, [], [], 128000000, 0, [], [],
      0, none, 0, ⟨0, 0, 0, 0, 0⟩⟩, 8, 9, 5, by decide +kernel⟩,
  ⟨(({ (State.reset) with jrp := { State.reset.jrp with sessions := [⟨77, 2, false, 64, 0xC0A80101, 5000, 1, none, 0, ⟨2, 0, false, false, 77, 0, 0, 0, 0, []⟩, 0, none, [], [], 128000000, 0, [], [], 0, none, 0, ⟨0, 0, 0, 0, 0⟩⟩], peers := [⟨2, 0xC0A80101, 0, 63, 0⟩] } }
      : State) |>.set Reg.CFG.STAT_STEP 9 |>.set (Reg.CHN.ENT_HANDLE 4) 77), ⟨64, 0xC0A80101, 5000, 14720, false, true,
      true, 77, 9, 0, 0⟩, ⟨77, 2, false, 64, 0xC0A80101, 5000, 1, none, 0, ⟨2, 0, false, false, 77, 0, 0, 0, 0, []⟩, 0,
      none, [], [], 128000000, 0, [], [], 0, none, 0, ⟨0, 0, 0, 0, 0⟩⟩, (Reg.CHN.ENT_HANDLE 4).addr, 4, by decide +kernel⟩,
  ⟨(({ (State.reset) with jrp := { State.reset.jrp with sessions := [⟨77, 2, false, 64, 0xC0A80101, 5000, 1, none, 0, ⟨2, 0, false, false, 77, 0, 0, 0, 0, []⟩, 0, none, [], [], 128000000, 0, [], [], 0, none, 0, ⟨0, 0, 0, 0, 0⟩⟩], peers := [⟨2, 0xC0A80101, 0, 63, 0⟩] } }
      : State) |>.set Reg.CFG.STAT_STEP 9), ⟨64, 0xC0A80101, 5000, 14720, false, true, true, 77, 9, 0, 0⟩, ⟨77, 2, false,
      64, 0xC0A80101, 5000, 1, none, 0, ⟨2, 0, false, false, 77, 0, 0, 0, 0, []⟩, 0, none, [], [], 128000000, 0, [], [],
      0, none, 0, ⟨0, 0, 0, 0, 0⟩⟩, .routes 0 5, 0, by decide +kernel⟩,
  ⟨(({ (State.reset) with jrp := { State.reset.jrp with sessions := [⟨77, 2, false, 64, 0xC0A80101, 5000, 1, none, 0, ⟨2, 0, false, false, 77, 0, 0, 0, 0, []⟩, 0, none, [], [], 128000000, 0, ((List.range 16).map fun j => (j, .tallies)), [], 0, none, 0, ⟨0, 0, 0, 0, 0⟩⟩], peers := [⟨2, 0xC0A80101, 0, 63, 0⟩] } }
      : State) |>.set Reg.CFG.STAT_STEP 9), ⟨64, 0xC0A80101, 5000, 14720, false, true, true, 77, 9, 0, 0⟩, ⟨77, 2, false,
      64, 0xC0A80101, 5000, 1, none, 0, ⟨2, 0, false, false, 77, 0, 0, 0, 0, []⟩, 0, none, [], [], 128000000, 0,
      ((List.range 16).map fun j => (j, .tallies)), [], 0, none, 0, ⟨0, 0, 0, 0, 0⟩⟩, .routes 0 5, by decide +kernel⟩,
  ⟨(({ (State.reset) with jrp := { State.reset.jrp with sessions := [⟨77, 2, false, 64, 0xC0A80101, 5000, 1, none, 0, ⟨2, 0, false, false, 77, 0, 0, 0, 0, []⟩, 0, none, [], [], 128000000, 0, [(3, .tallies)], [], 0, none, 0, ⟨0, 0, 0, 0, 0⟩⟩], peers := [⟨2, 0xC0A80101, 0, 63, 0⟩] } }
      : State) |>.set Reg.CFG.STAT_STEP 9), ⟨64, 0xC0A80101, 5000, 14720, false, true, true, 77, 9, 0, 0⟩, ⟨77, 2, false,
      64, 0xC0A80101, 5000, 1, none, 0, ⟨2, 0, false, false, 77, 0, 0, 0, 0, []⟩, 0, none, [], [], 128000000, 0, [(3,
      .tallies)], [], 0, none, 0, ⟨0, 0, 0, 0, 0⟩⟩, 3, by decide +kernel⟩,
  ⟨(({ (State.reset) with jrp := { State.reset.jrp with sessions := [⟨77, 2, false, 64, 0xC0A80101, 5000, 1, none, 0, ⟨2, 0, false, false, 77, 0, 0, 0, 0, []⟩, 0, none, [], [], 128000000, 0, [], [], 0, none, 0, ⟨0, 0, 0, 0, 0⟩⟩], peers := [⟨2, 0xC0A80101, 0, 63, 0⟩] } }
      : State) |>.set Reg.CFG.STAT_STEP 9), ⟨64, 0xC0A80101, 5000, 14720, false, true, true, 77, 9, 0, 0⟩, ⟨77, 2, false,
      64, 0xC0A80101, 5000, 1, none, 0, ⟨2, 0, false, false, 77, 0, 0, 0, 0, []⟩, 0, none, [], [], 128000000, 0, [], [],
      0, none, 0, ⟨0, 0, 0, 0, 0⟩⟩, 3, by decide +kernel⟩,
  ⟨(({ (State.reset) with jrp := { State.reset.jrp with sessions := [⟨77, 2, false, 64, 0xC0A80101, 5000, 1, none, 0, ⟨2, 0, false, false, 77, 0, 0, 0, 0, []⟩, 0, none, [], [], 128000000, 0, [], [], 0, none, 0, ⟨0, 0, 0, 0, 0⟩⟩], peers := [⟨2, 0xC0A80101, 0, 63, 0⟩] } }
      : State) |>.set Reg.CFG.STAT_STEP 9), ⟨64, 0xC0A80101, 5000, 14720, false, true, true, 77, 9, 0, 0⟩, ⟨77, 2, false,
      64, 0xC0A80101, 5000, 1, none, 0, ⟨2, 0, false, false, 77, 0, 0, 0, 0, []⟩, 0, none, [], [], 128000000, 0, [], [],
      0, none, 0, ⟨0, 0, 0, 0, 0⟩⟩, List.replicate 32 1, 0, by decide +kernel⟩⟩

/-- States and operands that meet the hypotheses of each clause of `Obligations.JrpTakes`. -/
theorem witness_jrp_takes :
(∃ (s : State) (h : JrpHdr) (x : JrpSession) (out i : Nat) (src instant : Nat), JrpReady h x (.fab 1 [out, src, instant])
      s ∧ s.get Reg.FAB.TESTAT_BUSY = 0 ∧ s.get Reg.FAB.CTRL_EN = 1 ∧ x.peer < 255 ∧ i = State.handleIdx out ∧ out < 2 ^
      32 ∧ src < 2 ^ 32 ∧ instant < 2 ^ 64 ∧ s.judgeTake out src (s.get Reg.CHN.EPOCH) (x.peer + 1) (src == 0) = 0 ∧
      instant ≤ s.timeNs) ∧
(∃ (s : State) (h : JrpHdr) (x : JrpSession) (out i : Nat) (src instant : Nat) (k : Nat), JrpReady h x (.fab 1 [out, src,
      instant]) s ∧ s.get Reg.FAB.TESTAT_BUSY = 0 ∧ s.get Reg.FAB.CTRL_EN = 1 ∧ x.peer < 255 ∧ i = State.handleIdx out ∧
      out < 2 ^ 32 ∧ src < 2 ^ 32 ∧ instant < 2 ^ 64 ∧ s.judgeTake out src (s.get Reg.CHN.EPOCH) (x.peer + 1) (src == 0) =
      0 ∧ s.timeNs < instant ∧ ((List.range 4096).find? (fun j => Assoc.find s.fab.sched j == none) = some k)) ∧
(∃ (s : State) (h : JrpHdr) (x : JrpSession) (out i : Nat) (src instant : Nat), JrpReady h x (.fab 1 [out, src, instant])
      s ∧ s.get Reg.FAB.TESTAT_BUSY = 0 ∧ s.get Reg.FAB.CTRL_EN = 1 ∧ x.peer < 255 ∧ i = State.handleIdx out ∧ out < 2 ^
      32 ∧ src < 2 ^ 32 ∧ instant < 2 ^ 64 ∧ s.judgeTake out src (s.get Reg.CHN.EPOCH) (x.peer + 1) (src == 0) = 0 ∧
      s.timeNs < instant ∧ ((List.range 4096).find? (fun j => Assoc.find s.fab.sched j == none) = none)) ∧
(∃ (s : State) (h : JrpHdr) (x : JrpSession) (out i : Nat) (src instant : Nat) (c : Nat), JrpReady h x (.fab 1 [out, src,
      instant]) s ∧ s.get Reg.FAB.TESTAT_BUSY = 0 ∧ s.get Reg.FAB.CTRL_EN = 1 ∧ x.peer < 255 ∧ i = State.handleIdx out ∧
      out < 2 ^ 32 ∧ src < 2 ^ 32 ∧ instant < 2 ^ 64 ∧ c = s.judgeTake out src (s.get Reg.CHN.EPOCH) (x.peer + 1) (src ==
      0) ∧ c ≠ 0) ∧
(∃ (s : State) (h : JrpHdr) (x : JrpSession) (l : List Nat), JrpReady h x .nop s ∧ (((s.jrp.peers.find? fun p => p.index
      == x.peer).any fun p => bit p.rights 0) = true) ∧ s.get Reg.FAB.TESTAT_BUSY = 0 ∧ s.get Reg.FAB.CTRL_EN = 0 ∧ l =
      [16, 0]) ∧
(∃ (s : State) (h : JrpHdr) (x : JrpSession) (id k : Nat) (y : SchedTake), JrpReady h x (.fab 2 [id]) s ∧ s.get
      Reg.FAB.TESTAT_BUSY = 0 ∧ s.get Reg.FAB.CTRL_EN = 1 ∧ x.peer < 255 ∧ id < 65536 ∧ k = id % 4096 ∧ Assoc.find
      s.fab.sched k = some y ∧ s.schedId k = id ∧ y.latched = false) ∧
(∃ (s : State) (h : JrpHdr) (x : JrpSession) (id : Nat), JrpReady h x (.fab 2 [id]) s ∧ s.get Reg.FAB.TESTAT_BUSY = 0 ∧
      s.get Reg.FAB.CTRL_EN = 1 ∧ x.peer < 255 ∧ id < 65536 ∧ ((Assoc.find s.fab.sched (id % 4096)).all (fun y =>
      y.latched || s.schedId (id % 4096) != id) = true) ∧ s.prov.inverted = []) ∧
(∃ (s : State) (h : JrpHdr) (x : JrpSession) (out i : Nat), JrpReady h x (.fab 3 [out]) s ∧ s.get Reg.FAB.TESTAT_BUSY = 0
      ∧ s.get Reg.FAB.CTRL_EN = 1 ∧ x.peer < 255 ∧ i = State.handleIdx out ∧ out < 2 ^ 32 ∧ s.judgeHandle out
      State.anyKind = 0 ∧ State.outKinds.contains (State.handleKind out) = true ∧ s.lockHeld i (x.peer + 1) = 0 ∧
      s.salvoHolds i (x.peer + 1) = false) ∧
(∃ (s : State) (h : JrpHdr) (x : JrpSession) (out i : Nat), JrpReady h x (.fab 5 [out]) s ∧ s.get Reg.FAB.TESTAT_BUSY = 0
      ∧ s.get Reg.FAB.CTRL_EN = 1 ∧ x.peer < 255 ∧ i = State.handleIdx out ∧ out < 2 ^ 32 ∧ s.judgeHandle out
      State.anyKind = 0 ∧ State.outKinds.contains (State.handleKind out) = true ∧ s.lockHeld i (x.peer + 1) = 0 ∧
      s.salvoHolds i (x.peer + 1) = false) ∧
(∃ (s : State) (h : JrpHdr) (x : JrpSession) (out i : Nat), JrpReady h x (.fab 4 [out]) s ∧ s.get Reg.FAB.TESTAT_BUSY = 0
      ∧ s.get Reg.FAB.CTRL_EN = 1 ∧ x.peer < 255 ∧ i = State.handleIdx out ∧ out < 2 ^ 32 ∧ s.judgeHandle out
      State.anyKind = 0 ∧ State.outKinds.contains (State.handleKind out) = true ∧ (s.get (Reg.FAB.RT_OWNER i) = x.peer + 1
      ∨ s.get (Reg.FAB.RT_LOCK i) = 0)) ∧
(∃ (s : State) (h : JrpHdr) (x : JrpSession) (out i : Nat), JrpReady h x (.fab 6 [out]) s ∧ s.get Reg.FAB.TESTAT_BUSY = 0
      ∧ s.get Reg.FAB.CTRL_EN = 1 ∧ x.peer < 255 ∧ i = State.handleIdx out ∧ out < 2 ^ 32 ∧ s.judgeHandle out
      State.anyKind = 0 ∧ State.outKinds.contains (State.handleKind out) = true ∧ (s.get (Reg.FAB.RT_OWNER i) = x.peer + 1
      ∨ s.get (Reg.FAB.RT_PROTECT i) = 0)) ∧
(∃ (s : State) (h : JrpHdr) (x : JrpSession) (out i : Nat) (c : Nat), JrpReady h x (.fab 3 [out]) s ∧ s.get
      Reg.FAB.TESTAT_BUSY = 0 ∧ s.get Reg.FAB.CTRL_EN = 1 ∧ x.peer < 255 ∧ i = State.handleIdx out ∧ out < 2 ^ 32 ∧ (c =
      (if s.judgeHandle out State.anyKind ≠ 0 then s.judgeHandle out State.anyKind else if State.outKinds.contains
      (State.handleKind out) then (if s.lockHeld i (x.peer + 1) ≠ 0 then s.lockHeld i (x.peer + 1) else if s.salvoHolds i
      (x.peer + 1) then 13 else 0) else 4)) ∧ c ≠ 0) ∧
(∃ (s : State) (h : JrpHdr) (x : JrpSession) (out i : Nat) (c : Nat), JrpReady h x (.fab 5 [out]) s ∧ s.get
      Reg.FAB.TESTAT_BUSY = 0 ∧ s.get Reg.FAB.CTRL_EN = 1 ∧ x.peer < 255 ∧ i = State.handleIdx out ∧ out < 2 ^ 32 ∧ (c =
      (if s.judgeHandle out State.anyKind ≠ 0 then s.judgeHandle out State.anyKind else if State.outKinds.contains
      (State.handleKind out) then (if s.lockHeld i (x.peer + 1) ≠ 0 then s.lockHeld i (x.peer + 1) else if s.salvoHolds i
      (x.peer + 1) then 13 else 0) else 4)) ∧ c ≠ 0) ∧
(∃ (s : State) (h : JrpHdr) (x : JrpSession) (out i : Nat) (c : Nat), JrpReady h x (.fab 4 [out]) s ∧ s.get
      Reg.FAB.TESTAT_BUSY = 0 ∧ s.get Reg.FAB.CTRL_EN = 1 ∧ x.peer < 255 ∧ i = State.handleIdx out ∧ out < 2 ^ 32 ∧ (c =
      (if s.judgeHandle out State.anyKind ≠ 0 then s.judgeHandle out State.anyKind else if State.outKinds.contains
      (State.handleKind out) then (if s.get (Reg.FAB.RT_LOCK i) = 1 ∧ s.get (Reg.FAB.RT_OWNER i) ≠ x.peer + 1 then 22 else
      0) else 4)) ∧ c ≠ 0) ∧
(∃ (s : State) (h : JrpHdr) (x : JrpSession) (out i : Nat) (c : Nat), JrpReady h x (.fab 6 [out]) s ∧ s.get
      Reg.FAB.TESTAT_BUSY = 0 ∧ s.get Reg.FAB.CTRL_EN = 1 ∧ x.peer < 255 ∧ i = State.handleIdx out ∧ out < 2 ^ 32 ∧ (c =
      (if s.judgeHandle out State.anyKind ≠ 0 then s.judgeHandle out State.anyKind else if State.outKinds.contains
      (State.handleKind out) then (if s.get (Reg.FAB.RT_PROTECT i) = 1 ∧ s.get (Reg.FAB.RT_OWNER i) ≠ x.peer + 1 then 23
      else 0) else 4)) ∧ c ≠ 0) ∧
(∃ (s : State) (h : JrpHdr) (x : JrpSession) (out i : Nat), JrpReady h x (.forceClear out) s ∧ i = State.handleIdx out ∧
      out < 2 ^ 32 ∧ s.judgeHandle out State.anyKind = 0 ∧ State.outKinds.contains (State.handleKind out) = true ∧ i <
      16384) ∧
(∃ (s : State) (h : JrpHdr) (x : JrpSession) (out c : Nat), JrpReady h x (.forceClear out) s ∧ (c = (if s.judgeHandle out
      State.anyKind ≠ 0 then s.judgeHandle out State.anyKind else if State.outKinds.contains (State.handleKind out) then 0
      else 4)) ∧ c ≠ 0) ∧
(∃ (s : State) (x : JrpSession) (c : Completion) (l : List Completion) (w : JrpAwait) (e : JrpEntry), s.fab.tcq = c :: l ∧
      s.get Reg.FAB.TCQSTAT_OVF = 0 ∧ s.jrp.awaits = [w] ∧ State.JrpAwait.hit c w = true ∧ w.left ≤ 1 ∧ w.status = none ∧
      w.session = x.id ∧ w.txid = e.txid ∧ s.jrp.sessions = [x] ∧ x.window = [e] ∧ e.late = true ∧ e.final = none ∧
      x.notes = []) ∧
(∃ (s : State) (c : Completion) (l : List Completion) (w : JrpAwait), s.fab.tcq = c :: l ∧ s.get Reg.FAB.TCQSTAT_OVF = 0 ∧
      s.jrp.awaits = [w] ∧ State.JrpAwait.hit c w = true ∧ 2 ≤ w.left) ∧
(∃ (s : State) (c : Completion) (l : List Completion), s.fab.tcq = c :: l ∧ s.get Reg.FAB.TCQSTAT_OVF = 0 ∧
      (s.jrp.awaits.any (State.JrpAwait.hit c)) = false) ∧
(∃ (s : State), s.get Reg.FAB.TCQSTAT_OVF = 1 ∧ s.jrp.awaits = []) ∧
(∃ (s : State), s.fab.tcq = [] ∧ s.get Reg.FAB.TCQSTAT_OVF = 0) :=
  ⟨⟨(({ ((((State.reset.set Reg.FAB.CTRL_EN 1).set (Reg.CHN.ENT_HANDLE 1) (State.mkHandle 2 1 5)).set (Reg.CHN.ENT_STATE_STATE 1) 1)) with jrp := { State.reset.jrp with sessions := [⟨77, 2, false, 64, 0xC0A80101, 5000, 1, none, 0, ⟨2, 0, false, false, 77, 0, 0, 0, 0, []⟩, 0, none, [], [], 128000000, 0, [], [], 0, none, 0, ⟨0, 0, 0, 0, 0⟩⟩], peers := [⟨2, 0xC0A80101, 0, 63, 0⟩] } }
      : State) |>.set Reg.CFG.STAT_STEP 9), ⟨64, 0xC0A80101, 5000, 14720, false, true, true, 77, 9, 0, 0⟩, ⟨77, 2, false,
      64, 0xC0A80101, 5000, 1, none, 0, ⟨2, 0, false, false, 77, 0, 0, 0, 0, []⟩, 0, none, [], [], 128000000, 0, [], [],
      0, none, 0, ⟨0, 0, 0, 0, 0⟩⟩, State.mkHandle 2 1 5, 1, 0, 0, by decide +kernel⟩,
  ⟨(({ ((((State.reset.set Reg.FAB.CTRL_EN 1).set (Reg.CHN.ENT_HANDLE 1) (State.mkHandle 2 1 5)).set (Reg.CHN.ENT_STATE_STATE 1) 1)) with jrp := { State.reset.jrp with sessions := [⟨77, 2, false, 64, 0xC0A80101, 5000, 1, none, 0, ⟨2, 0, false, false, 77, 0, 0, 0, 0, []⟩, 0, none, [], [], 128000000, 0, [], [], 0, none, 0, ⟨0, 0, 0, 0, 0⟩⟩], peers := [⟨2, 0xC0A80101, 0, 63, 0⟩] } }
      : State) |>.set Reg.CFG.STAT_STEP 9), ⟨64, 0xC0A80101, 5000, 14720, false, true, true, 77, 9, 0, 0⟩, ⟨77, 2, false,
      64, 0xC0A80101, 5000, 1, none, 0, ⟨2, 0, false, false, 77, 0, 0, 0, 0, []⟩, 0, none, [], [], 128000000, 0, [], [],
      0, none, 0, ⟨0, 0, 0, 0, 0⟩⟩, State.mkHandle 2 1 5, 1, 0, 900, 0, by decide +kernel⟩,
  ⟨(({ (({ ((((State.reset.set Reg.FAB.CTRL_EN 1).set (Reg.CHN.ENT_HANDLE 1) (State.mkHandle 2 1 5)).set (Reg.CHN.ENT_STATE_STATE 1) 1)) with fab := { State.reset.fab with sched := (List.range 4096).map fun k => (k, ⟨1, 900, false, false, ⟨0, 3, 9, 0, 0⟩⟩) } } : State)) with jrp := { State.reset.jrp with sessions := [⟨77, 2, false, 64, 0xC0A80101, 5000, 1, none, 0, ⟨2, 0, false, false, 77, 0, 0, 0, 0, []⟩, 0, none, [], [], 128000000, 0, [], [], 0, none, 0, ⟨0, 0, 0, 0, 0⟩⟩], peers := [⟨2, 0xC0A80101, 0, 63, 0⟩] } }
      : State) |>.set Reg.CFG.STAT_STEP 9), ⟨64, 0xC0A80101, 5000, 14720, false, true, true, 77, 9, 0, 0⟩, ⟨77, 2, false,
      64, 0xC0A80101, 5000, 1, none, 0, ⟨2, 0, false, false, 77, 0, 0, 0, 0, []⟩, 0, none, [], [], 128000000, 0, [], [],
      0, none, 0, ⟨0, 0, 0, 0, 0⟩⟩, State.mkHandle 2 1 5, 1, 0, 900, by decide +kernel, by decide +kernel,
      by decide +kernel, by decide +kernel, by decide +kernel, by decide +kernel, by decide +kernel, by decide +kernel,
      by decide +kernel, by decide +kernel, Tests.find_full 4096 ⟨1, 900, false, false, ⟨0, 3, 9, 0, 0⟩⟩ _ (by rw
      [Sys2Proof.Machine.State.set_fab])⟩,
  ⟨(({ ((((State.reset.set Reg.FAB.CTRL_EN 1).set (Reg.CHN.ENT_HANDLE 1) (State.mkHandle 2 1 5)).set (Reg.CHN.ENT_STATE_STATE 1) 1)) with jrp := { State.reset.jrp with sessions := [⟨77, 2, false, 64, 0xC0A80101, 5000, 1, none, 0, ⟨2, 0, false, false, 77, 0, 0, 0, 0, []⟩, 0, none, [], [], 128000000, 0, [], [], 0, none, 0, ⟨0, 0, 0, 0, 0⟩⟩], peers := [⟨2, 0xC0A80101, 0, 63, 0⟩] } }
      : State) |>.set Reg.CFG.STAT_STEP 9), ⟨64, 0xC0A80101, 5000, 14720, false, true, true, 77, 9, 0, 0⟩, ⟨77, 2, false,
      64, 0xC0A80101, 5000, 1, none, 0, ⟨2, 0, false, false, 77, 0, 0, 0, 0, []⟩, 0, none, [], [], 128000000, 0, [], [],
      0, none, 0, ⟨0, 0, 0, 0, 0⟩⟩, State.mkHandle 2 1 5, 1, 5, 0, 2, by decide +kernel⟩,
  ⟨(({ (State.reset) with jrp := { State.reset.jrp with sessions := [⟨77, 2, false, 64, 0xC0A80101, 5000, 1, none, 0, ⟨2, 0, false, false, 77, 0, 0, 0, 0, []⟩, 0, none, [], [], 128000000, 0, [], [], 0, none, 0, ⟨0, 0, 0, 0, 0⟩⟩], peers := [⟨2, 0xC0A80101, 0, 63, 0⟩] } }
      : State) |>.set Reg.CFG.STAT_STEP 9), ⟨64, 0xC0A80101, 5000, 14720, false, true, true, 77, 9, 0, 0⟩, ⟨77, 2, false,
      64, 0xC0A80101, 5000, 1, none, 0, ⟨2, 0, false, false, 77, 0, 0, 0, 0, []⟩, 0, none, [], [], 128000000, 0, [], [],
      0, none, 0, ⟨0, 0, 0, 0, 0⟩⟩, [16, 0], by decide +kernel⟩,
  ⟨(({ (({ (((State.reset.set Reg.FAB.CTRL_EN 1).set (Reg.CHN.ENT_HANDLE 1) (State.mkHandle 2 1 5)).set (Reg.CHN.ENT_STATE_STATE 1) 1) with fab := { State.reset.fab with sched := [(3, ⟨1, 900, false, false, ⟨0, 3, 9, 0, 0⟩⟩)] } } : State)) with jrp := { State.reset.jrp with sessions := [⟨77, 2, false, 64, 0xC0A80101, 5000, 1, none, 0, ⟨2, 0, false, false, 77, 0, 0, 0, 0, []⟩, 0, none, [], [], 128000000, 0, [], [], 0, none, 0, ⟨0, 0, 0, 0, 0⟩⟩], peers := [⟨2, 0xC0A80101, 0, 63, 0⟩] } }
      : State) |>.set Reg.CFG.STAT_STEP 9), ⟨64, 0xC0A80101, 5000, 14720, false, true, true, 77, 9, 0, 0⟩, ⟨77, 2, false,
      64, 0xC0A80101, 5000, 1, none, 0, ⟨2, 0, false, false, 77, 0, 0, 0, 0, []⟩, 0, none, [], [], 128000000, 0, [], [],
      0, none, 0, ⟨0, 0, 0, 0, 0⟩⟩, 3, 3, ⟨1, 900, false, false, ⟨0, 3, 9, 0, 0⟩⟩, by decide +kernel⟩,
  ⟨(({ ((((State.reset.set Reg.FAB.CTRL_EN 1).set (Reg.CHN.ENT_HANDLE 1) (State.mkHandle 2 1 5)).set (Reg.CHN.ENT_STATE_STATE 1) 1)) with jrp := { State.reset.jrp with sessions := [⟨77, 2, false, 64, 0xC0A80101, 5000, 1, none, 0, ⟨2, 0, false, false, 77, 0, 0, 0, 0, []⟩, 0, none, [], [], 128000000, 0, [], [], 0, none, 0, ⟨0, 0, 0, 0, 0⟩⟩], peers := [⟨2, 0xC0A80101, 0, 63, 0⟩] } }
      : State) |>.set Reg.CFG.STAT_STEP 9), ⟨64, 0xC0A80101, 5000, 14720, false, true, true, 77, 9, 0, 0⟩, ⟨77, 2, false,
      64, 0xC0A80101, 5000, 1, none, 0, ⟨2, 0, false, false, 77, 0, 0, 0, 0, []⟩, 0, none, [], [], 128000000, 0, [], [],
      0, none, 0, ⟨0, 0, 0, 0, 0⟩⟩, 3, by decide +kernel⟩,
  ⟨(({ ((((State.reset.set Reg.FAB.CTRL_EN 1).set (Reg.CHN.ENT_HANDLE 1) (State.mkHandle 2 1 5)).set (Reg.CHN.ENT_STATE_STATE 1) 1)) with jrp := { State.reset.jrp with sessions := [⟨77, 2, false, 64, 0xC0A80101, 5000, 1, none, 0, ⟨2, 0, false, false, 77, 0, 0, 0, 0, []⟩, 0, none, [], [], 128000000, 0, [], [], 0, none, 0, ⟨0, 0, 0, 0, 0⟩⟩], peers := [⟨2, 0xC0A80101, 0, 63, 0⟩] } }
      : State) |>.set Reg.CFG.STAT_STEP 9), ⟨64, 0xC0A80101, 5000, 14720, false, true, true, 77, 9, 0, 0⟩, ⟨77, 2, false,
      64, 0xC0A80101, 5000, 1, none, 0, ⟨2, 0, false, false, 77, 0, 0, 0, 0, []⟩, 0, none, [], [], 128000000, 0, [], [],
      0, none, 0, ⟨0, 0, 0, 0, 0⟩⟩, State.mkHandle 2 1 5, 1, by decide +kernel⟩,
  ⟨(({ ((((State.reset.set Reg.FAB.CTRL_EN 1).set (Reg.CHN.ENT_HANDLE 1) (State.mkHandle 2 1 5)).set (Reg.CHN.ENT_STATE_STATE 1) 1)) with jrp := { State.reset.jrp with sessions := [⟨77, 2, false, 64, 0xC0A80101, 5000, 1, none, 0, ⟨2, 0, false, false, 77, 0, 0, 0, 0, []⟩, 0, none, [], [], 128000000, 0, [], [], 0, none, 0, ⟨0, 0, 0, 0, 0⟩⟩], peers := [⟨2, 0xC0A80101, 0, 63, 0⟩] } }
      : State) |>.set Reg.CFG.STAT_STEP 9), ⟨64, 0xC0A80101, 5000, 14720, false, true, true, 77, 9, 0, 0⟩, ⟨77, 2, false,
      64, 0xC0A80101, 5000, 1, none, 0, ⟨2, 0, false, false, 77, 0, 0, 0, 0, []⟩, 0, none, [], [], 128000000, 0, [], [],
      0, none, 0, ⟨0, 0, 0, 0, 0⟩⟩, State.mkHandle 2 1 5, 1, by decide +kernel⟩,
  ⟨(({ ((((State.reset.set Reg.FAB.CTRL_EN 1).set (Reg.CHN.ENT_HANDLE 1) (State.mkHandle 2 1 5)).set (Reg.CHN.ENT_STATE_STATE 1) 1)) with jrp := { State.reset.jrp with sessions := [⟨77, 2, false, 64, 0xC0A80101, 5000, 1, none, 0, ⟨2, 0, false, false, 77, 0, 0, 0, 0, []⟩, 0, none, [], [], 128000000, 0, [], [], 0, none, 0, ⟨0, 0, 0, 0, 0⟩⟩], peers := [⟨2, 0xC0A80101, 0, 63, 0⟩] } }
      : State) |>.set Reg.CFG.STAT_STEP 9 |>.set (Reg.FAB.RT_LOCK 1) 1 |>.set (Reg.FAB.RT_OWNER 1) 3), ⟨64, 0xC0A80101,
      5000, 14720, false, true, true, 77, 9, 0, 0⟩, ⟨77, 2, false, 64, 0xC0A80101, 5000, 1, none, 0, ⟨2, 0, false, false,
      77, 0, 0, 0, 0, []⟩, 0, none, [], [], 128000000, 0, [], [], 0, none, 0, ⟨0, 0, 0, 0, 0⟩⟩, State.mkHandle 2 1 5, 1,
      by decide +kernel⟩,
  ⟨(({ ((((State.reset.set Reg.FAB.CTRL_EN 1).set (Reg.CHN.ENT_HANDLE 1) (State.mkHandle 2 1 5)).set (Reg.CHN.ENT_STATE_STATE 1) 1)) with jrp := { State.reset.jrp with sessions := [⟨77, 2, false, 64, 0xC0A80101, 5000, 1, none, 0, ⟨2, 0, false, false, 77, 0, 0, 0, 0, []⟩, 0, none, [], [], 128000000, 0, [], [], 0, none, 0, ⟨0, 0, 0, 0, 0⟩⟩], peers := [⟨2, 0xC0A80101, 0, 63, 0⟩] } }
      : State) |>.set Reg.CFG.STAT_STEP 9 |>.set (Reg.FAB.RT_PROTECT 1) 1 |>.set (Reg.FAB.RT_OWNER 1) 3), ⟨64, 0xC0A80101,
      5000, 14720, false, true, true, 77, 9, 0, 0⟩, ⟨77, 2, false, 64, 0xC0A80101, 5000, 1, none, 0, ⟨2, 0, false, false,
      77, 0, 0, 0, 0, []⟩, 0, none, [], [], 128000000, 0, [], [], 0, none, 0, ⟨0, 0, 0, 0, 0⟩⟩, State.mkHandle 2 1 5, 1,
      by decide +kernel⟩,
  ⟨(({ ((((State.reset.set Reg.FAB.CTRL_EN 1).set (Reg.CHN.ENT_HANDLE 1) (State.mkHandle 2 1 5)).set (Reg.CHN.ENT_STATE_STATE 1) 1)) with jrp := { State.reset.jrp with sessions := [⟨77, 2, false, 64, 0xC0A80101, 5000, 1, none, 0, ⟨2, 0, false, false, 77, 0, 0, 0, 0, []⟩, 0, none, [], [], 128000000, 0, [], [], 0, none, 0, ⟨0, 0, 0, 0, 0⟩⟩], peers := [⟨2, 0xC0A80101, 0, 63, 0⟩] } }
      : State) |>.set Reg.CFG.STAT_STEP 9 |>.set (Reg.FAB.RT_LOCK 1) 1 |>.set (Reg.FAB.RT_OWNER 1) 9), ⟨64, 0xC0A80101,
      5000, 14720, false, true, true, 77, 9, 0, 0⟩, ⟨77, 2, false, 64, 0xC0A80101, 5000, 1, none, 0, ⟨2, 0, false, false,
      77, 0, 0, 0, 0, []⟩, 0, none, [], [], 128000000, 0, [], [], 0, none, 0, ⟨0, 0, 0, 0, 0⟩⟩, State.mkHandle 2 1 5, 1,
      22, by decide +kernel⟩,
  ⟨(({ ((((State.reset.set Reg.FAB.CTRL_EN 1).set (Reg.CHN.ENT_HANDLE 1) (State.mkHandle 2 1 5)).set (Reg.CHN.ENT_STATE_STATE 1) 1)) with jrp := { State.reset.jrp with sessions := [⟨77, 2, false, 64, 0xC0A80101, 5000, 1, none, 0, ⟨2, 0, false, false, 77, 0, 0, 0, 0, []⟩, 0, none, [], [], 128000000, 0, [], [], 0, none, 0, ⟨0, 0, 0, 0, 0⟩⟩], peers := [⟨2, 0xC0A80101, 0, 63, 0⟩] } }
      : State) |>.set Reg.CFG.STAT_STEP 9 |>.set (Reg.FAB.RT_PROTECT 1) 1 |>.set (Reg.FAB.RT_OWNER 1) 9), ⟨64, 0xC0A80101,
      5000, 14720, false, true, true, 77, 9, 0, 0⟩, ⟨77, 2, false, 64, 0xC0A80101, 5000, 1, none, 0, ⟨2, 0, false, false,
      77, 0, 0, 0, 0, []⟩, 0, none, [], [], 128000000, 0, [], [], 0, none, 0, ⟨0, 0, 0, 0, 0⟩⟩, State.mkHandle 2 1 5, 1,
      23, by decide +kernel⟩,
  ⟨(({ ((((State.reset.set Reg.FAB.CTRL_EN 1).set (Reg.CHN.ENT_HANDLE 1) (State.mkHandle 2 1 5)).set (Reg.CHN.ENT_STATE_STATE 1) 1)) with jrp := { State.reset.jrp with sessions := [⟨77, 2, false, 64, 0xC0A80101, 5000, 1, none, 0, ⟨2, 0, false, false, 77, 0, 0, 0, 0, []⟩, 0, none, [], [], 128000000, 0, [], [], 0, none, 0, ⟨0, 0, 0, 0, 0⟩⟩], peers := [⟨2, 0xC0A80101, 0, 63, 0⟩] } }
      : State) |>.set Reg.CFG.STAT_STEP 9 |>.set (Reg.FAB.RT_LOCK 1) 1 |>.set (Reg.FAB.RT_OWNER 1) 9), ⟨64, 0xC0A80101,
      5000, 14720, false, true, true, 77, 9, 0, 0⟩, ⟨77, 2, false, 64, 0xC0A80101, 5000, 1, none, 0, ⟨2, 0, false, false,
      77, 0, 0, 0, 0, []⟩, 0, none, [], [], 128000000, 0, [], [], 0, none, 0, ⟨0, 0, 0, 0, 0⟩⟩, State.mkHandle 2 1 5, 1,
      22, by decide +kernel⟩,
  ⟨(({ ((((State.reset.set Reg.FAB.CTRL_EN 1).set (Reg.CHN.ENT_HANDLE 1) (State.mkHandle 2 1 5)).set (Reg.CHN.ENT_STATE_STATE 1) 1)) with jrp := { State.reset.jrp with sessions := [⟨77, 2, false, 64, 0xC0A80101, 5000, 1, none, 0, ⟨2, 0, false, false, 77, 0, 0, 0, 0, []⟩, 0, none, [], [], 128000000, 0, [], [], 0, none, 0, ⟨0, 0, 0, 0, 0⟩⟩], peers := [⟨2, 0xC0A80101, 0, 63, 0⟩] } }
      : State) |>.set Reg.CFG.STAT_STEP 9 |>.set (Reg.FAB.RT_PROTECT 1) 1 |>.set (Reg.FAB.RT_OWNER 1) 9), ⟨64, 0xC0A80101,
      5000, 14720, false, true, true, 77, 9, 0, 0⟩, ⟨77, 2, false, 64, 0xC0A80101, 5000, 1, none, 0, ⟨2, 0, false, false,
      77, 0, 0, 0, 0, []⟩, 0, none, [], [], 128000000, 0, [], [], 0, none, 0, ⟨0, 0, 0, 0, 0⟩⟩, State.mkHandle 2 1 5, 1,
      23, by decide +kernel⟩,
  ⟨(({ (({ (((State.reset.set Reg.FAB.CTRL_EN 1).set (Reg.CHN.ENT_HANDLE 1) (State.mkHandle 2 1 5)).set (Reg.CHN.ENT_STATE_STATE 1) 1) with key := { State.reset.key with window := some 60000000000 } } : State)) with jrp := { State.reset.jrp with sessions := [⟨77, 2, true, 64, 0xC0A80101, 5000, 1, none, 0, ⟨2, 0, false, false, 77, 0, 0, 0, 0, []⟩, 0, none, [], [], 128000000, 0, [], [], 0, none, 0, ⟨0, 0, 0, 0, 0⟩⟩], peers := [⟨2, 0xC0A80101, 0, 63, 0⟩] } }
      : State) |>.set Reg.CFG.STAT_STEP 9 |>.set (Reg.FAB.RT_LOCK 1) 1 |>.set (Reg.FAB.RT_OWNER 1) 9 |>.set
      Reg.KEY.STAT_WINDOW 1), ⟨64, 0xC0A80101, 5000, 14720, false, true, true, 77, 9, 0, 0⟩, ⟨77, 2, true, 64, 0xC0A80101,
      5000, 1, none, 0, ⟨2, 0, false, false, 77, 0, 0, 0, 0, []⟩, 0, none, [], [], 128000000, 0, [], [], 0, none, 0, ⟨0,
      0, 0, 0, 0⟩⟩, State.mkHandle 2 1 5, 1, by decide +kernel⟩,
  ⟨(({ (({ (((State.reset.set Reg.FAB.CTRL_EN 1).set (Reg.CHN.ENT_HANDLE 1) (State.mkHandle 2 1 5)).set (Reg.CHN.ENT_STATE_STATE 1) 1) with key := { State.reset.key with window := some 60000000000 } } : State)) with jrp := { State.reset.jrp with sessions := [⟨77, 2, true, 64, 0xC0A80101, 5000, 1, none, 0, ⟨2, 0, false, false, 77, 0, 0, 0, 0, []⟩, 0, none, [], [], 128000000, 0, [], [], 0, none, 0, ⟨0, 0, 0, 0, 0⟩⟩], peers := [⟨2, 0xC0A80101, 0, 63, 0⟩] } }
      : State) |>.set Reg.CFG.STAT_STEP 9 |>.set Reg.KEY.STAT_WINDOW 1), ⟨64, 0xC0A80101, 5000, 14720, false, true, true,
      77, 9, 0, 0⟩, ⟨77, 2, true, 64, 0xC0A80101, 5000, 1, none, 0, ⟨2, 0, false, false, 77, 0, 0, 0, 0, []⟩, 0, none, [],
      [], 128000000, 0, [], [], 0, none, 0, ⟨0, 0, 0, 0, 0⟩⟩, 7, 2, by decide +kernel⟩,
  ⟨(({ (({ (((State.reset.set Reg.FAB.CTRL_EN 1).set (Reg.CHN.ENT_HANDLE 1) (State.mkHandle 2 1 5)).set (Reg.CHN.ENT_STATE_STATE 1) 1) with fab := { State.reset.fab with tcq := [⟨State.mkHandle 2 1 5, 0, 2, 3, 4, 3, 6⟩] } } : State)) with jrp := { State.reset.jrp with awaits := [⟨77, 9, 3, some 1, 0, 4, 1, none, []⟩], sessions := [⟨77, 2, false, 64, 0xC0A80101, 5000, 1, none, 0, ⟨2, 0, false, false, 77, 0, 0, 0, 0, []⟩, 0, some 9, [⟨9, some (0, [4, 0, 0]), true, none⟩], [], 128000000, 0, [], [], 0, none, 0, ⟨0, 0, 0, 0, 0⟩⟩], peers := [⟨2, 0xC0A80101, 0, 63, 0⟩] } }
      : State) |>.set Reg.CFG.STAT_STEP 9), ⟨77, 2, false, 64, 0xC0A80101, 5000, 1, none, 0, ⟨2, 0, false, false, 77, 0,
      0, 0, 0, []⟩, 0, some 9, [⟨9, some (0, [4, 0, 0]), true, none⟩], [], 128000000, 0, [], [], 0, none, 0, ⟨0, 0, 0, 0,
      0⟩⟩, ⟨State.mkHandle 2 1 5, 0, 2, 3, 4, 3, 6⟩, [], ⟨77, 9, 3, some 1, 0, 4, 1, none, []⟩, ⟨9, some (0, [4, 0, 0]),
      true, none⟩, by decide +kernel⟩,
  ⟨(({ (({ (((State.reset.set Reg.FAB.CTRL_EN 1).set (Reg.CHN.ENT_HANDLE 1) (State.mkHandle 2 1 5)).set (Reg.CHN.ENT_STATE_STATE 1) 1) with fab := { State.reset.fab with tcq := [⟨State.mkHandle 2 1 5, 20, 66, 3, 4, 3, 6⟩] } } : State)) with jrp := { State.reset.jrp with awaits := [⟨77, 9, 3, none, 0, 4, 2, none, [(1, 0)]⟩], sessions := [⟨77, 2, false, 64, 0xC0A80101, 5000, 1, none, 0, ⟨2, 0, false, false, 77, 0, 0, 0, 0, []⟩, 0, none, [], [], 128000000, 0, [], [], 0, none, 0, ⟨0, 0, 0, 0, 0⟩⟩], peers := [⟨2, 0xC0A80101, 0, 63, 0⟩] } }
      : State) |>.set Reg.CFG.STAT_STEP 9), ⟨State.mkHandle 2 1 5, 20, 66, 3, 4, 3, 6⟩, [], ⟨77, 9, 3, none, 0, 4, 2,
      none, [(1, 0)]⟩, by decide +kernel⟩,
  ⟨(({ (({ (((State.reset.set Reg.FAB.CTRL_EN 1).set (Reg.CHN.ENT_HANDLE 1) (State.mkHandle 2 1 5)).set (Reg.CHN.ENT_STATE_STATE 1) 1) with fab := { State.reset.fab with tcq := [⟨State.mkHandle 2 1 5, 0, 2, 3, 4, 3, 6⟩] } } : State)) with jrp := { State.reset.jrp with sessions := [⟨77, 2, false, 64, 0xC0A80101, 5000, 1, none, 0, ⟨2, 0, false, false, 77, 0, 0, 0, 0, []⟩, 0, none, [], [], 128000000, 0, [], [], 0, none, 0, ⟨0, 0, 0, 0, 0⟩⟩], peers := [⟨2, 0xC0A80101, 0, 63, 0⟩] } }
      : State) |>.set Reg.CFG.STAT_STEP 9), ⟨State.mkHandle 2 1 5, 0, 2, 3, 4, 3, 6⟩, [], by decide +kernel⟩,
  ⟨(({ (({ (((State.reset.set Reg.FAB.CTRL_EN 1).set (Reg.CHN.ENT_HANDLE 1) (State.mkHandle 2 1 5)).set (Reg.CHN.ENT_STATE_STATE 1) 1) with fab := { State.reset.fab with tcq := [⟨State.mkHandle 2 1 5, 0, 2, 3, 4, 3, 6⟩] } } : State)) with jrp := { State.reset.jrp with sessions := [⟨77, 2, false, 64, 0xC0A80101, 5000, 1, none, 0, ⟨2, 0, false, false, 77, 0, 0, 0, 0, []⟩, 0, none, [], [], 128000000, 0, [], [], 0, none, 0, ⟨0, 0, 0, 0, 0⟩⟩], peers := [⟨2, 0xC0A80101, 0, 63, 0⟩] } }
      : State) |>.set Reg.CFG.STAT_STEP 9 |>.set Reg.FAB.TCQSTAT_OVF 1), by decide +kernel⟩,
  ⟨State.reset, by decide +kernel⟩⟩

/-- States and operands that meet the hypotheses of each clause of `Obligations.JrpSalvos`. -/
theorem witness_jrp_salvos :
(∃ (s : State) (h : JrpHdr) (x : JrpSession) (gid v : Nat), JrpReady h x (.salvo 7 gid 0 0) s ∧ s.get Reg.FAB.TESTAT_BUSY
      = 0 ∧ s.get Reg.FAB.CTRL_EN = 1 ∧ x.peer < 255 ∧ gid < 2 ^ 32 ∧ ((s.fab.salvos.find? fun p => p.2.gid == gid) =
      none) ∧ (((List.range 32).find? fun k => Assoc.find s.fab.salvos k == none) = some v)) ∧
(∃ (s : State) (h : JrpHdr) (x : JrpSession) (gid c : Nat), JrpReady h x (.salvo 7 gid 0 0) s ∧ s.get Reg.FAB.TESTAT_BUSY
      = 0 ∧ s.get Reg.FAB.CTRL_EN = 1 ∧ x.peer < 255 ∧ gid < 2 ^ 32 ∧ (c = (if (s.fab.salvos.find? fun p => p.2.gid ==
      gid).isSome then 0 else if ((List.range 32).find? fun k => Assoc.find s.fab.salvos k == none) = none then 5 else 1))
      ∧ c ≠ 1) ∧
(∃ (s : State) (h : JrpHdr) (x : JrpSession) (gid v : Nat) (y : Salvo) (out src : Nat), JrpReady h x (.salvoAdd gid none
      [(out, src)]) s ∧ s.get Reg.FAB.TESTAT_BUSY = 0 ∧ s.get Reg.FAB.CTRL_EN = 1 ∧ x.peer < 255 ∧ s.druseSalvo gid = none
      ∧ s.salvoOf gid = some (v, y) ∧ Assoc.find s.fab.salvos v = some y ∧ v < 32 ∧ y.armed = none ∧ s.get
      Reg.FAB.SALV_TAKES < 8192 ∧ y.takes.length < 1024 ∧ out < 2 ^ 32 ∧ src < 2 ^ 32) ∧
(∃ (s : State) (h : JrpHdr) (x : JrpSession) (gid : Nat) (y : SalvoAdds), JrpReady h x (.salvoAdd gid y.druse y.takes) s ∧
      s.get Reg.FAB.TESTAT_BUSY = 0 ∧ s.get Reg.CHN.STAT_REQBUSY = 0 ∧ (s.salvoOf gid = none ∨ y.takes = [] ∨ 176 <
      y.takes.length)) ∧
(∃ (s : State) (h : JrpHdr) (x : JrpSession) (gid v : Nat) (y : Salvo) (out src c : Nat), JrpReady h x (.salvoAdd gid none
      [(out, src)]) s ∧ s.get Reg.FAB.TESTAT_BUSY = 0 ∧ s.get Reg.FAB.CTRL_EN = 1 ∧ x.peer < 255 ∧ s.druseSalvo gid = none
      ∧ s.salvoOf gid = some (v, y) ∧ Assoc.find s.fab.salvos v = some y ∧ v < 32 ∧ (c = (if y.armed.isSome then 11 else
      if 8192 ≤ s.get Reg.FAB.SALV_TAKES ∨ 1024 ≤ y.takes.length then 5 else 0)) ∧ c ≠ 0) ∧
(∃ (s : State) (h : JrpHdr) (x : JrpSession) (gid v : Nat) (y : Salvo) (instant ml : Nat), JrpReady h x (.salvo 9 gid
      instant ml) s ∧ s.get Reg.FAB.TESTAT_BUSY = 0 ∧ s.get Reg.FAB.CTRL_EN = 1 ∧ x.peer < 255 ∧ s.druseSalvo gid = none ∧
      s.salvoOf gid = some (v, y) ∧ Assoc.find s.fab.salvos v = some y ∧ v < 32 ∧ y.armed = none ∧ s.judgeSalvo v (x.peer
      + 1) y = (0, 0) ∧ instant < 2 ^ 64) ∧
(∃ (s : State) (h : JrpHdr) (x : JrpSession) (gid v : Nat) (y : Salvo) (instant ml : Nat) (q : Nat × Nat), JrpReady h x
      (.salvo 9 gid instant ml) s ∧ s.get Reg.FAB.TESTAT_BUSY = 0 ∧ s.get Reg.FAB.CTRL_EN = 1 ∧ x.peer < 255 ∧
      s.druseSalvo gid = none ∧ s.salvoOf gid = some (v, y) ∧ Assoc.find s.fab.salvos v = some y ∧ v < 32 ∧ y.armed = none
      ∧ s.judgeSalvo v (x.peer + 1) y = q ∧ q.1 ≠ 0 ∧ q.1 < 32 ∧ q.2 < 2048) ∧
(∃ (s : State) (h : JrpHdr) (x : JrpSession) (gid v : Nat) (y : Salvo) (a : Nat × Nat), JrpReady h x (.salvo 10 gid 0 0) s
      ∧ s.get Reg.FAB.TESTAT_BUSY = 0 ∧ s.get Reg.FAB.CTRL_EN = 1 ∧ x.peer < 255 ∧ s.druseSalvo gid = none ∧ s.salvoOf gid
      = some (v, y) ∧ Assoc.find s.fab.salvos v = some y ∧ v < 32 ∧ y.armed = some a ∧ y.committed = none) ∧
(∃ (s : State) (h : JrpHdr) (x : JrpSession) (gid v : Nat) (y : Salvo), JrpReady h x (.salvo 11 gid 0 0) s ∧ s.get
      Reg.FAB.TESTAT_BUSY = 0 ∧ s.get Reg.FAB.CTRL_EN = 1 ∧ x.peer < 255 ∧ s.druseSalvo gid = none ∧ s.salvoOf gid = some
      (v, y) ∧ Assoc.find s.fab.salvos v = some y ∧ v < 32 ∧ y.committed = none) ∧
(∃ (s : State) (h : JrpHdr) (x : JrpSession) (gid v : Nat) (y : Salvo), JrpReady h x (.salvo 11 gid 0 0) s ∧ s.get
      Reg.FAB.TESTAT_BUSY = 0 ∧ s.get Reg.FAB.CTRL_EN = 1 ∧ x.peer < 255 ∧ s.druseSalvo gid = none ∧ s.salvoOf gid = some
      (v, y) ∧ Assoc.find s.fab.salvos v = some y ∧ v < 32 ∧ y.committed.isSome = true) ∧
(∃ (s : State) (h : JrpHdr) (x : JrpSession) (gid v : Nat) (y : Salvo), JrpReady h x (.salvo 10 gid 0 0) s ∧ s.get
      Reg.FAB.TESTAT_BUSY = 0 ∧ s.get Reg.FAB.CTRL_EN = 1 ∧ x.peer < 255 ∧ s.druseSalvo gid = none ∧ s.salvoOf gid = some
      (v, y) ∧ Assoc.find s.fab.salvos v = some y ∧ v < 32 ∧ y.armed = none) ∧
(∃ (s : State) (h : JrpHdr) (x : JrpSession) (gid : Nat), JrpReady h x .nop s ∧ (((s.jrp.peers.find? fun p => p.index ==
      x.peer).any fun p => bit p.rights 0) = true) ∧ s.get Reg.FAB.TESTAT_BUSY = 0 ∧ s.druseSalvo gid = none ∧ s.salvoOf
      gid = none) ∧
(∃ (s : State) (h : JrpHdr) (x : JrpSession) (gid : Nat) (y : DruseSalvo) (instant ml : Nat), JrpReady h x (.salvo 9 gid
      instant ml) s ∧ s.get Reg.FAB.TESTAT_BUSY = 0 ∧ s.salvoOf gid = none ∧ s.druseSalvo gid = some y ∧ y.gid = gid ∧
      y.phase = 0) ∧
(∃ (s : State) (h : JrpHdr) (x : JrpSession) (gid : Nat) (y : DruseSalvo) (c : Nat), JrpReady h x (.salvo 10 gid 0 0) s ∧
      s.get Reg.FAB.TESTAT_BUSY = 0 ∧ s.druseSalvo gid = some y ∧ y.gid = gid ∧ (c = (if y.phase = 2 then 0 else 25))) ∧
(∃ (s : State) (h : JrpHdr) (x : JrpSession) (gid : Nat) (y : DruseSalvo), JrpReady h x (.salvo 11 gid 0 0) s ∧ s.get
      Reg.FAB.TESTAT_BUSY = 0 ∧ s.salvoOf gid = none ∧ s.druseSalvo gid = some y ∧ y.gid = gid ∧ y.phase ≤ 1) :=
  ⟨⟨(({ ((((State.reset.set Reg.FAB.CTRL_EN 1).set (Reg.CHN.ENT_HANDLE 1) (State.mkHandle 2 1 5)).set (Reg.CHN.ENT_STATE_STATE 1) 1)) with jrp := { State.reset.jrp with sessions := [⟨77, 2, false, 64, 0xC0A80101, 5000, 1, none, 0, ⟨2, 0, false, false, 77, 0, 0, 0, 0, []⟩, 0, none, [], [], 128000000, 0, [], [], 0, none, 0, ⟨0, 0, 0, 0, 0⟩⟩], peers := [⟨2, 0xC0A80101, 0, 63, 0⟩] } }
      : State) |>.set Reg.CFG.STAT_STEP 9), ⟨64, 0xC0A80101, 5000, 14720, false, true, true, 77, 9, 0, 0⟩, ⟨77, 2, false,
      64, 0xC0A80101, 5000, 1, none, 0, ⟨2, 0, false, false, 77, 0, 0, 0, 0, []⟩, 0, none, [], [], 128000000, 0, [], [],
      0, none, 0, ⟨0, 0, 0, 0, 0⟩⟩, 5, 0, by decide +kernel⟩,
  ⟨(({ (({ (((State.reset.set Reg.FAB.CTRL_EN 1).set (Reg.CHN.ENT_HANDLE 1) (State.mkHandle 2 1 5)).set (Reg.CHN.ENT_STATE_STATE 1) 1) with fab := { State.reset.fab with salvos := [(2, ⟨5, 0, 3, [], none, none, false⟩)] } } : State)) with jrp := { State.reset.jrp with sessions := [⟨77, 2, false, 64, 0xC0A80101, 5000, 1, none, 0, ⟨2, 0, false, false, 77, 0, 0, 0, 0, []⟩, 0, none, [], [], 128000000, 0, [], [], 0, none, 0, ⟨0, 0, 0, 0, 0⟩⟩], peers := [⟨2, 0xC0A80101, 0, 63, 0⟩] } }
      : State) |>.set Reg.CFG.STAT_STEP 9), ⟨64, 0xC0A80101, 5000, 14720, false, true, true, 77, 9, 0, 0⟩, ⟨77, 2, false,
      64, 0xC0A80101, 5000, 1, none, 0, ⟨2, 0, false, false, 77, 0, 0, 0, 0, []⟩, 0, none, [], [], 128000000, 0, [], [],
      0, none, 0, ⟨0, 0, 0, 0, 0⟩⟩, 5, 0, by decide +kernel⟩,
  ⟨(({ (({ (((State.reset.set Reg.FAB.CTRL_EN 1).set (Reg.CHN.ENT_HANDLE 1) (State.mkHandle 2 1 5)).set (Reg.CHN.ENT_STATE_STATE 1) 1) with fab := { State.reset.fab with salvos := [(2, ⟨5, 0, 3, [], none, none, false⟩)] } } : State)) with jrp := { State.reset.jrp with sessions := [⟨77, 2, false, 64, 0xC0A80101, 5000, 1, none, 0, ⟨2, 0, false, false, 77, 0, 0, 0, 0, []⟩, 0, none, [], [], 128000000, 0, [], [], 0, none, 0, ⟨0, 0, 0, 0, 0⟩⟩], peers := [⟨2, 0xC0A80101, 0, 63, 0⟩] } }
      : State) |>.set Reg.CFG.STAT_STEP 9), ⟨64, 0xC0A80101, 5000, 14720, false, true, true, 77, 9, 0, 0⟩, ⟨77, 2, false,
      64, 0xC0A80101, 5000, 1, none, 0, ⟨2, 0, false, false, 77, 0, 0, 0, 0, []⟩, 0, none, [], [], 128000000, 0, [], [],
      0, none, 0, ⟨0, 0, 0, 0, 0⟩⟩, 5, 2, ⟨5, 0, 3, [], none, none, false⟩, State.mkHandle 2 1 5, 0, by decide +kernel⟩,
  ⟨(({ ((((State.reset.set Reg.FAB.CTRL_EN 1).set (Reg.CHN.ENT_HANDLE 1) (State.mkHandle 2 1 5)).set (Reg.CHN.ENT_STATE_STATE 1) 1)) with jrp := { State.reset.jrp with sessions := [⟨77, 2, false, 64, 0xC0A80101, 5000, 1, none, 0, ⟨2, 0, false, false, 77, 0, 0, 0, 0, []⟩, 0, none, [], [], 128000000, 0, [], [], 0, none, 0, ⟨0, 0, 0, 0, 0⟩⟩], peers := [⟨2, 0xC0A80101, 0, 63, 0⟩] } }
      : State) |>.set Reg.CFG.STAT_STEP 9), ⟨64, 0xC0A80101, 5000, 14720, false, true, true, 77, 9, 0, 0⟩, ⟨77, 2, false,
      64, 0xC0A80101, 5000, 1, none, 0, ⟨2, 0, false, false, 77, 0, 0, 0, 0, []⟩, 0, none, [], [], 128000000, 0, [], [],
      0, none, 0, ⟨0, 0, 0, 0, 0⟩⟩, 5, ⟨none, [(1, 0)]⟩, by decide +kernel⟩,
  ⟨(({ (({ (((State.reset.set Reg.FAB.CTRL_EN 1).set (Reg.CHN.ENT_HANDLE 1) (State.mkHandle 2 1 5)).set (Reg.CHN.ENT_STATE_STATE 1) 1) with fab := { State.reset.fab with salvos := [(2, ⟨5, 0, 3, [], some (0, 0), none, false⟩)] } } : State)) with jrp := { State.reset.jrp with sessions := [⟨77, 2, false, 64, 0xC0A80101, 5000, 1, none, 0, ⟨2, 0, false, false, 77, 0, 0, 0, 0, []⟩, 0, none, [], [], 128000000, 0, [], [], 0, none, 0, ⟨0, 0, 0, 0, 0⟩⟩], peers := [⟨2, 0xC0A80101, 0, 63, 0⟩] } }
      : State) |>.set Reg.CFG.STAT_STEP 9), ⟨64, 0xC0A80101, 5000, 14720, false, true, true, 77, 9, 0, 0⟩, ⟨77, 2, false,
      64, 0xC0A80101, 5000, 1, none, 0, ⟨2, 0, false, false, 77, 0, 0, 0, 0, []⟩, 0, none, [], [], 128000000, 0, [], [],
      0, none, 0, ⟨0, 0, 0, 0, 0⟩⟩, 5, 2, ⟨5, 0, 3, [], some (0, 0), none, false⟩, State.mkHandle 2 1 5, 0, 11,
      by decide +kernel⟩,
  ⟨(({ (({ (((State.reset.set Reg.FAB.CTRL_EN 1).set (Reg.CHN.ENT_HANDLE 1) (State.mkHandle 2 1 5)).set (Reg.CHN.ENT_STATE_STATE 1) 1) with fab := { State.reset.fab with salvos := [(2, ⟨5, 0, 3, [⟨State.mkHandle 2 1 5, 0, 0, false, false, false, true⟩], none, none, false⟩)] } } : State)) with jrp := { State.reset.jrp with sessions := [⟨77, 2, false, 64, 0xC0A80101, 5000, 1, none, 0, ⟨2, 0, false, false, 77, 0, 0, 0, 0, []⟩, 0, none, [], [], 128000000, 0, [], [], 0, none, 0, ⟨0, 0, 0, 0, 0⟩⟩], peers := [⟨2, 0xC0A80101, 0, 63, 0⟩] } }
      : State) |>.set Reg.CFG.STAT_STEP 9), ⟨64, 0xC0A80101, 5000, 14720, false, true, true, 77, 9, 0, 0⟩, ⟨77, 2, false,
      64, 0xC0A80101, 5000, 1, none, 0, ⟨2, 0, false, false, 77, 0, 0, 0, 0, []⟩, 0, none, [], [], 128000000, 0, [], [],
      0, none, 0, ⟨0, 0, 0, 0, 0⟩⟩, 5, 2, ⟨5, 0, 3, [⟨State.mkHandle 2 1 5, 0, 0, false, false, false, true⟩], none, none,
      false⟩, 0, 0, by decide +kernel⟩,
  ⟨(({ (({ (((State.reset.set Reg.FAB.CTRL_EN 1).set (Reg.CHN.ENT_HANDLE 1) (State.mkHandle 2 1 5)).set (Reg.CHN.ENT_STATE_STATE 1) 1) with fab := { State.reset.fab with salvos := [(2, ⟨5, 0, 3, [], none, none, false⟩)] } } : State)) with jrp := { State.reset.jrp with sessions := [⟨77, 2, false, 64, 0xC0A80101, 5000, 1, none, 0, ⟨2, 0, false, false, 77, 0, 0, 0, 0, []⟩, 0, none, [], [], 128000000, 0, [], [], 0, none, 0, ⟨0, 0, 0, 0, 0⟩⟩], peers := [⟨2, 0xC0A80101, 0, 63, 0⟩] } }
      : State) |>.set Reg.CFG.STAT_STEP 9), ⟨64, 0xC0A80101, 5000, 14720, false, true, true, 77, 9, 0, 0⟩, ⟨77, 2, false,
      64, 0xC0A80101, 5000, 1, none, 0, ⟨2, 0, false, false, 77, 0, 0, 0, 0, []⟩, 0, none, [], [], 128000000, 0, [], [],
      0, none, 0, ⟨0, 0, 0, 0, 0⟩⟩, 5, 2, ⟨5, 0, 3, [], none, none, false⟩, 0, 0, (17, 0), by decide +kernel⟩,
  ⟨(({ (({ (((State.reset.set Reg.FAB.CTRL_EN 1).set (Reg.CHN.ENT_HANDLE 1) (State.mkHandle 2 1 5)).set (Reg.CHN.ENT_STATE_STATE 1) 1) with fab := { State.reset.fab with salvos := [(2, ⟨5, 0, 3, [⟨State.mkHandle 2 1 5, 0, 0, false, false, false, true⟩], some (0, 0), none, false⟩)] } } : State)) with jrp := { State.reset.jrp with sessions := [⟨77, 2, false, 64, 0xC0A80101, 5000, 1, none, 0, ⟨2, 0, false, false, 77, 0, 0, 0, 0, []⟩, 0, none, [], [], 128000000, 0, [], [], 0, none, 0, ⟨0, 0, 0, 0, 0⟩⟩], peers := [⟨2, 0xC0A80101, 0, 63, 0⟩] } }
      : State) |>.set Reg.CFG.STAT_STEP 9), ⟨64, 0xC0A80101, 5000, 14720, false, true, true, 77, 9, 0, 0⟩, ⟨77, 2, false,
      64, 0xC0A80101, 5000, 1, none, 0, ⟨2, 0, false, false, 77, 0, 0, 0, 0, []⟩, 0, none, [], [], 128000000, 0, [], [],
      0, none, 0, ⟨0, 0, 0, 0, 0⟩⟩, 5, 2, ⟨5, 0, 3, [⟨State.mkHandle 2 1 5, 0, 0, false, false, false, true⟩], some (0,
      0), none, false⟩, (0, 0), by decide +kernel⟩,
  ⟨(({ (({ (((State.reset.set Reg.FAB.CTRL_EN 1).set (Reg.CHN.ENT_HANDLE 1) (State.mkHandle 2 1 5)).set (Reg.CHN.ENT_STATE_STATE 1) 1) with fab := { State.reset.fab with salvos := [(2, ⟨5, 0, 3, [], some (0, 0), none, false⟩)] } } : State)) with jrp := { State.reset.jrp with sessions := [⟨77, 2, false, 64, 0xC0A80101, 5000, 1, none, 0, ⟨2, 0, false, false, 77, 0, 0, 0, 0, []⟩, 0, none, [], [], 128000000, 0, [], [], 0, none, 0, ⟨0, 0, 0, 0, 0⟩⟩], peers := [⟨2, 0xC0A80101, 0, 63, 0⟩] } }
      : State) |>.set Reg.CFG.STAT_STEP 9), ⟨64, 0xC0A80101, 5000, 14720, false, true, true, 77, 9, 0, 0⟩, ⟨77, 2, false,
      64, 0xC0A80101, 5000, 1, none, 0, ⟨2, 0, false, false, 77, 0, 0, 0, 0, []⟩, 0, none, [], [], 128000000, 0, [], [],
      0, none, 0, ⟨0, 0, 0, 0, 0⟩⟩, 5, 2, ⟨5, 0, 3, [], some (0, 0), none, false⟩, by decide +kernel⟩,
  ⟨(({ (({ (((State.reset.set Reg.FAB.CTRL_EN 1).set (Reg.CHN.ENT_HANDLE 1) (State.mkHandle 2 1 5)).set (Reg.CHN.ENT_STATE_STATE 1) 1) with fab := { State.reset.fab with salvos := [(2, ⟨5, 0, 3, [], some (0, 0), some (0, 0), false⟩)] } } : State)) with jrp := { State.reset.jrp with sessions := [⟨77, 2, false, 64, 0xC0A80101, 5000, 1, none, 0, ⟨2, 0, false, false, 77, 0, 0, 0, 0, []⟩, 0, none, [], [], 128000000, 0, [], [], 0, none, 0, ⟨0, 0, 0, 0, 0⟩⟩], peers := [⟨2, 0xC0A80101, 0, 63, 0⟩] } }
      : State) |>.set Reg.CFG.STAT_STEP 9), ⟨64, 0xC0A80101, 5000, 14720, false, true, true, 77, 9, 0, 0⟩, ⟨77, 2, false,
      64, 0xC0A80101, 5000, 1, none, 0, ⟨2, 0, false, false, 77, 0, 0, 0, 0, []⟩, 0, none, [], [], 128000000, 0, [], [],
      0, none, 0, ⟨0, 0, 0, 0, 0⟩⟩, 5, 2, ⟨5, 0, 3, [], some (0, 0), some (0, 0), false⟩, by decide +kernel⟩,
  ⟨(({ (({ (((State.reset.set Reg.FAB.CTRL_EN 1).set (Reg.CHN.ENT_HANDLE 1) (State.mkHandle 2 1 5)).set (Reg.CHN.ENT_STATE_STATE 1) 1) with fab := { State.reset.fab with salvos := [(2, ⟨5, 0, 3, [], none, none, false⟩)] } } : State)) with jrp := { State.reset.jrp with sessions := [⟨77, 2, false, 64, 0xC0A80101, 5000, 1, none, 0, ⟨2, 0, false, false, 77, 0, 0, 0, 0, []⟩, 0, none, [], [], 128000000, 0, [], [], 0, none, 0, ⟨0, 0, 0, 0, 0⟩⟩], peers := [⟨2, 0xC0A80101, 0, 63, 0⟩] } }
      : State) |>.set Reg.CFG.STAT_STEP 9), ⟨64, 0xC0A80101, 5000, 14720, false, true, true, 77, 9, 0, 0⟩, ⟨77, 2, false,
      64, 0xC0A80101, 5000, 1, none, 0, ⟨2, 0, false, false, 77, 0, 0, 0, 0, []⟩, 0, none, [], [], 128000000, 0, [], [],
      0, none, 0, ⟨0, 0, 0, 0, 0⟩⟩, 5, 2, ⟨5, 0, 3, [], none, none, false⟩, by decide +kernel⟩,
  ⟨(({ ((((State.reset.set Reg.FAB.CTRL_EN 1).set (Reg.CHN.ENT_HANDLE 1) (State.mkHandle 2 1 5)).set (Reg.CHN.ENT_STATE_STATE 1) 1)) with jrp := { State.reset.jrp with sessions := [⟨77, 2, false, 64, 0xC0A80101, 5000, 1, none, 0, ⟨2, 0, false, false, 77, 0, 0, 0, 0, []⟩, 0, none, [], [], 128000000, 0, [], [], 0, none, 0, ⟨0, 0, 0, 0, 0⟩⟩], peers := [⟨2, 0xC0A80101, 0, 63, 0⟩] } }
      : State) |>.set Reg.CFG.STAT_STEP 9), ⟨64, 0xC0A80101, 5000, 14720, false, true, true, 77, 9, 0, 0⟩, ⟨77, 2, false,
      64, 0xC0A80101, 5000, 1, none, 0, ⟨2, 0, false, false, 77, 0, 0, 0, 0, []⟩, 0, none, [], [], 128000000, 0, [], [],
      0, none, 0, ⟨0, 0, 0, 0, 0⟩⟩, 5, by decide +kernel⟩,
  ⟨(({ ((((State.reset.set Reg.FAB.CTRL_EN 1).set (Reg.CHN.ENT_HANDLE 1) (State.mkHandle 2 1 5)).set (Reg.CHN.ENT_STATE_STATE 1) 1)) with jrp := { State.reset.jrp with salvos := [⟨5, 0, 0, 0, 0, 0, [⟨4, [(1, 0)], none⟩], 0⟩], sessions := [⟨77, 2, false, 64, 0xC0A80101, 5000, 1, none, 0, ⟨2, 0, false, false, 77, 0, 0, 0, 0, []⟩, 0, none, [], [], 128000000, 0, [], [], 0, none, 0, ⟨0, 0, 0, 0, 0⟩⟩], peers := [⟨2, 0xC0A80101, 0, 63, 0⟩] } }
      : State) |>.set Reg.CFG.STAT_STEP 9), ⟨64, 0xC0A80101, 5000, 14720, false, true, true, 77, 9, 0, 0⟩, ⟨77, 2, false,
      64, 0xC0A80101, 5000, 1, none, 0, ⟨2, 0, false, false, 77, 0, 0, 0, 0, []⟩, 0, none, [], [], 128000000, 0, [], [],
      0, none, 0, ⟨0, 0, 0, 0, 0⟩⟩, 5, ⟨5, 0, 0, 0, 0, 0, [⟨4, [(1, 0)], none⟩], 0⟩, 0, 0, by decide +kernel⟩,
  ⟨(({ ((((State.reset.set Reg.FAB.CTRL_EN 1).set (Reg.CHN.ENT_HANDLE 1) (State.mkHandle 2 1 5)).set (Reg.CHN.ENT_STATE_STATE 1) 1)) with jrp := { State.reset.jrp with salvos := [⟨5, 0, 0, 0, 0, 2, [⟨4, [(1, 0)], none⟩], 0⟩], sessions := [⟨77, 2, false, 64, 0xC0A80101, 5000, 1, none, 0, ⟨2, 0, false, false, 77, 0, 0, 0, 0, []⟩, 0, none, [], [], 128000000, 0, [], [], 0, none, 0, ⟨0, 0, 0, 0, 0⟩⟩], peers := [⟨2, 0xC0A80101, 0, 63, 0⟩] } }
      : State) |>.set Reg.CFG.STAT_STEP 9), ⟨64, 0xC0A80101, 5000, 14720, false, true, true, 77, 9, 0, 0⟩, ⟨77, 2, false,
      64, 0xC0A80101, 5000, 1, none, 0, ⟨2, 0, false, false, 77, 0, 0, 0, 0, []⟩, 0, none, [], [], 128000000, 0, [], [],
      0, none, 0, ⟨0, 0, 0, 0, 0⟩⟩, 5, ⟨5, 0, 0, 0, 0, 2, [⟨4, [(1, 0)], none⟩], 0⟩, 0, by decide +kernel⟩,
  ⟨(({ ((((State.reset.set Reg.FAB.CTRL_EN 1).set (Reg.CHN.ENT_HANDLE 1) (State.mkHandle 2 1 5)).set (Reg.CHN.ENT_STATE_STATE 1) 1)) with jrp := { State.reset.jrp with salvos := [⟨5, 0, 0, 0, 0, 1, [⟨4, [(1, 0)], none⟩], 0⟩], sessions := [⟨77, 2, false, 64, 0xC0A80101, 5000, 1, none, 0, ⟨2, 0, false, false, 77, 0, 0, 0, 0, []⟩, 0, none, [], [], 128000000, 0, [], [], 0, none, 0, ⟨0, 0, 0, 0, 0⟩⟩], peers := [⟨2, 0xC0A80101, 0, 63, 0⟩] } }
      : State) |>.set Reg.CFG.STAT_STEP 9), ⟨64, 0xC0A80101, 5000, 14720, false, true, true, 77, 9, 0, 0⟩, ⟨77, 2, false,
      64, 0xC0A80101, 5000, 1, none, 0, ⟨2, 0, false, false, 77, 0, 0, 0, 0, []⟩, 0, none, [], [], 128000000, 0, [], [],
      0, none, 0, ⟨0, 0, 0, 0, 0⟩⟩, 5, ⟨5, 0, 0, 0, 0, 1, [⟨4, [(1, 0)], none⟩], 0⟩, by decide +kernel⟩⟩

/-- States and operands that meet the hypotheses of each clause of `Obligations.JrpDruseTakes`. -/
theorem witness_jrp_druse_takes :
(∃ (s : State) (h : JrpHdr) (x : JrpSession) (druse ip op instant sys src out : Nat), JrpReady h x (.dtake druse ip op
      instant) s ∧ druse < 2 ^ 32 ∧ ip < 2 ^ 32 ∧ op < 2 ^ 32 ∧ s.get Reg.FAB.TESTAT_BUSY = 0 ∧ s.get Reg.CHN.STAT_REQBUSY
      = 0 ∧ s.get Reg.CHN.CTRL_EN = 1 ∧ s.judgeHandle druse [10] = 0 ∧ s.get Reg.FAB.CTRL_EN = 1 ∧ x.peer < 255 ∧
      s.resolvePos false 4097 (s.membersOf (s.druseOf druse)) ip = (0, sys, some src) ∧ s.resolvePos true 4097
      (s.membersOf (s.druseOf druse)) op = (0, sys, some out) ∧ s.ownSys sys = true ∧ sys < 2 ^ 18 ∧ src < 2 ^ 32 ∧ out <
      2 ^ 32 ∧ src ≠ 0 ∧ s.judgeTake out src (s.get Reg.CHN.EPOCH) (x.peer + 1) false = 0 ∧ instant ≤ s.timeNs ∧
      (s.forwardOf x.id h.txid) = none) ∧
(∃ (s : State) (h : JrpHdr) (x : JrpSession) (druse ip op instant sys src out : Nat) (c : Nat), JrpReady h x (.dtake druse
      ip op instant) s ∧ druse < 2 ^ 32 ∧ ip < 2 ^ 32 ∧ op < 2 ^ 32 ∧ s.get Reg.FAB.TESTAT_BUSY = 0 ∧ s.get
      Reg.CHN.STAT_REQBUSY = 0 ∧ s.get Reg.CHN.CTRL_EN = 1 ∧ s.judgeHandle druse [10] = 0 ∧ s.get Reg.FAB.CTRL_EN = 1 ∧
      x.peer < 255 ∧ s.resolvePos false 4097 (s.membersOf (s.druseOf druse)) ip = (0, sys, some src) ∧ s.resolvePos true
      4097 (s.membersOf (s.druseOf druse)) op = (0, sys, some out) ∧ s.ownSys sys = true ∧ sys < 2 ^ 18 ∧ src < 2 ^ 32 ∧
      out < 2 ^ 32 ∧ src ≠ 0 ∧ instant < 2 ^ 64 ∧ c = s.judgeTake out src (s.get Reg.CHN.EPOCH) (x.peer + 1) false ∧ c ≠
      0) ∧
(∃ (s : State) (h : JrpHdr) (x : JrpSession) (druse ip op instant sys src out : Nat), JrpReady h x (.dtake druse ip op
      instant) s ∧ druse < 2 ^ 32 ∧ ip < 2 ^ 32 ∧ op < 2 ^ 32 ∧ s.get Reg.FAB.TESTAT_BUSY = 0 ∧ s.get Reg.CHN.STAT_REQBUSY
      = 0 ∧ s.get Reg.CHN.CTRL_EN = 1 ∧ s.judgeHandle druse [10] = 0 ∧ s.resolvePos false 4097 (s.membersOf (s.druseOf
      druse)) ip = (0, sys, some src) ∧ s.resolvePos true 4097 (s.membersOf (s.druseOf druse)) op = (0, sys, some out) ∧
      s.ownSys sys = false ∧ sys < 2 ^ 18 ∧ src < 2 ^ 32 ∧ out < 2 ^ 32) ∧
(∃ (s : State) (h : JrpHdr) (x : JrpSession) (druse ip op instant sys sys2 src out : Nat), JrpReady h x (.dtake druse ip
      op instant) s ∧ druse < 2 ^ 32 ∧ ip < 2 ^ 32 ∧ op < 2 ^ 32 ∧ s.get Reg.FAB.TESTAT_BUSY = 0 ∧ s.get
      Reg.CHN.STAT_REQBUSY = 0 ∧ s.get Reg.CHN.CTRL_EN = 1 ∧ s.judgeHandle druse [10] = 0 ∧ s.resolvePos false 4097
      (s.membersOf (s.druseOf druse)) ip = (0, sys, some src) ∧ s.resolvePos true 4097 (s.membersOf (s.druseOf druse)) op
      = (0, sys2, some out) ∧ sys ≠ sys2 ∧ sys < 2 ^ 18 ∧ sys2 < 2 ^ 18 ∧ src < 2 ^ 32 ∧ out < 2 ^ 32) ∧
(∃ (s : State) (h : JrpHdr) (x : JrpSession) (druse ip op instant : Nat) (c : Nat), JrpReady h x (.dtake druse ip op
      instant) s ∧ druse < 2 ^ 32 ∧ ip < 2 ^ 32 ∧ op < 2 ^ 32 ∧ s.get Reg.FAB.TESTAT_BUSY = 0 ∧ s.get Reg.CHN.STAT_REQBUSY
      = 0 ∧ (c = (if s.get Reg.CHN.CTRL_EN = 0 then 16 else if s.judgeHandle druse [10] ≠ 0 then s.judgeHandle druse [10]
      else (s.resolvePos false 4097 (s.membersOf (s.druseOf druse)) ip).1)) ∧ c ≠ 0) ∧
(∃ (s : State) (x : JrpSession) (q : JrpQueued) (f : JrpForward), s.jrp.sessions = [x] ∧ s.jrp.salvos = [] ∧ x.queue = []
      ∧ s.jrp.held = [] ∧ s.twin.mirror = [] ∧ s.jrp.forwards = [f] ∧ f.session = x.id ∧ f.txid = q.txid ∧ s.jrp.running =
      [(x.id, q)] ∧ s.jrpEnded q.cmd = none ∧ ((x.window.map fun e => e.txid) = [q.txid])) ∧
(∃ (s : State) (x : JrpSession) (q : JrpQueued) (f : JrpForward), s.jrp.sessions = [x] ∧ s.jrp.salvos = [] ∧ x.queue = []
      ∧ s.jrp.held = [] ∧ s.twin.mirror = [] ∧ s.jrp.forwards = [f] ∧ f.session = x.id ∧ f.txid = q.txid ∧ s.jrp.running =
      [(x.id, q)] ∧ s.jrpEnded q.cmd = none ∧ ((x.window.map fun e => e.txid) = [q.txid]) ∧ f.again = false) ∧
(∃ (s : State) (x : JrpSession) (q : JrpQueued) (f : JrpForward) (c : Nat), s.jrp.sessions = [x] ∧ s.jrp.salvos = [] ∧
      x.queue = [] ∧ s.jrp.held = [] ∧ s.twin.mirror = [] ∧ s.jrp.forwards = [f] ∧ f.session = x.id ∧ f.txid = q.txid ∧
      s.jrp.running = [(x.id, q)] ∧ s.jrpEnded q.cmd = none ∧ ((x.window.map fun e => e.txid) = [q.txid]) ∧ c ≠ 0 ∧ (c = 3
      → f.again = true)) ∧
(∃ (s : State) (x : JrpSession) (e : JrpEntry), s.jrp.salvos = [] ∧ s.jrp.forwards = [] ∧ s.jrp.awaits = [] ∧
      s.jrp.sessions = [x] ∧ s.jrp.kept = [] ∧ s.jrp.shadow = [] ∧ x.window = [e] ∧ e.late = true ∧ e.final = none ∧
      x.notes = []) ∧
(∃ (s : State) (x : JrpSession) (q : JrpQueued) (f : JrpForward), s.jrp.sessions = [x] ∧ s.jrp.salvos = [] ∧ x.queue = []
      ∧ s.jrp.held = [] ∧ s.twin.mirror = [] ∧ s.jrp.forwards = [f] ∧ f.session = x.id ∧ f.txid = q.txid ∧ s.jrp.running =
      [(x.id, q)] ∧ s.jrpEnded q.cmd = none ∧ ((x.window.map fun e => e.txid) = [q.txid]) ∧ f.sent + 50000000 ≤ s.now) ∧
(∃ (s : State) (n k : Nat), ((s.jrp.salvos.all fun y => !(y.phase == 1 && y.session == n && y.txid == k) || decide (s.now
      < y.sent + 50000000)) = true) ∧ (((s.forwardOf n k).all fun f => decide (s.now < f.sent + 50000000)) = true)) :=
  ⟨⟨(({ (({ (((State.reset.set Reg.FAB.CTRL_EN 1).set (Reg.CHN.ENT_HANDLE 1) (State.mkHandle 2 1 5)).set (Reg.CHN.ENT_STATE_STATE 1) 1) with chn := { State.reset.chn with chans := [(3, ⟨10, [], [], 0, 5, true, 0, 0, 0, [], []⟩)], druses := [(5, [⟨0, 0, State.mkHandle 1 4 1, 0, 0⟩, ⟨0, 0, State.mkHandle 2 1 5, 0, 0⟩])], nextIndex := 4 } } : State)) with jrp := { State.reset.jrp with sessions := [⟨77, 2, false, 64, 0xC0A80101, 5000, 1, none, 0, ⟨2, 0, false, false, 77, 0, 0, 0, 0, []⟩, 0, none, [], [], 128000000, 0, [], [], 0, none, 0, ⟨0, 0, 0, 0, 0⟩⟩], peers := [⟨2, 0xC0A80101, 0, 63, 0⟩] } }
      : State) |>.set Reg.CFG.STAT_STEP 9 |>.set Reg.CHN.CTRL_EN 1 |>.set (Reg.CHN.ENT_HANDLE 3) (State.mkHandle 10 3 7)
      |>.set (Reg.CHN.ENT_STATE_STATE 3) 1 |>.set (Reg.CHN.ENT_HANDLE 4) (State.mkHandle 1 4 1) |>.set
      (Reg.CHN.ENT_STATE_STATE 4) 1), ⟨64, 0xC0A80101, 5000, 14720, false, true, true, 77, 9, 0, 0⟩, ⟨77, 2, false, 64,
      0xC0A80101, 5000, 1, none, 0, ⟨2, 0, false, false, 77, 0, 0, 0, 0, []⟩, 0, none, [], [], 128000000, 0, [], [], 0,
      none, 0, ⟨0, 0, 0, 0, 0⟩⟩, State.mkHandle 10 3 7, 0, 0, 0, 0, State.mkHandle 1 4 1, State.mkHandle 2 1 5,
      by decide +kernel⟩,
  ⟨(({ (({ (((State.reset.set Reg.FAB.CTRL_EN 1).set (Reg.CHN.ENT_HANDLE 1) (State.mkHandle 2 1 5)).set (Reg.CHN.ENT_STATE_STATE 1) 1) with chn := { State.reset.chn with chans := [(3, ⟨10, [], [], 0, 5, true, 0, 0, 0, [], []⟩)], druses := [(5, [⟨0, 0, State.mkHandle 1 4 1, 0, 0⟩, ⟨0, 0, State.mkHandle 2 1 5, 0, 0⟩])], nextIndex := 4 } } : State)) with jrp := { State.reset.jrp with sessions := [⟨77, 2, false, 64, 0xC0A80101, 5000, 1, none, 0, ⟨2, 0, false, false, 77, 0, 0, 0, 0, []⟩, 0, none, [], [], 128000000, 0, [], [], 0, none, 0, ⟨0, 0, 0, 0, 0⟩⟩], peers := [⟨2, 0xC0A80101, 0, 63, 0⟩] } }
      : State) |>.set Reg.CFG.STAT_STEP 9 |>.set Reg.CHN.CTRL_EN 1 |>.set (Reg.CHN.ENT_HANDLE 3) (State.mkHandle 10 3 7)
      |>.set (Reg.CHN.ENT_STATE_STATE 3) 1 |>.set (Reg.CHN.ENT_HANDLE 4) (State.mkHandle 1 4 1) |>.set
      (Reg.CHN.ENT_STATE_STATE 4) 1).set (Reg.FAB.RT_LOCK 1) 1, ⟨64, 0xC0A80101, 5000, 14720, false, true, true, 77, 9, 0,
      0⟩, ⟨77, 2, false, 64, 0xC0A80101, 5000, 1, none, 0, ⟨2, 0, false, false, 77, 0, 0, 0, 0, []⟩, 0, none, [], [],
      128000000, 0, [], [], 0, none, 0, ⟨0, 0, 0, 0, 0⟩⟩, State.mkHandle 10 3 7, 0, 0, 0, 0, State.mkHandle 1 4 1,
      State.mkHandle 2 1 5, 22, by decide +kernel⟩,
  ⟨(({ (({ (((State.reset.set Reg.FAB.CTRL_EN 1).set (Reg.CHN.ENT_HANDLE 1) (State.mkHandle 2 1 5)).set (Reg.CHN.ENT_STATE_STATE 1) 1) with chn := { State.reset.chn with chans := [(3, ⟨10, [], [], 0, 5, true, 0, 0, 0, [], []⟩)], druses := [(5, [⟨0, 2, State.mkHandle 1 4 1, 0, 0⟩, ⟨0, 2, State.mkHandle 2 1 5, 0, 0⟩])], nextIndex := 4 } } : State)) with jrp := { State.reset.jrp with sessions := [⟨77, 2, false, 64, 0xC0A80101, 5000, 1, none, 0, ⟨2, 0, false, false, 77, 0, 0, 0, 0, []⟩, 0, none, [], [], 128000000, 0, [], [], 0, none, 0, ⟨0, 0, 0, 0, 0⟩⟩], peers := [⟨2, 0xC0A80101, 0, 63, 0⟩] } }
      : State) |>.set Reg.CFG.STAT_STEP 9 |>.set Reg.CHN.CTRL_EN 1 |>.set (Reg.CHN.ENT_HANDLE 3) (State.mkHandle 10 3 7)
      |>.set (Reg.CHN.ENT_STATE_STATE 3) 1 |>.set (Reg.CHN.ENT_HANDLE 4) (State.mkHandle 1 4 1) |>.set
      (Reg.CHN.ENT_STATE_STATE 4) 1), ⟨64, 0xC0A80101, 5000, 14720, false, true, true, 77, 9, 0, 0⟩, ⟨77, 2, false, 64,
      0xC0A80101, 5000, 1, none, 0, ⟨2, 0, false, false, 77, 0, 0, 0, 0, []⟩, 0, none, [], [], 128000000, 0, [], [], 0,
      none, 0, ⟨0, 0, 0, 0, 0⟩⟩, State.mkHandle 10 3 7, 0, 0, 0, 2, State.mkHandle 1 4 1, State.mkHandle 2 1 5,
      by decide +kernel⟩,
  ⟨(({ (({ (((State.reset.set Reg.FAB.CTRL_EN 1).set (Reg.CHN.ENT_HANDLE 1) (State.mkHandle 2 1 5)).set (Reg.CHN.ENT_STATE_STATE 1) 1) with chn := { State.reset.chn with chans := [(3, ⟨10, [], [], 0, 5, true, 0, 0, 0, [], []⟩)], druses := [(5, [⟨0, 2, State.mkHandle 1 4 1, 0, 0⟩, ⟨0, 3, State.mkHandle 2 1 5, 0, 0⟩])], nextIndex := 4 } } : State)) with jrp := { State.reset.jrp with sessions := [⟨77, 2, false, 64, 0xC0A80101, 5000, 1, none, 0, ⟨2, 0, false, false, 77, 0, 0, 0, 0, []⟩, 0, none, [], [], 128000000, 0, [], [], 0, none, 0, ⟨0, 0, 0, 0, 0⟩⟩], peers := [⟨2, 0xC0A80101, 0, 63, 0⟩] } }
      : State) |>.set Reg.CFG.STAT_STEP 9 |>.set Reg.CHN.CTRL_EN 1 |>.set (Reg.CHN.ENT_HANDLE 3) (State.mkHandle 10 3 7)
      |>.set (Reg.CHN.ENT_STATE_STATE 3) 1 |>.set (Reg.CHN.ENT_HANDLE 4) (State.mkHandle 1 4 1) |>.set
      (Reg.CHN.ENT_STATE_STATE 4) 1), ⟨64, 0xC0A80101, 5000, 14720, false, true, true, 77, 9, 0, 0⟩, ⟨77, 2, false, 64,
      0xC0A80101, 5000, 1, none, 0, ⟨2, 0, false, false, 77, 0, 0, 0, 0, []⟩, 0, none, [], [], 128000000, 0, [], [], 0,
      none, 0, ⟨0, 0, 0, 0, 0⟩⟩, State.mkHandle 10 3 7, 0, 0, 0, 2, 3, State.mkHandle 1 4 1, State.mkHandle 2 1 5,
      by decide +kernel⟩,
  ⟨(({ (({ (((State.reset.set Reg.FAB.CTRL_EN 1).set (Reg.CHN.ENT_HANDLE 1) (State.mkHandle 2 1 5)).set (Reg.CHN.ENT_STATE_STATE 1) 1) with chn := { State.reset.chn with chans := [(3, ⟨10, [], [], 0, 5, true, 0, 0, 0, [], []⟩)], druses := [(5, [⟨0, 2, State.mkHandle 1 4 1, 0, 0⟩, ⟨0, 2, State.mkHandle 2 1 5, 0, 0⟩])], nextIndex := 4 } } : State)) with jrp := { State.reset.jrp with sessions := [⟨77, 2, false, 64, 0xC0A80101, 5000, 1, none, 0, ⟨2, 0, false, false, 77, 0, 0, 0, 0, []⟩, 0, none, [], [], 128000000, 0, [], [], 0, none, 0, ⟨0, 0, 0, 0, 0⟩⟩], peers := [⟨2, 0xC0A80101, 0, 63, 0⟩] } }
      : State) |>.set Reg.CFG.STAT_STEP 9 |>.set Reg.CHN.CTRL_EN 1 |>.set (Reg.CHN.ENT_HANDLE 3) (State.mkHandle 10 3 7)
      |>.set (Reg.CHN.ENT_STATE_STATE 3) 1 |>.set (Reg.CHN.ENT_HANDLE 4) (State.mkHandle 1 4 1) |>.set
      (Reg.CHN.ENT_STATE_STATE 4) 1), ⟨64, 0xC0A80101, 5000, 14720, false, true, true, 77, 9, 0, 0⟩, ⟨77, 2, false, 64,
      0xC0A80101, 5000, 1, none, 0, ⟨2, 0, false, false, 77, 0, 0, 0, 0, []⟩, 0, none, [], [], 128000000, 0, [], [], 0,
      none, 0, ⟨0, 0, 0, 0, 0⟩⟩, State.mkHandle 10 3 7, 5, 0, 0, 11, by decide +kernel⟩,
  ⟨(({ ({ State.reset with now := 50000000 }) with jrp := { State.reset.jrp with running := [(77, ⟨9, 0, .dtake 5 0 0 0⟩)], forwards := [⟨77, 9, 2, 6, 7, 0, false, 0⟩], sessions := [⟨77, 2, false, 64, 0xC0A80101, 5000, 1, none, 0, ⟨2, 0, false, false, 77, 0, 0, 0, 0, []⟩, 0, some 9, [⟨9, none, false, none⟩], [], 128000000, 0, [], [], 0, none, 0, ⟨0, 0, 0, 0, 0⟩⟩], peers := [⟨2, 0xC0A80101, 0, 63, 0⟩] } }
      : State) |>.set Reg.CFG.STAT_STEP 9), ⟨77, 2, false, 64, 0xC0A80101, 5000, 1, none, 0, ⟨2, 0, false, false, 77, 0,
      0, 0, 0, []⟩, 0, some 9, [⟨9, none, false, none⟩], [], 128000000, 0, [], [], 0, none, 0, ⟨0, 0, 0, 0, 0⟩⟩, ⟨9, 0,
      .dtake 5 0 0 0⟩, ⟨77, 9, 2, 6, 7, 0, false, 0⟩, by decide +kernel⟩,
  ⟨(({ ({ State.reset with now := 50000000 }) with jrp := { State.reset.jrp with running := [(77, ⟨9, 0, .dtake 5 0 0 0⟩)], forwards := [⟨77, 9, 2, 6, 7, 0, false, 0⟩], sessions := [⟨77, 2, false, 64, 0xC0A80101, 5000, 1, none, 0, ⟨2, 0, false, false, 77, 0, 0, 0, 0, []⟩, 0, some 9, [⟨9, none, false, none⟩], [], 128000000, 0, [], [], 0, none, 0, ⟨0, 0, 0, 0, 0⟩⟩], peers := [⟨2, 0xC0A80101, 0, 63, 0⟩] } }
      : State) |>.set Reg.CFG.STAT_STEP 9), ⟨77, 2, false, 64, 0xC0A80101, 5000, 1, none, 0, ⟨2, 0, false, false, 77, 0,
      0, 0, 0, []⟩, 0, some 9, [⟨9, none, false, none⟩], [], 128000000, 0, [], [], 0, none, 0, ⟨0, 0, 0, 0, 0⟩⟩, ⟨9, 0,
      .dtake 5 0 0 0⟩, ⟨77, 9, 2, 6, 7, 0, false, 0⟩, by decide +kernel⟩,
  ⟨(({ ({ State.reset with now := 50000000 }) with jrp := { State.reset.jrp with running := [(77, ⟨9, 0, .dtake 5 0 0 0⟩)], forwards := [⟨77, 9, 2, 6, 7, 0, false, 0⟩], sessions := [⟨77, 2, false, 64, 0xC0A80101, 5000, 1, none, 0, ⟨2, 0, false, false, 77, 0, 0, 0, 0, []⟩, 0, some 9, [⟨9, none, false, none⟩], [], 128000000, 0, [], [], 0, none, 0, ⟨0, 0, 0, 0, 0⟩⟩], peers := [⟨2, 0xC0A80101, 0, 63, 0⟩] } }
      : State) |>.set Reg.CFG.STAT_STEP 9), ⟨77, 2, false, 64, 0xC0A80101, 5000, 1, none, 0, ⟨2, 0, false, false, 77, 0,
      0, 0, 0, []⟩, 0, some 9, [⟨9, none, false, none⟩], [], 128000000, 0, [], [], 0, none, 0, ⟨0, 0, 0, 0, 0⟩⟩, ⟨9, 0,
      .dtake 5 0 0 0⟩, ⟨77, 9, 2, 6, 7, 0, false, 0⟩, 22, by decide +kernel⟩,
  ⟨(({ (State.reset) with jrp := { State.reset.jrp with sessions := [⟨77, 2, false, 64, 0xC0A80101, 5000, 1, none, 0, ⟨2, 0, false, false, 77, 0, 0, 0, 0, []⟩, 0, some 9, [⟨9, some (0, [4, 0, 0]), true, none⟩], [], 128000000, 0, [], [], 0, none, 0, ⟨0, 0, 0, 0, 0⟩⟩], peers := [⟨2, 0xC0A80101, 0, 63, 0⟩] } }
      : State) |>.set Reg.CFG.STAT_STEP 9), ⟨77, 2, false, 64, 0xC0A80101, 5000, 1, none, 0, ⟨2, 0, false, false, 77, 0,
      0, 0, 0, []⟩, 0, some 9, [⟨9, some (0, [4, 0, 0]), true, none⟩], [], 128000000, 0, [], [], 0, none, 0, ⟨0, 0, 0, 0,
      0⟩⟩, ⟨9, some (0, [4, 0, 0]), true, none⟩, by decide +kernel⟩,
  ⟨(({ ({ State.reset with now := 50000000 }) with jrp := { State.reset.jrp with running := [(77, ⟨9, 0, .dtake 5 0 0 0⟩)], forwards := [⟨77, 9, 2, 6, 7, 0, false, 0⟩], sessions := [⟨77, 2, false, 64, 0xC0A80101, 5000, 1, none, 0, ⟨2, 0, false, false, 77, 0, 0, 0, 0, []⟩, 0, some 9, [⟨9, none, false, none⟩], [], 128000000, 0, [], [], 0, none, 0, ⟨0, 0, 0, 0, 0⟩⟩], peers := [⟨2, 0xC0A80101, 0, 63, 0⟩] } }
      : State) |>.set Reg.CFG.STAT_STEP 9), ⟨77, 2, false, 64, 0xC0A80101, 5000, 1, none, 0, ⟨2, 0, false, false, 77, 0,
      0, 0, 0, []⟩, 0, some 9, [⟨9, none, false, none⟩], [], 128000000, 0, [], [], 0, none, 0, ⟨0, 0, 0, 0, 0⟩⟩, ⟨9, 0,
      .dtake 5 0 0 0⟩, ⟨77, 9, 2, 6, 7, 0, false, 0⟩, by decide +kernel⟩,
  ⟨(({ ({ State.reset with now := 50000000 }) with jrp := { State.reset.jrp with running := [(77, ⟨9, 0, .dtake 5 0 0 0⟩)], forwards := [⟨77, 9, 2, 6, 7, 0, false, 0⟩], sessions := [⟨77, 2, false, 64, 0xC0A80101, 5000, 1, none, 0, ⟨2, 0, false, false, 77, 0, 0, 0, 0, []⟩, 0, some 9, [⟨9, none, false, none⟩], [], 128000000, 0, [], [], 0, none, 0, ⟨0, 0, 0, 0, 0⟩⟩], peers := [⟨2, 0xC0A80101, 0, 63, 0⟩] } }
      : State) |>.set Reg.CFG.STAT_STEP 9), 77, 8, by decide +kernel⟩⟩

/-- States and operands that meet the hypotheses of each clause of `Obligations.JrpChannels`. -/
theorem witness_jrp_channels :
(∃ (s : State) (h : JrpHdr) (x : JrpSession) (a desc d eis eos : List Nat) (i : Nat), JrpReady h x (.chn 1 a desc) s ∧
      s.get Reg.CHN.STAT_REQBUSY = 0 ∧ s.get Reg.CHN.CTRL_EN = 1 ∧ a.length = 8 ∧ ((a.all fun w => w < 2 ^ 32) = true) ∧
      ((desc.all fun w => w < 2 ^ 32) = true) ∧ d = ((s.putArgs Reg.CHN.REQARG a).putArgs (Reg.IPM.DESC_W (bits (a.getD 0
      0) 3 0)) (desc.take 16)).reqDesc a ∧ ((s.putArgs Reg.CHN.REQARG a).putArgs (Reg.IPM.DESC_W (bits (a.getD 0 0) 3 0))
      (desc.take 16)).createCode a d = 0 ∧ ((s.putArgs Reg.CHN.REQARG a).putArgs (Reg.IPM.DESC_W (bits (a.getD 0 0) 3 0))
      (desc.take 16)).nextEntry = some i ∧ i < 16384 ∧ allocAll s.ingUse (((s.putArgs Reg.CHN.REQARG a).putArgs
      (Reg.IPM.DESC_W (bits (a.getD 0 0) 3 0)) (desc.take 16)).entrySizes a).1 = some eis ∧ allocAll s.egrUse (((s.putArgs
      Reg.CHN.REQARG a).putArgs (Reg.IPM.DESC_W (bits (a.getD 0 0) 3 0)) (desc.take 16)).entrySizes a).2 = some eos ∧
      ((s.putArgs Reg.CHN.REQARG a).putArgs (Reg.IPM.DESC_W (bits (a.getD 0 0) 3 0)) (desc.take 16)).pllWait a = none) ∧
(∃ (s : State) (h : JrpHdr) (x : JrpSession) (a desc d eis eos : List Nat), JrpReady h x (.chn 1 a desc) s ∧ s.get
      Reg.CHN.STAT_REQBUSY = 0 ∧ s.get Reg.CHN.CTRL_EN = 1 ∧ a.length = 8 ∧ ((a.all fun w => w < 2 ^ 32) = true) ∧
      ((desc.all fun w => w < 2 ^ 32) = true) ∧ d = ((s.putArgs Reg.CHN.REQARG a).putArgs (Reg.IPM.DESC_W (bits (a.getD 0
      0) 3 0)) (desc.take 16)).reqDesc a ∧ ((s.putArgs Reg.CHN.REQARG a).putArgs (Reg.IPM.DESC_W (bits (a.getD 0 0) 3 0))
      (desc.take 16)).createCode a d = 0 ∧ (((s.putArgs Reg.CHN.REQARG a).putArgs (Reg.IPM.DESC_W (bits (a.getD 0 0) 3 0))
      (desc.take 16)).nextEntry = none ∨ allocAll s.ingUse (((s.putArgs Reg.CHN.REQARG a).putArgs (Reg.IPM.DESC_W (bits
      (a.getD 0 0) 3 0)) (desc.take 16)).entrySizes a).1 = none ∨ allocAll s.egrUse (((s.putArgs Reg.CHN.REQARG a).putArgs
      (Reg.IPM.DESC_W (bits (a.getD 0 0) 3 0)) (desc.take 16)).entrySizes a).2 = none ∨ ((s.putArgs Reg.CHN.REQARG
      a).putArgs (Reg.IPM.DESC_W (bits (a.getD 0 0) 3 0)) (desc.take 16)).pllWait a ≠ none) ∧ allocAll s.ingUse
      (((s.putArgs Reg.CHN.REQARG a).putArgs (Reg.IPM.DESC_W (bits (a.getD 0 0) 3 0)) (desc.take 16)).entrySizes a).1 =
      some eis ∧ allocAll s.egrUse (((s.putArgs Reg.CHN.REQARG a).putArgs (Reg.IPM.DESC_W (bits (a.getD 0 0) 3 0))
      (desc.take 16)).entrySizes a).2 = some eos ∧ ((s.putArgs Reg.CHN.REQARG a).putArgs (Reg.IPM.DESC_W (bits (a.getD 0
      0) 3 0)) (desc.take 16)).pllWait a ≠ none) ∧
(∃ (s : State) (h : JrpHdr) (x : JrpSession) (a desc d : List Nat) (c : Nat), JrpReady h x (.chn 1 a desc) s ∧ s.get
      Reg.CHN.STAT_REQBUSY = 0 ∧ a.length = 8 ∧ ((a.all fun w => w < 2 ^ 32) = true) ∧ ((desc.all fun w => w < 2 ^ 32) =
      true) ∧ d = ((s.putArgs Reg.CHN.REQARG a).putArgs (Reg.IPM.DESC_W (bits (a.getD 0 0) 3 0)) (desc.take 16)).reqDesc a
      ∧ c = ((s.putArgs Reg.CHN.REQARG a).putArgs (Reg.IPM.DESC_W (bits (a.getD 0 0) 3 0)) (desc.take 16)).createCode a d
      ∧ c ≠ 0) ∧
(∃ (s : State) (h : JrpHdr) (x : JrpSession) (hd i : Nat) (c : Chan), JrpReady h x (.chn 2 [hd] []) s ∧ s.get
      Reg.CHN.STAT_REQBUSY = 0 ∧ s.get Reg.CHN.CTRL_EN = 1 ∧ hd < 2 ^ 32 ∧ i = State.handleIdx hd ∧ s.judgeHandle hd
      State.anyKind = 0 ∧ s.inUseBy i = false ∧ s.chan i = some c) ∧
(∃ (s : State) (h : JrpHdr) (x : JrpSession) (hd c : Nat), JrpReady h x (.chn 2 [hd] []) s ∧ s.get Reg.CHN.STAT_REQBUSY =
      0 ∧ hd < 2 ^ 32 ∧ (c = (if s.get Reg.CHN.CTRL_EN = 0 then 16 else if s.judgeHandle hd State.anyKind ≠ 0 then
      s.judgeHandle hd State.anyKind else if s.inUseBy (State.handleIdx hd) then 13 else 0)) ∧ c ≠ 0) ∧
(∃ (s : State) (h : JrpHdr) (x : JrpSession) (a : List Nat) (d : Nat) (y : Member), JrpReady h x (.chn 3 a []) s ∧ s.get
      Reg.CHN.STAT_REQBUSY = 0 ∧ s.get Reg.CHN.CTRL_EN = 1 ∧ a.length = 8 ∧ ((a.all fun w => w < 2 ^ 32) = true) ∧ y =
      (s.putArgs Reg.CHN.REQARG a).reqMember ∧ (s.putArgs Reg.CHN.REQARG a).appendCode y = 0 ∧ d = s.druseOf (a.getD 0 0)
      ∧ (y.type ≤ 1 ∨ s.ownSys y.sys = true) ∧ s.rangeFits d y = true ∧ d < 4096) ∧
(∃ (s : State) (h : JrpHdr) (x : JrpSession) (a : List Nat) (d : Nat) (y : Member), JrpReady h x (.chn 3 a []) s ∧ s.get
      Reg.CHN.STAT_REQBUSY = 0 ∧ s.get Reg.CHN.CTRL_EN = 1 ∧ a.length = 8 ∧ ((a.all fun w => w < 2 ^ 32) = true) ∧ y =
      (s.putArgs Reg.CHN.REQARG a).reqMember ∧ (s.putArgs Reg.CHN.REQARG a).appendCode y = 0 ∧ d = s.druseOf (a.getD 0 0)
      ∧ 2 ≤ y.type ∧ s.ownSys y.sys = false) ∧
(∃ (s : State) (h : JrpHdr) (x : JrpSession) (a : List Nat) (y : Member) (c : Nat), JrpReady h x (.chn 3 a []) s ∧ s.get
      Reg.CHN.STAT_REQBUSY = 0 ∧ a.length = 8 ∧ ((a.all fun w => w < 2 ^ 32) = true) ∧ y = (s.putArgs Reg.CHN.REQARG
      a).reqMember ∧ (c = (if (s.putArgs Reg.CHN.REQARG a).appendCode y ≠ 0 then (s.putArgs Reg.CHN.REQARG a).appendCode y
      else if (y.type ≤ 1 ∨ s.ownSys y.sys = true) ∧ s.rangeFits (s.druseOf (a.getD 0 0)) y = false then 11 else 0)) ∧ c ≠
      0) ∧
(∃ (s : State) (h : JrpHdr) (x : JrpSession) (a : List Nat) (ps pa hh d : Nat), JrpReady h x (.claim a ps pa) s ∧ h.epoch
      = s.get Reg.CHN.EPOCH ∧ (hh = (if bits (a.getD 1 0) 30 28 = 3 then s.get (Reg.CHN.DRU_HANDLE (s.use
      Reg.CHN.CFG_CHIPDRUSE)) else a.getD 3 0)) ∧ d = s.druseOf hh ∧ s.get Reg.CHN.CTRL_EN = 1 ∧ (bits (a.getD 1 0) 30 28
      = 2 ∨ (bits (a.getD 1 0) 30 28 = 3 ∧ s.chipDruseOk = true)) ∧ s.judgeHandle hh [10] = 0 ∧ s.get
      (Reg.CHN.DRU_PSYS_MARK d) = 0 ∧ s.get (Reg.CHN.DRU_PSYS_PVALID d) = 0 ∧ ((((s.parentOfForeign (ps, pa)).map
      (s.parentChain 4096)).any fun l => l.contains d) = false) ∧ ps < 2 ^ 18 ∧ pa < 2 ^ 32 ∧ d < 4096) ∧
(∃ (s : State) (h : JrpHdr) (x : JrpSession) (a : List Nat) (ps pa hh d c : Nat), JrpReady h x (.claim a ps pa) s ∧
      h.epoch = s.get Reg.CHN.EPOCH ∧ (hh = (if bits (a.getD 1 0) 30 28 = 3 then s.get (Reg.CHN.DRU_HANDLE (s.use
      Reg.CHN.CFG_CHIPDRUSE)) else a.getD 3 0)) ∧ d = s.druseOf hh ∧ (c = (if s.get Reg.CHN.CTRL_EN = 0 then 16 else if
      ¬(bits (a.getD 1 0) 30 28 = 2 ∨ (bits (a.getD 1 0) 30 28 = 3 ∧ s.chipDruseOk = true)) then 11 else if s.judgeHandle
      hh [10] ≠ 0 then s.judgeHandle hh [10] else if s.get (Reg.CHN.DRU_PSYS_MARK d) = 1 then 1 else if
      (((s.parentOfForeign (ps, pa)).map (s.parentChain 4096)).any fun l => l.contains d) then 14 else if s.get
      (Reg.CHN.DRU_PSYS_PVALID d) = 1 then 13 else 0)) ∧ c ≠ 0) ∧
(∃ (s : State) (h : JrpHdr) (x : JrpSession) (hd dir pos sys hnd : Nat), JrpReady h x (.chn 4 [hd, dir, pos] []) s ∧ s.get
      Reg.CHN.STAT_REQBUSY = 0 ∧ s.get Reg.CHN.CTRL_EN = 1 ∧ hd < 2 ^ 32 ∧ dir < 2 ^ 32 ∧ pos < 2 ^ 32 ∧ s.judgeHandle hd
      [10] = 0 ∧ s.resolvePos (bit dir 0) 4097 (s.membersOf (s.druseOf hd)) pos = (0, sys, some hnd) ∧ sys < 2 ^ 18 ∧ hnd
      < 2 ^ 32) ∧
(∃ (s : State) (h : JrpHdr) (x : JrpSession) (hd dir pos c : Nat), JrpReady h x (.chn 4 [hd, dir, pos] []) s ∧ s.get
      Reg.CHN.STAT_REQBUSY = 0 ∧ hd < 2 ^ 32 ∧ dir < 2 ^ 32 ∧ pos < 2 ^ 32 ∧ (c = (if s.get Reg.CHN.CTRL_EN = 0 then 16
      else if s.judgeHandle hd [10] ≠ 0 then s.judgeHandle hd [10] else (s.resolvePos (bit dir 0) 4097 (s.membersOf
      (s.druseOf hd)) pos).1)) ∧ c ≠ 0) ∧
(∃ (s : State) (h : JrpHdr) (x : JrpSession) (j a g : Nat), s.get Reg.AUD.MAPRES_BUSY = 0 ∧ j < 32768 ∧ a < 2 ^ 16 ∧ g < 2
      ^ 16 ∧ JrpReady h x (.voice 1 [j, a, g]) s ∧ s.get Reg.AUD.CTRL_EN = 1 ∧ j < s.tsiVoices ∧ s.get (Reg.AUD.OV_VALID
      j) = 1 ∧ (bit a 15 = true → s.inputOwned (bits a 14 0) = true)) ∧
(∃ (s : State) (h : JrpHdr) (x : JrpSession) (j a g : Nat), s.get Reg.AUD.MAPRES_BUSY = 0 ∧ j < 32768 ∧ a < 2 ^ 16 ∧ g < 2
      ^ 16 ∧ JrpReady h x (.voice 2 [j, a, g]) s ∧ s.get Reg.AUD.CTRL_EN = 1 ∧ j < s.tsiVoices ∧ s.get (Reg.AUD.OV_VALID
      j) = 1 ∧ a ≤ 511 ∧ s.get (Reg.AUD.OV_COUPLE j) ≠ 0) ∧
(∃ (s : State) (h : JrpHdr) (x : JrpSession) (j a g op : Nat), s.get Reg.AUD.MAPRES_BUSY = 0 ∧ j < 32768 ∧ a < 2 ^ 16 ∧ g
      < 2 ^ 16 ∧ JrpReady h x (.voice op [j, a, g]) s ∧ s.get Reg.AUD.CTRL_EN = 1 ∧ j < s.tsiVoices ∧ s.get
      (Reg.AUD.OV_VALID j) = 1 ∧ 3 ≤ op ∧ op ≤ 5 ∧ (op = 3 → (toSigned 16 g = -32768 ∨ (-6144 ≤ toSigned 16 g ∧ toSigned
      16 g ≤ 1536)))) ∧
(∃ (s : State) (h : JrpHdr) (x : JrpSession) (j a g op : Nat) (c : Nat), JrpReady h x (.voice op [j, a, g]) s ∧ s.get
      Reg.AUD.MAPRES_BUSY = 0 ∧ j < 32768 ∧ a < 2 ^ 16 ∧ g < 2 ^ 16 ∧ op < 16 ∧ (c = (if s.get Reg.AUD.CTRL_EN = 0 then 16
      else if s.tsiVoices ≤ j ∨ s.get (Reg.AUD.OV_VALID j) = 0 ∨ op = 0 ∨ 6 ≤ op then 11 else if op = 1 then (if bit a 15
      ∧ s.inputOwned (bits a 14 0) = false then 11 else 0) else if op = 2 then (if 511 < a then 11 else if s.get
      (Reg.AUD.OV_COUPLE j) = 0 then 4 else 0) else if op = 3 ∧ toSigned 16 g ≠ -32768 ∧ (toSigned 16 g < -6144 ∨ 1536 <
      toSigned 16 g) then 11 else 0)) ∧ c ≠ 0) ∧
(∃ (s : State) (h : JrpHdr) (x : JrpSession) (e n : Nat) (l a b : Nat) (f d : Nat), JrpReady h x (.layer e 1 [l, a, b]) s
      ∧ n < 8 ∧ s.engineOf e 8 = (0, n) ∧ s.get (Reg.MICA.LAYRES_BUSY n) = 0 ∧ s.get (Reg.MICA.CTRL_EN n) = 1 ∧ l < 63 ∧ a
      < 2 ^ 32 ∧ b < 2 ^ 32 ∧ s.get (Reg.MICA.LAY_BOUND n l) = 0 ∧ (s.putArgs (Reg.MICA.LAYARG n) [l, a, b]).judgeBind n
      false = 0 ∧ allocEntry s.egrUse (s.srcSize a) = some f ∧ ((List.range 256).find? (fun j => s.decFree j) = some d) ∧
      f < 8192) ∧
(∃ (s : State) (h : JrpHdr) (x : JrpSession) (e n : Nat) (l a b : Nat), JrpReady h x (.layer e 2 [l, a, b]) s ∧ n < 8 ∧
      s.engineOf e 8 = (0, n) ∧ s.get (Reg.MICA.LAYRES_BUSY n) = 0 ∧ s.get (Reg.MICA.CTRL_EN n) = 1 ∧ l < 63 ∧ a < 2 ^ 32
      ∧ b < 2 ^ 32 ∧ s.get (Reg.MICA.LAY_BOUND n l) = 1 ∧ (s.putArgs (Reg.MICA.LAYARG n) [l, a, b]).judgeBind n true = 0) ∧
(∃ (s : State) (h : JrpHdr) (x : JrpSession) (e n : Nat) (l a b : Nat) (d : Nat), JrpReady h x (.layer e 3 [l, a, b]) s ∧
      n < 8 ∧ s.engineOf e 8 = (0, n) ∧ s.get (Reg.MICA.LAYRES_BUSY n) = 0 ∧ s.get (Reg.MICA.CTRL_EN n) = 1 ∧ l < 63 ∧ a <
      2 ^ 32 ∧ b < 2 ^ 32 ∧ s.get (Reg.MICA.LAY_BOUND n l) = 1 ∧ d = s.get (State.layDec n l)) ∧
(∃ (s : State) (h : JrpHdr) (x : JrpSession) (e n : Nat) (l a b op : Nat) (c : Nat), JrpReady h x (.layer e op [l, a, b])
      s ∧ n < 8 ∧ s.engineOf e 8 = (0, n) ∧ s.get (Reg.MICA.LAYRES_BUSY n) = 0 ∧ op < 16 ∧ l < 2 ^ 32 ∧ a < 2 ^ 32 ∧ b < 2
      ^ 32 ∧ (c = (if s.get (Reg.MICA.CTRL_EN n) = 0 then 16 else if op = 0 ∨ 4 ≤ op then 11 else if 63 ≤ l % 64 then 11
      else if op = 1 ∧ s.get (Reg.MICA.LAY_BOUND n (l % 64)) = 1 then 12 else if 2 ≤ op ∧ s.get (Reg.MICA.LAY_BOUND n (l %
      64)) = 0 then 11 else if op = 3 then 0 else (s.putArgs (Reg.MICA.LAYARG n) [l, a, b]).judgeBind n (op == 2))) ∧ c ≠
      0) ∧
(∃ (s : State) (h : JrpHdr) (x : JrpSession) (e n : Nat) (c : Nat), JrpReady h x .nop s ∧ (((s.jrp.peers.find? fun p =>
      p.index == x.peer).any fun p => bit p.rights 1) = true) ∧ (((s.jrp.peers.find? fun p => p.index == x.peer).any fun p
      => bit p.rights 2) = true) ∧ s.engineOf e 8 = (c, n) ∧ c ≠ 0) ∧
(∃ (s : State) (h : JrpHdr) (x : JrpSession) (e n : Nat) (c : Nat), JrpReady h x .nop s ∧ (((s.jrp.peers.find? fun p =>
      p.index == x.peer).any fun p => bit p.rights 1) = true) ∧ s.engineOf e 7 = (c, n) ∧ c ≠ 0) ∧
(∃ (s : State) (h : JrpHdr) (x : JrpSession) (e n : Nat) (v : Nat), JrpReady h x (.micaSet e [(0x1C, v)] false) s ∧ n < 8
      ∧ s.engineOf e 8 = (0, n) ∧ v < 2 ^ 32) ∧
(∃ (s : State) (h : JrpHdr) (x : JrpSession) (e n : Nat) (v l : Nat), JrpReady h x (.micaSet e [(0x1000 + 0x40 * l, v)]
      false) s ∧ n < 8 ∧ s.engineOf e 8 = (0, n) ∧ v < 2 ^ 32 ∧ l < 63) ∧
(∃ (s : State) (h : JrpHdr) (x : JrpSession) (e n : Nat) (ws : List (Nat × Nat)) (w : Bool), JrpReady h x (.micaSet e ws
      w) s ∧ s.engineOf e 8 = (0, n) ∧ ((ws.any fun p => !State.setOffset p.1) = true)) ∧
(∃ (s : State) (h : JrpHdr) (x : JrpSession) (e n : Nat) (c : Bool), JrpReady h x (.micaSet e [] true) s ∧ n < 8 ∧
      s.engineOf e 8 = (0, n) ∧ s.micaRuns n = true ∧ s.micaWhy n = 0 ∧ (s.micaHw n).pending = none ∧ c = (s.micaActive
      n).changes (s.micaNext n)) ∧
(∃ (s : State) (h : JrpHdr) (x : JrpSession) (e n : Nat), JrpReady h x (.micaSet e [] true) s ∧ n < 8 ∧ s.engineOf e 8 =
      (0, n) ∧ s.micaRuns n = true ∧ s.micaWhy n ≠ 0) ∧
(∃ (s : State) (h : JrpHdr) (x : JrpSession) (e n : Nat) (a k : Nat), JrpReady h x (.flint e a k) s ∧ n < 8 ∧ s.engineOf e
      8 = (0, n) ∧ s.get (Reg.MICA.STAT_LOADPEND n) = 0 ∧ k < 2 ^ 32) ∧
(∃ (s : State) (h : JrpHdr) (x : JrpSession) (e n : Nat) (a k : Nat), JrpReady h x (.flint e a k) s ∧ n < 8 ∧ s.engineOf e
      8 = (0, n) ∧ s.get (Reg.MICA.STAT_LOADPEND n) = 1 ∧ k < 2 ^ 32) ∧
(∃ (s : State) (h : JrpHdr) (x : JrpSession) (e n : Nat) (ls f v tb cp : Nat), JrpReady h x (.cnvLoad e ls f [v]) s ∧ n <
      32 ∧ s.engineOf e 7 = (0, n) ∧ s.get (Reg.CNV.STAT_SWAPPEND n) = 0 ∧ v < 65536 ∧ tb = bits ls 5 4 ∧ cp = bits ls 1 0
      ∧ f < lutEntries tb ∧ f < 2 ^ 16) ∧
(∃ (s : State) (h : JrpHdr) (x : JrpSession) (e n : Nat) (ls f : Nat) (l : List Nat), JrpReady h x (.cnvLoad e ls f l) s ∧
      s.engineOf e 7 = (0, n) ∧ 700 < l.length) ∧
(∃ (s : State) (h : JrpHdr) (x : JrpSession) (e n : Nat), JrpReady h x (.cnvSwap e) s ∧ n < 32 ∧ s.engineOf e 7 = (0, n) ∧
      s.get (Reg.CNV.STAT_SWAPPEND n) = 0) ∧
(∃ (s : State) (h : JrpHdr) (x : JrpSession) (e n : Nat), JrpReady h x (.cnvSwap e) s ∧ n < 32 ∧ s.engineOf e 7 = (0, n) ∧
      s.get (Reg.CNV.STAT_SWAPPEND n) = 1) :=
  ⟨⟨(({ (State.reset) with jrp := { State.reset.jrp with sessions := [⟨77, 2, false, 64, 0xC0A80101, 5000, 1, none, 0, ⟨2, 0, false, false, 77, 0, 0, 0, 0, []⟩, 0, none, [], [], 128000000, 0, [], [], 0, none, 0, ⟨0, 0, 0, 0, 0⟩⟩], peers := [⟨2, 0xC0A80101, 0, 63, 0⟩] } }
      : State) |>.set Reg.CFG.STAT_STEP 9 |>.set Reg.CHN.CTRL_EN 1), ⟨64, 0xC0A80101, 5000, 14720, false, true, true, 77,
      9, 0, 0⟩, ⟨77, 2, false, 64, 0xC0A80101, 5000, 1, none, 0, ⟨2, 0, false, false, 77, 0, 0, 0, 0, []⟩, 0, none, [],
      [], 128000000, 0, [], [], 0, none, 0, ⟨0, 0, 0, 0, 0⟩⟩, [0xA0000000, 0, 0, 0, 0, 0, 0, 0], [], [], [], [], 0,
      by decide +kernel⟩,
  ⟨(({ (((((State.reset.set Reg.CHN.CTRL_EN 1).set (Reg.LANE.CFG_TXMODE 0) 1).set (Reg.QUAD.STAT_RUN 0) 1))) with jrp := { State.reset.jrp with sessions := [⟨77, 2, false, 64, 0xC0A80101, 5000, 1, none, 0, ⟨2, 0, false, false, 77, 0, 0, 0, 0, []⟩, 0, none, [], [], 128000000, 0, [], [], 0, none, 0, ⟨0, 0, 0, 0, 0⟩⟩], peers := [⟨2, 0xC0A80101, 0, 63, 0⟩] } }
      : State) |>.set Reg.CFG.STAT_STEP 9), ⟨64, 0xC0A80101, 5000, 14720, false, true, true, 77, 9, 0, 0⟩, ⟨77, 2, false,
      64, 0xC0A80101, 5000, 1, none, 0, ⟨2, 0, false, false, 77, 0, 0, 0, 0, []⟩, 0, none, [], [], 128000000, 0, [], [],
      0, none, 0, ⟨0, 0, 0, 0, 0⟩⟩, [0x20000000, 0x1000000, 0, 0, 0, 0, 0, 0], [], [], [], [0], by decide +kernel⟩,
  ⟨(({ (State.reset) with jrp := { State.reset.jrp with sessions := [⟨77, 2, false, 64, 0xC0A80101, 5000, 1, none, 0, ⟨2, 0, false, false, 77, 0, 0, 0, 0, []⟩, 0, none, [], [], 128000000, 0, [], [], 0, none, 0, ⟨0, 0, 0, 0, 0⟩⟩], peers := [⟨2, 0xC0A80101, 0, 63, 0⟩] } }
      : State) |>.set Reg.CFG.STAT_STEP 9), ⟨64, 0xC0A80101, 5000, 14720, false, true, true, 77, 9, 0, 0⟩, ⟨77, 2, false,
      64, 0xC0A80101, 5000, 1, none, 0, ⟨2, 0, false, false, 77, 0, 0, 0, 0, []⟩, 0, none, [], [], 128000000, 0, [], [],
      0, none, 0, ⟨0, 0, 0, 0, 0⟩⟩, [0xA0000000, 0, 0, 0, 0, 0, 0, 0], [], [], 16, by decide +kernel⟩,
  ⟨(({ (({ State.reset with chn := { State.reset.chn with chans := [(3, ⟨10, [], [], 0, 5, true, 0, 0, 0, [], []⟩)], druses := [(5, [])], nextIndex := 4 } } : State)) with jrp := { State.reset.jrp with sessions := [⟨77, 2, false, 64, 0xC0A80101, 5000, 1, none, 0, ⟨2, 0, false, false, 77, 0, 0, 0, 0, []⟩, 0, none, [], [], 128000000, 0, [], [], 0, none, 0, ⟨0, 0, 0, 0, 0⟩⟩], peers := [⟨2, 0xC0A80101, 0, 63, 0⟩] } }
      : State) |>.set Reg.CFG.STAT_STEP 9 |>.set Reg.CHN.CTRL_EN 1 |>.set (Reg.CHN.ENT_HANDLE 3) (State.mkHandle 10 3 7)
      |>.set (Reg.CHN.ENT_STATE_STATE 3) 1 |>.set (Reg.CHN.DRU_HANDLE 5) (State.mkHandle 10 3 7)), ⟨64, 0xC0A80101, 5000,
      14720, false, true, true, 77, 9, 0, 0⟩, ⟨77, 2, false, 64, 0xC0A80101, 5000, 1, none, 0, ⟨2, 0, false, false, 77, 0,
      0, 0, 0, []⟩, 0, none, [], [], 128000000, 0, [], [], 0, none, 0, ⟨0, 0, 0, 0, 0⟩⟩, State.mkHandle 10 3 7, 3, ⟨10,
      [], [], 0, 5, true, 0, 0, 0, [], []⟩, by decide +kernel⟩,
  ⟨(({ (({ State.reset with chn := { State.reset.chn with chans := [(3, ⟨10, [], [], 0, 5, true, 0, 0, 0, [], []⟩)], druses := [(5, [])], nextIndex := 4 } } : State)) with jrp := { State.reset.jrp with sessions := [⟨77, 2, false, 64, 0xC0A80101, 5000, 1, none, 0, ⟨2, 0, false, false, 77, 0, 0, 0, 0, []⟩, 0, none, [], [], 128000000, 0, [], [], 0, none, 0, ⟨0, 0, 0, 0, 0⟩⟩], peers := [⟨2, 0xC0A80101, 0, 63, 0⟩] } }
      : State) |>.set Reg.CFG.STAT_STEP 9 |>.set Reg.CHN.CTRL_EN 1 |>.set (Reg.CHN.ENT_HANDLE 3) (State.mkHandle 10 3 7)
      |>.set (Reg.CHN.ENT_STATE_STATE 3) 1 |>.set (Reg.CHN.DRU_HANDLE 5) (State.mkHandle 10 3 7)), ⟨64, 0xC0A80101, 5000,
      14720, false, true, true, 77, 9, 0, 0⟩, ⟨77, 2, false, 64, 0xC0A80101, 5000, 1, none, 0, ⟨2, 0, false, false, 77, 0,
      0, 0, 0, []⟩, 0, none, [], [], 128000000, 0, [], [], 0, none, 0, ⟨0, 0, 0, 0, 0⟩⟩, 5, 2, by decide +kernel⟩,
  ⟨(({ (({ State.reset with chn := { State.reset.chn with chans := [(3, ⟨10, [], [], 0, 5, true, 0, 0, 0, [], []⟩)], druses := [(5, [])], nextIndex := 4 } } : State)) with jrp := { State.reset.jrp with sessions := [⟨77, 2, false, 64, 0xC0A80101, 5000, 1, none, 0, ⟨2, 0, false, false, 77, 0, 0, 0, 0, []⟩, 0, none, [], [], 128000000, 0, [], [], 0, none, 0, ⟨0, 0, 0, 0, 0⟩⟩], peers := [⟨2, 0xC0A80101, 0, 63, 0⟩] } }
      : State) |>.set Reg.CFG.STAT_STEP 9 |>.set Reg.CHN.CTRL_EN 1 |>.set (Reg.CHN.ENT_HANDLE 3) (State.mkHandle 10 3 7)
      |>.set (Reg.CHN.ENT_STATE_STATE 3) 1 |>.set (Reg.CHN.DRU_HANDLE 5) (State.mkHandle 10 3 7) |>.set
      (Reg.LANE.CFG_RXMODE 0) 1), ⟨64, 0xC0A80101, 5000, 14720, false, true, true, 77, 9, 0, 0⟩, ⟨77, 2, false, 64,
      0xC0A80101, 5000, 1, none, 0, ⟨2, 0, false, false, 77, 0, 0, 0, 0, []⟩, 0, none, [], [], 128000000, 0, [], [], 0,
      none, 0, ⟨0, 0, 0, 0, 0⟩⟩, [State.mkHandle 10 3 7, 0x10000000, 0, 0, 0, 0, 0, 0], 5, ⟨1, 0, 0, 0, 0⟩,
      by decide +kernel⟩,
  ⟨(({ (({ State.reset with chn := { State.reset.chn with chans := [(3, ⟨10, [], [], 0, 5, true, 0, 0, 0, [], []⟩)], druses := [(5, [])], nextIndex := 4 } } : State)) with jrp := { State.reset.jrp with sessions := [⟨77, 2, false, 64, 0xC0A80101, 5000, 1, none, 0, ⟨2, 0, false, false, 77, 0, 0, 0, 0, []⟩, 0, none, [], [], 128000000, 0, [], [], 0, none, 0, ⟨0, 0, 0, 0, 0⟩⟩], peers := [⟨2, 0xC0A80101, 0, 63, 0⟩] } }
      : State) |>.set Reg.CFG.STAT_STEP 9 |>.set Reg.CHN.CTRL_EN 1 |>.set (Reg.CHN.ENT_HANDLE 3) (State.mkHandle 10 3 7)
      |>.set (Reg.CHN.ENT_STATE_STATE 3) 1 |>.set (Reg.CHN.DRU_HANDLE 5) (State.mkHandle 10 3 7)), ⟨64, 0xC0A80101, 5000,
      14720, false, true, true, 77, 9, 0, 0⟩, ⟨77, 2, false, 64, 0xC0A80101, 5000, 1, none, 0, ⟨2, 0, false, false, 77, 0,
      0, 0, 0, []⟩, 0, none, [], [], 128000000, 0, [], [], 0, none, 0, ⟨0, 0, 0, 0, 0⟩⟩, [State.mkHandle 10 3 7,
      0x20000000, 9, 77, 0, 0, 0, 0], 5, ⟨2, 9, 77, 0, 0⟩, by decide +kernel⟩,
  ⟨(({ (({ State.reset with chn := { State.reset.chn with chans := [(3, ⟨10, [], [], 0, 5, true, 0, 0, 0, [], []⟩)], druses := [(5, [])], nextIndex := 4 } } : State)) with jrp := { State.reset.jrp with sessions := [⟨77, 2, false, 64, 0xC0A80101, 5000, 1, none, 0, ⟨2, 0, false, false, 77, 0, 0, 0, 0, []⟩, 0, none, [], [], 128000000, 0, [], [], 0, none, 0, ⟨0, 0, 0, 0, 0⟩⟩], peers := [⟨2, 0xC0A80101, 0, 63, 0⟩] } }
      : State) |>.set Reg.CFG.STAT_STEP 9 |>.set Reg.CHN.CTRL_EN 1 |>.set (Reg.CHN.ENT_HANDLE 3) (State.mkHandle 10 3 7)
      |>.set (Reg.CHN.ENT_STATE_STATE 3) 1 |>.set (Reg.CHN.DRU_HANDLE 5) (State.mkHandle 10 3 7)), ⟨64, 0xC0A80101, 5000,
      14720, false, true, true, 77, 9, 0, 0⟩, ⟨77, 2, false, 64, 0xC0A80101, 5000, 1, none, 0, ⟨2, 0, false, false, 77, 0,
      0, 0, 0, []⟩, 0, none, [], [], 128000000, 0, [], [], 0, none, 0, ⟨0, 0, 0, 0, 0⟩⟩, [0, 0x20000000, 9, 77, 0, 0, 0,
      0], ⟨2, 9, 77, 0, 0⟩, 2, by decide +kernel⟩,
  ⟨(({ (({ State.reset with chn := { State.reset.chn with chans := [(3, ⟨10, [], [], 0, 5, true, 0, 0, 0, [], []⟩)], druses := [(5, [])], nextIndex := 4 } } : State)) with jrp := { State.reset.jrp with sessions := [⟨77, 2, false, 64, 0xC0A80101, 5000, 1, none, 0, ⟨2, 0, false, false, 77, 0, 0, 0, 0, []⟩, 0, none, [], [], 128000000, 0, [], [], 0, none, 0, ⟨0, 0, 0, 0, 0⟩⟩], peers := [⟨2, 0xC0A80101, 0, 63, 0⟩] } }
      : State) |>.set Reg.CFG.STAT_STEP 9 |>.set Reg.CHN.CTRL_EN 1 |>.set (Reg.CHN.ENT_HANDLE 3) (State.mkHandle 10 3 7)
      |>.set (Reg.CHN.ENT_STATE_STATE 3) 1 |>.set (Reg.CHN.DRU_HANDLE 5) (State.mkHandle 10 3 7)), ⟨64, 0xC0A80101, 5000,
      14720, false, true, true, 77, 9, 0, 0⟩, ⟨77, 2, false, 64, 0xC0A80101, 5000, 1, none, 0, ⟨2, 0, false, false, 77, 0,
      0, 0, 0, []⟩, 0, none, [], [], 128000000, 0, [], [], 0, none, 0, ⟨0, 0, 0, 0, 0⟩⟩, [1, 0x20000000, 0, State.mkHandle
      10 3 7, 0, 0, 0, 0], 9, 77, State.mkHandle 10 3 7, 5, by decide +kernel⟩,
  ⟨(({ (({ State.reset with chn := { State.reset.chn with chans := [(3, ⟨10, [], [], 0, 5, true, 0, 0, 0, [], []⟩)], druses := [(5, [])], nextIndex := 4 } } : State)) with jrp := { State.reset.jrp with sessions := [⟨77, 2, false, 64, 0xC0A80101, 5000, 1, none, 0, ⟨2, 0, false, false, 77, 0, 0, 0, 0, []⟩, 0, none, [], [], 128000000, 0, [], [], 0, none, 0, ⟨0, 0, 0, 0, 0⟩⟩], peers := [⟨2, 0xC0A80101, 0, 63, 0⟩] } }
      : State) |>.set Reg.CFG.STAT_STEP 9 |>.set Reg.CHN.CTRL_EN 1 |>.set (Reg.CHN.ENT_HANDLE 3) (State.mkHandle 10 3 7)
      |>.set (Reg.CHN.ENT_STATE_STATE 3) 1 |>.set (Reg.CHN.DRU_HANDLE 5) (State.mkHandle 10 3 7) |>.set
      (Reg.CHN.DRU_PSYS_PVALID 5) 1), ⟨64, 0xC0A80101, 5000, 14720, false, true, true, 77, 9, 0, 0⟩, ⟨77, 2, false, 64,
      0xC0A80101, 5000, 1, none, 0, ⟨2, 0, false, false, 77, 0, 0, 0, 0, []⟩, 0, none, [], [], 128000000, 0, [], [], 0,
      none, 0, ⟨0, 0, 0, 0, 0⟩⟩, [1, 0x20000000, 0, State.mkHandle 10 3 7, 0, 0, 0, 0], 9, 77, State.mkHandle 10 3 7, 5,
      13, by decide +kernel⟩,
  ⟨(({ (({ State.reset with chn := { State.reset.chn with chans := [(3, ⟨10, [], [], 0, 5, true, 0, 0, 0, [], []⟩)], druses := [(5, [⟨0, 2, 0x10004001, 0, 0⟩])], nextIndex := 4 } } : State)) with jrp := { State.reset.jrp with sessions := [⟨77, 2, false, 64, 0xC0A80101, 5000, 1, none, 0, ⟨2, 0, false, false, 77, 0, 0, 0, 0, []⟩, 0, none, [], [], 128000000, 0, [], [], 0, none, 0, ⟨0, 0, 0, 0, 0⟩⟩], peers := [⟨2, 0xC0A80101, 0, 63, 0⟩] } }
      : State) |>.set Reg.CFG.STAT_STEP 9 |>.set Reg.CHN.CTRL_EN 1 |>.set (Reg.CHN.ENT_HANDLE 3) (State.mkHandle 10 3 7)
      |>.set (Reg.CHN.ENT_STATE_STATE 3) 1 |>.set (Reg.CHN.DRU_HANDLE 5) (State.mkHandle 10 3 7)), ⟨64, 0xC0A80101, 5000,
      14720, false, true, true, 77, 9, 0, 0⟩, ⟨77, 2, false, 64, 0xC0A80101, 5000, 1, none, 0, ⟨2, 0, false, false, 77, 0,
      0, 0, 0, []⟩, 0, none, [], [], 128000000, 0, [], [], 0, none, 0, ⟨0, 0, 0, 0, 0⟩⟩, State.mkHandle 10 3 7, 0, 0, 2,
      0x10004001, by decide +kernel⟩,
  ⟨(({ (({ State.reset with chn := { State.reset.chn with chans := [(3, ⟨10, [], [], 0, 5, true, 0, 0, 0, [], []⟩)], druses := [(5, [])], nextIndex := 4 } } : State)) with jrp := { State.reset.jrp with sessions := [⟨77, 2, false, 64, 0xC0A80101, 5000, 1, none, 0, ⟨2, 0, false, false, 77, 0, 0, 0, 0, []⟩, 0, none, [], [], 128000000, 0, [], [], 0, none, 0, ⟨0, 0, 0, 0, 0⟩⟩], peers := [⟨2, 0xC0A80101, 0, 63, 0⟩] } }
      : State) |>.set Reg.CFG.STAT_STEP 9 |>.set Reg.CHN.CTRL_EN 1 |>.set (Reg.CHN.ENT_HANDLE 3) (State.mkHandle 10 3 7)
      |>.set (Reg.CHN.ENT_STATE_STATE 3) 1 |>.set (Reg.CHN.DRU_HANDLE 5) (State.mkHandle 10 3 7)), ⟨64, 0xC0A80101, 5000,
      14720, false, true, true, 77, 9, 0, 0⟩, ⟨77, 2, false, 64, 0xC0A80101, 5000, 1, none, 0, ⟨2, 0, false, false, 77, 0,
      0, 0, 0, []⟩, 0, none, [], [], 128000000, 0, [], [], 0, none, 0, ⟨0, 0, 0, 0, 0⟩⟩, State.mkHandle 10 3 7, 0, 4, 11,
      by decide +kernel⟩,
  ⟨(({ (State.reset) with jrp := { State.reset.jrp with sessions := [⟨77, 2, false, 64, 0xC0A80101, 5000, 1, none, 0, ⟨2, 0, false, false, 77, 0, 0, 0, 0, []⟩, 0, none, [], [], 128000000, 0, [], [], 0, none, 0, ⟨0, 0, 0, 0, 0⟩⟩], peers := [⟨2, 0xC0A80101, 0, 63, 0⟩] } }
      : State) |>.set Reg.CFG.STAT_STEP 9 |>.set Reg.AUD.CTRL_EN 1 |>.set (Reg.AUD.OV_VALID 700) 1 |>.set
      (Reg.AUD.IGR_VALID 20) 1 |>.set (Reg.AUD.OV_COUPLE 700) 5), ⟨64, 0xC0A80101, 5000, 14720, false, true, true, 77, 9,
      0, 0⟩, ⟨77, 2, false, 64, 0xC0A80101, 5000, 1, none, 0, ⟨2, 0, false, false, 77, 0, 0, 0, 0, []⟩, 0, none, [], [],
      128000000, 0, [], [], 0, none, 0, ⟨0, 0, 0, 0, 0⟩⟩, 700, 0x8050, 0, by decide +kernel⟩,
  ⟨(({ (State.reset) with jrp := { State.reset.jrp with sessions := [⟨77, 2, false, 64, 0xC0A80101, 5000, 1, none, 0, ⟨2, 0, false, false, 77, 0, 0, 0, 0, []⟩, 0, none, [], [], 128000000, 0, [], [], 0, none, 0, ⟨0, 0, 0, 0, 0⟩⟩], peers := [⟨2, 0xC0A80101, 0, 63, 0⟩] } }
      : State) |>.set Reg.CFG.STAT_STEP 9 |>.set Reg.AUD.CTRL_EN 1 |>.set (Reg.AUD.OV_VALID 700) 1 |>.set
      (Reg.AUD.IGR_VALID 20) 1 |>.set (Reg.AUD.OV_COUPLE 700) 5), ⟨64, 0xC0A80101, 5000, 14720, false, true, true, 77, 9,
      0, 0⟩, ⟨77, 2, false, 64, 0xC0A80101, 5000, 1, none, 0, ⟨2, 0, false, false, 77, 0, 0, 0, 0, []⟩, 0, none, [], [],
      128000000, 0, [], [], 0, none, 0, ⟨0, 0, 0, 0, 0⟩⟩, 700, 80, 0, by decide +kernel⟩,
  ⟨(({ (State.reset) with jrp := { State.reset.jrp with sessions := [⟨77, 2, false, 64, 0xC0A80101, 5000, 1, none, 0, ⟨2, 0, false, false, 77, 0, 0, 0, 0, []⟩, 0, none, [], [], 128000000, 0, [], [], 0, none, 0, ⟨0, 0, 0, 0, 0⟩⟩], peers := [⟨2, 0xC0A80101, 0, 63, 0⟩] } }
      : State) |>.set Reg.CFG.STAT_STEP 9 |>.set Reg.AUD.CTRL_EN 1 |>.set (Reg.AUD.OV_VALID 700) 1 |>.set
      (Reg.AUD.IGR_VALID 20) 1 |>.set (Reg.AUD.OV_COUPLE 700) 5), ⟨64, 0xC0A80101, 5000, 14720, false, true, true, 77, 9,
      0, 0⟩, ⟨77, 2, false, 64, 0xC0A80101, 5000, 1, none, 0, ⟨2, 0, false, false, 77, 0, 0, 0, 0, []⟩, 0, none, [], [],
      128000000, 0, [], [], 0, none, 0, ⟨0, 0, 0, 0, 0⟩⟩, 700, 0, 1, 4, by decide +kernel⟩,
  ⟨(({ (State.reset) with jrp := { State.reset.jrp with sessions := [⟨77, 2, false, 64, 0xC0A80101, 5000, 1, none, 0, ⟨2, 0, false, false, 77, 0, 0, 0, 0, []⟩, 0, none, [], [], 128000000, 0, [], [], 0, none, 0, ⟨0, 0, 0, 0, 0⟩⟩], peers := [⟨2, 0xC0A80101, 0, 63, 0⟩] } }
      : State) |>.set Reg.CFG.STAT_STEP 9 |>.set Reg.AUD.CTRL_EN 1 |>.set (Reg.AUD.OV_VALID 700) 1 |>.set
      (Reg.AUD.IGR_VALID 20) 1 |>.set (Reg.AUD.OV_COUPLE 700) 5), ⟨64, 0xC0A80101, 5000, 14720, false, true, true, 77, 9,
      0, 0⟩, ⟨77, 2, false, 64, 0xC0A80101, 5000, 1, none, 0, ⟨2, 0, false, false, 77, 0, 0, 0, 0, []⟩, 0, none, [], [],
      128000000, 0, [], [], 0, none, 0, ⟨0, 0, 0, 0, 0⟩⟩, 700, 0x8070, 1, 1, 11, by decide +kernel⟩,
  ⟨(({ ((({ State.reset with mica := { State.reset.mica with mica := [(2, State.MicaHw.fresh)], dec := [] }, chn := { State.reset.chn with chans := [(9, ⟨8, [], [], 0, 2, true, 0, 0, 0, [], []⟩), (5, ⟨1, [0, 0x11100000], [], 0, 0, true, 0, 0, 0, [], []⟩)] }, now := 0 } : State).set (Reg.MICA.CHAN 2) (State.mkHandle 8 9 1) |>.set (Reg.MICA.CTRL_EN 2) 1 |>.set (Reg.MICA.STAT_RUN 2) 1 |>.set (Reg.CHN.ENT_HANDLE 5) (State.mkHandle 1 5 1) |>.set (Reg.CHN.ENT_STATE_STATE 5) 1 |>.set (Reg.CHN.ENT_RES_INGV 5) 1 |>.set (Reg.CHN.ENT_RES_INGENT 5) 7 |>.set (Reg.MICA.LAYARG 2 0) 3 |>.set (Reg.MICA.LAYARG 2 1) (State.mkHandle 1 5 1) |>.set (Reg.MICA.LAYARG 2 2) (540 * 65536 + 960) |>.set (Reg.MICA.OUTFMT 2) 0x11100000 |>.set Reg.DRCC.STAT_RUN 1 |>.set Reg.DRCC.CTRL_EN 1 |>.set Reg.DRCC.PLAN 1000000)) with jrp := { State.reset.jrp with sessions := [⟨77, 2, false, 64, 0xC0A80101, 5000, 1, none, 0, ⟨2, 0, false, false, 77, 0, 0, 0, 0, []⟩, 0, none, [], [], 128000000, 0, [], [], 0, none, 0, ⟨0, 0, 0, 0, 0⟩⟩], peers := [⟨2, 0xC0A80101, 0, 63, 0⟩] } }
      : State) |>.set Reg.CFG.STAT_STEP 9 |>.set (Reg.CHN.ENT_HANDLE 9) (State.mkHandle 8 9 1) |>.set
      (Reg.CHN.ENT_STATE_STATE 9) 1), ⟨64, 0xC0A80101, 5000, 14720, false, true, true, 77, 9, 0, 0⟩, ⟨77, 2, false, 64,
      0xC0A80101, 5000, 1, none, 0, ⟨2, 0, false, false, 77, 0, 0, 0, 0, []⟩, 0, none, [], [], 128000000, 0, [], [], 0,
      none, 0, ⟨0, 0, 0, 0, 0⟩⟩, State.mkHandle 8 9 1, 2, 3, State.mkHandle 1 5 1, 540 * 65536 + 960, 0, 0,
      by decide +kernel⟩,
  ⟨(({ ((({ State.reset with mica := { State.reset.mica with mica := [(2, State.MicaHw.fresh)], dec := [] }, chn := { State.reset.chn with chans := [(9, ⟨8, [], [], 0, 2, true, 0, 0, 0, [], []⟩), (5, ⟨1, [0, 0x11100000], [], 0, 0, true, 0, 0, 0, [], []⟩)] }, now := 0 } : State).set (Reg.MICA.CHAN 2) (State.mkHandle 8 9 1) |>.set (Reg.MICA.CTRL_EN 2) 1 |>.set (Reg.MICA.STAT_RUN 2) 1 |>.set (Reg.CHN.ENT_HANDLE 5) (State.mkHandle 1 5 1) |>.set (Reg.CHN.ENT_STATE_STATE 5) 1 |>.set (Reg.CHN.ENT_RES_INGV 5) 1 |>.set (Reg.CHN.ENT_RES_INGENT 5) 7 |>.set (Reg.MICA.LAYARG 2 0) 3 |>.set (Reg.MICA.LAYARG 2 1) (State.mkHandle 1 5 1) |>.set (Reg.MICA.LAYARG 2 2) (540 * 65536 + 960) |>.set (Reg.MICA.OUTFMT 2) 0x11100000 |>.set Reg.DRCC.STAT_RUN 1 |>.set Reg.DRCC.CTRL_EN 1 |>.set Reg.DRCC.PLAN 1000000)) with jrp := { State.reset.jrp with sessions := [⟨77, 2, false, 64, 0xC0A80101, 5000, 1, none, 0, ⟨2, 0, false, false, 77, 0, 0, 0, 0, []⟩, 0, none, [], [], 128000000, 0, [], [], 0, none, 0, ⟨0, 0, 0, 0, 0⟩⟩], peers := [⟨2, 0xC0A80101, 0, 63, 0⟩] } }
      : State) |>.set Reg.CFG.STAT_STEP 9 |>.set (Reg.CHN.ENT_HANDLE 9) (State.mkHandle 8 9 1) |>.set
      (Reg.CHN.ENT_STATE_STATE 9) 1) |>.set (Reg.MICA.LAY_BOUND 2 3) 1 |>.set (State.layDec 2 3) 9 |>.set (Reg.DEC.VALID
      9) 1 |>.set (Reg.DEC.ENGINE 9) 2, ⟨64, 0xC0A80101, 5000, 14720, false, true, true, 77, 9, 0, 0⟩, ⟨77, 2, false, 64,
      0xC0A80101, 5000, 1, none, 0, ⟨2, 0, false, false, 77, 0, 0, 0, 0, []⟩, 0, none, [], [], 128000000, 0, [], [], 0,
      none, 0, ⟨0, 0, 0, 0, 0⟩⟩, State.mkHandle 8 9 1, 2, 3, State.mkHandle 1 5 1, 540 * 65536 + 960, by decide +kernel⟩,
  ⟨(({ (({ State.reset with chn := { State.reset.chn with chans := [(9, ⟨8, [], [], 0, 2, true, 0, 0, 0, [], []⟩)] } , mica := { State.reset.mica with mica := [(2, State.MicaHw.fresh)] } } : State)) with jrp := { State.reset.jrp with sessions := [⟨77, 2, false, 64, 0xC0A80101, 5000, 1, none, 0, ⟨2, 0, false, false, 77, 0, 0, 0, 0, []⟩, 0, none, [], [], 128000000, 0, [], [], 0, none, 0, ⟨0, 0, 0, 0, 0⟩⟩], peers := [⟨2, 0xC0A80101, 0, 63, 0⟩] } }
      : State) |>.set Reg.CFG.STAT_STEP 9 |>.set (Reg.CHN.ENT_HANDLE 9) (State.mkHandle 8 9 1) |>.set
      (Reg.CHN.ENT_STATE_STATE 9) 1 |>.set (Reg.MICA.CHAN 2) (State.mkHandle 8 9 1) |>.set (Reg.MICA.CTRL_EN 2) 1 |>.set
      (Reg.MICA.STAT_RUN 2) 1 |>.set (Reg.MICA.LAY_BOUND 2 3) 1 |>.set (State.layDec 2 3) 9 |>.set (Reg.DEC.VALID 9) 1
      |>.set (Reg.DEC.ENGINE 9) 2), ⟨64, 0xC0A80101, 5000, 14720, false, true, true, 77, 9, 0, 0⟩, ⟨77, 2, false, 64,
      0xC0A80101, 5000, 1, none, 0, ⟨2, 0, false, false, 77, 0, 0, 0, 0, []⟩, 0, none, [], [], 128000000, 0, [], [], 0,
      none, 0, ⟨0, 0, 0, 0, 0⟩⟩, State.mkHandle 8 9 1, 2, 3, 0, 0, 9, by decide +kernel⟩,
  ⟨(({ (({ State.reset with chn := { State.reset.chn with chans := [(9, ⟨8, [], [], 0, 2, true, 0, 0, 0, [], []⟩)] } , mica := { State.reset.mica with mica := [(2, State.MicaHw.fresh)] } } : State)) with jrp := { State.reset.jrp with sessions := [⟨77, 2, false, 64, 0xC0A80101, 5000, 1, none, 0, ⟨2, 0, false, false, 77, 0, 0, 0, 0, []⟩, 0, none, [], [], 128000000, 0, [], [], 0, none, 0, ⟨0, 0, 0, 0, 0⟩⟩], peers := [⟨2, 0xC0A80101, 0, 63, 0⟩] } }
      : State) |>.set Reg.CFG.STAT_STEP 9 |>.set (Reg.CHN.ENT_HANDLE 9) (State.mkHandle 8 9 1) |>.set
      (Reg.CHN.ENT_STATE_STATE 9) 1 |>.set (Reg.MICA.CHAN 2) (State.mkHandle 8 9 1) |>.set (Reg.MICA.CTRL_EN 2) 1 |>.set
      (Reg.MICA.STAT_RUN 2) 1), ⟨64, 0xC0A80101, 5000, 14720, false, true, true, 77, 9, 0, 0⟩, ⟨77, 2, false, 64,
      0xC0A80101, 5000, 1, none, 0, ⟨2, 0, false, false, 77, 0, 0, 0, 0, []⟩, 0, none, [], [], 128000000, 0, [], [], 0,
      none, 0, ⟨0, 0, 0, 0, 0⟩⟩, State.mkHandle 8 9 1, 2, 3, 0, 0, 3, 11, by decide +kernel⟩,
  ⟨(({ (State.reset) with jrp := { State.reset.jrp with sessions := [⟨77, 2, false, 64, 0xC0A80101, 5000, 1, none, 0, ⟨2, 0, false, false, 77, 0, 0, 0, 0, []⟩, 0, none, [], [], 128000000, 0, [], [], 0, none, 0, ⟨0, 0, 0, 0, 0⟩⟩], peers := [⟨2, 0xC0A80101, 0, 63, 0⟩] } }
      : State) |>.set Reg.CFG.STAT_STEP 9), ⟨64, 0xC0A80101, 5000, 14720, false, true, true, 77, 9, 0, 0⟩, ⟨77, 2, false,
      64, 0xC0A80101, 5000, 1, none, 0, ⟨2, 0, false, false, 77, 0, 0, 0, 0, []⟩, 0, none, [], [], 128000000, 0, [], [],
      0, none, 0, ⟨0, 0, 0, 0, 0⟩⟩, 7, 0, 2, by decide +kernel⟩,
  ⟨(({ (State.reset) with jrp := { State.reset.jrp with sessions := [⟨77, 2, false, 64, 0xC0A80101, 5000, 1, none, 0, ⟨2, 0, false, false, 77, 0, 0, 0, 0, []⟩, 0, none, [], [], 128000000, 0, [], [], 0, none, 0, ⟨0, 0, 0, 0, 0⟩⟩], peers := [⟨2, 0xC0A80101, 0, 63, 0⟩] } }
      : State) |>.set Reg.CFG.STAT_STEP 9), ⟨64, 0xC0A80101, 5000, 14720, false, true, true, 77, 9, 0, 0⟩, ⟨77, 2, false,
      64, 0xC0A80101, 5000, 1, none, 0, ⟨2, 0, false, false, 77, 0, 0, 0, 0, []⟩, 0, none, [], [], 128000000, 0, [], [],
      0, none, 0, ⟨0, 0, 0, 0, 0⟩⟩, 7, 0, 2, by decide +kernel⟩,
  ⟨(({ (({ State.reset with chn := { State.reset.chn with chans := [(9, ⟨8, [], [], 0, 2, true, 0, 0, 0, [], []⟩)] } , mica := { State.reset.mica with mica := [(2, State.MicaHw.fresh)] } } : State)) with jrp := { State.reset.jrp with sessions := [⟨77, 2, false, 64, 0xC0A80101, 5000, 1, none, 0, ⟨2, 0, false, false, 77, 0, 0, 0, 0, []⟩, 0, none, [], [], 128000000, 0, [], [], 0, none, 0, ⟨0, 0, 0, 0, 0⟩⟩], peers := [⟨2, 0xC0A80101, 0, 63, 0⟩] } }
      : State) |>.set Reg.CFG.STAT_STEP 9 |>.set (Reg.CHN.ENT_HANDLE 9) (State.mkHandle 8 9 1) |>.set
      (Reg.CHN.ENT_STATE_STATE 9) 1 |>.set (Reg.MICA.CHAN 2) (State.mkHandle 8 9 1) |>.set (Reg.MICA.CTRL_EN 2) 1 |>.set
      (Reg.MICA.STAT_RUN 2) 1), ⟨64, 0xC0A80101, 5000, 14720, false, true, true, 77, 9, 0, 0⟩, ⟨77, 2, false, 64,
      0xC0A80101, 5000, 1, none, 0, ⟨2, 0, false, false, 77, 0, 0, 0, 0, []⟩, 0, none, [], [], 128000000, 0, [], [], 0,
      none, 0, ⟨0, 0, 0, 0, 0⟩⟩, State.mkHandle 8 9 1, 2, 0x5000, by decide +kernel⟩,
  ⟨(({ (({ State.reset with chn := { State.reset.chn with chans := [(9, ⟨8, [], [], 0, 2, true, 0, 0, 0, [], []⟩)] } , mica := { State.reset.mica with mica := [(2, State.MicaHw.fresh)] } } : State)) with jrp := { State.reset.jrp with sessions := [⟨77, 2, false, 64, 0xC0A80101, 5000, 1, none, 0, ⟨2, 0, false, false, 77, 0, 0, 0, 0, []⟩, 0, none, [], [], 128000000, 0, [], [], 0, none, 0, ⟨0, 0, 0, 0, 0⟩⟩], peers := [⟨2, 0xC0A80101, 0, 63, 0⟩] } }
      : State) |>.set Reg.CFG.STAT_STEP 9 |>.set (Reg.CHN.ENT_HANDLE 9) (State.mkHandle 8 9 1) |>.set
      (Reg.CHN.ENT_STATE_STATE 9) 1 |>.set (Reg.MICA.CHAN 2) (State.mkHandle 8 9 1) |>.set (Reg.MICA.CTRL_EN 2) 1 |>.set
      (Reg.MICA.STAT_RUN 2) 1), ⟨64, 0xC0A80101, 5000, 14720, false, true, true, 77, 9, 0, 0⟩, ⟨77, 2, false, 64,
      0xC0A80101, 5000, 1, none, 0, ⟨2, 0, false, false, 77, 0, 0, 0, 0, []⟩, 0, none, [], [], 128000000, 0, [], [], 0,
      none, 0, ⟨0, 0, 0, 0, 0⟩⟩, State.mkHandle 8 9 1, 2, 0x5000, 3, by decide +kernel⟩,
  ⟨(({ (({ State.reset with chn := { State.reset.chn with chans := [(9, ⟨8, [], [], 0, 2, true, 0, 0, 0, [], []⟩)] } , mica := { State.reset.mica with mica := [(2, State.MicaHw.fresh)] } } : State)) with jrp := { State.reset.jrp with sessions := [⟨77, 2, false, 64, 0xC0A80101, 5000, 1, none, 0, ⟨2, 0, false, false, 77, 0, 0, 0, 0, []⟩, 0, none, [], [], 128000000, 0, [], [], 0, none, 0, ⟨0, 0, 0, 0, 0⟩⟩], peers := [⟨2, 0xC0A80101, 0, 63, 0⟩] } }
      : State) |>.set Reg.CFG.STAT_STEP 9 |>.set (Reg.CHN.ENT_HANDLE 9) (State.mkHandle 8 9 1) |>.set
      (Reg.CHN.ENT_STATE_STATE 9) 1 |>.set (Reg.MICA.CHAN 2) (State.mkHandle 8 9 1) |>.set (Reg.MICA.CTRL_EN 2) 1 |>.set
      (Reg.MICA.STAT_RUN 2) 1), ⟨64, 0xC0A80101, 5000, 14720, false, true, true, 77, 9, 0, 0⟩, ⟨77, 2, false, 64,
      0xC0A80101, 5000, 1, none, 0, ⟨2, 0, false, false, 77, 0, 0, 0, 0, []⟩, 0, none, [], [], 128000000, 0, [], [], 0,
      none, 0, ⟨0, 0, 0, 0, 0⟩⟩, State.mkHandle 8 9 1, 2, [(0x1C, 5), (4, 3)], false, by decide +kernel⟩,
  ⟨(({ (({ State.reset with chn := { State.reset.chn with chans := [(9, ⟨8, [], [], 0, 2, true, 0, 0, 0, [], []⟩)] } , mica := { State.reset.mica with mica := [(2, State.MicaHw.fresh)] } } : State)) with jrp := { State.reset.jrp with sessions := [⟨77, 2, false, 64, 0xC0A80101, 5000, 1, none, 0, ⟨2, 0, false, false, 77, 0, 0, 0, 0, []⟩, 0, none, [], [], 128000000, 0, [], [], 0, none, 0, ⟨0, 0, 0, 0, 0⟩⟩], peers := [⟨2, 0xC0A80101, 0, 63, 0⟩] } }
      : State) |>.set Reg.CFG.STAT_STEP 9 |>.set (Reg.CHN.ENT_HANDLE 9) (State.mkHandle 8 9 1) |>.set
      (Reg.CHN.ENT_STATE_STATE 9) 1 |>.set (Reg.MICA.CHAN 2) (State.mkHandle 8 9 1) |>.set (Reg.MICA.CTRL_EN 2) 1 |>.set
      (Reg.MICA.STAT_RUN 2) 1), ⟨64, 0xC0A80101, 5000, 14720, false, true, true, 77, 9, 0, 0⟩, ⟨77, 2, false, 64,
      0xC0A80101, 5000, 1, none, 0, ⟨2, 0, false, false, 77, 0, 0, 0, 0, []⟩, 0, none, [], [], 128000000, 0, [], [], 0,
      none, 0, ⟨0, 0, 0, 0, 0⟩⟩, State.mkHandle 8 9 1, 2, false, by decide +kernel⟩,
  ⟨(({ (({ State.reset with chn := { State.reset.chn with chans := [(9, ⟨8, [], [], 0, 2, true, 0, 0, 0, [], []⟩)] } , mica := { State.reset.mica with mica := [(2, State.MicaHw.fresh)] } } : State)) with jrp := { State.reset.jrp with sessions := [⟨77, 2, false, 64, 0xC0A80101, 5000, 1, none, 0, ⟨2, 0, false, false, 77, 0, 0, 0, 0, []⟩, 0, none, [], [], 128000000, 0, [], [], 0, none, 0, ⟨0, 0, 0, 0, 0⟩⟩], peers := [⟨2, 0xC0A80101, 0, 63, 0⟩] } }
      : State) |>.set Reg.CFG.STAT_STEP 9 |>.set (Reg.CHN.ENT_HANDLE 9) (State.mkHandle 8 9 1) |>.set
      (Reg.CHN.ENT_STATE_STATE 9) 1 |>.set (Reg.MICA.CHAN 2) (State.mkHandle 8 9 1) |>.set (Reg.MICA.CTRL_EN 2) 1 |>.set
      (Reg.MICA.STAT_RUN 2) 1) |>.set (Reg.MICA.LAY_Z 2 4) 63, ⟨64, 0xC0A80101, 5000, 14720, false, true, true, 77, 9, 0,
      0⟩, ⟨77, 2, false, 64, 0xC0A80101, 5000, 1, none, 0, ⟨2, 0, false, false, 77, 0, 0, 0, 0, []⟩, 0, none, [], [],
      128000000, 0, [], [], 0, none, 0, ⟨0, 0, 0, 0, 0⟩⟩, State.mkHandle 8 9 1, 2, by decide +kernel⟩,
  ⟨(({ (({ State.reset with chn := { State.reset.chn with chans := [(9, ⟨8, [], [], 0, 2, true, 0, 0, 0, [], []⟩)] } , mica := { State.reset.mica with mica := [(2, State.MicaHw.fresh)] } } : State)) with jrp := { State.reset.jrp with sessions := [⟨77, 2, false, 64, 0xC0A80101, 5000, 1, none, 0, ⟨2, 0, false, false, 77, 0, 0, 0, 0, []⟩, 0, none, [], [], 128000000, 0, [], [], 0, none, 0, ⟨0, 0, 0, 0, 0⟩⟩], peers := [⟨2, 0xC0A80101, 0, 63, 0⟩] } }
      : State) |>.set Reg.CFG.STAT_STEP 9 |>.set (Reg.CHN.ENT_HANDLE 9) (State.mkHandle 8 9 1) |>.set
      (Reg.CHN.ENT_STATE_STATE 9) 1 |>.set (Reg.MICA.CHAN 2) (State.mkHandle 8 9 1) |>.set (Reg.MICA.CTRL_EN 2) 1 |>.set
      (Reg.MICA.STAT_RUN 2) 1), ⟨64, 0xC0A80101, 5000, 14720, false, true, true, 77, 9, 0, 0⟩, ⟨77, 2, false, 64,
      0xC0A80101, 5000, 1, none, 0, ⟨2, 0, false, false, 77, 0, 0, 0, 0, []⟩, 0, none, [], [], 128000000, 0, [], [], 0,
      none, 0, ⟨0, 0, 0, 0, 0⟩⟩, State.mkHandle 8 9 1, 2, 0x4000, 77, by decide +kernel⟩,
  ⟨(({ (({ State.reset with chn := { State.reset.chn with chans := [(9, ⟨8, [], [], 0, 2, true, 0, 0, 0, [], []⟩)] } , mica := { State.reset.mica with mica := [(2, State.MicaHw.fresh)] } } : State)) with jrp := { State.reset.jrp with sessions := [⟨77, 2, false, 64, 0xC0A80101, 5000, 1, none, 0, ⟨2, 0, false, false, 77, 0, 0, 0, 0, []⟩, 0, none, [], [], 128000000, 0, [], [], 0, none, 0, ⟨0, 0, 0, 0, 0⟩⟩], peers := [⟨2, 0xC0A80101, 0, 63, 0⟩] } }
      : State) |>.set Reg.CFG.STAT_STEP 9 |>.set (Reg.CHN.ENT_HANDLE 9) (State.mkHandle 8 9 1) |>.set
      (Reg.CHN.ENT_STATE_STATE 9) 1 |>.set (Reg.MICA.CHAN 2) (State.mkHandle 8 9 1) |>.set (Reg.MICA.CTRL_EN 2) 1 |>.set
      (Reg.MICA.STAT_RUN 2) 1 |>.set (Reg.MICA.STAT_LOADPEND 2) 1), ⟨64, 0xC0A80101, 5000, 14720, false, true, true, 77,
      9, 0, 0⟩, ⟨77, 2, false, 64, 0xC0A80101, 5000, 1, none, 0, ⟨2, 0, false, false, 77, 0, 0, 0, 0, []⟩, 0, none, [],
      [], 128000000, 0, [], [], 0, none, 0, ⟨0, 0, 0, 0, 0⟩⟩, State.mkHandle 8 9 1, 2, 0x4000, 77, by decide +kernel⟩,
  ⟨(({ (({ State.reset with chn := { State.reset.chn with chans := [(9, ⟨7, [], [], 0, 3, true, 0, 0, 0, [], []⟩)] } } : State)) with jrp := { State.reset.jrp with sessions := [⟨77, 2, false, 64, 0xC0A80101, 5000, 1, none, 0, ⟨2, 0, false, false, 77, 0, 0, 0, 0, []⟩, 0, none, [], [], 128000000, 0, [], [], 0, none, 0, ⟨0, 0, 0, 0, 0⟩⟩], peers := [⟨2, 0xC0A80101, 0, 63, 0⟩] } }
      : State) |>.set Reg.CFG.STAT_STEP 9 |>.set (Reg.CHN.ENT_HANDLE 9) (State.mkHandle 7 9 1) |>.set
      (Reg.CHN.ENT_STATE_STATE 9) 1), ⟨64, 0xC0A80101, 5000, 14720, false, true, true, 77, 9, 0, 0⟩, ⟨77, 2, false, 64,
      0xC0A80101, 5000, 1, none, 0, ⟨2, 0, false, false, 77, 0, 0, 0, 0, []⟩, 0, none, [], [], 128000000, 0, [], [], 0,
      none, 0, ⟨0, 0, 0, 0, 0⟩⟩, State.mkHandle 7 9 1, 3, 0, 0, 9, 0, 0, by decide +kernel⟩,
  ⟨(({ (({ State.reset with chn := { State.reset.chn with chans := [(9, ⟨7, [], [], 0, 3, true, 0, 0, 0, [], []⟩)] } } : State)) with jrp := { State.reset.jrp with sessions := [⟨77, 2, false, 64, 0xC0A80101, 5000, 1, none, 0, ⟨2, 0, false, false, 77, 0, 0, 0, 0, []⟩, 0, none, [], [], 128000000, 0, [], [], 0, none, 0, ⟨0, 0, 0, 0, 0⟩⟩], peers := [⟨2, 0xC0A80101, 0, 63, 0⟩] } }
      : State) |>.set Reg.CFG.STAT_STEP 9 |>.set (Reg.CHN.ENT_HANDLE 9) (State.mkHandle 7 9 1) |>.set
      (Reg.CHN.ENT_STATE_STATE 9) 1), ⟨64, 0xC0A80101, 5000, 14720, false, true, true, 77, 9, 0, 0⟩, ⟨77, 2, false, 64,
      0xC0A80101, 5000, 1, none, 0, ⟨2, 0, false, false, 77, 0, 0, 0, 0, []⟩, 0, none, [], [], 128000000, 0, [], [], 0,
      none, 0, ⟨0, 0, 0, 0, 0⟩⟩, State.mkHandle 7 9 1, 3, 0, 0, (List.replicate 701 5), by decide +kernel⟩,
  ⟨(({ (({ State.reset with chn := { State.reset.chn with chans := [(9, ⟨7, [], [], 0, 3, true, 0, 0, 0, [], []⟩)] } } : State)) with jrp := { State.reset.jrp with sessions := [⟨77, 2, false, 64, 0xC0A80101, 5000, 1, none, 0, ⟨2, 0, false, false, 77, 0, 0, 0, 0, []⟩, 0, none, [], [], 128000000, 0, [], [], 0, none, 0, ⟨0, 0, 0, 0, 0⟩⟩], peers := [⟨2, 0xC0A80101, 0, 63, 0⟩] } }
      : State) |>.set Reg.CFG.STAT_STEP 9 |>.set (Reg.CHN.ENT_HANDLE 9) (State.mkHandle 7 9 1) |>.set
      (Reg.CHN.ENT_STATE_STATE 9) 1), ⟨64, 0xC0A80101, 5000, 14720, false, true, true, 77, 9, 0, 0⟩, ⟨77, 2, false, 64,
      0xC0A80101, 5000, 1, none, 0, ⟨2, 0, false, false, 77, 0, 0, 0, 0, []⟩, 0, none, [], [], 128000000, 0, [], [], 0,
      none, 0, ⟨0, 0, 0, 0, 0⟩⟩, State.mkHandle 7 9 1, 3, by decide +kernel⟩,
  ⟨(({ (({ State.reset with chn := { State.reset.chn with chans := [(9, ⟨7, [], [], 0, 3, true, 0, 0, 0, [], []⟩)] } } : State)) with jrp := { State.reset.jrp with sessions := [⟨77, 2, false, 64, 0xC0A80101, 5000, 1, none, 0, ⟨2, 0, false, false, 77, 0, 0, 0, 0, []⟩, 0, none, [], [], 128000000, 0, [], [], 0, none, 0, ⟨0, 0, 0, 0, 0⟩⟩], peers := [⟨2, 0xC0A80101, 0, 63, 0⟩] } }
      : State) |>.set Reg.CFG.STAT_STEP 9 |>.set (Reg.CHN.ENT_HANDLE 9) (State.mkHandle 7 9 1) |>.set
      (Reg.CHN.ENT_STATE_STATE 9) 1 |>.set (Reg.CNV.STAT_SWAPPEND 3) 1), ⟨64, 0xC0A80101, 5000, 14720, false, true, true,
      77, 9, 0, 0⟩, ⟨77, 2, false, 64, 0xC0A80101, 5000, 1, none, 0, ⟨2, 0, false, false, 77, 0, 0, 0, 0, []⟩, 0, none,
      [], [], 128000000, 0, [], [], 0, none, 0, ⟨0, 0, 0, 0, 0⟩⟩, State.mkHandle 7 9 1, 3, by decide +kernel⟩⟩

/-- States and operands that meet the hypotheses of each clause of `Obligations.JrpUpdateAndKeys`. -/
theorem witness_jrp_update_and_keys :
(∃ (s : State) (h : JrpHdr) (x : JrpSession) (b : List Byte) (rd : StageRead) (a : Nat), JrpReady h x (.updStage 1 [a] b
      rd) s ∧ s.trialOpen = false ∧ a % 4 ≠ 0 ∧ a < 2 ^ 32 ∧ b.length ≤ 1024) ∧
(∃ (s : State) (h : JrpHdr) (x : JrpSession) (b : List Byte) (rd : StageRead) (a : Nat), JrpReady h x (.updStage 1 [a] b
      rd) s ∧ (s.trialOpen = true ∨ a % 4 = 0) ∧ a < 2 ^ 32 ∧ b.length ≤ 1024) ∧
(∃ (s : State) (h : JrpHdr) (x : JrpSession) (b : List Byte) (rd : StageRead) (a o n q j : Nat) (w : Bool), JrpReady h x
      (.updStage 2 [a, o, n, q] b rd) s ∧ a < 2 ^ 32 ∧ o < 2 ^ 32 ∧ q < 2 ^ 31 ∧ b.length ≤ 1024 ∧ n = b.length ∧ s.get
      Reg.UPD.STAT_STATE = 1 ∧ (s.upd.fw && (!s.upd.cfg || bit a 0)) = w ∧ s.upd.fwSlot ≤ 1 ∧ s.upd.cfgSlot ≤ 1 ∧ o + n ≤
      s.targetSize w ∧ j < n) ∧
(∃ (s : State) (h : JrpHdr) (x : JrpSession) (b : List Byte) (rd : StageRead) (a o n q : Nat), JrpReady h x (.updStage 2
      [a, o, n, q] b rd) s ∧ a < 2 ^ 32 ∧ o < 2 ^ 32 ∧ n < 2 ^ 32 ∧ q < 2 ^ 31 ∧ b.length ≤ 1024 ∧ (s.get
      Reg.UPD.STAT_STATE ≠ 1 ∨ s.targetSize (s.upd.fw && (!s.upd.cfg || bit a 0)) < o + n ∨ 4096 < n)) ∧
(∃ (s : State) (h : JrpHdr) (x : JrpSession) (args : List Nat) (b : List Byte) (rd : StageRead), JrpReady h x (.updStage 3
      args b rd) s ∧ args.length ≤ 4 ∧ b.length ≤ 1024 ∧ s.get Reg.UPD.STAT_STATE = 1 ∧ s.verifyCode rd = 0 ∧ x.notes = []
      ∧ x.gap = 0) ∧
(∃ (s : State) (h : JrpHdr) (x : JrpSession) (args : List Nat) (b : List Byte) (rd : StageRead) (c : Nat), JrpReady h x
      (.updStage 3 args b rd) s ∧ args.length ≤ 4 ∧ b.length ≤ 1024 ∧ s.get Reg.UPD.STAT_STATE = 1 ∧ c = s.verifyCode rd ∧
      c ≠ 0 ∧ x.notes = [] ∧ x.gap = 0) ∧
(∃ (s : State) (h : JrpHdr) (x : JrpSession) (args : List Nat) (b : List Byte) (rd : StageRead), JrpReady h x (.updStage 3
      args b rd) s ∧ args.length ≤ 4 ∧ b.length ≤ 1024 ∧ s.get Reg.UPD.STAT_STATE ≠ 1) ∧
(∃ (s : State) (h : JrpHdr) (x : JrpSession) (args : List Nat) (b : List Byte) (rd : StageRead), JrpReady h x (.updStage 6
      args b rd) s ∧ args.length ≤ 4 ∧ b.length ≤ 1024) ∧
(∃ (s : State) (h : JrpHdr) (x : JrpSession) (args : List Nat) (b : List Byte) (rd : StageRead) (op : Nat), JrpReady h x
      (.updStage op args b rd) s ∧ (([1, 2, 3, 6]).contains op = false ∨ 1024 < b.length)) ∧
(∃ (s : State) (h : JrpHdr) (x : JrpSession) (g : BootHdr) (b : Bundle), JrpReady h x (.updConfirm) s ∧ s.upd.hdr = 0 ∧
      s.flash.hdrA = .good g ∧ s.upd.running = some b ∧ g.trial = true ∧ g.confirm = 0xFFFFFFFF ∧ g.valid = 0xFFFFFFFF) ∧
(∃ (s : State) (h : JrpHdr) (x : JrpSession), JrpReady h x (.updConfirm) s ∧ s.trialOpen = false) ∧
(∃ (s : State) (h : JrpHdr) (x : JrpSession) (mode win mx : Nat) (env : StartEnv) (g : BootHdr), JrpReady h x (.updCommit
      mode win mx env) s ∧ mode < 2 ^ 32 ∧ 60 ≤ win ∧ win ≤ 86400 ∧ 1 ≤ mx ∧ mx ≤ 8 ∧ s.get Reg.UPD.STAT_STATE = 2 ∧
      s.windowOpen = true ∧ s.upd.hdr = 0 ∧ s.flash.hdrA = .good g ∧ g.trial = false ∧ s.flash.fwA.head = .blank ∧
      s.flash.fwB.head = .blank ∧ s.fuses.idgen = true ∧ s.upd.fw = true) ∧
(∃ (s : State) (h : JrpHdr) (x : JrpSession) (mode win mx : Nat) (env : StartEnv) (c : Nat), JrpReady h x (.updCommit mode
      win mx env) s ∧ mode < 2 ^ 32 ∧ win < 2 ^ 32 ∧ mx < 2 ^ 32 ∧ s.upd.due = none ∧ c = (s.putArgs Reg.UPD.ARG [mode,
      win, mx]).commitCode ∧ c ≠ 0) ∧
(∃ (s : State) (h : JrpHdr) (x : JrpSession) (k : Nat), JrpReady h x (.lcChange k) s ∧ (s.get Reg.KEY.STAT_LCSTATE = 1 ∧ k
      = 2 ∨ s.get Reg.KEY.STAT_LCSTATE = 2 ∧ k = 3 ∨ s.get Reg.KEY.STAT_LCSTATE = 3 ∧ k = 2)) ∧
(∃ (s : State) (h : JrpHdr) (x : JrpSession) (k : Nat), JrpReady h x (.lcChange k) s ∧ k < 16 ∧ s.get Reg.KEY.STAT_LCSTATE
      = 3 ∧ k = 4) ∧
(∃ (s : State) (h : JrpHdr) (x : JrpSession) (k : Nat), JrpReady h x (.lcChange k) s ∧ s.get Reg.KEY.STAT_LCSTATE = 0 ∧ k
      = 1 ∧ s.ownerFlags ≠ 0 ∧ s.flash.blob.cert ≠ []) ∧
(∃ (s : State) (h : JrpHdr) (x : JrpSession) (k : Nat), JrpReady h x (.lcChange k) s ∧ s.lcAllowed k = false) ∧
(∃ (s : State) (h : JrpHdr) (x : JrpSession) (msg : List Byte) (sg : Option Nat), JrpReady h x (.keyMsg msg sg) s ∧
      s.blobRoom = true ∧ s.keyMsgCode (s.putKeyMsg msg).keyMsg sg = 0) ∧
(∃ (s : State) (h : JrpHdr) (x : JrpSession) (msg : List Byte) (sg : Option Nat) (c : Nat), JrpReady h x (.keyMsg msg sg)
      s ∧ (c = (if s.blobRoom = false then 5 else s.keyMsgCode (s.putKeyMsg msg).keyMsg sg)) ∧ c ≠ 0) ∧
(∃ (s : State) (h : JrpHdr) (x : JrpSession), JrpReady h x (.xchg) s ∧ s.get Reg.TWIN.CTRL_EN = 1 ∧ s.get
      Reg.TWIN.STAT_STATE = 3) ∧
(∃ (s : State) (h : JrpHdr) (x : JrpSession), JrpReady h x (.xchg) s ∧ s.get Reg.TWIN.STAT_STATE ≠ 3) :=
  ⟨⟨(({ (State.reset) with jrp := { State.reset.jrp with sessions := [⟨77, 2, false, 64, 0xC0A80101, 5000, 1, none, 0, ⟨2, 0, false, false, 77, 0, 0, 0, 0, []⟩, 0, none, [], [], 128000000, 0, [], [], 0, none, 0, ⟨0, 0, 0, 0, 0⟩⟩], peers := [⟨2, 0xC0A80101, 0, 63, 0⟩] } }
      : State) |>.set Reg.CFG.STAT_STEP 9), ⟨64, 0xC0A80101, 5000, 14720, false, true, true, 77, 9, 0, 0⟩, ⟨77, 2, false,
      64, 0xC0A80101, 5000, 1, none, 0, ⟨2, 0, false, false, 77, 0, 0, 0, 0, []⟩, 0, none, [], [], 128000000, 0, [], [],
      0, none, 0, ⟨0, 0, 0, 0, 0⟩⟩, [], ⟨none, none⟩, 3, by decide +kernel⟩,
  ⟨(({ (State.reset) with jrp := { State.reset.jrp with sessions := [⟨77, 2, false, 64, 0xC0A80101, 5000, 1, none, 0, ⟨2, 0, false, false, 77, 0, 0, 0, 0, []⟩, 0, none, [], [], 128000000, 0, [], [], 0, none, 0, ⟨0, 0, 0, 0, 0⟩⟩], peers := [⟨2, 0xC0A80101, 0, 63, 0⟩] } }
      : State) |>.set Reg.CFG.STAT_STEP 9), ⟨64, 0xC0A80101, 5000, 14720, false, true, true, 77, 9, 0, 0⟩, ⟨77, 2, false,
      64, 0xC0A80101, 5000, 1, none, 0, ⟨2, 0, false, false, 77, 0, 0, 0, 0, []⟩, 0, none, [], [], 128000000, 0, [], [],
      0, none, 0, ⟨0, 0, 0, 0, 0⟩⟩, [], ⟨none, none⟩, 0, by decide +kernel⟩,
  ⟨(({ (({ State.reset with upd := { State.reset.upd with fw := true, fwSlot := 0 }, flash := { State.reset.flash with minsv := (0, 0) } } : State)) with jrp := { State.reset.jrp with sessions := [⟨77, 2, false, 64, 0xC0A80101, 5000, 1, none, 0, ⟨2, 0, false, false, 77, 0, 0, 0, 0, []⟩, 0, none, [], [], 128000000, 0, [], [], 0, none, 0, ⟨0, 0, 0, 0, 0⟩⟩], peers := [⟨2, 0xC0A80101, 0, 63, 0⟩] } }
      : State) |>.set Reg.CFG.STAT_STEP 9 |>.set Reg.UPD.STAT_STATE 1), ⟨64, 0xC0A80101, 5000, 14720, false, true, true,
      77, 9, 0, 0⟩, ⟨77, 2, false, 64, 0xC0A80101, 5000, 1, none, 0, ⟨2, 0, false, false, 77, 0, 0, 0, 0, []⟩, 0, none,
      [], [], 128000000, 0, [], [], 0, none, 0, ⟨0, 0, 0, 0, 0⟩⟩, [1, 2, 3, 4, 5], ⟨none, none⟩, 0, 0x40, 5, 0, 4, true,
      by decide +kernel⟩,
  ⟨(({ (State.reset) with jrp := { State.reset.jrp with sessions := [⟨77, 2, false, 64, 0xC0A80101, 5000, 1, none, 0, ⟨2, 0, false, false, 77, 0, 0, 0, 0, []⟩, 0, none, [], [], 128000000, 0, [], [], 0, none, 0, ⟨0, 0, 0, 0, 0⟩⟩], peers := [⟨2, 0xC0A80101, 0, 63, 0⟩] } }
      : State) |>.set Reg.CFG.STAT_STEP 9), ⟨64, 0xC0A80101, 5000, 14720, false, true, true, 77, 9, 0, 0⟩, ⟨77, 2, false,
      64, 0xC0A80101, 5000, 1, none, 0, ⟨2, 0, false, false, 77, 0, 0, 0, 0, []⟩, 0, none, [], [], 128000000, 0, [], [],
      0, none, 0, ⟨0, 0, 0, 0, 0⟩⟩, [], ⟨none, none⟩, 0, 0x40, 5, 0, by decide +kernel⟩,
  ⟨(({ (State.reset) with jrp := { State.reset.jrp with sessions := [⟨77, 2, false, 64, 0xC0A80101, 5000, 1, none, 0, ⟨2, 0, false, false, 77, 0, 0, 0, 0, []⟩, 0, none, [], [], 128000000, 0, [], [], 0, none, 0, ⟨0, 0, 0, 0, 0⟩⟩], peers := [⟨2, 0xC0A80101, 0, 63, 0⟩] } }
      : State) |>.set Reg.CFG.STAT_STEP 9 |>.set Reg.UPD.STAT_STATE 1), ⟨64, 0xC0A80101, 5000, 14720, false, true, true,
      77, 9, 0, 0⟩, ⟨77, 2, false, 64, 0xC0A80101, 5000, 1, none, 0, ⟨2, 0, false, false, 77, 0, 0, 0, 0, []⟩, 0, none,
      [], [], 128000000, 0, [], [], 0, none, 0, ⟨0, 0, 0, 0, 0⟩⟩, [], [], ⟨none, none⟩, by decide +kernel⟩,
  ⟨(({ (({ State.reset with upd := { State.reset.upd with fw := true }, flash := { State.reset.flash with minsv := (0, 0) } } : State)) with jrp := { State.reset.jrp with sessions := [⟨77, 2, false, 64, 0xC0A80101, 5000, 1, none, 0, ⟨2, 0, false, false, 77, 0, 0, 0, 0, []⟩, 0, none, [], [], 128000000, 0, [], [], 0, none, 0, ⟨0, 0, 0, 0, 0⟩⟩], peers := [⟨2, 0xC0A80101, 0, 63, 0⟩] } }
      : State) |>.set Reg.CFG.STAT_STEP 9 |>.set Reg.UPD.STAT_STATE 1), ⟨64, 0xC0A80101, 5000, 14720, false, true, true,
      77, 9, 0, 0⟩, ⟨77, 2, false, 64, 0xC0A80101, 5000, 1, none, 0, ⟨2, 0, false, false, 77, 0, 0, 0, 0, []⟩, 0, none,
      [], [], 128000000, 0, [], [], 0, none, 0, ⟨0, 0, 0, 0, 0⟩⟩, [], [], ⟨none, none⟩, 30, by decide +kernel⟩,
  ⟨(({ (State.reset) with jrp := { State.reset.jrp with sessions := [⟨77, 2, false, 64, 0xC0A80101, 5000, 1, none, 0, ⟨2, 0, false, false, 77, 0, 0, 0, 0, []⟩, 0, none, [], [], 128000000, 0, [], [], 0, none, 0, ⟨0, 0, 0, 0, 0⟩⟩], peers := [⟨2, 0xC0A80101, 0, 63, 0⟩] } }
      : State) |>.set Reg.CFG.STAT_STEP 9), ⟨64, 0xC0A80101, 5000, 14720, false, true, true, 77, 9, 0, 0⟩, ⟨77, 2, false,
      64, 0xC0A80101, 5000, 1, none, 0, ⟨2, 0, false, false, 77, 0, 0, 0, 0, []⟩, 0, none, [], [], 128000000, 0, [], [],
      0, none, 0, ⟨0, 0, 0, 0, 0⟩⟩, [], [], ⟨none, none⟩, by decide +kernel⟩,
  ⟨(({ (State.reset) with jrp := { State.reset.jrp with sessions := [⟨77, 2, false, 64, 0xC0A80101, 5000, 1, none, 0, ⟨2, 0, false, false, 77, 0, 0, 0, 0, []⟩, 0, none, [], [], 128000000, 0, [], [], 0, none, 0, ⟨0, 0, 0, 0, 0⟩⟩], peers := [⟨2, 0xC0A80101, 0, 63, 0⟩] } }
      : State) |>.set Reg.CFG.STAT_STEP 9 |>.set Reg.UPD.STAT_STATE 1), ⟨64, 0xC0A80101, 5000, 14720, false, true, true,
      77, 9, 0, 0⟩, ⟨77, 2, false, 64, 0xC0A80101, 5000, 1, none, 0, ⟨2, 0, false, false, 77, 0, 0, 0, 0, []⟩, 0, none,
      [], [], 128000000, 0, [], [], 0, none, 0, ⟨0, 0, 0, 0, 0⟩⟩, [], [], ⟨none, none⟩, by decide +kernel⟩,
  ⟨(({ (State.reset) with jrp := { State.reset.jrp with sessions := [⟨77, 2, false, 64, 0xC0A80101, 5000, 1, none, 0, ⟨2, 0, false, false, 77, 0, 0, 0, 0, []⟩, 0, none, [], [], 128000000, 0, [], [], 0, none, 0, ⟨0, 0, 0, 0, 0⟩⟩], peers := [⟨2, 0xC0A80101, 0, 63, 0⟩] } }
      : State) |>.set Reg.CFG.STAT_STEP 9), ⟨64, 0xC0A80101, 5000, 14720, false, true, true, 77, 9, 0, 0⟩, ⟨77, 2, false,
      64, 0xC0A80101, 5000, 1, none, 0, ⟨2, 0, false, false, 77, 0, 0, 0, 0, []⟩, 0, none, [], [], 128000000, 0, [], [],
      0, none, 0, ⟨0, 0, 0, 0, 0⟩⟩, [], [], ⟨none, none⟩, 4, by decide +kernel⟩,
  ⟨(({ (({ State.reset with upd := { State.reset.upd with hdr := 0, running := some ⟨1, 9, 0, true, [], [], []⟩ }, flash := { State.reset.flash with hdrA := .good ⟨3, [], 0, 0, 0, true, 60, 3, 0xFFFFFFFF, 0xFFFFFFFF, 0xFFFFFFFF⟩ } } : State)) with jrp := { State.reset.jrp with sessions := [⟨77, 2, false, 64, 0xC0A80101, 5000, 1, none, 0, ⟨2, 0, false, false, 77, 0, 0, 0, 0, []⟩, 0, none, [], [], 128000000, 0, [], [], 0, none, 0, ⟨0, 0, 0, 0, 0⟩⟩], peers := [⟨2, 0xC0A80101, 0, 63, 0⟩] } }
      : State) |>.set Reg.CFG.STAT_STEP 9), ⟨64, 0xC0A80101, 5000, 14720, false, true, true, 77, 9, 0, 0⟩, ⟨77, 2, false,
      64, 0xC0A80101, 5000, 1, none, 0, ⟨2, 0, false, false, 77, 0, 0, 0, 0, []⟩, 0, none, [], [], 128000000, 0, [], [],
      0, none, 0, ⟨0, 0, 0, 0, 0⟩⟩, ⟨3, [], 0, 0, 0, true, 60, 3, 0xFFFFFFFF, 0xFFFFFFFF, 0xFFFFFFFF⟩, ⟨1, 9, 0, true, [],
      [], []⟩, by decide +kernel⟩,
  ⟨(({ (State.reset) with jrp := { State.reset.jrp with sessions := [⟨77, 2, false, 64, 0xC0A80101, 5000, 1, none, 0, ⟨2, 0, false, false, 77, 0, 0, 0, 0, []⟩, 0, none, [], [], 128000000, 0, [], [], 0, none, 0, ⟨0, 0, 0, 0, 0⟩⟩], peers := [⟨2, 0xC0A80101, 0, 63, 0⟩] } }
      : State) |>.set Reg.CFG.STAT_STEP 9), ⟨64, 0xC0A80101, 5000, 14720, false, true, true, 77, 9, 0, 0⟩, ⟨77, 2, false,
      64, 0xC0A80101, 5000, 1, none, 0, ⟨2, 0, false, false, 77, 0, 0, 0, 0, []⟩, 0, none, [], [], 128000000, 0, [], [],
      0, none, 0, ⟨0, 0, 0, 0, 0⟩⟩, by decide +kernel⟩,
  ⟨(({ (({ (({ ({ State.reset with upd := { State.reset.upd with fw := true, hdr := 0 }, flash := { State.reset.flash with hdrA := .good ⟨3, [], 0, 0, 0, false, 60, 3, 0xFFFFFFFF, 0xFFFFFFFF, 0xFFFFFFFF⟩ } } : State) with fuses := { State.reset.fuses with idgen := true } } : State)) with key := { State.reset.key with window := some 60000000000 } } : State)) with jrp := { State.reset.jrp with sessions := [⟨77, 2, true, 64, 0xC0A80101, 5000, 1, none, 0, ⟨2, 0, false, false, 77, 0, 0, 0, 0, []⟩, 0, none, [], [], 128000000, 0, [], [], 0, none, 0, ⟨0, 0, 0, 0, 0⟩⟩], peers := [⟨2, 0xC0A80101, 0, 63, 0⟩] } }
      : State) |>.set Reg.CFG.STAT_STEP 9 |>.set Reg.KEY.STAT_WINDOW 1 |>.set Reg.UPD.STAT_STATE 2), ⟨64, 0xC0A80101,
      5000, 14720, false, true, true, 77, 9, 0, 0⟩, ⟨77, 2, true, 64, 0xC0A80101, 5000, 1, none, 0, ⟨2, 0, false, false,
      77, 0, 0, 0, 0, []⟩, 0, none, [], [], 128000000, 0, [], [], 0, none, 0, ⟨0, 0, 0, 0, 0⟩⟩, 0, 60, 3, ⟨none, none,
      none⟩, ⟨3, [], 0, 0, 0, false, 60, 3, 0xFFFFFFFF, 0xFFFFFFFF, 0xFFFFFFFF⟩, by decide +kernel⟩,
  ⟨(({ (({ (State.reset) with key := { State.reset.key with window := some 60000000000 } } : State)) with jrp := { State.reset.jrp with sessions := [⟨77, 2, true, 64, 0xC0A80101, 5000, 1, none, 0, ⟨2, 0, false, false, 77, 0, 0, 0, 0, []⟩, 0, none, [], [], 128000000, 0, [], [], 0, none, 0, ⟨0, 0, 0, 0, 0⟩⟩], peers := [⟨2, 0xC0A80101, 0, 63, 0⟩] } }
      : State) |>.set Reg.CFG.STAT_STEP 9 |>.set Reg.KEY.STAT_WINDOW 1), ⟨64, 0xC0A80101, 5000, 14720, false, true, true,
      77, 9, 0, 0⟩, ⟨77, 2, true, 64, 0xC0A80101, 5000, 1, none, 0, ⟨2, 0, false, false, 77, 0, 0, 0, 0, []⟩, 0, none, [],
      [], 128000000, 0, [], [], 0, none, 0, ⟨0, 0, 0, 0, 0⟩⟩, 0, 60, 3, ⟨none, none, none⟩, 11, by decide +kernel⟩,
  ⟨(({ (({ (State.reset) with key := { State.reset.key with window := some 60000000000 } } : State)) with jrp := { State.reset.jrp with sessions := [⟨77, 2, true, 64, 0xC0A80101, 5000, 1, none, 0, ⟨2, 0, false, false, 77, 0, 0, 0, 0, []⟩, 0, none, [], [], 128000000, 0, [], [], 0, none, 0, ⟨0, 0, 0, 0, 0⟩⟩], peers := [⟨2, 0xC0A80101, 0, 63, 0⟩] } }
      : State) |>.set Reg.CFG.STAT_STEP 9 |>.set Reg.KEY.STAT_WINDOW 1 |>.set Reg.KEY.STAT_LCSTATE 1), ⟨64, 0xC0A80101,
      5000, 14720, false, true, true, 77, 9, 0, 0⟩, ⟨77, 2, true, 64, 0xC0A80101, 5000, 1, none, 0, ⟨2, 0, false, false,
      77, 0, 0, 0, 0, []⟩, 0, none, [], [], 128000000, 0, [], [], 0, none, 0, ⟨0, 0, 0, 0, 0⟩⟩, 2, by decide +kernel⟩,
  ⟨(({ (({ (State.reset) with key := { State.reset.key with window := some 60000000000 } } : State)) with jrp := { State.reset.jrp with sessions := [⟨77, 2, true, 64, 0xC0A80101, 5000, 1, none, 0, ⟨2, 0, false, false, 77, 0, 0, 0, 0, []⟩, 0, none, [], [], 128000000, 0, [], [], 0, none, 0, ⟨0, 0, 0, 0, 0⟩⟩], peers := [⟨2, 0xC0A80101, 0, 63, 0⟩] } }
      : State) |>.set Reg.CFG.STAT_STEP 9 |>.set Reg.KEY.STAT_WINDOW 1 |>.set Reg.KEY.STAT_LCSTATE 3), ⟨64, 0xC0A80101,
      5000, 14720, false, true, true, 77, 9, 0, 0⟩, ⟨77, 2, true, 64, 0xC0A80101, 5000, 1, none, 0, ⟨2, 0, false, false,
      77, 0, 0, 0, 0, []⟩, 0, none, [], [], 128000000, 0, [], [], 0, none, 0, ⟨0, 0, 0, 0, 0⟩⟩, 4, by decide +kernel⟩,
  ⟨(({ (({ (({ State.reset with flash := { State.reset.flash with blob := { State.reset.flash.blob with cert := [5], owners := [⟨0, [some 5, none, none, none], 7, 0⟩] } } } : State)) with key := { State.reset.key with window := some 60000000000 } } : State)) with jrp := { State.reset.jrp with sessions := [⟨77, 2, true, 64, 0xC0A80101, 5000, 1, none, 0, ⟨2, 0, false, false, 77, 0, 0, 0, 0, []⟩, 0, none, [], [], 128000000, 0, [], [], 0, none, 0, ⟨0, 0, 0, 0, 0⟩⟩], peers := [⟨2, 0xC0A80101, 0, 63, 0⟩] } }
      : State) |>.set Reg.CFG.STAT_STEP 9 |>.set Reg.KEY.STAT_WINDOW 1), ⟨64, 0xC0A80101, 5000, 14720, false, true, true,
      77, 9, 0, 0⟩, ⟨77, 2, true, 64, 0xC0A80101, 5000, 1, none, 0, ⟨2, 0, false, false, 77, 0, 0, 0, 0, []⟩, 0, none, [],
      [], 128000000, 0, [], [], 0, none, 0, ⟨0, 0, 0, 0, 0⟩⟩, 1, by decide +kernel⟩,
  ⟨(({ (({ (State.reset) with key := { State.reset.key with window := some 60000000000 } } : State)) with jrp := { State.reset.jrp with sessions := [⟨77, 2, true, 64, 0xC0A80101, 5000, 1, none, 0, ⟨2, 0, false, false, 77, 0, 0, 0, 0, []⟩, 0, none, [], [], 128000000, 0, [], [], 0, none, 0, ⟨0, 0, 0, 0, 0⟩⟩], peers := [⟨2, 0xC0A80101, 0, 63, 0⟩] } }
      : State) |>.set Reg.CFG.STAT_STEP 9 |>.set Reg.KEY.STAT_WINDOW 1 |>.set Reg.KEY.STAT_LCSTATE 1), ⟨64, 0xC0A80101,
      5000, 14720, false, true, true, 77, 9, 0, 0⟩, ⟨77, 2, true, 64, 0xC0A80101, 5000, 1, none, 0, ⟨2, 0, false, false,
      77, 0, 0, 0, 0, []⟩, 0, none, [], [], 128000000, 0, [], [], 0, none, 0, ⟨0, 0, 0, 0, 0⟩⟩, 4, by decide +kernel⟩,
  ⟨(({ (({ (State.reset) with key := { State.reset.key with window := some 60000000000 } } : State)) with jrp := { State.reset.jrp with sessions := [⟨77, 2, true, 64, 0xC0A80101, 5000, 1, none, 0, ⟨2, 0, false, false, 77, 0, 0, 0, 0, []⟩, 0, none, [], [], 128000000, 0, [], [], 0, none, 0, ⟨0, 0, 0, 0, 0⟩⟩], peers := [⟨2, 0xC0A80101, 0, 63, 0⟩] } }
      : State) |>.set Reg.CFG.STAT_STEP 9 |>.set Reg.KEY.STAT_WINDOW 1), ⟨64, 0xC0A80101, 5000, 14720, false, true, true,
      77, 9, 0, 0⟩, ⟨77, 2, true, 64, 0xC0A80101, 5000, 1, none, 0, ⟨2, 0, false, false, 77, 0, 0, 0, 0, []⟩, 0, none, [],
      [], 128000000, 0, [], [], 0, none, 0, ⟨0, 0, 0, 0, 0⟩⟩, ([0x53, 0x4D, 0x59, 0x4B, 1, 0, 0, 0, 0, 0, 0, 0, 0, 0, 0,
      0, 7] : List Byte), none, by decide +kernel⟩,
  ⟨(({ (({ (State.reset) with key := { State.reset.key with window := some 60000000000 } } : State)) with jrp := { State.reset.jrp with sessions := [⟨77, 2, true, 64, 0xC0A80101, 5000, 1, none, 0, ⟨2, 0, false, false, 77, 0, 0, 0, 0, []⟩, 0, none, [], [], 128000000, 0, [], [], 0, none, 0, ⟨0, 0, 0, 0, 0⟩⟩], peers := [⟨2, 0xC0A80101, 0, 63, 0⟩] } }
      : State) |>.set Reg.CFG.STAT_STEP 9 |>.set Reg.KEY.STAT_WINDOW 1), ⟨64, 0xC0A80101, 5000, 14720, false, true, true,
      77, 9, 0, 0⟩, ⟨77, 2, true, 64, 0xC0A80101, 5000, 1, none, 0, ⟨2, 0, false, false, 77, 0, 0, 0, 0, []⟩, 0, none, [],
      [], 128000000, 0, [], [], 0, none, 0, ⟨0, 0, 0, 0, 0⟩⟩, [1, 2], none, 30, by decide +kernel⟩,
  ⟨(({ (State.reset) with jrp := { State.reset.jrp with sessions := [⟨77, 2, false, 64, 0xC0A80101, 5000, 1, none, 0, ⟨2, 0, false, false, 77, 0, 0, 0, 0, []⟩, 0, none, [], [], 128000000, 0, [], [], 0, none, 0, ⟨0, 0, 0, 0, 0⟩⟩], peers := [⟨2, 0xC0A80101, 0, 63, 0⟩] } }
      : State) |>.set Reg.CFG.STAT_STEP 9 |>.set Reg.TWIN.CTRL_EN 1 |>.set Reg.TWIN.STAT_STATE 3 |>.set
      Reg.TWIN.CARRIED_OWN 257), ⟨64, 0xC0A80101, 5000, 14720, false, true, true, 77, 9, 0, 0⟩, ⟨77, 2, false, 64,
      0xC0A80101, 5000, 1, none, 0, ⟨2, 0, false, false, 77, 0, 0, 0, 0, []⟩, 0, none, [], [], 128000000, 0, [], [], 0,
      none, 0, ⟨0, 0, 0, 0, 0⟩⟩, by decide +kernel⟩,
  ⟨(({ (State.reset) with jrp := { State.reset.jrp with sessions := [⟨77, 2, false, 64, 0xC0A80101, 5000, 1, none, 0, ⟨2, 0, false, false, 77, 0, 0, 0, 0, []⟩, 0, none, [], [], 128000000, 0, [], [], 0, none, 0, ⟨0, 0, 0, 0, 0⟩⟩], peers := [⟨2, 0xC0A80101, 0, 63, 0⟩] } }
      : State) |>.set Reg.CFG.STAT_STEP 9), ⟨64, 0xC0A80101, 5000, 14720, false, true, true, 77, 9, 0, 0⟩, ⟨77, 2, false,
      64, 0xC0A80101, 5000, 1, none, 0, ⟨2, 0, false, false, 77, 0, 0, 0, 0, []⟩, 0, none, [], [], 128000000, 0, [], [],
      0, none, 0, ⟨0, 0, 0, 0, 0⟩⟩, by decide +kernel⟩⟩

/-- States and operands that meet the hypotheses of each clause of `Obligations.LoadsWaitForTheSwap`. -/
theorem witness_loads_wait_for_the_swap :
(∃ (s : State) (m n : Nat), Quiet m s ∧ n < 32 ∧ s.get (Reg.CNV.STAT_SWAPPEND n) = 1) ∧
(∃ (s : State) (m n k : Nat) (data : Word), n < 32 ∧ s.get (Reg.CNV.STAT_SWAPPEND n) = 1 ∧ s.landing = [⟨m, (Reg.CNV.MATC
      n k).addr, data, false, false, false, [], false⟩] ∧ k < 9) ∧
(∃ (s : State) (m n k : Nat) (data : Word), n < 32 ∧ s.get (Reg.CNV.STAT_SWAPPEND n) = 1 ∧ s.landing = [⟨m,
      (Reg.CNV.MATOFF n k).addr, data, false, false, false, [], false⟩] ∧ k < 6) ∧
(∃ (s : State) (m n : Nat) (data : Word), n < 32 ∧ s.get (Reg.CNV.STAT_SWAPPEND n) = 1 ∧ s.landing = [⟨m,
      (Reg.CNV.NEXTPROC_FILTER n).addr, data, false, false, false, [], false⟩]) ∧
(∃ (s : State) (m n : Nat), Quiet m s ∧ n < 32 ∧ s.get (Reg.CNV.STAT_SWAPPEND n) = 1) :=
  ⟨⟨State.reset.set (Reg.CNV.STAT_SWAPPEND 3) 1, 0, 3, by decide +kernel⟩,
  ⟨{ State.reset.set (Reg.CNV.STAT_SWAPPEND 3) 1 with landing := [⟨0, (Reg.CNV.MATC 3 8).addr, 7, false, false, false, [], false⟩] },
      0, 3, 8, 7, by decide +kernel⟩,
  ⟨{ State.reset.set (Reg.CNV.STAT_SWAPPEND 3) 1 with landing := [⟨0, (Reg.CNV.MATOFF 3 5).addr, 7, false, false, false, [], false⟩] },
      0, 3, 5, 7, by decide +kernel⟩,
  ⟨{ State.reset.set (Reg.CNV.STAT_SWAPPEND 3) 1 with landing := [⟨0, (Reg.CNV.NEXTPROC_FILTER 3).addr, 7, false, false, false, [], false⟩] },
      0, 3, 7, by decide +kernel⟩,
  ⟨State.reset.set (Reg.CNV.STAT_SWAPPEND 3) 1, 0, 3, by decide +kernel⟩⟩

/-- States and operands that meet the hypotheses of each clause of `Obligations.SoundAtReset`. -/
theorem witness_sound_at_reset :
State.reset.regs = [] :=
  by decide +kernel

/-- States and operands that meet the hypotheses of each clause of `Obligations.SoundIsKept`. -/
theorem witness_sound_is_kept :
Sound { State.reset with pending := [.wdog] } ∧ ∃ t, step { State.reset with pending := [.wdog] } = .next t :=
  ⟨⟨rfl, rfl, rfl⟩, _, rfl⟩

/-- States and operands that meet the hypotheses of each clause of `Obligations.FusesStayBlown`. -/
theorem witness_fuses_stay_blown :
∃ t, step { State.reset with pending := [.wdog], fuses := { State.reset.fuses with lcf0 := true } } = .next t ∧
      t.fuses.lcf0 = true :=
  ⟨_, rfl, by decide +kernel⟩

/-- States and operands that meet the hypotheses of each clause of `Obligations.CommandsAreTakenInOrder`. -/
theorem witness_commands_are_taken_in_order :
∃ t, step { State.reset with pending := [.wdog, .presence, .sealOpen] } = .next t ∧ t.pending = [.presence, .sealOpen] :=
  ⟨_, rfl, by decide +kernel⟩

/-- States and operands that meet the hypotheses of each clause of `Obligations.EveryCommandCompletes`. -/
theorem witness_every_command_completes :
(∀ (n bclks hz : Nat) (slots : List Nat), Instr.presence = .aprtFrame n bclks hz slots → hz ≤ 98304000) ∧
(∃ t, exec (.presence) State.reset = .next t ∧ t.pending = []) :=
  ⟨(by intro _ _ _ _ h; cases h),
  ⟨_, rfl, by decide +kernel⟩⟩

/-- From reset each of the commands of `Obligations.MediaFramesOfEffect`, well-formed, answers a next state. -/
theorem witness_media_frames_of_effect :
    ([.noFrameTimeout 4,
      .fsDramLate 5 2,
      .salvoOpenExpire 2,
      .salvoExpired 2,
      .safeContentSwitch 3,
      .chkinvDone 77,
      .rateHuntDwell 3,
      .ancPacketRx 3 (⟨9, 0, 0x61, 1, [1, 2], true, false⟩ : AncPkt),
      .igmpReportTimer 2 0xEF000001,
      .igmpQueryRx 2 2 0 1000,
      .igmpCompatTimeout 2,
      .joinTimeout 5 1,
      .poldropAccumulate,
      .asrcRelockDone 2,
      .swapDone 3,
      .flattenDone 2 9,
      .flintLoadDone 2,
      .flintFail 2 7,
      .decimatorFrame 9 (true),
      .layerStaleTimeout 2 3,
      .scanTrainDone true (true),
      .edpHpdEdge false,
      .scanTrainRetry,
      .scanLatchPoint,
      .scanFrameStart,
      .underrun,
      .psrEntry (true),
      .auxReply 0 ([0x5A, 7, 9] : List Byte),
      .auxTimeout,
      .polInv 3,
      .pllRelock 3 0,
      .eqLimit 3 20 5 6,
      .eyeMeasure 3 7 9,
      .edpLinkLoss,
      .prbsCheck 3 64 9] : List Instr).all Tests.runs = true := by
  decide +kernel

/-- From reset each of the commands of `Obligations.LinkFramesOfEffect`, well-formed, answers a next state. -/
theorem witness_link_frames_of_effect :
    ([.unlockTimeout 4,
      .pauseWdRelease 3,
      .linkUp 3,
      .statsSnapPeriod,
      .ptpMessageSend 3 .sync 5,
      .holdoverUpdate,
      .phstepDone,
      .refreshDue 8 (true),
      .mr4Poll 3 5 1 (true),
      .requestAgeExpire 3 0,
      .scrubLate,
      .trackInterval 3 (-5 : Int),
      .drcChkinvApply,
      .twinLinkUp (false),
      .linkUpRecordRx (true) ⟨1, 8, 9⟩ 0 0 3,
      .twinDeadtime,
      .copyResend,
      .mirrorResend 6,
      .supplyOkEdge 1 (true),
      .pmbusPoll 1 (some (⟨1, 2, 3, 4, 5, 6⟩ : PmbusWords)),
      .gbusTxLatch,
      .gbusOwnSlot,
      .gbusSlotMiss 3,
      .gbusPairWindow ([] : List Nat) ([] : List Nat),
      .terrTimeout,
      .eventRaise 33 5,
      .slotHeld 1,
      .pinReadback (false) (false),
      .wdog,
      .sensorConversion (true) 9 (false),
      .spTransactionDone,
      .spTimeout,
      .presence,
      .presenceWindowExpire,
      .sealOpen,
      .close (⟨64, 0xC0A80101, 5000, 14720, false, true, true, 77, 9, 0, 0⟩ : JrpHdr),
      .sessionTimeout (⟨77, 2, false, 64, 0xC0A80101, 5000, 1, none, 0, ⟨2, 0, false, false, 77, 0, 0, 0, 0, []⟩, 0, none, [],
      [], 128000000, 0, [], [], 0, none, 0, ⟨0, 0, 0, 0, 0⟩⟩ : JrpSession).id,
      .sessionRetainExpire 55,
      .finalStatus,
      .notifySend (⟨77, 2, false, 64, 0xC0A80101, 5000, 1, none, 0, ⟨2, 0, false, false, 77, 0, 0, 0, 0, []⟩, 0, none, [], [],
      128000000, 0, [], [.route 1 2 3, .route 4 5 6], 0, none, 0, ⟨0, 0, 0, 0, 0⟩⟩ : JrpSession).id,
      .pcsLock 64,
      .sealClosed,
      .presenceRelease,
      .avsRequest (true),
      .avsAnswer (true),
      .avsTimeout] : List Instr).all Tests.runs = true := by
  decide +kernel

/-- A REGISTER_WRITE to a block region that is not 32 bits wide or not aligned to 4 bytes answers ALIGN, sets MGT.STAT.ALIGN and
leaves every register outside MGT and the event counts, and all memory, as it was. -/
theorem test_misaligned_access_is_not_performed_1 :
    (let s : State := State.reset
     let m : Nat := 0
     let addr : Nat := 0x10000012
     let size : Nat := 4
     let data : Word := 5
     Tests.nextIs (exec (.registerWrite m addr size data) s) fun t =>
       decide (t.get Reg.MGT.STAT_ALIGN = 1) &&
       decide (Assoc.find t.mgt.readBack m = some ⟨2, 0⟩) &&
       decide (t.mgt.sram = s.mgt.sram)) = true := by decide +kernel

/-- A write to an address outside every decoded range answers DECERR, sets MGT.STAT.DECERR and is discarded. -/
theorem test_unmapped_access_changes_nothing_1 :
    (let s : State := State.reset
     let m : Nat := 6
     let addr : Nat := 0x0F000000
     let size : Nat := 4
     let data : Word := 1
     Tests.nextIs (exec (.registerWrite m addr size data) s) fun t =>
       decide (t.get Reg.MGT.STAT_DECERR = 1) &&
       decide (Assoc.find t.mgt.readBack m = some ⟨1, 0⟩) &&
       decide (t.mgt.sram = s.mgt.sram)) = true := by decide +kernel

/-- A REGISTER_WRITE of a register without RWD and RWL fields, other than a CTRL, of a block outside the bus-matrix domain (TIME
with EN = 1, and not its STEPHI) answers OK, waits behind the writes that wait already, and shows STAT.WPEND = 1 of its
block; no other register changes yet. -/
theorem test_accepted_write_waits_1 :
    (let s : State := State.reset
     let m : Nat := 2
     let addr : Nat := 0x15000014
     let data : Word := 9
     let b : Blk := Tests.blkOf 0x15000014
     Tests.nextIs (exec (.registerWrite m addr 4 data) s) fun t =>
       decide (t.landing = s.landing ++ [⟨m, addr, data, false, false, false, [], false⟩]) &&
       decide (t.get b.wpend = 1) &&
       decide (Assoc.find t.mgt.readBack m = some ⟨0, 0⟩)) = true := by decide +kernel

/-- A write that would change an RWL field while its master has not unlocked leaves the field as it was, sets MGT.STAT.LOCK_IGN,
puts the address into MGT.IGNADDR and raises the lock-ignored event. -/
theorem test_locked_fields_keep_their_value_1 :
    (let s : State := State.reset
     let m : Nat := 0
     let addr : Nat := 0x11001010
     let data : Word := 0x20077
     let f : Fld := (Tests.regOf 0x11001010).flds.headD ⟨0,0,.rw,.val 0⟩
     Tests.nextIs (exec (.registerWrite m addr 4 data) s) fun t =>
       decide (bits (t.rd addr).toNat f.hi f.lo = bits (s.rd addr).toNat f.hi f.lo) &&
       decide (t.get Reg.MGT.STAT_LOCK_IGN = 1) &&
       decide (t.get Reg.MGT.IGNADDR_ADDR = addr / 4) &&
       decide (Raised 33 t)) = true := by decide +kernel

/-- A write that would change an RWD field while EN is 1 leaves the field as it was, sets STAT.CFG_IGN of the block and puts the
address into MGT.IGNADDR; a write that clears EN in the same word is no exception (R45). -/
theorem test_enabled_configuration_is_ignored_1 :
    (let s : State := State.reset.set ⟨0x18000000, 0, 0⟩ 1
     let m : Nat := 0
     let addr : Nat := 0x18000010
     let data : Word := 0x3
     let b : Blk := Tests.blkOf 0x18000010
     let f : Fld := (Tests.regOf 0x18000010).flds.headD ⟨0,0,.rw,.val 0⟩
     Tests.nextIs (exec (.registerWrite m addr 4 data) s) fun t =>
       decide (bits (t.rd addr).toNat f.hi f.lo = bits (s.rd addr).toNat f.hi f.lo) &&
       decide (t.get b.cfgIgn = 1) &&
       decide (t.get Reg.MGT.IGNADDR_ADDR = addr / 4)) = true := by decide +kernel

/-- BLOCK_ENABLE of any block sets its CTRL.EN, but that of a DRAM channel, which follows the common EN. -/
theorem test_blocks_start_and_stop_1 :
    (let s : State := State.reset
     let m : Nat := 0
     let blk : Nat := 0x18001000
     let data : Word := 1
     let b : Blk := ⟨.sdi, 1⟩
     Tests.nextIs (exec (.blockEnable m blk data) s) fun t =>
       decide (t.get b.en = b2n (b.kind != .drc)) &&
       decide (t.get b.wpend = 0)) = true := by decide +kernel

/-- WDSVC with 0x0000A55A from the safety cores services the watchdog, unless it has expired or their firmware has stopped (LOSS
seen with LOSSSTOP = 1). -/
theorem test_watchdog_and_sensors_1 :
    (let s : State := State.reset
     let m : Nat := 4
     let key : Word := 0xA55A
     Tests.nextIs (exec (.wdsvc m key) s) fun t =>
       decide (t.mgt.wdLast = s.now) &&
       decide (t.mgt.wdExpired = none) &&
       decide (t.get Reg.FLT.STAT_PHASE = s.get Reg.FLT.STAT_PHASE)) = true := by decide +kernel

/-- One of SRAM answers its four bytes and takes the target likewise. -/
theorem test_bus_matrix_locks_remap_and_bank_2 :
    (let s : State := (State.reset.set Reg.BMX.CTRL_REMAP 1).sramPut 0x100 [1, 2, 3, 4]
     let m : Nat := 2
     let addr : Nat := 0x100
     let off : Nat := 0x100
     Tests.nextIs (exec (.lockedRead m addr) s) fun t =>
       decide (t.mgt.locks = [{ m := m, target := 0, since := s.now }]) &&
       decide (Assoc.find t.mgt.readBack m = some ⟨0, BitVec.ofNat 32 (leNat (Memory.readN s.mgt.sram off 4))⟩) &&
       decide (t.mgt.sram = s.mgt.sram)) = true := by decide +kernel

/-- SP_READ with a good CRC is issued to the matrix as a read of the address, most significant byte first, and answered there. -/
theorem test_service_port_frames_1 :
    (let s : State := State.reset.set Reg.CFG.STAT_STEP 1
     let a3 : Byte := 0x11
     let a2 : Byte := 0
     let a1 : Byte := 0
     let a0 : Byte := 0x10
     let frame : List Byte := let l : List Byte := [0x0B, 0x11, 0, 0, 0x10]; l ++ [BitVec.ofNat 8 (spCrc l)]
     Tests.nextIs (exec (.spRead frame) s) fun t =>
       decide (∃ x, t.mgt.sp.inflight = some x ∧ x.write = false ∧ x.addr = beNat [a3, a2, a1, a0]) &&
       decide (t.mgt.sp.answer ≠ none) &&
       decide (t.mgt.sp.done = false)) = true := by decide +kernel

/-- EVENT_RAISE of a source that has no pending record lists one, with the data word and the time, and counts the raise. -/
theorem test_records_are_entered_in_order_1 :
    (let s : State := State.reset
     let src : Nat := 33
     let data : Word := 5
     Tests.nextIs (exec (.eventRaise src data) s) fun t =>
       decide (t.flt.pend = s.flt.pend ++ [⟨src, data, s.timeNs, 0⟩]) &&
       decide (t.get (Reg.FLT.CNT_RAISED src) = (s.get (Reg.FLT.CNT_RAISED src) + 1) % 65536)) = true := by decide +kernel

/-- LC_CHANGE inside a presence window makes the reversible changes of the table, and blows no fuse. -/
theorem test_life_cycle_and_keys_1 :
    (let s : State := ((({ State.reset with key := { State.reset.key with window := some 60000000000 } } : State).set Reg.KEY.STAT_WINDOW 1).set Reg.KEY.STAT_LCSTATE 1)
     let m : Nat := 0
     let k : Nat := 2
     Tests.nextIs (exec (.lcChange m k) s) fun t =>
       decide (t.get Reg.KEY.STAT_LCSTATE = k) &&
       decide (t.get Reg.KEY.RES_CODE = 0) &&
       decide (t.get Reg.KEY.RES_DONE = 1) &&
       decide (Raised 118 t) &&
       decide (t.fuses = s.fuses) &&
       decide (t.flash.blob = s.flash.blob)) = true := by decide +kernel

/-- BEGIN makes the slots not in force the targets of a staging. -/
theorem test_update_engine_1 :
    (let s : State := State.reset.set (Reg.UPD.ARG 0) 3
     let m : Nat := 0
     Tests.nextIs (exec (.begin m) s) fun t =>
       decide (t.get Reg.UPD.STAT_STATE = 1) &&
       decide (t.get Reg.UPD.RES_CODE = 0) &&
       decide (t.get Reg.UPD.RES_DONE = 1) &&
       decide (t.upd.fw = bit (s.get (Reg.UPD.ARG 0)) 0) &&
       decide (t.upd.cfg = bit (s.get (Reg.UPD.ARG 0)) 1) &&
       decide (t.fuses = s.fuses)) = true := by decide +kernel

/-- CREATE of a channel of any kind that passes its checks and waits for nothing takes a free index: the entry is LIVE, its
handle carries kind, index and generation and stands in RESHANDLE, and the result is OK. -/
theorem test_channel_requests_1 :
    (let s : State := (State.reset.set Reg.CHN.CTRL_EN 1).set (Reg.CHN.REQARG 0) 0xA0000000
     let m : Nat := 0
     let i : Nat := 0
     let a : List Nat := (List.range 8).map ((State.reset.set Reg.CHN.CTRL_EN 1).set (Reg.CHN.REQARG 0) 0xA0000000).reqArg
     let d : List Nat := []
     Tests.nextIs (exec (.create m) s) fun t =>
       decide (t.get Reg.CHN.RESULT_DONE = 1) &&
       decide (t.get Reg.CHN.RESULT_CODE = 0) &&
       decide (t.get Reg.CHN.STAT_REQBUSY = 0) &&
       decide (t.get Reg.CHN.RESHANDLE = State.mkHandle (argKind a) i (State.handleGen (s.get (Reg.CHN.ENT_HANDLE i)))) &&
       decide (t.get (Reg.CHN.ENT_HANDLE i) = t.get Reg.CHN.RESHANDLE) &&
       decide (t.get (Reg.CHN.ENT_STATE_STATE i) = 1) &&
       decide (∃ c, t.chan i = some c ∧ c.kind = argKind a ∧ c.args = a ∧ c.desc = d ∧ c.live = true)) = true := by decide +kernel

/-- APPEND_CLAIM_ANSWER that accepts makes the remote druse, that of the handle answered where a chip was named, a member with
the ranges answered. -/
theorem test_claims_release_and_frame_instants_1 :
    (let s : State := ({ (State.reset.set Reg.CHN.CTRL_EN 1) with chn := { State.reset.chn with chans := [(3, ⟨10, [], [], 0, 5, true, 0, 0, 0, [], []⟩)], druses := [(5, [])], claim := some ⟨5, ⟨2, 9, 77, 0, 0⟩, 0, 0⟩ } } : State)
     let code : Nat := 0
     let h : Nat := 0
     let ins : Nat := 4
     let outs : Nat := 6
     let c : Claim := ⟨5, ⟨2, 9, 77, 0, 0⟩, 0, 0⟩
     Tests.nextIs (exec (.appendClaimAnswer code h (ins, outs)) s) fun t =>
       decide (t.get Reg.CHN.RESULT_DONE = 1) &&
       decide (t.get Reg.CHN.RESULT_CODE = 0) &&
       decide (t.chn.claim = none) &&
       decide (t.membersOf c.druse = s.membersOf c.druse ++ [{ c.member with ref := if c.member.type = 3 then h else c.member.ref, ins := ins, outs := outs }])) = true := by decide +kernel

/-- TAKE without an instant, or with one that is past and marked so, stands in the pending slot of its output; the route does
not change yet, and the request is in progress until a tick ends it. -/
theorem test_takes_and_locks_1 :
    (let s : State := ((((State.reset.set Reg.FAB.CTRL_EN 1).set (Reg.CHN.ENT_HANDLE 1) (State.mkHandle 2 1 5)).set (Reg.CHN.ENT_STATE_STATE 1) 1).set (Reg.FAB.TAKEARG 0) (State.mkHandle 2 1 5)).set (Reg.FAB.TAKEARG 4) 1
     let m : Nat := 0
     let peer : Nat := 7
     let i : Nat := 1
     Tests.nextIs (exec (.take m peer) s) fun t =>
       decide (t.get Reg.FAB.TESTAT_BUSY = 1) &&
       decide (t.get Reg.FAB.TAKERES_CODE = 0) &&
       decide ((t.outTakes i).pend = some { src := s.takeSrc, accepted := s.timeNs, peer := peer, ref := 0, flags := if s.takeInstant = 0 then 0 else 16 }) &&
       decide (t.get (Reg.FAB.RT_PENDV i) = 1) &&
       decide (t.get (Reg.FAB.RT_PEND i) = s.takeSrc) &&
       decide (t.get (Reg.FAB.RT_CUR i) = s.get (Reg.FAB.RT_CUR i)) &&
       decide (t.get Reg.FAB.TAKEID = 0)) = true := by decide +kernel

/-- OPEN of a new global ID takes a free local salvo and answers its number. -/
theorem test_salvos_1 :
    (let s : State := ((((State.reset.set Reg.FAB.CTRL_EN 1).set (Reg.CHN.ENT_HANDLE 1) (State.mkHandle 2 1 5)).set (Reg.CHN.ENT_STATE_STATE 1) 1).set (Reg.FAB.TAKEARG 0) (State.mkHandle 2 1 5)).set (Reg.FAB.TAKEARG 4) 1
     let m : Nat := 0
     let peer : Nat := 7
     let v : Nat := 0
     Tests.nextIs (exec (.openGid m peer) s) fun t =>
       decide (t.get Reg.FAB.TESTAT_BUSY = 1) &&
       decide (t.get Reg.FAB.TAKERES_CODE = 0) &&
       decide (∃ x, Assoc.find t.fab.salvos v = some x ∧ x.gid = s.takeArg 0 ∧ x.takes = [] ∧ x.armed = none ∧ x.opened = s.now) &&
       decide (t.get Reg.FAB.TAKEID = v)) = true := by decide +kernel

/-- EGRESS_CHECK of a frame that fails: the output enters FAIL, with the cause and one count. -/
theorem test_path_integrity_1 :
    (let s : State := (({ State.reset with fab := { State.reset.fab with egr := [(3, { State.Egress.fresh 0 false with cur := some ⟨0x1000000, none, 0, false, [], []⟩ })], ing := [(4, { State.Ingress.fresh 0x1000000 false with cur := some ⟨0x1000000, none, 0, false, [], []⟩ })] } } : State).set (Reg.FAB.ESE_CFG_VALID 3) 1 |>.set (Reg.FAB.ISE_CFG_VALID 4) 1 |>.set Reg.PROV.CTRL_EN 1)
     let e : Nat := 3
     let c : Nat := 1
     Tests.nextIs (exec (.egressCheck e) s) fun t =>
       decide (t.get (Reg.PROV.OUT_CAUSE e) = c % 16) &&
       decide (t.get (Reg.PROV.OUT_STATE e) = 2) &&
       decide (t.get (Reg.PROV.OUT_FAILCNT e) = (s.get (Reg.PROV.OUT_FAILCNT e) + 1) % 65536) &&
       decide ((t.egr e).checked = true) &&
       decide ((t.egr e).failed = some c)) = true := by decide +kernel

/-- While AUD is disabled each answers DISABLED. -/
theorem test_voice_map_2 :
    (let s : State := State.reset
     let m : Nat := 0
     Tests.nextIs (exec (.source m) s) fun t =>
       decide (t.get Reg.AUD.MAPRES_CODE = 16) &&
       decide (t.aud = s.aud) &&
       decide (t.get Reg.AUD.MAPRES_DONE = 1 ∨ t.get Reg.AUD.MAPRES_BUSY = 1)) = true := by decide +kernel

/-- The first frame after NO_CLOCK or lost clock enters MEASURE and stamps its time. -/
theorem test_audio_ports_3 :
    (let s : State := (State.reset.set (Reg.APRT.STAT_STATE 2) 1)
     let n : Nat := 2
     let bclks : Nat := 5
     let hz : Nat := 48000
     let slots : List Nat := []
     Tests.nextIs (exec (.aprtFrame n bclks hz slots) s) fun t =>
       decide (t.get (Reg.APRT.STAT_STATE n) = 2) &&
       decide ((t.aprt n).frames = 1) &&
       decide ((t.aprt n).stamps = [s.timeNs]) &&
       decide (t.get64 (Reg.APRT.BTSLO n) (Reg.APRT.BTSHI n) = s.timeNs % 2 ^ 64) &&
       decide (t.get (Reg.APRT.BTSCNT n) = 0)) = true := by decide +kernel

/-- SWAP makes an exchange of banks pending; -/
theorem test_converters_1 :
    (let s : State := State.reset
     let m : Nat := 0
     let n : Nat := 3
     let data : Word := 1
     Tests.nextIs (exec (.swap m n data) s) fun t =>
       decide (t.get (Reg.CNV.STAT_SWAPPEND n) = 1) &&
       decide (t.cnvHw n = { s.cnvHw n with goAt := s.now })) = true := by decide +kernel

/-- RATE_HUNT_DWELL without CDR lock moves the hunt to the next enabled class and changes no register; -/
theorem test_sdi_receive_lines_1 :
    (let s : State := ({ State.reset.set (Reg.SDI.STAT_RUN (sdiPage 3)) 1 |>.set (Reg.QUAD.STAT_RUN 0) 1 |>.set (Reg.LANE.STAT_RXSTATE 3) 4 |>.set (Reg.SDI.RXSTAT_STATE (sdiPage 3)) 0 with inUse := [((Reg.LANE.CFG_RXMODE 3).addr, BitVec.ofNat 32 (2 ^ (Reg.LANE.CFG_RXMODE 3).lo))] } : State)
     let n : Nat := 3
     Tests.nextIs (exec (.rateHuntDwell n) s) fun t =>
       decide ((t.sdiRx n).hunt = State.nextClass (s.use (Reg.SDI.RXCFG_RATES (sdiPage n))) (s.huntClass n))) = true := by decide +kernel

/-- The first after lock begins the measurement; -/
theorem test_sdi_frames_and_packets_2 :
    (let s : State := ({ State.reset.set (Reg.SDI.STAT_RUN (sdiPage 3)) 1 |>.set (Reg.QUAD.STAT_RUN 0) 1 |>.set (Reg.LANE.STAT_RXSTATE 3) 4 |>.set (Reg.SDI.RXSTAT_STATE (sdiPage 3)) 2 with inUse := [((Reg.LANE.CFG_RXMODE 3).addr, BitVec.ofNat 32 (2 ^ (Reg.LANE.CFG_RXMODE 3).lo))] } : State)
     let n : Nat := 3
     let fmt : Nat := 0x1000000
     let pid : Option SdiPid := none
     let pid1 : Option SdiPid := none
     Tests.nextIs (exec (.sdiFrameStart n fmt ⟨pid, pid1⟩) s) fun t =>
       decide ((t.sdiRx n).measuring = true) &&
       decide (t.get (Reg.SDI.RXSTAT_FMTVALID (enginePage n)) = s.get (Reg.SDI.RXSTAT_FMTVALID (enginePage n))) &&
       decide (t.get (Reg.SDI.RXAUDSTAT_PRESENT (enginePage n)) = (s.sdiRx n).groups % 256)) = true := by decide +kernel

/-- That of the last leg UP takes the flow down too; -/
theorem test_media_flows_8 :
    (let s : State := (({ State.reset with ipm := { rx := [(5, ({ chan := 3, desc := List.replicate 16 0, known := false, otherSince := none, up := false, again := false, since := 0, hi := none, missed := [], ended := none, tail := 0, pkts := [], past := [], buckets := [], got := [], joinLate := [], audio := [], last := [], missing := 0, map := none, polTotal := 0, polLast := 0 } : RxFlow))], tx := [], igmp := [], compat := [] }, chn := { State.reset.chn with chans := [] } } : State).set (Reg.IPM.RXF_LEGA 5) 2)
     let n : Nat := 5
     let g : Nat := 0
     let x : RxFlow := ({ chan := 3, desc := List.replicate 16 0, known := false, otherSince := none, up := false, again := false, since := 0, hi := none, missed := [], ended := none, tail := 0, pkts := [], past := [], buckets := [], got := [], joinLate := [], audio := [], last := [], missing := 0, map := none, polTotal := 0, polLast := 0 } : RxFlow)
     Tests.nextIs (exec (.legDown n g) s) fun t =>
       decide (t.get (State.legReg n g) = 1) &&
       decide (∃ y, Assoc.find t.ipm.rx n = some y ∧ y.up = false ∧ y.known = false ∧ y.pkts = x.pkts) &&
       decide (Raised 898 t) &&
       decide (Raised 899 t)) = true := by decide +kernel

/-- Otherwise it repeats the report once: of IGMPv3 with the source or for any source, in compatibility of IGMPv2. -/
theorem test_media_groups_2 :
    (let s : State := (({ State.reset with ipm := { rx := [], tx := [], igmp := [((State.igmpKey 2 0xEF000001), ⟨9, true, false⟩)], compat := [] }, chn := { State.reset.chn with chans := [] } } : State).set Reg.FAB.STAT_RUN 1)
     let p : Nat := 2
     let g : Nat := 0xEF000001
     let v : Nat := 9
     let q : IgmpGroup := ⟨9, true, false⟩
     Tests.nextIs (exec (.igmpReportTimer p g) s) fun t =>
       decide (t.out = .igmp p (if s.igmpV2 p = true then 3 else if q.src = 0 then 1 else 0) g v :: s.out) &&
       decide (Assoc.find t.ipm.igmp (State.igmpKey p g) = some { q with again := false })) = true := by decide +kernel

/-- Another counts corrected and uncorrectable FEC codewords. -/
theorem test_ethernet_receive_and_counts_2 :
    (let s : State := (({ State.reset with now := 0, eth := { State.reset.eth with ports := [(3, ({ ctr := List.replicate 13 0, totals := List.replicate 13 0, locked := true, fault := 0, queue := [], holds := [], scanning := false, cleanAt := 0, wdAt := 0 } : EthPort))] }, inUse := [], mgt := { State.reset.mgt with sram := [] } } : State) |>.set (Reg.ETH.STAT_RUN 3) 1)
     let p : Nat := 3
     let a : Nat := 7
     let b : Nat := 1
     let l : List Byte := [1, 2, 3, 4, 5]
     let f : Bool := false
     Tests.nextIs (exec (.ethFrameRx p l a b f) s) fun t =>
       decide ((t.ethPort p).ctr.getD 11 0 = min (State.ctrMax 11) ((s.ethPort p).ctr.getD 11 0 + a)) &&
       decide ((t.ethPort p).ctr.getD 12 0 = min (State.ctrMax 12) ((s.ethPort p).ctr.getD 12 0 + b))) = true := by decide +kernel

/-- else it locks the port, which shows the faults it receives, and sends idle in RFAULT, remote fault sets otherwise. -/
theorem test_ethernet_link_and_rings_2 :
    (let s : State := (({ State.reset with now := 0, eth := { State.reset.eth with ports := [(64, ({ ctr := List.replicate 13 0, totals := List.replicate 13 0, locked := false, fault := 0, queue := [], holds := [], scanning := false, cleanAt := 0, wdAt := 0 } : EthPort))] }, inUse := [], mgt := { State.reset.mgt with sram := [] } } : State) |>.set (Reg.ETH.STAT_RUN 64) 1)
     let p : Nat := 64
     Tests.nextIs (exec (.pcsLock p) s) fun t =>
       decide (t.ethPort p = { s.ethPort p with locked := true, cleanAt := s.now }) &&
       decide (t.get (Reg.ETH.STAT_LINK p) = (s.ethPort p).fault) &&
       decide ((s.ethLanes p).all (fun n => s.txPath n == 0) = true → t.out = .ordered p ((s.ethPort p).fault != 2) :: s.out)) = true := by decide +kernel

/-- it takes a running half from NO_SIGNAL to the search for its clock. -/
theorem test_lane_receive_2 :
    (let s : State := (({ State.reset with inUse := [((Reg.LANE.CFG_RXMODE 3).addr, 0x33)] } : State).set (Reg.LANE.STAT_RUN 3) 1 |>.set (Reg.LANE.STAT_RXSTATE 3) 0 |>.set (Reg.QUAD.STAT_RUN 0) 1)
     let n : Nat := 3
     Tests.nextIs (exec (.signalDetect n true 0) s) fun t =>
       decide (t.get (Reg.LANE.STAT_RXSTATE n) = 1) &&
       decide (t.get (Reg.LANE.STAT_SIGDET n) = 1) &&
       decide (t.get (Reg.LANE.STAT_CDRLOCK n) = 0)) = true := by decide +kernel

/-- PLLA_LOST shows the loss, counts it and raises its cause; the other PLL is untouched. -/
theorem test_lane_transmit_and_configuration_1 :
    (let s : State := (State.reset.set (Reg.QUAD.STAT_RUN 3) 1 |>.set (Reg.QUAD.PLLA_LOCK 3) 1)
     let q : Nat := 3
     let p : Nat := 0
     Tests.nextIs (exec (.pllaLost q p) s) fun t =>
       decide (t.get (State.pllLockF q p) = 0) &&
       decide (t.get (State.pllStatF q p) = 0) &&
       decide (t.get (Reg.QUAD.CNT_LOCKLOSS q) = (s.get (Reg.QUAD.CNT_LOCKLOSS q) + 1) % 65536) &&
       decide (bit (t.get (Reg.QUAD.EVSTAT q)) (1 + p) = true) &&
       decide (t.get (State.pllLockF q (1 - p)) = s.get (State.pllLockF q (1 - p)))) = true := by decide +kernel

/-- A set that the rules refuse leaves everything as it was and shows its reason. -/
theorem test_mica_commits_3 :
    (let s : State := (({ State.reset with mica := { State.reset.mica with mica := [(2, State.MicaHw.fresh)], dec := [] }, chn := { State.reset.chn with chans := [] }, now := 0 } : State).set (Reg.MICA.CHAN 2) (State.mkHandle 8 9 1) |>.set (Reg.MICA.CTRL_EN 2) 1 |>.set (Reg.MICA.STAT_RUN 2) 1 |>.set (Reg.MICA.LAY_Z 2 4) 63)
     let m : Nat := 0
     let g : Nat := 2
     let why : Nat := 1
     let data : Word := 1
     Tests.nextIs (exec (.micaCommit m g data) s) fun t =>
       decide (t.get (Reg.MICA.STAT_CERR g) = 1) &&
       decide (t.get (Reg.MICA.STAT_CREASON g) = why) &&
       decide (bit (t.get (Reg.MICA.EVSTAT g)) 1 = true) &&
       decide (t.mica = s.mica)) = true := by decide +kernel

/-- answer DISABLED while the engine is not enabled, -/
theorem test_mica_layers_2 :
    (let s : State := State.reset
     let m : Nat := 0
     let g : Nat := 2
     Tests.nextIs (exec (.bind m g) s) fun t =>
       decide (t.get (Reg.MICA.LAYRES_DONE g) = 1) &&
       decide (t.get (Reg.MICA.LAYRES_CODE g) = 16) &&
       decide (t.get (Reg.MICA.LAYRES_BUSY g) = 0) &&
       decide (t.mica = s.mica)) = true := by decide +kernel

/-- Setting EN with timings, bandwidth and panel that pass the checks begins the training of the link; -/
theorem test_scan_link_1 :
    (let s : State := (({ State.reset with scan := { State.reset.scan with hpd := true } } : State).set Reg.SCAN.STAT_LSTATE 0 |>.set Reg.SCAN.PIXCLK 25000 |>.set Reg.SCAN.HTIM_HTOTAL 16 |>.set Reg.SCAN.HTIM_HACT 16 |>.set Reg.SCAN.VTIM_VTOTAL 4 |>.set Reg.SCAN.VTIM_VACT 4 |>.set Reg.SCAN.FBCFG_PITCH 64 |>.set Reg.SCAN.FBCFG_FMT 2 |>.set Reg.SCAN.LINKCFG_LANES 2 |>.set Reg.DRCC.STAT_RUN 1 |>.set Reg.DRCC.CTRL_EN 1 |>.set Reg.DRCC.PLAN 1000)
     let m : Nat := 0
     let blk : Nat := (Blk.mk .scan 0).base
     let data : Word := 1
     Tests.nextIs (exec (.blockEnable m blk data) s) fun t =>
       decide (t.get Reg.SCAN.STAT_LSTATE = 1) &&
       decide (t.scan.starting = true) &&
       decide (t.get Reg.SCAN.STAT_STARTERR = 0) &&
       decide (t.get Reg.SCAN.FRAMECNT = 0) &&
       decide (t.get Reg.SCAN.STAT_RUN = 0) &&
       decide (t.dram = s.dram)) = true := by decide +kernel

/-- NATIVE_READ, NATIVE_WRITE, -/
theorem test_scan_aux_and_refresh_1 :
    (let s : State := (({ State.reset with scan := { State.reset.scan with hpd := true } } : State).set Reg.SCAN.STAT_LSTATE 2)
     let m : Nat := 0
     let a : Nat := 0x50
     let n : Nat := 3
     Tests.nextIs (exec (.nativeRead m a n) s) fun t =>
       decide (t.scan.aux = some ⟨1, a % 2 ^ 20, n % 16 + 1, 0, s.now⟩) &&
       decide (t.scan.auxWaits = false) &&
       decide (t.get Reg.SCAN.AUXRES_DONE = 0) &&
       decide (t.out = .aux 1 (a % 2 ^ 20) (n % 16 + 1) [] :: s.out)) = true := by decide +kernel

/-- INCR_WRITE of a value in range in NATIVE mode is in use, and the counter is untouched; -/
theorem test_time_corrections_1 :
    (let s : State := (State.reset |>.set Reg.TIME.CTRL_EN 1)
     let m : Nat := 0
     let v : Nat := 2 * 2 ^ 32
     let data : Word := 2
     Tests.nextIs (exec (.incrWrite m data) s) fun t =>
       decide (t.incrInUse = v) &&
       decide (t.get Reg.TIME.INCRHI = data.toNat % 16) &&
       decide (t.time96 = s.time96)) = true := by decide +kernel

/-- the first of another makes it the parent, its port a follower, and raises the change of grandmaster. -/
theorem test_network_time_3 :
    (let s : State := (({ State.reset with time := { State.reset.time with ptp := { State.reset.time.ptp with cfg := { ports := [3], leader := false, hybrid := false, domain := 7, logSync := 0, logAnnounce := 0, logDelayReq := 0, receiptTimeout := 3, priority1 := 128, priority2 := 128, identity := 55, stepLimitNs := 1000, slewMaxPpb := 1000, alarmNs := 0 } } } } : State))
     let port : Nat := 3
     let stamp : Nat := 5
     let msg : PtpMsg := ⟨7, 1, 99, false, 0, .announce ⟨1, 6, 0, 0, 0, 99, 0⟩ 37 0⟩
     let ds : PtpDataset := ⟨1, 6, 0, 0, 0, 99, 0⟩
     let utc : Int := 37
     let leap : Nat := 0
     Tests.nextIs (exec (.ptpMessageRx port stamp msg) s) fun t =>
       decide (t.time.ptp.parent = some ⟨port, msg.source, ds, utc, leap, s.now⟩) &&
       decide (Assoc.findD t.time.ptp.ports port .listening = .follower) &&
       decide (t.time.ptp.gm = some ds.identity) &&
       decide (Raised 135 t)) = true := by decide +kernel

/-- REF_QUAL qualifies a reference that has been good for QUALTIME with its event, and the selection rules apply; -/
theorem test_lodestone_1 :
    (let s : State := { (({ State.reset with lode := { State.reset.lode with seen := [(6, ⟨3000000000, 3000000000, false, some 0, 3000000000, 0, true⟩)] } } : State) |>.set Reg.LODE.CTRL_EN 1) with now := 3000000000 }
     let r : Nat := 6
     Tests.nextIs (exec (.refQual r) s) fun t =>
       decide (t.refQualified r = true) &&
       decide (Raised 168 t)) = true := by decide +kernel

/-- DRAM_TRAIN_DONE with the results of every populated channel, one failed: the channel shows FAILED with its step and raises
TRAIN_FAIL, and the DRAM stays out of service with capacity and plan 0; -/
theorem test_dram_training_and_refresh_1 :
    (let s : State := (({ State.reset with inUse := [(0x2A020010, 0x00000001)] } : State) |>.set Reg.DRCC.STAT_RUN 1 |>.set Reg.DRCC.CTRL_EN 1 |>.set Reg.DRCC.STAT_RUN 0 |>.set (Reg.DRC.STAT_TSTATE 0) 1)
     let results : List TrainResult := [⟨0, 1, 0, 20⟩, ⟨1, 1, 0, 20⟩, ⟨2, 1, 0, 20⟩, ⟨3, 1, 4, 20⟩, ⟨4, 1, 0, 20⟩, ⟨5, 1, 0, 20⟩, ⟨6, 1, 0, 20⟩, ⟨7, 1, 0, 20⟩]
     let r : TrainResult := ⟨3, 1, 4, 20⟩
     Tests.nextIs (exec (.dramTrainDone results) s) fun t =>
       decide (t.get Reg.DRCC.STAT_RUN = 0) &&
       decide (t.get Reg.DRCC.STAT_TRAINED = 0) &&
       decide (t.get Reg.DRCC.CAP_USABLE = 0) &&
       decide (t.get Reg.DRCC.PLAN = 0) &&
       decide (t.get (Reg.DRC.STAT_TSTATE r.chan) = 3) &&
       decide (t.get (Reg.DRC.TRAINRES_STEP r.chan) = r.step) &&
       decide (bit (t.get (Reg.DRC.EVSTAT r.chan)) 2 = true)) = true := by decide +kernel

/-- Without inline ECC a read that is served counts its units of 64 bytes, each on its channel in its class, and nothing else; -/
theorem test_error_checking_2 :
    (let s : State := (({ State.reset with inUse := [(0x2A020010, 0x00000001)] } : State) |>.set Reg.DRCC.STAT_RUN 1 |>.set Reg.DRCC.CTRL_EN 1)
     let addr : Nat := 100
     let len : Nat := 640
     let cls : Nat := 2
     let flips : Nat := 3
     let client : DramClient := .scan
     Tests.nextIs (exec (.dramRead addr len cls client flips) s) fun t =>
       decide (t = s.countUnits addr len (cls % 4))) = true := by decide +kernel

/-- TWIN_LINK_UP of the first pair of the link of a unit shows it and sends a link-up record with a fresh nonce and an ephemeral
key; the link is not keyed yet. -/
theorem test_twin_link_and_states_1 :
    (let s : State := ((({ State.reset with inUse := [((Reg.LANE.CFG_RXMODE 510).addr, 0x44), ((Reg.LANE.CFG_RXMODE 511).addr, 0x44)] } : State) |>.set (Reg.LANE.STAT_RUN 510) 1 |>.set (Reg.LANE.STAT_RXSTATE 510) 4 |>.set (Reg.LANE.STAT_RUN 511) 1 |>.set (Reg.LANE.STAT_RXSTATE 511) 4 |>.set Reg.TWIN.CTRL_EN 1 |>.set Reg.TWIN.STAT_STATE 1).updKey fun k => { k with ops := some (5, 6) })
     let b : Bool := false
     Tests.nextIs (exec (.twinLinkUp b) s) fun t =>
       decide (t.flag (if b then Reg.TWIN.STAT_LINKS else Reg.TWIN.STAT_LINKP) = true) &&
       decide (t.twin.auth = false) &&
       decide (t.twin.key = none) &&
       decide (t.get Reg.TWIN.STAT_STATE = s.get Reg.TWIN.STAT_STATE)) = true := by decide +kernel

/-- a unit without a keyed link, but for a STANDBY, counts the cycle and closes the signatures of the one that ends; -/
theorem test_twin_records_2 :
    (let s : State := (State.reset |>.set Reg.TWIN.CTRL_EN 1 |>.set Reg.TWIN.STAT_STATE 4 |>.set Reg.TWIN.STAT_LINKP 1)
     Tests.nextIs (exec (.twinCycleBoundary) s) fun t =>
       decide (t.get Reg.TWIN.CYCNUM = (s.get Reg.TWIN.CYCNUM + 1) % 2 ^ 32) &&
       decide (t.twin.sigs = []) &&
       decide (t.twin.sigCycle = s.get Reg.TWIN.CYCNUM) &&
       decide (t.twin.cycleIdx = some s.cycleIndex) &&
       decide (t.twin.sent = s.twin.sent) &&
       decide (t.out = s.out)) = true := by decide +kernel

/-- SUPPLY_OK_EDGE shows the pin of the feed, with the event of its loss or return; -/
theorem test_supply_feeds_and_latch_points_1 :
    (let s : State := State.reset
     let feed : Nat := 1
     let good : Bool := true
     Tests.nextIs (exec (.supplyOkEdge feed good) s) fun t =>
       decide (t.flag (if feed = 0 then Reg.TWIN.SUPSTAT_SUPA_OK else Reg.TWIN.SUPSTAT_SUPB_OK) = good) &&
       decide (bit (t.get Reg.TWIN.EVSTAT) (if good then 12 else if feed = 0 then 10 else 11) = true)) = true := by decide +kernel

/-- TXGO marks the transmit buffer pending. -/
theorem test_druse_bus_sending_1 :
    (let s : State := (State.reset |>.set Reg.GBUS.STAT_RUN 1 |>.set Reg.GBUS.CTRL_EN 1)
     let m : Nat := 0
     Tests.nextIs (exec (.txgo m) s) fun t =>
       decide (t.get Reg.GBUS.STAT_TXPEND = 1) &&
       decide (t.gbus = s.gbus)) = true := by decide +kernel

/-- with a bad header or payload, of another version, slot or system number than the map has, or over its slot's edge, it is
discarded and counted against its slot and pair, a mismatch and a crossing with their events; the own one is an own error; -/
theorem test_druse_bus_receiving_2 :
    (let s : State := (({ State.reset with inUse := [((Reg.GBUS.CFG_OWNSLOT).addr, 0x00030201), ((Reg.GBUS.MAP_VALID 3).addr, 0x80000009)] } : State) |>.set Reg.GBUS.STAT_RUN 1)
     let p : Nat := 1
     let k : Nat := 3
     let f : GbusFrame := ({ ver := 1, slot := 3, sys := 9, cycle := 0, claim := 0, devid := 77, terr := 5, payload := [], headerOk := false, payloadOk := true, start := 0, crossed := false } : GbusFrame)
     Tests.nextIs (exec (.gbusFrameRx p k f) s) fun t =>
       decide (t.get (if p = 0 then Reg.GBUS.MEM_CNT_ERRA k else Reg.GBUS.MEM_CNT_ERRB k) = (s.get (if p = 0 then Reg.GBUS.MEM_CNT_ERRA k else Reg.GBUS.MEM_CNT_ERRB k) + 1) % 256) &&
       decide (t.gbus.rxq = s.gbus.rxq) &&
       decide (t.gbus.used = s.gbus.used) &&
       decide (t.gbus.heard = s.gbus.heard) &&
       decide (t.get (Reg.GBUS.MEM_ST_STATE k) = s.get (Reg.GBUS.MEM_ST_STATE k)) &&
       decide ((k = s.use Reg.GBUS.CFG_OWNSLOT ∧ s.gbus.ownOut = true) → (t.get (State.ownErrF p) = (s.get (State.ownErrF p) + 1) % 16 ∧ t.gbus.ownSeen = s.gbus.ownSeen ++ [p] ∧ bit (t.get Reg.GBUS.EVSTAT) 9 = true)) &&
       decide (¬(k = s.use Reg.GBUS.CFG_OWNSLOT ∧ s.gbus.ownOut = true) → t.gbus = s.gbus) &&
       decide ((f.headerOk = true ∧ f.ver = 1 ∧ (f.slot ≠ k ∨ f.sys ≠ s.use (Reg.GBUS.MAP_SYSNUM k))) → bit (t.get Reg.GBUS.EVSTAT) 12 = true) &&
       decide (f.crossed = true → bit (t.get Reg.GBUS.EVSTAT) 4 = true)) = true := by decide +kernel

/-- with the ID of one that is kept for its peer it resumes that one with its window. -/
theorem test_jrp_sessions_5 :
    (let s : State := (({ (State.reset) with jrp := { State.reset.jrp with sessions := [], kept := [⟨55, 2, some 9, [⟨9, some (0, []), false, none⟩], [], 0⟩], peers := [⟨2, 0xC0A80101, 0, 63, 0⟩] } } : State) |>.set Reg.CFG.STAT_STEP 9)
     let h : JrpHdr := ⟨64, 0xC0A80101, 5000, 14720, false, true, true, 77, 9, 0, 0⟩
     let p : JrpPeer := ⟨2, 0xC0A80101, 0, 63, 0⟩
     let r : Nat := 55
     let n : Nat := 5
     let qc : Option Nat := none
     let ok : Bool := true
     let k : JrpKept := ⟨55, 2, some 9, [⟨9, some (0, []), false, none⟩], [], 0⟩
     Tests.nextIs (exec (.jrpOpen h p.index r n qc ok) s) fun t =>
       decide (t.jrp.sessions.length = s.jrp.sessions.length + 1) &&
       decide ((t.jrp.sessions.getLast?.map fun x => (x.id, x.high, x.window)) = some (k.id, k.high, k.window)) &&
       decide ((t.jrp.kept.any fun y => y.id == k.id) = false) &&
       decide (t.out.length = s.out.length + 1) &&
       decide (t.regs = s.regs)) = true := by decide +kernel

/-- One that passes enters its session's queue and window, and waits there while the session's credit is below the 500 µs of a
command. -/
theorem test_jrp_refusals_14 :
    (let s : State := (({ (State.reset) with jrp := { State.reset.jrp with sessions := [⟨77, 2, false, 64, 0xC0A80101, 5000, 1, none, 0, ⟨2, 0, false, false, 77, 0, 0, 0, 0, []⟩, 0, none, [], [], 0, 0, [], [], 0, none, 0, ⟨0, 0, 0, 0, 0⟩⟩], peers := [⟨2, 0xC0A80101, 0, 63, 0⟩] } } : State) |>.set Reg.CFG.STAT_STEP 9)
     let h : JrpHdr := ⟨64, 0xC0A80101, 5000, 14720, false, true, true, 77, 9, 0, 0⟩
     let x : JrpSession := ⟨77, 2, false, 64, 0xC0A80101, 5000, 1, none, 0, ⟨2, 0, false, false, 77, 0, 0, 0, 0, []⟩, 0, none, [], [], 0, 0, [], [], 0, none, 0, ⟨0, 0, 0, 0, 0⟩⟩
     let out : Nat := State.mkHandle 2 1 5
     let src : Nat := 0
     let instant : Nat := 0
     Tests.nextIs (exec (.jrpTake h out src instant) s) fun t =>
       decide ((t.jrp.sessions.map fun y => (y.id, y.last, y.high, y.queue.map fun q => (q.txid, q.epoch))) = [(x.id, s.now, (State.txWindow x h.txid).high, [(h.txid, h.epoch)])]) &&
       decide (t.out = s.out) &&
       decide (t.regs = s.regs) &&
       decide (t.fab = s.fab) &&
       decide (t.chn = s.chn)) = true := by decide +kernel

/-- JRP_TAKE at once, or of a past instant, stands in the pending slot for its peer; it is answered with the final status still
to come, which is awaited. -/
theorem test_jrp_takes_1 :
    (let s : State := (({ ((((State.reset.set Reg.FAB.CTRL_EN 1).set (Reg.CHN.ENT_HANDLE 1) (State.mkHandle 2 1 5)).set (Reg.CHN.ENT_STATE_STATE 1) 1)) with jrp := { State.reset.jrp with sessions := [⟨77, 2, false, 64, 0xC0A80101, 5000, 1, none, 0, ⟨2, 0, false, false, 77, 0, 0, 0, 0, []⟩, 0, none, [], [], 128000000, 0, [], [], 0, none, 0, ⟨0, 0, 0, 0, 0⟩⟩], peers := [⟨2, 0xC0A80101, 0, 63, 0⟩] } } : State) |>.set Reg.CFG.STAT_STEP 9)
     let h : JrpHdr := ⟨64, 0xC0A80101, 5000, 14720, false, true, true, 77, 9, 0, 0⟩
     let x : JrpSession := ⟨77, 2, false, 64, 0xC0A80101, 5000, 1, none, 0, ⟨2, 0, false, false, 77, 0, 0, 0, 0, []⟩, 0, none, [], [], 128000000, 0, [], [], 0, none, 0, ⟨0, 0, 0, 0, 0⟩⟩
     let out : Nat := State.mkHandle 2 1 5
     let i : Nat := 1
     let src : Nat := 0
     let instant : Nat := 0
     Tests.nextIs (exec (.jrpTake h out src instant) s) fun t =>
       decide (Replied x h.txid 0 [0xFFFF, 0, 0, 0, 0] t) &&
       decide ((t.outTakes i).pend = some ⟨src, s.timeNs, x.peer + 1, 0, if instant = 0 then 0 else 16⟩) &&
       decide (t.get (Reg.FAB.RT_PENDV i) = 1) &&
       decide (t.get (Reg.FAB.RT_CUR i) = s.get (Reg.FAB.RT_CUR i)) &&
       decide ((t.jrp.awaits.drop s.jrp.awaits.length).map (fun w => (w.session, w.txid, w.left, w.status)) = [(x.id, h.txid, 1, none)])) = true := by decide +kernel

/-- SALVO_OPEN of a new global ID takes a free local salvo; -/
theorem test_jrp_salvos_1 :
    (let s : State := (({ ((((State.reset.set Reg.FAB.CTRL_EN 1).set (Reg.CHN.ENT_HANDLE 1) (State.mkHandle 2 1 5)).set (Reg.CHN.ENT_STATE_STATE 1) 1)) with jrp := { State.reset.jrp with sessions := [⟨77, 2, false, 64, 0xC0A80101, 5000, 1, none, 0, ⟨2, 0, false, false, 77, 0, 0, 0, 0, []⟩, 0, none, [], [], 128000000, 0, [], [], 0, none, 0, ⟨0, 0, 0, 0, 0⟩⟩], peers := [⟨2, 0xC0A80101, 0, 63, 0⟩] } } : State) |>.set Reg.CFG.STAT_STEP 9)
     let h : JrpHdr := ⟨64, 0xC0A80101, 5000, 14720, false, true, true, 77, 9, 0, 0⟩
     let x : JrpSession := ⟨77, 2, false, 64, 0xC0A80101, 5000, 1, none, 0, ⟨2, 0, false, false, 77, 0, 0, 0, 0, []⟩, 0, none, [], [], 128000000, 0, [], [], 0, none, 0, ⟨0, 0, 0, 0, 0⟩⟩
     let gid : Nat := 5
     let v : Nat := 0
     Tests.nextIs (exec (.salvoOpen h gid) s) fun t =>
       decide (Replied x h.txid 0 [0, 0] t) &&
       decide (∃ y, Assoc.find t.fab.salvos v = some y ∧ y.gid = gid ∧ y.takes = [] ∧ y.armed = none)) = true := by decide +kernel

/-- DTAKE resolves both positions; on members of this chip the take is carried out here, with the results of a JRP_TAKE. -/
theorem test_jrp_druse_takes_1 :
    (let s : State := (({ (({ (((State.reset.set Reg.FAB.CTRL_EN 1).set (Reg.CHN.ENT_HANDLE 1) (State.mkHandle 2 1 5)).set (Reg.CHN.ENT_STATE_STATE 1) 1) with chn := { State.reset.chn with chans := [(3, ⟨10, [], [], 0, 5, true, 0, 0, 0, [], []⟩)], druses := [(5, [⟨0, 0, State.mkHandle 1 4 1, 0, 0⟩, ⟨0, 0, State.mkHandle 2 1 5, 0, 0⟩])], nextIndex := 4 } } : State)) with jrp := { State.reset.jrp with sessions := [⟨77, 2, false, 64, 0xC0A80101, 5000, 1, none, 0, ⟨2, 0, false, false, 77, 0, 0, 0, 0, []⟩, 0, none, [], [], 128000000, 0, [], [], 0, none, 0, ⟨0, 0, 0, 0, 0⟩⟩], peers := [⟨2, 0xC0A80101, 0, 63, 0⟩] } } : State) |>.set Reg.CFG.STAT_STEP 9 |>.set Reg.CHN.CTRL_EN 1 |>.set (Reg.CHN.ENT_HANDLE 3) (State.mkHandle 10 3 7) |>.set (Reg.CHN.ENT_STATE_STATE 3) 1 |>.set (Reg.CHN.ENT_HANDLE 4) (State.mkHandle 1 4 1) |>.set (Reg.CHN.ENT_STATE_STATE 4) 1)
     let h : JrpHdr := ⟨64, 0xC0A80101, 5000, 14720, false, true, true, 77, 9, 0, 0⟩
     let x : JrpSession := ⟨77, 2, false, 64, 0xC0A80101, 5000, 1, none, 0, ⟨2, 0, false, false, 77, 0, 0, 0, 0, []⟩, 0, none, [], [], 128000000, 0, [], [], 0, none, 0, ⟨0, 0, 0, 0, 0⟩⟩
     let druse : Nat := State.mkHandle 10 3 7
     let ip : Nat := 0
     let op : Nat := 0
     let instant : Nat := 0
     let src : Nat := State.mkHandle 1 4 1
     let out : Nat := State.mkHandle 2 1 5
     Tests.nextIs (exec (.dtake h druse ip op instant) s) fun t =>
       decide (Replied x h.txid 0 [0xFFFF, 0, 0, 0, 0] t) &&
       decide ((t.outTakes (State.handleIdx out)).pend = some ⟨src, s.timeNs, x.peer + 1, 0, if instant = 0 then 0 else 16⟩) &&
       decide ((t.jrp.awaits.drop s.jrp.awaits.length).map (fun w => (w.session, w.txid, w.left, w.status)) = [(x.id, h.txid, 1, none)])) = true := by decide +kernel

/-- JRP_CREATE of a channel of any kind that passes its checks and waits for nothing takes a free index, and its answer carries
the handle; -/
theorem test_jrp_channels_1 :
    (let s : State := (({ (State.reset) with jrp := { State.reset.jrp with sessions := [⟨77, 2, false, 64, 0xC0A80101, 5000, 1, none, 0, ⟨2, 0, false, false, 77, 0, 0, 0, 0, []⟩, 0, none, [], [], 128000000, 0, [], [], 0, none, 0, ⟨0, 0, 0, 0, 0⟩⟩], peers := [⟨2, 0xC0A80101, 0, 63, 0⟩] } } : State) |>.set Reg.CFG.STAT_STEP 9 |>.set Reg.CHN.CTRL_EN 1)
     let h : JrpHdr := ⟨64, 0xC0A80101, 5000, 14720, false, true, true, 77, 9, 0, 0⟩
     let x : JrpSession := ⟨77, 2, false, 64, 0xC0A80101, 5000, 1, none, 0, ⟨2, 0, false, false, 77, 0, 0, 0, 0, []⟩, 0, none, [], [], 128000000, 0, [], [], 0, none, 0, ⟨0, 0, 0, 0, 0⟩⟩
     let a : List Nat := [0xA0000000, 0, 0, 0, 0, 0, 0, 0]
     let desc : List Nat := []
     let i : Nat := 0
     Tests.nextIs (exec (.jrpCreate h a desc) s) fun t =>
       decide (Replied x h.txid 0 [0, 0, State.mkHandle (argKind a) i (State.handleGen (s.get (Reg.CHN.ENT_HANDLE i)))] t) &&
       decide (t.get (Reg.CHN.ENT_STATE_STATE i) = 1) &&
       decide (∃ c, t.chan i = some c ∧ c.kind = argKind a ∧ c.live = true)) = true := by decide +kernel

/-- UPD_STAGE with BEGIN opens a staging; -/
theorem test_jrp_update_and_keys_1 :
    (let s : State := (({ (State.reset) with jrp := { State.reset.jrp with sessions := [⟨77, 2, false, 64, 0xC0A80101, 5000, 1, none, 0, ⟨2, 0, false, false, 77, 0, 0, 0, 0, []⟩, 0, none, [], [], 128000000, 0, [], [], 0, none, 0, ⟨0, 0, 0, 0, 0⟩⟩], peers := [⟨2, 0xC0A80101, 0, 63, 0⟩] } } : State) |>.set Reg.CFG.STAT_STEP 9)
     let h : JrpHdr := ⟨64, 0xC0A80101, 5000, 14720, false, true, true, 77, 9, 0, 0⟩
     let x : JrpSession := ⟨77, 2, false, 64, 0xC0A80101, 5000, 1, none, 0, ⟨2, 0, false, false, 77, 0, 0, 0, 0, []⟩, 0, none, [], [], 128000000, 0, [], [], 0, none, 0, ⟨0, 0, 0, 0, 0⟩⟩
     let b : List Byte := []
     let rd : StageRead := ⟨none, none⟩
     let a : Nat := 3
     Tests.nextIs (exec (.updStage h 1 [a] b rd) s) fun t =>
       decide (Replied x h.txid 0 [0, 0] t) &&
       decide (t.get Reg.UPD.STAT_STATE = 1) &&
       decide (t.upd.fw = bit a 0) &&
       decide (t.upd.cfg = bit a 1) &&
       decide (t.fuses = s.fuses)) = true := by decide +kernel

/-- While SWAPPEND is 1, a write of LUTDATA changes no table and sets LUT_IGN. -/
theorem test_loads_wait_for_the_swap_1 :
    (let s : State := State.reset.set (Reg.CNV.STAT_SWAPPEND 3) 1
     let m : Nat := 0
     let n : Nat := 3
     let data : Word := 7
     Tests.nextIs (exec (.cnvLutdataAccess m n true data) s) fun t =>
       decide (t.get (Reg.CNV.STAT_LUT_IGN n) = 1) &&
       decide (t.cnv = s.cnv) &&
       decide (t.cnvNext n = s.cnvNext n)) = true := by decide +kernel

/-- The checks of the parts of commands refuse a value out of range. -/
theorem test_wf_refuses_parts :
    ([AncPkt.wf ⟨2048, 0, 0, 0, [], true, false⟩, AncPkt.wf ⟨0, 8, 0, 0, [], true, false⟩, AncPkt.wf ⟨0, 0, 256, 0, [], true, false⟩, AncPkt.wf ⟨0, 0, 0, 256, [], true, false⟩, AncPkt.wf ⟨0, 0, 0, 0, List.replicate 256 0, true, false⟩, AncPkt.wf ⟨0, 0, 0, 0, [1024], true, false⟩,
      Token.wf ⟨0x40000, 0, 0, 0⟩, Token.wf ⟨0, 0x4000, 0, 0⟩, Token.wf ⟨0, 0, 0x10000, 0⟩, Token.wf ⟨0, 0, 0, 0x10000⟩,
      Frame.wf ⟨0x100000000, none, 0, false, [], []⟩, Frame.wf ⟨0, some ⟨0x40000, 0, 0, 0⟩, 0, false, [], []⟩, Frame.wf ⟨0, none, 4, false, [], []⟩, Frame.wf ⟨0, none, 0, false, [], [⟨2048, 0, 0, 0, [], true, false⟩]⟩,
      Sample.wf ⟨0, 16⟩, VoiceBlock.wf ⟨32768, 0, 0, 0, []⟩, VoiceBlock.wf ⟨0, 0, 0, 0x10000, []⟩, VoiceBlock.wf ⟨0, 0, 0, 0, [⟨0, 16⟩]⟩,
      SdiLine.wf ⟨some 1024, none, 0, false, false, false, 0⟩, SdiLine.wf ⟨none, some 1024, 0, false, false, false, 0⟩, SdiPid.wf ⟨0x100000000, 0, 0⟩, SdiPid.wf ⟨0, 0x100000000, 0⟩,
      AudioPkt.wf ⟨0, 9, none, 0, 0, []⟩, AudioPkt.wf ⟨0, 0, none, 3, 0, []⟩, AudioPkt.wf ⟨0, 0, none, 0, 3, []⟩, AudioPkt.wf ⟨0, 0, none, 0, 0, [⟨0, 16⟩]⟩,
      FabricCell.wf ⟨[], 0, 0, none, 0⟩, FabricCell.wf ⟨List.replicate 16 0, 4, 0, none, 0⟩, FabricCell.wf ⟨List.replicate 16 0, 0, 0, some ⟨0, ⟨0, none, 4, false, [], []⟩⟩, 0⟩,
      ServiceCell.wf ⟨0x40000, 0, 0, false, 0, none, 0⟩, ServiceCell.wf ⟨0, 512, 0, false, 0, none, 0⟩, ServiceCell.wf ⟨0, 0, 0, false, 512, none, 0⟩,
      GbusFrame.wf ⟨16, 0, 0, 0, 0, 0, 0, [], true, true, 0, false⟩, GbusFrame.wf ⟨0, 64, 0, 0, 0, 0, 0, [], true, true, 0, false⟩, GbusFrame.wf ⟨0, 0, 0x40000, 0, 0, 0, 0, [], true, true, 0, false⟩, GbusFrame.wf ⟨0, 0, 0, 0, 512, 0, 0, [], true, true, 0, false⟩,
      TrainResult.wf ⟨32, 0, 0, 0⟩, TrainResult.wf ⟨0, 4, 0, 0⟩, StartEnv.wf ⟨some 256, none, none⟩, StartEnv.wf ⟨none, some 2, none⟩, StartEnv.wf ⟨none, none, some 0x100000000⟩,
      JrpHdr.wf ⟨66, 0, 0, 0, false, true, true, 0, 0, 0, 0⟩, JrpHdr.wf ⟨0, 0x100000000, 0, 0, false, true, true, 0, 0, 0, 0⟩, JrpHdr.wf ⟨0, 0, 0x10000, 0, false, true, true, 0, 0, 0, 0⟩, JrpHdr.wf ⟨0, 0, 0, 0, false, true, true, 0x100000000, 0, 0, 0⟩, JrpHdr.wf ⟨0, 0, 0, 0, false, true, true, 0, 0x100000000, 0, 0⟩, JrpHdr.wf ⟨0, 0, 0, 0, false, true, true, 0, 0, 0x100000000, 0⟩, JrpHdr.wf ⟨0, 0, 0, 0, false, true, true, 0, 0, 0, 0x100000000⟩, JrpHdr.wf ⟨0, 0, 0, 0x10000, false, true, true, 0, 0, 0, 0⟩,
      PtpMsg.wf ⟨256, 0, 0, false, 0, .syncTwoStep⟩, PtpMsg.wf ⟨0, 0x10000, 0, false, 0, .syncTwoStep⟩, MirrorRec.wf ⟨0, ⟨10, 0, 0, [], 0⟩, 0, 0, 0, 0, 0⟩, Instr.wf (.latchRecordRx true [⟨16384, ⟨0, 0, 0, 0, 0⟩⟩]), Instr.wf (.signatureRx true 0 [⟨8192, 0, false⟩]),
      JrpSub.wf (.events 1536 0 0), JrpSub.wf (.events 0 1536 0), JrpSub.wf (.events 0 0 4), JrpSub.wf (.routes 16384 0), JrpSub.wf (.routes 0 16384),
      Instr.wf (.frameStart 0 0 [] [⟨2048, 0, 0, 0, [], true, false⟩]), Instr.wf (.sdiLine 0 ⟨some 1024, none, 0, false, false, false, 0⟩), Instr.wf (.sdiFrameStart 0 0 ⟨some ⟨0x100000000, 0, 0⟩, none⟩), Instr.wf (.ancPacketRx 0 ⟨2048, 0, 0, 0, [], true, false⟩), Instr.wf (.audioPacketRx 0 ⟨0, 9, none, 0, 0, []⟩),
      Instr.wf (.ipmFrameRelease 0 [] [⟨2048, 0, 0, 0, [], true, false⟩]), Instr.wf (.audioBlockBoundary [⟨32768, 0, 0, 0, []⟩]), Instr.wf (.cnvFrame 0 [(0, 0)]), Instr.wf (.cellRx 0 ⟨[], 0, 0, none, 0⟩), Instr.wf (.serviceCellRx 0 ⟨0, 512, 0, false, 0, none, 0⟩),
      Instr.wf (.dramTrainDone [⟨32, 0, 0, 0⟩]), Instr.wf (.gbusFrameRx 0 0 ⟨0, 64, 0, 0, 0, 0, 0, [], true, true, 0, false⟩), Instr.wf (.micaSet ⟨0, 0, 0, 0, false, true, true, 0, 0, 0, 0⟩ 0 [(0, 0x100000000)] false), Instr.wf (.subscribe ⟨0, 0, 0, 0, false, true, true, 0, 0, 0, 0⟩ (.routes 0 16384)), Instr.wf (.salvoAdd ⟨0, 0, 0, 0, false, true, true, 0, 0, 0, 0⟩ 0 ⟨none, [(0, 0x100000000)]⟩),
      Instr.wf (.salvoAdd ⟨0, 0, 0, 0, false, true, true, 0, 0, 0, 0⟩ 0 ⟨some 0x100000000, []⟩), Instr.wf (.linkUpRecordRx true ⟨2 ^ 64, 0, 0⟩ 0 0 1), Instr.wf (.memberAnswer 0 0 0 ⟨262144, [], none⟩), Instr.wf (.jrpAppend ⟨0, 0, 0, 0, false, true, true, 0, 0, 0, 0⟩ ⟨[0x100000000], none⟩), Instr.wf (.jrpAppend ⟨0, 0, 0, 0, false, true, true, 0, 0, 0, 0⟩ ⟨[], some (262144, 0)⟩), Instr.wf (.jrpAppend ⟨0, 0, 0, 0, false, true, true, 0, 0, 0, 0⟩ ⟨[], some (0, 0x100000000)⟩)] : List Bool).all not = true := by
  decide +kernel

/-- Each check of `Instr.wf` refuses a command whose operand is out of its range. -/
theorem test_wf_refuses_1 :
    ([.registerWrite 8 0x10000012 4 5, .registerWrite 0 0x100000000 4 5, .registerWrite 0 0x10000012 5 5, 
      .domainWriteEffect 0x2B050000, .domainWriteEffect 0x10000001, .unlock 8 0xFFFFC3A5, .unlockTimeout 8, 
      .blockSoftReset 8 0x18000000 2, .blockSoftReset 0 0x2B050000 2, .blockSoftReset 0 0x10000001 2, 
      .blockSoftReset 0 0x18000000 1, .blockEnable 8 0x18001000 1, .blockEnable 0 0x2B050000 1, 
      .blockEnable 0 0x10000001 1, .blockEnable 0 0x18001000 0, .blockEnable 0 0x18001000 3, 
      .blockDisable 8 0x15000000 0, .blockDisable 0 0x2B050000 0, .blockDisable 0 0x10000001 0, 
      .blockDisable 0 0x15000000 1, .blockDisable 0 0x15000000 2, .blockStopDone 0x2B050000, 
      .blockStopDone 0x10000001, .powerOnReset (⟨none, .bypass⟩ : CardInput) ⟨some 256, none, none⟩, 
      .powerOnReset (⟨none, .bypass⟩ : CardInput) ⟨none, some 2, none⟩, 
      .warmRestart 5 (⟨none, none, none⟩ : StartEnv), .warmRestart 0 (⟨none, none, none⟩ : StartEnv), 
      .warmRestart 1 ⟨some 256, none, none⟩, .warmRestart 1 ⟨none, some 2, none⟩, 
      .frameStart 8192 0x1000000 ([] : List Pix) ([] : List AncPkt), 
      .frameStart 4 0x100000000 ([] : List Pix) ([] : List AncPkt), .noFrameTimeout 8192, .ingressCellWrite 8192, 
      .egressReadPoint 8192 ([1, 0] : List Nat) 0, .planeFrameInstant 16, .create 8, .destroy 8, .append 8, 
      .resolve 8, .chnLowmarkWrite 8 5000, .appendClaimAnswer 256 0 (4, 6), .appendClaimAnswer 0 0x100000000 (4, 6), 
      .entryRelease 16384, .take 8 7, .take 0 65] : List Instr).all (fun c => !c.wf) = true := by
  decide +kernel

/-- Each check of `Instr.wf` refuses a command whose operand is out of its range. -/
theorem test_wf_refuses_2 :
    ([.cancel 8 7, .cancel 0 65, .lock 8 7, .lock 0 65, .unlockOutput 8 7, .unlockOutput 0 65, .protect 8 7, 
      .protect 0 65, .unprotect 8 7, .unprotect 0 65, .openGid 8 7, .openGid 0 65, .add 8 7, .add 0 65, .arm 8 7, 
      .arm 0 65, .commit 8 7, .commit 0 65, .abort 8 7, .abort 0 65, .salvoOpenExpire 256, .salvoExpired 256, 
      .latchPoint 16384, .switchInstant 16384, .tcqpop 8 1, .outputFrameSend 8192 0 (false) (false), 
      .outputFrameSend 4 4125 (false) (false), .egressCheck 8192, .digestVerdict 8192 (none), 
      .digestVerdict 3 (some 0x10000), .safeContentSwitch 8192, .outclr 8 0x80000003, .chkinvWrite 8 0x80000103, 
      .chkinvDone 0x100000000, .tokinjWrite 8 0x90000103, .scrubRead 12 100 2 0 0, .scrubRead 12 0x100000000 2 0 0, 
      .scrubRead 12 100 73 0 0, .scrubRead 12 100 2 0 2, .rateHuntDwell 512, 
      .sdiLine 576 (⟨none, some 0x200, 2200, false, false, false, 0⟩ : SdiLine), 
      .sdiFrameStart 576 0x1000000 (⟨none, none⟩ : FramePids), 
      .sdiFrameStart 3 0x100000000 (⟨none, none⟩ : FramePids), 
      .ancPacketRx 576 (⟨9, 0, 0x61, 1, [1, 2], true, false⟩ : AncPkt), 
      .audioPacketRx 576 (⟨0, 2, some (48000, true), 0, 0, []⟩ : AudioPkt)] : List Instr).all (fun c => !c.wf) = true := by
  decide +kernel

/-- Each check of `Instr.wf` refuses a command whose operand is out of its range. -/
theorem test_wf_refuses_3 :
    ([.ipmFrameRelease 4096 ([] : List Pix) ([] : List AncPkt), .legDown 4096 1, .legDown 5 2, 
      .audioSampleTick 4096 1, .audioSampleTick 5 73, .ipmPacketSend 4096, .audioFlowSend 4096, 
      .igmpReportTimer 66 0xEF000001, .igmpReportTimer 2 0x100000000, .igmpQueryRx 66 2 0 1000, 
      .igmpQueryRx 2 5 0 1000, .igmpQueryRx 2 2 0x100000000 1000, .igmpCompatTimeout 66, .joinTimeout 4096 1, 
      .joinTimeout 5 2, .source 8, .couple 8, .gain 8, .mute 8, .xfmode 8, .aprtFrame 8 5 48000 ([] : List Nat), 
      .aprtFrame 2 5 48000 [0x100000000], .asrcRelockDone 8, .clklost 8, .swap 8 3 1, .swap 0 32 1, .swapDone 32, 
      .cnvLutdataAccess 8 3 true 0x7777, .cnvLutdataAccess 0 32 true 0x7777, .cnvFrame 32 ([] : List (Nat × Nat)), 
      .bind 8 2, .bind 0 8, .rebind 8 2, .rebind 0 8, .unbind 8 2, .unbind 0 8, .micaCommit 8 2 1, .micaCommit 0 8 1, 
      .reflatten 8 2 1, .reflatten 0 8 1, .flattenDone 8 9, .selectionPoint 8, .micaLutdataAccess 8 2 true 0x7777, 
      .micaLutdataAccess 0 8 true 0x7777, .flintloadGo 8 2 1] : List Instr).all (fun c => !c.wf) = true := by
  decide +kernel

/-- Each check of `Instr.wf` refuses a command whose operand is out of its range. -/
theorem test_wf_refuses_4 :
    ([.flintloadGo 0 8 1, .flintLoadDone 8, .micaFrameWrite 8 (false), .flintFail 8 7, .flintFail 2 0x100000000, 
      .decimatorFrame 256 (true), .layerStaleTimeout 8 3, .layerStaleTimeout 2 64, .flip 8 1, .psrexit 8 1, 
      .nativeRead 8 0x50 3, .nativeRead 0 1048576 3, .nativeRead 0 0x50 16, .nativeWrite 8 0x50 3, 
      .nativeWrite 0 1048576 3, .nativeWrite 0 0x50 16, .i2cRead 8 0x50 3, .i2cRead 0 128 3, .i2cRead 0 0x50 16, 
      .i2cWrite 8 0x50 3, .i2cWrite 0 128 3, .i2cWrite 0 0x50 16, .auxReply 3 ([0x5A, 7, 9] : List Byte), 
      .auxReply 0 (List.replicate 17 0), .signalDetect 512 (true) 0, .cdrLock 512 (false), .cdrLost 512 0, 
      .blockLock 512, .blockLost 512 17, .blockLost 3 1025, 
      .cellRx 512 (⟨(List.replicate 15 0 ++ [BitVec.ofNat 8 (crcBytes 8 7 0 (List.replicate 15 0))]), 0, 5, none, 0⟩ : FabricCell), 
      .polInv 512, .serviceCellSend 512, .serviceCellRx 512 (⟨5, 6, 3, false, 0, none, 0⟩ : ServiceCell), 
      .pllRetuneDone 128 1, .pllRetuneDone 4 2, .pllRetuneTimeout 128 1, .pllRetuneTimeout 4 2, .pllaLost 128 0, 
      .pllaLost 3 2, .pllRelock 128 0, .pllRelock 3 2, .txeqWrite 8 3 0x00023003, .txeqWrite 0 512 0x00023003, 
      .laneCfgWrite 8 3 0x44] : List Instr).all (fun c => !c.wf) = true := by
  decide +kernel

/-- Each check of `Instr.wf` refuses a command whose operand is out of its range. -/
theorem test_wf_refuses_5 :
    ([.laneCfgWrite 0 512 0x44, .eqLimit 512 20 5 6, .eqLimit 3 32 5 6, .eyeMeasure 512 7 9, 
      .ethFrameRx 66 ([1, 2, 3, 4, 5] : List Byte) 0 0 (false), .ethFrameRx 3 (List.replicate 0x10000 0) 0 0 (false), 
      .pauseExpire 66 8, .pauseExpire 3 9, .pauseWd 66 8, .pauseWd 3 9, .pauseWdRelease 66, .txkick 8 3 1, 
      .txkick 0 66 1, .ringFrameSent 66, .linkUp 66, .linkDown 66, .speed 66, .statsnap 8 3 1, .statsnap 0 66 1, 
      .incrWrite 8 2, .stepWrite 8 9, .servoOffset 8 0, .timeModeWrite 8 17, .capture 8 1, .txqPop 8 3 1, 
      .txqPop 0 66 1, .ptpMessageRx 66 5 (⟨0, 1, 2, false, 0, .syncTwoStep⟩ : PtpMsg), .ptpMessageSend 66 .sync 5, 
      .refQual 9, .refQual 0, .ptpstatWrite 8 1, .selWrite 8 false 0x80000003, 
      .loopPhaseCompare 9 (false, (-7 : Int)), .loopPhaseCompare 0 (false, (-7 : Int)), .loopstepWrite 8 0xFFFFFFFF, 
      .planeStep 8 3 5, .planeStep 0 16 5, .refreshDue 32 (true), .mr4Poll 32 5 1 (true), .mr4Poll 3 256 1 (true), 
      .mr4Poll 3 5 8 (true), .requestAgeExpire 32 0, .requestAgeExpire 3 4, .dramRead 0x8000000000 64 2 (.scan) 0, 
      .dramRead 0 64 4 (.scan) 0] : List Instr).all (fun c => !c.wf) = true := by
  decide +kernel

/-- Each check of `Instr.wf` refuses a command whose operand is out of its range. -/
theorem test_wf_refuses_6 :
    ([.dramRead 0 64 2 (.scan) 73, .trackInterval 32 (-5 : Int), .drcChkinvWrite 8 0x80000100, .dwbankWrite 8 5, 
      .linkUpRecordRx (true) ⟨1, 8, 9⟩ 0 0 512, .recover 8, .xchg 8, 
      .cycleCopyRx (true) 0x100000000 9 (true) ([] : List CopyItem), 
      .cycleCopyRx (true) 5 0x100000000 (true) ([] : List CopyItem), .copyAckRx true 0x100000000, 
      .mirrorAckRx true 0x100000000, .mirrorResend 0x100000000, .signatureRx true 0x100000000 [⟨7, 2, (false)⟩], 
      .supplyOkEdge 2 (true), .pmbusPoll 2 (some (⟨1, 2, 3, 4, 5, 6⟩ : PmbusWords)), .txgo 8, 
      .gbusFrameRx 2 3 (({ ver := 1, slot := 3, sys := 9, cycle := 0, claim := 0, devid := 77, terr := 5, payload := [], headerOk := true, payloadOk := true, start := 0, crossed := false } : GbusFrame) : GbusFrame), 
      .gbusFrameRx 1 64 (({ ver := 1, slot := 3, sys := 9, cycle := 0, claim := 0, devid := 77, terr := 5, payload := [], headerOk := true, payloadOk := true, start := 0, crossed := false } : GbusFrame) : GbusFrame), 
      .gbusSlotMiss 64, .gbusPairWindow [64] ([] : List Nat), .gbusPairWindow ([] : List Nat) [64], .terrWrite 8 501, 
      .gbusPop 8, .eventRaise 1536 5, .ack 8 2 1, .ack 0 4 1, .slotHeld 4, .safeclr 8 1, .histclr 8 1, .pintest 8 2, 
      .lockstep ⟨some 256, none, none⟩, .lockstep ⟨none, some 2, none⟩, .wdsvc 8 0xA55A, 
      .watchdogRestart ⟨some 256, none, none⟩, .watchdogRestart ⟨none, some 2, none⟩, .lockedRead 8 0x11000001, 
      .lockedRead 3 0x100000000, .remapWrite 8 5, .dmaGo 8 1 1, .dmaGo 0 2 1, .dmaDone 2, 
      .sensorConversion (true) 65536 (false), .trig 8 5, .spWrite (List.replicate 11 0), 
      .spRead (List.replicate 11 0)] : List Instr).all (fun c => !c.wf) = true := by
  decide +kernel

/-- Each check of `Instr.wf` refuses a command whose operand is out of its range. -/
theorem test_wf_refuses_7 :
    ([.spStatus (List.replicate 11 0), .lcChange 8 2, .lcChange 0 16, .keymsg 8 (none), .attest 8, .begin 8, 
      .write 8, .verify 8 (⟨none, none⟩ : StageRead), .updCommit 8 (⟨none, none, none⟩ : StartEnv), 
      .updCommit 0 ⟨some 256, none, none⟩, .updCommit 0 ⟨none, some 2, none⟩, .confirm 8, .updAbort 8, 
      .trialFallback ⟨some 256, none, none⟩, .trialFallback ⟨none, some 2, none⟩, 
      .jrpOpen ⟨66, 0, 0, 0, false, true, true, 0, 0, 0, 0⟩ 2 0 5 (none) (true), 
      .jrpOpen (⟨64, 0xC0A80101, 5000, 14720, false, true, true, 77, 9, 0, 0⟩ : JrpHdr) 64 0 5 (none) (true), 
      .jrpOpen (⟨64, 0xC0A80101, 5000, 14720, false, true, true, 77, 9, 0, 0⟩ : JrpHdr) 2 0x100000000 5 (none) (true), 
      .close ⟨66, 0, 0, 0, false, true, true, 0, 0, 0, 0⟩, .sessionTimeout 0x100000000, 
      .sessionRetainExpire 0x100000000, .nop ⟨66, 0, 0, 0, false, true, true, 0, 0, 0, 0⟩ (true), 
      .jrpTake ⟨66, 0, 0, 0, false, true, true, 0, 0, 0, 0⟩ (State.mkHandle 2 1 5 : Nat) 0 0, 
      .jrpTake (⟨64, 0xC0A80101, 5000, 14720, false, true, true, 77, 9, 0, 0⟩ : JrpHdr) 0x100000000 0 0, 
      .jrpTake (⟨64, 0xC0A80101, 5000, 14720, false, true, true, 77, 9, 0, 0⟩ : JrpHdr) (State.mkHandle 2 1 5 : Nat) 0x100000000 0, 
      .jrpTake (⟨64, 0xC0A80101, 5000, 14720, false, true, true, 77, 9, 0, 0⟩ : JrpHdr) (State.mkHandle 2 1 5 : Nat) 0 (2 ^ 96), 
      .jrpCancel ⟨66, 0, 0, 0, false, true, true, 0, 0, 0, 0⟩ 4, 
      .jrpCancel (⟨64, 0xC0A80101, 5000, 14720, false, true, true, 77, 9, 0, 0⟩ : JrpHdr) 0x100000000, 
      .jrpLock ⟨66, 0, 0, 0, false, true, true, 0, 0, 0, 0⟩ (State.mkHandle 2 1 5 : Nat), 
      .jrpLock (⟨64, 0xC0A80101, 5000, 14720, false, true, true, 77, 9, 0, 0⟩ : JrpHdr) 0x100000000, 
      .jrpUnlock ⟨66, 0, 0, 0, false, true, true, 0, 0, 0, 0⟩ (State.mkHandle 2 1 5 : Nat), 
      .jrpUnlock (⟨64, 0xC0A80101, 5000, 14720, false, true, true, 77, 9, 0, 0⟩ : JrpHdr) 0x100000000, 
      .jrpProtect ⟨66, 0, 0, 0, false, true, true, 0, 0, 0, 0⟩ (State.mkHandle 2 1 5 : Nat), 
      .jrpProtect (⟨64, 0xC0A80101, 5000, 14720, false, true, true, 77, 9, 0, 0⟩ : JrpHdr) 0x100000000, 
      .jrpUnprotect ⟨66, 0, 0, 0, false, true, true, 0, 0, 0, 0⟩ (State.mkHandle 2 1 5 : Nat), 
      .jrpUnprotect (⟨64, 0xC0A80101, 5000, 14720, false, true, true, 77, 9, 0, 0⟩ : JrpHdr) 0x100000000, 
      .dtake ⟨66, 0, 0, 0, false, true, true, 0, 0, 0, 0⟩ (State.mkHandle 10 3 7 : Nat) 0 0 0, 
      .dtake (⟨64, 0xC0A80101, 5000, 14720, false, true, true, 77, 9, 0, 0⟩ : JrpHdr) 0x100000000 0 0 0, 
      .dtake (⟨64, 0xC0A80101, 5000, 14720, false, true, true, 77, 9, 0, 0⟩ : JrpHdr) (State.mkHandle 10 3 7 : Nat) 0x100000000 0 0, 
      .dtake (⟨64, 0xC0A80101, 5000, 14720, false, true, true, 77, 9, 0, 0⟩ : JrpHdr) (State.mkHandle 10 3 7 : Nat) 0 0x100000000 0, 
      .dtake (⟨64, 0xC0A80101, 5000, 14720, false, true, true, 77, 9, 0, 0⟩ : JrpHdr) (State.mkHandle 10 3 7 : Nat) 0 0 (2 ^ 96), 
      .druseForwardTimeout 0x100000000 (⟨9, 0, .dtake 5 0 0 0⟩ : JrpQueued).txid, 
      .druseForwardTimeout (⟨77, 2, false, 64, 0xC0A80101, 5000, 1, none, 0, ⟨2, 0, false, false, 77, 0, 0, 0, 0, []⟩, 0, some 9, [⟨9, none, false, none⟩], [], 128000000, 0, [], [], 0, none, 0, ⟨0, 0, 0, 0, 0⟩⟩ : JrpSession).id 0x100000000, 
      .salvoOpen ⟨66, 0, 0, 0, false, true, true, 0, 0, 0, 0⟩ 5, 
      .salvoOpen (⟨64, 0xC0A80101, 5000, 14720, false, true, true, 77, 9, 0, 0⟩ : JrpHdr) 0x100000000] : List Instr).all (fun c => !c.wf) = true := by
  decide +kernel

/-- Each check of `Instr.wf` refuses a command whose operand is out of its range. -/
theorem test_wf_refuses_8 :
    ([.salvoAdd ⟨66, 0, 0, 0, false, true, true, 0, 0, 0, 0⟩ 5 ⟨none, [((State.mkHandle 2 1 5 : Nat), 0)]⟩, 
      .salvoAdd (⟨64, 0xC0A80101, 5000, 14720, false, true, true, 77, 9, 0, 0⟩ : JrpHdr) 0x100000000 ⟨none, [((State.mkHandle 2 1 5 : Nat), 0)]⟩, 
      .salvoArm ⟨66, 0, 0, 0, false, true, true, 0, 0, 0, 0⟩ 5 0 0, 
      .salvoArm (⟨64, 0xC0A80101, 5000, 14720, false, true, true, 77, 9, 0, 0⟩ : JrpHdr) 0x100000000 0 0, 
      .salvoArm (⟨64, 0xC0A80101, 5000, 14720, false, true, true, 77, 9, 0, 0⟩ : JrpHdr) 5 (2 ^ 96) 0, 
      .salvoCommit ⟨66, 0, 0, 0, false, true, true, 0, 0, 0, 0⟩ 5, 
      .salvoCommit (⟨64, 0xC0A80101, 5000, 14720, false, true, true, 77, 9, 0, 0⟩ : JrpHdr) 0x100000000, 
      .salvoAbort ⟨66, 0, 0, 0, false, true, true, 0, 0, 0, 0⟩ 5, 
      .salvoAbort (⟨64, 0xC0A80101, 5000, 14720, false, true, true, 77, 9, 0, 0⟩ : JrpHdr) 0x100000000, 
      .jrpCreate ⟨66, 0, 0, 0, false, true, true, 0, 0, 0, 0⟩ ([0xA0000000, 0, 0, 0, 0, 0, 0, 0] : List Nat) ([] : List Nat), 
      .jrpCreate (⟨64, 0xC0A80101, 5000, 14720, false, true, true, 77, 9, 0, 0⟩ : JrpHdr) [0x100000000] ([] : List Nat), 
      .jrpCreate (⟨64, 0xC0A80101, 5000, 14720, false, true, true, 77, 9, 0, 0⟩ : JrpHdr) ([0xA0000000, 0, 0, 0, 0, 0, 0, 0] : List Nat) [0x100000000], 
      .jrpDestroy ⟨66, 0, 0, 0, false, true, true, 0, 0, 0, 0⟩ (State.mkHandle 10 3 7 : Nat), 
      .jrpDestroy (⟨64, 0xC0A80101, 5000, 14720, false, true, true, 77, 9, 0, 0⟩ : JrpHdr) 0x100000000, 
      .jrpAppend ⟨66, 0, 0, 0, false, true, true, 0, 0, 0, 0⟩ ⟨([State.mkHandle 10 3 7, 0x10000000, 0, 0, 0, 0, 0, 0] : List Nat), none⟩, 
      .jrpResolve ⟨66, 0, 0, 0, false, true, true, 0, 0, 0, 0⟩ (State.mkHandle 10 3 7 : Nat) 0 0, 
      .jrpResolve (⟨64, 0xC0A80101, 5000, 14720, false, true, true, 77, 9, 0, 0⟩ : JrpHdr) 0x100000000 0 0, 
      .jrpResolve (⟨64, 0xC0A80101, 5000, 14720, false, true, true, 77, 9, 0, 0⟩ : JrpHdr) (State.mkHandle 10 3 7 : Nat) 2 0, 
      .jrpResolve (⟨64, 0xC0A80101, 5000, 14720, false, true, true, 77, 9, 0, 0⟩ : JrpHdr) (State.mkHandle 10 3 7 : Nat) 0 0x100000000, 
      .voice ⟨66, 0, 0, 0, false, true, true, 0, 0, 0, 0⟩ 1 [700, 0x8050, 0], 
      .voice (⟨64, 0xC0A80101, 5000, 14720, false, true, true, 77, 9, 0, 0⟩ : JrpHdr) 256 [700, 0x8050, 0], 
      .voice (⟨64, 0xC0A80101, 5000, 14720, false, true, true, 77, 9, 0, 0⟩ : JrpHdr) 1 [0x100000000], 
      .layer ⟨66, 0, 0, 0, false, true, true, 0, 0, 0, 0⟩ (State.mkHandle 8 9 1 : Nat) 1 [3, (State.mkHandle 1 5 1 : Nat), (540 * 65536 + 960 : Nat)], 
      .layer (⟨64, 0xC0A80101, 5000, 14720, false, true, true, 77, 9, 0, 0⟩ : JrpHdr) 0x100000000 1 [3, (State.mkHandle 1 5 1 : Nat), (540 * 65536 + 960 : Nat)], 
      .layer (⟨64, 0xC0A80101, 5000, 14720, false, true, true, 77, 9, 0, 0⟩ : JrpHdr) (State.mkHandle 8 9 1 : Nat) 256 [3, (State.mkHandle 1 5 1 : Nat), (540 * 65536 + 960 : Nat)], 
      .layer (⟨64, 0xC0A80101, 5000, 14720, false, true, true, 77, 9, 0, 0⟩ : JrpHdr) (State.mkHandle 8 9 1 : Nat) 1 [0x100000000], 
      .micaSet ⟨66, 0, 0, 0, false, true, true, 0, 0, 0, 0⟩ (State.mkHandle 8 9 1 : Nat) [(0x1C, 0x5000)] false, 
      .micaSet (⟨64, 0xC0A80101, 5000, 14720, false, true, true, 77, 9, 0, 0⟩ : JrpHdr) 0x100000000 [(0x1C, 0x5000)] false, 
      .flintLoad ⟨66, 0, 0, 0, false, true, true, 0, 0, 0, 0⟩ (State.mkHandle 8 9 1 : Nat) 0x4000 77, 
      .flintLoad (⟨64, 0xC0A80101, 5000, 14720, false, true, true, 77, 9, 0, 0⟩ : JrpHdr) 0x100000000 0x4000 77, 
      .flintLoad (⟨64, 0xC0A80101, 5000, 14720, false, true, true, 77, 9, 0, 0⟩ : JrpHdr) (State.mkHandle 8 9 1 : Nat) 0x4000 0x100000000, 
      .cnvLoad ⟨66, 0, 0, 0, false, true, true, 0, 0, 0, 0⟩ 7 0 0 ([] : List Nat), 
      .cnvLoad (⟨64, 0xC0A80101, 5000, 14720, false, true, true, 77, 9, 0, 0⟩ : JrpHdr) 0x100000000 0 0 ([] : List Nat), 
      .cnvLoad (⟨64, 0xC0A80101, 5000, 14720, false, true, true, 77, 9, 0, 0⟩ : JrpHdr) 7 0x100000000 0 ([] : List Nat), 
      .cnvLoad (⟨64, 0xC0A80101, 5000, 14720, false, true, true, 77, 9, 0, 0⟩ : JrpHdr) 7 0 0x100000000 ([] : List Nat), 
      .cnvLoad (⟨64, 0xC0A80101, 5000, 14720, false, true, true, 77, 9, 0, 0⟩ : JrpHdr) 7 0 0 [0x100000000], 
      .cnvSwap ⟨66, 0, 0, 0, false, true, true, 0, 0, 0, 0⟩ (State.mkHandle 7 9 1 : Nat), 
      .cnvSwap (⟨64, 0xC0A80101, 5000, 14720, false, true, true, 77, 9, 0, 0⟩ : JrpHdr) 0x100000000, 
      .query ⟨66, 0, 0, 0, false, true, true, 0, 0, 0, 0⟩ 4 0 5, 
      .query (⟨64, 0xC0A80101, 5000, 14720, false, true, true, 77, 9, 0, 0⟩ : JrpHdr) 65536 0 5, 
      .query (⟨64, 0xC0A80101, 5000, 14720, false, true, true, 77, 9, 0, 0⟩ : JrpHdr) 4 0x100000000 5, 
      .query (⟨64, 0xC0A80101, 5000, 14720, false, true, true, 77, 9, 0, 0⟩ : JrpHdr) 4 0 65536, 
      .subscribe ⟨66, 0, 0, 0, false, true, true, 0, 0, 0, 0⟩ (.routes 0 5 : JrpSub), 
      .unsubscribe ⟨66, 0, 0, 0, false, true, true, 0, 0, 0, 0⟩ 3, 
      .unsubscribe (⟨64, 0xC0A80101, 5000, 14720, false, true, true, 77, 9, 0, 0⟩ : JrpHdr) 0x100000000] : List Instr).all (fun c => !c.wf) = true := by
  decide +kernel

/-- Each check of `Instr.wf` refuses a command whose operand is out of its range. -/
theorem test_wf_refuses_9 :
    ([.jrpAttest ⟨66, 0, 0, 0, false, true, true, 0, 0, 0, 0⟩ (List.replicate 32 1 : List Byte), 
      .jrpAttest (⟨64, 0xC0A80101, 5000, 14720, false, true, true, 77, 9, 0, 0⟩ : JrpHdr) (List.replicate 31 0), 
      .updStage ⟨66, 0, 0, 0, false, true, true, 0, 0, 0, 0⟩ 1 [3] ([] : List Byte) (⟨none, none⟩ : StageRead), 
      .updStage (⟨64, 0xC0A80101, 5000, 14720, false, true, true, 77, 9, 0, 0⟩ : JrpHdr) 256 [3] ([] : List Byte) (⟨none, none⟩ : StageRead), 
      .updStage (⟨64, 0xC0A80101, 5000, 14720, false, true, true, 77, 9, 0, 0⟩ : JrpHdr) 1 [0x100000000] ([] : List Byte) (⟨none, none⟩ : StageRead), 
      .updStage (⟨64, 0xC0A80101, 5000, 14720, false, true, true, 77, 9, 0, 0⟩ : JrpHdr) 1 [3] (List.replicate 1429 0) (⟨none, none⟩ : StageRead), 
      .updConfirm ⟨66, 0, 0, 0, false, true, true, 0, 0, 0, 0⟩, 
      .jrpXchg ⟨66, 0, 0, 0, false, true, true, 0, 0, 0, 0⟩, 
      .jrpUpdCommit ⟨66, 0, 0, 0, false, true, true, 0, 0, 0, 0⟩ 6 60 3 (⟨none, none, none⟩ : StartEnv), 
      .jrpUpdCommit (⟨64, 0xC0A80101, 5000, 14720, false, true, true, 77, 9, 0, 0⟩ : JrpHdr) 0x100000000 60 3 (⟨none, none, none⟩ : StartEnv), 
      .jrpUpdCommit (⟨64, 0xC0A80101, 5000, 14720, false, true, true, 77, 9, 0, 0⟩ : JrpHdr) 6 0x100000000 3 (⟨none, none, none⟩ : StartEnv), 
      .jrpUpdCommit (⟨64, 0xC0A80101, 5000, 14720, false, true, true, 77, 9, 0, 0⟩ : JrpHdr) 6 60 0x100000000 (⟨none, none, none⟩ : StartEnv), 
      .jrpUpdCommit (⟨64, 0xC0A80101, 5000, 14720, false, true, true, 77, 9, 0, 0⟩ : JrpHdr) 6 60 3 ⟨some 256, none, none⟩, 
      .jrpUpdCommit (⟨64, 0xC0A80101, 5000, 14720, false, true, true, 77, 9, 0, 0⟩ : JrpHdr) 6 60 3 ⟨none, some 2, none⟩, 
      .jrpLcChange ⟨66, 0, 0, 0, false, true, true, 0, 0, 0, 0⟩ 2, 
      .jrpLcChange (⟨64, 0xC0A80101, 5000, 14720, false, true, true, 77, 9, 0, 0⟩ : JrpHdr) 16, 
      .jrpKeymsg ⟨66, 0, 0, 0, false, true, true, 0, 0, 0, 0⟩ (([0x53, 0x4D, 0x59, 0x4B, 1, 0, 0, 0, 0, 0, 0, 0, 0, 0, 0, 0, 7] : List Byte) : List Byte) (none), 
      .jrpKeymsg (⟨64, 0xC0A80101, 5000, 14720, false, true, true, 77, 9, 0, 0⟩ : JrpHdr) (List.replicate 1429 0) (none), 
      .forceClear ⟨66, 0, 0, 0, false, true, true, 0, 0, 0, 0⟩ (State.mkHandle 2 1 5 : Nat), 
      .forceClear (⟨64, 0xC0A80101, 5000, 14720, false, true, true, 77, 9, 0, 0⟩ : JrpHdr) 0x100000000, 
      .notifySend 0x100000000, .prbsCheck 512 64 9, .pcsLock 66, .faultSequence 66 2, .faultSequence 3 3, 
      .refDisqual 9, .refDisqual 0, .quadPllLockTimeout 128 1, .quadPllLockTimeout 3 2, 
      .memberAnswer 0x100000000 (⟨9, 0, .dtake 5 0 0 0⟩ : JrpQueued).txid 0 ⟨2, [4, 0, 0], none⟩, 
      .memberAnswer (⟨77, 2, false, 64, 0xC0A80101, 5000, 1, none, 0, ⟨2, 0, false, false, 77, 0, 0, 0, 0, []⟩, 0, some 9, [⟨9, none, false, none⟩], [], 128000000, 0, [], [], 0, none, 0, ⟨0, 0, 0, 0, 0⟩⟩ : JrpSession).id 0x100000000 0 ⟨2, [4, 0, 0], none⟩, 
      .memberAnswer (⟨77, 2, false, 64, 0xC0A80101, 5000, 1, none, 0, ⟨2, 0, false, false, 77, 0, 0, 0, 0, []⟩, 0, some 9, [⟨9, none, false, none⟩], [], 128000000, 0, [], [], 0, none, 0, ⟨0, 0, 0, 0, 0⟩⟩ : JrpSession).id (⟨9, 0, .dtake 5 0 0 0⟩ : JrpQueued).txid 65536 ⟨2, [4, 0, 0], none⟩] : List Instr).all (fun c => !c.wf) = true := by
  decide +kernel
end

section
/-! SUPPORT. Frames of register pages: which changes of the register file stay within the pages of the listed block types. -/

namespace Sys2Proof.Machine

/-- The page of FLT. -/
theorem ofAddr_flt {a : Nat} (hlo : 0x11000000 ≤ a) (hhi : a < 0x11010000) :
    Blk.ofAddr a = some (⟨.flt, 0⟩, a - 0x11000000) := by
  have hcfg : decide (a < 0x10010000) = false := decide_eq_false (by omega)
  have hoff : (a - 0x11000000) / 0x10000 = 0 ∧ (a - 0x11000000) % 0x10000 = a - 0x11000000 := by omega
  simp [Blk.ofAddr, BlkKind.all, BlkKind.layout, hcfg, hlo, hhi, hoff]

/-- The counts of the fault collector lie in the page of FLT. -/
theorem Outside.not_fltCount {ks : List BlkKind} {a : Nat} (hks : BlkKind.flt ∈ ks) (ha : Outside ks a = true) :
    a < 0x11003000 ∨ 0x11004800 ≤ a := by
  by_contra hin
  have hpage := ofAddr_flt (a := a) (by omega) (by omega)
  simp [Outside, hpage, hks] at ha

theorem RegsKept.trans {ks : List BlkKind} {s t u : State} (hst : RegsKept ks s t) (htu : RegsKept ks t u) :
    RegsKept ks s u := fun a ha => (htu a ha).trans (hst a ha)

/-- Setting a field of a listed page. -/
theorem regsKept_set {ks : List BlkKind} (s : State) {r : FRef} (v : Nat) (hr : Outside ks r.addr = false) :
    RegsKept ks s (s.set r v) := by
  intro a ha
  have hne : a ≠ r.addr := by
    rintro rfl
    exact absurd ha (by simp [hr])
  exact State.rd_set_other s v hne

/-- Raising an event source, where the page of FLT is listed. -/
theorem regsKept_raise {ks : List BlkKind} (s : State) (src : Nat) (items : List Nat) (hks : BlkKind.flt ∈ ks) :
    RegsKept ks s (s.raise src items) :=
  fun _ ha => State.rd_raise s src items (Outside.not_fltCount hks ha)

end Sys2Proof.Machine
end

section
/-! SUPPORT. Refused accesses of the bus matrix (R33, R35): which accesses are answered ALIGN or DECERR, and what such an answer
changes: a flag of MGT.STAT, the collector's record of MAP_ERR, and the response of the master. -/

namespace Sys2Proof.Machine

/-- The two flags of MGT.STAT that tell a refused access. -/
abbrev FRef.IsAccessFlag (f : FRef) : Prop := f = Reg.MGT.STAT_DECERR ∨ f = Reg.MGT.STAT_ALIGN

/-- Master `m` was answered the response code `code` with data 0, the flag `f` is set, and beside the registers of MGT, the
counts and records of the fault collector, and the bus state of the management complex nothing changed. -/
structure State.AnsweredError (m code : Nat) (f : FRef) (s t : State) : Prop where
  flag : t.get f = 1
  answer : Assoc.find t.mgt.readBack m = some ⟨code, 0⟩
  regs : RegsKept [.mgt, .flt] s t
  rest : t = { s with regs := t.regs, mgt := t.mgt, flt := t.flt }
  sram : t.mgt.sram = s.mgt.sram

namespace State

/-- A refused access sets its flag and raises MAP_ERR (R514). -/
def mapErr (f : FRef) (m addr : Nat) (s : State) : State := (s.set f 1).raise 34 [addr, m]

theorem decodeErr_eq (m addr : Nat) (s : State) : s.decodeErr m addr = (1, s.mapErr Reg.MGT.STAT_DECERR m addr) := rfl
theorem alignErr_eq (m addr : Nat) (s : State) : s.alignErr m addr = (2, s.mapErr Reg.MGT.STAT_ALIGN m addr) := rfl

theorem get_mapErr {f : FRef} (hf : f.IsAccessFlag) (m addr : Nat) (s : State) : (s.mapErr f m addr).get f = 1 := by
  have hfield : 0x11004800 ≤ f.addr ∧ f.hi < 32 ∧ 1 % 2 ^ f.width = 1 := by rcases hf with rfl | rfl <;> decide
  obtain ⟨haddr, hhi, hwidth⟩ := hfield
  calc (s.mapErr f m addr).get f = (s.set f 1).get f := get_raise _ _ _ (.inr haddr)
    _ = 1 % 2 ^ f.width := get_set_same s 1 hhi
    _ = 1 := hwidth

theorem mapErr_is (f : FRef) (m addr : Nat) (s : State) :
    s.mapErr f m addr = { s with regs := (s.mapErr f m addr).regs, flt := (s.mapErr f m addr).flt } :=
  raise_is (s.set f 1) 34 [addr, m]

theorem regsKept_mapErr {f : FRef} (hf : f.IsAccessFlag) (m addr : Nat) (s : State) :
    RegsKept [.mgt, .flt] s (s.mapErr f m addr) := by
  have hpage : Outside [.mgt, .flt] f.addr = false := by rcases hf with rfl | rfl <;> decide
  exact (regsKept_set s 1 hpage).trans (regsKept_raise _ _ _ (by simp))

theorem answer_eq {m : Nat} (hm : m ≤ 6) (x : BusResp) (s : State) :
    s.answer m x = s.updMgt fun g => { g with readBack := Assoc.put g.readBack m x } := by
  simp only [answer, if_neg (show m ≠ 7 by omega)]

/-- The error flag and the response of a master other than the service port. -/
theorem mapErr_answered {f : FRef} {m : Nat} (hf : f.IsAccessFlag) (hm : m ≤ 6) (code addr : Nat) (s : State) :
    AnsweredError m code f s ((s.mapErr f m addr).answer m ⟨code, 0⟩) := by
  rw [answer_eq hm]
  exact {
    flag := get_mapErr hf m addr s
    answer := Assoc.find_put_same _ _ _
    regs := regsKept_mapErr hf m addr s
    rest := by rw [mapErr_is]; rfl
    sram := by rw [mapErr_is]; rfl }

/-- The unlock that a write consumes (R50) is bus state as well. -/
theorem AnsweredError.of_disarm {m code : Nat} {f : FRef} {s t : State} (h : AnsweredError m code f (s.disarm m) t) :
    AnsweredError m code f s t := ⟨h.flag, h.answer, h.regs, h.rest, h.sram⟩

/-- A master takes the target of its locked read, if the address has one (R515). -/
def holdTarget (m : Nat) (t : Option Nat) (s : State) : State :=
  match t with
  | some k => s.updMgt fun g => { g with locks := g.locks ++ [{ m := m, target := k, since := s.now }] }
  | none => s

theorem AnsweredError.holdTarget {m code : Nat} {f : FRef} {s t : State} (h : AnsweredError m code f s t) (k : Option Nat) :
    AnsweredError m code f s (t.holdTarget m k) := by
  obtain ⟨hflag, hanswer, hregs, hrest, hsram⟩ := h
  cases k with
  | none => exact ⟨hflag, hanswer, hregs, hrest, hsram⟩
  | some k => exact ⟨hflag, hanswer, hregs, by rw [hrest]; rfl, hsram⟩

/-! ### Which accesses are refused -/

theorem writeAt_misaligned {addr size : Nat} {b : Blk} {s : State} (hp : s.place addr = .block b)
    (hbad : size ≠ 4 ∨ addr % 4 ≠ 0) (m : Nat) (data : Word) (unl : Bool) :
    s.writeAt m addr size data unl = s.alignErr m addr := by
  simp only [writeAt, hp, if_pos hbad]

theorem writeAt_nowhere {addr : Nat} {s : State} (hp : s.place addr = .nowhere) (m size : Nat) (data : Word) (unl : Bool) :
    s.writeAt m addr size data unl = s.decodeErr m addr := by
  simp only [writeAt, hp]

/-- A write of an offset that the block does not define (R35). -/
theorem writeAt_undefined {addr : Nat} {b : Blk} {s : State} (hp : s.place addr = .block b) (hal : addr % 4 = 0)
    (hnone : RegMap.find addr = none) (m : Nat) (data : Word) (unl : Bool) :
    s.writeAt m addr 4 data unl = s.decodeErr m addr := by
  have hok : ¬(4 ≠ 4 ∨ addr % 4 ≠ 0) := by omega
  simp only [writeAt, hp, if_neg hok, regAt, hnone, Option.map_none]

theorem readAt_misaligned {addr size : Nat} {b : Blk} {s : State} (hp : s.place addr = .block b)
    (hbad : size ≠ 4 ∨ addr % 4 ≠ 0) (m : Nat) :
    s.readAt m addr size = (2, 0, s.mapErr Reg.MGT.STAT_ALIGN m addr) := by
  simp only [readAt, hp, if_pos hbad, alignErr_eq]

theorem readAt_nowhere {addr : Nat} {s : State} (hp : s.place addr = .nowhere) (m size : Nat) :
    s.readAt m addr size = (1, 0, s.mapErr Reg.MGT.STAT_DECERR m addr) := by
  simp only [readAt, hp, decodeErr_eq]

theorem busTarget_block {addr : Nat} {b : Blk} {s : State} (hp : s.place addr = .block b) :
    s.busTarget addr = some b.kind.target := by
  simp only [busTarget, hp]

theorem busTarget_nowhere {addr : Nat} {s : State} (hp : s.place addr = .nowhere) : s.busTarget addr = none := by
  simp only [busTarget, hp]

theorem target_not_memory (k : BlkKind) : ¬(some k.target = some 1 ∨ some k.target = some 2) := by
  cases k <;> decide

/-! ### Transactions while no target is held -/

/-- A write is judged on the state without the master's unlock, and answered. -/
theorem busWrite_free {s : State} (hlock : s.mgt.locks = []) (m addr size : Nat) (data : Word) :
    s.busWrite m addr size data =
      let r := (s.disarm m).writeAt m addr size data (m == 6 || s.armed m)
      r.2.answer m ⟨r.1, 0⟩ := by
  unfold busWrite
  rw [busOp_free (s := s.disarm m) hlock rfl]
  unfold perform
  rw [issuedAt_now (s := s.disarm m) rfl]
  rfl

/-- A locked read of an address beside the boot ROM and the DRAM window is carried out, and its target taken. -/
theorem busRead_locked {addr : Nat} {s : State} (hlock : s.mgt.locks = [])
    (ht : ¬(s.busTarget addr = some 1 ∨ s.busTarget addr = some 2)) (m : Nat) :
    s.busRead m addr 4 true =
      let r := s.readAt m addr 4
      (r.2.2.answer m ⟨r.1, BitVec.ofNat 32 r.2.1⟩).holdTarget m (s.busTarget addr) := by
  unfold busRead busOp issue
  rw [issuedAt_now rfl]
  simp only [lockOf, mustWait, hlock, List.find?_nil, List.any_nil, Bool.false_eq_true, if_false, true_and, if_neg ht,
    when_true, perform, issuedAt_now]
  cases s.busTarget addr <;> rfl

/-- A register write that is refused leaves nothing but its error answer. -/
theorem registerWrite_answered {m addr size code : Nat} {data : Word} {f : FRef} {s : State} (hq : Quiet m s)
    (hf : f.IsAccessFlag)
    (herr : ∀ unl, (s.disarm m).writeAt m addr size data unl = (code, (s.disarm m).mapErr f m addr)) :
    ∃ t, exec (.registerWrite m addr size data) s = .next t ∧ AnsweredError m code f s t := by
  obtain ⟨hm, hlock, -⟩ := hq
  refine ⟨s.busWrite m addr size data, rfl, ?_⟩
  rw [busWrite_free hlock, herr]
  exact (mapErr_answered hf hm code addr (s.disarm m)).of_disarm

/-- A locked read that is refused leaves nothing but its error answer with data 0, and the target it takes where there is one. -/
theorem lockedRead_answered {m addr code : Nat} {f : FRef} {s : State} (hq : Quiet m s) (hf : f.IsAccessFlag)
    (ht : ¬(s.busTarget addr = some 1 ∨ s.busTarget addr = some 2))
    (herr : s.readAt m addr 4 = (code, 0, s.mapErr f m addr)) :
    ∃ t, exec (.lockedRead m addr) s = .next t ∧ AnsweredError m code f s t := by
  obtain ⟨hm, hlock, -⟩ := hq
  refine ⟨s.busRead m addr 4 true, rfl, ?_⟩
  rw [busRead_locked hlock ht, herr]
  exact (mapErr_answered hf hm code addr s).holdTarget _

end State

/-- Settles O3: a misaligned or wrongly sized access of a block region is judged before its register is looked up, so that all
it does is to set the flag, to raise MAP_ERR and to answer. -/
theorem misalignedAccessIsNotPerformed : Obligations.MisalignedAccessIsNotPerformed := by
  unfold Obligations.MisalignedAccessIsNotPerformed
  refine ⟨?write, ?read, ?anyRead⟩
  case write =>
    intro s m addr size data b hq hp hbad
    obtain ⟨t, hexec, hflag, hanswer, hregs, hrest, hsram⟩ := State.registerWrite_answered (data := data) hq (.inr rfl)
      (fun unl => State.writeAt_misaligned (s := s.disarm m) hp hbad m data unl)
    exact ⟨t, hexec, hflag, hanswer, hregs, hrest, hsram⟩
  case read =>
    intro s m addr b hq hp hal
    obtain ⟨t, hexec, hflag, hanswer, hregs, -, -⟩ := State.lockedRead_answered hq (.inr rfl)
      (by rw [State.busTarget_block hp]; exact State.target_not_memory b.kind)
      (State.readAt_misaligned hp (.inr hal) m)
    exact ⟨t, hexec, hflag, hanswer, hregs⟩
  case anyRead =>
    intro s m addr size b hp hbad
    rw [State.readAt_misaligned hp hbad]
    exact ⟨rfl, State.get_mapErr (.inr rfl) m addr s⟩

/-- Settles O4: an access that decodes to no block, or to no register of its block, is answered by the decoder alone. -/
theorem unmappedAccessChangesNothing : Obligations.UnmappedAccessChangesNothing := by
  unfold Obligations.UnmappedAccessChangesNothing
  refine ⟨?write, ?read, ?undefinedOffset, ?anyRead⟩
  case write =>
    intro s m addr size data hq hp
    obtain ⟨t, hexec, hflag, hanswer, hregs, hrest, hsram⟩ := State.registerWrite_answered (data := data) hq (.inl rfl)
      (fun unl => State.writeAt_nowhere (s := s.disarm m) hp m size data unl)
    exact ⟨t, hexec, hflag, hanswer, hregs, hrest, hsram⟩
  case read =>
    intro s m addr hq hp
    obtain ⟨t, hexec, hflag, hanswer, hregs, -, -⟩ := State.lockedRead_answered hq (.inl rfl)
      (by simp [State.busTarget_nowhere hp]) (State.readAt_nowhere hp m 4)
    exact ⟨t, hexec, hflag, hanswer, hregs⟩
  case undefinedOffset =>
    intro s m addr data b hq hp hal hnone
    obtain ⟨t, hexec, hflag, hanswer, hregs, -, -⟩ := State.registerWrite_answered (data := data) hq (.inl rfl)
      (fun unl => State.writeAt_undefined (s := s.disarm m) hp hal hnone m data unl)
    exact ⟨t, hexec, hflag, hanswer, hregs⟩
  case anyRead =>
    intro s m addr size hp
    rw [State.readAt_nowhere hp]
    exact ⟨rfl, State.get_mapErr (.inl rfl) m addr s⟩

end Sys2Proof.Machine
end

section
/-! SUPPORT. A further GO of a converter whose swap is pending (R286): the register that the write names, and the state that its
landing leaves, in which STAT.WPEND of the converter shows that no write waits. -/

namespace Sys2Proof.Machine

/-- The pages of the converters. -/
theorem ofAddr_cnv {n a : Nat} (hn : n < 32) (hlo : 0x20000000 + 0x1000 * n ≤ a) (hhi : a < 0x20000000 + 0x1000 * (n + 1)) :
    Blk.ofAddr a = some (⟨.cnv, n⟩, a - (0x20000000 + 0x1000 * n)) := by
  have hends : ∀ k ∈ BlkKind.all.take 12, k.layout.1 + k.layout.2.1 * k.layout.2.2 ≤ 0x20000000 := by decide
  have hkind : (BlkKind.all.find? fun k =>
      decide (k.layout.1 ≤ a) && decide (a < k.layout.1 + k.layout.2.1 * k.layout.2.2)) = some .cnv := by
    refine List.find?_eq_some_iff_append.mpr ⟨?page, BlkKind.all.take 12, BlkKind.all.drop 13, rfl, fun k hk => ?below⟩
    case page =>
      rw [Bool.and_eq_true, decide_eq_true_eq, decide_eq_true_eq]
      simp only [BlkKind.layout]
      omega
    case below =>
      have hend := hends k hk
      rw [decide_eq_false (show ¬a < k.layout.1 + k.layout.2.1 * k.layout.2.2 by omega), Bool.and_false, Bool.not_false]
  have hinst : (a - 0x20000000) / 0x1000 = n := by omega
  have hoff : (a - 0x20000000) % 0x1000 = a - (0x20000000 + 0x1000 * n) := by omega
  calc Blk.ofAddr a = some (⟨.cnv, (a - 0x20000000) / 0x1000⟩, (a - 0x20000000) % 0x1000) := by
        unfold Blk.ofAddr
        simp only [hkind]
        rfl
    _ = some (⟨.cnv, n⟩, a - (0x20000000 + 0x1000 * n)) := by rw [hinst, hoff]

/-- The row of SWAP in the register map of the converters. -/
abbrev RegMap.cnvSwap : RegDef := ⟨"SWAP", 0x8C, [], [⟨0, 0, .wo, .val 0⟩]⟩

theorem ofAddr_cnvSwap {n : Nat} (hn : n < 32) : Blk.ofAddr (Reg.CNV.SWAP n).addr = some (⟨.cnv, n⟩, 0x8C) := by
  have haddr : (Reg.CNV.SWAP n).addr = 0x2000008C + 0x1000 * n := rfl
  have hoff : (Reg.CNV.SWAP n).addr - (0x20000000 + 0x1000 * n) = 0x8C := by omega
  rw [ofAddr_cnv hn (by omega) (by omega), hoff]

theorem find_cnvSwap {n : Nat} (hn : n < 32) :
    RegMap.find (Reg.CNV.SWAP n).addr = some (⟨.cnv, n⟩, RegMap.cnvSwap, 0, 0) := by
  have hrow : RegMap.findIn RegMap.cnv 0x8C = some (RegMap.cnvSwap, 0, 0) := by decide
  simp only [RegMap.find, ofAddr_cnvSwap hn, BlkKind.regs, hrow, Blk.trim]

theorem has_cnvSwap (n : Nat) : (⟨.cnv, n⟩ : Blk).has (Reg.CNV.SWAP n).addr = true := by
  rw [Blk.has, Bool.and_eq_true, decide_eq_true_eq, decide_eq_true_eq]
  simp only [Blk.base, BlkKind.layout, Reg.CNV.SWAP]
  omega

namespace State

/-- STAT.WPEND as it is shown last: whether a write waits for the block. -/
theorem get_showWpend (b : Blk) (s : State) :
    (s.showWpend b).get b.wpend = b2n (s.landing.any fun l => b.has l.addr) := by
  have hbit (x : Bool) : b2n x % 2 ^ b.wpend.width = b2n x := by cases x <;> rfl
  unfold showWpend setB
  rw [get_set_same s _ (show b.wpend.hi < 32 by simp [Blk.wpend]), hbit]

/-- A GO that lands while a swap is pending changes nothing (R286). -/
theorem cnvSwapLand_locked {n : Nat} {s : State} (hpend : s.cnvLocked n = true) (data : Word) : s.cnvSwapLand n data = s := by
  simp only [cnvSwapLand, hpend, Bool.not_true, Bool.and_false, when_false]

/-- The issue of a register write leaves a pending swap pending. -/
theorem landed_cnvLocked {m n : Nat} {s : State} (hm : m ≤ 6) (hpend : s.get (Reg.CNV.STAT_SWAPPEND n) = 1) :
    (s.landed m ⟨.cnv, n⟩).cnvLocked n = true := by
  have hapart : (Reg.CNV.STAT_SWAPPEND n).apart (Blk.wpend ⟨.cnv, n⟩) = true := by
    simp [FRef.apart, Reg.CNV.STAT_SWAPPEND, Blk.wpend]
  have hget := (landed_is m ⟨.cnv, n⟩ s hm).regs _ hapart
  simp [cnvLocked, flag, hget, hpend]

/-- A further GO leaves what its issue left, and STAT.WPEND shown anew. -/
theorem exec_swap_pending {m n : Nat} {s : State} (hq : Quiet m s) (hn : n < 32)
    (hpend : s.get (Reg.CNV.STAT_SWAPPEND n) = 1) (data : Word) :
    exec (.swap m n data) s = .next ((s.landed m ⟨.cnv, n⟩).showWpend ⟨.cnv, n⟩) := by
  obtain ⟨hm, hlock, hland⟩ := hq
  have haddr : (Reg.CNV.SWAP n).addr = 0x2000008C + 0x1000 * n := rfl
  have hspecial : (s.landed m ⟨.cnv, n⟩).landSpecial m ⟨.cnv, n⟩ 0x8C 0 data = some (s.landed m ⟨.cnv, n⟩) := by
    simp [landSpecial, cnvSwapLand_locked (landed_cnvLocked hm hpend)]
  have hwrite : s.writeNow m (Reg.CNV.SWAP n).addr data = (s.landed m ⟨.cnv, n⟩).showWpend ⟨.cnv, n⟩ := by
    rw [writeNow_domain s hm hlock hland (find_cnvSwap hn) (ofAddr_cnvSwap hn) (by omega) (by omega) (by omega)
      (has_cnvSwap n) rfl (.inl BlkKind.noConfusion) (.inl BlkKind.noConfusion) (fun _ => rfl) rfl (fun _ => rfl)
      (by simp only [beq_eq_false_iff_ne]; omega), landWrite_some (find_cnvSwap hn) hspecial]
  have hexec : exec (.swap m n data) s = .next (s.when (decide (n < 32)) (writeNow m (Reg.CNV.SWAP n).addr data)) := rfl
  rw [hexec, decide_eq_true hn, when_true, hwrite]

/-- After a further GO no write waits, and STAT.WPEND of the converter shows it, whatever it showed before. -/
theorem swap_pending_wpend {m n : Nat} {s t : State} {data : Word} (hq : Quiet m s) (hn : n < 32)
    (hpend : s.get (Reg.CNV.STAT_SWAPPEND n) = 1) (hexec : exec (.swap m n data) s = .next t) :
    t.get (Blk.wpend ⟨.cnv, n⟩) = 0 := by
  rw [exec_swap_pending hq hn hpend] at hexec
  cases hexec
  exact get_showWpend ⟨.cnv, n⟩ (s.landed m ⟨.cnv, n⟩)

end State

/-- Refutes O53 by its last clause, which keeps every register word, STAT of the converter among them: a GO is a write that
waits for the converter's domain, so when it has landed STAT.WPEND is shown anew and reads 0, also where it stood at 1 with
no write waiting, which the hypotheses allow. -/
theorem not_loadsWaitForTheSwap : ¬ Obligations.LoadsWaitForTheSwap := by
  unfold Obligations.LoadsWaitForTheSwap
  rintro ⟨-, -, -, -, hgo⟩
  obtain ⟨s, hq, hpend, hbefore⟩ : ∃ s : State, Quiet 0 s ∧ s.get (Reg.CNV.STAT_SWAPPEND 3) = 1 ∧
      s.get (Reg.CNV.STAT_WPEND 3) = 1 :=
    ⟨(State.reset.set (Reg.CNV.STAT_SWAPPEND 3) 1).set (Reg.CNV.STAT_WPEND 3) 1, by decide +kernel⟩
  obtain ⟨t, hexec, -, -, hkept⟩ := hgo s 0 3 1 hq (by omega) hpend
  have hafter : t.get (Reg.CNV.STAT_WPEND 3) = 0 := State.swap_pending_wpend hq (by omega) hpend hexec
  have hsame : t.get (Reg.CNV.STAT_WPEND 3) = s.get (Reg.CNV.STAT_WPEND 3) := by
    rw [State.get, hkept _ (by decide), ← State.get]
  omega

end Sys2Proof.Machine
end

section
/-! SUPPORT. A property of the state that a command answers, in a form that evaluates: a counterexample runs the command on a
concrete state and looks at one word of what comes out. -/

namespace Sys2Proof.Machine

/-- The state that an outcome answers, if it answers one, has the property `p`. -/
def After (p : State → Bool) : Host.Outcome State Fault Refusal → Bool
  | .next t => p t
  | .fault _ => true
  | .refused _ => true

/-- What holds after a command holds of the state that it answers. -/
theorem After.of_next {o : Host.Outcome State Fault Refusal} {t : State} {p : State → Bool} (hexec : o = .next t)
    (hp : After p o = true) : p t = true := by
  subst hexec
  exact hp

end Sys2Proof.Machine
end

section
/-! SUPPORT. The statements of tier 1: the step, and the state after reset. -/

namespace Sys2Proof.Machine

/-- Settles O1: both cases are the two cases of the queue in the definition of the step. -/
theorem stepCarriesOutTheFrontCommand : Obligations.StepCarriesOutTheFrontCommand := by
  unfold Obligations.StepCarriesOutTheFrontCommand
  refine ⟨fun s c rest hp => ?_, fun s hp => ?_⟩
  · simp only [step, hp]
  · simp only [step, hp]

/-- Settles O2: the register file of the state after reset is empty, so every word reads the reset values of its table. -/
theorem resetLeavesTheTableValues : Obligations.ResetLeavesTheTableValues := by
  unfold Obligations.ResetLeavesTheTableValues
  exact ⟨fun _ => rfl, rfl, rfl, rfl, rfl, rfl⟩

/-- Settles O54: the register file and the byte memories after reset are empty, and an empty table is canonical. -/
theorem soundAtReset : Obligations.SoundAtReset := by
  unfold Obligations.SoundAtReset
  exact ⟨rfl, ⟨rfl, rfl⟩⟩

end Sys2Proof.Machine
end

section
set_option Elab.async false
/-! SUPPORT. Counterexamples to statements of the management units: states that the hypotheses allow and the machine never
reaches, or reaches only with an input of its own. -/

namespace Sys2Proof.Machine

/-- SNS runs, and the scan of the first converter holds a number that is no sensor, whose TEMP word would lie in the page of
UPD. -/
def foreignSensor : State :=
  (State.reset.set Reg.SNS.STAT_RUN 1).updMgt fun g => { g with convT := ⟨some 0, [0x8000], 0⟩ }

/-- Refutes O9 by its eighth clause: the sensor that the converter serves is any number that its scan holds, and the word of one
that no table has lies in the page of another block. -/
theorem not_watchdogAndSensors : ¬ Obligations.WatchdogAndSensors := by
  unfold Obligations.WatchdogAndSensors
  rintro ⟨-, -, -, -, -, -, -, hconv, -⟩
  obtain ⟨t, hexec, -, -, -, -, hkept⟩ :=
    hconv foreignSensor false false false 1 0x8000 ⟨some 0, [], 0⟩ (by decide +kernel) (by decide +kernel)
  have hword : (t.rd (Reg.SNS.TEMP 0x8000).addr == 1) = true :=
    After.of_next (p := fun t => t.rd (Reg.SNS.TEMP 0x8000).addr == 1) hexec (by decide +kernel)
  rw [hkept _ (by decide)] at hword
  exact absurd hword (by decide +kernel)

/-- TIME is stopped and locked, and the register file lists TIME.CTRL a second time, with MODE set. -/
def doubledTimeCtrl : State := { State.reset with regs := [(0x12000000, 0), (0x12000000, 0x10)] }

/-- Refutes O6 by its first clause: the write that would change MODE carries SRST too, and the soft reset keeps the locked fields
of every entry of the register file, where the last one of an address wins. -/
theorem not_lockedFieldsKeepTheirValue : ¬ Obligations.LockedFieldsKeepTheirValue := by
  unfold Obligations.LockedFieldsKeepTheirValue
  rintro ⟨hlocked, -⟩
  obtain ⟨t, hexec, hbits, -⟩ := hlocked doubledTimeCtrl 0 0x12000000 0x12 ⟨.time, 0⟩ (Tests.regOf 0x12000000) 0 0
    ⟨4, 4, .rwl, .val 0⟩ (by decide +kernel) (by decide) (by decide +kernel) (by decide +kernel) (by decide +kernel) (by decide)
    (by decide +kernel) rfl (by decide +kernel)
  have hmode : (bits (t.rd 0x12000000).toNat 4 4 == 1) = true :=
    After.of_next (p := fun t => bits (t.rd 0x12000000).toNat 4 4 == 1) hexec (by decide +kernel)
  rw [hbits] at hmode
  exact absurd hmode (by decide +kernel)

/-- A record of source 0 waits whose reaction is the safe state, on a twin unit in STANDBY that hands over for an even output. -/
def handsOver : State :=
  (((((State.reset.set (Reg.FLT.SRC_REACT 0) 3).set Reg.FLT.CTRL_EN 1).set Reg.TWIN.CTRL_EN 1).set Reg.TWIN.STAT_STATE 2).set
    ⟨Reg.TWIN.EVEN.addr, 0, 0⟩ 1).updFlt fun f => { f with pend := [⟨0, 0, 0, 0⟩] }

/-- Refutes O12 by its third clause: the reaction that the entered record runs may lower the claim of the twin, which raises
events of its own beside the records that wait. -/
theorem not_recordsAreEnteredInOrder : ¬ Obligations.RecordsAreEnteredInOrder := by
  unfold Obligations.RecordsAreEnteredInOrder
  rintro ⟨-, -, hentry, -⟩
  obtain ⟨t, hexec, hpend, -⟩ := hentry handsOver ⟨false, false, false, false, false⟩ ⟨0, 0, 0, 0⟩ (by decide +kernel)
    (by decide +kernel) (by decide +kernel) (by decide +kernel)
  have hraised : (!t.flt.pend.isEmpty) = true := After.of_next (p := fun t => !t.flt.pend.isEmpty) hexec (by decide +kernel)
  rw [hpend] at hraised
  exact absurd hraised (by decide +kernel)

/-- A chip in PROVISIONED whose presence window is open. -/
def provisioned : State := { State.reset.set Reg.KEY.STAT_LCSTATE 1 with key := { State.reset.key with window := some 1 } }

/-- Refutes O14 by its fourth clause: the target is a field of four bits, so a request of 18 asks for SERVICE, which the table
allows although 18 itself is no row of it. -/
theorem not_lifeCycleAndKeys : ¬ Obligations.LifeCycleAndKeys := by
  unfold Obligations.LifeCycleAndKeys
  rintro ⟨-, -, -, hrefused, -⟩
  obtain ⟨t, hexec, hcode, -⟩ := hrefused provisioned 0 18 (by decide +kernel) (by decide +kernel) (by decide +kernel)
  have hdone : (t.get Reg.KEY.RES_CODE == 0) = true :=
    After.of_next (p := fun t => t.get Reg.KEY.RES_CODE == 0) hexec (by decide +kernel)
  rw [hcode] at hdone
  exact absurd hdone (by decide)

/-- A druse of one lane in F mode, whose hardware names an ingress entry that no table has: its HANDLE word would be CHN.STAT. -/
def laneOfForeignEntry : State :=
  (((((({ (State.reset.set Reg.CHN.CTRL_EN 1) with
            chn := { State.reset.chn with chans := [(3, ⟨10, [], [], 0, 5, true, 0, 0, 0, [], []⟩)], druses := [(5, [⟨1, 0, 0, 1, 0⟩])], nextIndex := 4 } }
      : State)).set (Reg.CHN.ENT_HANDLE 3) (State.mkHandle 10 3 7)).set (Reg.CHN.ENT_STATE_STATE 3) 1).set (Reg.CHN.REQARG
      0) (State.mkHandle 10 3 7)).set (Reg.CHN.DRU_HANDLE 5) (State.mkHandle 10 3 7)).set Reg.CHN.STAT_RUN 1 |>.set
      (Reg.LANE.CFG_RXMODE 0) 3 |>.updLane 0 fun x => { x with ents := [0xFE000] }

/-- Refutes O16 by its twelfth clause: the handle that the position resolves to is read once the request has landed, and here it
is the status word of the block, in which the landing shows the request. -/
theorem not_channelRequests : ¬ Obligations.ChannelRequests := by
  unfold Obligations.ChannelRequests
  rintro ⟨-, -, -, -, -, -, -, -, -, -, -, hresolve, -⟩
  obtain ⟨t, hexec, -, -, hhandle, -⟩ := hresolve laneOfForeignEntry 0 1 0 (by decide +kernel) (by decide +kernel)
    (by decide +kernel) (by decide +kernel) (by decide +kernel)
  have hother : (t.get Reg.CHN.RESHANDLE != 1) = true :=
    After.of_next (p := fun t => t.get Reg.CHN.RESHANDLE != 1) hexec (by decide +kernel)
  rw [hhandle] at hother
  exact absurd hother (by decide)

end Sys2Proof.Machine
end

section
set_option Elab.async false
/-! SUPPORT. Counterexamples to statements of the media units: hardware beside the registers that no run leaves so, which the
hypotheses do not exclude, or an effect that the statement does not name. -/

namespace Sys2Proof.Machine

/-- A receive flow as its creation leaves it, with the descriptor given. -/
def newFlow (desc : List Nat) : RxFlow :=
  { chan := 3, desc, known := false, otherSince := none, up := false, again := false, since := 0, hi := none, missed := [],
    ended := none, tail := 0, pkts := [], past := [], buckets := [], got := [], joinLate := [], audio := [], last := [],
    missing := 0, map := none, polTotal := 0, polLast := 0 }

/-- The state whose block has taken the value `v` for the field, beside what the register now holds. -/
def inForce (s : State) (r : FRef) (v : Nat) : State := { s with inUse := Assoc.put s.inUse r.addr ((s.set r v).rd r.addr) }

/-- The media clock stands 64 samples ahead by an offset that the next block boundary clears. -/
def offsetTick : State := (State.reset.set Reg.AUD.STAT_RUN 1).updLode fun x => { x with audOfs := 1333333334 }

/-- Refutes O21 by its clause on the number of the block at a boundary with no voices: the number is that of the sample counter
after the boundary cleared the offset of the media clock, not of the one before. -/
theorem not_voiceMap : ¬ Obligations.VoiceMap := by
  unfold Obligations.VoiceMap
  rintro ⟨-, -, -, -, -, -, -, -, -, -, -, -, -, -, -, -, -, -, -, -, hblock, -⟩
  obtain ⟨t, hexec, hnumber, -⟩ := hblock offsetTick [] (by decide +kernel)
  have hzero : (t.aud.block == 0) = true := After.of_next (p := fun t => t.aud.block == 0) hexec (by decide +kernel)
  rw [hnumber] at hzero
  exact absurd hzero (by decide +kernel)

/-- A converter whose active bank lists twelve offsets, of which the last would lie in its count of swaps. -/
def longBank : State :=
  let s := (((State.reset.set (Reg.CNV.STAT_SWAPPEND 0) 1).set (Reg.CNV.STAT_RUN 0) 1).set (Reg.CNV.CHAN 0)
    (State.mkHandle 2 3 0)).set (Reg.CHN.ENT_RES_EGV 3) 1
  let s := s.updCnv 0 fun x => { x with act := { x.act with matoff := List.replicate 11 0 ++ [0x10000] } }
  { s with now := 10000, fab := { s.fab with egr := [(0, { State.Egress.fresh 0 false with cur := some ⟨0, none, 0, false, [], []⟩ })] } }

/-- Refutes O23 by its third clause: the exchange writes the whole list of offsets of the bank that was active, and nothing bounds
that list to the six registers it has. -/
theorem not_converters : ¬ Obligations.Converters := by
  unfold Obligations.Converters
  rintro ⟨-, -, hswap, -⟩
  obtain ⟨t, hexec, -, -, -, -, -, hcount, -⟩ :=
    hswap longBank 0 0 (by decide) (by decide +kernel) (by decide +kernel) (by decide +kernel)
      (by decide +kernel) (by decide +kernel) (by decide +kernel)
  have htwo : (t.get (Reg.CNV.CNT_SWAPS 0) == 2) = true :=
    After.of_next (p := fun t => t.get (Reg.CNV.CNT_SWAPS 0) == 2) hexec (by decide +kernel)
  rw [hcount] at htwo
  exact absurd htwo (by decide +kernel)

/-- An output whose channel names lane 511 for a mapping of several lanes, and the page after the last SDI engine holds 1 where
that engine's state would stand. -/
def outputPastLastLane : State :=
  { ((((State.reset.set (Reg.FAB.ESE_CFG_VALID 0) 1).set (Reg.FAB.ESE_HANDLE 0) (State.mkHandle 2 3 0)).set
      (Reg.SDI.TXSTAT_STATE (sdiPage 512)) 1)) with
    chn := { State.reset.chn with chans := [(3, ⟨2, [511 * 2 ^ 19, 0x50000000], [], 0, 0, true, 0, 0, 0, [], []⟩)] } }

/-- Refutes O25 by its clause on an output before the fabric is enabled: an output of several lanes shows its idle state on every
lane from its first, and those past lane 511 have no page of the two blocks. -/
theorem not_sdiFramesAndPackets : ¬ Obligations.SdiFramesAndPackets := by
  unfold Obligations.SdiFramesAndPackets
  rintro ⟨-, -, -, -, -, -, -, -, -, -, -, -, -, -, -, -, -, -, hidle, -⟩
  obtain ⟨t, hexec, -, -, hkept⟩ := hidle outputPastLastLane 0 511 0 false false (by decide +kernel) (by decide +kernel)
    (by decide +kernel)
  have hshown : (t.rd (Reg.SDI.TXSTAT_STATE (sdiPage 512)).addr != outputPastLastLane.rd (Reg.SDI.TXSTAT_STATE (sdiPage 512)).addr)
      = true :=
    After.of_next (p := fun t => t.rd (Reg.SDI.TXSTAT_STATE (sdiPage 512)).addr !=
      outputPastLastLane.rd (Reg.SDI.TXSTAT_STATE (sdiPage 512)).addr) hexec (by decide +kernel)
  rw [hkept _ (by decide)] at hshown
  exact absurd hshown (by decide +kernel)

/-- Two receive flows, the later number first. -/
def flowsOutOfOrder : State := { State.reset with ipm := { State.reset.ipm with rx := [(5, newFlow []), (3, newFlow [])] } }

/-- Refutes O27 by its last clause: distinct numbers do not make the table of flows sorted, and an update of one that stands out
of order lists it a second time. -/
theorem not_mediaGroups : ¬ Obligations.MediaGroups := by
  unfold Obligations.MediaGroups
  rintro ⟨-, -, -, -, -, -, -, -, -, -, -, haccumulate⟩
  obtain ⟨t, hexec, hrx, -⟩ := haccumulate flowsOutOfOrder (by decide +kernel)
  have hthree : (t.ipm.rx.length == 3) = true := After.of_next (p := fun t => t.ipm.rx.length == 3) hexec (by decide +kernel)
  rw [hrx] at hthree
  exact absurd hthree (by decide +kernel)

/-- A port that runs and is locked, whose count of corrected codewords is beyond the limit of that counter. -/
def countBeyondLimit : State :=
  (State.reset.set (Reg.ETH.STAT_RUN 0) 1).updEth 0 fun x =>
    { x with locked := true, ctr := (List.replicate 13 0).set 11 70000 }

/-- Refutes O28 by its second clause: without a corrected codeword the counter is not touched, so one beyond its limit keeps its
value and does not become the limit. -/
theorem not_ethernetReceiveAndCounts : ¬ Obligations.EthernetReceiveAndCounts := by
  unfold Obligations.EthernetReceiveAndCounts
  rintro ⟨-, hcodewords, -⟩
  obtain ⟨t, hexec, hcount, -⟩ := hcodewords countBeyondLimit 0 0 0 [] false (by decide) (by decide +kernel) (by decide +kernel)
    (by decide +kernel)
  have hkept : ((t.ethPort 0).ctr.getD 11 0 == 70000) = true :=
    After.of_next (p := fun t => (t.ethPort 0).ctr.getD 11 0 == 70000) hexec (by decide +kernel)
  rw [hcount] at hkept
  exact absurd hkept (by decide +kernel)

/-- Port 0 is UP, and a receive flow has its leg A on it. -/
def flowOnUpPort : State :=
  let s := ((State.reset.set (Reg.ETH.STAT_RUN 0) 1).set (Reg.ETH.STAT_LINK 0) 3).set (Reg.IPM.RXF_LEGA 0) 2
  { s with ipm := { s.ipm with rx := [(0, newFlow [])] } }

/-- Refutes O29 by its clause on the end of a fault: on a port that is UP any fault sequence, its end too, takes down the legs of
the flows on the port, which changes their registers. -/
theorem not_ethernetLinkAndRings : ¬ Obligations.EthernetLinkAndRings := by
  unfold Obligations.EthernetLinkAndRings
  rintro ⟨-, -, -, -, -, -, -, hnoted, -⟩
  obtain ⟨t, hexec, -, -, hregs⟩ := hnoted flowOnUpPort 0 0 (by decide) (.inl rfl)
  have hdown : (t.regs != flowOnUpPort.regs) = true :=
    After.of_next (p := fun t => t.regs != flowOnUpPort.regs) hexec (by decide +kernel)
  rw [hregs] at hdown
  exact absurd hdown (by decide +kernel)

/-- A fabric lane that searches for its clock, while the loss of its signal waits to be taken. -/
def lossWaits : State :=
  (inForce ((State.reset.set (Reg.LANE.STAT_RUN 0) 1).set (Reg.LANE.STAT_RXSTATE 0) 1) (Reg.LANE.CFG_RXMODE 0) 3).updLane 0
    fun x => { x with sigWaits := some false }

/-- Refutes O30 by its fifth clause: with the clock the half takes the change of its signal that waited, and a loss takes it out of
the search before the lock counts. -/
theorem not_laneReceive : ¬ Obligations.LaneReceive := by
  unfold Obligations.LaneReceive
  rintro ⟨-, -, -, -, hlock, -⟩
  obtain ⟨t, hexec, hstate, -⟩ := hlock lossWaits 0 false (by decide) (by decide +kernel) (by decide +kernel) (by decide +kernel)
  have hlost : (t.get (Reg.LANE.STAT_RXSTATE 0) == 0) = true :=
    After.of_next (p := fun t => t.get (Reg.LANE.STAT_RXSTATE 0) == 0) hexec (by decide +kernel)
  rw [hstate] at hlost
  exact absurd hlost (by decide)

end Sys2Proof.Machine
end
section
set_option Elab.async false
/-! SUPPORT. Counterexamples to statements of the lanes and the units behind them. -/

namespace Sys2Proof.Machine

/-- An entry number whose failure count would lie in the event word of quad 0. -/
def entryAtQuadEvents : Nat := 0x387F03C

/-- Quad 0 runs with PLL A unlocked for 10 ms and both lock causes shown, and the table of egress entries lists one on its lane 0
under a number that no table has. -/
def outputPastTable : State :=
  let s := (((State.reset.set (Reg.FAB.ESE_CFG_VALID entryAtQuadEvents) 1).set (Reg.FAB.ESE_HANDLE entryAtQuadEvents)
    (State.mkHandle 2 3 0)).set Reg.PROV.CTRL_EN 1).set (Reg.QUAD.STAT_RUN 0) 1
  let s := s.set (Reg.QUAD.EVSTAT 0) 3
  { s with now := 10000000, fab := { s.fab with egr := [(entryAtQuadEvents, State.Egress.fresh 0 false)] },
           chn := { s.chn with chans := [(3, ⟨2, [0, 0], [], 0, 0, true, 0, 0, 0, [], []⟩)] } }

/-- Refutes O31 by its sixth clause: the outputs on the PLL fail once the cause is shown, and the failure count of an entry whose
number no table has would lie in the event word that shows it. -/
theorem not_laneTransmitAndConfiguration : ¬ Obligations.LaneTransmitAndConfiguration := by
  unfold Obligations.LaneTransmitAndConfiguration
  rintro ⟨-, -, -, -, -, htimeout, -⟩
  obtain ⟨t, hexec, hcause, -⟩ := htimeout outputPastTable 0 0 (by decide) (by decide) (by decide +kernel) (by decide +kernel)
    (by decide +kernel)
  have hclear : (!bit (t.get (Reg.QUAD.EVSTAT 0)) (1 + 0)) = true :=
    After.of_next (p := fun t => !bit (t.get (Reg.QUAD.EVSTAT 0)) (1 + 0)) hexec (by decide +kernel)
  rw [hcause] at hclear
  exact absurd hclear (by decide)

/-! The writes of the loader (master 6) need no unlock, so "its master has not unlocked" does not make a write of the loader a
locked one. -/

/-- Refutes O20 by its clause on a locked CHKINV: the loader arms the inversion without an unlock. -/
theorem not_pathIntegrity : ¬ Obligations.PathIntegrity := by
  unfold Obligations.PathIntegrity
  rintro ⟨-, -, -, -, -, -, -, -, -, -, -, -, -, -, -, -, hlocked, -⟩
  obtain ⟨t, hexec, hkept, -⟩ :=
    hlocked State.reset 6 0x80000100 (by decide +kernel) (by decide +kernel) (.chkinvWrite 6 0x80000100) (by simp)
  have harmed : (t.rd Reg.PROV.CHKINV_ARM.addr != State.reset.rd Reg.PROV.CHKINV_ARM.addr) = true :=
    After.of_next (p := fun t => t.rd Reg.PROV.CHKINV_ARM.addr != State.reset.rd Reg.PROV.CHKINV_ARM.addr) hexec
      (by decide +kernel)
  rw [hkept] at harmed
  exact absurd harmed (by decide +kernel)

/-- Refutes O32 by its clause on a locked FLINTLOAD.GO: the loader begins a load without an unlock. -/
theorem not_micaCommits : ¬ Obligations.MicaCommits := by
  unfold Obligations.MicaCommits
  rintro ⟨-, -, -, -, -, -, -, -, -, -, -, -, -, -, -, -, hlocked, -⟩
  obtain ⟨t, hexec, hkept, -⟩ :=
    hlocked State.reset 6 0 1 (by decide +kernel) (by decide) (.inl (by decide +kernel))
  have hloads : (t.get (Reg.MICA.STAT_LOADPEND 0) == 1) = true :=
    After.of_next (p := fun t => t.get (Reg.MICA.STAT_LOADPEND 0) == 1) hexec (by decide +kernel)
  rw [hkept] at hloads
  exact absurd hloads (by decide +kernel)

/-- Refutes O36 by its clause on a locked change of the mode: the loader changes it without an unlock. -/
theorem not_timeCorrections : ¬ Obligations.TimeCorrections := by
  unfold Obligations.TimeCorrections
  rintro ⟨-, -, -, -, -, -, -, -, -, -, -, -, hlocked, -⟩
  obtain ⟨t, hexec, hkept, -⟩ :=
    hlocked State.reset 6 0x10 (by decide +kernel) (by decide +kernel) (by decide)
  have hservo : (t.get Reg.TIME.CTRL_MODE == 1) = true :=
    After.of_next (p := fun t => t.get Reg.TIME.CTRL_MODE == 1) hexec (by decide +kernel)
  rw [hkept] at hservo
  exact absurd hservo (by decide +kernel)

/-- Refutes O40 by its clause on a locked DRCC.CHKINV: the loader writes BITS without an unlock. -/
theorem not_errorChecking : ¬ Obligations.ErrorChecking := by
  unfold Obligations.ErrorChecking
  rintro ⟨-, -, -, -, -, -, -, -, -, -, -, hlocked, -⟩
  obtain ⟨t, hexec, -, hkept, -⟩ :=
    hlocked State.reset 6 0x100 (by decide +kernel) (by decide +kernel)
  have hbits : (t.get Reg.DRCC.CHKINV_BITS == 1) = true :=
    After.of_next (p := fun t => t.get Reg.DRCC.CHKINV_BITS == 1) hexec (by decide +kernel)
  rw [hkept] at hbits
  exact absurd hbits (by decide +kernel)

end Sys2Proof.Machine
end
section
set_option Elab.async false
/-! SUPPORT. Counterexamples to statements of the panel, of time and of the DRAM. -/

namespace Sys2Proof.Machine

/-- A panel whose start passes every check, but the register file lists its pixel clock a second time, as 0. -/
def doubledPixelClock : State :=
  let s := (((((State.reset.set Reg.SCAN.PIXCLK 25000).set Reg.SCAN.HTIM_HTOTAL 16).set Reg.SCAN.HTIM_HACT 16).set
    Reg.SCAN.VTIM_VTOTAL 4).set Reg.SCAN.VTIM_VACT 4).set Reg.SCAN.FBCFG_PITCH 64
  let s := ((((s.set Reg.SCAN.FBCFG_FMT 2).set Reg.SCAN.LINKCFG_LANES 2).set Reg.DRCC.STAT_RUN 1).set Reg.DRCC.CTRL_EN
    1).set Reg.DRCC.PLAN 1000
  { s with scan := { s.scan with hpd := true }, regs := s.regs ++ [(Reg.SCAN.PIXCLK.addr, 0)] }

/-- Refutes O34 by its first clause: a block starts with the words that its register file lists, where the last one of an address
wins, and the check of the hypothesis reads the first. -/
theorem not_scanLink : ¬ Obligations.ScanLink := by
  unfold Obligations.ScanLink
  rintro ⟨hstart, -⟩
  obtain ⟨t, hexec, htrains, -⟩ := hstart doubledPixelClock 0 (Blk.mk .scan 0).base 1 (by decide +kernel) rfl (by decide +kernel)
    (by decide +kernel) rfl (by decide +kernel)
  have hrefused : (t.get Reg.SCAN.STAT_LSTATE == 0) = true :=
    After.of_next (p := fun t => t.get Reg.SCAN.STAT_LSTATE == 0) hexec (by decide +kernel)
  rw [htrains] at hrefused
  exact absurd hrefused (by decide)

end Sys2Proof.Machine
end

section
set_option Elab.async false
/-! SUPPORT. Counterexamples to statements of the twin, of JRP and of the frames of effect. -/

namespace Sys2Proof.Machine

/-- A unit that joins, with operational keys and the identity 5, and the link to its partner up. -/
def joiningUnit : State :=
  let s := (((State.reset.set Reg.TWIN.CTRL_EN 1).set Reg.TWIN.STAT_STATE 1).set Reg.TWIN.STAT_LINKP 1).set Reg.KEY.DEVIDLO 5
  { s with key := { s.key with ops := some (5, 6) } }

/-- Refutes O41 by its ninth clause: an identity of more than 64 bits is judged as it comes, though the register that keeps it
holds its lower 64. -/
theorem not_twinLinkAndStates : ¬ Obligations.TwinLinkAndStates := by
  unfold Obligations.TwinLinkAndStates
  rintro ⟨-, -, -, -, -, -, -, -, hjoin, -⟩
  obtain ⟨t, hexec, -, -, hstate, -⟩ := hjoin joiningUnit (2 ^ 64) 0 0 1 0 0 1 (by decide +kernel) (by decide +kernel)
    (by decide +kernel) (by decide +kernel) rfl (by decide +kernel) (by decide +kernel) (by decide)
  have hjoins : (t.get Reg.TWIN.STAT_STATE == 1) = true :=
    After.of_next (p := fun t => t.get Reg.TWIN.STAT_STATE == 1) hexec (by decide +kernel)
  rw [hstate] at hjoins
  exact absurd hjoins (by decide +kernel)

/-- The one session of a controller, idle and with its whole credit. -/
def idleSession : JrpSession :=
  ⟨77, 2, false, 64, 0xC0A80101, 5000, 1, none, 0, ⟨2, 0, false, false, 77, 0, 0, 0, 0, []⟩, 0, none, [], [], 128000000, 0, [], [],
    0, none, 0, ⟨0, 0, 0, 0, 0⟩⟩

/-- The header of a datagram of that session, with transaction 9. -/
def idleHeader : JrpHdr := ⟨64, 0xC0A80101, 5000, 14720, false, true, true, 77, 9, 0, 0⟩

/-- A state in service that has that session, of a peer with every right. -/
def withSession (s : State) : State :=
  { s with jrp := { s.jrp with sessions := [idleSession], peers := [⟨2, 0xC0A80101, 0, 63, 0⟩] } }.set Reg.CFG.STAT_STEP 9

/-- Refutes O47 by its twentieth clause: the counts that a QUERY finds already hold the QUERY itself, so that the index after the
last of those before it is one that answers. -/
theorem not_jrpRefusals : ¬ Obligations.JrpRefusals := by
  unfold Obligations.JrpRefusals
  rintro ⟨-, -, -, -, -, -, -, -, -, -, -, -, -, -, -, -, -, -, -, hcounts, -⟩
  obtain ⟨t, hexec, hreply, -⟩ := hcounts (withSession State.reset) idleHeader idleSession
    (withSession State.reset).statRecords.length 1 (by decide +kernel) (.inl (Nat.le_refl _))
  have hcount : (t.out.head?.bind (jrpReply idleSession) == some (9, 0, [0, 0, 64, 1])) = true :=
    After.of_next (p := fun t => t.out.head?.bind (jrpReply idleSession) == some (9, 0, [0, 0, 64, 1])) hexec (by decide +kernel)
  rw [hreply] at hcount
  exact absurd hcount (by decide)

/-- A take is scheduled for output 0, and the completion queue holds a record of output 5 with the time of this moment. -/
def completionBehind : State :=
  let s := State.reset.set Reg.FAB.CTRL_EN 1
  withSession { s with fab := { s.fab with sched := [(0, ⟨0, 5, false, false, ⟨0, 0, 3, 0, 0⟩⟩)],
                                           tcq := [⟨State.mkHandle 2 5 1, 0, 0, 0, 0, 0, 0⟩] } }

/-- Refutes O48 by its sixth clause: the record of the cancelled take enters the queue before those of the same time whose outputs
come after its own. -/
theorem not_jrpTakes : ¬ Obligations.JrpTakes := by
  unfold Obligations.JrpTakes
  rintro ⟨-, -, -, -, -, hcancel, -⟩
  obtain ⟨t, hexec, -, -, hlast⟩ := hcancel completionBehind idleHeader idleSession 0 0 ⟨0, 5, false, false, ⟨0, 0, 3, 0, 0⟩⟩
    (by decide +kernel) (by decide +kernel) (by decide +kernel) (by decide) (by decide) rfl rfl (by decide +kernel) rfl
  have hzero : (t.fab.tcq.getLast?.map (fun c => c.code) == some 0) = true :=
    After.of_next (p := fun t => t.fab.tcq.getLast?.map (fun c => c.code) == some 0) hexec (by decide +kernel)
  rw [hlast (by decide +kernel)] at hzero
  exact absurd hzero (by decide)

/-- A salvo of one take without a source, which every check passes. -/
def openSalvo : Salvo := ⟨5, 0, 3, [⟨State.mkHandle 2 1 5, 0, 0, false, false, false, true⟩], none, none, false⟩

/-- That salvo stands open in the store. -/
def salvoToArm : State :=
  let s := ((State.reset.set Reg.FAB.CTRL_EN 1).set (Reg.CHN.ENT_HANDLE 1) (State.mkHandle 2 1 5)).set (Reg.CHN.ENT_STATE_STATE 1) 1
  withSession { s with fab := { s.fab with salvos := [(2, openSalvo)] } }

/-- Refutes O49 by its sixth clause: the lead is judged of the instant that the command brings, and the hypothesis judges it of the
instant that the mailbox held before. -/
theorem not_jrpSalvos : ¬ Obligations.JrpSalvos := by
  unfold Obligations.JrpSalvos
  rintro ⟨-, -, -, -, -, harm, -⟩
  obtain ⟨t, hexec, hreply, -⟩ := harm salvoToArm idleHeader idleSession 5 2 openSalvo 1 0 (by decide +kernel) (by decide +kernel)
    (by decide +kernel) (by decide) (by decide +kernel) rfl rfl (by decide) rfl (by decide +kernel) (by decide)
  have hlate : (t.out.head?.bind (jrpReply idleSession) == some (9, 21, [21, 0, 0])) = true :=
    After.of_next (p := fun t => t.out.head?.bind (jrpReply idleSession) == some (9, 21, [21, 0, 0])) hexec (by decide +kernel)
  rw [hreply] at hlate
  exact absurd hlate (by decide)

/-- A druse of an output on another chip and of one lane in F mode, whose hardware names an ingress entry that no table has: its
HANDLE word would be the second argument of the request mailbox. -/
def laneOfMailboxEntry : State :=
  let s := (((((State.reset.set Reg.CHN.CTRL_EN 1).set (Reg.CHN.ENT_HANDLE 3) (State.mkHandle 10 3 7)).set
    (Reg.CHN.ENT_STATE_STATE 3) 1).set (Reg.CHN.DRU_HANDLE 5) (State.mkHandle 10 3 7)).set (Reg.CHN.REQARG 1) 2).set
    (Reg.LANE.CFG_RXMODE 0) 3 |>.updLane 0 fun x => { x with ents := [0xFE011] }
  withSession { s with chn := { s.chn with chans := [(3, ⟨10, [], [], 0, 5, true, 0, 0, 0, [], []⟩)],
                                           druses := [(5, [⟨0, 1, State.mkHandle 2 9 1, 0, 1⟩, ⟨1, 0, 0, 2, 2⟩])], nextIndex := 4 } }

/-- Refutes O50 by its fourth clause: the handle that the input position resolves to is read once the request has its arguments, and
here it is one of them. -/
theorem not_jrpDruseTakes : ¬ Obligations.JrpDruseTakes := by
  unfold Obligations.JrpDruseTakes
  rintro ⟨-, -, -, hchips, -⟩
  obtain ⟨t, hexec, hreply, -⟩ := hchips laneOfMailboxEntry idleHeader idleSession (State.mkHandle 10 3 7) 0 0 0 0 1 2
    (State.mkHandle 2 9 1)
    (by decide +kernel) (by decide) (by decide) (by decide) (by decide +kernel) (by decide +kernel) (by decide +kernel)
    (by decide +kernel) (by decide +kernel) (by decide +kernel) (by decide) (by decide) (by decide) (by decide) (by decide)
  have hempty : (t.out.head?.bind (jrpReply idleSession) == some (9, 17, [17, 0, 0, 0, 0])) = true :=
    After.of_next (p := fun t => t.out.head?.bind (jrpReply idleSession) == some (9, 17, [17, 0, 0, 0, 0])) hexec (by decide +kernel)
  rw [hreply] at hempty
  exact absurd hempty (by decide)

/-- Refutes O51 by its eleventh clause, with the same druse: the position resolves to an argument of the request itself. -/
theorem not_jrpChannels : ¬ Obligations.JrpChannels := by
  unfold Obligations.JrpChannels
  rintro ⟨-, -, -, -, -, -, -, -, -, -, hresolve, -⟩
  obtain ⟨t, hexec, hreply, -⟩ := hresolve laneOfMailboxEntry idleHeader idleSession (State.mkHandle 10 3 7) 0 0 0 2
    (by decide +kernel) (by decide +kernel) (by decide +kernel) (by decide) (by decide) (by decide) (by decide +kernel)
    (by decide +kernel) (by decide) (by decide)
  have hempty : ((t.out.head?.bind (jrpReply idleSession)).map (fun r => r.2.1) == some 17) = true :=
    After.of_next (p := fun t => (t.out.head?.bind (jrpReply idleSession)).map (fun r => r.2.1) == some 17) hexec
      (by decide +kernel)
  rw [hreply] at hempty
  exact absurd hempty (by decide)

/-- A running quad whose clock stood still while lane 0, in F mode and up, lost its signal; the hardware of that lane names the
ingress entry `e`. -/
def lostWhileStopped (e : Nat) : State :=
  let s := (((State.reset.set (Reg.QUAD.STAT_RUN 0) 1).set (Reg.LANE.STAT_RXSTATE 0) 4).set (Reg.FAB.ISE_ALIGN_STATE e) 3).updLane 0
    fun x => { x with ents := [e], sigWaits := some false }
  { s with inUse := [((Reg.LANE.CFG_RXMODE 0).addr, 3)] }

/-- Refutes O17 by its thirteenth clause: a lane takes the loss of its signal when the PLL locks, and the word of alignment of an
entry that no table has is the one that shows the lock. -/
theorem not_claimsReleaseAndFrameInstants : ¬ Obligations.ClaimsReleaseAndFrameInstants := by
  unfold Obligations.ClaimsReleaseAndFrameInstants
  rintro ⟨-, -, -, -, -, -, -, -, -, -, -, -, hlock, -⟩
  obtain ⟨t, hexec, hlocked, -⟩ := hlock ((lostWhileStopped 0x101E001).set (Reg.QUAD.PLLB_RETUNE 0) 1) 0 1 (by decide) (by decide)
    (by decide +kernel) (by decide +kernel) rfl
  have hcleared : (t.get (State.pllLockF 0 1) == 0) = true :=
    After.of_next (p := fun t => t.get (State.pllLockF 0 1) == 0) hexec (by decide +kernel)
  rw [hlocked] at hcleared
  exact absurd hcleared (by decide)

/-- Refutes O59 by its clause of PLL_RELOCK: the loss of the signal that a lane takes then reaches the entry that the lane names, and
the word of one that no table has lies in the page of another block. -/
theorem not_mediaFramesOfEffect : ¬ Obligations.MediaFramesOfEffect := by
  unfold Obligations.MediaFramesOfEffect
  rintro ⟨-, -, -, -, -, -, -, -, -, -, -, -, -, -, -, -, -, -, -, -, -, -, -, -, -, -, -, -, -, -, hrelock, -⟩
  have hword : After (fun t => t.rd (Reg.CHN.REQARG 2).addr == 0) (exec (.pllRelock 0 0) (lostWhileStopped 0xFE011)) = true := by
    decide +kernel
  cases hexec : exec (.pllRelock 0 0) (lostWhileStopped 0xFE011) with
  | next t =>
    obtain ⟨-, hkept⟩ := hrelock (lostWhileStopped 0xFE011) t 0 0 (by decide) hexec
    rw [hexec, After, hkept _ (by decide)] at hword
    exact absurd hword (by decide +kernel)
  | fault f => exact absurd hexec (by intro h; cases h)
  | refused r => exact absurd hexec (by intro h; cases h)

/-- Refutes O60 by its clause of SENSOR_CONVERSION, with a sensor that no table has: its word lies in the page of another block. -/
theorem not_linkFramesOfEffect : ¬ Obligations.LinkFramesOfEffect := by
  unfold Obligations.LinkFramesOfEffect
  rintro ⟨-, -, -, -, -, -, -, -, -, -, -, -, -, -, -, -, -, -, -, -, -, -, -, -, -, -, -, -, -, hconv, -⟩
  have hword : After (fun t => t.rd (Reg.SNS.TEMP 0x8000).addr == 1) (exec (.sensorConversion false 1 false) foreignSensor) = true := by
    decide +kernel
  cases hexec : exec (.sensorConversion false 1 false) foreignSensor with
  | next t =>
    obtain ⟨-, hkept⟩ := hconv foreignSensor t false 1 false (by decide) hexec
    rw [hexec, After, hkept _ (by decide)] at hword
    exact absurd hword (by decide +kernel)
  | fault f => exact absurd hexec (by intro h; cases h)
  | refused r => exact absurd hexec (by intro h; cases h)

end Sys2Proof.Machine
end

section
/-! SUPPORT. What every command keeps: the waiting commands, blown fuses, and the canonical form of the register file and of the
byte memories. One lemma per operation of the model, in the order of its files. -/

set_option Elab.async false

namespace Sys2Proof.Machine

/-- The bus matrix stands in `t` as in `s`: its locks, what waits at them, and the transaction of the service port. -/
structure SameMatrix (s t : State) : Prop where
  locks : t.mgt.locks = s.mgt.locks
  stalled : t.mgt.stalled = s.mgt.stalled
  inflight : t.mgt.sp.inflight = s.mgt.sp.inflight
  done : t.mgt.sp.done = s.mgt.sp.done

theorem SameMatrix.trans {s t u : State} (h : SameMatrix s t) (h' : SameMatrix t u) : SameMatrix s u :=
  ⟨h'.locks.trans h.locks, h'.stalled.trans h.stalled, h'.inflight.trans h.inflight, h'.done.trans h.done⟩

/-- `t` comes of `s` with the same commands waiting, no fuse restored, and sound where `s` is; where `mx` says so, the bus matrix
stands as it did. -/
structure Kept (mx : Bool) (s t : State) : Prop where
  pending : t.pending = s.pending
  fuses : FusesKept s t
  sound : Sound s → Sound t
  matrix : mx = true → SameMatrix s t

/-- The outcome is a next state that keeps what `Kept` says of `s`. -/
def Completes (s : State) (o : Host.Outcome State Fault Refusal) : Prop := ∃ t, o = .next t ∧ Kept false s t

/-- The state that a loader step leaves. -/
abbrev LoadOut.state : LoadOut → State
  | .go s => s
  | .wait _ s => s
  | .reject _ _ s => s
  | .halt s => s

variable {mx : Bool} {s₀ t : State}

theorem Kept.refl (s : State) : Kept mx s s := ⟨rfl, ⟨id, id, id⟩, id, fun _ => ⟨rfl, rfl, rfl, rfl⟩⟩

theorem Kept.next (h : Kept false s₀ t) : Completes s₀ (.next t) := ⟨t, rfl, h⟩

theorem Completes.next (h : Kept false s₀ t) : Completes s₀ (.next t) := h.next

theorem Completes.ite {c : Prop} [Decidable c] {a b : Host.Outcome State Fault Refusal} (ha : Completes s₀ a)
    (hb : Completes s₀ b) : Completes s₀ (if c then a else b) := by
  split
  · exact ha
  · exact hb

theorem Kept.ite {c : Prop} [Decidable c] {a b : State} (ha : Kept mx s₀ a) (hb : Kept mx s₀ b) : Kept mx s₀ (if c then a else b) := by
  split
  · exact ha
  · exact hb

theorem Kept.foldl {α : Type} {f : State → α → State} {l : List α} (h : Kept mx s₀ t) (hf : ∀ x k, Kept mx s₀ k → Kept mx s₀ (f k x)) :
    Kept mx s₀ (l.foldl f t) := by
  induction l generalizing t with
  | nil => exact h
  | cons x l ih => exact ih (hf x t h)

/-- A state with the same registers, memories, fuses and waiting commands. -/
theorem Kept.same {u : State} (h : Kept mx s₀ t) (hp : u.pending = t.pending) (hf : u.fuses = t.fuses) (hr : u.regs = t.regs)
    (hm : u.mgt.sram = t.mgt.sram) (hd : u.dram.mem = t.dram.mem)
    (hx : mx = true → SameMatrix t u := by exact fun _ => ⟨rfl, rfl, rfl, rfl⟩) : Kept mx s₀ u where
  pending := hp.trans h.pending
  fuses := by unfold FusesKept; rw [hf]; exact h.fuses
  sound hs := by
    obtain ⟨hregs, hmem⟩ := h.sound hs
    unfold RegsCanon MemCanon at *
    exact ⟨by unfold RegsCanon; rw [hr]; exact hregs, by unfold MemCanon; rw [hm, hd]; exact hmem⟩
  matrix e := (h.matrix e).trans (hx e)

section
variable {α β γ : Type} {t u : State}

theorem Kept.snd_eq {p : α × State} {a : α} (e : p = (a, u)) (h : Kept mx s₀ p.2) : Kept mx s₀ u := by subst e; exact h

theorem Kept.fst_eq {p : State × α} {a : α} (e : p = (u, a)) (h : Kept mx s₀ p.1) : Kept mx s₀ u := by subst e; exact h

theorem Kept.snd_snd_eq {p : α × β × State} {a : α} {b : β} (e : p = (a, b, u)) (h : Kept mx s₀ p.2.2) : Kept mx s₀ u := by
  subst e; exact h

theorem Kept.snd_snd_snd_eq {p : α × β × γ × State} {a : α} {b : β} {c : γ} (e : p = (a, b, c, u)) (h : Kept mx s₀ p.2.2.2) :
    Kept mx s₀ u := by
  subst e; exact h

theorem Kept.state_eq {o o' : LoadOut} (e : o = o') (h : Kept mx s₀ o.state) : Kept mx s₀ o'.state := e ▸ h

theorem Kept.getD_eq {o : Option State} {u : State} (e : o = some u) (h : Kept mx s₀ (o.getD t)) : Kept mx s₀ u := by
  subst e; exact h

end


/-! ### Ops -/

/-- A register is written through the table's own write, which keeps the canonical form. -/
theorem Kept.wr {a : Nat} {w : Word} (h : Kept mx s₀ t) : Kept mx s₀ (t.wr a w) where
  matrix e := (h.matrix e).trans ⟨rfl, rfl, rfl, rfl⟩
  pending := h.pending
  fuses := h.fuses
  sound hs := ⟨Assoc.canon_set a w (h.sound hs).regs, (h.sound hs).mem⟩

theorem Kept.set {r : FRef} {v : Nat} (h : Kept mx s₀ t) : Kept mx s₀ (t.set r v) := h.wr

theorem Kept.setB {r : FRef} {b : Bool} (h : Kept mx s₀ t) : Kept mx s₀ (t.setB r b) := h.set

theorem Kept.bump {r : FRef} {n : Nat} (h : Kept mx s₀ t) : Kept mx s₀ (t.bump r n) := h.set

theorem Kept.bumpSat {r : FRef} {n : Nat} (h : Kept mx s₀ t) : Kept mx s₀ (t.bumpSat r n) := h.set

theorem Kept.orBit {r : FRef} {i : Nat} (h : Kept mx s₀ t) : Kept mx s₀ (t.orBit r i) := h.set

theorem Kept.takeWide {lo : Nat} (h : Kept mx s₀ t) : Kept mx s₀ (t.takeWide lo) := Kept.same h rfl rfl rfl rfl rfl

theorem Kept.set64 {lo hi : FRef} {v : Nat} (h : Kept mx s₀ t) : Kept mx s₀ (t.set64 lo hi v) := h.set.set

theorem Kept.when {c : Bool} {f : State → State} (h : Kept mx s₀ t) (hf : ∀ x0, Kept mx s₀ x0 → Kept mx s₀ (f x0)) :
    Kept mx s₀ (t.when c f) :=
  Kept.ite (hf _ h) h

theorem Kept.each {α : Type} {l : List α} {f : α → State → State} (h : Kept mx s₀ t) (hf : ∀ x0 x1, Kept mx s₀ x1 → Kept mx s₀
    (f x0 x1)) :
    Kept mx s₀ (t.each l f) :=
  Kept.foldl h (fun _ _ k => hf _ _ k)

theorem Kept.fresh (h : Kept mx s₀ t) : Kept mx s₀ t.fresh.2 := Kept.same h rfl rfl rfl rfl rfl

theorem Kept.setFree {r : FRef} (h : Kept mx s₀ t) : Kept mx s₀ (t.setFree r) := h.fresh.set

theorem Kept.updMgt {f : MgtState → MgtState} (h : Kept mx s₀ t) (hf : (f t.mgt).sram = t.mgt.sram)
    (hx : mx = true → SameMatrix t (t.updMgt f) := by exact fun _ => ⟨rfl, rfl, rfl, rfl⟩) : Kept mx s₀ (t.updMgt f) :=
  h.same rfl rfl rfl hf rfl hx

theorem Kept.updFlt {f : FltState → FltState} (h : Kept mx s₀ t) : Kept mx s₀ (t.updFlt f) := Kept.same h rfl rfl rfl rfl rfl

theorem Kept.emit {o : Output} (h : Kept mx s₀ t) : Kept mx s₀ (t.emit o) := Kept.same h rfl rfl rfl rfl rfl

theorem Kept.updTime {f : TimeState → TimeState} (h : Kept mx s₀ t) : Kept mx s₀ (t.updTime f) :=
  Kept.same h rfl rfl rfl rfl rfl

theorem Kept.updPtp {f : PtpState → PtpState} (h : Kept mx s₀ t) : Kept mx s₀ (t.updPtp f) := h.updTime

theorem Kept.setTime96 {v : Nat} (h : Kept mx s₀ t) : Kept mx s₀ (t.setTime96 v) := h.set.set.set

/-! ### Flags -/

theorem Kept.raiseWord {src : Nat} {data : Word} (h : Kept mx s₀ t) : Kept mx s₀ (t.raiseWord src data) :=
  Kept.ite (Kept.when (Kept.bump (Kept.same h rfl rfl rfl rfl rfl)) (fun _ k => k.bump)) h

theorem Kept.raise {src : Nat} {items : List Nat} (h : Kept mx s₀ t) : Kept mx s₀ (t.raise src items) := h.raiseWord

theorem Kept.raiseLimited {key src : Nat} {items : List Nat} (h : Kept mx s₀ t) : Kept mx s₀ (t.raiseLimited key src items) :=
  Kept.ite (Kept.raise (Kept.same h rfl rfl rfl rfl rfl)) h

theorem Kept.cause {evstat even : FRef} {src c : Nat} {items : List Nat} (h : Kept mx s₀ t) :
    Kept mx s₀ (t.cause evstat even src c items) :=
  Kept.ite h.orBit.raiseLimited h.orBit

theorem Kept.event {evstat : FRef} {b src : Nat} {items : List Nat} (h : Kept mx s₀ t) :
    Kept mx s₀ (t.event evstat b src items) :=
  h.orBit.raise

theorem Kept.eventEn {evstat even : FRef} {b src : Nat} {items : List Nat} (h : Kept mx s₀ t) :
    Kept mx s₀ (t.eventEn evstat even b src items) :=
  Kept.ite h.orBit.raise h.orBit

theorem Kept.fabEvent {n : Nat} {items : List Nat} (h : Kept mx s₀ t) : Kept mx s₀ (t.fabEvent n items) := h.event

theorem Kept.ipmEvent {n : Nat} {items : List Nat} (h : Kept mx s₀ t) : Kept mx s₀ (t.ipmEvent n items) := h.event

theorem Kept.audEvent {n : Nat} {items : List Nat} (h : Kept mx s₀ t) : Kept mx s₀ (t.audEvent n items) := h.event

theorem Kept.timeEvent {n : Nat} {items : List Nat} (h : Kept mx s₀ t) : Kept mx s₀ (t.timeEvent n items) := h.event

theorem Kept.lodeEvent {n : Nat} {items : List Nat} (h : Kept mx s₀ t) : Kept mx s₀ (t.lodeEvent n items) := h.event

theorem Kept.twinEvent {n : Nat} {items : List Nat} (h : Kept mx s₀ t) : Kept mx s₀ (t.twinEvent n items) := h.eventEn

theorem Kept.gbusEvent {n : Nat} {items : List Nat} (h : Kept mx s₀ t) : Kept mx s₀ (t.gbusEvent n items) := h.eventEn

theorem Kept.sdiCause {n c : Nat} (h : Kept mx s₀ t) : Kept mx s₀ (t.sdiCause n c) := h.cause

theorem Kept.cnvCause {n c : Nat} (h : Kept mx s₀ t) : Kept mx s₀ (t.cnvCause n c) := h.cause

theorem Kept.aprtCause {n c : Nat} (h : Kept mx s₀ t) : Kept mx s₀ (t.aprtCause n c) := h.cause

theorem Kept.micaCause {m c : Nat} (h : Kept mx s₀ t) : Kept mx s₀ (t.micaCause m c) := h.cause

theorem Kept.laneCause {n c : Nat} (h : Kept mx s₀ t) : Kept mx s₀ (t.laneCause n c) := h.cause

theorem Kept.quadCause {q c : Nat} (h : Kept mx s₀ t) : Kept mx s₀ (t.quadCause q c) := h.cause

theorem Kept.ethCause {p c : Nat} (h : Kept mx s₀ t) : Kept mx s₀ (t.ethCause p c) := h.cause

theorem Kept.drcCause {n c : Nat} (h : Kept mx s₀ t) : Kept mx s₀ (t.drcCause n c) := h.cause

theorem Kept.drccCause {c : Nat} (h : Kept mx s₀ t) : Kept mx s₀ (t.drccCause c) := h.cause

theorem Kept.cfgIgnoredEvent {b : Blk} {addr : Nat} (h : Kept mx s₀ t) : Kept mx s₀ (t.cfgIgnoredEvent b addr) := by
  unfold State.cfgIgnoredEvent
  split
  · exact h.raise
  · exact h.raise
  · exact h.raise
  · exact h.raise
  · exact h.raise
  · exact h.raise
  · exact h.raise
  · exact h.sdiCause
  · exact h.ethCause
  · exact h.raise
  · exact h.audEvent
  · exact h.aprtCause
  · exact h.cnvCause
  · exact h.micaCause
  · exact h
  · exact h.raise
  · exact h.laneCause
  · exact h.quadCause
  · exact h.gbusEvent
  · exact h.raise
  · exact h.drcCause
  · exact h.drccCause
  · exact h.raise
  · exact h.raise
  · exact h.raise
  · exact h.raise
  · exact h.raise

theorem Kept.recordIgnored {m addr : Nat} (h : Kept mx s₀ t) : Kept mx s₀ (t.recordIgnored m addr) := h.set.set.bumpSat

theorem Kept.markIgnored {m : Nat} (h : Kept mx s₀ t) : Kept mx s₀ (t.markIgnored m) :=
  Kept.ite (Kept.same h rfl rfl rfl rfl rfl) h

theorem Kept.cfgIgnored {m : Nat} {b : Blk} {addr : Nat} (h : Kept mx s₀ t) : Kept mx s₀ (t.cfgIgnored m b addr) :=
  h.set.recordIgnored.markIgnored.cfgIgnoredEvent

theorem Kept.lockIgnored {m addr : Nat} (h : Kept mx s₀ t) : Kept mx s₀ (t.lockIgnored m addr) := h.set.recordIgnored.raise

/-! ### Notify -/

theorem Kept.updJrp {f : JrpState → JrpState} (h : Kept mx s₀ t) : Kept mx s₀ (t.updJrp f) := Kept.same h rfl rfl rfl rfl rfl

theorem Kept.updSession {id : Nat} {f : JrpSession → JrpSession} (h : Kept mx s₀ t) : Kept mx s₀ (t.updSession id f) :=
  h.updJrp

theorem Kept.notify {hit : JrpSub → Bool} {n : JrpNote} (h : Kept mx s₀ t) : Kept mx s₀ (t.notify hit n) := h.updJrp

theorem Kept.notifyEvent {seq src sev data time merged : Nat} (h : Kept mx s₀ t) :
    Kept mx s₀ (t.notifyEvent seq src sev data time merged) :=
  h.notify

theorem Kept.notifyRoute {i src tsw : Nat} (h : Kept mx s₀ t) : Kept mx s₀ (t.notifyRoute i src tsw) := h.notify

theorem Kept.notifyTallies {sys n : Nat} {l : List Byte} (h : Kept mx s₀ t) : Kept mx s₀ (t.notifyTallies sys n l) := by
  induction n generalizing t l with
  | zero => exact h
  | succ n ih =>
    match l with
    | [] | [_] => exact h
    | _ :: _ :: _ => exact ih (h.when fun _ k => k.notify)

theorem Kept.closeSession {id : Nat} (h : Kept mx s₀ t) : Kept mx s₀ (t.closeSession id) := by
  unfold State.closeSession
  split
  · exact h
  · exact h.updJrp

theorem Kept.closeSessions (h : Kept mx s₀ t) : Kept mx s₀ t.closeSessions := h.each (fun _ _ k => k.closeSession)

/-! ### Time -/

theorem Kept.setIncrInUse {v : Nat} (h : Kept mx s₀ t) : Kept mx s₀ (t.setIncrInUse v) := h.set64

theorem Kept.incrIgnored {items : List Nat} (h : Kept mx s₀ t) : Kept mx s₀ (t.incrIgnored items) := h.set.timeEvent

theorem Kept.showStepPend (h : Kept mx s₀ t) : Kept mx s₀ t.showStepPend := h.setB

theorem Kept.incrHiLand {data : Word} (h : Kept mx s₀ t) : Kept mx s₀ (t.incrHiLand data) :=
  Kept.ite h.incrIgnored h.set.setIncrInUse

theorem Kept.stepHiLand {data : Word} (h : Kept mx s₀ t) : Kept mx s₀ (t.stepHiLand data) := h.updTime.showStepPend

theorem Kept.offHiLand {data : Word} (h : Kept mx s₀ t) : Kept mx s₀ (t.offHiLand data) := Kept.ite h.updTime h.incrIgnored

theorem Kept.timeFirmware {o : Nat} {data : Word} (h : Kept mx s₀ t) : Kept mx s₀ (t.timeFirmware o data) :=
  Kept.ite h.cfgIgnored (Kept.ite h.incrHiLand h.stepHiLand)

theorem Kept.timeModeChanged {old : Nat} (h : Kept mx s₀ t) : Kept mx s₀ (t.timeModeChanged old) := Kept.ite h.updTime.set h

theorem Kept.servoTake {off : Int} (h : Kept mx s₀ t) : Kept mx s₀ (t.servoTake off) :=
  Kept.ite h.bump.updTime.showStepPend.set.bump.timeEvent ((h.bump.updTime.set.set.when (fun _ k =>
      k.timeEvent)).setIncrInUse)

theorem Kept.takeStep (h : Kept mx s₀ t) : Kept mx s₀ t.takeStep.2 := by
  unfold State.takeStep
  split
  · exact h
  · exact h.updTime.showStepPend

theorem Kept.countTick {step : Option Int} (h : Kept mx s₀ t) : Kept mx s₀ (t.countTick step) := h.setTime96

theorem Kept.stepDone (h : Kept mx s₀ t) : Kept mx s₀ t.stepDone := h.bump.set64.timeEvent.when (fun _ k => k.timeEvent)

theorem Kept.captureTick (h : Kept mx s₀ t) : Kept mx s₀ t.captureTick := Kept.ite h.updTime.set.set.set.bump h

theorem Kept.servoTick (h : Kept mx s₀ t) : Kept mx s₀ t.servoTick := h.updTime.each (fun _ _ k => k.servoTake)

theorem Kept.showTxq {p : Nat} (h : Kept mx s₀ t) : Kept mx s₀ (t.showTxq p) := by
  unfold State.showTxq
  extract_lets +onlyGivenNames q t1
  clear_value q
  have h1 : Kept mx s₀ t1 := h.set.setB
  split
  · exact h1
  · exact h1.set.set.set

theorem Kept.txqPush {p id stamp : Nat} (h : Kept mx s₀ t) : Kept mx s₀ (t.txqPush p id stamp) :=
  Kept.ite h.updTime.showTxq h.bump.set.set.raise

theorem Kept.txqPopLand {p : Nat} (h : Kept mx s₀ t) : Kept mx s₀ (t.txqPopLand p) := by
  unfold State.txqPopLand
  split
  · exact h
  · exact h.updTime.bump.showTxq

/-! ### Lode -/

theorem Kept.updLode {f : LodeState → LodeState} (h : Kept mx s₀ t) : Kept mx s₀ (t.updLode f) :=
  Kept.same h rfl rfl rfl rfl rfl

theorem Kept.showLoop (h : Kept mx s₀ t) : Kept mx s₀ t.showLoop := h.set.set.set

theorem Kept.moveL {d : Int} (h : Kept mx s₀ t) : Kept mx s₀ (t.moveL d) := h.updLode

theorem Kept.realign (h : Kept mx s₀ t) : Kept mx s₀ t.realign := h.updLode.moveL.updLode.showLoop.lodeEvent

theorem Kept.enterLoop {st : Nat} (h : Kept mx s₀ t) : Kept mx s₀ (t.enterLoop st) := by
  unfold State.enterLoop
  extract_lets +onlyGivenNames _
  split
  · exact h
  · extract_lets +onlyGivenNames t1
    have h1 : Kept mx s₀ t1 := h.set.updLode
    extract_lets +onlyGivenNames t2
    have h2 : Kept mx s₀ t2 := Kept.ite h1.set.set h1
    exact Kept.ite ((Kept.ite ((Kept.ite h2.lodeEvent h2.lodeEvent).lodeEvent) (Kept.ite h2.lodeEvent
        h2.lodeEvent)).realign) (Kept.ite ((Kept.ite h2.lodeEvent h2.lodeEvent).lodeEvent) (Kept.ite h2.lodeEvent
        h2.lodeEvent))

theorem Kept.holdCompute (h : Kept mx s₀ t) : Kept mx s₀ t.holdCompute := h.setB.set

theorem Kept.loseAll (h : Kept mx s₀ t) : Kept mx s₀ t.loseAll :=
  Kept.ite h.set (Kept.ite h.set.updLode.enterLoop.holdCompute h.set.enterLoop.set)

theorem Kept.switchRef {new : Nat} (h : Kept mx s₀ t) : Kept mx s₀ (t.switchRef new) :=
  Kept.ite h.set.enterLoop (Kept.ite h.set.updLode.showLoop.enterLoop (h.set.updLode.showLoop.when (fun _ k =>
      k.lodeEvent)))

theorem Kept.reselect (h : Kept mx s₀ t) : Kept mx s₀ t.reselect := Kept.ite (Kept.ite h (Kept.ite h.loseAll h.switchRef)) h

theorem Kept.qualify {ref : Nat} (h : Kept mx s₀ t) : Kept mx s₀ (t.qualify ref) := Kept.ite h.updLode.lodeEvent.reselect h

theorem Kept.disqualify {ref : Nat} (h : Kept mx s₀ t) : Kept mx s₀ (t.disqualify ref) :=
  Kept.ite (Kept.ite h.updLode.lodeEvent.lodeEvent.reselect h.updLode.lodeEvent) h

theorem Kept.ptpstatLand {q : Bool} (h : Kept mx s₀ t) : Kept mx s₀ (t.ptpstatLand q) :=
  Kept.ite h.setB.qualify h.setB.disqualify

theorem Kept.lodeStop (h : Kept mx s₀ t) : Kept mx s₀ t.lodeStop := h.updLode.enterLoop.set.set

theorem Kept.lodeStart (h : Kept mx s₀ t) : Kept mx s₀ t.lodeStart := h.updLode.set.set.set.set.when (fun _ k => k.qualify)

theorem Kept.decayBuildout (h : Kept mx s₀ t) : Kept mx s₀ t.decayBuildout := Kept.ite h.updLode h.updLode

theorem Kept.showAvg (h : Kept mx s₀ t) : Kept mx s₀ t.showAvg := h.set.set

theorem Kept.avgSample (h : Kept mx s₀ t) : Kept mx s₀ t.avgSample := Kept.ite h.updLode.showAvg h

theorem Kept.loopStepMoves (h : Kept mx s₀ t) : Kept mx s₀ t.loopStepMoves :=
  Kept.ite h (Kept.ite h.moveL.set.updLode.showLoop.set.lodeEvent h.moveL.set.updLode.showLoop)

theorem Kept.steer (h : Kept mx s₀ t) : Kept mx s₀ t.steer := h.fresh.set

theorem Kept.judgePhase (h : Kept mx s₀ t) : Kept mx s₀ t.judgePhase := by
  unfold State.judgePhase
  extract_lets +onlyGivenNames _ _
  split
  · exact h.realign
  · split
    · exact h.enterLoop
    · split
      · exact h.updLode
      · exact h

theorem Kept.pulseIn {ref : Nat} {line : Bool} {late : Int} (h : Kept mx s₀ t) : Kept mx s₀ (t.pulseIn ref line late) := by
  unfold State.pulseIn
  exact h.updLode

theorem Kept.phaseCompare {ref : Nat} {line : Bool} {late : Int} (h : Kept mx s₀ t) :
    Kept mx s₀ (t.phaseCompare ref line late) :=
  Kept.ite (((((((Kept.ite h h.pulseIn).loopStepMoves).decayBuildout).steer).judgePhase).showLoop).avgSample) (Kept.ite
      h h.pulseIn)

theorem Kept.stageAdvance (h : Kept mx s₀ t) : Kept mx s₀ t.stageAdvance := by
  unfold State.stageAdvance
  split
  · exact Kept.ite (Kept.ite h.enterLoop (Kept.ite h.enterLoop.updLode h)) h
  · exact h

theorem Kept.holdSecond (h : Kept mx s₀ t) : Kept mx s₀ t.holdSecond :=
  Kept.ite (Kept.ite h.bump.holdCompute.updLode.set.lodeEvent h.bump.holdCompute) h

theorem Kept.loopStepLand {data : Word} (h : Kept mx s₀ t) : Kept mx s₀ (t.loopStepLand data) :=
  h.loopStepMoves.set.set.updLode.setB.when (fun _ k => k.lodeEvent)

theorem Kept.planeStepLand {p : Nat} {data : Word} (h : Kept mx s₀ t) : Kept mx s₀ (t.planeStepLand p data) := by
  unfold State.planeStepLand
  exact h.updLode

theorem Kept.planeStepInstant {p : Nat} (h : Kept mx s₀ t) : Kept mx s₀ (t.planeStepInstant p).1 := by
  unfold State.planeStepInstant
  extract_lets +onlyGivenNames q t1
  clear_value q
  have h1 : Kept mx s₀ t1 := h.updLode
  split
  · exact h1
  · dsimp only
    exact h1.updLode.set.lodeEvent

theorem Kept.planeRejoins {p : Nat} (h : Kept mx s₀ t) : Kept mx s₀ (t.planeRejoins p) := h.updLode

theorem Kept.clkRejoin {l : Nat} (h : Kept mx s₀ t) : Kept mx s₀ (t.clkRejoin l) := h.updLode

/-! ### Dram -/

theorem Kept.updDram {f : DramState → DramState} (h : Kept mx s₀ t) (hf : (f t.dram).mem = t.dram.mem) :
    Kept mx s₀ (t.updDram f) := h.same rfl rfl rfl rfl hf

/-- A write of DRAM that keeps the canonical form. -/
theorem Kept.updDram_mem {f : DramState → DramState} (h : Kept mx s₀ t)
    (hf : Memory.wf t.dram.mem = true → Memory.wf (f t.dram).mem = true) : Kept mx s₀ (t.updDram f) where
  pending := h.pending
  fuses := h.fuses
  sound hs := ⟨(h.sound hs).regs, (h.sound hs).mem.1, hf (h.sound hs).mem.2⟩
  matrix e := (h.matrix e).trans ⟨rfl, rfl, rfl, rfl⟩

theorem Kept.showDrcEn (h : Kept mx s₀ t) : Kept mx s₀ t.showDrcEn := h.each (fun _ _ k => k.setB)

theorem Kept.dramStart (h : Kept mx s₀ t) : Kept mx s₀ t.dramStart :=
  Kept.ite (h.showDrcEn.set.set.set.each (fun _ _ k => k.set)) h.showDrcEn.set.drccCause

theorem Kept.showSpace (h : Kept mx s₀ t) : Kept mx s₀ t.showSpace := h.set

theorem Kept.dramStop (h : Kept mx s₀ t) : Kept mx s₀ t.dramStop := (((h.each (fun _ _ k => k.set.set.set)).set).set).set

theorem Kept.trainShow {r : TrainResult} (h : Kept mx s₀ t) : Kept mx s₀ (t.trainShow r) :=
  Kept.ite h.set.set.set.set.set.set h.set.set.set.set.set.cause

theorem Kept.trainDone {results : List TrainResult} (h : Kept mx s₀ t) : Kept mx s₀ (t.trainDone results) := by
  have h1 (l : List TrainResult) (cfg : Option Word) (n : Nat) : Kept mx s₀ ((t.each l State.trainShow).updDram fun d =>
      { d with trainedCfg := cfg, scrubAt := n, mem := if d.trainedCfg = cfg then d.mem else [],
               inverted := if d.trainedCfg = cfg then d.inverted else [] }) := by
    refine (h.each fun _ _ k => k.trainShow).updDram_mem fun hm => ?_
    dsimp only
    split
    · exact hm
    · rfl
  unfold State.trainDone
  refine Kept.ite ?_ h
  extract_lets +onlyGivenNames rs t1
  refine Kept.ite (Kept.showSpace (Kept.set (Kept.set (Kept.set (Kept.set (h1 _ _ _)))))) ?_
  exact (h.each fun _ _ k => k.trainShow).set.set.set

theorem Kept.showCharged (h : Kept mx s₀ t) : Kept mx s₀ t.showCharged := h.set.showSpace

theorem Kept.charge {kbps pages : Nat} (h : Kept mx s₀ t) : Kept mx s₀ (t.charge kbps pages) := (h.updDram rfl).showCharged

theorem Kept.uncharge {kbps pages : Nat} (h : Kept mx s₀ t) : Kept mx s₀ (t.uncharge kbps pages) :=
  (h.updDram rfl).showCharged

theorem Kept.countUnits {a len cls : Nat} (h : Kept mx s₀ t) : Kept mx s₀ (t.countUnits a len cls) :=
  h.each (fun _ _ k => k.bump)

theorem Kept.chkinvStrike (h : Kept mx s₀ t) : Kept mx s₀ t.chkinvStrike := by
  unfold State.chkinvStrike
  exact h.set.set.updDram rfl

theorem Kept.eccCor {c : Nat} (h : Kept mx s₀ t) : Kept mx s₀ (t.eccCor c) := h.bump.drcCause

theorem Kept.eccUnc {c a : Nat} (h : Kept mx s₀ t) : Kept mx s₀ (t.eccUnc c a) := h.bump.set.set.drcCause

theorem Kept.eccWord {w bits : Nat} {q : Nat × State} (h : Kept mx s₀ q.2) : Kept mx s₀ (State.eccWord w bits q).2 := by
  unfold State.eccWord
  split
  · exact (h.updDram rfl).eccCor
  · exact h.eccUnc

theorem Kept.eccWords {l : List (Nat × Nat)} {q : Nat × State} (h : Kept mx s₀ q.2) :
    Kept mx s₀ (l.foldl (fun q p => State.eccWord p.1 p.2 q) q).2 := by
  induction l generalizing q with
  | nil => exact h
  | cons p l ih => exact ih h.eccWord

theorem Kept.eccCheck {a len flips : Nat} (h : Kept mx s₀ t) : Kept mx s₀ (t.eccCheck a len flips).2 := by
  unfold State.eccCheck
  split
  · exact Kept.eccWords h
  · exact h

theorem Kept.mediaWritten {bytes : Nat} (h : Kept mx s₀ t) : Kept mx s₀ (t.mediaWritten bytes) :=
  Kept.ite (h.each (fun _ _ k => k.bump)) h

theorem Kept.dramWrite {a : Nat} {bytes : List Byte} (h : Kept mx s₀ t) : Kept mx s₀ (t.dramWrite a bytes) :=
  ((h.each fun _ _ k => k.eccCheck).countUnits.updDram_mem (Memory.wf_writeN a bytes)).when fun _ k => k.chkinvStrike

theorem Kept.dramRead {a n : Nat} (h : Kept mx s₀ t) : Kept mx s₀ (t.dramRead a n).2 := by
  unfold State.dramRead
  extract_lets +onlyGivenNames r1
  have h1 : Kept mx s₀ r1.2 := h.countUnits.eccCheck
  split
  · exact h1
  · exact h1

theorem Kept.refreshDue {c : Nat} {c0queued : Bool} (h : Kept mx s₀ t) : Kept mx s₀ (t.refreshDue c c0queued) :=
  Kept.ite (Kept.ite h.set (Kept.ite h h.set.bump.drcCause)) h.set

theorem Kept.mr4Poll {c code band : Nat} {overs : Bool} (h : Kept mx s₀ t) : Kept mx s₀ (t.mr4Poll c code band overs) :=
  (h.set.setB.updDram rfl).when (fun _ k => k.drcCause)

theorem Kept.ageExpire {c cls : Nat} (h : Kept mx s₀ t) : Kept mx s₀ (t.ageExpire c cls) := Kept.ite h.bump.drcCause h.bump

theorem Kept.trackMove {c : Nat} {move : Int} (h : Kept mx s₀ t) : Kept mx s₀ (t.trackMove c move) :=
  h.set.when (fun _ k => k.drcCause)

theorem Kept.scrubLate (h : Kept mx s₀ t) : Kept mx s₀ t.scrubLate := Kept.ite ((h.updDram rfl).drccCause) h

/-! ### Store -/

theorem Kept.updFab {f : FabState → FabState} (h : Kept mx s₀ t) : Kept mx s₀ (t.updFab f) := Kept.same h rfl rfl rfl rfl rfl

theorem Kept.updIng {e : Nat} {f : Ingress → Ingress} (h : Kept mx s₀ t) : Kept mx s₀ (t.updIng e f) := h.updFab

theorem Kept.updEgr {e : Nat} {f : Egress → Egress} (h : Kept mx s₀ t) : Kept mx s₀ (t.updEgr e f) := h.updFab

theorem Kept.showBudget (h : Kept mx s₀ t) : Kept mx s₀ t.showBudget := h.set.set.set.set

theorem Kept.setNeed {w : CompactWait} {ins outs : List Nat} (h : Kept mx s₀ t) : Kept mx s₀ (t.setNeed w ins outs) :=
  h.updFab.showBudget

theorem Kept.dropNeed {w : CompactWait} (h : Kept mx s₀ t) : Kept mx s₀ (t.dropNeed w) := h.updFab.showBudget

theorem Kept.openIng {e size plane path handle fmt : Nat} {whole : Bool} (h : Kept mx s₀ t) :
    Kept mx s₀ (t.openIng e size plane path handle fmt whole) :=
  h.updFab.set.set.set.set.set.showBudget

theorem Kept.openEgr {e size plane kind handle fmt : Nat} {whole : Bool} (h : Kept mx s₀ t) :
    Kept mx s₀ (t.openEgr e size plane kind handle fmt whole) :=
  h.updFab.set.set.set.set.set.showBudget

theorem Kept.clearWords {base : Nat} (h : Kept mx s₀ t) : Kept mx s₀ (t.clearWords base) := h.wr.wr.wr.wr

theorem Kept.copyWords {from_ into : Nat} (h : Kept mx s₀ t) : Kept mx s₀ (t.copyWords from_ into) := h.wr.wr.wr.wr

theorem Kept.closeIng {e : Nat} (h : Kept mx s₀ t) : Kept mx s₀ (t.closeIng e) := h.updFab.clearWords.showBudget

theorem Kept.closeEgr {e : Nat} (h : Kept mx s₀ t) : Kept mx s₀ (t.closeEgr e) := h.updFab.clearWords.wr.showBudget

theorem Kept.fabLimited {key n : Nat} {items : List Nat} (h : Kept mx s₀ t) : Kept mx s₀ (t.fabLimited key n items) :=
  Kept.ite (Kept.fabEvent (Kept.same h rfl rfl rfl rfl rfl)) h

theorem Kept.chkinvStruck {addr : Nat} (h : Kept mx s₀ t) : Kept mx s₀ (t.chkinvStruck addr) :=
  Kept.ite (Kept.raise (Kept.set (Kept.set (Kept.set (Kept.same h rfl rfl rfl rfl rfl))))) h

theorem Kept.wordWritten {mem addr : Nat} (h : Kept mx s₀ t) : Kept mx s₀ (t.wordWritten mem addr) :=
  Kept.ite (Kept.same h rfl rfl rfl rfl rfl) h

theorem Kept.chkinvStruckAt {mem addr : Nat} (h : Kept mx s₀ t) : Kept mx s₀ (t.chkinvStruckAt mem addr) :=
  Kept.ite h.wordWritten.chkinvStruck h.wordWritten

theorem Kept.wordBad {mem addr flips : Nat} (h : Kept mx s₀ t) : Kept mx s₀ (t.wordBad mem addr flips).2 :=
  Kept.same h rfl rfl rfl rfl rfl

theorem Kept.sramCor {mem addr : Nat} (h : Kept mx s₀ t) : Kept mx s₀ (t.sramCor mem addr) := h.bump.raise

theorem Kept.sramUnc {mem addr : Nat} (h : Kept mx s₀ t) : Kept mx s₀ (t.sramUnc mem addr) := h.bump.raise

theorem Kept.tableRead {mem addr : Nat} (h : Kept mx s₀ t) : Kept mx s₀ (t.tableRead mem addr) :=
  (h.wordBad.when (fun _ k => k.sramCor)).when (fun _ k => k.sramUnc)

theorem Kept.startCompaction {wait : CompactWait} {ins outs : List Nat} (h : Kept mx s₀ t) :
    Kept mx s₀ (t.startCompaction wait ins outs) :=
  Kept.ite h.setNeed ((((h.setNeed.each (fun _ _ k => k.updIng)).each (fun _ _ k => k.updEgr)).updFab).set)

theorem Kept.moveIng {e : Nat} (h : Kept mx s₀ t) : Kept mx s₀ (t.moveIng e) := by
  unfold State.moveIng
  split
  · exact h
  · exact ((((Kept.ite h.copyWords.updFab.updIng h.copyWords.updFab.updFab.clearWords).each (fun _ _ k => k.set)).when
      (fun _ k => k.set)).each (fun _ _ k => Kept.ite k.set k)).showBudget

theorem Kept.followMove {e : Nat} (h : Kept mx s₀ t) : Kept mx s₀ (t.followMove e) := by
  unfold State.followMove
  split
  · exact h.set
  · exact h

theorem Kept.freeMoved (h : Kept mx s₀ t) : Kept mx s₀ t.freeMoved :=
  h.each (fun _ _ k => (((k.each (fun _ _ k => k.followMove)).updFab).clearWords).showBudget)

theorem Kept.moveEgr {e : Nat} (h : Kept mx s₀ t) : Kept mx s₀ (t.moveEgr e) := by
  unfold State.moveEgr
  split
  · exact h
  · exact (((h.copyWords.clearWords.wr.wr.updFab.when (fun _ k => k.set)).each (fun _ _ k => Kept.ite k.set k)).each
      (fun _ _ k => Kept.ite k.set k)).showBudget

theorem Kept.amendRead {e : Nat} {up : Frame → Frame} (h : Kept mx s₀ t) : Kept mx s₀ (t.amendRead e up) := by
  unfold State.amendRead
  split
  · exact h
  · exact h.updIng.each (fun _ _ k => k.updEgr)

theorem Kept.amendFrame {e : Nat} {up : Frame → Frame} (h : Kept mx s₀ t) : Kept mx s₀ (t.amendFrame e up) := by
  unfold State.amendFrame
  split
  · exact h
  · refine Kept.each h.amendRead (fun _ _ k2 => ?_)
    split
    · split
      · exact Kept.ite (k2.updFab.when (fun _ k => k.amendRead)) k2
      · exact k2
    · exact k2

theorem Kept.poisonIng {e : Nat} (h : Kept mx s₀ t) : Kept mx s₀ (t.poisonIng e) := by
  unfold State.poisonIng
  split
  · exact h
  · exact Kept.ite h h.amendFrame.bump

theorem Kept.fsNoInput {key : Nat} (h : Kept mx s₀ t) : Kept mx s₀ (t.fsNoInput key) := Kept.ite h h.set.fabEvent

theorem Kept.toNosig {e : Nat} (h : Kept mx s₀ t) : Kept mx s₀ (t.toNosig e) :=
  Kept.ite h (h.set.updIng.each (fun _ _ k => k.fsNoInput))

theorem Kept.pathLoss {e : Nat} (h : Kept mx s₀ t) : Kept mx s₀ (t.pathLoss e) := h.updIng.toNosig

theorem Kept.alignStep {e : Nat} {win : Bool} {off : Int} (h : Kept mx s₀ t) : Kept mx s₀ (t.alignStep e win off) :=
  Kept.ite (Kept.ite (Kept.ite ((((h.when (fun _ k => k.set)).updIng).set).fabEvent) ((h.when (fun _ k =>
      k.set)).updIng)) (Kept.ite (((h.when (fun _ k => k.set)).updIng).fabLimited) ((h.when (fun _ k =>
      k.set)).updIng))) (Kept.ite (((h.when (fun _ k => k.set)).updIng).bump) ((((((h.when (fun _ k =>
      k.set)).updIng).bump).set).bump).fabEvent))

theorem Kept.fsWrite {key at_ : Nat} {f : Frame} (h : Kept mx s₀ t) : Kept mx s₀ (t.fsWrite key at_ f) := by
  unfold State.fsWrite
  split
  · exact h
  · exact h.updFab.mediaWritten.set.when (fun _ k => k.set)

theorem Kept.storeLate {ago3 e : Nat} {f : Frame} (h : Kept mx s₀ t) : Kept mx s₀ (t.storeLate ago3 e f) :=
  h.moveIng.updIng.chkinvStruckAt.set.alignStep.each (fun _ _ k => k.fsWrite)

theorem Kept.storeFrame {e : Nat} {f : Frame} (h : Kept mx s₀ t) : Kept mx s₀ (t.storeFrame e f) := h.storeLate

theorem Kept.injectToken {e : Nat} {prev : Option Nat} {t' : Token} (h : Kept mx s₀ t) :
    Kept mx s₀ (t.injectToken e prev t').2 := by
  unfold State.injectToken
  split
  · split
    · exact h.set
    · split
      · exact h.set
      · exact h
    · exact h.set
    · exact h
  · exact h

theorem Kept.issueLate {ago3 e dig : Nat} {still : Bool} {f : Frame} (h : Kept mx s₀ t) :
    Kept mx s₀ (t.issueLate ago3 e dig still f) :=
  h.injectToken.storeLate.updIng.chkinvStruckAt

theorem Kept.issueFrame {e dig : Nat} {still : Bool} {f : Frame} (h : Kept mx s₀ t) :
    Kept mx s₀ (t.issueFrame e dig still f) :=
  h.issueLate

theorem Kept.fsLate {u k : Nat} (h : Kept mx s₀ t) : Kept mx s₀ (t.fsLate u k) := h.poisonIng.bump.fabEvent

theorem Kept.fsSelect {key : Nat} (h : Kept mx s₀ t) : Kept mx s₀ (t.fsSelect key) := by
  unfold State.fsSelect
  split
  · exact h
  · extract_lets +onlyGivenNames _ _
    split
    · exact h.updFab.set.toNosig
    · split
      · exact h
      · exact (((h.updFab.set.set.when (fun _ k => k.bump.fabEvent)).when (fun _ k =>
          k.bump.fabEvent)).issueFrame).when (fun _ k => k.fsLate)

theorem Kept.storeWord {i bad : Nat} (h : Kept mx s₀ t) : Kept mx s₀ (t.storeWord i bad) :=
  Kept.ite h (Kept.ite h.bump.sramCor.fabEvent h.bump.bump.poisonIng.fabEvent)

theorem Kept.storeEcc {i : Nat} {flips : List Nat} (h : Kept mx s₀ t) : Kept mx s₀ (t.storeEcc i flips) :=
  Kept.each (Kept.same h rfl rfl rfl rfl rfl) (fun _ _ k => k.storeWord)

theorem Kept.readPoint {e : Nat} {flips : List Nat} {slips epoch : Nat} (h : Kept mx s₀ t) :
    Kept mx s₀ (t.readPoint e flips slips epoch) := by
  unfold State.readPoint
  extract_lets +onlyGivenNames _
  split
  · extract_lets +onlyGivenNames t1
    have h1 : Kept mx s₀ t1 := h.followMove
    extract_lets +onlyGivenNames _ t2
    have h2 : Kept mx s₀ t2 := h1.storeEcc
    split
    · exact h2.updEgr
    · exact h2.updEgr.setB.when (fun _ k => k.bump.fabLimited)
  · exact h.updEgr

theorem Kept.storeRead {e : Nat} {flips : List Nat} (h : Kept mx s₀ t) : Kept mx s₀ (t.storeRead e flips) :=
  Kept.ite h.storeEcc h

theorem Kept.cellWrite {e : Nat} (h : Kept mx s₀ t) : Kept mx s₀ (t.cellWrite e) :=
  Kept.ite h.updIng.chkinvStruckAt h.updIng.poisonIng.fabEvent

/-! ### Handles -/

theorem Kept.updChn {f : ChnState → ChnState} (h : Kept mx s₀ t) : Kept mx s₀ (t.updChn f) := Kept.same h rfl rfl rfl rfl rfl

theorem Kept.staleEvent {session h' : Nat} (h : Kept mx s₀ t) : Kept mx s₀ (t.staleEvent session h') := h.raiseLimited

theorem Kept.staleIf {code session h' : Nat} (h : Kept mx s₀ t) : Kept mx s₀ (t.staleIf code session h') :=
  h.when (fun _ k => k.staleEvent)

theorem Kept.updChan {i : Nat} {f : Chan → Chan} (h : Kept mx s₀ t) : Kept mx s₀ (t.updChan i f) := h.updChn

theorem Kept.repoint {e h' : Nat} (h : Kept mx s₀ t) : Kept mx s₀ (t.repoint e h') := by
  unfold State.repoint
  split
  · exact h.set.set
  · exact h.set.set

theorem Kept.chnResult {code : Nat} (h : Kept mx s₀ t) : Kept mx s₀ (t.chnResult code) := h.set.set.set

/-! ### Takes -/

theorem Kept.showTcq (h : Kept mx s₀ t) : Kept mx s₀ t.showTcq := by
  unfold State.showTcq
  extract_lets +onlyGivenNames t1
  have h1 : Kept mx s₀ t1 := h.set
  split
  · exact h1
  · exact h1.set.set.set.set.set.set.set

theorem Kept.complete {i code flags : Nat} {t' : TakeRec} {tsw : Nat} (h : Kept mx s₀ t) :
    Kept mx s₀ (t.complete i code flags t' tsw) :=
  Kept.ite h.updFab.showTcq h.set.raise

theorem Kept.tcqPop (h : Kept mx s₀ t) : Kept mx s₀ t.tcqPop := h.updFab.showTcq

theorem Kept.showSlots {i : Nat} (h : Kept mx s₀ t) : Kept mx s₀ (t.showSlots i) := by
  unfold State.showSlots
  extract_lets +onlyGivenNames _ t1
  have h1 : Kept mx s₀ t1 := by
    unfold t1
    split
    · exact h.set.set.setB
    · exact h.set.set.set
  split
  · exact h1.set.set
  · exact h1.set.set

theorem Kept.putSlots {i : Nat} {o : OutTakes} (h : Kept mx s₀ t) : Kept mx s₀ (t.putSlots i o) :=
  h.updFab.showSlots.chkinvStruckAt

theorem Kept.superseded {i : Nat} {t' : TakeRec} (h : Kept mx s₀ t) : Kept mx s₀ (t.superseded i t') := h.complete.bump

theorem Kept.showSched (h : Kept mx s₀ t) : Kept mx s₀ t.showSched := h.set

theorem Kept.freeSched {k : Nat} (h : Kept mx s₀ t) : Kept mx s₀ (t.freeSched k) := h.updFab.showSched.chkinvStruckAt

theorem Kept.showSalvos (h : Kept mx s₀ t) : Kept mx s₀ t.showSalvos := h.set.set

theorem Kept.addRefs {l : List Nat} (h : Kept mx s₀ t) : Kept mx s₀ (t.addRefs l) := h.each (fun _ _ k => k.set)

theorem Kept.dropRefs {l : List Nat} (h : Kept mx s₀ t) : Kept mx s₀ (t.dropRefs l) := h.each (fun _ _ k => k.set)

theorem Kept.dropSalvo {v : Nat} (h : Kept mx s₀ t) : Kept mx s₀ (t.dropSalvo v) := by
  unfold State.dropSalvo
  split
  · exact h
  · exact ((h.when (fun _ k => k.dropRefs)).updFab).showSalvos

theorem Kept.takeResult {code index : Nat} (h : Kept mx s₀ t) : Kept mx s₀ (t.takeResult code index) := h.set.set.set

theorem Kept.pendTake {i : Nat} {t' : TakeRec} (h : Kept mx s₀ t) : Kept mx s₀ (t.pendTake i t') := by
  unfold State.pendTake
  extract_lets +onlyGivenNames _ t1
  have h1 : Kept mx s₀ t1 := by
    unfold t1
    split
    · exact h.superseded
    · exact h
  exact h1.putSlots

theorem Kept.opTake {peer : Nat} (h : Kept mx s₀ t) : Kept mx s₀ (t.opTake peer) := by
  unfold State.opTake
  extract_lets +onlyGivenNames _ _ _ t1
  have h1 : Kept mx s₀ t1 := h.staleIf
  split
  · exact h1.takeResult
  · extract_lets +onlyGivenNames _ _ _
    split
    · split
      · exact h1.raise.takeResult
      · exact h1.updFab.showSched.chkinvStruckAt.set.takeResult
    · exact h1.pendTake.set.takeResult

theorem Kept.opCancel (h : Kept mx s₀ t) : Kept mx s₀ t.opCancel := by
  unfold State.opCancel
  extract_lets +onlyGivenNames _ _ t1
  have h1 : Kept mx s₀ t1 := h.tableRead
  split
  · exact Kept.ite h1.complete.freeSched.takeResult h1.takeResult
  · exact h1.takeResult

theorem Kept.cancelRefused {i code : Nat} {refuses : TakeRec → Bool} (h : Kept mx s₀ t) :
    Kept mx s₀ (t.cancelRefused i code refuses) := by
  unfold State.cancelRefused
  extract_lets +onlyGivenNames _ t1
  have h1 : Kept mx s₀ t1 := by
    unfold t1
    split
    · exact Kept.ite h.complete.putSlots h
    · exact h
  exact h1.each (fun _ _ k => k.complete.freeSched)

theorem Kept.opApply {lock : Bool} {peer : Nat} (h : Kept mx s₀ t) : Kept mx s₀ (t.opApply lock peer) :=
  Kept.ite h.staleIf.takeResult (Kept.ite h.staleIf.takeResult (Kept.ite h.staleIf.takeResult ((Kept.ite
      h.staleIf.set.set.chkinvStruckAt.cancelRefused h.staleIf.set.set.chkinvStruckAt.cancelRefused).takeResult)))

theorem Kept.opRemove {lock : Bool} {peer : Nat} (h : Kept mx s₀ t) : Kept mx s₀ (t.opRemove lock peer) :=
  Kept.ite h.staleIf.takeResult (Kept.ite h.staleIf.takeResult ((h.staleIf.set.chkinvStruckAt.when (fun _ k =>
      k.set)).takeResult))

theorem Kept.forceClear {i : Nat} (h : Kept mx s₀ t) : Kept mx s₀ (t.forceClear i) := h.set.set.set.chkinvStruckAt

theorem Kept.opOpen {peer : Nat} (h : Kept mx s₀ t) : Kept mx s₀ (t.opOpen peer) := by
  unfold State.opOpen
  extract_lets +onlyGivenNames _
  split
  · exact h.staleEvent.takeResult
  · split
    · exact h.set.takeResult
    · split
      · exact h.raise.takeResult
      · exact h.updFab.showSalvos.set.takeResult

theorem Kept.opAdd {peer : Nat} (h : Kept mx s₀ t) : Kept mx s₀ (t.opAdd peer) := by
  unfold State.opAdd
  extract_lets +onlyGivenNames _
  split
  · exact h.staleEvent.takeResult
  · split
    · exact h.takeResult
    · exact Kept.ite h.takeResult (Kept.ite h.raise.takeResult h.updFab.showSalvos.takeResult)

theorem Kept.opArm {peer : Nat} (h : Kept mx s₀ t) : Kept mx s₀ (t.opArm peer) := by
  unfold State.opArm
  extract_lets +onlyGivenNames _
  split
  · exact h.staleEvent.takeResult
  · split
    · exact h.takeResult
    · exact Kept.ite h.takeResult (Kept.ite (((h.staleIf.when (fun _ k => k.raise)).dropSalvo).takeResult)
        h.staleIf.updFab.addRefs.takeResult)

theorem Kept.opCommit {peer : Nat} (h : Kept mx s₀ t) : Kept mx s₀ (t.opCommit peer) := by
  unfold State.opCommit
  extract_lets +onlyGivenNames _
  split
  · exact h.staleEvent.takeResult
  · split
    · exact h.takeResult
    · split
      · exact h.takeResult
      · exact Kept.ite h.takeResult ((h.updFab.when (fun _ k => k.raise)).takeResult)

theorem Kept.opAbort {peer : Nat} (h : Kept mx s₀ t) : Kept mx s₀ (t.opAbort peer) := by
  unfold State.opAbort
  extract_lets +onlyGivenNames _
  split
  · exact h.staleEvent.takeResult
  · split
    · exact h.takeResult
    · exact Kept.ite h.takeResult h.dropSalvo.takeResult

theorem Kept.salvoOpenExpire {v : Nat} (h : Kept mx s₀ t) : Kept mx s₀ (t.salvoOpenExpire v) := by
  unfold State.salvoOpenExpire
  split
  · exact Kept.ite h.dropSalvo.raise h
  · exact h

theorem Kept.salvoExpire {v : Nat} (h : Kept mx s₀ t) : Kept mx s₀ (t.salvoExpire v) := by
  unfold State.salvoExpire
  split
  · split
    · exact Kept.ite h.dropSalvo.raise h
    · exact h
  · exact h

theorem Kept.takeCmdLand {data : Word} (h : Kept mx s₀ t) : Kept mx s₀ (t.takeCmdLand data) := by
  unfold State.takeCmdLand
  split
  · exact h.set.raise
  · extract_lets +onlyGivenNames op peer t1
    clear_value op peer
    have h1 : Kept mx s₀ t1 := h.set
    split
    · exact h1.takeResult
    · split
      · exact h1.opTake
      · exact Kept.ite h1.opCancel h1.staleEvent.takeResult
      · exact h1.opApply
      · exact h1.opRemove
      · exact h1.opApply
      · exact h1.opRemove
      · exact h1.opOpen
      · exact h1.opAdd
      · exact h1.opArm
      · exact h1.opCommit
      · exact h1.opAbort
      · exact h1.takeResult

theorem Kept.latch {i : Nat} {t' : TakeRec} (h : Kept mx s₀ t) : Kept mx s₀ (t.latch i t') := h.putSlots

theorem Kept.settle {i accepted keep : Nat} {due : List (Nat × SchedTake)} (h : Kept mx s₀ t) :
    Kept mx s₀ (t.settle i accepted keep due) := by
  unfold State.settle
  extract_lets +onlyGivenNames t1
  have h1 : Kept mx s₀ t1 := h.each (fun _ _ k => k.superseded.freeSched)
  extract_lets +onlyGivenNames _
  split
  · exact Kept.ite h1.superseded.putSlots h1
  · exact h1

theorem Kept.latchPoint {i : Nat} (h : Kept mx s₀ t) : Kept mx s₀ (t.latchPoint i) := by
  unfold State.latchPoint
  extract_lets +onlyGivenNames _
  split
  · exact h
  · extract_lets +onlyGivenNames t1
    have h1 : Kept mx s₀ t1 := h.tableRead
    extract_lets +onlyGivenNames _ _
    split
    · exact h1.updFab.latch.settle
    · split
      · exact h1.updFab.latch.settle
      · split
        · exact Kept.ite h1.putSlots.latch h1
        · exact h1

theorem Kept.routeTo {i src : Nat} (h : Kept mx s₀ t) : Kept mx s₀ (t.routeTo i src) :=
  h.set.set.bump.set.set.repoint.chkinvStruckAt

theorem Kept.switchFrame {i : Nat} (h : Kept mx s₀ t) : Kept mx s₀ (t.switchFrame i) := h.readPoint.updEgr

theorem Kept.takeDone {i : Nat} {t' : TakeRec} (h : Kept mx s₀ t) : Kept mx s₀ (t.takeDone i t') := by
  unfold State.takeDone
  split
  · split
    · exact h.updFab.when (fun _ k => k.dropSalvo)
    · exact h
  · split
    · exact h.freeSched
    · exact h

theorem Kept.switchInstant {i : Nat} (h : Kept mx s₀ t) : Kept mx s₀ (t.switchInstant i) := by
  unfold State.switchInstant
  extract_lets +onlyGivenNames _ _
  split
  · exact Kept.ite h.putSlots.routeTo.updEgr.switchFrame.complete.takeDone
      (((h.putSlots.routeTo.updEgr.switchFrame.bump.bump.complete.when (fun _ k => k.raise)).notifyRoute).takeDone)
  · exact Kept.ite h.routeTo.updEgr.switchFrame.complete h

theorem Kept.takesStepped {old new : Nat} (h : Kept mx s₀ t) : Kept mx s₀ (t.takesStepped old new) :=
  Kept.ite h h.updFab.raise

theorem Kept.cancelNaming {i : Nat} (h : Kept mx s₀ t) : Kept mx s₀ (t.cancelNaming i) := by
  unfold State.cancelNaming
  extract_lets +onlyGivenNames _ t1
  have h1 : Kept mx s₀ t1 := h.each (fun _ _ k => k.complete.freeSched)
  refine Kept.each h1 (fun _ _ k1 => ?_)
  split
  · exact k1.complete.putSlots
  · exact k1

/-! ### Prov -/

theorem Kept.twinEnter {st : Nat} (h : Kept mx s₀ t) : Kept mx s₀ (t.twinEnter st) :=
  Kept.ite h (((((h.when (fun _ k => k.closeSessions)).when (fun _ k => k.updJrp)).set).set).twinEvent)

theorem Kept.lowerClaim {why : Nat} (h : Kept mx s₀ t) : Kept mx s₀ (t.lowerClaim why) := Kept.ite h.twinEnter.twinEvent h

theorem Kept.contentSwitch {e : Nat} (h : Kept mx s₀ t) : Kept mx s₀ (t.contentSwitch e) := by
  unfold State.contentSwitch
  split
  · exact Kept.ite h h.updEgr
  · exact h.updEgr

theorem Kept.handover {e : Nat} (h : Kept mx s₀ t) : Kept mx s₀ (t.handover e) := h.when (fun _ k => k.lowerClaim)

theorem Kept.enterFail {e cause : Nat} (h : Kept mx s₀ t) : Kept mx s₀ (t.enterFail e cause) :=
  h.set.orBit.updEgr.raise.handover

theorem Kept.failHeld {e : Nat} (h : Kept mx s₀ t) : Kept mx s₀ (t.failHeld e) := h.set.bump

theorem Kept.failFrame {e cause : Nat} (h : Kept mx s₀ t) : Kept mx s₀ (t.failFrame e cause) := by
  unfold State.failFrame
  split
  · exact Kept.ite h.updEgr.set h
  · exact Kept.ite h.updEgr.set.bump.chkinvStruckAt.handover (Kept.ite h.updEgr.set.bump.chkinvStruckAt.set.handover
      h.updEgr.set.bump.chkinvStruckAt.enterFail)

theorem Kept.passFrame {e : Nat} (h : Kept mx s₀ t) : Kept mx s₀ (t.passFrame e) :=
  Kept.ite (Kept.ite (Kept.ite (((h.when (fun _ k => k.updEgr)).set).updEgr) (((h.when (fun _ k =>
      k.updEgr)).set).updEgr)) (h.when (fun _ k => k.updEgr))) ((h.when (fun _ k => k.updEgr)).set)

theorem Kept.egressCheck {e : Nat} (h : Kept mx s₀ t) : Kept mx s₀ (t.egressCheck e) :=
  Kept.ite (h.tableRead.updEgr.when (fun _ k => k.failFrame)) h

theorem Kept.digestVerdict {e : Nat} {got : Option Nat} (h : Kept mx s₀ t) : Kept mx s₀ (t.digestVerdict e got) := by
  unfold State.digestVerdict
  split
  · extract_lets +onlyGivenNames t1
    have h1 : Kept mx s₀ t1 := h.egressCheck
    extract_lets +onlyGivenNames _ t2
    have h2 : Kept mx s₀ t2 := by
      unfold t2
      split
      · exact h1
      · split
        · exact h1.failFrame
        · split
          · split
            · exact h1.when (fun _ k => k.failFrame)
            · exact h1
          · exact h1
    exact Kept.ite h2.passFrame h2
  · exact h

theorem Kept.timingLoss {e : Nat} (h : Kept mx s₀ t) : Kept mx s₀ (t.timingLoss e) := h.when (fun _ k => k.failFrame)

theorem Kept.outclrLand {data : Word} (h : Kept mx s₀ t) : Kept mx s₀ (t.outclrLand data) := Kept.ite h.updEgr h

theorem Kept.imposeSafe (h : Kept mx s₀ t) : Kept mx s₀ t.imposeSafe := (h.each (fun _ _ k => k.set.set.updEgr)).set

theorem Kept.endSafe (h : Kept mx s₀ t) : Kept mx s₀ t.endSafe := (h.each (fun _ _ k => k.updEgr)).set

theorem Kept.safeRefuse {e : Nat} (h : Kept mx s₀ t) : Kept mx s₀ (t.safeRefuse e) := h.set.raise

theorem Kept.chkinvLand {data : Word} (h : Kept mx s₀ t) : Kept mx s₀ (t.chkinvLand data) := Kept.ite h h.set.set.set

theorem Kept.tokinjLand {data : Word} (h : Kept mx s₀ t) : Kept mx s₀ (t.tokinjLand data) := h.set.set.set

/-! ### Mirror -/

theorem Kept.updTwin {f : TwinState → TwinState} (h : Kept mx s₀ t) : Kept mx s₀ (t.updTwin f) :=
  Kept.same h rfl rfl rfl rfl rfl

theorem Kept.sendTwin {r : TwinMsg} (h : Kept mx s₀ t) : Kept mx s₀ (t.sendTwin r) := h.when (fun _ k => k.emit)

theorem Kept.mirrorOwe {c : MirrorCmd} (h : Kept mx s₀ t) : Kept mx s₀ (t.mirrorOwe c) := Kept.ite h.updTwin h

theorem Kept.mirrorSend {o : MirrorCmd × CmdCtx} (h : Kept mx s₀ t) : Kept mx s₀ (t.mirrorSend o) := by
  unfold State.mirrorSend
  split
  · exact h
  · exact Kept.ite h.updTwin.updTwin.sendTwin h.updTwin

theorem Kept.mirrorFlush (h : Kept mx s₀ t) : Kept mx s₀ t.mirrorFlush := h.each (fun _ _ k => k.mirrorSend)

theorem Kept.signFrame {e : Nat} {f : Frame} {epoch : Nat} (h : Kept mx s₀ t) : Kept mx s₀ (t.signFrame e f epoch) :=
  Kept.ite h.updTwin h

/-! ### Audio -/

theorem Kept.updAud {f : AudState → AudState} (h : Kept mx s₀ t) : Kept mx s₀ (t.updAud f) := Kept.same h rfl rfl rfl rfl rfl

theorem Kept.updOutVoice {j : Nat} {f : OutVoice → OutVoice} (h : Kept mx s₀ t) : Kept mx s₀ (t.updOutVoice j f) := h.updAud

theorem Kept.voiceAt {v tick : Nat} {x : Sample} (h : Kept mx s₀ t) : Kept mx s₀ (t.voiceAt v tick x) :=
  h.when (fun _ k => k.updAud)

theorem Kept.voiceIn {v : Nat} {x : Sample} (h : Kept mx s₀ t) : Kept mx s₀ (t.voiceIn v x) := h.when (fun _ k => k.updAud)

theorem Kept.showVoices (h : Kept mx s₀ t) : Kept mx s₀ t.showVoices := h.set.set

theorem Kept.showVoice {j : Nat} (h : Kept mx s₀ t) : Kept mx s₀ (t.showVoice j) := h.set.setB

theorem Kept.startRamp {j target n : Nat} (h : Kept mx s₀ t) : Kept mx s₀ (t.startRamp j target n) := h.updOutVoice.showVoice

theorem Kept.rampTo {j n target : Nat} (h : Kept mx s₀ t) : Kept mx s₀ (t.rampTo j n target) := Kept.ite h h.startRamp

theorem Kept.voiceSwitch {j : Nat} {new : Option Nat} (h : Kept mx s₀ t) : Kept mx s₀ (t.voiceSwitch j new) :=
  Kept.ite h ((h.setB.set.chkinvStruckAt.updOutVoice.when (fun _ k => k.startRamp)).showVoice)

theorem Kept.readMapEntry {j : Nat} (h : Kept mx s₀ t) : Kept mx s₀ (t.readMapEntry j) := h.tableRead

theorem Kept.mapResult {op code : Nat} (h : Kept mx s₀ t) : Kept mx s₀ (t.mapResult op code) := h.set.set.set.set

theorem Kept.mapChange {op j : Nat} {c : VoiceChange} (h : Kept mx s₀ t) : Kept mx s₀ (t.mapChange op j c) :=
  h.updOutVoice.showVoice.mapResult

theorem Kept.opSource (h : Kept mx s₀ t) : Kept mx s₀ t.opSource := Kept.ite h.mapResult (Kept.ite h.mapResult h.mapChange)

theorem Kept.opCouple (h : Kept mx s₀ t) : Kept mx s₀ t.opCouple :=
  Kept.ite h.mapResult (Kept.ite h.mapResult (Kept.ite h.mapResult h.mapChange))

theorem Kept.opGain (h : Kept mx s₀ t) : Kept mx s₀ t.opGain :=
  Kept.ite h.mapResult (Kept.ite h.mapResult (((h.set.when (fun _ k => k.rampTo)).chkinvStruckAt).mapResult))

theorem Kept.opMute (h : Kept mx s₀ t) : Kept mx s₀ t.opMute := Kept.ite h.mapResult h.setB.rampTo.chkinvStruckAt.mapResult

theorem Kept.opXfmode (h : Kept mx s₀ t) : Kept mx s₀ t.opXfmode := Kept.ite h.mapResult h.setB.chkinvStruckAt.mapResult

theorem Kept.mapCmdLand {data : Word} (h : Kept mx s₀ t) : Kept mx s₀ (t.mapCmdLand data) := by
  unfold State.mapCmdLand
  extract_lets +onlyGivenNames op
  clear_value op
  split
  · exact h.set.audEvent
  · extract_lets +onlyGivenNames t1
    have h1 : Kept mx s₀ t1 := h.set
    split
    · exact h1.opSource
    · exact h1.opCouple
    · exact h1.opGain
    · exact h1.opMute
    · exact h1.opXfmode
    · exact h1.mapResult

theorem Kept.resolveOut {out : Nat} (h : Kept mx s₀ t) : Kept mx s₀ (t.resolveOut out) :=
  h.each (fun _ _ k => Kept.ite k.voiceSwitch k)

theorem Kept.switchAll {i : Nat} (h : Kept mx s₀ t) : Kept mx s₀ (t.switchAll i) :=
  Kept.ite h (h.switchInstant.each (fun _ _ k => k.resolveOut))

theorem Kept.applyChange {j : Nat} (h : Kept mx s₀ t) : Kept mx s₀ (t.applyChange j) := by
  unfold State.applyChange
  extract_lets +onlyGivenNames _
  split
  · exact h
  · split
    · exact h
    · extract_lets +onlyGivenNames t1
      have h1 : Kept mx s₀ t1 := h.updOutVoice
      split
      · exact h1.set.voiceSwitch.showVoice
      · exact h1.set.set.voiceSwitch.showVoice

theorem Kept.checkVoice {b : VoiceBlock} (h : Kept mx s₀ t) : Kept mx s₀ (t.checkVoice b) :=
  Kept.ite (Kept.ite (Kept.ite h.updOutVoice.bump.updOutVoice (h.updOutVoice.bump.updOutVoice.set.bump.raise.when
      (fun _ k => k.updOutVoice.startRamp))) (Kept.ite (Kept.ite ((h.updOutVoice.set.set.updOutVoice.when (fun _ k =>
      k.startRamp)).showVoice) h.updOutVoice.updOutVoice) h.updOutVoice)) h

theorem Kept.endFades {j : Nat} (h : Kept mx s₀ t) : Kept mx s₀ (t.endFades j) :=
  (h.updOutVoice.when (fun _ k => k.set.set.updOutVoice.audEvent)).showVoice

theorem Kept.readBlock {v : Nat} (h : Kept mx s₀ t) : Kept mx s₀ (t.readBlock v) :=
  (h.wordBad.when (fun _ k => k.sramCor)).when (fun _ k => k.bump.updAud)

theorem Kept.blockBoundary {named : List VoiceBlock} (h : Kept mx s₀ t) : Kept mx s₀ (t.blockBoundary named) :=
  ((((((((h.each (fun _ _ k => k.readMapEntry)).each (fun _ _ k => k.readBlock)).each (fun _ _ k => k.checkVoice)).each
      (fun _ _ k => k.updOutVoice)).each (fun _ _ k => k.endFades)).updLode).updAud).each (fun _ _ k =>
      k.chkinvStruckAt)).each (fun _ _ k => k.applyChange)

theorem Kept.giveIn {i : Nat} {gs : List Nat} (h : Kept mx s₀ t) : Kept mx s₀ (t.giveIn i gs) :=
  h.each (fun _ _ k => k.set.set.set.set)

theorem Kept.giveOut {i : Nat} {gs : List Nat} (h : Kept mx s₀ t) : Kept mx s₀ (t.giveOut i gs) :=
  (h.each (fun _ _ k => k.set.set.set.set)).each (fun _ _ k => k.set.set)

theorem Kept.moveVoices {old new : List Nat} (h : Kept mx s₀ t) : Kept mx s₀ (t.moveVoices old new) := by
  unfold State.moveVoices
  refine Kept.each h (fun _ _ k1 => ?_)
  split
  · exact k1.when (fun _ k => k.set)
  · exact k1.set.set.set

theorem Kept.coupleVoices {out first : Nat} (h : Kept mx s₀ t) : Kept mx s₀ (t.coupleVoices out first) :=
  h.each (fun _ _ k => k.set.set.set)

theorem Kept.freeSource {voices : List Nat} (h : Kept mx s₀ t) : Kept mx s₀ (t.freeSource voices) :=
  (h.each (fun _ _ k => k.updOutVoice)).each (fun _ _ k => k.updOutVoice.startRamp)

theorem Kept.clearVoice {j : Nat} (h : Kept mx s₀ t) : Kept mx s₀ (t.clearVoice j) := by
  unfold State.clearVoice
  exact ((h.when (fun _ k => k.set)).clearWords).updAud

theorem Kept.dropGranules {c : Chan} (h : Kept mx s₀ t) : Kept mx s₀ (t.dropGranules c) := by
  unfold State.dropGranules
  exact ((((h.each (fun _ _ k => k.wr)).each (fun _ _ k => k.wr)).each (fun _ _ k => k.clearVoice)).freeSource).updAud

theorem Kept.audStart (h : Kept mx s₀ t) : Kept mx s₀ t.audStart.1 := by
  unfold State.audStart
  extract_lets +onlyGivenNames held r
  clear_value held r
  split
  · exact h.set
  · dsimp only
    exact (h.set.updAud.each fun _ _ k => k.set.set.set.set).each fun _ _ k => Kept.ite k k.set.set

/-! ### Aprt -/

theorem Kept.updAprt {n : Nat} {f : AprtState → AprtState} (h : Kept mx s₀ t) : Kept mx s₀ (t.updAprt n f) := h.updAud

theorem Kept.aprtRun {n : Nat} (h : Kept mx s₀ t) : Kept mx s₀ (t.aprtRun n) := h.set.updAprt.when (fun _ k => k.aprtCause)

theorem Kept.aprtStart {n : Nat} (h : Kept mx s₀ t) : Kept mx s₀ (t.aprtStart n).1 := by
  unfold State.aprtStart
  extract_lets +onlyGivenNames _ _ _ t1
  have h1 : Kept mx s₀ t1 := h.updAprt
  split
  · exact h1.aprtCause
  · split
    · exact h1.aprtCause
    · split
      · exact h1.set.aprtRun
      · split
        · exact h1.set.aprtCause
        · exact ((h1.when (fun _ k => k.updAud.set)).set).set

theorem Kept.aprtIn {n tick : Nat} {f : Sample → Sample} {slots : List Nat} (h : Kept mx s₀ t) :
    Kept mx s₀ (t.aprtIn n tick f slots) :=
  h.each (fun _ _ k => k.voiceAt)

theorem Kept.aprtTakeOne {n tick : Nat} (h : Kept mx s₀ t) : Kept mx s₀ (t.aprtTakeOne n tick) := by
  unfold State.aprtTakeOne
  extract_lets +onlyGivenNames _
  split
  · exact h.aprtIn
  · split
    · exact Kept.ite h.bump.aprtCause.aprtIn h.updAprt.aprtIn
    · exact h

theorem Kept.aprtTake {upTo n : Nat} (h : Kept mx s₀ t) : Kept mx s₀ (t.aprtTake upTo n) :=
  Kept.ite h (((h.each (fun _ _ k => k.aprtTakeOne)).when (fun _ k => k.bump.aprtCause)).updAprt)

theorem Kept.aprtSent {n : Nat} (h : Kept mx s₀ t) : Kept mx s₀ (t.aprtSent n) :=
  Kept.ite h (Kept.ite h.bump.aprtCause h.updAprt)

theorem Kept.aprtPush {n : Nat} {slots : List Nat} (h : Kept mx s₀ t) : Kept mx s₀ (t.aprtPush n slots) :=
  Kept.ite h.bump.aprtCause h.updAprt

theorem Kept.aprtLeave {n : Nat} (h : Kept mx s₀ t) : Kept mx s₀ (t.aprtLeave n) := h.aprtTake.updAprt

theorem Kept.aprtStop {n : Nat} (h : Kept mx s₀ t) : Kept mx s₀ (t.aprtStop n) := h.aprtLeave.set.updAud.set.set

theorem Kept.aprtRateStep {n r : Nat} (h : Kept mx s₀ t) : Kept mx s₀ (t.aprtRateStep n r) :=
  Kept.ite (h.bump.aprtCause.updAprt.when (fun _ k => ((k.when (fun _ k => k.updAprt)).set).aprtCause)) h

theorem Kept.aprtJudgeRate {n r : Nat} (h : Kept mx s₀ t) : Kept mx s₀ (t.aprtJudgeRate n r) :=
  Kept.ite (Kept.ite h.set.set.updAprt.aprtCause.aprtRun (Kept.ite h.set.set h.set.set.updAprt.aprtCause)) (Kept.ite
      h.set.set.aprtRateStep h.set.set.aprtRateStep.aprtLeave.set.updAprt.aprtCause)

theorem Kept.aprtStamp {n : Nat} (h : Kept mx s₀ t) : Kept mx s₀ (t.aprtStamp n) := by
  unfold State.aprtStamp
  extract_lets +onlyGivenNames _ t1
  have h1 : Kept mx s₀ t1 := h.updAprt
  split
  · exact h1
  · extract_lets +onlyGivenNames _ _ t2
    have h2 : Kept mx s₀ t2 := h1.updAprt.set.set.set
    split
    · exact Kept.ite h2.aprtJudgeRate h2
    · exact h2

theorem Kept.aprtGoodFrame {n : Nat} {slots : List Nat} (h : Kept mx s₀ t) : Kept mx s₀ (t.aprtGoodFrame n slots) := by
  unfold State.aprtGoodFrame
  split
  · exact h.aprtIn.updAprt
  · exact h.aprtPush
  · exact h.updAprt

theorem Kept.aprtBadFrame {n : Nat} (h : Kept mx s₀ t) : Kept mx s₀ (t.aprtBadFrame n) :=
  Kept.ite h.bump.aprtCause h.bump.aprtCause.aprtGoodFrame.bump.aprtCause

theorem Kept.aprtFrame {n bclks : Nat} {slots : List Nat} (h : Kept mx s₀ t) : Kept mx s₀ (t.aprtFrame n bclks slots) :=
  Kept.ite h (Kept.ite h.aprtTake.updAprt.set.updAprt.aprtStamp ((((Kept.ite (h.aprtTake.updAprt.when (fun _ k =>
      k.aprtGoodFrame)) h.aprtTake.updAprt.aprtBadFrame).emit).aprtSent).aprtStamp))

theorem Kept.aprtClkLost {n : Nat} (h : Kept mx s₀ t) : Kept mx s₀ (t.aprtClkLost n) :=
  Kept.ite h.aprtLeave.set.bump.aprtCause h

/-- A frame within the limit of the bit clock (R261) completes. -/
theorem Kept.execAprtFrame {n bclks hz : Nat} {slots : List Nat} (h : Kept false s₀ t) (hz_le : hz ≤ 98304000) :
    Completes s₀ (execAprtFrame n bclks hz slots t) := by
  unfold Sys2Proof.Machine.execAprtFrame
  rw [if_neg fun hf => absurd hf.2.2 (by omega)]
  exact (h.when fun _ k => k.aprtFrame).next

/-! ### Avs -/

theorem Kept.updAvs {f : AvsState → AvsState} (h : Kept mx s₀ t) : Kept mx s₀ (t.updAvs f) := Kept.same h rfl rfl rfl rfl rfl

theorem Kept.avsRequest {up : Bool} (h : Kept mx s₀ t) : Kept mx s₀ (t.avsRequest up) := Kept.ite h.updAvs.emit h

theorem Kept.avsAnswer {ok : Bool} (h : Kept mx s₀ t) : Kept mx s₀ (t.avsAnswer ok) := Kept.ite h.updAvs h

theorem Kept.avsTimeout (h : Kept mx s₀ t) : Kept mx s₀ t.avsTimeout := Kept.ite h.updAvs h

/-! ### Sdi -/

theorem Kept.updSdi {f : SdiState → SdiState} (h : Kept mx s₀ t) : Kept mx s₀ (t.updSdi f) := Kept.same h rfl rfl rfl rfl rfl

theorem Kept.updRx {n : Nat} {f : SdiRx → SdiRx} (h : Kept mx s₀ t) : Kept mx s₀ (t.updRx n f) := h.updSdi

theorem Kept.engineCause {n c : Nat} (h : Kept mx s₀ t) : Kept mx s₀ (t.engineCause n c) := Kept.ite h.sdiCause h.cause

theorem Kept.completeBlack {e rows : Nat} (h : Kept mx s₀ t) : Kept mx s₀ (t.completeBlack e rows) := by
  unfold State.completeBlack
  extract_lets +onlyGivenNames _
  split
  · exact h
  · exact Kept.ite h.amendFrame h

theorem Kept.essenceLoss {n rows : Nat} (h : Kept mx s₀ t) : Kept mx s₀ (t.essenceLoss n rows) :=
  (h.each (fun _ _ k => k.completeBlack.pathLoss)).each (fun _ _ k => k.updRx)

theorem Kept.toSearch {n rows : Nat} {loss : Bool} (h : Kept mx s₀ t) : Kept mx s₀ (t.toSearch n rows loss) :=
  Kept.ite (h.set.set.updRx.bump.essenceLoss.when (fun _ k => k.engineCause)) h.set.set.updRx

theorem Kept.sdiNoSignal {n rows : Nat} {loss : Bool} (h : Kept mx s₀ t) : Kept mx s₀ (t.sdiNoSignal n rows loss) :=
  h.toSearch.set.set

theorem Kept.sdiCdrLock {n : Nat} {div : Bool} (h : Kept mx s₀ t) : Kept mx s₀ (t.sdiCdrLock n div) :=
  Kept.ite h.set.set h.set.setB

theorem Kept.huntDwell {n : Nat} (h : Kept mx s₀ t) : Kept mx s₀ (t.huntDwell n) := Kept.ite h.updRx h

theorem Kept.erroredLine {n : Nat} (h : Kept mx s₀ t) : Kept mx s₀ (t.erroredLine n) :=
  Kept.ite h.bump (h.bump.bump.updRx.when (fun _ k => k.engineCause))

theorem Kept.farEnd {n : Nat} {o : Output} (h : Kept mx s₀ t) : Kept mx s₀ (t.farEnd n o) := h.when (fun _ k => k.emit)

theorem Kept.sdiLineIn {n : Nat} {l : SdiLine} (h : Kept mx s₀ t) : Kept mx s₀ (t.sdiLineIn n l) := by
  unfold State.sdiLineIn
  extract_lets +onlyGivenNames t1
  have h1 : Kept mx s₀ t1 := h.farEnd
  split
  · extract_lets +onlyGivenNames _ _ _ t2
    have h2 : Kept mx s₀ t2 := h1.bump
    extract_lets +onlyGivenNames _
    split
    · exact Kept.ite h2.set.updRx h2
    · exact Kept.ite (Kept.ite h2.updRx.set.engineCause h2.updRx) h2.toSearch
    · exact (Kept.ite ((h2.when (fun _ k => k.erroredLine)).updRx) ((((h2.when (fun _ k =>
        k.erroredLine)).bump).updRx).when (fun _ k => k.toSearch))).when (fun _ k => k.essenceLoss.engineCause)
  · exact h1

theorem Kept.updPid {n stream : Nat} {f : PidRx → PidRx} (h : Kept mx s₀ t) : Kept mx s₀ (t.updPid n stream f) := h.updRx

theorem Kept.readPid {n : Nat} {pid pid1 : Option SdiPid} (h : Kept mx s₀ t) : Kept mx s₀ (t.readPid n pid pid1) :=
  Kept.ite h.updPid.updPid.wr h.updPid.updPid

theorem Kept.showLink {n : Nat} (h : Kept mx s₀ t) : Kept mx s₀ (t.showLink n) := h.set.when (fun _ k => k.engineCause)

theorem Kept.judgePid {n i : Nat} {pid : Option SdiPid} {lost : Bool} (h : Kept mx s₀ t) :
    Kept mx s₀ (t.judgePid n i pid lost).1 := by
  unfold State.judgePid
  extract_lets +onlyGivenNames pol st
  clear_value pol st
  split
  · exact h
  · split
    · exact h.when (fun _ k => k.engineCause)
    · split
      · dsimp only
        exact h.updPid
      · dsimp only
        exact (h.when (fun _ k => k.engineCause)).updPid

theorem Kept.judgeFormat {n i m : Nat} {pidOk : Bool} (h : Kept mx s₀ t) : Kept mx s₀ (t.judgeFormat n i m pidOk) := by
  unfold State.judgeFormat
  extract_lets +onlyGivenNames _ _ _ t1
  have h1 : Kept mx s₀ t1 := Kept.ite h.engineCause (Kept.ite h.engineCause h)
  extract_lets +onlyGivenNames _ t2
  have h2 : Kept mx s₀ t2 := h1.when (fun _ k => k.updRx)
  split
  · exact h2
  · exact Kept.ite (h2.when (fun _ k => k.updIng)) h2.pathLoss

theorem Kept.turnAnc {n : Nat} (h : Kept mx s₀ t) : Kept mx s₀ (t.turnAnc n) := h.each (fun _ _ k => Kept.ite k.updSdi k)

theorem Kept.turnGroups {n : Nat} (h : Kept mx s₀ t) : Kept mx s₀ (t.turnGroups n) := h.updRx.set.set.set

theorem Kept.measured {n fmt : Nat} {pid pid1 : Option SdiPid} (h : Kept mx s₀ t) : Kept mx s₀ (t.measured n fmt pid pid1) :=
  Kept.ite (h.readPid.set.set.showLink.when (fun _ k => k.engineCause)) (h.readPid.set.set.showLink.each (fun _ _ k =>
      k.judgePid.judgeFormat))

theorem Kept.sdiFrame {n fmt : Nat} {pid pid1 : Option SdiPid} (h : Kept mx s₀ t) : Kept mx s₀ (t.sdiFrame n fmt pid pid1) :=
  Kept.ite (Kept.ite h.turnAnc.turnGroups.measured h.turnAnc.turnGroups.updRx) h

theorem Kept.ancStore {i : Nat} {p : AncPkt} (h : Kept mx s₀ t) : Kept mx s₀ (t.ancStore i p).1 := by
  unfold State.ancStore
  split
  · exact h
  · split
    · dsimp only
      exact h.updSdi
    · exact h

theorem Kept.ancIn {n : Nat} {p : AncPkt} (h : Kept mx s₀ t) : Kept mx s₀ (t.ancIn n p) :=
  Kept.ite ((h.when (fun _ k => k.bump.engineCause)).each (fun _ _ k => Kept.ite (Kept.ite k.ancStore.bump.engineCause
      k.ancStore) k)) h

theorem Kept.audioSampleIn {v drift : Nat} {x : Sample} (h : Kept mx s₀ t) : Kept mx s₀ (t.audioSampleIn v drift x) :=
  Kept.ite h (Kept.ite h.voiceIn.voiceIn h.voiceIn)

theorem Kept.audioPacketIn {n : Nat} {p : AudioPkt} (h : Kept mx s₀ t) : Kept mx s₀ (t.audioPacketIn n p) :=
  Kept.ite (Kept.ite (h.set.set.set.updRx.when (fun _ k => k.bump.engineCause)) (Kept.ite (((h.set.set.set.updRx.when
      (fun _ k => k.bump.engineCause)).updRx).when (fun _ k => k.engineCause)) ((((h.set.set.set.updRx.when (fun _ k =>
      k.bump.engineCause)).updRx).when (fun _ k => k.bump.engineCause)).each (fun _ _ k => k.audioSampleIn.updRx)))) h

theorem Kept.frameStartIn {e fmt : Nat} {picture : List Pix} {anc : List AncPkt} (h : Kept mx s₀ t) :
    Kept mx s₀ (t.frameStartIn e fmt picture anc) :=
  Kept.ite h.issueFrame h

theorem Kept.showTx {i st : Nat} (h : Kept mx s₀ t) : Kept mx s₀ (t.showTx i st) := h.each (fun _ _ k => k.set.set)

/-- A fold that carries a value before the state. -/
theorem Kept.foldl_snd {α β : Type} {f : α × State → β → α × State} {l : List β} {q : α × State} (h : Kept mx s₀ q.2)
    (hf : ∀ x p, Kept mx s₀ p.2 → Kept mx s₀ (f p x).2) : Kept mx s₀ (l.foldl f q).2 := by
  induction l generalizing q with
  | nil => exact h
  | cons x l ih => exact ih (hf x q h)

theorem Kept.insertAnc {i e taken : Nat} {kept : List AncPkt} (h : Kept mx s₀ t) :
    Kept mx s₀ (t.insertAnc i e taken kept).2 := by
  unfold State.insertAnc
  dsimp only
  refine Kept.updEgr (Kept.foldl_snd h fun _ _ k => ?_)
  dsimp only
  exact k.bump.when fun _ k => k.bump.engineCause

theorem Kept.readHeld {e : Nat} {holdBad : Bool} (h : Kept mx s₀ t) : Kept mx s₀ (t.readHeld e holdBad) :=
  Kept.ite h.failHeld.updEgr h

theorem Kept.flowLoad {e i code colr : Nat} {f : Frame} {disp : Int} (h : Kept mx s₀ t) :
    Kept mx s₀ (t.flowLoad e i code colr f disp) := by
  unfold State.flowLoad
  extract_lets +onlyGivenNames n
  split
  · exact h
  · have h1 (p : IpmState) (r : FRef) (v : Nat) : Kept mx s₀ (State.set r v { t with ipm := p }) :=
      Kept.set (Kept.same h rfl rfl rfl rfl rfl)
    extract_lets +onlyGivenNames _ _ _ _ eng
    clear_value eng
    split
    · exact (h1 _ _ _).set
    · exact h1 _ _ _

theorem Kept.sendFrame {e taken : Nat} {off holdBad : Bool} (h : Kept mx s₀ t) : Kept mx s₀ (t.sendFrame e taken off holdBad) := by
  unfold State.sendFrame
  refine Kept.ite ?_ h
  extract_lets +onlyGivenNames i kind n
  refine Kept.ite h (Kept.ite h.showTx (Kept.ite h ?_))
  extract_lets +onlyGivenNames t1 t2 x content t3 t4
  have h4 : Kept mx s₀ t4 :=
    Kept.updEgr (Kept.when (Kept.readHeld (h.when fun _ k => k.timingLoss)) fun _ k => k.raiseLimited)
  clear_value t4
  extract_lets +onlyGivenNames src idle f colr f2 f3 f4 r
  have hr : Kept mx s₀ r.2 := by
    unfold r
    split
    · exact h4.insertAnc
    · exact h4
  clear_value r
  extract_lets +onlyGivenNames t5 code t6 t7 half sent t8 t9 other t10
  have h8 : Kept mx s₀ t8 := (hr.when fun _ k => k.showTx).signFrame.when fun _ k => k.set
  have h10 : Kept mx s₀ t10 := (h8.when fun _ k => k.flowLoad).emit.when fun _ k => k.emit
  clear_value t10
  split
  · exact h10.emit
  · exact h10

/-! ### Lanes -/

theorem Kept.updLane {n : Nat} {f : LaneHw → LaneHw} (h : Kept mx s₀ t) : Kept mx s₀ (t.updLane n f) :=
  Kept.same h rfl rfl rfl rfl rfl

theorem Kept.setPllLock {q p : Nat} {b : Bool} (h : Kept mx s₀ t) : Kept mx s₀ (t.setPllLock q p b) := h.setB.setB

theorem Kept.pllBegins {q p : Nat} (h : Kept mx s₀ t) : Kept mx s₀ (t.pllBegins q p) := Kept.same h rfl rfl rfl rfl rfl

theorem Kept.pllTune {q p fam : Nat} (h : Kept mx s₀ t) : Kept mx s₀ (t.pllTune q p fam) :=
  Kept.ite h.set.setB.setPllLock.set.bump.pllBegins h.set.setB

theorem Kept.fitPll {q p : Nat} (h : Kept mx s₀ t) : Kept mx s₀ (t.fitPll q p) := h.set.when (fun _ k => k.pllTune)

theorem Kept.fitPlls {q : Nat} (h : Kept mx s₀ t) : Kept mx s₀ (t.fitPlls q) := h.fitPll.fitPll

theorem Kept.assignPll {n k p fam : Nat} (h : Kept mx s₀ t) : Kept mx s₀ (t.assignPll n k p fam) :=
  (h.each (fun _ _ k => k.set.set)).fitPlls

theorem Kept.pllOutputsFail {q p : Nat} (h : Kept mx s₀ t) : Kept mx s₀ (t.pllOutputsFail q p) :=
  h.each (fun _ _ k => k.timingLoss)

theorem Kept.pllLost {q p : Nat} (h : Kept mx s₀ t) : Kept mx s₀ (t.pllLost q p) :=
  Kept.ite h.setPllLock.bump.quadCause.pllOutputsFail h

theorem Kept.pllLockTimeout {q p : Nat} (h : Kept mx s₀ t) : Kept mx s₀ (t.pllLockTimeout q p) :=
  Kept.ite h.quadCause.pllOutputsFail h

theorem Kept.fabricDown {n : Nat} (h : Kept mx s₀ t) : Kept mx s₀ (t.fabricDown n) := by
  unfold State.fabricDown
  extract_lets +onlyGivenNames js
  clear_value js
  split
  · exact (h.each (fun _ _ k => k.pathLoss)).updLane
  · exact Kept.ite h ((h.each (fun _ _ k => k.pathLoss)).updLane)

theorem Kept.leaveUp {n rows : Nat} (h : Kept mx s₀ t) : Kept mx s₀ (t.leaveUp n rows) :=
  Kept.ite ((h.set.when (fun _ k => k.set)).sdiNoSignal) (Kept.ite ((h.set.when (fun _ k => k.set)).fabricDown)
      (h.set.when (fun _ k => k.set)))

theorem Kept.rxTo {n st rows : Nat} (h : Kept mx s₀ t) : Kept mx s₀ (t.rxTo n st rows) :=
  (((((h.set.setB.setB.when (fun _ k => k.laneCause)).when (fun _ k => k.leaveUp)).when (fun _ k => k.set)).when
      (fun _ k => k.set)).when (fun _ k => k.set)).when (fun _ k => k.laneCause)

theorem Kept.enterCell {n rows : Nat} (h : Kept mx s₀ t) : Kept mx s₀ (t.enterCell n rows) := by
  unfold State.enterCell
  exact h.rxTo.set.updLane

theorem Kept.signalDetect {n : Nat} {on : Bool} {rows : Nat} (h : Kept mx s₀ t) : Kept mx s₀ (t.signalDetect n on rows) :=
  Kept.ite (Kept.ite h.updLane (Kept.ite (h.when (fun _ k => k.rxTo)) h.rxTo)) h

theorem Kept.signalTaken {n : Nat} (h : Kept mx s₀ t) : Kept mx s₀ (t.signalTaken n) := by
  unfold State.signalTaken
  split
  · exact h
  · exact Kept.ite (h.updLane.when (fun _ k => k.rxTo)) h.updLane.rxTo

theorem Kept.pllLocks {q p : Nat} (h : Kept mx s₀ t) : Kept mx s₀ (t.pllLocks q p) :=
  Kept.ite (h.setPllLock.set.each (fun _ _ k => k.signalTaken)) h

theorem Kept.showEq {n ctle dfe14 dfe5 : Nat} (h : Kept mx s₀ t) : Kept mx s₀ (t.showEq n ctle dfe14 dfe5) := h.set.wr.set

theorem Kept.eqOverride {n : Nat} (h : Kept mx s₀ t) : Kept mx s₀ (t.eqOverride n) := h.showEq

theorem Kept.eqLand {n : Nat} (h : Kept mx s₀ t) : Kept mx s₀ (t.eqLand n) := h.when (fun _ k => k.eqOverride)

theorem Kept.adapt {n : Nat} (h : Kept mx s₀ t) : Kept mx s₀ (t.adapt n) := Kept.ite h h.fresh.fresh.fresh.showEq

theorem Kept.cdrLock {n : Nat} {div : Bool} (h : Kept mx s₀ t) : Kept mx s₀ (t.cdrLock n div) :=
  Kept.ite (Kept.ite ((h.signalTaken.adapt.updLane.when (fun _ k => k.sdiCdrLock)).rxTo) (Kept.ite
      h.signalTaken.adapt.updLane.set.rxTo h.signalTaken.adapt.updLane.rxTo)) h.signalTaken

theorem Kept.cdrLost {n rows : Nat} (h : Kept mx s₀ t) : Kept mx s₀ (t.cdrLost n rows) := Kept.ite h.rxTo h

theorem Kept.blockLock {n : Nat} (h : Kept mx s₀ t) : Kept mx s₀ (t.blockLock n) := Kept.ite h.enterCell h

theorem Kept.blockWindow {n inv : Nat} (h : Kept mx s₀ t) : Kept mx s₀ (t.blockWindow n inv) :=
  Kept.ite (Kept.ite h.bump.bump.rxTo.laneCause h.bump) h

theorem Kept.polInvert {n : Nat} (h : Kept mx s₀ t) : Kept mx s₀ (t.polInvert n) := Kept.ite h.setB.updLane h

theorem Kept.showMerge {n : Nat} (h : Kept mx s₀ t) : Kept mx s₀ (t.showMerge n) := by
  unfold State.showMerge
  split
  · exact h
  · exact h.setB.setB

theorem Kept.hopFrame {n a h' : Nat} {x : HopFrame} (h : Kept mx s₀ t) : Kept mx s₀ (t.hopFrame n a h' x) := by
  unfold State.hopFrame
  extract_lets +onlyGivenNames _ _ t1
  have h1 : Kept mx s₀ t1 := h.when (fun _ k => k.raiseLimited)
  split
  · exact h1
  · exact Kept.ite h1 (Kept.ite h1.pathLoss h1.updIng.storeFrame)

theorem Kept.lostCells {e : Nat} {started : Bool} (h : Kept mx s₀ t) : Kept mx s₀ (t.lostCells e started) :=
  Kept.ite h.storeFrame h.poisonIng

theorem Kept.slotCell {n : Nat} {c : FabricCell} (h : Kept mx s₀ t) : Kept mx s₀ (t.slotCell n c) := by
  unfold State.slotCell
  extract_lets +onlyGivenNames r a
  clear_value r a
  split
  · extract_lets +onlyGivenNames e last old gap
    clear_value e last old gap
    split
    · exact h
    · extract_lets +onlyGivenNames t1
      have h1 : Kept mx s₀ t1 := by
        unfold t1
        split
        · split
          · exact h.lostCells
          · exact h
        · exact h
      extract_lets +onlyGivenNames t2
      have h2 : Kept mx s₀ t2 := h1.updLane
      split
      · exact h2.hopFrame
      · exact h2
  · exact h

theorem Kept.cellIn {n : Nat} {c : FabricCell} (h : Kept mx s₀ t) : Kept mx s₀ (t.cellIn n c) := by
  unfold State.cellIn
  split
  · extract_lets +onlyGivenNames t1
    have h1 : Kept mx s₀ t1 := h.farEnd
    extract_lets +onlyGivenNames _ _
    split
    · exact Kept.ite (Kept.ite (h1.updLane.rxTo.when (fun _ k => k.laneCause)) h1.updLane) h1.updLane
    · exact Kept.ite (Kept.ite (((h1.when (fun _ k => k.bump.laneCause)).updLane).slotCell) ((h1.when (fun _ k =>
        k.bump.laneCause)).updLane)) (Kept.ite ((((((h1.when (fun _ k =>
        k.bump.laneCause)).bump).updLane).bump).enterCell).laneCause) (((h1.when (fun _ k =>
        k.bump.laneCause)).bump).updLane))
    · exact h1
  · exact h

theorem Kept.remoteStatus {n : Nat} {down : Bool} (h : Kept mx s₀ t) : Kept mx s₀ (t.remoteStatus n down) :=
  Kept.ite h.set.laneCause (Kept.ite h.set.set h)

theorem Kept.showReversed {q : Nat} (h : Kept mx s₀ t) : Kept mx s₀ (t.showReversed q) := h.setB.when (fun _ k => k.quadCause)

theorem Kept.serviceIn {n : Nat} {c : ServiceCell} (h : Kept mx s₀ t) : Kept mx s₀ (t.serviceIn n c) :=
  Kept.ite ((((h.set.set.set.set.farEnd.updLane.setB.when (fun _ k => k.laneCause)).remoteStatus).when (fun _ k =>
      k.showReversed)).showMerge) h

theorem Kept.serviceSend {n : Nat} (h : Kept mx s₀ t) : Kept mx s₀ (t.serviceSend n) := by
  unfold State.serviceSend
  extract_lets +onlyGivenNames _
  split
  · extract_lets +onlyGivenNames _ _ _ t1
    have h1 : Kept mx s₀ t1 := h.updLane.when (fun _ k => k.updLode)
    extract_lets +onlyGivenNames _ t2
    have h2 : Kept mx s₀ t2 := h1.fresh
    split
    · exact h2.emit
    · exact h2.serviceIn
    · exact h2
  · exact h

theorem Kept.loopBack {e : Nat} (h : Kept mx s₀ t) : Kept mx s₀ (t.loopBack e) := by
  unfold State.loopBack
  split
  · split
    · exact h
    · extract_lets +onlyGivenNames _ _
      split
      · exact h.when (fun _ k => k.hopFrame)
      · exact h.when (fun _ k => k.each (fun _ _ k => k.frameStartIn))
  · exact h

theorem Kept.outputSend {e taken : Nat} {off holdBad : Bool} (h : Kept mx s₀ t) :
    Kept mx s₀ (t.outputSend e taken off holdBad) :=
  Kept.ite h.sendFrame h.sendFrame.loopBack

theorem Kept.txeqLand {n : Nat} {data : Word} (h : Kept mx s₀ t) : Kept mx s₀ (t.txeqLand n data) :=
  Kept.ite h.set.set.set h.laneCause

theorem Kept.eqLimit {n ctle dfe14 dfe5 : Nat} (h : Kept mx s₀ t) : Kept mx s₀ (t.eqLimit n ctle dfe14 dfe5) :=
  Kept.ite (h.showEq.updLane.when (fun _ k => k.laneCause)) h

theorem Kept.eyeMeasure {n height width : Nat} (h : Kept mx s₀ t) : Kept mx s₀ (t.eyeMeasure n height width) :=
  Kept.ite h.set.set.updLane h

theorem Kept.prbsCheck {n clean errors : Nat} (h : Kept mx s₀ t) : Kept mx s₀ (t.prbsCheck n clean errors) :=
  Kept.ite ((Kept.ite h h.set.set).when (fun _ k => k.bumpSat)) h

theorem Kept.laneCfgDiscard {m n : Nat} (h : Kept mx s₀ t) : Kept mx s₀ (t.laneCfgDiscard m n) :=
  h.set.recordIgnored.markIgnored.laneCause

theorem Kept.txStart {n : Nat} (h : Kept mx s₀ t) : Kept mx s₀ (t.txStart n) := by
  unfold State.txStart
  extract_lets +onlyGivenNames _ t1
  have h1 : Kept mx s₀ t1 := h.set
  split
  · exact h1.set.set
  · exact h1

theorem Kept.laneEntries {n : Nat} (h : Kept mx s₀ t) : Kept mx s₀ (t.laneEntries n).1 := by
  unfold State.laneEntries
  split
  · dsimp only
    exact ((h.each (fun _ _ k => k.openIng)).each (fun _ _ k => k.openEgr)).updLane
  · exact h

theorem Kept.laneUp {n : Nat} (h : Kept mx s₀ t) : Kept mx s₀ (t.laneUp n) := by
  unfold State.laneUp
  exact (((h.when (fun _ k => k.emit)).set).txStart).updLane

theorem Kept.laneStart {n : Nat} (h : Kept mx s₀ t) : Kept mx s₀ (t.laneStart n) :=
  Kept.ite h.set.set (Kept.ite h.set.set.laneUp (Kept.ite h.set.set.updLane.laneCause (Kept.ite
      h.set.set.laneEntries.dropNeed.laneUp h.set.set.updLane.startCompaction)))

theorem Kept.laneRelease {n : Nat} (h : Kept mx s₀ t) : Kept mx s₀ (t.laneRelease n) :=
  Kept.ite h (((h.each (fun _ _ k => k.closeIng)).each (fun _ _ k => k.closeEgr)).updLane)

theorem Kept.laneStop {n : Nat} (h : Kept mx s₀ t) : Kept mx s₀ (t.laneStop n) :=
  ((h.rxTo.set.updLane.dropNeed.when (fun _ k => k.set.set)).set).laneRelease

theorem Kept.quadStart {q : Nat} (h : Kept mx s₀ t) : Kept mx s₀ (t.quadStart q) :=
  (h.fitPlls.set.set.each (fun _ _ k => k.setPllLock.pllBegins)).each (fun _ _ k => Kept.ite k.laneStart k)

theorem Kept.quadStop {q : Nat} (h : Kept mx s₀ t) : Kept mx s₀ (t.quadStop q) :=
  (((h.each (fun _ _ k => Kept.ite k.laneStop k)).set).each (fun _ _ k => k.setPllLock.set)).when (fun _ k => k.set)

theorem Kept.laneDeepLand {n : Nat} (h : Kept mx s₀ t) : Kept mx s₀ (t.laneDeepLand n) := Kept.ite h h.set

theorem Kept.quadDeepLand {q : Nat} (h : Kept mx s₀ t) : Kept mx s₀ (t.quadDeepLand q) := Kept.ite h h.set

/-! ### Cnv -/

theorem Kept.updCnv {n : Nat} {f : CnvHw → CnvHw} (h : Kept mx s₀ t) : Kept mx s₀ (t.updCnv n f) :=
  Kept.same h rfl rfl rfl rfl rfl

theorem Kept.putCnvNext {n : Nat} {b : CnvBank} (h : Kept mx s₀ t) : Kept mx s₀ (t.putCnvNext n b) :=
  (h.wr.each (fun _ _ k => k.set)).each (fun _ _ k => k.set)

theorem Kept.showProc {n : Nat} (h : Kept mx s₀ t) : Kept mx s₀ (t.showProc n) := h.wr

theorem Kept.lutIgn {n : Nat} (h : Kept mx s₀ t) : Kept mx s₀ (t.lutIgn n) := h.set.cnvCause

theorem Kept.cnvLutWrite {n : Nat} {data : Word} (h : Kept mx s₀ t) : Kept mx s₀ (t.cnvLutWrite n data) :=
  Kept.ite h.bump.lutIgn h.bump.updCnv.set.chkinvStruckAt

theorem Kept.cnvLutRead {n : Nat} (h : Kept mx s₀ t) : Kept mx s₀ (t.cnvLutRead n).2 := by
  unfold State.cnvLutRead
  refine Kept.set ?_
  split
  · dsimp only
    split
    · exact h.bump.wordBad.when fun _ k => k.sramCor
    · exact h.bump.wordBad.bump.fresh
  · exact h.bump.fresh

theorem Kept.cnvLoad {n lutsel first : Nat} {values : List Nat} (h : Kept mx s₀ t) :
    Kept mx s₀ (t.cnvLoad n lutsel first values) :=
  h.set.set.set.each (fun _ _ k => k.cnvLutWrite)

theorem Kept.cnvSwapLand {n : Nat} {data : Word} (h : Kept mx s₀ t) : Kept mx s₀ (t.cnvSwapLand n data) :=
  h.when (fun _ k => k.updCnv.set)

theorem Kept.cnvSwapDone {n : Nat} (h : Kept mx s₀ t) : Kept mx s₀ (t.cnvSwapDone n) :=
  Kept.ite h.updCnv.putCnvNext.setB.set.bump.showProc.cnvCause h

/-- A fold that carries a value after the state. -/
theorem Kept.foldl_fst {α β : Type} {f : State × α → β → State × α} {l : List β} {q : State × α} (h : Kept mx s₀ q.1)
    (hf : ∀ x p, Kept mx s₀ p.1 → Kept mx s₀ (f p x).1) : Kept mx s₀ (l.foldl f q).1 := by
  induction l generalizing q with
  | nil => exact h
  | cons x l ih => exact ih (hf x q h)

theorem Kept.tableWords {mem : Nat} {cause : State → State} {words : List (Nat × Nat)} (h : Kept mx s₀ t)
    (hcause : ∀ u, Kept mx s₀ u → Kept mx s₀ (cause u)) : Kept mx s₀ (t.tableWords mem cause words).1 := by
  unfold State.tableWords
  refine Kept.foldl_fst h fun w p k => ?_
  have kw : Kept mx s₀ (p.1.wordBad mem w.1 w.2).2 := k.wordBad
  extract_lets +onlyGivenNames q u
  split
  · exact kw
  · split
    · exact kw.sramCor
    · have kb (l : List (Nat × Nat)) : Kept mx s₀ { u with prov := { u.prov with bad := l } } :=
        Kept.same kw rfl rfl rfl rfl rfl
      exact Kept.ite (kb _) (hcause _ (kb _).bump)

theorem Kept.cnvFrame {n : Nat} {words : List (Nat × Nat)} (h : Kept mx s₀ t) : Kept mx s₀ (t.cnvFrame n words) := by
  unfold State.cnvFrame
  extract_lets +onlyGivenNames hd
  split
  · refine Kept.ite h ?_
    dsimp only
    split
    · exact h.bump.issueLate.updIng
    · refine Kept.ite ?_ (Kept.ite ?_ ?_)
      · exact (h.bump.when fun _ k => k.bump.cnvCause).issueLate.updIng
      · exact (h.bump.when fun _ k => k.bump.cnvCause).cnvCause.issueLate.updIng
      · exact (((h.bump.when fun _ k => k.bump.cnvCause).tableWords fun _ k => k.cnvCause).issueLate.updIng).when
          fun _ k => k.bump
  · exact h

theorem Kept.cnvOpen {n h' inF outF inPlane plane : Nat} {image : Bool} (h : Kept mx s₀ t) :
    Kept mx s₀ (t.cnvOpen n h' inF outF inPlane plane image) :=
  (((((h.set.set.set.set.set.setB.set.when (fun _ k => k.updCnv.putCnvNext)).setB).set).showProc).set).set

theorem Kept.cnvStop {n : Nat} (h : Kept mx s₀ t) : Kept mx s₀ (t.cnvStop n) := by
  unfold State.cnvStop
  extract_lets +onlyGivenNames t1
  have h1 : Kept mx s₀ t1 := h.set
  split
  · exact h1.when (fun _ k => k.toNosig)
  · exact h1

theorem Kept.cnvClose {n : Nat} (h : Kept mx s₀ t) : Kept mx s₀ (t.cnvClose n) := h.cnvStop.set.set.set.set.wr

/-! ### Mica -/

theorem Kept.updMica {g : Nat} {f : MicaHw → MicaHw} (h : Kept mx s₀ t) : Kept mx s₀ (t.updMica g f) :=
  Kept.same h rfl rfl rfl rfl rfl

theorem Kept.updDec {d : Nat} {f : DecHw → DecHw} (h : Kept mx s₀ t) : Kept mx s₀ (t.updDec d f) :=
  Kept.same h rfl rfl rfl rfl rfl

theorem Kept.showPending {g : Nat} (h : Kept mx s₀ t) : Kept mx s₀ (t.showPending g) := h.setB.setB.setB

theorem Kept.startReq {g : Nat} {r : MicaReq} (h : Kept mx s₀ t) : Kept mx s₀ (t.startReq g r) := h.updMica.showPending

theorem Kept.micaRequest {g : Nat} {r : MicaReq} (h : Kept mx s₀ t) : Kept mx s₀ (t.micaRequest g r) := by
  unfold State.micaRequest
  split
  · exact Kept.ite h.updMica.showPending h.startReq
  · exact h.startReq

theorem Kept.micaCommitLand {g : Nat} {data : Word} (h : Kept mx s₀ t) : Kept mx s₀ (t.micaCommitLand g data) :=
  Kept.ite (Kept.ite h.micaRequest h.set.set.micaCause) h

theorem Kept.reflattenLand {g : Nat} {data : Word} (h : Kept mx s₀ t) : Kept mx s₀ (t.reflattenLand g data) :=
  Kept.ite h.micaRequest h

theorem Kept.flattenDone {g us : Nat} (h : Kept mx s₀ t) : Kept mx s₀ (t.flattenDone g us) := by
  unfold State.flattenDone
  split
  · exact Kept.ite h.updMica.bump.set.showPending.micaCause h
  · exact h

theorem Kept.micaTableBad {g k : Nat} (h : Kept mx s₀ t) : Kept mx s₀ (t.micaTableBad g k) := h.bump.updMica.micaCause

theorem Kept.readTables {g : Nat} (h : Kept mx s₀ t) : Kept mx s₀ (t.readTables g) :=
  h.each (fun _ _ k => (k.wordBad.when (fun _ k => k.sramCor)).when (fun _ k => k.micaTableBad))

theorem Kept.activate {g : Nat} {x : MicaSet} {fixed : List Nat} (h : Kept mx s₀ t) : Kept mx s₀ (t.activate g x fixed) :=
  (((h.each (fun _ _ k => k.each (fun _ _ k => k.wr))).updMica).readTables).bump

theorem Kept.activateEarly {g : Nat} (h : Kept mx s₀ t) : Kept mx s₀ (t.activateEarly g) := by
  unfold State.activateEarly
  split
  · exact h
  · split
    · exact h
    · exact Kept.ite h h.activate.updMica.showPending

theorem Kept.activatePending {g : Nat} (h : Kept mx s₀ t) : Kept mx s₀ (t.activatePending g) := by
  unfold State.activatePending
  extract_lets +onlyGivenNames t1
  have h1 : Kept mx s₀ t1 := h.activateEarly
  extract_lets +onlyGivenNames _
  split
  · exact h1
  · split
    · exact h1
    · split
      · exact h1
      · extract_lets +onlyGivenNames t2
        have h2 : Kept mx s₀ t2 := by
          unfold t2
          split
          · exact h1.activate
          · exact h1
        extract_lets +onlyGivenNames t3
        have h3 : Kept mx s₀ t3 := by
          unfold t3
          split
          · split
            · exact h2.updMica.set
            · exact h2
          · exact h2
        extract_lets +onlyGivenNames t4
        have h4 : Kept mx s₀ t4 := h3.updMica
        split
        · exact h4.startReq
        · exact h4.showPending

theorem Kept.lutOn {g : Nat} (h : Kept mx s₀ t) : Kept mx s₀ (t.lutOn g) := (h.when (fun _ k => k.updMica)).bump

theorem Kept.micaLutWrite {g : Nat} {data : Word} (h : Kept mx s₀ t) : Kept mx s₀ (t.micaLutWrite g data) :=
  Kept.ite h.micaCause h.updMica.set.lutOn.chkinvStruckAt

theorem Kept.micaLutRead {g : Nat} (h : Kept mx s₀ t) : Kept mx s₀ (t.micaLutRead g).2 := by
  unfold State.micaLutRead
  extract_lets +onlyGivenNames kl past q1 t2
  have h1 : Kept mx s₀ q1.2 := by
    unfold q1
    split
    · exact h
    · exact h.wordBad
  have h2 : Kept mx s₀ t2 := (h1.when fun _ k => k.sramCor).when fun _ k => k.bump
  refine Kept.when (Kept.set ?_) fun _ k => k.lutOn
  split
  · exact h2.fresh
  · exact h2

theorem Kept.layResult {g code : Nat} (h : Kept mx s₀ t) : Kept mx s₀ (t.layResult g code) := h.set.set.set

theorem Kept.showDec {d g l h' w ht : Nat} (h : Kept mx s₀ t) : Kept mx s₀ (t.showDec d g l h' w ht) :=
  h.set.set.set.set.set.set.set.set

theorem Kept.placeBind {g : Nat} {w : BindWait} (h : Kept mx s₀ t) : Kept mx s₀ (t.placeBind g w) := by
  unfold State.placeBind
  extract_lets +onlyGivenNames _
  split
  · exact h.openEgr.repoint.dropNeed.showDec.set.updDec.set.set.set.set.updMica.layResult
  · exact h.updMica.startCompaction.set

theorem Kept.dropBind {g : Nat} (h : Kept mx s₀ t) : Kept mx s₀ (t.dropBind g) := by
  unfold State.dropBind
  split
  · exact h
  · exact h.updMica.dropNeed.uncharge

theorem Kept.opBind {g : Nat} (h : Kept mx s₀ t) : Kept mx s₀ (t.opBind g) :=
  Kept.ite h.layResult (Kept.ite h.layResult (Kept.ite h.staleIf.layResult h.staleIf.charge.placeBind))

theorem Kept.opRebind {g : Nat} (h : Kept mx s₀ t) : Kept mx s₀ (t.opRebind g) :=
  Kept.ite h.layResult (Kept.ite h.staleIf.layResult h.staleIf.uncharge.charge.updDec.showDec.repoint.set.layResult)

theorem Kept.clearLayer {g l : Nat} (h : Kept mx s₀ t) : Kept mx s₀ (t.clearLayer g l) := h.set.set.set.set

theorem Kept.opUnbind {g : Nat} (h : Kept mx s₀ t) : Kept mx s₀ (t.opUnbind g) :=
  Kept.ite h.layResult h.updDec.clearLayer.layResult

theorem Kept.layCmdLand {g : Nat} {data : Word} (h : Kept mx s₀ t) : Kept mx s₀ (t.layCmdLand g data) := by
  unfold State.layCmdLand
  split
  · exact h.micaCause
  · extract_lets +onlyGivenNames t1
    have h1 : Kept mx s₀ t1 := h.set
    split
    · exact h1.layResult
    · split
      · exact h1.opBind
      · exact h1.opRebind
      · exact h1.opUnbind
      · exact h1.layResult

theorem Kept.freeDec {d : Nat} (h : Kept mx s₀ t) : Kept mx s₀ (t.freeDec d) := by
  unfold State.freeDec
  exact (h.closeEgr.uncharge.each (fun _ _ k => k.wr)).updDec

theorem Kept.decSourceGone {h' : Nat} (h : Kept mx s₀ t) : Kept mx s₀ (t.decSourceGone h') :=
  h.each (fun _ _ k => k.set.repoint)

theorem Kept.decFrame {d : Nat} {late : Bool} (h : Kept mx s₀ t) : Kept mx s₀ (t.decFrame d late) := by
  unfold State.decFrame
  extract_lets +onlyGivenNames _ _
  split
  · extract_lets +onlyGivenNames _ _
    split
    · exact h
    · exact Kept.ite h (Kept.ite (h.bump.updDec.when (fun _ k => k.bump.bump.updMica)) (Kept.ite
        h.mediaWritten.updDec.bump.set.bump.bump.updMica h.mediaWritten.updDec.bump.set.updMica))
  · exact h

theorem Kept.layerFails {g l st cause : Nat} (h : Kept mx s₀ t) : Kept mx s₀ (t.layerFails g l st cause) :=
  Kept.ite h h.set.updMica.raise

theorem Kept.layerStale {g l : Nat} (h : Kept mx s₀ t) : Kept mx s₀ (t.layerStale g l) := Kept.ite h.layerFails h

theorem Kept.judgeLayer {g l : Nat} (h : Kept mx s₀ t) : Kept mx s₀ (t.judgeLayer g l) := by
  unfold State.judgeLayer
  split
  · exact h
  · extract_lets +onlyGivenNames _ _
    split
    · exact h.set
    · split
      · exact h
      · exact Kept.ite h.set (Kept.ite h.set.layerFails (Kept.ite (Kept.ite h.set (Kept.ite h.set h)) h.set))

theorem Kept.flintSwap {g : Nat} (h : Kept mx s₀ t) : Kept mx s₀ (t.flintSwap g) := by
  unfold State.flintSwap
  split
  · exact h
  · exact h.updMica.setB.set

theorem Kept.selectionPoint {g : Nat} (h : Kept mx s₀ t) : Kept mx s₀ (t.selectionPoint g) :=
  Kept.ite ((((h.activatePending.flintSwap.each (fun _ _ k => Kept.ite k.freeDec k)).each (fun _ _ k =>
      k.judgeLayer)).set).updMica) h

theorem Kept.flintGoLand {g : Nat} {data : Word} (h : Kept mx s₀ t) : Kept mx s₀ (t.flintGoLand g data) :=
  Kept.ite (Kept.ite h.micaCause h.set) h

theorem Kept.flintLoadDone {g : Nat} (h : Kept mx s₀ t) : Kept mx s₀ (t.flintLoadDone g) :=
  Kept.ite (Kept.ite h.set.updMica h.set.set.micaCause) h

theorem Kept.flintMatch {g : Nat} {en : Bool} (h : Kept mx s₀ t) : Kept mx s₀ (t.flintMatch g en) :=
  Kept.ite h.set (Kept.ite h.set (Kept.ite h.set (Kept.ite h.set.updMica h.set.updMica)))

theorem Kept.flintFails {g : Nat} (h : Kept mx s₀ t) : Kept mx s₀ (t.flintFails g) := h.set.updMica.raise

theorem Kept.flintVerdict {g got : Nat} (h : Kept mx s₀ t) : Kept mx s₀ (t.flintVerdict g got) :=
  Kept.ite h.set.bump.flintFails h

theorem Kept.flintBankBad {g : Nat} (h : Kept mx s₀ t) : Kept mx s₀ (t.flintBankBad g) := h.updMica.flintFails

theorem Kept.regionFrame {g r fmt : Nat} {pic : List Pix} (h : Kept mx s₀ t) : Kept mx s₀ (t.regionFrame g r fmt pic) :=
  Kept.ite h.updMica (h.set.updMica.when (fun _ k => k.raise))

theorem Kept.micaFrame {g : Nat} {late : Bool} (h : Kept mx s₀ t) : Kept mx s₀ (t.micaFrame g late) := by
  unfold State.micaFrame
  split
  · exact Kept.ite (((((h.bump.issueLate.when (fun _ k => k.bump)).when (fun _ k => k.micaCause)).when (fun _ k =>
      k.set.set)).flintMatch).each (fun _ _ k => k.regionFrame)) h
  · exact h

theorem Kept.micaOpen {g h' fmt plane bg : Nat} (h : Kept mx s₀ t) : Kept mx s₀ (t.micaOpen g h' fmt plane bg) :=
  h.set.set.set.set.updMica.set.set

theorem Kept.micaUnbindAll {g : Nat} (h : Kept mx s₀ t) : Kept mx s₀ (t.micaUnbindAll g) :=
  ((h.when (fun _ k => k.dropBind.layResult)).each (fun _ _ k => k.freeDec)).each (fun _ _ k => k.clearLayer)

theorem Kept.micaStop {g : Nat} (h : Kept mx s₀ t) : Kept mx s₀ (t.micaStop g) := by
  unfold State.micaStop
  extract_lets +onlyGivenNames t1
  have h1 : Kept mx s₀ t1 := h.set
  split
  · exact h1.when (fun _ k => k.toNosig)
  · exact h1

theorem Kept.micaClose {g : Nat} (h : Kept mx s₀ t) : Kept mx s₀ (t.micaClose g) :=
  h.micaUnbindAll.micaStop.set.set.set.set.updMica.showPending

/-! ### Eth -/

theorem Kept.updEth {p : Nat} {f : EthPort → EthPort} (h : Kept mx s₀ t) : Kept mx s₀ (t.updEth p f) :=
  Kept.same h rfl rfl rfl rfl rfl

theorem Kept.ethCount {p k n : Nat} (h : Kept mx s₀ t) : Kept mx s₀ (t.ethCount p k n) := by
  unfold State.ethCount
  exact h.updEth.when (fun _ k => k.set.ethCause)

theorem Kept.statSnap {p : Nat} (h : Kept mx s₀ t) : Kept mx s₀ (t.statSnap p) := by
  unfold State.statSnap
  exact ((h.each (fun _ _ k => k.set)).set).updEth

theorem Kept.statSnapLand {p : Nat} {data : Word} (h : Kept mx s₀ t) : Kept mx s₀ (t.statSnapLand p data) :=
  h.when (fun _ k => k.statSnap)

theorem Kept.statTotal {p : Nat} (h : Kept mx s₀ t) : Kept mx s₀ (t.statTotal p) := by
  unfold State.statTotal
  exact h.statSnap.updEth

theorem Kept.ethOut {p : Nat} {bytes : List Byte} (h : Kept mx s₀ t) : Kept mx s₀ (t.ethOut p bytes) := by
  unfold State.ethOut
  exact ((h.when (fun _ k => k.emit)).ethCount).ethCount

theorem Kept.showPaused {p : Nat} (h : Kept mx s₀ t) : Kept mx s₀ (t.showPaused p) := h.setB

theorem Kept.drainMedia {p : Nat} (h : Kept mx s₀ t) : Kept mx s₀ (t.drainMedia p) := h.updEth.each (fun _ _ k => k.ethOut)

theorem Kept.ethMedia {p cls : Nat} {frame : List Byte} (h : Kept mx s₀ t) : Kept mx s₀ (t.ethMedia p cls frame) := by
  unfold State.ethMedia
  exact Kept.ite h.ethCount (Kept.ite h (Kept.ite (Kept.ite h.updEth h.ethCount.ethCause) h.ethOut))

theorem Kept.endHold {p cls : Nat} (h : Kept mx s₀ t) : Kept mx s₀ (t.endHold p cls) := h.updEth.showPaused.drainMedia

theorem Kept.pauseClass {p quanta cls : Nat} (h : Kept mx s₀ t) : Kept mx s₀ (t.pauseClass p quanta cls) :=
  Kept.ite h.endHold h.updEth.showPaused

theorem Kept.pauseRx {p : Nat} {l : List Byte} (h : Kept mx s₀ t) : Kept mx s₀ (t.pauseRx p l) := by
  unfold State.pauseRx
  extract_lets +onlyGivenNames t1
  have h1 : Kept mx s₀ t1 := h.ethCount
  extract_lets +onlyGivenNames o
  clear_value o
  split
  · exact h1
  · split
    · exact h1.pauseClass
    · exact h1.each (fun _ _ k => Kept.ite k.pauseClass k)
    · exact h1

theorem Kept.pauseOver {p cls : Nat} (h : Kept mx s₀ t) : Kept mx s₀ (t.pauseOver p cls) := by
  unfold State.pauseOver
  split
  · exact Kept.ite h.endHold h
  · exact h

theorem Kept.pauseWatchdog {p cls : Nat} (h : Kept mx s₀ t) : Kept mx s₀ (t.pauseWatchdog p cls) := by
  unfold State.pauseWatchdog
  extract_lets +onlyGivenNames _
  split
  · exact Kept.ite h h.set.updEth.ethCause.endHold
  · exact h

theorem Kept.watchdogOver {p : Nat} (h : Kept mx s₀ t) : Kept mx s₀ (t.watchdogOver p) := Kept.ite h.set h

theorem Kept.sramPut {a : Nat} {bytes : List Byte} (h : Kept mx s₀ t) : Kept mx s₀ (t.sramPut a bytes) := by
  have h1 : Kept mx s₀ (t.updMgt fun m => { m with sram := Memory.writeN m.sram a bytes }) :=
    { pending := h.pending
      fuses := h.fuses
      sound := fun hs => ⟨(h.sound hs).regs, Memory.wf_writeN a bytes (h.sound hs).mem.1, (h.sound hs).mem.2⟩
      matrix := fun e => (h.matrix e).trans ⟨rfl, rfl, rfl, rfl⟩ }
  exact h1.when fun _ k => k.each fun _ _ k => k.chkinvStruckAt

theorem Kept.sramPut32 {a v : Nat} (h : Kept mx s₀ t) : Kept mx s₀ (t.sramPut32 a v) := h.sramPut

theorem Kept.ringWrite {p r : Nat} {l : List Byte} {stamp : Option Nat} {mcast : Bool} (h : Kept mx s₀ t) :
    Kept mx s₀ (t.ringWrite p r l stamp mcast) := by
  unfold State.ringWrite
  exact Kept.ite h.ethCount (((h.each (fun _ _ k => (k.sramPut.when (fun _ k =>
      k.sramPut32.sramPut32)).sramPut32)).set).when (fun _ k => k.ethCount.ethCause))

theorem Kept.ethToRing {p r : Nat} {l : List Byte} {fifoFull : Bool} (h : Kept mx s₀ t) :
    Kept mx s₀ (t.ethToRing p r l fifoFull) := by
  unfold State.ethToRing
  exact Kept.ite h.ethCount.ethCause h.ringWrite

theorem Kept.ringSent {p : Nat} (h : Kept mx s₀ t) : Kept mx s₀ (t.ringSent p) := by
  unfold State.ringSent
  extract_lets +onlyGivenNames x
  clear_value x
  split
  · exact h
  · extract_lets +onlyGivenNames base count head
    clear_value base count head
    split
    · exact h.updEth
    · exact Kept.ite h ((((Kept.ite h.ethCount h.ethOut).each (fun _ _ k => k.sramPut32)).set).when (fun _ k =>
        k.txqPush))

theorem Kept.txKickLand {p : Nat} {data : Word} (h : Kept mx s₀ t) : Kept mx s₀ (t.txKickLand p data) :=
  h.when (fun _ k => k.updEth)

theorem Kept.ethIdle {p : Nat} (h : Kept mx s₀ t) : Kept mx s₀ (t.ethIdle p) := h.when (fun _ k => k.emit)

theorem Kept.ethLeave {p st : Nat} (h : Kept mx s₀ t) : Kept mx s₀ (t.ethLeave p st) := by
  unfold State.ethLeave
  exact h.set.updEth.ethIdle.when (fun _ k => (k.when (fun _ k => k.ethCount)).ethCause)

theorem Kept.ethStart {p : Nat} (h : Kept mx s₀ t) : Kept mx s₀ (t.ethStart p) := Kept.ite h.ethIdle h.set.ethCause

theorem Kept.pcsLock {p : Nat} (h : Kept mx s₀ t) : Kept mx s₀ (t.pcsLock p) := Kept.ite h.updEth.set.ethIdle h

theorem Kept.faultSequence {p kind : Nat} (h : Kept mx s₀ t) : Kept mx s₀ (t.faultSequence p kind) :=
  Kept.ite h.updEth.ethLeave h.updEth

theorem Kept.ethLinkUp {p : Nat} (h : Kept mx s₀ t) : Kept mx s₀ (t.ethLinkUp p) := Kept.ite h.set.ethCause h

theorem Kept.ethStop {p : Nat} (h : Kept mx s₀ t) : Kept mx s₀ (t.ethStop p) := h.ethLeave.updEth.showPaused

theorem Kept.sgmiiSpeed {p : Nat} (h : Kept mx s₀ t) : Kept mx s₀ (t.sgmiiSpeed p) := Kept.ite h.ethLeave.updEth.ethCause h

/-! ### Ipm -/

theorem Kept.updIpm {f : IpmState → IpmState} (h : Kept mx s₀ t) : Kept mx s₀ (t.updIpm f) := Kept.same h rfl rfl rfl rfl rfl

theorem Kept.updRxf {n : Nat} {f : RxFlow → RxFlow} (h : Kept mx s₀ t) : Kept mx s₀ (t.updRxf n f) := h.updIpm

theorem Kept.updTxf {n : Nat} {f : TxFlow → TxFlow} (h : Kept mx s₀ t) : Kept mx s₀ (t.updTxf n f) := h.updIpm

theorem Kept.flowEvent {n ev : Nat} (h : Kept mx s₀ t) : Kept mx s₀ (t.flowEvent n ev) := h.ipmEvent

theorem Kept.flowLimited {n ev : Nat} (h : Kept mx s₀ t) : Kept mx s₀ (t.flowLimited n ev) :=
  Kept.ite (Kept.flowEvent (Kept.same h rfl rfl rfl rfl rfl)) h

theorem Kept.showPmem (h : Kept mx s₀ t) : Kept mx s₀ t.showPmem := h.set

theorem Kept.showOcc (h : Kept mx s₀ t) : Kept mx s₀ t.showOcc := h.set.set

theorem Kept.showBin {p ip : Nat} (h : Kept mx s₀ t) : Kept mx s₀ (t.showBin p ip) := h.set

theorem Kept.igmpReport {p group src : Nat} (h : Kept mx s₀ t) : Kept mx s₀ (t.igmpReport p group src) :=
  h.when (fun _ k => k.emit)

theorem Kept.igmpLeave {p group : Nat} (h : Kept mx s₀ t) : Kept mx s₀ (t.igmpLeave p group) := h.when (fun _ k => k.emit)

theorem Kept.igmpStart (h : Kept mx s₀ t) : Kept mx s₀ t.igmpStart := h.each (fun _ _ k => k.igmpReport)

theorem Kept.igmpJoin {p group src : Nat} (h : Kept mx s₀ t) : Kept mx s₀ (t.igmpJoin p group src) :=
  Kept.ite h.igmpReport.updIpm h

theorem Kept.igmpGone {p group : Nat} (h : Kept mx s₀ t) : Kept mx s₀ (t.igmpGone p group) := Kept.ite h.igmpLeave.updIpm h

theorem Kept.igmpAgain {p group : Nat} (h : Kept mx s₀ t) : Kept mx s₀ (t.igmpAgain p group) := by
  unfold State.igmpAgain
  split
  · exact h
  · exact Kept.ite h (Kept.ite h.igmpLeave.updIpm h.igmpReport.updIpm)

theorem Kept.igmpQuery {p version group maxResp : Nat} (h : Kept mx s₀ t) :
    Kept mx s₀ (t.igmpQuery p version group maxResp) :=
  (Kept.ite (h.updIpm.when (fun _ k => k.ipmEvent)) h).each (fun _ _ k => k.igmpReport)

theorem Kept.joinTimeout {n leg : Nat} (h : Kept mx s₀ t) : Kept mx s₀ (t.joinTimeout n leg) := by
  unfold State.joinTimeout
  split
  · exact h
  · exact Kept.ite h (Kept.ite h.igmpReport h.updRxf.flowEvent)

theorem Kept.legReceives {n leg : Nat} (h : Kept mx s₀ t) : Kept mx s₀ (t.legReceives n leg) := h.updRxf

theorem Kept.legAccepts {n leg : Nat} (h : Kept mx s₀ t) : Kept mx s₀ (t.legAccepts n leg) :=
  ((h.when (fun _ k => k.set)).updRxf).when (fun _ k => k.flowEvent)

theorem Kept.legDown {n leg : Nat} (h : Kept mx s₀ t) : Kept mx s₀ (t.legDown n leg) := by
  unfold State.legDown
  split
  · exact h
  · exact Kept.ite h (Kept.ite (h.set.flowEvent.updRxf.flowEvent.when (fun _ k => k.toNosig)) h.set.flowEvent)

theorem Kept.portLegsDown {p : Nat} (h : Kept mx s₀ t) : Kept mx s₀ (t.portLegsDown p) :=
  h.each (fun _ _ k => k.each (fun _ _ k => k.legDown))

theorem Kept.ssrcCheck {n ssrc : Nat} (h : Kept mx s₀ t) : Kept mx s₀ (t.ssrcCheck n ssrc).2 := by
  unfold State.ssrcCheck
  split
  · exact h
  · extract_lets +onlyGivenNames again learn
    have hl : Kept mx s₀ (learn t) := h.set.updRxf
    split
    · exact hl
    · split
      · dsimp only
        exact h.updRxf
      · split
        · dsimp only
          exact h.updRxf
        · split
          · dsimp only
            exact hl.flowEvent
          · exact h

theorem Kept.police {n leg bytes : Nat} (h : Kept mx s₀ t) : Kept mx s₀ (t.police n leg bytes).2 := by
  unfold State.police
  split
  · exact h
  · extract_lets +onlyGivenNames _ _ _ _ _
    split
    · exact h.updRxf
    · exact h.updRxf.bump.flowLimited

theorem Kept.noteLateness {n stamp : Nat} {nominal : Int} (h : Kept mx s₀ t) : Kept mx s₀ (t.noteLateness n stamp nominal) :=
  h.set

theorem Kept.s6Rate {x : RxFlow} {payload : List Byte} (h : Kept mx s₀ t) : Kept mx s₀ (t.s6Rate x payload) := by
  unfold State.s6Rate
  extract_lets +onlyGivenNames _ _
  split
  · exact h
  · exact Kept.ite h h.set.setB

theorem Kept.videoPacket {n leg stamp bytes : Nat} {r : Rtp} {x : RxFlow} (h : Kept mx s₀ t) :
    Kept mx s₀ (t.videoPacket n leg stamp bytes r x) :=
  Kept.ite ((h.when (fun _ k => k.s6Rate)).updRxf) (Kept.ite (((((h.when (fun _ k =>
      k.s6Rate)).noteLateness).updRxf).bump).flowLimited) ((((((h.when (fun _ k =>
      k.s6Rate)).noteLateness).updRxf).bump).showOcc).chkinvStruckAt))

theorem Kept.audioPacket {n stamp : Nat} {r : Rtp} {x : RxFlow} (h : Kept mx s₀ t) : Kept mx s₀ (t.audioPacket n stamp r x) :=
  Kept.ite h (h.noteLateness.updRxf.bump.chkinvStruckAt.when (fun _ k => k.bump))

theorem Kept.ancPacket {n : Nat} {r : Rtp} {x : RxFlow} (h : Kept mx s₀ t) : Kept mx s₀ (t.ancPacket n r x) :=
  Kept.ite h ((((h.each (fun _ _ k => Kept.ite k.ancStore.bump k.ancStore)).updRxf).bump).when (fun _ k => k.updSdi))

theorem Kept.ipmPacket {n leg stamp bytes : Nat} {dgram : List Byte} (h : Kept mx s₀ t) :
    Kept mx s₀ (t.ipmPacket n leg stamp bytes dgram) := by
  unfold State.ipmPacket
  split
  · extract_lets +onlyGivenNames t1
    have h1 : Kept mx s₀ t1 := h.legReceives
    split
    · exact h1
    · extract_lets +onlyGivenNames b2
      have h2 : Kept mx s₀ b2.2 := h1.police
      extract_lets +onlyGivenNames a3
      have h3 : Kept mx s₀ a3.2 := h1.ssrcCheck
      split
      · exact h3
      · split
        · exact h2
        · extract_lets +onlyGivenNames t4
          have h4 : Kept mx s₀ t4 := h2.ssrcCheck.legAccepts
          split
          · exact h4
          · split
            · exact h4.audioPacket
            · exact h4.audioPacket
            · exact h4.ancPacket
            · exact h4.videoPacket
  · exact h.legReceives
  · exact h

theorem Kept.legSkew {n : Nat} {ps : List FlowPkt} (h : Kept mx s₀ t) : Kept mx s₀ (t.legSkew n ps) := by
  unfold State.legSkew
  extract_lets +onlyGivenNames _ _ _ t1
  have h1 : Kept mx s₀ t1 := Kept.ite (h.when (fun _ k => k.set.flowEvent)) (h.when (fun _ k => k.set))
  exact Kept.ite (Kept.ite (h1.when (fun _ k => k.set.flowEvent)) (h1.when (fun _ k => k.set))) ((Kept.ite (h1.when
      (fun _ k => k.set.flowEvent)) (h1.when (fun _ k => k.set))).set)

theorem Kept.ipmRelease {n : Nat} {picture : List Pix} {anc : List AncPkt} (h : Kept mx s₀ t) :
    Kept mx s₀ (t.ipmRelease n picture anc) := by
  unfold State.ipmRelease
  split
  · exact h
  · extract_lets +onlyGivenNames fmt type e fr ps
    clear_value fmt type e fr ps
    split
    · extract_lets +onlyGivenNames ap due
      clear_value ap due
      split
      · exact h
      · extract_lets +onlyGivenNames known lack from_ came lost whole m1
        clear_value known lack from_ came lost whole
        have h1 : Kept mx s₀ m1.2 := h.wordBad
        extract_lets +onlyGivenNames bad done t2
        clear_value bad done
        have h2 : Kept mx s₀ t2 := (h1.when (fun _ k => k.sramCor)).when (fun _ k => k.bump)
        extract_lets +onlyGivenNames t3
        have h3 : Kept mx s₀ t3 := h2.legSkew
        extract_lets +onlyGivenNames t4
        have h4 : Kept mx s₀ t4 := h3.updRxf
        extract_lets +onlyGivenNames t5
        have h5 : Kept mx s₀ t5 := h4.showOcc
        extract_lets +onlyGivenNames t6
        have h6 : Kept mx s₀ t6 := h5.when (fun _ k => k.bump.flowLimited)
        extract_lets +onlyGivenNames t7
        have h7 : Kept mx s₀ t7 := h6.when (fun _ k => k.setB.flowEvent)
        extract_lets +onlyGivenNames hv eng cuts t8
        clear_value hv eng cuts
        have h8 : Kept mx s₀ t8 := by
          unfold t8
          split
          · exact h7.each (fun _ _ k => k.erroredLine)
          · exact h7
        exact Kept.ite h8.flowEvent.pathLoss (Kept.ite (h8.when (fun _ k => k.updIng)) ((((h8.when (fun _ k =>
            k.updIng)).when (fun _ k => k.flowLimited)).issueLate).when (fun _ k => k.poisonIng)))
    · exact h

theorem Kept.audioTick {n flips : Nat} (h : Kept mx s₀ t) : Kept mx s₀ (t.audioTick n flips) := by
  unfold State.audioTick
  split
  · exact Kept.ite h ((((((h.wordBad.when (fun _ k => k.sramCor)).when (fun _ k => k.bump)).each (fun _ _ k =>
      k.voiceAt)).updRxf).when (fun _ k => k.bump)).when (fun _ k => k.flowLimited))
  · exact h

theorem Kept.flowSend {n : Nat} {marker : Bool} {ts : Nat} {ext payload : List Byte} (h : Kept mx s₀ t) :
    Kept mx s₀ (t.flowSend n marker ts ext payload) := by
  unfold State.flowSend
  split
  · exact h
  · exact (((h.each (fun _ _ k => k.ethMedia)).set).bump).updTxf

theorem Kept.packetSend {n : Nat} (h : Kept mx s₀ t) : Kept mx s₀ (t.packetSend n) := by
  unfold State.packetSend
  split
  · exact h
  · split
    · exact h
    · exact Kept.ite (h.flowSend.when (fun _ k => k.updTxf)) (Kept.ite (h.flowSend.when (fun _ k => k.updTxf))
        h.flowSend.updTxf)

theorem Kept.audioSend {n : Nat} (h : Kept mx s₀ t) : Kept mx s₀ (t.audioSend n) := by
  unfold State.audioSend
  split
  · exact Kept.ite h (Kept.ite h h.flowSend.updTxf)
  · exact h

theorem Kept.ancFlowLoad {p : Nat} (h : Kept mx s₀ t) : Kept mx s₀ (t.ancFlowLoad p) := h.each (fun _ _ k => k.updTxf.set)

theorem Kept.showFlows (h : Kept mx s₀ t) : Kept mx s₀ t.showFlows := h.set.set

theorem Kept.clearFlow {base : Nat} (h : Kept mx s₀ t) : Kept mx s₀ (t.clearFlow base) := h.clearWords.clearWords

theorem Kept.clearRxf {n : Nat} (h : Kept mx s₀ t) : Kept mx s₀ (t.clearRxf n) := h.clearFlow.set

theorem Kept.openRxf {n i h' : Nat} {d : List Nat} {plane : Nat} (h : Kept mx s₀ t) : Kept mx s₀ (t.openRxf n i h' d plane) :=
  ((h.updIpm.clearRxf.set.set.set.setB.setB.set.set.set.each (fun _ _ k => k.showBin)).each (fun _ _ k => Kept.ite k
      k.igmpJoin)).showFlows

theorem Kept.closeRxf {n : Nat} (h : Kept mx s₀ t) : Kept mx s₀ (t.closeRxf n) := by
  unfold State.closeRxf
  split
  · exact h
  · exact (((h.updIpm.clearFlow.each (fun _ _ k => k.showBin)).each (fun _ _ k => Kept.ite k
      k.igmpGone)).showFlows).showOcc

theorem Kept.openTxf {n i h' : Nat} {d : List Nat} (h : Kept mx s₀ t) : Kept mx s₀ (t.openTxf n i h' d) :=
  h.fresh.updIpm.clearFlow.set.set.set.setB.setB.set.set.showFlows

theorem Kept.closeTxf {n : Nat} (h : Kept mx s₀ t) : Kept mx s₀ (t.closeTxf n) := h.updIpm.clearFlow.showFlows

/-! ### EthRx -/

theorem Kept.ethClassify {p : Nat} {l : List Byte} {fifoFull : Bool} (h : Kept mx s₀ t) :
    Kept mx s₀ (t.ethClassify p l fifoFull) :=
  Kept.ite (h.when (fun _ k => k.each (fun _ _ k => k.ipmPacket))) (Kept.ite h.ethToRing (Kept.ite h.bump h.ethToRing))

theorem Kept.ethFrameIn {p : Nat} {l : List Byte} {fecCor fecUnc : Nat} {fifoFull : Bool} (h : Kept mx s₀ t) :
    Kept mx s₀ (t.ethFrameIn p l fecCor fecUnc fifoFull) := by
  unfold State.ethFrameIn
  split
  · exact h
  · extract_lets +onlyGivenNames t1
    have h1 : Kept mx s₀ t1 := (h.when (fun _ k => k.ethCount)).when (fun _ k => k.ethCount.ethCause)
    exact Kept.ite h1.ethCount (Kept.ite h1.ethCount (Kept.ite h1.pauseRx (Kept.ite h1.ethCount (Kept.ite
        h1.ethCount.ethCount.ethCount h1.ethCount.ethCount.ethClassify))))

theorem Kept.ethDown {p : Nat} {f : State → State} (h : Kept mx s₀ t) (hf : ∀ x0, Kept mx s₀ x0 → Kept mx s₀ (f x0)) :
    Kept mx s₀ (t.ethDown p f) :=
  (hf _ h).when (fun _ k => k.portLegsDown)

theorem Kept.ethLost {p : Nat} (h : Kept mx s₀ t) : Kept mx s₀ (t.ethLost p) := h.ethDown (fun _ k => k.ethLeave.updEth)

/-! ### Scan -/

theorem Kept.updScan {f : ScanState → ScanState} (h : Kept mx s₀ t) : Kept mx s₀ (t.updScan f) :=
  Kept.same h rfl rfl rfl rfl rfl

theorem Kept.scanRefused {err : Nat} (h : Kept mx s₀ t) : Kept mx s₀ (t.scanRefused err) := h.set.set.set.updScan.raise

theorem Kept.scanStart (h : Kept mx s₀ t) : Kept mx s₀ t.scanStart :=
  Kept.ite h.set.set.set.scanRefused h.set.set.set.set.updScan

theorem Kept.auxSend (h : Kept mx s₀ t) : Kept mx s₀ t.auxSend := by
  unfold State.auxSend
  split
  · exact h.updScan.emit
  · exact h

theorem Kept.scanDown {failed : Bool} (h : Kept mx s₀ t) : Kept mx s₀ (t.scanDown failed) :=
  h.set.updScan.raise.when (fun _ k => k.auxSend)

theorem Kept.scanTrained {ok psr : Bool} (h : Kept mx s₀ t) : Kept mx s₀ (t.scanTrained ok psr) :=
  Kept.ite h ((Kept.ite (h.set.updScan.when (fun _ k => k.set.charge.updScan)) (Kept.ite h.scanRefused
      h.scanDown)).when (fun _ k => k.auxSend))

theorem Kept.scanTrain (h : Kept mx s₀ t) : Kept mx s₀ t.scanTrain := h.set.updScan

theorem Kept.hpdEdge {high : Bool} (h : Kept mx s₀ t) : Kept mx s₀ (t.hpdEdge high) :=
  Kept.ite (h.updScan.when (fun _ k => k.scanTrain)) (Kept.ite h.updScan.scanDown h.updScan)

theorem Kept.scanRetry (h : Kept mx s₀ t) : Kept mx s₀ t.scanRetry := h.when (fun _ k => k.scanTrain)

theorem Kept.psrExit (h : Kept mx s₀ t) : Kept mx s₀ t.psrExit := h.when (fun _ k => k.scanTrain.updScan)

theorem Kept.scanStop (h : Kept mx s₀ t) : Kept mx s₀ t.scanStop := h.uncharge.set.updScan.when (fun _ k => k.auxSend)

theorem Kept.flipLand {data : Word} (h : Kept mx s₀ t) : Kept mx s₀ (t.flipLand data) :=
  Kept.ite h (Kept.ite h.raise (Kept.ite ((((h.when (fun _ k => k.bump)).set).updScan).psrExit) h.set.set))

theorem Kept.scanLatch (h : Kept mx s₀ t) : Kept mx s₀ t.scanLatch := Kept.ite h.set.set.set.updScan h

theorem Kept.scanLate {lines : Nat} (h : Kept mx s₀ t) : Kept mx s₀ (t.scanLate lines) := h.bump.raiseLimited

theorem Kept.scanUnderrun (h : Kept mx s₀ t) : Kept mx s₀ t.scanUnderrun :=
  Kept.ite (Kept.scanLate (Kept.same h.fresh rfl rfl rfl rfl rfl)) h

theorem Kept.scanSend (h : Kept mx s₀ t) : Kept mx s₀ t.scanSend := Kept.ite h.emit h.emit.scanLate

theorem Kept.scanFrame (h : Kept mx s₀ t) : Kept mx s₀ t.scanFrame :=
  Kept.ite h ((h.bump.updScan.when (fun _ k => k.bump.set64.updScan)).when (fun _ k => k.scanSend))

theorem Kept.psrEntry {accepted : Bool} (h : Kept mx s₀ t) : Kept mx s₀ (t.psrEntry accepted) :=
  Kept.ite (Kept.ite h.emit.set h.emit.raise) h

theorem Kept.auxCmdLand {data : Word} (h : Kept mx s₀ t) : Kept mx s₀ (t.auxCmdLand data) :=
  Kept.ite h (h.set.updScan.when (fun _ k => k.auxSend))

theorem Kept.auxDone {code : Nat} (h : Kept mx s₀ t) : Kept mx s₀ (t.auxDone code) := h.set.set.updScan

theorem Kept.auxReply {code : Nat} {bytes : List Byte} (h : Kept mx s₀ t) : Kept mx s₀ (t.auxReply code bytes) := by
  unfold State.auxReply
  split
  · exact h
  · exact Kept.ite h (Kept.ite ((Kept.ite (h.each (fun _ _ k => k.set)) h).auxDone) (Kept.ite h.auxDone (Kept.ite
      h.updScan.auxSend h.auxDone)))

theorem Kept.execAuxTimeout (h : Kept false s₀ t) : Completes s₀ (execAuxTimeout t) := by
  unfold Machine.execAuxTimeout
  apply Completes.next
  split
  · exact Kept.ite h h.auxDone
  · exact h

/-! ### Create -/

theorem Kept.judgeLow {enter : Bool} (h : Kept mx s₀ t) : Kept mx s₀ (t.judgeLow enter) :=
  Kept.ite h.updChn.raise (Kept.ite h.updChn h)

theorem Kept.showCount (h : Kept mx s₀ t) : Kept mx s₀ t.showCount := h.set.set

theorem Kept.createRefused {code : Nat} {a d : List Nat} (h : Kept mx s₀ t) : Kept mx s₀ (t.createRefused code a d) :=
  (((h.staleIf.when (fun _ k => k.fabEvent)).when (fun _ k => k.audEvent)).raise).chnResult

theorem Kept.openOut {e set_ : Nat} {image : Bool} (h : Kept mx s₀ t) : Kept mx s₀ (t.openOut e set_ image) :=
  Kept.ite h.wr.set.set.chkinvStruckAt.safeRefuse h.wr.set.set.chkinvStruckAt.set

theorem Kept.showIng {i e : Nat} (h : Kept mx s₀ t) : Kept mx s₀ (t.showIng i e) := h.set.set

theorem Kept.showEgr {i e : Nat} (h : Kept mx s₀ t) : Kept mx s₀ (t.showEgr i e) := h.set.set

theorem Kept.openVideoIn {i h' unit e : Nat} {w : CreateWait} (h : Kept mx s₀ t) :
    Kept mx s₀ (t.openVideoIn i h' unit e w) := by
  unfold State.openVideoIn
  extract_lets +onlyGivenNames _ _
  split
  · exact h.set.set.set.updIng.showIng
  · extract_lets +onlyGivenNames _ t1
    have h1 : Kept mx s₀ t1 := h.openIng.showIng
    split
    · exact h1
    · split
      · extract_lets +onlyGivenNames t2
        have h2 : Kept mx s₀ t2 := h1.openRxf
        split
        · exact h2.set.updIng
        · exact h2
      · exact (h1.each (fun _ _ k => (((Kept.ite k.set k.set).updPid).updRx).set)).updIng

theorem Kept.openVideoOut {i h' unit e : Nat} {w : CreateWait} (h : Kept mx s₀ t) :
    Kept mx s₀ (t.openVideoOut i h' unit e w) := by
  unfold State.openVideoOut
  extract_lets +onlyGivenNames _ _
  split
  · exact h.set.set.set.updEgr.openOut.showEgr
  · extract_lets +onlyGivenNames _ t1
    have h1 : Kept mx s₀ t1 := h.openEgr.openOut.showEgr
    split
    · extract_lets +onlyGivenNames t2
      have h2 : Kept mx s₀ t2 := h1.openTxf
      split
      · exact h2.set.set
      · exact h2
    · extract_lets +onlyGivenNames t2
      have h2 : Kept mx s₀ t2 := h1.each (fun _ _ k => ((Kept.ite k.set k.set).set).set)
      split
      · exact h2.assignPll
      · exact h2

theorem Kept.openAncIn {i h' unit : Nat} {w : CreateWait} (h : Kept mx s₀ t) : Kept mx s₀ (t.openAncIn i h' unit w) :=
  Kept.ite h.updSdi.openRxf h.updSdi.set.setB.set.set.set

theorem Kept.openAncOut {i h' unit : Nat} {w : CreateWait} (h : Kept mx s₀ t) : Kept mx s₀ (t.openAncOut i h' unit w) :=
  Kept.ite h.openTxf h.set.setB.set

theorem Kept.openSync {i h' unit ei eo : Nat} {w : CreateWait} (h : Kept mx s₀ t) :
    Kept mx s₀ (t.openSync i h' unit ei eo w) :=
  Kept.ite h.openIng.showIng.openEgr.showEgr.repoint.updFab.set.setB.orBit.set.set.set.set.fsNoInput
      h.openIng.showIng.openEgr.showEgr.repoint.updFab.set.setB.orBit.set.set.set.set

theorem Kept.openVoices {i : Nat} {gin gout : List Nat} {w : CreateWait} (h : Kept mx s₀ t) :
    Kept mx s₀ (t.openVoices i gin gout w) := by
  unfold State.openVoices
  extract_lets +onlyGivenNames first t1
  clear_value first
  have h1 : Kept mx s₀ t1 := h.updChan.giveIn.giveOut
  extract_lets +onlyGivenNames out t2
  clear_value out
  have h2 : Kept mx s₀ t2 := by
    unfold t2
    split
    · exact h1.coupleVoices
    · exact h1
  exact h2.showVoices

theorem Kept.openAt {i : Nat} {w : CreateWait} {eis eos : List Nat} (h : Kept mx s₀ t) : Kept mx s₀ (t.openAt i w eis eos) := by
  unfold State.openAt
  extract_lets +onlyGivenNames a d kind hd unit ch v gin gout ei eo c t1 t2
  have h2 : Kept mx s₀ t2 := (Kept.updChn h).set.wr.set.setB.chkinvStruckAt
  clear_value kind t2
  refine Kept.showCount (Kept.when (Kept.openVoices ?_) fun _ k => k.showPmem)
  split
  · exact h2.openVideoIn
  · exact h2.openVideoOut
  · exact h2.openRxf
  · exact h2.openTxf
  · exact h2.openAncIn
  · exact h2.openAncOut
  · exact h2.openIng.showIng.openEgr.showEgr.cnvOpen
  · exact h2.openIng.showIng.micaOpen
  · exact h2.openSync
  · exact h2.set.updChn

theorem Kept.openChannel {w : CreateWait} {eis eos : List Nat} (h : Kept mx s₀ t) : Kept mx s₀ (t.openChannel w eis eos) :=
  h.openAt.set.judgeLow.chnResult

theorem Kept.placeCreate {w : CreateWait} (h : Kept mx s₀ t) : Kept mx s₀ (t.placeCreate w) := by
  unfold State.placeCreate
  extract_lets +onlyGivenNames _
  split
  · split
    · exact h.assignPll.setNeed.updChn
    · exact h.updChn.dropNeed.openChannel
  · exact h.updChn.startCompaction

theorem Kept.opCreate {image : Bool} (h : Kept mx s₀ t) : Kept mx s₀ (t.opCreate image) :=
  Kept.ite h.createRefused ((h.when (fun _ k => k.charge)).placeCreate)

theorem Kept.resumeCreate (h : Kept mx s₀ t) : Kept mx s₀ t.resumeCreate := by
  unfold State.resumeCreate
  split
  · exact h.placeCreate
  · exact h

theorem Kept.retuneDone {q p : Nat} (h : Kept mx s₀ t) : Kept mx s₀ (t.retuneDone q p) := by
  unfold State.retuneDone
  split
  · extract_lets +onlyGivenNames t1
    have h1 : Kept mx s₀ t1 := h.pllLocks
    split
    · exact Kept.ite h1.resumeCreate h1
    · exact h1
  · exact h

theorem Kept.retuneTimeout {q p : Nat} (h : Kept mx s₀ t) : Kept mx s₀ (t.retuneTimeout q p) := by
  unfold State.retuneTimeout
  split
  · exact Kept.ite ((((h.quadCause.assignPll.when (fun _ k => k.uncharge)).updChn).dropNeed).createRefused) h
  · exact h

theorem Kept.quadStopCreate {q : Nat} (h : Kept mx s₀ t) : Kept mx s₀ (t.quadStopCreate q) := by
  unfold State.quadStopCreate
  split
  · exact Kept.ite h.resumeCreate h
  · exact h

theorem Kept.resumeLayers (h : Kept mx s₀ t) : Kept mx s₀ t.resumeLayers := by
  unfold State.resumeLayers
  refine Kept.each h (fun _ _ k1 => ?_)
  split
  · exact k1
  · exact Kept.ite k1.placeBind k1.dropBind.staleIf.layResult

theorem Kept.resumeLanes (h : Kept mx s₀ t) : Kept mx s₀ t.resumeLanes := h.each (fun _ _ k => k.laneStart)

theorem Kept.compactDone (h : Kept mx s₀ t) : Kept mx s₀ t.compactDone := by
  unfold State.compactDone
  split
  · extract_lets +onlyGivenNames t1
    have h1 : Kept mx s₀ t1 := h.updFab.set
    extract_lets +onlyGivenNames t2
    have h2 : Kept mx s₀ t2 := h1.fabEvent
    extract_lets +onlyGivenNames t3
    have h3 : Kept mx s₀ t3 := by
      unfold t3
      split
      · exact Kept.ite h2 h2.resumeCreate
      · exact h2
    exact h3.resumeLayers.resumeLanes.showBudget
  · exact h

theorem Kept.lowmarkLand {data : Word} (h : Kept mx s₀ t) : Kept mx s₀ (t.lowmarkLand data) := h.set.judgeLow

/-! ### Channels -/

theorem Kept.writeMembers {first : Nat} {ms : List Member} (h : Kept mx s₀ t) : Kept mx s₀ (t.writeMembers first ms) :=
  h.each (fun _ _ k => k.set.set.set.set)

theorem Kept.showDruses (h : Kept mx s₀ t) : Kept mx s₀ t.showDruses := by
  have listed (l : List (Nat × List Member)) (q : Nat × State) (hq : Kept mx s₀ q.2) : Kept mx s₀
      (l.foldl (fun (q : Nat × State) p => (q.1 + p.2.length,
        ((q.2.writeMembers q.1 p.2).set (Reg.CHN.DRU_MEM_COUNT p.1) p.2.length).set (Reg.CHN.DRU_MEM_FIRST p.1) q.1)) q).2 := by
    induction l generalizing q with
    | nil => exact hq
    | cons p l ih => exact ih _ hq.writeMembers.set.set
  exact (listed t.chn.druses (0, t) h).each fun _ _ k => k.wr

theorem Kept.addMember {d : Nat} {m : Member} (h : Kept mx s₀ t) : Kept mx s₀ (t.addMember d m) :=
  Kept.ite ((((h.updChn.showDruses.bump.bump.when (fun _ k => k.addRefs)).set).set).set)
      (h.updChn.showDruses.bump.bump.when (fun _ k => k.addRefs))

theorem Kept.dropMembers {d : Nat} (h : Kept mx s₀ t) : Kept mx s₀ (t.dropMembers d) :=
  ((((h.dropRefs.each (fun _ _ k => k.wr.set)).updChn).showDruses).set).set

theorem Kept.appendRefused {code : Nat} (h : Kept mx s₀ t) : Kept mx s₀ (t.appendRefused code) :=
  (h.when (fun _ k => k.raise)).chnResult

theorem Kept.finishAppend {d : Nat} {m : Member} (h : Kept mx s₀ t) : Kept mx s₀ (t.finishAppend d m) :=
  Kept.ite h.addMember.chnResult h.chnResult

theorem Kept.setMarks {d : Nat} {on : Bool} (h : Kept mx s₀ t) : Kept mx s₀ (t.setMarks d on) := h.each (fun _ _ k => k.setB)

theorem Kept.opAppend (h : Kept mx s₀ t) : Kept mx s₀ t.opAppend :=
  Kept.ite h.staleIf.appendRefused (Kept.ite h.setMarks.updChn.emit h.finishAppend)

theorem Kept.claimAnswer {code handle ins outs : Nat} (h : Kept mx s₀ t) :
    Kept mx s₀ (t.claimAnswer code handle ins outs) := by
  unfold State.claimAnswer
  split
  · exact h
  · exact Kept.ite h.setMarks.updChn.finishAppend h.setMarks.updChn.appendRefused

theorem Kept.claimTimeout (h : Kept mx s₀ t) : Kept mx s₀ t.claimTimeout := by
  unfold State.claimTimeout
  split
  · exact h
  · exact Kept.ite h.setMarks.updChn.appendRefused (Kept.ite h.updChn.emit h)

theorem Kept.claimed {args : List Nat} {psys parent : Nat} (h : Kept mx s₀ t) : Kept mx s₀ (t.claimed args psys parent).2 := by
  unfold State.claimed
  extract_lets +onlyGivenNames type hd j k refuse
  have hr (code : Nat) : Kept mx s₀ (refuse code).2 := h.when fun _ k => k.raise
  clear_value refuse
  split
  · exact hr _
  split
  · exact hr _
  split
  · exact h.staleIf
  split
  · exact hr _
  split
  · exact hr _
  split
  · exact hr _
  · exact h.set.set.set

theorem Kept.resolveRemote (h : Kept mx s₀ t) : Kept mx s₀ t.resolveRemote :=
  Kept.ite h.fresh.chnResult (Kept.ite h.fresh.chnResult h.fresh.setFree.setFree.chnResult)

theorem Kept.opResolve (h : Kept mx s₀ t) : Kept mx s₀ t.opResolve := by
  unfold State.opResolve
  extract_lets +onlyGivenNames _
  split
  · exact h.chnResult
  · split
    · exact h.staleIf.chnResult
    · extract_lets +onlyGivenNames _
      split
      · exact h.chnResult
      · split
        · exact h.set.set.chnResult
        · exact h.resolveRemote

theorem Kept.tellReaders {i h' : Nat} (h : Kept mx s₀ t) : Kept mx s₀ (t.tellReaders i h') := by
  unfold State.tellReaders
  split
  · exact h
  · exact (h.each (fun _ _ k => k.updEgr)).decSourceGone

theorem Kept.destroyChannel {i : Nat} {c : Chan} (h : Kept mx s₀ t) : Kept mx s₀ (t.destroyChannel i c) :=
  ((((((h.cancelNaming.when (fun _ k => k.micaUnbindAll)).set).set).chkinvStruckAt).updChan).tellReaders).when (fun _ k
      => k.moveVoices)

theorem Kept.opDestroy (h : Kept mx s₀ t) : Kept mx s₀ t.opDestroy := by
  unfold State.opDestroy
  extract_lets +onlyGivenNames _ _
  split
  · exact h.chnResult
  · split
    · exact h.staleIf.chnResult
    · split
      · exact h.chnResult
      · split
        · exact h.destroyChannel.chnResult
        · exact h.chnResult

theorem Kept.unbindIng {e : Nat} (h : Kept mx s₀ t) : Kept mx s₀ (t.unbindIng e) := h.set.set.set.updIng

theorem Kept.unbindEgr {e : Nat} (h : Kept mx s₀ t) : Kept mx s₀ (t.unbindEgr e) := h.set.set.set.wr.wr.updEgr

theorem Kept.freeRxLanes {a : List Nat} (h : Kept mx s₀ t) : Kept mx s₀ (t.freeRxLanes a) :=
  h.each (fun _ _ k => (Kept.ite k.set k.set).when (fun _ k => k.set))

theorem Kept.freeTxLanes {a : List Nat} (h : Kept mx s₀ t) : Kept mx s₀ (t.freeTxLanes a) :=
  (h.each (fun _ _ k => (Kept.ite k.set k.set).when (fun _ k => k.set.set))).when (fun _ k => k.assignPll)

theorem Kept.freeS6 {h' : Nat} (h : Kept mx s₀ t) : Kept mx s₀ (t.freeS6 h') :=
  h.each (fun _ _ k => (k.when (fun _ k => k.set)).when (fun _ k => k.set.set))

theorem Kept.freeSync {q : Nat} (h : Kept mx s₀ t) : Kept mx s₀ (t.freeSync q) :=
  Kept.ite h.updFab.clearWords.wr h.updFab.clearWords.set

theorem Kept.freeHeld {i h' : Nat} {c : Chan} (h : Kept mx s₀ t) : Kept mx s₀ (t.freeHeld i h' c) := by
  unfold State.freeHeld
  extract_lets +onlyGivenNames _ _ _
  split
  · exact Kept.ite h.unbindIng.laneRelease (Kept.ite h.closeIng (Kept.ite h.closeRxf.freeS6.closeIng
      h.freeRxLanes.closeIng))
  · exact Kept.ite h.unbindEgr.laneRelease (Kept.ite h.closeTxf.freeS6.closeEgr h.freeTxLanes.closeEgr)
  · exact h.closeRxf
  · exact h.closeTxf
  · exact Kept.ite h.updSdi.closeRxf h.updSdi.wr
  · exact Kept.ite h.closeTxf h.wr
  · exact h.cnvClose.closeIng.closeEgr
  · exact h.micaClose.closeIng
  · exact h.freeSync.closeIng.closeEgr
  · exact h.dropMembers.clearWords.clearWords.updChn

theorem Kept.releaseEntry {i : Nat} (h : Kept mx s₀ t) : Kept mx s₀ (t.releaseEntry i) := by
  unfold State.releaseEntry
  split
  · exact h
  · exact Kept.ite h (((((((((((((h.freeHeld.when (fun _ k =>
      k.uncharge)).dropGranules).updChn).wr).wr).chkinvStruckAt).clearWords).clearWords).updFab).showVoices).when
      (fun _ k => k.showPmem)).showCount).judgeLow)

theorem Kept.reqCmdLand {m : Nat} {data : Word} (h : Kept mx s₀ t) : Kept mx s₀ (t.reqCmdLand m data) := by
  unfold State.reqCmdLand
  split
  · exact h.set.raise
  · extract_lets +onlyGivenNames op t1
    clear_value op
    have h1 : Kept mx s₀ t1 := h.set.set.set
    split
    · exact h1.opCreate
    · exact h1.opDestroy
    · exact h1.opAppend
    · exact h1.opResolve
    · exact h1.chnResult

theorem Kept.generatorFrame {i e : Nat} (h : Kept mx s₀ t) : Kept mx s₀ (t.generatorFrame i e) := h.issueFrame

theorem Kept.planeMoves {p : Nat} (h : Kept mx s₀ t) : Kept mx s₀ (t.planeMoves p) :=
  (h.each (fun _ _ k => k.moveIng)).each (fun _ _ k => k.moveEgr)

theorem Kept.halfStops {i : Nat} (h : Kept mx s₀ t) : Kept mx s₀ (t.halfStops i) := h.when (fun _ k => k.set)

theorem Kept.planeStops {p : Nat} (h : Kept mx s₀ t) : Kept mx s₀ (t.planeStops p) := by
  unfold State.planeStops
  refine Kept.each h (fun _ _ k1 => ?_)
  split
  · exact Kept.ite (Kept.ite (k1.updEgr.when (fun _ k => k.showTx)) (Kept.ite k1.updEgr.updTxf.set (Kept.ite
      k1.updEgr.halfStops k1.updEgr))) k1
  · exact k1

theorem Kept.planeFrame {p : Nat} (h : Kept mx s₀ t) : Kept mx s₀ (t.planeFrame p) := by
  unfold State.planeFrame
  exact ((h.bump.planeRejoins.planeStepInstant.planeMoves.planeStops.each (fun _ _ k => k.generatorFrame)).each
      (fun _ _ k => k.fsSelect)).ancFlowLoad

theorem Kept.execPlaneFrameInstant {p : Nat} (h : Kept false s₀ t) : Completes s₀ (execPlaneFrameInstant p t) := by
  unfold Machine.execPlaneFrameInstant
  exact (Kept.ite h.planeFrame h).next

/-! ### Twin -/

theorem Kept.followWord {a : Nat} (h : Kept mx s₀ t) : Kept mx s₀ (t.followWord a) :=
  Kept.ite (h.when (fun _ k => k.repoint)) (Kept.ite h.updOutVoice.showVoice h)

theorem Kept.followChan {i h' : Nat} {c : Option ChanCopy} (h : Kept mx s₀ t) : Kept mx s₀ (t.followChan i h' c) := by
  unfold State.followChan
  extract_lets +onlyGivenNames t1
  have h1 : Kept mx s₀ t1 := by
    unfold t1
    split
    · exact Kept.ite h.destroyChannel h
    · exact h
  split
  · extract_lets +onlyGivenNames _ _
    split
    · exact (h1.set.when (fun _ k => k.charge)).openAt
    · exact h1
  · exact h1.set.updChn
  · exact h1

theorem Kept.applyItem {x : CopyItem} (h : Kept mx s₀ t) : Kept mx s₀ (t.applyItem x) := by
  unfold State.applyItem
  split
  · exact (h.wr.when (fun _ k => k.takeWide)).followWord
  · exact h.followChan
  · exact h.updLode.showAvg.showLoop
  · exact h.putSlots
  · exact h.updFab.showSched
  · exact h.updFab.showSalvos
  · exact Kept.ite h.updMica h.set.updMica
  · exact h.updMica
  · split
    · exact h.updIng
    · exact h
  · exact h.updIpm

theorem Kept.takeOver (h : Kept mx s₀ t) : Kept mx s₀ t.takeOver := h.twinEnter.twinEvent.updTwin

theorem Kept.partnerReads {link : Bool} {c devid : Nat} (h : Kept mx s₀ t) : Kept mx s₀ (t.partnerReads link c devid) := by
  unfold State.partnerReads
  extract_lets +onlyGivenNames t1
  have h1 : Kept mx s₀ t1 := h.set.set
  split
  · exact h1
  · split
    · exact Kept.ite h1.twinEnter h1
    · exact Kept.ite h1.takeOver (Kept.ite h1.twinEnter h1)
    · exact Kept.ite h1.twinEnter.updTwin h1
    · exact Kept.ite h1.set.twinEvent.twinEnter h1
    · exact h1

theorem Kept.freshLink (h : Kept mx s₀ t) : Kept mx s₀ t.freshLink := h.updTwin

theorem Kept.linkExchange (h : Kept mx s₀ t) : Kept mx s₀ t.linkExchange := by
  unfold State.linkExchange
  extract_lets +onlyGivenNames q1
  have h1 : Kept mx s₀ q1.2 := h.fresh
  split
  · exact h1.updTwin.sendTwin
  · exact h

theorem Kept.twinStart (h : Kept mx s₀ t) : Kept mx s₀ t.twinStart :=
  Kept.ite h.freshLink.twinEnter.updTwin.linkExchange h.freshLink.twinEnter.updTwin

theorem Kept.twinStop (h : Kept mx s₀ t) : Kept mx s₀ t.twinStop := h.freshLink.twinEnter

theorem Kept.twinUp {secondary : Bool} (h : Kept mx s₀ t) : Kept mx s₀ (t.twinUp secondary) :=
  Kept.ite h (Kept.ite h.set.freshLink.linkExchange h.set)

theorem Kept.linkRecord {ok : Bool} {devid measFw measPair claim nonce pub : Nat} (h : Kept mx s₀ t) :
    Kept mx s₀ (t.linkRecord ok devid measFw measPair claim nonce pub) :=
  Kept.ite h (Kept.ite h.twinEvent (Kept.ite h.set64.updTwin.twinEvent (Kept.ite ((h.set64.updTwin.updTwin.when
      (fun _ k => k.twinEvent)).twinEnter) (h.set64.updTwin.updTwin.when (fun _ k => k.twinEvent)))))

theorem Kept.linkLost (h : Kept mx s₀ t) : Kept mx s₀ t.linkLost := by
  unfold State.linkLost
  extract_lets +onlyGivenNames t1
  have h1 : Kept mx s₀ t1 := h.freshLink.twinEvent.disqualify
  split
  · exact h1.twinEnter
  · split
    · exact Kept.ite h1.takeOver (Kept.ite h1.twinEnter h1)
    · exact h1
  · exact h1

theorem Kept.twinDown {secondary : Bool} (h : Kept mx s₀ t) : Kept mx s₀ (t.twinDown secondary) :=
  Kept.ite h.set.linkLost h.set

theorem Kept.deadTime (h : Kept mx s₀ t) : Kept mx s₀ t.deadTime := by
  unfold State.deadTime
  split
  · exact h
  · extract_lets +onlyGivenNames t1
    have h1 : Kept mx s₀ t1 := h.set
    split
    · exact h1.twinEnter
    · exact h1.takeOver
    · exact h1

theorem Kept.recoverLand {data : Word} (h : Kept mx s₀ t) : Kept mx s₀ (t.recoverLand data) := Kept.ite h.twinEnter.updTwin h

theorem Kept.xchgLand {data : Word} (h : Kept mx s₀ t) : Kept mx s₀ (t.xchgLand data) :=
  Kept.ite h.mirrorOwe.mirrorFlush.updTwin h

theorem Kept.macCheck {ok : Bool} (h : Kept mx s₀ t) : Kept mx s₀ (t.macCheck ok).2 := by
  unfold State.macCheck
  split
  · exact h
  · split
    · dsimp only
      exact h.updTwin
    · exact Kept.ite h.bump.updTwin.linkLost.updTwin h.bump.updTwin

theorem Kept.putArgs {r : Nat → FRef} {l : List Nat} (h : Kept mx s₀ t) : Kept mx s₀ (t.putArgs r l) :=
  h.each (fun _ _ k => k.set)

theorem Kept.putPairs {l : List Nat} (h : Kept mx s₀ t) : Kept mx s₀ (State.putPairs l t) := by
  fun_induction State.putPairs l t with
  | case1 t a w l ih => exact ih (h.wr.when fun _ k => k.takeWide)
  | case2 => exact h

theorem Kept.runCmd {c : MirrorCmd} (h : Kept mx s₀ t) : Kept mx s₀ (t.runCmd c) := by
  unfold State.runCmd
  extract_lets +onlyGivenNames _
  split
  · exact h.putArgs.takeCmdLand
  · exact h.putArgs.putArgs.reqCmdLand
  · exact h.putArgs.mapCmdLand
  · exact h.putArgs.layCmdLand
  · exact h.putPairs.when (fun _ k => k.micaCommitLand)
  · exact h.reflattenLand
  · exact h.putPairs.flintGoLand
  · exact h.cnvLoad
  · exact h.cnvSwapLand
  · exact h.updTwin

theorem Kept.atTime {t' : Nat} {f : State → State} (h : Kept mx s₀ t) (hf : ∀ x0, Kept mx s₀ x0 → Kept mx s₀ (f x0)) :
    Kept mx s₀ (t.atTime t' f) :=
  (hf _ h.setTime96).setTime96

theorem Kept.mirrorIn {r : MirrorRec} (h : Kept mx s₀ t) : Kept mx s₀ (t.mirrorIn r) :=
  Kept.ite (Kept.ite ((((h.atTime (fun _ k => k.runCmd)).when (fun _ k => k.updJrp)).updTwin).sendTwin) (Kept.ite
      h.sendTwin h)) h

theorem Kept.mirrorAck {seq : Nat} (h : Kept mx s₀ t) : Kept mx s₀ (t.mirrorAck seq) := Kept.ite h.updTwin.set h

theorem Kept.mirrorAgain {seq : Nat} (h : Kept mx s₀ t) : Kept mx s₀ (t.mirrorAgain seq) := by
  unfold State.mirrorAgain
  split
  · exact Kept.ite h h.updTwin.sendTwin
  · exact h

theorem Kept.twinLatch {i : Nat} (h : Kept mx s₀ t) : Kept mx s₀ (t.twinLatch i) := by
  unfold State.twinLatch
  split
  · exact h
  · split
    · extract_lets +onlyGivenNames _ _ _ _ _ t1
      have h1 : Kept mx s₀ t1 := h.when (fun _ k => k.putSlots)
      extract_lets +onlyGivenNames t2
      have h2 : Kept mx s₀ t2 := h1.updFab
      extract_lets +onlyGivenNames t3
      have h3 : Kept mx s₀ t3 := h2.latchPoint
      extract_lets +onlyGivenNames t4
      have h4 : Kept mx s₀ t4 := h3.updFab
      extract_lets +onlyGivenNames t5
      have h5 : Kept mx s₀ t5 := h4.when (fun _ k => k.putSlots)
      split
      · exact Kept.ite h5.sendTwin h5
      · exact h5
    · exact h.latchPoint

theorem Kept.latchListed {x : LatchItem} (h : Kept mx s₀ t) : Kept mx s₀ (t.latchListed x) :=
  Kept.ite h (((h.updTwin.when (fun _ k => k.putSlots)).updFab).putSlots)

theorem Kept.closeSignatures (h : Kept mx s₀ t) : Kept mx s₀ t.closeSignatures := Kept.ite h.updTwin.sendTwin h.updTwin

theorem Kept.sendCopy (h : Kept mx s₀ t) : Kept mx s₀ t.sendCopy := h.updTwin.setFree.sendTwin

theorem Kept.cycleBoundary (h : Kept mx s₀ t) : Kept mx s₀ t.cycleBoundary := by
  unfold State.cycleBoundary
  split
  · exact h
  · extract_lets +onlyGivenNames _ t1
    have h1 : Kept mx s₀ t1 := h.closeSignatures.bump.updTwin
    split
    · exact Kept.ite h1.twinEnter.twinEvent.updTwin h1
    · exact h1
    · exact h1
    · exact Kept.ite h1 (Kept.ite ((((h1.when (fun _ k => k.twinEvent)).twinEnter).twinEvent).updTwin) ((h1.when
        (fun _ k => k.twinEvent)).sendCopy))

theorem Kept.copyAgain (h : Kept mx s₀ t) : Kept mx s₀ t.copyAgain := by
  unfold State.copyAgain
  split
  · exact Kept.ite h h.bump.updTwin.sendTwin
  · exact h

theorem Kept.copyIn {cycle mirSeq : Nat} {full : Bool} {items : List CopyItem} (h : Kept mx s₀ t) :
    Kept mx s₀ (t.copyIn cycle mirSeq full items) :=
  Kept.ite h (Kept.ite h.sendTwin (Kept.ite h (Kept.ite ((((((h.when (fun _ k => k.bump.twinEvent)).each (fun _ _ k =>
      k.applyItem)).set).updTwin).sendTwin).twinEnter) (((((h.when (fun _ k => k.bump.twinEvent)).each (fun _ _ k =>
      k.applyItem)).set).updTwin).sendTwin))))

theorem Kept.copyAck {cycle : Nat} (h : Kept mx s₀ t) : Kept mx s₀ (t.copyAck cycle) := by
  unfold State.copyAck
  split
  · exact Kept.ite (Kept.ite h.updTwin.set.twinEnter h.updTwin.set) h
  · exact h

theorem Kept.compareSigs {cycle : Nat} {sigs : List SigItem} (h : Kept mx s₀ t) : Kept mx s₀ (t.compareSigs cycle sigs) :=
  Kept.ite h (Kept.ite h.updTwin (h.updTwin.bump.set.twinEvent.when (fun _ k => k.lowerClaim)))

theorem Kept.supplyEdge {feed : Nat} {good : Bool} (h : Kept mx s₀ t) : Kept mx s₀ (t.supplyEdge feed good) :=
  Kept.ite h h.setB.twinEvent

theorem Kept.pmbusPoll {feed : Nat} {w : Option PmbusWords} (h : Kept mx s₀ t) : Kept mx s₀ (t.pmbusPoll feed w) := by
  unfold State.pmbusPoll
  extract_lets +onlyGivenNames _ _
  split
  · extract_lets +onlyGivenNames t1
    have h1 : Kept mx s₀ t1 := h.updTwin
    split
    · exact h1.bump.twinEvent
    · exact h1.set.set.set.set.set.set.when (fun _ k => k.twinEvent)
  · exact h

theorem Kept.lRecord {claim : Nat} {r : Nat × Bool} (h : Kept mx s₀ t) : Kept mx s₀ (t.lRecord claim r) :=
  Kept.ite h.macCheck.updLode h.macCheck

theorem Kept.twinService {n : Nat} {c : ServiceCell} (h : Kept mx s₀ t) : Kept mx s₀ (t.twinService n c) := by
  unfold State.twinService
  split
  · extract_lets +onlyGivenNames t1
    have h1 : Kept mx s₀ t1 := h.partnerReads
    split
    · exact h1.lRecord
    · exact h1
  · exact h

/-! ### Gbus -/

theorem Kept.updGbus {f : GbusState → GbusState} (h : Kept mx s₀ t) : Kept mx s₀ (t.updGbus f) :=
  Kept.same h rfl rfl rfl rfl rfl

theorem Kept.showMuted (h : Kept mx s₀ t) : Kept mx s₀ t.showMuted := h.setB

theorem Kept.gbusStart (h : Kept mx s₀ t) : Kept mx s₀ t.gbusStart := h.updGbus.set.showMuted.each (fun _ _ k => k.set.set)

theorem Kept.txgoLand {data : Word} (h : Kept mx s₀ t) : Kept mx s₀ (t.txgoLand data) := Kept.ite h.set h

theorem Kept.txIgnored (h : Kept mx s₀ t) : Kept mx s₀ t.txIgnored := h.set.gbusEvent

theorem Kept.gbusLatch (h : Kept mx s₀ t) : Kept mx s₀ t.gbusLatch :=
  Kept.ite h (Kept.ite h.updGbus (Kept.ite h.updGbus.set.bump h.updGbus.set.updGbus))

theorem Kept.ownErr {p : Nat} (h : Kept mx s₀ t) : Kept mx s₀ (t.ownErr p) := h.bump.gbusEvent

theorem Kept.repeatParts (h : Kept mx s₀ t) : Kept mx s₀ t.repeatParts :=
  Kept.ite h ((h.each (fun _ _ k => k.each (fun _ _ k => k.emit))).updJrp)

theorem Kept.gbusOwnSlot (h : Kept mx s₀ t) : Kept mx s₀ t.gbusOwnSlot :=
  Kept.ite h (Kept.ite ((((h.each (fun _ _ k => k.ownErr)).showMuted).repeatParts).updGbus) (((((h.each (fun _ _ k =>
      k.ownErr)).showMuted).repeatParts).updGbus).emit))

theorem Kept.showRxq (h : Kept mx s₀ t) : Kept mx s₀ t.showRxq := h.set.set64.set.each (fun _ _ k => k.set)

theorem Kept.popLand {data : Word} (h : Kept mx s₀ t) : Kept mx s₀ (t.popLand data) := Kept.ite h.updGbus.showRxq h

theorem Kept.frameDiscard {p slot : Nat} {f : GbusFrame} (h : Kept mx s₀ t) : Kept mx s₀ (t.frameDiscard p slot f) :=
  ((h.bump.when (fun _ k => k.gbusEvent)).when (fun _ k => k.gbusEvent)).when (fun _ k => k.ownErr.updGbus)

theorem Kept.judgeOffset {slot : Nat} {f : GbusFrame} (h : Kept mx s₀ t) : Kept mx s₀ (t.judgeOffset slot f) :=
  Kept.ite h.set.set.bump.gbusEvent h.set

theorem Kept.sysnumCheck {sys devid : Nat} (h : Kept mx s₀ t) : Kept mx s₀ (t.sysnumCheck sys devid) :=
  Kept.ite h.updChn.raise h

theorem Kept.partnerBeat {f : GbusFrame} (h : Kept mx s₀ t) : Kept mx s₀ (t.partnerBeat f) :=
  Kept.ite h.set64.updTwin.partnerReads h

theorem Kept.takeMessages {slot : Nat} {f : GbusFrame} (h : Kept mx s₀ t) : Kept mx s₀ (t.takeMessages slot f) :=
  Kept.ite h.notifyTallies.updGbus h

theorem Kept.frameUse {slot : Nat} {f : GbusFrame} (h : Kept mx s₀ t) : Kept mx s₀ (t.frameUse slot f) :=
  Kept.ite (((((((h.judgeOffset.when (fun _ k => k.set.gbusEvent)).set).set64).set).set).sysnumCheck).partnerBeat)
      (Kept.ite ((((((((((h.judgeOffset.when (fun _ k =>
      k.set.gbusEvent)).set).set64).set).set).sysnumCheck).partnerBeat).updGbus).showRxq).takeMessages)
      (((((((((h.judgeOffset.when (fun _ k =>
      k.set.gbusEvent)).set).set64).set).set).sysnumCheck).partnerBeat).set).gbusEvent))

theorem Kept.gbusFrame {p slot : Nat} {f : GbusFrame} (h : Kept mx s₀ t) : Kept mx s₀ (t.gbusFrame p slot f) :=
  Kept.ite h (Kept.ite h.frameDiscard (Kept.ite ((h.when (fun _ k => k.updGbus)).updGbus) ((((h.when (fun _ k =>
      k.updGbus)).updGbus).updGbus).frameUse)))

theorem Kept.slotMiss {slot : Nat} (h : Kept mx s₀ t) : Kept mx s₀ (t.slotMiss slot) :=
  Kept.ite h (Kept.ite h.bumpSat.set.gbusEvent h.bumpSat)

theorem Kept.setMute {on : Bool} (h : Kept mx s₀ t) : Kept mx s₀ (t.setMute on) := Kept.ite h h.updGbus.showMuted.gbusEvent

theorem Kept.terrLand {data : Word} (h : Kept mx s₀ t) : Kept mx s₀ (t.terrLand data) :=
  Kept.ite h.set.updGbus.setMute (Kept.ite h.set.updGbus.setMute h.set.updGbus)

theorem Kept.gbusStepped (h : Kept mx s₀ t) : Kept mx s₀ t.gbusStepped := Kept.ite h.updGbus.showMuted.bump.gbusEvent h

theorem Kept.terrTimeout (h : Kept mx s₀ t) : Kept mx s₀ t.terrTimeout := h.when (fun _ k => k.setMute)

theorem Kept.judgePair {p : Nat} {got other : List Nat} (h : Kept mx s₀ t) : Kept mx s₀ (t.judgePair p got other) :=
  Kept.ite h (Kept.ite (Kept.ite h.set.gbusEvent h) (Kept.ite h.set.gbusEvent h))

theorem Kept.pairWindow {gotA gotB : List Nat} (h : Kept mx s₀ t) : Kept mx s₀ (t.pairWindow gotA gotB) :=
  Kept.ite h h.updGbus.judgePair.judgePair

/-! ### Flt -/

theorem Kept.stopAlive (h : Kept mx s₀ t) : Kept mx s₀ t.stopAlive := Kept.ite h.set (Kept.ite h.set h)

theorem Kept.startAlive (h : Kept mx s₀ t) : Kept mx s₀ t.startAlive := Kept.ite h.fresh.updFlt.set h

theorem Kept.pinSample {a b : Bool} (h : Kept mx s₀ t) : Kept mx s₀ (t.pinSample a b) :=
  Kept.ite h (Kept.ite h.updFlt ((h.updFlt.setB.setB.when (fun _ k => k.raise)).when (fun _ k => k.raise)))

theorem Kept.pinTestLand {data : Word} (h : Kept mx s₀ t) : Kept mx s₀ (t.pinTestLand data) := h.set

theorem Kept.histPut {k : Nat} {e : Entered} (h : Kept mx s₀ t) : Kept mx s₀ (t.histPut k e) :=
  h.set.setB.set.set.set.set.set.set64.set.set.chkinvStruckAt

theorem Kept.histAdd {e : Entered} (h : Kept mx s₀ t) : Kept mx s₀ (t.histAdd e) :=
  ((h.histPut.when (fun _ k => k.histPut)).set).set

theorem Kept.histClear (h : Kept mx s₀ t) : Kept mx s₀ t.histClear := ((h.each (fun _ _ k => k.wr)).set).set

theorem Kept.logWrite {e : Entered} (h : Kept mx s₀ t) : Kept mx s₀ (t.logWrite e) := h.sramPut.set.set.notifyEvent

theorem Kept.occupy {e : Entered} {react : Nat} (h : Kept mx s₀ t) : Kept mx s₀ (t.occupy e react) := by
  unfold State.occupy
  exact h.set.set.set.set.set.updFlt

theorem Kept.freeSlot {k : Nat} (h : Kept mx s₀ t) : Kept mx s₀ (t.freeSlot k) := h.set.updFlt

theorem Kept.stepTarget {step : Nat} (h : Kept mx s₀ t) : Kept mx s₀ (t.stepTarget step) := by
  unfold State.stepTarget
  split
  · exact h.lowerClaim
  · exact h.imposeSafe
  · exact h.stopAlive

theorem Kept.stepLost {step : Nat} (h : Kept mx s₀ t) : Kept mx s₀ (t.stepLost step) := by
  unfold State.stepLost
  extract_lets +onlyGivenNames q1
  have h1 : Kept mx s₀ q1.2 := h.fresh
  split
  · exact h1
  · split
    · exact h1.lowerClaim
    · exact h1.imposeSafe.set
    · exact h1

theorem Kept.runSteps {noAck l : List Nat} (h : Kept mx s₀ t) : Kept mx s₀ (t.runSteps noAck l) := by
  induction l generalizing t with
  | nil => exact h
  | cons k ks ih => exact Kept.ite h.stepLost.updFlt (ih h.stepTarget)

theorem Kept.enterRecord {e : EntryErrors} {p : PendRec} (h : Kept mx s₀ t) : Kept mx s₀ (t.enterRecord e p) :=
  Kept.ite ((((h.updFlt.bump.when (fun _ k => k.set)).when (fun _ k => k.histAdd)).when (fun _ k => k.logWrite)).bump)
      (Kept.ite (((((h.updFlt.bump.when (fun _ k => k.set)).when (fun _ k => k.histAdd)).when (fun _ k =>
      k.logWrite)).occupy).runSteps) (((h.updFlt.bump.when (fun _ k => k.set)).when (fun _ k => k.histAdd)).when
      (fun _ k => k.logWrite)))

theorem Kept.enterNext {e : EntryErrors} (h : Kept mx s₀ t) : Kept mx s₀ (t.enterNext e) := by
  unfold State.enterNext
  split
  · exact h.enterRecord
  · exact h

theorem Kept.enterAll {n : Nat} (h : Kept mx s₀ t) : Kept mx s₀ (t.enterAll n) := by
  induction n generalizing t with
  | zero => exact h
  | succ n ih => exact ih h.enterNext

theorem Kept.ackTimeout (h : Kept mx s₀ t) : Kept mx s₀ t.ackTimeout := by
  unfold State.ackTimeout
  split
  · exact h
  · exact Kept.ite h h.updFlt.set.runSteps

theorem Kept.ackLand {k : Nat} {data : Word} (h : Kept mx s₀ t) : Kept mx s₀ (t.ackLand k data) := Kept.ite h.freeSlot h

theorem Kept.slotHeld {k : Nat} (h : Kept mx s₀ t) : Kept mx s₀ (t.slotHeld k) := by
  unfold State.slotHeld
  split
  · exact h
  · split
    · exact Kept.ite h h.updFlt.raise
    · exact h

theorem Kept.safeClrLand {data : Word} (h : Kept mx s₀ t) : Kept mx s₀ (t.safeClrLand data) := Kept.ite h.endSafe h

theorem Kept.histClrLand {data : Word} (h : Kept mx s₀ t) : Kept mx s₀ (t.histClrLand data) := h.when (fun _ k => k.histClear)

theorem Kept.fltSoftSlots (h : Kept mx s₀ t) : Kept mx s₀ t.fltSoftSlots := h.each (fun _ _ k => Kept.ite k.freeSlot k)

/-! ### Mgt -/

theorem Kept.disarm {m : Nat} (h : Kept mx s₀ t) : Kept mx s₀ (t.disarm m) := h.updMgt rfl

theorem Kept.unlockWrite {m : Nat} {data : Word} (h : Kept mx s₀ t) : Kept mx s₀ (t.unlockWrite m data) :=
  Kept.ite (h.updMgt rfl) h.disarm

theorem Kept.showWatchdog (h : Kept mx s₀ t) : Kept mx s₀ t.showWatchdog := h.set

theorem Kept.wdExpire (h : Kept mx s₀ t) : Kept mx s₀ t.wdExpire := Kept.ite h (((h.updMgt rfl).stopAlive).set)

theorem Kept.wdService {m : Nat} {key : Word} (h : Kept mx s₀ t) : Kept mx s₀ (t.wdService m key) :=
  Kept.ite (Kept.ite (Kept.ite h ((h.updMgt rfl).showWatchdog)) h.raise) (Kept.ite h.wdExpire h)

theorem Kept.judgeSensor {sensor value : Nat} (h : Kept mx s₀ t) : Kept mx s₀ (t.judgeSensor sensor value) :=
  Kept.ite ((h.updMgt rfl).raise) (Kept.ite (h.updMgt rfl) h)

theorem Kept.putConv {volt : Bool} {c : SnsConv} (h : Kept mx s₀ t) : Kept mx s₀ (t.putConv volt c) :=
  h.updMgt (by split <;> rfl) fun _ => by
    unfold State.updMgt
    split <;> exact ⟨rfl, rfl, rfl, rfl⟩

theorem Kept.sensorDone {volt : Bool} {value : Nat} {fault : Bool} (h : Kept mx s₀ t) :
    Kept mx s₀ (t.sensorDone volt value fault) := by
  unfold State.sensorDone
  split
  · exact h
  · split
    · exact h
    · exact Kept.ite ((h.putConv.set.when (fun _ k => k.set.set.updMgt rfl)).raise) ((h.putConv.set.when (fun _ k =>
        k.set.set.updMgt rfl)).judgeSensor)

theorem Kept.trigLand {data : Word} (h : Kept mx s₀ t) : Kept mx s₀ (t.trigLand data) :=
  Kept.ite h (Kept.ite h.set.raiseLimited (h.updMgt rfl))

theorem Kept.dmaEnd {k code : Nat} (h : Kept mx s₀ t) : Kept mx s₀ (t.dmaEnd k code) := h.set.set.set.raise

theorem Kept.dmaGoLand {k : Nat} {data : Word} (h : Kept mx s₀ t) : Kept mx s₀ (t.dmaGoLand k data) :=
  Kept.ite h (Kept.ite h.dmaEnd (Kept.ite h.dmaEnd h.set))

/-! ### LaneRx -/

theorem Kept.laneFollow {n : Nat} (h : Kept mx s₀ t) : Kept mx s₀ (t.laneFollow n) :=
  Kept.ite h (Kept.ite h.disqualify (Kept.ite (h.each (fun _ _ k => k.ethLost)) (Kept.ite (h.when (fun _ k =>
      k.twinDown)) h)))

theorem Kept.laneEvent {n : Nat} {f : State → State} (h : Kept mx s₀ t) (hf : ∀ x0, Kept mx s₀ x0 → Kept mx s₀ (f x0)) :
    Kept mx s₀ (t.laneEvent n f) :=
  Kept.ite ((hf _ h).laneFollow) (hf _ h)

/-! ### Keys -/

theorem Kept.updFlash {f : Flash → Flash} (h : Kept mx s₀ t) : Kept mx s₀ (t.updFlash f) := Kept.same h rfl rfl rfl rfl rfl

theorem Kept.updKey {f : KeyState → KeyState} (h : Kept mx s₀ t) : Kept mx s₀ (t.updKey f) := Kept.same h rfl rfl rfl rfl rfl

theorem Kept.journalAdd {type sector count ref reason result record : Nat} (h : Kept mx s₀ t) :
    Kept mx s₀ (t.journalAdd type sector count ref reason result record) :=
  Kept.ite h.updFlash h.updFlash.emit

theorem Kept.eraseUnder {sector count : Nat} (h : Kept mx s₀ t) : Kept mx s₀ (t.eraseUnder sector count) :=
  h.journalAdd.emit.journalAdd

theorem Kept.showKey (h : Kept mx s₀ t) : Kept mx s₀ t.showKey := h.set.set.set.set.setB.setB.setB

/-- A fuse is blown: `f` restores none. -/
theorem Kept.blow {f : Fuses → Fuses} {code : Nat} (h : Kept mx s₀ t) (h0 : t.fuses.lcf0 = true → (f t.fuses).lcf0 = true)
    (h1 : t.fuses.lcf1 = true → (f t.fuses).lcf1 = true) (h2 : t.fuses.idgen = true → (f t.fuses).idgen = true) :
    Kept mx s₀ (t.blow f code) := by
  have hb : Kept mx s₀ { t with fuses := f t.fuses } :=
    ⟨h.pending, ⟨h0 ∘ h.fuses.1, h1 ∘ h.fuses.2.1, h2 ∘ h.fuses.2.2⟩,
      fun hs => ⟨(h.sound hs).regs, (h.sound hs).mem⟩, fun e => (h.matrix e).trans ⟨rfl, rfl, rfl, rfl⟩⟩
  exact Kept.ite h hb.raise.showKey

theorem Kept.presenceEdge (h : Kept mx s₀ t) : Kept mx s₀ t.presenceEdge := h.updKey.set.set

theorem Kept.presencePress (h : Kept mx s₀ t) : Kept mx s₀ t.presencePress :=
  Kept.ite h (Kept.ite h.set.updKey.presenceEdge.raise h.set.updKey)

theorem Kept.presenceRelease (h : Kept mx s₀ t) : Kept mx s₀ t.presenceRelease := Kept.ite h.set.updKey.updKey h.set.updKey

theorem Kept.windowExpire (h : Kept mx s₀ t) : Kept mx s₀ t.windowExpire := Kept.ite h h.updKey.set.set

theorem Kept.sealOpen (h : Kept mx s₀ t) : Kept mx s₀ t.sealOpen := Kept.ite h.set.presenceEdge.raise.raise h

theorem Kept.sealClosed (h : Kept mx s₀ t) : Kept mx s₀ t.sealClosed := Kept.ite h.set h

theorem Kept.eraseBlob (h : Kept mx s₀ t) : Kept mx s₀ t.eraseBlob := h.eraseUnder.updFlash.showKey.set

theorem Kept.tapJudge (h : Kept mx s₀ t) : Kept mx s₀ t.tapJudge := h.updKey

theorem Kept.lcWrite {target : Nat} (h : Kept mx s₀ t) : Kept mx s₀ (t.lcWrite target) := by
  unfold State.lcWrite
  extract_lets +onlyGivenNames t1
  have h1 : Kept mx s₀ t1 :=
    Kept.ite (h.blow (fun _ => rfl) id id) (Kept.ite (h.blow id (fun _ => rfl) id) h)
  exact ((h1.eraseUnder.updFlash.set.set.when fun _ k => k.eraseBlob).when fun _ k => k.set).tapJudge.raise

theorem Kept.keyResult {code : Nat} (h : Kept mx s₀ t) : Kept mx s₀ (t.keyResult code) := h.set.set

theorem Kept.opLcChange {target : Nat} (h : Kept mx s₀ t) : Kept mx s₀ (t.opLcChange target) :=
  Kept.ite h.keyResult (Kept.ite h.lcWrite.keyResult h.raise.keyResult)

theorem Kept.recoveryHold (h : Kept mx s₀ t) : Kept mx s₀ t.recoveryHold := Kept.ite h.lcWrite.set h

theorem Kept.putKeyMsg {l : List Byte} (h : Kept mx s₀ t) : Kept mx s₀ (t.putKeyMsg l) := h.each (fun _ _ k => k.set)

theorem Kept.opKeyMsg {signer : Option Nat} (h : Kept mx s₀ t) : Kept mx s₀ (t.opKeyMsg signer) :=
  Kept.ite h.keyResult (Kept.ite h.updFlash.showKey.raise.keyResult h.raise.keyResult)

theorem Kept.opAttest (h : Kept mx s₀ t) : Kept mx s₀ t.opAttest := Kept.ite h.keyResult h.putKeyMsg.keyResult

theorem Kept.keyCmd {op arg : Nat} {signer : Option Nat} (h : Kept mx s₀ t) : Kept mx s₀ (t.keyCmd op arg signer) := by
  unfold State.keyCmd
  extract_lets +onlyGivenNames t1
  have h1 : Kept mx s₀ t1 := h.set
  split
  · exact h1.opLcChange
  · exact h1.opKeyMsg
  · exact h1.opAttest
  · exact h1.keyResult

theorem Kept.keyCmdLand {data : Word} (h : Kept mx s₀ t) : Kept mx s₀ (t.keyCmdLand data) := h.keyCmd

/-! ### Update -/

theorem Kept.updUpd {f : UpdState → UpdState} (h : Kept mx s₀ t) : Kept mx s₀ (t.updUpd f) := Kept.same h rfl rfl rfl rfl rfl

theorem Kept.putHdr {k : Nat} {h' : BootHdr} (h : Kept mx s₀ t) : Kept mx s₀ (t.putHdr k h') := h.updFlash

theorem Kept.showUpd (h : Kept mx s₀ t) : Kept mx s₀ t.showUpd := by
  unfold State.showUpd
  extract_lets +onlyGivenNames t1
  have h1 : Kept mx s₀ t1 := by
    unfold t1
    split
    · exact h.set.set.set.set.setB.set
    · exact h
  extract_lets +onlyGivenNames t2
  have h2 : Kept mx s₀ t2 := h1.set64
  split
  · exact h2.set64
  · exact h2

theorem Kept.killHdr {k : Nat} (h : Kept mx s₀ t) : Kept mx s₀ (t.killHdr k) := by
  unfold State.killHdr
  split
  · exact h.putHdr
  · exact h

theorem Kept.findTrial (h : Kept mx s₀ t) : Kept mx s₀ t.findTrial := by
  unfold State.findTrial
  extract_lets +onlyGivenNames _
  split
  · exact Kept.ite h.raise.killHdr h
  · exact h

theorem Kept.bootHdr (h : Kept mx s₀ t) : Kept mx s₀ t.bootHdr := by
  unfold State.bootHdr
  extract_lets +onlyGivenNames _
  split
  · exact h.stopAlive.updUpd
  · split
    · exact h
    · exact Kept.ite h.putHdr.updUpd.findTrial.showUpd.raise.set.updFlash h.putHdr.updUpd.findTrial.showUpd

theorem Kept.eraseSector {n : Nat} (h : Kept mx s₀ t) : Kept mx s₀ (t.eraseSector n) := h.updFlash

theorem Kept.flashRecovered {n : Nat} (h : Kept mx s₀ t) : Kept mx s₀ (t.flashRecovered n) := h.raise

theorem Kept.closeIntents (h : Kept mx s₀ t) : Kept mx s₀ t.closeIntents :=
  h.each (fun _ _ k => (k.each (fun _ _ k => k.eraseSector.emit.flashRecovered)).journalAdd)

theorem Kept.repairHeaders (h : Kept mx s₀ t) : Kept mx s₀ t.repairHeaders :=
  h.each (fun _ _ k => k.eraseUnder.eraseSector.flashRecovered)

theorem Kept.repairFlash (h : Kept mx s₀ t) : Kept mx s₀ t.repairFlash :=
  h.closeIntents.repairHeaders.when (fun _ k => k.eraseBlob)

theorem Kept.updResult {code : Nat} (h : Kept mx s₀ t) : Kept mx s₀ (t.updResult code) := h.set.set

theorem Kept.opBegin (h : Kept mx s₀ t) : Kept mx s₀ t.opBegin :=
  Kept.ite h.updResult (Kept.ite h.updResult (((((h.when (fun _ k => k.eraseUnder.eraseSector)).when (fun _ k =>
      k.eraseUnder.eraseSector)).updUpd).set).updResult))

theorem Kept.stageBytes {toFw : Bool} {at_ : Nat} {l : List Byte} (h : Kept mx s₀ t) : Kept mx s₀ (t.stageBytes toFw at_ l) :=
  h.updFlash

theorem Kept.stageSource {len : Nat} (h : Kept mx s₀ t) : Kept mx s₀ (t.stageSource len).2 := by
  unfold State.stageSource
  extract_lets +onlyGivenNames _
  split
  · split
    · exact h.dramRead
    · exact h
  · exact h

theorem Kept.opWrite (h : Kept mx s₀ t) : Kept mx s₀ t.opWrite := by
  unfold State.opWrite
  extract_lets +onlyGivenNames _ _ _
  split
  · exact h.updResult
  · split
    · rename_i t1 e1
      exact (((Kept.snd_eq e1 h.stageSource)).stageBytes).updResult
    · rename_i t1 e1
      exact (((Kept.snd_eq e1 h.stageSource)).raise).updResult

theorem Kept.keepStaged {r : StageRead} (h : Kept mx s₀ t) : Kept mx s₀ (t.keepStaged r) := by
  unfold State.keepStaged
  extract_lets +onlyGivenNames t1
  have h1 : Kept mx s₀ t1 := h.updUpd
  extract_lets +onlyGivenNames t2
  have h2 : Kept mx s₀ t2 := h1.when (fun _ k => k.updFlash)
  split
  · exact h2.updFlash
  · exact h2

theorem Kept.opVerify {r : StageRead} (h : Kept mx s₀ t) : Kept mx s₀ (t.opVerify r) :=
  Kept.ite h.updResult (Kept.ite h.keepStaged.set.raise.updResult ((((h.when (fun _ k =>
      k.raise)).raise).set).updResult))

theorem Kept.opUpdCommit (h : Kept mx s₀ t) : Kept mx s₀ t.opUpdCommit.1 := by
  unfold State.opUpdCommit
  extract_lets +onlyGivenNames _
  split
  · exact h.updResult
  · exact h.set.eraseUnder.putHdr.raise.updResult

theorem Kept.opConfirm (h : Kept mx s₀ t) : Kept mx s₀ t.opConfirm := by
  unfold State.opConfirm
  split
  · split
    · exact (h.putHdr.updUpd.updFlash.each fun _ _ k => k.blow id id id).showUpd.set.raise.updResult
    · exact h.updResult
  · exact h.updResult

theorem Kept.opUpdAbort (h : Kept mx s₀ t) : Kept mx s₀ t.opUpdAbort := h.updUpd.set.updResult

theorem Kept.trialExpire (h : Kept mx s₀ t) : Kept mx s₀ t.trialExpire.1 := by
  unfold State.trialExpire
  split
  · split
    · dsimp only
      exact h.killHdr.raise
    · exact h
  · exact h

theorem Kept.updCmd {op : Nat} {read : StageRead} (h : Kept mx s₀ t) : Kept mx s₀ (t.updCmd op read).1 := by
  unfold State.updCmd
  extract_lets +onlyGivenNames t1
  have h1 : Kept mx s₀ t1 := h.set
  split
  · exact h1.opBegin
  · exact h1.opWrite
  · exact h1.opVerify
  · exact h1.opUpdCommit
  · exact h1.opConfirm
  · exact h1.opUpdAbort
  · exact h1.updResult

/-! ### SoftReset -/

theorem Kept.takeRwd {b : Blk} {cap : List (Nat × Word)} (h : Kept mx s₀ t) : Kept mx s₀ (t.takeRwd b cap) :=
  Kept.same h rfl rfl rfl rfl rfl

theorem Kept.runs {b : Blk} (h : Kept mx s₀ t) : Kept mx s₀ (t.runs b) := h.set

theorem Kept.startBlock {b : Blk} {cap : List (Nat × Word)} (h : Kept mx s₀ t) : Kept mx s₀ (t.startBlock b cap) := by
  unfold State.startBlock
  extract_lets +onlyGivenNames _ t1
  have h1 : Kept mx s₀ t1 := h.takeRwd
  split
  · exact h1.runs.lodeStart
  · exact h1
  · exact h1.dramStart
  · exact Kept.ite h1.audStart.runs (Kept.same h1.audStart rfl rfl rfl rfl rfl)
  · exact h1.aprtStart.setB
  · exact h1.laneStart
  · exact h1.quadStart
  · exact h1.scanStart
  · exact h1.runs.ethStart
  · exact Kept.ite h1.set.runs.gbusStart h1.set.set.gbusEvent
  · exact h1.runs.twinStart
  · exact h1.runs.igmpStart
  · exact h1.runs
  · exact h1.runs
  · exact h1.runs
  · exact h1.runs
  · exact h1.runs
  · exact h1.runs
  · exact h1.runs
  · exact h1.runs
  · exact h1.runs
  · exact h1.runs
  · exact h1.runs
  · exact h1.runs
  · exact h1.runs
  · exact h1.runs
  · exact h1.runs

theorem Kept.stopBlock {b : Blk} (h : Kept mx s₀ t) : Kept mx s₀ (t.stopBlock b) := by
  unfold State.stopBlock
  split
  · exact h.set.lodeStop
  · exact h.dramStop
  · exact h.set.aprtStop
  · exact h.laneStop.laneFollow
  · exact h.quadStop.quadStopCreate.each (fun _ _ k => k.laneFollow)
  · exact h.set.scanStop
  · exact (h.set.ethStop.when (fun _ k => k.portLegsDown)).when (fun _ k => k.showPaused)
  · exact h.set.twinStop
  · exact h.cnvStop
  · exact h.micaStop
  · exact h.toSearch.set
  · exact (h.each (fun _ _ k => k.toSearch)).set
  · exact h.set
  · exact h.set
  · exact h.set
  · exact h.set
  · exact h.set
  · exact h.set
  · exact h.set
  · exact h.set
  · exact h.set
  · exact h.set
  · exact h.set
  · exact h.set
  · exact h.set
  · exact h.set
  · exact h.set

theorem Kept.softRegs {held : Bool} {b : Blk} {chosen : Nat → Bool} (h : Kept mx s₀ t) :
    Kept mx s₀ (t.softRegs held b chosen) :=
  Kept.same (h.each (fun _ _ k => k.wr)) rfl rfl rfl rfl rfl

theorem Kept.softHidden {b : Blk} (h : Kept mx s₀ t) : Kept mx s₀ (t.softHidden b) := by
  unfold State.softHidden
  split
  · exact h.fltSoftSlots
  · exact h.updTime
  · exact h.updLode
  · exact Kept.same h rfl rfl rfl rfl rfl
  · exact h.updRx
  · exact h.updEth
  · exact Kept.same h rfl rfl rfl rfl rfl
  · exact h.updAprt
  · exact h.updCnv
  · exact h.dropBind.updMica
  · exact h.updDec
  · exact h.updScan
  · exact h.updLane.when (fun _ k => k.laneCause)
  · exact Kept.same h rfl rfl rfl rfl rfl
  · exact h.freshLink
  · exact h.updMgt rfl
  · exact h.updMgt rfl
  · exact h
  · exact h
  · exact h
  · exact h
  · exact h
  · exact h
  · exact h
  · exact h
  · exact h
  · exact h

theorem Kept.softHeld {b : Blk} (h : Kept mx s₀ t) : Kept mx s₀ (t.softHeld b) := h.softRegs.updMgt rfl

theorem Kept.softReset {b : Blk} (h : Kept mx s₀ t) : Kept mx s₀ (t.softReset b) := h.softRegs.softHidden

theorem Kept.softRest {b : Blk} (h : Kept mx s₀ t) : Kept mx s₀ (t.softRest b) := h.softRegs

/-! ### Land -/

theorem Kept.landStore {r : RegDef} {addr : Nat} {data : Word} (h : Kept mx s₀ t) : Kept mx s₀ (t.landStore r addr data) :=
  h.wr.when (fun _ k => k.takeWide)

theorem Kept.mirrored {busy : Bool} {box engine op : Nat} {args : List Nat} {peer : Nat} {f : State → State} (h : Kept
    mx s₀ t) (hf : ∀ x0, Kept mx s₀ x0 → Kept mx s₀ (f x0)) :
    Kept mx s₀ (t.mirrored busy box engine op args peer f) :=
  Kept.ite (hf _ h) ((hf _ h.mirrorOwe).mirrorFlush)

theorem Kept.takeBox {data : Word} (h : Kept mx s₀ t) : Kept mx s₀ (t.takeBox data) := h.mirrored (fun _ k => k.takeCmdLand)

theorem Kept.takeBoxHeld {data : Word} (h : Kept mx s₀ t) : Kept mx s₀ (t.takeBoxHeld data) :=
  Kept.ite h.takeBox h.takeBox.set.set

theorem Kept.chnBox {m : Nat} {data : Word} (h : Kept mx s₀ t) : Kept mx s₀ (t.chnBox m data) :=
  Kept.ite h.reqCmdLand (h.mirrored (fun _ k => k.reqCmdLand))

theorem Kept.mapBox {data : Word} (h : Kept mx s₀ t) : Kept mx s₀ (t.mapBox data) := h.mirrored (fun _ k => k.mapCmdLand)

theorem Kept.mapBoxHeld {data : Word} (h : Kept mx s₀ t) : Kept mx s₀ (t.mapBoxHeld data) :=
  Kept.ite h.mapBox h.mapBox.set.set

theorem Kept.endBoxes (h : Kept mx s₀ t) : Kept mx s₀ t.endBoxes :=
  (h.when (fun _ k => k.set.set)).when (fun _ k => k.set.set)

theorem Kept.layBox {g : Nat} {data : Word} (h : Kept mx s₀ t) : Kept mx s₀ (t.layBox g data) :=
  h.mirrored (fun _ k => k.layCmdLand)

theorem Kept.commitBox {g : Nat} {data : Word} (h : Kept mx s₀ t) : Kept mx s₀ (t.commitBox g data) :=
  Kept.ite (h.mirrored (fun _ k => k.micaCommitLand)) h.micaCommitLand

theorem Kept.reflattenBox {g : Nat} {data : Word} (h : Kept mx s₀ t) : Kept mx s₀ (t.reflattenBox g data) :=
  Kept.ite (h.mirrored (fun _ k => k.reflattenLand)) h.reflattenLand

theorem Kept.flintBox {g : Nat} {data : Word} (h : Kept mx s₀ t) : Kept mx s₀ (t.flintBox g data) :=
  Kept.ite (h.mirrored (fun _ k => k.flintGoLand)) h.flintGoLand

theorem Kept.updCmdLand {data : Word} (h : Kept mx s₀ t) : Kept mx s₀ (t.updCmdLand data) :=
  h.updCmd.when (fun _ k => k.updUpd)

theorem Kept.landSpecial {m : Nat} {b : Blk} {o i : Nat} {data : Word} (h : Kept mx s₀ t) :
    Kept mx s₀ ((t.landSpecial m b o i data).getD t) := by
  unfold State.landSpecial
  split
  · split
    · exact h.histClrLand
    · split
      · exact h.safeClrLand
      · split
        · exact h.ackLand
        · exact h
  · split
    · exact h.incrHiLand
    · split
      · dsimp only [Option.getD_some]
        exact h.updTime
      · split
        · exact h.stepHiLand
        · split
          · exact h.when (fun _ k => k.updTime)
          · split
            · dsimp only [Option.getD_some]
              exact h.updTime
            · split
              · exact h.offHiLand
              · split
                · exact (h.when (fun _ k => k.set)).when (fun _ k => k.txqPopLand)
                · exact h
  · split
    · exact h.ptpstatLand
    · split
      · exact h.loopStepLand
      · split
        · exact h.planeStepLand
        · exact h
  · split
    · exact h.takeBoxHeld
    · split
      · exact h.when (fun _ k => k.tcqPop)
      · exact h
  · split
    · exact h.lowmarkLand
    · split
      · exact h.chnBox
      · exact h
  · split
    · exact h.outclrLand
    · exact h
  · split
    · exact h.txKickLand
    · split
      · exact h.statSnapLand
      · exact h
  · split
    · exact h.mapBoxHeld
    · exact h
  · split
    · exact h.lutIgn
    · split
      · exact h.cnvLutWrite
      · split
        · exact h.cnvSwapLand
        · exact h
  · split
    · exact h.commitBox
    · split
      · exact h.reflattenBox
      · split
        · exact h.micaLutWrite
        · split
          · exact h.layBox
          · exact h
  · split
    · exact h.when (fun _ k => k.psrExit)
    · split
      · exact h.flipLand
      · split
        · exact h.auxCmdLand
        · exact h
  · split
    · exact h.txeqLand
    · exact h
  · split
    · exact h.terrLand
    · split
      · exact h.txIgnored
      · split
        · exact h.txgoLand
        · split
          · exact h.popLand
          · exact h
  · split
    · exact h.xchgLand
    · split
      · exact h.recoverLand
      · exact h
  · split
    · exact h.unlockWrite
    · split
      · exact h.wdService
      · split
        · exact h.dmaGoLand
        · exact h
  · split
    · exact h.trigLand
    · exact h
  · split
    · exact h.keyCmdLand
    · exact h
  · split
    · exact h.updCmdLand
    · exact h
  · exact h
  · exact h
  · exact h
  · exact h
  · exact h
  · exact h
  · exact h
  · exact h
  · exact h

theorem Kept.landAfter {b : Blk} {o : Nat} (h : Kept mx s₀ t) : Kept mx s₀ (t.landAfter b o) := by
  unfold State.landAfter
  split
  · exact (h.when (fun _ k => k.setB)).when (fun _ k => k.reselect)
  · exact h.when (fun _ k => k.updMica)
  · exact h.when (fun _ k => k.eqLand)
  · exact h

theorem Kept.raiseEn {b : Blk} {cap : List (Nat × Word)} (h : Kept mx s₀ t) : Kept mx s₀ (t.raiseEn b cap) :=
  Kept.ite (Kept.same h rfl rfl rfl rfl rfl) h.startBlock

theorem Kept.lowerEn {b : Blk} (h : Kept mx s₀ t) : Kept mx s₀ (t.lowerEn b) :=
  Kept.ite (Kept.when (Kept.same h rfl rfl rfl rfl rfl) (fun _ k => k.scanStop)) (Kept.stopBlock (Kept.when (Kept.same
      h rfl rfl rfl rfl rfl) (fun _ k => k.scanStop)))

theorem Kept.landWrite {l : Landing} (h : Kept mx s₀ t) : Kept mx s₀ (t.landWrite l) := by
  unfold State.landWrite
  split
  · exact h
  · extract_lets +onlyGivenNames t1
    have h1 : Kept mx s₀ t1 := h.when (fun _ k => k.softReset)
    extract_lets +onlyGivenNames t2
    have h2 : Kept mx s₀ t2 := by
      unfold t2
      split
      · rename_i t3 e3
        exact (Kept.getD_eq e3 h1.landSpecial)
      · exact h1.landStore.landAfter
    exact (h2.when (fun _ k => k.raiseEn)).when (fun _ k => k.lowerEn)

theorem Kept.showWpend {b : Blk} (h : Kept mx s₀ t) : Kept mx s₀ (t.showWpend b) := h.setB

theorem Kept.landOldest {b : Blk} (h : Kept mx s₀ t) : Kept mx s₀ (t.landOldest b) := by
  unfold State.landOldest
  split
  · exact h
  · exact Kept.showWpend (Kept.ite (Kept.softRest (Kept.same h rfl rfl rfl rfl rfl)) (Kept.landWrite (Kept.same h rfl
      rfl rfl rfl rfl)))

theorem Kept.landAll {b : Blk} (h : Kept mx s₀ t) : Kept mx s₀ (t.landAll b) := h.each (fun _ _ k => k.landOldest)

theorem Kept.stopDone {b : Blk} (h : Kept mx s₀ t) : Kept mx s₀ (t.stopDone b) := Kept.ite h.stopBlock h

theorem Kept.restartBlocks (h : Kept mx s₀ t) : Kept mx s₀ t.restartBlocks := by
  unfold State.restartBlocks
  refine Kept.each h (fun _ _ k1 => ?_)
  split
  · exact Kept.ite k1 (Kept.startBlock (Kept.same k1 rfl rfl rfl rfl rfl))
  · exact k1

theorem Kept.outWrite {m e : Nat} {data : Word} (h : Kept mx s₀ t) : Kept mx s₀ (t.outWrite m e data) :=
  Kept.ite h ((((Kept.ite h.safeRefuse h.set).set).chkinvStruckAt).handover)

theorem Kept.drcChkinvWrite {data : Word} (h : Kept mx s₀ t) : Kept mx s₀ (t.drcChkinvWrite data) :=
  Kept.ite h.drccCause h.set.setB

theorem Kept.heldSpecial {m : Nat} {b : Blk} {o i : Nat} {data : Word} (h : Kept mx s₀ t) :
    Kept mx s₀ ((t.heldSpecial m b o i data).getD t) := by
  unfold State.heldSpecial
  split
  · split
    · exact h.pinTestLand
    · exact h
  · split
    · exact h.chkinvLand
    · split
      · exact h.tokinjLand
      · split
        · exact h.outWrite
        · exact h
  · split
    · exact h.flintBox
    · exact h
  · split
    · exact h.drcChkinvWrite
    · exact h
  · exact h

theorem Kept.heldAfter {b : Blk} {o old : Nat} (h : Kept mx s₀ t) : Kept mx s₀ (t.heldAfter b o old) := by
  unfold State.heldAfter
  split
  · exact h.when (fun _ k => k.timeModeChanged)
  · exact (h.when (fun _ k => k.fitPlls)).when (fun _ k => k.laneDeepLand)
  · exact h.when (fun _ k => k.quadDeepLand)
  · exact h

theorem Kept.acceptWrite {m addr : Nat} {data : Word} {unl : Bool} {b : Blk} {r : RegDef} {i : Nat} (h : Kept mx s₀ t) :
    Kept mx s₀ (t.acceptWrite m addr data unl b r i) := by
  unfold State.acceptWrite
  extract_lets +onlyGivenNames en old d
  clear_value en old d
  refine Kept.ite h.laneCfgDiscard (Kept.ite h.cfgIgnored ?_)
  extract_lets +onlyGivenNames t1 t2 srst t3 t4
  have h4 : Kept mx s₀ t4 :=
    (((h.when fun _ k => k.cfgIgnored).when fun _ k => k.lockIgnored).when fun _ k => k.set).when fun _ k => k.softHeld
  clear_value t4
  have held (d' : Nat) : Kept mx s₀
      (match if unl then t4.heldSpecial m b r.off i data else none with
      | some t => t
      | none =>
          let w := State.heldWord b r en unl (t4.rd addr).toNat d'
          let s := if w = (t4.rd addr).toNat then t4 else (t4.wr addr (BitVec.ofNat 32 w)).heldAfter b r.off old
          s.when (State.wideAt addr && r.flds.any fun f => (f.acc == Acc.rwd && !en) || (f.acc == Acc.rwl && unl))
            (State.takeWide (addr - 4))) := by
    split
    · rename_i u e
      split at e
      · exact Kept.getD_eq e h4.heldSpecial
      · cases e
    · exact (Kept.ite h4 h4.wr.heldAfter).when fun _ k => k.takeWide
  exact Kept.ite (held _).landWrite (Kept.when (Kept.set (Kept.same (held _) rfl rfl rfl rfl rfl)) fun _ k => k.showStepPend)

/-! ### Bus -/

theorem Kept.decodeErr {m addr : Nat} (h : Kept mx s₀ t) : Kept mx s₀ (t.decodeErr m addr).2 := by
  unfold State.decodeErr
  dsimp only
  exact h.set.raise

theorem Kept.alignErr {m addr : Nat} (h : Kept mx s₀ t) : Kept mx s₀ (t.alignErr m addr).2 := by
  unfold State.alignErr
  dsimp only
  exact h.set.raise

theorem Kept.dataErr {m addr : Nat} (h : Kept mx s₀ t) : Kept mx s₀ (t.dataErr m addr).2 := h.when (fun _ k => k.raise)

theorem Kept.lockErr {m addr : Nat} (h : Kept mx s₀ t) : Kept mx s₀ (t.lockErr m addr).2 := by
  unfold State.lockErr
  dsimp only
  exact h.set.bump.raise

theorem Kept.protErr {addr : Nat} (h : Kept mx s₀ t) : Kept mx s₀ (t.protErr addr).2 := by
  unfold State.protErr
  dsimp only
  exact h.set.raise

theorem Kept.dramPut {m a addr : Nat} {l : List Byte} (h : Kept mx s₀ t) : Kept mx s₀ (t.dramPut m a addr l).2 := by
  unfold State.dramPut
  split
  · exact h.decodeErr
  · split
    · exact h.dataErr
    · exact h.dramWrite

theorem Kept.writeAt {m addr size : Nat} {data : Word} {unl : Bool} (h : Kept mx s₀ t) :
    Kept mx s₀ (t.writeAt m addr size data unl).2 := by
  unfold State.writeAt
  split
  · exact h.decodeErr
  · split
    · exact h.decodeErr
    · exact h.sramPut
  · split
    · exact h.decodeErr
    · exact h
  · split
    · exact h.decodeErr
    · split
      · exact h.protErr
      · exact h.dramPut
  · split
    · exact h.alignErr
    · split
      · exact h.decodeErr
      · split
        · exact h.protErr
        · exact h.acceptWrite

theorem Kept.sramRead {m addr off n : Nat} (h : Kept mx s₀ t) : Kept mx s₀ (t.sramRead m addr off n).2.2 := by
  unfold State.sramRead
  extract_lets +onlyGivenNames q1
  have h1 : Kept mx s₀ q1.2 := h.wordBad
  extract_lets +onlyGivenNames _
  split
  · exact h1
  · split
    · exact h1.sramCor
    · exact h1.sramUnc.dataErr

theorem Kept.dramGet {m a addr n : Nat} (h : Kept mx s₀ t) : Kept mx s₀ (t.dramGet m a addr n).2.2 := by
  unfold State.dramGet
  split
  · exact h.decodeErr
  · split
    · exact h.dataErr
    · split
      · rename_i t1 e1
        exact (Kept.snd_eq e1 h.dramRead)
      · rename_i t1 e1
        exact ((Kept.snd_eq e1 h.dramRead)).dataErr

theorem Kept.readAt {m addr size : Nat} (h : Kept mx s₀ t) : Kept mx s₀ (t.readAt m addr size).2.2 := by
  unfold State.readAt
  split
  · exact h.decodeErr
  · split
    · exact h.decodeErr
    · exact h.sramRead
  · split
    · exact h.decodeErr
    · exact h
  · exact h.dramGet
  · split
    · exact h.alignErr
    · split
      · exact h.decodeErr
      · split
        · exact h.cnvLutRead
        · split
          · exact h.micaLutRead
          · split
            · exact h.tableRead
            · exact h

theorem Kept.answer {m : Nat} {x : BusResp} (h : Kept mx s₀ t) : Kept mx s₀ (t.answer m x) :=
  h.updMgt (by dsimp only; split <;> rfl) fun _ => by
    unfold State.updMgt
    split <;> exact ⟨rfl, rfl, rfl, rfl⟩

theorem Kept.perform {op : BusOp} (h : Kept mx s₀ t) : Kept mx s₀ (t.perform op) := Kept.ite h.writeAt.answer h.readAt.answer

theorem Kept.refuseLocked {op : BusOp} (h : Kept mx s₀ t) : Kept mx s₀ (t.refuseLocked op) := h.lockErr.answer

theorem Kept.showOut {m : Nat} (h : Kept mx s₀ t) : Kept mx s₀ (t.showOut m) := h.set

theorem Kept.unlockBus {m : Nat} (h : Kept false s₀ t) : Kept false s₀ (t.unlockBus m) := h.updMgt rfl nofun

theorem Kept.issue {op : BusOp} (h : Kept false s₀ t) : Kept false s₀ (t.issue op).1 := by
  unfold State.issue
  extract_lets +onlyGivenNames tv
  clear_value tv
  split
  · split
    · exact h.refuseLocked
    · extract_lets +onlyGivenNames t1
      have h1 : Kept false s₀ t1 := h.perform
      split
      · exact h1.unlockBus
      · exact h1
  · split
    · exact (h.updMgt rfl nofun).showOut
    · split
      · exact h.refuseLocked
      · extract_lets +onlyGivenNames t1
        have h1 : Kept false s₀ t1 := h.perform
        split
        · exact h1.when (fun _ k => k.updMgt rfl nofun)
        · exact h1

theorem Kept.drainStalled {n : Nat} (h : Kept false s₀ t) : Kept false s₀ (t.drainStalled n) := by
  induction n generalizing t with
  | zero => exact h
  | succ n ih =>
    unfold State.drainStalled
    split
    · exact h
    · exact ih (h.updMgt rfl nofun).showOut.issue

theorem Kept.runStalled (h : Kept false s₀ t) : Kept false s₀ t.runStalled := h.drainStalled

theorem Kept.busOp {op : BusOp} (h : Kept false s₀ t) : Kept false s₀ (t.busOp op) := Kept.ite h.issue.runStalled h.issue

theorem Kept.busWrite {m addr size : Nat} {data : Word} (h : Kept false s₀ t) : Kept false s₀ (t.busWrite m addr size data) :=
  h.disarm.busOp

theorem Kept.busRead {m addr size : Nat} {lock : Bool} (h : Kept false s₀ t) : Kept false s₀ (t.busRead m addr size lock) := h.busOp

theorem Kept.writeNow {m addr : Nat} {data : Word} (h : Kept false s₀ t) : Kept false s₀ (t.writeNow m addr data) := by
  unfold State.writeNow
  split
  · exact h.busWrite.landAll
  · exact h.busWrite

theorem Kept.ctrlWrite {m blk : Nat} {data : Word} (h : Kept false s₀ t) : Kept false s₀ (t.ctrlWrite m blk data) := by
  unfold State.ctrlWrite
  split
  · exact h.writeNow
  · exact h

theorem Kept.lockForced (h : Kept false s₀ t) : Kept false s₀ t.lockForced := by
  unfold State.lockForced
  split
  · exact h.unlockBus.bump.raise.runStalled
  · exact h

theorem Kept.dmaGet {a : Nat} (h : Kept false s₀ t) : Kept false s₀ (t.dmaGet a).2.2 := by
  unfold State.dmaGet
  split
  · exact h.dramGet
  · exact h.readAt

theorem Kept.dmaPut {a v : Nat} (h : Kept false s₀ t) : Kept false s₀ (t.dmaPut a v).2 := by
  unfold State.dmaPut
  extract_lets +onlyGivenNames _ t1
  have h1 : Kept false s₀ t1 := h.disarm
  split
  · exact h1.dramPut
  · exact h1.writeAt

theorem Kept.dmaCopy {n src dst : Nat} (h : Kept false s₀ t) : Kept false s₀ (t.dmaCopy n src dst).2 := by
  induction n generalizing t src dst with
  | zero => exact h
  | succ n ih =>
    unfold State.dmaCopy
    have hg : Kept false s₀ (t.dmaGet src).2.2 := h.dmaGet
    split
    · rename_i t1 e1
      have h1 := Kept.snd_snd_eq e1 hg
      split
      · rename_i t2 e2
        exact ih (Kept.snd_eq e2 h1.dmaPut)
      · exact h1.dmaPut
    · rename_i e1
      exact Kept.snd_snd_eq e1 hg

theorem Kept.dmaDone {k : Nat} (h : Kept false s₀ t) : Kept false s₀ (t.dmaDone k) := Kept.ite h h.dmaCopy.dmaEnd

theorem Kept.execDomainWriteEffect {blk : Nat} (h : Kept false s₀ t) : Completes s₀ (execDomainWriteEffect blk t) := by
  unfold Machine.execDomainWriteEffect
  apply Completes.next
  split
  · exact h.landOldest
  · exact h

theorem Kept.execBlockStopDone {blk : Nat} (h : Kept false s₀ t) : Completes s₀ (execBlockStopDone blk t) := by
  unfold Machine.execBlockStopDone
  apply Completes.next
  split
  · exact h.stopDone
  · exact h

/-! ### Load -/

theorem Kept.updLoad {f : LoadState → LoadState} (h : Kept false s₀ t) : Kept false s₀ (t.updLoad f) :=
  Kept.same h rfl rfl rfl rfl rfl

theorem Kept.drawEpoch {old : Nat} (h : Kept false s₀ t) : Kept false s₀ (t.drawEpoch old) := h.fresh.set

theorem Kept.keepPins {old : State} (h : Kept false s₀ t) : Kept false s₀ (State.keepPins old t) := by
  unfold State.keepPins
  exact h.set.set.set.set

theorem Kept.markHistory (h : Kept false s₀ t) : Kept false s₀ t.markHistory := h.each (fun _ _ k => Kept.ite k.set k)

/-- A state whose register file and memories are empty, with the waiting commands and the fuses of another. -/
theorem Kept.emptied {u : State} (h : Kept false s₀ t) (hp : u.pending = t.pending) (hf : u.fuses = t.fuses) (hr : u.regs = [])
    (hm : u.mgt.sram = []) (hd : u.dram.mem = []) : Kept false s₀ u where
  pending := hp.trans h.pending
  fuses := by unfold FusesKept; rw [hf]; exact h.fuses
  matrix := nofun
  sound _ := by
    refine ⟨?_, ?_, ?_⟩
    · unfold RegsCanon; rw [hr]; rfl
    · rw [hm]; rfl
    · rw [hd]; rfl

theorem Kept.resetAll (h : Kept false s₀ t) : Kept false s₀ t.resetAll := by
  unfold State.resetAll
  refine Kept.drawEpoch (Kept.keepPins (Kept.emptied h ?_ ?_ ?_ ?_ ?_))
  all_goals rfl

theorem Kept.resetCold (h : Kept false s₀ t) : Kept false s₀ t.resetCold := h.resetAll.updKey

theorem Kept.resetWarm {cause : Nat} (h : Kept false s₀ t) : Kept false s₀ (t.resetWarm cause) := by
  have h1 : Kept false s₀ t.closeSessions := h.closeSessions
  have h2 : Kept false s₀ t.closeSessions.resetAll := h1.resetAll
  unfold State.resetWarm
  refine Kept.markHistory (Kept.set (Kept.set (Kept.each (Kept.updJrp ?_) fun _ _ k => k.wr)))
  exact ⟨h2.pending, h2.fuses, fun hs => ⟨(h2.sound hs).regs, (h2.sound hs).mem.1, (h1.sound hs).mem.2⟩, nofun⟩

theorem Kept.endStep {k : Nat} (h : Kept false s₀ t) : Kept false s₀ (t.endStep k) := Kept.ite h.set.set h.set

theorem Kept.putHash {r : Nat → FRef} {v : Nat} (h : Kept false s₀ t) : Kept false s₀ (t.putHash r v) := h.each (fun _ _ k => k.set)

theorem Kept.measure {slot : Nat} (h : Kept false s₀ t) : Kept false s₀ (t.measure slot) := by
  unfold State.measure
  exact h.putHash.putHash.putHash.updKey

theorem Kept.identityMade (h : Kept false s₀ t) : Kept false s₀
    (if t.lcState = 0 ∧ !t.fuses.idgen then
      (t.fresh.2.updFlash fun f => { f with blob := { f.blob with first := .good (some (Config.crypto [560, t.fresh.1])) } }).blow
        (fun f => { f with idgen := true }) 2
    else t) :=
  Kept.ite (h.fresh.updFlash.blow id id fun _ => rfl) h

theorem Kept.startIdentity (h : Kept false s₀ t) : Kept false s₀ t.startIdentity := by
  unfold State.startIdentity
  extract_lets +onlyGivenNames t1 t2
  have h2 : Kept false s₀ t2 := by
    unfold t2
    split
    · exact h.set.tapJudge.set
    · exact h.set.tapJudge
  have h3 := h2.identityMade
  refine Kept.showKey (Kept.each ?_ fun _ _ k => k.wr)
  split
  · exact ((h3.each fun _ _ k => k.set).set64).set
  · exact h3.setB

theorem Kept.addLoaded {e : Option Nat} (h : Kept false s₀ t) : Kept false s₀ (t.addLoaded e) := by
  unfold State.addLoaded
  split
  · exact h.updLoad
  · exact h

theorem Kept.loadWrite {addr data : Nat} (h : Kept false s₀ t) : Kept false s₀ (t.loadWrite addr data).state := by
  unfold State.loadWrite
  extract_lets +onlyGivenNames _
  split
  · rename_i t1 e1
    extract_lets +onlyGivenNames t2
    have h2 : Kept false s₀ t2 := by
      unfold t2
      split
      · exact ((Kept.snd_eq e1 h.updLoad.writeAt)).landAll
      · exact (Kept.snd_eq e1 h.updLoad.writeAt)
    split
    · exact h2.addLoaded
    · exact h2
  · rename_i t1 e1
    exact (Kept.snd_eq e1 h.updLoad.writeAt)

theorem Kept.created (h : Kept false s₀ t) : Kept false s₀ t.created.state := by
  unfold State.created
  extract_lets +onlyGivenNames code
  clear_value code
  split
  · exact h.updLoad
  · split
    · exact h.updLoad.bump.raise
    · exact h

theorem Kept.loadCreate {args : List Nat} (h : Kept false s₀ t) : Kept false s₀ (t.loadCreate args).state := by
  unfold State.loadCreate
  split
  · split
    · exact h
    · exact h.created
  · extract_lets +onlyGivenNames t1
    have h1 : Kept false s₀ t1 := h.putArgs.reqCmdLand
    split
    · exact h1
    · exact h1.created

theorem Kept.loadAppends {l : List (List Nat)} (h : Kept false s₀ t) : Kept false s₀ (t.loadAppends l).state := by
  induction l generalizing t with
  | nil => exact h
  | cons x l ih =>
    unfold State.loadAppends
    split
    · exact h
    · extract_lets +onlyGivenNames t1 _
      have h1 : Kept false s₀ t1 := h.putArgs.reqCmdLand
      split
      · exact ih h1
      · exact h1

theorem Kept.loadRoutes {l : List (Nat × Nat)} (h : Kept false s₀ t) : Kept false s₀ (t.loadRoutes l).state := by
  induction l generalizing t with
  | nil => exact h
  | cons x l ih =>
    unfold State.loadRoutes
    extract_lets +onlyGivenNames _ _ _
    split
    · exact ih h.updLoad
    · exact h

theorem Kept.loadLut {k lutsel first : Nat} {values : List Nat} (h : Kept false s₀ t) :
    Kept false s₀ (t.loadLut k lutsel first values).state := by
  unfold State.loadLut
  split
  · exact h
  · exact h
  · split
    · split
      · exact h.cnvLoad.addLoaded
      · split
        · exact (h.set.set.updMica.each (fun _ _ k => k.micaLutWrite)).addLoaded
        · exact h
    · exact h

theorem Kept.loadBlob {addr : Nat} {bytes : List Byte} (h : Kept false s₀ t) : Kept false s₀ (t.loadBlob addr bytes).state := by
  unfold State.loadBlob
  extract_lets +onlyGivenNames _ _
  split
  · exact h
  · split
    · exact h.dramWrite
    · exact h

theorem Kept.loadParam {key : Nat} {value : List Byte} (h : Kept false s₀ t) : Kept false s₀ (t.loadParam key value).state := by
  have either (c : Prop) [Decidable c] (u : State) (k : Kept false s₀ u) :
      Kept false s₀ (if c then LoadOut.go u else .reject 6 0 t).state := by
    split
    · exact k
    · exact h
  unfold State.loadParam
  extract_lets +onlyGivenNames four
  split
  · exact either _ _ h.updJrp
  · split
    · exact either _ _ h.updJrp
    · split
      · exact either _ _ h.updJrp
      · split
        · exact h
        · split
          · exact either _ _ h.updPtp
          · exact h

theorem Kept.loadEnable {page : Nat} (h : Kept false s₀ t) : Kept false s₀ (t.loadEnable page).state := by
  unfold State.loadEnable
  split
  · split
    · exact h.updLoad.when (fun _ k => k.updChn)
    · exact h.updLoad.when (fun _ k => k.updChn)
    · exact h.updLoad.when (fun _ k => k.updChn)
    · exact h.updLoad.when (fun _ k => k.updChn)
    · exact h.updLoad.when (fun _ k => k.updChn)
    · exact h.updLoad.when (fun _ k => k.updChn)
    · exact h.updLoad.when (fun _ k => k.updChn)
    · exact h.updLoad.when (fun _ k => k.updChn)
    · exact h.updLoad.when (fun _ k => k.updChn)
    · exact h.updLoad.when (fun _ k => k.updChn)
    · exact h.updLoad.when (fun _ k => k.updChn)
    · exact h.updLoad.when (fun _ k => k.updChn)
    · exact h
  · exact h

theorem Kept.loadUnit {w : Nat} (h : Kept false s₀ t) : Kept false s₀ (t.loadUnit w).state := by
  unfold State.loadUnit
  split
  · exact h
  · exact h.set.set

theorem Kept.landQuad {q : Nat} (h : Kept false s₀ t) : Kept false s₀ (t.landQuad q) :=
  (h.each (fun _ _ k => k.landAll.landAll)).each (fun _ _ k => k.landAll)

theorem Kept.enable {b : Blk} (h : Kept false s₀ t) : Kept false s₀ (t.enable b) :=
  Kept.ite h (h.set.raiseEn.when (fun _ k => k.landQuad))

theorem Kept.enableListed {ks : List BlkKind} (h : Kept false s₀ t) : Kept false s₀ (t.enableListed ks) :=
  h.each (fun _ _ k => k.each (fun _ _ k => k.enable))

theorem Kept.enableLanes (h : Kept false s₀ t) : Kept false s₀ t.enableLanes := h.enableListed.endStep

theorem Kept.enterPending (h : Kept false s₀ t) : Kept false s₀ t.enterPending := h.enterAll

theorem Kept.stopStart {step src : Nat} {items : List Nat} (h : Kept false s₀ t) : Kept false s₀ (t.stopStart step src items) :=
  h.set.enable.set.raise.enterPending.updLoad

theorem Kept.stepDram (h : Kept false s₀ t) : Kept false s₀ t.stepDram.state := by
  unfold State.stepDram
  extract_lets +onlyGivenNames t1
  have h1 : Kept false s₀ t1 := h.when (fun _ k => k.enableListed)
  split
  · exact h1.endStep
  · split
    · exact h1
    · split
      · exact h1.endStep.stopStart
      · exact h1.updLoad.set.raise.endStep

theorem Kept.stepCommit (h : Kept false s₀ t) : Kept false s₀ t.stepCommit :=
  h.each (fun _ _ k => Kept.ite (k.when (fun _ k => k.cnvSwapLand)) (k.when (fun _ k => k.micaCommitLand)))

theorem Kept.stepLock (h : Kept false s₀ t) : Kept false s₀ t.stepLock.state := by
  unfold State.stepLock
  split
  · exact h.endStep
  · exact h

theorem Kept.stepService (h : Kept false s₀ t) : Kept false s₀ t.stepService := by
  unfold State.stepService
  exact (((((h.each (fun _ _ k => k.set.repoint)).enable).when (fun _ k => k.enableListed)).startAlive).raise).endStep

theorem Kept.loadStep {k : Nat} (h : Kept false s₀ t) : Kept false s₀ (t.loadStep k).state := by
  unfold State.loadStep
  split
  · split
    · exact h
    · exact h.enable.enable.enable.enable.endStep
  · extract_lets +onlyGivenNames t1
    have h1 : Kept false s₀ t1 := h.when (fun _ k => k.enableListed.updLoad)
    split
    · exact h1.enableLanes
    · exact h1
  · exact h.stepDram
  · exact h.enableListed.endStep.updLoad
  · split
    · exact h
    · exact h.stepCommit.endStep
  · exact h.stepLock
  · exact h.stepService

theorem Kept.loadPoll {addr mask value timeout : Nat} (h : Kept false s₀ t) :
    Kept false s₀ (t.loadPoll addr mask value timeout).state := by
  unfold State.loadPoll
  split
  · rename_i t1 e1
    split
    · exact (Kept.snd_snd_eq e1 h.readAt)
    · split
      · split
        · exact (Kept.snd_snd_eq e1 h.readAt)
        · exact (Kept.snd_snd_eq e1 h.readAt)
      · split
        · exact (Kept.snd_snd_eq e1 h.readAt)
        · exact (Kept.snd_snd_eq e1 h.readAt)
  · rename_i t1 e1
    exact (Kept.snd_snd_eq e1 h.readAt)

theorem Kept.loadOp {op : LoadOp} (h : Kept false s₀ t) : Kept false s₀ (t.loadOp op).state := by
  unfold State.loadOp
  split
  · exact h.updLoad.set.set.set
  · split
    · exact h
    · exact h.loadWrite
  · split
    · exact h
    · split
      · rename_i t1 e1
        exact ((Kept.snd_snd_eq e1 h.readAt)).loadWrite
      · rename_i t1 e1
        exact (Kept.snd_snd_eq e1 h.readAt)
  · split
    · exact h
    · exact h.loadPoll
  · split
    · split
      · exact h
      · exact h
    · split
      · exact h
      · exact h
  · split
    · exact h
    · exact h.loadRoutes
  · exact h.loadCreate
  · split
    · exact h
    · exact h.loadAppends
  · exact h.loadLut
  · exact h.loadBlob
  · exact h.loadParam
  · exact h.loadEnable
  · exact h.loadUnit
  · exact h.bump
  · exact h.bump
  · split
    · exact h
    · exact h.bump
  · exact h.loadStep
  · exact h

theorem Kept.putReject {slot reason result record : Nat} (h : Kept false s₀ t) :
    Kept false s₀ (t.putReject slot reason result record) :=
  h.set.set.set.set.set

theorem Kept.rejectApplied {record reason result : Nat} (h : Kept false s₀ t) :
    Kept false s₀ (t.rejectApplied record reason result) := by
  unfold State.rejectApplied
  exact h.journalAdd.putReject.raise.updLoad

theorem Kept.runOps {l : List (Nat × LoadOp)} (h : Kept false s₀ t) : Kept false s₀ (t.runOps l).1 := by
  induction l generalizing t with
  | nil =>
    unfold State.runOps
    dsimp only
    exact h.updLoad
  | cons x l ih =>
    unfold State.runOps
    have ho : Kept false s₀ (t.loadOp x.2).state := h.loadOp
    split
    all_goals
      rename_i e1
      rw [e1] at ho
    · exact ih (Kept.updLoad ho)
    · dsimp only
      exact Kept.updLoad ho
    · exact Kept.rejectApplied ho
    · exact ho

theorem Kept.trySlot {slot : Nat} (h : Kept false s₀ t) : Kept false s₀ (t.trySlot slot).2 := by
  unfold State.trySlot
  split
  · exact Kept.ite h.putReject h.putReject
  · extract_lets +onlyGivenNames c
    clear_value c
    split
    · exact h
    · dsimp only
      exact h.putReject.raise

theorem Kept.chooseImage (h : Kept false s₀ t) : Kept false s₀ t.chooseImage.2 := by
  unfold State.chooseImage
  extract_lets +onlyGivenNames pref
  clear_value pref
  split
  · rename_i t1 e1
    exact (Kept.snd_eq e1 h.trySlot)
  · rename_i t1 e1
    split
    · rename_i t2 e2
      dsimp only
      exact (((Kept.snd_eq e2 (((Kept.snd_eq e1 h.trySlot)).trySlot))).set).raise
    · rename_i t2 e2
      exact (Kept.snd_eq e2 (((Kept.snd_eq e1 h.trySlot)).trySlot))

theorem Kept.applyImage {env : StartEnv} (h : Kept false s₀ t) : Kept false s₀ (t.applyImage env).1 := by
  unfold State.applyImage
  split
  · rename_i t1 e1
    exact ((Kept.snd_eq e1 h.chooseImage)).stopStart
  · rename_i t1 e1
    exact (((((((Kept.snd_eq e1 h.chooseImage)).measure).set).set).endStep).updLoad).runOps

theorem Kept.causeRecord (h : Kept false s₀ t) : Kept false s₀ t.causeRecord := by
  unfold State.causeRecord
  split
  · exact h.raise.enterNext
  · exact h.raise.enterNext
  · exact h

theorem Kept.boot {env : StartEnv} (h : Kept false s₀ t) : Kept false s₀ (t.boot env).1 := by
  unfold State.boot
  extract_lets +onlyGivenNames t1
  have h1 : Kept false s₀ t1 := h.causeRecord
  extract_lets +onlyGivenNames t2
  have h2 : Kept false s₀ t2 := by
    unfold t2
    split
    · exact h1.raise
    · exact h1
  extract_lets +onlyGivenNames t3
  have h3 : Kept false s₀ t3 := h2.startIdentity.bootHdr
  split
  · exact h3
  · extract_lets +onlyGivenNames t4
    have h4 : Kept false s₀ t4 := h3.endStep.set.enable.enable.endStep
    refine Kept.applyImage ?_
    split
    · exact h4.repairFlash.raise
    · exact h4.repairFlash

theorem Kept.startChip {n : Nat} {env : StartEnv} (h : Kept false s₀ t) : Kept false s₀ (t.startChip n env) := by
  induction n generalizing t env with
  | zero => exact h
  | succ n ih =>
    unfold State.startChip
    split
    · rename_i t1 e1
      exact Kept.fst_eq e1 h.boot
    · rename_i t1 e1
      exact ih (Kept.fst_eq e1 h.boot).enterPending.resetWarm

theorem Kept.powerOn {env : StartEnv} (h : Kept false s₀ t) : Kept false s₀ (t.powerOn env) := h.resetCold.startChip

theorem Kept.warmStart {cause : Nat} {env : StartEnv} (h : Kept false s₀ t) : Kept false s₀ (t.warmStart cause env) :=
  ((h.when (fun _ k => k.enterPending)).resetWarm).startChip

theorem Kept.loadResume (h : Kept false s₀ t) : Kept false s₀ t.loadResume := by
  unfold State.loadResume
  split
  · split
    · rename_i t1 e1
      exact (Kept.fst_eq e1 h.runOps)
    · rename_i t1 e1
      exact ((((Kept.fst_eq e1 h.runOps)).enterPending).resetWarm).startChip
  · exact h

theorem Kept.loadSkip (h : Kept false s₀ t) : Kept false s₀ t.loadSkip := h.updLoad

theorem Kept.pllWaitExpire (h : Kept false s₀ t) : Kept false s₀ t.pllWaitExpire :=
  Kept.ite ((((h.each (fun _ _ k => k.quadCause)).enableLanes).loadSkip).loadResume) h

theorem Kept.lockWaitExpire (h : Kept false s₀ t) : Kept false s₀ t.lockWaitExpire := Kept.ite h.raise.endStep.loadSkip.loadResume h

theorem Kept.restartDue {env : StartEnv} (h : Kept false s₀ t) : Kept false s₀ (t.restartDue env) := by
  unfold State.restartDue
  split
  · exact h.warmStart
  · exact h

theorem Kept.gated {m addr : Nat} {data : Word} {f : State → State} (h : Kept false s₀ t) (hf : ∀ x0, Kept false s₀ x0 → Kept false s₀ (f
    x0)) :
    Kept false s₀ (t.gated m addr data f) :=
  Kept.ite h.busWrite (Kept.ite (((Kept.ite h.disarm.protErr.answer ((hf _ h.disarm).answer)).unlockBus).runStalled)
      (Kept.ite h.disarm.protErr.answer ((hf _ h.disarm).answer)))

/-! ### Jrp -/

theorem Kept.jrpSend {port addr udp : Nat} {mac final : Bool} {session txid code : Nat} {body : List Nat} (h : Kept false s₀
    t) :
    Kept false s₀ (t.jrpSend port addr udp mac final session txid code body) :=
  h.emit

theorem Kept.jrpRespond {x : JrpSession} {txid : Nat} {r : JrpResult} (h : Kept false s₀ t) :
    Kept false s₀ (t.jrpRespond x txid r) :=
  h.jrpSend

theorem Kept.jrpRefuse {h' : JrpHdr} {x : JrpSession} {code : Nat} (h : Kept false s₀ t) : Kept false s₀ (t.jrpRefuse h' x code) :=
  h.jrpSend

theorem Kept.jrpCount {id : Nat} {f : JrpCounts → JrpCounts} (h : Kept false s₀ t) : Kept false s₀ (t.jrpCount id f) := h.updSession

theorem Kept.jrpDiscard {id : Nat} (h : Kept false s₀ t) : Kept false s₀ (t.jrpDiscard id) := h.jrpCount

theorem Kept.updWindow {id : Nat} {f : List JrpEntry → List JrpEntry} (h : Kept false s₀ t) : Kept false s₀ (t.updWindow id f) :=
  h.updSession.updJrp

theorem Kept.answerCmd {id txid : Nat} {r : JrpResult} (h : Kept false s₀ t) : Kept false s₀ (t.answerCmd id txid r) := by
  unfold State.answerCmd
  extract_lets +onlyGivenNames t1
  have h1 : Kept false s₀ t1 := h.updWindow
  split
  · exact h1.updJrp
  · split
    · exact h1.jrpRespond
    · exact h1

theorem Kept.releaseHeld (h : Kept false s₀ t) : Kept false s₀ t.releaseHeld := by
  unfold State.releaseHeld
  refine Kept.each h (fun _ _ k1 => ?_)
  split
  · exact k1
  · extract_lets +onlyGivenNames t1
    have h1 : Kept false s₀ t1 := k1.updJrp
    split
    · split
      · exact h1.jrpRespond
      · exact h1
    · exact h1

theorem Kept.jrpFinal {id txid : Nat} {f : JrpFinal} (h : Kept false s₀ t) : Kept false s₀ (t.jrpFinal id txid f) :=
  h.updWindow.updJrp.updSession

theorem Kept.lostStatus {w : JrpAwait} {gone : List (Nat × Nat)} (h : Kept false s₀ t) : Kept false s₀ (t.lostStatus w gone).2 := by
  unfold State.lostStatus
  extract_lets +onlyGivenNames _ _ _
  split
  · exact h
  · exact h.fresh

theorem Kept.rebuildView (h : Kept false s₀ t) : Kept false s₀ t.rebuildView :=
  Kept.ite ((h.each (fun _ _ k => Kept.ite k (Kept.ite k.lostStatus.updJrp.jrpFinal k.lostStatus.updJrp))).set) h

theorem Kept.finalStatus (h : Kept false s₀ t) : Kept false s₀ t.finalStatus := by
  unfold State.finalStatus
  extract_lets +onlyGivenNames t1
  have h1 : Kept false s₀ t1 := h.rebuildView
  split
  · exact h1
  · extract_lets +onlyGivenNames t2
    have h2 : Kept false s₀ t2 := h1.tcqPop
    split
    · exact h2
    · exact Kept.ite h2.updJrp h2.updJrp.jrpFinal

theorem Kept.queryRead {addr n : Nat} (h : Kept false s₀ t) : Kept false s₀ (t.queryRead addr n).2 := by
  induction n generalizing t addr with
  | zero => exact h
  | succ n ih => exact ih h.readAt

theorem Kept.jrpQuery {object first count : Nat} (h : Kept false s₀ t) : Kept false s₀ (t.jrpQuery object first count).2 := by
  unfold State.jrpQuery
  split
  · split
    · exact h
    · exact h.queryRead
  · split
    · exact h
    · exact h

theorem Kept.runFab {op peer : Nat} {args : List Nat} (h : Kept false s₀ t) : Kept false s₀ (t.runFab op peer args).2 :=
  h.putArgs.takeBox

theorem Kept.await {id txid peer : Nat} {out : Option Nat} {src ref left : Nat} (h : Kept false s₀ t) :
    Kept false s₀ (t.await id txid peer out src ref left) := by
  unfold State.await
  exact h.updJrp

theorem Kept.jrpTake {x : JrpSession} {txid out src instant : Nat} (h : Kept false s₀ t) :
    Kept false s₀ (t.jrpTake x txid out src instant).2 := by
  unfold State.jrpTake
  split
  · rename_i t1 e1
    exact ((Kept.snd_eq e1 h.runFab)).await
  · rename_i t1 e1
    exact (Kept.snd_eq e1 h.runFab)

theorem Kept.runChn {op : Nat} {args desc : List Nat} (h : Kept false s₀ t) : Kept false s₀ (t.runChn op args desc) :=
  h.putArgs.putArgs.chnBox

theorem Kept.resolve {druse dir pos : Nat} (h : Kept false s₀ t) : Kept false s₀ (t.resolve druse dir pos).2.2.2 := by
  unfold State.resolve
  dsimp only
  exact h.runChn

theorem Kept.sendForward {f : JrpForward} (h : Kept false s₀ t) : Kept false s₀ (t.sendForward f) := h.emit

theorem Kept.jrpDtake {x : JrpSession} {txid druse inPos outPos instant : Nat} (h : Kept false s₀ t) :
    Kept false s₀ (t.jrpDtake x txid druse inPos outPos instant).2 := by
  unfold State.jrpDtake
  split
  · exact h.sendForward
  · split
    · rename_i t1 e1
      split
      · rename_i t2 e2
        split
        · exact (Kept.snd_snd_snd_eq e2 (((Kept.snd_snd_snd_eq e1 h.resolve)).resolve))
        · split
          · exact ((Kept.snd_snd_snd_eq e2 (((Kept.snd_snd_snd_eq e1 h.resolve)).resolve))).jrpTake
          · exact (((Kept.snd_snd_snd_eq e2 (((Kept.snd_snd_snd_eq e1 h.resolve)).resolve))).updJrp).sendForward
      · rename_i t2 e2
        exact (Kept.snd_snd_snd_eq e2 (((Kept.snd_snd_snd_eq e1 h.resolve)).resolve))
    · rename_i t1 e1
      exact (Kept.snd_snd_snd_eq e1 h.resolve)

theorem Kept.putDruseSalvo {x : DruseSalvo} (h : Kept false s₀ t) : Kept false s₀ (t.putDruseSalvo x) := h.updJrp

theorem Kept.sendParts {op : Nat} {x : DruseSalvo} (h : Kept false s₀ t) : Kept false s₀ (t.sendParts op x) :=
  h.each (fun _ _ k => k.emit)

theorem Kept.abortParts {x : DruseSalvo} (h : Kept false s₀ t) : Kept false s₀ (t.abortParts x) := h.sendParts.putDruseSalvo

theorem Kept.jrpCommit {x : JrpSession} {txid v : Nat} {y : Salvo} (h : Kept false s₀ t) :
    Kept false s₀ (t.jrpCommit x txid v y).2 := by
  unfold State.jrpCommit
  extract_lets +onlyGivenNames _
  split
  · rename_i t1 e1
    exact ((Kept.snd_eq e1 h.runFab)).await
  · rename_i t1 e1
    exact (Kept.snd_eq e1 h.runFab)

theorem Kept.armParts {x : JrpSession} {txid instant minlead : Nat} {y : DruseSalvo} (h : Kept false s₀ t) :
    Kept false s₀ (t.armParts x txid instant minlead y).2 := by
  unfold State.armParts
  extract_lets +onlyGivenNames _ r1
  have h1 : Kept false s₀ r1.2 := by
    unfold r1
    split
    · split
      · exact h.runFab
      · exact h.runFab
    · exact h
  split
  · exact h1.putDruseSalvo.sendParts
  · exact h1.abortParts

theorem Kept.jrpSalvo {x : JrpSession} {txid op gid instant minlead : Nat} (h : Kept false s₀ t) :
    Kept false s₀ (t.jrpSalvo x txid op gid instant minlead).2 := by
  unfold State.jrpSalvo
  extract_lets +onlyGivenNames _
  split
  · exact h.runFab.when (fun _ k => k.updJrp)
  · split
    · split
      · exact h.armParts
      · exact h
    · exact h.when (fun _ k => k.sendParts)
    · split
      · exact h
      · extract_lets +onlyGivenNames t1
        have h1 : Kept false s₀ t1 := h.abortParts
        split
        · exact h1.runFab
        · exact h1
    · split
      · exact h
      · split
        · exact h.runFab
        · split
          · exact h.jrpCommit
          · exact h.runFab

theorem Kept.addTake {peer v out src : Nat} {nosrc : Bool} (h : Kept false s₀ t) :
    Kept false s₀ (t.addTake peer v out src nosrc).2 :=
  h.runFab

theorem Kept.addPart {gid sys : Nat} {t' : Nat × Nat} (h : Kept false s₀ t) : Kept false s₀ (t.addPart gid sys t') :=
  ((h.when (fun _ k => k.emit)).emit).putDruseSalvo

theorem Kept.addEntry {peer v gid : Nat} {druse : Option Nat} {t' : Nat × Nat} (h : Kept false s₀ t) :
    Kept false s₀ (t.addEntry peer v gid druse t').2 := by
  unfold State.addEntry
  split
  · exact h.addTake
  · split
    · rename_i t1 e1
      split
      · rename_i t2 e2
        split
        · exact (Kept.snd_snd_snd_eq e2 (((Kept.snd_snd_snd_eq e1 h.resolve)).resolve))
        · split
          · exact ((Kept.snd_snd_snd_eq e2 (((Kept.snd_snd_snd_eq e1 h.resolve)).resolve))).addTake
          · exact ((Kept.snd_snd_snd_eq e2 (((Kept.snd_snd_snd_eq e1 h.resolve)).resolve))).addPart
      · rename_i t2 e2
        exact (Kept.snd_snd_snd_eq e2 (((Kept.snd_snd_snd_eq e1 h.resolve)).resolve))
    · rename_i t1 e1
      exact (Kept.snd_snd_snd_eq e1 h.resolve)

theorem Kept.jrpSalvoAdd {peer v gid : Nat} {druse : Option Nat} {l : List (Nat × Nat)} (h : Kept false s₀ t) :
    Kept false s₀ (t.jrpSalvoAdd peer v gid druse l).2 := by
  induction l generalizing t with
  | nil => exact h
  | cons x l ih =>
    unfold State.jrpSalvoAdd
    split
    · rename_i t1 e1
      exact ih (Kept.snd_eq e1 h.addEntry)
    · exact h.addEntry

theorem Kept.handleRefused {code h' : Nat} (h : Kept false s₀ t) : Kept false s₀ (t.handleRefused code h').2 := h.staleIf

theorem Kept.putSet {g : Nat} {words : List (Nat × Nat)} (h : Kept false s₀ t) : Kept false s₀ (t.putSet g words) := by
  unfold State.putSet
  refine Kept.each h (fun _ _ k1 => ?_)
  extract_lets +onlyGivenNames _
  split
  · exact k1.landStore
  · exact k1

theorem Kept.jrpMicaSet {engine : Nat} {words : List (Nat × Nat)} {commit : Bool} (h : Kept false s₀ t) :
    Kept false s₀ (t.jrpMicaSet engine words commit).2 := by
  unfold State.jrpMicaSet
  extract_lets +onlyGivenNames e
  clear_value e
  split
  · exact h.handleRefused
  · split
    · exact h
    · dsimp only
      exact h.putSet.mirrored (fun _ k => k.when (fun _ k => k.micaCommitLand))

theorem Kept.jrpFlint {engine addr crc : Nat} (h : Kept false s₀ t) : Kept false s₀ (t.jrpFlint engine addr crc).2 := by
  unfold State.jrpFlint
  extract_lets +onlyGivenNames e
  clear_value e
  split
  · exact h.handleRefused
  · dsimp only
    exact h.set.set.takeWide.set.flintBox

theorem Kept.jrpCnvLoad {cnv lutsel first : Nat} {values : List Nat} (h : Kept false s₀ t) :
    Kept false s₀ (t.jrpCnvLoad cnv lutsel first values).2 := by
  unfold State.jrpCnvLoad
  extract_lets +onlyGivenNames e
  clear_value e
  split
  · exact h.handleRefused
  · split
    · exact h
    · dsimp only
      exact h.mirrored (fun _ k => k.cnvLoad)

theorem Kept.jrpCnvSwap {cnv : Nat} (h : Kept false s₀ t) : Kept false s₀ (t.jrpCnvSwap cnv).2 := by
  unfold State.jrpCnvSwap
  extract_lets +onlyGivenNames e
  clear_value e
  split
  · exact h.handleRefused
  · dsimp only
    exact h.mirrored (fun _ k => k.cnvSwapLand)

theorem Kept.jrpLayer {engine op : Nat} {args : List Nat} (h : Kept false s₀ t) : Kept false s₀ (t.jrpLayer engine op args).2 := by
  unfold State.jrpLayer
  extract_lets +onlyGivenNames _
  split
  · exact h.handleRefused
  · exact h.putArgs.layBox

theorem Kept.jrpVoice {op : Nat} {args : List Nat} (h : Kept false s₀ t) : Kept false s₀ (t.jrpVoice op args).2 := h.putArgs.mapBox

theorem Kept.jrpSubscribe {x : JrpSession} {sub : JrpSub} (h : Kept false s₀ t) : Kept false s₀ (t.jrpSubscribe x sub).2 := by
  unfold State.jrpSubscribe
  split
  · exact h.updSession
  · exact h

theorem Kept.jrpUnsubscribe {x : JrpSession} {n : Nat} (h : Kept false s₀ t) : Kept false s₀ (t.jrpUnsubscribe x n).2 := by
  unfold State.jrpUnsubscribe
  split
  · exact h.updSession
  · exact h

theorem Kept.jrpStage {op : Nat} {args : List Nat} {bytes : List Byte} {read : StageRead} (h : Kept false s₀ t) :
    Kept false s₀ (t.jrpStage op args bytes read).2 := by
  unfold State.jrpStage
  split
  · exact h
  · exact (h.putArgs.when (fun _ k => k.each (fun _ _ k => k.set))).updCmd

theorem Kept.jrpUpdCommit {mode win max : Nat} (h : Kept false s₀ t) : Kept false s₀ (t.jrpUpdCommit mode win max).2 :=
  h.putArgs.updCmdLand

theorem Kept.jrpKey {op arg : Nat} {signer : Option Nat} (h : Kept false s₀ t) : Kept false s₀ (t.jrpKey op arg signer).2 :=
  h.keyCmd

theorem Kept.jrpAttest {nonce : List Byte} (h : Kept false s₀ t) : Kept false s₀ (t.jrpAttest nonce).2 := by
  unfold State.jrpAttest
  dsimp only
  exact h.putKeyMsg.keyCmd

theorem Kept.jrpForceClear {out : Nat} (h : Kept false s₀ t) : Kept false s₀ (t.jrpForceClear out).2 := by
  unfold State.jrpForceClear
  extract_lets +onlyGivenNames _
  split
  · exact h.handleRefused
  · split
    · exact h.forceClear
    · exact h

theorem Kept.jrpClaimed {args : List Nat} {psys parent : Nat} (h : Kept false s₀ t) :
    Kept false s₀ (t.jrpClaimed args psys parent).2 :=
  h.claimed

theorem Kept.jrpCarry {x : JrpSession} {txid : Nat} {c : JrpCmd} (h : Kept false s₀ t) : Kept false s₀ (t.jrpCarry x txid c).2 := by
  unfold State.jrpCarry
  extract_lets +onlyGivenNames now
  have hn (r : JrpResult × State) (k : Kept false s₀ r.2) : Kept false s₀ (now r).2 := k
  split
  · exact h
  · split
    · exact h.jrpTake
    · exact h.runFab
  · exact h.jrpDtake
  · exact h.jrpSalvo
  · split
    · split
      · exact h
      · exact h.jrpSalvoAdd
    · exact h
  · exact h.jrpClaimed
  · exact h.runChn
  · exact h.jrpVoice
  · exact h.jrpLayer
  · exact h.jrpMicaSet
  · exact h.jrpFlint
  · exact h.jrpCnvLoad
  · exact h.jrpCnvSwap
  · exact h.jrpQuery
  · exact h.jrpSubscribe
  · exact h.jrpUnsubscribe
  · exact h.jrpAttest
  · exact h.jrpStage
  · exact h.updCmd
  · exact h.xchgLand
  · exact h.jrpUpdCommit
  · exact hn _ h.jrpKey
  · exact hn _ h.putKeyMsg.jrpKey
  · exact h.jrpForceClear

theorem Kept.jrpJudged {x : JrpSession} {q : JrpQueued} (h : Kept false s₀ t) : Kept false s₀ (t.jrpJudged x q).2 := by
  unfold State.jrpJudged
  split
  · split
    · exact h.staleEvent
    · exact h.jrpCarry
  · exact h.jrpCarry

theorem Kept.jrpServe {x : JrpSession} {q : JrpQueued} (h : Kept false s₀ t) : Kept false s₀ (t.jrpServe x q) := by
  unfold State.jrpServe
  extract_lets +onlyGivenNames t1
  have h1 : Kept false s₀ t1 := h.updSession.updJrp
  extract_lets +onlyGivenNames t2
  have h2 : Kept false s₀ t2 := h1.updTwin
  extract_lets +onlyGivenNames r3
  have h3 : Kept false s₀ r3.2 := h2.jrpJudged
  extract_lets +onlyGivenNames t4
  have h4 : Kept false s₀ t4 := h3.updTwin
  split
  · extract_lets +onlyGivenNames t5
    have h5 : Kept false s₀ t5 := h4.answerCmd
    extract_lets +onlyGivenNames t6
    have h6 : Kept false s₀ t6 := by
      unfold t6
      split
      · exact h5.updSession
      · exact h5
    split
    · exact h6.restartDue
    · exact h6
  · exact h4.updJrp

theorem Kept.jrpServeAll {n : Nat} (h : Kept false s₀ t) : Kept false s₀ (t.jrpServeAll n) := by
  induction n generalizing t with
  | zero => exact h
  | succ n ih =>
    unfold State.jrpServeAll
    split
    · split
      · exact ih h.jrpServe
      · exact h
    · exact h

theorem Kept.jrpFinish (h : Kept false s₀ t) : Kept false s₀ t.jrpFinish := by
  unfold State.jrpFinish
  refine Kept.each h (fun _ _ k1 => ?_)
  split
  · exact k1.updJrp.answerCmd
  · exact k1

theorem Kept.jrpPump (h : Kept false s₀ t) : Kept false s₀ t.jrpPump := h.jrpFinish.releaseHeld.jrpServeAll

theorem Kept.jrpQueue {h' : JrpHdr} {x : JrpSession} {known : Bool} {c : JrpCmd} (h : Kept false s₀ t) :
    Kept false s₀ (t.jrpQueue h' x known c) :=
  Kept.ite h.jrpCount.jrpRefuse (Kept.ite h.jrpRefuse (Kept.ite h.jrpRefuse h.updSession.jrpPump))

theorem Kept.jrpRepeat {x : JrpSession} {e : JrpEntry} (h : Kept false s₀ t) : Kept false s₀ (t.jrpRepeat x e) := by
  unfold State.jrpRepeat
  extract_lets +onlyGivenNames t1
  have h1 : Kept false s₀ t1 := h.jrpCount
  split
  · exact h1
  · split
    · exact h1.jrpRespond
    · exact h1

theorem Kept.jrpRequest {h' : JrpHdr} {known : Bool} {c : JrpCmd} (h : Kept false s₀ t) :
    Kept false s₀ (t.jrpRequest h' known c) := by
  unfold State.jrpRequest
  split
  · exact h
  · split
    · exact h.jrpDiscard
    · split
      · exact h.jrpSend
      · split
        · exact h.jrpDiscard
        · extract_lets +onlyGivenNames t1
          have h1 : Kept false s₀ t1 := h.updSession
          split
          · exact h1.jrpRefuse
          · split
            · exact h1.jrpRepeat
            · exact h1.jrpCount.jrpRefuse
            · exact h1.jrpQueue

/-! ### JrpRows -/

theorem Kept.freshSession {resume : Nat} (h : Kept false s₀ t) : Kept false s₀ (t.freshSession resume).2 := h.fresh

theorem Kept.sendReply {port addr udp : Nat} {m : JrpMsg} (h : Kept false s₀ t) : Kept false s₀ (t.sendReply port addr udp m) :=
  h.emit

theorem Kept.openReply {id nonce : Nat} {hmac : Bool} {qc : Nat} (h : Kept false s₀ t) :
    Kept false s₀ (t.openReply id nonce hmac qc).2 :=
  h.fresh

theorem Kept.openSession {h' : JrpHdr} {p : JrpPeer} {resume nonce qc : Nat} (h : Kept false s₀ t) :
    Kept false s₀ (t.openSession h' p resume nonce qc) := by
  unfold State.openSession
  extract_lets +onlyGivenNames old f1
  clear_value old
  have h1 : Kept false s₀ f1.2 := by
    unfold f1
    split
    · exact h
    · exact h.freshSession
  exact h1.openReply.updJrp.sendReply.jrpPump

theorem Kept.jrpOpen {h' : JrpHdr} {peer resume nonce : Nat} {qc : Option Nat} {sigOk : Bool} (h : Kept false s₀ t) :
    Kept false s₀ (t.jrpOpen h' peer resume nonce qc sigOk) := by
  unfold State.jrpOpen
  split
  · exact h
  · split
    · exact h
    · split
      · exact h
      · split
        · exact h.sendReply
        · exact Kept.ite h.sendReply h.openSession

theorem Kept.jrpClose {h' : JrpHdr} (h : Kept false s₀ t) : Kept false s₀ (t.jrpClose h') := by
  unfold State.jrpClose
  split
  · exact h
  · split
    · exact h.jrpDiscard
    · split
      · exact h
      · exact Kept.ite h.jrpDiscard h.closeSession

theorem Kept.dropKept {id : Nat} (h : Kept false s₀ t) : Kept false s₀ (t.dropKept id) := by
  unfold State.dropKept
  exact h.updJrp

theorem Kept.sessionTimeout {id : Nat} (h : Kept false s₀ t) : Kept false s₀ (t.sessionTimeout id) :=
  h.when (fun _ k => k.closeSession)

theorem Kept.endRunning {id txid : Nat} (h : Kept false s₀ t) : Kept false s₀ (t.endRunning id txid) := h.updJrp

theorem Kept.partAnswer {y : DruseSalvo} {sys code : Nat} (h : Kept false s₀ t) : Kept false s₀ (t.partAnswer y sys code) := by
  unfold State.partAnswer
  extract_lets +onlyGivenNames y' run tell
  have ht (c : Nat) (u : State) (k : Kept false s₀ u) : Kept false s₀ (tell c u) := Kept.ite k.endRunning.answerCmd.jrpPump k
  clear_value tell
  split
  · refine ht _ _ ?_
    split
    · exact h.abortParts.runFab
    · exact h.abortParts
  · split
    · refine ht _ _ ?_
      split
      · exact h.putDruseSalvo.sendParts.runFab
      · exact h.putDruseSalvo.sendParts
    · exact h.putDruseSalvo

theorem Kept.memberAnswer {id txid sys code : Nat} {fields : List Nat} (h : Kept false s₀ t) :
    Kept false s₀ (t.memberAnswer id txid sys code fields) := by
  unfold State.memberAnswer
  split
  · exact h.partAnswer
  · split
    · exact Kept.ite h.updJrp.sendForward (Kept.ite h.updJrp.endRunning.answerCmd.jrpPump h.updJrp)
    · exact Kept.ite h h.jrpFinal

theorem Kept.forwardTimeout {id txid : Nat} (h : Kept false s₀ t) : Kept false s₀ (t.forwardTimeout id txid) := by
  unfold State.forwardTimeout
  extract_lets +onlyGivenNames _
  split
  · exact Kept.ite (Kept.ite h.putDruseSalvo.sendParts.endRunning.answerCmd.jrpPump h.putDruseSalvo.sendParts) h
  · split
    · exact h
    · exact Kept.ite (Kept.ite h.updJrp.sendForward.endRunning.answerCmd.jrpPump h.updJrp.sendForward) h

theorem Kept.actMessage {sender type : Nat} {body : List Byte} (h : Kept false s₀ t) :
    Kept false s₀ (t.actMessage sender type body) := by
  unfold State.actMessage
  split
  · split
    · exact h.partAnswer
    · exact h
  · split
    · exact h
    · extract_lets +onlyGivenNames _
      split
      · exact h.runFab.emit
      · exact h.emit
      · exact h.runFab
      · exact h.runFab
      · exact h

theorem Kept.busMessages (h : Kept false s₀ t) : Kept false s₀ t.busMessages := h.updGbus.each (fun _ _ k => k.actMessage)

theorem Kept.notifySend {id : Nat} (h : Kept false s₀ t) : Kept false s₀ (t.notifySend id) := by
  unfold State.notifySend
  split
  · exact h
  · extract_lets +onlyGivenNames _
    split
    · exact h
    · split
      · exact h.updSession.emit
      · split
        · exact h
        · exact h.updSession.emit

theorem Kept.mirrorAckRx {macOk : Bool} {seq : Nat} (h : Kept false s₀ t) : Kept false s₀ (t.mirrorAckRx macOk seq) :=
  Kept.ite h.macCheck.mirrorAck.jrpPump h.macCheck

theorem Kept.execMemberAnswer {session txid code : Nat} {rest : MemberFields} (h : Kept false s₀ t) :
    Completes s₀ (execMemberAnswer session txid code rest t) := by
  unfold Machine.execMemberAnswer
  apply Completes.next
  refine Kept.memberAnswer ?_
  split
  · exact h.sysnumCheck
  · exact h

/-! ### Ptp -/

theorem Kept.ptpSetPort {p : Nat} (h : Kept false s₀ t) : Kept false s₀ (t.ptpSetPort p) := Kept.ite h h.updPtp.raise

theorem Kept.ptpPorts (h : Kept false s₀ t) : Kept false s₀ t.ptpPorts := h.each (fun _ _ k => k.ptpSetPort)

theorem Kept.ptpSelected (h : Kept false s₀ t) : Kept false s₀ t.ptpSelected := Kept.ite h h.updPtp.raise

theorem Kept.ptpUtcSeen {b : PtpParent} (h : Kept false s₀ t) : Kept false s₀ (t.ptpUtcSeen b) :=
  Kept.ite h (h.updPtp.when (fun _ k => k.raise))

theorem Kept.ptpElect (h : Kept false s₀ t) : Kept false s₀ t.ptpElect := by
  unfold State.ptpElect
  extract_lets +onlyGivenNames best same t1
  clear_value best same
  have h1 : Kept false s₀ t1 := h.updPtp
  extract_lets +onlyGivenNames t2
  have h2 : Kept false s₀ t2 := h1.when (fun _ k => k.updPtp)
  extract_lets +onlyGivenNames t3
  have h3 : Kept false s₀ t3 := h2.ptpSelected
  refine Kept.ptpPorts ?_
  split
  · exact h3.ptpUtcSeen
  · exact h3

theorem Kept.ptpAnnounce {port source : Nat} {ds : PtpDataset} {utc : Int} {leap : Nat} (h : Kept false s₀ t) :
    Kept false s₀ (t.ptpAnnounce port source ds utc leap) :=
  Kept.ite h h.updPtp.ptpElect

theorem Kept.ptpStep {off : Int} (h : Kept false s₀ t) : Kept false s₀ (t.ptpStep off) := h.updTime.timeFirmware

theorem Kept.ptpSlew {off : Int} (h : Kept false s₀ t) : Kept false s₀ (t.ptpSlew off) := h.set.timeFirmware

theorem Kept.ptpDiscipline {off : Int} (h : Kept false s₀ t) : Kept false s₀ (t.ptpDiscipline off) :=
  Kept.ite (((((h.updPtp.when (fun _ k => k.raise)).updPtp).terrLand).ptpStep).updPtp) ((((h.updPtp.when (fun _ k =>
      k.raise)).updPtp).terrLand).ptpSlew)

theorem Kept.ptpSyncDone {t1 : Int} {t2 : Nat} (h : Kept false s₀ t) : Kept false s₀ (t.ptpSyncDone t1 t2) :=
  Kept.ite h.updPtp h.updPtp.ptpDiscipline

theorem Kept.ptpSmd {smd : List Word} (h : Kept false s₀ t) : Kept false s₀ (t.ptpSmd smd) :=
  Kept.ite h (h.updPtp.each (fun _ _ k => k.set))

theorem Kept.ptpDelayDone {q t4 : Nat} {corr : Int} (h : Kept false s₀ t) : Kept false s₀ (t.ptpDelayDone q t4 corr) := by
  unfold State.ptpDelayDone
  split
  · exact Kept.ite h (Kept.ite h.updPtp h.updPtp)
  · exact h

theorem Kept.ptpReceive {port stamp : Nat} {msg : PtpMsg} (h : Kept false s₀ t) : Kept false s₀ (t.ptpReceive port stamp msg) := by
  unfold State.ptpReceive
  extract_lets +onlyGivenNames _
  split
  · exact h
  · split
    · exact h.ptpAnnounce
    · exact h.when (fun _ k => k.ptpSmd.ptpSyncDone)
    · exact h.when (fun _ k => k.updPtp)
    · split
      · split
        · exact Kept.ite h.ptpSmd.ptpSyncDone h
        · exact h
      · exact h
    · exact h.when (fun _ k => k.emit)
    · exact h.when (fun _ k => k.ptpDelayDone)
    · exact h

theorem Kept.ptpSend {port : Nat} {kind : PtpKind} {stamp : Nat} (h : Kept false s₀ t) :
    Kept false s₀ (t.ptpSend port kind stamp) := by
  unfold State.ptpSend
  split
  · exact h
  · extract_lets +onlyGivenNames t1
    have h1 : Kept false s₀ t1 := h.ptpElect
    extract_lets +onlyGivenNames _ _ go2
    have h2 : Kept false s₀ go2 := h1.updPtp
    split
    · exact h1
    · split
      · exact h2.emit.emit
      · exact h2.emit
      · exact h2.emit.updPtp
      · exact h1

theorem Kept.ptpSyncTimeout (h : Kept false s₀ t) : Kept false s₀ t.ptpSyncTimeout := Kept.ite h.updPtp.raise.ptpstatLand.ptpElect h

theorem Kept.ptpLocked (h : Kept false s₀ t) : Kept false s₀ t.ptpLocked := by
  unfold State.ptpLocked
  split
  · exact Kept.ite h.updPtp.ptpstatLand h
  · exact h

/-! ### RegRows -/

theorem Kept.lutAccess {m addr : Nat} {write : Bool} {data : Word} (h : Kept false s₀ t) :
    Kept false s₀ (t.lutAccess m addr write data) :=
  Kept.ite h.writeNow h.busRead

/-! ### Scrub -/

theorem Kept.micaUnc {g part addr : Nat} (h : Kept false s₀ t) : Kept false s₀ (t.micaUnc g part addr) :=
  Kept.ite h.bump.flintBankBad h.micaTableBad

theorem Kept.packetUnc {flow : Nat} (h : Kept false s₀ t) : Kept false s₀ (t.packetUnc flow) := h.bump.updRxf

theorem Kept.sampleUnc {voice : Nat} (h : Kept false s₀ t) : Kept false s₀ (t.sampleUnc voice) := h.bump.updAud

theorem Kept.scrubRead {mem addr flips unit part : Nat} (h : Kept false s₀ t) :
    Kept false s₀ (t.scrubRead mem addr flips unit part) := by
  unfold State.scrubRead
  split
  · exact h
  · split
    · exact h.storeEcc
    · split
      · exact h.tableWords (fun _ k => k.cnvCause)
      · extract_lets +onlyGivenNames q1
        have h1 : Kept false s₀ q1.2 := h.wordBad
        split
        · exact h1
        · split
          · exact h1.sramCor
          · split
            · exact h1.packetUnc
            · exact h1.sampleUnc
            · exact h1.micaUnc
            · exact h1.sramUnc

theorem Kept.dramUnc {client : DramClient} {addr : Nat} (h : Kept false s₀ t) : Kept false s₀ (t.dramUnc client addr) := by
  unfold State.dramUnc
  split
  · exact h.poisonIng
  · exact h.readHeld
  · split
    · exact h.when (fun _ k => k.poisonIng)
    · exact h
  · exact h.updDec
  · exact h.updRxf
  · exact h.dataErr.answer
  · exact h
  · exact h

theorem Kept.dramServed {addr len cls : Nat} {client : DramClient} {flips : Nat} (h : Kept false s₀ t) :
    Kept false s₀ (t.dramServed addr len cls client flips) :=
  Kept.ite h (Kept.ite h.countUnits.eccCheck.dramUnc h.countUnits.eccCheck)

/-! ### Sp -/

theorem Kept.updSp {f : SpPort → SpPort} (h : Kept false s₀ t) : Kept false s₀ (t.updSp f) := h.updMgt rfl nofun

theorem Kept.spDiscard (h : Kept false s₀ t) : Kept false s₀ t.spDiscard := h.set.bump.raise.updSp

theorem Kept.spLost (h : Kept false s₀ t) : Kept false s₀ t.spLost := h.bump.updSp

theorem Kept.spIssue {write : Bool} {addr : Nat} {data : Word} (h : Kept false s₀ t) : Kept false s₀ (t.spIssue write addr data) :=
  Kept.ite h.spLost (Kept.ite h.updSp.busWrite h.updSp.busRead)

theorem Kept.spReport (h : Kept false s₀ t) : Kept false s₀ t.spReport := h.updSp

theorem Kept.spRx {frame : List Byte} (h : Kept false s₀ t) : Kept false s₀ (t.spRx frame) := by
  unfold State.spRx
  split
  · exact h
  · split
    · exact h.spIssue
    · exact h.spIssue
    · exact h.spReport
    · exact h.spDiscard

theorem Kept.spDone (h : Kept false s₀ t) : Kept false s₀ t.spDone := by
  unfold State.spDone
  split
  · exact h.updSp
  · exact h

theorem Kept.spTimeout (h : Kept false s₀ t) : Kept false s₀ t.spTimeout := by
  unfold State.spTimeout
  split
  · exact h
  · exact Kept.ite h (((h.fresh.fresh.updMgt rfl nofun).showOut).updSp)

/-! ### Tick -/

theorem Kept.stepSeen {old : Nat} (h : Kept false s₀ t) : Kept false s₀ (t.stepSeen old) :=
  (h.stepDone.takesStepped.gbusStepped.when (fun _ k => k.judgePhase)).updPtp

theorem Kept.timeAdvance (h : Kept false s₀ t) : Kept false s₀ t.timeAdvance := by
  have hc : Kept false s₀ (t.takeStep.2.countTick t.takeStep.1) := h.takeStep.countTick
  have h1 : Kept false s₀ { t.takeStep.2.countTick t.takeStep.1 with now := t.takeStep.2.now + 2 } :=
    Kept.same hc rfl rfl rfl rfl rfl
  unfold State.timeAdvance
  refine Kept.showLoop (Kept.when (Kept.decayBuildout (Kept.when (Kept.updLode ?_) fun _ k => k.stepSeen)) fun _ k => k.clkRejoin)
  exact Kept.same hc rfl rfl rfl rfl rfl

theorem Kept.showTime (h : Kept false s₀ t) : Kept false s₀ t.showTime := by
  unfold State.showTime
  extract_lets +onlyGivenNames _ t1
  have h1 : Kept false s₀ t1 := h.when (fun _ k => k.showWatchdog)
  extract_lets +onlyGivenNames t2
  have h2 : Kept false s₀ t2 := by
    unfold t2
    split
    · exact h1.set.windowExpire
    · exact h1
  split
  · exact h2.set
  · exact h2

theorem Kept.tick (h : Kept false s₀ t) : Kept false s₀ t.tick := by
  unfold State.tick
  exact ((((((((((h.timeAdvance.when (fun _ k =>
      k.showOcc)).freeMoved).servoTick).captureTick).showTime).endBoxes).restartDue).loadResume).busMessages).jrpPump).restartBlocks

/-! ### Every command -/

/-- Every command completes, but for an audio frame beyond the limit of its bit clock (R261). -/
theorem exec_completes (i : Instr) (s : State) (hi : ∀ n bclks hz slots, i = .aprtFrame n bclks hz slots → hz ≤ 98304000) :
    Completes s (exec i s) := by
  have h := Kept.refl (mx := false) s
  cases i with
  | registerWrite => exact h.busWrite.next
  | domainWriteEffect => exact h.execDomainWriteEffect
  | unlock => exact h.busWrite.next
  | unlockTimeout => exact (Kept.ite h h.disarm).next
  | blockSoftReset => exact h.ctrlWrite.next
  | blockEnable => exact h.ctrlWrite.next
  | blockDisable => exact h.ctrlWrite.next
  | blockStopDone => exact h.execBlockStopDone
  | powerOnReset => exact Kept.next (Kept.powerOn (Kept.updKey (Kept.same h rfl rfl rfl rfl rfl)))
  | warmRestart => exact (h.when (fun _ k => k.warmStart)).next
  | startPllWaitExpire => exact h.pllWaitExpire.next
  | lockwaitExpire => exact h.lockWaitExpire.next
  | frameStart => exact h.frameStartIn.next
  | noFrameTimeout => exact (h.when (fun _ k => k.toNosig)).next
  | ingressCellWrite => exact (h.when (fun _ k => k.cellWrite)).next
  | egressReadPoint => exact (Kept.ite h.readPoint (h.when (fun _ k => k.storeRead))).next
  | planeFrameInstant => exact h.execPlaneFrameInstant
  | fsDramLate => exact (h.when (fun _ k => k.fsLate)).next
  | compact => exact h.compactDone.mirrorFlush.next
  | create => exact h.writeNow.next
  | destroy => exact h.writeNow.next
  | append => exact h.writeNow.next
  | resolve => exact h.writeNow.next
  | chnLowmarkWrite => exact h.writeNow.next
  | appendClaimAnswer => exact h.claimAnswer.mirrorFlush.next
  | appendClaimTimeout => exact h.claimTimeout.mirrorFlush.next
  | entryRelease => exact h.releaseEntry.next
  | take => exact h.writeNow.next
  | cancel => exact h.writeNow.next
  | lock => exact h.writeNow.next
  | unlockOutput => exact h.writeNow.next
  | protect => exact h.writeNow.next
  | unprotect => exact h.writeNow.next
  | openGid => exact h.writeNow.next
  | add => exact h.writeNow.next
  | arm => exact h.writeNow.next
  | commit => exact h.writeNow.next
  | abort => exact h.writeNow.next
  | salvoOpenExpire => exact h.salvoOpenExpire.next
  | salvoExpired => exact h.salvoExpire.next
  | latchPoint => exact h.twinLatch.next
  | switchInstant => exact h.switchAll.next
  | tcqpop => exact h.writeNow.next
  | outputFrameSend => exact h.outputSend.next
  | egressCheck => exact h.egressCheck.next
  | digestVerdict => exact h.digestVerdict.next
  | safeContentSwitch => exact h.contentSwitch.next
  | outclr => exact h.writeNow.next
  | chkinvWrite => exact h.writeNow.next
  | chkinvDone => exact h.chkinvStruck.next
  | tokinjWrite => exact h.writeNow.next
  | scrubRead => exact h.scrubRead.next
  | rateHuntDwell => exact h.huntDwell.next
  | sdiLine => exact h.sdiLineIn.next
  | sdiFrameStart => exact h.sdiFrame.next
  | ancPacketRx => exact h.ancIn.next
  | audioPacketRx => exact h.audioPacketIn.next
  | ipmFrameRelease => exact h.ipmRelease.next
  | legDown => exact h.legDown.next
  | audioSampleTick => exact h.audioTick.next
  | ipmPacketSend => exact h.packetSend.next
  | audioFlowSend => exact h.audioSend.next
  | igmpReportTimer => exact h.igmpAgain.next
  | igmpQueryRx => exact h.igmpQuery.next
  | igmpCompatTimeout => exact h.updIpm.next
  | joinTimeout => exact h.joinTimeout.next
  | poldropAccumulate => exact (h.each (fun _ _ k => k.updRxf)).next
  | source => exact h.writeNow.next
  | couple => exact h.writeNow.next
  | gain => exact h.writeNow.next
  | mute => exact h.writeNow.next
  | xfmode => exact h.writeNow.next
  | audioBlockBoundary => exact (Kept.ite ((h.each (fun _ _ k => k.aprtTake)).blockBoundary) h).next
  | aprtFrame n bclks hz slots => exact h.execAprtFrame (hi _ _ _ _ rfl)
  | asrcRelockDone => exact (h.when (fun _ k => k.updAprt.set)).next
  | clklost => exact (h.when (fun _ k => k.aprtClkLost)).next
  | swap => exact (h.when (fun _ k => k.writeNow)).next
  | swapDone => exact h.cnvSwapDone.next
  | cnvLutdataAccess => exact (h.when (fun _ k => k.lutAccess)).next
  | cnvFrame => exact h.cnvFrame.next
  | bind => exact (h.when (fun _ k => k.writeNow)).next
  | rebind => exact (h.when (fun _ k => k.writeNow)).next
  | unbind => exact (h.when (fun _ k => k.writeNow)).next
  | micaCommit => exact (h.when (fun _ k => k.writeNow)).next
  | reflatten => exact (h.when (fun _ k => k.writeNow)).next
  | flattenDone => exact h.flattenDone.next
  | selectionPoint => exact h.selectionPoint.next
  | micaLutdataAccess => exact (h.when (fun _ k => k.lutAccess)).next
  | flintloadGo => exact (h.when (fun _ k => k.writeNow)).next
  | flintLoadDone => exact h.flintLoadDone.next
  | micaFrameWrite => exact h.micaFrame.next
  | flintFail => exact h.flintVerdict.next
  | decimatorFrame => exact h.decFrame.next
  | layerStaleTimeout => exact h.layerStale.next
  | scanTrainDone => exact h.scanTrained.next
  | edpHpdEdge => exact h.hpdEdge.next
  | scanTrainRetry => exact h.scanRetry.next
  | flip => exact h.writeNow.next
  | scanLatchPoint => exact h.scanLatch.next
  | scanFrameStart => exact h.scanFrame.next
  | underrun => exact h.scanUnderrun.next
  | psrEntry => exact h.psrEntry.next
  | psrexit => exact h.writeNow.next
  | nativeRead => exact h.writeNow.next
  | nativeWrite => exact h.writeNow.next
  | i2cRead => exact h.writeNow.next
  | i2cWrite => exact h.writeNow.next
  | auxReply => exact h.auxReply.next
  | auxTimeout => exact h.execAuxTimeout
  | signalDetect => exact (h.laneEvent (fun _ k => k.signalDetect)).next
  | cdrLock => exact h.cdrLock.next
  | cdrLost => exact (h.laneEvent (fun _ k => k.cdrLost)).next
  | blockLock => exact h.blockLock.next
  | blockLost => exact (h.laneEvent (fun _ k => k.blockWindow)).next
  | cellRx => exact (h.laneEvent (fun _ k => k.cellIn)).next
  | polInv => exact h.polInvert.next
  | serviceCellSend => exact h.serviceSend.next
  | serviceCellRx => exact h.serviceIn.twinService.next
  | pllRetuneDone => exact h.retuneDone.mirrorFlush.next
  | pllRetuneTimeout => exact h.retuneTimeout.mirrorFlush.next
  | pllaLost => exact h.pllLost.next
  | pllRelock => exact (Kept.ite h h.pllLocks).next
  | txeqWrite => exact (h.when (fun _ k => k.writeNow)).next
  | laneCfgWrite => exact (h.when (fun _ k => k.writeNow)).next
  | eqLimit => exact h.eqLimit.next
  | eyeMeasure => exact h.eyeMeasure.next
  | ethFrameRx => exact h.ethFrameIn.next
  | pauseExpire => exact h.pauseOver.next
  | pauseWd => exact h.pauseWatchdog.next
  | pauseWdRelease => exact h.watchdogOver.next
  | txkick => exact (h.when (fun _ k => k.writeNow)).next
  | ringFrameSent => exact h.ringSent.next
  | linkUp => exact (Kept.ite h.ethLinkUp h).next
  | linkDown => exact (Kept.ite h.ethLost h).next
  | speed => exact (h.ethDown (fun _ k => k.sgmiiSpeed)).next
  | statsnap => exact (h.when (fun _ k => k.writeNow)).next
  | statsSnapPeriod => exact (h.each (fun _ _ k => k.statTotal)).next
  | incrWrite => exact h.writeNow.next
  | stepWrite => exact h.writeNow.next
  | stepped => exact (h.when (fun _ k => k.tick)).next
  | servoOffset => exact h.writeNow.tick.next
  | timeModeWrite => exact h.writeNow.next
  | capture => exact h.writeNow.tick.next
  | txqPop => exact (h.when (fun _ k => k.writeNow)).next
  | ptpMessageRx => exact h.ptpReceive.next
  | ptpMessageSend => exact h.ptpSend.next
  | syncTimeout => exact h.ptpSyncTimeout.next
  | networkTimeLocked => exact h.ptpLocked.next
  | refLost => exact (h.when (fun _ k => k.disqualify)).next
  | refQual => exact (h.when (fun _ k => k.qualify)).next
  | ptpstatWrite => exact h.writeNow.next
  | refRevert => exact h.reselect.next
  | selWrite => exact h.writeNow.next
  | loopPhaseCompare => exact h.phaseCompare.next
  | loopStageDwell => exact h.stageAdvance.loadResume.next
  | holdoverUpdate => exact h.holdSecond.next
  | loopstepWrite => exact h.writeNow.next
  | phstepDone => exact h.loopStepMoves.next
  | planeStep => exact (h.when (fun _ k => k.writeNow)).next
  | dramTrainDone => exact h.trainDone.loadResume.next
  | refreshDue => exact (h.when (fun _ k => k.refreshDue)).next
  | mr4Poll => exact (h.when (fun _ k => k.mr4Poll)).next
  | requestAgeExpire => exact (h.when (fun _ k => k.ageExpire)).next
  | dramRead => exact h.dramServed.next
  | scrubLate => exact h.scrubLate.next
  | trackInterval => exact (h.when (fun _ k => k.trackMove)).next
  | drcChkinvWrite => exact h.writeNow.next
  | drcChkinvApply => exact (h.when (fun _ k => k.chkinvStrike)).next
  | dwbankWrite => exact h.writeNow.next
  | twinLinkUp => exact h.twinUp.next
  | linkUpRecordRx => exact h.linkRecord.next
  | twinLinkDown => exact h.twinDown.next
  | twinDeadtime => exact h.deadTime.next
  | recover => exact h.writeNow.next
  | xchg => exact h.writeNow.next
  | twinCycleBoundary => exact h.cycleBoundary.next
  | copyResend => exact h.copyAgain.next
  | cycleCopyRx => exact (Kept.ite h.macCheck.copyIn h.macCheck).next
  | copyAckRx => exact (Kept.ite h.macCheck.copyAck h.macCheck).next
  | mirrorRecordRx => exact (Kept.ite h.macCheck.mirrorIn h.macCheck).next
  | mirrorAckRx => exact h.mirrorAckRx.next
  | mirrorResend => exact h.mirrorAgain.next
  | latchRecordRx => exact (Kept.ite (h.macCheck.each (fun _ _ k => k.latchListed)) h.macCheck).next
  | signatureRx => exact (Kept.ite h.macCheck.compareSigs h.macCheck).next
  | supplyOkEdge => exact h.supplyEdge.next
  | pmbusPoll => exact h.pmbusPoll.next
  | gbusTxLatch => exact h.gbusLatch.next
  | gbusOwnSlot => exact h.gbusOwnSlot.next
  | txgo => exact h.writeNow.next
  | gbusFrameRx => exact h.gbusFrame.next
  | gbusSlotMiss => exact h.slotMiss.next
  | gbusPairWindow => exact h.pairWindow.next
  | terrWrite => exact h.writeNow.next
  | terrTimeout => exact h.terrTimeout.next
  | gbusPop => exact h.writeNow.next
  | eventRaise => exact (h.when (fun _ k => k.raiseWord)).next
  | recordEntry => exact h.enterNext.next
  | reactionAckTimeout => exact h.ackTimeout.next
  | ack => exact (h.when (fun _ k => k.writeNow)).next
  | slotHeld => exact (Kept.ite h.slotHeld h).next
  | safeclr => exact h.writeNow.next
  | histclr => exact h.writeNow.next
  | pintest => exact h.writeNow.next
  | pinReadback => exact h.pinSample.next
  | lockstep => exact h.warmStart.next
  | wdsvc => exact h.writeNow.next
  | wdog => exact (h.when (fun _ k => k.wdExpire)).next
  | watchdogRestart => exact (h.when (fun _ k => k.warmStart)).next
  | lockedRead => exact h.busRead.next
  | bmxForced => exact h.lockForced.next
  | remapWrite => exact h.writeNow.next
  | dmaGo => exact (h.when (fun _ k => k.writeNow)).next
  | dmaDone => exact h.dmaDone.next
  | sensorConversion => exact h.sensorDone.next
  | trig => exact h.writeNow.next
  | spWrite => exact h.spRx.next
  | spRead => exact h.spRx.next
  | spStatus => exact h.spRx.next
  | spTransactionDone => exact h.spDone.next
  | spTimeout => exact h.spTimeout.next
  | presence => exact h.presencePress.next
  | presenceWindowExpire => exact h.windowExpire.next
  | sealOpen => exact h.sealOpen.next
  | presenceRecoveryHold => exact h.recoveryHold.next
  | lcChange => exact h.writeNow.next
  | keymsg => exact (h.gated (fun _ k => k.keyCmd)).next
  | attest => exact h.writeNow.next
  | begin => exact h.writeNow.next
  | write => exact h.writeNow.next
  | verify => exact (h.gated (fun _ k => k.updCmd)).next
  | updCommit => exact ((h.gated (fun _ k => k.updCmdLand)).restartDue).next
  | confirm => exact h.writeNow.next
  | updAbort => exact h.writeNow.next
  | trialFallback => exact (Kept.ite h.trialExpire.warmStart h.trialExpire).next
  | jrpOpen => exact h.jrpOpen.next
  | close => exact h.jrpClose.next
  | sessionTimeout => exact h.sessionTimeout.next
  | sessionRetainExpire => exact h.dropKept.next
  | nop => exact h.jrpRequest.next
  | jrpTake => exact h.jrpRequest.next
  | jrpCancel => exact h.jrpRequest.next
  | jrpLock => exact h.jrpRequest.next
  | jrpUnlock => exact h.jrpRequest.next
  | jrpProtect => exact h.jrpRequest.next
  | jrpUnprotect => exact h.jrpRequest.next
  | dtake => exact h.jrpRequest.next
  | druseForwardTimeout => exact h.forwardTimeout.next
  | salvoOpen => exact h.jrpRequest.next
  | salvoAdd => exact h.jrpRequest.next
  | salvoArm => exact h.jrpRequest.next
  | salvoCommit => exact h.jrpRequest.next
  | salvoAbort => exact h.jrpRequest.next
  | jrpCreate => exact h.jrpRequest.next
  | jrpDestroy => exact h.jrpRequest.next
  | jrpAppend => exact h.jrpRequest.next
  | jrpResolve => exact h.jrpRequest.next
  | voice => exact h.jrpRequest.next
  | layer => exact h.jrpRequest.next
  | micaSet => exact h.jrpRequest.next
  | flintLoad => exact h.jrpRequest.next
  | cnvLoad => exact h.jrpRequest.next
  | cnvSwap => exact h.jrpRequest.next
  | query => exact h.jrpRequest.next
  | subscribe => exact h.jrpRequest.next
  | unsubscribe => exact h.jrpRequest.next
  | jrpAttest => exact h.jrpRequest.next
  | updStage => exact h.jrpRequest.next
  | updConfirm => exact h.jrpRequest.next
  | jrpXchg => exact h.jrpRequest.next
  | jrpUpdCommit => exact h.jrpRequest.next
  | jrpLcChange => exact h.jrpRequest.next
  | jrpKeymsg => exact h.jrpRequest.next
  | forceClear => exact h.jrpRequest.next
  | finalStatus => exact h.finalStatus.next
  | notifySend => exact h.notifySend.next
  | edpLinkLoss => exact (Kept.ite h.scanDown h).next
  | prbsCheck => exact h.prbsCheck.next
  | pcsLock => exact (Kept.ite h.pcsLock h).next
  | faultSequence => exact (Kept.ite (h.ethDown (fun _ k => k.faultSequence)) h).next
  | refDisqual => exact (h.when (fun _ k => k.disqualify)).next
  | quadPllLockTimeout => exact h.pllLockTimeout.next
  | sealClosed => exact h.sealClosed.next
  | presenceRelease => exact h.presenceRelease.next
  | memberAnswer => exact h.execMemberAnswer
  | avsRequest => exact h.avsRequest.next
  | avsAnswer => exact h.avsAnswer.next
  | avsTimeout => exact h.avsTimeout.next

theorem execAprtFrame_fault {n bclks hz : Nat} {slots : List Nat} {s : State}
    (h : s.get (Reg.APRT.STAT_STATE n) ≠ 0 ∧ s.aprtMode n ≠ 0 ∧ 98304000 < hz) :
    exec (.aprtFrame n bclks hz slots) s = .fault .aprtClockTooFast := if_pos h

/-- A command completes, or it is an audio frame that a running slave port meets with too fast a bit clock. -/
theorem exec_completes_or_faults (i : Instr) (s : State) : Completes s (exec i s) ∨
    ∃ n bclks hz slots, i = .aprtFrame n bclks hz slots ∧
      s.get (Reg.APRT.STAT_STATE n) ≠ 0 ∧ s.aprtMode n ≠ 0 ∧ 98304000 < hz := by
  by_cases hi : ∀ n bclks hz slots, i = .aprtFrame n bclks hz slots → hz ≤ 98304000
  · exact .inl (exec_completes i s hi)
  · push Not at hi
    obtain ⟨n, bclks, hz, slots, rfl, hhz⟩ := hi
    by_cases hf : s.get (Reg.APRT.STAT_STATE n) ≠ 0 ∧ s.aprtMode n ≠ 0 ∧ 98304000 < hz
    · exact .inr ⟨n, bclks, hz, slots, rfl, hf⟩
    · exact .inl ⟨_, if_neg hf, (Kept.refl s).when fun _ k => k.aprtFrame⟩

theorem Completes.kept {o : Host.Outcome State Fault Refusal} (h : Completes s₀ o) (e : o = .next t) : Kept false s₀ t := by
  obtain ⟨u, rfl, hu⟩ := h
  cases e
  exact hu

/-- A command that answers a next state keeps what `Kept` says. -/
theorem exec_kept {i : Instr} {s : State} (h : exec i s = .next t) : Kept false s t := by
  rcases exec_completes_or_faults i s with hc | ⟨n, bclks, hz, slots, rfl, hf⟩
  · exact hc.kept h
  · rw [execAprtFrame_fault hf] at h
    cases h

/-- A step is a tick, or carries out the command at the front of the queue. -/
theorem step_cases {s : State} (h : step s = .next t) :
    (s.pending = [] ∧ t = s.tick) ∨ ∃ c rest, s.pending = c :: rest ∧ exec c { s with pending := rest } = .next t := by
  unfold step at h
  split at h
  · cases h
    exact .inl ⟨‹_›, rfl⟩
  · exact .inr ⟨_, _, ‹_›, h⟩

/-- Settles O55: registers and memories are written only through the writes that keep their canonical form. -/
theorem soundIsKept : Obligations.SoundIsKept := by
  unfold Obligations.SoundIsKept
  intro s t hs h
  rcases step_cases h with ⟨-, rfl⟩ | ⟨c, rest, -, he⟩
  · exact (Kept.refl s).tick.sound hs
  · exact (exec_kept he).sound ⟨hs.regs, hs.mem⟩

/-- Settles O56: the one operation on the fuses, `blow`, only sets them. -/
theorem fusesStayBlown : Obligations.FusesStayBlown := by
  unfold Obligations.FusesStayBlown
  intro s t h
  rcases step_cases h with ⟨-, rfl⟩ | ⟨c, rest, -, he⟩
  · exact (Kept.refl s).tick.fuses
  · exact (exec_kept he).fuses

/-- Settles O57: no command touches the queue, and the step takes its front. -/
theorem commandsAreTakenInOrder : Obligations.CommandsAreTakenInOrder := by
  unfold Obligations.CommandsAreTakenInOrder
  intro s t c rest hp h
  rcases step_cases h with ⟨he, -⟩ | ⟨c', rest', hp', he⟩
  · rw [hp] at he
    cases he
  · rw [hp] at hp'
    cases hp'
    exact (exec_kept he).pending

/-- Settles O58, from `exec_completes`, whose one condition is the limit of the bit clock. -/
theorem everyCommandCompletes : Obligations.EveryCommandCompletes := by
  unfold Obligations.EveryCommandCompletes
  refine ⟨fun c s hc => ?_, fun c s => ?_⟩
  · obtain ⟨t, ht, k⟩ := exec_completes c s hc
    exact ⟨t, ht, k.pending⟩
  · rcases exec_completes_or_faults c s with ⟨t, ht, -⟩ | ⟨n, bclks, hz, slots, rfl, hf⟩
    · exact .inl ⟨t, ht⟩
    · exact .inr ⟨n, bclks, hz, slots, rfl, execAprtFrame_fault hf, hf⟩

end Sys2Proof.Machine
end

section
/-! SUPPORT. Reading rules that the obligations of the register commands share: what a field reads after it was set from a
Boolean, counted up or had a bit set; which pages and words an operation leaves; and the one write that a register command of a
quiet bus makes. -/

namespace Sys2Proof.Machine
namespace State

variable (s : State)

/-! ### Fields -/

theorem get_setB_same {r : FRef} (b : Bool) (h : r.hi < 32) (hw : r.lo ≤ r.hi) : (s.setB r b).get r = b2n b := by
  have hwidth : 1 < 2 ^ r.width := Nat.one_lt_two_pow (by unfold FRef.width; omega)
  rw [setB, get_set_same s _ h]
  cases b
  · exact Nat.zero_mod _
  · exact Nat.mod_eq_of_lt hwidth

theorem get_bump_same {r : FRef} (n : Nat) (h : r.hi < 32) : (s.bump r n).get r = (s.get r + n) % 2 ^ r.width :=
  get_set_same s _ h

theorem get_lt (r : FRef) : s.get r < 2 ^ r.width := bits_lt _ _ _

/-- A field set to the value it has. -/
theorem get_eq_mod (r : FRef) : s.get r % 2 ^ r.width = s.get r := Nat.mod_eq_of_lt (s.get_lt r)

theorem flag_eq_true {s : State} {r : FRef} : s.flag r = true ↔ s.get r ≠ 0 := by simp [flag]

theorem flag_eq_false {s : State} {r : FRef} : s.flag r = false ↔ s.get r = 0 := by simp [flag]

theorem flag_of_one {s : State} {r : FRef} (h : s.get r = 1) : s.flag r = true := by simp [flag, h]

/-- The bit that was set reads 1. -/
theorem bit_get_orBit {r : FRef} {i : Nat} (h : r.hi < 32) (hi : i < r.width) : bit ((s.orBit r i).get r) i = true := by
  rw [orBit, get_set_same s _ h, bit, Nat.testBit_mod_two_pow, Nat.testBit_or, Nat.testBit_two_pow_self]
  simp [hi]

theorem bit_get_eventEn {e : FRef} (v : FRef) {i : Nat} (src : Nat) (items : List Nat) (h : e.hi < 32) (hi : i < e.width)
    (haddr : e.addr < 0x11003000 ∨ 0x11004800 ≤ e.addr) : bit ((s.eventEn e v i src items).get e) i = true := by
  have hset := bit_get_orBit s h hi
  unfold eventEn
  dsimp only
  split
  · rw [get_raise _ _ _ haddr]
    exact hset
  · exact hset

/-- A field apart from EVSTAT and the collector's counts is left by an event. -/
theorem get_eventEn_other {r e : FRef} (v : FRef) (i src : Nat) (items : List Nat) (he : r.apart e = true) (hi : e.hi < 32)
    (haddr : r.addr < 0x11003000 ∨ 0x11004800 ≤ r.addr) : (s.eventEn e v i src items).get r = s.get r := by
  have hset := get_orBit_other s i he hi
  unfold eventEn
  dsimp only
  split
  · rw [get_raise _ _ _ haddr, hset]
  · exact hset

/-- An event leaves the bits of EVSTAT that were set. -/
theorem bit_get_eventEn_of {e : FRef} (v : FRef) {i : Nat} (j src : Nat) (items : List Nat) (h : e.hi < 32)
    (haddr : e.addr < 0x11003000 ∨ 0x11004800 ≤ e.addr) (hs : bit (s.get e) i = true) :
    bit ((s.eventEn e v j src items).get e) i = true := by
  have hwidth : i < e.width := by
    by_contra hw
    have hlt : s.get e < 2 ^ i := lt_of_lt_of_le (s.get_lt e) (Nat.pow_le_pow_right (by omega) (by omega))
    rw [bit, Nat.testBit_lt_two_pow hlt] at hs
    cases hs
  have hset : bit ((s.orBit e j).get e) i = true := by
    unfold bit at hs ⊢
    rw [orBit, get_set_same s _ h, Nat.testBit_mod_two_pow, Nat.testBit_or, hs]
    simp [hwidth]
  unfold eventEn
  dsimp only
  split
  · rw [get_raise _ _ _ haddr]
    exact hset
  · exact hset

end State

/-! ### Pages that are kept -/

section
variable {ks : List BlkKind} {s₀ s t : State}

theorem RegsKept.refl (ks : List BlkKind) (s : State) : RegsKept ks s s := fun _ _ => rfl

/-- The same register file. -/
theorem RegsKept.same (h : RegsKept ks s₀ t) {u : State} (hu : u.regs = t.regs) : RegsKept ks s₀ u := fun a ha => by
  rw [← h a ha, State.rd, State.rd, hu]

theorem RegsKept.set (h : RegsKept ks s₀ t) {r : FRef} (v : Nat) (hr : Outside ks r.addr = false) : RegsKept ks s₀ (t.set r v) :=
  h.trans (regsKept_set t v hr)

theorem RegsKept.raise (h : RegsKept ks s₀ t) (src : Nat) (items : List Nat) (hks : BlkKind.flt ∈ ks) :
    RegsKept ks s₀ (t.raise src items) := h.trans (regsKept_raise t src items hks)

theorem RegsKept.setB (h : RegsKept ks s₀ t) {r : FRef} (b : Bool) (hr : Outside ks r.addr = false) :
    RegsKept ks s₀ (t.setB r b) := h.set _ hr

theorem RegsKept.bump (h : RegsKept ks s₀ t) {r : FRef} (n : Nat) (hr : Outside ks r.addr = false) :
    RegsKept ks s₀ (t.bump r n) := h.set _ hr

theorem RegsKept.orBit (h : RegsKept ks s₀ t) {r : FRef} (i : Nat) (hr : Outside ks r.addr = false) :
    RegsKept ks s₀ (t.orBit r i) := h.set _ hr

theorem RegsKept.eventEn (h : RegsKept ks s₀ t) {e : FRef} (v : FRef) (i src : Nat) (items : List Nat)
    (he : Outside ks e.addr = false) (hks : BlkKind.flt ∈ ks) : RegsKept ks s₀ (t.eventEn e v i src items) := by
  unfold State.eventEn
  dsimp only
  split
  · exact (h.orBit i he).raise _ _ hks
  · exact h.orBit i he

theorem RegsKept.when (h : RegsKept ks s₀ t) (c : Bool) {f : State → State} (hf : RegsKept ks s₀ (f t)) :
    RegsKept ks s₀ (t.when c f) := by
  cases c
  · exact h
  · exact hf

theorem RegsKept.each {α : Type} (h : RegsKept ks s₀ t) (l : List α) {f : α → State → State}
    (hf : ∀ x u, RegsKept ks s₀ u → RegsKept ks s₀ (f x u)) : RegsKept ks s₀ (t.each l f) := State.each_inv t _ f l hf h

end

section
variable {l : List Nat} {s₀ t : State}

theorem WordsKept.refl (l : List Nat) (s : State) : WordsKept l s s := fun _ _ => rfl

theorem WordsKept.trans {u : State} (h : WordsKept l s₀ t) (h' : WordsKept l t u) : WordsKept l s₀ u :=
  fun a ha => (h' a ha).trans (h a ha)

theorem WordsKept.same (h : WordsKept l s₀ t) {u : State} (hu : u.regs = t.regs) : WordsKept l s₀ u := fun a ha => by
  rw [← h a ha, State.rd, State.rd, hu]

theorem WordsKept.wr (h : WordsKept l s₀ t) {a : Nat} (w : Word) (hr : a ∈ l) : WordsKept l s₀ (t.wr a w) := fun b hb => by
  rw [State.rd_wr_other t w (fun e => hb (by rw [e]; exact hr)), h b hb]

theorem WordsKept.set (h : WordsKept l s₀ t) {r : FRef} (v : Nat) (hr : r.addr ∈ l) : WordsKept l s₀ (t.set r v) :=
  h.wr _ hr

theorem WordsKept.setB (h : WordsKept l s₀ t) {r : FRef} (b : Bool) (hr : r.addr ∈ l) : WordsKept l s₀ (t.setB r b) :=
  h.wr _ hr

/-- A field of a word that is kept. -/
theorem WordsKept.get (h : WordsKept l s₀ t) {r : FRef} (hr : r.addr ∉ l) : t.get r = s₀.get r := by
  rw [State.get, State.get, h _ hr]

end

/-- A field of a page that is kept. -/
theorem RegsKept.get {ks : List BlkKind} {s t : State} (h : RegsKept ks s t) {r : FRef} (hr : Outside ks r.addr = true) :
    t.get r = s.get r := by
  rw [State.get, State.get, h _ hr]

/-! ### Operations on registers and flags alone -/

/-- Nothing but the registers, the fault collector and the times of the last raises differs. -/
def RegsOnly (s t : State) : Prop := ∃ r f l, t = { s with regs := r, flt := f, lastRaise := l }

namespace RegsOnly

variable {s t u : State}

theorem refl (s : State) : RegsOnly s s := ⟨_, _, _, rfl⟩

theorem trans (h : RegsOnly s t) (h' : RegsOnly t u) : RegsOnly s u := by
  obtain ⟨_, _, _, rfl⟩ := h
  obtain ⟨_, _, _, rfl⟩ := h'
  exact ⟨_, _, _, rfl⟩

theorem set (h : RegsOnly s t) (r : FRef) (v : Nat) : RegsOnly s (t.set r v) := h.trans ⟨_, _, _, rfl⟩
theorem setB (h : RegsOnly s t) (r : FRef) (b : Bool) : RegsOnly s (t.setB r b) := h.set r _
theorem bump (h : RegsOnly s t) (r : FRef) (n : Nat) : RegsOnly s (t.bump r n) := h.set r _
theorem bumpSat (h : RegsOnly s t) (r : FRef) (n : Nat) : RegsOnly s (t.bumpSat r n) := h.set r _
theorem orBit (h : RegsOnly s t) (r : FRef) (i : Nat) : RegsOnly s (t.orBit r i) := h.set r _

theorem raise (h : RegsOnly s t) (src : Nat) (items : List Nat) : RegsOnly s (t.raise src items) := by
  rw [State.raise_is]
  exact h.trans ⟨_, _, _, rfl⟩

theorem cause (h : RegsOnly s t) (e v : FRef) (src c : Nat) (items : List Nat) : RegsOnly s (t.cause e v src c items) := by
  rw [State.cause_is]
  exact h.trans ⟨_, _, _, rfl⟩

theorem event (h : RegsOnly s t) (e : FRef) (b src : Nat) (items : List Nat) : RegsOnly s (t.event e b src items) :=
  (h.orBit e b).raise src items

theorem eventEn (h : RegsOnly s t) (e v : FRef) (b src : Nat) (items : List Nat) :
    RegsOnly s (t.eventEn e v b src items) := by
  rw [State.eventEn_is]
  exact h.trans ⟨_, _, _, rfl⟩

theorem when (h : RegsOnly s t) (c : Bool) {f : State → State} (hf : ∀ u, RegsOnly s u → RegsOnly s (f u)) :
    RegsOnly s (t.when c f) := by
  cases c
  · exact h
  · exact hf t h

theorem each {α : Type} (h : RegsOnly s t) (l : List α) {f : α → State → State}
    (hf : ∀ x u, RegsOnly s u → RegsOnly s (f x u)) : RegsOnly s (t.each l f) := State.each_inv t _ f l hf h

theorem gbus (h : RegsOnly s t) : t.gbus = s.gbus := by obtain ⟨_, _, _, rfl⟩ := h; rfl
theorem out (h : RegsOnly s t) : t.out = s.out := by obtain ⟨_, _, _, rfl⟩ := h; rfl
theorem use (h : RegsOnly s t) (r : FRef) : t.use r = s.use r := by obtain ⟨_, _, _, rfl⟩ := h; rfl

end RegsOnly

/-- Nothing differs but what has been sent. -/
def SendsOnly (s t : State) : Prop := ∃ o, t = { s with out := o }

namespace SendsOnly

variable {s t : State}

theorem refl (s : State) : SendsOnly s s := ⟨_, rfl⟩

theorem emit (h : SendsOnly s t) (o : Output) : SendsOnly s (t.emit o) := by
  obtain ⟨_, rfl⟩ := h
  exact ⟨_, rfl⟩

theorem each {α : Type} (h : SendsOnly s t) (l : List α) {f : α → State → State}
    (hf : ∀ x u, SendsOnly s u → SendsOnly s (f x u)) : SendsOnly s (t.each l f) := State.each_inv t _ f l hf h

end SendsOnly

/-! ### The write of a register command -/

/-- The offsets at which an unlocked write is judged as a whole. -/
def heldWhole : List (BlkKind × Nat) :=
  [(.flt, 0x2C), (.prov, 0x20), (.prov, 0x30), (.prov, 0x4000), (.mica, 0x110), (.drcc, 0x50)]

/-- A register all of which lives in the domain of its block, whose clock never stops: row `i` of `r` in the map. -/
def domainReg (addr : Nat) (b : Blk) (r : RegDef) (i : Nat) : Bool :=
  ((RegMap.find addr).map fun x => (x.1, x.2.1, x.2.2.1)) == some (b, r, i) && (Blk.ofAddr addr).map (·.1) == some b &&
    decide (0x10000000 ≤ addr ∧ addr < 0x40000000 ∧ addr % 4 = 0) && b.has addr && r.plain && b.kind != .time &&
    !(b.kind == .lane && r.off == 0x10) && !heldWhole.contains (b.kind, r.off) && !b.busSide && !State.rxDomain b (addr - b.base) &&
    addr != 0x12000034

namespace State

theorem heldSpecial_none {b : Blk} {o : Nat} (h : heldWhole.contains (b.kind, o) = false) (m i : Nat) (data : Word) (t : State) :
    t.heldSpecial m b o i data = none := by
  obtain ⟨k, n⟩ := b
  cases k <;> simp_all [heldSpecial, heldWhole]

/-- What the check of a register says, part by part. -/
theorem domainReg_iff {addr i : Nat} {b : Blk} {r : RegDef} : domainReg addr b r i = true ↔
    (∃ j, RegMap.find addr = some (b, r, i, j)) ∧ (∃ o, Blk.ofAddr addr = some (b, o)) ∧
      (0x10000000 ≤ addr ∧ addr < 0x40000000 ∧ addr % 4 = 0) ∧ b.has addr = true ∧ r.plain = true ∧ b.kind ≠ .time ∧
      (b.kind ≠ .lane ∨ r.off ≠ 0x10) ∧ heldWhole.contains (b.kind, r.off) = false ∧ b.busSide = false ∧
      rxDomain b (addr - b.base) = false ∧ addr ≠ 0x12000034 := by
  have hfind : ((RegMap.find addr).map fun x => (x.1, x.2.1, x.2.2.1)) = some (b, r, i) ↔
      ∃ j, RegMap.find addr = some (b, r, i, j) := by
    cases RegMap.find addr with
    | none => simp
    | some x =>
      obtain ⟨b', r', i', j'⟩ := x
      simp
  have hpage : (Blk.ofAddr addr).map (·.1) = some b ↔ ∃ o, Blk.ofAddr addr = some (b, o) := by
    cases Blk.ofAddr addr with
    | none => simp
    | some x =>
      obtain ⟨b', o'⟩ := x
      simp
  have hlane : ¬(b.kind = .lane ∧ r.off = 0x10) ↔ b.kind ≠ .lane ∨ r.off ≠ 0x10 := not_and_or
  simp only [domainReg, Bool.and_eq_true, Bool.not_eq_true', beq_iff_eq, bne_iff_ne, decide_eq_true_eq, hfind, hpage,
    ← Bool.not_eq_true, hlane, and_assoc]

/-- The write of a register command on a quiet bus: it waits for its block, and takes effect there at once. -/
theorem writeNow_land {m addr i : Nat} {b : Blk} {r : RegDef} {s : State} (data : Word) (hq : Quiet m s)
    (hr : domainReg addr b r i = true) :
    s.writeNow m addr data = ((s.landed m b).landWrite (plainLanding m addr data)).showWpend b := by
  obtain ⟨hm, hlock, hland⟩ := hq
  obtain ⟨⟨j, hfind⟩, ⟨o, hpage⟩, ⟨hlo, hhi, hal⟩, hhas, hplain, htime, hlane, hheld, hside, hclock, hstep⟩ := domainReg_iff.mp hr
  exact writeNow_domain s hm hlock hland hfind hpage hlo hhi hal hhas hplain hlane (.inl htime) (heldSpecial_none hheld m i data)
    hside (fun t => by rw [clockStopped, hclock, Bool.false_and]) (beq_eq_false_iff_ne.mpr hstep)

/-- A register that starts something does what it does on the state that the issue of the write leaves. -/
theorem writeNow_special {m addr i : Nat} {b : Blk} {r : RegDef} {s u : State} {data : Word} (hq : Quiet m s)
    (hr : domainReg addr b r i = true) (hu : (s.landed m b).landSpecial m b r.off i data = some u) :
    s.writeNow m addr data = u.showWpend b := by
  obtain ⟨⟨j, hfind⟩, -⟩ := domainReg_iff.mp hr
  rw [writeNow_land data hq hr, landWrite_some hfind hu]

/-! What the issue of the write leaves, and the showing of WPEND after it. -/

section
variable {m : Nat} {b : Blk} {s : State}

theorem get_landed {r : FRef} (hm : m ≤ 6) (h : r.apart b.wpend = true) : (s.landed m b).get r = s.get r :=
  (landed_is m b s hm).regs r h

theorem regsOnly_showWpend (b : Blk) {s t : State} (h : RegsOnly s t) : RegsOnly s (t.showWpend b) := h.setB _ _

theorem get_showWpend_other {r : FRef} (h : r.apart b.wpend = true) : (s.showWpend b).get r = s.get r :=
  get_setB_other s _ h (by simp [Blk.wpend])

end

end State

section
variable {m : Nat} {b : Blk} {s t : State} {l : List Nat} {ks : List BlkKind}

theorem WordsKept.landed (hm : m ≤ 6) (hb : b.base + 4 ∈ l) : WordsKept l s (s.landed m b) := fun a ha =>
  (State.landed_is m b s hm).words a fun h => ha (h ▸ hb)

theorem WordsKept.showWpend (h : WordsKept l s t) (hb : b.base + 4 ∈ l) : WordsKept l s (t.showWpend b) := h.setB _ hb

theorem RegsKept.landed (hm : m ≤ 6) (hb : Outside ks (b.base + 4) = false) : RegsKept ks s (s.landed m b) := fun a ha =>
  (State.landed_is m b s hm).words a fun h => by simp [← h, ha] at hb

theorem RegsKept.showWpend (h : RegsKept ks s t) (hb : Outside ks (b.base + 4) = false) : RegsKept ks s (t.showWpend b) :=
  h.setB _ hb

end

end Sys2Proof.Machine
end

section
/-! SUPPORT. JRP sessions (R582, R585, R590): what opening, resuming and closing one does when no command waits. -/

namespace Sys2Proof.Machine
namespace State

/-- With no command running, held or queued, JRP has nothing to go on with. -/
theorem jrpPump_idle {s : State} (hr : s.jrp.running = []) (hh : s.jrp.held = [])
    (hq : (s.jrp.sessions.all fun y => y.queue.isEmpty) = true) : s.jrpPump = s := by
  have hsum : sumList (s.jrp.sessions.map fun x => x.queue.length) = 0 := by
    generalize s.jrp.sessions = l at hq ⊢
    unfold sumList
    induction l with
    | nil => rfl
    | cons x l ih =>
      rw [List.all_cons, Bool.and_eq_true, List.isEmpty_iff] at hq
      simpa [hq.1] using ih hq.2
  have hf : s.jrpFinish = s := by simp [jrpFinish, each, hr]
  have hh' : s.releaseHeld = s := by simp [releaseHeld, each, hh]
  unfold jrpPump
  rw [hf, hh']
  dsimp only
  rw [hsum, jrpServeAll]

theorem closeSession_of {s : State} {x : JrpSession} (h : s.jrpSession x.id = some x) : s.closeSession x.id =
    { s with jrp := { s.jrp with
      sessions := s.jrp.sessions.filter (fun (y : JrpSession) => y.id != x.id),
      kept := s.jrp.kept ++ [⟨x.id, x.peer, x.high, x.window, x.queue, s.now⟩] } } := by
  simp [closeSession, h, updJrp]

/-- The session of a datagram is the live one of its ID. -/
theorem jrpSession_of_jrpSessionOf {s : State} {h : JrpHdr} {x : JrpSession} (hx : s.jrpSessionOf h = some x) :
    s.jrpSession x.id = some x := by
  unfold jrpSessionOf at hx
  split at hx
  · rename_i y hy
    split at hx
    · cases hx
    · cases hx
      have hid : x.id = h.session := by simpa using List.find?_some hy
      rw [hid]
      exact hy
  · cases hx

theorem execJrpOpen_eq (h : JrpHdr) (p r n : Nat) (qc : Option Nat) (ok : Bool) (s : State) :
    exec (.jrpOpen h p r n qc ok) s = .next (s.jrpOpen h p r n qc ok) := rfl

section
variable {s : State} {h : JrpHdr} {p : JrpPeer} {r n : Nat} {qc : Option Nat} {ok : Bool}

/-- An OPEN is that of a listed peer, in a sound datagram, with the credentials of its mode. -/
structure OpenJudged (h : JrpHdr) (p : JrpPeer) (qc : Option Nat) (ok : Bool) (s : State) : Prop where
  hears : s.jrpHears h = true
  form : h.formOk = true
  listed : (s.jrp.peers.find? fun q => q.index == p.index && q.addr == h.src) = some p
  keyed : p.mode = 1 → (qc.isSome = true ∧ ok = true ∧ s.key.ops.isSome = true)

/-- The session that an OPEN of this peer repeats: the same nonce within 5 s. -/
abbrev repeated (p : JrpPeer) (n : Nat) (s : State) : Option JrpSession :=
  s.jrp.sessions.find? fun y => y.peer == p.index && y.nonce == n && decide (s.now ≤ y.opened + 5000000000)

/-- No further session of the peer is opened. -/
abbrev sessionsFull (p : JrpPeer) (s : State) : Prop :=
  4 ≤ (s.jrp.sessions.filter fun y => y.peer == p.index).length ∨ 64 ≤ s.jrp.sessions.length

theorem jrpOpen_judged (hj : OpenJudged h p qc ok s) : s.jrpOpen h p.index r n qc ok =
    match s.repeated p n with
    | some x => s.sendReply h.port h.src h.sport x.reply
    | none =>
        if s.sessionsFull p then
          s.sendReply h.port h.src h.sport
            ⟨2, s.use Reg.CHN.CFG_SYSNUM, false, false, 0, 0, s.get Reg.CHN.EPOCH, s.carriedClaim, 5, []⟩
        else s.openSession h p r n (qc.getD 0) := by
  obtain ⟨hh, hf, hl, hk⟩ := hj
  have hkey : ¬(p.mode = 1 ∧ (qc.isNone = true ∨ (!ok) = true ∨ s.key.ops = none)) := by
    rintro ⟨hm, hc⟩
    obtain ⟨h1, h2, h3⟩ := hk hm
    rcases hc with hc | hc | hc
    · simp [Option.isNone_iff_eq_none.mp hc] at h1
    · simp [h2] at hc
    · simp [hc] at h3
  unfold jrpOpen
  rw [if_neg (by simp [hh, hf]), hl]
  simp only [if_neg hkey] <;> rfl

/-- The session that an OPEN begins, and the states as its ID and then its reply are drawn. -/
def openId (p : JrpPeer) (r : Nat) (s : State) : Nat × State :=
  match s.keptOf r p with | some k => (k.id, s) | none => s.freshSession r

theorem openId_state (p : JrpPeer) (r : Nat) (s : State) : (s.openId p r).2 = { s with freeCtr := (s.openId p r).2.freeCtr } := by
  unfold openId
  split <;> rfl

/-- What an OPEN that passes does when no command waits: one session more at the end of the list, and its reply sent. -/
theorem openSession_idle (h : JrpHdr) (p : JrpPeer) (r n qc : Nat) {s : State}
    (hq : ∀ k, s.keptOf r p = some k → k.queue = []) (hrun : s.jrp.running = []) (hheld : s.jrp.held = [])
    (hidle : (s.jrp.sessions.all fun y => y.queue.isEmpty) = true) :
    ∃ (x : JrpSession) (c : Nat), s.openSession h p r n qc =
        { s with
          freeCtr := c
          jrp := { s.jrp with
            sessions := s.jrp.sessions ++ [x]
            kept := s.jrp.kept.filter fun k => k.id != x.id
            shadow := s.jrp.shadow.filter fun y => y.session != x.id }
          out := .jrp h.port h.src h.sport x.reply :: s.out } ∧
      (x.peer, x.hmac, x.port, x.src, x.sport) = (p.index, p.mode == 1, h.port, h.src, h.sport) ∧
      (x.nonce, x.queue, x.credit) = (n, [], 128000000) ∧
      (x.reply.type, x.reply.session, x.reply.code, x.reply.target) = (2, x.id, 0, s.use Reg.CHN.CFG_SYSNUM) ∧
      (x.high, x.window) = ((s.keptOf r p).elim none (·.high), (s.keptOf r p).elim [] (·.window)) ∧
      (∀ k, s.keptOf r p = some k → x.id = k.id) := by
  unfold openSession
  extract_lets old f rep x t
  have hf : f.2 = { s with freeCtr := f.2.freeCtr } := openId_state p r s
  have hxq : x.queue = [] := by
    show (match old with | some k => k.queue | none => []) = []
    cases ho : old with
    | none => rfl
    | some k => exact hq k ho
  have ht : t = { s with
      freeCtr := rep.2.freeCtr
      jrp := { s.jrp with
        sessions := s.jrp.sessions ++ [x]
        kept := s.jrp.kept.filter fun k => k.id != f.1
        shadow := s.jrp.shadow.filter fun y => y.session != f.1 } } := by
    have hrep : rep.2 = { f.2 with freeCtr := rep.2.freeCtr } := rfl
    show rep.2.updJrp _ = _
    rw [hrep, hf]
    rfl
  refine ⟨x, rep.2.freeCtr, ?_, rfl, ?_, ?_, ?_, ?_⟩
  · have hpump : (t.sendReply h.port h.src h.sport rep.1).jrpPump = t.sendReply h.port h.src h.sport rep.1 := by
      refine jrpPump_idle ?_ ?_ ?_
      · rw [ht]; exact hrun
      · rw [ht]; exact hheld
      · rw [ht]
        simpa [sendReply, emit, hxq] using hidle
    rw [hpump, ht]
    rfl
  · show (n, x.queue, 128000000) = _
    rw [hxq]
  · show (2, f.1, 0, f.2.use Reg.CHN.CFG_SYSNUM) = _
    rw [hf]
    rfl
  · simp only [x, old]
    cases s.keptOf r p <;> rfl
  · intro k hk
    simp only [x, f, old, hk]

end

/-- A session without a valid REQUEST for 30 s closes; another stays. -/
theorem sessionTimeout_of {s : State} {x : JrpSession} (h : s.jrpSession x.id = some x) (hl : x.last + 30000000000 ≤ s.now) :
    s.sessionTimeout x.id = s.closeSession x.id := by
  have hc : ((s.jrpSession x.id).any fun x => decide (x.last + 30000000000 ≤ s.now)) = true := by
    rw [h, Option.any_some, decide_eq_true_eq]
    exact hl
  rw [sessionTimeout, hc, when_true]

theorem sessionTimeout_none {s : State} {n : Nat}
    (h : ((s.jrpSession n).all fun x => decide (s.now < x.last + 30000000000)) = true) : s.sessionTimeout n = s := by
  unfold sessionTimeout
  cases hx : s.jrpSession n with
  | none => rfl
  | some x =>
    rw [hx, Option.all_some, decide_eq_true_eq] at h
    rw [Option.any_some, decide_eq_false (Nat.not_le.mpr h), when_false]

/-- A close that is taken in. -/
theorem jrpClose_judged {s : State} {h : JrpHdr} {x : JrpSession} (hh : s.jrpHears h = true) (hf : h.formOk = true)
    (hx : s.jrpSessionOf h = some x) :
    s.jrpClose h = if x.hmac = true ∧ h.macOk = false then s.jrpDiscard x.id else s.closeSession x.id := by
  simp [jrpClose, hh, hf, hx]

theorem jrpClose_ignored {s : State} {h : JrpHdr}
    (hc : s.jrpHears h = false ∨ (h.formOk = true ∧ s.jrpSessionOf h = none)) : s.jrpClose h = s := by
  rcases hc with hh | ⟨hf, hx⟩
  · simp [jrpClose, hh]
  · simp [jrpClose, hf, hx]

theorem jrpOpen_ignored {s : State} {h : JrpHdr} {p r n : Nat} {qc : Option Nat} {ok : Bool}
    (hc : (s.jrpHears h = false ∨ h.formOk = false) ∨
      (s.jrp.peers.find? fun q => q.index == p && q.addr == h.src) = none) : s.jrpOpen h p r n qc ok = s := by
  unfold jrpOpen
  split
  · rfl
  · rename_i hn
    rcases hc with hc | hc
    · simp only [Bool.not_eq_true', not_or, Bool.not_eq_false] at hn
      rcases hc with hc | hc <;> simp [hc] at hn
    · rw [hc]

theorem jrpOpen_unkeyed {s : State} {h : JrpHdr} {p : JrpPeer} {r n : Nat} {qc : Option Nat} {ok : Bool}
    (hl : (s.jrp.peers.find? fun q => q.index == p.index && q.addr == h.src) = some p) (hm : p.mode = 1)
    (hk : qc.isNone = true ∨ ok = false ∨ s.key.ops = none) : s.jrpOpen h p.index r n qc ok = s := by
  unfold jrpOpen
  split
  · rfl
  · rw [hl]
    simp only [if_pos (show p.mode = 1 ∧ (qc.isNone = true ∨ (!ok) = true ∨ s.key.ops = none) by simpa [hm] using hk)]

/-- Why no notification is sent: the last is too young, or there is none. -/
theorem notifySend_none {s : State} {n : Nat} (h : ((s.jrpSession n).all fun x =>
    (x.noted.any fun u => decide (s.now < u + 100000)) || (x.gap == 0 && x.notes.isEmpty)) = true) : s.notifySend n = s := by
  unfold notifySend
  cases hx : s.jrpSession n with
  | none => rfl
  | some x =>
    rw [hx, Option.all_some, Bool.or_eq_true, Bool.and_eq_true, beq_iff_eq, List.isEmpty_iff] at h
    rcases h with h | ⟨hg, hn⟩
    · simp only [h, if_true]
    · simp only [hg, hn]
      split <;> rfl

end State

/-- Settles O46: each clause is one branch of the session code; no command waits, so that JRP has nothing to go on with. -/
theorem jrpSessions : Obligations.JrpSessions := by
  unfold Obligations.JrpSessions
  refine ⟨?unheard, ?unlisted, ?unkeyed, ?fresh, ?resumed, ?repeated, ?full, ?closeIgnored, ?closeMac, ?close, ?timeout,
    ?early, ?retain, ?shadow, ?note, ?gap, ?noNote⟩
  case unheard =>
    intro s h p r n qc ok hc
    exact ⟨_, rfl, State.jrpOpen_ignored (.inl hc)⟩
  case unlisted =>
    intro s h p r n qc ok hc
    exact ⟨_, rfl, State.jrpOpen_ignored (.inr hc)⟩
  case unkeyed =>
    intro s h p r n qc ok _ _ hl hm hk
    exact ⟨_, rfl, State.jrpOpen_unkeyed hl hm hk⟩
  case fresh =>
    intro s h p r n qc ok hh hf hl hk hrep hfull hold hrun hheld hidle
    obtain ⟨x, c, ht, h1, h2, h3, h4, -⟩ := State.openSession_idle h p r n (qc.getD 0)
      (fun k hk => by rw [hold] at hk; cases hk) hrun hheld hidle
    simp only [Prod.mk.injEq, hold, Option.elim_none] at h1 h2 h3 h4
    refine ⟨_, State.execJrpOpen_eq _ _ _ _ _ _ _, ?_⟩
    rw [State.jrpOpen_judged ⟨hh, hf, hl, hk⟩, show s.repeated p n = _ from hrep]
    simp only [if_neg hfull, ht]
    simp [h1, h2, h3, h4]
  case resumed =>
    intro s h p r n qc ok k hh hf hl hk hrep hfull hold hkq hrun hheld hidle
    obtain ⟨x, c, ht, -, -, -, h4, h5⟩ := State.openSession_idle h p r n (qc.getD 0)
      (fun k' hk' => by rw [hold] at hk'; cases hk'; exact hkq) hrun hheld hidle
    have hid := h5 k hold
    simp only [Prod.mk.injEq, hold, Option.elim_some] at h4
    refine ⟨_, State.execJrpOpen_eq _ _ _ _ _ _ _, ?_⟩
    rw [State.jrpOpen_judged ⟨hh, hf, hl, hk⟩, show s.repeated p n = _ from hrep]
    simp only [if_neg hfull, ht]
    simp [h4, hid]
  case repeated =>
    intro s h p r n qc ok x hh hf hl hk hrep
    refine ⟨_, rfl, ?_⟩
    rw [State.jrpOpen_judged ⟨hh, hf, hl, hk⟩, show s.repeated p n = _ from hrep]
    rfl
  case full =>
    intro s h p r n qc ok hh hf hl hk hrep hfull
    refine ⟨_, rfl, ?_⟩
    rw [State.jrpOpen_judged ⟨hh, hf, hl, hk⟩, show s.repeated p n = _ from hrep]
    simp only [if_pos hfull]
    rfl
  case closeIgnored =>
    intro s h hc
    exact ⟨_, rfl, State.jrpClose_ignored hc⟩
  case closeMac =>
    intro s h x hh hf hx hm
    refine ⟨_, rfl, ?_⟩
    rw [State.jrpClose_judged hh hf hx, if_pos hm]
    rfl
  case close =>
    intro s h x hh hf hx hm
    refine ⟨_, rfl, ?_⟩
    rw [State.jrpClose_judged hh hf hx, if_neg fun hc => by simp [hm hc.1] at hc,
      State.closeSession_of (State.jrpSession_of_jrpSessionOf hx)]
  case timeout =>
    intro s x hx hl
    refine ⟨_, rfl, ?_⟩
    rw [State.sessionTimeout_of hx hl, State.closeSession_of hx]
  case early =>
    intro s n h
    exact ⟨_, rfl, State.sessionTimeout_none h⟩
  case retain =>
    intro s n h
    refine ⟨_, rfl, ?_⟩
    have hsh : (s.jrp.shadow.filter fun y =>
        !(y.session == n && (s.jrpActs && decide (s.jrp.takeover + 60000000000 ≤ s.now)))) = s.jrp.shadow := by
      rcases h with h | h | h
      · simp [h]
      · simp [h]
      · simp [Nat.not_le.mpr h]
    simp only [State.dropKept, State.updJrp, hsh]
  case shadow =>
    intro s n ha ht
    refine ⟨_, rfl, ?_, rfl, rfl⟩
    simp [State.dropKept, State.updJrp, ha, ht]
    rfl
  case note =>
    intro s x n l hx hy hg hn
    refine ⟨_, rfl, ?_⟩
    simp only [State.notifySend, hx, hy, hg, hn, Bool.false_eq_true, if_false, ne_eq, not_true_eq_false]
    rfl
  case gap =>
    intro s x hx hy hg
    refine ⟨_, rfl, ?_⟩
    simp only [State.notifySend, hx, hy, Bool.false_eq_true, if_false, if_pos hg]
    rfl
  case noNote =>
    intro s n h
    exact ⟨_, rfl, State.notifySend_none h⟩

end Sys2Proof.Machine
end

section
/-! SUPPORT. The druse bus (R474–R484): what the sending side, the own slot and a write of TERR change. -/

namespace Sys2Proof.Machine

/-- The rows of TXGO and TERR in the register map of the druse bus. -/
abbrev RegMap.gbusTxgo : RegDef := ⟨"TXGO", 0x1C, [], [⟨0, 0, .wo, .val 0⟩]⟩
abbrev RegMap.gbusTerr : RegDef := ⟨"TERR", 0x14, [], [⟨15, 0, .rw, .val 0xffff⟩]⟩

/-! ### Muting -/

theorem RegsKept.gbusEvent {s t : State} (h : RegsKept [.gbus, .flt] s t) (n : Nat) (items : List Nat) :
    RegsKept [.gbus, .flt] s (t.gbusEvent n items) := h.eventEn _ _ _ _ (by decide) (by decide)

theorem RegsKept.showMuted {ks : List BlkKind} {s t : State} (h : RegsKept ks s t) (hks : BlkKind.gbus ∈ ks) :
    RegsKept ks s t.showMuted := by
  refine h.setB _ ?_
  have hpage : Blk.ofAddr Reg.GBUS.STAT_MUTED.addr = some (⟨.gbus, 0⟩, 4) := by decide
  simp [Outside, hpage, hks]

namespace State

theorem gbusEvent_is (n : Nat) (items : List Nat) (s : State) :
    s.gbusEvent n items = { s with regs := (s.gbusEvent n items).regs, flt := (s.gbusEvent n items).flt } := eventEn_is s _ _ _ _ _

theorem gbusEvent_gbus (n : Nat) (items : List Nat) (s : State) : (s.gbusEvent n items).gbus = s.gbus := by
  rw [gbusEvent_is]

/-- A field apart from EVSTAT and the collector's counts is left by an event of the bus. -/
theorem get_gbusEvent_other {r : FRef} (n : Nat) (items : List Nat) (s : State) (he : r.apart Reg.GBUS.EVSTAT = true)
    (haddr : r.addr < 0x11003000 ∨ 0x11004800 ≤ r.addr) : (s.gbusEvent n items).get r = s.get r :=
  get_eventEn_other s _ _ _ _ he (by decide) haddr

theorem setMute_same {on : Bool} {s : State} (h : s.gbus.mute = on) : s.setMute on = s := by
  rw [setMute, if_pos h]

/-- What the state reads after the member was muted or unmuted. -/
structure MuteSet (on : Bool) (s t : State) : Prop where
  gbus : t.gbus = { s.gbus with mute := on }
  shown : t.get Reg.GBUS.STAT_MUTED = b2n (on || s.inStepGap)
  event : bit (t.get Reg.GBUS.EVSTAT) (if on then 1 else 2) = true
  terr : t.get Reg.GBUS.TERR = s.get Reg.GBUS.TERR
  regs : RegsKept [.gbus, .flt] s t

theorem muteSet_setMute {on : Bool} {s : State} (h : s.gbus.mute ≠ on) : MuteSet on s (s.setMute on) := by
  unfold setMute
  rw [if_neg h]
  refine ⟨?gbus, ?shown, ?event, ?terr, ?regs⟩
  case gbus => rw [gbusEvent_gbus]; rfl
  case shown =>
    rw [get_gbusEvent_other _ _ _ (by decide) (by decide), showMuted, get_setB_same _ _ (by decide) (by decide)]
    rfl
  case event => exact bit_get_eventEn _ _ _ _ (by decide) (by cases on <;> decide) (by decide)
  case terr =>
    rw [get_gbusEvent_other _ _ _ (by decide) (by decide), showMuted, get_setB_other _ _ (by decide) (by decide)]
    rfl
  case regs =>
    have hmute : RegsKept [.gbus, .flt] s (s.updGbus fun x => { x with mute := on }) := (RegsKept.refl _ s).same rfl
    exact (hmute.showMuted (by decide)).gbusEvent _ _

/-- The state of a write of TERR before the limits are judged. -/
def terrStored (v : Nat) (s : State) : State := (s.set Reg.GBUS.TERR v).updGbus fun x => { x with terrAt := s.now }

theorem get_terrStored (v : Nat) (s : State) : (s.terrStored v).get Reg.GBUS.TERR = v % 65536 :=
  get_set_same s v (by decide)

theorem terrLand_eq (data : Word) (s : State) : s.terrLand data =
    if 500 < data.toNat % 65536 then (s.terrStored (data.toNat % 65536)).setMute true
    else if data.toNat % 65536 ≤ 400 then (s.terrStored (data.toNat % 65536)).setMute false
    else s.terrStored (data.toNat % 65536) := rfl

/-- Between the limits, or in the state that the value calls for, the member stays as it is. -/
theorem terrLand_stays {data : Word} {s : State} (h : (400 < data.toNat % 65536 ∧ data.toNat % 65536 ≤ 500) ∨
    (500 < data.toNat % 65536 ∧ s.gbus.mute = true) ∨ (data.toNat % 65536 ≤ 400 ∧ s.gbus.mute = false)) :
    s.terrLand data = s.terrStored (data.toNat % 65536) := by
  rw [terrLand_eq]
  split
  case isTrue hhigh =>
    refine setMute_same (show s.gbus.mute = true from ?_)
    rcases h with ⟨-, hle⟩ | ⟨-, hmute⟩ | ⟨hlow, -⟩
    · omega
    · exact hmute
    · omega
  case isFalse hhigh =>
    split
    case isTrue hlow =>
      refine setMute_same (show s.gbus.mute = false from ?_)
      rcases h with ⟨hlt, -⟩ | ⟨hlt, -⟩ | ⟨-, hmute⟩
      · omega
      · omega
      · exact hmute
    case isFalse => rfl

theorem terrStored_gbus (v : Nat) (s : State) : (s.terrStored v).gbus = { s.gbus with terrAt := s.now } := rfl

/-- What a write of TERR that mutes or unmutes the member leaves. -/
structure TerrJudged (on : Bool) (v : Nat) (s t : State) : Prop where
  terr : t.get Reg.GBUS.TERR = v
  gbus : t.gbus = { s.gbus with mute := on, terrAt := s.now }
  shown : t.get Reg.GBUS.STAT_MUTED = b2n (on || s.inStepGap)
  event : bit (t.get Reg.GBUS.EVSTAT) (if on then 1 else 2) = true
  regs : RegsKept [.gbus, .flt] s t

/-- The gap after a step is judged by TIME and by the state of the bus alone. -/
theorem inStepGap_congr {s t : State} (hg : t.gbus = s.gbus) (hl : t.get Reg.TIME.NOWLO = s.get Reg.TIME.NOWLO)
    (hh : t.get Reg.TIME.NOWHI = s.get Reg.TIME.NOWHI) : t.inStepGap = s.inStepGap := by
  simp only [inStepGap, timeNs, get64, hg, hl, hh]
  rfl

theorem terrJudged_setMute {on : Bool} {m v : Nat} {s : State} (hm : m ≤ 6) (hv : v < 65536) (h : s.gbus.mute ≠ on) :
    TerrJudged on v s ((((s.landed m ⟨.gbus, 0⟩).terrStored v).setMute on).showWpend ⟨.gbus, 0⟩) := by
  have hstored : RegsKept [.gbus, .flt] s ((s.landed m ⟨.gbus, 0⟩).terrStored v) := by
    have hset : RegsKept [.gbus, .flt] s ((s.landed m ⟨.gbus, 0⟩).set Reg.GBUS.TERR v) :=
      (RegsKept.landed hm (by decide)).set v (by decide)
    exact hset.same rfl
  have hgap : ((s.landed m ⟨.gbus, 0⟩).terrStored v).inStepGap = s.inStepGap :=
    inStepGap_congr (s := { s with gbus := { s.gbus with terrAt := s.now } }) rfl (hstored.get (by decide))
      (hstored.get (by decide))
  obtain ⟨hgbus, hshown, hevent, hterr, hregs⟩ := muteSet_setMute (s := (s.landed m ⟨.gbus, 0⟩).terrStored v) h
  refine ⟨?terr, ?gbus, ?shown, ?event, (hstored.trans hregs).showWpend (by decide)⟩
  case terr => rw [get_showWpend_other (by decide), hterr, get_terrStored, Nat.mod_eq_of_lt hv]
  case gbus => rw [(regsOnly_showWpend _ (RegsOnly.refl _)).gbus, hgbus]; rfl
  case shown => rw [get_showWpend_other (by decide), hshown, hgap]
  case event => rw [get_showWpend_other (by decide)]; exact hevent

theorem terrTimeout_due {s : State} (h : s.gbus.terrAt + 1000000000 ≤ s.now) : s.terrTimeout = s.setMute true := by
  rw [terrTimeout, decide_eq_true h, when_true]

theorem terrTimeout_idle {s : State} (h : s.gbus.mute = true ∨ s.now < s.gbus.terrAt + 1000000000) : s.terrTimeout = s := by
  unfold terrTimeout
  rcases h with hmute | hearly
  · rw [when, setMute_same hmute, ite_self]
  · rw [decide_eq_false (Nat.not_le_of_lt hearly), when_false]

/-! ### The own slot -/

/-- The last own frame was not heard on a pair that is enabled. -/
abbrev ownMissed (p : Nat) (s : State) : Prop := s.gbus.ownOut = true ∧ s.pairOn p = true ∧ s.gbus.ownSeen.contains p = false

theorem each_ownErr (s : State) :
    s.each (if s.gbus.ownOut then [0, 1].filter fun p => s.pairOn p && !s.gbus.ownSeen.contains p else []) ownErr =
      (s.when (decide (s.ownMissed 0)) (ownErr 0)).when (decide (s.ownMissed 1)) (ownErr 1) := by
  have hlist : (if s.gbus.ownOut then [0, 1].filter fun p => s.pairOn p && !s.gbus.ownSeen.contains p else []) =
      [0, 1].filter fun p => decide (s.ownMissed p) := by
    by_cases h : s.gbus.ownOut = true
    · rw [if_pos h]
      congr 1
      funext p
      simp [ownMissed, h]
    · simp [ownMissed, h]
  rw [hlist, each, List.foldl_filter]
  rfl

theorem regsOnly_ownErr (p : Nat) {s t : State} (h : RegsOnly s t) : RegsOnly s (t.ownErr p) := (h.bump _ _).eventEn _ _ _ _ _

theorem ownErrF_hi (p : Nat) : (ownErrF p).hi < 32 := by
  unfold ownErrF
  split <;> decide

theorem ownErrF_addr (p : Nat) : (ownErrF p).addr = Reg.GBUS.CNT_OWNERR.addr := by
  unfold ownErrF
  split <;> rfl

theorem get_ownErr_other {r : FRef} (p : Nat) (s : State) (hc : r.apart (ownErrF p) = true)
    (he : r.addr ≠ Reg.GBUS.EVSTAT.addr) (haddr : r.addr < 0x11003000 ∨ 0x11004800 ≤ r.addr) : (s.ownErr p).get r = s.get r := by
  rw [ownErr, get_gbusEvent_other _ _ _ (FRef.apart_of_addr he) haddr, get_bump_other _ _ hc (ownErrF_hi p)]

theorem regsKept_ownErr (p : Nat) {s t : State} (h : RegsKept [.gbus, .flt] s t) : RegsKept [.gbus, .flt] s (t.ownErr p) := by
  have hpage : Outside [.gbus, .flt] (ownErrF p).addr = false := by rw [ownErrF_addr]; decide
  exact (h.bump 1 hpage).gbusEvent _ _

/-- What the judging of the own slot keeps and shows. -/
structure OwnJudged (s t : State) : Prop where
  only : RegsOnly s t
  muted : t.get Reg.GBUS.STAT_MUTED = b2n (s.gbus.mute || s.inStepGap)
  field : ∀ r : FRef, r.addr ∉ [Reg.GBUS.CNT_OWNERR.addr, Reg.GBUS.EVSTAT.addr, Reg.GBUS.STAT_MUTED.addr] →
    r.addr < 0x11003000 ∨ 0x11004800 ≤ r.addr → t.get r = s.get r
  regs : RegsKept [.gbus, .flt] s t

/-- The own errors of both pairs are counted. -/
def ownCounted (s : State) : State := (s.when (decide (s.ownMissed 0)) (ownErr 0)).when (decide (s.ownMissed 1)) (ownErr 1)

theorem get_ownCounted_other {r : FRef} (s : State)
    (hr : r.addr ∉ [Reg.GBUS.CNT_OWNERR.addr, Reg.GBUS.EVSTAT.addr, Reg.GBUS.STAT_MUTED.addr])
    (haddr : r.addr < 0x11003000 ∨ 0x11004800 ≤ r.addr) : s.ownCounted.get r = s.get r := by
  simp only [List.mem_cons, List.not_mem_nil, or_false, not_or] at hr
  obtain ⟨hc, he, -⟩ := hr
  have hkeep (c : Bool) (p : Nat) (t : State) : (t.when c (ownErr p)).get r = t.get r :=
    when_keeps t (fun u => u.get r) c _
      (get_ownErr_other p t (FRef.apart_of_addr (by rw [ownErrF_addr]; exact hc)) he haddr)
  rw [ownCounted, hkeep, hkeep]

theorem ownJudged_showMuted (s : State) : OwnJudged s s.ownCounted.showMuted := by
  have honly : RegsOnly s s.ownCounted :=
    ((RegsOnly.refl s).when _ fun _ h => regsOnly_ownErr 0 h).when _ fun _ h => regsOnly_ownErr 1 h
  refine ⟨honly.setB _ _, ?muted, fun r hr haddr => ?field, ?regs⟩
  case muted =>
    have hgap : s.ownCounted.inStepGap = s.inStepGap := inStepGap_congr honly.gbus
      (get_ownCounted_other s (by decide) (by decide)) (get_ownCounted_other s (by decide) (by decide))
    rw [showMuted, get_setB_same _ _ (by decide) (by decide), honly.gbus, hgap]
  case field =>
    have hstat : r.addr ≠ Reg.GBUS.STAT_MUTED.addr := fun h => hr (by simp [h])
    rw [showMuted, get_setB_other _ _ (FRef.apart_of_addr hstat) (by decide), get_ownCounted_other s hr haddr]
  case regs =>
    have h0 := (RegsKept.refl [.gbus, .flt] s).when (decide (s.ownMissed 0)) (regsKept_ownErr 0 (RegsKept.refl _ s))
    have h1 := h0.when (decide (s.ownMissed 1)) (regsKept_ownErr 1 h0)
    exact h1.showMuted (by decide)

theorem get_when_ownErr_same (c : Prop) [Decidable c] (p : Nat) (s : State) :
    (s.when (decide c) (ownErr p)).get (ownErrF p) = (s.get (ownErrF p) + if c then 1 else 0) % 2 ^ (ownErrF p).width := by
  by_cases h : c
  · have he : (ownErrF p).apart Reg.GBUS.EVSTAT = true := FRef.apart_of_addr (by rw [ownErrF_addr]; decide)
    have haddr : (ownErrF p).addr < 0x11003000 ∨ 0x11004800 ≤ (ownErrF p).addr := by rw [ownErrF_addr]; decide
    rw [decide_eq_true h, when_true, if_pos h, ownErr, get_gbusEvent_other _ _ _ he haddr, get_bump_same _ _ (ownErrF_hi p)]
  · rw [decide_eq_false h, when_false, if_neg h, Nat.add_zero, get_eq_mod]

/-- Each pair has its own count of own errors. -/
theorem get_when_ownErr_other (c : Bool) {p q : Nat} (hpq : (ownErrF q).apart (ownErrF p) = true) (s : State) :
    (s.when c (ownErr p)).get (ownErrF q) = s.get (ownErrF q) :=
  when_keeps s (fun t => t.get (ownErrF q)) c _
    (get_ownErr_other p s hpq (by rw [ownErrF_addr]; decide) (by rw [ownErrF_addr]; decide))

theorem get_ownErrF_counted_zero (s : State) :
    s.ownCounted.get (ownErrF 0) = (s.get (ownErrF 0) + if s.ownMissed 0 then 1 else 0) % 16 := by
  rw [ownCounted, get_when_ownErr_other _ (by decide), get_when_ownErr_same]
  rfl

theorem get_ownErrF_counted_one (s : State) :
    s.ownCounted.get (ownErrF 1) = (s.get (ownErrF 1) + if s.ownMissed 1 then 1 else 0) % 16 := by
  rw [ownCounted, get_when_ownErr_same, get_when_ownErr_other _ (by decide)]
  rfl

theorem bit_ownErr (p : Nat) (s : State) : bit ((s.ownErr p).get Reg.GBUS.EVSTAT) 9 = true :=
  bit_get_eventEn _ _ _ _ (by decide) (by decide) (by decide)

/-- An own error shows in EVSTAT, whichever pair made it. -/
theorem bit_ownCounted {s : State} (h : s.ownMissed 0 ∨ s.ownMissed 1) :
    bit (s.ownCounted.get Reg.GBUS.EVSTAT) 9 = true := by
  by_cases h1 : s.ownMissed 1
  · rw [ownCounted, decide_eq_true h1, when_true]
    exact bit_ownErr 1 _
  · rw [ownCounted, decide_eq_false h1, when_false, decide_eq_true (h.resolve_right h1), when_true]
    exact bit_ownErr 0 _

/-! ### What the parts of a salvo add (R145) -/

/-- What the seed repeats changes its salvos, and sends. -/
theorem repeatParts_is (s : State) : ∃ j o, s.repeatParts = { s with jrp := j, out := o } := by
  unfold repeatParts
  split
  · exact ⟨s.jrp, s.out, rfl⟩
  · have hsent : SendsOnly s (s.each s.jrp.salvos fun x t =>
        t.each (x.parts.filter fun p => 1 ≤ x.phase && (x.phase != 1 || p.answer.isNone)) fun p u =>
          u.emit (.part p.sys (if x.phase = 1 then 9 else if x.phase = 2 then 10 else 11) x.gid [] x.instant x.minlead)) :=
      (SendsOnly.refl s).each _ fun _ _ h => h.each _ fun _ _ h' => h'.emit _
    obtain ⟨o, ho⟩ := hsent
    exact ⟨_, o, by simp only [ho]; rfl⟩

theorem repeatParts_none {s : State} (h : s.jrp.salvos = []) : s.repeatParts = s := by
  unfold repeatParts
  split
  · rfl
  · simp only [h, each, List.foldl_nil, updJrp, List.filter_nil]
    rw [← h]

/-- The own slot in a cycle in which the member has not sent yet. -/
theorem gbusOwnSlot_due {s : State} (hrun : s.get Reg.GBUS.STAT_RUN = 1) (hsent : s.gbus.sentCyc ≠ some s.busCycle) :
    s.gbusOwnSlot =
      let u := s.ownCounted.showMuted.repeatParts
      if u.gbus.mute = true ∨ u.inStepGap = true then u.updGbus fun x => { x with ownOut := false, ownSeen := [] }
      else
        let f : GbusFrame :=
          { ver := 1, slot := u.use Reg.GBUS.CFG_OWNSLOT, sys := u.use Reg.CHN.CFG_SYSNUM, cycle := u.busCycle % 1000,
            claim := if u.get Reg.TWIN.CTRL_EN = 1 then u.get Reg.TWIN.CARRIED_OWN else 0, devid := u.devid,
            terr := u.get Reg.GBUS.TERR, payload := u.gbus.taken, headerOk := true, payloadOk := true, start := 0,
            crossed := false }
        (u.updGbus fun x => { x with taken := [], ownOut := true, ownSeen := [], sentCyc := some u.busCycle }).emit
          (.gbus (u.use Reg.GBUS.CFG_PAIREN) f (gbusBytes f)) := by
  have hgo : ¬((!s.gbusRuns) = true ∨ s.gbus.sentCyc = some s.busCycle) := by
    simp [gbusRuns, flag_of_one hrun, hsent]
  unfold gbusOwnSlot
  rw [if_neg hgo]
  dsimp only
  rw [each_ownErr]
  rfl

/-- What the rest of the own slot reads of the state it works on. -/
structure OwnTurn (s u : State) : Prop where
  gbus : u.gbus = s.gbus
  gap : u.inStepGap = s.inStepGap
  cycle : u.busCycle = s.busCycle
  devid : u.devid = s.devid
  use : ∀ r, u.use r = s.use r
  field : ∀ r : FRef, r.addr ∉ [Reg.GBUS.CNT_OWNERR.addr, Reg.GBUS.EVSTAT.addr, Reg.GBUS.STAT_MUTED.addr] →
    r.addr < 0x11003000 ∨ 0x11004800 ≤ r.addr → u.get r = s.get r
  muted : u.get Reg.GBUS.STAT_MUTED = b2n (s.gbus.mute || s.inStepGap)
  regs : RegsKept [.gbus, .flt] s u
  out : s.jrp.salvos = [] → u.out = s.out

theorem ownTurn (s : State) : OwnTurn s s.ownCounted.showMuted.repeatParts := by
  obtain ⟨honly, hmuted, hfield, hregs⟩ := ownJudged_showMuted s
  obtain ⟨j, o, hrep⟩ := repeatParts_is s.ownCounted.showMuted
  have hnone (hs : s.jrp.salvos = []) : s.ownCounted.showMuted.repeatParts = s.ownCounted.showMuted := by
    obtain ⟨_, _, _, hj⟩ := honly
    exact repeatParts_none (by rw [hj]; exact hs)
  have hget (r : FRef) : s.ownCounted.showMuted.repeatParts.get r = s.ownCounted.showMuted.get r := by rw [hrep]; rfl
  have hgbus : s.ownCounted.showMuted.repeatParts.gbus = s.gbus := by rw [hrep]; exact honly.gbus
  have hf (r : FRef) (h1 : r.addr ∉ [Reg.GBUS.CNT_OWNERR.addr, Reg.GBUS.EVSTAT.addr, Reg.GBUS.STAT_MUTED.addr])
      (h2 : r.addr < 0x11003000 ∨ 0x11004800 ≤ r.addr) : s.ownCounted.showMuted.repeatParts.get r = s.get r := by
    rw [hget, hfield r h1 h2]
  exact {
    gbus := hgbus
    gap := inStepGap_congr hgbus (hf _ (by decide) (by decide)) (hf _ (by decide) (by decide))
    cycle := by simp only [busCycle, timeNs, get64, hf Reg.TIME.NOWLO (by decide) (by decide),
      hf Reg.TIME.NOWHI (by decide) (by decide)]
    devid := by simp only [devid, get64, hf Reg.KEY.DEVIDLO (by decide) (by decide),
      hf Reg.KEY.DEVIDHI (by decide) (by decide)]
    use := fun r => by rw [hrep]; exact honly.use r
    field := hf
    muted := by rw [hget, hmuted]
    regs := hregs.same (by rw [hrep])
    out := fun hs => by rw [hnone hs]; exact honly.out }

/-! ### Writes of TERR -/

theorem domainReg_terr : domainReg Reg.GBUS.TERR.addr ⟨.gbus, 0⟩ RegMap.gbusTerr 0 = true := by decide +kernel

theorem domainReg_txgo : domainReg Reg.GBUS.TXGO.addr ⟨.gbus, 0⟩ RegMap.gbusTxgo 0 = true := by decide +kernel

theorem exec_terrWrite {m : Nat} {s : State} (data : Word) (hq : Quiet m s) :
    exec (.terrWrite m data) s = .next (((s.landed m ⟨.gbus, 0⟩).terrLand data).showWpend ⟨.gbus, 0⟩) := by
  show Host.Outcome.next (s.writeNow m Reg.GBUS.TERR.addr data) = _
  rw [writeNow_special hq domainReg_terr rfl]

theorem exec_txgo {m : Nat} {s : State} (hq : Quiet m s) :
    exec (.txgo m) s = .next (((s.landed m ⟨.gbus, 0⟩).set Reg.GBUS.STAT_TXPEND 1).showWpend ⟨.gbus, 0⟩) := by
  show Host.Outcome.next (s.writeNow m Reg.GBUS.TXGO.addr 1) = _
  rw [writeNow_special hq domainReg_txgo rfl]
  rfl

/-! ### The latch point of the own slot (R475) -/

theorem gbusOwnSlot_idle {s : State} (h : s.get Reg.GBUS.STAT_RUN = 0 ∨ s.gbus.sentCyc = some s.busCycle) :
    s.gbusOwnSlot = s := by
  have hnot : (!s.gbusRuns) = true ∨ s.gbus.sentCyc = some s.busCycle :=
    h.imp_left fun h0 => by rw [gbusRuns, flag_eq_false.mpr h0]; rfl
  rw [gbusOwnSlot, if_pos hnot]

theorem gbusLatch_idle {s : State} (h : s.get Reg.GBUS.STAT_RUN = 0 ∨ s.gbus.latchCyc = some s.latchCycle) : s.gbusLatch = s := by
  have hnot : (!s.gbusRuns) = true ∨ s.gbus.latchCyc = some s.latchCycle :=
    h.imp_left fun h0 => by rw [gbusRuns, flag_eq_false.mpr h0]; rfl
  rw [gbusLatch, if_pos hnot]

theorem gbusLatch_none {s : State} (hrun : s.get Reg.GBUS.STAT_RUN = 1) (hlatch : s.gbus.latchCyc ≠ some s.latchCycle)
    (h : s.get Reg.GBUS.STAT_TXPEND = 0 ∨ s.gbus.mute = true ∨ s.inStepGap = true) :
    s.gbusLatch = { s with gbus := { s.gbus with latchCyc := some s.latchCycle } } := by
  have hgo : ¬((!s.gbusRuns) = true ∨ s.gbus.latchCyc = some s.latchCycle) := by
    simp [gbusRuns, flag_of_one hrun, hlatch]
  have hnone : (!s.flag Reg.GBUS.STAT_TXPEND) = true ∨ s.gbus.mute = true ∨ s.inStepGap = true :=
    h.imp_left fun h0 => by rw [flag_eq_false.mpr h0]; rfl
  rw [gbusLatch, if_neg hgo, if_pos hnone]
  rfl

/-- The state as the pending buffer leaves STAT. -/
def txLatched (s : State) : State :=
  (s.updGbus fun x => { x with latchCyc := some s.latchCycle }).set Reg.GBUS.STAT_TXPEND 0

theorem gbusLatch_pending {s : State} (hrun : s.get Reg.GBUS.STAT_RUN = 1) (hlatch : s.gbus.latchCyc ≠ some s.latchCycle)
    (hpend : s.get Reg.GBUS.STAT_TXPEND = 1) (hmute : s.gbus.mute = false) (hgap : s.inStepGap = false) :
    s.gbusLatch = if s.txLatched.ineligible then s.txLatched.bump Reg.GBUS.CNT_TXDROP 1
      else s.txLatched.updGbus fun x => { x with taken := s.txLatched.txBytes } := by
  have hgo : ¬((!s.gbusRuns) = true ∨ s.gbus.latchCyc = some s.latchCycle) := by
    simp [gbusRuns, flag_of_one hrun, hlatch]
  have hsome : ¬((!s.flag Reg.GBUS.STAT_TXPEND) = true ∨ s.gbus.mute = true ∨ s.inStepGap = true) := by
    simp [flag_of_one hpend, hmute, hgap]
  rw [gbusLatch, if_neg hgo, if_neg hsome]
  rfl

theorem get_txLatched {r : FRef} (s : State) (h : r.apart Reg.GBUS.STAT_TXPEND = true) : s.txLatched.get r = s.get r :=
  get_set_other _ 0 h (by decide)

theorem get_txLatched_pend (s : State) : s.txLatched.get Reg.GBUS.STAT_TXPEND = 0 := get_set_same _ 0 (by decide)

theorem wordsKept_txLatched (s : State) : WordsKept [Reg.GBUS.STAT_RUN.addr] s s.txLatched := by
  have hlatch : WordsKept [Reg.GBUS.STAT_RUN.addr] s (s.updGbus fun x => { x with latchCyc := some s.latchCycle }) :=
    (WordsKept.refl _ s).same rfl
  exact hlatch.set 0 (by decide)

theorem regsKept_txLatched (s : State) : RegsKept [.gbus] s s.txLatched := by
  have hlatch : RegsKept [.gbus] s (s.updGbus fun x => { x with latchCyc := some s.latchCycle }) :=
    (RegsKept.refl _ s).same rfl
  exact hlatch.set 0 (by decide)

theorem txLatched_ineligible (s : State) : s.txLatched.ineligible = s.ineligible := by
  simp only [ineligible, twinState, get_txLatched s (r := Reg.TWIN.CTRL_EN) (by decide),
    get_txLatched s (r := Reg.TWIN.STAT_STATE) (by decide)]

theorem txLatched_txBytes (s : State) : s.txLatched.txBytes = s.txBytes := by
  have hbuf : ∀ j, s.txLatched.get (Reg.GBUS.TXBUF j) = s.get (Reg.GBUS.TXBUF j) := fun j =>
    get_txLatched s (FRef.apart_of_addr (by simp only [Reg.GBUS.TXBUF, Reg.GBUS.STAT_TXPEND]; omega))
  simp only [txBytes, hbuf, get_txLatched s (r := Reg.GBUS.TXLEN) (by decide)]

end State

/-- Settles O44: the latch point, the own slot and the writes of TXGO and TERR, each by its own branch. -/
theorem druseBusSending : Obligations.DruseBusSending := by
  unfold Obligations.DruseBusSending
  refine ⟨?txgo, ?latchIdle, ?latchTaken, ?latchDropped, ?latchNone, ?slotIdle, ?slotSent, ?slotErrors, ?slotMuted, ?terrHigh,
    ?terrLow, ?terrBetween, ?timeoutMutes, ?timeoutEarly⟩
  case txgo =>
    intro s m hq
    have hm : m ≤ 6 := hq.1
    refine ⟨_, State.exec_txgo hq, ?pend, ?gbus, ?words⟩
    case pend =>
      rw [State.get_showWpend_other (by decide), State.get_set_same _ _ (by decide)]
      rfl
    case gbus => exact (State.regsOnly_showWpend _ ((RegsOnly.refl (s.landed m ⟨.gbus, 0⟩)).set _ _)).gbus
    case words =>
      have hset : WordsKept [Reg.GBUS.STAT_RUN.addr] s ((s.landed m ⟨.gbus, 0⟩).set Reg.GBUS.STAT_TXPEND 1) :=
        (WordsKept.landed hm (by decide)).set 1 (by decide)
      exact hset.showWpend (by decide)
  case latchIdle =>
    intro s h
    exact ⟨_, rfl, State.gbusLatch_idle h⟩
  case latchTaken =>
    intro s hrun hlatch hpend hmute hgap helig
    refine ⟨s.gbusLatch, rfl, ?_⟩
    rw [State.gbusLatch_pending hrun hlatch hpend hmute hgap, State.txLatched_ineligible, helig, if_neg (by decide),
      State.txLatched_txBytes]
    exact ⟨s.get_txLatched_pend, rfl, s.wordsKept_txLatched⟩
  case latchDropped =>
    intro s hrun hlatch hpend hmute hgap helig
    refine ⟨s.gbusLatch, rfl, ?_⟩
    rw [State.gbusLatch_pending hrun hlatch hpend hmute hgap, State.txLatched_ineligible, helig, if_pos rfl]
    refine ⟨?_, rfl, ?_, s.regsKept_txLatched.bump 1 (by decide)⟩
    · rw [State.get_bump_other _ _ (by decide) (by decide), State.get_txLatched_pend]
    · rw [State.get_bump_same _ _ (by decide), State.get_txLatched s (by decide)]
  case latchNone =>
    intro s hrun hlatch h
    exact ⟨_, rfl, State.gbusLatch_none hrun hlatch h⟩
  case slotIdle =>
    intro s h
    exact ⟨_, rfl, State.gbusOwnSlot_idle h⟩
  case slotSent =>
    intro s g hrun hmute hgap hsent hg
    obtain ⟨hgbus, hgap', hcycle, hdevid, huse, hfield, hmuted, hregs, hout⟩ := State.ownTurn s
    refine ⟨s.gbusOwnSlot, rfl, ?_⟩
    rw [State.gbusOwnSlot_due hrun hsent]
    generalize s.ownCounted.showMuted.repeatParts = u at *
    have hspeaks : ¬(u.gbus.mute = true ∨ u.inStepGap = true) := by simp [hgbus, hgap', hmute, hgap]
    dsimp only
    rw [if_neg hspeaks, hgbus, hcycle, hdevid, huse, huse, huse, hfield Reg.TWIN.CTRL_EN (by decide) (by decide),
      hfield Reg.TWIN.CARRIED_OWN (by decide) (by decide), hfield Reg.GBUS.TERR (by decide) (by decide), hg]
    refine ⟨rfl, ?gbus, ?muted, fun hs => ?length, hregs.same rfl⟩
    case gbus => exact (congrArg (fun x : GbusState =>
      { x with taken := [], ownOut := true, ownSeen := [], sentCyc := some s.busCycle }) hgbus :)
    case muted => exact hmuted.trans (by rw [hmute, hgap]; rfl)
    case length => exact (congrArg (fun l => List.length l + 1) (hout hs) :)
  case slotErrors =>
    intro s hrun hsent
    have hread (r : FRef) (hr : r.addr ≠ Reg.GBUS.STAT_MUTED.addr) : s.gbusOwnSlot.get r = s.ownCounted.get r := by
      obtain ⟨j, o, hrep⟩ := State.repeatParts_is s.ownCounted.showMuted
      have hshown : s.ownCounted.showMuted.get r = s.ownCounted.get r :=
        State.get_setB_other _ _ (FRef.apart_of_addr hr) (by decide)
      rw [State.gbusOwnSlot_due hrun hsent, hrep]
      dsimp only
      split <;> exact hshown
    refine ⟨s.gbusOwnSlot, rfl, ?_, ?_, fun h => ?_⟩
    · rw [hread _ (by decide), State.get_ownErrF_counted_zero]
    · rw [hread _ (by decide), State.get_ownErrF_counted_one]
    · rw [hread _ (by decide)]
      exact State.bit_ownCounted h
  case slotMuted =>
    intro s hrun hsilent hsent hs
    obtain ⟨hgbus, hgap, -, -, -, -, hmuted, hregs, hout⟩ := State.ownTurn s
    refine ⟨s.gbusOwnSlot, rfl, ?_⟩
    rw [State.gbusOwnSlot_due hrun hsent]
    generalize s.ownCounted.showMuted.repeatParts = u at *
    dsimp only
    rw [hgbus, hgap, if_pos hsilent]
    refine ⟨hout hs, ?gbus, hmuted.trans ?muted, hregs.same rfl⟩
    case gbus => exact (congrArg (fun x : GbusState => { x with ownOut := false, ownSeen := [] }) hgbus :)
    case muted => rcases hsilent with h | h <;> simp [h, b2n]
  case terrHigh =>
    intro s m data hq hv hmute
    obtain ⟨hterr, hgbus, hshown, hevent, hregs⟩ := State.terrJudged_setMute (on := true) (v := data.toNat % 65536)
      (s := s) hq.1 (Nat.mod_lt _ (by decide)) (by simp [hmute])
    refine ⟨_, State.exec_terrWrite data hq, ?_⟩
    rw [State.terrLand_eq, if_pos hv]
    exact ⟨hterr, hgbus, hshown, hevent, hregs⟩
  case terrLow =>
    intro s m data hq hv hmute
    obtain ⟨hterr, hgbus, hshown, hevent, hregs⟩ := State.terrJudged_setMute (on := false) (v := data.toNat % 65536)
      (s := s) hq.1 (Nat.mod_lt _ (by decide)) (by simp [hmute])
    refine ⟨_, State.exec_terrWrite data hq, ?_⟩
    rw [State.terrLand_eq, if_neg (by omega), if_pos hv]
    exact ⟨hterr, hgbus, hshown, hevent, hregs⟩
  case terrBetween =>
    intro s m data hq hv
    refine ⟨_, State.exec_terrWrite data hq, ?_⟩
    rw [State.terrLand_stays (s := s.landed m ⟨.gbus, 0⟩) hv]
    refine ⟨?terr, ?gbus, ?words⟩
    case terr =>
      rw [State.get_showWpend_other (by decide), State.get_terrStored, Nat.mod_mod]
    case gbus => exact (State.regsOnly_showWpend _ (RegsOnly.refl _)).gbus
    case words =>
      have hset : WordsKept [Reg.GBUS.TERR.addr, Reg.GBUS.STAT_RUN.addr] s
          ((s.landed m ⟨.gbus, 0⟩).set Reg.GBUS.TERR (data.toNat % 65536)) :=
        (WordsKept.landed hq.1 (by decide)).set _ (by decide)
      exact (hset.same rfl : WordsKept _ s ((s.landed m ⟨.gbus, 0⟩).terrStored (data.toNat % 65536))).showWpend (by decide)
  case timeoutMutes =>
    intro s hmute hlate
    obtain ⟨hgbus, hshown, hevent, hterr, hregs⟩ := State.muteSet_setMute (on := true) (s := s) (by simp [hmute])
    refine ⟨s.terrTimeout, rfl, ?_⟩
    rw [State.terrTimeout_due hlate]
    exact ⟨hgbus, hshown, hterr, hevent, hregs⟩
  case timeoutEarly =>
    intro s h
    exact ⟨s.terrTimeout, rfl, State.terrTimeout_idle h⟩

end Sys2Proof.Machine
end

section
/-! SUPPORT. The pages of the address map by block type, and what the marking of a cause leaves. -/

namespace Sys2Proof.Machine

/-- The first address behind the pages of a block type. -/
def BlkKind.pagesEnd (k : BlkKind) : Nat := k.layout.1 + k.layout.2.1 * k.layout.2.2

/-- The pages of different block types do not overlap. -/
theorem BlkKind.pages_apart (j k : BlkKind) (h : j ≠ k) : j.pagesEnd ≤ k.layout.1 ∨ k.pagesEnd ≤ j.layout.1 := by
  revert j k
  have hall : ∀ j ∈ BlkKind.all, ∀ k ∈ BlkKind.all, j ≠ k → j.pagesEnd ≤ k.layout.1 ∨ k.pagesEnd ≤ j.layout.1 := by
    decide +kernel
  have hmem (k : BlkKind) : k ∈ BlkKind.all := by cases k <;> decide
  exact fun j k h => hall j (hmem j) k (hmem k) h

/-- The pages of a block type hold an address. -/
def BlkKind.holds (a : Nat) (k : BlkKind) : Bool := decide (k.layout.1 ≤ a) && decide (a < k.layout.1 + k.layout.2.1 * k.layout.2.2)

theorem BlkKind.holds_iff {a : Nat} {k : BlkKind} : k.holds a = true ↔ k.layout.1 ≤ a ∧ a < k.pagesEnd := by
  rw [holds, Bool.and_eq_true, decide_eq_true_eq, decide_eq_true_eq, pagesEnd]

/-- An address in the pages of a block type decodes to its instance. -/
theorem ofAddr_page {k : BlkKind} {a : Nat} (hlo : k.layout.1 ≤ a) (hhi : a < k.pagesEnd) :
    Blk.ofAddr a = some (⟨k, (a - k.layout.1) / k.layout.2.1⟩, (a - k.layout.1) % k.layout.2.1) := by
  have hmem : k ∈ BlkKind.all := by cases k <;> decide
  have honly (j : BlkKind) (hj : j.holds a = true) : j = k := by
    by_contra hne
    obtain ⟨hjlo, hjhi⟩ := BlkKind.holds_iff.mp hj
    have hap := BlkKind.pages_apart j k hne
    omega
  have hfind : BlkKind.all.find? (BlkKind.holds a) = some k := by
    cases hf : BlkKind.all.find? (BlkKind.holds a) with
    | none => exact absurd (BlkKind.holds_iff.mpr ⟨hlo, hhi⟩) (List.find?_eq_none.mp hf k hmem)
    | some j => rw [honly j (List.find?_some hf)]
  have hofAddr : Blk.ofAddr a = match BlkKind.all.find? (BlkKind.holds a) with
    | some k => some (⟨k, (a - k.layout.1) / k.layout.2.1⟩, (a - k.layout.1) % k.layout.2.1)
    | none => none := rfl
  rw [hofAddr, hfind]

theorem outside_page {ks : List BlkKind} {a : Nat} (k : BlkKind) (hk : k ∈ ks) (hlo : k.layout.1 ≤ a) (hhi : a < k.pagesEnd) :
    Outside ks a = false := by
  simp [Outside, ofAddr_page hlo hhi, hk]

theorem outside_of_page {ks : List BlkKind} {a : Nat} (k : BlkKind) (hk : k ∉ ks) (hlo : k.layout.1 ≤ a) (hhi : a < k.pagesEnd) :
    Outside ks a = true := by
  simp [Outside, ofAddr_page hlo hhi, hk]

theorem RegsKept.mono {ks ks' : List BlkKind} {s t : State} (h : RegsKept ks s t) (hks : ks ⊆ ks') : RegsKept ks' s t := by
  intro a ha
  refine h a ?_
  unfold Outside at ha ⊢
  split at ha
  · simp only [Bool.not_eq_true', List.contains_eq_mem, decide_eq_false_iff_not] at ha ⊢
    exact fun hm => ha (hks hm)
  · rfl

namespace State

variable (s : State)

theorem bit_get_raiseLimited {e : FRef} {i : Nat} (k src : Nat) (items : List Nat)
    (haddr : e.addr < 0x11003000 ∨ 0x11004800 ≤ e.addr) (h : bit (s.get e) i = true) :
    bit ((s.raiseLimited k src items).get e) i = true := by
  rw [get_raiseLimited _ _ _ _ haddr]
  exact h

theorem bit_get_orBit_of {e : FRef} {i : Nat} (j : Nat) (h : e.hi < 32) (hs : bit (s.get e) i = true) :
    bit ((s.orBit e j).get e) i = true := by
  have hwidth : i < e.width := by
    by_contra hw
    have hlt : s.get e < 2 ^ i := lt_of_lt_of_le (s.get_lt e) (Nat.pow_le_pow_right (by omega) (by omega))
    rw [bit, Nat.testBit_lt_two_pow hlt] at hs
    cases hs
  unfold bit at hs ⊢
  rw [orBit, get_set_same s _ h, Nat.testBit_mod_two_pow, Nat.testBit_or, hs]
  simp [hwidth]

/-- The field that a cause marks reads as after its bit was set. -/
theorem get_cause_same {e : FRef} (v : FRef) (c src : Nat) (items : List Nat)
    (haddr : e.addr < 0x11003000 ∨ 0x11004800 ≤ e.addr) : (s.cause e v src c items).get e = (s.orBit e c).get e := by
  unfold cause
  dsimp only
  split
  · exact get_raiseLimited _ _ _ _ haddr
  · rfl

theorem bit_get_cause {e : FRef} (v : FRef) {c : Nat} (src : Nat) (items : List Nat) (h : e.hi < 32) (hc : c < e.width)
    (haddr : e.addr < 0x11003000 ∨ 0x11004800 ≤ e.addr) : bit ((s.cause e v src c items).get e) c = true := by
  rw [get_cause_same s v c src items haddr]
  exact bit_get_orBit s h hc

/-- A cause leaves the bits of EVSTAT that were set. -/
theorem bit_get_cause_of {e : FRef} (v : FRef) {i : Nat} (c src : Nat) (items : List Nat) (h : e.hi < 32)
    (haddr : e.addr < 0x11003000 ∨ 0x11004800 ≤ e.addr) (hs : bit (s.get e) i = true) :
    bit ((s.cause e v src c items).get e) i = true := by
  rw [get_cause_same s v c src items haddr]
  exact bit_get_orBit_of s c h hs

theorem get_cause_other {r e : FRef} (v : FRef) (c src : Nat) (items : List Nat) (he : r.apart e = true) (hi : e.hi < 32)
    (haddr : r.addr < 0x11003000 ∨ 0x11004800 ≤ r.addr) : (s.cause e v src c items).get r = s.get r := by
  have hset := get_orBit_other s c he hi
  unfold cause
  dsimp only
  split
  · rw [get_raiseLimited _ _ _ _ haddr, hset]
  · exact hset

end State

theorem RegsKept.raiseLimited {ks : List BlkKind} {s t : State} (h : RegsKept ks s t) (k src : Nat) (items : List Nat)
    (hks : BlkKind.flt ∈ ks) : RegsKept ks s (t.raiseLimited k src items) := fun a ha => by
  rw [State.rd_raiseLimited _ _ _ _ (Outside.not_fltCount hks ha), h a ha]

theorem RegsKept.cause {ks : List BlkKind} {s t : State} (h : RegsKept ks s t) {e : FRef} (v : FRef) (src c : Nat)
    (items : List Nat) (he : Outside ks e.addr = false) (hks : BlkKind.flt ∈ ks) : RegsKept ks s (t.cause e v src c items) := by
  unfold State.cause
  dsimp only
  split
  · exact (h.orBit c he).raiseLimited _ _ _ hks
  · exact h.orBit c he

namespace RegsOnly

variable {s t : State}

theorem now (h : RegsOnly s t) : t.now = s.now := by obtain ⟨_, _, _, rfl⟩ := h; rfl
theorem inUse (h : RegsOnly s t) : t.inUse = s.inUse := by obtain ⟨_, _, _, rfl⟩ := h; rfl
theorem mgt (h : RegsOnly s t) : t.mgt = s.mgt := by obtain ⟨_, _, _, rfl⟩ := h; rfl
theorem fab (h : RegsOnly s t) : t.fab = s.fab := by obtain ⟨_, _, _, rfl⟩ := h; rfl
theorem prov (h : RegsOnly s t) : t.prov = s.prov := by obtain ⟨_, _, _, rfl⟩ := h; rfl
theorem chn (h : RegsOnly s t) : t.chn = s.chn := by obtain ⟨_, _, _, rfl⟩ := h; rfl
theorem ipm (h : RegsOnly s t) : t.ipm = s.ipm := by obtain ⟨_, _, _, rfl⟩ := h; rfl
theorem aud (h : RegsOnly s t) : t.aud = s.aud := by obtain ⟨_, _, _, rfl⟩ := h; rfl
theorem cnv (h : RegsOnly s t) : t.cnv = s.cnv := by obtain ⟨_, _, _, rfl⟩ := h; rfl
theorem mica (h : RegsOnly s t) : t.mica = s.mica := by obtain ⟨_, _, _, rfl⟩ := h; rfl
theorem scan (h : RegsOnly s t) : t.scan = s.scan := by obtain ⟨_, _, _, rfl⟩ := h; rfl
theorem lanes (h : RegsOnly s t) : t.lanes = s.lanes := by obtain ⟨_, _, _, rfl⟩ := h; rfl
theorem eth (h : RegsOnly s t) : t.eth = s.eth := by obtain ⟨_, _, _, rfl⟩ := h; rfl
theorem time (h : RegsOnly s t) : t.time = s.time := by obtain ⟨_, _, _, rfl⟩ := h; rfl
theorem lode (h : RegsOnly s t) : t.lode = s.lode := by obtain ⟨_, _, _, rfl⟩ := h; rfl
theorem dram (h : RegsOnly s t) : t.dram = s.dram := by obtain ⟨_, _, _, rfl⟩ := h; rfl
theorem twin (h : RegsOnly s t) : t.twin = s.twin := by obtain ⟨_, _, _, rfl⟩ := h; rfl
theorem jrp (h : RegsOnly s t) : t.jrp = s.jrp := by obtain ⟨_, _, _, rfl⟩ := h; rfl
theorem load (h : RegsOnly s t) : t.load = s.load := by obtain ⟨_, _, _, rfl⟩ := h; rfl
theorem key (h : RegsOnly s t) : t.key = s.key := by obtain ⟨_, _, _, rfl⟩ := h; rfl
theorem upd (h : RegsOnly s t) : t.upd = s.upd := by obtain ⟨_, _, _, rfl⟩ := h; rfl
theorem avs (h : RegsOnly s t) : t.avs = s.avs := by obtain ⟨_, _, _, rfl⟩ := h; rfl
theorem flash (h : RegsOnly s t) : t.flash = s.flash := by obtain ⟨_, _, _, rfl⟩ := h; rfl
theorem fuses (h : RegsOnly s t) : t.fuses = s.fuses := by obtain ⟨_, _, _, rfl⟩ := h; rfl
theorem landing (h : RegsOnly s t) : t.landing = s.landing := by obtain ⟨_, _, _, rfl⟩ := h; rfl
theorem restart (h : RegsOnly s t) : t.restart = s.restart := by obtain ⟨_, _, _, rfl⟩ := h; rfl
theorem wide (h : RegsOnly s t) : t.wide = s.wide := by obtain ⟨_, _, _, rfl⟩ := h; rfl
theorem sdi (h : RegsOnly s t) : t.sdi = s.sdi := by obtain ⟨_, _, _, rfl⟩ := h; rfl
theorem freeCtr (h : RegsOnly s t) : t.freeCtr = s.freeCtr := by obtain ⟨_, _, _, rfl⟩ := h; rfl

end RegsOnly

theorem FRef.apart_iff {r q : FRef} : r.apart q = true ↔ r.addr ≠ q.addr ∨ r.hi < q.lo ∨ q.hi < r.lo := by
  simp [FRef.apart, or_assoc]

namespace State

/-- A predicate that one change of a sequence brings about and the changes of the sequence keep. -/
theorem each_of_mem {α : Type} {f : α → State → State} {l : List α} {x : α} {p : State → Prop} (s : State) (hx : x ∈ l)
    (hmake : ∀ t, p (f x t)) (hkeep : ∀ y ∈ l, ∀ t, p t → p (f y t)) : p (s.each l f) := by
  unfold each
  induction l generalizing s with
  | nil => cases hx
  | cons y l ih =>
    rw [List.foldl_cons]
    have hrest : ∀ z ∈ l, ∀ t, p t → p (f z t) := fun z hz => hkeep z (List.mem_cons_of_mem _ hz)
    rcases List.mem_cons.mp hx with rfl | hx
    · exact List.foldlRecOn l _ (hmake s) fun t ht z hz => hrest z hz t ht
    · exact ih (f y s) hx hrest

/-- A predicate that the changes of a sequence keep, each judged with its element. -/
theorem each_inv_mem {α : Type} (s : State) (p : State → Prop) (f : α → State → State) (l : List α)
    (h : ∀ x ∈ l, ∀ t, p t → p (f x t)) (h0 : p s) : p (s.each l f) :=
  List.foldlRecOn l _ h0 fun t ht x hx => h x hx t ht

theorem use_congr {s t : State} (h : t.inUse = s.inUse) (r : FRef) : t.use r = s.use r := by rw [use, use, h]

end State

end Sys2Proof.Machine
end

section
/-! SUPPORT. External DRAM (R433–R444): the results of a training, and the maintenance of a channel. -/

namespace Sys2Proof.Machine

/-- A register of a channel page of the DRAM lies in the page of its block type. -/
theorem outside_drc {ks : List BlkKind} (hks : BlkKind.drc ∈ ks) {c a : Nat} (hc : c < 32) (hlo : 0x2A000000 + 0x1000 * c ≤ a)
    (hhi : a < 0x2A001000 + 0x1000 * c) : Outside ks a = false :=
  outside_page .drc hks (by simp only [BlkKind.layout]; omega) (by simp only [BlkKind.pagesEnd, BlkKind.layout]; omega)

theorem RegsOnly.stayOut {s t : State} (h : RegsOnly s t) : RegsOnly s (((t.set Reg.DRCC.STAT_TRAINED 0).set
    Reg.DRCC.CAP_USABLE 0).set Reg.DRCC.PLAN 0) := ((h.set _ _).set _ _).set _ _

namespace State

/-! ### The results of a training -/

theorem dramCfgChans_le (s : State) : s.dramCfgChans ≤ 32 := by
  unfold dramCfgChans dramChans
  split <;> decide

/-- The trained delays and the result of a channel are shown. -/
def trainResult (r : TrainResult) (s : State) : State :=
  (((s.set (Reg.DRC.TRAINRES_ATTEMPTS r.chan) r.attempts).set (Reg.DRC.TRAINRES_STEP r.chan) r.step).set
    (Reg.DRC.TRAINRES_MS r.chan) r.ms).set (Reg.DRC.TRACKOFS r.chan) 0

theorem trainShow_passed {r : TrainResult} (h : r.step = 0) (s : State) :
    s.trainShow r = ((s.trainResult r).set (Reg.DRC.STAT_TSTATE r.chan) 2).set (Reg.DRC.STAT_RUN r.chan) 1 := by
  rw [trainShow, if_pos h]
  rfl

theorem trainShow_failed {r : TrainResult} (h : r.step ≠ 0) (s : State) :
    s.trainShow r = ((s.trainResult r).set (Reg.DRC.STAT_TSTATE r.chan) 3).cause (Reg.DRC.EVSTAT r.chan) (Reg.DRC.EVEN r.chan)
      (1352 + r.chan) 2 [r.chan, r.step] := by
  rw [trainShow, if_neg h]
  rfl

theorem regsOnly_trainShow {r : TrainResult} {s t : State} (h : RegsOnly s t) : RegsOnly s (t.trainShow r) := by
  have hres : RegsOnly s (t.trainResult r) := (((h.set _ _).set _ _).set _ _).set _ _
  by_cases hstep : r.step = 0
  · rw [trainShow_passed hstep]
    exact (hres.set _ _).set _ _
  · rw [trainShow_failed hstep]
    exact (hres.set _ _).cause _ _ _ _ _

theorem outside_drcReg {ks : List BlkKind} (hks : BlkKind.drc ∈ ks) {c o : Nat} (hc : c < 32) (ho : o < 0x1000) :
    Outside ks (0x2A000000 + o + 0x1000 * c) = false := outside_drc hks hc (by omega) (by omega)

theorem regsKept_trainResult {ks : List BlkKind} (hks : BlkKind.drc ∈ ks) {r : TrainResult} {s t : State} (hr : r.chan < 32)
    (h : RegsKept ks s t) : RegsKept ks s (t.trainResult r) := by
  have hpage (o : Nat) (ho : o < 0x1000) := outside_drcReg hks hr ho
  exact (((h.set _ (hpage 0x10 (by decide))).set _ (hpage 0x10 (by decide))).set _ (hpage 0x10 (by decide))).set _
    (hpage 0x2C (by decide))

theorem regsKept_trainShow {ks : List BlkKind} (hks : BlkKind.drc ∈ ks) {r : TrainResult} {s t : State} (hr : r.chan < 32)
    (hflt : r.step = 0 ∨ BlkKind.flt ∈ ks) (h : RegsKept ks s t) : RegsKept ks s (t.trainShow r) := by
  have hres := regsKept_trainResult hks hr h
  have hpage (o : Nat) (ho : o < 0x1000) := outside_drcReg hks hr ho
  by_cases hstep : r.step = 0
  · rw [trainShow_passed hstep]
    exact (hres.set _ (hpage 4 (by decide))).set _ (hpage 4 (by decide))
  · rw [trainShow_failed hstep]
    exact (hres.set _ (hpage 4 (by decide))).cause _ _ _ _ (hpage 0xF0 (by decide)) (hflt.resolve_left hstep)

/-- A field outside the page of the channel, and outside the collector's counts, keeps its value. -/
theorem get_trainShow_other {x : FRef} {r : TrainResult} (s : State)
    (hx : x.addr < 0x2A000000 + 0x1000 * r.chan ∨ 0x2A001000 + 0x1000 * r.chan ≤ x.addr)
    (hflt : x.addr < 0x11003000 ∨ 0x11004800 ≤ x.addr) : (s.trainShow r).get x = s.get x := by
  have hap (q : FRef) (o : Nat) (ho : o < 0x1000) (hq : q.addr = 0x2A000000 + o + 0x1000 * r.chan) : x.apart q = true :=
    FRef.apart_of_addr (by omega)
  have hres : (s.trainResult r).get x = s.get x := by
    unfold trainResult
    rw [get_set_other _ _ (hap (Reg.DRC.TRACKOFS r.chan) 0x2C (by decide) rfl) (by decide : (15 : Nat) < 32),
      get_set_other _ _ (hap (Reg.DRC.TRAINRES_MS r.chan) 0x10 (by decide) rfl) (by decide : (15 : Nat) < 32),
      get_set_other _ _ (hap (Reg.DRC.TRAINRES_STEP r.chan) 0x10 (by decide) rfl) (by decide : (23 : Nat) < 32),
      get_set_other _ _ (hap (Reg.DRC.TRAINRES_ATTEMPTS r.chan) 0x10 (by decide) rfl) (by decide : (31 : Nat) < 32)]
  by_cases hstep : r.step = 0
  · rw [trainShow_passed hstep,
      get_set_other _ _ (hap (Reg.DRC.STAT_RUN r.chan) 4 (by decide) rfl) (by decide : (0 : Nat) < 32),
      get_set_other _ _ (hap (Reg.DRC.STAT_TSTATE r.chan) 4 (by decide) rfl) (by decide : (6 : Nat) < 32), hres]
  · rw [trainShow_failed hstep,
      get_cause_other _ _ _ _ _ (hap (Reg.DRC.EVSTAT r.chan) 0xF0 (by decide) rfl) (by decide : (9 : Nat) < 32) hflt,
      get_set_other _ _ (hap (Reg.DRC.STAT_TSTATE r.chan) 4 (by decide) rfl) (by decide : (6 : Nat) < 32), hres]

/-- A channel shows that its training failed, and at which step. -/
structure TrainFailed (r : TrainResult) (t : State) : Prop where
  tstate : t.get (Reg.DRC.STAT_TSTATE r.chan) = 3
  step : t.get (Reg.DRC.TRAINRES_STEP r.chan) = r.step
  event : bit (t.get (Reg.DRC.EVSTAT r.chan)) 2 = true

theorem trainFailed_trainShow {r : TrainResult} (hpos : 1 ≤ r.step) (hstep : r.step < 256) (s : State) :
    TrainFailed r (s.trainShow r) := by
  have hap {x q : FRef} (h : x.addr ≠ q.addr ∨ x.hi < q.lo ∨ q.hi < x.lo) : x.apart q = true := FRef.apart_iff.mpr h
  rw [trainShow_failed (by omega)]
  refine ⟨?tstate, ?step, bit_get_cause _ _ _ _ (by decide : (9 : Nat) < 32) (by decide : 2 < 10) ?_⟩
  case tstate =>
    rw [get_cause_other _ _ _ _ _ (hap (by simp only [Reg.DRC.STAT_TSTATE, Reg.DRC.EVSTAT]; omega))
      (by decide : (9 : Nat) < 32) (by simp only [Reg.DRC.STAT_TSTATE]; omega), get_set_same _ _ (by decide : (6 : Nat) < 32)]
    rfl
  case step =>
    rw [get_cause_other _ _ _ _ _ (hap (by simp only [Reg.DRC.TRAINRES_STEP, Reg.DRC.EVSTAT]; omega))
      (by decide : (9 : Nat) < 32) (by simp only [Reg.DRC.TRAINRES_STEP]; omega),
      get_set_other _ _ (hap (by simp only [Reg.DRC.TRAINRES_STEP, Reg.DRC.STAT_TSTATE]; omega)) (by decide : (6 : Nat) < 32),
      trainResult, get_set_other _ _ (hap (by simp only [Reg.DRC.TRAINRES_STEP, Reg.DRC.TRACKOFS]; omega))
        (by decide : (15 : Nat) < 32),
      get_set_other _ _ (hap (by simp only [Reg.DRC.TRAINRES_STEP, Reg.DRC.TRAINRES_MS]; omega)) (by decide : (15 : Nat) < 32),
      get_set_same _ _ (by decide : (23 : Nat) < 32)]
    exact Nat.mod_eq_of_lt hstep
  case _ => simp only [Reg.DRC.EVSTAT]; omega

/-- The result of another channel leaves what a failed channel shows. -/
theorem TrainFailed.trainShow_other {r q : TrainResult} {t : State} (h : TrainFailed r t) (hq : q.chan ≠ r.chan) :
    TrainFailed r (t.trainShow q) := by
  obtain ⟨hstate, hstep, hevent⟩ := h
  have hkeep (o hi lo : Nat) (ho : o < 0x1000) : (t.trainShow q).get ⟨0x2A000000 + o + 0x1000 * r.chan, hi, lo⟩ =
      t.get ⟨0x2A000000 + o + 0x1000 * r.chan, hi, lo⟩ :=
    get_trainShow_other t (by simp only; omega) (by simp only; omega)
  refine ⟨(hkeep 4 6 5 (by decide)).trans hstate, (hkeep 0x10 23 16 (by decide)).trans hstep, ?_⟩
  exact (congrArg (fun v => bit v 2) (hkeep 0xF0 9 0 (by decide)) :).trans hevent

/-- Every populated channel has its result. -/
abbrev trainComplete (results : List TrainResult) (s : State) : Prop :=
  (List.range s.dramCfgChans).all (fun c => results.any fun r => r.chan == c) = true

/-- The results that are judged. -/
abbrev judgedResults (results : List TrainResult) (s : State) : List TrainResult :=
  results.filter fun r => decide (r.chan < s.dramCfgChans)

theorem mem_judgedResults {results : List TrainResult} {s : State} {r : TrainResult} :
    r ∈ s.judgedResults results ↔ r ∈ results ∧ r.chan < s.dramCfgChans := by
  simp [judgedResults]

/-- The DRAM stays out of service. -/
def stayOut (s : State) : State := ((s.set Reg.DRCC.STAT_TRAINED 0).set Reg.DRCC.CAP_USABLE 0).set Reg.DRCC.PLAN 0

/-- The content of the DRAM is that of its configuration, and kept where it was trained for that. -/
def trainedFor (cfg : Word) (s : State) : State := s.updDram fun d =>
  { d with trainedCfg := some cfg, scrubAt := s.now,
           mem := if d.trainedCfg = some cfg then d.mem else [],
           inverted := if d.trainedCfg = some cfg then d.inverted else [] }

/-- The DRAM enters service. -/
def enterService (s : State) : State :=
  ((((s.set Reg.DRCC.STAT_TRAINED 1).set Reg.DRCC.STAT_RUN 1).set Reg.DRCC.CAP_USABLE (s.dramUsableMib / 64)).set
    Reg.DRCC.PLAN s.dramPlan).showSpace

theorem get_stayOut_other {r : FRef} (s : State) (hr : r.addr < 0x2A020000) : s.stayOut.get r = s.get r := by
  have hap (q : FRef) (hq : 0x2A020000 ≤ q.addr) : r.apart q = true := FRef.apart_of_addr (by omega)
  rw [stayOut, get_set_other _ _ (hap Reg.DRCC.PLAN (by decide)) (by decide),
    get_set_other _ _ (hap Reg.DRCC.CAP_USABLE (by decide)) (by decide),
    get_set_other _ _ (hap Reg.DRCC.STAT_TRAINED (by decide)) (by decide)]

theorem stayOut_run (s : State) : s.stayOut.get Reg.DRCC.STAT_RUN = s.get Reg.DRCC.STAT_RUN := by
  rw [stayOut, get_set_other _ _ (by decide) (by decide), get_set_other _ _ (by decide) (by decide),
    get_set_other _ _ (by decide) (by decide)]

theorem stayOut_trained (s : State) : s.stayOut.get Reg.DRCC.STAT_TRAINED = 0 := by
  rw [stayOut, get_set_other _ _ (by decide) (by decide), get_set_other _ _ (by decide) (by decide),
    get_set_same _ _ (by decide)]
  rfl

theorem stayOut_usable (s : State) : s.stayOut.get Reg.DRCC.CAP_USABLE = 0 := by
  rw [stayOut, get_set_other _ _ (by decide) (by decide), get_set_same _ _ (by decide)]
  rfl

theorem stayOut_plan (s : State) : s.stayOut.get Reg.DRCC.PLAN = 0 := by
  rw [stayOut, get_set_same _ _ (by decide)]
  rfl

/-- What the DRAM shows in service. -/
structure Served (s t : State) : Prop where
  only : RegsOnly s t
  run : t.get Reg.DRCC.STAT_RUN = 1
  trained : t.get Reg.DRCC.STAT_TRAINED = 1
  usable : t.get Reg.DRCC.CAP_USABLE = s.dramUsableMib / 64 % 2048
  plan : t.get Reg.DRCC.PLAN = s.dramPlan % 2 ^ Reg.DRCC.PLAN.width
  regs : RegsKept [.drcc] s t

theorem enterService_served (s : State) : Served s s.enterService := by
  unfold enterService showSpace
  refine ⟨((((((RegsOnly.refl s).set _ _).set _ _).set _ _).set _ _).set _ _), ?run, ?trained, ?usable, ?plan, ?regs⟩
  case run =>
    rw [get_set_other _ _ (by decide) (by decide), get_set_other _ _ (by decide) (by decide),
      get_set_other _ _ (by decide) (by decide), get_set_same _ _ (by decide)]
    rfl
  case trained =>
    rw [get_set_other _ _ (by decide) (by decide), get_set_other _ _ (by decide) (by decide),
      get_set_other _ _ (by decide) (by decide), get_set_other _ _ (by decide) (by decide), get_set_same _ _ (by decide)]
    rfl
  case usable =>
    rw [get_set_other _ _ (by decide) (by decide), get_set_other _ _ (by decide) (by decide), get_set_same _ _ (by decide)]
    rfl
  case plan => rw [get_set_other _ _ (by decide) (by decide), get_set_same _ _ (by decide)]
  case regs =>
    exact (((((RegsKept.refl [.drcc] s).set _ (by decide)).set _ (by decide)).set _ (by decide)).set _ (by decide)).set _
      (by decide)

theorem dramEcc_congr {s t : State} (h : t.inUse = s.inUse) : t.dramEcc = s.dramEcc := by
  rw [dramEcc, dramEcc, use_congr h]

theorem dramCfgChans_congr {s t : State} (h : t.inUse = s.inUse) : t.dramCfgChans = s.dramCfgChans := by
  rw [dramCfgChans, dramCfgChans, use_congr h]

theorem dramUsableMib_congr {s t : State} (h : t.inUse = s.inUse) : t.dramUsableMib = s.dramUsableMib := by
  have hfitted : t.dramFittedMib = s.dramFittedMib := by
    simp only [dramFittedMib, dramCfgChans_congr h, dramCfgMib, use_congr h]
  rw [dramUsableMib, dramUsableMib, dramEcc_congr h, hfitted]

theorem dramPlan_congr {s t : State} (h : t.inUse = s.inUse) : t.dramPlan = s.dramPlan := by
  have hrate : t.dramCfgRate = s.dramCfgRate := by rw [dramCfgRate, dramCfgRate, use_congr h]
  rw [dramPlan, dramPlan, dramEcc_congr h, dramCfgChans_congr h, hrate]

theorem run_of_dramTraining {s : State} (h : s.dramTraining = true) : s.get Reg.DRCC.STAT_RUN = 0 := by
  simp only [dramTraining, Bool.and_eq_true, beq_iff_eq] at h
  exact h.1.1.2

theorem trainDone_some {results : List TrainResult} {s : State} (ht : s.dramTraining = true) (hc : s.trainComplete results)
    (h : ¬∀ r ∈ s.judgedResults results, r.step = 0) :
    s.trainDone results = (s.each (s.judgedResults results) trainShow).stayOut := by
  have hall : ((s.judgedResults results).all fun r => decide (r.step = 0)) ≠ true := by
    simpa only [ne_eq, List.all_eq_true, decide_eq_true_eq] using h
  unfold trainDone
  rw [if_pos ⟨ht, hc⟩]
  dsimp only
  rw [if_neg hall]
  rfl

theorem trainDone_all {results : List TrainResult} {s : State} (ht : s.dramTraining = true) (hc : s.trainComplete results)
    (h : ∀ r ∈ s.judgedResults results, r.step = 0) :
    s.trainDone results =
      ((s.each (s.judgedResults results) trainShow).trainedFor
        (Assoc.findD (s.each (s.judgedResults results) trainShow).inUse 0x2A020010 (resetWord 0x2A020010))).enterService := by
  have hall : ((s.judgedResults results).all fun r => decide (r.step = 0)) = true := by
    simpa only [List.all_eq_true, decide_eq_true_eq] using h
  unfold trainDone
  rw [if_pos ⟨ht, hc⟩]
  dsimp only
  rw [if_pos hall]
  rfl

theorem trainDone_none {results : List TrainResult} {s : State} (h : s.dramTraining = false ∨ ¬s.trainComplete results) :
    s.trainDone results = s := by
  refine if_neg ?_
  rintro ⟨ht, hc⟩
  rcases h with h | h
  · simp [h] at ht
  · exact h hc

theorem loadResume_off {s : State} (h : s.load.on = false) : s.loadResume = s := by
  simp [loadResume, h]

/-! ### Maintenance of a channel -/

/-- The command serves a channel that is populated and in service. -/
theorem when_served {c : Nat} {s : State} (f : State → State) (hup : s.dramUp = true) (hc : c < s.dramCfgChans) :
    s.when (s.dramUp && decide (c < s.dramCfgChans)) f = f s := by
  rw [hup, decide_eq_true hc]
  rfl

theorem when_notServed {c : Nat} {s : State} (f : State → State) (h : s.dramUp = false ∨ s.dramCfgChans ≤ c) :
    s.when (s.dramUp && decide (c < s.dramCfgChans)) f = s := by
  rcases h with h | h
  · rw [h, Bool.false_and, when_false]
  · rw [decide_eq_false (by omega), Bool.and_false, when_false]

theorem refreshDue_room {c : Nat} {s : State} (h : s.get (Reg.DRC.REFCNT_POSTPONED c) < min 8 (s.use Reg.DRCC.REFCFG)) :
    s.refreshDue c true = s.set (Reg.DRC.REFCNT_POSTPONED c) (s.get (Reg.DRC.REFCNT_POSTPONED c) + 1) := by
  unfold refreshDue
  dsimp only
  rw [if_pos rfl, if_pos h]

theorem refreshDue_limit {c : Nat} {s : State} (h : min 8 (s.use Reg.DRCC.REFCFG) ≤ s.get (Reg.DRC.REFCNT_POSTPONED c))
    (hpos : 0 < s.use Reg.DRCC.REFCFG) :
    s.refreshDue c true =
      ((s.set (Reg.DRC.REFCNT_POSTPONED c) 0).bump (Reg.DRC.REFCNT_BURSTS c) 1).drcCause c 6 := by
  unfold refreshDue
  dsimp only
  rw [if_pos rfl, if_neg (by omega), if_neg (by omega)]

theorem refreshDue_never {c : Nat} {s : State} (h : s.use Reg.DRCC.REFCFG = 0) : s.refreshDue c true = s := by
  unfold refreshDue
  dsimp only
  rw [if_pos rfl, h, if_neg (by omega), if_pos (by decide)]

theorem refreshDue_free {c : Nat} {s : State} : s.refreshDue c false = s.set (Reg.DRC.REFCNT_POSTPONED c) 0 := rfl

/-- What a cause of a channel leaves alone, and shows. -/
theorem get_drcCause_other {x : FRef} {c : Nat} (n : Nat) (s : State) (hx : x.addr ≠ 0x2A0000F0 + 0x1000 * c)
    (hflt : x.addr < 0x11003000 ∨ 0x11004800 ≤ x.addr) : (s.drcCause c n).get x = s.get x :=
  get_cause_other s _ _ _ _ (FRef.apart_of_addr hx) (by decide : (9 : Nat) < 32) hflt

theorem drcCause_dram (c n : Nat) (s : State) : (s.drcCause c n).dram = s.dram := ((RegsOnly.refl s).cause _ _ _ _ _).dram

theorem bit_drcCause {n : Nat} (c : Nat) (s : State) (hn : n < 10) :
    bit ((s.drcCause c n).get (Reg.DRC.EVSTAT c)) n = true :=
  bit_get_cause s _ _ _ (by decide : (9 : Nat) < 32) hn (by simp only [Reg.DRC.EVSTAT]; omega)

theorem regsKept_drcCause {ks : List BlkKind} {c : Nat} (n : Nat) {s t : State} (h : RegsKept ks s t) (hc : c < 32)
    (hks : BlkKind.drc ∈ ks) (hflt : BlkKind.flt ∈ ks) : RegsKept ks s (t.drcCause c n) :=
  h.cause _ _ _ _ (outside_drcReg (o := 0xF0) hks hc (by decide)) hflt

/-- The temperature of a poll, and the band it tells. -/
def polled (c code band : Nat) (s : State) : State :=
  ((s.set (Reg.DRC.TEMP c) code).setB (Reg.DRC.STAT_HOT c) (decide (0 < band))).updDram fun d =>
    { d with band := Assoc.set d.band c band 0 }

theorem mr4Poll_eq (c code band : Nat) (overs : Bool) (s : State) :
    s.mr4Poll c code band overs = (s.polled c code band).when overs (drcCause c 9) := rfl

theorem polled_shown (c code band : Nat) (hlt : c < 32) (s : State) :
    (s.polled c code band).get (Reg.DRC.TEMP c) = code % 2 ^ (Reg.DRC.TEMP c).width ∧
      (s.polled c code band).get (Reg.DRC.STAT_HOT c) = b2n (decide (0 < band)) ∧
      Assoc.findD (s.polled c code band).dram.band c 0 = band ∧
      (s.polled c code band).get (Reg.DRC.EVSTAT c) = s.get (Reg.DRC.EVSTAT c) ∧ RegsKept [.drc, .flt] s (s.polled c code band) := by
  have hpage (o : Nat) (ho : o < 0x1000) : Outside [.drc, .flt] (0x2A000000 + o + 0x1000 * c) = false :=
    outside_drcReg (by decide) hlt ho
  have hread (r : FRef) : (s.polled c code band).get r =
      ((s.set (Reg.DRC.TEMP c) code).setB (Reg.DRC.STAT_HOT c) (decide (0 < band))).get r := rfl
  refine ⟨?temp, ?hot, Assoc.findD_set_same _ _ _ _, ?evstat, ?regs⟩
  case temp =>
    rw [hread, get_setB_other _ _ (FRef.apart_of_addr (by simp only [Reg.DRC.TEMP, Reg.DRC.STAT_HOT]; omega))
      (by decide : (8 : Nat) < 32), get_set_same _ _ (by decide : (2 : Nat) < 32)]
  case hot => rw [hread, get_setB_same _ _ (by decide : (8 : Nat) < 32) (by decide : 8 ≤ 8)]
  case evstat =>
    rw [hread, get_setB_other _ _ (FRef.apart_of_addr (by simp only [Reg.DRC.EVSTAT, Reg.DRC.STAT_HOT]; omega))
      (by decide : (8 : Nat) < 32), get_set_other _ _ (FRef.apart_of_addr (by simp only [Reg.DRC.EVSTAT, Reg.DRC.TEMP]; omega))
      (by decide : (2 : Nat) < 32)]
  case regs =>
    have hset : RegsKept [.drc, .flt] s ((s.set (Reg.DRC.TEMP c) code).setB (Reg.DRC.STAT_HOT c) (decide (0 < band))) :=
      ((RegsKept.refl _ s).set _ (hpage 0x28 (by decide))).setB _ (hpage 4 (by decide))
    exact hset.same rfl

theorem scrubLate_due {s : State} (hup : s.dramUp = true)
    (h : s.dram.scrubAt + 1000000000 * max 1 (s.use Reg.DRCC.SCRUB) ≤ s.now) :
    s.scrubLate = (s.updDram fun d => { d with scrubAt := s.now }).drccCause 8 := if_pos ⟨hup, h⟩

theorem scrubLate_idle {s : State}
    (h : s.dramUp = false ∨ s.now < s.dram.scrubAt + 1000000000 * max 1 (s.use Reg.DRCC.SCRUB)) : s.scrubLate = s := by
  refine if_neg ?_
  rintro ⟨hup, hlate⟩
  rcases h with h | h
  · simp [h] at hup
  · exact Nat.not_le_of_lt h hlate

/-- The limit of the tracked offset fits its field. -/
theorem trackLimit_le (s : State) : s.trackLimit ≤ 63 := by
  have hrate : s.dramCfgRate = 6400 ∨ s.dramCfgRate = 7500 ∨ s.dramCfgRate = 8533 := by
    unfold dramCfgRate dramRate
    split <;> simp
  have hdiv (d : Int) (hd : 400000 / d ≤ 62) : (divFree 443 400000 d).toNat ≤ 63 := by
    unfold divFree
    split
    · omega
    · split <;> omega
  rcases hrate with h | h | h <;> exact hdiv _ (by rw [h]; decide)

/-- A number within 16 bits of two's complement is read as it was written. -/
theorem toSigned_ofSigned {v : Int} (hlo : -(2 ^ 15) ≤ v) (hhi : v < 2 ^ 15) : toSigned 16 (ofSigned 16 v) = v := by
  unfold toSigned ofSigned
  split <;> omega

theorem toSigned_mod (w v : Nat) : toSigned w (v % 2 ^ w) = toSigned w v := by
  unfold toSigned
  rw [Nat.mod_mod]
  simp only [Int.natCast_mod, Int.natCast_pow, Nat.cast_ofNat, Int.emod_emod]

theorem trackMove_inside {c : Nat} {move v : Int} {s : State} (hv : v = toSigned 16 (s.get (Reg.DRC.TRACKOFS c)) + move)
    (h : v.natAbs < s.trackLimit) : s.trackMove c move = s.set (Reg.DRC.TRACKOFS c) (ofSigned 16 v) := by
  have hclamp : clampInt (-(s.trackLimit : Int)) s.trackLimit v = v := by unfold clampInt; omega
  unfold trackMove
  dsimp only
  rw [← hv, decide_eq_false (by omega), when_false, hclamp]

theorem trackMove_beyond {c : Nat} {move v : Int} {s : State} (hv : v = toSigned 16 (s.get (Reg.DRC.TRACKOFS c)) + move)
    (h : s.trackLimit ≤ v.natAbs) : s.trackMove c move =
      (s.set (Reg.DRC.TRACKOFS c) (ofSigned 16 (clampInt (-(s.trackLimit : Int)) s.trackLimit v))).drcCause c 3 := by
  unfold trackMove
  dsimp only
  rw [← hv, decide_eq_true h, when_true]

end State

/-- Settles O39: the results of a training and each maintenance command of a channel, by its own branch. -/
theorem dramTrainingAndRefresh : Obligations.DramTrainingAndRefresh := by
  unfold Obligations.DramTrainingAndRefresh
  refine ⟨?failed, ?passed, ?noTraining, ?notServed, ?postponed, ?burst, ?never, ?issued, ?poll, ?late, ?promoted, ?tracked,
    ?limit, ?scrub, ?scrubEarly⟩
  case failed =>
    intro s results r ht hload hc hr honly hchan hlt hpos hstep
    have hmem : r ∈ s.judgedResults results := State.mem_judgedResults.mpr ⟨hr, hchan⟩
    have hshow : State.TrainFailed r (s.each (s.judgedResults results) State.trainShow) := by
      refine State.each_of_mem s hmem (State.trainFailed_trainShow hpos hstep) fun q hq t h => ?_
      by_cases hqr : q.chan = r.chan
      · rw [honly q (State.mem_judgedResults.mp hq).1 hqr]
        exact State.trainFailed_trainShow hpos hstep t
      · exact h.trainShow_other hqr
    have hsome : ¬∀ q ∈ s.judgedResults results, q.step = 0 := fun h => by have := h r hmem; omega
    have honlyRegs : RegsOnly s (s.each (s.judgedResults results) State.trainShow) :=
      (RegsOnly.refl s).each _ fun _ _ h => State.regsOnly_trainShow h
    have hregs : RegsKept [.drc, .flt] s (s.each (s.judgedResults results) State.trainShow) :=
      State.each_inv_mem s (RegsKept [.drc, .flt] s) _ _ (fun q hq t h => State.regsKept_trainShow (by decide)
        (lt_of_lt_of_le (State.mem_judgedResults.mp hq).2 s.dramCfgChans_le) (.inr (by decide)) h) (RegsKept.refl _ s)
    have hrun : s.get Reg.DRCC.STAT_RUN = 0 := State.run_of_dramTraining ht
    refine ⟨_, rfl, ?_⟩
    rw [State.trainDone_some ht hc hsome, 
      State.loadResume_off (by rw [State.stayOut, honlyRegs.stayOut.load, hload])]
    generalize s.each (s.judgedResults results) State.trainShow = u at *
    obtain ⟨htstate, hshown, hevent⟩ := hshow
    have hkeep (o hi lo : Nat) (ho : o < 0x1000) := State.get_stayOut_other (r := ⟨0x2A000000 + o + 0x1000 * r.chan, hi, lo⟩) u
      (by simp only; omega)
    refine ⟨?run, ?trained, ?usable, ?plan, (hkeep 4 6 5 (by decide)).trans htstate,
      (hkeep 0x10 23 16 (by decide)).trans hshown, (congrArg (fun v => bit v 2) (hkeep 0xF0 9 0 (by decide)) :).trans hevent, ?regs⟩
    case run => rw [State.stayOut_run, hregs.get (by decide), hrun]
    case trained => exact State.stayOut_trained u
    case usable => exact State.stayOut_usable u
    case plan => exact State.stayOut_plan u
    case regs =>
      have hpages : RegsKept [.drc, .drcc, .flt] s u := hregs.mono (by decide)
      exact ((hpages.set 0 (by decide)).set 0 (by decide)).set 0 (by decide)
  case passed =>
    intro s results ht hload hc hall
    have hzero : ∀ r ∈ s.judgedResults results, r.step = 0 := fun r hr =>
      hall r (State.mem_judgedResults.mp hr).1 (State.mem_judgedResults.mp hr).2
    have honly : RegsOnly s (s.each (s.judgedResults results) State.trainShow) :=
      (RegsOnly.refl s).each _ fun _ _ h => State.regsOnly_trainShow h
    have hregs : RegsKept [.drc, .drcc] s (s.each (s.judgedResults results) State.trainShow) :=
      State.each_inv_mem s (RegsKept [.drc, .drcc] s) _ _ (fun q hq t h => State.regsKept_trainShow (by decide)
        (lt_of_lt_of_le (State.mem_judgedResults.mp hq).2 s.dramCfgChans_le) (.inl (hzero q hq)) h) (RegsKept.refl _ s)
    refine ⟨_, rfl, ?_⟩
    rw [State.trainDone_all ht hc hzero]
    generalize s.each (s.judgedResults results) State.trainShow = u at *
    rw [honly.inUse]
    generalize hcfg : Assoc.findD s.inUse 0x2A020010 (resetWord 0x2A020010) = cfg at *
    have hserved := State.enterService_served (u.trainedFor cfg)
    have hload' : (u.trainedFor cfg).enterService.load = s.load := hserved.only.load.trans honly.load
    have hdram : (u.trainedFor cfg).enterService.dram = (u.trainedFor cfg).dram := hserved.only.dram
    rw [State.loadResume_off (by rw [hload', hload])]
    refine ⟨hserved.run, hserved.trained, ?usable, ?plan, ?cfg, ?mem, ?regs⟩
    case usable =>
      rw [hserved.usable, State.dramUsableMib_congr (t := u.trainedFor cfg) honly.inUse]
    case plan =>
      rw [hserved.plan, State.dramPlan_congr (t := u.trainedFor cfg) honly.inUse]
    case cfg => rw [hdram]; rfl
    case mem =>
      rw [hdram]
      show (if u.dram.trainedCfg = some cfg then u.dram.mem else []) = if s.dram.trainedCfg = some cfg then s.dram.mem else []
      rw [honly.dram]
    case regs =>
      have hstart : RegsKept [.drc, .drcc] s (u.trainedFor cfg) := hregs.same rfl
      exact hstart.trans (hserved.regs.mono (by decide))
  case noTraining =>
    intro s results hload h
    refine ⟨_, rfl, ?_⟩
    rw [State.trainDone_none (h.imp_right fun h => by rw [State.trainComplete, h]; exact Bool.false_ne_true), State.loadResume_off hload]
  case notServed =>
    intro s c cls q overs k band v cmd hcmd h
    simp only [List.mem_cons, List.not_mem_nil, or_false] at hcmd
    rcases hcmd with rfl | rfl | rfl | rfl <;> exact ⟨_, rfl, State.when_notServed _ h⟩
  case postponed =>
    intro s c hup hc hlt hroom
    have hfit : s.get (Reg.DRC.REFCNT_POSTPONED c) + 1 < 2 ^ 4 := by omega
    refine ⟨_, rfl, ?_⟩
    rw [State.when_served _ hup hc, State.refreshDue_room hroom]
    refine ⟨?_, (WordsKept.refl _ s).set _ (List.mem_singleton_self _), rfl⟩
    rw [State.get_set_same _ _ (by decide : (3 : Nat) < 32)]
    exact Nat.mod_eq_of_lt hfit
  case burst =>
    intro s c hup hc hlt hroom hpos
    refine ⟨_, rfl, ?_⟩
    have hpage : Outside [.drc, .flt] (0x2A000020 + 0x1000 * c) = false :=
      State.outside_drcReg (o := 0x20) (by decide) hlt (by decide)
    rw [State.when_served _ hup hc, State.refreshDue_limit hroom hpos]
    refine ⟨?_, ?_, State.bit_drcCause c _ (by decide), ?_⟩
    · rw [State.get_drcCause_other _ _ (by simp only [Reg.DRC.REFCNT_POSTPONED]; omega)
        (by simp only [Reg.DRC.REFCNT_POSTPONED]; omega), State.get_bump_other _ _ (FRef.apart_iff.mpr (.inr (.inl (by decide : 3 < 16))))
        (by decide : (31 : Nat) < 32), State.get_set_same _ _ (by decide : (3 : Nat) < 32)]
      rfl
    · rw [State.get_drcCause_other _ _ (by simp only [Reg.DRC.REFCNT_BURSTS]; omega)
        (by simp only [Reg.DRC.REFCNT_BURSTS]; omega), State.get_bump_same _ _ (by decide : (31 : Nat) < 32),
        State.get_set_other _ _ (FRef.apart_iff.mpr (.inr (.inr (by decide : 3 < 16)))) (by decide : (3 : Nat) < 32)]
      rfl
    · exact State.regsKept_drcCause 6 (((RegsKept.refl _ s).set _ hpage).bump 1 hpage) hlt (by decide) (by decide)
  case never =>
    intro s c hup hc hlt h
    refine ⟨_, rfl, ?_⟩
    rw [State.when_served _ hup hc, State.refreshDue_never h]
  case issued =>
    intro s c hup hc hlt
    refine ⟨_, rfl, ?_⟩
    rw [State.when_served _ hup hc, State.refreshDue_free]
    exact ⟨State.get_set_same _ _ (by decide : (3 : Nat) < 32), (WordsKept.refl _ s).set _ (List.mem_singleton_self _)⟩
  case poll =>
    intro s c code band overs hup hc hlt
    have hpage (o : Nat) (ho : o < 0x1000) : Outside [.drc, .flt] (0x2A000000 + o + 0x1000 * c) = false :=
      State.outside_drcReg (by decide) hlt ho
    refine ⟨_, rfl, ?_⟩
    rw [State.when_served _ hup hc, State.mr4Poll_eq]
    obtain ⟨htemp, hhot, hband, hevstat, hregs⟩ := State.polled_shown c code band hlt s
    cases overs
    case false => exact ⟨htemp, hhot, hband, hevstat, hregs⟩
    case true =>
      rw [State.when_true]
      refine ⟨?_, ?_, ?_, State.bit_drcCause c _ (by decide), State.regsKept_drcCause 9 hregs hlt (by decide) (by decide)⟩
      · rw [State.get_drcCause_other _ _ (by simp only [Reg.DRC.TEMP]; omega) (by simp only [Reg.DRC.TEMP]; omega), htemp]
      · rw [State.get_drcCause_other _ _ (by simp only [Reg.DRC.STAT_HOT]; omega) (by simp only [Reg.DRC.STAT_HOT]; omega), hhot]
      · rw [State.drcCause_dram, hband]
  case late =>
    intro s c hup hc hlt
    have hpage : Outside [.drc, .flt] (0x2A000024 + 0x1000 * c) = false :=
      State.outside_drcReg (o := 0x24) (by decide) hlt (by decide)
    refine ⟨_, rfl, ?_⟩
    rw [State.when_served _ hup hc, State.ageExpire, if_pos rfl]
    refine ⟨?_, State.bit_drcCause c _ (by decide),
      State.regsKept_drcCause 7 ((RegsKept.refl _ s).bump 1 hpage) hlt (by decide) (by decide)⟩
    rw [State.get_drcCause_other _ _ (by simp only [Reg.DRC.LATECNT_C0LATE]; omega)
      (by simp only [Reg.DRC.LATECNT_C0LATE]; omega), State.get_bump_same _ _ (by decide : (15 : Nat) < 32)]
    rfl
  case promoted =>
    intro s c cls hup hc hlt hcls
    refine ⟨_, rfl, ?_⟩
    rw [State.when_served _ hup hc, State.ageExpire, if_neg (by omega)]
    exact ⟨State.get_bump_same s 1 (by decide : (31 : Nat) < 32), (WordsKept.refl _ s).set _ (List.mem_singleton_self _)⟩
  case tracked =>
    intro s c move v hup hc hlt hv hlim
    refine ⟨_, rfl, ?_⟩
    have hle := s.trackLimit_le
    rw [State.when_served _ hup hc, State.trackMove_inside hv hlim]
    refine ⟨?_, (WordsKept.refl _ s).set _ (List.mem_singleton_self _)⟩
    rw [State.get_set_same _ _ (by decide : (15 : Nat) < 32), show (Reg.DRC.TRACKOFS c).width = 16 from rfl, State.toSigned_mod,
      State.toSigned_ofSigned (by omega) (by omega)]
  case limit =>
    intro s c move v hup hc hlt hv hlim
    have hle := s.trackLimit_le
    have hpage : Outside [.drc, .flt] (0x2A00002C + 0x1000 * c) = false :=
      State.outside_drcReg (o := 0x2C) (by decide) hlt (by decide)
    refine ⟨_, rfl, ?_⟩
    rw [State.when_served _ hup hc, State.trackMove_beyond hv hlim]
    refine ⟨?_, State.bit_drcCause c _ (by decide),
      State.regsKept_drcCause 3 ((RegsKept.refl _ s).set _ hpage) hlt (by decide) (by decide)⟩
    have hclamp : -(s.trackLimit : Int) ≤ clampInt (-(s.trackLimit : Int)) s.trackLimit v ∧
        clampInt (-(s.trackLimit : Int)) s.trackLimit v ≤ s.trackLimit ∧
        (clampInt (-(s.trackLimit : Int)) s.trackLimit v).natAbs = s.trackLimit := by unfold clampInt; omega
    rw [State.get_drcCause_other _ _ (by simp only [Reg.DRC.TRACKOFS]; omega) (by simp only [Reg.DRC.TRACKOFS]; omega),
      State.get_set_same _ _ (by decide : (15 : Nat) < 32), show (Reg.DRC.TRACKOFS c).width = 16 from rfl, State.toSigned_mod,
      State.toSigned_ofSigned (by omega) (by omega)]
    exact hclamp.2.2
  case scrub =>
    intro s hup hlate
    refine ⟨s.scrubLate, rfl, ?_⟩
    rw [State.scrubLate_due hup hlate]
    have honly : RegsOnly (s.updDram fun d => { d with scrubAt := s.now }) ((s.updDram fun d =>
        { d with scrubAt := s.now }).drccCause 8) := (RegsOnly.refl _).cause _ _ _ _ _
    refine ⟨by rw [honly.dram]; rfl, State.bit_get_cause _ _ _ _ (by decide) (by decide) (by decide), by rw [honly.dram]; rfl, ?_⟩
    have hstart : RegsKept [.drcc, .flt] s (s.updDram fun d => { d with scrubAt := s.now }) := (RegsKept.refl _ s).same rfl
    exact hstart.cause _ _ _ _ (by decide) (by decide)
  case scrubEarly =>
    intro s h
    exact ⟨s.scrubLate, rfl, State.scrubLate_idle h⟩

end Sys2Proof.Machine
end

section
/-! SUPPORT. What is pending after a raise, and the size of a number that bytes spell. -/

namespace Sys2Proof.Machine
theorem RegsOnly.raiseLimited {s t : State} (h : RegsOnly s t) (k src : Nat) (items : List Nat) :
    RegsOnly s (t.raiseLimited k src items) := by
  rw [State.raiseLimited_is]
  exact h.trans ⟨_, _, _, rfl⟩

namespace State

/-- A field of the same register file. -/
theorem get_of_regs {s t : State} (h : t.regs = s.regs) (r : FRef) : t.get r = s.get r := by
  rw [get, get, rd, rd, h]

theorem mem_mergePend (src : Nat) (d : Word) (t : Nat) (l : List PendRec) : ∃ p ∈ (mergePend src d t l).1, p.src = src := by
  induction l with
  | nil => exact ⟨_, List.mem_singleton_self _, rfl⟩
  | cons p l ih =>
    unfold mergePend
    split
    case isTrue h => exact ⟨_, List.mem_cons_self, h⟩
    case isFalse =>
      obtain ⟨q, hq, hsrc⟩ := ih
      exact ⟨q, List.mem_cons_of_mem _ hq, hsrc⟩

theorem flt_bump (q : FRef) (n : Nat) (s : State) : (s.bump q n).flt = s.flt := rfl

/-- A raised source has a pending record. -/
theorem raised_raise {src : Nat} (items : List Nat) (s : State) (hsrc : src < 1536) : Raised src (s.raise src items) := by
  have hflt : (s.raise src items).flt.pend = (mergePend src (Config.eventWord src items) s.timeNs s.flt.pend).1 := by
    unfold raise raiseWord
    rw [if_pos hsrc]
    dsimp only
    generalize mergePend src (Config.eventWord src items) s.timeNs s.flt.pend = q
    rw [when_keeps _ (·.flt) _ _ (flt_bump _ _ _), flt_bump]
  unfold Raised
  rw [hflt]
  exact mem_mergePend _ _ _ _

end State

theorem leNat_lt (l : List Byte) : leNat l < 256 ^ l.length := by
  induction l with
  | nil => exact Nat.one_pos
  | cons b l ih =>
    have hb := b.isLt
    rw [leNat, List.length_cons, Nat.pow_succ]
    omega

/-- At most four bytes spell a word. -/
theorem leNat_mod (l : List Byte) (h : l.length ≤ 4) : leNat l % 2 ^ 32 = leNat l := by
  have hlt := leNat_lt l
  have hle : 256 ^ l.length ≤ 256 ^ 4 := Nat.pow_le_pow_right (by decide) h
  exact Nat.mod_eq_of_lt (by omega)

end Sys2Proof.Machine
end

section
/-! SUPPORT. The panel scan-out (R326–R329): the AUX mailbox, self-refresh, and late lines. -/

namespace Sys2Proof.Machine

/-- The rows of AUXCMD and PSREXIT in the register map of the scan-out. -/
abbrev RegMap.scanAuxcmd : RegDef := ⟨"AUXCMD", 0x80, [], [⟨31, 28, .wo, .val 0⟩, ⟨23, 4, .wo, .val 0⟩, ⟨3, 0, .wo, .val 0⟩]⟩
abbrev RegMap.scanPsrexit : RegDef := ⟨"PSREXIT", 0x30, [], [⟨0, 0, .wo, .val 0⟩]⟩

namespace State

theorem domainReg_auxcmd : domainReg Reg.SCAN.AUXCMD_OP.addr ⟨.scan, 0⟩ RegMap.scanAuxcmd 0 = true := by decide +kernel

theorem domainReg_psrexit : domainReg Reg.SCAN.PSREXIT.addr ⟨.scan, 0⟩ RegMap.scanPsrexit 0 = true := by decide +kernel

/-! ### The AUX channel -/

/-- The bytes of AUXDATA. -/
abbrev auxData (s : State) : List Byte := ((List.range 4).map fun j => leBytes 4 (s.get (Reg.SCAN.AUXDATA j))).flatten

/-- The bytes that a request sends. -/
abbrev auxBytes (q : AuxReq) (s : State) : List Byte := if q.op = 2 ∨ q.op = 4 then s.auxData.take q.len else []

theorem auxData_congr {s t : State} (h : ∀ j < 4, t.get (Reg.SCAN.AUXDATA j) = s.get (Reg.SCAN.AUXDATA j)) :
    t.auxData = s.auxData := by
  unfold auxData
  rw [List.map_congr_left fun j hj => by rw [h j (List.mem_range.mp hj)]]

theorem auxBytes_congr {s t : State} (q : AuxReq) (h : t.auxData = s.auxData) : t.auxBytes q = s.auxBytes q := by
  rw [auxBytes, auxBytes, h]

theorem auxSend_some {q : AuxReq} {s : State} (h : s.scan.aux = some q) :
    s.auxSend = (s.updScan fun x => { x with aux := some { q with sentAt := s.now }, auxWaits := false }).emit
      (.aux q.op q.addr q.len (s.auxBytes q)) := by
  unfold auxSend
  rw [h]

/-- The request that AUXCMD names. -/
abbrev auxReq (op a n : Nat) (s : State) : AuxReq := ⟨op, a % 2 ^ 20, n % 16 + 1, 0, s.now⟩

theorem bits_auxCmdWord {op a n : Nat} (hop : op ≤ 4) : bits (auxCmdWord op a n).toNat 31 28 = op ∧
    bits (auxCmdWord op a n).toNat 23 4 = a % 2 ^ 20 ∧ bits (auxCmdWord op a n).toNat 3 0 = n % 16 := by
  have hword : (auxCmdWord op a n).toNat = op * 2 ^ 28 + a % 2 ^ 20 * 16 + n % 16 := by
    rw [auxCmdWord, BitVec.toNat_ofNat]
    exact Nat.mod_eq_of_lt (by omega)
  rw [hword]
  unfold bits
  omega

/-- AUXCMD takes a request when the mailbox is free; it is sent when the link does not train. -/
theorem auxCmdLand_free {op a n : Nat} {s : State} (hpos : 1 ≤ op) (hop : op ≤ 4) (h : s.scan.aux = none) :
    s.auxCmdLand (auxCmdWord op a n) = ((s.set Reg.SCAN.AUXRES_DONE 0).updScan fun x =>
      { x with aux := some (s.auxReq op a n), auxWaits := s.get Reg.SCAN.STAT_LSTATE == 1 }).when
        (!(s.get Reg.SCAN.STAT_LSTATE == 1)) auxSend := by
  obtain ⟨hbop, hba, hbn⟩ := bits_auxCmdWord (a := a) (n := n) hop
  unfold auxCmdLand
  dsimp only
  rw [hbop, hba, hbn, if_neg (by simp only [h, Option.isSome_none, Bool.false_eq_true, false_or]; omega)]

theorem auxCmdLand_busy {data : Word} {s : State} (h : s.scan.aux.isSome = true) : s.auxCmdLand data = s := by
  unfold auxCmdLand
  dsimp only
  rw [if_pos (.inl h)]

theorem landSpecial_auxcmd (m : Nat) (data : Word) (s : State) :
    s.landSpecial m ⟨.scan, 0⟩ RegMap.scanAuxcmd.off 0 data = some (s.auxCmdLand data) := rfl

theorem landSpecial_psrexit (m : Nat) (data : Word) (s : State) :
    s.landSpecial m ⟨.scan, 0⟩ RegMap.scanPsrexit.off 0 data = some (s.when (bit data.toNat 0) psrExit) := rfl

theorem landed_scan (m : Nat) (b : Blk) (s : State) : (s.landed m b).scan = s.scan := by
  simp only [landed, answer, updMgt, disarm, set, wr]
theorem landed_now (m : Nat) (b : Blk) (s : State) : (s.landed m b).now = s.now := by
  simp only [landed, answer, updMgt, disarm, set, wr]
theorem landed_out (m : Nat) (b : Blk) (s : State) : (s.landed m b).out = s.out := by
  simp only [landed, answer, updMgt, disarm, set, wr]

theorem auxData_apart {j : Nat} (hj : j < 4) : (Reg.SCAN.AUXDATA j).apart (Blk.wpend ⟨.scan, 0⟩) = true ∧
    (Reg.SCAN.AUXDATA j).apart Reg.SCAN.AUXRES_DONE = true ∧ (Reg.SCAN.AUXDATA j).apart Reg.SCAN.STAT_LSTATE = true := by
  interval_cases j <;> decide

/-- The state that a taken request finds: DONE reads 0, and but for the issue of the write all is as it was. -/
structure AuxOpen (m : Nat) (s u : State) : Prop where
  only : RegsOnly (s.landed m ⟨.scan, 0⟩) u
  done : u.get Reg.SCAN.AUXRES_DONE = 0
  data : u.auxData = s.auxData
  regs : RegsKept [.scan] s u

theorem auxOpen_set {m : Nat} (hm : m ≤ 6) (s : State) : AuxOpen m s ((s.landed m ⟨.scan, 0⟩).set Reg.SCAN.AUXRES_DONE 0) where
  only := (RegsOnly.refl _).set _ _
  done := by rw [get_set_same _ _ (by decide)]; rfl
  data := auxData_congr fun j hj => by
    rw [get_set_other _ _ (auxData_apart hj).2.1 (by decide), get_landed hm (auxData_apart hj).1]
  regs := (RegsKept.landed hm (by decide)).set 0 (by decide)

/-- The write of AUXCMD while the mailbox is free. -/
theorem writeNow_auxcmd_free {m op a n : Nat} {s : State} (hq : Quiet m s) (hpos : 1 ≤ op) (hop : op ≤ 4)
    (hfree : s.scan.aux = none) : ∃ u, AuxOpen m s u ∧ s.writeNow m Reg.SCAN.AUXCMD_OP.addr (auxCmdWord op a n) =
      ((u.updScan fun x => { x with aux := some (s.auxReq op a n), auxWaits := s.get Reg.SCAN.STAT_LSTATE == 1 }).when
        (!(s.get Reg.SCAN.STAT_LSTATE == 1)) auxSend).showWpend ⟨.scan, 0⟩ := by
  have hstate : (s.landed m ⟨.scan, 0⟩).get Reg.SCAN.STAT_LSTATE = s.get Reg.SCAN.STAT_LSTATE := get_landed hq.1 (by decide)
  refine ⟨_, auxOpen_set hq.1 s, ?_⟩
  rw [writeNow_special hq domainReg_auxcmd (landSpecial_auxcmd m _ _),
    auxCmdLand_free hpos hop (by rw [landed_scan, hfree]), hstate, auxReq, landed_now]

/-- A request that is written while the link does not train is sent at once. -/
theorem auxcmd_sent {m op a n : Nat} {s : State} (hq : Quiet m s) (hpos : 1 ≤ op) (hop : op ≤ 4) (hfree : s.scan.aux = none)
    (hidle : s.get Reg.SCAN.STAT_LSTATE ≠ 1) :
    let t := s.writeNow m Reg.SCAN.AUXCMD_OP.addr (auxCmdWord op a n)
    t.scan.aux = some (s.auxReq op a n) ∧ t.scan.auxWaits = false ∧ t.get Reg.SCAN.AUXRES_DONE = 0 ∧
      t.out = .aux op (a % 2 ^ 20) (n % 16 + 1) (s.auxBytes (s.auxReq op a n)) :: s.out ∧ RegsKept [.scan] s t := by
  obtain ⟨u, ⟨honly, hdone, hdata, hregs⟩, hwrite⟩ := writeNow_auxcmd_free (a := a) (n := n) hq hpos hop hfree
  have hnow : u.now = s.now := honly.now.trans (landed_now m _ s)
  have hout : u.out = s.out := honly.out.trans (landed_out m _ s)
  dsimp only
  rw [hwrite, beq_eq_false_iff_ne.mpr hidle, Bool.not_false, when_true, auxSend_some rfl]
  rw [(regsOnly_showWpend _ (RegsOnly.refl _)).scan, (regsOnly_showWpend _ (RegsOnly.refl _)).out]
  refine ⟨?aux, rfl, ?done, ?out, RegsKept.showWpend (hregs.same rfl) (by decide)⟩
  case aux => exact congrArg (fun x => some { s.auxReq op a n with sentAt := x }) hnow
  case done => rw [get_showWpend_other (by decide)]; exact (get_of_regs rfl _).trans hdone
  case out =>
    rw [← hout, ← auxBytes_congr _ hdata]
    rfl

/-- A request that is written while the link trains waits for its end. -/
theorem auxcmd_waits {m op a n : Nat} {s : State} (hq : Quiet m s) (hpos : 1 ≤ op) (hop : op ≤ 4) (hfree : s.scan.aux = none)
    (htrain : s.get Reg.SCAN.STAT_LSTATE = 1) :
    let t := s.writeNow m Reg.SCAN.AUXCMD_OP.addr (auxCmdWord op a n)
    t.scan.aux = some (s.auxReq op a n) ∧ t.scan.auxWaits = true ∧ t.out = s.out := by
  obtain ⟨u, ⟨honly, -, -, -⟩, hwrite⟩ := writeNow_auxcmd_free (a := a) (n := n) hq hpos hop hfree
  have hout : u.out = s.out := honly.out.trans (landed_out m _ s)
  dsimp only
  rw [hwrite, htrain, beq_self_eq_true, Bool.not_true, when_false, (regsOnly_showWpend _ (RegsOnly.refl _)).scan,
    (regsOnly_showWpend _ (RegsOnly.refl _)).out]
  exact ⟨rfl, rfl, hout⟩

/-- A request that is written while one is in progress is discarded. -/
theorem auxcmd_busy {m : Nat} {data : Word} {s : State} (hq : Quiet m s) (hbusy : s.scan.aux.isSome = true) :
    let t := s.writeNow m Reg.SCAN.AUXCMD_OP.addr data
    t.scan = s.scan ∧ t.out = s.out ∧ t.get Reg.SCAN.AUXRES_DONE = s.get Reg.SCAN.AUXRES_DONE := by
  have hland : (s.landed m ⟨.scan, 0⟩).auxCmdLand data = s.landed m ⟨.scan, 0⟩ :=
    auxCmdLand_busy (by rw [landed_scan, hbusy])
  dsimp only
  rw [writeNow_special hq domainReg_auxcmd (landSpecial_auxcmd m _ _), hland, (regsOnly_showWpend _ (RegsOnly.refl _)).scan,
    (regsOnly_showWpend _ (RegsOnly.refl _)).out, get_showWpend_other (by decide), get_landed hq.1 (by decide), landed_scan,
    landed_out]
  exact ⟨rfl, rfl, rfl⟩

/-! ### The end of a training (R324, R329) -/

/-- What a training's end leaves for the AUX channel. -/
structure AuxKept (s t : State) : Prop where
  scan : t.scan.aux = s.scan.aux ∧ t.scan.auxWaits = s.scan.auxWaits
  now : t.now = s.now
  out : t.out = s.out
  data : t.auxData = s.auxData

/-- A waiting request is sent, as the state stood when the training began. -/
structure AuxSent (q : AuxReq) (s t : State) : Prop where
  aux : t.scan.aux = some { q with sentAt := s.now }
  waits : t.scan.auxWaits = false
  out : t.out = .aux q.op q.addr q.len (s.auxBytes q) :: s.out

theorem AuxKept.auxSend {q : AuxReq} {s t : State} (h : AuxKept s t) (hq : s.scan.aux = some q) : AuxSent q s t.auxSend := by
  obtain ⟨⟨haux, -⟩, hnow, hout, hdata⟩ := h
  rw [auxSend_some (haux.trans hq), auxBytes_congr q hdata, hnow]
  exact ⟨rfl, rfl, congrArg _ hout⟩

namespace AuxKept

variable {s t : State}

theorem refl (s : State) : AuxKept s s := ⟨⟨rfl, rfl⟩, rfl, rfl, rfl⟩

theorem set (h : AuxKept s t) {r : FRef} (v : Nat) (hr : ∀ j < 4, (Reg.SCAN.AUXDATA j).addr ≠ r.addr) (hhi : r.hi < 32) :
    AuxKept s (t.set r v) := by
  have hregs : RegsOnly t (t.set r v) := (RegsOnly.refl t).set r v
  obtain ⟨⟨haux, hwaits⟩, hnow, hout, hdata⟩ := h
  refine ⟨⟨by rw [hregs.scan, haux], by rw [hregs.scan, hwaits]⟩, hregs.now.trans hnow, hregs.out.trans hout, ?_⟩
  rw [← hdata]
  exact auxData_congr fun j hj => get_set_other _ _ (FRef.apart_of_addr (hr j hj)) hhi

theorem raise (h : AuxKept s t) (src : Nat) (items : List Nat) : AuxKept s (t.raise src items) := by
  have hregs : RegsOnly t (t.raise src items) := (RegsOnly.refl t).raise src items
  obtain ⟨⟨haux, hwaits⟩, hnow, hout, hdata⟩ := h
  refine ⟨⟨by rw [hregs.scan, haux], by rw [hregs.scan, hwaits]⟩, hregs.now.trans hnow, hregs.out.trans hout, ?_⟩
  rw [← hdata]
  exact auxData_congr fun j hj => get_raise _ _ _ (by simp only [Reg.SCAN.AUXDATA]; omega)

theorem updScan (h : AuxKept s t) {f : ScanState → ScanState} (haux : (f t.scan).aux = t.scan.aux)
    (hwaits : (f t.scan).auxWaits = t.scan.auxWaits) : AuxKept s (t.updScan f) :=
  ⟨⟨haux.trans h.scan.1, hwaits.trans h.scan.2⟩, h.now, h.out, h.data⟩

theorem charge (h : AuxKept s t) (kbps pages : Nat) : AuxKept s (t.charge kbps pages) := by
  have hdram : AuxKept s (t.updDram fun d => { d with kbps := d.kbps + kbps, pages := d.pages + pages }) :=
    ⟨h.scan, h.now, h.out, h.data⟩
  exact (hdram.set _ (fun j hj => by simp only [Reg.SCAN.AUXDATA, Reg.DRCC.CHARGED]; omega) (by decide)).set _
    (fun j hj => by simp only [Reg.SCAN.AUXDATA, Reg.DRCC.SPACEHELD]; omega) (by decide)

/-- The link's state and the flags of the block lie in STAT. -/
theorem setStat (h : AuxKept s t) {r : FRef} (v : Nat) (hr : r.addr = 0x22000004) (hhi : r.hi < 32) : AuxKept s (t.set r v) :=
  h.set v (fun j hj => by simp only [Reg.SCAN.AUXDATA]; omega) hhi

end AuxKept

/-- The state of a training that ended with the link UP. -/
def scanUp (psr : Bool) (s : State) : State :=
  ((s.set Reg.SCAN.STAT_LSTATE 2).updScan fun x =>
    { x with starting := false, fromPsr := false, trainFailed := false, psrPanel := psr, idle := 0 }).when s.scan.starting fun t =>
      ((t.set Reg.SCAN.STAT_RUN 1).charge s.scanKbps 0).updScan fun x => { x with kbps := s.scanKbps }

/-- The link that went DOWN, before the AUX channel is given back. -/
def scanFell (failed : Bool) (s : State) : State :=
  ((s.set Reg.SCAN.STAT_LSTATE 4).updScan fun x => { x with trainFailed := failed, fromPsr := false, downAt := s.now }).raise 1345 []

theorem auxKept_scanUp (psr : Bool) (s : State) : AuxKept s (s.scanUp psr) := by
  have hup : AuxKept s ((s.set Reg.SCAN.STAT_LSTATE 2).updScan fun x =>
      { x with starting := false, fromPsr := false, trainFailed := false, psrPanel := psr, idle := 0 }) :=
    ((AuxKept.refl s).setStat 2 rfl (by decide)).updScan rfl rfl
  unfold scanUp
  cases s.scan.starting
  · exact hup
  · have hcharge := (hup.setStat (r := Reg.SCAN.STAT_RUN) 1 rfl (by decide)).charge s.scanKbps 0
    exact hcharge.updScan (f := fun x => { x with kbps := s.scanKbps }) rfl rfl

theorem auxKept_scanFell (failed : Bool) (s : State) : AuxKept s (s.scanFell failed) :=
  (((AuxKept.refl s).setStat (r := Reg.SCAN.STAT_LSTATE) 4 rfl (by decide)).updScan rfl rfl).raise _ _

theorem auxKept_scanRefused (err : Nat) (s : State) : AuxKept s (s.scanRefused err) :=
  (((((AuxKept.refl s).setStat (r := Reg.SCAN.STAT_STARTERR) err rfl (by decide)).setStat (r := Reg.SCAN.STAT_RUN) 0 rfl
    (by decide)).setStat (r := Reg.SCAN.STAT_LSTATE) 0 rfl (by decide)).updScan rfl rfl).raise _ _

theorem scanTrained_up {s : State} (psr : Bool) (h : s.get Reg.SCAN.STAT_LSTATE = 1) :
    s.scanTrained true psr = (s.scanUp psr).when (s.scanUp psr).scan.auxWaits auxSend := by
  rw [scanTrained, if_neg (by simp [h])]
  rfl

theorem scanTrained_refused {s : State} (psr : Bool) (h : s.get Reg.SCAN.STAT_LSTATE = 1) (hstart : s.scan.starting = true) :
    s.scanTrained false psr = (s.scanRefused 4).when (s.scanRefused 4).scan.auxWaits auxSend := by
  rw [scanTrained, if_neg (by simp [h])]
  simp only [Bool.false_eq_true, if_false, hstart, if_true]

theorem scanTrained_fell {s : State} (psr : Bool) (h : s.get Reg.SCAN.STAT_LSTATE = 1) (hstart : s.scan.starting = false) :
    s.scanTrained false psr = (s.scanDown true).when (s.scanDown true).scan.auxWaits auxSend := by
  rw [scanTrained, if_neg (by simp [h])]
  simp only [Bool.false_eq_true, if_false, hstart]

/-- Training ends, whichever way: the waiting request is sent. -/
theorem scanTrained_sends {q : AuxReq} {s : State} (k p : Bool) (hq : s.scan.aux = some q) (hwaits : s.scan.auxWaits = true)
    (htrain : s.get Reg.SCAN.STAT_LSTATE = 1) : AuxSent q s (s.scanTrained k p) := by
  have hsend {u : State} (hu : AuxKept s u) : AuxSent q s (u.when u.scan.auxWaits auxSend) := by
    rw [hu.scan.2, hwaits, when_true]
    exact hu.auxSend hq
  cases k
  case true =>
    rw [scanTrained_up p htrain]
    exact hsend (auxKept_scanUp p s)
  case false =>
    cases hstart : s.scan.starting
    case true =>
      rw [scanTrained_refused p htrain hstart]
      exact hsend (auxKept_scanRefused 4 s)
    case false =>
      have heq : s.scanDown true = (s.scanFell true).when s.scan.auxWaits auxSend := rfl
      have hdown : AuxSent q s (s.scanDown true) := by
        rw [heq, hwaits, when_true]
        exact (auxKept_scanFell true s).auxSend hq
      rw [scanTrained_fell p htrain hstart, hdown.waits, when_false]
      exact hdown

/-! ### Replies -/

theorem auxReply_none {c : Nat} {b : List Byte} {s : State} (h : s.scan.aux = none ∨ s.scan.auxWaits = true) :
    s.auxReply c b = s := by
  unfold auxReply
  split
  · rfl
  · rename_i q hq
    rcases h with h | h
    · rw [h] at hq
      cases hq
    · exact if_pos h

/-- The bytes that were read are stored in AUXDATA. -/
def auxStored (l : List Byte) (s : State) : State :=
  s.each (List.range 4) fun k t => t.set (Reg.SCAN.AUXDATA k) (leNat ((l.drop (4 * k)).take 4))

theorem auxReply_read {q : AuxReq} {s : State} (b : List Byte) (hq : s.scan.aux = some q) (hw : s.scan.auxWaits = false)
    (hop : q.op = 1 ∨ q.op = 3) :
    s.auxReply 0 b = (s.auxStored (b.take q.len ++ s.auxData.drop (b.take q.len).length)).auxDone 0 := by
  unfold auxReply
  rw [hq]
  dsimp only
  rw [hw, if_neg (by decide), if_pos rfl, if_pos hop]
  rfl

theorem auxReply_written {q : AuxReq} {s : State} (b : List Byte) (hq : s.scan.aux = some q) (hw : s.scan.auxWaits = false)
    (hop : ¬(q.op = 1 ∨ q.op = 3)) : s.auxReply 0 b = s.auxDone 0 := by
  unfold auxReply
  rw [hq]
  dsimp only
  rw [hw, if_neg (by decide), if_pos rfl, if_neg hop]

theorem auxReply_refused {q : AuxReq} {c : Nat} {s : State} (b : List Byte) (hq : s.scan.aux = some q)
    (hw : s.scan.auxWaits = false) (hc : c = 1 ∨ (2 ≤ c ∧ 7 ≤ q.defers)) : s.auxReply c b = s.auxDone (if c = 1 then 1 else 2) := by
  unfold auxReply
  rw [hq]
  dsimp only
  rw [hw, if_neg (by decide), if_neg (by omega)]
  split
  · rfl
  · rw [if_neg (by omega)]

theorem auxReply_deferred {q : AuxReq} {c : Nat} {s : State} (b : List Byte) (hq : s.scan.aux = some q)
    (hw : s.scan.auxWaits = false) (hc : 2 ≤ c) (hd : q.defers < 7) :
    s.auxReply c b = (s.updScan fun x => { x with aux := some { q with defers := q.defers + 1 } }).auxSend := by
  unfold auxReply
  rw [hq]
  dsimp only
  rw [hw, if_neg (by decide), if_neg (by omega), if_neg (by omega), if_pos hd]

/-- What an answered request shows. -/
structure AuxEnded (code : Nat) (s t : State) : Prop where
  aux : t.scan.aux = none
  done : t.get Reg.SCAN.AUXRES_DONE = 1
  code : t.get Reg.SCAN.AUXRES_CODE = code
  data : ∀ k < 4, t.get (Reg.SCAN.AUXDATA k) = s.get (Reg.SCAN.AUXDATA k)
  regs : RegsKept [.scan] s t

theorem auxEnded_auxDone {code : Nat} (hcode : code < 4) (s : State) : AuxEnded code s (s.auxDone code) := by
  have hregs : (s.auxDone code).regs = ((s.set Reg.SCAN.AUXRES_DONE 1).set Reg.SCAN.AUXRES_CODE code).regs := rfl
  refine ⟨rfl, ?done, ?code, fun k hk => ?data, ?regs⟩
  case done =>
    rw [get_of_regs hregs, get_set_other _ _ (by decide) (by decide), get_set_same _ _ (by decide)]
    rfl
  case code =>
    rw [get_of_regs hregs, get_set_same _ _ (by decide)]
    exact Nat.mod_eq_of_lt hcode
  case data =>
    have hap : (Reg.SCAN.AUXDATA k).apart Reg.SCAN.AUXRES_CODE = true ∧ (Reg.SCAN.AUXDATA k).apart Reg.SCAN.AUXRES_DONE = true := by
      interval_cases k <;> decide
    rw [get_of_regs hregs, get_set_other _ _ hap.1 (by decide), get_set_other _ _ hap.2 (by decide)]
  case regs =>
    have hset : RegsKept [.scan] s ((s.set Reg.SCAN.AUXRES_DONE 1).set Reg.SCAN.AUXRES_CODE code) :=
      ((RegsKept.refl _ s).set _ (by decide)).set _ (by decide)
    exact hset.same hregs

theorem get_auxStored {k : Nat} (hk : k < 4) (l : List Byte) (s : State) :
    (s.auxStored l).get (Reg.SCAN.AUXDATA k) = leNat ((l.drop (4 * k)).take 4) := by
  have hword (t : State) (j : Nat) : (t.set (Reg.SCAN.AUXDATA j) (leNat ((l.drop (4 * j)).take 4))).get (Reg.SCAN.AUXDATA j) =
      leNat ((l.drop (4 * j)).take 4) := by
    rw [get_set_same _ _ (by decide : (31 : Nat) < 32)]
    exact leNat_mod _ (List.length_take_le _ _)
  refine each_of_mem (p := fun t => t.get (Reg.SCAN.AUXDATA k) = leNat ((l.drop (4 * k)).take 4)) s (List.mem_range.mpr hk)
    (fun t => hword t k) fun j _ t ht => ?_
  by_cases hjk : j = k
  · rw [hjk]
    exact hword t k
  · rw [get_set_other _ _ (FRef.apart_of_addr (by simp only [Reg.SCAN.AUXDATA]; omega)) (by decide : (31 : Nat) < 32)]
    exact ht

theorem regsKept_auxStored (l : List Byte) (s : State) : RegsKept [.scan] s (s.auxStored l) := by
  refine each_inv_mem s (RegsKept [.scan] s) _ _ (fun k hk t h => h.set _ ?_) (RegsKept.refl _ s)
  have hlt := List.mem_range.mp hk
  interval_cases k <;> decide

/-! ### Self-refresh and late lines -/

/-- The link may enter self-refresh. -/
abbrev PsrDue (s : State) : Prop := s.get Reg.SCAN.STAT_LSTATE = 2 ∧ s.get Reg.SCAN.PSRCFG_EN = 1 ∧ s.scan.psrPanel = true ∧
  s.get Reg.SCAN.STAT_FLIPPEND = 0 ∧ max 2 (s.get Reg.SCAN.PSRCFG_IDLEFR) ≤ s.scan.idle

theorem psrEntry_due {s : State} (a : Bool) (h : PsrDue s) :
    s.psrEntry a = if a then (s.emit .psrEntry).set Reg.SCAN.STAT_LSTATE 3 else (s.emit .psrEntry).raise 1348 [] := by
  obtain ⟨hup, hen, hpanel, hflip, hidle⟩ := h
  unfold psrEntry
  rw [if_pos ⟨hup, flag_of_one hen, hpanel, by rw [flag_eq_false.mpr hflip]; rfl, hidle⟩]

theorem psrEntry_not {s : State} (a : Bool) (h : s.get Reg.SCAN.STAT_LSTATE ≠ 2 ∨ s.get Reg.SCAN.PSRCFG_EN = 0 ∨
    s.scan.psrPanel = false ∨ s.get Reg.SCAN.STAT_FLIPPEND = 1 ∨ s.scan.idle < max 2 (s.get Reg.SCAN.PSRCFG_IDLEFR)) :
    s.psrEntry a = s := by
  refine if_neg ?_
  rintro ⟨hup, hen, hpanel, hflip, hidle⟩
  rcases h with h | h | h | h | h
  · exact h hup
  · rw [flag_eq_false.mpr h] at hen
    cases hen
  · rw [h] at hpanel
    cases hpanel
  · rw [flag_of_one h] at hflip
    cases hflip
  · omega

theorem exec_psrexit {m : Nat} {s : State} (data : Word) (hq : Quiet m s) : exec (.psrexit m data) s =
    .next (((s.landed m ⟨.scan, 0⟩).when (bit data.toNat 0) psrExit).showWpend ⟨.scan, 0⟩) := by
  show Host.Outcome.next (s.writeNow m Reg.SCAN.PSREXIT.addr data) = _
  rw [writeNow_special hq domainReg_psrexit (landSpecial_psrexit m data _)]

theorem psrExit_leaves {s : State} (h : s.get Reg.SCAN.STAT_LSTATE = 3) : s.psrExit =
    (((s.set Reg.SCAN.STAT_LSTATE 1).updScan fun x => { x with trainFailed := false }).updScan fun x =>
      { x with fromPsr := true }) := by
  rw [psrExit, h, beq_self_eq_true, when_true]
  rfl

theorem when_psrExit_stays {c : Bool} {s : State} (h : s.get Reg.SCAN.STAT_LSTATE ≠ 3) : s.when c psrExit = s := by
  have hstay : s.psrExit = s := by rw [psrExit, beq_eq_false_iff_ne.mpr h, when_false]
  cases c
  · rfl
  · exact hstay

/-- The frame being sent has a line black, which one is free. -/
def lineBlack (s : State) : State :=
  { s.fresh.2 with out := blackLine (s.scanUse Reg.SCAN.HTIM_HACT) (s.fresh.1 % max 1 (s.scanUse Reg.SCAN.VTIM_VACT)) s.out }

theorem scanUnderrun_up {s : State} (h : s.get Reg.SCAN.STAT_LSTATE = 2) : s.scanUnderrun = s.lineBlack.scanLate 1 := if_pos h

/-- AUX_TIMEOUT as it is judged. -/
def auxTimedOut (s : State) : State :=
  match s.scan.aux with
  | some q => if s.scan.auxWaits ∨ s.now < q.sentAt + 400000 then s else s.auxDone 3
  | none => s

theorem exec_auxTimeout (s : State) : exec .auxTimeout s = .next s.auxTimedOut := rfl

theorem auxTimedOut_of {q : AuxReq} {s : State} (hq : s.scan.aux = some q) :
    s.auxTimedOut = if s.scan.auxWaits = true ∨ s.now < q.sentAt + 400000 then s else s.auxDone 3 := by
  unfold auxTimedOut
  rw [hq]

theorem auxTimedOut_none {s : State} (h : s.scan.aux = none ∨ s.scan.auxWaits = true) : s.auxTimedOut = s := by
  rcases h with h | h
  · unfold auxTimedOut
    rw [h]
  · cases hq : s.scan.aux with
    | none => unfold auxTimedOut; rw [hq]
    | some q => rw [auxTimedOut_of hq, if_pos (.inl h)]

end State

/-- Settles O35: the AUX mailbox by what a taken request finds, the rest by the branches of each command. -/
theorem scanAuxAndRefresh : Obligations.ScanAuxAndRefresh := by
  unfold Obligations.ScanAuxAndRefresh
  refine ⟨?read, ?write, ?i2cRead, ?i2cWrite, ?readWaits, ?writeWaits, ?i2cReadWaits, ?i2cWriteWaits, ?trained, ?busy, ?replyRead,
    ?replyWritten, ?refused, ?deferred, ?noRequest, ?timeout, ?timeoutEarly, ?entry, ?noEntry, ?exit, ?noExit, ?underrun,
    ?notSending⟩
  case read =>
    intro s m a n hq hfree hidle
    obtain ⟨haux, hwaits, hdone, hout, hregs⟩ := State.auxcmd_sent (op := 1) (a := a) (n := n) hq (by decide) (by decide) hfree hidle
    exact ⟨_, rfl, haux, hwaits, hdone, hout, hregs⟩
  case write =>
    intro s m a n hq hfree hidle
    obtain ⟨haux, hwaits, hdone, hout, hregs⟩ := State.auxcmd_sent (op := 2) (a := a) (n := n) hq (by decide) (by decide) hfree hidle
    exact ⟨_, rfl, haux, hwaits, hdone, hout, hregs⟩
  case i2cRead =>
    intro s m a n hq hfree hidle
    obtain ⟨haux, hwaits, hdone, hout, hregs⟩ := State.auxcmd_sent (op := 3) (a := a) (n := n) hq (by decide) (by decide) hfree hidle
    exact ⟨_, rfl, haux, hwaits, hdone, hout, hregs⟩
  case i2cWrite =>
    intro s m a n hq hfree hidle
    obtain ⟨haux, hwaits, hdone, hout, hregs⟩ := State.auxcmd_sent (op := 4) (a := a) (n := n) hq (by decide) (by decide) hfree hidle
    exact ⟨_, rfl, haux, hwaits, hdone, hout, hregs⟩
  case readWaits =>
    intro s m a n hq hfree htrain
    exact ⟨_, rfl, State.auxcmd_waits hq (by decide) (by decide) hfree htrain⟩
  case writeWaits =>
    intro s m a n hq hfree htrain
    exact ⟨_, rfl, State.auxcmd_waits hq (by decide) (by decide) hfree htrain⟩
  case i2cReadWaits =>
    intro s m a n hq hfree htrain
    exact ⟨_, rfl, State.auxcmd_waits hq (by decide) (by decide) hfree htrain⟩
  case i2cWriteWaits =>
    intro s m a n hq hfree htrain
    exact ⟨_, rfl, State.auxcmd_waits hq (by decide) (by decide) hfree htrain⟩
  case trained =>
    intro s q k p b hq hwaits htrain hb
    obtain ⟨haux, hsent, hout⟩ := State.scanTrained_sends k p hq hwaits htrain
    exact ⟨s.scanTrained k p, rfl, haux, hsent, by rw [hout, hb]⟩
  case busy =>
    intro s m a n cmd hcmd hq hbusy
    simp only [List.mem_cons, List.not_mem_nil, or_false] at hcmd
    rcases hcmd with rfl | rfl | rfl | rfl <;> exact ⟨_, rfl, State.auxcmd_busy hq hbusy⟩
  case replyRead =>
    intro s q b l hq hw hop hl
    have hend := State.auxEnded_auxDone (code := 0) (by decide) (s.auxStored l)
    refine ⟨s.auxReply 0 b, rfl, ?_⟩
    rw [State.auxReply_read b hq hw hop, ← hl]
    refine ⟨hend.aux, hend.done, hend.code, fun k hk => ?_, (s.regsKept_auxStored l).trans hend.regs⟩
    rw [hend.data k (List.mem_range.mp hk), State.get_auxStored (List.mem_range.mp hk)]
  case replyWritten =>
    intro s q b hq hw hop
    have hend := State.auxEnded_auxDone (code := 0) (by decide) s
    refine ⟨s.auxReply 0 b, rfl, ?_⟩
    rw [State.auxReply_written b hq hw (by omega)]
    exact ⟨hend.aux, hend.done, hend.code, fun k hk => hend.data k (List.mem_range.mp hk), hend.regs⟩
  case refused =>
    intro s q c e b hq hw hc he
    have hend := State.auxEnded_auxDone (code := e) (by rw [he]; split <;> decide) s
    refine ⟨s.auxReply c b, rfl, ?_⟩
    rw [State.auxReply_refused b hq hw hc, ← he]
    exact ⟨hend.aux, hend.code, hend.done, fun k hk => hend.data k (List.mem_range.mp hk), hend.regs⟩
  case deferred =>
    intro s q c b l hq hw hc hd hl
    refine ⟨s.auxReply c b, rfl, ?_⟩
    rw [State.auxReply_deferred b hq hw hc hd, State.auxSend_some rfl, hl]
    exact ⟨rfl, rfl, rfl⟩
  case noRequest =>
    intro s c b cmd hcmd h
    simp only [List.mem_cons, List.not_mem_nil, or_false] at hcmd
    rcases hcmd with rfl | rfl
    · exact ⟨s.auxReply c b, rfl, State.auxReply_none h⟩
    · exact ⟨_, s.exec_auxTimeout, State.auxTimedOut_none h⟩
  case timeout =>
    intro s q hq hw hlate
    have hend := State.auxEnded_auxDone (code := 3) (by decide) s
    refine ⟨_, s.exec_auxTimeout, ?_⟩
    rw [State.auxTimedOut_of hq, hw, if_neg (by simp only [Bool.false_eq_true, false_or]; omega)]
    exact ⟨hend.aux, hend.code, hend.done, hend.regs⟩
  case timeoutEarly =>
    intro s q hq hearly
    exact ⟨_, s.exec_auxTimeout, by rw [State.auxTimedOut_of hq, if_pos (.inr hearly)]⟩
  case entry =>
    intro s a hup hen hpanel hflip hidle
    refine ⟨s.psrEntry a, rfl, ?_⟩
    rw [State.psrEntry_due a ⟨hup, hen, hpanel, hflip, hidle⟩]
    generalize hu : s.emit .psrEntry = u
    have hread (r : FRef) : u.get r = s.get r := by rw [← hu]; exact State.get_of_regs rfl r
    have hkept : RegsKept [.scan, .flt] s u := (RegsKept.refl _ s).same (by rw [← hu]; rfl)
    have hscan : u.scan = s.scan := by rw [← hu]; rfl
    have hout : u.out = .psrEntry :: s.out := by rw [← hu]; rfl
    cases a
    case true =>
      have honly : RegsOnly u (u.set Reg.SCAN.STAT_LSTATE 3) := (RegsOnly.refl u).set _ _
      rw [if_pos rfl]
      have hset : RegsKept [.scan, .flt] s (u.set Reg.SCAN.STAT_LSTATE 3) := hkept.set 3 (by decide)
      refine ⟨?_, honly.out.trans hout, Bool.noConfusion, honly.scan.trans hscan, hset⟩
      rw [State.get_set_same _ _ (by decide)]
      rfl
    case false =>
      have honly : RegsOnly u (u.raise 1348 []) := (RegsOnly.refl u).raise _ _
      rw [if_neg (by decide)]
      refine ⟨?_, honly.out.trans hout, fun _ => State.raised_raise _ _ (by decide), honly.scan.trans hscan,
        hkept.raise _ _ (by decide)⟩
      rw [State.get_raise _ _ _ (by decide), hread, hup, if_neg (by decide)]
  case noEntry =>
    intro s a h
    exact ⟨s.psrEntry a, rfl, State.psrEntry_not a h⟩
  case exit =>
    intro s m data hq hbit hpsr
    refine ⟨_, State.exec_psrexit data hq, ?_⟩
    rw [hbit, State.when_true, State.psrExit_leaves (by rw [State.get_landed hq.1 (by decide), hpsr])]
    have hset : RegsKept [.scan] s ((s.landed m ⟨.scan, 0⟩).set Reg.SCAN.STAT_LSTATE 1) :=
      (RegsKept.landed hq.1 (by decide)).set 1 (by decide)
    have hstate : ((s.landed m ⟨.scan, 0⟩).set Reg.SCAN.STAT_LSTATE 1).get Reg.SCAN.STAT_LSTATE = 1 := by
      rw [State.get_set_same _ _ (by decide)]
      rfl
    generalize (s.landed m ⟨.scan, 0⟩).set Reg.SCAN.STAT_LSTATE 1 = u at *
    refine ⟨?_, ?_, RegsKept.showWpend (hset.same rfl) (by decide)⟩
    · rw [State.get_showWpend_other (by decide)]
      exact (State.get_of_regs rfl _).trans hstate
    · rw [(State.regsOnly_showWpend _ (RegsOnly.refl _)).scan]
      rfl
  case noExit =>
    intro s m data hq hstate
    refine ⟨_, State.exec_psrexit data hq, ?_⟩
    rw [State.when_psrExit_stays (by rw [State.get_landed hq.1 (by decide)]; exact hstate),
      (State.regsOnly_showWpend _ (RegsOnly.refl _)).scan, State.landed_scan]
    exact ⟨rfl, (WordsKept.landed hq.1 (by decide)).showWpend (by decide)⟩
  case underrun =>
    intro s hup
    refine ⟨s.scanUnderrun, rfl, ?_⟩
    rw [State.scanUnderrun_up hup]
    have hregs : s.lineBlack.regs = s.regs := rfl
    have honly : RegsOnly s.lineBlack (s.lineBlack.scanLate 1) := ((RegsOnly.refl _).bump _ _).raiseLimited _ _ _
    refine ⟨?count, ?regs, honly.scan, honly.freeCtr, honly.out⟩
    case count =>
      rw [State.scanLate, State.get_raiseLimited _ _ _ _ (by decide), State.get_bump_same _ _ (by decide),
        State.get_of_regs hregs]
    case regs =>
      have hkept : RegsKept [.scan, .flt] s (s.lineBlack.bump Reg.SCAN.CNT_UNDERRUN 1) :=
        ((RegsKept.refl _ s).same hregs).bump 1 (by decide)
      exact hkept.raiseLimited _ _ _ (by decide)
  case notSending =>
    intro s h
    exact ⟨s.scanUnderrun, rfl, if_neg h⟩

end Sys2Proof.Machine
end

section
/-! SUPPORT. The on-chip tables (R174, R175) and the take slots of an output: what the writing of a word meets, and what the route
record shows. -/

namespace Sys2Proof.Machine

/-- Nothing but registers of PROV, the fault collector, and what PROV holds differs: an armed inversion may have been stored. -/
structure Struck (s t : State) : Prop where
  only : ∃ r f l p, t = { s with regs := r, flt := f, lastRaise := l, prov := p }
  regs : RegsKept [.prov, .flt] s t

namespace Struck

variable {s t u : State}

theorem refl (s : State) : Struck s s := ⟨⟨_, _, _, _, rfl⟩, RegsKept.refl _ s⟩

theorem trans (h : Struck s t) (h' : Struck t u) : Struck s u := by
  refine ⟨?_, h.regs.trans h'.regs⟩
  obtain ⟨_, _, _, _, rfl⟩ := h.only
  obtain ⟨_, _, _, _, rfl⟩ := h'.only
  exact ⟨_, _, _, _, rfl⟩

theorem of_regsOnly (h : Struck s t) (ho : RegsOnly t u) (hr : RegsKept [.prov, .flt] t u) : Struck s u := by
  refine h.trans ⟨?_, hr⟩
  obtain ⟨_, _, _, rfl⟩ := ho
  exact ⟨_, _, _, _, rfl⟩

/-- A change of what PROV holds. -/
theorem updProv (h : Struck s t) (p : ProvState) : Struck s { t with prov := p } :=
  h.trans ⟨⟨_, _, _, _, rfl⟩, (RegsKept.refl _ t).same rfl⟩

theorem fab (h : Struck s t) : t.fab = s.fab := by obtain ⟨_, _, _, _, rfl⟩ := h.only; rfl
theorem twin (h : Struck s t) : t.twin = s.twin := by obtain ⟨_, _, _, _, rfl⟩ := h.only; rfl
theorem out (h : Struck s t) : t.out = s.out := by obtain ⟨_, _, _, _, rfl⟩ := h.only; rfl
theorem inUse (h : Struck s t) : t.inUse = s.inUse := by obtain ⟨_, _, _, _, rfl⟩ := h.only; rfl
theorem now (h : Struck s t) : t.now = s.now := by obtain ⟨_, _, _, _, rfl⟩ := h.only; rfl

theorem get (h : Struck s t) {r : FRef} (hr : Outside [.prov, .flt] r.addr = true) : t.get r = s.get r := h.regs.get hr

end Struck

namespace State

theorem struck_chkinvStruck (addr : Nat) (s : State) : Struck s (s.chkinvStruck addr) := by
  unfold chkinvStruck
  split
  · have hprov := (Struck.refl s).updProv { s.prov with inverted := s.prov.inverted ++
      [(s.get Reg.PROV.CHKINV_MEM, addr, s.get Reg.PROV.CHKINV_BITS)] }
    refine hprov.of_regsOnly ((((RegsOnly.refl _).set _ _).set _ _).set _ _ |>.raise _ _) ?_
    exact ((((RegsKept.refl _ _).set _ (by decide)).set _ (by decide)).set _ (by decide)).raise _ _ (by decide)
  · exact Struck.refl s

theorem struck_wordWritten (mem addr : Nat) (s : State) : Struck s (s.wordWritten mem addr) := by
  unfold wordWritten
  split
  · exact (Struck.refl s).updProv _
  · exact Struck.refl s

theorem struck_chkinvStruckAt (mem addr : Nat) (s : State) : Struck s (s.chkinvStruckAt mem addr) := by
  unfold chkinvStruckAt
  dsimp only
  split
  · exact (struck_wordWritten mem addr s).trans (struck_chkinvStruck addr _)
  · exact struck_wordWritten mem addr s

/-- A read of a word that stands right changes nothing. -/
theorem tableRead_clean {s : State} (mem addr : Nat) (h : s.prov.inverted = []) : s.tableRead mem addr = s := by
  have hs : ({ s with prov := { s.prov with inverted := [] } } : State) = s := by rw [← h]
  unfold tableRead wordBad
  simp only [h, List.filter_nil, List.foldl_nil, hs]
  rfl

/-! ### The take slots of an output -/

/-- The handle that a slot shows. -/
abbrev slotSrc (o : Option TakeRec) : Nat := (o.map (·.src)).getD 0

/-- The route record shows the slots in five fields. -/
theorem showSlots_eq (i : Nat) (s : State) : s.showSlots i =
    ((((s.set (Reg.FAB.RT_PEND i) (slotSrc (s.outTakes i).pend)).set (Reg.FAB.RT_PENDV i) (b2n (s.outTakes i).pend.isSome)).setB
      (Reg.FAB.RT_PNOSRC i) ((s.outTakes i).pend.any fun t => t.src == 0)).set
      (Reg.FAB.RT_LATSRC i) (slotSrc (s.outTakes i).lat)).set (Reg.FAB.RT_LATV i) (b2n (s.outTakes i).lat.isSome) := by
  unfold showSlots
  dsimp only
  cases (s.outTakes i).pend <;> cases (s.outTakes i).lat <;> rfl

/-- A record of the route table lies in the page of FAB. -/
theorem outside_route {ks : List BlkKind} (hks : BlkKind.fab ∈ ks) {i o : Nat} (hi : i < 16384) (ho : o < 0x20) :
    Outside ks (0x14080000 + o + 0x20 * i) = false :=
  outside_page .fab hks (by simp only [BlkKind.layout]; omega) (by simp only [BlkKind.pagesEnd, BlkKind.layout]; omega)

theorem outside_route_of {ks : List BlkKind} (hks : BlkKind.fab ∉ ks) {i o : Nat} (hi : i < 16384) (ho : o < 0x20) :
    Outside ks (0x14080000 + o + 0x20 * i) = true :=
  outside_of_page .fab hks (by simp only [BlkKind.layout]; omega) (by simp only [BlkKind.pagesEnd, BlkKind.layout]; omega)

theorem regsOnly_showSlots (i : Nat) (s : State) : RegsOnly s (s.showSlots i) := by
  rw [showSlots_eq]
  exact ((((((RegsOnly.refl s).set _ _).set _ _).setB _ _).set _ _).set _ _)

theorem regsKept_showSlots {i : Nat} (hi : i < 16384) (s : State) : RegsKept [.fab] s (s.showSlots i) := by
  have hpage (o : Nat) (ho : o < 0x20) : Outside [.fab] (0x14080000 + o + 0x20 * i) = false := outside_route (by decide) hi ho
  rw [showSlots_eq]
  exact (((((RegsKept.refl _ s).set _ (hpage 4 (by decide))).set _ (hpage 8 (by decide))).setB _ (hpage 8 (by decide))).set _
    (hpage 0x1C (by decide))).set _ (hpage 8 (by decide))

/-- What the route record of an output shows of its slots. -/
structure SlotsShown (i : Nat) (o : OutTakes) (t : State) : Prop where
  pend : t.get (Reg.FAB.RT_PEND i) = slotSrc o.pend % 2 ^ 32
  pendV : t.get (Reg.FAB.RT_PENDV i) = b2n o.pend.isSome
  latSrc : t.get (Reg.FAB.RT_LATSRC i) = slotSrc o.lat % 2 ^ 32
  latV : t.get (Reg.FAB.RT_LATV i) = b2n o.lat.isSome

theorem b2n_mod_two (b : Bool) : b2n b % 2 ^ 1 = b2n b := by cases b <;> rfl

theorem slotsShown_showSlots (i : Nat) (s : State) : SlotsShown i (s.outTakes i) (s.showSlots i) := by
  have hap {x q : FRef} (h : x.addr ≠ q.addr ∨ x.hi < q.lo ∨ q.hi < x.lo) : x.apart q = true := FRef.apart_iff.mpr h
  rw [showSlots_eq]
  refine ⟨?pend, ?pendV, ?latSrc, ?latV⟩
  case pend =>
    rw [get_set_other _ _ (hap (by simp only [Reg.FAB.RT_PEND, Reg.FAB.RT_LATV]; omega)) (by decide : (29 : Nat) < 32),
      get_set_other _ _ (hap (by simp only [Reg.FAB.RT_PEND, Reg.FAB.RT_LATSRC]; omega)) (by decide : (31 : Nat) < 32),
      get_setB_other _ _ (hap (by simp only [Reg.FAB.RT_PEND, Reg.FAB.RT_PNOSRC]; omega)) (by decide : (30 : Nat) < 32),
      get_set_other _ _ (hap (by simp only [Reg.FAB.RT_PEND, Reg.FAB.RT_PENDV]; omega)) (by decide : (31 : Nat) < 32),
      get_set_same _ _ (by decide : (31 : Nat) < 32)]
    rfl
  case pendV =>
    rw [get_set_other _ _ (hap (by simp only [Reg.FAB.RT_PENDV, Reg.FAB.RT_LATV]; omega)) (by decide : (29 : Nat) < 32),
      get_set_other _ _ (hap (by simp only [Reg.FAB.RT_PENDV, Reg.FAB.RT_LATSRC]; omega)) (by decide : (31 : Nat) < 32),
      get_setB_other _ _ (hap (by simp only [Reg.FAB.RT_PENDV, Reg.FAB.RT_PNOSRC]; omega)) (by decide : (30 : Nat) < 32),
      get_set_same _ _ (by decide : (31 : Nat) < 32)]
    exact b2n_mod_two _
  case latSrc =>
    rw [get_set_other _ _ (hap (by simp only [Reg.FAB.RT_LATSRC, Reg.FAB.RT_LATV]; omega)) (by decide : (29 : Nat) < 32),
      get_set_same _ _ (by decide : (31 : Nat) < 32)]
    rfl
  case latV =>
    rw [get_set_same _ _ (by decide : (29 : Nat) < 32)]
    exact b2n_mod_two _

/-- The take slots of an output before the route record shows them. -/
def withSlots (i : Nat) (o : OutTakes) (s : State) : State :=
  s.updFab fun x => { x with outs := Assoc.set x.outs i o { pend := none, lat := none } }

theorem putSlots_eq (i : Nat) (o : OutTakes) (s : State) :
    s.putSlots i o = ((s.withSlots i o).showSlots i).chkinvStruckAt 2 i := rfl

theorem withSlots_outTakes (i : Nat) (o : OutTakes) (s : State) : (s.withSlots i o).outTakes i = o :=
  Assoc.findD_set_same _ _ _ _

theorem putSlots_fab (i : Nat) (o : OutTakes) (s : State) : (s.putSlots i o).fab = (s.withSlots i o).fab := by
  rw [putSlots_eq, (struck_chkinvStruckAt _ _ _).fab, (regsOnly_showSlots _ _).fab]

theorem outTakes_congr {s t : State} (h : t.fab.outs = s.fab.outs) (i : Nat) : t.outTakes i = s.outTakes i := by
  rw [outTakes, outTakes, h]

theorem outTakes_putSlots (i : Nat) (o : OutTakes) (s : State) : (s.putSlots i o).outTakes i = o := by
  rw [outTakes_congr (s := s.withSlots i o) (by rw [putSlots_fab]), withSlots_outTakes]

theorem outTakes_putSlots_other {i j : Nat} (o : OutTakes) (s : State) (h : j ≠ i) :
    (s.putSlots i o).outTakes j = s.outTakes j := by
  rw [outTakes_congr (s := s.withSlots i o) (by rw [putSlots_fab])]
  exact Assoc.findD_set_other _ _ _ _ _ _ h

/-- What putting the slots of an output changes, beside the slots. -/
structure SlotsPut (s t : State) : Prop where
  only : ∃ r f l p y, t = { s with regs := r, flt := f, lastRaise := l, prov := p, fab := { s.fab with outs := y } }
  regs : RegsKept [.fab, .prov, .flt] s t

theorem SlotsPut.trans {s t u : State} (h : SlotsPut s t) (h' : SlotsPut t u) : SlotsPut s u := by
  refine ⟨?_, h.regs.trans h'.regs⟩
  obtain ⟨_, _, _, _, _, rfl⟩ := h.only
  obtain ⟨_, _, _, _, _, rfl⟩ := h'.only
  exact ⟨_, _, _, _, _, rfl⟩

theorem slotsPut_putSlots {i : Nat} (hi : i < 16384) (o : OutTakes) (s : State) : SlotsPut s (s.putSlots i o) := by
  have hshown := regsOnly_showSlots i (s.withSlots i o)
  have hstruck := struck_chkinvStruckAt 2 i ((s.withSlots i o).showSlots i)
  have hkept : RegsKept [.fab, .prov, .flt] s (s.withSlots i o) := (RegsKept.refl _ s).same rfl
  refine ⟨?_, (hkept.trans ((regsKept_showSlots hi _).mono (by decide))).trans (hstruck.regs.mono (by decide))⟩
  rw [putSlots_eq]
  obtain ⟨_, _, _, h⟩ := hshown
  rw [h] at hstruck ⊢
  obtain ⟨_, _, _, _, h'⟩ := hstruck.only
  rw [h']
  exact ⟨_, _, _, _, _, rfl⟩

theorem slotsShown_putSlots {i : Nat} (hi : i < 16384) (o : OutTakes) (s : State) : SlotsShown i o (s.putSlots i o) := by
  have hstruck := struck_chkinvStruckAt 2 i ((s.withSlots i o).showSlots i)
  obtain ⟨hpend, hpendV, hlat, hlatV⟩ := slotsShown_showSlots i (s.withSlots i o)
  rw [withSlots_outTakes] at hpend hpendV hlat hlatV
  have hget (a hi' lo : Nat) (ha : a < 0x20) : (s.putSlots i o).get ⟨0x14080000 + a + 0x20 * i, hi', lo⟩ =
      ((s.withSlots i o).showSlots i).get ⟨0x14080000 + a + 0x20 * i, hi', lo⟩ :=
    hstruck.get (outside_route_of (by decide) hi ha)
  exact ⟨(hget 4 31 0 (by decide)).trans hpend, (hget 8 31 31 (by decide)).trans hpendV,
    (hget 0x1C 31 0 (by decide)).trans hlat, (hget 8 29 29 (by decide)).trans hlatV⟩

end State
end Sys2Proof.Machine
end

section
/-! SUPPORT. Supply feeds, PMBus polls, latch points, latch records and signatures of the twin (R123, R459–R468). -/

namespace Sys2Proof.Machine
namespace State

/-! ### Events of the twin -/

theorem get_twinEvent_other {r : FRef} (n : Nat) (items : List Nat) (s : State) (he : r.apart Reg.TWIN.EVSTAT = true)
    (haddr : r.addr < 0x11003000 ∨ 0x11004800 ≤ r.addr) : (s.twinEvent n items).get r = s.get r :=
  get_eventEn_other s _ _ _ _ he (by decide) haddr

theorem bit_twinEvent {n : Nat} (items : List Nat) (s : State) (hn : n < 15) :
    bit ((s.twinEvent n items).get Reg.TWIN.EVSTAT) n = true := bit_get_eventEn s _ _ _ (by decide) hn (by decide)

theorem regsOnly_twinEvent (n : Nat) (items : List Nat) (s : State) : RegsOnly s (s.twinEvent n items) :=
  (RegsOnly.refl s).eventEn _ _ _ _ _

theorem regsKept_twinEvent {s t : State} (h : RegsKept [.twin, .flt] s t) (n : Nat) (items : List Nat) :
    RegsKept [.twin, .flt] s (t.twinEvent n items) := h.eventEn _ _ _ _ (by decide) (by decide)

/-! ### Supply feeds -/

/-- The pin of a feed. -/
abbrev feedOk (feed : Nat) : FRef := if feed = 0 then Reg.TWIN.SUPSTAT_SUPA_OK else Reg.TWIN.SUPSTAT_SUPB_OK

theorem feedOk_facts (feed : Nat) : (feedOk feed).hi < 32 ∧ (feedOk feed).lo ≤ (feedOk feed).hi ∧
    (feedOk feed).apart Reg.TWIN.EVSTAT = true ∧ (feedOk feed).addr = 0x29000504 := by
  by_cases h : feed = 0
  · rw [feedOk, if_pos h]
    decide
  · rw [feedOk, if_neg h]
    decide

/-- The event of an edge. -/
abbrev feedEvent (feed : Nat) (good : Bool) : Nat := if good then 12 else if feed = 0 then 10 else 11

theorem supplyEdge_change {feed : Nat} {good : Bool} {s : State} (h : s.flag (feedOk feed) ≠ good) :
    s.supplyEdge feed good = (s.setB (feedOk feed) good).twinEvent (feedEvent feed good) [feed % 2] := if_neg h

theorem supplyEdge_same {feed : Nat} {good : Bool} {s : State} (h : s.flag (feedOk feed) = good) :
    s.supplyEdge feed good = s := if_pos h

/-! ### PMBus polls -/

/-- A poll of a feed is due. -/
abbrev PollDue (f : Nat) (s : State) : Prop := s.supCfg Reg.TWIN.SUPCFG_PMBEN = 1 ∧ s.flag Reg.SNS.STAT_RUN = true ∧
  ((Assoc.find s.twin.polledAt f).all fun x => decide (x + max 1 (s.supCfg Reg.TWIN.SUPCFG_POLL) * 1000000 ≤ s.now)) = true

/-- The time of a poll is noted. -/
def polledNow (f : Nat) (s : State) : State := s.updTwin fun x => { x with polledAt := Assoc.put x.polledAt f s.now }

/-- The answer of a unit is shown. -/
def polledWords (f : Nat) (x : PmbusWords) (s : State) : State :=
  (((((s.set (Reg.TWIN.SUP_VIN f) x.vin).set (Reg.TWIN.SUP_IIN f) x.iin).set (Reg.TWIN.SUP_VOUT f) x.vout).set
    (Reg.TWIN.SUP_IOUT f) x.iout).set (Reg.TWIN.SUP_TEMP f) x.temp).set (Reg.TWIN.SUP_STATUS f) x.status

theorem pmbusPoll_none {feed : Nat} {s : State} (h : PollDue (feed % 2) s) : s.pmbusPoll feed none =
    ((s.polledNow (feed % 2)).bump (Reg.TWIN.SUP_ERRCNT (feed % 2)) 1).twinEvent 14 [feed % 2] := if_pos h

theorem pmbusPoll_some {feed : Nat} {x : PmbusWords} {s : State} (h : PollDue (feed % 2) s) : s.pmbusPoll feed (some x) =
    ((s.polledNow (feed % 2)).polledWords (feed % 2) x).when
      (((s.polledNow (feed % 2)).polledWords (feed % 2) x).get (Reg.TWIN.SUP_STATUS (feed % 2)) !=
          (s.polledNow (feed % 2)).get (Reg.TWIN.SUP_STATUS (feed % 2)) &&
        ((s.polledNow (feed % 2)).polledWords (feed % 2) x).get (Reg.TWIN.SUP_STATUS (feed % 2)) != 0)
      (twinEvent 13 [feed % 2]) := if_pos h

theorem pmbusPoll_idle {feed : Nat} {w : Option PmbusWords} {s : State} (h : ¬PollDue (feed % 2) s) : s.pmbusPoll feed w = s :=
  if_neg h

/-- What the words of a feed read, and what they leave. -/
structure PollShown (f : Nat) (x : PmbusWords) (s t : State) : Prop where
  vin : t.get (Reg.TWIN.SUP_VIN f) = x.vin % 65536
  iin : t.get (Reg.TWIN.SUP_IIN f) = x.iin % 65536
  vout : t.get (Reg.TWIN.SUP_VOUT f) = x.vout % 65536
  iout : t.get (Reg.TWIN.SUP_IOUT f) = x.iout % 65536
  temp : t.get (Reg.TWIN.SUP_TEMP f) = x.temp % 65536
  status : t.get (Reg.TWIN.SUP_STATUS f) = x.status % 65536
  errcnt : t.get (Reg.TWIN.SUP_ERRCNT f) = s.get (Reg.TWIN.SUP_ERRCNT f)
  evstat : t.get Reg.TWIN.EVSTAT = s.get Reg.TWIN.EVSTAT
  only : RegsOnly s t
  regs : RegsKept [.twin, .flt] s t

theorem pollShown_polledWords {f : Nat} (hf : f < 2) (x : PmbusWords) (s : State) : PollShown f x s (s.polledWords f x) := by
  have hpage (o : Nat) (ho : o < 0x10) : Outside [.twin, .flt] (0x29000510 + o + 0x10 * f) = false :=
    outside_page .twin (by decide) (by simp only [BlkKind.layout]; omega) (by simp only [BlkKind.pagesEnd, BlkKind.layout]; omega)
  have hwidth {r : FRef} {v : Nat} {t : State} (h : t.get r = v % 2 ^ r.width) (hr : r.width = 16) : t.get r = v % 65536 :=
    h.trans (congrArg (fun w => v % 2 ^ w) hr)
  refine ⟨hwidth ?vin rfl, hwidth ?iin rfl, hwidth ?vout rfl, hwidth ?iout rfl, hwidth ?temp rfl, hwidth ?status rfl, ?errcnt,
    ?evstat, ?only, ?regs⟩
  case only => exact (((((((RegsOnly.refl s).set _ _).set _ _).set _ _).set _ _).set _ _).set _ _)
  case regs =>
    exact ((((((RegsKept.refl _ s).set _ (hpage 0 (by decide))).set _ (hpage 0 (by decide))).set _ (hpage 4 (by decide))).set _
      (hpage 4 (by decide))).set _ (hpage 8 (by decide))).set _ (hpage 8 (by decide))
  all_goals
    unfold polledWords
    interval_cases f <;> simp (disch := decide) only [get_set_other, get_set_same]

/-! ### Latch points -/

/-- Nothing waits for an output in the schedule or in a salvo, and the word of its route record stands right. -/
structure OnlyPending (s : State) : Prop where
  sched : s.fab.sched = []
  salvos : s.fab.salvos = []
  clean : s.prov.inverted = []

theorem OnlyPending.salvoDue {s : State} (h : OnlyPending s) (i c : Nat) : s.salvoDue i c = none := by
  simp [State.salvoDue, h.salvos]

theorem latchPoint_none {i : Nat} {s : State} (ho : s.outTakes i = ⟨none, none⟩) (h : OnlyPending s) : s.latchPoint i = s := by
  unfold latchPoint
  simp only [ho, tableRead_clean 2 i h.clean, Option.isSome_none, Bool.false_eq_true, if_false, h.salvoDue, h.sched,
    List.filter_nil, latest]

/-- The pending take is the one that may latch. -/
theorem latchPoint_pend {i : Nat} {u : TakeRec} {s : State} (ho : s.outTakes i = ⟨some u, none⟩) (h : OnlyPending s) :
    s.latchPoint i = if u.accepted ≤ s.timeNs then (s.putSlots i ⟨none, none⟩).latch i u else s := by
  unfold latchPoint
  simp only [ho, tableRead_clean 2 i h.clean, Option.isSome_none, Bool.false_eq_true, if_false, h.salvoDue, h.sched,
    List.filter_nil, latest]

theorem latchPoint_latched {i : Nat} {s : State} (h : (s.outTakes i).lat.isSome = true) : s.latchPoint i = s := by
  unfold latchPoint
  exact if_pos h

/-- What latching the pending take of an output leaves. -/
structure Latched (i : Nat) (u : TakeRec) (s t : State) : Prop where
  put : SlotsPut s t
  slots : ∃ f, t.outTakes i = ⟨none, some { u with flags := f }⟩
  shown : SlotsShown i ⟨none, some u⟩ t

theorem latched_latch {i : Nat} (hi : i < 16384) (u : TakeRec) (s : State) :
    Latched i u s ((s.putSlots i ⟨none, none⟩).latch i u) := by
  have hput := (slotsPut_putSlots hi ⟨none, none⟩ s)
  unfold latch
  dsimp only
  rw [outTakes_putSlots]
  generalize (s.putSlots i ⟨none, none⟩).latchFlags i u.src = f
  generalize s.putSlots i ⟨none, none⟩ = v at *
  obtain ⟨hp, hpv, hl, hlv⟩ := slotsShown_putSlots hi ⟨none, some { u with flags := u.flags ||| f }⟩ v
  exact ⟨hput.trans (slotsPut_putSlots hi _ v), ⟨_, outTakes_putSlots _ _ _⟩, ⟨hp, hpv, hl, hlv⟩⟩

theorem twinLatch_standby {i : Nat} {s : State} (hon : s.twinOn = true) (hst : s.get Reg.TWIN.STAT_STATE = 2) :
    s.twinLatch i = s := if_pos ⟨hon, hst⟩

/-- A unit without a partner beside it latches as one without a twin. -/
theorem twinLatch_alone {i : Nat} {s : State}
    (h : s.twinOn = false ∨ s.linkUp = false ∨ s.get Reg.TWIN.STAT_STATE = 4)
    (hst : s.twinOn = false ∨ s.get Reg.TWIN.STAT_STATE ≠ 2) : s.twinLatch i = s.latchPoint i := by
  have hsby : ¬(s.twinOn = true ∧ s.twinState = 2) := by
    rintro ⟨hon, h2⟩
    rcases hst with hst | hst
    · simp [hst] at hon
    · exact hst h2
  have hact : ¬(s.twinOn = true ∧ s.linkUp = true ∧ s.twinState = 3) := by
    rintro ⟨hon, hlink, h3⟩
    rcases h with h | h | h
    · simp [h] at hon
    · simp [h] at hlink
    · rw [twinState, h] at h3
      cases h3
  unfold twinLatch
  rw [if_neg hsby, if_neg hact]

/-- The latch record of what an output has latched is sent. -/
def latchSent (i : Nat) (s : State) : State :=
  match (s.outTakes i).lat with
  | some r => s.sendTwin (.latch [⟨i, r⟩])
  | none => s

/-- The ACTIVE beside a standby, with nothing that waits in the schedule or a salvo. -/
theorem twinLatch_active {i : Nat} {u : TakeRec} {s : State} {held : Bool} (hon : s.get Reg.TWIN.CTRL_EN = 1)
    (hst : s.get Reg.TWIN.STAT_STATE = 3) (hlink : s.linkUp = true) (ho : s.outTakes i = ⟨some u, none⟩)
    (hsched : s.fab.sched = []) (hsalvo : s.fab.salvos = [])
    (hheld : (s.unacked 1 u.accepted fun m => handleIdx (m.cmd.args.getD 0 0) == i) = held) :
    s.twinLatch i = (((s.when held (putSlots i ⟨none, none⟩)).latchPoint i).when held fun v =>
      v.putSlots i { v.outTakes i with pend := some u }).latchSent i := by
  have htwin : s.twinOn = true := by simp [twinOn, twinState, hon, hst]
  have hsby : ¬(s.twinOn = true ∧ s.twinState = 2) := by simp [twinState, hst]
  unfold twinLatch
  rw [if_neg hsby, if_pos ⟨htwin, hlink, hst⟩]
  simp only [ho, hheld, hsched, hsalvo, List.filter_nil, List.foldl_nil, List.contains_nil, Bool.not_false, List.filter_true,
    Bool.false_eq_true, if_false, List.map_id', updFab, if_true, latchSent] <;> rfl


/-- The latch record goes out where the twin sends. -/
theorem out_latchSent {i : Nat} {x : TakeRec} {s : State} (h : (s.outTakes i).lat = some x) :
    (s.latchSent i).out = (if s.twinSends then [.twin (.latch [⟨i, x⟩]) s.twin.key] else []) ++ s.out := by
  unfold latchSent
  simp only [h]
  unfold sendTwin when emit
  split
  · rfl
  · rfl

theorem latchSent_none {i : Nat} {s : State} (h : (s.outTakes i).lat = none) : s.latchSent i = s := by
  unfold latchSent
  simp only [h]

theorem latchSent_fab (i : Nat) (s : State) : (s.latchSent i).fab = s.fab := by
  unfold latchSent sendTwin when emit
  split
  · split
    · rfl
    · rfl
  · rfl

theorem twinSends_congr {s t : State} (h : t.inUse = s.inUse) : t.twinSends = s.twinSends := by
  simp only [twinSends, txPath, use_congr h]

/-- The reading of a route record leaves the takes and what was sent. -/
theorem tableRead_takes (mem addr : Nat) (s : State) :
    (s.tableRead mem addr).fab = s.fab ∧ (s.tableRead mem addr).out = s.out := by
  have hbad : (s.wordBad mem addr 0).2.fab = s.fab ∧ (s.wordBad mem addr 0).2.out = s.out := ⟨rfl, rfl⟩
  have honly : RegsOnly (s.wordBad mem addr 0).2 (s.tableRead mem addr) :=
    ((RegsOnly.refl _).when _ fun _ h => (h.bump _ _).raise _ _).when _ fun _ h => (h.bump _ _).raise _ _
  exact ⟨honly.fab.trans hbad.1, honly.out.trans hbad.2⟩

/-- An output for which nothing waits latches nothing, whatever its word reads. -/
theorem latchPoint_empty {i : Nat} {s : State} (ho : s.outTakes i = ⟨none, none⟩) (hsched : s.fab.sched = [])
    (hsalvo : s.fab.salvos = []) : s.latchPoint i = s.tableRead 2 i := by
  have hfab := (tableRead_takes 2 i s).1
  unfold latchPoint
  simp only [ho, Option.isSome_none, Bool.false_eq_true, if_false, hfab, salvoDue, hsched, hsalvo, List.filterMap_nil,
    List.head?_nil, List.filter_nil, latest]

theorem SlotsPut.refl (s : State) : SlotsPut s s := ⟨⟨_, _, _, _, _, rfl⟩, RegsKept.refl _ s⟩

theorem SlotsPut.sched {s t : State} (h : SlotsPut s t) : t.fab.sched = s.fab.sched := by
  obtain ⟨_, _, _, _, _, rfl⟩ := h.only
  rfl

theorem SlotsPut.salvos {s t : State} (h : SlotsPut s t) : t.fab.salvos = s.fab.salvos := by
  obtain ⟨_, _, _, _, _, rfl⟩ := h.only
  rfl

theorem SlotsPut.out {s t : State} (h : SlotsPut s t) : t.out = s.out := by
  obtain ⟨_, _, _, _, _, rfl⟩ := h.only
  rfl

theorem SlotsPut.inUse {s t : State} (h : SlotsPut s t) : t.inUse = s.inUse := by
  obtain ⟨_, _, _, _, _, rfl⟩ := h.only
  rfl

theorem SlotsPut.twin {s t : State} (h : SlotsPut s t) : t.twin = s.twin := by
  obtain ⟨_, _, _, _, _, rfl⟩ := h.only
  rfl

/-- A take whose record waits for its acknowledgement is put aside, nothing latches, and it is pending again. -/
theorem twinLatch_held {i : Nat} {u : TakeRec} {s : State} (hi : i < 16384) (hon : s.get Reg.TWIN.CTRL_EN = 1)
    (hst : s.get Reg.TWIN.STAT_STATE = 3) (hlink : s.linkUp = true) (ho : s.outTakes i = ⟨some u, none⟩)
    (hsched : s.fab.sched = []) (hsalvo : s.fab.salvos = [])
    (hheld : (s.unacked 1 u.accepted fun m => handleIdx (m.cmd.args.getD 0 0) == i) = true) :
    (s.twinLatch i).outTakes i = ⟨some u, none⟩ ∧ (s.twinLatch i).out = s.out := by
  have haside := slotsPut_putSlots hi ⟨none, none⟩ s
  have hempty := outTakes_putSlots i ⟨none, none⟩ s
  rw [twinLatch_active hon hst hlink ho hsched hsalvo hheld]
  simp only [when, if_true]
  generalize s.putSlots i ⟨none, none⟩ = v at haside hempty
  rw [latchPoint_empty hempty (haside.sched.trans hsched) (haside.salvos.trans hsalvo)]
  obtain ⟨hfab, hout⟩ := tableRead_takes 2 i v
  have hslots : (v.tableRead 2 i).outTakes i = ⟨none, none⟩ := (outTakes_congr (by rw [hfab]) i).trans hempty
  have hback := outTakes_putSlots i ⟨some u, none⟩ (v.tableRead 2 i)
  rw [hslots, latchSent_none (by rw [hback])]
  exact ⟨hback, ((slotsPut_putSlots hi _ _).out.trans hout).trans haside.out⟩

/-- A take that no record holds back is latched, and sent to the standby. -/
theorem twinLatch_free {i : Nat} {u : TakeRec} {s : State} (hi : i < 16384) (hon : s.get Reg.TWIN.CTRL_EN = 1)
    (hst : s.get Reg.TWIN.STAT_STATE = 3) (hlink : s.linkUp = true) (ho : s.outTakes i = ⟨some u, none⟩)
    (h : OnlyPending s) (hacc : u.accepted ≤ s.timeNs)
    (hheld : (s.unacked 1 u.accepted fun m => handleIdx (m.cmd.args.getD 0 0) == i) = false) :
    ∃ f, (s.twinLatch i).outTakes i = ⟨none, some { u with flags := f }⟩ ∧
      (s.twinLatch i).out = (if s.twinSends then [.twin (.latch [⟨i, { u with flags := f }⟩]) s.twin.key] else []) ++ s.out := by
  rw [twinLatch_active hon hst hlink ho h.sched h.salvos hheld]
  simp only [when, Bool.false_eq_true, if_false]
  rw [latchPoint_pend ho h, if_pos hacc]
  obtain ⟨hput, ⟨f, hslots⟩, -⟩ := latched_latch hi u s
  generalize (s.putSlots i ⟨none, none⟩).latch i u = v at hput hslots
  refine ⟨f, (outTakes_congr (by rw [latchSent_fab]) i).trans hslots, ?_⟩
  rw [out_latchSent (by rw [hslots]), twinSends_congr hput.inUse, hput.twin, hput.out]

/-! ### Latch records and signatures -/

theorem macCheck_ok {s : State} (h : s.linkUp = true) :
    s.macCheck true = (true, { s with twin := { s.twin with macFails := 0 } }) := by
  unfold macCheck
  simp [h, updTwin]

/-- What the record of a take shows at the standby. -/
structure RecordTaken (i : Nat) (u : TakeRec) (s t : State) : Prop where
  lat : (t.outTakes i).lat = some u
  pend : (s.outTakes i).pend.any (fun v => v.src == u.src && v.accepted == u.accepted) = true → (t.outTakes i).pend = none
  latSrc : t.get (Reg.FAB.RT_LATSRC i) = u.src % 2 ^ 32
  latV : t.get (Reg.FAB.RT_LATV i) = 1
  listed : Assoc.find t.twin.latched i = some u
  regs : RegsKept [.fab, .prov, .flt] s t

/-- The take of a record lands in the latched slot of its output, whatever becomes of the schedule and the salvos. -/
theorem recordTaken_putSlots {i : Nat} {u : TakeRec} {s w : State} {f : FabState → FabState} (hi : i < 16384)
    (hregs : RegsKept [.fab, .prov, .flt] s w) (hlisted : Assoc.find w.twin.latched i = some u)
    (hpend : (s.outTakes i).pend.any (fun v => v.src == u.src && v.accepted == u.accepted) = true → (w.outTakes i).pend = none)
    (hf : (f w.fab).outs = w.fab.outs) :
    RecordTaken i u s ((w.updFab f).putSlots i { (w.updFab f).outTakes i with lat := some u }) := by
  have houts : (w.updFab f).outTakes i = w.outTakes i := outTakes_congr hf i
  have hput := slotsPut_putSlots hi { (w.updFab f).outTakes i with lat := some u } (w.updFab f)
  obtain ⟨-, -, hsrc, hv⟩ := slotsShown_putSlots hi { (w.updFab f).outTakes i with lat := some u } (w.updFab f)
  have hslots := outTakes_putSlots i { (w.updFab f).outTakes i with lat := some u } (w.updFab f)
  refine ⟨by rw [hslots], fun h => ?_, hsrc, hv, ?_, (hregs.same (u := w.updFab f) rfl).trans hput.regs⟩
  · rw [hslots, houts]
    exact hpend h
  · rw [hput.twin]
    exact hlisted

/-- The take of a record, the pending take put aside before it where it is the same. -/
theorem recordTaken_aside {i : Nat} {u : TakeRec} {s v : State} {l : Option TakeRec} {f : FabState → FabState} {same : Bool}
    (hi : i < 16384) (hregs : RegsKept [.fab, .prov, .flt] s v) (hlisted : Assoc.find v.twin.latched i = some u)
    (hsame : (s.outTakes i).pend.any (fun v => v.src == u.src && v.accepted == u.accepted) = true → same = true)
    (hf : ∀ y, (f y).outs = y.outs) :
    RecordTaken i u s (((v.when same (putSlots i ⟨none, l⟩)).updFab f).putSlots i
      { ((v.when same (putSlots i ⟨none, l⟩)).updFab f).outTakes i with lat := some u }) := by
  have hput : SlotsPut v (v.when same (putSlots i ⟨none, l⟩)) := by
    cases same
    · exact SlotsPut.refl v
    · exact slotsPut_putSlots hi _ v
  have hpend (h : same = true) : ((v.when same (putSlots i ⟨none, l⟩)).outTakes i).pend = none := by
    rw [h, when, if_pos rfl, outTakes_putSlots]
  generalize v.when same (putSlots i ⟨none, l⟩) = w at hput hpend ⊢
  exact recordTaken_putSlots hi (hregs.trans hput.regs) (by rw [hput.twin, hlisted]) (fun h => hpend (hsame h)) (hf w.fab)

/-- The take of a record that is not listed yet. -/
theorem recordTaken_latchListed {i : Nat} {u : TakeRec} {s : State} (hi : i < 16384)
    (hnew : Assoc.find s.twin.latched i ≠ some u) : RecordTaken i u s (s.latchListed ⟨i, u⟩) := by
  have houts : (s.updTwin fun y => { y with latched := Assoc.put y.latched i u }).outTakes i = s.outTakes i := rfl
  have hregs : RegsKept [.fab, .prov, .flt] s (s.updTwin fun y => { y with latched := Assoc.put y.latched i u }) :=
    (RegsKept.refl _ s).same rfl
  have hlisted : Assoc.find (s.updTwin fun y => { y with latched := Assoc.put y.latched i u }).twin.latched i = some u :=
    Assoc.find_put_same _ _ _
  unfold latchListed
  rw [if_neg hnew]
  dsimp only
  rw [houts]
  cases hp : (s.outTakes i).pend with
  | none => exact recordTaken_aside hi hregs hlisted (by simp [hp]) fun _ => rfl
  | some x => exact recordTaken_aside hi hregs hlisted (by simp [hp]) fun _ => rfl

/-- One output whose signatures differ is counted and shown. -/
def sigsDiffer (c n : Nat) (s : State) : State :=
  (((s.updTwin fun x => { x with sigSeen := some c }).bump Reg.TWIN.SIGMIS_COUNT 1).set Reg.TWIN.SIGMIS_ENTRY n).twinEvent 5
    [s.twinState, n]

theorem compareSigs_differs {c a b n : Nat} {y z : Bool} {s : State} (hc : s.twin.sigCycle = c)
    (hlast : s.twin.sigLast = [⟨n, a, y⟩]) (hab : a ≠ b) (hseen : s.twin.sigSeen ≠ some c) :
    s.compareSigs c [⟨n, b, z⟩] =
      (s.sigsDiffer c n).when ((s.sigsDiffer c n).use Reg.TWIN.CFG_CMPACT == 1 && (y && !z)) (lowerClaim 3) := by
  have hba : (b != a) = true := by simpa using Ne.symm hab
  have hbad : (s.twin.sigLast.filterMap fun p => ([⟨n, b, z⟩].find? fun q : SigItem => q.e == p.e && q.crc != p.crc).map
      fun q => (p, q)) = [(⟨n, a, y⟩, ⟨n, b, z⟩)] := by
    simp [hlast, List.find?, hba]
  unfold compareSigs
  rw [if_neg (by simp [hc, hseen])]
  simp only [updTwin, hbad, List.isEmpty_cons, Bool.false_eq_true, if_false, List.getLast?_singleton, Option.map_some,
    Option.getD_some, List.length_singleton, List.any_cons, List.any_nil, Bool.or_false] <;> rfl

theorem compareSigs_agree {c : Nat} {l : List SigItem} {s : State} (hc : s.twin.sigCycle = c) (hseen : s.twin.sigSeen ≠ some c)
    (hsame : (s.twin.sigLast.all fun a => l.all fun b => b.e != a.e || b.crc == a.crc) = true) :
    s.compareSigs c l = { s with twin := { s.twin with sigSeen := some c } } := by
  have hbad : (s.twin.sigLast.filterMap fun p => (l.find? fun q : SigItem => q.e == p.e && q.crc != p.crc).map
      fun q => (p, q)) = [] := by
    simp only [List.filterMap_eq_nil_iff, Option.map_eq_none_iff, List.find?_eq_none]
    intro p hp q hq
    have hpq := List.all_eq_true.mp (List.all_eq_true.mp hsame p hp) q hq
    revert hpq
    cases h : q.e == p.e <;> simp_all [bne]
  unfold compareSigs
  rw [if_neg (by simp [hc, hseen])]
  simp only [updTwin, hbad, List.isEmpty_nil, if_true]

theorem compareSigs_other {c : Nat} {l : List SigItem} {s : State} (h : s.twin.sigCycle ≠ c ∨ s.twin.sigSeen = some c) :
    s.compareSigs c l = s := if_pos (h.imp_left Ne.symm)

/-! ### The lowered claim -/

theorem closeSessions_regs_twin (s : State) : (s.closeSessions.regs, s.closeSessions.twin) = (s.regs, s.twin) := by
  refine each_keeps _ (fun t => (t.regs, t.twin)) _ _ fun id t => ?_
  unfold closeSession
  split
  · rfl
  · rfl

/-- What lowering the claim shows. -/
structure Lowered (s t : State) : Prop where
  state : t.get Reg.TWIN.STAT_STATE = 5
  other : ∀ r : FRef, r.apart Reg.TWIN.STAT_STATE = true → r.apart Reg.TWIN.CARRIED_OWN = true →
    r.apart Reg.TWIN.EVSTAT = true → (r.addr < 0x11003000 ∨ 0x11004800 ≤ r.addr) → t.get r = s.get r
  event : ∀ n, bit (s.get Reg.TWIN.EVSTAT) n = true → bit (t.get Reg.TWIN.EVSTAT) n = true
  regs : RegsKept [.twin, .flt] s t
  twin : t.twin = s.twin

/-- The state 5 is entered: the sessions close, and the claim carried is none. -/
theorem twinEnter_lowered {s : State} (h : s.twinState ≠ 5) : ∃ v : State, v.regs = s.regs ∧ v.twin = s.twin ∧
    s.twinEnter 5 = ((v.set Reg.TWIN.STAT_STATE 5).set Reg.TWIN.CARRIED_OWN 0).twinEvent 0 [5] := by
  have hno : actsIn 5 = false := rfl
  have hcarry (c : Nat) : carriedOf 5 c = 0 := rfl
  unfold twinEnter
  rw [if_neg h]
  cases hacts : actsIn s.twinState
  · exact ⟨s, rfl, rfl, by simp only [hacts, hno, hcarry, when, Bool.not_false, Bool.and_true, Bool.and_false, Bool.false_eq_true,
      if_false]⟩
  · refine ⟨s.closeSessions, congrArg Prod.fst (closeSessions_regs_twin s), congrArg Prod.snd (closeSessions_regs_twin s), ?_⟩
    simp only [hno, hcarry, when, Bool.not_false, Bool.and_self, Bool.and_false, Bool.false_eq_true, if_false, if_true]

theorem lowered_lowerClaim {why : Nat} {s : State} (hon : s.get Reg.TWIN.CTRL_EN = 1) (hst : s.get Reg.TWIN.STAT_STATE ≠ 0) :
    Lowered s (s.lowerClaim why) := by
  by_cases h5 : s.get Reg.TWIN.STAT_STATE = 5
  · have hsame : s.lowerClaim why = s := if_neg fun h => h.2.2 h5
    rw [hsame]
    exact ⟨h5, fun _ _ _ _ _ => rfl, fun _ h => h, RegsKept.refl _ s, rfl⟩
  · obtain ⟨v, hregs, htwin, henter⟩ := twinEnter_lowered h5
    have hlower : s.lowerClaim why = (s.twinEnter 5).twinEvent 2 [why] := if_pos ⟨hon, hst, h5⟩
    rw [hlower, henter]
    have hget (r : FRef) : v.get r = s.get r := get_of_regs hregs r
    have hev {n m k : Nat} {l l' : List Nat} {u : State} (h : bit (u.get Reg.TWIN.EVSTAT) n = true) :
        bit (((u.twinEvent m l).twinEvent k l').get Reg.TWIN.EVSTAT) n = true :=
      bit_get_eventEn_of _ _ _ _ _ (by decide) (by decide) (bit_get_eventEn_of _ _ _ _ _ (by decide) (by decide) h)
    refine ⟨?state, ?other, ?event, ?regs, ?twin⟩
    case state =>
      rw [get_twinEvent_other _ _ _ (by decide) (by decide), get_twinEvent_other _ _ _ (by decide) (by decide),
        get_set_other _ _ (by decide) (by decide), get_set_same _ _ (by decide)]
      rfl
    case other =>
      intro r h1 h2 h3 haddr
      rw [get_twinEvent_other _ _ _ h3 haddr, get_twinEvent_other _ _ _ h3 haddr, get_set_other _ _ h2 (by decide),
        get_set_other _ _ h1 (by decide), hget]
    case event =>
      intro n hn
      refine hev ?_
      rwa [get_set_other _ _ (by decide) (by decide), get_set_other _ _ (by decide) (by decide), hget]
    case regs =>
      refine regsKept_twinEvent (regsKept_twinEvent ?_ _ _) _ _
      exact (((RegsKept.refl _ s).same hregs).set _ (by decide)).set _ (by decide)
    case twin =>
      have honly (u : State) : RegsOnly u (((u.set Reg.TWIN.STAT_STATE 5).set Reg.TWIN.CARRIED_OWN 0).twinEvent 0 [5] |>.twinEvent 2 [why]) :=
        ((((RegsOnly.refl u).set _ _).set _ _).eventEn _ _ _ _ _).eventEn _ _ _ _ _
      rw [(honly v).twin, htwin]

/-- The signatures of an output differ. -/
theorem sigsDiffer_facts {c n : Nat} (s : State) (hn : n < 2 ^ Reg.TWIN.SIGMIS_ENTRY.width) :
    (s.sigsDiffer c n).get Reg.TWIN.SIGMIS_COUNT = (s.get Reg.TWIN.SIGMIS_COUNT + 1) % 65536 ∧
      (s.sigsDiffer c n).get Reg.TWIN.SIGMIS_ENTRY = n ∧ bit ((s.sigsDiffer c n).get Reg.TWIN.EVSTAT) 5 = true ∧
      (s.sigsDiffer c n).twin.sigSeen = some c ∧ (s.sigsDiffer c n).get Reg.TWIN.STAT_STATE = s.get Reg.TWIN.STAT_STATE ∧
      (s.sigsDiffer c n).get Reg.TWIN.CTRL_EN = s.get Reg.TWIN.CTRL_EN ∧
      (∀ r, (s.sigsDiffer c n).use r = s.use r) ∧ RegsKept [.twin, .flt] s (s.sigsDiffer c n) := by
  unfold sigsDiffer
  have hseen : (s.updTwin fun x => { x with sigSeen := some c }).twin.sigSeen = some c := rfl
  have hget (r : FRef) : (s.updTwin fun x => { x with sigSeen := some c }).get r = s.get r := rfl
  have huse (r : FRef) : (s.updTwin fun x => { x with sigSeen := some c }).use r = s.use r := rfl
  have hregs : RegsKept [.twin, .flt] s (s.updTwin fun x => { x with sigSeen := some c }) := (RegsKept.refl _ s).same rfl
  generalize (s.updTwin fun x => { x with sigSeen := some c }) = v at hseen hget huse hregs ⊢
  have honly : RegsOnly v (((v.bump Reg.TWIN.SIGMIS_COUNT 1).set Reg.TWIN.SIGMIS_ENTRY n).twinEvent 5 [s.twinState, n]) :=
    (((RegsOnly.refl v).bump _ _).set _ _).eventEn _ _ _ _ _
  have hother {r : FRef} (h : r.apart Reg.TWIN.SIGMIS_COUNT = true) (h' : r.apart Reg.TWIN.SIGMIS_ENTRY = true)
      (he : r.apart Reg.TWIN.EVSTAT = true) (haddr : r.addr < 0x11003000 ∨ 0x11004800 ≤ r.addr) :
      (((v.bump Reg.TWIN.SIGMIS_COUNT 1).set Reg.TWIN.SIGMIS_ENTRY n).twinEvent 5 [s.twinState, n]).get r = s.get r := by
    rw [get_twinEvent_other _ _ _ he haddr, get_set_other _ _ h' (by decide), bump, get_set_other _ _ h (by decide), hget]
  refine ⟨?count, ?entry, bit_twinEvent _ _ (by decide), by rw [honly.twin, hseen],
    hother (by decide) (by decide) (by decide) (by decide), hother (by decide) (by decide) (by decide) (by decide),
    fun r => (honly.use r).trans (huse r), regsKept_twinEvent ((hregs.bump _ (by decide)).set _ (by decide)) _ _⟩
  case count =>
    rw [get_twinEvent_other _ _ _ (by decide) (by decide), get_set_other _ _ (by decide) (by decide), get_bump_same _ _ (by decide),
      hget]
    rfl
  case entry =>
    rw [get_twinEvent_other _ _ _ (by decide) (by decide), get_set_same _ _ (by decide), Nat.mod_eq_of_lt hn]

end State

open State

/-! ### The clauses -/

theorem exec_supplyOkEdge {s : State} {feed : Nat} {good : Bool} (h : s.flag (feedOk feed) ≠ good) :
    ∃ t, exec (.supplyOkEdge feed good) s = .next t ∧ t.flag (feedOk feed) = good ∧
      bit (t.get Reg.TWIN.EVSTAT) (feedEvent feed good) = true ∧ RegsKept [.twin, .flt] s t := by
  obtain ⟨hhi, hlo, hap, haddr⟩ := feedOk_facts feed
  have hout : Outside [.twin, .flt] (feedOk feed).addr = false := by rw [haddr]; decide
  refine ⟨_, congrArg Host.Outcome.next (supplyEdge_change h), ?_, bit_twinEvent _ _ ?_,
    regsKept_twinEvent ((RegsKept.refl _ s).setB _ hout) _ _⟩
  · rw [flag, get_twinEvent_other _ _ _ hap (by rw [haddr]; decide), get_setB_same _ _ hhi hlo]
    cases good <;> rfl
  · unfold feedEvent
    split
    · decide
    · split <;> decide

/-- An event told where something holds. -/
theorem get_when_twinEvent {r : FRef} (c : Bool) (n : Nat) (items : List Nat) (s : State) (he : r.apart Reg.TWIN.EVSTAT = true)
    (haddr : r.addr < 0x11003000 ∨ 0x11004800 ≤ r.addr) : (s.when c (twinEvent n items)).get r = s.get r := by
  cases c
  · rfl
  · exact get_twinEvent_other n items s he haddr

/-- The words of a feed are no event word of the twin. -/
theorem feedWord_apart {f o hi lo : Nat} (hf : f < 2) (ho : o < 0x10) :
    FRef.apart ⟨0x29000510 + o + 0x10 * f, hi, lo⟩ Reg.TWIN.EVSTAT = true :=
  FRef.apart_iff.mpr (by simp only [Reg.TWIN.EVSTAT]; omega)

theorem exec_pmbusPoll_some {s : State} {feed f : Nat} {w : PmbusWords} (hf : f = feed % 2) (h : PollDue f s) :
    ∃ t, exec (.pmbusPoll feed (some w)) s = .next t ∧
      t.get (Reg.TWIN.SUP_VIN f) = w.vin % 65536 ∧ t.get (Reg.TWIN.SUP_IIN f) = w.iin % 65536 ∧
      t.get (Reg.TWIN.SUP_VOUT f) = w.vout % 65536 ∧ t.get (Reg.TWIN.SUP_IOUT f) = w.iout % 65536 ∧
      t.get (Reg.TWIN.SUP_TEMP f) = w.temp % 65536 ∧ t.get (Reg.TWIN.SUP_STATUS f) = w.status % 65536 ∧
      t.get (Reg.TWIN.SUP_ERRCNT f) = s.get (Reg.TWIN.SUP_ERRCNT f) ∧
      (if w.status % 65536 ≠ 0 ∧ w.status % 65536 ≠ s.get (Reg.TWIN.SUP_STATUS f) then bit (t.get Reg.TWIN.EVSTAT) 13 = true
        else t.get Reg.TWIN.EVSTAT = s.get Reg.TWIN.EVSTAT) ∧
      Assoc.find t.twin.polledAt f = some s.now ∧ RegsKept [.twin, .flt] s t := by
  subst hf
  have hf : feed % 2 < 2 := Nat.mod_lt _ (by decide)
  refine ⟨_, congrArg Host.Outcome.next (pmbusPoll_some h), ?_⟩
  generalize feed % 2 = f at hf h ⊢
  have hget (r : FRef) : (s.polledNow f).get r = s.get r := rfl
  have hregs : RegsKept [.twin, .flt] s (s.polledNow f) := (RegsKept.refl _ s).same rfl
  have hpolled : Assoc.find (s.polledNow f).twin.polledAt f = some s.now := Assoc.find_put_same _ _ _
  obtain ⟨hvin, hiin, hvout, hiout, htemp, hstatus, herr, hev, honly, hkept⟩ := pollShown_polledWords hf w (s.polledNow f)
  generalize (s.polledNow f).polledWords f w = v at *
  rw [hstatus, hget]
  generalize hc : (w.status % 65536 != s.get (Reg.TWIN.SUP_STATUS f) && w.status % 65536 != 0) = c
  have hword (o hi lo : Nat) (ho : o < 0x10) : (v.when c (twinEvent 13 [f])).get ⟨0x29000510 + o + 0x10 * f, hi, lo⟩ =
      v.get ⟨0x29000510 + o + 0x10 * f, hi, lo⟩ :=
    get_when_twinEvent c 13 [f] v (feedWord_apart hf ho) (.inr (by dsimp only; omega))
  refine ⟨(hword 0 _ _ (by decide)).trans hvin, (hword 0 _ _ (by decide)).trans hiin, (hword 4 _ _ (by decide)).trans hvout,
    (hword 4 _ _ (by decide)).trans hiout, (hword 8 _ _ (by decide)).trans htemp, (hword 8 _ _ (by decide)).trans hstatus,
    ((hword 0xC _ _ (by decide)).trans herr).trans (hget _), ?event, ?polled, ?regs⟩
  case event =>
    cases c
    · rw [if_neg (by simpa [imp_iff_or_not, or_comm] using hc), when_false, hev, hget]
    · rw [if_pos (by simpa [and_comm] using hc), when_true]
      exact bit_twinEvent _ _ (by decide)
  case polled =>
    rw [(((RegsOnly.refl v).when c fun u hu => hu.trans (regsOnly_twinEvent _ _ u)).twin), honly.twin, hpolled]
  case regs => exact (hregs.trans hkept).when c (regsKept_twinEvent (hregs.trans hkept) _ _)

theorem exec_pmbusPoll_none {s : State} {feed f : Nat} (hf : f = feed % 2) (h : PollDue f s) :
    ∃ t, exec (.pmbusPoll feed none) s = .next t ∧
      t.get (Reg.TWIN.SUP_ERRCNT f) = (s.get (Reg.TWIN.SUP_ERRCNT f) + 1) % 65536 ∧
      bit (t.get Reg.TWIN.EVSTAT) 14 = true ∧ t.get (Reg.TWIN.SUP_VIN f) = s.get (Reg.TWIN.SUP_VIN f) ∧
      Assoc.find t.twin.polledAt f = some s.now ∧ RegsKept [.twin, .flt] s t := by
  subst hf
  have hf : feed % 2 < 2 := Nat.mod_lt _ (by decide)
  refine ⟨_, congrArg Host.Outcome.next (pmbusPoll_none h), ?_⟩
  generalize feed % 2 = f at hf h ⊢
  have hget (r : FRef) : (s.polledNow f).get r = s.get r := rfl
  have hregs : RegsKept [.twin, .flt] s (s.polledNow f) := (RegsKept.refl _ s).same rfl
  have hpolled : Assoc.find (s.polledNow f).twin.polledAt f = some s.now := Assoc.find_put_same _ _ _
  generalize s.polledNow f = v at hget hregs hpolled ⊢
  have hword (o hi lo : Nat) (ho : o < 0x10) : ((v.bump (Reg.TWIN.SUP_ERRCNT f) 1).twinEvent 14 [f]).get
      ⟨0x29000510 + o + 0x10 * f, hi, lo⟩ = (v.bump (Reg.TWIN.SUP_ERRCNT f) 1).get ⟨0x29000510 + o + 0x10 * f, hi, lo⟩ :=
    get_twinEvent_other 14 [f] _ (feedWord_apart hf ho) (.inr (by dsimp only; omega))
  have honly : RegsOnly v ((v.bump (Reg.TWIN.SUP_ERRCNT f) 1).twinEvent 14 [f]) := ((RegsOnly.refl v).bump _ _).eventEn _ _ _ _ _
  refine ⟨?_, bit_twinEvent _ _ (by decide), ?_, by rw [honly.twin, hpolled], regsKept_twinEvent (hregs.bump _ ?_) _ _⟩
  · refine (hword 0xC _ _ (by decide)).trans ((get_bump_same v 1 (by decide : (15 : Nat) < 32)).trans ?_)
    rw [hget]
    rfl
  · refine (hword 0 _ _ (by decide)).trans ((get_set_other _ _ ?_ ?_).trans (hget _))
    · exact FRef.apart_iff.mpr (by simp only [Reg.TWIN.SUP_ERRCNT]; omega)
    · exact (by decide : (15 : Nat) < 32)
  · exact outside_page .twin (by decide) (by simp only [BlkKind.layout, Reg.TWIN.SUP_ERRCNT]; omega)
      (by simp only [BlkKind.pagesEnd, BlkKind.layout, Reg.TWIN.SUP_ERRCNT]; omega)

theorem exec_latchPoint_alone {s : State} {i : Nat} {u : TakeRec}
    (h : s.twinOn = false ∨ s.linkUp = false ∨ s.get Reg.TWIN.STAT_STATE = 4) (hst : s.get Reg.TWIN.STAT_STATE ≠ 2)
    (ho : s.outTakes i = ⟨some u, none⟩) (hp : OnlyPending s) (hacc : u.accepted ≤ s.timeNs) (hi : i < 16384)
    (hsrc : u.src < 2 ^ 32) :
    ∃ t, exec (.latchPoint i) s = .next t ∧ (t.outTakes i).pend = none ∧ (t.outTakes i).lat.map (·.src) = some u.src ∧
      t.get (Reg.FAB.RT_LATV i) = 1 ∧ t.get (Reg.FAB.RT_LATSRC i) = u.src ∧ t.get (Reg.FAB.RT_PENDV i) = 0 ∧
      RegsKept [.fab, .prov, .flt] s t := by
  have hlatch : s.twinLatch i = (s.putSlots i ⟨none, none⟩).latch i u := by
    rw [twinLatch_alone h (.inr hst), latchPoint_pend ho hp, if_pos hacc]
  obtain ⟨hput, ⟨f, hslots⟩, -, hpendV, hlat, hlatV⟩ := latched_latch hi u s
  refine ⟨_, congrArg Host.Outcome.next hlatch, ?_⟩
  generalize (s.putSlots i ⟨none, none⟩).latch i u = t at hput hslots hpendV hlat hlatV ⊢
  rw [hslots]
  exact ⟨rfl, rfl, hlatV, hlat.trans (Nat.mod_eq_of_lt hsrc), hpendV, hput.regs⟩

theorem exec_latchPoint_active {s : State} {i : Nat} {u : TakeRec} (hon : s.get Reg.TWIN.CTRL_EN = 1)
    (hst : s.get Reg.TWIN.STAT_STATE = 3) (hlink : s.linkUp = true) (ho : s.outTakes i = ⟨some u, none⟩) (hp : OnlyPending s)
    (hacc : u.accepted ≤ s.timeNs) (hi : i < 16384) (hmirror : s.twin.mirror = []) :
    ∃ t, exec (.latchPoint i) s = .next t ∧ (t.outTakes i).pend = none ∧ (t.outTakes i).lat.map (·.src) = some u.src ∧
      ∀ x ∈ (t.outTakes i).lat.toList,
        t.out = (if s.twinSends then [.twin (.latch [⟨i, x⟩]) s.twin.key] else []) ++ s.out := by
  have hheld : (s.unacked 1 u.accepted fun m => handleIdx (m.cmd.args.getD 0 0) == i) = false := by
    rw [unacked, hmirror]
    rfl
  obtain ⟨f, hslots, hout⟩ := twinLatch_free hi hon hst hlink ho hp hacc hheld
  refine ⟨_, rfl, ?_⟩
  rw [hslots]
  refine ⟨rfl, rfl, fun x hx => ?_⟩
  obtain rfl : x = { u with flags := f } := by simpa using hx
  exact hout

theorem exec_latchRecordRx {s : State} {i : Nat} {u : TakeRec} (hlink : s.linkUp = true) (hst : s.get Reg.TWIN.STAT_STATE = 2)
    (hi : i < 16384) (hsrc : u.src < 2 ^ 32) (hnew : Assoc.find s.twin.latched i ≠ some u) :
    ∃ t, exec (.latchRecordRx true [⟨i, u⟩]) s = .next t ∧ (t.outTakes i).lat = some u ∧
      t.get (Reg.FAB.RT_LATSRC i) = u.src ∧ t.get (Reg.FAB.RT_LATV i) = 1 ∧ Assoc.find t.twin.latched i = some u ∧
      ((s.outTakes i).pend.any (fun v => v.src == u.src && v.accepted == u.accepted) = true → (t.outTakes i).pend = none) ∧
      RegsKept [.fab, .prov, .flt] s t := by
  have hexec : exec (.latchRecordRx true [⟨i, u⟩]) s =
      .next (({ s with twin := { s.twin with macFails := 0 } } : State).latchListed ⟨i, u⟩) := by
    refine congrArg Host.Outcome.next ?_
    rw [macCheck_ok hlink]
    exact if_pos ⟨rfl, hst⟩
  obtain ⟨hlat, hpend, hlatSrc, hlatV, hlisted, hregs⟩ :=
    recordTaken_latchListed (s := { s with twin := { s.twin with macFails := 0 } }) hi hnew
  exact ⟨_, hexec, hlat, hlatSrc.trans (Nat.mod_eq_of_lt hsrc), hlatV, hlisted, hpend,
    ((RegsKept.refl _ s).same rfl).trans hregs⟩

/-- Takes that are listed already change nothing. -/
theorem each_latchListed_known {s : State} : ∀ l : List LatchItem,
    (l.all fun x => Assoc.find s.twin.latched x.out == some x.take) = true → s.each l latchListed = s
  | [], _ => rfl
  | x :: l, h => by
    rw [List.all_cons, Bool.and_eq_true] at h
    have hx : s.latchListed x = s := if_pos (by simpa using h.1)
    rw [each, List.foldl_cons, hx]
    exact each_latchListed_known l h.2

theorem exec_latchRecordRx_known {s : State} {l : List LatchItem} (hlink : s.linkUp = true)
    (h : s.get Reg.TWIN.STAT_STATE ≠ 2 ∨ (l.all fun x => Assoc.find s.twin.latched x.out == some x.take) = true) :
    exec (.latchRecordRx true l) s = .next { s with twin := { s.twin with macFails := 0 } } := by
  refine congrArg Host.Outcome.next ?_
  rw [macCheck_ok hlink]
  dsimp only
  split
  · next hcond => exact each_latchListed_known l (h.resolve_left fun hne => hne hcond.2)
  · rfl

theorem exec_signatureRx {s : State} (c : Nat) (l : List SigItem) (hlink : s.linkUp = true) :
    exec (.signatureRx true c l) s =
      .next (({ s with twin := { s.twin with macFails := 0 } } : State).compareSigs c l) := by
  refine congrArg Host.Outcome.next ?_
  rw [macCheck_ok hlink]
  rfl

theorem exec_signatureRx_differs {s : State} {c a b n : Nat} {y z : Bool} (hlink : s.linkUp = true) (hc : s.twin.sigCycle = c)
    (hlast : s.twin.sigLast = [⟨n, a, y⟩]) (hab : a ≠ b) (hseen : s.twin.sigSeen ≠ some c)
    (hn : n < 2 ^ Reg.TWIN.SIGMIS_ENTRY.width) (hon : s.get Reg.TWIN.CTRL_EN = 1) (hst : s.get Reg.TWIN.STAT_STATE ≠ 0) :
    ∃ t, exec (.signatureRx true c [⟨n, b, z⟩]) s = .next t ∧
      t.get Reg.TWIN.SIGMIS_COUNT = (s.get Reg.TWIN.SIGMIS_COUNT + 1) % 65536 ∧ t.get Reg.TWIN.SIGMIS_ENTRY = n ∧
      bit (t.get Reg.TWIN.EVSTAT) 5 = true ∧ t.twin.sigSeen = some c ∧
      (t.get Reg.TWIN.STAT_STATE = if s.use Reg.TWIN.CFG_CMPACT = 1 ∧ y = true ∧ z = false then 5
        else s.get Reg.TWIN.STAT_STATE) ∧
      RegsKept [.twin, .flt] s t := by
  refine ⟨_, exec_signatureRx c _ hlink, ?_⟩
  have hbase : RegsKept [.twin, .flt] s { s with twin := { s.twin with macFails := 0 } } := (RegsKept.refl _ s).same rfl
  have hget (r : FRef) : ({ s with twin := { s.twin with macFails := 0 } } : State).get r = s.get r := get_of_regs rfl r
  have huse (r : FRef) : ({ s with twin := { s.twin with macFails := 0 } } : State).use r = s.use r := use_congr rfl r
  rw [compareSigs_differs (s := { s with twin := { s.twin with macFails := 0 } }) hc hlast hab hseen]
  obtain ⟨hcount, hentry, hev, hsig, hstate, hen, hused, hkept⟩ :=
    sigsDiffer_facts (c := c) { s with twin := { s.twin with macFails := 0 } } hn
  generalize ({ s with twin := { s.twin with macFails := 0 } } : State) = s' at *
  generalize s'.sigsDiffer c n = v at *
  rw [hget] at hcount hstate hen
  rw [hused, huse]
  generalize hlow : (s.use Reg.TWIN.CFG_CMPACT == 1 && (y && !z)) = low
  cases low
  · rw [when_false]
    refine ⟨hcount, hentry, hev, hsig, ?_, hbase.trans hkept⟩
    rw [if_neg (by simpa using hlow)]
    exact hstate
  · have hlowered := lowered_lowerClaim (why := 3) (hen.trans hon) (by rwa [hstate])
    rw [when_true]
    refine ⟨?_, ?_, hlowered.event 5 hev, ?_, ?_, (hbase.trans hkept).trans hlowered.regs⟩
    · exact (hlowered.other _ (by decide) (by decide) (by decide) (by decide)).trans hcount
    · exact (hlowered.other _ (by decide) (by decide) (by decide) (by decide)).trans hentry
    · exact (congrArg (·.sigSeen) hlowered.twin).trans hsig
    · rw [if_pos (by simpa using hlow)]
      exact hlowered.state

/-- Settles O43: supply edges and polls, latch points with and without a partner, latch records and signatures. -/
theorem supplyFeedsAndLatchPoints : Obligations.SupplyFeedsAndLatchPoints := by
  unfold Obligations.SupplyFeedsAndLatchPoints
  refine ⟨fun s feed good h => exec_supplyOkEdge h, fun s feed good h => ⟨_, congrArg Host.Outcome.next (supplyEdge_same h), rfl⟩,
    fun s feed f w hf hen hrun hdue => exec_pmbusPoll_some hf ⟨hen, hrun, hdue⟩,
    fun s feed f hf hen hrun hdue => exec_pmbusPoll_none hf ⟨hen, hrun, hdue⟩, ?idlePoll,
    fun s i hon hst => ⟨_, congrArg Host.Outcome.next (twinLatch_standby hon hst), rfl⟩, ?latched, ?empty, ?early,
    fun s i u h hst ho hsched hsalvo hacc hi hsrc hinv =>
      exec_latchPoint_alone h hst ho ⟨hsched, hsalvo, hinv⟩ hacc hi hsrc,
    fun s i u hon hst hlink ho hsched hsalvo hacc hi _ hmirror hinv =>
      exec_latchPoint_active hon hst hlink ho ⟨hsched, hsalvo, hinv⟩ hacc hi hmirror,
    fun s i u hon hst hlink ho hsched hsalvo hi hheld _ =>
      ⟨_, rfl, twinLatch_held hi hon hst hlink ho hsched hsalvo hheld⟩,
    fun s i u hlink hst hi hsrc hnew => exec_latchRecordRx hlink hst hi hsrc hnew,
    fun s l hlink h => ⟨_, exec_latchRecordRx_known hlink h, rfl⟩,
    fun s c a b n y z hlink hc hlast hab hseen hn hon hst =>
      exec_signatureRx_differs hlink hc hlast hab hseen hn hon hst,
    fun s c l hlink hc hseen hsame =>
      ⟨_, (exec_signatureRx c l hlink).trans (congrArg Host.Outcome.next (compareSigs_agree hc hseen hsame)), rfl⟩,
    fun s c l hlink h => ⟨_, (exec_signatureRx c l hlink).trans (congrArg Host.Outcome.next (compareSigs_other h)), rfl⟩⟩
  case idlePoll =>
    rintro s feed _ w rfl h
    refine ⟨_, congrArg Host.Outcome.next (pmbusPoll_idle ?_), rfl⟩
    rintro ⟨hen, hrun, hdue⟩
    rcases h with h | h | h
    · rw [h] at hen
      cases hen
    · rw [h] at hrun
      cases hrun
    · rw [h] at hdue
      cases hdue
  case latched =>
    intro s i hon hlat
    exact ⟨_, congrArg Host.Outcome.next ((twinLatch_alone (.inl hon) (.inl hon)).trans (latchPoint_latched hlat)), rfl⟩
  case empty =>
    intro s i hon ho hsched hsalvo hinv
    exact ⟨_, congrArg Host.Outcome.next ((twinLatch_alone (.inl hon) (.inl hon)).trans (latchPoint_none ho ⟨hsched, hsalvo, hinv⟩)), rfl⟩
  case early =>
    intro s i u hon ho hsched hsalvo hearly hinv
    refine ⟨s, congrArg Host.Outcome.next ?_, rfl, rfl⟩
    rw [twinLatch_alone (.inl hon) (.inl hon), latchPoint_pend ho ⟨hsched, hsalvo, hinv⟩, if_neg (by omega)]

end Sys2Proof.Machine
end

section
/-! SUPPORT. The registers of the map by their fields: what a register that RegMap.find names has in common with every other of the
map, what its fields read once a write has been judged field by field, and what the telling of an ignored write leaves. -/

namespace Sys2Proof.Machine

/-! ### The register that an address names -/

theorem findIn_mem : ∀ (l : List RegDef) {o : Nat} {r : RegDef} {x : Nat × Nat}, RegMap.findIn l o = some (r, x) →
    r ∈ l ∧ r.at? o = some x
  | [], _, _, _, h => by cases h
  | q :: l, o, r, x, h => by
    unfold RegMap.findIn at h
    split at h
    · next ix hix =>
      obtain ⟨rfl, rfl⟩ := Prod.mk.inj (Option.some.inj h)
      exact ⟨List.mem_cons_self, hix⟩
    · obtain ⟨hmem, hat⟩ := findIn_mem l h
      exact ⟨List.mem_cons_of_mem _ hmem, hat⟩

/-- What RegMap.find says of an address: its page, the register of the table, and the fields left of it. -/
structure Names (a : Nat) (b : Blk) (r : RegDef) (o : Nat) (r₀ : RegDef) (x : Nat × Nat) : Prop where
  page : Blk.ofAddr a = some (b, o)
  base : a = b.base + o
  lo : b.kind.layout.1 ≤ a
  hi : a < b.kind.pagesEnd
  inst : b.inst < b.kind.layout.2.2
  found : RegMap.findIn b.kind.regs o = some (r₀, x)
  trimmed : r = b.trim r₀
  fields : r.flds.Sublist r₀.flds
  off : r.off = r₀.off

theorem ofAddr_facts {a o : Nat} {b : Blk} (h : Blk.ofAddr a = some (b, o)) :
    b.kind.layout.1 ≤ a ∧ a < b.kind.pagesEnd ∧ b.inst = (a - b.kind.layout.1) / b.kind.layout.2.1 ∧
      o = (a - b.kind.layout.1) % b.kind.layout.2.1 := by
  unfold Blk.ofAddr at h
  dsimp only at h
  split at h
  · next k hk =>
    have hholds := List.find?_some hk
    obtain ⟨rfl, rfl⟩ := Prod.mk.inj (Option.some.inj h)
    rw [Bool.and_eq_true, decide_eq_true_eq, decide_eq_true_eq] at hholds
    exact ⟨hholds.1, hholds.2, rfl, rfl⟩
  · cases h

theorem trim_facts (b : Blk) (r : RegDef) : (b.trim r).flds.Sublist r.flds ∧ (b.trim r).off = r.off := by
  unfold Blk.trim
  split
  · split
    · exact ⟨List.Sublist.refl _, rfl⟩
    · split
      · exact ⟨List.filter_sublist, rfl⟩
      · split
        · exact ⟨List.nil_sublist _, rfl⟩
        · exact ⟨List.Sublist.refl _, rfl⟩
  · exact ⟨List.Sublist.refl _, rfl⟩

theorem names_of_find {a i j : Nat} {b : Blk} {r : RegDef} (h : RegMap.find a = some (b, r, i, j)) :
    ∃ o r₀, Names a b r o r₀ (i, j) := by
  unfold RegMap.find at h
  split at h
  · next b' o hpage =>
    split at h
    · next r₀ x hfound =>
      obtain ⟨rfl, hr, hx⟩ : b' = b ∧ b'.trim r₀ = r ∧ x = (i, j) := by simpa using h
      subst hr hx
      obtain ⟨hlo, hhi, hinst, hoff⟩ := ofAddr_facts hpage
      have hsize : 0 < b'.kind.layout.2.1 := by
        cases b'.kind <;> decide
      refine ⟨o, r₀, hpage, ?_, hlo, hhi, ?_, hfound, rfl, (trim_facts b' r₀).1, (trim_facts b' r₀).2⟩
      · have hdiv := Nat.div_add_mod (a - b'.kind.layout.1) b'.kind.layout.2.1
        rw [Blk.base, hinst, hoff]
        omega
      · rw [hinst, Nat.div_lt_iff_lt_mul hsize, Nat.mul_comm]
        unfold BlkKind.pagesEnd at hhi
        omega
    · cases h
  · cases h

/-! ### What every register of the map meets -/

/-- Two fields have no bit in common. -/
def Fld.apart (f g : Fld) : Bool := decide (f.hi < g.lo) || decide (g.hi < f.lo)

/-- A register has a field of the bus-matrix domain that an enabled block keeps. -/
def RegDef.hasRwd (r : RegDef) : Bool := r.flds.any fun f => f.acc == .rwd

/-- What a register of a block type meets, by its fields. -/
def regularReg (k : BlkKind) (r : RegDef) : Bool :=
  decide (r.flds.Pairwise fun f g => f.apart g = true) && (r.flds.all fun f => decide (f.lo ≤ f.hi) && decide (f.hi < 32)) &&
    (!r.hasRwd || ((r.flds.all fun f => f.acc == .rwd || f.acc == .rs) && r.off != 0 && r.off != 4 && k != .time &&
      !heldWhole.contains (k, r.off) && !(⟨k, 0⟩ : Blk).busSide)) &&
    (!r.plain || (!heldWhole.contains (k, r.off) && !(k == .lane && r.off == 0x10)))

theorem regular_all : (BlkKind.all.all fun k => k.regs.all (regularReg k)) = true := by decide +kernel

theorem regular_of_mem {k : BlkKind} {r : RegDef} (h : r ∈ k.regs) : regularReg k r = true :=
  List.all_eq_true.mp (List.all_eq_true.mp regular_all k (by cases k <;> decide)) r h

/-- What a register with RWD fields has beside them, and where it lies. -/
structure RwdAlone (b : Blk) (r : RegDef) : Prop where
  flds : ∀ f ∈ r.flds, f.acc = .rwd ∨ f.acc = .rs
  off : r.off ≠ 0
  notStat : r.off ≠ 4
  notTime : b.kind ≠ .time
  judged : heldWhole.contains (b.kind, r.off) = false
  domain : b.busSide = false

namespace Names

variable {a o : Nat} {b : Blk} {r r₀ : RegDef} {x : Nat × Nat}

theorem regular (h : Names a b r o r₀ x) : regularReg b.kind r₀ = true := regular_of_mem (findIn_mem _ h.found).1

theorem pairwise (h : Names a b r o r₀ x) : r.flds.Pairwise fun f g => f.apart g = true := by
  have hreg := h.regular
  simp only [regularReg, Bool.and_eq_true, decide_eq_true_eq] at hreg
  exact hreg.1.1.1.sublist h.fields

theorem bounds (h : Names a b r o r₀ x) {f : Fld} (hf : f ∈ r.flds) : f.lo ≤ f.hi ∧ f.hi < 32 := by
  have hreg := h.regular
  simp only [regularReg, Bool.and_eq_true, List.all_eq_true, decide_eq_true_eq] at hreg
  exact hreg.1.1.2 f (h.fields.subset hf)

theorem rwdAlone (h : Names a b r o r₀ x) (hr : r.hasRwd = true) : RwdAlone b r := by
  have hr₀ : r₀.hasRwd = true := by
    unfold RegDef.hasRwd at hr ⊢
    obtain ⟨f, hf, hacc⟩ := List.any_eq_true.mp hr
    exact List.any_eq_true.mpr ⟨f, h.fields.subset hf, hacc⟩
  have hreg := h.regular
  obtain ⟨k, n⟩ := b
  simp only [regularReg, hr₀, Bool.and_eq_true, Bool.not_true, Bool.false_or, bne_iff_ne, Bool.not_eq_true', List.all_eq_true,
    Bool.or_eq_true, beq_iff_eq] at hreg
  obtain ⟨⟨-, ⟨⟨⟨⟨hflds, hoff⟩, hstat⟩, htime⟩, hheld⟩, hside⟩, -⟩ := hreg
  exact ⟨fun f hf => hflds f (h.fields.subset hf), h.off ▸ hoff, h.off ▸ hstat, htime, h.off ▸ hheld, hside⟩

/-- A register without fields of the bus-matrix domain is none of those that are judged as a whole. -/
theorem plain_judged (h : Names a b r o r₀ x) (hp : r.plain = true) :
    heldWhole.contains (b.kind, r.off) = false ∧ ¬(b.kind = .lane ∧ r.off = 0x10) := by
  by_cases heth : b.kind = .eth
  · rw [heth]
    exact ⟨by simp [heldWhole], by simp⟩
  · have hsame : r = r₀ := by
      rw [h.trimmed, Blk.trim]
      split
      · next hk => exact absurd hk heth
      · rfl
    subst hsame
    have hreg := h.regular
    simp only [regularReg, hp, Bool.and_eq_true, Bool.not_true, Bool.false_or, Bool.not_eq_true'] at hreg
    obtain ⟨-, hheld, hlane⟩ := hreg
    exact ⟨hheld, by simpa using hlane⟩

/-- STAT of a page lies where its offset says. -/
theorem off_of_stat (h : Names a b r o r₀ x) (ha : a = b.base + 4) : r.off = 4 := by
  have ho : o = 4 := by have hbase := h.base; omega
  have hall : (BlkKind.all.all fun k => (RegMap.findIn k.regs 4).all fun p => p.1.off == 4) = true := by decide +kernel
  have hstat := List.all_eq_true.mp hall b.kind (by cases b.kind <;> decide)
  have hfound := h.found
  rw [ho] at hfound
  rw [hfound] at hstat
  exact h.off.trans (by simpa using hstat)

end Names

/-! ### What a field reads once a word has been judged field by field -/

theorem bits_mod_word {hi lo : Nat} (h : hi < 32) (w : Nat) : bits (w % 2 ^ 32) hi lo = bits w hi lo := by
  refine Nat.eq_of_testBit_eq fun i => ?_
  rw [testBit_bits, testBit_bits, Nat.testBit_mod_two_pow]
  by_cases hi' : i < hi + 1 - lo
  · rw [decide_eq_true (show i + lo < 32 by omega), Bool.true_and]
  · rw [decide_eq_false hi', Bool.false_and, Bool.false_and]

/-- A field of a word that is worked through field by field reads what its own turn makes of it. -/
theorem bits_foldl_field {g : Nat → Fld → Nat} {f : Fld} {x : Nat}
    (hother : ∀ v q, f.apart q = true ∨ q.apart f = true → bits (g v q) f.hi f.lo = bits v f.hi f.lo) :
    ∀ (l : List Fld) (v : Nat), l.Pairwise (fun p q => p.apart q = true) → f ∈ l →
      (∀ w, bits w f.hi f.lo = bits v f.hi f.lo → bits (g w f) f.hi f.lo = x) → bits (l.foldl g v) f.hi f.lo = x
  | q :: l, v, hpair, hf, hturn => by
    have hrest (w : Nat) (hl : ∀ p ∈ l, f.apart p = true ∨ p.apart f = true) :
        bits (l.foldl g w) f.hi f.lo = bits w f.hi f.lo :=
      List.foldlRecOn (motive := fun u => bits u f.hi f.lo = bits w f.hi f.lo) l g rfl fun u hu p hp => (hother u p (hl p hp)).trans hu
    obtain ⟨hq, hpair⟩ := List.pairwise_cons.mp hpair
    rw [List.foldl_cons]
    rcases List.mem_cons.mp hf with rfl | hf
    · rw [hrest _ fun p hp => .inl (hq p hp)]
      exact hturn v rfl
    · refine bits_foldl_field hother l (g v q) hpair hf fun w hw => hturn w ?_
      rw [hw, hother v q (.inr (hq f hf))]

theorem bits_setBits_apart {f q : Fld} (w v : Nat) (h : f.apart q = true ∨ q.apart f = true) :
    bits (setBits w q.hi q.lo v) f.hi f.lo = bits w f.hi f.lo := by
  refine bits_setBits_other _ _ _ _ _ _ ?_
  simp only [Fld.apart, Bool.or_eq_true, decide_eq_true_eq] at h
  omega

theorem bits_setBits_field (w v : Nat) (f : Fld) : bits (setBits w f.hi f.lo (bits v f.hi f.lo)) f.hi f.lo = bits v f.hi f.lo := by
  rw [bits_setBits_same]
  exact Nat.mod_eq_of_lt (bits_lt _ _ _)

namespace State

/-- The turn of one field in a landing write. -/
def landField (r : RegDef) (data v : Nat) (f : Fld) : Nat :=
  match f.acc with
  | .rw => if r.off = 0 ∧ f.lo = 0 then v else setBits v f.hi f.lo (bits data f.hi f.lo)
  | .w1c => setBits v f.hi f.lo (bits v f.hi f.lo &&& Nat.xor (bits data f.hi f.lo) (2 ^ (f.hi + 1 - f.lo) - 1))
  | .rwd | .rwl | .ro | .rs | .wo => v

theorem landWord_eq (r : RegDef) (old data : Nat) : landWord r old data = r.flds.foldl (landField r data) old := rfl

theorem landField_other {f q : Fld} (r : RegDef) (data v : Nat) (hq : f.apart q = true ∨ q.apart f = true) :
    bits (landField r data v q) f.hi f.lo = bits v f.hi f.lo := by
  unfold landField
  split
  · split
    · rfl
    · exact bits_setBits_apart _ _ hq
  · exact bits_setBits_apart _ _ hq
  all_goals rfl

section
variable {r : RegDef} {f : Fld} (old data : Nat) (hpair : r.flds.Pairwise fun f g => f.apart g = true) (hf : f ∈ r.flds)
include hpair hf

theorem bits_landWord_rw (hacc : f.acc = .rw) (hctrl : r.off = 0 → f.lo ≠ 0) :
    bits (landWord r old data) f.hi f.lo = bits data f.hi f.lo := by
  rw [landWord_eq]
  refine bits_foldl_field (fun v q hq => landField_other r data v hq) _ _ hpair hf fun w _ => ?_
  have hturn : landField r data w f = setBits w f.hi f.lo (bits data f.hi f.lo) := by
    simp only [landField, hacc, if_neg fun h : r.off = 0 ∧ f.lo = 0 => hctrl h.1 h.2]
  rw [hturn]
  exact bits_setBits_field _ _ _

theorem bits_landWord_w1c (hacc : f.acc = .w1c) : bits (landWord r old data) f.hi f.lo =
    bits old f.hi f.lo &&& Nat.xor (bits data f.hi f.lo) (2 ^ (f.hi + 1 - f.lo) - 1) := by
  rw [landWord_eq]
  refine bits_foldl_field (fun v q hq => landField_other r data v hq) _ _ hpair hf fun w hw => ?_
  have hturn : landField r data w f =
      setBits w f.hi f.lo (bits w f.hi f.lo &&& Nat.xor (bits data f.hi f.lo) (2 ^ (f.hi + 1 - f.lo) - 1)) := by
    simp only [landField, hacc]
  rw [hturn, bits_setBits_same, hw]
  exact Nat.mod_eq_of_lt (lt_of_le_of_lt Nat.and_le_left (bits_lt _ _ _))

theorem bits_landWord_kept (hrw : f.acc ≠ .rw) (hw1c : f.acc ≠ .w1c) :
    bits (landWord r old data) f.hi f.lo = bits old f.hi f.lo := by
  rw [landWord_eq]
  refine bits_foldl_field (fun v q hq => landField_other r data v hq) _ _ hpair hf fun w hw => ?_
  have hturn : landField r data w f = w := by
    unfold landField
    cases hacc : f.acc with
    | rw => exact absurd hacc hrw
    | w1c => exact absurd hacc hw1c
    | _ => rfl
  rw [hturn, hw]

/-- A bit of a W1C field clears where the data carries a 1. -/
theorem testBit_landWord_w1c (hacc : f.acc = .w1c) {k : Nat} (hlo : f.lo ≤ k) (hhi : k ≤ f.hi) :
    (landWord r old data).testBit k = (old.testBit k && !data.testBit k) := by
  have hbits := congrArg (fun n => n.testBit (k - f.lo)) (bits_landWord_w1c old data hpair hf hacc)
  have hin : k - f.lo < f.hi + 1 - f.lo := by omega
  have hk : k - f.lo + f.lo = k := by omega
  have hxor (m n i : Nat) : (Nat.xor m n).testBit i = (m.testBit i ^^ n.testBit i) := Nat.testBit_xor m n i
  simp only [Nat.testBit_and, hxor, testBit_bits, decide_eq_true hin, Bool.true_and, hk, Nat.testBit_two_pow_sub_one,
    Bool.xor_true] at hbits
  exact hbits

end

end State

/-! ### A write as the bus accepts it -/

theorem BlkKind.layout_bounds (k : BlkKind) : 0x10000000 ≤ k.layout.1 ∧ k.pagesEnd ≤ 0x40000000 ∧ 0x100 ≤ k.layout.2.1 := by
  cases k <;> decide

/-- An offset of a page lies among the pages of the block type. -/
theorem Blk.page_bounds {b : Blk} {n : Nat} (hb : b.inst < b.kind.layout.2.2) (hn : n < b.kind.layout.2.1) :
    b.kind.layout.1 ≤ b.base + n ∧ b.base + n < b.kind.pagesEnd := by
  have hmul := Nat.mul_le_mul_left b.kind.layout.2.1 (show b.inst + 1 ≤ b.kind.layout.2.2 from hb)
  rw [Nat.mul_add, Nat.mul_one] at hmul
  unfold Blk.base BlkKind.pagesEnd
  omega

/-- A write of a register on a bus where no target is held is judged field by field and answered OK. -/
theorem registerWrite_accepted {m a i j : Nat} {data : Word} {b : Blk} {r : RegDef} {s : State} (hq : Quiet m s)
    (hfind : RegMap.find a = some (b, r, i, j)) (hal : a % 4 = 0) :
    exec (.registerWrite m a 4 data) s =
      .next (((s.disarm m).acceptWrite m a data (m == 6 || s.armed m) b r i).answer m ⟨0, 0⟩) := by
  obtain ⟨hm, hlock, -⟩ := hq
  obtain ⟨o, r₀, hn⟩ := names_of_find hfind
  obtain ⟨hlo, hhi, -⟩ := b.kind.layout_bounds
  have hlo' := hn.lo
  have hhi' := hn.hi
  exact congrArg Host.Outcome.next (State.busWrite_block s hm hlock hfind hn.page (by omega) (by omega) hal)

/-! ### What the telling of an ignored write leaves -/

namespace State

/-- An ignored write is shown: CFG_IGN of its block, its address and its count. -/
def ignoreShown (m : Nat) (b : Blk) (addr : Nat) (s : State) : State :=
  ((s.set b.cfgIgn 1).recordIgnored m addr).markIgnored m

theorem cfgIgnored_eq (m : Nat) (b : Blk) (addr : Nat) (s : State) :
    s.cfgIgnored m b addr = (s.ignoreShown m b addr).cfgIgnoredEvent b addr := rfl

theorem markIgnored_rd (m : Nat) (s : State) (a : Nat) : (s.markIgnored m).rd a = s.rd a := by
  unfold markIgnored
  split
  · rfl
  · rfl

theorem rd_recordIgnored {m addr a : Nat} (s : State) (h : a ≠ 0x2B00001C ∧ a ≠ 0x2B000020) :
    (s.recordIgnored m addr).rd a = s.rd a := by
  unfold recordIgnored bumpSat
  rw [rd_set_other _ _ (by simpa [Reg.MGT.IGNCNT] using h.2), rd_set_other _ _ (by simpa [Reg.MGT.IGNADDR_SRC] using h.1),
    rd_set_other _ _ (by simpa [Reg.MGT.IGNADDR_ADDR] using h.1)]

theorem rd_ignoreShown {m addr a : Nat} {b : Blk} (s : State) (h : a ≠ b.base + 4) (h' : a ≠ 0x2B00001C ∧ a ≠ 0x2B000020) :
    (s.ignoreShown m b addr).rd a = s.rd a := by
  unfold ignoreShown
  rw [markIgnored_rd, rd_recordIgnored _ h', rd_set_other _ _ (by simpa [Blk.cfgIgn] using h)]

theorem get_of_rd {s t : State} {q : FRef} (h : t.rd q.addr = s.rd q.addr) : t.get q = s.get q := by
  rw [State.get, State.get, h]

theorem get_ignoreShown_cfgIgn {m addr : Nat} {b : Blk} (s : State) (h : b.base + 4 ≠ 0x2B00001C ∧ b.base + 4 ≠ 0x2B000020) :
    (s.ignoreShown m b addr).get b.cfgIgn = 1 := by
  have hkept : (s.ignoreShown m b addr).get b.cfgIgn = (s.set b.cfgIgn 1).get b.cfgIgn :=
    get_of_rd ((markIgnored_rd _ _ _).trans (rd_recordIgnored _ h))
  rw [hkept, get_set_same _ _ (by simp [Blk.cfgIgn])]
  simp [FRef.width, Blk.cfgIgn]

theorem get_ignoreShown_ignaddr {m addr : Nat} {b : Blk} (s : State) (h : addr < 2 ^ 32) :
    (s.ignoreShown m b addr).get Reg.MGT.IGNADDR_ADDR = addr / 4 := by
  have hkept : (s.ignoreShown m b addr).get Reg.MGT.IGNADDR_ADDR =
      ((s.set b.cfgIgn 1).recordIgnored m addr).get Reg.MGT.IGNADDR_ADDR := get_of_rd (markIgnored_rd _ _ _)
  rw [hkept, recordIgnored, bumpSat, get_set_other _ _ (by decide) (by decide), get_set_other _ _ (by decide) (by decide),
    get_set_same _ _ (by decide)]
  exact Nat.mod_eq_of_lt (show addr / 4 < 2 ^ 30 by omega)

theorem rd_cause_other {e v : FRef} {src c a : Nat} {items : List Nat} (s : State) (h : a ≠ e.addr)
    (hflt : a < 0x11003000 ∨ 0x11004800 ≤ a) : (s.cause e v src c items).rd a = s.rd a := by
  unfold cause
  dsimp only
  split
  · rw [rd_raiseLimited _ _ _ _ hflt, rd_orBit_other _ _ h]
  · exact rd_orBit_other _ _ h

theorem rd_eventEn_other {e v : FRef} {src n a : Nat} {items : List Nat} (s : State) (h : a ≠ e.addr)
    (hflt : a < 0x11003000 ∨ 0x11004800 ≤ a) : (s.eventEn e v n src items).rd a = s.rd a := by
  unfold eventEn
  dsimp only
  split
  · rw [rd_raise _ _ _ hflt, rd_orBit_other _ _ h]
  · exact rd_orBit_other _ _ h

theorem rd_event_other {e : FRef} {src n a : Nat} {items : List Nat} (s : State) (h : a ≠ e.addr)
    (hflt : a < 0x11003000 ∨ 0x11004800 ≤ a) : (s.event e n src items).rd a = s.rd a := by
  unfold event
  rw [rd_raise _ _ _ hflt, rd_orBit_other _ _ h]

/-- The configuration-ignored event touches the EVSTAT of its block and the counts of the fault collector. -/
theorem rd_cfgIgnoredEvent {b : Blk} {addr a : Nat} (s : State) (hb : b.inst < b.kind.layout.2.2) (hev : a ≠ b.base + 0xF0)
    (haud : b.kind = .aud → a ≠ b.base + 0x18) (hflt : a < 0x11003000 ∨ 0x11004800 ≤ a) :
    (s.cfgIgnoredEvent b addr).rd a = s.rd a := by
  obtain ⟨k, n⟩ := b
  have hword {q : FRef} (h : q.addr = Blk.base ⟨k, n⟩ + 0xF0) : a ≠ q.addr := h ▸ hev
  cases k
  case sdi => exact rd_cause_other s (hword (by simp only [Blk.base, BlkKind.layout, Reg.SDI.EVSTAT, sdiPage])) hflt
  case eth => exact rd_cause_other s (hword (by simp only [Blk.base, BlkKind.layout, Reg.ETH.EVSTAT]; omega)) hflt
  case aprt => exact rd_cause_other s (hword (by simp only [Blk.base, BlkKind.layout, Reg.APRT.EVSTAT]; omega)) hflt
  case cnv => exact rd_cause_other s (hword (by simp only [Blk.base, BlkKind.layout, Reg.CNV.EVSTAT]; omega)) hflt
  case mica => exact rd_cause_other s (hword (by simp only [Blk.base, BlkKind.layout, Reg.MICA.EVSTAT]; omega)) hflt
  case lane => exact rd_cause_other s (hword (by simp only [Blk.base, BlkKind.layout, Reg.LANE.EVSTAT]; omega)) hflt
  case quad => exact rd_cause_other s (hword (by simp only [Blk.base, BlkKind.layout, Reg.QUAD.EVSTAT]; omega)) hflt
  case drc => exact rd_cause_other s (hword (by simp only [Blk.base, BlkKind.layout, Reg.DRC.EVSTAT]; omega)) hflt
  case drcc =>
    obtain rfl : n = 0 := Nat.lt_one_iff.mp hb
    exact rd_cause_other s (hword rfl) hflt
  case gbus =>
    obtain rfl : n = 0 := Nat.lt_one_iff.mp hb
    exact rd_eventEn_other s (hword rfl) hflt
  case aud =>
    obtain rfl : n = 0 := Nat.lt_one_iff.mp hb
    exact rd_event_other s (show a ≠ Reg.AUD.EVSTAT.addr from haud rfl) hflt
  case dec => rfl
  all_goals exact rd_raise _ _ _ hflt

end State

end Sys2Proof.Machine
end

section
/-! SUPPORT. The loop of the lodestone (R404–R412): which registers its changes of state and of reference touch. -/

namespace Sys2Proof.Machine

/-- The words of the lodestone that the loop itself writes. -/
def loopWords : List Nat := [0x13000004, 0x13000064, 0x13000068, 0x1300006C, 0x13000070, 0x13000090, 0x130000F0]

/-- Nothing but words of the loop, the fault collector's counts and records, and what the lodestone holds differs. -/
structure LoopMoved (s t : State) : Prop where
  only : ∃ r f l x, t = { s with regs := r, flt := f, lastRaise := l, lode := x }
  words : ∀ a, a ∉ loopWords → (a < 0x11003000 ∨ 0x11004800 ≤ a) → t.rd a = s.rd a

namespace LoopMoved

variable {s t u : State}

theorem refl (s : State) : LoopMoved s s := ⟨⟨_, _, _, _, rfl⟩, fun _ _ _ => rfl⟩

theorem trans (h : LoopMoved s t) (h' : LoopMoved t u) : LoopMoved s u := by
  refine ⟨?_, fun a ha hf => (h'.words a ha hf).trans (h.words a ha hf)⟩
  obtain ⟨_, _, _, _, rfl⟩ := h.only
  obtain ⟨_, _, _, _, rfl⟩ := h'.only
  exact ⟨_, _, _, _, rfl⟩

theorem updLode (h : LoopMoved s t) (f : LodeState → LodeState) : LoopMoved s (t.updLode f) :=
  h.trans ⟨⟨_, _, _, _, rfl⟩, fun _ _ _ => rfl⟩

theorem set (h : LoopMoved s t) {q : FRef} (v : Nat) (hq : q.addr ∈ loopWords) : LoopMoved s (t.set q v) :=
  h.trans ⟨⟨_, _, _, _, rfl⟩, fun _ ha _ => State.rd_set_other t v fun hne => ha (hne ▸ hq)⟩

theorem setB (h : LoopMoved s t) {q : FRef} (v : Bool) (hq : q.addr ∈ loopWords) : LoopMoved s (t.setB q v) := h.set _ hq

theorem lodeEvent (h : LoopMoved s t) (n : Nat) (items : List Nat) : LoopMoved s (t.lodeEvent n items) := by
  refine h.trans ⟨?_, fun a ha hf => State.rd_event_other t (fun hne => ha (hne ▸ by decide)) hf⟩
  obtain ⟨_, _, _, hev⟩ := (RegsOnly.refl t).event Reg.LODE.EVSTAT n (161 + n) items
  exact ⟨_, _, _, _, hev⟩

theorem when (h : LoopMoved s t) (c : Bool) {f : State → State} (hf : LoopMoved s (f t)) : LoopMoved s (t.when c f) := by
  cases c
  · exact h
  · exact hf

theorem landing (h : LoopMoved s t) : t.landing = s.landing := by obtain ⟨_, _, _, _, rfl⟩ := h.only; rfl

theorem get (h : LoopMoved s t) {q : FRef} (hq : q.addr ∉ loopWords) (hf : q.addr < 0x11003000 ∨ 0x11004800 ≤ q.addr) :
    t.get q = s.get q := State.get_of_rd (h.words _ hq hf)

theorem showLoop (h : LoopMoved s t) : LoopMoved s t.showLoop :=
  ((h.set _ (by decide)).set _ (by decide)).set _ (by decide)

theorem realign (h : LoopMoved s t) : LoopMoved s t.realign :=
  ((((h.updLode _).updLode _).updLode _).showLoop).lodeEvent _ _

theorem enterLoop (h : LoopMoved s t) (st : Nat) : LoopMoved s (t.enterLoop st) := by
  unfold State.enterLoop
  dsimp only
  split
  · exact h
  · have hleft (v : State) (hv : LoopMoved s v) : LoopMoved s
        (if t.loopState = 4 then (v.set Reg.LODE.STAT_OUTSPEC 0).set Reg.LODE.HOLDSECS 0 else v) := by
      split
      · exact (hv.set _ (by decide)).set _ (by decide)
      · exact hv
    have htold (v : State) (hv : LoopMoved s v) : LoopMoved s
        (if st = 4 then v.lodeEvent 2 [v.loopRef] else v.lodeEvent 3 [v.loopRef, st]) := by
      split
      · exact hv.lodeEvent _ _
      · exact hv.lodeEvent _ _
    have hfell (v : State) (hv : LoopMoved s v) : LoopMoved s
        (if st = 1 ∧ (t.loopState = 2 ∨ t.loopState = 3) then v.lodeEvent 4 [v.loopRef] else v) := by
      split
      · exact hv.lodeEvent _ _
      · exact hv
    have haligned (v : State) (hv : LoopMoved s v) : LoopMoved s (if st = 1 ∧ t.loopState = 0 then v.realign else v) := by
      split
      · exact hv.realign
      · exact hv
    exact haligned _ (hfell _ (htold _ (hleft _ ((h.set _ (by decide)).updLode _))))

theorem holdCompute (h : LoopMoved s t) : LoopMoved s t.holdCompute := (h.setB _ (by decide)).set _ (by decide)

theorem loseAll (h : LoopMoved s t) : LoopMoved s t.loseAll := by
  have hnone := h.set (q := Reg.LODE.STAT_REF) 0 (by decide)
  unfold State.loseAll
  dsimp only
  split
  · exact hnone
  · split
    · exact ((hnone.updLode _).enterLoop 4).holdCompute
    · exact (hnone.enterLoop 0).set _ (by decide)

theorem switchRef (h : LoopMoved s t) (new : Nat) : LoopMoved s (t.switchRef new) := by
  have hnew := h.set (q := Reg.LODE.STAT_REF) new (by decide)
  unfold State.switchRef
  dsimp only
  split
  · exact hnew.enterLoop 1
  · have htaken (v : State) (hv : LoopMoved s v) : LoopMoved s (if v.loopState = 4 then v.enterLoop 2
        else v.when (decide (t.loopRef ≠ 0)) (State.lodeEvent 1 [t.loopRef, new, v.get Reg.LODE.BUILDOUT])) := by
      split
      · exact hv.enterLoop 2
      · exact hv.when _ (hv.lodeEvent _ _)
    exact htaken _ (hnew.updLode _).showLoop

theorem reselect (h : LoopMoved s t) : LoopMoved s t.reselect := by
  unfold State.reselect
  dsimp only
  split
  · split
    · exact h
    · split
      · exact h.loseAll
      · exact h.switchRef _
  · exact h

end LoopMoved

end Sys2Proof.Machine
end

section
/-! SUPPORT. Configuration of an enabled block is ignored, and of a disabled one taken (R44–R46). -/

namespace Sys2Proof.Machine

namespace Names

variable {a o : Nat} {b : Blk} {r r₀ : RegDef} {x : Nat × Nat}

/-- A register with RWD fields lies beside the words that the telling of an ignored write touches. -/
theorem rwd_apart (h : Names a b r o r₀ x) (hr : r.hasRwd = true) : a ≠ b.base + 4 ∧ a ≠ b.base + 0xF0 ∧
    (b.kind = .aud → a ≠ b.base + 0x18) ∧ (b.kind ≠ .mgt ∧ b.kind ≠ .flt) := by
  have hrwd := h.rwdAlone hr
  have hbase := h.base
  have hmem : b.kind ∈ BlkKind.all := by cases b.kind <;> decide
  have hr₀ : r₀.hasRwd = true := by
    obtain ⟨f, hf, hacc⟩ := List.any_eq_true.mp hr
    exact List.any_eq_true.mpr ⟨f, h.fields.subset hf, hacc⟩
  have hnone (n : Nat) (hn : (RegMap.findIn b.kind.regs n).all (fun p => !p.1.hasRwd) = true) : a ≠ b.base + n := by
    intro ha
    have hfound := h.found
    rw [show o = n by omega] at hfound
    simp [hfound, hr₀] at hn
  have hev : (BlkKind.all.all fun k => (RegMap.findIn k.regs 0xF0).all fun p => !p.1.hasRwd) = true := by decide +kernel
  have haud : ((RegMap.findIn BlkKind.aud.regs 0x18).all fun p => !p.1.hasRwd) = true := by decide +kernel
  refine ⟨fun ha => hrwd.notStat (h.off_of_stat ha), hnone _ (List.all_eq_true.mp hev _ hmem),
    fun hk => hnone _ (hk ▸ haud), ?_, ?_⟩
  · intro hk
    simpa [Blk.busSide, hk] using hrwd.domain
  · intro hk
    simpa [Blk.busSide, hk] using hrwd.domain

/-- An address of another block type lies in none of the words of MGT and FLT. -/
theorem not_mgt (h : Names a b r o r₀ x) (hk : b.kind ≠ .mgt) : a < 0x2B000000 ∨ 0x2B010000 ≤ a := by
  have hap := BlkKind.pages_apart b.kind .mgt hk
  have hlo := h.lo
  have hhi := h.hi
  simp only [BlkKind.pagesEnd, BlkKind.layout] at hap hhi hlo ⊢
  omega

end Names

/-! ### The fields of a write to a register with RWD fields -/

namespace RwdAlone

variable {b : Blk} {r : RegDef}

theorem none_locked (h : RwdAlone b r) (unl : Bool) (old data : Nat) : r.flds.any (State.fieldLocked unl old data) = false := by
  rw [List.any_eq_false]
  intro f hf
  rcases h.flds f hf with hacc | hacc <;> simp [State.fieldLocked, hacc]

/-- While the block is enabled, no field is taken. -/
theorem heldWord_enabled (h : RwdAlone b r) (unl : Bool) (old data : Nat) : State.heldWord b r true unl old data = old := by
  refine State.foldl_same _ _ _ fun f hf => ?_
  rcases h.flds f hf with hacc | hacc <;> simp [hacc]

theorem none_taken (h : RwdAlone b r) (unl : Bool) :
    (r.flds.any fun f => (f.acc == Acc.rwd && !true) || (f.acc == Acc.rwl && unl)) = false := by
  rw [List.any_eq_false]
  intro f hf
  rcases h.flds f hf with hacc | hacc <;> simp [hacc]

end RwdAlone

namespace State

/-- While the block is disabled, an RWD field takes the data. -/
theorem bits_heldWord_rwd {b : Blk} {r : RegDef} {f : Fld} (unl : Bool) (old data : Nat)
    (hpair : r.flds.Pairwise fun f g => f.apart g = true) (hf : f ∈ r.flds) (hacc : f.acc = .rwd) :
    bits (heldWord b r false unl old data) f.hi f.lo = bits data f.hi f.lo := by
  refine bits_foldl_field (fun v q hq => ?_) _ _ hpair hf fun w _ => ?_
  · have hturn (c : Bool) : bits (if c then setBits v q.hi q.lo (bits data q.hi q.lo) else v) f.hi f.lo = bits v f.hi f.lo := by
      cases c
      · rfl
      · exact bits_setBits_apart _ _ hq
    exact hturn _
  · simp only [hacc, Bool.not_false, if_true]
    exact bits_setBits_field _ _ _

/-- What the acceptance of an ignored write leaves: a landing that stores nothing of the RWD fields. -/
theorem acceptWrite_enabled {m a : Nat} {data : Word} {unl : Bool} {b : Blk} {r : RegDef} {i : Nat} {s : State} {f : Fld}
    (h : RwdAlone b r) (hen : s.get b.en = 1) (ha : a ≠ 0x12000034) (hf : f ∈ r.flds) (hacc : f.acc = .rwd)
    (hne : bits (s.rd a).toNat f.hi f.lo ≠ bits data.toNat f.hi f.lo)
    (hlane : ¬(b.kind = .lane ∧ r.off = 0x10 ∧ s.laneCfgRefused b.inst data = true)) :
    ∃ l : List Landing, s.acceptWrite m a data unl b r i = ({ s.cfgIgnored m b a with landing := l } : State).set b.wpend 1 := by
  have hdiff : r.flds.any (fieldIgnored true (s.rd a).toNat data.toNat) = true :=
    List.any_eq_true.mpr ⟨f, hf, by simp [fieldIgnored, hacc, fieldDiffers, hne]⟩
  have hoff : (r.off == 0) = false := by simpa using h.off
  have ha' : (a == 0x12000034) = false := by simpa using ha
  unfold acceptWrite
  simp only [if_neg hlane, if_neg fun hc : b.kind = .time ∧ _ => h.notTime hc.1, hen, beq_self_eq_true, hdiff, h.none_locked,
    hoff, h.heldWord_enabled, h.none_taken, heldSpecial_none h.judged, when_true, when_false, Bool.false_and, Bool.and_false,
    ite_self, if_true, h.domain, Bool.false_eq_true, if_false, ha']
  exact ⟨_, rfl⟩

theorem acceptWrite_refused {m a : Nat} {data : Word} {unl : Bool} {b : Blk} {r : RegDef} {i : Nat} {s : State}
    (h : b.kind = .lane ∧ r.off = 0x10 ∧ s.laneCfgRefused b.inst data = true) :
    s.acceptWrite m a data unl b r i = s.laneCfgDiscard m b.inst := by
  unfold acceptWrite
  exact if_pos h

end State

/-- What an ignored write of the register at an address shows. -/
structure IgnoreTold (a : Nat) (b : Blk) (s t : State) : Prop where
  kept : t.rd a = s.rd a
  flag : t.get b.cfgIgn = 1
  addr : t.get Reg.MGT.IGNADDR_ADDR = a / 4

theorem answer_regs (m : Nat) (x : BusResp) (s : State) : (s.answer m x).regs = s.regs := by
  simp only [State.answer, State.updMgt]

theorem IgnoreTold.answered {a : Nat} {b : Blk} {s t : State} (h : IgnoreTold a b s t) (m : Nat) (x : BusResp) :
    IgnoreTold a b s (t.answer m x) :=
  ⟨by rw [← h.kept, State.rd, State.rd, answer_regs], (State.get_of_regs (answer_regs m x t) _).trans h.flag,
    (State.get_of_regs (answer_regs m x t) _).trans h.addr⟩

theorem IgnoreTold.of_disarm {a m : Nat} {b : Blk} {s t : State} (h : IgnoreTold a b (s.disarm m) t) : IgnoreTold a b s t :=
  ⟨h.kept, h.flag, h.addr⟩

/-- The waiting of a write and its answer leave the words beside STAT of the block. -/
theorem rd_issued {b : Blk} {a : Nat} (m : Nat) (l : List Landing) (t : State) (ha : a ≠ b.base + 4) :
    ((({ t with landing := l } : State).set b.wpend 1).answer m ⟨0, 0⟩).rd a = t.rd a := by
  rw [State.rd, answer_regs]
  exact State.rd_set_other ({ t with landing := l } : State) 1 (by simpa [Blk.wpend] using ha)

/-- What was told stands when the write waits and is answered. -/
theorem IgnoreTold.issued {a : Nat} {b : Blk} {s t : State} (h : IgnoreTold a b s t) (ha : a ≠ b.base + 4)
    (hb : b.base + 4 ≠ 0x2B00001C) (m : Nat) (l : List Landing) :
    IgnoreTold a b s ((({ t with landing := l } : State).set b.wpend 1).answer m ⟨0, 0⟩) := by
  refine ⟨(rd_issued m l t ha).trans h.kept, ?_, ?_⟩
  · rw [State.get_of_regs (answer_regs _ _ _), State.get_set_other _ _ (FRef.apart_iff.mpr (by simp [Blk.wpend, Blk.cfgIgn]))
      (by simp [Blk.wpend])]
    exact h.flag
  · exact (State.get_of_rd (rd_issued m l t hb.symm)).trans h.addr

namespace Names

variable {a o : Nat} {b : Blk} {r r₀ : RegDef} {x : Nat × Nat}

/-- The pages of a block that is neither MGT nor FLT lie beside the words of theirs that an ignored write touches. -/
theorem told_apart (h : Names a b r o r₀ x) (hr : r.hasRwd = true) {n : Nat} (hn : n < 0x100) :
    b.base + n ≠ 0x2B00001C ∧ b.base + n ≠ 0x2B000020 ∧ (b.base + n < 0x11003000 ∨ 0x11004800 ≤ b.base + n) := by
  obtain ⟨-, -, -, hmgt, hflt⟩ := h.rwd_apart hr
  obtain ⟨-, -, hsize⟩ := b.kind.layout_bounds
  obtain ⟨hlo, hhi⟩ := Blk.page_bounds h.inst (lt_of_lt_of_le hn hsize)
  have hm := BlkKind.pages_apart b.kind .mgt hmgt
  have hf := BlkKind.pages_apart b.kind .flt hflt
  simp only [BlkKind.pagesEnd, BlkKind.layout] at hm hf hlo hhi
  omega

theorem addr_apart (h : Names a b r o r₀ x) (hr : r.hasRwd = true) :
    (a ≠ 0x2B00001C ∧ a ≠ 0x2B000020) ∧ (a < 0x11003000 ∨ 0x11004800 ≤ a) ∧ a ≠ 0x12000034 ∧ a < 2 ^ 32 := by
  obtain ⟨-, -, -, hmgt, hflt⟩ := h.rwd_apart hr
  have hlo := h.lo
  have hhi := h.hi
  have hend := b.kind.layout_bounds.2.1
  have hm := BlkKind.pages_apart b.kind .mgt hmgt
  have hf := BlkKind.pages_apart b.kind .flt hflt
  have ht := BlkKind.pages_apart b.kind .time (h.rwdAlone hr).notTime
  simp only [BlkKind.pagesEnd, BlkKind.layout] at hm hf ht hlo hhi hend
  omega

/-- An ignored write is told, whatever event of the block tells it. -/
theorem told (h : Names a b r o r₀ x) (hr : r.hasRwd = true) (m : Nat) (s : State) {ev : State → State}
    (hev : ∀ c, c = a ∨ c = b.base + 4 ∨ c = 0x2B00001C → ∀ v : State, (ev v).rd c = v.rd c) :
    IgnoreTold a b s (ev (s.ignoreShown m b a)) := by
  obtain ⟨hmgt, -, -, hword⟩ := h.addr_apart hr
  obtain ⟨hcfg, hcnt, -⟩ := h.told_apart hr (n := 4) (by decide)
  refine ⟨(hev a (.inl rfl) _).trans (State.rd_ignoreShown s (h.rwd_apart hr).1 hmgt), ?_, ?_⟩
  · exact (State.get_of_rd (hev _ (.inr (.inl rfl)) _)).trans (State.get_ignoreShown_cfgIgn s ⟨hcfg, hcnt⟩)
  · exact (State.get_of_rd (hev _ (.inr (.inr rfl)) _)).trans (State.get_ignoreShown_ignaddr s hword)

theorem told_cfgIgnored (h : Names a b r o r₀ x) (hr : r.hasRwd = true) (m : Nat) (s : State) :
    IgnoreTold a b s (s.cfgIgnored m b a) := by
  obtain ⟨-, hev, haud, -⟩ := h.rwd_apart hr
  obtain ⟨-, hflt, -⟩ := h.addr_apart hr
  have hfar (n : Nat) (hn : n < 0x100) := h.told_apart hr hn
  rw [State.cfgIgnored_eq]
  refine h.told hr m s (ev := State.cfgIgnoredEvent b a) fun c hc v => ?_
  rcases hc with rfl | rfl | rfl
  · exact State.rd_cfgIgnoredEvent v h.inst hev haud hflt
  · exact State.rd_cfgIgnoredEvent v h.inst (by omega) (fun _ => by omega) (hfar 4 (by decide)).2.2
  · exact State.rd_cfgIgnoredEvent v h.inst (hfar 0xF0 (by decide)).1.symm (fun _ => (hfar 0x18 (by decide)).1.symm) (by decide)

/-- LANE.CFG is discarded whole. -/
theorem told_laneCfgDiscard (h : Names a b r o r₀ x) (hr : r.hasRwd = true) (hk : b.kind = .lane) (hoff : r.off = 0x10)
    (m : Nat) (s : State) : IgnoreTold a b s (s.laneCfgDiscard m b.inst) := by
  have hcfg : ((RegMap.findIn BlkKind.lane.regs o).all fun p => p.1.off != 0x10 || o == 0x10) = true := by
    have hall : (BlkKind.lane.regs.all fun q => q.off != 0x10 || q.dims == []) = true := by decide +kernel
    rw [Option.all_eq_true]
    rintro ⟨q, y⟩ hq
    obtain ⟨hmem, hat⟩ := findIn_mem _ hq
    by_cases hq10 : q.off = 0x10
    · have hdims : q.dims = [] := by simpa [hq10] using List.all_eq_true.mp hall q hmem
      rw [RegDef.at?, hdims] at hat
      by_contra hne
      simp [hq10] at hne hat
      exact hne hat.1
    · simp [hq10]
  have ho : o = 0x10 := by
    have hfound := h.found
    rw [hk] at hfound
    rw [hfound] at hcfg
    simpa [← h.off, hoff] using hcfg
  have hbase := h.base
  have hpage : b.base = 0x24000000 + 0x1000 * b.inst := by rw [Blk.base, hk]; rfl
  have haddr : (Reg.LANE.CFG_RXMODE b.inst).addr = a := by simp only [Reg.LANE.CFG_RXMODE]; omega
  have hflag : Reg.LANE.STAT_CFG_IGN b.inst = b.cfgIgn := by
    rw [Blk.cfgIgn, hpage, Reg.LANE.STAT_CFG_IGN, show 0x24000000 + 0x1000 * b.inst + 4 = 0x24000004 + 0x1000 * b.inst by omega]
  obtain ⟨-, hflt, -⟩ := h.addr_apart hr
  have hev : (Reg.LANE.EVSTAT b.inst).addr = b.base + 0xF0 := by simp only [Reg.LANE.EVSTAT]; omega
  have hshown : s.laneCfgDiscard m b.inst = (s.ignoreShown m b a).laneCause b.inst 1 := by
    rw [State.laneCfgDiscard, hflag, haddr]
    rfl
  rw [hshown]
  refine h.told hr m s (ev := fun v => v.laneCause b.inst 1) fun c hc v => State.rd_cause_other v ?_ ?_
  · rw [hev]
    rcases hc with rfl | rfl | rfl <;> omega
  · rcases hc with rfl | rfl | rfl <;> omega

/-- The issue of an ignored write. -/
theorem exec_ignored {i j : Nat} {m : Nat} {data : Word} {f : Fld} {s : State} (h : Names a b r o r₀ x) (hq : Quiet m s)
    (hfind : RegMap.find a = some (b, r, i, j)) (hen : s.get b.en = 1) (hal : a % 4 = 0) (hf : f ∈ r.flds) (hacc : f.acc = .rwd)
    (hne : bits (s.rd a).toNat f.hi f.lo ≠ bits data.toNat f.hi f.lo) :
    ∃ t, exec (.registerWrite m a 4 data) s = .next t ∧ IgnoreTold a b s t := by
  have hr : r.hasRwd = true := List.any_eq_true.mpr ⟨f, hf, by simp [hacc]⟩
  have hrwd := h.rwdAlone hr
  refine ⟨_, registerWrite_accepted hq hfind hal, IgnoreTold.of_disarm (m := m) ?_⟩
  by_cases hlane : b.kind = .lane ∧ r.off = 0x10 ∧ (s.disarm m).laneCfgRefused b.inst data = true
  · rw [State.acceptWrite_refused hlane]
    exact (h.told_laneCfgDiscard hr hlane.1 hlane.2.1 m (s.disarm m)).answered m ⟨0, 0⟩
  · obtain ⟨l, haccept⟩ := State.acceptWrite_enabled (m := m) (unl := m == 6 || s.armed m) (i := i) hrwd
      (s := s.disarm m) hen (h.addr_apart hr).2.2.1 hf hacc hne hlane
    rw [haccept]
    exact (h.told_cfgIgnored hr m (s.disarm m)).issued (h.rwd_apart hr).1 (h.told_apart hr (n := 4) (by decide)).1 m l

end Names

/-! ### A disabled block takes the data -/

namespace State

/-- The acceptance of a write while the block is disabled holds its RWD fields. -/
theorem acceptWrite_disabled {m a : Nat} {data : Word} {unl : Bool} {b : Blk} {r : RegDef} {i : Nat} {s : State}
    (h : RwdAlone b r) (hen : s.get b.en = 0) (ha : a ≠ 0x12000034) (hlane : b.kind ≠ .lane) (hquad : b.kind ≠ .quad) :
    ∃ (t : State) (l : List Landing), t.rd a = BitVec.ofNat 32 (heldWord b r false unl (s.rd a).toNat data.toNat) ∧
      s.acceptWrite m a data unl b r i = ({ t with landing := l } : State).set b.wpend 1 := by
  have hnone : r.flds.any (fieldIgnored false (s.rd a).toNat data.toNat) = false := by
    rw [List.any_eq_false]
    intro f _
    simp [fieldIgnored]
  have hoff : (r.off == 0) = false := by simpa using h.off
  have ha' : (a == 0x12000034) = false := by simpa using ha
  have hafter (old : Nat) (u : State) : u.heldAfter b r.off old = u := by
    unfold heldAfter
    split
    · next hk => exact absurd hk h.notTime
    · next hk => exact absurd hk hlane
    · next hk => exact absurd hk hquad
    · rfl
  have htaken (c : Bool) (u : State) : (u.when c (takeWide (a - 4))).rd a = u.rd a := when_keeps u (·.rd a) _ _ rfl
  unfold acceptWrite
  simp only [if_neg fun hc : b.kind = .lane ∧ _ => hlane hc.1, if_neg fun hc : b.kind = .time ∧ _ => h.notTime hc.1, hen,
    hnone, h.none_locked, hoff, heldSpecial_none h.judged, when_false, Bool.false_and, show ((0 : Nat) == 1) = false from rfl,
    ite_self, h.domain, Bool.false_eq_true, if_false, ha', hafter]
  refine ⟨_, _, ?_, rfl⟩
  rw [htaken]
  split
  · next hsame =>
    rw [hsame, BitVec.ofNat_toNat, BitVec.setWidth_eq]
  · exact rd_wr_same _ _ _

end State

/-- Settles O7: an RWD field of an enabled block keeps its value and the write is flagged; of a disabled one it takes the data. -/
theorem enabledConfigurationIsIgnored : Obligations.EnabledConfigurationIsIgnored := by
  unfold Obligations.EnabledConfigurationIsIgnored
  refine ⟨?enabled, ?disabled⟩
  case enabled =>
    intro s m a data b r i j f hq hen hfind _ hal hf hacc hne
    obtain ⟨o, r₀, hn⟩ := names_of_find hfind
    obtain ⟨t, hexec, hkept, hflag, haddr⟩ := hn.exec_ignored hq hfind hen hal hf hacc hne
    exact ⟨t, hexec, by rw [hkept], hflag, haddr⟩
  case disabled =>
    intro s m a data b r i j f hq hen hfind _ hal hf hacc _ hlane hquad
    obtain ⟨o, r₀, hn⟩ := names_of_find hfind
    have hr : r.hasRwd = true := List.any_eq_true.mpr ⟨f, hf, by simp [hacc]⟩
    obtain ⟨t, l, hword, haccept⟩ := State.acceptWrite_disabled (m := m) (data := data) (unl := m == 6 || s.armed m) (i := i)
      (s := s.disarm m) (hn.rwdAlone hr) hen (hn.addr_apart hr).2.2.1 hlane hquad
    refine ⟨_, registerWrite_accepted hq hfind hal, ?_⟩
    rw [haccept, rd_issued m l t (hn.rwd_apart hr).1, hword, BitVec.toNat_ofNat, bits_mod_word (hn.bounds hf).2]
    exact State.bits_heldWord_rwd _ _ _ hn.pairwise hf hacc

end Sys2Proof.Machine
end

section
/-! SUPPORT. Writes that wait for their block, and their landing there (R22, R40–R43, R55, R57). -/

namespace Sys2Proof.Machine

namespace State

/-! ### Acceptance -/

/-- What the issue of a write that waits leaves. -/
structure Waits (m addr : Nat) (data : Word) (b : Blk) (s t : State) : Prop where
  landing : t.landing = s.landing ++ [plainLanding m addr data]
  wpend : t.get b.wpend = 1
  words : WordsKept [b.base + 4] s t
  answered : Assoc.find t.mgt.readBack m = some ⟨0, 0⟩
  rest : t = { s with regs := t.regs, mgt := t.mgt, landing := t.landing }

theorem waits_issued {m addr : Nat} {data : Word} {b : Blk} {s : State} (hm : m ≤ 6) :
    Waits m addr data b s
      ((({ s.disarm m with landing := s.landing ++ [plainLanding m addr data] } : State).set b.wpend 1).answer m ⟨0, 0⟩) := by
  have hm7 : m ≠ 7 := by omega
  refine ⟨?_, ?_, fun a ha => ?_, ?_, ?_⟩
  · simp only [answer, updMgt, disarm, set, wr, if_neg hm7]
  · rw [get_of_regs (answer_regs _ _ _), get_set_same _ _ (by simp [Blk.wpend])]
    simp [FRef.width, Blk.wpend]
  · exact rd_issued m _ (s.disarm m) (by simpa using ha)
  · simp only [answer, updMgt, disarm, set, wr, if_neg hm7, Assoc.find_put_same]
  · simp only [answer, updMgt, disarm, set, wr, if_neg hm7]

/-! ### Landing -/

/-- The write of a landing without a soft reset takes effect, and no longer waits. -/
theorem landOldest_write {b : Blk} {l : Landing} {s : State}
    (hl : (s.landing.find? fun x => b.has x.addr && !s.waitsForClock b x) = some l) (hrest : l.rxRest = false)
    (hsrst : l.srst = false) :
    s.landOldest b = (({ s with landing := s.landing.erase l } : State).landWrite l).showWpend b := by
  unfold landOldest
  simp only [hl, hsrst, hrest, Bool.false_and, Bool.false_eq_true, if_false]

theorem landWrite_special {b : Blk} {l : Landing} {r : RegDef} {i j : Nat} {s u : State}
    (hfind : RegMap.find l.addr = some (b, r, i, j)) (hsrst : l.srst = false) (hrise : l.rise = false) (hfall : l.fall = false)
    (hu : s.landSpecial l.m b r.off i l.data = some u) : s.landWrite l = u := by
  unfold landWrite
  simp only [hfind, hsrst, hrise, hfall, when_false, hu]

theorem landWrite_stored {b : Blk} {l : Landing} {r : RegDef} {i j : Nat} {s : State}
    (hfind : RegMap.find l.addr = some (b, r, i, j)) (hsrst : l.srst = false)
    (hnone : s.landSpecial l.m b r.off i l.data = none) :
    s.landWrite l = (((s.landStore r l.addr l.data).landAfter b r.off).when l.rise (raiseEn b l.cap)).when l.fall (lowerEn b) := by
  unfold landWrite
  simp only [hfind, hsrst, when_false, hnone]

/-- Whether a register is more than stored does not depend on the writes that wait. -/
theorem landSpecial_landing {m : Nat} {b : Blk} {o i : Nat} {data : Word} {s : State} (q : List Landing)
    (h : s.landSpecial m b o i data = none) : ({ s with landing := q } : State).landSpecial m b o i data = none := by
  have hlock : ({ s with landing := q } : State).cnvLocked b.inst = s.cnvLocked b.inst := by
    simp only [cnvLocked, flag, get, rd]
  have hpend : ({ s with landing := q } : State).flag Reg.GBUS.STAT_TXPEND = s.flag Reg.GBUS.STAT_TXPEND := by
    simp only [flag, get, rd]
  unfold landSpecial at h ⊢
  rw [hlock, hpend]
  cases hk : b.kind <;> rw [hk] at h <;> dsimp only at h ⊢ <;> split_ifs at h ⊢ <;> rfl

/-- A word after a write was stored by the access codes. -/
theorem rd_landStore_same (r : RegDef) (addr : Nat) (data : Word) (s : State) :
    (s.landStore r addr data).rd addr = BitVec.ofNat 32 (landWord r (s.rd addr).toNat data.toNat) := by
  unfold landStore
  rw [when_keeps _ (·.rd addr)]
  · exact rd_wr_same _ _ _
  · rfl

theorem rd_landStore_other (r : RegDef) {addr a : Nat} (data : Word) (s : State) (h : a ≠ addr) :
    (s.landStore r addr data).rd a = s.rd a := by
  unfold landStore
  rw [when_keeps _ (·.rd a)]
  · exact rd_wr_other _ _ h
  · rfl

theorem landStore_landing (r : RegDef) (addr : Nat) (data : Word) (s : State) :
    (s.landStore r addr data).landing = s.landing := by
  unfold landStore
  rw [when_keeps _ (·.landing)]
  · rfl
  · rfl

/-- Beside the lodestone and the lanes nothing follows a stored write that a register shows. -/
theorem landAfter_regs {b : Blk} (o : Nat) (s : State) (hlode : b.kind ≠ .lode) (hlane : b.kind ≠ .lane) :
    (s.landAfter b o).regs = s.regs ∧ (s.landAfter b o).landing = s.landing := by
  unfold landAfter
  split
  · next hk => exact absurd hk hlode
  · exact ⟨when_keeps _ (·.regs) _ _ rfl, when_keeps _ (·.landing) _ _ rfl⟩
  · next hk => exact absurd hk hlane
  · exact ⟨rfl, rfl⟩

/-- What follows a stored write of the lodestone moves the loop alone. -/
theorem loopMoved_landAfter {b : Blk} (hb : b.kind = .lode) (o : Nat) (s : State) : LoopMoved s (s.landAfter b o) := by
  unfold landAfter
  rw [hb]
  have htable := (LoopMoved.refl s).when (decide (0xA0 ≤ o) && decide (o < 0xE0))
    (f := fun t => t.setB Reg.LODE.STAT_TTBAD (!ascending t.tempTable)) ((LoopMoved.refl s).setB _ (by decide))
  exact htable.when _ htable.reselect

/-- The words of a lane that show the equaliser. -/
theorem landAfter_lane {b : Blk} (hb : b.kind = .lane) (o : Nat) (s : State) : (s.landAfter b o).landing = s.landing ∧
    ∀ a, a ≠ b.base + 0x20 → a ≠ b.base + 0x24 → a ≠ b.base + 0x28 → (s.landAfter b o).rd a = s.rd a := by
  have hbase : b.base = 0x24000000 + 0x1000 * b.inst := by rw [Blk.base, hb]; rfl
  have heq : (s.eqLand b.inst).landing = s.landing := when_keeps _ (·.landing) _ _ rfl
  unfold landAfter
  rw [hb]
  refine ⟨when_keeps _ (·.landing) _ _ heq, fun a h20 h24 h28 => when_keeps _ (·.rd a) _ _ ?_⟩
  refine when_keeps _ (·.rd a) _ _ ?_
  unfold eqOverride showEq
  rw [rd_set_other _ _ (by simp only [Reg.LANE.RXEQ_DFE5]; omega), rd_wr_other _ _ (by simp only [Reg.LANE.RXEQ_DFE1]; omega),
    rd_set_other _ _ (by simp only [Reg.LANE.RXEQ_CTLE]; omega)]

end State

/-! ### The clauses -/

namespace Names

variable {a o : Nat} {b : Blk} {r r₀ : RegDef} {x : Nat × Nat} {f : Fld}

/-- A register with an RW field lies at no offset where the map has a register without one. -/
theorem ne_of_no_rw (h : Names a b r o r₀ x) (hf : f ∈ r.flds) (hacc : f.acc = .rw) {n : Nat}
    (hn : ((RegMap.findIn b.kind.regs n).all fun p => p.1.flds.all fun g => g.acc != .rw) = true) : a ≠ b.base + n := by
  intro ha
  have hbase := h.base
  have hfound := h.found
  rw [show o = n by omega] at hfound
  rw [hfound] at hn
  have hno := List.all_eq_true.mp (show (r₀.flds.all fun g => g.acc != .rw) = true from hn) f (h.fields.subset hf)
  simp [hacc] at hno

theorem not_loopWord (h : Names a b r o r₀ x) (hk : b.kind = .lode) (hf : f ∈ r.flds) (hacc : f.acc = .rw) : a ∉ loopWords := by
  have hinst := h.inst
  rw [hk] at hinst
  have hbase : b.base = 0x13000000 := by
    rw [Blk.base, hk, show b.inst = 0 from Nat.lt_one_iff.mp hinst]
    rfl
  have hnone : ([0x4, 0x64, 0x68, 0x6C, 0x70, 0x90, 0xF0].all fun n =>
      (RegMap.findIn BlkKind.lode.regs n).all fun p => p.1.flds.all fun g => g.acc != .rw) = true := by decide +kernel
  have hne (n : Nat) (hn : n ∈ [0x4, 0x64, 0x68, 0x6C, 0x70, 0x90, 0xF0]) : a ≠ 0x13000000 + n :=
    hbase ▸ h.ne_of_no_rw hf hacc (hk ▸ List.all_eq_true.mp hnone n hn)
  simp only [loopWords, List.mem_cons, List.not_mem_nil, or_false, not_or]
  exact ⟨hne 0x4 (by simp), hne 0x64 (by simp), hne 0x68 (by simp), hne 0x6C (by simp), hne 0x70 (by simp), hne 0x90 (by simp),
    hne 0xF0 (by simp)⟩

theorem not_eqWord (h : Names a b r o r₀ x) (hk : b.kind = .lane) (hf : f ∈ r.flds) (hacc : f.acc = .rw) {n : Nat}
    (hn : n ∈ [0x20, 0x24, 0x28]) : a ≠ b.base + n := by
  have hnone : ([0x20, 0x24, 0x28].all fun n =>
      (RegMap.findIn BlkKind.lane.regs n).all fun p => p.1.flds.all fun g => g.acc != .rw) = true := by decide +kernel
  exact h.ne_of_no_rw hf hacc (hk ▸ List.all_eq_true.mp hnone n hn)

end Names

section
variable {blk i j : Nat} {b : Blk} {l : Landing} {r : RegDef} {s : State}

theorem exec_domainWriteEffect (h : Blk.ofBase blk = some b) : exec (.domainWriteEffect blk) s = .next (s.landOldest b) := by
  refine congrArg Host.Outcome.next ?_
  rw [h]

/-- A stored write, before WPEND is shown. -/
theorem exec_stored (hpage : Blk.ofBase blk = some b)
    (hl : (s.landing.find? fun x => b.has x.addr && !s.waitsForClock b x) = some l)
    (hfind : RegMap.find l.addr = some (b, r, i, j)) (hrest : l.rxRest = false) (hsrst : l.srst = false)
    (hnone : s.landSpecial l.m b r.off i l.data = none) :
    exec (.domainWriteEffect blk) s = .next (((((({ s with landing := s.landing.erase l } : State).landStore r l.addr l.data).landAfter
      b r.off).when l.rise (State.raiseEn b l.cap)).when l.fall (State.lowerEn b)).showWpend b) := by
  rw [exec_domainWriteEffect hpage, State.landOldest_write hl hrest hsrst,
    State.landWrite_stored hfind hsrst (State.landSpecial_landing _ hnone)]

/-- WPEND is shown, and no other word changes. -/
theorem showWpend_facts (u : State) (b : Blk) : (u.showWpend b).landing = u.landing ∧
    (u.showWpend b).get b.wpend = b2n (u.landing.any fun x => b.has x.addr) ∧
    ∀ a, a ≠ b.base + 4 → (u.showWpend b).rd a = u.rd a :=
  ⟨rfl, State.get_setB_same _ _ (by simp [Blk.wpend]) (by simp [Blk.wpend]),
    fun _ ha => State.rd_set_other _ _ (by simpa [Blk.wpend] using ha)⟩

/-- The fields of a register that its domain takes and nothing follows. -/
theorem exec_storedFields {k : Nat} {f : Fld} (hpage : Blk.ofBase blk = some b)
    (hl : (s.landing.find? fun x => b.has x.addr && !s.waitsForClock b x) = some l)
    (hfind : RegMap.find l.addr = some (b, r, i, j)) (hrest : l.rxRest = false) (hrise : l.rise = false) (hfall : l.fall = false)
    (hsrst : l.srst = false) (hnone : s.landSpecial l.m b r.off i l.data = none) (hlode : b.kind ≠ .lode) (hlane : b.kind ≠ .lane)
    (hstat : r.off ≠ 4) (hf : f ∈ r.flds) :
    ∃ t, exec (.domainWriteEffect blk) s = .next t ∧
      (f.acc = .rw → (r.off = 0 → f.lo ≠ 0) → bits (t.rd l.addr).toNat f.hi f.lo = bits l.data.toNat f.hi f.lo) ∧
      (f.acc = .w1c → k < 32 → f.lo ≤ k → k ≤ f.hi →
        (t.rd l.addr).toNat.testBit k = ((s.rd l.addr).toNat.testBit k && !l.data.toNat.testBit k)) ∧
      (f.acc ≠ .rw → f.acc ≠ .w1c → bits (t.rd l.addr).toNat f.hi f.lo = bits (s.rd l.addr).toNat f.hi f.lo) ∧
      t.landing = s.landing.erase l ∧ t.get b.wpend = b2n ((s.landing.erase l).any fun x => b.has x.addr) ∧
      WordsKept [l.addr, b.base + 4] s t := by
  obtain ⟨o, r₀, hn⟩ := names_of_find hfind
  refine ⟨_, exec_stored hpage hl hfind hrest hsrst hnone, ?_⟩
  rw [hrise, hfall, State.when_false, State.when_false]
  have hword := State.rd_landStore_same r l.addr l.data { s with landing := s.landing.erase l }
  have hother (a : Nat) := State.rd_landStore_other r (addr := l.addr) (a := a) l.data { s with landing := s.landing.erase l }
  have hlanding := State.landStore_landing r l.addr l.data { s with landing := s.landing.erase l }
  generalize ({ s with landing := s.landing.erase l } : State).landStore r l.addr l.data = u at hword hother hlanding ⊢
  obtain ⟨hregs, hwait⟩ := State.landAfter_regs r.off u hlode hlane
  have hrd (a : Nat) : (u.landAfter b r.off).rd a = u.rd a := by rw [State.rd, State.rd, hregs]
  generalize u.landAfter b r.off = v at hrd hwait ⊢
  obtain ⟨hshownLanding, hwpend, hshown⟩ := showWpend_facts v b
  have haddr : ((v.showWpend b).rd l.addr).toNat = State.landWord r (s.rd l.addr).toNat l.data.toNat % 2 ^ 32 := by
    rw [hshown _ fun ha => hstat (hn.off_of_stat ha), hrd, hword, BitVec.toNat_ofNat]
    rfl
  rw [haddr]
  refine ⟨fun hacc hctrl => ?_, fun hacc hk hlo hhi => ?_, fun hrw hw1c => ?_, ?_, ?_, fun a ha => ?_⟩
  · rw [bits_mod_word (hn.bounds hf).2]
    exact State.bits_landWord_rw _ _ hn.pairwise hf hacc hctrl
  · rw [Nat.testBit_mod_two_pow, decide_eq_true hk, Bool.true_and]
    exact State.testBit_landWord_w1c _ _ hn.pairwise hf hacc hlo hhi
  · rw [bits_mod_word (hn.bounds hf).2]
    exact State.bits_landWord_kept _ _ hn.pairwise hf hrw hw1c
  · rw [hshownLanding, hwait, hlanding]
  · rw [hwpend, hwait, hlanding]
  · simp only [List.mem_cons, List.not_mem_nil, or_false, not_or] at ha
    rw [hshown a ha.2, hrd, hother a ha.1]
    rfl

/-- An RW field of the lodestone or of a lane takes the data, whatever follows the write. -/
theorem exec_storedField {f : Fld} (hpage : Blk.ofBase blk = some b)
    (hl : (s.landing.find? fun x => b.has x.addr && !s.waitsForClock b x) = some l)
    (hfind : RegMap.find l.addr = some (b, r, i, j)) (hrest : l.rxRest = false) (hrise : l.rise = false) (hfall : l.fall = false)
    (hsrst : l.srst = false) (hnone : s.landSpecial l.m b r.off i l.data = none) (hkind : b.kind = .lode ∨ b.kind = .lane)
    (hctrl : r.off ≠ 0) (hstat : r.off ≠ 4) (hf : f ∈ r.flds) (hacc : f.acc = .rw) :
    ∃ t, exec (.domainWriteEffect blk) s = .next t ∧ bits (t.rd l.addr).toNat f.hi f.lo = bits l.data.toNat f.hi f.lo ∧
      t.landing = s.landing.erase l := by
  obtain ⟨o, r₀, hn⟩ := names_of_find hfind
  refine ⟨_, exec_stored hpage hl hfind hrest hsrst hnone, ?_⟩
  rw [hrise, hfall, State.when_false, State.when_false]
  have hword := State.rd_landStore_same r l.addr l.data { s with landing := s.landing.erase l }
  have hlanding := State.landStore_landing r l.addr l.data { s with landing := s.landing.erase l }
  generalize ({ s with landing := s.landing.erase l } : State).landStore r l.addr l.data = u at hword hlanding ⊢
  have hafter : (u.landAfter b r.off).rd l.addr = u.rd l.addr ∧ (u.landAfter b r.off).landing = u.landing := by
    rcases hkind with hk | hk
    · have hmoved := State.loopMoved_landAfter hk r.off u
      exact ⟨hmoved.words _ (hn.not_loopWord hk hf hacc) (by have hlo := hn.lo; rw [hk] at hlo; exact .inr (le_trans (by decide) hlo)),
        hmoved.landing⟩
    · obtain ⟨hwait, hrd⟩ := State.landAfter_lane hk r.off u
      exact ⟨hrd _ (hn.not_eqWord hk hf hacc (by simp)) (hn.not_eqWord hk hf hacc (by simp)) (hn.not_eqWord hk hf hacc (by simp)), hwait⟩
  obtain ⟨hrd, hwait⟩ := hafter
  generalize u.landAfter b r.off = v at hrd hwait ⊢
  obtain ⟨hshownLanding, -, hshown⟩ := showWpend_facts v b
  refine ⟨?_, by rw [hshownLanding, hwait, hlanding]⟩
  rw [hshown _ fun ha => hstat (hn.off_of_stat ha), hrd, hword, BitVec.toNat_ofNat, bits_mod_word (hn.bounds hf).2]
  exact State.bits_landWord_rw _ _ hn.pairwise hf hacc fun h0 => absurd h0 hctrl

end

/-- A write of CTRL does nothing more than to store, beside what it does to EN and the reset. -/
theorem landSpecial_ctrl (m : Nat) (b : Blk) (i : Nat) (data : Word) (s : State) : s.landSpecial m b 0 i data = none := by
  unfold State.landSpecial
  cases b.kind <;> simp

theorem landAfter_ctrl (b : Blk) (s : State) : s.landAfter b 0 = s := by
  unfold State.landAfter
  cases b.kind <;> simp

section
variable {blk i j : Nat} {b : Blk} {l : Landing} {r : RegDef} {s : State}

theorem exec_ctrl (hpage : Blk.ofBase blk = some b)
    (hl : (s.landing.find? fun x => b.has x.addr && !s.waitsForClock b x) = some l)
    (hfind : RegMap.find l.addr = some (b, r, i, j)) (hrest : l.rxRest = false) (hoff : r.off = 0) (hsrst : l.srst = false) :
    exec (.domainWriteEffect blk) s = .next (((((({ s with landing := s.landing.erase l } : State).landStore r l.addr l.data)).when
      l.rise (State.raiseEn b l.cap)).when l.fall (State.lowerEn b)).showWpend b) := by
  rw [exec_stored hpage hl hfind hrest hsrst (hoff ▸ landSpecial_ctrl l.m b i l.data s), hoff, landAfter_ctrl]

theorem exec_reset (hpage : Blk.ofBase blk = some b)
    (hl : (s.landing.find? fun x => b.has x.addr && !s.waitsForClock b x) = some l)
    (hfind : RegMap.find l.addr = some (b, r, i, j)) (hrest : l.rxRest = false) (hoff : r.off = 0) (hsrst : l.srst = true)
    (hrise : l.rise = false) (hfall : l.fall = false) :
    exec (.domainWriteEffect blk) s = .next (((({ s with landing :=
      (if s.rxClockOff b then s.landing.map (fun x => if x = l then { l with rxRest := true } else x)
        else s.landing.erase l) } : State).softReset b).landStore r l.addr l.data).showWpend b) := by
  rw [exec_domainWriteEffect hpage]
  unfold State.landOldest State.landWrite
  simp only [hl, hsrst, hrest, hrise, hfall, hfind, State.when_true, State.when_false, Bool.not_false, Bool.true_and,
    hoff, landSpecial_ctrl, landAfter_ctrl, Bool.false_eq_true, if_false]

theorem exec_rest (hpage : Blk.ofBase blk = some b)
    (hl : (s.landing.find? fun x => b.has x.addr && !s.waitsForClock b x) = some l) (hrest : l.rxRest = true) :
    exec (.domainWriteEffect blk) s =
      .next ((({ s with landing := s.landing.erase l } : State).softRest b).showWpend b) := by
  rw [exec_domainWriteEffect hpage]
  unfold State.landOldest
  simp only [hl, hrest, Bool.not_true, Bool.and_false, Bool.false_and, Bool.false_eq_true, if_false, if_true]

end

/-- Settles O5: an accepted write waits, and lands as the access codes of its fields say. -/
theorem acceptedWriteWaits : Obligations.AcceptedWriteWaits := by
  unfold Obligations.AcceptedWriteWaits
  refine ⟨?waits, ?stored, ?followed, ?special, ?ctrl, ?reset, ?rest, ?idle⟩
  case waits =>
    intro s m addr data b r i j hq harm hm6 hfind _ hal hside hoff hflds htime hstep
    obtain ⟨o, r₀, hn⟩ := names_of_find hfind
    have hplain : r.plain = true := by
      rw [RegDef.plain, Bool.and_eq_true]
      exact ⟨by simpa using hoff, hflds⟩
    obtain ⟨hheld, hlane⟩ := hn.plain_judged hplain
    have hpend : (addr == 0x12000034) = false := by
      rw [beq_eq_false_iff_ne]
      rintro rfl
      have hfound : (RegMap.find 0x12000034).map (fun x => (x.1.kind, x.2.1.off)) = some (.time, 0x34) := by decide +kernel
      rw [hfind] at hfound
      obtain ⟨hk, ho⟩ := Prod.mk.inj (Option.some.inj hfound)
      exact hstep hk ho
    have hunl : (m == 6 || s.armed m) = false := by simp [hm6, harm]
    have hwaits : State.Waits m addr data b s _ := State.waits_issued (data := data) (b := b) (addr := addr) hq.1
    refine ⟨_, (registerWrite_accepted hq hfind hal).trans ?_, hwaits.landing, hwaits.wpend, hwaits.words, hwaits.answered, hwaits.rest⟩
    rw [State.acceptWrite_plain (s.disarm m) hplain (by tauto) (by tauto) (State.heldSpecial_none hheld m i data _), hside,
      if_neg (by simp), hpend, State.when_false]
    rfl
  case stored =>
    intro s blk k b l r i j f hpage hl hfind hrest hrise hfall hsrst hnone hlode hlane hstat hf
    exact exec_storedFields hpage hl hfind hrest hrise hfall hsrst hnone hlode hlane hstat hf
  case followed =>
    intro s blk b l r i j f hpage hl hfind hrest hrise hfall hsrst hnone hkind hctrl hstat hf hacc
    exact exec_storedField hpage hl hfind hrest hrise hfall hsrst hnone hkind hctrl hstat hf hacc
  case special =>
    intro s u blk b l r i j hpage hl hfind hrest hrise hfall hsrst hu
    refine ⟨_, ?_, rfl⟩
    rw [exec_domainWriteEffect hpage, State.landOldest_write hl hrest hsrst, State.landWrite_special hfind hsrst hrise hfall hu]
  case ctrl => exact fun s blk b l r i j hpage hl hfind hrest hoff hsrst => ⟨_, exec_ctrl hpage hl hfind hrest hoff hsrst, rfl⟩
  case reset =>
    exact fun s blk b l r i j hpage hl hfind hrest hoff hsrst hrise hfall =>
      ⟨_, exec_reset hpage hl hfind hrest hoff hsrst hrise hfall, rfl⟩
  case rest => exact fun s blk b l hpage hl hrest => ⟨_, exec_rest hpage hl hrest, rfl⟩
  case idle =>
    intro s blk b hpage hl
    refine ⟨_, (exec_domainWriteEffect hpage).trans ?_, rfl⟩
    unfold State.landOldest
    simp only [hl]

end Sys2Proof.Machine
end

section
/-! SUPPORT. The update engine (R566–R571): what its requests change, and the boot flash, journal and fuses beside them. -/

namespace Sys2Proof.Machine

/-! ### The boot flash -/

/-- Apart from the journal of the boot flash, the outputs and what raises leave, `t` is `s`. -/
def JournalOnly (s t : State) : Prop :=
  ∃ j a b o, t = { s with flash := { s.flash with journal := j, j2 := a, j3 := b }, out := o }

theorem JournalOnly.trans {s t u : State} (h : JournalOnly s t) (h' : JournalOnly t u) : JournalOnly s u := by
  obtain ⟨_, _, _, _, rfl⟩ := h
  obtain ⟨_, _, _, _, rfl⟩ := h'
  exact ⟨_, _, _, _, rfl⟩

theorem JournalOnly.emit {s t : State} (h : JournalOnly s t) (o : Output) : JournalOnly s (t.emit o) := by
  obtain ⟨_, _, _, _, rfl⟩ := h
  exact ⟨_, _, _, _, rfl⟩

theorem JournalOnly.upd {s t : State} (h : JournalOnly s t) : t.upd = s.upd := by obtain ⟨_, _, _, _, rfl⟩ := h; rfl
theorem JournalOnly.fuses {s t : State} (h : JournalOnly s t) : t.fuses = s.fuses := by obtain ⟨_, _, _, _, rfl⟩ := h; rfl
theorem JournalOnly.flash {s t : State} (h : JournalOnly s t) : ∃ j a b, t.flash = { s.flash with journal := j, j2 := a, j3 := b } := by
  obtain ⟨_, _, _, _, rfl⟩ := h
  exact ⟨_, _, _, rfl⟩
theorem JournalOnly.regs {s t : State} (h : JournalOnly s t) : t.regs = s.regs := by obtain ⟨_, _, _, _, rfl⟩ := h; rfl

namespace State

theorem journalOnly_journalAdd (type sector count ref reason result record : Nat) (s : State) :
    JournalOnly s (s.journalAdd type sector count ref reason result record) := by
  unfold journalAdd
  dsimp only
  split
  · exact ⟨_, _, _, _, rfl⟩
  · exact ⟨_, _, _, _, rfl⟩

theorem journalOnly_eraseUnder (sector count : Nat) (s : State) : JournalOnly s (s.eraseUnder sector count) :=
  ((journalOnly_journalAdd _ _ _ _ _ _ _ s).emit _).trans (journalOnly_journalAdd _ _ _ _ _ _ _ _)

end State

/-! ### What a request can change -/

/-- Only what requests of the update engine and of the key block change differs: registers and records of raises, outputs, the two
blocks, flash and fuses. -/
def RequestOnly (s t : State) : Prop :=
  ∃ r f l o u k fl fu, t = { s with regs := r, flt := f, lastRaise := l, out := o, upd := u, key := k, flash := fl, fuses := fu }

namespace RequestOnly

variable {s t u : State}

theorem refl (s : State) : RequestOnly s s := ⟨_, _, _, _, _, _, _, _, rfl⟩

theorem trans (h : RequestOnly s t) (h' : RequestOnly t u) : RequestOnly s u := by
  obtain ⟨_, _, _, _, _, _, _, _, rfl⟩ := h
  obtain ⟨_, _, _, _, _, _, _, _, rfl⟩ := h'
  exact ⟨_, _, _, _, _, _, _, _, rfl⟩

theorem of_regsOnly (h : RegsOnly s t) : RequestOnly s t := by
  obtain ⟨_, _, _, rfl⟩ := h
  exact ⟨_, _, _, _, _, _, _, _, rfl⟩

theorem of_journalOnly (h : JournalOnly s t) : RequestOnly s t := by
  obtain ⟨_, _, _, _, rfl⟩ := h
  exact ⟨_, _, _, _, _, _, _, _, rfl⟩

theorem set (h : RequestOnly s t) (r : FRef) (v : Nat) : RequestOnly s (t.set r v) := h.trans (of_regsOnly ((RegsOnly.refl _).set r v))
theorem setB (h : RequestOnly s t) (r : FRef) (b : Bool) : RequestOnly s (t.setB r b) := h.set r _
theorem set64 (h : RequestOnly s t) (r q : FRef) (v : Nat) : RequestOnly s (t.set64 r q v) := (h.set r _).set q _
theorem raise (h : RequestOnly s t) (src : Nat) (items : List Nat) : RequestOnly s (t.raise src items) :=
  h.trans (of_regsOnly ((RegsOnly.refl _).raise src items))
theorem updResult (h : RequestOnly s t) (code : Nat) : RequestOnly s (t.updResult code) := (h.set _ _).set _ _
theorem eraseUnder (h : RequestOnly s t) (sector count : Nat) : RequestOnly s (t.eraseUnder sector count) :=
  h.trans (of_journalOnly (t.journalOnly_eraseUnder sector count))

theorem updFlash (h : RequestOnly s t) (f : Flash → Flash) : RequestOnly s (t.updFlash f) := by
  obtain ⟨_, _, _, _, _, _, _, _, rfl⟩ := h
  exact ⟨_, _, _, _, _, _, _, _, rfl⟩

theorem updUpd (h : RequestOnly s t) (f : UpdState → UpdState) : RequestOnly s (t.updUpd f) := by
  obtain ⟨_, _, _, _, _, _, _, _, rfl⟩ := h
  exact ⟨_, _, _, _, _, _, _, _, rfl⟩

theorem fused (h : RequestOnly s t) (f : Fuses) : RequestOnly s { t with fuses := f } := by
  obtain ⟨_, _, _, _, _, _, _, _, rfl⟩ := h
  exact ⟨_, _, _, _, _, _, _, _, rfl⟩

theorem when (h : RequestOnly s t) (c : Bool) {f : State → State} (hf : ∀ v, RequestOnly s v → RequestOnly s (f v)) : RequestOnly s (t.when c f) := by
  cases c
  · exact h
  · exact hf t h

theorem updKey (h : RequestOnly s t) (f : KeyState → KeyState) : RequestOnly s (t.updKey f) := by
  obtain ⟨_, _, _, _, _, _, _, _, rfl⟩ := h
  exact ⟨_, _, _, _, _, _, _, _, rfl⟩

theorem jrp (h : RequestOnly s t) : t.jrp = s.jrp := by obtain ⟨_, _, _, _, _, _, _, _, rfl⟩ := h; rfl
theorem twin (h : RequestOnly s t) : t.twin = s.twin := by obtain ⟨_, _, _, _, _, _, _, _, rfl⟩ := h; rfl
theorem landing (h : RequestOnly s t) : t.landing = s.landing := by obtain ⟨_, _, _, _, _, _, _, _, rfl⟩ := h; rfl

end RequestOnly

namespace State

theorem requestOnly_showKey {s t : State} (h : RequestOnly s t) : RequestOnly s t.showKey :=
  ((((((h.set _ _).set _ _).set _ _).set _ _).setB _ _).setB _ _).setB _ _

theorem requestOnly_blow {s t : State} (h : RequestOnly s t) (f : Fuses → Fuses) (code : Nat) : RequestOnly s (t.blow f code) := by
  unfold blow
  split_ifs
  · exact h
  · exact requestOnly_showKey ((h.fused _).raise _ _)

theorem requestOnly_showUpd {s t : State} (h : RequestOnly s t) : RequestOnly s t.showUpd := by
  have hminsv {u : State} (hu : RequestOnly s u) : RequestOnly s (u.set64 Reg.UPD.MINSVLO Reg.UPD.MINSVHI u.minSv) := hu.set64 _ _ _
  unfold showUpd
  cases t.hdrInForce with
  | none =>
    dsimp only
    split
    · exact (hminsv h).set64 _ _ _
    · exact hminsv h
  | some x =>
    have hhdr := hminsv ((((((h.set Reg.UPD.HDRSEQ x.seq).set Reg.UPD.SLOTS_FWSLOT x.fwSlot).set Reg.UPD.SLOTS_CFGPREF x.cfgPref).set
      Reg.UPD.SLOTS_MODE x.mode).setB Reg.UPD.SLOTS_TRIAL (onTrial x)).set Reg.UPD.SLOTS_ATTEMPTS (attemptsUsed x.attempts))
    dsimp only
    split
    · exact hhdr.set64 _ _ _
    · exact hhdr

end State


namespace State

/-! ### The write that makes a request -/

/-- `t` is `u` with a response handed to the master. -/
def Answers (u t : State) : Prop := ∃ g, t = { u with mgt := g }

namespace Answers

variable {u t : State}

theorem of_answer (m : Nat) (x : BusResp) (u : State) : Answers u (u.answer m x) := ⟨_, rfl⟩

theorem regs (h : Answers u t) : t.regs = u.regs := by obtain ⟨_, rfl⟩ := h; rfl
theorem get (h : Answers u t) (r : FRef) : t.get r = u.get r := get_of_regs h.regs r
theorem upd (h : Answers u t) : t.upd = u.upd := by obtain ⟨_, rfl⟩ := h; rfl
theorem flash (h : Answers u t) : t.flash = u.flash := by obtain ⟨_, rfl⟩ := h; rfl
theorem fuses (h : Answers u t) : t.fuses = u.fuses := by obtain ⟨_, rfl⟩ := h; rfl
theorem raised (h : Answers u t) {src : Nat} (hr : Raised src u) : Raised src t := by obtain ⟨_, rfl⟩ := h; exact hr

end Answers

/-- The row of UPD.CMD in the register map. -/
theorem find_updCmd : RegMap.find Reg.UPD.CMD.addr = some (⟨.upd, 0⟩, ⟨"CMD", 16, [], [⟨3, 0, .wo, .val 0⟩]⟩, 0, 0) := by
  decide +kernel

/-- A request that changes only what requests change is carried out at once, and answered. -/
theorem writeNow_updCmd {m : Nat} {data : Word} {s : State} (hq : Quiet m s)
    (hk : RequestOnly (s.disarm m) ((s.disarm m).updCmdLand data)) :
    Answers ((s.disarm m).updCmdLand data) (s.writeNow m Reg.UPD.CMD.addr data) := by
  obtain ⟨hm, hlock, hland⟩ := hq
  have hbox : (s.disarm m).landWrite (plainLanding m Reg.UPD.CMD.addr data) = (s.disarm m).updCmdLand data :=
    landWrite_some find_updCmd rfl
  rw [writeNow_bus s hm hlock find_updCmd (o := 16) (by decide +kernel) (by decide) (by decide) (by decide) (by decide)
    (.inl (by decide)) (.inl (by decide)) (fun _ => rfl) (by decide) (by rw [hbox, hk.landing]; exact hland), hbox]
  exact Answers.of_answer _ _ _

/-- A request with what the command says of its surroundings is carried out at once, and answered. -/
theorem gated_updCmd {m : Nat} {s : State} (data : Word) (f : State → State) (hq : Quiet m s) :
    Answers (f (s.disarm m)) (s.gated m Reg.UPD.CMD.addr data f) := by
  obtain ⟨hm, hlock, -⟩ := hq
  have hfree : s.lockOf m = none := by rw [lockOf, hlock]; rfl
  have hprot : (s.disarm m).writeProtected m = false := by
    have : (m == 7) = false := by simpa using (by omega : m ≠ 7)
    simp only [writeProtected, this, Bool.false_and]
  unfold gated
  simp only [hfree, hlock, List.any_nil, hprot, Bool.false_eq_true, if_false, Option.isSome_none]
  exact Answers.of_answer _ _ _

/-! ### The result of a request -/

theorem get_updResult_code {code : Nat} (s : State) (h : code < 32) : (s.updResult code).get Reg.UPD.RES_CODE = code := by
  rw [updResult, get_set_other _ _ (by decide) (by decide), get_set_same _ _ (by decide)]
  exact Nat.mod_eq_of_lt h

theorem get_updResult_done (code : Nat) (s : State) : (s.updResult code).get Reg.UPD.RES_DONE = 1 :=
  get_set_same _ _ (by decide)

theorem get_updResult_other {r : FRef} (code : Nat) (s : State) (h : r.addr ≠ 0x2B040030) : (s.updResult code).get r = s.get r := by
  rw [updResult, get_set_other _ _ (FRef.apart_of_addr h) (by decide), get_set_other _ _ (FRef.apart_of_addr h) (by decide)]

/-- A request ends with a code, and the state shown in UPD.STAT. -/
structure UpdDone (code state : Nat) (t : State) : Prop where
  code : t.get Reg.UPD.RES_CODE = code
  done : t.get Reg.UPD.RES_DONE = 1
  state : t.get Reg.UPD.STAT_STATE = state

theorem updDone_updResult {code state : Nat} {s : State} (h : code < 32) (hs : s.get Reg.UPD.STAT_STATE = state) :
    UpdDone code state (s.updResult code) :=
  ⟨get_updResult_code s h, get_updResult_done _ _, (get_updResult_other _ _ (by decide)).trans hs⟩

theorem UpdDone.answers {code state : Nat} {u t : State} (h : UpdDone code state u) (ha : Answers u t) : UpdDone code state t := by
  obtain ⟨hcode, hdone, hstate⟩ := h
  exact ⟨(ha.get _).trans hcode, (ha.get _).trans hdone, (ha.get _).trans hstate⟩

/-- A request begins with DONE cleared. -/
def updStart (s : State) : State := s.set Reg.UPD.RES_DONE 0

theorem get_updStart {r : FRef} (s : State) (h : r.addr ≠ 0x2B040030) : s.updStart.get r = s.get r :=
  get_set_other _ _ (FRef.apart_of_addr h) (by decide)

theorem requestOnly_updStart (s : State) : RequestOnly s s.updStart := (RequestOnly.refl s).set _ _

/-- A request that leaves no restart due. -/
theorem updCmdLand_of {data : Word} {op : Nat} {s u : State} (hop : data.toNat % 16 = op)
    (hu : s.updCmd op s.stagedRead = (u, none)) : s.updCmdLand data = u := by
  rw [updCmdLand, hop, hu]
  rfl

theorem updCmdLand_begin (s : State) : s.updCmdLand 1 = s.updStart.opBegin := updCmdLand_of rfl rfl
theorem updCmdLand_write (s : State) : s.updCmdLand 2 = s.updStart.opWrite := updCmdLand_of rfl rfl
theorem updCmdLand_confirm (s : State) : s.updCmdLand 5 = s.updStart.opConfirm := updCmdLand_of rfl rfl
theorem updCmdLand_abort (s : State) : s.updCmdLand 6 = s.updStart.opUpdAbort := updCmdLand_of rfl rfl

/-- A request made by a plain write: what it does to the state that the issue of the write leaves, answered. -/
theorem exec_updCmd {m : Nat} {data : Word} {s u : State} (hq : Quiet m s) (hu : (s.disarm m).updCmdLand data = u)
    (hk : RequestOnly (s.disarm m) u) : Answers u (s.writeNow m Reg.UPD.CMD.addr data) := by
  subst hu
  exact writeNow_updCmd hq hk

/-! ### BEGIN and ABORT -/

theorem opBegin_busy {s : State} (h : s.trialOpen = true) : s.opBegin = s.updResult 1 := by simp [opBegin, h]

theorem opBegin_none {s : State} (h : s.trialOpen = false) (ha : s.updArg 0 % 4 = 0) : s.opBegin = s.updResult 11 := by
  simp [opBegin, h, ha]

theorem fuses_updFlash (f : Flash → Flash) (s : State) : (s.updFlash f).fuses = s.fuses := rfl

theorem requestOnly_eraseSector {s t : State} (h : RequestOnly s t) (n : Nat) : RequestOnly s (t.eraseSector n) := h.updFlash _

/-- The engine once staging began, with its targets. -/
def begun (a fs cs : Nat) (x : UpdState) : UpdState :=
  { x with fw := bit a 0, cfg := bit a 1, fwSlot := fs, cfgSlot := cs, staged := { bundle := none, signer := none } }

/-- An accepted BEGIN: targets erased, and the engine in staging with its targets. -/
theorem opBegin_accepted {s : State} (h : s.trialOpen = false) (ha : s.updArg 0 % 4 ≠ 0) : ∃ u, RequestOnly s u ∧ u.fuses = s.fuses ∧
    ∃ fs cs, s.opBegin = ((u.updUpd (begun (s.updArg 0) fs cs)).set Reg.UPD.STAT_STATE 1).updResult 0 := by
  have herase (n k : Nat) {v : State} (hv : RequestOnly s v ∧ v.fuses = s.fuses) :
      RequestOnly s ((v.eraseUnder n k).eraseSector n) ∧ ((v.eraseUnder n k).eraseSector n).fuses = s.fuses := by
    refine ⟨requestOnly_eraseSector (hv.1.eraseUnder n k) n, ?_⟩
    rw [eraseSector, fuses_updFlash, (journalOnly_eraseUnder n k v).fuses, hv.2]
  have hwhen (c : Bool) (n k : Nat) {v : State} (hv : RequestOnly s v ∧ v.fuses = s.fuses) :
      RequestOnly s (v.when c fun t => (t.eraseUnder n k).eraseSector n) ∧
        (v.when c fun t => (t.eraseUnder n k).eraseSector n).fuses = s.fuses := by
    cases c
    · exact hv
    · exact herase n k hv
  unfold opBegin
  extract_lets a fw cfg x fs cs fn cn s1 s2
  have h1 : RequestOnly s s1 ∧ s1.fuses = s.fuses := hwhen fw fn 96 ⟨RequestOnly.refl s, rfl⟩
  have h2 : RequestOnly s s2 ∧ s2.fuses = s.fuses := hwhen cfg cn 152 h1
  clear_value s2
  rw [if_neg (by simp [h]), if_neg ha]
  exact ⟨s2, h2.1, h2.2, fs, cs, rfl⟩


theorem requestOnly_opBegin (s : State) : RequestOnly s s.opBegin := by
  by_cases h : s.trialOpen = true
  · rw [opBegin_busy h]
    exact (RequestOnly.refl s).updResult 1
  by_cases ha : s.updArg 0 % 4 = 0
  · rw [opBegin_none (by simpa using h) ha]
    exact (RequestOnly.refl s).updResult 11
  · obtain ⟨u, hu, -, fs, cs, he⟩ := opBegin_accepted (by simpa using h) ha
    rw [he]
    exact ((hu.updUpd _).set _ _).updResult 0

theorem requestOnly_opUpdAbort (s : State) : RequestOnly s s.opUpdAbort := (((RequestOnly.refl s).updUpd _).set _ _).updResult 0

/-! ### WRITE -/

theorem opWrite_refused {s : State} (h : s.updPhase ≠ 1 ∨
      s.targetSize (s.upd.fw && (!s.upd.cfg || bit (s.updArg 0) 0)) < s.updArg 1 + s.updArg 2 ∨
      bit (s.updArg 3) 31 = false ∧ 4096 < s.updArg 2) : s.opWrite = s.updResult 11 := by
  unfold opWrite
  rw [if_pos (by simpa using h)]

/-- The first bytes of the staging buffer. -/
def bufBytes (len : Nat) (s : State) : List Byte :=
  ((List.range 1024).map fun j => leBytes 4 (s.get (Reg.UPD.BUF j))).flatten.take len

/-- An accepted WRITE from the staging buffer. -/
theorem opWrite_accepted {s : State} (hphase : s.updPhase = 1)
    (hsize : s.updArg 1 + s.updArg 2 ≤ s.targetSize (s.upd.fw && (!s.upd.cfg || bit (s.updArg 0) 0)))
    (hbuf : bit (s.updArg 3) 31 = false) (hlen : s.updArg 2 ≤ 4096) :
    s.opWrite = (s.stageBytes (s.upd.fw && (!s.upd.cfg || bit (s.updArg 0) 0)) (s.updArg 1) (s.bufBytes (s.updArg 2))).updResult 0 := by
  have hsource : s.stageSource (s.updArg 2) = (some (s.bufBytes (s.updArg 2)), s) := by
    simp only [stageSource, hbuf, Bool.false_eq_true, if_false, bufBytes]
  unfold opWrite
  rw [if_neg (by simp only [hbuf]; omega), hsource]

theorem leBytes_length (n v : Nat) : (leBytes n v).length = n := by
  induction n generalizing v with
  | zero => rfl
  | succ n ih => simp [leBytes, ih]

theorem leBytes_getElem? {n i : Nat} (v : Nat) (h : i < n) : (leBytes n v)[i]? = some (BitVec.ofNat 8 (v / 256 ^ i)) := by
  induction n generalizing v i with
  | zero => omega
  | succ n ih =>
    cases i with
    | zero => simp [leBytes]
    | succ i => rw [leBytes, List.getElem?_cons_succ, ih _ (by omega), Nat.div_div_eq_div_mul, Nat.pow_succ']

/-- A byte of words laid out one after another. -/
theorem flatten_leBytes_getElem? {n j : Nat} (f : Nat → Nat) (h : j < 4 * n) :
    ((List.range n).map fun k => leBytes 4 (f k)).flatten[j]? = some (BitVec.ofNat 8 (f (j / 4) / 256 ^ (j % 4))) := by
  induction n with
  | zero => omega
  | succ n ih =>
    have hlen : ((List.range n).map fun k => leBytes 4 (f k)).flatten.length = 4 * n := by
      simp [List.length_flatten, Function.comp_def, leBytes_length, Nat.mul_comm]
    rw [List.range_succ, List.map_append, List.flatten_append]
    by_cases hj : j < 4 * n
    · rw [List.getElem?_append_left (by omega), ih hj]
    · have hq : j / 4 = n := by omega
      rw [List.getElem?_append_right (by omega), hlen, hq]
      simp only [List.map_cons, List.map_nil, List.flatten_cons, List.flatten_nil, List.append_nil]
      rw [leBytes_getElem? _ (by omega), show j - 4 * n = j % 4 by omega]

theorem bufBytes_getElem? {len j : Nat} (s : State) (hj : j < len) (hlen : len ≤ 4096) :
    (s.bufBytes len)[j]? = some (BitVec.ofNat 8 (s.get (Reg.UPD.BUF (j / 4)) / 256 ^ (j % 4))) := by
  rw [bufBytes, List.getElem?_take_of_lt hj]
  exact flatten_leBytes_getElem? (fun k => s.get (Reg.UPD.BUF k)) (by omega)

theorem programBytes_below {a at_ : Nat} (b : List (Nat × Byte)) (l : List Byte) (h : a < at_) :
    Assoc.findD (programBytes b at_ l) a 0xFF = Assoc.findD b a 0xFF := by
  induction l generalizing b at_ with
  | nil => rfl
  | cons x l ih => rw [programBytes, ih _ (by omega), Assoc.findD_set_other _ _ _ _ _ _ (by omega)]

/-- A byte programmed reads as programmed. -/
theorem programBytes_at {at_ j : Nat} {x : Byte} (b : List (Nat × Byte)) (l : List Byte) (h : l[j]? = some x) :
    Assoc.findD (programBytes b at_ l) (at_ + j) 0xFF = x := by
  induction l generalizing b at_ j with
  | nil => simp at h
  | cons y l ih =>
    cases j with
    | zero =>
      obtain rfl : y = x := by simpa using h
      rw [Nat.add_zero, programBytes, programBytes_below _ _ (by omega), Assoc.findD_set_same]
    | succ j => rw [programBytes, ← ih (Assoc.set b at_ y 0xFF) h, show at_ + 1 + j = at_ + (j + 1) by omega]

/-- The bytes of the slot that a WRITE programs. -/
def targetBytes (toFw : Bool) (slots : UpdState) (s : State) : List (Nat × Byte) :=
  if toFw then (s.fwSlot slots.fwSlot).bytes else (s.cfgSlot slots.cfgSlot).bytes

theorem targetBytes_stageBytes (toFw : Bool) (at_ : Nat) (l : List Byte) (s : State) :
    (s.stageBytes toFw at_ l).targetBytes toFw s.upd = programBytes (s.targetBytes toFw s.upd) at_ l := by
  simp only [targetBytes, stageBytes, updFlash, fwSlot, cfgSlot]
  cases toFw
  · by_cases h : s.upd.cfgSlot = 0 <;> simp [h]
  · by_cases h : s.upd.fwSlot = 0 <;> simp [h]

/-! ### VERIFY -/

theorem verifyCode_congr {s t : State} (rd : StageRead) (hupd : t.upd = s.upd) (hflash : t.flash = s.flash) (hfuses : t.fuses = s.fuses)
    (hlc : t.lcState = s.lcState) : t.verifyCode rd = s.verifyCode rd := by
  have hsv (b : Bundle) : t.svOk b = s.svOk b := by unfold svOk minSv; rw [hflash, hfuses]
  have hsign (c : CfgSlot) : t.imgSignatureOk c = s.imgSignatureOk c := by
    simp only [imgSignatureOk, ownerKey, ownerState, hflash, hlc]
  have himg (c : CfgSlot) (n r : Nat) : t.imgHeaderCheck c n r = s.imgHeaderCheck c n r := by simp only [imgHeaderCheck, hsign]
  have hslot (n : Nat) : t.cfgSlot n = s.cfgSlot n := by simp only [cfgSlot, hflash]
  have hsize (n : Nat) : t.cfgSlotSize n = s.cfgSlotSize n := by simp only [cfgSlotSize, hupd, hflash]
  have hrel : t.stageRelease rd = s.stageRelease rd := by simp only [stageRelease, hupd]
  simp only [verifyCode, hsv, himg, hslot, hsize, hrel, hupd]

theorem verifyCode_updStart (rd : StageRead) (s : State) : s.updStart.verifyCode rd = s.verifyCode rd :=
  have h := (RegsOnly.refl s).set Reg.UPD.RES_DONE 0
  verifyCode_congr rd h.upd h.flash h.fuses (get_updStart s (by decide))

theorem verifyCode_lt (rd : StageRead) (s : State) : s.verifyCode rd < 32 := by
  have hite (c : Prop) [Decidable c] {a b : Nat} (ha : a < 32) (hb : b < 32) : (if c then a else b) < 32 := by split_ifs <;> assumption
  unfold verifyCode
  refine hite _ (by decide) (hite _ (by decide) ?_)
  split
  · decide
  · exact hite _ (by decide) (hite _ (by decide) (by decide))

theorem upd_updUpd (f : UpdState → UpdState) (s : State) : (s.updUpd f).upd = f s.upd := rfl

theorem upd_updFlash (f : Flash → Flash) (s : State) : (s.updFlash f).upd = s.upd := rfl

theorem upd_when_updFlash (c : Bool) (f : State → Flash → Flash) (s : State) : (s.when c fun t => t.updFlash (f t)).upd = s.upd :=
  when_keeps s State.upd c _ (upd_updFlash (f s) s)

theorem keepStaged_upd (rd : StageRead) (s : State) : (s.keepStaged rd).upd = { s.upd with staged := rd } := by
  unfold keepStaged
  extract_lets s1 s2
  have h2 : s2.upd = s1.upd := upd_when_updFlash _ _ _
  have h1 : s1.upd = { s.upd with staged := rd } := upd_updUpd _ _
  clear_value s2 s1
  rw [← h1, ← h2]
  split
  · exact upd_updFlash _ _
  · rfl

theorem raised_set {src : Nat} {s : State} (h : Raised src s) (r : FRef) (v : Nat) : Raised src (s.set r v) := h

theorem raised_updResult {src : Nat} {s : State} (h : Raised src s) (code : Nat) : Raised src (s.updResult code) :=
  raised_set (raised_set h _ _) _ _

theorem opVerify_idle {s : State} (rd : StageRead) (h : s.updPhase ≠ 1) : s.opVerify rd = s.updResult 11 := by
  rw [opVerify, if_pos h]

/-- What a VERIFY that passes leaves. -/
theorem opVerify_passes {s : State} {rd : StageRead} (h : s.updPhase = 1) (hc : s.verifyCode rd = 0) :
    UpdDone 0 2 (s.opVerify rd) ∧ Raised 109 (s.opVerify rd) ∧ (s.opVerify rd).upd = { s.upd with staged := rd } := by
  have he : s.opVerify rd =
      (((s.keepStaged rd).set Reg.UPD.STAT_STATE 2).raise 109 [b2n s.upd.fw, b2n s.upd.cfg]).updResult 0 := by
    rw [opVerify, if_neg (not_not.mpr h)]
    simp only [hc, if_true]
  rw [he]
  refine ⟨updDone_updResult (by decide) ?_, raised_updResult (raised_raise _ _ (by decide)) 0, ?_⟩
  · rw [get_raise _ _ _ (by decide)]
    exact get_set_same _ _ (by decide)
  · have honly : RegsOnly (s.keepStaged rd) ((((s.keepStaged rd).set Reg.UPD.STAT_STATE 2).raise 109
        [b2n s.upd.fw, b2n s.upd.cfg]).updResult 0) := ((((RegsOnly.refl _).set _ _).raise _ _).set _ _).set _ _
    rw [honly.upd, keepStaged_upd]

/-- What a VERIFY that fails leaves. -/
theorem opVerify_fails {s : State} {rd : StageRead} (h : s.updPhase = 1) (hc : s.verifyCode rd ≠ 0) :
    UpdDone (s.verifyCode rd) 0 (s.opVerify rd) ∧ Raised 110 (s.opVerify rd) ∧ RegsOnly s (s.opVerify rd) := by
  have he : s.opVerify rd =
      (((s.when (s.verifyCode rd == 29) (State.raise 115 [])).raise 110 [s.verifyCode rd]).set Reg.UPD.STAT_STATE 0).updResult
        (s.verifyCode rd) := by
    rw [opVerify, if_neg (not_not.mpr h)]
    simp only [hc, if_false]
  rw [he]
  have honly : RegsOnly s (s.when (s.verifyCode rd == 29) (State.raise 115 [])) :=
    (RegsOnly.refl s).when _ fun _ hu => hu.raise _ _
  exact ⟨updDone_updResult (verifyCode_lt rd s) (get_set_same _ _ (by decide)), raised_updResult (raised_set (raised_raise _ _ (by decide)) _ _) _,
    (((honly.raise _ _).set _ _).set _ _).set _ _⟩




/-! ### CONFIRM -/

theorem regsOnly_set64 {s t : State} (h : RegsOnly s t) (r q : FRef) (v : Nat) : RegsOnly s (t.set64 r q v) := (h.set r _).set q _

theorem regsOnly_showUpd (s : State) : RegsOnly s s.showUpd := by
  have hhdr (h : BootHdr) : RegsOnly s ((((((s.set Reg.UPD.HDRSEQ h.seq).set Reg.UPD.SLOTS_FWSLOT h.fwSlot).set
      Reg.UPD.SLOTS_CFGPREF h.cfgPref).set Reg.UPD.SLOTS_MODE h.mode).setB Reg.UPD.SLOTS_TRIAL (onTrial h)).set
      Reg.UPD.SLOTS_ATTEMPTS (attemptsUsed h.attempts)) :=
    ((((((RegsOnly.refl s).set _ _).set _ _).set _ _).set _ _).setB _ _).set _ _
  unfold showUpd
  extract_lets s1 s2
  have h1 : RegsOnly s s1 := by
    show RegsOnly s (match s.hdrInForce with | some _ => _ | none => _)
    split
    · exact hhdr _
    · exact RegsOnly.refl s
  have h2 : RegsOnly s s2 := regsOnly_set64 h1 _ _ _
  clear_value s2 s1
  split
  · exact regsOnly_set64 h2 _ _ _
  · exact h2

/-- Blowing fuses leaves the engine and the flash. -/
theorem blow_kept (f : Fuses → Fuses) (code : Nat) (s : State) : (s.blow f code).upd = s.upd ∧ (s.blow f code).flash = s.flash := by
  unfold blow
  split_ifs
  · exact ⟨rfl, rfl⟩
  · have h (u : State) : RegsOnly u u.showKey :=
      ((((((((RegsOnly.refl u).set _ _).set _ _).set _ _).set _ _).setB _ _).setB _ _).setB _ _)
    have hraise (u : State) : RegsOnly u (u.raise 125 [code]).showKey := ((RegsOnly.refl u).raise _ _).trans (h _)
    exact ⟨(hraise _).upd, (hraise _).flash⟩

/-- The engine once a trial is confirmed. -/
def confirmed (x : UpdState) : UpdState := { x with trialEnd := none }

/-- An accepted CONFIRM: the header is confirmed, MINSV rises, and the event. -/
theorem opConfirm_accepted {s : State} {h : BootHdr} {b : Bundle} (hh : s.hdrInForce = some h) (hb : s.upd.running = some b)
    (htrial : onTrial h = true) (hvalid : h.valid = 0xFFFFFFFF) : ∃ u, RequestOnly s u ∧ u.upd = confirmed s.upd ∧
      u.flash = { (s.putHdr s.upd.hdr { h with confirm := 0 }).flash with minsv := (max s.minSv b.secver, max s.minSv b.secver) } ∧
      s.opConfirm = ((u.showUpd.set Reg.UPD.TRIALLEFT 0).raise 113 [h.seq]).updResult 0 := by
  have hsv : ((s.putHdr s.upd.hdr { h with confirm := 0 }).updUpd confirmed).minSv = s.minSv := by
    simp only [minSv, putHdr, updFlash, updUpd]
    split_ifs <;> rfl
  unfold opConfirm
  rw [hh, hb]
  dsimp only
  rw [if_pos ⟨htrial, hvalid⟩]
  refine ⟨_, ?_, ?_, ?_, rfl⟩
  · exact each_inv _ (RequestOnly s) _ _ (fun _ _ ht => requestOnly_blow ht _ _) ((((RequestOnly.refl s).updFlash _).updUpd _).updFlash _)
  · rw [each_keeps _ State.upd _ _ fun k t => (blow_kept _ _ t).1]
    rfl
  · rw [each_keeps _ State.flash _ _ fun k t => (blow_kept _ _ t).2]
    exact congrArg (fun n => { (s.putHdr s.upd.hdr { h with confirm := 0 }).flash with minsv := (max n b.secver, max n b.secver) }) hsv

theorem opConfirm_refused {s : State} (h : s.trialOpen = false) : s.opConfirm = s.updResult 11 := by
  unfold opConfirm
  unfold trialOpen at h
  cases hh : s.hdrInForce with
  | none => rfl
  | some x =>
    rw [hh] at h
    cases s.upd.running with
    | none => rfl
    | some b => exact if_neg fun hx => by simp [hx.1] at h

/-! ### COMMIT -/

theorem opUpdCommit_refused {s : State} (h : s.commitCode ≠ 0) : s.opUpdCommit = (s.updResult s.commitCode, none) := if_pos h

theorem commitCode_lt (s : State) : s.commitCode < 32 := by
  unfold commitCode
  split_ifs <;> decide

/-- The header that a COMMIT writes, over the one in force. -/
def trialHdr (old : BootHdr) (s : State) : BootHdr :=
  { seq := old.seq + 1, parts := old.parts, fwSlot := if s.upd.fw then s.upd.fwSlot else old.fwSlot,
    cfgPref := if s.upd.cfg then s.upd.cfgSlot else old.cfgPref, mode := s.updArg 0 % 2, trial := true, trialWin := s.updArg 1,
    trialMax := s.updArg 2 % 16, valid := 0xFFFFFFFF, confirm := 0xFFFFFFFF, attempts := 0xFFFFFFFF }

/-- An accepted COMMIT writes its header to the sector that is not in force, and leaves a restart due. -/
theorem opUpdCommit_accepted {s : State} {old : BootHdr} (h : s.commitCode = 0) (hh : s.hdrInForce = some old) :
    s.opUpdCommit = ((((((s.set Reg.UPD.STAT_STATE 3).eraseUnder (if s.upd.hdr = 0 then 1 else 0) 1).putHdr
      (if s.upd.hdr = 0 then 1 else 0) (s.trialHdr old)).raise 111 [if s.upd.hdr = 0 then 1 else 0]).updResult 0),
      some (if s.upd.fw then 3 else 4)) := by
  have hupd (k : Nat) : (((s.set Reg.UPD.STAT_STATE 3).eraseUnder k 1).putHdr k (s.trialHdr old)).upd = s.upd := by
    rw [putHdr, upd_updFlash, (journalOnly_eraseUnder _ _ _).upd]
    exact ((RegsOnly.refl s).set _ _).upd
  rw [opUpdCommit, hh, if_neg (not_not.mpr h)]
  exact Prod.ext rfl (congrArg (fun u : UpdState => some (if u.fw then 3 else 4)) (hupd _))

/-! ### A request as the write of UPD.CMD makes it -/

/-- `u` is `s` as a request finds it: issued, and DONE cleared. -/
structure Begins (s u : State) : Prop where
  upd : u.upd = s.upd
  flash : u.flash = s.flash
  fuses : u.fuses = s.fuses
  window : u.windowOpen = s.windowOpen
  get : ∀ r : FRef, r.addr ≠ 0x2B040030 → u.get r = s.get r
  kept : RegsKept [.upd] s u

theorem begins_updStart (m : Nat) (s : State) : Begins s (s.disarm m).updStart := by
  have h := (RegsOnly.refl (s.disarm m)).set Reg.UPD.RES_DONE 0
  have hdisarm : (s.disarm m).regs = s.regs := rfl
  exact ⟨h.upd, h.flash, h.fuses, by rw [windowOpen, windowOpen, updStart, h.key, h.now]; rfl,
    fun r hr => (get_updStart _ hr).trans (get_of_regs hdisarm r),
    ((RegsKept.refl [.upd] s).same hdisarm).set _ (outside_page .upd (by simp) (by decide) (by decide))⟩

namespace Begins

variable {s u : State}

theorem arg (h : Begins s u) {j : Nat} (hj : j < 4) : u.updArg j = s.get (Reg.UPD.ARG j) :=
  h.get _ (by simp only [Reg.UPD.ARG]; omega)

theorem phase (h : Begins s u) : u.updPhase = s.get Reg.UPD.STAT_STATE := h.get _ (by decide)

theorem hdr (h : Begins s u) : u.hdrInForce = s.hdrInForce := by simp only [hdrInForce, h.upd, h.flash]

theorem trial (h : Begins s u) : u.trialOpen = s.trialOpen := by rw [trialOpen, trialOpen, h.hdr]

theorem size (h : Begins s u) (w : Bool) : u.targetSize w = s.targetSize w := by
  simp only [targetSize, cfgSlotSize, h.upd, h.flash]

theorem verify (h : Begins s u) (rd : StageRead) : u.verifyCode rd = s.verifyCode rd :=
  verifyCode_congr rd h.upd h.flash h.fuses (h.get _ (by decide))

theorem commit (h : Begins s u) : u.commitCode = s.commitCode := by
  simp only [commitCode, commitArgsOk, h.trial, h.phase, h.window, h.arg (by decide : 1 < 4), h.arg (by decide : 2 < 4)]
  rfl

theorem minSv (h : Begins s u) : u.minSv = s.minSv := by simp only [State.minSv, h.flash]

end Begins




/-! ### What a restart keeps -/

/-- The boot flash and the fuses of `t` are those of `s`. -/
structure Stored (s t : State) : Prop where
  flash : t.flash = s.flash
  fuses : t.fuses = s.fuses

namespace Stored

variable {s t u : State}

theorem refl (s : State) : Stored s s := ⟨rfl, rfl⟩

theorem trans (h : Stored s t) (h' : Stored t u) : Stored s u := ⟨h'.flash.trans h.flash, h'.fuses.trans h.fuses⟩

theorem of_regsOnly (h : RegsOnly s t) : Stored s t := ⟨h.flash, h.fuses⟩

theorem of_struck (h : Struck s t) : Stored s t := by obtain ⟨_, _, _, _, rfl⟩ := h.only; exact ⟨rfl, rfl⟩

theorem ite {c : Prop} [Decidable c] (ht : Stored s t) (hu : Stored s u) : Stored s (if c then t else u) := by
  split
  · exact ht
  · exact hu

theorem set (h : Stored s t) (r : FRef) (v : Nat) : Stored s (t.set r v) := h.trans (of_regsOnly ((RegsOnly.refl t).set r v))

theorem when (h : Stored s t) (c : Bool) {f : State → State} (hf : ∀ v, Stored v (f v)) : Stored s (t.when c f) := by
  cases c
  · exact h
  · exact h.trans (hf t)

theorem each {α : Type} (h : Stored s t) (l : List α) {f : α → State → State} (hf : ∀ x v, Stored v (f x v)) :
    Stored s (t.each l f) := each_inv t (Stored s) f l (fun x v hv => hv.trans (hf x v)) h

end Stored

theorem stored_raise (src : Nat) (items : List Nat) (s : State) : Stored s (s.raise src items) :=
  .of_regsOnly ((RegsOnly.refl s).raise src items)

theorem stored_updFlt (f : FltState → FltState) (s : State) : Stored s (s.updFlt f) := ⟨rfl, rfl⟩

theorem stored_updJrp (f : JrpState → JrpState) (s : State) : Stored s (s.updJrp f) := ⟨rfl, rfl⟩

theorem stored_updMgt (f : MgtState → MgtState) (s : State) : Stored s (s.updMgt f) := ⟨rfl, rfl⟩

theorem stored_updEgr (e : Nat) (f : Egress → Egress) (s : State) : Stored s (s.updEgr e f) := ⟨rfl, rfl⟩

theorem stored_twinEvent (n : Nat) (items : List Nat) (s : State) : Stored s (s.twinEvent n items) :=
  .of_regsOnly ((RegsOnly.refl s).eventEn _ _ _ _ _)

theorem stored_closeSession (id : Nat) (s : State) : Stored s (s.closeSession id) := by
  unfold closeSession
  split
  · exact .refl s
  · exact stored_updJrp _ s

theorem stored_closeSessions (s : State) : Stored s s.closeSessions := (Stored.refl s).each _ fun _ t => stored_closeSession _ t

theorem stored_twinEnter (st : Nat) (s : State) : Stored s (s.twinEnter st) := by
  unfold twinEnter
  exact .ite (.refl s) ((((((Stored.refl s).when _ stored_closeSessions).when _ (stored_updJrp _)).set _ _).set _ _).trans
    (stored_twinEvent _ _ _))

theorem stored_lowerClaim (why : Nat) (s : State) : Stored s (s.lowerClaim why) :=
  .ite ((stored_twinEnter _ s).trans (stored_twinEvent _ _ _)) (.refl s)

theorem stored_imposeSafe (s : State) : Stored s s.imposeSafe :=
  ((Stored.refl s).each _ fun _ t => (((Stored.refl t).set _ _).set _ _).trans (stored_updEgr _ _ _)).set _ _

theorem stored_stopAlive (s : State) : Stored s s.stopAlive :=
  .ite ((Stored.refl s).set _ _) (.ite ((Stored.refl s).set _ _) (.refl s))

theorem stored_sramPut (a : Nat) (bytes : List Byte) (s : State) : Stored s (s.sramPut a bytes) :=
  (stored_updMgt _ s).when _ fun t => (Stored.refl t).each _ fun _ u => .of_struck (struck_chkinvStruckAt _ _ u)

theorem stored_histPut (k : Nat) (e : Entered) (s : State) : Stored s (s.histPut k e) := by
  refine Stored.trans ?_ (.of_struck (struck_chkinvStruckAt _ _ _))
  exact (((((((((((Stored.refl s).set _ _).set _ _).set _ _).set _ _).set _ _).set _ _).set _ _).set _ _).set _ _).set _ _).set _ _

theorem stored_histAdd (e : Entered) (s : State) : Stored s (s.histAdd e) :=
  (((stored_histPut _ e s).when _ (stored_histPut 0 e)).set _ _).set _ _

theorem stored_notifyEvent (seq src sev data time merged : Nat) (s : State) : Stored s (s.notifyEvent seq src sev data time merged) := by
  unfold notifyEvent notify
  exact stored_updJrp _ s

theorem stored_logWrite (e : Entered) (s : State) : Stored s (s.logWrite e) :=
  (((stored_sramPut _ _ s).set _ _).set _ _).trans (stored_notifyEvent _ _ _ _ _ _ _)

theorem stored_occupy (e : Entered) (react : Nat) (s : State) : Stored s (s.occupy e react) := by
  unfold occupy
  exact ((((((Stored.refl s).set _ _).set _ _).set _ _).set _ _).set _ _).trans (stored_updFlt _ _)

theorem stored_stepTarget (step : Nat) (s : State) : Stored s (s.stepTarget step) := by
  unfold stepTarget
  split
  · exact stored_lowerClaim _ s
  · exact stored_imposeSafe s
  · exact stored_stopAlive s

theorem stored_stepLost (step : Nat) (s : State) : Stored s (s.stepLost step) := by
  have hfresh : Stored s s.fresh.2 := ⟨rfl, rfl⟩
  unfold stepLost
  extract_lets +onlyGivenNames q1
  split
  · exact hfresh
  · split
    · exact hfresh.trans (stored_lowerClaim _ _)
    · exact (hfresh.trans (stored_imposeSafe _)).set _ _
    · exact hfresh

theorem stored_runSteps (noAck l : List Nat) (s : State) : Stored s (s.runSteps noAck l) := by
  induction l generalizing s with
  | nil => exact .refl s
  | cons k ks ih => exact .ite ((stored_stepLost k s).trans (stored_updFlt _ _)) ((stored_stepTarget k s).trans (ih _))

theorem stored_enterRecord (e : EntryErrors) (p : PendRec) (s : State) : Stored s (s.enterRecord e p) := by
  have hset (r : FRef) (v : Nat) (t : State) : Stored t (t.set r v) := (Stored.refl t).set r v
  unfold enterRecord
  extract_lets cfg react suppr x s1 s2 s3 s4
  have h4 : Stored s s4 := ((((stored_updFlt _ s).set _ _).when _ (hset _ _)).when _ (stored_histAdd x)).when _ (stored_logWrite x)
  clear_value s4
  refine .ite (h4.set _ _) (.ite ?_ h4)
  exact (h4.trans (stored_occupy _ _ _)).trans (stored_runSteps _ _ _)

theorem stored_enterNext (e : EntryErrors) (s : State) : Stored s (s.enterNext e) := by
  unfold enterNext
  split
  · exact stored_enterRecord _ _ s
  · exact .refl s

theorem stored_enterAll (n : Nat) (s : State) : Stored s (s.enterAll n) := by
  induction n generalizing s with
  | zero => exact .refl s
  | succ n ih => exact (stored_enterNext _ s).trans (ih _)

theorem stored_markHistory (s : State) : Stored s s.markHistory :=
  (Stored.refl s).each _ fun _ t => .ite ((Stored.refl t).set _ _) (.refl t)

theorem stored_fresh (s : State) : Stored s s.fresh.2 := ⟨rfl, rfl⟩

theorem stored_resetAll (s : State) : Stored s s.resetAll := by
  have hdraw (old : Nat) (t : State) : Stored t (t.drawEpoch old) := (stored_fresh t).set _ _
  have hpins (t : State) : Stored t (State.keepPins s t) := ((((Stored.refl t).set _ _).set _ _).set _ _).set _ _
  unfold resetAll
  show Stored s (State.drawEpoch _ (State.keepPins s _))
  refine Stored.trans (Stored.trans ?_ (hpins _)) (hdraw _ _)
  exact ⟨rfl, rfl⟩

theorem stored_resetWarm (cause : Nat) (s : State) : Stored s (s.resetWarm cause) := by
  have h : Stored s s.closeSessions.resetAll := (stored_closeSessions s).trans (stored_resetAll _)
  have hwr (p : Nat × Word) (u : State) : Stored u (u.wr p.1 p.2) := ⟨rfl, rfl⟩
  have hend {u : State} (hu : Stored s u) (l : List (Nat × Word)) (v : Nat) :
      Stored s (((u.each l fun p u => u.wr p.1 p.2).set Reg.FLT.STAT_LOSS v).set Reg.MGT.RSTCAUSE cause).markHistory :=
    (((hu.each l hwr).set _ _).set _ _).trans (stored_markHistory _)
  have hover {u v : State} (hu : Stored s u) (hflash : v.flash = u.flash) (hfuses : v.fuses = u.fuses) : Stored s v :=
    ⟨hflash.trans hu.flash, hfuses.trans hu.fuses⟩
  unfold resetWarm
  apply hend
  exact hover h rfl rfl

theorem get_resetWarm_cause (s : State) : (s.resetWarm 3).get Reg.MGT.RSTCAUSE = 3 := by
  have hmark (t : State) : t.markHistory.get Reg.MGT.RSTCAUSE = t.get Reg.MGT.RSTCAUSE :=
    each_inv_mem t (fun u => u.get Reg.MGT.RSTCAUSE = t.get Reg.MGT.RSTCAUSE) _ _ (fun k hk u hu => by
      have hk16 := List.mem_range.mp hk
      split_ifs
      · rw [get_set_other _ _ (FRef.apart_of_addr (by simp only [Reg.MGT.RSTCAUSE, Reg.FLT.HIST_PRE]; omega))
          (by decide : (27 : Nat) < 32), hu]
      · exact hu) rfl
  unfold resetWarm
  rw [hmark]
  exact get_set_same _ _ (by decide)




/-! ### A start that finds no firmware to boot -/

/-- Flash and fuses of `t` are those of `s`, and so is the cause of the last restart. -/
structure CauseStored (s t : State) : Prop where
  stored : Stored s t
  cause : t.get Reg.MGT.RSTCAUSE = s.get Reg.MGT.RSTCAUSE

namespace CauseStored

variable {s t : State}

theorem refl (s : State) : CauseStored s s := ⟨.refl s, rfl⟩

theorem trans {u : State} (h : CauseStored s t) (h' : CauseStored t u) : CauseStored s u :=
  ⟨h.stored.trans h'.stored, h'.cause.trans h.cause⟩

theorem wr (h : CauseStored s t) {a : Nat} (w : Word) (ha : a ≠ 0x2B000018) : CauseStored s (t.wr a w) :=
  ⟨h.stored.trans ⟨rfl, rfl⟩, (get_wr_other _ _ ha.symm).trans h.cause⟩

theorem set (h : CauseStored s t) {r : FRef} (v : Nat) (hr : r.addr ≠ 0x2B000018) : CauseStored s (t.set r v) := h.wr _ hr

theorem setB (h : CauseStored s t) {r : FRef} (b : Bool) (hr : r.addr ≠ 0x2B000018) : CauseStored s (t.setB r b) := h.wr _ hr

theorem raise (h : CauseStored s t) (src : Nat) (items : List Nat) : CauseStored s (t.raise src items) :=
  ⟨h.stored.trans (stored_raise _ _ _), (get_raise _ _ _ (by decide)).trans h.cause⟩

theorem updUpd (h : CauseStored s t) (f : UpdState → UpdState) : CauseStored s (t.updUpd f) :=
  ⟨h.stored.trans ⟨rfl, rfl⟩, (get_of_regs rfl _).trans h.cause⟩

theorem each {α : Type} (h : CauseStored s t) (l : List α) {f : α → State → State}
    (hf : ∀ x v, CauseStored s v → CauseStored s (f x v)) : CauseStored s (t.each l f) := each_inv t (CauseStored s) f l hf h

end CauseStored

theorem causeStored_tapJudge (s : State) : CauseStored s s.tapJudge := ⟨⟨rfl, rfl⟩, get_of_regs rfl _⟩

theorem causeStored_showKey {s t : State} (h : CauseStored s t) : CauseStored s t.showKey :=
  ((((((h.set _ (by decide)).set _ (by decide)).set _ (by decide)).set _ (by decide)).setB _ (by decide)).setB _ (by decide)).setB _
    (by decide)

theorem causeStored_stopAlive {s t : State} (h : CauseStored s t) : CauseStored s t.stopAlive := by
  unfold stopAlive
  split_ifs
  · exact h.set _ (by decide)
  · exact h.set _ (by decide)
  · exact h

/-- The identity stands: a start shows it, and stores nothing. -/
theorem causeStored_startIdentity {s t : State} (h : CauseStored s t) (hid : s.fuses.idgen = true) :
    CauseStored s t.startIdentity := by
  unfold startIdentity
  extract_lets +onlyGivenNames s1 s2 q s3 s4
  have h1 : CauseStored s s1 := (h.set _ (by decide)).trans (causeStored_tapJudge _)
  have h2 : CauseStored s s2 := by
    show CauseStored s (match lcRecord s1.flash with | some (_, _) => _ | none => _)
    split
    · exact h1.set _ (by decide)
    · exact h1
  have h3 : s3 = s2 := by
    refine if_neg fun hx => ?_
    rw [h2.stored.fuses, hid] at hx
    simp at hx
  have h4 : CauseStored s s4 := by
    rw [← h3] at h2
    show CauseStored s (match s3.flash.blob.first with | .good (some _) => _ | _ => _)
    split
    · exact (((h2.each _ fun j v hv => hv.set _ (by simp only [Reg.KEY.IDPUB]; omega)).set _ (by decide)).set _ (by decide)).set _
        (by decide)
    · exact h2.setB _ (by decide)
  clear_value s4
  exact causeStored_showKey (h4.each _ fun p v hv => hv.wr _ (by simp only [Reg.KEY.CERT]; omega))

/-- Neither firmware slot has a header. -/
theorem bootChoice_none {s : State} (ha : s.flash.fwA.head = .blank) (hb : s.flash.fwB.head = .blank) : s.bootChoice = 2 := by
  have hboot (h : BootHdr) : s.bootable h = none := by
    unfold bootable fwSlot
    split_ifs
    · rw [ha]
    · rw [hb]
  have hnone (k : Nat) : s.hdrBoots k = false := by
    unfold hdrBoots
    split
    · rw [hboot, Option.isSome_none, Bool.and_false]
    · rfl
  simp only [bootChoice, hnone, Bool.and_false, Bool.false_eq_true, if_false]

/-- The chip is dead: no header boots. -/
theorem bootHdr_dead {s t : State} (h : CauseStored s t) (ha : s.flash.fwA.head = .blank) (hb : s.flash.fwB.head = .blank) :
    CauseStored s t.bootHdr ∧ t.bootHdr.upd.dead = true := by
  have hchoice : (if t.flash.octal then t.bootChoice else 2) = 2 := by
    rw [bootChoice_none (h.stored.flash ▸ ha) (h.stored.flash ▸ hb), ite_self]
  have he : t.bootHdr = (t.stopAlive).updUpd fun u => { u with dead := true, hdr := 2 } := by
    unfold bootHdr
    simp only [hchoice, le_refl, if_true]
  rw [he]
  exact ⟨(causeStored_stopAlive h).updUpd _, rfl⟩

/-- A start after a restart by the firmware, with the identity made and no firmware to boot, ends there. -/
theorem boot_dead {s : State} (env : StartEnv) (hcause : s.get Reg.MGT.RSTCAUSE = 3) (hid : s.fuses.idgen = true)
    (ha : s.flash.fwA.head = .blank) (hb : s.flash.fwB.head = .blank) : ∃ t, s.boot env = (t, false) ∧ CauseStored s t := by
  have hrec : s.causeRecord = s := by
    rw [causeRecord, hcause]
    rfl
  have hself : ∃ u, (match env.selftest with | some k => s.raise 8 [k] | none => s) = u ∧ CauseStored s u := by
    cases env.selftest with
    | none => exact ⟨s, rfl, .refl s⟩
    | some k => exact ⟨_, rfl, (CauseStored.refl s).raise _ _⟩
  obtain ⟨u, hu, hus⟩ := hself
  obtain ⟨hdead, hflag⟩ := bootHdr_dead (causeStored_startIdentity hus hid) ha hb
  refine ⟨u.startIdentity.bootHdr, ?_, hdead⟩
  unfold boot
  rw [hrec]
  cases hs : env.selftest <;> rw [hs] at hu <;> dsimp only at hu ⊢ <;> rw [hu] <;> exact if_pos hflag

/-- So does the restart that an accepted COMMIT of firmware leaves due. -/
theorem restartDue_dead {s : State} (env : StartEnv) (hdue : s.upd.due = some 3) (hid : s.fuses.idgen = true)
    (ha : s.flash.fwA.head = .blank) (hb : s.flash.fwB.head = .blank) :
    Stored s (s.restartDue env) ∧ (s.restartDue env).get Reg.MGT.RSTCAUSE = 3 := by
  have hpend : Stored s s.enterPending := stored_enterAll _ s
  have hreset : Stored s (s.enterPending.resetWarm 3) := hpend.trans (stored_resetWarm 3 _)
  obtain ⟨t, ht, hkept⟩ := boot_dead env (get_resetWarm_cause s.enterPending) (hreset.fuses ▸ hid) (hreset.flash ▸ ha) (hreset.flash ▸ hb)
  have he : s.restartDue env = t := by
    simp only [restartDue, hdue, warmStart, startChip, ht, le_refl, decide_true, when_true]
  rw [he]
  exact ⟨hreset.trans hkept.stored, hkept.cause.trans (get_resetWarm_cause _)⟩

end State

section
open State

variable {m : Nat} {s : State}

/-- A request made by a write of UPD.CMD: the request on the state as it finds it, answered. -/
theorem exec_request {i : Instr} {data : Word} {op : State → State} (hi : exec i s = .next (s.writeNow m Reg.UPD.CMD.addr data))
    (hop : ∀ v : State, v.updCmdLand data = op v.updStart) (hq : Quiet m s) (hk : ∀ u, Begins s u → RequestOnly u (op u)) :
    ∃ u t, exec i s = .next t ∧ Begins s u ∧ Answers (op u) t :=
  have hu := begins_updStart m s
  ⟨_, _, hi, hu, exec_updCmd hq (hop _) ((requestOnly_updStart _).trans (hk _ hu))⟩

/-- A request whose command says what it reads. -/
theorem exec_gated (data : Word) (op : State → State) (hq : Quiet m s) :
    ∃ u, Begins s u ∧ Answers (op u) (s.gated m Reg.UPD.CMD.addr data fun t => op t.updStart) :=
  ⟨_, begins_updStart m s, gated_updCmd data (fun t => op t.updStart) hq⟩

theorem exec_begin (hq : Quiet m s) : ∃ u t, exec (.begin m) s = .next t ∧ Begins s u ∧ Answers u.opBegin t :=
  exec_request rfl updCmdLand_begin hq fun u _ => requestOnly_opBegin u

theorem exec_write (hq : Quiet m s) (hk : ∀ u, Begins s u → RequestOnly u u.opWrite) :
    ∃ u t, exec (.write m) s = .next t ∧ Begins s u ∧ Answers u.opWrite t := exec_request rfl updCmdLand_write hq hk

theorem exec_confirm (hq : Quiet m s) (hk : ∀ u, Begins s u → RequestOnly u u.opConfirm) :
    ∃ u t, exec (.confirm m) s = .next t ∧ Begins s u ∧ Answers u.opConfirm t := exec_request rfl updCmdLand_confirm hq hk

theorem exec_updAbort (hq : Quiet m s) : ∃ u t, exec (.updAbort m) s = .next t ∧ Begins s u ∧ Answers u.opUpdAbort t :=
  exec_request rfl updCmdLand_abort hq fun u _ => requestOnly_opUpdAbort u

theorem exec_verify (rd : StageRead) (hq : Quiet m s) :
    ∃ u t, exec (.verify m rd) s = .next t ∧ Begins s u ∧ Answers (u.opVerify rd) t := by
  obtain ⟨u, hu, ht⟩ := exec_gated (m := m) (s := s) 3 (State.opVerify rd) hq
  exact ⟨u, _, rfl, hu, ht⟩

/-- A COMMIT carried out, with the restart that it leaves due. -/
def committed (u : State) : State :=
  u.opUpdCommit.1.when u.opUpdCommit.2.isSome fun v => v.updUpd fun x => { x with due := u.opUpdCommit.2 }

/-- A COMMIT: the request, what it leaves due, and the restart. -/
theorem exec_updCommit (env : StartEnv) (hq : Quiet m s) : ∃ u t, exec (.updCommit m env) s = .next (t.restartDue env) ∧ Begins s u ∧
    Answers (committed u) t := by
  obtain ⟨u, hu, ht⟩ := exec_gated (m := m) (s := s) 4 committed hq
  exact ⟨u, _, rfl, hu, ht⟩

/-- What an accepted BEGIN leaves. -/
theorem opBegin_leaves {u : State} (htrial : u.trialOpen = false) (harg : u.updArg 0 % 4 ≠ 0) : UpdDone 0 1 u.opBegin ∧
    u.opBegin.upd.fw = bit (u.updArg 0) 0 ∧ u.opBegin.upd.cfg = bit (u.updArg 0) 1 ∧ u.opBegin.fuses = u.fuses := by
  obtain ⟨v, -, hfuses, fs, cs, hv⟩ := opBegin_accepted htrial harg
  have honly : RegsOnly (v.updUpd (begun (u.updArg 0) fs cs))
      (((v.updUpd (begun (u.updArg 0) fs cs)).set Reg.UPD.STAT_STATE 1).updResult 0) :=
    (((RegsOnly.refl _).set _ _).set _ _).set _ _
  have hupd : u.opBegin.upd = begun (u.updArg 0) fs cs v.upd := by rw [hv, honly.upd, upd_updUpd]
  refine ⟨hv ▸ updDone_updResult (by decide) (get_set_same _ _ (by decide)), by rw [hupd]; rfl, by rw [hupd]; rfl, ?_⟩
  rw [hv, honly.fuses]
  exact hfuses

theorem exec_begin_accepted (hq : Quiet m s) (htrial : s.trialOpen = false) (harg : s.get (Reg.UPD.ARG 0) % 4 ≠ 0) :
    ∃ t, exec (.begin m) s = .next t ∧ UpdDone 0 1 t ∧ t.upd.fw = bit (s.get (Reg.UPD.ARG 0)) 0 ∧
      t.upd.cfg = bit (s.get (Reg.UPD.ARG 0)) 1 ∧ t.fuses = s.fuses := by
  obtain ⟨u, t, he, hu, ht⟩ := exec_begin hq
  have ha : u.updArg 0 = s.get (Reg.UPD.ARG 0) := hu.arg (by decide)
  obtain ⟨hdone, hfw, hcfg, hfuses⟩ := opBegin_leaves (hu.trial.trans htrial) (ha ▸ harg)
  exact ⟨t, he, hdone.answers ht, by rw [ht.upd, hfw, ha], by rw [ht.upd, hcfg, ha], (ht.fuses.trans hfuses).trans hu.fuses⟩

/-- A request that only ends with a code. -/
theorem answers_refused {u t : State} {code : Nat} (hcode : code < 32) (hu : Begins s u) (ht : Answers (u.updResult code) t) :
    UpdDone code (s.get Reg.UPD.STAT_STATE) t ∧ t.upd = s.upd ∧ t.flash = s.flash := by
  have honly : RegsOnly u (u.updResult code) := ((RegsOnly.refl u).set _ _).set _ _
  exact ⟨(updDone_updResult hcode (hu.get _ (by decide))).answers ht, (ht.upd.trans honly.upd).trans hu.upd,
    (ht.flash.trans honly.flash).trans hu.flash⟩

theorem exec_begin_refused (hq : Quiet m s) (h : s.trialOpen = true ∨ s.get (Reg.UPD.ARG 0) % 4 = 0) :
    ∃ t, exec (.begin m) s = .next t ∧ UpdDone (if s.trialOpen then 1 else 11) (s.get Reg.UPD.STAT_STATE) t ∧ t.upd = s.upd ∧
      t.flash = s.flash := by
  obtain ⟨u, t, he, hu, ht⟩ := exec_begin hq
  refine ⟨t, he, ?_⟩
  cases htrial : s.trialOpen with
  | true =>
    rw [opBegin_busy (hu.trial.trans htrial)] at ht
    exact answers_refused (by decide) hu ht
  | false =>
    rw [opBegin_none (hu.trial.trans htrial) (by rw [hu.arg (by decide)]; exact h.resolve_left (by simp [htrial]))] at ht
    exact answers_refused (by decide) hu ht

/-- What the bytes of a WRITE leave. -/
theorem stageBytes_leaves (w : Bool) (at_ : Nat) (l : List Byte) (u : State) :
    UpdDone 0 (u.get Reg.UPD.STAT_STATE) ((u.stageBytes w at_ l).updResult 0) ∧ ((u.stageBytes w at_ l).updResult 0).upd = u.upd ∧
      ((u.stageBytes w at_ l).updResult 0).targetBytes w u.upd = programBytes (u.targetBytes w u.upd) at_ l := by
  have hbytes := targetBytes_stageBytes w at_ l u
  have hupd : (u.stageBytes w at_ l).upd = u.upd := rfl
  have hregs : (u.stageBytes w at_ l).regs = u.regs := rfl
  generalize u.stageBytes w at_ l = v at hbytes hupd hregs
  have honly : RegsOnly v (v.updResult 0) := ((RegsOnly.refl v).set _ _).set _ _
  refine ⟨updDone_updResult (by decide) (get_of_regs hregs _), honly.upd.trans hupd, ?_⟩
  rw [← hbytes]
  simp only [targetBytes, fwSlot, cfgSlot, honly.flash]

theorem exec_write_accepted {w : Bool} {j : Nat} (hq : Quiet m s) (hphase : s.get Reg.UPD.STAT_STATE = 1)
    (hw : (s.upd.fw && (!s.upd.cfg || bit (s.get (Reg.UPD.ARG 0)) 0)) = w)
    (hbuf : bit (s.get (Reg.UPD.ARG 3)) 31 = false) (hlen : s.get (Reg.UPD.ARG 2) ≤ 4096)
    (hsize : s.get (Reg.UPD.ARG 1) + s.get (Reg.UPD.ARG 2) ≤ s.targetSize w) (hj : j < s.get (Reg.UPD.ARG 2)) :
    ∃ t, exec (.write m) s = .next t ∧ UpdDone 0 1 t ∧ Assoc.findD (t.targetBytes w s.upd) (s.get (Reg.UPD.ARG 1) + j) 0xFF =
        BitVec.ofNat 8 (s.get (Reg.UPD.BUF (j / 4)) / 256 ^ (j % 4)) ∧ t.upd = s.upd := by
  have hacc (u : State) (hu : Begins s u) :
      u.opWrite = (u.stageBytes w (u.updArg 1) (u.bufBytes (u.updArg 2))).updResult 0 := by
    have htarget : (u.upd.fw && (!u.upd.cfg || bit (u.updArg 0) 0)) = w := by rw [hu.upd, hu.arg (by decide), hw]
    have h := opWrite_accepted (hu.phase.trans hphase)
      (by rw [htarget, hu.arg (by decide), hu.arg (by decide), hu.size]; exact hsize)
      (by rw [hu.arg (by decide)]; exact hbuf) (by rw [hu.arg (by decide)]; exact hlen)
    rwa [htarget] at h
  obtain ⟨u, t, he, hu, ht⟩ := exec_write hq fun u hu => by
    rw [hacc u hu]
    exact ((RequestOnly.refl u).updFlash _).updResult 0
  rw [hacc u hu] at ht
  obtain ⟨hdone, hupd, hbytes⟩ := stageBytes_leaves w (u.updArg 1) (u.bufBytes (u.updArg 2)) u
  have hbytes' : t.targetBytes w s.upd = programBytes (u.targetBytes w s.upd) (u.updArg 1) (u.bufBytes (u.updArg 2)) := by
    rw [← hu.upd, ← hbytes]
    simp only [targetBytes, fwSlot, cfgSlot, ht.flash]
  have harg2 : u.updArg 2 = s.get (Reg.UPD.ARG 2) := hu.arg (by decide)
  have hphase' : u.get Reg.UPD.STAT_STATE = 1 := hu.phase.trans hphase
  refine ⟨t, he, (hphase' ▸ hdone).answers ht, ?_, (ht.upd.trans hupd).trans hu.upd⟩
  rw [hbytes', show s.get (Reg.UPD.ARG 1) = u.updArg 1 from (hu.arg (by decide)).symm,
    programBytes_at _ _ (bufBytes_getElem? u (harg2 ▸ hj) (harg2 ▸ hlen)), hu.get _ (by simp only [Reg.UPD.BUF]; omega)]

theorem exec_write_refused (hq : Quiet m s) (h : s.get Reg.UPD.STAT_STATE ≠ 1 ∨
      s.targetSize (s.upd.fw && (!s.upd.cfg || bit (s.get (Reg.UPD.ARG 0)) 0)) < s.get (Reg.UPD.ARG 1) + s.get (Reg.UPD.ARG 2) ∨
      bit (s.get (Reg.UPD.ARG 3)) 31 = false ∧ 4096 < s.get (Reg.UPD.ARG 2)) :
    ∃ t, exec (.write m) s = .next t ∧ UpdDone 11 (s.get Reg.UPD.STAT_STATE) t ∧ t.upd = s.upd ∧ t.flash = s.flash := by
  have href (u : State) (hu : Begins s u) : u.opWrite = u.updResult 11 := opWrite_refused (by
    rw [hu.phase, hu.upd, hu.arg (by decide), hu.arg (by decide), hu.arg (by decide), hu.arg (by decide), hu.size]
    exact h)
  obtain ⟨u, t, he, hu, ht⟩ := exec_write hq fun u hu => by
    rw [href u hu]
    exact (RequestOnly.refl u).updResult 11
  rw [href u hu] at ht
  exact ⟨t, he, answers_refused (by decide) hu ht⟩

theorem exec_verify_passes {rd : StageRead} (hq : Quiet m s) (hphase : s.get Reg.UPD.STAT_STATE = 1) (hc : s.verifyCode rd = 0) :
    ∃ t, exec (.verify m rd) s = .next t ∧ UpdDone 0 2 t ∧ Raised 109 t ∧ t.upd.staged = rd := by
  obtain ⟨u, t, he, hu, ht⟩ := exec_verify rd hq
  obtain ⟨hdone, hraised, hupd⟩ := opVerify_passes (hu.phase.trans hphase) ((hu.verify rd).trans hc)
  exact ⟨t, he, hdone.answers ht, ht.raised hraised, by rw [ht.upd, hupd]⟩

theorem exec_verify_fails {rd : StageRead} (hq : Quiet m s) (hphase : s.get Reg.UPD.STAT_STATE = 1) (hc : s.verifyCode rd ≠ 0) :
    ∃ t, exec (.verify m rd) s = .next t ∧ UpdDone (s.verifyCode rd) 0 t ∧ Raised 110 t ∧ t.flash = s.flash := by
  obtain ⟨u, t, he, hu, ht⟩ := exec_verify rd hq
  obtain ⟨hdone, hraised, honly⟩ := opVerify_fails (hu.phase.trans hphase) ((hu.verify rd).trans_ne hc)
  rw [hu.verify rd] at hdone
  exact ⟨t, he, hdone.answers ht, ht.raised hraised, (ht.flash.trans honly.flash).trans hu.flash⟩

/-- A staging of firmware whose bundle does not read is unverifiable. -/
theorem verifyCode_unread {rd : StageRead} (h : rd.bundle = none ∧ s.upd.fw = true) : s.verifyCode rd = 30 := by
  simp [State.verifyCode, h.1, h.2]

theorem exec_verify_idle (rd : StageRead) (hq : Quiet m s) (hphase : s.get Reg.UPD.STAT_STATE ≠ 1) :
    ∃ t, exec (.verify m rd) s = .next t ∧ UpdDone 11 (s.get Reg.UPD.STAT_STATE) t ∧ t.upd = s.upd ∧ t.flash = s.flash := by
  obtain ⟨u, t, he, hu, ht⟩ := exec_verify rd hq
  rw [opVerify_idle rd (hu.phase.trans_ne hphase)] at ht
  exact ⟨t, he, answers_refused (by decide) hu ht⟩

theorem flash_updUpd (f : UpdState → UpdState) (s : State) : (s.updUpd f).flash = s.flash := rfl

theorem regs_updUpd (f : UpdState → UpdState) (s : State) : (s.updUpd f).regs = s.regs := rfl

theorem fuses_updUpd (f : UpdState → UpdState) (s : State) : (s.updUpd f).fuses = s.fuses := rfl

/-- What a header written to sector B leaves. -/
theorem flash_putHdr (h : BootHdr) (s : State) : (s.putHdr 1 h).flash = { s.flash with hdrB := .good h } := rfl

theorem committed_refused {u : State} (hc : u.commitCode ≠ 0) : committed u = u.updResult u.commitCode := by
  simp only [committed, opUpdCommit_refused hc, Option.isSome_none, when_false]

/-- The flash of `t` is that of `s` with a header in sector B, but for the journal. -/
def HdrWritten (h : BootHdr) (s t : State) : Prop :=
  ∃ j a b, t.flash = { s.flash with journal := j, j2 := a, j3 := b, hdrB := .good h }

/-- An accepted COMMIT of firmware where sector A is in force writes sector B. -/
theorem committed_accepted {u : State} {h : BootHdr} (hc : u.commitCode = 0) (hsector : u.upd.hdr = 0) (hhdr : u.flash.hdrA = .good h)
    (hfw : u.upd.fw = true) : RequestOnly u (committed u) ∧ (committed u).get Reg.UPD.RES_CODE = 0 ∧
      HdrWritten (u.trialHdr h) u (committed u) ∧ (committed u).fuses = u.fuses ∧ (committed u).upd.due = some 3 := by
  have hforce : u.hdrInForce = some h := by simp only [hdrInForce, hsector, if_true, hhdr]
  have heq : committed u = (((((u.set Reg.UPD.STAT_STATE 3).eraseUnder 1 1).putHdr 1 (u.trialHdr h)).raise 111 [1]).updResult 0).updUpd
      fun x => { x with due := some 3 } := by
    rw [committed, opUpdCommit_accepted hc hforce]
    simp only [hsector, hfw, if_true, Option.isSome_some, when_true]
  have herase := journalOnly_eraseUnder 1 1 (u.set Reg.UPD.STAT_STATE 3)
  have hreq : RequestOnly u ((u.set Reg.UPD.STAT_STATE 3).eraseUnder 1 1) := ((RequestOnly.refl u).set _ _).eraseUnder _ _
  have hfuses : ((u.set Reg.UPD.STAT_STATE 3).eraseUnder 1 1).fuses = u.fuses :=
    herase.fuses.trans ((RegsOnly.refl u).set _ _).fuses
  obtain ⟨j, a, b, hflash⟩ := herase.flash
  rw [((RegsOnly.refl u).set Reg.UPD.STAT_STATE 3).flash] at hflash
  generalize (u.set Reg.UPD.STAT_STATE 3).eraseUnder 1 1 = v at heq hreq hflash hfuses
  have honly : RegsOnly (v.putHdr 1 (u.trialHdr h)) (((v.putHdr 1 (u.trialHdr h)).raise 111 [1]).updResult 0) :=
    (((RegsOnly.refl _).raise _ _).set _ _).set _ _
  have hcode := get_updResult_code ((v.putHdr 1 (u.trialHdr h)).raise 111 [1]) (code := 0) (by decide)
  have hreqw : RequestOnly u (((v.putHdr 1 (u.trialHdr h)).raise 111 [1]).updResult 0) := ((hreq.updFlash _).raise _ _).updResult _
  generalize ((v.putHdr 1 (u.trialHdr h)).raise 111 [1]).updResult 0 = w at heq honly hcode hreqw
  rw [heq]
  refine ⟨hreqw.updUpd _, (get_of_regs (regs_updUpd _ _) _).trans hcode, ⟨j, a, b, ?_⟩, ?_, by rw [upd_updUpd]⟩
  · rw [flash_updUpd, honly.flash, flash_putHdr, hflash]
  · rw [fuses_updUpd, honly.fuses, putHdr, fuses_updFlash, hfuses]

/-- The restart that such a COMMIT leaves due, where no firmware boots. -/
theorem restart_committed {s t : State} {h g : BootHdr} (env : StartEnv) (hflash : HdrWritten g s t) (hdue : t.upd.due = some 3)
    (hid : t.fuses.idgen = true) (hhdr : s.flash.hdrA = .good h) (ha : s.flash.fwA.head = .blank) (hb : s.flash.fwB.head = .blank) :
    (t.restartDue env).flash.hdrB = .good g ∧ (t.restartDue env).flash.hdrA = .good h ∧
      (t.restartDue env).get Reg.MGT.RSTCAUSE = 3 := by
  obtain ⟨_, _, _, hflash⟩ := hflash
  obtain ⟨hstored, hcause⟩ := restartDue_dead (s := t) env hdue hid (by rw [hflash]; exact ha) (by rw [hflash]; exact hb)
  exact ⟨by rw [hstored.flash, hflash], by rw [hstored.flash, hflash]; exact hhdr, hcause⟩

theorem restartDue_none {t : State} (env : StartEnv) (h : t.upd.due = none) : t.restartDue env = t := by rw [restartDue, h]

theorem exec_updCommit_refused (env : StartEnv) (hq : Quiet m s) (hdue : s.upd.due = none) (hc : s.commitCode ≠ 0) :
    ∃ t, exec (.updCommit m env) s = .next t ∧ UpdDone s.commitCode (s.get Reg.UPD.STAT_STATE) t ∧ t.upd = s.upd ∧
      t.flash = s.flash := by
  obtain ⟨u, t, he, hu, ht⟩ := exec_updCommit env hq
  rw [committed_refused (hu.commit.trans_ne hc), hu.commit] at ht
  obtain ⟨hdone, hupd, hflash⟩ := answers_refused (commitCode_lt s) hu ht
  exact ⟨t, restartDue_none env (hupd ▸ hdue) ▸ he, hdone, hupd, hflash⟩

theorem exec_updCommit_accepted {h : BootHdr} (env : StartEnv) (hq : Quiet m s) (hc : s.commitCode = 0) (hsector : s.upd.hdr = 0)
    (hhdr : s.flash.hdrA = .good h) (ha : s.flash.fwA.head = .blank) (hb : s.flash.fwB.head = .blank)
    (hid : s.fuses.idgen = true) (hfw : s.upd.fw = true) :
    ∃ u t, exec (.updCommit m env) s = .next t ∧ Begins s u ∧ t.flash.hdrB = .good (u.trialHdr h) ∧ t.flash.hdrA = .good h ∧
      t.get Reg.MGT.RSTCAUSE = 3 := by
  obtain ⟨u, t, he, hu, ht⟩ := exec_updCommit env hq
  obtain ⟨-, -, ⟨j, a, b, hflash⟩, hfuses, hdue⟩ := committed_accepted (hu.commit.trans hc) (hu.upd ▸ hsector) (hu.flash ▸ hhdr)
    (hu.upd ▸ hfw)
  have hend := restart_committed (s := s) (t := t) env ⟨j, a, b, by rw [ht.flash, hflash, hu.flash]⟩ (by rw [ht.upd, hdue])
    (by rw [ht.fuses, hfuses, hu.fuses, hid]) hhdr ha hb
  exact ⟨u, _, he, hu, hend⟩

/-- What an accepted CONFIRM of the header in sector A leaves. -/
theorem opConfirm_leaves {u : State} {h : BootHdr} {b : Bundle} (hsector : u.upd.hdr = 0) (hhdr : u.flash.hdrA = .good h)
    (hb : u.upd.running = some b) (htrial : onTrial h = true) (hvalid : h.valid = 0xFFFFFFFF) : RequestOnly u u.opConfirm ∧
      u.opConfirm.get Reg.UPD.RES_CODE = 0 ∧ u.opConfirm.get Reg.UPD.RES_DONE = 1 ∧
      u.opConfirm.flash.hdrA = .good { h with confirm := 0 } ∧ u.opConfirm.get Reg.UPD.TRIALLEFT = 0 ∧
      u.opConfirm.upd.trialEnd = none ∧ u.opConfirm.minSv = max u.minSv b.secver ∧ Raised 113 u.opConfirm := by
  obtain ⟨v, hv, hupd, hflash, heq⟩ := opConfirm_accepted (s := u) (h := h) (b := b)
    (by simp only [hdrInForce, hsector, if_true, hhdr]) hb htrial hvalid
  have hreq : RequestOnly u ((v.showUpd.set Reg.UPD.TRIALLEFT 0).raise 113 [h.seq]) := ((requestOnly_showUpd hv).set _ _).raise _ _
  rw [heq]
  generalize hw : (v.showUpd.set Reg.UPD.TRIALLEFT 0).raise 113 [h.seq] = w at hreq
  have hraised : Raised 113 w := hw ▸ raised_raise _ _ (by decide)
  have hleft : w.get Reg.UPD.TRIALLEFT = 0 := by
    rw [← hw, get_raise _ _ _ (by decide)]
    exact get_set_same _ _ (by decide)
  have hvw : RegsOnly v w := hw ▸ ((regsOnly_showUpd v).set _ _).raise _ _
  have hvt : RegsOnly v (w.updResult 0) := (hvw.set _ _).set _ _
  refine ⟨hreq.updResult 0, get_updResult_code w (by decide), get_updResult_done 0 w, ?_,
    (get_updResult_other _ _ (by decide)).trans hleft, ?_, ?_, raised_updResult hraised 0⟩
  · rw [hvt.flash, hflash, hsector]
    rfl
  · rw [hvt.upd, hupd]
    rfl
  · rw [minSv, hvt.flash, hflash]
    exact max_self _

theorem exec_confirm_accepted {h : BootHdr} {b : Bundle} (hq : Quiet m s) (hsector : s.upd.hdr = 0) (hhdr : s.flash.hdrA = .good h)
    (hb : s.upd.running = some b) (htrial : onTrial h = true) (hvalid : h.valid = 0xFFFFFFFF) :
    ∃ t, exec (.confirm m) s = .next t ∧ t.get Reg.UPD.RES_CODE = 0 ∧ t.get Reg.UPD.RES_DONE = 1 ∧
      t.flash.hdrA = .good { h with confirm := 0 } ∧ t.get Reg.UPD.TRIALLEFT = 0 ∧ t.upd.trialEnd = none ∧
      t.minSv = max s.minSv b.secver ∧ Raised 113 t := by
  have hacc (u : State) (hu : Begins s u) := opConfirm_leaves (u := u) (h := h) (b := b) (hu.upd ▸ hsector) (hu.flash ▸ hhdr)
    (hu.upd ▸ hb) htrial hvalid
  obtain ⟨u, t, he, hu, ht⟩ := exec_confirm hq fun u hu => (hacc u hu).1
  obtain ⟨-, hcode, hdone, hhdr', hleft, hend, hsv, hraised⟩ := hacc u hu
  exact ⟨t, he, (ht.get _).trans hcode, (ht.get _).trans hdone, by rw [ht.flash, hhdr'], (ht.get _).trans hleft, by rw [ht.upd, hend],
    by rw [← hu.minSv, ← hsv, minSv, minSv, ht.flash], ht.raised hraised⟩

theorem exec_confirm_refused (hq : Quiet m s) (h : s.trialOpen = false) :
    ∃ t, exec (.confirm m) s = .next t ∧ UpdDone 11 (s.get Reg.UPD.STAT_STATE) t ∧ t.upd = s.upd ∧ t.flash = s.flash := by
  have href (u : State) (hu : Begins s u) : u.opConfirm = u.updResult 11 := opConfirm_refused (hu.trial.trans h)
  obtain ⟨u, t, he, hu, ht⟩ := exec_confirm hq fun u hu => by
    rw [href u hu]
    exact (RequestOnly.refl u).updResult 11
  rw [href u hu] at ht
  exact ⟨t, he, answers_refused (by decide) hu ht⟩

/-- The engine once its staging is discarded. -/
def discarded (x : UpdState) : UpdState := { x with fw := false, cfg := false, staged := { bundle := none, signer := none } }

theorem exec_updAbort_done (hq : Quiet m s) :
    ∃ t, exec (.updAbort m) s = .next t ∧ UpdDone 0 0 t ∧ t.upd = discarded s.upd ∧ t.flash = s.flash ∧ RegsKept [.upd] s t := by
  obtain ⟨u, t, he, hu, ht⟩ := exec_updAbort hq
  have heq : u.opUpdAbort = ((u.updUpd discarded).set Reg.UPD.STAT_STATE 0).updResult 0 := rfl
  rw [heq] at ht
  generalize hv : u.updUpd discarded = v at ht
  have honly : RegsOnly v ((v.set Reg.UPD.STAT_STATE 0).updResult 0) := (((RegsOnly.refl v).set _ _).set _ _).set _ _
  have hvupd : v.upd = discarded s.upd := by rw [← hv, upd_updUpd, hu.upd]
  have hvflash : v.flash = s.flash := by rw [← hv]; exact hu.flash
  have hvregs : RegsKept [.upd] s v := by rw [← hv]; exact hu.kept.same rfl
  have hpage {r : FRef} (hlo : 0x2B040000 ≤ r.addr) (hhi : r.addr < 0x2B050000) : Outside [.upd] r.addr = false :=
    outside_page .upd (by simp) hlo hhi
  exact ⟨t, he, (updDone_updResult (by decide) (get_set_same _ _ (by decide))).answers ht, (ht.upd.trans honly.upd).trans hvupd,
    (ht.flash.trans honly.flash).trans hvflash,
    (((hvregs.set _ (hpage (by decide) (by decide))).set _ (hpage (by decide) (by decide))).set _
      (hpage (by decide) (by decide))).same ht.regs⟩

end


/-! ### The statement -/

/-- A COMMIT in a verified staging with its arguments in range, under presence. -/
theorem commitCode_accepted {s : State} (htrial : s.trialOpen = false) (hphase : s.get Reg.UPD.STAT_STATE = 2)
    (hwindow : s.windowOpen = true) (hlo : 60 ≤ s.get (Reg.UPD.ARG 1)) (hhi : s.get (Reg.UPD.ARG 1) ≤ 86400)
    (hmin : 1 ≤ s.get (Reg.UPD.ARG 2) % 16) (hmax : s.get (Reg.UPD.ARG 2) % 16 ≤ 8) : s.commitCode = 0 := by
  simp [State.commitCode, State.commitArgsOk, State.updPhase, State.updArg, htrial, hphase, hwindow, hlo, hhi, hmin, hmax]

/-- Settles O15: the update engine. Each request is carried out on the state that the write of UPD.CMD leaves, and changes the engine,
the flash and what raises leave; an accepted COMMIT of firmware is followed by a start that finds no firmware to boot. -/
theorem updateEngine : Obligations.UpdateEngine := by
  unfold Obligations.UpdateEngine
  refine ⟨?_, ?_, ?_, ?_, ?_, ?_, ?_, ?_, ?_, ?_, ?_, ?_⟩
  · intro s m hq htrial harg
    obtain ⟨t, he, ⟨hcode, hdone, hstate⟩, hfw, hcfg, hfuses⟩ := exec_begin_accepted hq htrial harg
    exact ⟨t, he, hstate, hcode, hdone, hfw, hcfg, hfuses⟩
  · intro s m hq h
    obtain ⟨t, he, ⟨hcode, hdone, hstate⟩, hupd, hflash⟩ := exec_begin_refused hq h
    exact ⟨t, he, hstate, hcode, hdone, hupd, hflash⟩
  · intro s m j w hq hphase hw _ _ hbuf hlen hsize hj
    obtain ⟨t, he, ⟨hcode, hdone, -⟩, hbyte, hupd⟩ := exec_write_accepted hq hphase hw hbuf hlen hsize hj
    refine ⟨t, he, hcode, hdone, ?_, hupd⟩
    rw [← hbyte]
    rfl
  · intro s m hq h
    obtain ⟨t, he, ⟨hcode, hdone, -⟩, -, hflash⟩ := exec_write_refused hq h
    exact ⟨t, he, hcode, hdone, hflash⟩
  · intro s m rd hq hphase hc
    obtain ⟨t, he, ⟨hcode, hdone, hstate⟩, hraised, hstaged⟩ := exec_verify_passes hq hphase hc
    exact ⟨t, he, hstate, hcode, hdone, hraised, hstaged⟩
  · rintro s m c rd hq hphase rfl hc
    obtain ⟨t, he, ⟨hcode, hdone, hstate⟩, hraised, hflash⟩ := exec_verify_fails hq hphase hc
    have hlt := State.verifyCode_lt rd s
    exact ⟨t, he, hstate, hcode.trans (Nat.mod_eq_of_lt (by omega)).symm, hdone, hraised, hflash, verifyCode_unread⟩
  · intro s m rd hq hphase
    obtain ⟨t, he, ⟨hcode, -, hstate⟩, -, hflash⟩ := exec_verify_idle rd hq hphase
    exact ⟨t, he, hstate, hcode, hflash⟩
  · intro s m env h hq hphase hwindow hlo hhi hmin hmax hsector hhdr htrial ha hb hid hfw
    have hopen : s.trialOpen = false := by
      simp [State.trialOpen, State.hdrInForce, hsector, hhdr, onTrial, htrial]
    obtain ⟨u, t, he, hu, hnew, hold, hcause⟩ := exec_updCommit_accepted env hq
      (commitCode_accepted hopen hphase hwindow hlo hhi hmin hmax) hsector hhdr ha hb hid hfw
    refine ⟨t, he, ⟨u.trialHdr h, hnew, rfl, rfl, rfl, ?_⟩, hold, hcause⟩
    simp only [State.trialHdr, hu.upd, hfw, if_true]
  · rintro s m c env hq hdue rfl hc
    obtain ⟨t, he, ⟨hcode, hdone, -⟩, hupd, hflash⟩ := exec_updCommit_refused env hq hdue hc
    have hlt := State.commitCode_lt s
    refine ⟨t, he, hcode.trans (Nat.mod_eq_of_lt (by omega)).symm, hdone, hflash, by rw [hupd, hdue], ?_⟩
    intro htrial hphase hwindow
    simp [State.commitCode, State.updPhase, htrial, hphase, hwindow]
  · intro s m h b hq hsector hhdr hb htrial hconfirm hvalid
    exact exec_confirm_accepted hq hsector hhdr hb (by simp [onTrial, htrial, hconfirm]) hvalid
  · intro s m hq h
    obtain ⟨t, he, ⟨hcode, hdone, -⟩, -, hflash⟩ := exec_confirm_refused hq h
    exact ⟨t, he, hcode, hdone, hflash⟩
  · intro s m hq
    obtain ⟨t, he, ⟨hcode, hdone, hstate⟩, hupd, hflash, hregs⟩ := exec_updAbort_done hq
    exact ⟨t, he, hstate, hcode, hdone, by rw [hupd]; rfl, by rw [hupd]; rfl, hflash, hregs⟩

end Sys2Proof.Machine
end

section
/-! SUPPORT. A JRP REQUEST that is carried out at once (R584–R589): from the datagram to the answer. -/

namespace Sys2Proof.Machine

/-- Only what JRP keeps beside its commands differs: its state, what it sent, and the command that the twin's records name. -/
def JrpOnly (s t : State) : Prop := ∃ j o c, t = { s with jrp := j, out := o, twin := { s.twin with ctx := c } }

namespace JrpOnly

variable {s t u : State}

theorem refl (s : State) : JrpOnly s s := ⟨_, _, _, rfl⟩

theorem trans (h : JrpOnly s t) (h' : JrpOnly t u) : JrpOnly s u := by
  obtain ⟨_, _, _, rfl⟩ := h
  obtain ⟨_, _, _, rfl⟩ := h'
  exact ⟨_, _, _, rfl⟩

theorem updJrp (h : JrpOnly s t) (f : JrpState → JrpState) : JrpOnly s (t.updJrp f) := h.trans ⟨_, _, _, rfl⟩
theorem updSession (h : JrpOnly s t) (id : Nat) (f : JrpSession → JrpSession) : JrpOnly s (t.updSession id f) := h.updJrp _
theorem emit (h : JrpOnly s t) (o : Output) : JrpOnly s (t.emit o) := h.trans ⟨_, _, _, rfl⟩
theorem context (h : JrpOnly s t) (c : CmdCtx) : JrpOnly s (t.updTwin fun x => { x with ctx := c }) := h.trans ⟨_, _, _, rfl⟩

theorem regs (h : JrpOnly s t) : t.regs = s.regs := by obtain ⟨_, _, _, rfl⟩ := h; rfl
theorem get (h : JrpOnly s t) (r : FRef) : t.get r = s.get r := State.get_of_regs h.regs r
theorem upd (h : JrpOnly s t) : t.upd = s.upd := by obtain ⟨_, _, _, rfl⟩ := h; rfl
theorem flash (h : JrpOnly s t) : t.flash = s.flash := by obtain ⟨_, _, _, rfl⟩ := h; rfl
theorem fuses (h : JrpOnly s t) : t.fuses = s.fuses := by obtain ⟨_, _, _, rfl⟩ := h; rfl
theorem key (h : JrpOnly s t) : t.key = s.key := by obtain ⟨_, _, _, rfl⟩ := h; rfl
theorem now (h : JrpOnly s t) : t.now = s.now := by obtain ⟨_, _, _, rfl⟩ := h; rfl
theorem inUse (h : JrpOnly s t) : t.inUse = s.inUse := by obtain ⟨_, _, _, rfl⟩ := h; rfl
theorem mirror (h : JrpOnly s t) : t.twin.mirror = s.twin.mirror := by obtain ⟨_, _, _, rfl⟩ := h; rfl
theorem xchg (h : JrpOnly s t) : t.twin.xchg = s.twin.xchg := by obtain ⟨_, _, _, rfl⟩ := h; rfl

end JrpOnly

/-- `y` is session `x` as far as its answers and its notifications go. -/
structure SameLink (x y : JrpSession) : Prop where
  id : y.id = x.id
  port : y.port = x.port
  src : y.src = x.src
  sport : y.sport = x.sport
  hmac : y.hmac = x.hmac
  notes : y.notes = x.notes

namespace State

/-! ### The answer -/

/-- The window of a session with the answer to a command. -/
def answered (txid : Nat) (r : JrpResult) (y : JrpSession) : JrpSession := { y with window := cacheAnswer txid r y.window }

/-- With one session and nothing to mirror, a result is answered to that session. -/
theorem answerCmd_one {u : State} {y : JrpSession} (txid : Nat) (r : JrpResult) (hs : u.jrp.sessions = [y])
    (hm : u.twin.mirror = []) : ∃ v, JrpOnly u v ∧ v.jrp.sessions = [answered txid r y] ∧ v.out = u.out ∧
      u.answerCmd y.id txid r = v.jrpRespond (answered txid r y) txid r := by
  generalize hv : u.updWindow y.id (cacheAnswer txid r) = v
  have honly : JrpOnly u v := hv ▸ ((JrpOnly.refl u).updSession _ _).updJrp _
  have hsess : v.jrp.sessions = [answered txid r y] := by
    rw [← hv]
    simp only [updWindow, updSession, updJrp, hs, List.map_cons, List.map_nil, if_true]
    rfl
  have hopen : v.mirrorOpen y.id txid = false := by simp [mirrorOpen, honly.mirror, hm]
  refine ⟨v, honly, hsess, by rw [← hv]; rfl, ?_⟩
  unfold answerCmd
  rw [hv]
  simp only [hopen, Bool.false_eq_true, if_false, jrpSession, hsess]
  simp [answered]

theorem replied_jrpRespond {x y : JrpSession} (txid : Nat) (r : JrpResult) (v : State) (h : SameLink x y) :
    Replied x txid r.code r.body (v.jrpRespond y txid r) := by
  obtain ⟨hid, hport, hsrc, hsport, hhmac, -⟩ := h
  simp [Replied, jrpRespond, jrpSend, emit, jrpReply, hid, hport, hsrc, hsport, hhmac]

/-- What the answering of a result leaves: the response, and the final status among the notifications. -/
structure Answered (x : JrpSession) (txid : Nat) (a : JrpResult) (u t : State) : Prop where
  only : JrpOnly u t
  replied : Replied x txid a.code a.body t
  sent : t.out.length = u.out.length + 1
  notes : t.jrp.sessions.map (fun y => y.notes) =
    [match a.final with | some f => (if x.notes.length < 1024 then x.notes ++ [.complete txid f] else x.notes) | none => x.notes]

/-- The answer to a command that was carried out at once, with its final status. -/
def jrpTell (id txid : Nat) (a : JrpResult) (u : State) : State :=
  let t := (u.updTwin fun x => { x with ctx := ⟨0, 0, 0⟩ }).answerCmd id txid a
  match a.final with
  | some f => t.updSession id (pushNote (.complete txid f))
  | none => t

theorem answered_jrpTell {x y : JrpSession} {u : State} (txid : Nat) (a : JrpResult) (hs : u.jrp.sessions = [y]) (hlink : SameLink x y)
    (hm : u.twin.mirror = []) : Answered x txid a u (u.jrpTell x.id txid a) := by
  obtain ⟨v, hv, hsess, hout, he⟩ := answerCmd_one (u := u.updTwin fun x => { x with ctx := ⟨0, 0, 0⟩ }) txid a hs hm
  have hlink' : SameLink x (answered txid a y) := by
    obtain ⟨hid, hport, hsrc, hsport, hhmac, hnotes⟩ := hlink
    exact ⟨hid, hport, hsrc, hsport, hhmac, hnotes⟩
  have honly : JrpOnly u (v.jrpRespond (answered txid a y) txid a) := (((JrpOnly.refl u).context _).trans hv).emit _
  have hlen : (v.jrpRespond (answered txid a y) txid a).out.length = u.out.length + 1 := by
    rw [jrpRespond, jrpSend, emit, List.length_cons, hout]
    rfl
  have hsess' : (v.jrpRespond (answered txid a y) txid a).jrp.sessions = [answered txid a y] := hsess
  have hrep := replied_jrpRespond txid a v hlink'
  unfold jrpTell
  rw [← hlink.id, he]
  generalize v.jrpRespond (answered txid a y) txid a = w at honly hlen hsess' hrep
  cases hf : a.final with
  | none => exact ⟨honly, hrep, hlen, by simp only [hsess', hf, List.map_cons, List.map_nil]; rw [← hlink'.notes]⟩
  | some f =>
    refine ⟨honly.updSession _ _, hrep, hlen, ?_⟩
    have hid : (answered txid a y).id = y.id := rfl
    simp only [updSession, updJrp, hsess', hf, List.map_cons, List.map_nil, hid, if_true, pushNote, hlink'.notes]
    split_ifs <;> simp

/-! ### The queue -/

/-- A session with the one command that waits taken from its queue. -/
def taken (credit now : Nat) (y : JrpSession) : JrpSession := { y with queue := y.queue.drop 1, credit := credit - 500000, creditAt := now }

/-- The state in which the command of the only session is carried out. -/
def jrpTaken (y : JrpSession) (q : JrpQueued) (s : State) : State :=
  ((s.updSession y.id (taken (s.jrpCredit y) s.now)).updJrp fun j =>
    { j with served := y.id, done := Assoc.put j.done q.cmd.opcode (Assoc.findD j.done q.cmd.opcode 0 + 1) }).updTwin fun t =>
      { t with ctx := ⟨y.id, q.txid, 0⟩ }

theorem jrpTaken_only (y : JrpSession) (q : JrpQueued) (s : State) : JrpOnly s (s.jrpTaken y q) :=
  (((JrpOnly.refl s).updSession _ _).updJrp _).context _

theorem jrpTaken_sessions {s : State} {y : JrpSession} (q : JrpQueued) (h : s.jrp.sessions = [y]) :
    (s.jrpTaken y q).jrp.sessions = [taken (s.jrpCredit y) s.now y] := by
  simp [jrpTaken, updTwin, updSession, updJrp, h]

/-- A command with its result is answered, and a COMMIT is followed by its restart. -/
theorem jrpServe_told {y : JrpSession} {q : JrpQueued} {s u : State} {a : JrpResult}
    (h : (s.jrpTaken y q).jrpJudged y q = (some a, u)) (hq : ∀ mode win max env, q.cmd ≠ .updCommit mode win max env) :
    s.jrpServe y q = u.jrpTell y.id q.txid a := by
  unfold jrpTaken taken at h
  unfold jrpServe
  dsimp only at h ⊢
  rw [h]
  dsimp only
  split
  · exact absurd ‹_› (hq _ _ _ _)
  · rfl

theorem jrpServe_commit {y : JrpSession} {q : JrpQueued} {s u : State} {a : JrpResult} {mode win max : Nat} {env : StartEnv}
    (h : (s.jrpTaken y q).jrpJudged y q = (some a, u)) (hq : q.cmd = .updCommit mode win max env) :
    s.jrpServe y q = (u.jrpTell y.id q.txid a).restartDue env := by
  unfold jrpTaken taken at h
  unfold jrpServe
  dsimp only at h ⊢
  rw [h, hq]
  rfl

/-- One session with one command that may be taken: it is served, and nothing else goes on. -/
theorem jrpPump_one {s : State} {y : JrpSession} {q : JrpQueued} (hrun : s.jrp.running = []) (hheld : s.jrp.held = [])
    (hs : s.jrp.sessions = [y]) (hq : y.queue = [q]) (hcredit : 500000 ≤ s.jrpCredit y) (hfree : s.jrpBlocked q.cmd = false) :
    s.jrpPump = s.jrpServe y q := by
  have hfinish : s.jrpFinish = s := by simp [jrpFinish, each, hrun]
  have hrelease : s.releaseHeld = s := by simp [releaseHeld, each, hheld]
  have hready : s.jrpReady y = true := by simp [jrpReady, hq, hcredit, hrun, hheld, hfree]
  have hnext : s.jrpNext = some y := by
    have hturn (k : Option Nat) : ([y].drop (k.elim 0 (· + 1)) ++ [y].take (k.elim 0 (· + 1))).find? (fun x => s.jrpReady x) = some y := by
      rcases k with _ | _ | k <;> simp [hready]
    unfold jrpNext
    rw [hs]
    exact hturn _
  unfold jrpPump
  rw [hfinish, hrelease]
  simp only [hs, List.map_cons, List.map_nil, hq, List.length_cons, List.length_nil, sumList, List.foldl_cons, List.foldl_nil]
  simp only [jrpServeAll, hnext, hq]

/-- The session with a command in its queue. -/
def queued (h : JrpHdr) (c : JrpCmd) (x : JrpSession) : JrpSession :=
  { txWindow x h.txid with queue := (txWindow x h.txid).queue ++ [{ txid := h.txid, epoch := h.epoch, cmd := c }] }

theorem sameLink_queued (h : JrpHdr) (c : JrpCmd) (x : JrpSession) (now : Nat) : SameLink x (queued h c { x with last := now }) :=
  ⟨rfl, rfl, rfl, rfl, rfl, rfl⟩

theorem updSession_one {s : State} {x : JrpSession} {id : Nat} (f : JrpSession → JrpSession) (hs : s.jrp.sessions = [x])
    (hid : x.id = id) : (s.updSession id f).jrp.sessions = [f x] := by
  simp [updSession, updJrp, hs, hid]

theorem txWindow_queue (x : JrpSession) (txid : Nat) : (txWindow x txid).queue = x.queue := rfl

theorem queued_queue {h : JrpHdr} {c : JrpCmd} {x : JrpSession} (hx : x.queue = []) :
    (queued h c x).queue = [⟨h.txid, h.epoch, c⟩] := by
  have hq : (queued h c x).queue = (txWindow x h.txid).queue ++ [⟨h.txid, h.epoch, c⟩] := rfl
  rw [hq, txWindow_queue, hx]
  rfl

/-- What the change of a session leaves. -/
structure SessionsOnly (s t : State) : Prop where
  only : JrpOnly s t
  out : t.out = s.out
  peers : t.jrp.peers = s.jrp.peers
  running : t.jrp.running = s.jrp.running
  held : t.jrp.held = s.jrp.held

theorem sessionsOnly_updSession (id : Nat) (f : JrpSession → JrpSession) (s : State) : SessionsOnly s (s.updSession id f) :=
  ⟨(JrpOnly.refl s).updSession _ _, rfl, rfl, rfl, rfl⟩

theorem SessionsOnly.trans {s t u : State} (h : SessionsOnly s t) (h' : SessionsOnly t u) : SessionsOnly s u :=
  ⟨h.only.trans h'.only, h'.out.trans h.out, h'.peers.trans h.peers, h'.running.trans h.running, h'.held.trans h.held⟩

/-- The state in which the command of a REQUEST that passes waits alone. -/
theorem jrpQueued_only {s : State} {h : JrpHdr} {x : JrpSession} {c : JrpCmd} (hs : s.jrp.sessions = [x]) (hqueue : x.queue = []) :
    ∃ w v y, s.updSession x.id (fun y => { y with last := s.now }) = w ∧ w.updSession x.id (queued h c) = v ∧ SessionsOnly s w ∧
      SessionsOnly s v ∧ v.jrp.sessions = [y] ∧ SameLink x y ∧ y.queue = [⟨h.txid, h.epoch, c⟩] ∧ s.jrpCredit y = s.jrpCredit x := by
  have hw := updSession_one (s := s) (x := x) (fun y => { y with last := s.now }) hs rfl
  have hwonly := sessionsOnly_updSession x.id (fun y => { y with last := s.now }) s
  have hv := updSession_one (queued h c) hw rfl
  exact ⟨_, _, _, rfl, rfl, hwonly, hwonly.trans (sessionsOnly_updSession _ _ _), hv, sameLink_queued h c x s.now,
    queued_queue hqueue, by simp [jrpCredit, queued, txWindow]⟩

/-- A REQUEST that passes every judgment is carried out at once on a state that differs from that before it in JRP's own only. -/
theorem jrpRequest_ready {s : State} {h : JrpHdr} {x : JrpSession} {c : JrpCmd} (hr : JrpReady h x c s)
    (hfree : ∀ t : State, t.jrpBlocked c = false) : ∃ v y, JrpOnly s v ∧ v.out = s.out ∧ v.jrp.sessions = [y] ∧ SameLink x y ∧
      s.jrpRequest h true c = v.jrpServe y ⟨h.txid, h.epoch, c⟩ := by
  obtain ⟨hstep, -, -, hhears, hform, hsession, hmac, htarget, hfresh, hcode, hsess, hrun, hheld, -, hqueue, hcredit, -⟩ := hr
  obtain ⟨w, v, y, hw, hv, ⟨hwonly, -, hpeers, -, -⟩, ⟨hvonly, hvout, -, hvrun, hvheld⟩, hvsess, hlink, hq, hsame⟩ :=
    jrpQueued_only (h := h) (c := c) hsess hqueue
  refine ⟨v, y, hvonly, hvout, hvsess, hlink, ?_⟩
  rw [← jrpPump_one (hvrun.trans hrun) (hvheld.trans hheld) hvsess hq (by rw [jrpCredit, hvonly.now, ← jrpCredit, hsame]; exact hcredit) (hfree v)]
  have hcode' : w.jrpRefusal x true c = 0 := by
    have hwindow : w.windowOpen = s.windowOpen := by unfold windowOpen; rw [hwonly.key, hwonly.now]
    rw [← hcode]
    unfold jrpRefusal
    rw [hwindow, hpeers]
  have hservice : w.inService = true := by rw [inService, hwonly.get, hstep]; rfl
  have hact : w.jrpQueue h x true c = v.jrpPump := by
    rw [jrpQueue, if_neg (by rw [hqueue]; decide), if_neg (not_not.mpr hcode'), if_neg (by simp [hservice]), ← hv]
    rfl
  have htarget' : w.ownSys h.target = true := by
    rw [← htarget, ownSys, ownSys, use_congr hwonly.inUse]
  unfold jrpRequest
  rw [if_neg (by simp [hhears]), if_neg (by simp [hform]), hsession]
  dsimp only
  rw [if_neg (by rintro ⟨h1, h2⟩; simp [hmac h1] at h2), hw, if_neg (by simp [htarget']), hfresh]
  exact hact

end State

open State in
/-- A REQUEST that passes every judgment, whose command ends at once: it is carried out, and answered. -/
theorem exec_carried {i : Instr} {s : State} {h : JrpHdr} {x : JrpSession} {c : JrpCmd} (hi : exec i s = .next (s.jrpRequest h true c))
    (hr : JrpReady h x c s) (hfree : ∀ t : State, t.jrpBlocked c = false) (hnames : c.names = none)
    (hc : ∀ mode win max env, c ≠ .updCommit mode win max env) : ∃ y z, JrpOnly s z ∧ z.out = s.out ∧
      ∀ a u, z.jrpCarry y h.txid c = (some a, u) → u.jrp = z.jrp → u.twin.mirror = z.twin.mirror →
        ∃ t, exec i s = .next t ∧ Answered x h.txid a u t := by
  obtain ⟨v, y, hv, hout, hsess, hlink, heq⟩ := jrpRequest_ready hr hfree
  obtain ⟨-, -, hmirror, -⟩ := hr
  have hz := jrpTaken_only y ⟨h.txid, h.epoch, c⟩ v
  refine ⟨y, _, hv.trans hz, hout, fun a u hu hjrp hm => ?_⟩
  have hjudged : (v.jrpTaken y ⟨h.txid, h.epoch, c⟩).jrpJudged y ⟨h.txid, h.epoch, c⟩ = (some a, u) := by
    rw [← hu]
    unfold jrpJudged
    rw [hnames]
  rw [hi, heq, jrpServe_told hjudged hc, hlink.id]
  refine ⟨_, rfl, answered_jrpTell (y := taken (v.jrpCredit y) v.now y) h.txid a ?_ ?_ ?_⟩
  · rw [hjrp]
    exact jrpTaken_sessions _ hsess
  · obtain ⟨hid, hport, hsrc, hsport, hhmac, hnotes⟩ := hlink
    exact ⟨hid, hport, hsrc, hsport, hhmac, hnotes⟩
  · rw [hm, hz.mirror, hv.mirror, hmirror]

open State in
/-- So is a COMMIT, and then its restart follows. -/
theorem exec_carried_commit {s : State} {h : JrpHdr} {x : JrpSession} {mode win max : Nat} {env : StartEnv}
    (hr : JrpReady h x (.updCommit mode win max env) s) : ∃ y z, JrpOnly s z ∧ z.out = s.out ∧
      ∀ a u, z.jrpCarry y h.txid (.updCommit mode win max env) = (some a, u) → u.jrp = z.jrp → u.twin.mirror = z.twin.mirror →
        ∃ t, exec (.jrpUpdCommit h mode win max env) s = .next (t.restartDue env) ∧ Answered x h.txid a u t := by
  obtain ⟨v, y, hv, hout, hsess, hlink, heq⟩ := jrpRequest_ready hr fun _ => rfl
  obtain ⟨-, -, hmirror, -⟩ := hr
  have hz := jrpTaken_only y ⟨h.txid, h.epoch, .updCommit mode win max env⟩ v
  refine ⟨y, _, hv.trans hz, hout, fun a u hu hjrp hm => ?_⟩
  have hjudged : (v.jrpTaken y ⟨h.txid, h.epoch, .updCommit mode win max env⟩).jrpJudged y
      ⟨h.txid, h.epoch, .updCommit mode win max env⟩ = (some a, u) := hu
  have hexec : exec (.jrpUpdCommit h mode win max env) s = .next (s.jrpRequest h true (.updCommit mode win max env)) := rfl
  rw [hexec, heq, jrpServe_commit hjudged rfl, hlink.id]
  refine ⟨_, rfl, answered_jrpTell (y := taken (v.jrpCredit y) v.now y) h.txid a ?_ ?_ ?_⟩
  · rw [hjrp]
    exact jrpTaken_sessions _ hsess
  · obtain ⟨hid, hport, hsrc, hsport, hhmac, hnotes⟩ := hlink
    exact ⟨hid, hport, hsrc, hsport, hhmac, hnotes⟩
  · rw [hm, hz.mirror, hv.mirror, hmirror]


namespace State

/-! ### Arguments put into registers -/

section
variable {r : Nat → FRef}

theorem get_putArgs_other {q : FRef} {l : List Nat} (s : State) (hhi : ∀ i, (r i).hi < 32)
    (h : ∀ i, i < l.length → q.addr ≠ (r i).addr) : (s.putArgs r l).get q = s.get q :=
  each_inv_mem s (fun t => t.get q = s.get q) _ _ (fun p hp t ht => by
    obtain ⟨-, hlt, -⟩ := List.mem_zipIdx (x := p.1) (i := p.2) hp
    rw [get_set_other _ _ (FRef.apart_of_addr (h p.2 (by omega))) (hhi _), ht]) rfl

theorem regsOnly_putArgs (l : List Nat) (s : State) : RegsOnly s (s.putArgs r l) :=
  (RegsOnly.refl s).each _ fun _ _ ht => ht.set _ _

/-- Arguments from number `k` on: an argument is the last write of its register. -/
theorem get_each_zipIdx {l : List Nat} {j v : Nat} (k : Nat) (s : State) (hr : ∀ i n, i ≠ n → (r i).addr ≠ (r n).addr)
    (hhi : ∀ i, (r i).hi < 32) (hl : l[j]? = some v) :
    (s.each (l.zipIdx k) fun p t => t.set (r p.2) p.1).get (r (k + j)) = v % 2 ^ (r (k + j)).width := by
  induction l generalizing s j k with
  | nil => simp at hl
  | cons a l ih =>
    rw [List.zipIdx_cons]
    cases j with
    | zero =>
      obtain rfl : a = v := by simpa using hl
      have hrest : ((s.set (r k) a).each (l.zipIdx (k + 1)) fun p t => t.set (r p.2) p.1).get (r k) = (s.set (r k) a).get (r k) :=
        each_inv_mem _ (fun t => t.get (r k) = (s.set (r k) a).get (r k)) _ _ (fun p hp t ht => by
          obtain ⟨hle, -, -⟩ := List.mem_zipIdx (x := p.1) (i := p.2) hp
          rw [get_set_other _ _ (FRef.apart_of_addr (hr k p.2 (by omega))) (hhi _), ht]) rfl
      exact hrest.trans (get_set_same _ _ (hhi k))
    | succ j =>
      have := ih (k + 1) (s.set (r k) a) (by simpa using hl)
      rw [show k + 1 + j = k + (j + 1) by omega] at this
      exact this

theorem get_putArgs_same {l : List Nat} {j v : Nat} (s : State) (hr : ∀ i n, i ≠ n → (r i).addr ≠ (r n).addr)
    (hhi : ∀ i, (r i).hi < 32) (hl : l[j]? = some v) : (s.putArgs r l).get (r j) = v % 2 ^ (r j).width := by
  have h := get_each_zipIdx 0 s hr hhi hl
  rw [Nat.zero_add] at h
  exact h

end

theorem updArg_putArgs {l : List Nat} {j v : Nat} (s : State) (hl : l[j]? = some v) (hv : v < 2 ^ 32) :
    (s.putArgs Reg.UPD.ARG l).updArg j = v := by
  rw [updArg, get_putArgs_same s (fun i n h => by simp only [Reg.UPD.ARG]; omega) (fun _ => (by decide : (31 : Nat) < 32)) hl]
  exact Nat.mod_eq_of_lt hv

/-! ### UPD_STAGE -/

/-- `u` is `s` as a request of UPD_STAGE finds it: its arguments and bytes stored, and DONE cleared. -/
structure Prepared (s u : State) : Prop where
  upd : u.upd = s.upd
  flash : u.flash = s.flash
  fuses : u.fuses = s.fuses
  phase : u.updPhase = s.updPhase
  lc : u.lcState = s.lcState

namespace Prepared

variable {s u : State}

theorem hdr (h : Prepared s u) : u.hdrInForce = s.hdrInForce := by simp only [hdrInForce, h.upd, h.flash]
theorem trial (h : Prepared s u) : u.trialOpen = s.trialOpen := by rw [trialOpen, trialOpen, h.hdr]
theorem size (h : Prepared s u) (w : Bool) : u.targetSize w = s.targetSize w := by
  simp only [targetSize, cfgSlotSize, h.upd, h.flash]
theorem verify (h : Prepared s u) (rd : StageRead) : u.verifyCode rd = s.verifyCode rd :=
  verifyCode_congr rd h.upd h.flash h.fuses h.lc

end Prepared

/-- The bytes of a WRITE put into the staging buffer. -/
def putBytes (b : List Byte) (s : State) : State :=
  s.each (List.range ((b.length + 3) / 4)) fun j u => u.set (Reg.UPD.BUF j) (leNat ((b.drop (4 * j)).take 4))

/-- Arguments and bytes as UPD_STAGE stores them. -/
def argsStored (op : Nat) (args : List Nat) (b : List Byte) (s : State) : State :=
  (s.putArgs Reg.UPD.ARG (args.take 4)).when (op == 2) (putBytes b)

/-- The state that the request of UPD_STAGE finds. -/
def staged (op : Nat) (args : List Nat) (b : List Byte) (s : State) : State := (s.argsStored op args b).updStart

theorem get_putBytes_other {q : FRef} (b : List Byte) (s : State) (h : q.addr < 0x2B041000) : (s.putBytes b).get q = s.get q :=
  each_inv_mem s (fun t => t.get q = s.get q) _ _ (fun j _ t ht => by
    rw [get_set_other _ _ (FRef.apart_of_addr (by simp only [Reg.UPD.BUF]; omega)) (by decide : (31 : Nat) < 32), ht]) rfl

theorem regsOnly_putBytes (b : List Byte) (s : State) : RegsOnly s (s.putBytes b) :=
  (RegsOnly.refl s).each _ fun _ _ ht => ht.set _ _

theorem regsOnly_staged (op : Nat) (args : List Nat) (b : List Byte) (s : State) : RegsOnly s (s.staged op args b) :=
  ((regsOnly_putArgs _ s).trans ((RegsOnly.refl _).when _ fun _ hu => hu.trans (regsOnly_putBytes b _))).set _ _

/-- A register below the buffer that is no argument and not the result. -/
theorem get_staged {q : FRef} (op : Nat) (args : List Nat) (b : List Byte) (s : State) (hlo : q.addr < 0x2B041000)
    (harg : q.addr < 0x2B040014 ∨ 0x2B040024 ≤ q.addr) (hres : q.addr ≠ 0x2B040030) : (s.staged op args b).get q = s.get q := by
  rw [staged, get_updStart _ hres, argsStored, when_keeps _ (fun t => t.get q) _ _ (get_putBytes_other b _ hlo)]
  refine get_putArgs_other s (fun _ => (by decide : (31 : Nat) < 32)) fun i hi => ?_
  have := List.length_take_le 4 args
  simp only [Reg.UPD.ARG]
  omega

theorem prepared_staged (op : Nat) (args : List Nat) (b : List Byte) {s z : State} (hz : JrpOnly s z) :
    Prepared s (z.staged op args b) :=
  have h := regsOnly_staged op args b z
  ⟨h.upd.trans hz.upd, h.flash.trans hz.flash, h.fuses.trans hz.fuses,
    (get_staged op args b z (by decide) (by decide) (by decide)).trans (hz.get _),
    (get_staged op args b z (by decide) (by decide) (by decide)).trans (hz.get _)⟩

theorem updArg_staged {op j v : Nat} {args : List Nat} (b : List Byte) (s : State) (hargs : args.length ≤ 4) (hl : args[j]? = some v)
    (hv : v < 2 ^ 32) : (s.staged op args b).updArg j = v := by
  have hj : j < 4 := by have := (List.getElem?_eq_some_iff.mp hl).1; omega
  have hbuf (t : State) : (t.putBytes b).get (Reg.UPD.ARG j) = t.get (Reg.UPD.ARG j) :=
    get_putBytes_other b t (by simp only [Reg.UPD.ARG]; omega)
  rw [updArg, staged, get_updStart _ (by simp only [Reg.UPD.ARG]; omega), argsStored, when_keeps _ (fun t => t.get (Reg.UPD.ARG j)) _ _ (hbuf _),
    List.take_of_length_le hargs]
  exact updArg_putArgs s hl hv

/-- A refused UPD_STAGE. -/
theorem jrpStage_refused {op : Nat} {b : List Byte} (args : List Nat) (rd : StageRead) (s : State)
    (h : ([1, 2, 3, 6]).contains op = false ∨ 1024 < b.length) : s.jrpStage op args b rd = (jrpDone 11 [], s) := by
  unfold jrpStage
  rw [if_pos (by simpa using h)]

/-- The answer of UPD_STAGE: the result of the request, which of a VERIFY in a staging is the final status. -/
def stageResult (op phase code : Nat) : JrpResult :=
  if op = 3 ∧ phase = 1 then { code := 0, fields := [], late := true, final := some { code := code, flags := 0, epoch := 0, tsw := 0 } }
  else jrpDone code []

theorem updPhase_argsStored (op : Nat) (args : List Nat) (b : List Byte) (s : State) :
    (s.argsStored op args b).updPhase = s.updPhase := by
  have h := (prepared_staged op args b (JrpOnly.refl s)).phase
  rwa [staged, updPhase, get_updStart _ (by decide)] at h

theorem jrpStage_eq {op : Nat} {args : List Nat} {b : List Byte} {rd : StageRead} {s u : State}
    (hop : ([1, 2, 3, 6]).contains op = true) (hb : b.length ≤ 1024) (hu : ((s.argsStored op args b).updCmd op rd).1 = u) :
    s.jrpStage op args b rd = (stageResult op s.updPhase (u.get Reg.UPD.RES_CODE), u) := by
  rw [← hu, ← updPhase_argsStored op args b s]
  unfold jrpStage stageResult
  rw [if_neg (by rw [hop]; simpa using hb)]
  simp only [beq_iff_eq]
  rfl

theorem updCmd_begin (rd : StageRead) (s : State) : (s.updCmd 1 rd).1 = s.updStart.opBegin := rfl
theorem updCmd_write (rd : StageRead) (s : State) : (s.updCmd 2 rd).1 = s.updStart.opWrite := rfl
theorem updCmd_verify (rd : StageRead) (s : State) : (s.updCmd 3 rd).1 = s.updStart.opVerify rd := rfl
theorem updCmd_confirm (rd : StageRead) (s : State) : (s.updCmd 5 rd).1 = s.updStart.opConfirm := rfl
theorem updCmd_abort (rd : StageRead) (s : State) : (s.updCmd 6 rd).1 = s.updStart.opUpdAbort := rfl

end State

section
open State

variable {s : State} {h : JrpHdr} {x : JrpSession} {args : List Nat} {b : List Byte} {rd : StageRead}

/-- A request that UPD_STAGE makes: carried out on the state it finds, and answered. -/
theorem exec_updStage {op : Nat} {f : State → State} (hr : JrpReady h x (.updStage op args b rd) s)
    (hop : ([1, 2, 3, 6]).contains op = true) (hb : b.length ≤ 1024)
    (hf : ∀ v : State, (v.updCmd op rd).1 = f v.updStart) (hk : ∀ z, JrpOnly s z → RequestOnly (z.staged op args b) (f (z.staged op args b))) :
    ∃ z, JrpOnly s z ∧ z.out = s.out ∧ ∃ t, exec (.updStage h op args b rd) s = .next t ∧
      Answered x h.txid (stageResult op s.updPhase ((f (z.staged op args b)).get Reg.UPD.RES_CODE)) (f (z.staged op args b)) t := by
  obtain ⟨y, z, hz, hout, hcarry⟩ := exec_carried (i := .updStage h op args b rd) rfl hr (fun _ => rfl) rfl (fun _ _ _ _ hc => by cases hc)
  have hreq : RequestOnly z (f (z.staged op args b)) :=
    (RequestOnly.of_regsOnly (regsOnly_staged op args b z)).trans (hk z hz)
  have hstage := jrpStage_eq (args := args) (rd := rd) (s := z) hop hb (hf _)
  refine ⟨z, hz, hout, hcarry _ (f (z.staged op args b)) ?_ hreq.jrp (congrArg _ hreq.twin)⟩
  rw [show s.updPhase = z.updPhase from (hz.get _).symm]
  show (some (z.jrpStage op args b rd).1, (z.jrpStage op args b rd).2) = _
  rw [hstage]
  rfl

end

section
open State

/-- A byte of a number laid out lowest first. -/
theorem leNat_byte {l : List Byte} {i : Nat} (h : i < l.length) : BitVec.ofNat 8 (leNat l / 256 ^ i) = l[i] := by
  induction l generalizing i with
  | nil => simp at h
  | cons x l ih =>
    have hx := x.isLt
    cases i with
    | zero =>
      rw [leNat, Nat.pow_zero, Nat.div_one]
      apply BitVec.eq_of_toNat_eq
      simp only [BitVec.toNat_ofNat, List.getElem_cons_zero]
      omega
    | succ i =>
      have hdiv : (x.toNat + 256 * leNat l) / 256 ^ (i + 1) = leNat l / 256 ^ i := by
        rw [Nat.pow_succ', ← Nat.div_div_eq_div_mul]
        congr 1
        omega
      rw [leNat, hdiv, List.getElem_cons_succ, ih (by simpa using h)]

theorem get_putBytes {b : List Byte} {k : Nat} (s : State) (hk : k < (b.length + 3) / 4) :
    (s.putBytes b).get (Reg.UPD.BUF k) = leNat ((b.drop (4 * k)).take 4) := by
  have hmake (j : Nat) (t : State) : (t.set (Reg.UPD.BUF j) (leNat ((b.drop (4 * j)).take 4))).get (Reg.UPD.BUF j) =
      leNat ((b.drop (4 * j)).take 4) := by
    rw [get_set_same _ _ (by decide : (31 : Nat) < 32)]
    exact leNat_mod _ (List.length_take_le 4 _)
  refine each_of_mem (p := fun t => t.get (Reg.UPD.BUF k) = leNat ((b.drop (4 * k)).take 4)) s (List.mem_range.mpr hk) (hmake k)
    fun j _ t ht => ?_
  by_cases hj : j = k
  · rw [hj]
    exact hmake k t
  · rw [get_set_other _ _ (FRef.apart_of_addr (by simp only [Reg.UPD.BUF]; omega)) (by decide : (31 : Nat) < 32), ht]

/-- The staging buffer gives back the bytes that UPD_STAGE put there. -/
theorem bufBytes_staged {args : List Nat} {b : List Byte} {j : Nat} (s : State) (hb : b.length ≤ 1024) (hj : j < b.length) :
    ((s.staged 2 args b).bufBytes b.length)[j]? = some (b.getD j 0) := by
  have hword : (s.staged 2 args b).get (Reg.UPD.BUF (j / 4)) = leNat ((b.drop (4 * (j / 4))).take 4) := by
    rw [staged, get_updStart _ (by simp only [Reg.UPD.BUF]; omega)]
    exact get_putBytes _ (by omega)
  have hlen : j % 4 < ((b.drop (4 * (j / 4))).take 4).length := by
    rw [List.length_take, List.length_drop]
    omega
  rw [bufBytes_getElem? _ hj (by omega), hword, leNat_byte hlen, List.getElem_take, List.getElem_drop, List.getD_eq_getElem _ _ hj]
  simp only [show 4 * (j / 4) + j % 4 = j by omega]

variable {s : State} {h : JrpHdr} {x : JrpSession} {args : List Nat} {b : List Byte} {rd : StageRead}

/-- The facts of a request that its answer leaves. -/
theorem State.Answered.done {txid code state : Nat} {a : JrpResult} {u t : State} (ht : Answered x txid a u t) (hu : UpdDone code state u) :
    UpdDone code state t := by
  obtain ⟨hcode, hdone, hstate⟩ := hu
  exact ⟨(ht.only.get _).trans hcode, (ht.only.get _).trans hdone, (ht.only.get _).trans hstate⟩

theorem stage_begin_accepted {a : Nat} (hr : JrpReady h x (.updStage 1 [a] b rd) s) (htrial : s.trialOpen = false) (harg : a % 4 ≠ 0)
    (ha : a < 2 ^ 32) (hb : b.length ≤ 1024) : ∃ t, exec (.updStage h 1 [a] b rd) s = .next t ∧ Replied x h.txid 0 [0, 0] t ∧
      UpdDone 0 1 t ∧ t.upd.fw = bit a 0 ∧ t.upd.cfg = bit a 1 ∧ t.fuses = s.fuses := by
  obtain ⟨z, hz, -, t, he, ht⟩ := exec_updStage hr (by decide) hb (updCmd_begin rd) fun _ _ => requestOnly_opBegin _
  have hv := prepared_staged 1 [a] b hz
  have hargv : (z.staged 1 [a] b).updArg 0 = a := updArg_staged b z (by simp) rfl ha
  obtain ⟨hdone, hfw, hcfg, hfuses⟩ := opBegin_leaves (hv.trial.trans htrial) (hargv.symm ▸ harg)
  have hrep := ht.replied
  rw [hdone.code] at hrep
  exact ⟨t, he, hrep, ht.done hdone, by rw [ht.only.upd, hfw, hargv], by rw [ht.only.upd, hcfg, hargv],
    (ht.only.fuses.trans hfuses).trans hv.fuses⟩

/-- A request of UPD_STAGE that only ends with a code. -/
theorem stage_refused {op code : Nat} {f : State → State} (hr : JrpReady h x (.updStage op args b rd) s)
    (hop : ([1, 2, 3, 6]).contains op = true) (hfinal : ¬(op = 3 ∧ s.updPhase = 1)) (hb : b.length ≤ 1024) (hcode : code < 32)
    (hf : ∀ v : State, (v.updCmd op rd).1 = f v.updStart)
    (href : ∀ z, JrpOnly s z → f (z.staged op args b) = (z.staged op args b).updResult code) :
    ∃ t, exec (.updStage h op args b rd) s = .next t ∧ Replied x h.txid code [code, 0] t ∧ UpdDone code (s.get Reg.UPD.STAT_STATE) t ∧
      t.upd = s.upd ∧ t.flash = s.flash := by
  obtain ⟨z, hz, -, t, he, ht⟩ := exec_updStage hr hop hb hf fun z hz => by
    rw [href z hz]
    exact (RequestOnly.refl _).updResult code
  have hv := prepared_staged op args b hz
  have honly : RegsOnly (z.staged op args b) ((z.staged op args b).updResult code) := ((RegsOnly.refl _).set _ _).set _ _
  have hres : stageResult op s.updPhase code = jrpDone code [] := if_neg hfinal
  rw [href z hz, get_updResult_code _ hcode, hres] at ht
  exact ⟨t, he, ht.replied, ht.done (updDone_updResult hcode hv.phase), (ht.only.upd.trans honly.upd).trans hv.upd,
    (ht.only.flash.trans honly.flash).trans hv.flash⟩

theorem stage_begin_refused {a : Nat} (hr : JrpReady h x (.updStage 1 [a] b rd) s) (hno : s.trialOpen = true ∨ a % 4 = 0)
    (ha : a < 2 ^ 32) (hb : b.length ≤ 1024) : ∃ t, exec (.updStage h 1 [a] b rd) s = .next t ∧
      Replied x h.txid (if s.trialOpen then 1 else 11) [(if s.trialOpen then 1 else 11), 0] t ∧ t.upd = s.upd ∧ t.flash = s.flash := by
  have hargv (z : State) : (z.staged 1 [a] b).updArg 0 = a := updArg_staged b z (by simp) rfl ha
  cases htrial : s.trialOpen with
  | true =>
    obtain ⟨t, he, hrep, -, hupd, hflash⟩ := stage_refused (code := 1) hr (by decide) (by simp) hb (by decide) (updCmd_begin rd)
      fun z hz => opBegin_busy ((prepared_staged 1 [a] b hz).trial.trans htrial)
    exact ⟨t, he, hrep, hupd, hflash⟩
  | false =>
    obtain ⟨t, he, hrep, -, hupd, hflash⟩ := stage_refused (code := 11) hr (by decide) (by simp) hb (by decide) (updCmd_begin rd)
      fun z hz => opBegin_none ((prepared_staged 1 [a] b hz).trial.trans htrial)
        (by rw [hargv]; exact hno.resolve_left (by simp [htrial]))
    exact ⟨t, he, hrep, hupd, hflash⟩

/-- The arguments of a WRITE of UPD_STAGE as the request finds them. -/
theorem writeArgs {a o n q : Nat} (z : State) (ha : a < 2 ^ 32) (ho : o < 2 ^ 32) (hn : n < 2 ^ 32) (hq : q < 2 ^ 31) :
    (z.staged 2 [a, o, n, q] b).updArg 0 = a ∧ (z.staged 2 [a, o, n, q] b).updArg 1 = o ∧
      (z.staged 2 [a, o, n, q] b).updArg 2 = n ∧ bit ((z.staged 2 [a, o, n, q] b).updArg 3) 31 = false := by
  have hq3 : (z.staged 2 [a, o, n, q] b).updArg 3 = q := updArg_staged b z (by simp) rfl (by omega)
  refine ⟨updArg_staged b z (by simp) rfl ha, updArg_staged b z (by simp) rfl ho, updArg_staged b z (by simp) rfl hn, ?_⟩
  rw [hq3]
  exact Nat.testBit_lt_two_pow hq

theorem stage_write_accepted {a o n q j : Nat} {w : Bool} (hr : JrpReady h x (.updStage 2 [a, o, n, q] b rd) s) (ha : a < 2 ^ 32)
    (ho : o < 2 ^ 32) (hq : q < 2 ^ 31) (hb : b.length ≤ 1024) (hn : n = b.length) (hphase : s.get Reg.UPD.STAT_STATE = 1)
    (hw : (s.upd.fw && (!s.upd.cfg || bit a 0)) = w) (hsize : o + n ≤ s.targetSize w) (hj : j < n) :
    ∃ t, exec (.updStage h 2 [a, o, n, q] b rd) s = .next t ∧ Replied x h.txid 0 [0, 0] t ∧
      Assoc.findD (t.targetBytes w s.upd) (o + j) 0xFF = b.getD j 0 ∧ t.upd = s.upd := by
  have hacc (z : State) (hz : JrpOnly s z) : (z.staged 2 [a, o, n, q] b).opWrite =
      ((z.staged 2 [a, o, n, q] b).stageBytes w o ((z.staged 2 [a, o, n, q] b).bufBytes n)).updResult 0 := by
    have hv := prepared_staged 2 [a, o, n, q] b hz
    obtain ⟨h0, h1, h2, h3⟩ := writeArgs (b := b) (n := n) z ha ho (by omega) hq
    have htarget : ((z.staged 2 [a, o, n, q] b).upd.fw && (!(z.staged 2 [a, o, n, q] b).upd.cfg ||
        bit ((z.staged 2 [a, o, n, q] b).updArg 0) 0)) = w := by rw [hv.upd, h0, hw]
    have hwrite := opWrite_accepted (hv.phase.trans hphase) (by rw [htarget, h1, h2, hv.size]; exact hsize) h3 (by rw [h2]; omega)
    rwa [htarget, h1, h2] at hwrite
  obtain ⟨z, hz, -, t, he, ht⟩ := exec_updStage hr (by decide) hb (updCmd_write rd) fun z hz => by
    rw [hacc z hz]
    exact ((RequestOnly.refl _).updFlash _).updResult 0
  have hv := prepared_staged 2 [a, o, n, q] b hz
  rw [hacc z hz] at ht
  obtain ⟨hdone, hupd, hbytes⟩ := stageBytes_leaves w o ((z.staged 2 [a, o, n, q] b).bufBytes n) (z.staged 2 [a, o, n, q] b)
  have hrep := ht.replied
  rw [hdone.code] at hrep
  refine ⟨t, he, hrep, ?_, (ht.only.upd.trans hupd).trans hv.upd⟩
  have hbytes' : t.targetBytes w s.upd = programBytes ((z.staged 2 [a, o, n, q] b).targetBytes w s.upd) o
      ((z.staged 2 [a, o, n, q] b).bufBytes n) := by
    rw [← hv.upd, ← hbytes]
    simp only [targetBytes, fwSlot, cfgSlot, ht.only.flash]
  rw [hbytes', hn]
  exact programBytes_at _ _ (bufBytes_staged z hb (hn ▸ hj))

theorem stage_write_refused {a o n q : Nat} (hr : JrpReady h x (.updStage 2 [a, o, n, q] b rd) s) (ha : a < 2 ^ 32)
    (ho : o < 2 ^ 32) (hn : n < 2 ^ 32) (hq : q < 2 ^ 31) (hb : b.length ≤ 1024) (hno : s.get Reg.UPD.STAT_STATE ≠ 1 ∨
      s.targetSize (s.upd.fw && (!s.upd.cfg || bit a 0)) < o + n ∨ 4096 < n) :
    ∃ t, exec (.updStage h 2 [a, o, n, q] b rd) s = .next t ∧ Replied x h.txid 11 [11, 0] t ∧ t.flash = s.flash ∧ t.upd = s.upd := by
  obtain ⟨t, he, hrep, -, hupd, hflash⟩ := stage_refused (code := 11) hr (by decide) (by simp) hb (by decide) (updCmd_write rd)
    fun z hz => by
      have hv := prepared_staged 2 [a, o, n, q] b hz
      obtain ⟨h0, h1, h2, h3⟩ := writeArgs (b := b) z ha ho hn hq
      refine opWrite_refused ?_
      rw [hv.phase, hv.upd, h0, h1, h2, h3, hv.size]
      exact hno.imp_right (Or.imp_right fun hn => ⟨rfl, hn⟩)
  exact ⟨t, he, hrep, hflash, hupd⟩

/-- The notifications of a session that had none, after a VERIFY. -/
theorem notes_verify {phase code : Nat} {u t : State} (ht : Answered x h.txid (stageResult 3 phase code) u t) (hphase : phase = 1)
    (hnotes : x.notes = []) : (t.jrp.sessions.map fun y => y.notes) = [[.complete h.txid ⟨code, 0, 0, 0⟩]] := by
  rw [ht.notes, hnotes, stageResult, if_pos ⟨rfl, hphase⟩]
  rfl

theorem requestOnly_keepStaged (v : State) : RequestOnly v (v.keepStaged rd) := by
  unfold keepStaged
  extract_lets s1 s2
  have h1 : RequestOnly v s1 := (RequestOnly.refl v).updUpd _
  have h2 : RequestOnly v s2 := h1.when _ fun _ hu => hu.updFlash _
  clear_value s2
  split
  · exact h2.updFlash _
  · exact h2

theorem requestOnly_opVerify (v : State) : RequestOnly v (v.opVerify rd) := by
  unfold opVerify
  dsimp only
  split_ifs
  · exact (RequestOnly.refl v).updResult _
  · exact (((requestOnly_keepStaged v).set _ _).raise _ _).updResult _
  · exact ((((RequestOnly.refl v).when _ fun _ hu => hu.raise _ _).raise _ _).set _ _).updResult _

/-- The answer to a VERIFY in a staging. -/
theorem replied_verify {phase code : Nat} {u t : State} (ht : Answered x h.txid (stageResult 3 phase code) u t) (hphase : phase = 1) :
    Replied x h.txid 0 [code, 0] t := by
  have hrep := ht.replied
  rw [stageResult, if_pos ⟨rfl, hphase⟩] at hrep
  exact hrep

theorem stage_verify_passes (hr : JrpReady h x (.updStage 3 args b rd) s) (hb : b.length ≤ 1024) (hphase : s.get Reg.UPD.STAT_STATE = 1)
    (hc : s.verifyCode rd = 0) (hnotes : x.notes = []) : ∃ t, exec (.updStage h 3 args b rd) s = .next t ∧ Replied x h.txid 0 [0, 0] t ∧
      t.get Reg.UPD.STAT_STATE = 2 ∧ t.upd.staged = rd ∧ (t.jrp.sessions.map fun y => y.notes) = [[.complete h.txid ⟨0, 0, 0, 0⟩]] := by
  obtain ⟨z, hz, -, t, he, ht⟩ := exec_updStage hr (by decide) hb (updCmd_verify rd) fun _ _ => requestOnly_opVerify _
  have hv := prepared_staged 3 args b hz
  obtain ⟨hdone, -, hupd⟩ := opVerify_passes (hv.phase.trans hphase) ((hv.verify rd).trans hc)
  rw [hdone.code] at ht
  exact ⟨t, he, replied_verify ht hphase, (ht.done hdone).state, by rw [ht.only.upd, hupd], notes_verify ht hphase hnotes⟩

theorem stage_verify_fails (hr : JrpReady h x (.updStage 3 args b rd) s) (hb : b.length ≤ 1024) (hphase : s.get Reg.UPD.STAT_STATE = 1)
    (hc : s.verifyCode rd ≠ 0) (hnotes : x.notes = []) : ∃ t, exec (.updStage h 3 args b rd) s = .next t ∧
      Replied x h.txid 0 [s.verifyCode rd, 0] t ∧ t.get Reg.UPD.STAT_STATE = 0 ∧ t.flash = s.flash ∧
      (t.jrp.sessions.map fun y => y.notes) = [[.complete h.txid ⟨s.verifyCode rd, 0, 0, 0⟩]] := by
  obtain ⟨z, hz, -, t, he, ht⟩ := exec_updStage hr (by decide) hb (updCmd_verify rd) fun _ _ => requestOnly_opVerify _
  have hv := prepared_staged 3 args b hz
  obtain ⟨hdone, -, honly⟩ := opVerify_fails (hv.phase.trans hphase) ((hv.verify rd).trans_ne hc)
  rw [hv.verify rd] at hdone
  rw [hdone.code] at ht
  exact ⟨t, he, replied_verify ht hphase, (ht.done hdone).state, (ht.only.flash.trans honly.flash).trans hv.flash,
    notes_verify ht hphase hnotes⟩

theorem stage_verify_idle (hr : JrpReady h x (.updStage 3 args b rd) s) (hb : b.length ≤ 1024) (hphase : s.get Reg.UPD.STAT_STATE ≠ 1) :
    ∃ t, exec (.updStage h 3 args b rd) s = .next t ∧ Replied x h.txid 11 [11, 0] t ∧
      t.get Reg.UPD.STAT_STATE = s.get Reg.UPD.STAT_STATE ∧ t.flash = s.flash := by
  obtain ⟨t, he, hrep, hdone, -, hflash⟩ := stage_refused (code := 11) hr (by decide) (fun hf => hphase hf.2) hb (by decide)
    (updCmd_verify rd) fun z hz => opVerify_idle rd ((prepared_staged 3 args b hz).phase.trans_ne hphase)
  exact ⟨t, he, hrep, hdone.state, hflash⟩

theorem out_updUpd (f : UpdState → UpdState) (s : State) : (s.updUpd f).out = s.out := rfl

theorem stage_abort (hr : JrpReady h x (.updStage 6 args b rd) s) (hb : b.length ≤ 1024) :
    ∃ t, exec (.updStage h 6 args b rd) s = .next t ∧ t.flash = s.flash ∧ t.out.length = s.out.length + 1 ∧
      t.get Reg.UPD.STAT_STATE = 0 ∧ Replied x h.txid 0 [0, 0] t := by
  obtain ⟨z, hz, hout, t, he, ht⟩ := exec_updStage hr (by decide) hb (updCmd_abort rd) fun _ _ => requestOnly_opUpdAbort _
  have hv := prepared_staged 6 args b hz
  have hstage := (regsOnly_staged 6 args b z).out
  generalize z.staged 6 args b = u at ht hv hstage
  have heq : u.opUpdAbort = ((u.updUpd discarded).set Reg.UPD.STAT_STATE 0).updResult 0 := rfl
  rw [heq] at ht
  have hflash : (u.updUpd discarded).flash = u.flash := flash_updUpd _ _
  have hsent : (u.updUpd discarded).out = u.out := out_updUpd _ _
  generalize u.updUpd discarded = v at ht hflash hsent
  have hdone : UpdDone 0 0 ((v.set Reg.UPD.STAT_STATE 0).updResult 0) :=
    updDone_updResult (by decide) (get_set_same _ _ (by decide))
  have honly : RegsOnly v ((v.set Reg.UPD.STAT_STATE 0).updResult 0) := (((RegsOnly.refl v).set _ _).set _ _).set _ _
  rw [hdone.code] at ht
  refine ⟨t, he, ?_, ?_, (ht.done hdone).state, ht.replied⟩
  · rw [ht.only.flash, honly.flash, hflash, hv.flash]
  · rw [ht.sent, honly.out, hsent, hstage, hout]

theorem stage_none {op : Nat} (hr : JrpReady h x (.updStage op args b rd) s)
    (hno : ([1, 2, 3, 6]).contains op = false ∨ 1024 < b.length) : ∃ t, exec (.updStage h op args b rd) s = .next t ∧
      Replied x h.txid 11 [11, 0] t ∧ t.upd = s.upd ∧ t.flash = s.flash ∧ RegsKept [] s t := by
  obtain ⟨y, z, hz, -, hcarry⟩ := exec_carried (i := .updStage h op args b rd) rfl hr (fun _ => rfl) rfl (fun _ _ _ _ hc => by cases hc)
  obtain ⟨t, he, ht⟩ := hcarry (jrpDone 11 []) z
    (by show (some (z.jrpStage op args b rd).1, (z.jrpStage op args b rd).2) = _; rw [jrpStage_refused args rd z hno]) rfl rfl
  exact ⟨t, he, ht.replied, ht.only.upd.trans hz.upd, ht.only.flash.trans hz.flash,
    (RegsKept.refl [] s).same (ht.only.regs.trans hz.regs)⟩

end

namespace State

/-! ### The key block -/

theorem regsOnly_showKey (s : State) : RegsOnly s s.showKey :=
  ((((((((RegsOnly.refl s).set _ _).set _ _).set _ _).set _ _).setB _ _).setB _ _).setB _ _)

/-- What the showing of owners and fuses leaves of the state of the key block. -/
theorem get_showKey_stat {r : FRef} (s : State) (h : r.addr = 0x2B030004) : s.showKey.get r = s.get r := by
  have hset (t : State) (q : FRef) (v : Nat) (hq : q.addr ≠ 0x2B030004) (hhi : q.hi < 32) : (t.set q v).get r = t.get r :=
    get_set_other _ _ (FRef.apart_of_addr (by omega)) hhi
  unfold showKey setB
  rw [hset _ _ _ (by decide) (by decide), hset _ _ _ (by decide) (by decide), hset _ _ _ (by decide) (by decide),
    hset _ _ _ (by decide) (by decide), hset _ _ _ (by decide) (by decide), hset _ _ _ (by decide) (by decide),
    hset _ _ _ (by decide) (by decide)]

theorem fuses_blow (f : Fuses → Fuses) (code : Nat) (s : State) : (s.blow f code).fuses = f s.fuses := by
  unfold blow
  split_ifs with h
  · exact h.symm
  · have hshow (u : State) : RegsOnly u (u.raise 125 [code]).showKey := ((RegsOnly.refl u).raise _ _).trans (regsOnly_showKey _)
    rw [(hshow _).fuses]

/-- What the erase of the key blob leaves. -/
structure BlobErased (s t : State) : Prop where
  only : RequestOnly s t
  fuses : t.fuses = s.fuses
  lc : t.lcState = s.lcState
  owners : t.flash.blob.owners = []

theorem blobErased_eraseBlob (s : State) : BlobErased s s.eraseBlob := by
  have hj := journalOnly_eraseUnder 2 1 s
  have hreq : RequestOnly s (s.eraseUnder 2 1) := .of_journalOnly hj
  unfold eraseBlob
  have hfuses := hj.fuses
  have hregs := hj.regs
  generalize s.eraseUnder 2 1 = u at hreq hfuses hregs
  generalize hv : u.updFlash (fun f => { f with blob := { first := .blank, cert := [], owners := [] } }) = v
  have hvreq : RequestOnly s v := hv ▸ hreq.updFlash _
  have hvfuses : v.fuses = s.fuses := by rw [← hv, fuses_updFlash, hfuses]
  have hvregs : v.regs = s.regs := by rw [← hv, ← hregs]; rfl
  have hvowners : v.flash.blob.owners = [] := by rw [← hv]; rfl
  have honly : RegsOnly v (v.showKey.set Reg.KEY.STAT_NOID 1) := (regsOnly_showKey v).set _ _
  refine ⟨hvreq.trans (.of_regsOnly honly), honly.fuses.trans hvfuses, ?_, by rw [honly.flash, hvowners]⟩
  rw [lcState, get_set_other _ _ (by decide) (by decide), get_showKey_stat _ rfl, get_of_regs hvregs, lcState]

/-- The fuses that a change of the life cycle leaves. -/
def lcFuses (target : Nat) (f : Fuses) : Fuses :=
  if target = 1 then { f with lcf0 := true } else if target = 4 then { f with lcf1 := true } else f

/-- What a change of the life cycle leaves. -/
structure LcChanged (target : Nat) (s t : State) : Prop where
  only : RequestOnly s t
  fuses : t.fuses = lcFuses target s.fuses
  lc : t.lcState = target
  owners : target = 4 → t.flash.blob.owners = []

theorem lcChanged_lcWrite {target : Nat} (s : State) (h : target < 8) : LcChanged target s (s.lcWrite target) := by
  have hblown : RequestOnly s (if target = 1 then s.blow (fun f => { f with lcf0 := true }) 0
      else if target = 4 then s.blow (fun f => { f with lcf1 := true }) 1 else s) ∧
      (if target = 1 then s.blow (fun f => { f with lcf0 := true }) 0
        else if target = 4 then s.blow (fun f => { f with lcf1 := true }) 1 else s).fuses = lcFuses target s.fuses := by
    unfold lcFuses
    split_ifs
    · exact ⟨requestOnly_blow (.refl s) _ _, fuses_blow _ _ s⟩
    · exact ⟨requestOnly_blow (.refl s) _ _, fuses_blow _ _ s⟩
    · exact ⟨.refl s, rfl⟩
  unfold lcWrite
  extract_lets s1 old toJ1 r dead s2 s3 s4
  have h1 : RequestOnly s s1 ∧ s1.fuses = lcFuses target s.fuses := hblown
  have h2 : RequestOnly s s2 ∧ s2.fuses = lcFuses target s.fuses :=
    ⟨h1.1.eraseUnder _ _, (journalOnly_eraseUnder _ _ _).fuses.trans h1.2⟩
  have h3 : RequestOnly s s3 ∧ s3.fuses = lcFuses target s.fuses := ⟨h2.1.updFlash _, (fuses_updFlash _ _).trans h2.2⟩
  clear_value s3
  have hshown : RequestOnly s ((s3.set Reg.KEY.STAT_LCSTATE target).set Reg.KEY.LCSEQ r.seq) ∧
      ((s3.set Reg.KEY.STAT_LCSTATE target).set Reg.KEY.LCSEQ r.seq).fuses = lcFuses target s.fuses ∧
      ((s3.set Reg.KEY.STAT_LCSTATE target).set Reg.KEY.LCSEQ r.seq).lcState = target := by
    refine ⟨(h3.1.set _ _).set _ _, (((RegsOnly.refl s3).set _ _).set _ _).fuses.trans h3.2, ?_⟩
    rw [lcState, get_set_other _ _ (by decide) (by decide), get_set_same _ _ (by decide)]
    exact Nat.mod_eq_of_lt h
  have h4 : RequestOnly s s4 ∧ s4.fuses = lcFuses target s.fuses ∧ s4.lcState = target ∧
      (target = 4 → s4.flash.blob.owners = []) := by
    have h4' : s4 = ((s3.set Reg.KEY.STAT_LCSTATE target).set Reg.KEY.LCSEQ r.seq).when (target == 4) eraseBlob := rfl
    clear_value s4
    rw [h4']
    obtain ⟨hreq, hfuses, hlc⟩ := hshown
    by_cases ht : target = 4
    · simp only [ht, beq_self_eq_true, when_true]
      rw [ht] at hreq hfuses hlc
      have he := blobErased_eraseBlob ((s3.set Reg.KEY.STAT_LCSTATE 4).set Reg.KEY.LCSEQ r.seq)
      exact ⟨hreq.trans he.only, he.fuses.trans hfuses, he.lc.trans hlc, fun _ => he.owners⟩
    · rw [show (target == 4) = false by simpa using ht, when_false]
      exact ⟨hreq, hfuses, hlc, fun h => absurd h ht⟩
  clear_value s4
  obtain ⟨hreq, hfuses, hlc, howners⟩ := h4
  have hpin : RegsOnly s4 (s4.when (!s4.pinTestOpen) (State.set Reg.FLT.PINTEST 0)) := (RegsOnly.refl s4).when _ fun _ hu => hu.set _ _
  have hpinlc : (s4.when (!s4.pinTestOpen) (State.set Reg.FLT.PINTEST 0)).lcState = target := by
    rw [lcState, when_keeps _ (fun t => t.get Reg.KEY.STAT_LCSTATE) _ _ (get_set_other _ _ (by decide) (by decide))]
    exact hlc
  generalize s4.when (!s4.pinTestOpen) (State.set Reg.FLT.PINTEST 0) = v at hpin hpinlc
  have hjudge : RequestOnly v v.tapJudge := (RequestOnly.refl v).updKey _
  refine ⟨((hreq.trans (.of_regsOnly hpin)).trans hjudge).raise _ _, ?_, ?_, fun ht => ?_⟩
  · rw [((RegsOnly.refl v.tapJudge).raise _ _).fuses]
    exact hpin.fuses.trans hfuses
  · rw [lcState, get_raise _ _ _ (by decide)]
    exact hpinlc
  · rw [((RegsOnly.refl v.tapJudge).raise _ _).flash, ← howners ht]
    exact congrArg (fun f : Flash => f.blob.owners) hpin.flash

/-! ### The result of a request of the key block -/

theorem get_keyResult_code {code : Nat} (s : State) (h : code < 32) : (s.keyResult code).get Reg.KEY.RES_CODE = code := by
  rw [keyResult, get_set_other _ _ (by decide) (by decide), get_set_same _ _ (by decide)]
  exact Nat.mod_eq_of_lt h

theorem regsOnly_keyResult (code : Nat) (s : State) : RegsOnly s (s.keyResult code) := ((RegsOnly.refl s).set _ _).set _ _

theorem lcState_keyResult (code : Nat) (s : State) : (s.keyResult code).lcState = s.lcState := by
  rw [keyResult, lcState, get_set_other _ _ (by decide) (by decide), get_set_other _ _ (by decide) (by decide), lcState]

/-- A request of the key block begins with DONE cleared. -/
def keyStart (s : State) : State := s.set Reg.KEY.RES_DONE 0

theorem regsOnly_keyStart (s : State) : RegsOnly s s.keyStart := (RegsOnly.refl s).set _ _

theorem get_keyStart {r : FRef} (s : State) (h : r.addr ≠ 0x2B030034) : s.keyStart.get r = s.get r :=
  get_set_other _ _ (FRef.apart_of_addr h) (by decide)

theorem keyCmd_lcChange (target : Nat) (signer : Option Nat) (s : State) : s.keyCmd 1 target signer = s.keyStart.opLcChange target := rfl

theorem keyCmd_keyMsg (arg : Nat) (signer : Option Nat) (s : State) : s.keyCmd 2 arg signer = s.keyStart.opKeyMsg signer := rfl

end State

section
open State

variable {s : State} {h : JrpHdr} {x : JrpSession}

/-! ### UPD_CONFIRM and UPD_COMMIT -/

theorem begins_of_jrpOnly {s z : State} (hz : JrpOnly s z) : z.updStart.upd = s.upd ∧ z.updStart.flash = s.flash ∧
    RegsOnly z z.updStart :=
  have h := (RegsOnly.refl z).set Reg.UPD.RES_DONE 0
  ⟨h.upd.trans hz.upd, h.flash.trans hz.flash, h⟩

theorem carry_confirm {y : JrpSession} (txid : Nat) (z : State) : z.jrpCarry y txid .updConfirm =
    (some (jrpDone (z.updStart.opConfirm.get Reg.UPD.RES_CODE) []), z.updStart.opConfirm) := rfl

theorem jrp_confirm_accepted {g : BootHdr} {b : Bundle} (hr : JrpReady h x .updConfirm s) (hsector : s.upd.hdr = 0)
    (hhdr : s.flash.hdrA = .good g) (hb : s.upd.running = some b) (htrial : onTrial g = true) (hvalid : g.valid = 0xFFFFFFFF) :
    ∃ t, exec (.updConfirm h) s = .next t ∧ Replied x h.txid 0 [0, 0] t ∧ t.flash.hdrA = .good { g with confirm := 0 } ∧
      t.get Reg.UPD.TRIALLEFT = 0 ∧ t.upd.trialEnd = none := by
  obtain ⟨y, z, hz, -, hcarry⟩ := exec_carried (i := .updConfirm h) rfl hr (fun _ => rfl) rfl (fun _ _ _ _ hc => by cases hc)
  obtain ⟨hupd, hflash, honly⟩ := begins_of_jrpOnly hz
  obtain ⟨hreq, hcode, -, hhdr', hleft, hend, -⟩ := opConfirm_leaves (hupd ▸ hsector) (hflash ▸ hhdr) (hupd ▸ hb) htrial hvalid
  have hreq' := (RequestOnly.of_regsOnly honly).trans hreq
  have hc := carry_confirm (y := y) h.txid z
  rw [hcode] at hc
  obtain ⟨t, he, ht⟩ := hcarry _ _ hc hreq'.jrp (congrArg _ hreq'.twin)
  exact ⟨t, he, ht.replied, by rw [ht.only.flash, hhdr'], (ht.only.get _).trans hleft, by rw [ht.only.upd, hend]⟩

theorem jrp_confirm_refused (hr : JrpReady h x .updConfirm s) (htrial : s.trialOpen = false) :
    ∃ t, exec (.updConfirm h) s = .next t ∧ Replied x h.txid 11 [11, 0] t ∧ t.flash = s.flash ∧ t.upd = s.upd := by
  obtain ⟨y, z, hz, -, hcarry⟩ := exec_carried (i := .updConfirm h) rfl hr (fun _ => rfl) rfl (fun _ _ _ _ hc => by cases hc)
  obtain ⟨hupd, hflash, honly⟩ := begins_of_jrpOnly hz
  have htrial' : z.updStart.trialOpen = false := by
    rw [← htrial]
    simp only [trialOpen, hdrInForce, hupd, hflash]
  have hc := carry_confirm (y := y) h.txid z
  rw [opConfirm_refused htrial', get_updResult_code _ (by decide)] at hc
  have hend : RegsOnly z (z.updStart.updResult 11) := (honly.set _ _).set _ _
  obtain ⟨t, he, ht⟩ := hcarry _ _ hc (RequestOnly.of_regsOnly hend).jrp (congrArg _ (RequestOnly.of_regsOnly hend).twin)
  exact ⟨t, he, ht.replied, (ht.only.flash.trans hend.flash).trans hz.flash, (ht.only.upd.trans hend.upd).trans hz.upd⟩

/-- The arguments of UPD_COMMIT stored, and DONE cleared. -/
def commitBegun (mode win mx : Nat) (s : State) : State := (s.putArgs Reg.UPD.ARG [mode, win, mx]).updStart

theorem carry_commit {y : JrpSession} (txid mode win mx : Nat) (env : StartEnv) (z : State) :
    z.jrpCarry y txid (.updCommit mode win mx env) =
      (some (jrpDone ((committed (commitBegun mode win mx z)).get Reg.UPD.RES_CODE) []), committed (commitBegun mode win mx z)) := rfl

theorem regsOnly_commitBegun (mode win mx : Nat) (z : State) : RegsOnly z (commitBegun mode win mx z) :=
  (regsOnly_putArgs _ z).set _ _

theorem get_commitBegun {q : FRef} (mode win mx : Nat) (z : State) (harg : q.addr < 0x2B040014 ∨ 0x2B040020 ≤ q.addr)
    (hres : q.addr ≠ 0x2B040030) : (commitBegun mode win mx z).get q = z.get q := by
  rw [commitBegun, get_updStart _ hres]
  refine get_putArgs_other z (fun _ => (by decide : (31 : Nat) < 32)) fun i hi => ?_
  simp only [List.length_cons, List.length_nil] at hi
  simp only [Reg.UPD.ARG]
  omega

theorem updArg_commitBegun {mode win mx j v : Nat} (z : State) (hl : [mode, win, mx][j]? = some v) (hv : v < 2 ^ 32) :
    (commitBegun mode win mx z).updArg j = v := by
  have hj : j < 3 := (List.getElem?_eq_some_iff.mp hl).1
  rw [commitBegun, updArg, get_updStart _ (by simp only [Reg.UPD.ARG]; omega)]
  exact updArg_putArgs z hl hv

theorem commitCode_congr {u v : State} (hupd : u.upd = v.upd) (hflash : u.flash = v.flash) (hwindow : u.windowOpen = v.windowOpen)
    (hphase : u.updPhase = v.updPhase) (h1 : u.updArg 1 = v.updArg 1) (h2 : u.updArg 2 = v.updArg 2) : u.commitCode = v.commitCode := by
  have hhdr : u.hdrInForce = v.hdrInForce := by simp only [hdrInForce, hupd, hflash]
  have htrial : u.trialOpen = v.trialOpen := by rw [trialOpen, trialOpen, hhdr]
  have hargs : u.commitArgsOk = v.commitArgsOk := by unfold commitArgsOk; rw [h1, h2]
  unfold commitCode
  rw [htrial, hphase, hwindow, hargs]

theorem windowOpen_congr {u v : State} (hkey : u.key = v.key) (hnow : u.now = v.now) : u.windowOpen = v.windowOpen := by
  rw [windowOpen, windowOpen, hkey, hnow]

theorem updPhase_putArgs (l : List Nat) (s : State) :
    (s.putArgs Reg.UPD.ARG l).get Reg.UPD.STAT_STATE = s.get Reg.UPD.STAT_STATE :=
  get_putArgs_other s (fun _ => (by decide : (31 : Nat) < 32)) fun i _ => by simp only [Reg.UPD.STAT_STATE, Reg.UPD.ARG]; omega

theorem commitCode_commitBegun {mode win mx : Nat} {z : State} (hz : JrpOnly s z) :
    (commitBegun mode win mx z).commitCode = (s.putArgs Reg.UPD.ARG [mode, win, mx]).commitCode := by
  have honly := regsOnly_commitBegun mode win mx z
  have hargs := regsOnly_putArgs (r := Reg.UPD.ARG) [mode, win, mx] s
  have harg {j v : Nat} (hl : [mode, win, mx][j]? = some v) :
      (commitBegun mode win mx z).updArg j = (s.putArgs Reg.UPD.ARG [mode, win, mx]).updArg j := by
    have hj : j < 3 := (List.getElem?_eq_some_iff.mp hl).1
    have hsame (u : State) := get_putArgs_same (r := Reg.UPD.ARG) u (fun i n h => by simp only [Reg.UPD.ARG]; omega)
      (fun _ => (by decide : (31 : Nat) < 32)) hl
    rw [commitBegun, updArg, get_updStart _ (by simp only [Reg.UPD.ARG]; omega), hsame, updArg, hsame]
  refine commitCode_congr ((honly.upd.trans hz.upd).trans hargs.upd.symm) ((honly.flash.trans hz.flash).trans hargs.flash.symm)
    (windowOpen_congr ((honly.key.trans hz.key).trans hargs.key.symm) ((honly.now.trans hz.now).trans hargs.now.symm)) ?_ (harg rfl) (harg rfl)
  rw [updPhase, get_commitBegun _ _ _ _ (by decide) (by decide), hz.get, updPhase, updPhase_putArgs]

theorem jrp_commit_accepted {mode win mx : Nat} {env : StartEnv} {g : BootHdr} (hr : JrpReady h x (.updCommit mode win mx env) s)
    (hc : (s.putArgs Reg.UPD.ARG [mode, win, mx]).commitCode = 0) (hsector : s.upd.hdr = 0) (hhdr : s.flash.hdrA = .good g)
    (ha : s.flash.fwA.head = .blank) (hb : s.flash.fwB.head = .blank) (hid : s.fuses.idgen = true) (hfw : s.upd.fw = true) :
    ∃ u t, exec (.jrpUpdCommit h mode win mx env) s = .next t ∧ u.upd = s.upd ∧ t.flash.hdrB = .good (State.trialHdr g u) ∧
      t.get Reg.MGT.RSTCAUSE = 3 := by
  obtain ⟨y, z, hz, -, hcarry⟩ := exec_carried_commit hr
  have honly := regsOnly_commitBegun mode win mx z
  have hupd := honly.upd.trans hz.upd
  have hflash := honly.flash.trans hz.flash
  obtain ⟨hreq, -, ⟨j, a, b, hwritten⟩, hfuses, hdue⟩ := committed_accepted (u := commitBegun mode win mx z)
    ((commitCode_commitBegun hz).trans hc) (hupd ▸ hsector) (hflash ▸ hhdr) (hupd ▸ hfw)
  have hreq' := (RequestOnly.of_regsOnly honly).trans hreq
  obtain ⟨t, he, ht⟩ := hcarry _ _ (carry_commit h.txid mode win mx env z) hreq'.jrp (congrArg _ hreq'.twin)
  obtain ⟨hnew, -, hcause⟩ := restart_committed (s := s) (t := t) env ⟨j, a, b, by rw [ht.only.flash, hwritten, hflash]⟩
    (by rw [ht.only.upd, hdue]) (by rw [ht.only.fuses, hfuses, honly.fuses, hz.fuses, hid]) hhdr ha hb
  exact ⟨_, _, he, hupd, hnew, hcause⟩

theorem jrp_commit_refused {mode win mx : Nat} {env : StartEnv} (hr : JrpReady h x (.updCommit mode win mx env) s)
    (hdue : s.upd.due = none) (hc : (s.putArgs Reg.UPD.ARG [mode, win, mx]).commitCode ≠ 0) :
    ∃ t, exec (.jrpUpdCommit h mode win mx env) s = .next t ∧
      Replied x h.txid (s.putArgs Reg.UPD.ARG [mode, win, mx]).commitCode [(s.putArgs Reg.UPD.ARG [mode, win, mx]).commitCode, 0] t ∧
      t.flash = s.flash ∧ t.upd.due = none := by
  obtain ⟨y, z, hz, -, hcarry⟩ := exec_carried_commit hr
  have hcode := commitCode_commitBegun (mode := mode) (win := win) (mx := mx) hz
  have hcarried := carry_commit (y := y) h.txid mode win mx env z
  rw [committed_refused (hcode.trans_ne hc), hcode, get_updResult_code _ (commitCode_lt _)] at hcarried
  have honly : RegsOnly z ((commitBegun mode win mx z).updResult (s.putArgs Reg.UPD.ARG [mode, win, mx]).commitCode) :=
    ((regsOnly_commitBegun mode win mx z).set _ _).set _ _
  obtain ⟨t, he, ht⟩ := hcarry _ _ hcarried (RequestOnly.of_regsOnly honly).jrp (congrArg _ (RequestOnly.of_regsOnly honly).twin)
  have hdue' : t.upd.due = none := by rw [ht.only.upd, honly.upd, hz.upd, hdue]
  exact ⟨t, restartDue_none env hdue' ▸ he, ht.replied, (ht.only.flash.trans honly.flash).trans hz.flash, hdue'⟩

/-! ### JRP_LC_CHANGE and JRP_KEYMSG -/

/-- A command of class M that was not refused came inside a presence window. -/
theorem window_of_ready {c : JrpCmd} (hr : JrpReady h x c s) (hc : c.classM = true) : s.windowOpen = true := by
  obtain ⟨-, -, -, -, -, -, -, -, -, hcode, -⟩ := hr
  by_contra hw
  unfold jrpRefusal at hcode
  rw [if_neg (by decide), if_pos (c := c.classM = true ∧ (!s.windowOpen) = true) ⟨hc, by simpa using hw⟩] at hcode
  revert hcode
  split_ifs
  all_goals exact fun hcode => absurd hcode (by decide)

theorem jrpKey_eq {op arg : Nat} {signer : Option Nat} {z u : State} (hu : z.keyCmd op arg signer = u) :
    z.jrpKey op arg signer = (jrpDone (u.get Reg.KEY.RES_CODE) [], u) := by
  rw [jrpKey, hu]

theorem keyStart_facts {z : State} (hz : JrpOnly s z) : RegsOnly z z.keyStart ∧ z.keyStart.windowOpen = s.windowOpen ∧
    z.keyStart.lcState = s.lcState ∧ z.keyStart.flash = s.flash ∧ z.keyStart.fuses = s.fuses := by
  have h := regsOnly_keyStart z
  exact ⟨h, windowOpen_congr (h.key.trans hz.key) (h.now.trans hz.now), (get_keyStart z (by decide)).trans (hz.get _),
    h.flash.trans hz.flash, h.fuses.trans hz.fuses⟩

theorem ownerKey_congr {u v : State} (hflash : u.flash = v.flash) (k : Nat) : u.ownerKey k = v.ownerKey k := by
  rw [ownerKey, ownerKey, ownerState, ownerState, hflash]

theorem ownerFlags_congr {u v : State} (hflash : u.flash = v.flash) : u.ownerFlags = v.ownerFlags := by
  simp only [ownerFlags, ownerKey_congr hflash]

theorem lcAllowed_congr {u v : State} (k : Nat) (hlc : u.lcState = v.lcState) (hflash : u.flash = v.flash) : u.lcAllowed k = v.lcAllowed k := by
  unfold lcAllowed
  rw [hlc, ownerFlags_congr hflash, hflash]

theorem jrp_lcChange_allowed {k : Nat} (hr : JrpReady h x (.lcChange k) s) (hk : k < 8) (hallowed : s.lcAllowed k = true) :
    ∃ t, exec (.jrpLcChange h k) s = .next t ∧ Replied x h.txid 0 [0, 0] t ∧ t.lcState = k ∧ t.fuses = lcFuses k s.fuses ∧
      (k = 4 → t.flash.blob.owners = []) := by
  have hwindow := window_of_ready hr rfl
  obtain ⟨y, z, hz, -, hcarry⟩ := exec_carried (i := .jrpLcChange h k) rfl hr (fun _ => rfl) rfl (fun _ _ _ _ hc => by cases hc)
  obtain ⟨honly, hwin, hlc, hflash, hfuses⟩ := keyStart_facts hz
  have heq : z.keyCmd 1 k none = (z.keyStart.lcWrite k).keyResult 0 := by
    rw [keyCmd_lcChange, opLcChange, if_neg (by simp [hwin, hwindow]), if_pos ((lcAllowed_congr k hlc hflash).trans hallowed)]
  obtain ⟨hreq, hfuses', hlc', howners⟩ := lcChanged_lcWrite z.keyStart hk
  have hcarried : z.jrpCarry y h.txid (.lcChange k) = (some (jrpDone 0 []), (z.keyStart.lcWrite k).keyResult 0) := by
    show (some (z.jrpKey 1 k none).1, (z.jrpKey 1 k none).2) = _
    rw [jrpKey_eq heq, get_keyResult_code _ (by decide)]
  generalize z.keyStart.lcWrite k = v at hcarried hreq hfuses' hlc' howners
  have hres := regsOnly_keyResult 0 v
  have hreq' : RequestOnly z (v.keyResult 0) := ((RequestOnly.of_regsOnly honly).trans hreq).trans (.of_regsOnly hres)
  obtain ⟨t, he, ht⟩ := hcarry _ _ hcarried hreq'.jrp (congrArg _ hreq'.twin)
  refine ⟨t, he, ht.replied, ?_, ?_, fun h4 => ?_⟩
  · exact (ht.only.get _).trans ((lcState_keyResult 0 v).trans hlc')
  · rw [ht.only.fuses, hres.fuses, hfuses', hfuses]
  · rw [ht.only.flash, hres.flash, howners h4]

theorem jrp_lcChange_refused {k : Nat} (hr : JrpReady h x (.lcChange k) s) (hallowed : s.lcAllowed k = false) :
    ∃ t, exec (.jrpLcChange h k) s = .next t ∧ Replied x h.txid 11 [11, 0] t ∧ t.lcState = s.lcState ∧ t.fuses = s.fuses ∧
      t.flash = s.flash := by
  have hwindow := window_of_ready hr rfl
  obtain ⟨y, z, hz, -, hcarry⟩ := exec_carried (i := .jrpLcChange h k) rfl hr (fun _ => rfl) rfl (fun _ _ _ _ hc => by cases hc)
  obtain ⟨honly, hwin, hlc, hflash, hfuses⟩ := keyStart_facts hz
  have heq : z.keyCmd 1 k none = (z.keyStart.raise 119 [k]).keyResult 11 := by
    rw [keyCmd_lcChange, opLcChange, if_neg (by simp [hwin, hwindow]),
      if_neg (by rw [lcAllowed_congr k hlc hflash, hallowed]; decide)]
  have hcarried : z.jrpCarry y h.txid (.lcChange k) = (some (jrpDone 11 []), (z.keyStart.raise 119 [k]).keyResult 11) := by
    show (some (z.jrpKey 1 k none).1, (z.jrpKey 1 k none).2) = _
    rw [jrpKey_eq heq, get_keyResult_code _ (by decide)]
  have hend : RegsOnly z ((z.keyStart.raise 119 [k]).keyResult 11) := (honly.raise _ _).trans (regsOnly_keyResult 11 _)
  have hlcend : ((z.keyStart.raise 119 [k]).keyResult 11).lcState = s.lcState := by
    rw [lcState_keyResult, lcState, get_raise _ _ _ (by decide)]
    exact hlc
  obtain ⟨t, he, ht⟩ := hcarry _ _ hcarried (RequestOnly.of_regsOnly hend).jrp (congrArg _ (RequestOnly.of_regsOnly hend).twin)
  exact ⟨t, he, ht.replied, (ht.only.get _).trans hlcend, (ht.only.fuses.trans hend.fuses).trans hz.fuses,
    (ht.only.flash.trans hend.flash).trans hz.flash⟩


/-! ### JRP_KEYMSG -/

theorem each_set_regs {α : Type} {u v : State} (l : List α) (r : α → FRef) (x : α → Nat) (h : u.regs = v.regs) :
    (u.each l fun a t => t.set (r a) (x a)).regs = (v.each l fun a t => t.set (r a) (x a)).regs := by
  induction l generalizing u v with
  | nil => exact h
  | cons a l ih =>
    refine ih ?_
    unfold State.set wr rd
    dsimp only
    rw [h]


/-- `u` is `s` as a key message finds it: put into MSG, and DONE cleared. -/
structure MessagePut (msg : List Byte) (s u : State) : Prop where
  msg : u.keyMsg = (s.putKeyMsg msg).keyMsg
  window : u.windowOpen = s.windowOpen
  lc : u.lcState = s.lcState
  devid : u.devid = s.devid
  flash : u.flash = s.flash

theorem get_putKeyMsg_below {q : FRef} (msg : List Byte) (z : State) (h : q.addr < 0x2B030100) : (z.putKeyMsg msg).get q = z.get q :=
  each_inv_mem z (fun t => t.get q = z.get q) _ _ (fun j _ t ht => by
    rw [get_set_other _ _ (FRef.apart_of_addr (by simp only [Reg.KEY.MSG]; omega)) (by decide : (31 : Nat) < 32), ht]) rfl

theorem regsOnly_putKeyMsg (msg : List Byte) (z : State) : RegsOnly z (z.putKeyMsg msg) :=
  (RegsOnly.refl z).each _ fun _ _ ht => ht.set _ _

theorem keyMsg_congr {u v : State} (h : ∀ j, u.get (Reg.KEY.MSG j) = v.get (Reg.KEY.MSG j)) : u.keyMsg = v.keyMsg := by
  simp only [keyMsg, h]

theorem messagePut_keyStart (msg : List Byte) {z : State} (hz : JrpOnly s z) : MessagePut msg s (z.putKeyMsg msg).keyStart := by
  have honly := (regsOnly_putKeyMsg msg z).trans (regsOnly_keyStart _)
  have hkeep (q : FRef) (hq : q.addr < 0x2B030100) (hres : q.addr ≠ 0x2B030034) : (z.putKeyMsg msg).keyStart.get q = s.get q := by
    rw [get_keyStart _ hres, get_putKeyMsg_below _ _ hq, hz.get]
  refine ⟨keyMsg_congr fun j => ?_, windowOpen_congr (honly.key.trans hz.key) (honly.now.trans hz.now), hkeep _ (by decide) (by decide), ?_,
    honly.flash.trans hz.flash⟩
  · rw [get_keyStart _ (by simp only [Reg.KEY.MSG]; omega)]
    exact get_of_regs (each_set_regs _ _ _ hz.regs) _
  · rw [devid, devid, get64, get64, hkeep _ (by decide) (by decide), hkeep _ (by decide) (by decide)]

theorem keyMsgCode_congr {u v : State} (l : List Byte) (signer : Option Nat) (hdevid : u.devid = v.devid) (hlc : u.lcState = v.lcState)
    (hflash : u.flash = v.flash) : u.keyMsgCode l signer = v.keyMsgCode l signer := by
  have hallowed (op target signing : Nat) : u.keyOpAllowed op target signing = v.keyOpAllowed op target signing := by
    unfold keyOpAllowed
    simp only [ownerKey_congr hflash, hlc]
  have hfirst (op : Nat) : u.firstAdd op = v.firstAdd op := by rw [firstAdd, firstAdd, hlc, ownerFlags_congr hflash]
  have howner : u.ownerState = v.ownerState := by rw [ownerState, ownerState, hflash]
  unfold keyMsgCode
  simp only [hdevid, hallowed, hfirst, howner, ownerKey_congr hflash]

theorem keyMsgCode_lt (l : List Byte) (signer : Option Nat) (u : State) : u.keyMsgCode l signer < 32 := by
  unfold keyMsgCode
  extract_lets
  split_ifs <;> decide

/-- The code with which a key message is judged. -/
def State.keyCode (msg : List Byte) (sg : Option Nat) (s : State) : Nat :=
  if s.blobRoom = false then 5 else s.keyMsgCode (s.putKeyMsg msg).keyMsg sg

theorem keyCode_lt (msg : List Byte) (sg : Option Nat) (s : State) : s.keyCode msg sg < 32 := by
  unfold State.keyCode
  split_ifs
  · decide
  · exact keyMsgCode_lt _ _ _

/-- The owner blob with one record more, and the key block that shows it. -/
def State.ownerAppended (o : OwnerRec) (args : List Nat) (u : State) : State :=
  ((u.updFlash fun f => { f with blob := { f.blob with owners := f.blob.owners ++ [o] } }).showKey).raise 122 args

theorem opKeyMsg_eq {msg : List Byte} {sg : Option Nat} {u : State} (hu : MessagePut msg s u) (hwindow : s.windowOpen = true) :
    u.opKeyMsg sg = if s.keyCode msg sg = 0 then
        (u.ownerAppended (keyMsgApply (s.putKeyMsg msg).keyMsg s.ownerState) [msgField (s.putKeyMsg msg).keyMsg 4 1]).keyResult 0
      else (u.raise 123 [s.keyCode msg sg]).keyResult (s.keyCode msg sg) := by
  have hcode : (if u.blobRoom = true then u.keyMsgCode u.keyMsg sg else 5) = s.keyCode msg sg := by
    unfold State.keyCode
    rw [blobRoom, hu.flash, hu.msg, keyMsgCode_congr _ _ hu.devid hu.lc hu.flash, ← blobRoom]
    cases s.blobRoom <;> rfl
  unfold opKeyMsg
  extract_lets l code o
  have hcode' : code = s.keyCode msg sg := hcode
  have ho : o = keyMsgApply (s.putKeyMsg msg).keyMsg s.ownerState := by
    rw [← hu.msg, ownerState, ← hu.flash, ← ownerState]
  have hl : l = (s.putKeyMsg msg).keyMsg := hu.msg
  clear_value o code l
  rw [if_neg (by simp [hu.window, hwindow]), hcode', ho, hl]
  rfl

theorem ctr_keyMsgApply (l : List Byte) (o : OwnerRec) : (keyMsgApply l o).ctr = msgField l 0x10 4 := by
  unfold keyMsgApply
  extract_lets
  split <;> rfl

/-- What a key message that passes leaves: one record more. -/
structure KeyStored (o : OwnerRec) (u v : State) : Prop where
  only : RequestOnly u v
  owners : v.flash.blob.owners = u.flash.blob.owners ++ [o]

theorem keyStored (o : OwnerRec) (args : List Nat) (u : State) : KeyStored o u (u.ownerAppended o args) := by
  unfold State.ownerAppended
  generalize hv : u.updFlash (fun f => { f with blob := { f.blob with owners := f.blob.owners ++ [o] } }) = v
  have hreq : RequestOnly u v := hv ▸ (RequestOnly.refl u).updFlash _
  have howners : v.flash.blob.owners = u.flash.blob.owners ++ [o] := by rw [← hv]; rfl
  have honly : RegsOnly v (v.showKey.raise 122 args) := (regsOnly_showKey v).raise _ _
  exact ⟨hreq.trans (.of_regsOnly honly), by rw [honly.flash, howners]⟩

variable {msg : List Byte} {sg : Option Nat}

/-- A REQUEST of KEYMSG is answered with the code of the key block. -/
theorem exec_keyMsg {f : State → State} {code : Nat} (hr : JrpReady h x (.keyMsg msg sg) s) (hcode : code < 32)
    (hf : ∀ u, MessagePut msg s u → u.opKeyMsg sg = (f u).keyResult code) (hk : ∀ u, RequestOnly u (f u)) :
    ∃ u t, u.flash = s.flash ∧ exec (.jrpKeymsg h msg sg) s = .next t ∧ Replied x h.txid code [code, 0] t ∧
      t.flash = (f u).flash := by
  obtain ⟨y, z, hz, -, hcarry⟩ := exec_carried (i := .jrpKeymsg h msg sg) rfl hr (fun _ => rfl) rfl (fun _ _ _ _ hc => by cases hc)
  have hput := messagePut_keyStart msg hz
  have honly := (regsOnly_putKeyMsg msg z).trans (regsOnly_keyStart _)
  have heq : (z.putKeyMsg msg).keyCmd 2 0 sg = (f (z.putKeyMsg msg).keyStart).keyResult code := hf _ hput
  have hcarried : z.jrpCarry y h.txid (.keyMsg msg sg) = (some (jrpDone code []), (f (z.putKeyMsg msg).keyStart).keyResult code) := by
    show (some ((z.putKeyMsg msg).jrpKey 2 0 sg).1, ((z.putKeyMsg msg).jrpKey 2 0 sg).2) = _
    rw [jrpKey_eq heq, get_keyResult_code _ hcode]
  have hreq := ((RequestOnly.of_regsOnly honly).trans (hk _)).trans (.of_regsOnly (regsOnly_keyResult code _))
  obtain ⟨t, he, ht⟩ := hcarry _ _ hcarried hreq.jrp (congrArg _ hreq.twin)
  exact ⟨_, t, hput.flash, he, ht.replied, ht.only.flash.trans (regsOnly_keyResult code _).flash⟩

theorem jrp_keyMsg_accepted (hr : JrpReady h x (.keyMsg msg sg) s) (hcode : s.keyCode msg sg = 0) :
    ∃ t, exec (.jrpKeymsg h msg sg) s = .next t ∧ Replied x h.txid 0 [0, 0] t ∧
      t.flash.blob.owners = s.flash.blob.owners ++ [keyMsgApply (s.putKeyMsg msg).keyMsg s.ownerState] := by
  have hwindow := window_of_ready hr rfl
  obtain ⟨u, t, hu, he, hrep, hflash⟩ := exec_keyMsg (code := 0) hr (by decide)
    (fun u hu => by rw [opKeyMsg_eq hu hwindow, if_pos hcode]) fun u => (keyStored _ _ u).only
  exact ⟨t, he, hrep, by rw [hflash, (keyStored _ _ u).owners, hu]⟩

theorem jrp_keyMsg_refused (hr : JrpReady h x (.keyMsg msg sg) s) (hcode : s.keyCode msg sg ≠ 0) :
    ∃ t, exec (.jrpKeymsg h msg sg) s = .next t ∧ Replied x h.txid (s.keyCode msg sg) [s.keyCode msg sg, 0] t ∧ t.flash = s.flash := by
  have hwindow := window_of_ready hr rfl
  obtain ⟨u, t, hu, he, hrep, hflash⟩ := exec_keyMsg (f := fun u => u.raise 123 [s.keyCode msg sg]) hr (keyCode_lt msg sg s)
    (fun u hu => by rw [opKeyMsg_eq hu hwindow, if_neg hcode]) fun u => (RequestOnly.refl u).raise _ _
  exact ⟨t, he, hrep, by rw [hflash, ((RegsOnly.refl u).raise 123 [s.keyCode msg sg]).flash, hu]⟩

/-! ### JRP_XCHG -/

/-- Only the mirror commands still owed differ, and the wish for an exchange. -/
def OwedOnly (s t : State) : Prop := ∃ o w, t = { s with twin := { s.twin with owed := o, xchg := w } }

theorem mirrors_owed {s t : State} (h : OwedOnly s t) : t.mirrors = s.mirrors := by
  obtain ⟨_, _, rfl⟩ := h
  rfl

theorem owedOnly_mirrorSend {s t : State} (o : MirrorCmd × CmdCtx) (hm : s.mirrors = false) (h : OwedOnly s t) :
    OwedOnly s (t.mirrorSend o) := by
  have hfilter : OwedOnly s (t.updTwin fun x => { x with owed := x.owed.filter fun y => y != o }) := by
    obtain ⟨_, _, rfl⟩ := h
    exact ⟨_, _, rfl⟩
  unfold mirrorSend
  split
  · exact h
  · extract_lets u
    rw [if_neg (by rw [mirrors_owed hfilter, hm]; simp)]
    exact hfilter

theorem owedOnly_xchgLand {s : State} (hm : s.mirrors = false) (hst : s.twinState = 3) :
    OwedOnly s (s.xchgLand 1) ∧ (s.xchgLand 1).twin.xchg = true := by
  have howe (c : MirrorCmd) : s.mirrorOwe c = s := by rw [mirrorOwe, hm]; rfl
  have hflush : OwedOnly s s.mirrorFlush :=
    each_inv (s := s) (OwedOnly s) _ _ (fun o t ht => owedOnly_mirrorSend o hm ht) ⟨_, _, rfl⟩
  unfold xchgLand
  rw [if_pos ⟨by decide, hst⟩, howe]
  refine ⟨?_, rfl⟩
  obtain ⟨_, _, heq⟩ := hflush
  rw [heq]
  exact ⟨_, _, rfl⟩


theorem JrpOnly.mirrors {s z : State} (hz : JrpOnly s z) : z.mirrors = s.mirrors := by
  obtain ⟨_, _, _, rfl⟩ := hz
  rfl

/-- XCHG is answered at once; what it does is what a write of XCHG does. -/
theorem exec_xchg (hr : JrpReady h x .xchg s) (hk : ∀ z, JrpOnly s z → OwedOnly z (z.xchgLand 1)) :
    ∃ z t, JrpOnly s z ∧ exec (.jrpXchg h) s = .next t ∧ Replied x h.txid 0 [0, 0] t ∧ t.twin.xchg = (z.xchgLand 1).twin.xchg ∧
      t.regs = s.regs := by
  obtain ⟨y, z, hz, -, hcarry⟩ := exec_carried (i := .jrpXchg h) rfl hr (fun _ => rfl) rfl (fun _ _ _ _ hc => by cases hc)
  have howed := hk z hz
  have hkeep : (z.xchgLand 1).jrp = z.jrp ∧ (z.xchgLand 1).twin.mirror = z.twin.mirror ∧ (z.xchgLand 1).regs = z.regs := by
    generalize z.xchgLand 1 = u at howed
    obtain ⟨_, _, rfl⟩ := howed
    exact ⟨rfl, rfl, rfl⟩
  obtain ⟨hjrp, hmirror, hregs⟩ := hkeep
  obtain ⟨t, he, ht⟩ := hcarry (jrpDone 0 []) (z.xchgLand 1) rfl hjrp hmirror
  exact ⟨z, t, hz, he, ht.replied, ht.only.xchg, (ht.only.regs.trans hregs).trans hz.regs⟩

theorem jrp_xchg_active (hr : JrpReady h x .xchg s) (hm : s.mirrors = false) (hst : s.twinState = 3) :
    ∃ t, exec (.jrpXchg h) s = .next t ∧ Replied x h.txid 0 [0, 0] t ∧ t.twin.xchg = true ∧ t.regs = s.regs := by
  have hland (z : State) (hz : JrpOnly s z) := owedOnly_xchgLand (hz.mirrors.trans hm) ((hz.get _).trans hst)
  obtain ⟨z, t, hz, he, hrep, hx, hregs⟩ := exec_xchg hr fun z hz => (hland z hz).1
  exact ⟨t, he, hrep, hx.trans (hland z hz).2, hregs⟩

theorem jrp_xchg_other (hr : JrpReady h x .xchg s) (hst : s.twinState ≠ 3) :
    ∃ t, exec (.jrpXchg h) s = .next t ∧ Replied x h.txid 0 [0, 0] t ∧ t.twin.xchg = s.twin.xchg ∧ t.regs = s.regs := by
  have hland (z : State) (hz : JrpOnly s z) : z.xchgLand 1 = z :=
    if_neg fun hx => hst ((hz.get _).symm.trans hx.2)
  obtain ⟨z, t, hz, he, hrep, hx, hregs⟩ := exec_xchg hr fun z hz => by rw [hland z hz]; exact ⟨_, _, rfl⟩
  exact ⟨t, he, hrep, by rw [hx, hland z hz, hz.xchg], hregs⟩

/-! ### The life cycle that the table allows -/

theorem lcAllowed_reversible {k : Nat}
    (hc : s.get Reg.KEY.STAT_LCSTATE = 1 ∧ k = 2 ∨ s.get Reg.KEY.STAT_LCSTATE = 2 ∧ k = 3 ∨ s.get Reg.KEY.STAT_LCSTATE = 3 ∧ k = 2) :
    k < 8 ∧ s.lcAllowed k = true ∧ lcFuses k s.fuses = s.fuses := by
  rcases hc with ⟨hlc, rfl⟩ | ⟨hlc, rfl⟩ | ⟨hlc, rfl⟩
  all_goals exact ⟨by decide, by simp only [lcAllowed, lcState, hlc], rfl⟩

theorem lcAllowed_retired (hlc : s.get Reg.KEY.STAT_LCSTATE = 3) : s.lcAllowed 4 = true := by simp only [lcAllowed, lcState, hlc]

theorem lcAllowed_provisioned (hlc : s.get Reg.KEY.STAT_LCSTATE = 0) (hkey : s.ownerFlags ≠ 0) (hcert : s.flash.blob.cert ≠ []) :
    s.lcAllowed 1 = true := by
  simp [lcAllowed, lcState, hlc, hkey, hcert]

theorem commitCode_zero {mode win mx : Nat} (hwin : 60 ≤ win) (hwin' : win ≤ 86400) (hmx : 1 ≤ mx) (hmx' : mx ≤ 8)
    (hphase : s.get Reg.UPD.STAT_STATE = 2) (hwindow : s.windowOpen = true) (htrial : s.trialOpen = false) :
    (s.putArgs Reg.UPD.ARG [mode, win, mx]).commitCode = 0 := by
  have honly := regsOnly_putArgs (r := Reg.UPD.ARG) [mode, win, mx] s
  have h1 := updArg_putArgs s (l := [mode, win, mx]) (j := 1) rfl (show win < 2 ^ 32 by omega)
  have h2 := updArg_putArgs s (l := [mode, win, mx]) (j := 2) rfl (show mx < 2 ^ 32 by omega)
  have htrial' : (s.putArgs Reg.UPD.ARG [mode, win, mx]).trialOpen = false := by
    rw [← htrial]
    simp only [trialOpen, hdrInForce, honly.upd, honly.flash]
  have hargs : (s.putArgs Reg.UPD.ARG [mode, win, mx]).commitArgsOk = true := by
    unfold commitArgsOk
    rw [h1, h2]
    simp only [Bool.and_eq_true, decide_eq_true_eq]
    omega
  rw [commitCode, htrial', updPhase, updPhase_putArgs, hphase, windowOpen_congr honly.key honly.now, hwindow, hargs]
  rfl

end

open State in
/-- Settles O52, by carrying each command through the session that it came in, to its answer. -/
theorem jrpUpdateAndKeys : Obligations.JrpUpdateAndKeys := by
  unfold Obligations.JrpUpdateAndKeys
  refine ⟨?_, ?_, ?_, ?_, ?_, ?_, ?_, ?_, ?_, ?_, ?_, ?_, ?_, ?_, ?_, ?_, ?_, ?_, ?_, ?_, ?_⟩
  · intro s h x b rd a hr htrial harg ha hb
    obtain ⟨t, he, hrep, hdone, hfw, hcfg, hfuses⟩ := stage_begin_accepted hr htrial harg ha hb
    exact ⟨t, he, hrep, hdone.state, hfw, hcfg, hfuses⟩
  · exact fun s h x b rd a hr hno ha hb => stage_begin_refused hr hno ha hb
  · intro s h x b rd a o n q j w hr ha ho hq hb hn hphase hw _ _ hsize hj
    exact stage_write_accepted hr ha ho hq hb hn hphase hw hsize hj
  · exact fun s h x b rd a o n q hr ha ho hn hq hb hno => stage_write_refused hr ha ho hn hq hb hno
  · exact fun s h x args b rd hr _ hb hphase hc hnotes _ => stage_verify_passes hr hb hphase hc hnotes
  · intro s h x args b rd c hr _ hb hphase hc hne hnotes _
    subst hc
    obtain ⟨t, he, hrep, hstate, hflash, hn⟩ := stage_verify_fails hr hb hphase hne hnotes
    have hmod : s.verifyCode rd % 256 = s.verifyCode rd := Nat.mod_eq_of_lt (by have := verifyCode_lt rd s; omega)
    rw [hmod]
    exact ⟨t, he, by rw [hrep]; rfl, hstate, hflash, hn⟩
  · exact fun s h x args b rd hr _ hb hphase => stage_verify_idle hr hb hphase
  · intro s h x args b rd hr _ hb
    obtain ⟨t, he, hflash, hout, hstate, hrep⟩ := stage_abort hr hb
    exact ⟨t, he, hflash, hout, fun _ _ => ⟨hstate, hrep⟩⟩
  · exact fun s h x args b rd op hr hno => stage_none hr hno
  · intro s h x g b hr hsector hhdr hb htrial hconfirm hvalid
    exact jrp_confirm_accepted hr hsector hhdr hb (by simp [onTrial, htrial, hconfirm]) hvalid
  · exact fun s h x hr htrial => jrp_confirm_refused hr htrial
  · intro s h x mode win mx env g hr _ hwin hwin' hmx hmx' hphase hwindow hsector hhdr htrial ha hb hid hfw
    have hopen : s.trialOpen = false := by simp [trialOpen, hdrInForce, hsector, hhdr, onTrial, htrial]
    obtain ⟨u, t, he, hupd, hnew, hcause⟩ :=
      jrp_commit_accepted hr (commitCode_zero hwin hwin' hmx hmx' hphase hwindow hopen) hsector hhdr ha hb hid hfw
    exact ⟨t, he, ⟨_, hnew, rfl, rfl, by rw [← hupd]; exact if_pos (hupd ▸ hfw)⟩, hcause⟩
  · intro s h x mode win mx env c hr _ _ _ hdue hc hne
    subst hc
    exact jrp_commit_refused hr hdue hne
  · intro s h x k hr hc
    obtain ⟨hk, hallowed, hfuses⟩ := lcAllowed_reversible hc
    obtain ⟨t, he, hrep, hlc, hf, -⟩ := jrp_lcChange_allowed hr hk hallowed
    exact ⟨t, he, hrep, hlc, hf.trans hfuses⟩
  · rintro s h x k hr - hlc rfl
    obtain ⟨t, he, hrep, hlc', hf, ho⟩ := jrp_lcChange_allowed hr (by decide) (lcAllowed_retired hlc)
    exact ⟨t, he, hrep, hlc', by rw [hf]; rfl, ho rfl⟩
  · rintro s h x k hr hlc rfl hkey hcert
    obtain ⟨t, he, hrep, hlc', hf, -⟩ := jrp_lcChange_allowed hr (by decide) (lcAllowed_provisioned hlc hkey hcert)
    exact ⟨t, he, hrep, hlc', by rw [hf]; rfl⟩
  · exact fun s h x k hr hallowed => jrp_lcChange_refused hr hallowed
  · intro s h x msg sg hr hroom hcode
    obtain ⟨t, he, hrep, howners⟩ := jrp_keyMsg_accepted hr (by rw [keyCode, hroom]; exact hcode)
    refine ⟨t, he, hrep, by rw [howners]; simp, ?_⟩
    rw [ownerState, howners, List.getLast?_concat, Option.getD_some, ctr_keyMsgApply]
  · intro s h x msg sg c hr hc hne
    rw [show c = s.keyCode msg sg from hc] at hne ⊢
    exact jrp_keyMsg_refused hr hne
  · exact fun s h x hr _ hst => jrp_xchg_active hr hr.2.1 hst
  · exact fun s h x hr hst => jrp_xchg_other hr hst

end Sys2Proof.Machine
end

section
/-! SUPPORT. The bus matrix with no target held (R511–R515), and the service port (R522–R525, R530). -/

namespace Sys2Proof.Machine

/-! ### What a register read returns -/

/-- The turn of one field in a register read: what may not be read is 0. -/
def readField (stopped : Bool) (word v : Nat) (f : Fld) : Nat :=
  if f.acc == .wo || (stopped && f.lo == 0) then v else setBits v f.hi f.lo (bits word f.hi f.lo)

theorem readField_other {f q : Fld} (stopped : Bool) (word v : Nat) (h : f.apart q = true ∨ q.apart f = true) :
    bits (readField stopped word v q) f.hi f.lo = bits v f.hi f.lo := by
  unfold readField
  split
  · rfl
  · exact bits_setBits_apart _ _ h

theorem readField_same {f : Fld} {stopped : Bool} (word v : Nat) (hacc : f.acc ≠ .wo) (hrun : f.lo = 0 → stopped = false) :
    bits (readField stopped word v f) f.hi f.lo = bits word f.hi f.lo := by
  have hopen : ¬(f.acc == .wo || (stopped && f.lo == 0)) = true := by
    simp only [Bool.or_eq_true, beq_iff_eq, Bool.and_eq_true, not_or, not_and]
    exact ⟨hacc, fun hs hlo => by simp [hrun hlo] at hs⟩
  rw [readField, if_neg hopen]
  exact bits_setBits_field v word f

namespace Names

variable {a o : Nat} {b : Blk} {r r₀ : RegDef} {x : Nat × Nat}

/-- A field that may be read reads its bits of the word. -/
theorem bits_regRead (h : Names a b r o r₀ x) {f : Fld} (m : Nat) (s : State) (hkey : a ≠ Reg.MGT.UNLOCK_KEY0.addr) (hf : f ∈ r.flds)
    (hacc : f.acc ≠ .wo) (hrun : f.lo = 0 → s.rxClockOff b = true → r.off ≠ 4) :
    bits (s.regRead m a r) f.hi f.lo = bits (s.rd a).toNat f.hi f.lo := by
  have hstopped (hlo : f.lo = 0) : (o == 4 && s.rxClockOff b) = false := by
    by_contra hs
    simp only [Bool.not_eq_false, Bool.and_eq_true, beq_iff_eq] at hs
    exact hrun hlo hs.2 (h.off_of_stat (by rw [h.base, hs.1]))
  unfold State.regRead
  rw [if_neg hkey, h.page]
  exact bits_foldl_field (g := readField (o == 4 && s.rxClockOff b) (s.rd a).toNat) (fun v q hq => readField_other _ _ v hq) r.flds 0 h.pairwise hf
    fun w _ => readField_same _ w hacc hstopped

end Names

namespace State

/-- The word of an on-chip memory that a register read meets is checked. -/
def tableMet (b : Blk) (off i a : Nat) (s : State) : State :=
  match tableAt b off i a with
  | some w => s.tableRead w.1 w.2
  | none => s

/-- A read of a block register beside the LUTDATA windows: its fields, and the word of a memory that it meets is checked. -/
theorem readAt_register {m a i j : Nat} {b : Blk} {r : RegDef} {s : State} (hp : s.place a = .block b)
    (hf : RegMap.find a = some (b, r, i, j)) (hal : a % 4 = 0) (hcnv : b.kind ≠ .cnv) (hmica : b.kind ≠ .mica) :
    s.readAt m a 4 = (0, s.regRead m a r, s.tableMet b r.off i a) := by
  have hok : ¬(4 ≠ 4 ∨ a % 4 ≠ 0) := by omega
  unfold readAt
  rw [hp]
  dsimp only
  rw [if_neg hok, regAt, hf]
  dsimp only [Option.map_some]
  rw [if_neg fun hc => hcnv hc.1, if_neg fun hc => hmica hc.1, tableMet]
  cases tableAt b r.off i a <;> rfl

/-- The word that a register read answers, as the master takes it. -/
theorem bits_readWord {m a i j : Nat} {b : Blk} {r : RegDef} {f : Fld} (s : State) (hf : RegMap.find a = some (b, r, i, j))
    (hkey : a ≠ Reg.MGT.UNLOCK_KEY0.addr) (hfld : f ∈ r.flds) (hacc : f.acc ≠ .wo)
    (hrun : f.lo = 0 → s.rxClockOff b = true → r.off ≠ 4) :
    bits (BitVec.ofNat 32 (s.regRead m a r)).toNat f.hi f.lo = bits (s.rd a).toNat f.hi f.lo := by
  obtain ⟨o, r₀, hn⟩ := names_of_find hf
  rw [BitVec.toNat_ofNat, bits_mod_word (hn.bounds hfld).2]
  exact hn.bits_regRead m s hkey hfld hacc hrun

/-- With no target held, a read is carried out and answered. -/
theorem busRead_free {s : State} (hlock : s.mgt.locks = []) (m a size : Nat) :
    s.busRead m a size false =
      let r := s.readAt m a size
      r.2.2.answer m ⟨r.1, BitVec.ofNat 32 r.2.1⟩ := by
  unfold busRead
  rw [busOp_free hlock rfl]
  unfold perform
  rw [issuedAt_now rfl]
  rfl

theorem answer_port (x : BusResp) (s : State) : (s.answer 7 x).mgt.sp.answer = some x := rfl

/-! ### The frames of the service port -/

theorem crcBit_lt (crc : Nat) (b : Bool) : crcBit 8 0x07 crc b < 256 := by
  have hshift : crc * 2 % 2 ^ 8 < 2 ^ 8 := Nat.mod_lt _ (by decide)
  unfold crcBit
  dsimp only
  split
  · exact Nat.xor_lt_two_pow hshift (by decide)
  · exact hshift

theorem crcBits_lt (n v crc : Nat) (h : crc < 256) : crcBits 8 0x07 n v crc < 256 := by
  induction n generalizing crc with
  | zero => exact h
  | succ n ih => exact ih _ (crcBit_lt _ _)

theorem spCrc_lt (l : List Byte) : spCrc l < 256 :=
  List.foldlRecOn (motive := fun c => c < 256) l _ (by decide) fun _ hc _ _ => crcBits_lt _ _ _ hc

theorem toNat_spCrc (l : List Byte) : (BitVec.ofNat 8 (spCrc l)).toNat = spCrc l := by
  rw [BitVec.toNat_ofNat]
  exact Nat.mod_eq_of_lt (spCrc_lt l)

/-- A frame that ends with the CRC of what comes before it is sound. -/
theorem crc_sealed {l : List Byte} (h : l ≠ []) : ¬((l ++ [BitVec.ofNat 8 (spCrc l)]).length < 2 ∨
    spCrc ((l ++ [BitVec.ofNat 8 (spCrc l)]).take ((l ++ [BitVec.ofNat 8 (spCrc l)]).length - 1)) ≠
      ((l ++ [BitVec.ofNat 8 (spCrc l)]).getLastD 0).toNat) := by
  have hlen : 0 < l.length := List.length_pos_iff.mpr h
  rw [not_or, not_not, List.length_append, List.length_singleton, Nat.add_sub_cancel, List.take_left, List.getLastD_concat, toNat_spCrc]
  exact ⟨by omega, rfl⟩

theorem spFrame_read (a3 a2 a1 a0 : Byte) :
    spFrame [0x0B, a3, a2, a1, a0, BitVec.ofNat 8 (spCrc [0x0B, a3, a2, a1, a0])] = .read (beNat [a3, a2, a1, a0]) :=
  (if_neg (crc_sealed (l := [0x0B, a3, a2, a1, a0]) (by simp))).trans rfl

theorem spFrame_write {b : List Byte} (hb : b.length = 8) :
    spFrame (0x02 :: b ++ [BitVec.ofNat 8 (spCrc (0x02 :: b))]) = .write (beNat (b.take 4)) (BitVec.ofNat 32 (beNat (b.drop 4))) :=
  match b, hb with
  | [b7, b6, b5, b4, b3, b2, b1, b0], _ => (if_neg (crc_sealed (l := [0x02, b7, b6, b5, b4, b3, b2, b1, b0]) (by simp))).trans rfl

/-! ### Transactions of the service port -/

/-- The port with a transaction that it has just issued. -/
def issuing (write : Bool) (addr : Nat) (data : Word) (s : State) : State :=
  s.updSp fun p =>
    { p with inflight := some { write := write, addr := addr, data := data, since := s.now }, answer := none, done := false,
             timeout := false }

/-- What an issued transaction leaves: it is in flight, and answered. -/
structure Issued (write : Bool) (addr : Nat) (data : Word) (s t : State) : Prop where
  inflight : t.mgt.sp.inflight = some { write := write, addr := addr, data := data, since := s.now }
  answer : t.mgt.sp.answer ≠ none
  done : t.mgt.sp.done = false

theorem spIssue_free {write : Bool} {addr : Nat} {data : Word} {s : State} (h : s.mgt.sp.inflight = none) :
    s.spIssue write addr data =
      if write then (s.issuing write addr data).busWrite 7 addr 4 data else (s.issuing write addr data).busRead 7 addr 4 false := by
  unfold spIssue
  rw [h]
  rfl

theorem issued_answer {write : Bool} {addr : Nat} {data : Word} {x : BusResp} {s t : State}
    (h : SameMatrix (s.issuing write addr data) t) : Issued write addr data s (t.answer 7 x) :=
  ⟨h.inflight, by rw [answer_port]; exact nofun, h.done⟩

theorem sameMatrix_readAt (m addr size : Nat) (s : State) : SameMatrix s (s.readAt m addr size).2.2 :=
  (Kept.refl (mx := true) s).readAt.matrix rfl

theorem sameMatrix_writeAt (m addr size : Nat) (data : Word) (unl : Bool) (s : State) : SameMatrix s (s.writeAt m addr size data unl).2 :=
  (Kept.refl (mx := true) s).writeAt.matrix rfl

theorem issued_read {addr : Nat} {s : State} (hfree : s.mgt.sp.inflight = none) (hlock : s.mgt.locks = []) :
    Issued false addr 0 s (s.spIssue false addr 0) := by
  rw [spIssue_free hfree, if_neg (by decide), busRead_free (s := s.issuing false addr 0) hlock]
  exact issued_answer (sameMatrix_readAt 7 addr 4 _)

theorem issued_write {addr : Nat} {data : Word} {s : State} (hfree : s.mgt.sp.inflight = none) (hlock : s.mgt.locks = []) :
    Issued true addr data s (s.spIssue true addr data) := by
  rw [spIssue_free hfree, if_pos rfl, busWrite_free (s := s.issuing true addr data) hlock]
  let u := s.issuing true addr data
  exact issued_answer ((SameMatrix.mk rfl rfl rfl rfl : SameMatrix u (disarm 7 u)).trans (sameMatrix_writeAt 7 addr 4 data _ _))

section
variable {frame : List Byte} {s : State} (hup : s.spUp = true)
include hup

theorem spRx_write {a : Nat} {d : Word} (hf : spFrame frame = .write a d) : s.spRx frame = s.spIssue true a d := by
  rw [spRx, if_neg (by simp [hup]), hf]

theorem spRx_read {a : Nat} (hf : spFrame frame = .read a) : s.spRx frame = s.spIssue false a 0 := by
  rw [spRx, if_neg (by simp [hup]), hf]

theorem spRx_status (hf : spFrame frame = .status) : s.spRx frame = s.spReport := by
  rw [spRx, if_neg (by simp [hup]), hf]

theorem spRx_bad (hf : spFrame frame = .bad) : s.spRx frame = s.spDiscard := by
  rw [spRx, if_neg (by simp [hup]), hf]

/-- While a transaction is in flight, a further one is lost. -/
theorem spRx_busy (hbad : spFrame frame ≠ .bad) (hstatus : spFrame frame ≠ .status) (hbusy : s.mgt.sp.inflight ≠ none) :
    s.spRx frame = s.spLost := by
  have hlost (w : Bool) (a : Nat) (d : Word) : s.spIssue w a d = s.spLost := if_pos (Option.isSome_iff_ne_none.mpr hbusy)
  cases hf : spFrame frame with
  | write a d => rw [spRx_write hup hf, hlost]
  | read a => rw [spRx_read hup hf, hlost]
  | status => exact absurd hf hstatus
  | bad => exact absurd hf hbad

end

theorem spRx_down {frame : List Byte} {s : State} (h : s.spUp = false) : s.spRx frame = s := by rw [spRx, if_pos (by simp [h])]

theorem foldl_be_lt (l : List Byte) (a : Nat) : l.foldl (fun a b => a * 256 + b.toNat) a < (a + 1) * 256 ^ l.length := by
  induction l generalizing a with
  | nil => simp
  | cons b l ih =>
    have hb : b.toNat < 256 := b.isLt
    calc l.foldl (fun a b => a * 256 + b.toNat) (a * 256 + b.toNat) < (a * 256 + b.toNat + 1) * 256 ^ l.length := ih _
      _ ≤ ((a + 1) * 256) * 256 ^ l.length := Nat.mul_le_mul_right _ (by omega)
      _ = (a + 1) * 256 ^ (b :: l).length := by rw [List.length_cons, pow_succ]; ring

theorem beNat_lt {l : List Byte} (h : l.length = 4) : beNat l < 2 ^ 32 := by
  have := foldl_be_lt l 0
  rw [h] at this
  exact this

/-- The port with its transaction abandoned: what its code and data read is free. -/
def abandoned (s : State) : State :=
  ((s.fresh.2.fresh.2.updMgt fun g => { g with stalled := g.stalled.filter fun x => x.m != 7 }).showOut 7).updSp fun p =>
    { p with inflight := none, answer := none, done := true, timeout := true,
             resp := ⟨s.fresh.1 % 16, BitVec.ofNat 32 s.fresh.2.fresh.1⟩, unreported := true }

theorem spTimeout_early {s : State} (h : s.mgt.sp.inflight.all (fun x => decide (s.now < x.since + 1000000)) = true) :
    s.spTimeout = s := by
  unfold spTimeout
  split
  · rfl
  · next x hx =>
    rw [hx, Option.all_some, decide_eq_true_eq] at h
    rw [if_pos h]

/-- What the abandoning of a transaction leaves. -/
structure Abandoned (s t : State) : Prop where
  inflight : t.mgt.sp.inflight = none
  done : t.mgt.sp.done = true
  timeout : t.mgt.sp.timeout = true
  unreported : t.mgt.sp.unreported = true
  regs : RegsKept [.bmx] s t
  mem : MemoryKept s t

theorem memoryKept_of {s t : State} (hm : t.mgt.sram = s.mgt.sram) (hd : t.dram.mem = s.dram.mem) : MemoryKept s t :=
  fun a => by rw [hm, hd]; exact ⟨rfl, rfl⟩

theorem abandoned_abandoned (s : State) : Abandoned s s.abandoned := by
  generalize hv : s.fresh.2.fresh.2.updMgt (fun g => { g with stalled := g.stalled.filter fun x => x.m != 7 }) = v
  have hregs : v.regs = s.regs := by rw [← hv]; rfl
  have hsram : v.mgt.sram = s.mgt.sram := by rw [← hv]; rfl
  have hdram : v.dram = s.dram := by rw [← hv]; rfl
  have hout : RegsOnly v (v.showOut 7) := (RegsOnly.refl v).set _ _
  have hkept : RegsKept [.bmx] s (v.showOut 7) := ((RegsKept.refl _ s).same hregs).set _ (by decide)
  unfold abandoned
  rw [hv]
  generalize v.showOut 7 = w at hout hkept
  exact ⟨rfl, rfl, rfl, rfl, hkept, memoryKept_of ((congrArg MgtState.sram hout.mgt).trans hsram)
    (congrArg DramState.mem (hout.dram.trans hdram))⟩

theorem spTimeout_late {x : SpTrans} {s : State} (hx : s.mgt.sp.inflight = some x) (hlate : x.since + 1000000 ≤ s.now) :
    s.spTimeout = s.abandoned := by
  unfold spTimeout
  rw [hx]
  exact if_neg (by omega)

/-! ### The status byte, and what a bad frame leaves -/

theorem toNat_spStatusByte (p : SpPort) : (BitVec.ofNat 8 (spStatusByte p)).toNat = spStatusByte p := by
  have hb (b : Bool) : b2n b ≤ 1 := by cases b <;> decide
  have h1 := hb p.done
  have h2 := hb p.lost
  have h3 := hb p.crcErr
  have h4 := hb p.timeout
  rw [BitVec.toNat_ofNat, Nat.mod_eq_of_lt]
  unfold spStatusByte
  omega

/-- What the loss of a frame leaves. -/
structure FrameLost (s t : State) : Prop where
  lost : t.mgt.sp.lost = true
  inflight : t.mgt.sp.inflight = s.mgt.sp.inflight
  answer : t.mgt.sp.answer = s.mgt.sp.answer
  regs : RegsKept [.mgt] s t

theorem frameLost_spLost (s : State) : FrameLost s s.spLost := by
  have honly : RegsOnly s (s.bump Reg.MGT.SPCNT_LOST 1) := (RegsOnly.refl s).bump _ _
  have hregs : RegsKept [.mgt] s (s.bump Reg.MGT.SPCNT_LOST 1) := (RegsKept.refl _ s).bump _ (by decide)
  have hkept : RegsKept [.mgt] s s.spLost := hregs.same rfl
  unfold spLost at hkept ⊢
  generalize s.bump Reg.MGT.SPCNT_LOST 1 = u at honly hkept
  have hinflight : u.mgt.sp.inflight = s.mgt.sp.inflight := by rw [honly.mgt]
  have hanswer : u.mgt.sp.answer = s.mgt.sp.answer := by rw [honly.mgt]
  exact ⟨rfl, hinflight, hanswer, hkept⟩

/-- What the discarding of a frame leaves. -/
structure FrameBad (s t : State) : Prop where
  flag : t.get Reg.MGT.STAT_SPCRC = 1
  crcErr : t.mgt.sp.crcErr = true
  inflight : t.mgt.sp.inflight = s.mgt.sp.inflight
  raised : Raised 36 t
  regs : RegsKept [.mgt, .flt] s t

theorem frameBad_spDiscard (s : State) : FrameBad s s.spDiscard := by
  have honly : RegsOnly s (((s.set Reg.MGT.STAT_SPCRC 1).bump Reg.MGT.SPCNT_CRCERR 1).raise 36 []) :=
    (((RegsOnly.refl s).set _ _).bump _ _).raise _ _
  have hregs : RegsKept [.mgt, .flt] s (((s.set Reg.MGT.STAT_SPCRC 1).bump Reg.MGT.SPCNT_CRCERR 1).raise 36 []) :=
    (((RegsKept.refl _ s).set _ (by decide)).bump _ (by decide)).raise _ _ (by simp)
  have hflag : (((s.set Reg.MGT.STAT_SPCRC 1).bump Reg.MGT.SPCNT_CRCERR 1).raise 36 []).get Reg.MGT.STAT_SPCRC = 1 := by
    rw [get_raise _ _ _ (by decide), get_bump_other _ _ (by decide) (by decide), get_set_same _ _ (by decide)]
    rfl
  have hraised := raised_raise (src := 36) [] ((s.set Reg.MGT.STAT_SPCRC 1).bump Reg.MGT.SPCNT_CRCERR 1) (by decide)
  unfold spDiscard
  generalize ((s.set Reg.MGT.STAT_SPCRC 1).bump Reg.MGT.SPCNT_CRCERR 1).raise 36 [] = u at *
  exact ⟨hflag, rfl, by rw [← honly.mgt]; rfl, hraised, hregs⟩

/-- A service-port write in PROVISIONED or SERVICE is refused. -/
theorem writeAt_protected {a i j : Nat} {b : Blk} {r : RegDef} {s : State} (hp : s.place a = .block b) (hf : RegMap.find a = some (b, r, i, j))
    (hal : a % 4 = 0) (hlc : s.lcState = 1 ∨ s.lcState = 2) (data : Word) (unl : Bool) : s.writeAt 7 a 4 data unl = s.protErr a := by
  have hok : ¬(4 ≠ 4 ∨ a % 4 ≠ 0) := by omega
  have hwp : s.writeProtected 7 = true := by
    rcases hlc with h | h <;> simp [writeProtected, h]
  unfold writeAt
  rw [hp]
  dsimp only
  rw [if_neg hok, regAt, hf]
  dsimp only [Option.map_some]
  rw [if_pos hwp]

/-- What the refusal leaves. -/
structure WriteRefused (s t : State) : Prop where
  flag : t.get Reg.MGT.STAT_SP_WPROT = 1
  regs : RegsKept [.mgt, .flt] s t
  mgt : t.mgt = s.mgt
  dram : t.dram = s.dram

theorem writeRefused_protErr (a : Nat) (s : State) : WriteRefused s (s.protErr a).2 := by
  have honly : RegsOnly s ((s.set Reg.MGT.STAT_SP_WPROT 1).raise 35 [a]) := ((RegsOnly.refl s).set _ _).raise _ _
  refine ⟨?_, ((RegsKept.refl _ s).set _ (by decide)).raise _ _ (by simp), honly.mgt, honly.dram⟩
  rw [protErr, get_raise _ _ _ (by decide), get_set_same _ _ (by decide)]
  rfl

end State

open State in
/-- Settles O11: a transaction is carried out by the matrix, which leaves it in flight; the frames only move the port's own state. -/
theorem servicePortFrames : Obligations.ServicePortFrames := by
  unfold Obligations.ServicePortFrames
  refine ⟨?read, ?write, ?status, ?register, ?lost, ?down, ?bad, ?done, ?idle, ?early, ?timeout, ?refused⟩
  case read =>
    intro s a3 a2 a1 a0 frame hup hfree hframe hlock
    have h := issued_read (addr := beNat [a3, a2, a1, a0]) hfree hlock
    refine ⟨_, congrArg Host.Outcome.next (spRx_read hup (hframe ▸ spFrame_read a3 a2 a1 a0)), ⟨_, h.inflight, rfl, rfl⟩, h.answer, h.done⟩
  case write =>
    intro s b frame hup hfree hb hframe hlock
    have h := issued_write (addr := beNat (b.take 4)) (data := BitVec.ofNat 32 (beNat (b.drop 4))) hfree hlock
    refine ⟨_, congrArg Host.Outcome.next (spRx_write hup (hframe ▸ spFrame_write hb)), ⟨_, h.inflight, rfl, rfl, ?_⟩, h.answer⟩
    rw [BitVec.toNat_ofNat]
    exact Nat.mod_eq_of_lt (beNat_lt (by rw [List.length_drop, hb]))
  case status =>
    intro s hup
    refine ⟨_, congrArg Host.Outcome.next (spRx_status hup (by decide)), ?_, rfl, rfl, fun hd => ?_, toNat_spStatusByte _, fun _ _ => rfl⟩
    · rfl
    · exact if_pos hd
  case register =>
    intro s a3 a2 a1 a0 frame b r i j f hup hfree hframe hlock hfind hplace hal hcnv hmica hkey hf hacc hrun
    let u := s.issuing false (beNat [a3, a2, a1, a0]) 0
    have hread := readAt_register (m := 7) (s := u) hplace hfind hal hcnv hmica
    have hissue : s.spIssue false (beNat [a3, a2, a1, a0]) 0 =
        (u.tableMet b r.off i (beNat [a3, a2, a1, a0])).answer 7 ⟨0, BitVec.ofNat 32 (u.regRead 7 (beNat [a3, a2, a1, a0]) r)⟩ := by
      rw [spIssue_free hfree, if_neg (by decide), busRead_free (s := u) hlock, hread]
    refine ⟨_, congrArg Host.Outcome.next ((spRx_read hup (hframe ▸ spFrame_read a3 a2 a1 a0)).trans hissue), _, answer_port _ _, ?_⟩
    exact bits_readWord u hfind hkey hf hacc hrun
  case lost =>
    intro s frame hup hbad hstatus hbusy c hc
    have hexec : exec c s = .next (s.spRx frame) := by
      rcases List.mem_cons.mp hc with rfl | hc
      · rfl
      · rw [List.mem_singleton.mp hc]; rfl
    rw [spRx_busy hup hbad hstatus hbusy] at hexec
    obtain ⟨hlost, hinflight, hanswer, hregs⟩ := frameLost_spLost s
    exact ⟨_, hexec, hlost, hinflight, hanswer, hregs⟩
  case down =>
    intro s frame hup c hc
    have hexec : exec c s = .next (s.spRx frame) := by
      simp only [List.mem_cons, List.not_mem_nil, or_false] at hc
      rcases hc with rfl | rfl | rfl <;> rfl
    rw [hexec, spRx_down hup]
  case bad =>
    intro s frame hup hbad
    obtain ⟨hflag, hcrc, hinflight, hraised, hregs⟩ := frameBad_spDiscard s
    have hexec := congrArg (Host.Outcome.next (φ := Fault) (ρ := Refusal)) (spRx_bad hup hbad)
    exact ⟨_, hexec, hflag, hcrc, hinflight, hraised, hregs, hexec, hexec⟩
  case done =>
    intro s x y hx hy
    have hdone : s.spDone = s.updSp fun p =>
        { p with inflight := none, answer := none, done := true, timeout := false, resp := y, unreported := true } := by
      rw [spDone, hx, hy]
    exact ⟨_, congrArg Host.Outcome.next hdone, rfl, rfl, rfl, rfl, rfl, rfl⟩
  case idle =>
    intro s h
    refine ⟨_, congrArg Host.Outcome.next ?_, rfl⟩
    unfold spDone
    split
    · rcases h with h | h <;> simp_all
    · rfl
  case early =>
    intro s h
    exact ⟨_, congrArg Host.Outcome.next (spTimeout_early h), rfl⟩
  case timeout =>
    intro s x hx hlate
    obtain ⟨hinflight, hdone, htimeout, hunreported, hregs, hmem⟩ := abandoned_abandoned s
    exact ⟨_, congrArg Host.Outcome.next (spTimeout_late hx hlate), hinflight, hdone, htimeout, hunreported, hregs, hmem⟩
  case refused =>
    intro s addr data b r i j hlock hlc hplace hfind hal
    have hwrite : s.busWrite 7 addr 4 data = ((s.disarm 7).protErr addr).2.answer 7 ⟨3, 0⟩ := by
      rw [busWrite_free hlock, writeAt_protected (s := s.disarm 7) hplace hfind hal hlc]
      rfl
    obtain ⟨hflag, hregs, hmgt, hdram⟩ := writeRefused_protErr addr (s.disarm 7)
    generalize ((s.disarm 7).protErr addr).2 = u at *
    refine ⟨_, congrArg Host.Outcome.next hwrite, hflag, rfl, hregs, memoryKept_of ?_ (congrArg DramState.mem hdram)⟩
    have hsram : u.mgt.sram = (s.disarm 7).mgt.sram := congrArg MgtState.sram hmgt
    exact hsram

end Sys2Proof.Machine
end

section
set_option Elab.async false
/-! SUPPORT. The bus matrix (R511–R517): locked sequences, REMAP, the DRAM bank, and the copy engines. -/

namespace Sys2Proof.Machine
namespace State

/-! ### Transactions that are refused, or wait -/

/-- What the refusal of a transaction locked out leaves. -/
structure LockedOut (m : Nat) (s t : State) : Prop where
  flag : t.get Reg.MGT.STAT_LOCKERR = 1
  answer : Assoc.find t.mgt.readBack m = some ⟨4, 0⟩
  raised : Raised 37 t
  locks : t.mgt.locks = s.mgt.locks
  regs : RegsKept [.mgt, .bmx, .flt] s t

theorem lockedOut_refuseLocked {op : BusOp} (hm : op.m ≤ 6) (s : State) : LockedOut op.m s (s.refuseLocked op) := by
  generalize hu : ((s.set Reg.MGT.STAT_LOCKERR 1).bump Reg.BMX.CNT_LOCKERR 1).raise 37 [op.addr, op.m] = u
  have honly : RegsOnly s u := hu ▸ ((((RegsOnly.refl s).set _ _).bump _ _).raise _ _)
  have hregs : RegsKept [.mgt, .bmx, .flt] s u :=
    hu ▸ ((((RegsKept.refl _ s).set _ (by decide)).bump _ (by decide)).raise _ _ (by simp))
  have hraised : Raised 37 u := hu ▸ raised_raise (src := 37) _ _ (by decide)
  have hflag : u.get Reg.MGT.STAT_LOCKERR = 1 := by
    rw [← hu, get_raise _ _ _ (by decide), get_bump_other _ _ (by decide) (by decide), get_set_same _ _ (by decide)]
    rfl
  have heq : s.refuseLocked op = u.answer op.m ⟨4, 0⟩ := by rw [← hu]; rfl
  rw [heq, answer_eq hm]
  have hlocks : u.mgt.locks = s.mgt.locks := by rw [honly.mgt]
  exact ⟨hflag, Assoc.find_put_same _ _ _, hraised, hlocks, hregs.same rfl⟩

theorem issue_refused {op : BusOp} {l : BusLock} {k : Nat} {s : State} (hl : s.lockOf op.m = some l)
    (ht : s.busTarget (s.issuedAt op) = some k) (hk : k ≠ l.target) : s.issue op = (s.refuseLocked op, false) := by
  unfold issue
  rw [hl, ht]
  exact if_pos ⟨nofun, fun h => hk (Option.some.inj h)⟩

theorem busOp_refused {op : BusOp} {l : BusLock} {k : Nat} {s : State} (hl : s.lockOf op.m = some l)
    (ht : s.busTarget (s.issuedAt op) = some k) (hk : k ≠ l.target) : s.busOp op = s.refuseLocked op := by
  unfold busOp
  rw [issue_refused hl ht hk]
  rfl

/-- A transaction to a target that another master holds. -/
theorem busOp_waits {op : BusOp} {l : BusLock} {s : State} (hlocks : s.mgt.locks = [l]) (hm : l.m ≠ op.m)
    (ht : s.busTarget (s.issuedAt op) = some l.target) :
    s.busOp op = (s.updMgt fun g => { g with stalled := g.stalled ++ [op] }).showOut op.m := by
  have hlock : s.lockOf op.m = none := by simp [lockOf, hlocks, hm]
  have hwait : s.mustWait op (s.busTarget (s.issuedAt op)) = true := by simp [mustWait, hlocks, ht, hm]
  unfold busOp issue
  rw [hlock]
  dsimp only
  rw [if_pos hwait]
  rfl

/-- What the waiting of a transaction leaves. -/
structure Waiting (op : BusOp) (l : BusLock) (s t : State) : Prop where
  stalled : t.mgt.stalled = s.mgt.stalled ++ [op]
  unlocks : t.mgt.unlocks = s.mgt.unlocks
  locks : t.mgt.locks = [l]
  regs : RegsKept [.bmx] s t

theorem outside_out {m : Nat} (hm : m ≤ 6) : Outside [.bmx] (Reg.BMX.OUT m).addr = false :=
  outside_page .bmx (by simp) (by simp only [Reg.BMX.OUT, BlkKind.layout]; omega)
    (by simp only [Reg.BMX.OUT, BlkKind.pagesEnd, BlkKind.layout]; omega)

theorem waiting_busOp {op : BusOp} {l : BusLock} {s : State} (hop : op.m ≤ 6) (hlocks : s.mgt.locks = [l]) (hm : l.m ≠ op.m)
    (ht : s.busTarget (s.issuedAt op) = some l.target) : Waiting op l s (s.busOp op) := by
  rw [busOp_waits hlocks hm ht]
  generalize hu : s.updMgt (fun g => { g with stalled := g.stalled ++ [op] }) = u
  have hregs : u.regs = s.regs := by rw [← hu]; rfl
  have hmgt : u.mgt.stalled = s.mgt.stalled ++ [op] ∧ u.mgt.unlocks = s.mgt.unlocks ∧ u.mgt.locks = s.mgt.locks := by
    rw [← hu]; exact ⟨rfl, rfl, rfl⟩
  have hout : RegsOnly u (u.showOut op.m) := (RegsOnly.refl u).set _ _
  have hkept : RegsKept [.bmx] s (u.showOut op.m) := ((RegsKept.refl _ s).same hregs).set _ (outside_out hop)
  generalize u.showOut op.m = v at hout hkept
  exact ⟨by rw [hout.mgt, hmgt.1], by rw [hout.mgt, hmgt.2.1], by rw [hout.mgt, hmgt.2.2, hlocks], hkept⟩

end State

namespace State

/-! ### Reads under a lock -/

/-- A word of SRAM whose check bits stand right reads its bytes. -/
theorem sramRead_clean {s : State} (m a off n : Nat) (h : ∀ p ∈ s.prov.inverted, p.1 = 10 → p.2.1 ≠ off / 4) :
    s.sramRead m a off n = (0, leNat (Memory.readN s.mgt.sram off n), s) := by
  have hnone : s.prov.inverted.filter (fun p => p.1 == 10 && p.2.1 == off / 4) = [] := by
    rw [List.filter_eq_nil_iff]
    intro p hp
    simpa using h p hp
  have hall : s.prov.inverted.filter (fun p => !(p.1 == 10 && p.2.1 == off / 4)) = s.prov.inverted := by
    rw [List.filter_eq_self]
    intro p hp
    simpa [imp_iff_not_or] using h p hp
  have hword : s.wordBad 10 (off / 4) 0 = (0, s) := by
    unfold wordBad
    rw [hnone, hall]
    rfl
  unfold sramRead
  rw [hword]
  rfl

theorem readAt_sram {m a off : Nat} {s : State} (hp : s.place a = .sram off) (hm : m ≤ 6)
    (h : ∀ p ∈ s.prov.inverted, p.1 = 10 → p.2.1 ≠ off / 4) :
    s.readAt m a 4 = (0, leNat (Memory.readN s.mgt.sram off 4), s) := by
  unfold readAt
  rw [hp]
  dsimp only
  rw [if_neg (by omega)]
  exact sramRead_clean m a off 4 h

theorem tableMet_clean {s : State} (b : Blk) (off i a : Nat) (h : s.prov.inverted = []) : s.tableMet b off i a = s := by
  unfold tableMet
  split
  · exact tableRead_clean _ _ h
  · rfl

/-- The state that a locked read of a sound word leaves: its answer, and the target taken. -/
def lockedWith (m code : Nat) (w : Word) (k : Nat) (s : State) : State :=
  s.updMgt fun g => { g with readBack := Assoc.put g.readBack m ⟨code, w⟩, locks := g.locks ++ [⟨m, k, s.now⟩] }

theorem busRead_lockedWith {m a k code v : Nat} {s : State} (hq : Quiet m s) (ht : s.busTarget a = some k) (hk : k ≠ 1 ∧ k ≠ 2)
    (hread : s.readAt m a 4 = (code, v, s)) : s.busRead m a 4 true = s.lockedWith m code (BitVec.ofNat 32 v) k := by
  obtain ⟨hm, hlock, -⟩ := hq
  rw [busRead_locked hlock (by rw [ht]; simpa using hk), hread, ht]
  dsimp only
  rw [answer_eq hm]
  rfl

/-! ### The release of a target -/

theorem runStalled_none {s : State} (h : s.mgt.stalled = []) : s.runStalled = s := by
  unfold runStalled
  rw [h]
  rfl

/-- What the forced release of a lock leaves. -/
structure Forced (l : BusLock) (s t : State) : Prop where
  locks : t.mgt.locks = s.mgt.locks.filter fun x => x.m != l.m
  count : t.get Reg.BMX.CNT_FORCED = (s.get Reg.BMX.CNT_FORCED + 1) % 65536
  raised : Raised 38 t
  regs : RegsKept [.bmx, .flt] s t
  rest : t = { s with regs := t.regs, flt := t.flt, mgt := { s.mgt with locks := t.mgt.locks } }

theorem lockForced_eq {l : BusLock} {s : State} (hl : (s.mgt.locks.find? fun x => decide (x.since + 128 ≤ s.now)) = some l)
    (hs : s.mgt.stalled = []) : s.lockForced = ((s.unlockBus l.m).bump Reg.BMX.CNT_FORCED 1).raise 38 [l.m, l.target] := by
  have honly : RegsOnly (s.unlockBus l.m) (((s.unlockBus l.m).bump Reg.BMX.CNT_FORCED 1).raise 38 [l.m, l.target]) :=
    ((RegsOnly.refl _).bump _ _).raise _ _
  have hstalled : (s.unlockBus l.m).mgt.stalled = [] := hs
  unfold lockForced
  rw [hl]
  exact runStalled_none (by rw [honly.mgt, hstalled])

theorem forced_lockForced {l : BusLock} {s : State} (hl : (s.mgt.locks.find? fun x => decide (x.since + 128 ≤ s.now)) = some l)
    (hs : s.mgt.stalled = []) : Forced l s s.lockForced := by
  rw [lockForced_eq hl hs]
  have hlocks : (s.unlockBus l.m).mgt = { s.mgt with locks := s.mgt.locks.filter fun x => x.m != l.m } := rfl
  have hrest : s.unlockBus l.m = { s with mgt := (s.unlockBus l.m).mgt } := rfl
  have hcnt : (s.unlockBus l.m).get Reg.BMX.CNT_FORCED = s.get Reg.BMX.CNT_FORCED := get_of_regs rfl _
  have hregs : (s.unlockBus l.m).regs = s.regs := rfl
  generalize s.unlockBus l.m = u at *
  have hkept : RegsKept [.bmx, .flt] s ((u.bump Reg.BMX.CNT_FORCED 1).raise 38 [l.m, l.target]) :=
    (((RegsKept.refl _ s).same hregs).bump _ (by decide)).raise _ _ (by simp)
  have hraised := raised_raise (src := 38) [l.m, l.target] (u.bump Reg.BMX.CNT_FORCED 1) (by decide)
  have hcount : ((u.bump Reg.BMX.CNT_FORCED 1).raise 38 [l.m, l.target]).get Reg.BMX.CNT_FORCED = (s.get Reg.BMX.CNT_FORCED + 1) % 65536 := by
    rw [get_raise _ _ _ (by decide), get_bump_same _ _ (by decide), hcnt]
    rfl
  have his := raise_is (u.bump Reg.BMX.CNT_FORCED 1) 38 [l.m, l.target]
  have hbump : u.bump Reg.BMX.CNT_FORCED 1 = { u with regs := (u.bump Reg.BMX.CNT_FORCED 1).regs } := rfl
  generalize (u.bump Reg.BMX.CNT_FORCED 1).raise 38 [l.m, l.target] = t at *
  have hmgt : t.mgt = u.mgt := by rw [his, hbump]
  refine ⟨by rw [hmgt, hlocks], hcount, hraised, hkept, ?_⟩
  rw [hmgt, hlocks, his, hbump, hrest, hlocks]

theorem lockForced_none {s : State} (h : (s.mgt.locks.find? fun x => decide (x.since + 128 ≤ s.now)) = none) : s.lockForced = s := by
  rw [lockForced, h]

/-- The holder's write to its target ends its sequence. -/
theorem busOp_released {op : BusOp} {l : BusLock} {s : State} (hlocks : s.mgt.locks = [l]) (hm : l.m = op.m) (hw : op.write = true)
    (hs : s.mgt.stalled = []) (ht : s.busTarget (s.issuedAt op) = some l.target) : (s.busOp op).mgt.locks = [] := by
  have hlock : s.lockOf op.m = some l := by simp [lockOf, hlocks, hm]
  have hx : SameMatrix s (s.perform op) := (Kept.refl (mx := true) s).perform.matrix rfl
  have hissue : s.issue op = ((s.perform op).unlockBus op.m, true) := by
    unfold issue
    rw [hlock, ht]
    dsimp only
    rw [if_neg (by simp), if_pos ⟨hw, rfl⟩]
  have hfree : ((s.perform op).unlockBus op.m).mgt.locks = [] := by
    have : ((s.perform op).unlockBus op.m).mgt.locks = (s.perform op).mgt.locks.filter fun x => x.m != op.m := rfl
    rw [this, hx.locks, hlocks]
    simp [hm]
  have hnone : ((s.perform op).unlockBus op.m).mgt.stalled = [] := hx.stalled.trans hs
  unfold busOp
  rw [hissue]
  dsimp only
  rw [if_pos rfl, runStalled_none hnone, hfree]

end State

namespace State

/-! ### Registers of the bus side -/

section
variable {m a i j : Nat} {data : Word} {b : Blk} {r : RegDef} {s u : State}

/-- A write of a plain register of the bus side that starts something takes effect at once. -/
theorem writeNow_started (hq : Quiet m s) (hf : RegMap.find a = some (b, r, i, j)) (hal : a % 4 = 0) (hp : r.plain = true)
    (hb : b.busSide = true) (htime : b.kind ≠ .time) (hlane : b.kind ≠ .lane) (hs : ∀ t : State, t.heldSpecial m b r.off i data = none)
    (hu : (s.disarm m).landSpecial m b r.off i data = some u) (hl : u.landing = []) :
    s.writeNow m a data = u.answer m ⟨0, 0⟩ := by
  obtain ⟨hm, hlock, -⟩ := hq
  obtain ⟨o, r₀, hn⟩ := names_of_find hf
  obtain ⟨hlo, hhi, -⟩ := b.kind.layout_bounds
  have hlo' := hn.lo
  have hhi' := hn.hi
  have hland := landWrite_some hf hu
  rw [writeNow_bus s hm hlock hf hn.page (by omega) (by omega) hal hp (.inl hlane) (.inl htime) hs hb (by rw [hland, hl]), hland]

/-- A write of a plain register of the bus side that starts nothing stores its fields. -/
theorem busWrite_stored (hq : Quiet m s) (hf : RegMap.find a = some (b, r, i, j)) (hal : a % 4 = 0) (hp : r.plain = true)
    (hb : b.busSide = true) (htime : b.kind ≠ .time) (hlane : b.kind ≠ .lane) (hs : ∀ t : State, t.heldSpecial m b r.off i data = none)
    (hu : (s.disarm m).landSpecial m b r.off i data = none) :
    s.busWrite m a 4 data = (((s.disarm m).landStore r a data).landAfter b r.off).answer m ⟨0, 0⟩ := by
  obtain ⟨hm, hlock, -⟩ := hq
  obtain ⟨o, r₀, hn⟩ := names_of_find hf
  obtain ⟨hlo, hhi, -⟩ := b.kind.layout_bounds
  have hlo' := hn.lo
  have hhi' := hn.hi
  rw [busWrite_block s hm hlock hf hn.page (by omega) (by omega) hal, acceptWrite_plain _ hp (.inl hlane) (.inl htime) (hs _), if_pos hb,
    landWrite_none hf hu]

/-- A field that a write stores reads what the write carries. -/
theorem get_landStore_rw {f : Fld} {o : Nat} {r₀ : RegDef} {x : Nat × Nat} (hn : Names a b r o r₀ x) (hf : f ∈ r.flds) (hacc : f.acc = .rw)
    (hctrl : r.off = 0 → f.lo ≠ 0) : (u.landStore r a data).get ⟨a, f.hi, f.lo⟩ = bits data.toNat f.hi f.lo := by
  rw [get, rd_landStore_same, BitVec.toNat_ofNat, bits_mod_word (hn.bounds hf).2]
  exact bits_landWord_rw _ _ hn.pairwise hf hacc hctrl

end

theorem wordsKept_landStore (r : RegDef) (a : Nat) (data : Word) (u : State) : WordsKept [a] u (u.landStore r a data) :=
  fun c hc => rd_landStore_other r data u (by simpa using hc)

/-! ### The copy engines -/

theorem find_dmaGo {k : Nat} (hk : k < 2) : RegMap.find (Reg.MGT.DMA_GO k).addr =
    some (⟨.mgt, 0⟩, ⟨"DMA[k].GO", 0x114, [(0x20, 2)], [⟨0, 0, .wo, .val 0⟩]⟩, k, 0) := by
  match k, hk with
  | 0, _ => decide +kernel
  | 1, _ => decide +kernel

theorem find_dmaSrcLo {k : Nat} (hk : k < 2) : RegMap.find (Reg.MGT.DMA_SRCLO k).addr =
    some (⟨.mgt, 0⟩, ⟨"DMA[k].SRCLO", 0x100, [(0x20, 2)], [⟨31, 0, .rw, .val 0⟩]⟩, k, 0) := by
  match k, hk with
  | 0, _ => decide +kernel
  | 1, _ => decide +kernel

theorem find_dmaSrcHi {k : Nat} (hk : k < 2) : RegMap.find (Reg.MGT.DMA_SRCHI k).addr =
    some (⟨.mgt, 0⟩, ⟨"DMA[k].SRCHI", 0x104, [(0x20, 2)], [⟨7, 0, .rw, .val 0⟩]⟩, k, 0) := by
  match k, hk with
  | 0, _ => decide +kernel
  | 1, _ => decide +kernel

/-- What the end of a copy leaves. -/
structure DmaEnded (k code : Nat) (s t : State) : Prop where
  only : RegsOnly s t
  busy : t.get (Reg.MGT.DMA_STAT_BUSY k) = 0
  err : t.get (Reg.MGT.DMA_STAT_ERR k) = code
  done : t.get (Reg.MGT.DMA_STAT_DONE k) = 1
  raised : Raised (if code = 0 then 40 else 41) t

theorem dmaEnded_dmaEnd {k code : Nat} (hcode : code < 8) (s : State) : DmaEnded k code s (s.dmaEnd k code) := by
  have hhigh (u : State) (r : FRef) (n : Nat) (hr : r.addr = (Reg.MGT.DMA_STAT_BUSY k).addr) : (u.raise n [k]).get r = u.get r :=
    get_raise _ _ _ (.inr (by rw [hr]; simp only [Reg.MGT.DMA_STAT_BUSY]; omega))
  have hset (u : State) (r q : FRef) (v : Nat) (h : r.hi < q.lo ∨ q.hi < r.lo) (hq : q.hi < 32) : (u.set q v).get r = u.get r :=
    get_set_other _ _ (FRef.apart_iff.mpr (.inr h)) hq
  unfold dmaEnd
  refine ⟨(((RegsOnly.refl s).set _ _).set _ _).set _ _ |>.raise _ _, ?_, ?_, ?_, ?_⟩
  · rw [hhigh _ _ _ rfl, hset _ _ _ _ (.inl (by decide : 30 < 31)) (by decide : 31 < 32),
      hset _ _ _ _ (.inr (by decide : 2 < 30)) (by decide : 2 < 32), get_set_same _ _ (by decide : 30 < 32)]
    exact Nat.zero_mod _
  · rw [hhigh _ (Reg.MGT.DMA_STAT_ERR k) _ rfl, hset _ _ _ _ (.inl (by decide : 2 < 31)) (by decide : 31 < 32),
      get_set_same _ _ (by decide : 2 < 32)]
    exact Nat.mod_eq_of_lt hcode
  · rw [hhigh _ (Reg.MGT.DMA_STAT_DONE k) _ rfl, get_set_same _ _ (by decide : 31 < 32)]
    exact Nat.mod_eq_of_lt (by decide : 1 < 2)
  · by_cases h : code = 0
    · simp only [h, if_true]
      exact raised_raise _ _ (by decide)
    · simp only [h, if_false]
      exact raised_raise _ _ (by decide)

section
variable {m k : Nat} {data : Word} {s u : State}

theorem exec_dmaGo (hq : Quiet m s) (hk : k < 2) (hu : (s.disarm m).dmaGoLand k data = u) (hl : u.landing = []) :
    exec (.dmaGo m k data) s = .next (u.answer m ⟨0, 0⟩) := by
  have hexec : exec (.dmaGo m k data) s = .next (s.when (decide (k < 2)) (State.writeNow m (Reg.MGT.DMA_GO k).addr data)) := rfl
  rw [hexec, decide_eq_true hk, when_true,
    writeNow_started hq (find_dmaGo hk) (by simp only [Reg.MGT.DMA_GO]; omega) (by decide) rfl nofun nofun (fun _ => rfl) (congrArg some hu) hl]

/-- A GO that ends at once. -/
theorem exec_dmaGo_ended {code : Nat} (hq : Quiet m s) (hk : k < 2) (hcode : code < 8)
    (hu : (s.disarm m).dmaGoLand k data = (s.disarm m).dmaEnd k code) :
    ∃ t, exec (.dmaGo m k data) s = .next t ∧ t.get (Reg.MGT.DMA_STAT_BUSY k) = 0 ∧ t.get (Reg.MGT.DMA_STAT_ERR k) = code ∧
      t.get (Reg.MGT.DMA_STAT_DONE k) = 1 ∧ Raised (if code = 0 then 40 else 41) t ∧ MemoryKept s t := by
  obtain ⟨honly, hbusy, herr, hdone, hraised⟩ := dmaEnded_dmaEnd (k := k) hcode (s.disarm m)
  have hland : ((s.disarm m).dmaEnd k code).landing = [] := honly.landing.trans hq.2.2
  have hexec := exec_dmaGo hq hk hu hland
  have hsram : ((s.disarm m).dmaEnd k code).mgt.sram = s.mgt.sram := by rw [honly.mgt]; rfl
  have hmem : ((s.disarm m).dmaEnd k code).dram.mem = s.dram.mem := by rw [honly.dram]; rfl
  generalize (s.disarm m).dmaEnd k code = v at *
  rw [answer_eq hq.1] at hexec
  exact ⟨_, hexec, hbusy, herr, hdone, hraised, memoryKept_of hsram hmem⟩

theorem dmaGoLand_ignored (h : s.get (Reg.MGT.DMA_STAT_BUSY k) = 1 ∨ bit data.toNat 0 = false) : s.dmaGoLand k data = s := by
  unfold dmaGoLand
  refine if_pos ?_
  rcases h with h | h
  · exact .inr (flag_of_one h)
  · exact .inl (by rw [h]; rfl)

section
variable (hgo : bit data.toNat 0 = true) (hbusy : s.get (Reg.MGT.DMA_STAT_BUSY k) = 0)
include hgo hbusy

theorem dmaGoLand_go : s.dmaGoLand k data =
    if s.get (Reg.MGT.DMA_LEN k) = 0 then s.dmaEnd k 0
    else if s.get (Reg.MGT.DMA_LEN k) % 4 ≠ 0 ∨ 16777216 < s.get (Reg.MGT.DMA_LEN k) ∨ dmaSkew (s.dmaSrc k) ∨ dmaSkew (s.dmaDst k) then
      s.dmaEnd k 2
    else s.set (Reg.MGT.DMA_STAT_BUSY k) 1 := by
  unfold dmaGoLand
  exact if_neg (by simp [hgo, flag, hbusy])

end
end

end State

/-! ### The copy within SRAM -/

theorem Memory.readN_length (m : List Host.Cell) (a n : Nat) : (Memory.readN m a n).length = n := by
  induction n generalizing a with
  | zero => rfl
  | succ n ih => rw [Memory.readN, List.length_cons, ih]

/-- Bytes copied from one memory to another. -/
theorem Memory.read_copied (m m' : List Host.Cell) (a d n x : Nat) (h : x < n) :
    Memory.read (Memory.writeN m d (Memory.readN m' a n)) (d + x) = Memory.read m' (a + x) := by
  induction n generalizing m a d x with
  | zero => omega
  | succ n ih =>
    rw [Memory.readN, Memory.writeN]
    cases x with
    | zero => rw [Memory.read_writeN_outside _ _ _ _ (by omega), Nat.add_zero, Memory.read_write_same, Nat.add_zero]
    | succ x =>
      have hx := ih (Memory.write m d (Memory.read m' a)) (a + 1) (d + 1) x (by omega)
      rwa [show d + 1 + x = d + (x + 1) by omega, show a + 1 + x = a + (x + 1) by omega] at hx

theorem Struck.mgt {s t : State} (h : Struck s t) : t.mgt = s.mgt := by obtain ⟨_, _, _, _, rfl⟩ := h.only; rfl

theorem leBytes_leNat {l : List Byte} (h : l.length = 4) : leBytes 4 (BitVec.ofNat 32 (leNat l)).toNat = l := by
  have hlt := leNat_lt l
  rw [h] at hlt
  rw [BitVec.toNat_ofNat, Nat.mod_eq_of_lt (show leNat l < 2 ^ 32 by omega)]
  refine List.ext_getElem (by rw [State.leBytes_length, h]) fun i hi hl => ?_
  rw [State.leBytes_length] at hi
  have hbyte := State.leBytes_getElem? (leNat l) hi
  rw [leNat_byte hl] at hbyte
  exact (List.getElem?_eq_some_iff.mp hbyte).2

namespace State

/-- What the writing of a word of SRAM can store inverted is that word. -/
theorem inverted_chkinvStruckAt {addr : Nat} {s : State} {p : Nat × Nat × Nat} (hp : p ∈ (s.chkinvStruckAt 10 addr).prov.inverted) :
    p ∈ s.prov.inverted ∨ (p.1 = 10 ∧ p.2.1 = addr) := by
  have hwritten (q : Nat × Nat × Nat) (hq : q ∈ (s.wordWritten 10 addr).prov.inverted) : q ∈ s.prov.inverted := by
    unfold wordWritten at hq
    split at hq
    · exact List.mem_of_mem_filter hq
    · exact hq
  unfold chkinvStruckAt at hp
  dsimp only at hp
  generalize s.wordWritten 10 addr = u at hp hwritten
  split at hp
  · next hmem =>
    unfold chkinvStruck at hp
    split at hp
    · have hprov (v : State) (i : Nat) : ((((v.set Reg.PROV.CHKINV_ARM 0).set Reg.PROV.CHKINVSTAT_ADDR addr).set Reg.PROV.CHKINVSTAT_DONE 1).raise 20
          [i, addr]).prov = v.prov := (((((RegsOnly.refl v).set _ _).set _ _).set _ _).raise _ _).prov
      rw [hprov] at hp
      rcases List.mem_append.mp hp with hp | hp
      · exact .inl (hwritten p hp)
      · rw [List.mem_singleton.mp hp]
        exact .inr ⟨hmem, rfl⟩
    · exact .inl (hwritten p hp)
  · exact .inl (hwritten p hp)

/-- What the copying of a word leaves. -/
structure WordCopied (a d : Nat) (s t : State) : Prop where
  regs : RegsKept [.prov, .flt] s t
  sram : t.mgt.sram = Memory.writeN s.mgt.sram d (Memory.readN s.mgt.sram a 4)
  inverted : ∀ p ∈ t.prov.inverted, p ∈ s.prov.inverted ∨ (p.1 = 10 ∧ p.2.1 = d / 4)

theorem wordCopied_sramPut {a d : Nat} {s : State} (hd : d % 4 = 0) :
    WordCopied a d s (s.sramPut d (Memory.readN s.mgt.sram a 4)) := by
  have hne : (Memory.readN s.mgt.sram a 4 != []) = true := rfl
  have hcount : (d % 4 + (Memory.readN s.mgt.sram a 4).length + 3) / 4 = 1 := by rw [Memory.readN_length]; omega
  generalize hu : s.updMgt (fun m => { m with sram := Memory.writeN m.sram d (Memory.readN s.mgt.sram a 4) }) = u
  have hput : s.sramPut d (Memory.readN s.mgt.sram a 4) = u.chkinvStruckAt 10 (d / 4) := by
    rw [← hu]
    unfold sramPut
    dsimp only
    rw [hne, when_true, hcount]
    rfl
  have hregs : u.regs = s.regs := by rw [← hu]; rfl
  have hsram : u.mgt.sram = Memory.writeN s.mgt.sram d (Memory.readN s.mgt.sram a 4) := by rw [← hu]; rfl
  have hinv : u.prov = s.prov := by rw [← hu]; rfl
  have hs := struck_chkinvStruckAt 10 (d / 4) u
  rw [hput]
  refine ⟨((RegsKept.refl _ s).same hregs).trans hs.regs, by rw [hs.mgt, hsram], fun p hp => ?_⟩
  rw [← hinv]
  exact inverted_chkinvStruckAt hp

theorem place_sram {a : Nat} {s : State} (ha : a < 0x400000) (hremap : s.get Reg.BMX.CTRL_REMAP = 1) : s.place a = .sram a := by
  unfold place
  rw [if_pos (by omega), flag_of_one hremap]
  dsimp only
  rw [decide_eq_true ha]
  exact (if_pos rfl).trans (congrArg Place.sram (Nat.mod_eq_of_lt ha))

theorem dmaGet_sram {a : Nat} {s : State} (ha : a < 0x400000) (hremap : s.get Reg.BMX.CTRL_REMAP = 1)
    (hinv : ∀ p ∈ s.prov.inverted, p.1 = 10 → p.2.1 ≠ a / 4) : s.dmaGet a = (0, leNat (Memory.readN s.mgt.sram a 4), s) := by
  have hbit : bit a 39 = false := by
    rw [bit, Nat.testBit_lt_two_pow (by omega)]
  unfold dmaGet
  rw [if_neg (by simp [hbit]), Nat.mod_eq_of_lt (by omega), readAt_sram (place_sram ha hremap) (by decide) hinv]

theorem dmaPut_sram {d v : Nat} {s : State} (hd : d < 0x400000) (hremap : s.get Reg.BMX.CTRL_REMAP = 1) :
    s.dmaPut d v = (0, (s.disarm 5).sramPut d (leBytes 4 (BitVec.ofNat 32 v).toNat)) := by
  have hbit : bit d 39 = false := by
    rw [bit, Nat.testBit_lt_two_pow (by omega)]
  unfold dmaPut
  dsimp only
  rw [if_neg (by simp [hbit]), Nat.mod_eq_of_lt (by omega), writeAt, place_sram (s := s.disarm 5) hd hremap]
  rfl

/-- What the copying of `n` bytes leaves. -/
structure BytesCopied (n a d : Nat) (s t : State) : Prop where
  inside : ∀ x, x < n → Memory.read t.mgt.sram (d + x) = Memory.read s.mgt.sram (a + x)
  outside : ∀ x, x < d ∨ d + n ≤ x → Memory.read t.mgt.sram x = Memory.read s.mgt.sram x

/-- Words of SRAM are copied to others, and what an armed inversion strikes is none of those still to be read. -/
theorem dmaCopy_sram {n a d : Nat} {s : State} (hremap : s.get Reg.BMX.CTRL_REMAP = 1) (ha : a % 4 = 0) (hd : d % 4 = 0)
    (hahi : a + 4 * n ≤ 0x400000) (hdhi : d + 4 * n ≤ 0x400000) (hapart : a + 4 * n ≤ d ∨ d + 4 * n ≤ a)
    (hinv : ∀ p ∈ s.prov.inverted, p.1 = 10 → p.2.1 < a / 4 ∨ a / 4 + n ≤ p.2.1) :
    ∃ t, s.dmaCopy n a d = (0, t) ∧ BytesCopied (4 * n) a d s t := by
  induction n generalizing a d s with
  | zero => exact ⟨s, rfl, fun x hx => by omega, fun _ _ => rfl⟩
  | succ n ih =>
    have hget := dmaGet_sram (a := a) (s := s) (by omega) hremap fun p hp h10 => by have := hinv p hp h10; omega
    have hput := dmaPut_sram (d := d) (v := leNat (Memory.readN s.mgt.sram a 4)) (by omega) hremap
    rw [leBytes_leNat (Memory.readN_length _ _ _)] at hput
    obtain ⟨hregs, hsram, hinverted⟩ := wordCopied_sramPut (a := a) (s := s.disarm 5) hd
    have hstep : s.dmaCopy (n + 1) a d = ((s.disarm 5).sramPut d (Memory.readN s.mgt.sram a 4)).dmaCopy n (a + 4) (d + 4) := by
      simp only [dmaCopy, hget, hput]
    have hsram' : ((s.disarm 5).sramPut d (Memory.readN s.mgt.sram a 4)).mgt.sram =
        Memory.writeN s.mgt.sram d (Memory.readN s.mgt.sram a 4) := hsram
    have hremap' : ((s.disarm 5).sramPut d (Memory.readN s.mgt.sram a 4)).get Reg.BMX.CTRL_REMAP = 1 := (hregs.get (by decide)).trans hremap
    have hinv' : ∀ p ∈ ((s.disarm 5).sramPut d (Memory.readN s.mgt.sram a 4)).prov.inverted, p.1 = 10 →
        p.2.1 < (a + 4) / 4 ∨ (a + 4) / 4 + n ≤ p.2.1 := by
      intro p hp h10
      rcases hinverted p hp with hold | ⟨-, hnew⟩
      · have := hinv p hold h10
        omega
      · omega
    rw [hstep]
    generalize (s.disarm 5).sramPut d (Memory.readN s.mgt.sram a 4) = u at hsram' hremap' hinv'
    obtain ⟨t, ht, hin, hout⟩ := ih (a := a + 4) (d := d + 4) hremap' (by omega) (by omega) (by omega) (by omega) (by omega) hinv'
    refine ⟨t, ht, fun x hx => ?_, fun x hx => ?_⟩
    · by_cases h4 : x < 4
      · rw [hout _ (by omega), hsram', Memory.read_copied _ _ _ _ _ _ h4]
      · have hcopy := hin (x - 4) (by omega)
        rw [show d + 4 + (x - 4) = d + x by omega, show a + 4 + (x - 4) = a + x by omega] at hcopy
        rw [hcopy, hsram', Memory.read_writeN_outside _ _ _ _ (by rw [Memory.readN_length]; omega)]
    · rw [hout _ (by omega), hsram', Memory.read_writeN_outside _ _ _ _ (by rw [Memory.readN_length]; omega)]

end State

namespace State

/-! ### A write of CTRL of the bus matrix -/

/-- The block of the bus matrix. -/
abbrev bmxBlk : Blk := ⟨.bmx, 0⟩

/-- The row of CTRL in the register map of BMX. -/
abbrev bmxCtrl : RegDef := ⟨"CTRL", 0x0, [], [⟨2, 2, .rw, .val 0⟩, ⟨1, 1, .wo, .val 0⟩, ⟨0, 0, .rw, .val 1⟩]⟩

theorem find_bmxCtrl : RegMap.find Reg.BMX.CTRL_REMAP.addr = some (bmxBlk, bmxCtrl, 0, 0) := by decide +kernel

/-- Only registers of BMX and MGT differ, and no write has come to wait or gone. -/
structure BmxOnly (s t : State) : Prop where
  regs : RegsKept [.bmx, .mgt] s t
  landing : t.landing = s.landing

namespace BmxOnly

variable {s t u : State}

theorem refl (s : State) : BmxOnly s s := ⟨RegsKept.refl _ s, rfl⟩

theorem trans (h : BmxOnly s t) (h' : BmxOnly t u) : BmxOnly s u := ⟨h.regs.trans h'.regs, h'.landing.trans h.landing⟩

theorem set (h : BmxOnly s t) (r : FRef) (v : Nat) (hr : Outside [.bmx, .mgt] r.addr = false) : BmxOnly s (t.set r v) :=
  ⟨h.regs.set v hr, h.landing⟩

theorem wr (h : BmxOnly s t) (a : Nat) (w : Word) (ha : Outside [.bmx, .mgt] a = false) : BmxOnly s (t.wr a w) :=
  ⟨fun c hc => by rw [rd_wr_other _ w (by rintro rfl; simp [ha] at hc)]; exact h.regs c hc, h.landing⟩

theorem when (h : BmxOnly s t) (c : Bool) {f : State → State} (hf : ∀ v, BmxOnly s v → BmxOnly s (f v)) : BmxOnly s (t.when c f) := by
  cases c
  · rw [when_false]; exact h
  · rw [when_true]; exact hf t h

theorem ite {c : Prop} [Decidable c] (h : BmxOnly s t) (h' : BmxOnly s u) : BmxOnly s (if c then t else u) := by
  split
  · exact h
  · exact h'

theorem softRegs (h : BmxOnly s t) (held : Bool) (chosen : Nat → Bool) : BmxOnly s (t.softRegs held bmxBlk chosen) := by
  unfold State.softRegs
  have heach : BmxOnly s (t.each (t.regs.filter fun p => bmxBlk.has p.1 && chosen (p.1 - bmxBlk.base)) fun p u =>
      u.wr p.1 (t.softWord held bmxBlk p.1 p.2)) := by
    refine each_inv_mem t (BmxOnly s) _ _ (fun p hp u hu => hu.wr _ _ ?_) h
    have hhas : bmxBlk.has p.1 = true := by
      have := (List.mem_filter.mp hp).2
      simp only [Bool.and_eq_true] at this
      exact this.1
    simp only [Blk.has, Bool.and_eq_true, decide_eq_true_eq] at hhas
    exact outside_page .bmx (by simp) (by simpa [Blk.base, BlkKind.layout] using hhas.1)
      (by simpa [Blk.base, BlkKind.layout, BlkKind.pagesEnd] using hhas.2)
  exact ⟨heach.regs.same rfl, heach.landing⟩

theorem softHeld (h : BmxOnly s t) : BmxOnly s (t.softHeld bmxBlk) :=
  have hs := h.softRegs true fun _ => true
  ⟨hs.regs.same rfl, hs.landing⟩

theorem softReset (h : BmxOnly s t) : BmxOnly s (t.softReset bmxBlk) := by
  have hhidden (v : State) : v.softHidden bmxBlk = v := rfl
  unfold State.softReset
  rw [hhidden]
  exact h.softRegs false _

theorem raiseEn (h : BmxOnly s t) (cap : List (Nat × Word)) : BmxOnly s (t.raiseEn bmxBlk cap) := by
  unfold State.raiseEn
  split
  · exact ⟨h.regs.same rfl, h.landing⟩
  · have htake : BmxOnly s (t.takeRwd bmxBlk cap) := ⟨h.regs.same rfl, h.landing⟩
    exact htake.set bmxBlk.run 1 (by decide)

theorem lowerEn (h : BmxOnly s t) : BmxOnly s (t.lowerEn bmxBlk) := by
  have hdel : BmxOnly s { t with restart := Assoc.del t.restart bmxBlk.base } := ⟨h.regs.same rfl, h.landing⟩
  unfold State.lowerEn
  dsimp only
  rw [show (bmxBlk.kind == BlkKind.scan) = false from rfl, when_false]
  split
  · exact hdel
  · exact hdel.set bmxBlk.run 0 (by decide)

end BmxOnly

/-- What the starting or the stopping of the bus matrix leaves of its CTRL. -/
theorem rd_raiseEn (cap : List (Nat × Word)) (s : State) : (s.raiseEn bmxBlk cap).rd 0x2B010000 = s.rd 0x2B010000 := by
  unfold raiseEn
  split
  · rfl
  · exact rd_set_other (q := bmxBlk.run) _ 1 (by decide)

theorem rd_lowerEn (s : State) : (s.lowerEn bmxBlk).rd 0x2B010000 = s.rd 0x2B010000 := by
  unfold lowerEn
  dsimp only
  rw [show (bmxBlk.kind == BlkKind.scan) = false from rfl, when_false]
  split
  · rfl
  · exact rd_set_other (q := bmxBlk.run) _ 0 (by decide)

/-- What a landing write of CTRL leaves: REMAP takes the data. -/
theorem landWrite_bmxCtrl {l : Landing} {s : State} (hl : l.addr = Reg.BMX.CTRL_REMAP.addr) :
    BmxOnly s (s.landWrite l) ∧ (s.landWrite l).get Reg.BMX.CTRL_REMAP = bits l.data.toNat 2 2 := by
  obtain ⟨o, r₀, hn⟩ := names_of_find find_bmxCtrl
  have hsoft : BmxOnly s (s.when l.srst (softReset bmxBlk)) := (BmxOnly.refl s).when _ fun v hv => hv.softReset
  have hspecial (v : State) : v.landSpecial l.m bmxBlk bmxCtrl.off 0 l.data = none := rfl
  unfold landWrite
  rw [hl, find_bmxCtrl]
  simp only [hspecial]
  generalize s.when l.srst (softReset bmxBlk) = u at hsoft
  have hstored : BmxOnly s (u.landStore bmxCtrl Reg.BMX.CTRL_REMAP.addr l.data) :=
    hsoft.trans ⟨fun c hc => rd_landStore_other _ _ _ (by rintro rfl; exact absurd hc (by decide)), landStore_landing _ _ _ _⟩
  have hget : (u.landStore bmxCtrl Reg.BMX.CTRL_REMAP.addr l.data).get Reg.BMX.CTRL_REMAP = bits l.data.toNat 2 2 :=
    get_landStore_rw (f := ⟨2, 2, .rw, .val 0⟩) hn (by decide) rfl (by decide)
  have hafter (v : State) : v.landAfter bmxBlk bmxCtrl.off = v := rfl
  rw [hafter]
  generalize u.landStore bmxCtrl Reg.BMX.CTRL_REMAP.addr l.data = v at hstored hget
  refine ⟨(hstored.when _ fun w hw => hw.raiseEn _).when _ fun w hw => hw.lowerEn, ?_⟩
  rw [← hget, get, get]
  congr 2
  rw [when_keeps _ (·.rd Reg.BMX.CTRL_REMAP.addr) _ _ (rd_lowerEn _), when_keeps _ (·.rd Reg.BMX.CTRL_REMAP.addr) _ _ (rd_raiseEn _ _)]

end State

namespace State

/-- The judging of a write of CTRL, which then takes effect. -/
theorem acceptWrite_bmxCtrl (m : Nat) (data : Word) (unl : Bool) (s : State) : ∃ v l,
    s.acceptWrite m Reg.BMX.CTRL_REMAP.addr data unl bmxBlk bmxCtrl 0 = v.landWrite l ∧ BmxOnly s v ∧
      l.addr = Reg.BMX.CTRL_REMAP.addr ∧ l.data = data := by
  have hignored (en : Bool) (old d : Nat) : bmxCtrl.flds.any (fieldIgnored en old d) = false := by simp [fieldIgnored]
  have hlocked (old d : Nat) : bmxCtrl.flds.any (fieldLocked unl old d) = false := by simp [fieldLocked]
  have hheld (v : State) : (if unl then v.heldSpecial m bmxBlk bmxCtrl.off 0 data else none) = none := by cases unl <;> rfl
  have hafter (v : State) (old : Nat) : v.heldAfter bmxBlk bmxCtrl.off old = v := rfl
  have hwide : (wideAt Reg.BMX.CTRL_REMAP.addr && bmxCtrl.flds.any fun f => (f.acc == Acc.rwd && !(s.get bmxBlk.en == 1)) || (f.acc == Acc.rwl && unl)) = false := by
    rw [show wideAt Reg.BMX.CTRL_REMAP.addr = false from by decide +kernel, Bool.false_and]
  have h0 : (bmxCtrl.off == 0) = true := rfl
  unfold acceptWrite
  rw [if_neg (by rintro ⟨h, -⟩; cases h), if_neg (by rintro ⟨h, -⟩; cases h)]
  simp only [hignored, hlocked, when_false, hheld, hafter, hwide, h0, Bool.true_and]
  have h1 : BmxOnly s (s.when (bit data.toNat 1 && (s.get bmxBlk.en == 1)) (set bmxBlk.cfgIgn 1)) :=
    (BmxOnly.refl s).when _ fun v hv => hv.set _ _ (by decide)
  generalize s.when (bit data.toNat 1 && (s.get bmxBlk.en == 1)) (set bmxBlk.cfgIgn 1) = v1 at h1
  have h2 : BmxOnly s (v1.when (bit data.toNat 1 && !(s.get bmxBlk.en == 1)) (softHeld bmxBlk)) := h1.when _ fun v hv => hv.softHeld
  generalize v1.when (bit data.toNat 1 && !(s.get bmxBlk.en == 1)) (softHeld bmxBlk) = v2 at h2
  exact ⟨_, _, if_pos (c := bmxBlk.busSide = true) rfl, h2.ite (h2.wr _ _ (by decide)), rfl, rfl⟩

theorem exec_remapWrite {m : Nat} {data : Word} {s : State} (hq : Quiet m s) :
    ∃ t, exec (.remapWrite m data) s = .next t ∧ t.get Reg.BMX.CTRL_REMAP = bits data.toNat 2 2 ∧ RegsKept [.bmx, .mgt] s t := by
  obtain ⟨hm, hlock, hland⟩ := hq
  obtain ⟨v, l, hacc, hv, hl, hdata⟩ := acceptWrite_bmxCtrl m data (m == 6 || s.armed m) (s.disarm m)
  obtain ⟨honly, hremap⟩ := landWrite_bmxCtrl (s := v) hl
  have hexec : exec (.remapWrite m data) s = .next (s.writeNow m Reg.BMX.CTRL_REMAP.addr data) := rfl
  have hpage : Blk.ofAddr Reg.BMX.CTRL_REMAP.addr = some (bmxBlk, 0) := by decide +kernel
  have hwrite : s.writeNow m Reg.BMX.CTRL_REMAP.addr data = ((v.landWrite l).answer m ⟨0, 0⟩).landAll bmxBlk := by
    unfold writeNow
    rw [hpage]
    dsimp only
    rw [busWrite_block s hm hlock find_bmxCtrl hpage (by decide) (by decide) (by decide), hacc]
  have hnone : (v.landWrite l).landing = [] := (honly.landing.trans hv.landing).trans hland
  have hregs : RegsKept [.bmx, .mgt] s (v.landWrite l) := hv.regs.trans honly.regs
  generalize v.landWrite l = w at hwrite hnone hregs hremap
  have hall : (w.answer m ⟨0, 0⟩).landAll bmxBlk = w.answer m ⟨0, 0⟩ := landAll_nil (by rw [answer_eq hm]; exact hnone)
  rw [hexec, hwrite, hall, answer_eq hm]
  exact ⟨_, rfl, hremap.trans (by rw [hdata]), hregs.same rfl⟩

theorem bits_single (w i : Nat) : bits w i i = b2n (bit w i) := by
  have hlt : bits w i i < 2 := by simpa using bits_lt w i i
  have hbit : (bits w i i).testBit 0 = bit w i := by rw [testBit_bits, bit, Nat.zero_add, decide_eq_true (by omega), Bool.true_and]
  rw [← hbit, Nat.testBit_zero]
  rcases Nat.mod_two_eq_zero_or_one (bits w i i) with h | h
  all_goals rw [Nat.mod_eq_of_lt hlt] at h; rw [h]; rfl

theorem place_zero {s : State} {data : Word} (h : s.get Reg.BMX.CTRL_REMAP = bits data.toNat 2 2) :
    s.place 0 = if bit data.toNat 2 then .sram 0 else .rom 0 := by
  have hflag : s.flag Reg.BMX.CTRL_REMAP = bit data.toNat 2 := by
    rw [flag, h, bits_single]
    cases bit data.toNat 2 <;> rfl
  unfold place
  rw [if_pos (by decide), hflag]
  cases bit data.toNat 2 <;> rfl

end State

namespace State

/-! ### Stored registers of MGT, and wide values -/

theorem landStore_narrow {r : RegDef} {a : Nat} (data : Word) (u : State) (h : wideAt a = false) :
    u.landStore r a data = u.wr a (BitVec.ofNat 32 (landWord r (u.rd a).toNat data.toNat)) := by
  rw [landStore, h, Bool.false_and, when_false]

theorem landStore_wide {r : RegDef} {a : Nat} (data : Word) (u : State) (h : wideAt a = true) (hr : (r.flds.any fun f => f.acc == .rw) = true) :
    u.landStore r a data = (u.wr a (BitVec.ofNat 32 (landWord r (u.rd a).toNat data.toNat))).takeWide (a - 4) := by
  rw [landStore, h, hr, Bool.true_and, when_true]

theorem wideAt_srcLo {k : Nat} (hk : k < 2) : wideAt (Reg.MGT.DMA_SRCLO k).addr = false := by
  match k, hk with
  | 0, _ => decide +kernel
  | 1, _ => decide +kernel

theorem wideAt_srcHi {k : Nat} (hk : k < 2) : wideAt (Reg.MGT.DMA_SRCHI k).addr = true := by
  match k, hk with
  | 0, _ => decide +kernel
  | 1, _ => decide +kernel

theorem wideWord_congr {s t : State} (h : t.wide = s.wide) (a : Nat) : t.wideWord a = s.wideWord a := by rw [wideWord, wideWord, h]

theorem wideWord_takeWide_same (lo : Nat) (s : State) : (s.takeWide lo).wideWord lo = s.rd lo := by
  rw [wideWord, takeWide, Assoc.findD_set_same]

theorem wideWord_takeWide_other {lo a : Nat} (s : State) (h : a ≠ lo) : (s.takeWide lo).wideWord a = s.wideWord a := by
  rw [wideWord, takeWide, Assoc.findD_set_other _ _ _ _ _ _ h, wideWord]

theorem dmaSrc_congr {s t : State} {k : Nat} (hlo : t.wideWord (Reg.MGT.DMA_SRCLO k).addr = s.wideWord (Reg.MGT.DMA_SRCLO k).addr)
    (hhi : t.get (Reg.MGT.DMA_SRCHI k) = s.get (Reg.MGT.DMA_SRCHI k)) : t.dmaSrc k = s.dmaSrc k := by
  rw [dmaSrc, dmaSrc, getLow, getLow, hlo, hhi]

theorem dmaDst_congr {s t : State} {k : Nat} (hlo : t.wideWord (Reg.MGT.DMA_DSTLO k).addr = s.wideWord (Reg.MGT.DMA_DSTLO k).addr)
    (hhi : t.get (Reg.MGT.DMA_DSTHI k) = s.get (Reg.MGT.DMA_DSTHI k)) : t.dmaDst k = s.dmaDst k := by
  rw [dmaDst, dmaDst, getLow, getLow, hlo, hhi]

theorem bits_all (w : Word) : bits w.toNat 31 0 = w.toNat := by
  have := w.isLt
  rw [bits, Nat.pow_zero, Nat.div_one]
  exact Nat.mod_eq_of_lt this

theorem bits_low (w n : Nat) : bits w n 0 = w % 2 ^ (n + 1) := by rw [bits, Nat.pow_zero, Nat.div_one, Nat.sub_zero]

section
variable {m k : Nat} {data : Word} {s : State}

/-- A write of a register of MGT that only stores its fields. -/
theorem exec_mgtStored {a i j : Nat} {r : RegDef} (hq : Quiet m s) (hf : RegMap.find a = some (⟨.mgt, 0⟩, r, i, j)) (hal : a % 4 = 0)
    (hp : r.plain = true) (ho : r.off ≠ 0x14 ∧ r.off ≠ 0x34 ∧ r.off ≠ 0x114) :
    exec (.registerWrite m a 4 data) s = .next (((s.disarm m).landStore r a data).answer m ⟨0, 0⟩) := by
  obtain ⟨h1, h2, h3⟩ := ho
  have hspecial : (s.disarm m).landSpecial m ⟨.mgt, 0⟩ r.off i data = none := by simp [landSpecial, h1, h2, h3]
  exact congrArg Host.Outcome.next (busWrite_stored hq hf hal hp rfl nofun nofun (fun _ => rfl) hspecial)

theorem exec_srcLo (hq : Quiet m s) (hk : k < 2) :
    ∃ t, exec (.registerWrite m (Reg.MGT.DMA_SRCLO k).addr 4 data) s = .next t ∧ t.get (Reg.MGT.DMA_SRCLO k) = data.toNat ∧
      t.dmaSrc k = s.dmaSrc k ∧ t.dmaDst k = s.dmaDst k := by
  have hf := find_dmaSrcLo hk
  obtain ⟨o, r₀, hn⟩ := names_of_find hf
  have hexec := exec_mgtStored (data := data) hq hf (by simp only [Reg.MGT.DMA_SRCLO]; omega) (by decide) (by decide)
  have hget := get_landStore_rw (data := data) (u := s.disarm m) hn (List.mem_singleton.mpr rfl) rfl (by decide)
  have hwide := congrArg State.wide (landStore_narrow (r := ⟨"DMA[k].SRCLO", 0x100, [(0x20, 2)], [⟨31, 0, .rw, .val 0⟩]⟩) data (s.disarm m)
    (wideAt_srcLo hk))
  have hother (q : FRef) (hq' : q.addr ≠ (Reg.MGT.DMA_SRCLO k).addr) := get_of_rd (q := q)
    (rd_landStore_other ⟨"DMA[k].SRCLO", 0x100, [(0x20, 2)], [⟨31, 0, .rw, .val 0⟩]⟩ data (s.disarm m) hq')
  generalize (s.disarm m).landStore ⟨"DMA[k].SRCLO", 0x100, [(0x20, 2)], [⟨31, 0, .rw, .val 0⟩]⟩ (Reg.MGT.DMA_SRCLO k).addr data = u at *
  have hw : u.wide = s.wide := hwide
  rw [answer_eq hq.1] at hexec
  refine ⟨_, hexec, hget.trans (bits_all data), ?_, ?_⟩
  · exact dmaSrc_congr (s := s) (t := u) (wideWord_congr hw _) (hother _ (by simp only [Reg.MGT.DMA_SRCLO, Reg.MGT.DMA_SRCHI]; omega))
  · exact dmaDst_congr (s := s) (t := u) (wideWord_congr hw _) (hother _ (by simp only [Reg.MGT.DMA_SRCLO, Reg.MGT.DMA_DSTHI]; omega))

theorem exec_srcHi (hq : Quiet m s) (hk : k < 2) :
    ∃ t, exec (.registerWrite m (Reg.MGT.DMA_SRCHI k).addr 4 data) s = .next t ∧
      t.dmaSrc k = s.get (Reg.MGT.DMA_SRCLO k) + data.toNat % 256 * 2 ^ 32 ∧ t.dmaDst k = s.dmaDst k := by
  have hf := find_dmaSrcHi hk
  obtain ⟨o, r₀, hn⟩ := names_of_find hf
  have hexec := exec_mgtStored (data := data) hq hf (by simp only [Reg.MGT.DMA_SRCHI]; omega) (by decide) (by decide)
  have hget := get_landStore_rw (data := data) (u := s.disarm m) hn (List.mem_singleton.mpr rfl) rfl (by decide)
  have hother (q : FRef) (hq' : q.addr ≠ (Reg.MGT.DMA_SRCHI k).addr) := get_of_rd (q := q)
    (rd_landStore_other ⟨"DMA[k].SRCHI", 0x104, [(0x20, 2)], [⟨7, 0, .rw, .val 0⟩]⟩ data (s.disarm m) hq')
  have hlo : (Reg.MGT.DMA_SRCHI k).addr - 4 = (Reg.MGT.DMA_SRCLO k).addr := by simp only [Reg.MGT.DMA_SRCHI, Reg.MGT.DMA_SRCLO]; omega
  have hland := landStore_wide (r := ⟨"DMA[k].SRCHI", 0x104, [(0x20, 2)], [⟨7, 0, .rw, .val 0⟩]⟩) data (s.disarm m) (wideAt_srcHi hk) rfl
  rw [hlo] at hland
  have hsame := wideWord_takeWide_same (Reg.MGT.DMA_SRCLO k).addr ((s.disarm m).wr (Reg.MGT.DMA_SRCHI k).addr (BitVec.ofNat 32
    (landWord ⟨"DMA[k].SRCHI", 0x104, [(0x20, 2)], [⟨7, 0, .rw, .val 0⟩]⟩ ((s.disarm m).rd (Reg.MGT.DMA_SRCHI k).addr).toNat data.toNat)))
  have hdst := wideWord_takeWide_other (lo := (Reg.MGT.DMA_SRCLO k).addr) (a := (Reg.MGT.DMA_DSTLO k).addr)
    ((s.disarm m).wr (Reg.MGT.DMA_SRCHI k).addr (BitVec.ofNat 32
      (landWord ⟨"DMA[k].SRCHI", 0x104, [(0x20, 2)], [⟨7, 0, .rw, .val 0⟩]⟩ ((s.disarm m).rd (Reg.MGT.DMA_SRCHI k).addr).toNat data.toNat)))
    (by simp only [Reg.MGT.DMA_SRCLO, Reg.MGT.DMA_DSTLO]; omega)
  rw [rd_wr_other _ _ (by simp only [Reg.MGT.DMA_SRCLO, Reg.MGT.DMA_SRCHI]; omega), ← hland] at hsame
  rw [← hland] at hdst
  clear hland
  generalize (s.disarm m).landStore ⟨"DMA[k].SRCHI", 0x104, [(0x20, 2)], [⟨7, 0, .rw, .val 0⟩]⟩ (Reg.MGT.DMA_SRCHI k).addr data = u at *
  rw [answer_eq hq.1] at hexec
  refine ⟨_, hexec, ?_, ?_⟩
  · have hsrc : u.dmaSrc k = s.get (Reg.MGT.DMA_SRCLO k) + data.toNat % 256 * 2 ^ 32 := by
      rw [dmaSrc, getLow, hsame, show u.get (Reg.MGT.DMA_SRCHI k) = bits data.toNat 7 0 from hget, bits_low]
      rfl
    exact hsrc
  · exact dmaDst_congr (s := s) (t := u) hdst (hother _ (by simp only [Reg.MGT.DMA_SRCHI, Reg.MGT.DMA_DSTHI]; omega))

end

/-- The row of DWBANK in the register map of MGT. -/
abbrev dwbankRow : RegDef := ⟨"DWBANK", 0x24, [], [⟨5, 0, .rw, .val 0⟩]⟩

theorem find_dwbank : RegMap.find Reg.MGT.DWBANK.addr = some (⟨.mgt, 0⟩, dwbankRow, 0, 0) := by decide +kernel

theorem exec_dwbankWrite {m : Nat} {data : Word} {s : State} (hq : Quiet m s) :
    ∃ t, exec (.dwbankWrite m data) s = .next t ∧ t.get Reg.MGT.DWBANK = data.toNat % 64 ∧ WordsKept [Reg.MGT.DWBANK.addr] s t := by
  obtain ⟨o, r₀, hn⟩ := names_of_find find_dwbank
  have hspecial : (s.disarm m).landSpecial m ⟨.mgt, 0⟩ dwbankRow.off 0 data = none := rfl
  have hwrite := busWrite_stored hq find_dwbank (by decide) (by decide) rfl nofun nofun (fun _ => rfl) hspecial
  have hget : ((s.disarm m).landStore dwbankRow Reg.MGT.DWBANK.addr data).get Reg.MGT.DWBANK = bits data.toNat 5 0 :=
    get_landStore_rw (f := ⟨5, 0, .rw, .val 0⟩) hn (by decide) rfl (by decide)
  have hkept := wordsKept_landStore dwbankRow Reg.MGT.DWBANK.addr data (s.disarm m)
  have hland : ((s.disarm m).landStore dwbankRow Reg.MGT.DWBANK.addr data).landing = [] := (landStore_landing _ _ _ _).trans hq.2.2
  have hafter (v : State) : v.landAfter ⟨.mgt, 0⟩ dwbankRow.off = v := rfl
  rw [hafter] at hwrite
  generalize (s.disarm m).landStore dwbankRow Reg.MGT.DWBANK.addr data = u at *
  have hall : (u.answer m ⟨0, 0⟩).landAll ⟨.mgt, 0⟩ = u.answer m ⟨0, 0⟩ := landAll_nil (by rw [answer_eq hq.1]; exact hland)
  have hexec : exec (.dwbankWrite m data) s = .next (s.writeNow m Reg.MGT.DWBANK.addr data) := rfl
  have hnow : s.writeNow m Reg.MGT.DWBANK.addr data = u.answer m ⟨0, 0⟩ := by
    unfold writeNow
    rw [hn.page]
    dsimp only
    rw [hwrite, hall]
  rw [hexec, hnow, answer_eq hq.1]
  refine ⟨_, rfl, ?_, ?_⟩
  · exact hget.trans (bits_low _ _)
  · exact fun a ha => hkept a ha

end State

namespace State

/-! ### The end of a copy -/

theorem dmaDone_idle {k : Nat} {s : State} (h : s.get (Reg.MGT.DMA_STAT_BUSY k) = 0 ∨ s.mgt.locks ≠ []) : s.dmaDone k = s := by
  unfold dmaDone
  refine if_pos (.inr ?_)
  rcases h with h | h
  · exact .inl (by simp [flag, h])
  · exact .inr (by simpa using h)

/-- A copy that comes to its end with a code: the engine shows it. -/
theorem dmaDone_ends {k code : Nat} {s u : State} (hk : k < 2) (hbusy : s.get (Reg.MGT.DMA_STAT_BUSY k) = 1) (hlocks : s.mgt.locks = [])
    (hcopy : s.dmaCopy (s.get (Reg.MGT.DMA_LEN k) / 4) (s.dmaSrc k) (s.dmaDst k) = (code, u)) : s.dmaDone k = u.dmaEnd k code := by
  unfold dmaDone
  rw [if_neg (by simp [flag, hbusy, hlocks, hk]), hcopy]

theorem dmaGet_nowhere {a : Nat} {s : State} (ha : a < 2 ^ 32) (hp : s.place a = .nowhere) :
    s.dmaGet a = (1, 0, s.mapErr Reg.MGT.STAT_DECERR 5 a) := by
  have hbit : bit a 39 = false := by rw [bit, Nat.testBit_lt_two_pow (by omega)]
  unfold dmaGet
  rw [if_neg (by simp [hbit]), Nat.mod_eq_of_lt ha, readAt_nowhere hp]

end State

open State in
/-- Settles O10: clause by clause, from what the matrix makes of a transaction, and from the copy word by word. -/
theorem busMatrixLocksRemapAndBank : Obligations.BusMatrixLocksRemapAndBank := by
  unfold Obligations.BusMatrixLocksRemapAndBank
  refine ⟨?readReg, ?readSram, ?readWaits, ?readRom, ?refused, ?writeWaits, ?forced, ?unforced, ?released, ?remap, ?bank, ?go, ?goBad,
    ?goNone, ?goIgnored, ?srcLo, ?srcHi, ?copied, ?idle, ?nowhere⟩
  case readReg =>
    intro s m addr b r i j f hq hp hfind hal hcnv hmica hkey hf hacc hrun hinv
    have hread := readAt_register (m := m) hp hfind hal hcnv hmica
    rw [tableMet_clean _ _ _ _ hinv] at hread
    have hexec := busRead_lockedWith hq (busTarget_block hp) (by have := target_not_memory b.kind; simpa using this) hread
    refine ⟨_, congrArg Host.Outcome.next hexec, ?_, fun _ _ => rfl, ⟨_, Assoc.find_put_same _ _ _, ?_⟩, rfl⟩
    · show s.mgt.locks ++ _ = _
      rw [hq.2.1]
      rfl
    · exact bits_readWord s hfind hkey hf hacc hrun
  case readSram =>
    intro s m addr off hq hp hinv
    have hread := readAt_sram (m := m) hp hq.1 (by simp [hinv])
    have hexec := busRead_lockedWith (k := 0) hq (by rw [busTarget, hp]) (by decide) hread
    refine ⟨_, congrArg Host.Outcome.next hexec, ?_, Assoc.find_put_same _ _ _, rfl, rfl⟩
    show s.mgt.locks ++ _ = _
    rw [hq.2.1]
    rfl
  case readWaits =>
    intro s m addr l hm hlocks hne ht
    obtain ⟨hstalled, -, hl, hregs⟩ := waiting_busOp (op := ⟨m, false, true, addr, 4, 0, false, s.flag Reg.BMX.CTRL_REMAP⟩) hm hlocks hne
      (by rw [issuedAt_now rfl]; exact ht)
    exact ⟨_, rfl, hstalled, hl, hregs⟩
  case readRom =>
    intro s m addr hq ht
    have hexec : s.busRead m addr 4 true = s.refuseLocked ⟨m, false, true, addr, 4, 0, false, s.flag Reg.BMX.CTRL_REMAP⟩ := by
      unfold busRead busOp issue
      rw [issuedAt_now rfl]
      simp only [lockOf, mustWait, hq.2.1, List.find?_nil, List.any_nil, Bool.false_eq_true, if_false, true_and, if_pos ht]
    obtain ⟨hflag, hanswer, hraised, hl, hregs⟩ :=
      lockedOut_refuseLocked (op := ⟨m, false, true, addr, 4, 0, false, s.flag Reg.BMX.CTRL_REMAP⟩) hq.1 s
    exact ⟨_, congrArg Host.Outcome.next hexec, hflag, hanswer, hraised, hl.trans hq.2.1, hregs⟩
  case refused =>
    intro s m addr data l k hm hlock ht hk
    have hexec : s.busWrite m addr 4 data =
        (s.disarm m).refuseLocked ⟨m, true, false, addr, 4, data, m == 6 || s.armed m, s.flag Reg.BMX.CTRL_REMAP⟩ :=
      busOp_refused (s := s.disarm m) hlock (by rw [issuedAt_now (s := s.disarm m) rfl]; exact ht) hk
    obtain ⟨hflag, hanswer, hraised, hl, hregs⟩ := lockedOut_refuseLocked
      (op := ⟨m, true, false, addr, 4, data, m == 6 || s.armed m, s.flag Reg.BMX.CTRL_REMAP⟩) hm (s.disarm m)
    exact ⟨_, congrArg Host.Outcome.next hexec, hflag, hanswer, hraised, hl, hregs⟩
  case writeWaits =>
    intro s m addr data l hm hlocks hne ht
    obtain ⟨hstalled, hunlocks, hl, hregs⟩ := waiting_busOp (s := s.disarm m)
      (op := ⟨m, true, false, addr, 4, data, m == 6 || s.armed m, s.flag Reg.BMX.CTRL_REMAP⟩) hm hlocks hne
      (by rw [issuedAt_now (s := s.disarm m) rfl]; exact ht)
    refine ⟨_, rfl, hstalled, ?_, hl, hregs⟩
    exact (congrArg (fun x => Assoc.find x m) hunlocks).trans (Assoc.find_del_same s.mgt.unlocks m)
  case forced =>
    intro s l hl hs
    obtain ⟨hlocks, hcount, hraised, hregs, hrest⟩ := forced_lockForced hl hs
    exact ⟨_, rfl, hlocks, hcount, hraised, hregs, hrest⟩
  case unforced =>
    exact fun s h => ⟨_, congrArg Host.Outcome.next (lockForced_none h), rfl⟩
  case released =>
    intro s m addr data l hlocks hm hs ht
    exact ⟨_, rfl, busOp_released (s := s.disarm m) (op := ⟨m, true, false, addr, 4, data, m == 6 || s.armed m, s.flag Reg.BMX.CTRL_REMAP⟩)
      hlocks hm rfl hs (by rw [issuedAt_now (s := s.disarm m) rfl]; exact ht)⟩
  case remap =>
    intro s m data hq
    obtain ⟨t, he, hremap, hregs⟩ := exec_remapWrite (data := data) hq
    exact ⟨t, he, hremap, hregs, place_zero hremap⟩
  case bank =>
    intro s m data hq
    obtain ⟨t, he, hbank, hwords⟩ := exec_dwbankWrite (data := data) hq
    exact ⟨t, he, hbank, hwords, by rw [windowAddr, hbank]⟩
  case go =>
    intro s m k data hq hk hgo hbusy hlen hal hmax hsrc hdst
    have hland : (s.disarm m).dmaGoLand k data = (s.disarm m).set (Reg.MGT.DMA_STAT_BUSY k) 1 := by
      rw [dmaGoLand_go (s := s.disarm m) hgo hbusy]
      refine (if_neg hlen).trans (if_neg ?_)
      rintro (h | h | h | h)
      · exact h hal
      · exact absurd hmax (Nat.not_le_of_gt h)
      · exact absurd (hsrc.symm.trans h) (by decide)
      · exact absurd (hdst.symm.trans h) (by decide)
    have hlanding : ((s.disarm m).set (Reg.MGT.DMA_STAT_BUSY k) 1).landing = [] := (((RegsOnly.refl (s.disarm m)).set _ _).landing).trans hq.2.2
    have hexec := exec_dmaGo hq hk hland hlanding
    have hget := get_set_same (s.disarm m) (r := Reg.MGT.DMA_STAT_BUSY k) 1 (by decide : 30 < 32)
    have hkept : WordsKept [(Reg.MGT.DMA_STAT_BUSY k).addr] s ((s.disarm m).set (Reg.MGT.DMA_STAT_BUSY k) 1) :=
      ((WordsKept.refl _ s).same (u := s.disarm m) rfl).set _ (by simp)
    generalize (s.disarm m).set (Reg.MGT.DMA_STAT_BUSY k) 1 = u at hexec hget hkept
    rw [answer_eq hq.1] at hexec
    exact ⟨_, hexec, hget.trans (Nat.mod_eq_of_lt (by decide : 1 < 2)), fun a ha => hkept a ha⟩
  case goBad =>
    intro s m k data hq hk hgo hbusy hlen hbad
    have hland : (s.disarm m).dmaGoLand k data = (s.disarm m).dmaEnd k 2 := by
      rw [dmaGoLand_go (s := s.disarm m) hgo hbusy]
      exact (if_neg hlen).trans (if_pos hbad)
    obtain ⟨t, he, hb, herr, hdone, hraised, hmem⟩ := exec_dmaGo_ended hq hk (by decide) hland
    exact ⟨t, he, hb, herr, hdone, hraised, hmem⟩
  case goNone =>
    intro s m k data hq hk hgo hbusy hlen
    have hland : (s.disarm m).dmaGoLand k data = (s.disarm m).dmaEnd k 0 := by
      rw [dmaGoLand_go (s := s.disarm m) hgo hbusy]
      exact if_pos hlen
    obtain ⟨t, he, hb, herr, hdone, hraised, hmem⟩ := exec_dmaGo_ended hq hk (by decide) hland
    exact ⟨t, he, hb, herr, hdone, hraised, hmem⟩
  case goIgnored =>
    intro s m k data hq hk hno
    have hexec := exec_dmaGo hq hk (dmaGoLand_ignored (s := s.disarm m) hno) hq.2.2
    rw [answer_eq hq.1] at hexec
    exact ⟨_, hexec, fun _ _ => rfl, memoryKept_of rfl rfl⟩
  case srcLo => exact fun s m k data hq hk => exec_srcLo hq hk
  case srcHi => exact fun s m k data hq hk => exec_srcHi hq hk
  case copied =>
    intro s k a d x hk hbusy hlocks hremap hlen hsrc hdst hahi hdhi ha hd hapart hinv
    have h4 : 4 * (s.get (Reg.MGT.DMA_LEN k) / 4) = s.get (Reg.MGT.DMA_LEN k) := by omega
    obtain ⟨u, hcopy, hin, hout⟩ := dmaCopy_sram (n := s.get (Reg.MGT.DMA_LEN k) / 4) hremap ha hd (by omega) (by omega) (by omega)
      (by simp [hinv])
    rw [h4] at hin hout
    have hexec := dmaDone_ends (code := 0) (u := u) hk hbusy hlocks (by rw [hsrc, hdst]; exact hcopy)
    obtain ⟨honly, hb, herr, hdone, hraised⟩ := dmaEnded_dmaEnd (k := k) (code := 0) (by decide) u
    exact ⟨_, congrArg Host.Outcome.next hexec, hb, herr, hdone, hraised, fun hx => by rw [honly.mgt]; exact hin x hx,
      fun hx => by rw [honly.mgt]; exact hout x hx⟩
  case idle =>
    exact fun s k _ h => ⟨_, congrArg Host.Outcome.next (dmaDone_idle h), rfl⟩
  case nowhere =>
    intro s k hk hbusy hlocks hlen hsrc hp
    obtain ⟨n, hn⟩ : ∃ n, s.get (Reg.MGT.DMA_LEN k) / 4 = n + 1 := ⟨s.get (Reg.MGT.DMA_LEN k) / 4 - 1, by omega⟩
    have hcopy : s.dmaCopy (s.get (Reg.MGT.DMA_LEN k) / 4) (s.dmaSrc k) (s.dmaDst k) =
        (1, s.mapErr Reg.MGT.STAT_DECERR 5 (s.dmaSrc k)) := by
      rw [hn, dmaCopy, dmaGet_nowhere hsrc hp]; rfl
    have hexec := dmaDone_ends hk hbusy hlocks hcopy
    have hmap : RegsOnly s (s.mapErr Reg.MGT.STAT_DECERR 5 (s.dmaSrc k)) := ((RegsOnly.refl s).set _ _).raise _ _
    obtain ⟨honly, hb, herr, hdone, hraised⟩ := dmaEnded_dmaEnd (k := k) (code := 1) (by decide) (s.mapErr Reg.MGT.STAT_DECERR 5 (s.dmaSrc k))
    have hall := hmap.trans honly
    exact ⟨_, congrArg Host.Outcome.next hexec, hb, herr, hdone, hraised,
      memoryKept_of (congrArg MgtState.sram hall.mgt) (congrArg DramState.mem hall.dram)⟩

end Sys2Proof.Machine
end

section
set_option Elab.async false
/-! SUPPORT. The serial audio ports (R261–R270). -/

namespace Sys2Proof.Machine
namespace State

/-! ### What the operations of a port move -/

/-- The fields that a frame of port `n` and the exchange of its samples may change. -/
def frameRegs (n : Nat) : List FRef :=
  [Reg.APRT.SLIPCNT_REPEATS n, Reg.APRT.SLIPCNT_DROPS n, Reg.APRT.CNT_FRMERR n, Reg.APRT.EVSTAT n]

/-- Those that the judgement of its rate may change besides. -/
def judgeRegs (n : Nat) : List FRef :=
  Reg.APRT.STAT_STATE n :: Reg.APRT.RATEINFO_ASRCLOCK n :: Reg.APRT.CNT_RATECHG n :: frameRegs n

theorem frameRegs_subset_judgeRegs (n : Nat) : frameRegs n ⊆ judgeRegs n := fun _ h =>
  List.mem_cons_of_mem _ (List.mem_cons_of_mem _ (List.mem_cons_of_mem _ h))

/-- Of the registers only the listed fields and the fault counts differ, and beside them the fault collector, the input voices, what
is sent, and the ports, whose frames and stamps stand. -/
structure PortMoved (n : Nat) (l : List FRef) (s t : State) : Prop where
  only : ∃ r f x i p o, t = { s with regs := r, flt := f, lastRaise := x, aud := { s.aud with ins := i, ports := p }, out := o }
  get : ∀ r : FRef, (∀ q ∈ l, r.apart q = true) → (r.addr < 0x11003000 ∨ 0x11004800 ≤ r.addr) → t.get r = s.get r
  regs : RegsKept [.aprt, .flt] s t
  frames : (t.aprt n).frames = (s.aprt n).frames
  stamps : (t.aprt n).stamps = (s.aprt n).stamps

theorem aprt_updAprt (n : Nat) (f : AprtState → AprtState) (s : State) : (s.updAprt n f).aprt n = f (s.aprt n) := by
  simp [updAprt, updAud, aprt, Assoc.findD]

theorem timeNs_updAprt (n : Nat) (f : AprtState → AprtState) (s : State) : (s.updAprt n f).timeNs = s.timeNs := rfl

theorem aprt_of_regsOnly {s t : State} (h : RegsOnly s t) (n : Nat) : t.aprt n = s.aprt n := by
  rw [State.aprt, State.aprt, h.aud]

/-- A register of the page of port `n` is one of the pages of the ports. -/
theorem aprt_page {n a : Nat} (hn : n < 8) (hlo : 0x1F000000 + 0x1000 * n ≤ a) (hhi : a < 0x1F001000 + 0x1000 * n) {ks : List BlkKind}
    (hk : BlkKind.aprt ∈ ks) : Outside ks a = false := by
  refine outside_page .aprt hk ?_ ?_ <;> simp only [BlkKind.layout, BlkKind.pagesEnd] <;> omega

namespace PortMoved

variable {n : Nat} {l : List FRef} {s t u : State}

theorem refl (n : Nat) (l : List FRef) (s : State) : PortMoved n l s s :=
  ⟨⟨_, _, _, _, _, _, rfl⟩, fun _ _ _ => rfl, RegsKept.refl _ _, rfl, rfl⟩

theorem now (h : PortMoved n l s t) : t.now = s.now := by obtain ⟨⟨_, _, _, _, _, _, rfl⟩, -⟩ := h; rfl
theorem inUse (h : PortMoved n l s t) : t.inUse = s.inUse := by obtain ⟨⟨_, _, _, _, _, _, rfl⟩, -⟩ := h; rfl
theorem aprtMode (h : PortMoved n l s t) (k : Nat) : t.aprtMode k = s.aprtMode k := use_congr h.inUse _

theorem mono {l' : List FRef} (h : PortMoved n l s t) (hl : l ⊆ l') : PortMoved n l' s t :=
  { h with get := fun r hr ha => h.get r (fun q hq => hr q (hl hq)) ha }

theorem trans (h : PortMoved n l s t) (h' : PortMoved n l t u) : PortMoved n l s u := by
  refine ⟨?_, fun r hr ha => (h'.get r hr ha).trans (h.get r hr ha), fun a ha => (h'.regs a ha).trans (h.regs a ha),
    h'.frames.trans h.frames, h'.stamps.trans h.stamps⟩
  obtain ⟨_, _, _, _, _, _, rfl⟩ := h.only
  obtain ⟨_, _, _, _, _, _, rfl⟩ := h'.only
  exact ⟨_, _, _, _, _, _, rfl⟩

theorem of_regsOnly (h : RegsOnly s t) (hget : ∀ r : FRef, (∀ q ∈ l, r.apart q = true) →
    (r.addr < 0x11003000 ∨ 0x11004800 ≤ r.addr) → t.get r = s.get r) (hregs : RegsKept [.aprt, .flt] s t) : PortMoved n l s t := by
  refine ⟨?_, hget, hregs, by rw [aprt_of_regsOnly h], by rw [aprt_of_regsOnly h]⟩
  obtain ⟨_, _, _, rfl⟩ := h
  exact ⟨_, _, _, _, _, _, rfl⟩

theorem set (h : PortMoved n l s t) {q : FRef} (v : Nat) (hq : q ∈ l) (hi : q.hi < 32) (hout : Outside [.aprt, .flt] q.addr = false) :
    PortMoved n l s (t.set q v) :=
  h.trans (of_regsOnly ((RegsOnly.refl t).set q v) (fun _ hr _ => get_set_other t v (hr q hq) hi) ((RegsKept.refl _ t).set v hout))

theorem bump (h : PortMoved n l s t) {q : FRef} (v : Nat) (hq : q ∈ l) (hi : q.hi < 32) (hout : Outside [.aprt, .flt] q.addr = false) :
    PortMoved n l s (t.bump q v) := h.set _ hq hi hout

theorem cause (h : PortMoved n l s t) (hn : n < 8) (c : Nat) (hl : Reg.APRT.EVSTAT n ∈ l) : PortMoved n l s (t.aprtCause n c) :=
  h.trans (of_regsOnly ((RegsOnly.refl t).cause _ _ _ _ _)
    (fun _ hr ha => get_cause_other t _ _ _ _ (hr _ hl) (by decide : 9 < 32) ha)
    ((RegsKept.refl _ t).cause _ _ _ _ (aprt_page hn (by simp [Reg.APRT.EVSTAT]) (by simp only [Reg.APRT.EVSTAT]; omega) (by simp)) (by simp)))

theorem updAprt (h : PortMoved n l s t) {f : AprtState → AprtState} (hf : ∀ x, (f x).frames = x.frames ∧ (f x).stamps = x.stamps) :
    PortMoved n l s (t.updAprt n f) :=
  h.trans ⟨⟨_, _, _, _, _, _, rfl⟩, fun _ _ _ => rfl, fun _ _ => rfl, by rw [aprt_updAprt, (hf _).1], by rw [aprt_updAprt, (hf _).2]⟩

theorem emit (h : PortMoved n l s t) (o : Output) : PortMoved n l s (t.emit o) :=
  h.trans ⟨⟨_, _, _, _, _, _, rfl⟩, fun _ _ _ => rfl, fun _ _ => rfl, rfl, rfl⟩

theorem when (h : PortMoved n l s t) (c : Bool) {f : State → State} (hf : ∀ u, PortMoved n l s u → PortMoved n l s (f u)) :
    PortMoved n l s (t.when c f) := by
  cases c
  · exact h
  · exact hf t h

theorem each {α : Type} (h : PortMoved n l s t) (xs : List α) {f : α → State → State}
    (hf : ∀ x u, PortMoved n l s u → PortMoved n l s (f x u)) : PortMoved n l s (t.each xs f) :=
  each_inv _ (PortMoved n l s) _ _ hf h

theorem voiceAt (h : PortMoved n l s t) (v tick : Nat) (x : Sample) : PortMoved n l s (t.voiceAt v tick x) :=
  h.when _ fun _ hu => hu.trans ⟨⟨_, _, _, _, _, _, rfl⟩, fun _ _ _ => rfl, fun _ _ => rfl, rfl, rfl⟩

theorem aprtIn (h : PortMoved n l s t) (tick : Nat) (f : Sample → Sample) (slots : List Nat) : PortMoved n l s (t.aprtIn n tick f slots) :=
  h.each _ fun _ _ hu => hu.voiceAt _ _ _

end PortMoved


section
variable {n : Nat} {l : List FRef} {s t : State}

/-- One sample slip of port `n`: a count, and its cause. -/
theorem PortMoved.slip (h : PortMoved n l s t) (hn : n < 8) (hl : frameRegs n ⊆ l) {q : FRef} (hq : q ∈ frameRegs n) (k c : Nat) :
    PortMoved n l s ((t.bump q k).aprtCause n c) := by
  have hi : q.hi < 32 := by
    simp only [frameRegs, List.mem_cons, List.not_mem_nil, or_false] at hq
    rcases hq with rfl | rfl | rfl | rfl
    exacts [(by decide : 15 < 32), (by decide : 31 < 32), (by decide : 15 < 32), (by decide : 9 < 32)]
  have hpage : Outside [.aprt, .flt] q.addr = false := by
    simp only [frameRegs, List.mem_cons, List.not_mem_nil, or_false] at hq
    rcases hq with rfl | rfl | rfl | rfl <;> refine aprt_page hn ?_ ?_ (by simp) <;>
      simp only [Reg.APRT.SLIPCNT_REPEATS, Reg.APRT.SLIPCNT_DROPS, Reg.APRT.CNT_FRMERR, Reg.APRT.EVSTAT] <;> omega
  exact (h.bump k (hl hq) hi hpage).cause hn c (hl (by simp [frameRegs]))

theorem repeats_mem (n : Nat) : Reg.APRT.SLIPCNT_REPEATS n ∈ frameRegs n := by simp [frameRegs]
theorem drops_mem (n : Nat) : Reg.APRT.SLIPCNT_DROPS n ∈ frameRegs n := by simp [frameRegs]
theorem frmerr_mem (n : Nat) : Reg.APRT.CNT_FRMERR n ∈ frameRegs n := by simp [frameRegs]

theorem PortMoved.aprtTakeOne (h : PortMoved n l s t) (hn : n < 8) (hl : frameRegs n ⊆ l) (tick : Nat) :
    PortMoved n l s (t.aprtTakeOne n tick) := by
  unfold State.aprtTakeOne
  dsimp only
  split
  · exact h.aprtIn _ _ _
  · split
    · split
      · exact (h.slip hn hl (repeats_mem n) _ _).aprtIn _ _ _
      · exact PortMoved.aprtIn (h.updAprt (by exact fun _ => ⟨rfl, rfl⟩)) _ _ _
    · exact h

theorem PortMoved.aprtTake (h : PortMoved n l s t) (hn : n < 8) (hl : frameRegs n ⊆ l) (upTo : Nat) :
    PortMoved n l s (t.aprtTake upTo n) := by
  unfold State.aprtTake
  dsimp only
  split
  · exact h
  · refine PortMoved.updAprt (PortMoved.when (h.each _ fun i u hu => hu.aprtTakeOne hn hl _) _ fun u hu => ?_) (by exact fun _ => ⟨rfl, rfl⟩)
    exact hu.slip hn hl (repeats_mem n) _ _

theorem PortMoved.aprtLeave (h : PortMoved n l s t) (hn : n < 8) (hl : frameRegs n ⊆ l) : PortMoved n l s (t.aprtLeave n) :=
  (h.aprtTake hn hl _).updAprt (by exact fun _ => ⟨rfl, rfl⟩)

theorem PortMoved.aprtPush (h : PortMoved n l s t) (hn : n < 8) (hl : frameRegs n ⊆ l) (slots : List Nat) :
    PortMoved n l s (t.aprtPush n slots) := by
  unfold State.aprtPush
  split
  · exact h.slip hn hl (drops_mem n) _ _
  · exact h.updAprt (by exact fun _ => ⟨rfl, rfl⟩)

theorem PortMoved.aprtGoodFrame (h : PortMoved n l s t) (hn : n < 8) (hl : frameRegs n ⊆ l) (slots : List Nat) :
    PortMoved n l s (t.aprtGoodFrame n slots) := by
  unfold State.aprtGoodFrame
  split
  · exact (h.aprtIn _ _ _).updAprt (by exact fun _ => ⟨rfl, rfl⟩)
  · exact h.aprtPush hn hl _
  · exact h.updAprt (by exact fun _ => ⟨rfl, rfl⟩)

theorem PortMoved.aprtBadFrame (h : PortMoved n l s t) (hn : n < 8) (hl : frameRegs n ⊆ l) : PortMoved n l s (t.aprtBadFrame n) := by
  have hbad := h.slip hn hl (frmerr_mem n) 1 9
  unfold State.aprtBadFrame
  dsimp only
  split
  · exact hbad
  · exact (hbad.aprtGoodFrame hn hl _).slip hn hl (repeats_mem n) _ _

theorem PortMoved.aprtSent (h : PortMoved n l s t) (hn : n < 8) (hl : frameRegs n ⊆ l) : PortMoved n l s (t.aprtSent n) := by
  unfold State.aprtSent
  split
  · exact h
  · split
    · exact h.slip hn hl (drops_mem n) _ _
    · exact h.updAprt (by exact fun _ => ⟨rfl, rfl⟩)

theorem state_page (hn : n < 8) : Outside [.aprt, .flt] (Reg.APRT.STAT_STATE n).addr = false :=
  aprt_page hn (by simp only [Reg.APRT.STAT_STATE]; omega) (by simp only [Reg.APRT.STAT_STATE]; omega) (by simp)

theorem PortMoved.aprtRun (h : PortMoved n l s t) (hn : n < 8) (hl : judgeRegs n ⊆ l) : PortMoved n l s (t.aprtRun n) := by
  have hset := h.set (q := Reg.APRT.STAT_STATE n) 3 (hl (by simp [judgeRegs])) (by decide : 6 < 32) (state_page hn)
  refine PortMoved.when (PortMoved.updAprt hset (by exact fun _ => ⟨rfl, rfl⟩)) _ fun _ hu => ?_
  exact hu.cause hn _ (hl (by simp [judgeRegs, frameRegs]))

theorem PortMoved.aprtRateStep (h : PortMoved n l s t) (hn : n < 8) (hl : judgeRegs n ⊆ l) (r : Nat) :
    PortMoved n l s (t.aprtRateStep n r) := by
  have hev : Reg.APRT.EVSTAT n ∈ l := hl (by simp [judgeRegs, frameRegs])
  have hpage : ∀ x, x < 0x1000 → Outside [.aprt, .flt] (0x1F000000 + x + 0x1000 * n) = false := fun x hx =>
    aprt_page hn (by omega) (by omega) (by simp)
  unfold State.aprtRateStep
  dsimp only
  split
  · have hcount := (h.bump (q := Reg.APRT.CNT_RATECHG n) 1 (hl (by simp [judgeRegs])) (by decide : 23 < 32) (hpage 0x44 (by decide))).cause hn 3 hev
    refine PortMoved.when (PortMoved.updAprt hcount (by exact fun _ => ⟨rfl, rfl⟩)) _ fun u hu => ?_
    refine PortMoved.cause (PortMoved.set (PortMoved.when hu _ fun v hv => ?_) 0 (hl (by simp [judgeRegs])) (by decide : 3 < 32)
      (hpage 0x2C (by decide))) hn 7 hev
    exact PortMoved.updAprt hv (by exact fun _ => ⟨rfl, rfl⟩)
  · exact h

end

section
variable {n : Nat} {s : State}

/-- The judgement of a rate shows it and its class. -/
theorem aprtJudgeRate_shows (hn : n < 8) (r : Nat) (s : State) :
    (s.aprtJudgeRate n r).get (Reg.APRT.RATE n) = r % 2 ^ 32 ∧
      (s.aprtJudgeRate n r).get (Reg.APRT.RATEINFO_CLASS n) = rateClass r % 2 ^ (Reg.APRT.RATEINFO_CLASS n).width := by
  generalize hv : (s.set (Reg.APRT.RATE n) r).set (Reg.APRT.RATEINFO_CLASS n) (rateClass r) = v
  have hrate : v.get (Reg.APRT.RATE n) = r % 2 ^ 32 := by
    rw [← hv, get_set_other _ _ (FRef.apart_iff.mpr (.inl (by simp only [Reg.APRT.RATE, Reg.APRT.RATEINFO_CLASS]; omega))) (by decide : 2 < 32)]
    exact (get_set_same s r (by decide : 31 < 32))
  have hclass : v.get (Reg.APRT.RATEINFO_CLASS n) = rateClass r % 2 ^ (Reg.APRT.RATEINFO_CLASS n).width := by
    rw [← hv]
    exact get_set_same _ _ (by decide : 2 < 32)
  have happart : ∀ q ∈ judgeRegs n, (Reg.APRT.RATE n).apart q = true ∧ (Reg.APRT.RATEINFO_CLASS n).apart q = true := by
    intro q hq
    rw [FRef.apart_iff, FRef.apart_iff]
    simp only [judgeRegs, frameRegs, List.mem_cons, List.not_mem_nil, or_false] at hq
    rcases hq with rfl | rfl | rfl | rfl | rfl | rfl | rfl <;>
      simp [Reg.APRT.RATE, Reg.APRT.RATEINFO_CLASS, Reg.APRT.STAT_STATE, Reg.APRT.RATEINFO_ASRCLOCK, Reg.APRT.CNT_RATECHG,
        Reg.APRT.SLIPCNT_REPEATS, Reg.APRT.SLIPCNT_DROPS, Reg.APRT.CNT_FRMERR, Reg.APRT.EVSTAT]
  have hout : ((Reg.APRT.RATE n).addr < 0x11003000 ∨ 0x11004800 ≤ (Reg.APRT.RATE n).addr) ∧
      ((Reg.APRT.RATEINFO_CLASS n).addr < 0x11003000 ∨ 0x11004800 ≤ (Reg.APRT.RATEINFO_CLASS n).addr) := by
    simp only [Reg.APRT.RATE, Reg.APRT.RATEINFO_CLASS]
    omega
  have hkept : ∀ {w}, PortMoved n (judgeRegs n) v w → w.get (Reg.APRT.RATE n) = r % 2 ^ 32 ∧
      w.get (Reg.APRT.RATEINFO_CLASS n) = rateClass r % 2 ^ (Reg.APRT.RATEINFO_CLASS n).width := fun h =>
    ⟨(h.get _ (fun q hq => (happart q hq).1) hout.1).trans hrate, (h.get _ (fun q hq => (happart q hq).2) hout.2).trans hclass⟩
  have hev : Reg.APRT.EVSTAT n ∈ judgeRegs n := by simp [judgeRegs, frameRegs]
  have hv₀ := PortMoved.refl n (judgeRegs n) v
  unfold aprtJudgeRate
  rw [hv]
  dsimp only
  split
  · split
    · exact hkept (PortMoved.aprtRun (PortMoved.cause (PortMoved.updAprt hv₀ (by exact fun _ => ⟨rfl, rfl⟩)) hn 2 hev) hn (List.Subset.refl _))
    · split
      · exact hkept hv₀
      · exact hkept (PortMoved.cause (PortMoved.updAprt hv₀ (by exact fun _ => ⟨rfl, rfl⟩)) hn 8 hev)
  · have hstep := (PortMoved.refl n (judgeRegs n) v).aprtRateStep hn (List.Subset.refl _) r
    split
    · exact hkept hstep
    · have hleft := (hstep.aprtLeave hn (frameRegs_subset_judgeRegs n)).set 2 (q := Reg.APRT.STAT_STATE n) (by simp [judgeRegs]) (by decide : 6 < 32) (state_page hn)
      generalize ((v.aprtRateStep n r).aprtLeave n).set (Reg.APRT.STAT_STATE n) 2 = w at hleft
      obtain ⟨h1, h2⟩ := hkept hleft
      unfold aprtCause
      rw [get_cause_other _ _ _ _ _ ((happart _ hev).1) (by decide : 9 < 32) hout.1,
        get_cause_other _ _ _ _ _ ((happart _ hev).2) (by decide : 9 < 32) hout.2]
      exact ⟨(get_of_regs (updAprt_regs _ _ _) _).trans h1, (get_of_regs (updAprt_regs _ _ _) _).trans h2⟩

/-! ### The stamp of every 64th frame -/

/-- A port that has counted a frame and taken the time `t` for its block. -/
def stamped (n : Nat) (s : State) : State :=
  (((((s.updAprt n fun y => { y with frames := y.frames + 1 }).updAprt n fun y => { y with stamps := (s.timeNs :: (s.aprt n).stamps).take 17 }).set
    (Reg.APRT.BTSLO n) s.timeNs).set (Reg.APRT.BTSHI n) (s.timeNs / 2 ^ 32)).set (Reg.APRT.BTSCNT n) ((s.aprt n).frames / 64))

theorem aprtStamp_between (h : (s.aprt n).frames % 64 ≠ 0) : s.aprtStamp n = s.updAprt n fun y => { y with frames := y.frames + 1 } := by
  unfold aprtStamp
  exact if_pos h

theorem aprtStamp_early (h : (s.aprt n).frames % 64 = 0) (hlen : (s.aprt n).stamps.length < 16) : s.aprtStamp n = s.stamped n := by
  have hnone : ((s.timeNs :: (s.aprt n).stamps).take 17)[16]? = none := by simp; omega
  unfold aprtStamp stamped
  dsimp only
  rw [if_neg (by simp [h]), timeNs_updAprt, hnone]

theorem aprtStamp_measured {t0 : Nat} (h : (s.aprt n).frames % 64 = 0) (ht0 : (s.aprt n).stamps[15]? = some t0) (hlt : t0 < s.timeNs) :
    s.aprtStamp n = (s.stamped n).aprtJudgeRate n (divFree 270 (1024 * 10 ^ 12) ((s.timeNs - t0 : Nat) : Int)).toNat := by
  have hsome : ((s.timeNs :: (s.aprt n).stamps).take 17)[16]? = some t0 := by simpa using ht0
  unfold aprtStamp stamped
  dsimp only
  rw [if_neg (by simp [h]), timeNs_updAprt, hsome]
  exact if_pos hlt

theorem stamped_shows (n : Nat) (s : State) : ((s.stamped n).aprt n).frames = (s.aprt n).frames + 1 ∧
    ((s.stamped n).aprt n).stamps = (s.timeNs :: (s.aprt n).stamps).take 17 ∧
    (s.stamped n).get64 (Reg.APRT.BTSLO n) (Reg.APRT.BTSHI n) = s.timeNs % 2 ^ 64 ∧
    (s.stamped n).get (Reg.APRT.BTSCNT n) = (s.aprt n).frames / 64 % 2 ^ (Reg.APRT.BTSCNT n).width := by
  generalize hu : (s.updAprt n fun y => { y with frames := y.frames + 1 }).updAprt n
    (fun y => { y with stamps := (s.timeNs :: (s.aprt n).stamps).take 17 }) = u
  have hport : u.aprt n = { s.aprt n with frames := (s.aprt n).frames + 1, stamps := (s.timeNs :: (s.aprt n).stamps).take 17 } := by
    rw [← hu, aprt_updAprt, aprt_updAprt]
  generalize hw : ((u.set (Reg.APRT.BTSLO n) s.timeNs).set (Reg.APRT.BTSHI n) (s.timeNs / 2 ^ 32)).set (Reg.APRT.BTSCNT n) ((s.aprt n).frames / 64) = w
  have hst : s.stamped n = w := by rw [stamped, hu, hw]
  have honly : RegsOnly u w := hw ▸ (((RegsOnly.refl u).set _ _).set _ _).set _ _
  have hlo : w.get (Reg.APRT.BTSLO n) = s.timeNs % 2 ^ 32 := by
    rw [← hw, get_set_other _ _ (FRef.apart_iff.mpr (.inl (by simp only [Reg.APRT.BTSLO, Reg.APRT.BTSCNT]; omega))) (by decide : 15 < 32),
      get_set_other _ _ (FRef.apart_iff.mpr (.inl (by simp only [Reg.APRT.BTSLO, Reg.APRT.BTSHI]; omega))) (by decide : 31 < 32)]
    exact get_set_same _ _ (by decide : 31 < 32)
  have hhi : w.get (Reg.APRT.BTSHI n) = s.timeNs / 2 ^ 32 % 2 ^ 32 := by
    rw [← hw, get_set_other _ _ (FRef.apart_iff.mpr (.inl (by simp only [Reg.APRT.BTSHI, Reg.APRT.BTSCNT]; omega))) (by decide : 15 < 32)]
    exact get_set_same _ _ (by decide : 31 < 32)
  rw [hst, aprt_of_regsOnly honly, hport]
  refine ⟨rfl, rfl, ?_, ?_⟩
  · rw [get64, hlo, hhi]
    omega
  · rw [← hw]
    exact get_set_same _ _ (by decide : 15 < 32)

end

/-! ### What a port sends -/

/-- Input voices have taken samples, and ports have moved, but every voice gives the block it gave. -/
structure Fed (s t : State) : Prop where
  only : ∃ i p, t = { s with aud := { s.aud with ins := i, ports := p } }
  older : ∀ v, (t.inVoice v).older = (s.inVoice v).older

namespace Fed

variable {n : Nat} {s t u : State}

theorem refl (s : State) : Fed s s := ⟨⟨_, _, rfl⟩, fun _ => rfl⟩

theorem trans (h : Fed s t) (h' : Fed t u) : Fed s u := by
  refine ⟨?_, fun v => (h'.older v).trans (h.older v)⟩
  obtain ⟨_, _, rfl⟩ := h.only
  obtain ⟨_, _, rfl⟩ := h'.only
  exact ⟨_, _, rfl⟩

theorem regs (h : Fed s t) : t.regs = s.regs := by obtain ⟨⟨_, _, rfl⟩, -⟩ := h; rfl
theorem out (h : Fed s t) : t.out = s.out := by obtain ⟨⟨_, _, rfl⟩, -⟩ := h; rfl

theorem updAprt (h : Fed s t) (n : Nat) (f : AprtState → AprtState) : Fed s (t.updAprt n f) := h.trans ⟨⟨_, _, rfl⟩, fun _ => rfl⟩

theorem voiceAt (h : Fed s t) (v tick : Nat) (x : Sample) : Fed s (t.voiceAt v tick x) := by
  refine h.trans ?_
  unfold State.voiceAt
  dsimp only
  cases t.tsiRuns
  · exact refl t
  · refine ⟨⟨_, _, rfl⟩, fun w => ?_⟩
    by_cases hw : w = v
    · subst hw
      simp [updAud, inVoice, Assoc.findD]
    · simp [updAud, inVoice, Assoc.findD, Assoc.find_put_other _ _ _ _ hw]

theorem aprtIn (h : Fed s t) (n tick : Nat) (f : Sample → Sample) (slots : List Nat) : Fed s (t.aprtIn n tick f slots) :=
  each_inv _ (Fed s) _ _ (fun _ _ hu => hu.voiceAt _ _ _) h

theorem switchedSample (h : Fed s t) (i k : Nat) (cur : Option Nat) (l : List Fade) :
    t.switchedSample i k cur l = s.switchedSample i k cur l := by
  have hheld : ∀ v, t.heldSample v i = s.heldSample v i := fun v => by cases v <;> simp [heldSample, h.older]
  induction l generalizing cur with
  | nil => exact hheld cur
  | cons f l ih => simp only [State.switchedSample, hheld, ih]

theorem outSample (h : Fed s t) (j i : Nat) : t.outSample j i = s.outSample j i := by
  have hswitched := h.switchedSample i (s.aud.block * 64 + i) (s.voiceSrc j) (s.outVoice j).fades
  unfold State.outSample
  obtain ⟨⟨_, _, rfl⟩, -⟩ := h
  dsimp only
  rw [← hswitched]
  rfl

theorem outAt (h : Fed s t) (j tick : Nat) : t.outAt j tick = s.outAt j tick := by
  have hsample := h.outSample j (tick % 64)
  unfold State.outAt
  obtain ⟨⟨_, _, rfl⟩, -⟩ := h
  dsimp only
  rw [hsample]
  rfl

/-- A MASTER or SLAVE_ASRC port sends the frame it sent. -/
theorem aprtOut (h : Fed s t) (hmode : s.aprtMode n = 0 ∨ s.aprtMode n = 2) (hasrc : (t.aprt n).asrcAt = (s.aprt n).asrcAt) : t.aprtOut n = s.aprtOut n := by
  have htick : t.sampleTick = s.sampleTick := by obtain ⟨⟨_, _, rfl⟩, -⟩ := h; rfl
  have hmode' : t.aprtMode n = s.aprtMode n := by obtain ⟨⟨_, _, rfl⟩, -⟩ := h; rfl
  have hflag : t.flag (Reg.APRT.RATEINFO_ASRCLOCK n) = s.flag (Reg.APRT.RATEINFO_ASRCLOCK n) := by
    rw [flag, flag, get_of_regs h.regs]
  have hasrc (tick : Nat) (x : Sample) : t.asrcSample n tick x = s.asrcSample n tick x := by
    unfold asrcSample
    rw [hasrc, hflag]
  have hsample (j : Nat) : t.aprtSample n j = s.aprtSample n j := by
    unfold aprtSample
    dsimp only
    rw [htick, hmode']
    rcases hmode with hm | hm <;> rw [hm]
    · exact h.outAt _ _
    · exact (hasrc _ _).trans (congrArg _ (h.outAt _ _))
  unfold State.aprtOut
  simp only [hsample]
  obtain ⟨⟨_, _, rfl⟩, -⟩ := h
  rfl

end Fed

/-- A port not in RUN drives no slot. -/
theorem aprtOut_idle {n : Nat} {s t : State} (h : s.get (Reg.APRT.STAT_STATE n) ≠ 3) (ht : t.get (Reg.APRT.STAT_STATE n) ≠ 3)
    (huse : t.inUse = s.inUse) : t.aprtOut n = s.aprtOut n := by
  have hslots : t.aprtSlots n = s.aprtSlots n := congrArg (· + 1) (use_congr huse _)
  unfold aprtOut
  simp only [h, ht, if_false, hslots, use_congr huse]

/-! ### A frame -/

section
variable {n bclks hz tick : Nat} {slots : List Nat} {s v : State}

theorem exec_aprtFrame (hn : n < 8) (h : s.aprtMode n = 0 ∨ hz ≤ 98304000) :
    exec (.aprtFrame n bclks hz slots) s = .next (s.aprtFrame n bclks slots) := by
  have hexec : exec (.aprtFrame n bclks hz slots) s = execAprtFrame n bclks hz slots s := rfl
  rw [hexec, execAprtFrame, if_neg (by omega), decide_eq_true hn, when_true]

theorem aprtTake_idle (h : s.get (Reg.APRT.STAT_STATE n) ≠ 3 ∨ s.aprtMode n = 0 ∨ tick ≤ (s.aprt n).lastTick) : s.aprtTake tick n = s := by
  unfold aprtTake
  exact if_pos h

/-- A port on whose FS edge a frame has ended. -/
def edged (n : Nat) (s : State) : State := s.updAprt n fun x => { x with edge := s.now }

/-- The port once it has taken a frame, or counted one of a wrong count of bit clocks. -/
def heard (n bclks : Nat) (slots : List Nat) (s : State) : State :=
  let e := (s.aprtTake s.sampleTick n).updAprt n fun x => { x with edge := s.now }
  if bclks = e.aprtSlots n * e.aprtWidth n then e.when (s.get (Reg.APRT.STAT_STATE n) == 3) (aprtGoodFrame n slots)
  else e.aprtBadFrame n

/-- The port once it has sent its frame. -/
def sentBack (n : Nat) (v : State) : State := (v.emit (.tdm n (v.aprtOut n))).aprtSent n

theorem aprtFrame_heard (h : s.get (Reg.APRT.STAT_STATE n) = 2 ∨ s.get (Reg.APRT.STAT_STATE n) = 3) :
    s.aprtFrame n bclks slots = ((s.heard n bclks slots).sentBack n).aprtStamp n := by
  unfold aprtFrame
  dsimp only
  rw [if_neg (by omega), if_neg (by omega)]
  rfl

theorem heard_moved (hn : n < 8) : PortMoved n (frameRegs n) s (s.heard n bclks slots) := by
  have hsub := List.Subset.refl (frameRegs n)
  have hedge : PortMoved n (frameRegs n) s ((s.aprtTake s.sampleTick n).updAprt n fun x => { x with edge := s.now }) :=
    ((PortMoved.refl n _ s).aprtTake hn hsub _).updAprt (by exact fun _ => ⟨rfl, rfl⟩)
  unfold heard
  dsimp only
  split
  · exact hedge.when _ fun _ hu => hu.aprtGoodFrame hn hsub _
  · exact hedge.aprtBadFrame hn hsub

theorem PortMoved.sentBack {l : List FRef} (h : PortMoved n l s v) (hn : n < 8) (hl : frameRegs n ⊆ l) : PortMoved n l s (v.sentBack n) :=
  (h.emit _).aprtSent hn hl

theorem sentBack_out (h : v.get (Reg.APRT.STAT_STATE n) ≠ 3 ∨ v.aprtMode n ≠ 1) : v.sentBack n = v.emit (.tdm n (v.aprtOut n)) :=
  if_pos h

theorem heard_of_take (htake : s.aprtTake s.sampleTick n = s) : s.heard n bclks slots =
    if bclks = s.aprtSlots n * s.aprtWidth n then (s.edged n).when (s.get (Reg.APRT.STAT_STATE n) == 3) (aprtGoodFrame n slots)
    else (s.edged n).aprtBadFrame n := by
  unfold heard
  rw [htake]
  rfl

/-- A port in RUN takes a sound frame. -/
theorem heard_run (h3 : s.get (Reg.APRT.STAT_STATE n) = 3) (hb : bclks = s.aprtSlots n * s.aprtWidth n)
    (htake : s.aprtTake s.sampleTick n = s) : s.heard n bclks slots = (s.edged n).aprtGoodFrame n slots := by
  rw [heard_of_take htake, if_pos hb, h3]
  rfl

theorem aprt_edged (n : Nat) (s : State) : (s.edged n).aprt n = { s.aprt n with edge := s.now } := aprt_updAprt _ _ _

end

section
variable {n bclks : Nat} {slots : List Nat} {s : State}

theorem edged_get (r : FRef) : (s.edged n).get r = s.get r := get_of_regs (updAprt_regs _ _ _) r

theorem edged_moved (n : Nat) (l : List FRef) (s : State) : PortMoved n l s (s.edged n) :=
  (PortMoved.refl n l s).updAprt (by exact fun _ => ⟨rfl, rfl⟩)

theorem fed_edged (n : Nat) (s : State) : Fed s (s.edged n) := (Fed.refl s).updAprt n _

theorem aprt_aprtSent_of_regs {v : State} (h : v.sentBack n = v.emit (.tdm n (v.aprtOut n))) : (v.sentBack n).aprt n = v.aprt n := by
  rw [h]
  rfl

theorem aprtIn_aprt (n tick : Nat) (f : Sample → Sample) (slots : List Nat) (s : State) (k : Nat) :
    (s.aprtIn n tick f slots).aprt k = s.aprt k :=
  each_keeps _ (fun t => t.aprt k) _ _ fun _ t => when_keeps t (fun u => u.aprt k) _ _ rfl

theorem aprtGoodFrame_master (h : s.aprtMode n = 0) :
    s.aprtGoodFrame n slots = (s.aprtIn n s.sampleTick id slots).updAprt n fun x => { x with lastFrame := slots } := by
  rw [aprtGoodFrame, h]
  rfl

theorem aprtGoodFrame_sync (h : s.aprtMode n = 1) : s.aprtGoodFrame n slots = s.aprtPush n slots := by
  rw [aprtGoodFrame, h]
  rfl

theorem aprtGoodFrame_asrc (h : s.aprtMode n = 2) :
    s.aprtGoodFrame n slots = s.updAprt n fun x => { x with lastFrame := slots } := by
  rw [aprtGoodFrame, h]
  rfl

/-- A frame between two stamps, of a port whose output FIFO plays no part. -/
theorem aprtFrame_direct (h : s.get (Reg.APRT.STAT_STATE n) = 2 ∨ s.get (Reg.APRT.STAT_STATE n) = 3)
    (hf : (s.aprt n).frames % 64 ≠ 0) (hcount : ((s.heard n bclks slots).aprt n).frames = (s.aprt n).frames)
    (hsent : (s.heard n bclks slots).get (Reg.APRT.STAT_STATE n) ≠ 3 ∨ (s.heard n bclks slots).aprtMode n ≠ 1) :
    s.aprtFrame n bclks slots = ((s.heard n bclks slots).emit (.tdm n ((s.heard n bclks slots).aprtOut n))).updAprt n
      fun y => { y with frames := y.frames + 1 } := by
  rw [aprtFrame_heard h, sentBack_out hsent]
  refine aprtStamp_between ?_
  have hemit : ((s.heard n bclks slots).emit (.tdm n ((s.heard n bclks slots).aprtOut n))).aprt n = (s.heard n bclks slots).aprt n := rfl
  rw [hemit, hcount]
  exact hf

/-- The frame of a port in RUN that takes a sound one at once. -/
theorem aprtFrame_taken (h3 : s.get (Reg.APRT.STAT_STATE n) = 3) (hb : bclks = s.aprtSlots n * s.aprtWidth n)
    (hf : (s.aprt n).frames % 64 ≠ 0) (hlast : s.sampleTick ≤ (s.aprt n).lastTick) (hmode : s.aprtMode n = 0 ∨ s.aprtMode n = 2) :
    ((s.aprtFrame n bclks slots).aprt n).lastFrame = slots ∧ ((s.aprtFrame n bclks slots).aprt n).fifoIn = (s.aprt n).fifoIn ∧
      ((s.aprtFrame n bclks slots).aprt n).edge = s.now ∧ (s.aprtFrame n bclks slots).out = .tdm n (s.aprtOut n) :: s.out ∧
      (s.aprtFrame n bclks slots).regs = s.regs := by
  have hheard : s.heard n bclks slots = (s.edged n).aprtGoodFrame n slots := heard_run h3 hb (aprtTake_idle (.inr (.inr hlast)))
  have hmode' : (s.edged n).aprtMode n = 0 ∨ (s.edged n).aprtMode n = 2 := hmode
  obtain ⟨hfed, hport⟩ : Fed s (s.heard n bclks slots) ∧ (s.heard n bclks slots).aprt n = { s.aprt n with edge := s.now, lastFrame := slots } := by
    rw [hheard]
    rcases hmode' with hm | hm
    · rw [aprtGoodFrame_master hm]
      exact ⟨((fed_edged n s).aprtIn _ _ _ _).updAprt _ _, by rw [aprt_updAprt, aprtIn_aprt, aprt_edged]⟩
    · rw [aprtGoodFrame_asrc hm]
      exact ⟨(fed_edged n s).updAprt _ _, by rw [aprt_updAprt, aprt_edged]⟩
  have hout : (s.heard n bclks slots).aprtOut n = s.aprtOut n := hfed.aprtOut hmode (by rw [hport])
  have hmode'' : (s.heard n bclks slots).aprtMode n = s.aprtMode n := by obtain ⟨⟨_, _, h⟩, -⟩ := hfed; rw [h]; rfl
  rw [aprtFrame_direct (.inr h3) hf (by rw [hport]) (.inr (by omega))]
  generalize s.heard n bclks slots = v at *
  refine ⟨?_, ?_, ?_, ?_, hfed.regs⟩
  · rw [aprt_updAprt, show (State.emit _ v).aprt n = v.aprt n from rfl, hport]
  · rw [aprt_updAprt, show (State.emit _ v).aprt n = v.aprt n from rfl, hport]
  · rw [aprt_updAprt, show (State.emit _ v).aprt n = v.aprt n from rfl, hport]
  · rw [hout]
    exact congrArg _ hfed.out

/-- A frame of a SLAVE_SYNC port in RUN between two stamps. -/
theorem aprtFrame_sync (h3 : s.get (Reg.APRT.STAT_STATE n) = 3) (hb : bclks = s.aprtSlots n * s.aprtWidth n)
    (hf : (s.aprt n).frames % 64 ≠ 0) (hlast : s.sampleTick ≤ (s.aprt n).lastTick) (hmode : s.aprtMode n = 1) (hn : n < 8) :
    s.aprtFrame n bclks slots = (((s.edged n).aprtPush n slots).sentBack n).updAprt n fun y => { y with frames := y.frames + 1 } := by
  have hheard : s.heard n bclks slots = (s.edged n).aprtPush n slots := by
    rw [heard_run h3 hb (aprtTake_idle (.inr (.inr hlast))), aprtGoodFrame_sync (s := s.edged n) hmode]
  have hmoved := (edged_moved n (frameRegs n) s).aprtPush hn (List.Subset.refl _) slots |>.sentBack hn (List.Subset.refl _)
  rw [aprtFrame_heard (.inr h3), hheard]
  exact aprtStamp_between (by rw [hmoved.frames]; exact hf)

end

end State

section
variable {n bclks : Nat} {slots : List Nat} {s : State}
open State

/-- A register of the page of a port, or below the pages of the ports, that a frame does not count in. -/
theorem frame_apart {r : FRef} (h : r.addr = (Reg.APRT.RATE n).addr ∨ r.addr < 0x1F000000) : ∀ q ∈ frameRegs n, r.apart q = true := by
  intro q hq
  rw [FRef.apart_iff]
  simp only [frameRegs, List.mem_cons, List.not_mem_nil, or_false] at hq
  rcases hq with rfl | rfl | rfl | rfl <;> left <;>
    simp only [Reg.APRT.RATE, Reg.APRT.SLIPCNT_REPEATS, Reg.APRT.SLIPCNT_DROPS, Reg.APRT.CNT_FRMERR, Reg.APRT.EVSTAT] at h ⊢ <;> omega

theorem State.PortMoved.timeNs {t : State} (h : PortMoved n (frameRegs n) s t) : t.timeNs = s.timeNs := by
  have hlo := h.get Reg.TIME.NOWLO (frame_apart (.inr (by decide))) (.inr (by decide))
  have hhi := h.get Reg.TIME.NOWHI (frame_apart (.inr (by decide))) (.inr (by decide))
  rw [State.timeNs, State.timeNs, get64, get64, hlo, hhi]

/-- The port when the frame that it times has been heard and answered. -/
theorem aprtFrame_timed (hn : n < 8) (h : s.get (Reg.APRT.STAT_STATE n) = 2 ∨ s.get (Reg.APRT.STAT_STATE n) = 3) :
    ∃ w, s.aprtFrame n bclks slots = w.aprtStamp n ∧ PortMoved n (frameRegs n) s w :=
  ⟨_, aprtFrame_heard h, (heard_moved hn).sentBack hn (List.Subset.refl _)⟩

theorem stamped_get {r : FRef} (hlo : r.apart (Reg.APRT.BTSLO n) = true) (hhi : r.apart (Reg.APRT.BTSHI n) = true)
    (hcnt : r.apart (Reg.APRT.BTSCNT n) = true) (s : State) : (s.stamped n).get r = s.get r := by
  rw [stamped, get_set_other _ _ hcnt (by decide : 15 < 32), get_set_other _ _ hhi (by decide : 31 < 32),
    get_set_other _ _ hlo (by decide : 31 < 32)]
  exact get_of_regs ((updAprt_regs _ _ _).trans (updAprt_regs _ _ _)) _

theorem stateKept_stamped (n : Nat) (s : State) : (s.stamped n).get (Reg.APRT.STAT_STATE n) = s.get (Reg.APRT.STAT_STATE n) := by
  have hlo : (Reg.APRT.STAT_STATE n).apart (Reg.APRT.BTSLO n) = true :=
    FRef.apart_iff.mpr (.inl (by simp only [Reg.APRT.STAT_STATE, Reg.APRT.BTSLO]; omega))
  have hhi : (Reg.APRT.STAT_STATE n).apart (Reg.APRT.BTSHI n) = true :=
    FRef.apart_iff.mpr (.inl (by simp only [Reg.APRT.STAT_STATE, Reg.APRT.BTSHI]; omega))
  have hcnt : (Reg.APRT.STAT_STATE n).apart (Reg.APRT.BTSCNT n) = true :=
    FRef.apart_iff.mpr (.inl (by simp only [Reg.APRT.STAT_STATE, Reg.APRT.BTSCNT]; omega))
  exact stamped_get hlo hhi hcnt s

theorem regsKept_stamped (hn : n < 8) (s : State) : RegsKept [.aprt] s (s.stamped n) := by
  have hpage (x : Nat) (hx : x < 0x1000) : Outside [.aprt] (0x1F000000 + x + 0x1000 * n) = false :=
    aprt_page hn (by omega) (by omega) (by simp)
  refine RegsKept.set (RegsKept.set (RegsKept.set (RegsKept.same (RegsKept.refl _ s) ?_) _ (hpage 0x30 (by decide))) _ (hpage 0x34 (by decide))) _
    (hpage 0x38 (by decide))
  exact (updAprt_regs _ _ _).trans (updAprt_regs _ _ _)

theorem rate_stamped (n : Nat) (s : State) : (s.stamped n).get (Reg.APRT.RATE n) = s.get (Reg.APRT.RATE n) := by
  have hlo : (Reg.APRT.RATE n).apart (Reg.APRT.BTSLO n) = true :=
    FRef.apart_iff.mpr (.inl (by simp only [Reg.APRT.RATE, Reg.APRT.BTSLO]; omega))
  have hhi : (Reg.APRT.RATE n).apart (Reg.APRT.BTSHI n) = true :=
    FRef.apart_iff.mpr (.inl (by simp only [Reg.APRT.RATE, Reg.APRT.BTSHI]; omega))
  have hcnt : (Reg.APRT.RATE n).apart (Reg.APRT.BTSCNT n) = true :=
    FRef.apart_iff.mpr (.inl (by simp only [Reg.APRT.RATE, Reg.APRT.BTSCNT]; omega))
  exact stamped_get hlo hhi hcnt s

theorem get_aprtCause {r : FRef} (c : Nat) (hr : r.apart (Reg.APRT.EVSTAT n) = true) (ha : 0x11004800 ≤ r.addr) (t : State) :
    (t.aprtCause n c).get r = t.get r := get_cause_other t _ _ _ _ hr (by decide : 9 < 32) (.inr ha)

theorem apart_of_addr {r q : FRef} (h : r.addr ≠ q.addr) : r.apart q = true := FRef.apart_iff.mpr (.inl h)

/-- A slip counts in its field. -/
theorem get_slip {q : FRef} (k c : Nat) (hi : q.hi < 32) (hq : q.apart (Reg.APRT.EVSTAT n) = true) (ha : 0x11004800 ≤ q.addr) (t : State) :
    ((t.bump q k).aprtCause n c).get q = (t.get q + k) % 2 ^ q.width := by
  rw [get_aprtCause c hq ha, get_bump_same t k hi]

theorem get_slip_other {r q : FRef} (k c : Nat) (hi : q.hi < 32) (hr : r.apart q = true) (hev : r.apart (Reg.APRT.EVSTAT n) = true)
    (ha : 0x11004800 ≤ r.addr) (t : State) : ((t.bump q k).aprtCause n c).get r = t.get r := by
  rw [get_aprtCause c hev ha, get_bump_other t k hr hi]

theorem aprt_slip (q : FRef) (k c m : Nat) (t : State) : ((t.bump q k).aprtCause n c).aprt m = t.aprt m :=
  aprt_of_regsOnly (((RegsOnly.refl t).bump q k).cause _ _ _ _ _) m

theorem state_slip {q : FRef} (k c : Nat) (hi : q.hi < 32) (hq : (Reg.APRT.STAT_STATE n).addr ≠ q.addr) (t : State) :
    ((t.bump q k).aprtCause n c).get (Reg.APRT.STAT_STATE n) = t.get (Reg.APRT.STAT_STATE n) :=
  get_slip_other k c hi (apart_of_addr hq) (apart_of_addr (by simp [Reg.APRT.STAT_STATE, Reg.APRT.EVSTAT]))
    (by simp only [Reg.APRT.STAT_STATE]; omega) t

theorem state_frmerr (t : State) :
    ((t.bump (Reg.APRT.CNT_FRMERR n) 1).aprtCause n 9).get (Reg.APRT.STAT_STATE n) = t.get (Reg.APRT.STAT_STATE n) :=
  state_slip 1 9 (by decide : 15 < 32) (by simp [Reg.APRT.STAT_STATE, Reg.APRT.CNT_FRMERR]) t

theorem get_frmerr (t : State) : ((t.bump (Reg.APRT.CNT_FRMERR n) 1).aprtCause n 9).get (Reg.APRT.CNT_FRMERR n) =
    (t.get (Reg.APRT.CNT_FRMERR n) + 1) % 2 ^ (Reg.APRT.CNT_FRMERR n).width :=
  get_slip 1 9 (by decide : 15 < 32) (apart_of_addr (by simp [Reg.APRT.CNT_FRMERR, Reg.APRT.EVSTAT])) (by simp only [Reg.APRT.CNT_FRMERR]; omega) t

theorem repeats_frmerr (t : State) :
    ((t.bump (Reg.APRT.CNT_FRMERR n) 1).aprtCause n 9).get (Reg.APRT.SLIPCNT_REPEATS n) = t.get (Reg.APRT.SLIPCNT_REPEATS n) :=
  get_slip_other 1 9 (by decide : 15 < 32) (apart_of_addr (by simp [Reg.APRT.SLIPCNT_REPEATS, Reg.APRT.CNT_FRMERR]))
    (apart_of_addr (by simp [Reg.APRT.SLIPCNT_REPEATS, Reg.APRT.EVSTAT])) (by simp only [Reg.APRT.SLIPCNT_REPEATS]; omega) t

theorem get_repeats (t : State) : ((t.bump (Reg.APRT.SLIPCNT_REPEATS n) 1).aprtCause n 4).get (Reg.APRT.SLIPCNT_REPEATS n) =
    (t.get (Reg.APRT.SLIPCNT_REPEATS n) + 1) % 2 ^ (Reg.APRT.SLIPCNT_REPEATS n).width :=
  get_slip 1 4 (by decide : 15 < 32) (apart_of_addr (by simp [Reg.APRT.SLIPCNT_REPEATS, Reg.APRT.EVSTAT]))
    (by simp only [Reg.APRT.SLIPCNT_REPEATS]; omega) t

theorem frmerr_repeats (t : State) :
    ((t.bump (Reg.APRT.SLIPCNT_REPEATS n) 1).aprtCause n 4).get (Reg.APRT.CNT_FRMERR n) = t.get (Reg.APRT.CNT_FRMERR n) :=
  get_slip_other 1 4 (by decide : 15 < 32) (apart_of_addr (by simp [Reg.APRT.CNT_FRMERR, Reg.APRT.SLIPCNT_REPEATS]))
    (apart_of_addr (by simp [Reg.APRT.CNT_FRMERR, Reg.APRT.EVSTAT])) (by simp only [Reg.APRT.CNT_FRMERR]; omega) t

theorem get_drops (t : State) : ((t.bump (Reg.APRT.SLIPCNT_DROPS n) 1).aprtCause n 4).get (Reg.APRT.SLIPCNT_DROPS n) =
    (t.get (Reg.APRT.SLIPCNT_DROPS n) + 1) % 2 ^ (Reg.APRT.SLIPCNT_DROPS n).width :=
  get_slip 1 4 (by decide : 31 < 32) (apart_of_addr (by simp [Reg.APRT.SLIPCNT_DROPS, Reg.APRT.EVSTAT]))
    (by simp only [Reg.APRT.SLIPCNT_DROPS]; omega) t

theorem state_drops (t : State) :
    ((t.bump (Reg.APRT.SLIPCNT_DROPS n) 1).aprtCause n 4).get (Reg.APRT.STAT_STATE n) = t.get (Reg.APRT.STAT_STATE n) :=
  state_slip 1 4 (by decide : 31 < 32) (by simp [Reg.APRT.STAT_STATE, Reg.APRT.SLIPCNT_DROPS]) t

theorem aprtBadFrame_measure (h : s.get (Reg.APRT.STAT_STATE n) ≠ 3) :
    s.aprtBadFrame n = (s.bump (Reg.APRT.CNT_FRMERR n) 1).aprtCause n 9 := by
  unfold aprtBadFrame
  exact if_pos (by rw [state_frmerr]; exact h)

theorem aprtBadFrame_run (h : s.get (Reg.APRT.STAT_STATE n) = 3) :
    ∃ old, s.aprtBadFrame n = ((((s.bump (Reg.APRT.CNT_FRMERR n) 1).aprtCause n 9).aprtGoodFrame n old).bump
      (Reg.APRT.SLIPCNT_REPEATS n) 1).aprtCause n 4 := by
  unfold aprtBadFrame
  exact ⟨_, if_neg (by rw [state_frmerr]; simp [h])⟩

theorem clklost_apart {q : FRef} (hq : q ∈ frameRegs n) : (Reg.APRT.CNT_CLKLOST n).apart q = true := by
  rw [FRef.apart_iff]
  simp only [frameRegs, List.mem_cons, List.not_mem_nil, or_false] at hq
  rcases hq with rfl | rfl | rfl | rfl <;>
    simp [Reg.APRT.CNT_CLKLOST, Reg.APRT.SLIPCNT_REPEATS, Reg.APRT.SLIPCNT_DROPS, Reg.APRT.CNT_FRMERR, Reg.APRT.EVSTAT]

theorem sentBack_low {v : State} (h3 : v.get (Reg.APRT.STAT_STATE n) = 3) (hm : v.aprtMode n = 1) (hlow : (v.aprt n).fifoOut ≤ 2) :
    v.sentBack n = ((v.emit (.tdm n (v.aprtOut n))).bump (Reg.APRT.SLIPCNT_DROPS n) 1).aprtCause n 4 := by
  unfold sentBack aprtSent
  have hstate : ¬((v.emit (.tdm n (v.aprtOut n))).get (Reg.APRT.STAT_STATE n) ≠ 3 ∨ (v.emit (.tdm n (v.aprtOut n))).aprtMode n ≠ 1) := by
    rintro (h | h)
    · exact h ((get_of_regs rfl _).trans h3)
    · exact h hm
  exact (if_neg hstate).trans (if_pos hlow)

theorem sentBack_filled {v : State} (h3 : v.get (Reg.APRT.STAT_STATE n) = 3) (hm : v.aprtMode n = 1) (hfull : 2 < (v.aprt n).fifoOut) :
    v.sentBack n = (v.emit (.tdm n (v.aprtOut n))).updAprt n fun x => { x with fifoOut := x.fifoOut - 1 } := by
  unfold sentBack aprtSent
  have hstate : ¬((v.emit (.tdm n (v.aprtOut n))).get (Reg.APRT.STAT_STATE n) ≠ 3 ∨ (v.emit (.tdm n (v.aprtOut n))).aprtMode n ≠ 1) := by
    rintro (h | h)
    · exact h ((get_of_regs rfl _).trans h3)
    · exact h hm
  exact (if_neg hstate).trans (if_neg (Nat.not_le_of_gt hfull))

theorem aprt_emit (o : Output) (s : State) (n : Nat) : (s.emit o).aprt n = s.aprt n := rfl

theorem regs_aprtIn (tick : Nat) (f : Sample → Sample) (slots : List Nat) (s : State) : (s.aprtIn n tick f slots).regs = s.regs :=
  ((Fed.refl s).aprtIn n tick f slots).regs

end

open State in
/-- Settles O22: clause by clause, from what a frame moves and from the stamp of every 64th. -/
theorem audioPorts : Obligations.AudioPorts := by
  unfold Obligations.AudioPorts
  refine ⟨?fast, ?off, ?first, ?masterBad, ?measure, ?measureBad, ?early, ?rate, ?master, ?asrc, ?full, ?twice, ?sync, ?lost, ?notLost,
    ?noRelock, ?relock⟩
  case fast => exact fun s n bclks hz slots h0 hm hz => if_pos ⟨h0, hm, hz⟩
  case off =>
    intro s n bclks hz slots h
    refine ⟨s, ?_, rfl⟩
    have hexec : exec (.aprtFrame n bclks hz slots) s = execAprtFrame n bclks hz slots s := rfl
    rw [hexec, execAprtFrame, if_neg (by omega)]
    rcases h with h | ⟨h, -⟩
    · have hidle : s.aprtFrame n bclks slots = s := if_pos h
      cases hd : decide (n < 8)
      · rfl
      · exact congrArg Host.Outcome.next hidle
    · rw [decide_eq_false (by omega : ¬n < 8)]
      rfl
  case first =>
    intro s n bclks hz slots hn hz hst
    generalize hv : (s.edged n).set (Reg.APRT.STAT_STATE n) 2 = v
    generalize hu : v.updAprt n (fun x => { x with frames := 0, stamps := [], rangeRaised := false }) = u
    have hframes₀ : (u.aprt n).frames = 0 := by rw [← hu, aprt_updAprt]
    have hstamps₀ : (u.aprt n).stamps = [] := by rw [← hu, aprt_updAprt]
    have hframe : s.aprtFrame n bclks slots = u.stamped n := by
      have htake : s.aprtTake s.sampleTick n = s := aprtTake_idle (.inl (by omega))
      rw [← aprtStamp_early (by rw [hframes₀]) (by rw [hstamps₀]; exact (by decide : 0 < 16)), ← hu, ← hv]
      unfold aprtFrame edged
      rw [htake]
      exact (if_neg (by omega)).trans (if_pos hst)
    have hregs : u.regs = v.regs := hu ▸ updAprt_regs _ _ _
    have hstate : u.get (Reg.APRT.STAT_STATE n) = 2 := by
      rw [get_of_regs hregs, ← hv, get_set_same _ _ (by decide : 6 < 32)]
      rfl
    have hkept : RegsKept [.aprt] s u := by
      have hset := (RegsKept.refl [.aprt] (s.edged n)).set (r := Reg.APRT.STAT_STATE n) 2
        (aprt_page hn (by simp only [Reg.APRT.STAT_STATE]; omega) (by simp only [Reg.APRT.STAT_STATE]; omega) (by simp))
      rw [hv] at hset
      exact hset.same hregs
    have hclock (r : FRef) (hr : r.addr < 0x1F000000) : u.get r = s.get r := by
      rw [get_of_regs hregs, ← hv, get_set_other _ _ (apart_of_addr (by simp only [Reg.APRT.STAT_STATE]; omega)) (by decide : 6 < 32), edged_get]
    have htime : u.timeNs = s.timeNs := by
      rw [timeNs, timeNs, get64, get64, hclock _ (by decide), hclock _ (by decide)]
    obtain ⟨hframes, hstamps, hbts, hcnt⟩ := stamped_shows n u
    rw [hframes₀] at hframes hcnt
    rw [hstamps₀] at hstamps
    rw [htime] at hstamps hbts
    refine ⟨_, (exec_aprtFrame hn (.inr hz)).trans (congrArg _ hframe), ?_, hframes, hstamps, hbts, hcnt.trans (Nat.zero_mod _), ?_⟩
    · rw [stateKept_stamped, hstate]
    · exact fun a ha => (regsKept_stamped hn u a ha).trans (hkept a ha)
  case masterBad =>
    intro s n bclks hz slots hn hm h3 hb hf
    have hstate : (s.edged n).get (Reg.APRT.STAT_STATE n) = 3 := by rw [edged_get, h3]
    have hmoved := heard_moved (bclks := bclks) (slots := slots) (s := s) hn
    obtain ⟨old, hbad⟩ := aprtBadFrame_run hstate
    have hheard : s.heard n bclks slots = (s.edged n).aprtBadFrame n := by
      rw [heard_of_take (aprtTake_idle (.inr (.inl hm))), if_neg hb]
    have hframe := aprtFrame_direct (.inr h3) hf hmoved.frames (.inr (by rw [hmoved.aprtMode, hm]; decide))
    generalize hw : ((s.edged n).bump (Reg.APRT.CNT_FRMERR n) 1).aprtCause n 9 = w at hbad
    have hmode : w.aprtMode n = 0 := by
      rw [← hw]
      exact (use_congr (((RegsOnly.refl _).bump _ _).cause _ _ _ _ _).inUse _).trans hm
    have hfrm : w.get (Reg.APRT.CNT_FRMERR n) = (s.get (Reg.APRT.CNT_FRMERR n) + 1) % 2 ^ (Reg.APRT.CNT_FRMERR n).width := by
      rw [← hw, get_frmerr, edged_get]
    have hrep : w.get (Reg.APRT.SLIPCNT_REPEATS n) = s.get (Reg.APRT.SLIPCNT_REPEATS n) := by rw [← hw, repeats_frmerr, edged_get]
    have hgood : (w.aprtGoodFrame n old).regs = w.regs := by
      rw [aprtGoodFrame_master hmode]
      exact (updAprt_regs _ _ _).trans (regs_aprtIn _ _ _ _)
    rw [hbad] at hheard
    have hfrm' : (s.heard n bclks slots).get (Reg.APRT.CNT_FRMERR n) =
        (s.get (Reg.APRT.CNT_FRMERR n) + 1) % 2 ^ (Reg.APRT.CNT_FRMERR n).width := by
      rw [hheard, frmerr_repeats, get_of_regs hgood, hfrm]
    have hrep' : (s.heard n bclks slots).get (Reg.APRT.SLIPCNT_REPEATS n) =
        (s.get (Reg.APRT.SLIPCNT_REPEATS n) + 1) % 2 ^ (Reg.APRT.SLIPCNT_REPEATS n).width := by
      rw [hheard, get_repeats, get_of_regs hgood, hrep]
    generalize s.heard n bclks slots = v at hframe hmoved hfrm' hrep'
    refine ⟨_, (exec_aprtFrame hn (.inl hm)).trans (congrArg _ hframe), ?_, ?_, ?_, hmoved.regs.same rfl⟩
    · exact (get_of_regs (updAprt_regs _ _ _) _).trans hfrm'
    · exact (get_of_regs (updAprt_regs _ _ _) _).trans hrep'
    · rw [aprt_updAprt, aprt_emit, hmoved.frames]
  case measure =>
    intro s n bclks hz slots hn hm h2 hf hb
    have hheard : s.heard n bclks slots = s.edged n := by
      rw [heard_of_take (aprtTake_idle (.inl (by omega))), if_pos hb, h2]
      rfl
    have hstate : (s.heard n bclks slots).get (Reg.APRT.STAT_STATE n) = 2 := by rw [hheard, edged_get, h2]
    have hframe := aprtFrame_direct (bclks := bclks) (slots := slots) (.inl h2) hf (by rw [hheard, aprt_edged]) (.inl (by omega))
    have hout : (s.edged n).aprtOut n = s.aprtOut n := aprtOut_idle (by omega) (by rw [edged_get]; omega) rfl
    rw [hheard, hout] at hframe
    refine ⟨_, (exec_aprtFrame hn hm).trans (congrArg _ hframe), ?_, ?_, rfl, rfl⟩
    · rw [aprt_updAprt, show (State.emit _ (s.edged n)).aprt n = (s.edged n).aprt n from rfl, aprt_edged]
    · rw [aprt_updAprt, show (State.emit _ (s.edged n)).aprt n = (s.edged n).aprt n from rfl, aprt_edged]
  case measureBad =>
    intro s n bclks hz slots hn hm h2 hf hb
    have hstate : (s.edged n).get (Reg.APRT.STAT_STATE n) = 2 := by rw [edged_get, h2]
    have hheard : s.heard n bclks slots = ((s.edged n).bump (Reg.APRT.CNT_FRMERR n) 1).aprtCause n 9 := by
      rw [heard_of_take (aprtTake_idle (.inl (by omega))), if_neg hb, aprtBadFrame_measure (by omega)]
    have hmoved := heard_moved (bclks := bclks) (slots := slots) (s := s) hn
    have hstate' : (s.heard n bclks slots).get (Reg.APRT.STAT_STATE n) ≠ 3 := by rw [hheard, state_frmerr]; omega
    have hframe := aprtFrame_direct (.inl h2) hf hmoved.frames (.inl hstate')
    have hsent : (s.heard n bclks slots).out = s.out := by
      rw [hheard]
      exact (((RegsOnly.refl _).bump _ _).cause _ _ _ _ _).out
    rw [aprtOut_idle (s := s) (by omega) hstate' hmoved.inUse] at hframe
    have hfrm : (s.heard n bclks slots).get (Reg.APRT.CNT_FRMERR n) =
        (s.get (Reg.APRT.CNT_FRMERR n) + 1) % 2 ^ (Reg.APRT.CNT_FRMERR n).width := by rw [hheard, get_frmerr, edged_get]
    have hrep : (s.heard n bclks slots).get (Reg.APRT.SLIPCNT_REPEATS n) = s.get (Reg.APRT.SLIPCNT_REPEATS n) := by
      rw [hheard, repeats_frmerr, edged_get]
    generalize s.heard n bclks slots = v at hframe hmoved hsent hfrm hrep
    refine ⟨_, (exec_aprtFrame hn hm).trans (congrArg _ hframe), ?_, ?_, congrArg _ hsent, hmoved.regs.same rfl⟩
    · exact (get_of_regs (updAprt_regs _ _ _) _).trans hfrm
    · exact (get_of_regs (updAprt_regs _ _ _) _).trans hrep
  case early =>
    intro s n bclks hz slots hn hm hst hf hlen
    obtain ⟨w, hframe, hmoved⟩ := aprtFrame_timed (bclks := bclks) (slots := slots) hn hst
    have hlenw : (w.aprt n).stamps.length < 16 := by rw [hmoved.stamps]; exact hlen
    rw [aprtStamp_early (by rw [hmoved.frames]; exact hf) hlenw] at hframe
    obtain ⟨-, hstamps, htime, hcnt⟩ := stamped_shows n w
    rw [hmoved.timeNs, hmoved.stamps, List.take_of_length_le (by simp; omega)] at hstamps
    rw [hmoved.timeNs] at htime
    rw [hmoved.frames] at hcnt
    exact ⟨_, (exec_aprtFrame hn hm).trans (congrArg _ hframe), hstamps, htime, hcnt,
      (rate_stamped n w).trans (hmoved.get _ (frame_apart (.inl rfl)) (.inr (by simp only [Reg.APRT.RATE]; omega)))⟩
  case rate =>
    intro s n bclks hz slots t0 r hn hm hst hf ht0 hlt hr
    obtain ⟨w, hframe, hmoved⟩ := aprtFrame_timed (bclks := bclks) (slots := slots) hn hst
    rw [aprtStamp_measured (by rw [hmoved.frames]; exact hf) (by rw [hmoved.stamps]; exact ht0) (by rw [hmoved.timeNs]; exact hlt),
      hmoved.timeNs, ← hr] at hframe
    obtain ⟨hrate, hclass⟩ := aprtJudgeRate_shows hn r (w.stamped n)
    exact ⟨_, (exec_aprtFrame hn hm).trans (congrArg _ hframe), hrate, hclass⟩
  case master =>
    intro s n bclks hz slots hn h3 hb hf hlast hm
    exact ⟨_, exec_aprtFrame hn (.inl hm), aprtFrame_taken h3 hb hf hlast (.inl hm)⟩
  case asrc =>
    intro s n bclks hz slots hn hz h3 hb hf hlast hm
    obtain ⟨hframe, hfifo, -, hout, hregs⟩ := aprtFrame_taken (slots := slots) h3 hb hf hlast (.inr hm)
    exact ⟨_, exec_aprtFrame hn (.inr hz), hframe, hfifo, hout, hregs⟩
  case full =>
    intro s n bclks hz slots hn hz h3 hb hf hlast hm hin hout
    have hmoved := (edged_moved n (frameRegs n) s).aprtPush hn (List.Subset.refl _) slots
    have hframe := aprtFrame_sync (slots := slots) h3 hb hf hlast hm hn
    have hsent := hmoved.sentBack hn (List.Subset.refl _)
    have hstate : (s.edged n).get (Reg.APRT.STAT_STATE n) = 3 := by rw [edged_get, h3]
    have hmode : ((s.edged n).aprtPush n slots).aprtMode n = 1 := (hmoved.aprtMode n).trans hm
    have hpush : (s.edged n).aprtPush n slots = ((s.edged n).bump (Reg.APRT.SLIPCNT_DROPS n) 1).aprtCause n 4 :=
      if_pos (by rw [aprt_edged]; exact hin)
    generalize hv : (s.edged n).aprtPush n slots = v at hframe hsent hmode hpush
    have hport : v.aprt n = { s.aprt n with edge := s.now } := by rw [hpush, aprt_slip, aprt_edged]
    have hdrops : v.get (Reg.APRT.SLIPCNT_DROPS n) = (s.get (Reg.APRT.SLIPCNT_DROPS n) + 1) % 2 ^ (Reg.APRT.SLIPCNT_DROPS n).width := by
      rw [hpush, get_drops, edged_get]
    have hfilled := sentBack_filled (by rw [hpush, state_drops, hstate]) hmode (by rw [hport]; exact hout)
    have hport' : (v.sentBack n).aprt n = { s.aprt n with edge := s.now, fifoOut := (s.aprt n).fifoOut - 1 } := by
      rw [hfilled, aprt_updAprt, aprt_emit, hport]
    have hdrops' : (v.sentBack n).get (Reg.APRT.SLIPCNT_DROPS n) = v.get (Reg.APRT.SLIPCNT_DROPS n) := by
      rw [hfilled]
      exact get_of_regs rfl _
    generalize v.sentBack n = w at *
    refine ⟨_, (exec_aprtFrame hn (.inr hz)).trans (congrArg _ hframe), ?_, ?_, ?_, hsent.regs.same (updAprt_regs _ _ _)⟩
    · rw [get_of_regs (updAprt_regs _ _ _), hdrops', hdrops]
    · rw [aprt_updAprt, hport']
    · rw [aprt_updAprt, hport']
      exact Nat.sub_add_cancel (by omega)
  case twice =>
    intro s n bclks hz slots hn hz h3 hb hf hlast hm hin hout
    have hmoved := (edged_moved n (frameRegs n) s).aprtPush hn (List.Subset.refl _) slots
    have hframe := aprtFrame_sync (slots := slots) h3 hb hf hlast hm hn
    have hsent := hmoved.sentBack hn (List.Subset.refl _)
    have hstate : (s.edged n).get (Reg.APRT.STAT_STATE n) = 3 := by rw [edged_get, h3]
    have hmode : ((s.edged n).aprtPush n slots).aprtMode n = 1 := (hmoved.aprtMode n).trans hm
    have hpush : (s.edged n).aprtPush n slots = (s.edged n).updAprt n fun x => { x with fifoIn := x.fifoIn ++ [slots] } :=
      if_neg (by rw [aprt_edged]; exact Nat.not_le_of_gt hin)
    generalize hv : (s.edged n).aprtPush n slots = v at hframe hsent hmode hpush
    have hport : v.aprt n = { s.aprt n with edge := s.now, fifoIn := (s.aprt n).fifoIn ++ [slots] } := by
      rw [hpush, aprt_updAprt, aprt_edged]
    have hregs : v.regs = s.regs := by rw [hpush]; rfl
    have hlow := sentBack_low ((get_of_regs hregs _).trans h3) hmode (by rw [hport]; exact hout)
    have hport' : (v.sentBack n).aprt n = v.aprt n := by rw [hlow, aprt_slip, aprt_emit]
    have hdrops : (v.sentBack n).get (Reg.APRT.SLIPCNT_DROPS n) =
        (s.get (Reg.APRT.SLIPCNT_DROPS n) + 1) % 2 ^ (Reg.APRT.SLIPCNT_DROPS n).width := by
      rw [hlow, get_drops, get_of_regs (t := State.emit _ v) hregs]
    generalize v.sentBack n = w at *
    refine ⟨_, (exec_aprtFrame hn (.inr hz)).trans (congrArg _ hframe), ?_, ?_, ?_, hsent.regs.same (updAprt_regs _ _ _)⟩
    · rw [get_of_regs (updAprt_regs _ _ _), hdrops]
    · rw [aprt_updAprt, hport', hport]
    · rw [aprt_updAprt, hport', hport]
  case sync =>
    intro s n bclks hz slots q hn hz hm h3 hb hf hlast hq hin hout
    have hmoved := (edged_moved n (frameRegs n) s).aprtPush hn (List.Subset.refl _) slots
    have hframe := aprtFrame_sync (slots := slots) h3 hb hf hlast hm hn
    have hsent := hmoved.sentBack hn (List.Subset.refl _)
    have hstate : (s.edged n).get (Reg.APRT.STAT_STATE n) = 3 := by rw [edged_get, h3]
    have hmode : ((s.edged n).aprtPush n slots).aprtMode n = 1 := (hmoved.aprtMode n).trans hm
    have hpush : (s.edged n).aprtPush n slots = (s.edged n).updAprt n fun x => { x with fifoIn := x.fifoIn ++ [slots] } :=
      if_neg (by rw [aprt_edged]; exact Nat.not_le_of_gt (hq ▸ hin))
    generalize hv : (s.edged n).aprtPush n slots = v at hframe hsent hmode hpush
    have hport : v.aprt n = { s.aprt n with edge := s.now, fifoIn := q ++ [slots] } := by
      rw [hpush, aprt_updAprt, aprt_edged, ← hq]
    have hregs : v.regs = s.regs := by rw [hpush]; rfl
    have hfilled := sentBack_filled ((get_of_regs hregs _).trans h3) hmode (by rw [hport]; exact hout)
    have hport' : (v.sentBack n).aprt n = { s.aprt n with edge := s.now, fifoIn := q ++ [slots], fifoOut := (s.aprt n).fifoOut - 1 } := by
      rw [hfilled, aprt_updAprt, aprt_emit, hport]
    have hregs' : (v.sentBack n).regs = s.regs := by rw [hfilled]; exact hregs
    generalize v.sentBack n = w at *
    refine ⟨_, (exec_aprtFrame hn (.inr hz)).trans (congrArg _ hframe), ?_, ?_, ?_, (updAprt_regs _ _ _).trans hregs'⟩
    · rw [aprt_updAprt, hport']
    · rw [aprt_updAprt, hport']
      exact Nat.sub_add_cancel (by omega)
    · rw [aprt_updAprt, hport']
  case lost =>
    intro s n hn hm h3 hlate
    have hexec : exec (.clklost n) s = .next (s.when (decide (n < 8)) (State.aprtClkLost n)) := rfl
    have hlost : s.aprtClkLost n = (((s.aprtLeave n).set (Reg.APRT.STAT_STATE n) 4).bump (Reg.APRT.CNT_CLKLOST n) 1).aprtCause n 1 :=
      if_pos ⟨h3, hm, hlate⟩
    rw [decide_eq_true hn, when_true, hlost] at hexec
    have hpage (x : Nat) (hx : x < 0x1000) : Outside [.aprt, .flt] (0x1F000000 + x + 0x1000 * n) = false :=
      aprt_page hn (by omega) (by omega) (by simp)
    have hmoved := (PortMoved.refl n (frameRegs n) s).aprtLeave hn (List.Subset.refl _)
    have hfifo : ((s.aprtLeave n).aprt n).fifoIn = [] := by rw [aprtLeave, aprt_updAprt]
    have hcnt := hmoved.get (Reg.APRT.CNT_CLKLOST n) (fun q hq => clklost_apart hq) (.inr (by simp only [Reg.APRT.CNT_CLKLOST]; omega))
    generalize s.aprtLeave n = v at *
    have hclk : (Reg.APRT.CNT_CLKLOST n).apart (Reg.APRT.STAT_STATE n) = true :=
      apart_of_addr (by simp [Reg.APRT.CNT_CLKLOST, Reg.APRT.STAT_STATE])
    refine ⟨_, hexec, ?_, ?_, ?_, ?_⟩
    · rw [state_slip 1 1 (by decide : 31 < 32) (by simp [Reg.APRT.CNT_CLKLOST, Reg.APRT.STAT_STATE]), get_set_same _ _ (by decide : 6 < 32)]
      rfl
    · rw [get_slip 1 1 (by decide : 31 < 32) (apart_of_addr (by simp [Reg.APRT.CNT_CLKLOST, Reg.APRT.EVSTAT]))
        (by simp only [Reg.APRT.CNT_CLKLOST]; omega), get_set_other _ _ hclk (by decide : 6 < 32), hcnt]
    · rw [aprt_slip]
      exact hfifo
    · exact ((hmoved.regs.set 4 (hpage 4 (by decide))).bump 1 (hpage 0x44 (by decide))).cause _ _ _ _ (hpage 0xF0 (by decide)) (by simp)
  case notLost =>
    intro s n h
    refine ⟨s, ?_, rfl⟩
    have hexec : exec (.clklost n) s = .next (s.when (decide (n < 8)) (State.aprtClkLost n)) := rfl
    rw [hexec]
    by_cases hn : n < 8
    · have hidle : s.aprtClkLost n = s := if_neg (by omega)
      rw [decide_eq_true hn, when_true, hidle]
    · rw [decide_eq_false hn]
      rfl
  case noRelock =>
    intro s n h
    refine ⟨s, ?_, rfl⟩
    refine congrArg Host.Outcome.next (if_neg ?_)
    simp only [Bool.and_eq_true, decide_eq_true_eq, beq_iff_eq]
    omega
  case relock =>
    intro s n hn hm h3
    generalize hu : s.updAprt n (fun x => { x with asrcAt := some s.sampleTick }) = u
    have hexec : exec (.asrcRelockDone n) s = .next (u.set (Reg.APRT.RATEINFO_ASRCLOCK n) 1) := by
      rw [← hu]
      exact congrArg Host.Outcome.next (if_pos (by simp [hn, hm, h3]))
    have hu' : u = { s with aud := u.aud } := by rw [← hu]; rfl
    have hport : (u.aprt n).asrcAt = some s.sampleTick := by rw [← hu, aprt_updAprt]
    refine ⟨_, hexec, get_set_same _ _ (by decide : 3 < 32), ?_, ?_, ?_⟩
    · obtain ⟨a, ha⟩ : ∃ a, u = { s with aud := a } := ⟨_, hu'⟩
      rw [ha]
      rfl
    · rw [aprt_of_regsOnly ((RegsOnly.refl u).set _ _)]
      exact hport
    · exact ((WordsKept.refl _ s).same (u := u) (by rw [hu'])).set _ (by simp)

end Sys2Proof.Machine
end

section
set_option Elab.async false
/-! SUPPORT. The take mailbox (R120–R149): the request that a write of TAKECMD makes, and what it is judged on. -/

namespace Sys2Proof.Machine
namespace State

/-! ### A request of the mailbox -/

/-- A request is carried out on the state before it, but for FAB's STAT word and the result word, the unlocks of the masters, and a
mirror record that is owed. -/
structure Posed (s w : State) : Prop where
  rest : ∃ r g x, w = { s with regs := r, mgt := g, twin := { s.twin with owed := x }, landing := [] }
  words : ∀ a, a ≠ 0x14000004 → a ≠ 0x14000074 → w.rd a = s.rd a

namespace Posed

variable {s w : State}

theorem get (h : Posed s w) {r : FRef} (h1 : r.addr ≠ 0x14000004) (h2 : r.addr ≠ 0x14000074) : w.get r = s.get r := by
  rw [State.get, State.get, h.words _ h1 h2]

/-- A field past the result word. -/
theorem get_past (h : Posed s w) {r : FRef} (hr : 0x14000074 < r.addr) : w.get r = s.get r := h.get (by omega) (by omega)

theorem fab (h : Posed s w) : w.fab = s.fab := by obtain ⟨⟨_, _, _, rfl⟩, -⟩ := h; rfl
theorem chn (h : Posed s w) : w.chn = s.chn := by obtain ⟨⟨_, _, _, rfl⟩, -⟩ := h; rfl
theorem now (h : Posed s w) : w.now = s.now := by obtain ⟨⟨_, _, _, rfl⟩, -⟩ := h; rfl
theorem inUse (h : Posed s w) : w.inUse = s.inUse := by obtain ⟨⟨_, _, _, rfl⟩, -⟩ := h; rfl
theorem prov (h : Posed s w) : w.prov = s.prov := by obtain ⟨⟨_, _, _, rfl⟩, -⟩ := h; rfl
theorem ctx (h : Posed s w) : w.twin.ctx = s.twin.ctx := by obtain ⟨⟨_, _, _, rfl⟩, -⟩ := h; rfl

theorem takeArg (h : Posed s w) {j : Nat} (hj : j < 9) : w.takeArg j = s.takeArg j :=
  h.get (by simp only [Reg.FAB.TAKEARG]; omega) (by simp only [Reg.FAB.TAKEARG]; omega)

theorem timeNs (h : Posed s w) : w.timeNs = s.timeNs := by
  rw [State.timeNs, State.timeNs, get64, get64, h.get (by decide) (by decide), h.get (by decide) (by decide)]

theorem takeInstant (h : Posed s w) : w.takeInstant = s.takeInstant := by
  rw [State.takeInstant, State.takeInstant, h.takeArg (by decide), h.takeArg (by decide)]

theorem takeSrc (h : Posed s w) : w.takeSrc = s.takeSrc := by
  rw [State.takeSrc, State.takeSrc, h.takeArg (by decide), h.takeArg (by decide)]

theorem takeEpochOk (h : Posed s w) : w.takeEpochOk = s.takeEpochOk := by
  rw [State.takeEpochOk, State.takeEpochOk, h.takeArg (by decide), h.get_past (by decide)]

theorem judgeHandle (h : Posed s w) (x : Nat) (kinds : List Nat) : w.judgeHandle x kinds = s.judgeHandle x kinds := by
  unfold State.judgeHandle isLive
  dsimp only
  rw [h.get_past (r := Reg.CHN.ENT_HANDLE _) (by simp only [Reg.CHN.ENT_HANDLE]; omega),
    h.get_past (r := Reg.CHN.ENT_STATE_STATE _) (by simp only [Reg.CHN.ENT_STATE_STATE]; omega)]

theorem chanIng (h : Posed s w) (i : Nat) : w.chanIng i = s.chanIng i := by
  unfold State.chanIng State.flag
  rw [h.get_past (r := Reg.CHN.ENT_RES_INGV _) (by simp only [Reg.CHN.ENT_RES_INGV]; omega),
    h.get_past (r := Reg.CHN.ENT_RES_INGENT _) (by simp only [Reg.CHN.ENT_RES_INGENT]; omega)]

theorem outEgr (h : Posed s w) (i : Nat) : w.outEgr i = s.outEgr i := by
  unfold State.outEgr State.chanEgr State.flag
  rw [h.get_past (r := Reg.CHN.ENT_RES_EGV _) (by simp only [Reg.CHN.ENT_RES_EGV]; omega),
    h.get_past (r := Reg.CHN.ENT_RES_EGENT _) (by simp only [Reg.CHN.ENT_RES_EGENT]; omega)]

theorem converterWalk (h : Posed s w) (n x : Nat) : w.converterWalk n x = s.converterWalk n x := by
  induction n generalizing x with
  | zero => rfl
  | succ n ih =>
    have hroute : w.routeOf (handleIdx x) = s.routeOf (handleIdx x) := h.get_past (by simp only [Reg.FAB.RT_CUR]; omega)
    simp only [State.converterWalk, hroute, ih]

theorem judgeTake (h : Posed s w) (out src epoch peer : Nat) (nosrc : Bool) :
    w.judgeTake out src epoch peer nosrc = s.judgeTake out src epoch peer nosrc := by
  unfold State.judgeTake State.flag
  simp only [h.judgeHandle, h.outEgr, h.chanIng, h.converterWalk]
  rw [h.get_past (r := Reg.CHN.EPOCH) (by decide), h.get_past (r := Reg.FAB.ISE_CFG_SIZE _) (by simp only [Reg.FAB.ISE_CFG_SIZE]; omega),
    h.get_past (r := Reg.FAB.ESE_CFG_SIZE _) (by simp only [Reg.FAB.ESE_CFG_SIZE]; omega),
    h.get_past (r := Reg.FAB.RT_LOCK _) (by simp only [Reg.FAB.RT_LOCK]; omega),
    h.get_past (r := Reg.FAB.RT_PROTECT _) (by simp only [Reg.FAB.RT_PROTECT]; omega),
    h.get_past (r := Reg.FAB.RT_OWNER _) (by simp only [Reg.FAB.RT_OWNER]; omega)]

end Posed

/-- The mailbox's answer to a request: FAB and the fault collector as the request left them, the request in progress. -/
structure Finished (v t : State) : Prop where
  fab : t.fab = v.fab
  flt : t.flt = v.flt
  busy : t.get Reg.FAB.TESTAT_BUSY = 1
  get : ∀ r : FRef, r.apart Reg.FAB.TAKERES_DONE = true → r.addr ≠ 0x14000004 → r.addr ≠ 0x14000044 → t.get r = v.get r
  words : ∀ a, a ≠ 0x14000004 → a ≠ 0x14000044 → a ≠ 0x14000074 → t.rd a = v.rd a

/-- What the mailbox makes of each operation once FAB is enabled. -/
def takeOp (op peer : Nat) (s : State) : State :=
  match op with
  | 1 => s.opTake peer
  | 2 => if s.takeEpochOk then s.opCancel else (s.staleEvent (s.reqSession peer) 0).takeResult 3 0
  | 3 => s.opApply true peer
  | 4 => s.opRemove true peer
  | 5 => s.opApply false peer
  | 6 => s.opRemove false peer
  | 7 => s.opOpen peer
  | 8 => s.opAdd peer
  | 9 => s.opArm peer
  | 10 => s.opCommit peer
  | 11 => s.opAbort peer
  | _ => s.takeResult 11 0

theorem takeCmdWord_op {peer op : Nat} (hop : op < 16) : (takeCmdWord peer op).toNat % 16 = op := by
  rw [takeCmdWord, BitVec.toNat_ofNat]
  omega

theorem takeCmdWord_peer {peer op : Nat} (hp : peer < 256) (hop : op < 16) : bits (takeCmdWord peer op).toNat 23 16 = peer := by
  rw [takeCmdWord, BitVec.toNat_ofNat, bits]
  omega

theorem takeCmdLand_op {peer op : Nat} {v : State} (hp : peer < 256) (hop : op < 16) (hbusy : v.flag Reg.FAB.TESTAT_BUSY = false) :
    v.takeCmdLand (takeCmdWord peer op) = if (v.set Reg.FAB.TAKERES_DONE 0).get Reg.FAB.CTRL_EN ≠ 1 then
      (v.set Reg.FAB.TAKERES_DONE 0).takeResult 16 0 else (v.set Reg.FAB.TAKERES_DONE 0).takeOp op peer := by
  unfold takeCmdLand
  rw [if_neg (by simp [hbusy]), takeCmdWord_op hop, takeCmdWord_peer hp hop]
  rfl

theorem mirrorOwe_owed (c : MirrorCmd) (s : State) : ∃ x, s.mirrorOwe c = { s with twin := { s.twin with owed := x } } := by
  unfold mirrorOwe
  split
  · exact ⟨_, rfl⟩
  · exact ⟨_, rfl⟩

/-- Nothing but the twin's own state and the outputs differs. -/
def TwinSent (s t : State) : Prop := ∃ x o, t = { s with twin := x, out := o }

theorem TwinSent.trans {s t u : State} (h : TwinSent s t) (h' : TwinSent t u) : TwinSent s u := by
  obtain ⟨_, _, rfl⟩ := h
  obtain ⟨_, _, rfl⟩ := h'
  exact ⟨_, _, rfl⟩

theorem twinSent_sendTwin (r : TwinMsg) (s : State) : TwinSent s (s.sendTwin r) := by
  unfold sendTwin when
  split <;> exact ⟨_, _, rfl⟩

theorem twinSent_mirrorSend (o : MirrorCmd × CmdCtx) (s : State) : TwinSent s (s.mirrorSend o) := by
  have hupd (u : State) (f : TwinState → TwinState) : TwinSent u (u.updTwin f) := ⟨_, _, rfl⟩
  unfold mirrorSend
  dsimp only
  split
  · exact ⟨_, _, rfl⟩
  · next r hr =>
    generalize hu : s.updTwin (fun x => { x with owed := x.owed.filter fun y => y != o }) = u
    have hsu : TwinSent s u := hu ▸ hupd s _
    split
    · exact (hsu.trans (hupd _ _)).trans (twinSent_sendTwin _ _)
    · exact hsu

theorem twinSent_mirrorFlush (s : State) : TwinSent s s.mirrorFlush :=
  each_inv s (TwinSent s) _ _ (fun c t ht => ht.trans (twinSent_mirrorSend c t)) ⟨_, _, rfl⟩

abbrev fabBlk : Blk := ⟨.fab, 0⟩

abbrev takeCmdRow : RegDef := ⟨"TAKECMD", 0x70, [], [⟨23, 16, .wo, .val 0⟩, ⟨3, 0, .wo, .val 0⟩]⟩

/-- The state in which a request is carried out. -/
theorem posed_of_landed {m : Nat} {s : State} (hq : Quiet m s) (c : MirrorCmd) :
    Posed s (((s.landed m fabBlk).mirrorOwe c).set Reg.FAB.TAKERES_DONE 0) := by
  have hland := landed_is m fabBlk s hq.1
  obtain ⟨x, hx⟩ := mirrorOwe_owed c (s.landed m fabBlk)
  rw [hx]
  refine ⟨?_, fun a h1 h2 => ?_⟩
  · rw [hland.rest]
    exact ⟨_, _, _, rfl⟩
  · exact (rd_set_other _ _ h2).trans (hland.words a h1)

section
variable {m peer op : Nat} {s : State} {c : Instr}

theorem find_takeCmd : RegMap.find Reg.FAB.TAKECMD_OP.addr = some (fabBlk, takeCmdRow, 0, 0) := by decide +kernel

theorem domainReg_takeCmd : domainReg Reg.FAB.TAKECMD_OP.addr fabBlk takeCmdRow 0 = true := by decide +kernel

/-- A request written by a master. -/
theorem writeNow_takeCmd (hq : Quiet m s) (data : Word) :
    s.writeNow m Reg.FAB.TAKECMD_OP.addr data = ((s.landed m fabBlk).takeBoxHeld data).showWpend fabBlk :=
  writeNow_special hq domainReg_takeCmd rfl

theorem busy_landed (hq : Quiet m s) : (s.landed m fabBlk).get Reg.FAB.TESTAT_BUSY = s.get Reg.FAB.TESTAT_BUSY :=
  get_landed hq.1 (by decide)

/-- A request goes on in the mailbox until the end of the tick. -/
theorem finished_held (v : State) :
    Finished v (((v.mirrorFlush.set Reg.FAB.TAKERES_DONE 0).set Reg.FAB.TESTAT_BUSY 1).showWpend fabBlk) := by
  obtain ⟨x, o, hv⟩ := twinSent_mirrorFlush v
  generalize v.mirrorFlush = u at hv
  have hflags : RegsOnly u (((u.set Reg.FAB.TAKERES_DONE 0).set Reg.FAB.TESTAT_BUSY 1).showWpend fabBlk) :=
    (((RegsOnly.refl u).set _ _).set _ _).setB _ _
  have hflt : (((u.set Reg.FAB.TAKERES_DONE 0).set Reg.FAB.TESTAT_BUSY 1).showWpend fabBlk).flt = u.flt :=
    (setB_flt _ _ _).trans ((set_flt _ _ _).trans (set_flt _ _ _))
  refine ⟨?_, ?_, ?_, ?_, ?_⟩
  · rw [hflags.fab, hv]
  · rw [hflt, hv]
  · rw [get_showWpend_other (by decide), get_set_same _ _ (by decide : 0 < 32)]
    rfl
  · intro r hdone h1 h2
    rw [get_showWpend_other (apart_of_addr h1), get_set_other _ _ (apart_of_addr h2) (by decide : 0 < 32),
      get_set_other _ _ hdone (by decide : 31 < 32), hv]
    rfl
  · intro a h1 h2 h3
    unfold showWpend
    rw [setB, rd_set_other _ _ h1, rd_set_other _ _ h2, rd_set_other _ _ h3, hv]
    rfl

/-- The record of a request for the partner. -/
def takeMirror (peer op : Nat) (s : State) : MirrorCmd :=
  ⟨0, 0, (takeCmdWord peer op).toNat % 16, s.argWords Reg.FAB.TAKEARG 6, bits (takeCmdWord peer op).toNat 23 16⟩

/-- A request that the mailbox takes. -/
theorem exec_takeCmd (hc : exec c s = .next (s.writeNow m Reg.FAB.TAKECMD_OP.addr (takeCmdWord peer op))) (hop : op < 16)
    (hq : Quiet m s) (hp : peer < 256) (hbusy : s.get Reg.FAB.TESTAT_BUSY = 0) : ∃ w t, Posed s w ∧ exec c s = .next t ∧
      Finished (if w.get Reg.FAB.CTRL_EN ≠ 1 then w.takeResult 16 0 else w.takeOp op peer) t := by
  have hfree : (s.landed m fabBlk).flag Reg.FAB.TESTAT_BUSY = false := flag_eq_false.mpr ((busy_landed hq).trans hbusy)
  have hposed := posed_of_landed hq ((s.landed m fabBlk).takeMirror peer op)
  have hbox : (s.landed m fabBlk).takeBox (takeCmdWord peer op) =
      (((s.landed m fabBlk).mirrorOwe ((s.landed m fabBlk).takeMirror peer op)).takeCmdLand (takeCmdWord peer op)).mirrorFlush :=
    if_neg (by simp [hfree])
  have hfree' : ((s.landed m fabBlk).mirrorOwe ((s.landed m fabBlk).takeMirror peer op)).flag Reg.FAB.TESTAT_BUSY = false := by
    obtain ⟨x, hx⟩ := mirrorOwe_owed ((s.landed m fabBlk).takeMirror peer op) (s.landed m fabBlk)
    rw [hx]
    exact hfree
  rw [takeCmdLand_op hp hop hfree'] at hbox
  refine ⟨_, _, hposed, ?_, finished_held _⟩
  rw [hc, writeNow_takeCmd hq]
  unfold takeBoxHeld
  rw [if_neg (by simp [hfree]), hbox]

/-- A request that FAB carries out. -/
theorem exec_takeCmd_on (hc : exec c s = .next (s.writeNow m Reg.FAB.TAKECMD_OP.addr (takeCmdWord peer op))) (hop : op < 16)
    (hq : Quiet m s) (hp : peer < 256) (hbusy : s.get Reg.FAB.TESTAT_BUSY = 0) (hen : s.get Reg.FAB.CTRL_EN = 1) :
    ∃ w t, Posed s w ∧ exec c s = .next t ∧ Finished (w.takeOp op peer) t := by
  obtain ⟨w, t, hw, ht, hf⟩ := exec_takeCmd hc hop hq hp hbusy
  rw [if_neg (by rw [hw.get (by decide) (by decide), hen]; exact fun h => h rfl)] at hf
  exact ⟨w, t, hw, ht, hf⟩

/-- A request made while FAB is disabled. -/
theorem exec_takeCmd_off (hc : exec c s = .next (s.writeNow m Reg.FAB.TAKECMD_OP.addr (takeCmdWord peer op))) (hop : op < 16)
    (hq : Quiet m s) (hp : peer < 256) (hbusy : s.get Reg.FAB.TESTAT_BUSY = 0) (hen : s.get Reg.FAB.CTRL_EN = 0) :
    ∃ w t, Posed s w ∧ exec c s = .next t ∧ Finished (w.takeResult 16 0) t := by
  obtain ⟨w, t, hw, ht, hf⟩ := exec_takeCmd hc hop hq hp hbusy
  rw [if_pos (by rw [hw.get (by decide) (by decide), hen]; decide)] at hf
  exact ⟨w, t, hw, ht, hf⟩

/-- A request made while one is in progress. -/
theorem exec_takeCmd_busy (hc : exec c s = .next (s.writeNow m Reg.FAB.TAKECMD_OP.addr (takeCmdWord peer op))) (hq : Quiet m s)
    (hbusy : s.get Reg.FAB.TESTAT_BUSY = 1) :
    ∃ t, exec c s = .next t ∧ t.get Reg.FAB.TESTAT_REQ_OVR = 1 ∧ Raised 1000 t ∧ t.fab = s.fab ∧ RegsKept [.fab, .flt] s t := by
  have htaken : (s.landed m fabBlk).flag Reg.FAB.TESTAT_BUSY = true := flag_of_one ((busy_landed hq).trans hbusy)
  generalize hr : (s.landed m fabBlk).reqNames ((takeCmdWord peer op).toNat % 16) = r
  have hbox : (s.landed m fabBlk).takeBoxHeld (takeCmdWord peer op) = ((s.landed m fabBlk).set Reg.FAB.TESTAT_REQ_OVR 1).raise 1000 [r] := by
    unfold takeBoxHeld takeBox mirrored takeCmdLand
    rw [if_pos htaken, if_pos htaken, if_pos htaken, hr]
  have hnext := hc.trans (congrArg Host.Outcome.next (writeNow_takeCmd hq _))
  rw [hbox] at hnext
  have hkept : RegsKept [.fab, .flt] s (s.landed m fabBlk) := RegsKept.landed hq.1 (by decide)
  have hfab : (s.landed m fabBlk).fab = s.fab := by rw [(landed_is m fabBlk s hq.1).rest]
  generalize s.landed m fabBlk = u at *
  refine ⟨(((u.set Reg.FAB.TESTAT_REQ_OVR 1).raise 1000 [r]).showWpend fabBlk), ?_, ?_, ?_, ?_, ?_⟩
  · exact hnext
  · rw [get_showWpend_other (by decide), get_raise _ _ _ (.inr (by decide)), get_set_same _ _ (by decide : 1 < 32)]
    rfl
  · exact raised_raise _ _ (by decide)
  · rw [← hfab]
    exact (((((RegsOnly.refl u).set _ _).raise _ _).setB _ _)).fab
  · exact ((hkept.set _ (by decide)).raise _ _ (by decide)).showWpend (by decide)

end

/-! ### Results -/

section
variable {code k : Nat} {s v w t : State}

theorem takeResult_code (code k : Nat) (s : State) : (s.takeResult code k).get Reg.FAB.TAKERES_CODE = code % 32 := by
  rw [takeResult, get_set_other _ _ (by decide) (by decide : 26 < 32)]
  exact get_set_same _ _ (by decide : 4 < 32)

theorem takeResult_index (code k : Nat) (s : State) : (s.takeResult code k).get Reg.FAB.TAKERES_INDEX = k % 2048 :=
  get_set_same _ _ (by decide : 26 < 32)

theorem regsOnly_takeResult (code k : Nat) (s : State) : RegsOnly s (s.takeResult code k) :=
  (((RegsOnly.refl s).set _ _).set _ _).set _ _

theorem rd_takeResult (code k : Nat) (s : State) {a : Nat} (h : a ≠ 0x14000074) : (s.takeResult code k).rd a = s.rd a := by
  rw [takeResult, rd_set_other _ _ h, rd_set_other _ _ h, rd_set_other _ _ h]

theorem get_takeResult (code k : Nat) (s : State) {r : FRef} (h : r.addr ≠ 0x14000074) : (s.takeResult code k).get r = s.get r := by
  rw [State.get, State.get, rd_takeResult _ _ _ h]

theorem takeResult_flt (code k : Nat) (s : State) : (s.takeResult code k).flt = s.flt :=
  (set_flt _ _ _).trans ((set_flt _ _ _).trans (set_flt _ _ _))

/-- The words of the route table stand. -/
def RoutesKept (s t : State) : Prop := ∀ a, 0x14080000 ≤ a → a < 0x14100000 → t.rd a = s.rd a

theorem RoutesKept.refl (s : State) : RoutesKept s s := fun _ _ _ => rfl

theorem RoutesKept.trans {u : State} (h : RoutesKept s t) (h' : RoutesKept t u) : RoutesKept s u := fun a h1 h2 =>
  (h' a h1 h2).trans (h a h1 h2)

/-- A change in pages other than FAB's. -/
theorem RoutesKept.of_regsKept {ks : List BlkKind} (h : RegsKept ks s t) (hks : BlkKind.fab ∉ ks) : RoutesKept s t := fun a h1 h2 =>
  h a (outside_of_page .fab hks (by simp only [BlkKind.layout]; omega) (by simp only [BlkKind.pagesEnd, BlkKind.layout]; omega))

theorem RoutesKept.set (h : RoutesKept s t) {r : FRef} (v : Nat) (hr : r.addr < 0x14080000) : RoutesKept s (t.set r v) := fun a h1 h2 =>
  (rd_set_other t v (by omega)).trans (h a h1 h2)

theorem RoutesKept.same (h : RoutesKept s t) {u : State} (hu : u.regs = t.regs) : RoutesKept s u := fun a h1 h2 => by
  rw [← h a h1 h2, rd, rd, hu]

theorem RoutesKept.get (h : RoutesKept s t) {r : FRef} (h1 : 0x14080000 ≤ r.addr) (h2 : r.addr < 0x14100000) : t.get r = s.get r := by
  rw [State.get, State.get, h _ h1 h2]

theorem routesKept_raise (src : Nat) (items : List Nat) (s : State) : RoutesKept s (s.raise src items) :=
  RoutesKept.of_regsKept ((RegsKept.refl [.flt] s).raise src items (by decide)) (by decide)

theorem routesKept_takeResult (code k : Nat) (s : State) : RoutesKept s (s.takeResult code k) := fun a h1 h2 =>
  rd_takeResult _ _ _ (by omega)

theorem Posed.routes (h : Posed s w) : RoutesKept s w := fun a h1 h2 => h.words a (by omega) (by omega)

theorem Finished.routes (h : Finished v t) : RoutesKept v t := fun a h1 h2 => h.words a (by omega) (by omega) (by omega)

theorem Finished.result_code (h : Finished (v.takeResult code k) t) : t.get Reg.FAB.TAKERES_CODE = code % 32 :=
  (h.get _ (by decide) (by decide) (by decide)).trans (takeResult_code _ _ _)

theorem Finished.result_index (h : Finished (v.takeResult code k) t) : t.get Reg.FAB.TAKERES_INDEX = k % 2048 :=
  (h.get _ (by decide) (by decide) (by decide)).trans (takeResult_index _ _ _)

theorem Finished.fab_result (h : Finished (v.takeResult code k) t) : t.fab = v.fab := h.fab.trans (regsOnly_takeResult _ _ _).fab

theorem Finished.raised {src : Nat} (h : Finished (v.takeResult code k) t) (hr : Raised src v) : Raised src t := by
  unfold Raised at hr ⊢
  rw [h.flt, takeResult_flt]
  exact hr

theorem Finished.routes_result (h : Finished (v.takeResult code k) t) : RoutesKept v t :=
  (routesKept_takeResult _ _ _).trans h.routes

/-- An event of a stale handle or epoch, or none. -/
structure Noted (s t : State) : Prop where
  only : RegsOnly s t
  regs : RegsKept [.flt] s t

theorem Noted.fab (h : Noted s t) : t.fab = s.fab := h.only.fab

theorem Noted.routes (h : Noted s t) : RoutesKept s t := RoutesKept.of_regsKept h.regs (by decide)

theorem noted_staleEvent (session h : Nat) (s : State) : Noted s (s.staleEvent session h) :=
  ⟨(RegsOnly.refl s).raiseLimited _ _ _, (RegsKept.refl _ s).raiseLimited _ _ _ (by decide)⟩

theorem noted_staleIf (code session h : Nat) (s : State) : Noted s (s.staleIf code session h) := by
  unfold staleIf
  cases code == 3
  · exact ⟨RegsOnly.refl s, RegsKept.refl _ s⟩
  · exact noted_staleEvent _ _ _

theorem staleIf_zero (session h : Nat) (s : State) : s.staleIf 0 session h = s := rfl

/-- A request that is refused. -/
theorem Finished.refused (h : Finished (v.takeResult code k) t) (hw : Posed s w) (hv : Noted w v) :
    t.get Reg.FAB.TAKERES_CODE = code % 32 ∧ t.fab = s.fab ∧ RoutesKept s t :=
  ⟨h.result_code, h.fab_result.trans (hv.fab.trans hw.fab), (hw.routes.trans hv.routes).trans h.routes_result⟩

end

/-! ### Completions -/

section
variable {s t u : State}

/-- Completions enter the queue, or are lost: but for them, and for the registers that show them, nothing differs. -/
structure Completed (s t : State) : Prop where
  only : ∃ r f l q, t = { s with regs := r, flt := f, lastRaise := l, fab := { s.fab with tcq := q } }
  routes : RoutesKept s t

theorem Completed.outs (h : Completed s t) : t.fab.outs = s.fab.outs := by obtain ⟨⟨_, _, _, _, rfl⟩, -⟩ := h; rfl
theorem Completed.sched (h : Completed s t) : t.fab.sched = s.fab.sched := by obtain ⟨⟨_, _, _, _, rfl⟩, -⟩ := h; rfl
theorem Completed.schedUse (h : Completed s t) : t.fab.schedUse = s.fab.schedUse := by obtain ⟨⟨_, _, _, _, rfl⟩, -⟩ := h; rfl

theorem regsOnly_showTcq (s : State) : RegsOnly s s.showTcq := by
  unfold showTcq
  dsimp only
  split
  · exact (RegsOnly.refl s).set _ _
  · exact ((((((((RegsOnly.refl s).set _ _).set _ _).set _ _).set _ _).set _ _).set _ _).set _ _).set _ _

theorem routesKept_showTcq (s : State) : RoutesKept s s.showTcq := by
  have hcount := (RoutesKept.refl s).set (r := Reg.FAB.TCQSTAT_COUNT) s.fab.tcq.length (by decide)
  unfold showTcq
  dsimp only
  split
  · exact hcount
  · exact ((((((hcount.set _ (by decide)).set _ (by decide)).set _ (by decide)).set _ (by decide)).set _ (by decide)).set _
      (by decide)).set _ (by decide)

theorem completed_complete (i code flags : Nat) (x : TakeRec) (tsw : Nat) (s : State) : Completed s (s.complete i code flags x tsw) := by
  unfold complete
  dsimp only
  split
  · generalize hu : s.updFab _ = u
    have hshow := regsOnly_showTcq u
    have hroutes := routesKept_showTcq u
    have hsu : u.regs = s.regs := by rw [← hu]; rfl
    refine ⟨?_, ((RoutesKept.refl s).same hsu).trans hroutes⟩
    obtain ⟨_, _, _, h⟩ := hshow
    rw [h, ← hu]
    exact ⟨_, _, _, _, rfl⟩
  · refine ⟨?_, ((RoutesKept.refl s).set _ (by decide)).trans (routesKept_raise _ _ _)⟩
    obtain ⟨_, _, _, h⟩ := ((RegsOnly.refl s).set Reg.FAB.TCQSTAT_OVF 1).raise 998 [s.get (Reg.CHN.ENT_HANDLE i)]
    exact ⟨_, _, _, _, h⟩

/-- The first completion of an empty queue. -/
theorem complete_first (i code flags : Nat) (x : TakeRec) (tsw : Nat) {s : State} (h : s.fab.tcq = []) :
    ∃ c, (s.complete i code flags x tsw).fab.tcq = [c] ∧ c.code = code ∧ c.peer = x.peer ∧ c.ref = x.ref := by
  unfold complete
  dsimp only
  rw [h, if_pos (by decide), (regsOnly_showTcq _).fab]
  exact ⟨_, congrArg (tcqInsert _) h, rfl, rfl, rfl⟩

end

/-! ### The slots of an output, its lock and its protection -/

section
variable {i : Nat} {s t : State}

/-- A field of a route record that does not show the slots. -/
theorem get_putSlots_other {r : FRef} (o : OutTakes) (s : State) (h1 : 0x14080000 ≤ r.addr) (h2 : r.addr < 0x14100000)
    (hr : ∀ q ∈ [Reg.FAB.RT_PEND i, Reg.FAB.RT_PENDV i, Reg.FAB.RT_PNOSRC i, Reg.FAB.RT_LATSRC i, Reg.FAB.RT_LATV i], r.apart q = true) :
    (s.putSlots i o).get r = s.get r := by
  have hstruck := struck_chkinvStruckAt 2 i ((s.withSlots i o).showSlots i)
  rw [putSlots_eq, (RoutesKept.of_regsKept hstruck.regs (by decide)).get h1 h2, showSlots_eq,
    get_set_other _ _ (hr _ (by simp)) (by decide : 29 < 32), get_set_other _ _ (hr _ (by simp)) (by decide : 31 < 32),
    get_setB_other _ _ (hr _ (by simp)) (by decide : 30 < 32), get_set_other _ _ (hr _ (by simp)) (by decide : 31 < 32),
    get_set_other _ _ (hr _ (by simp)) (by decide : 31 < 32)]
  rfl

theorem struck_tableRead {mem : Nat} (hm : mem < 12) (addr : Nat) (s : State) : Struck s (s.tableRead mem addr) := by
  have hcount (r : FRef) (hr : Outside [.prov, .flt] r.addr = false) (src : Nat) (items : List Nat) (u : State) (h : Struck s u) :
      Struck s ((u.bump r 1).raise src items) :=
    h.of_regsOnly (((RegsOnly.refl u).bump r 1).raise src items) (((RegsKept.refl _ u).bump 1 hr).raise src items (by decide))
  have hpage : Outside [.prov, .flt] (0x16000100 + 0x4 * mem) = false :=
    outside_page .prov (by decide) (by simp only [BlkKind.layout]; omega) (by simp only [BlkKind.pagesEnd, BlkKind.layout]; omega)
  have hwhen (c : Bool) (f : State → State) (hf : ∀ u, Struck s u → Struck s (f u)) (u : State) (h : Struck s u) : Struck s (u.when c f) := by
    cases c
    · exact h
    · exact hf u h
  exact hwhen _ _ (hcount _ hpage 19 _) _ (hwhen _ _ (hcount _ hpage 18 _) _ ((Struck.refl s).updProv _))

end

/-! ### What the requests do -/

section
variable {i code peer : Nat} {s w t : State}

theorem handleIdx_lt (h : Nat) : handleIdx h < 16384 := bits_lt _ _ _

theorem takeSrc_lt (s : State) : s.takeSrc < 2 ^ 32 := by
  unfold takeSrc
  split
  · exact (by decide : 0 < 2 ^ 32)
  · exact s.get_lt (Reg.FAB.TAKEARG 1)

theorem completed_superseded_get {r : FRef} (x : TakeRec) (s : State) (h1 : 0x14080000 ≤ r.addr) (h2 : r.addr < 0x14100000)
    (hr : r.apart (Reg.FAB.RT_SUPCNT i) = true) : (s.superseded i x).get r = s.get r := by
  rw [superseded, get_bump_other _ _ hr (by decide : 31 < 32)]
  exact (completed_complete _ _ _ _ _ _).routes.get h1 h2

/-- A take put in the pending slot. -/
theorem pendTake_shows (hi : i < 16384) (x : TakeRec) (s : State) : ((s.pendTake i x).outTakes i).pend = some x ∧
    (s.pendTake i x).get (Reg.FAB.RT_PENDV i) = 1 ∧ (s.pendTake i x).get (Reg.FAB.RT_PEND i) = x.src % 2 ^ 32 ∧
    (s.pendTake i x).get (Reg.FAB.RT_CUR i) = s.get (Reg.FAB.RT_CUR i) := by
  have hput (u : State) (o : OutTakes) (hu : u.get (Reg.FAB.RT_CUR i) = s.get (Reg.FAB.RT_CUR i)) (ho : o.pend = some x) :
      ((u.putSlots i o).outTakes i).pend = some x ∧ (u.putSlots i o).get (Reg.FAB.RT_PENDV i) = 1 ∧
        (u.putSlots i o).get (Reg.FAB.RT_PEND i) = x.src % 2 ^ 32 ∧ (u.putSlots i o).get (Reg.FAB.RT_CUR i) = s.get (Reg.FAB.RT_CUR i) := by
    obtain ⟨hpend, hpendV, -, -⟩ := slotsShown_putSlots hi o u
    rw [ho] at hpend hpendV
    refine ⟨by rw [outTakes_putSlots, ho], hpendV, hpend, ?_⟩
    rw [get_putSlots_other o u (by simp only [Reg.FAB.RT_CUR]; omega) (by simp only [Reg.FAB.RT_CUR]; omega), hu]
    intro q hq
    refine apart_of_addr ?_
    simp only [List.mem_cons, List.not_mem_nil, or_false] at hq
    rcases hq with rfl | rfl | rfl | rfl | rfl <;>
      simp only [Reg.FAB.RT_CUR, Reg.FAB.RT_PEND, Reg.FAB.RT_PENDV, Reg.FAB.RT_PNOSRC, Reg.FAB.RT_LATSRC, Reg.FAB.RT_LATV] <;> omega
  unfold pendTake
  dsimp only
  cases (s.outTakes i).pend with
  | none => exact hput s _ rfl rfl
  | some old =>
    exact hput _ _ (completed_superseded_get old s (by simp only [Reg.FAB.RT_CUR]; omega) (by simp only [Reg.FAB.RT_CUR]; omega)
      (apart_of_addr (by simp only [Reg.FAB.RT_CUR, Reg.FAB.RT_SUPCNT]; omega))) rfl

theorem withSlots_tcq (i : Nat) (o : OutTakes) (s : State) : (s.withSlots i o).fab.tcq = s.fab.tcq := rfl

/-- The take that is pending is superseded. -/
theorem pendTake_supersedes {old : TakeRec} (hi : i < 16384) (x : TakeRec) (hold : (s.outTakes i).pend = some old) (htcq : s.fab.tcq = []) :
    ((s.pendTake i x).fab.tcq.map fun c => (c.code, c.peer)) = [(20, old.peer)] ∧
      (s.pendTake i x).get (Reg.FAB.RT_SUPCNT i) = (s.get (Reg.FAB.RT_SUPCNT i) + 1) % 65536 := by
  have hwidth : 2 ^ (Reg.FAB.RT_SUPCNT i).width = 65536 := rfl
  have hsup : (s.superseded i old).get (Reg.FAB.RT_SUPCNT i) = (s.get (Reg.FAB.RT_SUPCNT i) + 1) % 65536 := by
    rw [superseded, get_bump_same _ 1 (by decide : 31 < 32), (completed_complete _ _ _ _ _ _).routes.get
      (by simp only [Reg.FAB.RT_SUPCNT]; omega) (by simp only [Reg.FAB.RT_SUPCNT]; omega), hwidth]
  obtain ⟨c, hc, hcode, hpeer, -⟩ := complete_first i 20 old.flags old s.timeNs htcq
  have htcq' : (s.superseded i old).fab.tcq = [c] := by rw [superseded, ((RegsOnly.refl _).bump _ _).fab, hc]
  unfold pendTake
  dsimp only
  rw [hold]
  dsimp only
  generalize s.superseded i old = u at *
  refine ⟨?_, ?_⟩
  · rw [putSlots_fab, withSlots_tcq, htcq', List.map_cons, List.map_nil, hcode, hpeer]
  · rw [get_putSlots_other _ u (by simp only [Reg.FAB.RT_SUPCNT]; omega) (by simp only [Reg.FAB.RT_SUPCNT]; omega), hsup]
    intro q hq
    refine apart_of_addr ?_
    simp only [List.mem_cons, List.not_mem_nil, or_false] at hq
    rcases hq with rfl | rfl | rfl | rfl | rfl <;>
      simp only [Reg.FAB.RT_SUPCNT, Reg.FAB.RT_PEND, Reg.FAB.RT_PENDV, Reg.FAB.RT_PNOSRC, Reg.FAB.RT_LATSRC, Reg.FAB.RT_LATV] <;> omega

/-- The code of a TAKE under R120. -/
abbrev takeCode (peer : Nat) (s : State) : Nat :=
  s.judgeTake (s.takeArg 0) (s.takeArg 1) (s.takeArg 5) peer (bit (s.takeArg 4) 0)

theorem Posed.takeCode (h : Posed s w) (peer : Nat) : w.takeCode peer = s.takeCode peer := by
  rw [State.takeCode, State.takeCode, h.judgeTake, h.takeArg (by decide), h.takeArg (by decide), h.takeArg (by decide), h.takeArg (by decide)]

theorem opTake_immediate (hcode : s.takeCode peer = 0) (hin : ¬(s.takeInstant ≠ 0 ∧ s.timeNs < s.takeInstant)) :
    s.opTake peer = ((s.pendTake (handleIdx (s.takeArg 0)) ⟨s.takeSrc, s.timeNs, peer, 0,
      if s.takeInstant = 0 then 0 else 16⟩).set Reg.FAB.TAKEID 0).takeResult 0 0 := by
  unfold takeCode at hcode
  unfold opTake
  dsimp only
  rw [hcode, staleIf_zero, if_neg (by decide), if_neg hin]

/-- A take of a coming instant, with a free entry. -/
def schedTake (peer k : Nat) (s : State) : SchedTake :=
  { out := handleIdx (s.takeArg 0), instant := s.takeInstant, stepped := false, latched := false,
    take := { src := s.takeSrc, accepted := s.timeNs, peer := peer, ref := s.schedId k, flags := 0 } }

theorem opTake_scheduled {k : Nat} (hcode : s.takeCode peer = 0) (hin : s.takeInstant ≠ 0 ∧ s.timeNs < s.takeInstant)
    (hk : (List.range 4096).find? (fun j => Assoc.find s.fab.sched j == none) = some k) :
    s.opTake peer = ((((s.updFab fun x => { x with sched := Assoc.put x.sched k (s.schedTake peer k) }).showSched).chkinvStruckAt 4 k).set
      Reg.FAB.TAKEID (s.schedId k)).takeResult 0 0 := by
  unfold takeCode at hcode
  unfold opTake
  dsimp only
  rw [hcode, staleIf_zero, if_neg (by decide), if_pos hin, hk]
  rfl

theorem opTake_full (hcode : s.takeCode peer = 0) (hin : s.takeInstant ≠ 0 ∧ s.timeNs < s.takeInstant)
    (hk : (List.range 4096).find? (fun j => Assoc.find s.fab.sched j == none) = none) :
    s.opTake peer = (s.raise 997 [s.takeArg 0]).takeResult 5 0 := by
  unfold takeCode at hcode
  unfold opTake
  dsimp only
  rw [hcode, staleIf_zero, if_neg (by decide), if_pos hin, hk]

theorem opTake_refused (hcode : s.takeCode peer ≠ 0) :
    s.opTake peer = (s.staleIf (s.takeCode peer) (s.reqSession peer) (s.takeArg 0)).takeResult (s.takeCode peer) 0 := by
  unfold opTake
  exact if_pos hcode

end
section
variable {i k code peer : Nat} {lock : Bool} {s w t : State}

/-! ### CANCEL -/

theorem freeSched_fab (k : Nat) (s : State) : (s.freeSched k).fab =
    { s.fab with sched := Assoc.del s.fab.sched k, schedUse := Assoc.put s.fab.schedUse k ((s.schedUseOf k + 1) % 16) } := by
  unfold freeSched
  rw [(struck_chkinvStruckAt _ _ _).fab]
  rfl

theorem routesKept_freeSched (k : Nat) (s : State) : RoutesKept s (s.freeSched k) := by
  unfold freeSched showSched
  refine RoutesKept.trans ?_ (RoutesKept.of_regsKept (struck_chkinvStruckAt _ _ _).regs (by decide))
  exact RoutesKept.set ((RoutesKept.refl s).same rfl) _ (by decide)

theorem opCancel_done {x : SchedTake} (hx : Assoc.find s.fab.sched (s.takeArg 0 % 65536 % 4096) = some x)
    (hid : s.schedId (s.takeArg 0 % 65536 % 4096) = s.takeArg 0 % 65536) (hlat : x.latched = false) :
    ∃ v, Struck s v ∧ s.opCancel = ((v.complete x.out 19 x.take.flags x.take v.timeNs).freeSched (s.takeArg 0 % 65536 % 4096)).takeResult 0 0 := by
  have hread := struck_tableRead (mem := 4) (by decide) (s.takeArg 0 % 65536 % 4096) s
  have hid' : (s.tableRead 4 (s.takeArg 0 % 65536 % 4096)).schedId (s.takeArg 0 % 65536 % 4096) = s.takeArg 0 % 65536 := by
    rw [schedId, schedUseOf, hread.fab]
    exact hid
  refine ⟨_, hread, ?_⟩
  unfold opCancel
  dsimp only
  rw [hread.fab, hx]
  exact if_pos ⟨hid', by simp [hlat]⟩

theorem opCancel_refused (hclean : s.prov.inverted = [])
    (h : (Assoc.find s.fab.sched (s.takeArg 0 % 65536 % 4096)).all
      (fun x => x.latched || s.schedId (s.takeArg 0 % 65536 % 4096) != s.takeArg 0 % 65536) = true) :
    s.opCancel = s.takeResult 11 0 := by
  unfold opCancel
  dsimp only
  rw [tableRead_clean _ _ hclean]
  cases hx : Assoc.find s.fab.sched (s.takeArg 0 % 65536 % 4096) with
  | none => rfl
  | some x =>
    rw [hx] at h
    refine if_neg ?_
    simp only [Option.all_some, Bool.or_eq_true, bne_iff_ne, ne_eq] at h
    rintro ⟨h1, h2⟩
    rcases h with h | h
    · simp [h] at h2
    · exact h h1

/-! ### Locks and protections -/

/-- The fields of a route record that tell its lock, its protection and their owner. -/
def lockFields (i : Nat) : List FRef := [Reg.FAB.RT_LOCK i, Reg.FAB.RT_PROTECT i, Reg.FAB.RT_OWNER i]

theorem lockFields_route {r : FRef} (hi : i < 16384) (hr : r ∈ lockFields i) : 0x14080000 ≤ r.addr ∧ r.addr < 0x14100000 := by
  simp only [lockFields, List.mem_cons, List.not_mem_nil, or_false] at hr
  rcases hr with rfl | rfl | rfl <;> simp only [Reg.FAB.RT_LOCK, Reg.FAB.RT_PROTECT, Reg.FAB.RT_OWNER] <;> omega

theorem lockFields_slots {r : FRef} (hr : r ∈ lockFields i) :
    ∀ q ∈ [Reg.FAB.RT_PEND i, Reg.FAB.RT_PENDV i, Reg.FAB.RT_PNOSRC i, Reg.FAB.RT_LATSRC i, Reg.FAB.RT_LATV i], r.apart q = true := by
  intro q hq
  rw [FRef.apart_iff]
  simp only [lockFields, List.mem_cons, List.not_mem_nil, or_false] at hr hq
  rcases hr with rfl | rfl | rfl <;> rcases hq with rfl | rfl | rfl | rfl | rfl <;>
    simp [Reg.FAB.RT_LOCK, Reg.FAB.RT_PROTECT, Reg.FAB.RT_OWNER, Reg.FAB.RT_PEND, Reg.FAB.RT_PENDV, Reg.FAB.RT_PNOSRC,
      Reg.FAB.RT_LATSRC, Reg.FAB.RT_LATV]

/-- A new state of an output cancels takes of it, and touches neither its lock, its protection nor their owner. -/
theorem cancelRefused_keeps {r : FRef} (hi : i < 16384) (hr : r ∈ lockFields i) (refuses : TakeRec → Bool) (s : State) :
    (s.cancelRefused i code refuses).get r = s.get r := by
  obtain ⟨h1, h2⟩ := lockFields_route hi hr
  unfold cancelRefused
  dsimp only
  refine (each_keeps _ (fun u => u.get r) _ _ fun p u => ?_).trans ?_
  · exact ((completed_complete _ _ _ _ _ _).routes.trans (routesKept_freeSched _ _)).get h1 h2
  · split
    · split
      · rw [get_putSlots_other _ _ h1 h2 (lockFields_slots hr)]
        exact (completed_complete _ _ _ _ _ _).routes.get h1 h2
      · rfl
    · rfl

/-- LOCK leaves no take pending. -/
theorem cancelRefused_pend (i code : Nat) (s : State) : ((s.cancelRefused i code fun _ => true).outTakes i).pend = none := by
  unfold cancelRefused
  dsimp only
  rw [outTakes_congr (each_keeps _ (fun u => u.fab.outs) _ _ fun p u => ?_)]
  · split
    · rw [if_pos rfl, outTakes_putSlots]
    · next h => exact h
  · rw [freeSched_fab]
    exact (completed_complete _ _ _ _ _ _).outs

theorem Posed.lockTarget (h : Posed s w) : w.lockTarget = s.lockTarget := by
  unfold State.lockTarget
  dsimp only
  rw [h.takeEpochOk, h.takeArg (by decide), h.judgeHandle]

theorem Posed.lockHeld (h : Posed s w) (i peer : Nat) : w.lockHeld i peer = s.lockHeld i peer := by
  unfold State.lockHeld State.flag
  rw [h.get_past (r := Reg.FAB.RT_LOCK _) (by simp only [Reg.FAB.RT_LOCK]; omega),
    h.get_past (r := Reg.FAB.RT_PROTECT _) (by simp only [Reg.FAB.RT_PROTECT]; omega),
    h.get_past (r := Reg.FAB.RT_OWNER _) (by simp only [Reg.FAB.RT_OWNER]; omega)]

theorem Posed.salvoHolds (h : Posed s w) (i peer : Nat) : w.salvoHolds i peer = s.salvoHolds i peer := by
  rw [State.salvoHolds, State.salvoHolds, h.fab]

/-- The code of LOCK and of PROTECT. -/
def applyCode (i peer : Nat) (s : State) : Nat :=
  if s.lockTarget ≠ 0 then s.lockTarget else if s.lockHeld i peer ≠ 0 then s.lockHeld i peer else if s.salvoHolds i peer then 13 else 0

/-- The field that LOCK or PROTECT marks. -/
abbrev lockField (lock : Bool) (i : Nat) : FRef := if lock then Reg.FAB.RT_LOCK i else Reg.FAB.RT_PROTECT i

theorem opApply_refused (hc : s.applyCode (handleIdx (s.takeArg 0)) peer ≠ 0) :
    ∃ v, Noted s v ∧ s.opApply lock peer = v.takeResult (s.applyCode (handleIdx (s.takeArg 0)) peer) 0 := by
  by_cases ht : s.lockTarget = 0
  · refine ⟨s, ⟨RegsOnly.refl s, RegsKept.refl _ s⟩, ?_⟩
    by_cases hh : s.lockHeld (handleIdx (s.takeArg 0)) peer = 0
    · have hs : s.salvoHolds (handleIdx (s.takeArg 0)) peer = true := by
        by_contra hs
        refine hc ?_
        rw [applyCode, ht, hh, if_neg (by decide), if_neg (by decide), if_neg hs]
      have hcode : s.applyCode (handleIdx (s.takeArg 0)) peer = 13 := by
        rw [applyCode, ht, hh, hs]
        rfl
      rw [hcode]
      unfold opApply
      dsimp only
      rw [ht, staleIf_zero, if_neg (by decide), hh, if_neg (by decide), hs]
      rfl
    · have hcode : s.applyCode (handleIdx (s.takeArg 0)) peer = s.lockHeld (handleIdx (s.takeArg 0)) peer := by
        rw [applyCode, ht, if_neg (by decide), if_pos hh]
      rw [hcode]
      unfold opApply
      dsimp only
      rw [ht, staleIf_zero, if_neg (by decide), if_pos hh]
  · have hcode : s.applyCode (handleIdx (s.takeArg 0)) peer = s.lockTarget := if_pos ht
    rw [hcode]
    exact ⟨_, noted_staleIf _ _ _ _, if_pos ht⟩

/-- What LOCK or PROTECT marks before takes of the output are cancelled. -/
def applied (lock : Bool) (i peer : Nat) (s : State) : State :=
  ((s.set (lockField lock i) 1).set (Reg.FAB.RT_OWNER i) peer).chkinvStruckAt 2 i

theorem opApply_done (hc : s.applyCode (handleIdx (s.takeArg 0)) peer = 0) : s.opApply lock peer =
    (if lock then (s.applied lock (handleIdx (s.takeArg 0)) peer).cancelRefused (handleIdx (s.takeArg 0)) 22 (fun _ => true)
      else (s.applied lock (handleIdx (s.takeArg 0)) peer).cancelRefused (handleIdx (s.takeArg 0)) 23 (fun t => t.peer != peer)).takeResult 0 0 := by
  unfold applyCode at hc
  have ht : s.lockTarget = 0 := by
    by_contra h
    exact h ((if_pos h).symm.trans hc)
  rw [ht, if_neg (by decide)] at hc
  have hh : s.lockHeld (handleIdx (s.takeArg 0)) peer = 0 := by
    by_contra h
    exact h ((if_pos h).symm.trans hc)
  rw [hh, if_neg (by decide)] at hc
  have hs : s.salvoHolds (handleIdx (s.takeArg 0)) peer = false := by
    cases h : s.salvoHolds (handleIdx (s.takeArg 0)) peer
    · rfl
    · rw [h] at hc
      cases hc
  unfold opApply applied
  dsimp only
  rw [ht, staleIf_zero, if_neg (by decide), hh, if_neg (by decide), hs, if_neg (by decide)]

/-- The marks that LOCK or PROTECT leaves. -/
theorem applied_shows (hi : i < 16384) (hp : peer < 256) (s : State) :
    (s.applied lock i peer).get (lockField lock i) = 1 ∧ (s.applied lock i peer).get (Reg.FAB.RT_OWNER i) = peer ∧
      (s.applied lock i peer).get (lockField (!lock) i) = s.get (lockField (!lock) i) := by
  have hstruck (r : FRef) (hr : r ∈ lockFields i) : (s.applied lock i peer).get r =
      ((s.set (lockField lock i) 1).set (Reg.FAB.RT_OWNER i) peer).get r := by
    obtain ⟨h1, h2⟩ := lockFields_route hi hr
    exact (RoutesKept.of_regsKept (struck_chkinvStruckAt _ _ _).regs (by decide)).get h1 h2
  have howner : (s.applied lock i peer).get (Reg.FAB.RT_OWNER i) = peer := by
    rw [hstruck _ (by simp [lockFields]), get_set_same _ _ (by decide : 23 < 32)]
    exact Nat.mod_eq_of_lt hp
  refine ⟨?_, howner, ?_⟩
  · cases lock
    · rw [hstruck _ (by simp [lockFields]), get_set_other _ _ (FRef.apart_iff.mpr (by simp [lockField, Reg.FAB.RT_PROTECT, Reg.FAB.RT_OWNER])) (by decide : 23 < 32)]
      exact get_set_same _ _ (by decide : 27 < 32)
    · rw [hstruck _ (by simp [lockFields]), get_set_other _ _ (FRef.apart_iff.mpr (by simp [lockField, Reg.FAB.RT_LOCK, Reg.FAB.RT_OWNER])) (by decide : 23 < 32)]
      exact get_set_same _ _ (by decide : 28 < 32)
  · cases lock
    · rw [hstruck _ (by simp [lockFields]), get_set_other _ _ (FRef.apart_iff.mpr (by simp [lockField, Reg.FAB.RT_LOCK, Reg.FAB.RT_OWNER])) (by decide : 23 < 32)]
      exact get_set_other _ _ (FRef.apart_iff.mpr (by simp [lockField, Reg.FAB.RT_LOCK, Reg.FAB.RT_PROTECT])) (by decide : 27 < 32)
    · rw [hstruck _ (by simp [lockFields]), get_set_other _ _ (FRef.apart_iff.mpr (by simp [lockField, Reg.FAB.RT_PROTECT, Reg.FAB.RT_OWNER])) (by decide : 23 < 32)]
      exact get_set_other _ _ (FRef.apart_iff.mpr (by simp [lockField, Reg.FAB.RT_LOCK, Reg.FAB.RT_PROTECT])) (by decide : 28 < 32)

/-- The code of UNLOCK and of UNPROTECT. -/
def removeCode (lock : Bool) (i peer : Nat) (s : State) : Nat :=
  if s.lockTarget ≠ 0 then s.lockTarget else if s.get (lockField lock i) = 1 ∧ s.get (Reg.FAB.RT_OWNER i) ≠ peer then
    (if lock then 22 else 23) else 0

theorem flag_lockField (lock : Bool) (i : Nat) (s : State) : s.flag (lockField lock i) = true ↔ s.get (lockField lock i) = 1 := by
  have hlt : s.get (lockField lock i) < 2 := by cases lock <;> exact s.get_lt _
  rw [flag_eq_true]
  omega

theorem opRemove_refused (hc : s.removeCode lock (handleIdx (s.takeArg 0)) peer ≠ 0) :
    ∃ v, Noted s v ∧ s.opRemove lock peer = v.takeResult (s.removeCode lock (handleIdx (s.takeArg 0)) peer) 0 := by
  by_cases ht : s.lockTarget = 0
  · have hh : s.get (lockField lock (handleIdx (s.takeArg 0))) = 1 ∧ s.get (Reg.FAB.RT_OWNER (handleIdx (s.takeArg 0))) ≠ peer := by
      by_contra hh
      refine hc ?_
      rw [removeCode, ht, if_neg (by decide), if_neg hh]
    have hcode : s.removeCode lock (handleIdx (s.takeArg 0)) peer = if lock then 22 else 23 := by
      rw [removeCode, ht, if_neg (by decide), if_pos hh]
    refine ⟨s, ⟨RegsOnly.refl s, RegsKept.refl _ s⟩, ?_⟩
    rw [hcode]
    unfold opRemove
    dsimp only
    rw [ht, staleIf_zero, if_neg (by decide), if_pos ⟨(flag_lockField lock _ s).mpr hh.1, hh.2⟩]
  · have hcode : s.removeCode lock (handleIdx (s.takeArg 0)) peer = s.lockTarget := if_pos ht
    rw [hcode]
    exact ⟨_, noted_staleIf _ _ _ _, if_pos ht⟩

/-- The mark of an output taken away. -/
def removed (lock : Bool) (i : Nat) (s : State) : State := (s.set (lockField lock i) 0).chkinvStruckAt 2 i

theorem opRemove_done (hc : s.removeCode lock (handleIdx (s.takeArg 0)) peer = 0) : s.opRemove lock peer =
    ((s.removed lock (handleIdx (s.takeArg 0))).when
      (!(s.removed lock (handleIdx (s.takeArg 0))).flag (Reg.FAB.RT_LOCK (handleIdx (s.takeArg 0))) &&
        !(s.removed lock (handleIdx (s.takeArg 0))).flag (Reg.FAB.RT_PROTECT (handleIdx (s.takeArg 0))))
      (State.set (Reg.FAB.RT_OWNER (handleIdx (s.takeArg 0))) 0)).takeResult 0 0 := by
  unfold removeCode at hc
  have ht : s.lockTarget = 0 := by
    by_contra h
    exact h ((if_pos h).symm.trans hc)
  rw [ht, if_neg (by decide)] at hc
  have hh : ¬(s.get (lockField lock (handleIdx (s.takeArg 0))) = 1 ∧ s.get (Reg.FAB.RT_OWNER (handleIdx (s.takeArg 0))) ≠ peer) := by
    intro h
    rw [if_pos h] at hc
    cases lock <;> cases hc
  unfold opRemove removed
  dsimp only
  rw [ht, staleIf_zero, if_neg (by decide), if_neg fun h => hh ⟨(flag_lockField lock _ s).mp h.1, h.2⟩]

end
/-- What UNLOCK or UNPROTECT leaves of the mark and of the other. -/
theorem removed_shows {lock : Bool} {i : Nat} (hi : i < 16384) (s : State) : (s.removed lock i).get (lockField lock i) = 0 ∧
    (s.removed lock i).get (lockField (!lock) i) = s.get (lockField (!lock) i) := by
  have hstruck (r : FRef) (hr : r ∈ lockFields i) : (s.removed lock i).get r = (s.set (lockField lock i) 0).get r := by
    obtain ⟨h1, h2⟩ := lockFields_route hi hr
    exact (RoutesKept.of_regsKept (struck_chkinvStruckAt _ _ _).regs (by decide)).get h1 h2
  refine ⟨?_, ?_⟩
  · rw [hstruck _ (by cases lock <;> simp [lockFields])]
    cases lock
    · exact get_set_same _ _ (by decide : 27 < 32)
    · exact get_set_same _ _ (by decide : 28 < 32)
  · rw [hstruck _ (by cases lock <;> simp [lockFields])]
    cases lock
    · exact get_set_other _ _ (FRef.apart_iff.mpr (by simp [lockField, Reg.FAB.RT_LOCK, Reg.FAB.RT_PROTECT])) (by decide : 27 < 32)
    · exact get_set_other _ _ (FRef.apart_iff.mpr (by simp [lockField, Reg.FAB.RT_LOCK, Reg.FAB.RT_PROTECT])) (by decide : 28 < 32)

/-- The owner goes with the last mark. -/
theorem ownerCleared_shows {i : Nat} (v : State) :
    (v.get (Reg.FAB.RT_LOCK i) = 0 → v.get (Reg.FAB.RT_PROTECT i) = 0 → (v.when (!v.flag (Reg.FAB.RT_LOCK i) && !v.flag (Reg.FAB.RT_PROTECT i))
      (State.set (Reg.FAB.RT_OWNER i) 0)).get (Reg.FAB.RT_OWNER i) = 0) ∧
    ∀ lock, (v.when (!v.flag (Reg.FAB.RT_LOCK i) && !v.flag (Reg.FAB.RT_PROTECT i)) (State.set (Reg.FAB.RT_OWNER i) 0)).get (lockField lock i) =
      v.get (lockField lock i) := by
  refine ⟨fun hl hp => ?_, fun lock => ?_⟩
  · rw [flag_eq_false.mpr hl, flag_eq_false.mpr hp]
    exact get_set_same _ _ (by decide : 23 < 32)
  · refine when_keeps v (fun u => u.get (lockField lock i)) _ _ ?_
    cases lock
    · exact get_set_other _ _ (FRef.apart_iff.mpr (by simp [lockField, Reg.FAB.RT_PROTECT, Reg.FAB.RT_OWNER])) (by decide : 23 < 32)
    · exact get_set_other _ _ (FRef.apart_iff.mpr (by simp [lockField, Reg.FAB.RT_LOCK, Reg.FAB.RT_OWNER])) (by decide : 23 < 32)

theorem Finished.lockField {v t : State} {i : Nat} (h : Finished (v.takeResult 0 0) t) (hi : i < 16384) {r : FRef} (hr : r ∈ lockFields i) :
    t.get r = v.get r := by
  obtain ⟨h1, h2⟩ := lockFields_route hi hr
  exact h.routes_result.get h1 h2

theorem Posed.lockField {s w : State} {i : Nat} (h : Posed s w) (hi : i < 16384) {r : FRef} (hr : r ∈ lockFields i) : w.get r = s.get r := by
  obtain ⟨h1, h2⟩ := lockFields_route hi hr
  exact h.routes.get h1 h2

theorem lockField_mem (lock : Bool) (i : Nat) : lockField lock i ∈ lockFields i := by cases lock <;> simp [lockFields]

theorem owner_mem (i : Nat) : Reg.FAB.RT_OWNER i ∈ lockFields i := by simp [lockFields]

theorem Posed.applyCode {s w : State} (h : Posed s w) (i peer : Nat) : w.applyCode i peer = s.applyCode i peer := by
  rw [State.applyCode, State.applyCode, h.lockTarget, h.lockHeld, h.salvoHolds]

theorem Posed.removeCode {s w : State} {lock : Bool} {i : Nat} (h : Posed s w) (hi : i < 16384) (peer : Nat) :
    w.removeCode lock i peer = s.removeCode lock i peer := by
  rw [State.removeCode, State.removeCode, h.lockTarget, h.lockField hi (lockField_mem lock i), h.lockField hi (owner_mem i)]

section
variable {m peer op : Nat} {s : State} {c : Instr} {lock : Bool}

/-- LOCK and PROTECT. -/
theorem exec_apply (hc : exec c s = .next (s.writeNow m Reg.FAB.TAKECMD_OP.addr (takeCmdWord peer op))) (hop : op < 16)
    (hto : ∀ w : State, w.takeOp op peer = w.opApply lock peer) (hq : Quiet m s) (hp : peer < 256)
    (hbusy : s.get Reg.FAB.TESTAT_BUSY = 0) (hen : s.get Reg.FAB.CTRL_EN = 1) (hcode : s.applyCode (handleIdx (s.takeArg 0)) peer = 0) :
    ∃ t, exec c s = .next t ∧ t.get Reg.FAB.TESTAT_BUSY = 1 ∧ t.get Reg.FAB.TAKERES_CODE = 0 ∧
      t.get (lockField lock (handleIdx (s.takeArg 0))) = 1 ∧ t.get (Reg.FAB.RT_OWNER (handleIdx (s.takeArg 0))) = peer ∧
      t.get (lockField (!lock) (handleIdx (s.takeArg 0))) = s.get (lockField (!lock) (handleIdx (s.takeArg 0))) ∧
      (lock = true → (t.outTakes (handleIdx (s.takeArg 0))).pend = none) := by
  obtain ⟨w, t, hw, ht, hf⟩ := exec_takeCmd_on hc hop hq hp hbusy hen
  have hi := handleIdx_lt (s.takeArg 0)
  have harg := hw.takeArg (j := 0) (by decide)
  rw [hto, opApply_done (by rw [harg, hw.applyCode, hcode]), harg] at hf
  obtain ⟨hmark, howner, hother⟩ := applied_shows (lock := lock) hi hp w
  rw [hw.lockField hi (lockField_mem _ _)] at hother
  generalize hv : w.applied lock (handleIdx (s.takeArg 0)) peer = v at *
  have hkeep {r : FRef} (hr : r ∈ lockFields (handleIdx (s.takeArg 0))) : t.get r = v.get r := by
    rw [hf.lockField hi hr]
    split
    · exact cancelRefused_keeps hi hr _ _
    · exact cancelRefused_keeps hi hr _ _
  refine ⟨t, ht, hf.busy, hf.result_code, (hkeep (lockField_mem _ _)).trans hmark, (hkeep (owner_mem _)).trans howner,
    (hkeep (lockField_mem _ _)).trans hother, fun hl => ?_⟩
  rw [outTakes_congr (congrArg FabState.outs hf.fab_result), if_pos hl]
  exact cancelRefused_pend _ _ _

/-- UNLOCK and UNPROTECT. -/
theorem exec_remove (hc : exec c s = .next (s.writeNow m Reg.FAB.TAKECMD_OP.addr (takeCmdWord peer op))) (hop : op < 16)
    (hto : ∀ w : State, w.takeOp op peer = w.opRemove lock peer) (hq : Quiet m s) (hp : peer < 256)
    (hbusy : s.get Reg.FAB.TESTAT_BUSY = 0) (hen : s.get Reg.FAB.CTRL_EN = 1) (hcode : s.removeCode lock (handleIdx (s.takeArg 0)) peer = 0) :
    ∃ t, exec c s = .next t ∧ t.get Reg.FAB.TESTAT_BUSY = 1 ∧ t.get Reg.FAB.TAKERES_CODE = 0 ∧
      t.get (lockField lock (handleIdx (s.takeArg 0))) = 0 ∧
      (s.get (lockField (!lock) (handleIdx (s.takeArg 0))) = 0 → t.get (Reg.FAB.RT_OWNER (handleIdx (s.takeArg 0))) = 0) ∧
      t.get (lockField (!lock) (handleIdx (s.takeArg 0))) = s.get (lockField (!lock) (handleIdx (s.takeArg 0))) := by
  obtain ⟨w, t, hw, ht, hf⟩ := exec_takeCmd_on hc hop hq hp hbusy hen
  have hi := handleIdx_lt (s.takeArg 0)
  have harg := hw.takeArg (j := 0) (by decide)
  rw [hto, opRemove_done (by rw [harg, hw.removeCode hi, hcode]), harg] at hf
  obtain ⟨hmark, hother⟩ := removed_shows (lock := lock) hi w
  rw [hw.lockField hi (lockField_mem _ _)] at hother
  generalize w.removed lock (handleIdx (s.takeArg 0)) = v at *
  obtain ⟨howner, hkeep⟩ := ownerCleared_shows (i := handleIdx (s.takeArg 0)) v
  refine ⟨t, ht, hf.busy, hf.result_code, ?_, fun h0 => ?_, ?_⟩
  · rw [hf.lockField hi (lockField_mem _ _), hkeep, hmark]
  · rw [hf.lockField hi (owner_mem _)]
    rw [h0] at hother
    cases lock
    · exact howner hother hmark
    · exact howner hmark hother
  · rw [hf.lockField hi (lockField_mem _ _), hkeep, hother]

/-- A request refused with its code. -/
theorem exec_refused {code : Nat} (hc : exec c s = .next (s.writeNow m Reg.FAB.TAKECMD_OP.addr (takeCmdWord peer op))) (hop : op < 16)
    (hto : ∀ w, Posed s w → ∃ v, Noted w v ∧ w.takeOp op peer = v.takeResult code 0) (hq : Quiet m s) (hp : peer < 256)
    (hbusy : s.get Reg.FAB.TESTAT_BUSY = 0) (hen : s.get Reg.FAB.CTRL_EN = 1) :
    ∃ t, exec c s = .next t ∧ t.get Reg.FAB.TESTAT_BUSY = 1 ∧ t.get Reg.FAB.TAKERES_CODE = code % 32 ∧ t.fab = s.fab ∧ RoutesKept s t := by
  obtain ⟨w, t, hw, ht, hf⟩ := exec_takeCmd_on hc hop hq hp hbusy hen
  obtain ⟨v, hv, hto⟩ := hto w hw
  rw [hto] at hf
  obtain ⟨hcode, hfab, hroutes⟩ := hf.refused hw hv
  exact ⟨t, ht, hf.busy, hcode, hfab, hroutes⟩

/-- The record of a route is refused a change. -/
theorem rd_route {t : State} (h : RoutesKept s t) (x : Nat) : t.rd (Reg.FAB.RT_LOCK (handleIdx x)).addr = s.rd (Reg.FAB.RT_LOCK (handleIdx x)).addr := by
  obtain ⟨h1, h2⟩ := lockFields_route (handleIdx_lt x) (lockField_mem true (handleIdx x))
  exact h _ h1 h2

theorem exec_apply_refused {i code : Nat} (hc : exec c s = .next (s.writeNow m Reg.FAB.TAKECMD_OP.addr (takeCmdWord peer op))) (hop : op < 16)
    (hto : ∀ w : State, w.takeOp op peer = w.opApply lock peer) (hq : Quiet m s) (hp : peer < 256)
    (hbusy : s.get Reg.FAB.TESTAT_BUSY = 0) (hen : s.get Reg.FAB.CTRL_EN = 1) (hi : i = handleIdx (s.takeArg 0))
    (hcode : code = s.applyCode i peer) (h0 : code ≠ 0) :
    ∃ t, exec c s = .next t ∧ t.get Reg.FAB.TESTAT_BUSY = 1 ∧ t.get Reg.FAB.TAKERES_CODE = code % 32 ∧ t.fab = s.fab ∧
      t.rd (Reg.FAB.RT_LOCK i).addr = s.rd (Reg.FAB.RT_LOCK i).addr := by
  subst hi
  obtain ⟨t, ht, hb, hr, hfab, hroutes⟩ := exec_refused (code := code) hc hop (fun w hw => by
    have hw' : w.applyCode (handleIdx (w.takeArg 0)) peer = code := by rw [hw.takeArg (by decide), hw.applyCode, hcode]
    obtain ⟨v, hv, hop⟩ := opApply_refused (lock := lock) (s := w) (peer := peer) (by rw [hw']; exact h0)
    exact ⟨v, hv, by rw [hto, hop, hw']⟩) hq hp hbusy hen
  exact ⟨t, ht, hb, hr, hfab, rd_route hroutes _⟩

theorem exec_remove_refused {i code : Nat} (hc : exec c s = .next (s.writeNow m Reg.FAB.TAKECMD_OP.addr (takeCmdWord peer op))) (hop : op < 16)
    (hto : ∀ w : State, w.takeOp op peer = w.opRemove lock peer) (hq : Quiet m s) (hp : peer < 256)
    (hbusy : s.get Reg.FAB.TESTAT_BUSY = 0) (hen : s.get Reg.FAB.CTRL_EN = 1) (hi : i = handleIdx (s.takeArg 0))
    (hcode : code = s.removeCode lock i peer) (h0 : code ≠ 0) :
    ∃ t, exec c s = .next t ∧ t.get Reg.FAB.TESTAT_BUSY = 1 ∧ t.get Reg.FAB.TAKERES_CODE = code % 32 ∧ t.fab = s.fab ∧
      t.rd (Reg.FAB.RT_LOCK i).addr = s.rd (Reg.FAB.RT_LOCK i).addr := by
  subst hi
  obtain ⟨t, ht, hb, hr, hfab, hroutes⟩ := exec_refused (code := code) hc hop (fun w hw => by
    have hw' : w.removeCode lock (handleIdx (w.takeArg 0)) peer = code := by
      rw [hw.takeArg (by decide), hw.removeCode (handleIdx_lt _), hcode]
    obtain ⟨v, hv, hop⟩ := opRemove_refused (lock := lock) (s := w) (peer := peer) (by rw [hw']; exact h0)
    exact ⟨v, hv, by rw [hto, hop, hw']⟩) hq hp hbusy hen
  exact ⟨t, ht, hb, hr, hfab, rd_route hroutes _⟩

end

end State

open State in
/-- Settles O18: the mailbox takes a request on a state that is the one before it (`Posed`), and each operation is followed there. -/
theorem takesAndLocks : Obligations.TakesAndLocks := by
  unfold Obligations.TakesAndLocks
  refine ⟨?now, ?supersedes, ?coming, ?full, ?refused, ?busy, ?off, ?locked, ?cancel, ?noCancel, ?lock, ?protect, ?unlock, ?unprotect,
    ?noLock, ?noProtect, ?noUnlock, ?noUnprotect⟩
  case now =>
    intro s m peer i hq hp hbusy hen hcode hin hi
    subst hi
    obtain ⟨w, t, hw, ht, hf⟩ := exec_takeCmd_on (c := .take m peer) (op := 1) rfl (by decide) hq hp hbusy hen
    have hto : w.takeOp 1 peer = w.opTake peer := rfl
    rw [hto, opTake_immediate ((hw.takeCode peer).trans hcode) (by rw [hw.takeInstant, hw.timeNs]; omega), hw.takeArg (by decide), hw.takeSrc,
      hw.timeNs, hw.takeInstant] at hf
    have hi := handleIdx_lt (s.takeArg 0)
    generalize hx : (⟨s.takeSrc, s.timeNs, peer, 0, if s.takeInstant = 0 then 0 else 16⟩ : TakeRec) = x at hf
    obtain ⟨hpend, hpendV, hsrc, hcur⟩ := pendTake_shows hi x w
    generalize w.pendTake (handleIdx (s.takeArg 0)) x = v at *
    have hroute {r : FRef} (h1 : 0x14080000 ≤ r.addr) (h2 : r.addr < 0x14100000) : t.get r = v.get r :=
      (((RoutesKept.refl v).set _ (by decide)).trans hf.routes_result).get h1 h2
    refine ⟨t, ht, hf.busy, hf.result_code, ?_, ?_, ?_, ?_, ?_⟩
    · rw [outTakes_congr (s := v) (by rw [hf.fab_result]; rfl), hpend]
    · rw [hroute (by simp only [Reg.FAB.RT_PENDV]; omega) (by simp only [Reg.FAB.RT_PENDV]; omega), hpendV]
    · rw [hroute (by simp only [Reg.FAB.RT_PEND]; omega) (by simp only [Reg.FAB.RT_PEND]; omega), hsrc, ← hx]
      exact Nat.mod_eq_of_lt s.takeSrc_lt
    · rw [hroute (by simp only [Reg.FAB.RT_CUR]; omega) (by simp only [Reg.FAB.RT_CUR]; omega), hcur]
      exact hw.routes.get (by simp only [Reg.FAB.RT_CUR]; omega) (by simp only [Reg.FAB.RT_CUR]; omega)
    · rw [hf.get _ (by decide) (by decide) (by decide), get_takeResult _ _ _ (by decide), get_set_same _ _ (by decide : 15 < 32)]
      rfl
  case supersedes =>
    intro s m peer i old hq hp hbusy hen hcode hin hi hold htcq
    subst hi
    obtain ⟨w, t, hw, ht, hf⟩ := exec_takeCmd_on (c := .take m peer) (op := 1) rfl (by decide) hq hp hbusy hen
    have hto : w.takeOp 1 peer = w.opTake peer := rfl
    rw [hto, opTake_immediate ((hw.takeCode peer).trans hcode) (by rw [hw.takeInstant, hw.timeNs]; omega), hw.takeArg (by decide)] at hf
    have hi := handleIdx_lt (s.takeArg 0)
    generalize (⟨w.takeSrc, w.timeNs, peer, 0, if w.takeInstant = 0 then 0 else 16⟩ : TakeRec) = x at hf
    obtain ⟨hq', hsup⟩ := pendTake_supersedes hi x (by rw [outTakes_congr (s := s) (t := w) (by rw [hw.fab])]; exact hold) (by rw [hw.fab]; exact htcq)
    generalize w.pendTake (handleIdx (s.takeArg 0)) x = v at *
    refine ⟨t, ht, hf.busy, hf.result_code, ?_, ?_⟩
    · rw [hf.fab_result]
      exact hq'
    · rw [(((RoutesKept.refl v).set _ (by decide)).trans hf.routes_result).get (by simp only [Reg.FAB.RT_SUPCNT]; omega)
        (by simp only [Reg.FAB.RT_SUPCNT]; omega), hsup,
        hw.routes.get (by simp only [Reg.FAB.RT_SUPCNT]; omega) (by simp only [Reg.FAB.RT_SUPCNT]; omega)]
  case coming =>
    intro s m peer k hq hp hbusy hen hcode hin hk
    obtain ⟨w, t, hw, ht, hf⟩ := exec_takeCmd_on (c := .take m peer) (op := 1) rfl (by decide) hq hp hbusy hen
    have hto : w.takeOp 1 peer = w.opTake peer := rfl
    rw [hto, opTake_scheduled ((hw.takeCode peer).trans hcode) (by rw [hw.takeInstant, hw.timeNs]; omega) (by rw [hw.fab]; exact hk)] at hf
    have hid : w.schedId k = s.schedId k := by rw [schedId, schedId, schedUseOf, schedUseOf, hw.fab]
    generalize hv : (w.updFab fun x => { x with sched := Assoc.put x.sched k (w.schedTake peer k) }).showSched.chkinvStruckAt 4 k = v at hf
    have hsched : v.fab.sched = Assoc.put w.fab.sched k (w.schedTake peer k) := by
      rw [← hv, (struck_chkinvStruckAt _ _ _).fab]
      rfl
    refine ⟨t, ht, hf.busy, hf.result_code, ⟨w.schedTake peer k, ?_, hw.takeInstant, ?_, rfl⟩, ?_⟩
    · rw [hf.fab_result, (((RegsOnly.refl v).set _ _)).fab, hsched, Assoc.find_put_same]
    · exact congrArg handleIdx (hw.takeArg (by decide))
    · rw [hf.get _ (by decide) (by decide) (by decide), get_takeResult _ _ _ (by decide), get_set_same _ _ (by decide : 15 < 32), hid]
      rfl
  case full =>
    intro s m peer hq hp hbusy hen hcode hin hk
    obtain ⟨w, t, hw, ht, hf⟩ := exec_takeCmd_on (c := .take m peer) (op := 1) rfl (by decide) hq hp hbusy hen
    have hto : w.takeOp 1 peer = w.opTake peer := rfl
    rw [hto, opTake_full ((hw.takeCode peer).trans hcode) (by rw [hw.takeInstant, hw.timeNs]; omega) (by rw [hw.fab]; exact hk)] at hf
    refine ⟨t, ht, hf.busy, hf.result_code, ?_, hf.raised (raised_raise _ _ (by decide))⟩
    rw [hf.fab_result, ((RegsOnly.refl w).raise _ _).fab, hw.fab]
  case refused =>
    intro s m peer c hq hp hbusy hen hcode h0
    obtain ⟨t, ht, hb, hr, hfab, -⟩ := exec_refused (c := .take m peer) (code := c) (op := 1) rfl (by decide) (fun w hw => by
      have hw' : w.takeCode peer = c := (hw.takeCode peer).trans hcode
      have hto : w.takeOp 1 peer = w.opTake peer := rfl
      rw [hto, opTake_refused (by rw [hw']; exact h0), hw']
      exact ⟨_, noted_staleIf _ _ _ _, rfl⟩) hq hp hbusy hen
    exact ⟨t, ht, hb, hr, hfab⟩
  case busy =>
    intro s m peer hq hp hbusy c hc
    simp only [List.mem_cons, List.not_mem_nil, or_false] at hc
    rcases hc with rfl | rfl | rfl | rfl | rfl | rfl <;> exact exec_takeCmd_busy rfl hq hbusy
  case off =>
    intro s m peer hq hp hbusy hen c hc
    have hoff {c : Instr} {op : Nat} (hc : exec c s = .next (s.writeNow m Reg.FAB.TAKECMD_OP.addr (takeCmdWord peer op))) (hop : op < 16) :
        ∃ t, exec c s = .next t ∧ t.get Reg.FAB.TESTAT_BUSY = 1 ∧ t.get Reg.FAB.TAKERES_CODE = 16 ∧ t.fab = s.fab := by
      obtain ⟨w, t, hw, ht, hf⟩ := exec_takeCmd_off hc hop hq hp hbusy hen
      exact ⟨t, ht, hf.busy, hf.result_code, hf.fab_result.trans hw.fab⟩
    simp only [List.mem_cons, List.not_mem_nil, or_false] at hc
    rcases hc with rfl | rfl | rfl | rfl | rfl | rfl
    exacts [hoff (op := 1) rfl (by decide), hoff (op := 2) rfl (by decide), hoff (op := 3) rfl (by decide),
      hoff (op := 4) rfl (by decide), hoff (op := 5) rfl (by decide), hoff (op := 6) rfl (by decide)]
  case locked =>
    intro s m peer hq hp hbusy hen hepoch hout hnosrc hkind hlock
    have hcode : s.takeCode peer = 22 := by
      have hflag : s.flag (Reg.FAB.RT_LOCK (handleIdx (s.takeArg 0))) = true := flag_of_one hlock
      have hkind' : handleKind (s.takeArg 0) ∈ outKinds := by simpa using hkind
      unfold takeCode judgeTake
      simp [hepoch, hout, hnosrc, hkind', hflag]
    obtain ⟨t, ht, hb, hr, hfab, -⟩ := exec_refused (c := .take m peer) (code := 22) (op := 1) rfl (by decide) (fun w hw => by
      have hw' : w.takeCode peer = 22 := (hw.takeCode peer).trans hcode
      have hto : w.takeOp 1 peer = w.opTake peer := rfl
      rw [hto, opTake_refused (by rw [hw']; decide), hw']
      exact ⟨_, noted_staleIf _ _ _ _, rfl⟩) hq hp hbusy hen
    exact ⟨t, ht, hb, hr, hfab⟩
  case cancel =>
    intro s m peer k x hq hp hbusy hen hepoch hk hx hid hlat htcq
    obtain ⟨w, t, hw, ht, hf⟩ := exec_takeCmd_on (c := .cancel m peer) (op := 2) rfl (by decide) hq hp hbusy hen
    have hto : w.takeOp 2 peer = w.opCancel := if_pos (hw.takeEpochOk.trans hepoch)
    have hk' : w.takeArg 0 % 65536 % 4096 = k := by rw [hw.takeArg (by decide), hk]; omega
    obtain ⟨v, hv, hcancel⟩ := opCancel_done (s := w) (x := x) (by rw [hk', hw.fab]; exact hx)
      (by rw [hk', hw.takeArg (by decide), ← hid, schedId, schedId, schedUseOf, schedUseOf, hw.fab]) hlat
    rw [hto, hcancel, hk'] at hf
    have hvf : v.fab = s.fab := hv.fab.trans hw.fab
    obtain ⟨c, hc, hcode, -, href⟩ := complete_first x.out 19 x.take.flags x.take v.timeNs (hvf ▸ htcq)
    have hdone := completed_complete x.out 19 x.take.flags x.take v.timeNs v
    generalize v.complete x.out 19 x.take.flags x.take v.timeNs = u at hf hc hdone
    refine ⟨t, ht, hf.busy, hf.result_code, ?_, ?_, fun _ => ?_⟩
    · rw [hf.fab_result, freeSched_fab, Assoc.find_del_same]
    · rw [hf.fab_result, freeSched_fab, hc, List.map_cons, List.map_nil, hcode, href]
    · rw [schedUseOf, hf.fab_result, freeSched_fab, Assoc.findD, Assoc.find_put_same, Option.getD_some, schedUseOf, hdone.schedUse, hvf]
      rfl
  case noCancel =>
    intro s m peer hq hp hbusy hen hepoch hnone hclean
    obtain ⟨t, ht, hb, hr, hfab, -⟩ := exec_refused (c := .cancel m peer) (code := 11) (op := 2) rfl (by decide) (fun w hw => by
      have hto : w.takeOp 2 peer = w.opCancel := if_pos (hw.takeEpochOk.trans hepoch)
      have hk : s.takeArg 0 % 65536 % 4096 = s.takeArg 0 % 4096 := by omega
      have hid : w.schedId (s.takeArg 0 % 4096) = s.schedId (s.takeArg 0 % 4096) := by rw [schedId, schedId, schedUseOf, schedUseOf, hw.fab]
      refine ⟨w, ⟨RegsOnly.refl w, RegsKept.refl _ w⟩, hto.trans (opCancel_refused (by rw [hw.prov, hclean]) ?_)⟩
      rw [hw.takeArg (by decide), hk, hw.fab, hid]
      exact hnone) hq hp hbusy hen
    exact ⟨t, ht, hb, hr, hfab⟩
  case lock =>
    intro s m peer i hq hp hbusy hen htarget hi hheld hsalvo
    subst hi
    obtain ⟨t, ht, hb, hr, hmark, howner, hother, hpend⟩ := exec_apply (c := .lock m peer) (op := 3) (lock := true) rfl (by decide) (fun _ => rfl)
      hq hp hbusy hen (by rw [applyCode, htarget, hheld, hsalvo]; rfl)
    exact ⟨t, ht, hb, hr, hmark, howner, hother, hpend rfl⟩
  case protect =>
    intro s m peer i hq hp hbusy hen htarget hi hheld hsalvo
    subst hi
    obtain ⟨t, ht, hb, hr, hmark, howner, hother, -⟩ := exec_apply (c := .protect m peer) (op := 5) (lock := false) rfl (by decide) (fun _ => rfl)
      hq hp hbusy hen (by rw [applyCode, htarget, hheld, hsalvo]; rfl)
    exact ⟨t, ht, hb, hr, hmark, howner, hother⟩
  case unlock =>
    intro s m peer i hq hp hbusy hen htarget hi hown
    subst hi
    exact exec_remove (c := .unlockOutput m peer) (op := 4) (lock := true) rfl (by decide) (fun _ => rfl) hq hp hbusy hen
      (by rw [removeCode, htarget, if_neg (by decide)]; exact if_neg (by rintro ⟨h1, h2⟩; rcases hown with h | h; exacts [h2 h, absurd (h1.symm.trans h) (by decide)]))
  case unprotect =>
    intro s m peer i hq hp hbusy hen htarget hi hown
    subst hi
    exact exec_remove (c := .unprotect m peer) (op := 6) (lock := false) rfl (by decide) (fun _ => rfl) hq hp hbusy hen
      (by rw [removeCode, htarget, if_neg (by decide)]; exact if_neg (by rintro ⟨h1, h2⟩; rcases hown with h | h; exacts [h2 h, absurd (h1.symm.trans h) (by decide)]))
  case noLock =>
    intro s m peer i c hq hp hbusy hen hi hc h0
    exact exec_apply_refused (c := .lock m peer) (op := 3) (lock := true) rfl (by decide) (fun _ => rfl) hq hp hbusy hen hi hc h0
  case noProtect =>
    intro s m peer i c hq hp hbusy hen hi hc h0
    exact exec_apply_refused (c := .protect m peer) (op := 5) (lock := false) rfl (by decide) (fun _ => rfl) hq hp hbusy hen hi hc h0
  case noUnlock =>
    intro s m peer i c hq hp hbusy hen hi hc h0
    exact exec_remove_refused (c := .unlockOutput m peer) (op := 4) (lock := true) rfl (by decide) (fun _ => rfl) hq hp hbusy hen hi hc h0
  case noUnprotect =>
    intro s m peer i c hq hp hbusy hen hi hc h0
    exact exec_remove_refused (c := .unprotect m peer) (op := 6) (lock := false) rfl (by decide) (fun _ => rfl) hq hp hbusy hen hi hc h0

end Sys2Proof.Machine
end

section
set_option Elab.async false
/-! SUPPORT. Salvos (R139–R144) and the completion queue. -/

namespace Sys2Proof.Machine
namespace State

/-! ### What a salvo is judged on -/

section
variable {s w : State}

theorem Posed.salvoArg (h : Posed s w) : w.salvoArg = s.salvoArg := by rw [State.salvoArg, State.salvoArg, h.takeArg (by decide)]

theorem Posed.judgeSalvoTakes (h : Posed s w) (peer n : Nat) (l : List SalvoTake) :
    w.judgeSalvoTakes peer n l = s.judgeSalvoTakes peer n l := by
  induction l generalizing n with
  | nil => rfl
  | cons t l ih => simp only [State.judgeSalvoTakes, h.judgeTake, ih]

theorem Posed.armLead (h : Posed s w) (x : Salvo) (n : Nat) : w.armLead x n = s.armLead x n := by
  have hperiod (t : SalvoTake) : w.planePeriod3 (w.get (Reg.FAB.ESE_CFG_PLANE (w.outEgr (handleIdx t.out)))) =
      s.planePeriod3 (s.get (Reg.FAB.ESE_CFG_PLANE (s.outEgr (handleIdx t.out)))) := by
    rw [h.outEgr, h.get_past (r := Reg.FAB.ESE_CFG_PLANE _) (by simp only [Reg.FAB.ESE_CFG_PLANE]; omega)]
    unfold planePeriod3 planeRate
    rw [use_congr h.inUse]
  unfold State.armLead
  simp only [hperiod]

theorem Posed.judgeSalvo (h : Posed s w) (v peer : Nat) (x : Salvo) : w.judgeSalvo v peer x = s.judgeSalvo v peer x := by
  have harmed : w.armedOutputs v = s.armedOutputs v := by rw [State.armedOutputs, State.armedOutputs, h.fab]
  unfold State.judgeSalvo
  rw [h.judgeSalvoTakes, harmed, h.takeInstant, h.timeNs, h.armLead, h.takeArg (by decide)]

end

/-! ### What the requests do to a salvo -/

section
variable {v peer : Nat} {x : Salvo} {s w t : State}

theorem regsOnly_showSalvos (s : State) : RegsOnly s s.showSalvos := ((RegsOnly.refl s).set _ _).set _ _

theorem regsKept_showSalvos {ks : List BlkKind} (hks : BlkKind.fab ∈ ks) (s : State) : RegsKept ks s s.showSalvos :=
  ((RegsKept.refl ks s).set _ (outside_page .fab hks (by decide) (by decide))).set _ (outside_page .fab hks (by decide) (by decide))

theorem routesKept_showSalvos (s : State) : RoutesKept s s.showSalvos := ((RoutesKept.refl s).set _ (by decide)).set _ (by decide)

theorem fab_each_set (l : List Nat) (f : Nat → FRef) (g : Nat → State → Nat) (s : State) :
    (s.each l fun i t => t.set (f i) (g i t)).fab = s.fab := each_keeps s (fun t => t.fab) _ l fun _ t => ((RegsOnly.refl t).set _ _).fab

theorem addRefs_fab (l : List Nat) (s : State) : (s.addRefs l).fab = s.fab := fab_each_set _ _ _ _

theorem dropRefs_fab (l : List Nat) (s : State) : (s.dropRefs l).fab = s.fab := fab_each_set _ _ _ _

theorem dropSalvo_fab (hx : Assoc.find s.fab.salvos v = some x) : (s.dropSalvo v).fab = { s.fab with salvos := Assoc.del s.fab.salvos v } := by
  have hdrop : (s.when x.armed.isSome (dropRefs (salvoChans x))).fab = s.fab := when_keeps s (fun u => u.fab) _ _ (dropRefs_fab _ _)
  unfold dropSalvo
  rw [hx]
  dsimp only
  rw [(regsOnly_showSalvos _).fab, updFab, hdrop]

theorem dropSalvo_gone (hx : Assoc.find s.fab.salvos v = some x) : Assoc.find (s.dropSalvo v).fab.salvos v = none := by
  rw [dropSalvo_fab hx, Assoc.find_del_same]

/-- A channel that a salvo names has a record in the channel table. -/
theorem salvoChans_lt {i : Nat} (h : i ∈ salvoChans x) : i < 16384 := by
  have hdedup : ∀ {l : List Nat}, i ∈ dedup l → i ∈ l := by
    intro l
    induction l with
    | nil => exact id
    | cons y l ih =>
      intro h
      rcases List.mem_cons.mp h with h | h
      · exact h ▸ List.mem_cons_self
      · exact List.mem_cons_of_mem _ (ih (List.mem_filter.mp h).1)
  obtain ⟨l, hl, hi⟩ := List.mem_flatten.mp (hdedup h)
  obtain ⟨y, -, rfl⟩ := List.mem_map.mp hl
  rcases List.mem_append.mp hi with hi | hi
  · rw [List.mem_singleton.mp hi]
    exact handleIdx_lt _
  · split at hi
    · cases hi
    · rw [List.mem_singleton.mp hi]
      exact handleIdx_lt _

theorem regsKept_dropRefs (s : State) : RegsKept [.chn] s (s.dropRefs (salvoChans x)) :=
  each_inv_mem s (RegsKept [.chn] s) _ _ (fun i hi t ht => ht.set _ (outside_page .chn (by decide)
    (by simp only [BlkKind.layout, Reg.CHN.ENT_STATE_REFS]; omega)
    (by have := salvoChans_lt hi; simp only [BlkKind.pagesEnd, BlkKind.layout, Reg.CHN.ENT_STATE_REFS]; omega))) (RegsKept.refl _ s)

/-- A salvo that leaves the store. -/
theorem regsKept_dropSalvo {ks : List BlkKind} (hx : Assoc.find s.fab.salvos v = some x) (hfab : BlkKind.fab ∈ ks)
    (hchn : x.armed.isSome = true → BlkKind.chn ∈ ks) : RegsKept ks s (s.dropSalvo v) := by
  have hdrop : RegsKept ks s (s.when x.armed.isSome (dropRefs (salvoChans x))) := by
    cases ha : x.armed.isSome
    · exact RegsKept.refl _ s
    · exact (regsKept_dropRefs s).mono (List.cons_subset.mpr ⟨hchn ha, List.nil_subset _⟩)
  unfold dropSalvo
  rw [hx]
  exact (hdrop.same (updFab_regs _ _)).trans (regsKept_showSalvos hfab _)

/-- A new salvo. -/
def newSalvo (peer : Nat) (s : State) : Salvo := ⟨s.takeArg 0, s.now, peer, [], none, none, false⟩

/-- A salvo put in the store. -/
def putSalvo (v : Nat) (x : Salvo) (s : State) : State := s.updFab fun y => { y with salvos := Assoc.put y.salvos v x }

theorem find_putSalvo (v : Nat) (x : Salvo) (s : State) : Assoc.find (s.putSalvo v x).fab.salvos v = some x := Assoc.find_put_same _ _ _

theorem opOpen_new (he : s.takeEpochOk = true) (hg : (s.fab.salvos.find? fun p => p.2.gid == s.takeArg 0) = none)
    (hv : ((List.range 32).find? fun k => Assoc.find s.fab.salvos k == none) = some v) :
    s.opOpen peer = (((s.putSalvo v (s.newSalvo peer)).showSalvos).set Reg.FAB.TAKEID v).takeResult 0 0 := by
  unfold opOpen
  dsimp only
  rw [if_neg (by simp [he]), hg]
  dsimp only
  rw [hv]
  rfl

theorem opOpen_known {p : Nat × Salvo} (he : s.takeEpochOk = true) (hg : (s.fab.salvos.find? fun p => p.2.gid == s.takeArg 0) = some p) :
    s.opOpen peer = (s.set Reg.FAB.TAKEID p.1).takeResult 0 0 := by
  unfold opOpen
  dsimp only
  rw [if_neg (by simp [he]), hg]

theorem opOpen_full (he : s.takeEpochOk = true) (hg : (s.fab.salvos.find? fun p => p.2.gid == s.takeArg 0) = none)
    (hv : ((List.range 32).find? fun k => Assoc.find s.fab.salvos k == none) = none) :
    s.opOpen peer = (s.raise 997 [s.takeArg 0]).takeResult 5 0 := by
  unfold opOpen
  dsimp only
  rw [if_neg (by simp [he]), hg]
  dsimp only
  rw [hv]

/-- The take that ADD puts at the end. -/
def addedTake (s : State) : SalvoTake := ⟨s.takeArg 1, s.takeArg 2, s.takeArg 5, false, false, false, bit (s.takeArg 4) 0⟩

theorem opAdd_in (he : s.takeEpochOk = true) (hx : Assoc.find s.fab.salvos s.salvoArg = some x) (ha : x.armed = none)
    (hroom : ¬(8192 ≤ s.get Reg.FAB.SALV_TAKES ∨ 1024 ≤ x.takes.length)) :
    s.opAdd peer = ((s.putSalvo s.salvoArg { x with takes := x.takes ++ [s.addedTake] }).showSalvos).takeResult 0 0 := by
  unfold opAdd
  dsimp only
  rw [if_neg (by simp [he]), hx]
  dsimp only
  rw [if_neg (by simp [ha]), if_neg hroom]
  rfl

theorem opAdd_none (he : s.takeEpochOk = true) (hx : (Assoc.find s.fab.salvos s.salvoArg).all (fun x => x.armed.isSome) = true) :
    s.opAdd peer = s.takeResult 11 0 := by
  unfold opAdd
  dsimp only
  rw [if_neg (by simp [he])]
  cases hf : Assoc.find s.fab.salvos s.salvoArg with
  | none => rfl
  | some x =>
    rw [hf] at hx
    exact if_pos hx

theorem opAdd_full (he : s.takeEpochOk = true) (hx : Assoc.find s.fab.salvos s.salvoArg = some x) (ha : x.armed = none)
    (hroom : 8192 ≤ s.get Reg.FAB.SALV_TAKES ∨ 1024 ≤ x.takes.length) : s.opAdd peer = (s.raise 997 [x.gid]).takeResult 5 0 := by
  unfold opAdd
  dsimp only
  rw [if_neg (by simp [he]), hx]
  dsimp only
  rw [if_neg (by simp [ha]), if_pos hroom]

theorem opArm_in (he : s.takeEpochOk = true) (hx : Assoc.find s.fab.salvos s.salvoArg = some x) (ha : x.armed = none)
    (hj : (s.judgeSalvo s.salvoArg peer x).1 = 0) : s.opArm peer =
      ((s.putSalvo s.salvoArg { x with peer := peer, armed := some (s.takeInstant, s.timeNs) }).addRefs (salvoChans x)).takeResult 0 0 := by
  unfold opArm
  dsimp only
  rw [if_neg (by simp [he]), hx]
  dsimp only
  rw [if_neg (by simp [ha]), hj, staleIf_zero, if_neg (by decide)]
  rfl

theorem opArm_refused (he : s.takeEpochOk = true) (hx : Assoc.find s.fab.salvos s.salvoArg = some x) (ha : x.armed = none)
    (hj : (s.judgeSalvo s.salvoArg peer x).1 ≠ 0) : ∃ u : State, u.fab = s.fab ∧ s.opArm peer =
      (u.dropSalvo s.salvoArg).takeResult (s.judgeSalvo s.salvoArg peer x).1 (s.judgeSalvo s.salvoArg peer x).2 := by
  have hraise (u : State) (c : Bool) : (u.when c (raise 994 [x.gid])).fab = u.fab := when_keeps u (fun y => y.fab) _ _ ((RegsOnly.refl u).raise _ _).fab
  refine ⟨(s.staleIf (s.judgeSalvo s.salvoArg peer x).1 (s.reqSession peer) x.gid).when ((s.judgeSalvo s.salvoArg peer x).1 == 21) (raise 994 [x.gid]),
    (hraise _ _).trans (noted_staleIf _ _ _ _).fab, ?_⟩
  unfold opArm
  dsimp only
  rw [if_neg (by simp [he]), hx]
  dsimp only
  rw [if_neg (by simp [ha]), if_pos hj]

theorem opArm_none (he : s.takeEpochOk = true) (hx : (Assoc.find s.fab.salvos s.salvoArg).all (fun x => x.armed.isSome) = true) :
    s.opArm peer = s.takeResult (if (Assoc.find s.fab.salvos s.salvoArg).isSome then 0 else 11) 0 := by
  unfold opArm
  dsimp only
  rw [if_neg (by simp [he])]
  cases hf : Assoc.find s.fab.salvos s.salvoArg with
  | none => rfl
  | some x =>
    rw [hf] at hx
    exact if_pos hx

/-- The takes of a salvo judged at its effective instant, which COMMIT fixes. -/
def committed (x : Salvo) (a : Nat × Nat) (s : State) : Salvo :=
  { x with takes := x.takes.map fun t => { t with late := decide (s.firstSwitchFrom (handleIdx t.out) (if a.1 = 0 then s.timeNs else a.1) -
      s.cutoffNs < (s.timeNs : Int)) }, committed := some (if a.1 = 0 then s.timeNs else a.1, s.timeNs) }

theorem opCommit_in {a : Nat × Nat} (he : s.takeEpochOk = true) (hx : Assoc.find s.fab.salvos s.salvoArg = some x) (ha : x.armed = some a)
    (hc : x.committed = none) : s.opCommit peer = ((s.putSalvo s.salvoArg (s.committed x a)).when ((s.committed x a).takes.any fun t => t.late)
      (raise 995 [x.gid])).takeResult 0 0 := by
  unfold opCommit
  dsimp only
  rw [if_neg (by simp [he]), hx]
  dsimp only
  rw [ha]
  refine (if_neg ?_).trans ?_
  · rw [hc]
    exact Bool.false_ne_true
  · rw [committed, ha]
    rfl

theorem opCommit_none (he : s.takeEpochOk = true)
    (hx : (Assoc.find s.fab.salvos s.salvoArg).all (fun x => x.armed.isNone || x.committed.isSome) = true) :
    s.opCommit peer = s.takeResult (if (Assoc.find s.fab.salvos s.salvoArg).any (fun x => x.armed.isSome) then 0 else 25) 0 := by
  unfold opCommit
  dsimp only
  rw [if_neg (by simp [he])]
  cases hf : Assoc.find s.fab.salvos s.salvoArg with
  | none => rfl
  | some x =>
    rw [hf] at hx
    dsimp only
    cases ha : x.armed with
    | none =>
      have hn : (some x).any (fun x => x.armed.isSome) = false := by simp [ha]
      rw [hn]
      rfl
    | some a =>
      have hn : (some x).any (fun x => x.armed.isSome) = true := by simp [ha]
      rw [hn]
      exact if_pos (by simpa [ha] using hx)

theorem opAbort_in (he : s.takeEpochOk = true) (hx : Assoc.find s.fab.salvos s.salvoArg = some x) (hc : x.committed = none) :
    s.opAbort peer = (s.dropSalvo s.salvoArg).takeResult 0 0 := by
  unfold opAbort
  dsimp only
  rw [if_neg (by simp [he]), hx]
  exact if_neg (by simp [hc])

theorem opAbort_none (he : s.takeEpochOk = true) (hx : (Assoc.find s.fab.salvos s.salvoArg).all (fun x => x.committed.isSome) = true) :
    s.opAbort peer = s.takeResult 25 0 := by
  unfold opAbort
  dsimp only
  rw [if_neg (by simp [he])]
  cases hf : Assoc.find s.fab.salvos s.salvoArg with
  | none => rfl
  | some x =>
    rw [hf] at hx
    exact if_pos hx

/-- A request under an old table epoch. -/
theorem salvoOp_stale {op : Nat} (h1 : 7 ≤ op) (h2 : op ≤ 11) (he : s.takeEpochOk = false) :
    ∃ u : State, u.fab = s.fab ∧ s.takeOp op peer = u.takeResult 3 0 := by
  have hstale (x : Nat) : (s.staleEvent (s.reqSession peer) x).fab = s.fab := (noted_staleEvent _ _ _).fab
  obtain rfl | rfl | rfl | rfl | rfl : op = 7 ∨ op = 8 ∨ op = 9 ∨ op = 10 ∨ op = 11 := by omega
  all_goals exact ⟨_, hstale _, if_pos (by simp [he])⟩

end

/-! ### The completion queue -/

theorem showTcq_shows (s : State) : s.showTcq.get Reg.FAB.TCQSTAT_COUNT = s.fab.tcq.length % 2 ^ 9 ∧
    (∀ x ys, s.fab.tcq = x :: ys → s.showTcq.get Reg.FAB.TCQ0 = x.out % 2 ^ 32 ∧ s.showTcq.get Reg.FAB.TCQ3 = x.tsw % 2 ^ 32) := by
  have htcq (n : Nat) : (s.set Reg.FAB.TCQSTAT_COUNT n).fab.tcq = s.fab.tcq := by rw [((RegsOnly.refl s).set _ _).fab]
  have hcount : (s.set Reg.FAB.TCQSTAT_COUNT s.fab.tcq.length).get Reg.FAB.TCQSTAT_COUNT = s.fab.tcq.length % 2 ^ 9 :=
    get_set_same _ _ (by decide : 8 < 32)
  unfold showTcq
  dsimp only
  rw [htcq]
  cases hq : s.fab.tcq with
  | nil =>
    rw [hq] at hcount
    exact ⟨hcount, fun x ys h => by cases h⟩
  | cons c rest =>
    rw [hq] at hcount
    dsimp only
    generalize s.set Reg.FAB.TCQSTAT_COUNT (c :: rest).length = u at hcount
    refine ⟨?_, fun x ys h => ?_⟩
    · rw [get_set_other _ _ (by decide) (by decide), get_set_other _ _ (by decide) (by decide), get_set_other _ _ (by decide) (by decide),
        get_set_other _ _ (by decide) (by decide), get_set_other _ _ (by decide) (by decide), get_set_other _ _ (by decide) (by decide),
        get_set_other _ _ (by decide) (by decide), hcount]
    · obtain ⟨rfl, -⟩ := List.cons.inj h
      refine ⟨?_, get_set_same _ _ (by decide : 31 < 32)⟩
      rw [get_set_other _ _ (by decide) (by decide), get_set_other _ _ (by decide) (by decide), get_set_other _ _ (by decide) (by decide),
        get_set_other _ _ (by decide) (by decide), get_set_other _ _ (by decide) (by decide), get_set_other _ _ (by decide) (by decide)]
      exact get_set_same _ _ (by decide : 31 < 32)

theorem takecnt_showTcq (s : State) : s.showTcq.get Reg.FAB.TAKECNT = s.get Reg.FAB.TAKECNT := by
  have htcq (n : Nat) : (s.set Reg.FAB.TCQSTAT_COUNT n).fab.tcq = s.fab.tcq := by rw [((RegsOnly.refl s).set _ _).fab]
  unfold showTcq
  dsimp only
  rw [htcq]
  cases s.fab.tcq with
  | nil => exact get_set_other _ _ (by decide) (by decide)
  | cons c rest =>
    dsimp only
    rw [get_set_other _ _ (by decide) (by decide), get_set_other _ _ (by decide) (by decide), get_set_other _ _ (by decide) (by decide),
      get_set_other _ _ (by decide) (by decide), get_set_other _ _ (by decide) (by decide), get_set_other _ _ (by decide) (by decide),
      get_set_other _ _ (by decide) (by decide), get_set_other _ _ (by decide) (by decide)]

theorem tcqPop_fab (s : State) : s.tcqPop.fab.tcq = s.fab.tcq.drop 1 := by
  unfold tcqPop
  rw [(regsOnly_showTcq _).fab]
  rfl

theorem takecnt_tcqPop (s : State) : s.tcqPop.get Reg.FAB.TAKECNT = s.get Reg.FAB.TAKECNT :=
  (takecnt_showTcq _).trans (get_of_regs (updFab_regs _ _) _)

abbrev tcqPopRow : RegDef := ⟨"TCQPOP", 0x90, [], [⟨0, 0, .wo, .val 0⟩]⟩

theorem domainReg_tcqPop : domainReg Reg.FAB.TCQPOP.addr fabBlk tcqPopRow 0 = true := by decide +kernel

theorem exec_tcqpop {m : Nat} {s : State} (hq : Quiet m s) (data : Word) : exec (.tcqpop m data) s =
    .next (((s.landed m fabBlk).when (bit data.toNat 0) tcqPop).showWpend fabBlk) :=
  congrArg Host.Outcome.next (writeNow_special hq domainReg_tcqPop rfl)

end State

open State in
/-- Settles O19: each request on the state in which the mailbox carries it out (`Posed`), then the expiries and the queue. -/
theorem salvos : Obligations.Salvos := by
  unfold Obligations.Salvos
  refine ⟨?new, ?known, ?full, ?add, ?noAdd, ?arm, ?armRefused, ?armed, ?empty, ?commit, ?noCommit, ?abort, ?noAbort, ?off, ?openExpire,
    ?expire, ?openStays, ?armedStays, ?pop, ?noPop⟩
  case new =>
    intro s m peer v hq hp hbusy hen he hg hv
    obtain ⟨w, t, hw, ht, hf⟩ := exec_takeCmd_on (c := .openGid m peer) (op := 7) rfl (by decide) hq hp hbusy hen
    have hto : w.takeOp 7 peer = w.opOpen peer := rfl
    have hlt : v < 32 := List.mem_range.mp (List.mem_of_find?_eq_some hv)
    rw [hto, opOpen_new (v := v) (hw.takeEpochOk.trans he) (by rw [hw.fab, hw.takeArg (by decide)]; exact hg) (by rw [hw.fab]; exact hv)] at hf
    refine ⟨t, ht, hf.busy, hf.result_code, ⟨w.newSalvo peer, ?_, hw.takeArg (by decide), rfl, rfl, hw.now⟩, ?_⟩
    · rw [hf.fab_result, ((RegsOnly.refl _).set _ _).fab, (regsOnly_showSalvos _).fab, find_putSalvo]
    · rw [hf.get _ (by decide) (by decide) (by decide), get_takeResult _ _ _ (by decide), get_set_same _ _ (by decide : 15 < 32)]
      exact Nat.mod_eq_of_lt (Nat.lt_trans hlt (by decide))
  case known =>
    intro s m peer p hq hp hbusy hen he hg hlt
    obtain ⟨w, t, hw, ht, hf⟩ := exec_takeCmd_on (c := .openGid m peer) (op := 7) rfl (by decide) hq hp hbusy hen
    have hto : w.takeOp 7 peer = w.opOpen peer := rfl
    rw [hto, opOpen_known (p := p) (hw.takeEpochOk.trans he) (by rw [hw.fab, hw.takeArg (by decide)]; exact hg)] at hf
    refine ⟨t, ht, hf.busy, hf.result_code, ?_, ?_⟩
    · rw [hf.get _ (by decide) (by decide) (by decide), get_takeResult _ _ _ (by decide), get_set_same _ _ (by decide : 15 < 32)]
      exact Nat.mod_eq_of_lt hlt
    · rw [hf.fab_result, ((RegsOnly.refl _).set _ _).fab, hw.fab]
  case full =>
    intro s m peer hq hp hbusy hen he hg hv
    obtain ⟨w, t, hw, ht, hf⟩ := exec_takeCmd_on (c := .openGid m peer) (op := 7) rfl (by decide) hq hp hbusy hen
    have hto : w.takeOp 7 peer = w.opOpen peer := rfl
    rw [hto, opOpen_full (hw.takeEpochOk.trans he) (by rw [hw.fab, hw.takeArg (by decide)]; exact hg) (by rw [hw.fab]; exact hv)] at hf
    exact ⟨t, ht, hf.result_code, by rw [hf.fab_result, ((RegsOnly.refl w).raise _ _).fab, hw.fab], hf.raised (raised_raise _ _ (by decide))⟩
  case add =>
    intro s m peer v x hq hp hbusy hen he hv hx ha htakes hlen
    obtain ⟨w, t, hw, ht, hf⟩ := exec_takeCmd_on (c := .add m peer) (op := 8) rfl (by decide) hq hp hbusy hen
    have hto : w.takeOp 8 peer = w.opAdd peer := rfl
    have harg : w.salvoArg = v := hw.salvoArg.trans hv.symm
    rw [hto, opAdd_in (x := x) (hw.takeEpochOk.trans he) (by rw [hw.fab, harg]; exact hx) ha
      (by rw [hw.get (by decide) (by decide)]; omega), harg] at hf
    refine ⟨t, ht, hf.busy, hf.result_code, ?_, ?_⟩
    · rw [hf.fab_result, (regsOnly_showSalvos _).fab, find_putSalvo, Option.map_some, List.dropLast_concat, List.getLast?_concat, Option.map_some]
      have hadded : (w.addedTake.out, w.addedTake.epoch) = (s.takeArg 1, s.takeArg 5) :=
        congrArg₂ Prod.mk (hw.takeArg (by decide)) (hw.takeArg (by decide))
      rw [hadded]
    · have hput := (RoutesKept.refl w).same (u := w.putSalvo v { x with takes := x.takes ++ [w.addedTake] }) rfl
      have hi := handleIdx_lt (s.takeArg 1)
      exact ((hw.routes.trans (hput.trans (routesKept_showSalvos _))).trans hf.routes_result).get
        (by simp only [Reg.FAB.RT_PENDV]; omega) (by simp only [Reg.FAB.RT_PENDV]; omega)
  case noAdd =>
    intro s m peer v c hq hp hbusy hen he hv hc h0
    obtain ⟨w, t, hw, ht, hf⟩ := exec_takeCmd_on (c := .add m peer) (op := 8) rfl (by decide) hq hp hbusy hen
    have hto : w.takeOp 8 peer = w.opAdd peer := rfl
    have harg : w.salvoArg = v := hw.salvoArg.trans hv.symm
    by_cases hall : (Assoc.find s.fab.salvos v).all (fun x => x.armed.isSome) = true
    · rw [hto, opAdd_none (hw.takeEpochOk.trans he) (by rw [hw.fab, harg]; exact hall)] at hf
      rw [if_pos hall] at hc
      exact ⟨t, ht, hf.result_code.trans hc.symm, hf.fab_result.trans hw.fab⟩
    · rw [if_neg hall] at hc
      obtain ⟨x, hx, ha⟩ : ∃ x, Assoc.find s.fab.salvos v = some x ∧ x.armed = none := by
        cases hx : Assoc.find s.fab.salvos v with
        | none => simp [hx] at hall
        | some x => exact ⟨x, rfl, by simpa [hx] using hall⟩
      have hroom : 8192 ≤ s.get Reg.FAB.SALV_TAKES ∨ 1024 ≤ x.takes.length := by
        by_contra h
        rw [if_neg (by simpa [hx] using h)] at hc
        exact h0 hc
      rw [if_pos (by simpa [hx] using hroom)] at hc
      rw [hto, opAdd_full (x := x) (hw.takeEpochOk.trans he) (by rw [hw.fab, harg]; exact hx) ha
        (by rw [hw.get (by decide) (by decide)]; exact hroom)] at hf
      exact ⟨t, ht, hf.result_code.trans hc.symm, by rw [hf.fab_result, ((RegsOnly.refl w).raise _ _).fab, hw.fab]⟩
  case arm =>
    intro s m peer v x hq hp hbusy hen he hv hx ha hj
    obtain ⟨w, t, hw, ht, hf⟩ := exec_takeCmd_on (c := .arm m peer) (op := 9) rfl (by decide) hq hp hbusy hen
    have hto : w.takeOp 9 peer = w.opArm peer := rfl
    have harg : w.salvoArg = v := hw.salvoArg.trans hv.symm
    rw [hto, opArm_in (x := x) (hw.takeEpochOk.trans he) (by rw [hw.fab, harg]; exact hx) ha (by rw [harg, hw.judgeSalvo, hj]), harg,
      hw.takeInstant, hw.timeNs] at hf
    exact ⟨t, ht, hf.busy, hf.result_code, by rw [hf.fab_result, addRefs_fab, find_putSalvo]⟩
  case armRefused =>
    intro s m peer v x q hq hp hbusy hen he hv hx ha hj h0
    obtain ⟨w, t, hw, ht, hf⟩ := exec_takeCmd_on (c := .arm m peer) (op := 9) rfl (by decide) hq hp hbusy hen
    have hto : w.takeOp 9 peer = w.opArm peer := rfl
    have harg : w.salvoArg = v := hw.salvoArg.trans hv.symm
    have hj' : w.judgeSalvo w.salvoArg peer x = q := by rw [harg, hw.judgeSalvo, hj]
    obtain ⟨u, hu, hop⟩ := opArm_refused (x := x) (peer := peer) (hw.takeEpochOk.trans he) (by rw [hw.fab, harg]; exact hx) ha (by rw [hj']; exact h0)
    rw [hto, hop, hj', harg] at hf
    exact ⟨t, ht, hf.result_code, hf.result_index, by rw [hf.fab_result]; exact dropSalvo_gone (x := x) (by rw [hu, hw.fab]; exact hx)⟩
  case armed =>
    intro s m peer v hq hp hbusy hen he hv hx
    obtain ⟨w, t, hw, ht, hf⟩ := exec_takeCmd_on (c := .arm m peer) (op := 9) rfl (by decide) hq hp hbusy hen
    have hto : w.takeOp 9 peer = w.opArm peer := rfl
    have harg : w.salvoArg = v := hw.salvoArg.trans hv.symm
    rw [hto, opArm_none (hw.takeEpochOk.trans he) (by rw [hw.fab, harg]; exact hx), harg, hw.fab] at hf
    refine ⟨t, ht, hf.result_code.trans ?_, hf.fab_result.trans hw.fab⟩
    cases (Assoc.find s.fab.salvos v).isSome <;> rfl
  case empty =>
    intro s m peer v x hq hp hbusy hen he hv hx ha hempty
    obtain ⟨w, t, hw, ht, hf⟩ := exec_takeCmd_on (c := .arm m peer) (op := 9) rfl (by decide) hq hp hbusy hen
    have hto : w.takeOp 9 peer = w.opArm peer := rfl
    have harg : w.salvoArg = v := hw.salvoArg.trans hv.symm
    have hj : w.judgeSalvo w.salvoArg peer x = (17, 0) := by
      unfold judgeSalvo
      rw [hempty]
      rfl
    obtain ⟨u, hu, hop⟩ := opArm_refused (x := x) (peer := peer) (hw.takeEpochOk.trans he) (by rw [hw.fab, harg]; exact hx) ha (by rw [hj]; decide)
    rw [hto, hop, hj, harg] at hf
    exact ⟨t, ht, hf.busy, hf.result_code, by rw [hf.fab_result]; exact dropSalvo_gone (x := x) (by rw [hu, hw.fab]; exact hx)⟩
  case commit =>
    intro s m peer v x a hq hp hbusy hen he hv hx ha hc
    obtain ⟨w, t, hw, ht, hf⟩ := exec_takeCmd_on (c := .commit m peer) (op := 10) rfl (by decide) hq hp hbusy hen
    have hto : w.takeOp 10 peer = w.opCommit peer := rfl
    have harg : w.salvoArg = v := hw.salvoArg.trans hv.symm
    rw [hto, opCommit_in (x := x) (hw.takeEpochOk.trans he) (by rw [hw.fab, harg]; exact hx) ha hc, harg] at hf
    refine ⟨t, ht, hf.busy, hf.result_code, w.committed x a, ?_, ?_, rfl, List.length_map _⟩
    · rw [hf.fab_result, when_keeps _ (fun u => u.fab) _ _ ((RegsOnly.refl _).raise _ _).fab, find_putSalvo]
    · unfold State.committed
      dsimp only
      rw [hw.timeNs]
  case noCommit =>
    intro s m peer v hq hp hbusy hen he hv hx
    obtain ⟨w, t, hw, ht, hf⟩ := exec_takeCmd_on (c := .commit m peer) (op := 10) rfl (by decide) hq hp hbusy hen
    have hto : w.takeOp 10 peer = w.opCommit peer := rfl
    have harg : w.salvoArg = v := hw.salvoArg.trans hv.symm
    rw [hto, opCommit_none (hw.takeEpochOk.trans he) (by rw [hw.fab, harg]; exact hx), harg, hw.fab] at hf
    refine ⟨t, ht, hf.result_code.trans ?_, hf.fab_result.trans hw.fab⟩
    cases (Assoc.find s.fab.salvos v).any (fun x => x.armed.isSome) <;> rfl
  case abort =>
    intro s m peer v x hq hp hbusy hen he hv hx hc
    obtain ⟨w, t, hw, ht, hf⟩ := exec_takeCmd_on (c := .abort m peer) (op := 11) rfl (by decide) hq hp hbusy hen
    have hto : w.takeOp 11 peer = w.opAbort peer := rfl
    have harg : w.salvoArg = v := hw.salvoArg.trans hv.symm
    have hxw : Assoc.find w.fab.salvos w.salvoArg = some x := by rw [hw.fab, harg]; exact hx
    rw [hto, opAbort_in (x := x) (hw.takeEpochOk.trans he) hxw hc] at hf
    exact ⟨t, ht, hf.busy, hf.result_code, by rw [hf.fab_result, ← harg]; exact dropSalvo_gone hxw⟩
  case noAbort =>
    intro s m peer v hq hp hbusy hen he hv hx
    obtain ⟨w, t, hw, ht, hf⟩ := exec_takeCmd_on (c := .abort m peer) (op := 11) rfl (by decide) hq hp hbusy hen
    have hto : w.takeOp 11 peer = w.opAbort peer := rfl
    have harg : w.salvoArg = v := hw.salvoArg.trans hv.symm
    rw [hto, opAbort_none (hw.takeEpochOk.trans he) (by rw [hw.fab, harg]; exact hx)] at hf
    exact ⟨t, ht, hf.result_code, hf.fab_result.trans hw.fab⟩
  case off =>
    intro s m peer hq hp hbusy hoff c hc
    have hrefused {c : Instr} {op : Nat} (hc : exec c s = .next (s.writeNow m Reg.FAB.TAKECMD_OP.addr (takeCmdWord peer op))) (h1 : 7 ≤ op)
        (h2 : op ≤ 11) : ∃ t, exec c s = .next t ∧ t.get Reg.FAB.TESTAT_BUSY = 1 ∧
          t.get Reg.FAB.TAKERES_CODE = (if s.get Reg.FAB.CTRL_EN = 0 then 16 else 3) ∧ t.fab.salvos = s.fab.salvos := by
      by_cases hen : s.get Reg.FAB.CTRL_EN = 0
      · obtain ⟨w, t, hw, ht, hf⟩ := exec_takeCmd_off hc (by omega) hq hp hbusy hen
        exact ⟨t, ht, hf.busy, by rw [if_pos hen]; exact hf.result_code, by rw [hf.fab_result, hw.fab]⟩
      · have hlt : s.get Reg.FAB.CTRL_EN < 2 := s.get_lt _
        obtain ⟨w, t, hw, ht, hf⟩ := exec_takeCmd_on hc (by omega) hq hp hbusy (by omega)
        obtain ⟨u, hu, hto⟩ := salvoOp_stale (peer := peer) h1 h2 (hw.takeEpochOk.trans (hoff.resolve_left hen))
        rw [hto] at hf
        exact ⟨t, ht, hf.busy, by rw [if_neg hen]; exact hf.result_code, by rw [hf.fab_result, hu, hw.fab]⟩
    simp only [List.mem_cons, List.not_mem_nil, or_false] at hc
    rcases hc with rfl | rfl | rfl | rfl | rfl
    exacts [hrefused (op := 7) rfl (by decide) (by decide), hrefused (op := 8) rfl (by decide) (by decide),
      hrefused (op := 9) rfl (by decide) (by decide), hrefused (op := 10) rfl (by decide) (by decide),
      hrefused (op := 11) rfl (by decide) (by decide)]
  case openExpire =>
    intro s v x hx ha hlate
    have hexec : exec (.salvoOpenExpire v) s = .next ((s.dropSalvo v).raise 996 [x.gid]) := by
      have hopen : s.salvoOpenExpire v = (s.dropSalvo v).raise 996 [x.gid] := by
        unfold salvoOpenExpire
        rw [hx]
        exact if_pos ⟨by simp [ha], hlate⟩
      exact congrArg Host.Outcome.next hopen
    exact ⟨_, hexec, by rw [((RegsOnly.refl _).raise _ _).fab]; exact dropSalvo_gone hx, raised_raise _ _ (by decide),
      (regsKept_dropSalvo hx (by decide) (by simp [ha])).raise _ _ (by decide)⟩
  case expire =>
    intro s v x a hx ha hc hlate
    have hexec : exec (.salvoExpired v) s = .next ((s.dropSalvo v).raise 996 [x.gid]) := by
      have hopen : s.salvoExpire v = (s.dropSalvo v).raise 996 [x.gid] := by
        unfold salvoExpire
        rw [hx]
        dsimp only
        rw [ha]
        exact if_pos ⟨by simp [hc], hlate⟩
      exact congrArg Host.Outcome.next hopen
    exact ⟨_, hexec, by rw [((RegsOnly.refl _).raise _ _).fab]; exact dropSalvo_gone hx, raised_raise _ _ (by decide),
      (regsKept_dropSalvo hx (by decide) (fun _ => by decide)).raise _ _ (by decide)⟩
  case openStays =>
    intro s v h
    refine ⟨s, congrArg Host.Outcome.next ?_, rfl⟩
    unfold salvoOpenExpire
    cases hx : Assoc.find s.fab.salvos v with
    | none => rfl
    | some x =>
      rw [hx] at h
      refine if_neg ?_
      rintro ⟨h1, h2⟩
      simp only [Option.all_some, Bool.or_eq_true, decide_eq_true_eq] at h
      rcases h with h | h
      · simp [Option.isNone_iff_eq_none.mp h1] at h
      · omega
  case armedStays =>
    intro s v h
    refine ⟨s, congrArg Host.Outcome.next ?_, rfl⟩
    unfold salvoExpire
    cases hx : Assoc.find s.fab.salvos v with
    | none => rfl
    | some x =>
      rw [hx] at h
      dsimp only
      cases ha : x.armed with
      | none => rfl
      | some a =>
        refine if_neg ?_
        rintro ⟨h1, h2⟩
        rw [Option.all_some, ha, Option.all_some, Bool.or_eq_true, decide_eq_true_eq] at h
        rcases h with h | h
        · simp [Option.isNone_iff_eq_none.mp h1] at h
        · unfold salvoLimit at h2
          omega
  case pop =>
    intro s m data c rest hq hbit htcq hlen
    have hexec := exec_tcqpop hq data
    rw [hbit, when_true] at hexec
    have htcq' : (s.landed m fabBlk).fab.tcq = c :: rest := by rw [(landed_is m fabBlk s hq.1).rest]; exact htcq
    generalize s.landed m fabBlk = u at hexec htcq'
    have hpop : u.tcqPop = (u.updFab fun x => { x with tcq := x.tcq.drop 1 }).showTcq := rfl
    have hrest : (u.updFab fun x => { x with tcq := x.tcq.drop 1 }).fab.tcq = rest := congrArg (List.drop 1) htcq'
    have htcqPop := tcqPop_fab u
    rw [htcq'] at htcqPop
    rw [hpop] at hexec htcqPop
    generalize (u.updFab fun x => { x with tcq := x.tcq.drop 1 }) = y at hexec hrest htcqPop
    obtain ⟨hcount, hhead⟩ := showTcq_shows y
    rw [hrest] at hcount
    refine ⟨_, hexec, ?_, ?_, fun x ys h => ?_⟩
    · rw [(regsOnly_showWpend fabBlk (RegsOnly.refl y.showTcq)).fab, htcqPop]
      rfl
    · rw [get_showWpend_other (by decide), hcount]
      exact Nat.mod_eq_of_lt (by omega)
    · rw [get_showWpend_other (by decide), get_showWpend_other (by decide)]
      exact hhead x ys (hrest.trans h)
  case noPop =>
    intro s m data hq h
    have hexec := exec_tcqpop hq data
    have htcq' : (s.landed m fabBlk).fab.tcq = s.fab.tcq := by rw [(landed_is m fabBlk s hq.1).rest]
    have hcnt : (s.landed m fabBlk).get Reg.FAB.TAKECNT = s.get Reg.FAB.TAKECNT := get_landed hq.1 (by decide)
    generalize s.landed m fabBlk = u at hexec htcq' hcnt
    have hsame : (u.when (bit data.toNat 0) tcqPop).fab.tcq = s.fab.tcq := by
      rcases h with h | h
      · rw [h]
        exact htcq'
      · rw [when_keeps u (fun y => y.fab.tcq) _ _ (by rw [tcqPop_fab, htcq', h]; rfl), htcq']
    have hcnt' : (u.when (bit data.toNat 0) tcqPop).get Reg.FAB.TAKECNT = s.get Reg.FAB.TAKECNT := by
      rw [when_keeps u (fun y => y.get Reg.FAB.TAKECNT) _ _ (takecnt_tcqPop u), hcnt]
    generalize u.when (bit data.toNat 0) tcqPop = y at hexec hsame hcnt'
    refine ⟨_, hexec, ?_, ?_⟩
    · rw [(regsOnly_showWpend fabBlk (RegsOnly.refl y)).fab, hsame]
    · rw [get_showWpend_other (by decide), hcnt']

end Sys2Proof.Machine
end

section
set_option Elab.async false
/-! SUPPORT. Network time (R398–R400): the BMCA, the follower's discipline, and the qualification of PTP. -/

namespace Sys2Proof.Machine
namespace State

/-! ### Pending records -/

theorem mem_mergePend_of {src k : Nat} (d : Word) (t : Nat) {l : List PendRec} (h : ∃ p ∈ l, p.src = k) :
    ∃ p ∈ (mergePend src d t l).1, p.src = k := by
  induction l with
  | nil => obtain ⟨p, hp, -⟩ := h; cases hp
  | cons q l ih =>
    obtain ⟨p, hp, hk⟩ := h
    unfold mergePend
    split
    · rcases List.mem_cons.mp hp with rfl | hp
      · exact ⟨_, List.mem_cons_self, hk⟩
      · exact ⟨p, List.mem_cons_of_mem _ hp, hk⟩
    · rcases List.mem_cons.mp hp with rfl | hp
      · exact ⟨_, List.mem_cons_self, hk⟩
      · obtain ⟨p', hp', hk'⟩ := ih ⟨p, hp, hk⟩
        exact ⟨p', List.mem_cons_of_mem _ hp', hk'⟩

/-- A raise keeps what was raised. -/
theorem raised_raise_of {k : Nat} (src : Nat) (items : List Nat) {s : State} (h : Raised k s) : Raised k (s.raise src items) := by
  unfold raise raiseWord
  split
  · dsimp only
    unfold Raised
    rw [when_keeps _ (·.flt) _ _ (flt_bump _ _ _), flt_bump]
    exact mem_mergePend_of _ _ h
  · exact h

/-! ### The BMCA -/

/-- The BMCA changes what it has heard and selected, and raises events. -/
structure Elected (s t : State) : Prop where
  only : ∃ r f l x, t = { s with regs := r, flt := f, lastRaise := l, time := { s.time with ptp := x } }
  words : ∀ a, (a < 0x11003000 ∨ 0x11004800 ≤ a) → t.rd a = s.rd a
  raised : ∀ src, Raised src s → Raised src t
  cfg : t.time.ptp.cfg = s.time.ptp.cfg
  syncLost : t.time.ptp.syncLost = s.time.ptp.syncLost
  locked : t.time.ptp.locked = s.time.ptp.locked
  first : t.time.ptp.first = s.time.ptp.first

namespace Elected

variable {s t u : State}

theorem refl (s : State) : Elected s s := ⟨⟨_, _, _, _, rfl⟩, fun _ _ => rfl, fun _ h => h, rfl, rfl, rfl, rfl⟩

theorem trans (h : Elected s t) (h' : Elected t u) : Elected s u := by
  refine ⟨?_, fun a ha => (h'.words a ha).trans (h.words a ha), fun src hr => h'.raised src (h.raised src hr), h'.cfg.trans h.cfg,
    h'.syncLost.trans h.syncLost, h'.locked.trans h.locked, h'.first.trans h.first⟩
  obtain ⟨_, _, _, _, rfl⟩ := h.only
  obtain ⟨_, _, _, _, rfl⟩ := h'.only
  exact ⟨_, _, _, _, rfl⟩

theorem updPtp (h : Elected s t) {f : PtpState → PtpState}
    (hf : ∀ x, (f x).cfg = x.cfg ∧ (f x).syncLost = x.syncLost ∧ (f x).locked = x.locked ∧ (f x).first = x.first) :
    Elected s (t.updPtp f) := by
  obtain ⟨h1, h2, h3, h4⟩ := hf t.time.ptp
  exact h.trans ⟨⟨_, _, _, _, rfl⟩, fun _ _ => rfl, fun _ h => h, h1, h2, h3, h4⟩

theorem raise (h : Elected s t) (src : Nat) (items : List Nat) : Elected s (t.raise src items) := by
  have honly := (RegsOnly.refl t).raise src items
  refine h.trans ⟨?_, fun a ha => rd_raise t src items ha, fun _ hr => raised_raise_of src items hr, ?_, ?_, ?_, ?_⟩
  · obtain ⟨_, _, _, he⟩ := honly
    exact ⟨_, _, _, _, he⟩
  all_goals rw [honly.time]

theorem when (h : Elected s t) (c : Bool) {f : State → State} (hf : ∀ u, Elected s u → Elected s (f u)) : Elected s (t.when c f) := by
  cases c
  · exact h
  · exact hf t h

theorem ptpSetPort (h : Elected s t) (p : Nat) : Elected s (t.ptpSetPort p) := by
  unfold State.ptpSetPort
  dsimp only
  split
  · exact h
  · exact (h.updPtp (by exact fun _ => ⟨rfl, rfl, rfl, rfl⟩)).raise _ _

theorem ptpPorts (h : Elected s t) : Elected s t.ptpPorts :=
  each_inv t (Elected s) _ _ (fun p _ hu => hu.ptpSetPort p) h

theorem ptpSelected (h : Elected s t) : Elected s t.ptpSelected := by
  unfold State.ptpSelected
  split
  · exact h
  · exact (h.updPtp (by exact fun _ => ⟨rfl, rfl, rfl, rfl⟩)).raise _ _

theorem ptpUtcSeen (h : Elected s t) (b : PtpParent) : Elected s (t.ptpUtcSeen b) := by
  unfold State.ptpUtcSeen
  split
  · exact h
  · exact (h.updPtp (by exact fun _ => ⟨rfl, rfl, rfl, rfl⟩)).when _ fun _ hu => hu.raise _ _

theorem ptpElect (h : Elected s t) : Elected s t.ptpElect := by
  have hbest := h.updPtp (f := fun x => { x with foreign := t.ptpHeard, parent := t.ptpHeard.foldl ptpPick none }) fun _ => ⟨rfl, rfl, rfl, rfl⟩
  have hnew := hbest.when (!((t.ptpHeard.foldl ptpPick none).map fun b => (b.port, b.source)) == t.time.ptp.parent.map fun b => (b.port, b.source))
    (f := State.updPtp fun x => { x with sync := none, exch := none, delayReq := none, lastSync := t.now }) fun u hu =>
      hu.updPtp (by exact fun _ => ⟨rfl, rfl, rfl, rfl⟩)
  unfold State.ptpElect
  dsimp only
  split
  · exact (hnew.ptpSelected.ptpUtcSeen _).ptpPorts
  · exact hnew.ptpSelected.ptpPorts

theorem get (h : Elected s t) {r : FRef} (ha : r.addr < 0x11003000 ∨ 0x11004800 ≤ r.addr) : t.get r = s.get r :=
  get_of_rd (h.words _ ha)

end Elected

end State

theorem Assoc.findD_put_same {α : Type} (l : List (Nat × α)) (a : Nat) (x d : α) : Assoc.findD (Assoc.put l a x) a d = x := by
  unfold Assoc.findD
  rw [Assoc.find_put_same]
  rfl

theorem Assoc.findD_put_other {α : Type} (l : List (Nat × α)) {a b : Nat} (x d : α) (h : b ≠ a) :
    Assoc.findD (Assoc.put l a x) b d = Assoc.findD l b d := by
  unfold Assoc.findD
  rw [Assoc.find_put_other _ _ _ _ h]

namespace State

/-! ### A single sender -/

theorem ptpLeads_of_follower {s : State} (h : s.time.ptp.cfg.leader = false) : s.ptpLeads = false := by
  unfold ptpLeads
  rw [h]
  rfl

/-- What the ports keep while each takes its state. -/
structure PortsJudged (s t : State) : Prop where
  parent : t.time.ptp.parent = s.time.ptp.parent
  gm : t.time.ptp.gm = s.time.ptp.gm
  cfg : t.time.ptp.cfg = s.time.ptp.cfg

theorem ptp_raise (s : State) (src : Nat) (items : List Nat) : (s.raise src items).time = s.time :=
  ((RegsOnly.refl s).raise src items).time

theorem portsJudged_setPort (p : Nat) (s : State) : PortsJudged s (s.ptpSetPort p) := by
  unfold ptpSetPort
  dsimp only
  split
  · exact ⟨rfl, rfl, rfl⟩
  · exact ⟨by rw [ptp_raise]; rfl, by rw [ptp_raise]; rfl, by rw [ptp_raise]; rfl⟩

theorem port_setPort_same (p : Nat) (s : State) : Assoc.findD (s.ptpSetPort p).time.ptp.ports p .listening = s.ptpDecide p := by
  unfold ptpSetPort
  dsimp only
  split
  · assumption
  · rw [ptp_raise]
    exact Assoc.findD_put_same _ _ _ _

theorem port_setPort_other {p q : Nat} (s : State) (h : q ≠ p) :
    Assoc.findD (s.ptpSetPort p).time.ptp.ports q .listening = Assoc.findD s.time.ptp.ports q .listening := by
  unfold ptpSetPort
  dsimp only
  split
  · rfl
  · rw [ptp_raise]
    exact Assoc.findD_put_other _ _ _ h

theorem PortsJudged.trans {s t u : State} (h : PortsJudged s t) (h' : PortsJudged t u) : PortsJudged s u :=
  ⟨h'.parent.trans h.parent, h'.gm.trans h.gm, h'.cfg.trans h.cfg⟩

theorem ptpDecide_congr {s t : State} {b : PtpParent} (p : Nat) (hb : s.time.ptp.parent = some b) (hl : s.time.ptp.cfg.leader = false)
    (h : PortsJudged s t) : t.ptpDecide p = if b.port = p then .follower else .passive := by
  have hleads : t.ptpLeads = false := ptpLeads_of_follower (by rw [h.cfg]; exact hl)
  unfold ptpDecide
  rw [h.parent, hb, hleads, h.cfg, hl]
  rfl

/-- The port where the parent is heard follows it, among the ports that take their states. -/
theorem port_each {s t : State} {b : PtpParent} {l : List Nat} (hb : s.time.ptp.parent = some b) (hl : s.time.ptp.cfg.leader = false)
    (h : PortsJudged s t) (hp : b.port ∈ l ∨ Assoc.findD t.time.ptp.ports b.port .listening = .follower) :
    Assoc.findD (t.each l ptpSetPort).time.ptp.ports b.port .listening = .follower := by
  induction l generalizing t with
  | nil => exact hp.resolve_left (List.not_mem_nil)
  | cons q l ih =>
    refine ih (h.trans (portsJudged_setPort q t)) ?_
    by_cases hq : b.port = q
    · right
      rw [← hq, port_setPort_same, ptpDecide_congr _ hb hl h, if_pos rfl]
    · rw [port_setPort_other t hq]
      rcases hp with hp | hp
      · exact Or.inl ((List.mem_cons.mp hp).resolve_left hq)
      · exact Or.inr hp

theorem portsJudged_ports (s : State) : PortsJudged s s.ptpPorts :=
  each_inv s (PortsJudged s) _ _ (fun p _ h => h.trans (portsJudged_setPort p _)) ⟨rfl, rfl, rfl⟩

theorem ptpGm_of_follower {s : State} {b : PtpParent} (hb : s.time.ptp.parent = some b) (hl : s.time.ptp.cfg.leader = false) :
    s.ptpGm = some b.ds.identity := by
  unfold ptpGm
  rw [ptpLeads_of_follower hl, hb]
  rfl

/-- Another grandmaster is selected, with its event. -/
theorem ptpSelected_new {s : State} {b : PtpParent} (hb : s.time.ptp.parent = some b) (hl : s.time.ptp.cfg.leader = false)
    (hg : s.time.ptp.gm ≠ some b.ds.identity) :
    s.ptpSelected = (s.updPtp fun x => { x with gm := some b.ds.identity }).raise 135 [b.port] := by
  unfold ptpSelected
  rw [ptpGm_of_follower hb hl, ptpLeads_of_follower hl, hb, if_neg]
  · rfl
  · exact fun h => h.elim (fun hn => nomatch hn) fun he => hg he.symm

theorem portsJudged_utcSeen (b : PtpParent) (s : State) : PortsJudged s (s.ptpUtcSeen b) := by
  unfold ptpUtcSeen
  split
  · exact ⟨rfl, rfl, rfl⟩
  · have htime : ∀ (c : Bool) (t : State), (t.when c (raise 138 [b.port])).time = t.time := fun c t =>
      when_keeps t (·.time) c _ (ptp_raise t _ _)
    exact ⟨by rw [htime]; rfl, by rw [htime]; rfl, by rw [htime]; rfl⟩

/-- The sender the BMCA finds best becomes the parent; then it selects, notes UTC and sets the ports. -/
theorem ptpElect_best {s : State} {b : PtpParent} (h : s.ptpHeard.foldl ptpPick none = some b) :
    ∃ u : State, s.ptpElect = ((u.ptpSelected).ptpUtcSeen b).ptpPorts ∧ u.time.ptp.parent = some b ∧ u.time.ptp.gm = s.time.ptp.gm ∧
      u.time.ptp.cfg = s.time.ptp.cfg := by
  unfold ptpElect
  dsimp only
  rw [h]
  refine ⟨_, rfl, ?_⟩
  generalize (!(Option.map (fun b : PtpParent => (b.port, b.source)) (some b) ==
    Option.map (fun b : PtpParent => (b.port, b.source)) s.time.ptp.parent)) = c
  cases c
  · exact ⟨rfl, rfl, rfl⟩
  · exact ⟨rfl, rfl, rfl⟩

theorem ptpHeard_new {s : State} {b : PtpParent} (hf : s.time.ptp.foreign = [b]) (hn : b.heard = s.now) (hr : 0 < s.ptpReceipt) :
    s.ptpHeard = [b] := by
  have hlt : s.now < b.heard + s.ptpReceipt := by omega
  unfold ptpHeard
  rw [hf]
  exact List.filter_cons_of_pos (p := fun b : PtpParent => decide (s.now < b.heard + s.ptpReceipt)) (decide_eq_true hlt)

/-- The first sender heard becomes the parent, its port a follower, and the change of grandmaster is raised. -/
theorem ptpElect_first {s : State} {b : PtpParent} (hf : s.time.ptp.foreign = [b]) (hn : b.heard = s.now) (hr : 0 < s.ptpReceipt)
    (hl : s.time.ptp.cfg.leader = false) (hg : s.time.ptp.gm ≠ some b.ds.identity) (hp : b.port ∈ s.time.ptp.cfg.ports) :
    s.ptpElect.time.ptp.parent = some b ∧ Assoc.findD s.ptpElect.time.ptp.ports b.port .listening = .follower ∧
      s.ptpElect.time.ptp.gm = some b.ds.identity ∧ Raised 135 s.ptpElect := by
  obtain ⟨u, hu, hparent, hgm, hcfg⟩ := ptpElect_best (s := s) (b := b) (by rw [ptpHeard_new hf hn hr]; rfl)
  have hul : u.time.ptp.cfg.leader = false := by rw [hcfg]; exact hl
  have hsel := ptpSelected_new hparent hul (by rw [hgm]; exact hg)
  have hraised : Raised 135 u.ptpSelected := by
    rw [hsel]
    exact raised_raise _ _ (by decide)
  have hv : u.ptpSelected.time.ptp.parent = some b ∧ u.ptpSelected.time.ptp.gm = some b.ds.identity ∧
      u.ptpSelected.time.ptp.cfg = s.time.ptp.cfg := by
    rw [hsel, ptp_raise]
    exact ⟨hparent, rfl, hcfg⟩
  obtain ⟨hvp, hvg, hvc⟩ := hv
  generalize u.ptpSelected = v at hu hraised hvp hvg hvc
  have hutc := portsJudged_utcSeen b v
  have hall := hutc.trans (portsJudged_ports _)
  rw [hu]
  refine ⟨hall.parent.trans hvp, ?_, hall.gm.trans hvg, ?_⟩
  · have hports : (v.ptpUtcSeen b).time.ptp.cfg.ports = s.time.ptp.cfg.ports := by rw [hutc.cfg, hvc]
    have hlead : (v.ptpUtcSeen b).time.ptp.cfg.leader = false := by rw [hutc.cfg, hvc]; exact hl
    exact port_each (hutc.parent.trans hvp) hlead ⟨rfl, rfl, rfl⟩ (Or.inl (by rw [hports]; exact hp))
  · exact (((Elected.refl v).ptpUtcSeen b).ptpPorts).raised _ hraised


/-! ### The follower's discipline -/

/-- The network time of the firmware, its events, the ST 2059-2 words and what the druse bus shows have moved. -/
structure PtpMoved (s t : State) : Prop where
  only : ∃ r f l g x, t = { s with regs := r, flt := f, lastRaise := l, gbus := g, time := { s.time with ptp := x } }
  kept : RegsKept [.gbus, .flt, .lode] s t

namespace PtpMoved

variable {s t u : State}

theorem refl (s : State) : PtpMoved s s := ⟨⟨_, _, _, _, _, rfl⟩, RegsKept.refl _ _⟩

theorem updPtp (h : PtpMoved s t) (f : PtpState → PtpState) : PtpMoved s (t.updPtp f) := by
  refine ⟨?_, h.kept.same rfl⟩
  obtain ⟨_, _, _, _, _, rfl⟩ := h.only
  exact ⟨_, _, _, _, _, rfl⟩

theorem updGbus (h : PtpMoved s t) (f : GbusState → GbusState) : PtpMoved s (t.updGbus f) := by
  refine ⟨?_, h.kept.same rfl⟩
  obtain ⟨_, _, _, _, _, rfl⟩ := h.only
  exact ⟨_, _, _, _, _, rfl⟩

theorem regsOnly (h : PtpMoved s t) (h' : RegsOnly t u) (hk : RegsKept [.gbus, .flt, .lode] s u) : PtpMoved s u := by
  refine ⟨?_, hk⟩
  obtain ⟨_, _, _, _, _, rfl⟩ := h.only
  obtain ⟨_, _, _, rfl⟩ := h'
  exact ⟨_, _, _, _, _, rfl⟩

theorem set (h : PtpMoved s t) {r : FRef} (v : Nat) (hr : Outside [.gbus, .flt, .lode] r.addr = false) : PtpMoved s (t.set r v) :=
  h.regsOnly ((RegsOnly.refl t).set r v) (h.kept.set v hr)

theorem raise (h : PtpMoved s t) (src : Nat) (items : List Nat) : PtpMoved s (t.raise src items) :=
  h.regsOnly ((RegsOnly.refl t).raise src items) (h.kept.raise src items (by decide))

theorem gbusEvent (h : PtpMoved s t) (n : Nat) (items : List Nat) : PtpMoved s (t.gbusEvent n items) :=
  h.regsOnly ((RegsOnly.refl t).eventEn _ _ _ _ _) (h.kept.eventEn _ _ _ _ (by decide) (by decide))

theorem when (h : PtpMoved s t) (c : Bool) {f : State → State} (hf : PtpMoved s (f t)) : PtpMoved s (t.when c f) := by
  cases c
  · exact h
  · exact hf

theorem setMute (h : PtpMoved s t) (on : Bool) : PtpMoved s (t.setMute on) := by
  unfold State.setMute
  split
  · exact h
  · exact ((h.updGbus _).set _ (by decide)).gbusEvent _ _

theorem terrLand (h : PtpMoved s t) (d : Word) : PtpMoved s (t.terrLand d) := by
  have hset := (h.set (r := Reg.GBUS.TERR) (d.toNat % 65536) (by decide)).updGbus fun x => { x with terrAt := t.now }
  unfold State.terrLand
  dsimp only
  split
  · exact hset.setMute true
  · split
    · exact hset.setMute false
    · exact hset

theorem ptpSmd (h : PtpMoved s t) (l : List Word) : PtpMoved s (t.ptpSmd l) := by
  unfold State.ptpSmd
  split
  · exact h
  · refine each_inv_mem _ (PtpMoved s) _ _ (fun p hp u hu => hu.set _ ?_) (h.updPtp _)
    have hlt : p.1 < 4 := List.mem_range.mp (List.of_mem_zip hp).1
    obtain ⟨j, w⟩ := p
    dsimp only at hlt ⊢
    interval_cases j <;> decide

theorem get (h : PtpMoved s t) {r : FRef} (hr : Outside [.gbus, .flt, .lode] r.addr = true) : t.get r = s.get r := h.kept.get hr

theorem steps (h : PtpMoved s t) : t.time.steps = s.time.steps := by obtain ⟨_, _, _, _, _, rfl⟩ := h.only; rfl

theorem now (h : PtpMoved s t) : t.now = s.now := by obtain ⟨_, _, _, _, _, rfl⟩ := h.only; rfl

theorem timeEn (h : PtpMoved s t) : t.timeEn = s.timeEn := by unfold State.timeEn; rw [h.get (by decide)]
theorem servoMode (h : PtpMoved s t) : t.servoMode = s.servoMode := by unfold State.servoMode; rw [h.get (by decide)]
theorem inService (h : PtpMoved s t) : t.inService = s.inService := by unfold State.inService; rw [h.get (by decide)]
theorem incrInUse (h : PtpMoved s t) : t.incrInUse = s.incrInUse := by
  unfold State.incrInUse get64
  rw [h.get (by decide), h.get (by decide)]
theorem beforeStep (h : PtpMoved s t) (n : Nat) : t.beforeStep n = s.beforeStep n := by
  unfold State.beforeStep get64
  rw [h.get (by decide), h.get (by decide)]

end PtpMoved

theorem time_setMute (on : Bool) (s : State) : (s.setMute on).time = s.time := by
  unfold setMute
  split
  · rfl
  · exact (((RegsOnly.refl _).setB _ _).eventEn _ _ _ _ _).time.trans rfl

theorem time_terrLand (d : Word) (s : State) : (s.terrLand d).time = s.time := by
  unfold terrLand
  dsimp only
  split
  · exact time_setMute _ _
  · split
    · exact time_setMute _ _
    · rfl

theorem get_terr_setMute (on : Bool) (s : State) : (s.setMute on).get Reg.GBUS.TERR = s.get Reg.GBUS.TERR := by
  unfold setMute
  split
  · rfl
  · exact (get_eventEn_other (r := Reg.GBUS.TERR) (e := Reg.GBUS.EVSTAT) _ _ _ _ _ (by decide) (by decide) (by decide)).trans
      (get_set_other _ _ (by decide) (by decide))

theorem get_terr_terrLand (d : Word) (s : State) : (s.terrLand d).get Reg.GBUS.TERR = d.toNat % 65536 := by
  have hset (u : State) (x : GbusState → GbusState) : ((u.set Reg.GBUS.TERR (d.toNat % 65536)).updGbus x).get Reg.GBUS.TERR =
      d.toNat % 65536 := by
    change (u.set Reg.GBUS.TERR (d.toNat % 65536)).get Reg.GBUS.TERR = _
    rw [get_set_same _ _ (by decide)]
    exact Nat.mod_mod _ _
  unfold terrLand
  dsimp only
  split
  · rw [get_terr_setMute, hset]
  · split
    · rw [get_terr_setMute, hset]
    · rw [hset]

/-- The follower judges an offset: it notes it, tells its alarm, and TERR shows its magnitude (R399, R481). -/
def ptpJudged (off : Int) (s : State) : State :=
  let c := s.time.ptp.cfg
  let a := off.natAbs
  let s := s.updPtp fun x =>
    { x with offset := off, lastSync := s.now, syncLost := false,
             belowSince := if a < 1000 then some (x.belowSince.getD s.now) else none }
  let overs := decide (c.alarmNs < a) && decide (c.alarmNs ≠ 0)
  let s := s.when (overs && !s.time.ptp.alarmed) (raise 137 [ofSigned 32 off])
  (s.updPtp fun x => { x with alarmed := overs }).terrLand (BitVec.ofNat 32 (min a 0xFFFF))

theorem ptpDiscipline_eq (off : Int) (s : State) : s.ptpDiscipline off =
    if (s.ptpJudged off).time.ptp.first ∨ ((s.ptpJudged off).inService ∧ s.time.ptp.cfg.stepLimitNs < off.natAbs) then
      ((s.ptpJudged off).ptpStep off).updPtp fun x => { x with first := false }
    else (s.ptpJudged off).ptpSlew off := rfl

theorem ptpMoved_judged (off : Int) (s : State) : PtpMoved s (s.ptpJudged off) :=
  PtpMoved.terrLand (((((PtpMoved.refl s).updPtp _)).when _ (((PtpMoved.refl s).updPtp _).raise _ _)).updPtp _) _

theorem terr_judged (off : Int) (s : State) : (s.ptpJudged off).get Reg.GBUS.TERR = min off.natAbs 65535 := by
  unfold ptpJudged
  dsimp only
  rw [get_terr_terrLand, BitVec.toNat_ofNat]
  omega

/-- What the judgement of an offset notes, and what it leaves. -/
structure Noticed (off : Int) (s t : State) : Prop where
  offset : t.time.ptp.offset = off
  lastSync : t.time.ptp.lastSync = s.now
  syncLost : t.time.ptp.syncLost = false
  first : t.time.ptp.first = s.time.ptp.first
  exch : t.time.ptp.exch = s.time.ptp.exch
  sync : t.time.ptp.sync = s.time.ptp.sync
  cfg : t.time.ptp.cfg = s.time.ptp.cfg

theorem noticed_judged (off : Int) (s : State) : Noticed off s (s.ptpJudged off) := by
  have htime : (s.ptpJudged off).time = _ := time_terrLand _ _
  have hraise : ∀ (c : Bool) (t : State), (t.when c (raise 137 [ofSigned 32 off])).time = t.time := fun c t =>
    when_keeps t (·.time) c _ (ptp_raise t _ _)
  constructor
  all_goals
    rw [htime]
    unfold updPtp updTime
    dsimp only
    rw [hraise]

theorem regsOnly_cfgIgnored (o : Nat) (s : State) : RegsOnly s (s.cfgIgnored 0 ⟨.time, 0⟩ o) := by
  have hrec : RegsOnly s ((s.set (Blk.cfgIgn ⟨.time, 0⟩) 1).recordIgnored 0 o) :=
    (((RegsOnly.refl s).set _ _).set _ _).set _ _ |>.bumpSat _ _
  unfold cfgIgnored markIgnored
  rw [if_neg (by decide)]
  exact hrec.raise _ _

theorem regsOnly_incrHiLand (d : Word) (s : State) : RegsOnly s (s.incrHiLand d) := by
  unfold incrHiLand
  dsimp only
  split
  · unfold incrIgnored timeEvent
    exact ((RegsOnly.refl s).set _ _).event _ _ _ _
  · unfold setIncrInUse set64
    exact (((RegsOnly.refl s).set _ _).set _ _).set _ _

theorem ptp_stepHiLand (d : Word) (s : State) : (s.stepHiLand d).time.ptp = s.time.ptp := by
  unfold stepHiLand showStepPend setB
  rw [((RegsOnly.refl _).set _ _).time]
  rfl

theorem ptp_timeFirmware (o : Nat) (d : Word) (s : State) : (s.timeFirmware o d).time.ptp = s.time.ptp := by
  unfold timeFirmware
  split
  · rw [(regsOnly_cfgIgnored _ s).time]
  · split
    · rw [(regsOnly_incrHiLand d s).time]
    · exact ptp_stepHiLand d s

/-- The discipline keeps what its judgement noted, whichever way it moves the counter. -/
theorem noticed_discipline (off : Int) (s : State) : (s.ptpDiscipline off).time.ptp.offset = off ∧
    (s.ptpDiscipline off).time.ptp.lastSync = s.now ∧ (s.ptpDiscipline off).time.ptp.exch = s.time.ptp.exch ∧
    (s.ptpDiscipline off).time.ptp.sync = s.time.ptp.sync ∧ (s.ptpDiscipline off).time.ptp.syncLost = false := by
  have h := noticed_judged off s
  rw [ptpDiscipline_eq]
  split
  · have hp : ((s.ptpJudged off).ptpStep off).time.ptp = (s.ptpJudged off).time.ptp := ptp_timeFirmware _ _ _
    unfold updPtp updTime
    dsimp only
    rw [hp]
    exact ⟨h.offset, h.lastSync, h.exch, h.sync, h.syncLost⟩
  · have hp : ((s.ptpJudged off).ptpSlew off).time.ptp = (s.ptpJudged off).time.ptp := ptp_timeFirmware _ _ _
    rw [hp]
    exact ⟨h.offset, h.lastSync, h.exch, h.sync, h.syncLost⟩

/-- The first offset, and in service one beyond the limit, steps the counter. -/
theorem ptpDiscipline_step {off : Int} {s : State} (h : s.time.ptp.first = true ∨ (s.inService = true ∧ s.time.ptp.cfg.stepLimitNs < off.natAbs)) :
    s.ptpDiscipline off = ((s.ptpJudged off).ptpStep off).updPtp fun x => { x with first := false } := by
  rw [ptpDiscipline_eq, if_pos]
  rw [(noticed_judged off s).first, (ptpMoved_judged off s).inService]
  exact h

/-- Any other offset slews it. -/
theorem ptpDiscipline_slew {off : Int} {s : State} (hf : s.time.ptp.first = false)
    (h : s.inService = false ∨ off.natAbs ≤ s.time.ptp.cfg.stepLimitNs) : s.ptpDiscipline off = (s.ptpJudged off).ptpSlew off := by
  rw [ptpDiscipline_eq, if_neg]
  rw [(noticed_judged off s).first, (ptpMoved_judged off s).inService, hf]
  rintro (hc | ⟨hi, hl⟩)
  · cases hc
  · rcases h with h | h
    · rw [h] at hi
      cases hi
    · exact absurd hl (Nat.not_lt.mpr h)

theorem timeFirmware_step {s : State} (d : Word) (h : s.timeEn = true) : s.timeFirmware 0x34 d = s.stepHiLand d := by
  unfold timeFirmware
  rw [h]
  rfl

theorem timeFirmware_incr {s : State} (d : Word) (h : s.timeEn = true) : s.timeFirmware 0x24 d = s.incrHiLand d := by
  unfold timeFirmware
  rw [h]
  rfl

theorem steps_ptpStep {s : State} (off : Int) (h : s.timeEn = true) :
    (s.ptpStep off).time.steps = s.time.steps ++ [toSigned 64 (ofSigned 64 (-off))] := by
  have hlt : ofSigned 64 (-off) < 2 ^ 64 := by unfold ofSigned; omega
  have hcut : (BitVec.ofNat 32 (ofSigned 64 (-off))).toNat + (BitVec.ofNat 32 (ofSigned 64 (-off) / 2 ^ 32)).toNat * 2 ^ 32 =
      ofSigned 64 (-off) := by
    rw [BitVec.toNat_ofNat, BitVec.toNat_ofNat]
    generalize ofSigned 64 (-off) = d at hlt
    omega
  unfold ptpStep
  dsimp only
  rw [timeFirmware_step _ (by exact h)]
  unfold stepHiLand showStepPend updTime
  dsimp only
  rw [hcut]
  rfl

theorem terr_ptpStep {s : State} (off : Int) (h : s.timeEn = true) : (s.ptpStep off).get Reg.GBUS.TERR = s.get Reg.GBUS.TERR := by
  unfold ptpStep
  dsimp only
  rw [timeFirmware_step _ (by exact h)]
  exact get_set_other _ _ (by decide) (by decide)

/-- INCR of 36 bits that the firmware writes: in range it is in use, else the value in use stays. -/
def incrWritten (v old : Nat) : Nat := if incrOk (v % 2 ^ 36) then v % 2 ^ 36 else old

theorem incrHiLand_written {s : State} {v : Nat} (hs : s.servoMode = false) :
    ((s.set Reg.TIME.INCRLO v).incrHiLand (BitVec.ofNat 32 (v / 2 ^ 32))).incrInUse = incrWritten v s.incrInUse := by
  have hserv : (s.set Reg.TIME.INCRLO v).servoMode = false := by
    unfold servoMode
    rw [get_set_other _ _ (by decide) (by decide)]
    exact hs
  have hwritten : (s.set Reg.TIME.INCRLO v).get Reg.TIME.INCRLO + (BitVec.ofNat 32 (v / 2 ^ 32)).toNat % 16 * 2 ^ 32 = v % 2 ^ 36 := by
    rw [get_set_same _ _ (by decide), BitVec.toNat_ofNat]
    change v % 2 ^ 32 + _ = _
    omega
  have hlo (u : State) (n : Nat) : (u.set Reg.TIME.INCRLO n).incrInUse = u.incrInUse := by
    unfold incrInUse get64
    rw [get_set_other _ _ (by decide) (by decide), get_set_other _ _ (by decide) (by decide)]
  unfold incrHiLand incrWritten
  dsimp only
  rw [hserv, hwritten]
  generalize v % 2 ^ 36 = w
  cases hok : incrOk w
  · have hign (u : State) (l : List Nat) : (u.incrIgnored l).incrInUse = u.incrInUse := by
      unfold incrInUse get64 incrIgnored timeEvent event
      rw [get_raise _ _ _ (by decide), get_raise _ _ _ (by decide), get_orBit_other _ _ (by decide) (by decide),
        get_orBit_other _ _ (by decide) (by decide), get_set_other _ _ (by decide) (by decide), get_set_other _ _ (by decide) (by decide)]
    exact (hign _ _).trans (hlo _ _)
  · have hset (u : State) (h : w < 2 ^ 36) : (u.setIncrInUse w).incrInUse = w := by
      unfold incrInUse get64 setIncrInUse set64
      rw [get_set_same _ _ (by decide), get_set_other _ _ (by decide) (by decide), get_set_same _ _ (by decide)]
      change w % 2 ^ 32 + w / 2 ^ 32 % 2 ^ 4 * 2 ^ 32 = w
      omega
    have hlt : w < 2 ^ 36 := by
      unfold incrOk at hok
      rw [Bool.and_eq_true, decide_eq_true_eq, decide_eq_true_eq] at hok
      omega
    exact hset _ hlt


theorem timeEn_set {s : State} {r : FRef} (v : Nat) (h : (Reg.TIME.CTRL_EN).apart r = true) (hi : r.hi < 32) :
    (s.set r v).timeEn = s.timeEn := by
  unfold timeEn
  rw [get_set_other _ _ h hi]

/-- What the chapter's formula gives for INCR after an offset (R399). -/
def slewIncr (s : State) (off : Int) : Nat :=
  (Config.ptpFreqEstimate s.incrInUse off - clampInt (-(divRound (s.time.ptp.cfg.slewMaxPpb * 8589934592) 1000000000))
    (divRound (s.time.ptp.cfg.slewMaxPpb * 8589934592) 1000000000) (Config.ptpCorrection s.incrInUse off)).toNat

theorem ptpSlew_eq {s : State} (off : Int) (h : s.timeEn = true) : s.ptpSlew off =
    (s.set Reg.TIME.INCRLO (s.slewIncr off)).incrHiLand (BitVec.ofNat 32 (s.slewIncr off / 2 ^ 32)) := by
  unfold ptpSlew
  dsimp only
  exact timeFirmware_incr _ ((timeEn_set _ (by decide) (by decide)).trans h)

theorem incrInUse_ptpSlew {s : State} (off : Int) (h : s.timeEn = true) (hs : s.servoMode = false) :
    (s.ptpSlew off).incrInUse = incrWritten (s.slewIncr off) s.incrInUse := by
  rw [ptpSlew_eq off h, incrHiLand_written hs]

theorem steps_ptpSlew {s : State} (off : Int) (h : s.timeEn = true) : (s.ptpSlew off).time.steps = s.time.steps := by
  rw [ptpSlew_eq off h, (regsOnly_incrHiLand _ _).time]
  rfl

theorem terr_incrHiLand (d : Word) (s : State) : (s.incrHiLand d).get Reg.GBUS.TERR = s.get Reg.GBUS.TERR := by
  unfold incrHiLand
  dsimp only
  split
  · unfold incrIgnored timeEvent event
    rw [get_raise _ _ _ (by decide), get_orBit_other _ _ (by decide) (by decide), get_set_other _ _ (by decide) (by decide)]
  · unfold setIncrInUse set64
    rw [get_set_other _ _ (by decide) (by decide), get_set_other _ _ (by decide) (by decide), get_set_other _ _ (by decide) (by decide)]

theorem terr_ptpSlew {s : State} (off : Int) (h : s.timeEn = true) : (s.ptpSlew off).get Reg.GBUS.TERR = s.get Reg.GBUS.TERR := by
  rw [ptpSlew_eq off h, terr_incrHiLand, get_set_other _ _ (by decide) (by decide)]

/-- A step by the discipline: it waits for the counter, and the next offset is no longer the first. -/
theorem discipline_step {off : Int} {s : State} (hen : s.timeEn = true)
    (h : s.time.ptp.first = true ∨ (s.inService = true ∧ s.time.ptp.cfg.stepLimitNs < off.natAbs)) :
    (s.ptpDiscipline off).get Reg.GBUS.TERR = min off.natAbs 65535 ∧
      (s.ptpDiscipline off).time.steps = s.time.steps ++ [toSigned 64 (ofSigned 64 (-off))] ∧
      (s.ptpDiscipline off).time.ptp.first = false := by
  have hm := ptpMoved_judged off s
  have hjen : (s.ptpJudged off).timeEn = true := hm.timeEn.trans hen
  rw [ptpDiscipline_step h]
  refine ⟨?_, ?_, rfl⟩
  · exact (terr_ptpStep off hjen).trans (terr_judged off s)
  · exact (steps_ptpStep off hjen).trans (by rw [hm.steps])

/-- A slew by the discipline: a value in range is in use, and no step waits that did not wait before. -/
theorem discipline_slew {off : Int} {s : State} (hen : s.timeEn = true) (hserv : s.servoMode = false) (hf : s.time.ptp.first = false)
    (h : s.inService = false ∨ off.natAbs ≤ s.time.ptp.cfg.stepLimitNs) :
    (s.ptpDiscipline off).get Reg.GBUS.TERR = min off.natAbs 65535 ∧
      (s.ptpDiscipline off).incrInUse = incrWritten (s.slewIncr off) s.incrInUse ∧
      (s.ptpDiscipline off).time.steps = s.time.steps := by
  have hm := ptpMoved_judged off s
  have hjen : (s.ptpJudged off).timeEn = true := hm.timeEn.trans hen
  have hincr : (s.ptpJudged off).slewIncr off = s.slewIncr off := by
    unfold slewIncr
    rw [hm.incrInUse, (noticed_judged off s).cfg]
  rw [ptpDiscipline_slew hf h]
  refine ⟨(terr_ptpSlew off hjen).trans (terr_judged off s), ?_, (steps_ptpSlew off hjen).trans hm.steps⟩
  rw [incrInUse_ptpSlew off hjen (hm.servoMode.trans hserv), hincr, hm.incrInUse]

/-! ### Messages received -/

theorem ptp_smd (l : List Word) (s : State) : ∃ w, (s.ptpSmd l).time.ptp = { s.time.ptp with smd := w } := by
  unfold ptpSmd
  split
  · exact ⟨_, rfl⟩
  · have htime : ∀ (k : List (Nat × Word)) (t : State), (t.each k fun p t => t.set (Reg.LODE.SMD p.1) p.2.toNat).time = t.time :=
      fun k t => each_inv t (fun u => u.time = t.time) _ _ (fun _ _ h => h) rfl
    exact ⟨l, by rw [htime]; rfl⟩

/-- A complete exchange: its stamps are kept, and its Sync waits no more. -/
def exchanged (t1 : Int) (t2 : Nat) (s : State) : State := s.updPtp fun x => { x with exch := some (t1, t2), sync := none }

theorem ptpSyncDone_sound {t1 : Int} {t2 : Nat} {s : State} (h : s.beforeStep t2 = false) :
    s.ptpSyncDone t1 t2 = (s.exchanged t1 t2).ptpDiscipline ((t2 : Int) - t1 - s.time.ptp.pathDelay) := by
  unfold ptpSyncDone exchanged
  exact if_neg (by rw [h]; exact Bool.false_ne_true)

theorem ptpSyncDone_straddling {t1 : Int} {t2 : Nat} {s : State} (h : s.beforeStep t2 = true) :
    s.ptpSyncDone t1 t2 = s.updPtp fun x => { x with sync := none, exch := none, lastSync := s.now, syncLost := false } := by
  unfold ptpSyncDone
  exact if_pos h

/-- The exchange a Sync of the parent completes, with its ST 2059-2 metadata taken. -/
theorem ptpMoved_exchanged (l : List Word) (t1 : Int) (t2 : Nat) (s : State) : PtpMoved s ((s.ptpSmd l).exchanged t1 t2) :=
  ((PtpMoved.refl s).ptpSmd l).updPtp _

section Received

variable {port stamp : Nat} {msg : PtpMsg} {s : State}

/-- Another port, another domain or another kind: the message is discarded. -/
theorem ptpReceive_out (h : s.time.ptp.cfg.ports.contains port = false ∨ msg.domain ≠ s.time.ptp.cfg.domain ∨ msg.body = .other) :
    s.ptpReceive port stamp msg = s := by
  unfold ptpReceive
  dsimp only
  split
  · rfl
  next hin =>
    rcases h with h | h | h
    · exact absurd (by rw [h]; rfl) hin
    · exact absurd (by rw [decide_eq_true h, Bool.or_true]) hin
    · rw [h]

variable (hp : s.time.ptp.cfg.ports.contains port = true) (hd : msg.domain = s.time.ptp.cfg.domain)

include hp hd

theorem ptpReceive_guard :
    ¬(!s.time.ptp.cfg.ports.contains port || decide (msg.domain ≠ s.time.ptp.cfg.domain)) = true := by
  rw [hp, decide_eq_false (not_not.mpr hd)]
  exact Bool.false_ne_true

theorem ptpReceive_announce {ds : PtpDataset} {utc : Int} {leap : Nat} (hb : msg.body = .announce ds utc leap) :
    s.ptpReceive port stamp msg = s.ptpAnnounce port msg.source ds utc leap := by
  unfold ptpReceive
  dsimp only
  rw [if_neg (ptpReceive_guard hp hd), hb]

theorem ptpReceive_oneStep {t1 : Nat} {l : List Word} (hb : msg.body = .syncOneStep t1 l) :
    s.ptpReceive port stamp msg =
      s.when (s.ptpFromParent port msg.source) fun s => (s.ptpSmd l).ptpSyncDone (t1 + msg.correction) stamp := by
  unfold ptpReceive
  dsimp only
  rw [if_neg (ptpReceive_guard hp hd), hb]

theorem ptpReceive_twoStep (hb : msg.body = .syncTwoStep) :
    s.ptpReceive port stamp msg = s.when (s.ptpFromParent port msg.source)
      (updPtp fun x => { x with sync := some (msg.seq, stamp, msg.correction) }) := by
  unfold ptpReceive
  dsimp only
  rw [if_neg (ptpReceive_guard hp hd), hb]

theorem ptpReceive_followUp {t1 : Nat} {l : List Word} (hb : msg.body = .followUp t1 l) (hf : s.ptpFromParent port msg.source = true)
    {q t2 : Nat} {corr : Int} (hs : s.time.ptp.sync = some (q, t2, corr)) (hq : q = msg.seq) :
    s.ptpReceive port stamp msg = (s.ptpSmd l).ptpSyncDone (t1 + corr + msg.correction) t2 := by
  unfold ptpReceive
  dsimp only
  rw [if_neg (ptpReceive_guard hp hd), hb]
  dsimp only
  rw [if_pos hf, hs]
  exact if_pos hq

theorem ptpReceive_followUp_other {t1 : Nat} {l : List Word} (hb : msg.body = .followUp t1 l)
    (h : s.ptpFromParent port msg.source = false ∨ (s.time.ptp.sync.map fun p => p.1) ≠ some msg.seq) :
    s.ptpReceive port stamp msg = s := by
  unfold ptpReceive
  dsimp only
  rw [if_neg (ptpReceive_guard hp hd), hb]
  dsimp only
  split
  next hf =>
    have hseq := h.resolve_left (by rw [hf]; exact fun h => nomatch h)
    split
    next q t2 corr hs =>
      rw [hs] at hseq
      exact if_neg fun hq => hseq (congrArg some hq)
    · rfl
  · rfl

theorem ptpReceive_delayReq {r : Nat} (hb : msg.body = .delayReq r) :
    s.ptpReceive port stamp msg = s.when (decide (Assoc.findD s.time.ptp.ports port .listening = .leader))
      (emit (.ptp port (s.ptpMsg msg.seq msg.unicast msg.correction (.delayResp r stamp)))) := by
  unfold ptpReceive
  dsimp only
  rw [if_neg (ptpReceive_guard hp hd), hb]

theorem ptpReceive_delayResp {r t4 : Nat} (hb : msg.body = .delayResp r t4) :
    s.ptpReceive port stamp msg = s.when (s.ptpFromParent port msg.source && decide (r = s.time.ptp.cfg.identity))
      (ptpDelayDone msg.seq t4 msg.correction) := by
  unfold ptpReceive
  dsimp only
  rw [if_neg (ptpReceive_guard hp hd), hb]

end Received


/-! ### Messages sent -/

/-- The number that the next message of a kind carries on a port. -/
def ptpNext (port : Nat) (k : PtpKind) (s : State) : Nat := Assoc.findD s.time.ptp.seqs (ptpSeqKey port k) 0

/-- A message of a kind has gone: its number advances, and its time is noted. -/
def ptpNumbered (port : Nat) (k : PtpKind) (s : State) : State := s.updPtp fun x => { x with
  seqs := Assoc.put x.seqs (ptpSeqKey port k) ((s.ptpNext port k + 1) % 65536), sent := Assoc.put x.sent (ptpSeqKey port k) s.now }

theorem ptpNext_numbered (port : Nat) (k : PtpKind) (s : State) :
    (s.ptpNumbered port k).ptpNext port k = (s.ptpNext port k + 1) % 65536 := Assoc.findD_put_same _ _ _ _

theorem sent_numbered (port : Nat) (k : PtpKind) (s : State) :
    Assoc.find (s.ptpNumbered port k).time.ptp.sent (ptpSeqKey port k) = some s.now := Assoc.find_put_same _ _ _

section Sent

variable {port stamp : Nat} {s : State}

theorem ptpSend_off (k : PtpKind) (h : s.time.ptp.cfg.ports.contains port = false) : s.ptpSend port k stamp = s := by
  unfold ptpSend
  exact if_pos (by rw [h]; rfl)

/-- What is sent is due, is of the kind that the state of its port lets go, and is noted with its number. -/
theorem ptpSend_sync (hp : s.time.ptp.cfg.ports.contains port = true) (hdue : s.ptpElect.ptpDue port .sync = true)
    (hl : Assoc.findD s.ptpElect.time.ptp.ports port .listening = .leader) :
    s.ptpSend port .sync stamp = ((s.ptpElect.ptpNumbered port .sync).emit
          (.ptp port (s.ptpElect.ptpMsg (s.ptpElect.ptpNext port .sync) false 0 .syncTwoStep))).emit
          (.ptp port (s.ptpElect.ptpMsg (s.ptpElect.ptpNext port .sync) false 0
            (.followUp stamp ((List.range 4).map fun j => s.ptpElect.rd (Reg.LODE.SMD j).addr)))) := by
  unfold ptpSend
  rw [if_neg (by rw [hp]; exact Bool.false_ne_true)]
  dsimp only
  rw [if_neg (by rw [hdue]; exact Bool.false_ne_true), hl]
  rfl

theorem ptpSend_announce (hp : s.time.ptp.cfg.ports.contains port = true) (hdue : s.ptpElect.ptpDue port .announce = true)
    (hl : Assoc.findD s.ptpElect.time.ptp.ports port .listening = .leader) :
    s.ptpSend port .announce stamp = (s.ptpElect.ptpNumbered port .announce).emit
          (.ptp port (s.ptpElect.ptpMsg (s.ptpElect.ptpNext port .announce) false 0
            s.ptpElect.ptpAnnounced)) := by
  unfold ptpSend
  rw [if_neg (by rw [hp]; exact Bool.false_ne_true)]
  dsimp only
  rw [if_neg (by rw [hdue]; exact Bool.false_ne_true), hl]
  rfl

theorem ptpSend_delayReq (hp : s.time.ptp.cfg.ports.contains port = true) (hdue : s.ptpElect.ptpDue port .delayReq = true)
    (hf : Assoc.findD s.ptpElect.time.ptp.ports port .listening = .follower) :
    s.ptpSend port .delayReq stamp = ((s.ptpElect.ptpNumbered port .delayReq).emit
          (.ptp port (s.ptpElect.ptpMsg (s.ptpElect.ptpNext port .delayReq) s.ptpElect.time.ptp.cfg.hybrid 0
            (.delayReq s.ptpElect.time.ptp.cfg.identity)))).updPtp
        fun x => { x with delayReq := some (s.ptpElect.ptpNext port .delayReq, stamp) } := by
  unfold ptpSend
  rw [if_neg (by rw [hp]; exact Bool.false_ne_true)]
  dsimp only
  rw [if_neg (by rw [hdue]; exact Bool.false_ne_true), hf]
  rfl

theorem ptpSend_none {k : PtpKind} (hp : s.time.ptp.cfg.ports.contains port = true)
    (h : s.ptpElect.ptpDue port k = false ∨ k = .followUp ∨ k = .delayResp ∨
      Assoc.findD s.ptpElect.time.ptp.ports port .listening ≠ (if k = .delayReq then .follower else .leader)) :
    s.ptpSend port k stamp = s.ptpElect := by
  unfold ptpSend
  rw [if_neg (by rw [hp]; exact Bool.false_ne_true)]
  dsimp only
  generalize s.ptpElect = u at h ⊢
  split
  · rfl
  next hdue =>
    have hst := h.resolve_left (by intro hn; rw [hn] at hdue; exact hdue rfl)
    split
    all_goals rename_i hstate
    · exact absurd hstate ((hst.resolve_left nofun).resolve_left nofun)
    · exact absurd hstate ((hst.resolve_left nofun).resolve_left nofun)
    · exact absurd hstate ((hst.resolve_left nofun).resolve_left nofun)
    · rfl

end Sent

/-! ### The qualification of PTP -/

/-- What the loop does leaves what was raised, and which references are qualified. -/
structure LoopTold (s t : State) : Prop where
  raised : ∀ k, Raised k s → Raised k t
  qual : t.lode.qual = s.lode.qual

namespace LoopTold

variable {s t u : State}

theorem refl (s : State) : LoopTold s s := ⟨fun _ h => h, rfl⟩

theorem set (h : LoopTold s t) (q : FRef) (v : Nat) : LoopTold s (t.set q v) := ⟨h.raised, h.qual⟩

theorem updLode (h : LoopTold s t) {f : LodeState → LodeState} (hf : ∀ x, (f x).qual = x.qual) : LoopTold s (t.updLode f) :=
  ⟨h.raised, (hf _).trans h.qual⟩

theorem lodeEvent (h : LoopTold s t) (n : Nat) (items : List Nat) : LoopTold s (t.lodeEvent n items) := by
  refine ⟨fun k hk => raised_raise_of _ _ (h.raised k hk), ?_⟩
  have hev : RegsOnly t (t.lodeEvent n items) := (RegsOnly.refl t).event _ _ _ _
  obtain ⟨_, _, _, he⟩ := hev
  rw [he]
  exact h.qual

theorem when (h : LoopTold s t) (c : Bool) {f : State → State} (hf : LoopTold s (f t)) : LoopTold s (t.when c f) := by
  cases c
  · exact h
  · exact hf

theorem ite {c : Prop} [Decidable c] (h : LoopTold s t) (h' : LoopTold s u) : LoopTold s (if c then t else u) := by
  split
  · exact h
  · exact h'

theorem showLoop (h : LoopTold s t) : LoopTold s t.showLoop := ((h.set _ _).set _ _).set _ _

theorem realign (h : LoopTold s t) : LoopTold s t.realign := by
  have h0 := h.updLode (f := fun x => { x with buildout := 0 }) fun _ => rfl
  unfold State.realign
  dsimp only
  exact (((h0.updLode (by exact fun _ => rfl)).updLode (by exact fun _ => rfl)).showLoop).lodeEvent _ _

theorem enterLoop (h : LoopTold s t) (st : Nat) : LoopTold s (t.enterLoop st) := by
  unfold State.enterLoop
  dsimp only
  have haligned (v : State) (hv : LoopTold s v) : LoopTold s (if st = 1 ∧ t.loopState = 0 then v.realign else v) := hv.realign.ite hv
  have hfell (v : State) (hv : LoopTold s v) : LoopTold s
      (if st = 1 ∧ (t.loopState = 2 ∨ t.loopState = 3) then v.lodeEvent 4 [v.loopRef] else v) := (hv.lodeEvent _ _).ite hv
  have htold (v : State) (hv : LoopTold s v) : LoopTold s
      (if st = 4 then v.lodeEvent 2 [v.loopRef] else v.lodeEvent 3 [v.loopRef, st]) := (hv.lodeEvent _ _).ite (hv.lodeEvent _ _)
  have hleft (v : State) (hv : LoopTold s v) : LoopTold s
      (if t.loopState = 4 then (v.set Reg.LODE.STAT_OUTSPEC 0).set Reg.LODE.HOLDSECS 0 else v) := ((hv.set _ _).set _ _).ite hv
  exact h.ite (haligned _ (hfell _ (htold _ (hleft _ ((h.set _ _).updLode (by exact fun _ => rfl))))))

theorem loseAll (h : LoopTold s t) : LoopTold s t.loseAll := by
  unfold State.loseAll
  dsimp only
  have hnone := h.set Reg.LODE.STAT_REF 0
  exact hnone.ite (((((hnone.updLode (by exact fun _ => rfl)).enterLoop 4).set _ _).set _ _).ite ((hnone.enterLoop 0).set _ _))

theorem switchRef (h : LoopTold s t) (new : Nat) : LoopTold s (t.switchRef new) := by
  have hnew := h.set Reg.LODE.STAT_REF new
  have htaken (v : State) (hv : LoopTold s v) : LoopTold s (if v.loopState = 4 then v.enterLoop 2
      else v.when (decide (t.loopRef ≠ 0)) (State.lodeEvent 1 [t.loopRef, new, v.get Reg.LODE.BUILDOUT])) :=
    (hv.enterLoop 2).ite (hv.when _ (hv.lodeEvent _ _))
  unfold State.switchRef
  dsimp only
  exact (hnew.enterLoop 1).ite (htaken _ ((hnew.updLode (by exact fun _ => rfl)).showLoop))

theorem reselect (h : LoopTold s t) : LoopTold s t.reselect := by
  unfold State.reselect
  dsimp only
  split
  · split
    · exact h
    · split
      · exact h.loseAll
      · exact h.switchRef _
  · exact h

end LoopTold

theorem loopMoved_qualify {s t : State} (h : LoopMoved s t) (ref : Nat) : LoopMoved s (t.qualify ref) := by
  unfold qualify
  split
  · exact ((h.updLode _).lodeEvent _ _).reselect
  · exact h

theorem loopMoved_disqualify {s t : State} (h : LoopMoved s t) (ref : Nat) : LoopMoved s (t.disqualify ref) := by
  have hdel := (h.updLode fun x => { x with qual := Assoc.del x.qual ref, lostAt := Assoc.put x.lostAt ref t.now }).lodeEvent 6 [ref]
  unfold disqualify
  split
  · dsimp only
    split
    · exact (hdel.lodeEvent _ _).reselect
    · exact hdel
  · exact h

theorem refQualified_of_qual {s t : State} (h : t.lode.qual = s.lode.qual) (ref : Nat) : t.refQualified ref = s.refQualified ref := by
  unfold refQualified
  rw [h]

theorem refQualified_qualify {s : State} (ref : Nat) (h : s.lodeEn = true) : (s.qualify ref).refQualified ref = true := by
  unfold qualify
  rw [h, Bool.true_and]
  split
  · have htold : LoopTold (s.updLode fun x => { x with qual := Assoc.put x.qual ref s.now })
        (((s.updLode fun x => { x with qual := Assoc.put x.qual ref s.now }).lodeEvent 7 [ref]).reselect) :=
      ((LoopTold.refl _).lodeEvent _ _).reselect
    rw [refQualified_of_qual htold.qual]
    exact congrArg Option.isSome (Assoc.find_put_same _ _ _)
  next hq =>
    rw [Bool.not_eq_true', Bool.not_eq_false] at hq
    exact hq

/-- A reference that loses its qualification: what was raised stays raised. -/
theorem disqualify_told {s : State} (ref : Nat) : (∀ k, Raised k s → Raised k (s.disqualify ref)) ∧
    (s.disqualify ref).refQualified ref = false := by
  have h0 : LoopTold (s.updLode fun x => { x with qual := Assoc.del x.qual ref, lostAt := Assoc.put x.lostAt ref s.now })
      ((s.updLode fun x => { x with qual := Assoc.del x.qual ref, lostAt := Assoc.put x.lostAt ref s.now }).lodeEvent 6 [ref]) :=
    (LoopTold.refl _).lodeEvent _ _
  have hdel : (s.updLode fun x => { x with qual := Assoc.del x.qual ref, lostAt := Assoc.put x.lostAt ref s.now }).refQualified ref = false :=
    congrArg Option.isSome (Assoc.find_del_same _ _)
  unfold disqualify
  split
  · dsimp only
    split
    · have h1 := (h0.lodeEvent 0 [ref]).reselect
      exact ⟨fun k hk => h1.raised k hk, (refQualified_of_qual h1.qual ref).trans hdel⟩
    · exact ⟨fun k hk => h0.raised k hk, (refQualified_of_qual h0.qual ref).trans hdel⟩
  next hq => exact ⟨fun _ h => h, (Bool.not_eq_true _).mp hq⟩

theorem loopMoved_ptpstatLand (q : Bool) (s : State) : LoopMoved (s.setB Reg.LODE.PTPSTAT q) (s.ptpstatLand q) := by
  cases q
  · exact loopMoved_disqualify (LoopMoved.refl _) 1
  · exact loopMoved_qualify (LoopMoved.refl _) 1

theorem ptpstat_ptpstatLand (q : Bool) (s : State) : (s.ptpstatLand q).get Reg.LODE.PTPSTAT = b2n q :=
  ((loopMoved_ptpstatLand q s).get (by decide) (by decide)).trans (get_setB_same _ _ (by decide) (by decide))

theorem refQualified_ptpstatLand {s : State} (q : Bool) (h : s.lodeEn = true) : (s.ptpstatLand q).refQualified 1 = q := by
  cases q
  · exact (disqualify_told 1).2
  · refine refQualified_qualify 1 ?_
    unfold lodeEn
    rw [setB, get_set_other _ _ (by decide) (by decide)]
    exact h


theorem ptpDelayDone_measured {s : State} {q t4 t3 t2 : Nat} {corr t1 : Int} (hd : s.time.ptp.delayReq = some (q, t3))
    (he : s.time.ptp.exch = some (t1, t2)) (h2 : s.beforeStep t2 = false) (h3 : s.beforeStep t3 = false) :
    s.ptpDelayDone q t4 corr = s.updPtp fun x =>
      { x with pathDelay := divFree 398 (((t2 : Int) - t1) + ((t4 : Int) - t3) - corr) 2, delayReq := none } := by
  unfold ptpDelayDone
  rw [hd, he]
  dsimp only
  rw [if_neg (not_not.mpr rfl), if_neg]
  rw [h2, h3]
  exact fun h => h.elim nofun nofun

theorem ptpDelayDone_other {s : State} {q t4 : Nat} {corr : Int}
    (h : (s.time.ptp.delayReq.map fun p => p.1) ≠ some q ∨ s.time.ptp.exch = none) : s.ptpDelayDone q t4 corr = s := by
  unfold ptpDelayDone
  split
  next q' t3 t1 t2 hd he =>
    have hq := h.resolve_right (by rw [he]; exact nofun)
    rw [hd] at hq
    exact if_pos fun heq => hq (congrArg some heq)
  · rfl

/-- The state in which the firmware has given the parent up as silent. -/
def syncGone (s : State) : State :=
  (s.updPtp fun x => { x with syncLost := true, belowSince := none, locked := false, first := true }).raise 136 []

theorem ptpSyncTimeout_late {s : State} (hp : s.time.ptp.parent.isSome = true) (hl : s.time.ptp.syncLost = false)
    (hn : s.time.ptp.lastSync + s.ptpReceipt ≤ s.now) : s.ptpSyncTimeout = (s.syncGone.ptpstatLand false).ptpElect := by
  unfold ptpSyncTimeout
  exact if_pos ⟨hp, by rw [hl]; rfl, hn⟩

theorem ptpSyncTimeout_none {s : State}
    (h : s.time.ptp.parent = none ∨ s.time.ptp.syncLost = true ∨ s.now < s.time.ptp.lastSync + s.ptpReceipt) :
    s.ptpSyncTimeout = s := by
  unfold ptpSyncTimeout
  refine if_neg ?_
  rintro ⟨hp, hl, hn⟩
  rcases h with h | h | h
  · rw [h] at hp
    cases hp
  · rw [h] at hl
    cases hl
  · omega

theorem ptp_syncGone (s : State) : s.syncGone.time.ptp =
    { s.time.ptp with syncLost := true, belowSince := none, locked := false, first := true } := by
  unfold syncGone
  rw [ptp_raise]
  rfl

theorem incrInUse_of_words {s t : State} (h1 : t.rd Reg.TIME.INCRUSELO.addr = s.rd Reg.TIME.INCRUSELO.addr)
    (h2 : t.rd Reg.TIME.INCRUSEHI.addr = s.rd Reg.TIME.INCRUSEHI.addr) : t.incrInUse = s.incrInUse := by
  unfold incrInUse get64
  rw [get_of_rd h1, get_of_rd h2]

/-- A word that neither the collector nor the loop of the lodestone writes is kept when the Syncs of the parent are missed. -/
theorem rd_syncLost {s : State} {a : Nat} (ha : a < 0x11003000 ∨ 0x11004800 ≤ a) (hl : a ∉ loopWords)
    (hp : a ≠ Reg.LODE.PTPSTAT.addr) : ((s.syncGone.ptpstatLand false).ptpElect).rd a = s.rd a := by
  have hloop := (loopMoved_ptpstatLand false s.syncGone).words a hl ha
  rw [((Elected.refl _).ptpElect).words a ha, hloop, setB, rd_set_other _ _ hp]
  exact rd_raise _ _ _ ha

theorem ptpLocked_now {s : State} {a : Nat} (ha : s.time.ptp.belowSince = some a) (hn : a + 10000000000 ≤ s.now)
    (hl : s.time.ptp.locked = false) : s.ptpLocked = (s.updPtp fun x => { x with locked := true }).ptpstatLand true := by
  unfold ptpLocked
  rw [ha]
  exact if_pos ⟨hn, by rw [hl]; rfl⟩

theorem ptpLocked_none {s : State}
    (h : s.time.ptp.belowSince.all (fun a => s.now < a + 10000000000) = true ∨ s.time.ptp.locked = true) : s.ptpLocked = s := by
  unfold ptpLocked
  split
  next a ha =>
    refine if_neg ?_
    rintro ⟨hn, hl⟩
    rcases h with h | h
    · rw [ha, Option.all_some, decide_eq_true_eq] at h
      omega
    · rw [h] at hl
      cases hl
  · rfl

abbrev lodeBlk : Blk := ⟨.lode, 0⟩
abbrev ptpstatRow : RegDef := ⟨"PTPSTAT", 0x44, [], [⟨0, 0, .rw, .val 0⟩]⟩

theorem domainReg_ptpstat : domainReg Reg.LODE.PTPSTAT.addr lodeBlk ptpstatRow 0 = true := by decide +kernel

theorem exec_ptpstatWrite {m : Nat} {s : State} (hq : Quiet m s) (data : Word) : exec (.ptpstatWrite m data) s =
    .next (((s.landed m lodeBlk).ptpstatLand (bit data.toNat 0)).showWpend lodeBlk) :=
  congrArg Host.Outcome.next (writeNow_special hq domainReg_ptpstat rfl)

end State

open State

/-- Settles O37. -/
theorem networkTime : Obligations.NetworkTime := by
  unfold Obligations.NetworkTime
  refine ⟨?discarded, ?own, ?first, ?twoStep, ?step, ?slew, ?followUp, ?foreign, ?unsynced, ?straddling, ?delayReq, ?noDelayReq,
    ?delayResp, ?noDelayResp, ?sync, ?announce, ?request, ?silent, ?noPort, ?lost, ?noLoss, ?locked, ?noLock, ?written⟩
  case discarded =>
    intro s port stamp msg h
    exact ⟨_, rfl, ptpReceive_out h⟩
  case own =>
    intro s port stamp msg ds utc leap hp hd hb hown
    exact ⟨_, rfl, (ptpReceive_announce hp hd hb).trans (if_pos hown)⟩
  case first =>
    intro s port stamp msg ds utc leap hp hd hb hid hsrc hf hr hl hg
    refine ⟨_, rfl, ?_⟩
    have hann : s.ptpReceive port stamp msg =
        (s.updPtp fun x => { x with foreign := (x.foreign.filter fun b => b.port != port || b.source != msg.source) ++
          [⟨port, msg.source, ds, utc, leap, s.now⟩] }).ptpElect :=
      (ptpReceive_announce hp hd hb).trans (if_neg (not_or.mpr ⟨hid, hsrc⟩))
    rw [hann]
    exact ptpElect_first (b := ⟨port, msg.source, ds, utc, leap, s.now⟩)
      (by change (s.time.ptp.foreign.filter _) ++ _ = _; rw [hf]; rfl) rfl hr hl hg (List.contains_iff_mem.mp hp)
  case twoStep =>
    intro s port stamp msg hp hd hb hf
    refine ⟨_, rfl, ?_⟩
    rw [ptpReceive_twoStep hp hd hb, hf]
    exact ⟨rfl, rfl⟩
  case step =>
    intro s port stamp msg o t1 l hp hd hb hf hbefore ho hstep hen
    refine ⟨_, rfl, ?_⟩
    have hm := ptpMoved_exchanged l (t1 + msg.correction) stamp s
    obtain ⟨w, hw⟩ := ptp_smd l s
    rw [ptpReceive_oneStep hp hd hb, hf, when_true,
      ptpSyncDone_sound ((((PtpMoved.refl s).ptpSmd l).beforeStep stamp).trans hbefore)]
    have hoff : (stamp : Int) - (t1 + msg.correction) - (s.ptpSmd l).time.ptp.pathDelay = o := by rw [hw, ho]
    rw [hoff]
    have hptp : ((s.ptpSmd l).exchanged (t1 + msg.correction) stamp).time.ptp =
        { s.time.ptp with smd := w, exch := some ((t1 : Int) + msg.correction, stamp), sync := none } := by
      unfold exchanged updPtp updTime
      dsimp only
      rw [hw]
    generalize (s.ptpSmd l).exchanged (t1 + msg.correction) stamp = u at hm hptp ⊢
    obtain ⟨h1, h2, h3, -, h5⟩ := noticed_discipline o u
    have hu : u.time.ptp.first = true ∨ (u.inService = true ∧ u.time.ptp.cfg.stepLimitNs < o.natAbs) := by
      rw [hptp, hm.inService]
      exact hstep
    obtain ⟨h6, h7, h8⟩ := discipline_step (hm.timeEn.trans hen) hu
    exact ⟨h1, h3.trans (by rw [hptp]), h2.trans hm.now, h5, h6, h7.trans (by rw [hm.steps]), h8⟩
  case slew =>
    intro s port stamp msg o t1 l hp hd hb hf hbefore ho hfirst hlim hen hserv
    refine ⟨_, rfl, ?_⟩
    have hm := ptpMoved_exchanged l (t1 + msg.correction) stamp s
    obtain ⟨w, hw⟩ := ptp_smd l s
    rw [ptpReceive_oneStep hp hd hb, hf, when_true,
      ptpSyncDone_sound ((((PtpMoved.refl s).ptpSmd l).beforeStep stamp).trans hbefore)]
    have hoff : (stamp : Int) - (t1 + msg.correction) - (s.ptpSmd l).time.ptp.pathDelay = o := by rw [hw, ho]
    rw [hoff]
    have hptp : ((s.ptpSmd l).exchanged (t1 + msg.correction) stamp).time.ptp =
        { s.time.ptp with smd := w, exch := some ((t1 : Int) + msg.correction, stamp), sync := none } := by
      unfold exchanged updPtp updTime
      dsimp only
      rw [hw]
    generalize (s.ptpSmd l).exchanged (t1 + msg.correction) stamp = u at hm hptp ⊢
    obtain ⟨h1, h2, h3, -, h5⟩ := noticed_discipline o u
    have hu : u.inService = false ∨ o.natAbs ≤ u.time.ptp.cfg.stepLimitNs := by
      rw [hptp, hm.inService]
      exact hlim
    obtain ⟨h6, h7, h8⟩ := discipline_slew (hm.timeEn.trans hen) (hm.servoMode.trans hserv) (by rw [hptp]; exact hfirst) hu
    have hincr : u.slewIncr o = s.slewIncr o := by
      unfold slewIncr
      rw [hm.incrInUse, hptp]
    rw [hincr, hm.incrInUse] at h7
    exact ⟨h1, h3.trans (by rw [hptp]), h2.trans hm.now, h5, h6, h7, h8.trans hm.steps⟩
  case followUp =>
    intro s port stamp msg q r stamp2 corr l hp hd hb hf hs hq hbefore
    refine ⟨_, rfl, ?_⟩
    obtain ⟨w, hw⟩ := ptp_smd l s
    have hassoc : (r : Int) + corr + msg.correction = r + (corr + msg.correction) := Int.add_assoc _ _ _
    rw [ptpReceive_followUp hp hd hb hf hs hq, hassoc,
      ptpSyncDone_sound ((((PtpMoved.refl s).ptpSmd l).beforeStep stamp2).trans hbefore)]
    have hm := ptpMoved_exchanged l (r + (corr + msg.correction)) stamp2 s
    have hpath : (s.ptpSmd l).time.ptp.pathDelay = s.time.ptp.pathDelay := by rw [hw]
    rw [hpath]
    have hex : ((s.ptpSmd l).exchanged (r + (corr + msg.correction)) stamp2).time.ptp.exch = some ((r : Int) + (corr + msg.correction), stamp2) ∧
      ((s.ptpSmd l).exchanged (r + (corr + msg.correction)) stamp2).time.ptp.sync = none := ⟨rfl, rfl⟩
    generalize (s.ptpSmd l).exchanged (r + (corr + msg.correction)) stamp2 = u at hm hex ⊢
    obtain ⟨h1, h2, h3, h4, -⟩ := noticed_discipline ((stamp2 : Int) - (r + (corr + msg.correction)) - s.time.ptp.pathDelay) u
    exact ⟨h3.trans hex.1, h4.trans hex.2, h1, h2.trans hm.now⟩
  case foreign =>
    intro s port stamp msg t1 r l cmd hc hp hd hf
    simp only [List.mem_cons, List.not_mem_nil, or_false] at hc
    rcases hc with rfl | rfl | rfl | rfl
    · exact ⟨_, rfl, (ptpReceive_oneStep (msg := { msg with body := .syncOneStep t1 l }) hp hd rfl).trans (by rw [hf, when_false])⟩
    · exact ⟨_, rfl, (ptpReceive_twoStep (msg := { msg with body := .syncTwoStep }) hp hd rfl).trans (by rw [hf, when_false])⟩
    · exact ⟨_, rfl, ptpReceive_followUp_other hp hd rfl (.inl hf)⟩
    · exact ⟨_, rfl, (ptpReceive_delayResp (msg := { msg with body := .delayResp r t1 }) hp hd rfl).trans (by rw [hf, Bool.false_and, when_false])⟩
  case unsynced =>
    intro s port stamp msg r l hp hd hb hs
    exact ⟨_, rfl, ptpReceive_followUp_other hp hd hb (.inr hs)⟩
  case straddling =>
    intro s port stamp msg t1 l hp hd hb hf hbefore
    refine ⟨_, rfl, ?_⟩
    obtain ⟨w, hw⟩ := ptp_smd l s
    have hm := (PtpMoved.refl s).ptpSmd l
    rw [ptpReceive_oneStep hp hd hb, hf, when_true, ptpSyncDone_straddling ((hm.beforeStep stamp).trans hbefore)]
    refine ⟨rfl, ?_, ?_, (hm.updPtp _).incrInUse⟩
    · change (s.ptpSmd l).time.ptp.offset = _
      rw [hw]
    · exact (hm.updPtp _).steps
  case delayReq =>
    intro s port stamp msg r hp hd hb hl
    refine ⟨_, rfl, ?_⟩
    rw [ptpReceive_delayReq hp hd hb, decide_eq_true hl, when_true]
    unfold emit ptpMsg
    rw [hd]
    exact ⟨rfl, rfl⟩
  case noDelayReq =>
    intro s port stamp msg r hp hd hb hl
    exact ⟨_, rfl, (ptpReceive_delayReq hp hd hb).trans (by rw [decide_eq_false hl, when_false])⟩
  case delayResp =>
    intro s port stamp msg t1 t2 t3 t4 hp hd hb hf hreq hex h2 h3
    refine ⟨_, rfl, ?_⟩
    rw [ptpReceive_delayResp hp hd hb, hf, decide_eq_true rfl, Bool.true_and, when_true, ptpDelayDone_measured hreq hex h2 h3]
    exact ⟨rfl, rfl, rfl⟩
  case noDelayResp =>
    intro s port stamp msg r t4 hp hd hb h
    refine ⟨_, rfl, (ptpReceive_delayResp hp hd hb).trans ?_⟩
    rcases h with h | h
    · rw [decide_eq_false h, Bool.and_false, when_false]
    · cases s.ptpFromParent port msg.source && decide (r = s.time.ptp.cfg.identity)
      · rfl
      · exact ptpDelayDone_other h
  case sync =>
    intro s u port stamp q hp hu hdue hl hq
    subst hu hq
    refine ⟨_, rfl, ?_⟩
    rw [ptpSend_sync hp hdue hl]
    generalize s.ptpElect = e
    exact ⟨rfl, ptpNext_numbered port .sync _, sent_numbered port .sync _, rfl⟩
  case announce =>
    intro s u port stamp q hp hu hdue hl hq
    subst hu hq
    refine ⟨_, rfl, ?_⟩
    rw [ptpSend_announce hp hdue hl]
    generalize s.ptpElect = e
    exact ⟨rfl, rfl⟩
  case request =>
    intro s u port stamp q hp hu hdue hl hq
    subst hu hq
    refine ⟨_, rfl, ?_⟩
    rw [ptpSend_delayReq hp hdue hl]
    generalize s.ptpElect = e
    exact ⟨rfl, rfl, rfl⟩
  case silent =>
    intro s u port stamp k hp hu h
    subst hu
    exact ⟨_, rfl, ptpSend_none hp h⟩
  case noPort =>
    intro s port stamp k h
    exact ⟨_, rfl, ptpSend_off k h⟩
  case lost =>
    intro s hp hl hn
    refine ⟨_, congrArg Host.Outcome.next (ptpSyncTimeout_late hp hl hn), ?_⟩
    have hincr := incrInUse_of_words (rd_syncLost (s := s) (a := Reg.TIME.INCRUSELO.addr) (by decide) (by decide) (by decide))
      (rd_syncLost (a := Reg.TIME.INCRUSEHI.addr) (by decide) (by decide) (by decide))
    have hstat := ptpstat_ptpstatLand false s.syncGone
    have htime : (s.syncGone.ptpstatLand false).time = s.syncGone.time := by
      obtain ⟨_, _, _, _, he⟩ := (loopMoved_ptpstatLand false s.syncGone).only
      rw [he]
      rfl
    have hptp := (congrArg TimeState.ptp htime).trans (ptp_syncGone s)
    have hraised : Raised 136 (s.syncGone.ptpstatLand false) :=
      (disqualify_told 1).1 136 (raised_raise [] (s.updPtp _) (by decide))
    generalize s.syncGone.ptpstatLand false = v at hincr hstat hptp hraised ⊢
    have he := (Elected.refl v).ptpElect
    exact ⟨he.syncLost.trans (by rw [hptp]), he.locked.trans (by rw [hptp]), he.first.trans (by rw [hptp]),
      (he.get (by decide)).trans hstat, hincr, he.raised _ hraised⟩
  case noLoss =>
    intro s h
    exact ⟨_, rfl, ptpSyncTimeout_none h⟩
  case locked =>
    intro s a ha hn hl
    refine ⟨_, congrArg Host.Outcome.next (ptpLocked_now ha hn hl), ?_, ptpstat_ptpstatLand true _⟩
    obtain ⟨_, _, _, _, he⟩ := (loopMoved_ptpstatLand true (s.updPtp fun x => { x with locked := true })).only
    rw [he]
    rfl
  case noLock =>
    intro s h
    exact ⟨_, rfl, ptpLocked_none h⟩
  case written =>
    intro s m data hq
    have hbit : b2n (bit data.toNat 0) = data.toNat % 2 := by
      rw [← bits_single]
      unfold bits
      omega
    refine ⟨_, exec_ptpstatWrite hq data, ?_, fun hen => ?_⟩
    · rw [get_showWpend_other (by decide), ptpstat_ptpstatLand, hbit]
    · have hlode : (s.landed m lodeBlk).lodeEn = true := by
        unfold lodeEn
        rw [get_landed hq.1 (by decide), hen]
        rfl
      exact refQualified_ptpstatLand _ hlode

end Sys2Proof.Machine
end

section
set_option Elab.async false
/-! SUPPORT. The lodestone (R404–R420): what a change of reference or of stage leaves, and what each step of the loop does. -/

namespace Sys2Proof.Machine

/-- The loop has moved, and its reference, its state and its frequency stand. -/
structure Looped (s t : State) : Prop where
  only : ∃ r f l x, t = { s with regs := r, flt := f, lastRaise := l, lode := x }
  kept : RegsKept [.lode, .flt] s t
  ref : t.get Reg.LODE.STAT_REF = s.get Reg.LODE.STAT_REF
  state : t.get Reg.LODE.STAT_STATE = s.get Reg.LODE.STAT_STATE
  freq : t.get Reg.LODE.FREQ = s.get Reg.LODE.FREQ
  raised : ∀ k, Raised k s → Raised k t
  qual : t.lode.qual = s.lode.qual
  lostAt : t.lode.lostAt = s.lode.lostAt
  holdAt : t.lode.holdAt = s.lode.holdAt

namespace Looped

variable {s t u : State}

theorem refl (s : State) : Looped s s := ⟨⟨_, _, _, _, rfl⟩, RegsKept.refl _ _, rfl, rfl, rfl, fun _ h => h, rfl, rfl, rfl⟩

theorem trans (h : Looped s t) (h' : Looped t u) : Looped s u := by
  refine ⟨?_, fun a ha => (h'.kept a ha).trans (h.kept a ha), h'.ref.trans h.ref, h'.state.trans h.state, h'.freq.trans h.freq,
    fun k hk => h'.raised k (h.raised k hk), h'.qual.trans h.qual, h'.lostAt.trans h.lostAt, h'.holdAt.trans h.holdAt⟩
  obtain ⟨_, _, _, _, rfl⟩ := h.only
  obtain ⟨_, _, _, _, rfl⟩ := h'.only
  exact ⟨_, _, _, _, rfl⟩

theorem updLode (h : Looped s t) {f : LodeState → LodeState}
    (hf : ∀ x, (f x).qual = x.qual ∧ (f x).lostAt = x.lostAt ∧ (f x).holdAt = x.holdAt) : Looped s (t.updLode f) :=
  h.trans ⟨⟨_, _, _, _, rfl⟩, (RegsKept.refl _ _).same rfl, rfl, rfl, rfl, fun _ h => h, (hf _).1, (hf _).2.1, (hf _).2.2⟩

theorem set (h : Looped s t) {q : FRef} (v : Nat) (hq : Outside [.lode, .flt] q.addr = false) (hi : q.hi < 32)
    (hr : (Reg.LODE.STAT_REF).apart q = true) (hs : (Reg.LODE.STAT_STATE).apart q = true) (hf : (Reg.LODE.FREQ).apart q = true) :
    Looped s (t.set q v) :=
  h.trans ⟨⟨_, _, _, _, rfl⟩, (RegsKept.refl _ _).set v hq, State.get_set_other _ _ hr hi, State.get_set_other _ _ hs hi,
    State.get_set_other _ _ hf hi, fun _ h => h, rfl, rfl, rfl⟩

theorem lodeEvent (h : Looped s t) (n : Nat) (items : List Nat) : Looped s (t.lodeEvent n items) := by
  have hget {r : FRef} (hr : r.apart Reg.LODE.EVSTAT = true) (ha : r.addr < 0x11003000 ∨ 0x11004800 ≤ r.addr) :
      (t.lodeEvent n items).get r = t.get r := by
    unfold State.lodeEvent State.event
    rw [State.get_raise _ _ _ ha, State.get_orBit_other _ _ hr (by decide)]
  have hev : RegsOnly t (t.lodeEvent n items) := (RegsOnly.refl t).event _ _ _ _
  refine h.trans ⟨?_, ?_, hget (by decide) (by decide), hget (by decide) (by decide), hget (by decide) (by decide), ?_, ?_, ?_, ?_⟩
  · obtain ⟨_, _, _, he⟩ := hev
    exact ⟨_, _, _, _, he⟩
  · exact ((RegsKept.refl _ _).orBit _ (by decide)).raise _ _ (by decide)
  · exact fun k hk => State.raised_raise_of _ _ hk
  all_goals rw [hev.lode]

theorem when (h : Looped s t) (c : Bool) {f : State → State} (hf : Looped s (f t)) : Looped s (t.when c f) := by
  cases c
  · exact h
  · exact hf

theorem ite {c : Prop} [Decidable c] (h : Looped s t) (h' : Looped s u) : Looped s (if c then t else u) := by
  split
  · exact h
  · exact h'

theorem showLoop (h : Looped s t) : Looped s t.showLoop := by
  unfold State.showLoop
  exact ((h.set _ (by decide) (by decide) (by decide) (by decide) (by decide)).set _ (by decide) (by decide) (by decide) (by decide)
    (by decide)).set _ (by decide) (by decide) (by decide) (by decide) (by decide)

theorem moveL (h : Looped s t) (d : Int) : Looped s (t.moveL d) := h.updLode (by exact fun _ => ⟨rfl, rfl, rfl⟩)

theorem realign (h : Looped s t) : Looped s t.realign := by
  unfold State.realign
  dsimp only
  exact ((((h.updLode (by exact fun _ => ⟨rfl, rfl, rfl⟩)).moveL _).updLode (by exact fun _ => ⟨rfl, rfl, rfl⟩)).showLoop).lodeEvent _ _

/-- A change of state: beside the state, nothing that stands moves. -/
theorem enterLoop {st : Nat} (h : t.loopState ≠ st) : Looped (t.set Reg.LODE.STAT_STATE st) (t.enterLoop st) := by
  have h0 := Looped.refl (t.set Reg.LODE.STAT_STATE st)
  have haligned (v : State) (hv : Looped (t.set Reg.LODE.STAT_STATE st) v) :
      Looped (t.set Reg.LODE.STAT_STATE st) (if st = 1 ∧ t.loopState = 0 then v.realign else v) := hv.realign.ite hv
  have hfell (v : State) (hv : Looped (t.set Reg.LODE.STAT_STATE st) v) : Looped (t.set Reg.LODE.STAT_STATE st)
      (if st = 1 ∧ (t.loopState = 2 ∨ t.loopState = 3) then v.lodeEvent 4 [v.loopRef] else v) := (hv.lodeEvent _ _).ite hv
  have htold (v : State) (hv : Looped (t.set Reg.LODE.STAT_STATE st) v) : Looped (t.set Reg.LODE.STAT_STATE st)
      (if st = 4 then v.lodeEvent 2 [v.loopRef] else v.lodeEvent 3 [v.loopRef, st]) := (hv.lodeEvent _ _).ite (hv.lodeEvent _ _)
  have hleft (v : State) (hv : Looped (t.set Reg.LODE.STAT_STATE st) v) : Looped (t.set Reg.LODE.STAT_STATE st)
      (if t.loopState = 4 then (v.set Reg.LODE.STAT_OUTSPEC 0).set Reg.LODE.HOLDSECS 0 else v) :=
    ((hv.set _ (by decide) (by decide) (by decide) (by decide) (by decide)).set _ (by decide) (by decide) (by decide) (by decide)
      (by decide)).ite hv
  unfold State.enterLoop
  dsimp only
  rw [if_neg h]
  exact haligned _ (hfell _ (htold _ (hleft _ (h0.updLode (by exact fun _ => ⟨rfl, rfl, rfl⟩)))))

end Looped

namespace State

/-! ### A change of state -/

theorem enterLoop_same {s : State} {st : Nat} (h : s.loopState = st) : s.enterLoop st = s := by
  unfold enterLoop
  exact if_pos h

theorem ref_enterLoop (st : Nat) (s : State) : (s.enterLoop st).get Reg.LODE.STAT_REF = s.get Reg.LODE.STAT_REF := by
  by_cases h : s.loopState = st
  · rw [enterLoop_same h]
  · rw [(Looped.enterLoop h).ref, get_set_other _ _ (by decide) (by decide)]

theorem freq_enterLoop (st : Nat) (s : State) : (s.enterLoop st).get Reg.LODE.FREQ = s.get Reg.LODE.FREQ := by
  by_cases h : s.loopState = st
  · rw [enterLoop_same h]
  · rw [(Looped.enterLoop h).freq, get_set_other _ _ (by decide) (by decide)]

theorem state_enterLoop {st : Nat} (s : State) (hst : st < 8) : (s.enterLoop st).loopState = st := by
  by_cases h : s.loopState = st
  · rw [enterLoop_same h, h]
  · unfold loopState
    rw [(Looped.enterLoop h).state, get_set_same _ _ (by decide)]
    exact Nat.mod_eq_of_lt hst

theorem raised_enterLoop {k st : Nat} {s : State} (h : Raised k s) : Raised k (s.enterLoop st) := by
  by_cases hs : s.loopState = st
  · rw [enterLoop_same hs]
    exact h
  · exact (Looped.enterLoop hs).raised k h

theorem lode_lodeEvent (n : Nat) (items : List Nat) (s : State) : (s.lodeEvent n items).lode = s.lode :=
  ((RegsOnly.refl s).event _ _ _ _ : RegsOnly s (s.lodeEvent n items)).lode

theorem lode_showLoop (s : State) : s.showLoop.lode = s.lode := by
  unfold showLoop
  exact (((RegsOnly.refl s).set _ _).set _ _ |>.set _ _).lode

theorem raised_lodeEvent {n : Nat} (items : List Nat) (s : State) (h : 161 + n < 1536) : Raised (161 + n) (s.lodeEvent n items) :=
  raised_raise items _ h

/-- The state as a change of state leaves it, before any realignment. -/
def entered (st : Nat) (s : State) : State :=
  let v := (s.set Reg.LODE.STAT_STATE st).updLode fun x => { x with inside := none, decayAt := s.now }
  let v := if s.loopState = 4 then (v.set Reg.LODE.STAT_OUTSPEC 0).set Reg.LODE.HOLDSECS 0 else v
  let v := if st = 4 then v.lodeEvent 2 [v.loopRef] else v.lodeEvent 3 [v.loopRef, st]
  if st = 1 ∧ (s.loopState = 2 ∨ s.loopState = 3) then v.lodeEvent 4 [v.loopRef] else v

theorem enterLoop_entered {st : Nat} {s : State} (h : s.loopState ≠ st) :
    s.enterLoop st = if st = 1 ∧ s.loopState = 0 then (s.entered st).realign else s.entered st := by
  unfold enterLoop
  dsimp only
  rw [if_neg h]
  rfl

theorem lode_entered (st : Nat) (s : State) : (s.entered st).lode = { s.lode with inside := none, decayAt := s.now } := by
  have hleft (v : State) : (if s.loopState = 4 then (v.set Reg.LODE.STAT_OUTSPEC 0).set Reg.LODE.HOLDSECS 0 else v).lode = v.lode := by
    split <;> rfl
  have htold (v : State) : (if st = 4 then v.lodeEvent 2 [v.loopRef] else v.lodeEvent 3 [v.loopRef, st]).lode = v.lode := by
    split
    · exact lode_lodeEvent _ _ _
    · exact lode_lodeEvent _ _ _
  have hfell (v : State) : (if st = 1 ∧ (s.loopState = 2 ∨ s.loopState = 3) then v.lodeEvent 4 [v.loopRef] else v).lode = v.lode := by
    split
    · exact lode_lodeEvent _ _ _
    · rfl
  unfold entered
  dsimp only
  rw [hfell, htold, hleft]
  rfl

/-- What a change of state leaves of what the lodestone holds, when it does not come out of FREERUN into ACQUIRE. -/
theorem lode_enterLoop {st : Nat} {s : State} (h : s.loopState ≠ st) (ha : ¬(st = 1 ∧ s.loopState = 0)) :
    (s.enterLoop st).lode = { s.lode with inside := none, decayAt := s.now } := by
  rw [enterLoop_entered h, if_neg ha, lode_entered]

theorem inside_realign (s : State) : s.realign.lode.inside = s.lode.inside := by
  unfold realign
  dsimp only
  rw [lode_lodeEvent]
  rfl

theorem inside_enterLoop {st : Nat} {s : State} (h : s.loopState ≠ st) : (s.enterLoop st).lode.inside = none := by
  rw [enterLoop_entered h]
  split
  · rw [inside_realign, lode_entered]
  · rw [lode_entered]

/-- A change of state raises STAGE; of HOLDOVER its own event. -/
theorem raised_stage {st k : Nat} {s : State} (h : s.loopState ≠ st) (hk : k = if st = 4 then 163 else 164) : Raised k (s.enterLoop st) := by
  have htold (v : State) : Raised k (if st = 4 then v.lodeEvent 2 [v.loopRef] else v.lodeEvent 3 [v.loopRef, st]) := by
    split
    next h4 =>
      rw [hk, if_pos h4]
      exact raised_lodeEvent _ _ (by decide)
    next h4 =>
      rw [hk, if_neg h4]
      exact raised_lodeEvent _ _ (by decide)
  have hentered : Raised k (s.entered st) := by
    unfold entered
    dsimp only
    split
    · exact raised_raise_of _ _ (htold _)
    · exact htold _
  rw [enterLoop_entered h]
  split
  · exact (Looped.refl _).realign.raised _ hentered
  · exact hentered


/-! ### The fall-back and the switch -/

theorem loopWords_inside : ∀ a ∈ loopWords, Outside [.lode, .flt] a = false := by decide

theorem regsKept_of_loopMoved {s t : State} (h : LoopMoved s t) : RegsKept [.lode, .flt] s t := fun a ha =>
  h.words a (fun hm => by rw [loopWords_inside a hm] at ha; cases ha) (Outside.not_fltCount (by decide) ha)

section
variable (s : State)

theorem ref_holdCompute : s.holdCompute.get Reg.LODE.STAT_REF = s.get Reg.LODE.STAT_REF := by
  unfold holdCompute setB
  rw [get_set_other _ _ (by decide) (by decide), get_set_other _ _ (by decide) (by decide)]

theorem state_holdCompute : s.holdCompute.loopState = s.loopState := by
  unfold loopState holdCompute setB
  rw [get_set_other _ _ (by decide) (by decide), get_set_other _ _ (by decide) (by decide)]

/-- The reference is taken away, and the state stands. -/
theorem ref_set_ref (n : Nat) : (s.set Reg.LODE.STAT_REF n).get Reg.LODE.STAT_REF = n % 16 := get_set_same _ _ (by decide)

theorem state_set_ref (n : Nat) : (s.set Reg.LODE.STAT_REF n).loopState = s.loopState := get_set_other _ _ (by decide) (by decide)

/-- The averages that HOLDOVER starts from are kept, with its time. -/
def averaged (s : State) : State :=
  let n : Int := s.lode.avg.length
  let f := divFree 411 ((s.lode.avg.map (·.1)).foldl (· + ·) 0) n
  let t := divFree 411 ((s.lode.avg.map (·.2)).foldl (· + ·) 0) n
  s.updLode fun x => { x with hold := (f, t), holdAt := s.now, specRaised := false }

/-- The loop in HOLDOVER. -/
def heldOver (s : State) : State := (s.averaged.enterLoop 4).holdCompute

theorem looped_averaged : s.averaged.get Reg.LODE.STAT_REF = s.get Reg.LODE.STAT_REF ∧ s.averaged.loopState = s.loopState ∧
    s.averaged.lode.holdAt = s.now := ⟨rfl, rfl, rfl⟩

theorem loseAll_idle {s : State} (h : s.loopState = 0 ∨ s.loopState = 4) : s.loseAll = s.set Reg.LODE.STAT_REF 0 := by
  unfold loseAll
  dsimp only
  rw [state_set_ref]
  exact if_pos h

theorem loseAll_held {s : State} (h : ¬(s.loopState = 0 ∨ s.loopState = 4)) (ha : 10 ≤ s.lode.avg.length) :
    s.loseAll = (s.set Reg.LODE.STAT_REF 0).heldOver := by
  unfold loseAll
  dsimp only
  rw [state_set_ref, if_neg h]
  exact if_pos ha

theorem loseAll_free {s : State} (h : ¬(s.loopState = 0 ∨ s.loopState = 4)) (ha : ¬10 ≤ s.lode.avg.length) :
    s.loseAll = ((s.set Reg.LODE.STAT_REF 0).enterLoop 0).set Reg.LODE.FREQ 0 := by
  unfold loseAll
  dsimp only
  rw [state_set_ref, if_neg h]
  exact if_neg ha

theorem ref_heldOver : s.heldOver.get Reg.LODE.STAT_REF = s.get Reg.LODE.STAT_REF := by
  rw [heldOver, ref_holdCompute, ref_enterLoop, s.looped_averaged.1]

theorem ref_loseAll : s.loseAll.get Reg.LODE.STAT_REF = 0 := by
  by_cases h : s.loopState = 0 ∨ s.loopState = 4
  · rw [loseAll_idle h, ref_set_ref]
  · by_cases ha : 10 ≤ s.lode.avg.length
    · rw [loseAll_held h ha, ref_heldOver, ref_set_ref]
    · rw [loseAll_free h ha, get_set_other _ _ (by decide) (by decide), ref_enterLoop, ref_set_ref]

theorem state_loseAll : s.loseAll.loopState =
    if s.loopState = 0 ∨ s.loopState = 4 then s.loopState else if 10 ≤ s.lode.avg.length then 4 else 0 := by
  by_cases h : s.loopState = 0 ∨ s.loopState = 4
  · rw [loseAll_idle h, state_set_ref, if_pos h]
  · rw [if_neg h]
    by_cases ha : 10 ≤ s.lode.avg.length
    · rw [loseAll_held h ha, if_pos ha]
      rw [heldOver, state_holdCompute, state_enterLoop _ (by decide)]
    · have hfreq (u : State) : (u.set Reg.LODE.FREQ 0).loopState = u.loopState := get_set_other _ _ (by decide) (by decide)
      rw [loseAll_free h ha, if_neg ha, hfreq, state_enterLoop _ (by decide)]

theorem freq_loseAll {s : State} (h : ¬(s.loopState = 0 ∨ s.loopState = 4)) (ha : s.lode.avg.length < 10) :
    s.loseAll.get Reg.LODE.FREQ = 0 := by
  rw [loseAll_free h (by omega), get_set_same _ _ (by decide)]
  rfl

/-- Into HOLDOVER: its time is noted, and its event is raised. -/
theorem held_heldOver {s : State} (h : s.loopState ≠ 4) : s.heldOver.lode.holdAt = s.now ∧ Raised 163 s.heldOver := by
  obtain ⟨-, hstate, hat⟩ := s.looped_averaged
  have h4 : s.averaged.loopState ≠ 4 := by rw [hstate]; exact h
  unfold heldOver
  generalize s.averaged = u at hat h4
  have hraised := raised_stage (k := 163) h4 rfl
  have hhold := (Looped.enterLoop h4).holdAt
  generalize u.enterLoop 4 = v at hraised hhold
  have hlode : v.holdCompute.lode = v.lode := (((RegsOnly.refl v).setB _ _).set _ _).lode
  have hflt : v.holdCompute.flt = v.flt := by
    unfold holdCompute setB
    rw [set_flt, set_flt]
  rw [hlode, hhold]
  refine ⟨hat, ?_⟩
  unfold Raised
  rw [hflt]
  exact hraised

/-- The state in which a reference is in use of a loop that runs. -/
def builtOut (new : Nat) (s : State) : State :=
  ((s.set Reg.LODE.STAT_REF new).updLode fun x =>
    { x with buildout := (s.set Reg.LODE.STAT_REF new).phaseOf new + (s.set Reg.LODE.STAT_REF new).loopMade, decayAt := s.now, inside := none,
             lastClass := if s.loopState = 3 then refClass new else x.lastClass }).showLoop

theorem looped_builtOut (new : Nat) : Looped (s.set Reg.LODE.STAT_REF new) (s.builtOut new) :=
  ((Looped.refl _).updLode (by exact fun _ => ⟨rfl, rfl, rfl⟩)).showLoop

theorem lode_builtOut (new : Nat) : (s.builtOut new).lode.inside = none ∧ (s.builtOut new).lode.l = s.lode.l := by
  unfold builtOut
  rw [lode_showLoop]
  exact ⟨rfl, rfl⟩

theorem state_builtOut (new : Nat) : (s.builtOut new).loopState = s.loopState :=
  (s.looped_builtOut new).state.trans (state_set_ref s new)

theorem switchRef_acquire {s : State} {new : Nat} (h : s.loopState = 0) : s.switchRef new = (s.set Reg.LODE.STAT_REF new).enterLoop 1 := by
  unfold switchRef
  dsimp only
  rw [state_set_ref]
  exact if_pos h

theorem switchRef_holdover {s : State} {new : Nat} (h : s.loopState = 4) : s.switchRef new = (s.builtOut new).enterLoop 2 := by
  have hb := state_builtOut s new
  unfold switchRef
  dsimp only
  rw [state_set_ref, if_neg (by omega)]
  exact if_pos (hb.trans h)

theorem switchRef_running {s : State} {new : Nat} (h : s.loopState ≠ 0) (h4 : s.loopState ≠ 4) : s.switchRef new =
    (s.builtOut new).when (decide (s.loopRef ≠ 0)) (lodeEvent 1 [s.loopRef, new, (s.builtOut new).get Reg.LODE.BUILDOUT]) := by
  have hb := state_builtOut s new
  unfold switchRef
  dsimp only
  rw [state_set_ref, if_neg h]
  exact if_neg (by rw [← hb] at h4; exact h4)

end

/-- What the switch to a reference leaves: it is in use, the state follows, and its build-out begins. -/
structure Switched (new : Nat) (s t : State) : Prop where
  ref : t.get Reg.LODE.STAT_REF = new
  state : t.loopState = if s.loopState = 0 then 1 else if s.loopState = 4 then 2 else s.loopState
  inside : t.lode.inside = none
  raised : s.loopRef ≠ 0 → s.loopState ≠ 0 → s.loopState ≠ 4 → Raised 162 t
  l : s.loopState ≠ 0 → t.lode.l = s.lode.l

theorem switched_switchRef {new : Nat} {s : State} (hn : new < 16) : Switched new s (s.switchRef new) := by
  have href : (s.set Reg.LODE.STAT_REF new).get Reg.LODE.STAT_REF = new := (ref_set_ref s new).trans (Nat.mod_eq_of_lt hn)
  have hbref : (s.builtOut new).get Reg.LODE.STAT_REF = new := (s.looped_builtOut new).ref.trans href
  have hbstate := state_builtOut s new
  obtain ⟨hbin, hbl⟩ := lode_builtOut s new
  by_cases h0 : s.loopState = 0
  · rw [switchRef_acquire h0]
    refine ⟨(ref_enterLoop 1 _).trans href, ?_, ?_, fun _ h => absurd h0 h, fun h => absurd h0 h⟩
    · rw [if_pos h0, state_enterLoop _ (by decide)]
    · exact inside_enterLoop (by rw [state_set_ref, h0]; decide)
  · by_cases h4 : s.loopState = 4
    · have hb2 : (s.builtOut new).loopState ≠ 2 := by omega
      rw [switchRef_holdover h4]
      refine ⟨(ref_enterLoop 2 _).trans hbref, ?_, inside_enterLoop hb2, fun _ _ h => absurd h4 h, fun _ => ?_⟩
      · rw [if_neg h0, if_pos h4, state_enterLoop _ (by decide)]
      · rw [lode_enterLoop hb2 (by omega)]
        exact hbl
    · rw [switchRef_running h0 h4]
      have hl := (s.looped_builtOut new).when (decide (s.loopRef ≠ 0))
        (((s.looped_builtOut new).lodeEvent 1 [s.loopRef, new, (s.builtOut new).get Reg.LODE.BUILDOUT]))
      have hlode : ((s.builtOut new).when (decide (s.loopRef ≠ 0))
          (lodeEvent 1 [s.loopRef, new, (s.builtOut new).get Reg.LODE.BUILDOUT])).lode = (s.builtOut new).lode :=
        when_keeps _ (·.lode) _ _ (lode_lodeEvent _ _ _)
      refine ⟨hl.ref.trans href, ?_, (congrArg LodeState.inside hlode).trans hbin, fun hr _ _ => ?_,
        fun _ => (congrArg LodeState.l hlode).trans hbl⟩
      · rw [if_neg h0, if_neg h4]
        exact hl.state.trans (state_set_ref s new)
      · rw [decide_eq_true hr, when_true]
        exact raised_lodeEvent _ _ (by decide)

/-! ### The selection -/

theorem reselect_off {s : State} (h : s.lodeEn = false) : s.reselect = s := by
  unfold reselect
  rw [h]
  exact if_neg Bool.false_ne_true

theorem reselect_same {s : State} (h : s.selectedRef = s.loopRef) (h0 : s.loopRef ≠ 0) : s.reselect = s := by
  unfold reselect
  dsimp only
  split
  · exact if_pos ⟨h, h ▸ h0⟩
  · rfl

theorem reselect_none {s : State} (he : s.lodeEn = true) (h : s.selectedRef = 0) : s.reselect = s.loseAll := by
  unfold reselect
  dsimp only
  rw [if_pos he, if_neg (fun hc => hc.2 h), if_pos h]

theorem reselect_other {s : State} (he : s.lodeEn = true) (h : s.selectedRef ≠ s.loopRef) (h0 : s.selectedRef ≠ 0) :
    s.reselect = s.switchRef s.selectedRef := by
  unfold reselect
  dsimp only
  rw [if_pos he, if_neg (fun hc => h hc.1), if_neg h0]

/-- The selection rests on PRIO, SEL, the reference in use and what is qualified. -/
theorem selectedRef_congr {s t : State} (ha : t.get Reg.LODE.SEL_AUTO = s.get Reg.LODE.SEL_AUTO)
    (hm : t.get Reg.LODE.SEL_MANREF = s.get Reg.LODE.SEL_MANREF) (hr : t.get Reg.LODE.SEL_REVERT = s.get Reg.LODE.SEL_REVERT)
    (hp : t.get Reg.LODE.PRIO = s.get Reg.LODE.PRIO) (hw : t.get Reg.LODE.QUAL_WTR = s.get Reg.LODE.QUAL_WTR)
    (hc : t.get Reg.LODE.STAT_REF = s.get Reg.LODE.STAT_REF) (hq : t.lode.qual = s.lode.qual) (hn : t.now = s.now) :
    t.selectedRef = s.selectedRef := by
  unfold selectedRef revertTo prioList loopRef refQualified
  rw [ha, hm, hr, hp, hw, hc, hq, hn]

theorem mem_prioList {s : State} {c : Nat} (h : c ∈ s.prioList) : c < 16 ∧ c ≠ 0 := by
  unfold prioList at h
  have hne : decide (c ≠ 0) = true := List.mem_takeWhile_imp (p := fun x => decide (x ≠ 0)) h
  obtain ⟨i, -, hi⟩ := List.mem_map.mp ((List.takeWhile_subset _) h)
  refine ⟨hi ▸ Nat.lt_of_lt_of_le (bits_lt _ _ _) ?_, of_decide_eq_true hne⟩
  have hw : 4 * i + 3 + 1 - 4 * i = 4 := by omega
  rw [hw]
  decide

theorem mem_of_afterIn {x c : Nat} {l : List Nat} (h : c ∈ afterIn x l) : c ∈ l := by
  induction l with
  | nil => exact h
  | cons y l ih =>
    unfold afterIn at h
    split at h
    · exact List.mem_cons_of_mem _ h
    · exact List.mem_cons_of_mem _ (ih h)

theorem revertTo_mem {s : State} {cur c : Nat} (h : s.revertTo cur = some c) : c ∈ s.prioList := by
  unfold revertTo at h
  split at h
  · exact (List.takeWhile_subset _) (List.mem_of_find?_eq_some h)
  · cases h

theorem selectedRef_lt (s : State) : s.selectedRef < 16 := by
  unfold selectedRef
  split
  · dsimp only
    split
    · exact s.get_lt _
    · decide
  · dsimp only
    split
    · cases h : s.revertTo s.loopRef with
      | none => exact s.get_lt _
      | some c => exact (mem_prioList (revertTo_mem h)).1
    · split
      next c hc => exact (mem_prioList (mem_of_afterIn (List.mem_of_find?_eq_some hc))).1
      · cases h : s.prioList.find? (fun c => s.refQualified c) with
        | none => decide
        | some c => exact (mem_prioList (List.mem_of_find?_eq_some h)).1


/-! ### Numbers of 32 bits -/

theorem ofSigned_lt (v : Int) : ofSigned 32 v < 2 ^ 32 := by unfold ofSigned; omega

theorem toSigned_ofSigned_word {v : Int} (hlo : -(2 ^ 31) ≤ v) (hhi : v < 2 ^ 31) : toSigned 32 (ofSigned 32 v) = v := by
  unfold toSigned ofSigned
  split <;> omega

theorem get_set_signed {r : FRef} {s : State} (v : Int) (h : r.hi < 32) (hw : r.width = 32) :
    (s.set r (ofSigned 32 v)).get r = ofSigned 32 v := by
  rw [get_set_same _ _ h, hw]
  exact Nat.mod_eq_of_lt (ofSigned_lt v)

/-! ### A reference loses its qualification -/

/-- The reference is no longer among the qualified, from now. -/
def dropped (ref : Nat) (s : State) : State :=
  s.updLode fun x => { x with qual := Assoc.del x.qual ref, lostAt := Assoc.put x.lostAt ref s.now }

/-- The reference in use is lost, and both events have gone. -/
def usedLost (ref : Nat) (s : State) : State := ((s.dropped ref).lodeEvent 6 [ref]).lodeEvent 0 [ref]

section
variable (ref : Nat) (s : State)

theorem disqualify_used {ref : Nat} {s : State} (hq : s.refQualified ref = true) (hr : s.loopRef = ref) :
    s.disqualify ref = (s.usedLost ref).reselect := by
  have hl : ((s.dropped ref).lodeEvent 6 [ref]).loopRef = ref := ((Looped.refl _).lodeEvent 6 [ref] : Looped (s.dropped ref) _).ref.trans hr
  unfold disqualify
  rw [if_pos hq]
  exact if_pos hl

theorem disqualify_unused {ref : Nat} {s : State} (hq : s.refQualified ref = true) (hr : ref ≠ s.loopRef) :
    s.disqualify ref = (s.dropped ref).lodeEvent 6 [ref] := by
  have hl : ((s.dropped ref).lodeEvent 6 [ref]).loopRef = s.loopRef := ((Looped.refl _).lodeEvent 6 [ref] : Looped (s.dropped ref) _).ref
  unfold disqualify
  rw [if_pos hq]
  exact if_neg (by rw [← hl] at hr; exact fun h => hr h.symm)

theorem disqualify_other {ref : Nat} {s : State} (hq : s.refQualified ref = false) : s.disqualify ref = s := by
  unfold disqualify
  exact if_neg (by rw [hq]; exact Bool.false_ne_true)

theorem loopMoved_usedLost : LoopMoved s (s.usedLost ref) := (((LoopMoved.refl s).updLode _).lodeEvent _ _).lodeEvent _ _

theorem looped_usedLost : Looped (s.dropped ref) (s.usedLost ref) := ((Looped.refl _).lodeEvent _ _).lodeEvent _ _

theorem raised_usedLost : Raised 161 (s.usedLost ref) ∧ Raised 167 (s.usedLost ref) :=
  ⟨raised_lodeEvent _ _ (by decide), raised_raise_of _ _ (raised_lodeEvent _ _ (by decide))⟩

theorem lode_usedLost : (s.usedLost ref).lode = (s.dropped ref).lode := by
  unfold usedLost
  rw [lode_lodeEvent, lode_lodeEvent]

theorem now_of_loopMoved {s t : State} (h : LoopMoved s t) : t.now = s.now := by obtain ⟨_, _, _, _, rfl⟩ := h.only; rfl

theorem selectedRef_usedLost : (s.usedLost ref).selectedRef = (s.dropped ref).selectedRef := by
  have h := loopMoved_usedLost ref s
  refine selectedRef_congr (h.get (by decide) (by decide)) (h.get (by decide) (by decide)) (h.get (by decide) (by decide))
    (h.get (by decide) (by decide)) (h.get (by decide) (by decide)) (looped_usedLost ref s).ref ?_ ((now_of_loopMoved h).trans rfl)
  rw [lode_usedLost]

theorem lostAt_enterLoop (st : Nat) : (s.enterLoop st).lode.lostAt = s.lode.lostAt := by
  by_cases h : s.loopState = st
  · rw [enterLoop_same h]
  · exact (Looped.enterLoop h).lostAt

theorem lostAt_loseAll : s.loseAll.lode.lostAt = s.lode.lostAt := by
  have hc (u : State) : u.holdCompute.lode = u.lode := (((RegsOnly.refl u).setB _ _).set _ _).lode
  by_cases h : s.loopState = 0 ∨ s.loopState = 4
  · rw [loseAll_idle h]
    rfl
  · by_cases ha : 10 ≤ s.lode.avg.length
    · rw [loseAll_held h ha, heldOver, hc, lostAt_enterLoop]
      rfl
    · have hf (u : State) : (u.set Reg.LODE.FREQ 0).lode = u.lode := rfl
      rw [loseAll_free h ha, hf, lostAt_enterLoop]
      rfl

theorem lostAt_switchRef (new : Nat) : (s.switchRef new).lode.lostAt = s.lode.lostAt := by
  have hb := (s.looped_builtOut new).lostAt
  by_cases h0 : s.loopState = 0
  · rw [switchRef_acquire h0, lostAt_enterLoop]
    rfl
  · by_cases h4 : s.loopState = 4
    · rw [switchRef_holdover h4, lostAt_enterLoop]
      exact hb
    · rw [switchRef_running h0 h4, when_keeps _ (fun u => u.lode) _ _ (lode_lodeEvent _ _ _)]
      exact hb

theorem lostAt_reselect : s.reselect.lode.lostAt = s.lode.lostAt := by
  unfold reselect
  dsimp only
  split
  · split
    · rfl
    · split
      · exact lostAt_loseAll s
      · exact lostAt_switchRef s _
  · rfl

end

/-- The reference in use is lost: its qualification ends with both events. -/
theorem used_lost {ref : Nat} {s : State} (hq : s.refQualified ref = true) (hr : s.loopRef = ref) :
    (s.disqualify ref).refQualified ref = false ∧ Assoc.find (s.disqualify ref).lode.lostAt ref = some s.now ∧
      Raised 161 (s.disqualify ref) ∧ Raised 167 (s.disqualify ref) := by
  have htold := (LoopTold.refl (s.usedLost ref)).reselect
  obtain ⟨h1, h7⟩ := raised_usedLost ref s
  refine ⟨(disqualify_told ref).2, ?_, ?_⟩
  · rw [disqualify_used hq hr, lostAt_reselect, lode_usedLost]
    exact Assoc.find_put_same _ _ _
  · rw [disqualify_used hq hr]
    exact ⟨htold.raised _ h1, htold.raised _ h7⟩

/-- The selection once the reference in use is gone, in the order of PRIO. -/
theorem selectedRef_dropped {ref : Nat} {s : State} (ha : s.get Reg.LODE.SEL_AUTO = 1) (hr : s.loopRef = ref) :
    (s.dropped ref).selectedRef = ((afterIn ref s.prioList).find? fun c => (s.dropped ref).refQualified c).getD
      ((s.prioList.find? fun c => (s.dropped ref).refQualified c).getD 0) := by
  have hgone : (s.dropped ref).refQualified ref = false := congrArg Option.isSome (Assoc.find_del_same _ _)
  have hauto : (s.dropped ref).get Reg.LODE.SEL_AUTO = 1 := ha
  have huse : (s.dropped ref).loopRef = ref := hr
  have hprio : (s.dropped ref).prioList = s.prioList := rfl
  unfold selectedRef
  dsimp only
  rw [hauto, if_neg (by decide), huse, hgone, Bool.and_false, if_neg Bool.false_ne_true, hprio]
  cases (afterIn ref s.prioList).find? fun c => (s.dropped ref).refQualified c <;> rfl


/-! ### The loop step (R414) -/

/-- How far the loop step has let L move by now, in ns. -/
def stepFar (s : State) : Nat :=
  min (toSigned 32 (s.get Reg.LODE.LOOPREM)).natAbs ((s.now - s.lode.stepAt) * s.phSlew / 1000000)

/-- That far in the direction of what remains. -/
def stepMade (s : State) : Int := if 0 ≤ toSigned 32 (s.get Reg.LODE.LOOPREM) then s.stepFar else -(s.stepFar : Int)

/-- No loop step moves L now. -/
def stepIdle (s : State) : Prop :=
  s.get Reg.LODE.STAT_PHSTEPPEND = 0 ∨ (s.stepFar = 0 ∧ toSigned 32 (s.get Reg.LODE.LOOPREM) ≠ 0)

/-- L has moved by d, and that much less remains. -/
def stepBegun (s : State) : State :=
  ((s.moveL s.stepMade).set Reg.LODE.LOOPREM (ofSigned 32 (toSigned 32 (s.get Reg.LODE.LOOPREM) - s.stepMade))).updLode fun x =>
    { x with stepAt := x.stepAt + s.stepFar * 1000000 / s.phSlew }

/-- So the loop shows it. -/
def stepMoved (s : State) : State := s.stepBegun.showLoop

theorem get_updLode (f : LodeState → LodeState) (s : State) (r : FRef) : (s.updLode f).get r = s.get r := rfl

theorem lode_set (r : FRef) (v : Nat) (s : State) : (s.set r v).lode = s.lode := ((RegsOnly.refl s).set r v).lode

theorem lode_updLode (f : LodeState → LodeState) (s : State) : (s.updLode f).lode = f s.lode := rfl

theorem loopStepMoves_idle {s : State} (h : s.stepIdle) : s.loopStepMoves = s := by
  unfold loopStepMoves
  exact if_pos (by
    rw [Bool.not_eq_true', flag_eq_false]
    exact h)

theorem loopStepMoves_moving {s : State} (h : ¬s.stepIdle) : s.loopStepMoves =
    if toSigned 32 (s.get Reg.LODE.LOOPREM) - s.stepMade = 0 then (s.stepMoved.set Reg.LODE.STAT_PHSTEPPEND 0).lodeEvent 9 [s.stepMoved.loopRef]
    else s.stepMoved := by
  unfold loopStepMoves
  exact if_neg (by
    rw [Bool.not_eq_true', flag_eq_false]
    exact h)

theorem looped_loopRem (s : State) (v : Nat) : Looped s (s.set Reg.LODE.LOOPREM v) :=
  (Looped.refl s).set v (by decide) (by decide) (by decide) (by decide) (by decide)

theorem looped_stepMoved (s : State) : Looped s s.stepMoved :=
  ((((Looped.refl s).moveL _).set _ (by decide) (by decide) (by decide) (by decide) (by decide)).updLode
    (by exact fun _ => ⟨rfl, rfl, rfl⟩)).showLoop

theorem looped_loopStepMoves (s : State) : Looped s s.loopStepMoves := by
  by_cases h : s.stepIdle
  · rw [loopStepMoves_idle h]
    exact Looped.refl s
  · rw [loopStepMoves_moving h]
    exact (((looped_stepMoved s).set _ (by decide) (by decide) (by decide) (by decide) (by decide)).lodeEvent _ _).ite (looped_stepMoved s)

theorem get_showLoop {r : FRef} (s : State) (h1 : r.apart Reg.LODE.TMINUSL = true) (h2 : r.apart Reg.LODE.BUILDOUT = true)
    (h3 : r.apart Reg.LODE.PHERR = true) : s.showLoop.get r = s.get r := by
  unfold showLoop
  rw [get_set_other _ _ h3 (by decide), get_set_other _ _ h2 (by decide), get_set_other _ _ h1 (by decide)]

theorem get_lodeEvent {r : FRef} (n : Nat) (items : List Nat) (s : State) (h : r.apart Reg.LODE.EVSTAT = true)
    (ha : r.addr < 0x11003000 ∨ 0x11004800 ≤ r.addr) : (s.lodeEvent n items).get r = s.get r := by
  unfold lodeEvent event
  rw [get_raise _ _ _ ha, get_orBit_other _ _ h (by decide)]

theorem rem_stepMoved (s : State) : s.stepMoved.get Reg.LODE.LOOPREM = ofSigned 32 (toSigned 32 (s.get Reg.LODE.LOOPREM) - s.stepMade) := by
  rw [stepMoved, get_showLoop _ (by decide) (by decide) (by decide), stepBegun, get_updLode, get_set_signed _ (by decide) rfl]

theorem ofs_stepMoved (s : State) : s.stepMoved.get Reg.LODE.LOOPOFS = s.get Reg.LODE.LOOPOFS := by
  rw [stepMoved, get_showLoop _ (by decide) (by decide) (by decide), stepBegun, get_updLode, get_set_other _ _ (by decide) (by decide), moveL,
    get_updLode]

theorem pend_stepMoved (s : State) : s.stepMoved.get Reg.LODE.STAT_PHSTEPPEND = s.get Reg.LODE.STAT_PHSTEPPEND := by
  rw [stepMoved, get_showLoop _ (by decide) (by decide) (by decide), stepBegun, get_updLode, get_set_other _ _ (by decide) (by decide), moveL,
    get_updLode]

theorem l_stepMoved (s : State) : s.stepMoved.lode.l = (((s.lode.l : Int) + s.stepMade) % (2 ^ 64 * 1000)).toNat := by
  rw [stepMoved, lode_showLoop, stepBegun, lode_updLode, lode_set, moveL, lode_updLode]

/-- What is left of a loop step, and where L stands, once it has moved. -/
theorem loopStepMoves_rem (s : State) : s.loopStepMoves.get Reg.LODE.LOOPREM =
    if s.get Reg.LODE.STAT_PHSTEPPEND = 0 ∨ (s.stepFar = 0 ∧ toSigned 32 (s.get Reg.LODE.LOOPREM) ≠ 0) then s.get Reg.LODE.LOOPREM
    else ofSigned 32 (toSigned 32 (s.get Reg.LODE.LOOPREM) - s.stepMade) := by
  by_cases h : s.stepIdle
  · rw [loopStepMoves_idle h]
    exact (if_pos h).symm
  · rw [loopStepMoves_moving h]
    refine Eq.trans ?_ (if_neg h).symm
    split
    · rw [get_lodeEvent _ _ _ (by decide) (by decide), get_set_other _ _ (by decide) (by decide), rem_stepMoved]
    · exact rem_stepMoved s

theorem loopStepMoves_ofs (s : State) : s.loopStepMoves.get Reg.LODE.LOOPOFS = s.get Reg.LODE.LOOPOFS := by
  by_cases h : s.stepIdle
  · rw [loopStepMoves_idle h]
  · rw [loopStepMoves_moving h]
    split
    · rw [get_lodeEvent _ _ _ (by decide) (by decide), get_set_other _ _ (by decide) (by decide), ofs_stepMoved]
    · exact ofs_stepMoved s

theorem loopStepMoves_l (s : State) : s.loopStepMoves.lode.l =
    if s.get Reg.LODE.STAT_PHSTEPPEND = 0 ∨ (s.stepFar = 0 ∧ toSigned 32 (s.get Reg.LODE.LOOPREM) ≠ 0) then s.lode.l
    else (((s.lode.l : Int) + s.stepMade) % (2 ^ 64 * 1000)).toNat := by
  by_cases h : s.stepIdle
  · rw [loopStepMoves_idle h]
    exact (if_pos h).symm
  · rw [loopStepMoves_moving h]
    refine Eq.trans ?_ (if_neg h).symm
    split
    · rw [lode_lodeEvent]
      exact l_stepMoved s
    · exact l_stepMoved s

/-- A state that shows the same of the loop step moves L alike. -/
theorem loopStepMoves_congr {s t : State} (hrem : t.get Reg.LODE.LOOPREM = s.get Reg.LODE.LOOPREM)
    (hpend : t.get Reg.LODE.STAT_PHSTEPPEND = s.get Reg.LODE.STAT_PHSTEPPEND) (hslew : t.get Reg.LODE.PHSLEW = s.get Reg.LODE.PHSLEW)
    (hofs : t.get Reg.LODE.LOOPOFS = s.get Reg.LODE.LOOPOFS) (hnow : t.now = s.now) (hlode : t.lode = s.lode) :
    t.loopStepMoves.get Reg.LODE.LOOPREM = s.loopStepMoves.get Reg.LODE.LOOPREM ∧
      t.loopStepMoves.get Reg.LODE.LOOPOFS = s.loopStepMoves.get Reg.LODE.LOOPOFS ∧ t.loopStepMoves.lode.l = s.loopStepMoves.lode.l := by
  have hfar : t.stepFar = s.stepFar := by
    unfold stepFar phSlew
    rw [hrem, hslew, hnow, hlode]
  have hmade : t.stepMade = s.stepMade := by
    unfold stepMade
    rw [hrem, hfar]
  rw [loopStepMoves_rem, loopStepMoves_rem, loopStepMoves_ofs, loopStepMoves_ofs, loopStepMoves_l, loopStepMoves_l, hrem, hpend, hfar,
    hmade, hofs, hlode]
  exact ⟨rfl, rfl, rfl⟩

/-- A loop step is asked for: it adds to the offset and to what remains. -/
def stepAsked (data : Word) (s : State) : State :=
  (s.set Reg.LODE.LOOPOFS (ofSigned 32 (toSigned 32 (s.get Reg.LODE.LOOPOFS) + toSigned 32 data.toNat))).set Reg.LODE.LOOPREM
    (ofSigned 32 (toSigned 32 (s.get Reg.LODE.LOOPREM) + toSigned 32 data.toNat))

/-- It counts from now, and whether anything of it remains is shown. -/
def stepShown (data : Word) (s : State) : State :=
  ((s.stepAsked data).updLode fun x => { x with stepAt := (s.stepAsked data).now }).setB Reg.LODE.STAT_PHSTEPPEND
    ((s.stepAsked data).flag Reg.LODE.LOOPREM)

theorem loopStepLand_eq (data : Word) (s : State) : ∃ c, s.loopStepLand data =
    (s.loopStepMoves.stepShown data).when c (lodeEvent 9 [(s.loopStepMoves.stepShown data).loopRef]) := by
  unfold loopStepLand stepShown stepAsked
  exact ⟨_, rfl⟩

theorem stepShown_shows (data : Word) (s : State) :
    (s.stepShown data).get Reg.LODE.LOOPOFS = ofSigned 32 (toSigned 32 (s.get Reg.LODE.LOOPOFS) + toSigned 32 data.toNat) ∧
      (s.stepShown data).get Reg.LODE.LOOPREM = ofSigned 32 (toSigned 32 (s.get Reg.LODE.LOOPREM) + toSigned 32 data.toNat) ∧
      (s.stepShown data).get Reg.LODE.STAT_PHSTEPPEND = b2n ((s.stepShown data).get Reg.LODE.LOOPREM != 0) ∧
      (s.stepShown data).lode = { s.lode with stepAt := s.now } := by
  have hrem : (s.stepShown data).get Reg.LODE.LOOPREM = (s.stepAsked data).get Reg.LODE.LOOPREM := by
    rw [stepShown, setB, get_set_other _ _ (by decide) (by decide), get_updLode]
  have hnow : (s.stepAsked data).now = s.now := (((RegsOnly.refl s).set _ _).set _ _).now
  refine ⟨?_, ?_, ?_, ?_⟩
  · rw [stepShown, setB, get_set_other _ _ (by decide) (by decide), get_updLode, stepAsked, get_set_other _ _ (by decide) (by decide),
      get_set_signed _ (by decide) rfl]
  · rw [hrem, stepAsked, get_set_signed _ (by decide) rfl]
  · rw [hrem, stepShown, get_setB_same _ _ (by decide) (by decide), flag]
  · rw [stepShown, setB, lode_set, lode_updLode, hnow, stepAsked, lode_set, lode_set]

theorem looped_stepShown (data : Word) (s : State) : Looped s (s.stepShown data) :=
  ((((Looped.refl s).set _ (by decide) (by decide) (by decide) (by decide) (by decide)).set _ (by decide) (by decide) (by decide)
    (by decide) (by decide)).updLode (by exact fun _ => ⟨rfl, rfl, rfl⟩)).set _ (by decide) (by decide) (by decide) (by decide) (by decide)

/-- A write of LOOPSTEP adds to the offset and to what remains. -/
theorem loopStepLand_shows (data : Word) (s : State) :
    (s.loopStepLand data).get Reg.LODE.LOOPOFS = ofSigned 32 (toSigned 32 (s.loopStepMoves.get Reg.LODE.LOOPOFS) + toSigned 32 data.toNat) ∧
      (s.loopStepLand data).get Reg.LODE.LOOPREM = ofSigned 32 (toSigned 32 (s.loopStepMoves.get Reg.LODE.LOOPREM) + toSigned 32 data.toNat) ∧
      (s.loopStepLand data).get Reg.LODE.STAT_PHSTEPPEND = b2n ((s.loopStepLand data).get Reg.LODE.LOOPREM != 0) ∧
      (s.loopStepLand data).lode = { s.loopStepMoves.lode with stepAt := s.now } ∧ Looped s (s.loopStepLand data) := by
  have hloop := looped_loopStepMoves s
  have hnow : s.loopStepMoves.now = s.now := by obtain ⟨_, _, _, _, he⟩ := hloop.only; rw [he]
  obtain ⟨c, hc⟩ := loopStepLand_eq data s
  rw [hc]
  obtain ⟨h1, h2, h3, h4⟩ := stepShown_shows data s.loopStepMoves
  have hl := hloop.trans (looped_stepShown data _)
  rw [hnow] at h4
  generalize s.loopStepMoves.stepShown data = u at h1 h2 h3 h4 hl ⊢
  have hget {r : FRef} (h : r.apart Reg.LODE.EVSTAT = true) (ha : r.addr < 0x11003000 ∨ 0x11004800 ≤ r.addr) :
      (u.when c (lodeEvent 9 [u.loopRef])).get r = u.get r := when_keeps u (·.get r) c _ (get_lodeEvent _ _ _ h ha)
  rw [hget (by decide) (by decide), hget (by decide) (by decide), hget (by decide) (by decide),
    when_keeps u (·.lode) c _ (lode_lodeEvent _ _ _)]
  exact ⟨h1, h2, h3, h4, hl.when _ (hl.lodeEvent _ _)⟩


/-! ### Phases compared -/

theorem pulseIn_is (ref : Nat) (line : Bool) (late : Int) (s : State) :
    (s.pulseIn ref line late).regs = s.regs ∧ s.pulseIn ref line late = { s with lode := (s.pulseIn ref line late).lode } ∧
      (Assoc.find (s.pulseIn ref line late).lode.seen ref).isSome = true ∧
      (Assoc.find (s.pulseIn ref line late).lode.phase ref).isSome = true := by
  refine ⟨rfl, rfl, ?_, ?_⟩
  · exact congrArg Option.isSome (Assoc.find_put_same _ _ _)
  · exact congrArg Option.isSome (Assoc.find_put_same _ _ _)

theorem phase_pulseIn (ref : Nat) (late : Int) (s : State) : Assoc.find (s.pulseIn ref false late).lode.phase ref =
    some (pinWrap (if ref = 7 then 0 else s.pinPeriod ref false) ((s.pinOfs ref - late) * 1000)) := by
  unfold pulseIn
  exact Assoc.find_put_same _ _ _

/-- The detector's part of a comparison: PTP and TWIN have no pulses. -/
def pulsed (ref : Nat) (line : Bool) (late : Int) (s : State) : State := if ref = 1 ∨ ref = 8 then s else s.pulseIn ref line late

theorem regs_pulsed (ref : Nat) (line : Bool) (late : Int) (s : State) :
    ∃ x, s.pulsed ref line late = { s with lode := x } := by
  unfold pulsed
  split
  · exact ⟨_, rfl⟩
  · exact ⟨_, rfl⟩

/-- The reference is one that the loop steers to. -/
def steers (ref : Nat) (s : State) : Prop :=
  s.lodeEn ∧ ref = s.loopRef ∧ ref ≠ 0 ∧ (s.loopState = 1 ∨ s.loopState = 2 ∨ s.loopState = 3)

theorem steers_pulsed {ref : Nat} {line : Bool} {late : Int} {s : State} : (s.pulsed ref line late).steers ref ↔ s.steers ref := by
  obtain ⟨x, hx⟩ := regs_pulsed ref line late s
  rw [hx]
  rfl

theorem phaseCompare_idle {ref : Nat} {line : Bool} {late : Int} {s : State} (h : ¬s.steers ref) :
    s.phaseCompare ref line late = s.pulsed ref line late := by
  unfold phaseCompare
  exact if_neg fun hc => h (steers_pulsed.mp hc)

theorem phaseCompare_steering {ref : Nat} {line : Bool} {late : Int} {s : State} (h : s.steers ref) :
    s.phaseCompare ref line late =
      (((s.pulsed ref line late).loopStepMoves.decayBuildout.steer).judgePhase).showLoop.avgSample := by
  unfold phaseCompare
  exact if_pos (steers_pulsed.mpr h)

theorem not_steers {ref : Nat} {s : State} (h : s.lodeEn = false ∨ ref ≠ s.loopRef ∨ s.loopState = 0 ∨ 4 ≤ s.loopState) :
    ¬s.steers ref := by
  rintro ⟨hen, hr, -, hst⟩
  rcases h with h | h | h | h
  · rw [h] at hen
    cases hen
  · exact h hr
  · omega
  · omega

theorem looped_decayBuildout {s t : State} (h : Looped s t) : Looped s t.decayBuildout := by
  unfold decayBuildout
  dsimp only
  exact (h.updLode (by exact fun _ => ⟨rfl, rfl, rfl⟩)).ite (h.updLode (by exact fun _ => ⟨rfl, rfl, rfl⟩))

theorem looped_avgSample {s t : State} (h : Looped s t) : Looped s t.avgSample := by
  have hl := h.updLode (f := fun x => { x with avg := ((toSigned 32 (t.get Reg.LODE.FREQ), t.tempNow) :: x.avg).take 300, avgAt := t.now })
    fun _ => ⟨rfl, rfl, rfl⟩
  unfold avgSample showAvg
  exact ((hl.set _ (by decide) (by decide) (by decide) (by decide) (by decide)).set _ (by decide) (by decide) (by decide) (by decide)
    (by decide)).ite h

/-- The judgement of the phase error leaves the loop where it was, or in ACQUIRE. -/
theorem judgePhase_cases (s : State) : Looped s s.judgePhase ∨ Looped (s.set Reg.LODE.STAT_STATE 1) s.judgePhase := by
  unfold judgePhase
  dsimp only
  split
  · exact .inl (Looped.refl s).realign
  · split
    next hc => exact .inr (Looped.enterLoop (by omega))
    · split
      · exact .inl ((Looped.refl s).updLode (by exact fun _ => ⟨rfl, rfl, rfl⟩))
      · exact .inl (Looped.refl s)

/-- A value of the loop filter: within 500 ppm. -/
theorem freq_steer (s : State) : (toSigned 32 (s.steer.get Reg.LODE.FREQ)).natAbs ≤ 500000000 := by
  have hmod : s.fresh.1 % 1000000001 < 1000000001 := Nat.mod_lt _ (by decide)
  have hget : s.steer.get Reg.LODE.FREQ = ofSigned 32 ((s.fresh.1 % 1000000001 : Nat) - (500000000 : Int)) :=
    get_set_signed _ (by decide) rfl
  rw [hget]
  generalize s.fresh.1 % 1000000001 = n at hmod
  rw [toSigned_ofSigned_word (by omega) (by omega)]
  omega

theorem free_fresh (s : State) : s.fresh.2.freeCtr = s.freeCtr + 1 ∧ s.fresh.2.regs = s.regs := ⟨rfl, rfl⟩

theorem steer_is (s : State) : s.steer.freeCtr = s.freeCtr + 1 ∧ RegsKept [.lode, .flt] s s.steer ∧
    s.steer.get Reg.LODE.STAT_REF = s.get Reg.LODE.STAT_REF ∧ s.steer.get Reg.LODE.STAT_STATE = s.get Reg.LODE.STAT_STATE := by
  have hf (r : FRef) : s.fresh.2.get r = s.get r := rfl
  unfold steer
  dsimp only
  obtain ⟨hctr, hregs⟩ := free_fresh s
  refine ⟨(((RegsOnly.refl s.fresh.2).set _ _).freeCtr).trans hctr, (((RegsKept.refl _ s).same hregs).set _ (by decide)), ?_, ?_⟩
  · rw [get_set_other _ _ (by decide) (by decide), hf]
  · rw [get_set_other _ _ (by decide) (by decide), hf]

/-- The oscillator is steered: beside the state of the loop nothing that stands moves from the steering on. -/
theorem steered_is {s w : State} (hw : Looped s w) : (toSigned 32 (w.steer.judgePhase.showLoop.avgSample.get Reg.LODE.FREQ)).natAbs ≤ 500000000 ∧
    w.steer.judgePhase.showLoop.avgSample.freeCtr = s.freeCtr + 1 ∧
    w.steer.judgePhase.showLoop.avgSample.get Reg.LODE.STAT_REF = s.get Reg.LODE.STAT_REF ∧
    (w.steer.judgePhase.showLoop.avgSample.loopState = s.loopState ∨ w.steer.judgePhase.showLoop.avgSample.loopState = 1) ∧
    RegsKept [.lode, .flt] s w.steer.judgePhase.showLoop.avgSample := by
  obtain ⟨hctr, hkept, href, hstate⟩ := steer_is w
  have hfreq := freq_steer w
  have hwctr : w.freeCtr = s.freeCtr := by obtain ⟨_, _, _, _, he⟩ := hw.only; rw [he]
  generalize w.steer = v at hctr hkept href hstate hfreq ⊢
  rcases judgePhase_cases v with h | h
  · have hl := looped_avgSample h.showLoop
    have hl' : v.judgePhase.showLoop.avgSample.freeCtr = v.freeCtr := by obtain ⟨_, _, _, _, he⟩ := hl.only; rw [he]
    refine ⟨hl.freq ▸ hfreq, hl'.trans (hctr.trans (by rw [hwctr])), hl.ref.trans (href.trans hw.ref), .inl ?_, ?_⟩
    · exact hl.state.trans (hstate.trans hw.state)
    · exact fun a ha => (hl.kept a ha).trans ((hkept a ha).trans (hw.kept a ha))
  · have hl := looped_avgSample h.showLoop
    have hl' : v.judgePhase.showLoop.avgSample.freeCtr = (v.set Reg.LODE.STAT_STATE 1).freeCtr := by
      obtain ⟨_, _, _, _, he⟩ := hl.only
      rw [he]
    have hvf : (v.set Reg.LODE.STAT_STATE 1).get Reg.LODE.FREQ = v.get Reg.LODE.FREQ := get_set_other _ _ (by decide) (by decide)
    have hvr : (v.set Reg.LODE.STAT_STATE 1).get Reg.LODE.STAT_REF = v.get Reg.LODE.STAT_REF := get_set_other _ _ (by decide) (by decide)
    have hvs : (v.set Reg.LODE.STAT_STATE 1).get Reg.LODE.STAT_STATE = 1 := get_set_same _ _ (by decide)
    have hvc : (v.set Reg.LODE.STAT_STATE 1).freeCtr = v.freeCtr := ((RegsOnly.refl v).set _ _).freeCtr
    have hvk : RegsKept [.lode, .flt] v (v.set Reg.LODE.STAT_STATE 1) := (RegsKept.refl _ v).set _ (by decide)
    refine ⟨(hl.freq.trans hvf) ▸ hfreq, hl'.trans (hvc.trans (hctr.trans (by rw [hwctr]))), hl.ref.trans (hvr.trans (href.trans hw.ref)),
      .inr (hl.state.trans hvs), ?_⟩
    exact fun a ha => (hl.kept a ha).trans ((hvk a ha).trans ((hkept a ha).trans (hw.kept a ha)))

/-! ### Stages and holdover -/

theorem refs_enterLoop (st : Nat) (s : State) : RegsKept [.lode, .flt] s (s.enterLoop st) := regsKept_of_loopMoved ((LoopMoved.refl s).enterLoop st)

theorem load_enterLoop (st : Nat) (s : State) : (s.enterLoop st).load = s.load := by
  obtain ⟨_, _, _, _, he⟩ := ((LoopMoved.refl s).enterLoop st).only
  rw [he]

/-- The dwell of the stage has passed. -/
theorem stageAdvance_passed {s : State} {a : Nat} (ha : s.lode.inside = some a) (hn : a + s.stageDwell s.loopState ≤ s.now) :
    s.stageAdvance = if s.loopState = 1 then s.enterLoop 2 else if s.loopState = 2 then
      (s.enterLoop 3).updLode fun x => { x with lastClass := refClass s.loopRef } else s := by
  unfold stageAdvance
  rw [ha]
  exact if_pos hn

theorem stageAdvance_waits {s : State}
    (h : s.lode.inside.all (fun a => s.now < a + s.stageDwell s.loopState) = true ∨ s.loopState = 0 ∨ 3 ≤ s.loopState) :
    s.stageAdvance = s := by
  unfold stageAdvance
  split
  next a ha =>
    rw [ha, Option.all_some, decide_eq_true_eq] at h
    rcases h with h | h
    · exact if_neg (Nat.not_le.mpr h)
    · split
      · rw [if_neg (by omega), if_neg (by omega)]
      · rfl
  · rfl

theorem holdSecond_waits {s : State} (h : s.loopState ≠ 4 ∨ s.now < s.lode.holdAt + 1000000000 * (s.get Reg.LODE.HOLDSECS + 1)) :
    s.holdSecond = s := by
  unfold holdSecond
  refine if_neg ?_
  rintro ⟨h4, hn⟩
  rcases h with h | h
  · exact h h4
  · omega

/-- A second of holdover counted, with its offset. -/
def heldOn (s : State) : State := (s.bump Reg.LODE.HOLDSECS 1).holdCompute

theorem holdSecond_counts {s : State} (h : s.loopState = 4) (hn : s.lode.holdAt + 1000000000 * (s.get Reg.LODE.HOLDSECS + 1) ≤ s.now) :
    s.holdSecond = if s.heldOn.get Reg.LODE.HOLDCFG_HOLDTIME ≤ s.heldOn.get Reg.LODE.HOLDSECS ∧ !s.heldOn.lode.specRaised then
      ((s.heldOn.updLode fun x => { x with specRaised := true }).set Reg.LODE.STAT_OUTSPEC 1).lodeEvent 8
        [s.heldOn.loopRef]
    else s.heldOn := by
  unfold holdSecond heldOn
  dsimp only
  rw [if_pos ⟨h, hn⟩]

/-- The fields apart from FREQ and TTBAD stand when the offset is computed. -/
theorem get_holdCompute {r : FRef} (s : State) (h1 : r.apart Reg.LODE.STAT_TTBAD = true) (h2 : r.apart Reg.LODE.FREQ = true) :
    s.holdCompute.get r = s.get r := by
  rw [holdCompute, setB, get_set_other _ _ h2 (by decide), get_set_other _ _ h1 (by decide)]

theorem freq_holdCompute (s : State) : (toSigned 32 (s.holdCompute.get Reg.LODE.FREQ)).natAbs ≤ 500000000 := by
  have hget : s.holdCompute.get Reg.LODE.FREQ = ofSigned 32 (clampInt (-500000000) 500000000
      s.holdOffset) := by
    rw [holdCompute, get_set_signed _ (by decide) rfl]
  have hclamp : -500000000 ≤ clampInt (-500000000) 500000000 s.holdOffset ∧ clampInt (-500000000) 500000000 s.holdOffset ≤ 500000000 := by
    unfold clampInt
    omega
  rw [hget]
  generalize clampInt (-500000000) 500000000 s.holdOffset = v at hclamp
  rw [toSigned_ofSigned_word (by omega) (by omega)]
  omega


/-- What a second of holdover shows, before OUTSPEC. -/
theorem heldOn_shows {s : State} {n : Nat} (hn : n = s.get Reg.LODE.HOLDSECS + 1) (hlt : n < 2 ^ 32) :
    s.heldOn.get Reg.LODE.HOLDSECS = n ∧ s.heldOn.get Reg.LODE.STAT_TTBAD = b2n (!ascending s.tempTable) ∧
      (toSigned 32 (s.heldOn.get Reg.LODE.FREQ)).natAbs ≤ 500000000 ∧ s.heldOn.get Reg.LODE.HOLDCFG_HOLDTIME = s.get Reg.LODE.HOLDCFG_HOLDTIME ∧
      s.heldOn.get Reg.LODE.STAT_OUTSPEC = s.get Reg.LODE.STAT_OUTSPEC ∧ s.heldOn.lode = s.lode ∧ RegsKept [.lode, .flt] s s.heldOn := by
  have hsecs : (s.bump Reg.LODE.HOLDSECS 1).get Reg.LODE.HOLDSECS = n := by
    rw [get_bump_same _ _ (by decide), ← hn]
    exact Nat.mod_eq_of_lt hlt
  have hother {r : FRef} (h : r.apart Reg.LODE.HOLDSECS = true) : (s.bump Reg.LODE.HOLDSECS 1).get r = s.get r :=
    get_set_other _ _ h (by decide)
  have htab : (s.bump Reg.LODE.HOLDSECS 1).tempTable = s.tempTable := by
    unfold tempTable tempPoint
    refine List.map_congr_left fun i _ => ?_
    have ha : 0x130000A0 + 0x4 * i ≠ 0x13000090 := by omega
    have hw (r : FRef) (hr : r.addr = 0x130000A0 + 0x4 * i) : (s.bump Reg.LODE.HOLDSECS 1).get r = s.get r :=
      get_of_rd (rd_set_other _ _ (by rw [hr]; exact ha))
    rw [hw _ rfl, hw _ rfl]
  have hlode : (s.bump Reg.LODE.HOLDSECS 1).lode = s.lode := lode_set _ _ _
  have hkept : RegsKept [.lode, .flt] s (s.bump Reg.LODE.HOLDSECS 1) := (RegsKept.refl _ s).bump _ (by decide)
  unfold heldOn
  generalize s.bump Reg.LODE.HOLDSECS 1 = u at hsecs hother htab hlode hkept ⊢
  refine ⟨(get_holdCompute u (by decide) (by decide)).trans hsecs, ?_, freq_holdCompute u,
    (get_holdCompute u (by decide) (by decide)).trans (hother (by decide)), (get_holdCompute u (by decide) (by decide)).trans (hother (by decide)),
    ?_, ?_⟩
  · rw [holdCompute, get_set_other _ _ (by decide) (by decide), get_setB_same _ _ (by decide) (by decide), htab]
  · rw [holdCompute, setB, lode_set, lode_set, hlode]
  · exact (hkept.setB _ (by decide)).set _ (by decide)

/-! ### Writes of the lodestone -/

abbrev loopStepRow : RegDef := ⟨"LOOPSTEP", 0x74, [], [⟨31, 0, .wo, .val 0⟩]⟩
abbrev planeStepRow : RegDef := ⟨"PLANE[p].STEP", 0x204, [(0x10, 16)], [⟨31, 0, .wo, .val 0⟩]⟩
abbrev selRow : RegDef := ⟨"SEL", 0x10, [], [⟨31, 31, .rw, .val 1⟩, ⟨30, 30, .rw, .val 0⟩, ⟨3, 0, .rw, .val 0⟩]⟩
abbrev prioRow : RegDef := ⟨"PRIO", 0x14, [], [⟨31, 0, .rw, .val 0⟩]⟩

theorem domainReg_loopStep : domainReg Reg.LODE.LOOPSTEP.addr lodeBlk loopStepRow 0 = true := by decide +kernel
theorem domainReg_planeStep : ∀ p < 16, domainReg (Reg.LODE.PLANE_STEP p).addr lodeBlk planeStepRow p = true := by decide +kernel
theorem domainReg_sel : domainReg Reg.LODE.SEL_AUTO.addr lodeBlk selRow 0 = true := by decide +kernel
theorem domainReg_prio : domainReg Reg.LODE.PRIO.addr lodeBlk prioRow 0 = true := by decide +kernel

section
variable {m : Nat} {s : State}

theorem exec_loopstepWrite (hq : Quiet m s) (data : Word) : exec (.loopstepWrite m data) s =
    .next (((s.landed m lodeBlk).loopStepLand data).showWpend lodeBlk) :=
  congrArg Host.Outcome.next (writeNow_special hq domainReg_loopStep rfl)

theorem exec_planeStep {p : Nat} (hq : Quiet m s) (hp : p < 16) (data : Word) : exec (.planeStep m p data) s =
    .next (((s.landed m lodeBlk).planeStepLand p data).showWpend lodeBlk) := by
  have hw : s.when (decide (p < 16)) (State.writeNow m (Reg.LODE.PLANE_STEP p).addr data) =
      s.writeNow m (Reg.LODE.PLANE_STEP p).addr data := by rw [decide_eq_true hp, when_true]
  exact congrArg Host.Outcome.next (hw.trans (writeNow_special hq (domainReg_planeStep p hp) rfl))

/-- A write of SEL or PRIO is stored, and the loop takes the reference that the rules select. -/
theorem writeNow_selection {addr : Nat} {r : RegDef} (hq : Quiet m s) (hr : domainReg addr lodeBlk r 0 = true) (ho : r.off = 0x10 ∨ r.off = 0x14)
    (data : Word) : s.writeNow m addr data = (((s.landed m lodeBlk).landStore r addr data).reselect).showWpend lodeBlk := by
  obtain ⟨⟨j, hfind⟩, -⟩ := domainReg_iff.mp hr
  rw [writeNow_land data hq hr, landWrite_none hfind]
  · rcases ho with ho | ho
    · rw [ho]
      rfl
    · rw [ho]
      rfl
  · rcases ho with ho | ho
    · rw [ho]
      rfl
    · rw [ho]
      rfl

end

/-- What the store of a word of SEL or PRIO leaves of a quiet state. -/
structure SelStored (addr : Nat) (w : Word) (s t : State) : Prop where
  word : t.rd addr = w
  other : ∀ {r : FRef}, r.addr ≠ addr → r.apart (lodeBlk).wpend = true → t.get r = s.get r
  lode : t.lode = s.lode
  now : t.now = s.now
  kept : RegsKept [.lode] s t

theorem selStored {m addr : Nat} {r : RegDef} {s : State} (hm : m ≤ 6) (hw : wideAt addr = false) (ha : Outside [.lode] addr = false)
    (h4 : addr ≠ 0x13000004) (data : Word) :
    SelStored addr (BitVec.ofNat 32 (landWord r (s.rd addr).toNat data.toNat)) s ((s.landed m lodeBlk).landStore r addr data) := by
  have hl := landed_is m lodeBlk s hm
  have hrd : (s.landed m lodeBlk).rd addr = s.rd addr := hl.words addr h4
  refine ⟨?_, fun {r'} hr' happ => ?_, ?_, ?_, ?_⟩
  · rw [rd_landStore_same, hrd]
  · exact (get_of_rd (rd_landStore_other r data _ hr')).trans (hl.regs r' happ)
  · unfold landStore
    rw [hw, Bool.false_and, when_false]
    change (s.landed m lodeBlk).lode = s.lode
    rw [hl.rest]
  · unfold landStore
    rw [hw, Bool.false_and, when_false]
    change (s.landed m lodeBlk).now = s.now
    rw [hl.rest]
  · intro a hout
    have hne : a ≠ addr := fun h => by rw [h, ha] at hout; cases hout
    rw [rd_landStore_other r data _ hne]
    exact hl.words a fun h => by rw [h] at hout; exact absurd hout (by decide)


/-- The pulses that a CLKOUT pin drives. -/
theorem clkout_off {s : State} (k : Nat) (h : s.lodeEn = false) : s.clkout k = (0, 0, 0) := by
  unfold clkout
  rw [h]
  rfl

theorem clkout_plane {s : State} {k p : Nat} (he : s.lodeEn = true) (hs : s.use (Reg.LODE.CLKOUT_CFG_SRC k) = 10)
    (hp : s.use (Reg.LODE.CLKOUT_CFG_PLANE k) = p) :
    s.clkout k = (8, p, ((toSigned 32 (s.use (Reg.LODE.CLKOUT_OFS k)) * 6750) % (s.planePeriod3 p * 2250 : Nat)).toNat) := by
  unfold clkout
  rw [he, hs, hp]
  rfl

theorem framePeriod3_pos (rate : Nat) : 0 < framePeriod3 rate := by
  unfold framePeriod3
  split <;> decide

/-- A reference that is gone falls back by the loss of its qualification. -/
theorem refLost_gone {s : State} (h : s.refGone s.loopRef = true) :
    exec .refLost s = .next (s.disqualify s.loopRef) :=
  congrArg Host.Outcome.next (by rw [h, when_true])

theorem regsKept_disqualify (ref : Nat) (s : State) : RegsKept [.lode, .flt] s (s.disqualify ref) :=
  regsKept_of_loopMoved (loopMoved_disqualify (LoopMoved.refl s) ref)

/-- The loop with no reference left, after the one in use was lost. -/
theorem lostAll {s : State} (hen : s.lodeEn = true) (hq : s.refQualified s.loopRef = true) (hprio : s.prioList = [s.loopRef])
    (ha : s.get Reg.LODE.SEL_AUTO = 1) (hqual : s.lode.qual = [(s.loopRef, 0)]) :
    s.disqualify s.loopRef = (s.usedLost s.loopRef).loseAll := by
  have hsel : (s.usedLost s.loopRef).selectedRef = 0 := by
    have hnone (c : Nat) : (s.dropped s.loopRef).refQualified c = false := by
      unfold refQualified dropped
      rw [lode_updLode, hqual]
      unfold Assoc.del
      rw [if_pos rfl]
      rfl
    rw [selectedRef_usedLost, selectedRef_dropped ha rfl, hprio]
    unfold afterIn
    rw [if_pos rfl, List.find?_nil, List.find?_cons_of_neg (by rw [hnone]; exact Bool.false_ne_true)]
    rfl
  have hule : (s.usedLost s.loopRef).lodeEn = true := by
    unfold lodeEn
    rw [(loopMoved_usedLost s.loopRef s).get (by decide) (by decide)]
    exact hen
  rw [disqualify_used hq rfl, reselect_none hule hsel]

theorem state_usedLost (ref : Nat) (s : State) : (s.usedLost ref).loopState = s.loopState := (looped_usedLost ref s).state

theorem avg_usedLost (ref : Nat) (s : State) : (s.usedLost ref).lode.avg = s.lode.avg := by
  rw [lode_usedLost]
  rfl

theorem now_usedLost (ref : Nat) (s : State) : (s.usedLost ref).now = s.now := now_of_loopMoved (loopMoved_usedLost ref s)

/-- The loop with the next reference of PRIO, after the one in use was lost. -/
theorem lostOne {s : State} {n : Nat} (hen : s.lodeEn = true) (hq : s.refQualified s.loopRef = true) (hprio : s.prioList = [s.loopRef, n])
    (hn : n ≠ s.loopRef) (ha : s.get Reg.LODE.SEL_AUTO = 1) (hqual : s.lode.qual = [(s.loopRef, 0), (n, 0)]) :
    s.disqualify s.loopRef = (s.usedLost s.loopRef).switchRef n ∧ n < 16 ∧ n ≠ 0 := by
  obtain ⟨hlt, h0⟩ : n < 16 ∧ n ≠ 0 := mem_prioList (s := s) (by rw [hprio]; simp)
  have hsel : (s.usedLost s.loopRef).selectedRef = n := by
    have hnext : (s.dropped s.loopRef).refQualified n = true := by
      unfold refQualified dropped
      rw [lode_updLode, hqual]
      unfold Assoc.del
      rw [if_pos rfl]
      unfold Assoc.del
      rw [if_neg hn]
      unfold Assoc.find
      rw [if_pos rfl]
      rfl
    rw [selectedRef_usedLost, selectedRef_dropped ha rfl, hprio]
    unfold afterIn
    rw [if_pos rfl, List.find?_cons_of_pos (p := fun c => (s.dropped s.loopRef).refQualified c) hnext]
    rfl
  have hule : (s.usedLost s.loopRef).lodeEn = true := by
    unfold lodeEn
    rw [(loopMoved_usedLost s.loopRef s).get (by decide) (by decide)]
    exact hen
  have href : (s.usedLost s.loopRef).loopRef = s.loopRef := (looped_usedLost s.loopRef s).ref
  refine ⟨?_, hlt, h0⟩
  rw [disqualify_used hq rfl, reselect_other hule (by rw [hsel, href]; exact hn) (by rw [hsel]; exact h0), hsel]

/-- The reference the loop uses after the selection rules were applied. -/
theorem ref_reselect {s : State} (hen : s.lodeEn = true) : s.reselect.get Reg.LODE.STAT_REF = s.selectedRef := by
  by_cases h0 : s.selectedRef = 0
  · rw [reselect_none hen h0, ref_loseAll, h0]
  · by_cases h : s.selectedRef = s.loopRef
    · rw [reselect_same h (h ▸ h0), h]
      rfl
    · rw [reselect_other hen h h0]
      exact (switched_switchRef (selectedRef_lt s)).ref

theorem loopMoved_reselect (s : State) : LoopMoved s s.reselect := (LoopMoved.refl s).reselect

/-- A pending loop step that has moved far enough is done. -/
theorem phstep_done {s : State} {d : Int} (hd : d = toSigned 32 (s.get Reg.LODE.LOOPREM)) (hp : s.get Reg.LODE.STAT_PHSTEPPEND = 1)
    (hfar : d.natAbs * 1000000 ≤ (s.now - s.lode.stepAt) * s.phSlew) :
    s.loopStepMoves = (s.stepMoved.set Reg.LODE.STAT_PHSTEPPEND 0).lodeEvent 9 [s.stepMoved.loopRef] ∧ s.stepMade = d := by
  have hle : d.natAbs ≤ (s.now - s.lode.stepAt) * s.phSlew / 1000000 := (Nat.le_div_iff_mul_le (by decide)).mpr hfar
  have hstep : s.stepFar = d.natAbs := by
    unfold stepFar
    rw [← hd]
    exact Nat.min_eq_left hle
  have hmade : s.stepMade = d := by
    unfold stepMade
    rw [hstep, ← hd]
    split <;> omega
  refine ⟨?_, hmade⟩
  rw [loopStepMoves_moving, if_pos (by rw [hmade, ← hd]; omega)]
  rintro (h | ⟨h1, h2⟩)
  · omega
  · omega

/-- One that has moved part of the way goes on. -/
theorem phstep_part {s : State} {d : Int} {n : Nat} (hd : d = toSigned 32 (s.get Reg.LODE.LOOPREM)) (hp : s.get Reg.LODE.STAT_PHSTEPPEND = 1)
    (hn : n = (s.now - s.lode.stepAt) * s.phSlew / 1000000) (hpos : 0 < n) (hlt : n < d.natAbs) :
    s.loopStepMoves = s.stepMoved ∧ s.stepMade = if 0 ≤ d then (n : Int) else -(n : Int) := by
  have hstep : s.stepFar = n := by
    unfold stepFar
    rw [← hd, ← hn]
    exact Nat.min_eq_right (Nat.le_of_lt hlt)
  have hmade : s.stepMade = if 0 ≤ d then (n : Int) else -(n : Int) := by
    unfold stepMade
    rw [hstep, ← hd]
  refine ⟨?_, hmade⟩
  rw [loopStepMoves_moving, if_neg]
  · rw [hmade, ← hd]
    split <;> omega
  · rintro (h | ⟨h1, h2⟩)
    · omega
    · omega

theorem regsKept_stepMoved (s : State) : RegsKept [.lode] s s.stepMoved := by
  have hlode {t : State} (h : RegsKept [.lode] s t) (f : LodeState → LodeState) : RegsKept [.lode] s (t.updLode f) := h.same rfl
  unfold stepMoved showLoop
  exact (((hlode ((hlode (RegsKept.refl _ s) _).set _ (by decide)) _).set _ (by decide)).set _ (by decide)).set _ (by decide)

theorem toNat_emod (v : Int) : ((v % (2 ^ 64 * 1000)).toNat : Int) = v % (2 ^ 64 * 1000) := Int.toNat_of_nonneg (Int.emod_nonneg _ (by decide))


/-- A stored field of SEL or PRIO. -/
theorem get_selStored {addr data w : Nat} {r : RegDef} {s t : State} {q : FRef} {v : Rst}
    (h : SelStored addr (BitVec.ofNat 32 (landWord r w data)) s t) (hq : q.addr = addr) (hi : q.hi < 32)
    (hp : r.flds.Pairwise fun f g => f.apart g = true) (hf : (⟨q.hi, q.lo, .rw, v⟩ : Fld) ∈ r.flds) (hoff : r.off ≠ 0) :
    t.get q = bits data q.hi q.lo := by
  unfold get
  rw [hq, h.word, BitVec.toNat_ofNat, bits_mod_word hi]
  exact bits_landWord_rw w data hp hf rfl fun h0 => absurd h0 hoff

/-- What the rules of R407 make of a stored word. -/
structure Reselected (s v t : State) : Prop where
  get : ∀ {q : FRef}, q.addr ∉ loopWords → (q.addr < 0x11003000 ∨ 0x11004800 ≤ q.addr) → q.apart (lodeBlk).wpend = true → t.get q = v.get q
  ref : s.lodeEn = true → t.get Reg.LODE.STAT_REF = v.selectedRef
  kept : RegsKept [.lode, .flt] s t
  off : s.lodeEn = false → t.get Reg.LODE.STAT_REF = s.get Reg.LODE.STAT_REF ∧ RegsKept [.lode] s t

theorem reselected {addr : Nat} {w : Word} {s v : State} (h : SelStored addr w s v) (ha : addr ≠ 0x13000000) (h4 : addr ≠ 0x13000004) :
    Reselected s v (v.reselect.showWpend lodeBlk) := by
  have hen : v.lodeEn = s.lodeEn := by
    unfold lodeEn
    rw [h.other (fun hc => ha hc.symm) (by decide)]
  have hm := loopMoved_reselect v
  have hwide : RegsKept [.lode, .flt] s v := h.kept.mono (by decide)
  have hmk := regsKept_of_loopMoved hm
  have hall : RegsKept [.lode, .flt] s v.reselect := fun a hout => (hmk a hout).trans (hwide a hout)
  refine ⟨fun hq hf hw => ?_, fun he => ?_, hall.showWpend (by decide), fun he => ?_⟩
  · rw [get_showWpend_other hw]
    exact hm.get hq hf
  · rw [get_showWpend_other (by decide)]
    exact ref_reselect (hen.trans he)
  · rw [reselect_off (hen.trans he), get_showWpend_other (by decide)]
    exact ⟨h.other (fun hc => h4 hc.symm) (by decide), h.kept.showWpend (by decide)⟩

theorem bits_bit (w i : Nat) : bits w i i < 2 := by
  have hlt := bits_lt w i i
  have hw : i + 1 - i = 1 := by omega
  rw [hw] at hlt
  exact hlt

/-- SEL with the fields of a word. -/
def selSet (data : Nat) (s : State) : State :=
  ((s.set Reg.LODE.SEL_AUTO (bits data 31 31)).set Reg.LODE.SEL_REVERT (bits data 30 30)).set Reg.LODE.SEL_MANREF (bits data 3 0)

theorem get_selSet (data : Nat) (s : State) : (s.selSet data).get Reg.LODE.SEL_AUTO = bits data 31 31 ∧
    (s.selSet data).get Reg.LODE.SEL_REVERT = bits data 30 30 ∧ (s.selSet data).get Reg.LODE.SEL_MANREF = bits data 3 0 := by
  unfold selSet
  refine ⟨?_, ?_, ?_⟩
  · rw [get_set_other _ _ (by decide) (by decide), get_set_other _ _ (by decide) (by decide), get_set_same _ _ (by decide)]
    exact Nat.mod_eq_of_lt (bits_bit _ _)
  · rw [get_set_other _ _ (by decide) (by decide), get_set_same _ _ (by decide)]
    exact Nat.mod_eq_of_lt (bits_bit _ _)
  · rw [get_set_same _ _ (by decide)]
    exact Nat.mod_eq_of_lt (bits_lt _ _ _)

theorem get_selSet_other (data : Nat) (s : State) {q : FRef} (h : q.addr ≠ 0x13000010) : (s.selSet data).get q = s.get q := by
  unfold selSet
  rw [get_of_rd (rd_set_other _ _ h), get_of_rd (rd_set_other _ _ h), get_of_rd (rd_set_other _ _ h)]

theorem lode_selSet (data : Nat) (s : State) : (s.selSet data).lode = s.lode ∧ (s.selSet data).now = s.now := by
  unfold selSet
  exact ⟨((((RegsOnly.refl s).set _ _).set _ _).set _ _).lode, ((((RegsOnly.refl s).set _ _).set _ _).set _ _).now⟩

section
variable {m : Nat} {s : State}

/-- A write of SEL. -/
theorem sel_written (hq : Quiet m s) (data : Word) : ∃ v, exec (.selWrite m false data) s = .next (v.reselect.showWpend lodeBlk) ∧
    Reselected s v (v.reselect.showWpend lodeBlk) ∧ v.get Reg.LODE.SEL_AUTO = bits data.toNat 31 31 ∧
    v.get Reg.LODE.SEL_REVERT = bits data.toNat 30 30 ∧ v.get Reg.LODE.SEL_MANREF = bits data.toNat 3 0 ∧
    v.selectedRef = (s.selSet data.toNat).selectedRef := by
  have hst := selStored (m := m) (r := selRow) (s := s) (addr := Reg.LODE.SEL_AUTO.addr) hq.1 (by decide) (by decide) (by decide) data
  have hexec : exec (.selWrite m false data) s =
      .next (((s.landed m lodeBlk).landStore selRow Reg.LODE.SEL_AUTO.addr data).reselect.showWpend lodeBlk) :=
    congrArg Host.Outcome.next (writeNow_selection hq domainReg_sel (.inl rfl) data)
  generalize (s.landed m lodeBlk).landStore selRow Reg.LODE.SEL_AUTO.addr data = v at hst hexec
  have ha : v.get Reg.LODE.SEL_AUTO = bits data.toNat 31 31 :=
    get_selStored (q := Reg.LODE.SEL_AUTO) (v := .val 1) hst rfl (by decide) (by decide) (by decide) (by decide)
  have hr : v.get Reg.LODE.SEL_REVERT = bits data.toNat 30 30 :=
    get_selStored (q := Reg.LODE.SEL_REVERT) (v := .val 0) hst rfl (by decide) (by decide) (by decide) (by decide)
  have hm : v.get Reg.LODE.SEL_MANREF = bits data.toNat 3 0 :=
    get_selStored (q := Reg.LODE.SEL_MANREF) (v := .val 0) hst rfl (by decide) (by decide) (by decide) (by decide)
  obtain ⟨hsa, hsr, hsm⟩ := get_selSet data.toNat s
  obtain ⟨hlode, hnow⟩ := lode_selSet data.toNat s
  have hother {q : FRef} (hq : q.addr ≠ 0x13000010) (hw : q.apart (lodeBlk).wpend = true) : v.get q = (s.selSet data.toNat).get q :=
    (hst.other hq hw).trans (get_selSet_other _ s hq).symm
  refine ⟨v, hexec, reselected hst (by decide) (by decide), ha, hr, hm, selectedRef_congr (ha.trans hsa.symm) (hm.trans hsm.symm)
    (hr.trans hsr.symm) (hother (by decide) (by decide)) (hother (by decide) (by decide)) (hother (by decide) (by decide)) ?_
    (hst.now.trans hnow.symm)⟩
  rw [hst.lode, hlode]

/-- A write of PRIO. -/
theorem prio_written (hq : Quiet m s) (data : Word) : ∃ v, exec (.selWrite m true data) s = .next (v.reselect.showWpend lodeBlk) ∧
    Reselected s v (v.reselect.showWpend lodeBlk) ∧ v.get Reg.LODE.PRIO = data.toNat ∧
    v.selectedRef = (s.set Reg.LODE.PRIO data.toNat).selectedRef := by
  have hst := selStored (m := m) (r := prioRow) (s := s) (addr := Reg.LODE.PRIO.addr) hq.1 (by decide) (by decide) (by decide) data
  have hexec : exec (.selWrite m true data) s =
      .next (((s.landed m lodeBlk).landStore prioRow Reg.LODE.PRIO.addr data).reselect.showWpend lodeBlk) :=
    congrArg Host.Outcome.next (writeNow_selection hq domainReg_prio (.inr rfl) data)
  generalize (s.landed m lodeBlk).landStore prioRow Reg.LODE.PRIO.addr data = v at hst hexec
  have hp : v.get Reg.LODE.PRIO = data.toNat := by
    rw [get_selStored (q := Reg.LODE.PRIO) (v := .val 0) hst rfl (by decide) (by decide) (by decide) (by decide)]
    have hlt := data.isLt
    unfold bits
    change data.toNat / 2 ^ 0 % 2 ^ 32 = data.toNat
    omega
  have hsp : (s.set Reg.LODE.PRIO data.toNat).get Reg.LODE.PRIO = data.toNat := by
    rw [get_set_same _ _ (by decide)]
    exact Nat.mod_eq_of_lt data.isLt
  have hother {q : FRef} (hq : q.addr ≠ Reg.LODE.PRIO.addr) (hw : q.apart (lodeBlk).wpend = true) :
      v.get q = (s.set Reg.LODE.PRIO data.toNat).get q :=
    (hst.other hq hw).trans (get_of_rd (rd_set_other _ _ hq)).symm
  refine ⟨v, hexec, reselected hst (by decide) (by decide), hp, selectedRef_congr (hother (by decide) (by decide))
    (hother (by decide) (by decide)) (hother (by decide) (by decide)) (hp.trans hsp.symm) (hother (by decide) (by decide))
    (hother (by decide) (by decide)) ?_ hst.now⟩
  rw [hst.lode, lode_set]

end

end State
open State

/-- Settles O38. -/
theorem lodestone : Obligations.Lodestone := by
  unfold Obligations.Lodestone
  refine ⟨?qual, ?noQual, ?disqual, ?noDisqual, ?lost, ?next, ?free, ?held, ?noLoss, ?same, ?other, ?none, ?frame, ?line, ?noPulse, ?steered,
    ?stage, ?noStage, ?second, ?noSecond, ?asked, ?done, ?forth, ?back, ?noStep, ?clk, ?plane, ?noPlane, ?sel, ?prio, ?selOff⟩
  case qual =>
    intro s r hen hripe hq
    have hexec : exec (.refQual r) s = .next (s.qualify r) := congrArg Host.Outcome.next (by rw [hripe, when_true])
    have heq : s.qualify r = ((s.updLode fun x => { x with qual := Assoc.put x.qual r s.now }).lodeEvent 7 [r]).reselect := by
      unfold qualify
      exact if_pos (by rw [hen, hq]; rfl)
    refine ⟨_, hexec, refQualified_qualify r hen, ?_, regsKept_of_loopMoved (loopMoved_qualify (LoopMoved.refl s) r)⟩
    rw [heq]
    exact (LoopTold.refl _).reselect.raised _ (raised_lodeEvent _ _ (by decide))
  case noQual =>
    intro s r h
    refine ⟨_, rfl, ?_⟩
    cases hripe : s.refRipe r
    · rfl
    · have hno : (s.lodeEn && !s.refQualified r) = false := by
        rcases h with h | h | h
        · rw [h, Bool.false_and]
        · rw [h] at hripe
          cases hripe
        · rw [h, Bool.not_true, Bool.and_false]
      change s.qualify r = s
      unfold qualify
      rw [if_neg (by rw [hno]; exact Bool.false_ne_true)]
  case disqual =>
    intro s r hq hgone hr _
    have hexec : exec (.refDisqual r) s = .next (s.disqualify r) :=
      congrArg Host.Outcome.next (by rw [hgone, decide_eq_true hr, Bool.and_self, when_true])
    refine ⟨_, hexec, (disqualify_told r).2, ?_, ?_, ?_, regsKept_disqualify r s⟩
    · rw [disqualify_unused hq hr, lode_lodeEvent]
      exact Assoc.find_put_same _ _ _
    · rw [disqualify_unused hq hr]
      exact ((Looped.refl _).lodeEvent 6 [r] : Looped (s.dropped r) _).ref
    · rw [disqualify_unused hq hr]
      exact raised_lodeEvent _ _ (by decide)
  case noDisqual =>
    intro s r h
    refine ⟨_, rfl, ?_⟩
    rcases h with h | h | h
    · exact when_keeps s id _ _ (disqualify_other h)
    · rw [h, Bool.and_false, when_false]
    · rw [decide_eq_false (not_not.mpr h), Bool.false_and, when_false]
  case lost =>
    intro s r hr hq hgone _
    subst hr
    obtain ⟨h1, h2, h3, h4⟩ := used_lost hq rfl
    exact ⟨_, refLost_gone hgone, h1, h2, h3, h4, regsKept_disqualify _ s⟩
  case next =>
    intro s n hen h0 hq hgone hprio hn ha hqual hlo hhi
    obtain ⟨heq, hlt, hn0⟩ := lostOne hen hq hprio hn ha hqual
    have hstate := state_usedLost s.loopRef s
    have hst : s.loopState = s.get Reg.LODE.STAT_STATE := rfl
    have href : (s.usedLost s.loopRef).loopRef = s.loopRef := (looped_usedLost s.loopRef s).ref
    have hsw := switched_switchRef (s := s.usedLost s.loopRef) hlt
    rw [← heq] at hsw
    refine ⟨_, refLost_gone hgone, hsw.ref, ?_, hsw.raised (by rw [href]; exact h0) (by omega) (by omega)⟩
    have hs := hsw.state
    rw [if_neg (by omega), if_neg (by omega), hstate] at hs
    exact hs
  case free =>
    intro s hen h0 hq hgone hprio ha hqual havg hlo hhi
    have heq := lostAll hen hq hprio ha hqual
    have hstate := state_usedLost s.loopRef s
    have havg' := avg_usedLost s.loopRef s
    have hst : s.loopState = s.get Reg.LODE.STAT_STATE := rfl
    have hrun : ¬((s.usedLost s.loopRef).loopState = 0 ∨ (s.usedLost s.loopRef).loopState = 4) := by omega
    refine ⟨_, refLost_gone hgone, ?_, ?_, ?_, regsKept_disqualify _ s⟩
    · rw [heq, ref_loseAll]
    · have hs := state_loseAll (s.usedLost s.loopRef)
      rw [if_neg hrun, havg', if_neg (by omega)] at hs
      rw [heq]
      exact hs
    · rw [heq, freq_loseAll hrun (by rw [havg']; exact havg)]
  case held =>
    intro s hen h0 hq hgone hprio ha hqual havg hlo hhi
    have heq := lostAll hen hq hprio ha hqual
    have hstate := state_usedLost s.loopRef s
    have havg' := avg_usedLost s.loopRef s
    have hst : s.loopState = s.get Reg.LODE.STAT_STATE := rfl
    have hrun : ¬((s.usedLost s.loopRef).loopState = 0 ∨ (s.usedLost s.loopRef).loopState = 4) := by omega
    have hheld := loseAll_held hrun (by rw [havg']; exact havg)
    obtain ⟨hat, hraised⟩ := held_heldOver (s := (s.usedLost s.loopRef).set Reg.LODE.STAT_REF 0) (by rw [state_set_ref]; omega)
    refine ⟨_, refLost_gone hgone, ?_, ?_, ?_, ?_, regsKept_disqualify _ s⟩
    · rw [heq, ref_loseAll]
    · have hs := state_loseAll (s.usedLost s.loopRef)
      rw [if_neg hrun, havg', if_pos havg] at hs
      rw [heq]
      exact hs
    · rw [heq, hheld, hat]
      exact now_usedLost _ s
    · rw [heq, hheld]
      exact hraised
  case noLoss =>
    intro s h
    refine ⟨_, rfl, ?_⟩
    rcases h with h | h
    · exact when_keeps s id _ _ (disqualify_other h)
    · rw [h, when_false]
  case same =>
    intro s h
    refine ⟨_, rfl, ?_⟩
    rcases h with h | ⟨h, h0⟩
    · exact reselect_off h
    · exact reselect_same h h0
  case other =>
    intro s n hen hn hne h0
    subst hn
    have hsw := switched_switchRef (s := s) (selectedRef_lt s)
    rw [← reselect_other hen hne h0] at hsw
    exact ⟨_, rfl, hsw.ref, hsw.state, hsw.inside, hsw.raised, hsw.l, regsKept_of_loopMoved (loopMoved_reselect s)⟩
  case none =>
    intro s hen h0
    refine ⟨_, rfl, ?_, ?_, regsKept_of_loopMoved (loopMoved_reselect s)⟩
    · rw [reselect_none hen h0, ref_loseAll]
    · rw [reselect_none hen h0, state_loseAll]
  case frame =>
    intro s r ph h2 h8 h
    obtain ⟨hregs, hlode, hseen, -⟩ := pulseIn_is r false ph s
    have hp : s.pulsed r false ph = s.pulseIn r false ph := if_neg (by omega)
    refine ⟨_, congrArg Host.Outcome.next ((phaseCompare_idle (not_steers h)).trans hp), ?_, hseen, hregs, hlode⟩
    exact phase_pulseIn r ph s
  case line =>
    intro s r ph h2 h8 h
    obtain ⟨hregs, hlode, hseen, hphase⟩ := pulseIn_is r true ph s
    have hp : s.pulsed r true ph = s.pulseIn r true ph := if_neg (by omega)
    exact ⟨_, congrArg Host.Outcome.next ((phaseCompare_idle (not_steers h)).trans hp), hphase, hseen, hregs, hlode⟩
  case noPulse =>
    intro s r line ph hr h
    exact ⟨_, rfl, (phaseCompare_idle (not_steers h)).trans (if_pos hr)⟩
  case steered =>
    intro s r line ph hen hr h0 hst
    obtain ⟨x, hx⟩ := regs_pulsed r line ph s
    have hsteer := phaseCompare_steering (line := line) (late := ph) (s := s) (ref := r) ⟨hen, hr, h0, hst⟩
    have hl := looped_decayBuildout (looped_loopStepMoves (s.pulsed r line ph))
    obtain ⟨h1, h2, h3, h4, h5⟩ := steered_is hl
    refine ⟨_, congrArg Host.Outcome.next hsteer, h1, ?_, ?_, ?_, ?_⟩
    · rw [h2, hx]
    · rw [h3, hx, hr]
      rfl
    · rw [hx] at h4 ⊢
      exact h4
    · rw [hx] at h5 ⊢
      exact h5
  case stage =>
    intro s a ha hn hst hload
    have hpassed := stageAdvance_passed ha hn
    rcases hst with hst | hst
    · rw [if_pos hst] at hpassed
      have hne : s.loopState ≠ 2 := by omega
      refine ⟨_, congrArg Host.Outcome.next ((loadResume_off (by rw [hpassed, load_enterLoop]; exact hload)).trans hpassed), ?_,
        inside_enterLoop hne, raised_stage hne rfl, fun h => absurd h hne, refs_enterLoop 2 s⟩
      exact (state_enterLoop s (by decide)).trans (by omega)
    · rw [if_neg (by omega), if_pos hst] at hpassed
      have hne : s.loopState ≠ 3 := by omega
      refine ⟨_, congrArg Host.Outcome.next ((loadResume_off (by rw [hpassed]; exact (congrArg LoadState.on (load_enterLoop 3 s)).trans hload)).trans hpassed), ?_,
        inside_enterLoop hne, raised_stage hne rfl, fun _ => rfl, (refs_enterLoop 3 s).same rfl⟩
      exact (state_enterLoop s (by decide)).trans (by omega)
  case noStage =>
    intro s hload h
    refine ⟨_, rfl, ?_⟩
    rw [stageAdvance_waits h]
    exact loadResume_off hload
  case second =>
    intro s n h4 hn hat hlt
    obtain ⟨h1, h2, h3, htime, hout, hlode, hkept⟩ := heldOn_shows hn hlt
    have heq := holdSecond_counts h4 (by rw [← hn]; exact hat)
    rw [htime, h1, hlode] at heq
    have hiff : (s.get Reg.LODE.HOLDCFG_HOLDTIME ≤ n ∧ (!s.lode.specRaised) = true) ↔
        (s.get Reg.LODE.HOLDCFG_HOLDTIME ≤ n ∧ s.lode.specRaised = false) := by rw [Bool.not_eq_true']
    generalize s.heldOn = u at h1 h2 h3 hout hkept heq
    by_cases hc : s.get Reg.LODE.HOLDCFG_HOLDTIME ≤ n ∧ s.lode.specRaised = false
    · rw [if_pos (hiff.mpr hc)] at heq
      have hget {r : FRef} (hr : r.apart Reg.LODE.STAT_OUTSPEC = true) (he : r.apart Reg.LODE.EVSTAT = true)
          (ha : r.addr < 0x11003000 ∨ 0x11004800 ≤ r.addr) :
          (((u.updLode fun x => { x with specRaised := true }).set Reg.LODE.STAT_OUTSPEC 1).lodeEvent 8 [u.loopRef]).get r = u.get r := by
        rw [get_lodeEvent _ _ _ he ha, get_set_other _ _ hr (by decide), get_updLode]
      refine ⟨_, congrArg Host.Outcome.next heq, (hget (by decide) (by decide) (by decide)).trans h1,
        (hget (by decide) (by decide) (by decide)).trans h2, ?_, ?_, ?_⟩
      · rw [hget (by decide) (by decide) (by decide)]
        exact h3
      · rw [if_pos hc]
        refine ⟨?_, raised_lodeEvent _ _ (by decide)⟩
        rw [get_lodeEvent _ _ _ (by decide) (by decide), get_set_same _ _ (by decide)]
        rfl
      · have hspec : RegsKept [.lode, .flt] s (u.updLode fun x => { x with specRaised := true }) := hkept.same rfl
        exact ((hspec.set _ (by decide)).orBit _ (by decide)).raise _ _ (by decide)
    · rw [if_neg fun h => hc (hiff.mp h)] at heq
      refine ⟨_, congrArg Host.Outcome.next heq, h1, h2, h3, ?_, hkept⟩
      rw [if_neg hc]
      exact hout
  case noSecond =>
    intro s h
    exact ⟨_, rfl, holdSecond_waits h⟩
  case asked =>
    intro s u m data hq hu
    subst hu
    have hl := landed_is m lodeBlk s hq.1
    have hlode : (s.landed m lodeBlk).lode = s.lode := by rw [hl.rest]
    have hnow : (s.landed m lodeBlk).now = s.now := by rw [hl.rest]
    obtain ⟨hrem, hofs, hmoved⟩ := loopStepMoves_congr (hl.regs _ (by decide)) (hl.regs _ (by decide)) (hl.regs _ (by decide))
      (hl.regs _ (by decide)) hnow hlode
    obtain ⟨h1, h2, h3, h4, h5⟩ := loopStepLand_shows data (s.landed m lodeBlk)
    rw [hofs] at h1
    rw [hrem] at h2
    have hkept : RegsKept [.lode, .flt] s (s.landed m lodeBlk) := RegsKept.landed hq.1 (by decide)
    have hall : RegsKept [.lode, .flt] s ((s.landed m lodeBlk).loopStepLand data) := fun a ha => (h5.kept a ha).trans (hkept a ha)
    have hexec := exec_loopstepWrite hq data
    generalize (s.landed m lodeBlk).loopStepLand data = w at h1 h2 h3 h4 h5 hall hexec
    have hwl : (w.showWpend lodeBlk).lode = w.lode := (regsOnly_showWpend lodeBlk (RegsOnly.refl w)).lode
    refine ⟨_, hexec, ?_, ?_, ?_, ?_, ?_, hall.showWpend (by decide)⟩
    · rw [get_showWpend_other (by decide), h1]
    · rw [get_showWpend_other (by decide), h2]
    · rw [get_showWpend_other (by decide), get_showWpend_other (by decide), h3]
    · rw [hwl, h4]
      exact hnow
    · rw [hwl, h4]
      exact hmoved
  case done =>
    intro s d hd hp hfar
    obtain ⟨heq, hmade⟩ := phstep_done hd hp hfar
    have hrem := rem_stepMoved s
    have hl := l_stepMoved s
    rw [hmade, ← hd] at hrem
    rw [hmade] at hl
    have hlode : ((s.stepMoved.set Reg.LODE.STAT_PHSTEPPEND 0).lodeEvent 9 [s.stepMoved.loopRef]).lode = s.stepMoved.lode := by
      rw [lode_lodeEvent, lode_set]
    refine ⟨_, congrArg Host.Outcome.next heq, ?_, ?_, ?_, raised_lodeEvent _ _ (by decide), ?_⟩
    · rw [get_lodeEvent _ _ _ (by decide) (by decide), get_set_other _ _ (by decide) (by decide), hrem]
      have h0 : d - d = 0 := by omega
      rw [h0]
      rfl
    · rw [get_lodeEvent _ _ _ (by decide) (by decide), get_set_same _ _ (by decide)]
      rfl
    · rw [hlode, hl, toNat_emod]
    · have hk := (looped_loopStepMoves s).kept
      rw [heq] at hk
      exact hk
  case forth =>
    intro s d e hd hp he hpos hlt
    obtain ⟨heq, hmade⟩ := phstep_part hd hp (n := ((s.now - s.lode.stepAt) * s.phSlew / 1000000)) rfl (by omega) (by omega)
    rw [if_pos (by omega), ← he] at hmade
    refine ⟨_, congrArg Host.Outcome.next heq, ?_, (pend_stepMoved s).trans hp, ?_, regsKept_stepMoved s⟩
    · rw [rem_stepMoved, hmade, ← hd]
    · rw [l_stepMoved, toNat_emod, hmade]
  case back =>
    intro s d e hd hp he hpos hlt
    obtain ⟨heq, hmade⟩ := phstep_part hd hp (n := ((s.now - s.lode.stepAt) * s.phSlew / 1000000)) rfl (by omega) (by omega)
    rw [if_neg (by omega), ← he] at hmade
    refine ⟨_, congrArg Host.Outcome.next heq, ?_, (pend_stepMoved s).trans hp, ?_, regsKept_stepMoved s⟩
    · rw [rem_stepMoved, hmade, ← hd, Int.sub_neg]
    · rw [l_stepMoved, toNat_emod, hmade]
      rfl
  case noStep =>
    intro s h
    refine ⟨_, rfl, loopStepMoves_idle ?_⟩
    rcases h with h | ⟨h, hfar⟩
    · exact .inl h
    · have hlt : s.get Reg.LODE.LOOPREM < 2 ^ 32 := s.get_lt _
      refine .inr ⟨?_, ?_⟩
      · unfold stepFar
        rw [Nat.div_eq_of_lt hfar]
        exact Nat.min_zero _
      · unfold toSigned
        split <;> omega
  case clk =>
    intro s k
    refine ⟨clkout_off k, fun p he hs hp => ?_⟩
    rw [clkout_plane he hs hp]
    have hpos : 0 < s.planePeriod3 p * 2250 := Nat.mul_pos (framePeriod3_pos _) (by decide)
    exact ⟨rfl, rfl, Int.toNat_of_nonneg (Int.emod_nonneg _ (by omega))⟩
  case plane =>
    intro s m p data hq hp
    have hl := landed_is m lodeBlk s hq.1
    have hlode : (s.landed m lodeBlk).lode = s.lode := by rw [hl.rest]
    have hkept : RegsKept [.lode] s (s.landed m lodeBlk) := RegsKept.landed hq.1 (by decide)
    have hexec := exec_planeStep hq hp data
    generalize s.landed m lodeBlk = w at hlode hkept hexec
    have hwl : ((w.planeStepLand p data).showWpend lodeBlk).lode = (w.planeStepLand p data).lode :=
      (regsOnly_showWpend lodeBlk (RegsOnly.refl _)).lode
    have hplane : RegsKept [.lode] s (w.planeStepLand p data) := hkept.same rfl
    refine ⟨_, hexec, ?_, ?_, hplane.showWpend (by decide)⟩
    · rw [hwl, planeStepLand]
      rw [lode_updLode, hlode]
      exact Assoc.findD_put_same _ _ _ _
    · rw [hwl, planeStepLand]
      rw [lode_updLode, hlode]
  case noPlane =>
    intro s m p data hp
    exact ⟨_, rfl, by rw [decide_eq_false (Nat.not_lt.mpr hp), when_false]⟩
  case sel =>
    intro s m r data hq hen hr
    obtain ⟨v, hexec, hre, ha, hv, hm, hsel⟩ := sel_written hq data
    have hsel' : v.selectedRef = r := by rw [hsel, hr, selSet]
    exact ⟨_, hexec, (hre.get (by decide) (by decide) (by decide)).trans ha, (hre.get (by decide) (by decide) (by decide)).trans hv,
      (hre.get (by decide) (by decide) (by decide)).trans hm, (hre.ref hen).trans hsel', hre.kept⟩
  case prio =>
    intro s m r data hq hen hr
    obtain ⟨v, hexec, hre, hp, hsel⟩ := prio_written hq data
    exact ⟨_, hexec, (hre.get (by decide) (by decide) (by decide)).trans hp, (hre.ref hen).trans (hsel.trans hr.symm), hre.kept⟩
  case selOff =>
    intro s m p data hq hoff
    cases p with
    | false =>
      obtain ⟨v, hexec, hre, ha, hv, hm, -⟩ := sel_written hq data
      obtain ⟨href, hkept⟩ := hre.off hoff
      refine ⟨_, hexec, ?_, href, hkept⟩
      rw [if_neg Bool.false_ne_true]
      exact ⟨(hre.get (by decide) (by decide) (by decide)).trans ha, (hre.get (by decide) (by decide) (by decide)).trans hv,
        (hre.get (by decide) (by decide) (by decide)).trans hm⟩
    | true =>
      obtain ⟨v, hexec, hre, hp, -⟩ := prio_written hq data
      obtain ⟨href, hkept⟩ := hre.off hoff
      refine ⟨_, hexec, ?_, href, hkept⟩
      rw [if_pos rfl]
      exact (hre.get (by decide) (by decide) (by decide)).trans hp

end Sys2Proof.Machine
end

open Sys2Proof Sys2Proof.Machine
section
set_option Elab.async false
/-! SUPPORT. A counterexample to the statement of the media flows. -/

namespace Sys2Proof.Machine

/-- A receive flow without a channel, with one packet to release. -/
def onePacketFlow : RxFlow :=
  ⟨0, [], false, none, false, false, 0, none, [], none, 0, [⟨0, 0, true, none, none, true, false, false, [], none, false, false, 0, 0⟩],
    [], [], [], [], [], [], 0, none, 0, 0⟩

/-- That flow writes ingress entry 0, whose handle is 5. Its next frame start moves the entry to one whose register words, so far
beyond the table, lie at PMEMOCC and PMEMPEAK. -/
def movingFlow : State :=
  let s := ((State.reset.set (Reg.FAB.ISE_HANDLE 0) 5).set (Reg.FAB.ISE_CFG_PATH 0) 6).set Reg.TIME.NOWHI 1
  { s with ipm := { s.ipm with rx := [(0, onePacketFlow)] },
           fab := { s.fab with ing := [(0, ⟨0, false, none, none, 0, false, 0, [], some 0x7FE001, none, true, 0⟩)] } }

/-- Refutes O26 by its third clause: the index of the entry that a stream moves to is not bounded in the state, so that the words
copied there may stand over the occupancy just shown: 5 bytes, above a peak of 0. -/
theorem not_mediaFlows : ¬ Obligations.MediaFlows := by
  unfold Obligations.MediaFlows
  rintro ⟨-, -, hrelease, -⟩
  obtain ⟨t, hexec, -, hpeak⟩ := hrelease movingFlow 0 (movingFlow.flowEntry onePacketFlow) onePacketFlow onePacketFlow.pkts
    ⟨0, 0, true, none, none, true, false, false, [], none, false, false, 0, 0⟩ [] [] (by decide) (by decide +kernel)
    (.inl (by decide)) (by decide +kernel) (by decide) (by decide +kernel) rfl
  have habove : (decide (t.get Reg.IPM.PMEMPEAK < t.get Reg.IPM.PMEMOCC)) = true :=
    After.of_next (p := fun t => decide (t.get Reg.IPM.PMEMPEAK < t.get Reg.IPM.PMEMOCC)) hexec (by decide +kernel)
  exact absurd hpeak (Nat.not_le.mpr (of_decide_eq_true habove))

end Sys2Proof.Machine
end
